-- ==== Sys2Proof/Word.lean ====
section
/-!
DEFINITION. The word types of the hub: a register word is 32 bits (chapter 00, R9), a memory byte is 8 bits.
-/

namespace Sys2Proof

/-- A register word or a word of a frame: 32 bits. -/
abbrev Word := BitVec 32

/-- A byte of a memory: 8 bits. -/
abbrev Byte := BitVec 8

end Sys2Proof
end

