-- ==== Sys2Proof/Syntax.lean ====
section
/-!
DEFINITION. The commands of the hub: one constructor of `Instr` for each row of the command table, with the
operands the row needs.  A row is an event: a frame or a measured value that arrives, a timer that ends, a write by a
ward.  What the event carries (a frame's words, a measured voltage, the ward that writes) is the operand.
-/

namespace Sys2Proof

/-- The tones of the bolt lines (R142). -/
inductive Tone where
  | clear | hold | bolt | silence
  deriving DecidableEq, Repr

/-- What probing a chip select of the NVM reads (R160, R161): bytes 0 to 3 of the SFDP header and the JEDEC ID, the first byte in the lowest
bits; and what the basic flash parameter table says: a ferroelectric memory, the size in 64 KiB units, the typical page program time in µs
with its maximum multiplier, the sector erase time in µs, the read lanes (0 single, 1 dual, 2 quad) and erase suspend. -/
structure NvmProbe where
  sig : BitVec 32
  fram : Bool
  jedec : BitVec 24
  size64 : BitVec 16
  ppUs : BitVec 16
  ppMul : BitVec 8
  eraseUs : BitVec 32
  lanes : Fin 3
  suspend : Bool
  deriving DecidableEq, Repr

/-- A channel, and how long what a row names has lasted there, in the unit of the row. -/
structure ChSpan where
  c : Fin 16
  t : Word
  deriving DecidableEq, Repr

/-- A channel, and its supply VF in the unit of OUT_UV. -/
structure ChSupply where
  c : Fin 16
  vf : BitVec 16
  deriving DecidableEq, Repr

/-- A channel, its supply VF in the unit of OUT_UV, and for how many ms it has stood there. -/
structure ChSupplyBack where
  c : Fin 16
  vf : BitVec 16
  ms : BitVec 16
  deriving DecidableEq, Repr

/-- A channel of a pair, and the currents of the pair's two halves. -/
structure PairCurrents where
  c : Fin 16
  a : BitVec 12
  b : BitVec 12
  deriving DecidableEq, Repr

/-- An input lead: its voltage in 10 mV, signed, and what its comparator reads between the two thresholds. -/
structure LeadLevel where
  v : BitVec 16
  own : Bool
  deriving DecidableEq, Repr

/-- A bolt line: the intervals between its last edges in ns, newest first, and the time since the last edge. -/
structure LineEdges where
  ivs : List (BitVec 16)
  gap : BitVec 16
  deriving DecidableEq, Repr

/-- How a program or an erase ended on device 0, and on device 1. -/
structure NvmEnd where
  good : Bool
  mirrorOk : Bool
  deriving DecidableEq, Repr

/-- VDD and VHOLD in mV. -/
structure Rails where
  vdd : BitVec 16
  vhold : BitVec 16
  deriving DecidableEq, Repr

/-- VF in 10 mV and VHOLD in mV. -/
structure RoundRails where
  vf : BitVec 16
  vhold : BitVec 16
  deriving DecidableEq, Repr

/-- A reading of ADC-A or ADC-B: the quantity and its channel or sensor, and the value. -/
structure Reading where
  adcB : Bool
  src : Fin 8
  index : Fin 16
  value : BitVec 16
  deriving DecidableEq, Repr

/-- A sync pulse that arrives: the fine tick at its rising edge, and for how many ticks the line was high. -/
structure SyncPulse where
  fine : Fin 8
  ticks : BitVec 8
  deriving DecidableEq, Repr

/-- How a frame was clocked: how many SCK clocks it had, and whether CSn fell before the hub could take a frame. -/
structure Clocking where
  sck : BitVec 10
  early : Bool
  deriving DecidableEq, Repr

/-- The commands, in the order of the command table; each constructor's comment is its row. -/
inductive Instr where
  /-- POWER_ON_RESET (R79): VDD becomes valid after a loss of both VDD and VHOLD, and the logic die starts into Boot in the order of the power-up table. -/
  | powerOnReset (band : Fin 3) (vdd : BitVec 16)
  /-- VHOLD_CHARGED (R47): VHOLD comes within 100 mV of VDD, NVM access is allowed and the Blank read begins. -/
  | vholdCharged (vhold : BitVec 16)
  /-- VHOLD_CAP_MEASURE (R90): VHOLD reaches 1.5 V and the charge time from 0.5 V gives cap_meas. -/
  | vholdCapMeasure (us : BitVec 16)
  /-- VHOLD_LOW (R90): VHOLD stays more than 100 mV below VDD for 1 ms in Run, or is not charged 40 ms after the trigger, and VHOLD_LOW is raised. -/
  | vholdLow (vhold : BitVec 16)
  /-- VDD_WARNING_BEGIN (R63): VDD falls below VWARN after the glitch filter, the warning begins and Brown or its restrictions apply. -/
  | vddWarningBegin (vdd : BitVec 16)
  /-- VMIN_SAMPLE (R65): Every 10 µs during a VDD warning, VDD is sampled and the lowest value is kept. -/
  | vminSample (v : Rails)
  /-- VDD_WARNING_END (R63): VDD has stayed above VWARN plus 20 mV for 100 µs, the warning ends, and deferred admissions resume. -/
  | vddWarningEnd (vdd : BitVec 16)
  /-- ORDERLY_POWER_DOWN (R80): VDD falls below VRST and the six-step orderly power-down starts. -/
  | orderlyPowerDown (vdd : BitVec 16)
  /-- POWER_DOWN_STEP (R80): A power-down NVM page completes and the sequence goes on to the next page or step. -/
  | powerDownStep (vhold : BitVec 16)
  /-- VDD_FAILED (R82): VDD falls below 1.40 V during the power-down, the hold-up set runs from VHOLD and the hold-up order applies. -/
  | vddFailed (vhold : BitVec 16)
  /-- VF_LOST_PD (R673): During a power-down the field-to-logic bolt line has been silent for 2 µs or the link is lost, and a VF_LOST_PD pending record is written. -/
  | vfLostPd
  /-- FIELD_POWER_ON_RESET (R68): VF falls below the field power-on reset level and every channel goes off and high-impedance by hardware. -/
  | fieldPowerOnReset
  /-- FIELD_RESET_RELEASE (R79): VF reaches 5.0 V, field power-on reset is released and the field die starts its regulators and oscillators. -/
  | fieldResetRelease
  /-- VF_VALID (R67): VF has stayed at or above 9.0 V for 1 ms and the field die accepts configuration. -/
  | vfValid
  /-- VF_UNDER_VOLTAGE (R66): VF falls below 8.5 V after being valid, VF_UV is raised and an episode is counted. -/
  | vfUnderVoltage
  /-- VF_OVER_VOLTAGE (R66): VF rises above 38.0 V and VF_OV is raised. -/
  | vfOverVoltage
  /-- VREG_FAIL (R70): VREG5 or VREGL is out of range for 10 µs, VREG_FAIL is raised and every channel switches off until field reset. -/
  | vregFail (vregl : Bool)
  /-- DOMAIN_WAKE_REQUEST (R76): An access to a resource in an off domain requests a wake through admission. -/
  | domainWakeRequest (d : Fin 12)
  /-- DOMAIN_WAKE_DONE (R434): A woken domain completes its wake with its fields restored from the shadow and its retention copy. -/
  | domainWakeDone (d : Fin 12) (good : Bool)
  /-- BANK_CLEAR_DONE (R78): The zero-fill of a woken memory domain ends and its banks become usable. -/
  | bankClearDone (m : Fin 2)
  /-- PLL_LOCK (R101): The PLL locks to REFCLK and MCLK switches to it without a glitch. -/
  | pllLock
  /-- PLL_LOCK_TIMEOUT (R101): The PLL has not locked within 200 µs, MCLK stays on HOSC and REFCLK_LOST is raised. -/
  | pllLockTimeout
  /-- REFCLK_LOST (R103): REFCLK has no edge for 0.5 µs or is off frequency, and the PLL enters holdover on HOSC. -/
  | refclkLost
  /-- REFCLK_RETURN (R104): REFCLK has been fit for 10 ms with return allowed, and MCLK returns to it. -/
  | refclkReturn
  /-- RETURN_REF (R104): W0 writes CLK_CTRL.return_ref to request a return to REFCLK. -/
  | returnRef (w : Fin 8) (v : Word)
  /-- MCLK_WINDOW_END (R105): At the end of each SOSC-A window DA judges the MCLK count and raises MCLK_FAIL beyond 3.5 %. -/
  | mclkWindowEnd (count : BitVec 16) (hosc : BitVec 16)
  /-- CLOCK_HALT_EXIT (R17): MCLK has been within ±5 % for 10 ms and the hub boots from clock Halt. -/
  | clockHaltExit
  /-- FCLK_WINDOW_END (R107): At the end of each SOSC-B window DB judges the FCLK count and on failure raises FCLK_FAIL and forces safe states. -/
  | fclkWindowEnd (count : BitVec 16)
  /-- TIMEBASE_WRAP (R111): The low 48 timebase bits wrap and every ward's wrapped flag is set. -/
  | timebaseWrap
  /-- CLK_TB_LO_READ (R110): A ward reads CLK_TB_LO, which latches the upper timebase bits into its CLK_TB_HI. -/
  | clkTbLoRead (w : Fin 8)
  /-- TIME_S (R114): Every 10 µs the logic die sends a short time message and the field follower compares, slews or steps. -/
  | timeS (lane : Fin 2) (high : Byte) (low : Word)
  /-- TIME_L (R114): Every 1 ms the logic die sends a long time message carrying timebase bits [63:40]. -/
  | timeL (lane : Fin 2) (high : BitVec 24)
  /-- FOLLOWER_TIMEOUT (R115): 50 µs pass without a valid time message, the follower loses lock and FOLLOW_LOST is raised. -/
  | followerTimeout
  /-- HINGE_FRAME_RECEIVE (R130): A Hinge frame arrives on a lane and is checked, counted as an error or passed on by type. -/
  | hingeFrameReceive (lane : Fin 4) (frame : BitVec 64) (codeOk : Bool) (controlOk : Bool) (stamp : Word) (late : Bool)
  /-- IDLE_FRAME (R130): A lane with no other frame for 2 µs sends an IDLE frame. -/
  | idleFrame (lane : Fin 4)
  /-- LANE_TRAINING (R135): A lane trains by symbol lock and 16 echo exchanges after a die leaves reset or a retry. -/
  | laneTraining (lane : Fin 4) (delay : BitVec 16)
  /-- LANE_DOWN (R136): A lane has 8 errors in 64 frames or 50 µs without a valid frame and is declared down. -/
  | laneDown (lane : Fin 4)
  /-- LANE_RETRY (R135): Every 10 ms the hub retries training of down lanes. -/
  | laneRetry
  /-- RETRAIN (R158): W0 writes HNG_CTRL.retrain to retrain every down lane now. -/
  | retrain (w : Fin 8) (v : Word)
  /-- HINGE_LOST (R137): A die declares the link lost and each die takes its link-loss actions, FHOLD timers included. -/
  | hingeLost (field : Bool)
  /-- REJOIN (R140): The link is established again and the dies rejoin by the matching or reconfiguration path. -/
  | rejoin
  /-- FIELD_START (R726): An unconfigured field die met in Boot or Arming is started with the configuration instead of rejoined. -/
  | fieldStart
  /-- OUT_CMD (R132): The field die receives an OUT_CMD frame and applies a newer generation subject to the bolt latch. -/
  | outCmd (g : Fin 2) (gen : BitVec 8) (cmds : Word)
  /-- OUT_CMD_REPEAT (R132): Every 100 µs the logic die repeats the latest OUT_CMD generation of each group. -/
  | outCmdRepeat
  /-- OUT_STAT (R132): The logic die receives an OUT_STAT frame with each channel's state and the applied generation. -/
  | outStat (g : Fin 2) (gen : BitVec 8) (states : Word)
  /-- FSUM (R545): Every 100 µs the field die sends FSUM, and unreported sticky flags count as occurrences. -/
  | fsum (sticky : BitVec 40)
  /-- FAULT (R545): The logic die receives a FAULT frame reporting a field position, channels and live flag. -/
  | fault (p : Fin 40) (chs : BitVec 16) (live : Bool) (detail : BitVec 15)
  /-- REQ (R148): The field die receives a register request and answers it with an RSP within 2 µs. -/
  | req (tag : Fin 16)
  /-- RSP (R148): The logic die receives the response to an outstanding REQ tag. -/
  | rsp (tag : Fin 16)
  /-- REQ_RETRY (R148): An RSP has not arrived within 4 µs, the REQ is resent, or HINGE_TXN is raised when retries run out. -/
  | reqRetry (tag : Fin 16)
  /-- BOLT_REL (R144): The field die receives BOLT_REL and clears or holds the bolt latch release. -/
  | boltRel
  /-- BOLT_REL_EXPIRE (R144): A held BOLT_REL is discarded after 50 µs. -/
  | boltRelExpire
  /-- BOLT_REL_REPEAT (R144): Every 100 µs the logic die repeats BOLT_REL until the field latch reads clear. -/
  | boltRelRepeat
  /-- VEC (R296): The field die receives a VEC frame and applies its pattern at the named cycle start. -/
  | vec (t : Fin 8) (late : Bool) (payload : BitVec 40)
  /-- VEC_REPEAT (R296): At each following cycle start the field die repeats the tumbler's latest vector. -/
  | vecRepeat (t : Fin 8) (off : Word)
  /-- MARGIN_MEASURE (R150): Once per second each receiver measures its lane margin and MARGIN_LOW is judged. -/
  | marginMeasure (lane : Fin 4) (m : Fin 65)
  /-- BOLT_DECISION (R143): The field die decides CLEAR, HOLD or BOLT on the logic-to-field bolt line and acts on channels and FHOLD timers. -/
  | boltDecision (e : LineEdges)
  /-- BOLT_CODE (R143): No valid bolt decision forms within 2 µs, BOLT is taken and BOLT_CODE raised. -/
  | boltCode (field : Bool)
  /-- BOLT_LATCH_CLEAR (R144): CLEAR has been decided for 10 µs with BOLT_REL held, and the field bolt latch clears. -/
  | boltLatchClear
  /-- BOLT_TONE_CHANGE (R145): DA changes its bolt tone at its next edge as the device state requires. -/
  | boltToneChange
  /-- FIELD_TONE_DECISION (R146): DA decides the field-to-logic tone and raises BOLT_FIELD or marks the field die unconfigured. -/
  | fieldToneDecision (e : LineEdges)
  /-- FHOLD_EXPIRY (R218): A channel's field hold timer ends and the channel goes to its safe state. -/
  | fholdExpiry (x : ChSpan)
  /-- FIELD_CONFIG_CRC (R191): Every 1 ms the field die recomputes its configuration CRC for DA to compare. -/
  | fieldConfigCrc (upset : Option (BitVec 24 × Word))
  /-- BOOT (R176): The hub probes the NVM, judges the candidate slots and boots the first valid one or enters Recovery. -/
  | boot (probe0 : NvmProbe) (probe1 : NvmProbe) (lostHeader : List (Fin 4)) (lostRead : List (Fin 4))
  /-- ARMING (R178): The chosen slot's sections are applied in order, the shadow built and the field configuration sent. -/
  | arming
  /-- STARTUP_TESTS (R518): Once the field die confirms its configuration, Deadbolt runs its start-up tests. -/
  | startupTests (passed : BitVec 14) (time : BitVec 11) (proofs : List (Fin 16 × Fin 16 × Word))
  /-- ENTER_RUN (R17): Arming completes, BOLT_REL is sent, outputs take their initial commands and auto-start tumblers are submitted. -/
  | enterRun
  /-- RCV_ERASE (R182): Recovery command 0x1 erases a 4 KiB sector. -/
  | rcvErase (w : Fin 8) (v : Word)
  /-- RCV_PROGRAM (R182): Recovery command 0x2 programs the page buffer. -/
  | rcvProgram (w : Fin 8) (v : Word)
  /-- RCV_READ (R182): Recovery command 0x3 reads a page into the buffer. -/
  | rcvRead (w : Fin 8) (v : Word)
  /-- RCV_REBOOT (R182): Recovery command 0x4 reboots with the scope of a device soft reset. -/
  | rcvReboot (w : Fin 8) (v : Word)
  /-- RCV_COMMAND_DONE (R182): A recovery program, erase or read ends and its result is reported. -/
  | rcvCommandDone (e : NvmEnd)
  /-- BLK_CHECK (R188): W0 sets BLK_CTRL.check and the inactive slot is judged. -/
  | blkCheck (w : Fin 8) (v : Word)
  /-- BLK_CHECK_DONE (R188): The slot check ends and its outcome is reported in BLK_CHECK. -/
  | blkCheckDone (readOk : Bool)
  /-- BLK_REBOOT (R189): W0 writes the reboot key and the hub resets after any running NVM program. -/
  | blkReboot (w : Fin 8) (v : Word)
  /-- BLK_FUSE (R185): W0 writes the fuse key and the verifying key hash is fused. -/
  | blkFuse (w : Fin 8) (v : Word)
  /-- FUSE_DONE (R185): Fuse programming ends and the read-back result is reported in BLK_OTP. -/
  | fuseDone (good : Bool)
  /-- SHADOW_CHECK (R191): DA compares live fields and group CRCs with the shadow and raises CFG_SHADOW or CFG_SHADOW_S. -/
  | shadowCheck (upset : Option (BitVec 24 × Word)) (inShadow : Bool) (full : Bool) (interval : BitVec 16)
  /-- THERMAL_HALT (R672): A die sensor reading reaches the Halt threshold and the hub enters thermal Halt. -/
  | thermalHalt (sensor : Fin 8) (t : BitVec 16)
  /-- FIELD_GLOBAL_SHUTDOWN (R672): A field sensor reads 165 °C or more and DB switches every channel off. -/
  | fieldGlobalShutdown (sensor : Fin 6) (t : BitVec 16)
  /-- THERMAL_HALT_EXIT (R18): Both dies have cooled below their restart levels and the hub warm-boots. -/
  | thermalHaltExit (logic : BitVec 16) (field : BitVec 16)
  /-- DBT_SAFE_EXIT (R516): W0 writes the exit key while exit_ready is 1 and DA starts releasing Safe. -/
  | dbtSafeExit (w : Fin 8) (v : Word)
  /-- SAFE_LEAVE (R516): 12 µs after the exit write the hub leaves Safe for the state R17 and R19 give. -/
  | safeLeave
  /-- OUT_CTRL_WRITE (R205): The owning ward writes OUT_CTRL.on, clearing safe_hold where allowed and queuing or applying the command. -/
  | outCtrlWrite (w : Fin 8) (c : Fin 16) (v : Word)
  /-- REARM (R212): A write of OUT_CTRL.rearm clears a latched thermal shutdown. -/
  | rearm (w : Fin 8) (c : Fin 16) (v : Word)
  /-- THERMAL_SHUTDOWN (R212): A channel junction reaches 175 °C and the switch turns off and latches or waits to retry. -/
  | thermalShutdown (c : Fin 16)
  /-- RETRY_EXPIRY (R212): The retry interval after shutdown passes and a retry is submitted for admission. -/
  | retryExpiry (x : ChSpan)
  /-- LIMIT_BEGIN (R211): The switch current reaches ILIM and the switch regulates at ILIM. -/
  | limitBegin (c : Fin 16) (v : BitVec 16)
  /-- LIMIT_EPISODE (R211): A limiting episode has lasted 1 ms and OUT_LIMIT is raised. -/
  | limitEpisode (c : Fin 16)
  /-- UV_OFF (R215): VF falls below UVTH and an auto-restart channel turns off with OUT_UV raised. -/
  | uvOff (x : ChSupply)
  /-- UV_RESTART (R215): VF has stayed above UVTH plus hysteresis for the restart delay and the channel's return is submitted. -/
  | uvRestart (x : ChSupplyBack)
  /-- OFF_STATE_CHECK (R221): The off-state open-load check interval passes and a 200 µs pull-up check starts. -/
  | offStateCheck (x : ChSpan)
  /-- OFF_STATE_CHECK_END (R221): The check window ends and the pin is compared with 2.0 V. -/
  | offStateCheckEnd (c : Fin 16) (v : BitVec 16)
  /-- LIT_CHECK (R223): An admitted LED lit check switches the channel on for 100 µs. -/
  | litCheck (c : Fin 16)
  /-- LIT_CHECK_END (R223): The lit check ends with a fine-range current measurement and the channel off again. -/
  | litCheckEnd (c : Fin 16) (fine : BitVec 12)
  /-- READBACK (R225): ADC-A measures an output's pin voltage and current and a level check draws its conclusion. -/
  | readback (c : Fin 16) (v : BitVec 16) (normal : BitVec 12) (fine : BitVec 12)
  /-- DARK_PULSE (R232): A tumbler pin bit requests a test pulse that inverts the channel's state. -/
  | darkPulse (c : Fin 16)
  /-- PULSE_END (R233): A dark or bright pulse ends by its bit or its limit and passes or fails. -/
  | pulseEnd (x : ChSpan) (v : BitVec 16) (cur : BitVec 12)
  /-- TP_MISS (R234): A dark-pulse supervision interval passes without a passing pulse. -/
  | tpMiss (x : ChSpan)
  /-- PWM_EDGE_CHECK (R235): 40 µs after a commanded PWM edge the pin level is checked. -/
  | pwmEdgeCheck (c : Fin 16) (v : BitVec 16)
  /-- PAIR_MISMATCH (R209): A pair's half currents have differed beyond 30 % for 10 ms and OUT_PAIR is raised. -/
  | pairMismatch (x : PairCurrents)
  /-- OUT_RT_WRITE (R231): The owning ward writes OUT_RT on page 4 and the trim is sent to the field die. -/
  | outRtWrite (w : Fin 8) (c : Fin 16) (v : Word)
  /-- OUT_FLT_CLEAR (R227): A W1C write to OUT_FLT clears bits whose condition is absent and counts refusals. -/
  | outFltClear (w : Fin 8) (c : Fin 16) (v : Word)
  /-- INPUT_CROSSING (R247): The raw comparator output differs from the debounced state and a candidate edge starts with its stamp. -/
  | inputCrossing (c : Fin 16) (l : LeadLevel)
  /-- DEBOUNCE_ACCEPT (R247): The raw level has held for T and the edge is accepted into the FIFO. -/
  | debounceAccept (x : ChSpan)
  /-- IN_TS_LO_READ (R251): The owning ward reads IN_TS_LO, removing the oldest entry and latching IN_TS_HI. -/
  | inTsLoRead (w : Fin 8) (c : Fin 16)
  /-- INPUT_MEASURE (R255): ADC-A measures an input's pin voltage and current for IN_MEAS. -/
  | inputMeasure (c : Fin 16) (v : BitVec 16) (cur : BitVec 12)
  /-- WIRE_BREAK (R253): Input current stays below the threshold for IN_WB.ms and wire_break is set. -/
  | wireBreak (x : ChSpan)
  /-- TP_WINDOW_END (R258): The check window ends, the check passes or sets tp_fail, and a deferred candidate is resolved. -/
  | tpWindowEnd (x : ChSpan)
  /-- TP_LATE (R259): A supervision interval passes without a passing check and tp_late is set. -/
  | tpLate (x : ChSpan)
  /-- FOREIGN_WINDOW_END (R265): The foreign window ends, xshort having been set on any OFF reading. -/
  | foreignWindowEnd (x : ChSpan)
  /-- IN_FLT_CLEAR (R263): A W1C write to IN_FLT clears bits whose condition is absent. -/
  | inFltClear (w : Fin 8) (c : Fin 16) (v : Word)
  /-- ISSUE_POINT (R284): At a vector boundary the tumbler fetches and executes instructions until one takes a cycle. -/
  | issuePoint (t : Fin 8)
  /-- STOP (R283): The STOP instruction ends execution, holding or releasing the pattern. -/
  | stop (t : Fin 8)
  /-- VEC_INSTRUCTION (R284): A VEC instruction occupies its count of cycles with its pattern and markers. -/
  | vecInstruction (t : Fin 8)
  /-- LOOP (R286): LOOP pushes its count and address on the loop stack. -/
  | loop (t : Fin 8)
  /-- ENDL (R286): ENDL decrements the top count and loops or pops. -/
  | endl (t : Fin 8)
  /-- JMP (R283): JMP continues at its target. -/
  | jmp (t : Fin 8)
  /-- BRC (R287): BRC evaluates a condition and branches. -/
  | brc (t : Fin 8)
  /-- WAIT (R287): WAIT evaluates its condition at each vector boundary and ends when it holds. -/
  | wait (t : Fin 8)
  /-- WAIT_TIMEOUT (R287): A WAIT's timeout count is reached and execution continues at the next word. -/
  | waitTimeout (t : Fin 8)
  /-- CALL (R286): CALL pushes the return address and continues at its target. -/
  | call (t : Fin 8)
  /-- RET (R286): RET pops the call stack and continues there. -/
  | ret (t : Fin 8)
  /-- TSET (R290): TSET replaces the current timing set at the next cycle start. -/
  | tset (t : Fin 8)
  /-- MARCH (R307): A MARCH element runs its operations over a whole owned bank and forms the signature. -/
  | march (t : Fin 8)
  /-- SIG (R283): SIG stores its code and optionally writes a Note record and raises the ward's interrupt. -/
  | sig (t : Fin 8)
  /-- CYCLE_START (R291): A tumbler cycle starts and pins take their pattern and edges. -/
  | cycleStart (t : Fin 8)
  /-- TMB_START (R292): The owning ward writes TMB_CTRL.start and the tumbler turns pending for admission. -/
  | tmbStart (w : Fin 8) (t : Fin 8) (v : Word)
  /-- TMB_STOP (R293): The owning ward writes TMB_CTRL.stop, taken at the next vector boundary. -/
  | tmbStop (w : Fin 8) (t : Fin 8) (v : Word)
  /-- TMB_JUMP (R293): The owning ward writes TMB_CTRL.jump, taken at the next vector boundary. -/
  | tmbJump (w : Fin 8) (t : Fin 8) (v : Word)
  /-- HEAVY_VECTOR_STALL (R295): A heavy vector is not admitted by its issue point and the tumbler stalls for a cycle. -/
  | heavyVectorStall (t : Fin 8)
  /-- DEADLINE_MISS (R301): A supervised marker has not risen within its limit and TMB_DEADLINE is raised. -/
  | deadlineMiss (t : Fin 8)
  /-- COMPARE_SLOT_EVAL (R302): A compare slot is re-evaluated at each new measurement of its source. -/
  | compareSlotEval (j : Fin 16) (r : Reading)
  /-- TMB_CMP_THR_WRITE (R303): The slot's owning ward writes a new threshold, effective at the next measurement. -/
  | tmbCmpThrWrite (w : Fin 8) (j : Fin 16) (v : Word)
  /-- DP_WRITE_LOW (R280): A write to a DP word's low half is staged for the writing ward. -/
  | dpWriteLow (w : Fin 8) (d : Fin 2) (n : Fin 1024) (v : Word)
  /-- DP_WRITE_HIGH (R280): A write to a DP word's high half commits both halves in one access. -/
  | dpWriteHigh (w : Fin 8) (d : Fin 2) (n : Fin 1024) (v : Word)
  /-- DP_READ_LOW (R280): A read of a DP word's low half latches the high half for the reading ward. -/
  | dpReadLow (w : Fin 8) (d : Fin 2) (n : Fin 1024)
  /-- SYNC_PULSE_SEND (R325): The head sends a sync pulse at each multiple of the sync period. -/
  | syncPulseSend
  /-- SYNC_PULSE_RECEIVE (R326): A member recognises a sync pulse and regenerates it 1,000 ns later. -/
  | syncPulseReceive (x : SyncPulse)
  /-- LSY_FRAME_RECEIVE (R324): A Luanen frame arrives and is checked, queued for forwarding or discarded. -/
  | lsyFrameReceive (up : Bool) (start : List Bool) (line : List Bool)
  /-- TIME_LO (R327): A member receives TIME_LO carrying head timebase bits [31:0]. -/
  | timeLo (v : Word)
  /-- TIME_HI (R327): A member receives TIME_HI carrying head timebase bits [63:32]. -/
  | timeHi (v : Word)
  /-- ENUM (R328): A member receives ENUM, takes its position and forwards ENUM. -/
  | enumMsg (v : Word)
  /-- CAL_START (R330): A hub receives CAL_START and measures its downstream hop over four periods. -/
  | calStart (v : Word)
  /-- CAL_ECHO (R330): In a return window the upstream hub sends an echo pulse and times its return. -/
  | calEcho (missing : Bool) (rt : BitVec 16)
  /-- CAL_DELAY (R331): A hub receives CAL_DELAY and applies the chain delay at the next pulse. -/
  | calDelay (v : Word)
  /-- MARK (R335): A hub receives a MARK frame and fires matching mark-kind events. -/
  | mark (v : Word)
  /-- HB (R343): A pair hub receives its partner's HB and checks it. -/
  | hb (up : Bool) (v : Word)
  /-- PAIR_HB_TIMEOUT (R343): No valid HB in three periods and the pair channel opens with detail 1. -/
  | pairHbTimeout
  /-- PAIR_CLOSE (R342): The downstream pair hub receives PAIR_CLOSE naming the close instant T. -/
  | pairClose (v : Word)
  /-- PAIR_TURN_ON (R342): At T the pair channel switches on, or at T − 2 µs an unadmitted turn-on is abandoned. -/
  | pairTurnOn
  /-- PRESENT (R327): A hub receives PRESENT in return slot 1. -/
  | present (v : Word)
  /-- BREAK (R337): A hub receives BREAK and relays it or records the position at the head. -/
  | breakMsg (v : Word)
  /-- RECAL_REQ (R329): The head receives RECAL_REQ and starts a calibration. -/
  | recalReq (v : Word)
  /-- USER (R336): A hub receives a USER message and delivers it to its FIFO or forwards it. -/
  | user (up : Bool) (v : Word)
  /-- UPSTREAM_LOST (R337): Three periods pass without a pulse and the member loses its upstream side. -/
  | upstreamLost
  /-- DOWNSTREAM_LOST (R337): Three periods pass without PRESENT and the hub loses its downstream side. -/
  | downstreamLost
  /-- CHAIN_RESUMED (R337): Pulses are seen again in three periods and the member resumes forwarding. -/
  | chainResumed
  /-- RECAL (R329): W0 writes LSY_CTRL.recal to request a recalibration. -/
  | recal (w : Fin 8) (v : Word)
  /-- RECAL_INTERVAL (R329): The recalibration interval or temperature step is reached and a calibration is triggered. -/
  | recalInterval
  /-- LUANEN_EVENT (R335): A sync-kind event fires and sets the event latch of every tumbler. -/
  | luanenEvent (k : Fin 8)
  /-- LSY_RX_READ (R350): The receiving ward reads LSY_RX and removes the oldest message. -/
  | lsyRxRead (w : Fin 8)
  /-- WRITE_FRAME (R363): A write frame ends at CSn rising, is checked and takes effect or becomes the pending outcome. -/
  | writeFrame (p : Fin 3) (header : Word) (data : List Word) (crc : Byte) (k : Clocking)
  /-- READ_FRAME (R363): A read frame's header is checked and its words are read as shifted out, or a pending outcome is returned. -/
  | readFrame (p : Fin 3) (header : Word) (crc : Byte) (k : Clocking)
  /-- DOORBELL (R384): A doorbell frame sets a ward's submission tail. -/
  | doorbell (p : Fin 3) (header : Word) (v : Word) (crc : Byte) (k : Clocking)
  /-- WRD_EXP_OPEN (R372): A ward writes its WRD_EXP_OPEN with the key to open or close expert pages. -/
  | wrdExpOpen (w : Fin 8) (v : Word)
  /-- DESCRIPTOR_ACCEPT (R388): A descriptor is copied into a pool slot when the ward may take one, and its tag is written back. -/
  | descriptorAccept (w : Fin 8)
  /-- DISPATCH (R404): The dispatcher chooses the next ready operation by class, token and weight. -/
  | dispatch
  /-- NOP (R387): NOP retires with no effect. -/
  | nop (slot : Fin 16384)
  /-- REGW (R394): REGW writes its records, stopping at the first failing one. -/
  | regw (slot : Fin 16384)
  /-- REGR (R387): REGR reads its addresses into the result words. -/
  | regr (slot : Fin 16384)
  /-- BANK_COPY (R395): BANK_COPY copies words between owned banks. -/
  | bankCopy (slot : Fin 16384)
  /-- BANK_FILL (R387): BANK_FILL fills words of an owned bank with a value. -/
  | bankFill (slot : Fin 16384)
  /-- ATOM_ADD (R460): ATOM add adds the operand to a word indivisibly and returns the old value. -/
  | atomAdd (slot : Fin 16384)
  /-- ATOM_SWAP (R460): ATOM swap writes the operand to a word indivisibly and returns the old value. -/
  | atomSwap (slot : Fin 16384)
  /-- TMB_OP_START (R396): A TMB operation starts a tumbler under R292. -/
  | tmbOpStart (slot : Fin 16384)
  /-- TMB_OP_STOP (R396): A TMB operation stops a tumbler under R293. -/
  | tmbOpStop (slot : Fin 16384)
  /-- TMB_OP_JUMP (R396): A TMB operation redirects a tumbler under R293. -/
  | tmbOpJump (slot : Fin 16384)
  /-- MEAS (R397): MEAS takes one conversion round of the selected quantities and writes the results. -/
  | meas (slot : Fin 16384) (conv : List Word)
  /-- DIAG (R225): DIAG runs one check or measurement on a channel and returns its conclusion. -/
  | diag (slot : Fin 16384) (v : BitVec 16) (normal : BitVec 12) (fine : BitVec 12)
  /-- NVM_READ (R398): An NVM read moves data from the NVM into a bank. -/
  | nvmRead (slot : Fin 16384)
  /-- NVM_PROGRAM (R398): An NVM program writes up to 64 words within one page. -/
  | nvmProgram (slot : Fin 16384)
  /-- NVM_ERASE (R398): An NVM erase erases one 4 KiB sector. -/
  | nvmErase (slot : Fin 16384)
  /-- NVM_OPERATION_DONE (R398): The NVM finishes an operation or times out and the operation retires. -/
  | nvmOperationDone (res : Fin 3) (mirrorOk : Bool)
  /-- TIMED (R399): A TIMED operation is admitted and waits for its target. -/
  | timed (slot : Fin 16384)
  /-- TIMED_RELEASE (R399): The target approaches and the TIMED records are released and applied. -/
  | timedRelease (slot : Fin 16384)
  /-- LSY (R400): An LSY operation queues a USER frame for the line. -/
  | lsy (slot : Fin 16384)
  /-- COMPLETION (R390): An operation retires when its completion entry is written into the completion ring. -/
  | completion (slot : Fin 16384)
  /-- OPS_CANCEL (R401): A ward writes a tag to OPS_CANCEL and a not-yet-executing operation is cancelled. -/
  | opsCancel (w : Fin 8) (v : Word)
  /-- OPS_CQ_IDX_WRITE (R383): A ward writes its completion head to consume entries. -/
  | opsCqIdxWrite (w : Fin 8) (v : Word)
  /-- TOKEN_REFILL (R405): Each millisecond a ward's Urgent bucket gains its rate of tokens. -/
  | tokenRefill (w : Fin 8)
  /-- OPS_QOS_RT_WRITE (R411): A ward with page 6 open writes its run-time weight and cap. -/
  | opsQosRtWrite (w : Fin 8) (v : Word)
  /-- INT_EVENT (R421): An interrupt source event sets INT_STAT and may release the ward's request to its pin. -/
  | intEvent (w : Fin 8) (bit : Fin 32)
  /-- MODERATION_EXPIRY (R421): The moderation interval ends and a held event is released. -/
  | moderationExpiry (w : Fin 8)
  /-- INT_PULSE_END (R423): A pulse-mode pin's pulse width ends. -/
  | intPulseEnd (p : Fin 4)
  /-- INT_STAT_CLEAR (R420): A ward clears INT_STAT bits by W1C write. -/
  | intStatClear (w : Fin 8) (v : Word)
  /-- INT_EN_WRITE (R420): A ward writes INT_EN, and an enabled set bit makes an event. -/
  | intEnWrite (w : Fin 8) (v : Word)
  /-- INT_SET (R437): A ward writes INT_SET.sw to set its software source. -/
  | intSet (w : Fin 8) (v : Word)
  /-- INT_MOD_WRITE (R438): A ward with page 6 open writes its moderation trim. -/
  | intModWrite (w : Fin 8) (v : Word)
  /-- RSTN_LOW (R427): RSTn is held low past its filter and the logic die resets. -/
  | rstnLow (shifting : Bool)
  /-- RSTN_RELEASE (R427): RSTn returns high and the hub enters Boot. -/
  | rstnRelease
  /-- RST_DEV (R429): W0 writes RST_DEV with its key and a device soft reset is ordered. -/
  | rstDev (w : Fin 8) (v : Word)
  /-- DEVICE_SOFT_RESET (R428): Once any running NVM program ends, the device soft reset resets the logic die. -/
  | deviceSoftReset
  /-- RST_WARD (R430): A ward reset is requested by writing RST_WARD with its key. -/
  | rstWard (w : Fin 8) (v : Word)
  /-- WARD_RESET_DONE (R431): The ward reset's executing operations and bank clearing end and the ward becomes Active. -/
  | wardResetDone (w : Fin 8)
  /-- RST_FIELD (R433): W0 writes RST_FIELD and every channel is sent to its safe state. -/
  | rstField (w : Fin 8) (v : Word)
  /-- FIELD_RESET_REQUEST (R433): Every channel reports at_safe or 1 ms passes, and the field reset request is sent. -/
  | fieldResetRequest
  /-- FIELD_RESET_TIMEOUT (R433): The link is not established within 5 ms of the request and HINGE_LOST is raised. -/
  | fieldResetTimeout
  /-- BNK_OWNER_WRITE (R453): A ward with authority writes BNK_OWNER to request a handover. -/
  | bnkOwnerWrite (w : Fin 8) (b : Fin 48) (v : Word)
  /-- DRAIN_COMPLETE (R455): The last outstanding access to a bank ends and the handover proceeds. -/
  | drainComplete (b : Fin 48)
  /-- HANDOVER_SCRUB_DONE (R455): The handover scrub ends and the owner changes. -/
  | handoverScrubDone (b : Fin 48)
  /-- BNK_HANDED_CLEAR (R456): The ward with authority clears BNK_STAT.handed. -/
  | bnkHandedClear (w : Fin 8) (b : Fin 48) (v : Word)
  /-- RETAIN_WRITE (R457): The owning ward writes BNK_CTRL.retain. -/
  | retainWrite (w : Fin 8) (b : Fin 48) (v : Word)
  /-- BIT_SET (R459): A write to the bit-set alias sets bits of a word in one access. -/
  | bitSet (w : Fin 8) (b : Fin 48) (word : Fin 4096) (v : Word)
  /-- BIT_CLEAR (R459): A write to the bit-clear alias clears bits of a word in one access. -/
  | bitClear (w : Fin 8) (b : Fin 48) (word : Fin 4096) (v : Word)
  /-- ECC_UNCORRECTABLE (R461): An access finds an uncorrectable ECC error and BNK_UE is raised. -/
  | eccUncorrectable (b : Fin 50) (word : Fin 4096) (v : Word)
  /-- ECC_CORRECTED (R461): An access corrects a single-bit error and BNK_CE is raised. -/
  | eccCorrected (b : Fin 50) (word : Fin 4096)
  /-- SCRUB_READ (R463): A scrub unit reads the next word of its group. -/
  | scrubRead (b : Fin 50) (word : Fin 4096) (us : Option (BitVec 16))
  /-- THERMAL_MODEL_UPDATE (R473): Every 100 µs the field die updates the thermal model from ADC-A. -/
  | thermalModelUpdate (v : List (BitVec 16)) (cur : List (BitVec 12)) (own : BitVec 16) (rails : RoundRails) (temps : List (BitVec 16))
  /-- SCHEDULER_DECISION (R727): Every 100 µs the scheduler makes soft cuts, sheds, judges candidates and switches domains. -/
  | schedulerDecision
  /-- THERM_WARN (R495): A die crosses the warning temperature and THERM_WARN is raised. -/
  | thermWarn (sensor : Fin 8) (t : BitVec 16)
  /-- ERASE_DAY_BOUNDARY (R485): Each 86,400 s of timebase a new day of journal erases begins. -/
  | eraseDayBoundary
  /-- SCH_RT_WRITE (R497): A ward with page 3 open writes its scheduler trims. -/
  | schRtWrite (w : Fin 8) (v : Word)
  /-- HEARTBEAT_SEND (R508): Every 20 µs each Deadbolt half sends a heartbeat. -/
  | heartbeatSend (field : Bool)
  /-- HB_RECEIVE (R509): A half receives a HB_DA or HB_DB frame and judges it valid. -/
  | hbReceive (field : Bool) (payload : BitVec 40) (stamp : Word)
  /-- HEARTBEAT_LOSS (R509): No valid heartbeat arrives for hb_us − 40 µs and DBT_HB is raised. -/
  | heartbeatLoss (field : Bool)
  /-- SOSC_B_LOSS (R507): The clock-loss monitor sees no SOSC-B edge and drives every channel to its safe state. -/
  | soscBLoss
  /-- ADC_COMPARISON (R511): DB compares an ADC-B measurement with ADC-A and orders a re-measurement beyond tolerance. -/
  | adcComparison (q : Fin 64) (kind : Fin 4) (a : Word) (b : Word)
  /-- ADC_CONFIRM (R511): The re-measurement confirms a difference and ADC_DIS is raised. -/
  | adcConfirm (q : Fin 64) (kind : Fin 4) (a : Word) (b : Word)
  /-- TEMP_COMPARISON (R511): A sensor pair has disagreed for a whole window and TSENS_DIS is raised. -/
  | tempComparison (sensor : Fin 7) (a : BitVec 16) (b : BitVec 16)
  /-- PROOF_START (R521): A proof is due and its half applies the force and starts a timer. -/
  | proofStart
  /-- PROOF_DETECT (R521): The forced instance detects, the force is released and the proof passes or fails. -/
  | proofDetect (ticks : Word)
  /-- PROOF_TIMEOUT (R521): No detection by twice the budget and PROOF_FAIL is raised. -/
  | proofTimeout
  /-- RECHECK_END (R528): The re-check window ends and a still-present condition is raised with its full reaction. -/
  | recheckEnd (present : Bool)
  /-- PROOF_OVERDUE (R522): An instance reaches 24 h of active time unproved and PROOF_FAIL is raised. -/
  | proofOverdue (mech : Fin 16) (inst : Fin 16)
  /-- REPROOF (R517): Once a second in Safe each failed instance is proved again. -/
  | reproof
  /-- PROOF_NOW (R523): W0 writes DBT_PROOF_CTRL with now to prove an instance next. -/
  | proofNow (w : Fin 8) (v : Word)
  /-- PROOF_PAUSE (R523): W0 writes DBT_PROOF_CTRL with pause_min to pause the rotation. -/
  | proofPause (w : Fin 8) (v : Word)
  /-- PROOF_RESUME (R523): W0 writes DBT_PROOF_CTRL with pause_min 0 to resume the rotation. -/
  | proofResume (w : Fin 8) (v : Word)
  /-- PAUSE_EXPIRY (R523): A rotation pause ends after its minutes. -/
  | pauseExpiry
  /-- FAULT_OCCURRENCE (R538): A fault source occurs, its mask and status are set, its reaction taken and a record written. -/
  | faultOccurrence (n : Fin 62) (res : Fin 17) (ward : Fin 8) (detail : Word)
  /-- FAULT_CAUSE_END (R539): A fault's cause ends and its live bit falls. -/
  | faultCauseEnd (n : Fin 62) (res : Fin 17)
  /-- FAULT_CLEAR (R542): A W1C write to FLT_STATUS clears accepted faults and counts refusals. -/
  | faultClear (w : Fin 8) (word : Fin 2) (v : Word)
  /-- FLT_FORCE (R546): W0 with page 0 open writes a force bit, making a source's cause present or absent. -/
  | fltForce (word : Fin 2) (v : Word)
  /-- FLT_SELF (R553): The collector's store copies disagree and the agreeing copy carries on while the hub enters Safe. -/
  | fltSelf (field : Bool) (second : Bool)
  /-- WDG_KICK (R559): A ward writes WDG_KICK and the service is accepted or judged a violation. -/
  | wdgKick (w : Fin 8) (k : Fin 9) (v : Word)
  /-- WARD_WATCHDOG_EXPIRY (R562): A ward watchdog expires, is counted, may pulse WDO and resets the ward. -/
  | wardWatchdogExpiry (w : Fin 8)
  /-- DWD_EXPIRY (R565): The device watchdog expires, is recorded and a device soft reset follows. -/
  | dwdExpiry
  /-- WDO_PULSE_END (R568): The WDO pulse width ends and WDO returns to inactive or high-impedance. -/
  | wdoPulseEnd
  /-- BST_LOGIC (R586): W0 orders kind 1, a run-time logic LBIST, and the hub enters Test. -/
  | bstLogic (w : Fin 8) (v : Word)
  /-- BST_FIELD (R590): W0 orders kind 2, a run-time field LBIST, and the hub enters Test. -/
  | bstField (w : Fin 8) (v : Word)
  /-- BST_LOGIC_THEN_FIELD (R584): W0 orders kind 3, a logic then field LBIST. -/
  | bstLogicThenField (w : Fin 8) (v : Word)
  /-- GROUP_TEST_DONE (R588): A logic group's patterns end, its signature is taken and its state restored and checked. -/
  | groupTestDone (sig : Word) (selfOk : Bool) (badCopies : Fin 3)
  /-- LOGIC_LBIST_END (R586): All logic groups are tested, signatures compared and the hub leaves Test. -/
  | logicLbistEnd
  /-- FIELD_LBIST_END (R590): The field groups are tested, the field configuration resent and the hub leaves Test. -/
  | fieldLbistEnd (sigs : List Word) (selfOk : Bool) (confirmed : Bool)
  /-- TEST_ABORT (R589): A device Safe fault ends the test at once and the group under test is restored. -/
  | testAbort (n : Fin 62) (detail : Word)
  /-- BOOT_LBIST (R594): At the end of Arming a boot logic and field LBIST runs. -/
  | bootLbist (sigs : List Word) (selfOk : Bool) (time : BitVec 16)
  /-- BOOT_MEM_TEST (R595): After the device section a six-element march runs over B00 to B47. -/
  | bootMemTest (bad : List (Fin 48 × Fin 4096))
  /-- BST_XCTRL_WRITE (R599): W0 with page 2 open selects the groups of the next test. -/
  | bstXctrlWrite (w : Fin 8) (v : Word)
  /-- RECORD_INTAKE (R609): An event reaches the intake FIFO, takes a sequence number and is kept or dropped by severity. -/
  | recordIntake (typ : Byte) (source : Byte) (sev : Fin 5) (ward : Byte) (payload : List Word)
  /-- RECORD_WRITE_START (R609): Every 4 µs the writer starts a ring record from the FIFO. -/
  | recordWriteStart
  /-- RING_WRITE (R614): A record's word 7 is written into an empty or replaced ring slot. -/
  | ringWrite
  /-- GAP_RECORD (R612): With drops pending and the FIFO at 16 or fewer, a Gap record enters the FIFO. -/
  | gapRecord
  /-- PAGE_SUBMIT (R621): A staging page is full or its wait expires and it is submitted for programming. -/
  | pageSubmit
  /-- PAGE_PROGRAM_DONE (R622): A journal page program ends and is read back and compared. -/
  | pageProgramDone (res : Fin 3) (mirrorOk : Bool)
  /-- SECTOR_RECLAIM (R623): The write point enters a new sector and the next sector is copied forward and erased. -/
  | sectorReclaim
  /-- JOURNAL_ERASE_DONE (R625): A journal sector erase ends and paused journalling resumes. -/
  | journalEraseDone (res : Fin 3) (mirrorOk : Bool)
  /-- JOURNAL_SCAN (R626): After boot the whole journal is scanned for its write point. -/
  | journalScan (ok : Bool)
  /-- REC_RD_SQB_HI_READ (R617): Reading REC_RD_SQB_HI advances the ward's read slot. -/
  | recRdSqbHiRead (w : Fin 8)
  /-- NEWEST_SEQ_READ (R648): Reading REC_NEWEST_SEQ_LO latches the upper bits for the ward. -/
  | newestSeqRead (w : Fin 8)
  /-- JOURNAL_PAGE_READ (R627): A permitted ward writes REC_JRD_CTRL.go to read a journal page. -/
  | journalPageRead (w : Fin 8) (v : Word)
  /-- JOURNAL_READ_DONE (R627): The journal page is in REC_JRD_BUF and busy clears. -/
  | journalReadDone (ok : Bool)
  /-- NONCE_READ (R635): W0 reads REC_CLEAR_NONCE_LO, renewing the nonce and latching S. -/
  | nonceRead (w : Fin 8)
  /-- NONCE_EXPIRY (R635): The nonce becomes invalid after 10 minutes. -/
  | nonceExpiry
  /-- TOKEN_CHECK (R635): W0 writes REC_CLEAR_TOKEN3 and the token is checked. -/
  | tokenCheck (w : Fin 8) (v : Word)
  /-- CLEAR (R636): A matching token erases records up to S and writes the Clear record. -/
  | clear
  /-- KEY_PROGRAM (R633): W0 writes REC_KEY_CTRL with its key and an OTP key slot is programmed. -/
  | keyProgram (w : Fin 8) (v : Word)
  /-- KEY_PROGRAM_DONE (R633): OTP key programming ends and the slot state is set. -/
  | keyProgramDone (good : Bool)
  /-- PENDING_RECORD (R630): A Halt or power-down event writes a pending record into the retained block. -/
  | pendingRecord (k : Fin 4) (w3 : Word) (w4 : Word) (w5 : Word)
  /-- REC_RT_WRITE (R632): A ward with page 5 open writes its journalling trims. -/
  | recRtWrite (w : Fin 8) (v : Word)
  /-- POWER_ON_SECOND (R649): Each second out of Off the power-on counter advances and month ends are judged. -/
  | powerOnSecond (barrierMs : Fin 1001)
  /-- FIELD_SNAPSHOT (R653): Every 1 s the logic die reads the field accumulators as its snapshot. -/
  | fieldSnapshot
  /-- MIRROR_START (R657): A mirror trigger starts a new ledger image. -/
  | mirrorStart
  /-- MIRROR (R657): W0 writes LIFE_CTRL.mirror to start a mirror. -/
  | mirror (w : Fin 8) (v : Word)
  /-- MIRROR_DONE (R658): The ledger image is programmed and read back, and becomes the base. -/
  | mirrorDone (res : Fin 3) (mirrorOk : Bool)
  /-- REBASE (R658): The logic die sends the field die a rebase, repeated until acknowledged. -/
  | rebase
  /-- LEDGER_RESTORE (R660): At boot the ledger is rebuilt from retained block, images and the field die. -/
  | ledgerRestore
  /-- LIFE_WINDOW_READ (R665): Reading LIFE_CH_CYC_LO latches the selected channel's totals into the window. -/
  | lifeWindowRead (w : Fin 8)
  /-- VDD_VALID (R81): VDD becomes valid again after a supply reset while the AON supply has lasted, and the hub leaves Off for Boot with the retained block intact. -/
  | vddValid (vdd : BitVec 16)
  /-- HOLD_UP_END_VOLTAGE (R95): VHOLD falls to VHEND during a power-down, the NVM write in progress is cut off and no further NVM access starts. -/
  | holdUpEndVoltage
  /-- RETENTION_FLOOR (R87): The AON supply falls below 1.20 V and the retained block copies are lost. -/
  | retentionFloor
  /-- TEST_PIN_CHANGE (R58): TESTEN or FTEST changes while the die concerned is past reset and PIN_TEST is raised. -/
  | testPinChange (field : Bool) (level : Bool)
  /-- NVM_CUTOFF (R638): 5 ms after entry to thermal Halt, or at 160 °C, a page program still running is abandoned and the pending record updated. -/
  | nvmCutoff (shifting : Bool)
  /-- LANE_NOT_IN_SERVICE (R135): A lane not in service 1 ms after the other lane of its direction entered service is declared down. -/
  | laneNotInService (lane : Fin 4)
  /-- LIMIT_END (R211): The load current falls below ILIM and a limiting episode ends, letting a pending ilim_rt trim take effect. -/
  | limitEnd (c : Fin 16)
  /-- RESTART_THRESHOLD (R212): A shut-down channel's junction falls below 160 °C and it may turn on again, a waiting retry going to admission. -/
  | restartThreshold (c : Fin 16)
  /-- BOLT_REL_SEND (R516): 10 µs after DA changes its tone to CLEAR on leaving Safe, it sends BOLT_REL. -/
  | boltRelSend
  deriving DecidableEq, Repr

end Sys2Proof
end

