-- ==== Sys2Proof/Decode.lean ====
section
/-!
DEFINITION. Reading a command from a word by the bits of spec/opcode_table.json. No row of the table gives bits, so no word
spells a command.
-/

namespace Sys2Proof

/-- The command that a word of `nbits` bits spells by the table's bits: none, as no row gives bits. -/
def decodeTableWord (nbits w : Nat) : Option Instr :=
  match nbits, w with
  | _, _ => none

end Sys2Proof
end

