-- ==== Sys2Proof/Config.lean ====
section
/-!
DEFINITION. What the spec fixes for every part as a figure, and the free values: opaque constants with no body, applied to
plain data of the state, for each value the spec leaves open.
-/

namespace Sys2Proof

/-- A free value: nothing in the spec fixes it.  It is read with the running number `State.hub.free`, which each use
advances.  See the assumption log, entry 4. -/
opaque Config.freeValue : Nat → Nat

/-- Timebase ticks of 10 ns in one microsecond (R5). -/
def Config.ticksPerUs : Nat := 100

/-- Timebase ticks of 10 ns in one millisecond (R5). -/
def Config.ticksPerMs : Nat := 100000

/-- Timebase ticks of 10 ns in one second (R5). -/
def Config.ticksPerS : Nat := 100000000

end Sys2Proof
end

