-- ==== Sys2Proof/Machine/Bits.lean ====
section
/-!
DEFINITION. Bit fields, saturating counters and signed fields over natural numbers: the helpers that every block uses to
read and write the fields of a word.
-/

namespace Sys2Proof.Machine

/-- The `w` bits of `v` from bit `lo` up. -/
def bitsOf (v lo w : Nat) : Nat := (v >>> lo) % 2 ^ w

/-- Bit `i` of `v`. -/
def bitOf (v i : Nat) : Bool := v.testBit i

/-- A truth value as a one-bit field. -/
def b2n (b : Bool) : Nat := if b then 1 else 0

/-- `v` with bit `i` set. -/
def setBit (v i : Nat) : Nat := v ||| (1 <<< i)

/-- `v` with bit `i` cleared. -/
def clrBit (v i : Nat) : Nat := if v.testBit i then v - (1 <<< i) else v

/-- `v` with bit `i` equal to `b`. -/
def putBit (v i : Nat) (b : Bool) : Nat := if b then setBit v i else clrBit v i

/-- `v` with every bit of `m` cleared. -/
def clrMask (v m : Nat) : Nat := v - (v &&& m)

/-- The numbers of the set bits of `v` below `n`, lowest first. -/
def bitList (n v : Nat) : List Nat := (List.range n).filter (fun i => v.testBit i)

/-- A count raised by one that stays at its largest value (R6's saturating counters). -/
def satInc (max v : Nat) : Nat := if v < max then v + 1 else max

/-- A count raised by `k` that stays at its largest value. -/
def satAdd (max v k : Nat) : Nat := min max (v + k)

/-- The signed value of a `w`-bit field. -/
def toSigned (w v : Nat) : Int := if v < 2 ^ (w - 1) then (v : Int) else (v : Int) - (2 ^ w : Nat)

/-- The `w`-bit field that holds a signed value, wrapped modulo 2^w. -/
def ofSigned (w : Nat) (i : Int) : Nat := (i % ((2 ^ w : Nat) : Int)).toNat

/-- The number of set bits of `v` below bit `n`. -/
def popCount (n v : Nat) : Nat := (bitList n v).length

end Sys2Proof.Machine
end

