-- ==== Sys2Proof/Machine/Regs.lean ====
section
/-!
DEFINITION. What a register field is (R6, R7, R8), and the default reaction classes of the fault sources (R535).
The register file of the state holds one entry for each field whose value differs from its reset value.

What the spec leaves open here: DESIGN CHOICE, log entry 7.
-/

namespace Sys2Proof.Machine

/-- The access types of R6. -/
inductive Acc where
  | ro | rw | w1c | w1s | wk | rc
  deriving DecidableEq, Repr

/-- The Blank column of R8. -/
inductive BlankUse where
  | yes | patch | no
  deriving DecidableEq, Repr

/-- A register field: its byte address, the distance and number of its copies, lowest bit, width, access type, reset value,
Blank column, and whether each ward has a copy of its own at one address. -/
structure Fld where
  base : Nat
  stride : Nat
  count : Nat
  lsb : Nat
  width : Nat
  acc : Acc
  reset : Nat
  blank : BlankUse
  perWard : Bool
  deriving DecidableEq, Repr

/-- The key of a field's entry in the register file: address, lowest bit and ward in one number. -/
def fldKey (f : Fld) (i w : Nat) : Nat :=
  ((f.base + f.stride * i) * 32 + f.lsb) * 8 + (if f.perWard then w % 8 else 0)

/-- The address that a register-file key belongs to. -/
def keyAddr (k : Nat) : Nat := k / 256

/-- The default reaction classes of R535, source 0 first: 0 record only, 1 interrupt, 2 ERR, 3 *Degraded*,
4 ward *Held*, 5 device *Safe* (R536). -/
def defaultClasses : List Nat :=
  [2, 0, 2, 5, 2, 0, 2, 2, 5, 5, 2, 2, 1, 0, 2, 2, 5, 5, 2, 1, 2, 1, 2, 0, 1, 2, 5, 2, 0, 1, 2, 2,
   0, 2, 2, 0, 1, 2, 1, 0, 1, 2, 0, 2, 1, 5, 5, 5, 2, 5, 1, 1, 2, 2, 2, 1, 2, 1, 1, 1, 2, 5]

/-- The default class of source `k`. -/
def defaultClass (k : Nat) : Nat := defaultClasses.getD k 0

end Sys2Proof.Machine
end

