-- ==== Sys2Proof/Machine/RegsField.lean ====
section
/-!
DEFINITION. The stored register fields of the OUT_, IN_, TMB_ and LSY_ blocks, one constant each, from the register tables
of the spec: address, distance between the copies, number of copies, lowest bit, width, access, reset value, Blank column.
-/

namespace Sys2Proof.Machine

/-- OUT_CFG.heavy: 1: turn-ons staggered under R203 -/
def OUT_CFG_heavy : Fld := ⟨0x8000, 0x100, 16, 15, 1, .ro, 0, .yes, false⟩

/-- OUT_CFG.shed_class: Shed class 0 to 3, as used in "The Budget Scheduler: Heat and Energy Decide What Runs Next" -/
def OUT_CFG_shed_class : Fld := ⟨0x8000, 0x100, 16, 13, 2, .ro, 0, .yes, false⟩

/-- OUT_CFG.supply: 0 hold, 1 auto-restart -/
def OUT_CFG_supply : Fld := ⟨0x8000, 0x100, 16, 12, 1, .ro, 0, .yes, false⟩

/-- OUT_CFG.src: 0 registers; 1 to 8 T0 to T7; range under R201 -/
def OUT_CFG_src : Fld := ⟨0x8000, 0x100, 16, 8, 4, .ro, 0, .yes, false⟩

/-- OUT_CFG.safety: 1: safety channel -/
def OUT_CFG_safety : Fld := ⟨0x8000, 0x100, 16, 5, 1, .ro, 0, .yes, false⟩

/-- OUT_CFG.safe_on: Safe state: 0 OFF, 1 ON -/
def OUT_CFG_safe_on : Fld := ⟨0x8000, 0x100, 16, 4, 1, .ro, 0, .yes, false⟩

/-- OUT_CFG.mode: Channel mode 0 to 8; 7 only under R208 -/
def OUT_CFG_mode : Fld := ⟨0x8000, 0x100, 16, 0, 4, .ro, 0, .yes, false⟩

/-- OUT_FHOLD.ms: FHOLD under R218; at most 65,534 on a safety channel -/
def OUT_FHOLD_ms : Fld := ⟨0x8004, 0x100, 16, 0, 16, .ro, 0, .yes, false⟩

/-- OUT_LIM.soft_tl: 1: soft thermal limit under R230 -/
def OUT_LIM_soft_tl : Fld := ⟨0x8008, 0x100, 16, 20, 1, .ro, 0, .patch, false⟩

/-- OUT_LIM.retry_max: Consecutive shutdowns before latching; 0 unlimited -/
def OUT_LIM_retry_max : Fld := ⟨0x8008, 0x100, 16, 16, 4, .ro, 0, .patch, false⟩

/-- OUT_LIM.retry: 0 latch; 1 to 255: retry interval in 10 ms units -/
def OUT_LIM_retry : Fld := ⟨0x8008, 0x100, 16, 8, 8, .ro, 0, .yes, false⟩

/-- OUT_LIM.preset: ILIM preset under R210 -/
def OUT_LIM_preset : Fld := ⟨0x8008, 0x100, 16, 5, 2, .ro, 0, .yes, false⟩

/-- OUT_LIM.ilim_fine: 0 preset; 1 to 24: ILIM in 0.1 A units -/
def OUT_LIM_ilim_fine : Fld := ⟨0x8008, 0x100, 16, 0, 5, .ro, 0, .patch, false⟩

/-- OUT_UV.delay: Restart delay, 1 ms to 255 ms -/
def OUT_UV_delay : Fld := ⟨0x800C, 0x100, 16, 16, 8, .ro, 10, .yes, false⟩

/-- OUT_UV.hyst: Hysteresis 0.5 V × (hyst + 1) -/
def OUT_UV_hyst : Fld := ⟨0x800C, 0x100, 16, 8, 3, .ro, 3, .yes, false⟩

/-- OUT_UV.uvth: UVTH 8.0 V + 0.5 V × uvth, 0 to 44 -/
def OUT_UV_uvth : Fld := ⟨0x800C, 0x100, 16, 0, 6, .ro, 20, .yes, false⟩

/-- OUT_DIAG.ol_period: Off-state check interval, 1 to 255 in 10 ms units -/
def OUT_DIAG_ol_period : Fld := ⟨0x8010, 0x100, 16, 16, 8, .ro, 10, .yes, false⟩

/-- OUT_DIAG.ol_off_en: 1: off-state open-load checks run -/
def OUT_DIAG_ol_off_en : Fld := ⟨0x8010, 0x100, 16, 12, 1, .ro, 1, .yes, false⟩

/-- OUT_DIAG.ol_on: On-state open-load threshold in 10 mA units; 0 off -/
def OUT_DIAG_ol_on : Fld := ⟨0x8010, 0x100, 16, 8, 4, .ro, 2, .yes, false⟩

/-- OUT_DIAG.led_ol: LED threshold 0.25 mA × (led_ol + 1) -/
def OUT_DIAG_led_ol : Fld := ⟨0x8010, 0x100, 16, 0, 6, .ro, 3, .yes, false⟩

/-- OUT_TP.period: Dark-pulse supervision interval, 1 to 250 in 2 ms units -/
def OUT_TP_period : Fld := ⟨0x8014, 0x100, 16, 24, 8, .ro, 250, .patch, false⟩

/-- OUT_TP.bright_max: Bright pulse limit, 1 to 20 in 10 µs units -/
def OUT_TP_bright_max : Fld := ⟨0x8014, 0x100, 16, 16, 5, .ro, 20, .patch, false⟩

/-- OUT_TP.dark_max: Dark pulse limit, 1 to 40 in 10 µs units -/
def OUT_TP_dark_max : Fld := ⟨0x8014, 0x100, 16, 8, 6, .ro, 40, .patch, false⟩

/-- OUT_TP.tmb: Pulse tumbler T0 to T7 -/
def OUT_TP_tmb : Fld := ⟨0x8014, 0x100, 16, 2, 3, .ro, 0, .patch, false⟩

/-- OUT_TP.bright_en: 1: bright pulses -/
def OUT_TP_bright_en : Fld := ⟨0x8014, 0x100, 16, 1, 1, .ro, 0, .patch, false⟩

/-- OUT_TP.dark_en: 1: dark pulses and supervision -/
def OUT_TP_dark_en : Fld := ⟨0x8014, 0x100, 16, 0, 1, .ro, 0, .patch, false⟩

/-- OUT_RT.ilim_rt: Page 4: ILIM in 0.1 A units under R231; 0 the Blank's -/
def OUT_RT_ilim_rt : Fld := ⟨0x8018, 0x100, 16, 24, 5, .rw, 0, .no, false⟩

/-- OUT_RT.ol_period_rt: Page 4: off-state or lit check interval in 10 ms units under R231; 0 the Blank's -/
def OUT_RT_ol_period_rt : Fld := ⟨0x8018, 0x100, 16, 0, 8, .rw, 0, .no, false⟩

/-- OUT_CTRL.rearm: Clears a latched shutdown; reads 0 -/
def OUT_CTRL_rearm : Fld := ⟨0x8020, 0x100, 16, 1, 1, .w1s, 0, .no, false⟩

/-- OUT_CTRL.on: Command or gate under R202; a write also clears safe_hold under R205 -/
def OUT_CTRL_on : Fld := ⟨0x8020, 0x100, 16, 0, 1, .rw, 0, .yes, false⟩

/-- OUT_STAT.stale: 1 while the link is lost; other bits frozen -/
def OUT_STAT_stale : Fld := ⟨0x8024, 0x100, 16, 12, 1, .ro, 0, .no, false⟩

/-- OUT_STAT.soft_cut: Last shutdown was a soft cut -/
def OUT_STAT_soft_cut : Fld := ⟨0x8024, 0x100, 16, 11, 1, .ro, 0, .no, false⟩

/-- OUT_STAT.shed: 1 while shed by the scheduler -/
def OUT_STAT_shed : Fld := ⟨0x8024, 0x100, 16, 10, 1, .ro, 0, .no, false⟩

/-- OUT_STAT.pending: Change awaiting admission -/
def OUT_STAT_pending : Fld := ⟨0x8024, 0x100, 16, 9, 1, .ro, 0, .no, false⟩

/-- OUT_STAT.safe_hold: Held at safe state under R205 -/
def OUT_STAT_safe_hold : Fld := ⟨0x8024, 0x100, 16, 8, 1, .ro, 0, .no, false⟩

/-- OUT_STAT.uv_off: Off by auto-restart supply mode -/
def OUT_STAT_uv_off : Fld := ⟨0x8024, 0x100, 16, 7, 1, .ro, 0, .no, false⟩

/-- OUT_STAT.retry_wait: Waiting to retry after shutdown -/
def OUT_STAT_retry_wait : Fld := ⟨0x8024, 0x100, 16, 6, 1, .ro, 0, .no, false⟩

/-- OUT_STAT.tsd_latched: Latched off after shutdown -/
def OUT_STAT_tsd_latched : Fld := ⟨0x8024, 0x100, 16, 5, 1, .ro, 0, .no, false⟩

/-- OUT_STAT.limiting: Switch regulating at ILIM -/
def OUT_STAT_limiting : Fld := ⟨0x8024, 0x100, 16, 4, 1, .ro, 0, .no, false⟩

/-- OUT_STAT.prot: OUT_STAT frame bit 3: protection acting -/
def OUT_STAT_prot : Fld := ⟨0x8024, 0x100, 16, 3, 1, .ro, 0, .no, false⟩

/-- OUT_STAT.fhold_run: OUT_STAT frame bit 2: FHOLD timer running -/
def OUT_STAT_fhold_run : Fld := ⟨0x8024, 0x100, 16, 2, 1, .ro, 0, .no, false⟩

/-- OUT_STAT.at_safe: OUT_STAT frame bit 1: at safe state by field-die action -/
def OUT_STAT_at_safe : Fld := ⟨0x8024, 0x100, 16, 1, 1, .ro, 0, .no, false⟩

/-- OUT_STAT.sw_on: OUT_STAT frame bit 0: switch on -/
def OUT_STAT_sw_on : Fld := ⟨0x8024, 0x100, 16, 0, 1, .ro, 0, .no, false⟩

/-- OUT_FLT.uv_off: Auto-restart turn-off -/
def OUT_FLT_uv_off : Fld := ⟨0x8028, 0x100, 16, 11, 1, .w1c, 0, .no, false⟩

/-- OUT_FLT.pair: Pair disagreement (even channel) -/
def OUT_FLT_pair : Fld := ⟨0x8028, 0x100, 16, 10, 1, .w1c, 0, .no, false⟩

/-- OUT_FLT.tp_miss: No passing dark pulse within the period -/
def OUT_FLT_tp_miss : Fld := ⟨0x8028, 0x100, 16, 9, 1, .w1c, 0, .no, false⟩

/-- OUT_FLT.bright_fail: Bright pulse failed -/
def OUT_FLT_bright_fail : Fld := ⟨0x8028, 0x100, 16, 8, 1, .w1c, 0, .no, false⟩

/-- OUT_FLT.dark_fail: Dark pulse failed -/
def OUT_FLT_dark_fail : Fld := ⟨0x8028, 0x100, 16, 7, 1, .w1c, 0, .no, false⟩

/-- OUT_FLT.stuck_off: Readback: stuck off -/
def OUT_FLT_stuck_off : Fld := ⟨0x8028, 0x100, 16, 6, 1, .w1c, 0, .no, false⟩

/-- OUT_FLT.stuck_on: Readback: stuck on -/
def OUT_FLT_stuck_on : Fld := ⟨0x8028, 0x100, 16, 5, 1, .w1c, 0, .no, false⟩

/-- OUT_FLT.tsd: Thermal shutdown or soft cut -/
def OUT_FLT_tsd : Fld := ⟨0x8028, 0x100, 16, 4, 1, .w1c, 0, .no, false⟩

/-- OUT_FLT.limit: Limiting episode of 1 ms or longer -/
def OUT_FLT_limit : Fld := ⟨0x8028, 0x100, 16, 3, 1, .w1c, 0, .no, false⟩

/-- OUT_FLT.short_vf: Short to VF -/
def OUT_FLT_short_vf : Fld := ⟨0x8028, 0x100, 16, 2, 1, .w1c, 0, .no, false⟩

/-- OUT_FLT.open_on: On-state open load -/
def OUT_FLT_open_on : Fld := ⟨0x8028, 0x100, 16, 1, 1, .w1c, 0, .no, false⟩

/-- OUT_FLT.open_off: Off-state open load -/
def OUT_FLT_open_off : Fld := ⟨0x8028, 0x100, 16, 0, 1, .w1c, 0, .no, false⟩

/-- OUT_MEAS_V.vpin: OUT_MEAS_V: pin voltage, signed, 10 mV steps -/
def OUT_MEAS_V_vpin : Fld := ⟨0x802C, 0x100, 16, 0, 16, .ro, 0, .no, false⟩

/-- OUT_MEAS_I.fine_sat: OUT_MEAS_I: fine range saturated -/
def OUT_MEAS_I_fine_sat : Fld := ⟨0x8030, 0x100, 16, 31, 1, .ro, 0, .no, false⟩

/-- OUT_MEAS_I.fine: OUT_MEAS_I: current in 15.625 µA steps -/
def OUT_MEAS_I_fine : Fld := ⟨0x8030, 0x100, 16, 16, 12, .ro, 0, .no, false⟩

/-- OUT_MEAS_I.normal: OUT_MEAS_I: current in 0.78125 mA steps -/
def OUT_MEAS_I_normal : Fld := ⟨0x8030, 0x100, 16, 0, 12, .ro, 0, .no, false⟩

/-- IN_CFG.fail_val: Forced state of a safety input: 0 OFF, 1 ON -/
def IN_CFG_fail_val : Fld := ⟨0xA000, 0x100, 16, 15, 1, .ro, 0, .yes, false⟩

/-- IN_CFG.safety: 1: safety input under R260 -/
def IN_CFG_safety : Fld := ⟨0xA000, 0x100, 16, 14, 1, .ro, 0, .yes, false⟩

/-- IN_CFG.report: Raise IN_ANY on: bit 8 wire_break, bit 9 tp_fail, bit 10 tp_late and xshort, bit 11 overflow -/
def IN_CFG_report : Fld := ⟨0xA000, 0x100, 16, 8, 4, .ro, 7, .yes, false⟩

/-- IN_CFG.ilim: Current limit under R244 -/
def IN_CFG_ilim : Fld := ⟨0xA000, 0x100, 16, 4, 2, .ro, 1, .yes, false⟩

/-- IN_CFG.deb_preset: Debounce preset under R248 -/
def IN_CFG_deb_preset : Fld := ⟨0xA000, 0x100, 16, 0, 3, .ro, 3, .yes, false⟩

/-- IN_DEB.us: 0 preset; otherwise T in µs under R264 -/
def IN_DEB_us : Fld := ⟨0xA004, 0x100, 16, 0, 16, .ro, 0, .patch, false⟩

/-- IN_WB.ms: Wire-break time, 1 ms to 100 ms -/
def IN_WB_ms : Fld := ⟨0xA008, 0x100, 16, 16, 8, .ro, 10, .yes, false⟩

/-- IN_WB.th: Threshold in 0.05 mA units, 4 to 18 -/
def IN_WB_th : Fld := ⟨0xA008, 0x100, 16, 8, 5, .ro, 7, .yes, false⟩

/-- IN_WB.en: 1: wire-break detection runs -/
def IN_WB_en : Fld := ⟨0xA008, 0x100, 16, 0, 1, .ro, 0, .yes, false⟩

/-- IN_TPC.period: Supervision interval, 1 to 250 in 2 ms units -/
def IN_TPC_period : Fld := ⟨0xA00C, 0x100, 16, 24, 8, .ro, 250, .yes, false⟩

/-- IN_TPC.win: Window, 1 to 100 in 10 µs units -/
def IN_TPC_win : Fld := ⟨0xA00C, 0x100, 16, 16, 8, .ro, 20, .yes, false⟩

/-- IN_TPC.xen: 1: cross-short checking under R265 -/
def IN_TPC_xen : Fld := ⟨0xA00C, 0x100, 16, 15, 1, .ro, 0, .patch, false⟩

/-- IN_TPC.xtmb: Foreign tumbler T0 to T7 -/
def IN_TPC_xtmb : Fld := ⟨0xA00C, 0x100, 16, 12, 3, .ro, 0, .patch, false⟩

/-- IN_TPC.xmk: Foreign marker M0 to M3 -/
def IN_TPC_xmk : Fld := ⟨0xA00C, 0x100, 16, 10, 2, .ro, 0, .patch, false⟩

/-- IN_TPC.src_ch: Source channel CH0 to CH15, in mode 6 -/
def IN_TPC_src_ch : Fld := ⟨0xA00C, 0x100, 16, 6, 4, .ro, 0, .yes, false⟩

/-- IN_TPC.tmb: Announcing tumbler T0 to T7 -/
def IN_TPC_tmb : Fld := ⟨0xA00C, 0x100, 16, 3, 3, .ro, 0, .yes, false⟩

/-- IN_TPC.mk: Announcing marker M0 to M3 -/
def IN_TPC_mk : Fld := ⟨0xA00C, 0x100, 16, 1, 2, .ro, 0, .yes, false⟩

/-- IN_TPC.en: 1: test-pulse checking under R257 -/
def IN_TPC_en : Fld := ⟨0xA00C, 0x100, 16, 0, 1, .ro, 0, .yes, false⟩

/-- IN_STAT.uncertain: 1 while new stamps would be marked uncertain under R267 -/
def IN_STAT_uncertain : Fld := ⟨0xA020, 0x100, 16, 9, 1, .ro, 0, .no, false⟩

/-- IN_STAT.stale: 1 while the link is lost; other bits frozen -/
def IN_STAT_stale : Fld := ⟨0xA020, 0x100, 16, 8, 1, .ro, 0, .no, false⟩

/-- IN_STAT.tp_live: Last check failed -/
def IN_STAT_tp_live : Fld := ⟨0xA020, 0x100, 16, 7, 1, .ro, 0, .no, false⟩

/-- IN_STAT.wb_live: Current below the wire-break threshold for the wire-break time -/
def IN_STAT_wb_live : Fld := ⟨0xA020, 0x100, 16, 6, 1, .ro, 0, .no, false⟩

/-- IN_STAT.window: A check window is open -/
def IN_STAT_window : Fld := ⟨0xA020, 0x100, 16, 5, 1, .ro, 0, .no, false⟩

/-- IN_STAT.cand: A candidate edge is running -/
def IN_STAT_cand : Fld := ⟨0xA020, 0x100, 16, 4, 1, .ro, 0, .no, false⟩

/-- IN_STAT.forced: Effective state forced to fail_val -/
def IN_STAT_forced : Fld := ⟨0xA020, 0x100, 16, 3, 1, .ro, 0, .no, false⟩

/-- IN_STAT.valid: First debounced state taken under R249 -/
def IN_STAT_valid : Fld := ⟨0xA020, 0x100, 16, 2, 1, .ro, 0, .no, false⟩

/-- IN_STAT.raw: Debounced state before forcing -/
def IN_STAT_raw : Fld := ⟨0xA020, 0x100, 16, 1, 1, .ro, 0, .no, false⟩

/-- IN_STAT.state: Effective state: 1 ON -/
def IN_STAT_state : Fld := ⟨0xA020, 0x100, 16, 0, 1, .ro, 0, .no, false⟩

/-- IN_FLT.discard: Stamps discarded under R268 -/
def IN_FLT_discard : Fld := ⟨0xA024, 0x100, 16, 5, 1, .w1c, 0, .no, false⟩

/-- IN_FLT.xshort: Cross-short seen in a foreign window -/
def IN_FLT_xshort : Fld := ⟨0xA024, 0x100, 16, 4, 1, .w1c, 0, .no, false⟩

/-- IN_FLT.overflow: An entry was dropped under R252 -/
def IN_FLT_overflow : Fld := ⟨0xA024, 0x100, 16, 3, 1, .w1c, 0, .no, false⟩

/-- IN_FLT.tp_late: No passing check within the supervision interval -/
def IN_FLT_tp_late : Fld := ⟨0xA024, 0x100, 16, 2, 1, .w1c, 0, .no, false⟩

/-- IN_FLT.tp_fail: Test pulse not seen within its window -/
def IN_FLT_tp_fail : Fld := ⟨0xA024, 0x100, 16, 1, 1, .w1c, 0, .no, false⟩

/-- IN_FLT.wire_break: Wire break under R253 -/
def IN_FLT_wire_break : Fld := ⟨0xA024, 0x100, 16, 0, 1, .w1c, 0, .no, false⟩

/-- IN_MEAS.i: Input current in 1 µA steps, ±2 % ±10 µA -/
def IN_MEAS_i : Fld := ⟨0xA028, 0x100, 16, 16, 12, .ro, 0, .no, false⟩

/-- IN_MEAS.vpin: Pin voltage, signed, 10 mV steps -/
def IN_MEAS_vpin : Fld := ⟨0xA028, 0x100, 16, 0, 16, .ro, 0, .no, false⟩

/-- IN_FIFO.overflow: Entries dropped; saturates at 65,535 -/
def IN_FIFO_overflow : Fld := ⟨0xA02C, 0x100, 16, 16, 16, .rc, 0, .no, false⟩

/-- IN_FIFO.discarded: Entries discarded under R268; saturates at 255 -/
def IN_FIFO_discarded : Fld := ⟨0xA02C, 0x100, 16, 8, 8, .rc, 0, .no, false⟩

/-- IN_TS_HI.valid: 1 if the last IN_TS_LO read returned an entry -/
def IN_TS_HI_valid : Fld := ⟨0xA034, 0x100, 16, 31, 1, .ro, 0, .no, false⟩

/-- IN_TS_HI.dir: 1: change to ON; 0: change to OFF -/
def IN_TS_HI_dir : Fld := ⟨0xA034, 0x100, 16, 30, 1, .ro, 0, .no, false⟩

/-- IN_TS_HI.uncertain: Stamp marked under R267 -/
def IN_TS_HI_uncertain : Fld := ⟨0xA034, 0x100, 16, 29, 1, .ro, 0, .no, false⟩

/-- IN_TS_HI.gap: Entries were lost before this one -/
def IN_TS_HI_gap : Fld := ⟨0xA034, 0x100, 16, 28, 1, .ro, 0, .no, false⟩

/-- IN_TS_HI.forced: Change caused by forcing or its end -/
def IN_TS_HI_forced : Fld := ⟨0xA034, 0x100, 16, 27, 1, .ro, 0, .no, false⟩

/-- IN_TS_HI.stamp: Stamp bits [47:32] -/
def IN_TS_HI_stamp : Fld := ⟨0xA034, 0x100, 16, 0, 16, .ro, 0, .no, false⟩

/-- IN_EDGES.count: Accepted edges since field-die reset, modulo 2^32; forced changes not counted -/
def IN_EDGES_count : Fld := ⟨0xA038, 0x100, 16, 0, 32, .ro, 0, .no, false⟩

/-- TMB_CFG.ward: Owning ward from the ward table; 0xF none -/
def TMB_CFG_ward : Fld := ⟨0xC000, 0x200, 8, 28, 4, .ro, 15, .no, false⟩

/-- TMB_CFG.auto_addr: Entry for automatic start -/
def TMB_CFG_auto_addr : Fld := ⟨0xC000, 0x200, 8, 18, 10, .ro, 0, .yes, false⟩

/-- TMB_CFG.auto_start: 1: started under R23 -/
def TMB_CFG_auto_start : Fld := ⟨0xC000, 0x200, 8, 8, 1, .ro, 0, .yes, false⟩

/-- TMB_CFG.ts_sample: Timing set in sample-clock mode -/
def TMB_CFG_ts_sample : Fld := ⟨0xC000, 0x200, 8, 4, 3, .ro, 0, .yes, false⟩

/-- TMB_CFG.mode: 0 sample-clock, 1 edge-placed -/
def TMB_CFG_mode : Fld := ⟨0xC000, 0x200, 8, 0, 1, .ro, 0, .yes, false⟩

/-- TMB_REGION.bank: 0 DP0, 1 DP1 -/
def TMB_REGION_bank : Fld := ⟨0xC004, 0x200, 8, 31, 1, .ro, 0, .yes, false⟩

/-- TMB_REGION.lock: Lock word, relative to base -/
def TMB_REGION_lock : Fld := ⟨0xC004, 0x200, 8, 20, 10, .ro, 0, .yes, false⟩

/-- TMB_REGION.len_m1: Region length minus 1, in words -/
def TMB_REGION_len_m1 : Fld := ⟨0xC004, 0x200, 8, 10, 10, .ro, 0, .yes, false⟩

/-- TMB_REGION.base: First word of the region -/
def TMB_REGION_base : Fld := ⟨0xC004, 0x200, 8, 0, 10, .ro, 0, .yes, false⟩

/-- TMB_COST.mw10: Start cost in 10 mW units, as the scheduler counts it -/
def TMB_COST_mw10 : Fld := ⟨0xC008, 0x200, 8, 0, 16, .ro, 0, .yes, false⟩

/-- TMB_DL.en: 1: deadline supervision under R301 -/
def TMB_DL_en : Fld := ⟨0xC00C, 0x200, 8, 31, 1, .ro, 0, .yes, false⟩

/-- TMB_DL.mk: Supervised marker M0 to M3 -/
def TMB_DL_mk : Fld := ⟨0xC00C, 0x200, 8, 28, 2, .ro, 0, .yes, false⟩

/-- TMB_DL.limit: Deadline in 100 µs units, 1 to 65,535 -/
def TMB_DL_limit : Fld := ⟨0xC00C, 0x200, 8, 0, 16, .ro, 0, .yes, false⟩

/-- TMB_MK_ROUTE.lsy: Bit 4 + k: Mk forwarded to Luanen sync -/
def TMB_MK_ROUTE_lsy : Fld := ⟨0xC010, 0x200, 8, 4, 4, .ro, 0, .yes, false⟩

/-- TMB_MK_ROUTE.rec: Bit k: Mk writes a Trace record -/
def TMB_MK_ROUTE_rec : Fld := ⟨0xC010, 0x200, 8, 0, 4, .ro, 0, .yes, false⟩

/-- TMB_MARCH_SEED.seed: LFSR seeds under R308 -/
def TMB_MARCH_SEED_seed : Fld := ⟨0xC014, 0x200, 8, 0, 32, .rw, 1, .yes, false⟩

/-- TMB_CTRL.addr: Entry or jump target -/
def TMB_CTRL_addr : Fld := ⟨0xC020, 0x200, 8, 16, 10, .rw, 0, .no, false⟩

/-- TMB_CTRL.release: Stop mode: 0 hold, 1 release -/
def TMB_CTRL_release : Fld := ⟨0xC020, 0x200, 8, 3, 1, .rw, 0, .no, false⟩

/-- TMB_CTRL.jump: Jump request; clears when taken -/
def TMB_CTRL_jump : Fld := ⟨0xC020, 0x200, 8, 2, 1, .w1s, 0, .no, false⟩

/-- TMB_CTRL.stop: Stop request; clears when taken -/
def TMB_CTRL_stop : Fld := ⟨0xC020, 0x200, 8, 1, 1, .w1s, 0, .no, false⟩

/-- TMB_CTRL.start: Start request; clears when taken -/
def TMB_CTRL_start : Fld := ⟨0xC020, 0x200, 8, 0, 1, .w1s, 0, .no, false⟩

/-- TMB_STAT.pc: Address of the instruction in force -/
def TMB_STAT_pc : Fld := ⟨0xC024, 0x200, 8, 16, 10, .ro, 0, .no, false⟩

/-- TMB_STAT.stop_cause: Code under R294; 0 if not stopped since reset -/
def TMB_STAT_stop_cause : Fld := ⟨0xC024, 0x200, 8, 12, 4, .ro, 0, .no, false⟩

/-- TMB_STAT.ts_now: Current timing set -/
def TMB_STAT_ts_now : Fld := ⟨0xC024, 0x200, 8, 4, 3, .ro, 0, .no, false⟩

/-- TMB_STAT.state: State under R278 -/
def TMB_STAT_state : Fld := ⟨0xC024, 0x200, 8, 0, 3, .ro, 0, .no, false⟩

/-- TMB_PATTERN.mk: Markers of the latest cycle, M0 in bit 20 -/
def TMB_PATTERN_mk : Fld := ⟨0xC028, 0x200, 8, 20, 4, .ro, 0, .no, false⟩

/-- TMB_PATTERN.pins: Latest pattern: bit 0 CH0 to bit 15 CH15, bits 16 to 19 AUX0 to AUX3 -/
def TMB_PATTERN_pins : Fld := ⟨0xC028, 0x200, 8, 0, 20, .ro, 0, .no, false⟩

/-- TMB_CYCLES.count: Cycles since the last start, modulo 2^32 -/
def TMB_CYCLES_count : Fld := ⟨0xC02C, 0x200, 8, 0, 32, .ro, 0, .no, false⟩

/-- TMB_STALLS.late: Vectors applied late under R297; saturates at 65,535 -/
def TMB_STALLS_late : Fld := ⟨0xC030, 0x200, 8, 16, 16, .ro, 0, .no, false⟩

/-- TMB_STALLS.stalls: Stalled cycles under R295; saturates at 65,535 -/
def TMB_STALLS_stalls : Fld := ⟨0xC030, 0x200, 8, 0, 16, .ro, 0, .no, false⟩

/-- TMB_SIG.count: SIG instructions executed; saturates at 65,535 -/
def TMB_SIG_count : Fld := ⟨0xC034, 0x200, 8, 16, 16, .ro, 0, .no, false⟩

/-- TMB_SIG.code: Code of the last SIG -/
def TMB_SIG_code : Fld := ⟨0xC034, 0x200, 8, 0, 8, .ro, 0, .no, false⟩

/-- TMB_ERR.addr: Address of the failing instruction -/
def TMB_ERR_addr : Fld := ⟨0xC038, 0x200, 8, 16, 10, .ro, 0, .no, false⟩

/-- TMB_ERR.code: Code under R299; 0 none -/
def TMB_ERR_code : Fld := ⟨0xC038, 0x200, 8, 0, 4, .ro, 0, .no, false⟩

/-- TMB_MKSEEN.seen: Bit 4t + k: this tumbler's latch for marker k of tumbler t -/
def TMB_MKSEEN_seen : Fld := ⟨0xC03C, 0x200, 8, 0, 32, .ro, 0, .no, false⟩

/-- TMB_MARCH_FIRST.valid: A failing address has been captured -/
def TMB_MARCH_FIRST_valid : Fld := ⟨0xC040, 0x200, 8, 31, 1, .ro, 0, .no, false⟩

/-- TMB_MARCH_FIRST.addr: First failing word address -/
def TMB_MARCH_FIRST_addr : Fld := ⟨0xC040, 0x200, 8, 0, 12, .ro, 0, .no, false⟩

/-- TMB_MARCH_SIG.sig: CRC-32 over failing addresses under R309 -/
def TMB_MARCH_SIG_sig : Fld := ⟨0xC044, 0x200, 8, 0, 32, .ro, 0, .no, false⟩

/-- TMB_MARCH_CNT.count: Failing comparisons; saturates at 0xFFFF_FFFF -/
def TMB_MARCH_CNT_count : Fld := ⟨0xC048, 0x200, 8, 0, 32, .ro, 0, .no, false⟩

/-- TMB_TS_PERIOD.period: TMB_TS_PERIOD: period in fine ticks -/
def TMB_TS_PERIOD_period : Fld := ⟨0xD000, 0x100, 8, 0, 32, .ro, 800, .yes, false⟩

/-- TMB_TS_FMT_LO.fmt_ch: TMB_TS_FMT_LO: format of CH0 in [1:0] to CH15 in [31:30] -/
def TMB_TS_FMT_LO_fmt_ch : Fld := ⟨0xD004, 0x100, 8, 0, 32, .ro, 0, .yes, false⟩

/-- TMB_TS_FMT_HI.fmt_aux: TMB_TS_FMT_HI: format of AUX0 in [1:0] to AUX3 in [7:6]; bits 31:8 reserved, 0 -/
def TMB_TS_FMT_HI_fmt_aux : Fld := ⟨0xD008, 0x100, 8, 0, 8, .ro, 0, .yes, false⟩

/-- TMB_TS_ASSERT.assert of pin `p`: TMB_TS_ASSERT_p: assert offset of pin p in fine ticks; p is 0 to 15 for CH0 to CH15, 16 to 19 for AUX0 to AUX3 -/
def TMB_TS_ASSERT_assert (p : Nat) : Fld :=
  ⟨0xD010 + 8 * p, 0x100, 8, 0, 32, .ro, 0, .yes, false⟩

/-- TMB_TS_RELEASE.release of pin `p`: TMB_TS_RELEASE_p: release offset of pin p in fine ticks -/
def TMB_TS_RELEASE_release (p : Nat) : Fld :=
  ⟨0xD014 + 8 * p, 0x100, 8, 0, 32, .ro, 0, .yes, false⟩

/-- TMB_CMP_CFG.en: TMB_CMP_CFG: 1 slot in use -/
def TMB_CMP_CFG_en : Fld := ⟨0xD800, 0x10, 16, 31, 1, .ro, 0, .yes, false⟩

/-- TMB_CMP_CFG.ward: Owning ward -/
def TMB_CMP_CFG_ward : Fld := ⟨0xD800, 0x10, 16, 28, 3, .ro, 0, .yes, false⟩

/-- TMB_CMP_CFG.adc: 0 ADC-A, 1 ADC-B -/
def TMB_CMP_CFG_adc : Fld := ⟨0xD800, 0x10, 16, 27, 1, .ro, 0, .yes, false⟩

/-- TMB_CMP_CFG.rel: 0 ≥, 1 ≤ -/
def TMB_CMP_CFG_rel : Fld := ⟨0xD800, 0x10, 16, 26, 1, .ro, 0, .yes, false⟩

/-- TMB_CMP_CFG.src: Source under R302 -/
def TMB_CMP_CFG_src : Fld := ⟨0xD800, 0x10, 16, 20, 3, .ro, 0, .yes, false⟩

/-- TMB_CMP_CFG.index: Channel or sensor number -/
def TMB_CMP_CFG_index : Fld := ⟨0xD800, 0x10, 16, 16, 4, .ro, 0, .yes, false⟩

/-- TMB_CMP_THR.hyst: TMB_CMP_THR: hysteresis in the source's unit -/
def TMB_CMP_THR_hyst : Fld := ⟨0xD804, 0x10, 16, 16, 16, .rw, 0, .yes, false⟩

/-- TMB_CMP_THR.thr: Threshold, signed, in the source's unit -/
def TMB_CMP_THR_thr : Fld := ⟨0xD804, 0x10, 16, 0, 16, .rw, 0, .yes, false⟩

/-- TMB_CMP_STAT.state: TMB_CMP_STAT: 1 true -/
def TMB_CMP_STAT_state : Fld := ⟨0xD808, 0x10, 16, 31, 1, .ro, 0, .no, false⟩

/-- TMB_CMP_STAT.stale: 1 while the link is lost -/
def TMB_CMP_STAT_stale : Fld := ⟨0xD808, 0x10, 16, 30, 1, .ro, 0, .no, false⟩

/-- TMB_CMP_STAT.value: Latest measurement -/
def TMB_CMP_STAT_value : Fld := ⟨0xD808, 0x10, 16, 0, 16, .ro, 0, .no, false⟩

/-- TMB_AUX_MAP.dir: 0 input, 1 output -/
def TMB_AUX_MAP_dir : Fld := ⟨0xDC00, 0x4, 4, 31, 1, .ro, 0, .yes, false⟩

/-- TMB_AUX_MAP.idle: Idle level of an output -/
def TMB_AUX_MAP_idle : Fld := ⟨0xDC00, 0x4, 4, 30, 1, .ro, 0, .yes, false⟩

/-- TMB_AUX_MAP.kind: 0 pattern bit, 1 marker -/
def TMB_AUX_MAP_kind : Fld := ⟨0xDC00, 0x4, 4, 29, 1, .ro, 0, .yes, false⟩

/-- TMB_AUX_MAP.tmb: Source tumbler T0 to T7 -/
def TMB_AUX_MAP_tmb : Fld := ⟨0xDC00, 0x4, 4, 26, 3, .ro, 0, .yes, false⟩

/-- TMB_AUX_MAP.mk: Marker M0 to M3, for kind 1 -/
def TMB_AUX_MAP_mk : Fld := ⟨0xDC00, 0x4, 4, 24, 2, .ro, 0, .yes, false⟩

/-- TMB_AUX_MAP.width: Marker pulse width in fine ticks, 8 to 65,535 -/
def TMB_AUX_MAP_width : Fld := ⟨0xDC00, 0x4, 4, 0, 16, .ro, 8, .yes, false⟩

/-- LSY_CFG.hubs_m1: Hubs in the chain minus 1 -/
def LSY_CFG_hubs_m1 : Fld := ⟨0xE000, 0x0, 1, 8, 5, .ro, 0, .yes, false⟩

/-- LSY_CFG.xcvr: 1: transceivers under R339 -/
def LSY_CFG_xcvr : Fld := ⟨0xE000, 0x0, 1, 2, 1, .ro, 0, .yes, false⟩

/-- LSY_CFG.head: 1: this hub is the head -/
def LSY_CFG_head : Fld := ⟨0xE000, 0x0, 1, 1, 1, .ro, 0, .yes, false⟩

/-- LSY_CFG.en: 1: chain in use -/
def LSY_CFG_en : Fld := ⟨0xE000, 0x0, 1, 0, 1, .ro, 0, .yes, false⟩

/-- LSY_PERIOD.us: Sync period, 100 µs to 100,000 µs -/
def LSY_PERIOD_us : Fld := ⟨0xE004, 0x0, 1, 0, 17, .ro, 1000, .yes, false⟩

/-- LSY_CAL_CFG.temp_c: Temperature step, 5 °C to 20 °C -/
def LSY_CAL_CFG_temp_c : Fld := ⟨0xE008, 0x0, 1, 8, 8, .ro, 10, .yes, false⟩

/-- LSY_CAL_CFG.interval_min: Recalibration interval, 1 to 255 minutes -/
def LSY_CAL_CFG_interval_min : Fld := ⟨0xE008, 0x0, 1, 0, 8, .ro, 10, .yes, false⟩

/-- LSY_USER.rx_en: 1: messages delivered to the FIFO -/
def LSY_USER_rx_en : Fld := ⟨0xE00C, 0x0, 1, 19, 1, .ro, 0, .yes, false⟩

/-- LSY_USER.rx_ward: Receiving ward -/
def LSY_USER_rx_ward : Fld := ⟨0xE00C, 0x0, 1, 16, 3, .ro, 0, .yes, false⟩

/-- LSY_USER.send_mask: Bit n: Wn may send -/
def LSY_USER_send_mask : Fld := ⟨0xE00C, 0x0, 1, 0, 8, .ro, 0, .yes, false⟩

/-- LSY_PAIR.id: Pair identity -/
def LSY_PAIR_id : Fld := ⟨0xE010, 0x0, 1, 24, 8, .ro, 0, .yes, false⟩

/-- LSY_PAIR.lead: Close lead, 2 to 15 periods -/
def LSY_PAIR_lead : Fld := ⟨0xE010, 0x0, 1, 20, 4, .ro, 2, .yes, false⟩

/-- LSY_PAIR.ch: Pair channel -/
def LSY_PAIR_ch : Fld := ⟨0xE010, 0x0, 1, 16, 4, .ro, 0, .yes, false⟩

/-- LSY_PAIR.partner: 0 upstream, 1 downstream -/
def LSY_PAIR_partner : Fld := ⟨0xE010, 0x0, 1, 1, 1, .ro, 0, .yes, false⟩

/-- LSY_PAIR.en: 1: pair in use -/
def LSY_PAIR_en : Fld := ⟨0xE010, 0x0, 1, 0, 1, .ro, 0, .yes, false⟩

/-- LSY_STAT.break_pos: Head only: position from the last BREAK -/
def LSY_STAT_break_pos : Fld := ⟨0xE014, 0x0, 1, 24, 5, .ro, 0, .no, false⟩

/-- LSY_STAT.pos: Position -/
def LSY_STAT_pos : Fld := ⟨0xE014, 0x0, 1, 16, 5, .ro, 0, .no, false⟩

/-- LSY_STAT.ev_late: A sync-kind WAIT ended too late under R335 -/
def LSY_STAT_ev_late : Fld := ⟨0xE014, 0x0, 1, 8, 1, .w1c, 0, .no, false⟩

/-- LSY_STAT.calibrating: Echoes or cascade under way -/
def LSY_STAT_calibrating : Fld := ⟨0xE014, 0x0, 1, 6, 1, .ro, 0, .no, false⟩

/-- LSY_STAT.cal_valid: A D has been applied -/
def LSY_STAT_cal_valid : Fld := ⟨0xE014, 0x0, 1, 5, 1, .ro, 0, .no, false⟩

/-- LSY_STAT.aligned: Aligned under R332 -/
def LSY_STAT_aligned : Fld := ⟨0xE014, 0x0, 1, 4, 1, .ro, 0, .no, false⟩

/-- LSY_STAT.dn_ok: Downstream neighbour present -/
def LSY_STAT_dn_ok : Fld := ⟨0xE014, 0x0, 1, 3, 1, .ro, 0, .no, false⟩

/-- LSY_STAT.up_ok: Pulses received; 1 on the head while sending -/
def LSY_STAT_up_ok : Fld := ⟨0xE014, 0x0, 1, 2, 1, .ro, 0, .no, false⟩

/-- LSY_STAT.pos_valid: Position taken -/
def LSY_STAT_pos_valid : Fld := ⟨0xE014, 0x0, 1, 1, 1, .ro, 0, .no, false⟩

/-- LSY_CTRL.recal: W0 only: request recalibration; clears when sent -/
def LSY_CTRL_recal : Fld := ⟨0xE018, 0x0, 1, 0, 1, .w1s, 0, .no, false⟩

/-- LSY_DELAY.d_chain: Chain delay D in fine ticks -/
def LSY_DELAY_d_chain : Fld := ⟨0xE01C, 0x0, 1, 0, 32, .ro, 0, .no, false⟩

/-- LSY_HOP.cals: Calibrations applied; saturates at 65,535 -/
def LSY_HOP_cals : Fld := ⟨0xE020, 0x0, 1, 16, 16, .ro, 0, .no, false⟩

/-- LSY_HOP.hop: Downstream hop delay d in fine ticks -/
def LSY_HOP_hop : Fld := ⟨0xE020, 0x0, 1, 0, 16, .ro, 0, .no, false⟩

/-- LSY_ALIGN_ERR.trim: AUX trim, signed, in fine ticks -/
def LSY_ALIGN_ERR_trim : Fld := ⟨0xE024, 0x0, 1, 16, 8, .ro, 0, .no, false⟩

/-- LSY_ALIGN_ERR.err: Latest e, signed, in fine ticks -/
def LSY_ALIGN_ERR_err : Fld := ⟨0xE024, 0x0, 1, 0, 16, .ro, 0, .no, false⟩

/-- LSY_COUNTS.drops: Frames dropped under R326; saturates at 65,535 -/
def LSY_COUNTS_drops : Fld := ⟨0xE028, 0x0, 1, 16, 16, .ro, 0, .no, false⟩

/-- LSY_COUNTS.crc_errors: Frames discarded under R324; saturates at 65,535 -/
def LSY_COUNTS_crc_errors : Fld := ⟨0xE028, 0x0, 1, 0, 16, .ro, 0, .no, false⟩

/-- LSY_PAIR_STAT.disagreements: Events under R343; saturates at 65,535 -/
def LSY_PAIR_STAT_disagreements : Fld := ⟨0xE02C, 0x0, 1, 16, 16, .ro, 0, .no, false⟩

/-- LSY_PAIR_STAT.partner_cnt: Counter of the partner's latest HB -/
def LSY_PAIR_STAT_partner_cnt : Fld := ⟨0xE02C, 0x0, 1, 8, 8, .ro, 0, .no, false⟩

/-- LSY_PAIR_STAT.detail: Detail of the latest event -/
def LSY_PAIR_STAT_detail : Fld := ⟨0xE02C, 0x0, 1, 5, 3, .ro, 0, .no, false⟩

/-- LSY_PAIR_STAT.close_sched: Close scheduled -/
def LSY_PAIR_STAT_close_sched : Fld := ⟨0xE02C, 0x0, 1, 3, 1, .ro, 0, .no, false⟩

/-- LSY_PAIR_STAT.closed: Both switches reported on -/
def LSY_PAIR_STAT_closed : Fld := ⟨0xE02C, 0x0, 1, 2, 1, .ro, 0, .no, false⟩

/-- LSY_PAIR_STAT.partner_ok: Valid HB within the last 3 periods -/
def LSY_PAIR_STAT_partner_ok : Fld := ⟨0xE02C, 0x0, 1, 1, 1, .ro, 0, .no, false⟩

/-- LSY_PAIR_T.t: Close instant T, bits [31:0] -/
def LSY_PAIR_T_t : Fld := ⟨0xE030, 0x0, 1, 0, 32, .ro, 0, .no, false⟩

/-- LSY_EV_CFG.kind: Event kind under R335 -/
def LSY_EV_CFG_kind : Fld := ⟨0xE040, 0x8, 8, 30, 2, .ro, 0, .yes, false⟩

/-- LSY_EV_CFG.src_pos: Mark kind: source position -/
def LSY_EV_CFG_src_pos : Fld := ⟨0xE040, 0x8, 8, 25, 5, .ro, 0, .yes, false⟩

/-- LSY_EV_CFG.tmb: Mark kind: tumbler -/
def LSY_EV_CFG_tmb : Fld := ⟨0xE040, 0x8, 8, 22, 3, .ro, 0, .yes, false⟩

/-- LSY_EV_CFG.mk: Mark kind: marker -/
def LSY_EV_CFG_mk : Fld := ⟨0xE040, 0x8, 8, 20, 2, .ro, 0, .yes, false⟩

/-- LSY_EV_CFG.code: User kind: code -/
def LSY_EV_CFG_code : Fld := ⟨0xE040, 0x8, 8, 15, 5, .ro, 0, .yes, false⟩

/-- LSY_EV_CFG.every: Sync kind: fires on every (every + 1)th pulse -/
def LSY_EV_CFG_every : Fld := ⟨0xE040, 0x8, 8, 0, 8, .ro, 0, .yes, false⟩

/-- LSY_EV_OFS.ofs: Sync kind: offset in ticks, below the period -/
def LSY_EV_OFS_ofs : Fld := ⟨0xE044, 0x8, 8, 0, 32, .ro, 0, .yes, false⟩

/-- LSY_RX_STAT.overflow: Messages dropped; saturates at 65,535 -/
def LSY_RX_STAT_overflow : Fld := ⟨0xE084, 0x0, 1, 16, 16, .rc, 0, .no, false⟩

/-- Fields of the OUT_ block, part 0. -/
def fldsOUT0 : List Fld :=
  [OUT_CFG_heavy,
   OUT_CFG_shed_class,
   OUT_CFG_supply,
   OUT_CFG_src,
   OUT_CFG_safety,
   OUT_CFG_safe_on,
   OUT_CFG_mode,
   OUT_FHOLD_ms,
   OUT_LIM_soft_tl,
   OUT_LIM_retry_max,
   OUT_LIM_retry,
   OUT_LIM_preset]

/-- Fields of the OUT_ block, part 1. -/
def fldsOUT1 : List Fld :=
  [OUT_LIM_ilim_fine,
   OUT_UV_delay,
   OUT_UV_hyst,
   OUT_UV_uvth,
   OUT_DIAG_ol_period,
   OUT_DIAG_ol_off_en,
   OUT_DIAG_ol_on,
   OUT_DIAG_led_ol,
   OUT_TP_period,
   OUT_TP_bright_max,
   OUT_TP_dark_max,
   OUT_TP_tmb]

/-- Fields of the OUT_ block, part 2. -/
def fldsOUT2 : List Fld :=
  [OUT_TP_bright_en,
   OUT_TP_dark_en,
   OUT_RT_ilim_rt,
   OUT_RT_ol_period_rt,
   OUT_CTRL_rearm,
   OUT_CTRL_on,
   OUT_STAT_stale,
   OUT_STAT_soft_cut,
   OUT_STAT_shed,
   OUT_STAT_pending,
   OUT_STAT_safe_hold,
   OUT_STAT_uv_off]

/-- Fields of the OUT_ block, part 3. -/
def fldsOUT3 : List Fld :=
  [OUT_STAT_retry_wait,
   OUT_STAT_tsd_latched,
   OUT_STAT_limiting,
   OUT_STAT_prot,
   OUT_STAT_fhold_run,
   OUT_STAT_at_safe,
   OUT_STAT_sw_on,
   OUT_FLT_uv_off,
   OUT_FLT_pair,
   OUT_FLT_tp_miss,
   OUT_FLT_bright_fail,
   OUT_FLT_dark_fail]

/-- Fields of the OUT_ block, part 4. -/
def fldsOUT4 : List Fld :=
  [OUT_FLT_stuck_off,
   OUT_FLT_stuck_on,
   OUT_FLT_tsd,
   OUT_FLT_limit,
   OUT_FLT_short_vf,
   OUT_FLT_open_on,
   OUT_FLT_open_off,
   OUT_MEAS_V_vpin,
   OUT_MEAS_I_fine_sat,
   OUT_MEAS_I_fine,
   OUT_MEAS_I_normal]

/-- Every stored field of the OUT_ block. -/
def fldsOUT : List Fld :=
  fldsOUT0 ++ fldsOUT1 ++ fldsOUT2 ++ fldsOUT3 ++ fldsOUT4

/-- Fields of the IN_ block, part 0. -/
def fldsIN0 : List Fld :=
  [IN_CFG_fail_val,
   IN_CFG_safety,
   IN_CFG_report,
   IN_CFG_ilim,
   IN_CFG_deb_preset,
   IN_DEB_us,
   IN_WB_ms,
   IN_WB_th,
   IN_WB_en,
   IN_TPC_period,
   IN_TPC_win,
   IN_TPC_xen]

/-- Fields of the IN_ block, part 1. -/
def fldsIN1 : List Fld :=
  [IN_TPC_xtmb,
   IN_TPC_xmk,
   IN_TPC_src_ch,
   IN_TPC_tmb,
   IN_TPC_mk,
   IN_TPC_en,
   IN_STAT_uncertain,
   IN_STAT_stale,
   IN_STAT_tp_live,
   IN_STAT_wb_live,
   IN_STAT_window,
   IN_STAT_cand]

/-- Fields of the IN_ block, part 2. -/
def fldsIN2 : List Fld :=
  [IN_STAT_forced,
   IN_STAT_valid,
   IN_STAT_raw,
   IN_STAT_state,
   IN_FLT_discard,
   IN_FLT_xshort,
   IN_FLT_overflow,
   IN_FLT_tp_late,
   IN_FLT_tp_fail,
   IN_FLT_wire_break,
   IN_MEAS_i,
   IN_MEAS_vpin]

/-- Fields of the IN_ block, part 3. -/
def fldsIN3 : List Fld :=
  [IN_FIFO_overflow,
   IN_FIFO_discarded,
   IN_TS_HI_valid,
   IN_TS_HI_dir,
   IN_TS_HI_uncertain,
   IN_TS_HI_gap,
   IN_TS_HI_forced,
   IN_TS_HI_stamp,
   IN_EDGES_count]

/-- Every stored field of the IN_ block. -/
def fldsIN : List Fld :=
  fldsIN0 ++ fldsIN1 ++ fldsIN2 ++ fldsIN3

/-- Fields of the TMB_ block, part 0. -/
def fldsTMB0 : List Fld :=
  [TMB_CFG_ward,
   TMB_CFG_auto_addr,
   TMB_CFG_auto_start,
   TMB_CFG_ts_sample,
   TMB_CFG_mode,
   TMB_REGION_bank,
   TMB_REGION_lock,
   TMB_REGION_len_m1,
   TMB_REGION_base,
   TMB_COST_mw10,
   TMB_DL_en,
   TMB_DL_mk]

/-- Fields of the TMB_ block, part 1. -/
def fldsTMB1 : List Fld :=
  [TMB_DL_limit,
   TMB_MK_ROUTE_lsy,
   TMB_MK_ROUTE_rec,
   TMB_MARCH_SEED_seed,
   TMB_CTRL_addr,
   TMB_CTRL_release,
   TMB_CTRL_jump,
   TMB_CTRL_stop,
   TMB_CTRL_start,
   TMB_STAT_pc,
   TMB_STAT_stop_cause,
   TMB_STAT_ts_now]

/-- Fields of the TMB_ block, part 2. -/
def fldsTMB2 : List Fld :=
  [TMB_STAT_state,
   TMB_PATTERN_mk,
   TMB_PATTERN_pins,
   TMB_CYCLES_count,
   TMB_STALLS_late,
   TMB_STALLS_stalls,
   TMB_SIG_count,
   TMB_SIG_code,
   TMB_ERR_addr,
   TMB_ERR_code,
   TMB_MKSEEN_seen,
   TMB_MARCH_FIRST_valid]

/-- Fields of the TMB_ block, part 3. -/
def fldsTMB3 : List Fld :=
  [TMB_MARCH_FIRST_addr,
   TMB_MARCH_SIG_sig,
   TMB_MARCH_CNT_count,
   TMB_TS_PERIOD_period,
   TMB_TS_FMT_LO_fmt_ch,
   TMB_TS_FMT_HI_fmt_aux,
   TMB_CMP_CFG_en,
   TMB_CMP_CFG_ward,
   TMB_CMP_CFG_adc,
   TMB_CMP_CFG_rel,
   TMB_CMP_CFG_src,
   TMB_CMP_CFG_index]

/-- Fields of the TMB_ block, part 4. -/
def fldsTMB4 : List Fld :=
  [TMB_CMP_THR_hyst,
   TMB_CMP_THR_thr,
   TMB_CMP_STAT_state,
   TMB_CMP_STAT_stale,
   TMB_CMP_STAT_value,
   TMB_AUX_MAP_dir,
   TMB_AUX_MAP_idle,
   TMB_AUX_MAP_kind,
   TMB_AUX_MAP_tmb,
   TMB_AUX_MAP_mk,
   TMB_AUX_MAP_width]

/-- Every stored field of the TMB_ block. -/
def fldsTMB : List Fld :=
  fldsTMB0 ++ fldsTMB1 ++ fldsTMB2 ++ fldsTMB3 ++ fldsTMB4 ++ (List.range 20).map TMB_TS_ASSERT_assert ++ (List.range 20).map TMB_TS_RELEASE_release

/-- Fields of the LSY_ block, part 0. -/
def fldsLSY0 : List Fld :=
  [LSY_CFG_hubs_m1,
   LSY_CFG_xcvr,
   LSY_CFG_head,
   LSY_CFG_en,
   LSY_PERIOD_us,
   LSY_CAL_CFG_temp_c,
   LSY_CAL_CFG_interval_min,
   LSY_USER_rx_en,
   LSY_USER_rx_ward,
   LSY_USER_send_mask,
   LSY_PAIR_id,
   LSY_PAIR_lead]

/-- Fields of the LSY_ block, part 1. -/
def fldsLSY1 : List Fld :=
  [LSY_PAIR_ch,
   LSY_PAIR_partner,
   LSY_PAIR_en,
   LSY_STAT_break_pos,
   LSY_STAT_pos,
   LSY_STAT_ev_late,
   LSY_STAT_calibrating,
   LSY_STAT_cal_valid,
   LSY_STAT_aligned,
   LSY_STAT_dn_ok,
   LSY_STAT_up_ok,
   LSY_STAT_pos_valid]

/-- Fields of the LSY_ block, part 2. -/
def fldsLSY2 : List Fld :=
  [LSY_CTRL_recal,
   LSY_DELAY_d_chain,
   LSY_HOP_cals,
   LSY_HOP_hop,
   LSY_ALIGN_ERR_trim,
   LSY_ALIGN_ERR_err,
   LSY_COUNTS_drops,
   LSY_COUNTS_crc_errors,
   LSY_PAIR_STAT_disagreements,
   LSY_PAIR_STAT_partner_cnt,
   LSY_PAIR_STAT_detail,
   LSY_PAIR_STAT_close_sched]

/-- Fields of the LSY_ block, part 3. -/
def fldsLSY3 : List Fld :=
  [LSY_PAIR_STAT_closed,
   LSY_PAIR_STAT_partner_ok,
   LSY_PAIR_T_t,
   LSY_EV_CFG_kind,
   LSY_EV_CFG_src_pos,
   LSY_EV_CFG_tmb,
   LSY_EV_CFG_mk,
   LSY_EV_CFG_code,
   LSY_EV_CFG_every,
   LSY_EV_OFS_ofs,
   LSY_RX_STAT_overflow]

/-- Every stored field of the LSY_ block. -/
def fldsLSY : List Fld :=
  fldsLSY0 ++ fldsLSY1 ++ fldsLSY2 ++ fldsLSY3

end Sys2Proof.Machine
end

