-- ==== Sys2Proof/Machine/RegsHost.lean ====
section
/-!
DEFINITION. The stored register fields of the WRD_, HPT_, OPS_, INT_, RST_, BNK_ and SCH_ blocks, one constant each, from the register tables
of the spec: address, distance between the copies, number of copies, lowest bit, width, access, reset value, Blank column.
-/

namespace Sys2Proof.Machine

/-- WRD_CFG.defined: 1: the ward exists; must be 1 for W0 -/
def WRD_CFG_defined : Fld := ⟨0x5000, 0x40, 8, 31, 1, .ro, 0, .yes, false⟩

/-- WRD_CFG.exp_allow: Bit p: page p may be opened under R372; bits 8 to 10 for W0 only; bit 15 must be 0 -/
def WRD_CFG_exp_allow : Fld := ⟨0x5000, 0x40, 8, 8, 8, .ro, 0, .yes, false⟩

/-- WRD_CH.ch: Bit n: CHn owned by the ward -/
def WRD_CH_ch : Fld := ⟨0x5004, 0x40, 8, 0, 16, .ro, 0, .yes, false⟩

/-- WRD_TMB.tmb: Bit t: Tt owned by the ward -/
def WRD_TMB_tmb : Fld := ⟨0x5008, 0x40, 8, 0, 8, .ro, 0, .yes, false⟩

/-- WRD_STAT.resets: Resets of the ward since logic-die reset; saturates at 65,535 -/
def WRD_STAT_resets : Fld := ⟨0x500C, 0x40, 8, 16, 16, .ro, 0, .no, false⟩

/-- WRD_EXP_OPEN.key: Must be 0x4558; reads 0 -/
def WRD_EXP_OPEN_key : Fld := ⟨0x5010, 0x40, 8, 16, 16, .wk, 0, .no, false⟩

/-- WRD_EXP_OPEN.open: Bit p: page p open to this ward; closed under R373 -/
def WRD_EXP_OPEN_open : Fld := ⟨0x5010, 0x40, 8, 0, 8, .wk, 0, .no, false⟩

/-- WRD_FRAMES.count: Frames naming the ward and carried out with status 0x00, on any port, modulo 2^32 -/
def WRD_FRAMES_count : Fld := ⟨0x5014, 0x40, 8, 0, 32, .ro, 0, .no, false⟩

/-- WRD_REFUSED.denied: Frames naming the ward that failed with 0x02 under check 8 of R363; saturates at 65,535 -/
def WRD_REFUSED_denied : Fld := ⟨0x5018, 0x40, 8, 16, 16, .ro, 0, .no, false⟩

/-- WRD_REFUSED.other: Frames naming the ward that failed with 0x04, 0x05, 0x06 or 0x07; saturates at 65,535 -/
def WRD_REFUSED_other : Fld := ⟨0x5018, 0x40, 8, 0, 16, .ro, 0, .no, false⟩

/-- HPT_CFG.wards: Bit n: frames on this port may name Wn -/
def HPT_CFG_wards : Fld := ⟨0x5800, 0x40, 3, 0, 8, .ro, 0, .yes, false⟩

/-- HPT_FAIL_HDR.header: Header of the last write or doorbell that failed on this port, as received -/
def HPT_FAIL_HDR_header : Fld := ⟨0x5804, 0x40, 3, 0, 32, .ro, 0, .no, false⟩

/-- HPT_FAIL_INFO.count: Failed writes and doorbells on this port, modulo 65,536 -/
def HPT_FAIL_INFO_count : Fld := ⟨0x5808, 0x40, 3, 16, 16, .ro, 0, .no, false⟩

/-- HPT_FAIL_INFO.code: Status code of the last failure -/
def HPT_FAIL_INFO_code : Fld := ⟨0x5808, 0x40, 3, 0, 3, .ro, 0, .no, false⟩

/-- HPT_FRAMES.count: Frames on this port carried out with status 0x00, modulo 2^32 -/
def HPT_FRAMES_count : Fld := ⟨0x580C, 0x40, 3, 0, 32, .ro, 0, .no, false⟩

/-- HPT_ERR.crc_errors: CRC and length errors under R359 and R363; saturates at 65,535 -/
def HPT_ERR_crc_errors : Fld := ⟨0x5810, 0x40, 3, 16, 16, .ro, 0, .no, false⟩

/-- HPT_ERR.bind_refusals: Frames refused under R370; saturates at 65,535 -/
def HPT_ERR_bind_refusals : Fld := ⟨0x5810, 0x40, 3, 0, 16, .ro, 0, .no, false⟩

/-- HPT_DISC.reads_ended: Reads ended by CSn before their CRC under R359; saturates at 65,535 -/
def HPT_DISC_reads_ended : Fld := ⟨0x5814, 0x40, 3, 16, 16, .ro, 0, .no, false⟩

/-- HPT_DISC.discarded: Writes and doorbells discarded under R364; saturates at 65,535 -/
def HPT_DISC_discarded : Fld := ⟨0x5814, 0x40, 3, 0, 16, .ro, 0, .no, false⟩

/-- OPS_SQ_CFG.en: 1: ring defined -/
def OPS_SQ_CFG_en : Fld := ⟨0x6000, 0x40, 8, 31, 1, .ro, 0, .yes, false⟩

/-- OPS_CQ_CFG.en: 1: ring defined -/
def OPS_CQ_CFG_en : Fld := ⟨0x6004, 0x40, 8, 31, 1, .ro, 0, .yes, false⟩

/-- OPS_SQ_CFG.bank: Ring bank B00 to B47 -/
def OPS_SQ_CFG_bank : Fld := ⟨0x6000, 0x40, 8, 24, 6, .ro, 0, .yes, false⟩

/-- OPS_CQ_CFG.bank: Ring bank B00 to B47 -/
def OPS_CQ_CFG_bank : Fld := ⟨0x6004, 0x40, 8, 24, 6, .ro, 0, .yes, false⟩

/-- OPS_SQ_CFG.log2: Ring of 2^log2 entries, 4 to 10 -/
def OPS_SQ_CFG_log2 : Fld := ⟨0x6000, 0x40, 8, 16, 4, .ro, 4, .yes, false⟩

/-- OPS_CQ_CFG.log2: Ring of 2^log2 entries, 4 to 10 -/
def OPS_CQ_CFG_log2 : Fld := ⟨0x6004, 0x40, 8, 16, 4, .ro, 4, .yes, false⟩

/-- OPS_SQ_CFG.base: Base word under R382 -/
def OPS_SQ_CFG_base : Fld := ⟨0x6000, 0x40, 8, 0, 12, .ro, 0, .yes, false⟩

/-- OPS_CQ_CFG.base: Base word under R382 -/
def OPS_CQ_CFG_base : Fld := ⟨0x6004, 0x40, 8, 0, 12, .ro, 0, .yes, false⟩

/-- OPS_QOS.cap16: Cap in units of 16 slots, 1 to 1,024 -/
def OPS_QOS_cap16 : Fld := ⟨0x6008, 0x40, 8, 20, 12, .ro, 64, .yes, false⟩

/-- OPS_QOS.res16: Reserved minimum in units of 16 slots, 0 to 1,024 -/
def OPS_QOS_res16 : Fld := ⟨0x6008, 0x40, 8, 8, 12, .ro, 0, .yes, false⟩

/-- OPS_QOS.weight: Weight 1 to 15 -/
def OPS_QOS_weight : Fld := ⟨0x6008, 0x40, 8, 0, 4, .ro, 1, .yes, false⟩

/-- OPS_URG.depth: Bucket depth, 0 to 255 -/
def OPS_URG_depth : Fld := ⟨0x600C, 0x40, 8, 8, 8, .ro, 0, .yes, false⟩

/-- OPS_URG.rate: Tokens per ms, 0 to 255 -/
def OPS_URG_rate : Fld := ⟨0x600C, 0x40, 8, 0, 8, .ro, 0, .yes, false⟩

/-- OPS_NVM_EXT.size: Extent in 4 KiB sectors; 0 none -/
def OPS_NVM_EXT_size : Fld := ⟨0x6010, 0x40, 8, 16, 16, .ro, 0, .yes, false⟩

/-- OPS_NVM_EXT.base: First sector, counted from 0x0007_0000 -/
def OPS_NVM_EXT_base : Fld := ⟨0x6010, 0x40, 8, 0, 16, .ro, 0, .yes, false⟩

/-- OPS_SQ_IDX.tail: Tail from the last accepted doorbell -/
def OPS_SQ_IDX_tail : Fld := ⟨0x6014, 0x40, 8, 16, 16, .ro, 0, .no, false⟩

/-- OPS_SQ_IDX.head: Next entry to accept -/
def OPS_SQ_IDX_head : Fld := ⟨0x6014, 0x40, 8, 0, 16, .ro, 0, .no, false⟩

/-- OPS_CQ_IDX.head: Next entry the ward will consume -/
def OPS_CQ_IDX_head : Fld := ⟨0x6018, 0x40, 8, 16, 16, .rw, 0, .no, false⟩

/-- OPS_CQ_IDX.tail: Next entry the hub will write -/
def OPS_CQ_IDX_tail : Fld := ⟨0x6018, 0x40, 8, 0, 16, .ro, 0, .no, false⟩

/-- OPS_CNT.count: Accepted or retired operations, modulo 2^32 -/
def OPS_CNT_count : Fld := ⟨0x6020, 0x40, 8, 0, 32, .ro, 0, .no, false⟩

/-- OPS_DONE.count: Accepted or retired operations, modulo 2^32 -/
def OPS_DONE_count : Fld := ⟨0x6028, 0x40, 8, 0, 32, .ro, 0, .no, false⟩

/-- OPS_CNT_WRAP.flag: OPS_CNT has wrapped since last cleared -/
def OPS_CNT_WRAP_flag : Fld := ⟨0x6024, 0x40, 8, 31, 1, .w1c, 0, .no, false⟩

/-- OPS_CNT_WRAP.wraps: Wraps; saturates at 65,535 -/
def OPS_CNT_WRAP_wraps : Fld := ⟨0x6024, 0x40, 8, 0, 16, .ro, 0, .no, false⟩

/-- OPS_CANCEL.tag: A write requests cancellation under R401 -/
def OPS_CANCEL_tag : Fld := ⟨0x602C, 0x40, 8, 0, 32, .rw, 0, .no, false⟩

/-- OPS_STAT.demoted: Urgent operations dispatched as Normal; saturates at 65,535 -/
def OPS_STAT_demoted : Fld := ⟨0x6030, 0x40, 8, 16, 16, .ro, 0, .no, false⟩

/-- OPS_STAT.ring_err: OPS_RING raised for this ward -/
def OPS_STAT_ring_err : Fld := ⟨0x6030, 0x40, 8, 10, 1, .w1c, 0, .no, false⟩

/-- OPS_STAT.cancel_res: 0 none, 1 cancelled, 2 no such operation, 3 already executing -/
def OPS_STAT_cancel_res : Fld := ⟨0x6030, 0x40, 8, 0, 2, .ro, 0, .no, false⟩

/-- OPS_QOS_RT.cap16_rt: Run-time cap under R411; 0 the Blank's -/
def OPS_QOS_RT_cap16_rt : Fld := ⟨0x6034, 0x40, 8, 20, 12, .rw, 0, .no, false⟩

/-- OPS_QOS_RT.weight_rt: Run-time weight under R411; 0 the Blank's -/
def OPS_QOS_RT_weight_rt : Fld := ⟨0x6034, 0x40, 8, 0, 4, .rw, 0, .no, false⟩

/-- OPS_POOL_CFG.size_k: Pool of 1,024 × size_k slots, 0 to 16 -/
def OPS_POOL_CFG_size_k : Fld := ⟨0x6800, 0x0, 1, 0, 5, .ro, 16, .yes, false⟩

/-- OPS_POOL_STAT.peak: Most slots in flight since logic-die reset -/
def OPS_POOL_STAT_peak : Fld := ⟨0x6804, 0x0, 1, 16, 15, .ro, 0, .no, false⟩

/-- INT_CFG.route: 1: the ward's requests drive a pin -/
def INT_CFG_route : Fld := ⟨0x7000, 0x20, 8, 31, 1, .ro, 0, .yes, false⟩

/-- INT_CFG.pin: INT0 to INT3 -/
def INT_CFG_pin : Fld := ⟨0x7000, 0x20, 8, 24, 2, .ro, 0, .yes, false⟩

/-- INT_CFG.mod_us: Moderation interval in µs -/
def INT_CFG_mod_us : Fld := ⟨0x7000, 0x20, 8, 0, 16, .ro, 0, .yes, false⟩

/-- INT_EN.en: Bit b: source b enabled; bits 22 and 23 for W0 only -/
def INT_EN_en : Fld := ⟨0x7004, 0x20, 8, 0, 32, .rw, 0, .yes, false⟩

/-- INT_STAT.stat: Bit b: source b has occurred, under R419 -/
def INT_STAT_stat : Fld := ⟨0x7008, 0x20, 8, 0, 32, .w1c, 0, .no, false⟩

/-- INT_MOD.mod_rt: Page 6: moderation trim under R438 -/
def INT_MOD_mod_rt : Fld := ⟨0x7010, 0x20, 8, 16, 16, .rw, 0, .no, false⟩

/-- INT_CNT.count: Releases, modulo 2^32 -/
def INT_CNT_count : Fld := ⟨0x7014, 0x20, 8, 0, 32, .ro, 0, .no, false⟩

/-- INT_PIN_CFG.width: Pulse width in 0.1 µs units, 1 to 255 -/
def INT_PIN_CFG_width : Fld := ⟨0x7400, 0x4, 4, 8, 8, .ro, 1, .yes, false⟩

/-- INT_PIN_CFG.mode: 0 level, 1 pulse -/
def INT_PIN_CFG_mode : Fld := ⟨0x7400, 0x4, 4, 0, 1, .ro, 0, .yes, false⟩

/-- RST_CAUSE.entry: History entry of the reset that ended in this boot, under R435 -/
def RST_CAUSE_entry : Fld := ⟨0x7800, 0x0, 1, 0, 32, .ro, 0, .no, false⟩

/-- RST_DEV.key: 0x5253_5444: device soft reset; reads 0 -/
def RST_DEV_key : Fld := ⟨0x7804, 0x0, 1, 0, 32, .wk, 0, .no, false⟩

/-- RST_FIELD.key: 0x5253_5446: field die reset; reads 0 -/
def RST_FIELD_key : Fld := ⟨0x7808, 0x0, 1, 0, 32, .wk, 0, .no, false⟩

/-- RST_WARD.key: Must be 0x5752; reads 0 -/
def RST_WARD_key : Fld := ⟨0x780C, 0x0, 1, 16, 16, .wk, 0, .no, false⟩

/-- RST_WARD.ward: Ward to reset, under R430 -/
def RST_WARD_ward : Fld := ⟨0x780C, 0x0, 1, 0, 3, .wk, 0, .no, false⟩

/-- RST_FIELD_STAT.count: Field die resets ordered since logic-die reset; saturates at 65,535 -/
def RST_FIELD_STAT_count : Fld := ⟨0x7810, 0x0, 1, 16, 16, .ro, 0, .no, false⟩

/-- RST_FIELD_STAT.timeout: The last field die reset raised HINGE_LOST -/
def RST_FIELD_STAT_timeout : Fld := ⟨0x7810, 0x0, 1, 1, 1, .ro, 0, .no, false⟩

/-- RST_FIELD_STAT.busy: A field die reset is running -/
def RST_FIELD_STAT_busy : Fld := ⟨0x7810, 0x0, 1, 0, 1, .ro, 0, .no, false⟩

/-- RST_WARD_CFG.clear_rings: 1: clear the ring entries at ward reset -/
def RST_WARD_CFG_clear_rings : Fld := ⟨0x7900, 0x10, 8, 1, 1, .ro, 0, .yes, false⟩

/-- RST_WARD_CFG.clear_banks: 1: clear every owned bank at ward reset -/
def RST_WARD_CFG_clear_banks : Fld := ⟨0x7900, 0x10, 8, 0, 1, .ro, 0, .yes, false⟩

/-- RST_WARD_STAT.reason: Last ward reset: 1 self, 2 W0, 3 watchdog -/
def RST_WARD_STAT_reason : Fld := ⟨0x7904, 0x10, 8, 4, 2, .ro, 0, .no, false⟩

/-- RST_WARD_STAT.busy: Ward reset running, steps 1 to 4 of R431 -/
def RST_WARD_STAT_busy : Fld := ⟨0x7904, 0x10, 8, 0, 1, .ro, 0, .no, false⟩

/-- BNK_OWNER.to: Target identity; reads the pending target, or 0xFF -/
def BNK_OWNER_to : Fld := ⟨0xF000, 0x10, 48, 16, 8, .wk, 255, .no, false⟩

/-- BNK_OWNER.scrub: 1: scrub on this handover; reads the pending request's bit -/
def BNK_OWNER_scrub : Fld := ⟨0xF000, 0x10, 48, 8, 1, .wk, 0, .no, false⟩

/-- BNK_OWNER.owner: Current owner under R450; not in the shadow -/
def BNK_OWNER_owner : Fld := ⟨0xF000, 0x10, 48, 0, 8, .ro, 255, .yes, false⟩

/-- BNK_STAT.handovers: Completed handovers; saturates at 65,535 -/
def BNK_STAT_handovers : Fld := ⟨0xF004, 0x10, 48, 16, 16, .ro, 0, .no, false⟩

/-- BNK_STAT.result: 0 none; 1 done; 2 target in *Reset*; 3 target invalid; 4 bank holds a ring; 5 giver reset or domain off -/
def BNK_STAT_result : Fld := ⟨0xF004, 0x10, 48, 8, 3, .ro, 0, .no, false⟩

/-- BNK_STAT.scrubbed: The last completed handover scrubbed the bank -/
def BNK_STAT_scrubbed : Fld := ⟨0xF004, 0x10, 48, 5, 1, .ro, 0, .no, false⟩

/-- BNK_STAT.clearing: The bank is being cleared or scrubbed -/
def BNK_STAT_clearing : Fld := ⟨0xF004, 0x10, 48, 3, 1, .ro, 0, .no, false⟩

/-- BNK_STAT.draining: Outstanding accesses are being drained -/
def BNK_STAT_draining : Fld := ⟨0xF004, 0x10, 48, 2, 1, .ro, 0, .no, false⟩

/-- BNK_STAT.pending: A handover is pending -/
def BNK_STAT_pending : Fld := ⟨0xF004, 0x10, 48, 1, 1, .ro, 0, .no, false⟩

/-- BNK_STAT.handed: The bank came by handover under R456 -/
def BNK_STAT_handed : Fld := ⟨0xF004, 0x10, 48, 0, 1, .w1c, 0, .no, false⟩

/-- BNK_CTRL.scrub_force: 1: every handover of this bank scrubs it -/
def BNK_CTRL_scrub_force : Fld := ⟨0xF008, 0x10, 48, 1, 1, .ro, 0, .yes, false⟩

/-- BNK_CTRL.retain: Retain flag under R457 -/
def BNK_CTRL_retain : Fld := ⟨0xF008, 0x10, 48, 0, 1, .rw, 0, .yes, false⟩

/-- BNK_ECC.ue: Uncorrectable errors found; saturates at 65,535 -/
def BNK_ECC_ue : Fld := ⟨0xF00C, 0x10, 48, 16, 16, .ro, 0, .no, false⟩

/-- BNK_ECC.ce: Corrected errors; saturates at 65,535 -/
def BNK_ECC_ce : Fld := ⟨0xF00C, 0x10, 48, 0, 16, .ro, 0, .no, false⟩

/-- BNK_SCRUB.passes: Full passes of all groups; saturates at 65,535 -/
def BNK_SCRUB_passes : Fld := ⟨0xF400, 0x0, 1, 16, 16, .ro, 0, .no, false⟩

/-- BNK_SCRUB.max_us: Longest full pass measured, in µs -/
def BNK_SCRUB_max_us : Fld := ⟨0xF400, 0x0, 1, 0, 16, .ro, 0, .no, false⟩

/-- BNK_ECC_ADDR.valid: An uncorrectable error has been recorded -/
def BNK_ECC_ADDR_valid : Fld := ⟨0xF404, 0x0, 1, 31, 1, .ro, 0, .no, false⟩

/-- BNK_ECC_ADDR.bank: 0 to 47 for B00 to B47; 48 DP0; 49 DP1 -/
def BNK_ECC_ADDR_bank : Fld := ⟨0xF404, 0x0, 1, 24, 6, .ro, 0, .no, false⟩

/-- BNK_ECC_ADDR.word: Word offset in the bank -/
def BNK_ECC_ADDR_word : Fld := ⟨0xF404, 0x0, 1, 0, 12, .ro, 0, .no, false⟩

/-- BNK_REFUSED.wrong_key: Handover writes refused for their key; saturates at 65,535 -/
def BNK_REFUSED_wrong_key : Fld := ⟨0xF408, 0x0, 1, 0, 16, .ro, 0, .no, false⟩

/-- BNK_DP_ECC.dp1_ue: DP1 uncorrectable errors; saturates at 255 -/
def BNK_DP_ECC_dp1_ue : Fld := ⟨0xF40C, 0x0, 1, 24, 8, .ro, 0, .no, false⟩

/-- BNK_DP_ECC.dp1_ce: DP1 corrected errors; saturates at 255 -/
def BNK_DP_ECC_dp1_ce : Fld := ⟨0xF40C, 0x0, 1, 16, 8, .ro, 0, .no, false⟩

/-- BNK_DP_ECC.dp0_ue: DP0 uncorrectable errors; saturates at 255 -/
def BNK_DP_ECC_dp0_ue : Fld := ⟨0xF40C, 0x0, 1, 8, 8, .ro, 0, .no, false⟩

/-- BNK_DP_ECC.dp0_ce: DP0 corrected errors; saturates at 255 -/
def BNK_DP_ECC_dp0_ce : Fld := ⟨0xF40C, 0x0, 1, 0, 8, .ro, 0, .no, false⟩

/-- SCH_CFG.stagger_ms: Heavy stagger, 2 ms to 50 ms -/
def SCH_CFG_stagger_ms : Fld := ⟨0x10000, 0x0, 1, 24, 6, .ro, 2, .yes, false⟩

/-- SCH_CFG.age_ms: Blocking age, 10 ms to 255 ms -/
def SCH_CFG_age_ms : Fld := ⟨0x10000, 0x0, 1, 16, 8, .ro, 50, .yes, false⟩

/-- SCH_CFG.horizon_ms: Horizon, 20 ms to 1,000 ms -/
def SCH_CFG_horizon_ms : Fld := ⟨0x10000, 0x0, 1, 0, 10, .ro, 200, .yes, false⟩

/-- SCH_TLIM.restore_margin: Restore margin, 2 °C to 40 °C -/
def SCH_TLIM_restore_margin : Fld := ⟨0x10004, 0x0, 1, 24, 8, .ro, 10, .yes, false⟩

/-- SCH_TLIM.logic_soft: Logic die limit, 90 °C to 135 °C -/
def SCH_TLIM_logic_soft : Fld := ⟨0x10004, 0x0, 1, 16, 8, .ro, 125, .yes, false⟩

/-- SCH_TLIM.field_soft: Field sensor limit, 100 °C to 150 °C -/
def SCH_TLIM_field_soft : Fld := ⟨0x10004, 0x0, 1, 8, 8, .ro, 140, .yes, false⟩

/-- SCH_TLIM.tj_soft: Junction limit, 100 °C to 165 °C -/
def SCH_TLIM_tj_soft : Fld := ⟨0x10004, 0x0, 1, 0, 8, .ro, 150, .yes, false⟩

/-- SCH_VF_BUD.burst: Burst in 0.1 J units, 0 to 3,000 -/
def SCH_VF_BUD_burst : Fld := ⟨0x10008, 0x0, 1, 16, 16, .ro, 0, .yes, false⟩

/-- SCH_VF_BUD.p_avg: Average in 0.1 W units; 0 no budget -/
def SCH_VF_BUD_p_avg : Fld := ⟨0x10008, 0x0, 1, 0, 16, .ro, 0, .yes, false⟩

/-- SCH_LOGIC.nvm_cycles: Journal erases per sector per day, 1 to 255 -/
def SCH_LOGIC_nvm_cycles : Fld := ⟨0x1000C, 0x0, 1, 16, 8, .ro, 100, .yes, false⟩

/-- SCH_LOGIC.ma_max: VDD budget, 10 mA to 200 mA -/
def SCH_LOGIC_ma_max : Fld := ⟨0x1000C, 0x0, 1, 0, 8, .ro, 60, .yes, false⟩

/-- SCH_NOSHED.tmb: Bit t: Tt protects its channels under R487 -/
def SCH_NOSHED_tmb : Fld := ⟨0x10010, 0x0, 1, 0, 8, .ro, 0, .yes, false⟩

/-- SCH_STAT.vf_cross: Supply crossing present -/
def SCH_STAT_vf_cross : Fld := ⟨0x10014, 0x0, 1, 18, 1, .ro, 0, .no, false⟩

/-- SCH_STAT.warn: THERM_WARN present -/
def SCH_STAT_warn : Fld := ⟨0x10014, 0x0, 1, 17, 1, .ro, 0, .no, false⟩

/-- SCH_STAT.over: SCH_OVER present -/
def SCH_STAT_over : Fld := ⟨0x10014, 0x0, 1, 16, 1, .ro, 0, .no, false⟩

/-- SCH_STAT.queued: Candidates queued -/
def SCH_STAT_queued : Fld := ⟨0x10014, 0x0, 1, 0, 16, .ro, 0, .no, false⟩

/-- SCH_SHED.total: Sheds since logic-die reset; saturates at 65,535 -/
def SCH_SHED_total : Fld := ⟨0x10018, 0x0, 1, 16, 16, .ro, 0, .no, false⟩

/-- SCH_SHED.ch: Bit n: CHn shed -/
def SCH_SHED_ch : Fld := ⟨0x10018, 0x0, 1, 0, 16, .ro, 0, .no, false⟩

/-- SCH_VF_STAT.account: A in 0.1 J units, signed -/
def SCH_VF_STAT_account : Fld := ⟨0x1001C, 0x0, 1, 16, 16, .ro, 0, .no, false⟩

/-- SCH_VF_STAT.p_meas: Pmeas in 0.1 W units -/
def SCH_VF_STAT_p_meas : Fld := ⟨0x1001C, 0x0, 1, 0, 16, .ro, 0, .no, false⟩

/-- SCH_WORST.node: 0 to 15 junction of CHn; 16 to 21 S0 to S5; 22, 23 L0, L1; 24 supply -/
def SCH_WORST_node : Fld := ⟨0x10020, 0x0, 1, 16, 8, .ro, 0, .no, false⟩

/-- SCH_WORST.value: Highest peak relative to its limit, in 0.125 °C, signed; for the supply, predicted energy over the horizon less A, in 0.1 J. The node shown is the thermal node, junction, field sensor or logic die, whose peak lies highest relative to its limit, compared in degrees. The supply is shown instead only when every thermal node lies below its limit and the supply's value is above 0 -/
def SCH_WORST_value : Fld := ⟨0x10020, 0x0, 1, 0, 16, .ro, 0, .no, false⟩

/-- SCH_LOGIC_STAT.erases_max: Most erases of one journal sector this day -/
def SCH_LOGIC_STAT_erases_max : Fld := ⟨0x10024, 0x0, 1, 8, 8, .ro, 0, .no, false⟩

/-- SCH_LOGIC_STAT.ma_now: Admitted VDD current running -/
def SCH_LOGIC_STAT_ma_now : Fld := ⟨0x10024, 0x0, 1, 0, 8, .ro, 0, .no, false⟩

/-- SCH_TJ.pred: Running predicted peak of CHn, 0.125 °C, signed -/
def SCH_TJ_pred : Fld := ⟨0x10040, 0x4, 16, 16, 16, .ro, 0, .no, false⟩

/-- SCH_MODEL0.r3: Node resistances in 0.1 K/W -/
def SCH_MODEL0_r3 : Fld := ⟨0x10080, 0x0, 1, 16, 8, .ro, 100, .patch, false⟩

/-- SCH_MODEL0.r2: Node resistances in 0.1 K/W -/
def SCH_MODEL0_r2 : Fld := ⟨0x10080, 0x0, 1, 8, 8, .ro, 200, .patch, false⟩

/-- SCH_MODEL0.r1: Node resistances in 0.1 K/W -/
def SCH_MODEL0_r1 : Fld := ⟨0x10080, 0x0, 1, 0, 8, .ro, 40, .patch, false⟩

/-- SCH_MODEL1.tau3: τ3 in 10 ms, τ2 in 1 ms, τ1 in 0.1 ms units -/
def SCH_MODEL1_tau3 : Fld := ⟨0x10084, 0x0, 1, 16, 8, .ro, 30, .patch, false⟩

/-- SCH_MODEL1.tau2: τ3 in 10 ms, τ2 in 1 ms, τ1 in 0.1 ms units -/
def SCH_MODEL1_tau2 : Fld := ⟨0x10084, 0x0, 1, 8, 8, .ro, 10, .patch, false⟩

/-- SCH_MODEL1.tau1: τ3 in 10 ms, τ2 in 1 ms, τ1 in 0.1 ms units -/
def SCH_MODEL1_tau1 : Fld := ⟨0x10084, 0x0, 1, 0, 8, .ro, 5, .patch, false⟩

/-- SCH_MODEL2.slope: RDS slope in 0.01 mΩ/°C; RDS at 25 °C in mΩ -/
def SCH_MODEL2_slope : Fld := ⟨0x10088, 0x0, 1, 8, 8, .ro, 80, .patch, false⟩

/-- SCH_MODEL2.rds25: RDS slope in 0.01 mΩ/°C; RDS at 25 °C in mΩ -/
def SCH_MODEL2_rds25 : Fld := ⟨0x10088, 0x0, 1, 0, 8, .ro, 160, .patch, false⟩

/-- SCH_RT.stagger_rt: Page 3: ward stagger in ms; 0 the Blank's -/
def SCH_RT_stagger_rt : Fld := ⟨0x10100, 0x10, 8, 8, 6, .rw, 0, .no, false⟩

/-- SCH_RT.tj_soft_rt: Page 3: ward junction limit in °C; 0 the Blank's -/
def SCH_RT_tj_soft_rt : Fld := ⟨0x10100, 0x10, 8, 0, 8, .rw, 0, .no, false⟩

/-- SCH_WSTAT.reason: Last deferral: bit 16 junction, 17 field sensor, 18 supply, 19 VDD or logic die, 20 stagger, 21 VDD warning, 22 VHOLD or endurance -/
def SCH_WSTAT_reason : Fld := ⟨0x10104, 0x10, 8, 16, 8, .ro, 0, .no, false⟩

/-- SCH_WSTAT.deferred: The ward's candidates queued now -/
def SCH_WSTAT_deferred : Fld := ⟨0x10104, 0x10, 8, 0, 16, .ro, 0, .no, false⟩

/-- SCH_WDEFER.count: Decisions at which a candidate of the ward was deferred, modulo 2^32 -/
def SCH_WDEFER_count : Fld := ⟨0x10108, 0x10, 8, 0, 32, .ro, 0, .no, false⟩

/-- Fields of the WRD_ block, part 0. -/
def fldsWRD0 : List Fld :=
  [WRD_CFG_defined,
   WRD_CFG_exp_allow,
   WRD_CH_ch,
   WRD_TMB_tmb,
   WRD_STAT_resets,
   WRD_EXP_OPEN_key,
   WRD_EXP_OPEN_open,
   WRD_FRAMES_count,
   WRD_REFUSED_denied,
   WRD_REFUSED_other]

/-- Every stored field of the WRD_ block. -/
def fldsWRD : List Fld :=
  fldsWRD0

/-- Fields of the HPT_ block, part 0. -/
def fldsHPT0 : List Fld :=
  [HPT_CFG_wards,
   HPT_FAIL_HDR_header,
   HPT_FAIL_INFO_count,
   HPT_FAIL_INFO_code,
   HPT_FRAMES_count,
   HPT_ERR_crc_errors,
   HPT_ERR_bind_refusals,
   HPT_DISC_reads_ended,
   HPT_DISC_discarded]

/-- Every stored field of the HPT_ block. -/
def fldsHPT : List Fld :=
  fldsHPT0

/-- Fields of the OPS_ block, part 0. -/
def fldsOPS0 : List Fld :=
  [OPS_SQ_CFG_en,
   OPS_CQ_CFG_en,
   OPS_SQ_CFG_bank,
   OPS_CQ_CFG_bank,
   OPS_SQ_CFG_log2,
   OPS_CQ_CFG_log2,
   OPS_SQ_CFG_base,
   OPS_CQ_CFG_base,
   OPS_QOS_cap16,
   OPS_QOS_res16,
   OPS_QOS_weight,
   OPS_URG_depth]

/-- Fields of the OPS_ block, part 1. -/
def fldsOPS1 : List Fld :=
  [OPS_URG_rate,
   OPS_NVM_EXT_size,
   OPS_NVM_EXT_base,
   OPS_SQ_IDX_tail,
   OPS_SQ_IDX_head,
   OPS_CQ_IDX_head,
   OPS_CQ_IDX_tail,
   OPS_CNT_count,
   OPS_DONE_count,
   OPS_CNT_WRAP_flag,
   OPS_CNT_WRAP_wraps,
   OPS_CANCEL_tag]

/-- Fields of the OPS_ block, part 2. -/
def fldsOPS2 : List Fld :=
  [OPS_STAT_demoted,
   OPS_STAT_ring_err,
   OPS_STAT_cancel_res,
   OPS_QOS_RT_cap16_rt,
   OPS_QOS_RT_weight_rt,
   OPS_POOL_CFG_size_k,
   OPS_POOL_STAT_peak]

/-- Every stored field of the OPS_ block. -/
def fldsOPS : List Fld :=
  fldsOPS0 ++ fldsOPS1 ++ fldsOPS2

/-- Fields of the INT_ block, part 0. -/
def fldsINT0 : List Fld :=
  [INT_CFG_route,
   INT_CFG_pin,
   INT_CFG_mod_us,
   INT_EN_en,
   INT_STAT_stat,
   INT_MOD_mod_rt,
   INT_CNT_count,
   INT_PIN_CFG_width,
   INT_PIN_CFG_mode]

/-- Every stored field of the INT_ block. -/
def fldsINT : List Fld :=
  fldsINT0

/-- Fields of the RST_ block, part 0. -/
def fldsRST0 : List Fld :=
  [RST_CAUSE_entry,
   RST_DEV_key,
   RST_FIELD_key,
   RST_WARD_key,
   RST_WARD_ward,
   RST_FIELD_STAT_count,
   RST_FIELD_STAT_timeout,
   RST_FIELD_STAT_busy,
   RST_WARD_CFG_clear_rings,
   RST_WARD_CFG_clear_banks,
   RST_WARD_STAT_reason,
   RST_WARD_STAT_busy]

/-- Every stored field of the RST_ block. -/
def fldsRST : List Fld :=
  fldsRST0

/-- Fields of the BNK_ block, part 0. -/
def fldsBNK0 : List Fld :=
  [BNK_OWNER_to,
   BNK_OWNER_scrub,
   BNK_OWNER_owner,
   BNK_STAT_handovers,
   BNK_STAT_result,
   BNK_STAT_scrubbed,
   BNK_STAT_clearing,
   BNK_STAT_draining,
   BNK_STAT_pending,
   BNK_STAT_handed,
   BNK_CTRL_scrub_force,
   BNK_CTRL_retain]

/-- Fields of the BNK_ block, part 1. -/
def fldsBNK1 : List Fld :=
  [BNK_ECC_ue,
   BNK_ECC_ce,
   BNK_SCRUB_passes,
   BNK_SCRUB_max_us,
   BNK_ECC_ADDR_valid,
   BNK_ECC_ADDR_bank,
   BNK_ECC_ADDR_word,
   BNK_REFUSED_wrong_key,
   BNK_DP_ECC_dp1_ue,
   BNK_DP_ECC_dp1_ce,
   BNK_DP_ECC_dp0_ue,
   BNK_DP_ECC_dp0_ce]

/-- Every stored field of the BNK_ block. -/
def fldsBNK : List Fld :=
  fldsBNK0 ++ fldsBNK1

/-- Fields of the SCH_ block, part 0. -/
def fldsSCH0 : List Fld :=
  [SCH_CFG_stagger_ms,
   SCH_CFG_age_ms,
   SCH_CFG_horizon_ms,
   SCH_TLIM_restore_margin,
   SCH_TLIM_logic_soft,
   SCH_TLIM_field_soft,
   SCH_TLIM_tj_soft,
   SCH_VF_BUD_burst,
   SCH_VF_BUD_p_avg,
   SCH_LOGIC_nvm_cycles,
   SCH_LOGIC_ma_max,
   SCH_NOSHED_tmb]

/-- Fields of the SCH_ block, part 1. -/
def fldsSCH1 : List Fld :=
  [SCH_STAT_vf_cross,
   SCH_STAT_warn,
   SCH_STAT_over,
   SCH_STAT_queued,
   SCH_SHED_total,
   SCH_SHED_ch,
   SCH_VF_STAT_account,
   SCH_VF_STAT_p_meas,
   SCH_WORST_node,
   SCH_WORST_value,
   SCH_LOGIC_STAT_erases_max,
   SCH_LOGIC_STAT_ma_now]

/-- Fields of the SCH_ block, part 2. -/
def fldsSCH2 : List Fld :=
  [SCH_TJ_pred,
   SCH_MODEL0_r3,
   SCH_MODEL0_r2,
   SCH_MODEL0_r1,
   SCH_MODEL1_tau3,
   SCH_MODEL1_tau2,
   SCH_MODEL1_tau1,
   SCH_MODEL2_slope,
   SCH_MODEL2_rds25,
   SCH_RT_stagger_rt,
   SCH_RT_tj_soft_rt,
   SCH_WSTAT_reason]

/-- Fields of the SCH_ block, part 3. -/
def fldsSCH3 : List Fld :=
  [SCH_WSTAT_deferred,
   SCH_WDEFER_count]

/-- Every stored field of the SCH_ block. -/
def fldsSCH : List Fld :=
  fldsSCH0 ++ fldsSCH1 ++ fldsSCH2 ++ fldsSCH3

end Sys2Proof.Machine
end

