-- ==== Sys2Proof/Machine/RegsSafety.lean ====
section
/-!
DEFINITION. The stored register fields of the DBT_, FLT_, WDG_, BST_, REC_ and LIFE_ blocks, one constant each, from the register tables
of the spec: address, distance between the copies, number of copies, lowest bit, width, access, reset value, Blank column.
-/

namespace Sys2Proof.Machine

/-- DBT_CFG.fhold_max_ms: FHOLD limit for safety outputs, 0 ms to 1,000 ms -/
def DBT_CFG_fhold_max_ms : Fld := ⟨0x11000, 0x0, 1, 0, 16, .ro, 100, .yes, false⟩

/-- DBT_TIME.tsens_ms: Temperature-comparison window, 2 ms to 8 ms -/
def DBT_TIME_tsens_ms : Fld := ⟨0x11004, 0x0, 1, 16, 8, .ro, 8, .yes, false⟩

/-- DBT_TIME.hb_us: Heartbeat detection time, 100 µs to 200 µs -/
def DBT_TIME_hb_us : Fld := ⟨0x11004, 0x0, 1, 0, 8, .ro, 200, .yes, false⟩

/-- DBT_PROOF_CFG.rotation_s: Rotation period, 10 s to 43,200 s -/
def DBT_PROOF_CFG_rotation_s : Fld := ⟨0x11008, 0x0, 1, 0, 16, .ro, 60, .yes, false⟩

/-- DBT_STAT.db_forced: DB is sending BOLT under R515 -/
def DBT_STAT_db_forced : Fld := ⟨0x11010, 0x0, 1, 6, 1, .ro, 0, .no, false⟩

/-- DBT_STAT.hb_ok: Valid heartbeats are arriving in both directions -/
def DBT_STAT_hb_ok : Fld := ⟨0x11010, 0x0, 1, 2, 1, .ro, 0, .no, false⟩

/-- DBT_SAFE_EXIT.key: 0x5346_4558 leaves *Safe*; reads 0 -/
def DBT_SAFE_EXIT_key : Fld := ⟨0x11014, 0x0, 1, 0, 32, .wk, 0, .no, false⟩

/-- DBT_SAFE_CAUSE.entries: Entries to *Safe*; saturates at 65,535 -/
def DBT_SAFE_CAUSE_entries : Fld := ⟨0x11018, 0x0, 1, 16, 16, .ro, 0, .no, false⟩

/-- DBT_SAFE_CAUSE.refused: DBT_SAFE_EXIT writes refused; saturates at 255 -/
def DBT_SAFE_CAUSE_refused : Fld := ⟨0x11018, 0x0, 1, 8, 8, .ro, 0, .no, false⟩

/-- DBT_SAFE_CAUSE.source: Number of the fault source that caused the last entry -/
def DBT_SAFE_CAUSE_source : Fld := ⟨0x11018, 0x0, 1, 0, 8, .ro, 0, .no, false⟩

/-- DBT_STARTUP.done: The start-up tests have ended -/
def DBT_STARTUP_done : Fld := ⟨0x1101C, 0x0, 1, 31, 1, .ro, 0, .no, false⟩

/-- DBT_STARTUP.time: Duration of the start-up tests, in 10 µs units -/
def DBT_STARTUP_time : Fld := ⟨0x1101C, 0x0, 1, 16, 11, .ro, 0, .no, false⟩

/-- DBT_STARTUP.passed: Bit b: test b of R518 passed -/
def DBT_STARTUP_passed : Fld := ⟨0x1101C, 0x0, 1, 0, 14, .ro, 0, .no, false⟩

/-- DBT_HB.da_cnt: Counter of DA's latest heartbeat -/
def DBT_HB_da_cnt : Fld := ⟨0x11020, 0x0, 1, 24, 8, .ro, 0, .no, false⟩

/-- DBT_HB.db_cnt: Counter of DB's latest valid heartbeat -/
def DBT_HB_db_cnt : Fld := ⟨0x11020, 0x0, 1, 16, 8, .ro, 0, .no, false⟩

/-- DBT_HB.invalid: Invalid heartbeats and counter skips; saturates at 65,535 -/
def DBT_HB_invalid : Fld := ⟨0x11020, 0x0, 1, 0, 16, .ro, 0, .no, false⟩

/-- DBT_PROOF_CTRL.key: Must be 0x5052; reads 0 -/
def DBT_PROOF_CTRL_key : Fld := ⟨0x11024, 0x0, 1, 16, 16, .wk, 0, .no, false⟩

/-- DBT_PROOF_CTRL.pause_min: Pause of 1 to 60 minutes; 0 resumes -/
def DBT_PROOF_CTRL_pause_min : Fld := ⟨0x11024, 0x0, 1, 10, 6, .wk, 0, .no, false⟩

/-- DBT_PROOF_CTRL.now: 1: prove the named instance next -/
def DBT_PROOF_CTRL_now : Fld := ⟨0x11024, 0x0, 1, 9, 1, .wk, 0, .no, false⟩

/-- DBT_PROOF_CTRL.inst: Instance -/
def DBT_PROOF_CTRL_inst : Fld := ⟨0x11024, 0x0, 1, 4, 5, .wk, 0, .no, false⟩

/-- DBT_PROOF_CTRL.mech: Mechanism -/
def DBT_PROOF_CTRL_mech : Fld := ⟨0x11024, 0x0, 1, 0, 4, .wk, 0, .no, false⟩

/-- DBT_PROOF_STAT.rotations: Completed rotations; saturates at 65,535 -/
def DBT_PROOF_STAT_rotations : Fld := ⟨0x11028, 0x0, 1, 16, 16, .ro, 0, .no, false⟩

/-- DBT_PROOF_STAT.oldest_min: Longest active time of any instance since its last passing proof, in minutes -/
def DBT_PROOF_STAT_oldest_min : Fld := ⟨0x11028, 0x0, 1, 0, 16, .ro, 0, .no, false⟩

/-- DBT_PROOF_LAST.mech: Mechanism of the last proof -/
def DBT_PROOF_LAST_mech : Fld := ⟨0x1102C, 0x0, 1, 28, 4, .ro, 0, .no, false⟩

/-- DBT_PROOF_LAST.inst: Instance of the last proof -/
def DBT_PROOF_LAST_inst : Fld := ⟨0x1102C, 0x0, 1, 23, 5, .ro, 0, .no, false⟩

/-- DBT_PROOF_LAST.pass: The last proof passed -/
def DBT_PROOF_LAST_pass : Fld := ⟨0x1102C, 0x0, 1, 22, 1, .ro, 0, .no, false⟩

/-- DBT_PROOF_LAST.overlap: A real fault was found at its re-check under R528 -/
def DBT_PROOF_LAST_overlap : Fld := ⟨0x1102C, 0x0, 1, 21, 1, .ro, 0, .no, false⟩

/-- DBT_PROOF_TIME.ticks: Measured detection time of the last proof -/
def DBT_PROOF_TIME_ticks : Fld := ⟨0x11030, 0x0, 1, 0, 32, .ro, 0, .no, false⟩

/-- DBT_PROOF_FAIL.mech: Mechanism of the last failure -/
def DBT_PROOF_FAIL_mech : Fld := ⟨0x11034, 0x0, 1, 28, 4, .ro, 0, .no, false⟩

/-- DBT_PROOF_FAIL.inst: Instance of the last failure -/
def DBT_PROOF_FAIL_inst : Fld := ⟨0x11034, 0x0, 1, 23, 5, .ro, 0, .no, false⟩

/-- DBT_PROOF_FAIL.overdue: Failure under the 24 h rule of R522 -/
def DBT_PROOF_FAIL_overdue : Fld := ⟨0x11034, 0x0, 1, 22, 1, .ro, 0, .no, false⟩

/-- DBT_PROOF_FAIL.late: Detection came after the budget -/
def DBT_PROOF_FAIL_late : Fld := ⟨0x11034, 0x0, 1, 21, 1, .ro, 0, .no, false⟩

/-- DBT_PROOF_FAIL.none: No detection by twice the budget -/
def DBT_PROOF_FAIL_none : Fld := ⟨0x11034, 0x0, 1, 20, 1, .ro, 0, .no, false⟩

/-- DBT_PROOF_FAIL.count: Proof failures; saturates at 65,535 -/
def DBT_PROOF_FAIL_count : Fld := ⟨0x11034, 0x0, 1, 0, 16, .ro, 0, .no, false⟩

/-- DBT_MECH.passes: Passing proofs of mechanism k; saturates at 65,535 -/
def DBT_MECH_passes : Fld := ⟨0x11040, 0x4, 16, 16, 16, .ro, 0, .no, false⟩

/-- DBT_MECH.worst: Longest passing detection time of mechanism k, in 10 µs units -/
def DBT_MECH_worst : Fld := ⟨0x11040, 0x4, 16, 0, 16, .ro, 0, .no, false⟩

/-- FLT_EN.en of source `k`: Bit k: source enabled under R539 -/
def FLT_EN_en (k : Nat) : Fld :=
  ⟨0x12020 + 4 * (k / 32), 0, 1, k % 32, 1, .ro, 1, .yes, false⟩

/-- FLT_FORCE.force of source `k`: Page 0, W0: bit k forces source k under R546 -/
def FLT_FORCE_force (k : Nat) : Fld :=
  ⟨0x12030 + 4 * (k / 32), 0, 1, k % 32, 1, .rw, 0, .no, false⟩

/-- FLT_CLASS of source `k`: Class of source 8j + i, codes of R536 -/
def FLT_CLASS_class (k : Nat) : Fld :=
  ⟨0x12040 + 4 * (k / 8), 0, 1, 4 * (k % 8), 3, .ro, defaultClass k, .yes, false⟩

/-- FLT_FIRST.valid: A first fault is held under R540 -/
def FLT_FIRST_valid : Fld := ⟨0x12060, 0x0, 1, 31, 1, .ro, 0, .no, false⟩

/-- FLT_FIRST.multi: Another status was set in the same cycle -/
def FLT_FIRST_multi : Fld := ⟨0x12060, 0x0, 1, 30, 1, .ro, 0, .no, false⟩

/-- FLT_FIRST.forced: Caused by a force bit -/
def FLT_FIRST_forced : Fld := ⟨0x12060, 0x0, 1, 29, 1, .ro, 0, .no, false⟩

/-- FLT_FIRST.wards: Mask at capture -/
def FLT_FIRST_wards : Fld := ⟨0x12060, 0x0, 1, 16, 8, .ro, 0, .no, false⟩

/-- FLT_FIRST.source: Source number -/
def FLT_FIRST_source : Fld := ⟨0x12060, 0x0, 1, 0, 6, .ro, 0, .no, false⟩

/-- FLT_FIRST_DET.detail: Detail word; for field sources the FAULT payload bits [31:0] -/
def FLT_FIRST_DET_detail : Fld := ⟨0x12064, 0x0, 1, 0, 32, .ro, 0, .no, false⟩

/-- FLT_FIRST_TLO.tb: Timebase bits [31:0] and [63:32] at capture -/
def FLT_FIRST_TLO_tb : Fld := ⟨0x12068, 0x0, 1, 0, 32, .ro, 0, .no, false⟩

/-- FLT_FIRST_THI.tb: Timebase bits [31:0] and [63:32] at capture -/
def FLT_FIRST_THI_tb : Fld := ⟨0x1206C, 0x0, 1, 0, 32, .ro, 0, .no, false⟩

/-- FLT_NEXT.count: Statuses set since capture; saturates at 65,535 -/
def FLT_NEXT_count : Fld := ⟨0x12070, 0x0, 1, 0, 16, .ro, 0, .no, false⟩

/-- FLT_CLR_REFUSED.denied: Clears by a ward not in the mask; saturates at 65,535 -/
def FLT_CLR_REFUSED_denied : Fld := ⟨0x12074, 0x0, 1, 16, 16, .ro, 0, .no, false⟩

/-- FLT_CLR_REFUSED.live: Clears refused for a present cause, including R227, R263 and R550; saturates at 65,535 -/
def FLT_CLR_REFUSED_live : Fld := ⟨0x12074, 0x0, 1, 0, 16, .ro, 0, .no, false⟩

/-- FLT_ERR.falls: Times ERR went low since logic-die reset; saturates at 65,535 -/
def FLT_ERR_falls : Fld := ⟨0x12078, 0x0, 1, 16, 16, .ro, 0, .no, false⟩

/-- FLT_STAT.stale: Field live bits frozen under R545 -/
def FLT_STAT_stale : Fld := ⟨0x1207C, 0x0, 1, 1, 1, .ro, 0, .no, false⟩

/-- FLT_STAT.copy_b: The second store copy is in use under R553 -/
def FLT_STAT_copy_b : Fld := ⟨0x1207C, 0x0, 1, 0, 1, .ro, 0, .no, false⟩

/-- FLT_FSUM.sticky: Field positions 0 to 31 and 32 to 39, from the latest FSUM -/
def FLT_FSUM_sticky : Fld := ⟨0x12080, 0x4, 2, 0, 32, .ro, 0, .no, false⟩

/-- FLT_SEL.source: Source shown in this ward's FLT_SEL_INFO -/
def FLT_SEL_source : Fld := ⟨0x12110, 0x20, 8, 0, 6, .rw, 0, .no, false⟩

/-- WDG_CFG.en: 1: the watchdog runs under R555 -/
def WDG_CFG_en : Fld := ⟨0x13000, 0x20, 9, 31, 1, .ro, 0, .yes, false⟩

/-- WDG_CFG.win_en: 1: windowed service under R571 -/
def WDG_CFG_win_en : Fld := ⟨0x13000, 0x20, 9, 1, 1, .ro, 0, .yes, false⟩

/-- WDG_CFG.chal_en: 1: challenge-response under R572 -/
def WDG_CFG_chal_en : Fld := ⟨0x13000, 0x20, 9, 0, 1, .ro, 0, .yes, false⟩

/-- WDG_TIME.first_ms: First timeout in ms; 0 the timeout -/
def WDG_TIME_first_ms : Fld := ⟨0x13004, 0x20, 9, 16, 16, .ro, 0, .yes, false⟩

/-- WDG_TIME.timeout_ms: Timeout, 1 ms to 65,535 ms -/
def WDG_TIME_timeout_ms : Fld := ⟨0x13004, 0x20, 9, 0, 16, .ro, 1000, .yes, false⟩

/-- WDG_WIN.open_ms: Window open time in ms; 0 with the window off -/
def WDG_WIN_open_ms : Fld := ⟨0x13008, 0x20, 9, 0, 16, .ro, 0, .yes, false⟩

/-- WDG_KICK.answer: Challenge answer under R563; reads 0 -/
def WDG_KICK_answer : Fld := ⟨0x1300C, 0x20, 9, 16, 16, .wk, 0, .no, false⟩

/-- WDG_KICK.key: Must be 0x5A5A; reads 0 -/
def WDG_KICK_key : Fld := ⟨0x1300C, 0x20, 9, 0, 16, .wk, 0, .no, false⟩

/-- WDG_STAT.last_cause: Cause of the last expiry since logic-die reset, codes of R566; 0 none -/
def WDG_STAT_last_cause : Fld := ⟨0x13014, 0x20, 9, 8, 3, .ro, 0, .no, false⟩

/-- WDG_CNT.bad_key: Writes with a wrong key; saturates at 255 -/
def WDG_CNT_bad_key : Fld := ⟨0x13018, 0x20, 9, 24, 8, .ro, 0, .no, false⟩

/-- WDG_CNT.violations: Violations since logic-die reset; saturates at 255 -/
def WDG_CNT_violations : Fld := ⟨0x13018, 0x20, 9, 16, 8, .ro, 0, .no, false⟩

/-- WDG_DWD_CFG.ward: Ward that serves DWD -/
def WDG_DWD_CFG_ward : Fld := ⟨0x13180, 0x0, 1, 0, 3, .ro, 0, .yes, false⟩

/-- WDG_WDO_CFG.width_ms: Pulse width, 1 ms to 100 ms -/
def WDG_WDO_CFG_width_ms : Fld := ⟨0x13184, 0x0, 1, 24, 7, .ro, 1, .yes, false⟩

/-- WDG_WDO_CFG.pol: 0 active low, 1 active high -/
def WDG_WDO_CFG_pol : Fld := ⟨0x13184, 0x0, 1, 16, 1, .ro, 0, .yes, false⟩

/-- WDG_WDO_CFG.en_mask: Bit w: watchdog w pulses WDO under R567 -/
def WDG_WDO_CFG_en_mask : Fld := ⟨0x13184, 0x0, 1, 0, 9, .ro, 0, .yes, false⟩

/-- WDG_WDO_STAT.pulses: Pulses since logic-die reset; saturates at 65,535 -/
def WDG_WDO_STAT_pulses : Fld := ⟨0x13188, 0x0, 1, 16, 16, .ro, 0, .no, false⟩

/-- WDG_WDO_STAT.merged: Expiries merged into a running pulse; saturates at 255 -/
def WDG_WDO_STAT_merged : Fld := ⟨0x13188, 0x0, 1, 8, 8, .ro, 0, .no, false⟩

/-- WDG_WDO_STAT.active: 1 while a pulse runs -/
def WDG_WDO_STAT_active : Fld := ⟨0x13188, 0x0, 1, 0, 1, .ro, 0, .no, false⟩

/-- BST_CFG.boot_mem: 1: boot memory test under R595 -/
def BST_CFG_boot_mem : Fld := ⟨0x16000, 0x0, 1, 1, 1, .ro, 0, .yes, false⟩

/-- BST_CFG.boot_lbist: 1: boot LBIST under R594 -/
def BST_CFG_boot_lbist : Fld := ⟨0x16000, 0x0, 1, 0, 1, .ro, 0, .yes, false⟩

/-- BST_CTRL.key: Must be 0x4253; reads 0 -/
def BST_CTRL_key : Fld := ⟨0x16004, 0x0, 1, 16, 16, .wk, 0, .no, false⟩

/-- BST_CTRL.kind: 1 logic, 2 field, 3 logic then field; reads 0 -/
def BST_CTRL_kind : Fld := ⟨0x16004, 0x0, 1, 0, 2, .wk, 0, .no, false⟩

/-- BST_XCTRL.lg_mask: Page 2: bit g selects LGg -/
def BST_XCTRL_lg_mask : Fld := ⟨0x16008, 0x0, 1, 8, 6, .rw, 63, .no, false⟩

/-- BST_XCTRL.fg_mask: Page 2: bit g selects FGg -/
def BST_XCTRL_fg_mask : Fld := ⟨0x16008, 0x0, 1, 0, 5, .rw, 31, .no, false⟩

/-- BST_STAT.busy: A test is running under R584 -/
def BST_STAT_busy : Fld := ⟨0x1600C, 0x0, 1, 31, 1, .ro, 0, .no, false⟩

/-- BST_STAT.kind: Last test: 0 none, 1 logic, 2 field, 3 both, 4 boot -/
def BST_STAT_kind : Fld := ⟨0x1600C, 0x0, 1, 28, 3, .ro, 0, .no, false⟩

/-- BST_STAT.result: 0 none, 1 pass, 2 fail, 3 aborted -/
def BST_STAT_result : Fld := ⟨0x1600C, 0x0, 1, 24, 4, .ro, 0, .no, false⟩

/-- BST_STAT.group: Group under test: 0 to 5 LG0 to LG5, 6 to 10 FG0 to FG4; 0xF none -/
def BST_STAT_group : Fld := ⟨0x1600C, 0x0, 1, 20, 4, .ro, 15, .no, false⟩

/-- BST_STAT.boot: The last test ran at boot -/
def BST_STAT_boot : Fld := ⟨0x1600C, 0x0, 1, 12, 1, .ro, 0, .no, false⟩

/-- BST_STAT.restore_fail: Restore failure under R588 -/
def BST_STAT_restore_fail : Fld := ⟨0x1600C, 0x0, 1, 11, 1, .ro, 0, .no, false⟩

/-- BST_STAT.fail_groups: Bits 0 to 5 LG0 to LG5, bits 6 to 10 FG0 to FG4 -/
def BST_STAT_fail_groups : Fld := ⟨0x1600C, 0x0, 1, 0, 11, .ro, 0, .no, false⟩

/-- BST_RUNS.runs: Tests completed or aborted; saturates at 65,535 -/
def BST_RUNS_runs : Fld := ⟨0x16010, 0x0, 1, 16, 16, .ro, 0, .no, false⟩

/-- BST_RUNS.fails: Failed tests; saturates at 255 -/
def BST_RUNS_fails : Fld := ⟨0x16010, 0x0, 1, 8, 8, .ro, 0, .no, false⟩

/-- BST_RUNS.lost: Intakes and occurrences lost under R587; saturates at 255 -/
def BST_RUNS_lost : Fld := ⟨0x16010, 0x0, 1, 0, 8, .ro, 0, .no, false⟩

/-- BST_TIME.time: Duration of the last test, in 10 µs units -/
def BST_TIME_time : Fld := ⟨0x16014, 0x0, 1, 0, 16, .ro, 0, .no, false⟩

/-- BST_MEM.fail: The boot memory test found a failing bank -/
def BST_MEM_fail : Fld := ⟨0x16018, 0x0, 1, 31, 1, .ro, 0, .no, false⟩

/-- BST_MEM.bank: First failing bank -/
def BST_MEM_bank : Fld := ⟨0x16018, 0x0, 1, 24, 6, .ro, 0, .no, false⟩

/-- BST_MEM.banks: Failing banks, 0 to 48 -/
def BST_MEM_banks : Fld := ⟨0x16018, 0x0, 1, 16, 6, .ro, 0, .no, false⟩

/-- BST_MEM.word: First failing word of that bank -/
def BST_MEM_word : Fld := ⟨0x16018, 0x0, 1, 0, 12, .ro, 0, .no, false⟩

/-- BST_SIG_LG.sig: Raw signature of the group from the last test that covered it -/
def BST_SIG_LG_sig : Fld := ⟨0x16020, 0x4, 6, 0, 32, .ro, 0, .no, false⟩

/-- BST_SIG_FG.sig: Raw signature of the group from the last test that covered it -/
def BST_SIG_FG_sig : Fld := ⟨0x16040, 0x4, 5, 0, 32, .ro, 0, .no, false⟩

/-- REC_CFG.flush_s: Partial-page wait, 1 s to 255 s -/
def REC_CFG_flush_s : Fld := ⟨0x14000, 0x0, 1, 24, 8, .ro, 60, .yes, false⟩

/-- REC_CFG.flush_ms: Wait after a Fault or Safety record, 1 ms to 255 ms -/
def REC_CFG_flush_ms : Fld := ⟨0x14000, 0x0, 1, 16, 8, .ro, 10, .yes, false⟩

/-- REC_CFG.read_mask: Bit n: Wn may read ring and journal; a Blank that sets bit 0 to 0 fails the content check under R617 -/
def REC_CFG_read_mask : Fld := ⟨0x14000, 0x0, 1, 8, 8, .ro, 1, .yes, false⟩

/-- REC_CFG.jsev: Journal severity, 0 to 4 -/
def REC_CFG_jsev : Fld := ⟨0x14000, 0x0, 1, 0, 3, .ro, 2, .yes, false⟩

/-- REC_STAT.exhausted: Numbers used up under R629 -/
def REC_STAT_exhausted : Fld := ⟨0x14004, 0x0, 1, 8, 1, .ro, 0, .no, false⟩

/-- REC_STAT.clearing: A clear runs under R636 -/
def REC_STAT_clearing : Fld := ⟨0x14004, 0x0, 1, 7, 1, .ro, 0, .no, false⟩

/-- REC_STAT.jfail: Journalling stopped under R622 -/
def REC_STAT_jfail : Fld := ⟨0x14004, 0x0, 1, 6, 1, .ro, 0, .no, false⟩

/-- REC_STAT.jscan: Journal scan running -/
def REC_STAT_jscan : Fld := ⟨0x14004, 0x0, 1, 5, 1, .ro, 0, .no, false⟩

/-- REC_STAT.jpaused: Waiting for a sector erase under R625 -/
def REC_STAT_jpaused : Fld := ⟨0x14004, 0x0, 1, 4, 1, .ro, 0, .no, false⟩

/-- REC_STAT.jsealed: Journal sealed under R624 -/
def REC_STAT_jsealed : Fld := ⟨0x14004, 0x0, 1, 3, 1, .ro, 0, .no, false⟩

/-- REC_STAT.full: No empty ring slot -/
def REC_STAT_full : Fld := ⟨0x14004, 0x0, 1, 1, 1, .ro, 0, .no, false⟩

/-- REC_STAT.sealed: Ring sealed under R615 -/
def REC_STAT_sealed : Fld := ⟨0x14004, 0x0, 1, 0, 1, .ro, 0, .no, false⟩

/-- REC_NEWEST_SEQ_HI.seq: Latched bits [47:32] -/
def REC_NEWEST_SEQ_HI_seq : Fld := ⟨0x1400C, 0x0, 1, 0, 16, .ro, 0, .no, true⟩

/-- REC_EVICT_COUNT.count: Under R616, modulo 2^32 -/
def REC_EVICT_COUNT_count : Fld := ⟨0x14010, 0x0, 1, 0, 32, .ro, 0, .no, false⟩

/-- REC_DROPS0.note: Drops; saturate at 65,535 -/
def REC_DROPS0_note : Fld := ⟨0x14014, 0x0, 1, 16, 16, .ro, 0, .no, false⟩

/-- REC_DROPS0.trace: Drops; saturate at 65,535 -/
def REC_DROPS0_trace : Fld := ⟨0x14014, 0x0, 1, 0, 16, .ro, 0, .no, false⟩

/-- REC_DROPS1.fault: Drops; saturate at 65,535 -/
def REC_DROPS1_fault : Fld := ⟨0x14018, 0x0, 1, 16, 16, .ro, 0, .no, false⟩

/-- REC_DROPS1.warning: Drops; saturate at 65,535 -/
def REC_DROPS1_warning : Fld := ⟨0x14018, 0x0, 1, 0, 16, .ro, 0, .no, false⟩

/-- REC_DROPS2.safety: Drops; saturates at 65,535 -/
def REC_DROPS2_safety : Fld := ⟨0x1401C, 0x0, 1, 0, 16, .ro, 0, .no, false⟩

/-- REC_JSTAT.missed: Records missed under R620; saturates at 65,535 -/
def REC_JSTAT_missed : Fld := ⟨0x14020, 0x0, 1, 16, 16, .ro, 0, .no, false⟩

/-- REC_JSTAT.page: Write point -/
def REC_JSTAT_page : Fld := ⟨0x14020, 0x0, 1, 0, 9, .ro, 0, .no, false⟩

/-- REC_JCOUNT.copied: Records copied forward; saturates at 65,535 -/
def REC_JCOUNT_copied : Fld := ⟨0x14024, 0x0, 1, 16, 16, .ro, 0, .no, false⟩

/-- REC_JCOUNT.pages: Pages programmed; saturates at 65,535 -/
def REC_JCOUNT_pages : Fld := ⟨0x14024, 0x0, 1, 0, 16, .ro, 0, .no, false⟩

/-- REC_RD_SLOT.slot: Slot read by the window -/
def REC_RD_SLOT_slot : Fld := ⟨0x14040, 0x0, 1, 0, 11, .rw, 0, .no, true⟩

/-- REC_RT.jsev_rt: Page 5: journal severity jsev_rt − 1 under R632; 0 the Blank's -/
def REC_RT_jsev_rt : Fld := ⟨0x14078, 0x0, 1, 8, 3, .rw, 0, .no, true⟩

/-- REC_RT.flush_ms_rt: Page 5: wait after a Fault or Safety record, in ms, under R632; 0 the Blank's -/
def REC_RT_flush_ms_rt : Fld := ⟨0x14078, 0x0, 1, 0, 8, .rw, 0, .no, true⟩

/-- REC_JRD_CTRL.go: Read the page; clears when done -/
def REC_JRD_CTRL_go : Fld := ⟨0x14080, 0x0, 1, 31, 1, .w1s, 0, .no, false⟩

/-- REC_JRD_CTRL.page: Page to read -/
def REC_JRD_CTRL_page : Fld := ⟨0x14080, 0x0, 1, 0, 9, .rw, 0, .no, false⟩

/-- REC_JRD_STAT.result: 0 done, 1 NVM error, 2 journal busy with a clear -/
def REC_JRD_STAT_result : Fld := ⟨0x14084, 0x0, 1, 4, 4, .ro, 0, .no, false⟩

/-- REC_JRD_STAT.busy: Read running -/
def REC_JRD_STAT_busy : Fld := ⟨0x14084, 0x0, 1, 0, 1, .ro, 0, .no, false⟩

/-- REC_JRD_BUF.data: Page bytes 4n to 4n + 3, lowest in bits [7:0] -/
def REC_JRD_BUF_data : Fld := ⟨0x14100, 0x4, 64, 0, 32, .ro, 0, .no, false⟩

/-- REC_CLEAR_NONCE_LO.nonce: A read renews the nonce under R635 -/
def REC_CLEAR_NONCE_LO_nonce : Fld := ⟨0x14200, 0x0, 1, 0, 32, .ro, 0, .no, false⟩

/-- REC_CLEAR_NONCE_HI.nonce: Latched upper half -/
def REC_CLEAR_NONCE_HI_nonce : Fld := ⟨0x14204, 0x0, 1, 0, 32, .ro, 0, .no, false⟩

/-- REC_CLEAR_SEQ_LO.s: S, bits [31:0] and [47:32] -/
def REC_CLEAR_SEQ_LO_s : Fld := ⟨0x14208, 0x0, 1, 0, 32, .ro, 0, .no, false⟩

/-- REC_CLEAR_SEQ_HI.s: S, bits [31:0] and [47:32] -/
def REC_CLEAR_SEQ_HI_s : Fld := ⟨0x1420C, 0x0, 1, 0, 16, .ro, 0, .no, false⟩

/-- REC_CLEAR_CTRL.journal: 1: clear the journal too -/
def REC_CLEAR_CTRL_journal : Fld := ⟨0x14210, 0x0, 1, 8, 1, .rw, 0, .no, false⟩

/-- REC_CLEAR_CTRL.auth: Authority slot -/
def REC_CLEAR_CTRL_auth : Fld := ⟨0x14210, 0x0, 1, 0, 2, .rw, 0, .no, false⟩

/-- REC_CLEAR_TOKEN.bytes: Token bytes 4n to 4n + 3; writing n = 3 starts the check -/
def REC_CLEAR_TOKEN_bytes : Fld := ⟨0x14214, 0x4, 4, 0, 32, .rw, 0, .no, false⟩

/-- REC_CLEAR_STAT.failures: Mismatches; saturates at 65,535 -/
def REC_CLEAR_STAT_failures : Fld := ⟨0x14224, 0x0, 1, 16, 16, .ro, 0, .no, false⟩

/-- REC_CLEAR_STAT.result: 0 none, 1 cleared, 2 mismatch, 3 no usable key, 4 locked for 1 s, 5 no valid nonce, 6 clear running -/
def REC_CLEAR_STAT_result : Fld := ⟨0x14224, 0x0, 1, 4, 3, .ro, 0, .no, false⟩

/-- REC_CLEAR_STAT.busy: Check or clear running -/
def REC_CLEAR_STAT_busy : Fld := ⟨0x14224, 0x0, 1, 0, 1, .ro, 0, .no, false⟩

/-- REC_KEY_CTRL.key: Must be 0x4F54; reads 0 -/
def REC_KEY_CTRL_key : Fld := ⟨0x14240, 0x0, 1, 16, 16, .wk, 0, .no, false⟩

/-- REC_KEY_CTRL.slot: OTP key slot to program -/
def REC_KEY_CTRL_slot : Fld := ⟨0x14240, 0x0, 1, 0, 3, .wk, 0, .no, false⟩

/-- REC_KEY_DATA.bytes: Key bytes 4n to 4n + 3; cleared under R633 -/
def REC_KEY_DATA_bytes : Fld := ⟨0x14260, 0x4, 8, 0, 32, .rw, 0, .no, false⟩

/-- LIFE_CFG.warn_pct: Warning level, 1 % to 100 % -/
def LIFE_CFG_warn_pct : Fld := ⟨0x15000, 0x0, 1, 16, 8, .ro, 80, .yes, false⟩

/-- LIFE_CFG.interval_min: Mirror interval, 1 min to 1,440 min -/
def LIFE_CFG_interval_min : Fld := ⟨0x15000, 0x0, 1, 0, 11, .ro, 60, .yes, false⟩

/-- LIFE_CTRL.mirror: W0: start a mirror; clears when it ends -/
def LIFE_CTRL_mirror : Fld := ⟨0x15004, 0x0, 1, 0, 1, .w1s, 0, .no, false⟩

/-- LIFE_STAT.mirrors: Mirrors written; saturates at 65,535 -/
def LIFE_STAT_mirrors : Fld := ⟨0x15008, 0x0, 1, 16, 16, .ro, 0, .no, false⟩

/-- LIFE_STAT.fails: Failed mirrors; saturates at 255 -/
def LIFE_STAT_fails : Fld := ⟨0x15008, 0x0, 1, 8, 8, .ro, 0, .no, false⟩

/-- LIFE_STAT.busy: A mirror runs -/
def LIFE_STAT_busy : Fld := ⟨0x15008, 0x0, 1, 7, 1, .ro, 0, .no, false⟩

/-- LIFE_STAT.pd_skipped: Power-down pages skipped under R659; saturates at 7 -/
def LIFE_STAT_pd_skipped : Fld := ⟨0x15008, 0x0, 1, 4, 3, .ro, 0, .no, false⟩

/-- LIFE_STAT.ch_src: Sources at this boot, as in the RESTORE record -/
def LIFE_STAT_ch_src : Fld := ⟨0x15008, 0x0, 1, 2, 2, .ro, 3, .no, false⟩

/-- LIFE_STAT.dev_src: Sources at this boot, as in the RESTORE record -/
def LIFE_STAT_dev_src : Fld := ⟨0x15008, 0x0, 1, 0, 2, .ro, 3, .no, false⟩

/-- LIFE_SEL.ch: Channel of the window -/
def LIFE_SEL_ch : Fld := ⟨0x15100, 0x40, 8, 0, 4, .rw, 0, .no, false⟩

/-- LIFE_CH_CYC_LO.cycles: Bits [31:0]; the read latches the window under R665 -/
def LIFE_CH_CYC_LO_cycles : Fld := ⟨0x15104, 0x40, 8, 0, 32, .ro, 0, .no, false⟩

/-- LIFE_CH_CYC_HI.cycles: Bits [39:32] -/
def LIFE_CH_CYC_HI_cycles : Fld := ⟨0x15108, 0x40, 8, 0, 8, .ro, 0, .no, false⟩

/-- LIFE_CH_EDG_LO.edges: Edges, bits [31:0] and [39:32] -/
def LIFE_CH_EDG_LO_edges : Fld := ⟨0x1510C, 0x40, 8, 0, 32, .ro, 0, .no, false⟩

/-- LIFE_CH_EDG_HI.edges: Edges, bits [31:0] and [39:32] -/
def LIFE_CH_EDG_HI_edges : Fld := ⟨0x15110, 0x40, 8, 0, 8, .ro, 0, .no, false⟩

/-- LIFE_CH_ON.s: On-time -/
def LIFE_CH_ON_s : Fld := ⟨0x15114, 0x40, 8, 0, 32, .ro, 0, .no, false⟩

/-- LIFE_CH_STRESS.units: Stress -/
def LIFE_CH_STRESS_units : Fld := ⟨0x15118, 0x40, 8, 0, 32, .ro, 0, .no, false⟩

/-- LIFE_CH_LIMJ.energy: Limit energy, 0.1 J -/
def LIFE_CH_LIMJ_energy : Fld := ⟨0x1511C, 0x40, 8, 0, 32, .ro, 0, .no, false⟩

/-- LIFE_CH_EPS.count: Limit episodes -/
def LIFE_CH_EPS_count : Fld := ⟨0x15120, 0x40, 8, 0, 32, .ro, 0, .no, false⟩

/-- LIFE_CH_TCYC.count: Thermal cycles -/
def LIFE_CH_TCYC_count : Fld := ⟨0x15124, 0x40, 8, 0, 32, .ro, 0, .no, false⟩

/-- LIFE_CH_TSD.count: Shutdowns and soft cuts -/
def LIFE_CH_TSD_count : Fld := ⟨0x15128, 0x40, 8, 0, 16, .ro, 0, .no, false⟩

/-- LIFE_HSEL.month: Month of LIFE_HIST -/
def LIFE_HSEL_month : Fld := ⟨0x1512C, 0x40, 8, 0, 16, .rw, 0, .no, false⟩

/-- Fields of the DBT_ block, part 0. -/
def fldsDBT0 : List Fld :=
  [DBT_CFG_fhold_max_ms,
   DBT_TIME_tsens_ms,
   DBT_TIME_hb_us,
   DBT_PROOF_CFG_rotation_s,
   DBT_STAT_db_forced,
   DBT_STAT_hb_ok,
   DBT_SAFE_EXIT_key,
   DBT_SAFE_CAUSE_entries,
   DBT_SAFE_CAUSE_refused,
   DBT_SAFE_CAUSE_source,
   DBT_STARTUP_done,
   DBT_STARTUP_time]

/-- Fields of the DBT_ block, part 1. -/
def fldsDBT1 : List Fld :=
  [DBT_STARTUP_passed,
   DBT_HB_da_cnt,
   DBT_HB_db_cnt,
   DBT_HB_invalid,
   DBT_PROOF_CTRL_key,
   DBT_PROOF_CTRL_pause_min,
   DBT_PROOF_CTRL_now,
   DBT_PROOF_CTRL_inst,
   DBT_PROOF_CTRL_mech,
   DBT_PROOF_STAT_rotations,
   DBT_PROOF_STAT_oldest_min,
   DBT_PROOF_LAST_mech]

/-- Fields of the DBT_ block, part 2. -/
def fldsDBT2 : List Fld :=
  [DBT_PROOF_LAST_inst,
   DBT_PROOF_LAST_pass,
   DBT_PROOF_LAST_overlap,
   DBT_PROOF_TIME_ticks,
   DBT_PROOF_FAIL_mech,
   DBT_PROOF_FAIL_inst,
   DBT_PROOF_FAIL_overdue,
   DBT_PROOF_FAIL_late,
   DBT_PROOF_FAIL_none,
   DBT_PROOF_FAIL_count,
   DBT_MECH_passes,
   DBT_MECH_worst]

/-- Every stored field of the DBT_ block. -/
def fldsDBT : List Fld :=
  fldsDBT0 ++ fldsDBT1 ++ fldsDBT2

/-- Fields of the FLT_ block, part 0. -/
def fldsFLT0 : List Fld :=
  [FLT_FIRST_valid,
   FLT_FIRST_multi,
   FLT_FIRST_forced,
   FLT_FIRST_wards,
   FLT_FIRST_source,
   FLT_FIRST_DET_detail,
   FLT_FIRST_TLO_tb,
   FLT_FIRST_THI_tb,
   FLT_NEXT_count,
   FLT_CLR_REFUSED_denied,
   FLT_CLR_REFUSED_live,
   FLT_ERR_falls]

/-- Fields of the FLT_ block, part 1. -/
def fldsFLT1 : List Fld :=
  [FLT_STAT_stale,
   FLT_STAT_copy_b,
   FLT_FSUM_sticky,
   FLT_SEL_source]

/-- Every stored field of the FLT_ block. -/
def fldsFLT : List Fld :=
  fldsFLT0 ++ fldsFLT1 ++ (List.range 62).map FLT_EN_en ++ (List.range 62).map FLT_FORCE_force ++ (List.range 62).map FLT_CLASS_class

/-- Fields of the WDG_ block, part 0. -/
def fldsWDG0 : List Fld :=
  [WDG_CFG_en,
   WDG_CFG_win_en,
   WDG_CFG_chal_en,
   WDG_TIME_first_ms,
   WDG_TIME_timeout_ms,
   WDG_WIN_open_ms,
   WDG_KICK_answer,
   WDG_KICK_key,
   WDG_STAT_last_cause,
   WDG_CNT_bad_key,
   WDG_CNT_violations,
   WDG_DWD_CFG_ward]

/-- Fields of the WDG_ block, part 1. -/
def fldsWDG1 : List Fld :=
  [WDG_WDO_CFG_width_ms,
   WDG_WDO_CFG_pol,
   WDG_WDO_CFG_en_mask,
   WDG_WDO_STAT_pulses,
   WDG_WDO_STAT_merged,
   WDG_WDO_STAT_active]

/-- Every stored field of the WDG_ block. -/
def fldsWDG : List Fld :=
  fldsWDG0 ++ fldsWDG1

/-- Fields of the BST_ block, part 0. -/
def fldsBST0 : List Fld :=
  [BST_CFG_boot_mem,
   BST_CFG_boot_lbist,
   BST_CTRL_key,
   BST_CTRL_kind,
   BST_XCTRL_lg_mask,
   BST_XCTRL_fg_mask,
   BST_STAT_busy,
   BST_STAT_kind,
   BST_STAT_result,
   BST_STAT_group,
   BST_STAT_boot,
   BST_STAT_restore_fail]

/-- Fields of the BST_ block, part 1. -/
def fldsBST1 : List Fld :=
  [BST_STAT_fail_groups,
   BST_RUNS_runs,
   BST_RUNS_fails,
   BST_RUNS_lost,
   BST_TIME_time,
   BST_MEM_fail,
   BST_MEM_bank,
   BST_MEM_banks,
   BST_MEM_word,
   BST_SIG_LG_sig,
   BST_SIG_FG_sig]

/-- Every stored field of the BST_ block. -/
def fldsBST : List Fld :=
  fldsBST0 ++ fldsBST1

/-- Fields of the REC_ block, part 0. -/
def fldsREC0 : List Fld :=
  [REC_CFG_flush_s,
   REC_CFG_flush_ms,
   REC_CFG_read_mask,
   REC_CFG_jsev,
   REC_STAT_exhausted,
   REC_STAT_clearing,
   REC_STAT_jfail,
   REC_STAT_jscan,
   REC_STAT_jpaused,
   REC_STAT_jsealed,
   REC_STAT_full,
   REC_STAT_sealed]

/-- Fields of the REC_ block, part 1. -/
def fldsREC1 : List Fld :=
  [REC_NEWEST_SEQ_HI_seq,
   REC_EVICT_COUNT_count,
   REC_DROPS0_note,
   REC_DROPS0_trace,
   REC_DROPS1_fault,
   REC_DROPS1_warning,
   REC_DROPS2_safety,
   REC_JSTAT_missed,
   REC_JSTAT_page,
   REC_JCOUNT_copied,
   REC_JCOUNT_pages,
   REC_RD_SLOT_slot]

/-- Fields of the REC_ block, part 2. -/
def fldsREC2 : List Fld :=
  [REC_RT_jsev_rt,
   REC_RT_flush_ms_rt,
   REC_JRD_CTRL_go,
   REC_JRD_CTRL_page,
   REC_JRD_STAT_result,
   REC_JRD_STAT_busy,
   REC_JRD_BUF_data,
   REC_CLEAR_NONCE_LO_nonce,
   REC_CLEAR_NONCE_HI_nonce,
   REC_CLEAR_SEQ_LO_s,
   REC_CLEAR_SEQ_HI_s,
   REC_CLEAR_CTRL_journal]

/-- Fields of the REC_ block, part 3. -/
def fldsREC3 : List Fld :=
  [REC_CLEAR_CTRL_auth,
   REC_CLEAR_TOKEN_bytes,
   REC_CLEAR_STAT_failures,
   REC_CLEAR_STAT_result,
   REC_CLEAR_STAT_busy,
   REC_KEY_CTRL_key,
   REC_KEY_CTRL_slot,
   REC_KEY_DATA_bytes]

/-- Every stored field of the REC_ block. -/
def fldsREC : List Fld :=
  fldsREC0 ++ fldsREC1 ++ fldsREC2 ++ fldsREC3

/-- Fields of the LIFE_ block, part 0. -/
def fldsLIFE0 : List Fld :=
  [LIFE_CFG_warn_pct,
   LIFE_CFG_interval_min,
   LIFE_CTRL_mirror,
   LIFE_STAT_mirrors,
   LIFE_STAT_fails,
   LIFE_STAT_busy,
   LIFE_STAT_pd_skipped,
   LIFE_STAT_ch_src,
   LIFE_STAT_dev_src,
   LIFE_SEL_ch,
   LIFE_CH_CYC_LO_cycles,
   LIFE_CH_CYC_HI_cycles]

/-- Fields of the LIFE_ block, part 1. -/
def fldsLIFE1 : List Fld :=
  [LIFE_CH_EDG_LO_edges,
   LIFE_CH_EDG_HI_edges,
   LIFE_CH_ON_s,
   LIFE_CH_STRESS_units,
   LIFE_CH_LIMJ_energy,
   LIFE_CH_EPS_count,
   LIFE_CH_TCYC_count,
   LIFE_CH_TSD_count,
   LIFE_HSEL_month]

/-- Every stored field of the LIFE_ block. -/
def fldsLIFE : List Fld :=
  fldsLIFE0 ++ fldsLIFE1

end Sys2Proof.Machine
end

