-- ==== Sys2Proof/Machine/RegsSystem.lean ====
section
/-!
DEFINITION. The stored register fields of the DEV_, PWR_, CLK_, HNG_ and BLK_ blocks, one constant each, from the register tables
of the spec: address, distance between the copies, number of copies, lowest bit, width, access, reset value, Blank column.
-/

namespace Sys2Proof.Machine

/-- DEV_STATE.slot: Running Blank slot: 0 = Blank A, 1 = Blank B; valid from *Arming* -/
def DEV_STATE_slot : Fld := ⟨0x10, 0x0, 1, 9, 1, .ro, 0, .no, false⟩

/-- PWR_DOM_CFG.ops_off: 1: PD_OPS off for the life of the Blank; invalid with a submission ring under R92 -/
def PWR_DOM_CFG_ops_off : Fld := ⟨0x1008, 0x0, 1, 16, 1, .ro, 0, .yes, false⟩

/-- PWR_DOM_CFG.idle_ms: Idle time before a switch-off, 1 ms to 255 ms -/
def PWR_DOM_CFG_idle_ms : Fld := ⟨0x1008, 0x0, 1, 8, 8, .ro, 10, .yes, false⟩

/-- PWR_DOM_CFG.fchb_auto: 1: the scheduler may switch PD_FCHB off -/
def PWR_DOM_CFG_fchb_auto : Fld := ⟨0x1008, 0x0, 1, 7, 1, .ro, 0, .yes, false⟩

/-- PWR_DOM_CFG.mem1_auto: 1: the scheduler may switch PD_MEM1 off -/
def PWR_DOM_CFG_mem1_auto : Fld := ⟨0x1008, 0x0, 1, 6, 1, .ro, 0, .yes, false⟩

/-- PWR_DOM_CFG.seq_auto: 1: the scheduler may switch PD_SEQ off -/
def PWR_DOM_CFG_seq_auto : Fld := ⟨0x1008, 0x0, 1, 5, 1, .ro, 0, .yes, false⟩

/-- PWR_DOM_CFG.ops_auto: 1: the scheduler may switch PD_OPS off -/
def PWR_DOM_CFG_ops_auto : Fld := ⟨0x1008, 0x0, 1, 4, 1, .ro, 0, .yes, false⟩

/-- PWR_DOM_CFG.fchb_off: 1: PD_FCHB off for the life of the Blank. On the PWH0840-SQ the field reads 1 whatever the Blank writes, and PD_FCHB stays off. A record that writes 0 there is accepted and has no effect -/
def PWR_DOM_CFG_fchb_off : Fld := ⟨0x1008, 0x0, 1, 3, 1, .ro, 0, .yes, false⟩

/-- PWR_DOM_CFG.mem0_off: 1: PD_MEM0 off for the life of the Blank -/
def PWR_DOM_CFG_mem0_off : Fld := ⟨0x1008, 0x0, 1, 2, 1, .ro, 0, .yes, false⟩

/-- PWR_DOM_CFG.mem1_off: 1: PD_MEM1 off for the life of the Blank -/
def PWR_DOM_CFG_mem1_off : Fld := ⟨0x1008, 0x0, 1, 1, 1, .ro, 0, .yes, false⟩

/-- PWR_DOM_CFG.seq_off: 1: PD_SEQ off for the life of the Blank -/
def PWR_DOM_CFG_seq_off : Fld := ⟨0x1008, 0x0, 1, 0, 1, .ro, 0, .yes, false⟩

/-- PWR_HOLD_CFG.flush_pages: Journal pages flushed in power-down step 2, 1 to 8 -/
def PWR_HOLD_CFG_flush_pages : Fld := ⟨0x100C, 0x0, 1, 24, 4, .ro, 4, .yes, false⟩

/-- PWR_HOLD_CFG.load_ma: Hold-up load for planning, 1 mA to 40 mA -/
def PWR_HOLD_CFG_load_ma : Fld := ⟨0x100C, 0x0, 1, 16, 8, .ro, 12, .yes, false⟩

/-- PWR_HOLD_CFG.cap_uf: Hold-up capacitance for planning, 47 µF to 470 µF -/
def PWR_HOLD_CFG_cap_uf : Fld := ⟨0x100C, 0x0, 1, 0, 10, .ro, 47, .yes, false⟩

/-- PWR_HOLD_STAT.vhold: VHOLD in 10 mV steps, updated every 100 µs -/
def PWR_HOLD_STAT_vhold : Fld := ⟨0x1010, 0x0, 1, 16, 12, .ro, 0, .no, false⟩

/-- PWR_HOLD_STAT.cap_meas: Capacitance measured under R90, in µF; 0 if not measured at this power-on -/
def PWR_HOLD_STAT_cap_meas : Fld := ⟨0x1010, 0x0, 1, 0, 10, .ro, 0, .no, false⟩

/-- PWR_VF.vf: VF from ADC-A in 10 mV steps, updated every 100 µs; 0 while the Hinge link is down -/
def PWR_VF_vf : Fld := ⟨0x1018, 0x0, 1, 0, 16, .ro, 0, .no, false⟩

/-- PWR_RET_STAT.source: Retained block source under R89 -/
def PWR_RET_STAT_source : Fld := ⟨0x101C, 0x0, 1, 0, 2, .ro, 3, .no, false⟩

/-- CLK_CFG.auto_return: 1: return to REFCLK under R104 without a Keeper write -/
def CLK_CFG_auto_return : Fld := ⟨0x2000, 0x0, 1, 3, 1, .ro, 0, .yes, false⟩

/-- CLK_CFG.ref_freq: 0b00 10 MHz, 0b01 12.5 MHz, 0b10 20 MHz, 0b11 25 MHz -/
def CLK_CFG_ref_freq : Fld := ⟨0x2000, 0x0, 1, 1, 2, .ro, 0, .yes, false⟩

/-- CLK_CFG.src: 0 HOSC, 1 PLL on REFCLK -/
def CLK_CFG_src : Fld := ⟨0x2000, 0x0, 1, 0, 1, .ro, 0, .yes, false⟩

/-- CLK_STAT.follow_lock: 1 while the follower is locked under R115 -/
def CLK_STAT_follow_lock : Fld := ⟨0x2004, 0x0, 1, 6, 1, .ro, 0, .no, false⟩

/-- CLK_STAT.hosc_ok: 0 after HOSC_FAIL until the next logic-die reset -/
def CLK_STAT_hosc_ok : Fld := ⟨0x2004, 0x0, 1, 5, 1, .ro, 1, .no, false⟩

/-- CLK_STAT.ref_fit: 1 while REFCLK has been within ±4 % for 10 ms -/
def CLK_STAT_ref_fit : Fld := ⟨0x2004, 0x0, 1, 4, 1, .ro, 0, .no, false⟩

/-- CLK_STAT.ret_pending: 1 while a return_ref write waits -/
def CLK_STAT_ret_pending : Fld := ⟨0x2004, 0x0, 1, 3, 1, .ro, 0, .no, false⟩

/-- CLK_STAT.holdover: 1 while the PLL is in holdover on HOSC -/
def CLK_STAT_holdover : Fld := ⟨0x2004, 0x0, 1, 2, 1, .ro, 0, .no, false⟩

/-- CLK_STAT.pll_lock: 1 while the PLL is locked -/
def CLK_STAT_pll_lock : Fld := ⟨0x2004, 0x0, 1, 1, 1, .ro, 0, .no, false⟩

/-- CLK_STAT.src_now: 0 MCLK from HOSC; 1 MCLK from the PLL -/
def CLK_STAT_src_now : Fld := ⟨0x2004, 0x0, 1, 0, 1, .ro, 0, .no, false⟩

/-- CLK_CTRL.return_ref: W0 only: request return to REFCLK; clears when done -/
def CLK_CTRL_return_ref : Fld := ⟨0x2008, 0x0, 1, 0, 1, .w1s, 0, .no, false⟩

/-- CLK_TB_HI.tb: CLK_TB_LO: live bits [31:0]. CLK_TB_HI: the reading ward's latch of bits [63:32] under R110 -/
def CLK_TB_HI_tb : Fld := ⟨0x2014, 0x0, 1, 0, 32, .ro, 0, .no, true⟩

/-- CLK_TB_EPOCH.wrapped: Per ward: the low 48 bits have wrapped since this ward last cleared the bit -/
def CLK_TB_EPOCH_wrapped : Fld := ⟨0x2018, 0x0, 1, 16, 1, .w1c, 0, .no, true⟩

/-- CLK_TB_STEPS.count: Timebase steps since logic-die reset; saturates at 65,535 -/
def CLK_TB_STEPS_count : Fld := ⟨0x201C, 0x0, 1, 0, 16, .ro, 0, .no, false⟩

/-- CLK_TB_STEP_LO.step: The last step as a signed 64-bit tick count, new minus old -/
def CLK_TB_STEP_LO_step : Fld := ⟨0x2020, 0x0, 1, 0, 32, .ro, 0, .no, false⟩

/-- CLK_TB_STEP_HI.step: The last step as a signed 64-bit tick count, new minus old -/
def CLK_TB_STEP_HI_step : Fld := ⟨0x2024, 0x0, 1, 0, 32, .ro, 0, .no, false⟩

/-- CLK_MEAS.fclk_err: DB's latest FCLK error, signed, in 0.25 % steps -/
def CLK_MEAS_fclk_err : Fld := ⟨0x2028, 0x0, 1, 16, 16, .ro, 0, .no, false⟩

/-- CLK_MEAS.mclk_err: DA's latest MCLK error, signed, in 0.1 % steps -/
def CLK_MEAS_mclk_err : Fld := ⟨0x2028, 0x0, 1, 0, 16, .ro, 0, .no, false⟩

/-- CLK_FOLLOW.link_delay: Measured one-way Hinge delay, in fine ticks -/
def CLK_FOLLOW_link_delay : Fld := ⟨0x202C, 0x0, 1, 16, 16, .ro, 0, .no, false⟩

/-- CLK_FOLLOW.err: Follower difference at the latest short message, signed, in fine ticks -/
def CLK_FOLLOW_err : Fld := ⟨0x202C, 0x0, 1, 0, 16, .ro, 0, .no, false⟩

/-- CLK_REF_LOSS.count: REFCLK losses since power-on reset; saturates at 65,535 -/
def CLK_REF_LOSS_count : Fld := ⟨0x2030, 0x0, 1, 0, 16, .ro, 0, .no, false⟩

/-- HNG_CFG.txn_retries: Retries of an unanswered REQ, 0 to 3 -/
def HNG_CFG_txn_retries : Fld := ⟨0x4000, 0x0, 1, 8, 2, .ro, 3, .yes, false⟩

/-- HNG_CFG.margin_min: MARGIN_LOW threshold in 1/64 UI, 0 to 64 -/
def HNG_CFG_margin_min : Fld := ⟨0x4000, 0x0, 1, 0, 7, .ro, 16, .yes, false⟩

/-- HNG_STAT.field_cfg_ok: 1 while the field configuration CRC matches the shadow -/
def HNG_STAT_field_cfg_ok : Fld := ⟨0x4004, 0x0, 1, 10, 1, .ro, 0, .no, false⟩

/-- HNG_STAT.stale: 1 while the link is lost -/
def HNG_STAT_stale : Fld := ⟨0x4004, 0x0, 1, 9, 1, .ro, 0, .no, false⟩

/-- HNG_STAT.rejoin: 1 during rejoin under R140 -/
def HNG_STAT_rejoin : Fld := ⟨0x4004, 0x0, 1, 8, 1, .ro, 0, .no, false⟩

/-- HNG_STAT.in_service: Bits 4 to 7: LF0, LF1, FL0, FL1 in service -/
def HNG_STAT_in_service : Fld := ⟨0x4004, 0x0, 1, 4, 4, .ro, 0, .no, false⟩

/-- HNG_STAT.link_up: 1 while the link is established -/
def HNG_STAT_link_up : Fld := ⟨0x4004, 0x0, 1, 0, 1, .ro, 0, .no, false⟩

/-- HNG_CTRL.retrain: W0 only: retrain every down lane now; clears when training ends -/
def HNG_CTRL_retrain : Fld := ⟨0x4008, 0x0, 1, 0, 1, .w1s, 0, .no, false⟩

/-- HNG_BOLT.code_errors: Bolt-line code errors on either line; saturates at 255 -/
def HNG_BOLT_code_errors : Fld := ⟨0x400C, 0x0, 1, 8, 8, .ro, 0, .no, false⟩

/-- HNG_BOLT.field_latched: 1 while the field die reports its bolt latch set -/
def HNG_BOLT_field_latched : Fld := ⟨0x400C, 0x0, 1, 0, 1, .ro, 0, .no, false⟩

/-- HNG_DELAY_LF.lf1: LF1 one-way delay, in fine ticks -/
def HNG_DELAY_LF_lf1 : Fld := ⟨0x4010, 0x0, 1, 16, 16, .ro, 0, .no, false⟩

/-- HNG_DELAY_LF.lf0: LF0 one-way delay, in fine ticks -/
def HNG_DELAY_LF_lf0 : Fld := ⟨0x4010, 0x0, 1, 0, 16, .ro, 0, .no, false⟩

/-- HNG_DELAY_FL.fl1: FL1 one-way delay, in fine ticks -/
def HNG_DELAY_FL_fl1 : Fld := ⟨0x401C, 0x0, 1, 16, 16, .ro, 0, .no, false⟩

/-- HNG_DELAY_FL.fl0: FL0 one-way delay, in fine ticks -/
def HNG_DELAY_FL_fl0 : Fld := ⟨0x401C, 0x0, 1, 0, 16, .ro, 0, .no, false⟩

/-- HNG_MARGIN.fl1: FL1 margin, 0 to 64, in 1/64 UI -/
def HNG_MARGIN_fl1 : Fld := ⟨0x4014, 0x0, 1, 24, 8, .ro, 0, .no, false⟩

/-- HNG_MARGIN_MIN.fl1: FL1 margin, 0 to 64, in 1/64 UI -/
def HNG_MARGIN_MIN_fl1 : Fld := ⟨0x4018, 0x0, 1, 24, 8, .ro, 0, .no, false⟩

/-- HNG_MARGIN.fl0: FL0 margin -/
def HNG_MARGIN_fl0 : Fld := ⟨0x4014, 0x0, 1, 16, 8, .ro, 0, .no, false⟩

/-- HNG_MARGIN_MIN.fl0: FL0 margin -/
def HNG_MARGIN_MIN_fl0 : Fld := ⟨0x4018, 0x0, 1, 16, 8, .ro, 0, .no, false⟩

/-- HNG_MARGIN.lf1: LF1 margin -/
def HNG_MARGIN_lf1 : Fld := ⟨0x4014, 0x0, 1, 8, 8, .ro, 0, .no, false⟩

/-- HNG_MARGIN_MIN.lf1: LF1 margin -/
def HNG_MARGIN_MIN_lf1 : Fld := ⟨0x4018, 0x0, 1, 8, 8, .ro, 0, .no, false⟩

/-- HNG_MARGIN.lf0: LF0 margin -/
def HNG_MARGIN_lf0 : Fld := ⟨0x4014, 0x0, 1, 0, 8, .ro, 0, .no, false⟩

/-- HNG_MARGIN_MIN.lf0: LF0 margin -/
def HNG_MARGIN_MIN_lf0 : Fld := ⟨0x4018, 0x0, 1, 0, 8, .ro, 0, .no, false⟩

/-- HNG_ERR.count: Frame errors on the lane under R130; saturates at 0xFFFF_FFFF -/
def HNG_ERR_count : Fld := ⟨0x4020, 0x4, 4, 0, 32, .ro, 0, .no, false⟩

/-- HNG_EVENTS.link_losses: Link losses under R137; saturates at 65,535 -/
def HNG_EVENTS_link_losses : Fld := ⟨0x4030, 0x0, 1, 16, 16, .ro, 0, .no, false⟩

/-- HNG_EVENTS.lane_downs: Lanes declared down under R136; saturates at 65,535 -/
def HNG_EVENTS_lane_downs : Fld := ⟨0x4030, 0x0, 1, 0, 16, .ro, 0, .no, false⟩

/-- HNG_TXN.failures: Transactions failed after their retries; saturates at 65,535 -/
def HNG_TXN_failures : Fld := ⟨0x4034, 0x0, 1, 16, 16, .ro, 0, .no, false⟩

/-- HNG_TXN.retries: REQ frames sent again; saturates at 65,535 -/
def HNG_TXN_retries : Fld := ⟨0x4034, 0x0, 1, 0, 16, .ro, 0, .no, false⟩

/-- BLK_CFG.size_64k: Size of a device without SFDP in 64 KiB units, 16 to 255 -/
def BLK_CFG_size_64k : Fld := ⟨0x3000, 0x0, 1, 8, 8, .ro, 16, .yes, false⟩

/-- BLK_CFG.sck_50: Run-time clock: 0 = 25 MHz, 1 = 50 MHz -/
def BLK_CFG_sck_50 : Fld := ⟨0x3000, 0x0, 1, 3, 1, .ro, 0, .yes, false⟩

/-- BLK_CFG.lanes: Run-time read lanes: 0b00 single, 0b01 dual, 0b10 quad; limited to what SFDP reports -/
def BLK_CFG_lanes : Fld := ⟨0x3000, 0x0, 1, 1, 2, .ro, 0, .yes, false⟩

/-- BLK_CFG.mirror: 1: a second device is expected and written -/
def BLK_CFG_mirror : Fld := ⟨0x3000, 0x0, 1, 0, 1, .ro, 0, .yes, false⟩

/-- BLK_STAT.recovery: 1 in *Recovery* -/
def BLK_STAT_recovery : Fld := ⟨0x3004, 0x0, 1, 8, 1, .ro, 0, .no, false⟩

/-- BLK_STAT.sck50_now: Current NVM clock is 50 MHz -/
def BLK_STAT_sck50_now : Fld := ⟨0x3004, 0x0, 1, 7, 1, .ro, 0, .no, false⟩

/-- BLK_STAT.lanes_now: Current read lanes -/
def BLK_STAT_lanes_now : Fld := ⟨0x3004, 0x0, 1, 5, 2, .ro, 0, .no, false⟩

/-- BLK_STAT.mirror_present: A device answered on NVM_CS1n -/
def BLK_STAT_mirror_present : Fld := ⟨0x3004, 0x0, 1, 4, 1, .ro, 0, .no, false⟩

/-- BLK_STAT.sfdp: Device 0 carries SFDP -/
def BLK_STAT_sfdp : Fld := ⟨0x3004, 0x0, 1, 3, 1, .ro, 0, .no, false⟩

/-- BLK_STAT.signed: Same as DEV_STATE.signed -/
def BLK_STAT_signed : Fld := ⟨0x3004, 0x0, 1, 2, 1, .ro, 0, .no, false⟩

/-- BLK_STAT.device: Device of the booted copy -/
def BLK_STAT_device : Fld := ⟨0x3004, 0x0, 1, 1, 1, .ro, 0, .no, false⟩

/-- BLK_STAT.slot: Booted slot: 0 = A, 1 = B -/
def BLK_STAT_slot : Fld := ⟨0x3004, 0x0, 1, 0, 1, .ro, 0, .no, false⟩

/-- BLK_GEN.generation: BLK_GEN: running generation, 0 in *Recovery*. BLK_GEN_A and BLK_GEN_B: generation of the slot's first candidate header, 0 if it has none. BLK_CHECK_GEN: generation of the last check, 0 if none -/
def BLK_GEN_generation : Fld := ⟨0x3008, 0x0, 1, 0, 32, .ro, 0, .no, false⟩

/-- BLK_GEN_A.generation: BLK_GEN: running generation, 0 in *Recovery*. BLK_GEN_A and BLK_GEN_B: generation of the slot's first candidate header, 0 if it has none. BLK_CHECK_GEN: generation of the last check, 0 if none -/
def BLK_GEN_A_generation : Fld := ⟨0x3014, 0x0, 1, 0, 32, .ro, 0, .no, false⟩

/-- BLK_GEN_B.generation: BLK_GEN: running generation, 0 in *Recovery*. BLK_GEN_A and BLK_GEN_B: generation of the slot's first candidate header, 0 if it has none. BLK_CHECK_GEN: generation of the last check, 0 if none -/
def BLK_GEN_B_generation : Fld := ⟨0x3018, 0x0, 1, 0, 32, .ro, 0, .no, false⟩

/-- BLK_CHECK_GEN.generation: BLK_GEN: running generation, 0 in *Recovery*. BLK_GEN_A and BLK_GEN_B: generation of the slot's first candidate header, 0 if it has none. BLK_CHECK_GEN: generation of the last check, 0 if none -/
def BLK_CHECK_GEN_generation : Fld := ⟨0x3024, 0x0, 1, 0, 32, .ro, 0, .no, false⟩

/-- BLK_SLOT_A.record: Index of the first failing record or table entry; 0 if not applicable -/
def BLK_SLOT_A_record : Fld := ⟨0x300C, 0x0, 1, 16, 16, .ro, 0, .no, false⟩

/-- BLK_SLOT_B.record: Index of the first failing record or table entry; 0 if not applicable -/
def BLK_SLOT_B_record : Fld := ⟨0x3010, 0x0, 1, 16, 16, .ro, 0, .no, false⟩

/-- BLK_CHECK.record: Index of the first failing record or table entry; 0 if not applicable -/
def BLK_CHECK_record : Fld := ⟨0x3020, 0x0, 1, 16, 16, .ro, 0, .no, false⟩

/-- BLK_SLOT_A.section: Low byte of the failing section's type; 0 if not applicable -/
def BLK_SLOT_A_section : Fld := ⟨0x300C, 0x0, 1, 8, 8, .ro, 0, .no, false⟩

/-- BLK_SLOT_B.section: Low byte of the failing section's type; 0 if not applicable -/
def BLK_SLOT_B_section : Fld := ⟨0x3010, 0x0, 1, 8, 8, .ro, 0, .no, false⟩

/-- BLK_CHECK.section: Low byte of the failing section's type; 0 if not applicable -/
def BLK_CHECK_section : Fld := ⟨0x3020, 0x0, 1, 8, 8, .ro, 0, .no, false⟩

/-- BLK_SLOT_A.device: Device whose copy is reported -/
def BLK_SLOT_A_device : Fld := ⟨0x300C, 0x0, 1, 4, 1, .ro, 0, .no, false⟩

/-- BLK_SLOT_B.device: Device whose copy is reported -/
def BLK_SLOT_B_device : Fld := ⟨0x3010, 0x0, 1, 4, 1, .ro, 0, .no, false⟩

/-- BLK_CHECK.device: Device whose copy is reported -/
def BLK_CHECK_device : Fld := ⟨0x3020, 0x0, 1, 4, 1, .ro, 0, .no, false⟩

/-- BLK_SLOT_A.reason: Reason code of R173; 0xF: not examined or not checked -/
def BLK_SLOT_A_reason : Fld := ⟨0x300C, 0x0, 1, 0, 4, .ro, 15, .no, false⟩

/-- BLK_SLOT_B.reason: Reason code of R173; 0xF: not examined or not checked -/
def BLK_SLOT_B_reason : Fld := ⟨0x3010, 0x0, 1, 0, 4, .ro, 15, .no, false⟩

/-- BLK_CHECK.reason: Reason code of R173; 0xF: not examined or not checked -/
def BLK_CHECK_reason : Fld := ⟨0x3020, 0x0, 1, 0, 4, .ro, 15, .no, false⟩

/-- BLK_CTRL.check: W0 only: judge the inactive slot under R188; clears when done -/
def BLK_CTRL_check : Fld := ⟨0x301C, 0x0, 1, 0, 1, .w1s, 0, .no, false⟩

/-- BLK_REBOOT.key: Reads 0. BLK_REBOOT: key 0x5242_4F54, under R189. BLK_FUSE: key 0x4655_5345, under R185 -/
def BLK_REBOOT_key : Fld := ⟨0x3028, 0x0, 1, 0, 32, .wk, 0, .no, false⟩

/-- BLK_FUSE.key: Reads 0. BLK_REBOOT: key 0x5242_4F54, under R189. BLK_FUSE: key 0x4655_5345, under R185 -/
def BLK_FUSE_key : Fld := ⟨0x302C, 0x0, 1, 0, 32, .wk, 0, .no, false⟩

/-- BLK_SHADOW_CRC.crc: CRC-32 of the whole shadow, or of its field part, under R190; set at the end of *Arming* -/
def BLK_SHADOW_CRC_crc : Fld := ⟨0x3034, 0x0, 1, 0, 32, .ro, 0, .no, false⟩

/-- BLK_SHADOW_FCRC.crc: CRC-32 of the whole shadow, or of its field part, under R190; set at the end of *Arming* -/
def BLK_SHADOW_FCRC_crc : Fld := ⟨0x3038, 0x0, 1, 0, 32, .ro, 0, .no, false⟩

/-- BLK_SHADOW_SCAN.scans: Full scans of the whole shadow since *Arming* ended; saturates at 65,535 -/
def BLK_SHADOW_SCAN_scans : Fld := ⟨0x303C, 0x0, 1, 16, 16, .ro, 0, .no, false⟩

/-- BLK_SHADOW_SCAN.safety_max: Longest interval measured between successive coverages of the safety part, in 10 µs units -/
def BLK_SHADOW_SCAN_safety_max : Fld := ⟨0x303C, 0x0, 1, 0, 16, .ro, 0, .no, false⟩

/-- BLK_NVM_ID.value: BLK_NVM_ID: the three JEDEC ID bytes of device 0, the first byte in bits [7:0]. BLK_NVM_SIZE: size of device 0 in 64 KiB units, from SFDP or BLK_CFG.size_64k -/
def BLK_NVM_ID_value : Fld := ⟨0x3040, 0x0, 1, 0, 24, .ro, 0, .no, false⟩

/-- BLK_NVM_SIZE.value: BLK_NVM_ID: the three JEDEC ID bytes of device 0, the first byte in bits [7:0]. BLK_NVM_SIZE: size of device 0 in 64 KiB units, from SFDP or BLK_CFG.size_64k -/
def BLK_NVM_SIZE_value : Fld := ⟨0x3044, 0x0, 1, 0, 24, .ro, 0, .no, false⟩

/-- BLK_BUILD.bytes: Four bytes each, the lowest-numbered byte in bits [7:0]: build_id bytes 4n to 4n+3, or digest bytes 4n to 4n+3 -/
def BLK_BUILD_bytes : Fld := ⟨0x3050, 0x4, 4, 0, 32, .ro, 0, .no, false⟩

/-- BLK_RCV_ADDR.addr: Byte offset for recovery commands, in 0x0000_0000 to 0x0003_FFFF -/
def BLK_RCV_ADDR_addr : Fld := ⟨0x3080, 0x0, 1, 0, 18, .rw, 0, .no, false⟩

/-- BLK_RCV_CMD.key: Must be 0x5243; reads 0 -/
def BLK_RCV_CMD_key : Fld := ⟨0x3084, 0x0, 1, 16, 16, .wk, 0, .no, false⟩

/-- BLK_RCV_CMD.cmd: Command of R182 -/
def BLK_RCV_CMD_cmd : Fld := ⟨0x3084, 0x0, 1, 0, 4, .wk, 0, .no, false⟩

/-- BLK_RCV_STAT.done: Recovery commands completed; saturates at 65,535 -/
def BLK_RCV_STAT_done : Fld := ⟨0x3088, 0x0, 1, 16, 16, .ro, 0, .no, false⟩

/-- BLK_RCV_STAT.result: Last command: 0x0 done; 0x1 address out of range or misaligned; 0x2 device timeout or error; 0x3 unknown command -/
def BLK_RCV_STAT_result : Fld := ⟨0x3088, 0x0, 1, 4, 4, .ro, 0, .no, false⟩

/-- BLK_RCV_STAT.busy: 1 while a command runs -/
def BLK_RCV_STAT_busy : Fld := ⟨0x3088, 0x0, 1, 0, 1, .ro, 0, .no, false⟩

/-- BLK_RCV_BUF.data: Page bytes 4n to 4n+3 at offset 0x100 + 4n, the lowest-numbered byte in bits [7:0] -/
def BLK_RCV_BUF_data : Fld := ⟨0x3100, 0x4, 64, 0, 32, .rw, 0, .no, false⟩

/-- Fields of the DEV_ block, part 0. -/
def fldsDEV0 : List Fld :=
  [DEV_STATE_slot]

/-- Every stored field of the DEV_ block. -/
def fldsDEV : List Fld :=
  fldsDEV0

/-- Fields of the PWR_ block, part 0. -/
def fldsPWR0 : List Fld :=
  [PWR_DOM_CFG_ops_off,
   PWR_DOM_CFG_idle_ms,
   PWR_DOM_CFG_fchb_auto,
   PWR_DOM_CFG_mem1_auto,
   PWR_DOM_CFG_seq_auto,
   PWR_DOM_CFG_ops_auto,
   PWR_DOM_CFG_fchb_off,
   PWR_DOM_CFG_mem0_off,
   PWR_DOM_CFG_mem1_off,
   PWR_DOM_CFG_seq_off,
   PWR_HOLD_CFG_flush_pages,
   PWR_HOLD_CFG_load_ma]

/-- Fields of the PWR_ block, part 1. -/
def fldsPWR1 : List Fld :=
  [PWR_HOLD_CFG_cap_uf,
   PWR_HOLD_STAT_vhold,
   PWR_HOLD_STAT_cap_meas,
   PWR_VF_vf,
   PWR_RET_STAT_source]

/-- Every stored field of the PWR_ block. -/
def fldsPWR : List Fld :=
  fldsPWR0 ++ fldsPWR1

/-- Fields of the CLK_ block, part 0. -/
def fldsCLK0 : List Fld :=
  [CLK_CFG_auto_return,
   CLK_CFG_ref_freq,
   CLK_CFG_src,
   CLK_STAT_follow_lock,
   CLK_STAT_hosc_ok,
   CLK_STAT_ref_fit,
   CLK_STAT_ret_pending,
   CLK_STAT_holdover,
   CLK_STAT_pll_lock,
   CLK_STAT_src_now,
   CLK_CTRL_return_ref,
   CLK_TB_HI_tb]

/-- Fields of the CLK_ block, part 1. -/
def fldsCLK1 : List Fld :=
  [CLK_TB_EPOCH_wrapped,
   CLK_TB_STEPS_count,
   CLK_TB_STEP_LO_step,
   CLK_TB_STEP_HI_step,
   CLK_MEAS_fclk_err,
   CLK_MEAS_mclk_err,
   CLK_FOLLOW_link_delay,
   CLK_FOLLOW_err,
   CLK_REF_LOSS_count]

/-- Every stored field of the CLK_ block. -/
def fldsCLK : List Fld :=
  fldsCLK0 ++ fldsCLK1

/-- Fields of the HNG_ block, part 0. -/
def fldsHNG0 : List Fld :=
  [HNG_CFG_txn_retries,
   HNG_CFG_margin_min,
   HNG_STAT_field_cfg_ok,
   HNG_STAT_stale,
   HNG_STAT_rejoin,
   HNG_STAT_in_service,
   HNG_STAT_link_up,
   HNG_CTRL_retrain,
   HNG_BOLT_code_errors,
   HNG_BOLT_field_latched,
   HNG_DELAY_LF_lf1,
   HNG_DELAY_LF_lf0]

/-- Fields of the HNG_ block, part 1. -/
def fldsHNG1 : List Fld :=
  [HNG_DELAY_FL_fl1,
   HNG_DELAY_FL_fl0,
   HNG_MARGIN_fl1,
   HNG_MARGIN_MIN_fl1,
   HNG_MARGIN_fl0,
   HNG_MARGIN_MIN_fl0,
   HNG_MARGIN_lf1,
   HNG_MARGIN_MIN_lf1,
   HNG_MARGIN_lf0,
   HNG_MARGIN_MIN_lf0,
   HNG_ERR_count,
   HNG_EVENTS_link_losses]

/-- Fields of the HNG_ block, part 2. -/
def fldsHNG2 : List Fld :=
  [HNG_EVENTS_lane_downs,
   HNG_TXN_failures,
   HNG_TXN_retries]

/-- Every stored field of the HNG_ block. -/
def fldsHNG : List Fld :=
  fldsHNG0 ++ fldsHNG1 ++ fldsHNG2

/-- Fields of the BLK_ block, part 0. -/
def fldsBLK0 : List Fld :=
  [BLK_CFG_size_64k,
   BLK_CFG_sck_50,
   BLK_CFG_lanes,
   BLK_CFG_mirror,
   BLK_STAT_recovery,
   BLK_STAT_sck50_now,
   BLK_STAT_lanes_now,
   BLK_STAT_mirror_present,
   BLK_STAT_sfdp,
   BLK_STAT_signed,
   BLK_STAT_device,
   BLK_STAT_slot]

/-- Fields of the BLK_ block, part 1. -/
def fldsBLK1 : List Fld :=
  [BLK_GEN_generation,
   BLK_GEN_A_generation,
   BLK_GEN_B_generation,
   BLK_CHECK_GEN_generation,
   BLK_SLOT_A_record,
   BLK_SLOT_B_record,
   BLK_CHECK_record,
   BLK_SLOT_A_section,
   BLK_SLOT_B_section,
   BLK_CHECK_section,
   BLK_SLOT_A_device,
   BLK_SLOT_B_device]

/-- Fields of the BLK_ block, part 2. -/
def fldsBLK2 : List Fld :=
  [BLK_CHECK_device,
   BLK_SLOT_A_reason,
   BLK_SLOT_B_reason,
   BLK_CHECK_reason,
   BLK_CTRL_check,
   BLK_REBOOT_key,
   BLK_FUSE_key,
   BLK_SHADOW_CRC_crc,
   BLK_SHADOW_FCRC_crc,
   BLK_SHADOW_SCAN_scans,
   BLK_SHADOW_SCAN_safety_max,
   BLK_NVM_ID_value]

/-- Fields of the BLK_ block, part 3. -/
def fldsBLK3 : List Fld :=
  [BLK_NVM_SIZE_value,
   BLK_BUILD_bytes,
   BLK_RCV_ADDR_addr,
   BLK_RCV_CMD_key,
   BLK_RCV_CMD_cmd,
   BLK_RCV_STAT_done,
   BLK_RCV_STAT_result,
   BLK_RCV_STAT_busy,
   BLK_RCV_BUF_data]

/-- Every stored field of the BLK_ block. -/
def fldsBLK : List Fld :=
  fldsBLK0 ++ fldsBLK1 ++ fldsBLK2 ++ fldsBLK3

end Sys2Proof.Machine
end

