-- ==== Sys2Proof/Machine/StateCore.lean ====
section
/-!
DEFINITION. The parts of the state that every block uses: the chip's identity and fuses, the device and ward states, the
supplies, the retained block, the fault collector, the interrupts, the recorder and the NVM devices.
Each field's default value is its value in `State.reset`.

What the spec leaves open here: DESIGN CHOICE, log entry 6.
-/

namespace Sys2Proof.Machine

/-- The two parts (R2, R717). -/
inductive Part where
  | pwh1640 | pwh0840
  deriving DecidableEq, Repr

/-- The two silicon revisions (R720). -/
inductive Rev where
  | a1 | b0
  deriving DecidableEq, Repr

/-- One OTP key slot (R633): state 0 empty, 1 partial, 2 programmed, and its 32 key bytes. -/
structure KeySlot where
  state : Nat := 0
  key : List Nat := []
  deriving DecidableEq, Repr

/-- What is made or fused into one chip and outlives every reset: the part, the revision, the unique identity (DEV_UID),
the key hash fuses (R185) and the OTP key slots (R633). -/
structure Chip where
  part : Part := .pwh1640
  rev : Rev := .b0
  uid : Nat := 0
  hashState : Nat := 0
  hashAttempts : Nat := 0
  keyHash : List Nat := List.replicate 32 0
  keySlots : Vector KeySlot 8 := Vector.replicate 8 {}
  deriving DecidableEq, Repr

/-- The boot phase the hub is in; the device state of R17 is computed from it and from the conditions of R19. -/
inductive Phase where
  | off | boot | arming | recovery | up
  deriving DecidableEq, Repr

/-- The device states of R17. -/
inductive DevState where
  | off | boot | arming | run | brown | degraded | safe | halt | test | recovery
  deriving DecidableEq, Repr

/-- The code of a device state in DEV_STATE.state. -/
def DevState.code : DevState → Nat
  | .off => 0 | .boot => 1 | .arming => 2 | .run => 3 | .brown => 4 | .degraded => 5
  | .safe => 6 | .halt => 7 | .test => 8 | .recovery => 9

/-- The two causes of *Halt* (R17). -/
inductive HaltCause where
  | thermal | clock
  deriving DecidableEq, Repr

/-- The ward states of R27. -/
inductive WardState where
  | absent | reset | active | held
  deriving DecidableEq, Repr

/-- The code of a ward state in WRD_STAT.state. -/
def WardState.code : WardState → Nat
  | .absent => 0 | .reset => 1 | .active => 2 | .held => 3

/-- The device-level control state. -/
structure Dev where
  /-- the boot phase -/
  phase : Phase := .boot
  /-- *Halt* and its cause -/
  halt : Option HaltCause := none
  /-- in *Safe* (R515) -/
  safe : Bool := false
  /-- a test of kind 1 or 2 runs (R586, R590): the hub is in *Test* -/
  test : Bool := false
  /-- ERR was low on entry to a logic LBIST and PD_AON holds it (R541) -/
  testHold : Bool := false
  /-- the step of a *Safe* exit under way (R516): 1 accepted, 2 BOLT_REL sent -/
  exitStep : Nat := 0
  /-- the ward states (R27) -/
  wards : Vector WardState 8 := Vector.replicate 8 .absent
  /-- a device soft reset waits for a running NVM program: its cause code and ward (R428, R435) -/
  softReset : Option (Nat × Nat) := none
  /-- RSTn is held low (R427) -/
  rstLow : Bool := false
  /-- DA sends BOLT to the end of the next *Arming*: since a power-on reset, a power-down or a thermal *Halt* (R145) -/
  boltBoot : Bool := true
  /-- the level of TESTEN, and whether it was high when reset was released (R50) -/
  testen : Bool := false
  testHeld : Bool := false
  /-- the level of FTEST, and whether it was high at field reset release (R50) -/
  ftest : Bool := false
  ftestHeld : Bool := false
  /-- the running Blank's signature was verified (R173) -/
  signed : Bool := false

  /-- a power-on reset has not yet led to *Boot*: VDD lies below its band's VRST, or RSTn is low (R45, R79) -/
  porWaits : Bool := false
  /-- when the hub last entered thermal *Halt* (R638) -/
  haltAt : Nat := 0
  deriving DecidableEq, Repr

/-- The VDD bands of R62. -/
inductive Band where
  | v18 | v25 | v33
  deriving DecidableEq, Repr

/-- A page of the power-down's NVM writes (R80, R84); `running` is the operation that was under way when it started (R85, R93). -/
inductive PdPage where
  | running | stagingFault | mirror | ledger | staging | flush
  deriving DecidableEq, Repr

/-- An orderly power-down under way (R80 to R85). -/
structure PowerDown where
  step : Nat := 1
  vddFailed : Bool := false
  failStep : Nat := 0
  written : Nat := 0
  skipped : Nat := 0
  vfLost : Bool := false
  eraseSuspended : Bool := false
  /-- pages still to be written in the step, or in the hold-up order -/
  todo : List PdPage := []
  /-- the page being written -/
  busy : Option PdPage := none
  /-- every page of step 2, of step 3, was written (R674) -/
  all2 : Bool := true
  all3 : Bool := true
  deriving DecidableEq, Repr

/-- The supplies and power domains (chapter 03). -/
structure Sup where
  /-- the band sampled from BAND (R44) -/
  band : Band := .v18
  /-- the last known VDD and VHOLD in mV, and VF in mV -/
  vdd : Nat := 0
  vhold : Nat := 0
  vf : Nat := 0
  /-- a VDD warning lasts (R63), and it began at the trigger of R79 -/
  warn : Bool := false
  warnAtTrigger : Bool := false
  /-- the lowest VDD of this warning in 10 mV steps (R65) -/
  warnMin : Nat := 0
  /-- the orderly power-down under way -/
  pd : Option PowerDown := none
  /-- the power domains that are on, by the bits of R74 -/
  on : Nat := 3
  /-- the memory domain being cleared, and one that waits for its turn: bit 0 PD_MEM0, bit 1 PD_MEM1 (R78) -/
  clearing : Nat := 0
  clearWait : Nat := 0
  /-- domains whose wake has been requested and not admitted, and whose wake is running (R76) -/
  wakeReq : Nat := 0
  waking : Nat := 0
  /-- NVM access is allowed: VHOLD has come within 100 mV of VDD (R47), or has not fallen below VHEND (R72) -/
  nvmAllowed : Bool := false
  /-- the field die is out of field power-on reset (R66, R68) -/
  fieldUp : Bool := false
  /-- VF is valid (R67), has been valid since the last field power-on reset, is below the under-voltage level after that, is above the
  over-voltage level; VREG5 and VREGL are in range (R66, R70); VHOLD is within 100 mV of VDD (R90) -/
  vfValid : Bool := false
  vfSeenValid : Bool := false
  vfUv : Bool := false
  vfOv : Bool := false
  vreg5Ok : Bool := false
  vreglOk : Bool := false
  vholdOk : Bool := false
  /-- VREG_FAIL holds every channel off until the next field die reset (R70) -/
  vregFail : Bool := false
  /-- what PWR_STAT and PWR_DOM_STAT go on to show of the field die while the link is lost (R138): the bits of `Sup.fieldBits`, and
  the field domains that are on -/
  heldBits : Nat := 0
  heldOn : Nat := 0
  deriving DecidableEq, Repr

/-- A record held in a pending slot (R630): words 0 and 3 to 6, the boot count in word 1, and the over flag (`lost`). -/
structure PendRec where
  typ : Nat := 0
  source : Nat := 0
  sev : Nat := 0
  len : Nat := 0
  boots : Nat := 0
  lost : Bool := false
  payload : List Nat := []
  /-- its place in the order of writing, oldest lowest -/
  ord : Nat := 0
  deriving DecidableEq, Repr

/-- The ledger's working counters, the device counters of R653, which the retained block carries at offset 0xD0. -/
structure LifeWork where
  powerOn : Nat := 0
  dieStress : Nat := 0
  barrier : Nat := 0
  dips : Nat := 0
  vfuv : Nat := 0
  halts : Nat := 0
  month : Nat := 0
  /-- the lane minima of the month, LF0 LF1 FL0 FL1 (R652) -/
  margins : List Nat := [64, 64, 64, 64]
  /-- the serial of the newest image written -/
  serial : Nat := 0
  /-- life used at the start of the month, and gained in the last complete month, in ppm -/
  usedAtMonth : Nat := 0
  gain : Nat := 0xFFFFFFFF
  deriving DecidableEq, Repr

/-- The retained block of R86. -/
structure Retained where
  /-- a copy in PD_AON is valid (R87) -/
  valid : Bool := true
  /-- the clean mark (R86) -/
  clean : Bool := false
  /-- the boot count, and the next sequence number of the recorder (R86, R629) -/
  boots : Nat := 0
  nextSeq : Nat := 0
  /-- the reset-cause history, newest first (R435) -/
  hist : List Nat := List.replicate 8 0
  /-- expiry counts of WW0 to WW7 and DWD (R570) -/
  expiries : Vector Nat 9 := Vector.replicate 9 0
  wdTotal : Nat := 0
  /-- the PWR_BROWN image -/
  dipCount : Nat := 0
  vmin : Nat := 0
  /-- the PWR_PD_LAST image -/
  pdLast : Nat := 0
  /-- the four pending-record slots (R630) -/
  slots : Vector (Option PendRec) 4 := Vector.replicate 4 none
  /-- the next entry of the NVM mirror (R88): 0 to 3 in copy 0, 4 to 7 in copy 1 -/
  mirrorNext : Nat := 0
  life : LifeWork := {}
  deriving DecidableEq, Repr

/-- One event at the recorder's intake (R606, R609): what becomes words 0 and 2 to 6 of its record. `flags` are bits 19:16
of word 2; `seq` is none while numbering has not started (R629). -/
structure RecEvent where
  typ : Nat := 0
  source : Nat := 0
  sev : Nat := 0
  len : Nat := 0
  ward : Nat := 255
  flags : Nat := 0
  payload : List Nat := []
  seq : Option Nat := none
  deriving DecidableEq, Repr

/-- A staging page (R621): the records it holds, each as its eight words, the time it took its first record and its first
Fault or Safety record. -/
structure StagePage where
  /-- its records, in order -/
  recs : List (List Nat) := []
  /-- when it took its first record -/
  since : Nat := 0
  /-- with a Fault or Safety record in it, when the wait that was in force as it took the first of them ends -/
  urgent : Option Nat := none
  deriving DecidableEq, Repr

/-- The recorder (chapter 20). The ring itself lies in banks B44 to B47 (R613). -/
structure Rec where
  /-- numbering has started since the boot (R629) -/
  numbering : Bool := false
  /-- when the writer last started a record (R609) -/
  startedAt : Option Nat := none
  /-- the intake FIFO, oldest first (R609) -/
  fifo : List RecEvent := []
  /-- the record whose writing has started, and the slot it goes to -/
  writing : Option RecEvent := none
  /-- severities of events dropped before numbering started, oldest first (R629) -/
  earlyDrops : List Nat := []
  /-- the pending counts of the next Gap record, Trace to Safety, and the lowest lost number (R612) -/
  gap : Vector Nat 5 := Vector.replicate 5 0
  gapLow : Option Nat := none
  /-- the counts that the Gap record now in the FIFO or being written reports -/
  gapSent : Option (Vector Nat 5 × Option Nat) := none
  /-- the highest number whose word 7 has been written (R616) -/
  newest : Nat := 0
  /-- the staging pages, oldest first, at most two (R619, R621) -/
  staging : List StagePage := []
  /-- numbers of eligible records that wait in the ring to be staged (R620), in the order they are to be staged -/
  waiting : List Nat := []
  /-- a page is submitted for admission, admitted or being programmed; a clear has replaced what it was made from -/
  submitted : Bool := false
  stale : Bool := false
  /-- failed pages in a row (R622) -/
  failRun : Nat := 0
  /-- the next sector has been erased and is ready (R623) -/
  nextReady : Bool := true
  /-- the reclaim of the next sector: 0 none, 1 due, 2 copying, 3 its erase asked for; the copies still to be programmed -/
  reclaim : Nat := 0
  copies : List (List Nat) := []
  /-- the sector at the write point is to be erased before anything is programmed in it (R626) -/
  eraseFirst : Bool := false
  /-- the journal has been scanned since the boot (R626) -/
  scanned : Bool := false
  /-- a clear that runs: its S, the authority slot, and whether the journal is cleared too (R636, R645) -/
  clearRun : Option (Nat × Nat × Bool) := none
  /-- sectors of a clear still to be erased (R636) -/
  clearSectors : List Nat := []
  /-- the nonce in force and the time it was read (R635) -/
  nonce : Option (Nat × Nat) := none
  /-- S of the nonce (R635) -/
  clearS : Nat := 0
  /-- the time of the last token mismatch -/
  mismatchAt : Option Nat := none
  /-- the page of a journal read under way (R627) -/
  jread : Option Nat := none
  /-- the OTP slot being programmed and its key bytes (R633) -/
  keyProg : Option (Nat × List Nat) := none
  /-- the authority map of R634: OTP slot of each authority slot -/
  authMap : Vector (Option Nat) 4 := Vector.replicate 4 none
  deriving DecidableEq, Repr

/-- The fault collector (chapter 17). A resource map has bit n for channel or tumbler n, and bit 16 for a cause tied to
none. -/
structure Flt where
  /-- the ward mask of each source (R537); its status is set while the mask is not empty -/
  mask : Vector Nat 62 := Vector.replicate 62 0
  /-- the resources on which each source's cause is present, as the logic die finds it -/
  cause : Vector Nat 62 := Vector.replicate 62 0
  /-- the live flags of the 40 field positions, as the logic die last heard them (R545) -/
  fieldLive : Vector Nat 40 := Vector.replicate 40 0
  /-- the field die's sticky flags, one bit for each position -/
  fieldSticky : Nat := 0
  /-- positions for which a FAULT frame has been seen since the last FSUM -/
  fieldSeen : Nat := 0
  /-- the live flags of the 40 field positions on the field die: channels by number, bit 16 for a position tied to none -/
  fLive : Vector Nat 40 := Vector.replicate 40 0
  /-- the first fault was captured by the command being carried out (R540) -/
  fresh : Bool := false
  /-- occurrence counts (FLT_SEL_INFO.count) -/
  counts : Vector Nat 62 := Vector.replicate 62 0
  deriving DecidableEq, Repr

/-- A ward's interrupt state (R421). -/
structure WardInt where
  released : Bool := false
  held : Bool := false
  /-- the timebase at the ward's last release, and the moderation interval in ticks that began then (R422, R438) -/
  last : Option Nat := none
  ticks : Nat := 0
  deriving DecidableEq, Repr

/-- An interrupt pin in pulse mode (R423): a pulse runs, the gap after a pulse runs, a release waits for the gap's end; `since` is when the
pulse or the gap began. -/
structure PinPulse where
  pulse : Bool := false
  gap : Bool := false
  queued : Bool := false
  since : Nat := 0
  deriving DecidableEq, Repr

/-- The kinds of NVM device (R48): a NOR flash or a ferroelectric memory. -/
inductive NvmKind where
  | nor | fram
  deriving DecidableEq, Repr

/-- One NVM device: whether it answers, its kind, its SFDP figures and its bytes. An unlisted byte reads 0xFF, erased. -/
structure NvmDev where
  present : Bool := false
  kind : NvmKind := .nor
  sfdp : Bool := false
  jedec : Nat := 0
  /-- size in 64 KiB units -/
  size64 : Nat := 0
  /-- typical page program time in µs and the multiplier that gives the maximum, sector erase time in µs, lanes it reads with, erase
  suspend -/
  ppUs : Nat := 0
  ppMul : Nat := 0
  eraseUs : Nat := 0
  lanes : Nat := 0
  suspend : Bool := false
  /-- what it holds; an unlisted byte reads 0xFF, as erased (R159) -/
  mem : List Host.Cell := []
  deriving DecidableEq, Repr

/-- What an NVM operation is for. -/
inductive NvmUse where
  | journal | reclaim | clearErase | mirror | rebase | recovery | user | retained
  deriving DecidableEq, Repr

/-- An NVM operation that runs inside the device. -/
structure NvmOp where
  use : NvmUse := .user
  /-- 0 read, 1 program, 2 erase -/
  kind : Nat := 0
  /-- its address, and the bytes that it programs -/
  addr : Nat := 0
  data : List Nat := []
  /-- the operation slot it belongs to -/
  slot : Nat := 0
  deriving DecidableEq, Repr

end Sys2Proof.Machine
end

