-- ==== Sys2Proof/Machine/StateField.lean ====
section
/-!
DEFINITION. The parts of the state for the field side: the Hinge link and the bolt lines, the output channels and
Deadbolt. Each field's default value is its value in `State.reset`.  Times are ticks of the model's own clock.
-/

namespace Sys2Proof.Machine

/-- The code of a tone in HNG_BOLT. -/
def toneCode : Tone → Nat
  | .clear => 0 | .hold => 1 | .bolt => 2 | .silence => 3

/-- A Hinge frame on its way: type byte and 40-bit payload (R128, R131). -/
structure HFrame where
  typ : Nat := 0
  payload : Nat := 0
  /-- its place in the order of R133, 1 first -/
  prio : Nat := 6
  /-- the lane that has taken the first of its two copies (R133) -/
  by_ : Option Nat := none
  /-- the sequence number it was sent with (R130) -/
  seq : Nat := 0
  deriving DecidableEq, Repr

/-- One lane (R130, R135, R136), in the order LF0, LF1, FL0, FL1. -/
structure LaneSt where
  inService : Bool := false
  /-- declared down since it was last in service; its training is a retry under R136 -/
  down : Bool := false
  /-- trained by a retry and waiting for 256 good frames; how many have come -/
  waiting : Bool := false
  goodRun : Nat := 0
  /-- the last 64 frame positions, 1 for an error, newest in bit 0 -/
  window : Nat := 0
  /-- the sequence number expected next, and the one sent next -/
  expect : Nat := 0
  sendSeq : Nat := 0
  /-- measurements below margin_min in a row (R150) -/
  lowRun : Nat := 0
  /-- the lane is in training (R135) -/
  training : Bool := false
  /-- a margin has been measured in service since the last logic-die reset -/
  measured : Bool := false
  /-- a frame has set the sequence expected since the lane last trained -/
  synced : Bool := false
  /-- the frames sent since its last IDLE frame (R130), and those on their way, oldest first -/
  sinceIdle : Nat := 0
  wire : List HFrame := []
  deriving DecidableEq, Repr

/-- What a REQ asks of the field die. Its payload is internal (R131), so the model holds its meaning. -/
inductive ReqKind where
  /-- clear a sticky flag of the field collector (R545) -/
  | clearSticky (p : Nat)
  /-- clear OUT_FLT or IN_FLT bits of a channel (R227, R263) -/
  | clearOut (c bits : Nat)
  | clearIn (c bits : Nat)
  /-- the trims of a channel (R231) -/
  | trim (c ilim period : Nat)
  /-- rearm a latched channel (R212) -/
  | rearm (c : Nat)
  /-- the whole field configuration from the shadow (R140) -/
  | config
  /-- read the ledger accumulators (R653) -/
  | snapshot
  /-- a rebase naming a serial (R658) -/
  | rebase (serial : Nat)
  /-- the test-hold request (R586) -/
  | testHold
  deriving DecidableEq, Repr

/-- A REQ without a response (R148): its tag, what it asks, how often it was sent again, the port and header of the frame, or the
operation slot, that waits for it, the ward it is for (8 for the hub's own), and its running number, by which the field die tells a
request sent again from a new one under the same tag. -/
structure Txn where
  tag : Nat := 0
  what : ReqKind := .snapshot
  tries : Nat := 0
  port : Option (Nat × Nat) := none
  slot : Option Nat := none
  ward : Nat := 8
  num : Nat := 0
  deriving DecidableEq, Repr

/-- A vector on the field die: whether one is in force, pins, markers, timing set, and its cycle start in ticks (R131, R296). -/
structure FVec where
  live : Bool := false
  pins : Nat := 0
  marks : Nat := 0
  ts : Nat := 0
  start : Nat := 0
  deriving DecidableEq, Repr

/-- The Hinge link and the bolt lines (chapter 05). -/
structure Hinge where
  lanes : Vector LaneSt 4 := Vector.replicate 4 {}
  /-- the link is established, as the logic die and as the field die hold it -/
  upL : Bool := false
  upF : Bool := false
  /-- it has been established since the die last left reset (R137) -/
  everL : Bool := false
  everF : Bool := false
  /-- the logic die's transmit queue and the field die's, first in front (R133) -/
  txL : List HFrame := []
  txF : List HFrame := []
  /-- the logic die's latest command code of each channel (R132) and generation of each group -/
  cmd : Vector Nat 16 := Vector.replicate 16 0
  gen : Vector Nat 2 := Vector.replicate 2 0
  /-- the generation is to be taken from the next OUT_STAT frame before the next OUT_CMD; an OUT_CMD waits for that, and whether it moves a
  channel toward its safe state -/
  genFresh : Vector Bool 2 := Vector.replicate 2 true
  genDue : Vector (Option Bool) 2 := Vector.replicate 2 none
  /-- the generations the latest OUT_STAT frames reported -/
  statGen : Vector Nat 2 := Vector.replicate 2 0
  /-- the generation the field die last applied, for each group -/
  applied : Vector Nat 2 := Vector.replicate 2 0
  /-- the field die has applied an OUT_CMD generation since its reset (R726) -/
  firstApplied : Bool := false
  /-- the field die has been configured since its reset; its configuration as a register file; its CRC-32 (R191) -/
  configured : Bool := false
  cfg : List (Nat × Nat) := []
  fieldCrc : Nat := 0
  /-- rejoin waits for the end of *Arming* (R141) -/
  rejoinWaits : Bool := false
  /-- the tone DA sends and the tone it is to change to at its next edge (R143, R145) -/
  daTone : Tone := .bolt
  daWant : Tone := .bolt
  /-- when the tone that DA is to send last changed -/
  toneAt : Nat := 0
  /-- the tone the field die has decided on the logic-to-field line -/
  fieldDecides : Tone := .silence
  /-- CLEAR has been decided for 10 µs without a break -/
  clear10 : Bool := false
  /-- the tone DA has decided -/
  daDecides : Tone := .silence
  /-- the field bolt latch (R143), and a BOLT_REL held for it (R144) -/
  latch : Bool := false
  relHeld : Bool := false
  /-- DA repeats BOLT_REL until the latch reads clear -/
  relRepeat : Bool := false
  /-- at the end of *Arming*: BOLT_REL is to go out 10 µs after the change to CLEAR (R144), and the first generation, with the initial
  commands, once the latch reads clear (R726) -/
  relDue : Bool := false
  initDue : Bool := false
  /-- the next tag, the number of the next request, the outstanding requests (R148) -/
  nextTag : Nat := 0
  reqNum : Nat := 0
  out : List Txn := []
  /-- requests that wait for one of the eight places -/
  waiting : List Txn := []
  /-- whose turn it is among the wards' requests, and how many more it may send in it (R134) -/
  reqTurn : Nat := 0
  reqLeft : Nat := 0
  /-- the field die's record of the last 16 tags: the request's number and its response data (R148) -/
  kept : Vector (Option (Nat × Nat)) 16 := Vector.replicate 16 none
  /-- the margins of FL0 and FL1 as the field die measured them last (R150) -/
  marginF : Nat := 0
  /-- the first copies of frames sent on both lanes, whose second copies are to be discarded: the lane in `prio` (R133) -/
  dups : List HFrame := []
  /-- a field power-on reset has taken place while the logic die ran, and its HOLD is not yet decided (R436) -/
  porSeen : Bool := false
  /-- each tumbler's vector in force on the field die -/
  vecs : Vector FVec 8 := Vector.replicate 8 {}
  /-- the FHOLD timers run, since this time (R139, R152) -/
  fholdSince : Option Nat := none
  /-- the channels the field die brought to their safe states during the loss (R140) -/
  lossSafe : Nat := 0
  /-- of them, those whose FHOLD ended -/
  lossEnded : Nat := 0
  deriving DecidableEq, Repr

/-- The kinds of test pulse (R232). -/
inductive PulseKind where
  | dark | bright
  deriving DecidableEq, Repr

/-- One output channel's state that no register shows (chapter 07). -/
structure OutCh where
  /-- the field die's output state latch (R13), and the switch -/
  latched : Bool := false
  sw : Bool := false
  /-- the latest command off or on that the field die applied: for a tumbler source, its gate (R202) -/
  gate : Bool := false
  /-- at the safe state by field-die action, and the field hold timer running (R132) -/
  atSafe : Bool := false
  fholdRun : Bool := false
  /-- regulating at ILIM, latched off, waiting to retry, off by its supply mode, last shutdown a soft cut -/
  limiting : Bool := false
  tsdLatched : Bool := false
  retryWait : Bool := false
  uvOff : Bool := false
  softCut : Bool := false
  /-- the sticky bits of OUT_FLT as the field die holds them -/
  flt : Nat := 0
  /-- VF is below the channel's UVTH (R215), and the scheduler has admitted its return from a shutdown or a low supply -/
  uvLow : Bool := false
  go : Bool := false
  /-- a lit check has been admitted (R223); the tumbler's request for a pulse has been served (R232) -/
  litOk : Bool := false
  pulsed : Bool := false
  /-- the switch current last measured, in mA -/
  cur : Nat := 0
  /-- off and high-impedance by hardware (R51, R68, R70) -/
  hiz : Bool := true
  /-- a command change that waits for admission (R203) -/
  wait : Option Bool := none
  /-- shut down and not yet below 160 °C (R212) -/
  hot : Bool := false
  /-- the retry interval has passed -/
  retryDone : Bool := false
  /-- consecutive shutdowns, and since when the channel has run without limiting (R229) -/
  shutdowns : Nat := 0
  ranSince : Option Nat := none
  /-- a 1 ms limiting episode has been counted -/
  episode : Bool := false
  /-- dissipation of the last limiting episode in mW (R236) -/
  limMw : Nat := 0
  /-- the ILIM in force in 0.1 A units while limiting (R231) -/
  limAt : Nat := 0
  /-- when the commanded state last changed (R224), and when the switch last went off (R221) -/
  changedAt : Nat := 0
  offAt : Nat := 0
  /-- off-state or lit check under way (R221, R223), and failed checks in a row -/
  check : Bool := false
  lit : Bool := false
  checkFails : Nat := 0
  /-- level checks are blanked until this time (R232, R223) -/
  blankTill : Nat := 0
  /-- the last failing level check: stuck on or off, and when (R225) -/
  failAt : Option (Bool × Nat) := none
  /-- since when the current has been below the open-load threshold; since when the pin has been at or above 6.0 V -/
  openSince : Option Nat := none
  highSince : Option Nat := none
  /-- the pulse under way, and whether a measurement in it has passed it (R233) -/
  pulse : Option PulseKind := none
  pulsePass : Bool := false
  /-- a passing dark pulse in this supervision interval (R234) -/
  tpSeen : Bool := false
  /-- since when the halves of a pair have differed (R209) -/
  pairSince : Option Nat := none
  /-- the field hold timer has ended (R218) -/
  fholdEnded : Bool := false
  /-- the trims as the field die holds them (R231) -/
  rtIlim : Nat := 0
  rtPeriod : Nat := 0
  deriving DecidableEq, Repr

/-- What one Deadbolt half knows of the heartbeats (R508 to R510). -/
structure Half where
  /-- the counter of the half's own latest heartbeat -/
  sent : Nat := 0
  /-- the counter of the latest valid heartbeat of the other half, and whether one has come -/
  heard : Nat := 0
  any : Bool := false
  /-- invalid heartbeats in a row -/
  badRun : Nat := 0
  /-- arrival times of the last valid heartbeats with consecutive counters, newest first, at most 50 -/
  arrivals : List Nat := []
  /-- when the last valid heartbeat came, on the model's clock -/
  heardAt : Nat := 0
  deriving DecidableEq, Repr

/-- A proof under way (R521, R528). -/
structure Proof where
  mech : Nat := 0
  inst : Nat := 0
  since : Nat := 0
  /-- the force is applied; otherwise the re-check window is open -/
  forced : Bool := true
  /-- the measured detection time -/
  ticks : Nat := 0
  /-- it belongs to the rotation -/
  rot : Bool := false
  deriving DecidableEq, Repr

/-- An instance's time since its last passing proof (R522), in ticks of active time. -/
structure InstAge where
  /-- the 24 h rule has spoken -/
  overdue : Bool := false
  mech : Nat := 0
  inst : Nat := 0
  age : Nat := 0
  deriving DecidableEq, Repr

/-- Deadbolt (chapter 16). -/
structure Dbt where
  da : Half := {}
  db : Half := {}
  /-- DB drives the channels directly for a detection of its own (R515) -/
  dbForced : Bool := false
  /-- DB holds every channel off since a field sensor read 165 °C or more (R672) -/
  globalOff : Bool := false
  /-- the clock-loss monitor holds every channel at its safe state (R507) -/
  clockLost : Bool := false
  proof : Option Proof := none
  /-- instances still to be proved in this rotation; a rotation runs -/
  todo : List (Nat × Nat) := []
  /-- an instance named by DBT_PROOF_CTRL to be proved next (R523) -/
  nextNow : Option (Nat × Nat) := none
  paused : Bool := false
  /-- when the pause ends -/
  pauseTill : Nat := 0
  /-- when the last proof of the rotation started -/
  provedAt : Option Nat := none
  ages : List InstAge := []
  /-- instances whose proof failed (R517), and instances marked for re-proof after *Safe* -/
  failed : List (Nat × Nat) := []
  reproof : List (Nat × Nat) := []
  /-- when DA last proved a failed instance again in *Safe* (R517): mechanism, instance, tick -/
  reproofAt : List (Nat × Nat × Nat) := []
  /-- the highest ratio to budget in this rotation, in 1/256 (R524) -/
  ratio : Nat := 0
  /-- sensors marked invalid under R474, bits 0 to 5 for S0 to S5 -/
  badSensors : Nat := 0
  /-- since when the two readings of S0 to S5, and L0 and L1, have disagreed without a break (R511) -/
  tempSince : Vector (Option Nat) 7 := Vector.replicate 7 none
  /-- measured quantities with a difference that waits for its re-measurement, and those confirmed in disagreement, as maps
  of their numbers (R511) -/
  adcPending : Nat := 0
  adcBad : Nat := 0
  deriving DecidableEq, Repr

/-- One entry of an input FIFO (R250, R251): the 48-bit stamp, the direction and the flags of IN_TS_HI. -/
structure InEntry where
  stamp : Nat := 0
  dir : Bool := false
  uncertain : Bool := false
  gap : Bool := false
  forced : Bool := false
  deriving DecidableEq, Repr

/-- A check window of an input, its own or a foreign one (R257, R265): whether an OFF reading has come; the first crossing
that the raw output has held since, by its stamp and its moment on the model's clock, and whether the stamp is uncertain. -/
structure Window where
  seenOff : Bool := false
  cross : Option (Nat × Nat) := none
  unc : Bool := false
  deriving DecidableEq, Repr

/-- One input channel's state that no register shows (chapter 08). -/
structure InCh where
  /-- the raw comparator output and the debounced state before forcing -/
  raw : Bool := false
  deb : Bool := false
  /-- the candidate edge: its stamp and since when it runs on the model's clock (R247) -/
  cand : Option (Nat × Nat) := none
  candUncertain : Bool := false
  /-- the FIFO on the logic die, oldest first, and the field die's buffer while the link is lost (R251, R266) -/
  fifo : List InEntry := []
  buffer : List InEntry := []
  bufferLost : Nat := 0
  /-- the next entry stored takes the gap flag (R252, R268) -/
  gapNext : Bool := false
  /-- the channel's own check window and a foreign one, while open (R257, R271) -/
  own : Option Window := none
  foreign : Option Window := none
  /-- the sticky bits of IN_FLT as the field die holds them, and the conditions present, by the same bits -/
  flt : Nat := 0
  live : Nat := 0
  /-- the first debounced state has been taken (R249) -/
  valid : Bool := false
  /-- the entries in the FIFO at the start of the ward's reset, which its step 3 clears (R272, R431) -/
  old : Nat := 0
  /-- the wire-break timer's pauses (R269): since when it pauses, and for how long it has since the current fell below the threshold; the
  end of the 100 µs after a check window -/
  wbPaused : Option Nat := none
  wbPause : Nat := 0
  wbTill : Nat := 0
  /-- accepted edges (IN_EDGES) -/
  edges : Nat := 0
  /-- a passing check in this supervision interval (R259) -/
  passed : Bool := false
  /-- the effective state before a field LBIST froze it (R273) -/
  frozen : Option Bool := none
  deriving DecidableEq, Repr

/-- The clocks, the timebase and the field die's follower (chapter 04). -/
structure Clk where
  /-- ticks of 10 ns that have passed on the model's own clock since `State.reset`; nothing sets it back -/
  now : Nat := 0
  /-- the 64-bit timebase (R109), and the MCLK cycles that have passed since `State.reset`, which the watchdogs count (R108) -/
  tb : Nat := 0
  mclk : Nat := 0
  /-- the last MCLK window failed (R105) -/
  badWindow : Bool := false
  /-- MCLK has no source left: PLL or HOSC has failed -/
  mclkLost : Bool := false
  /-- the follower's 64-bit value in fine ticks at a moment of the model's own clock, and that moment (R114) -/
  follower : Nat := 0
  followAt : Nat := 0
  /-- when the last valid time message came (R115) -/
  heardAt : Nat := 0
  /-- what FCLK's trim is still to slew out, in fine ticks (R114) -/
  slew : Int := 0
  /-- the follower is locked (R115) -/
  locked : Bool := false
  /-- it has taken a long message since the link was last established (R115) -/
  long : Bool := false
  /-- short messages in a row within ±20 ns since then -/
  goodRun : Nat := 0
  /-- the timebase has been set to 0 since the follower last held lock (R116) -/
  tbReset : Bool := true
  /-- when the timebase was last stepped (R122) -/
  steppedAt : Option Nat := none
  deriving DecidableEq, Repr

end Sys2Proof.Machine
end

