-- ==== Sys2Proof/Machine/StateSeq.lean ====
section
/-!
DEFINITION. The parts of the state for the tumblers. Each field's default value is its value in `State.reset`.
-/

namespace Sys2Proof.Machine

/-- A MARCH element that runs on a bank (R307). -/
structure MarchRun where
  bank : Nat := 0
  operand : Nat := 0
  deriving DecidableEq, Repr

/-- One tumbler's state that no register shows (chapter 09). -/
structure Tmb where
  /-- the loop stack, count and address, and the call stack, top first (R286) -/
  loops : List (Nat × Nat) := []
  calls : List Nat := []
  /-- cycles of the VEC in force still to be issued (R284), its markers and mk_each -/
  remain : Nat := 0
  vecMk : Nat := 0
  mkEach : Bool := false
  /-- the address of the WAIT in force and the cycles it has waited (R287) -/
  waitAt : Option Nat := none
  waited : Nat := 0
  /-- zero-cycle instructions in a row at this boundary (R284) -/
  zeros : Nat := 0
  /-- the address of the next instruction (TMB_STAT.pc shows the one in force) -/
  next : Nat := 0
  /-- the pattern, markers and timing set issued for the next cycle, if a cycle is issued -/
  issued : Option (Nat × Nat × Nat) := none
  /-- the start of the next cycle in fine ticks of the timebase (R291) -/
  cycleAt : Nat := 0
  /-- timing set that TSET or a VEC sets at the next cycle start -/
  tsNext : Option Nat := none
  /-- a stop request and whether it releases; a jump request; the entry of a pending start (R292, R293) -/
  stopReq : Option Bool := none
  jumpReq : Option Nat := none
  entry : Nat := 0
  /-- the operation slot that asked for the start -/
  startSlot : Option Nat := none
  /-- the pending start has been admitted (R292) -/
  startOk : Bool := false
  /-- the heavy vector at `next` has asked for admission, and has been admitted (R295) -/
  heavyAsked : Bool := false
  heavyOk : Bool := false
  /-- stopped with release: AUX outputs idle (R304) -/
  released : Bool := true
  /-- the tumbler's own latches of Luanen events (R288) -/
  lsyLatch : Nat := 0
  /-- the time from which the marker deadline runs, once it is due (R301) -/
  dlFrom : Option Nat := none
  march : Option MarchRun := none
  deriving DecidableEq, Repr

/-- An AUX pin: its level as an input, and the level it is driven to as an output. -/
structure Aux where
  input : Bool := false
  out : Bool := false
  /-- edges still to come in the cycle in force: instant in fine ticks of the timebase, and the level (R290, R291) -/
  edges : List (Nat × Bool) := []
  deriving DecidableEq, Repr

/-- What a scheduler candidate asks for (R483). -/
inductive CandKind where
  | turnOn | turnOff | restore | retry | uvReturn | litCheck | tmbStart | heavyVec | domainWake | nvmPage | nvmErase
  | operation | pairClose | bist
  deriving DecidableEq, Repr

/-- A candidate in the scheduler's queue (R482, R483): its kind, the channel, tumbler, domain or slot it is for, its
ward (8 for the hub's own), its class (0 A, 1 B, 2 C), its place among the hub's own, and when it arrived. -/
structure Cand where
  kind : CandKind := .turnOn
  ref : Nat := 0
  ward : Nat := 8
  cls : Nat := 1
  rank : Nat := 0
  at_ : Nat := 0
  /-- the channels it turns on, as a map -/
  chs : Nat := 0
  /-- costs set when it was made: VF power and VDD current (R480); `pvf` is beside the channels' turn-on costs -/
  pvf : Nat := 0
  ivdd : Nat := 0
  heavy : Bool := false
  instant : Option Nat := none
  deriving DecidableEq, Repr

/-- An admitted action that has not yet taken effect, or whose VDD current still runs (R478, R482). -/
structure Admitted where
  kind : CandKind := .turnOn
  ref : Nat := 0
  chs : Nat := 0
  pch : List (Nat × Nat) := []
  pvf : Nat := 0
  ivdd : Nat := 0
  instant : Option Nat := none
  deriving DecidableEq, Repr

/-- What the logic die holds of the field die's thermal model, as MEAS frames last carried it (R473, R494): the rises of the nodes, the
powers of the channels, the readings of S0 to S5 and those in force in the last 100 ms, as in `Sch`. -/
structure MeasView where
  rise1 : Vector Nat 16 := Vector.replicate 16 0
  rise2 : Vector Nat 16 := Vector.replicate 16 0
  rise3 : Vector Nat 4 := Vector.replicate 4 0
  power : Vector Nat 16 := Vector.replicate 16 0
  vfPower : Vector Nat 16 := Vector.replicate 16 0
  temps : Vector Int 6 := Vector.replicate 6 0
  past : Vector (List (Nat × Int)) 6 := Vector.replicate 6 []
  bad : Nat := 0
  deriving DecidableEq, Repr

/-- The thermal model and the budget scheduler (chapter 15). Rises are in µK, temperatures in 0.125 °C, channel powers in
µW, powers on VF in mW, the account in 0.1 µJ. -/
structure Sch where
  rise1 : Vector Nat 16 := Vector.replicate 16 0
  rise2 : Vector Nat 16 := Vector.replicate 16 0
  rise3 : Vector Nat 4 := Vector.replicate 4 0
  /-- present powers of the channels and their VF powers -/
  power : Vector Nat 16 := Vector.replicate 16 0
  vfPower : Vector Nat 16 := Vector.replicate 16 0
  /-- last measured on-currents in mA since field-die reset (R480) -/
  iest : Vector (Option Nat) 16 := Vector.replicate 16 none
  /-- sensors S0 to S5, L0, L1 -/
  temps : Vector Int 8 := Vector.replicate 8 0
  /-- the readings of each of S0 to S5 that were in force in the last 100 ms, newest first, with the moment each came -/
  past : Vector (List (Nat × Int)) 6 := Vector.replicate 6 []
  /-- the last ten samples of the power on VF, newest first: the field die's own and the inputs', and each output's -/
  pWindow : List (Nat × Vector Nat 16) := []
  /-- the account of the average power on VF (R479) -/
  account : Int := 0
  /-- the candidates that wait, and what has been admitted and has not yet taken effect (R478) -/
  queue : List Cand := []
  admitted : List Admitted := []
  /-- when the last heavy turn-on takes effect, for the hub and for each ward -/
  lastHeavy : Option Nat := none
  wardHeavy : Vector (Option Nat) 8 := Vector.replicate 8 none
  /-- VF power admitted for each ward in the last second: time and power -/
  shares : Vector (List (Nat × Nat)) 8 := Vector.replicate 8 []
  /-- erases of each journal sector this day, and the number of that day of the timebase (R485) -/
  erases : Vector Nat 32 := Vector.replicate 32 0
  day : Nat := 0
  /-- the logic die or the field die is above its warning temperature (R495) -/
  dieHot : Bool := false
  fieldHot : Bool := false

  /-- the field die's model as the logic die holds it -/
  view : MeasView := {}
  deriving DecidableEq, Repr

end Sys2Proof.Machine
end

