-- ==== Sys2Proof/Machine/StateHost.lean ====
section
/-!
DEFINITION. The parts of the state for the host side and the services: the ports, the operation engine, the memory banks,
Luanen sync, the watchdogs, the self-test and the life ledger. Each field's default value is its value in `State.reset`.
-/

namespace Sys2Proof.Machine

/-- A host port (R364): its pending outcome, the status, words and CRC-8 of its last answer on SDO (R357), and whether SDO was driven in
its last frame (R59, R365). -/
structure Port where
  driven : Bool := false
  outcome : Option Nat := none
  status : Nat := 0
  data : List Nat := []
  crc : Nat := 0
  deriving DecidableEq, Repr

/-- How far an operation in flight has come: accepted; dispatched and waiting for a scheduler decision (R393); executing,
or waiting for the NVM, the converters, the field die, a tumbler or a TIMED target (R407); retired but for its completion
entry (R390). -/
inductive OpPhase where
  | accepted | costed | admitted | waiting | retiring
  deriving DecidableEq, Repr

/-- An operation in flight (R386, R388): the descriptor's fields, its tag, and its outcome. -/
structure Op where
  slot : Nat := 0
  gen : Nat := 0
  ward : Nat := 0
  kind : Nat := 0
  cls : Nat := 0
  irq : Bool := false
  fence : Bool := false
  field : Nat := 0
  cookie : Nat := 0
  w1 : Nat := 0
  w2 : Nat := 0
  /-- the descriptor breaks R387, or its ring entry had an uncorrectable error (R389) -/
  malformed : Bool := false
  ecc : Bool := false
  /-- how far it has come -/
  phase : OpPhase := .accepted
  /-- the full target of a TIMED operation (R399) -/
  target : Option Nat := none
  /-- its completion code and its two result words (R391, R392) -/
  code : Nat := 0
  r0 : Nat := 0
  r1 : Nat := 0
  /-- a ward reset has discarded its completion (R409) -/
  dropped : Bool := false
  /-- the scheduler has deferred it at a decision (R393) -/
  deferred : Bool := false
  deriving DecidableEq, Repr

/-- The operation engine (chapter 12). -/
structure OpsEng where
  /-- the operations in flight, in the order of acceptance -/
  ops : List Op := []
  /-- the slot at which the rotation of R402 goes on, and the generations that are not 0 -/
  nextSlot : Nat := 0
  gens : List (Nat × Nat) := []
  /-- the tokens of each ward's Urgent bucket (R405) -/
  tokens : Vector Nat 8 := Vector.replicate 8 0
  /-- deficits of the wards in each class: index 8 × class + ward (R404) -/
  deficits : Vector Nat 24 := Vector.replicate 24 0
  /-- the ward whose turn it is in each class, and whether its visit has already been credited -/
  turn : Vector Nat 3 := Vector.replicate 3 0
  credited : Vector Bool 3 := Vector.replicate 3 false
  /-- dispatches since the last that went below Urgent, and since the last that went to Bulk -/
  sinceLower : Nat := 0
  sinceBulk : Nat := 0
  deriving DecidableEq, Repr

/-- A pending handover (R453, R455). -/
structure Handover where
  target : Nat := 0
  scrub : Bool := false
  /-- the giving ward, which had authority -/
  giver : Nat := 0
  /-- the drain is complete and the bank is being scrubbed -/
  scrubbing : Bool := false
  /-- abandoned while its scrub runs: the result it ends with (R679) -/
  dropped : Option Nat := none
  deriving DecidableEq, Repr

/-- A bank's state that no register shows: its handover. -/
structure Bank where
  hand : Option Handover := none
  deriving DecidableEq, Repr

/-- A Luanen frame: command and payload (R324). -/
structure LFrame where
  cmd : Nat := 0
  payload : Nat := 0
  deriving DecidableEq, Repr

/-- A user message in the receive FIFO (R336). -/
structure UserMsg where
  src : Nat := 0
  code : Nat := 0
  data : Nat := 0
  deriving DecidableEq, Repr

/-- Luanen sync (chapter 10). -/
structure Lsy where
  /-- frames queued for LSYNC_OUT in the order of R326, and frames queued for return slot 2, oldest first -/
  fwd : List LFrame := []
  ret : List LFrame := []
  /-- what the hub drives in the period in force: the frames of the forward window with their starts in ticks of the period, return slot 1 and
  return slot 2 -/
  outFwd : List (Nat × LFrame) := []
  out1 : Option LFrame := none
  out2 : Option LFrame := none
  /-- the latest pulse instant, by the model's clock, and from when in its period the next forward frame may start (R325) -/
  pulseAt : Option Nat := none
  freeAt : Nat := 0
  /-- the periods that have begun since CAL_START, while the hop is to be measured (R330) -/
  calPer : Option Nat := none
  rx : List UserMsg := []
  /-- TIME_LO and TIME_HI as received for the next pulse, and the head timebase at the last pulse -/
  timeLo : Option Nat := none
  timeHi : Option Nat := none
  tn : Option Nat := none
  /-- pulses seen in a row since the chain was lost, and the time of the last of them (R337) -/
  pulses : Nat := 0
  seenAt : Option Nat := none
  /-- e was beyond ±12 fine ticks at the last pulse -/
  far : Bool := false
  /-- a received D that waits for the next pulse, or for the end of a close (R331, R344) -/
  newD : Option Nat := none
  /-- the round trips timed so far in this calibration, and whether an echo was missing -/
  echoes : List Nat := []
  missed : Bool := false
  /-- the number of the calibration -/
  calNo : Nat := 0
  /-- the count of MCLK at the last CAL_START (R329) -/
  calAt : Nat := 0
  /-- a hop delay has been measured, a new one in this calibration; a D has been applied in this calibration -/
  hasHop : Bool := false
  newHop : Bool := false
  dNew : Bool := false
  /-- a calibration trigger that arose during a calibration (R345); the first calibration has been started (R329) -/
  again : Bool := false
  started : Bool := false
  /-- ENUM and the time frames are due in the next forward window, after a cascade (R328) -/
  enumDue : Bool := false
  /-- PRESENT frames in periods in a row, and one in this period -/
  presents : Nat := 0
  present : Bool := false
  /-- the times of the latest valid frame in return slot 1, and of the latest valid heartbeat of the partner (R337, R343) -/
  slotAt : Option Nat := none
  hbAt : Option Nat := none
  /-- the temperature at the last applied D, in 0.125 °C (R330) -/
  calTemp : Int := 0
  /-- the upstream side is lost; a position has been taken since the reset or the loss; a D is needed before alignment -/
  lost : Bool := false
  joined : Bool := false
  needCal : Bool := false
  /-- the instant E of each sync-kind event that has fired last, in ticks (R335) -/
  evAt : Vector (Option Nat) 8 := Vector.replicate 8 none
  /-- pair: own counter, the latest HB payload, runs of details 3 and 4, the close instant until T + P, whether the turn-on
  has been admitted, whether T has come, whether the pair has switched on since -/
  hbCount : Nat := 0
  hb : Option Nat := none
  run3 : Nat := 0
  run4 : Nat := 0
  closeAt : Option Nat := none
  closeAdmitted : Bool := false
  closePast : Bool := false
  pairOn : Bool := false
  deriving DecidableEq, Repr

/-- One watchdog (R555): 0 stopped, 1 running, 2 frozen, 3 expired; the time of the last start or accepted service; the
count held while frozen; whether the first timeout applies; the seed. -/
structure Wd where
  state : Nat := 0
  since : Nat := 0
  held : Nat := 0
  first : Bool := true
  seed : Nat := 0
  deriving DecidableEq, Repr

/-- The WDO pin (R567): 0 high-impedance, 1 inactive, 2 active. -/
structure Wdo where
  pin : Nat := 0
  /-- a logic-die reset has taken place during the pulse (R60, R568) -/
  reset : Bool := false
  /-- the active level is high (WDG_WDO_CFG.pol), and the width of the pulse in ms, as they were when it started -/
  high : Bool := false
  ms : Nat := 0
  /-- the time at which it started -/
  since : Nat := 0
  deriving DecidableEq, Repr

/-- The built-in self-test (chapter 19). -/
structure Bst where
  /-- the groups still to be tested, whether the field part follows the logic part, and whether it is under way -/
  todo : List Nat := []
  fieldNext : Bool := false
  field : Bool := false
  /-- field LBIST: every channel has reported at_safe and the groups run -/
  fieldRuns : Bool := false
  start : Nat := 0
  /-- failing groups so far, as BST_STAT shows them -/
  fails : Nat := 0
  /-- the intakes of LG4 and the occurrences of LG5 that wait (R587): source, wards, detail -/
  intakes : List RecEvent := []
  occurs : List (Nat × Nat × Nat) := []
  /-- failing groups of the boot tests, found before the end of *Arming* (R594, R595) -/
  bootFail : Nat := 0
  memFail : Bool := false
  /-- the boot LBIST, and the boot memory test, have ended since the boot -/
  bootDone : Bool := false
  memDone : Bool := false
  deriving DecidableEq, Repr

/-- The counters of one channel (R649). -/
structure ChCount where
  cycles : Nat := 0
  edges : Nat := 0
  shutdowns : Nat := 0
  onTime : Nat := 0
  stress : Nat := 0
  energy : Nat := 0
  episodes : Nat := 0
  tcycles : Nat := 0
  deriving DecidableEq, Repr

/-- The residuals of one channel on the field die (R649, R651): on-samples of 100 µs, stress in 2^-48 units, energy in 10^-10 J,
and the extreme that is tracked with its direction, in µ°C. -/
structure ChResid where
  on : Nat := 0
  stress : Nat := 0
  energy : Nat := 0
  ext : Option Int := none
  rising : Bool := false
  deriving DecidableEq, Repr

/-- The life ledger (chapter 21). The device counters lie in the retained block. -/
structure Life where
  /-- the base image's totals, the carried deltas, and the latest snapshot F -/
  base : Vector ChCount 16 := Vector.replicate 16 {}
  carried : Vector ChCount 16 := Vector.replicate 16 {}
  snap : Vector ChCount 16 := Vector.replicate 16 {}
  /-- the accumulators as the response to the latest snapshot request carries them, and the base serial they count from -/
  sent : Vector ChCount 16 := Vector.replicate 16 {}
  sentSerial : Nat := 0
  /-- the field die's accumulators, residuals and base serial -/
  acc : Vector ChCount 16 := Vector.replicate 16 {}
  resid : Vector ChResid 16 := Vector.replicate 16 {}
  fieldSerial : Nat := 0
  /-- the residuals of the logic die: stress in 2^-48 units, and barrier intervals in ms (R649) -/
  dieResid : Nat := 0
  barrierMs : Nat := 0
  /-- the margin history: month and packed minima, newest first -/
  hist : List (Nat × Nat) := []
  /-- the slot of the newest image -/
  slot : Nat := 3
  /-- the mirror under way (R658): its slot, the image's bytes, the next page, the sector's erase still to come, its trigger, and the
  counts it was made from: F and the carried deltas -/
  mirror : Option (Nat × List Nat) := none
  page : Nat := 0
  eraseDue : Bool := false
  trigger : Nat := 0
  mirrorSnap : Vector ChCount 16 := Vector.replicate 16 {}
  mirrorCarried : Vector ChCount 16 := Vector.replicate 16 {}
  /-- the trigger of a mirror that is to follow this one (R657) -/
  again : Option Nat := none
  /-- power-on seconds at the last mirror -/
  lastMirror : Nat := 0
  /-- the rebases that are not yet acknowledged, oldest first: serial and what to subtract -/
  rebase : List (Nat × Vector ChCount 16) := []
  /-- when the last second out of *Off* ended (R649), and when the last snapshot was asked for (R653) -/
  secondAt : Nat := 0
  snapAt : Option Nat := none
  /-- the ledger has been restored since the boot; R660 took counts from a power-down page or found no valid image -/
  restored : Bool := false
  mirrorDue : Bool := false
  /-- a retained-mirror entry is to be written, or a sector of that mirror to be erased (R88) -/
  entryDue : Bool := false
  copyErase : Option Nat := none
  deriving DecidableEq, Repr

/-- What follows by itself from a change of the rest of the state, whichever command makes it. -/
structure Follow where
  /-- the code of the state that *Brown* or *Test* is left to (R31, R32), 0 in every other state -/
  prior : Nat := 0
  /-- since when each power domain has been idle (R75) -/
  idleSince : Vector (Option Nat) 12 := Vector.replicate 12 none
  /-- the older of the two copies of the retained block in PD_AON, which the next update overwrites, and which of the two it is (R87) -/
  retOld : Retained := { valid := false }
  retSide : Fin 2 := 0
  /-- the command being carried out has found both copies lost (R87) -/
  retLost : Bool := false
  deriving DecidableEq, Repr

/-- A wait of the NVM for the Blank chapter's commands: recovery, check and fuse. -/
structure Blk where
  /-- the recovery command that runs, and its address -/
  rcv : Option (Nat × Nat) := none
  rebootAfter : Bool := false
  /-- the slot check that runs; its outcome is to be discarded (R188) -/
  checking : Bool := false
  checkStale : Bool := false
  /-- the key hash is being fused (R185) -/
  fusing : Bool := false
  /-- the running slot's verifying key hash, where it carries a key section -/
  keyHash : Option (List Nat) := none
  /-- the register file that the running slot configures; its sections but the fault reaction table have been applied (R178, R544) -/
  config : List (Nat × Nat) := []
  applied : Bool := false
  /-- the copies whose header passed at boot, bit slot + 2 × device (R176, R177) -/
  cands : Nat := 0
  /-- the retained block, the journal scan and the numbering wait for the size of a ferroelectric device without SFDP (R160) -/
  sizeWaits : Bool := false
  /-- the CRC-32 of each group of 64 words of the shadow, in address order (R190) -/
  groups : List Nat := []
  deriving DecidableEq, Repr

end Sys2Proof.Machine
end

