-- ==== Sys2Proof/Machine/State.lean ====
section
/-!
DEFINITION. The state of the block: the hub and the queue of commands that wait, the stops a command can end in, and the
state right after reset.

What the spec leaves open here: DESIGN CHOICE, log entries 5, 63.
-/

namespace Sys2Proof.Machine

/-- The faults a command could end in. No rule of the spec stops the hub without a device state, a status code or a fault
source that names what happens (*Halt* and *Safe* are states it goes on in), so no command ends in a fault and the type
has no constructor. -/
inductive Fault where
  deriving DecidableEq, Repr

/-- The refusals a command can end in. -/
inductive Refusal where
  /-- Raised by an arm of `exec` whose command has no meaning in the model; safe, because a machine that stops proves
  nothing about what the hub does. -/
  | notModelled (mnemonic : String)
  deriving DecidableEq, Repr

/-- The hub: everything the spec gives the block. -/
structure Hub where
  /-- what is made or fused into the chip -/
  chip : Chip := {}
  /-- the register fields that differ from their reset values: key of `fldKey`, and value XOR reset value -/
  regs : List (Nat × Nat) := []
  /-- the copy of the register fields made at the end of *Arming* (R725), which holds the shadow of R190 -/
  armed : List (Nat × Nat) := []
  /-- the retention copies of the switchable domains (R434), by the bit of R74 -/
  kept : Vector (List (Nat × Nat)) 12 := Vector.replicate 12 []
  dev : Dev := {}
  sup : Sup := {}
  ret : Retained := {}
  /-- what follows by itself from a change of the rest -/
  fol : Follow := {}
  clk : Clk := {}
  hinge : Hinge := {}
  outs : Vector OutCh 16 := Vector.replicate 16 {}
  ins : Vector InCh 16 := Vector.replicate 16 {}
  dbt : Dbt := {}
  tmbs : Vector Tmb 8 := Vector.replicate 8 {}
  aux : Vector Aux 4 := Vector.replicate 4 {}
  sch : Sch := {}
  recd : Rec := {}
  flt : Flt := {}
  ints : Vector WardInt 8 := Vector.replicate 8 {}
  pins : Vector PinPulse 4 := Vector.replicate 4 {}
  ports : Vector Port 3 := Vector.replicate 3 {}
  eng : OpsEng := {}
  banks : Vector Bank 48 := Vector.replicate 48 {}
  /-- bytes of B00 to B47 at 0x0010_0000 and of DP0 and DP1 at 0x01C_0000; an unlisted byte is 0 (R78) -/
  mem : List Host.Cell := []
  /-- word addresses that hold an uncorrectable ECC error (R461) -/
  bad : List Nat := []
  /-- each ward's staged low half of a DP word, and its latched high half (R280): word address and value -/
  dpLow : Vector (Option (Nat × Nat)) 8 := Vector.replicate 8 none
  dpHigh : Vector (Option (Nat × Nat)) 8 := Vector.replicate 8 none
  lsy : Lsy := {}
  wds : Vector Wd 9 := Vector.replicate 9 {}
  wdo : Wdo := {}
  bst : Bst := {}
  life : Life := {}
  blk : Blk := {}
  nvm : Vector NvmDev 2 := Vector.replicate 2 {}
  nvmOp : Option NvmOp := none
  /-- NVM operations that have been admitted and wait for the NVM controller (R398) -/
  nvmQ : List NvmOp := []
  /-- a field die reset under way (R433): its step -/
  fieldReset : Nat := 0
  /-- when that step began -/
  fieldSince : Nat := 0
  /-- the model's own field, not the spec's: the running number of the next free value (log entry 4) -/
  free : Nat := 0
  deriving DecidableEq, Repr

/-- The state of the block. -/
structure State where
  hub : Hub := {}
  /-- the commands that wait, first in first out -/
  pending : List Instr := []
  deriving DecidableEq, Repr

/-- The state right after power-on reset of the logic die (R18, R79): *Boot*, every register field at its reset value,
every memory empty, every ward *Absent*, the retained block lost and not yet judged, no command waiting. -/
def State.reset : State := { hub := { ret := { valid := false } } }

end Sys2Proof.Machine
end

