-- ==== Sys2Proof/Machine/Regfile.lean ====
section
/-!
DEFINITION. Reading and writing the register file: the one place where a stored register field is read or changed. The file
lists, in rising order of key, each field whose value differs from its reset value, with value XOR reset value; so two files
that read alike are equal, and the reset file is empty.

What the spec leaves open here: DESIGN CHOICE, log entry 7.
-/

namespace Sys2Proof.Machine

/-- The entry of a key, 0 where the file lists none. -/
def fileGet : List (Nat × Nat) → Nat → Nat
  | [], _ => 0
  | (k, v) :: rest, key => if k = key then v else fileGet rest key

/-- The file without the entry of a key. -/
def fileDrop (l : List (Nat × Nat)) (key : Nat) : List (Nat × Nat) := l.filter (fun e => e.1 != key)

/-- An entry put at its place in rising order of keys. -/
def filePut : List (Nat × Nat) → Nat → Nat → List (Nat × Nat)
  | [], key, v => [(key, v)]
  | (k, x) :: rest, key, v =>
    if key < k then (key, v) :: (k, x) :: rest
    else if key = k then (key, v) :: rest
    else (k, x) :: filePut rest key v

/-- The file with the entry of a key set; a value of 0 lists no entry. -/
def fileSet (l : List (Nat × Nat)) (key v : Nat) : List (Nat × Nat) :=
  if v = 0 then fileDrop l key else filePut (fileDrop l key) key v

/-- The value of a field: instance `i`, ward `w` where each ward has a copy. -/
def Hub.rd (h : Hub) (f : Fld) (i : Nat := 0) (w : Nat := 0) : Nat :=
  (fileGet h.regs (fldKey f i w) ^^^ f.reset) % 2 ^ f.width

/-- The hub with a field set. A value wider than the field keeps its low bits. -/
def Hub.wr (h : Hub) (f : Fld) (v : Nat) (i : Nat := 0) (w : Nat := 0) : Hub :=
  { h with regs := fileSet h.regs (fldKey f i w) (((v % 2 ^ f.width) ^^^ f.reset) % 2 ^ f.width) }

/-- A one-bit field as a truth value. -/
def Hub.flag (h : Hub) (f : Fld) (i : Nat := 0) (w : Nat := 0) : Bool := h.rd f i w != 0

/-- The hub with a one-bit field set to a truth value. -/
def Hub.put (h : Hub) (f : Fld) (b : Bool) (i : Nat := 0) (w : Nat := 0) : Hub := h.wr f (b2n b) i w

/-- The hub with a saturating count raised by `k` (R6). -/
def Hub.count (h : Hub) (f : Fld) (k : Nat := 1) (i : Nat := 0) (w : Nat := 0) : Hub :=
  h.wr f (satAdd (2 ^ f.width - 1) (h.rd f i w) k) i w

/-- The hub with a wrapping count raised by `k`. -/
def Hub.countMod (h : Hub) (f : Fld) (k : Nat := 1) (i : Nat := 0) (w : Nat := 0) : Hub :=
  h.wr f (h.rd f i w + k) i w

end Sys2Proof.Machine
end

