-- ==== Sys2Proof/Machine/Flags.lean ====
section
/-!
DEFINITION. What is computed from the rest of the state: who owns what, the status and live bits of the fault sources, the
device state, the ERR pin and the interrupt requests.

What the spec leaves open here: DESIGN CHOICE, log entry 4.
-/

namespace Sys2Proof.Machine

/-- Element `i` of a vector, `d` beyond its end. -/
def vget {α : Type} {n : Nat} (v : Vector α n) (i : Nat) (d : α) : α := (v[i]?).getD d

/-- The vector with element `i` replaced; beyond its end nothing changes. -/
def vset {α : Type} {n : Nat} (v : Vector α n) (i : Nat) (x : α) : Vector α n := v.setIfInBounds i x

/-- A function applied for each number of a list, in order. -/
def forAll (l : List Nat) (f : Hub → Nat → Hub) (h : Hub) : Hub := l.foldl f h

/-- Output channel `c`. -/
def Hub.out (h : Hub) (c : Nat) : OutCh := vget h.outs c {}
/-- The hub with output channel `c` changed. -/
def Hub.modOut (h : Hub) (c : Nat) (f : OutCh → OutCh) : Hub := { h with outs := vset h.outs c (f (h.out c)) }
/-- Input channel `c`. -/
def Hub.inp (h : Hub) (c : Nat) : InCh := vget h.ins c {}
/-- The hub with input channel `c` changed. -/
def Hub.modIn (h : Hub) (c : Nat) (f : InCh → InCh) : Hub := { h with ins := vset h.ins c (f (h.inp c)) }
/-- Tumbler `t`. -/
def Hub.tmb (h : Hub) (t : Nat) : Tmb := vget h.tmbs t {}
/-- The hub with tumbler `t` changed. -/
def Hub.modTmb (h : Hub) (t : Nat) (f : Tmb → Tmb) : Hub := { h with tmbs := vset h.tmbs t (f (h.tmb t)) }
/-- Lane `l`, in the order LF0, LF1, FL0, FL1. -/
def Hub.lane (h : Hub) (l : Nat) : LaneSt := vget h.hinge.lanes l {}
/-- The hub with lane `l` changed. -/
def Hub.modLane (h : Hub) (l : Nat) (f : LaneSt → LaneSt) : Hub :=
  { h with hinge := { h.hinge with lanes := vset h.hinge.lanes l (f (h.lane l)) } }
/-- The state of ward `w` (R27). -/
def Hub.ward (h : Hub) (w : Nat) : WardState := vget h.dev.wards w .absent
/-- The hub with the state of ward `w` set. -/
def Hub.setWard (h : Hub) (w : Nat) (x : WardState) : Hub :=
  { h with dev := { h.dev with wards := vset h.dev.wards w x } }
/-- Host port `p`. -/
def Hub.port (h : Hub) (p : Nat) : Port := vget h.ports p {}
/-- The hub with host port `p` changed. -/
def Hub.modPort (h : Hub) (p : Nat) (f : Port → Port) : Hub := { h with ports := vset h.ports p (f (h.port p)) }
/-- Bank `b`. -/
def Hub.bank (h : Hub) (b : Nat) : Bank := vget h.banks b {}
/-- The hub with bank `b` changed. -/
def Hub.modBank (h : Hub) (b : Nat) (f : Bank → Bank) : Hub := { h with banks := vset h.banks b (f (h.bank b)) }
/-- Watchdog `k`: WW0 to WW7, then DWD. -/
def Hub.wd (h : Hub) (k : Nat) : Wd := vget h.wds k {}
/-- The hub with watchdog `k` changed. -/
def Hub.modWd (h : Hub) (k : Nat) (f : Wd → Wd) : Hub := { h with wds := vset h.wds k (f (h.wd k)) }
/-- The interrupt state of ward `w`. -/
def Hub.wint (h : Hub) (w : Nat) : WardInt := vget h.ints w {}
/-- The hub with the interrupt state of ward `w` changed. -/
def Hub.modInt (h : Hub) (w : Nat) (f : WardInt → WardInt) : Hub := { h with ints := vset h.ints w (f (h.wint w)) }
/-- The pulse state of interrupt pin `p`. -/
def Hub.pin (h : Hub) (p : Nat) : PinPulse := vget h.pins p {}
/-- The hub with the pulse state of interrupt pin `p` changed. -/
def Hub.modPin (h : Hub) (p : Nat) (f : PinPulse → PinPulse) : Hub := { h with pins := vset h.pins p (f (h.pin p)) }

/-- The next free value below `2 ^ w`, and the hub with the running number advanced (log entry 4). -/
def Hub.freeNat (h : Hub) (w : Nat) : Nat × Hub :=
  (Config.freeValue h.free % 2 ^ w, { h with free := h.free + 1 })

/-! ### Ownership (R351, R450) -/

/-- Ward `w` is defined (R351). -/
def Hub.defined (h : Hub) (w : Nat) : Bool := h.flag WRD_CFG_defined w

/-- The weight of ward `w` (R404, R411). -/
def Hub.weightOf (h : Hub) (w : Nat) : Nat :=
  if h.rd OPS_QOS_RT_weight_rt w == 0 then h.rd OPS_QOS_weight w else h.rd OPS_QOS_RT_weight_rt w

/-- The wards that are defined, lowest first. -/
def Hub.wardsDefined (h : Hub) : List Nat := (List.range 8).filter h.defined

/-- The ward that owns channel `c`. -/
def Hub.chOwner (h : Hub) (c : Nat) : Option Nat :=
  (List.range 8).find? (fun w => h.defined w && bitOf (h.rd WRD_CH_ch w) c)

/-- The ward that owns tumbler `t`. -/
def Hub.tmbOwner (h : Hub) (t : Nat) : Option Nat :=
  (List.range 8).find? (fun w => h.defined w && bitOf (h.rd WRD_TMB_tmb w) t)

/-- The channels of ward `w`, lowest first. -/
def Hub.chsOf (h : Hub) (w : Nat) : List Nat := bitList 16 (h.rd WRD_CH_ch w)

/-- The tumblers of ward `w`, lowest first. -/
def Hub.tmbsOf (h : Hub) (w : Nat) : List Nat := bitList 8 (h.rd WRD_TMB_tmb w)

/-- The owners of the channels of a map, as a ward map; a channel that no ward owns counts for W0 (R537). -/
def Hub.ownersOf (h : Hub) (chs : Nat) : Nat :=
  (bitList 16 chs).foldl (fun m c => setBit m ((h.chOwner c).getD 0)) 0

/-- The ward a bank's faults are attributed to (R462). -/
def Hub.bankWard (h : Hub) (b : Nat) : Nat :=
  let o := h.rd BNK_OWNER_owner b
  if 48 ≤ b then 0
  else if o < 8 then o
  else if 0x10 ≤ o && o < 0x18 then (h.tmbOwner (o - 0x10)).getD 0
  else 0

/-- The mode of channel `c` (R200); CH8 to CH15 of the PWH0840-SQ are not bonded (R2). -/
def Hub.mode (h : Hub) (c : Nat) : Nat := h.rd OUT_CFG_mode c

/-- Channel `c` is in an output mode (R200). -/
def Hub.isOut (h : Hub) (c : Nat) : Bool :=
  let m := h.mode c
  m == 1 || m == 5 || m == 6 || m == 7 || m == 8

/-- Channel `c` is in an input mode. -/
def Hub.isIn (h : Hub) (c : Nat) : Bool :=
  let m := h.mode c
  m == 2 || m == 3 || m == 4

/-- The channel whose registers configure and command channel `c`: the even half of a pair (R208). -/
def Hub.lead (h : Hub) (c : Nat) : Nat := if h.mode c == 7 then c - c % 2 else c

/-- The other half of channel `c`'s pair, if it is one. -/
def Hub.mate (h : Hub) (c : Nat) : Option Nat :=
  if h.mode c == 7 then some (if c % 2 = 0 then c + 1 else c - 1) else none

/-- The safe state of channel `c`: true for ON (R216). -/
def Hub.safeOn (h : Hub) (c : Nat) : Bool := h.flag OUT_CFG_safe_on (h.lead c)

/-- The output channels of the hub, lowest first. -/
def Hub.outList (h : Hub) : List Nat := (List.range 16).filter h.isOut

/-- What PWR_STAT shows of the field die, from vregl_ok up: VREGL and VREG5 in range, VF over-voltage, under-voltage and valid (R100). -/
def Sup.fieldBits (x : Sup) : Nat :=
  b2n x.vreglOk + 2 * b2n x.vreg5Ok + 4 * b2n x.vfOv + 8 * b2n x.vfUv + 16 * b2n x.vfValid

/-- The memory domains that have not been cleared since their wake: bit 0 PD_MEM0, bit 1 PD_MEM1 (R78). -/
def Sup.uncleared (x : Sup) : Nat := x.clearing ||| x.clearWait

/-! ### Fault sources (R535 to R545) -/

/-- The sources whose choices R535 gives as fixed. -/
def fixedSources : List Nat := [8, 9, 16, 17, 26, 45, 46, 47, 49, 61]

/-- The sources whose live column reads E: events (R535). -/
def eventSources : List Nat :=
  [5, 14, 15, 19, 20, 31, 32, 35, 36, 37, 38, 39, 40, 41, 42, 50, 51, 55, 56, 57, 58, 60, 61]

/-- The sources attributed to W0 alone (R535). -/
def w0Sources : List Nat :=
  [0, 1, 2, 3, 4, 5, 6, 7, 8, 9, 10, 11, 12, 13, 14, 15, 16, 17, 18, 19, 20, 33, 34, 35, 36, 38, 39, 43, 44, 45, 46, 47,
   48, 49, 52, 53, 54, 55, 56, 57, 58, 59, 60, 61]

/-- The class in force of source `n` (R536). -/
def Hub.fltClass (h : Hub) (n : Nat) : Nat := h.rd (FLT_CLASS_class n)

/-- Source `n` is enabled; a fixed source always is (R539). -/
def Hub.fltEnabled (h : Hub) (n : Nat) : Bool := fixedSources.contains n || h.flag (FLT_EN_en n)

/-- The ward mask of source `n` (R537). -/
def Hub.fltMask (h : Hub) (n : Nat) : Nat := vget h.flt.mask n 0

/-- The status of source `n` is set (R537). -/
def Hub.fltSet (h : Hub) (n : Nat) : Bool := h.fltMask n != 0

/-- The logic sources that a field position maps to (R545). -/
def fieldSources (p : Nat) : List Nat :=
  match p with
  | 0 => [21] | 1 => [21] | 2 => [22, 26] | 3 => [23] | 4 => [24]
  | 5 => [25, 26] | 6 => [25, 26] | 7 => [25, 26] | 8 => [25, 26] | 9 => [25, 26]
  | 10 => [27] | 11 => [28]
  | 12 => [29] | 13 => [29] | 14 => [29] | 15 => [29] | 16 => [29]
  | 17 => [1] | 18 => [2] | 19 => [3] | 20 => [3] | 21 => [9] | 22 => [46] | 23 => [10] | 24 => [15]
  | 25 => [12] | 26 => [12] | 27 => [13] | 28 => [13] | 29 => [11] | 30 => [47] | 31 => [48]
  | 32 => [46] | 33 => [46] | 34 => [32] | 35 => [53] | 36 => [61]
  | _ => []

/-- The source that position `p` means on channel `c`: where a position maps to two sources, the channel's safety mark and
safe state decide (R226). Channels beyond 15 stand for a position tied to none. -/
def Hub.sourceOn (h : Hub) (p c : Nat) : Option Nat :=
  if p == 2 then
    some (if h.flag OUT_CFG_safety (h.lead c) && !h.safeOn c && decide (c < 16) then 26 else 22)
  else if 5 ≤ p && p ≤ 9 then
    some (if h.flag OUT_CFG_safety (h.lead c) && decide (c < 16) then 26 else 25)
  else (fieldSources p).head?

/-- The channels on which the field die reports position `p` live, as the logic die last heard, for source `n`. -/
def Hub.fieldCause (h : Hub) (n p : Nat) : Nat :=
  (bitList 17 (vget h.flt.fieldLive p 0)).foldl (fun m c => if h.sourceOn p c == some n then setBit m c else m) 0

/-- The inputs whose FIFO is full, where their overflow is reported: the condition of IN_ANY that lies on the logic die (R262). -/
def Hub.fullInputs (h : Hub) : Nat :=
  (List.range 16).foldl (fun m c =>
    if 32 ≤ (h.inp c).fifo.length && bitOf (h.rd IN_CFG_report c) 3 then setBit m c else m) 0

/-- The resources on which the cause of source `n` is present: channels or tumblers by number, bit 16 for a cause tied to
none, bit 17 for a software force (R535, R545, R546). -/
def Hub.causes (h : Hub) (n : Nat) : Nat :=
  let own := if n == 29 then h.fullInputs else vget h.flt.cause n 0
  let fld := (List.range 40).foldl (fun m p => if (fieldSources p).contains n then m ||| h.fieldCause n p else m) 0
  own ||| fld ||| (if h.flag (FLT_FORCE_force n) then 2 ^ 17 else 0)

/-- The mechanism whose proof hides source `n`, if any (R520, R549): the source of each mechanism of R511. -/
def proofSources (mech : Nat) : List Nat :=
  match mech with
  | 0 => [8] | 1 => [9] | 3 => [1, 2] | 4 => [11] | 5 => [46] | 6 => [46] | 7 => [25, 26] | 8 => [31] | 9 => [47]
  | 10 => [17] | 11 => [41] | 12 => [48] | 13 => [25, 26] | 14 => [29] | 15 => [37]
  | _ => []

/-- The reaction of source `n` on a resource is hidden by the proof or re-check window of an instance (R521, R528). -/
def Hub.proofHides (h : Hub) (n res : Nat) : Bool :=
  match h.dbt.proof with
  | none => false
  | some p =>
    (proofSources p.mech).contains n &&
      (if p.mech == 7 || p.mech == 8 || p.mech == 13 || p.mech == 14 then p.inst == res else true)

/-- The field position `p` on channel `c` lies on the path of a proof under way on the field die: what the forced instance
detects is the proof's, and sets no flag (R521, R528). -/
def Hub.fHidden (h : Hub) (p c : Nat) : Bool :=
  match h.dbt.proof with
  | none => false
  | some x =>
    match x.mech with
    | 1 => p == 21
    | 3 => p == 17 + x.inst
    | 4 => p == 29 && x.inst == 1
    | 5 => p == 32 && x.inst == 1
    | 6 => p == 33 && x.inst == 1
    | 7 => (p == 5 || p == 6) && c == x.inst
    | 9 => p == 30
    | 12 => p == 31 && x.inst == 0
    | 13 => p == 7 && c == x.inst
    | 14 => p == 13 && c == x.inst
    | _ => false

/-- The live bit of source `n` (R535, R539); a proof holds it at 0 (R549). -/
def Hub.fltLive (h : Hub) (n : Nat) : Bool :=
  (List.range 24).any (fun r => bitOf (h.causes n) r && !h.proofHides n r)

/-- The wards to which the causes of source `n` that are present are attributed. -/
def Hub.causeWards (h : Hub) (n : Nat) : Nat :=
  let c := h.causes n
  if w0Sources.contains n then (if c == 0 then 0 else 1)
  else if n == 30 then (bitList 8 c).foldl (fun m t => setBit m ((h.tmbOwner t).getD 0)) (if c ≥ 2 ^ 16 then 1 else 0)
  else h.ownersOf (c % 2 ^ 16) ||| (if c ≥ 2 ^ 16 then 1 else 0)

/-- The status of an enabled source of class at least `k` is set. -/
def Hub.anyClass (h : Hub) (k : Nat) : Bool :=
  (List.range 62).any (fun n => h.fltSet n && h.fltEnabled n && decide (k ≤ h.fltClass n))

/-- The status of some source is set. -/
def Hub.anySet (h : Hub) : Bool := (List.range 62).any h.fltSet

/-- Source `n` counts for R516: its class is device *Safe*, or ward *Held* with W0 in its mask. -/
def Hub.safeSource (h : Hub) (n : Nat) : Bool :=
  h.fltSet n && h.fltEnabled n && (h.fltClass n == 5 || (h.fltClass n == 4 && bitOf (h.fltMask n) 0))

/-! ### The device state (R17, R19) -/

/-- The conditions of *Degraded*: a status of class *Degraded* or above, or a *Held* ward (R17, R536). -/
def Hub.degradedCond (h : Hub) : Bool :=
  h.anyClass 3 || (List.range 8).any (fun w => h.ward w == .held)

/-- The device state: of the conditions that hold, the one ranked highest by R19. -/
def Hub.state (h : Hub) : DevState :=
  match h.dev.phase with
  | .off => .off
  | ph =>
    if h.dev.halt.isSome then .halt
    else match ph with
      | .recovery => .recovery
      | .boot => .boot
      | .arming => .arming
      | _ =>
        if h.dev.safe then .safe
        else if h.sup.warn then .brown
        else if h.dev.test then .test
        else if h.degradedCond then .degraded
        else .run

/-- The hub is in *Run* or *Degraded*. -/
def Hub.runs (h : Hub) : Bool := h.state == .run || h.state == .degraded

/-- The code that *Degraded*'s conditions give: 5 where they hold, 3 (*Run*) otherwise. -/
def Hub.underCode (h : Hub) : Nat := if h.degradedCond then 5 else 3

/-- DEV_STATE.prior after a change from `before`: the state left for *Test*, kept by a warning that ends the test (R31); the state left for
*Brown*, which a condition for *Degraded* that arises or clears in *Brown* changes (R32). -/
def Hub.priorAfter (before after : Hub) : Nat :=
  let under := fun (x : DevState) => x == .brown || x == .test
  if !under after.state then 0
  else if !under before.state then (if before.runs then before.state.code else after.underCode)
  else if before.state == .brown && before.degradedCond != after.degradedCond then after.underCode
  else before.fol.prior

/-- The logic die runs: it is powered and out of reset. -/
def Hub.logicRuns (h : Hub) : Bool := h.dev.phase != .off && !h.dev.rstLow

/-! ### ERR (R541) -/

/-- FLT_ERR.fault: the status of an enabled source of class ERR or above is set. -/
def Hub.errFault (h : Hub) : Bool := h.anyClass 2
/-- FLT_ERR.safe. -/
def Hub.errSafe (h : Hub) : Bool := h.state == .safe
/-- FLT_ERR.boot: *Boot*, *Arming* or *Recovery*, or the logic die in reset. -/
def Hub.errBoot (h : Hub) : Bool := h.dev.phase != .up || h.dev.rstLow
/-- FLT_ERR.powerdown: an orderly power-down has reached its step 1. -/
def Hub.errPd (h : Hub) : Bool := h.sup.pd.isSome
/-- FLT_ERR.halt. -/
def Hub.errHalt (h : Hub) : Bool := h.dev.halt.isSome
/-- ERR is driven low. -/
def Hub.errLow (h : Hub) : Bool :=
  h.errFault || h.errSafe || h.errBoot || h.errPd || h.errHalt || h.dev.testHold

/-! ### Interrupt requests (R421, R425) -/

/-- Interrupt sources are set and released in this state (R425). -/
def Hub.intServed (h : Hub) : Bool :=
  (h.runs || h.state == .brown || h.state == .safe || h.state == .test) && h.sup.pd.isNone

/-- Ward `w` has a request pending (R421). -/
def Hub.intPending (h : Hub) (w : Nat) : Bool := (h.rd INT_STAT_stat w &&& h.rd INT_EN_en w) != 0

/-- INT_PEND_WARDS: byte p, bit n for ward Wn routed to INTp with a released request that has not ended (R424). -/
def Hub.pendWards (h : Hub) : Nat :=
  (List.range 8).foldl (fun m w =>
    if h.flag INT_CFG_route w && (h.wint w).released then setBit m (8 * h.rd INT_CFG_pin w + w) else m) 0

/-- INTp is driven low (R423). -/
def Hub.intLow (h : Hub) (p : Nat) : Bool :=
  if !h.intServed then false
  else if h.rd INT_PIN_CFG_mode p == 0 then bitsOf h.pendWards (8 * p) 8 != 0
  else (h.pin p).pulse

end Sys2Proof.Machine
end

