-- ==== Sys2Proof/Machine/Ops.lean ====
section
/-!
DEFINITION. The named operations over the state that every family of commands shares: memory, recorder intake, interrupts,
frames of the Hinge link, safe states, tumbler stops, fault reactions, resets and the tick.

What the spec leaves open here: DESIGN CHOICE, log entries 3, 4, 8, 9, 13, 16, 76; DEDUCED, log entries 20, 33, 65,
75, 80, 85, 94, 100, 101.
-/

namespace Sys2Proof.Machine

/-! ### Memory: byte cells in rising order, no cell equal to what an unlisted address reads as -/

/-- The byte at an address, `d` where none is listed. -/
def cellGet (d : BitVec 8) : List Host.Cell → Nat → BitVec 8
  | [], _ => d
  | (k, v) :: rest, a => if k = a then v else cellGet d rest a

/-- A cell put at its place in rising order. -/
def cellPut : List Host.Cell → Nat → BitVec 8 → List Host.Cell
  | [], a, b => [(a, b)]
  | (k, v) :: rest, a, b =>
    if a < k then (a, b) :: (k, v) :: rest
    else if a = k then (a, b) :: rest
    else (k, v) :: cellPut rest a b

/-- The memory with a byte written; writing what an unlisted address reads as removes the cell. -/
def cellSet (d : BitVec 8) (m : List Host.Cell) (a : Nat) (b : BitVec 8) : List Host.Cell :=
  let rest := m.filter (fun c => c.1 != a)
  if b = d then rest else cellPut rest a b

/-- The memory with the cells of a range of addresses removed: each reads as an unlisted address. -/
def cellClear (m : List Host.Cell) (lo hi : Nat) : List Host.Cell :=
  m.filter (fun c => !(decide (lo ≤ c.1) && decide (c.1 < hi)))

/-- The canonical form: addresses strictly rising, no cell equal to `d`. -/
def Memory.wf (d : BitVec 8) : List Host.Cell → Bool
  | [] => true
  | (_, v) :: [] => v != d
  | (a, v) :: (b, w) :: rest => decide (a < b) && v != d && Memory.wf d ((b, w) :: rest)

/-- Bytes written from an address up. -/
def cellsSet (d : BitVec 8) (m : List Host.Cell) (a : Nat) (bytes : List Nat) : List Host.Cell :=
  (bytes.foldl (fun (p : List Host.Cell × Nat) b => (cellSet d p.1 p.2 (BitVec.ofNat 8 b), p.2 + 1)) (m, a)).1

/-- `n` bytes read from an address up. -/
def cellsGet (d : BitVec 8) (m : List Host.Cell) (a n : Nat) : List Nat :=
  (List.range n).map (fun i => (cellGet d m (a + i)).toNat)

/-- The bytes of a word of `n` bytes, least significant first. -/
def leBytes (n v : Nat) : List Nat := (List.range n).map (fun i => bitsOf v (8 * i) 8)

/-- The number whose bytes are these, least significant first. -/
def leNat : List Nat → Nat
  | [] => 0
  | b :: rest => b % 256 + 256 * leNat rest

/-- The word of the bank or DP memory at a byte address that is a multiple of 4 (R449). -/
def Hub.memWord (h : Hub) (a : Nat) : Nat := leNat (cellsGet 0 h.mem a 4)

/-- The hub with a word of the bank or DP memory written: it has valid ECC from then on (R461). -/
def Hub.setMemWord (h : Hub) (a v : Nat) : Hub :=
  { h with mem := cellsSet 0 h.mem a (leBytes 4 v), bad := h.bad.filter (· != a) }

/-- The byte address of word `w` of bank `b` (R449). -/
def bankAddr (b w : Nat) : Nat := 0x100000 + 0x4000 * b + 4 * w

/-- The byte address of word `w` of DP0 or DP1 (R367). -/
def dpAddr (d w : Nat) : Nat := 0x1C0000 + 0x2000 * d + 4 * w

/-- The hub with a range of the bank memory cleared to zero with valid ECC (R458). -/
def Hub.clearMem (h : Hub) (lo hi : Nat) : Hub :=
  { h with mem := cellClear h.mem lo hi, bad := h.bad.filter (fun a => !(decide (lo ≤ a) && decide (a < hi))) }

/-- The hub with bank `b` cleared. -/
def Hub.clearBank (h : Hub) (b : Nat) : Hub := h.clearMem (bankAddr b 0) (bankAddr (b + 1) 0)

/-- Device `d` of the NVM. -/
def Hub.nvmDev (h : Hub) (d : Nat) : NvmDev := vget h.nvm d {}

/-- `n` bytes of NVM device `d`; an unlisted byte is erased, 0xFF. -/
def Hub.nvmRead (h : Hub) (d a n : Nat) : List Nat := cellsGet 0xFF (h.nvmDev d).mem a n

/-- A page programmed on one device: a NOR program clears bits only; a ferroelectric device takes the bytes (R163, R48). -/
def nvmProgram (v : NvmDev) (a : Nat) (bytes : List Nat) : NvmDev :=
  let old := cellsGet 0xFF v.mem a bytes.length
  let new := if v.kind == .fram then bytes else List.zipWith (fun x y => x &&& y) old bytes
  { v with mem := cellsSet 0xFF v.mem a new }

/-- A range of one device erased to 0xFF. -/
def nvmErase (v : NvmDev) (a n : Nat) : NvmDev := { v with mem := cellClear v.mem a (a + n) }

/-- A function applied to device 0, unless device 1 is the only one there, and one applied to device 1 where both are written and it is
present. -/
def Hub.onNvm (h : Hub) (both : Bool) (f g : NvmDev → NvmDev) : Hub :=
  let only1 := both && (h.nvmDev 1).present && !(h.nvmDev 0).present
  let h1 := if only1 then h else { h with nvm := vset h.nvm 0 (f (h.nvmDev 0)) }
  if both && (h.nvmDev 1).present then { h1 with nvm := vset h1.nvm 1 (g (h.nvmDev 1)) } else h1

/-- An NVM operation acts on every device present: where the Blank mirrors (R187), and for a recovery command (R182). -/
def Hub.nvmBoth (h : Hub) (o : NvmOp) : Bool := h.flag BLK_CFG_mirror || o.use == .recovery

/-- The whole of device 0 may be accessed: a ferroelectric device without SFDP only in its two slots until *Arming* has applied its size
(R160). -/
def Hub.nvmWhole (h : Hub) : Bool :=
  !(h.nvmDev 0).present || (h.nvmDev 0).sfdp || (h.nvmDev 0).kind == .nor || h.blk.applied

/-! ### The recorder's intake (R609, R610, R612) -/

/-- Severities, 0 to 4. -/
def sevTrace : Nat := 0
/-- Severity Note. -/
def sevNote : Nat := 1
/-- Severity Warning. -/
def sevWarning : Nat := 2
/-- Severity Fault. -/
def sevFault : Nat := 3
/-- Severity Safety. -/
def sevSafety : Nat := 4

/-- The lowest severity in the FIFO. -/
def lowestSev (l : List RecEvent) : Nat := l.foldl (fun m e => min m e.sev) 4

/-- REC_DROPS raised by one for a severity (R610). -/
def Hub.countDrop (h : Hub) (sev : Nat) : Hub :=
  match sev with
  | 0 => h.count REC_DROPS0_trace
  | 1 => h.count REC_DROPS0_note
  | 2 => h.count REC_DROPS1_warning
  | 3 => h.count REC_DROPS1_fault
  | _ => h.count REC_DROPS2_safety

/-- The lower of two numbers that may be absent. -/
def lowerOf (a b : Option Nat) : Option Nat :=
  match a, b with
  | none, y => y
  | x, none => x
  | some x, some y => some (min x y)

/-- Counts added place by place. -/
def addCounts (a b : Vector Nat 5) : Vector Nat 5 := Vector.zipWith (· + ·) a b

/-- An event dropped at intake or at the ring: counted by severity, and in the next Gap record; a Gap record that is itself
dropped leaves its counts pending (R610, R612). -/
def Hub.dropEvent (h : Hub) (e : RecEvent) : Hub :=
  let h := h.countDrop e.sev
  let r := h.recd
  let sent := if e.typ == 0x03 then r.gapSent else none
  let g := match sent with | some s => addCounts r.gap s.1 | none => r.gap
  let low := match sent with | some s => lowerOf r.gapLow s.2 | none => r.gapLow
  { h with recd := { r with
      gap := vset g e.sev (vget g e.sev 0 + 1)
      gapLow := lowerOf low e.seq
      gapSent := if e.typ == 0x03 then none else r.gapSent
      earlyDrops := if r.numbering || e.seq.isSome then r.earlyDrops else r.earlyDrops ++ [e.sev] } }

/-- The next sequence number given out, where numbering has started; after the last one nothing is recorded (R629). -/
def Hub.giveSeq (h : Hub) : Option Nat × Hub :=
  if h.recd.numbering then
    (some h.ret.nextSeq,
      { h with ret := { h.ret with nextSeq := h.ret.nextSeq + 1 } }.put REC_STAT_exhausted
        (decide (2 ^ 48 ≤ h.ret.nextSeq + 1)))
  else (none, h)

/-- The first event of a severity taken out of a list. -/
def takeFirst (sev : Nat) : List RecEvent → Option RecEvent × List RecEvent
  | [] => (none, [])
  | e :: rest =>
    if e.sev == sev then (some e, rest)
    else
      let r := takeFirst sev rest
      (r.1, e :: r.2)

/-- An event that has its number enters the FIFO of 64 entries, or an event is dropped by severity (R610). -/
def Hub.fifoIn (h : Hub) (e : RecEvent) : Hub :=
  if h.recd.fifo.length < 64 then { h with recd := { h.recd with fifo := h.recd.fifo ++ [e] } }
  else if e.sev ≤ lowestSev h.recd.fifo then h.dropEvent e
  else
    match takeFirst (lowestSev h.recd.fifo) h.recd.fifo with
    | (some old, rest) => { h with recd := { h.recd with fifo := rest ++ [e] } }.dropEvent old
    | (none, _) => h.dropEvent e

/-- The group under a run-time logic LBIST, 15 for none (R586). -/
def Hub.testGroup (h : Hub) : Nat := if h.flag BST_STAT_busy then h.rd BST_STAT_group else 15

/-- An event handed to the intake FIFO (R609). While LG4 is under test up to 16 wait with the LBIST controller and further
ones are lost (R587); with no supply and after the last number nothing is recorded. -/
def Hub.intake (h : Hub) (e : RecEvent) : Hub :=
  if h.dev.phase == .off || h.flag REC_STAT_exhausted then h
  else if h.testGroup == 4 then
    if h.bst.intakes.length < 16 then { h with bst := { h.bst with intakes := h.bst.intakes ++ [e] } }
    else
      let h := h.count BST_RUNS_lost
      let h := h.countDrop e.sev
      { h with recd := { h.recd with gap := vset h.recd.gap e.sev (vget h.recd.gap e.sev 0 + 1) } }
  else
    let p := h.giveSeq
    p.2.fifoIn { e with seq := p.1 }

/-- A record of the hub's own blocks: type, block code, severity and payload words (R608). -/
def Hub.note (h : Hub) (typ source sev len : Nat) (payload : List Nat) (ward : Nat := 0xFF) : Hub :=
  h.intake { typ := typ, source := source, sev := sev, len := len, ward := ward, payload := payload }

/-! ### Interrupts (R420 to R425) -/

/-- The moderation interval of ward `w` in ticks: INT_CFG.mod_us or the trim, which never lies below it (R422). -/
def Hub.modFigure (h : Hub) (w : Nat) : Nat := 100 * max (h.rd INT_CFG_mod_us w) (h.rd INT_MOD_mod_rt w)

/-- The interval in ticks that counts from ward `w`'s last release: a trim applies from the next one on (R438). -/
def Hub.modTicks (h : Hub) (w : Nat) : Nat := (h.wint w).ticks

/-- The moderation interval that began with ward `w`'s last release has passed on the timebase (R421, R422; log entry 94). -/
def Hub.modOver (h : Hub) (w : Nat) : Bool :=
  match (h.wint w).last with
  | none => true
  | some t => decide ((h.clk.tb + 2 ^ 65 - t - h.modTicks w) % 2 ^ 64 < 2 ^ 63)

/-- A ward's request released to its pin (R421): in pulse mode the pin starts a pulse, merges into one that runs, or waits
for the end of the gap after one (R423). -/
def Hub.intRelease (h : Hub) (w : Nat) : Hub :=
  let h := (h.modInt w (fun i => { i with released := true, held := false, last := some h.clk.tb, ticks := h.modFigure w })).countMod INT_CNT_count 1 w
  let p := h.rd INT_CFG_pin w
  if h.rd INT_PIN_CFG_mode p == 0 then h
  else h.modPin p (fun q => if q.pulse then q else if q.gap then { q with queued := true } else { q with pulse := true, since := h.clk.now })

/-- An event of ward `w`: `was` says that it already had a request pending (R421). -/
def Hub.intFire (h : Hub) (w : Nat) (was : Bool) : Hub :=
  if !h.flag INT_CFG_route w then h
  else if h.rd INT_PIN_CFG_mode (h.rd INT_CFG_pin w) == 0 && was then h
  else
    if h.modTicks w == 0 || (h.modOver w && !(h.wint w).held) then h.intRelease w
    else h.modInt w (fun i => { i with held := true })

/-- Interrupt source `bit` of ward `w` occurs (R419): for a defined ward that is not in *Reset* (R440), in a state that sets
sources (R425). -/
def Hub.intEvent (h : Hub) (w bit : Nat) : Hub :=
  if h.intServed && (h.ward w == .active || h.ward w == .held) then
    let was := h.intPending w
    let old := h.rd INT_STAT_stat w
    let h1 := h.wr INT_STAT_stat (setBit old bit) w
    if !bitOf old bit && bitOf (h.rd INT_EN_en w) bit then h1.intFire w was else h1
  else h

/-- Interrupt source `bit` occurs for every ward. -/
def Hub.intAll (h : Hub) (bit : Nat) : Hub := forAll (List.range 8) (fun h w => h.intEvent w bit) h

/-- Interrupt source `bit` occurs for an owner, if there is one. -/
def Hub.intOwner (h : Hub) (o : Option Nat) (bit : Nat) : Hub :=
  match o with
  | some w => h.intEvent w bit
  | none => h

/-- A ward whose request is no longer pending: its released request ends (R421). -/
def Hub.intEnd (h : Hub) (w : Nat) : Hub :=
  if h.intPending w then h else h.modInt w (fun i => { i with released := false })

/-- A write of ward `w` takes effect in this state: the device state serves frames in full, no power-down and no ordered soft
reset is under way (R365, R429), and the ward is *Active* (checks 6 and 10 of R363). -/
def Hub.writable (h : Hub) (w : Nat) : Bool :=
  (h.runs || h.state == .brown || h.state == .safe) && h.sup.pd.isNone && h.dev.softReset.isNone && h.ward w == .active

/-- A ward's read of a host-port register is served in this state (R365). -/
def Hub.readable (h : Hub) (w : Nat) : Bool :=
  (h.runs || h.state == .brown || h.state == .safe) && h.sup.pd.isNone && h.dev.softReset.isNone &&
    (h.ward w == .active || h.ward w == .held)

/-! ### Hinge frames (R131, R133) -/

/-- A frame put into a transmit queue by its priority, first in first out within one (R133). -/
def enq (q : List HFrame) (f : HFrame) : List HFrame :=
  q.takeWhile (fun g => decide (g.prio ≤ f.prio)) ++ f :: q.dropWhile (fun g => decide (g.prio ≤ f.prio))

/-- A frame queued on the logic die: while the link is lost only priorities 1 and 2 are sent (R157). -/
def Hub.sendL (h : Hub) (f : HFrame) : Hub :=
  if h.hinge.upL || f.prio ≤ 2 then { h with hinge := { h.hinge with txL := enq h.hinge.txL f } } else h

/-- A frame queued on the field die. -/
def Hub.sendF (h : Hub) (f : HFrame) : Hub :=
  if h.hinge.upF then { h with hinge := { h.hinge with txF := enq h.hinge.txF f } } else h

/-- The first frame with this type and payload taken out of a queue: what a frame that arrives was on its way as. -/
def deq (q : List HFrame) (typ payload : Nat) : List HFrame :=
  match q with
  | [] => []
  | f :: rest => if f.typ == typ && f.payload == payload then rest else f :: deq rest typ payload

/-- A frame of this type and payload is on its way on lane `l`. -/
def Hub.onWire (h : Hub) (l typ payload : Nat) : Bool := (h.lane l).wire.any (fun f => f.typ == typ && f.payload == payload)

/-- A frame that arrives on lane `l` leaves the lane; where none such is on it, it leaves the queue of the lane's direction: its slot and its
time on the lane have passed without a tick. -/
def Hub.landOn (h : Hub) (l typ payload : Nat) : Hub :=
  if h.onWire l typ payload then h.modLane l (fun x => { x with wire := deq x.wire typ payload })
  else if l < 2 then { h with hinge := { h.hinge with txL := deq h.hinge.txL typ payload } }
  else { h with hinge := { h.hinge with txF := deq h.hinge.txF typ payload } }

/-- A frame that arrives at the field die (lanes 0 and 1), or at the logic die (2 and 3), by the lane that carries it. -/
def Hub.land (h : Hub) (field : Bool) (typ payload : Nat) : Hub :=
  let l := if field then 0 else 2
  h.landOn (if !h.onWire l typ payload && h.onWire (l + 1) typ payload then l + 1 else l) typ payload

/-- The eight 4-bit commands of a group, its first channel in the lowest bits (R131). -/
def Hub.groupCmds (h : Hub) (g : Nat) : Nat :=
  (List.range 8).foldl (fun m i => m + (vget h.hinge.cmd (8 * g + i) 0) * 16 ^ i) 0

/-- A new OUT_CMD generation of a group, one newer than the last (R132); it goes out at priority 1 where it moves a channel toward its safe
state (R133). After a logic-die reset or with the link established again it waits for an OUT_STAT frame, from which the number goes on
(R132). Until the bolt latch reads clear after *Arming* none goes out: the first generation after that carries the commands (R726). -/
def Hub.newGen (h : Hub) (g : Nat) (urgent : Bool) : Hub :=
  if h.hinge.initDue then h
  else if vget h.hinge.genFresh g false && h.hinge.upL then
    { h with hinge := { h.hinge with genDue := vset h.hinge.genDue g (some (urgent || vget h.hinge.genDue g none == some true)) } }
  else
    let gen := (vget h.hinge.gen g 0 + 1) % 256
    let h := { h with hinge := { h.hinge with gen := vset h.hinge.gen g gen } }
    h.sendL { typ := 0x20 + g, payload := gen * 2 ^ 32 + h.groupCmds g, prio := if urgent then 1 else 4 }

/-- The OUT_CMD command of some channels set, with a new generation of each group concerned (R132). -/
def Hub.command (h : Hub) (chs : List Nat) (code : Nat) (urgent : Bool) : Hub :=
  let h := { h with hinge := { h.hinge with cmd := chs.foldl (fun v c => vset v c code) h.hinge.cmd } }
  let h := if chs.any (fun c => decide (c < 8)) then h.newGen 0 urgent else h
  if chs.any (fun c => decide (8 ≤ c)) then h.newGen 1 urgent else h

/-- The next tag in rotation that no outstanding request holds (R148): at most 8 of the 16 are held. -/
def Hinge.freeTag (x : Hinge) : Nat :=
  (((List.range 16).map (fun i => (x.nextTag + i) % 16)).find? (fun t => !x.out.any (fun y => y.tag == t))).getD x.nextTag

/-- The ward a request is for: its frame's, its operation's, or 8 for the hub's own. -/
def Hub.reqWard (h : Hub) (port : Option (Nat × Nat)) (slot : Option Nat) : Nat :=
  match port, slot with
  | some p, _ => bitsOf p.2 29 3
  | none, some s => match h.eng.ops.find? (fun o => o.slot == s) with | some o => o.ward | none => 8
  | none, none => 8

/-- A request takes a tag and its REQ frame is queued. -/
def Hub.sendReq (h : Hub) (r : Txn) : Hub :=
  let x := h.hinge
  let t := x.freeTag
  { h with hinge := { x with
    nextTag := (t + 1) % 16, reqNum := x.reqNum + 1, out := x.out ++ [{ r with tag := t, tries := 0, num := x.reqNum }]
    txL := enq x.txL { typ := 0x40 + t, payload := 0, prio := 5 } } }

/-- A request put to the field die (R148): with the link lost it fails at once (the caller has seen to that); up to eight stand without a
response, further ones wait. -/
def Hub.request (h : Hub) (what : ReqKind) (port : Option (Nat × Nat) := none) (slot : Option Nat := none) : Hub :=
  let r : Txn := { what := what, port := port, slot := slot, ward := h.reqWard port slot }
  if !h.hinge.upL then h
  else if h.hinge.out.length < 8 then h.sendReq r
  else { h with hinge := { h.hinge with waiting := h.hinge.waiting ++ [r] } }

/-- The weight of a ward among the REQ frames; the hub's own requests, ward 8, count as one of weight 1 (R134; log entry 76). -/
def Hub.reqWeight (h : Hub) (w : Nat) : Nat := if w < 8 then max 1 (h.weightOf w) else 1

/-- The deficit-weighted round robin among wards with requests to send (R134): the ward to be served, and the turn it leaves: a ward goes on
for as many requests as its weight, then the next ward that has one follows. -/
def Hub.reqRobin (h : Hub) (has : Nat → Bool) : Nat × Nat × Nat :=
  let t := h.hinge.reqTurn
  if 0 < h.hinge.reqLeft && has t then (t, t, h.hinge.reqLeft - 1)
  else
    let w := (((List.range 9).map (fun i => (t + 1 + i) % 9)).find? has).getD t
    (w, w, h.reqWeight w - 1)

/-! ### Safe states (R203, R205) -/

/-- A channel's candidates taken out of the scheduler's queue: a turn-on, retry, return or restore that waits (R238). -/
def Hub.dropCand (h : Hub) (p : Cand → Bool) : Hub :=
  let q := h.sch.queue.filter (fun c => !p c)
  { h with sch := { h.sch with queue := q } }.wr SCH_STAT_queued q.length

/-- The candidates that would move channel `c`. -/
def movesCh (c : Nat) (x : Cand) : Bool :=
  (x.kind == .turnOn || x.kind == .turnOff || x.kind == .restore || x.kind == .retry || x.kind == .uvReturn ||
    x.kind == .litCheck || x.kind == .pairClose) && x.ref == c

/-- The admission requests of stalled heavy vectors that turn channel `c` on are cancelled (R315); a vector that is still there asks again at its
next vector boundary. -/
def Hub.dropHeavy (h : Hub) (c : Nat) : Hub :=
  let hit := fun (x : Cand) => x.kind == .heavyVec && bitOf x.chs c
  let ts := (h.sch.queue.filter hit).map (·.ref)
  forAll ts (fun h t => h.modTmb t (fun x => { x with heavyAsked := false })) (if ts.isEmpty then h else h.dropCand hit)

/-- safe_hold set on a channel (R205): what waits for it is cancelled (R238, R315), its command is its safe state from now on, and the owner has
interrupt source OUT_SAFE at the setting (R419). -/
def Hub.setSafeHold (h : Hub) (c : Nat) : Hub :=
  let h := ((h.dropCand (movesCh (h.lead c))).dropHeavy (h.lead c)).modOut c (fun o => { o with wait := none })
  let h := { h.put OUT_STAT_pending false c with hinge := { h.hinge with cmd := vset h.hinge.cmd c 2 } }
  if h.flag OUT_STAT_safe_hold c then h
  else (h.put OUT_STAT_safe_hold true c).intOwner (h.chOwner c) 21

/-- The logic die's part of bringing channels to their safe states by anything but their own ward's command: what waits
for them is cancelled, safe_hold is set, and OUT_CMD sends them there at priority 1 (R205, R238). -/
def Hub.sendSafe (h : Hub) (chs : List Nat) : Hub :=
  let cs := chs.filter h.isOut
  let h := forAll cs Hub.setSafeHold h
  if cs.isEmpty then h else h.command cs 2 true

/-! ### Tumblers (R293, R294) -/

/-- The state of tumbler `t` (R278). -/
def Hub.tmbState (h : Hub) (t : Nat) : Nat := h.rd TMB_STAT_state t

/-- Tumbler `t` executes: running, waiting or stalled. -/
def Hub.tmbRuns (h : Hub) (t : Nat) : Bool := 2 ≤ h.tmbState t && h.tmbState t ≤ 4

/-- An operation marked as retired with a code and results; its completion entry is written by COMPLETION (R390). -/
def Hub.retire (h : Hub) (slot code : Nat) (r0 r1 : Nat := 0) : Hub :=
  { h with eng := { h.eng with ops := h.eng.ops.map (fun o =>
      if o.slot == slot then { o with phase := .retiring, code := code, r0 := r0, r1 := r1 } else o) } }

/-- The operations that wait on tumbler `t` retired: a start that was not made with STATE, a stop or jump as taken. -/
def Hub.tmbRetire (h : Hub) (t at_ : Nat) : Hub :=
  { h with eng := { h.eng with ops := h.eng.ops.map (fun o =>
      if o.kind == 6 && o.phase == .waiting && bitsOf o.field 3 3 == t then
        if bitsOf o.field 0 2 == 0 then { o with phase := .retiring, code := 8 }
        else { o with phase := .retiring, code := 0, r0 := at_ }
      else o) } }

/-- A list of `n` free bytes. -/
def Hub.freeBytes (h : Hub) : Nat → List Nat × Hub
  | 0 => ([], h)
  | n + 1 =>
    let p := h.freeNat 8
    let q := p.2.freeBytes n
    (p.1 :: q.1, q.2)

/-- `n` bytes of memory from an address up take free values: the content is undefined (R313, log entry 4). -/
def Hub.freeMem (h : Hub) (a n : Nat) : Hub :=
  let p := h.freeBytes n
  { p.2 with mem := cellsSet 0 p.2.mem a p.1 }

/-- A MARCH element that is abandoned leaves the bank's contents undefined, and its result registers with them (R313). -/
def Hub.marchAbandon (h : Hub) (t : Nat) : Hub :=
  match (h.tmb t).march with
  | none => h
  | some m =>
    let h := h.freeMem (bankAddr m.bank 0) 0x4000
    let a := h.freeNat 1
    let h := a.2.wr TMB_MARCH_FIRST_valid a.1 t
    let a := h.freeNat 12
    let h := a.2.wr TMB_MARCH_FIRST_addr a.1 t
    let a := h.freeNat 32
    let h := a.2.wr TMB_MARCH_SIG_sig a.1 t
    let a := h.freeNat 32
    a.2.wr TMB_MARCH_CNT_count a.1 t

/-- The payload of a VEC frame (R131): markers, the pattern on the channels, timing set, and the cycle start in ticks. -/
def vecPayload (pins marks ts start : Nat) : Nat :=
  (marks % 16) * 2 ^ 36 + (pins % 2 ^ 16) * 2 ^ 20 + (ts % 8) * 2 ^ 17 + start % 2 ^ 17

/-- Tumbler `t` stops with a cause, holding or releasing its pattern (R294). A pending start is cancelled (R293). -/
def Hub.tmbStop (h : Hub) (t cause : Nat) (release : Bool) : Hub :=
  let runs := h.tmbRuns t || h.tmbState t == 1
  let h := h.marchAbandon t
  let h := if release then
      (h.wr TMB_PATTERN_pins 0 t).sendL { typ := 0x80 + t, payload := vecPayload 0 0 (h.rd TMB_STAT_ts_now t) h.clk.tb, prio := 3 }
    else h
  let h := h.modTmb t (fun x => { x with
    released := x.released || release, stopReq := none, jumpReq := none, heavyAsked := false, heavyOk := false,
    issued := none, remain := 0, march := none, dlFrom := none, startSlot := none, startOk := false, zeros := 0 })
  if runs then
    let h := h.dropCand (fun c => (c.kind == .tmbStart || c.kind == .heavyVec) && c.ref == t)
    let h := (h.wr TMB_STAT_state 0 t).wr TMB_STAT_stop_cause cause t
    let h := ((h.put TMB_CTRL_start false t).put TMB_CTRL_stop false t).put TMB_CTRL_jump false t
    (h.tmbRetire t (h.rd TMB_STAT_pc t)).intOwner (h.tmbOwner t) 16
  else h

/-! ### Expert pages and forces (R373, R546) -/

/-- Every force bit cleared: it does when page 0 closes (R546). -/
def Hub.clearForces (h : Hub) : Hub := forAll (List.range 62) (fun h n => h.put (FLT_FORCE_force n) false) h

/-- The pages of a map closed for ward `w`. -/
def Hub.closePages (h : Hub) (w pages : Nat) : Hub :=
  let old := h.rd WRD_EXP_OPEN_open w
  let h1 := h.wr WRD_EXP_OPEN_open (clrMask old pages) w
  if bitOf old 0 && bitOf pages 0 then h1.clearForces else h1

/-- Pages 0 to 2 closed for every ward, on entry to *Safe*, *Halt* or *Test* (R373). -/
def Hub.closeSafetyPages (h : Hub) : Hub := forAll (List.range 8) (fun h w => h.closePages w 7) h

/-! ### Deadbolt's tone, the self-test and proofs -/

/-- The tone that Deadbolt DA is to send (R145): BOLT before HOLD before CLEAR. -/
def Hub.wantTone (h : Hub) (t : Tone) : Hub :=
  if h.hinge.daWant == t then h else { h with hinge := { h.hinge with daWant := t, toneAt := h.clk.now } }

/-- The running proof or re-check window is abandoned and its force released (R530). -/
def Hub.abandonProof (h : Hub) : Hub := { h with dbt := { h.dbt with proof := none } }

/-- A test under way ends with a result: 1 pass, 2 fail, 3 aborted (R584, R591). The caller sets what the hub goes on to. -/
def Hub.endTest (h : Hub) (result : Nat) : Hub :=
  let h := (h.wr BST_STAT_result result).wr BST_STAT_group 0xF
  let h := (h.put BST_STAT_busy false).count BST_RUNS_runs
  let h := if result == 2 then h.count BST_RUNS_fails else h
  let h := h.wr BST_TIME_time ((h.clk.now - h.bst.start) / 1000)
  { h with
    dev := { h.dev with test := false, testHold := false }
    bst := { h.bst with todo := [], fieldNext := false, field := false, fieldRuns := false } }

/-- The BST_STAT image: the payload of a BIST record (R608). -/
def Hub.bstStat (h : Hub) : Nat :=
  h.rd BST_STAT_busy * 2 ^ 31 + h.rd BST_STAT_kind * 2 ^ 28 + h.rd BST_STAT_result * 2 ^ 24 +
    h.rd BST_STAT_group * 2 ^ 20 + h.rd BST_STAT_boot * 2 ^ 12 + h.rd BST_STAT_restore_fail * 2 ^ 11 +
    h.rd BST_STAT_fail_groups

/-- The record of a self-test's end: Note on pass, Fault otherwise (R608). -/
def Hub.bistRecord (h : Hub) : Hub :=
  h.note 0x2D 0x4A (if h.rd BST_STAT_result == 1 then sevNote else sevFault) 4 [h.bstStat]

/-- A watchdog's start (R556): the count begins at zero, the first timeout applies, the seed is renewed: a free value that
is neither 0 nor the seed before (R572). -/
def Hub.wdStart (h : Hub) (k : Nat) : Hub :=
  if h.flag WDG_CFG_en k && (k == 8 || h.defined k) then
    let p := h.freeNat 16
    let s := p.1
    let seed := if s == 0 || s == (h.wd k).seed then (if (h.wd k).seed == 1 then 2 else 1) else s
    p.2.modWd k (fun w => { w with state := 1, since := h.clk.mclk, held := 0, first := true, seed := seed })
  else h.modWd k (fun w => { w with state := 0 })

/-- Every watchdog started afresh. -/
def Hub.wdStartAll (h : Hub) : Hub := forAll (List.range 9) Hub.wdStart h

/-- A test under way is ended as aborted: watchdogs start afresh, BST is set for W0 (R30, R31, R579, R419). -/
def Hub.abortTest (h : Hub) : Hub :=
  if h.dev.test then ((h.endTest 3).bistRecord.wdStartAll).intEvent 0 23 else h

/-- A test that was ordered and not yet admitted is given up as aborted, where the hub comes to a state in which none may start (R34). -/
def Hub.cancelBist (h : Hub) : Hub :=
  if h.sch.queue.any (fun x => x.kind == .bist) then
    (((h.dropCand (fun x => x.kind == .bist)).put BST_STAT_busy false).wr BST_STAT_result 3).intEvent 0 23
  else h

/-! ### Fault reactions (R515, R536, R538) -/

/-- The DBT_SAFE_CAUSE image. -/
def Hub.safeCause (h : Hub) : Nat :=
  h.rd DBT_SAFE_CAUSE_entries * 2 ^ 16 + h.rd DBT_SAFE_CAUSE_refused * 2 ^ 8 + h.rd DBT_SAFE_CAUSE_source

/-- No BOLT_REL is due or repeated any longer: it is sent only at the end of *Arming* and when *Safe* is left (R144). -/
def Hub.noBoltRel (h : Hub) : Hub := { h with hinge := { h.hinge with relDue := false, relRepeat := false } }

/-- Entry to *Safe* for a fault source (R515). A source that calls for it while an exit is under way abandons the exit
(R531); in *Safe* otherwise nothing is entered again. -/
def Hub.enterSafe (h : Hub) (n : Nat) : Hub :=
  if h.dev.safe && h.dev.exitStep == 0 then h
  else if h.dev.safe then
    ({ h with dev := { h.dev with exitStep := 0 } }.noBoltRel.wantTone .bolt).wr DBT_SAFE_CAUSE_source n
  else
    let h := h.abortTest.cancelBist
    let h := { h with dev := { h.dev with safe := true, exitStep := 0 } }.noBoltRel
    let h := (h.wantTone .bolt).sendSafe h.outList
    let h := forAll (List.range 8) (fun h t => h.tmbStop t 6 true) h
    let h := h.closeSafetyPages.abandonProof
    let h := (h.count DBT_SAFE_CAUSE_entries).wr DBT_SAFE_CAUSE_source n
    (h.note 0x24 0x48 sevSafety 8 [n, h.safeCause]).intAll 4

/-- A ward enters *Held* for a fault source (R27); W0 takes the device *Safe* reaction instead (R28). -/
def Hub.holdWard (h : Hub) (w n : Nat) : Hub :=
  if w == 0 then h.enterSafe n
  else if h.ward w == .active then
    let h := (h.setWard w .held).sendSafe (h.chsOf w)
    forAll (h.tmbsOf w) (fun h t => h.tmbStop t 5 true) h
  else h

/-- The severity of a FAULT record by class (R538). -/
def classSev (c : Nat) : Nat := if c ≤ 1 then sevWarning else if c ≤ 4 then sevFault else sevSafety

/-- The first fault captured, or a later one counted (R540). -/
def Hub.captureFirst (h : Hub) (n detail : Nat) (forced : Bool) : Hub :=
  let take := fun (h : Hub) (multi : Bool) =>
    let h := (((h.put FLT_FIRST_valid true).put FLT_FIRST_multi multi).put FLT_FIRST_forced forced).wr FLT_FIRST_wards
      (h.fltMask n)
    let h := (h.wr FLT_FIRST_source n).wr FLT_FIRST_DET_detail detail
    (h.wr FLT_FIRST_TLO_tb h.clk.tb).wr FLT_FIRST_THI_tb (h.clk.tb / 2 ^ 32)
  if !h.flag FLT_FIRST_valid then
    { (take h false).wr FLT_NEXT_count 0 with flt := { h.flt with fresh := true } }
  else if h.flt.fresh then
    let h := h.count FLT_NEXT_count
    if n < h.rd FLT_FIRST_source then take h true else h.put FLT_FIRST_multi true
  else h.count FLT_NEXT_count

/-- In *Boot*, *Arming* and *Recovery* a status is kept and no reaction is taken (R544). -/
def Hub.judgesLater (h : Hub) : Bool := h.dev.phase != .up

/-- The wards that an occurrence adds take their own part of the reaction: FAULT for class interrupt and above, *Held* for
class ward *Held* (R538). -/
def Hub.wardReaction (h : Hub) (n wards : Nat) : Hub :=
  let c := h.fltClass n
  let h := if 1 ≤ c then forAll (bitList 8 wards) (fun h w => h.intEvent w 2) h else h
  if c == 4 then forAll (bitList 8 wards) (fun h w => h.holdWard w n) h else h

/-- The sources that can occur in *Recovery* (R544). -/
def recoverySources : List Nat := [0, 1, 2, 3, 4, 5, 6, 7, 17, 19, 20, 60]

/-- Stands for a detail word of which the spec states no content: the occurrence takes a free value (log entry 4). -/
def detailOpen : Nat := 2 ^ 32

/-- The detail word of an occurrence: the one given, or a free value where the spec states none. -/
def Hub.detailWord (h : Hub) (detail : Nat) : Nat × Hub := if detail == detailOpen then h.freeNat 32 else (detail, h)

/-- An occurrence of source `n` (R538), attributed to a map of wards, with a detail word. `rec` is false where R612 makes
another record the record of the occurrence; `late` marks one delivered after a hold (R587). -/
def Hub.occurNow (h : Hub) (n wards detail : Nat) (forced : Bool := false) (rec : Bool := true) (late : Bool := false) :
    Hub :=
  if h.dev.phase == .recovery && !recoverySources.contains n then h
  else
    let wards := if w0Sources.contains n || wards == 0 || h.dev.phase == .recovery then 1 else wards
    let h := { h with flt := { h.flt with counts := vset h.flt.counts n (satInc 65535 (vget h.flt.counts n 0)) } }
    if !h.fltEnabled n then h
    else
      let p := h.detailWord detail
      let detail := p.1
      let h := p.2
      let old := h.fltMask n
      let h := { h with flt := { h.flt with mask := vset h.flt.mask n (old ||| wards) } }
      let h := if old == 0 then h.captureFirst n detail forced else h
      let h := if rec then
          h.intake { typ := 0x01, source := n, sev := classSev (h.fltClass n), len := 8
                     ward := if w0Sources.contains n then 0xFF else (bitList 8 wards).headD 0
                     flags := (if forced then 2 else 0) + (if late then 8 else 0)
                     payload := [(old ||| wards) + (if h.fltLive n then 256 else 0), detail] }
        else h
      if h.judgesLater then h
      else
        let h := h.wardReaction n (clrMask wards old)
        if old == 0 && h.fltClass n == 5 then h.enterSafe n else h

/-- An occurrence: while LG5 is under test up to 64 wait with the LBIST controller (R587), except one that Deadbolt DA acts
on at once because its reaction is device *Safe* (R589). -/
def Hub.occur (h : Hub) (n wards detail : Nat) (forced : Bool := false) (rec : Bool := true) : Hub :=
  if h.testGroup == 5 && h.fltClass n != 5 then
    if h.bst.occurs.length < 64 then { h with bst := { h.bst with occurs := h.bst.occurs ++ [(n, wards, detail)] } }
    else h.count BST_RUNS_lost
  else h.occurNow n wards detail forced rec

/-- The cause of source `n` rises on a resource: an occurrence where it was absent on that channel or tumbler; for causes tied
to none (16, and 18 up for the parts of such a cause) a rise of the live bit (R538). What a proof hides changes nothing (R521,
R528). -/
def Hub.raise (h : Hub) (n res wards detail : Nat) : Hub :=
  let present := if res < 16 then bitOf (h.causes n) res else h.causes n != 0
  if h.proofHides n res then h
  else
    let h := { h with flt := { h.flt with cause := vset h.flt.cause n (setBit (vget h.flt.cause n 0) res) } }
    if present then h else h.occur n wards detail

/-- The cause of source `n` ends on a resource (R539). -/
def Hub.lower (h : Hub) (n res : Nat) : Hub :=
  { h with flt := { h.flt with cause := vset h.flt.cause n (clrBit (vget h.flt.cause n 0) res) } }

/-- An event source occurs. -/
def Hub.event (h : Hub) (n wards detail : Nat) : Hub :=
  if h.proofHides n 16 then h else h.occur n wards detail

/-! ### The field collector (R545) -/

/-- The payload of a FAULT frame: position, channels, live flag and detail (R545). -/
def faultPayload (p chs detail : Nat) (live : Bool) : Nat :=
  p * 2 ^ 32 + (chs % 2 ^ 16) * 2 ^ 16 + (if live then 2 ^ 15 else 0) + detail % 2 ^ 15

/-- The field die finds position `p` live on some channels (0: tied to none): sticky flag, live flags and a FAULT frame for
the channels on which it was not live (R545). -/
def Hub.fieldRise (h : Hub) (p chs detail : Nat) : Hub :=
  let m := if chs == 0 then 2 ^ 16 else chs
  let old := vget h.flt.fLive p 0
  let new := (bitList 17 (clrMask m old)).foldl (fun a c => if h.fHidden p c then a else setBit a c) 0
  if new == 0 then h
  else { h with flt := { h.flt with
      fLive := vset h.flt.fLive p (old ||| new), fieldSticky := setBit h.flt.fieldSticky p } }.sendF
    { typ := 0x38, payload := faultPayload p new detail true, prio := 1 }

/-- Position `p` is no longer live on some channels: a FAULT frame reports the change (R545). -/
def Hub.fieldFall (h : Hub) (p chs : Nat) : Hub :=
  let m := if chs == 0 then 2 ^ 16 else chs
  let old := vget h.flt.fLive p 0
  let gone := old &&& m
  if gone == 0 then h
  else { h with flt := { h.flt with fLive := vset h.flt.fLive p (clrMask old m) } }.sendF
    { typ := 0x38, payload := faultPayload p gone 0 false, prio := 1 }

/-- Position `p` occurs as an event, with no live flag (R545). -/
def Hub.fieldEvent (h : Hub) (p chs detail : Nat) : Hub :=
  if h.fHidden p 16 then h else
  { h with flt := { h.flt with fieldSticky := setBit h.flt.fieldSticky p } }.sendF
    { typ := 0x38, payload := faultPayload p chs detail false, prio := 1 }

/-- A field of the field die's own configuration, which a logic-die reset leaves in place (R86, R140). -/
def Hub.frd (h : Hub) (f : Fld) (i : Nat := 0) : Nat := (fileGet h.hinge.cfg (fldKey f i 0) ^^^ f.reset) % 2 ^ f.width

/-- The mode of channel `c` as the field die is configured. -/
def Hub.fMode (h : Hub) (c : Nat) : Nat := h.frd OUT_CFG_mode c

/-- Channel `c` is an output, as the field die is configured. -/
def Hub.fIsOut (h : Hub) (c : Nat) : Bool :=
  let m := h.fMode c
  m == 1 || m == 5 || m == 6 || m == 7 || m == 8

/-- The channel whose configuration governs channel `c` on the field die (R208). -/
def Hub.fLead (h : Hub) (c : Nat) : Nat := if h.fMode c == 7 then c - c % 2 else c

/-- The halves of channel `c`'s pair, as the field die is configured. -/
def Hub.fHalves (h : Hub) (c : Nat) : List Nat := if h.fMode c == 7 then [c - c % 2, c - c % 2 + 1] else [c]

/-- The channel is an input, as the field die is configured. -/
def Hub.fIsIn (h : Hub) (c : Nat) : Bool :=
  let m := h.fMode c
  m == 2 || m == 3 || m == 4

/-- The safe state of channel `c`, as the field die is configured. -/
def Hub.fSafeOn (h : Hub) (c : Nat) : Bool := h.frd OUT_CFG_safe_on (h.fLead c) != 0

/-- One channel's ledger counters on the field die changed (R649). -/
def Hub.modAcc (h : Hub) (c : Nat) (f : ChCount → ChCount) : Hub :=
  { h with life := { h.life with acc := vset h.life.acc c (f (vget h.life.acc c {})) } }

/-- Protection acts on channel `c`: limiting, a shutdown or its supply mode (R132). -/
def OutCh.prot (o : OutCh) : Bool := o.limiting || o.tsdLatched || o.retryWait || o.uvOff || o.hot

/-- The OUT_STAT bits of channel `c` (R132). -/
def Hub.chStat (h : Hub) (c : Nat) : Nat :=
  let o := h.out c
  b2n o.sw + 2 * b2n o.atSafe + 4 * b2n o.fholdRun + 8 * b2n o.prot

/-- The states of a group's eight channels, its first channel in the lowest bits (R131). -/
def Hub.groupStat (h : Hub) (g : Nat) : Nat :=
  (List.range 8).foldl (fun m i => m + h.chStat (8 * g + i) * 16 ^ i) 0

/-- The field die sends OUT_STAT for a group (R132). -/
def Hub.sendStat (h : Hub) (g : Nat) : Hub :=
  h.sendF { typ := 0x28 + g, payload := vget h.hinge.applied g 0 * 2 ^ 32 + h.groupStat g, prio := 4 }

/-! ### The output channels' flags (R227, R545) -/

/-- The bits of OUT_FLT, bit 0 first. -/
def outFltFlds : List Fld :=
  [OUT_FLT_open_off, OUT_FLT_open_on, OUT_FLT_short_vf, OUT_FLT_limit, OUT_FLT_tsd, OUT_FLT_stuck_on, OUT_FLT_stuck_off,
   OUT_FLT_dark_fail, OUT_FLT_bright_fail, OUT_FLT_tp_miss, OUT_FLT_pair, OUT_FLT_uv_off]

/-- The logic die takes OUT_FLT of channel `c`, while the link is up. -/
def Hub.syncOutFlt (h : Hub) (c : Nat) : Hub :=
  if !h.hinge.upL then h
  else (List.range 12).foldl (fun h b => h.put (outFltFlds.getD b OUT_FLT_open_off) (bitOf (h.out c).flt b) c) h

/-- A bit of OUT_FLT is set with its condition present: field position `b` rises on the channel (R545). -/
def Hub.outRise (h : Hub) (c b detail : Nat) : Hub :=
  if h.fHidden b c then h
  else ((h.modOut c (fun o => { o with flt := setBit o.flt b })).fieldRise b (2 ^ c) detail).syncOutFlt c

/-- VF reads above 45 V: level checks and open-load conclusions are suspended, and no measurement sets a bit of OUT_FLT (R708). -/
def Hub.vfHigh (h : Hub) : Bool := decide (45000 < h.sup.vf)

/-- The condition of an OUT_FLT bit ends on a channel. -/
def Hub.outFall (h : Hub) (c b : Nat) : Hub := h.fieldFall b (2 ^ c)

/-- Whether channel `c` may conduct: its domain is on, and no protection and no hardware cause holds it off (R51, R68, R70, R77, R212,
R215, R672, R726). -/
def Hub.mayConduct (h : Hub) (c : Nat) : Bool :=
  let o := h.out c
  h.sup.fieldUp && (decide (c < 8) || bitOf h.sup.on 10) && !o.hiz && !h.sup.vregFail && !h.dbt.globalOff && !o.hot && !o.tsdLatched && !o.retryWait && !o.uvOff && !o.uvLow

/-- The flags that go with the switch of channel `c` after a change: limiting that has ended (R211), and a channel commanded
on below UVTH, which its supply mode holds off (R215). -/
def Hub.switchFlags (h : Hub) (c : Nat) (was : OutCh) : Hub :=
  let o := h.out c
  let h := if was.limiting && !o.limiting then h.outFall c 3 else h
  if o.latched && o.uvLow && !o.uvOff then (h.modOut c (fun o => { o with uvOff := true })).outRise c 11 0 else h

/-- A channel that the hub itself switches off leaves every sample of the supply power's window (R479). -/
def Hub.dropVf (h : Hub) (c : Nat) : Hub :=
  { h with sch := { h.sch with pWindow := h.sch.pWindow.map (fun x => (x.1, vset x.2 c 0)) } }

/-- A heavy turn-on has taken effect: the instant from which the stagger of the hub and of the owning ward runs (R484), which the logic die
learns over the link (R12). -/
def Hub.stampHeavy (h : Hub) (c : Nat) : Hub :=
  if h.hinge.upL && h.flag OUT_CFG_heavy (h.lead c) && h.mode c != 8 then
    let x := h.sch
    { h with sch := { x with
        lastHeavy := some h.clk.now
        wardHeavy := match h.chOwner c with | some w => vset x.wardHeavy w (some h.clk.now) | none => x.wardHeavy } }
  else h

/-- A run without limiting ends: after 1 s of it the shutdowns before it no longer count as consecutive (R229). -/
def OutCh.stopRun (o : OutCh) (now : Nat) : OutCh :=
  match o.ranSince with
  | none => o
  | some t => { o with ranSince := none, shutdowns := if t + Config.ticksPerS ≤ now then 0 else o.shutdowns }

/-- The switch of a commanded channel takes a state, limiting or not: its run without limiting (R229), and when it went off (R221). -/
def OutCh.turn (o : OutCh) (now : Nat) (sw lim : Bool) : OutCh :=
  let o := if sw && !lim then { o with ranSince := some (o.ranSince.getD now) } else o.stopRun now
  { o with sw := sw, limiting := lim, offAt := if o.sw && !sw then now else o.offAt, openSince := if sw then o.openSince else none }

/-- A test pulse or lit check ends: level checks stay blanked for 100 µs (R223, R232). -/
def OutCh.endPulse (o : OutCh) (now : Nat) : OutCh :=
  if o.pulse.isSome || o.lit then { o with pulse := none, lit := false, blankTill := now + 100 * Config.ticksPerUs } else o

/-- The commanded state of a channel changes: the checks of the state before end (R224). -/
def OutCh.latch (o : OutCh) (now : Nat) (on : Bool) : OutCh :=
  if o.latched == on then o
  else { o with latched := on, changedAt := now, check := false, highSince := none, failAt := none }

/-- A rise of the switch counted as a switching cycle (R649), and as a heavy turn-on (R484). -/
def Hub.countTurnOn (h : Hub) (c : Nat) : Hub :=
  (h.modAcc c (fun a => { a with cycles := satInc (2 ^ 40 - 1) a.cycles })).stampHeavy c

/-- The switch conducts for its command, a dark pulse apart: no lit check, no bright pulse. -/
def OutCh.ran (o : OutCh) : Bool := o.latched && (o.sw || o.pulse == some .dark)

/-- The output state latch of channel `c` set, and its switch with it; a pulse or lit check ends. A rise of the switch counts a switching
cycle, where `counts` says so (R649). -/
def Hub.setSwitch (h : Hub) (c : Nat) (on : Bool) (counts : Bool := true) : Hub :=
  let o := h.out c
  let sw := on && h.mayConduct c
  let h := if counts && sw && !o.ran then h.countTurnOn c else h
  let h := if o.sw && !on then h.dropVf c else h
  let h := h.modOut c (fun o => ((o.endPulse h.clk.now).latch h.clk.now on).turn h.clk.now sw (o.limiting && sw))
  h.switchFlags c o

/-- The switch of channel `c` brought in line with its latch, after a protection, a pulse or a check has come or gone. -/
def Hub.reSwitch (h : Hub) (c : Nat) (counts : Bool := true) : Hub :=
  let o := h.out c
  let sw := o.latched && h.mayConduct c
  let h := if counts && sw && !o.ran then h.countTurnOn c else h
  let h := h.modOut c (fun o => (o.endPulse h.clk.now).turn h.clk.now sw (o.limiting && sw))
  h.switchFlags c o

/-- A check window of input `c` ends: the crossing that the raw output has held since becomes a candidate (R258), and the wire-break timer
pauses for 100 µs more (R269). -/
def InCh.windowEnd (i : InCh) (w : Window) (now : Nat) : InCh :=
  let i := { i with wbTill := now + 100 * Config.ticksPerUs }
  match w.cross with
  | none => i
  | some x => if i.raw == i.deb then i else { i with cand := some x, candUncertain := w.unc }

/-- The own window of an input whose source channel goes to its safe state ends without a conclusion (R271). -/
def Hub.endWindows (h : Hub) (src : Nat) : Hub :=
  forAll (List.range 16) (fun h c =>
    match (h.inp c).own with
    | none => h
    | some w =>
      if h.frd IN_TPC_src_ch c == src then
        let h := if h.hinge.upL then h.put IN_STAT_window false c else h
        h.modIn c (fun i => { (i.windowEnd w h.clk.now) with own := none })
      else h) h

/-- The field die brings channels to their safe states by its own action (R143, R507, R515): running FHOLD timers of the
channels end, and the at-safe state is reported. A field die that has not applied a generation since its reset keeps every
channel off, and no channel gets safe_hold by it (R726). -/
def Hub.fieldSafe (h : Hub) (chs : List Nat) : Hub :=
  forAll (chs.filter h.fIsOut) (fun h c =>
    let first := h.hinge.firstApplied
    let h := h.modOut c (fun o => { o with fholdRun := false, atSafe := first })
    let h := (if h.hinge.upF || !first then h else { h with hinge := { h.hinge with lossSafe := setBit h.hinge.lossSafe c } }).endWindows c
    h.setSwitch c (first && h.fSafeOn c)) h

/-! ### Deadbolt DB's own drive (R515) -/

/-- A detection of DB's own with device *Safe* reaction is present: the FCLK check, the ADC comparison, heartbeat loss or
drift, the field status store, or a fault of a safety output (R511, R515). -/
def Hub.dbCond (h : Hub) : Bool :=
  [21, 30, 32, 33, 36].any (fun p => vget h.flt.fLive p 0 != 0) ||
    (List.range 16).any (fun c => h.frd OUT_CFG_safety (h.fLead c) != 0 &&
      ([5, 6, 7, 8, 9].any (fun p => bitOf (vget h.flt.fLive p 0) c) || (!h.fSafeOn c && bitOf (vget h.flt.fLive 2 0) c)))

/-- The output channels as the field die is configured. -/
def Hub.fOuts (h : Hub) : List Nat := (List.range 16).filter h.fIsOut

/-- DB's drive begins at its detection and lasts while a condition is present (R515). -/
def Hub.dbJudge (h : Hub) : Hub :=
  if h.dbCond == h.dbt.dbForced then h
  else
    let h1 := { h with dbt := { h.dbt with dbForced := h.dbCond } }
    if h.dbCond then h1.fieldSafe h1.fOuts else h1

/-- The tone DB sends (R142, R145, R515): silence without VF or SOSC-B, BOLT while DB forces the channels, HOLD until the
field die has been configured since its reset. -/
def Hub.dbTone (h : Hub) : Tone :=
  if !h.sup.fieldUp || h.dbt.clockLost then .silence
  else if h.dbt.dbForced then .bolt
  else if h.hinge.configured then .clear else .hold

/-! ### The scheduler's queue (R482, R483) -/

/-- A candidate joins the queue; one of the same kind for the same resource is not queued twice. -/
def Hub.submit (h : Hub) (c : Cand) : Hub :=
  if h.sch.queue.any (fun x => x.kind == c.kind && x.ref == c.ref) then h
  else
    let q := h.sch.queue ++ [{ c with at_ := h.clk.now }]
    { h with sch := { h.sch with queue := q } }.wr SCH_STAT_queued q.length

/-- The domain is off for the life of the Blank (R74). -/
def Hub.blankOff (h : Hub) (d : Nat) : Bool :=
  match d with
  | 2 => h.flag PWR_DOM_CFG_ops_off
  | 3 => h.flag PWR_DOM_CFG_seq_off
  | 4 => h.flag PWR_DOM_CFG_mem0_off
  | 5 => h.flag PWR_DOM_CFG_mem1_off
  | 10 => h.flag PWR_DOM_CFG_fchb_off || h.chip.part == .pwh0840
  | _ => false

/-- The field die wakes PD_FCHB by itself on a change of FHOLD-related state (R77): with the link lost no scheduler could (log entry 65). -/
def Hub.wakeFchb (h : Hub) : Hub :=
  if h.sup.fieldUp && !bitOf h.sup.on 10 && !h.blankOff 10 then { h with sup := { h.sup with waking := setBit h.sup.waking 10 } } else h

/-- A wake of a domain that is off requested: a candidate of class B of the hub's own (R76, R483, R493). -/
def Hub.wantDomain (h : Hub) (d : Nat) : Hub :=
  if bitOf h.sup.on d then h
  else
    { h with sup := { h.sup with wakeReq := setBit h.sup.wakeReq d } }.submit
      { kind := .domainWake, ref := d, ivdd := if d == 4 || d == 5 then 20 else 5 }

/-! ### Resets (R428, R435) -/

/-- An entry added to the reset-cause history, newest first (R435). -/
def Hub.history (h : Hub) (cause ward : Nat) : Hub :=
  let e := if cause == 1 then 0xF * 2 ^ 12 + 0xF * 2 ^ 8 + 1
    else (h.ret.boots % 2 ^ 16) * 2 ^ 16 + h.state.code * 2 ^ 12 + (ward % 16) * 2 ^ 8 + cause
  { h with ret := { h.ret with hist := (e :: h.ret.hist).take 8 } }

/-- What a logic-die reset leaves of the output channels: the field die keeps them, the logic die forgets what waits. -/
def OutCh.afterReset (o : OutCh) : OutCh := { o with wait := none }

/-- What a logic-die reset leaves of the input channels: the FIFO on the logic die is empty. -/
def InCh.afterReset (i : InCh) : InCh := { i with fifo := [], gapNext := false, old := 0 }

/-- What a logic-die reset leaves of the link: the field die's side and the tone DA sends; what it decides starts again from silence, the
Reset value of HNG_BOLT.fl_tone (R158). -/
def Hinge.afterReset (x : Hinge) : Hinge :=
  { x with
    lanes := Vector.replicate 4 {}, upL := false, everL := false, txL := [], dups := [], porSeen := false, cmd := Vector.replicate 16 0, gen := Vector.replicate 2 0
    statGen := Vector.replicate 2 0, genFresh := Vector.replicate 2 true, rejoinWaits := false, daWant := .hold, daDecides := .silence
    relRepeat := false, relDue := false, initDue := false, genDue := Vector.replicate 2 none, nextTag := 0, out := [], waiting := [], reqTurn := 0, reqLeft := 0 }

/-- What a logic-die reset leaves of the thermal model and scheduler: the field die's model and sensors. -/
def Sch.afterReset (x : Sch) : Sch :=
  { rise1 := x.rise1, rise2 := x.rise2, rise3 := x.rise3, power := x.power, vfPower := x.vfPower, iest := x.iest
    temps := x.temps, past := x.past }

/-- What a logic-die reset leaves of the ledger outside the retained block: the field die's accumulators. -/
def Life.afterReset (x : Life) : Life := { acc := x.acc, resid := x.resid, fieldSerial := x.fieldSerial }

/-- A logic-die reset (R428): every logic domain but PD_AON. It keeps the chip, the retained block, the supplies and the
band, the field die and the NVM devices; no bank content survives the boot that follows. A WDO pulse runs on (R60). -/
def Hub.logicReset (h : Hub) : Hub :=
  let fieldMask : Flt := { fieldSticky := h.flt.fieldSticky, fLive := h.flt.fLive }
  { chip := h.chip
    regs := h.regs.filter (fun e => e.1 == fldKey WDG_WDO_STAT_active 0 0 || e.1 == fldKey CLK_REF_LOSS_count 0 0)
    dev := { phase := .boot, rstLow := h.dev.rstLow, boltBoot := h.dev.boltBoot, testen := h.dev.testen, testHeld := h.dev.testHeld,
             ftest := h.dev.ftest, ftestHeld := h.dev.ftestHeld }
    sup := { h.sup with pd := none, on := 3 + (h.sup.on &&& 0xF00), clearing := 0, clearWait := 0, wakeReq := 0, waking := 0, nvmAllowed := h.sup.nvmAllowed, heldBits := 0, heldOn := 0 }
    ret := h.ret
    fol := { retOld := h.fol.retOld, retSide := h.fol.retSide, retLost := h.fol.retLost }
    clk := { h.clk with tb := 0, badWindow := false, mclkLost := false, tbReset := true, steppedAt := none }
    hinge := { h.hinge.afterReset with daWant := if h.dev.boltBoot then .bolt else .hold }
    outs := h.outs.map OutCh.afterReset
    ins := h.ins.map InCh.afterReset
    dbt := { db := h.dbt.db, dbForced := h.dbt.dbForced, globalOff := h.dbt.globalOff, clockLost := h.dbt.clockLost, badSensors := h.dbt.badSensors }
    aux := h.aux.map (fun a => { input := a.input })
    sch := h.sch.afterReset
    flt := fieldMask
    life := h.life.afterReset
    nvm := h.nvm
    nvmOp := h.nvmOp
    wdo := if h.flag WDG_WDO_STAT_active then { h.wdo with reset := true } else {}
    free := h.free }

/-- Steps 1 and 2 of R79: PD_CORE, PD_SAFE and PD_HLL are on, PD_OPS, PD_SEQ and the memory domains come on; the memories are cleared
after every reset (R78, R428). -/
def Hub.bootDomains (h : Hub) : Hub :=
  { h with sup := { h.sup with on := 0xC3 + (h.sup.on &&& 0xF00), waking := 0x3C, clearing := 0, clearWait := 0 } }

/-- The logic die leaves a reset: TESTEN is sampled (R50), the boot count goes up, and the retained block's source is the AON copy (R89). -/
def Hub.bootCount (h : Hub) : Hub :=
  { h with
    dev := { h.dev with testHeld := h.dev.testen }
    ret := { h.ret with boots := satInc (2 ^ 32 - 1) h.ret.boots } }.bootDomains.wr PWR_RET_STAT_source 0

/-! ### What waited for a group under test (R587) -/

/-- The intakes and occurrences that waited while LG4 or LG5 was under test are delivered in order of arrival once the group has been
restored; each such record carries the flag of a late delivery. -/
def Hub.bstDeliver (h : Hub) : Hub :=
  let h := if h.testGroup == 4 || h.bst.intakes.isEmpty then h
    else h.bst.intakes.foldl Hub.intake { h with bst := { h.bst with intakes := [] } }
  if h.testGroup == 5 || h.bst.occurs.isEmpty then h
  else h.bst.occurs.foldl (fun h x => h.occurNow x.1 x.2.1 x.2.2 false true true) { h with bst := { h.bst with occurs := [] } }

/-! ### Idle domains (R75) -/

/-- The state that the ward's commands hold channel `c` in, as the logic die commands it (R219). -/
def Hub.cmdOn (h : Hub) (c : Nat) : Bool :=
  let k := vget h.hinge.cmd c 0
  k == 1 || (k == 2 && h.safeOn c)

/-- A domain is idle (R75). -/
def Hub.domainIdle (h : Hub) (d : Nat) : Bool :=
  match d with
  | 2 => h.eng.ops.isEmpty &&
      (List.range 8).all (fun w => !h.flag OPS_SQ_CFG_en w || h.rd OPS_SQ_IDX_head w == h.rd OPS_SQ_IDX_tail w)
  | 3 => (List.range 8).all (fun t => !h.tmbRuns t && h.tmbState t != 1) && !h.flag LSY_CFG_en && h.aux.toList.all (fun a => a.edges.all (fun e => decide (e.1 ≤ 8 * h.clk.tb)))
  | 5 => (List.range 24).all (fun i => h.rd BNK_OWNER_owner (24 + i) == 0xFF && !h.flag BNK_CTRL_retain (24 + i)) &&
      h.mem.all (fun c => !(decide (dpAddr 0 0 ≤ c.1) && decide (c.1 < dpAddr 2 0)))
  | 10 => (List.range 8).all (fun i =>
      let c := 8 + i
      h.mode c == 0 ||
        (h.isOut c && !h.cmdOn c && !h.safeOn c && !(h.out c).check && !(h.out c).lit && !(h.out c).litOk && !h.sch.queue.any (movesCh c) &&
          !h.eng.ops.any (fun o => o.kind == 8 && o.field % 16 == c)))
  | _ => false

/-- Since when each switchable domain has been idle: whatever ends its idleness restarts the time (R75). -/
def Hub.idleTimes (h : Hub) : Vector (Option Nat) 12 :=
  [2, 3, 5, 10].foldl (fun v d =>
    vset v d (if h.domainIdle d then some ((vget v d none).getD h.clk.now) else none)) h.fol.idleSince

/-! ### What follows from a change of state -/

/-- What the rest of the state entails, brought up to date after a change from `before`: the state that *Brown* or *Test* is left to, the
idle times of the domains, and the copies of the retained block, of which an update is written to the older one (R87). -/
def Hub.follow (after before : Hub) : Hub :=
  let aside := before.ret.valid && after.ret.valid && before.ret != after.ret && !after.fol.retLost
  { after with fol := { after.fol with
      prior := Hub.priorAfter before after
      idleSince := after.idleTimes
      retOld := if aside then before.ret else after.fol.retOld
      retLost := false
      retSide := if aside then 1 - after.fol.retSide else after.fol.retSide } }

/-! ### The supervision of test pulses (R234, R259, R269) -/

/-- The supervision of dark pulses runs (R234): of a pair, for its even channel (R208). -/
def Hub.darkSupervised (h : Hub) (c : Nat) : Bool :=
  h.fLead c == c && h.fIsOut c && h.frd OUT_TP_dark_en c != 0 && !h.flag OUT_STAT_safe_hold c && h.hinge.upF &&
    (h.fHalves c).all (fun x => (h.out x).latched && !(h.out x).prot)

/-- The input is sensed: it is configured as one, and no field LBIST has frozen it (R273). -/
def Hub.inSensed (h : Hub) (c : Nat) : Bool :=
  h.sup.fieldUp && h.hinge.configured && h.fIsIn c && !((h.inp c).frozen.isSome && h.dev.test)

/-- The source channel's switch is on, as the field die drives it. -/
def Hub.srcOn (h : Hub) (c : Nat) : Bool := (h.out (h.frd IN_TPC_src_ch c)).sw

/-- The supervision of test pulses runs (R259). The pulse that an open window checks is no time in which the source channel is off
(log entry 85). -/
def Hub.tpSupervised (h : Hub) (c : Nat) : Bool :=
  h.inSensed c && h.frd IN_TPC_en c != 0 && (h.inp c).deb && h.hinge.upF && h.state != .safe && h.state != .halt && h.state != .test &&
    (h.srcOn c || (h.inp c).own.isSome)

/-- The wire-break timer of an input pauses (R269); the 100 µs after a window are in `wbTill`. -/
def Hub.wbPauses (h : Hub) (c : Nat) : Bool :=
  (h.inp c).own.isSome || (h.inp c).foreign.isSome || (h.frd IN_TPC_en c != 0 && !h.srcOn c)

/-- The supervision of a channel's dark pulses after a change: one that a pause has ended or interrupted starts with a full interval, in which
nothing from before counts (R234). -/
def Hub.watchDark (before h : Hub) (c : Nat) : Hub :=
  if before.darkSupervised c == h.darkSupervised c then h else h.modOut c (fun o => { o with tpSeen := false })

/-- The same for the test pulses that an input checks (R259). -/
def Hub.watchTp (before h : Hub) (c : Nat) : Hub :=
  if before.tpSupervised c == h.tpSupervised c then h else h.modIn c (fun i => { i with passed := false })

/-- The wire-break timer of an input keeps its count over a pause (R269). -/
def Hub.watchWire (h : Hub) (c : Nat) : Hub :=
  let i := h.inp c
  match i.wbPaused, h.wbPauses c with
  | none, true => h.modIn c (fun i => { i with wbPaused := some (max h.clk.now i.wbTill) })
  | some t, false => h.modIn c (fun i => { i with wbPaused := none, wbPause := i.wbPause + (max h.clk.now i.wbTill - t) })
  | _, _ => h

/-- The supervisions and timers of a channel after a change. -/
def Hub.watch (before after : Hub) (c : Nat) : Hub := (before.watchTp (before.watchDark after c) c).watchWire c

/-- What follows from the change that a command made: interrupt source STATE for every ward when the device state has
changed (R419), FLT_ERR.falls where ERR has gone low (R541), and OUT_STAT for a group whose channel states have changed
(R132), after Deadbolt DB has judged its own conditions (R515). -/
def settle (before after : Hub) : Hub :=
  let after := forAll (List.range 16) before.watch after.bstDeliver.dbJudge
  let h := if before.state == after.state then after else after.intAll 3
  let h := forAll [0, 1] (fun h g => if before.groupStat g == h.groupStat g then h else h.sendStat g) h
  (if !before.errLow && after.errLow then h.count FLT_ERR_falls else h).follow before

/-- The outcome of a command that changes the hub and nothing of the queue. -/
def State.on (s : State) (f : Hub → Hub) : Host.Outcome State Fault Refusal :=
  .next { s with hub := settle s.hub (f { s.hub with flt := { s.hub.flt with fresh := false } }) }

end Sys2Proof.Machine
end

