-- ==== Sys2Proof/Machine/Halts.lean ====
section
/-!
DEFINITION. *Halt* for a thermal and for a clock cause, the field die's global shutdown, the pending records of the retained
block (chapters 01, 20 and 22), and their commands.

What the spec leaves open here: DEDUCED, log entry 95.
-/

namespace Sys2Proof.Machine

/-- The image of a word that a list of stored fields makes up. -/
def Hub.image (h : Hub) (fs : List Fld) (i : Nat := 0) (w : Nat := 0) : Nat :=
  fs.foldl (fun m f => m + h.rd f i w * 2 ^ f.lsb) 0

/-- The CLK_STAT image. -/
def Hub.clkStat (h : Hub) : Nat :=
  h.image [CLK_STAT_follow_lock, CLK_STAT_hosc_ok, CLK_STAT_ref_fit, CLK_STAT_ret_pending, CLK_STAT_holdover,
    CLK_STAT_pll_lock, CLK_STAT_src_now]

/-! ### Pending records (R630) -/

/-- The pending slots that hold records, with their numbers. -/
def pendList (v : Vector (Option PendRec) 4) : List (Nat × PendRec) :=
  (List.range 4).filterMap (fun i => (vget v i none).map (fun r => (i, r)))

/-- The slot a new pending record of a severity takes, and whether it overwrites another: a free slot, or the slot with the
lowest severity, oldest first; none where every slot holds a record of higher severity. -/
def pendSlot (v : Vector (Option PendRec) 4) (sev : Nat) : Option (Nat × Bool) :=
  match (List.range 4).find? (fun i => (vget v i none).isNone) with
  | some i => some (i, false)
  | none =>
    let best := (pendList v).foldl (fun (b : Option (Nat × PendRec)) x =>
      match b with
      | none => some x
      | some y => if x.2.sev < y.2.sev || (x.2.sev == y.2.sev && x.2.ord < y.2.ord) then some x else some y) none
    match best with
    | some (i, r) => if sev < r.sev then none else some (i, true)
    | none => none

/-- A pending record written into the retained block (R630). -/
def Hub.pendingRec (h : Hub) (typ source sev len : Nat) (payload : List Nat) : Hub :=
  match pendSlot h.ret.slots sev with
  | none => h
  | some (i, lost) =>
    let ord := (pendList h.ret.slots).foldl (fun m x => max m (x.2.ord + 1)) 0
    let r : PendRec := { typ := typ, source := source, sev := sev, len := len, boots := h.ret.boots, lost := lost
                         payload := payload, ord := ord }
    { h with ret := { h.ret with slots := vset h.ret.slots i (some r) } }

/-- Word 4 of the newest THERMAL_HALT pending record with a bit set (R638). -/
def Hub.markThermal (h : Hub) (bit : Nat) : Hub :=
  let mine := (pendList h.ret.slots).filter (fun x => x.2.typ == 0x10)
  let newest := mine.foldl (fun (b : Option (Nat × PendRec)) x =>
    match b with | none => some x | some y => if y.2.ord < x.2.ord then some x else some y) none
  match newest with
  | none => h
  | some (i, r) =>
    let r := { r with payload := [r.payload.getD 0 0, setBit (r.payload.getD 1 0) bit, r.payload.getD 2 0] }
    { h with ret := { h.ret with slots := vset h.ret.slots i (some r) } }

/-! ### Entry to *Halt* (R17, R24, R672) -/

/-- Every watchdog stopped (R556). -/
def Hub.wdStopAll (h : Hub) : Hub := forAll (List.range 9) (fun h k => h.modWd k (fun w => { w with state := 0 })) h

/-- A signed temperature in 0.125 °C as the 16-bit field that holds it. -/
def temp16 (t : Int) : Nat := ofSigned 16 t

/-- The highest of a list of temperatures, the first where the list is empty otherwise. -/
def maxTemp (l : List Int) (d : Int) : Int := l.foldl max d

/-- The hottest field sensor, S0 to S5. -/
def Hub.fieldTemp (h : Hub) : Int :=
  maxTemp ((List.range 6).map (fun i => vget h.sch.temps i 0)) (vget h.sch.temps 0 0)

/-- The logic-die temperature: the higher of L0 and L1. -/
def Hub.logicTemp (h : Hub) : Int := max (vget h.sch.temps 6 0) (vget h.sch.temps 7 0)

/-- Entry to *Halt* for a thermal cause (R24, R372, R602, R672): the pending record, a test ended, safe states over the link
and the bolt line, tumblers stopped with cause 9 and released, pages 0 to 2 closed, watchdogs stopped. -/
def Hub.thermalHalt (h : Hub) (fieldDie : Bool) : Hub :=
  if h.dev.halt.isSome || h.dev.phase == .off then h
  else
    let w3 := temp16 h.logicTemp + temp16 h.fieldTemp * 2 ^ 16
    let h := h.pendingRec 0x10 0x41 sevSafety 12 [w3, b2n fieldDie, h.state.code]
    let h := if h.dev.test then (h.endTest 3).bistRecord else h.cancelBist
    let h := { h with dev := { h.dev with halt := some .thermal, exitStep := 0, boltBoot := true, haltAt := h.clk.now } }
    let h := { h with ret := { h.ret with life := { h.ret.life with halts := satInc (2 ^ 32 - 1) h.ret.life.halts } } }
    let h := (h.wantTone .bolt).sendSafe h.outList
    let h := forAll (List.range 8) (fun h t => h.tmbStop t 9 true) h
    h.closeSafetyPages.abandonProof.wdStopAll

/-- Entry to *Halt* for a clock cause (R24, R105, R145, R630): MCLK and the timebase stand still, PD_AON writes the pending
record, and DA signals HOLD unless it sends BOLT. -/
def Hub.clockHalt (h : Hub) : Hub :=
  if h.dev.halt.isSome || h.dev.phase == .off then h
  else
    let h := h.pendingRec 0x11 0x42 sevSafety 8 [h.clkStat, h.rd CLK_MEAS_mclk_err]
    let h := if h.dev.test then h.endTest 3 else h.cancelBist
    let h := { h with dev := { h.dev with halt := some .clock, exitStep := 0 } }
    let h := { h with clk := { h.clk with mclkLost := true } }
    let h := if h.hinge.daWant == .bolt then h else h.wantTone .hold
    h.closeSafetyPages.abandonProof.wdStopAll

/-- *Halt* is left for *Boot* by a warm boot (R18, R436): the history entry, then a logic-die reset. -/
def Hub.warmBoot (h : Hub) (cause : Nat) : Hub := (h.history cause 0xF).logicReset.bootCount

/-! ### Sensors and the global shutdown (R672) -/

/-- The readings in force in the last 100 ms: those that came since, and the one before them. -/
def pastKeep (limit : Nat) : List (Nat × Int) → List (Nat × Int)
  | [] => []
  | (a, v) :: rest => if limit < a then (a, v) :: pastKeep limit rest else [(a, v)]

/-- A sensor reading taken into the model: S0 to S5, L0, L1. -/
def Hub.setTemp (h : Hub) (s : Nat) (t : Int) : Hub :=
  let x := h.sch
  let old := vget x.past s []
  let l := if (old.head?.map (·.2)) == some t then old else (h.clk.now, t) :: old
  { h with sch := { x with
      temps := vset x.temps s t, past := vset x.past s (pastKeep (h.clk.now - 100 * Config.ticksPerMs) l) } }

/-- 165 °C, 150 °C, 145 °C and 130 °C in steps of 0.125 °C. -/
def tFieldHalt : Int := 1320
/-- 150 °C. -/
def tLogicHalt : Int := 1200
/-- 145 °C. -/
def tFieldBack : Int := 1160
/-- 130 °C. -/
def tLogicBack : Int := 1040

/-- DB's global shutdown of the channels begins or ends. -/
def Hub.setGlobal (h : Hub) (off : Bool) : Hub :=
  if h.dbt.globalOff == off then h
  else forAll (List.range 16) Hub.reSwitch { h with dbt := { h.dbt with globalOff := off } }

/-- DB's global shutdown judged on the field sensors: every channel off at 165 °C or more on any; the channels whose safe
state is ON driven again once every field sensor reads below 145 °C while the hub is still in *Halt* (R672; log entry 95). -/
def Hub.judgeGlobal (h : Hub) : Hub :=
  if tFieldHalt ≤ h.fieldTemp then h.setGlobal true
  else if h.fieldTemp < tFieldBack && h.dev.halt.isSome then h.setGlobal false
  else h

/-- The thermal *Halt* conditions judged on a reading (R672). -/
def Hub.judgeHalt (h : Hub) (s : Nat) : Hub :=
  if s < 6 then (if tFieldHalt ≤ vget h.sch.temps s 0 && h.hinge.upL then h.thermalHalt true else h)
  else if tLogicHalt ≤ vget h.sch.temps s 0 then h.thermalHalt false else h

/-- THERMAL_HALT (R672): a sensor reading in 0.125 °C that is judged against the thresholds of R17. -/
def execThermalHalt (sensor : Fin 8) (t : BitVec 16) (s : State) : Host.Outcome State Fault Refusal :=
  s.on (fun h => (h.setTemp sensor t.toInt).judgeHalt sensor)

/-- FIELD_GLOBAL_SHUTDOWN (R672): a field sensor reading judged by Deadbolt DB. -/
def execFieldGlobalShutdown (sensor : Fin 6) (t : BitVec 16) (s : State) : Host.Outcome State Fault Refusal :=
  s.on (fun h => (h.setTemp sensor t.toInt).judgeGlobal)

/-- THERMAL_HALT_EXIT (R18, R672): the hottest sensor of each die reads below 130 °C and 145 °C; DB's global shutdown is over, and the hub
warm-boots. -/
def execThermalHaltExit (logic field : BitVec 16) (s : State) : Host.Outcome State Fault Refusal :=
  s.on (fun h =>
    if h.dev.halt == some .thermal && logic.toInt < tLogicBack && field.toInt < tFieldBack then (h.setGlobal false).warmBoot 8 else h)

/-! ### The NVM at *Halt* (R638) -/

/-- A page program that is cut off while the device programs: the bits it was to change are open, on a NOR those it clears, and no record
slot of the page passes R607, since its word 7 does not stand (log entry 4). -/
def cutProgram (v : NvmDev) (a : Nat) (bytes free : List Nat) (journal : Bool) : NvmDev :=
  let old := cellsGet 0xFF v.mem a bytes.length
  let part := List.zipWith (fun x y => x ||| y) bytes free
  let new := if v.kind == .fram then List.zipWith (fun x y => (x &&& y.1) ||| clrMask y.2 y.1) old (free.zip bytes)
    else List.zipWith (fun x y => x &&& y) old part
  let new := if journal then (List.range new.length).map (fun i => if 30 ≤ i % 32 then 0 else new.getD i 0) else new
  { v with mem := cellsSet 0xFF v.mem a new }

/-- A program or erase that is cut off, on one device: of a page the bits it was to change are open, of a sector all of it. -/
def NvmOp.cut (o : NvmOp) (free : List Nat) (v : NvmDev) : NvmDev :=
  if o.kind == 1 then cutProgram v o.addr o.data free (o.use == .journal || o.use == .reclaim)
  else { v with mem := cellsSet 0xFF v.mem o.addr free }

/-- A program or erase that is carried out, on one device. -/
def NvmOp.make (o : NvmOp) (v : NvmDev) : NvmDev :=
  if o.kind == 1 then nvmProgram v o.addr o.data else nvmErase v o.addr 4096

/-- The number of bytes that a program or erase changes. -/
def NvmOp.span (o : NvmOp) : Nat := if o.kind == 1 then o.data.length else 4096

/-- The running NVM operation is abandoned: before the device has begun nothing is programmed; afterwards the page or the
sector holds open values (R442, R638). -/
def Hub.abandonNvm (h : Hub) (shifting : Bool) : Hub :=
  match h.nvmOp with
  | none => h
  | some o =>
    let h1 := { h with nvmOp := none }
    if shifting || o.kind == 0 then h1
    else
      let p := h1.freeBytes o.span
      let q := p.2.freeBytes o.span
      q.2.onNvm (h.nvmBoth o) (o.cut p.1) (o.cut q.1)

/-- The NVM operation that runs at thermal *Halt* may not go on: 5 ms have passed since, or the logic die reads 160 °C or more (R638). -/
def Hub.cutoffDue (h : Hub) : Bool :=
  h.dev.halt == some .thermal && (decide (h.dev.haltAt + 5 * Config.ticksPerMs ≤ h.clk.now) || decide (1280 ≤ h.logicTemp))

/-- NVM_CUTOFF (R638): 5 ms after entry to thermal *Halt*, or at 160 °C, a page program still running is abandoned and the
pending record updated. `shifting` says that the page was still being shifted in. -/
def execNvmCutoff (shifting : Bool) (s : State) : Host.Outcome State Fault Refusal :=
  s.on (fun h =>
    if h.cutoffDue && h.nvmOp.isSome then
      let prog := match h.nvmOp with | some o => o.kind == 1 | none => false
      let h := h.abandonNvm shifting
      if prog then h.markThermal 1 else h
    else h)

end Sys2Proof.Machine
end

