-- ==== Sys2Proof/Machine/Banks.lean ====
section
/-!
DEFINITION. The memory banks (chapter 14): authority, handover, the retain flag, the alias windows, errors of the memory's
check code, and the scrubber.

What the spec leaves open here: DEDUCED, log entries 46, 47.
-/

namespace Sys2Proof.Machine

/-- The bit of R74 of the domain that bank `b` lies in: PD_MEM0 or PD_MEM1 (R449). -/
def bankDomain (b : Nat) : Nat := if b < 24 then 4 else 5

/-- The bank's domain is on and has been cleared since it woke (R76, R78). -/
def Hub.bankPowered (h : Hub) (b : Nat) : Bool :=
  bitOf h.sup.on (bankDomain b) && !bitOf h.sup.uncleared (bankDomain b - 4)

/-- An access to the bank does not have to wait: it is powered, not being cleared, with no handover pending (R455, R458). -/
def Hub.bankFree (h : Hub) (b : Nat) : Bool :=
  h.bankPowered b && !h.flag BNK_STAT_pending b && !h.flag BNK_STAT_clearing b

/-- The ward with authority over a bank (R453). -/
def Hub.bankAuth (h : Hub) (b : Nat) : Option Nat :=
  let o := h.rd BNK_OWNER_owner b
  if o < 8 then some o
  else if 0x10 ≤ o && o < 0x18 then h.tmbOwner (o - 0x10)
  else if o == 0xFF then some 0
  else none

/-- Ward `w` owns bank `b` itself (R452). -/
def Hub.ownsBank (h : Hub) (w b : Nat) : Bool := decide (b < 48) && h.rd BNK_OWNER_owner b == w

/-- The ward that an owner identity stands for: a ward, or the ward of a tumbler (R455). -/
def Hub.identityWard (h : Hub) (o : Nat) : Option Nat :=
  if o < 8 then some o else if 0x10 ≤ o && o < 0x18 then h.tmbOwner (o - 0x10) else none

/-- A submission or completion ring that the running Blank names lies in the bank (R382). -/
def Hub.holdsRing (h : Hub) (b : Nat) : Bool :=
  (List.range 8).any (fun w =>
    (h.flag OPS_SQ_CFG_en w && h.rd OPS_SQ_CFG_bank w == b) || (h.flag OPS_CQ_CFG_en w && h.rd OPS_CQ_CFG_bank w == b))

/-- An access to the bank judged before a handover is still under way (R455): a running MARCH element, an operation that
waits for the NVM, the clearing after a wake (R469). A command reads a burst to its end and carries an ATOM out whole. -/
def Hub.bankOutstanding (h : Hub) (b : Nat) : Bool :=
  h.tmbs.toList.any (fun t => match t.march with | some m => m.bank == b | none => false) ||
    h.eng.ops.any (fun o => o.phase == .waiting && o.kind == 9 && bitsOf o.w2 24 6 == b) ||
    bitOf h.sup.uncleared (bankDomain b - 4)

/-! ### Handover (R453 to R456, R679) -/

/-- Why a handover is refused (R454), 0 where it is not. An identity that R450 leaves unused is an invalid target. -/
def Hub.handRefused (h : Hub) (w b target : Nat) : Nat :=
  let ward := target < 8
  let tmb := 0x10 ≤ target && target < 0x18
  if ward && h.ward target == .reset then 2
  else if target == h.rd BNK_OWNER_owner b then 3
  else if ward && (!h.defined target || h.ward target == .held) then 3
  else if tmb && h.tmbOwner (target - 0x10) != some w then 3
  else if !ward && !tmb && target != 0xFF then 3
  else if h.holdsRing b then 4
  else 0

/-- A write to BNK_OWNER by the ward with authority (R453, R454). -/
def Hub.writeBnkOwner (h : Hub) (w b v : Nat) : Hub :=
  let key := bitsOf v 24 8
  let target := bitsOf v 16 8
  if key != target ^^^ 0xA5 then h.count BNK_REFUSED_wrong_key
  else
    let r := h.handRefused w b target
    if r != 0 then h.wr BNK_STAT_result r b
    else
      let h := ((h.put BNK_STAT_pending true b).put BNK_STAT_draining true b).wr BNK_OWNER_to target b
      (h.put BNK_OWNER_scrub (bitOf v 8) b).modBank b (fun _ =>
        { hand := some { target := target, scrub := bitOf v 8 || h.flag BNK_CTRL_scrub_force b, giver := w } })

/-- The pending handover of a bank ends, with a result. -/
def Hub.handEnd (h : Hub) (b result : Nat) : Hub :=
  let h := ((h.put BNK_STAT_pending false b).put BNK_STAT_draining false b).put BNK_STAT_clearing false b
  let h := ((h.wr BNK_OWNER_to 0xFF b).put BNK_OWNER_scrub false b).wr BNK_STAT_result result b
  h.modBank b (fun _ => {})

/-- The owner changes (R455, step 4). -/
def Hub.ownerChange (h : Hub) (b : Nat) (x : Handover) : Hub :=
  let h := (h.handEnd b 1).wr BNK_OWNER_owner x.target b
  let h := ((h.put BNK_CTRL_retain false b).put BNK_STAT_handed true b).put BNK_STAT_scrubbed x.scrub b
  let h := (h.count BNK_STAT_handovers 1 b).intEvent x.giver 19
  h.intOwner (h.identityWard x.target) 19

/-- The drain of a bank is complete (R455, step 2). -/
def Hub.drained (h : Hub) (b : Nat) : Hub :=
  match (h.bank b).hand with
  | none => h
  | some x =>
    if x.scrubbing || h.bankOutstanding b then h
    else if x.scrub then
      ((h.put BNK_STAT_draining false b).put BNK_STAT_clearing true b).modBank b
        (fun _ => { hand := some { x with scrubbing := true } })
    else h.ownerChange b x

/-- The scrub of a handover ends (R455, steps 3 and 4); an abandoned one leaves the bank with its giver (R679). -/
def Hub.scrubbed (h : Hub) (b : Nat) : Hub :=
  match (h.bank b).hand with
  | none => h
  | some x =>
    if !x.scrubbing then h
    else
      let h := h.clearBank b
      match x.dropped with
      | none => h.ownerChange b x
      | some r => (h.handEnd b r).intEvent x.giver 19

/-- The pending handover of a bank is abandoned with a result (R446, R467, R469); its scrub runs to its end (R679). -/
def Hub.handDrop (h : Hub) (b result : Nat) : Hub :=
  match (h.bank b).hand with
  | none => h
  | some x =>
    if x.scrubbing then
      (h.wr BNK_STAT_result result b).modBank b (fun _ => { hand := some { x with dropped := some result } })
    else h.handEnd b result

/-- What a ward reset does to pending handovers (R467). -/
def Hub.wardHandovers (h : Hub) (w : Nat) : Hub :=
  forAll (List.range 48) (fun h b =>
    match (h.bank b).hand with
    | none => h
    | some x => if x.target == w then h.handDrop b 2 else if x.giver == w then h.handDrop b 5 else h) h

/-- BNK_OWNER_WRITE (R453): a ward requests a handover. -/
def execBnkOwnerWrite (w : Fin 8) (b : Fin 48) (v : Word) (s : State) : Host.Outcome State Fault Refusal :=
  s.on (fun h =>
    if h.writable w && h.bankAuth b == some w.val && !h.flag BNK_STAT_pending b then h.writeBnkOwner w b v.toNat else h)

/-- DRAIN_COMPLETE (R455): the last outstanding access to a bank ends. -/
def execDrainComplete (b : Fin 48) (s : State) : Host.Outcome State Fault Refusal := s.on (fun h => h.drained b)

/-- HANDOVER_SCRUB_DONE (R455). -/
def execHandoverScrubDone (b : Fin 48) (s : State) : Host.Outcome State Fault Refusal := s.on (fun h => h.scrubbed b)

/-- A W1C write to BNK_STAT by the ward with authority (R456). -/
def Hub.writeBnkStat (h : Hub) (b v : Nat) : Hub := if bitOf v 0 then h.put BNK_STAT_handed false b else h

/-- BNK_HANDED_CLEAR (R456). -/
def execBnkHandedClear (w : Fin 8) (b : Fin 48) (v : Word) (s : State) : Host.Outcome State Fault Refusal :=
  s.on (fun h => if h.writable w && h.bankAuth b == some w.val then h.writeBnkStat b v.toNat else h)

/-- A write to BNK_CTRL by the owning ward (R457). -/
def Hub.writeBnkCtrl (h : Hub) (b v : Nat) : Hub := h.put BNK_CTRL_retain (bitOf v 0) b

/-- RETAIN_WRITE (R457). -/
def execRetainWrite (w : Fin 8) (b : Fin 48) (v : Word) (s : State) : Host.Outcome State Fault Refusal :=
  s.on (fun h => if h.writable w && h.ownsBank w b then h.writeBnkCtrl b v.toNat else h)

/-! ### Errors of the check code (R461) -/

/-- An uncorrectable error found in a word of B00 to B47, or of DP0 or DP1 as banks 48 and 49: counted, recorded, BNK_UE. -/
def Hub.ueFound (h : Hub) (b word : Nat) : Hub :=
  let h := if b < 48 then h.count BNK_ECC_ue 1 b
    else if b == 48 then h.count BNK_DP_ECC_dp0_ue else h.count BNK_DP_ECC_dp1_ue
  let h := ((h.put BNK_ECC_ADDR_valid true).wr BNK_ECC_ADDR_bank b).wr BNK_ECC_ADDR_word word
  h.event 41 (2 ^ h.bankWard b) detailOpen

/-- The byte address of a word of B00 to B47, DP0 or DP1. -/
def memAddr (b word : Nat) : Nat := if b < 48 then bankAddr b word else dpAddr (b - 48) word

/-- The word at a byte address holds an uncorrectable error. -/
def Hub.isBad (h : Hub) (a : Nat) : Bool := h.bad.contains a

/-- A word found to hold an uncorrectable error: it stays so until it is written. -/
def Hub.breakWord (h : Hub) (b word : Nat) : Hub :=
  let a := memAddr b word
  if h.isBad a then h else { h with bad := a :: h.bad }

/-- The bank that a byte address of the bank window or of a DP lies in, and the word offset. -/
def addrBank (a : Nat) : Nat × Nat :=
  if a < 0x1C0000 then ((a - 0x100000) / 0x4000, (a - 0x100000) % 0x4000 / 4)
  else (48 + (a - 0x1C0000) / 0x2000, (a - 0x1C0000) % 0x2000 / 4)

/-- A word of B00 to B47, or of DP0 or DP1 (48 and 49), lies in powered memory. -/
def Hub.wordPowered (h : Hub) (b word : Nat) : Bool :=
  if b < 48 then h.bankPowered b else decide (word < 2048) && bitOf h.sup.on 5 && !bitOf h.sup.uncleared 1

/-- ECC_CORRECTED (R461): a single-bit error is corrected in the word an access reads. -/
def execEccCorrected (b : Fin 50) (word : Fin 4096) (s : State) : Host.Outcome State Fault Refusal :=
  s.on (fun h =>
    if !(h.logicRuns && h.wordPowered b word) then h
    else
      let h := if b.val < 48 then h.count BNK_ECC_ce 1 b
        else if b.val == 48 then h.count BNK_DP_ECC_dp0_ce else h.count BNK_DP_ECC_dp1_ce
      h.event 42 (2 ^ h.bankWard b) detailOpen)

/-! ### Alias windows (R459) -/

/-- A write through an alias window: bits set, or bits cleared, in one access; an uncorrectable word is left unchanged and
its error found (R459, R461). -/
def Hub.aliasWrite (h : Hub) (a v : Nat) (set : Bool) : Hub :=
  if h.isBad a then
    let p := addrBank a
    h.ueFound p.1 p.2
  else
    let old := h.memWord a
    h.setMemWord a (if set then old ||| v else clrMask old v)

/-- A ward's write to a word of a bank is allowed: it owns the bank, and the bank does not make it wait. -/
def Hub.bankWritable (h : Hub) (w b : Nat) : Bool := h.writable w && h.ownsBank w b && h.bankFree b

/-- BIT_SET (R459). -/
def execBitSet (w : Fin 8) (b : Fin 48) (word : Fin 4096) (v : Word) (s : State) : Host.Outcome State Fault Refusal :=
  s.on (fun h => if h.bankWritable w b then h.aliasWrite (bankAddr b word) v.toNat true else h)

/-- BIT_CLEAR (R459). -/
def execBitClear (w : Fin 8) (b : Fin 48) (word : Fin 4096) (v : Word) (s : State) : Host.Outcome State Fault Refusal :=
  s.on (fun h => if h.bankWritable w b then h.aliasWrite (bankAddr b word) v.toNat false else h)

/-! ### The scrubber (R463) -/

/-- The scrubber does not read a bank: its domain is off, or it is being cleared, or a MARCH element runs over it. -/
def Hub.scrubSkips (h : Hub) (b : Nat) : Bool :=
  !h.bankPowered b || (decide (b < 48) && h.flag BNK_STAT_clearing b) ||
    h.tmbs.toList.any (fun t => match t.march with | some m => m.bank == b | none => false)

/-- SCRUB_READ (R463): a scrub unit reads a word. An uncorrectable error is found at each pass that reads the word. `us` is
given with the read that ends a full pass of all groups: how long it took. -/
def execScrubRead (b : Fin 50) (word : Fin 4096) (us : Option (BitVec 16)) (s : State) :
    Host.Outcome State Fault Refusal :=
  s.on (fun h =>
    if !h.logicRuns then h
    else
      let h := if !h.scrubSkips b && h.isBad (memAddr b word) then h.ueFound b word else h
      match us with
      | none => h
      | some t => (h.count BNK_SCRUB_passes).wr BNK_SCRUB_max_us (max (h.rd BNK_SCRUB_max_us) t.toNat))

end Sys2Proof.Machine
end

