-- ==== Sys2Proof/Machine/Digest.lean ====
section
/-!
DEFINITION. The check codes and digests of the spec over lists of bytes: CRC-8 of the Hinge link and of the host ports,
CRC-16/CCITT, CRC-32, SHA-256, HMAC-SHA-256 and the ECDSA P-256 check.
-/

namespace Sys2Proof.Machine

/-- One bit of an unreflected CRC of `w` bits. -/
def crcBit (w poly c : Nat) : Nat := if c.testBit (w - 1) then ((c <<< 1) ^^^ poly) % 2 ^ w else (c <<< 1) % 2 ^ w

/-- `n` bits of an unreflected CRC. -/
def crcBits (w poly : Nat) : Nat → Nat → Nat
  | 0, c => c
  | n + 1, c => crcBits w poly n (crcBit w poly c)

/-- An unreflected CRC of `w` bits over bytes in order. -/
def crcMsb (w poly init : Nat) (bytes : List Nat) : Nat :=
  bytes.foldl (fun c b => crcBits w poly 8 (c ^^^ ((b % 256) <<< (w - 8)))) init

/-- CRC-8 of the Hinge link and Luanen: polynomial 0x07, initial value 0, no final XOR (R129). -/
def crc8 (bytes : List Nat) : Nat := crcMsb 8 0x07 0 bytes

/-- CRC-8 of the host ports: polynomial 0x2F, initial value 0xFF, final XOR 0xFF (R358). -/
def crc8Host (bytes : List Nat) : Nat := crcMsb 8 0x2F 0xFF bytes ^^^ 0xFF

/-- CRC-16/CCITT: polynomial 0x1021, initial value 0xFFFF (R508). -/
def crc16 (bytes : List Nat) : Nat := crcMsb 16 0x1021 0xFFFF bytes

/-- One bit of the reflected CRC-32. -/
def crc32Bit (c : Nat) : Nat := if c.testBit 0 then (c >>> 1) ^^^ 0xEDB88320 else c >>> 1

/-- Eight bits of the reflected CRC-32. -/
def crc32Byte (c b : Nat) : Nat :=
  let c := c ^^^ (b % 256)
  crc32Bit (crc32Bit (crc32Bit (crc32Bit (crc32Bit (crc32Bit (crc32Bit (crc32Bit c)))))))

/-- CRC-32 of IEEE 802.3 (R166). -/
def crc32 (bytes : List Nat) : Nat := bytes.foldl crc32Byte 0xFFFFFFFF ^^^ 0xFFFFFFFF

/-! ### SHA-256 (FIPS 180-4) -/

/-- The `k`-th root of `n`, rounded down: bit `i - 1` and those below it joined to a lower bound `r`. -/
def rootFrom (k n : Nat) : Nat → Nat → Nat
  | 0, r => r
  | i + 1, r => rootFrom k n i (if (r + 2 ^ i) ^ k ≤ n then r + 2 ^ i else r)

/-- The first 32 bits of the fraction of the `k`-th root of `p`. -/
def rootBits (k p : Nat) : Nat := rootFrom k (p * 2 ^ (32 * k)) 37 0 % 2 ^ 32

/-- The primes below 312, of which there are 64; each composite number there has a divisor below 18. -/
def smallPrimes : List Nat :=
  (List.range 312).filter (fun n => 2 ≤ n && (List.range 18).all (fun d => decide (d < 2) || decide (n ≤ d) || n % d != 0))

/-- The round constants of SHA-256: from the cube roots of the first 64 primes. -/
def shaK : List Nat := smallPrimes.map (rootBits 3)

/-- The initial hash value of SHA-256: from the square roots of the first eight primes. -/
def shaInit : List Nat := (smallPrimes.take 8).map (rootBits 2)

/-- A 32-bit word rotated right. -/
def rotr (n x : Nat) : Nat := (x >>> n) ||| ((x <<< (32 - n)) % 2 ^ 32)

/-- The message schedule: words so far with the newest first, extended `n` times. -/
def shaExtend : Nat → List Nat → List Nat
  | 0, w => w
  | n + 1, w =>
    let x := w.getD 1 0
    let y := w.getD 14 0
    let s1 := rotr 17 x ^^^ rotr 19 x ^^^ (x >>> 10)
    let s0 := rotr 7 y ^^^ rotr 18 y ^^^ (y >>> 3)
    shaExtend n ((s1 + w.getD 6 0 + s0 + w.getD 15 0) % 2 ^ 32 :: w)

/-- One round of SHA-256 on the eight working words. -/
def shaRound (v : List Nat) (kw : Nat × Nat) : List Nat :=
  match v with
  | [a, b, c, d, e, f, g, h] =>
    let s1 := rotr 6 e ^^^ rotr 11 e ^^^ rotr 25 e
    let ch := (e &&& f) ^^^ ((0xFFFFFFFF ^^^ e) &&& g)
    let t1 := h + s1 + ch + kw.1 + kw.2
    let s0 := rotr 2 a ^^^ rotr 13 a ^^^ rotr 22 a
    let mj := (a &&& b) ^^^ (a &&& c) ^^^ (b &&& c)
    [(t1 + s0 + mj) % 2 ^ 32, a, b, c, (d + t1) % 2 ^ 32, e, f, g]
  | _ => v

/-- A big-endian number of bytes. -/
def beNat (bytes : List Nat) : Nat := bytes.foldl (fun n b => n * 256 + b % 256) 0

/-- The `n` bytes of a number, most significant first. -/
def beBytes (n v : Nat) : List Nat := (List.range n).map (fun i => bitsOf v (8 * (n - 1 - i)) 8)

/-- One block of 64 bytes folded into the hash value. -/
def shaBlock (hv : List Nat) (block : List Nat) : List Nat :=
  let w := (List.range 16).map (fun i => beNat ((block.drop (4 * i)).take 4))
  let ws := (shaExtend 48 w.reverse).reverse
  let v := (List.zip shaK ws).foldl shaRound hv
  List.zipWith (fun a b => (a + b) % 2 ^ 32) hv v

/-- The blocks of a padded message. -/
def shaBlocks : Nat → List Nat → List Nat → List Nat
  | 0, _, hv => hv
  | n + 1, m, hv => shaBlocks n (m.drop 64) (shaBlock hv (m.take 64))

/-- SHA-256 of a list of bytes, as 32 bytes. -/
def sha256 (m : List Nat) : List Nat :=
  let pad := (119 - m.length % 64) % 64
  let p := m ++ 0x80 :: (List.replicate pad 0 ++ beBytes 8 (8 * m.length))
  (shaBlocks (p.length / 64) p shaInit).flatMap (beBytes 4)

/-- HMAC-SHA-256 with a key of at most 64 bytes. -/
def hmacSha256 (key m : List Nat) : List Nat :=
  let k := key ++ List.replicate (64 - key.length) 0
  sha256 (k.map (· ^^^ 0x5C) ++ sha256 (k.map (· ^^^ 0x36) ++ m))

/-! ### ECDSA over P-256 (FIPS 186-4) -/

/-- The prime of P-256. -/
def p256P : Nat := 2 ^ 256 - 2 ^ 224 + 2 ^ 192 + 2 ^ 96 - 1
/-- The order of the base point. -/
def p256N : Nat := 0xffffffff00000000ffffffffffffffffbce6faada7179e84f3b9cac2fc632551
/-- The coefficient b of the curve. -/
def p256B : Nat := 0x5ac635d8aa3a93e7b3ebbd55769886bc651d06b0cc53b0f63bce3c3e27d2604b
/-- The base point. -/
def p256G : Nat × Nat :=
  (0x6b17d1f2e12c4247f8bce6e563a440f277037d812deb33a0f4a13945d898c296,
   0x4fe342e2fe1a7f9b8ee7eb4a7c0f9e162bce33576b315ececbb6406837bf51f5)

/-- `a` to the power whose bits are read from bit `n - 1` down, modulo `m`. -/
def powMod (m a e : Nat) : Nat → Nat
  | 0 => 1 % m
  | n + 1 =>
    let r := powMod m a (e / 2) n
    let r2 := r * r % m
    if e % 2 = 1 then r2 * a % m else r2

/-- The inverse modulo a prime. -/
def invMod (m a : Nat) : Nat := powMod m (a % m) (m - 2) 256

/-- `a - b` modulo `m`. -/
def subMod (m a b : Nat) : Nat := (a % m + m - b % m) % m

/-- The sum of two points; `none` is the point at infinity. -/
def p256Add (a b : Option (Nat × Nat)) : Option (Nat × Nat) :=
  match a, b with
  | none, q => q
  | p, none => p
  | some (x1, y1), some (x2, y2) =>
    if x1 = x2 && (y1 + y2) % p256P = 0 then none
    else
      let l := if x1 = x2 then (3 * x1 * x1 + p256P - 3) % p256P * invMod p256P (2 * y1) % p256P
        else subMod p256P y2 y1 * invMod p256P (subMod p256P x2 x1) % p256P
      let x3 := subMod p256P (l * l) (x1 + x2)
      some (x3, subMod p256P (l * subMod p256P x1 x3) y1)

/-- A multiple of a point, by the `n` low bits of the factor. -/
def p256Mul (q : Option (Nat × Nat)) (k : Nat) : Nat → Option (Nat × Nat)
  | 0 => none
  | n + 1 =>
    let r := p256Mul (p256Add q q) (k / 2) n
    if k % 2 = 1 then p256Add q r else r

/-- The signature (r, s) over a digest of 32 bytes verifies under the key Qx, Qy (R173, FIPS 186-4). -/
def ecdsaOk (key digest sig : List Nat) : Bool :=
  let qx := beNat (key.take 32)
  let qy := beNat ((key.drop 32).take 32)
  let r := beNat (sig.take 32)
  let s := beNat ((sig.drop 32).take 32)
  let onCurve := qx < p256P && qy < p256P &&
    (qy * qy) % p256P == (qx * qx * qx + (p256P - 3) * qx + p256B) % p256P
  if onCurve && 0 < r && r < p256N && 0 < s && s < p256N then
    let w := invMod p256N s
    let u1 := beNat digest * w % p256N
    let u2 := r * w % p256N
    match p256Add (p256Mul (some p256G) u1 256) (p256Mul (some (qx, qy)) u2 256) with
    | none => false
    | some (x, _) => x % p256N == r
  else false

end Sys2Proof.Machine
end

