-- ==== Sys2Proof/Machine/Shadow.lean ====
section
/-!
DEFINITION. Which register fields lie at an address, what the configuration shadow holds of them, the part of it that the field die is
configured with, and its CRC-32 (R140, R190).
-/

namespace Sys2Proof.Machine

/-- The stored fields of the blocks in a 4 KiB page of the register space. -/
def pageFlds (p : Nat) : List Fld :=
  match p with
  | 0x0 => fldsDEV
  | 0x1 => fldsPWR
  | 0x2 => fldsCLK
  | 0x3 => fldsBLK
  | 0x4 => fldsHNG
  | 0x5 => fldsWRD ++ fldsHPT
  | 0x6 => fldsOPS
  | 0x7 => fldsINT ++ fldsRST
  | 0x8 => fldsOUT
  | 0x9 => fldsOUT
  | 0xA => fldsIN
  | 0xB => fldsIN
  | 0xC => fldsTMB
  | 0xD => fldsTMB
  | 0xE => fldsLSY
  | 0xF => fldsBNK
  | 0x10 => fldsSCH
  | 0x11 => fldsDBT
  | 0x12 => fldsFLT
  | 0x13 => fldsWDG
  | 0x14 => fldsREC
  | 0x15 => fldsLIFE
  | 0x16 => fldsBST
  | _ => []

/-- The instance of a field that lies at a byte address. -/
def Fld.instAt (f : Fld) (a : Nat) : Option Nat :=
  if a < f.base then none
  else if f.stride == 0 then (if a == f.base then some 0 else none)
  else if (a - f.base) % f.stride == 0 && decide ((a - f.base) / f.stride < f.count) then some ((a - f.base) / f.stride)
  else none

/-- The fields at a byte address, each with its instance. -/
def fldsAt (a : Nat) : List (Fld × Nat) := (pageFlds (a / 0x1000)).filterMap (fun f => (f.instAt a).map (fun i => (f, i)))

/-- A field of the shadow: its access is RO and its Blank column reads Yes or Patch; bank owners change at run time. -/
def Fld.shadowed (f : Fld) : Bool := f.acc == .ro && f.blank != .no && f.base != 0xF000

/-- The addresses of a page of the register space that hold shadowed fields, ascending. -/
def shadowPage (p : Nat) : List Nat :=
  ((((pageFlds p).filter Fld.shadowed).flatMap (fun f => (List.range f.count).map (fun i => f.base + f.stride * i))).filter
    (fun a => a / 0x1000 == p)).eraseDups.mergeSort (fun a b => decide (a ≤ b))

/-- Every address that holds shadowed fields, ascending. -/
def shadowAddrs : List Nat := (List.range 0x17).flatMap shadowPage

/-- The shadowed bits of a word of a register file, for a ward's copy where each ward has one. -/
def shadowWord (regs : List (Nat × Nat)) (a w : Nat) : Nat :=
  let h : Hub := { regs := regs }
  ((fldsAt a).filter (fun x => x.1.shadowed)).foldl (fun m x => m + h.rd x.1 x.2 w * 2 ^ x.1.lsb) 0

/-- The words of the shadow at an address: one, or one for each ward. -/
def shadowWords (regs : List (Nat × Nat)) (a : Nat) : List Nat :=
  if (fldsAt a).any (fun x => x.1.shadowed && x.1.perWard) then (List.range 8).map (shadowWord regs a) else [shadowWord regs a 0]

/-- The field die's configuration, as the logic die sends it: OUT_ and IN_ settings and timing sets (R140, R190). -/
def fieldConfig (regs : List (Nat × Nat)) : List (Nat × Nat) :=
  regs.filter (fun e =>
    let a := keyAddr e.1
    (decide (0x8000 ≤ a) && decide (a < 0x9000) && decide (a % 0x100 < 0x18)) ||
    (decide (0xA000 ≤ a) && decide (a < 0xB000) && decide (a % 0x100 < 0x10)) ||
    (decide (0xD000 ≤ a) && decide (a < 0xE000)))

/-- The address belongs to the field part of the shadow: what the field die is configured with (R140, R190). -/
def inFieldPart (a : Nat) : Bool := !(fieldConfig [(a * 256, 1)]).isEmpty

/-- The shadowed bits of a register word changed in a register file. -/
def upsetWord (regs : List (Nat × Nat)) (a v : Nat) : List (Nat × Nat) :=
  (((fldsAt a).filter (fun x => x.1.shadowed)).foldl (fun (h : Hub) x => h.wr x.1 (bitsOf v x.1.lsb x.1.width) x.2) { regs := regs }).regs

/-- The CRC-32 of the shadow, or of its field part (R190). -/
def shadowCrc (regs : List (Nat × Nat)) (field : Bool) : Nat :=
  crc32 ((shadowAddrs.filter (fun a => !field || inFieldPart a)).flatMap (fun a => (shadowWords regs a).flatMap (leBytes 4)))

end Sys2Proof.Machine
end

