-- ==== Sys2Proof/Machine/FieldOps.lean ====
section
/-!
DEFINITION. Operations over the field die that the link and the channels share: its follower's time, the sticky bits of the
channels, stamps and input FIFOs, forcing, and the taking of the field die's status by the logic die.

What the spec leaves open here: DEDUCED, log entries 31, 80, 86, 87; DESIGN CHOICE, log entry 74.
-/

namespace Sys2Proof.Machine

/-! ### The follower's time (R114 to R116) -/

/-- What the trim of FCLK has slewed out of a difference after some ticks: one fine tick in every 8 ticks (log entry 74). -/
def slewed (d : Int) (ticks : Nat) : Int :=
  if d < 0 then -(min d.natAbs (ticks / 8) : Nat) else (min d.natAbs (ticks / 8) : Nat)

/-- The follower now, in fine ticks (R114). -/
def Hub.fieldFine (h : Hub) : Nat :=
  let t := h.clk.now - h.clk.followAt
  (((h.clk.follower + 8 * t : Nat) + slewed h.clk.slew t) % ((2 ^ 67 : Nat) : Int)).toNat

/-- The field die's time in ticks: the follower's value now. -/
def Hub.fieldTime (h : Hub) : Nat := h.fieldFine / 8

/-- A stamp taken now is uncertain (R115, R122, R267). -/
def Hub.stampUncertain (h : Hub) : Bool :=
  !h.clk.locked || !h.hinge.upF || (match h.clk.steppedAt with | some t => decide (h.clk.now < t + 2000) | none => false)

/-! ### Input channels -/

/-- The conditions that force a safety input: wire_break, tp_fail, tp_late and xshort (R260). -/
def forcingBits : Nat := 0x17

/-- Input channel `c` is forced (R260). -/
def Hub.inForced (h : Hub) (c : Nat) : Bool :=
  h.frd IN_CFG_safety c != 0 && (h.inp c).flt &&& forcingBits != 0

/-- The effective state of input channel `c` (R249, R260, R273): frozen in a field LBIST; from the acceptance of the configuration on OFF
until its first debounced state. -/
def Hub.inState (h : Hub) (c : Nat) : Bool :=
  let i := h.inp c
  if i.frozen.isSome && !h.hinge.configured then i.frozen == some true
  else if !i.valid then false
  else if h.inForced c then h.frd IN_CFG_fail_val c != 0 else i.deb



/-- The logic die takes the status of input channel `c`, while the link is up (R275). IN_STAT.window shows the channel's own window (log
entry 87). -/
def Hub.syncIn (h : Hub) (c : Nat) : Hub :=
  if !h.hinge.upL then h
  else
    let i := h.inp c
    let h := ((h.put IN_STAT_state (h.inState c) c).put IN_STAT_raw i.deb c).put IN_STAT_valid i.valid c
    let h := ((h.put IN_STAT_forced (h.inForced c) c).put IN_STAT_cand i.cand.isSome c).put IN_STAT_window i.own.isSome c
    let h := ((h.put IN_STAT_wb_live (bitOf i.live 0) c).put IN_STAT_tp_live (bitOf i.live 1) c).put IN_STAT_uncertain
      h.stampUncertain c
    let h := ((h.put IN_FLT_wire_break (bitOf i.flt 0) c).put IN_FLT_tp_fail (bitOf i.flt 1) c).put IN_FLT_tp_late
      (bitOf i.flt 2) c
    let h := ((h.put IN_FLT_overflow (bitOf i.flt 3) c).put IN_FLT_xshort (bitOf i.flt 4) c).put IN_FLT_discard
      (bitOf i.flt 5) c
    h.wr IN_EDGES_count i.edges c

/-- The report bit of IN_CFG that covers an IN_FLT bit (IN_CFG.report): wire_break, tp_fail, tp_late and xshort, overflow. -/
def reportBit (b : Nat) : Nat := match b with | 0 => 0 | 1 => 1 | 2 => 2 | 3 => 3 | 4 => 2 | _ => 4

/-- The field position of an IN_FLT bit: 12 wire_break, 13 tp_fail, 14 tp_late, 15 xshort, 16 overflow (R545). -/
def inPos (b : Nat) : Nat := match b with | 3 => 16 | 4 => 15 | b => 12 + b

/-- The flag of an input's condition: its sticky bit and, where reported, its field position (R262). `present` says that
the condition lasts. -/
def Hub.inSet (h : Hub) (c b : Nat) (present : Bool := true) : Hub :=
  if h.fHidden (inPos b) c then h
  else
    let h := h.modIn c (fun i => { i with flt := setBit i.flt b, live := if present then setBit i.live b else i.live })
    if b < 5 && bitOf (h.frd IN_CFG_report c) (reportBit b) then h.fieldRise (inPos b) (2 ^ c) 0 else h

/-- An input's condition ends. -/
def Hub.inEnd (h : Hub) (c b : Nat) : Hub :=
  (h.modIn c (fun i => { i with live := clrBit i.live b })).fieldFall (inPos b) (2 ^ c)

/-- Entries lost at the FIFO or at the field die's buffer are counted, and the next one stored takes the gap flag (R252, R266). -/
def Hub.lostEntries (h : Hub) (c n : Nat) : Hub :=
  if n == 0 then h else (h.count IN_FIFO_overflow n c).modIn c (fun i => { i with gapNext := true })

/-- IN_FLT.overflow is set on the logic die, where the FIFO is; where it is reported this raises IN_ANY (R252, R262). -/
def Hub.overflowed (h : Hub) (c : Nat) : Hub :=
  let was := bitOf (h.inp c).flt 3
  let h := (h.modIn c (fun i => { i with flt := setBit i.flt 3 })).put IN_FLT_overflow true c
  if was || !bitOf (h.rd IN_CFG_report c) 3 || h.proofHides 29 c then h else h.occur 29 (h.ownersOf (2 ^ c)) 0

/-- An entry goes into the channel's FIFO on the logic die, at most 32, with interrupt source IN_EDGE (R252, R419). -/
def Hub.fifoStore (h : Hub) (c : Nat) (e : InEntry) : Hub :=
  let i := h.inp c
  if i.fifo.length < 32 then
    let e := { e with gap := e.gap || i.gapNext }
    (h.modIn c (fun i => { i with fifo := i.fifo ++ [e], gapNext := false })).intOwner (h.chOwner c) 17
  else (h.lostEntries c 1).overflowed c

/-- An entry sent across the link; the count of those that the buffer could not hold reaches the logic die with it (R266). -/
def Hub.sendEntry (h : Hub) (c : Nat) (e : InEntry) : Hub :=
  let n := (h.inp c).bufferLost
  ((h.modIn c (fun i => { i with bufferLost := 0 })).lostEntries c n).fifoStore c e

/-- An entry of the field die: sent across while the link is up, else kept in its buffer of 32; what the buffer cannot hold is dropped, an
overflow that the field collector keeps as an event (R252, R266). -/
def Hub.entry (h : Hub) (c : Nat) (e : InEntry) : Hub :=
  if h.hinge.upF && h.hinge.upL && !h.flag HNG_STAT_rejoin then h.sendEntry c e
  else if (h.inp c).buffer.length < 32 then h.modIn c (fun i => { i with buffer := i.buffer ++ [e] })
  else
    let h := h.modIn c (fun i => { i with bufferLost := i.bufferLost + 1, flt := setBit i.flt 3 })
    if bitOf (h.frd IN_CFG_report c) 3 then h.fieldEvent 16 (2 ^ c) 0 else h

/-- The buffered entries sent in order after a rejoin (R266): they were stored before any was lost. -/
def Hub.sendBuffer (h : Hub) (c : Nat) : Hub :=
  let i := h.inp c
  i.buffer.foldl (fun h e => h.fifoStore c e) (h.modIn c (fun i => { i with buffer := [] }))

/-- A change made to an input, with the forced entry that a change of the effective state by forcing writes (R261). -/
def Hub.forcing (h : Hub) (c : Nat) (f : Hub → Hub) : Hub :=
  let was := h.inForced c
  let h1 := f h
  let now := h1.inForced c
  let h2 :=
    if was != now && h.inState c != h1.inState c then
      h1.entry c { stamp := h1.fieldTime % 2 ^ 48, dir := h1.inState c, uncertain := h1.stampUncertain, forced := true }
    else h1
  h2.syncIn c

/-- The comparator's delay of 200 ns, by which a crossing is earlier than the change of the raw output (R247). -/
def comparatorDelay : Nat := 20

/-- The stamp of a crossing that the raw output shows now (R247, R250). -/
def Hub.crossStamp (h : Hub) : Nat := (h.fieldTime + 2 ^ 64 - comparatorDelay) % 2 ^ 48

/-- The field die discards the stamps taken under the old timebase (R116, R268): buffered entries and running candidates. Where the raw
output still differs from the debounced state a candidate starts afresh (R247; log entry 86). -/
def Hub.discardStamps (h : Hub) : Hub :=
  forAll (List.range 16) (fun h c =>
    let i := h.inp c
    if i.buffer.isEmpty && i.cand.isNone then h
    else
      let again := if i.cand.isSome && (!i.valid || i.raw != i.deb) then some (h.crossStamp, h.clk.now) else none
      let h := h.modIn c (fun i => { i with
        buffer := [], cand := again, candUncertain := h.stampUncertain, gapNext := true, flt := setBit i.flt 5 })
      (h.count IN_FIFO_discarded i.buffer.length c).syncIn c) h

/-! ### What a tumbler drives (R202, R277) -/

/-- The channels that take their command from tumbler `t`, lead channels of pairs only (R202). -/
def Hub.tmbChannels (h : Hub) (t : Nat) : List Nat :=
  (List.range 16).filter (fun c => h.isOut c && h.lead c == c && h.rd OUT_CFG_src c == t + 1)

/-- Tumbler `t` can drive a field pin: a channel's command or its test pulses (R277, R291). -/
def Hub.drivesField (h : Hub) (t : Nat) : Bool :=
  !(h.tmbChannels t).isEmpty ||
    (List.range 16).any (fun c => h.isOut c && (h.flag OUT_TP_dark_en c || h.flag OUT_TP_bright_en c) && h.rd OUT_TP_tmb c == t)

/-! ### Output channels -/

/-- The condition of an OUT_FLT bit is present on a channel. -/
def Hub.outLive (h : Hub) (c b : Nat) : Bool := bitOf (vget h.flt.fLive b 0) c

/-- The logic die takes an OUT_STAT frame's four bits of channel `c` and, with them, the rest of OUT_STAT that the field die
reports; a rise of at_safe by field-die action sets safe_hold (R132, R205). -/
def Hub.takeStat (h : Hub) (c bits : Nat) : Hub :=
  let o := h.out c
  let rise := bitOf bits 1 && !h.flag OUT_STAT_at_safe c
  let h := ((h.put OUT_STAT_sw_on (bitOf bits 0) c).put OUT_STAT_at_safe (bitOf bits 1) c).put OUT_STAT_fhold_run
    (bitOf bits 2) c
  let h := ((h.put OUT_STAT_prot (bitOf bits 3) c).put OUT_STAT_limiting o.limiting c).put OUT_STAT_tsd_latched o.tsdLatched c
  let h := ((h.put OUT_STAT_retry_wait o.retryWait c).put OUT_STAT_uv_off o.uvOff c).put OUT_STAT_soft_cut o.softCut c
  if rise && h.isOut c then h.setSafeHold c else h

/-! ### Time messages taken by the follower -/

/-- The follower's lock is lost (R115). CLK_STAT.follow_lock reads 1 only while the follower is locked, so it falls with the lock whether the
link is up or not: 50 µs without a message are the logic die's own silence (log entry 74). -/
def Hub.followUnlock (h : Hub) : Hub :=
  if h.clk.locked then
    (({ h with clk := { h.clk with locked := false, goodRun := 0 } }).put CLK_STAT_follow_lock false).fieldRise 23 0 0
  else { h with clk := { h.clk with goodRun := 0 } }

/-- The follower locks (R115). -/
def Hub.followLock (h : Hub) : Hub :=
  let h := { h with clk := { h.clk with locked := true, tbReset := false } }
  let h := if h.hinge.upL then h.put CLK_STAT_follow_lock true else h
  h.fieldFall 23 0

/-- The follower's value set in fine ticks, with a difference to slew out from now on. -/
def Hub.setFollower (h : Hub) (v : Int) (slew : Int := 0) : Hub :=
  { h with clk := { h.clk with follower := (v % ((2 ^ 67 : Nat) : Int)).toNat, followAt := h.clk.now, slew := slew } }

/-! ### The ledger's totals (R649, R653, R658, R662) -/

/-- A rebase of the field die's accumulators: what the image counted is subtracted, and the serial adopted (R658). -/
def subCount (a b : ChCount) : ChCount :=
  { cycles := a.cycles - b.cycles, edges := a.edges - b.edges, shutdowns := a.shutdowns - b.shutdowns
    onTime := a.onTime - b.onTime, stress := a.stress - b.stress, energy := a.energy - b.energy
    episodes := a.episodes - b.episodes, tcycles := a.tcycles - b.tcycles }

/-- Counters added place by place. -/
def addCount (a b : ChCount) : ChCount :=
  { cycles := a.cycles + b.cycles, edges := a.edges + b.edges, shutdowns := a.shutdowns + b.shutdowns
    onTime := a.onTime + b.onTime, stress := a.stress + b.stress, energy := a.energy + b.energy
    episodes := a.episodes + b.episodes, tcycles := a.tcycles + b.tcycles }

/-- Counters held at their maxima (R649). -/
def ChCount.saturated (c : ChCount) : ChCount :=
  { cycles := min c.cycles (2 ^ 40 - 1), edges := min c.edges (2 ^ 40 - 1), shutdowns := min c.shutdowns 65535
    onTime := min c.onTime (2 ^ 32 - 1), stress := min c.stress (2 ^ 32 - 1), energy := min c.energy (2 ^ 32 - 1)
    episodes := min c.episodes (2 ^ 32 - 1), tcycles := min c.tcycles (2 ^ 32 - 1) }

/-- The deltas since the base image: carried + F. -/
def Hub.deltas (h : Hub) : Vector ChCount 16 := Vector.zipWith addCount h.life.carried h.life.snap

/-- Each channel's total: base image + carried + F (R653). -/
def Hub.totals (h : Hub) : Vector ChCount 16 := (Vector.zipWith addCount h.life.base h.deltas).map ChCount.saturated

/-- The rated budget in stress units (R650). -/
def ratedBudget : Nat := 19054080

/-- The life used in ppm (R662). -/
def Hub.lifeUsed (h : Hub) : Nat :=
  min (2 ^ 32 - 1) ((h.totals.toList.foldl (fun m c => max m c.stress) h.ret.life.dieStress) * 10 ^ 6 / ratedBudget)

/-- LIFE_WEAR judged on the life used: live while it is at or above the warning level (R662). -/
def Hub.judgeWear (h : Hub) : Hub :=
  if h.rd LIFE_CFG_warn_pct * 10000 ≤ h.lifeUsed then h.raise 59 16 1 detailOpen else h.lower 59 16

end Sys2Proof.Machine
end

