-- ==== Sys2Proof/Machine/Clocks.lean ====
section
/-!
DEFINITION. The commands of the clock islands and the timebase (chapter 04).

What the spec leaves open here: DEDUCED, log entries 10, 75; DESIGN CHOICE, log entries 72, 74.
-/

namespace Sys2Proof.Machine

/-! ### The MCLK source (R101 to R104) -/

/-- The PLL has locked: in *Arming* the MCLK root switches to it; in holdover it has relocked on HOSC (R101, R103). After DA has switched the
root to HOSC on MCLK_FAIL a new lock brings it back (R105; log entry 72). -/
def Hub.pllLocks (h : Hub) : Hub :=
  if h.flag CLK_CFG_src && (h.dev.phase == .arming || h.dev.phase == .up) && h.dev.halt.isNone then
    let h := h.put CLK_STAT_pll_lock true
    if h.flag CLK_STAT_holdover then h else h.put CLK_STAT_src_now true
  else h

/-- PLL_LOCK (R101). -/
def execPllLock (s : State) : Host.Outcome State Fault Refusal := s.on Hub.pllLocks

/-- A chain in holdover (R334): a member is no longer aligned and raises LSY_ALIGN; a head sends no more, and its line falls idle. -/
def Hub.lsyHoldover (h : Hub) : Hub :=
  if !h.flag LSY_CFG_en || h.dev.phase != .up then h
  else if h.flag LSY_CFG_head then { h.put LSY_STAT_up_ok false with lsy := { h.lsy with pulseAt := none, outFwd := [] } }
  else if h.flag LSY_STAT_aligned then (h.put LSY_STAT_aligned false).event 36 1 detailOpen
  else h

/-- Entry to holdover on HOSC with REFCLK_LOST (R103); with HOSC failed no holdover is available, and MCLK is left without a
source (R106). -/
def Hub.loseRef (h : Hub) : Hub :=
  let h := ((h.put CLK_STAT_ref_fit false).put CLK_STAT_pll_lock false).count CLK_REF_LOSS_count
  if h.flag CLK_STAT_hosc_ok then ((h.put CLK_STAT_holdover true).raise 6 16 1 detailOpen).lsyHoldover
  else { h with clk := { h.clk with mclkLost := true } }.raise 6 16 1 detailOpen

/-- PLL_LOCK_TIMEOUT (R101): no lock within 200 µs; MCLK stays on HOSC, REFCLK_LOST, holdover. -/
def execPllLockTimeout (s : State) : Host.Outcome State Fault Refusal :=
  s.on (fun h =>
    if h.flag CLK_CFG_src && h.dev.phase == .arming && !h.flag CLK_STAT_src_now && !h.flag CLK_STAT_holdover then h.loseRef
    else h)

/-- REFCLK_LOST (R103): while MCLK runs from the PLL on REFCLK, REFCLK is lost; in holdover it stops being fit. Lost in the window in which DA
has found MCLK out of limits, it is handled as MCLK_FAIL, and counted and raised as well (R123). -/
def execRefclkLost (s : State) : Host.Outcome State Fault Refusal :=
  s.on (fun h =>
    if h.flag CLK_STAT_src_now && !h.flag CLK_STAT_holdover then h.loseRef
    else if h.clk.badWindow && h.flag CLK_STAT_pll_lock && !h.flag CLK_STAT_holdover then
      (((h.put CLK_STAT_ref_fit false).put CLK_STAT_pll_lock false).count CLK_REF_LOSS_count).raise 6 16 1 detailOpen
    else h.put CLK_STAT_ref_fit false)

/-- MCLK returns to REFCLK where that is allowed: automatically, or by a return_ref that waits, which is held until *Run*
(R104, R124). -/
def Hub.refReturn (h : Hub) : Hub :=
  let asked := h.flag CLK_STAT_ret_pending && h.dev.phase == .up
  if h.flag CLK_STAT_holdover && h.flag CLK_STAT_ref_fit && (h.flag CLK_CFG_auto_return || asked) then
    let h := ((h.put CLK_STAT_holdover false).put CLK_STAT_src_now true).put CLK_STAT_pll_lock true
    ((h.put CLK_STAT_ret_pending false).put CLK_CTRL_return_ref false).lower 6 16
  else h

/-- REFCLK_RETURN (R104): REFCLK has stayed within ±4 % for 10 ms. -/
def execRefclkReturn (s : State) : Host.Outcome State Fault Refusal :=
  s.on (fun h => if h.flag CLK_CFG_src then (h.put CLK_STAT_ref_fit true).refReturn else h)

/-- A write of 1 to CLK_CTRL.return_ref: W0's only (R104). In *Boot*, *Arming* and *Recovery* it is held until *Run* (R124); otherwise,
outside holdover, there is nothing to return from. -/
def Hub.writeClkCtrl (h : Hub) (w v : Nat) : Hub :=
  if w == 0 && bitOf v 0 && (h.flag CLK_STAT_holdover || h.dev.phase != .up) then
    ((h.put CLK_STAT_ret_pending true).put CLK_CTRL_return_ref true).refReturn
  else h

/-- The Keeper's write of CLK_CTRL takes effect: as any write of a ward, and in *Boot*, *Arming* and *Recovery* too, where it is held (R124). -/
def Hub.clkWrites (h : Hub) (w : Nat) : Bool :=
  h.writable w || (w == 0 && (h.dev.phase == .boot || h.dev.phase == .arming || h.dev.phase == .recovery) && h.dev.halt.isNone && !h.dev.rstLow)

/-- A return_ref that was held while the hub booted has nothing to return from where no holdover stands (R104, R124). -/
def Hub.refRun (h : Hub) : Hub :=
  if h.flag CLK_STAT_holdover then h.refReturn else (h.put CLK_STAT_ret_pending false).put CLK_CTRL_return_ref false

/-- RETURN_REF (R104): a write of CLK_CTRL by a ward. -/
def execReturnRef (w : Fin 8) (v : Word) (s : State) : Host.Outcome State Fault Refusal :=
  s.on (fun h => if h.clkWrites w then h.writeClkCtrl w v.toNat else h)

/-! ### Deadbolt's clock checks (R105 to R107) -/

/-- A count differs from its nominal value by more than a limit. -/
def offBy (count nominal limit : Nat) : Bool := decide (nominal + limit < count) || decide (count + limit < nominal)

/-- The HOSC measurement while MCLK runs from the PLL (R106). -/
def Hub.judgeHosc (h : Hub) (hosc : Nat) : Hub :=
  if h.flag CLK_STAT_src_now && h.flag CLK_STAT_hosc_ok && offBy hosc 1000 35 then
    (h.put CLK_STAT_hosc_ok false).raise 7 16 1 detailOpen
  else h

/-- A failing MCLK window (R105): MCLK_FAIL; from the PLL the root goes to HOSC; a second failing window, or HOSC failed,
is *Halt* for a clock cause. A proof's force leaves MCLK alone (R520). -/
def Hub.mclkFails (h : Hub) : Hub :=
  if h.proofHides 8 16 then h
  else
    let second := h.clk.badWindow
    let h := h.raise 8 16 1 detailOpen
    let toHosc := h.flag CLK_STAT_src_now && h.flag CLK_STAT_hosc_ok
    let h := { h with clk := { h.clk with badWindow := true } }
    if second || !h.flag CLK_STAT_hosc_ok then h.clockHalt
    else if toHosc then h.put CLK_STAT_src_now false
    else h

/-- MCLK_WINDOW_END (R105, R106): DA judges the count of MCLK cycles, nominal 1,000, and of HOSC cycles, of a window. -/
def execMclkWindowEnd (count hosc : BitVec 16) (s : State) : Host.Outcome State Fault Refusal :=
  s.on (fun h =>
    if h.dev.phase == .off || h.dev.rstLow then h
    else
      let h := (h.wr CLK_MEAS_mclk_err (ofSigned 16 ((count.toNat : Int) - 1000))).judgeHosc hosc.toNat
      if offBy count.toNat 1000 35 then h.mclkFails
      else { h with clk := { h.clk with badWindow := false } }.lower 8 16)

/-- CLOCK_HALT_EXIT (R17): MCLK has been within ±5 % for 10 ms; the hub boots from clock *Halt*. -/
def execClockHaltExit (s : State) : Host.Outcome State Fault Refusal :=
  s.on (fun h => if h.dev.halt == some .clock then h.warmBoot 9 else h)

/-- FCLK_WINDOW_END (R107): DB judges the count of FCLK cycles, nominal 400; a failing window is position 21, on which DB
drives every channel to its safe state. -/
def execFclkWindowEnd (count : BitVec 16) (s : State) : Host.Outcome State Fault Refusal :=
  s.on (fun h =>
    if !h.sup.fieldUp then h
    else
      let h := if h.hinge.upL then h.wr CLK_MEAS_fclk_err (ofSigned 16 ((count.toNat : Int) - 400)) else h
      if offBy count.toNat 400 14 then h.fieldRise 21 0 (count.toNat % 2 ^ 15) else h.fieldFall 21 0)

/-! ### The timebase (R109 to R111) -/

/-- Every ward's wrapped flag set (R111). -/
def Hub.setWrapped (h : Hub) : Hub := forAll (List.range 8) (fun h w => h.put CLK_TB_EPOCH_wrapped true 0 w) h

/-- TIMEBASE_WRAP (R111): the low 48 bits have wrapped, so they read 0. -/
def execTimebaseWrap (s : State) : Host.Outcome State Fault Refusal :=
  s.on (fun h => if h.clk.tb % 2 ^ 48 == 0 then h.setWrapped else h)

/-- The latch of CLK_TB_HI taken by a ward's read of CLK_TB_LO (R110). -/
def Hub.latchTb (h : Hub) (w : Nat) : Hub := h.wr CLK_TB_HI_tb (h.clk.tb / 2 ^ 32) 0 w

/-- CLK_TB_LO_READ (R110). -/
def execClkTbLoRead (w : Fin 8) (s : State) : Host.Outcome State Fault Refusal :=
  s.on (fun h => if h.defined w then h.latchTb w else h)

/-! ### The follower (R114 to R116) -/

/-- The delay that HNG_DELAY_LF holds for a lane, LF0 or LF1. -/
def Hub.lfDelay (h : Hub) (lane : Nat) : Nat :=
  if lane == 0 then h.rd HNG_DELAY_LF_lf0 else h.rd HNG_DELAY_LF_lf1

/-- The follower's difference from a short message that came on a lane, in fine ticks: follower minus the message's value and the lane's
delay, of the two ways round 2^43 the shorter, so that a carry into bit 40 is no difference (R114, R149; sign: log entry 74). -/
def Hub.followDiff (h : Hub) (lane low : Nat) : Int :=
  let d : Nat := (h.fieldFine + 2 * 2 ^ 43 - (8 * low + h.lfDelay lane) % 2 ^ 43) % 2 ^ 43
  if 2 ^ 42 ≤ d then (d : Int) - (2 ^ 43 : Nat) else (d : Int)

/-- A short time message taken by the follower: within ±80 fine ticks, 100 ns, the difference is slewed out; beyond, the follower steps to
the message's value; ±16 fine ticks, 20 ns, count toward lock (R114, R115). -/
def Hub.takeTimeS (h : Hub) (lane low : Nat) : Hub :=
  let diff := h.followDiff lane low
  let h := { h with clk := { h.clk with heardAt := h.clk.now } }
  let h := if h.hinge.upL then (h.wr CLK_FOLLOW_link_delay (h.lfDelay lane)).wr CLK_FOLLOW_err (ofSigned 16 (max (-32768) (min 32767 diff))) else h
  let h := if 80 < diff.natAbs then h.setFollower (h.fieldFine - diff) else h.setFollower h.fieldFine (-diff)
  if 80 < diff.natAbs then h.followUnlock
  else if !h.clk.long then h
  else if diff.natAbs ≤ 16 then
    let h := { h with clk := { h.clk with goodRun := h.clk.goodRun + 1 } }
    if 16 ≤ h.clk.goodRun && !h.clk.locked then h.followLock else h
  else { h with clk := { h.clk with goodRun := 0 } }



/-- TIME_S (R114): the field die takes a short message of timebase bits [39:0] that came on a lane. -/
def execTimeS (lane : Fin 2) (high : Byte) (low : Word) (s : State) : Host.Outcome State Fault Refusal :=
  s.on (fun h =>
    let v := (high ++ low).toNat
    if h.sup.fieldUp && (h.lane lane).inService then (h.landOn lane 0x10 v).takeTimeS lane v else h)

/-- A long time message taken from a lane: bits [63:40] of the follower as it stood at the message's send instant, the lane's delay ago
(R114, R149). Any difference is one beyond ±100 ns: the follower steps and loses its lock. The first since the link was established loads it,
and stamps of a timebase that has since been set to 0 are discarded (R115, R116). -/
def Hub.takeTimeL (h : Hub) (lane high : Nat) : Hub :=
  let was := (h.fieldFine + 2 ^ 67 - h.lfDelay lane) % 2 ^ 67 / 2 ^ 43
  let h := if was == high then h else (h.followUnlock).setFollower (h.fieldFine + ((high : Int) - was) * (2 ^ 43 : Nat)) h.clk.slew
  let h := if !h.clk.long && h.clk.tbReset then h.discardStamps else h
  { h with clk := { h.clk with heardAt := h.clk.now, long := true, goodRun := if h.clk.long then h.clk.goodRun else 0 } }

/-- TIME_L (R114). -/
def execTimeL (lane : Fin 2) (high : BitVec 24) (s : State) : Host.Outcome State Fault Refusal :=
  s.on (fun h =>
    if h.sup.fieldUp && (h.lane lane).inService then (h.landOn lane 0x11 high.toNat).takeTimeL lane high.toNat else h)

/-- FOLLOWER_TIMEOUT (R115): after 50 µs without a valid time message the follower loses lock. -/
def execFollowerTimeout (s : State) : Host.Outcome State Fault Refusal :=
  s.on (fun h => if h.clk.heardAt + 50 * Config.ticksPerUs ≤ h.clk.now then h.followUnlock else h)

end Sys2Proof.Machine
end

