-- ==== Sys2Proof/Machine/Link.lean ====
section
/-!
DEFINITION. Operations over the Hinge link (chapter 05): field die reset, FHOLD, loss and establishment of the link, requests to
the field die, what the logic die takes from FAULT frames, and rejoin.

What the spec leaves open here: DEDUCED, log entries 17, 99.
-/

namespace Sys2Proof.Machine

/-! ### Outcomes that fail later -/

/-- A code becomes a port's pending outcome, with the header of the frame it stands for (R364, R366). -/
def Hub.portFail (h : Hub) (p header code : Nat) : Hub :=
  (((h.modPort p (fun x => { x with outcome := some code })).wr HPT_FAIL_HDR_header header p).wr HPT_FAIL_INFO_code code p).countMod
    HPT_FAIL_INFO_count 1 p

/-- A request that failed: its frame's outcome is 0x07, its operation retires LINK_LOST (R138, R148, R366). -/
def Hub.txnFail (h : Hub) (x : Txn) : Hub :=
  let h := match x.port with | some (p, hdr) => h.portFail p hdr 7 | none => h
  match x.slot with | some s => h.retire s 5 | none => h

/-! ### FHOLD (R139, R152, R218) -/

/-- A channel's field hold time has ended: it goes to its safe state (R139, R218). -/
def Hub.fholdEnd (h : Hub) (c : Nat) : Hub :=
  let first := h.hinge.firstApplied
  let h := h.modOut c (fun o => { o with fholdRun := false, fholdEnded := true, atSafe := first })
  let h := if first then { h with hinge := { h.hinge with
      lossSafe := setBit h.hinge.lossSafe c, lossEnded := setBit h.hinge.lossEnded c } } else h
  let h := (if 8 ≤ c then h.wakeFchb else h).endWindows c
  h.setSwitch c (first && h.fSafeOn c)

/-- The FHOLD timers start, unless they run already (R152); an FHOLD of 0 ends at once. PD_FCHB wakes for its channels (R77). -/
def Hub.fholdStart (h : Hub) : Hub :=
  if h.hinge.fholdSince.isSome then h
  else
    let h := { h with hinge := { h.hinge with fholdSince := some h.clk.now } }
    let h := if h.fOuts.any (fun c => decide (8 ≤ c)) then h.wakeFchb else h
    forAll h.fOuts (fun h c =>
      if h.frd OUT_FHOLD_ms (h.fLead c) == 0 then h.fholdEnd c
      else h.modOut c (fun o => { o with fholdRun := true, fholdEnded := false })) h

/-- The FHOLD timers stop: at rejoin, or at a BOLT decision (R140, R143). PD_FCHB wakes where timers of its channels ran (R77). -/
def Hub.fholdStop (h : Hub) : Hub :=
  let h := if (List.range 8).any (fun i => (h.out (8 + i)).fholdRun) then h.wakeFchb else h
  forAll (List.range 16) (fun h c => h.modOut c (fun o => { o with fholdRun := false }))
    { h with hinge := { h.hinge with fholdSince := none } }

/-! ### Loss of the link (R137 to R139) -/

/-- The in_service bits and link_up of HNG_STAT as the logic die knows them. -/
def Hub.showLanes (h : Hub) : Hub :=
  let m := (List.range 4).foldl (fun m l => if (h.lane l).inService then setBit m l else m) 0
  (h.wr HNG_STAT_in_service m).put HNG_STAT_link_up h.hinge.upL

/-- The stale flags of the registers that report field-die values (R138, R275, R302, R545). -/
def Hub.setStale (h : Hub) (b : Bool) : Hub :=
  forAll (List.range 16) (fun h c =>
    let h := if b && h.isIn c then h.put IN_STAT_uncertain h.stampUncertain c else h
    ((h.put OUT_STAT_stale b c).put IN_STAT_stale b c).put TMB_CMP_STAT_stale b c) (h.put HNG_STAT_stale b)

/-- The instances whose proofs need the field die (R520, R530). -/
def fieldInstance (mech inst : Nat) : Bool :=
  mech == 1 || mech == 3 || mech == 7 || mech == 9 || mech == 13 || mech == 14 || ((mech == 4 || mech == 5 || mech == 6) && inst == 1) ||
    (mech == 10 && inst == 1) || (mech == 12 && inst == 0)

/-- A field LBIST: once every output reports at_safe, the inputs freeze and the groups run (R273, R590). The field die has to be configured
again after them (R680). -/
def Hub.fieldTestGo (h : Hub) : Hub :=
  if h.bst.field && !h.bst.fieldRuns && h.outList.all (fun c => h.flag OUT_STAT_at_safe c) then
    let h := forAll (List.range 16) (fun h c =>
      if h.fIsIn c then
        let now := h.inState c
        h.modIn c (fun i => { i with frozen := some now, cand := none, own := none, foreign := none })
      else h) h
    { h.wr BST_STAT_group 6 with bst := { h.bst with fieldRuns := true }, hinge := { h.hinge with configured := false } }
  else h

/-- The logic die declares the link lost (R137, R138): HINGE_LOST, unless a field die reset under way accounts for it (R433); requests fail;
frames of priority 3 and below are no longer sent (R157); proofs of field-die instances are abandoned (R530). -/
def Hub.loseL (h : Hub) : Hub :=
  if !h.hinge.upL then h
  else
    let gone := h.hinge.out ++ h.hinge.waiting
    let h := { h with sup := { h.sup with heldBits := h.sup.fieldBits, heldOn := h.sup.on / 2 ^ 8 % 16 } }
    let h := { h with hinge := { h.hinge with
      upL := false, out := [], waiting := [], rejoinWaits := false, genFresh := Vector.replicate 2 true, genDue := Vector.replicate 2 none
      txL := h.hinge.txL.filter (fun f => decide (f.prio ≤ 2)) } }
    let h := ((h.setStale true).put FLT_STAT_stale true).put HNG_STAT_rejoin false
    let h := (h.showLanes.count HNG_EVENTS_link_losses).put HNG_STAT_field_cfg_ok false
    let h := gone.foldl Hub.txnFail h
    let h := match h.dbt.proof with
      | some p => if fieldInstance p.mech p.inst then h.abandonProof else h
      | none => h
    let h := if 3 ≤ h.fieldReset then h else h.raise 11 16 1 detailOpen
    let h := if h.bst.field then { h with hinge := { h.hinge with configured := false } }.abortTest else h
    h.intAll 20

/-- The field die declares the link lost (R137, R139, R678): position 29 where it decides CLEAR, pulses ended, FHOLD started. A vector whose
cycle has started stays in force for the edges that remain. -/
def Hub.loseF (h : Hub) : Hub :=
  if !h.hinge.upF then h
  else
    let h := if h.hinge.fieldDecides == .clear then h.fieldRise 29 0 0 else h
    let h := { h with hinge := { h.hinge with upF := false }, clk := { h.clk with long := false, goodRun := 0 } }
    let h := forAll (List.range 16) (fun h c => if (h.out c).pulse.isSome then h.reSwitch c false else h) h
    h.fholdStart

/-! ### The field die's reset (R68, R433) -/

/-- What a field die reset leaves of an input channel: the FIFO on the logic die. -/
def InCh.fieldReset (i : InCh) : InCh := { fifo := i.fifo, gapNext := i.gapNext, old := i.old }

/-- A field die reset: every channel off and high-impedance, its configuration, generations, flags, counters and thermal
model lost; the logic die clears OUT_RT (R51, R132, R231, R545). -/
def Hub.fieldDieReset (h : Hub) : Hub :=
  let h := h.put CLK_STAT_follow_lock false
  let x := h.hinge
  let h := forAll (List.range 16) (fun h c => (h.wr OUT_RT_ilim_rt 0 c).wr OUT_RT_ol_period_rt 0 c) h
  { h with
    outs := Vector.replicate 16 {}
    ins := h.ins.map InCh.fieldReset
    hinge := { x with
      lanes := Vector.replicate 4 {}, upF := false, everF := false, txF := [], applied := Vector.replicate 2 0
      kept := Vector.replicate 16 none, marginF := 0
      firstApplied := false, configured := false, cfg := [], fieldCrc := 0, fieldDecides := .silence, clear10 := false
      latch := false, relHeld := false, dups := [], vecs := Vector.replicate 8 {}, fholdSince := none, lossSafe := 0, lossEnded := 0 }
    dbt := { h.dbt with db := {}, dbForced := false, globalOff := false, clockLost := false, adcPending := 0, adcBad := 0, badSensors := 0 }
    flt := { h.flt with fLive := Vector.replicate 40 0, fieldSticky := 0 }
    life := { h.life with acc := Vector.replicate 16 {}, resid := Vector.replicate 16 {}, fieldSerial := 0 }
    clk := { h.clk with follower := 0, followAt := h.clk.now, slew := 0, locked := false, long := false, goodRun := 0 }
    sch := { h.sch with
      rise1 := Vector.replicate 16 0, rise2 := Vector.replicate 16 0, rise3 := Vector.replicate 4 0
      power := Vector.replicate 16 0, vfPower := Vector.replicate 16 0, iest := Vector.replicate 16 none } }

/-! ### What the logic die takes from the field collector (R545) -/

/-- An occurrence of the source that position `p` means on channels where it was absent, grouped by source; a position tied to no channel
occurs for W0. FOLLOW_LOST is raised in *Run* and *Degraded*, and together with FCLK_FAIL (R115, R125). -/
def Hub.fieldNews (h : Hub) (p chs detail : Nat) : Hub :=
  if chs ≥ 2 ^ 16 || chs == 0 then
    match h.sourceOn p 16 with
    | none => h
    | some n => if n == 10 && !h.runs && !h.fltLive 9 then h else if n == 11 then h.loseL else h.occur n 1 detail
  else
    let srcs := (bitList 16 chs).foldl (fun l c =>
      match h.sourceOn p c with | some n => if l.contains n then l else l ++ [n] | none => l) []
    srcs.foldl (fun h n =>
      let mine := (bitList 16 chs).foldl (fun m c => if h.sourceOn p c == some n then setBit m c else m) 0
      h.occur n (h.ownersOf mine) detail) h

/-- Positions that occur as events: a bolt-line code error, a late vector, the status store (R535, R545). -/
def eventPositions : List Nat := [24, 34, 36]

/-- An under-voltage episode of VF, which the ledger counts as VF_UV's live bit rises (R66, R649). -/
def Hub.countVfuv (h : Hub) : Hub :=
  { h with ret := { h.ret with life := { h.ret.life with vfuv := satInc (2 ^ 32 - 1) h.ret.life.vfuv } } }

/-- A FAULT frame taken (R545): its position, the channels it names, the live flag and the whole low word. -/
def Hub.recvFault (h : Hub) (p chs : Nat) (live : Bool) (detail : Nat) : Hub :=
  let h := { h with flt := { h.flt with fieldSeen := setBit h.flt.fieldSeen p } }
  if eventPositions.contains p then
    let h := if p == 24 then h.count HNG_BOLT_code_errors else h
    match (fieldSources p).head? with
    | none => h
    | some n => h.event n (if n == 32 then 2 ^ ((h.tmbOwner (detail % 8)).getD 0) else 1) detail
  else
    let m := if chs == 0 then 2 ^ 16 else chs
    if live then
      let new := (bitList 17 m).foldl (fun a c =>
        match h.sourceOn p c with
        | some n => if (if c < 16 then bitOf (h.causes n) c else h.causes n != 0) then a else setBit a c
        | none => a) 0
      let h := if p == 17 && vget h.flt.fieldLive p 0 == 0 then h.countVfuv else h
      let h := { h with flt := { h.flt with fieldLive := vset h.flt.fieldLive p (vget h.flt.fieldLive p 0 ||| m) } }
      let h := forAll (bitList 16 chs) Hub.syncOutFlt h
      if new == 0 then h else h.fieldNews p new detail
    else
      { h with flt := { h.flt with fieldLive := vset h.flt.fieldLive p (clrMask (vget h.flt.fieldLive p 0) m) } }

/-! ### Requests (R148) -/

/-- The register file that holds the shadow: in *Arming* the fields as applied, from its end the copy made then (R190, R725). -/
def Hub.shadowRegs (h : Hub) : List (Nat × Nat) := if h.dev.phase == .up then h.armed else h.regs

/-- The field die takes its configuration from the shadow: it is configured from now on, with the CRC-32 of what it holds (R140, R191); its
inputs take a first state afresh, which the logic die sees at once (R249). -/
def Hub.fieldConfigure (h : Hub) : Hub :=
  let cfg := fieldConfig h.shadowRegs
  let h := { h with
    hinge := { h.hinge with configured := true, cfg := cfg, fieldCrc := shadowCrc cfg true }
    ins := h.ins.map (fun i => { i with valid := false, cand := none }) }
  forAll (List.range 16) (fun h c => (h.modOut c (fun o => { o with
    rtIlim := h.rd OUT_RT_ilim_rt c, rtPeriod := h.rd OUT_RT_ol_period_rt c })).syncIn c) h

/-- The field die carries a request out, and the data of its response. -/
def Hub.doReq (h : Hub) (k : ReqKind) : Hub × Nat :=
  match k with
  | .clearSticky p =>
    let still := vget h.flt.fLive p 0
    let h := { h with flt := { h.flt with fieldSticky := putBit h.flt.fieldSticky p (still != 0) } }
    (if still == 0 then h else h.sendF { typ := 0x38, payload := faultPayload p still 0 true, prio := 1 }, 0)
  | .clearOut c bits => (h.modOut c (fun o => { o with flt := clrMask o.flt bits }), 0)
  | .clearIn c bits => (h.forcing c (fun h => h.modIn c (fun i => { i with flt := clrMask i.flt bits })), 0)
  | .trim c ilim period =>
    (h.modOut c (fun o => { o with rtIlim := ilim, rtPeriod := period }), 0)
  | .rearm c => ((h.modOut c (fun o => { o with tsdLatched := false, latched := false })).fieldFall 4 (2 ^ c), 0)
  | .config => (h.fieldConfigure, 0)
  | .snapshot => ({ h with life := { h.life with sent := h.life.acc, sentSerial := h.life.fieldSerial } }, 0)
  | .rebase serial =>
    if h.life.fieldSerial == serial then (h, serial)
    else
      let sub : Vector ChCount 16 := match h.life.rebase.find? (fun r => r.1 == serial) with | some r => r.2 | none => Vector.replicate 16 {}
      ({ h with life := { h.life with acc := Vector.zipWith subCount h.life.acc sub, fieldSerial := serial } }, serial)
  | .testHold => (h.fholdStart, 0)

/-! ### The link is established (R135, R140) -/

/-- At least one lane in each direction is in service. -/
def Hub.bothWays (h : Hub) : Bool :=
  ((h.lane 0).inService || (h.lane 1).inService) && ((h.lane 2).inService || (h.lane 3).inService)

/-- The field values of a field die that has been reset are at their Reset values, as the logic die finds them with the link established
(R276). -/
def Hub.fieldFresh (h : Hub) : Hub :=
  forAll (List.range 16) (fun h c =>
    let h := ((h.wr OUT_MEAS_V_vpin 0 c).wr OUT_MEAS_I_normal 0 c).wr OUT_MEAS_I_fine 0 c
    let h := ((h.put OUT_MEAS_I_fine_sat false c).wr IN_MEAS_vpin 0 c).wr IN_MEAS_i 0 c
    (h.syncIn c).syncOutFlt c) h

/-- The link judged established once a lane in each direction is in service (R135, R137). No vector from before a loss is in force any
longer (R139). -/
def Hub.checkLink (h : Hub) : Hub :=
  let h := h.showLanes
  if h.bothWays && !(h.hinge.upL && h.hinge.upF) then
    let again := h.hinge.everL
    let h := { h with
      hinge := { h.hinge with
        upL := true, upF := true, everL := true, everF := true
        vecs := if h.hinge.upF then h.hinge.vecs else Vector.replicate 8 {} }
      clk := { h.clk with long := false, goodRun := 0 } }
    let h := (h.setStale false).fieldFall 29 0
    let h := if h.hinge.configured then h else h.fieldFresh
    let h := (h.showLanes.put HNG_STAT_rejoin true).lower 11 16
    if again then h.intAll 20 else h
  else h

/-! ### Rejoin (R140, R141, R153, R661, R726) -/

/-- The ledger at a rejoin on the reconfiguration path: F joins the carried counts, and the field die is rebased to the
running serial with nothing subtracted (R661). -/
def Hub.lifeRejoin (h : Hub) : Hub :=
  let l := h.life
  let h := { h with life := { l with
    carried := Vector.zipWith addCount l.carried l.snap, snap := Vector.replicate 16 {}
    mirrorCarried := Vector.zipWith addCount l.mirrorCarried l.mirrorSnap, mirrorSnap := Vector.replicate 16 {}
    rebase := [(h.ret.life.serial, Vector.replicate 16 {})] } }
  h.request (.rebase h.ret.life.serial)

/-- The report at the end of every rejoin: a FAULT frame with live 1 for each position and channel that is live; live bits it
does not confirm are cleared (R545). -/
def Hub.liveReport (h : Hub) : Hub :=
  let h := forAll (List.range 40) (fun h p =>
    let chs := vget h.flt.fLive p 0
    if chs == 0 then h
    else
      let h := h.recvFault p (chs % 2 ^ 16) true (faultPayload p chs 0 true % 2 ^ 32)
      { h with flt := { h.flt with fieldLive := vset h.flt.fieldLive p chs } }) h
  let h := { h with flt := { h.flt with fieldLive := h.flt.fLive } }
  h.put FLT_STAT_stale false

/-- The end of a rejoin: the Note record, the field die's flags and entries, OUT_CMD with the safe states to a field die configured anew,
which took none before, and, after a field die reset, its history entry and record (R140, R266, R433). -/
def Hub.rejoinEnd (h : Hub) (reconfig : Bool) : Hub :=
  let h := h.note 0x22 0x44 sevNote 4 [h.hinge.lossSafe + b2n reconfig * 2 ^ 16]
  let h := { h with
    hinge := { h.hinge with lossSafe := 0, lossEnded := 0 }
    dbt := { h.dbt with da := { h.dbt.da with any := false }, db := { h.dbt.db with any := false } } }
  let h := h.put HNG_STAT_rejoin false
  let h := h.liveReport
  let h := if reconfig then (h.newGen 0 true).newGen 1 true else h
  let h := forAll (List.range 16) (fun h c => ((h.sendBuffer c).syncIn c).syncOutFlt c) h
  if h.fieldReset != 0 then
    let h := { h.put RST_FIELD_STAT_busy false with fieldReset := 0 }
    let h := h.history 0x0A 0
    h.note 0x23 0x4C sevNote 4 [h.image [RST_FIELD_STAT_count, RST_FIELD_STAT_timeout, RST_FIELD_STAT_busy]]
  else h

/-- The commanded states adopt what the field die reports, the FHOLD timers stop and OUT_CMD resumes; no channel switches (R140, R586).
Field-pin bits of held patterns adopt the states too (R294). -/
def Hub.adoptStates (h : Hub) : Hub :=
  let h := forAll h.outList (fun h c =>
    let on := (h.out c).latched
    let src := h.rd OUT_CFG_src (h.lead c)
    let h := if src == 0 then h.put OUT_CTRL_on on (h.lead c) else
      h.wr TMB_PATTERN_pins (putBit (h.rd TMB_PATTERN_pins (src - 1)) c on) (src - 1)
    let code := if src == 0 then b2n on else b2n (h.flag OUT_CTRL_on (h.lead c))
    { h with hinge := { h.hinge with cmd := vset h.hinge.cmd c (if bitOf h.hinge.lossSafe c || (h.out c).atSafe then 2 else code) } }) h
  let h := forAll (bitList 16 h.hinge.lossSafe) (fun h c => if h.isOut c then h.setSafeHold c else h) h
  let h := h.fholdStop
  (h.newGen 0 false).newGen 1 false

/-- The matching path (R140): the states are adopted. Trims that differ go out first (R231). -/
def Hub.rejoinMatch (h : Hub) : Hub :=
  let h := forAll (List.range 16) (fun h c =>
    let o := h.out c
    if o.rtIlim == h.rd OUT_RT_ilim_rt c && o.rtPeriod == h.rd OUT_RT_ol_period_rt c then h
    else h.request (.trim c (h.rd OUT_RT_ilim_rt c) (h.rd OUT_RT_ol_period_rt c))) h
  h.adoptStates.rejoinEnd false

/-- The FHOLD timers stop and every output is driven to its safe state, which becomes its commanded state (R140). -/
def Hub.toSafeStates (h : Hub) : Hub :=
  let h := h.fholdStop.sendSafe h.outList
  forAll h.outList (fun h c => h.put OUT_CTRL_on (h.safeOn c) (h.lead c)) h

/-- A candidate that needs the field die (R494): a channel's, a start or heavy vector of a tumbler that drives it, an operation on channels. -/
def Hub.fieldCand (h : Hub) (x : Cand) : Bool :=
  match x.kind with
  | .tmbStart => h.drivesField x.ref
  | .heavyVec => h.drivesField x.ref
  | .operation => x.chs != 0
  | .domainWake => false
  | .nvmPage => false
  | .nvmErase => false
  | .bist => false
  | _ => true

/-- The queued field candidates and the shed states are cancelled (R494): a tumbler whose start waited stops, and an operation retires with the
link-lost code (log entry 99). -/
def Hub.cancelField (h : Hub) : Hub :=
  let gone := h.sch.queue.filter h.fieldCand
  let h := gone.foldl (fun h x =>
    match x.kind with
    | .tmbStart => h.tmbStop x.ref 7 false
    | .heavyVec => h.modTmb x.ref (fun t => { t with heavyAsked := false })
    | .operation => h.retire x.ref 5
    | .litCheck => h
    | _ => (h.modOut x.ref (fun o => { o with wait := none })).put OUT_STAT_pending false x.ref) (h.dropCand (fun x => gone.contains x))
  forAll (List.range 16) (fun h c => h.put OUT_STAT_shed false c) (h.wr SCH_SHED_ch 0)

/-- The reconfiguration path: every channel driven to its safe state with safe_hold, then the whole configuration by REQ; its
response ends the rejoin (R140). -/
def Hub.rejoinReconfig (h : Hub) : Hub := (h.cancelField.toSafeStates.request .config).lifeRejoin

/-- A field die that a field LBIST had left unconfigured has been configured again in *Arming* (R680): every output stays at its safe state
with safe_hold, as at the end of the reconfiguration path. -/
def Hub.rejoinAfterTest (h : Hub) : Hub := (h.toSafeStates.lifeRejoin).rejoinEnd true

/-- The field die is started with the configuration in *Arming*, or waits for it in *Boot* (R178, R726). -/
def Hub.fieldStart (h : Hub) : Hub :=
  let h := h.put HNG_STAT_rejoin false
  if h.dev.phase == .arming && h.hinge.upL && !h.hinge.configured && h.sup.vfValid && !h.dev.ftestHeld && !h.hinge.out.any (fun x => x.what == .config) then
    h.request .config
  else h

/-- Rejoin, once the link is established: in *Boot* and *Arming* it waits, or the field die is started (R140, R141, R726). The field die
accepts a configuration only while VF is valid and FTEST was low at its reset (R50, R67). -/
def Hub.rejoin (h : Hub) : Hub :=
  if !h.hinge.upL then h
  else if h.dev.phase == .boot || h.dev.phase == .arming then
    if !h.hinge.configured then h.fieldStart
    else if h.flag HNG_STAT_rejoin then { h with hinge := { h.hinge with rejoinWaits := true } }
    else h
  else if h.dev.phase != .up || !h.flag HNG_STAT_rejoin then h
  else if h.hinge.configured && h.hinge.fieldCrc == h.rd BLK_SHADOW_FCRC_crc then h.rejoinMatch
  else if h.sup.vfValid && !h.dev.ftestHeld then h.rejoinReconfig
  else h

end Sys2Proof.Machine
end

