-- ==== Sys2Proof/Machine/Hinge.lean ====
section
/-!
DEFINITION. The commands of the Hinge link and the bolt lines (chapter 05).

What the spec leaves open here: DEDUCED, log entries 11, 14, 15, 17, 77, 78; DESIGN CHOICE, log entry 73.
-/

namespace Sys2Proof.Machine

/-! ### Lanes (R130, R135, R136) -/

/-- A frame goes out on a lane under the lane's next number (R130). -/
def Hub.transmit (h : Hub) (lane : Nat) (f : HFrame) : Hub :=
  h.modLane lane (fun x => { x with
    sendSeq := (x.sendSeq + 1) % 16, sinceIdle := if f.typ == 0xBC then 0 else x.sinceIdle + 1
    wire := (x.wire ++ [{ f with seq := x.sendSeq, by_ := none }]).drop (x.wire.length - 15) })

/-- The types that are sent once on each lane of a direction (R133). -/
def sentTwice (typ : Nat) : Bool := typ == 0x20 || typ == 0x21 || typ == 0x38 || (decide (0x80 ≤ typ) && decide (typ < 0x88))

/-- Both lanes of a lane's direction are in service. -/
def Hub.bothLanes (h : Hub) (lane : Nat) : Bool := (h.lane (lane / 2 * 2)).inService && (h.lane (lane / 2 * 2 + 1)).inService

/-- A lane's transmitter sends frames: its die runs, and the lane is in service or waits to return to it. -/
def Hub.laneSends (h : Hub) (lane : Nat) : Bool :=
  (if lane < 2 then h.logicRuns && !h.clk.mclkLost else h.sup.fieldUp) && ((h.lane lane).inService || (h.lane lane).waiting)

/-- The other lane of a lane's direction. -/
def laneMate (lane : Nat) : Nat := if lane % 2 == 0 then lane + 1 else lane - 1

/-- An IDLE frame goes out on a lane: the sender's die state, open for the field die, in [39:32]. With the link lost the logic die sends none
(R157), but on a lane that needs 256 frames to return to service (R136; log entry 77). -/
def Hub.idleFrame (h : Hub) (lane : Nat) : Hub :=
  if !h.laneSends lane || (decide (lane < 2) && h.hinge.everL && !h.hinge.upL && !(h.lane lane).waiting) then h
  else if lane < 2 then h.transmit lane { typ := 0xBC, payload := h.state.code * 2 ^ 32, prio := 6 }
  else
    let p := h.freeNat 8
    p.2.transmit lane { typ := 0xBC, payload := p.1 * 2 ^ 32, prio := 6 }

/-- IDLE_FRAME (R130): a lane has had no other frame for 2 µs. -/
def execIdleFrame (lane : Fin 4) (s : State) : Host.Outcome State Fault Refusal := s.on (fun h => h.idleFrame lane)

/-- The delay register of a lane (R135). -/
def laneDelay (lane : Nat) : Fld :=
  match lane with
  | 0 => HNG_DELAY_LF_lf0 | 1 => HNG_DELAY_LF_lf1 | 2 => HNG_DELAY_FL_fl0 | _ => HNG_DELAY_FL_fl1

/-- Some lane is in training. -/
def Hub.anyTraining (h : Hub) : Bool := (List.range 4).any (fun l => (h.lane l).training)

/-- A lane has trained (R135): it enters service at once after a die's reset; a lane that had been declared down waits for
256 good frames (R136). -/
def Hub.laneTrained (h : Hub) (lane delay : Nat) : Hub :=
  let x := h.lane lane
  if !h.logicRuns || !h.sup.fieldUp || x.inService || x.waiting then h
  else
    let h := h.wr (laneDelay lane) delay
    let h := h.modLane lane (fun x => { x with
      training := false, inService := !x.down, waiting := x.down, goodRun := 0, window := 0, synced := false, lowRun := 0 })
    let h := if h.anyTraining then h else h.put HNG_CTRL_retrain false
    h.checkLink

/-- LANE_TRAINING (R135): a lane's training ends, with its delay measured by echo in fine ticks. -/
def execLaneTraining (lane : Fin 4) (delay : BitVec 16) (s : State) : Host.Outcome State Fault Refusal :=
  s.on (fun h => h.laneTrained lane delay.toNat)

/-- A lane is declared down by its receiver: LANE_DOWN, counted; with both lanes of a direction down the die it leads to
declares the link lost (R136, R137). The field die reports its lanes only where it decides CLEAR. -/
def Hub.laneDown (h : Hub) (lane : Nat) : Hub :=
  let h := h.modLane lane (fun x => { x with inService := false, waiting := false, down := true, training := false, goodRun := 0 })
  let h := if h.logicRuns then h.count HNG_EVENTS_lane_downs else h
  let h :=
    if lane < 2 then (if h.hinge.fieldDecides == .clear then h.fieldRise (25 + lane) 0 0 else h)
    else h.raise 12 (18 + lane) 1 detailOpen
  let h := h.showLanes
  let h := if !(h.lane 0).inService && !(h.lane 1).inService && h.hinge.everF then h.loseF else h
  if !(h.lane 2).inService && !(h.lane 3).inService && h.hinge.everL then h.loseL else h

/-- LANE_DOWN (R136): a lane has 8 errors in 64 frames or 50 µs without a valid frame. -/
def execLaneDown (lane : Fin 4) (s : State) : Host.Outcome State Fault Refusal :=
  s.on (fun h => if (h.lane lane).inService || (h.lane lane).waiting then h.laneDown lane else h)

/-- LANE_NOT_IN_SERVICE (R135): a lane is not in service 1 ms after the other lane of its direction entered service. -/
def execLaneNotInService (lane : Fin 4) (s : State) : Host.Outcome State Fault Refusal :=
  s.on (fun h =>
    if !(h.lane lane).inService && !(h.lane lane).down && (h.lane (laneMate lane)).inService then h.laneDown lane else h)

/-- Training of every down lane begins (R135, R158). -/
def Hub.retryLanes (h : Hub) : Hub :=
  forAll ((List.range 4).filter (fun l => (h.lane l).down && !(h.lane l).inService && !(h.lane l).waiting))
    (fun h l => h.modLane l (fun x => { x with training := true })) h

/-- LANE_RETRY (R135): every 10 ms; HNG_CTRL.retrain is kept while a lane that it asked for still trains (R158). -/
def execLaneRetry (s : State) : Host.Outcome State Fault Refusal :=
  s.on (fun h => (if h.anyTraining then h else h.put HNG_CTRL_retrain false).retryLanes)

/-- W0's write to HNG_CTRL (R158): 1 in `retrain` retrains every down lane now. -/
def Hub.writeHngCtrl (h : Hub) (w v : Nat) : Hub :=
  if w == 0 && bitOf v 0 then
    let h := h.retryLanes
    h.put HNG_CTRL_retrain h.anyTraining
  else h

/-- RETRAIN (R158): a ward writes HNG_CTRL. -/
def execRetrain (w : Fin 8) (v : Word) (s : State) : Host.Outcome State Fault Refusal :=
  s.on (fun h => if h.writable w then h.writeHngCtrl w v.toNat else h)

/-! ### Loss and rejoin -/

/-- HINGE_LOST (R137): a die declares the link lost; `field` says which. The logic die also treats it as lost where the field
die reports the loss. -/
def execHingeLost (field : Bool) (s : State) : Host.Outcome State Fault Refusal :=
  s.on (fun h => if field then h.loseF else h.loseL)

/-- REJOIN (R140). -/
def execRejoin (s : State) : Host.Outcome State Fault Refusal := s.on Hub.rejoin

/-- FIELD_START (R726): an unconfigured field die met in *Boot* or *Arming*. -/
def execFieldStart (s : State) : Host.Outcome State Fault Refusal :=
  s.on (fun h =>
    if h.hinge.upL && !h.hinge.configured && (h.dev.phase == .boot || h.dev.phase == .arming) then h.fieldStart else h)

/-! ### OUT_CMD and OUT_STAT (R132) -/

/-- The state that a tumbler-sourced or register channel has on the field die while its gate is on (R202): with no vector of the tumbler in
force it keeps the one it has, as after a rejoin (R140). -/
def Hub.fieldPin (h : Hub) (c : Nat) : Bool :=
  let src := h.frd OUT_CFG_src (h.fLead c)
  let v := vget h.hinge.vecs (src - 1) {}
  if src == 0 then true else if v.live then bitOf v.pins (h.fLead c) else (h.out c).latched

/-- The field die applies no command that would move a channel off its safe state: the bolt latch, DB's drive and the
clock-loss monitor (R143, R507, R515). -/
def Hub.fieldBlocked (h : Hub) : Bool := h.hinge.latch || h.dbt.dbForced || h.dbt.clockLost

/-- A channel's latch set to a commanded state; a repeated state disturbs no check and no pulse. -/
def Hub.drive (h : Hub) (c : Nat) (want : Bool) : Hub :=
  if (h.out c).latched == want then h else h.setSwitch c want

/-- An admitted return of channel `c` from a shutdown or a low supply reaches the field die (R212, R215). -/
def Hub.goReturn (h : Hub) (c : Nat) : Hub :=
  let h := h.modOut c (fun o => { o with
    go := false, retryWait := false, retryDone := false, uvOff := false })
  ((h.outFall c 4).outFall c 11).reSwitch c

/-- A command of off ends a retry, a latched shutdown and a supply-mode turn-off (R212, R215). -/
def Hub.commandOff (h : Hub) (c : Nat) : Hub :=
  let h := h.modOut c (fun o => { o with
    tsdLatched := false, retryWait := false, retryDone := false, uvOff := false, go := false })
  (h.outFall c 4).outFall c 11

/-- One command of an OUT_CMD frame applied (R132, R143). -/
def Hub.applyCmd (h : Hub) (c code : Nat) : Hub :=
  if !h.fIsOut c || !h.hinge.configured || 3 ≤ code then h
  else if code == 2 then
    let h := h.modOut c (fun o => { o with atSafe := true })
    (if h.fSafeOn c && (h.out c).go then h.goReturn c else h).drive c (h.fSafeOn c)
  else
    let on := code == 1
    let want := on && h.fieldPin c
    if h.fieldBlocked && want != h.fSafeOn c then h
    else
      let h := h.modOut c (fun o => { o with gate := on, atSafe := false })
      let h := if !on then h.commandOff c else if (h.out c).go then h.goReturn c else h
      h.drive c want

/-- An OUT_CMD frame taken by the field die: only a newer generation, 1 to 127 steps ahead, is applied (R132); the first one
applied with the bolt latch clear ends the hold of R726. -/
def Hub.recvOutCmd (h : Hub) (g gen cmds : Nat) : Hub :=
  let d := (gen + 256 - vget h.hinge.applied g 0) % 256
  if !h.sup.fieldUp || d == 0 || 128 ≤ d then h
  else
    let h := { h with hinge := { h.hinge with applied := vset h.hinge.applied g gen } }
    if !h.hinge.configured || (!h.hinge.firstApplied && h.fieldBlocked) then h
    else
      let h := { h with hinge := { h.hinge with firstApplied := true } }
      forAll (List.range 8) (fun h i =>
        let c := 8 * g + i
        let h := if h.fIsOut c then h.modOut c (fun o => { o with hiz := false }) else h
        h.applyCmd c (bitsOf cmds (4 * i) 4)) h

/-- OUT_CMD (R132). -/
def execOutCmd (g : Fin 2) (gen : BitVec 8) (cmds : Word) (s : State) : Host.Outcome State Fault Refusal :=
  s.on (fun h => (h.land true (0x20 + g) (gen.toNat * 2 ^ 32 + cmds.toNat)).recvOutCmd g gen.toNat cmds.toNat)

/-- OUT_CMD_REPEAT (R132): every 100 µs the latest generation of each group is sent again. -/
def execOutCmdRepeat (s : State) : Host.Outcome State Fault Refusal :=
  s.on (fun h => forAll [0, 1] (fun h g =>
    if vget h.hinge.genFresh g true then h
    else h.sendL { typ := 0x20 + g, payload := vget h.hinge.gen g 0 * 2 ^ 32 + h.groupCmds g, prio := 4 }) h)

/-- The generation that an OUT_STAT frame reports is the one to go on from, where the next OUT_CMD waited for it; that one follows (R132). -/
def Hub.takeGen (h : Hub) (g gen : Nat) : Hub :=
  if !vget h.hinge.genFresh g false then h
  else
    let due := vget h.hinge.genDue g none
    let h := { h with hinge := { h.hinge with
      gen := vset h.hinge.gen g gen, genFresh := vset h.hinge.genFresh g false, genDue := vset h.hinge.genDue g none } }
    match due with | some urgent => h.newGen g urgent | none => h

/-- The first OUT_CMD generation after *Arming*: once BOLT_REL has been sent and the bolt latch reads clear (R144, R726). -/
def Hub.firstGen (h : Hub) : Hub :=
  if h.hinge.initDue && !h.hinge.relDue && (!h.dev.safe || h.dev.exitStep == 2) && !h.flag HNG_BOLT_field_latched then
    ({ h with hinge := { h.hinge with initDue := false } }.newGen 0 false).newGen 1 false
  else h

/-- An OUT_STAT frame taken by the logic die: the generation applied and the states of eight channels; the bolt latch is taken with it (R132,
R144; log entry 73). With the link lost the registers keep their last values (R138). -/
def Hub.recvOutStat (h : Hub) (g gen states : Nat) : Hub :=
  if !h.logicRuns || !h.hinge.upL then h
  else
    let h := { h with hinge := { h.hinge with statGen := vset h.hinge.statGen g gen } }
    let h := ((h.put HNG_BOLT_field_latched h.hinge.latch).takeGen g gen).firstGen
    (forAll (List.range 8) (fun h i => h.takeStat (8 * g + i) (bitsOf states (4 * i) 4)) h).fieldTestGo

/-- OUT_STAT (R132). -/
def execOutStat (g : Fin 2) (gen : BitVec 8) (states : Word) (s : State) : Host.Outcome State Fault Refusal :=
  s.on (fun h => (h.land false (0x28 + g) (gen.toNat * 2 ^ 32 + states.toNat)).recvOutStat g gen.toNat states.toNat)

/-! ### FSUM and FAULT (R545) -/

/-- The channels on which the detail registers show position `p`'s bit. -/
def Hub.detailChs (h : Hub) (p : Nat) : Nat :=
  (List.range 16).foldl (fun m c =>
    let on := if p < 12 then bitOf (h.out c).flt p
      else if p ≤ 14 then bitOf (h.inp c).flt (p - 12)
      else if p == 15 then bitOf (h.inp c).flt 4
      else if p == 16 then bitOf (h.inp c).flt 3 else false
    if on then setBit m c else m) 0

/-- An FSUM frame taken: a sticky flag with no status set and no FAULT frame seen counts as an occurrence with detail 0, on
the channels whose detail bit is set (R545). With the link lost the register keeps its last value (R138). -/
def Hub.recvFsum (h : Hub) (sticky : Nat) : Hub :=
  if !h.logicRuns || !h.hinge.upL then h else
  let h := (h.wr FLT_FSUM_sticky sticky 0).wr FLT_FSUM_sticky (sticky / 2 ^ 32) 1
  let h := forAll (bitList 37 sticky) (fun h p =>
    if (fieldSources p).any h.fltSet || bitOf h.flt.fieldSeen p then h
    else
      let h := forAll (List.range 16) (fun h c => if p < 12 then h.syncOutFlt c else if p ≤ 16 then h.syncIn c else h) h
      let chs := h.detailChs p
      if chs == 0 then (match (fieldSources p).head? with
        | some n => if n == 11 then h else h.occur n 1 0
        | none => h)
      else h.fieldNews p chs 0) h
  { h with flt := { h.flt with fieldSeen := 0 } }

/-- FSUM (R545): the sticky state of the 40 field positions. -/
def execFsum (sticky : BitVec 40) (s : State) : Host.Outcome State Fault Refusal :=
  s.on (fun h => (h.land false 0x39 sticky.toNat).recvFsum sticky.toNat)

/-- FAULT (R545): a FAULT frame with its position, channels, live flag and block detail. -/
def execFault (p : Fin 40) (chs : BitVec 16) (live : Bool) (detail : BitVec 15) (s : State) :
    Host.Outcome State Fault Refusal :=
  s.on (fun h =>
    let pl := faultPayload p chs.toNat detail.toNat live
    let h := h.land false 0x38 pl
    if h.logicRuns then h.recvFault p chs.toNat live (pl % 2 ^ 32) else h)

/-! ### Transactions (R148) -/

/-- The outstanding request with a tag. -/
def Hub.txnOf (h : Hub) (tag : Nat) : Option Txn := h.hinge.out.find? (fun x => x.tag == tag)

/-- The response data that the field die keeps for a request: of the last 16 tags it keeps the outcome (R148). -/
def Hub.keptOf (h : Hub) (x : Txn) : Option Nat :=
  match vget h.hinge.kept x.tag none with
  | some (n, d) => if n == x.num then some d else none
  | none => none

/-- The field die can take a request: a configuration only with VF valid and FTEST low at its reset (R50, R67). -/
def Hub.takesReq (h : Hub) (k : ReqKind) : Bool := k != .config || (h.sup.vfValid && !h.dev.ftestHeld)

/-- A REQ frame taken by the field die: carried out once, answered from its record when it comes again (R148). -/
def Hub.recvReq (h : Hub) (tag : Nat) : Hub :=
  match h.txnOf tag with
  | none => h
  | some x =>
    if !h.sup.fieldUp then h
    else
      match h.keptOf x with
      | some d => h.sendF { typ := 0x50 + tag, payload := d, prio := 5 }
      | none =>
        if !h.takesReq x.what then h
        else
          let r := h.doReq x.what
          ({ r.1 with hinge := { r.1.hinge with kept := vset r.1.hinge.kept tag (some (x.num, r.2)) } }).sendF
            { typ := 0x50 + tag, payload := r.2, prio := 5 }

/-- REQ (R148). -/
def execReq (tag : Fin 16) (s : State) : Host.Outcome State Fault Refusal :=
  s.on (fun h => (h.land true (0x40 + tag) 0).recvReq tag)

/-- A waiting request takes a place that has become free: the first of the ward whose turn it is (R134). -/
def Hub.nextReq (h : Hub) : Hub :=
  if h.hinge.waiting.isEmpty || 8 ≤ h.hinge.out.length then h
  else
    let r := h.reqRobin (fun w => h.hinge.waiting.any (fun x => x.ward == w))
    match h.hinge.waiting.find? (fun x => x.ward == r.1) with
    | none => h
    | some x => { h with hinge := { h.hinge with
        waiting := h.hinge.waiting.eraseP (fun y => y.ward == r.1), reqTurn := r.2.1, reqLeft := r.2.2 } }.sendReq x

/-- What the logic die does with the response to a request. -/
def Hub.takeRsp (h : Hub) (k : ReqKind) : Hub :=
  match k with
  | .clearOut c _ => h.syncOutFlt c
  | .clearIn c _ => h.syncIn c
  | .config => if h.flag HNG_STAT_rejoin && h.dev.phase == .up then h.rejoinEnd true else h
  | .snapshot =>
    let l := h.life
    let due := match l.rebase.findIdx? (fun r => r.1 == l.sentSerial) with | some i => l.rebase.drop (i + 1) | none => l.rebase
    { h with life := { l with snap := due.foldl (fun f (r : Nat × Vector ChCount 16) => Vector.zipWith subCount f r.2) l.sent } }.judgeWear
  | .rebase n => { h with life := { h.life with rebase := h.life.rebase.filter (fun r => r.1 != n) } }
  | _ => h

/-- An RSP frame taken by the logic die. -/
def Hub.recvRsp (h : Hub) (tag : Nat) : Hub :=
  match h.txnOf tag with
  | none => h
  | some x =>
    match h.keptOf x with
    | none => h
    | some _ =>
      if !h.hinge.upL then h
      else
        let h := { h with hinge := { h.hinge with out := h.hinge.out.filter (fun y => y.tag != tag) } }
        let h := h.nextReq.takeRsp x.what
        match x.slot with | some s => h.retire s 0 | none => h

/-- The data of the response that a tag's outstanding request has been given. -/
def Hub.rspData (h : Hub) (tag : Nat) : Nat := ((h.txnOf tag).bind h.keptOf).getD 0

/-- RSP (R148). -/
def execRsp (tag : Fin 16) (s : State) : Host.Outcome State Fault Refusal :=
  s.on (fun h => (h.land false (0x50 + tag) (h.rspData tag)).recvRsp tag)

/-- REQ_RETRY (R148): no RSP within 4 µs; the REQ is sent again, or fails with HINGE_TXN when the retries run out. A configuration that
fails so leaves the rejoin open; the next REJOIN sends it again (log entry 78). -/
def Hub.reqRetry (h : Hub) (tag : Nat) : Hub :=
  match h.txnOf tag with
  | none => h
  | some x =>
    if !h.hinge.upL then h
    else if x.tries < h.rd HNG_CFG_txn_retries then
      let h := h.count HNG_TXN_retries
      { h with hinge := { h.hinge with
        out := h.hinge.out.map (fun (y : Txn) => if y.tag == tag then { y with tries := y.tries + 1 } else y)
        txL := enq h.hinge.txL { typ := 0x40 + tag, payload := 0, prio := 5 } } }
    else
      let h := { h with hinge := { h.hinge with out := h.hinge.out.filter (fun y => y.tag != tag) } }
      ((h.count HNG_TXN_failures).event 14 1 detailOpen).txnFail x |>.nextReq

/-- REQ_RETRY (R148). -/
def execReqRetry (tag : Fin 16) (s : State) : Host.Outcome State Fault Refusal := s.on (fun h => h.reqRetry tag)

/-! ### The bolt lines (R142 to R146) -/

/-- The bolt latch is cleared: CLEAR has been decided for 10 µs and a BOLT_REL is there (R144). -/
def Hub.latchClear (h : Hub) : Hub := { h with hinge := { h.hinge with latch := false, relHeld := false } }

/-- A BOLT_REL frame taken by the field die (R144): it clears the latch at once after 10 µs of CLEAR, else it is held. -/
def Hub.recvBoltRel (h : Hub) : Hub :=
  if !h.sup.fieldUp then h
  else if h.hinge.fieldDecides == .clear && h.hinge.clear10 then h.latchClear
  else { h with hinge := { h.hinge with relHeld := true } }

/-- BOLT_REL (R144). -/
def execBoltRel (s : State) : Host.Outcome State Fault Refusal := s.on (fun h => (h.land true 0x32 0).recvBoltRel)

/-- BOLT_REL_EXPIRE (R144): a held BOLT_REL is discarded after 50 µs. -/
def execBoltRelExpire (s : State) : Host.Outcome State Fault Refusal :=
  s.on (fun h => { h with hinge := { h.hinge with relHeld := false } })

/-- The logic die sends BOLT_REL, at priority 1 (R133, R144). -/
def Hub.sendBoltRel (h : Hub) : Hub :=
  { h with hinge := { h.hinge with relRepeat := true } }.sendL { typ := 0x32, payload := 0, prio := 1 }

/-- BOLT_REL_REPEAT (R144): every 100 µs until HNG_BOLT.field_latched reads 0. -/
def execBoltRelRepeat (s : State) : Host.Outcome State Fault Refusal :=
  s.on (fun h =>
    if !h.hinge.relRepeat then h
    else if h.flag HNG_BOLT_field_latched then h.sendBoltRel
    else { h with hinge := { h.hinge with relRepeat := false } })

/-- A BOLT decision (R143): the latch is set, every channel goes to its safe state, FHOLD ends. -/
def Hub.decideBolt (h : Hub) (t : Tone) : Hub :=
  let h := { h with hinge := { h.hinge with fieldDecides := t, clear10 := false, latch := true, relHeld := false } }
  h.fholdStop.fieldSafe h.fOuts

/-- The field die's decision on the logic-to-field line; silence is read as BOLT (R142, R143). -/
def Hub.decideTone (h : Hub) (t : Tone) : Hub :=
  if !h.sup.fieldUp then h
  else match t with
    | .bolt => h.decideBolt .bolt
    | .silence => h.decideBolt .silence
    | .hold => { h with hinge := { h.hinge with fieldDecides := .hold, clear10 := false, relHeld := false } }.fholdStart
    | .clear =>
      if h.hinge.fieldDecides == .clear then h
      else { h with hinge := { h.hinge with fieldDecides := .clear, clear10 := false } }

/-- An interval between two edges, in ns, lies within ±15 % of a tone's interval (R143, R146). -/
def nearTone (nominal iv : Nat) : Bool := decide (85 * nominal ≤ 100 * iv) && decide (100 * iv ≤ 115 * nominal)

/-- The last `n` intervals, newest first, all lie within ±15 % of a tone's interval. -/
def lastNear (n nominal : Nat) (ivs : List Nat) : Bool := decide (n ≤ ivs.length) && (ivs.take n).all (nearTone nominal)

/-- CLEAR or HOLD from the last 4 intervals (R142, R143). -/
def quickTone (ivs : List Nat) : Option Tone :=
  if lastNear 4 125 ivs then some .clear else if lastNear 4 250 ivs then some .hold else none

/-- What the field die decides from the intervals, newest first, and the time since the last edge, in ns: BOLT after 400 ns without an edge.
Any other pattern forms no decision, and the previous one is kept (R143). -/
def fieldTone (ivs : List Nat) (gap : Nat) : Option Tone := if 400 ≤ gap then some .bolt else quickTone ivs

/-- What DA decides: silence after 2 µs without an edge, BOLT from 2 intervals of 1 µs, CLEAR and HOLD from 4 (R146). -/
def daTone (ivs : List Nat) (gap : Nat) : Option Tone :=
  if 2000 ≤ gap then some .silence else if lastNear 2 1000 ivs then some .bolt else quickTone ivs

/-- BOLT_DECISION (R143): the intervals between the last edges in ns, newest first, and the time since the last edge. -/
def execBoltDecision (e : LineEdges) (s : State) : Host.Outcome State Fault Refusal :=
  s.on (fun h => match fieldTone (e.ivs.map BitVec.toNat) e.gap.toNat with | some t => h.decideTone t | none => h)

/-- BOLT_CODE (R143): no valid decision within 2 µs: the field die takes BOLT and reports the code error, or Deadbolt DA
reports one on the field-to-logic line. -/
def execBoltCode (field : Bool) (s : State) : Host.Outcome State Fault Refusal :=
  s.on (fun h =>
    if field then (if h.sup.fieldUp then (h.decideBolt .bolt).fieldEvent 24 0 0 else h)
    else if h.logicRuns then (h.count HNG_BOLT_code_errors).event 15 1 detailOpen else h)

/-- BOLT_LATCH_CLEAR (R144): CLEAR has been decided for 10 µs without a break; a BOLT_REL held since then clears the latch. -/
def execBoltLatchClear (s : State) : Host.Outcome State Fault Refusal :=
  s.on (fun h =>
    if h.hinge.fieldDecides == .clear then
      let h := { h with hinge := { h.hinge with clear10 := true } }
      if h.hinge.relHeld then h.latchClear else h
    else h)

/-- BOLT_TONE_CHANGE (R145): DA changes its tone at its next edge. -/
def execBoltToneChange (s : State) : Host.Outcome State Fault Refusal :=
  s.on (fun h => { h with hinge := { h.hinge with daTone := h.hinge.daWant } })

/-- The field-to-logic tone that DA decides (R146): BOLT raises BOLT_FIELD, live while it lasts; HOLD marks the field die as
not configured, and after a field power-on reset adds the history entry (R436). -/
def Hub.daDecide (h : Hub) (t : Tone) : Hub :=
  if !h.logicRuns then h
  else
    let h := { h with hinge := { h.hinge with daDecides := t } }
    let h := if t == .bolt then h.raise 16 16 1 detailOpen else h.lower 16 16
    let h := h.put DBT_STAT_db_forced (t == .bolt)
    if t == .hold && h.hinge.porSeen then
      { h with hinge := { h.hinge with porSeen := false } }.history 0x0B 0xF
    else h

/-- FIELD_TONE_DECISION (R146): the intervals between the last edges in ns, newest first, and the time since the last edge. -/
def execFieldToneDecision (e : LineEdges) (s : State) : Host.Outcome State Fault Refusal :=
  s.on (fun h => match daTone (e.ivs.map BitVec.toNat) e.gap.toNat with | some t => h.daDecide t | none => h)

/-- FHOLD_EXPIRY (R218): a channel's field hold timer has run for its FHOLD, `ms` being the time since its start; 65,535 never ends. -/
def execFholdExpiry (x : ChSpan) (s : State) : Host.Outcome State Fault Refusal :=
  s.on (fun h =>
    let hold := h.frd OUT_FHOLD_ms (h.fLead x.c)
    if (h.out x.c).fholdRun && hold != 65535 && hold ≤ x.t.toNat then h.fholdEnd x.c else h)

/-! ### Margin and configuration -/

/-- The margin registers of a lane, latest and lowest (R150). -/
def laneMargin (lane : Nat) : Fld × Fld :=
  match lane with
  | 0 => (HNG_MARGIN_lf0, HNG_MARGIN_MIN_lf0)
  | 1 => (HNG_MARGIN_lf1, HNG_MARGIN_MIN_lf1)
  | 2 => (HNG_MARGIN_fl0, HNG_MARGIN_MIN_fl0)
  | _ => (HNG_MARGIN_fl1, HNG_MARGIN_MIN_fl1)

/-- A lane's margin as the logic die has it: the registers of the latest and the lowest, and the ledger's minimum of the month (R150, R653). A
down lane reads 0, which counts for nothing else. The register of the lowest keeps 0 until the first measurement. -/
def Hub.showMargin (h : Hub) (lane m : Nat) : Hub :=
  let x := h.lane lane
  if !x.inService then h.wr (laneMargin lane).1 0
  else
    let h := h.wr (laneMargin lane).1 m
    let h := h.wr (laneMargin lane).2 (if x.measured then min (h.rd (laneMargin lane).2) m else m)
    let h := h.modLane lane (fun x => { x with measured := true })
    let l := h.ret.life
    { h with ret := { h.ret with life := { l with
      margins := (List.range 4).map (fun i => if i == lane then min (l.margins.getD i 64) m else l.margins.getD i 64) } } }

/-- A measurement judged by the die that made it: three in a row below the threshold, in service, raise MARGIN_LOW (R150). -/
def Hub.judgeMargin (h : Hub) (lane m : Nat) : Hub :=
  if !(h.lane lane).inService then h
  else
    let low := m < h.rd HNG_CFG_margin_min
    let h := h.modLane lane (fun x => { x with lowRun := if low then x.lowRun + 1 else 0 })
    if 3 ≤ (h.lane lane).lowRun then
      (if lane < 2 then h.raise 13 (18 + lane) 1 detailOpen else h.fieldRise (25 + lane) 0 m)
    else if !low then (if lane < 2 then h.lower 13 (18 + lane) else h.fieldFall (25 + lane) 0)
    else h

/-- The field die reports the margins of FL0 and FL1 in a MARGIN frame, in the format of HNG_MARGIN (R131, R150). -/
def Hub.sendMargin (h : Hub) (lane m : Nat) : Hub :=
  let pl := clrMask h.hinge.marginF (255 * 2 ^ (8 * lane)) + m * 2 ^ (8 * lane)
  ({ h with hinge := { h.hinge with marginF := pl } }).sendF { typ := 0x70, payload := pl, prio := 5 }

/-- MARGIN_MEASURE (R150): a lane's margin in 1/64 UI, 0 for a lane that is down; the logic die measures LF0 and LF1, the field die FL0 and
FL1. -/
def execMarginMeasure (lane : Fin 4) (m : Fin 65) (s : State) : Host.Outcome State Fault Refusal :=
  s.on (fun h =>
    let m := if (h.lane lane).inService then m.val else 0
    if lane.val < 2 then (if h.logicRuns then (h.showMargin lane m).judgeMargin lane m else h)
    else if h.sup.fieldUp then (h.sendMargin lane m).judgeMargin lane m else h)

/-- FIELD_CONFIG_CRC (R191): the field die computes the CRC-32 of the configuration it holds and reports it in IDLE frames (R140, R191); DA
compares it with BLK_SHADOW_FCRC. `upset` is a register word of that configuration that has changed since. -/
def execFieldConfigCrc (upset : Option (BitVec 24 × Word)) (s : State) : Host.Outcome State Fault Refusal :=
  s.on (fun h =>
    if !h.hinge.configured then h
    else
      let cfg := match upset with | some (a, v) => fieldConfig (upsetWord h.hinge.cfg a.toNat v.toNat) | none => h.hinge.cfg
      let crc := shadowCrc cfg true
      let h := { h with hinge := { h.hinge with cfg := cfg, fieldCrc := crc } }
      if !h.hinge.upL || h.dev.phase != .up || h.flag HNG_STAT_rejoin then h
      else
        let ok := crc == h.rd BLK_SHADOW_FCRC_crc
        let h := h.put HNG_STAT_field_cfg_ok ok
        if ok then h.lower 17 18 else h.raise 17 18 1 detailOpen)

/-- BOLT_REL_SEND (R144, R516): 10 µs after DA changed its tone to CLEAR, at the end of *Arming* or on leaving *Safe*, it sends BOLT_REL. -/
def execBoltRelSend (s : State) : Host.Outcome State Fault Refusal :=
  s.on (fun h =>
    if h.clk.now < h.hinge.toneAt + 10 * Config.ticksPerUs then h
    else if h.dev.exitStep == 1 then { h with dev := { h.dev with exitStep := 2 }, hinge := { h.hinge with relDue := false } }.sendBoltRel
    else if h.hinge.relDue && h.dev.exitStep == 0 && !h.dev.safe then { h with hinge := { h.hinge with relDue := false } }.sendBoltRel
    else h)

end Sys2Proof.Machine
end

