-- ==== Sys2Proof/Machine/Inputs.lean ====
section
/-!
DEFINITION. The commands of the input channels (chapter 08).

What the spec leaves open here: DEDUCED, log entry 88.
-/

namespace Sys2Proof.Machine

/-! ### Debounce and the FIFO (R247 to R252) -/

/-- The debounce time T of input `c` in ticks (R248, R264). -/
def Hub.debTicks (h : Hub) (c : Nat) : Nat :=
  let us := h.frd IN_DEB_us c
  100 * (if us != 0 then us else [1, 10, 100, 1000, 3000, 10000, 20000, 50000].getD (h.frd IN_CFG_deb_preset c) 0)

/-- The thresholds of a mode in 10 mV: rising at least and at most, falling at least and at most (R243). -/
def inputLevels (mode : Nat) : Int × Int × Int × Int :=
  match mode with
  | 2 => (950, 1150, 800, 1000)
  | 3 => (700, 900, 550, 750)
  | _ => (540, 660, 400, 500)

/-- What the comparator reads at a pin voltage: ON at or above the rising threshold, OFF below the falling one, the reading before between the
two. Within the tolerance of a threshold `own` says on which side of its own threshold the part finds the pin (R243). -/
def inputReads (mode : Nat) (v : Int) (was own : Bool) : Bool :=
  let (riseMin, riseMax, fallMin, fallMax) := inputLevels mode
  if was then (if fallMax ≤ v then true else if v < fallMin then false else own)
  else (if riseMax ≤ v then true else if v < riseMin then false else own)

/-- A window with a raw level taken into it: an OFF reading is noted, and the first crossing that lasts is its candidate
(R257, R258). -/
def Window.see (w : Window) (deb on : Bool) (stamp now : Nat) (unc : Bool) : Window :=
  { seenOff := w.seenOff || !on
    cross := if on == deb then none else match w.cross with | some x => some x | none => some (stamp, now)
    unc := if on == deb then false else if w.cross.isSome then w.unc else unc }

/-- The raw comparator output of input `c` changes (R247): within a window it is noted there; otherwise a candidate edge
starts with its stamp, or is discarded. Before the first debounced state the level held is timed (R249). -/
def Hub.crossing (h : Hub) (c : Nat) (on : Bool) : Hub :=
  let h := h.modIn c (fun i => { i with raw := on })
  if !h.inSensed c then h
  else
    let i := h.inp c
    let stamp := h.crossStamp
    let unc := h.stampUncertain
    let h :=
      if i.own.isSome || i.foreign.isSome then
        let h := h.modIn c (fun i => { i with
          own := i.own.map (fun w => w.see i.deb on stamp h.clk.now unc)
          foreign := i.foreign.map (fun w => w.see i.deb on stamp h.clk.now unc) })
        if i.foreign.isSome && !on then h.forcing c (fun h => h.inSet c 4) else h
      else if !i.valid then h.modIn c (fun i => { i with cand := some (stamp, h.clk.now), candUncertain := unc })
      else if on == i.deb then h.modIn c (fun i => { i with cand := none })
      else h.modIn c (fun i => { i with
        cand := match i.cand with | some x => some x | none => some (stamp, h.clk.now)
        candUncertain := if i.cand.isSome then i.candUncertain else unc })
    h.syncIn c

/-- INPUT_CROSSING (R243, R247): the pin of a channel takes a voltage, in 10 mV, at which the raw comparator output reads anew; `own` decides
within the tolerance of the thresholds. -/
def execInputCrossing (c : Fin 16) (l : LeadLevel) (s : State) : Host.Outcome State Fault Refusal :=
  s.on (fun h => h.crossing c (inputReads (h.fMode c) l.v.toInt (h.inp c).raw l.own))

/-- An edge accepted (R247, R252): the debounced state changes; outside a forced state an entry is stored with the stamp of
the candidate; the edge is counted here and in the ledger. -/
def Hub.acceptEdge (h : Hub) (c : Nat) (stamp : Nat) (unc : Bool) : Hub :=
  let h := h.modIn c (fun i => { i with deb := i.raw, cand := none, edges := (i.edges + 1) % 2 ^ 32 })
  let h := h.modAcc c (fun a => { a with edges := satInc (2 ^ 40 - 1) a.edges })
  (h.entry c { stamp := stamp, dir := (h.inp c).deb, uncertain := unc }).syncIn c

/-- The first debounced state of input `c` (R249): no entry and no edge, unless a field LBIST had frozen another (R273). -/
def Hub.firstState (h : Hub) (c : Nat) : Hub :=
  let was := (h.inp c).frozen
  let h := h.modIn c (fun i => { i with valid := true, deb := i.raw, cand := none, frozen := none })
  let h := match was with
    | none => h
    | some b =>
      if h.inState c == b then h
      else h.entry c { stamp := h.fieldTime % 2 ^ 48, dir := h.inState c, uncertain := true, gap := true }
  h.syncIn c

/-- The raw level has held for T: the first state is taken, or the candidate accepted (R247, R249). -/
def Hub.debounced (h : Hub) (c : Nat) : Hub :=
  let i := h.inp c
  if !h.inSensed c || i.own.isSome || i.foreign.isSome then h
  else if !i.valid then h.firstState c
  else match i.cand with
    | none => h
    | some x => h.acceptEdge c x.1 i.candUncertain

/-- DEBOUNCE_ACCEPT (R247, R249): the raw output has held its level for some ticks without a break: T or more of them accept it (log entry
88). -/
def execDebounceAccept (x : ChSpan) (s : State) : Host.Outcome State Fault Refusal :=
  s.on (fun h => if h.debTicks x.c ≤ x.t.toNat then h.debounced x.c else h)

/-- The owning ward reads IN_TS_LO (R251): the oldest entry leaves the FIFO, and the rest of it is latched into IN_TS_HI.
With the answer. -/
def Hub.readTsLo (h : Hub) (c : Nat) : Nat × Hub :=
  match (h.inp c).fifo with
  | [] => (0, h.put IN_TS_HI_valid false c)
  | e :: rest =>
    let h := h.modIn c (fun i => { i with fifo := rest })
    let h := ((h.put IN_TS_HI_valid true c).put IN_TS_HI_dir e.dir c).put IN_TS_HI_uncertain e.uncertain c
    let h := ((h.put IN_TS_HI_gap e.gap c).put IN_TS_HI_forced e.forced c).wr IN_TS_HI_stamp (e.stamp / 2 ^ 32) c
    (e.stamp % 2 ^ 32, h)

/-- IN_TS_LO_READ (R251). -/
def execInTsLoRead (w : Fin 8) (c : Fin 16) (s : State) : Host.Outcome State Fault Refusal :=
  s.on (fun h => if h.readable w && h.chOwner c == some w.val && h.isIn c then (h.readTsLo c).2 else h)

/-! ### Measurements and wire-break (R253, R255) -/

/-- INPUT_MEASURE (R255): ADC-A's pin voltage in 10 mV and input current in 1 µA. A current at or above the wire-break
threshold ends wb_live (R253). -/
def execInputMeasure (c : Fin 16) (v : BitVec 16) (i : BitVec 12) (s : State) : Host.Outcome State Fault Refusal :=
  s.on (fun h =>
    if !h.sup.fieldUp || !h.fIsIn c then h
    else
      let h := if h.hinge.upL then (h.wr IN_MEAS_vpin v.toNat c).wr IN_MEAS_i i.toNat c else h
      if 50 * h.frd IN_WB_th c ≤ i.toNat then
        let h := h.modIn c (fun i => { i with wbPause := 0, wbPaused := i.wbPaused.map (fun _ => h.clk.now) })
        if bitOf (h.inp c).live 0 then (h.inEnd c 0).syncIn c else h
      else h)

/-- The wire-break timer of an input, whose current has been below the threshold for some µs without a break: its pauses do not count, and it
does not end in one (R253, R269). -/
def Hub.wbDue (h : Hub) (c us : Nat) : Bool :=
  let i := h.inp c
  i.wbPaused.isNone && decide (i.wbTill ≤ h.clk.now) &&
    decide (h.frd IN_WB_ms c * Config.ticksPerMs + i.wbPause ≤ us * Config.ticksPerUs)

/-- WIRE_BREAK (R253, R269): the current has stayed below the threshold for `us`. -/
def execWireBreak (x : ChSpan) (s : State) : Host.Outcome State Fault Refusal :=
  s.on (fun h =>
    if h.inSensed x.c && h.frd IN_WB_en x.c != 0 && h.wbDue x.c x.t.toNat then h.forcing x.c (fun h => h.inSet x.c 0) else h)

/-! ### Test pulses (R256 to R259, R265, R270) -/



/-- A candidate toward OFF runs: the input is no longer certain to be ON (R270). -/
def InCh.leaving (i : InCh) : Bool := i.cand.isSome && i.deb

/-- The named marker rises (R257): the check window of input `c` opens, unless one is open. -/
def Hub.openOwn (h : Hub) (c : Nat) : Hub :=
  let i := h.inp c
  if i.own.isSome || i.foreign.isSome || !i.valid || !i.deb || i.leaving || !h.inSensed c || !h.srcOn c then h
  else (h.modIn c (fun i => { i with own := some { seenOff := !i.raw } })).syncIn c

/-- The foreign marker rises (R265). -/
def Hub.openForeign (h : Hub) (c : Nat) : Hub :=
  let i := h.inp c
  if i.own.isSome || i.foreign.isSome || !i.valid || !i.deb || i.leaving || !h.inSensed c then h
  else
    let h := h.modIn c (fun i => { i with foreign := some { seenOff := !i.raw } })
    if i.raw then h else h.forcing c (fun h => h.inSet c 4)

/-- A candidate that a window deferred is accepted at the window's end where the crossing plus T has passed (R258). -/
def Hub.resolve (h : Hub) (c : Nat) : Hub :=
  match (h.inp c).cand with
  | none => h.syncIn c
  | some x => if x.2 + h.debTicks c ≤ h.clk.now then h.debounced c else h.syncIn c

/-- The own check window of input `c` ends (R257). -/
def Hub.ownEnd (h : Hub) (c : Nat) : Hub :=
  match (h.inp c).own with
  | none => h
  | some w =>
    let h := h.modIn c (fun i => { (i.windowEnd w h.clk.now) with own := none })
    let h := if w.seenOff then
        ((h.modIn c (fun i => { i with passed := true })).inEnd c 1).inEnd c 2
      else h.forcing c (fun h => h.inSet c 1)
    h.resolve c

/-- The window of an input has been open for its time, 10 µs × IN_TPC.win (R257, R265). -/
def Hub.windowOver (h : Hub) (c us : Nat) : Bool := decide (10 * h.frd IN_TPC_win c ≤ us)

/-- TP_WINDOW_END (R257, R258): the check window has been open for `us`. -/
def execTpWindowEnd (x : ChSpan) (s : State) : Host.Outcome State Fault Refusal :=
  s.on (fun h => if h.windowOver x.c x.t.toNat then h.ownEnd x.c else h)

/-- TP_LATE (R259): a supervision interval of 2 ms × period ends, `ms` after it began; without a passing check in it tp_late is set. -/
def execTpLate (x : ChSpan) (s : State) : Host.Outcome State Fault Refusal :=
  s.on (fun h =>
    let c := x.c
    if !h.tpSupervised c || x.t.toNat < 2 * h.frd IN_TPC_period c then h
    else if (h.inp c).passed then h.modIn c (fun i => { i with passed := false })
    else h.forcing c (fun h => h.inSet c 2))

/-- The foreign window of input `c` ends: without a crossing xshort is no longer present (R262, R265). -/
def Hub.foreignEnd (h : Hub) (c : Nat) : Hub :=
  match (h.inp c).foreign with
  | none => h
  | some w =>
    let h := h.modIn c (fun i => { (i.windowEnd w h.clk.now) with foreign := none })
    let h := if w.seenOff then h else h.inEnd c 4
    h.resolve c

/-- FOREIGN_WINDOW_END (R265): the foreign window has been open for `us`. -/
def execForeignWindowEnd (x : ChSpan) (s : State) : Host.Outcome State Fault Refusal :=
  s.on (fun h => if h.windowOver x.c x.t.toNat then h.foreignEnd x.c else h)

/-! ### Clearing (R263) -/

/-- The IN_FLT fields, bit 0 first. -/
def inFltFlds : List Fld :=
  [IN_FLT_wire_break, IN_FLT_tp_fail, IN_FLT_tp_late, IN_FLT_overflow, IN_FLT_xshort, IN_FLT_discard]

/-- The bits of IN_FLT that a W1C write does not clear: their condition is present; discard and overflow always clear. -/
def Hub.inKept (h : Hub) (c v : Nat) : Nat := v &&& (h.inp c).live &&& forcingBits

/-- A W1C write to IN_FLT (R263): refusals are counted; the field die is sent the bits to clear. A write that names its port
waits for the field die's answer with it (R366). -/
def Hub.writeInFlt (h : Hub) (c v : Nat) (port : Option (Nat × Nat) := none) : Hub :=
  let v := v % 64
  let kept := h.inKept c v
  let go := clrMask v kept
  let h := h.count FLT_CLR_REFUSED_live (popCount 6 kept)
  let h := (List.range 6).foldl (fun h b => if bitOf go b then h.put (inFltFlds.getD b IN_FLT_discard) false c else h) h
  if go == 0 then h else h.request (.clearIn c go) port

/-- IN_FLT_CLEAR (R263). -/
def execInFltClear (w : Fin 8) (c : Fin 16) (v : Word) (s : State) : Host.Outcome State Fault Refusal :=
  s.on (fun h =>
    if h.writable w && h.chOwner c == some w.val && h.isIn c && h.hinge.upL then h.writeInFlt c v.toNat else h)

end Sys2Proof.Machine
end

