-- ==== Sys2Proof/Machine/Nvm.lean ====
section
/-!
DEFINITION. The NVM controller (R48, R83, R398, R638): the operations that have been admitted, the one that runs, and its end.

What the spec leaves open here: DEDUCED, log entry 44.
-/

namespace Sys2Proof.Machine

/-- The order in which the NVM controller serves (R398): journal pages, then ledger and retained-mirror pages, then ward
operations; the power-down's own writes are not queued. -/
def nvmRank (u : NvmUse) : Nat :=
  match u with
  | .journal => 1
  | .reclaim => 1
  | .clearErase => 1
  | .mirror => 2
  | .rebase => 2
  | .retained => 2
  | .recovery => 3
  | .user => 3

/-- The first operation of the queue that no other outranks, and the rest. -/
def nvmPick : List NvmOp → Option (NvmOp × List NvmOp)
  | [] => none
  | o :: rest =>
    match nvmPick rest with
    | none => some (o, [])
    | some (x, l) => if nvmRank x.use < nvmRank o.use then some (x, o :: l) else some (o, rest)

/-- The controller may start an operation now: no program or erase starts in a VDD warning (R64, R194), or once an ordered reset waits for
the one that runs (R189, R429). -/
def Hub.nvmMay (h : Hub) (o : NvmOp) : Bool := o.kind == 0 || (!h.sup.warn && h.dev.softReset.isNone)

/-- A program or erase of the inactive slot starts: BLK_CHECK is not checked, and a check that runs is discarded (R188). -/
def Hub.slotWritten (h : Hub) : Hub :=
  { h.wr BLK_CHECK_reason 0xF with blk := { h.blk with checkStale := h.blk.checking } }

/-- The controller takes its next operation, where none runs and the NVM may be used: not below VHEND (R72), in *Halt*
(R638) or in a power-down (R80). -/
def Hub.nvmGo (h : Hub) : Hub :=
  if h.nvmOp.isSome || !h.sup.nvmAllowed || h.dev.halt.isSome || h.sup.pd.isSome then h
  else
    match nvmPick (h.nvmQ.filter h.nvmMay) with
    | none => h
    | some (o, _) =>
      let h := { h with nvmOp := some o, nvmQ := h.nvmQ.erase o }
      if o.use == .user && o.kind != 0 && o.addr < 0x40000 then h.slotWritten else h

/-- An admitted operation handed to the controller. -/
def Hub.nvmAdd (h : Hub) (o : NvmOp) : Hub := { h with nvmQ := h.nvmQ ++ [o] }.nvmGo

/-- An admitted action's cost ends with the action (R478, R480). -/
def Hub.costEnd (h : Hub) (k : CandKind) (ref : Nat) : Hub :=
  { h with sch := { h.sch with admitted := h.sch.admitted.eraseP (fun a => a.kind == k && a.ref == ref) } }

/-- A candidate of the hub's own for an NVM page or erase (R480, R483): its place among the hub's own, and its VDD current. -/
def Hub.nvmCand (h : Hub) (erase : Bool) (ref rank : Nat) : Hub :=
  h.submit { kind := if erase then .nvmErase else .nvmPage, ref := ref, cls := 2, rank := rank, ivdd := h.rd PWR_HOLD_CFG_load_ma }

/-- An operation's effect on device 0 and, where both devices are written (R182, R187), on device 1: `good` and `good1` say whether each
has carried it out. A device on which a program or erase failed holds open values there (log entry 4). -/
def Hub.nvmEffect (h : Hub) (o : NvmOp) (good good1 : Bool) : Hub :=
  if o.kind == 0 then h
  else if good && good1 then h.onNvm (h.nvmBoth o) o.make o.make
  else
    let p := h.freeBytes o.span
    p.2.onNvm (h.nvmBoth o) (if good then o.make else o.cut p.1) (if good1 then o.make else o.cut p.1)

/-- The running operation ends: its effect is made, and the controller takes the next. -/
def Hub.nvmDone (h : Hub) (good good1 : Bool) : Hub :=
  match h.nvmOp with
  | none => h
  | some o => ({ h with nvmOp := none }.nvmEffect o good good1).nvmGo

/-- What a hub-internal operation's end raises: NVM_FAIL where the device gave no result or an error (result 2), and BLK_MIRROR
where the second device failed (R535, R647). -/
def Hub.nvmFaults (h : Hub) (res : Nat) (mirrorOk : Bool) : Hub :=
  let h := if res == 2 then h.event 60 1 detailOpen else h
  if h.flag BLK_CFG_mirror && !mirrorOk then h.event 20 1 detailOpen else h

/-- A range of device 0 reads erased. -/
def Hub.nvmErased (h : Hub) (a n : Nat) : Bool := (h.nvmDev 0).mem.all (fun c => !(decide (a ≤ c.1) && decide (c.1 < a + n)))

/-- The 32-bit words of bytes, least significant byte first. -/
def wordsOf : List Nat → List Nat
  | a :: b :: c :: d :: rest => leNat [a, b, c, d] :: wordsOf rest
  | _ => []

/-- A list of bytes filled up to `n` with a byte. -/
def padTo (n b : Nat) (l : List Nat) : List Nat := l ++ List.replicate (n - l.length) b

end Sys2Proof.Machine
end

