-- ==== Sys2Proof/Machine/Images.lean ====
section
/-!
DEFINITION. The byte layouts of the retained block and its NVM mirror (R86 to R89) and of the life ledger's images and power-down
pages (R653 to R656): written and read back.

What the spec leaves open here: DEDUCED, log entries 19, 20.
-/

namespace Sys2Proof.Machine

/-- A number of `n` bytes at an offset of a list of bytes, least significant first. -/
def numAt (b : List Nat) (off n : Nat) : Nat := leNat ((b.drop off).take n)

/-- Bytes with their CRC-32 after them (R166). -/
def withCrc (b : List Nat) : List Nat := b ++ leBytes 4 (crc32 b)

/-- Bytes whose last four are the CRC-32 of those before. -/
def crcGood (b : List Nat) : Bool := numAt b (b.length - 4) 4 == crc32 (b.take (b.length - 4))

/-! ### The device counters (R653) -/

/-- The 44 bytes of the device counters. -/
def LifeWork.bytes (l : LifeWork) : List Nat :=
  leBytes 4 l.powerOn ++ leBytes 4 l.dieStress ++ leBytes 4 l.barrier ++ leBytes 4 l.dips ++ leBytes 4 l.vfuv ++
    leBytes 2 l.halts ++ leBytes 2 l.month ++ (List.range 4).map (fun i => l.margins.getD i 64 % 256) ++
    leBytes 4 l.serial ++ leBytes 4 l.usedAtMonth ++ leBytes 4 l.gain ++ leBytes 4 0

/-- The device counters read from 44 bytes. -/
def LifeWork.ofBytes (b : List Nat) : LifeWork :=
  { powerOn := numAt b 0 4, dieStress := numAt b 4 4, barrier := numAt b 8 4, dips := numAt b 12 4, vfuv := numAt b 16 4
    halts := numAt b 20 2, month := numAt b 22 2, margins := (b.drop 24).take 4, serial := numAt b 28 4
    usedAtMonth := numAt b 32 4, gain := numAt b 36 4 }

/-! ### The retained block (R86, R630) -/

/-- The 32 bytes of a pending-record slot (R630); a free slot holds no word 7 that checks. -/
def pendBytes (r : Option PendRec) : List Nat :=
  match r with
  | none => List.replicate 32 0
  | some r =>
    let ws := [r.typ * 2 ^ 24 + r.source * 2 ^ 16 + r.sev * 2 ^ 8 + r.len, r.boots % 2 ^ 32,
      0xFF * 2 ^ 24 + (4 + b2n r.lost) * 2 ^ 16] ++ (padTo 4 0 r.payload).take 4
    let body := ws.flatMap (leBytes 4)
    body ++ leBytes 4 (0xA55A * 2 ^ 16 + crc16 body)

/-- A pending-record slot read from 32 bytes. The order among the slots is kept by their boot counts and places. -/
def pendOf (b : List Nat) (i : Nat) : Option PendRec :=
  let w := fun k => numAt b (4 * k) 4
  if w 7 / 2 ^ 16 == 0xA55A && w 7 % 2 ^ 16 == crc16 (b.take 28) then
    some { typ := w 0 / 2 ^ 24, source := bitsOf (w 0) 16 8, sev := bitsOf (w 0) 8 3, len := w 0 % 32, boots := w 1
           lost := bitOf (w 2) 16, payload := [w 3, w 4, w 5, w 6], ord := 4 * w 1 + i }
  else none

/-- The 256 bytes of the retained block (R86), marked clean or not. -/
def Retained.bytes (r : Retained) (clean : Bool) : List Nat :=
  withCrc (padTo 252 0
    (leBytes 4 (0x5254 * 2 ^ 16 + 2 ^ 8 + b2n clean) ++ leBytes 4 r.boots ++ leBytes 8 (r.nextSeq % 2 ^ 48) ++
      ((padTo 8 0 r.hist).take 8).flatMap (leBytes 4) ++ r.expiries.toList.flatMap (leBytes 2) ++ leBytes 2 0 ++
      leBytes 4 r.wdTotal ++ leBytes 4 (r.dipCount % 2 ^ 16 + r.vmin * 2 ^ 16) ++ leBytes 4 r.pdLast ++
      r.slots.toList.flatMap pendBytes ++ r.life.bytes))

/-- The retained block read from 256 bytes. -/
def Retained.ofBytes (b : List Nat) : Retained :=
  { valid := true, clean := bitOf (numAt b 0 4) 0, boots := numAt b 4 4, nextSeq := numAt b 8 6
    hist := (List.range 8).map (fun i => numAt b (0x10 + 4 * i) 4)
    expiries := Vector.ofFn (fun i : Fin 9 => numAt b (0x30 + 2 * i) 2), wdTotal := numAt b 0x44 4
    dipCount := numAt b 0x48 2, vmin := numAt b 0x4A 2, pdLast := numAt b 0x4C 4
    slots := Vector.ofFn (fun i : Fin 4 => pendOf ((b.drop (0x50 + 32 * i)).take 32) i)
    life := LifeWork.ofBytes ((b.drop 0xD0).take 44) }

/-- The address of mirror entry `i` (R88): 0 to 3 in copy 0, 4 to 7 in copy 1. -/
def entryAddr (i : Nat) : Nat := 0x62000 + 0x1000 * (i / 4) + 0x100 * (i % 4)

/-- The bytes of mirror entry `i`, where its CRC is correct. -/
def Hub.entryOf (h : Hub) (i : Nat) : Option (List Nat) :=
  if !h.nvmWhole || h.nvmErased (entryAddr i) 256 then none
  else
    let b := h.nvmRead 0 (entryAddr i) 256
    if crcGood b then some b else none

/-- How many places after place `i` in the ring of eight the next of some places lies. -/
def nextPlace (places : List Nat) (i : Nat) : Nat :=
  ((List.range 8).find? (fun k => places.contains ((i + k + 1) % 8))).getD 8

/-- The newest valid mirror entry: the highest boot count, the later place in the order of writing among equals (R88). Entries go round the
eight places, so the latest of one boot count is the one after which the longest stretch without another of them follows; between equal
stretches the higher place (log entry 19). -/
def Hub.newestEntry (h : Hub) : Option (Nat × List Nat) :=
  let l := (List.range 8).filterMap (fun i => (h.entryOf i).map (fun b => (i, b)))
  let top := l.foldl (fun m x => max m (numAt x.2 4 4)) 0
  let mine := l.filter (fun x => numAt x.2 4 4 == top)
  let places := mine.map (·.1)
  mine.foldl (fun (best : Option (Nat × List Nat)) x =>
    match best with
    | none => some x
    | some y => if nextPlace places y.1 ≤ nextPlace places x.1 then some x else some y) none

/-- The retained block as the logic die finds it on leaving a power-on reset (R89): its source, and every field from the AON copy, from
the newest mirror entry, or 0. The month's minima start at 64, and no month has ended (R652, R653). -/
def Hub.retainedJudge (h : Hub) : Hub :=
  let p : Nat × Retained :=
    if h.ret.valid then (0, h.ret)
    else
      match h.newestEntry with
      | some (i, b) =>
        let r := Retained.ofBytes b
        (if r.clean then 1 else 2, { r with mirrorNext := (i + 1) % 8 })
      | none => (3, {})
  let h := { h with ret := { p.2 with boots := satInc (2 ^ 32 - 1) p.2.boots } }.bootDomains.wr PWR_RET_STAT_source p.1
  if 2 ≤ p.1 then h.event 5 1 detailOpen else h

/-! ### The ledger's images and power-down pages (R654 to R656) -/

/-- The bytes of a channel record of an image. -/
def ChCount.bytes (c : ChCount) : List Nat :=
  leBytes 5 c.cycles ++ leBytes 5 c.edges ++ leBytes 2 c.shutdowns ++ leBytes 4 c.onTime ++ leBytes 4 c.stress ++
    leBytes 4 c.energy ++ leBytes 4 c.episodes ++ leBytes 4 c.tcycles

/-- A channel record read from 32 bytes. -/
def ChCount.ofBytes (b : List Nat) : ChCount :=
  { cycles := numAt b 0 5, edges := numAt b 5 5, shutdowns := numAt b 10 2, onTime := numAt b 12 4, stress := numAt b 16 4
    energy := numAt b 20 4, episodes := numAt b 24 4, tcycles := numAt b 28 4 }

/-- The deltas of a channel in a power-down page (R656). -/
def ChCount.delta (c : ChCount) : List Nat :=
  leBytes 2 c.cycles ++ leBytes 2 c.edges ++ leBytes 2 c.onTime ++ leBytes 2 c.stress ++ leBytes 2 c.energy ++
    leBytes 2 (c.episodes % 32 + (c.shutdowns % 32) * 32 + (c.tcycles % 64) * 1024)

/-- The deltas of a channel read from 12 bytes. -/
def ChCount.ofDelta (b : List Nat) : ChCount :=
  let m := numAt b 10 2
  { cycles := numAt b 0 2, edges := numAt b 2 2, onTime := numAt b 4 2, stress := numAt b 6 2, energy := numAt b 8 2
    episodes := m % 32, shutdowns := bitsOf m 5 5, tcycles := m / 1024 }

/-- The number of channels bonded (R2). -/
def Hub.bonded (h : Hub) : Nat := if h.chip.part == .pwh1640 then 16 else 8

/-- The address of slot `n` of the ledger area (R654). -/
def slotAddr (n : Nat) : Nat := 0x60000 + 0x800 * n

/-- The 1,792 bytes of an image with a serial and channel totals (R655). -/
def Hub.lifeImage (h : Hub) (serial : Nat) (totals : Vector ChCount 16) : List Nat :=
  let hist := (List.range 300).flatMap (fun k =>
    leBytes 4 ((h.life.hist.find? (fun x => x.1 % 300 == k)).elim 0 (·.2)))
  withCrc (padTo 0x6FC 0
    ([0x4C, 0x49, 0x46, 0x45] ++ leBytes 2 1 ++ leBytes 2 h.bonded ++ leBytes 4 serial ++ leBytes 4 h.ret.boots ++
      { h.ret.life with serial := serial }.bytes ++ leBytes 4 h.ret.wdTotal ++ totals.toList.flatMap ChCount.bytes ++ hist))

/-- The 256 bytes of a power-down page with its base serial and deltas (R656). -/
def Hub.lifePage (h : Hub) (deltas : Vector ChCount 16) : List Nat :=
  withCrc (padTo 252 0
    ([0x4C, 0x49, 0x46, 0x50] ++ leBytes 4 h.ret.life.serial ++ leBytes 4 h.ret.boots ++ h.ret.life.bytes ++
      deltas.toList.flatMap ChCount.delta))

/-- The image in slot `n`, where it is valid (R655). -/
def Hub.imageOf (h : Hub) (n : Nat) : Option (List Nat) :=
  if h.nvmErased (slotAddr n) 0x700 then none
  else
    let b := h.nvmRead 0 (slotAddr n) 0x700
    if b.take 4 == [0x4C, 0x49, 0x46, 0x45] && crcGood b && numAt b 6 2 == h.bonded then some b else none

/-- The newest valid image and its slot: the highest serial. -/
def Hub.newestImage (h : Hub) : Option (Nat × List Nat) :=
  (List.range 4).foldl (fun (best : Option (Nat × List Nat)) n =>
    match h.imageOf n with
    | none => best
    | some b => match best with | none => some (n, b) | some y => if numAt y.2 8 4 < numAt b 8 4 then some (n, b) else some y) none

/-- The power-down page of slot `n`, where it is valid for the image of that serial (R656). -/
def Hub.pageOf (h : Hub) (n serial : Nat) : Option (List Nat) :=
  if h.nvmErased (slotAddr n + 0x700) 256 then none
  else
    let b := h.nvmRead 0 (slotAddr n + 0x700) 256
    if b.take 4 == [0x4C, 0x49, 0x46, 0x50] && crcGood b && numAt b 4 4 == serial then some b else none

end Sys2Proof.Machine
end

