-- ==== Sys2Proof/Machine/Resets.lean ====
section
/-!
DEFINITION. The resets (chapter 13, R426 to R447, R725): RSTn, the device soft reset, the ward reset and the field die reset.

What the spec leaves open here: DEDUCED, log entries 31, 45, 60, 64, 84.
-/

namespace Sys2Proof.Machine

/-! ### The trigger (R62, R63, R79) -/

/-- VWARN of a band in mV (R62). -/
def Band.vwarn : Band → Nat
  | .v18 => 1660
  | .v25 => 2300
  | .v33 => 3000

/-- VRST of a band in mV (R62). -/
def Band.vrst : Band → Nat
  | .v18 => 1580
  | .v25 => 2150
  | .v33 => 2800

/-- The rising levels lie 20 mV above the falling ones (R62). -/
def vddHyst : Nat := 20

/-- The trigger of R79: VDD is above its band's VRST plus the hysteresis, and RSTn is high. -/
def Hub.vddGood (h : Hub) : Bool := decide (h.sup.band.vrst + vddHyst < h.sup.vdd) && !h.dev.rstLow

/-- *Off* is left for *Boot* at the trigger of R79, once VDD is valid and RSTn is high: a retained block that PD_AON has kept is judged (one
that is lost waits for NVM access, R47, R89), a warning begins at once where VDD lies below VWARN (R63), and DA is on BOLT (R145). -/
def Hub.trigger (h : Hub) : Hub :=
  if h.dev.phase != .off || !h.vddGood then h
  else
    let por := h.dev.porWaits
    let low := decide (h.sup.vdd < h.sup.band.vwarn)
    let h := { h with dev := { h.dev with phase := .boot, porWaits := false }, life := { h.life with secondAt := h.clk.now } }
    let h := if h.ret.valid then h.retainedJudge else h.bootDomains
    let h := if por && h.ret.valid then h.history 1 0xF else h
    { h with
      dev := { h.dev with testHeld := h.dev.testen }
      sup := { h.sup with warn := low, warnAtTrigger := low, warnMin := h.sup.vdd / 10 } }.wantTone .bolt

/-! ### Logic-die resets (R427 to R429, R442) -/

/-- A program or erase that has begun inside the NVM is finished there (R442). -/
def Hub.nvmFinish (h : Hub) : Hub :=
  match h.nvmOp with
  | none => h
  | some o =>
    let h := { h with nvmOp := none }
    if o.kind == 0 then h else h.onNvm (h.nvmBoth o) o.make o.make

/-- What a logic-die reset makes of the NVM: a page still being shifted in is not programmed; what the device has begun
finishes (R442). -/
def Hub.nvmAtReset (h : Hub) (shifting : Bool) : Hub := if shifting then h.abandonNvm true else h.nvmFinish

/-- RSTN_LOW (R427, R428): RSTn has been low past its filter; the logic die is in reset until it is high again. -/
def execRstnLow (shifting : Bool) (s : State) : Host.Outcome State Fault Refusal :=
  s.on (fun h =>
    if h.dev.phase == .off then { h with dev := { h.dev with rstLow := true } }
    else if h.dev.rstLow then h
    else
      let h := ((h.nvmAtReset shifting).history 3 0xF).logicReset
      { h with dev := { h.dev with rstLow := true } })

/-- RSTN_RELEASE (R427): RSTn is high again. A hub in *Off* with VDD valid starts now, at the trigger of R79. -/
def execRstnRelease (s : State) : Host.Outcome State Fault Refusal :=
  s.on (fun h =>
    let h1 := { h with dev := { h.dev with rstLow := false } }
    if !h.dev.rstLow then h else if h.dev.phase == .off then h1.trigger else h1.bootCount)

/-- A device soft reset ordered, with its cause code and ward (R429, R435). -/
def Hub.orderReset (h : Hub) (cause ward : Nat) : Hub :=
  if h.dev.softReset.isSome then h else { h with dev := { h.dev with softReset := some (cause, ward) } }

/-- W0's write to RST_DEV (R429). -/
def Hub.writeRstDev (h : Hub) (w v : Nat) : Hub :=
  if w == 0 && v == 0x52535444 then h.orderReset 4 0 else h

/-- RST_DEV (R429). -/
def execRstDev (w : Fin 8) (v : Word) (s : State) : Host.Outcome State Fault Refusal :=
  s.on (fun h => if h.writable w then h.writeRstDev w v.toNat else h)

/-- DEVICE_SOFT_RESET (R428, R429): once no NVM program or erase runs. The history entry of a device watchdog's expiry has
been made at the expiry (R565). -/
def execDeviceSoftReset (s : State) : Host.Outcome State Fault Refusal :=
  s.on (fun h =>
    match h.dev.softReset with
    | none => h
    | some (cause, ward) =>
      let runs := match h.nvmOp with | some o => o.kind != 0 | none => false
      if runs then h
      else (if cause == 7 then h else h.history cause ward).logicReset.bootCount)

/-! ### Ward reset (R430 to R432, R725) -/

/-- An operation that is executing and runs to its end (R409): an NVM operation under way. -/
def Op.running (o : Op) : Bool := o.phase == .waiting && o.kind == 9

/-- The ward's operations at its reset (R409): those not executing are discarded and their slots freed; executing ones run
on, and their completions are discarded. -/
def Hub.dropOps (h : Hub) (w : Nat) : Hub :=
  let gone := (h.eng.ops.filter (fun o => o.ward == w && !o.running)).map (fun o => o.slot)
  let h := h.dropCand (fun c => c.kind == .operation && gone.contains c.ref)
  { h with eng := { h.eng with
      ops := (h.eng.ops.filter (fun o => !(o.ward == w && !o.running))).map
        (fun o => if o.ward == w then { o with dropped := true } else o) } }

/-- The state that channel `c` is commanded to: for a tumbler source its gate and the pin bit of the pattern in force (R202, R219). -/
def Hub.heldOn (h : Hub) (c : Nat) : Bool :=
  let src := h.rd OUT_CFG_src (h.lead c)
  h.cmdOn c && (src == 0 || vget h.hinge.cmd c 0 == 2 || bitOf (h.rd TMB_PATTERN_pins (src - 1)) (h.lead c))

/-- The pending turn-on of a channel cancelled, and OUT_CTRL.on set to the state held (R219; log entry 84). Where a tumbler's pattern keeps a
channel off, its gate closes: no switch moves. -/
def Hub.holdChannel (h : Hub) (c : Nat) : Hub :=
  let h := (h.dropCand (movesCh c)).modOut c (fun o => { o with wait := none })
  let h := h.put OUT_STAT_pending false c
  if !h.isOut c then h
  else
    let on := h.heldOn c
    let h := h.put OUT_CTRL_on on (h.lead c)
    if h.cmdOn c && !on then h.command [c] 0 false else h

/-- A tumbler of a ward in reset (R313): stopped with cause 4 and its pattern held, its MARCH abandoned with the bank's
contents undefined, its result registers cleared. -/
def Hub.resetTumbler (h : Hub) (t : Nat) : Hub :=
  let h := (h.tmbStop t 4 false).lower 30 t
  let h := if h.tmbState t == 5 then h.wr TMB_STAT_state 0 t else h
  let h := (h.put TMB_MARCH_FIRST_valid false t).wr TMB_MARCH_FIRST_addr 0 t
  (h.wr TMB_MARCH_SIG_sig 0 t).wr TMB_MARCH_CNT_count 0 t

/-- The banks that a ward owns (R431). -/
def Hub.banksOf (h : Hub) (w : Nat) : List Nat := (List.range 48).filter (fun b => h.ownsBank w b)

/-- Step 1 and 2 of R431: the ward enters *Reset* with a reason (1 itself, 2 W0, 3 its watchdog). A request for a ward in
*Reset* merges; a watchdog's shows (R447). -/
def Hub.wardReset (h : Hub) (w reason : Nat) : Hub :=
  if h.ward w == .absent then h
  else if h.ward w == .reset then (if reason == 3 then h.wr RST_WARD_STAT_reason 3 w else h)
  else
    let h := ((h.setWard w .reset).put RST_WARD_STAT_busy true w).wr RST_WARD_STAT_reason reason w
    let h := h.closePages w 0xFF
    let h := forAll (h.tmbsOf w) Hub.resetTumbler h
    let h := forAll (h.chsOf w) (fun h c => (h.holdChannel c).modIn c (fun i => { i with old := i.fifo.length })) h
    let h := (h.dropOps w).wardHandovers w
    let h := h.modWd w (fun x => { x with state := 0 })
    let h := h.modInt w (fun _ => {})
    if h.flag RST_WARD_CFG_clear_banks w then forAll (h.banksOf w) (fun h b => h.put BNK_STAT_clearing true b) h else h

/-- The fields of a ward's own instances of per-ward registers (R725). What R574's chapter and WRD_STAT count since the
logic-die reset is not among them. -/
def wardFlds : List Fld :=
  (fldsWRD ++ fldsOPS ++ fldsINT ++ fldsLIFE).filter (fun f => f.count == 8) ++
    [SCH_RT_stagger_rt, SCH_RT_tj_soft_rt, SCH_WSTAT_reason, SCH_WSTAT_deferred, SCH_WDEFER_count, FLT_SEL_source,
     CLK_TB_HI_tb, CLK_TB_EPOCH_wrapped, REC_NEWEST_SEQ_HI_seq, REC_RD_SLOT_slot, REC_RT_jsev_rt, REC_RT_flush_ms_rt]

/-- A field set back to the value of the copy made at the end of *Arming* (R725). -/
def Hub.restoreFld (h : Hub) (f : Fld) (i w : Nat) : Hub :=
  { h with regs := fileSet h.regs (fldKey f i w) (fileGet h.armed (fldKey f i w)) }

/-- One of a ward's own fields after its reset (R725). -/
def Hub.resetFld (h : Hub) (w : Nat) (f : Fld) : Hub :=
  let i := if f.count == 8 then w else 0
  if f.blank == .no then h.wr f f.reset i w
  else if f.acc == .ro then h
  else h.restoreFld f i w

/-- The input state of a ward's channel cleared (R272): entries accepted during the reset are kept, and bits whose condition is present are
set again at once. -/
def Hub.resetInput (h : Hub) (c : Nat) : Hub :=
  let h := h.modIn c (fun i => { i with fifo := i.fifo.drop i.old, old := 0, gapNext := false })
  let h := (h.wr IN_FIFO_overflow 0 c).wr IN_FIFO_discarded 0 c
  h.forcing c (fun h => h.modIn c (fun i => { i with flt := i.flt &&& i.live }))

/-- The entries of a ring cleared, where its bank is the ward's (R431). -/
def Hub.clearRing (h : Hub) (w bank log2 base : Nat) : Hub :=
  if h.ownsBank w bank then h.clearMem (bankAddr bank base) (bankAddr bank base + 16 * 2 ^ log2) else h

/-- The clearing of step 2 of R431. -/
def Hub.wardClear (h : Hub) (w : Nat) : Hub :=
  if h.flag RST_WARD_CFG_clear_banks w then
    forAll (h.banksOf w) (fun h b => (h.clearBank b).put BNK_STAT_clearing false b) h
  else if h.flag RST_WARD_CFG_clear_rings w then
    let h := if h.flag OPS_SQ_CFG_en w then
      h.clearRing w (h.rd OPS_SQ_CFG_bank w) (h.rd OPS_SQ_CFG_log2 w) (h.rd OPS_SQ_CFG_base w) else h
    if h.flag OPS_CQ_CFG_en w then
      h.clearRing w (h.rd OPS_CQ_CFG_bank w) (h.rd OPS_CQ_CFG_log2 w) (h.rd OPS_CQ_CFG_base w) else h
  else h

/-- The ward's own fields at step 3 of R431 (R725, R231): the trims of its channels return to 0 on both dies. -/
def Hub.wardFields (h : Hub) (w : Nat) : Hub :=
  let h := wardFlds.foldl (fun h f => h.resetFld w f) h
  let h := forAll (h.chsOf w) (fun h c =>
    let h := h.resetInput c
    if h.rd OUT_RT_ilim_rt c == 0 && h.rd OUT_RT_ol_period_rt c == 0 then h
    else ((h.wr OUT_RT_ilim_rt 0 c).wr OUT_RT_ol_period_rt 0 c).request (.trim c 0 0)) h
  let h := forAll (h.tmbsOf w) (fun h t =>
    let h := (h.restoreFld TMB_MARCH_SEED_seed t 0).wr TMB_CTRL_addr 0 t
    h.put TMB_CTRL_release false t) h
  forAll ((List.range 16).filter (fun k => h.flag TMB_CMP_CFG_en k && h.rd TMB_CMP_CFG_ward k == w)) (fun h k =>
    (h.restoreFld TMB_CMP_THR_hyst k 0).restoreFld TMB_CMP_THR_thr k 0) h

/-- A fault attributed to ward `w`, of a class other than record only, has its status set (R431). -/
def Hub.faultOf (h : Hub) (w : Nat) : Bool :=
  (List.range 62).any (fun n => bitOf (h.fltMask n) w && decide (1 ≤ h.fltClass n))

/-- The ward still has a ward-*Held* fault with its status set (R430, R447). -/
def Hub.heldFault (h : Hub) (w : Nat) : Bool :=
  (List.range 62).any (fun n => h.fltEnabled n && h.fltClass n == 4 && bitOf (h.fltMask n) w)

/-- Steps 2 to 4 of R431 end: the ward is *Active* again, and *Held* at once where a fault of that class has come in the meantime (R27). -/
def Hub.wardResetDone (h : Hub) (w : Nat) : Hub :=
  if h.dev.phase != .up || h.ward w != .reset || h.eng.ops.any (fun o => o.ward == w && o.dropped) then h
  else
    let resets := h.rd WRD_STAT_resets w
    let h := (h.wardClear w).wardFields w
    let h := (h.wr WRD_STAT_resets (satInc 65535 resets) w).put RST_WARD_STAT_busy false w
    let h := { h with
      eng := { h.eng with tokens := vset h.eng.tokens w (h.rd OPS_URG_depth w) }
      dpLow := vset h.dpLow w none, dpHigh := vset h.dpHigh w none }
    let h := (h.setWard w .active).wdStart w
    let h := if h.heldFault w then h.holdWard w 0 else h
    let h := if h.faultOf w then h.intEvent w 2 else h
    let h := if (h.chsOf w).any (fun c => h.flag OUT_STAT_safe_hold c) then h.intEvent w 21 else h
    if !h.lsy.rx.isEmpty && h.flag LSY_USER_rx_en && h.rd LSY_USER_rx_ward == w then h.intEvent w 18 else h

/-- Why a write of a ward to RST_WARD is refused (R430): its status, 0 where it is not. -/
def Hub.rstWardStatus (h : Hub) (w v : Nat) : Nat :=
  let t := v % 8
  if bitsOf v 16 16 != 0x5752 then 0
  else if w != 0 && t != w then 2
  else if h.ward t == .absent then 2
  else if h.ward t == .held && h.heldFault t then 7
  else 0

/-- A ward's write to RST_WARD (R430). -/
def Hub.writeRstWard (h : Hub) (w v : Nat) : Hub :=
  if bitsOf v 16 16 == 0x5752 && h.rstWardStatus w v == 0 then h.wardReset (v % 8) (if v % 8 == w then 1 else 2) else h

/-- RST_WARD (R430). -/
def execRstWard (w : Fin 8) (v : Word) (s : State) : Host.Outcome State Fault Refusal :=
  s.on (fun h => if h.writable w then h.writeRstWard w v.toNat else h)

/-- WARD_RESET_DONE (R431). -/
def execWardResetDone (w : Fin 8) (s : State) : Host.Outcome State Fault Refusal := s.on (fun h => h.wardResetDone w)

/-! ### Field die reset (R433, R443) -/

/-- A field die reset may be ordered: *Run*, *Degraded* or *Safe*, with the link established. -/
def Hub.fieldResetAllowed (h : Hub) : Bool := (h.runs || h.state == .safe) && h.hinge.upL

/-- W0's write to RST_FIELD (R433, step 1). -/
def Hub.writeRstField (h : Hub) (w v : Nat) : Hub :=
  if w == 0 && v == 0x52535446 && h.fieldResetAllowed && h.fieldReset == 0 then
    let h := ((h.put RST_FIELD_STAT_busy true).put RST_FIELD_STAT_timeout false).count RST_FIELD_STAT_count
    { h with fieldReset := 1, fieldSince := h.clk.now }.sendSafe h.outList
  else h

/-- RST_FIELD (R433). -/
def execRstField (w : Fin 8) (v : Word) (s : State) : Host.Outcome State Fault Refusal :=
  s.on (fun h => if h.writable w then h.writeRstField w v.toNat else h)

/-- FIELD_RESET_REQUEST (R433, steps 3 and 4): once every channel reports at_safe, or 1 ms has passed, the field die resets.
The field supervisor and the clock-loss monitor's oscillator are not reset; FTEST is sampled (R50), and the hold of VREG_FAIL ends (R70). -/
def execFieldResetRequest (s : State) : Host.Outcome State Fault Refusal :=
  s.on (fun h =>
    if h.fieldReset == 1 && (h.outList.all (fun c => h.flag OUT_STAT_at_safe c) || decide (h.fieldSince + Config.ticksPerMs ≤ h.clk.now)) then
      let h := h.fieldDieReset
      { h with
        fieldReset := 3, fieldSince := h.clk.now, dev := { h.dev with ftestHeld := h.dev.ftest }, sup := { h.sup with vregFail := false } }.lower 0 17
    else h)

/-- FIELD_RESET_TIMEOUT (R433): 5 ms after the request the link is not established. -/
def execFieldResetTimeout (s : State) : Host.Outcome State Fault Refusal :=
  s.on (fun h =>
    if h.fieldReset == 3 && !(h.hinge.upF && h.hinge.upL) && decide (h.fieldSince + 5 * Config.ticksPerMs ≤ h.clk.now) then (h.put RST_FIELD_STAT_timeout true).raise 11 16 1 detailOpen else h)

end Sys2Proof.Machine
end

