-- ==== Sys2Proof/Machine/Outputs.lean ====
section
/-!
DEFINITION. The commands of the output channels (chapter 07).

What the spec leaves open here: DEDUCED, log entries 30, 80, 90.
-/

namespace Sys2Proof.Machine

/-! ### The command of a channel (R202 to R206, R238) -/

/-- The channels that switch with channel `c`: both halves of a pair (R208). -/
def Hub.chSet (h : Hub) (c : Nat) : List Nat := match h.mate c with | some m => [c, m] | none => [c]



/-- A list of channels as a map. -/
def chMap (l : List Nat) : Nat := l.foldl setBit 0

/-- The ward that a candidate on channel `c` belongs to (R483); 8 where no ward owns it. -/
def Hub.candWard (h : Hub) (c : Nat) : Nat := (h.chOwner c).getD 8

/-- A candidate of class B on channel `c`. -/
def Hub.chCand (h : Hub) (kind : CandKind) (c : Nat) : Cand :=
  { kind := kind, ref := c, ward := h.candWard c, cls := 1, chs := if kind == .turnOff then 0 else chMap (h.chSet c)
    heavy := kind != .turnOff && h.flag OUT_CFG_heavy c && h.mode c != 8 }

/-- What waits for a channel is cancelled by a new command (R238); a command of off cancels a retry and the return of its supply mode as well
(R212, R215), while one of on keeps them. -/
def Hub.cancelCh (h : Hub) (c : Nat) (on : Bool) : Hub :=
  let back := fun (x : Cand) => !on && (x.kind == .retry || x.kind == .uvReturn)
  let h := (h.dropCand (fun x => (x.kind == .turnOn || x.kind == .turnOff || back x) && x.ref == c)).modOut c
    (fun o => { o with wait := none })
  h.put OUT_STAT_pending false c

/-- The shed mark of a channel set or cleared (R488). -/
def Hub.setShed (h : Hub) (c : Nat) (b : Bool) : Hub :=
  (h.put OUT_STAT_shed b c).wr SCH_SHED_ch (putBit (h.rd SCH_SHED_ch) c b)

/-- A shed ends: the restore that waits is cancelled (R488, R501). -/
def Hub.endShed (h : Hub) (c : Nat) : Hub :=
  forAll (h.chSet c) (fun h c => h.setShed c false)
    (h.dropCand (fun x => x.kind == .restore && x.ref == c))

/-! ### The 1oo2 pair's command (R340 to R342, R347) -/

/-- Channel `c` is the hub's pair channel (R340). -/
def Hub.isPairCh (h : Hub) (c : Nat) : Bool := h.flag LSY_PAIR_en && h.rd LSY_PAIR_ch == c

/-- The priority of a forward frame (R326), 0 first. -/
def lsyPrio (cmd : Nat) : Nat :=
  if cmd == 0x30 || cmd == 0x31 then 0 else if cmd == 0x10 || cmd == 0x11 then 1
  else if cmd == 0x01 || cmd == 0x02 || cmd == 0x03 then 2 else if cmd == 0x20 then 3 else 4

/-- A frame put into the forward queue by its priority, first in first out within one (R326). -/
def lsyPut (q : List LFrame) (f : LFrame) : List LFrame :=
  q.takeWhile (fun g => decide (lsyPrio g.cmd ≤ lsyPrio f.cmd)) ++ f :: q.dropWhile (fun g => decide (lsyPrio g.cmd ≤ lsyPrio f.cmd))

/-- A frame queued for LSYNC_OUT: at a full queue of 16 it displaces the newest frame of the lowest priority below its own,
or is dropped; each drop counts (R326). The queue is in order of priority, so that frame is its last. -/
def Hub.lsySend (h : Hub) (f : LFrame) : Hub :=
  let q := h.lsy.fwd
  if q.length < 16 then { h with lsy := { h.lsy with fwd := lsyPut q f } }
  else
    let h := h.count LSY_COUNTS_drops
    match q.getLast? with
    | some g => if lsyPrio f.cmd < lsyPrio g.cmd then { h with lsy := { h.lsy with fwd := lsyPut q.dropLast f } } else h
    | none => h

/-- The sync period in ticks. -/
def Hub.lsyTicks (h : Hub) : Nat := 100 * h.rd LSY_PERIOD_us

/-- The hub takes part in the chain in its present state. -/
def Hub.lsyOn (h : Hub) : Bool := h.flag LSY_CFG_en && h.dev.phase == .up && h.dev.halt.isNone

/-- The hub is aligned: the head always, while it sends; a member by LSY_STAT.aligned (R332). -/
def Hub.lsyAligned (h : Hub) : Bool := if h.flag LSY_CFG_head then h.flag LSY_STAT_up_ok else h.flag LSY_STAT_aligned

/-- A close is scheduled for the instant `t`: the turn-on asks for admission as a class A candidate (R342, R483). -/
def Hub.pairSchedule (h : Hub) (t : Nat) : Hub :=
  let c := h.rd LSY_PAIR_ch
  let h := { h with lsy := { h.lsy with closeAt := some t, closeAdmitted := false, closePast := false } }
  let h := (h.put LSY_PAIR_STAT_close_sched true).wr LSY_PAIR_T_t t
  h.submit { h.chCand CandKind.pairClose c with cls := 0, instant := some t }

/-- The upstream hub of a pair chooses T once both commands are 1 and sends PAIR_CLOSE (R342). -/
def Hub.pairTry (h : Hub) : Hub :=
  let c := h.rd LSY_PAIR_ch
  let both := h.flag OUT_CTRL_on c && (match h.lsy.hb with | some p => bitOf p 26 | none => false)
  if h.lsyOn && h.flag LSY_PAIR_en && h.flag LSY_PAIR_partner && both && h.lsy.closeAt.isNone && !h.lsy.pairOn && h.lsyAligned &&
      !h.flag OUT_STAT_safe_hold c then
    let t := (h.clk.tb / max 1 h.lsyTicks + 1 + h.rd LSY_PAIR_lead) * h.lsyTicks
    (h.lsySend { cmd := 0x31, payload := t % 2 ^ 32 }).pairSchedule t
  else h

/-- A scheduled close is cancelled (R347); the pair counts as open. -/
def Hub.pairCancel (h : Hub) : Hub :=
  let h := h.dropCand (fun x => x.kind == CandKind.pairClose)
  let h := { h with
    lsy := { h.lsy with closeAt := none, closeAdmitted := false, closePast := false, pairOn := false, run4 := 0 }
    sch := { h.sch with admitted := h.sch.admitted.filter (fun a => a.kind != CandKind.pairClose) } }
  h.put LSY_PAIR_STAT_close_sched false

/-- A new command of a channel's own ward: at once where it moves the channel toward its safe state or ends a lit check,
else as a candidate (R203, R223). A pair channel is not switched on by its command (R342). -/
def Hub.ownCommand (h : Hub) (c : Nat) (on : Bool) : Hub :=
  let now := h.cmdOn c
  let same := on == now && vget h.hinge.cmd c 0 != 2
  if h.isPairCh c && on then (h.cancelCh c on).pairTry
  else if h.isPairCh c then (h.pairCancel.cancelCh c on).command [c] 0 true
  else if same then h.cancelCh c on
  else if on == h.safeOn c then (h.cancelCh c on).command (h.chSet c) (b2n on) true
  else if on && (h.out c).lit then (h.cancelCh c on).command (h.chSet c) 1 false
  else
    let h := h.cancelCh c on
    let h := (h.modOut c (fun o => { o with wait := some on })).put OUT_STAT_pending true c
    h.submit (h.chCand (if on then .turnOn else .turnOff) c)

/-- A latched shutdown of a channel is cleared (R212): the channel turns on again only at its next on command. -/
def Hub.rearmCh (h : Hub) (c : Nat) (port : Option (Nat × Nat) := none) : Hub :=
  if !h.flag OUT_STAT_tsd_latched c then h
  else
    let h := { h with hinge := { h.hinge with cmd := (h.chSet c).foldl (fun v x => vset v x 0) h.hinge.cmd } }
    forAll (h.chSet c) (fun h x => h.request (.rearm x) port) h

/-- A write of the owning ward to OUT_CTRL (R202, R205, R212, R488). In an input mode, and on the odd half of a pair, it
changes nothing (R200, R208). -/
def Hub.writeOutCtrl (h : Hub) (c v : Nat) (port : Option (Nat × Nat) := none) : Hub :=
  if !h.isOut c || h.lead c != c then h
  else
    let on := bitOf v 0
    let h := if bitOf v 1 then h.rearmCh c port else h
    let free := h.state != .safe && !h.flag HNG_BOLT_field_latched
    let h := if free then forAll (h.chSet c) (fun h x => h.put OUT_STAT_safe_hold false x) h else h
    let h := h.put OUT_CTRL_on on c
    if h.flag OUT_STAT_safe_hold c then h
    else if h.flag OUT_STAT_shed c then (if on then h.submit { h.chCand .restore c with cls := 2 } else h.endShed c)
    else h.ownCommand c on

/-- A write to OUT_CTRL is allowed: by the owning ward, with the link up, and in *Safe* only where it moves no channel off its
safe state (R204, check 10 of R363). -/
def Hub.outCtrlOk (h : Hub) (w c v : Nat) : Bool :=
  h.writable w && h.chOwner c == some w && h.hinge.upL && h.fieldReset == 0 && !(h.state == .safe && bitOf v 0 != h.safeOn c)

/-- OUT_CTRL_WRITE (R205). -/
def execOutCtrlWrite (w : Fin 8) (c : Fin 16) (v : Word) (s : State) : Host.Outcome State Fault Refusal :=
  s.on (fun h => if h.outCtrlOk w c v.toNat then h.writeOutCtrl c v.toNat else h)

/-- REARM (R212): a write to OUT_CTRL with `rearm` at 1. -/
def execRearm (w : Fin 8) (c : Fin 16) (v : Word) (s : State) : Host.Outcome State Fault Refusal :=
  s.on (fun h => if bitOf v.toNat 1 && h.outCtrlOk w c v.toNat then h.writeOutCtrl c v.toNat else h)

/-! ### Limiting, shutdown and supply modes (R210 to R215, R229 to R231, R236) -/

/-- The Blank's ILIM of a channel from its three fields, in 0.1 A (R210, R229). -/
def ilimOf (fine preset : Nat) : Nat := if fine != 0 then fine else [5, 10, 15, 24].getD preset 5

/-- The Blank's ILIM as the logic die holds it. -/
def Hub.blankIlim (h : Hub) (c : Nat) : Nat := ilimOf (h.rd OUT_LIM_ilim_fine (h.lead c)) (h.rd OUT_LIM_preset (h.lead c))

/-- The ILIM in force on the field die, in 0.1 A (R231). -/
def Hub.fIlim (h : Hub) (c : Nat) : Nat :=
  let l := h.fLead c
  let b := ilimOf (h.frd OUT_LIM_ilim_fine l) (h.frd OUT_LIM_preset l)
  let r := (h.out l).rtIlim
  if (h.out c).limiting then (h.out c).limAt else if r == 0 then b else min r b

/-- The ILIM that the scheduler prices a turn-on at: the trimmed one (R231, R480). -/
def Hub.pricedIlim (h : Hub) (c : Nat) : Nat :=
  let r := h.rd OUT_RT_ilim_rt (h.lead c)
  if r == 0 then h.blankIlim c else min r (h.blankIlim c)

/-- LIMIT_BEGIN (R211): the switch regulates at ILIM; `v` is the pin voltage in 10 mV. -/
def execLimitBegin (c : Fin 16) (v : BitVec 16) (s : State) : Host.Outcome State Fault Refusal :=
  s.on (fun h =>
    if !(h.out c).sw || (h.out c).limiting || !h.fIsOut c then h
    else
      let il := h.fIlim c
      let drop := ((h.sup.vf : Int) - 10 * v.toInt).toNat
      h.modOut c (fun o => { o.stopRun h.clk.now with limiting := true, episode := false, limAt := il, limMw := drop * il / 10 }))

/-- LIMIT_EPISODE (R211): limiting has lasted 1 ms. -/
def execLimitEpisode (c : Fin 16) (s : State) : Host.Outcome State Fault Refusal :=
  s.on (fun h =>
    if !(h.out c).limiting || (h.out c).episode then h
    else
      let h := (h.modOut c (fun o => { o with episode := true })).modAcc c
        (fun a => { a with episodes := satInc (2 ^ 32 - 1) a.episodes })
      h.outRise c 3 0)

/-- LIMIT_END (R211): the load current falls below ILIM. -/
def execLimitEnd (c : Fin 16) (s : State) : Host.Outcome State Fault Refusal :=
  s.on (fun h =>
    if (h.out c).limiting then
      (h.modOut c (fun o => { o with limiting := false, limAt := 0, ranSince := some h.clk.now })).outFall c 3
    else h)

/-- A channel shuts down, both halves of a pair: it latches off or waits to retry (R209, R212, R229, R230). -/
def Hub.shutdown (h : Hub) (c : Nat) (soft hot : Bool) : Hub :=
  let l := h.fLead c
  let retry := h.frd OUT_LIM_retry l
  let maxRetry := h.frd OUT_LIM_retry_max l
  let h := h.modOut l (fun o => o.stopRun h.clk.now)
  let n := (h.out l).shutdowns + 1
  let again := retry != 0 && (maxRetry == 0 || n < maxRetry)
  let h := h.modAcc c (fun a => { a with shutdowns := satInc 65535 a.shutdowns })
  forAll (h.fHalves c) (fun h x =>
    let h := h.modOut x (fun o => { o with
      hot := o.hot || (hot && x == c), shutdowns := n, softCut := soft, ranSince := none
      tsdLatched := o.tsdLatched || !again, retryWait := again && !o.tsdLatched, retryDone := false, go := false })
    let h := (h.reSwitch x).outRise x 4 0
    if h.flag OUT_STAT_shed x then h.endShed (h.lead x) else h) h

/-- THERMAL_SHUTDOWN (R212): the junction sensor reads 175 °C. A switch that is off cannot turn on until the junction has
fallen below 160 °C. -/
def execThermalShutdown (c : Fin 16) (s : State) : Host.Outcome State Fault Refusal :=
  s.on (fun h =>
    if !h.fIsOut c then h
    else if (h.out c).sw then h.shutdown c false true
    else h.modOut c (fun o => { o with hot := true }))

/-- A channel that its supply mode or a shutdown holds off asks to return, once every cause allows it (R212, R215, R236,
R239): through admission, or at once where its safe state is ON. -/
def Hub.tryReturn (h : Hub) (c : Nat) : Hub :=
  let l := h.fLead c
  let o := h.out l
  let ready := (h.fHalves c).all (fun x =>
    let y := h.out x
    !y.uvLow && !y.hot && (!y.retryWait || y.retryDone))
  if !(o.uvOff || o.retryWait) || !ready then h
  else if o.tsdLatched || !o.latched then
    forAll (h.fHalves c) (fun h x => ((h.modOut x (fun o => { o with uvOff := false })).outFall x 11).reSwitch x) h
  else if h.fSafeOn l && !o.retryWait then forAll (h.fHalves c) Hub.goReturn h
  else if h.flag OUT_STAT_shed l then h
  else h.submit (h.chCand (if o.uvOff then .uvReturn else .retry) l)

/-- RETRY_EXPIRY (R212): the time in ms that has passed since the shutdown has come to retry × 10 ms. -/
def execRetryExpiry (x : ChSpan) (s : State) : Host.Outcome State Fault Refusal :=
  s.on (fun h =>
    if (h.out x.c).retryWait && 10 * h.frd OUT_LIM_retry (h.fLead x.c) ≤ x.t.toNat then
      (forAll (h.fHalves x.c) (fun h k => h.modOut k (fun o => { o with retryDone := o.retryWait })) h).tryReturn x.c
    else h)

/-- RESTART_THRESHOLD (R212): the junction falls below 160 °C. -/
def execRestartThreshold (c : Fin 16) (s : State) : Host.Outcome State Fault Refusal :=
  s.on (fun h =>
    if (h.out c).hot then ((h.modOut c (fun o => { o with hot := false })).reSwitch c).tryReturn c else h)

/-- UVTH of an auto-restart channel, and the level above which it may return, in 10 mV (R215). -/
def Hub.uvth (h : Hub) (c : Nat) : Nat := 800 + 50 * h.frd OUT_UV_uvth (h.fLead c)
/-- UVTH plus the hysteresis. -/
def Hub.uvBack (h : Hub) (c : Nat) : Nat := h.uvth c + 50 * (h.frd OUT_UV_hyst (h.fLead c) + 1)

/-- Channel `c` is in auto-restart supply mode (R215). -/
def Hub.autoRestart (h : Hub) (c : Nat) : Bool := h.fIsOut c && h.frd OUT_CFG_supply (h.fLead c) != 0

/-- UV_OFF (R215): VF, in 10 mV, falls below UVTH; an auto-restart channel that is on turns off. The episode that a restart is costed by is
one that ran into this turn-off (R236). -/
def execUvOff (u : ChSupply) (s : State) : Host.Outcome State Fault Refusal :=
  s.on (fun h =>
    let c := u.c
    if !h.autoRestart c || h.uvth c ≤ u.vf.toNat then h
    else
      forAll (h.fHalves c) (fun h x =>
        let o := h.out x
        (h.modOut x (fun y => { y with
          uvLow := true, go := false, limMw := if o.limiting || o.retryWait then y.limMw else 0 })).reSwitch x)
        (h.dropCand (fun x => x.kind == .uvReturn && x.ref == h.fLead c)))

/-- UV_RESTART (R215): VF, in 10 mV, has stayed above UVTH plus the hysteresis for some ms: the restart delay has passed. -/
def execUvRestart (u : ChSupplyBack) (s : State) : Host.Outcome State Fault Refusal :=
  s.on (fun h =>
    let c := u.c
    if (h.out c).uvLow && h.uvBack c < u.vf.toNat && h.frd OUT_UV_delay (h.fLead c) ≤ u.ms.toNat then
      (forAll (h.fHalves c) (fun h x => h.modOut x (fun o => { o with uvLow := false })) h).tryReturn c
    else h)

/-! ### Open-load and lit checks (R221 to R223, R240) -/

/-- The channel is commanded off, its pin has been off for 2 ms, and no check, pulse or blanking is under way. -/
def Hub.restingOff (h : Hub) (c : Nat) : Bool :=
  let o := h.out c
  h.fIsOut c && h.hinge.configured && !o.hiz && !o.latched && !o.sw && !o.check && !o.lit && o.pulse.isNone &&
    decide (o.offAt + 2 * Config.ticksPerMs ≤ h.clk.now) && decide (o.blankTill ≤ h.clk.now)

/-- The interval of the off-state and lit checks in 10 ms: the Blank's, or a shorter trim (R221, R231). -/
def Hub.checkPeriod (h : Hub) (c : Nat) : Nat :=
  let l := h.fLead c
  let b := h.frd OUT_DIAG_ol_period l
  if (h.out l).rtPeriod == 0 then b else min b (h.out l).rtPeriod

/-- No lit check starts on a shed or held channel, in *Safe* or without the link (R223). -/
def Hub.litBarred (h : Hub) (c : Nat) : Bool :=
  h.flag OUT_STAT_shed c || h.flag OUT_STAT_safe_hold c || h.state == .safe || !h.hinge.upL

/-- OFF_STATE_CHECK (R221, R223): with the time in ms since the channel's last check, or since it went off, at the check interval, a 200 µs
pull-up check starts, or a lit check of an LED channel asks for admission at the cost of a turn-on (R480). -/
def execOffStateCheck (x : ChSpan) (s : State) : Host.Outcome State Fault Refusal :=
  s.on (fun h =>
    let c := x.c
    if !h.restingOff c || h.frd OUT_DIAG_ol_off_en (h.fLead c) == 0 || x.t.toNat < 10 * h.checkPeriod c then h
    else if h.fMode c == 5 then (if h.litBarred c then h else h.submit { h.chCand .litCheck c with cls := 2, heavy := false })
    else h.modOut c (fun o => { o with check := true }))

/-- The comparator and short-to-VF levels of R221 and R225, in 10 mV. -/
def olLevel : Int := 200
/-- 6.0 V. -/
def shortLevel : Int := 600

/-- A failing or passing open-load check judged: two in a row set open_off. Nothing is concluded with VF above 45 V (R708). -/
def Hub.olJudge (h : Hub) (c : Nat) (fail : Bool) : Hub :=
  if h.vfHigh then h
  else if fail then
    let h := h.modOut c (fun o => { o with checkFails := o.checkFails + 1 })
    if 2 ≤ (h.out c).checkFails then h.outRise c 0 0 else h
  else (h.modOut c (fun o => { o with checkFails := 0 })).outFall c 0

/-- The conclusion of an off-state check at a pin voltage: open load, a short to VF, or a load present (R225, R240). -/
def Hub.offConclude (h : Hub) (c : Nat) (v : Int) : Hub :=
  let h := h.modOut c (fun o => { o with check := false })
  if h.vfHigh then h
  else if shortLevel ≤ v then h.outRise c 2 0 else (h.outFall c 2).olJudge c (decide (olLevel ≤ v))

/-- OFF_STATE_CHECK_END (R221): the pin voltage at the end of the window, in 10 mV. -/
def execOffStateCheckEnd (c : Fin 16) (v : BitVec 16) (s : State) : Host.Outcome State Fault Refusal :=
  s.on (fun h => if (h.out c).check then h.offConclude c v.toInt else h)

/-- The lit check's 100 µs begin: the switch goes on, uncounted (R223, R649). -/
def Hub.litStart (h : Hub) (c : Nat) : Hub :=
  h.modOut c (fun o => { o with lit := true, litOk := false, sw := h.mayConduct c })

/-- LIT_CHECK (R223): an admitted lit check starts; none does on a shed or held channel, in *Safe* or without the link. -/
def execLitCheck (c : Fin 16) (s : State) : Host.Outcome State Fault Refusal :=
  s.on (fun h =>
    if !(h.out c).litOk then h
    else if !h.restingOff c || h.litBarred c then h.modOut c (fun o => { o with litOk := false })
    else h.litStart c)

/-- A fine-range current below the LED threshold of R222: 15.625 µA steps against 0.25 mA × (led_ol + 1). -/
def Hub.belowLed (h : Hub) (c fine : Nat) : Bool := decide (fine < 16 * (h.frd OUT_DIAG_led_ol (h.fLead c) + 1))

/-- A lit check ends with the fine-range current; level checks stay blanked for 100 µs. -/
def Hub.litConclude (h : Hub) (c fine : Nat) : Hub :=
  let h := (h.modOut c (fun o => { o with lit := true })).reSwitch c false
  h.olJudge c (h.belowLed c fine)

/-- LIT_CHECK_END (R223). -/
def execLitCheckEnd (c : Fin 16) (fine : BitVec 12) (s : State) : Host.Outcome State Fault Refusal :=
  s.on (fun h => if (h.out c).lit then h.litConclude c fine.toNat else h)

/-! ### Readback (R222, R224, R225) -/

/-- The conclusion stuck on (true) or stuck off that stands for channel `c`, or that its last level check, no older than 1 ms, points to. -/
def Hub.stuckTo (h : Hub) (c : Nat) : Option Bool :=
  if h.outLive c 5 then some true else if h.outLive c 6 then some false
  else match (h.out c).failAt with
    | some (b, t) => if h.clk.now ≤ t + Config.ticksPerMs then some b else none
    | none => none

/-- The halves of a pair differ in current by more than 30 % of the pair current above 0.5 A (R209). -/
def pairApart (a b : Nat) : Bool := decide (500 < a + b) && decide (30 * (a + b) < 100 * (if a < b then b - a else a - b))

/-- OUT_FLT.pair judged on the even channel (R209): present while a half stands stuck and the other one reads otherwise, or while the half
currents have differed beyond the limit for 10 ms. -/
def Hub.pairJudge (h : Hub) (c : Nat) : Hub :=
  if h.fMode c != 7 || h.vfHigh then h
  else
    let l := h.fLead c
    let stuck := h.outLive l 5 || h.outLive l 6 || h.outLive (l + 1) 5 || h.outLive (l + 1) 6
    let long := match (h.out l).pairSince with | some t => decide (t + 10 * Config.ticksPerMs ≤ h.clk.now) | none => false
    if (stuck && h.stuckTo l != h.stuckTo (l + 1)) || long then h.outRise l 10 0
    else if (h.out l).pairSince.isNone then h.outFall l 10 else h

/-- A failing level check: two no more than 1 ms apart are a stuck conclusion (R225). -/
def Hub.failCheck (h : Hub) (c : Nat) (stuckOn : Bool) : Hub :=
  let two := match (h.out c).failAt with
    | some (b, t) => b == stuckOn && decide (h.clk.now ≤ t + Config.ticksPerMs)
    | none => false
  let h := h.modOut c (fun o => { o with failAt := some (stuckOn, h.clk.now) })
  if two then (h.outRise c (if stuckOn then 5 else 6) 0).pairJudge c else h

/-- A passing level check. -/
def Hub.passCheck (h : Hub) (c : Nat) : Hub :=
  (((h.modOut c (fun o => { o with failAt := none })).outFall c 5).outFall c 6).pairJudge c

/-- The current of an on channel is below its open-load threshold (R222): 0.78125 mA steps against 10 mA × ol_on. A channel in mode 6 has no
such check. -/
def Hub.belowOpen (h : Hub) (c normal fine : Nat) : Bool :=
  if h.fMode c == 5 then h.belowLed c fine
  else h.fMode c != 6 && decide (25 * normal < 320 * h.frd OUT_DIAG_ol_on (h.fLead c))

/-- The open-load check of an on channel: below the threshold for 10 ms. -/
def Hub.openCheck (h : Hub) (c normal fine : Nat) : Hub :=
  if h.belowOpen c normal fine then
    match (h.out c).openSince with
    | none => h.modOut c (fun o => { o with openSince := some h.clk.now })
    | some t => if t + 10 * Config.ticksPerMs ≤ h.clk.now then h.outRise c 1 0 else h
  else (h.modOut c (fun o => { o with openSince := none })).outFall c 1

/-- A level check of a channel that is on (R225): its pin within 3 V of VF, limiting, or a failing check. -/
def Hub.checkOn (h : Hub) (c : Nat) (v : Int) (normal fine : Nat) : Hub :=
  if !(h.out c).sw then h
  else if (h.sup.vf : Int) - 3000 ≤ 10 * v then (h.passCheck c).openCheck c normal fine
  else if (h.out c).limiting then h
  else h.failCheck c false

/-- A level check of a channel that is off (R225). -/
def Hub.checkOff (h : Hub) (c : Nat) (v : Int) (normal : Nat) : Hub :=
  if v < shortLevel then
    ((h.passCheck c).outFall c 2).modOut c (fun o => { o with highSince := none })
  else if 25 * normal < 640 then
    let o := h.out c
    match o.highSince with
    | none => h.modOut c (fun o => { o with highSince := some h.clk.now })
    | some t =>
      if t + Config.ticksPerMs ≤ h.clk.now && o.offAt + 2 * Config.ticksPerMs ≤ h.clk.now then h.outRise c 2 0 else h
  else h.failCheck c true

/-- Level checks are due: the command has stood for 100 µs, nothing blanks or suspends them, and no check or pulse runs (R224, R232, R708). -/
def Hub.levelDue (h : Hub) (c : Nat) : Bool :=
  let o := h.out c
  h.hinge.configured && !o.hiz && o.pulse.isNone && !o.check && !o.lit && !h.vfHigh &&
    decide (o.changedAt + 100 * Config.ticksPerUs ≤ h.clk.now) && decide (o.blankTill ≤ h.clk.now)

/-- The measured current in mA: the fine range for an LED channel that does not saturate it (R200). -/
def Hub.measMa (h : Hub) (c normal fine : Nat) : Nat :=
  if h.fMode c == 5 && fine < 4095 then (fine * 15625 + 999999) / 1000000 else (normal * 25 + 31) / 32

/-- The currents of a pair's halves compared after a measurement (R209). -/
def Hub.pairCompare (h : Hub) (c : Nat) : Hub :=
  if h.fMode c != 7 then h
  else
    let l := h.fLead c
    let apart := pairApart (h.out l).cur (h.out (l + 1)).cur
    (h.modOut l (fun o => { o with pairSince := if apart then some (o.pairSince.getD h.clk.now) else none })).pairJudge c

/-- A measured pin voltage in 10 mV and normal-range current pass the pulse of a kind (R233). -/
def Hub.pulsePasses (h : Hub) (k : PulseKind) (v : Int) (normal : Nat) : Bool :=
  match k with
  | .dark => decide (10 * v < (h.sup.vf : Int) - 6000) || decide (25 * normal < 320)
  | .bright => decide ((h.sup.vf : Int) - 3000 ≤ 10 * v)

/-- A measurement of an output's pin voltage and currents taken (R224). In a test pulse it may pass it (R233); at 6.0 V or above in an
off-state check it ends the check with the short concluded (R240). -/
def Hub.readback (h : Hub) (c : Nat) (v : Int) (normal fine : Nat) : Hub :=
  let h := if h.hinge.upL then
      ((h.wr OUT_MEAS_V_vpin (ofSigned 16 v) c).wr OUT_MEAS_I_normal normal c).wr OUT_MEAS_I_fine fine c
        |>.put OUT_MEAS_I_fine_sat (fine == 4095) c
    else h
  let ma := h.measMa c normal fine
  let h := (h.modOut c (fun o => { o with cur := ma })).pairCompare c
  let o := h.out c
  let h := match o.pulse with
    | some k => if h.pulsePasses k v normal then h.modOut (h.fLead c) (fun o => { o with pulsePass := true }) else h
    | none => h
  let h := if o.sw && !o.lit && o.pulse.isNone then { h with sch := { h.sch with iest := vset h.sch.iest c (some ma) } } else h
  if o.check && shortLevel ≤ v then h.offConclude c v
  else if !h.levelDue c then h
  else if o.latched then h.checkOn c v normal fine
  else h.checkOff c v normal

/-- READBACK (R225): ADC-A's pin voltage in 10 mV, and the currents of the normal and the fine range. -/
def execReadback (c : Fin 16) (v : BitVec 16) (normal fine : BitVec 12) (s : State) : Host.Outcome State Fault Refusal :=
  s.on (fun h => if h.sup.fieldUp && h.fIsOut c then h.readback c v.toInt normal.toNat fine.toNat else h)

/-! ### Test pulses (R232 to R235) -/

/-- The tumbler named in OUT_TP.tmb asks for a pulse: its pin bit for the channel is 1 (R232); a pair is the even channel (R208). -/
def Hub.pulseAsked (h : Hub) (c : Nat) : Bool :=
  let l := h.fLead c
  bitOf (vget h.hinge.vecs (h.frd OUT_TP_tmb l) {}).pins l

/-- A pulse begins on a channel, both halves of a pair: the switch is inverted, and its output state latch stays. -/
def Hub.pulseStart (h : Hub) (c : Nat) (k : PulseKind) : Hub :=
  forAll (h.fHalves c) (fun h x => h.modOut x (fun o => { o with pulse := some k, pulsed := true, sw := k == .bright, pulsePass := false })) h

/-- DARK_PULSE (R232, R240): a requested pulse inverts the channel's state: dark on an energised channel that is not limiting, bright on one
that is off; none is placed in a check. -/
def execDarkPulse (c : Fin 16) (s : State) : Host.Outcome State Fault Refusal :=
  s.on (fun h =>
    let l := h.fLead c
    let all := fun (p : Nat → OutCh → Bool) => (h.fHalves c).all (fun x => p x (h.out x))
    if !h.fIsOut c || !h.hinge.configured || !h.pulseAsked c || !all (fun _ o => !o.hiz && o.pulse.isNone && !o.pulsed && !o.lit) then h
    else if h.frd OUT_TP_dark_en l != 0 && all (fun _ o => o.sw && !o.limiting) then h.pulseStart c .dark
    else if h.frd OUT_TP_bright_en l != 0 && all (fun x o => !o.latched && !o.check && h.mayConduct x) then h.pulseStart c .bright
    else h)

/-- The longest pulse of a kind in µs (R232). -/
def Hub.pulseMax (h : Hub) (c : Nat) (k : PulseKind) : Nat :=
  10 * (if k == .dark then h.frd OUT_TP_dark_max (h.fLead c) else h.frd OUT_TP_bright_max (h.fLead c))

/-- PULSE_END (R232, R233): a pulse ends when its bit has returned to 0, or after its longest time, `us` being the time it has lasted in µs.
`v` and `i` are the pin voltage in 10 mV and the current, in 0.78125 mA, that decide it: the lowest seen in a dark pulse, the highest voltage
in a bright one. With VF above 45 V a pulse that does not pass sets nothing (R708). -/
def execPulseEnd (x : ChSpan) (v : BitVec 16) (i : BitVec 12) (s : State) : Host.Outcome State Fault Refusal :=
  s.on (fun h =>
    let c := x.c
    match (h.out c).pulse with
    | none => h
    | some k =>
      if h.pulseAsked c && x.t.toNat < h.pulseMax c k then h
      else
        let l := h.fLead c
        let pass := (h.out l).pulsePass || h.pulsePasses k v.toInt i.toNat
        let h := forAll (h.fHalves c) (fun h x => h.reSwitch x false) h
        let bit := if k == .dark then 7 else 8
        if pass then
          let h := h.outFall l bit
          if k == .dark then (h.modOut l (fun o => { o with tpSeen := true })).outFall l 9 else h
        else if h.vfHigh then h
        else h.outRise l bit 0)

/-- TP_MISS (R234): a supervision interval of 2 ms × period ends, `ms` after it began; without a passing dark pulse in it tp_miss is set. -/
def execTpMiss (x : ChSpan) (s : State) : Host.Outcome State Fault Refusal :=
  s.on (fun h =>
    let c := x.c
    if !h.darkSupervised c || x.t.toNat < 2 * h.frd OUT_TP_period c then h
    else if (h.out c).tpSeen then h.modOut c (fun o => { o with tpSeen := false })
    else h.outRise c 9 0)

/-- PWM_EDGE_CHECK (R235): the pin voltage 40 µs after a commanded edge counts with the level checks. -/
def execPwmEdgeCheck (c : Fin 16) (v : BitVec 16) (s : State) : Host.Outcome State Fault Refusal :=
  s.on (fun h =>
    let o := h.out c
    let mv := 10 * v.toInt
    if h.fMode c != 8 || !h.hinge.configured || o.hiz || h.vfHigh then h
    else if o.latched then
      (if !o.sw || o.limiting then h
       else if (h.sup.vf : Int) - 3000 ≤ mv then h.passCheck c else h.failCheck c false)
    else if mv < (h.sup.vf : Int) - 6000 then h.passCheck c
    else h.failCheck c true)

/-- PAIR_MISMATCH (R209): the currents of a pair's halves, in mA, have differed for 10 ms. -/
def execPairMismatch (x : PairCurrents) (s : State) : Host.Outcome State Fault Refusal :=
  s.on (fun h =>
    let c := x.c
    if h.fMode c == 7 && (h.out c).sw && !h.vfHigh && pairApart x.a.toNat x.b.toNat then
      let l := h.fLead c
      (h.modOut l (fun o => { o with pairSince := some (h.clk.now - 10 * Config.ticksPerMs) })).outRise l 10 0
    else h)

/-! ### Trims and clears (R227, R231) -/

/-- The trim of a channel's ILIM that a write is taken as (R231). -/
def Hub.takenIlim (h : Hub) (c v : Nat) : Nat := let b := h.blankIlim c; if v == 0 then 0 else min v b

/-- The trim of the check interval that a write is taken as: 0, or a longer one, is the Blank's (R231). -/
def Hub.takenPeriod (h : Hub) (c v : Nat) : Nat := if v == 0 then 0 else min v (h.rd OUT_DIAG_ol_period c)

/-- A write of the owning ward to OUT_RT (R231). -/
def Hub.writeOutRt (h : Hub) (c v : Nat) (port : Option (Nat × Nat) := none) : Hub :=
  if !h.isOut c || h.lead c != c then h
  else
    let il := h.takenIlim c (bitsOf v 24 5)
    let per := h.takenPeriod c (bitsOf v 0 8)
    ((h.wr OUT_RT_ilim_rt il c).wr OUT_RT_ol_period_rt per c).request (.trim c il per) port

/-- OUT_RT_WRITE (R231): with page 4 open, on a channel that is not marked safety. -/
def execOutRtWrite (w : Fin 8) (c : Fin 16) (v : Word) (s : State) : Host.Outcome State Fault Refusal :=
  s.on (fun h =>
    if h.writable w && h.chOwner c == some w.val && bitOf (h.rd WRD_EXP_OPEN_open w) 4 && h.hinge.upL &&
        h.fieldReset == 0 && !h.flag OUT_CFG_safety (h.lead c) then h.writeOutRt c v.toNat else h)

/-- The OUT_FLT bits of a W1C write whose condition is present: they stay set (R227). -/
def Hub.outKept (h : Hub) (c v : Nat) : Nat :=
  (bitList 12 v).foldl (fun m b => if h.outLive c b then setBit m b else m) 0

/-- A W1C write to OUT_FLT (R227). -/
def Hub.writeOutFlt (h : Hub) (c v : Nat) (port : Option (Nat × Nat) := none) : Hub :=
  let v := v % 4096
  let kept := h.outKept c v
  let go := clrMask v kept
  let h := h.count FLT_CLR_REFUSED_live (popCount 12 kept)
  let h := (List.range 12).foldl (fun h b => if bitOf go b then h.put (outFltFlds.getD b OUT_FLT_open_off) false c else h) h
  if go == 0 then h else h.request (.clearOut c go) port

/-- OUT_FLT_CLEAR (R227). -/
def execOutFltClear (w : Fin 8) (c : Fin 16) (v : Word) (s : State) : Host.Outcome State Fault Refusal :=
  s.on (fun h =>
    if h.writable w && h.chOwner c == some w.val && h.isOut c && h.hinge.upL && h.fieldReset == 0 then
      h.writeOutFlt c v.toNat else h)

end Sys2Proof.Machine
end

