-- ==== Sys2Proof/Machine/Deadbolt.lean ====
section
/-!
DEFINITION. The commands of Deadbolt (chapter 16): heartbeats, the comparisons of converters and sensors, the proofs of the
diagnostics, the start-up tests and the exit from *Safe*.

What the spec leaves open here: DESIGN CHOICE, log entry 36; DEDUCED, log entries 52, 64, 101.
-/

namespace Sys2Proof.Machine

/-! ### Heartbeats (R508 to R510) -/

/-- Deadbolt DB, or DA. -/
def Hub.half (h : Hub) (field : Bool) : Half := if field then h.dbt.db else h.dbt.da

/-- The hub with one half's knowledge of the heartbeats changed, and DBT_STAT.hb_ok with it. -/
def Hub.setHalf (h : Hub) (field : Bool) (x : Half) : Hub :=
  let h := { h with dbt := if field then { h.dbt with db := x } else { h.dbt with da := x } }
  h.put DBT_STAT_hb_ok (h.dbt.da.any && h.dbt.db.any)

/-- The proof of an instance applies its force on the field die (R520): the column By, and for mechanisms 5 and 6 the half
that sends to the receiver proved. -/
def proofByField (mech inst : Nat) : Bool :=
  match mech with
  | 1 => true | 3 => true | 4 => inst == 1 | 5 => inst == 0 | 6 => inst == 0 | 7 => true | 9 => true
  | 12 => inst == 0 | 13 => true | 14 => true | _ => false

/-- The state field of a half's heartbeat (R508): start-up, demands safe states, a proof window of its own, normal. -/
def Hub.hbState (h : Hub) (field : Bool) : Nat :=
  let starts := if field then !h.hinge.configured else h.dev.phase != .up
  let demands := if field then h.dbt.dbForced else h.hinge.daWant == .bolt
  let window := match h.dbt.proof with | some p => proofByField p.mech p.inst == field | none => false
  if starts then 3 else if demands then 1 else if window then 2 else 0

/-- The bytes under a heartbeat's seal: payload bits 39:16 from bit 39 down. -/
def sealBytes (payload : Nat) : List Nat := [bitsOf payload 32 8, bitsOf payload 24 8, bitsOf payload 16 8]

/-- A half inverts the seal of 4 heartbeats while it proves mechanism 5 of the other half's receiver (R520). -/
def Hub.sealForced (h : Hub) (field : Bool) : Bool :=
  match h.dbt.proof with
  | some p => p.mech == 5 && p.forced && proofByField 5 p.inst == field && decide (h.clk.now < p.since + 8000)
  | none => false

/-- A half's heartbeat frame for a counter (R508). -/
def Hub.hbPayload (h : Hub) (field : Bool) (ctr : Nat) : Nat :=
  let top := ctr * 2 ^ 32 + (h.half field).heard * 2 ^ 24 + h.hbState field * 2 ^ 20
  let code := crc16 (sealBytes top)
  top + (if h.sealForced field then code ^^^ 0xFFFF else code)

/-- A half sends its heartbeat at priority 2 (R133, R508). -/
def Hub.hbSend (h : Hub) (field : Bool) : Hub :=
  let ctr := ((h.half field).sent + 1) % 256
  let h := h.setHalf field { h.half field with sent := ctr }
  let f : HFrame := { typ := if field then 0x31 else 0x30, payload := h.hbPayload field ctr, prio := 2 }
  if field then h.sendF f else (h.wr DBT_HB_da_cnt ctr).sendL f

/-- The half runs: DA with the logic die, DB with the field die and SOSC-B. -/
def Hub.halfRuns (h : Hub) (field : Bool) : Bool :=
  if field then h.sup.fieldUp && !h.dbt.clockLost else h.logicRuns

/-- HEARTBEAT_SEND (R508). -/
def execHeartbeatSend (field : Bool) (s : State) : Host.Outcome State Fault Refusal :=
  s.on (fun h => if h.halfRuns field then h.hbSend field else h)

/-- A proof or re-check window of mechanism 5 or 6 of a half's receiver is open: its reactions and counters are suppressed
(R521). -/
def Hub.hbHidden (h : Hub) (field : Bool) : Bool :=
  match h.dbt.proof with
  | some p => (p.mech == 5 || p.mech == 6) && p.inst == b2n field
  | none => false

/-- DBT_HB raised by a half: a detail of R509 or R510; DA raises none from step 3 of a field die reset to the end of the
rejoin (R532). -/
def Hub.hbRaise (h : Hub) (field : Bool) (detail : Nat) : Hub :=
  if h.hbHidden field then h
  else if field then h.fieldRise (if detail == 3 then 33 else 32) 0 detail
  else if 3 ≤ h.fieldReset then h
  else h.raise 46 (if detail == 3 then 19 else 18) 1 detail

/-- The cause of a half's heartbeat loss, or of its drift, has ended. -/
def Hub.hbLower (h : Hub) (field drift : Bool) : Hub :=
  if field then h.fieldFall (if drift then 33 else 32) 0 else h.lower 46 (if drift then 19 else 18)

/-- A heartbeat counted in DBT_HB.invalid, which DA keeps. -/
def Hub.hbCount (h : Hub) (field : Bool) : Hub :=
  if field || h.hbHidden field then h else h.count DBT_HB_invalid

/-- The spread of 50 arrivals differs from 49 × 20 µs by more than 3 % (R510). Stamps wrap at 2^32. -/
def drifts (arrivals : List Nat) : Bool :=
  arrivals.length == 50 &&
    (let span := (arrivals.headD 0 + 2 ^ 32 - arrivals.getLastD 0) % 2 ^ 32
     decide (98000 + 2940 < span) || decide (span + 2940 < 98000))

/-- A valid heartbeat with its counter and its arrival on the half's own oscillator (R509, R510). -/
def Hub.hbValid (h : Hub) (field : Bool) (ctr stamp : Nat) : Hub :=
  let x := h.half field
  let next := !x.any || ctr == (x.heard + 1) % 256
  let h := if next then h else h.hbCount field
  let arrivals := if next && x.any then (stamp :: x.arrivals).take 50 else [stamp]
  let h := h.setHalf field { x with heard := ctr, any := true, badRun := 0, arrivals := arrivals, heardAt := h.clk.now }
  let h := if field then h else h.wr DBT_HB_db_cnt ctr
  let h := h.hbLower field false
  if drifts arrivals then h.hbRaise field 3 else if arrivals.length == 50 then h.hbLower field true else h

/-- An invalid heartbeat: counted; four in a row raise DBT_HB with detail 2 (R509). -/
def Hub.hbInvalid (h : Hub) (field : Bool) : Hub :=
  let x := h.half field
  let h := (h.hbCount field).setHalf field { x with badRun := x.badRun + 1 }
  if x.badRun + 1 == 4 then h.hbRaise field 2 else h

/-- A heartbeat frame received by a half (R509): its seal, and its echo among the last 16 counters this half sent. -/
def Hub.recvHb (h : Hub) (field : Bool) (payload stamp : Nat) : Hub :=
  if !h.halfRuns field then h
  else
    let sealOk := payload % 2 ^ 16 == crc16 (sealBytes payload)
    let behind := ((h.half field).sent + 256 - bitsOf payload 24 8) % 256
    if sealOk && behind < 16 then h.hbValid field (bitsOf payload 32 8) stamp else h.hbInvalid field

/-- HB_RECEIVE (R509): the half on the field die or on the logic die receives the other's heartbeat. -/
def execHbReceive (field : Bool) (payload : BitVec 40) (stamp : Word) (s : State) : Host.Outcome State Fault Refusal :=
  s.on (fun h => (h.land field (if field then 0x30 else 0x31) payload.toNat).recvHb field payload.toNat stamp.toNat)

/-- HEARTBEAT_LOSS (R509): no valid heartbeat has come for hb_us − 40 µs, and the link is not lost. -/
def execHeartbeatLoss (field : Bool) (s : State) : Host.Outcome State Fault Refusal :=
  s.on (fun h =>
    let up := if field then h.hinge.upF else h.hinge.upL
    let late := decide ((h.half field).heardAt + (h.rd DBT_TIME_hb_us - 40) * Config.ticksPerUs ≤ h.clk.now)
    if h.halfRuns field && up && late then
      (h.setHalf field { h.half field with any := false, arrivals := [] }).hbRaise field 1
    else h)

/-- SOSC_B_LOSS (R507): the clock-loss monitor ends FHOLD and holds every channel at its safe state until the next field die
reset. -/
def execSoscBLoss (s : State) : Host.Outcome State Fault Refusal :=
  s.on (fun h =>
    if !h.sup.fieldUp || h.dbt.clockLost then h
    else
      let h := { h with dbt := { h.dbt with clockLost := true } }.fholdStop
      (h.fieldSafe h.fOuts).fieldRise 22 0 0)

/-! ### The ADC and temperature comparisons (R511) -/

/-- A reading of ADC-B lies beyond the tolerance around ADC-A's: 0 voltages in mV, 1 normal-range currents in mA, 2 fine-range
currents in µA, 3 input currents in µA (R511). -/
def adcDiffers (kind a b : Nat) : Bool :=
  let tol := match kind with | 0 => 2 * a + 20000 | 1 => 3 * a + 2000 | 2 => 3 * a + 20000 | _ => 3 * a + 2000
  decide (tol < 100 * (if a ≤ b then b - a else a - b))

/-- ADC_COMPARISON (R511): quantity `q` measured on both converters; a difference orders a re-measurement. -/
def execAdcComparison (q : Fin 64) (kind : Fin 4) (a b : Word) (s : State) : Host.Outcome State Fault Refusal :=
  s.on (fun h =>
    if !h.halfRuns true then h
    else if adcDiffers kind a.toNat b.toNat then { h with dbt := { h.dbt with adcPending := setBit h.dbt.adcPending q } }
    else
      let bad := clrBit h.dbt.adcBad q
      let h := { h with dbt := { h.dbt with adcPending := clrBit h.dbt.adcPending q, adcBad := bad } }
      if bad == 0 then h.fieldFall 30 0 else h)

/-- ADC_CONFIRM (R511): the re-measurement of a quantity on both converters; a confirmed difference raises ADC_DIS. -/
def execAdcConfirm (q : Fin 64) (kind : Fin 4) (a b : Word) (s : State) : Host.Outcome State Fault Refusal :=
  s.on (fun h =>
    if !h.halfRuns true || !bitOf h.dbt.adcPending q then h
    else
      let h := { h with dbt := { h.dbt with adcPending := clrBit h.dbt.adcPending q } }
      if !adcDiffers kind a.toNat b.toNat || h.fHidden 30 16 then h
      else { h with dbt := { h.dbt with adcBad := setBit h.dbt.adcBad q } }.fieldRise 30 0 0)

/-- Two readings of a sensor, or of L0 and L1, in steps of 0.125 °C: since when they disagree, by more than 4 °C on the field die and 6 °C on
the logic die; and whether that has lasted a whole window (R511). -/
def Hub.tempDiffers (h : Hub) (sensor : Nat) (a b : Int) : Option Nat × Bool :=
  if (a - b).natAbs ≤ (if sensor < 6 then 32 else 48) then (none, false)
  else
    let t := (vget h.dbt.tempSince sensor none).getD h.clk.now
    (some t, decide (t + h.rd DBT_TIME_tsens_ms * Config.ticksPerMs ≤ h.clk.now))

/-- The two readings of a sensor compared: a disagreement over a whole window raises TSENS_DIS and marks a field sensor invalid; an agreement ends
it (R474, R511). -/
def Hub.tempCompare (h : Hub) (sensor : Nat) (a b : Int) : Hub :=
  if !(if sensor < 6 then h.halfRuns true else h.logicRuns) then h
  else
    let d := h.tempDiffers sensor a b
    let h := { h with dbt := { h.dbt with tempSince := vset h.dbt.tempSince sensor d.1 } }
    if d.1.isSome then
      if !d.2 then h
      else if 6 ≤ sensor then h.raise 48 18 1 detailOpen
      else if h.fHidden 31 16 then h
      else { h with dbt := { h.dbt with badSensors := setBit h.dbt.badSensors sensor } }.fieldRise 31 0 0
    else if 6 ≤ sensor then h.lower 48 18
    else
      let bad := clrBit h.dbt.badSensors sensor
      let h := { h with dbt := { h.dbt with badSensors := bad } }
      if bad == 0 then h.fieldFall 31 0 else h

/-- TEMP_COMPARISON (R511). -/
def execTempComparison (sensor : Fin 7) (a b : BitVec 16) (s : State) : Host.Outcome State Fault Refusal :=
  s.on (fun h => h.tempCompare sensor a.toInt b.toInt)

/-! ### Proofs: the instances (R520, R522) -/

/-- The active instances of the running Blank, in ascending order (R520). -/
def Hub.instances (h : Hub) : List (Nat × Nat) :=
  let fixed := fun (m : Nat) (n : Nat) => (List.range n).map (fun i => (m, i))
  let by_ := fun (m : Nat) (n : Nat) (p : Nat → Bool) => ((List.range n).filter p).map (fun i => (m, i))
  fixed 0 1 ++ fixed 1 1 ++ fixed 2 2 ++ fixed 3 2 ++ fixed 4 2 ++ fixed 5 2 ++ fixed 6 2 ++ by_ 7 16 h.isOut ++
    by_ 8 8 (fun t => h.flag TMB_DL_en t) ++ fixed 9 1 ++ fixed 10 2 ++ fixed 11 6 ++ fixed 12 2 ++
    by_ 13 16 (fun c => h.isOut c && h.flag OUT_TP_dark_en c) ++ by_ 14 16 (fun c => h.isIn c && h.flag IN_TPC_en c) ++
    by_ 15 1 (fun _ => h.flag LSY_PAIR_en)

/-- The detection time of an instance in ticks (R511). -/
def Hub.budget (h : Hub) (mech inst : Nat) : Nat :=
  match mech with
  | 0 => 2000 | 1 => 2000 | 2 => 1000 | 3 => 1000 | 4 => 5000
  | 5 => 100 * h.rd DBT_TIME_hb_us
  | 6 => 120000 | 7 => 100000 | 8 => 100000 | 9 => 200000 | 10 => 500000 | 11 => 800000
  | 12 => (h.rd DBT_TIME_tsens_ms + 2) * 100000
  | 13 => (2 * h.rd OUT_TP_period inst + 1) * 100000
  | 14 => (2 * h.rd IN_TPC_period inst + 1) * 100000 + h.debTicks inst
  | _ => 3 * 100 * h.rd LSY_PERIOD_us + 10000

/-- An instance's own chapter pauses its mechanism (R234, R259, R301, R343). -/
def Hub.mechPaused (h : Hub) (mech inst : Nat) : Bool :=
  match mech with
  | 8 => !h.tmbRuns inst
  | 13 => !h.darkSupervised inst
  | 14 => !h.tpSupervised inst
  | 15 => h.lsy.hb.isNone
  | _ => false

/-- The fault sources of an instance. -/
def Hub.instSources (h : Hub) (mech inst : Nat) : List Nat :=
  match mech with
  | 3 => [1 + inst]
  | 7 => (h.sourceOn 5 inst).toList
  | 13 => (h.sourceOn 7 inst).toList
  | m => proofSources m

/-- An instance that is due is skipped (R522, R529). -/
def Hub.proofSkipped (h : Hub) (mech inst : Nat) : Bool :=
  h.mechPaused mech inst || (h.instSources mech inst).any (fun n => h.fltSet n || h.fltLive n) ||
    (fieldInstance mech inst && !h.hinge.upL) || (mech == 2 && h.sup.warn) ||
    (mech == 7 && (decide (h.clk.now < (h.out inst).changedAt + 100000) || decide (h.clk.now < (h.out inst).blankTill)))

/-! ### Proofs: their course (R521, R524, R528) -/

/-- The proof of an instance begins: the force is applied. -/
def Hub.beginProof (h : Hub) (x : Nat × Nat) (rot : Bool) : Hub :=
  { h with dbt := { h.dbt with
      proof := some { mech := x.1, inst := x.2, since := h.clk.now, rot := rot }
      provedAt := if rot then some h.clk.now else h.dbt.provedAt } }

/-- A rotation ends when no instance of it is left: counted, with its record (R524). -/
def Hub.rotationEnd (h : Hub) : Hub :=
  if !h.dbt.todo.isEmpty then h
  else
    let h := h.count DBT_PROOF_STAT_rotations
    let h := h.note 0x26 0x48 sevNote 8 [h.rd DBT_PROOF_STAT_rotations, min 65535 h.dbt.ratio]
    { h with dbt := { h.dbt with ratio := 0 } }

/-- The longest active time of any instance since its last passing proof, in minutes. -/
def Hub.showAges (h : Hub) : Hub :=
  h.wr DBT_PROOF_STAT_oldest_min (min 65535 (h.dbt.ages.foldl (fun m a => max m a.age) 0 / (60 * Config.ticksPerS)))

/-- PROOF_FAIL ends with its last failed instance (R517, R535). -/
def Hub.proofHealed (h : Hub) : Hub := if h.dbt.failed.isEmpty then h.lower 45 16 else h

/-- Failed instances whose mechanism is paused in *Safe* are marked for re-proof; their live condition ends (R517). -/
def Hub.pauseFailed (h : Hub) : Hub :=
  if !h.dev.safe then h
  else
    let p := h.dbt.failed.partition (fun x => h.mechPaused x.1 x.2)
    { h with dbt := { h.dbt with failed := p.2, reproof := h.dbt.reproof ++ p.1.filter (fun x => !h.dbt.reproof.contains x) } }.proofHealed

/-- The counts of a passing proof: DBT_MECHk, the instance's age, its failure and its mark (R521, R522, R517). -/
def Hub.passCounts (h : Hub) (mech inst ticks : Nat) : Hub :=
  let h := (h.count DBT_MECH_passes 1 mech).wr DBT_MECH_worst (max (h.rd DBT_MECH_worst mech) (min 65535 (ticks / 1000))) mech
  { h with dbt := { h.dbt with
      ages := h.dbt.ages.filter (fun a => !(a.mech == mech && a.inst == inst))
      failed := h.dbt.failed.filter (fun x => x != (mech, inst))
      reproof := h.dbt.reproof.filter (fun x => x != (mech, inst))
      ratio := max h.dbt.ratio (256 * ticks / max 1 (h.budget mech inst)) } }.proofHealed.showAges

/-- The last proof shown (R521). -/
def Hub.showLast (h : Hub) (mech inst ticks : Nat) (pass : Bool) : Hub :=
  let h := ((h.wr DBT_PROOF_LAST_mech mech).wr DBT_PROOF_LAST_inst inst).put DBT_PROOF_LAST_pass pass
  (h.put DBT_PROOF_LAST_overlap false).wr DBT_PROOF_TIME_ticks ticks

/-- A proof fails, or an instance is overdue: DBT_PROOF_FAIL, the Safety record and PROOF_FAIL (R521, R522, R524). -/
def Hub.proofFail (h : Hub) (mech inst ticks : Nat) (late none_ overdue : Bool) : Hub :=
  let h := ((h.wr DBT_PROOF_FAIL_mech mech).wr DBT_PROOF_FAIL_inst inst).put DBT_PROOF_FAIL_overdue overdue
  let h := ((h.put DBT_PROOF_FAIL_late late).put DBT_PROOF_FAIL_none none_).count DBT_PROOF_FAIL_count
  let h := h.note 0x25 0x48 sevSafety 8 [mech + inst * 16 + b2n overdue * 2 ^ 16, ticks]
  let h := if h.dbt.failed.contains (mech, inst) then h
    else { h with dbt := { h.dbt with failed := h.dbt.failed ++ [(mech, inst)] } }
  (h.raise 45 16 1 detailOpen).pauseFailed

/-- A proof that has started, judged at its detection (R521, R528): it passes within the budget, and a re-check window opens
in either case. -/
def Hub.proofDetect (h : Hub) (p : Proof) (ticks : Nat) : Hub :=
  let pass := decide (ticks ≤ h.budget p.mech p.inst)
  let h := { h with dbt := { h.dbt with proof := some { p with forced := false, ticks := ticks, since := h.clk.now } } }
  let h := h.showLast p.mech p.inst ticks pass
  if pass then h.passCounts p.mech p.inst ticks else h.proofFail p.mech p.inst ticks true false false

/-- PROOF_DETECT (R521): the forced instance detects, in ticks from the start of the proof; from twice the budget on nothing is forced any
more. -/
def execProofDetect (ticks : Word) (s : State) : Host.Outcome State Fault Refusal :=
  s.on (fun h =>
    match h.dbt.proof with
    | some p => if p.forced && decide (ticks.toNat ≤ 2 * h.budget p.mech p.inst) then h.proofDetect p ticks.toNat else h
    | none => h)

/-- PROOF_TIMEOUT (R521): none by twice the budget; the time that no detection measured is a free value (log entry 4). -/
def execProofTimeout (s : State) : Host.Outcome State Fault Refusal :=
  s.on (fun h =>
    match h.dbt.proof with
    | some p =>
      if p.forced && decide (p.since + 2 * h.budget p.mech p.inst ≤ h.clk.now) then
        let h := h.abandonProof
        let f := h.freeNat 32
        let t := f.1
        let h := (f.2.showLast p.mech p.inst t false).proofFail p.mech p.inst t false true false
        if p.rot then h.rotationEnd else h
      else h
    | none => h)

/-! ### The end of the re-check window (R528, R533) -/

/-- The condition of an instance found present at the end of its re-check window: its source is raised with its full
reaction. A VDD warning (mechanism 2) is not raised here but begins *Brown*, by `warnRise`. -/
def Hub.recheckRaise (h : Hub) (mech inst : Nat) : Hub :=
  match mech with
  | 0 => h.raise 8 16 1 detailOpen
  | 1 => h.fieldRise 21 0 0
  | 3 => h.fieldRise (17 + inst) 0 0
  | 4 => if inst == 0 then h.loseL else h.loseF
  | 5 => h.hbRaise (inst == 1) 1
  | 6 => h.hbRaise (inst == 1) 3
  | 7 => h.outRise inst (if (h.out inst).latched then 6 else 5) 0
  | 8 => h.event 31 (2 ^ ((h.tmbOwner inst).getD 0)) detailOpen
  | 9 => h.fieldRise 30 0 0
  | 10 => if inst == 0 then h.raise 17 16 1 detailOpen else h.raise 17 18 1 detailOpen
  | 11 => h.event 41 1 detailOpen
  | 12 => if inst == 0 then h.fieldRise 31 0 0 else h.raise 48 18 1 detailOpen
  | 13 => h.outRise inst 7 0
  | 14 => h.forcing inst (fun h => h.inSet inst 1)
  | 15 => h.event 37 (2 ^ ((h.chOwner (h.rd LSY_PAIR_ch)).getD 0)) detailOpen
  | _ => h

/-- The re-check window ends, twice the measured detection time after it opened (R528). -/
def Hub.recheckEnd (h : Hub) (warnRise : Hub → Hub) (present : Bool) : Hub :=
  match h.dbt.proof with
  | some p =>
    if p.forced || decide (h.clk.now < p.since + 2 * p.ticks) then h
    else
      let h := h.abandonProof
      let h := if present then
          let h := h.put DBT_PROOF_LAST_overlap true
          if p.mech == 2 then (if p.inst == 0 then warnRise h else h) else h.recheckRaise p.mech p.inst
        else h
      if p.rot then h.rotationEnd else h
  | none => h

/-! ### The rotation (R520, R522, R523, R517) -/

/-- The next instance of the rotation begins, or is skipped; a new rotation begins when none is left. -/
def Hub.rotate (h : Hub) : Hub :=
  let todo := if h.dbt.todo.isEmpty then h.instances else h.dbt.todo
  match todo with
  | [] => h
  | x :: rest =>
    let h := { h with dbt := { h.dbt with todo := rest } }
    if !h.instances.contains x || h.proofSkipped x.1 x.2 then h.rotationEnd else h.beginProof x true

/-- Proofs run in this state (R522, R529, R530). -/
def Hub.provesNow (h : Hub) : Bool :=
  (h.runs || h.state == .brown) && h.sup.pd.isNone && h.dbt.proof.isNone

/-- The next proof of the rotation is due: the rotation period divided by the number of active instances has passed since the last one
started (R520). -/
def Hub.rotationDue (h : Hub) : Bool :=
  match h.dbt.provedAt with
  | none => true
  | some t => decide (t + h.rd DBT_PROOF_CFG_rotation_s * Config.ticksPerS / max 1 h.instances.length ≤ h.clk.now)

/-- A proof is due (R517, R520, R523): an instance marked for re-proof whose mechanism is active again, before any other; then the one that W0
named; then the next of the rotation, unless it is paused. -/
def Hub.proofDue (h : Hub) : Hub :=
  if !h.provesNow then h
  else
    match h.dbt.reproof.find? (fun x => h.instances.contains x && !h.proofSkipped x.1 x.2) with
    | some x => h.beginProof x false
    | none =>
      match h.dbt.nextNow with
      | some x =>
        let h := { h with dbt := { h.dbt with nextNow := none } }
        if h.instances.contains x && !h.proofSkipped x.1 x.2 then h.beginProof x false else h
      | none => if h.dbt.paused || !h.rotationDue then h else h.rotate

/-- PROOF_START (R521). -/
def execProofStart (s : State) : Host.Outcome State Fault Refusal := s.on Hub.proofDue

/-- Re-proofs run: in *Safe*, with no proof under way and no power-down (R517, R530). -/
def Hub.reproves (h : Hub) : Bool :=
  h.dev.safe && h.dev.halt.isNone && h.dev.phase == .up && h.sup.pd.isNone && h.dbt.proof.isNone

/-- A second has passed since the instance was last proved again in *Safe* (R517). -/
def Hub.reproofDue (h : Hub) (x : Nat × Nat) : Bool :=
  h.dbt.reproofAt.all (fun (a : Nat × Nat × Nat) => !(a.1 == x.1 && a.2.1 == x.2) || decide (a.2.2 + Config.ticksPerS ≤ h.clk.now))

/-- DA proves a failed instance again; its turn comes round after the other failed ones. -/
def Hub.proveAgain (h : Hub) (x : Nat × Nat) : Hub :=
  { h with dbt := { h.dbt with
      failed := h.dbt.failed.filter (fun y => y != x) ++ [x]
      reproofAt := h.dbt.reproofAt.filter (fun (a : Nat × Nat × Nat) => !(a.1 == x.1 && a.2.1 == x.2)) ++ [(x.1, x.2, h.clk.now)] } }.beginProof x false

/-- REPROOF (R517): in *Safe* each failed instance is proved again once every second. -/
def execReproof (s : State) : Host.Outcome State Fault Refusal :=
  s.on (fun h =>
    if !h.reproves then h
    else
      let h := h.pauseFailed
      match h.dbt.failed.find? h.reproofDue with
      | some x => h.proveAgain x
      | none => h)

/-- PROOF_OVERDUE (R522): an instance has reached 24 h of active time since its last passing proof. -/
def execProofOverdue (mech inst : Fin 16) (s : State) : Host.Outcome State Fault Refusal :=
  s.on (fun h =>
    let mine := fun (a : InstAge) => a.mech == mech.val && a.inst == inst.val
    let due := h.dbt.ages.any (fun a => mine a && !a.overdue && decide (86400 * Config.ticksPerS ≤ a.age))
    if h.dev.phase == .up && h.dev.halt.isNone && h.instances.contains (mech.val, inst.val) && due then
      { h with dbt := { h.dbt with
          ages := h.dbt.ages.map (fun a => if mine a then { a with overdue := true } else a) } }.proofFail mech inst 0 false false true
    else h)

/-- W0's write to DBT_PROOF_CTRL with page 1 open and the key (R523). -/
def Hub.writeProofCtrl (h : Hub) (w v : Nat) : Hub :=
  if w == 0 && bitOf (h.rd WRD_EXP_OPEN_open 0) 1 && v / 2 ^ 16 == 0x5052 then
    let h := if bitOf v 9 then { h with dbt := { h.dbt with nextNow := some (bitsOf v 0 4, bitsOf v 4 5) } } else h
    let m := bitsOf v 10 6
    if m ≤ 60 then { h with dbt := { h.dbt with paused := decide (0 < m), pauseTill := h.clk.now + 60 * m * Config.ticksPerS } } else h
  else h

/-- PROOF_NOW (R523): a ward writes DBT_PROOF_CTRL. -/
def execProofNow (w : Fin 8) (v : Word) (s : State) : Host.Outcome State Fault Refusal :=
  s.on (fun h => if h.writable w then h.writeProofCtrl w v.toNat else h)

/-- PROOF_PAUSE (R523): a ward writes DBT_PROOF_CTRL. -/
def execProofPause (w : Fin 8) (v : Word) (s : State) : Host.Outcome State Fault Refusal :=
  s.on (fun h => if h.writable w then h.writeProofCtrl w v.toNat else h)

/-- PROOF_RESUME (R523): a ward writes DBT_PROOF_CTRL. -/
def execProofResume (w : Fin 8) (v : Word) (s : State) : Host.Outcome State Fault Refusal :=
  s.on (fun h => if h.writable w then h.writeProofCtrl w v.toNat else h)

/-- PAUSE_EXPIRY (R523): the pause's minutes are over. -/
def execPauseExpiry (s : State) : Host.Outcome State Fault Refusal :=
  s.on (fun h => if h.dbt.pauseTill ≤ h.clk.now then { h with dbt := { h.dbt with paused := false } } else h)

/-- The active time of every instance goes on by `t` ticks (R522). -/
def Hub.ageInstances (h : Hub) (t : Nat) : Hub :=
  let ages := h.instances.map (fun x =>
    let old := (h.dbt.ages.find? (fun a => a.mech == x.1 && a.inst == x.2)).getD { mech := x.1, inst := x.2 }
    if h.mechPaused x.1 x.2 then old else { old with age := old.age + t })
  { h with dbt := { h.dbt with ages := ages } }.showAges

/-! ### Leaving *Safe* (R516, R531) -/

/-- DBT_STAT.exit_ready (R516). -/
def Hub.exitReady (h : Hub) : Bool := h.state == .safe && !(List.range 62).any h.safeSource && !h.flag BST_STAT_restore_fail

/-- W0's write of the key to DBT_SAFE_EXIT: accepted while exit_ready, otherwise counted as refused (R516). -/
def Hub.writeSafeExit (h : Hub) (w v : Nat) : Hub :=
  if w == 0 && v == 0x53464558 then
    if h.exitReady then
      if h.dev.exitStep == 0 then { h with dev := { h.dev with exitStep := 1 } }.wantTone .clear else h
    else h.count DBT_SAFE_CAUSE_refused
  else h

/-- DBT_SAFE_EXIT (R516): a ward writes DBT_SAFE_EXIT. -/
def execDbtSafeExit (w : Fin 8) (v : Word) (s : State) : Host.Outcome State Fault Refusal :=
  s.on (fun h => if h.writable w then h.writeSafeExit w v.toNat else h)

/-- SAFE_LEAVE (R516): 12 µs after the exit write, with BOLT_REL sent, the hub leaves *Safe*; channels keep safe_hold. -/
def execSafeLeave (s : State) : Host.Outcome State Fault Refusal :=
  s.on (fun h =>
    if h.dev.safe && h.dev.exitStep == 2 && h.dev.phase == .up && h.dev.halt.isNone &&
        decide (h.hinge.toneAt + 12 * Config.ticksPerUs ≤ h.clk.now) then
      { h with dev := { h.dev with safe := false, exitStep := 0 } }
    else h)

/-! ### Start-up tests (R518) -/

/-- The start-up test that proves an instance (R518). -/
def startupBit (mech inst : Nat) : Option Nat :=
  match mech with
  | 0 => some 3 | 1 => some 9 | 2 => some 4 | 3 => some 10 | 4 => some (if inst == 0 then 5 else 11) | 5 => some 1 | 6 => some 2
  | 9 => some 12 | 10 => some 8 | 11 => some 7 | 12 => if inst == 0 then some 13 else none | _ => none

/-- The start-up tests passed, less those one of whose proofs was not detected within its budget (R518, R521). -/
def Hub.startupPassed (h : Hub) (passed : Nat) (proofs : List (Fin 16 × Fin 16 × Word)) : Nat :=
  proofs.foldl (fun m x =>
    if x.2.2.toNat ≤ h.budget x.1 x.2.1 then m else match startupBit x.1 x.2.1 with | some b => clrBit m b | none => m) passed

/-- STARTUP_TESTS (R518): the 14 tests of *Arming* with their results, their duration and the detection times of the proofs
among them, each judged by its budget; a failure raises DBT_START, judged at the end of *Arming*. -/
def execStartupTests (passed : BitVec 14) (time : BitVec 11) (proofs : List (Fin 16 × Fin 16 × Word)) (s : State) :
    Host.Outcome State Fault Refusal :=
  s.on (fun h =>
    if h.dev.phase == .arming && h.hinge.configured && h.hinge.upL && !h.flag DBT_STARTUP_done then
      let good := h.startupPassed passed.toNat proofs
      let h := ((h.put DBT_STARTUP_done true).wr DBT_STARTUP_time time.toNat).wr DBT_STARTUP_passed good
      let h := proofs.foldl (fun h x =>
        let pass := decide (x.2.2.toNat ≤ h.budget x.1 x.2.1)
        let h := h.showLast x.1 x.2.1 x.2.2.toNat pass
        if pass then h.passCounts x.1 x.2.1 x.2.2.toNat else h) h
      if good == 2 ^ 14 - 1 then h else h.raise 49 16 1 detailOpen
    else h)

end Sys2Proof.Machine
end

