-- ==== Sys2Proof/Machine/Life.lean ====
section
/-!
DEFINITION. The life ledger (chapter 21): totals, months, projection, mirroring and the retained-block mirror (R88), rebases, the
restoration at boot, the window, and their commands.

What the spec leaves open here: DEDUCED, log entries 20, 59.
-/

namespace Sys2Proof.Machine

/-! ### Projection (R662) -/

/-- The remaining months (R662). -/
def Hub.lifeRemain (h : Hub) : Nat :=
  let g := h.ret.life.gain
  if 10 ^ 6 ≤ h.lifeUsed then 0
  else if g == 0xFFFFFFFF || g == 0 then 0xFFFF
  else min 0xFFFF ((10 ^ 6 - h.lifeUsed) / g)

/-- The four minima as offset 0x18 of R653 packs them. -/
def packMargins (l : List Nat) : Nat := leNat ((List.range 4).map (fun i => l.getD i 64 % 256))

/-! ### Mirroring (R654, R657, R658) -/

/-- The slot after a slot in the order 0, 2, 1, 3 (R654). -/
def nextSlot (n : Nat) : Nat := if n == 0 then 2 else if n == 2 then 1 else if n == 1 then 3 else 0

/-- The ledger asks for its next NVM operation: the sector's erase, a page of the image, a retained-mirror entry or an erase of that
mirror (R88, R658). -/
def Hub.lifeAsk (h : Hub) : Hub :=
  if h.life.mirror.isSome then h.nvmCand h.life.eraseDue 1 1
  else if h.life.entryDue then h.nvmCand false 1 1
  else if h.life.copyErase.isSome then h.nvmCand true 1 1
  else h

/-- A mirror starts for a trigger, 0 to 4 in the order of R657; one that runs is followed by another. -/
def Hub.mirrorStart (h : Hub) (trigger : Nat) : Hub :=
  if h.life.mirror.isSome then { h with life := { h.life with again := some trigger } }
  else
    let l := h.life
    let slot := nextSlot l.slot
    let nor := (h.nvmDev 0).kind == .nor
    let img := h.lifeImage (h.ret.life.serial + 1) h.totals
    let busy := l.entryDue || l.copyErase.isSome
    let h := { h with life := { l with
      mirror := some (slot, img), page := 0, trigger := trigger, lastMirror := h.ret.life.powerOn
      eraseDue := nor && (slot == 0 || slot == 2) && !h.nvmErased (slotAddr slot) 4096
      mirrorSnap := l.snap, mirrorCarried := l.carried, mirrorDue := false } }
    let h := h.put LIFE_STAT_busy true
    if busy then h else h.lifeAsk

/-- Some delta has reached half its field in a power-down page (R657). -/
def halfFull (c : ChCount) : Bool :=
  decide (0x8000 ≤ c.cycles) || decide (0x8000 ≤ c.edges) || decide (0x8000 ≤ c.onTime) || decide (0x8000 ≤ c.stress) ||
    decide (0x8000 ≤ c.energy) || decide (16 ≤ c.episodes) || decide (16 ≤ c.shutdowns) || decide (32 ≤ c.tcycles)

/-- MIRROR_START (R657): the triggers that the ledger judges itself: the interval, a delta at half its field, and the first decision in
*Run* after a boot that R660 names. A month's end and W0's order start theirs at once. -/
def execMirrorStart (s : State) : Host.Outcome State Fault Refusal :=
  s.on (fun h =>
    if h.dev.phase != .up then h
    else if h.life.lastMirror + 60 * h.rd LIFE_CFG_interval_min ≤ h.ret.life.powerOn then h.mirrorStart 0
    else if h.deltas.toList.any halfFull then h.mirrorStart 3
    else if h.life.mirrorDue && h.state == .run then h.mirrorStart 4
    else h)

/-- W0's write to LIFE_CTRL (R657). -/
def Hub.writeLifeCtrl (h : Hub) (v : Nat) : Hub := if bitOf v 0 then (h.put LIFE_CTRL_mirror true).mirrorStart 2 else h

/-- MIRROR (R657). -/
def execMirror (w : Fin 8) (v : Word) (s : State) : Host.Outcome State Fault Refusal :=
  s.on (fun h => if h.writable w && w.val == 0 then h.writeLifeCtrl v.toNat else h)

/-- The ledger operation that has been admitted is handed to the NVM controller. -/
def Hub.lifeAdmit (h : Hub) (erase : Bool) : Hub :=
  match h.life.mirror with
  | some (slot, img) =>
    if erase then h.nvmAdd { use := .mirror, kind := 2, addr := 0x60000 + 0x1000 * (slot / 2) }
    else h.nvmAdd { use := .mirror, kind := 1, addr := slotAddr slot + 256 * h.life.page, data := (img.drop (256 * h.life.page)).take 256 }
  | none =>
    if erase then h.nvmAdd { use := .retained, kind := 2, addr := 0x62000 + 0x1000 * h.life.copyErase.getD 0 }
    else h.nvmAdd { use := .retained, kind := 1, addr := entryAddr h.ret.mirrorNext, data := h.ret.bytes false }

/-- The record of a mirror's end (R663). -/
def Hub.mirrorRecord (h : Hub) (slot : Nat) (failed : Bool) (serial : Nat) : Hub :=
  h.note 0x32 0x4D sevTrace 8 [serial, slot + b2n failed * 2 ^ 8 + h.life.trigger * 2 ^ 12]

/-- What follows the end of a mirror: LIFE_CTRL.mirror clears, and a mirror that has become due starts (R657). -/
def Hub.mirrorNextUp (h : Hub) : Hub :=
  let h := (h.put LIFE_STAT_busy false).put LIFE_CTRL_mirror false
  match h.life.again with
  | some t => { h with life := { h.life with again := none } }.mirrorStart t
  | none => h

/-- The image matches: it becomes the base, carried returns to 0, the field die is to be rebased, and a retained-mirror entry is due
(R658). -/
def Hub.mirrorGood (h : Hub) (slot : Nat) (img : List Nat) : Hub :=
  let l := h.life
  let serial := h.ret.life.serial + 1
  let h := { h with
    ret := { h.ret with life := { h.ret.life with serial := serial } }
    life := { l with
      mirror := none, slot := slot, base := Vector.ofFn (fun c : Fin 16 => ChCount.ofBytes ((img.drop (0x40 + 32 * c)).take 32))
      carried := Vector.zipWith subCount l.carried l.mirrorCarried, snap := Vector.zipWith subCount l.snap l.mirrorSnap
      rebase := l.rebase ++ [(serial, l.mirrorSnap)], entryDue := true } }
  let h := (h.count LIFE_STAT_mirrors).mirrorRecord slot false serial
  h.mirrorNextUp.lifeAsk

/-- The image does not match: LIFE_NVM, the base stands, and the next mirror uses the next slot (R658). -/
def Hub.mirrorBad (h : Hub) (slot : Nat) : Hub :=
  let h := { h with life := { h.life with mirror := none, slot := slot } }
  let h := ((h.count LIFE_STAT_fails).event 58 1 detailOpen).mirrorRecord slot true (h.ret.life.serial + 1)
  h.mirrorNextUp.lifeAsk

/-- A retained-mirror entry has been written and read back (R88): after the first good entry of a copy the other copy's sector is erased, on a
NOR. -/
def Hub.entryWritten (h : Hub) (o : NvmOp) (res : Nat) : Hub :=
  let i := h.ret.mirrorNext
  let good := res == 0 && h.nvmRead 0 o.addr 256 == o.data
  let h := { h with
    ret := { h.ret with mirrorNext := (i + 1) % 8 }
    life := { h.life with
      entryDue := false
      copyErase := if good && i % 4 == 0 && (h.nvmDev 0).kind == NvmKind.nor then some (1 - i / 4) else h.life.copyErase } }
  h.lifeAsk

/-- A ledger or retained-mirror operation has ended. -/
def Hub.lifeDone (h : Hub) (o : NvmOp) (res : Nat) : Hub :=
  match h.life.mirror, o.use with
  | some (slot, img), .mirror =>
    if res == 2 then h.mirrorBad slot
    else if o.kind == 2 then { h with life := { h.life with eraseDue := false } }.lifeAsk
    else if h.life.page < 6 then { h with life := { h.life with page := h.life.page + 1 } }.lifeAsk
    else if res == 0 && h.nvmRead 0 (slotAddr slot) 0x700 == img then h.mirrorGood slot img
    else h.mirrorBad slot
  | _, .retained =>
    if o.kind == 2 then { h with life := { h.life with copyErase := none } }.lifeAsk else h.entryWritten o res
  | _, _ => h

/-- MIRROR_DONE (R88, R658): the NVM operation that runs for the ledger or the retained mirror ends: an erase, or a page, the last of an
image with its read-back; `res` 0 good, 1 the device holds something else, 2 no result or an error of the device. -/
def execMirrorDone (res : Fin 3) (mirrorOk : Bool) (s : State) : Host.Outcome State Fault Refusal :=
  s.on (fun h =>
    match h.nvmOp with
    | none => h
    | some o =>
      if o.use == .mirror || o.use == .retained then
        (((h.nvmDone (res == 0) mirrorOk).costEnd (if o.kind == 2 then .nvmErase else .nvmPage) 1).nvmFaults res mirrorOk).lifeDone o res
      else h)

/-! ### Snapshots and rebases (R653, R658) -/

/-- A second has passed since the last snapshot was asked for (R653). -/
def Hub.snapshotDue (h : Hub) : Bool := (h.life.snapAt.map (fun t => decide (t + Config.ticksPerS ≤ h.clk.now))).getD true

/-- FIELD_SNAPSHOT (R653): every second the logic die reads the accumulators through a request. -/
def execFieldSnapshot (s : State) : Host.Outcome State Fault Refusal :=
  s.on (fun h =>
    if h.dev.phase == .up && !h.flag HNG_STAT_rejoin && h.snapshotDue then
      { h with life := { h.life with snapAt := some h.clk.now } }.request .snapshot
    else h)

/-- REBASE (R658): the oldest rebase that is not yet acknowledged is sent, unless its request is still in flight. -/
def execRebase (s : State) : Host.Outcome State Fault Refusal :=
  s.on (fun h =>
    match h.life.rebase with
    | [] => h
    | (n, _) :: _ => if (h.hinge.out ++ h.hinge.waiting).any (fun x => x.what == .rebase n) then h else h.request (.rebase n))

/-! ### Months (R649, R652, R662) -/

/-- A month ends: its minima, its gain and its record; then the next one starts, and a mirror (R652, R662). -/
def Hub.monthEnd (h : Hub) : Hub :=
  let l := h.ret.life
  let used := h.lifeUsed
  let gain := used - l.usedAtMonth
  let m := packMargins l.margins
  let h := { h with
    ret := { h.ret with life := { l with
      month := (l.month + 1) % 2 ^ 16, margins := [64, 64, 64, 64], usedAtMonth := used, gain := gain } }
    life := { h.life with hist := ((l.month, m) :: h.life.hist).take 300 } }
  (h.note 0x30 0x4D sevNote 16 [l.month % 2 ^ 16, m, used, gain]).mirrorStart 1

/-- The device's second counters (R649): power-on, and the barrier's seconds with their residual of intervals. -/
def Hub.secondCounts (h : Hub) (barrierMs : Nat) : Hub :=
  let l := h.ret.life
  let ms := h.life.barrierMs + barrierMs
  { h with
    ret := { h.ret with life := { l with
      powerOn := satInc (2 ^ 32 - 1) l.powerOn, barrier := satAdd (2 ^ 32 - 1) l.barrier (ms / 1000) } }
    life := { h.life with barrierMs := ms % 1000, secondAt := h.clk.now } }

/-- POWER_ON_SECOND (R649, R652): a second out of *Off* has passed since the last one ended, in `barrierMs` of whose 1 ms intervals the barrier voltage peaked above
707 V. The proof ages count it too (R522). -/
def execPowerOnSecond (barrierMs : Fin 1001) (s : State) : Host.Outcome State Fault Refusal :=
  s.on (fun h =>
    if h.dev.phase == .off || h.clk.now < h.life.secondAt + Config.ticksPerS then h
    else
      let h := (h.secondCounts barrierMs).ageInstances Config.ticksPerS
      if !h.logicRuns then h
      else (if h.ret.life.month < h.ret.life.powerOn / 2592000 then h.monthEnd else h).judgeWear)

/-! ### Restoring at boot (R660) -/

/-- The device counters' source at boot and their values: the highest power-on count of the retained block, the power-down page and the
image, in this order among equals. -/
def Hub.deviceSource (h : Hub) (page img : Option (List Nat)) : Nat × LifeWork :=
  let fromRet := if h.rd PWR_RET_STAT_source ≤ 1 then [(0, h.ret.life)] else []
  let fromPage := match page with | some b => [(1, LifeWork.ofBytes ((b.drop 0x0C).take 44))] | none => []
  let fromImg := match img with | some b => [(2, LifeWork.ofBytes ((b.drop 0x10).take 44))] | none => []
  (fromRet ++ fromPage ++ fromImg).foldl (fun (best : Nat × LifeWork) x =>
    if best.1 == 3 || best.2.powerOn < x.2.powerOn then x else best) (3, {})

/-- The margin history that an image holds, newest month first. -/
def histOf (b : List Nat) (month : Nat) : List (Nat × Nat) :=
  (List.range (min month 300)).map (fun i => (month - 1 - i, numAt b (0x240 + 4 * ((month - 1 - i) % 300)) 4))

/-- The channel deltas of a power-down page. -/
def pageDeltas (b : List Nat) : Vector ChCount 16 :=
  Vector.ofFn (fun c : Fin 16 => ChCount.ofDelta ((b.drop (0x38 + 12 * c)).take 12))

/-- LEDGER_RESTORE (R660): once the retained block stands and the field die answers, the ledger is rebuilt. -/
def Hub.ledgerRestore (h : Hub) : Hub :=
  let found := h.newestImage
  let img := found.map (·.2)
  let serial := match img with | some b => numAt b 8 4 | none => 0
  let page := match found with | some (n, _) => h.pageOf n serial | none => none
  let dev := h.deviceSource page img
  let zero : Vector ChCount 16 := Vector.replicate 16 {}
  let base := match img with
    | some b => Vector.ofFn (fun c : Fin 16 => ChCount.ofBytes ((b.drop (0x40 + 32 * c)).take 32))
    | none => zero
  let deltas := match page with | some b => pageDeltas b | none => zero
  let row := if img.isNone then 3 else if h.life.fieldSerial == serial then 0 else if h.life.fieldSerial == 0 then 1 else 2
  let acc := h.life.acc
  let l := h.life
  let h := { h with
    ret := { h.ret with life := { dev.2 with serial := serial } }
    life := { l with
      base := base, slot := match found with | some (n, _) => n | none => 3
      carried := if row == 1 || row == 2 then deltas else zero
      snap := if row == 0 || row == 1 then acc else zero
      rebase := if row == 0 || (row == 3 && l.fieldSerial == 0) then [] else if row == 1 then [(serial, zero)] else [(serial, acc)]
      hist := match img with | some b => histOf b (LifeWork.ofBytes ((b.drop 0x10).take 44)).month | none => []
      restored := true, lastMirror := dev.2.powerOn, mirrorDue := img.isNone || (page.isSome && (dev.1 == 1 || row == 1 || row == 2)) } }
  let h := (h.wr LIFE_STAT_dev_src dev.1).wr LIFE_STAT_ch_src row
  let h := if img.isNone && !h.nvmErased 0x60000 0x2000 then h.event 58 1 detailOpen else h
  h.note 0x31 0x4D sevNote 12 [dev.1 + row * 4, serial, b2n page.isSome]

/-- LEDGER_RESTORE (R660), once after each boot: the link is up and the ledger has not been restored. -/
def execLedgerRestore (s : State) : Host.Outcome State Fault Refusal :=
  s.on (fun h =>
    if h.hinge.upL && h.recd.numbering && !h.life.restored then h.ledgerRestore.judgeWear
    else h)

/-! ### Reading (R665) -/

/-- Ward `w` has read LIFE_CH_CYC_LO: its selected channel's totals are latched into its window (R665). -/
def Hub.readLifeWindow (h : Hub) (w : Nat) : Hub :=
  let c := vget h.totals (h.rd LIFE_SEL_ch w) {}
  let h := (h.wr LIFE_CH_CYC_LO_cycles c.cycles w).wr LIFE_CH_CYC_HI_cycles (c.cycles / 2 ^ 32) w
  let h := (h.wr LIFE_CH_EDG_LO_edges c.edges w).wr LIFE_CH_EDG_HI_edges (c.edges / 2 ^ 32) w
  let h := (h.wr LIFE_CH_ON_s c.onTime w).wr LIFE_CH_STRESS_units c.stress w
  let h := (h.wr LIFE_CH_LIMJ_energy c.energy w).wr LIFE_CH_EPS_count c.episodes w
  (h.wr LIFE_CH_TCYC_count c.tcycles w).wr LIFE_CH_TSD_count c.shutdowns w

/-- LIFE_WINDOW_READ (R665). -/
def execLifeWindowRead (w : Fin 8) (s : State) : Host.Outcome State Fault Refusal :=
  s.on (fun h => if h.readable w then h.readLifeWindow w else h)

/-- LIFE_HIST of ward `w`: the minima of the month it has selected, 0 for one not ended or more than 300 months old (R665). -/
def Hub.lifeHist (h : Hub) (w : Nat) : Nat := (h.life.hist.find? (fun x => x.1 == h.rd LIFE_HSEL_month w)).elim 0 (·.2)

end Sys2Proof.Machine
end

