-- ==== Sys2Proof/Machine/BlankRules.lean ====
section
/-!
DEFINITION. When a Blank slot is valid (R164 to R174): the header, the section table, the CRC, the register records of the sections and
the rules that join several registers.

What the spec leaves open here: DEDUCED, log entries 27, 28.
-/

namespace Sys2Proof.Machine

/-! ### The image (R164 to R168) -/

/-- The outcome of a judgement: the reason of R173, and the section and record that failed. -/
structure Verdict where
  reason : Nat := 0
  section_ : Nat := 0
  record : Nat := 0
  deriving DecidableEq, Repr

/-- A section table entry (R167). -/
structure Entry where
  typ : Nat := 0
  version : Nat := 0
  flags : Nat := 0
  off : Nat := 0
  size : Nat := 0
  spare : Nat := 0
  deriving DecidableEq, Repr

/-- The part code of the chip (DEV_ID). -/
def Chip.devId (c : Chip) : Nat := match c.part with | .pwh1640 => 0x50481640 | .pwh0840 => 0x50480840

/-- The checks of R173 on a header of 64 bytes: 2, A, 3 and 4 in this order; 0 where it passes. -/
def headerReason (c : Chip) (b : List Nat) : Nat :=
  if !(b.take 4 == [0x50, 0x52, 0x57, 0x42] && numAt b 4 1 == 1 && numAt b 6 2 == 64 && numAt b 0x3C 4 == crc32 (b.take 60)) then 2
  else if numAt b 0x0C 4 == 0 || numAt b 0x0C 4 == 0xFFFFFFFF then 0xA
  else if numAt b 8 4 != c.devId then 3
  else if !bitOf (numAt b 0x1C 1) (match c.rev with | .a1 => 0 | .b0 => 1) then 4
  else 0

/-- The length, the number of sections and the flags of an image's header. -/
def imgLength (b : List Nat) : Nat := numAt b 0x10 4
/-- sect_count. -/
def imgCount (b : List Nat) : Nat := numAt b 0x14 2
/-- flags. -/
def imgFlags (b : List Nat) : Nat := numAt b 0x16 2
/-- The start of the trailer (R168). -/
def imgTrailer (b : List Nat) : Nat := imgLength b - (if imgFlags b == 1 then 68 else 4)

/-- Entry `i` of the section table (R167). -/
def imgEntry (b : List Nat) (i : Nat) : Entry :=
  let o := 64 + 16 * i
  { typ := numAt b o 2, version := numAt b (o + 2) 1, flags := numAt b (o + 3) 1, off := numAt b (o + 4) 4
    size := numAt b (o + 8) 4, spare := numAt b (o + 12) 4 }

/-- The section table of an image. -/
def imgTable (b : List Nat) : List Entry := (List.range (imgCount b)).map (imgEntry b)

/-- The bytes of an entry's section. -/
def Entry.bytes (e : Entry) (b : List Nat) : List Nat := (b.drop e.off).take e.size

/-- The sections of R170 in the order of application; the verifying key is not applied. -/
def sectionOrder : List Nat :=
  [0x1, 0x2, 0xA, 0x9, 0xB, 0x3, 0xE, 0x4, 0x5, 0x7, 0x6, 0x8, 0xC, 0xD, 0x10, 0xF]

/-- A section type of the table of R170. -/
def knownType (t : Nat) : Bool := sectionOrder.contains t || t == 0x11

/-- The section of a type. -/
def imgSection (b : List Nat) (t : Nat) : Option Entry := (imgTable b).find? (fun e => e.typ == t)

/-- The body of the section of a type, empty where the image has none. -/
def imgBody (b : List Nat) (t : Nat) : List Nat := match imgSection b t with | some e => e.bytes b | none => []

/-- Entry `e` meets R164 and R167 beside the entries before it: it lies between the table and the trailer, overlaps none of them and
repeats no type; an unknown type that must be understood fails (R173). -/
def entryOk (b : List Nat) (before : List Entry) (e : Entry) : Bool :=
  e.version == 1 && decide (e.flags < 2) && e.off % 4 == 0 && e.size % 4 == 0 && e.spare == 0 &&
    decide (64 + 16 * imgCount b ≤ e.off) && decide (e.off + e.size ≤ imgTrailer b) &&
    before.all (fun x => x.typ != e.typ && (decide (e.off + e.size ≤ x.off) || decide (x.off + x.size ≤ e.off) || e.size == 0 || x.size == 0)) &&
    (knownType e.typ || e.flags == 0)

/-- The first entry that fails, with its place. -/
def badEntry (b : List Nat) : Option (Nat × Entry) :=
  let t := imgTable b
  ((List.range t.length).map (fun i => (i, t.getD i {}))).find? (fun x => !entryOk b (t.take x.1) x.2)

/-- Check 5 of R173. -/
def tableVerdict (b : List Nat) : Option Verdict :=
  let n := imgLength b
  if !(n % 4 == 0 && decide (128 ≤ n) && decide (n ≤ 131072) && decide (2 ≤ imgCount b) && decide (imgCount b ≤ 32) &&
      decide (imgFlags b < 2) && numAt b 0x18 4 == 64 && decide (64 + 16 * imgCount b ≤ imgTrailer b)) then some { reason := 5 }
  else
    match badEntry b with
    | some (i, e) => some { reason := 5, section_ := e.typ % 256, record := i }
    | none => if (imgSection b 1).isNone || (imgSection b 3).isNone then some { reason := 5 } else none

/-- Check 6 of R173: the CRC-32 of R168. -/
def crcOk (b : List Nat) : Bool := numAt b (imgTrailer b) 4 == crc32 (b.take (imgTrailer b))

/-- The image carries the signature flag and a key section, and the signature verifies (R184). -/
def signatureOk (b : List Nat) : Bool :=
  imgFlags b == 1 && (imgBody b 0x11).length == 64 &&
    ecdsaOk (imgBody b 0x11) (sha256 (b.take (imgTrailer b + 4))) ((b.drop (imgTrailer b + 4)).take 64)

/-! ### Register records (R169, R170) -/

/-- A register record with its section and its place in it. -/
structure BRec where
  sec : Nat := 0
  idx : Nat := 0
  addr : Nat := 0
  inst : Nat := 0
  val : Nat := 0
  deriving DecidableEq, Repr

/-- A section that consists of register records. -/
def recordSection (t : Nat) : Bool := t != 6 && t != 0x10

/-- The records of a section's body. -/
def recsOf (t : Nat) (body : List Nat) : List BRec :=
  (List.range (body.length / 8)).map (fun i =>
    let a := numAt body (8 * i) 4
    { sec := t, idx := i, addr := a % 2 ^ 24, inst := a / 2 ^ 24, val := numAt body (8 * i + 4) 4 })

/-- The records of an image in the order of application. -/
def imgRecs (b : List Nat) : List BRec := (sectionOrder.filter recordSection).flatMap (fun t => recsOf t (imgBody b t))

/-- The 4 KiB pages of the register space whose blocks a section may address (R170); the patch list reaches every block but DEV_. -/
def sectionPages (t : Nat) : List Nat :=
  match t with
  | 0x1 => [0x1, 0x2, 0x3, 0xE, 0x16]
  | 0x2 => [0x4]
  | 0xA => [0x12]
  | 0x9 => [0x11]
  | 0xB => [0x13]
  | 0x3 => [0x5, 0x6, 0x7]
  | 0xE => [0xF]
  | 0x4 => [0x8, 0x9]
  | 0x5 => [0xA, 0xB]
  | 0x7 => [0xC, 0xD]
  | 0x8 => [0x10]
  | 0xC => [0x14]
  | 0xD => [0x15]
  | 0xF => (List.range 0x16).map (· + 1)
  | _ => []

/-- The fields that a record of a section may set (R8, R170): those whose Blank column reads Yes, or for the patch list Patch too. -/
def BRec.fields (r : BRec) : List (Fld × Nat) :=
  (fldsAt r.addr).filter (fun x => x.1.blank == .yes || (r.sec == 0xF && x.1.blank == .patch))

/-- Ranges that the field tables give, part 0: field, lowest and highest value. -/
def fldRanges0 : List (Fld × Nat × Nat) :=
  [(PWR_DOM_CFG_idle_ms, 1, 255),
   (PWR_HOLD_CFG_flush_pages, 1, 8),
   (PWR_HOLD_CFG_load_ma, 1, 40),
   (PWR_HOLD_CFG_cap_uf, 47, 470),
   (HNG_CFG_margin_min, 0, 64),
   (BLK_CFG_size_64k, 16, 255),
   (BLK_CFG_lanes, 0, 2),
   (OUT_CFG_src, 0, 8),
   (OUT_CFG_mode, 0, 8),
   (OUT_LIM_ilim_fine, 0, 24),
   (OUT_UV_delay, 1, 255),
   (OUT_UV_uvth, 0, 44)]

/-- Ranges that the field tables give, part 1: field, lowest and highest value. -/
def fldRanges1 : List (Fld × Nat × Nat) :=
  [(OUT_DIAG_ol_period, 1, 255),
   (OUT_TP_period, 1, 250),
   (OUT_TP_bright_max, 1, 20),
   (OUT_TP_dark_max, 1, 40),
   (IN_CFG_ilim, 0, 2),
   (IN_WB_ms, 1, 100),
   (IN_WB_th, 4, 18),
   (IN_TPC_period, 1, 250),
   (IN_TPC_win, 1, 100),
   (TMB_TS_PERIOD_period, 80, 52428000),
   (TMB_CMP_CFG_src, 0, 5),
   (TMB_AUX_MAP_width, 8, 65535)]

/-- Ranges that the field tables give, part 2: field, lowest and highest value. -/
def fldRanges2 : List (Fld × Nat × Nat) :=
  [(LSY_PERIOD_us, 100, 100000),
   (LSY_CAL_CFG_temp_c, 5, 20),
   (LSY_CAL_CFG_interval_min, 1, 255),
   (LSY_PAIR_lead, 2, 15),
   (OPS_SQ_CFG_log2, 4, 10),
   (OPS_SQ_CFG_bank, 0, 47),
   (OPS_CQ_CFG_log2, 4, 10),
   (OPS_CQ_CFG_bank, 0, 47),
   (OPS_QOS_cap16, 1, 1024),
   (OPS_QOS_res16, 0, 1024),
   (OPS_QOS_weight, 1, 15),
   (OPS_POOL_CFG_size_k, 0, 16)]

/-- Ranges that the field tables give, part 3: field, lowest and highest value. -/
def fldRanges3 : List (Fld × Nat × Nat) :=
  [(SCH_CFG_stagger_ms, 2, 50),
   (SCH_CFG_age_ms, 10, 255),
   (SCH_CFG_horizon_ms, 20, 1000),
   (SCH_TLIM_restore_margin, 2, 40),
   (SCH_TLIM_logic_soft, 90, 135),
   (SCH_TLIM_field_soft, 100, 150),
   (SCH_TLIM_tj_soft, 100, 165),
   (SCH_VF_BUD_burst, 0, 3000),
   (SCH_LOGIC_nvm_cycles, 1, 255),
   (SCH_LOGIC_ma_max, 10, 200),
   (SCH_MODEL0_r1, 5, 255),
   (SCH_MODEL0_r2, 5, 255)]

/-- Ranges that the field tables give, part 4: field, lowest and highest value. -/
def fldRanges4 : List (Fld × Nat × Nat) :=
  [(SCH_MODEL0_r3, 5, 255),
   (SCH_MODEL1_tau1, 1, 255),
   (SCH_MODEL1_tau2, 1, 255),
   (SCH_MODEL1_tau3, 1, 255),
   (SCH_MODEL2_rds25, 100, 255),
   (SCH_MODEL2_slope, 40, 255),
   (DBT_CFG_fhold_max_ms, 0, 1000),
   (DBT_TIME_tsens_ms, 2, 8),
   (DBT_TIME_hb_us, 100, 200),
   (DBT_PROOF_CFG_rotation_s, 10, 43200),
   (REC_CFG_flush_s, 1, 255),
   (REC_CFG_flush_ms, 1, 255)]

/-- Ranges that the field tables give, part 5: field, lowest and highest value. -/
def fldRanges5 : List (Fld × Nat × Nat) :=
  [(REC_CFG_jsev, 0, 4),
   (TMB_DL_limit, 1, 65535),
   (INT_PIN_CFG_width, 1, 255),
   (WDG_WDO_CFG_width_ms, 1, 100),
   (LIFE_CFG_warn_pct, 1, 100),
   (LIFE_CFG_interval_min, 1, 1440)]

/-- The ranges that the field tables give for the fields a Blank sets, where they are narrower than the field. -/
def fldRanges : List (Fld × Nat × Nat) := fldRanges0 ++ fldRanges1 ++ fldRanges2 ++ fldRanges3 ++ fldRanges4 ++ fldRanges5

/-- A value lies in the range that the field's table gives. -/
def Fld.inRange (f : Fld) (v : Nat) : Bool :=
  match fldRanges.find? (fun x => x.1.base == f.base && x.1.lsb == f.lsb) with
  | some (_, lo, hi) => decide (lo ≤ v) && decide (v ≤ hi)
  | none => true

/-- A record's own failures under R174: block, alignment, instance, a bit outside the fields it may set, a value outside its range. -/
def BRec.bad (r : BRec) : Bool :=
  let fs := r.fields
  let mask := fs.foldl (fun m x => m ||| (2 ^ x.1.width - 1) * 2 ^ x.1.lsb) 0
  r.addr % 4 != 0 || !(sectionPages r.sec).contains (r.addr / 0x1000) ||
    (if (fldsAt r.addr).any (fun x => x.1.perWard) then decide (8 ≤ r.inst) else r.inst != 0) ||
    clrMask r.val mask != 0 || fs.any (fun x => !x.1.inRange (bitsOf r.val x.1.lsb x.1.width))

/-- The first record that fails by itself, or sets a word that a typed record before it has set (R174). -/
def badRec : List BRec → List BRec → Option BRec
  | _, [] => none
  | seen, r :: rest =>
    if r.bad || (r.sec != 0xF && seen.any (fun x => x.addr == r.addr && x.inst == r.inst)) then some r
    else badRec (if r.sec == 0xF then seen else r :: seen) rest

/-- A record applied to the register file (R169). -/
def BRec.apply (h : Hub) (r : BRec) : Hub :=
  r.fields.foldl (fun h x => h.wr x.1 (bitsOf r.val x.1.lsb x.1.width) x.2 r.inst) h

/-- The hub as a Blank would configure it, with nothing else in it: what the rules that join registers are judged on. -/
def Chip.trial (c : Chip) (rs : List BRec) : Hub := rs.foldl BRec.apply { chip := c }

/-! ### The tumbler programs and the key slots (R171, R172) -/

/-- The tumbler programs section agrees with its body (R171). -/
def programsOk (body : List Nat) : Bool :=
  let l0 := numAt body 0 4
  let l1 := numAt body 4 4
  decide (8 ≤ body.length) && l0 % 8 == 0 && l1 % 8 == 0 && decide (l0 ≤ 8192) && decide (l1 ≤ 8192) && body.length == 8 + l0 + l1

/-- The contents of DP0 and DP1 that an image carries. -/
def imgPrograms (b : List Nat) : List Nat × List Nat :=
  let body := imgBody b 6
  let l0 := numAt body 0 4
  ((body.drop 8).take l0, (body.drop (8 + l0)).take (numAt body 4 4))

/-- The 64-bit instructions of a program image. -/
def progWords (p : List Nat) : List Nat := (List.range (p.length / 8)).map (fun i => numAt p (8 * i) 8)

/-- Some tumbler condition of an image names AUX2 or AUX3 (R323). -/
def namesAux (b : List Nat) : Bool :=
  let p := imgPrograms b
  (progWords p.1 ++ progWords p.2).any (fun w =>
    (w / 2 ^ 59 == 5 || w / 2 ^ 59 == 6) && (bitsOf w 24 8 == 0x12 || bitsOf w 24 8 == 0x13))

/-- The first key slot entry that fails (R172, R174): an authority slot above 3 or named twice, an OTP slot above 7, a fourth byte that is
not 0. -/
def badKey (body : List Nat) : Option Nat :=
  (List.range (body.length / 4)).find? (fun i =>
    decide (4 ≤ numAt body (4 * i) 1) || decide (8 ≤ numAt body (4 * i + 1) 1) || numAt body (4 * i + 3) 1 != 0 ||
      (List.range i).any (fun j => numAt body (4 * j) 1 == numAt body (4 * i) 1))

/-! ### The rules that join registers: each names the register that fails -/

/-- Wards, their ports and their resources (R174, R351, R352). -/
def Hub.wardRules (h : Hub) : List (Bool × Nat) :=
  let named := (List.range 3).foldl (fun m p => m ||| h.rd HPT_CFG_wards p) 0
  (!h.defined 0, 0x5000) ::
  ((List.range 8).flatMap (fun w =>
    let a := 0x5000 + 0x40 * w
    let e := h.rd WRD_CFG_exp_allow w
    let before := (List.range w).filter h.defined
    [((w != 0 && e % 8 != 0) || bitOf e 7, a),
     (!h.defined w && h.rd WRD_CH_ch w != 0, a + 4),
     (!h.defined w && h.rd WRD_TMB_tmb w != 0, a + 8),
     (h.defined w && before.any (fun x => h.rd WRD_CH_ch x &&& h.rd WRD_CH_ch w != 0), a + 4),
     (h.defined w && before.any (fun x => h.rd WRD_TMB_tmb x &&& h.rd WRD_TMB_tmb w != 0), a + 8),
     (h.defined w && !bitOf named w, a)]) ++
  (List.range 3).map (fun p => ((List.range 8).any (fun w => bitOf (h.rd HPT_CFG_wards p) w && !h.defined w), 0x5800 + 0x40 * p)))

/-- Output channels (R4, R174, R201, R208, R217, R232, R352, R514). -/
def Hub.outRules (h : Hub) : List (Bool × Nat) :=
  (List.range 16).flatMap (fun c =>
    let a := 0x8000 + 0x100 * c
    let m := h.mode c
    let own := h.chOwner c
    let src := h.rd OUT_CFG_src c
    let fhold := h.rd OUT_FHOLD_ms c
    let odd := if c % 2 == 0 then c + 1 else c - 1
    let outp := h.isOut c
    let tmb := h.rd OUT_TP_tmb c
    [(m != 0 && own.isNone, a),
     (h.bonded ≤ c && (m != 0 || own.isSome), a),
     (outp && src != 0 && h.tmbOwner (src - 1) != own, a),
     (outp && src != 0 && own.isNone, a),
     ((m == 6 || m == 8) && src == 0, a),
     (m == 7 && (h.mode odd != 7 || h.chOwner odd != own), a),
     (outp && (h.flag OUT_TP_dark_en c || h.flag OUT_TP_bright_en c) && (src == tmb + 1 || own.isNone || h.tmbOwner tmb != own), a + 0x14),
     (outp && h.flag OUT_CFG_safety c && m != 1 && m != 7, a),
     (outp && h.flag OUT_CFG_safety c && (fhold == 65535 || h.rd DBT_CFG_fhold_max_ms < fhold), a + 4),
     (outp && h.flag OUT_CFG_safety c && src != 0 && !h.flag TMB_DL_en (src - 1), a)])

/-- Input channels (R256, R264, R514). -/
def Hub.inRules (h : Hub) : List (Bool × Nat) :=
  (List.range 16).flatMap (fun c =>
    let a := 0xA000 + 0x100 * c
    let src := h.rd IN_TPC_src_ch c
    let us := h.rd IN_DEB_us c
    let tpc := h.isIn c && h.flag IN_TPC_en c
    [(tpc && (h.mode src != 6 || h.chOwner src != h.chOwner c || h.tmbOwner (h.rd IN_TPC_tmb c) != h.chOwner c), a + 0xC),
     (h.isIn c && h.flag IN_CFG_safety c && decide (50000 < us), a + 4)])

/-- The tumblers (R311): regions of those that a record gives one, timing sets, deadlines, compare slots. -/
def Hub.tmbRules (h : Hub) (has : Nat → Bool) : List (Bool × Nat) :=
  let region := fun t => has (0xC004 + 0x200 * t)
  let lo := fun t => h.rd TMB_REGION_base t
  let hi := fun t => h.rd TMB_REGION_base t + h.rd TMB_REGION_len_m1 t
  ((List.range 8).flatMap (fun t =>
    let a := 0xC000 + 0x200 * t
    [(decide (1024 ≤ hi t) || decide (h.rd TMB_REGION_len_m1 t < h.rd TMB_REGION_lock t), a + 4),
     (region t && (List.range t).any (fun u => region u && h.tmbOwner u != h.tmbOwner t && h.rd TMB_REGION_bank u == h.rd TMB_REGION_bank t &&
        decide (lo u ≤ hi t) && decide (lo t ≤ hi u)), a + 4),
     (h.flag TMB_CFG_auto_start t && !region t, a),
     (h.flag TMB_DL_en t && h.rd TMB_DL_limit t == 0, a + 0xC)])) ++
  ((List.range 8).flatMap (fun k => (List.range 20).map (fun p =>
    let f := if p < 16 then bitsOf (h.rd TMB_TS_FMT_LO_fmt_ch k) (2 * p) 2 else bitsOf (h.rd TMB_TS_FMT_HI_fmt_aux k) (2 * (p - 16)) 2
    let on := h.rd (TMB_TS_ASSERT_assert p) k
    let off := h.rd (TMB_TS_RELEASE_release p) k
    let per := h.rd TMB_TS_PERIOD_period k
    (f == 3 || decide (per ≤ on) || ((f == 1 || f == 2) && (decide (off ≤ on) || decide (per < off))), 0xD000 + 0x100 * k)))) ++
  (List.range 16).map (fun j =>
    (h.flag TMB_CMP_CFG_en j && (!h.defined (h.rd TMB_CMP_CFG_ward j) || (h.rd TMB_CMP_CFG_src j == 5 && decide (5 < h.rd TMB_CMP_CFG_index j))),
      0xD800 + 0x10 * j))

/-- A bank of the descriptor pool (R412). -/
def Hub.poolBank (h : Hub) (b : Nat) : Bool := decide (28 ≤ b) && decide (b < 28 + h.rd OPS_POOL_CFG_size_k)

/-- The initial bank owners (R451). -/
def Hub.ownerRules (h : Hub) : List (Bool × Nat) :=
  (List.range 48).map (fun b =>
    let o := h.rd BNK_OWNER_owner b
    let ok :=
      if h.poolBank b then o == 0x20
      else if 44 ≤ b then o == 0x30
      else if o < 8 then h.defined o
      else if 0x10 ≤ o && o < 0x18 then (h.tmbOwner (o - 0x10)).isSome
      else o == 0xFF
    (!ok, 0xF000 + 0x10 * b))

/-- A ring of R382 that ward `w` may have. -/
def Hub.ringOk (h : Hub) (w bank log2 base : Nat) : Bool :=
  base % (4 * 2 ^ log2) == 0 && decide (base + 4 * 2 ^ log2 ≤ 4096) && !h.poolBank bank && decide (bank < 44) && h.rd BNK_OWNER_owner bank == w

/-- The operation engine (R382, R412); `sectors` is how many 4 KiB sectors the user area has. -/
def Hub.opsRules (h : Hub) (sectors : Nat) : List (Bool × Nat) :=
  let pool := 1024 * h.rd OPS_POOL_CFG_size_k
  let lo := fun w => h.rd OPS_NVM_EXT_base w
  let hi := fun w => h.rd OPS_NVM_EXT_base w + h.rd OPS_NVM_EXT_size w
  [(pool == 0 && (List.range 8).any (fun w => h.flag OPS_SQ_CFG_en w), 0x6800),
   (decide (pool < (List.range 8).foldl (fun m w => m + 16 * h.rd OPS_QOS_res16 w) 0), 0x6800)] ++
  (List.range 8).flatMap (fun w =>
    let a := 0x6000 + 0x40 * w
    let cap := 16 * h.rd OPS_QOS_cap16 w
    [(h.flag OPS_SQ_CFG_en w && (decide (cap < 16 * h.rd OPS_QOS_res16 w) || decide (pool < cap)), a + 8),
     (h.flag OPS_SQ_CFG_en w && !h.ringOk w (h.rd OPS_SQ_CFG_bank w) (h.rd OPS_SQ_CFG_log2 w) (h.rd OPS_SQ_CFG_base w), a),
     (h.flag OPS_CQ_CFG_en w && !h.ringOk w (h.rd OPS_CQ_CFG_bank w) (h.rd OPS_CQ_CFG_log2 w) (h.rd OPS_CQ_CFG_base w), a + 4),
     (h.rd OPS_NVM_EXT_size w != 0 && ((List.range w).any (fun x => h.rd OPS_NVM_EXT_size x != 0 && decide (lo x < hi w) && decide (lo w < hi x)) ||
        decide (sectors < hi w)), a + 0x10)])

/-- Luanen sync (R323, R340). -/
def Hub.lsyRules (h : Hub) (aux : Bool) : List (Bool × Nat) :=
  let c := h.rd LSY_PAIR_ch
  let per := h.rd LSY_PERIOD_us
  [(h.flag LSY_CFG_en && !h.flag CLK_CFG_src, 0xE000),
   (h.flag LSY_CFG_xcvr && (aux || h.flag TMB_AUX_MAP_dir 2 || h.flag TMB_AUX_MAP_dir 3), 0xE000),
   (h.flag LSY_PAIR_en && (decide (2000 < per) || (h.flag LSY_CFG_head && h.rd LSY_PAIR_partner == 0) || h.mode c != 1 ||
      !h.flag OUT_CFG_safety c || h.flag OUT_CFG_safe_on c || h.rd OUT_CFG_src c != 0), 0xE010)] ++
  (List.range 8).map (fun k => (decide (100 * per ≤ h.rd LSY_EV_OFS_ofs k), 0xE044 + 8 * k))

/-- Domains off for the life of the Blank that something would use (R92). -/
def Hub.domainRules (h : Hub) : List (Bool × Nat) :=
  let offB := h.flag PWR_DOM_CFG_fchb_off || h.chip.part == .pwh0840
  let owned := fun (lo hi : Nat) => (List.range 48).any (fun b => decide (lo ≤ b) && decide (b < hi) && h.rd BNK_OWNER_owner b != 0xFF)
  [(offB && (List.range 8).any (fun i => h.mode (8 + i) != 0), 0x1008),
   (h.flag PWR_DOM_CFG_seq_off && ((List.range 8).any (fun t => (h.tmbOwner t).isSome) || h.flag LSY_CFG_en), 0x1008),
   (h.flag PWR_DOM_CFG_mem0_off && owned 0 24, 0x1008),
   (h.flag PWR_DOM_CFG_mem1_off && owned 24 48, 0x1008),
   (h.flag PWR_DOM_CFG_ops_off && (List.range 8).any (fun w => h.flag OPS_SQ_CFG_en w), 0x1008)]

/-- Interrupts and ward resets (R439). -/
def Hub.intRules (h : Hub) (has : Nat → Bool) : List (Bool × Nat) :=
  (List.range 4).map (fun p => (h.rd INT_PIN_CFG_mode p == 1 && h.rd INT_PIN_CFG_width p == 0, 0x7400 + 4 * p)) ++
  (List.range 8).flatMap (fun w =>
    [((w != 0 && (bitOf (h.rd INT_EN_en w) 22 || bitOf (h.rd INT_EN_en w) 23)) || clrMask (h.rd INT_EN_en w) 0x40FFFF7F != 0, 0x7004 + 0x20 * w),
     (has (0x7900 + 0x10 * w) && !h.defined w, 0x7900 + 0x10 * w)])

/-- The classes that the Blank may give source `n` (R535). -/
def classChoices (n : Nat) : List Nat :=
  if fixedSources.contains n then [defaultClass n]
  else if [5, 19, 20].contains n then [0, 1, 2]
  else if [3, 15, 48, 52, 53].contains n then [2, 3, 5]
  else if [11, 21, 22, 23, 24, 25, 27, 28, 29, 30, 31, 32, 37, 40, 41, 42].contains n then [0, 1, 2, 3, 4, 5]
  else [0, 1, 2, 3, 5]

/-- The fault reaction table (R547). -/
def Hub.fltRules (h : Hub) : List (Bool × Nat) :=
  (List.range 62).flatMap (fun n =>
    [(!(classChoices n).contains (h.fltClass n), 0x12040 + 4 * (n / 8)),
     (fixedSources.contains n && !h.flag (FLT_EN_en n), 0x12020 + 4 * (n / 32))])

/-- The watchdogs (R573). -/
def Hub.wdgRules (h : Hub) : List (Bool × Nat) :=
  let mask := h.rd WDG_WDO_CFG_en_mask
  ((List.range 9).flatMap (fun k =>
    let a := 0x13000 + 0x20 * k
    let t := h.rd WDG_TIME_timeout_ms k
    let o := h.rd WDG_WIN_open_ms k
    [(t == 0, a + 4),
     (if h.flag WDG_CFG_win_en k then o == 0 || decide (t ≤ o) else o != 0, a + 8),
     (decide (k < 8) && h.flag WDG_CFG_en k && !h.defined k, a)])) ++
  [(!h.defined (h.rd WDG_DWD_CFG_ward), 0x13180),
   ((List.range 9).any (fun k => bitOf mask k && !h.flag WDG_CFG_en k), 0x13184),
   (mask != 0 && (h.rd WDG_WDO_CFG_width_ms == 0 || decide (100 < h.rd WDG_WDO_CFG_width_ms)), 0x13184)]

/-- The scheduler's and the recorder's own rules (R498, R617). -/
def Hub.lastRules (h : Hub) : List (Bool × Nat) :=
  [((List.range 8).any (fun t => bitOf (h.rd SCH_NOSHED_tmb) t && (h.tmbOwner t).isNone), 0x10010),
   (!bitOf (h.rd REC_CFG_read_mask) 0, 0x14000)]

/-- Every rule that joins registers. -/
def Hub.crossRules (h : Hub) (has : Nat → Bool) (aux : Bool) (sectors : Nat) : List (Bool × Nat) :=
  h.wardRules ++ h.outRules ++ h.inRules ++ h.domainRules ++ h.ownerRules ++ h.opsRules sectors ++ h.lsyRules aux ++ h.tmbRules has ++
    h.intRules has ++ h.lastRules ++ h.fltRules ++ h.wdgRules

/-- The 4 KiB sectors of the user area on a device of a size in 64 KiB units; only the first 16 MiB are used. -/
def userSectors (size64 : Nat) : Nat := 16 * min 256 size64 - 0x70

/-- Check 9 of R173: the content (R174). A rule that joins registers names the first record that sets the register it fails on. -/
def contentVerdict (c : Chip) (sfdpSize : Option Nat) (b : List Nat) : Option Verdict :=
  let rs := imgRecs b
  let half := (sectionOrder.filter recordSection).find? (fun t => (imgBody b t).length % 8 != 0)
  match half with
  | some t => some { reason := 9, section_ := t, record := (imgBody b t).length / 8 }
  | none =>
    match badRec [] rs with
    | some r => some { reason := 9, section_ := r.sec, record := r.idx }
    | none =>
      if (imgSection b 6).isSome && !programsOk (imgBody b 6) then some { reason := 9, section_ := 6 }
      else if (imgSection b 0x11).isSome && (imgBody b 0x11).length != 64 then some { reason := 9, section_ := 0x11 }
      else
        match badKey (imgBody b 0x10) with
        | some i => some { reason := 9, section_ := 0x10, record := i }
        | none =>
          let h := c.trial rs
          let size := match sfdpSize with | some s => s | none => h.rd BLK_CFG_size_64k
          match (h.crossRules (fun a => rs.any (fun r => r.addr == a)) (namesAux b) (userSectors size)).find? (fun x => x.1) with
          | none => none
          | some (_, a) =>
            match rs.find? (fun r => r.addr == a) with
            | some r => some { reason := 9, section_ := r.sec, record := r.idx }
            | none => some { reason := 9 }

/-- A slot's image of which the header has passed, judged in the order of R173 (checks 5 to 9). -/
def judgeImage (c : Chip) (sfdpSize : Option Nat) (b : List Nat) : Verdict :=
  match tableVerdict b with
  | some v => v
  | none =>
    if !crcOk b then { reason := 6 }
    else if c.hashState == 2 && ((imgSection b 0x11).isNone || sha256 (imgBody b 0x11) != c.keyHash) then { reason := 7, section_ := 0x11 }
    else if c.hashState == 2 && !signatureOk b then { reason := 8 }
    else
      match contentVerdict c sfdpSize b with
      | some v => v
      | none => {}

end Sys2Proof.Machine
end

