-- ==== Sys2Proof/Machine/Recorder.lean ====
section
/-!
DEFINITION. The event recorder (chapter 20): records, intake and numbering, the ring, the NVM journal with its sectors and scan,
authorised clearing, clearing keys, and their commands.

What the spec leaves open here: DESIGN CHOICE, log entry 4; DEDUCED, log entries 56, 57, 58, 64.
-/

namespace Sys2Proof.Machine

/-! ### Records (R606, R607) -/

/-- The bytes of words, each least significant byte first. -/
def wordBytes (ws : List Nat) : List Nat := ws.flatMap (leBytes 4)

/-- The first seven words of a record with word 7 after them. -/
def withMark (ws : List Nat) : List Nat := ws ++ [0xA55A * 2 ^ 16 + crc16 (wordBytes ws)]

/-- The eight words of a record (R606). -/
def recWords (seq : Nat) (e : RecEvent) : List Nat :=
  withMark ([e.typ * 2 ^ 24 + e.source * 2 ^ 16 + e.sev * 2 ^ 8 + e.len, seq % 2 ^ 32,
    e.ward * 2 ^ 24 + e.flags * 2 ^ 16 + seq / 2 ^ 32] ++ (padTo 4 0 e.payload).take 4)

/-- A record is valid: word 7 carries the mark and the CRC of words 0 to 6 (R607). -/
def recValid (ws : List Nat) : Bool :=
  ws.getD 7 0 / 2 ^ 16 == 0xA55A && ws.getD 7 0 % 2 ^ 16 == crc16 (wordBytes (ws.take 7))

/-- A record's sequence number. -/
def recSeq (ws : List Nat) : Nat := ws.getD 1 0 + ws.getD 2 0 % 2 ^ 16 * 2 ^ 32

/-- A record's severity. -/
def recSev (ws : List Nat) : Nat := bitsOf (ws.getD 0 0) 8 3

/-- A record's type. -/
def recTyp (ws : List Nat) : Nat := ws.getD 0 0 / 2 ^ 24

/-- Records in sequence order. -/
def bySeq (l : List (List Nat)) : List (List Nat) := l.mergeSort (fun a b => recSeq a ≤ recSeq b)

/-! ### The ring (R613 to R616) -/

/-- The number of ring slots. -/
def ringSlots : Nat := 2048

/-- The address of word `k` of ring slot `i` (R613). -/
def ringAddr (i k : Nat) : Nat := bankAddr (44 + i / 512) (8 * (i % 512) + k)

/-- The words of a ring slot. -/
def Hub.ringWords (h : Hub) (i : Nat) : List Nat := (List.range 8).map (fun k => h.memWord (ringAddr i k))

/-- The record of a ring slot, where it holds a valid one. -/
def Hub.ringRec (h : Hub) (i : Nat) : Option (List Nat) :=
  if h.memWord (ringAddr i 7) / 2 ^ 16 == 0xA55A && recValid (h.ringWords i) then some (h.ringWords i) else none

/-- The valid records of the ring with their slots. -/
def Hub.ringList (h : Hub) : List (Nat × List Nat) := (List.range ringSlots).filterMap (fun i => (h.ringRec i).map (fun r => (i, r)))

/-- The slot that a new record takes, and the record it replaces (R613, R614); none where no slot qualifies. -/
def ringPick (l : List (Nat × List Nat)) (sev : Nat) : Option (Nat × Option (List Nat)) :=
  match (List.range ringSlots).find? (fun i => !(l.any (fun x => x.1 == i))) with
  | some i => some (i, none)
  | none =>
    let c := l.filter (fun x => if sev ≤ 2 then decide (recSev x.2 ≤ sev) else decide (recSev x.2 < sev))
    (c.foldl (fun (b : Option (Nat × List Nat)) x =>
      match b with | none => some x | some y => if recSeq x.2 < recSeq y.2 then some x else some y) none).map
        (fun x => (x.1, some x.2))

/-- The ring's status bits and REC_SEALED (R615, R631). -/
def Hub.showRing (h : Hub) : Hub :=
  let l := h.ringList
  let full := l.length == ringSlots
  let seals := full && l.all (fun x => recSev x.2 == 4)
  let h := (h.put REC_STAT_full full).put REC_STAT_sealed seals
  if seals then h.raise 54 16 1 detailOpen else h.lower 54 16

/-- A record leaves the ring: one that is eligible and not yet staged counts as missed (R620). -/
def Hub.evicted (h : Hub) (ws : List Nat) : Hub :=
  let h := h.countMod REC_EVICT_COUNT_count
  if h.recd.waiting.contains (recSeq ws) then
    { h with recd := { h.recd with waiting := h.recd.waiting.filter (· != recSeq ws) } }.count REC_JSTAT_missed
  else h

/-! ### Staging (R620, R621, R632) -/

/-- The journal severity in force (R632). -/
def Hub.jsev (h : Hub) : Nat :=
  (List.range 8).foldl (fun m w => if h.rd REC_RT_jsev_rt 0 w == 0 then m else min m (h.rd REC_RT_jsev_rt 0 w - 1)) (h.rd REC_CFG_jsev)

/-- The journal's sector at the write point, and the sector that is erased next (R623, R626). -/
def Hub.headSector (h : Hub) : Nat := h.rd REC_JSTAT_page / 16

/-- The sector that a reclaim erases: the one after the head, or the one at the write point where it waits for its erase. -/
def Hub.eraseSector (h : Hub) : Nat :=
  match h.recd.clearSectors with
  | s :: _ => s
  | [] => if h.recd.eraseFirst || h.flag REC_STAT_jpaused then h.headSector else (h.headSector + 1) % 32

/-- Nothing holds up the journal. -/
def Hub.journals (h : Hub) : Bool :=
  !(h.flag REC_STAT_jsealed || h.flag REC_STAT_jfail || h.flag REC_STAT_jscan || h.recd.clearRun.isSome)

/-- The staging buffer takes one more record: at its last page, or on a second page. The page that is submitted takes none. -/
def stageRoom (l : List StagePage) (submitted : Bool) : Bool :=
  match l with
  | [] => true
  | [p] => !submitted && decide (p.recs.length < 8) || decide (l.length < 2)
  | _ => (l.getLast?.map (fun p => decide (p.recs.length < 8))).getD true

/-- The wait in force after a Fault or Safety record, in ms: REC_CFG.flush_ms, or the shortest that a ward's trim asks for (R621, R632). -/
def Hub.flushMs (h : Hub) : Nat :=
  (List.range 8).foldl (fun m w => if h.rd REC_RT_flush_ms_rt 0 w == 0 then m else min m (h.rd REC_RT_flush_ms_rt 0 w)) (h.rd REC_CFG_flush_ms)

/-- A record put into the staging buffer; `till` is when the wait of a Fault or Safety record ends. -/
def stageAdd (l : List StagePage) (submitted : Bool) (ws : List Nat) (now till : Nat) : List StagePage :=
  let urgent := if 3 ≤ recSev ws then some till else none
  let into := fun (p : StagePage) => { p with recs := p.recs ++ [ws], urgent := if p.urgent.isSome then p.urgent else urgent }
  match l with
  | [] => [{ recs := [ws], since := now, urgent := urgent }]
  | [p] => if !submitted && p.recs.length < 8 then [into p] else [p, { recs := [ws], since := now, urgent := urgent }]
  | p :: q :: rest => p :: into q :: rest

/-- The first waiting record staged from the ring, where there is room (R620). -/
def Hub.stageOne (h : Hub) : Hub :=
  match h.recd.waiting with
  | [] => h
  | s :: rest =>
    if h.journals && stageRoom h.recd.staging h.recd.submitted then
      let h1 := { h with recd := { h.recd with waiting := rest } }
      match h.ringList.find? (fun x => recSeq x.2 == s) with
      | none => h1
      | some x =>
        let till := h.clk.now + h.flushMs * Config.ticksPerMs
        { h1 with recd := { h1.recd with staging := stageAdd h.recd.staging h.recd.submitted x.2 h.clk.now till } }
    else h

/-- Waiting records staged until the buffer is full. -/
def Hub.stage (h : Hub) : Hub := (List.range 16).foldl (fun h _ => h.stageOne) h

/-- A record's word 7 has been written: an eligible record joins those that wait, the Clear record ahead of all others (R636), and
is staged where there is room; in a sealed journal it is missed (R624). -/
def Hub.journalNew (h : Hub) (ws : List Nat) : Hub :=
  if recSev ws < h.jsev then h
  else if h.flag REC_STAT_jsealed && h.recd.clearRun.isNone then h.count REC_JSTAT_missed
  else
    let w := if recTyp ws == 4 then recSeq ws :: h.recd.waiting else h.recd.waiting ++ [recSeq ws]
    { h with recd := { h.recd with waiting := w } }.stage

/-! ### Intake, numbering and the writer (R609 to R612, R629, R630) -/

/-- RECORD_INTAKE (R609): an event of some block reaches the intake FIFO, with its type, source, severity, ward and payload. In a logic-die
reset there is no intake (R640). -/
def execRecordIntake (typ source : Byte) (sev : Fin 5) (ward : Byte) (payload : List Word) (s : State) :
    Host.Outcome State Fault Refusal :=
  s.on (fun h =>
    if !h.logicRuns then h
    else
      h.intake { typ := typ.toNat, source := source.toNat, sev := sev, len := 4 * (payload.take 4).length,
                 ward := ward.toNat, payload := (payload.take 4).map BitVec.toNat })

/-- The event that a pending record becomes (R630). -/
def PendRec.event (r : PendRec) : RecEvent :=
  { typ := r.typ, source := r.source, sev := r.sev, len := r.len, flags := 4 + b2n r.lost, payload := r.payload }

/-- An event numbered as the next, into the FIFO; after the last number nothing more is recorded (R629). -/
def Hub.numberEvent (h : Hub) (e : RecEvent) : Hub :=
  if h.flag REC_STAT_exhausted then h
  else
    let p := h.giveSeq
    p.2.fifoIn { e with seq := p.1 }

/-- The highest number and whether there is one among journal records. -/
def highestSeq (l : List (List Nat)) : Option Nat :=
  l.foldl (fun b x => match b with | none => some (recSeq x) | some y => some (max y (recSeq x))) none

/-- The valid records of journal page `p` on device 0 (R619). -/
def Hub.jpage (h : Hub) (p : Nat) : List (List Nat) :=
  (List.range 8).filterMap (fun j =>
    let a := 0x40000 + 256 * p + 32 * j
    if h.nvmErased a 32 then none
    else
      let ws := wordsOf (h.nvmRead 0 a 32)
      if recValid ws then some ws else none)

/-- The valid records of journal sector `n`. -/
def Hub.jsector (h : Hub) (n : Nat) : List (List Nat) := (List.range 16).flatMap (fun i => h.jpage (16 * n + i))

/-- The valid records of the whole journal. -/
def Hub.journal (h : Hub) : List (List Nat) := (List.range 512).flatMap h.jpage

/-- Numbering starts (R629): the first number by the source of the retained block; then, in this order, the events dropped before,
the pending records, the Boot record and the events of the boot. -/
def Hub.startNumbering (h : Hub) (boot : RecEvent) : Hub :=
  let src := h.rd PWR_RET_STAT_source
  let high := highestSeq h.journal
  let above := match high with | some x => x + 1 | none => 0
  let first := if src ≤ 1 then h.ret.nextSeq
    else if src == 2 then max h.ret.nextSeq above + 2 ^ 20
    else above + 2 ^ 20
  let early := h.recd.earlyDrops.length
  let events := h.recd.fifo
  let pend := ((pendList h.ret.slots).mergeSort (fun a b => a.2.ord ≤ b.2.ord)).map (fun x => x.2.event)
  let h := { h with
    ret := { h.ret with nextSeq := first + early }
    recd := { h.recd with
      numbering := true, fifo := [], earlyDrops := []
      gapLow := if early == 0 then h.recd.gapLow else lowerOf h.recd.gapLow (some first) } }
  (pend ++ [boot] ++ events).foldl Hub.numberEvent h

/-- The writer may start a record: it starts one every 4 µs (R609). -/
def Hub.writerDue (h : Hub) : Bool := (h.recd.startedAt.map (fun t => decide (t + 4 * Config.ticksPerUs ≤ h.clk.now))).getD true

/-- RECORD_WRITE_START (R609): 4 µs after its last start the writer takes the first entry of the FIFO. While LG4 is under test the writer
stands still (R587). -/
def execRecordWriteStart (s : State) : Host.Outcome State Fault Refusal :=
  s.on (fun h =>
    match h.recd.fifo with
    | [] => h
    | e :: rest =>
      if h.recd.numbering && h.recd.writing.isNone && h.testGroup != 4 && h.writerDue then
        { h with recd := { h.recd with fifo := rest, writing := some e, startedAt := some h.clk.now } }
      else h)

/-- A clear ends (R636). -/
def Hub.clearEnd (h : Hub) : Hub :=
  let h := { h with recd := { h.recd with clearRun := none, clearSectors := [] } }
  (((h.put REC_STAT_clearing false).put REC_CLEAR_STAT_busy false).wr REC_CLEAR_STAT_result 1).stage

/-- What follows a record's word 7: the Gap record's counts are done with, a pending slot is freed, a clear of the ring alone
ends (R612, R630, R636). -/
def Hub.recWritten (h : Hub) (e : RecEvent) (ws : List Nat) : Hub :=
  let h := { h with recd := { h.recd with newest := max h.recd.newest (recSeq ws) } }
  let h := if e.typ == 3 then { h with recd := { h.recd with gapSent := none } } else h
  let h := if bitOf e.flags 2 then
      { h with ret := { h.ret with slots := h.ret.slots.map (fun x =>
          match x with
          | some r => if r.typ == e.typ && r.payload == e.payload then none else some r
          | none => none) } }
    else h
  let h := match h.recd.clearRun with
    | some c => if e.typ == 4 && !c.2.2 then h.clearEnd else h
    | none => h
  h.showRing.journalNew ws

/-- RING_WRITE (R607, R613, R614): the record being written takes its slot, word 7 last; a record that finds no slot is dropped. -/
def execRingWrite (s : State) : Host.Outcome State Fault Refusal :=
  s.on (fun h =>
    match h.recd.writing with
    | none => h
    | some e =>
      let h := { h with recd := { h.recd with writing := none } }
      match ringPick h.ringList e.sev with
      | none => h.dropEvent e
      | some (i, old) =>
        let h := match old with
          | some ws => (h.setMemWord (ringAddr i 7) 0).evicted ws
          | none => h
        let ws := recWords (e.seq.getD 0) e
        let h := (List.range 8).foldl (fun h k => h.setMemWord (ringAddr i k) (ws.getD k 0)) h
        h.recWritten e ws)

/-- A count as it fits a 16-bit field. -/
def cap16 (n : Nat) : Nat := min n 65535

/-- GAP_RECORD (R612): with drops pending and 16 entries or fewer in the FIFO, a Gap record is numbered and placed there; it is the
occurrence of REC_DROP and its record. Where no dropped event had a number, the lowest one is a free value (R587; log entry 4). -/
def execGapRecord (s : State) : Host.Outcome State Fault Refusal :=
  s.on (fun h =>
    let g := h.recd.gap
    let total := (List.range 5).foldl (fun n i => n + vget g i 0) 0
    if h.recd.numbering && h.recd.gapSent.isNone && total != 0 && h.recd.fifo.length ≤ 16 && h.testGroup != 4 && !h.flag REC_STAT_exhausted then
      let top := (List.range 5).foldl (fun m i => if vget g i 0 != 0 then max m i else m) sevWarning
      let p := match h.recd.gapLow with | some x => (x, h) | none => h.freeNat 48
      let h := p.2
      let n := fun i => cap16 (vget g i 0)
      let h := { h with recd := { h.recd with gap := Vector.replicate 5 0, gapLow := none, gapSent := some (g, h.recd.gapLow) } }
      let h := h.numberEvent { typ := 0x03, source := 0x40, sev := top, len := 16
                               payload := [n 0 + n 1 * 2 ^ 16, n 2 + n 3 * 2 ^ 16, n 4 + (p.1 / 2 ^ 32) * 2 ^ 16, p.1 % 2 ^ 32] }
      h.occur 55 1 total false false
    else h)

/-- PENDING_RECORD (R630): one of the four events writes its record into the retained block: `k` 0 to 3 for types 0x10 to 0x13, with
the payload words as R608 lays them out. -/
def execPendingRecord (k : Fin 4) (w3 w4 w5 : Word) (s : State) : Host.Outcome State Fault Refusal :=
  s.on (fun h =>
    match k with
    | 0 => h.pendingRec 0x10 0x41 sevSafety 12 [w3.toNat, w4.toNat % 8, w5.toNat % 16]
    | 1 => h.pendingRec 0x11 0x42 sevSafety 8 [w3.toNat, w4.toNat % 2 ^ 16]
    | 2 => h.pendingRec 0x12 0x41 sevFault 4 [w3.toNat]
    | 3 => h.pendingRec 0x13 0x41 sevFault 8 [w3.toNat % 8, w4.toNat % 2 ^ 16])

/-! ### The journal (R621 to R625) -/

/-- A journal page asks for admission: the copies that are to go first, or the first staging page. -/
def Hub.submitPage (h : Hub) : Hub :=
  { h with recd := { h.recd with submitted := true } }.nvmCand false 0 0

/-- A journal sector's erase asks for admission. -/
def Hub.submitErase (h : Hub) : Hub := h.nvmCand true 0 0

/-- The next journal page may be submitted. -/
def Hub.pageFree (h : Hub) : Bool :=
  h.journals && !h.flag REC_STAT_jpaused && !h.recd.submitted && !h.recd.eraseFirst

/-- A staging page is due: it holds eight records, or the wait after its first Fault or Safety record, or REC_CFG.flush_s after its first
record, has passed (R621). -/
def Hub.pageDue (h : Hub) (p : StagePage) : Bool :=
  decide (8 ≤ p.recs.length) || (p.urgent.map (fun t => decide (t ≤ h.clk.now))).getD false ||
    decide (p.since + h.rd REC_CFG_flush_s * Config.ticksPerS ≤ h.clk.now)

/-- PAGE_SUBMIT (R621, R644): the first staging page is submitted once it is due. Copies go ahead of it. -/
def execPageSubmit (s : State) : Host.Outcome State Fault Refusal :=
  s.on (fun h =>
    if h.pageFree && h.recd.copies.isEmpty && (h.recd.reclaim == 0 || h.recd.reclaim == 3) &&
        (h.recd.staging.head?.map h.pageDue).getD false then h.submitPage
    else h)

/-- The journal page that has been admitted starts: its bytes are those of the copies or of the first staging page, and 0xFF where
a slot holds no record. -/
def Hub.journalAdmit (h : Hub) : Hub :=
  let copy := !h.recd.copies.isEmpty
  let recs := if copy then h.recd.copies.take 8 else (h.recd.staging.headD {}).recs
  h.nvmAdd { use := if copy then .reclaim else .journal, kind := 1, addr := 0x40000 + 256 * h.rd REC_JSTAT_page
             data := padTo 256 0xFF (recs.flatMap wordBytes) }

/-- The journal erase that has been admitted starts; it counts for its sector's day (R485). -/
def Hub.eraseAdmit (h : Hub) : Hub :=
  let s := h.eraseSector
  let h := { h with sch := { h.sch with erases := vset h.sch.erases s (vget h.sch.erases s 0 + 1) } }
  h.nvmAdd { use := if h.recd.clearSectors.isEmpty then .reclaim else .clearErase, kind := 2, addr := 0x40000 + 4096 * s }

/-- The journal is sealed: what waits for it is missed (R624). -/
def Hub.sealJournal (h : Hub) : Hub :=
  let n := h.recd.waiting.length + (h.recd.staging.map (fun p => p.recs.length)).sum
  { h with recd := { h.recd with waiting := [], staging := [], copies := [], reclaim := 0, eraseFirst := false } }.put
    REC_STAT_jsealed true |>.count REC_JSTAT_missed n

/-- The write point has entered a sector: the next one is ready, or is to be reclaimed (R623). -/
def Hub.enterSector (h : Hub) : Hub :=
  let any := !(h.jsector ((h.headSector + 1) % 32)).isEmpty
  { h with recd := { h.recd with nextReady := !any, reclaim := if any then 1 else 0 } }

/-- The write point moves on by a page; at a sector that is not ready journalling pauses (R625). -/
def Hub.nextPage (h : Hub) : Hub :=
  let p := (h.rd REC_JSTAT_page + 1) % 512
  let h := h.wr REC_JSTAT_page p
  if p % 16 != 0 then h
  else if h.recd.nextReady then h.enterSector
  else h.put REC_STAT_jpaused true

/-- SECTOR_RECLAIM (R623, R624, R626): the sector ahead is read, its Fault and Safety records are copied forward, and its erase asked
for; with more than 96 of them the journal is sealed. -/
def execSectorReclaim (s : State) : Host.Outcome State Fault Refusal :=
  s.on (fun h =>
    let x := h.recd
    let due := x.eraseFirst || x.reclaim == 1
    if !h.journals || !due || !x.copies.isEmpty || x.submitted then h
    else
      let keep := bySeq ((h.jsector h.eraseSector).filter (fun r => decide (3 ≤ recSev r)))
      if 96 < keep.length then h.sealJournal
      else if x.eraseFirst then { h with recd := { x with copies := keep } }.submitErase
      else if keep.isEmpty || h.flag REC_STAT_jpaused then { h with recd := { x with copies := keep, reclaim := 3 } }.submitErase
      else { h with recd := { x with copies := keep, reclaim := 2 } }.submitPage)

/-- What a good page program leads to: its records leave the staging buffer or the copies (R622, R623). -/
def Hub.pageGood (h : Hub) (copy : Bool) : Hub :=
  let x := h.recd
  if copy then
    let n := min 8 x.copies.length
    let h := { h with recd := { x with copies := x.copies.drop 8, failRun := 0 } }.count REC_JCOUNT_copied n
    let h := h.nextPage
    if !h.recd.copies.isEmpty then (if h.pageFree then h.submitPage else h)
    else if h.recd.reclaim == 2 then { h with recd := { h.recd with reclaim := 3 } }.submitErase
    else h
  else { h with recd := { x with staging := x.staging.drop 1, failRun := 0 } }.nextPage

/-- What a failed page leads to: REC_JOURNAL, and the same records into the next page; after three in a row journalling stops
(R622). -/
def Hub.pageBad (h : Hub) : Hub :=
  let h := { h with recd := { h.recd with failRun := h.recd.failRun + 1 } }.event 56 1 detailOpen
  let h := h.nextPage
  if 3 ≤ h.recd.failRun then h.put REC_STAT_jfail true
  else if h.pageFree then h.submitPage else h

/-- PAGE_PROGRAM_DONE (R622): the page program has ended: `res` 0 good, 1 the read-back differs, 2 no result or an error of the device;
`mirrorOk` says that the second device's program, if one was made, is good. -/
def execPageProgramDone (res : Fin 3) (mirrorOk : Bool) (s : State) : Host.Outcome State Fault Refusal :=
  s.on (fun h =>
    match h.nvmOp with
    | none => h
    | some o =>
      if (o.use == .journal || o.use == .reclaim) && o.kind == 1 then
        let h := ((h.nvmDone (res == 0) mirrorOk).costEnd .nvmPage 0).nvmFaults res mirrorOk
        let h := h.count REC_JCOUNT_pages
        let gone := h.recd.stale
        let h := { h with recd := { h.recd with submitted := false, stale := false } }
        let h := if gone then h.nextPage else if res == 0 then h.pageGood (o.use == .reclaim) else h.pageBad
        h.stage
      else h)

/-- The journal's clear goes on to its next sector, or ends with the write point at page 0 (R636). -/
def Hub.clearNext (h : Hub) : Hub :=
  match h.recd.clearSectors with
  | _ :: _ => h.submitErase
  | [] =>
    let h := ((h.wr REC_JSTAT_page 0).put REC_STAT_jsealed false).put REC_STAT_jpaused false
    { h with recd := { h.recd with nextReady := true, reclaim := 0, eraseFirst := false, copies := [] } }.clearEnd

/-- JOURNAL_ERASE_DONE (R625): a journal sector's erase has ended: `res` 0 good, 2 no result or an error of the device, which is asked
for again. -/
def execJournalEraseDone (res : Fin 3) (mirrorOk : Bool) (s : State) : Host.Outcome State Fault Refusal :=
  s.on (fun h =>
    match h.nvmOp with
    | none => h
    | some o =>
      if (o.use == .reclaim || o.use == .clearErase) && o.kind == 2 then
        let h := ((h.nvmDone (res == 0) mirrorOk).costEnd .nvmErase 0).nvmFaults res mirrorOk
        if h.recd.clearRun.isSome && (h.recd.clearRun.map (·.2.2)).getD false then
          if o.use == .clearErase && res == 0 then
            { h with recd := { h.recd with clearSectors := h.recd.clearSectors.drop 1 } }.clearNext
          else h.submitErase
        else if res != 0 then h.submitErase
        else if h.recd.eraseFirst then
          let h := { h with recd := { h.recd with eraseFirst := false } }.enterSector
          (if h.recd.copies.isEmpty then h else if h.pageFree then h.submitPage else h).stage
        else if h.flag REC_STAT_jpaused then
          let h := (h.put REC_STAT_jpaused false).enterSector
          (if h.recd.copies.isEmpty then h else if h.pageFree then h.submitPage else h).stage
        else { h with recd := { h.recd with nextReady := true, reclaim := 0 } }.stage
      else h)

/-! ### The scan (R626) -/

/-- The page whose slots hold the highest sequence number. -/
def Hub.highestPage (h : Hub) : Option Nat :=
  ((List.range 512).foldl (fun (b : Option (Nat × Nat)) p =>
    match highestSeq (h.jpage p) with
    | none => b
    | some x => match b with | none => some (p, x) | some y => if y.2 ≤ x then some (p, x) else some y) none).map (·.1)

/-- The write point that a scan finds, and whether its sector is to be erased first. -/
def Hub.scanPoint (h : Hub) : Nat × Bool :=
  match h.highestPage with
  | none => (0, !h.nvmErased 0x40000 4096)
  | some p =>
    let rest := 15 - p % 16
    if rest != 0 && h.nvmErased (0x40000 + 256 * (p + 1)) (256 * rest) then (p + 1, false)
    else
      let q := ((p / 16 + 1) % 32) * 16
      (q, !h.nvmErased (0x40000 + 256 * q) 4096)

/-- The scan has been made: its write point, or REC_JOURNAL where the journal could not be read (R626, R631). -/
def Hub.scanDone (h : Hub) (ok : Bool) : Hub :=
  let h := { h with recd := { h.recd with scanned := true } }.put REC_STAT_jscan false
  if !ok then (h.put REC_STAT_jfail true).event 56 1 detailOpen
  else
    let p := h.scanPoint
    let h := h.wr REC_JSTAT_page p.1
    let h := { h with recd := { h.recd with eraseFirst := p.2 } }
    (if p.2 then h else h.enterSector).stage

/-- JOURNAL_SCAN (R626): the scan of the whole journal ends; it runs after the Boot record, or before numbering starts where the
retained block was lost. `ok` says that the journal could be read. -/
def execJournalScan (ok : Bool) (s : State) : Host.Outcome State Fault Refusal :=
  s.on (fun h =>
    if h.flag REC_STAT_jscan || (h.dev.phase == .boot && h.sup.nvmAllowed && 2 ≤ h.rd PWR_RET_STAT_source && !h.recd.scanned) then h.scanDone ok
    else h)

/-! ### Reading (R617, R627, R648) -/

/-- Ward `w` may read the ring and the journal. -/
def Hub.mayRead (h : Hub) (w : Nat) : Bool := bitOf (h.rd REC_CFG_read_mask) w

/-- A word of the read window of ward `w` (R617). -/
def Hub.windowWord (h : Hub) (w k : Nat) : Nat := h.memWord (ringAddr (h.rd REC_RD_SLOT_slot 0 w) k)

/-- Ward `w` has read REC_RD_SQB_HI: its slot advances. -/
def Hub.readSqbHi (h : Hub) (w : Nat) : Hub := h.wr REC_RD_SLOT_slot ((h.rd REC_RD_SLOT_slot 0 w + 1) % 2048) 0 w

/-- REC_RD_SQB_HI_READ (R617). -/
def execRecRdSqbHiRead (w : Fin 8) (s : State) : Host.Outcome State Fault Refusal :=
  s.on (fun h => if h.readable w && h.mayRead w then h.readSqbHi w else h)

/-- Ward `w` has read REC_NEWEST_SEQ_LO: its upper bits are latched (R648). -/
def Hub.readNewest (h : Hub) (w : Nat) : Hub := h.wr REC_NEWEST_SEQ_HI_seq (h.recd.newest / 2 ^ 32) 0 w

/-- NEWEST_SEQ_READ (R648). -/
def execNewestSeqRead (w : Fin 8) (s : State) : Host.Outcome State Fault Refusal :=
  s.on (fun h => if h.readable w then h.readNewest w else h)

/-- A permitted ward's write to REC_JRD_CTRL while no read runs (R627): with go, the page is to be read. A journal busy with a clear
gives result 2. -/
def Hub.writeJrdCtrl (h : Hub) (v : Nat) : Hub :=
  let h := h.wr REC_JRD_CTRL_page (v % 512)
  if !bitOf v 31 then h
  else if (h.recd.clearRun.map (·.2.2)).getD false then h.wr REC_JRD_STAT_result 2
  else { (h.put REC_JRD_CTRL_go true).put REC_JRD_STAT_busy true with recd := { h.recd with jread := some (v % 512) } }

/-- JOURNAL_PAGE_READ (R627). -/
def execJournalPageRead (w : Fin 8) (v : Word) (s : State) : Host.Outcome State Fault Refusal :=
  s.on (fun h => if h.writable w && h.mayRead w && !h.flag REC_JRD_STAT_busy then h.writeJrdCtrl v.toNat else h)

/-- JOURNAL_READ_DONE (R627): the page is in REC_JRD_BUF, or the NVM gave an error, which is NVM_FAIL too (R535). -/
def execJournalReadDone (ok : Bool) (s : State) : Host.Outcome State Fault Refusal :=
  s.on (fun h =>
    match h.recd.jread with
    | none => h
    | some p =>
      let h := { h with recd := { h.recd with jread := none } }
      let h := ((h.put REC_JRD_CTRL_go false).put REC_JRD_STAT_busy false).wr REC_JRD_STAT_result (if ok then 0 else 1)
      if ok then
        let ws := wordsOf (h.nvmRead 0 (0x40000 + 256 * p) 256)
        (List.range 64).foldl (fun h i => h.wr REC_JRD_BUF_data (ws.getD i 0) i) h
      else h.event 60 1 detailOpen)

/-! ### Clearing (R635, R636, R645) -/

/-- W0 has read REC_CLEAR_NONCE_LO (R635): a new nonce, a free value, with S latched; the value read. -/
def Hub.readNonce (h : Hub) : Nat × Hub :=
  let p := h.freeNat 64
  let n := p.1
  let h := { p.2 with recd := { p.2.recd with nonce := some (n, p.2.clk.now), clearS := p.2.recd.newest } }
  let h := (h.wr REC_CLEAR_NONCE_LO_nonce (n % 2 ^ 32)).wr REC_CLEAR_NONCE_HI_nonce (n / 2 ^ 32)
  (n % 2 ^ 32, (h.wr REC_CLEAR_SEQ_LO_s (h.recd.newest % 2 ^ 32)).wr REC_CLEAR_SEQ_HI_s (h.recd.newest / 2 ^ 32))

/-- NONCE_READ (R635). -/
def execNonceRead (w : Fin 8) (s : State) : Host.Outcome State Fault Refusal :=
  s.on (fun h => if h.readable w && w.val == 0 then h.readNonce.2 else h)

/-- The nonce in force is ten minutes old (R635). -/
def Hub.nonceOld (h : Hub) : Bool := (h.recd.nonce.map (fun n => decide (n.2 + 600 * Config.ticksPerS ≤ h.clk.now))).getD false

/-- NONCE_EXPIRY (R635): ten minutes after it was read the nonce is no longer valid. -/
def execNonceExpiry (s : State) : Host.Outcome State Fault Refusal :=
  s.on (fun h => if h.nonceOld then { h with recd := { h.recd with nonce := none } } else h)

/-- The nonce in force (R635). -/
def Hub.nonceNow (h : Hub) : Option (Nat × Nat) := if h.nonceOld then none else h.recd.nonce

/-- The key that authority slot `a` names, where it is usable (R634). -/
def Hub.authKey (h : Hub) (a : Nat) : Option (List Nat) :=
  match vget h.recd.authMap a none with
  | none => none
  | some k => if (vget h.chip.keySlots k {}).state == 2 then some (vget h.chip.keySlots k {}).key else none

/-- The token that clears: HMAC-SHA-256 of nonce, DEV_UID and S, each most significant byte first, cut to 16 bytes (R635). -/
def Hub.clearToken (h : Hub) (key : List Nat) (nonce : Nat) : List Nat :=
  (hmacSha256 key (beBytes 8 nonce ++ beBytes 8 h.chip.uid ++ beBytes 6 h.recd.clearS)).take 16

/-- The token bytes as W0 has written them. -/
def Hub.tokenBytes (h : Hub) : List Nat := (List.range 4).flatMap (fun i => leBytes 4 (h.rd REC_CLEAR_TOKEN_bytes i))

/-- The check that a write to REC_CLEAR_TOKEN3 starts (R635): refused with a result code, a match, which starts the clear, or a
mismatch. -/
def Hub.checkToken (h : Hub) : Hub :=
  let a := h.rd REC_CLEAR_CTRL_auth
  match h.nonceNow, h.authKey a with
  | none, _ => h.wr REC_CLEAR_STAT_result 5
  | some _, none => h.wr REC_CLEAR_STAT_result 3
  | some n, some key =>
    if (h.recd.mismatchAt.map (fun t => decide (h.clk.now < t + Config.ticksPerS))).getD false then h.wr REC_CLEAR_STAT_result 4
    else if h.recd.clearRun.isSome then h.wr REC_CLEAR_STAT_result 6
    else
      let good := h.tokenBytes == h.clearToken key n.1
      let run := (h.recd.clearS, a, h.flag REC_CLEAR_CTRL_journal)
      let h := (List.range 4).foldl (fun h i => h.wr REC_CLEAR_TOKEN_bytes 0 i) h
      let h := { h with recd := { h.recd with nonce := none } }
      if good then
        ({ h with recd := { h.recd with clearRun := some run } }.put REC_STAT_clearing true).put REC_CLEAR_STAT_busy true
      else
        let h := { h with recd := { h.recd with mismatchAt := some h.clk.now } }
        ((h.wr REC_CLEAR_STAT_result 2).count REC_CLEAR_STAT_failures).event 57 1 detailOpen

/-- W0's write to REC_CLEAR_TOKENn; the write to n = 3 starts the check. -/
def Hub.writeToken (h : Hub) (n v : Nat) : Hub :=
  let h := h.wr REC_CLEAR_TOKEN_bytes v n
  if n == 3 then h.checkToken else h

/-- TOKEN_CHECK (R635): W0 writes REC_CLEAR_TOKEN3. -/
def execTokenCheck (w : Fin 8) (v : Word) (s : State) : Host.Outcome State Fault Refusal :=
  s.on (fun h => if h.writable w && w.val == 0 then h.writeToken 3 v.toNat else h)

/-- What the staging side of a clear leaves (R636, step 5): with the journal cleared every eligible record above S in the ring waits
anew; otherwise those that had not been journalled. -/
def Hub.clearWaiting (h : Hub) (S : Nat) (journal : Bool) (left : List (Nat × List Nat)) : List Nat :=
  let all := if journal then ((left.map (·.2)).filter (fun r => decide (h.jsev ≤ recSev r))).map recSeq
    else (h.recd.staging.flatMap (fun p => p.recs.map recSeq)) ++ h.recd.waiting
  (all.filter (fun n => decide (S < n))).mergeSort (fun a b => a ≤ b)

/-- CLEAR (R636, R645): a clear that has matched counts, erases the ring up to S, writes the Clear record, and goes on to the journal
where that was asked for. -/
def execClear (s : State) : Host.Outcome State Fault Refusal :=
  s.on (fun h =>
    match h.recd.clearRun with
    | none => h
    | some (S, auth, journal) =>
      if !h.recd.clearSectors.isEmpty then h
      else
        let ring := h.ringList
        let gone := ring.filter (fun x => decide (recSeq x.2 ≤ S))
        let left := ring.filter (fun x => decide (S < recSeq x.2))
        let jr := if journal then (h.journal.map recSeq).eraseDups else []
        let old := (jr.filter (fun n => decide (n ≤ S))).length
        let lost := (jr.filter (fun n => decide (S < n) && !(left.any (fun x => recSeq x.2 == n)))).length
        let h := gone.foldl (fun h x => h.setMemWord (ringAddr x.1 7) 0) h
        let h := (h.countMod REC_EVICT_COUNT_count gone.length).showRing
        let h := h.dropCand (fun c => (c.kind == .nvmPage && c.ref == 0 && h.recd.copies.isEmpty) || (journal && c.ref == 0 && (c.kind == .nvmPage || c.kind == .nvmErase)))
        let mine := fun (o : NvmOp) => o.use == .journal || (journal && o.use == .reclaim)
        let runs := (h.nvmOp.map (fun o => mine o && o.kind == 1)).getD false
        let h := { h with
          nvmQ := h.nvmQ.filter (fun o => !mine o)
          recd := { h.recd with
            waiting := h.clearWaiting S journal left, staging := [], stale := h.recd.stale || runs
            submitted := h.recd.submitted && (runs || (!journal && !h.recd.copies.isEmpty))
            copies := if journal then [] else h.recd.copies
            clearSectors := if journal then List.range 32 else [] } }
        let h := h.note 0x04 0x40 sevSafety 16
          [cap16 gone.length + cap16 old * 2 ^ 16, S % 2 ^ 32, S / 2 ^ 32 + auth * 2 ^ 16 + b2n journal * 2 ^ 24, cap16 lost]
        if journal then (if h.nvmOp.any (fun o => o.kind == 2 && o.use == .reclaim) then h else h.submitErase) else h)

/-! ### Clearing keys (R633) -/

/-- A request to program a key slot is taken (R633). -/
def Hub.keyOk (h : Hub) (v : Nat) : Bool :=
  v / 2 ^ 16 == 0x4F54 && h.runs && !h.sup.warn && (vget h.chip.keySlots (v % 8) {}).state == 0 && h.recd.keyProg.isNone

/-- W0's write to REC_KEY_CTRL (R6, R633): with the key, and in the states in which it is taken, the data registers clear as programming
starts; any other write changes nothing. The field `slot` reads 0 (log entry 64). -/
def Hub.writeKeyCtrl (h : Hub) (v : Nat) : Hub :=
  if !h.keyOk v then h
  else
    let key := (List.range 8).flatMap (fun i => leBytes 4 (h.rd REC_KEY_DATA_bytes i))
    let h := { h with recd := { h.recd with keyProg := some (v % 8, key) } }
    (List.range 8).foldl (fun h i => h.wr REC_KEY_DATA_bytes 0 i) h

/-- KEY_PROGRAM (R633). -/
def execKeyProgram (w : Fin 8) (v : Word) (s : State) : Host.Outcome State Fault Refusal :=
  s.on (fun h => if h.writable w && w.val == 0 then h.writeKeyCtrl v.toNat else h)

/-- KEY_PROGRAM_DONE (R633): the slot has been read back: programmed, or partial. -/
def execKeyProgramDone (good : Bool) (s : State) : Host.Outcome State Fault Refusal :=
  s.on (fun h =>
    match h.recd.keyProg with
    | none => h
    | some (k, key) =>
      let slot : KeySlot := { state := if good then 2 else 1, key := if good then key else [] }
      { h with chip := { h.chip with keySlots := vset h.chip.keySlots k slot }, recd := { h.recd with keyProg := none } })

/-! ### Trims (R632) -/

/-- A ward's write to its REC_RT: each trim is taken only where it is stricter than the Blank's figure. -/
def Hub.writeRecRt (h : Hub) (w v : Nat) : Hub :=
  let j := bitsOf v 8 3
  let f := v % 256
  let j := if j == 0 || h.rd REC_CFG_jsev ≤ j - 1 then 0 else j
  let f := if h.rd REC_CFG_flush_ms ≤ f then 0 else f
  (h.wr REC_RT_jsev_rt j 0 w).wr REC_RT_flush_ms_rt f 0 w

/-- REC_RT_WRITE (R632): with page 5 open. -/
def execRecRtWrite (w : Fin 8) (v : Word) (s : State) : Host.Outcome State Fault Refusal :=
  s.on (fun h => if h.writable w && bitOf (h.rd WRD_EXP_OPEN_open w) 5 then h.writeRecRt w v.toNat else h)

end Sys2Proof.Machine
end

