-- ==== Sys2Proof/Machine/Supplies.lean ====
section
/-!
DEFINITION. Supplies, hold-up and power domains (chapter 03): power-up, the VDD warning, the orderly power-down, the field supply, domain
wakes, the retained block's end, the test pins, and their commands.

What the spec leaves open here: DEDUCED, log entries 19, 21, 22, 24, 25; DESIGN CHOICE, log entry 23.
-/

namespace Sys2Proof.Machine

/-! ### Thresholds (R62, R72, R83) -/

/-- VHEND of a band in mV (R72). -/
def Band.vhend : Band → Nat
  | .v18 => 1650
  | .v25 => 2100
  | .v33 => 2550

/-- The band that a sample of BAND gives (R44). -/
def bandOf (b : Nat) : Band := if b == 0 then .v18 else if b == 1 then .v25 else .v33

/-- The capacitance that hold-up is planned with, in 0.01 µF (R83). -/
def Hub.capPlan (h : Hub) : Nat :=
  let cap := h.rd PWR_HOLD_CFG_cap_uf
  let meas := h.rd PWR_HOLD_STAT_cap_meas
  if meas == 0 then 100 * cap else min (100 * cap) (85 * meas)

/-- tPP in 10 ns (R83): for a NOR the typical page program time times the maximum multiplier; for a ferroelectric device the time to
transfer 256 bytes, which R159 programs in single I/O, at the bus rate in use. -/
def Hub.tpp (h : Hub) : Nat :=
  let v := h.nvmDev 0
  if v.kind == .nor then 100 * v.ppUs * v.ppMul else 256 * 8 * (if h.flag BLK_STAT_sck50_now then 2 else 4)

/-- VHOLD is at or above VPP_MIN (R83), in mV: VHEND + load × tPP / C. -/
def Hub.vppOk (h : Hub) (vhold : Nat) : Bool :=
  decide (h.sup.band.vhend * h.capPlan + h.rd PWR_HOLD_CFG_load_ma * h.tpp ≤ vhold * h.capPlan)

/-! ### Power-up (R44, R79, R81, R89) -/

/-- What a loss of the logic supply leaves: nothing of the logic die but PD_AON. A WDO pulse ends where VDD itself is lost (R60). -/
def Hub.logicLost (h : Hub) (vddLost : Bool) : Hub :=
  let h := ({ h with dev := { h.dev with boltBoot := true } }.abandonNvm false).logicReset
  { h with
    regs := if vddLost then [] else h.regs.filter (fun e => e.1 == fldKey WDG_WDO_STAT_active 0 0)
    wdo := if vddLost then {} else h.wdo
    nvmOp := none
    dev := { h.dev with phase := .off }
    sup := { h.sup with nvmAllowed := false, vholdOk := false, warn := false, warnAtTrigger := false, warnMin := 0, pd := none } }

/-- The AON supply has been lost: both copies of the retained block, and a WDO pulse with them (R60, R87). -/
def Hub.aonLost (h : Hub) : Hub :=
  { h with ret := { valid := false }, fol := { h.fol with retOld := { valid := false }, retLost := true }, wdo := {}, regs := [] }

/-- POWER_ON_RESET (R44, R45, R79, R89): after a loss of both VDD and VHOLD, VDD has risen past 1.60 V, where BAND is sampled, and has come
to `vdd`. At the trigger the hub starts into *Boot*; with VDD below the VRST of its band, or RSTn low, it stays in *Off*. -/
def execPowerOnReset (band : Fin 3) (vdd : BitVec 16) (s : State) : Host.Outcome State Fault Refusal :=
  s.on (fun h =>
    let h := h.aonLost.logicLost true
    { h with
      dev := { h.dev with porWaits := true }
      sup := { h.sup with band := bandOf band, vdd := vdd.toNat, vhold := 0 } }.trigger)

/-- VDD_VALID (R62, R81, R87, R96): VDD has risen to `vdd`: the hub leaves *Off* for *Boot* with the retained block that the AON supply has
kept. During a power-down the level stands until step 6 ends. -/
def execVddValid (vdd : BitVec 16) (s : State) : Host.Outcome State Fault Refusal :=
  s.on (fun h =>
    if h.dev.phase != .off && h.sup.pd.isNone then h else { h with sup := { h.sup with vdd := vdd.toNat } }.trigger)

/-! ### VHOLD (R47, R71, R72, R90) -/

/-- The charging switch carries current: VDD less its drop of 30 mV lies above VHOLD. Otherwise it blocks, and VHOLD falls by the load that
it supplies (R71). -/
def Hub.vholdCharging (h : Hub) : Bool := decide (h.sup.vhold + 30 < h.sup.vdd)

/-- VHOLD measured: PWR_HOLD_STAT.vhold, and the comparator of PWR_STAT.vhold_ok, which ends VHOLD_LOW (R90). NVM access is allowed once VHOLD
has come within 100 mV of VDD (R47), and until it has fallen below VHEND (R72). -/
def Hub.measureVhold (h : Hub) (mv : Nat) : Hub :=
  let near := decide (h.sup.vdd ≤ mv + 100)
  let h := { h with sup := { h.sup with
    vhold := mv, vholdOk := near, nvmAllowed := (near || h.sup.nvmAllowed) && decide (h.sup.band.vhend ≤ mv) } }
  let h := h.wr PWR_HOLD_STAT_vhold (mv / 10)
  if near then (h.lower 4 16).nvmGo else h

/-- VHOLD_CHARGED (R47, R71): VHOLD has come within 100 mV of VDD: NVM access is allowed. -/
def execVholdCharged (vhold : BitVec 16) (s : State) : Host.Outcome State Fault Refusal :=
  s.on (fun h => if h.dev.phase == .off || h.sup.pd.isSome then h else h.measureVhold vhold.toNat)

/-- VHOLD_CAP_MEASURE (R90): the charging switch has taken `us` µs to raise VHOLD from 0.5 V to 1.5 V: 50 mA × t / 1 V. -/
def execVholdCapMeasure (us : BitVec 16) (s : State) : Host.Outcome State Fault Refusal :=
  s.on (fun h =>
    if h.dev.phase == .off then h
    else
      let cap := min 1023 (us.toNat / 20)
      let h := h.wr PWR_HOLD_STAT_cap_meas cap
      if cap < 47 then h.raise 4 18 1 detailOpen else h.lower 4 18)

/-- VHOLD_LOW (R90): VHOLD has not come within 100 mV of VDD by 40 ms after the trigger, or has lain below that for 1 ms in *Run*. -/
def execVholdLow (vhold : BitVec 16) (s : State) : Host.Outcome State Fault Refusal :=
  s.on (fun h =>
    if h.dev.phase == .off then h
    else
      let h := h.measureVhold vhold.toNat
      if h.sup.vholdOk then h else h.raise 4 16 1 detailOpen)

/-! ### The VDD warning (R63 to R65) -/

/-- A VDD warning begins: a test ends aborted (R31), BROWN is set for every ward (R419), and VDD's lowest value is tracked (R65). -/
def Hub.warnBegin (h : Hub) : Hub :=
  if h.sup.warn || h.dev.phase == .off || h.sup.pd.isSome || decide (h.sup.band.vwarn ≤ h.sup.vdd) then h
  else
    let h := h.abortTest
    { h with sup := { h.sup with warn := true, warnAtTrigger := false, warnMin := h.sup.vdd / 10 } }.intAll 5

/-- VDD_WARNING_BEGIN (R62, R63, R533): VDD has fallen to `vdd`, below VWARN. During a proof of the VDD supervisor, or its re-check window, the hub cannot
tell it from the injected one. -/
def execVddWarningBegin (vdd : BitVec 16) (s : State) : Host.Outcome State Fault Refusal :=
  s.on (fun h =>
    let h := { h with sup := { h.sup with vdd := vdd.toNat } }
    match h.dbt.proof with
    | some p => if p.mech == 2 && p.inst == 0 then h else h.warnBegin
    | none => h.warnBegin)

/-- RECHECK_END (R528, R533): the re-check window has ended, with the condition present or not. -/
def execRecheckEnd (present : Bool) (s : State) : Host.Outcome State Fault Refusal :=
  s.on (fun h => h.recheckEnd Hub.warnBegin present)

/-- VMIN_SAMPLE (R65, R71, R90): VDD is sampled during a warning, and VHOLD, which falls while its switch blocks. -/
def execVminSample (v : Rails) (s : State) : Host.Outcome State Fault Refusal :=
  s.on (fun h =>
    if h.sup.warn && h.sup.pd.isNone then
      { h with sup := { h.sup with vdd := v.vdd.toNat, warnMin := min h.sup.warnMin (v.vdd.toNat / 10) } }.measureVhold v.vhold.toNat
    else h)

/-- A dip that ended without a reset: its lowest value, its counts and its record (R65). -/
def Hub.countDip (h : Hub) : Hub :=
  let r := h.ret
  let h := { h with ret := { r with
    vmin := h.sup.warnMin % 4096, dipCount := satInc 65535 r.dipCount
    life := { r.life with dips := satInc (2 ^ 32 - 1) r.life.dips } } }
  h.note 0x20 0x41 sevWarning 8 [h.ret.vmin, h.ret.dipCount]

/-- VDD_WARNING_END (R62 to R65): VDD has stayed above VWARN plus 20 mV for 100 µs; what the warning deferred may start. -/
def execVddWarningEnd (vdd : BitVec 16) (s : State) : Host.Outcome State Fault Refusal :=
  s.on (fun h =>
    if !h.sup.warn || h.sup.pd.isSome || decide (vdd.toNat ≤ h.sup.band.vwarn + vddHyst) then h
    else
      let quiet := h.sup.warnAtTrigger
      let h := { h with sup := { h.sup with vdd := vdd.toNat, warn := false, warnAtTrigger := false } }
      ((if quiet then h else h.countDip).intAll 5).nvmGo)

/-! ### The orderly power-down (R80 to R85, R93 to R97, R673 to R675) -/

/-- The power-down under way changed. -/
def Hub.modPd (h : Hub) (f : PowerDown → PowerDown) : Hub := { h with sup := { h.sup with pd := h.sup.pd.map f } }

/-- The PWR_PD_LAST image of a power-down, with the completed steps. -/
def PowerDown.image (p : PowerDown) (steps : Nat) : Nat :=
  b2n p.eraseSuspended * 2 ^ 24 + min p.skipped 15 * 2 ^ 20 + min p.written 15 * 2 ^ 16 + p.failStep * 2 ^ 8 +
    b2n p.vfLost * 2 ^ 7 + b2n p.vddFailed * 2 ^ 6 + steps

/-- The steps that have been completed when step 6 ends (R674). -/
def PowerDown.steps (p : PowerDown) : Nat := 0x39 + 2 * b2n p.all2 + 4 * b2n p.all3

/-- The payload of the newest VDD_FAIL_PD pending record rewritten (R675). -/
def Hub.rewriteFail (h : Hub) (image : Nat) : Hub :=
  let mine := (pendList h.ret.slots).filter (fun x => x.2.typ == 0x12)
  match mine.foldl (fun (b : Option (Nat × PendRec)) x =>
    match b with | none => some x | some y => if y.2.ord < x.2.ord then some x else some y) none with
  | none => h
  | some (i, r) => { h with ret := { h.ret with slots := vset h.ret.slots i (some { r with payload := [image] }) } }

/-- Steps 4 to 6 of R80: the NVM is quiet, the domains go off, the state becomes *Off*, and PWR_PD_LAST is stored. With VDD valid again the
hub goes on to *Boot* (R81, R96). -/
def Hub.pdFinish (h : Hub) : Hub :=
  match h.sup.pd with
  | none => h
  | some p =>
    let image := p.image p.steps
    let h := if p.vddFailed then h.rewriteFail image else h
    let h := { h with ret := { h.ret with pdLast := image } }.history 2 0xF
    let h := { h with nvmOp := none }.logicLost p.vddFailed
    ({ h with sup := { h.sup with on := 1 + (h.sup.on &&& 0xF00) } }.wantTone .silence).trigger

/-- A staging page holds a Fault or Safety record. -/
def StagePage.grave (p : StagePage) : Bool := p.recs.any (fun r => decide (3 ≤ recSev r))

/-- The staging page that the power-down writes next: in the hold-up order one with Fault or Safety records goes first. -/
def Hub.pdStaging (h : Hub) (grave : Bool) : Hub :=
  match h.recd.staging with
  | [p, q] => if grave && !p.grave then { h with recd := { h.recd with staging := [q, p] } } else h
  | _ => h

/-- The journal can take a page of the power-down. -/
def Hub.pdJournals (h : Hub) : Bool := h.journals && !h.flag REC_STAT_jpaused && !h.recd.eraseFirst && !h.recd.staging.isEmpty

/-- What a page of the power-down programs, where there is anything to program (R80, R84, R88, R659). -/
def Hub.pdData (h : Hub) (pg : PdPage) : Option NvmOp :=
  match pg with
  | .running => none
  | .mirror => some { use := .retained, kind := 1, addr := entryAddr h.ret.mirrorNext, data := h.ret.bytes true }
  | .ledger =>
    let a := slotAddr h.life.slot + 0x700
    if (h.imageOf h.life.slot).isSome && h.nvmErased a 256 then
      some { use := .mirror, kind := 1, addr := a, data := h.lifePage h.deltas }
    else none
  | .stagingFault | .staging | .flush =>
    if h.pdJournals then
      some { use := .journal, kind := 1, addr := 0x40000 + 256 * h.rd REC_JSTAT_page
             data := padTo 256 0xFF ((h.recd.staging.headD {}).recs.flatMap wordBytes) }
    else none

/-- The page belongs to step 3; the others to step 2. -/
def PdPage.inStep3 (pg : PdPage) : Bool := pg == .mirror || pg == .ledger

/-- Pages that are not written: counted, and their steps are not complete (R84, R674). -/
def Hub.pdSkip (h : Hub) (l : List PdPage) : Hub :=
  h.modPd (fun p => { p with
    skipped := p.skipped + l.length
    all2 := p.all2 && l.all PdPage.inStep3, all3 := p.all3 && !(l.any PdPage.inStep3) })

/-- The power-down goes on with the first of its pages that can be started. `vhold` is what VHOLD measures; it counts once VDD has failed. -/
def Hub.pdNext (h : Hub) (vhold : Nat) : List PdPage → Hub
  | [] => (h.modPd (fun p => { p with todo := [], busy := none })).pdFinish
  | pg :: rest =>
    let failed := (h.sup.pd.map (fun p => p.vddFailed)).getD false
    if !h.sup.nvmAllowed || (failed && !h.vppOk vhold) then
      ((h.pdSkip (pg :: rest)).modPd (fun p => { p with todo := [], busy := none })).pdFinish
    else
      let h := if pg == .stagingFault || pg == .staging || pg == .flush then h.pdStaging (pg == .stagingFault) else h
      match h.pdData pg with
      | some o =>
        { h with nvmOp := some o }.modPd (fun p => { p with
          busy := some pg, todo := rest, step := if p.vddFailed then p.step else if pg.inStep3 then 3 else 2 })
      | none =>
        let h := if pg == .ledger then (h.pdSkip [pg]).count LIFE_STAT_pd_skipped else h
        h.pdNext vhold rest

/-- ORDERLY_POWER_DOWN (R62, R80, R85, R93, R469, R602, R641): VDD has fallen to `vdd`, below VRST. Step 1: safe states over the link and the bolt line; the
ports and watchdogs stop; a running erase is suspended where it can be, and any other program or erase runs to its end first. -/
def execOrderlyPowerDown (vdd : BitVec 16) (s : State) : Host.Outcome State Fault Refusal :=
  s.on (fun h =>
    if h.dev.phase == .off || h.sup.pd.isSome || decide (h.sup.band.vrst ≤ vdd.toNat) then h
    else
      let h := if h.dev.test then h.endTest 3 else h
      let runs := (h.nvmOp.map (fun o => o.kind)).getD 0
      let susp := runs == 2 && (h.nvmDev 0).suspend
      let h := if runs == 0 then { h with nvmOp := none } else if susp then h.abandonNvm false else h
      let pd : PowerDown := { eraseSuspended := runs == 2, busy := if runs == 1 || (runs == 2 && !susp) then some .running else none }
      let h := { h with sup := { h.sup with vdd := vdd.toNat, pd := some pd }, dev := { h.dev with exitStep := 0 } }
      let h := ((h.wantTone .bolt).sendSafe h.outList).abandonProof.wdStopAll
      let h := forAll [0, 1, 2] (fun h p => h.modPort p (fun _ => {})) h
      let h := forAll (List.range 48) (fun h b => if h.flag BNK_STAT_pending b then h.handDrop b 5 else h) h
      match h.recd.clearRun with
      | none => h
      | some c =>
        let erased := (List.range 512).find? (fun p => h.nvmErased (0x40000 + 256 * p) 256)
        let h := if c.2.2 then h.wr REC_JSTAT_page (erased.getD (h.rd REC_JSTAT_page)) else h
        { h with recd := { h.recd with clearRun := none, clearSectors := [] } }.stage)

/-- A page of the power-down, or the operation that was running at its start, has been written. -/
def Hub.pdWritten (h : Hub) (pg : PdPage) : Hub :=
  match h.nvmOp with
  | none => h.modPd (fun p => { p with busy := none })
  | some o =>
    let h := { h with nvmOp := none }.nvmEffect o true true
    let counts := pg != .running || o.kind == 1
    let h := if o.use == .journal then { h with recd := { h.recd with staging := h.recd.staging.drop 1 } }.nextPage.stage else h
    let h := if pg == .mirror then { h with ret := { h.ret with mirrorNext := (h.ret.mirrorNext + 1) % 8 } } else h
    h.modPd (fun p => { p with busy := none, written := if counts then p.written + 1 else p.written })

/-- POWER_DOWN_STEP (R80, R84, R93): the page that runs is complete, and the sequence goes on; at first step 2 begins. In the hold-up order
VHOLD is measured before each page. -/
def execPowerDownStep (vhold : BitVec 16) (s : State) : Host.Outcome State Fault Refusal :=
  s.on (fun h =>
    match h.sup.pd with
    | none => h
    | some p =>
      let h := { h with sup := { h.sup with vhold := vhold.toNat } }
      let h := match p.busy with | some pg => h.pdWritten pg | none => h
      let first := p.step == 1 && !p.vddFailed
      let n := h.rd PWR_HOLD_CFG_flush_pages - (if first then ((h.sup.pd.map (fun p => p.written)).getD 0) else 0)
      let todo := if first then List.replicate n PdPage.flush ++ [PdPage.mirror, PdPage.ledger] else p.todo
      h.pdNext vhold.toNat todo)

/-- VDD_FAILED (R82, R84, R674, R675): VDD has fallen below 1.40 V during the power-down: the hold-up set goes on alone, in the hold-up order. -/
def execVddFailed (vhold : BitVec 16) (s : State) : Host.Outcome State Fault Refusal :=
  s.on (fun h =>
    match h.sup.pd with
    | none => h
    | some p =>
      if p.vddFailed then h
      else
        let started := p.step == 1
        let done := fun (pg : PdPage) => !started && !p.todo.contains pg
        let pages := if p.busy == some .flush then h.recd.staging.drop 1 else h.recd.staging
        let fault := pages.any StagePage.grave
        let todo := (if fault then [PdPage.stagingFault] else []) ++ (if done .mirror then [] else [PdPage.mirror]) ++
          (if done .ledger then [] else [PdPage.ledger]) ++ List.replicate (pages.length - b2n fault) PdPage.staging
        let h := { h with
          sup := { h.sup with vdd := 0, vhold := vhold.toNat }
          mem := [], bad := [], wdo := {}
          recd := { h.recd with fifo := [], writing := none, waiting := [] }
          hinge := { h.hinge with upL := false, txL := [], out := [], waiting := [], daWant := .silence } }
        let h := (h.put WDG_WDO_STAT_active false).modPd (fun p => { p with vddFailed := true, failStep := p.step, todo := todo })
        let image := (h.sup.pd.map (fun p => p.image (if started then 0 else 1))).getD 0
        let h := h.pendingRec 0x12 0x41 sevFault 4 [image]
        if p.busy.isSome then h else h.pdNext vhold.toNat todo)

/-- VF_LOST_PD (R94, R673): the field die has been found lost during a power-down whose VDD has not failed: its bolt line is silent, or the
link is lost. The channels whose safe state it
had not confirmed are those of the last report. -/
def execVfLostPd (s : State) : Host.Outcome State Fault Refusal :=
  s.on (fun h =>
    match h.sup.pd with
    | none => h
    | some p =>
      if p.vddFailed || p.vfLost || (h.hinge.upL && h.hinge.daDecides != .silence) then h
      else
        let open_ := h.outList.foldl (fun m c => if h.flag OUT_STAT_at_safe c then m else setBit m c) 0
        (h.pendingRec 0x13 0x41 sevFault 8 [p.step, open_]).modPd (fun p => { p with vfLost := true }))

/-- HOLD_UP_END_VOLTAGE (R72, R95, R674): VHOLD has fallen to VHEND during a power-down: the write in progress is cut off and counts, with the
rest, as skipped. -/
def execHoldUpEndVoltage (s : State) : Host.Outcome State Fault Refusal :=
  s.on (fun h =>
    match h.sup.pd with
    | none => h
    | some p =>
      let begun := p.step != 1 || p.vddFailed
      let lost := (match p.busy with | some pg => [pg] | none => []) ++ (if begun then p.todo else [PdPage.mirror, PdPage.ledger])
      let h := h.abandonNvm false
      let h := { h with sup := { h.sup with nvmAllowed := false } }
      ((h.pdSkip lost).modPd (fun p => { p with all2 := p.all2 && begun })).pdFinish)

/-- RETENTION_FLOOR (R87): the AON supply has fallen below 1.20 V with VDD gone: both copies of the retained block are lost. -/
def execRetentionFloor (s : State) : Host.Outcome State Fault Refusal :=
  s.on (fun h => if h.dev.phase == .off then h.aonLost else h)

/-! ### The field supply (R66 to R70) -/

/-- FIELD_POWER_ON_RESET (R68, R99): VF has fallen below the field power-on reset level. -/
def execFieldPowerOnReset (s : State) : Host.Outcome State Fault Refusal :=
  s.on (fun h =>
    let h := h.fieldDieReset
    { h with sup := { h.sup with
        fieldUp := false, vfValid := false, vfSeenValid := false, vfUv := false, vfOv := false, vreg5Ok := false, vreglOk := false
        vregFail := false, on := h.sup.on % 0x100 } })

/-- FIELD_RESET_RELEASE (R50, R68, R79): VF has reached 5.0 V: the field die starts with its domains; FTEST is sampled. -/
def execFieldResetRelease (s : State) : Host.Outcome State Fault Refusal :=
  s.on (fun h =>
    if h.sup.fieldUp then h
    else
      let fchb := h.chip.part == .pwh1640 && !h.flag PWR_DOM_CFG_fchb_off
      { h with
        dev := { h.dev with ftestHeld := h.dev.ftest }
        sup := { h.sup with
          fieldUp := true, vreg5Ok := true, vreglOk := true, on := h.sup.on % 0x100 + (if fchb then 0xF00 else 0xB00) } }.lower 0 17)

/-- VF_VALID (R67): VF has stayed at or above 9.0 V for 1 ms. -/
def execVfValid (s : State) : Host.Outcome State Fault Refusal :=
  s.on (fun h =>
    if !h.sup.fieldUp then h
    else { h with sup := { h.sup with vfValid := true, vfSeenValid := true, vfUv := false } }.fieldFall 17 0)

/-- VF_UNDER_VOLTAGE (R66, R67): VF has fallen below 8.5 V after it had been valid; the ledger counts the episode as VF_UV's live bit rises
(R649). -/
def execVfUnderVoltage (s : State) : Host.Outcome State Fault Refusal :=
  s.on (fun h =>
    if !h.sup.fieldUp || !h.sup.vfSeenValid || h.sup.vfUv then h
    else
      { h with sup := { h.sup with vfValid := false, vfUv := true } }.fieldRise 17 0 0)

/-- VF_OVER_VOLTAGE (R66, R69): VF has risen above 38.0 V; no channel switches. -/
def execVfOverVoltage (s : State) : Host.Outcome State Fault Refusal :=
  s.on (fun h => if h.sup.fieldUp then { h with sup := { h.sup with vfOv := true } }.fieldRise 18 0 0 else h)

/-- VREG_FAIL (R70): VREG5, or VREGL, has been out of range for 10 µs: every channel goes off until the field die is next reset. -/
def execVregFail (vregl : Bool) (s : State) : Host.Outcome State Fault Refusal :=
  s.on (fun h =>
    if !h.sup.fieldUp then h
    else
      let h := { h with sup := { h.sup with
        vregFail := true, vreg5Ok := h.sup.vreg5Ok && vregl, vreglOk := h.sup.vreglOk && !vregl } }
      (forAll (List.range 16) Hub.reSwitch h).fieldRise (if vregl then 20 else 19) 0 0)

/-! ### Domains (R74 to R78, R434) -/



/-- DOMAIN_WAKE_REQUEST (R76): an access to a resource in a domain that is off requests its wake. -/
def execDomainWakeRequest (d : Fin 12) (s : State) : Host.Outcome State Fault Refusal :=
  s.on (fun h => if h.dev.phase != .up || h.blankOff d then h else h.wantDomain d)

/-- The stored fields that a domain holds: PD_OPS the operation engine's, PD_SEQ the tumblers' and Luanen's (R74). -/
def domainFlds (d : Nat) : List Fld :=
  match d with
  | 2 => fldsOPS
  | 3 => fldsTMB ++ fldsLSY
  | _ => []

/-- The keys of a field's copies. -/
def fldKeys (f : Fld) : List Nat :=
  (List.range f.count).flatMap (fun i => if f.perWard then (List.range 8).map (fun w => fldKey f i w) else [fldKey f i 0])

/-- The retention copy of a domain: the fields that a ward or the hub may change at run time (R434). -/
def Hub.retention (h : Hub) (d : Nat) : List (Nat × Nat) :=
  let keys := ((domainFlds d).filter (fun f => f.acc == .rw)).flatMap fldKeys
  h.regs.filter (fun e => keys.contains e.1)

/-- The retention copy of a domain written. -/
def Hub.keepDomain (h : Hub) (d : Nat) : Hub := { h with kept := vset h.kept d (h.retention d) }

/-- The fields of a woken domain restored: the Blank's from the shadow, the run-time ones from the retention copy, counters and status 0
(R434). A copy with an error raises CFG_SHADOW, and its fields keep their reset values. -/
def Hub.restoreDomain (h : Hub) (d : Nat) (good : Bool) : Hub :=
  let ro := ((domainFlds d).filter (fun f => f.acc == .ro && f.blank != .no)).flatMap fldKeys
  let fromShadow := h.armed.filter (fun e => ro.contains e.1)
  let all := (domainFlds d).flatMap fldKeys
  let h := { h with regs := h.regs.filter (fun e => !all.contains e.1) }
  let put := fun (h : Hub) (e : Nat × Nat) => { h with regs := fileSet h.regs e.1 e.2 }
  let h := fromShadow.foldl put h
  if good then (vget h.kept d []).foldl put h else h.raise 18 20 1 detailOpen

/-- A memory domain that has woken is to be cleared: at once, or once the other one has been, since the hub clears the two one after the
other, after a reset PD_MEM0 first (R78, R79). -/
def Hub.clearDomain (h : Hub) (m : Nat) : Hub :=
  if h.sup.clearing != 0 || (m == 1 && h.dev.phase == .boot && bitOf h.sup.waking 4) then
    { h with sup := { h.sup with clearWait := setBit h.sup.clearWait m } }
  else { h with sup := { h.sup with clearing := setBit 0 m } }

/-- DOMAIN_WAKE_DONE (R76, R78, R434): a domain's wake is complete; a memory domain is cleared before its banks are usable. `good` says that the
retention copy reads without an uncorrectable error. -/
def execDomainWakeDone (d : Fin 12) (good : Bool) (s : State) : Host.Outcome State Fault Refusal :=
  s.on (fun h =>
    if !bitOf h.sup.waking d then h
    else
      let h := { h with sup := { h.sup with waking := clrBit h.sup.waking d, on := setBit h.sup.on d } }
      let h := h.costEnd .domainWake d
      if d.val == 4 || d.val == 5 then h.clearDomain (d - 4)
      else if d.val == 10 then forAll ((List.range 16).filter (fun c => decide (8 ≤ c))) (fun h c =>
        (h.modOut c (fun o => { o with hiz := !h.hinge.configured })).reSwitch c) h
      else if h.dev.phase == .up then h.restoreDomain d good
      else h)

/-- BANK_CLEAR_DONE (R78): every word of the domain's banks is zero with valid ECC; PD_MEM1 holds DP0 and DP1 too. A domain that waits is
cleared next. -/
def execBankClearDone (m : Fin 2) (s : State) : Host.Outcome State Fault Refusal :=
  s.on (fun h =>
    if !bitOf h.sup.clearing m then h
    else
      let h := { h with sup := { h.sup with clearing := h.sup.clearWait, clearWait := 0 } }
      if m.val == 0 then h.clearMem (bankAddr 0 0) (bankAddr 24 0)
      else (h.clearMem (bankAddr 24 0) (bankAddr 48 0)).clearMem (dpAddr 0 0) (dpAddr 2 0))

/-! ### Test pins (R49, R50, R58) -/

/-- TEST_PIN_CHANGE (R58): TESTEN or FTEST changes while its die is past reset: PIN_TEST is present while the pin differs from the level
sampled. -/
def execTestPinChange (field : Bool) (level : Bool) (s : State) : Host.Outcome State Fault Refusal :=
  s.on (fun h =>
    let h := { h with dev := if field then { h.dev with ftest := level } else { h.dev with testen := level } }
    let past := if field then h.sup.fieldUp else h.logicRuns
    let held := if field then h.dev.ftestHeld else h.dev.testHeld
    let res := if field then 17 else 16
    if !past then h else if level == held then h.lower 0 res else h.raise 0 res 1 detailOpen)

end Sys2Proof.Machine
end

