-- ==== Sys2Proof/Machine/Luanen.lean ====
section
/-!
DEFINITION. The commands of Luanen sync (chapter 10): sync pulses, frames, enumeration, calibration, alignment, Luanen events,
user messages, the broken chain and the 1oo2 pair.

What the spec leaves open here: DEDUCED, log entries 35, 97.
-/

namespace Sys2Proof.Machine

/-- Luanen's own state changed. -/
def Hub.modLsy (h : Hub) (f : Lsy → Lsy) : Hub := { h with lsy := f h.lsy }

/-- The hub is the head. -/
def Hub.isHead (h : Hub) : Bool := h.flag LSY_CFG_head

/-- The hub's position, 0 for the head. -/
def Hub.lsyPos (h : Hub) : Nat := if h.isHead then 0 else h.rd LSY_STAT_pos

/-- The hub has a valid position; the head has position 0. -/
def Hub.lsyPlaced (h : Hub) : Bool := h.isHead || h.flag LSY_STAT_pos_valid

/-- The hub is the tail: it has no downstream neighbour. -/
def Hub.isTail (h : Hub) : Bool := h.lsyPlaced && h.lsyPos == h.rd LSY_CFG_hubs_m1

/-- A frame queued for return slot 2: BREAK before RECAL_REQ before USER (R327). -/
def Hub.lsyReturn (h : Hub) (f : LFrame) : Hub :=
  h.modLsy (fun x => { x with
    ret := x.ret.takeWhile (fun g => decide (g.cmd ≤ f.cmd)) ++ f :: x.ret.dropWhile (fun g => decide (g.cmd ≤ f.cmd)) })

/-- A frame forwarded downstream, where there is a downstream neighbour (R326). -/
def Hub.lsyForward (h : Hub) (f : LFrame) : Hub := if h.isTail then h else h.lsySend f

/-! ### The timebase step (R122, R316, R332) -/

/-- A signed amount added to a time, modulo 2^64. -/
def addSigned (t : Nat) (d : Int) : Nat := (((t : Int) + d) % ((2 ^ 64 : Nat) : Int)).toNat

/-- An instant in fine ticks of the timebase moved by a signed number of them. -/
def addFine (t : Nat) (d : Int) : Nat := (((t : Int) + d) % ((2 ^ 67 : Nat) : Int)).toNat

/-- The low 48 bits of the timebase wrap when it is stepped forward by a number of ticks. -/
def stepWraps (tb : Nat) (d : Int) : Bool := decide (0 < d) && decide (2 ^ 48 ≤ tb % 2 ^ 48 + d.toNat)

/-- The follower reloaded after a step of the timebase, with a step of its own under R114: beyond ±100 ns it loses its lock (R115, R122). The
field die has to hear of it. -/
def Hub.stepFollower (h : Hub) (d : Int) : Hub :=
  if !h.sup.fieldUp || !h.hinge.upF || !h.hinge.upL then h
  else
    let h := h.setFollower (h.fieldFine + 8 * d) h.clk.slew
    if 80 < (8 * d).natAbs then h.followUnlock else h

/-- The timebase is stepped by a signed number of ticks (R122); a step over the wrap of the low 48 bits sets the wrapped flags (R111); cycles in
hand keep their intervals (R316). -/
def Hub.stepTb (h : Hub) (d : Int) : Hub :=
  let h := if stepWraps h.clk.tb d then h.setWrapped else h
  let h := { h with clk := { h.clk with tb := addSigned h.clk.tb d, steppedAt := some h.clk.now } }.stepFollower d
  let lo := ofSigned 64 d % 2 ^ 32
  let hi := ofSigned 64 d / 2 ^ 32
  let h := ((h.wr CLK_TB_STEP_LO_step lo).wr CLK_TB_STEP_HI_step hi).count CLK_TB_STEPS_count
  let moveT := fun (t : Tmb) => { t with cycleAt := addFine t.cycleAt (8 * d) }
  let moveA := fun (a : Aux) => { a with edges := a.edges.map (fun e => (addFine e.1 (8 * d), e.2)) }
  let h := { h with tmbs := h.tmbs.map moveT, aux := h.aux.map moveA }
  h.note 0x21 0x42 sevNote 8 [lo, hi]

/-! ### The period (R325 to R328, R341) -/

/-- at_safe of a pair heartbeat (R341). -/
def Hub.pairAtSafe (h : Hub) : Bool :=
  h.flag OUT_STAT_safe_hold (h.rd LSY_PAIR_ch) || h.state == .safe || h.state == .halt || h.state == .test || !h.hinge.upL

/-- The payload of the hub's heartbeat to its partner (R341). -/
def Hub.pairHb (h : Hub) : LFrame :=
  let c := h.rd LSY_PAIR_ch
  { cmd := 0x30
    payload := h.lsyPos * 2 ^ 27 + b2n (h.flag OUT_CTRL_on c) * 2 ^ 26 + b2n (h.flag OUT_STAT_sw_on c) * 2 ^ 25 +
      b2n h.pairAtSafe * 2 ^ 24 + h.lsy.hbCount * 2 ^ 16 + h.rd LSY_PAIR_id * 2 ^ 8 }



/-- Three periods of the chain, and `slack` ticks more, have passed since a time; so they have where nothing has come yet. -/
def Hub.threePeriods (h : Hub) (since : Option Nat) (slack : Nat) : Bool :=
  match since with
  | none => true
  | some t => decide (t + 3 * h.lsyTicks + slack ≤ h.clk.now)

/-- A valid frame has come in return slot 1 (R329, R337). -/
def Hub.slotOneCame (h : Hub) : Hub :=
  ((h.put LSY_STAT_dn_ok true).lower 33 19).modLsy (fun x => { x with
    present := true, presents := if x.present then x.presents else x.presents + 1, slotAt := some h.clk.now })

/-- A pulse begins a period: heartbeats count, and the upstream hub of a pair queues its own (R325, R341). -/
def Hub.lsyPeriod (h : Hub) : Hub :=
  let h := h.modLsy (fun x => { x with
    hbCount := (x.hbCount + 1) % 256, presents := if x.present then x.presents else 0, present := false
    pulseAt := some h.clk.now, freeAt := 200, outFwd := [], out1 := none, out2 := none })
  if h.flag LSY_PAIR_en && h.flag LSY_PAIR_partner then h.lsySend h.pairHb else h

/-- Ticks since the latest pulse instant, as the hub sends it on LSYNC_OUT: a member regenerates it 1,000 ns later (R325, R326). -/
def Hub.outPhase (h : Hub) : Option Nat :=
  match h.lsy.pulseAt with
  | none => none
  | some t =>
    let d := if h.isHead then 0 else 100
    if t + d ≤ h.clk.now then some (h.clk.now - t - d) else none

/-- Ticks since the latest pulse instant on LSYNC_IN. -/
def Hub.inPhase (h : Hub) : Option Nat := h.lsy.pulseAt.map (fun t => h.clk.now - t)

/-- The hub sends on the line: its chain is in use, its upstream side is not lost, and a head is not in holdover (R334, R337). -/
def Hub.lsySends (h : Hub) : Bool :=
  h.lsyOn && !h.lsy.lost && !(h.isHead && h.flag CLK_STAT_holdover) && h.testGroup != 2

/-- The forward window at a tick: where the line is free, and the frame ends by P − 36 µs, the first frame of the queue starts; it lasts
4.08 µs and 320 ns of low line follow it (R324 to R326, R349). -/
def Hub.lsyForwardTick (h : Hub) : Hub :=
  match h.outPhase, h.lsy.fwd with
  | some t, f :: rest =>
    if h.lsySends && !h.isTail && h.lsy.freeAt ≤ t && t + 408 + 3600 ≤ h.lsyTicks then
      h.modLsy (fun x => { x with fwd := rest, outFwd := x.outFwd ++ [(t, f)], freeAt := t + 440 })
    else h
  | _, _ => h

/-- What a member sends in return slot 1: HB to a partner upstream of it, PRESENT otherwise (R327). -/
def Hub.slotOne (h : Hub) : LFrame :=
  if h.flag LSY_PAIR_en && !h.flag LSY_PAIR_partner then h.pairHb else { cmd := 0x40, payload := h.lsyPos }

/-- The return slots at a tick, from P − 32 µs and 4.4 µs later: slot 2 takes the first frame that waits (R325, R327). A request of the Keeper's
is sent with it (R350). -/
def Hub.lsyReturnTick (h : Hub) : Hub :=
  if !h.lsySends || h.isHead then h
  else
    match h.inPhase with
    | none => h
    | some t =>
      if t + 3200 == h.lsyTicks then h.modLsy (fun x => { x with out1 := some h.slotOne })
      else if t + 3200 == h.lsyTicks + 440 then
        let h := match h.lsy.ret.head? with
          | some f => if f.cmd == 0x42 && f.payload == h.lsyPos + 3 * 32 then h.put LSY_CTRL_recal false else h
          | none => h
        h.modLsy (fun x => { x with out2 := x.ret.head?, ret := x.ret.drop 1 })
      else h

/-- A tick of the line. -/
def Hub.lsyTick (h : Hub) : Hub := h.lsyForwardTick.lsyReturnTick

/-- The head's ENUM, TIME_LO and TIME_HI (R327, R328): the time is that of the next pulse. -/
def Hub.headTime (h : Hub) : Hub :=
  let t := (h.clk.tb + h.lsyTicks) % 2 ^ 64
  let h := h.lsySend { cmd := 0x01, payload := t % 2 ^ 32 }
  let h := h.lsySend { cmd := 0x02, payload := t / 2 ^ 32 }
  (h.lsySend { cmd := 0x03, payload := h.rd LSY_CFG_hubs_m1 * 2 ^ 8 + (h.lsy.calNo % 2 ^ 16) * 2 ^ 16 }).modLsy
    (fun x => { x with enumDue := false })

/-- A command carried out on a hub whose chain is in use. -/
def State.onLsy (s : State) (f : Hub → Hub) : Host.Outcome State Fault Refusal := s.on (fun h => if h.lsyOn && h.testGroup != 2 then f h else h)

/-! ### Calibration (R329 to R331, R345) -/

/-- LSY_CAL_CFG.interval_min minutes of MCLK have passed since the last CAL_START (R329). -/
def Hub.calDue (h : Hub) : Bool := decide (h.lsy.calAt + 60 * 1000 * Config.ticksPerMs * h.rd LSY_CAL_CFG_interval_min ≤ h.clk.mclk)

/-- The head starts a calibration, or notes the trigger while one runs (R329, R345). -/
def Hub.calTrigger (h : Hub) : Hub :=
  if h.flag LSY_STAT_calibrating then h.modLsy (fun x => { x with again := true })
  else
    let no := (h.lsy.calNo + 1) % 2 ^ 16
    let h := h.modLsy (fun x => { x with calNo := no, echoes := [], missed := false, newHop := false, started := true, again := false, calPer := some 0, calAt := h.clk.mclk })
    ((h.put LSY_STAT_calibrating true).put LSY_CTRL_recal false).lsySend { cmd := 0x10, payload := no }

/-- A calibration of the head has ended: a trigger that arose meanwhile starts one more (R345). -/
def Hub.calEnded (h : Hub) : Hub :=
  let h := h.put LSY_STAT_calibrating false
  if h.isHead && h.lsy.again then h.calTrigger else h

/-- CAL_DELAY to the downstream neighbour, once the hub has a new d and its D of this calibration (R331). -/
def Hub.calSend (h : Hub) : Hub :=
  if !h.lsy.newHop || !(h.isHead || h.lsy.dNew) then h
  else
    let d := h.rd LSY_HOP_hop
    let v := if h.isHead then d else h.rd LSY_DELAY_d_chain + 800 + d
    let h := (h.lsySend { cmd := 0x11, payload := v % 2 ^ 32 }).modLsy (fun x => { x with
      newHop := false, dNew := false, enumDue := x.enumDue || h.isHead })
    h.calEnded

/-- The 16 echoes judged (R330): the hop delay, to the nearest fine tick, or LSY_CAL; a round trip below 2,000 ns on average, for which the spec
states no d, fails too (log entry 35). -/
def Hub.calJudge (h : Hub) : Hub :=
  let l := h.lsy.echoes
  let lo := l.foldl min (l.headD 0)
  let hi := l.foldl max 0
  let sum := l.foldl (· + ·) 0
  let d := (sum - 16 * 1600 + 16) / 32
  if h.lsy.missed || 8 < hi - lo || sum < 16 * 1600 || 800 < d then
    let h := (h.event 35 1 detailOpen).modLsy (fun x => { x with echoes := [], missed := false, calPer := none })
    h.calEnded
  else
    ((h.wr LSY_HOP_hop d).modLsy (fun x => { x with echoes := [], missed := false, hasHop := true, newHop := true, calPer := none })).calSend

/-- CAL_ECHO (R330): one echo, timed to one fine tick, or missing: four in the return window of each of the 4 periods. -/
def execCalEcho (missing : Bool) (rt : BitVec 16) (s : State) : Host.Outcome State Fault Refusal :=
  s.onLsy (fun h =>
    if !h.flag LSY_STAT_calibrating || h.isTail || 4 * (h.lsy.calPer.getD 0) ≤ h.lsy.echoes.length then h
    else
      let h := h.modLsy (fun x => { x with echoes := x.echoes ++ [if missing then 1600 else rt.toNat], missed := x.missed || missing })
      if h.lsy.echoes.length == 16 then h.calJudge else h)

/-- A period begins while the hop is to be measured: after the fourth a missing echo has failed the calibration (R330). -/
def Hub.calPeriod (h : Hub) : Hub :=
  match h.lsy.calPer with
  | none => h
  | some n =>
    let h := h.modLsy (fun x => { x with calPer := if n < 4 then some (n + 1) else none })
    if n == 4 && !h.isTail && h.flag LSY_STAT_calibrating then (h.modLsy (fun x => { x with missed := true })).calJudge else h

/-- SYNC_PULSE_SEND (R325): the head's timebase is a whole multiple of the sync period; a head in holdover sends nothing
(R334). -/
def execSyncPulseSend (s : State) : Host.Outcome State Fault Refusal :=
  s.onLsy (fun h =>
    if !h.isHead || h.clk.tb % max 1 h.lsyTicks != 0 then h
    else if h.flag CLK_STAT_holdover then h.put LSY_STAT_up_ok false
    else
      let h := (h.put LSY_STAT_up_ok true).modLsy (fun x => { x with tn := some h.clk.tb })
      let k := h.clk.tb / max 1 h.lsyTicks
      let h := if k % 16 == 0 || h.lsy.enumDue then h.headTime else h
      h.calPeriod.lsyPeriod)

/-- A CAL_START frame taken (R330): the hop is measured in the next 4 periods; the frame goes on downstream. -/
def Hub.recvCalStart (h : Hub) (v : Nat) : Hub :=
  let h := h.modLsy (fun x => { x with calNo := v % 2 ^ 16, echoes := [], missed := false, newHop := false, dNew := false, calPer := some 0 })
  (h.put LSY_STAT_calibrating true).lsyForward { cmd := 0x10, payload := v }

/-- CAL_START (R330). -/
def execCalStart (v : Word) (s : State) : Host.Outcome State Fault Refusal :=
  s.onLsy (fun h => if h.isHead || h.lsy.lost then h else h.recvCalStart v.toNat)

/-- CAL_DELAY (R331): the hub's D, applied at the next pulse. -/
def execCalDelay (v : Word) (s : State) : Host.Outcome State Fault Refusal :=
  s.onLsy (fun h => if h.isHead || h.lsy.lost then h else h.modLsy (fun x => { x with newD := some v.toNat }))

/-- The deferred or received D applied at a pulse (R331). -/
def Hub.applyD (h : Hub) : Hub :=
  match h.lsy.newD with
  | none => h
  | some d =>
    let h := ((h.wr LSY_DELAY_d_chain d).put LSY_STAT_cal_valid true).count LSY_HOP_cals
    let h := h.modLsy (fun x => { x with newD := none, dNew := true, needCal := false, calTemp := h.logicTemp })
    let h := if h.isTail then h.put LSY_STAT_calibrating false else h
    h.calSend

/-! ### Alignment at a pulse (R332, R334, R344) -/

/-- `x` divided by `n`, rounded half away from zero (R332). -/
def roundDiv (x : Int) (n : Nat) : Int :=
  let q : Nat := (2 * x.natAbs + n) / (2 * n)
  if x < 0 then -(q : Int) else q

/-- The AUX trim set (R332). -/
def Hub.setTrim (h : Hub) (t : Int) : Hub := h.wr LSY_ALIGN_ERR_trim (ofSigned 8 t)

/-- The latest error shown; an error beyond the field is an open value (log entry 4). -/
def Hub.showErr (h : Hub) (e : Int) : Hub :=
  if -32768 ≤ e && e < 32768 then h.wr LSY_ALIGN_ERR_err (ofSigned 16 e)
  else
    let p := h.freeNat 16
    p.2.wr LSY_ALIGN_ERR_err p.1

/-- The timebase stepped by −round(e / 8) ticks and the trim set to the remainder (R332). -/
def Hub.alignStep (h : Hub) (e : Int) : Hub :=
  let q := roundDiv e 8
  ((if q == 0 then h else h.stepTb (-q)).setTrim (8 * q - e)).put LSY_STAT_aligned true

/-- A pair hub between PAIR_CLOSE and the pulse at T + P (R344). -/
def Hub.pairClosing (h : Hub) : Bool := h.flag LSY_PAIR_en && h.lsy.closeAt.isSome

/-- The events of R343 other than detail 0: the pair channel is driven to its safe state, LSY_PAIR, the count. A proof of
mechanism 15 suppresses them (R521). -/
def Hub.pairOpen (h : Hub) (detail : Nat) : Hub :=
  if h.proofHides 37 16 then h
  else
    let c := h.rd LSY_PAIR_ch
    let h := (h.pairCancel.sendSafe [c]).wr LSY_PAIR_STAT_detail detail
    let h := if detail == 6 then h.put OUT_CTRL_on false c else h
    (h.count LSY_PAIR_STAT_disagreements).event 37 (2 ^ ((h.chOwner c).getD 0)) detail

/-- A member judges its own time against the head's at a pulse instant (R332); while a close is scheduled it makes no step, and abandons the
close at an error above 160 fine ticks (R344). -/
def Hub.lsyAlign (h : Hub) (own8 : Nat) : Hub :=
  let p8 := 8 * h.lsyTicks
  let known := match h.lsy.timeLo, h.lsy.timeHi with | some lo, some hi => some (hi * 2 ^ 32 + lo) | _, _ => none
  let tn := if h.flag LSY_STAT_aligned then some ((2 * own8 + p8) / (2 * p8) * h.lsyTicks) else known
  let h := h.modLsy (fun x => { x with timeLo := none, timeHi := none })
  match tn with
  | none => h
  | some tn =>
    let h := h.modLsy (fun x => { x with tn := some tn })
    if !h.flag LSY_STAT_cal_valid || h.lsy.needCal then h
    else
      let e : Int := (own8 : Int) - (8 * tn + h.rd LSY_DELAY_d_chain : Nat)
      let h := h.showErr e
      if h.pairClosing && 160 < e.natAbs then h.pairOpen 6
      else if h.flag LSY_STAT_aligned && e.natAbs ≤ 12 then (h.setTrim (-e)).modLsy (fun x => { x with far := false })
      else if h.pairClosing then h
      else if !h.flag LSY_STAT_aligned then h.alignStep e
      else if h.lsy.far then ((h.alignStep e).modLsy (fun x => { x with far := false })).event 36 1 detailOpen
      else h.modLsy (fun x => { x with far := true })

/-- A close ends at the pulse at T + P: the hub aligns and takes a D again (R344). -/
def Hub.pairPulse (h : Hub) : Hub :=
  match h.lsy.closeAt with
  | none => h
  | some t => if h.lsy.closePast && t + h.lsyTicks ≤ h.clk.tb + 200 then h.modLsy (fun x => { x with closeAt := none, closePast := false }) else h

/-- A sync pulse recognised by a member (R326, R332, R334, R337); `fine` is the instant within the tick. -/
def Hub.recvPulse (h : Hub) (fine : Nat) : Hub :=
  if h.lsy.lost then
    let inTime := match h.lsy.seenAt with
      | none => false
      | some t => decide (t + h.lsyTicks ≤ h.clk.now + 200) && decide (h.clk.now ≤ t + h.lsyTicks + 200)
    h.modLsy (fun x => { x with pulses := if inTime then x.pulses + 1 else 1, seenAt := some h.clk.now })
  else
    let h := (h.put LSY_STAT_up_ok true).pairPulse
    let h := if h.pairClosing then h else h.applyD
    let h := if h.flag CLK_STAT_holdover then
        let was := h.flag LSY_STAT_aligned
        let h := h.put LSY_STAT_aligned false
        if was then h.event 36 1 detailOpen else h
      else h.lsyAlign (8 * h.clk.tb + fine)
    h.calPeriod.lsyPeriod

/-- SYNC_PULSE_RECEIVE (R326): LSYNC_IN has risen at a fine tick and is high for a number of ticks: a pulse from 200 ns on (R324). A head that
recognises one raises LSY_POS (R328). -/
def execSyncPulseReceive (x : SyncPulse) (s : State) : Host.Outcome State Fault Refusal :=
  s.onLsy (fun h => if x.ticks.toNat < 20 then h else if h.isHead then h.raise 34 18 1 detailOpen else h.recvPulse x.fine)

/-! ### Time, enumeration and marks (R327, R328, R335) -/

/-- TIME_LO (R327). -/
def execTimeLo (v : Word) (s : State) : Host.Outcome State Fault Refusal :=
  s.onLsy (fun h =>
    if h.isHead || h.lsy.lost then h
    else (h.modLsy (fun x => { x with timeLo := some v.toNat })).lsyForward { cmd := 0x01, payload := v.toNat })

/-- TIME_HI (R327). -/
def execTimeHi (v : Word) (s : State) : Host.Outcome State Fault Refusal :=
  s.onLsy (fun h =>
    if h.isHead || h.lsy.lost then h
    else (h.modLsy (fun x => { x with timeHi := some v.toNat })).lsyForward { cmd := 0x02, payload := v.toNat })

/-- A RECAL_REQ of a member with a reason: 1 temperature, 2 joined, 3 Keeper (R327, R329). -/
def Hub.recalAsk (h : Hub) (reason : Nat) : Hub := h.lsyReturn { cmd := 0x42, payload := h.lsyPos + reason * 32 }

/-- An ENUM frame taken by a member (R328): its position, the checks of LSY_POS, and ENUM onward. -/
def Hub.recvEnum (h : Hub) (v : Nat) : Hub :=
  let pos := bitsOf v 0 5 + 1
  let hubs := bitsOf v 8 5
  let bad := decide (h.rd LSY_CFG_hubs_m1 < pos)
  let h := (h.wr LSY_STAT_pos pos).put LSY_STAT_pos_valid true
  let h := if bad then h.raise 34 19 1 detailOpen else h.lower 34 19
  let h := if hubs != h.rd LSY_CFG_hubs_m1 then h.raise 34 20 1 detailOpen else h.lower 34 20
  let h := if h.lsy.joined then h else (h.modLsy (fun x => { x with joined := true })).recalAsk 2
  h.lsyForward { cmd := 0x03, payload := v / 32 * 32 + pos % 32 }

/-- ENUM (R328). -/
def execEnumMsg (v : Word) (s : State) : Host.Outcome State Fault Refusal :=
  s.onLsy (fun h => if h.isHead || h.lsy.lost then h else h.recvEnum v.toNat)

/-- Luanen event `k` sets its latch in every tumbler, while the hub has a valid position (R335). -/
def Hub.lsyEvent (h : Hub) (k : Nat) : Hub :=
  if h.lsyPlaced then forAll (List.range 8) (fun h t => h.modTmb t (fun x => { x with lsyLatch := setBit x.lsyLatch k })) h else h

/-- A MARK frame taken: the mark-kind events that match fire (R335). -/
def Hub.recvMark (h : Hub) (v : Nat) : Hub :=
  let h := forAll (List.range 8) (fun h k =>
    if h.rd LSY_EV_CFG_kind k == 2 && h.rd LSY_EV_CFG_src_pos k == bitsOf v 27 5 && h.rd LSY_EV_CFG_tmb k == bitsOf v 24 3 &&
        h.rd LSY_EV_CFG_mk k == bitsOf v 22 2 then h.lsyEvent k else h) h
  h.lsyForward { cmd := 0x20, payload := v }

/-- MARK (R335). -/
def execMark (v : Word) (s : State) : Host.Outcome State Fault Refusal :=
  s.onLsy (fun h => if h.isHead || h.lsy.lost then h else h.recvMark v.toNat)

/-- A marker of the hub routed to Luanen sync is sent as a MARK frame; `start` is its cycle start in ticks (R298, R335). -/
def Hub.markSend (h : Hub) (t k start : Nat) : Hub :=
  if h.lsyOn && h.lsyPlaced && !h.lsy.lost then
    h.lsyForward { cmd := 0x20, payload := h.lsyPos * 2 ^ 27 + t * 2 ^ 24 + k * 2 ^ 22 + start % 2 ^ 22 }
  else h

/-- The instant E of a sync-kind event that is due: that of the latest pulse, or of the next one, whose number is a multiple of every + 1, where
E − 5 µs has come and E has not (R335). -/
def Hub.eventDue (h : Hub) (k : Nat) : Option Nat :=
  match h.lsy.tn with
  | none => none
  | some tn =>
    ([tn, tn + h.lsyTicks].find? (fun p =>
      (p / max 1 h.lsyTicks) % (h.rd LSY_EV_CFG_every k + 1) == 0 && decide (p + h.rd LSY_EV_OFS_ofs k ≤ h.clk.tb + 500) &&
        decide (h.clk.tb < p + h.rd LSY_EV_OFS_ofs k))).map (fun p => p + h.rd LSY_EV_OFS_ofs k)

/-- LUANEN_EVENT (R335): a sync-kind event's latch is set 5 µs before its instant E, once for each, while the hub is aligned. -/
def execLuanenEvent (k : Fin 8) (s : State) : Host.Outcome State Fault Refusal :=
  s.onLsy (fun h =>
    match h.eventDue k with
    | none => h
    | some e =>
      if h.rd LSY_EV_CFG_kind k == 1 && h.lsyAligned && h.lsyPlaced && vget h.lsy.evAt k none != some e then
        (h.modLsy (fun x => { x with evAt := vset x.evAt k (some e) })).lsyEvent k
      else h)

/-! ### The pair (R341 to R344, R347) -/

/-- A heartbeat of the partner taken by a pair hub (R343): of the conditions that hold, that with the lowest detail acts (log
entry 97). -/
def Hub.recvPairHb (h : Hub) (up : Bool) (v : Nat) : Hub :=
  let c := h.rd LSY_PAIR_ch
  let pos := if up then h.lsyPos - 1 else h.lsyPos + 1
  let cmd := bitOf v 26
  let sw := bitOf v 25
  if bitsOf v 8 8 != h.rd LSY_PAIR_id || bitsOf v 27 5 != pos then h.pairOpen 5
  else
    let own := h.flag OUT_CTRL_on c
    let h := h.modLsy (fun x => { x with
      hb := some v, hbAt := some h.clk.now, run3 := if sw && !cmd then x.run3 + 1 else 0, run4 := if !sw && cmd && x.pairOn then x.run4 + 1 else 0 })
    let h := ((h.put LSY_PAIR_STAT_partner_ok true).wr LSY_PAIR_STAT_partner_cnt (bitsOf v 16 8)).put LSY_PAIR_STAT_closed
      (sw && h.flag OUT_STAT_sw_on c)
    if own && !cmd && (h.lsy.pairOn || h.lsy.closeAt.isSome) then
      ((h.put OUT_CTRL_on false c).ownCommand c false).wr LSY_PAIR_STAT_detail 0
    else if bitOf v 24 then (if own then h.pairOpen 2 else h)
    else if 2 ≤ h.lsy.run3 then h.pairOpen 3
    else if 2 ≤ h.lsy.run4 then h.pairOpen 4
    else h.pairTry

/-- HB (R343): from the upstream or the downstream neighbour; one from the downstream side is its frame of return slot 1. -/
def Hub.recvLsyHb (h : Hub) (up : Bool) (v : Nat) : Hub :=
  let h := if up then h else h.slotOneCame
  if h.flag LSY_PAIR_en && h.flag LSY_PAIR_partner == !up then h.recvPairHb up v else h

/-- HB (R343). -/
def execHb (up : Bool) (v : Word) (s : State) : Host.Outcome State Fault Refusal :=
  s.onLsy (fun h => if up && (h.isHead || h.lsy.lost) then h else h.recvLsyHb up v.toNat)

/-- PAIR_HB_TIMEOUT (R343): no valid HB in 3 periods in a row. -/
def execPairHbTimeout (s : State) : Host.Outcome State Fault Refusal :=
  s.onLsy (fun h =>
    if h.flag LSY_PAIR_en && h.threePeriods h.lsy.hbAt 0 then
      ((h.put LSY_PAIR_STAT_partner_ok false).modLsy (fun x => { x with hb := none, run3 := 0, run4 := 0 })).pairOpen 1
    else h)

/-- PAIR_CLOSE (R342): the downstream hub of a pair takes the close instant, bits [31:0] of the aligned timebase. -/
def execPairClose (v : Word) (s : State) : Host.Outcome State Fault Refusal :=
  s.onLsy (fun h =>
    let c := h.rd LSY_PAIR_ch
    if h.flag LSY_PAIR_en && !h.flag LSY_PAIR_partner && !h.lsy.lost && h.lsyAligned && h.flag OUT_CTRL_on c &&
        !h.flag OUT_STAT_safe_hold c then
      let ahead := (v.toNat + 2 ^ 32 - h.clk.tb % 2 ^ 32) % 2 ^ 32
      h.pairSchedule ((h.clk.tb + ahead) % 2 ^ 64)
    else h)

/-- PAIR_TURN_ON (R342): at T an admitted turn-on is applied; one that is not admitted 2 µs before T is abandoned. -/
def execPairTurnOn (s : State) : Host.Outcome State Fault Refusal :=
  s.onLsy (fun h =>
    match h.lsy.closeAt with
    | none => h
    | some t =>
      if h.lsy.closePast then h
      else if h.lsy.closeAdmitted then
        if h.clk.tb < t then h
        else
          let h := (h.modLsy (fun x => { x with closePast := true, pairOn := true })).put LSY_PAIR_STAT_close_sched false
          h.command [h.rd LSY_PAIR_ch] 1 false
      else if h.clk.tb + 200 < t then h
      else h.pairOpen 6)

/-! ### Return frames (R327 to R329, R336, R337) -/

/-- PRESENT (R327): the downstream neighbour is there; the head's third in a row starts the first calibration (R329). -/
def execPresent (_v : Word) (s : State) : Host.Outcome State Fault Refusal :=
  s.onLsy (fun h =>
    if h.isTail then h
    else
      let h := h.slotOneCame
      if h.isHead && 3 ≤ h.lsy.presents && !h.lsy.started then h.calTrigger else h)

/-- BREAK (R337): recorded by the head, relayed by a member. -/
def execBreakMsg (v : Word) (s : State) : Host.Outcome State Fault Refusal :=
  s.onLsy (fun h =>
    if h.isHead then h.wr LSY_STAT_break_pos (bitsOf v.toNat 0 5) else h.lsyReturn { cmd := 0x41, payload := v.toNat })

/-- RECAL_REQ (R329): a trigger for the head, relayed by a member. -/
def execRecalReq (v : Word) (s : State) : Host.Outcome State Fault Refusal :=
  s.onLsy (fun h => if h.isHead then h.calTrigger else h.lsyReturn { cmd := 0x42, payload := v.toNat })

/-- A user message delivered to the hub (R335, R336): user-kind events, and the FIFO of 8 entries with its interrupt. -/
def Hub.userDeliver (h : Hub) (v : Nat) : Hub :=
  let code := bitsOf v 16 5
  let h := forAll (List.range 8) (fun h k =>
    if h.rd LSY_EV_CFG_kind k == 3 && h.rd LSY_EV_CFG_code k == code then h.lsyEvent k else h) h
  if !h.flag LSY_USER_rx_en then h
  else if 8 ≤ h.lsy.rx.length then h.count LSY_RX_STAT_overflow
  else
    let m : UserMsg := { src := bitsOf v 21 5, code := code, data := bitsOf v 0 16 }
    (h.modLsy (fun x => { x with rx := x.rx ++ [m] })).intEvent (h.rd LSY_USER_rx_ward) 18

/-- A USER frame taken (R336): delivered where it is addressed to this hub or is a broadcast from upstream, sent on otherwise. -/
def Hub.recvUser (h : Hub) (up : Bool) (v : Nat) : Hub :=
  let mine := h.lsyPlaced && bitsOf v 26 5 == h.lsyPos && !bitOf v 31
  let f : LFrame := { cmd := 0x60, payload := v }
  if up then
    let h := if mine || bitOf v 31 then h.userDeliver v else h
    if mine then h else h.lsyForward f
  else if mine then h.userDeliver v
  else if h.isHead then h else h.lsyReturn f

/-- USER (R336). -/
def execUser (up : Bool) (v : Word) (s : State) : Host.Outcome State Fault Refusal :=
  s.onLsy (fun h => if up && (h.isHead || h.lsy.lost) then h else h.recvUser up v.toNat)

/-- A user message that this hub sends: downstream in forward frames, upstream in return slot 2, a broadcast downstream
(R336). -/
def Hub.userSend (h : Hub) (bcast : Bool) (dest code data : Nat) : Hub :=
  let v := b2n bcast * 2 ^ 31 + dest % 32 * 2 ^ 26 + h.lsyPos * 2 ^ 21 + code % 32 * 2 ^ 16 + data % 2 ^ 16
  let f : LFrame := { cmd := 0x60, payload := v }
  if bcast || h.lsyPos < dest then h.lsyForward f else if dest < h.lsyPos then h.lsyReturn f else h.userDeliver v

/-! ### A broken chain (R337) -/

/-- UPSTREAM_LOST (R337): 3 periods in a row without a pulse within ±2 µs of its time. -/
def execUpstreamLost (s : State) : Host.Outcome State Fault Refusal :=
  s.onLsy (fun h =>
    if h.isHead || h.lsy.lost || !h.threePeriods h.lsy.pulseAt 200 then h
    else
      let h := ((h.put LSY_STAT_up_ok false).put LSY_STAT_pos_valid false).put LSY_STAT_aligned false
      let h := (h.put LSY_STAT_calibrating false).modLsy (fun x => { x with
        lost := true, pulses := 0, seenAt := none, fwd := [], outFwd := [], pulseAt := none, calPer := none, joined := false, needCal := true, newD := none, timeLo := none, timeHi := none })
      h.raise 33 18 1 detailOpen)

/-- DOWNSTREAM_LOST (R337): 3 periods in a row without a frame in return slot 1. -/
def execDownstreamLost (s : State) : Host.Outcome State Fault Refusal :=
  s.onLsy (fun h =>
    if h.isTail || !h.threePeriods h.lsy.slotAt 0 then h
    else
      let h := (h.put LSY_STAT_dn_ok false).modLsy (fun x => { x with presents := 0, present := false })
      let h := if h.isHead then h else h.lsyReturn { cmd := 0x41, payload := h.lsyPos }
      h.raise 33 19 1 detailOpen)

/-- CHAIN_RESUMED (R337): pulses have been seen in 3 periods in a row; the next ENUM gives the position again. -/
def execChainResumed (s : State) : Host.Outcome State Fault Refusal :=
  s.onLsy (fun h =>
    if h.lsy.lost && 3 ≤ h.lsy.pulses then
      ((h.modLsy (fun x => { x with lost := false, pulses := 0 })).put LSY_STAT_up_ok true).lower 33 18
    else h)

/-! ### Requests and reads (R329, R350) -/

/-- W0's write of 1 to LSY_CTRL.recal: a trigger of the head, a RECAL_REQ of a member (R329). -/
def Hub.writeLsyCtrl (h : Hub) (w v : Nat) : Hub :=
  if w == 0 && bitOf v 0 && h.lsyOn then
    if h.isHead then (h.put LSY_CTRL_recal true).calTrigger
    else if h.flag LSY_CTRL_recal then h
    else (h.put LSY_CTRL_recal true).recalAsk 3
  else h

/-- RECAL (R329): a ward writes LSY_CTRL. -/
def execRecal (w : Fin 8) (v : Word) (s : State) : Host.Outcome State Fault Refusal :=
  s.on (fun h => if h.writable w then h.writeLsyCtrl w v.toNat else h)

/-- RECAL_INTERVAL (R329): the interval has passed since the head's last CAL_START, or a member's temperature has moved by its step. -/
def execRecalInterval (s : State) : Host.Outcome State Fault Refusal :=
  s.onLsy (fun h =>
    if h.isHead then (if h.calDue && h.lsy.started then h.calTrigger else h)
    else if h.flag LSY_STAT_cal_valid && 8 * h.rd LSY_CAL_CFG_temp_c ≤ (h.logicTemp - h.lsy.calTemp).natAbs && h.lsyPlaced then
      h.recalAsk 1
    else h)

/-- A W1C write to LSY_STAT by a ward (R350). -/
def Hub.writeLsyStat (h : Hub) (v : Nat) : Hub := if bitOf v 8 then h.put LSY_STAT_ev_late false else h

/-- A read of LSY_RX by a ward: the receiving ward's removes the oldest message (R350). -/
def Hub.readLsyRx (h : Hub) (w : Nat) : Nat × Hub :=
  if h.rd LSY_USER_rx_ward == w then
    match h.lsy.rx with
    | [] => (0, h)
    | m :: rest => (2 ^ 31 + m.src * 2 ^ 21 + m.code * 2 ^ 16 + m.data, h.modLsy (fun x => { x with rx := rest }))
  else (0, h)

/-- LSY_RX_READ (R350). -/
def execLsyRxRead (w : Fin 8) (s : State) : Host.Outcome State Fault Refusal := 
  s.on (fun h => if h.readable w then (h.readLsyRx w).2 else h)

/-! ### Frames on the line (R324) -/

/-- The CRC-8 of a frame's command and payload (R324, R129). -/
def lsyCrc (cmd payload : Nat) : Nat := crc8 (cmd :: beBytes 4 payload)

/-- The start delimiter in units of 40 ns: high for 120 ns, then low for 120 ns. -/
def lsyStart : List Bool := [true, true, true, false, false, false]

/-- Bits, most significant first, in Manchester code, two units of 40 ns each: a 1 rises at mid-bit and a 0 falls. -/
def manchester : List Bool → List Bool
  | [] => []
  | b :: rest => (!b) :: b :: manchester rest

/-- The bits that units in Manchester code carry; none where a bit has no edge at its middle. -/
def unManchester : List Bool → Option (List Bool)
  | [] => some []
  | [_] => none
  | a :: b :: rest => if a == b then none else (unManchester rest).map (b :: ·)

/-- The 48 bits of a frame, most significant first. -/
def LFrame.bits (f : LFrame) : List Bool :=
  let v := f.cmd % 2 ^ 8 * 2 ^ 40 + f.payload % 2 ^ 32 * 2 ^ 8 + lsyCrc (f.cmd % 2 ^ 8) (f.payload % 2 ^ 32)
  (List.range 48).map (fun i => v.testBit (47 - i))

/-- A frame on the line in units of 40 ns, 4.08 µs in all (R324). -/
def LFrame.line (f : LFrame) : List Bool := lsyStart ++ manchester f.bits

/-- The number that bits spell, most significant first. -/
def ofBits (l : List Bool) : Nat := l.foldl (fun m b => 2 * m + b2n b) 0

/-- The 48 bits that the line carries after a start delimiter; none on a coding violation (R324). -/
def lsyBits (start line : List Bool) : Option Nat :=
  if start == lsyStart && line.length == 96 then (unManchester line).map ofBits else none

/-- The command that a valid frame's 48 bits spell is carried out; a frame with a coding violation, a wrong CRC or an unused
command, or of the other way, is discarded and counted (R324, R327). -/
def lsyFrame (up : Bool) (start line : List Bool) (s : State) : Host.Outcome State Fault Refusal :=
  let bad := s.onLsy (fun h => h.count LSY_COUNTS_crc_errors)
  match lsyBits start line with
  | none => bad
  | some bits =>
    let cmd := bitsOf bits 40 8
    let v := bitsOf bits 8 32
    let w := BitVec.ofNat 32 v
    if bits % 2 ^ 8 != lsyCrc cmd v then bad
    else if cmd == 0x30 then execHb up w s
    else if cmd == 0x60 then execUser up w s
    else if up then
      if cmd == 0x01 then execTimeLo w s
      else if cmd == 0x02 then execTimeHi w s
      else if cmd == 0x03 then execEnumMsg w s
      else if cmd == 0x10 then execCalStart w s
      else if cmd == 0x11 then execCalDelay w s
      else if cmd == 0x20 then execMark w s
      else if cmd == 0x31 then execPairClose w s
      else bad
    else if cmd == 0x40 then execPresent w s
    else if cmd == 0x41 then execBreakMsg w s
    else if cmd == 0x42 then execRecalReq w s
    else bad

/-- LSY_FRAME_RECEIVE (R324): the line carries a frame from the upstream or the downstream side, in units of 40 ns: what stands where its start
delimiter is due, and what follows. -/
def execLsyFrameReceive (up : Bool) (start line : List Bool) (s : State) : Host.Outcome State Fault Refusal := lsyFrame up start line s

end Sys2Proof.Machine
end

