-- ==== Sys2Proof/Machine/Tumblers.lean ====
section
/-!
DEFINITION. The commands of the tumblers (chapter 09): the program store, execution, timing sets and cycles, starts, stops and
jumps, vectors on the field die, markers, compare slots and MARCH.

What the spec leaves open here: DEDUCED, log entries 32, 33, 89; DESIGN CHOICE, log entries 34, 81, 96.
-/

namespace Sys2Proof.Machine

/-! ### Heavy turn-ons of a vector (R295) -/

/-- The channels of tumbler `t` that a pattern turns on from 0 to 1 and that are heavy and not in mode 8; one whose safe state is ON moves toward
it and never waits (R295). -/
def Hub.heavyUps (h : Hub) (t pins : Nat) : List Nat :=
  (h.tmbChannels t).filter (fun c =>
    bitOf pins c && !bitOf (h.rd TMB_PATTERN_pins t) c && h.flag OUT_CFG_heavy c && h.mode c != 8 && !h.safeOn c)

/-! ### Instruction words (R279, R282, R283) -/

/-- The opcode of an instruction word. -/
def wOp (w : Nat) : Nat := bitsOf w 59 5
/-- The pattern. -/
def wPins (w : Nat) : Nat := bitsOf w 39 20
/-- The timing set. -/
def wTs (w : Nat) : Nat := bitsOf w 36 3
/-- The markers. -/
def wMk (w : Nat) : Nat := bitsOf w 32 4
/-- The operand. -/
def wArg (w : Nat) : Nat := w % 2 ^ 32

/-- The operand bits that an opcode names (R283, R307). -/
def wNamed (op : Nat) : Nat :=
  match op with
  | 0 => 1 | 1 => 0xFFFFFFFF | 2 => 0xFFFF | 3 => 0 | 4 => 0x3FF | 5 => 0xFF8003FF | 6 => 0xFFFFFFFF | 7 => 0x3FF
  | 8 => 0 | 9 => 0 | 10 => 0xFFFF803F | _ => 0x3FF

/-- Every field that must be 0 in the word is 0 (R283). -/
def wClean (w : Nat) : Bool :=
  let op := wOp w
  (op == 1 || (wPins w == 0 && wMk w == 0)) && (op == 1 || op == 9 || wTs w == 0) && clrMask (wArg w) (wNamed op) == 0

/-- The length of a tumbler's region in words. -/
def Hub.regionLen (h : Hub) (t : Nat) : Nat := h.rd TMB_REGION_len_m1 t + 1

/-- The byte address of the low half of a program address's word. -/
def Hub.progAddr (h : Hub) (t a : Nat) : Nat := dpAddr (h.rd TMB_REGION_bank t) (2 * (h.rd TMB_REGION_base t + a))

/-- The instruction word at a program address, inside the region. -/
def Hub.progWord (h : Hub) (t a : Nat) : Nat := h.memWord (h.progAddr t a) + h.memWord (h.progAddr t a + 4) * 2 ^ 32

/-! ### Program errors (R299) -/

/-- A program error stops the tumbler with hold: TMB_ERR, state 5, TMB_PROG. -/
def Hub.tmbError (h : Hub) (t code addr : Nat) : Hub :=
  let h := h.tmbStop t 3 false
  let h := ((h.wr TMB_ERR_addr addr t).wr TMB_ERR_code code t).wr TMB_STAT_state 5 t
  h.raise 30 t (2 ^ ((h.tmbOwner t).getD 0)) detailOpen

/-! ### Cycles (R289 to R291, R296) -/

/-- The period of a timing set in fine ticks. -/
def Hub.tsPeriod (h : Hub) (ts : Nat) : Nat := h.rd TMB_TS_PERIOD_period ts

/-- The timing set of a cycle of WAIT, MARCH or a stall: the current set, or the one TSET has named (R289, R290). -/
def Hub.tsNow (h : Hub) (t : Nat) : Nat :=
  if h.rd TMB_CFG_mode t == 0 then h.rd TMB_CFG_ts_sample t else ((h.tmb t).tsNext).getD (h.rd TMB_STAT_ts_now t)

/-- The timing set fits the pins the tumbler can drive (R291). -/
def Hub.tsFits (h : Hub) (t ts : Nat) : Bool :=
  let p := h.tsPeriod ts
  !h.drivesField t || (p % 80 == 0 && 800 ≤ p && p ≤ 52428000)

/-- The logic die sends a VEC frame for the next cycle (R296). -/
def Hub.sendVec (h : Hub) (t pins marks ts : Nat) : Hub :=
  h.sendL { typ := 0x80 + t, payload := vecPayload pins marks ts ((h.tmb t).cycleAt / 8), prio := 3 }

/-- The next cycle is issued: pattern, markers, timing set, the state shown, and whether a VEC frame goes out with it; a timing
set unfit for field pins is a program error (R291). -/
def Hub.issue (h : Hub) (t addr pins marks ts state : Nat) (frame : Bool) : Hub :=
  if !h.tsFits t ts then h.tmbError t 8 addr
  else
    let change := ts != h.rd TMB_STAT_ts_now t
    let h := h.modTmb t (fun x => { x with issued := some (pins, marks, ts), tsNext := none, zeros := 0 })
    let h := (h.wr TMB_STAT_state state t).wr TMB_STAT_pc addr t
    if frame || marks != 0 || change then h.sendVec t pins marks ts else h

/-- A cycle in which the pattern holds and no marker rises (R285). -/
def Hub.holdCycle (h : Hub) (t addr state : Nat) : Hub :=
  h.issue t addr (h.rd TMB_PATTERN_pins t) 0 (h.tsNow t) state false

/-- The tumbler goes on at `next` after a zero-cycle instruction at `addr`; more than 16 in a row are an error (R284). -/
def Hub.zeroCycle (h : Hub) (t addr next : Nat) : Hub × Bool :=
  if 16 ≤ (h.tmb t).zeros then (h.tmbError t 5 addr, false)
  else ((h.modTmb t (fun x => { x with next := next, zeros := x.zeros + 1 })).wr TMB_STAT_pc addr t, true)

/-- A jump to a target inside the region, after the change `f` of the stacks (R299). -/
def Hub.branch (h : Hub) (t addr target : Nat) (f : Tmb → Tmb) : Hub × Bool :=
  if h.regionLen t ≤ target then (h.tmbError t 3 addr, false) else (h.modTmb t f).zeroCycle t addr target

/-! ### Conditions (R288) -/

/-- A condition is evaluated: its value and the hub with a latch it read as set cleared, or the code of a program error. -/
def Hub.tmbCond (h : Hub) (t sel : Nat) : Except Nat (Bool × Hub) :=
  let latch := fun (f : Fld) (b : Nat) =>
    let v := h.rd f t
    (bitOf v b, h.wr f (clrBit v b) t)
  if sel < 0x10 then
    if h.isIn sel && h.chOwner sel == h.tmbOwner t then .ok (h.flag IN_STAT_state sel, h) else .error 6
  else if sel < 0x14 then
    if h.flag TMB_AUX_MAP_dir (sel - 0x10) then .error 6 else .ok ((vget h.aux (sel - 0x10) {}).input, h)
  else if 0x20 ≤ sel && sel < 0x40 then .ok (latch TMB_MKSEEN_seen (sel - 0x20))
  else if 0x40 ≤ sel && sel < 0x48 then
    let v := (h.tmb t).lsyLatch
    .ok (bitOf v (sel - 0x40), h.modTmb t (fun x => { x with lsyLatch := clrBit v (sel - 0x40) }))
  else if 0x50 ≤ sel && sel < 0x60 then
    let j := sel - 0x50
    if some (h.rd TMB_CMP_CFG_ward j) == h.tmbOwner t then .ok (h.flag TMB_CMP_CFG_en j && h.flag TMB_CMP_STAT_state j, h)
    else .error 6
  else if sel == 0x7F then .ok (true, h)
  else .error 2

/-! ### MARCH (R307 to R310) -/

/-- One step of a Galois register of a width with a mask. -/
def galois (mask s : Nat) : Nat := if s.testBit 0 then (s / 2) ^^^ mask else s / 2

/-- `n` successive states of a Galois register, from `s` on. -/
def galoisList (mask : Nat) : Nat → Nat → List Nat
  | 0, _ => []
  | n + 1, s => s :: galoisList mask n (galois mask s)

/-- The addresses of an element in order (R308). -/
def marchAddrs (gen seed : Nat) : List Nat :=
  match gen with
  | 0 => List.range 4096
  | 1 => (List.range 4096).reverse
  | 2 => (List.range 4096).map (fun i => if i % 2 == 0 then i / 2 else 4095 - i / 2)
  | 3 => (List.range 4096).map (fun i => i ^^^ (i / 2))
  | 4 =>
    let s := if seed % 2 ^ 16 == 0 then 1 else seed % 2 ^ 16
    0 :: (galoisList 0xB400 65535 s).filter (fun x => decide (x < 4096))
  | _ => (List.range 4096).map (fun i => 64 * (i % 64) + i / 64)

/-- The datum at each address, in order of address (R308). -/
def marchData (gen seed : Nat) : List Nat :=
  let at_ := fun (f : Nat → Nat) => (List.range 4096).map f
  match gen with
  | 0 => at_ (fun _ => 0)
  | 1 => at_ (fun a => if (a / 64 + a % 64) % 2 == 0 then 0x55555555 else 0xAAAAAAAA)
  | 2 => at_ (fun a => if a % 2 == 0 then 0 else 0xFFFFFFFF)
  | 3 => at_ (fun a => a * 2 ^ 16 ||| a)
  | 4 => (galoisList 0x80200003 4097 (if seed == 0 then 1 else seed)).drop 1
  | _ => at_ (fun a => 2 ^ (a % 32))

/-- The run of an element: the bank's words, the words that hold an uncorrectable error, the failing addresses newest first. -/
structure MarchState where
  words : Array Nat
  bad : List Nat
  fails : List Nat
  deriving DecidableEq, Repr

/-- One operation of an element at an address: r0, r1, w0, w1 (R307). An erroneous codeword fails every comparison. -/
def marchOp (data : Array Nat) (a : Nat) (s : MarchState) (op : Nat) : MarchState :=
  let d := data.getD a 0
  let v := if op % 2 == 0 then d else d ^^^ 0xFFFFFFFF
  if 2 ≤ op then { s with words := s.words.setIfInBounds a v, bad := s.bad.filter (· != a) }
  else if s.words.getD a 0 == v && !s.bad.contains a then s
  else { s with fails := a :: s.fails }

/-- The operations of an element, first to last. -/
def marchOps (arg : Nat) : List Nat := (List.range (bitsOf arg 22 2 + 1)).map (fun i => bitsOf arg (24 + 2 * i) 2)

/-- The words of a bank. -/
def Hub.bankWords (h : Hub) (b : Nat) : Array Nat :=
  let lo := bankAddr b 0
  h.mem.foldl (fun a c =>
    if lo ≤ c.1 && c.1 < lo + 0x4000 then
      let i := (c.1 - lo) / 4
      a.setIfInBounds i (a.getD i 0 + c.2.toNat * 256 ^ ((c.1 - lo) % 4))
    else a) (Array.replicate 4096 0)

/-- The cells of a list of bytes from an address up, those that read 0 left out. -/
def cellsOf : Nat → List Nat → List Host.Cell
  | _, [] => []
  | a, b :: rest => if b % 256 = 0 then cellsOf (a + 1) rest else (a, BitVec.ofNat 8 b) :: cellsOf (a + 1) rest

/-- The hub with every word of a bank replaced. -/
def Hub.setBankWords (h : Hub) (b : Nat) (words : List Nat) : Hub :=
  let lo := bankAddr b 0
  { h with mem := h.mem.filter (fun c => decide (c.1 < lo)) ++ cellsOf lo (words.flatMap (leBytes 4)) ++
      h.mem.filter (fun c => decide (lo + 0x4000 ≤ c.1)) }

/-- The CRC-32 of TMB_MARCH_SIG with a failing address fed in, 2 bytes, least significant first (R309). -/
def marchSig (sig a : Nat) : Nat :=
  crc32Byte (crc32Byte (sig ^^^ 0xFFFFFFFF) (a % 256)) (a / 256) ^^^ 0xFFFFFFFF

/-- A running element ends: the bank's words, and the failing comparisons in the result registers (R309). -/
def Hub.marchEnd (h : Hub) (t : Nat) : Hub :=
  match (h.tmb t).march with
  | none => h
  | some m =>
    let seed := h.rd TMB_MARCH_SEED_seed t
    let data := (marchData (bitsOf m.operand 16 3) seed).toArray
    let lo := bankAddr m.bank 0
    let bad := (List.range 4096).filter (fun i => h.isBad (lo + 4 * i))
    let s := (marchAddrs (bitsOf m.operand 19 3) seed).foldl (fun s a => (marchOps m.operand).foldl (marchOp data a) s)
      { words := h.bankWords m.bank, bad := bad, fails := [] }
    let h := h.setBankWords m.bank s.words.toList
    let h := { h with bad := h.bad.filter (fun a => !(decide (lo ≤ a) && decide (a < lo + 0x4000))) ++ s.bad.map (fun i => lo + 4 * i) }
    let h := h.modTmb t (fun x => { x with march := none })
    let fails := s.fails.reverse
    let h := match fails with
      | [] => h
      | a :: _ => if h.flag TMB_MARCH_FIRST_valid t then h else (h.put TMB_MARCH_FIRST_valid true t).wr TMB_MARCH_FIRST_addr a t
    (h.count TMB_MARCH_CNT_count fails.length t).wr TMB_MARCH_SIG_sig (fails.foldl marchSig (h.rd TMB_MARCH_SIG_sig t)) t

/-- A MARCH instruction begins its element (R307, R310): it occupies the whole cycles of the current set that it needs. -/
def Hub.marchStart (h : Hub) (t addr arg : Nat) : Hub :=
  let bank := arg % 64
  if 6 ≤ bitsOf arg 19 3 || 6 ≤ bitsOf arg 16 3 then h.tmbError t 2 addr
  else if 48 ≤ bank || h.rd BNK_OWNER_owner bank != 0x10 + t then h.tmbError t 7 addr
  else
    let h := if bitOf arg 15 then
        let h := (h.put TMB_MARCH_FIRST_valid false t).wr TMB_MARCH_FIRST_addr 0 t
        (h.wr TMB_MARCH_SIG_sig 0 t).wr TMB_MARCH_CNT_count 0 t
      else h
    let clocks := 4096 * (bitsOf arg 22 2 + 1) + (if bitsOf arg 19 3 == 4 then 61440 else 0)
    let p := max 1 (h.tsPeriod (h.tsNow t))
    let h := h.modTmb t (fun x => { x with
      march := some { bank := bank, operand := arg }, remain := (8 * clocks + p - 1) / p - 1, next := addr + 1 })
    h.holdCycle t addr 2

/-! ### One instruction (R283 to R287) -/

/-- A VEC (R284, R285, R295): its first cycle is issued, or the tumbler stalls for a cycle until the heavy vector is
admitted. -/
def Hub.execVecWord (h : Hub) (t addr w : Nat) : Hub :=
  let x := h.tmb t
  let n := wArg w % 2 ^ 31
  let ups := h.heavyUps t (wPins w)
  if n == 0 then h.tmbError t 2 addr
  else if !ups.isEmpty && !x.heavyOk then
    let h := if x.heavyAsked then h
      else (h.modTmb t (fun x => { x with heavyAsked := true })).submit
        { kind := .heavyVec, ref := t, ward := (h.tmbOwner t).getD 8, cls := 0, chs := chMap (ups.flatMap h.chSet), heavy := true
          instant := some (x.cycleAt / 8) }
    (h.count TMB_STALLS_stalls 1 t).holdCycle t addr 4
  else
    let ts := if h.rd TMB_CFG_mode t == 0 then h.rd TMB_CFG_ts_sample t else wTs w
    let h := h.modTmb t (fun x => { x with
      remain := n - 1, vecMk := wMk w, mkEach := bitOf (wArg w) 31, next := addr + 1, heavyOk := false, heavyAsked := false })
    h.issue t addr (wPins w) (wMk w) ts 2 true

/-- The next cycle starts at the instant E of a sync-kind event on which a WAIT has ended (R335). -/
def Hub.realign (h : Hub) (t sel : Nat) : Hub :=
  if 0x40 ≤ sel && sel < 0x48 && h.rd LSY_EV_CFG_kind (sel - 0x40) == 1 then
    match vget h.lsy.evAt (sel - 0x40) none with
    | none => h
    | some e => if h.clk.tb + 200 ≤ e then h.modTmb t (fun x => { x with cycleAt := 8 * e }) else h.put LSY_STAT_ev_late true
  else h

/-- A WAIT at a vector boundary (R287): it ends, times out, or takes a cycle. -/
def Hub.execWaitWord (h : Hub) (t addr arg : Nat) : Hub × Bool :=
  let x := h.tmb t
  let waited := if x.waitAt == some addr then x.waited else 0
  match h.tmbCond t (bitsOf arg 24 8) with
  | .error code => (h.tmbError t code addr, false)
  | .ok (v, h) =>
    if v != bitOf arg 23 then
      let h := h.modTmb t (fun x => { x with waitAt := none, waited := 0, next := addr + 2 })
      let h := if bitOf arg 23 then h else h.realign t (bitsOf arg 24 8)
      (h.wr TMB_STAT_pc addr t, true)
    else if arg % 2 ^ 23 != 0 && arg % 2 ^ 23 ≤ waited then
      ((h.modTmb t (fun x => { x with waitAt := none, waited := 0, next := addr + 1 })).wr TMB_STAT_pc addr t, true)
    else ((h.modTmb t (fun x => { x with waitAt := some addr, waited := waited + 1 })).holdCycle t addr 3, false)

/-- SIG (R283): the code, the Note record and the ward's interrupt. -/
def Hub.execSigWord (h : Hub) (t addr arg : Nat) : Hub × Bool :=
  let p := h.zeroCycle t addr (addr + 1)
  if !p.2 then p
  else
    let h := (p.1.wr TMB_SIG_code (arg % 256) t).count TMB_SIG_count 1 t
    let h := if bitOf arg 9 then h.note 0x2B 0x46 sevNote 4 [t + (arg % 256) * 2 ^ 8 + addr * 2 ^ 16] else h
    (if bitOf arg 8 then h.intOwner (h.tmbOwner t) (8 + t) else h, true)

/-- An instruction word that has passed the checks of its fields. The truth value says that the tumbler goes on with the next
instruction at the same boundary. -/
def Hub.execWord (h : Hub) (t addr w : Nat) : Hub × Bool :=
  let x := h.tmb t
  let arg := wArg w
  match wOp w with
  | 0 => ((h.wr TMB_STAT_pc addr t).tmbStop t 1 (bitOf arg 0), false)
  | 1 => (h.execVecWord t addr w, false)
  | 2 =>
    if arg % 2 ^ 16 == 0 then (h.tmbError t 2 addr, false)
    else if 4 ≤ x.loops.length then (h.tmbError t 4 addr, false)
    else (h.modTmb t (fun x => { x with loops := (arg % 2 ^ 16, addr + 1) :: x.loops })).zeroCycle t addr (addr + 1)
  | 3 =>
    match x.loops with
    | [] => (h.tmbError t 4 addr, false)
    | (n, a) :: rest =>
      if 1 < n then (h.modTmb t (fun x => { x with loops := (n - 1, a) :: rest })).zeroCycle t addr a
      else (h.modTmb t (fun x => { x with loops := rest })).zeroCycle t addr (addr + 1)
  | 4 => h.branch t addr (arg % 2 ^ 10) id
  | 5 =>
    match h.tmbCond t (bitsOf arg 24 8) with
    | .error code => (h.tmbError t code addr, false)
    | .ok (v, h) => if v != bitOf arg 23 then h.branch t addr (arg % 2 ^ 10) id else h.zeroCycle t addr (addr + 1)
  | 6 => h.execWaitWord t addr arg
  | 7 =>
    if 4 ≤ x.calls.length then (h.tmbError t 4 addr, false)
    else h.branch t addr (arg % 2 ^ 10) (fun x => { x with calls := (addr + 1) :: x.calls })
  | 8 =>
    match x.calls with
    | [] => (h.tmbError t 4 addr, false)
    | a :: rest => (h.modTmb t (fun x => { x with calls := rest })).zeroCycle t addr a
  | 9 =>
    if h.rd TMB_CFG_mode t == 0 then (h.tmbError t 2 addr, false)
    else (h.modTmb t (fun x => { x with tsNext := some (wTs w) })).zeroCycle t addr (addr + 1)
  | 10 => (h.marchStart t addr arg, false)
  | _ => h.execSigWord t addr arg

/-- The next instruction fetched and executed (R279, R284, R299, R461). -/
def Hub.tmbOne (h : Hub) (t : Nat) : Hub × Bool :=
  let addr := (h.tmb t).next
  if h.regionLen t ≤ addr || 1024 ≤ h.rd TMB_REGION_base t + addr then (h.tmbError t 3 addr, false)
  else
    let a := h.progAddr t addr
    if h.isBad a || h.isBad (a + 4) then
      let d := h.rd TMB_REGION_bank t
      let w := 2 * (h.rd TMB_REGION_base t + addr) + (if h.isBad a then 0 else 1)
      ((h.ueFound (48 + d) w).tmbError t 1 addr, false)
    else
      let w := h.progWord t addr
      if 12 ≤ wOp w then (h.tmbError t 1 addr, false)
      else if !wClean w then (h.tmbError t 2 addr, false)
      else h.execWord t addr w

/-! ### Vector boundaries (R284, R293, R294) -/

/-- A vector boundary before any instruction: a stop or jump request is taken, a lost link stops a tumbler with a field pin, a
VEC or an element in force goes on. The truth value says that an instruction is to be executed. -/
def Hub.boundary (h : Hub) (t : Nat) : Hub × Bool :=
  let x := h.tmb t
  if !h.tmbRuns t || x.issued.isSome || h.dev.phase != .up || h.dev.halt.isSome then (h, false)
  else if !h.hinge.upL && h.drivesField t then (h.tmbStop t 7 false, false)
  else
    match x.stopReq with
    | some rel => (h.tmbStop t 2 rel, false)
    | none =>
      match x.jumpReq with
      | some a =>
        let h := (h.marchAbandon t).dropCand (fun c => c.kind == .heavyVec && c.ref == t)
        let h := h.modTmb t (fun x => { x with
          remain := 0, loops := [], calls := [], next := a, jumpReq := none, march := none, waitAt := none, waited := 0
          heavyAsked := false, heavyOk := false })
        ((h.put TMB_CTRL_jump false t).tmbRetire t a, true)
      | none =>
        if x.remain == 0 then (h.marchEnd t, true)
        else
          let h := h.modTmb t (fun x => { x with remain := x.remain - 1 })
          let addr := h.rd TMB_STAT_pc t
          if x.march.isSome then (h.holdCycle t addr 2, false)
          else
            (h.issue t addr (h.rd TMB_PATTERN_pins t) (if x.mkEach then x.vecMk else 0) (h.rd TMB_STAT_ts_now t) 2 false, false)

/-- Instructions executed in a row until one takes a cycle, at most `n`. -/
def Hub.tmbRun (h : Hub) (t : Nat) : Nat → Hub
  | 0 => h
  | n + 1 =>
    let p := h.tmbOne t
    if p.2 then p.1.tmbRun t n else p.1

/-- ISSUE_POINT (R284): more instructions in a row than this end in a program error or leave the region. -/
def execIssuePoint (t : Fin 8) (s : State) : Host.Outcome State Fault Refusal :=
  s.on (fun h =>
    let p := h.boundary t
    if p.2 then p.1.tmbRun t 1100 else p.1)

/-- The instruction that a tumbler comes to at its vector boundary, where it is of one opcode, and satisfies `p`, executed
alone. -/
def Hub.tmbInstr (h : Hub) (t op : Nat) (p : Hub → Nat → Bool) : Hub :=
  let b := h.boundary t
  let w := b.1.progWord t (b.1.tmb t).next
  if b.2 && wOp w == op && p b.1 w then (b.1.tmbOne t).1 else h

/-- STOP (R283). -/
def execStop (t : Fin 8) (s : State) : Host.Outcome State Fault Refusal := s.on (fun h => h.tmbInstr t 0 (fun _ _ => true))

/-- VEC_INSTRUCTION (R284). -/
def execVecInstruction (t : Fin 8) (s : State) : Host.Outcome State Fault Refusal :=
  s.on (fun h => h.tmbInstr t 1 (fun _ _ => true))

/-- LOOP (R286). -/
def execLoop (t : Fin 8) (s : State) : Host.Outcome State Fault Refusal := s.on (fun h => h.tmbInstr t 2 (fun _ _ => true))

/-- ENDL (R286). -/
def execEndl (t : Fin 8) (s : State) : Host.Outcome State Fault Refusal := s.on (fun h => h.tmbInstr t 3 (fun _ _ => true))

/-- JMP (R283). -/
def execJmp (t : Fin 8) (s : State) : Host.Outcome State Fault Refusal := s.on (fun h => h.tmbInstr t 4 (fun _ _ => true))

/-- BRC (R287). -/
def execBrc (t : Fin 8) (s : State) : Host.Outcome State Fault Refusal := s.on (fun h => h.tmbInstr t 5 (fun _ _ => true))

/-- WAIT (R287). -/
def execWait (t : Fin 8) (s : State) : Host.Outcome State Fault Refusal := s.on (fun h => h.tmbInstr t 6 (fun _ _ => true))

/-- WAIT_TIMEOUT (R287): the WAIT in force has waited as many cycles as its timeout names. -/
def execWaitTimeout (t : Fin 8) (s : State) : Host.Outcome State Fault Refusal :=
  s.on (fun h => h.tmbInstr t 6 (fun h w =>
    let x := h.tmb t
    x.waitAt == some x.next && wArg w % 2 ^ 23 != 0 && decide (wArg w % 2 ^ 23 ≤ x.waited)))

/-- CALL (R286). -/
def execCall (t : Fin 8) (s : State) : Host.Outcome State Fault Refusal := s.on (fun h => h.tmbInstr t 7 (fun _ _ => true))

/-- RET (R286). -/
def execRet (t : Fin 8) (s : State) : Host.Outcome State Fault Refusal := s.on (fun h => h.tmbInstr t 8 (fun _ _ => true))

/-- TSET (R290). -/
def execTset (t : Fin 8) (s : State) : Host.Outcome State Fault Refusal := s.on (fun h => h.tmbInstr t 9 (fun _ _ => true))

/-- MARCH (R307). -/
def execMarch (t : Fin 8) (s : State) : Host.Outcome State Fault Refusal := s.on (fun h => h.tmbInstr t 10 (fun _ _ => true))

/-- SIG (R283). -/
def execSig (t : Fin 8) (s : State) : Host.Outcome State Fault Refusal := s.on (fun h => h.tmbInstr t 11 (fun _ _ => true))

/-- HEAVY_VECTOR_STALL (R295): a heavy vector that is not admitted holds the pattern for a cycle. -/
def execHeavyVectorStall (t : Fin 8) (s : State) : Host.Outcome State Fault Refusal :=
  s.on (fun h => h.tmbInstr t 1 (fun h w => !(h.heavyUps t (wPins w)).isEmpty && !(h.tmb t).heavyOk))

/-! ### Cycle starts, AUX pins and markers (R285, R290, R291, R298, R304) -/

/-- The edges of an AUX pin in a cycle that starts at `s8`, by its format (R290): its level at the cycle start and what
follows. -/
def auxEdges (fmt : Nat) (bit was : Bool) (s8 on off : Nat) : Bool × List (Nat × Bool) :=
  match fmt with
  | 0 => (was, [(s8 + on, bit)])
  | 1 => if bit then (false, [(s8 + on, true), (s8 + off, false)]) else (false, [])
  | _ => if bit then (true, []) else (true, [(s8 + on, false), (s8 + off, true)])

/-- An AUX output's level once its last edge of the cycle has passed. -/
def Aux.final (a : Aux) : Bool := match a.edges.getLast? with | some e => e.2 | none => a.out

/-- The AUX pins of a tumbler at a cycle start; the trim of R332 shifts every edge. -/
def Hub.auxCycle (h : Hub) (t pins marks ts s8 period : Nat) : Hub :=
  forAll (List.range 4) (fun h i =>
    if !h.flag TMB_AUX_MAP_dir i || h.rd TMB_AUX_MAP_tmb i != t then h
    else
      let a := vget h.aux i {}
      let trim := toSigned 8 (h.rd LSY_ALIGN_ERR_trim)
      let move := fun (l : List (Nat × Bool)) => l.map (fun e => (addFine e.1 trim, e.2))
      let new := if h.flag TMB_AUX_MAP_kind i then
          let rise := bitOf marks (h.rd TMB_AUX_MAP_mk i)
          (rise, if rise then [(s8 + min (h.rd TMB_AUX_MAP_width i) period, false)] else [])
        else if h.rd TMB_CFG_mode t == 0 then (bitOf pins (16 + i), [])
        else auxEdges (bitsOf (h.rd TMB_TS_FMT_HI_fmt_aux ts) (2 * i) 2) (bitOf pins (16 + i)) a.final s8
          (h.rd (TMB_TS_ASSERT_assert (16 + i)) ts) (h.rd (TMB_TS_RELEASE_release (16 + i)) ts)
      { h with aux := vset h.aux i { a with out := new.1, edges := move new.2 } }) h

/-- The level of an AUX output at an instant in fine ticks: that of its last edge up to it (R112, R291). -/
def Aux.level (a : Aux) (now8 : Nat) : Bool :=
  match (a.edges.filter (fun e => decide (e.1 ≤ now8))).getLast? with | some e => e.2 | none => a.out

/-- The level of an AUX output in the present state: idle while its tumbler is stopped with release, PD_SEQ is off, and in
*Halt* and *Test* (R304). -/
def Hub.auxLevel (h : Hub) (i : Nat) : Bool :=
  let t := h.rd TMB_AUX_MAP_tmb i
  let rest := ((h.tmb t).released && !h.tmbRuns t) || !bitOf h.sup.on 3 || h.dev.halt.isSome || h.state == .test
  if rest then h.flag TMB_AUX_MAP_idle i else (vget h.aux i {}).level (8 * h.clk.tb)

/-- A marker rises at a cycle start: the latches of every tumbler, the Trace record, Luanen sync, the deadline (R298, R301). -/
def Hub.markerRise (h : Hub) (t k addr start : Nat) : Hub :=
  let h := forAll (List.range 8) (fun h u => h.wr TMB_MKSEEN_seen (setBit (h.rd TMB_MKSEEN_seen u) (4 * t + k)) u) h
  let h := if bitOf (h.rd TMB_MK_ROUTE_rec t) k then h.note 0x2A 0x46 sevTrace 4 [t + k * 2 ^ 4 + addr * 2 ^ 16] else h
  let h := if bitOf (h.rd TMB_MK_ROUTE_lsy t) k then h.markSend t k start else h
  if h.flag TMB_DL_en t && h.rd TMB_DL_mk t == k then h.modTmb t (fun x => { x with dlFrom := some h.clk.now }) else h

/-- The issued cycle starts (R291). -/
def Hub.cycleStart (h : Hub) (t : Nat) : Hub :=
  let x := h.tmb t
  match x.issued with
  | none => h
  | some (pins, marks, ts) =>
    let s8 := x.cycleAt
    let period := h.tsPeriod ts
    let first := h.rd TMB_CYCLES_count t == 0
    let h := h.modTmb t (fun x => { x with
      issued := none, cycleAt := (s8 + period) % 2 ^ 67, dlFrom := if first then some h.clk.now else x.dlFrom })
    let h := ((h.wr TMB_PATTERN_pins pins t).wr TMB_PATTERN_mk marks t).wr TMB_STAT_ts_now ts t
    let h := (h.countMod TMB_CYCLES_count 1 t).auxCycle t pins marks ts s8 period
    forAll (bitList 4 marks) (fun h k => h.markerRise t k (h.rd TMB_STAT_pc t) (s8 / 8)) h

/-- CYCLE_START (R291). -/
def execCycleStart (t : Fin 8) (s : State) : Host.Outcome State Fault Refusal :=
  s.on (fun h => if h.tmbRuns t then h.cycleStart t else h)

/-- The supervised marker of tumbler `t` is late: its limit of 100 µs units has passed since the first cycle start, or since its last rise
(R301). -/
def Hub.dlPassed (h : Hub) (t : Nat) : Bool :=
  match (h.tmb t).dlFrom with
  | none => false
  | some u => h.flag TMB_DL_en t && decide (u + h.rd TMB_DL_limit t * 100 * Config.ticksPerUs ≤ h.clk.now)

/-- DEADLINE_MISS (R301): the supervised marker has not risen within its limit; the interval restarts at its next rise. -/
def execDeadlineMiss (t : Fin 8) (s : State) : Host.Outcome State Fault Refusal :=
  s.on (fun h =>
    if h.tmbRuns t && h.dlPassed t && !h.proofHides 31 t then
      (h.modTmb t (fun x => { x with dlFrom := none })).event 31 (2 ^ ((h.tmbOwner t).getD 0)) detailOpen
    else h)

/-! ### Starts, stops and jumps (R292, R293, R315, R320) -/

/-- The pattern of the first vector of a program from an entry, as far as it does not hang on a condition (R292). -/
def Hub.firstVec (h : Hub) (t : Nat) : Nat → Nat → Nat
  | 0, _ => 0
  | n + 1, a =>
    if h.regionLen t ≤ a then 0
    else
      let w := h.progWord t a
      match wOp w with
      | 1 => wPins w
      | 2 => h.firstVec t n (a + 1)
      | 4 => h.firstVec t n (wArg w % 2 ^ 10)
      | 7 => h.firstVec t n (wArg w % 2 ^ 10)
      | 9 => h.firstVec t n (a + 1)
      | 11 => h.firstVec t n (a + 1)
      | _ => 0

/-- A start request (R292): the tumbler turns pending and asks for admission; what it needs of domains that are off is woken
first (R320). The answer says whether the request was taken. -/
def Hub.tmbStartReq (h : Hub) (t entry : Nat) (slot : Option Nat := none) : Hub × Bool :=
  if h.tmbRuns t || h.tmbState t == 1 || (h.tmbOwner t).isNone then (h, false)
  else
    let ups := h.heavyUps t (h.firstVec t 17 entry)
    let h := (h.lower 30 t).wr TMB_STAT_state 1 t
    let h := h.modTmb t (fun x => { x with entry := entry % 1024, startSlot := slot, startOk := false })
    let h := (h.wantDomain 3).wantDomain 5
    (h.submit { kind := .tmbStart, ref := t, ward := (h.tmbOwner t).getD 8, cls := 1, chs := chMap (ups.flatMap h.chSet)
                pvf := 10 * h.rd TMB_COST_mw10 t, heavy := !ups.isEmpty }, true)

/-- The start is admitted (R292): the first cycle starts at the first multiple of 10 ticks at least 2.0 µs ahead. With it are admitted the heavy
turn-ons of the first vector, where the entry leads to one. The current timing set before any VEC or TSET is TMB_CFG.ts_sample (log entry 32). -/
def Hub.tmbAdmit (h : Hub) (t : Nat) : Hub :=
  if h.tmbState t != 1 then h
  else
    let start := (h.clk.tb + 200 + 9) / 10 * 10
    let e := (h.tmb t).entry
    let known := !(h.heavyUps t (h.firstVec t 17 e)).isEmpty
    let slot := (h.tmb t).startSlot
    let h := h.modTmb t (fun x => { x with
      loops := [], calls := [], remain := 0, waitAt := none, waited := 0, next := e, issued := none, cycleAt := 8 * start
      tsNext := none, heavyAsked := false, heavyOk := known, released := false, dlFrom := none, zeros := 0, startSlot := none, startOk := true })
    let h := (((h.wr TMB_MKSEEN_seen 0 t).wr TMB_CYCLES_count 0 t).wr TMB_STAT_state 2 t).wr TMB_STAT_pc e t
    let h := (h.put TMB_CTRL_start false t).wr TMB_STAT_ts_now (h.rd TMB_CFG_ts_sample t) t
    match slot with
    | some s =>
      if h.eng.ops.any (fun o => o.slot == s && bitsOf o.field 0 2 == 2) then h.retire s 0 e
      else h.retire s 0 (start % 2 ^ 32) (start / 2 ^ 32 % 2 ^ 32)
    | none => h

/-- A stop request (R293): taken at the next vector boundary; a pending start is cancelled at once. -/
def Hub.tmbStopReq (h : Hub) (t : Nat) (rel : Bool) : Hub × Bool :=
  if h.tmbState t == 1 then (h.tmbStop t 2 rel, true)
  else if h.tmbRuns t then (h.modTmb t (fun x => { x with stopReq := some rel }), true)
  else (h.put TMB_CTRL_stop false t, false)

/-- A jump request (R293): taken at the next vector boundary; a stopped tumbler is started, a pending one takes the entry. -/
def Hub.tmbJumpReq (h : Hub) (t a : Nat) (slot : Option Nat := none) : Hub × Bool :=
  if h.tmbRuns t then (h.modTmb t (fun x => { x with jumpReq := some (a % 1024) }), true)
  else if h.tmbState t == 1 then ((h.modTmb t (fun x => { x with entry := a % 1024 })).put TMB_CTRL_jump false t, true)
  else
    let p := h.tmbStartReq t a slot
    (p.1.put TMB_CTRL_jump false t, p.2)

/-- A write of TMB_CTRL is allowed: by the owning ward, and in *Safe* only where it starts no tumbler (R321, check 10 of
R363). -/
def Hub.tmbCtrlOk (h : Hub) (w t v : Nat) : Bool :=
  let starts := bitOf v 0 || (bitOf v 2 && !h.tmbRuns t)
  h.writable w && h.tmbOwner t == some w && !(h.state == .safe && starts)

/-- The owning ward's write to TMB_CTRL (R292, R293): with several requests in one write the stop is taken before the jump and
the jump before the start. -/
def Hub.writeTmbCtrl (h : Hub) (t v : Nat) : Hub :=
  let a := bitsOf v 16 10
  let h := (h.wr TMB_CTRL_addr a t).put TMB_CTRL_release (bitOf v 3) t
  let h := if bitOf v 1 then ((h.put TMB_CTRL_stop true t).tmbStopReq t (bitOf v 3)).1 else h
  let h := if bitOf v 2 then ((h.put TMB_CTRL_jump true t).tmbJumpReq t a).1 else h
  if bitOf v 0 then
    let p := h.tmbStartReq t a
    p.1.put TMB_CTRL_start p.2 t
  else h

/-- TMB_START (R292): a ward writes TMB_CTRL. -/
def execTmbStart (w t : Fin 8) (v : Word) (s : State) : Host.Outcome State Fault Refusal :=
  s.on (fun h => if h.tmbCtrlOk w t v.toNat then h.writeTmbCtrl t v.toNat else h)

/-- TMB_STOP (R293): a ward writes TMB_CTRL. -/
def execTmbStop (w t : Fin 8) (v : Word) (s : State) : Host.Outcome State Fault Refusal :=
  s.on (fun h => if h.tmbCtrlOk w t v.toNat then h.writeTmbCtrl t v.toNat else h)

/-- TMB_JUMP (R293): a ward writes TMB_CTRL. -/
def execTmbJump (w t : Fin 8) (v : Word) (s : State) : Host.Outcome State Fault Refusal :=
  s.on (fun h => if h.tmbCtrlOk w t v.toNat then h.writeTmbCtrl t v.toNat else h)

/-! ### Vectors on the field die (R290, R291, R296, R297) -/

/-- The level of pin `c` at an offset into a cycle: its pattern bit in sample-clock mode, else by its format, with field offsets
rounded down to 80 fine ticks (R112, R289, R290). -/
def Hub.fieldLevel (h : Hub) (t c off : Nat) (was : Bool) : Bool :=
  let v := vget h.hinge.vecs t {}
  let bit := bitOf v.pins c
  if h.frd TMB_CFG_mode t == 0 then bit
  else
    let fmt := bitsOf (h.frd TMB_TS_FMT_LO_fmt_ch v.ts) (2 * c) 2
    let on := h.frd (TMB_TS_ASSERT_assert c) v.ts / 80 * 80
    let rel := h.frd (TMB_TS_RELEASE_release c) v.ts / 80 * 80
    let inside := decide (on ≤ off) && decide (off < rel)
    match fmt with
    | 0 => if on ≤ off then bit else was
    | 1 => bit && inside
    | _ => bit || !inside

/-- The vector in force of a tumbler applied to the channels it sources at an offset into the cycle, and the requests for test
pulses that have ended (R202, R232, R317). -/
def Hub.applyVec (h : Hub) (t off : Nat) : Hub :=
  let v := vget h.hinge.vecs t {}
  forAll (List.range 16) (fun h c =>
    let l := h.fLead c
    let h := if h.frd OUT_TP_tmb l == t && !bitOf v.pins l then h.modOut c (fun o => { o with pulsed := false }) else h
    if !h.fIsOut c || h.frd OUT_CFG_src l != t + 1 || !(h.out c).gate || (h.out c).atSafe then h
    else
      let want := h.fieldLevel t l off (h.out c).latched
      if h.fieldBlocked && want != h.fSafeOn c then h
      else
        let h := if !want && (h.out c).latched then h.commandOff c else h
        h.drive c want) h

/-- A VEC frame taken by the field die (R131, R296, R297): its vector in force from the named cycle start, at which its markers open the windows
of the inputs that name them, before the edges of the cycle; one that comes after its cycle start is applied at once and counted. The
command stands for the frame and its cycle start (log entry 81). -/
def Hub.recvVec (h : Hub) (t payload : Nat) (late : Bool) : Hub :=
  if !h.sup.fieldUp || !h.hinge.upF || !h.hinge.configured then h
  else
    let marks := bitsOf payload 36 4
    let v : FVec := { live := true, pins := bitsOf payload 20 16, marks := marks, ts := bitsOf payload 17 3, start := payload % 2 ^ 17 }
    let h := { h with hinge := { h.hinge with vecs := vset h.hinge.vecs t v } }
    let h := forAll (List.range 16) (fun h c =>
      let h := if h.frd IN_TPC_en c != 0 && h.frd IN_TPC_tmb c == t && bitOf marks (h.frd IN_TPC_mk c) then h.openOwn c else h
      if h.frd IN_TPC_xen c != 0 && h.frd IN_TPC_xtmb c == t && bitOf marks (h.frd IN_TPC_xmk c) then h.openForeign c else h) h
    let h := h.applyVec t 0
    if late then (if h.hinge.upL then h.count TMB_STALLS_late 1 t else h).fieldEvent 34 0 t else h

/-- VEC (R296). -/
def execVec (t : Fin 8) (late : Bool) (payload : BitVec 40) (s : State) : Host.Outcome State Fault Refusal :=
  s.on (fun h => (h.land true (0x80 + t.val) payload.toNat).recvVec t payload.toNat late)

/-- VEC_REPEAT (R296): the vector in force repeats at a following cycle start, at an offset in fine ticks into that cycle; its markers do not.
With the link lost the edges that remain of the cycle that has started are placed, and no further cycle starts (R139). -/
def execVecRepeat (t : Fin 8) (off : Word) (s : State) : Host.Outcome State Fault Refusal :=
  s.on (fun h =>
    if !h.sup.fieldUp || !h.hinge.configured || !(vget h.hinge.vecs t {}).live then h
    else if h.hinge.upF || off.toNat != 0 then h.applyVec t off.toNat
    else { h with hinge := { h.hinge with vecs := vset h.hinge.vecs t {} } })

/-! ### Compare slots (R302, R303) -/

/-- A slot judged on a new measurement (R302). -/
def Hub.cmpEval (h : Hub) (j : Nat) (value : BitVec 16) : Hub :=
  if !h.hinge.upL || !h.logicRuns then h
  else
    let thr := toSigned 16 (h.rd TMB_CMP_THR_thr j)
    let hyst : Int := h.rd TMB_CMP_THR_hyst j
    let v := value.toInt
    let was := h.flag TMB_CMP_STAT_state j
    let now := if h.flag TMB_CMP_CFG_rel j then
        (if v ≤ thr then true else if thr + hyst < v then false else was)
      else (if thr ≤ v then true else if v < thr - hyst then false else was)
    (h.wr TMB_CMP_STAT_value value.toNat j).put TMB_CMP_STAT_state (now && h.flag TMB_CMP_CFG_en j) j

/-- A slot watches a measurement: its source, the channel or sensor where the source has several, and the converter that took it (R302). -/
def Hub.cmpWatches (h : Hub) (j : Nat) (adcB : Bool) (src index : Nat) : Bool :=
  h.rd TMB_CMP_CFG_src j == src && h.flag TMB_CMP_CFG_adc j == adcB && (src == 3 || src == 4 || h.rd TMB_CMP_CFG_index j == index)

/-- COMPARE_SLOT_EVAL (R302): a new measurement, in the source's unit, of a source that the slot may watch. -/
def execCompareSlotEval (j : Fin 16) (r : Reading) (s : State) : Host.Outcome State Fault Refusal :=
  s.on (fun h => if h.cmpWatches j r.adcB r.src r.index then h.cmpEval j r.value else h)

/-- A write to TMB_CMP_THR by the slot's owning ward (R303). -/
def Hub.writeCmpThr (h : Hub) (j v : Nat) : Hub := (h.wr TMB_CMP_THR_thr (v % 2 ^ 16) j).wr TMB_CMP_THR_hyst (v / 2 ^ 16) j

/-- TMB_CMP_THR_WRITE (R303). -/
def execTmbCmpThrWrite (w : Fin 8) (j : Fin 16) (v : Word) (s : State) : Host.Outcome State Fault Refusal :=
  s.on (fun h => if h.writable w && h.rd TMB_CMP_CFG_ward j == w then h.writeCmpThr j v.toNat else h)

/-! ### The program store through port B (R280) -/

/-- Instruction word `n` of DP `d` lies in the region of a tumbler that ward `w` owns (R280). -/
def Hub.dpMine (h : Hub) (w d n : Nat) : Bool :=
  (h.tmbsOf w).any (fun t =>
    h.rd TMB_REGION_bank t == d && decide (h.rd TMB_REGION_base t ≤ n) && decide (n < h.rd TMB_REGION_base t + h.regionLen t))

/-- A write of a ward to a half of a DP word (R280): a low half is staged, a high half commits both in one access; one without a low half of the
same word staged writes the high half alone (log entry 89). -/
def Hub.writeDp (h : Hub) (w a v : Nat) : Hub :=
  if a % 8 == 0 then { h with dpLow := vset h.dpLow w (some (a, v)) }
  else
    let h := match vget h.dpLow w none with
      | some (b, low) => if b + 4 == a then { h.setMemWord b low with dpLow := vset h.dpLow w none } else h
      | none => h
    h.setMemWord a v

/-- A read of a ward from a half of a DP word (R280): a low half latches the high half, which the next read of it returns; a high half with
nothing latched reads the memory (log entry 89). -/
def Hub.readDp (h : Hub) (w a : Nat) : Nat × Hub :=
  if a % 8 == 0 then (h.memWord a, { h with dpHigh := vset h.dpHigh w (some (a + 4, h.memWord (a + 4))) })
  else
    match vget h.dpHigh w none with
    | some (b, v) => if b == a then (v, { h with dpHigh := vset h.dpHigh w none }) else (h.memWord a, h)
    | none => (h.memWord a, h)

/-- DP_WRITE_LOW (R280). -/
def execDpWriteLow (w : Fin 8) (d : Fin 2) (n : Fin 1024) (v : Word) (s : State) : Host.Outcome State Fault Refusal :=
  s.on (fun h => if h.writable w && h.dpMine w d n then h.writeDp w (dpAddr d (2 * n)) v.toNat else h)

/-- DP_WRITE_HIGH (R280). -/
def execDpWriteHigh (w : Fin 8) (d : Fin 2) (n : Fin 1024) (v : Word) (s : State) : Host.Outcome State Fault Refusal :=
  s.on (fun h => if h.writable w && h.dpMine w d n then h.writeDp w (dpAddr d (2 * n + 1)) v.toNat else h)

/-- DP_READ_LOW (R280): W0 reads every DP word. -/
def execDpReadLow (w : Fin 8) (d : Fin 2) (n : Fin 1024) (s : State) : Host.Outcome State Fault Refusal :=
  s.on (fun h => if h.readable w && (w.val == 0 || h.dpMine w d n) then (h.readDp w (dpAddr d (2 * n))).2 else h)

end Sys2Proof.Machine
end

