-- ==== Sys2Proof/Machine/Blank.lean ====
section
/-!
DEFINITION. The Blank and start-up (chapter 06): the boot, *Arming*, the entry to *Run*, *Recovery*, the slot check, the key-hash fuse and
the configuration shadow, and their commands.

What the spec leaves open here: DEDUCED, log entries 26, 29, 51, 60, 64, 66, 67, 68, 69.
-/

namespace Sys2Proof.Machine

/-! ### The boot (R160, R176, R181, R184) -/

/-- One copy of a slot whose header passed: slot, device and generation. -/
structure SlotCopy where
  slot : Nat := 0
  dev : Nat := 0
  gen : Nat := 0
  deriving DecidableEq, Repr

/-- The commands that the hub sends to an NVM device (R159): SFDP read, JEDEC ID, read, the fast reads that SFDP reports in two or four
lanes, write enable, status, page program, sector erase, erase suspend and resume. -/
inductive NvmCmd where
  | sfdpRead | readId | read | fastDual | fastQuad | writeEnable | status | pageProgram | sectorErase | suspend | resume
  deriving DecidableEq, Repr

/-- The opcode of a command where R159 gives it; the others come from SFDP. -/
def NvmCmd.opcode (c : NvmCmd) : Option Nat :=
  match c with
  | .sfdpRead => some 0x5A
  | .readId => some 0x9F
  | .read => some 0x03
  | .writeEnable => some 0x06
  | .status => some 0x05
  | .pageProgram => some 0x02
  | .fastDual => none
  | .fastQuad => none
  | .sectorErase => none
  | .suspend => none
  | .resume => none

/-- The commands of an operation on a device, in their order, up to the status poll (R159): a ferroelectric device has no erase command,
so 0xFF is written to each byte (R182), page by page. -/
def NvmOp.commands (o : NvmOp) (v : NvmDev) (lanes : Nat) : List NvmCmd :=
  if o.kind == 0 then [if lanes == 2 then .fastQuad else if lanes == 1 then .fastDual else .read]
  else if o.kind == 1 then [.writeEnable, .pageProgram, .status]
  else if v.kind == .nor then [.writeEnable, .sectorErase, .status]
  else (List.replicate 16 [NvmCmd.writeEnable, .pageProgram, .status]).flatten

/-- Bytes 0 to 3 of the SFDP header read "SFDP" (R160). -/
def sfdpSig : BitVec 32 := 0x50444653

/-- The device carries SFDP. -/
def probeSfdp (p : NvmProbe) : Bool := p.sig == sfdpSig

/-- A device answers: it carries SFDP, or its JEDEC ID is neither all 0x00 nor all 0xFF (R160). -/
def probeAnswers (p : NvmProbe) : Bool := probeSfdp p || (p.jedec != 0 && p.jedec != 0xFFFFFF)

/-- The devices as a probe finds them: their contents stay (R160). A device without SFDP whose ID is neither all zeros nor all ones is
ferroelectric, and read in one lane. -/
def NvmDev.probed (v : NvmDev) (p : NvmProbe) : NvmDev :=
  { v with
    present := probeAnswers p, kind := if probeSfdp p && !p.fram then .nor else .fram, sfdp := probeSfdp p, jedec := p.jedec.toNat
    size64 := if probeSfdp p then p.size64.toNat else 0, ppUs := p.ppUs.toNat, ppMul := p.ppMul.toNat, eraseUs := p.eraseUs.toNat
    lanes := if probeSfdp p then p.lanes else 0, suspend := probeSfdp p && p.suspend }

/-- The reason of R173 that the header of a copy fails with, 0 where it passes. -/
def Hub.copyHeader (h : Hub) (lost : List (Fin 4)) (slot dev : Nat) : Nat :=
  if !(h.nvmDev dev).present || lost.any (fun k => k.val == slot + 2 * dev) then 1
  else headerReason h.chip (h.nvmRead dev (0x20000 * slot) 64)

/-- The image of a slot on a device. -/
def Hub.copyImage (h : Hub) (slot dev : Nat) : List Nat :=
  h.nvmRead dev (0x20000 * slot) (min 0x20000 (imgLength (h.nvmRead dev (0x20000 * slot) 64)))

/-- The size that SFDP gives for a device, where it carries SFDP. -/
def NvmDev.sfdpSize (v : NvmDev) : Option Nat := if v.sfdp then some v.size64 else none

/-- A copy judged in full (R173, checks 5 to 9). -/
def Hub.judgeCopy (h : Hub) (lost : List (Fin 4)) (c : SlotCopy) : Verdict :=
  if lost.any (fun k => k.val == c.slot + 2 * c.dev) then { reason := 1 }
  else judgeImage h.chip (h.nvmDev c.dev).sfdpSize (h.copyImage c.slot c.dev)

/-- The candidates in the order of R176: generation, highest first, Blank A before Blank B, device 0 before device 1. -/
def Hub.candidates (h : Hub) (lost : List (Fin 4)) : List SlotCopy :=
  let all := [(0, 0), (0, 1), (1, 0), (1, 1)].filterMap (fun (x : Nat × Nat) =>
    if h.copyHeader lost x.1 x.2 == 0 then some { slot := x.1, dev := x.2, gen := numAt (h.nvmRead x.2 (0x20000 * x.1) 64) 0x0C 4 : SlotCopy }
    else none)
  all.mergeSort (fun a b => decide (b.gen ≤ a.gen))

/-- The candidates judged in order up to the first valid one. -/
def Hub.judgeAll (h : Hub) (lost : List (Fin 4)) : List SlotCopy → List (SlotCopy × Verdict)
  | [] => []
  | c :: rest =>
    let v := h.judgeCopy lost c
    if v.reason == 0 then [(c, v)] else (c, v) :: h.judgeAll lost rest

/-- BLK_SLOT_A or BLK_SLOT_B, and BLK_GEN_A or BLK_GEN_B, of a slot: the copy judged last; where none was, not examined, or the reason
that the header on device 0 fails with (R173). -/
def Hub.showSlot (h : Hub) (lost : List (Fin 4)) (cands : List SlotCopy) (judged : List (SlotCopy × Verdict)) (slot : Nat) : Hub :=
  let mine := judged.filter (fun x => x.1.slot == slot)
  let first := cands.find? (fun c => c.slot == slot)
  let show_ := fun (h : Hub) (v : Verdict) (dev : Nat) =>
    if slot == 0 then
      ((h.wr BLK_SLOT_A_reason v.reason).wr BLK_SLOT_A_section v.section_).wr BLK_SLOT_A_record v.record |>.wr BLK_SLOT_A_device dev
    else ((h.wr BLK_SLOT_B_reason v.reason).wr BLK_SLOT_B_section v.section_).wr BLK_SLOT_B_record v.record |>.wr BLK_SLOT_B_device dev
  let h := match mine.getLast?, first with
    | some (c, v), _ => show_ h v c.dev
    | none, some _ => show_ h { reason := 0xF } 0
    | none, none => show_ h { reason := h.copyHeader lost slot 0 } 0
  let gen := match first with | some c => c.gen | none => 0
  if slot == 0 then h.wr BLK_GEN_A_generation gen else h.wr BLK_GEN_B_generation gen

/-- The bus mode that some devices are read in: a wanted mode, limited to what the SFDP of each reports (R160, R176). -/
def Hub.setBus (h : Hub) (ds : List Nat) (lanes sck50 : Nat) : Hub :=
  let vs := ds.map h.nvmDev
  if vs.all (fun v => v.sfdp) then (h.wr BLK_STAT_lanes_now (vs.foldl (fun m v => min m v.lanes) lanes)).wr BLK_STAT_sck50_now sck50
  else (h.wr BLK_STAT_lanes_now 0).wr BLK_STAT_sck50_now 0

/-- The devices that are accessed from the end of *Arming* on: device 0, and device 1 where it mirrors (R177); of them those that are
there. -/
def Hub.nvmUsed (h : Hub) : List Nat :=
  (if h.flag BLK_CFG_mirror then [0, 1] else [0]).filter (fun d => (h.nvmDev d).present)

/-- A valid copy is booted (R176, R184): *Arming*, with what its header and trailer give. -/
def Hub.bootCopy (h : Hub) (c : SlotCopy) (fallback : Bool) : Hub :=
  let b := h.copyImage c.slot c.dev
  let signed := signatureOk b
  let h := ((h.wr DEV_STATE_slot c.slot).wr BLK_STAT_slot c.slot).wr BLK_STAT_device c.dev
  let h := (h.put BLK_STAT_signed signed).wr BLK_GEN_generation c.gen
  let h := forAll (List.range 4) (fun h i => h.wr BLK_BUILD_bytes (numAt b (0x20 + 4 * i) 4) i) h
  let h := h.setBus [c.dev] (numAt b 0x1D 1 % 4) (b2n (bitOf (numAt b 0x1D 1) 2))
  let regs := (h.chip.trial (imgRecs b)).regs
  let regs := if h.chip.part == .pwh0840 then fileSet regs (fldKey PWR_DOM_CFG_fchb_off 0 0) 1 else regs
  let h := { h with
    dev := { h.dev with phase := .arming, signed := signed }
    blk := { h.blk with
      config := regs, applied := false
      keyHash := if (imgSection b 0x11).isSome then some (sha256 (imgBody b 0x11)) else none } }
  if fallback then h.event 19 1 detailOpen else h

/-- The end of *Boot* (R435, R626, R629): RST_CAUSE, the journal scan where the retained block was lost, and numbering with the Boot
record. -/
def Hub.bootEnd (h : Hub) : Hub :=
  let src := h.rd PWR_RET_STAT_source
  let h := h.wr RST_CAUSE_entry (h.ret.hist.headD 0)
  let h := if 2 ≤ src && !h.recd.scanned then h.scanDone true else h
  let none_ := h.recd.scanned && (highestSeq h.journal).isNone
  let w5 := src + 4 * b2n (decide (2 ≤ src)) + 8 * b2n h.recd.scanned + 16 * (pendList h.ret.slots).length + 128 * b2n none_
  let h := h.startNumbering { typ := 0x02, source := 0x4C, sev := sevWarning, len := 16, ward := 0xFF
                              payload := [h.rd RST_CAUSE_entry, h.ret.boots, w5, h.rd BLK_GEN_generation] }
  if h.recd.scanned then h else h.put REC_STAT_jscan true

/-- *Recovery* is entered (R181): every channel is off and high-impedance. A field die that had been configured before the reset is brought
there too (log entry 66). -/
def Hub.enterRecovery (h : Hub) : Hub :=
  let h := forAll (List.range 16) (fun h c =>
    (h.setSwitch c false).modOut c (fun o => { o with hiz := true, fholdRun := false, pulse := none })) h
  { h.put BLK_STAT_recovery true with dev := { h.dev with phase := .recovery } }

/-- The boot as R160 and R176 describe it. Where a ferroelectric device without SFDP holds what the retained block and the recorder
continue from, that waits until *Arming* has applied the size of the device (log entry 67). `lostHeader` and `lostRead` name the copies (slot + 2 × device) of which a read did not complete
at the header, or in full: NVM_FAIL where a device is there. -/
def Hub.boot (h : Hub) (p0 p1 : NvmProbe) (lostHeader lostRead : List (Fin 4)) : Hub :=
  let h := { h with nvm := vset (vset h.nvm 0 ((h.nvmDev 0).probed p0)) 1 ((h.nvmDev 1).probed p1) }
  let waits := !h.nvmWhole
  let h := if h.ret.valid || waits then h else h.retainedJudge.history 1 0xF
  let h := ((h.put BLK_STAT_sfdp (probeSfdp p0)).put BLK_STAT_mirror_present (probeAnswers p1)).wr BLK_NVM_ID_value p0.jedec.toNat
  let h := h.wr BLK_NVM_SIZE_value (h.nvmDev 0).size64
  let cands := h.candidates lostHeader
  let h := { h with blk := { h.blk with cands := cands.foldl (fun m c => setBit m (c.slot + 2 * c.dev)) 0 } }
  let judged := h.judgeAll lostRead cands
  let fails := (lostHeader ++ lostRead).any (fun k => (h.nvmDev (k.val / 2)).present)
  let h := if fails then h.event 60 1 detailOpen else h
  let h := forAll [0, 1] (fun h s => h.showSlot lostHeader cands judged s) h
  let h := match judged.find? (fun x => x.2.reason == 0) with
    | some (c, _) => h.bootCopy c (cands.head? != some c)
    | none => h.enterRecovery
  if waits && h.dev.phase == .arming && (!h.ret.valid || 2 ≤ h.rd PWR_RET_STAT_source) then
    { h with blk := { h.blk with sizeWaits := true } }
  else (if h.ret.valid then h else h.retainedJudge.history 1 0xF).bootEnd

/-- BOOT (R176): in *Boot*, once NVM access is allowed (R47) and the die is not held in a production test (R50), the hub probes the NVM,
judges the slots and boots, or enters *Recovery*. -/
def execBoot (probe0 probe1 : NvmProbe) (lostHeader lostRead : List (Fin 4)) (s : State) : Host.Outcome State Fault Refusal :=
  s.on (fun h =>
    if h.dev.phase == .boot && h.sup.nvmAllowed && !h.dev.rstLow && !h.dev.testHeld && h.dev.halt.isNone && h.sup.pd.isNone then
      h.boot probe0 probe1 lostHeader lostRead
    else h)

/-! ### The configuration shadow (R190, R191) -/

/-- The address belongs to the safety part of the shadow (R191). -/
def Hub.inSafetyPart (h : Hub) (a : Nat) : Bool :=
  let p := a / 0x1000
  let c := a % 0x1000 / 0x100
  p == 0x4 || p == 0x11 || p == 0x12 || p == 0x13 || (p == 0x5 && decide (a < 0x5200) && a % 0x40 == 4) ||
    (p == 0x8 && h.flag OUT_CFG_safety (h.lead c)) || (p == 0xA && h.flag IN_CFG_safety c)

/-! ### *Arming* (R170, R171, R172, R177, R178) -/

/-- BLK_MIRROR judged after the choice of a slot (R177): the copy on the other device is no candidate, or its generation or trailer CRC
differs, or no second device answers. -/
def Hub.mirrorCheck (h : Hub) : Hub :=
  if !h.flag BLK_CFG_mirror then h
  else
    let slot := h.rd BLK_STAT_slot
    let dev := h.rd BLK_STAT_device
    let mine := h.copyImage slot dev
    let other := h.copyImage slot (1 - dev)
    let same := bitOf h.blk.cands (slot + 2 * (1 - dev)) &&
      numAt mine 0x0C 4 == numAt other 0x0C 4 && numAt mine (imgTrailer mine) 4 == numAt other (imgTrailer other) 4
    if (h.nvmDev 1).present && same then h else h.event 20 1 detailOpen

/-- A DP bank takes its program image; the rest of the bank is cleared (R171). -/
def Hub.loadDp (h : Hub) (d : Nat) (bytes : List Nat) : Hub :=
  let h := h.clearMem (dpAddr d 0) (dpAddr (d + 1) 0)
  { h with mem := cellsSet 0 h.mem (dpAddr d 0) bytes }

/-- The key slot references set the authority map (R172, R634). -/
def Hub.loadKeys (h : Hub) (body : List Nat) : Hub :=
  let m := (List.range (body.length / 4)).foldl (fun (m : Vector (Option Nat) 4) i =>
    if numAt body (4 * i + 2) 1 == 1 then vset m (numAt body (4 * i) 1) (some (numAt body (4 * i + 1) 1)) else m) (Vector.replicate 4 none)
  { h with recd := { h.recd with authMap := m } }

/-- A key of the fault reaction table, which takes effect at the end of *Arming* (R544). -/
def isFltKey (k : Nat) : Bool := keyAddr k / 0x1000 == 0x12

/-- The entries of a register file put into the hub's. -/
def Hub.putRegs (h : Hub) (l : List (Nat × Nat)) : Hub :=
  l.foldl (fun h e => { h with regs := fileSet h.regs e.1 e.2 }) h

/-- The running slot's sections applied, the shadow's CRCs set, and the field configuration sent (R170, R178, R190). -/
def Hub.applyBlank (h : Hub) : Hub :=
  let b := h.copyImage (h.rd BLK_STAT_slot) (h.rd BLK_STAT_device)
  let cfg := h.blk.config
  let h := h.putRegs (cfg.filter (fun e => !isFltKey e.1))
  let p := imgPrograms b
  let h := if bitOf h.sup.on 5 then (h.loadDp 0 p.1).loadDp 1 p.2 else h
  let h := h.loadKeys (imgBody b 0x10)
  let h := forAll [0, 1] (fun h d =>
    if (h.nvmDev d).sfdp then h else { h with nvm := vset h.nvm d { h.nvmDev d with size64 := h.rd BLK_CFG_size_64k } }) h
  let h := h.wr BLK_NVM_SIZE_value (h.nvmDev 0).size64
  let h := h.setBus h.nvmUsed (h.rd BLK_CFG_lanes) (h.rd BLK_CFG_sck_50)
  let h := (h.wr BLK_SHADOW_CRC_crc (shadowCrc cfg false)).wr BLK_SHADOW_FCRC_crc (shadowCrc cfg true)
  let waited := h.blk.sizeWaits
  let h := { h with blk := { h.blk with applied := true, sizeWaits := false } }
  let h := if waited then (if h.ret.valid then h else h.retainedJudge.history 1 0xF).bootEnd else h
  let h := forAll h.wardsDefined (fun h w => h.setWard w .reset) h
  h.mirrorCheck.fieldStart

/-- The memory domains that the Blank does not hold off are awake and cleared (R78, R79). -/
def Hub.memoryReady (h : Hub) : Bool := h.sup.uncleared == 0 && h.sup.waking &&& 0x3C == 0

/-- ARMING (R178): the chosen slot's sections are applied in order, after the boot memory test where the Blank asks for it (R595). -/
def execArming (s : State) : Host.Outcome State Fault Refusal :=
  s.on (fun h =>
    let memTest := fileGet h.blk.config (fldKey BST_CFG_boot_mem 0 0) != 0
    if h.dev.phase == .arming && !h.blk.applied && h.memoryReady && h.dev.halt.isNone && h.sup.pd.isNone && (!memTest || h.bst.memDone) then
      h.applyBlank
    else h)

/-! ### The end of *Arming* (R17, R22, R23, R544, R726) -/

/-- The statuses set earlier are judged again with the Blank's enable and class (R544). -/
def Hub.rejudge (h : Hub) : Hub :=
  let h := forAll (List.range 62) (fun h n =>
    if !h.fltSet n then h
    else if !h.fltEnabled n then { h with flt := { h.flt with mask := vset h.flt.mask n 0 } }
    else
      let h := h.wardReaction n (h.fltMask n)
      if h.fltClass n == 5 then h.enterSafe n else h) h
  if h.anySet then h else h.put FLT_FIRST_valid false

/-- An output that the Blank commands on asks for admission, whatever its safe state: until the first generation it is off (R178, R726). -/
def Hub.initialOn (h : Hub) (c : Nat) : Hub :=
  if h.isPairCh c then h.ownCommand c true
  else
    ((h.modOut c (fun o => { o with wait := some true })).put OUT_STAT_pending true c).submit (h.chCand .turnOn c)

/-- The initial commands (R178, R726): every output off, and those that OUT_CTRL.on commands on through admission. They go out with the first
generation. -/
def Hub.initialCommands (h : Hub) : Hub :=
  let outs := h.outList
  let h := { h with hinge := { h.hinge with cmd := outs.foldl (fun v c => vset v c 0) h.hinge.cmd } }
  forAll (outs.filter (fun c => h.lead c == c && h.flag OUT_CTRL_on c)) Hub.initialOn h

/-- The tumblers marked for automatic start are submitted (R23). -/
def Hub.autoStart (h : Hub) : Hub :=
  forAll ((List.range 8).filter (fun t => h.flag TMB_CFG_auto_start t)) (fun h t => (h.tmbStartReq t (h.rd TMB_CFG_auto_addr t)).1) h

/-- A failure of the boot self-test, set at the end of *Arming*: BST_LOGIC or BST_FIELD with the detail of R593, and *Safe* (R17, R594,
R595). -/
def Hub.bootTests (h : Hub) : Hub :=
  let detail := fun (g : Nat) (mem : Bool) =>
    (h.ret.boots % 256) * 2 ^ 24 + h.rd BST_MEM_bank * 2 ^ 16 + 2 ^ 15 + 2 ^ 9 * b2n mem + g
  let lg := h.bst.bootFail % 64
  let fg := h.bst.bootFail / 64
  let h1 := if lg != 0 || h.bst.memFail then (h.raise 52 16 1 (detail lg h.bst.memFail)).enterSafe 52 else h
  if fg != 0 then (h1.raise 53 16 1 (detail fg false)).enterSafe 53 else h1

/-- *Arming* may end (R17, R21, R518, R594): everything is applied, the field die, which takes it only while VF is valid (R67), has confirmed
its configuration, and the start-up tests, with the boot LBIST after them, have been made. -/
def Hub.armingDone (h : Hub) : Bool :=
  let allPass := h.rd DBT_STARTUP_passed == 2 ^ 14 - 1
  h.dev.phase == .arming && h.dev.halt.isNone && h.sup.pd.isNone && h.blk.applied && h.hinge.upL && h.hinge.configured &&
    !(h.hinge.out ++ h.hinge.waiting).any (fun x => x.what == .config) && h.flag DBT_STARTUP_done &&
    (!allPass || !h.flag BST_CFG_boot_lbist || h.bst.bootDone)

/-- The outputs at the entry to *Run*: the tone goes to CLEAR, BOLT_REL is to follow 10 µs later, and a rejoin that waited adopts the reported
states, or the initial commands are made (R141, R144, R680, R726). -/
def Hub.releaseOutputs (h : Hub) : Hub :=
  let h := h.wantTone .clear
  let h := { h with dev := { h.dev with boltBoot := false }, hinge := { h.hinge with relDue := true } }
  if h.hinge.rejoinWaits then { h with hinge := { h.hinge with rejoinWaits := false } }.rejoin
  else if h.hinge.firstApplied then h.rejoinAfterTest
  else h.initialCommands

/-- The words of the shadow in address order, each with its address (R190). -/
def shadowList (regs : List (Nat × Nat)) : List (Nat × Nat) :=
  shadowAddrs.flatMap (fun a => (shadowWords regs a).map (fun v => (a, v)))

/-- The groups of 64 words of a list. -/
def groupsOf (l : List (Nat × Nat)) : List (List (Nat × Nat)) :=
  (List.range ((l.length + 63) / 64)).map (fun i => (l.drop (64 * i)).take 64)

/-- The CRC-32 of each group of 64 words of the shadow (R190). -/
def shadowGroups (regs : List (Nat × Nat)) : List Nat :=
  (groupsOf (shadowList regs)).map (fun g => crc32 (g.flatMap (fun x => leBytes 4 x.2)))

/-- The switchable domains follow PWR_DOM_CFG: those that the Blank marks off go off (R74, R79). -/
def Hub.domainsOff (h : Hub) : Hub :=
  let off := (List.range 12).filter h.blankOff
  { h with sup := { h.sup with on := off.foldl clrBit h.sup.on, waking := off.foldl clrBit h.sup.waking } }

/-- The end of *Arming*: the shadow stands, the wards are *Active*, the statuses are judged again, the watchdogs start (R17, R78, R405, R434,
R544, R556, R725). -/
def Hub.enterRun (h : Hub) : Hub :=
  let h := h.putRegs (h.blk.config.filter (fun e => isFltKey e.1))
  let h := ({ h with armed := h.regs, blk := { h.blk with groups := shadowGroups h.regs } }.keepDomain 2).keepDomain 3
  let h := h.domainsOff
  let h := { h with dev := { h.dev with phase := .up } }
  let h := forAll h.wardsDefined (fun h w => h.setWard w .active) h
  let h := { h with
    sch := { h.sch with account := 1000000 * (h.rd SCH_VF_BUD_burst : Int) }
    eng := { h.eng with tokens := Vector.ofFn (fun w : Fin 8 => h.rd OPS_URG_depth w) }
    wdo := if h.rd WDG_WDO_CFG_en_mask != 0 && h.wdo.pin == 0 then { h.wdo with pin := 1, high := h.flag WDG_WDO_CFG_pol } else h.wdo }
  let h := h.put HNG_STAT_field_cfg_ok (h.hinge.fieldCrc == h.rd BLK_SHADOW_FCRC_crc)
  let h := { h with hinge := { h.hinge with initDue := !h.hinge.firstApplied && !h.hinge.rejoinWaits } }
  let h := h.wdStartAll.rejudge.bootTests
  if h.dev.safe then h.refRun else h.releaseOutputs.refRun.autoStart

/-- ENTER_RUN (R17): *Arming* completes. -/
def execEnterRun (s : State) : Host.Outcome State Fault Refusal := s.on (fun h => if h.armingDone then h.enterRun else h)

/-! ### *Recovery* (R181 to R183) -/

/-- W0 may write the BLK_RCV_ registers now (R182, R365). -/
def Hub.recoveryWrites (h : Hub) (w : Nat) : Bool :=
  w == 0 && h.state == .recovery && h.logicRuns && h.sup.pd.isNone && h.dev.softReset.isNone

/-- W0's writes to the BLK_ registers take effect: where its writes do, and in *Recovery* (R181, R199). -/
def Hub.blkWrites (h : Hub) (w : Nat) : Bool := h.writable w || h.recoveryWrites w

/-- A recovery command ends with a result (R182). -/
def Hub.rcvEnd (h : Hub) (result : Nat) : Hub :=
  ((h.wr BLK_RCV_STAT_result result).put BLK_RCV_STAT_busy false).count BLK_RCV_STAT_done

/-- A command written to BLK_RCV_CMD (R182); the field `cmd` reads 0 (log entry 64). While one runs only a reboot is taken, and it waits for
the end of a program or erase (R196). -/
def Hub.writeRcvCmd (h : Hub) (v : Nat) : Hub :=
  let cmd := v % 16
  let a := h.rd BLK_RCV_ADDR_addr
  if bitsOf v 16 16 != 0x5243 then h
  else if cmd == 4 then h.orderReset 6 0
  else if h.flag BLK_RCV_STAT_busy then h
  else if cmd == 0 || 4 < cmd then h.rcvEnd 3
  else if a % (if cmd == 1 then 4096 else 256) != 0 then h.rcvEnd 1
  else
    let h := { h.put BLK_RCV_STAT_busy true with blk := { h.blk with rcv := some (cmd, a) } }
    if cmd == 3 then h.nvmAdd { use := .recovery, kind := 0, addr := a } else h.nvmCand (cmd == 1) 2 2

/-- An admitted recovery program or erase is handed to the NVM controller. -/
def Hub.rcvAdmit (h : Hub) : Hub :=
  match h.blk.rcv with
  | none => h
  | some (cmd, a) =>
    let page := (List.range 64).flatMap (fun i => leBytes 4 (h.rd BLK_RCV_BUF_data i))
    h.nvmAdd { use := .recovery, kind := if cmd == 1 then 2 else 1, addr := a, data := if cmd == 1 then [] else page }

/-- A write to BLK_RCV_CMD whose command is the row's. -/
def Hub.rcvRow (h : Hub) (w v cmd : Nat) : Hub := if h.recoveryWrites w && v % 16 == cmd then h.writeRcvCmd v else h

/-- RCV_ERASE (R182). -/
def execRcvErase (w : Fin 8) (v : Word) (s : State) : Host.Outcome State Fault Refusal := s.on (fun h => h.rcvRow w v.toNat 1)

/-- RCV_PROGRAM (R182). -/
def execRcvProgram (w : Fin 8) (v : Word) (s : State) : Host.Outcome State Fault Refusal := s.on (fun h => h.rcvRow w v.toNat 2)

/-- RCV_READ (R182). -/
def execRcvRead (w : Fin 8) (v : Word) (s : State) : Host.Outcome State Fault Refusal := s.on (fun h => h.rcvRow w v.toNat 3)

/-- RCV_REBOOT (R182). -/
def execRcvReboot (w : Fin 8) (v : Word) (s : State) : Host.Outcome State Fault Refusal := s.on (fun h => h.rcvRow w v.toNat 4)

/-- The running recovery operation ends on every device present, a read on the first (R182): result 0, or 2 where one of them timed out or
reported an error. -/
def Hub.rcvDone (h : Hub) (o : NvmOp) (good0 good1 : Bool) : Hub :=
  let d := if (h.nvmDev 0).present then 0 else 1
  let good := (good0 || d == 1) && (good1 || o.kind == 0 || !(h.nvmDev 1).present)
  let h := (h.nvmDone good0 good1).costEnd (if o.kind == 2 then .nvmErase else .nvmPage) 2
  let h := { h with blk := { h.blk with rcv := none } }
  let h := if o.kind == 0 && good then
      forAll (List.range 64) (fun h i => h.wr BLK_RCV_BUF_data (leNat (h.nvmRead d (o.addr + 4 * i) 4)) i) h else h
  h.rcvEnd (if good then 0 else 2)

/-- RCV_COMMAND_DONE (R182). -/
def execRcvCommandDone (e : NvmEnd) (s : State) : Host.Outcome State Fault Refusal :=
  s.on (fun h =>
    match h.nvmOp with
    | none => h
    | some o => if o.use == .recovery then h.rcvDone o e.good e.mirrorOk else h)

/-! ### The slot check (R188, R196) -/

/-- W0's write to BLK_CTRL (R188): a check that runs starts again. -/
def Hub.writeBlkCtrl (h : Hub) (w v : Nat) : Hub :=
  if w == 0 && bitOf v 0 then
    { h.put BLK_CTRL_check true with blk := { h.blk with checking := true, checkStale := false } }
  else h

/-- BLK_CHECK (R188). -/
def execBlkCheck (w : Fin 8) (v : Word) (s : State) : Host.Outcome State Fault Refusal :=
  s.on (fun h => if h.blkWrites w then h.writeBlkCtrl w v.toNat else h)

/-- BLK_CHECK_DONE (R188): the inactive slot on device 0 has been judged. `readOk` says that every read completed. BLK_CHECK_GEN shows 0 for a
header that could not be read or is none, fails 0x1 and 0x2 (log entry 68). -/
def execBlkCheckDone (readOk : Bool) (s : State) : Host.Outcome State Fault Refusal :=
  s.on (fun h =>
    if !h.blk.checking then h
    else
      let slot := 1 - h.rd BLK_STAT_slot
      let stale := h.blk.checkStale
      let lost : List (Fin 4) := if readOk then [] else [0, 1]
      let hdr := h.copyHeader lost slot 0
      let v : Verdict := if hdr != 0 then { reason := hdr } else h.judgeCopy lost { slot := slot }
      let gen := if hdr == 1 || hdr == 2 then 0 else numAt (h.nvmRead 0 (0x20000 * slot) 64) 0x0C 4
      let h := { h.put BLK_CTRL_check false with blk := { h.blk with checking := false, checkStale := false } }
      let h := if stale then h else
        ((((h.wr BLK_CHECK_reason v.reason).wr BLK_CHECK_section v.section_).wr BLK_CHECK_record v.record).wr BLK_CHECK_device 0).wr
          BLK_CHECK_GEN_generation gen
      let h := if readOk then h else h.event 60 1 detailOpen
      h.intEvent 0 22)

/-! ### The Keeper's reboot and the key-hash fuse (R185, R189, R196) -/

/-- W0's write to BLK_REBOOT (R189): a check that runs is abandoned. -/
def Hub.writeBlkReboot (h : Hub) (w v : Nat) : Hub :=
  if w == 0 && v == 0x52424F54 then
    { h.put BLK_CTRL_check false with blk := { h.blk with checking := false } }.orderReset 5 0
  else h

/-- BLK_REBOOT (R189). -/
def execBlkReboot (w : Fin 8) (v : Word) (s : State) : Host.Outcome State Fault Refusal :=
  s.on (fun h => if h.blkWrites w then h.writeBlkReboot w v.toNat else h)

/-- The fuse request is taken in this state (R185). -/
def Hub.fuseOk (h : Hub) : Bool :=
  h.runs && h.dev.signed && !h.sup.warn &&
    (match h.blk.keyHash with
     | none => false
     | some k => h.chip.hashState == 0 || h.chip.keyHash == k)

/-- W0's write to BLK_FUSE (R185): the request is carried out and the state reads partial until it is complete. -/
def Hub.writeBlkFuse (h : Hub) (w v : Nat) : Hub :=
  if w == 0 && v == 0x46555345 && h.fuseOk && !h.blk.fusing then
    { h with
      blk := { h.blk with fusing := true }
      chip := { h.chip with
        hashState := max 1 h.chip.hashState, hashAttempts := satInc 255 h.chip.hashAttempts
        keyHash := h.blk.keyHash.getD h.chip.keyHash } }
  else h

/-- BLK_FUSE (R185). -/
def execBlkFuse (w : Fin 8) (v : Word) (s : State) : Host.Outcome State Fault Refusal :=
  s.on (fun h => if h.writable w then h.writeBlkFuse w v.toNat else h)

/-- FUSE_DONE (R185): the fuses have been read back: fused, or left partial. -/
def execFuseDone (good : Bool) (s : State) : Host.Outcome State Fault Refusal :=
  s.on (fun h =>
    if h.blk.fusing then
      { h with
        blk := { h.blk with fusing := false }
        chip := { h.chip with hashState := if good then 2 else h.chip.hashState } }
    else h)

/-! ### The shadow check (R191) -/

/-- The addresses at which the live fields differ from the shadow. -/
def Hub.shadowDiffs (h : Hub) : List Nat := shadowAddrs.filter (fun a => shadowWords h.regs a != shadowWords h.armed a)

/-- The addresses that a failing group CRC stands for: those of the group that belong to the safety or the field part, or, where it holds
none, the others (R191; log entry 69). -/
def Hub.groupFails (h : Hub) (safety : Nat → Bool) : List Nat :=
  let gs := groupsOf (shadowList h.armed)
  let crcs := shadowGroups h.armed
  (List.range gs.length).flatMap (fun i =>
    if crcs.getD i 0 == h.blk.groups.getD i 0 then []
    else
      let as := (gs.getD i []).map (fun x => x.1)
      if as.any safety then as.filter safety else as)

/-- DA's comparison of the live fields with the shadow and its check of each group CRC: CFG_SHADOW_S for the safety and the field part,
CFG_SHADOW for the rest (R191). -/
def Hub.shadowJudge (h : Hub) : Hub :=
  let safety := fun a => h.inSafetyPart a || inFieldPart a
  let d := h.shadowDiffs ++ h.groupFails safety
  let h := if d.any safety then h.raise 17 16 1 detailOpen else h.lower 17 16
  if d.any (fun a => !safety a) then h.raise 18 16 1 detailOpen else h.lower 18 16

/-- SHADOW_CHECK (R191): DA covers the shadow. `upset` is a word that has changed since, in the live fields or in the shadow itself, which
its group CRC shows; `full` ends a full scan, and `interval` is the measured time between coverages of the safety part in 10 µs units. -/
def execShadowCheck (upset : Option (BitVec 24 × Word)) (inShadow full : Bool) (interval : BitVec 16) (s : State) :
    Host.Outcome State Fault Refusal :=
  s.on (fun h =>
    if h.dev.phase != .up then h
    else
      let h := match upset with
        | none => h
        | some (a, v) => if inShadow then { h with armed := upsetWord h.armed a.toNat v.toNat } else { h with regs := upsetWord h.regs a.toNat v.toNat }
      let h := if full then h.count BLK_SHADOW_SCAN_scans else h
      (h.wr BLK_SHADOW_SCAN_safety_max (max (h.rd BLK_SHADOW_SCAN_safety_max) interval.toNat)).shadowJudge)

end Sys2Proof.Machine
end

