-- ==== Sys2Proof/Machine/Engine.lean ====
section
/-!
DEFINITION. The operation engine's bookkeeping (chapter 12): rings and doorbells, acceptance into the pool, the choice of the
next operation, completions, cancelling, token buckets and the run-time trims.

What the spec leaves open here: DEDUCED, log entries 39, 98, 99.
-/

namespace Sys2Proof.Machine

/-- The engine works: the device state lets operations be dispatched (R365, R409), and PD_OPS is on (R76). -/
def Hub.engRuns (h : Hub) : Bool :=
  (h.runs || h.state == .brown || h.state == .safe) && h.sup.pd.isNone && bitOf h.sup.on 2

/-- The operation in flight in a pool slot. -/
def Hub.opAt (h : Hub) (slot : Nat) : Option Op := h.eng.ops.find? (fun o => o.slot == slot)

/-- The hub with the operation of a slot changed. -/
def Hub.modOp (h : Hub) (slot : Nat) (f : Op → Op) : Hub :=
  { h with eng := { h.eng with ops := h.eng.ops.map (fun o => if o.slot == slot then f o else o) } }

/-! ### Counters of the pool (R403, R408) -/

/-- Slots that ward `w` holds. -/
def Hub.inflight (h : Hub) (w : Nat) : Nat := h.eng.ops.countP (fun o => o.ward == w && !o.dropped)

/-- The pool's size in slots. -/
def Hub.poolSize (h : Hub) : Nat := 1024 * h.rd OPS_POOL_CFG_size_k

/-- Free slots. -/
def Hub.poolFree (h : Hub) : Nat := h.poolSize - h.eng.ops.length

/-- The cap of ward `w`: the run-time figure, where one is written (R411). -/
def Hub.capOf (h : Hub) (w : Nat) : Nat :=
  16 * (if h.rd OPS_QOS_RT_cap16_rt w == 0 then h.rd OPS_QOS_cap16 w else h.rd OPS_QOS_RT_cap16_rt w)



/-- The reserved minimum of ward `w`. -/
def Hub.resOf (h : Hub) (w : Nat) : Nat := 16 * h.rd OPS_QOS_res16 w

/-- What the reserved minima of the other wards still claim (R403). -/
def Hub.claimed (h : Hub) (w : Nat) : Nat :=
  (List.range 8).foldl (fun m v => if v == w then m else m + (h.resOf v - h.inflight v)) 0

/-- Ward `w` gets a slot (R403). -/
def Hub.mayAccept (h : Hub) (w : Nat) : Bool :=
  decide (0 < h.poolFree) &&
    (decide (h.inflight w < h.resOf w) || (decide (h.inflight w < h.capOf w) && decide (h.claimed w < h.poolFree)))

/-- Completion entries that ward `w` has not consumed. -/
def Hub.cqUsed (h : Hub) (w : Nat) : Nat := (h.rd OPS_CQ_IDX_tail w + 65536 - h.rd OPS_CQ_IDX_head w) % 65536

/-- The completion ring of ward `w` holds all it can (R390). -/
def Hub.cqFull (h : Hub) (w : Nat) : Bool := h.flag OPS_CQ_CFG_en w && decide (2 ^ h.rd OPS_CQ_CFG_log2 w ≤ h.cqUsed w)

/-! ### Doorbells (R384, R415, R417) -/

/-- OPS_RING for ward `w` (R384, R389, R410). -/
def Hub.opsRing (h : Hub) (w : Nat) : Hub := (h.put OPS_STAT_ring_err true w).event 40 (2 ^ w) detailOpen

/-- A doorbell's tail breaks R384. -/
def Hub.bellBad (h : Hub) (w v : Nat) : Bool :=
  let new := v % 65536
  let span := fun t => (t + 65536 - h.rd OPS_SQ_IDX_head w) % 65536
  !h.flag OPS_SQ_CFG_en w || decide (65536 ≤ v) || decide (span new < span (h.rd OPS_SQ_IDX_tail w)) ||
    decide (2 ^ h.rd OPS_SQ_CFG_log2 w < span new)

/-- An accepted doorbell: the new tail; with PD_OPS off its wake is requested (R76, R384). -/
def Hub.ringBell (h : Hub) (w v : Nat) : Hub := (h.wr OPS_SQ_IDX_tail (v % 65536) w).wantDomain 2

/-! ### Acceptance (R388, R389, R402) -/

/-- The byte address of entry `i` of a ring (R383). -/
def ringEntry (bank log2 base i : Nat) : Nat := bankAddr bank base + 16 * (i % 2 ^ log2)

/-- The byte address of a pool slot (R412). -/
def poolSlotAddr (slot : Nat) : Nat := bankAddr 28 0 + 16 * slot

/-- The next free slot in rotation, from slot `s` on; `n` are still to be looked at. -/
def freeSlot (size : Nat) (used : List Nat) : Nat → Nat → Option Nat
  | 0, _ => none
  | n + 1, s => if used.contains (s % size) then freeSlot size used n (s + 1) else some (s % size)

/-- The generation of a slot. -/
def Hub.genOf (h : Hub) (slot : Nat) : Nat := fileGet h.eng.gens slot

/-- The tag of an operation (R388). -/
def Op.tag (o : Op) : Nat := o.slot * 2 ^ 18 + o.gen

/-- A bank pointer's reach: `n` words from the offset stay in the bank. -/
def ptrFits (p n : Nat) : Bool := decide (p % 4096 + n ≤ 4096) && decide (bitsOf p 24 6 < 48) && bitsOf p 30 2 == 0

/-- A descriptor that keeps R387: kind, class, kind field and arguments. -/
def descOk (kind cls field w1 w2 : Nat) : Bool :=
  let n := field + 1
  let flat := fun (p : Nat) => bitsOf p 12 12 == 0
  cls < 3 &&
  match kind with
  | 0 => field == 0 && w1 == 0 && w2 == 0
  | 1 => ptrFits w1 (2 * n) && flat w1 && w2 == 0
  | 2 => ptrFits w1 n && flat w1 && ptrFits w2 n && flat w2
  | 3 => field == 0 && ptrFits w1 (bitsOf w1 12 12 + 1) && ptrFits w2 (bitsOf w1 12 12 + 1) && flat w2
  | 4 => field == 0 && ptrFits w1 (bitsOf w1 12 12 + 1)
  | 5 => decide (field < 2) && ptrFits w1 1 && flat w1
  | 6 => bitsOf field 0 2 != 3 && bitsOf field 6 1 == 0 && (bitsOf field 2 1 == 0 || bitsOf field 0 2 == 1) &&
      decide (w1 < 1024) && w2 == 0
  | 7 => decide (field < 2) && decide (w1 < 2 ^ 24) &&
      ptrFits w2 (2 * popCount 16 w1 + popCount 24 w1 - popCount 16 w1) && flat w2
  | 8 => decide (field < 16) && w1 == 0 && w2 == 0
  | 9 =>
    let words := bitsOf w2 12 12 + 1
    w1 % 4 == 0 &&
    (match field with
     | 0 => ptrFits w2 words
     | 1 => ptrFits w2 words && decide (words ≤ 64) && decide (w1 % 256 + 4 * words ≤ 256)
     | 2 => w1 % 4096 == 0 && ptrFits w2 words
     | _ => false)
  | 10 => ptrFits w2 (2 * n)
  | 11 => field == 0 && bitsOf w1 21 5 == 0 && w2 == 0
  | _ => false

/-- The word with an uncorrectable error among words 0 to 2 of an entry. -/
def Hub.entryBad (h : Hub) (a : Nat) : Option Nat := [a, a + 4, a + 8].find? h.isBad

/-- A descriptor of ward `w` is accepted (R388): copied into a slot, its tag written back, the head advanced. -/
def Hub.accept (h : Hub) (w : Nat) : Hub :=
  let head := h.rd OPS_SQ_IDX_head w
  let b := h.rd OPS_SQ_CFG_bank w
  if !h.flag OPS_SQ_CFG_en w || head == h.rd OPS_SQ_IDX_tail w || !h.mayAccept w || !h.bankFree b then h
  else
    match freeSlot h.poolSize (h.eng.ops.map (·.slot)) h.poolSize h.eng.nextSlot with
    | none => h
    | some s =>
      let a := ringEntry b (h.rd OPS_SQ_CFG_log2 w) (h.rd OPS_SQ_CFG_base w) head
      let bad := h.entryBad a
      let d := h.memWord a
      let w1 := h.memWord (a + 4)
      let w2 := h.memWord (a + 8)
      let gen := (h.genOf s + 1) % 2 ^ 18
      let kind := bitsOf d 27 5
      let o : Op := { slot := s, gen := gen, ward := w, kind := kind, cls := bitsOf d 25 2, irq := bitOf d 24, fence := bitOf d 23
                      field := bitsOf d 16 7, cookie := d % 65536, w1 := w1, w2 := w2
                      malformed := !descOk kind (bitsOf d 25 2) (bitsOf d 16 7) w1 w2
                      ecc := bad.isSome }
      let h := match bad with
        | some x => (h.ueFound b ((x - bankAddr b 0) / 4)).opsRing w
        | none => h
      let h := (((h.setMemWord (poolSlotAddr s) d).setMemWord (poolSlotAddr s + 4) w1).setMemWord (poolSlotAddr s + 8) w2)
      let h := h.setMemWord (a + 12) o.tag
      let h := { h with eng := { h.eng with
        ops := h.eng.ops ++ [o], nextSlot := (s + 1) % h.poolSize, gens := fileSet h.eng.gens s gen } }
      let h := (h.wr OPS_SQ_IDX_head (head + 1) w).countMod OPS_CNT_count 1 w
      let h := if h.rd OPS_CNT_count w == 0 then (h.put OPS_CNT_WRAP_flag true w).count OPS_CNT_WRAP_wraps 1 w else h
      h.wr OPS_POOL_STAT_peak (max (h.rd OPS_POOL_STAT_peak) h.eng.ops.length)

/-- DESCRIPTOR_ACCEPT (R388, R403). -/
def execDescriptorAccept (w : Fin 8) (s : State) : Host.Outcome State Fault Refusal :=
  s.on (fun h => if h.engRuns && (h.ward w == .active || h.ward w == .held) then h.accept w else h)

/-! ### Dispatch (R404, R405) -/

/-- Operation units (R404). -/
def Op.units (o : Op) : Nat :=
  match o.kind with
  | 1 => o.field + 1
  | 2 => o.field + 1
  | 10 => o.field + 1
  | 3 => (bitsOf o.w1 12 12 + 64) / 64
  | 4 => (bitsOf o.w1 12 12 + 64) / 64
  | 9 => if o.field == 0 then (bitsOf o.w2 12 12 + 256) / 256 else if o.field == 1 then 4 else 16
  | _ => 1

/-- The class an operation is dispatched in: an Urgent operation that finds no token goes as Normal (R405). -/
def Hub.effClass (h : Hub) (o : Op) : Nat := if o.cls == 0 && vget h.eng.tokens o.ward 0 == 0 then 1 else min o.cls 2

/-- The head operation of a ward in a class: the first in ring order that has not been dispatched. It is not ready while its
fence waits for an operation of the ward accepted before it, or its ward is not *Active* (R386, R404, R409). -/
def Hub.headOp (h : Hub) (c w : Nat) : Option Op :=
  if h.ward w != .active then none
  else
    match h.eng.ops.find? (fun o => o.ward == w && o.phase == .accepted && h.effClass o == c) with
    | none => none
    | some o =>
      if o.fence && (h.eng.ops.takeWhile (fun x => x.slot != o.slot)).any (fun x => x.ward == w && !x.dropped) then none else some o

/-- A class has work. -/
def Hub.hasWork (h : Hub) (c : Nat) : Bool := (List.range 8).any (fun w => (h.headOp c w).isSome)

/-- The class of the next dispatch (R404). -/
def Hub.nextClass (h : Hub) : Option Nat :=
  let u := h.hasWork 0
  let n := h.hasWork 1
  let b := h.hasWork 2
  if b && decide (31 ≤ h.eng.sinceBulk) then some 2
  else if (n || b) && decide (7 ≤ h.eng.sinceLower) then some (if n then 1 else 2)
  else if u then some 0 else if n then some 1 else if b then some 2 else none

/-- The visits of the deficit round robin in a class, up to the next dispatch: the operation, the deficits, the ward whose turn
it stays and whether its visit is credited. -/
def Hub.robin (h : Hub) (c : Nat) : Nat → Nat → Bool → Vector Nat 24 → Option (Op × Vector Nat 24 × Nat × Bool)
  | 0, _, _, _ => none
  | n + 1, w, cred, d =>
    let i := 8 * c + w
    match h.headOp c w with
    | none => h.robin c n ((w + 1) % 8) false (vset d i 0)
    | some o =>
      let d := if cred then d else vset d i (vget d i 0 + 4 * h.weightOf w)
      if o.units ≤ vget d i 0 then some (o, vset d i (vget d i 0 - o.units), w, true)
      else h.robin c n ((w + 1) % 8) false d

/-- A ward without work in a class has no deficit there (R404). -/
def Hub.trimDeficits (h : Hub) : Hub :=
  { h with eng := { h.eng with deficits := (List.range 24).foldl (fun d i =>
      if (h.headOp (i / 8) (i % 8)).isNone then vset d i 0 else d) h.eng.deficits } }

/-- A batch record commands something that is costed: it turns an output on whose safe state is OFF, or starts a tumbler
(R393). -/
def Hub.recordCosts (h : Hub) (a v : Nat) : Bool :=
  if 0x8000 ≤ a && a < 0x9000 && a % 0x100 == 0x20 then
    let c := (a - 0x8000) / 0x100
    h.isOut c && bitOf v 0 && !h.safeOn c
  else if 0xC000 ≤ a && a < 0xD000 && a % 0x200 == 0x20 then
    bitOf v 0 || (bitOf v 2 && !h.tmbRuns ((a - 0xC000) / 0x200))
  else false

/-- The records of a batch, as they stand in the bank (R387). -/
def Hub.records (h : Hub) (p n : Nat) : List (Nat × Nat) :=
  let a := bankAddr (bitsOf p 24 6) (p % 4096)
  (List.range n).map (fun i => (h.memWord (a + 8 * i), h.memWord (a + 8 * i + 4)))

/-- The pointer to a batch's records. -/
def Op.recPtr (o : Op) : Nat := if o.kind == 10 then o.w2 else o.w1

/-- An operation is costed (R387, R393). -/
def Hub.costed (h : Hub) (o : Op) : Bool :=
  match o.kind with
  | 1 => (h.records o.recPtr (o.field + 1)).any (fun r => h.recordCosts r.1 r.2)
  | 10 => (h.records o.recPtr (o.field + 1)).any (fun r => h.recordCosts r.1 r.2)
  | 6 => bitsOf o.field 0 2 == 0
  | 8 => true
  | 9 => o.field == 1 || o.field == 2
  | _ => false

/-- The heavy turn-ons of the first vector of a start of tumbler `t`, as a map (R292). -/
def Hub.startChs (h : Hub) (t entry : Nat) : Nat := chMap ((h.heavyUps t (h.firstVec t 17 entry)).flatMap h.chSet)

/-- The channels that a costed operation turns on, as a map: those of its records, those of its tumbler starts, and the channel of a
DIAG (R292, R393, R480). -/
def Hub.opChs (h : Hub) (o : Op) : Nat :=
  if o.kind == 8 then 2 ^ (o.field % 16)
  else if o.kind == 6 then h.startChs (bitsOf o.field 3 3) (o.w1 % 1024)
  else if o.kind == 1 || o.kind == 10 then
    (h.records o.recPtr (o.field + 1)).foldl (fun m r =>
      if 0x8000 ≤ r.1 && r.1 < 0x9000 && h.recordCosts r.1 r.2 then
        let c := (r.1 - 0x8000) / 0x100
        match h.mate c with | some x => setBit (setBit m c) x | none => setBit m c
      else if 0xC000 ≤ r.1 && r.1 < 0xD000 && h.recordCosts r.1 r.2 then
        m ||| h.startChs ((r.1 - 0xC000) / 0x200) (bitsOf r.2 16 10)
      else m) 0
  else 0

/-- The VF power a costed operation's tumbler starts bring, in mW (R480). -/
def Hub.opPvf (h : Hub) (o : Op) : Nat :=
  if o.kind == 6 then 10 * h.rd TMB_COST_mw10 (bitsOf o.field 3 3)
  else if o.kind == 1 || o.kind == 10 then
    (h.records o.recPtr (o.field + 1)).foldl (fun m r =>
      if 0xC000 ≤ r.1 && r.1 < 0xD000 && h.recordCosts r.1 r.2 then m + 10 * h.rd TMB_COST_mw10 ((r.1 - 0xC000) / 0x200)
      else m) 0
  else 0

/-- A TIMED operation with field records that turn channels on: turn-ons with a future instant (R483). -/
def Hub.timedOn (h : Hub) (o : Op) : Bool :=
  o.kind == 10 && (h.records o.recPtr (o.field + 1)).any (fun r => decide (r.1 < 0x9000) && h.recordCosts r.1 r.2)

/-- The class of a costed operation's candidate (R483): A for turn-ons with a future instant, C for a DIAG, else the operation's own (log
entry 99). -/
def Hub.opClass (h : Hub) (o : Op) : Nat := if o.kind == 8 then 2 else if h.timedOn o then 0 else min o.cls 2

/-- The candidate of a costed operation (R393, R480, R482). -/
def Hub.opCand (h : Hub) (o : Op) : Cand :=
  let chs := h.opChs o
  { kind := .operation, ref := o.slot, ward := o.ward, cls := h.opClass o, chs := chs, pvf := h.opPvf o
    ivdd := if o.kind == 9 then h.rd PWR_HOLD_CFG_load_ma else 0
    heavy := o.kind != 8 && (bitList 16 chs).any (fun c => h.flag OUT_CFG_heavy (h.lead c) && h.mode c != 8 && !(h.out c).sw)
    instant := if h.timedOn o then o.target else none }

/-- An operation leaves the ready ones (R389, R393, R394, R461): a descriptor that is malformed or could not be read retires,
a costed one waits for a decision, any other begins to execute. -/
def Hub.launch (h : Hub) (o : Op) : Hub :=
  match h.entryBad (poolSlotAddr o.slot) with
  | some x => (h.ueFound (addrBank x).1 (addrBank x).2).retire o.slot 9
  | none =>
    if o.ecc then h.retire o.slot 9
    else if o.malformed then h.retire o.slot 4
    else if h.costed o then (h.modOp o.slot (fun o => { o with phase := .costed })).submit (h.opCand o)
    else h.modOp o.slot (fun o => { o with phase := .admitted })

/-- The target of a TIMED operation at its dispatch (R399): the full value of which bits [43:0] match and which lies nearest the
timebase. -/
def timedTarget (tb low : Nat) : Nat :=
  let d := (low + 2 ^ 44 - tb % 2 ^ 44) % 2 ^ 44
  if d < 2 ^ 43 then (tb + d) % 2 ^ 64 else (tb + 2 ^ 64 - (2 ^ 44 - d)) % 2 ^ 64

/-- A dispatch (R404). -/
def Hub.dispatch (h : Hub) : Hub :=
  match h.nextClass with
  | none => h
  | some c =>
    match h.robin c 600 (vget h.eng.turn c 0) (vget h.eng.credited c false) h.eng.deficits with
    | none => h
    | some (o, d, w, cred) =>
      let e := h.eng
      let demoted := o.cls == 0 && c == 1
      let h := { h with eng := { e with
        deficits := d, turn := vset e.turn c w, credited := vset e.credited c cred
        sinceLower := if c == 0 then e.sinceLower + 1 else 0, sinceBulk := if c == 2 then 0 else e.sinceBulk + 1
        tokens := if c == 0 then vset e.tokens w (vget e.tokens w 0 - 1) else e.tokens } }
      let h := if demoted then h.count OPS_STAT_demoted 1 w else h
      let h := if o.kind == 10 then
          h.modOp o.slot (fun x => { x with target := some (timedTarget h.clk.tb (o.w1 + bitsOf o.w2 12 12 * 2 ^ 32)) })
        else h
      (h.launch o).trimDeficits

/-- DISPATCH (R404). -/
def execDispatch (s : State) : Host.Outcome State Fault Refusal :=
  s.on (fun h => if h.engRuns then h.dispatch else h)

/-! ### Completions (R390, R391) -/

/-- The operation of a slot leaves the pool. -/
def Hub.opGone (h : Hub) (slot : Nat) : Hub :=
  { h with eng := { h.eng with ops := h.eng.ops.filter (fun o => o.slot != slot) } }

/-- A retired operation's completion entry is written, words 1 to 3 before word 0; it waits while the ring is full. A completion
that a ward reset has discarded is not written (R409). -/
def Hub.complete (h : Hub) (slot : Nat) : Hub :=
  match h.opAt slot with
  | none => h
  | some o =>
    let w := o.ward
    if o.phase != .retiring then h
    else if o.dropped then h.opGone slot
    else
      let b := h.rd OPS_CQ_CFG_bank w
      if h.flag OPS_CQ_CFG_en w && (h.cqFull w || !h.bankFree b) then h
      else
        let tail := h.rd OPS_CQ_IDX_tail w
        let k := h.rd OPS_CQ_CFG_log2 w
        let a := ringEntry b k (h.rd OPS_CQ_CFG_base w) tail
        let phase := if tail / 2 ^ k % 2 == 0 then 1 else 0
        let h := if h.flag OPS_CQ_CFG_en w then
            let h := ((h.setMemWord (a + 4) o.tag).setMemWord (a + 8) o.r0).setMemWord (a + 12) o.r1
            let h := h.setMemWord a (o.code * 2 ^ 24 + o.kind * 2 ^ 19 + phase * 2 ^ 16 + o.cookie)
            h.wr OPS_CQ_IDX_tail (tail + 1) w
          else h
        let h := (h.opGone slot).countMod OPS_DONE_count 1 w
        let h := if o.irq then h.intEvent w 0 else h
        if h.cqFull w then h.intEvent w 1 else h

/-- COMPLETION (R390): the operation of a pool slot retires. -/
def execCompletion (slot : Fin 16384) (s : State) : Host.Outcome State Fault Refusal :=
  s.on (fun h => if h.engRuns then h.complete slot else h)

/-! ### Cancelling, consuming, tokens and trims (R383, R401, R405, R411) -/

/-- A ward's write to its OPS_CANCEL (R401). -/
def Hub.writeCancel (h : Hub) (w v : Nat) : Hub :=
  let h := h.wr OPS_CANCEL_tag v w
  match h.opAt (v / 2 ^ 18) with
  | none => h.wr OPS_STAT_cancel_res 2 w
  | some o =>
    if o.ward != w || o.dropped || o.gen != v % 2 ^ 18 then h.wr OPS_STAT_cancel_res 2 w
    else if o.phase == .accepted || o.phase == .costed || (o.kind == 10 && o.phase != .retiring) then
      let h := (h.dropCand (fun c => c.kind == .operation && c.ref == o.slot)).retire o.slot 6
      (h.wr OPS_STAT_cancel_res 1 w).trimDeficits
    else h.wr OPS_STAT_cancel_res 3 w

/-- OPS_CANCEL (R401). -/
def execOpsCancel (w : Fin 8) (v : Word) (s : State) : Host.Outcome State Fault Refusal :=
  s.on (fun h => if h.writable w then h.writeCancel w v.toNat else h)

/-- A ward's write to its OPS_CQ_IDX: the completion head (R383). -/
def Hub.writeCqIdx (h : Hub) (w v : Nat) : Hub := h.wr OPS_CQ_IDX_head (bitsOf v 16 16) w

/-- OPS_CQ_IDX_WRITE (R383). -/
def execOpsCqIdxWrite (w : Fin 8) (v : Word) (s : State) : Host.Outcome State Fault Refusal :=
  s.on (fun h => if h.writable w then h.writeCqIdx w v.toNat else h)

/-- TOKEN_REFILL (R405): a millisecond's tokens of ward `w`. -/
def execTokenRefill (w : Fin 8) (s : State) : Host.Outcome State Fault Refusal :=
  s.on (fun h => { h with eng := { h.eng with
    tokens := vset h.eng.tokens w (min (h.rd OPS_URG_depth w) (vget h.eng.tokens w 0 + h.rd OPS_URG_rate w)) } })

/-- A ward's write to its OPS_QOS_RT (R411): figures beyond the Blank's limits are taken as the nearest. -/
def Hub.writeQosRt (h : Hub) (w v : Nat) : Hub :=
  let cap := bitsOf v 20 12
  let wt := v % 16
  let cap := if cap == 0 then 0 else max (h.rd OPS_QOS_res16 w) (min cap (h.rd OPS_QOS_cap16 w))
  (h.wr OPS_QOS_RT_cap16_rt cap w).wr OPS_QOS_RT_weight_rt (min wt (h.rd OPS_QOS_weight w)) w

/-- OPS_QOS_RT_WRITE (R411): with page 6 open. -/
def execOpsQosRtWrite (w : Fin 8) (v : Word) (s : State) : Host.Outcome State Fault Refusal :=
  s.on (fun h => if h.writable w && bitOf (h.rd WRD_EXP_OPEN_open w) 6 then h.writeQosRt w v.toNat else h)

end Sys2Proof.Machine
end

