-- ==== Sys2Proof/Machine/Faults.lean ====
section
/-!
DEFINITION. The commands of the fault collector (chapter 17): occurrences, ends of causes, clears, forces and the
self-check.

What the spec leaves open here: DEDUCED, log entries 53, 101.
-/

namespace Sys2Proof.Machine

/-- The sources attributed to the owners of channels (R535). -/
def chSources : List Nat := [21, 22, 23, 24, 25, 26, 27, 28, 29]

/-- The wards that an occurrence of source `n` on a resource is attributed to (R535, R537): for a tumbler, a channel or the pair channel the
owner, W0 where none owns it; for the other sources not attributed to W0 the ward concerned, W0 where it is not defined. -/
def Hub.attribution (h : Hub) (n res ward : Nat) : Nat :=
  if w0Sources.contains n then 1
  else if chSources.contains n then (if res < 16 then h.ownersOf (2 ^ res) else 1)
  else if n == 30 || n == 31 || n == 32 then 2 ^ ((h.tmbOwner res).getD 0)
  else if n == 37 then 2 ^ ((h.chOwner (h.rd LSY_PAIR_ch)).getD 0)
  else if !h.defined ward then 1
  else if n == 50 then setBit (2 ^ ward) 0
  else 2 ^ ward

/-- A source occurs on a resource (R538): an event source as an event, any other by the rise of its cause. -/
def Hub.faultAt (h : Hub) (n res ward detail : Nat) : Hub :=
  let wards := h.attribution n res ward
  if eventSources.contains n then h.event n wards detail else h.raise n res wards detail

/-- FAULT_OCCURRENCE (R538, R544): source `n` occurs on a resource (16: none), in a state in which the collector runs. -/
def execFaultOccurrence (n : Fin 62) (res : Fin 17) (ward : Fin 8) (detail : Word) (s : State) :
    Host.Outcome State Fault Refusal :=
  s.on (fun h => if h.logicRuns then h.faultAt n res ward detail.toNat else h)

/-- The cause of source `n` cannot end now: R535 says how long it lasts (the holdover, a logic-die reset, a boot, a passing proof or LBIST, the
tumbler's state 5), and that has not passed. -/
def Hub.causeLasts (h : Hub) (n res : Nat) : Bool :=
  match n with
  | 6 => h.flag CLK_STAT_holdover || h.clk.mclkLost
  | 30 => h.rd TMB_STAT_state res == 5
  | 45 => !h.dbt.failed.isEmpty
  | _ => n == 7 || n == 49 || n == 52 || n == 53

/-- The cause of source `n` ends on a resource (R539). The field supervisor ends those of the field supplies: VF_UV at 9.0 V rising, VF_OV at
37.0 V falling (R66); VREG5 (`res` 0), VREGL (1) or both (16) are back in range, while VREG_FAIL lasts until the next field die reset (R70). -/
def Hub.causeEnds (h : Hub) (n res : Nat) : Hub :=
  match n with
  | 1 => { h with sup := { h.sup with vfUv := false } }.fieldFall 17 0
  | 2 => { h with sup := { h.sup with vfOv := false } }.fieldFall 18 0
  | 3 =>
    { h with sup := { h.sup with
      vreg5Ok := h.sup.vreg5Ok || (res != 1 && h.sup.fieldUp), vreglOk := h.sup.vreglOk || (res != 0 && h.sup.fieldUp) } }
  | _ => if h.causeLasts n res then h else h.lower n res

/-- FAULT_CAUSE_END (R539): the cause of source `n` ends on a resource. -/
def execFaultCauseEnd (n : Fin 62) (res : Fin 17) (s : State) : Host.Outcome State Fault Refusal :=
  s.on (fun h => h.causeEnds n res)

/-- Source `n` comes from the field die (R545). -/
def isFieldSource (n : Nat) : Bool := (List.range 40).any (fun p => (fieldSources p).contains n)

/-- The positions whose sticky flag may be cleared after source `n` cleared: no status is set among the sources they map to
(R545). -/
def Hub.stickyToClear (h : Hub) (n : Nat) : List Nat :=
  (List.range 40).filter (fun p => (fieldSources p).contains n && (fieldSources p).all (fun m => !h.fltSet m))

/-- What follows when the status of source `n` has cleared: the field die's sticky flags are cleared by REQ (R545), and
FLT_FIRST.valid falls with the last status of all (R540). -/
def Hub.statusCleared (h : Hub) (n : Nat) : Hub :=
  let h := forAll (h.stickyToClear n) (fun h p => h.request (.clearSticky p)) h
  if h.anySet then h else h.put FLT_FIRST_valid false

/-- The mask of source `n` set. -/
def Hub.setMask (h : Hub) (n m : Nat) : Hub := { h with flt := { h.flt with mask := vset h.flt.mask n m } }

/-- One bit written as 1 to FLT_STATUS by a ward (R542, R550). -/
def Hub.clearFault (h : Hub) (w n : Nat) : Hub :=
  let lost := isFieldSource n && !h.hinge.upL && h.hinge.everL
  if w == 0 then
    if h.fltLive n || lost then h.count FLT_CLR_REFUSED_live
    else if h.fltSet n then (h.setMask n 0).statusCleared n else h
  else if !bitOf (h.fltMask n) w then h.count FLT_CLR_REFUSED_denied
  else if lost || (h.fltLive n && bitOf (h.causeWards n) w) then h.count FLT_CLR_REFUSED_live
  else
    let m := clrBit (h.fltMask n) w
    if m == 0 then (h.setMask n 0).statusCleared n else h.setMask n m

/-- A W1C write of a ward to FLT_STATUS0 or FLT_STATUS1: each bit written as 1 is judged on its own (R542). -/
def Hub.writeFltStatus (h : Hub) (w word v : Nat) : Hub :=
  forAll ((bitList 32 v).filter (fun b => decide (32 * word + b < 62))) (fun h b => h.clearFault w (32 * word + b)) h

/-- FAULT_CLEAR (R542). -/
def execFaultClear (w : Fin 8) (word : Fin 2) (v : Word) (s : State) : Host.Outcome State Fault Refusal :=
  s.on (fun h => if h.writable w then h.writeFltStatus w word v.toNat else h)

/-- One force bit written (R546): 1 makes the cause present, with its occurrence flagged as forced; 0 removes it. A source
that covers channels or tumblers is forced on none of them and so attributed to W0 (R537). -/
def Hub.forceBit (h : Hub) (n : Nat) (on : Bool) : Hub :=
  let was := h.causes n != 0
  let h1 := h.put (FLT_FORCE_force n) on
  if on && !was then h1.occur n 1 detailOpen true
  else if on && eventSources.contains n && !h.flag (FLT_FORCE_force n) then h1.occur n 1 detailOpen true
  else h1

/-- W0's write to FLT_FORCE0 or FLT_FORCE1 (R546): it takes effect while page 0 is open. -/
def Hub.writeFltForce (h : Hub) (w word v : Nat) : Hub :=
  if w == 0 && bitOf (h.rd WRD_EXP_OPEN_open 0) 0 then
    forAll ((List.range 32).filter (fun b => decide (32 * word + b < 62)))
      (fun h b => if bitOf (h.rd WRD_EXP_OPEN_open 0) 0 then h.forceBit (32 * word + b) (bitOf v b) else h) h
  else h

/-- FLT_FORCE (R546). -/
def execFltForce (word : Fin 2) (v : Word) (s : State) : Host.Outcome State Fault Refusal :=
  s.on (fun h => if h.writable 0 then h.writeFltForce 0 word v.toNat else h)

/-- FLT_SELF (R553): the store copies disagree; the agreeing copy carries on and the hub enters *Safe*. `second` says that
the second copy is the one whose check code agrees; on the field die the FAULT frame of position 36 brings the news. -/
def execFltSelf (field second : Bool) (s : State) : Host.Outcome State Fault Refusal :=
  s.on (fun h =>
    if field then (if h.sup.fieldUp then h.fieldEvent 36 0 0 else h)
    else if !h.logicRuns then h
    else
      let h := if second then h.put FLT_STAT_copy_b true else h
      h.event 61 1 detailOpen)

end Sys2Proof.Machine
end

