-- ==== Sys2Proof/Machine/Thermal.lean ====
section
/-!
DEFINITION. The thermal model (R473 to R477): powers, node rises, junction estimates and predicted peaks; the ledger's counters that
each update of the model feeds (R649 to R651); the thermal warning (R495).
Rises and temperatures inside are in µK and µ°C, powers of channels in µW, powers on VF in mW.

What the spec leaves open here: DESIGN CHOICE, log entries 40, 41; DEDUCED, log entries 50, 95.
-/

namespace Sys2Proof.Machine

/-! ### Exponentials in fixed point -/

/-- Terms of the series of e^-x for x = num / den below 1, from a term in 2^-40 units up: even places add, odd ones subtract. -/
def expTerms (num den : Nat) : Nat → Nat → Nat → Int
  | 0, _, _ => 0
  | n + 1, k, t => (t : Int) - expTerms num den n (k + 1) (t * num / (den * (k + 1)))

/-- e^-(num / den) in 2^-40 units (log entry 40). -/
def expNeg (num den : Nat) : Nat :=
  if 28 < num / den then 0
  else
    let whole := (List.range (num / den)).foldl (fun m _ => m * 404487723188 / 2 ^ 40) (2 ^ 40)
    whole * (expTerms (num % den) den 20 0 (2 ^ 40)).toNat / 2 ^ 40

/-- A node's rise after a time: power × R in µK, the rise before it, and the decay factor (R477). -/
def nodeRise (pr rise e : Nat) : Nat := (pr * (2 ^ 40 - e) + rise * e) / 2 ^ 40

/-! ### Powers (R473, R476, R479) -/

/-- RDS at a temperature in µ°C, in 0.01 mΩ (R476, R498). -/
def Hub.rdsAt (h : Hub) (t : Int) : Nat :=
  (100 * (h.rd SCH_MODEL2_rds25 : Int) + (h.rd SCH_MODEL2_slope : Int) * (t - 25000000) / 1000000).toNat

/-- The dissipation of channel `c` in µW, from its pin voltage in 10 mV, its current in steps of 0.78125 mA for an output and 1 µA for an
input, VF in 10 mV, and its junction in µ°C (R473). An off switch that still carries current is clamping. -/
def Hub.dissipation (h : Hub) (c : Nat) (v : Int) (i vf : Nat) (tj : Int) : Nat :=
  if h.fIsOut c then
    let o := h.out c
    if o.sw && !o.limiting && o.pulse.isNone then i * i * 625 * h.rdsAt tj / 102400000
    else (((vf : Int) - v) * i * 125 / 16).toNat
  else if h.fIsIn c then (v * i / 100).toNat
  else 0

/-- A channel's power on VF in mW (R479). -/
def Hub.supplyPower (h : Hub) (c i vf : Nat) : Nat :=
  if h.fIsOut c then vf * i / 128 else if h.fIsIn c then vf * i / 100000 else 0

/-! ### Reference temperatures and junctions (R474, R475) -/

/-- The valid sensor with the highest reading, of a list of readings of S0 to S5. -/
def hottest (temps : List Int) (bad : Nat) : Option Nat :=
  ((List.range 6).filter (fun k => !bitOf bad k)).foldl (fun (best : Option Nat) k =>
    match best with
    | none => some k
    | some b => if temps.getD b 0 < temps.getD k 0 then some k else best) none

/-- The sensor that stands for sensor `g`: itself, or the highest valid one where Deadbolt has marked it invalid (R474). -/
def refSensor (temps : List Int) (bad g : Nat) : Nat := if bitOf bad g then (hottest temps bad).getD g else g

/-- The reference temperature of group `g` on the field die, in µ°C. -/
def Hub.fTref (h : Hub) (g : Nat) : Int :=
  125000 * vget h.sch.temps (refSensor ((List.range 6).map (fun k => vget h.sch.temps k 0)) h.dbt.badSensors g) 0

/-- The junction estimate of channel `c` on the field die, in µ°C (R475). -/
def Hub.fTj (h : Hub) (c : Nat) : Int :=
  h.fTref (c / 4) + (vget h.sch.rise1 c 0 + vget h.sch.rise2 c 0 + vget h.sch.rise3 (c / 4) 0 : Nat)

/-- The sensor readings that the logic die works with: S0 to S5 as MEAS frames last carried them, L0 and L1 its own. -/
def Hub.sensor (h : Hub) (k : Nat) : Int := if k < 6 then vget h.sch.view.temps k 0 else vget h.sch.temps k 0

/-- The sensor that stands for sensor `g` in the scheduler's predictions. -/
def Hub.viewSensor (h : Hub) (g : Nat) : Nat := refSensor h.sch.view.temps.toList h.sch.view.bad g

/-- The estimated junction of channel `c` in µ°C, as the logic die holds it. -/
def Hub.viewTj (h : Hub) (c : Nat) : Int :=
  let x := h.sch.view
  125000 * vget x.temps (h.viewSensor (c / 4)) 0 + (vget x.rise1 c 0 + vget x.rise2 c 0 + vget x.rise3 (c / 4) 0 : Nat)

/-- SCH_TJn.now, in 0.125 °C (R475). -/
def Hub.tjNow (h : Hub) (c : Nat) : Int := h.viewTj c / 125000

/-! ### The ledger's share of an update (R649 to R651) -/

/-- The stress increments of R650 for 100 µs, in 2^-48 units, from -40 °C up in steps of 1 °C. -/
def stressPart0 : List Nat :=
  [1073, 1245, 1443, 1671, 1932, 2230, 2572, 2963, 3409, 3918, 4498, 5158, 5907, 6759, 7724, 8818, 10056, 11456,
   13037, 14821, 16833, 19098, 21647, 24512, 27729, 31338, 35384, 39915, 44985, 50652, 56982, 64046, 71921, 80696,
   90462, 101324, 113395, 126798, 141669, 158155, 176416, 196630, 218987, 243696, 270984, 301097, 334304, 370897,
   411190, 455529, 504283, 557856, 616683, 681237, 752026, 829601, 914558, 1007538, 1109232, 1220387, 1341807]

/-- The stress increments of R650 for 100 µs, in 2^-48 units, from 21 °C up in steps of 1 °C. -/
def stressPart1 : List Nat :=
  [1474355, 1618964, 1776633, 1948438, 2135534, 2339162, 2560651, 2801429, 3063025, 3347077, 3655338, 3989685,
   4352125, 4744804, 5170013, 5630201, 6127980, 6666138, 7247646, 7875674, 8553595, 9285004, 10073724, 10923825,
   11839632, 12825745, 13887048, 15028729, 16256294, 17575586, 18992799, 20514501, 22147653, 23899625, 25778221,
   27791701, 29948801, 32258762, 34731348, 37376880, 40206255, 43230981, 46463201, 49915728, 53602073, 57536479,
   61733955, 66210313, 70982203, 76067152, 81483601, 87250951, 93389602, 99920997, 106867670, 114253291, 122102717,
   130442040, 139298641, 148701246, 158679979]

/-- The stress increments of R650 for 100 µs, in 2^-48 units, from 82 °C up in steps of 1 °C. -/
def stressPart2 : List Nat :=
  [169266421, 180493671, 192396408, 205010951, 218375330, 232529353, 247514674, 263374868, 280155503, 297904220,
   316670811, 336507303, 357468038, 379609763, 402991720, 427675738, 453726323, 481210763, 510199224, 540764853,
   572983885, 606935751, 642703194, 680372376, 720033006, 761778452, 805705874, 851916343, 900514980, 951611087,
   1005318284, 1061754653, 1121042881, 1183310408, 1248689584, 1317317819, 1389337745, 1464897381, 1544150300,
   1627255799, 1714379074, 1805691404, 1901370327, 2001599834, 2106570561, 2216479979, 2331532601, 2451940184,
   2577921939, 2709704743, 2847523360, 2991620663, 3142247861, 3299664730, 3464139854, 3635950862, 3815384678,
   4002737770, 4198316408, 4402436926, 4615425986]

/-- The stress increments of R650 for 100 µs, in 2^-48 units, from 143 °C up in steps of 1 °C. -/
def stressPart3 : List Nat :=
  [4837620852, 5069369663, 5311031721, 5562977771, 5825590299, 6099263825, 6384405210, 6681433961, 6990782546,
   7312896713, 7648235818, 7997273148, 8360496265, 8738407340, 9131523508, 9540377213, 9965516573, 10407505741,
   10866925274, 11344372515, 11840461968, 12355825688, 12891113679, 13446994287, 14024154609, 14623300907,
   15245159021, 15890474794, 16560014506, 17254565305, 17974935652, 18721955765, 19496478081, 20299377710,
   21131552905, 21993925531, 22887441553, 23813071509, 24771811015, 25764681252, 26792729477, 27857029530,
   28958682354, 30098816515, 31278588733, 32499184419, 33761818214, 35067734540, 36418208154, 37814544708,
   39258081317, 40750187133, 42292263926, 43885746665, 45532104117, 47232839443, 48989490801, 50803631960]

/-- The stress increment of R650 for 100 µs at a temperature in µ°C, in 2^-48 units, by whole degrees (log entry 41). -/
def stressOf (t : Int) : Nat :=
  (stressPart0 ++ stressPart1 ++ stressPart2 ++ stressPart3).getD (max 0 (min 240 (t / 1000000 + 40))).toNat 0

/-- What a thermal-cycle counter tracks next: the extreme, whether it is a high, and whether a cycle is counted (R651). -/
def cycleStep (ext : Option Int) (rising : Bool) (t : Int) : Int × Bool × Bool :=
  match ext with
  | none => (t, false, false)
  | some e =>
    if rising then (if t ≤ e - 40000000 then (t, false, true) else (max e t, true, false))
    else if e + 40000000 ≤ t then (t, true, false)
    else (min e t, false, false)

/-- The counters of channel `c` that an update of the model feeds: on-time, stress, limit energy and thermal cycles (R649). -/
def Hub.ledgerUpdate (h : Hub) (c power : Nat) : Hub :=
  if h.bonded ≤ c then h
  else
    let o := h.out c
    let r := vget h.life.resid c {}
    let t := h.fTj c
    let on := r.on + b2n o.sw
    let st := r.stress + stressOf t
    let en := r.energy + (if o.limiting then power else 0)
    let cy := cycleStep r.ext r.rising t
    let r : ChResid := { on := on % 10000, stress := st % 2 ^ 48, energy := en % 10 ^ 9, ext := some cy.1, rising := cy.2.1 }
    ({ h with life := { h.life with resid := vset h.life.resid c r } }).modAcc c (fun a => { a with
      onTime := satAdd (2 ^ 32 - 1) a.onTime (on / 10000)
      stress := satAdd (2 ^ 32 - 1) a.stress (st / 2 ^ 48)
      energy := satAdd (2 ^ 32 - 1) a.energy (en / 10 ^ 9)
      tcycles := satAdd (2 ^ 32 - 1) a.tcycles (b2n cy.2.2) })

/-- The logic die's own stress, from the hotter of L0 and L1 (R649). -/
def Hub.dieStress (h : Hub) : Hub :=
  if !h.logicRuns then h
  else
    let st := h.life.dieResid + stressOf (125000 * h.logicTemp)
    { h with
      life := { h.life with dieResid := st % 2 ^ 48 }
      ret := { h.ret with life := { h.ret.life with dieStress := satAdd (2 ^ 32 - 1) h.ret.life.dieStress (st / 2 ^ 48) } } }

/-! ### The thermal warning (R495) -/

/-- THERM_WARN judged on the sensors: raised at 135 °C on the logic die or 150 °C on the field die, ended 20 °C below each. -/
def Hub.judgeWarn (h : Hub) : Hub :=
  let f := (List.range 6).foldl (fun m k => max m (h.sensor k)) (h.sensor 0)
  let hotL := decide (1080 ≤ h.logicTemp) || (h.sch.dieHot && decide (920 < h.logicTemp))
  let hotF := decide (1200 ≤ f) || (h.sch.fieldHot && decide (1040 < f))
  let h := { h with sch := { h.sch with dieHot := hotL, fieldHot := hotF } }.put SCH_STAT_warn (hotL || hotF)
  if hotL || hotF then h.raise 44 16 1 detailOpen else h.lower 44 16

/-- The logic die takes the field die's model, as MEAS frames carry it, while the link is up (R473, R494). -/
def Hub.takeMeas (h : Hub) : Hub :=
  if !h.hinge.upL then h
  else
    let x := h.sch
    { h with sch := { x with view := {
        rise1 := x.rise1, rise2 := x.rise2, rise3 := x.rise3, power := x.power, vfPower := x.vfPower
        temps := Vector.ofFn (fun k : Fin 6 => vget x.temps k 0), past := x.past, bad := h.dbt.badSensors } } }

/-- THERM_WARN (R495): a sensor reading in 0.125 °C, of S0 to S5, L0 or L1, that is judged against the warning. -/
def execThermWarn (sensor : Fin 8) (t : BitVec 16) (s : State) : Host.Outcome State Fault Refusal :=
  s.on (fun h => if h.logicRuns then (h.setTemp sensor t.toInt).takeMeas.judgeWarn else h)

/-! ### The update (R473, R475, R479) -/

/-- One 100 µs update of the field die's model: the channels' pin voltages in 10 mV and currents, the field die's own supply current in mA,
VF in 10 mV (R473, R475, R479). -/
def Hub.modelUpdate (h : Hub) (v : List Int) (i : List Nat) (own vf : Nat) : Hub :=
  let p := (List.range 16).map (fun c => h.dissipation c (v.getD c 0) (i.getD c 0) vf (h.fTj c))
  let pv := (List.range 16).map (fun c => h.supplyPower c (i.getD c 0) vf)
  let e1 := expNeg 1 (max 1 (h.rd SCH_MODEL1_tau1))
  let e2 := expNeg 1 (10 * max 1 (h.rd SCH_MODEL1_tau2))
  let e3 := expNeg 1 (100 * max 1 (h.rd SCH_MODEL1_tau3))
  let group := fun g => (List.range 4).foldl (fun m k => m + p.getD (4 * g + k) 0) 0
  let inputs := (List.range 16).foldl (fun m c => if h.fIsIn c then m + pv.getD c 0 else m) 0
  let outs := Vector.ofFn (fun c : Fin 16 => if h.fIsOut c then pv.getD c 0 else 0)
  let x := h.sch
  let h := { h with sch := { x with
      rise1 := Vector.ofFn (fun c : Fin 16 => nodeRise (p.getD c 0 * h.rd SCH_MODEL0_r1 / 10) (vget x.rise1 c 0) e1)
      rise2 := Vector.ofFn (fun c : Fin 16 => nodeRise (p.getD c 0 * h.rd SCH_MODEL0_r2 / 10) (vget x.rise2 c 0) e2)
      rise3 := Vector.ofFn (fun g : Fin 4 => nodeRise (group g * h.rd SCH_MODEL0_r3 / 10) (vget x.rise3 g 0) e3)
      power := Vector.ofFn (fun c : Fin 16 => p.getD c 0)
      vfPower := Vector.ofFn (fun c : Fin 16 => pv.getD c 0)
      pWindow := if h.hinge.upL then ((vf * own / 100 + inputs, outs) :: x.pWindow).take 10 else x.pWindow } }
  (List.range 16).foldl (fun h c => h.ledgerUpdate c (p.getD c 0)) h

/-- One round of ADC-A on the field die: VF as it is known from now on, the update of the model, and the MEAS frame that carries the round to
the logic die (R131, R473). The payload of a MEAS frame is internal. -/
def Hub.fieldRound (h : Hub) (v : List Int) (i : List Nat) (own vf : Nat) : Hub :=
  (({ h with sup := { h.sup with vf := 10 * vf } }).modelUpdate v i own vf).sendF { typ := 0x60, payload := 0, prio := 5 }

/-- THERMAL_MODEL_UPDATE (R473): the readings of one 100 µs round of ADC-A: each channel's pin voltage in 10 mV, signed, and its current,
the field die's own supply current in mA, VF, and the sensors S0 to S5, L0 and L1 in 0.125 °C; and VHOLD, which is measured as often (R100). With
the field die down only what lies on the logic die is read. Every reading is judged against the thresholds of R672 too. -/
def execThermalModelUpdate (v : List (BitVec 16)) (i : List (BitVec 12)) (own : BitVec 16) (rails : RoundRails) (temps : List (BitVec 16)) (s : State) :
    Host.Outcome State Fault Refusal :=
  s.on (fun h =>
    let set := fun (h : Hub) (k : Nat) => match temps[k]? with | some t => h.setTemp k t.toInt | none => h
    let h := [6, 7].foldl set h
    let h := if h.sup.fieldUp then ((List.range 6).foldl set h).fieldRound (v.map BitVec.toInt) (i.map BitVec.toNat) own.toNat rails.vf.toNat else h
    let h := (if h.sup.fieldUp && h.hinge.upL then h.wr PWR_VF_vf rails.vf.toNat else h).dieStress
    let h := if h.sup.fieldUp then h.judgeGlobal else h
    if h.logicRuns then (List.range 8).foldl Hub.judgeHalt (if h.sup.pd.isSome then h else h.measureVhold rails.vhold.toNat).takeMeas.judgeWarn.judgeWear else h)

end Sys2Proof.Machine
end

