-- ==== Sys2Proof/Machine/HingeRx.lean ====
section
/-!
DEFINITION. A frame that arrives on a Hinge lane (chapter 05, R128 to R133, R136): its checks, the errors counted, the lane's
return to service, and what each type does with the die that receives it.

What the spec leaves open here: DEDUCED, log entries 12, 14, 79; DESIGN CHOICE, log entry 13.
-/

namespace Sys2Proof.Machine

/-- The seven bytes of a frame under its CRC, in transmit order (R129). -/
def hingeBytes (f : Nat) : List Nat := (List.range 7).map (fun i => bitsOf f (56 - 8 * i) 8)

/-- The frame types that a direction carries (R131); the rest are unused. -/
def hingeType (lane typ : Nat) : Bool :=
  if typ == 0xBC || typ == 0x12 || typ == 0x13 then true
  else if lane < 2 then
    [0x10, 0x11, 0x20, 0x21, 0x30, 0x32].contains typ || (decide (0x40 ≤ typ) && decide (typ < 0x50)) ||
      (decide (0x80 ≤ typ) && decide (typ < 0x88))
  else [0x28, 0x29, 0x31, 0x38, 0x39, 0x60, 0x70].contains typ || (decide (0x50 ≤ typ) && decide (typ < 0x60))

/-- A frame as it was built from type, payload and sequence number (R128, R129). -/
def hingeFrame (typ payload seq : Nat) : Nat :=
  let top := typ * 2 ^ 56 + payload % 2 ^ 40 * 2 ^ 16 + seq % 16 * 2 ^ 12 + 0xA * 2 ^ 8
  top + crc8 (hingeBytes top)

/-- A frame is free of the errors of R130 that it shows by itself. -/
def hingeGood (lane f : Nat) (codeOk : Bool) : Bool :=
  codeOk && crc8 (hingeBytes f) == f % 2 ^ 8 && bitsOf f 8 4 == 0xA && hingeType lane (bitsOf f 56 8)

/-- The frames missing before one that was received: the difference modulo 16 (R130). -/
def hingeMissing (x : LaneSt) (seq : Nat) : Nat := if x.synced then (seq + 16 - x.expect) % 16 else 0

/-- The errors among the last 64 frame positions (R136). -/
def windowErrors (w : Nat) : Nat := (bitList 64 w).length

/-- A retrained lane returns to service after 256 good frames (R136). -/
def Hub.laneReturn (h : Hub) (lane : Nat) : Hub :=
  let h := h.modLane lane (fun x => { x with
    inService := true, waiting := false, down := false, window := 0, goodRun := 0, lowRun := 0 })
  let h := if lane < 2 then h.fieldFall (25 + lane) 0 else h.lower 12 (18 + lane)
  h.checkLink

/-- A lane's record with a frame taken: the positions missing, the position of this one, the run of good frames. -/
def LaneSt.take (x : LaneSt) (good : Bool) (missing seq : Nat) : LaneSt :=
  let w := x.window * 2 ^ missing + (2 ^ missing - 1)
  { x with
    window := (2 * w + b2n (!good)) % 2 ^ 64
    goodRun := if good && missing == 0 then x.goodRun + 1 else b2n good
    expect := (if good then seq + 1 else x.expect + 1) % 16
    synced := x.synced || good }

/-- The errors of a frame counted on its lane, and what they do to the lane (R130, R136). A lane that waits for its return is declared down
again by the same rule, and counted (log entry 79). -/
def Hub.laneTake (h : Hub) (lane : Nat) (good : Bool) (seq : Nat) : Hub :=
  let missing := if good then hingeMissing (h.lane lane) seq else 0
  let errors := missing + b2n (!good)
  let h := if h.logicRuns && errors != 0 then h.count HNG_ERR_count errors lane else h
  let h := h.modLane lane (fun x => x.take good missing seq)
  let x := h.lane lane
  if 8 ≤ windowErrors x.window then h.laneDown lane
  else if x.waiting && 256 ≤ x.goodRun then h.laneReturn lane
  else h

/-- A first copy that came on the other lane of the direction, of this type and payload (R133). -/
def copyOf (lane typ payload : Nat) (f : HFrame) : Bool :=
  f.typ == typ && f.payload == payload && f.prio != lane && f.prio / 2 == lane / 2

/-- The margins of FL0 and FL1 that a MARGIN frame reports, in the format of HNG_MARGIN (R131, R150). -/
def Hub.recvMargin (h : Hub) (payload : Nat) : Hub :=
  if !h.logicRuns || !h.hinge.upL then h else forAll [2, 3] (fun h lane => h.showMargin lane (bitsOf payload (8 * lane) 8)) h

/-- An IDLE frame of the field die: with it the logic die learns the state of the logic-to-field lanes, and a loss of the link that the field
die has declared (R135, R136, R137). -/
def Hub.recvIdle (h : Hub) : Hub := if h.hinge.everF && !h.hinge.upF then h.showLanes.loseL else h.showLanes

/-- What a frame does on the field die, by type (R131). An IDLE frame carries the logic die's state, which no rule has the field die act on. -/
def Hub.actF (h : Hub) (lane typ payload stamp : Nat) (late : Bool) : Hub :=
  if typ == 0x10 then h.takeTimeS lane payload
  else if typ == 0x11 then h.takeTimeL lane (payload % 2 ^ 24)
  else if typ == 0x20 || typ == 0x21 then h.recvOutCmd (typ - 0x20) (payload / 2 ^ 32) (payload % 2 ^ 32)
  else if typ == 0x30 then h.recvHb true payload stamp
  else if typ == 0x32 then h.recvBoltRel
  else if 0x40 ≤ typ && typ < 0x50 then h.recvReq (typ - 0x40)
  else if 0x80 ≤ typ && typ < 0x88 then h.recvVec (typ - 0x80) payload late
  else h

/-- What a frame does on the logic die, by type (R131). -/
def Hub.actL (h : Hub) (typ payload : Nat) (stamp : Nat) : Hub :=
  if typ == 0x28 || typ == 0x29 then h.recvOutStat (typ - 0x28) (payload / 2 ^ 32) (payload % 2 ^ 32)
  else if typ == 0x31 then h.recvHb false payload stamp
  else if typ == 0x38 then h.recvFault (payload / 2 ^ 32) (bitsOf payload 16 16) (bitOf payload 15) (payload % 2 ^ 32)
  else if typ == 0x39 then h.recvFsum payload
  else if 0x50 ≤ typ && typ < 0x60 then h.recvRsp (typ - 0x50)
  else if typ == 0x70 then h.recvMargin payload
  else if typ == 0x60 then h.takeMeas
  else if typ == 0xBC then h.recvIdle
  else h

/-- A good frame passed on by type; of two copies the second is discarded (R131, R133). -/
def Hub.pass (h : Hub) (lane typ payload stamp : Nat) (late : Bool) : Hub :=
  let h := h.landOn lane typ payload
  let twice := sentTwice typ && h.bothLanes lane
  if twice && h.hinge.dups.any (copyOf lane typ payload) then
    { h with hinge := { h.hinge with dups := h.hinge.dups.eraseP (copyOf lane typ payload) } }
  else
    let h := if twice then
        { h with hinge := { h.hinge with
          dups := ({ typ := typ, payload := payload, prio := lane } :: h.hinge.dups).take 16 } }
      else h
    if lane < 2 then (if h.sup.fieldUp then h.actF lane typ payload stamp late else h)
    else if h.logicRuns then h.actL typ payload stamp else h

/-- A frame arrives on a lane. A lane that has not trained counts and passes nothing (R130). -/
def Hub.frameIn (h : Hub) (lane f : Nat) (codeOk : Bool) (stamp : Nat) (late : Bool) : Hub :=
  let x := h.lane lane
  if !x.inService && !x.waiting then h
  else
    let good := hingeGood lane f codeOk
    let h := h.laneTake lane good (bitsOf f 12 4)
    if good then h.pass lane (bitsOf f 56 8) (bitsOf f 16 40) stamp late else h

/-- HINGE_FRAME_RECEIVE (R130): a frame, whether its 8b/10b codes and disparity hold, whether K symbols stand only where they may, the arrival on the receiver's own oscillator, and whether a vector came
after its cycle start. -/
def execHingeFrameReceive (lane : Fin 4) (frame : BitVec 64) (codeOk controlOk : Bool) (stamp : Word) (late : Bool) (s : State) :
    Host.Outcome State Fault Refusal :=
  s.on (fun h => h.frameIn lane frame.toNat (codeOk && controlOk) stamp.toNat late)

end Sys2Proof.Machine
end

