-- ==== Sys2Proof/Machine/Interrupts.lean ====
section
/-!
DEFINITION. The interrupt commands (chapter 13, R419 to R425, R437, R438).
-/

namespace Sys2Proof.Machine

/-- The bits that are interrupt sources of a ward (R419): 7, 24 to 29 and 31 are reserved, 22 and 23 are W0's only. -/
def intSource (w bit : Nat) : Bool := bit < 7 || (8 ≤ bit && bit < 22) || (w == 0 && (bit == 22 || bit == 23)) || bit == 30

/-- INT_EVENT (R419, R421): an interrupt source of a ward occurs. -/
def execIntEvent (w : Fin 8) (bit : Fin 32) (s : State) : Host.Outcome State Fault Refusal :=
  s.on (fun h => if intSource w bit then h.intEvent w bit else h)

/-- The moderation interval of ward `w` ends: a held event is released if the ward still has a request pending (R421). -/
def Hub.modExpiry (h : Hub) (w : Nat) : Hub :=
  if (h.wint w).held && h.modOver w then
    if h.intPending w && h.intServed then h.intRelease w else h.modInt w (fun i => { i with held := false })
  else h

/-- MODERATION_EXPIRY (R421). -/
def execModerationExpiry (w : Fin 8) (s : State) : Host.Outcome State Fault Refusal :=
  s.on (fun h => h.modExpiry w)

/-- The end of a pin's pulse, or of the equal interval after it, once 0.1 µs × width have passed (R423, R441): a release that came in that
interval, or with the pulse's end, starts the next pulse at the interval's end. -/
def Hub.pulseEnd (h : Hub) (p : Nat) : Hub :=
  h.modPin p (fun q =>
    if h.clk.now < q.since + 10 * h.rd INT_PIN_CFG_width p then q
    else if q.pulse then { pulse := false, gap := true, queued := q.queued, since := h.clk.now }
    else { pulse := q.gap && q.queued, gap := false, queued := false, since := h.clk.now })

/-- INT_PULSE_END (R423). -/
def execIntPulseEnd (p : Fin 4) (s : State) : Host.Outcome State Fault Refusal :=
  s.on (fun h => h.pulseEnd p)

/-- A W1C write of a ward to its INT_STAT (R420). -/
def Hub.writeIntStat (h : Hub) (w v : Nat) : Hub :=
  (h.wr INT_STAT_stat (clrMask (h.rd INT_STAT_stat w) v) w).intEnd w

/-- INT_STAT_CLEAR (R420). -/
def execIntStatClear (w : Fin 8) (v : Word) (s : State) : Host.Outcome State Fault Refusal :=
  s.on (fun h => if h.writable w then h.writeIntStat w v.toNat else h)

/-- The enables a ward may set: bits 22 and 23 are for W0 only. -/
def enableMask (w v : Nat) : Nat := if w == 0 then v else clrMask v (2 ^ 22 + 2 ^ 23)

/-- A ward's write to its INT_EN (R420, R421): each set bit that the write enables makes an event. -/
def Hub.writeIntEn (h : Hub) (w v : Nat) : Hub :=
  let was := h.intPending w
  let old := h.rd INT_EN_en w
  let new := enableMask w v
  let h1 := h.wr INT_EN_en new w
  let h2 := if clrMask new old &&& h.rd INT_STAT_stat w != 0 then h1.intFire w was else h1
  h2.intEnd w

/-- INT_EN_WRITE (R420). -/
def execIntEnWrite (w : Fin 8) (v : Word) (s : State) : Host.Outcome State Fault Refusal :=
  s.on (fun h => if h.writable w then h.writeIntEn w v.toNat else h)

/-- A ward's write to its INT_SET (R437): 1 in `sw` sets its INT_STAT bit 30. -/
def Hub.writeIntSet (h : Hub) (w v : Nat) : Hub := if bitOf v 30 then h.intEvent w 30 else h

/-- INT_SET (R437). -/
def execIntSet (w : Fin 8) (v : Word) (s : State) : Host.Outcome State Fault Refusal :=
  s.on (fun h => if h.writable w then h.writeIntSet w v.toNat else h)

/-- A ward's write to its INT_MOD.mod_rt on page 6 (R438): 0 means INT_CFG.mod_us, and a lower value is taken as it. -/
def Hub.writeIntMod (h : Hub) (w v : Nat) : Hub :=
  let x := bitsOf v 16 16
  h.wr INT_MOD_mod_rt (if x == 0 then 0 else max x (h.rd INT_CFG_mod_us w)) w

/-- INT_MOD_WRITE (R438). -/
def execIntModWrite (w : Fin 8) (v : Word) (s : State) : Host.Outcome State Fault Refusal :=
  s.on (fun h => if h.writable w && bitOf (h.rd WRD_EXP_OPEN_open w) 6 then h.writeIntMod w v.toNat else h)

end Sys2Proof.Machine
end

