-- ==== Sys2Proof/Machine/Operands.lean ====
section
/-!
DEFINITION. The operand forms that arrive as words: the header of a host-port frame and its CRC (R355 to R358).
-/

namespace Sys2Proof.Machine

/-! ### The header (R356) -/

/-- The ward a frame acts for. -/
def hdrWard (x : Nat) : Nat := bitsOf x 29 3
/-- A read. -/
def hdrRead (x : Nat) : Bool := bitOf x 28
/-- 0 single, 1 incrementing burst, 2 fixed-address burst, 3 doorbell. -/
def hdrKind (x : Nat) : Nat := bitsOf x 26 2
/-- The length field. -/
def hdrLen (x : Nat) : Nat := bitsOf x 22 4
/-- The word address. -/
def hdrAddr (x : Nat) : Nat := x % 2 ^ 22

/-- The number of data words (R357). -/
def hdrCount (x : Nat) : Nat := if hdrKind x == 1 || hdrKind x == 2 then hdrLen x + 1 else 1

/-- The byte addresses of a frame's words, in order (R356). -/
def hdrWords (x : Nat) : List Nat :=
  (List.range (hdrCount x)).map (fun k => 4 * (if hdrKind x == 1 then hdrAddr x + k else hdrAddr x))

/-- The CRC-8 over a header and data words, as they cross the wire (R355, R358). -/
def frameCrc (x : Nat) (data : List Nat) : Nat := crc8Host (beBytes 4 x ++ data.flatMap (beBytes 4))

end Sys2Proof.Machine
end

