-- ==== Sys2Proof/Machine/SelfTest.lean ====
section
/-!
DEFINITION. The built-in self-test (chapter 19): the run-time logic and field LBIST, the boot tests, and their commands.

What the spec leaves open here: DEDUCED, log entry 55.
-/

namespace Sys2Proof.Machine

/-! ### Signatures (R591, R592) -/

/-- The expected signature of LG0 to LG5 (0 to 5) and FG0 to FG4 (6 to 10) for a silicon revision (R592). -/
def expSig (r : Rev) (g : Nat) : Nat :=
  let a1 := [0x6E31A0C4, 0x1B9D57F2, 0xC40A8E19, 0x3F72D45B, 0x9A051C6E, 0x57E8B3A1, 0x2DC46F08, 0xE9130A7D, 0x74ABC592, 0x0B5E38E4, 0xD286F14C]
  let b0 := [0x6E31A0C4, 0x8C24E906, 0xC40A8E19, 0x5DA1077B, 0x9A051C6E, 0x57E8B3A1, 0x2DC46F08, 0xE9130A7D, 0x31F69B2D, 0x0B5E38E4, 0xD286F14C]
  (match r with | .a1 => a1 | .b0 => b0).getD g 0

/-- The raw signature of a group shown, and the group marked as failing where it differs or the controller's own check failed (R588,
R591). -/
def Hub.takeSig (h : Hub) (g sig : Nat) (selfOk : Bool) : Hub :=
  let h := if g < 6 then h.wr BST_SIG_LG_sig sig g else h.wr BST_SIG_FG_sig sig (g - 6)
  if sig == expSig h.chip.rev g && selfOk then h else { h with bst := { h.bst with fails := setBit h.bst.fails g } }

/-- The detail word of BST_LOGIC or BST_FIELD (R593). -/
def Hub.bstDetail (h : Hub) (groups : Nat) (boot mem restore : Bool) : Nat :=
  (h.ret.boots % 256) * 2 ^ 24 + h.rd BST_MEM_bank * 2 ^ 16 + 2 ^ 15 * b2n boot + 2 ^ 9 * b2n mem + 2 ^ 8 * b2n restore + groups

/-- A failing logic part raises BST_LOGIC; a passing one ends it (R535, R593). -/
def Hub.judgeLogic (h : Hub) : Hub :=
  let bad := h.bst.fails % 64
  if bad == 0 then h.lower 52 16 else h.raise 52 16 1 (h.bstDetail bad false false false)

/-- A failing field part raises BST_FIELD; a passing one ends it. -/
def Hub.judgeField (h : Hub) : Hub :=
  let bad := h.bst.fails / 64
  if bad == 0 then h.lower 53 16 else h.raise 53 16 1 (h.bstDetail bad false false false)

/-! ### Ordering a test (R584, R585, R599) -/

/-- The groups that a kind covers, as the masks of BST_XCTRL select them. -/
def Hub.lbistGroups (h : Hub) (kind : Nat) : List Nat × List Nat :=
  (if kind == 1 || kind == 3 then bitList 6 (h.rd BST_XCTRL_lg_mask) else [],
   if kind == 2 || kind == 3 then bitList 5 (h.rd BST_XCTRL_fg_mask) else [])

/-- Why a W0 order is refused (R34, R584, R599): its status, 0 where it is not. -/
def Hub.bstStatus (h : Hub) (v : Nat) : Nat :=
  let kind := v % 4
  if bitsOf v 16 16 != 0x4253 || kind == 0 then 0
  else if !h.runs || h.flag BST_STAT_busy then 7
  else if ((kind == 1 || kind == 3) && (h.lbistGroups kind).1.isEmpty) || ((kind == 2 || kind == 3) && (h.lbistGroups kind).2.isEmpty) then 7
  else 0

/-- Every watchdog frozen (R579). -/
def Hub.wdFreezeAll (h : Hub) : Hub :=
  forAll (List.range 9) (fun h k => h.modWd k (fun w => if w.state == 1 then { w with state := 2, held := h.clk.mclk - w.since } else w)) h

/-- The field part begins: every channel goes to its safe state (R590, step 1). -/
def Hub.fieldPart (h : Hub) : Hub :=
  let h := (h.fholdStop.wr BST_STAT_group 0xF).sendSafe h.outList
  { h with bst := { h.bst with todo := [], fieldNext := false, field := true }, dev := { h.dev with testHold := false } }.fieldTestGo

/-- The entry to *Test* (R585): tumblers stop, watchdogs freeze, pages 0 to 2 close, a running proof is abandoned, the ERR level is
latched; then the first step of R586 or R590. -/
def Hub.enterTest (h : Hub) (kind : Nat) : Hub :=
  let low := h.errLow
  let groups := h.lbistGroups kind
  let h := forAll (List.range 8) (fun h t => h.tmbStop t 8 false) h
  let h := h.wdFreezeAll.closeSafetyPages.abandonProof
  let h := ((h.put BST_STAT_busy true).wr BST_STAT_kind kind).wr BST_STAT_result 0
  let h := (h.put BST_STAT_boot false).wr BST_STAT_fail_groups 0
  let h := { h with
    dev := { h.dev with test := true, testHold := low && kind != 2 }
    bst := { h.bst with todo := groups.1, fieldNext := kind == 3, field := false, fieldRuns := false, start := h.clk.now, fails := 0 } }
  if kind == 2 then h.fieldPart else (h.request .testHold).wr BST_STAT_group (groups.1.headD 0xF)

/-- A write to BST_XCTRL (R599). -/
def Hub.writeBstXctrl (h : Hub) (v : Nat) : Hub := (h.wr BST_XCTRL_lg_mask (bitsOf v 8 6)).wr BST_XCTRL_fg_mask (v % 32)

/-- BST_XCTRL_WRITE (R599): W0 with page 2 open. -/
def execBstXctrlWrite (w : Fin 8) (v : Word) (s : State) : Host.Outcome State Fault Refusal :=
  s.on (fun h => if h.writable w && w.val == 0 && bitOf (h.rd WRD_EXP_OPEN_open 0) 2 then h.writeBstXctrl v.toNat else h)

/-! ### The logic part (R586 to R588) -/

/-- The end of a test that was not aborted (R586, step 6; R590, step 5): watchdogs start afresh, interrupt source BST. -/
def Hub.testOver (h : Hub) : Hub :=
  let bad := h.bst.fails
  let h := h.wr BST_STAT_fail_groups bad
  ((h.endTest (if bad == 0 then 1 else 2)).bistRecord.wdStartAll).intEvent 0 23

/-- GROUP_TEST_DONE (R586, R588): the patterns of the logic group under test end. `selfOk` is the LBIST controllers' known-answer check,
which counts for the first group; `badCopies` is how many of the two saved copies failed when the group was restored. -/
def execGroupTestDone (sig : Word) (selfOk : Bool) (badCopies : Fin 3) (s : State) : Host.Outcome State Fault Refusal :=
  s.on (fun h =>
    match h.bst.todo with
    | [] => h
    | g :: rest =>
      if !h.dev.test || h.bst.field then h
      else
        let first := (h.lbistGroups (h.rd BST_STAT_kind)).1.headD g
        let h := h.takeSig g sig.toNat (selfOk || g != first)
        if badCopies.val == 2 then
          let h := (h.put BST_STAT_restore_fail true).wr BST_STAT_fail_groups h.bst.fails
          let h := ((h.endTest 2).bistRecord.wdStartAll).intEvent 0 23
          let h := h.raise 52 16 1 (h.bstDetail (h.bst.fails % 64) false false true)
          h.enterSafe 52
        else { h.wr BST_STAT_group (rest.headD 0xF) with bst := { h.bst with todo := rest } })

/-- LOGIC_LBIST_END (R586, steps 5 and 6; R601): the signatures are compared; the field part follows, or the logic die adopts the field
die's states, once the link stands, and the hub leaves *Test*. -/
def execLogicLbistEnd (s : State) : Host.Outcome State Fault Refusal :=
  s.on (fun h =>
    if !h.dev.test || h.bst.field || !h.bst.todo.isEmpty then h
    else if h.bst.fieldNext then
      let h := h.judgeLogic
      if h.dev.test then h.fieldPart else h
    else if !h.hinge.upL || h.flag HNG_STAT_rejoin then h
    else
      h.adoptStates.testOver.judgeLogic)

/-! ### The field part (R590) -/

/-- FIELD_LBIST_END (R590): the signatures of all field groups tested, in rising order; `confirmed` says that the field die
confirmed the configuration sent again within 2 ms, without which the test ends aborted; with VF not valid the field die takes none
(R67). -/
def execFieldLbistEnd (sigs : List Word) (selfOk confirmed : Bool) (s : State) : Host.Outcome State Fault Refusal :=
  s.on (fun h =>
    let groups := bitList 5 (h.rd BST_XCTRL_fg_mask)
    if !h.dev.test || !h.bst.fieldRuns || sigs.length != groups.length then h
    else if !confirmed || !h.sup.vfValid then h.abortTest
    else
      let first := groups.headD 0
      let h := (groups.zip sigs).foldl (fun h x => h.takeSig (6 + x.1) x.2.toNat (selfOk || x.1 != first)) h
      h.fieldConfigure.testOver.judgeField)

/-- TEST_ABORT (R589): a fault whose reaction is device *Safe* that Deadbolt DA detects or learns of ends the test at once. -/
def execTestAbort (n : Fin 62) (detail : Word) (s : State) : Host.Outcome State Fault Refusal :=
  s.on (fun h =>
    if h.dev.test && h.fltClass n == 5 && h.fltEnabled n then
      (if eventSources.contains n.val then h.event n 1 detail.toNat else h.raise n 16 1 detail.toNat)
    else h)

/-! ### The boot tests (R594, R595) -/

/-- BOOT_LBIST (R594): outside a VDD warning (R64), at the end of *Arming*, after the start-up tests have passed: the 11 signatures of LG0 to
LG5 and FG0 to FG4, and the time taken in 10 µs units. The field configuration is sent again after the field groups. -/
def execBootLbist (sigs : List Word) (selfOk : Bool) (time : BitVec 16) (s : State) : Host.Outcome State Fault Refusal :=
  s.on (fun h =>
    if h.dev.phase == .arming && h.blk.applied && h.flag BST_CFG_boot_lbist && !h.bst.bootDone && h.hinge.configured && h.hinge.upL &&
        h.flag DBT_STARTUP_done && h.rd DBT_STARTUP_passed == 2 ^ 14 - 1 && h.dev.halt.isNone && h.sup.pd.isNone && !h.sup.warn &&
        sigs.length == 11 then
      let h := ((List.range 11).zip sigs).foldl (fun h x => h.takeSig x.1 x.2.toNat (selfOk || x.1 != 0)) h
      let bad := h.bst.fails
      let h := ((h.wr BST_STAT_kind 4).put BST_STAT_boot true).wr BST_STAT_fail_groups bad
      let h := (h.wr BST_STAT_result (if bad == 0 then 1 else 2)).count BST_RUNS_runs
      let h := if bad == 0 then h else h.count BST_RUNS_fails
      { (h.wr BST_TIME_time time.toNat) with bst := { h.bst with bootDone := true, bootFail := bad, fails := 0 } }.bistRecord
    else h)

/-- BOOT_MEM_TEST (R595): outside a VDD warning (R64), the march over B00 to B47, once the device section stands; the banks that failed, each with its first failing
word. Every word is zero with valid ECC afterwards. -/
def execBootMemTest (bad : List (Fin 48 × Fin 4096)) (s : State) : Host.Outcome State Fault Refusal :=
  s.on (fun h =>
    if h.dev.phase == .arming && !h.blk.applied && !h.bst.memDone && h.memoryReady && !h.sup.warn &&
        fileGet h.blk.config (fldKey BST_CFG_boot_mem 0 0) != 0 then
      let banks := (bad.map (fun x => x.1.val)).eraseDups.mergeSort (fun a b => decide (a ≤ b))
      let first := banks.headD 0
      let word := match bad.find? (fun x => x.1.val == first) with | some x => x.2.val | none => 0
      let h := ((h.put BST_MEM_fail (!bad.isEmpty)).wr BST_MEM_bank first).wr BST_MEM_banks banks.length
      let h := (h.wr BST_MEM_word word).clearMem (bankAddr 0 0) (bankAddr 48 0)
      { h with bst := { h.bst with memDone := true, memFail := !bad.isEmpty } }
    else h)

end Sys2Proof.Machine
end

