-- ==== Sys2Proof/Machine/Watchdogs.lean ====
section
/-!
DEFINITION. The watchdogs and the WDO pin (chapter 18).

What the spec leaves open here: DESIGN CHOICE, log entry 4; DEDUCED, log entry 54.
-/

namespace Sys2Proof.Machine

/-- Time since watchdog `k`'s last accepted service or start, in MCLK cycles, which it counts (R108). -/
def Hub.wdTime (h : Hub) (k : Nat) : Nat :=
  if (h.wd k).state == 2 then (h.wd k).held else h.clk.mclk - (h.wd k).since

/-- The timeout in force, in ms (R557). -/
def Hub.wdTimeout (h : Hub) (k : Nat) : Nat :=
  if (h.wd k).first && h.rd WDG_TIME_first_ms k != 0 then h.rd WDG_TIME_first_ms k else h.rd WDG_TIME_timeout_ms k

/-- A service now would not be early (R559, R571). -/
def Hub.wdOpen (h : Hub) (k : Nat) : Bool :=
  !h.flag WDG_CFG_win_en k || (h.wd k).first || decide (h.rd WDG_WIN_open_ms k * Config.ticksPerMs ≤ h.wdTime k)

/-- The challenge answer for a seed (R563): 5 bits rotated left, XOR k × 0x1111. -/
def wdAnswer (seed k : Nat) : Nat := ((seed * 32) % 65536 + seed / 2048) ^^^ (k * 0x1111)

/-- The seed renewed from the free-running generator: never 0, never the previous one (R572). -/
def Hub.newSeed (h : Hub) (k : Nat) : Hub :=
  let p := h.freeNat 16
  let old := (h.wd k).seed
  let seed := if p.1 == 0 || p.1 == old then (if old == 1 then 2 else 1) else p.1
  p.2.modWd k (fun w => { w with seed := seed })

/-! ### WDO (R567 to R569) -/

/-- A WDO pulse of watchdog `k` starts, where it is enabled; during a pulse it merges (R568). -/
def Hub.wdoPulse (h : Hub) (k : Nat) : Hub :=
  if !bitOf (h.rd WDG_WDO_CFG_en_mask) k then h
  else if h.flag WDG_WDO_STAT_active then h.count WDG_WDO_STAT_merged
  else { (h.put WDG_WDO_STAT_active true).count WDG_WDO_STAT_pulses with
    wdo := { pin := 2, reset := false, high := h.flag WDG_WDO_CFG_pol, ms := h.rd WDG_WDO_CFG_width_ms, since := h.clk.now } }

/-- WDO_PULSE_END (R568): at its full width the pulse ends: WDO returns to its inactive level, or to high-impedance where a logic-die reset has
taken place in the meantime. -/
def execWdoPulseEnd (s : State) : Host.Outcome State Fault Refusal :=
  s.on (fun h =>
    if h.flag WDG_WDO_STAT_active && h.wdo.since + Config.ticksPerMs * h.wdo.ms ≤ h.clk.now then
      { h.put WDG_WDO_STAT_active false with wdo := { h.wdo with pin := if h.wdo.reset then 0 else 1, reset := false } }
    else h)

/-! ### Expiry (R562 to R566) -/

/-- An expiry counted: the watchdog's count and the total in the retained block (R570), and its cause. -/
def Hub.wdCount (h : Hub) (k cause : Nat) : Hub :=
  let h := h.wr WDG_STAT_last_cause cause k
  { h with ret := { h.ret with
      expiries := vset h.ret.expiries k (satInc 65535 (vget h.ret.expiries k 0))
      wdTotal := satInc (2 ^ 32 - 1) h.ret.wdTotal } }

/-- The detail word of R566. -/
def Hub.wdDetail (h : Hub) (k cause : Nat) (held : Bool) : Nat :=
  vget h.ret.expiries k 0 * 65536 + (if held then 128 else 0) + cause * 16 + k

/-- The actions of a ward watchdog's expiry (R562, R575). `source` is WDG_WARD, 50, or WDG_VIOL, 51, for a violation. -/
def Hub.wardExpiry (h : Hub) (w cause : Nat) : Hub :=
  let held := h.ward w == .held && h.heldFault w
  let h := h.wdCount w cause
  let d := h.wdDetail w cause held
  let h := if cause == 1 then h else h.event 51 (2 ^ w) d
  let h := h.event 50 (setBit (2 ^ w) 0) d
  let h := h.wdoPulse w
  if held then h.modWd w (fun x => { x with state := 3 })
  else h.wardReset w 3

/-- The actions of DWD's expiry (R565): counted, a Fault record, the history entry, the pulse, a device soft reset. -/
def Hub.deviceExpiry (h : Hub) (cause : Nat) : Hub :=
  let h := h.wdCount 8 cause
  let d := h.wdDetail 8 cause false
  let h := if cause == 1 then h else h.event 51 1 d
  let h := (h.note 0x2C 0x49 sevFault 4 [d]).history 7 0xF
  let h := (h.wdoPulse 8).modWd 8 (fun x => { x with state := 3 })
  h.orderReset 7 0xF

/-- The expiry actions of watchdog `k` (R562, R564, R565). -/
def Hub.wdExpire (h : Hub) (k cause : Nat) : Hub := if k == 8 then h.deviceExpiry cause else h.wardExpiry k cause

/-- Watchdog `k` runs and has counted its timeout (R557, R561); it stands with MCLK (R108). -/
def Hub.wdOver (h : Hub) (k : Nat) : Bool :=
  (h.wd k).state == 1 && !h.clk.mclkLost && decide (h.wdTimeout k * Config.ticksPerMs ≤ h.wdTime k)

/-- WARD_WATCHDOG_EXPIRY (R562). -/
def execWardWatchdogExpiry (w : Fin 8) (s : State) : Host.Outcome State Fault Refusal :=
  s.on (fun h => if h.wdOver w then h.wdExpire w 1 else h)

/-- DWD_EXPIRY (R565). -/
def execDwdExpiry (s : State) : Host.Outcome State Fault Refusal :=
  s.on (fun h => if h.wdOver 8 then h.wdExpire 8 1 else h)

/-! ### Service (R558 to R560, R564) -/

/-- A write to WDG_KICK of watchdog `k` (R558, R559): accepted, a violation, or no service at all. A service at or past the
timeout comes too late and changes nothing (R574). -/
def Hub.writeKick (h : Hub) (k v : Nat) : Hub :=
  if v % 65536 != 0x5A5A then h.count WDG_CNT_bad_key 1 k
  else if (h.wd k).state != 1 then h
  else if h.wdTimeout k * Config.ticksPerMs ≤ h.wdTime k then h
  else
    let wrong := h.flag WDG_CFG_chal_en k && v / 65536 != wdAnswer (h.wd k).seed k
    let renew := fun (h : Hub) => if h.flag WDG_CFG_chal_en k then h.newSeed k else h
    if !h.wdOpen k || wrong then
      let cause := if !h.wdOpen k then 2 else 3
      (renew (h.count WDG_CNT_violations 1 k)).wdExpire k cause
    else renew (h.modWd k (fun x => { x with since := h.clk.mclk, first := false }))

/-- The ward that may serve watchdog `k` (R560). -/
def Hub.wdServer (h : Hub) (k : Nat) : Nat := if k == 8 then h.rd WDG_DWD_CFG_ward else k

/-- WDG_KICK (R559): a ward writes the WDG_KICK of a watchdog. -/
def execWdgKick (w : Fin 8) (k : Fin 9) (v : Word) (s : State) : Host.Outcome State Fault Refusal :=
  s.on (fun h => if h.writable w && h.wdServer k == w then h.writeKick k v.toNat else h)

end Sys2Proof.Machine
end

