-- ==== Sys2Proof/Machine/RegRead.lean ====
section
/-!
DEFINITION. The register map (R367) and what a read of each register returns and does: the stored fields of a word, the fields
that are computed from the rest of the state, and the side effects of a read.
-/

namespace Sys2Proof.Machine

/-! ### The map (R367) -/

/-- The registers of a 4 KiB page of the register space: first byte address, distance, number. -/
def regTable (p : Nat) : List (Nat × Nat × Nat) :=
  match p with
  | 0x0 => [(0x0, 0x4, 5)]
  | 0x1 => [(0x1000, 0x4, 10)]
  | 0x2 => [(0x2000, 0x4, 3), (0x2010, 0x4, 9)]
  | 0x3 => [(0x3000, 0x4, 18), (0x3050, 0x4, 4), (0x3060, 0x4, 8), (0x3080, 0x4, 3), (0x3100, 0x4, 64)]
  | 0x4 => [(0x4000, 0x4, 8), (0x4020, 0x4, 4), (0x4030, 0x4, 2)]
  | 0x5 => [(0x5000, 0x40, 8), (0x5004, 0x40, 8), (0x5008, 0x40, 8), (0x500C, 0x40, 8), (0x5010, 0x40, 8),
      (0x5014, 0x40, 8), (0x5018, 0x40, 8), (0x5800, 0x40, 3), (0x5804, 0x40, 3), (0x5808, 0x40, 3), (0x580C, 0x40, 3),
      (0x5810, 0x40, 3), (0x5814, 0x40, 3)]
  | 0x6 => [(0x6000, 0x40, 8), (0x6004, 0x40, 8), (0x6008, 0x40, 8), (0x600C, 0x40, 8), (0x6010, 0x40, 8),
      (0x6014, 0x40, 8), (0x6018, 0x40, 8), (0x601C, 0x40, 8), (0x6020, 0x40, 8), (0x6024, 0x40, 8), (0x6028, 0x40, 8),
      (0x602C, 0x40, 8), (0x6030, 0x40, 8), (0x6034, 0x40, 8), (0x6800, 0x4, 2)]
  | 0x7 => [(0x7000, 0x20, 8), (0x7004, 0x20, 8), (0x7008, 0x20, 8), (0x700C, 0x20, 8), (0x7010, 0x20, 8),
      (0x7014, 0x20, 8), (0x7400, 0x4, 4), (0x7410, 0x4, 2), (0x7800, 0x4, 5), (0x7820, 0x4, 8), (0x7900, 0x10, 8),
      (0x7904, 0x10, 8)]
  | 0x8 => [(0x8000, 0x100, 16), (0x8004, 0x100, 16), (0x8008, 0x100, 16), (0x800C, 0x100, 16), (0x8010, 0x100, 16),
      (0x8014, 0x100, 16), (0x8018, 0x100, 16), (0x8020, 0x100, 16), (0x8024, 0x100, 16), (0x8028, 0x100, 16),
      (0x802C, 0x100, 16), (0x8030, 0x100, 16)]
  | 0x9 => [(0x9000, 0x4, 3)]
  | 0xA => [(0xA000, 0x100, 16), (0xA004, 0x100, 16), (0xA008, 0x100, 16), (0xA00C, 0x100, 16), (0xA020, 0x100, 16),
      (0xA024, 0x100, 16), (0xA028, 0x100, 16), (0xA02C, 0x100, 16), (0xA030, 0x100, 16), (0xA034, 0x100, 16),
      (0xA038, 0x100, 16)]
  | 0xB => [(0xB000, 0x4, 3)]
  | 0xC => [(0xC000, 0x200, 8), (0xC004, 0x200, 8), (0xC008, 0x200, 8), (0xC00C, 0x200, 8), (0xC010, 0x200, 8),
      (0xC014, 0x200, 8), (0xC020, 0x200, 8), (0xC024, 0x200, 8), (0xC028, 0x200, 8), (0xC02C, 0x200, 8),
      (0xC030, 0x200, 8), (0xC034, 0x200, 8), (0xC038, 0x200, 8), (0xC03C, 0x200, 8), (0xC040, 0x200, 8),
      (0xC044, 0x200, 8), (0xC048, 0x200, 8)]
  | 0xD => [(0xD000, 0x100, 8), (0xD004, 0x100, 8), (0xD008, 0x100, 8), (0xD010, 0x4, 40), (0xD110, 0x4, 40),
      (0xD210, 0x4, 40), (0xD310, 0x4, 40), (0xD410, 0x4, 40), (0xD510, 0x4, 40), (0xD610, 0x4, 40), (0xD710, 0x4, 40),
      (0xD800, 0x10, 16), (0xD804, 0x10, 16), (0xD808, 0x10, 16), (0xDC00, 0x4, 4)]
  | 0xE => [(0xE000, 0x4, 13), (0xE040, 0x8, 8), (0xE044, 0x8, 8), (0xE080, 0x4, 2)]
  | 0xF => [(0xF000, 0x10, 48), (0xF004, 0x10, 48), (0xF008, 0x10, 48), (0xF00C, 0x10, 48), (0xF400, 0x4, 4)]
  | 0x10 => [(0x10000, 0x4, 10), (0x10030, 0x4, 4), (0x10040, 0x4, 16), (0x10080, 0x4, 3), (0x10100, 0x10, 8),
      (0x10104, 0x10, 8), (0x10108, 0x10, 8)]
  | 0x11 => [(0x11000, 0x4, 3), (0x11010, 0x4, 10), (0x11040, 0x4, 16)]
  | 0x12 => [(0x12000, 0x4, 2), (0x12010, 0x4, 2), (0x12020, 0x4, 2), (0x12030, 0x4, 2), (0x12040, 0x4, 8),
      (0x12060, 0x4, 8), (0x12080, 0x4, 2), (0x12100, 0x20, 8), (0x12104, 0x20, 8), (0x12108, 0x20, 8),
      (0x1210C, 0x20, 8), (0x12110, 0x20, 8), (0x12114, 0x20, 8)]
  | 0x13 => [(0x13000, 0x20, 9), (0x13004, 0x20, 9), (0x13008, 0x20, 9), (0x1300C, 0x20, 9), (0x13010, 0x20, 9),
      (0x13014, 0x20, 9), (0x13018, 0x20, 9), (0x13180, 0x4, 4)]
  | 0x14 => [(0x14000, 0x4, 10), (0x14040, 0x4, 1), (0x14044, 0x4, 12), (0x14078, 0x4, 1), (0x14080, 0x4, 2),
      (0x14100, 0x4, 64), (0x14200, 0x4, 5), (0x14214, 0x4, 4), (0x14224, 0x4, 1), (0x14240, 0x4, 2), (0x14260, 0x4, 8)]
  | 0x15 => [(0x15000, 0x4, 13), (0x15100, 0x40, 8), (0x15104, 0x40, 8), (0x15108, 0x40, 8), (0x1510C, 0x40, 8),
      (0x15110, 0x40, 8), (0x15114, 0x40, 8), (0x15118, 0x40, 8), (0x1511C, 0x40, 8), (0x15120, 0x40, 8),
      (0x15124, 0x40, 8), (0x15128, 0x40, 8), (0x1512C, 0x40, 8), (0x15130, 0x40, 8)]
  | 0x16 => [(0x16000, 0x4, 7), (0x16020, 0x4, 6), (0x16040, 0x4, 5), (0x16060, 0x4, 6), (0x16080, 0x4, 5)]
  | _ => []

/-- A byte address below 0x001_7000 at which a chapter defines a register (R367). -/
def isReg (a : Nat) : Bool :=
  (regTable (a / 0x1000)).any (fun x =>
    decide (x.1 ≤ a) && (a - x.1) % x.2.1 == 0 && decide ((a - x.1) / x.2.1 < x.2.2))

/-- A byte address of the bank window, of DP0 or DP1, or of an alias window (R367). -/
def isMem (a : Nat) : Bool :=
  (decide (0x100000 ≤ a) && decide (a < 0x1C4000)) || (decide (0x200000 ≤ a) && decide (a < 0x2C0000)) ||
    (decide (0x300000 ≤ a) && decide (a < 0x3C0000))

/-- The address in the bank window that an address of an alias window stands for (R459); others stand for themselves. -/
def plainAddr (a : Nat) : Nat :=
  if 0x300000 ≤ a then a - 0x200000 else if 0x200000 ≤ a then a - 0x100000 else a

/-- The address lies in the space of an OUT_ or IN_ register of a channel (R367): which one. -/
def chanOf (a : Nat) : Option Nat :=
  if (0x8000 ≤ a && a < 0x9000) || (0xA000 ≤ a && a < 0xB000) then some (a / 0x100 % 16) else none

/-- The word at byte address `a` holds a register or memory on this part (R3, R367). -/
def Hub.mapped (h : Hub) (a : Nat) : Bool :=
  a % 4 == 0 && (isMem a || isReg a) &&
    !(h.chip.part == .pwh0840 && (match chanOf a with | some c => decide (8 ≤ c) | none => false))

/-! ### Stored and computed fields -/

/-- The stored fields of a word, as ward `w` reads them. -/
def Hub.storedWord (h : Hub) (a w : Nat) : Nat :=
  (fldsAt a).foldl (fun m x => m + h.rd x.1 x.2 w * 2 ^ x.1.lsb) 0

/-- The reset values of a word's stored fields. -/
def resetWord (a : Nat) : Nat := (fldsAt a).foldl (fun m x => m + x.1.reset * 2 ^ x.1.lsb) 0

/-- A map of `n` bits from a test. -/
def mapOf (n : Nat) (p : Nat → Bool) : Nat := ((List.range n).filter p).foldl setBit 0

/-- Word `k` of a map over the fault sources. -/
def srcWord (k : Nat) (p : Nat → Bool) : Nat := mapOf 62 p / 2 ^ (32 * k) % 2 ^ 32

/-- The bits of a summary that ward `w` sees: its own channels', and every one for W0 (R276). -/
def Hub.ownBits (h : Hub) (w m : Nat) : Nat := if w == 0 then m else m &&& h.rd WRD_CH_ch w

/-- DEV_ID to DEV_STATE, but for the stored slot bit (R37). -/
def Hub.devBits (h : Hub) (o : Nat) : Nat :=
  match o with
  | 0x0 => h.chip.devId
  | 0x4 => (match h.chip.rev with | .a1 => 0xA1 | .b0 => 0xB0)
  | 0x8 => h.chip.uid % 2 ^ 32
  | 0xC => h.chip.uid / 2 ^ 32 % 2 ^ 32
  | 0x10 =>
    mapOf 8 (fun w => h.ward w == .held) * 2 ^ 24 + (if h.dev.phase == .up then mapOf 8 (fun w => h.ward w != .absent) else 0) * 2 ^ 16 +
      b2n h.hinge.upL * 2 ^ 11 + b2n h.dev.signed * 2 ^ 10 + b2n h.sup.warn * 2 ^ 8 + h.fol.prior * 2 ^ 4 + h.state.code
  | _ => 0

/-- The computed fields of the PWR_ block (R100). -/
def Hub.pwrBits (h : Hub) (o : Nat) : Nat :=
  match o with
  | 0x00 =>
    (match h.sup.band with | .v18 => 0 | .v25 => 1 | .v33 => 2) * 2 ^ 14 + b2n h.sup.warn * 2 ^ 13 + b2n h.sup.vholdOk * 2 ^ 12 +
      (if h.hinge.upL then h.sup.fieldBits else h.sup.heldBits) * 2 ^ 7
  | 0x04 => h.sup.uncleared % 4 * 2 ^ 16 + h.sup.on % 2 ^ 8 + (if h.hinge.upL then h.sup.on / 2 ^ 8 % 16 else h.sup.heldOn) * 2 ^ 8
  | 0x14 => h.ret.vmin % 2 ^ 12 * 2 ^ 16 + h.ret.dipCount
  | 0x1C => h.ret.mirrorNext * 2 ^ 8
  | 0x20 => h.ret.pdLast
  | 0x24 => h.ret.boots
  | _ => 0

/-- The OUT_ and IN_ summaries and computed fields. -/
def Hub.chanBits (h : Hub) (a w : Nat) : Nat :=
  match a with
  | 0x9000 => h.ownBits w (mapOf 16 (fun c => h.isOut c && h.flag OUT_STAT_sw_on c))
  | 0x9004 => h.ownBits w (mapOf 16 (fun c => h.isOut c && outFltFlds.any (fun f => h.flag f c)))
  | 0x9008 => h.ownBits w (mapOf 16 (fun c => h.isOut c && h.flag OUT_STAT_safe_hold c))
  | 0xB000 => h.ownBits w (mapOf 16 (fun c => h.isIn c && h.flag IN_STAT_state c))
  | 0xB004 => h.ownBits w (mapOf 16 (fun c => h.isIn c && inFltFlds.any (fun f => h.flag f c)))
  | 0xB008 => h.ownBits w (mapOf 16 (fun c => h.isIn c && !(h.inp c).fifo.isEmpty))
  | _ => if 0xA000 ≤ a && a < 0xB000 && a % 0x100 == 0x2C then (h.inp (a / 0x100 % 16)).fifo.length else 0

/-- The computed fields of the OPS_ block (R418). -/
def Hub.opsBits (h : Hub) (a : Nat) : Nat :=
  let n := a / 0x40 % 32
  if a == 0x6804 then h.poolFree
  else if 8 ≤ n then 0
  else match a % 0x40 with
  | 0x1C => h.eng.ops.countP (fun o => o.ward == n && o.deferred) * 2 ^ 16 + h.inflight n
  | 0x30 => b2n (decide (h.capOf n ≤ h.inflight n)) * 2 ^ 9 + b2n (h.cqFull n) * 2 ^ 8
  | _ => 0

/-- The computed fields of the INT_ and RST_ blocks (R448). -/
def Hub.intBits (h : Hub) (a : Nat) : Nat :=
  if a < 0x7400 then
    (if a % 0x20 == 0x10 then b2n (h.wint (a / 0x20 % 32)).released * 2 + b2n (h.wint (a / 0x20 % 32)).held else 0)
  else if a == 0x7410 then h.pendWards
  else if a == 0x7414 then mapOf 4 h.intLow
  else if 0x7820 ≤ a && a < 0x7840 then h.ret.hist.getD ((a - 0x7820) / 4) 0
  else 0

/-- The computed fields of the SCH_ block: the sensors, the estimated junctions, the admitted VDD current, and the candidates queued
(R504). -/
def Hub.schBits (h : Hub) (o : Nat) : Nat :=
  if 0x30 ≤ o && o < 0x40 then
    let k := (o - 0x30) / 4
    temp16 (h.sensor (2 * k)) + temp16 (h.sensor (2 * k + 1)) * 2 ^ 16
  else if 0x40 ≤ o && o < 0x80 then temp16 (h.tjNow ((o - 0x40) / 4))
  else if o == 0x24 then
    let most := h.sch.erases.toList.foldl max 0
    min 255 most * 2 ^ 8 + min 255 (h.sch.admitted.foldl (fun m a => m + a.ivdd) 0)
  else if 0x100 ≤ o && o % 0x10 == 4 then h.sch.queue.countP (fun c => c.ward == (o - 0x100) / 0x10)
  else 0

/-- The computed fields of the DBT_ block (R534). -/
def Hub.dbtBits (h : Hub) (o : Nat) : Nat :=
  if o == 0x10 then
    let p := h.dbt.proof
    b2n ((p.map (fun x => !x.forced)).getD false) * 2 ^ 5 + b2n h.dbt.paused * 2 ^ 4 +
      b2n ((p.map (·.forced)).getD false) * 2 ^ 3 + b2n h.exitReady * 2 + b2n (h.state == .safe)
  else 0

/-- The computed fields of the FLT_ block (R554). -/
def Hub.fltBits (h : Hub) (o : Nat) : Nat :=
  if o < 8 then srcWord (o / 4) h.fltSet
  else if 0x10 ≤ o && o < 0x18 then srcWord ((o - 0x10) / 4) h.fltLive
  else if o == 0x78 then
    b2n h.dev.testHold * 2 ^ 5 + b2n h.errHalt * 2 ^ 4 + b2n h.errPd * 2 ^ 3 + b2n h.errBoot * 2 ^ 2 + b2n h.errSafe * 2 + b2n h.errFault
  else if 0x100 ≤ o then
    let n := (o - 0x100) / 0x20
    match o % 0x20 with
    | 0x00 => srcWord 0 (fun k => bitOf (h.fltMask k) n)
    | 0x04 => srcWord 1 (fun k => bitOf (h.fltMask k) n)
    | 0x08 => srcWord 0 (fun k => h.fltLive k && bitOf (h.causeWards k) n)
    | 0x0C => srcWord 1 (fun k => h.fltLive k && bitOf (h.causeWards k) n)
    | 0x14 =>
      let k := h.rd FLT_SEL_source n
      if 61 < k then 0
      else vget h.flt.counts k 0 * 2 ^ 16 + h.fltClass k * 2 ^ 12 + b2n (h.fltEnabled k) * 2 ^ 8 + h.fltMask k
    | _ => 0
  else 0

/-- The computed fields of the WDG_ block (R581). -/
def Hub.wdgBits (h : Hub) (o : Nat) : Nat :=
  let k := o / 0x20
  let w := h.wd k
  if o == 0x18C then h.ret.wdTotal
  else if 9 ≤ k then 0
  else match o % 0x20 with
  | 0x10 => if h.flag WDG_CFG_chal_en k && w.state != 0 then w.seed else 0
  | 0x14 =>
    let left := if w.state == 1 || w.state == 2 then (h.wdTimeout k * Config.ticksPerMs - h.wdTime k) / Config.ticksPerMs else 0
    left * 2 ^ 16 + b2n (h.wdOpen k) * 2 ^ 4 + w.state
  | 0x18 => vget h.ret.expiries k 0
  | _ => 0

/-- The computed fields of the REC_ block (R648). -/
def Hub.recBits (h : Hub) (o w : Nat) : Nat :=
  if o == 0x04 then h.recd.fifo.length * 2 ^ 16
  else if o == 0x08 then h.recd.newest % 2 ^ 32
  else if 0x44 ≤ o && o < 0x74 then
    let k := (o - 0x44) / 4
    h.windowWord w (if k < 2 then k + 1 else if k < 10 then k - 2 else k - 9)
  else if o == 0x244 then (List.range 8).foldl (fun m k => m + (vget h.chip.keySlots k {}).state * 4 ^ k) 0
  else 0

/-- The computed fields of the LIFE_ block (R671); the device counters stand once they have been restored after the boot (R660). -/
def Hub.lifeBits (h : Hub) (o : Nat) : Nat :=
  let l : LifeWork := if h.life.restored then h.ret.life else {}
  if 0x100 ≤ o then (if o % 0x40 == 0x30 then h.lifeHist ((o - 0x100) / 0x40) else 0)
  else match o with
  | 0x0C => l.serial
  | 0x10 => l.powerOn
  | 0x14 => l.dieStress
  | 0x18 => l.barrier
  | 0x1C => l.dips
  | 0x20 => l.vfuv
  | 0x24 => l.month * 2 ^ 16 + l.halts
  | 0x28 => packMargins l.margins
  | 0x2C => if h.life.restored then h.lifeUsed else 0
  | 0x30 => min 0xFFFF l.gain * 2 ^ 16 + (if h.life.restored then h.lifeRemain else 0xFFFF)
  | _ => 0

/-- The computed fields of a register word, as ward `w` reads them. -/
def Hub.computedBits (h : Hub) (a w : Nat) : Nat :=
  let o := a % 0x1000
  match a / 0x1000 with
  | 0x0 => h.devBits o
  | 0x1 => h.pwrBits o
  | 0x2 => if o == 0x10 then h.clk.tb % 2 ^ 32 else if o == 0x18 then h.clk.tb / 2 ^ 48 % 2 ^ 16 else 0
  | 0x3 =>
    if o == 0x30 then h.chip.hashAttempts * 2 ^ 8 + h.chip.hashState
    else if 0x60 ≤ o && o < 0x80 then leNat ((h.chip.keyHash.drop (o - 0x60)).take 4)
    else 0
  | 0x4 => if o == 0x0C then toneCode h.hinge.daTone * 2 ^ 6 + toneCode h.hinge.daDecides * 2 ^ 4 else 0
  | 0x5 =>
    if o < 0x200 then (if o % 0x40 == 0x0C then (h.ward (o / 0x40)).code else 0)
    else if o % 0x40 == 0x08 then b2n (h.port ((o - 0x800) / 0x40)).outcome.isSome * 2 ^ 8
    else 0
  | 0x6 => h.opsBits a
  | 0x7 => h.intBits a
  | 0x9 => h.chanBits a w
  | 0xA => h.chanBits a w
  | 0xB => h.chanBits a w
  | 0xE => if o == 0x84 then h.lsy.rx.length else 0
  | 0x10 => h.schBits o
  | 0x11 => h.dbtBits o
  | 0x12 => h.fltBits o
  | 0x13 => h.wdgBits o
  | 0x14 => h.recBits o w
  | 0x15 => h.lifeBits o
  | 0x16 =>
    if 0x60 ≤ o && o < 0x78 then expSig h.chip.rev ((o - 0x60) / 4)
    else if 0x80 ≤ o && o < 0x94 then expSig h.chip.rev (6 + (o - 0x80) / 4)
    else 0
  | _ => 0

/-- A channel register that reads its reset value: an OUT_ register of a channel in mode 0 or an input mode (R200), one of the odd half of a
pair but for OUT_STAT, OUT_FLT and the OUT_MEAS registers (R208), an IN_ register of a channel that is no input (R243). -/
def Hub.atReset (h : Hub) (a : Nat) : Bool :=
  let c := a / 0x100 % 16
  if 0x8000 ≤ a && a < 0x9000 then
    !h.isOut c || (h.lead c != c && !([0x24, 0x28, 0x2C, 0x30].contains (a % 0x100)))
  else decide (0xA000 ≤ a) && decide (a < 0xB000) && !h.isIn c

/-- IN_STAT.uncertain, which shows while the link is up whether new stamps would be marked uncertain (R267, R275). -/
def Hub.showUncertain (h : Hub) (a v : Nat) : Nat :=
  if a / 0x1000 == 0xA && a % 0x100 == 0x20 && h.hinge.upL then putBit v 9 h.stampUncertain else v

/-- What a register reads as for ward `w`, before any side effect of the read. A channel register that its mode leaves at its reset value
still shows OUT_CFG.mode (R200, R208); PWR_VF reads 0 while the link is down; the BLK_RCV_ registers read 0 outside *Recovery* (R182); PD_FCHB reads
as off for the life of the Blank on the PWH0840-SQ. -/
def Hub.peek (h : Hub) (a w : Nat) : Nat :=
  if h.atReset a then
    (if a < 0x9000 && a % 0x100 == 0 then h.mode (a / 0x100 % 16) + (resetWord a - resetWord a % 16) else resetWord a)
  else if a == 0x1018 && !h.hinge.upL then 0
  else if 0x3080 ≤ a && a < 0x3200 && h.state != .recovery then 0
  else
    let v := h.showUncertain a (h.storedWord a w + h.computedBits a w)
    if a == 0x1008 && h.chip.part == .pwh0840 then v ||| 8 else v

/-! ### Reads with a side effect -/

/-- A ward reads a register: the word and the hub after the side effects of the read (R110, R251, R350, R617, R635, R648, R665 and
the RC fields of R6). -/
def Hub.readReg (h : Hub) (w a : Nat) : Nat × Hub :=
  let v := h.peek a w
  let o := a % 0x1000
  match a / 0x1000 with
  | 0x2 => (v, if o == 0x10 then h.latchTb w else h)
  | 0xA =>
    let c := o / 0x100
    if !h.isIn c then (v, h)
    else if o % 0x100 == 0x30 then h.readTsLo c
    else if o % 0x100 == 0x2C then (v, (h.wr IN_FIFO_overflow 0 c).wr IN_FIFO_discarded 0 c)
    else (v, h)
  | 0xE =>
    if o == 0x80 then h.readLsyRx w
    else if o == 0x84 then (v, h.wr LSY_RX_STAT_overflow 0)
    else (v, h)
  | 0x14 =>
    if o == 0x08 then (v, h.readNewest w)
    else if o == 0x70 then (v, h.readSqbHi w)
    else if o == 0x200 then h.readNonce
    else (v, h)
  | 0x15 =>
    if 0x100 ≤ o && o % 0x40 == 0x04 then
      let h := h.readLifeWindow ((o - 0x100) / 0x40)
      (h.peek a w, h)
    else (v, h)
  | _ => (v, h)

/-- A ward reads a word of the bank window, of a DP or through an alias window; stored bits are returned whatever the check code says,
with an uncorrectable error counted (R280, R459, R461). -/
def Hub.readMem (h : Hub) (w a : Nat) : Nat × Hub :=
  let a := plainAddr a
  let h := if h.isBad a then h.ueFound (addrBank a).1 (addrBank a).2 else h
  if 0x1C0000 ≤ a then h.readDp w a else (h.memWord a, h)

/-- A ward reads the word at a byte address. -/
def Hub.readWord (h : Hub) (w a : Nat) : Nat × Hub := if a < 0x100000 then h.readReg w a else h.readMem w a

end Sys2Proof.Machine
end

