-- ==== Sys2Proof/Machine/Scheduler.lean ====
section
/-!
DEFINITION. The budget scheduler's decision (chapter 15): predictions, costs, the admission rules, soft cuts, sheds, restores and the
switching off of idle domains.  Temperatures are in µ°C, powers of channels in µW, powers on VF in mW, energies in 0.1 µJ.

What the spec leaves open here: DEDUCED, log entries 48, 49, 50, 71, 99.
-/

namespace Sys2Proof.Machine

/-! ### Lists in order -/

/-- An element put at its place in a list in order. -/
def insertBy {α : Type} (before : α → α → Bool) (x : α) : List α → List α
  | [] => [x]
  | y :: rest => if before y x then y :: insertBy before x rest else x :: y :: rest

/-- A list sorted by "stands before or equal"; equal elements keep their order. -/
def sortBy {α : Type} (le : α → α → Bool) (l : List α) : List α := l.foldl (fun m x => insertBy le x m) []

/-! ### Prediction (R477) -/

/-- The channels the part has. -/
def Hub.chCount (h : Hub) : Nat := if h.chip.part == .pwh1640 then 16 else 8

/-- The positive rise of a reference sensor over the last 100 ms, carried on over the horizon (R477). -/
def Hub.slopeH (h : Hub) (s : Nat) : Int :=
  let now := vget h.sch.view.temps s 0
  let old := match (vget h.sch.view.past s []).getLast? with | some x => x.2 | none => now
  max 0 ((now - old) * 125000 * (h.rd SCH_CFG_horizon_ms : Int) / 100)

/-- A field sensor's predicted peak (R477). -/
def Hub.sensorPeak (h : Hub) (k : Nat) : Int :=
  let s := h.viewSensor k
  125000 * vget h.sch.view.temps s 0 + h.slopeH s

/-- The predicted peaks of the channels' junctions with further powers added (R477, R478). -/
def Hub.peaks (h : Hub) (extra : List (Nat × Nat)) : List Int :=
  let x := h.sch.view
  let hz := h.rd SCH_CFG_horizon_ms
  let e1 := expNeg (10 * hz) (max 1 (h.rd SCH_MODEL1_tau1))
  let e2 := expNeg hz (max 1 (h.rd SCH_MODEL1_tau2))
  let e3 := expNeg hz (10 * max 1 (h.rd SCH_MODEL1_tau3))
  let p := (List.range 16).map (fun c => extra.foldl (fun m y => if y.1 == c then m + y.2 else m) (vget x.power c 0))
  let group := fun g => (List.range 4).foldl (fun m k => m + p.getD (4 * g + k) 0) 0
  (List.range 16).map (fun c =>
    let g := c / 4
    let r1 := vget x.rise1 c 0
    let r2 := vget x.rise2 c 0
    let r3 := vget x.rise3 g 0
    let n1 := nodeRise (p.getD c 0 * h.rd SCH_MODEL0_r1 / 10) r1 e1
    let n2 := nodeRise (p.getD c 0 * h.rd SCH_MODEL0_r2 / 10) r2 e2
    let n3 := nodeRise (group g * h.rd SCH_MODEL0_r3 / 10) r3 e3
    h.sensorPeak g + (max r1 n1 + max r2 n2 + max r3 n3 : Nat))

/-- The junction soft limit of ward `w`'s own channels in °C (R482, R497). -/
def Hub.wardLimit (h : Hub) (w : Nat) : Nat :=
  let b := h.rd SCH_TLIM_tj_soft
  let r := if w < 8 then h.rd SCH_RT_tj_soft_rt w else 0
  if r == 0 then b else min r b

/-- The junction soft limit of channel `c` in °C. -/
def Hub.ownLimit (h : Hub) (c : Nat) : Nat := h.wardLimit (h.candWard c)

/-- A limit in °C as µ°C. -/
def degrees (n : Nat) : Int := 1000000 * (n : Int)

/-! ### The supply account (R479) -/

/-- The power on VF, averaged over the last 1 ms. -/
def Hub.pMeas (h : Hub) : Nat :=
  let l := h.sch.pWindow
  if l.isEmpty then 0 else l.foldl (fun m x => m + x.1 + x.2.toList.foldl (· + ·) 0) 0 / l.length

/-- SCH_VF_BUD.p_avg in mW. -/
def Hub.pAvg (h : Hub) : Nat := 100 * h.rd SCH_VF_BUD_p_avg

/-- The account brought up to date at a decision. -/
def Hub.account (h : Hub) : Hub :=
  let pm := h.pMeas
  let burst : Int := 1000000 * (h.rd SCH_VF_BUD_burst : Int)
  let a := if h.pAvg == 0 then h.sch.account else max (-burst) (min burst (h.sch.account + h.pAvg - pm))
  let h := { h with sch := { h.sch with account := a } }
  (h.wr SCH_VF_STAT_p_meas (min 65535 (pm / 100))).wr SCH_VF_STAT_account (ofSigned 16 (a / 1000000))

/-- A supply crossing is present, or not (R486). -/
def Hub.showVfCross (h : Hub) : Hub :=
  h.put SCH_STAT_vf_cross (h.pAvg != 0 && decide (h.sch.account ≤ 0) && decide (h.pAvg < h.pMeas))

/-! ### Costs (R480) -/

/-- The current that channel `c` is priced at in mA, for a pair the pair's current. -/
def Hub.iEst (h : Hub) (c : Nat) : Nat :=
  let l := (h.chSet (h.lead c)).map (fun x => vget h.sch.iest x none)
  if l.all Option.isSome then l.foldl (fun m x => m + x.getD 0) 0 else 100 * h.pricedIlim c

/-- What the turn-on of channel `c` adds: its power in µW and its power on VF in mW; each half of a pair takes half. -/
def Hub.turnOnCost (h : Hub) (c : Nat) : Nat × Nat :=
  let i := h.iEst c
  let n := (h.chSet (h.lead c)).length
  (i * i * h.rdsAt (degrees (h.ownLimit c)) / 100000 / n, h.rd PWR_VF_vf * i / 100 / n)

/-- What the return of channel `c` adds where its last episode was limiting (R236). -/
def Hub.restartCost (h : Hub) (c : Nat) : Nat × Nat := (1000 * (h.out c).limMw, h.rd PWR_VF_vf * (100 * (h.out c).limAt) / 100)

/-- A candidate's Pch by channel, and its Pvf. A DIAG carries no cost. -/
def Hub.candCost (h : Hub) (x : Cand) : List (Nat × Nat) × Nat :=
  let free := x.kind == .operation && (match h.opAt x.ref with | some o => o.kind == 8 | none => true)
  if free then ([], 0)
  else
    (bitList 16 x.chs).foldl (fun m c =>
      let k := if x.kind == .uvReturn && (h.out c).limMw != 0 then h.restartCost c else h.turnOnCost c
      (m.1 ++ [(c, k.1)], m.2 + k.2)) ([], x.pvf)

/-! ### Admitted actions (R478, R481) -/

/-- The uses of the NVM controller's operations that a hub-internal candidate stands for. -/
def nvmUses (ref : Nat) : List NvmUse :=
  if ref == 0 then [.journal, .reclaim, .clearErase] else if ref == 1 then [.mirror, .rebase, .retained] else [.recovery]

/-- An admitted action has not yet taken effect, or its VDD current still runs. -/
def Hub.stillCounts (h : Hub) (a : Admitted) : Bool :=
  let waitsOn := vget h.hinge.cmd a.ref 0 == 1 && !(h.out a.ref).gate
  match a.kind with
  | .turnOn => waitsOn
  | .restore => waitsOn
  | .retry => h.cmdOn a.ref && (h.out a.ref).go
  | .uvReturn => h.cmdOn a.ref && (h.out a.ref).go
  | .tmbStart => h.tmbState a.ref == 1 || (h.tmbRuns a.ref && h.rd TMB_CYCLES_count a.ref == 0)
  | .heavyVec => (h.tmb a.ref).heavyOk && h.tmbRuns a.ref
  | .pairClose => h.lsy.closeAt.isSome && !h.lsy.closePast
  | .domainWake => bitOf h.sup.waking a.ref
  | .operation => (match h.opAt a.ref with | some o => o.phase == .admitted || o.phase == .waiting | none => false)
  | .nvmPage => (h.nvmOp.toList ++ h.nvmQ).any (fun o => (nvmUses a.ref).contains o.use)
  | .nvmErase => (h.nvmOp.toList ++ h.nvmQ).any (fun o => (nvmUses a.ref).contains o.use)
  | .turnOff => false
  | .litCheck => (h.out a.ref).litOk || (h.out a.ref).lit
  | .bist => h.dev.test

/-- Admitted actions that have taken effect or were cancelled leave the running prediction. -/
def Hub.prune (h : Hub) : Hub :=
  { h with sch := { h.sch with
      admitted := h.sch.admitted.filter h.stillCounts
      shares := h.sch.shares.map (fun l => l.filter (fun x => decide (h.clk.now < x.1 + Config.ticksPerS))) } }

/-- The powers that admitted actions add to the channels, and to VF. -/
def Hub.running (h : Hub) : List (Nat × Nat) × Nat :=
  h.sch.admitted.foldl (fun m a => (m.1 ++ a.pch, m.2 + a.pvf)) ([], 0)

/-- The VDD current of admitted actions. -/
def Hub.maNow (h : Hub) : Nat := h.sch.admitted.foldl (fun m a => m + a.ivdd) 0

/-! ### The effect of an admission -/

/-- A candidate would move a channel that is held at its safe state (R205): none does. A return to a safe state of ON leaves it there. -/
def Hub.candHeld (h : Hub) (x : Cand) : Bool :=
  movesCh x.ref x && x.kind != .retry && x.kind != .uvReturn && h.flag OUT_STAT_safe_hold x.ref

/-- What an admitted action does. A retry or return is for a channel that is still commanded on (R212, R215). -/
def Hub.takeEffect (h : Hub) (x : Cand) : Hub :=
  let c := x.ref
  let settled := fun (h : Hub) => (h.modOut c (fun o => { o with wait := none })).put OUT_STAT_pending false c
  let back := fun (h : Hub) => forAll (h.chSet c) (fun h y => h.modOut y (fun o => { o with go := true })) h
  let again := fun (h : Hub) =>
    if h.heldOn c then (back h).command (h.chSet c) (if h.flag OUT_STAT_safe_hold c then 2 else 1) false else h
  if h.candHeld x then settled h else
  match x.kind with
  | .turnOn => (settled h).command (h.chSet c) 1 false
  | .turnOff => (settled h).command (h.chSet c) 0 false
  | .restore =>
    let h := forAll (h.chSet c) (fun h y => h.setShed y false) h
    let h := h.note 0x28 0x47 sevNote 4 [c]
    (if (h.out c).uvOff || (h.out c).retryWait then back h else h).command (h.chSet c) 1 false
  | .retry => again h
  | .uvReturn => again h
  | .litCheck => h.modOut c (fun o => { o with litOk := true })
  | .tmbStart => h.tmbAdmit c
  | .heavyVec => h.modTmb c (fun y => { y with heavyOk := true })
  | .domainWake => { h with sup := { h.sup with waking := setBit h.sup.waking c, wakeReq := clrBit h.sup.wakeReq c } }
  | .nvmPage => if c == 0 then h.journalAdmit else if c == 1 then h.lifeAdmit false else h.rcvAdmit
  | .nvmErase => if c == 0 then h.eraseAdmit else if c == 1 then h.lifeAdmit true else h.rcvAdmit
  | .operation => h.modOp c (fun o => { o with phase := .admitted, deferred := false })
  | .pairClose =>
    let inTime := match h.lsy.closeAt with | some t => decide (h.clk.tb + 200 ≤ t) | none => false
    { h with lsy := { h.lsy with closeAdmitted := inTime } }
  | .bist => h.enterTest c

/-- A candidate admitted: it leaves the queue, its cost counts from now on, and it takes effect (R478, R483). -/
def Hub.admitCand (h : Hub) (x : Cand) : Hub :=
  let k := h.candCost x
  let h := h.dropCand (fun y => y.kind == x.kind && y.ref == x.ref)
  let a : Admitted := { kind := x.kind, ref := x.ref, chs := x.chs, pch := k.1, pvf := k.2, ivdd := x.ivdd
                        instant := if x.kind == .tmbStart then some (h.clk.tb + 200) else x.instant }
  let h := if x.kind == .turnOff then h
    else { h with sch := { h.sch with admitted := h.sch.admitted ++ [a] } }
  let h := if x.ward < 8 then
      { h with sch := { h.sch with shares := vset h.sch.shares x.ward ((h.clk.now, k.2) :: vget h.sch.shares x.ward []) } } else h
  h.takeEffect x

/-! ### The admission rules (R482) -/

/-- The instants of the model's clock at which heavy turn-ons that are admitted take effect, of all wards or of one. -/
def Hub.heavyAt (h : Hub) (w : Option Nat) : List Nat :=
  (h.sch.admitted.filter (fun a => (bitList 16 a.chs).any (fun c =>
    h.flag OUT_CFG_heavy (h.lead c) && h.mode c != 8 && (match w with | some v => h.chOwner c == some v | none => true)))).map
    (fun a => match a.instant with | some t => h.clk.now + (t - h.clk.tb) | none => h.clk.now)

/-- The stagger allows a heavy turn-on of ward `w` at an instant of the model's clock (R484). -/
def Hub.staggerOk (h : Hub) (w t : Nat) : Bool :=
  let gap := h.rd SCH_CFG_stagger_ms * Config.ticksPerMs
  let own := (if w < 8 then max (h.rd SCH_CFG_stagger_ms) (h.rd SCH_RT_stagger_rt w) else 0) * Config.ticksPerMs
  let clear := fun (g : Nat) (u : Nat) => decide (u + g ≤ t) || decide (t + g ≤ u)
  (h.sch.lastHeavy.toList ++ h.heavyAt none).all (clear gap) &&
    (if w < 8 then ((vget h.sch.wardHeavy w none).toList ++ h.heavyAt (some w)).all (clear own) else true)

/-- R64 defers a candidate. -/
def Hub.dipDefers (h : Hub) (x : Cand) : Bool :=
  h.sup.warn &&
    (match x.kind with
     | .turnOff => false
     | .heavyVec => false
     | .domainWake => x.ref == 4 || x.ref == 5 || x.ref == 10
     | _ => true)

/-- A candidate needs the field die (R138, R494). -/
def Hub.candField (h : Hub) (x : Cand) : Bool :=
  match x.kind with
  | .tmbStart => h.drivesField x.ref
  | .domainWake => x.ref == 10
  | .nvmPage => false
  | .nvmErase => false
  | .bist => false
  | .operation => x.chs != 0
  | _ => true

/-- The domains a candidate needs that are off (R77, R320, R493). -/
def Hub.candDomains (h : Hub) (x : Cand) : List Nat :=
  let fchb := if x.kind != .domainWake && 256 ≤ x.chs then [10] else []
  let seq := if x.kind == .tmbStart then [3, 5] else []
  (fchb ++ seq).filter (fun d => !bitOf h.sup.on d)

/-- The tumblers that an operation starts, as a map: that of a TMB operation, or those of a batch's records. -/
def Hub.opStarts (h : Hub) (o : Op) : Nat :=
  if o.kind == 6 then 2 ^ bitsOf o.field 3 3
  else if o.kind == 1 || o.kind == 10 then
    (h.records o.recPtr (o.field + 1)).foldl (fun m r =>
      if 0xC000 ≤ r.1 && r.1 < 0xD000 && h.recordCosts r.1 r.2 then setBit m ((r.1 - 0xC000) / 0x200) else m) 0
  else 0

/-- A candidate is a start or a heavy vector of a tumbler named in SCH_NOSHED.tmb (R491). -/
def Hub.candKept (h : Hub) (x : Cand) : Bool :=
  let tmbs := match x.kind with
    | .tmbStart => 2 ^ x.ref
    | .heavyVec => 2 ^ x.ref
    | .operation => (match h.opAt x.ref with | some o => h.opStarts o | none => 0)
    | _ => 0
  tmbs &&& h.rd SCH_NOSHED_tmb != 0

/-- A candidate is an NVM program or erase. -/
def Hub.candNvm (h : Hub) (x : Cand) : Bool :=
  x.kind == .nvmPage || x.kind == .nvmErase ||
    (x.kind == .operation && (match h.opAt x.ref with | some o => o.kind == 9 | none => false))

/-- A hub-internal NVM page or erase: of the journal, the ledger or the retained mirror. -/
def ownPage (x : Cand) : Bool := (x.kind == .nvmPage || x.kind == .nvmErase) && decide (x.ref < 2)

/-- Rules 4 to 7 of R482, as bits 3 and 6 of SCH_WSTAT.reason. -/
def Hub.rules47 (h : Hub) (x : Cand) : Nat :=
  let vdd := x.ivdd != 0 &&
    (decide (h.rd SCH_LOGIC_ma_max < h.maNow + x.ivdd) ||
      (!ownPage x && decide (8 * (h.rd SCH_TLIM_logic_soft : Int) ≤ h.logicTemp)))
  let nvm := (h.candNvm x && !(h.sup.vholdOk && h.vppOk h.sup.vhold)) ||
    (x.kind == .nvmErase && x.ref == 0 && decide (h.rd SCH_LOGIC_nvm_cycles ≤ vget h.sch.erases h.eraseSector 0))
  (if vdd then 8 else 0) + (if nvm then 64 else 0)

/-- The thermal nodes, each with its predicted peak above a limit: those at or above it. -/
def overNodes (l : List (Nat × Int)) : List (Int × Nat) := (l.filter (fun x => decide (0 ≤ x.2))).map (fun x => (x.2, x.1))

/-- Rules 1 to 3 of R482, or of R490 for a restore: the reasons, and the nodes the candidate would cross. -/
def Hub.rules13 (h : Hub) (x : Cand) : Nat × List (Int × Nat) :=
  let k := h.candCost x
  let r := h.running
  let m := if x.kind == .restore then h.rd SCH_TLIM_restore_margin else 0
  let pk := h.peaks (r.1 ++ k.1)
  let lim := fun c => if x.ward < 8 && h.chOwner c == some x.ward then h.wardLimit x.ward else h.rd SCH_TLIM_tj_soft
  let js := overNodes ((List.range h.chCount).map (fun c => (c, pk.getD c 0 - degrees (lim c - m))))
  let fs := overNodes ((List.range 6).map (fun s => (16 + s, h.sensorPeak s - degrees (h.rd SCH_TLIM_field_soft - m))))
  let p := h.pMeas + r.2 + k.2
  let gap : Int := 10 * ((p : Int) - h.pAvg) * h.rd SCH_CFG_horizon_ms
  let vf := h.pAvg != 0 && !(decide (p ≤ h.pAvg) || (x.kind != .restore && decide (gap ≤ h.sch.account)))
  ((if js.isEmpty then 0 else 1) + (if fs.isEmpty then 0 else 2) + (if vf then 4 else 0),
    js ++ fs ++ (if vf then [(gap - h.sch.account, 24)] else []))

/-- A candidate judged: admitted or not, the reasons of R504, whether it waits only for the stagger, and the nodes it would cross. -/
def Hub.judgeCand (h : Hub) (x : Cand) : Bool × Nat × Bool × List (Int × Nat) :=
  let room := h.rules13 x
  let room := if x.kind == .turnOff then (0, []) else room
  let at_ := match x.instant with
    | some t => h.clk.now + (t - h.clk.tb)
    | none => if x.kind == .tmbStart then h.clk.now + 200 else h.clk.now
  let late := x.heavy && !h.staggerOk x.ward at_
  let reason := room.1 + h.rules47 x + (if late then 16 else 0) + (if h.dipDefers x then 32 else 0)
  let other := h.candHeld x || (h.candField x && !h.hinge.upL) || !(h.candDomains x).isEmpty ||
    (x.cls == 2 && h.flag SCH_STAT_warn && !ownPage x)
  (reason == 0 && !other, reason, reason == 16 && !other, room.2)

/-! ### The order of candidates (R483) -/

/-- Pvf admitted for ward `w` in the last second. -/
def Hub.share (h : Hub) (w : Nat) : Nat := (vget h.sch.shares w []).foldl (fun m x => m + x.2) 0

/-- The wards in rising order of their share used. -/
def Hub.wardOrder (h : Hub) : List Nat :=
  sortBy (fun a b => decide (h.share a * max 1 (h.weightOf b) ≤ h.share b * max 1 (h.weightOf a))) (List.range 8)

/-- A shed channel may be restored: it is still commanded on and nothing else holds it off (R490, R501). -/
def Hub.restorable (h : Hub) (c : Nat) : Bool :=
  let src := h.rd OUT_CFG_src c
  h.flag OUT_STAT_shed c && h.flag OUT_CTRL_on c && !h.flag OUT_STAT_safe_hold c && h.state != .safe && !(h.out c).uvLow && !(h.out c).hot &&
    !(h.out c).tsdLatched && (src == 0 || bitOf (h.rd TMB_PATTERN_pins (src - 1)) c)

/-- The candidates in the order of judgement; restores only where they are to be judged (R490). -/
def Hub.candOrder (h : Hub) (restores : Bool) : List Cand :=
  let wards := h.wardOrder
  let q := h.sch.queue.filter (fun x => x.kind != .restore || (restores && h.restorable x.ref))
  [0, 1, 2].flatMap (fun k =>
    let l := q.filter (fun x => min x.cls 2 == k)
    sortBy (fun a b => decide (a.rank ≤ b.rank)) (l.filter (fun x => decide (8 ≤ x.ward))) ++
      wards.flatMap (fun w =>
        let own := l.filter (fun x => x.ward == w)
        sortBy (fun a b => decide (16 * h.rd OUT_CFG_shed_class a.ref + a.ref ≤ 16 * h.rd OUT_CFG_shed_class b.ref + b.ref))
          (own.filter (fun x => x.kind == .restore)) ++ own.filter (fun x => x.kind != .restore)))

/-! ### Shedding (R486 to R489) -/

/-- Channel `c` can be shed (R487). -/
def Hub.sheddable (h : Hub) (c : Nat) : Bool :=
  let m := h.mode c
  let src := h.rd OUT_CFG_src c
  (m == 1 || m == 5 || m == 7 || m == 8) && h.lead c == c && (h.out c).sw && !h.flag OUT_STAT_shed c && h.rd OUT_CFG_shed_class c != 0 &&
    !h.flag OUT_CFG_safety c && !h.safeOn c && !h.isPairCh c &&
    !(src != 0 && bitOf (h.rd SCH_NOSHED_tmb) (src - 1) && (h.tmbRuns (src - 1) || h.tmbState (src - 1) == 1))

/-- The nodes that the running prediction crosses (R486). -/
def Hub.crossings (h : Hub) : List (Int × Nat) :=
  let r := h.running
  let pk := h.peaks r.1
  overNodes ((List.range h.chCount).map (fun c => (c, pk.getD c 0 - degrees (h.ownLimit c)))) ++
    overNodes ((List.range 6).map (fun s => (16 + s, h.sensorPeak s - degrees (h.rd SCH_TLIM_field_soft)))) ++
    (if h.flag SCH_STAT_vf_cross then [(10 * ((h.pMeas + r.2 : Nat) - (h.pAvg : Int)) * h.rd SCH_CFG_horizon_ms - h.sch.account, 24)] else [])

/-- The channels that drive a node (R486). -/
def nodeChannels (node : Nat) : List Nat :=
  if node < 16 then (List.range 4).map (fun k => 4 * (node / 4) + k)
  else if node < 20 then (List.range 4).map (fun k => 4 * (node - 16) + k)
  else List.range 16

/-- The channel to be shed for a node: the highest shed class, then the largest power, then the lower number (R486). -/
def Hub.shedChoice (h : Hub) (node : Nat) : Option Nat :=
  let power := fun c => (h.chSet c).foldl (fun m x => m + (if node == 24 then vget h.sch.view.vfPower x 0 else vget h.sch.view.power x 0)) 0
  ((nodeChannels node).filter h.sheddable).foldl (fun (best : Option Nat) c =>
    match best with
    | none => some c
    | some b =>
      let kb := h.rd OUT_CFG_shed_class b
      let kc := h.rd OUT_CFG_shed_class c
      if kb < kc || (kb == kc && power b < power c) then some c else some b) none

/-- The crossing that decides the shed, and the channel: thermal ones first, the one furthest above its limit, then the lower node
(R486). -/
def Hub.shedPick (h : Hub) (l : List (Int × Nat)) : Option (Nat × Int × Nat) :=
  let thermal := sortBy (fun a b => decide (b.1 < a.1) || (a.1 == b.1 && decide (a.2 ≤ b.2))) (l.filter (fun x => x.2 != 24))
  (thermal ++ l.filter (fun x => x.2 == 24)).findSome? (fun x => (h.shedChoice x.2).map (fun c => (c, x)))

/-- Channels whose power leaves the prediction and the account at once (R479, R492, R499). -/
def Hub.offNow (h : Hub) (l : List Nat) : Hub :=
  forAll l (fun h c =>
    let v := h.sch.view
    ({ h with sch := { h.sch with view := { v with power := vset v.power c 0, vfPower := vset v.vfPower c 0 } } }).dropVf c) h

/-- A node's value in the units of SCH_WORST.value. -/
def worstValue (x : Int × Nat) : Nat :=
  if x.2 == 24 then ofSigned 16 (max (-32768) (min 32767 (x.1 / 1000000))) else ofSigned 16 (max (-32768) (min 32767 (x.1 / 125000)))

/-- A channel is shed (R488). -/
def Hub.shed (h : Hub) (c : Nat) (x : Int × Nat) : Hub :=
  let set := h.chSet c
  let h := (forAll set (fun h y => h.setShed y true) h).command set 0 true
  let h := (h.offNow set).count SCH_SHED_total
  let h := h.note 0x27 0x47 sevWarning 8 [c + h.rd OUT_CFG_shed_class c * 2 ^ 4 + x.2 * 2 ^ 8, worstValue x]
  (h.intOwner (h.chOwner c) 6).submit { h.chCand .restore c with cls := 2 }

/-- The soft cuts of a decision (R230, R492). -/
def Hub.softCuts (h : Hub) : Hub :=
  let pk := h.peaks h.running.1
  let due := (List.range h.chCount).filter (fun c =>
    h.isOut c && (h.out c).limiting && h.flag OUT_LIM_soft_tl (h.lead c) && !h.safeOn c && decide (degrees (h.ownLimit c) ≤ pk.getD c 0))
  forAll due (fun h c => if (h.out c).limiting then (h.shutdown c true false).offNow (h.chSet c) else h) h

/-- The crossing check: at most one shed, and SCH_OVER where none can be made (R486, R489). The answer says whether a crossing was
present, and whether a channel was shed. -/
def Hub.crossCheck (h : Hub) : Hub × Bool × Bool :=
  match h.crossings with
  | [] => ((h.put SCH_STAT_over false).lower 43 16, false, false)
  | l =>
    match h.shedPick l with
    | some y => (h.shed y.1 y.2, true, true)
    | none => ((h.put SCH_STAT_over true).raise 43 16 1 detailOpen, true, false)

/-- SCH_WORST and the predicted peaks (R504). -/
def Hub.showWorst (h : Hub) : Hub :=
  let r := h.running
  let pk := h.peaks r.1
  let h := (List.range 16).foldl (fun h c => h.wr SCH_TJ_pred (temp16 (pk.getD c 0 / 125000)) c) h
  let lt := fun (k : Nat) => 125000 * vget h.sch.temps (6 + k) 0 - degrees (h.rd SCH_TLIM_logic_soft)
  let nodes : List (Int × Nat) := (List.range h.chCount).map (fun c => (pk.getD c 0 - degrees (h.ownLimit c), c)) ++
    (List.range 6).map (fun s => (h.sensorPeak s - degrees (h.rd SCH_TLIM_field_soft), 16 + s)) ++ [(lt 0, 22), (lt 1, 23)]
  let top : Int × Nat := nodes.foldl (fun (b : Int × Nat) x => if b.1 < x.1 then x else b) (nodes.headD (0, 0))
  let e : Int := 10 * ((h.pMeas + r.2 : Nat) - (h.pAvg : Int)) * h.rd SCH_CFG_horizon_ms - h.sch.account
  let top := if h.pAvg != 0 && decide (top.1 < 0) && decide (0 < e) then (e, 24) else top
  (h.wr SCH_WORST_node top.2).wr SCH_WORST_value (worstValue top)

/-! ### The candidates of a decision -/

/-- What judging the candidates has come to: later candidates are blocked, the reasons by ward, the wards with a deferral, and the
nodes at which room is to be made (R491). -/
structure Judged where
  block : Bool := false
  reasons : Vector Nat 8 := Vector.replicate 8 0
  wards : Nat := 0
  room : List (Int × Nat) := []

/-- A candidate judged in its turn: admitted, or deferred with its reasons (R483, R491, R493). One that waits for the link is not judged (R494;
log entry 99). -/
def Hub.judgeNext (h : Hub) (j : Judged) (x : Cand) : Hub × Judged :=
  if h.candField x && !h.hinge.upL then (h, j) else
  let r := if j.block then (false, 0, true, []) else h.judgeCand x
  if r.1 then (h.admitCand x, j)
  else
    let h := if j.block then h else forAll ((h.candDomains x).filter (fun d => !h.blankOff d)) Hub.wantDomain h
    let h := if x.kind == .operation then h.modOp x.ref (fun o => { o with deferred := true }) else h
    let old := decide (x.at_ + h.rd SCH_CFG_age_ms * Config.ticksPerMs ≤ h.clk.now)
    (h, { block := j.block || (old && !r.2.2.1)
          reasons := if x.ward < 8 then vset j.reasons x.ward (vget j.reasons x.ward 0 ||| r.2.1) else j.reasons
          wards := if x.ward < 8 then setBit j.wards x.ward else j.wards
          room := if h.candKept x then j.room ++ r.2.2.2 else j.room })

/-- The wakes that the candidates of a decision wait for are candidates of the same decision (R493). -/
def Hub.askWakes (h : Hub) (restores : Bool) : Hub :=
  let l := (h.candOrder restores).filter (fun x => !h.candField x || h.hinge.upL)
  forAll (l.flatMap h.candDomains).dedup (fun h d => if h.blankOff d then h else h.wantDomain d) h

/-- The candidates judged in their order. -/
def Hub.judgeAllCands (h : Hub) (restores : Bool) : Hub × Judged :=
  let h := h.askWakes restores
  (h.candOrder restores).foldl (fun p x => p.1.judgeNext p.2 x) (h, {})

/-- The channel that makes room for a protected sequence, where a decision has not shed one yet (R491). -/
def Hub.roomPick (h : Hub) (j : Judged) : Option (Nat × Int × Nat) :=
  if j.room.isEmpty || !h.hinge.upL then none else h.shedPick j.room

/-- The wards' deferrals counted (R504). -/
def Hub.showDeferred (h : Hub) (j : Judged) : Hub :=
  forAll (bitList 8 j.wards) (fun h w => (h.wr SCH_WSTAT_reason (vget j.reasons w 0) w).countMod SCH_WDEFER_count 1 w) h

/-! ### Idle domains (R75, R98) -/

/-- The Blank allows the scheduler to switch a domain off. -/
def Hub.domainAuto (h : Hub) (d : Nat) : Bool :=
  match d with
  | 2 => h.flag PWR_DOM_CFG_ops_auto
  | 3 => h.flag PWR_DOM_CFG_seq_auto
  | 5 => h.flag PWR_DOM_CFG_mem1_auto
  | 10 => h.flag PWR_DOM_CFG_fchb_auto
  | _ => false

/-- A domain switched off: its run-time fields are kept, the handovers of its banks are abandoned, its channels conduct no more
(R77, R98, R434, R679). -/
def Hub.domainOff (h : Hub) (d : Nat) : Hub :=
  let h := h.keepDomain d
  let h := { h with sup := { h.sup with on := clrBit h.sup.on d } }
  if d == 5 then forAll (List.range 24) (fun h i => h.handDrop (24 + i) 5) h
  else if d == 10 then forAll (List.range 8) (fun h i => h.reSwitch (8 + i)) h
  else h

/-- The switch-offs of a decision; a wake request of the domain comes first (R75, R98, R493). -/
def Hub.idleDomains (h : Hub) : Hub :=
  forAll [2, 3, 5, 10] (fun h d =>
    let due := match vget h.fol.idleSince d none with
      | some t => decide (t + h.rd PWR_DOM_CFG_idle_ms * Config.ticksPerMs ≤ h.clk.now)
      | none => false
    if due && h.domainIdle d && h.domainAuto d && bitOf h.sup.on d && !bitOf h.sup.wakeReq d && !bitOf h.sup.waking d && (d != 10 || h.hinge.upL) then
      h.domainOff d
    else h) h

/-! ### The decision (R727) -/

/-- In *Recovery* a recovery page or erase is judged by rules 4 to 7 and R64 alone (R182, R194, R494). -/
def Hub.decideEarly (h : Hub) : Hub :=
  forAll [0, 1] (fun h k =>
    match h.sch.queue.find? (fun x => x.kind == (if k == 0 then CandKind.nvmPage else CandKind.nvmErase) && x.ref == 2) with
    | some x => if h.rules47 x == 0 && !h.dipDefers x then h.admitCand x else h
    | none => h) h

/-- A decision in a state in which the scheduler decides (R478 to R494). One that sheds a channel to make room judges no restore (R490, R491). -/
def Hub.decision (h : Hub) : Hub :=
  let h := h.account
  let h := (if h.hinge.upL then h.softCuts else h).showVfCross
  let c := if h.hinge.upL then h.crossCheck else (h, !h.crossings.isEmpty, false)
  let h := c.1.showWorst
  if h.state == .test then h
  else
    let p := h.judgeAllCands (h.hinge.upL && !c.2.1)
    let p := if !c.2.1 && (p.1.roomPick p.2).isSome then h.judgeAllCands false else p
    let h := p.1.showDeferred p.2
    let h := if c.2.2 then h else match h.roomPick p.2 with | some y => h.shed y.1 y.2 | none => h
    h.idleDomains

/-- SCHEDULER_DECISION (R727): at a timebase that is a multiple of 10,000 ticks. -/
def execSchedulerDecision (s : State) : Host.Outcome State Fault Refusal :=
  s.on (fun h =>
    if !h.logicRuns || h.sup.pd.isSome || h.clk.tb % 10000 != 0 then h
    else
      let h := h.prune
      match h.state with
      | .run => h.decision
      | .degraded => h.decision
      | .safe => h.decision
      | .brown => h.decision
      | .test => h.decision
      | .recovery => h.decideEarly
      | _ => h)

/-- ERASE_DAY_BOUNDARY (R485): a day of 86,400 s of the timebase is over, and the erases of the new one are counted from 0. -/
def execEraseDayBoundary (s : State) : Host.Outcome State Fault Refusal :=
  s.on (fun h =>
    let today := h.clk.tb / (86400 * Config.ticksPerS)
    if today == h.sch.day then h else { h with sch := { h.sch with erases := Vector.replicate 32 0, day := today } })

end Sys2Proof.Machine
end

