-- ==== Sys2Proof/Machine/SelfTestOrders.lean ====
section
/-!
DEFINITION. The orders of the built-in self-test (R584): an accepted order is a candidate of the scheduler (R14, R480, R483), and the test
begins once it is admitted.

What the spec leaves open here: DEDUCED, log entries 55, 60, 71.
-/

namespace Sys2Proof.Machine

/-- The candidate of an ordered test: class C, of the hub's own, with the VDD current of the groups under test (R480, R483). -/
def bstCand (kind : Nat) : Cand := { kind := .bist, ref := kind, cls := 2, rank := 2, ivdd := if kind == 2 then 20 else 60 }

/-- W0's write to BST_CTRL (R584): an order that is accepted shows busy, and the hub enters *Test* with this write where the rules of
admission let the test start now, else at the scheduler decision that admits it. -/
def Hub.writeBstCtrl (h : Hub) (w v : Nat) : Hub :=
  if w == 0 && bitsOf v 16 16 == 0x4253 && v % 4 != 0 && h.bstStatus v == 0 then
    let h := ((h.put BST_STAT_busy true).wr BST_STAT_kind (v % 4)).wr BST_STAT_result 0
    if (h.judgeCand (bstCand (v % 4))).1 then h.admitCand (bstCand (v % 4)) else h.submit (bstCand (v % 4))
  else h

/-- A write to BST_CTRL whose kind is the row's. -/
def Hub.bstRow (h : Hub) (w v kind : Nat) : Hub := if h.writable w && v % 4 == kind then h.writeBstCtrl w v else h

/-- BST_LOGIC (R586). -/
def execBstLogic (w : Fin 8) (v : Word) (s : State) : Host.Outcome State Fault Refusal := s.on (fun h => h.bstRow w v.toNat 1)

/-- BST_FIELD (R590). -/
def execBstField (w : Fin 8) (v : Word) (s : State) : Host.Outcome State Fault Refusal := s.on (fun h => h.bstRow w v.toNat 2)

/-- BST_LOGIC_THEN_FIELD (R584). -/
def execBstLogicThenField (w : Fin 8) (v : Word) (s : State) : Host.Outcome State Fault Refusal := s.on (fun h => h.bstRow w v.toNat 3)

end Sys2Proof.Machine
end

