-- ==== Sys2Proof/Machine/RegWrite.lean ====
section
/-!
DEFINITION. What a write of each register does (the writes that take effect, block by block), and the trims of SCH_RT.
The rights to a register are judged by the ports (R363); the words of a frame that passed are written one after the other.

What the spec leaves open here: DEDUCED, log entries 51, 70.
-/

namespace Sys2Proof.Machine

/-- A ward's write to its SCH_RT (R497): 0 means the Blank's figure, and a looser value is taken as it. -/
def Hub.writeSchRt (h : Hub) (w v : Nat) : Hub :=
  let tj := v % 256
  let st := bitsOf v 8 6
  (h.wr SCH_RT_tj_soft_rt (if tj == 0 then 0 else min tj (h.rd SCH_TLIM_tj_soft)) w).wr SCH_RT_stagger_rt
    (if st == 0 then 0 else max st (h.rd SCH_CFG_stagger_ms)) w

/-- SCH_RT_WRITE (R497): a ward with page 3 open. -/
def execSchRtWrite (w : Fin 8) (v : Word) (s : State) : Host.Outcome State Fault Refusal :=
  s.on (fun h => if h.writable w && bitOf (h.rd WRD_EXP_OPEN_open w) 3 then h.writeSchRt w v.toNat else h)

/-- A ward's write to its WRD_EXP_OPEN (R372): with the key, the written set becomes the open set; each opening of pages 0 to 2 makes
a Warning record, of pages 3 to 6 a Note. -/
def Hub.writeExpOpen (h : Hub) (w v : Nat) : Hub :=
  if bitsOf v 16 16 != 0x4558 then h
  else
    let old := h.rd WRD_EXP_OPEN_open w
    let new := v % 256
    let opened := clrMask new old
    let h := (h.closePages w (clrMask old new)).wr WRD_EXP_OPEN_open new w
    let h := if opened % 8 != 0 then h.note 0x29 0x45 sevWarning 4 [w + opened % 8 * 2 ^ 8] else h
    if opened / 8 != 0 then h.note 0x29 0x45 sevNote 4 [w + opened / 8 * 8 * 2 ^ 8] else h

/-- Why a write of a ward to its WRD_EXP_OPEN is refused (R372): its status, 0 where it is not. -/
def Hub.expStatus (h : Hub) (w v : Nat) : Nat :=
  if bitsOf v 16 16 != 0x4558 then 0
  else if clrMask (v % 256) (h.rd WRD_CFG_exp_allow w) != 0 then 4
  else if clrMask (v % 8) (h.rd WRD_EXP_OPEN_open w) != 0 && !h.runs then 7
  else 0

/-- WRD_EXP_OPEN (R372). -/
def execWrdExpOpen (w : Fin 8) (v : Word) (s : State) : Host.Outcome State Fault Refusal :=
  s.on (fun h => if h.writable w && h.expStatus w v.toNat == 0 then h.writeExpOpen w v.toNat else h)

/-- A write to a BLK_RCV_ register in *Recovery* (R182). -/
def Hub.writeRcv (h : Hub) (w o v : Nat) : Hub :=
  if !h.recoveryWrites w || (o != 0x84 && h.flag BLK_RCV_STAT_busy) then h
  else if o == 0x80 then h.wr BLK_RCV_ADDR_addr v
  else if o == 0x84 then h.writeRcvCmd v
  else if 0x100 ≤ o && o < 0x200 then h.wr BLK_RCV_BUF_data v ((o - 0x100) / 4)
  else h

/-- The writes to the OPS_ block that take effect (R418). -/
def Hub.writeOps (h : Hub) (w o v : Nat) : Hub :=
  match o % 0x40 with
  | 0x18 => h.writeCqIdx w v
  | 0x24 => if bitOf v 31 then h.put OPS_CNT_WRAP_flag false w else h
  | 0x2C => h.writeCancel w v
  | 0x30 => if bitOf v 10 then h.put OPS_STAT_ring_err false w else h
  | 0x34 => h.writeQosRt w v
  | _ => h

/-- The writes to the INT_ and RST_ blocks that take effect (R448). -/
def Hub.writeIntRst (h : Hub) (w o v : Nat) : Hub :=
  if o < 0x400 then
    match o % 0x20 with
    | 0x04 => h.writeIntEn w v
    | 0x08 => h.writeIntStat w v
    | 0x0C => h.writeIntSet w v
    | 0x10 => h.writeIntMod w v
    | _ => h
  else match o with
  | 0x804 => h.writeRstDev w v
  | 0x808 => h.writeRstField w v
  | 0x80C => h.writeRstWard w v
  | _ => h

/-- The writes to an OUT_ register that take effect (R204, R208). -/
def Hub.writeOut (h : Hub) (c o v : Nat) (port : Option (Nat × Nat)) : Hub :=
  match o with
  | 0x18 => h.writeOutRt c v port
  | 0x20 => h.writeOutCtrl c v port
  | 0x28 => h.writeOutFlt c v port
  | _ => h

/-- The writes to the TMB_ block that take effect (R303, R321). -/
def Hub.writeTmb (h : Hub) (a v : Nat) : Hub :=
  let t := a % 0x1000 / 0x200
  if 0xD000 ≤ a then (if 0xD800 ≤ a && a < 0xD900 && a % 0x10 == 4 then h.writeCmpThr ((a - 0xD800) / 0x10) v else h)
  else match a % 0x200 with
  | 0x14 => h.wr TMB_MARCH_SEED_seed v t
  | 0x20 => h.writeTmbCtrl t v
  | _ => h

/-- The writes to the BNK_ block that take effect (R472). -/
def Hub.writeBnk (h : Hub) (w o v : Nat) : Hub :=
  if 0x300 ≤ o then h
  else match o % 0x10 with
  | 0x0 => h.writeBnkOwner w (o / 0x10) v
  | 0x4 => h.writeBnkStat (o / 0x10) v
  | 0x8 => h.writeBnkCtrl (o / 0x10) v
  | _ => h

/-- The writes to the REC_ block that take effect (R648). -/
def Hub.writeRec (h : Hub) (w o v : Nat) : Hub :=
  if o == 0x40 then h.wr REC_RD_SLOT_slot v 0 w
  else if o == 0x78 then h.writeRecRt w v
  else if o == 0x80 then h.writeJrdCtrl v
  else if o == 0x210 then (h.put REC_CLEAR_CTRL_journal (bitOf v 8)).wr REC_CLEAR_CTRL_auth (v % 4)
  else if 0x214 ≤ o && o < 0x224 then h.writeToken ((o - 0x214) / 4) v
  else if o == 0x240 then h.writeKeyCtrl v
  else if 0x260 ≤ o && o < 0x280 then h.wr REC_KEY_DATA_bytes v ((o - 0x260) / 4)
  else h

/-- The writes to the FLT_ and WDG_ blocks, and to those after them, that take effect (R554, R581, R671, R605). -/
def Hub.writeSafety (h : Hub) (w p o v : Nat) : Hub :=
  match p with
  | 0x10 => if 0x100 ≤ o && o % 0x10 == 0 then h.writeSchRt w v else h
  | 0x11 => if o == 0x14 then h.writeSafeExit w v else if o == 0x24 then h.writeProofCtrl w v else h
  | 0x12 =>
    if o < 8 then h.writeFltStatus w (o / 4) v
    else if 0x30 ≤ o && o < 0x38 then h.writeFltForce w ((o - 0x30) / 4) v
    else if 0x100 ≤ o && o % 0x20 == 0x10 then h.wr FLT_SEL_source v w
    else h
  | 0x13 => if o < 0x120 && o % 0x20 == 0x0C then h.writeKick (o / 0x20) v else h
  | 0x14 => h.writeRec w o v
  | 0x15 =>
    if o == 0x04 then h.writeLifeCtrl v
    else if 0x100 ≤ o && o % 0x40 == 0 then h.wr LIFE_SEL_ch v w
    else if 0x100 ≤ o && o % 0x40 == 0x2C then h.wr LIFE_HSEL_month v w
    else h
  | 0x16 => if o == 0x04 then h.writeBstCtrl w v else if o == 0x08 then h.writeBstXctrl v else h
  | _ => h

/-- A ward writes a register. -/
def Hub.writeReg (h : Hub) (w a v : Nat) (port : Option (Nat × Nat)) : Hub :=
  let o := a % 0x1000
  match a / 0x1000 with
  | 0x2 =>
    if o == 0x08 then h.writeClkCtrl w v
    else if o == 0x18 && bitOf v 16 then h.put CLK_TB_EPOCH_wrapped false 0 w
    else h
  | 0x3 =>
    if o == 0x1C then h.writeBlkCtrl w v
    else if o == 0x28 then h.writeBlkReboot w v
    else if o == 0x2C then h.writeBlkFuse w v
    else h.writeRcv w o v
  | 0x4 => if o == 0x08 then h.writeHngCtrl w v else h
  | 0x5 => if o < 0x200 && o % 0x40 == 0x10 then h.writeExpOpen w v else h
  | 0x6 => if o < 0x200 then h.writeOps w o v else h
  | 0x7 => h.writeIntRst w o v
  | 0x8 => h.writeOut (o / 0x100) (o % 0x100) v port
  | 0xA => if o % 0x100 == 0x24 then h.writeInFlt (o / 0x100) v port else h
  | 0xC => h.writeTmb a v
  | 0xD => h.writeTmb a v
  | 0xE => if o == 0x18 then h.writeLsyCtrl w v else if o == 0x14 then h.writeLsyStat v else h
  | 0xF => h.writeBnk w o v
  | p => h.writeSafety w p o v

/-- A ward writes a word of the bank window, of a DP or through an alias window (R280, R452, R459). -/
def Hub.writeMem (h : Hub) (w a v : Nat) : Hub :=
  if 0x300000 ≤ a then h.aliasWrite (plainAddr a) v false
  else if 0x200000 ≤ a then h.aliasWrite (plainAddr a) v true
  else if 0x1C0000 ≤ a then h.writeDp w a v
  else h.setMemWord a v

/-- A ward writes the word at a byte address; `port` names the port and the header of a frame that waits for the field die (R366). -/
def Hub.writeWord (h : Hub) (w a v : Nat) (port : Option (Nat × Nat) := none) : Hub :=
  if a < 0x100000 then h.writeReg w a v port else h.writeMem w a v

end Sys2Proof.Machine
end

