-- ==== Sys2Proof/Machine/Ports.lean ====
section
/-!
DEFINITION. The host ports (chapter 11): the header of a frame, the checks of R363 in their order, and what write, read and
doorbell frames do.

What the spec leaves open here: DEDUCED, log entries 17, 18, 37, 38, 70.
-/

namespace Sys2Proof.Machine

/-! ### The reach of a ward (R353, R368) -/

/-- Registers that only W0 writes (R353 and the chapters of the blocks): a write from another ward is denied. -/
def keeperWrites : List Nat := [0x2008, 0x4008, 0x301C, 0x3028, 0x302C, 0xE018, 0x11014, 0x11024, 0x12030, 0x12034, 0x15004, 0x16004, 0x16008]

/-- The ward whose instance a register is, where its block gives each ward its own (R368). -/
def wardOfReg (a : Nat) : Option Nat :=
  let o := a % 0x1000
  match a / 0x1000 with
  | 0x5 => if o < 0x200 then some (o / 0x40) else none
  | 0x6 => if o < 0x200 then some (o / 0x40) else none
  | 0x7 => if o < 0x100 then some (o / 0x20) else if 0x900 ≤ o then some ((o - 0x900) / 0x10) else none
  | 0x12 => if 0x100 ≤ o then some ((o - 0x100) / 0x20) else none
  | 0x15 => if 0x100 ≤ o then some ((o - 0x100) / 0x40) else none
  | _ => none

/-- Ward `w` may read the register at `a` (R368 and the chapters of the blocks). -/
def Hub.mayReadReg (h : Hub) (w a : Nat) : Bool :=
  let o := a % 0x1000
  match wardOfReg a with
  | some v => w == v || w == 0 || (a / 0x1000 == 0x15 && o < 0x100)
  | none =>
    match a / 0x1000 with
    | 0x5 => w == 0 || bitOf (h.rd HPT_CFG_wards ((o - 0x800) / 0x40)) w
    | 0x7 => w == 0 || !(a == 0x7804 || a == 0x7808 || a == 0x7810)
    | 0x8 => w == 0 || h.chOwner (o / 0x100) == some w
    | 0xA => h.chOwner (o / 0x100) == some w || (w == 0 && !(o % 0x100 == 0x30 || o % 0x100 == 0x34))
    | 0xC => w == 0 || h.tmbOwner (o / 0x200) == some w
    | 0xE => if o == 0x80 then h.rd LSY_USER_rx_ward == w else true
    | 0x13 => w == 0 || decide (0x100 ≤ o) || o / 0x20 == w
    | 0x14 => if 0x200 ≤ o then w == 0 else if (0x40 ≤ o && o < 0x74) || 0x80 ≤ o then h.mayRead w else true
    | _ => true

/-- Ward `w` may write the register at `a`; a write within reach may still have no effect, as its block says. -/
def Hub.mayWriteReg (h : Hub) (w a : Nat) : Bool :=
  let o := a % 0x1000
  if keeperWrites.contains a then w == 0
  else
    match wardOfReg a with
    | some v => w == v
    | none =>
      match a / 0x1000 with
      | 0x3 => w == 0 || !(0x80 ≤ o)
      | 0x5 => w == 0 || bitOf (h.rd HPT_CFG_wards ((o - 0x800) / 0x40)) w
      | 0x7 => w == 0 || !(a == 0x7804 || a == 0x7808 || a == 0x7810)
      | 0x8 => h.chOwner (o / 0x100) == some w
      | 0xA => h.chOwner (o / 0x100) == some w
      | 0xC => h.tmbOwner (o / 0x200) == some w && (o % 0x200 == 0x14 || o % 0x200 == 0x20)
      | 0xD => 0x800 ≤ o && o < 0x900 && o % 0x10 == 4 && h.rd TMB_CMP_CFG_ward ((o - 0x800) / 0x10) == w
      | 0xF =>
        if 0x300 ≤ o then true
        else if o % 0x10 == 0 || o % 0x10 == 4 then h.bankAuth (o / 0x10) == some w
        else if o % 0x10 == 8 then h.ownsBank w (o / 0x10)
        else true
      | 0x10 => if 0x100 ≤ o && o % 0x10 == 0 then (o - 0x100) / 0x10 == w else true
      | 0x13 => if o < 0x120 && o % 0x20 == 0x0C then h.wdServer (o / 0x20) == w else true
      | 0x14 => if 0x200 ≤ o then w == 0 else if o == 0x40 || o == 0x80 then h.mayRead w else o == 0x78
      | _ => true

/-- The word at `a` lies within the reach of ward `w` (check 8 of R363). -/
def Hub.reach (h : Hub) (w : Nat) (rd : Bool) (a : Nat) : Bool :=
  if a < 0x100000 then (if rd then h.mayReadReg w a else h.mayWriteReg w a)
  else
    let x := plainAddr a
    if 0x1C0000 ≤ x then h.dpMine w ((x - 0x1C0000) / 0x2000) (x % 0x2000 / 8) || (rd && w == 0)
    else h.ownsBank w ((x - 0x100000) / 0x4000)

/-! ### Expert pages (R371) -/

/-- The expert page a register lies on; INT_MOD is read by its ward with the page closed. -/
def expertPage (a : Nat) (rd : Bool) : Option Nat :=
  if a == 0x12030 || a == 0x12034 then some 0
  else if a == 0x11024 then some 1
  else if a == 0x16008 then some 2
  else if 0x10100 ≤ a && a < 0x10180 && a % 0x10 == 0 then some 3
  else if 0x8000 ≤ a && a < 0x9000 && a % 0x100 == 0x18 then some 4
  else if a == 0x14078 then some 5
  else if 0x6000 ≤ a && a < 0x6200 && a % 0x40 == 0x34 then some 6
  else if !rd && 0x7000 ≤ a && a < 0x7100 && a % 0x20 == 0x10 then some 6
  else none

/-- The register's page is open to ward `w` (check 9 of R363). -/
def Hub.pageOpen (h : Hub) (w : Nat) (rd : Bool) (a : Nat) : Bool :=
  match expertPage a rd with
  | some p => bitOf (h.rd WRD_EXP_OPEN_open w) p
  | none => true

/-! ### The later checks -/

/-- A write needs the field die (R138). -/
def Hub.needsField (h : Hub) (a : Nat) : Bool :=
  let c := a / 0x100 % 16
  (0x8000 ≤ a && a < 0x9000 && h.isOut c && h.lead c == c && [0x18, 0x20, 0x28].contains (a % 0x100)) ||
    (0xA000 ≤ a && a < 0xB000 && h.isIn c && a % 0x100 == 0x24)

/-- A write that the state of the ward, of the device or of the link forbids (check 10 of R363; R138, R203, R304, R434). -/
def Hub.forbidden (h : Hub) (w a v : Nat) : Bool :=
  h.ward w == .held ||
    (h.needsField a && (!h.hinge.upL || h.fieldReset != 0)) ||
    (h.state == .safe &&
      ((0x8000 ≤ a && a < 0x9000 && a % 0x100 == 0x20 && h.needsField a && bitOf v 0 != h.safeOn (a / 0x100 % 16)) ||
        (0xC000 ≤ a && a < 0xD000 && a % 0x200 == 0x20 &&
          (bitOf v 0 || (bitOf v 2 && !h.tmbRuns (a % 0x1000 / 0x200)))))) ||
    (a == 0x7808 && v == 0x52535446 && !h.fieldResetAllowed)

/-- The status with which a block's own rule refuses a write, 0 where none does (check 11 of R363; R34, R182, R185, R231, R372, R430,
R516, R584, R599, R633). -/
def Hub.blockStatus (h : Hub) (w a v : Nat) : Nat :=
  if 0x5000 ≤ a && a < 0x5200 && a % 0x40 == 0x10 then h.expStatus w v
  else if a == 0x16004 then h.bstStatus v
  else if a == 0x302C && v == 0x46555345 && !h.fuseOk then 7
  else if 0x3080 ≤ a && a < 0x3200 && h.state != .recovery then 7
  else if a == 0x11014 && v == 0x53464558 && !h.exitReady then 7
  else if a == 0x780C then h.rstWardStatus w v
  else if 0x8000 ≤ a && a < 0x9000 && a % 0x100 == 0x18 && h.flag OUT_CFG_safety (h.lead (a / 0x100 % 16)) then 2
  else if a == 0x14240 && v / 2 ^ 16 == 0x4F54 && !h.keyOk v then 7
  else 0

/-- The power domain a word lies in, where it is one that can be off (R74). -/
def domainOf (a : Nat) : Option Nat :=
  if a < 0x100000 then
    (match a / 0x1000 with | 0x6 => some 2 | 0xC => some 3 | 0xD => some 3 | 0xE => some 3 | _ => none)
  else if 0x1C0000 ≤ plainAddr a then some 5
  else some (bankDomain ((plainAddr a - 0x100000) / 0x4000))

/-- The word's logic LBIST group is under test (R586). -/
def Hub.groupTested (h : Hub) (a : Nat) : Bool :=
  let p := a / 0x1000
  match h.testGroup with
  | 0 => p == 0x6
  | 1 => 0xC000 ≤ a && a < 0xC800
  | 2 => (0xC800 ≤ a && a < 0xD000) || p == 0xE
  | 3 => p == 0xF || decide (0x100000 ≤ a)
  | 4 => p == 0x10 || p == 0x14
  | 5 => p == 0x12
  | _ => false

/-- The word is in a domain that is off or clearing, or its block is busy (check 12 of R363; R76, R78, R182, R455, R458, R586, R627). -/
def Hub.blocked (h : Hub) (rd : Bool) (a : Nat) : Bool :=
  (match domainOf a with | some d => !bitOf h.sup.on d | none => false) ||
    (if a < 0x100000 then
      !rd &&
        ((0xF000 ≤ a && a < 0xF300 && a % 0x10 == 0 && h.flag BNK_STAT_pending ((a - 0xF000) / 0x10)) ||
          (a == 0x14080 && h.flag REC_JRD_STAT_busy))
    else if 0x1C0000 ≤ plainAddr a then bitOf h.sup.uncleared 1
    else !h.bankFree ((plainAddr a - 0x100000) / 0x4000)) ||
    h.groupTested a

/-- A write to a recovery register while a command runs (R182); a reboot is taken and waits (R196; log entry 70). -/
def Hub.rcvBlocked (h : Hub) (a v : Nat) : Bool :=
  h.flag BLK_RCV_STAT_busy &&
    (a == 0x3080 || (a == 0x3084 && !(v / 2 ^ 16 == 0x5243 && v % 16 == 4)) || (decide (0x3100 ≤ a) && decide (a < 0x3200)))

/-! ### The judgement (R363) -/

/-- Which frames the device state admits for a ward, and whether checks 5 and 6 are made (R365, R181, R429). -/
def Hub.admits (h : Hub) (w : Nat) (rd : Bool) (words : List Nat) : Bool × Bool :=
  let dev := rd && words.all (fun a => decide (a < 0x1000))
  if h.dev.softReset.isSome then (false, false)
  else
    match h.state with
    | .boot => (dev, false)
    | .arming => (dev, false)
    | .recovery => (dev || (w == 0 && words.all (fun a => decide (a < 0x1000) || a / 0x1000 == 3)), false)
    | .halt => (dev && h.defined w, true)
    | .test => (rd && h.defined w && words.all (fun a => a / 0x1000 == 0 || a / 0x1000 == 0x12 || a / 0x1000 == 0x16), true)
    | .off => (false, false)
    | _ => (true, true)

/-- A test of every word of a frame. -/
def anyWord (l : List (Nat × Nat)) (p : Nat → Nat → Bool) : Bool := l.any (fun x => p x.1 x.2)

/-- Checks 7 to 12 of R363 on the words of a record or a frame, each with the value written: the first that fails and its code. -/
def Hub.judgeWords (h : Hub) (w : Nat) (rd : Bool) (l : List (Nat × Nat)) : Option (Nat × Nat) :=
  let refused := l.map (fun x => if rd then 0 else h.blockStatus w x.1 x.2)
  if anyWord l (fun a _ => !h.mapped a) then some (7, 6)
  else if anyWord l (fun a _ => !h.reach w rd a) then some (8, 2)
  else if anyWord l (fun a _ => !h.pageOpen w rd a) then some (9, 4)
  else if !rd && anyWord l (fun a v => h.forbidden w a v) then some (10, 7)
  else
    match refused.find? (· != 0) with
    | some c => some (11, c)
    | none => if anyWord l (fun a v => h.blocked rd a || (!rd && h.rcvBlocked a v)) then some (12, 3) else none

/-- The shape of a frame is not allowed (check 3 of R363). -/
def badShape (x : Nat) : Bool :=
  ((hdrKind x == 0 || hdrKind x == 3) && hdrLen x != 0) || (hdrKind x == 3 && (hdrRead x || hdrAddr x != 0))

/-- Checks 3 to 12 of R363 for a frame on port `p`: the first that fails and its code. A doorbell is judged by R384 at check 11. -/
def Hub.judge (h : Hub) (p x : Nat) (data : List Nat) : Option (Nat × Nat) :=
  let w := hdrWard x
  let rd := hdrRead x
  let bell := hdrKind x == 3
  let words := if bell then [] else hdrWords x
  let dev := rd && !bell && words.all (fun a => decide (a < 0x1000))
  let adm := h.admits w rd (if bell then [0x6000] else words)
  if badShape x then some (3, 6)
  else if !adm.1 then some (4, 7)
  else if adm.2 && !(dev && h.defined w) && (h.ward w == .absent || !bitOf (h.rd HPT_CFG_wards p) w) then some (5, 2)
  else if adm.2 && !dev && h.ward w == .reset then some (6, 5)
  else if bell then
    if h.ward w == .held then some (10, 7)
    else if h.bellBad w (data.headD 0) then some (11, 6)
    else none
  else h.judgeWords w rd (words.zip (if rd then words else data))

/-- What a failed check brings beside its code: the counters, HPT_BIND, OPS_RING, a refused exit and the wake of a domain that is off
(R76, R370, R380, R384, R516). -/
def Hub.refuse (h : Hub) (p x : Nat) (data : List Nat) (f : Nat × Nat) : Hub :=
  let w := hdrWard x
  let h := if f.1 == 5 then (h.count HPT_ERR_bind_refusals 1 p).event 38 1 detailOpen
    else if f.1 == 8 then h.count WRD_REFUSED_denied 1 w
    else if 4 ≤ f.2 then h.count WRD_REFUSED_other 1 w
    else h
  if f.1 == 11 && hdrKind x == 3 then h.opsRing w
  else if f.1 == 11 && !hdrRead x && anyWord ((hdrWords x).zip data) (fun a v => a == 0x11014 && v == 0x53464558 && !h.exitReady) then
    h.count DBT_SAFE_CAUSE_refused
  else if f.1 == 12 then
    forAll ((hdrWords x).filterMap domainOf).dedup (fun h d => if bitOf h.sup.on d || h.blankOff d then h else h.wantDomain d) h
  else h

/-- A frame carried out with status 0x00 is counted. -/
def Hub.countFrame (h : Hub) (p w : Nat) : Hub := (h.countMod HPT_FRAMES_count 1 p).countMod WRD_FRAMES_count 1 w

/-- A CRC or length error on a port (R359, R363). -/
def Hub.crcError (h : Hub) (p : Nat) : Hub := (h.count HPT_ERR_crc_errors 1 p).event 39 1 detailOpen

/-- No port answers: no supply, RSTn low, *Halt* for a clock cause, or the orderly power-down (R59, R365, R376). -/
def Hub.portsSilent (h : Hub) : Bool := !h.logicRuns || h.sup.pd.isSome || h.dev.halt == some .clock

/-! ### The frames -/

/-- A frame on port `p`: SDO is driven, and the frame taken, only where the logic die had left reset before CSn fell (R59) and the port
answers in this state (R365); otherwise SDO stays high-impedance until CSn is high again. -/
def Hub.framed (h : Hub) (p : Nat) (early : Bool) (act : Hub → Hub) : Hub :=
  let on := !early && !h.portsSilent
  let h := h.modPort p (fun q => { q with driven := on })
  if on then act h else h

/-- A write or doorbell frame judged at CSn rising (R359 to R364): `act` is what it does once every check has passed. -/
def Hub.writeEnd (h : Hub) (p x : Nat) (data : List Nat) (bad : Bool) (act : Hub → Hub) : Hub :=
  if (h.port p).outcome.isSome then
    let h := h.count HPT_DISC_discarded 1 p
    if bad then h.crcError p else h
  else if bad then (h.crcError p).portFail p x 1
  else
    match h.judge p x data with
    | some f => (h.refuse p x data f).portFail p x f.2
    | none => (act h).countFrame p (hdrWard x)

/-- The words of a write frame take effect in address order (R360). -/
def Hub.writeWords (h : Hub) (p x : Nat) (data : List Nat) : Hub :=
  ((hdrWords x).zip data).foldl (fun h y => h.writeWord (hdrWard x) y.1 y.2 (some (p, x))) h

/-- WRITE_FRAME (R363): a frame whose header asks for a write, single or burst; `sck` counts its SCK cycles. -/
def execWriteFrame (p : Fin 3) (header : Word) (data : List Word) (crc : Byte) (k : Clocking) (s : State) :
    Host.Outcome State Fault Refusal :=
  s.on (fun h =>
    let x := header.toNat
    let d := data.map (·.toNat)
    let bad := k.sck.toNat != 40 + 32 * hdrCount x || d.length != hdrCount x || crc.toNat != frameCrc x d
    if hdrRead x || hdrKind x == 3 then h else h.framed p k.early (fun h => h.writeEnd p x d bad (fun h => h.writeWords p x d)))

/-- DOORBELL (R384): a frame whose header asks for a doorbell, with its data word. -/
def execDoorbell (p : Fin 3) (header v : Word) (crc : Byte) (k : Clocking) (s : State) : Host.Outcome State Fault Refusal :=
  s.on (fun h =>
    let x := header.toNat
    let bad := k.sck.toNat != 72 || crc.toNat != frameCrc x [v.toNat]
    if hdrRead x || hdrKind x != 3 then h
    else h.framed p k.early (fun h => h.writeEnd p x [v.toNat] bad (fun h => h.ringBell (hdrWard x) v.toNat)))

/-- The answer on SDO: the status, as many data words as were clocked out, and their CRC-8 where the frame was not ended before it
(R357, R359). A read ended before its CRC is counted. -/
def Hub.answer (h : Hub) (p x sck status : Nat) (data : List Nat) : Hub :=
  let full := decide (64 + 32 * hdrCount x ≤ sck)
  let h := h.modPort p (fun q =>
    { q with status := status, data := data, crc := if full then crc8Host (status :: data.flatMap (beBytes 4)) else 0 })
  if full then h else h.count HPT_DISC_reads_ended 1 p

/-- The words of a read frame read one after the other, each with its side effect (R360). -/
def Hub.readWords (h : Hub) (w : Nat) (words : List Nat) : List Nat × Hub :=
  words.foldl (fun q a => let r := q.2.readWord w a; (q.1 ++ [r.1], r.2)) ([], h)

/-- A read frame on port `p` (R357, R359, R363, R364). -/
def Hub.readFrame (h : Hub) (p x crc sck : Nat) : Hub :=
  let k := min (hdrCount x) ((sck - 56) / 32)
  if sck < 40 then h.count HPT_DISC_reads_ended 1 p
  else
    match (h.port p).outcome with
    | some c =>
      (if sck < 56 then h else h.modPort p (fun q => { q with outcome := none })).answer p x sck c (List.replicate k 0)
    | none =>
      if crc != frameCrc x [] then (h.crcError p).answer p x sck 1 (List.replicate k 0)
      else
        match h.judge p x [] with
        | some f => (h.refuse p x [] f).answer p x sck f.2 (List.replicate k 0)
        | none =>
          let r := h.readWords (hdrWard x) ((hdrWords x).take k)
          (r.2.countFrame p (hdrWard x)).answer p x sck 0 r.1

/-- READ_FRAME (R363): a frame whose header asks for a read. -/
def execReadFrame (p : Fin 3) (header : Word) (crc : Byte) (k : Clocking) (s : State) :
    Host.Outcome State Fault Refusal :=
  s.on (fun h =>
    if hdrRead header.toNat then h.framed p k.early (fun h => h.readFrame p header.toNat crc.toNat k.sck.toNat) else h)

end Sys2Proof.Machine
end

