-- ==== Sys2Proof/Machine/OpsExec.lean ====
section
/-!
DEFINITION. What the operations do when they execute (R391 to R400), with their completion codes and results; and the discovery of an
uncorrectable error (R461).

What the spec leaves open here: DEDUCED, log entries 30, 42, 43, 44, 47, 83, 93, 98, 100.
-/

namespace Sys2Proof.Machine

/-! ### Shared parts -/

/-- The bank of a bank pointer. -/
def ptrBank (p : Nat) : Nat := bitsOf p 24 6

/-- The byte address of the first word of a bank pointer. -/
def ptrAddr (p : Nat) : Nat := bankAddr (ptrBank p) (p % 4096)

/-- The operation of a slot executes: it has been dispatched and, where it is costed, admitted (R393, R394). -/
def Hub.opRun (h : Hub) (slot kind : Nat) (which : Op → Bool) (f : Hub → Op → Hub) : Hub :=
  match h.opAt slot with
  | none => h
  | some o => if h.engRuns && o.phase == .admitted && o.kind == kind && which o then f h o else h

/-- The banks of an operation are the ward's own, or it retires DENIED; where one makes it wait, it stays in flight and the wake of a
domain that is off is requested (R394, R395, R414, R76). -/
def Hub.withBanks (h : Hub) (o : Op) (banks : List Nat) (f : Hub → Hub) : Hub :=
  if banks.any (fun b => !h.ownsBank o.ward b) then h.retire o.slot 2
  else if banks.any (fun b => !h.bankFree b) then
    forAll ((banks.map bankDomain).filter (fun d => !h.blankOff d)).dedup Hub.wantDomain h
  else f h

/-- An uncorrectable error in one of the words an operation reads: found, and the operation retires with code 0x09 (R391, R461). -/
def Hub.withWords (h : Hub) (o : Op) (addrs : List Nat) (done : Nat) (f : Hub → Hub) : Hub :=
  match addrs.find? h.isBad with
  | some a => (h.ueFound (addrBank a).1 (addrBank a).2).retire o.slot 9 done
  | none => f h

/-- `n` word addresses from one up. -/
def wordAddrs (a n : Nat) : List Nat := (List.range n).map (fun i => a + 4 * i)

/-- Words written from an address up. -/
def Hub.putWords (h : Hub) (a : Nat) (l : List Nat) : Hub :=
  (l.foldl (fun (p : Hub × Nat) v => (p.1.setMemWord p.2 v, p.2 + 4)) (h, a)).1

/-- The scheduler has admitted the operation of a slot. -/
def Hub.opAdmitted (h : Hub) (slot : Nat) : Bool := h.sch.admitted.any (fun a => a.kind == .operation && a.ref == slot)

/-- What an admitted operation itself turns on or starts needs no second admission (R393): the candidates that `f` submits take effect
at once, where they wait for no domain. -/
def Hub.underAdmission (h : Hub) (slot : Nat) (f : Hub → Hub) : Hub :=
  let old := h.sch.queue
  let h1 := f h
  if !h.opAdmitted slot then h1
  else
    (h1.sch.queue.filter (fun x => (x.kind == .turnOn || x.kind == .tmbStart) && (h1.candDomains x).isEmpty &&
      !old.any (fun y => y.kind == x.kind && y.ref == x.ref))).foldl Hub.admitCand h1

/-! ### Records (R394) -/

/-- The check a record fails and the status a frame would have received; a record whose address word names no word is unmapped. -/
def Hub.judgeRecord (h : Hub) (w : Nat) (rd : Bool) (x : Nat × Nat) : Option (Nat × Nat) :=
  if !(h.admits w rd [x.1]).1 then some (4, 7) else h.judgeWords w rd [x]

/-- The check that stops a record as it is written: not check 12, which makes no record fail (R394). -/
def Hub.recordFault (h : Hub) (w : Nat) (rd : Bool) (x : Nat × Nat) : Option (Nat × Nat) :=
  (h.judgeRecord w rd x).filter (fun f => f.1 != 12)

/-- A record only fails for want of the field die (R138, R409). -/
def Hub.recordLost (h : Hub) (x : Nat × Nat) : Bool := !h.hinge.upL && h.needsField x.1

/-- An operation that stops at record `i`: LINK_LOST where the link is lost, else REFUSED with the index and the status (R392). -/
def Hub.recordFails (h : Hub) (o : Op) (i : Nat) (x : Nat × Nat) (f : Nat × Nat) : Hub :=
  if f.1 == 10 && h.recordLost x then h.retire o.slot 5 i else h.retire o.slot 3 i (i * 2 ^ 16 + f.2)

/-- The wakes that records wait for. -/
def Hub.recordWakes (h : Hub) (l : List (Nat × Nat)) : Hub :=
  forAll ((l.filterMap (fun x => domainOf x.1)).filter (fun d => !h.blankOff d)).dedup Hub.wantDomain h

/-- A record's domain or block makes the operation wait (check 12 does not apply to it, R394). -/
def Hub.recordsWait (h : Hub) (w : Nat) (rd : Bool) (l : List (Nat × Nat)) : Bool :=
  l.any (fun x => match h.judgeRecord w rd x with | some f => f.1 == 12 | none => false)

/-- Records written in order from index `i` on, up to the first that fails or cannot be read (R394, R461). -/
def Hub.runRecords (h : Hub) (o : Op) (a : Nat) : Nat → List (Nat × Nat) → Hub
  | i, [] => h.retire o.slot 0 i
  | i, x :: rest =>
    match (wordAddrs (a + 8 * i) 2).find? h.isBad with
    | some b => (h.ueFound (addrBank b).1 (addrBank b).2).retire o.slot 9 i
    | none =>
      match h.recordFault o.ward false x with
      | some f => h.recordFails o i x f
      | none => (h.underAdmission o.slot (fun h => h.writeWord o.ward x.1 x.2)).runRecords o a (i + 1) rest

/-- REGW (R394). -/
def Hub.regw (h : Hub) (o : Op) : Hub :=
  h.withBanks o [ptrBank o.w1] (fun h =>
    let l := h.records o.w1 (o.field + 1)
    if h.recordsWait o.ward false l then h.recordWakes l else h.runRecords o (ptrAddr o.w1) 0 l)

/-- REGW (R394). -/
def execRegw (slot : Fin 16384) (s : State) : Host.Outcome State Fault Refusal :=
  s.on (fun h => h.opRun slot 1 (fun _ => true) Hub.regw)

/-- Addresses read in order from index `i` on, each into its result word (R387, R394). -/
def Hub.runReads (h : Hub) (o : Op) : Nat → List Nat → Hub
  | i, [] => h.retire o.slot 0 i
  | i, x :: rest =>
    let p := ptrAddr o.w1 + 4 * i
    if h.isBad p then (h.ueFound (addrBank p).1 (addrBank p).2).retire o.slot 9 i
    else
      match h.recordFault o.ward true (x, 0) with
      | some f => h.recordFails o i (x, 0) f
      | none =>
        let r := h.readWord o.ward x
        (r.2.setMemWord (ptrAddr o.w2 + 4 * i) r.1).runReads o (i + 1) rest

/-- REGR (R387, R394). -/
def Hub.regr (h : Hub) (o : Op) : Hub :=
  h.withBanks o [ptrBank o.w1, ptrBank o.w2] (fun h =>
    let l := (wordAddrs (ptrAddr o.w1) (o.field + 1)).map h.memWord
    let x := l.map (fun a => (a, 0))
    if h.recordsWait o.ward true x then h.recordWakes x else h.runReads o 0 l)

/-- REGR (R387). -/
def execRegr (slot : Fin 16384) (s : State) : Host.Outcome State Fault Refusal :=
  s.on (fun h => h.opRun slot 2 (fun _ => true) Hub.regr)

/-! ### Banks (R395, R460) -/

/-- NOP (R387). -/
def execNop (slot : Fin 16384) (s : State) : Host.Outcome State Fault Refusal :=
  s.on (fun h => h.opRun slot 0 (fun _ => true) (fun h o => h.retire o.slot 0))

/-- BANK_COPY (R395): through a temporary buffer. -/
def Hub.bankCopy (h : Hub) (o : Op) : Hub :=
  let n := bitsOf o.w1 12 12 + 1
  h.withBanks o [ptrBank o.w1, ptrBank o.w2] (fun h =>
    let src := wordAddrs (ptrAddr o.w1) n
    h.withWords o src 0 (fun h => (h.putWords (ptrAddr o.w2) (src.map h.memWord)).retire o.slot 0 n))

/-- BANK_COPY (R395). -/
def execBankCopy (slot : Fin 16384) (s : State) : Host.Outcome State Fault Refusal :=
  s.on (fun h => h.opRun slot 3 (fun _ => true) Hub.bankCopy)

/-- BANK_FILL (R387). -/
def Hub.bankFill (h : Hub) (o : Op) : Hub :=
  let n := bitsOf o.w1 12 12 + 1
  h.withBanks o [ptrBank o.w1] (fun h => (h.putWords (ptrAddr o.w1) (List.replicate n o.w2)).retire o.slot 0 n)

/-- BANK_FILL (R387). -/
def execBankFill (slot : Fin 16384) (s : State) : Host.Outcome State Fault Refusal :=
  s.on (fun h => h.opRun slot 4 (fun _ => true) Hub.bankFill)

/-- ATOM (R395, R460): the word's old value is the result. -/
def Hub.atom (h : Hub) (o : Op) (swap : Bool) : Hub :=
  let a := ptrAddr o.w1
  h.withBanks o [ptrBank o.w1] (fun h =>
    h.withWords o [a] 0 (fun h =>
      let old := h.memWord a
      (h.setMemWord a (if swap then o.w2 else (old + o.w2) % 2 ^ 32)).retire o.slot 0 old))

/-- ATOM_ADD (R460). -/
def execAtomAdd (slot : Fin 16384) (s : State) : Host.Outcome State Fault Refusal :=
  s.on (fun h => h.opRun slot 5 (fun o => o.field == 0) (fun h o => h.atom o false))

/-- ATOM_SWAP (R460). -/
def execAtomSwap (slot : Fin 16384) (s : State) : Host.Outcome State Fault Refusal :=
  s.on (fun h => h.opRun slot 5 (fun o => o.field == 1) (fun h o => h.atom o true))

/-! ### Tumblers (R396) -/

/-- What every TMB operation needs: the ward's own tumbler, PD_SEQ and PD_MEM1 on, and the link for a tumbler that drives the field
(R76, R138, R396). -/
def Hub.withTmb (h : Hub) (o : Op) (f : Hub → Nat → Hub) : Hub :=
  let t := bitsOf o.field 3 3
  if h.tmbOwner t != some o.ward then h.retire o.slot 2
  else if !h.hinge.upL && h.drivesField t then h.retire o.slot 5
  else
    let off := [3, 5].filter (fun d => !bitOf h.sup.on d)
    if off.isEmpty then f h t else forAll (off.filter (fun d => !h.blankOff d)) Hub.wantDomain h

/-- A TMB start (R292, R396, R409). -/
def Hub.tmbOpStart (h : Hub) (o : Op) : Hub :=
  h.withTmb o (fun h t =>
    if h.state == .safe then h.retire o.slot 8
    else if h.tmbState t == 1 || h.tmbRuns t then h.retire o.slot 3
    else h.underAdmission o.slot (fun h =>
      ((h.modOp o.slot (fun x => { x with phase := .waiting })).tmbStartReq t o.w1 (some o.slot)).1))

/-- TMB_OP_START (R396). -/
def execTmbOpStart (slot : Fin 16384) (s : State) : Host.Outcome State Fault Refusal :=
  s.on (fun h => h.opRun slot 6 (fun o => bitsOf o.field 0 2 == 0) Hub.tmbOpStart)

/-- A TMB stop (R293, R396): it retires where the tumbler stops; a tumbler that does not run has stopped. -/
def Hub.tmbOpStop (h : Hub) (o : Op) : Hub :=
  h.withTmb o (fun h t =>
    if h.tmbState t == 1 || h.tmbRuns t then
      ((h.modOp o.slot (fun x => { x with phase := .waiting })).tmbStopReq t (bitOf o.field 2)).1
    else h.retire o.slot 0 (h.rd TMB_STAT_pc t))

/-- TMB_OP_STOP (R396). -/
def execTmbOpStop (slot : Fin 16384) (s : State) : Host.Outcome State Fault Refusal :=
  s.on (fun h => h.opRun slot 6 (fun o => bitsOf o.field 0 2 == 1) Hub.tmbOpStop)

/-- A TMB jump (R293, R396): a running tumbler takes it at a vector boundary, a pending one takes the entry, a stopped one is
started. -/
def Hub.tmbOpJump (h : Hub) (o : Op) : Hub :=
  h.withTmb o (fun h t =>
    if h.tmbState t == 1 then (h.tmbJumpReq t o.w1).1.retire o.slot 0 (o.w1 % 1024)
    else if h.state == .safe && !h.tmbRuns t then h.retire o.slot 8
    else ((h.modOp o.slot (fun x => { x with phase := .waiting })).tmbJumpReq t o.w1 (some o.slot)).1)

/-- TMB_OP_JUMP (R396). -/
def execTmbOpJump (slot : Fin 16384) (s : State) : Host.Outcome State Fault Refusal :=
  s.on (fun h => h.opRun slot 6 (fun o => bitsOf o.field 0 2 == 2) Hub.tmbOpJump)

/-! ### Measurements (R225, R255, R397) -/

/-- The ward may reach a channel's measurements: its own, and every one for W0 (R204, R246). -/
def Hub.mayMeasure (h : Hub) (w c : Nat) : Bool := decide (c < h.chCount) && (w == 0 || h.chOwner c == some w)

/-- How many words a MEAS writes: two for each channel, one for each other quantity (R397). -/
def measWords (w1 : Nat) : List Bool :=
  (bitList 16 w1).flatMap (fun _ => [true, false]) ++ List.replicate (popCount 24 w1 - popCount 16 w1) true

/-- MEAS (R397): the results of one conversion round, in the order of the selection. The second word of a channel has bits [15:0]
only. -/
def Hub.meas (h : Hub) (o : Op) (conv : List Nat) : Hub :=
  let shape := measWords o.w1
  if (bitList 16 o.w1).any (fun c => !h.mayMeasure o.ward c) then h.retire o.slot 2
  else if !h.hinge.upL then h.retire o.slot 5
  else if conv.length != shape.length then h
  else
    let words := List.zipWith (fun full v => if full then v else v % 2 ^ 16) shape conv
    h.withBanks o [ptrBank o.w2] (fun h => (h.putWords (ptrAddr o.w2) words).retire o.slot 0 words.length)

/-- MEAS (R397): `conv` holds the conversion round's values. -/
def execMeas (slot : Fin 16384) (conv : List Word) (s : State) : Host.Outcome State Fault Refusal :=
  s.on (fun h => h.opRun slot 7 (fun _ => true) (fun h o => h.meas o (conv.map (·.toNat))))

/-- The conclusion of a DIAG on an output, from its pin voltage in 10 mV and its currents (R225). On a channel that a protection has switched
off, on an LED channel where no lit check may start, and with VF above 45 V (R708), it is not possible now (log entries 83, 100). -/
def Hub.diagConclusion (h : Hub) (c : Nat) (v : Int) (normal fine : Nat) : Nat :=
  let o := h.out c
  if o.latched then
    if !h.levelDue c || !o.sw then 6
    else if (h.sup.vf : Int) - 3000 ≤ 10 * v then (if h.belowOpen c normal fine then 1 else 0)
    else if o.limiting then 4 else 5
  else if !h.restingOff c || h.vfHigh then 6
  else if h.fMode c == 5 then (if h.litBarred c then 6 else if h.belowLed c fine then 1 else 0)
  else if shortLevel ≤ v then (if 640 ≤ 25 * normal then 3 else 2)
  else if olLevel ≤ v then 1 else 0

/-- The check or measurement that a DIAG runs takes its part in the channel's diagnostics (R221, R223, R225). -/
def Hub.diagCheck (h : Hub) (c : Nat) (v : Int) (normal fine : Nat) : Hub :=
  if (h.out c).latched then h.readback c v normal fine
  else if h.fMode c == 5 then h.litConclude c fine
  else h.offConclude c v

/-- The bits of IN_FLT of channel `c`. -/
def Hub.inFltBits (h : Hub) (c : Nat) : Nat :=
  (List.range 6).foldl (fun m b => match inFltFlds[b]? with | some f => putBit m b (h.flag f c) | none => m) 0

/-- DIAG (R225, R255): the pin voltage, the currents and, for an output, the conclusion; for an input `normal` is its current in
1 µA. -/
def Hub.diag (h : Hub) (o : Op) (v : BitVec 16) (normal fine : Nat) : Hub :=
  let c := o.field % 16
  if !(decide (c < h.chCount) && h.chOwner c == some o.ward) then h.retire o.slot 2
  else if !h.hinge.upL then h.retire o.slot 5
  else if 8 ≤ c && !bitOf h.sup.on 10 then (if h.blankOff 10 then h else h.wantDomain 10)
  else
    let r0 := v.toNat + normal * 2 ^ 16
    if h.isIn c then h.retire o.slot 0 r0 (b2n (h.flag IN_STAT_state c) * 2 ^ 20 + h.inFltBits c * 2 ^ 24)
    else
      let k := if h.isOut c then h.diagConclusion c v.toInt normal fine else 6
      (if k == 6 then h else h.diagCheck c v.toInt normal fine).retire o.slot 0 r0 (fine + k * 2 ^ 16)

/-- DIAG (R225). -/
def execDiag (slot : Fin 16384) (v : BitVec 16) (normal fine : BitVec 12) (s : State) : Host.Outcome State Fault Refusal :=
  s.on (fun h => h.opRun slot 8 (fun _ => true) (fun h o => h.diag o v normal.toNat fine.toNat))

/-! ### The NVM (R187, R398) -/

/-- The ward may reach `n` bytes of the NVM from an offset: its own extent, and for W0 both slots to read and the inactive slot to
program and erase (R187, R398). -/
def Hub.nvmReach (h : Hub) (w a n : Nat) (write : Bool) : Bool :=
  let lo := 0x70000 + 4096 * h.rd OPS_NVM_EXT_base w
  let slot := 1 - h.rd BLK_STAT_slot
  (decide (lo ≤ a) && decide (a + n ≤ lo + 4096 * h.rd OPS_NVM_EXT_size w)) ||
    (w == 0 && (if write then decide (0x20000 * slot ≤ a) && decide (a + n ≤ 0x20000 * (slot + 1)) else decide (a + n ≤ 0x40000)))

/-- An NVM operation handed to the controller (R398). -/
def Hub.nvmHand (h : Hub) (o : Op) (kind : Nat) (data : List Nat) : Hub :=
  (h.modOp o.slot (fun x => { x with phase := .waiting })).nvmAdd { use := .user, kind := kind, addr := o.w1, data := data, slot := o.slot }

/-- The number of words of an NVM operation. -/
def Op.nvmWords (o : Op) : Nat := bitsOf o.w2 12 12 + 1

/-- An NVM read (R398). -/
def Hub.nvmReadOp (h : Hub) (o : Op) : Hub :=
  if !h.nvmReach o.ward o.w1 (4 * o.nvmWords) false then h.retire o.slot 2
  else h.withBanks o [ptrBank o.w2] (fun h => h.nvmHand o 0 [])

/-- NVM_READ (R398). -/
def execNvmRead (slot : Fin 16384) (s : State) : Host.Outcome State Fault Refusal :=
  s.on (fun h => h.opRun slot 9 (fun o => o.field == 0) Hub.nvmReadOp)

/-- An NVM program (R398): its words are taken from the bank as it starts. -/
def Hub.nvmProgramOp (h : Hub) (o : Op) : Hub :=
  let src := wordAddrs (ptrAddr o.w2) o.nvmWords
  if !h.nvmReach o.ward o.w1 (4 * o.nvmWords) true then h.retire o.slot 2
  else h.withBanks o [ptrBank o.w2] (fun h =>
    h.withWords o src 0 (fun h => h.nvmHand o 1 (src.flatMap (fun a => leBytes 4 (h.memWord a)))))

/-- NVM_PROGRAM (R398). -/
def execNvmProgram (slot : Fin 16384) (s : State) : Host.Outcome State Fault Refusal :=
  s.on (fun h => h.opRun slot 9 (fun o => o.field == 1) Hub.nvmProgramOp)

/-- An NVM erase of one sector (R398). -/
def Hub.nvmEraseOp (h : Hub) (o : Op) : Hub :=
  if !h.nvmReach o.ward o.w1 4096 true then h.retire o.slot 2 else h.nvmHand o 2 []

/-- NVM_ERASE (R398). -/
def execNvmErase (slot : Fin 16384) (s : State) : Host.Outcome State Fault Refusal :=
  s.on (fun h => h.opRun slot 9 (fun o => o.field == 2) Hub.nvmEraseOp)

/-- The end of a ward's NVM operation: a read's words go to its bank, where the ward still owns it (R391, R392, R414). -/
def Hub.nvmOpEnd (h : Hub) (x : NvmOp) (good : Bool) : Hub :=
  match h.opAt x.slot with
  | none => h
  | some o =>
    if !good then h.retire o.slot 7
    else if x.kind == 0 then
      if o.dropped then h.retire o.slot 0
      else if !h.ownsBank o.ward (ptrBank o.w2) then h.retire o.slot 2
      else
        let words := wordsOf (h.nvmRead 0 x.addr (4 * o.nvmWords))
        (h.putWords (ptrAddr o.w2) words).retire o.slot 0 (4 * o.nvmWords)
    else h.retire o.slot 0 (if x.kind == 1 then 4 * o.nvmWords else 0)

/-- NVM_OPERATION_DONE (R398): the ward operation that runs inside the device ends: 0 done, 1 an error, 2 no result in time; `mirrorOk`
says that a second device that is written too has done the same. -/
def execNvmOperationDone (res : Fin 3) (mirrorOk : Bool) (s : State) : Host.Outcome State Fault Refusal :=
  s.on (fun h =>
    match h.nvmOp with
    | none => h
    | some x =>
      if x.use != .user then h
      else
        let h := h.nvmDone (res.val == 0) mirrorOk
        let h := if h.flag BLK_CFG_mirror && !mirrorOk && x.kind != 0 then h.event 20 1 detailOpen else h
        h.nvmOpEnd x (res.val == 0))

/-! ### TIMED (R399) -/

/-- TIMED (R399): an admitted TIMED operation waits for its target. -/
def execTimed (slot : Fin 16384) (s : State) : Host.Outcome State Fault Refusal :=
  s.on (fun h => h.opRun slot 10 (fun _ => true) (fun h o => h.modOp o.slot (fun x => { x with phase := .waiting })))

/-- The release of a TIMED operation (R394, R399): every record is checked before any is applied; a target that has passed makes it
LATE. -/
def Hub.timedRelease (h : Hub) (o : Op) (target : Nat) : Hub :=
  h.withBanks o [ptrBank o.w2] (fun h =>
    let n := o.field + 1
    let l := h.records o.w2 n
    h.withWords o (wordAddrs (ptrAddr o.w2) (2 * n)) 0 (fun h =>
      if h.recordsWait o.ward false l then h.recordWakes l
      else
        match (l.zipIdx).findSome? (fun x => (h.judgeRecord o.ward false x.1).map (fun f => (x.2, x.1, f))) with
        | some (i, x, f) => if f.1 == 10 && h.recordLost x then h.retire o.slot 5 else h.retire o.slot 3 0 (i * 2 ^ 16 + f.2)
        | none =>
          let late := decide ((h.clk.tb + 2 ^ 64 - target) % 2 ^ 64 < 2 ^ 63) && h.clk.tb != target
          let at_ := if late then h.clk.tb else target
          let h := h.underAdmission o.slot (fun h => l.foldl (fun h x => h.writeWord o.ward x.1 x.2) h)
          h.retire o.slot (if late then 1 else 0) n (at_ % 2 ^ 32)))

/-- The release of a TIMED operation's records has come (R399): the timebase stands at the target, or 2.0 µs before it where a record is
for the field die, or later (log entry 93). -/
def Hub.timedDue (h : Hub) (o : Op) (target : Nat) : Bool :=
  let lead := if (h.records o.w2 (o.field + 1)).any (fun x => h.needsField x.1) then 200 else 0
  decide ((h.clk.tb + lead + 2 ^ 64 - target) % 2 ^ 64 < 2 ^ 63)

/-- TIMED_RELEASE (R399): once its time has come, the records of a waiting TIMED operation are released and applied. -/
def execTimedRelease (slot : Fin 16384) (s : State) : Host.Outcome State Fault Refusal :=
  s.on (fun h =>
    match h.opAt slot with
    | none => h
    | some o =>
      match o.target with
      | some t => if h.engRuns && o.kind == 10 && o.phase == .waiting && h.timedDue o t then h.timedRelease o t else h
      | none => h)

/-! ### LSY (R400) -/

/-- LSY (R400): a USER frame is queued for the line. -/
def Hub.lsyOp (h : Hub) (o : Op) : Hub :=
  if !bitOf (h.rd LSY_USER_send_mask) o.ward then h.retire o.slot 2
  else if !bitOf h.sup.on 3 then (if h.blankOff 3 then h.retire o.slot 8 else h.wantDomain 3)
  else if !h.lsyOn || !h.lsyPlaced then h.retire o.slot 8
  else (h.userSend (bitOf o.w1 31) (bitsOf o.w1 26 5) (bitsOf o.w1 16 5) (o.w1 % 2 ^ 16)).retire o.slot 0

/-- LSY (R400). -/
def execLsy (slot : Fin 16384) (s : State) : Host.Outcome State Fault Refusal :=
  s.on (fun h => h.opRun slot 11 (fun _ => true) Hub.lsyOp)

/-! ### Uncorrectable errors (R461) -/



/-- ECC_UNCORRECTABLE (R461): an access finds that a word no longer fits its check code; its data bits now read `v`. The error is
counted and raised, and the word stays uncorrectable until it is written; what follows for each kind of access is with that access. -/
def execEccUncorrectable (b : Fin 50) (word : Fin 4096) (v : Word) (s : State) : Host.Outcome State Fault Refusal :=
  s.on (fun h =>
    if h.logicRuns && h.wordPowered b word then
      (({ h with mem := cellsSet 0 h.mem (memAddr b word) (leBytes 4 v.toNat) }).breakWord b word).ueFound b word
    else h)

end Sys2Proof.Machine
end

