-- ==== Sys2Proof/Machine/Dispatch.lean ====
section
/-!
DEFINITION. One arm per constructor of `Instr`: each calls the meaning of that command.
-/

namespace Sys2Proof.Machine

def exec (i : Instr) (s : State) : Host.Outcome State Fault Refusal :=
  match i with
  | .powerOnReset band vdd => Sys2Proof.Machine.execPowerOnReset band vdd s
  | .vholdCharged vhold => Sys2Proof.Machine.execVholdCharged vhold s
  | .vholdCapMeasure us => Sys2Proof.Machine.execVholdCapMeasure us s
  | .vholdLow vhold => Sys2Proof.Machine.execVholdLow vhold s
  | .vddWarningBegin vdd => Sys2Proof.Machine.execVddWarningBegin vdd s
  | .vminSample v => Sys2Proof.Machine.execVminSample v s
  | .vddWarningEnd vdd => Sys2Proof.Machine.execVddWarningEnd vdd s
  | .orderlyPowerDown vdd => Sys2Proof.Machine.execOrderlyPowerDown vdd s
  | .powerDownStep vhold => Sys2Proof.Machine.execPowerDownStep vhold s
  | .vddFailed vhold => Sys2Proof.Machine.execVddFailed vhold s
  | .vfLostPd => Sys2Proof.Machine.execVfLostPd s
  | .fieldPowerOnReset => Sys2Proof.Machine.execFieldPowerOnReset s
  | .fieldResetRelease => Sys2Proof.Machine.execFieldResetRelease s
  | .vfValid => Sys2Proof.Machine.execVfValid s
  | .vfUnderVoltage => Sys2Proof.Machine.execVfUnderVoltage s
  | .vfOverVoltage => Sys2Proof.Machine.execVfOverVoltage s
  | .vregFail vregl => Sys2Proof.Machine.execVregFail vregl s
  | .domainWakeRequest d => Sys2Proof.Machine.execDomainWakeRequest d s
  | .domainWakeDone d good => Sys2Proof.Machine.execDomainWakeDone d good s
  | .bankClearDone m => Sys2Proof.Machine.execBankClearDone m s
  | .pllLock => Sys2Proof.Machine.execPllLock s
  | .pllLockTimeout => Sys2Proof.Machine.execPllLockTimeout s
  | .refclkLost => Sys2Proof.Machine.execRefclkLost s
  | .refclkReturn => Sys2Proof.Machine.execRefclkReturn s
  | .returnRef w v => Sys2Proof.Machine.execReturnRef w v s
  | .mclkWindowEnd count hosc => Sys2Proof.Machine.execMclkWindowEnd count hosc s
  | .clockHaltExit => Sys2Proof.Machine.execClockHaltExit s
  | .fclkWindowEnd count => Sys2Proof.Machine.execFclkWindowEnd count s
  | .timebaseWrap => Sys2Proof.Machine.execTimebaseWrap s
  | .clkTbLoRead w => Sys2Proof.Machine.execClkTbLoRead w s
  | .timeS lane high low => Sys2Proof.Machine.execTimeS lane high low s
  | .timeL lane high => Sys2Proof.Machine.execTimeL lane high s
  | .followerTimeout => Sys2Proof.Machine.execFollowerTimeout s
  | .hingeFrameReceive lane frame codeOk controlOk stamp late => Sys2Proof.Machine.execHingeFrameReceive lane frame codeOk controlOk stamp late s
  | .idleFrame lane => Sys2Proof.Machine.execIdleFrame lane s
  | .laneTraining lane delay => Sys2Proof.Machine.execLaneTraining lane delay s
  | .laneDown lane => Sys2Proof.Machine.execLaneDown lane s
  | .laneRetry => Sys2Proof.Machine.execLaneRetry s
  | .retrain w v => Sys2Proof.Machine.execRetrain w v s
  | .hingeLost field => Sys2Proof.Machine.execHingeLost field s
  | .rejoin => Sys2Proof.Machine.execRejoin s
  | .fieldStart => Sys2Proof.Machine.execFieldStart s
  | .outCmd g gen cmds => Sys2Proof.Machine.execOutCmd g gen cmds s
  | .outCmdRepeat => Sys2Proof.Machine.execOutCmdRepeat s
  | .outStat g gen states => Sys2Proof.Machine.execOutStat g gen states s
  | .fsum sticky => Sys2Proof.Machine.execFsum sticky s
  | .fault p chs live detail => Sys2Proof.Machine.execFault p chs live detail s
  | .req tag => Sys2Proof.Machine.execReq tag s
  | .rsp tag => Sys2Proof.Machine.execRsp tag s
  | .reqRetry tag => Sys2Proof.Machine.execReqRetry tag s
  | .boltRel => Sys2Proof.Machine.execBoltRel s
  | .boltRelExpire => Sys2Proof.Machine.execBoltRelExpire s
  | .boltRelRepeat => Sys2Proof.Machine.execBoltRelRepeat s
  | .vec t late payload => Sys2Proof.Machine.execVec t late payload s
  | .vecRepeat t off => Sys2Proof.Machine.execVecRepeat t off s
  | .marginMeasure lane m => Sys2Proof.Machine.execMarginMeasure lane m s
  | .boltDecision e => Sys2Proof.Machine.execBoltDecision e s
  | .boltCode field => Sys2Proof.Machine.execBoltCode field s
  | .boltLatchClear => Sys2Proof.Machine.execBoltLatchClear s
  | .boltToneChange => Sys2Proof.Machine.execBoltToneChange s
  | .fieldToneDecision e => Sys2Proof.Machine.execFieldToneDecision e s
  | .fholdExpiry x => Sys2Proof.Machine.execFholdExpiry x s
  | .fieldConfigCrc upset => Sys2Proof.Machine.execFieldConfigCrc upset s
  | .boot probe0 probe1 lostHeader lostRead => Sys2Proof.Machine.execBoot probe0 probe1 lostHeader lostRead s
  | .arming => Sys2Proof.Machine.execArming s
  | .startupTests passed time proofs => Sys2Proof.Machine.execStartupTests passed time proofs s
  | .enterRun => Sys2Proof.Machine.execEnterRun s
  | .rcvErase w v => Sys2Proof.Machine.execRcvErase w v s
  | .rcvProgram w v => Sys2Proof.Machine.execRcvProgram w v s
  | .rcvRead w v => Sys2Proof.Machine.execRcvRead w v s
  | .rcvReboot w v => Sys2Proof.Machine.execRcvReboot w v s
  | .rcvCommandDone e => Sys2Proof.Machine.execRcvCommandDone e s
  | .blkCheck w v => Sys2Proof.Machine.execBlkCheck w v s
  | .blkCheckDone readOk => Sys2Proof.Machine.execBlkCheckDone readOk s
  | .blkReboot w v => Sys2Proof.Machine.execBlkReboot w v s
  | .blkFuse w v => Sys2Proof.Machine.execBlkFuse w v s
  | .fuseDone good => Sys2Proof.Machine.execFuseDone good s
  | .shadowCheck upset inShadow full interval => Sys2Proof.Machine.execShadowCheck upset inShadow full interval s
  | .thermalHalt sensor t => Sys2Proof.Machine.execThermalHalt sensor t s
  | .fieldGlobalShutdown sensor t => Sys2Proof.Machine.execFieldGlobalShutdown sensor t s
  | .thermalHaltExit logic field => Sys2Proof.Machine.execThermalHaltExit logic field s
  | .dbtSafeExit w v => Sys2Proof.Machine.execDbtSafeExit w v s
  | .safeLeave => Sys2Proof.Machine.execSafeLeave s
  | .outCtrlWrite w c v => Sys2Proof.Machine.execOutCtrlWrite w c v s
  | .rearm w c v => Sys2Proof.Machine.execRearm w c v s
  | .thermalShutdown c => Sys2Proof.Machine.execThermalShutdown c s
  | .retryExpiry x => Sys2Proof.Machine.execRetryExpiry x s
  | .limitBegin c v => Sys2Proof.Machine.execLimitBegin c v s
  | .limitEpisode c => Sys2Proof.Machine.execLimitEpisode c s
  | .uvOff x => Sys2Proof.Machine.execUvOff x s
  | .uvRestart x => Sys2Proof.Machine.execUvRestart x s
  | .offStateCheck x => Sys2Proof.Machine.execOffStateCheck x s
  | .offStateCheckEnd c v => Sys2Proof.Machine.execOffStateCheckEnd c v s
  | .litCheck c => Sys2Proof.Machine.execLitCheck c s
  | .litCheckEnd c fine => Sys2Proof.Machine.execLitCheckEnd c fine s
  | .readback c v normal fine => Sys2Proof.Machine.execReadback c v normal fine s
  | .darkPulse c => Sys2Proof.Machine.execDarkPulse c s
  | .pulseEnd x v cur => Sys2Proof.Machine.execPulseEnd x v cur s
  | .tpMiss x => Sys2Proof.Machine.execTpMiss x s
  | .pwmEdgeCheck c v => Sys2Proof.Machine.execPwmEdgeCheck c v s
  | .pairMismatch x => Sys2Proof.Machine.execPairMismatch x s
  | .outRtWrite w c v => Sys2Proof.Machine.execOutRtWrite w c v s
  | .outFltClear w c v => Sys2Proof.Machine.execOutFltClear w c v s
  | .inputCrossing c l => Sys2Proof.Machine.execInputCrossing c l s
  | .debounceAccept x => Sys2Proof.Machine.execDebounceAccept x s
  | .inTsLoRead w c => Sys2Proof.Machine.execInTsLoRead w c s
  | .inputMeasure c v cur => Sys2Proof.Machine.execInputMeasure c v cur s
  | .wireBreak x => Sys2Proof.Machine.execWireBreak x s
  | .tpWindowEnd x => Sys2Proof.Machine.execTpWindowEnd x s
  | .tpLate x => Sys2Proof.Machine.execTpLate x s
  | .foreignWindowEnd x => Sys2Proof.Machine.execForeignWindowEnd x s
  | .inFltClear w c v => Sys2Proof.Machine.execInFltClear w c v s
  | .issuePoint t => Sys2Proof.Machine.execIssuePoint t s
  | .stop t => Sys2Proof.Machine.execStop t s
  | .vecInstruction t => Sys2Proof.Machine.execVecInstruction t s
  | .loop t => Sys2Proof.Machine.execLoop t s
  | .endl t => Sys2Proof.Machine.execEndl t s
  | .jmp t => Sys2Proof.Machine.execJmp t s
  | .brc t => Sys2Proof.Machine.execBrc t s
  | .wait t => Sys2Proof.Machine.execWait t s
  | .waitTimeout t => Sys2Proof.Machine.execWaitTimeout t s
  | .call t => Sys2Proof.Machine.execCall t s
  | .ret t => Sys2Proof.Machine.execRet t s
  | .tset t => Sys2Proof.Machine.execTset t s
  | .march t => Sys2Proof.Machine.execMarch t s
  | .sig t => Sys2Proof.Machine.execSig t s
  | .cycleStart t => Sys2Proof.Machine.execCycleStart t s
  | .tmbStart w t v => Sys2Proof.Machine.execTmbStart w t v s
  | .tmbStop w t v => Sys2Proof.Machine.execTmbStop w t v s
  | .tmbJump w t v => Sys2Proof.Machine.execTmbJump w t v s
  | .heavyVectorStall t => Sys2Proof.Machine.execHeavyVectorStall t s
  | .deadlineMiss t => Sys2Proof.Machine.execDeadlineMiss t s
  | .compareSlotEval j r => Sys2Proof.Machine.execCompareSlotEval j r s
  | .tmbCmpThrWrite w j v => Sys2Proof.Machine.execTmbCmpThrWrite w j v s
  | .dpWriteLow w d n v => Sys2Proof.Machine.execDpWriteLow w d n v s
  | .dpWriteHigh w d n v => Sys2Proof.Machine.execDpWriteHigh w d n v s
  | .dpReadLow w d n => Sys2Proof.Machine.execDpReadLow w d n s
  | .syncPulseSend => Sys2Proof.Machine.execSyncPulseSend s
  | .syncPulseReceive x => Sys2Proof.Machine.execSyncPulseReceive x s
  | .lsyFrameReceive up start line => Sys2Proof.Machine.execLsyFrameReceive up start line s
  | .timeLo v => Sys2Proof.Machine.execTimeLo v s
  | .timeHi v => Sys2Proof.Machine.execTimeHi v s
  | .enumMsg v => Sys2Proof.Machine.execEnumMsg v s
  | .calStart v => Sys2Proof.Machine.execCalStart v s
  | .calEcho missing rt => Sys2Proof.Machine.execCalEcho missing rt s
  | .calDelay v => Sys2Proof.Machine.execCalDelay v s
  | .mark v => Sys2Proof.Machine.execMark v s
  | .hb up v => Sys2Proof.Machine.execHb up v s
  | .pairHbTimeout => Sys2Proof.Machine.execPairHbTimeout s
  | .pairClose v => Sys2Proof.Machine.execPairClose v s
  | .pairTurnOn => Sys2Proof.Machine.execPairTurnOn s
  | .present v => Sys2Proof.Machine.execPresent v s
  | .breakMsg v => Sys2Proof.Machine.execBreakMsg v s
  | .recalReq v => Sys2Proof.Machine.execRecalReq v s
  | .user up v => Sys2Proof.Machine.execUser up v s
  | .upstreamLost => Sys2Proof.Machine.execUpstreamLost s
  | .downstreamLost => Sys2Proof.Machine.execDownstreamLost s
  | .chainResumed => Sys2Proof.Machine.execChainResumed s
  | .recal w v => Sys2Proof.Machine.execRecal w v s
  | .recalInterval => Sys2Proof.Machine.execRecalInterval s
  | .luanenEvent k => Sys2Proof.Machine.execLuanenEvent k s
  | .lsyRxRead w => Sys2Proof.Machine.execLsyRxRead w s
  | .writeFrame p header data crc k => Sys2Proof.Machine.execWriteFrame p header data crc k s
  | .readFrame p header crc k => Sys2Proof.Machine.execReadFrame p header crc k s
  | .doorbell p header v crc k => Sys2Proof.Machine.execDoorbell p header v crc k s
  | .wrdExpOpen w v => Sys2Proof.Machine.execWrdExpOpen w v s
  | .descriptorAccept w => Sys2Proof.Machine.execDescriptorAccept w s
  | .dispatch => Sys2Proof.Machine.execDispatch s
  | .nop slot => Sys2Proof.Machine.execNop slot s
  | .regw slot => Sys2Proof.Machine.execRegw slot s
  | .regr slot => Sys2Proof.Machine.execRegr slot s
  | .bankCopy slot => Sys2Proof.Machine.execBankCopy slot s
  | .bankFill slot => Sys2Proof.Machine.execBankFill slot s
  | .atomAdd slot => Sys2Proof.Machine.execAtomAdd slot s
  | .atomSwap slot => Sys2Proof.Machine.execAtomSwap slot s
  | .tmbOpStart slot => Sys2Proof.Machine.execTmbOpStart slot s
  | .tmbOpStop slot => Sys2Proof.Machine.execTmbOpStop slot s
  | .tmbOpJump slot => Sys2Proof.Machine.execTmbOpJump slot s
  | .meas slot conv => Sys2Proof.Machine.execMeas slot conv s
  | .diag slot v normal fine => Sys2Proof.Machine.execDiag slot v normal fine s
  | .nvmRead slot => Sys2Proof.Machine.execNvmRead slot s
  | .nvmProgram slot => Sys2Proof.Machine.execNvmProgram slot s
  | .nvmErase slot => Sys2Proof.Machine.execNvmErase slot s
  | .nvmOperationDone res mirrorOk => Sys2Proof.Machine.execNvmOperationDone res mirrorOk s
  | .timed slot => Sys2Proof.Machine.execTimed slot s
  | .timedRelease slot => Sys2Proof.Machine.execTimedRelease slot s
  | .lsy slot => Sys2Proof.Machine.execLsy slot s
  | .completion slot => Sys2Proof.Machine.execCompletion slot s
  | .opsCancel w v => Sys2Proof.Machine.execOpsCancel w v s
  | .opsCqIdxWrite w v => Sys2Proof.Machine.execOpsCqIdxWrite w v s
  | .tokenRefill w => Sys2Proof.Machine.execTokenRefill w s
  | .opsQosRtWrite w v => Sys2Proof.Machine.execOpsQosRtWrite w v s
  | .intEvent w bit => Sys2Proof.Machine.execIntEvent w bit s
  | .moderationExpiry w => Sys2Proof.Machine.execModerationExpiry w s
  | .intPulseEnd p => Sys2Proof.Machine.execIntPulseEnd p s
  | .intStatClear w v => Sys2Proof.Machine.execIntStatClear w v s
  | .intEnWrite w v => Sys2Proof.Machine.execIntEnWrite w v s
  | .intSet w v => Sys2Proof.Machine.execIntSet w v s
  | .intModWrite w v => Sys2Proof.Machine.execIntModWrite w v s
  | .rstnLow shifting => Sys2Proof.Machine.execRstnLow shifting s
  | .rstnRelease => Sys2Proof.Machine.execRstnRelease s
  | .rstDev w v => Sys2Proof.Machine.execRstDev w v s
  | .deviceSoftReset => Sys2Proof.Machine.execDeviceSoftReset s
  | .rstWard w v => Sys2Proof.Machine.execRstWard w v s
  | .wardResetDone w => Sys2Proof.Machine.execWardResetDone w s
  | .rstField w v => Sys2Proof.Machine.execRstField w v s
  | .fieldResetRequest => Sys2Proof.Machine.execFieldResetRequest s
  | .fieldResetTimeout => Sys2Proof.Machine.execFieldResetTimeout s
  | .bnkOwnerWrite w b v => Sys2Proof.Machine.execBnkOwnerWrite w b v s
  | .drainComplete b => Sys2Proof.Machine.execDrainComplete b s
  | .handoverScrubDone b => Sys2Proof.Machine.execHandoverScrubDone b s
  | .bnkHandedClear w b v => Sys2Proof.Machine.execBnkHandedClear w b v s
  | .retainWrite w b v => Sys2Proof.Machine.execRetainWrite w b v s
  | .bitSet w b word v => Sys2Proof.Machine.execBitSet w b word v s
  | .bitClear w b word v => Sys2Proof.Machine.execBitClear w b word v s
  | .eccUncorrectable b word v => Sys2Proof.Machine.execEccUncorrectable b word v s
  | .eccCorrected b word => Sys2Proof.Machine.execEccCorrected b word s
  | .scrubRead b word us => Sys2Proof.Machine.execScrubRead b word us s
  | .thermalModelUpdate v cur own rails temps => Sys2Proof.Machine.execThermalModelUpdate v cur own rails temps s
  | .schedulerDecision => Sys2Proof.Machine.execSchedulerDecision s
  | .thermWarn sensor t => Sys2Proof.Machine.execThermWarn sensor t s
  | .eraseDayBoundary => Sys2Proof.Machine.execEraseDayBoundary s
  | .schRtWrite w v => Sys2Proof.Machine.execSchRtWrite w v s
  | .heartbeatSend field => Sys2Proof.Machine.execHeartbeatSend field s
  | .hbReceive field payload stamp => Sys2Proof.Machine.execHbReceive field payload stamp s
  | .heartbeatLoss field => Sys2Proof.Machine.execHeartbeatLoss field s
  | .soscBLoss => Sys2Proof.Machine.execSoscBLoss s
  | .adcComparison q kind a b => Sys2Proof.Machine.execAdcComparison q kind a b s
  | .adcConfirm q kind a b => Sys2Proof.Machine.execAdcConfirm q kind a b s
  | .tempComparison sensor a b => Sys2Proof.Machine.execTempComparison sensor a b s
  | .proofStart => Sys2Proof.Machine.execProofStart s
  | .proofDetect ticks => Sys2Proof.Machine.execProofDetect ticks s
  | .proofTimeout => Sys2Proof.Machine.execProofTimeout s
  | .recheckEnd present => Sys2Proof.Machine.execRecheckEnd present s
  | .proofOverdue mech inst => Sys2Proof.Machine.execProofOverdue mech inst s
  | .reproof => Sys2Proof.Machine.execReproof s
  | .proofNow w v => Sys2Proof.Machine.execProofNow w v s
  | .proofPause w v => Sys2Proof.Machine.execProofPause w v s
  | .proofResume w v => Sys2Proof.Machine.execProofResume w v s
  | .pauseExpiry => Sys2Proof.Machine.execPauseExpiry s
  | .faultOccurrence n res ward detail => Sys2Proof.Machine.execFaultOccurrence n res ward detail s
  | .faultCauseEnd n res => Sys2Proof.Machine.execFaultCauseEnd n res s
  | .faultClear w word v => Sys2Proof.Machine.execFaultClear w word v s
  | .fltForce word v => Sys2Proof.Machine.execFltForce word v s
  | .fltSelf field second => Sys2Proof.Machine.execFltSelf field second s
  | .wdgKick w k v => Sys2Proof.Machine.execWdgKick w k v s
  | .wardWatchdogExpiry w => Sys2Proof.Machine.execWardWatchdogExpiry w s
  | .dwdExpiry => Sys2Proof.Machine.execDwdExpiry s
  | .wdoPulseEnd => Sys2Proof.Machine.execWdoPulseEnd s
  | .bstLogic w v => Sys2Proof.Machine.execBstLogic w v s
  | .bstField w v => Sys2Proof.Machine.execBstField w v s
  | .bstLogicThenField w v => Sys2Proof.Machine.execBstLogicThenField w v s
  | .groupTestDone sig selfOk badCopies => Sys2Proof.Machine.execGroupTestDone sig selfOk badCopies s
  | .logicLbistEnd => Sys2Proof.Machine.execLogicLbistEnd s
  | .fieldLbistEnd sigs selfOk confirmed => Sys2Proof.Machine.execFieldLbistEnd sigs selfOk confirmed s
  | .testAbort n detail => Sys2Proof.Machine.execTestAbort n detail s
  | .bootLbist sigs selfOk time => Sys2Proof.Machine.execBootLbist sigs selfOk time s
  | .bootMemTest bad => Sys2Proof.Machine.execBootMemTest bad s
  | .bstXctrlWrite w v => Sys2Proof.Machine.execBstXctrlWrite w v s
  | .recordIntake typ source sev ward payload => Sys2Proof.Machine.execRecordIntake typ source sev ward payload s
  | .recordWriteStart => Sys2Proof.Machine.execRecordWriteStart s
  | .ringWrite => Sys2Proof.Machine.execRingWrite s
  | .gapRecord => Sys2Proof.Machine.execGapRecord s
  | .pageSubmit => Sys2Proof.Machine.execPageSubmit s
  | .pageProgramDone res mirrorOk => Sys2Proof.Machine.execPageProgramDone res mirrorOk s
  | .sectorReclaim => Sys2Proof.Machine.execSectorReclaim s
  | .journalEraseDone res mirrorOk => Sys2Proof.Machine.execJournalEraseDone res mirrorOk s
  | .journalScan ok => Sys2Proof.Machine.execJournalScan ok s
  | .recRdSqbHiRead w => Sys2Proof.Machine.execRecRdSqbHiRead w s
  | .newestSeqRead w => Sys2Proof.Machine.execNewestSeqRead w s
  | .journalPageRead w v => Sys2Proof.Machine.execJournalPageRead w v s
  | .journalReadDone ok => Sys2Proof.Machine.execJournalReadDone ok s
  | .nonceRead w => Sys2Proof.Machine.execNonceRead w s
  | .nonceExpiry => Sys2Proof.Machine.execNonceExpiry s
  | .tokenCheck w v => Sys2Proof.Machine.execTokenCheck w v s
  | .clear => Sys2Proof.Machine.execClear s
  | .keyProgram w v => Sys2Proof.Machine.execKeyProgram w v s
  | .keyProgramDone good => Sys2Proof.Machine.execKeyProgramDone good s
  | .pendingRecord k w3 w4 w5 => Sys2Proof.Machine.execPendingRecord k w3 w4 w5 s
  | .recRtWrite w v => Sys2Proof.Machine.execRecRtWrite w v s
  | .powerOnSecond barrierMs => Sys2Proof.Machine.execPowerOnSecond barrierMs s
  | .fieldSnapshot => Sys2Proof.Machine.execFieldSnapshot s
  | .mirrorStart => Sys2Proof.Machine.execMirrorStart s
  | .mirror w v => Sys2Proof.Machine.execMirror w v s
  | .mirrorDone res mirrorOk => Sys2Proof.Machine.execMirrorDone res mirrorOk s
  | .rebase => Sys2Proof.Machine.execRebase s
  | .ledgerRestore => Sys2Proof.Machine.execLedgerRestore s
  | .lifeWindowRead w => Sys2Proof.Machine.execLifeWindowRead w s
  | .vddValid vdd => Sys2Proof.Machine.execVddValid vdd s
  | .holdUpEndVoltage => Sys2Proof.Machine.execHoldUpEndVoltage s
  | .retentionFloor => Sys2Proof.Machine.execRetentionFloor s
  | .testPinChange field level => Sys2Proof.Machine.execTestPinChange field level s
  | .nvmCutoff shifting => Sys2Proof.Machine.execNvmCutoff shifting s
  | .laneNotInService lane => Sys2Proof.Machine.execLaneNotInService lane s
  | .limitEnd c => Sys2Proof.Machine.execLimitEnd c s
  | .restartThreshold c => Sys2Proof.Machine.execRestartThreshold c s
  | .boltRelSend => Sys2Proof.Machine.execBoltRelSend s

end Sys2Proof.Machine
end

