-- ==== Sys2Proof/Machine/Tick.lean ====
section
/-!
DEFINITION. One tick of 10 ns, and what happens by time alone: the clock and the timebase (R109), and the sending of Hinge frames, each at a
slot of its lane (R114, R130, R132 to R134, R136).

What the spec leaves open here: DESIGN CHOICE, log entries 3, 82; DEDUCED, log entry 77.
-/

namespace Sys2Proof.Machine

/-! ### Clock and timebase (R108, R109, R111) -/

/-- MCLK runs: the logic die is powered and out of reset, and a source is left. -/
def Hub.mclkRuns (h : Hub) : Bool := h.logicRuns && !h.clk.mclkLost

/-- The model's own clock counts, and MCLK and the timebase with it while MCLK runs; a wrap of the timebase's low 48 bits sets every ward's
wrapped flag (R109, R111; log entry 3). -/
def Hub.tickClock (h : Hub) : Hub :=
  let h1 := if h.mclkRuns && (h.clk.tb + 1) % 2 ^ 48 == 0 then h.setWrapped else h
  { h1 with clk := { h1.clk with
      now := h.clk.now + 1
      mclk := h.clk.mclk + b2n h.mclkRuns
      tb := if h.mclkRuns then (h.clk.tb + 1) % 2 ^ 64 else h.clk.tb } }

/-! ### What is queued by time -/

/-- The logic die queues a short time message every 10 µs and a long one every 1 ms (R114), while a lane to the field die is in service. -/
def Hub.queueTime (h : Hub) : Hub :=
  if !h.mclkRuns || !((h.lane 0).inService || (h.lane 1).inService) then h
  else
    let h := if h.clk.tb % 1000 == 0 then h.sendL { typ := 0x10, prio := 2 } else h
    if h.clk.tb % 100000 == 0 then h.sendL { typ := 0x11, prio := 2 } else h

/-- The field die queues OUT_STAT of both groups and FSUM every 100 µs (R132). -/
def Hub.queueStat (h : Hub) : Hub :=
  if !h.sup.fieldUp || h.clk.now % 10000 != 0 then h
  else ((h.sendStat 0).sendStat 1).sendF { typ := 0x39, payload := h.flt.fieldSticky, prio := 4 }

/-! ### A slot of a lane (R130, R133, R134, R136) -/

/-- The queue of a lane's direction. -/
def Hub.txQueue (h : Hub) (lane : Nat) : List HFrame := if lane < 2 then h.hinge.txL else h.hinge.txF

/-- The queue of a lane's direction replaced. -/
def Hub.setQueue (h : Hub) (lane : Nat) (q : List HFrame) : Hub :=
  if lane < 2 then { h with hinge := { h.hinge with txL := q } } else { h with hinge := { h.hinge with txF := q } }

/-- The first frame of a queue that a lane can take, and the queue it leaves: a frame that goes out on both lanes stays for the other one,
and one whose other lane is no longer there is done (R133, R155). -/
def takeFrame (lane : Nat) (both : Bool) : List HFrame → Option HFrame × List HFrame
  | [] => (none, [])
  | f :: rest =>
    if f.by_ == some lane then
      let r := takeFrame lane both rest
      (r.1, if both then f :: r.2 else r.2)
    else if sentTwice f.typ && both && f.by_.isNone then (some f, { f with by_ := some lane } :: rest)
    else (some f, rest)

/-- The ward whose request a REQ frame carries. -/
def Hub.frameWard (h : Hub) (f : HFrame) : Nat := match h.txnOf (f.typ - 0x40) with | some x => x.ward | none => 8

/-- The frame that a lane takes at a slot, with the hub it leaves: by priority, then in order, and among REQ frames by the wards' turns. -/
def Hub.nextFrame (h : Hub) (lane : Nat) : Option (HFrame × Hub) :=
  let q := h.txQueue lane
  let r := takeFrame lane (h.bothLanes lane) q
  match r.1 with
  | none => none
  | some f =>
    if !(decide (lane < 2) && f.prio == 5) then some (f, h.setQueue lane r.2)
    else
      let turn := h.reqRobin (fun w => q.any (fun g => g.prio == 5 && h.frameWard g == w))
      let mine := fun g : HFrame => g.prio == 5 && h.frameWard g == turn.1
      let h1 := { h with hinge := { h.hinge with reqTurn := turn.2.1, reqLeft := turn.2.2 } }
      some ((q.find? mine).getD f, h1.setQueue lane (q.eraseP mine))

/-- A time message is filled in as its first symbol leaves (R133). -/
def Hub.fillIn (h : Hub) (f : HFrame) : HFrame :=
  if f.typ == 0x10 then { f with payload := h.clk.tb % 2 ^ 40 }
  else if f.typ == 0x11 then { f with payload := h.clk.tb / 2 ^ 40 }
  else f

/-- A slot of a lane: the next frame goes out; an IDLE frame in one slot of 64, and in every slot of a lane that waits for its return while
the other lane carries the traffic (R130, R136). -/
def Hub.slot (h : Hub) (lane : Nat) : Hub :=
  if !h.laneSends lane then h
  else if 63 ≤ (h.lane lane).sinceIdle || ((h.lane lane).waiting && (h.lane (laneMate lane)).inService) then h.idleFrame lane
  else
    match h.nextFrame lane with
    | some (f, h1) => h1.transmit lane (h1.fillIn f)
    | none => if (h.lane lane).waiting then h.idleFrame lane else h

/-- The slots of 320 ns: those of LF1 and FL1 lie between those of LF0 and FL0 (R134; log entry 82). -/
def Hub.slots (h : Hub) : Hub :=
  match h.clk.now % 32 with
  | 0 => (h.slot 0).slot 2
  | 16 => (h.slot 1).slot 3
  | _ => h

/-- One tick of 10 ns passes. -/
def tickHub (h : Hub) : Hub := h.tickClock.queueTime.queueStat.slots.lsyTick

end Sys2Proof.Machine
end

