-- ==== Sys2Proof/Machine/Pins.lean ====
section
/-!
DEFINITION. The leads (chapter 02, R220, R244, R339): what the hub drives each of them to between two commands, as far as the state decides it.

What the spec leaves open here: DESIGN CHOICE, log entries 91, 92.
-/

namespace Sys2Proof.Machine

/-- What the hub does with a lead: it drives it low or high, or leaves it high-impedance (an input, or off). -/
inductive Lead where
  | hiZ | low | high
  deriving DecidableEq, Repr

/-- A lead driven to a level. -/
def leadOf (b : Bool) : Lead := if b then .high else .low

/-- The logic die is powered and out of reset, and past *Boot* (R51, R54). -/
def Hub.leadsServe (h : Hub) : Bool := h.logicRuns && h.dev.phase == .up

/-! ### ERR, INT, WDO and SDO (R51 to R54, R59, R567) -/

/-- ERR is open-drain, active low (R53). -/
def Hub.errLead (h : Hub) : Lead := if h.errLow then .low else .hiZ

/-- INT0 to INT3 are push-pull, active low; high in reset, and in *Recovery* (R51, R52). -/
def Hub.intLead (h : Hub) (p : Nat) : Lead := leadOf !(h.leadsServe && h.intLow p)

/-- WDO: high-impedance, or driven at its inactive or active level; active is low where WDG_WDO_CFG.pol is 0 (R54, R567). A pulse that outlasts
a reset keeps the level it started with (R60). -/
def Hub.wdoLead (h : Hub) : Lead :=
  match h.wdo.pin with
  | 0 => .hiZ
  | 1 => leadOf !h.wdo.high
  | _ => leadOf h.wdo.high

/-- SDO of a host port is driven only while its CSn is low, in a frame that the hub accepts (R59, R365); between frames it is
high-impedance. -/
def Hub.sdoDrives (h : Hub) (p : Nat) : Bool := (vget h.ports p {}).driven

/-! ### The NVM leads (R47, R51, R61) -/

/-- NVM_CS0n and NVM_CS1n: high between transfers, in reset, and after a power-down for as long as VHOLD lasts (R51, R61). The model takes a
transfer as one command (log entry 92). -/
def Hub.nvmCsLead (h : Hub) : Lead := if h.sup.vhold == 0 && h.dev.phase == .off then .hiZ else .high

/-- NVM_SCK: low in reset and between transfers (R51). -/
def Hub.nvmSckLead (h : Hub) : Lead := if h.sup.vhold == 0 && h.dev.phase == .off then .hiZ else .low

/-- NVM_IO0 to NVM_IO3: inputs, pulled up, in reset and between transfers; in single and dual I/O the hub holds IO2 and IO3 high (R51). After the
power-down has quiesced the NVM it drives the chip selects alone (R61). -/
def Hub.nvmIoLead (h : Hub) (i : Nat) : Lead :=
  if 2 ≤ i && h.logicRuns && h.sup.nvmAllowed && h.rd BLK_STAT_lanes_now != 2 then .high else .hiZ

/-! ### The Luanen leads (R325, R326, R330, R337, R339) -/

/-- A span of a period, in ticks: from its first to behind its last. -/
def inSpan (t : Nat) (p : Nat × Nat) : Bool := decide (p.1 ≤ t) && decide (t < p.2)

/-- A span made longer: a direction output changes 1.0 µs before the drive begins and 0.5 µs after it ends (R339). -/
def widened (p : Nat × Nat) : Nat × Nat := (p.1 - 100, p.2 + 50)

/-- The hop is being measured, or the upstream hub measures it: echoes run in this period (R330). -/
def Hub.echoes (h : Hub) : Bool := match h.lsy.calPer with | some n => decide (1 ≤ n) | none => false

/-- The starts of the four echoes of a return window (R330). -/
def Hub.echoStarts (h : Hub) : List Nat := (List.range 4).map (fun k => h.lsyTicks - 2200 + 400 * k)

/-- When in a period the hub drives LSYNC_OUT: from the pulse to the turnaround, its echo pulses of 80 ns, and from P − 2 µs on (R325, R330). -/
def Hub.outSpans (h : Hub) : List (Nat × Nat) :=
  let p := h.lsyTicks
  [(0, p - 3400), (p - 200, 2 * p)] ++ (if h.echoes && !h.isTail then h.echoStarts.map (fun t => (t, t + 8)) else [])

/-- When in a period a member drives LSYNC_IN: the return slots, and its answers to echoes, 400 ns from 2,000 ns after each (R325, R330). -/
def Hub.inSpans (h : Hub) : List (Nat × Nat) :=
  let p := h.lsyTicks
  (p - 3200, p - 2320) :: (if h.echoes then h.echoStarts.map (fun t => (t + 200, t + 240)) else [])

/-- The hub drives LSYNC_OUT, with its drive's spans changed by `f`: low while its upstream side is lost (R337); before the first pulse it does
not drive it (log entry 91). -/
def Hub.outDrives (h : Hub) (f : Nat × Nat → Nat × Nat) : Bool :=
  h.lsyOn && (h.lsy.lost || (h.lsy.pulseAt.isSome &&
    (match h.outPhase with | none => true | some t => h.outSpans.any (fun p => inSpan t (f p)))))

/-- The hub drives LSYNC_IN, with its drive's spans changed by `f`. -/
def Hub.inDrives (h : Hub) (f : Nat × Nat → Nat × Nat) : Bool :=
  h.lsyOn && !h.isHead && !h.lsy.lost && (match h.inPhase with | none => false | some t => h.inSpans.any (fun p => inSpan t (f p)))

/-- The level of a frame that started at a tick of the period (R324). -/
def frameLevel (t start : Nat) (f : LFrame) : Bool := decide (start ≤ t) && f.line.getD ((t - start) / 4) false

/-- LSYNC_OUT: the pulse of 400 ns, the frames of the forward window, the echo pulses; low otherwise while it is driven. -/
def Hub.lsyncOutLead (h : Hub) : Lead :=
  if !h.outDrives id then .hiZ
  else
    match h.outPhase with
    | none => .low
    | some t =>
      leadOf (!h.lsy.lost && (decide (t < 40) || h.lsy.outFwd.any (fun x => frameLevel t x.1 x.2) ||
        (h.echoes && h.echoStarts.any (fun s => inSpan t (s, s + 8)))))

/-- LSYNC_IN: the frames of the return slots and the answers to echoes, while a member drives it; an input otherwise. -/
def Hub.lsyncInLead (h : Hub) : Lead :=
  if !h.inDrives id then .hiZ
  else
    match h.inPhase with
    | none => .hiZ
    | some t =>
      let p := h.lsyTicks
      let slot := fun (s : Nat) (x : Option LFrame) => match x with | some f => frameLevel t s f | none => false
      leadOf (slot (p - 3200) h.lsy.out1 || slot (p - 2760) h.lsy.out2 || (h.echoes && h.echoStarts.any (fun s => inSpan t (s + 200, s + 240))))

/-! ### AUX0 to AUX3 (R51, R52, R304, R339) -/

/-- AUX2 or AUX3 is a direction output for a transceiver (R339). -/
def Hub.auxDirection (h : Hub) (i : Nat) : Bool := h.flag LSY_CFG_xcvr && (i == 2 || i == 3)

/-- An AUX lead: high-impedance in reset and in *Recovery*, and as an input; a direction output, low while the chain is disabled; else the
level of its map. -/
def Hub.auxLead (h : Hub) (i : Nat) : Lead :=
  if !h.logicRuns || h.state == .recovery then .hiZ
  else if h.auxDirection i then leadOf (if i == 2 then h.inDrives widened else h.outDrives widened)
  else if !h.flag TMB_AUX_MAP_dir i then .hiZ
  else leadOf (h.auxLevel i)

/-! ### The channel leads (R51, R52, R68, R220, R244) -/

/-- The 50 µA diagnostic pull-down of channel `c` is on (R220): while the channel is off and no off-state check runs, in mode 0 and every output
mode; not while PD_FCHB is off. -/
def Hub.pullDown (h : Hub) (c : Nat) : Bool :=
  h.sup.fieldUp && (decide (c < 8) || bitOf h.sup.on 10) && !h.fIsIn c && !(h.out c).sw && !(h.out c).check

/-- The limit of an input's sink in µA (R244). -/
def Hub.sinkLimit (h : Hub) (c : Nat) : Nat := 1200 * (h.frd IN_CFG_ilim c + 1)

/-- The current in µA that an input sinks at a pin voltage in mV, at the nominal 1.5 kΩ (R244). -/
def Hub.sinkCurrent (h : Hub) (c mv : Nat) : Nat := if h.inSensed c then min (2 * mv / 3) (h.sinkLimit c) else 0

/-- What a channel lead does: off and high-impedance with the pull-down on or off, driven to VF by its switch, or sinking as an input. -/
inductive ChLead where
  | off (pull : Bool) | on | sink
  deriving DecidableEq, Repr

/-- The lead of channel `c`. -/
def Hub.chLead (h : Hub) (c : Nat) : ChLead :=
  if (h.out c).sw then .on else if h.inSensed c then .sink else .off (h.pullDown c)

end Sys2Proof.Machine
end

