-- ==== Sys2Proof/Safety.lean ====
section
/-!
DEFINITION. The terms in which statements about the hub are made: what follows a command by itself, what it means that a
command completes, and the invariant of Deadbolt DB's drive.
-/

namespace Sys2Proof.Machine

/-- The registers that may change after a command has had its own effect: the INT_ block, where interrupt source STATE occurs, and
FLT_ERR, whose falls count (R419, R541). -/
def signalAddr (a : Nat) : Bool := (decide (0x7000 ≤ a) && decide (a < 0x7400)) || a == 0x12078

/-- The same with OUT_FLT and IN_STAT, where DB drives a channel and ends the windows that it feeds (R271, R515). -/
def settleAddr (a : Nat) : Bool :=
  signalAddr a || (decide (0x8000 ≤ a) && decide (a < 0x9000) && a % 0x100 == 0x28) ||
    (decide (0xA000 ≤ a) && decide (a < 0xB000) && a % 0x100 == 0x20)

/-- A channel without the mark by which its test pulses are supervised (R234). -/
def OutCh.unwatched (o : OutCh) : OutCh := { o with tpSeen := false }

/-- An input without the marks by which its test pulses and its wire are supervised (R259, R269). -/
def InCh.unwatched (i : InCh) : InCh := { i with passed := false, wbPaused := none, wbPause := 0 }

/-- What DB's drive of the channels reaches (R515): the channels, but for the marks of their supervision, the field collector's live and
sticky flags, the cycle counts, and the scheduler's record of heavy turn-ons and of the supply power. -/
def Hub.driven (h : Hub) :=
  (h.outs.map OutCh.unwatched, h.ins.map InCh.unwatched, h.dbt, h.flt, h.sch, h.life, h.hinge.lossSafe)

/-- The hub without its registers, without the interrupt requests and pins, without the field die's frames on their way, without what DB's
drive reaches, and without what is kept of a state for the next (`Follow`): what `settle` never changes. -/
def Hub.rest (h : Hub) : Hub :=
  { h with
    regs := [], ints := Vector.replicate 8 {}, pins := Vector.replicate 4 {}, fol := {}
    outs := Vector.replicate 16 {}, ins := Vector.replicate 16 {}
    hinge := { h.hinge with txF := [], lossSafe := 0 }
    dbt := { h.dbt with dbForced := false }
    flt := { h.flt with fLive := Vector.replicate 40 0, fieldSticky := 0 }
    sch := { h.sch with pWindow := [], lastHeavy := none, wardHeavy := Vector.replicate 8 none }
    life := { h.life with acc := Vector.replicate 16 {} } }

/-- No intake and no occurrence waits for a logic group under test (R587). -/
def Hub.noBacklog (h : Hub) : Prop := h.bst.intakes = [] ∧ h.bst.occurs = []

/-- The hub `k` is the hub `h` but for what follows by itself from a change of state: `rest` is the same, and every register
outside `settleAddr`; and where DB's judgement of its conditions agrees with its drive, what that drive reaches is the same too, and every
register outside `signalAddr`. -/
structure Kept (h k : Hub) : Prop where
  rest : k.rest = h.rest
  regs : ∀ (f : Fld) (i w : Nat), settleAddr (keyAddr (fldKey f i w)) = false → k.rd f i w = h.rd f i w
  driven : h.dbCond = h.dbt.dbForced → k.driven = h.driven
  flags : h.dbCond = h.dbt.dbForced → ∀ (f : Fld) (i w : Nat), signalAddr (keyAddr (fldKey f i w)) = false → k.rd f i w = h.rd f i w

/-- Command `c` completes in `s` with `P`: it answers a next state, the queue is as it was, `P` holds of the hub that its own
effect leaves, and the hub of the next state is that hub, but for what follows by itself (`Kept`). -/
def Completes (c : Instr) (s : State) (P : Hub → Prop) : Prop :=
  ∃ (t : State) (h : Hub), exec c s = .next t ∧ t.pending = s.pending ∧ P h ∧ t.hub = settle s.hub h ∧ (h.noBacklog → Kept h t.hub)

/-- The cause of source `n` is present on resource `res`, as the logic die itself finds it (R538). -/
def caused (h : Hub) (n res : Nat) : Bool := bitOf (vget h.flt.cause n 0) res

/-- Tumbler `t` is at a vector boundary with an instruction of opcode `op` next: no request and no cycle in force goes before it,
it lies in the region, its codewords are good, and the fields that must be 0 are (R279, R283, R284, R293, R299). -/
def Hub.comesTo (h : Hub) (t op : Nat) : Bool :=
  let x := h.tmb t
  let a := h.progAddr t x.next
  h.tmbRuns t && x.issued.isNone && h.dev.phase == .up && h.dev.halt.isNone && (h.hinge.upL || !h.drivesField t) &&
    x.stopReq.isNone && x.jumpReq.isNone && x.remain == 0 && x.march.isNone && decide (x.next < h.regionLen t) &&
    decide (h.rd TMB_REGION_base t + x.next < 1024) && !h.isBad a && !h.isBad (a + 4) &&
    wOp (h.progWord t x.next) == op && wClean (h.progWord t x.next)

/-- The word that tumbler `t` comes to. -/
def Hub.nextWord (h : Hub) (t : Nat) : Nat := h.progWord t (h.tmb t).next

/-- The value of a condition of tumbler `t`, none where it is not allowed (R288). -/
def Hub.condIs (h : Hub) (t sel : Nat) : Option Bool :=
  match h.tmbCond t sel with
  | .ok x => some x.1
  | .error _ => none

/-- The hub to which a decision comes with its candidates, where no channel is cut: the account is up to date, what has taken effect no
longer counts, and no crossing is present (R478, R479, R486). -/
def Hub.clear (h : Hub) : Hub := ((h.prune.account.put SCH_STAT_over false).lower 43 16).showWorst

/-- No channel is limiting, and the running prediction crosses no limit. -/
def Hub.uncrossed (h : Hub) : Bool := (List.range 16).all (fun c => !(h.out c).limiting) && h.prune.account.crossings.isEmpty

/-- The timebase has gone past a target (R399). -/
def Hub.passed (h : Hub) (target : Nat) : Bool :=
  decide ((h.clk.tb + 2 ^ 64 - target) % 2 ^ 64 < 2 ^ 63) && h.clk.tb != target

/-- DB drives the channels exactly while a condition of R515 is present. -/
def DriveAgrees (s : State) : Prop := s.hub.dbCond = s.hub.dbt.dbForced

end Sys2Proof.Machine
end

