-- ==== Sys2Proof/Certificates/Slice0/Obligations.lean ====
section
/-!
DEFINITION. The statements about the hub. Each command completes with the effect its rule gives it (`Completes`), under the
condition `Can.<command>` on the state and the operands that its row's words name.
-/

open Sys2Proof Sys2Proof.Machine

/-- When `powerOnReset` has its effect. R44, R50, R63, R79: with VDD above VRST and RSTn high a power-on reset leads to
*Boot* with BAND and TESTEN sampled and DA on BOLT; below VWARN a warning is in force from the trigger. -/
def Sys2Proof.Machine.Can.powerOnReset (band : Fin 3) (vdd : BitVec 16) (s : State) : Bool :=
  decide ((bandOf band).vrst + vddHyst < vdd.toNat) && !s.hub.dev.rstLow

/-- When `powerOnReset` has its effect. R45, R79: below VRST, or with RSTn low, the hub stays in *Off*. -/
def Sys2Proof.Machine.Can.powerOnReset2 (band : Fin 3) (vdd : BitVec 16) (s : State) : Bool :=
  decide (vdd.toNat ≤ (bandOf band).vrst + vddHyst) || s.hub.dev.rstLow

/-- When `vddValid` has its effect. R17, R79, R81: from *Off* the hub leaves for *Boot* once VDD is valid and RSTn is
high. -/
def Sys2Proof.Machine.Can.vddValid (vdd : BitVec 16) (s : State) : Bool :=
  s.hub.dev.phase == .off && decide (s.hub.sup.band.vrst + vddHyst < vdd.toNat) && !s.hub.dev.rstLow

/-- When `vholdCharged` has its effect. R47, R71, R90: within 100 mV of VDD, NVM access is allowed and VHOLD_LOW ends.
-/
def Sys2Proof.Machine.Can.vholdCharged (vhold : BitVec 16) (s : State) : Bool :=
  s.hub.dev.phase != .off && s.hub.sup.pd.isNone && decide (s.hub.sup.vdd ≤ vhold.toNat + 100) && decide (s.hub.sup.band.vhend ≤ vhold.toNat)

/-- When `vholdCapMeasure` has its effect. R90: cap_meas is 50 mA times the charge time over 1 V; below 47 µF VHOLD_LOW
is present with its own detail. -/
def Sys2Proof.Machine.Can.vholdCapMeasure (_us : BitVec 16) (s : State) : Bool :=
  s.hub.dev.phase != .off && !s.hub.proofHides 4 18

/-- When `vholdLow` has its effect. R90: with VHOLD more than 100 mV below VDD, VHOLD_LOW is present. -/
def Sys2Proof.Machine.Can.vholdLow (vhold : BitVec 16) (s : State) : Bool :=
  s.hub.dev.phase != .off && decide (vhold.toNat + 100 < s.hub.sup.vdd) && !s.hub.proofHides 4 16

/-- When `vddWarningBegin` has its effect. R31, R63, R65: below VWARN the warning begins, its lowest VDD is tracked from
here, and no test goes on. -/
def Sys2Proof.Machine.Can.vddWarningBegin (vdd : BitVec 16) (s : State) : Bool :=
  !s.hub.sup.warn && s.hub.dev.phase != .off && s.hub.sup.pd.isNone && decide (vdd.toNat < s.hub.sup.band.vwarn) && (match s.hub.dbt.proof with | some p => !(p.mech == 2 && p.inst == 0) | none => true)

/-- When `vminSample` has its effect. R65, R71: the lowest VDD is kept, and VHOLD is followed. -/
def Sys2Proof.Machine.Can.vminSample (_vdd : BitVec 16) (_vhold : BitVec 16) (s : State) : Bool :=
  s.hub.sup.warn && s.hub.sup.pd.isNone

/-- When `vddWarningEnd` has its effect. R62, R65: above VWARN plus 20 mV the warning ends, and the dip is counted with
its lowest VDD. -/
def Sys2Proof.Machine.Can.vddWarningEnd (vdd : BitVec 16) (s : State) : Bool :=
  s.hub.sup.warn && !s.hub.sup.warnAtTrigger && s.hub.sup.pd.isNone && decide (s.hub.sup.band.vwarn + vddHyst < vdd.toNat)

/-- When `vddWarningEnd` has its effect. R63: the warning that was in force at the trigger ends and counts no dip. -/
def Sys2Proof.Machine.Can.vddWarningEnd2 (vdd : BitVec 16) (s : State) : Bool :=
  s.hub.sup.warn && s.hub.sup.warnAtTrigger && s.hub.sup.pd.isNone && decide (s.hub.sup.band.vwarn + vddHyst < vdd.toNat)

/-- When `testPinChange` has its effect. R58: PIN_TEST is present while the pin differs from the level sampled at reset
release. -/
def Sys2Proof.Machine.Can.testPinChange (field : Bool) (_level : Bool) (s : State) : Bool :=
  (if field then s.hub.sup.fieldUp else s.hub.logicRuns) && !s.hub.proofHides 0 (if field then 17 else 16)

/-- When `retentionFloor` has its effect. R87: both copies of the retained block are lost. -/
def Sys2Proof.Machine.Can.retentionFloor (s : State) : Bool :=
  s.hub.dev.phase == .off

/-- The commands of the supplies, the hold-up capacitor and the VDD warning complete, each under the condition and with
the result that its clause gives, after chapter 03. Clause by clause: `powerOnReset`: R44, R50, R63, R79: with VDD above
VRST and RSTn high a power-on reset leads to *Boot* with BAND and TESTEN sampled and DA on BOLT; below VWARN a warning
is in force from the trigger. `powerOnReset`: R45, R79: below VRST, or with RSTn low, the hub stays in *Off*.
`vddValid`: R17, R79, R81: from *Off* the hub leaves for *Boot* once VDD is valid and RSTn is high. `vholdCharged`: R47,
R71, R90: within 100 mV of VDD, NVM access is allowed and VHOLD_LOW ends. `vholdCapMeasure`: R90: cap_meas is 50 mA
times the charge time over 1 V; below 47 µF VHOLD_LOW is present with its own detail. `vholdLow`: R90: with VHOLD more
than 100 mV below VDD, VHOLD_LOW is present. `vddWarningBegin`: R31, R63, R65: below VWARN the warning begins, its
lowest VDD is tracked from here, and no test goes on. `vminSample`: R65, R71: the lowest VDD is kept, and VHOLD is
followed. `vddWarningEnd`: R62, R65: above VWARN plus 20 mV the warning ends, and the dip is counted with its lowest
VDD. `vddWarningEnd`: R63: the warning that was in force at the trigger ends and counts no dip. `testPinChange`: R58:
PIN_TEST is present while the pin differs from the level sampled at reset release. `retentionFloor`: R87: both copies of
the retained block are lost. -/
def Obligations.SupplyCommands : Prop :=
  (∀ (s : State) (band : Fin 3) (vdd : BitVec 16), Can.powerOnReset band vdd s = true → Completes (.powerOnReset band vdd) s (fun h =>
      h.dev.phase = .boot ∧ h.dev.halt = none ∧ h.sup.band = bandOf band ∧ h.sup.vdd = vdd.toNat ∧ h.sup.warn = decide (vdd.toNat < (bandOf band).vwarn) ∧ h.mem = [] ∧ h.dev.testHeld = s.hub.dev.testen ∧ h.hinge.daWant = .bolt)) ∧
  (∀ (s : State) (band : Fin 3) (vdd : BitVec 16), Can.powerOnReset2 band vdd s = true → Completes (.powerOnReset band vdd) s (fun h =>
      h.dev.phase = .off ∧ h.sup.band = bandOf band ∧ h.mem = [] ∧ h.ret = { valid := false })) ∧
  (∀ (s : State) (vdd : BitVec 16), Can.vddValid vdd s = true → Completes (.vddValid vdd) s (fun h =>
      h.dev.phase = .boot ∧ h.sup.vdd = vdd.toNat ∧ h.sup.warn = decide (vdd.toNat < s.hub.sup.band.vwarn) ∧ h.dev.testHeld = s.hub.dev.testen ∧ h.hinge.daWant = .bolt)) ∧
  (∀ (s : State) (vhold : BitVec 16), Can.vholdCharged vhold s = true → Completes (.vholdCharged vhold) s (fun h =>
      h.sup.nvmAllowed = true ∧ h.sup.vholdOk = true ∧ h.sup.vhold = vhold.toNat ∧ caused h 4 16 = false ∧ (vhold.toNat < 5120 → h.rd PWR_HOLD_STAT_vhold = vhold.toNat / 10))) ∧
  (∀ (s : State) (us : BitVec 16), Can.vholdCapMeasure us s = true → Completes (.vholdCapMeasure us) s (fun h =>
      h.rd PWR_HOLD_STAT_cap_meas = min 1023 (us.toNat / 20) ∧ caused h 4 18 = decide (us.toNat / 20 < 47))) ∧
  (∀ (s : State) (vhold : BitVec 16), Can.vholdLow vhold s = true → Completes (.vholdLow vhold) s (fun h =>
      h.sup.vholdOk = false ∧ h.sup.vhold = vhold.toNat ∧ caused h 4 16 = true)) ∧
  (∀ (s : State) (vdd : BitVec 16), Can.vddWarningBegin vdd s = true → Completes (.vddWarningBegin vdd) s (fun h =>
      h.sup.warn = true ∧ h.sup.warnAtTrigger = false ∧ h.sup.warnMin = vdd.toNat / 10 ∧ h.sup.vdd = vdd.toNat ∧ h.dev.test = false)) ∧
  (∀ (s : State) (vdd : BitVec 16) (vhold : BitVec 16), Can.vminSample vdd vhold s = true → Completes (.vminSample ⟨vdd, vhold⟩) s (fun h =>
      h.sup.warnMin = min s.hub.sup.warnMin (vdd.toNat / 10) ∧ h.sup.vdd = vdd.toNat ∧ h.sup.vhold = vhold.toNat ∧ h.sup.vholdOk = decide (vdd.toNat ≤ vhold.toNat + 100) ∧ h.sup.warn = true ∧ h.mem = s.hub.mem)) ∧
  (∀ (s : State) (vdd : BitVec 16), Can.vddWarningEnd vdd s = true → Completes (.vddWarningEnd vdd) s (fun h =>
      h.sup.warn = false ∧ h.ret.dipCount = satInc 65535 s.hub.ret.dipCount ∧ h.ret.vmin = s.hub.sup.warnMin % 4096 ∧ h.ret.life.dips = satInc (2 ^ 32 - 1) s.hub.ret.life.dips)) ∧
  (∀ (s : State) (vdd : BitVec 16), Can.vddWarningEnd2 vdd s = true → Completes (.vddWarningEnd vdd) s (fun h =>
      h.sup.warn = false ∧ h.ret.dipCount = s.hub.ret.dipCount ∧ h.ret.vmin = s.hub.ret.vmin)) ∧
  (∀ (s : State) (field : Bool) (level : Bool), Can.testPinChange field level s = true → Completes (.testPinChange field level) s (fun h =>
      caused h 0 (if field then 17 else 16) = (level != (if field then s.hub.dev.ftestHeld else s.hub.dev.testHeld)))) ∧
  (∀ (s : State), Can.retentionFloor s = true → Completes (.retentionFloor) s (fun h =>
      h.ret = { valid := false } ∧ h.fol.retOld = { valid := false } ∧ h.mem = s.hub.mem))

/-- When `orderlyPowerDown` has its effect. R80 step 1, R97, R641: below VRST DA goes to BOLT, and no proof, test, clear
or watchdog goes on. -/
def Sys2Proof.Machine.Can.orderlyPowerDown (vdd : BitVec 16) (s : State) : Bool :=
  s.hub.dev.phase != .off && s.hub.sup.pd.isNone && decide (vdd.toNat < s.hub.sup.band.vrst)

/-- When `powerDownStep` has its effect. R80, R81, R84: with no NVM access the pages of steps 2 and 3 are skipped and
the sequence ends in *Off*, which a valid VDD leaves for *Boot*. -/
def Sys2Proof.Machine.Can.powerDownStep (_vhold : BitVec 16) (s : State) : Bool :=
  (match s.hub.sup.pd with | some p => p.step == 1 && !p.vddFailed && p.busy.isNone | none => false) && !s.hub.sup.nvmAllowed

/-- When `powerDownStep` has its effect. R80, R88: with nothing to flush, step 3 writes a retained-mirror entry marked
clean. -/
def Sys2Proof.Machine.Can.powerDownStep2 (_vhold : BitVec 16) (s : State) : Bool :=
  (match s.hub.sup.pd with | some p => p.step == 1 && !p.vddFailed && p.busy.isNone | none => false) && s.hub.sup.nvmAllowed && (!s.hub.pdJournals || s.hub.rd PWR_HOLD_CFG_flush_pages == 0)

/-- When `powerDownStep` has its effect. R80, R621: step 2 writes the first staging page. -/
def Sys2Proof.Machine.Can.powerDownStep3 (_vhold : BitVec 16) (s : State) : Bool :=
  (match s.hub.sup.pd with | some p => p.step == 1 && !p.vddFailed && p.busy.isNone | none => false) && s.hub.sup.nvmAllowed && s.hub.pdJournals && s.hub.rd PWR_HOLD_CFG_flush_pages != 0

/-- When `vddFailed` has its effect. R82, R84: the hold-up set goes on alone with the staging buffer; the banks are
lost. -/
def Sys2Proof.Machine.Can.vddFailed (_vhold : BitVec 16) (s : State) : Bool :=
  (match s.hub.sup.pd with | some p => !p.vddFailed && p.busy.isSome | none => false)

/-- When `vddFailed` has its effect. R82, R84: with no page under way and no NVM access the sequence ends in *Off*. -/
def Sys2Proof.Machine.Can.vddFailed2 (_vhold : BitVec 16) (s : State) : Bool :=
  (match s.hub.sup.pd with | some p => !p.vddFailed && p.busy.isNone | none => false) && !s.hub.sup.nvmAllowed

/-- When `vfLostPd` has its effect. R94, R673: the loss of VF during the power-down is kept, and VF_LOST_PD takes a
pending slot. -/
def Sys2Proof.Machine.Can.vfLostPd (s : State) : Bool :=
  (match s.hub.sup.pd with | some p => !p.vddFailed && !p.vfLost | none => false) && (!s.hub.hinge.upL || s.hub.hinge.daDecides == .silence)

/-- When `holdUpEndVoltage` has its effect. R72, R81, R95: no further NVM access starts, and the sequence ends. -/
def Sys2Proof.Machine.Can.holdUpEndVoltage (s : State) : Bool :=
  s.hub.sup.pd.isSome

/-- The commands of the orderly power-down complete, each under the condition and with the result that its clause gives,
after R71 to R83. Clause by clause: `orderlyPowerDown`: R80 step 1, R97, R641: below VRST DA goes to BOLT, and no proof,
test, clear or watchdog goes on. `powerDownStep`: R80, R81, R84: with no NVM access the pages of steps 2 and 3 are
skipped and the sequence ends in *Off*, which a valid VDD leaves for *Boot*. `powerDownStep`: R80, R88: with nothing to
flush, step 3 writes a retained-mirror entry marked clean. `powerDownStep`: R80, R621: step 2 writes the first staging
page. `vddFailed`: R82, R84: the hold-up set goes on alone with the staging buffer; the banks are lost. `vddFailed`:
R82, R84: with no page under way and no NVM access the sequence ends in *Off*. `vfLostPd`: R94, R673: the loss of VF
during the power-down is kept, and VF_LOST_PD takes a pending slot. `holdUpEndVoltage`: R72, R81, R95: no further NVM
access starts, and the sequence ends. -/
def Obligations.PowerDownCommands : Prop :=
  (∀ (s : State) (vdd : BitVec 16), Can.orderlyPowerDown vdd s = true → Completes (.orderlyPowerDown vdd) s (fun h =>
      (h.sup.pd.map (fun p => (p.step, p.vddFailed, p.written, p.skipped))) = some (1, false, 0, 0) ∧ h.sup.vdd = vdd.toNat ∧ h.hinge.daWant = .bolt ∧ h.dbt.proof = none ∧ h.dev.test = false ∧ h.recd.clearRun = none ∧ (∀ k : Fin 9, (h.wd k).state = 0))) ∧
  (∀ (s : State) (vhold : BitVec 16), Can.powerDownStep vhold s = true → Completes (.powerDownStep vhold) s (fun h =>
      h.dev.phase = (if s.hub.vddGood then .boot else .off) ∧ h.sup.pd = none ∧ h.sup.nvmAllowed = false ∧ h.hinge.daWant = (if s.hub.vddGood then .bolt else .silence))) ∧
  (∀ (s : State) (vhold : BitVec 16), Can.powerDownStep2 vhold s = true → Completes (.powerDownStep vhold) s (fun h =>
      (h.sup.pd.map (fun p => (p.step, p.busy))) = some (3, some .mirror) ∧ (h.nvmOp.map (fun o => (o.kind, o.addr, o.data))) = some (1, entryAddr s.hub.ret.mirrorNext, s.hub.ret.bytes true))) ∧
  (∀ (s : State) (vhold : BitVec 16), Can.powerDownStep3 vhold s = true → Completes (.powerDownStep vhold) s (fun h =>
      (h.sup.pd.map (fun p => (p.step, p.busy))) = some (2, some .flush) ∧ (h.nvmOp.map (fun o => (o.kind, o.addr, o.data))) = some (1, 0x40000 + 256 * s.hub.rd REC_JSTAT_page, padTo 256 0xFF ((s.hub.recd.staging.headD {}).recs.flatMap wordBytes)))) ∧
  (∀ (s : State) (vhold : BitVec 16), Can.vddFailed vhold s = true → Completes (.vddFailed vhold) s (fun h =>
      (h.sup.pd.map (fun p => p.vddFailed)) = some true ∧ h.mem = [] ∧ h.hinge.upL = false ∧ h.sup.vhold = vhold.toNat ∧ h.sup.vdd = 0 ∧ h.recd.fifo = [] ∧ h.recd.staging = s.hub.recd.staging)) ∧
  (∀ (s : State) (vhold : BitVec 16), Can.vddFailed2 vhold s = true → Completes (.vddFailed vhold) s (fun h =>
      h.dev.phase = .off ∧ h.sup.pd = none ∧ h.mem = [] ∧ h.sup.vdd = 0)) ∧
  (∀ (s : State), Can.vfLostPd s = true → Completes (.vfLostPd) s (fun h =>
      (h.sup.pd.map (fun p => p.vfLost)) = some true ∧ h.mem = s.hub.mem ∧ (s.hub.ret.slots.toList.any Option.isNone = true → (pendList h.ret.slots).any (fun x => x.2.typ == 0x13) = true))) ∧
  (∀ (s : State), Can.holdUpEndVoltage s = true → Completes (.holdUpEndVoltage) s (fun h =>
      h.dev.phase = (if s.hub.vddGood then .boot else .off) ∧ h.sup.nvmAllowed = false ∧ h.sup.pd = none ∧ h.nvmOp = none))

/-- When `fieldResetRelease` has its effect. R50, R68, R79: the field die starts and FTEST is sampled. -/
def Sys2Proof.Machine.Can.fieldResetRelease (s : State) : Bool :=
  !s.hub.sup.fieldUp

/-- When `vfValid` has its effect. R67: VF is valid and the under-voltage has ended. -/
def Sys2Proof.Machine.Can.vfValid (s : State) : Bool :=
  s.hub.sup.fieldUp

/-- When `vfUnderVoltage` has its effect. R66, R67, R69: VF is no longer valid, VF_UV is live on the field die, and no
channel switches. -/
def Sys2Proof.Machine.Can.vfUnderVoltage (s : State) : Bool :=
  s.hub.sup.fieldUp && s.hub.sup.vfSeenValid && !s.hub.sup.vfUv && !s.hub.fHidden 17 16

/-- When `vfOverVoltage` has its effect. R66, R69: VF_OV is live on the field die, and no channel switches. -/
def Sys2Proof.Machine.Can.vfOverVoltage (s : State) : Bool :=
  s.hub.sup.fieldUp

/-- When `vregFail` has its effect. R70: every channel is off. -/
def Sys2Proof.Machine.Can.vregFail (_vregl : Bool) (s : State) : Bool :=
  s.hub.sup.fieldUp

/-- When `domainWakeRequest` has its effect. R76, R493: the wake joins the scheduler's queue as the hub's own candidate.
-/
def Sys2Proof.Machine.Can.domainWakeRequest (d : Fin 12) (s : State) : Bool :=
  s.hub.dev.phase == .up && !s.hub.blankOff d && !bitOf s.hub.sup.on d && !s.hub.sch.queue.any (fun x => x.kind == .domainWake && x.ref == d.val)

/-- When `domainWakeDone` has its effect. R76, R78: the domain is on; a memory domain is being cleared, or is cleared
once the other one has been. -/
def Sys2Proof.Machine.Can.domainWakeDone (d : Fin 12) (_good : Bool) (s : State) : Bool :=
  bitOf s.hub.sup.waking d

/-- When `bankClearDone` has its effect. R78: every byte of the domain's banks reads 0, and a domain that waits is
cleared next. -/
def Sys2Proof.Machine.Can.bankClearDone (m : Fin 2) (s : State) : Bool :=
  bitOf s.hub.sup.clearing m

/-- The commands of the field supply and of the power domains complete, each under the condition and with the result
that its clause gives, after R66 to R70 and R75 to R78. Clause by clause: `fieldPowerOnReset`: R68: every channel is off
and high-impedance, and the field die keeps nothing. `fieldResetRelease`: R50, R68, R79: the field die starts and FTEST
is sampled. `vfValid`: R67: VF is valid and the under-voltage has ended. `vfUnderVoltage`: R66, R67, R69: VF is no
longer valid, VF_UV is live on the field die, and no channel switches. `vfOverVoltage`: R66, R69: VF_OV is live on the
field die, and no channel switches. `vregFail`: R70: every channel is off. `domainWakeRequest`: R76, R493: the wake
joins the scheduler's queue as the hub's own candidate. `domainWakeDone`: R76, R78: the domain is on; a memory domain is
being cleared, or is cleared once the other one has been. `bankClearDone`: R78: every byte of the domain's banks reads
0, and a domain that waits is cleared next. -/
def Obligations.FieldSupplyCommands : Prop :=
  (∀ (s : State), Completes (.fieldPowerOnReset) s (fun h =>
      h.sup.fieldUp = false ∧ h.sup.vfValid = false ∧ h.sup.vregFail = false ∧ h.outs = Vector.replicate 16 {} ∧ h.hinge.configured = false ∧ h.hinge.latch = false)) ∧
  (∀ (s : State), Can.fieldResetRelease s = true → Completes (.fieldResetRelease) s (fun h =>
      h.sup.fieldUp = true ∧ h.sup.vreg5Ok = true ∧ h.sup.vreglOk = true ∧ bitOf h.sup.on 8 = true ∧ h.dev.ftestHeld = s.hub.dev.ftest)) ∧
  (∀ (s : State), Can.vfValid s = true → Completes (.vfValid) s (fun h =>
      h.sup.vfValid = true ∧ h.sup.vfUv = false ∧ bitOf (vget h.flt.fLive 17 0) 16 = false)) ∧
  (∀ (s : State), Can.vfUnderVoltage s = true → Completes (.vfUnderVoltage) s (fun h =>
      h.sup.vfValid = false ∧ h.sup.vfUv = true ∧ bitOf (vget h.flt.fLive 17 0) 16 = true ∧ h.outs = s.hub.outs)) ∧
  (∀ (s : State), Can.vfOverVoltage s = true → Completes (.vfOverVoltage) s (fun h =>
      h.sup.vfOv = true ∧ h.outs = s.hub.outs ∧ (s.hub.fHidden 18 16 = false → bitOf (vget h.flt.fLive 18 0) 16 = true))) ∧
  (∀ (s : State) (vregl : Bool), Can.vregFail vregl s = true → Completes (.vregFail vregl) s (fun h =>
      h.sup.vregFail = true ∧ (∀ c : Fin 16, (h.out c).sw = false))) ∧
  (∀ (s : State) (d : Fin 12), Can.domainWakeRequest d s = true → Completes (.domainWakeRequest d) s (fun h =>
      h.sup.wakeReq = setBit s.hub.sup.wakeReq d ∧ h.sch.queue.map (fun x => (x.kind, x.ref, x.ward)) = s.hub.sch.queue.map (fun x => (x.kind, x.ref, x.ward)) ++ [(.domainWake, d.val, 8)] ∧ (s.hub.sch.queue.length < 255 → h.rd SCH_STAT_queued = s.hub.sch.queue.length + 1))) ∧
  (∀ (s : State) (d : Fin 12) (good : Bool), Can.domainWakeDone d good s = true → Completes (.domainWakeDone d good) s (fun h =>
      h.sup.on = setBit s.hub.sup.on d ∧ h.sup.waking = clrBit s.hub.sup.waking d ∧ (d.val = 4 ∨ d.val = 5 → (bitOf h.sup.clearing (d.val - 4) || bitOf h.sup.clearWait (d.val - 4)) = true))) ∧
  (∀ (s : State) (m : Fin 2), Can.bankClearDone m s = true → Completes (.bankClearDone m) s (fun h =>
      h.sup.clearing = s.hub.sup.clearWait ∧ h.sup.clearWait = 0 ∧ (∀ a : Nat, bankAddr (24 * m) 0 ≤ a → a < bankAddr (24 * m + 24) 0 → cellGet 0 h.mem a = 0)))

/-- When `pllLock` has its effect. R101: the PLL has locked, and outside holdover MCLK runs from it. -/
def Sys2Proof.Machine.Can.pllLock (s : State) : Bool :=
  s.hub.flag CLK_CFG_src && (s.hub.dev.phase == .arming || s.hub.dev.phase == .up) && s.hub.dev.halt.isNone

/-- When `pllLockTimeout` has its effect. R101, R103: MCLK stays on HOSC in holdover, with REFCLK_LOST counted and
raised. -/
def Sys2Proof.Machine.Can.pllLockTimeout (s : State) : Bool :=
  s.hub.flag CLK_CFG_src && s.hub.dev.phase == .arming && !s.hub.flag CLK_STAT_src_now && !s.hub.flag CLK_STAT_holdover && s.hub.flag CLK_STAT_hosc_ok && !s.hub.proofHides 6 16

/-- When `refclkLost` has its effect. R103: holdover on HOSC, with REFCLK_LOST counted and raised. -/
def Sys2Proof.Machine.Can.refclkLost (s : State) : Bool :=
  s.hub.flag CLK_STAT_src_now && !s.hub.flag CLK_STAT_holdover && s.hub.flag CLK_STAT_hosc_ok && !s.hub.proofHides 6 16

/-- When `refclkReturn` has its effect. R104: by auto_return, or by a return_ref that waits, MCLK returns to REFCLK and
REFCLK_LOST ends. -/
def Sys2Proof.Machine.Can.refclkReturn (s : State) : Bool :=
  s.hub.flag CLK_CFG_src && s.hub.flag CLK_STAT_holdover && (s.hub.flag CLK_CFG_auto_return || (s.hub.flag CLK_STAT_ret_pending && s.hub.dev.phase == .up))

/-- When `refclkReturn` has its effect. R104: otherwise REFCLK is fit, and MCLK stays where it is. -/
def Sys2Proof.Machine.Can.refclkReturn2 (s : State) : Bool :=
  s.hub.flag CLK_CFG_src && !(s.hub.flag CLK_STAT_holdover && (s.hub.flag CLK_CFG_auto_return || (s.hub.flag CLK_STAT_ret_pending && s.hub.dev.phase == .up)))

/-- When `returnRef` has its effect. R104, R124: MCLK returns at once where REFCLK is fit, and otherwise the request
stands until REFCLK is fit and the hub runs. -/
def Sys2Proof.Machine.Can.returnRef (w : Fin 8) (v : Word) (s : State) : Bool :=
  s.hub.clkWrites w && w.val == 0 && v.getLsbD 0 && (s.hub.flag CLK_STAT_holdover || s.hub.dev.phase != .up)

/-- When `mclkWindowEnd` has its effect. R105, R106: a count within 35 of 1,000 passes and is shown; from the PLL HOSC
is judged alike. -/
def Sys2Proof.Machine.Can.mclkWindowEnd (count : BitVec 16) (_hosc : BitVec 16) (s : State) : Bool :=
  s.hub.dev.phase != .off && !s.hub.dev.rstLow && decide (965 ≤ count.toNat) && decide (count.toNat ≤ 1035)

/-- When `mclkWindowEnd` has its effect. R105: at a first failing window MCLK_FAIL is raised, and the root goes from the
PLL to HOSC. -/
def Sys2Proof.Machine.Can.mclkWindowEnd2 (count : BitVec 16) (hosc : BitVec 16) (s : State) : Bool :=
  s.hub.dev.phase != .off && !s.hub.dev.rstLow && (decide (count.toNat < 965) || decide (1035 < count.toNat)) && !s.hub.proofHides 8 16 && !s.hub.clk.badWindow && s.hub.flag CLK_STAT_hosc_ok && decide (965 ≤ hosc.toNat) && decide (hosc.toNat ≤ 1035)

/-- When `mclkWindowEnd` has its effect. R105: a second failing window leads to *Halt* for a clock cause. -/
def Sys2Proof.Machine.Can.mclkWindowEnd3 (count : BitVec 16) (_hosc : BitVec 16) (s : State) : Bool :=
  s.hub.dev.phase != .off && !s.hub.dev.rstLow && (decide (count.toNat < 965) || decide (1035 < count.toNat)) && !s.hub.proofHides 8 16 && s.hub.clk.badWindow && s.hub.dev.halt.isNone

/-- When `clockHaltExit` has its effect. R17: from *Halt* for a clock cause the hub boots. -/
def Sys2Proof.Machine.Can.clockHaltExit (s : State) : Bool :=
  s.hub.dev.halt == some .clock

/-- When `fclkWindowEnd` has its effect. R107: a count within 14 of 400 passes, and is shown while the link is up. -/
def Sys2Proof.Machine.Can.fclkWindowEnd (count : BitVec 16) (s : State) : Bool :=
  s.hub.sup.fieldUp && decide (386 ≤ count.toNat) && decide (count.toNat ≤ 414)

/-- When `fclkWindowEnd` has its effect. R107, R515: a failing window is live on the field die, and is a condition of
DB. -/
def Sys2Proof.Machine.Can.fclkWindowEnd2 (count : BitVec 16) (s : State) : Bool :=
  s.hub.sup.fieldUp && (decide (count.toNat < 386) || decide (414 < count.toNat)) && !s.hub.fHidden 21 16

/-- The commands of the clocks complete, each under the condition and with the result that its clause gives, after R101
to R107. Clause by clause: `pllLock`: R101: the PLL has locked, and outside holdover MCLK runs from it.
`pllLockTimeout`: R101, R103: MCLK stays on HOSC in holdover, with REFCLK_LOST counted and raised. `refclkLost`: R103:
holdover on HOSC, with REFCLK_LOST counted and raised. `refclkReturn`: R104: by auto_return, or by a return_ref that
waits, MCLK returns to REFCLK and REFCLK_LOST ends. `refclkReturn`: R104: otherwise REFCLK is fit, and MCLK stays where
it is. `returnRef`: R104, R124: MCLK returns at once where REFCLK is fit, and otherwise the request stands until REFCLK
is fit and the hub runs. `mclkWindowEnd`: R105, R106: a count within 35 of 1,000 passes and is shown; from the PLL HOSC
is judged alike. `mclkWindowEnd`: R105: at a first failing window MCLK_FAIL is raised, and the root goes from the PLL to
HOSC. `mclkWindowEnd`: R105: a second failing window leads to *Halt* for a clock cause. `clockHaltExit`: R17: from
*Halt* for a clock cause the hub boots. `fclkWindowEnd`: R107: a count within 14 of 400 passes, and is shown while the
link is up. `fclkWindowEnd`: R107, R515: a failing window is live on the field die, and is a condition of DB. -/
def Obligations.ClockCommands : Prop :=
  (∀ (s : State), Can.pllLock s = true → Completes (.pllLock) s (fun h =>
      h.flag CLK_STAT_pll_lock = true ∧ h.flag CLK_STAT_src_now = (s.hub.flag CLK_STAT_src_now || !s.hub.flag CLK_STAT_holdover) ∧ h.flag CLK_STAT_holdover = s.hub.flag CLK_STAT_holdover ∧ h.mem = s.hub.mem)) ∧
  (∀ (s : State), Can.pllLockTimeout s = true → Completes (.pllLockTimeout) s (fun h =>
      h.flag CLK_STAT_holdover = true ∧ h.flag CLK_STAT_src_now = false ∧ h.rd CLK_REF_LOSS_count = satInc (2 ^ CLK_REF_LOSS_count.width - 1) (s.hub.rd CLK_REF_LOSS_count) ∧ caused h 6 16 = true)) ∧
  (∀ (s : State), Can.refclkLost s = true → Completes (.refclkLost) s (fun h =>
      h.flag CLK_STAT_holdover = true ∧ h.flag CLK_STAT_ref_fit = false ∧ h.flag CLK_STAT_pll_lock = false ∧ caused h 6 16 = true ∧ h.rd CLK_REF_LOSS_count = satInc (2 ^ CLK_REF_LOSS_count.width - 1) (s.hub.rd CLK_REF_LOSS_count))) ∧
  (∀ (s : State), Can.refclkReturn s = true → Completes (.refclkReturn) s (fun h =>
      h.flag CLK_STAT_holdover = false ∧ h.flag CLK_STAT_src_now = true ∧ h.flag CLK_STAT_pll_lock = true ∧ h.flag CLK_STAT_ref_fit = true ∧ h.flag CLK_STAT_ret_pending = false ∧ caused h 6 16 = false)) ∧
  (∀ (s : State), Can.refclkReturn2 s = true → Completes (.refclkReturn) s (fun h =>
      h.flag CLK_STAT_ref_fit = true ∧ h.flag CLK_STAT_holdover = s.hub.flag CLK_STAT_holdover ∧ h.flag CLK_STAT_src_now = s.hub.flag CLK_STAT_src_now)) ∧
  (∀ (s : State) (w : Fin 8) (v : Word), Can.returnRef w v s = true → Completes (.returnRef w v) s (fun h =>
      if (s.hub.flag CLK_STAT_holdover && s.hub.flag CLK_STAT_ref_fit && (s.hub.flag CLK_CFG_auto_return || s.hub.dev.phase == .up)) = true then h.flag CLK_STAT_holdover = false ∧ h.flag CLK_STAT_src_now = true ∧ h.flag CLK_STAT_ret_pending = false else h.flag CLK_STAT_ret_pending = true ∧ h.flag CLK_CTRL_return_ref = true ∧ h.flag CLK_STAT_holdover = s.hub.flag CLK_STAT_holdover)) ∧
  (∀ (s : State) (count : BitVec 16) (hosc : BitVec 16), Can.mclkWindowEnd count hosc s = true → Completes (.mclkWindowEnd count hosc) s (fun h =>
      toSigned 16 (h.rd CLK_MEAS_mclk_err) = (count.toNat : Int) - 1000 ∧ h.clk.badWindow = false ∧ caused h 8 16 = false ∧ (s.hub.flag CLK_STAT_src_now = true → h.flag CLK_STAT_hosc_ok = (s.hub.flag CLK_STAT_hosc_ok && decide (965 ≤ hosc.toNat) && decide (hosc.toNat ≤ 1035))))) ∧
  (∀ (s : State) (count : BitVec 16) (hosc : BitVec 16), Can.mclkWindowEnd2 count hosc s = true → Completes (.mclkWindowEnd count hosc) s (fun h =>
      h.clk.badWindow = true ∧ caused h 8 16 = true ∧ h.flag CLK_STAT_src_now = false ∧ h.dev.halt = s.hub.dev.halt)) ∧
  (∀ (s : State) (count : BitVec 16) (hosc : BitVec 16), Can.mclkWindowEnd3 count hosc s = true → Completes (.mclkWindowEnd count hosc) s (fun h =>
      h.dev.halt = some .clock ∧ caused h 8 16 = true)) ∧
  (∀ (s : State), Can.clockHaltExit s = true → Completes (.clockHaltExit) s (fun h =>
      h.dev.halt = none ∧ h.dev.phase = .boot ∧ h.clk.tb = 0)) ∧
  (∀ (s : State) (count : BitVec 16), Can.fclkWindowEnd count s = true → Completes (.fclkWindowEnd count) s (fun h =>
      (s.hub.hinge.upL = true → toSigned 16 (h.rd CLK_MEAS_fclk_err) = (count.toNat : Int) - 400) ∧ bitOf (vget h.flt.fLive 21 0) 16 = false)) ∧
  (∀ (s : State) (count : BitVec 16), Can.fclkWindowEnd2 count s = true → Completes (.fclkWindowEnd count) s (fun h =>
      (s.hub.hinge.upL = true → count.toNat < 33168 → toSigned 16 (h.rd CLK_MEAS_fclk_err) = (count.toNat : Int) - 400) ∧ bitOf (vget h.flt.fLive 21 0) 16 = true ∧ h.dbCond = true))

/-- When `timebaseWrap` has its effect. R111: with the low 48 bits at 0 after a wrap every ward's wrapped flag is set.
-/
def Sys2Proof.Machine.Can.timebaseWrap (s : State) : Bool :=
  s.hub.clk.tb % 2 ^ 48 == 0

/-- When `clkTbLoRead` has its effect. R110: the upper bits are latched for the ward. -/
def Sys2Proof.Machine.Can.clkTbLoRead (w : Fin 8) (s : State) : Bool :=
  s.hub.defined w

/-- When `timeS` has its effect. R114, R115: beyond 100 ns the follower steps to the message's value and loses its lock;
within, the difference is slewed out, and 16 good messages in a row lock it. -/
def Sys2Proof.Machine.Can.timeS (lane : Fin 2) (_high : Byte) (_low : Word) (s : State) : Bool :=
  s.hub.sup.fieldUp && (s.hub.lane lane).inService

/-- When `timeL` has its effect. R114, R115: bits [63:40] of the follower, at the message's send instant, are those of
the message; a step ends the lock. -/
def Sys2Proof.Machine.Can.timeL (lane : Fin 2) (_high : BitVec 24) (s : State) : Bool :=
  s.hub.sup.fieldUp && (s.hub.lane lane).inService

/-- When `followerTimeout` has its effect. R115: 50 µs after the last time message the follower loses its lock, and its
position is live. -/
def Sys2Proof.Machine.Can.followerTimeout (s : State) : Bool :=
  decide (s.hub.clk.heardAt + 5000 ≤ s.hub.clk.now)

/-- The commands of the timebase and of its follower complete, each under the condition and with the result that its
clause gives, after R109 to R116. Clause by clause: `timebaseWrap`: R111: with the low 48 bits at 0 after a wrap every
ward's wrapped flag is set. `clkTbLoRead`: R110: the upper bits are latched for the ward. `timeS`: R114, R115: beyond
100 ns the follower steps to the message's value and loses its lock; within, the difference is slewed out, and 16 good
messages in a row lock it. `timeL`: R114, R115: bits [63:40] of the follower, at the message's send instant, are those
of the message; a step ends the lock. `followerTimeout`: R115: 50 µs after the last time message the follower loses its
lock, and its position is live. -/
def Obligations.TimebaseCommands : Prop :=
  (∀ (s : State), Can.timebaseWrap s = true → Completes (.timebaseWrap) s (fun h =>
      (∀ w : Fin 8, h.flag CLK_TB_EPOCH_wrapped 0 w = true) ∧ h.clk = s.hub.clk)) ∧
  (∀ (s : State) (w : Fin 8), Can.clkTbLoRead w s = true → Completes (.clkTbLoRead w) s (fun h =>
      h.rd CLK_TB_HI_tb 0 w = s.hub.clk.tb / 2 ^ 32 % 2 ^ 32 ∧ h.clk = s.hub.clk)) ∧
  (∀ (s : State) (lane : Fin 2) (high : Byte) (low : Word), Can.timeS lane high low s = true → Completes (.timeS lane high low) s (fun h =>
      (80 < (s.hub.followDiff lane (high ++ low).toNat).natAbs → h.clk.locked = false ∧ h.clk.goodRun = 0 ∧ h.fieldFine = (((s.hub.fieldFine : Int) - s.hub.followDiff lane (high ++ low).toNat) % ((2 ^ 67 : Nat) : Int)).toNat) ∧ ((s.hub.followDiff lane (high ++ low).toNat).natAbs ≤ 80 → h.fieldFine = s.hub.fieldFine % 2 ^ 67 ∧ h.clk.slew = - s.hub.followDiff lane (high ++ low).toNat) ∧ ((s.hub.followDiff lane (high ++ low).toNat).natAbs ≤ 16 → s.hub.clk.long = true → h.clk.goodRun = s.hub.clk.goodRun + 1 ∧ h.clk.locked = (s.hub.clk.locked || decide (16 ≤ s.hub.clk.goodRun + 1))) ∧ (16 < (s.hub.followDiff lane (high ++ low).toNat).natAbs → (s.hub.followDiff lane (high ++ low).toNat).natAbs ≤ 80 → s.hub.clk.long = true → h.clk.goodRun = 0 ∧ h.clk.locked = s.hub.clk.locked))) ∧
  (∀ (s : State) (lane : Fin 2) (high : BitVec 24), Can.timeL lane high s = true → Completes (.timeL lane high) s (fun h =>
      h.clk.long = true ∧ (h.fieldFine + 2 ^ 67 - s.hub.lfDelay lane) % 2 ^ 67 / 2 ^ 43 = high.toNat ∧ ((s.hub.fieldFine + 2 ^ 67 - s.hub.lfDelay lane) % 2 ^ 67 / 2 ^ 43 ≠ high.toNat → h.clk.locked = false))) ∧
  (∀ (s : State), Can.followerTimeout s = true → Completes (.followerTimeout) s (fun h =>
      h.clk.locked = false ∧ h.clk.goodRun = 0 ∧ (s.hub.clk.locked = true → h.flag CLK_STAT_follow_lock = false ∧ (s.hub.fHidden 23 16 = false → bitOf (vget h.flt.fLive 23 0) 16 = true))))

/-- When `hingeFrameReceive` has its effect. R130: a frame with an error is counted on its lane and discarded. -/
def Sys2Proof.Machine.Can.hingeFrameReceive (lane : Fin 4) (frame : BitVec 64) (codeOk : Bool) (controlOk : Bool) (_stamp : Word) (_late : Bool) (s : State) : Bool :=
  ((s.hub.lane lane).inService || (s.hub.lane lane).waiting) && !hingeGood lane frame.toNat (codeOk && controlOk) && s.hub.logicRuns && decide (windowErrors (((s.hub.lane lane).take false 0 0).window) < 8)

/-- When `hingeFrameReceive` has its effect. R130 to R132, R144: a good frame is passed on by type: OUT_CMD with a newer
generation is applied, and BOLT_REL clears the latch after 10 µs of CLEAR. -/
def Sys2Proof.Machine.Can.hingeFrameReceive2 (lane : Fin 4) (frame : BitVec 64) (codeOk : Bool) (controlOk : Bool) (_stamp : Word) (_late : Bool) (s : State) : Bool :=
  (s.hub.lane lane).inService && hingeGood lane frame.toNat (codeOk && controlOk) && lane.val < 2 && s.hub.sup.fieldUp && hingeMissing (s.hub.lane lane) (bitsOf frame.toNat 12 4) == 0 && decide (windowErrors (((s.hub.lane lane).take true 0 0).window) < 8) && !((s.hub.landOn lane (bitsOf frame.toNat 56 8) (bitsOf frame.toNat 16 40)).hinge.dups.any (copyOf lane (bitsOf frame.toNat 56 8) (bitsOf frame.toNat 16 40)))

/-- When `hingeFrameReceive` has its effect. R130 to R132, R150, R545: a good frame is passed on by type: OUT_STAT gives
generation and states, FAULT and FSUM reach the fault collection, MARGIN the margins. -/
def Sys2Proof.Machine.Can.hingeFrameReceive3 (lane : Fin 4) (frame : BitVec 64) (codeOk : Bool) (controlOk : Bool) (_stamp : Word) (_late : Bool) (s : State) : Bool :=
  (s.hub.lane lane).inService && hingeGood lane frame.toNat (codeOk && controlOk) && 2 ≤ lane.val && s.hub.logicRuns && s.hub.hinge.upL && hingeMissing (s.hub.lane lane) (bitsOf frame.toNat 12 4) == 0 && decide (windowErrors (((s.hub.lane lane).take true 0 0).window) < 8) && !((s.hub.landOn lane (bitsOf frame.toNat 56 8) (bitsOf frame.toNat 16 40)).hinge.dups.any (copyOf lane (bitsOf frame.toNat 56 8) (bitsOf frame.toNat 16 40)))

/-- When `hingeFrameReceive` has its effect. R130: a lane out of service counts and passes nothing. -/
def Sys2Proof.Machine.Can.hingeFrameReceive4 (lane : Fin 4) (_frame : BitVec 64) (_codeOk : Bool) (_controlOk : Bool) (_stamp : Word) (_late : Bool) (s : State) : Bool :=
  !(s.hub.lane lane).inService && !(s.hub.lane lane).waiting

/-- When `idleFrame` has its effect. R130, R131: an IDLE frame goes out on the lane with its next number, the logic
die's with the device state. -/
def Sys2Proof.Machine.Can.idleFrame (lane : Fin 4) (s : State) : Bool :=
  s.hub.laneSends lane && !(decide (lane.val < 2) && s.hub.hinge.everL && !s.hub.hinge.upL && !(s.hub.lane lane).waiting)

/-- When `idleFrame` has its effect. R130, R157: a lane that sends nothing keeps its number. -/
def Sys2Proof.Machine.Can.idleFrame2 (lane : Fin 4) (s : State) : Bool :=
  !(s.hub.laneSends lane && !(decide (lane.val < 2) && s.hub.hinge.everL && !s.hub.hinge.upL && !(s.hub.lane lane).waiting))

/-- When `laneTraining` has its effect. R135, R136: a trained lane enters service at once, or waits for 256 good frames
where it had been declared down; its delay is shown, and a lane in each direction establishes the link. -/
def Sys2Proof.Machine.Can.laneTraining (lane : Fin 4) (_delay : BitVec 16) (s : State) : Bool :=
  s.hub.logicRuns && s.hub.sup.fieldUp && !(s.hub.lane lane).inService && !(s.hub.lane lane).waiting

/-- When `laneDown` has its effect. R136, R137: the lane is down and counted, LANE_DOWN is present on the die that
receives it, and with both lanes of a direction down that die has lost the link. -/
def Sys2Proof.Machine.Can.laneDown (lane : Fin 4) (s : State) : Bool :=
  (s.hub.lane lane).inService || (s.hub.lane lane).waiting

/-- When `laneDown` has its effect. R136: a lane that neither serves nor waits to is not declared down. -/
def Sys2Proof.Machine.Can.laneDown2 (lane : Fin 4) (s : State) : Bool :=
  !(s.hub.lane lane).inService && !(s.hub.lane lane).waiting

/-- When `laneNotInService` has its effect. R135: a lane not in service 1 ms after the other one of its direction is
declared down. -/
def Sys2Proof.Machine.Can.laneNotInService (lane : Fin 4) (s : State) : Bool :=
  !(s.hub.lane lane).inService && !(s.hub.lane lane).down && (s.hub.lane (laneMate lane)).inService

/-- When `retrain` has its effect. R158: the Keeper's 1 in retrain retrains every down lane now, and reads 1 while one
trains. -/
def Sys2Proof.Machine.Can.retrain (w : Fin 8) (v : Word) (s : State) : Bool :=
  s.hub.writable w && w.val == 0 && v.getLsbD 0

/-- When `retrain` has its effect. R158: a 0, or another ward's write, changes nothing. -/
def Sys2Proof.Machine.Can.retrain2 (w : Fin 8) (v : Word) (s : State) : Bool :=
  s.hub.writable w && (w.val != 0 || !v.getLsbD 0)

/-- When `marginMeasure` has its effect. R150: the margin of a lane toward the logic die's transmitter is shown, and the
lowest since reset with it; three below the threshold in a row raise MARGIN_LOW, and one at it ends it. -/
def Sys2Proof.Machine.Can.marginMeasure (lane : Fin 4) (_m : Fin 65) (s : State) : Bool :=
  decide (lane.val < 2) && s.hub.logicRuns && (s.hub.lane lane).inService

/-- When `marginMeasure` has its effect. R150: a lane that is down shows 0. -/
def Sys2Proof.Machine.Can.marginMeasure2 (lane : Fin 4) (_m : Fin 65) (s : State) : Bool :=
  decide (lane.val < 2) && s.hub.logicRuns && !(s.hub.lane lane).inService

/-- When `marginMeasure` has its effect. R150: the field die's margins go out in a MARGIN frame, and three low ones in a
row are live on it. -/
def Sys2Proof.Machine.Can.marginMeasure3 (lane : Fin 4) (_m : Fin 65) (s : State) : Bool :=
  2 ≤ lane.val && s.hub.sup.fieldUp && s.hub.hinge.upF

/-- The commands of the lanes complete, each under the condition and with the result that its clause gives, after
chapter 05. Clause by clause: `hingeFrameReceive`: R130: a frame with an error is counted on its lane and discarded.
`hingeFrameReceive`: R130 to R132, R144: a good frame is passed on by type: OUT_CMD with a newer generation is applied,
and BOLT_REL clears the latch after 10 µs of CLEAR. `hingeFrameReceive`: R130 to R132, R150, R545: a good frame is
passed on by type: OUT_STAT gives generation and states, FAULT and FSUM reach the fault collection, MARGIN the margins.
`hingeFrameReceive`: R130: a lane out of service counts and passes nothing. `idleFrame`: R130, R131: an IDLE frame goes
out on the lane with its next number, the logic die's with the device state. `idleFrame`: R130, R157: a lane that sends
nothing keeps its number. `laneTraining`: R135, R136: a trained lane enters service at once, or waits for 256 good
frames where it had been declared down; its delay is shown, and a lane in each direction establishes the link.
`laneDown`: R136, R137: the lane is down and counted, LANE_DOWN is present on the die that receives it, and with both
lanes of a direction down that die has lost the link. `laneDown`: R136: a lane that neither serves nor waits to is not
declared down. `laneNotInService`: R135: a lane not in service 1 ms after the other one of its direction is declared
down. `laneRetry`: R135, R158: every down lane trains again, and no other; retrain reads 1 only while a lane trains.
`retrain`: R158: the Keeper's 1 in retrain retrains every down lane now, and reads 1 while one trains. `retrain`: R158:
a 0, or another ward's write, changes nothing. `marginMeasure`: R150: the margin of a lane toward the logic die's
transmitter is shown, and the lowest since reset with it; three below the threshold in a row raise MARGIN_LOW, and one
at it ends it. `marginMeasure`: R150: a lane that is down shows 0. `marginMeasure`: R150: the field die's margins go out
in a MARGIN frame, and three low ones in a row are live on it. -/
def Obligations.LaneCommands : Prop :=
  (∀ (s : State) (lane : Fin 4) (frame : BitVec 64) (codeOk : Bool) (controlOk : Bool) (stamp : Word) (late : Bool), Can.hingeFrameReceive lane frame codeOk controlOk stamp late s = true → Completes (.hingeFrameReceive lane frame codeOk controlOk stamp late) s (fun h =>
      h.rd HNG_ERR_count lane = satInc (2 ^ HNG_ERR_count.width - 1) (s.hub.rd HNG_ERR_count lane) ∧ (h.lane lane).goodRun = 0 ∧ (h.lane lane).inService = (s.hub.lane lane).inService ∧ (h.lane lane).waiting = (s.hub.lane lane).waiting ∧ h.outs = s.hub.outs ∧ h.ins = s.hub.ins ∧ h.clk = s.hub.clk ∧ h.flt.mask = s.hub.flt.mask ∧ h.flt.fLive = s.hub.flt.fLive ∧ h.flt.fieldSticky = s.hub.flt.fieldSticky)) ∧
  (∀ (s : State) (lane : Fin 4) (frame : BitVec 64) (codeOk : Bool) (controlOk : Bool) (stamp : Word) (late : Bool), Can.hingeFrameReceive2 lane frame codeOk controlOk stamp late s = true → Completes (.hingeFrameReceive lane frame codeOk controlOk stamp late) s (fun h =>
      h.rd HNG_ERR_count lane = s.hub.rd HNG_ERR_count lane ∧ (h.lane lane).expect = (bitsOf frame.toNat 12 4 + 1) % 16 ∧ (h.lane lane).goodRun = (s.hub.lane lane).goodRun + 1 ∧ ((bitsOf frame.toNat 56 8 = 0x20 ∨ bitsOf frame.toNat 56 8 = 0x21) → (bitsOf frame.toNat 48 8 + 256 - vget s.hub.hinge.applied (bitsOf frame.toNat 56 1) 0) % 256 ≠ 0 → (bitsOf frame.toNat 48 8 + 256 - vget s.hub.hinge.applied (bitsOf frame.toNat 56 1) 0) % 256 < 128 → vget h.hinge.applied (bitsOf frame.toNat 56 1) 0 = bitsOf frame.toNat 48 8) ∧ (bitsOf frame.toNat 56 8 = 0x32 → h.hinge.latch = (s.hub.hinge.latch && !(s.hub.hinge.fieldDecides == .clear && s.hub.hinge.clear10))) ∧ (bitsOf frame.toNat 56 8 = 0xBC → h.outs = s.hub.outs ∧ h.clk = s.hub.clk))) ∧
  (∀ (s : State) (lane : Fin 4) (frame : BitVec 64) (codeOk : Bool) (controlOk : Bool) (stamp : Word) (late : Bool), Can.hingeFrameReceive3 lane frame codeOk controlOk stamp late s = true → Completes (.hingeFrameReceive lane frame codeOk controlOk stamp late) s (fun h =>
      h.rd HNG_ERR_count lane = s.hub.rd HNG_ERR_count lane ∧ (h.lane lane).expect = (bitsOf frame.toNat 12 4 + 1) % 16 ∧ (h.lane lane).goodRun = (s.hub.lane lane).goodRun + 1 ∧ ((bitsOf frame.toNat 56 8 = 0x28 ∨ bitsOf frame.toNat 56 8 = 0x29) → vget h.hinge.statGen (bitsOf frame.toNat 56 1) 0 = bitsOf frame.toNat 48 8 ∧ (∀ i : Fin 8, h.flag OUT_STAT_sw_on (8 * bitsOf frame.toNat 56 1 + i) = bitOf frame.toNat (16 + 4 * i) ∧ h.flag OUT_STAT_at_safe (8 * bitsOf frame.toNat 56 1 + i) = bitOf frame.toNat (17 + 4 * i) ∧ h.flag OUT_STAT_fhold_run (8 * bitsOf frame.toNat 56 1 + i) = bitOf frame.toNat (18 + 4 * i) ∧ h.flag OUT_STAT_prot (8 * bitsOf frame.toNat 56 1 + i) = bitOf frame.toNat (19 + 4 * i))) ∧ (bitsOf frame.toNat 56 8 = 0x38 → bitsOf frame.toNat 48 8 < 40 → bitOf h.flt.fieldSeen (bitsOf frame.toNat 48 8) = true) ∧ (bitsOf frame.toNat 56 8 = 0x39 → h.rd FLT_FSUM_sticky 0 = bitsOf frame.toNat 16 32 ∧ h.rd FLT_FSUM_sticky 1 = bitsOf frame.toNat 48 8) ∧ (bitsOf frame.toNat 56 8 = 0x70 → (s.hub.lane 2).inService = true → h.rd HNG_MARGIN_fl0 = bitsOf frame.toNat 32 8 % 128))) ∧
  (∀ (s : State) (lane : Fin 4) (frame : BitVec 64) (codeOk : Bool) (controlOk : Bool) (stamp : Word) (late : Bool), Can.hingeFrameReceive4 lane frame codeOk controlOk stamp late s = true → Completes (.hingeFrameReceive lane frame codeOk controlOk stamp late) s (fun h =>
      h.hinge = s.hub.hinge ∧ h.regs = s.hub.regs ∧ h.outs = s.hub.outs)) ∧
  (∀ (s : State) (lane : Fin 4), Can.idleFrame lane s = true → Completes (.idleFrame lane) s (fun h =>
      (h.lane lane).sendSeq = ((s.hub.lane lane).sendSeq + 1) % 16 ∧ (h.lane lane).sinceIdle = 0 ∧ ((h.lane lane).wire.getLast?.map (fun f => (f.typ, f.seq))) = some (0xBC, (s.hub.lane lane).sendSeq) ∧ (lane.val < 2 → ((h.lane lane).wire.getLast?.map (fun f => f.payload)) = some (s.hub.state.code * 2 ^ 32)) ∧ h.regs = s.hub.regs)) ∧
  (∀ (s : State) (lane : Fin 4), Can.idleFrame2 lane s = true → Completes (.idleFrame lane) s (fun h =>
      h.hinge = s.hub.hinge ∧ h.regs = s.hub.regs)) ∧
  (∀ (s : State) (lane : Fin 4) (delay : BitVec 16), Can.laneTraining lane delay s = true → Completes (.laneTraining lane delay) s (fun h =>
      (h.lane lane).inService = !(s.hub.lane lane).down ∧ (h.lane lane).waiting = (s.hub.lane lane).down ∧ (h.lane lane).training = false ∧ (h.lane lane).goodRun = 0 ∧ h.rd (laneDelay lane) = delay.toNat ∧ (h.bothWays = true → h.hinge.upL = true ∧ h.hinge.upF = true))) ∧
  (∀ (s : State) (lane : Fin 4), Can.laneDown lane s = true → Completes (.laneDown lane) s (fun h =>
      (h.lane lane).inService = false ∧ (h.lane lane).waiting = false ∧ (h.lane lane).down = true ∧ (s.hub.logicRuns = true → h.rd HNG_EVENTS_lane_downs = satInc (2 ^ HNG_EVENTS_lane_downs.width - 1) (s.hub.rd HNG_EVENTS_lane_downs)) ∧ (2 ≤ lane.val → s.hub.proofHides 12 (18 + lane) = false → caused h 12 (18 + lane) = true) ∧ (lane.val < 2 → s.hub.hinge.fieldDecides = .clear → s.hub.fHidden (25 + lane) 16 = false → bitOf (vget h.flt.fLive (25 + lane) 0) 16 = true) ∧ ((s.hub.lane (laneMate lane)).inService = false → (lane.val < 2 → s.hub.hinge.everF = true → h.hinge.upF = false) ∧ (2 ≤ lane.val → s.hub.hinge.everL = true → h.hinge.upL = false)))) ∧
  (∀ (s : State) (lane : Fin 4), Can.laneDown2 lane s = true → Completes (.laneDown lane) s (fun h =>
      h.hinge = s.hub.hinge ∧ h.regs = s.hub.regs ∧ h.flt.cause = s.hub.flt.cause)) ∧
  (∀ (s : State) (lane : Fin 4), Can.laneNotInService lane s = true → Completes (.laneNotInService lane) s (fun h =>
      (h.lane lane).down = true ∧ (h.lane lane).inService = false ∧ (h.lane lane).waiting = false ∧ (s.hub.logicRuns = true → h.rd HNG_EVENTS_lane_downs = satInc (2 ^ HNG_EVENTS_lane_downs.width - 1) (s.hub.rd HNG_EVENTS_lane_downs)) ∧ (2 ≤ lane.val → s.hub.proofHides 12 (18 + lane) = false → caused h 12 (18 + lane) = true) ∧ (lane.val < 2 → s.hub.hinge.fieldDecides = .clear → s.hub.fHidden (25 + lane) 16 = false → bitOf (vget h.flt.fLive (25 + lane) 0) 16 = true))) ∧
  (∀ (s : State), Completes (.laneRetry) s (fun h =>
      (∀ l : Fin 4, (s.hub.lane l).down = true → (s.hub.lane l).inService = false → (s.hub.lane l).waiting = false → (h.lane l).training = true) ∧ (∀ l : Fin 4, ((s.hub.lane l).down = false ∨ (s.hub.lane l).inService = true ∨ (s.hub.lane l).waiting = true) → h.lane l = s.hub.lane l) ∧ h.flag HNG_CTRL_retrain = (s.hub.flag HNG_CTRL_retrain && s.hub.anyTraining))) ∧
  (∀ (s : State) (w : Fin 8) (v : Word), Can.retrain w v s = true → Completes (.retrain w v) s (fun h =>
      (∀ l : Fin 4, (s.hub.lane l).down = true → (s.hub.lane l).inService = false → (s.hub.lane l).waiting = false → (h.lane l).training = true) ∧ h.flag HNG_CTRL_retrain = h.anyTraining)) ∧
  (∀ (s : State) (w : Fin 8) (v : Word), Can.retrain2 w v s = true → Completes (.retrain w v) s (fun h =>
      h.hinge = s.hub.hinge ∧ h.regs = s.hub.regs)) ∧
  (∀ (s : State) (lane : Fin 4) (m : Fin 65), Can.marginMeasure lane m s = true → Completes (.marginMeasure lane m) s (fun h =>
      h.rd (laneMargin lane).1 = m ∧ h.rd (laneMargin lane).2 = (if (s.hub.lane lane).measured then min (s.hub.rd (laneMargin lane).2) m else m) ∧ (h.lane lane).lowRun = (if m.val < s.hub.rd HNG_CFG_margin_min then (s.hub.lane lane).lowRun + 1 else 0) ∧ (m.val < s.hub.rd HNG_CFG_margin_min → 2 ≤ (s.hub.lane lane).lowRun → s.hub.proofHides 13 (18 + lane) = false → caused h 13 (18 + lane) = true) ∧ (s.hub.rd HNG_CFG_margin_min ≤ m.val → caused h 13 (18 + lane) = false))) ∧
  (∀ (s : State) (lane : Fin 4) (m : Fin 65), Can.marginMeasure2 lane m s = true → Completes (.marginMeasure lane m) s (fun h =>
      h.rd (laneMargin lane).1 = 0 ∧ h.rd (laneMargin lane).2 = s.hub.rd (laneMargin lane).2 ∧ h.lane lane = s.hub.lane lane)) ∧
  (∀ (s : State) (lane : Fin 4) (m : Fin 65), Can.marginMeasure3 lane m s = true → Completes (.marginMeasure lane m) s (fun h =>
      h.hinge.txF.any (fun f => f.typ == 0x70 && f.payload == h.hinge.marginF) = true ∧ bitsOf h.hinge.marginF (8 * lane) 8 = (if (s.hub.lane lane).inService then m.val else 0) ∧ ((s.hub.lane lane).inService = true → (h.lane lane).lowRun = (if m.val < s.hub.rd HNG_CFG_margin_min then (s.hub.lane lane).lowRun + 1 else 0)) ∧ ((s.hub.lane lane).inService = true → m.val < s.hub.rd HNG_CFG_margin_min → 2 ≤ (s.hub.lane lane).lowRun → s.hub.fHidden (25 + lane) 16 = false → bitOf (vget h.flt.fLive (25 + lane) 0) 16 = true)))

/-- When `hingeLost` has its effect. R137, R138, R157: the logic die treats the link as lost: what it shows of the field
die is stale, requests fail, only priorities 1 and 2 stay queued, the loss is counted and HINGE_LOST raised. -/
def Sys2Proof.Machine.Can.hingeLost (field : Bool) (s : State) : Bool :=
  !field && s.hub.hinge.upL

/-- When `hingeLost` has its effect. R137, R139, R152: the field die declares the link lost: test pulses end, and the
FHOLD timer of every output starts. -/
def Sys2Proof.Machine.Can.hingeLost2 (field : Bool) (s : State) : Bool :=
  field && s.hub.hinge.upF

/-- When `hingeLost` has its effect. R137: a link that is not established is not lost again. -/
def Sys2Proof.Machine.Can.hingeLost3 (field : Bool) (s : State) : Bool :=
  if field then !s.hub.hinge.upF else !s.hub.hinge.upL

/-- When `rejoin` has its effect. R141: in *Boot* and *Arming* a configured field die's rejoin waits. -/
def Sys2Proof.Machine.Can.rejoin (s : State) : Bool :=
  s.hub.hinge.upL && s.hub.flag HNG_STAT_rejoin && (s.hub.dev.phase == .boot || s.hub.dev.phase == .arming) && s.hub.hinge.configured

/-- When `rejoin` has its effect. R140, R241: with a matching CRC the commanded states adopt what the field die reports,
no channel switches, the FHOLD timers stop, and a channel made safe in the loss has safe_hold. -/
def Sys2Proof.Machine.Can.rejoin2 (s : State) : Bool :=
  s.hub.hinge.upL && s.hub.flag HNG_STAT_rejoin && s.hub.dev.phase == .up && s.hub.hinge.configured && s.hub.hinge.fieldCrc == s.hub.rd BLK_SHADOW_FCRC_crc

/-- When `rejoin` has its effect. R140: otherwise every output is driven to its safe state with safe_hold, and the whole
configuration goes out by REQ. -/
def Sys2Proof.Machine.Can.rejoin3 (s : State) : Bool :=
  s.hub.hinge.upL && s.hub.flag HNG_STAT_rejoin && s.hub.dev.phase == .up && !(s.hub.hinge.configured && s.hub.hinge.fieldCrc == s.hub.rd BLK_SHADOW_FCRC_crc) && s.hub.sup.vfValid && !s.hub.dev.ftestHeld

/-- When `rejoin` has its effect. R140: without the link nothing rejoins. -/
def Sys2Proof.Machine.Can.rejoin4 (s : State) : Bool :=
  !s.hub.hinge.upL

/-- When `fieldStart` has its effect. R178, R726: in *Arming* an unconfigured field die is sent the configuration. -/
def Sys2Proof.Machine.Can.fieldStart (s : State) : Bool :=
  s.hub.hinge.upL && !s.hub.hinge.configured && s.hub.dev.phase == .arming && s.hub.sup.vfValid && !s.hub.dev.ftestHeld

/-- When `fieldStart` has its effect. R50, R67, R726: in *Boot*, without valid VF or with FTEST high at its reset, it
waits. -/
def Sys2Proof.Machine.Can.fieldStart2 (s : State) : Bool :=
  s.hub.hinge.upL && !s.hub.hinge.configured && (s.hub.dev.phase == .boot || s.hub.dev.phase == .arming && (!s.hub.sup.vfValid || s.hub.dev.ftestHeld))

/-- When `fieldConfigCrc` has its effect. R191: the field die recomputes the CRC-32 of the configuration it holds, and
DA compares it with the shadow's. -/
def Sys2Proof.Machine.Can.fieldConfigCrc (_upset : Option (BitVec 24 × Word)) (s : State) : Bool :=
  s.hub.hinge.configured

/-- The commands of the link's loss, rejoin and start complete, each under the condition and with the result that its
clause gives, after R137 to R141 and R191. Clause by clause: `hingeLost`: R137, R138, R157: the logic die treats the
link as lost: what it shows of the field die is stale, requests fail, only priorities 1 and 2 stay queued, the loss is
counted and HINGE_LOST raised. `hingeLost`: R137, R139, R152: the field die declares the link lost: test pulses end, and
the FHOLD timer of every output starts. `hingeLost`: R137: a link that is not established is not lost again. `rejoin`:
R141: in *Boot* and *Arming* a configured field die's rejoin waits. `rejoin`: R140, R241: with a matching CRC the
commanded states adopt what the field die reports, no channel switches, the FHOLD timers stop, and a channel made safe
in the loss has safe_hold. `rejoin`: R140: otherwise every output is driven to its safe state with safe_hold, and the
whole configuration goes out by REQ. `rejoin`: R140: without the link nothing rejoins. `fieldStart`: R178, R726: in
*Arming* an unconfigured field die is sent the configuration. `fieldStart`: R50, R67, R726: in *Boot*, without valid VF
or with FTEST high at its reset, it waits. `fieldConfigCrc`: R191: the field die recomputes the CRC-32 of the
configuration it holds, and DA compares it with the shadow's. -/
def Obligations.LinkCommands : Prop :=
  (∀ (s : State) (field : Bool), Can.hingeLost field s = true → Completes (.hingeLost field) s (fun h =>
      h.hinge.upL = false ∧ h.flag HNG_STAT_link_up = false ∧ h.flag FLT_STAT_stale = true ∧ h.flag HNG_STAT_stale = true ∧ (∀ c : Fin 16, h.flag OUT_STAT_stale c = true ∧ h.flag IN_STAT_stale c = true) ∧ h.rd HNG_EVENTS_link_losses = satInc (2 ^ HNG_EVENTS_link_losses.width - 1) (s.hub.rd HNG_EVENTS_link_losses) ∧ h.hinge.out = [] ∧ h.hinge.waiting = [] ∧ h.hinge.txL.all (fun f => decide (f.prio ≤ 2)) = true ∧ (s.hub.fieldReset < 3 → s.hub.proofHides 11 16 = false → caused h 11 16 = true) ∧ (∀ x ∈ s.hub.hinge.out, ∀ k ∈ x.slot, ∀ o ∈ h.eng.ops, o.slot = k → o.phase = .retiring))) ∧
  (∀ (s : State) (field : Bool), Can.hingeLost2 field s = true → Completes (.hingeLost field) s (fun h =>
      h.hinge.upF = false ∧ h.clk.long = false ∧ h.clk.goodRun = 0 ∧ h.hinge.fholdSince.isSome = true ∧ (∀ c : Fin 16, (h.out c).pulse = none) ∧ (s.hub.hinge.fieldDecides = .clear → s.hub.fHidden 29 16 = false → bitOf (vget h.flt.fLive 29 0) 16 = true) ∧ (s.hub.hinge.fholdSince = none → ∀ c : Fin 16, s.hub.fIsOut c = true → (h.out c).fholdRun = decide (s.hub.frd OUT_FHOLD_ms (s.hub.fLead c) ≠ 0)))) ∧
  (∀ (s : State) (field : Bool), Can.hingeLost3 field s = true → Completes (.hingeLost field) s (fun h =>
      h.hinge = s.hub.hinge ∧ h.regs = s.hub.regs ∧ h.outs = s.hub.outs)) ∧
  (∀ (s : State), Can.rejoin s = true → Completes (.rejoin) s (fun h =>
      h.hinge.rejoinWaits = true ∧ h.outs = s.hub.outs ∧ h.regs = s.hub.regs)) ∧
  (∀ (s : State), Can.rejoin2 s = true → Completes (.rejoin) s (fun h =>
      h.flag HNG_STAT_rejoin = false ∧ h.flag FLT_STAT_stale = false ∧ h.hinge.lossSafe = 0 ∧ h.hinge.fholdSince = none ∧ h.fieldReset = 0 ∧ (∀ c : Fin 16, (h.out c).fholdRun = false ∧ (h.out c).latched = (s.hub.out c).latched ∧ (h.out c).sw = (s.hub.out c).sw) ∧ (∀ c : Fin 16, s.hub.isOut c = true → s.hub.mode c ≠ 7 → s.hub.rd OUT_CFG_src c = 0 → h.flag OUT_CTRL_on c = (s.hub.out c).latched) ∧ (∀ c : Fin 16, s.hub.isOut c = true → bitOf s.hub.hinge.lossSafe c = true → h.flag OUT_STAT_safe_hold c = true))) ∧
  (∀ (s : State), Can.rejoin3 s = true → Completes (.rejoin) s (fun h =>
      (h.hinge.out ++ h.hinge.waiting).any (fun x => x.what == .config) = true ∧ h.hinge.fholdSince = none ∧ (∀ c : Fin 16, (h.out c).fholdRun = false) ∧ (∀ c : Fin 16, s.hub.isOut c = true → h.flag OUT_STAT_safe_hold c = true ∧ vget h.hinge.cmd c 0 = 2 ∧ h.flag OUT_CTRL_on (s.hub.lead c) = s.hub.safeOn c))) ∧
  (∀ (s : State), Can.rejoin4 s = true → Completes (.rejoin) s (fun h =>
      h.hinge = s.hub.hinge ∧ h.regs = s.hub.regs)) ∧
  (∀ (s : State), Can.fieldStart s = true → Completes (.fieldStart) s (fun h =>
      h.flag HNG_STAT_rejoin = false ∧ (h.hinge.out ++ h.hinge.waiting).any (fun x => x.what == .config) = true)) ∧
  (∀ (s : State), Can.fieldStart2 s = true → Completes (.fieldStart) s (fun h =>
      h.flag HNG_STAT_rejoin = false ∧ h.hinge = s.hub.hinge)) ∧
  (∀ (s : State) (upset : Option (BitVec 24 × Word)), Can.fieldConfigCrc upset s = true → Completes (.fieldConfigCrc upset) s (fun h =>
      h.hinge.cfg = (match upset with | some (a, v) => fieldConfig (upsetWord s.hub.hinge.cfg a.toNat v.toNat) | none => s.hub.hinge.cfg) ∧ h.hinge.fieldCrc = shadowCrc h.hinge.cfg true ∧ (s.hub.hinge.upL = true → s.hub.dev.phase = .up → s.hub.flag HNG_STAT_rejoin = false → h.flag HNG_STAT_field_cfg_ok = (h.hinge.fieldCrc == s.hub.rd BLK_SHADOW_FCRC_crc) ∧ (s.hub.proofHides 17 18 = false → caused h 17 18 = (h.hinge.fieldCrc != s.hub.rd BLK_SHADOW_FCRC_crc)))))

/-- When `outCmd` has its effect. R132, R143, R202: a newer generation is applied: each channel is off, on or at its
safe state as commanded, and no command moves one off its safe state while the field die blocks it. -/
def Sys2Proof.Machine.Can.outCmd (g : Fin 2) (gen : BitVec 8) (_cmds : Word) (s : State) : Bool :=
  s.hub.sup.fieldUp && s.hub.hinge.configured && (s.hub.hinge.firstApplied || !s.hub.fieldBlocked) && (gen.toNat + 256 - vget s.hub.hinge.applied g 0) % 256 != 0 && decide ((gen.toNat + 256 - vget s.hub.hinge.applied g 0) % 256 < 128)

/-- When `outCmd` has its effect. R132: the same generation, or one from before, changes nothing. -/
def Sys2Proof.Machine.Can.outCmd2 (g : Fin 2) (gen : BitVec 8) (_cmds : Word) (s : State) : Bool :=
  (gen.toNat + 256 - vget s.hub.hinge.applied g 0) % 256 == 0 || decide (128 ≤ (gen.toNat + 256 - vget s.hub.hinge.applied g 0) % 256)

/-- When `outCmdRepeat` has its effect. R132: the latest generation of each group is sent again, but for one whose
number waits for an OUT_STAT frame. -/
def Sys2Proof.Machine.Can.outCmdRepeat (s : State) : Bool :=
  s.hub.hinge.upL

/-- When `outCmdRepeat` has its effect. R157: with the link lost none goes out. -/
def Sys2Proof.Machine.Can.outCmdRepeat2 (s : State) : Bool :=
  !s.hub.hinge.upL

/-- When `outStat` has its effect. R132, R205: the states of eight channels are taken, bit by bit, with the generation
applied and the bolt latch; a channel that the field die has brought to its safe state has safe_hold. -/
def Sys2Proof.Machine.Can.outStat (_g : Fin 2) (_gen : BitVec 8) (_states : Word) (s : State) : Bool :=
  s.hub.logicRuns && s.hub.hinge.upL

/-- When `outStat` has its effect. R138: with the link lost the registers keep their last values. -/
def Sys2Proof.Machine.Can.outStat2 (_g : Fin 2) (_gen : BitVec 8) (_states : Word) (s : State) : Bool :=
  s.hub.logicRuns && !s.hub.hinge.upL

/-- When `fsum` has its effect. R545: the sticky flags of the field collector are taken, and one with no status set and
no FAULT frame seen counts as an occurrence. -/
def Sys2Proof.Machine.Can.fsum (_sticky : BitVec 40) (s : State) : Bool :=
  s.hub.logicRuns && s.hub.hinge.upL

/-- When `fsum` has its effect. R138: with the link lost the register keeps its last value. -/
def Sys2Proof.Machine.Can.fsum2 (_sticky : BitVec 40) (s : State) : Bool :=
  s.hub.logicRuns && !s.hub.hinge.upL

/-- When `fault` has its effect. R545, R649: a FAULT frame with live 1 makes its position live on its channels; where
the source was absent it occurs. -/
def Sys2Proof.Machine.Can.fault (p : Fin 40) (_chs : BitVec 16) (live : Bool) (_detail : BitVec 15) (s : State) : Bool :=
  s.hub.logicRuns && live && !eventPositions.contains p.val

/-- When `fault` has its effect. R545: a FAULT frame with live 0 clears the live bits of its channels. -/
def Sys2Proof.Machine.Can.fault2 (p : Fin 40) (_chs : BitVec 16) (live : Bool) (_detail : BitVec 15) (s : State) : Bool :=
  s.hub.logicRuns && !live && !eventPositions.contains p.val

/-- When `fault` has its effect. R143, R535, R545: a bolt-line code error, a late vector and the status store occur as
events. -/
def Sys2Proof.Machine.Can.fault3 (p : Fin 40) (_chs : BitVec 16) (_live : Bool) (_detail : BitVec 15) (s : State) : Bool :=
  s.hub.logicRuns && eventPositions.contains p.val

/-- When `req` has its effect. R148, R140, R212, R227, R231, R263, R545, R586, R653, R658: the field die carries the
request out, keeps its outcome under its tag and answers. -/
def Sys2Proof.Machine.Can.req (tag : Fin 16) (s : State) : Bool :=
  s.hub.sup.fieldUp && (match s.hub.txnOf tag with | some x => (s.hub.keptOf x).isNone && s.hub.takesReq x.what | none => false)

/-- When `req` has its effect. R148: a request that comes again is answered from the record and not carried out again.
-/
def Sys2Proof.Machine.Can.req2 (tag : Fin 16) (s : State) : Bool :=
  s.hub.sup.fieldUp && s.hub.hinge.upF && (match s.hub.txnOf tag with | some x => (s.hub.keptOf x).isSome | none => false)

/-- When `rsp` has its effect. R148, R140, R653, R658: the response ends the transaction, retires its operation and lets
the next request out; of a configuration it ends the rejoin, of a snapshot it brings the counters. -/
def Sys2Proof.Machine.Can.rsp (tag : Fin 16) (s : State) : Bool :=
  s.hub.hinge.upL && (match s.hub.txnOf tag with | some x => (s.hub.keptOf x).isSome | none => false)

/-- When `reqRetry` has its effect. R148: the REQ is sent again and counted. -/
def Sys2Proof.Machine.Can.reqRetry (tag : Fin 16) (s : State) : Bool :=
  s.hub.hinge.upL && (match s.hub.txnOf tag with | some x => decide (x.tries < s.hub.rd HNG_CFG_txn_retries) | none => false)

/-- When `reqRetry` has its effect. R148, R366: with the retries used up the request fails: HINGE_TXN, its frame's
outcome is 0x07 and its operation retires LINK_LOST. -/
def Sys2Proof.Machine.Can.reqRetry2 (tag : Fin 16) (s : State) : Bool :=
  s.hub.hinge.upL && (match s.hub.txnOf tag with | some x => decide (s.hub.rd HNG_CFG_txn_retries ≤ x.tries) | none => false)

/-- The frames of R131 complete, each under the condition and with the result that its clause gives: the effect that the
receiving die gives them. Clause by clause: `outCmd`: R132, R143, R202: a newer generation is applied: each channel is
off, on or at its safe state as commanded, and no command moves one off its safe state while the field die blocks it.
`outCmd`: R132: the same generation, or one from before, changes nothing. `outCmdRepeat`: R132: the latest generation of
each group is sent again, but for one whose number waits for an OUT_STAT frame. `outCmdRepeat`: R157: with the link lost
none goes out. `outStat`: R132, R205: the states of eight channels are taken, bit by bit, with the generation applied
and the bolt latch; a channel that the field die has brought to its safe state has safe_hold. `outStat`: R138: with the
link lost the registers keep their last values. `fsum`: R545: the sticky flags of the field collector are taken, and one
with no status set and no FAULT frame seen counts as an occurrence. `fsum`: R138: with the link lost the register keeps
its last value. `fault`: R545, R649: a FAULT frame with live 1 makes its position live on its channels; where the source
was absent it occurs. `fault`: R545: a FAULT frame with live 0 clears the live bits of its channels. `fault`: R143,
R535, R545: a bolt-line code error, a late vector and the status store occur as events. `req`: R148, R140, R212, R227,
R231, R263, R545, R586, R653, R658: the field die carries the request out, keeps its outcome under its tag and answers.
`req`: R148: a request that comes again is answered from the record and not carried out again. `rsp`: R148, R140, R653,
R658: the response ends the transaction, retires its operation and lets the next request out; of a configuration it ends
the rejoin, of a snapshot it brings the counters. `reqRetry`: R148: the REQ is sent again and counted. `reqRetry`: R148,
R366: with the retries used up the request fails: HINGE_TXN, its frame's outcome is 0x07 and its operation retires
LINK_LOST. -/
def Obligations.FrameCommands : Prop :=
  (∀ (s : State) (g : Fin 2) (gen : BitVec 8) (cmds : Word), Can.outCmd g gen cmds s = true → Completes (.outCmd g gen cmds) s (fun h =>
      vget h.hinge.applied g 0 = gen.toNat ∧ h.hinge.firstApplied = true ∧ (∀ i : Fin 8, s.hub.fIsOut (8 * g + i) = true → (h.out (8 * g + i)).hiz = false ∧ (bitsOf cmds.toNat (4 * i) 4 = 2 → (h.out (8 * g + i)).latched = s.hub.fSafeOn (8 * g + i) ∧ (h.out (8 * g + i)).atSafe = true) ∧ (bitsOf cmds.toNat (4 * i) 4 = 0 → (s.hub.fieldBlocked = false ∨ s.hub.fSafeOn (8 * g + i) = false) → (h.out (8 * g + i)).latched = false ∧ (h.out (8 * g + i)).gate = false ∧ (h.out (8 * g + i)).tsdLatched = false ∧ (h.out (8 * g + i)).retryWait = false ∧ (h.out (8 * g + i)).atSafe = false) ∧ (bitsOf cmds.toNat (4 * i) 4 = 1 → s.hub.frd OUT_CFG_src (s.hub.fLead (8 * g + i)) = 0 → (s.hub.fieldBlocked = false ∨ s.hub.fSafeOn (8 * g + i) = true) → (h.out (8 * g + i)).latched = true ∧ (h.out (8 * g + i)).gate = true ∧ (h.out (8 * g + i)).atSafe = false) ∧ (bitsOf cmds.toNat (4 * i) 4 = 1 → s.hub.fieldBlocked = true → s.hub.fieldPin (8 * g + i) ≠ s.hub.fSafeOn (8 * g + i) → (h.out (8 * g + i)).latched = (s.hub.out (8 * g + i)).latched) ∧ (3 ≤ bitsOf cmds.toNat (4 * i) 4 → (h.out (8 * g + i)).latched = (s.hub.out (8 * g + i)).latched)) ∧ h.mem = s.hub.mem)) ∧
  (∀ (s : State) (g : Fin 2) (gen : BitVec 8) (cmds : Word), Can.outCmd2 g gen cmds s = true → Completes (.outCmd g gen cmds) s (fun h =>
      h.hinge.applied = s.hub.hinge.applied ∧ h.outs = s.hub.outs ∧ h.regs = s.hub.regs)) ∧
  (∀ (s : State), Can.outCmdRepeat s = true → Completes (.outCmdRepeat) s (fun h =>
      (∀ g : Fin 2, vget s.hub.hinge.genFresh g true = false → h.hinge.txL.contains { typ := 0x20 + g, payload := vget s.hub.hinge.gen g 0 * 2 ^ 32 + s.hub.groupCmds g, prio := 4 } = true) ∧ (vget s.hub.hinge.genFresh 0 true = true → vget s.hub.hinge.genFresh 1 true = true → h.hinge.txL = s.hub.hinge.txL) ∧ h.hinge.gen = s.hub.hinge.gen ∧ h.hinge.cmd = s.hub.hinge.cmd ∧ h.outs = s.hub.outs)) ∧
  (∀ (s : State), Can.outCmdRepeat2 s = true → Completes (.outCmdRepeat) s (fun h =>
      h.hinge = s.hub.hinge ∧ h.regs = s.hub.regs)) ∧
  (∀ (s : State) (g : Fin 2) (gen : BitVec 8) (states : Word), Can.outStat g gen states s = true → Completes (.outStat g gen states) s (fun h =>
      h.flag HNG_BOLT_field_latched = s.hub.hinge.latch ∧ vget h.hinge.statGen g 0 = gen.toNat ∧ vget h.hinge.genFresh g true = false ∧ (∀ i : Fin 8, h.flag OUT_STAT_sw_on (8 * g.val + i) = states.getLsbD (4 * i) ∧ h.flag OUT_STAT_at_safe (8 * g.val + i) = states.getLsbD (4 * i + 1) ∧ h.flag OUT_STAT_fhold_run (8 * g.val + i) = states.getLsbD (4 * i + 2) ∧ h.flag OUT_STAT_prot (8 * g.val + i) = states.getLsbD (4 * i + 3)) ∧ (∀ i : Fin 8, s.hub.isOut (8 * g.val + i) = true → states.getLsbD (4 * i + 1) = true → s.hub.flag OUT_STAT_at_safe (8 * g.val + i) = false → h.flag OUT_STAT_safe_hold (8 * g.val + i) = true))) ∧
  (∀ (s : State) (g : Fin 2) (gen : BitVec 8) (states : Word), Can.outStat2 g gen states s = true → Completes (.outStat g gen states) s (fun h =>
      h.regs = s.hub.regs ∧ h.outs = s.hub.outs ∧ h.hinge.statGen = s.hub.hinge.statGen)) ∧
  (∀ (s : State) (sticky : BitVec 40), Can.fsum sticky s = true → Completes (.fsum sticky) s (fun h =>
      h.rd FLT_FSUM_sticky 0 = sticky.toNat % 2 ^ 32 ∧ h.rd FLT_FSUM_sticky 1 = sticky.toNat / 2 ^ 32 ∧ h.flt.fieldSeen = 0 ∧ (sticky = 0 → h.flt.mask = s.hub.flt.mask ∧ h.flt.counts = s.hub.flt.counts) ∧ (∀ p : Fin 37, 17 ≤ p.val → bitOf sticky.toNat p = true → bitOf s.hub.flt.fieldSeen p = false → (fieldSources p).any s.hub.fltSet = false → ∀ n ∈ fieldSources p, n ≠ 11 → s.hub.fltEnabled n = true → s.hub.dev.phase = .up → s.hub.testGroup ≠ 5 → h.fltSet n = true))) ∧
  (∀ (s : State) (sticky : BitVec 40), Can.fsum2 sticky s = true → Completes (.fsum sticky) s (fun h =>
      h.regs = s.hub.regs ∧ h.flt.mask = s.hub.flt.mask)) ∧
  (∀ (s : State) (p : Fin 40) (chs : BitVec 16) (live : Bool) (detail : BitVec 15), Can.fault p chs live detail s = true → Completes (.fault p chs live detail) s (fun h =>
      vget h.flt.fieldLive p 0 = vget s.hub.flt.fieldLive p 0 ||| (if chs.toNat == 0 then 2 ^ 16 else chs.toNat) ∧ bitOf h.flt.fieldSeen p = true ∧ h.ret.life.vfuv = (if p.val = 17 ∧ vget s.hub.flt.fieldLive p 0 = 0 then satInc (2 ^ 32 - 1) s.hub.ret.life.vfuv else s.hub.ret.life.vfuv) ∧ (chs = 0 → ∀ n ∈ fieldSources p, s.hub.sourceOn p 16 = some n → s.hub.causes n = 0 → n ≠ 10 → n ≠ 11 → s.hub.fltEnabled n = true → s.hub.dev.phase = .up → s.hub.testGroup ≠ 5 → h.fltSet n = true) ∧ (chs = 0 → ∀ n ∈ fieldSources p, n = 11 → s.hub.causes n = 0 → h.hinge.upL = false))) ∧
  (∀ (s : State) (p : Fin 40) (chs : BitVec 16) (live : Bool) (detail : BitVec 15), Can.fault2 p chs live detail s = true → Completes (.fault p chs live detail) s (fun h =>
      vget h.flt.fieldLive p 0 = clrMask (vget s.hub.flt.fieldLive p 0) (if chs.toNat == 0 then 2 ^ 16 else chs.toNat) ∧ bitOf h.flt.fieldSeen p = true ∧ h.flt.mask = s.hub.flt.mask ∧ h.flt.counts = s.hub.flt.counts)) ∧
  (∀ (s : State) (p : Fin 40) (chs : BitVec 16) (live : Bool) (detail : BitVec 15), Can.fault3 p chs live detail s = true → Completes (.fault p chs live detail) s (fun h =>
      bitOf h.flt.fieldSeen p = true ∧ h.flt.fieldLive = s.hub.flt.fieldLive ∧ (p.val = 24 → h.rd HNG_BOLT_code_errors = satInc (2 ^ HNG_BOLT_code_errors.width - 1) (s.hub.rd HNG_BOLT_code_errors)) ∧ (∀ n ∈ fieldSources p, s.hub.fltEnabled n = true → s.hub.proofHides n 16 = false → s.hub.dev.phase = .up → s.hub.testGroup ≠ 5 → h.fltSet n = true))) ∧
  (∀ (s : State) (tag : Fin 16), Can.req tag s = true → Completes (.req tag) s (fun h =>
      ((vget h.hinge.kept tag none).map (·.1)) = (s.hub.txnOf tag).map (·.num) ∧ (s.hub.hinge.upF = true → h.hinge.txF.any (fun f => f.typ == 0x50 + tag.val && some f.payload == (vget h.hinge.kept tag none).map (·.2)) = true) ∧ (∀ x ∈ s.hub.txnOf tag, (match x.what with | .trim c i p => decide (c < 16 → (h.out c).rtIlim = i ∧ (h.out c).rtPeriod = p) | .clearOut c bits => decide (c < 16 → (h.out c).flt = clrMask (s.hub.out c).flt bits) | .clearIn c bits => decide (c < 16 → clrMask (h.inp c).flt 8 = clrMask (s.hub.inp c).flt (bits ||| 8)) | .rearm c => decide (c < 16 → (h.out c).tsdLatched = false ∧ (h.out c).latched = false ∧ bitOf (vget h.flt.fLive 4 0) c = false) | .config => decide (h.hinge.configured = true ∧ h.hinge.fieldCrc = shadowCrc (fieldConfig s.hub.shadowRegs) true ∧ h.hinge.cfg = fieldConfig s.hub.shadowRegs) | .snapshot => decide (h.life.sent = s.hub.life.acc ∧ h.life.sentSerial = s.hub.life.fieldSerial) | .rebase n => decide (h.life.fieldSerial = n) | .testHold => decide (h.hinge.fholdSince.isSome = true) | .clearSticky p => decide (bitOf h.flt.fieldSticky p = (vget s.hub.flt.fLive p 0 != 0))) = true))) ∧
  (∀ (s : State) (tag : Fin 16), Can.req2 tag s = true → Completes (.req tag) s (fun h =>
      h.outs = s.hub.outs ∧ h.ins = s.hub.ins ∧ h.life = s.hub.life ∧ h.flt.mask = s.hub.flt.mask ∧ h.flt.fLive = s.hub.flt.fLive ∧ h.flt.fieldSticky = s.hub.flt.fieldSticky ∧ h.hinge.kept = s.hub.hinge.kept ∧ h.hinge.txF.any (fun f => f.typ == 0x50 + tag.val && some f.payload == (vget s.hub.hinge.kept tag none).map (·.2)) = true)) ∧
  (∀ (s : State) (tag : Fin 16), Can.rsp tag s = true → Completes (.rsp tag) s (fun h =>
      (∀ x ∈ s.hub.txnOf tag, (x.what ≠ .config → s.hub.hinge.waiting = [] → h.hinge.out = s.hub.hinge.out.filter (fun y => y.tag != tag.val)) ∧ (∀ n ∈ s.hub.hinge.waiting, x.what ≠ .config → s.hub.hinge.out.length ≤ 8 → s.hub.hinge.waiting.all (fun y => decide (y.ward < 9)) = true → h.hinge.waiting.length + 1 = s.hub.hinge.waiting.length) ∧ (∀ k ∈ x.slot, ∀ o ∈ h.eng.ops, o.slot = k → o.phase = .retiring) ∧ (x.what = .config → s.hub.flag HNG_STAT_rejoin = true → s.hub.dev.phase = .up → h.flag HNG_STAT_rejoin = false) ∧ (∀ r ∈ h.life.rebase, x.what ≠ .rebase r.1) ∧ (x.what = .snapshot → s.hub.life.rebase = [] → h.life.snap = s.hub.life.sent)) ∧ h.mem = s.hub.mem)) ∧
  (∀ (s : State) (tag : Fin 16), Can.reqRetry tag s = true → Completes (.reqRetry tag) s (fun h =>
      h.rd HNG_TXN_retries = satInc (2 ^ HNG_TXN_retries.width - 1) (s.hub.rd HNG_TXN_retries) ∧ h.hinge.txL = enq s.hub.hinge.txL { typ := 0x40 + tag, payload := 0, prio := 5 } ∧ (h.txnOf tag).map (·.tries) = (s.hub.txnOf tag).map (fun x => x.tries + 1) ∧ h.hinge.out.length = s.hub.hinge.out.length)) ∧
  (∀ (s : State) (tag : Fin 16), Can.reqRetry2 tag s = true → Completes (.reqRetry tag) s (fun h =>
      h.rd HNG_TXN_failures = satInc (2 ^ HNG_TXN_failures.width - 1) (s.hub.rd HNG_TXN_failures) ∧ (s.hub.hinge.waiting = [] → h.hinge.out = s.hub.hinge.out.filter (fun y => y.tag != tag.val)) ∧ (s.hub.fltEnabled 14 = true → s.hub.proofHides 14 16 = false → s.hub.dev.phase = .up → s.hub.testGroup ≠ 5 → h.fltSet 14 = true) ∧ (∀ x ∈ s.hub.txnOf tag, (∀ k ∈ x.slot, ∀ o ∈ h.eng.ops, o.slot = k → o.phase = .retiring ∧ o.code = 5) ∧ (∀ q ∈ x.port, q.1 < 8 → (h.port q.1).outcome = some 7))))

/-- When `boltRel` has its effect. R144: BOLT_REL after 10 µs of CLEAR clears the latch, and is held before. -/
def Sys2Proof.Machine.Can.boltRel (s : State) : Bool :=
  s.hub.sup.fieldUp

/-- When `boltRelRepeat` has its effect. R144: BOLT_REL goes out again while the latch reads set, and no more once it
reads clear. -/
def Sys2Proof.Machine.Can.boltRelRepeat (s : State) : Bool :=
  s.hub.hinge.relRepeat

/-- When `boltRelSend` has its effect. R144, R516: BOLT_REL follows DA's change to CLEAR by 10 µs. -/
def Sys2Proof.Machine.Can.boltRelSend (s : State) : Bool :=
  decide (s.hub.hinge.toneAt + 10 * Config.ticksPerUs ≤ s.hub.clk.now) && (s.hub.dev.exitStep == 1 || (s.hub.hinge.relDue && s.hub.dev.exitStep == 0 && !s.hub.dev.safe))

/-- When `boltDecision` has its effect. R142, R143: 400 ns without an edge are BOLT, which sets the latch, brings every
output to its safe state and ends FHOLD; four intervals of a tone decide CLEAR or HOLD; anything else keeps the
decision. -/
def Sys2Proof.Machine.Can.boltDecision (_ivs : List (BitVec 16)) (_gap : BitVec 16) (s : State) : Bool :=
  s.hub.sup.fieldUp

/-- When `boltCode` has its effect. R143: a code error on the field-to-logic line is counted and raises BOLT_CODE. -/
def Sys2Proof.Machine.Can.boltCode (field : Bool) (s : State) : Bool :=
  !field && s.hub.logicRuns

/-- When `boltCode` has its effect. R143: 2 µs without a valid decision are BOLT for the field die, which reports the
code error. -/
def Sys2Proof.Machine.Can.boltCode2 (field : Bool) (s : State) : Bool :=
  field && s.hub.sup.fieldUp

/-- When `boltLatchClear` has its effect. R144: a held BOLT_REL clears the latch once CLEAR has stood for 10 µs. -/
def Sys2Proof.Machine.Can.boltLatchClear (s : State) : Bool :=
  s.hub.hinge.fieldDecides == .clear

/-- When `fieldToneDecision` has its effect. R146, R436: DA decides the field die's tone from the intervals; BOLT_FIELD
is present while it is BOLT. -/
def Sys2Proof.Machine.Can.fieldToneDecision (_ivs : List (BitVec 16)) (_gap : BitVec 16) (s : State) : Bool :=
  s.hub.logicRuns

/-- When `fholdExpiry` has its effect. R218: the timer has ended, and the channel is at its safe state by the field
die's action. -/
def Sys2Proof.Machine.Can.fholdExpiry (c : Fin 16) (ms : Word) (s : State) : Bool :=
  (s.hub.out c).fholdRun && s.hub.frd OUT_FHOLD_ms (s.hub.fLead c) != 65535 && decide (s.hub.frd OUT_FHOLD_ms (s.hub.fLead c) ≤ ms.toNat)

/-- When `fholdExpiry` has its effect. R139, R218: before its time, with FHOLD 65,535 or with no timer running, nothing
ends. -/
def Sys2Proof.Machine.Can.fholdExpiry2 (c : Fin 16) (ms : Word) (s : State) : Bool :=
  !(s.hub.out c).fholdRun || s.hub.frd OUT_FHOLD_ms (s.hub.fLead c) == 65535 || decide (ms.toNat < s.hub.frd OUT_FHOLD_ms (s.hub.fLead c))

/-- The commands of the bolt lines complete, each under the condition and with the result that its clause gives, after
R142 to R146, R218 and R516. Clause by clause: `boltRel`: R144: BOLT_REL after 10 µs of CLEAR clears the latch, and is
held before. `boltRelExpire`: R144: a held BOLT_REL is discarded, and the latch stays. `boltRelRepeat`: R144: BOLT_REL
goes out again while the latch reads set, and no more once it reads clear. `boltRelSend`: R144, R516: BOLT_REL follows
DA's change to CLEAR by 10 µs. `boltDecision`: R142, R143: 400 ns without an edge are BOLT, which sets the latch, brings
every output to its safe state and ends FHOLD; four intervals of a tone decide CLEAR or HOLD; anything else keeps the
decision. `boltCode`: R143: a code error on the field-to-logic line is counted and raises BOLT_CODE. `boltCode`: R143: 2
µs without a valid decision are BOLT for the field die, which reports the code error. `boltLatchClear`: R144: a held
BOLT_REL clears the latch once CLEAR has stood for 10 µs. `boltToneChange`: R145: DA changes its tone.
`fieldToneDecision`: R146, R436: DA decides the field die's tone from the intervals; BOLT_FIELD is present while it is
BOLT. `fholdExpiry`: R218: the timer has ended, and the channel is at its safe state by the field die's action.
`fholdExpiry`: R139, R218: before its time, with FHOLD 65,535 or with no timer running, nothing ends. -/
def Obligations.BoltCommands : Prop :=
  (∀ (s : State), Can.boltRel s = true → Completes (.boltRel) s (fun h =>
      (if (s.hub.hinge.fieldDecides == .clear && s.hub.hinge.clear10) = true then h.hinge.latch = false ∧ h.hinge.relHeld = false else h.hinge.latch = s.hub.hinge.latch ∧ h.hinge.relHeld = true) ∧ h.outs = s.hub.outs)) ∧
  (∀ (s : State), Completes (.boltRelExpire) s (fun h =>
      h.hinge.relHeld = false ∧ h.hinge.latch = s.hub.hinge.latch ∧ h.outs = s.hub.outs)) ∧
  (∀ (s : State), Can.boltRelRepeat s = true → Completes (.boltRelRepeat) s (fun h =>
      h.hinge.relRepeat = s.hub.flag HNG_BOLT_field_latched ∧ h.hinge.txL = (if s.hub.flag HNG_BOLT_field_latched then enq s.hub.hinge.txL { typ := 0x32, payload := 0, prio := 1 } else s.hub.hinge.txL) ∧ h.outs = s.hub.outs)) ∧
  (∀ (s : State), Can.boltRelSend s = true → Completes (.boltRelSend) s (fun h =>
      h.dev.exitStep = (if s.hub.dev.exitStep = 1 then 2 else s.hub.dev.exitStep) ∧ h.hinge.relDue = false ∧ h.hinge.relRepeat = true ∧ h.hinge.txL = enq s.hub.hinge.txL { typ := 0x32, payload := 0, prio := 1 })) ∧
  (∀ (s : State) (ivs : List (BitVec 16)) (gap : BitVec 16), Can.boltDecision ivs gap s = true → Completes (.boltDecision ⟨ivs, gap⟩) s (fun h =>
      (400 ≤ gap.toNat → h.hinge.latch = true ∧ h.hinge.fieldDecides = .bolt ∧ h.hinge.clear10 = false ∧ h.hinge.relHeld = false ∧ h.hinge.fholdSince = none ∧ (∀ c : Fin 16, s.hub.fIsOut c = true → (h.out c).latched = (s.hub.hinge.firstApplied && s.hub.fSafeOn c) ∧ (h.out c).fholdRun = false)) ∧ (gap.toNat < 400 → lastNear 4 125 (ivs.map BitVec.toNat) = true → h.hinge.fieldDecides = .clear ∧ h.hinge.latch = s.hub.hinge.latch ∧ h.outs = s.hub.outs) ∧ (gap.toNat < 400 → lastNear 4 250 (ivs.map BitVec.toNat) = true → h.hinge.fieldDecides = .hold ∧ h.hinge.clear10 = false ∧ h.hinge.fholdSince.isSome = true ∧ h.hinge.latch = s.hub.hinge.latch) ∧ (gap.toNat < 400 → lastNear 4 125 (ivs.map BitVec.toNat) = false → lastNear 4 250 (ivs.map BitVec.toNat) = false → h.hinge = s.hub.hinge ∧ h.outs = s.hub.outs))) ∧
  (∀ (s : State) (field : Bool), Can.boltCode field s = true → Completes (.boltCode field) s (fun h =>
      h.rd HNG_BOLT_code_errors = satInc (2 ^ HNG_BOLT_code_errors.width - 1) (s.hub.rd HNG_BOLT_code_errors) ∧ h.hinge.latch = s.hub.hinge.latch ∧ (s.hub.fltEnabled 15 = true → s.hub.proofHides 15 16 = false → s.hub.dev.phase = .up → s.hub.testGroup ≠ 5 → h.fltSet 15 = true))) ∧
  (∀ (s : State) (field : Bool), Can.boltCode2 field s = true → Completes (.boltCode field) s (fun h =>
      h.hinge.latch = true ∧ h.hinge.fieldDecides = .bolt ∧ h.hinge.fholdSince = none ∧ (s.hub.fHidden 24 16 = false → bitOf h.flt.fieldSticky 24 = true) ∧ (∀ c : Fin 16, s.hub.fIsOut c = true → (h.out c).latched = (s.hub.hinge.firstApplied && s.hub.fSafeOn c)))) ∧
  (∀ (s : State), Can.boltLatchClear s = true → Completes (.boltLatchClear) s (fun h =>
      h.hinge.clear10 = true ∧ h.hinge.latch = (s.hub.hinge.latch && !s.hub.hinge.relHeld) ∧ h.hinge.relHeld = false ∧ h.outs = s.hub.outs)) ∧
  (∀ (s : State), Completes (.boltToneChange) s (fun h =>
      h.hinge.daTone = s.hub.hinge.daWant ∧ h.hinge.latch = s.hub.hinge.latch ∧ h.regs = s.hub.regs ∧ h.outs = s.hub.outs)) ∧
  (∀ (s : State) (ivs : List (BitVec 16)) (gap : BitVec 16), Can.fieldToneDecision ivs gap s = true → Completes (.fieldToneDecision ⟨ivs, gap⟩) s (fun h =>
      (∀ t ∈ daTone (ivs.map BitVec.toNat) gap.toNat, h.hinge.daDecides = t ∧ h.flag DBT_STAT_db_forced = (t == .bolt) ∧ (s.hub.proofHides 16 16 = false → caused h 16 16 = (t == .bolt)) ∧ (t = .hold → h.hinge.porSeen = false)) ∧ (daTone (ivs.map BitVec.toNat) gap.toNat = none → h.hinge = s.hub.hinge ∧ h.regs = s.hub.regs))) ∧
  (∀ (s : State) (c : Fin 16) (ms : Word), Can.fholdExpiry c ms s = true → Completes (.fholdExpiry ⟨c, ms⟩) s (fun h =>
      (h.out c).fholdRun = false ∧ (h.out c).fholdEnded = true ∧ (h.out c).atSafe = s.hub.hinge.firstApplied ∧ (h.out c).latched = (s.hub.hinge.firstApplied && s.hub.fSafeOn c) ∧ (s.hub.hinge.firstApplied = true → bitOf h.hinge.lossSafe c = true))) ∧
  (∀ (s : State) (c : Fin 16) (ms : Word), Can.fholdExpiry2 c ms s = true → Completes (.fholdExpiry ⟨c, ms⟩) s (fun h =>
      h.outs = s.hub.outs ∧ h.hinge = s.hub.hinge))

/-- When `boot` has its effect. R160, R176, R181, R629: the devices are probed; the hub boots the first valid copy in
the order of R176, or enters *Recovery* with every channel off; numbering starts, or waits for the size of a device that
only the Blank gives. -/
def Sys2Proof.Machine.Can.boot (_probe0 : NvmProbe) (_probe1 : NvmProbe) (_lostHeader : List (Fin 4)) (_lostRead : List (Fin 4)) (s : State) : Bool :=
  s.hub.dev.phase == .boot && s.hub.sup.nvmAllowed && !s.hub.dev.rstLow && !s.hub.dev.testHeld && s.hub.dev.halt.isNone && s.hub.sup.pd.isNone

/-- When `arming` has its effect. R178, R190: the sections of the running slot are applied, with the CRCs of the
configuration, and its wards are in *Reset*. -/
def Sys2Proof.Machine.Can.arming (s : State) : Bool :=
  s.hub.dev.phase == .arming && !s.hub.blk.applied && s.hub.memoryReady && s.hub.dev.halt.isNone && s.hub.sup.pd.isNone && (fileGet s.hub.blk.config (fldKey BST_CFG_boot_mem 0 0) == 0 || s.hub.bst.memDone)

/-- When `startupTests` has its effect. R518: the results and the duration of the start-up tests are shown; a failure
raises DBT_START, and nothing else follows before the end of *Arming*. -/
def Sys2Proof.Machine.Can.startupTests (_passed : BitVec 14) (_time : BitVec 11) (_proofs : List (Fin 16 × Fin 16 × Word)) (s : State) : Bool :=
  s.hub.dev.phase == .arming && s.hub.hinge.configured && s.hub.hinge.upL && !s.hub.flag DBT_STARTUP_done

/-- When `enterRun` has its effect. R17, R78, R544: *Arming* ends; the defined wards are *Active*, or *Held* for a
status judged again; outside *Safe* DA asks for CLEAR. -/
def Sys2Proof.Machine.Can.enterRun (s : State) : Bool :=
  s.hub.armingDone

/-- When `shadowCheck` has its effect. R191: the coverage is counted, and the longest interval kept; a difference in the
safety or field part raises CFG_SHADOW_S, and where all agrees neither source is present. -/
def Sys2Proof.Machine.Can.shadowCheck (_upset : Option (BitVec 24 × Word)) (_inShadow : Bool) (_full : Bool) (_interval : BitVec 16) (s : State) : Bool :=
  s.hub.dev.phase == .up

/-- The commands of start-up complete, each under the condition and with the result that its clause gives, after chapter
06. Clause by clause: `boot`: R160, R176, R181, R629: the devices are probed; the hub boots the first valid copy in the
order of R176, or enters *Recovery* with every channel off; numbering starts, or waits for the size of a device that
only the Blank gives. `arming`: R178, R190: the sections of the running slot are applied, with the CRCs of the
configuration, and its wards are in *Reset*. `startupTests`: R518: the results and the duration of the start-up tests
are shown; a failure raises DBT_START, and nothing else follows before the end of *Arming*. `enterRun`: R17, R78, R544:
*Arming* ends; the defined wards are *Active*, or *Held* for a status judged again; outside *Safe* DA asks for CLEAR.
`shadowCheck`: R191: the coverage is counted, and the longest interval kept; a difference in the safety or field part
raises CFG_SHADOW_S, and where all agrees neither source is present. -/
def Obligations.StartUpCommands : Prop :=
  (∀ (s : State) (probe0 : NvmProbe) (probe1 : NvmProbe) (lostHeader : List (Fin 4)) (lostRead : List (Fin 4)), Can.boot probe0 probe1 lostHeader lostRead s = true → Completes (.boot probe0 probe1 lostHeader lostRead) s (fun h =>
      (let k := { s.hub with nvm := vset (vset s.hub.nvm 0 ((s.hub.nvmDev 0).probed probe0)) 1 ((s.hub.nvmDev 1).probed probe1) };
       h.dev.phase = if (k.judgeAll lostRead (k.candidates lostHeader)).any (fun x => x.2.reason == 0) then .arming else .recovery) ∧
      (h.dev.phase = .recovery → h.flag BLK_STAT_recovery = true ∧ ∀ c : Fin 16, (h.out c).sw = false ∧ (h.out c).hiz = true) ∧ h.flag BLK_STAT_sfdp = probeSfdp probe0 ∧
      h.flag BLK_STAT_mirror_present = probeAnswers probe1 ∧ h.rd BLK_NVM_ID_value = probe0.jedec.toNat ∧ (h.nvmDev 0).present = probeAnswers probe0 ∧ (h.nvmDev 1).present = probeAnswers probe1 ∧ (h.recd.numbering = true ∨ h.blk.sizeWaits = true))) ∧
  (∀ (s : State), Can.arming s = true → Completes (.arming) s (fun h =>
      h.blk.applied = true ∧ h.dev.phase = .arming ∧ (∀ w : Fin 8, h.ward w = if h.defined w then .reset else s.hub.ward w) ∧ h.blk.config = s.hub.blk.config ∧ h.blk.sizeWaits = false ∧ h.rd BLK_SHADOW_CRC_crc = shadowCrc s.hub.blk.config false ∧ h.rd BLK_SHADOW_FCRC_crc = shadowCrc s.hub.blk.config true)) ∧
  (∀ (s : State) (passed : BitVec 14) (time : BitVec 11) (proofs : List (Fin 16 × Fin 16 × Word)), Can.startupTests passed time proofs s = true → Completes (.startupTests passed time proofs) s (fun h =>
      h.flag DBT_STARTUP_done = true ∧ h.rd DBT_STARTUP_passed = s.hub.startupPassed passed.toNat proofs ∧ h.rd DBT_STARTUP_time = time.toNat ∧ h.dev = s.hub.dev ∧ (s.hub.startupPassed passed.toNat proofs ≠ 2 ^ 14 - 1 → s.hub.proofHides 49 16 = false → caused h 49 16 = true) ∧ (s.hub.startupPassed passed.toNat proofs = 2 ^ 14 - 1 → caused h 49 16 = caused s.hub 49 16))) ∧
  (∀ (s : State), Can.enterRun s = true → Completes (.enterRun) s (fun h =>
      h.dev.phase = .up ∧ (∀ w : Fin 8, s.hub.defined w = true → h.ward w = .active ∨ h.ward w = .held) ∧ (h.dev.safe = false → h.hinge.daWant = .clear ∧ h.dev.boltBoot = false))) ∧
  (∀ (s : State) (upset : Option (BitVec 24 × Word)) (inShadow : Bool) (full : Bool) (interval : BitVec 16), Can.shadowCheck upset inShadow full interval s = true → Completes (.shadowCheck upset inShadow full interval) s (fun h =>
      h.rd BLK_SHADOW_SCAN_safety_max = max (s.hub.rd BLK_SHADOW_SCAN_safety_max) interval.toNat ∧
      h.rd BLK_SHADOW_SCAN_scans = (if full then satInc 65535 (s.hub.rd BLK_SHADOW_SCAN_scans) else s.hub.rd BLK_SHADOW_SCAN_scans) ∧
      (upset = none → s.hub.shadowDiffs = [] → s.hub.groupFails (fun _ => true) = [] → caused h 17 16 = false ∧ caused h 18 16 = false) ∧ (upset = none → s.hub.proofHides 17 16 = false → s.hub.shadowDiffs.any (fun a => s.hub.inSafetyPart a || inFieldPart a) = true → caused h 17 16 = true)))

/-- When `rcvErase` has its effect. R182: an erase is asked of the scheduler, and the command is busy. -/
def Sys2Proof.Machine.Can.rcvErase (w : Fin 8) (v : Word) (s : State) : Bool :=
  s.hub.recoveryWrites w && bitsOf v.toNat 16 16 == 0x5243 && v.toNat % 16 == 1 && !s.hub.flag BLK_RCV_STAT_busy && s.hub.rd BLK_RCV_ADDR_addr % 4096 == 0

/-- When `rcvErase` has its effect. R182: at an address that is not aligned it ends with result 1. -/
def Sys2Proof.Machine.Can.rcvErase2 (w : Fin 8) (v : Word) (s : State) : Bool :=
  s.hub.recoveryWrites w && bitsOf v.toNat 16 16 == 0x5243 && v.toNat % 16 == 1 && !s.hub.flag BLK_RCV_STAT_busy && s.hub.rd BLK_RCV_ADDR_addr % 4096 != 0

/-- When `rcvProgram` has its effect. R182: a page program is asked of the scheduler, and the command is busy. -/
def Sys2Proof.Machine.Can.rcvProgram (w : Fin 8) (v : Word) (s : State) : Bool :=
  s.hub.recoveryWrites w && bitsOf v.toNat 16 16 == 0x5243 && v.toNat % 16 == 2 && !s.hub.flag BLK_RCV_STAT_busy && s.hub.rd BLK_RCV_ADDR_addr % 256 == 0

/-- When `rcvProgram` has its effect. R182: at an address that is not aligned it ends with result 1. -/
def Sys2Proof.Machine.Can.rcvProgram2 (w : Fin 8) (v : Word) (s : State) : Bool :=
  s.hub.recoveryWrites w && bitsOf v.toNat 16 16 == 0x5243 && v.toNat % 16 == 2 && !s.hub.flag BLK_RCV_STAT_busy && s.hub.rd BLK_RCV_ADDR_addr % 256 != 0

/-- When `rcvRead` has its effect. R182: the page is read by the NVM controller. -/
def Sys2Proof.Machine.Can.rcvRead (w : Fin 8) (v : Word) (s : State) : Bool :=
  s.hub.recoveryWrites w && bitsOf v.toNat 16 16 == 0x5243 && v.toNat % 16 == 3 && !s.hub.flag BLK_RCV_STAT_busy && s.hub.rd BLK_RCV_ADDR_addr % 256 == 0

/-- When `rcvReboot` has its effect. R182, R196, R435: a device soft reset with cause 6 is ordered, and what the NVM
runs goes on. -/
def Sys2Proof.Machine.Can.rcvReboot (w : Fin 8) (v : Word) (s : State) : Bool :=
  s.hub.recoveryWrites w && bitsOf v.toNat 16 16 == 0x5243 && v.toNat % 16 == 4

/-- When `rcvReboot` has its effect. R182: without the key nothing happens. -/
def Sys2Proof.Machine.Can.rcvReboot2 (w : Fin 8) (v : Word) (s : State) : Bool :=
  s.hub.recoveryWrites w && bitsOf v.toNat 16 16 != 0x5243

/-- When `rcvCommandDone` has its effect. R182: the operation is made on every device present; the result, and the
command counted; what a read has brought stands in the buffer. -/
def Sys2Proof.Machine.Can.rcvCommandDone (_good : Bool) (_mirrorOk : Bool) (s : State) : Bool :=
  s.hub.nvmOp.any (fun o => o.use == .recovery)

/-- When `blkCheck` has its effect. R188, R196, R199: the check of the inactive slot runs, or starts again. -/
def Sys2Proof.Machine.Can.blkCheck (w : Fin 8) (v : Word) (s : State) : Bool :=
  s.hub.blkWrites w && w.val == 0 && v.getLsbD 0

/-- When `blkCheck` has its effect. R188: any other write starts none. -/
def Sys2Proof.Machine.Can.blkCheck2 (w : Fin 8) (v : Word) (s : State) : Bool :=
  !(s.hub.blkWrites w && w.val == 0 && v.getLsbD 0)

/-- When `blkCheckDone` has its effect. R188: the reason that the slot fails with, or 0, is shown, unless the slot was
written during the check, and W0 has interrupt source 22. -/
def Sys2Proof.Machine.Can.blkCheckDone (_readOk : Bool) (s : State) : Bool :=
  s.hub.blk.checking

/-- When `blkReboot` has its effect. R189, R199: a device soft reset with cause 5 is ordered, and a running check is
abandoned. -/
def Sys2Proof.Machine.Can.blkReboot (w : Fin 8) (v : Word) (s : State) : Bool :=
  s.hub.blkWrites w && w.val == 0 && v == 0x52424F54

/-- When `blkReboot` has its effect. R189: any other write orders none. -/
def Sys2Proof.Machine.Can.blkReboot2 (w : Fin 8) (v : Word) (s : State) : Bool :=
  !(s.hub.blkWrites w && w.val == 0 && v == 0x52424F54)

/-- When `blkFuse` has its effect. R185: in *Run* or *Degraded*, from a signed slot with a key, the request is counted,
and the state reads partial at least. -/
def Sys2Proof.Machine.Can.blkFuse (w : Fin 8) (v : Word) (s : State) : Bool :=
  s.hub.writable w && w.val == 0 && v == 0x46555345 && s.hub.fuseOk && !s.hub.blk.fusing

/-- When `blkFuse` has its effect. R185: any other request is ignored. -/
def Sys2Proof.Machine.Can.blkFuse2 (w : Fin 8) (v : Word) (s : State) : Bool :=
  !(s.hub.writable w && w.val == 0 && v == 0x46555345 && s.hub.fuseOk && !s.hub.blk.fusing)

/-- When `fuseDone` has its effect. R185: fused, or left partial. -/
def Sys2Proof.Machine.Can.fuseDone (_good : Bool) (s : State) : Bool :=
  s.hub.blk.fusing

/-- The commands of Recovery, the slot check, the Keeper's reboot and the key-hash fuse complete, each under the
condition and with the result that its clause gives, after R182, R185, R188 and R189. Clause by clause: `rcvErase`:
R182: an erase is asked of the scheduler, and the command is busy. `rcvErase`: R182: at an address that is not aligned
it ends with result 1. `rcvProgram`: R182: a page program is asked of the scheduler, and the command is busy.
`rcvProgram`: R182: at an address that is not aligned it ends with result 1. `rcvRead`: R182: the page is read by the
NVM controller. `rcvReboot`: R182, R196, R435: a device soft reset with cause 6 is ordered, and what the NVM runs goes
on. `rcvReboot`: R182: without the key nothing happens. `rcvCommandDone`: R182: the operation is made on every device
present; the result, and the command counted; what a read has brought stands in the buffer. `blkCheck`: R188, R196,
R199: the check of the inactive slot runs, or starts again. `blkCheck`: R188: any other write starts none.
`blkCheckDone`: R188: the reason that the slot fails with, or 0, is shown, unless the slot was written during the check,
and W0 has interrupt source 22. `blkReboot`: R189, R199: a device soft reset with cause 5 is ordered, and a running
check is abandoned. `blkReboot`: R189: any other write orders none. `blkFuse`: R185: in *Run* or *Degraded*, from a
signed slot with a key, the request is counted, and the state reads partial at least. `blkFuse`: R185: any other request
is ignored. `fuseDone`: R185: fused, or left partial. -/
def Obligations.RecoveryCommands : Prop :=
  (∀ (s : State) (w : Fin 8) (v : Word), Can.rcvErase w v s = true → Completes (.rcvErase w v) s (fun h =>
      h.flag BLK_RCV_STAT_busy = true ∧ h.blk.rcv = some (1, s.hub.rd BLK_RCV_ADDR_addr) ∧ h.sch.queue.any (fun x => x.kind == .nvmErase && x.ref == 2) = true ∧ h.nvm = s.hub.nvm)) ∧
  (∀ (s : State) (w : Fin 8) (v : Word), Can.rcvErase2 w v s = true → Completes (.rcvErase w v) s (fun h =>
      h.rd BLK_RCV_STAT_result = 1 ∧ h.flag BLK_RCV_STAT_busy = false ∧ h.rd BLK_RCV_STAT_done = satInc 65535 (s.hub.rd BLK_RCV_STAT_done) ∧ h.sch = s.hub.sch)) ∧
  (∀ (s : State) (w : Fin 8) (v : Word), Can.rcvProgram w v s = true → Completes (.rcvProgram w v) s (fun h =>
      h.flag BLK_RCV_STAT_busy = true ∧ h.blk.rcv = some (2, s.hub.rd BLK_RCV_ADDR_addr) ∧ h.sch.queue.any (fun x => x.kind == .nvmPage && x.ref == 2) = true ∧ h.nvm = s.hub.nvm)) ∧
  (∀ (s : State) (w : Fin 8) (v : Word), Can.rcvProgram2 w v s = true → Completes (.rcvProgram w v) s (fun h =>
      h.rd BLK_RCV_STAT_result = 1 ∧ h.flag BLK_RCV_STAT_busy = false ∧ h.rd BLK_RCV_STAT_done = satInc 65535 (s.hub.rd BLK_RCV_STAT_done) ∧ h.sch = s.hub.sch)) ∧
  (∀ (s : State) (w : Fin 8) (v : Word), Can.rcvRead w v s = true → Completes (.rcvRead w v) s (fun h =>
      h.flag BLK_RCV_STAT_busy = true ∧ h.blk.rcv = some (3, s.hub.rd BLK_RCV_ADDR_addr) ∧ (h.nvmOp.toList ++ h.nvmQ).contains { use := .recovery, kind := 0, addr := s.hub.rd BLK_RCV_ADDR_addr } = true ∧ h.nvm = s.hub.nvm)) ∧
  (∀ (s : State) (w : Fin 8) (v : Word), Can.rcvReboot w v s = true → Completes (.rcvReboot w v) s (fun h =>
      h.dev.softReset = some (6, 0) ∧ h.mem = s.hub.mem ∧ h.regs = s.hub.regs ∧ h.nvmOp = s.hub.nvmOp)) ∧
  (∀ (s : State) (w : Fin 8) (v : Word), Can.rcvReboot2 w v s = true → Completes (.rcvReboot w v) s (fun h =>
      h.dev = s.hub.dev ∧ h.regs = s.hub.regs)) ∧
  (∀ (s : State) (good : Bool) (mirrorOk : Bool), Can.rcvCommandDone good mirrorOk s = true → Completes (.rcvCommandDone ⟨good, mirrorOk⟩) s (fun h =>
      (let ok := (good || !(s.hub.nvmDev 0).present) && (mirrorOk || (s.hub.nvmOp.map (·.kind)) == some 0 || !(s.hub.nvmDev 1).present); h.rd BLK_RCV_STAT_result = (if ok then 0 else 2) ∧ (∀ o ∈ s.hub.nvmOp, o.kind = 0 → ok = true → ∀ i : Fin 64, h.rd BLK_RCV_BUF_data i = leNat (s.hub.nvmRead (if (s.hub.nvmDev 0).present then 0 else 1) (o.addr + 4 * i) 4))) ∧ h.flag BLK_RCV_STAT_busy = false ∧ h.rd BLK_RCV_STAT_done = satInc 65535 (s.hub.rd BLK_RCV_STAT_done) ∧ h.blk.rcv = none ∧ (∀ o ∈ s.hub.nvmOp, o.kind ≠ 0 → good = true → mirrorOk = true → h.nvm = (s.hub.onNvm true o.make o.make).nvm))) ∧
  (∀ (s : State) (w : Fin 8) (v : Word), Can.blkCheck w v s = true → Completes (.blkCheck w v) s (fun h =>
      h.blk.checking = true ∧ h.blk.checkStale = false ∧ h.flag BLK_CTRL_check = true ∧ h.rd BLK_CHECK_reason = s.hub.rd BLK_CHECK_reason)) ∧
  (∀ (s : State) (w : Fin 8) (v : Word), Can.blkCheck2 w v s = true → Completes (.blkCheck w v) s (fun h =>
      h.blk = s.hub.blk ∧ h.regs = s.hub.regs)) ∧
  (∀ (s : State) (readOk : Bool), Can.blkCheckDone readOk s = true → Completes (.blkCheckDone readOk) s (fun h =>
      h.blk.checking = false ∧ h.blk.checkStale = false ∧ h.flag BLK_CTRL_check = false ∧ (s.hub.blk.checkStale = true → h.rd BLK_CHECK_reason = s.hub.rd BLK_CHECK_reason) ∧ (s.hub.blk.checkStale = false → readOk = true → h.rd BLK_CHECK_reason = (if s.hub.copyHeader [] (1 - s.hub.rd BLK_STAT_slot) 0 = 0 then (s.hub.judgeCopy [] { slot := 1 - s.hub.rd BLK_STAT_slot }).reason else s.hub.copyHeader [] (1 - s.hub.rd BLK_STAT_slot) 0) % 16) ∧ (s.hub.blk.checkStale = false → readOk = false → h.rd BLK_CHECK_reason = 1) ∧ (s.hub.intServed = true → (s.hub.ward 0 = .active ∨ s.hub.ward 0 = .held) → bitOf (h.rd INT_STAT_stat 0) 22 = true))) ∧
  (∀ (s : State) (w : Fin 8) (v : Word), Can.blkReboot w v s = true → Completes (.blkReboot w v) s (fun h =>
      h.dev.softReset = some (5, 0) ∧ h.blk.checking = false ∧ h.flag BLK_CTRL_check = false ∧ h.nvmOp = s.hub.nvmOp)) ∧
  (∀ (s : State) (w : Fin 8) (v : Word), Can.blkReboot2 w v s = true → Completes (.blkReboot w v) s (fun h =>
      h.dev = s.hub.dev ∧ h.blk = s.hub.blk)) ∧
  (∀ (s : State) (w : Fin 8) (v : Word), Can.blkFuse w v s = true → Completes (.blkFuse w v) s (fun h =>
      h.blk.fusing = true ∧ h.chip.hashState = max 1 s.hub.chip.hashState ∧ h.chip.hashAttempts = satInc 255 s.hub.chip.hashAttempts ∧ s.hub.blk.keyHash = some h.chip.keyHash ∧ h.regs = s.hub.regs)) ∧
  (∀ (s : State) (w : Fin 8) (v : Word), Can.blkFuse2 w v s = true → Completes (.blkFuse w v) s (fun h =>
      h.chip = s.hub.chip ∧ h.blk = s.hub.blk)) ∧
  (∀ (s : State) (good : Bool), Can.fuseDone good s = true → Completes (.fuseDone good) s (fun h =>
      h.blk.fusing = false ∧ h.chip.hashState = (if good then 2 else s.hub.chip.hashState) ∧ h.regs = s.hub.regs))

/-- When `outCtrlWrite` has its effect. R202, R203, R205: a command away from the safe state is kept, clears safe_hold,
and waits for admission. -/
def Sys2Proof.Machine.Can.outCtrlWrite (w : Fin 8) (c : Fin 16) (v : Word) (s : State) : Bool :=
  s.hub.outCtrlOk w c v.toNat && s.hub.isOut c && s.hub.lead c == c.val && (!v.getLsbD 1 || !s.hub.flag OUT_STAT_tsd_latched c) && s.hub.state != .safe && !s.hub.flag HNG_BOLT_field_latched && !s.hub.isPairCh c && !s.hub.flag OUT_STAT_shed c && v.getLsbD 0 != s.hub.safeOn c && v.getLsbD 0 != s.hub.cmdOn c && !(v.getLsbD 0 && (s.hub.out c).lit)

/-- When `outCtrlWrite` has its effect. R203, R205: a command toward the safe state is sent at once. -/
def Sys2Proof.Machine.Can.outCtrlWrite2 (w : Fin 8) (c : Fin 16) (v : Word) (s : State) : Bool :=
  s.hub.outCtrlOk w c v.toNat && s.hub.isOut c && s.hub.lead c == c.val && (!v.getLsbD 1 || !s.hub.flag OUT_STAT_tsd_latched c) && s.hub.state != .safe && !s.hub.flag HNG_BOLT_field_latched && !s.hub.isPairCh c && !s.hub.flag OUT_STAT_shed c && v.getLsbD 0 == s.hub.safeOn c && !(v.getLsbD 0 == s.hub.cmdOn c && vget s.hub.hinge.cmd c 0 != 2)

/-- When `outCtrlWrite` has its effect. R238: a command of the state that stands cancels what waits. -/
def Sys2Proof.Machine.Can.outCtrlWrite3 (w : Fin 8) (c : Fin 16) (v : Word) (s : State) : Bool :=
  s.hub.outCtrlOk w c v.toNat && s.hub.isOut c && s.hub.lead c == c.val && (!v.getLsbD 1 || !s.hub.flag OUT_STAT_tsd_latched c) && s.hub.state != .safe && !s.hub.flag HNG_BOLT_field_latched && !s.hub.isPairCh c && !s.hub.flag OUT_STAT_shed c && v.getLsbD 0 == s.hub.cmdOn c && vget s.hub.hinge.cmd c 0 != 2

/-- When `outCtrlWrite` has its effect. R205: in *Safe*, or with the bolt latch set, safe_hold stays and the command is
only kept. -/
def Sys2Proof.Machine.Can.outCtrlWrite4 (w : Fin 8) (c : Fin 16) (v : Word) (s : State) : Bool :=
  s.hub.outCtrlOk w c v.toNat && s.hub.isOut c && s.hub.lead c == c.val && (!v.getLsbD 1 || !s.hub.flag OUT_STAT_tsd_latched c) && !(s.hub.state != .safe && !s.hub.flag HNG_BOLT_field_latched) && s.hub.flag OUT_STAT_safe_hold c

/-- When `outCtrlWrite` has its effect. R488: on a shed channel a command of on asks for its restore, and one of off
ends the shed. -/
def Sys2Proof.Machine.Can.outCtrlWrite5 (w : Fin 8) (c : Fin 16) (v : Word) (s : State) : Bool :=
  s.hub.outCtrlOk w c v.toNat && s.hub.isOut c && s.hub.lead c == c.val && (!v.getLsbD 1 || !s.hub.flag OUT_STAT_tsd_latched c) && s.hub.state != .safe && !s.hub.flag HNG_BOLT_field_latched && s.hub.flag OUT_STAT_shed c

/-- When `outCtrlWrite` has its effect. R342, R347: on the pair channel off opens at once and cancels a close, and on is
the hub's part of the pair's command. -/
def Sys2Proof.Machine.Can.outCtrlWrite6 (w : Fin 8) (c : Fin 16) (v : Word) (s : State) : Bool :=
  s.hub.outCtrlOk w c v.toNat && s.hub.isOut c && s.hub.lead c == c.val && (!v.getLsbD 1 || !s.hub.flag OUT_STAT_tsd_latched c) && s.hub.state != .safe && !s.hub.flag HNG_BOLT_field_latched && s.hub.isPairCh c && !s.hub.flag OUT_STAT_shed c

/-- When `rearm` has its effect. R212: the rearm goes to the field die, for both halves of a pair. -/
def Sys2Proof.Machine.Can.rearm (w : Fin 8) (c : Fin 16) (v : Word) (s : State) : Bool :=
  v.getLsbD 1 && s.hub.outCtrlOk w c v.toNat && s.hub.isOut c && s.hub.lead c == c.val && s.hub.flag OUT_STAT_tsd_latched c

/-- When `rearm` has its effect. R200, R204, R208: another's channel, an input, or the odd half of a pair takes none. -/
def Sys2Proof.Machine.Can.rearm2 (w : Fin 8) (c : Fin 16) (v : Word) (s : State) : Bool :=
  !v.getLsbD 1 || !s.hub.outCtrlOk w c v.toNat || !s.hub.isOut c || s.hub.lead c != c.val

/-- When `limitBegin` has its effect. R211, R236: the switch regulates at the ILIM in force, and what it dissipates is
kept for the cost of a restart. -/
def Sys2Proof.Machine.Can.limitBegin (c : Fin 16) (_v : BitVec 16) (s : State) : Bool :=
  (s.hub.out c).sw && !(s.hub.out c).limiting && s.hub.fIsOut c

/-- When `limitEpisode` has its effect. R211, R649: 1 ms of limiting is an episode, counted and flagged. -/
def Sys2Proof.Machine.Can.limitEpisode (c : Fin 16) (s : State) : Bool :=
  (s.hub.out c).limiting && !(s.hub.out c).episode

/-- When `limitEnd` has its effect. R211: the load current falls below ILIM. -/
def Sys2Proof.Machine.Can.limitEnd (c : Fin 16) (s : State) : Bool :=
  (s.hub.out c).limiting

/-- When `thermalShutdown` has its effect. R209, R212: the switch turns off, both halves of a pair, and the channel
latches off or waits to retry. -/
def Sys2Proof.Machine.Can.thermalShutdown (c : Fin 16) (s : State) : Bool :=
  s.hub.fIsOut c && (s.hub.out c).sw

/-- When `thermalShutdown` has its effect. R212: a switch that is off is held off until the junction has cooled. -/
def Sys2Proof.Machine.Can.thermalShutdown2 (c : Fin 16) (s : State) : Bool :=
  s.hub.fIsOut c && !(s.hub.out c).sw

/-- When `retryExpiry` has its effect. R212: the retry interval has passed; where nothing else holds the channel off,
its return asks for admission. -/
def Sys2Proof.Machine.Can.retryExpiry (c : Fin 16) (ms : Word) (s : State) : Bool :=
  (s.hub.out c).retryWait && decide (10 * s.hub.frd OUT_LIM_retry (s.hub.fLead c) ≤ ms.toNat)

/-- When `retryExpiry` has its effect. R212: before the interval has passed nothing happens. -/
def Sys2Proof.Machine.Can.retryExpiry2 (c : Fin 16) (ms : Word) (s : State) : Bool :=
  !(s.hub.out c).retryWait || decide (ms.toNat < 10 * s.hub.frd OUT_LIM_retry (s.hub.fLead c))

/-- When `restartThreshold` has its effect. R212: the junction is below 160 °C; a channel whose retry interval has
passed asks for its return. -/
def Sys2Proof.Machine.Can.restartThreshold (c : Fin 16) (s : State) : Bool :=
  (s.hub.out c).hot

/-- When `uvOff` has its effect. R215: below UVTH an auto-restart channel turns off, and a return that waits is
cancelled. -/
def Sys2Proof.Machine.Can.uvOff (c : Fin 16) (vf : BitVec 16) (s : State) : Bool :=
  s.hub.autoRestart c && decide (vf.toNat < s.hub.uvth c)

/-- When `uvOff` has its effect. R215: a channel without auto-restart, or at UVTH or above, stays as it is. -/
def Sys2Proof.Machine.Can.uvOff2 (c : Fin 16) (vf : BitVec 16) (s : State) : Bool :=
  !s.hub.autoRestart c || decide (s.hub.uvth c ≤ vf.toNat)

/-- When `uvRestart` has its effect. R215: VF has been above UVTH plus the hysteresis for the delay: the channel
returns, through admission unless its safe state is ON. -/
def Sys2Proof.Machine.Can.uvRestart (c : Fin 16) (vf : BitVec 16) (ms : BitVec 16) (s : State) : Bool :=
  (s.hub.out c).uvLow && decide (s.hub.uvBack c < vf.toNat) && decide (s.hub.frd OUT_UV_delay (s.hub.fLead c) ≤ ms.toNat)

/-- When `uvRestart` has its effect. R215: before that nothing returns. -/
def Sys2Proof.Machine.Can.uvRestart2 (c : Fin 16) (vf : BitVec 16) (ms : BitVec 16) (s : State) : Bool :=
  !(s.hub.out c).uvLow || decide (vf.toNat ≤ s.hub.uvBack c) || decide (ms.toNat < s.hub.frd OUT_UV_delay (s.hub.fLead c))

/-- The commands of the output channels complete, each under the condition and with the result that its clause gives,
after chapter 07. Clause by clause: `outCtrlWrite`: R202, R203, R205: a command away from the safe state is kept, clears
safe_hold, and waits for admission. `outCtrlWrite`: R203, R205: a command toward the safe state is sent at once.
`outCtrlWrite`: R238: a command of the state that stands cancels what waits. `outCtrlWrite`: R205: in *Safe*, or with
the bolt latch set, safe_hold stays and the command is only kept. `outCtrlWrite`: R488: on a shed channel a command of
on asks for its restore, and one of off ends the shed. `outCtrlWrite`: R342, R347: on the pair channel off opens at once
and cancels a close, and on is the hub's part of the pair's command. `rearm`: R212: the rearm goes to the field die, for
both halves of a pair. `rearm`: R200, R204, R208: another's channel, an input, or the odd half of a pair takes none.
`limitBegin`: R211, R236: the switch regulates at the ILIM in force, and what it dissipates is kept for the cost of a
restart. `limitEpisode`: R211, R649: 1 ms of limiting is an episode, counted and flagged. `limitEnd`: R211: the load
current falls below ILIM. `thermalShutdown`: R209, R212: the switch turns off, both halves of a pair, and the channel
latches off or waits to retry. `thermalShutdown`: R212: a switch that is off is held off until the junction has cooled.
`retryExpiry`: R212: the retry interval has passed; where nothing else holds the channel off, its return asks for
admission. `retryExpiry`: R212: before the interval has passed nothing happens. `restartThreshold`: R212: the junction
is below 160 °C; a channel whose retry interval has passed asks for its return. `uvOff`: R215: below UVTH an
auto-restart channel turns off, and a return that waits is cancelled. `uvOff`: R215: a channel without auto-restart, or
at UVTH or above, stays as it is. `uvRestart`: R215: VF has been above UVTH plus the hysteresis for the delay: the
channel returns, through admission unless its safe state is ON. `uvRestart`: R215: before that nothing returns. -/
def Obligations.OutputCommands : Prop :=
  (∀ (s : State) (w : Fin 8) (c : Fin 16) (v : Word), Can.outCtrlWrite w c v s = true → Completes (.outCtrlWrite w c v) s (fun h =>
      h.flag OUT_CTRL_on c = v.getLsbD 0 ∧ h.flag OUT_STAT_pending c = true ∧ (∀ x ∈ s.hub.chSet c, h.flag OUT_STAT_safe_hold x = false) ∧ (h.out c).wait = some (v.getLsbD 0) ∧ h.hinge.cmd = s.hub.hinge.cmd ∧ h.sch.queue.any (fun x => x.kind == (if v.getLsbD 0 then .turnOn else .turnOff) && x.ref == c.val) = true)) ∧
  (∀ (s : State) (w : Fin 8) (c : Fin 16) (v : Word), Can.outCtrlWrite2 w c v s = true → Completes (.outCtrlWrite w c v) s (fun h =>
      h.flag OUT_CTRL_on c = v.getLsbD 0 ∧ (∀ x ∈ s.hub.chSet c, h.flag OUT_STAT_safe_hold x = false ∧ vget h.hinge.cmd x 9 = b2n (v.getLsbD 0)) ∧ (h.out c).wait = none ∧ h.flag OUT_STAT_pending c = false)) ∧
  (∀ (s : State) (w : Fin 8) (c : Fin 16) (v : Word), Can.outCtrlWrite3 w c v s = true → Completes (.outCtrlWrite w c v) s (fun h =>
      h.flag OUT_CTRL_on c = v.getLsbD 0 ∧ h.hinge.cmd = s.hub.hinge.cmd ∧ (h.out c).wait = none ∧ h.flag OUT_STAT_pending c = false)) ∧
  (∀ (s : State) (w : Fin 8) (c : Fin 16) (v : Word), Can.outCtrlWrite4 w c v s = true → Completes (.outCtrlWrite w c v) s (fun h =>
      h.flag OUT_CTRL_on c = v.getLsbD 0 ∧ h.flag OUT_STAT_safe_hold c = true ∧ h.hinge.cmd = s.hub.hinge.cmd ∧ h.sch = s.hub.sch)) ∧
  (∀ (s : State) (w : Fin 8) (c : Fin 16) (v : Word), Can.outCtrlWrite5 w c v s = true → Completes (.outCtrlWrite w c v) s (fun h =>
      h.flag OUT_CTRL_on c = v.getLsbD 0 ∧ (v.getLsbD 0 = true → h.sch.queue.any (fun x => x.kind == .restore && x.ref == c.val) = true) ∧ (v.getLsbD 0 = false → h.flag OUT_STAT_shed c = false ∧ h.sch.queue.any (fun x => x.kind == .restore && x.ref == c.val) = false))) ∧
  (∀ (s : State) (w : Fin 8) (c : Fin 16) (v : Word), Can.outCtrlWrite6 w c v s = true → Completes (.outCtrlWrite w c v) s (fun h =>
      h.flag OUT_CTRL_on c = v.getLsbD 0 ∧ h.flag OUT_STAT_pending c = false ∧ (v.getLsbD 0 = false → vget h.hinge.cmd c 9 = 0 ∧ h.flag LSY_PAIR_STAT_close_sched = false ∧ h.lsy.pairOn = false))) ∧
  (∀ (s : State) (w : Fin 8) (c : Fin 16) (v : Word), Can.rearm w c v s = true → Completes (.rearm w c v) s (fun h =>
      (∀ x ∈ s.hub.chSet c, (h.hinge.out ++ h.hinge.waiting).any (fun y => y.what == .rearm x) = true) ∧ h.flag OUT_CTRL_on c = v.getLsbD 0)) ∧
  (∀ (s : State) (w : Fin 8) (c : Fin 16) (v : Word), Can.rearm2 w c v s = true → Completes (.rearm w c v) s (fun h =>
      h.regs = s.hub.regs ∧ h.hinge = s.hub.hinge)) ∧
  (∀ (s : State) (c : Fin 16) (v : BitVec 16), Can.limitBegin c v s = true → Completes (.limitBegin c v) s (fun h =>
      (h.out c).limiting = true ∧ (h.out c).limAt = s.hub.fIlim c ∧ (h.out c).ranSince = none ∧ (h.out c).episode = false ∧ (h.out c).limMw = ((s.hub.sup.vf : Int) - 10 * v.toInt).toNat * s.hub.fIlim c / 10 ∧ (h.out c).sw = true)) ∧
  (∀ (s : State) (c : Fin 16), Can.limitEpisode c s = true → Completes (.limitEpisode c) s (fun h =>
      (h.out c).episode = true ∧ (vget h.life.acc c {}).episodes = satInc (2 ^ 32 - 1) (vget s.hub.life.acc c {}).episodes ∧ h.outLive c 3 = true ∧ bitOf (h.out c).flt 3 = true)) ∧
  (∀ (s : State) (c : Fin 16), Can.limitEnd c s = true → Completes (.limitEnd c) s (fun h =>
      (h.out c).limiting = false ∧ (h.out c).limAt = 0 ∧ (h.out c).ranSince = some s.hub.clk.now ∧ h.outLive c 3 = false ∧ (h.out c).sw = (s.hub.out c).sw)) ∧
  (∀ (s : State) (c : Fin 16), Can.thermalShutdown c s = true → Completes (.thermalShutdown c) s (fun h =>
      (h.out c).sw = false ∧ (h.out c).hot = true ∧ ((h.out c).tsdLatched || (h.out c).retryWait) = true ∧ (h.out c).latched = (s.hub.out c).latched ∧ (vget h.life.acc c {}).shutdowns = satInc 65535 (vget s.hub.life.acc c {}).shutdowns ∧ h.outLive c 4 = true ∧ (∀ x ∈ s.hub.fHalves c, (h.out x).sw = false))) ∧
  (∀ (s : State) (c : Fin 16), Can.thermalShutdown2 c s = true → Completes (.thermalShutdown c) s (fun h =>
      (h.out c).hot = true ∧ (h.out c).tsdLatched = (s.hub.out c).tsdLatched ∧ (h.out c).retryWait = (s.hub.out c).retryWait ∧ h.flt.fLive = s.hub.flt.fLive)) ∧
  (∀ (s : State) (c : Fin 16) (ms : Word), Can.retryExpiry c ms s = true → Completes (.retryExpiry ⟨c, ms⟩) s (fun h =>
      ((h.out c).retryDone = true ∨ (h.out c).retryWait = false) ∧ (s.hub.fMode c ≠ 7 → (h.out c).retryDone = true ∧ (h.out c).retryWait = true) ∧ (s.hub.fMode c ≠ 7 → (s.hub.out c).hot = false → (s.hub.out c).uvLow = false → (s.hub.out c).tsdLatched = false → (s.hub.out c).latched = true → s.hub.flag OUT_STAT_shed c = false → h.sch.queue.any (fun x => x.kind == (if (s.hub.out c).uvOff then .uvReturn else .retry) && x.ref == c.val) = true))) ∧
  (∀ (s : State) (c : Fin 16) (ms : Word), Can.retryExpiry2 c ms s = true → Completes (.retryExpiry ⟨c, ms⟩) s (fun h =>
      h.outs = s.hub.outs ∧ h.sch = s.hub.sch)) ∧
  (∀ (s : State) (c : Fin 16), Can.restartThreshold c s = true → Completes (.restartThreshold c) s (fun h =>
      (h.out c).hot = false ∧ (s.hub.fMode c ≠ 7 → (s.hub.out c).retryWait = true → (s.hub.out c).retryDone = true → (s.hub.out c).uvLow = false → (s.hub.out c).tsdLatched = false → (s.hub.out c).latched = true → s.hub.flag OUT_STAT_shed c = false → h.sch.queue.any (fun x => x.kind == (if (s.hub.out c).uvOff then .uvReturn else .retry) && x.ref == c.val) = true))) ∧
  (∀ (s : State) (c : Fin 16) (vf : BitVec 16), Can.uvOff c vf s = true → Completes (.uvOff ⟨c, vf⟩) s (fun h =>
      (h.out c).uvLow = true ∧ (h.out c).sw = false ∧ (h.out c).go = false ∧ (h.out c).latched = (s.hub.out c).latched ∧ ((s.hub.out c).latched = true → (h.out c).uvOff = true) ∧ h.sch.queue.any (fun x => x.kind == .uvReturn && x.ref == s.hub.fLead c) = false)) ∧
  (∀ (s : State) (c : Fin 16) (vf : BitVec 16), Can.uvOff2 c vf s = true → Completes (.uvOff ⟨c, vf⟩) s (fun h =>
      h.outs = s.hub.outs ∧ h.sch = s.hub.sch)) ∧
  (∀ (s : State) (c : Fin 16) (vf : BitVec 16) (ms : BitVec 16), Can.uvRestart c vf ms s = true → Completes (.uvRestart ⟨c, vf, ms⟩) s (fun h =>
      (h.out c).uvLow = false ∧ (s.hub.fMode c ≠ 7 → (s.hub.out c).uvOff = true → (s.hub.out c).hot = false → (s.hub.out c).retryWait = false → (s.hub.out c).tsdLatched = false → (s.hub.out c).latched = true → (s.hub.fSafeOn c = true → (h.out c).uvOff = false) ∧ (s.hub.fSafeOn c = false → s.hub.flag OUT_STAT_shed c = false → h.sch.queue.any (fun x => x.kind == .uvReturn && x.ref == c.val) = true)))) ∧
  (∀ (s : State) (c : Fin 16) (vf : BitVec 16) (ms : BitVec 16), Can.uvRestart2 c vf ms s = true → Completes (.uvRestart ⟨c, vf, ms⟩) s (fun h =>
      h.outs = s.hub.outs ∧ h.sch = s.hub.sch))

/-- When `offStateCheck` has its effect. R221: at the check interval a pull-up check starts. -/
def Sys2Proof.Machine.Can.offStateCheck (c : Fin 16) (ms : Word) (s : State) : Bool :=
  s.hub.restingOff c && s.hub.frd OUT_DIAG_ol_off_en (s.hub.fLead c) != 0 && decide (10 * s.hub.checkPeriod c ≤ ms.toNat) && s.hub.fMode c != 5

/-- When `offStateCheck` has its effect. R223: on an LED channel a lit check asks for admission. -/
def Sys2Proof.Machine.Can.offStateCheck2 (c : Fin 16) (ms : Word) (s : State) : Bool :=
  s.hub.restingOff c && s.hub.frd OUT_DIAG_ol_off_en (s.hub.fLead c) != 0 && decide (10 * s.hub.checkPeriod c ≤ ms.toNat) && s.hub.fMode c == 5 && !s.hub.litBarred c

/-- When `offStateCheck` has its effect. R221: otherwise none starts. -/
def Sys2Proof.Machine.Can.offStateCheck3 (c : Fin 16) (ms : Word) (s : State) : Bool :=
  !s.hub.restingOff c || s.hub.frd OUT_DIAG_ol_off_en (s.hub.fLead c) == 0 || decide (ms.toNat < 10 * s.hub.checkPeriod c)

/-- When `offStateCheckEnd` has its effect. R708: with VF above 45 V a check ends without a conclusion. -/
def Sys2Proof.Machine.Can.offStateCheckEnd (c : Fin 16) (_v : BitVec 16) (s : State) : Bool :=
  (s.hub.out c).check && s.hub.vfHigh

/-- When `offStateCheckEnd` has its effect. R221, R225: 6.0 V or more is a short to VF; below 2.0 V the check passes;
between them it fails, and two in a row are an open load. -/
def Sys2Proof.Machine.Can.offStateCheckEnd2 (c : Fin 16) (_v : BitVec 16) (s : State) : Bool :=
  (s.hub.out c).check && !s.hub.vfHigh

/-- When `litCheck` has its effect. R223, R649: an admitted lit check starts, and counts no cycle. -/
def Sys2Proof.Machine.Can.litCheck (c : Fin 16) (s : State) : Bool :=
  (s.hub.out c).litOk && s.hub.restingOff c && !s.hub.litBarred c

/-- When `litCheck` has its effect. R223: none starts on a channel that is held, shed or not at rest, in *Safe* or
without the link. -/
def Sys2Proof.Machine.Can.litCheck2 (c : Fin 16) (s : State) : Bool :=
  (s.hub.out c).litOk && !(s.hub.restingOff c && !s.hub.litBarred c)

/-- When `litCheckEnd` has its effect. R708: with VF above 45 V a lit check ends without a conclusion. -/
def Sys2Proof.Machine.Can.litCheckEnd (c : Fin 16) (_fine : BitVec 12) (s : State) : Bool :=
  (s.hub.out c).lit && s.hub.vfHigh

/-- When `litCheckEnd` has its effect. R223: the check ends, level checks are blanked for 100 µs, and two currents below
the threshold in a row are an open load. -/
def Sys2Proof.Machine.Can.litCheckEnd2 (c : Fin 16) (_fine : BitVec 12) (s : State) : Bool :=
  (s.hub.out c).lit && !s.hub.vfHigh

/-- When `readback` has its effect. R200, R224, R225, R240, R708: the measurements are shown, and a level check that is
due passes or fails by the pin voltage; 6.0 V in an off-state check ends it with the short concluded; above 45 V of VF
no bit is set. -/
def Sys2Proof.Machine.Can.readback (c : Fin 16) (_v : BitVec 16) (_normal : BitVec 12) (_fine : BitVec 12) (s : State) : Bool :=
  s.hub.sup.fieldUp && s.hub.fIsOut c

/-- When `pairMismatch` has its effect. R209: the mismatch is reported on the even half. -/
def Sys2Proof.Machine.Can.pairMismatch (c : Fin 16) (a : BitVec 12) (b : BitVec 12) (s : State) : Bool :=
  s.hub.fMode c == 7 && !s.hub.vfHigh && (s.hub.out c).sw && pairApart a.toNat b.toNat

/-- When `pairMismatch` has its effect. R209, R708: halves that agree within 30 % report none; nor does anything with VF
above 45 V. -/
def Sys2Proof.Machine.Can.pairMismatch2 (c : Fin 16) (a : BitVec 12) (b : BitVec 12) (s : State) : Bool :=
  s.hub.fMode c != 7 || s.hub.vfHigh || !(s.hub.out c).sw || !pairApart a.toNat b.toNat

/-- The checks of the outputs complete, each under the condition and with the result that its clause gives, after R209
and R221 to R226. Clause by clause: `offStateCheck`: R221: at the check interval a pull-up check starts.
`offStateCheck`: R223: on an LED channel a lit check asks for admission. `offStateCheck`: R221: otherwise none starts.
`offStateCheckEnd`: R708: with VF above 45 V a check ends without a conclusion. `offStateCheckEnd`: R221, R225: 6.0 V or
more is a short to VF; below 2.0 V the check passes; between them it fails, and two in a row are an open load.
`litCheck`: R223, R649: an admitted lit check starts, and counts no cycle. `litCheck`: R223: none starts on a channel
that is held, shed or not at rest, in *Safe* or without the link. `litCheckEnd`: R708: with VF above 45 V a lit check
ends without a conclusion. `litCheckEnd`: R223: the check ends, level checks are blanked for 100 µs, and two currents
below the threshold in a row are an open load. `readback`: R200, R224, R225, R240, R708: the measurements are shown, and
a level check that is due passes or fails by the pin voltage; 6.0 V in an off-state check ends it with the short
concluded; above 45 V of VF no bit is set. `pairMismatch`: R209: the mismatch is reported on the even half.
`pairMismatch`: R209, R708: halves that agree within 30 % report none; nor does anything with VF above 45 V. -/
def Obligations.OutputChecks : Prop :=
  (∀ (s : State) (c : Fin 16) (ms : Word), Can.offStateCheck c ms s = true → Completes (.offStateCheck ⟨c, ms⟩) s (fun h =>
      (h.out c).check = true ∧ (h.out c).latched = false ∧ h.regs = s.hub.regs)) ∧
  (∀ (s : State) (c : Fin 16) (ms : Word), Can.offStateCheck2 c ms s = true → Completes (.offStateCheck ⟨c, ms⟩) s (fun h =>
      h.sch.queue.any (fun x => x.kind == .litCheck && x.ref == c.val) = true ∧ h.outs = s.hub.outs)) ∧
  (∀ (s : State) (c : Fin 16) (ms : Word), Can.offStateCheck3 c ms s = true → Completes (.offStateCheck ⟨c, ms⟩) s (fun h =>
      h.outs = s.hub.outs ∧ h.sch = s.hub.sch)) ∧
  (∀ (s : State) (c : Fin 16) (v : BitVec 16), Can.offStateCheckEnd c v s = true → Completes (.offStateCheckEnd c v) s (fun h =>
      (h.out c).check = false ∧ (h.out c).flt = (s.hub.out c).flt ∧ (h.out c).checkFails = (s.hub.out c).checkFails)) ∧
  (∀ (s : State) (c : Fin 16) (v : BitVec 16), Can.offStateCheckEnd2 c v s = true → Completes (.offStateCheckEnd c v) s (fun h =>
      (h.out c).check = false ∧ h.outLive c 2 = decide (600 ≤ v.toInt) ∧ (v.toInt < 200 → (h.out c).checkFails = 0 ∧ h.outLive c 0 = false) ∧ (200 ≤ v.toInt → v.toInt < 600 → (h.out c).checkFails = (s.hub.out c).checkFails + 1 ∧ (1 ≤ (s.hub.out c).checkFails → h.outLive c 0 = true)))) ∧
  (∀ (s : State) (c : Fin 16), Can.litCheck c s = true → Completes (.litCheck c) s (fun h =>
      (h.out c).lit = true ∧ (h.out c).litOk = false ∧ (h.out c).sw = s.hub.mayConduct c ∧ (h.out c).latched = false ∧ h.life = s.hub.life)) ∧
  (∀ (s : State) (c : Fin 16), Can.litCheck2 c s = true → Completes (.litCheck c) s (fun h =>
      (h.out c).litOk = false ∧ (h.out c).lit = (s.hub.out c).lit ∧ (h.out c).sw = (s.hub.out c).sw)) ∧
  (∀ (s : State) (c : Fin 16) (fine : BitVec 12), Can.litCheckEnd c fine s = true → Completes (.litCheckEnd c fine) s (fun h =>
      (h.out c).lit = false ∧ bitOf (h.out c).flt 0 = bitOf (s.hub.out c).flt 0 ∧ (h.out c).checkFails = (s.hub.out c).checkFails)) ∧
  (∀ (s : State) (c : Fin 16) (fine : BitVec 12), Can.litCheckEnd2 c fine s = true → Completes (.litCheckEnd c fine) s (fun h =>
      (h.out c).lit = false ∧ (h.out c).blankTill = s.hub.clk.now + 10000 ∧ (s.hub.belowLed c fine.toNat = false → (h.out c).checkFails = 0 ∧ h.outLive c 0 = false) ∧ (s.hub.belowLed c fine.toNat = true → (h.out c).checkFails = (s.hub.out c).checkFails + 1 ∧ (1 ≤ (s.hub.out c).checkFails → h.outLive c 0 = true)))) ∧
  (∀ (s : State) (c : Fin 16) (v : BitVec 16) (normal : BitVec 12) (fine : BitVec 12), Can.readback c v normal fine s = true → Completes (.readback c v normal fine) s (fun h =>
      (s.hub.hinge.upL = true → h.rd OUT_MEAS_V_vpin c = ofSigned 16 v.toInt ∧ h.rd OUT_MEAS_I_normal c = normal.toNat ∧ h.rd OUT_MEAS_I_fine c = fine.toNat ∧ h.flag OUT_MEAS_I_fine_sat c = (fine.toNat == 4095)) ∧ (h.out c).cur = s.hub.measMa c normal.toNat fine.toNat ∧ (s.hub.levelDue c = true → (s.hub.out c).latched = true → (s.hub.out c).sw = true → ((s.hub.sup.vf : Int) - 3000 ≤ 10 * v.toInt → (h.out c).failAt = none ∧ h.outLive c 5 = false ∧ h.outLive c 6 = false) ∧ (10 * v.toInt < (s.hub.sup.vf : Int) - 3000 → (s.hub.out c).limiting = false → (h.out c).failAt = some (false, s.hub.clk.now))) ∧ (s.hub.levelDue c = true → (s.hub.out c).latched = false → (v.toInt < 600 → (h.out c).failAt = none ∧ h.outLive c 5 = false ∧ h.outLive c 6 = false ∧ h.outLive c 2 = false) ∧ (600 ≤ v.toInt → 640 ≤ 25 * normal.toNat → (h.out c).failAt = some (true, s.hub.clk.now))) ∧ ((s.hub.out c).check = true → 600 ≤ v.toInt → (h.out c).check = false ∧ (s.hub.vfHigh = false → h.outLive c 2 = true)) ∧ (s.hub.vfHigh = true → (h.out c).flt = (s.hub.out c).flt))) ∧
  (∀ (s : State) (c : Fin 16) (a : BitVec 12) (b : BitVec 12), Can.pairMismatch c a b s = true → Completes (.pairMismatch ⟨c, a, b⟩) s (fun h =>
      h.outLive (s.hub.fLead c) 10 = true ∧ bitOf (h.out (s.hub.fLead c)).flt 10 = true ∧ (h.out c).sw = true)) ∧
  (∀ (s : State) (c : Fin 16) (a : BitVec 12) (b : BitVec 12), Can.pairMismatch2 c a b s = true → Completes (.pairMismatch ⟨c, a, b⟩) s (fun h =>
      h.outs = s.hub.outs ∧ h.flt.fLive = s.hub.flt.fLive))

/-- When `darkPulse` has its effect. R208, R232: a requested dark pulse opens the switch of an energised channel, both
halves of a pair. -/
def Sys2Proof.Machine.Can.darkPulse (c : Fin 16) (s : State) : Bool :=
  s.hub.fIsOut c && s.hub.hinge.configured && s.hub.pulseAsked c && (s.hub.fHalves c).all (fun x => !(s.hub.out x).hiz && (s.hub.out x).pulse.isNone && !(s.hub.out x).pulsed && !(s.hub.out x).lit) && s.hub.frd OUT_TP_dark_en (s.hub.fLead c) != 0 && (s.hub.fHalves c).all (fun x => (s.hub.out x).sw && !(s.hub.out x).limiting)

/-- When `darkPulse` has its effect. R232: a requested bright pulse closes the switch of a channel that is off. -/
def Sys2Proof.Machine.Can.darkPulse2 (c : Fin 16) (s : State) : Bool :=
  s.hub.fIsOut c && s.hub.hinge.configured && s.hub.pulseAsked c && (s.hub.fHalves c).all (fun x => !(s.hub.out x).hiz && (s.hub.out x).pulse.isNone && !(s.hub.out x).pulsed && !(s.hub.out x).lit) && s.hub.frd OUT_TP_bright_en (s.hub.fLead c) != 0 && (s.hub.fHalves c).all (fun x => !(s.hub.out x).latched && !(s.hub.out x).check && !(s.hub.out x).sw && s.hub.mayConduct x)

/-- When `darkPulse` has its effect. R232: without a request, or on a channel that pulses or is checked, none begins. -/
def Sys2Proof.Machine.Can.darkPulse3 (c : Fin 16) (s : State) : Bool :=
  !(s.hub.fIsOut c && s.hub.hinge.configured && s.hub.pulseAsked c && (s.hub.fHalves c).all (fun x => !(s.hub.out x).hiz && (s.hub.out x).pulse.isNone && !(s.hub.out x).pulsed && !(s.hub.out x).lit))

/-- When `pulseEnd` has its effect. R232, R233: a dark pulse ends; it passes where the voltage or the current fell far
enough in it, and otherwise sets dark_fail. -/
def Sys2Proof.Machine.Can.pulseEnd (c : Fin 16) (us : Word) (_v : BitVec 16) (_i : BitVec 12) (s : State) : Bool :=
  (s.hub.out c).pulse == some .dark && !s.hub.vfHigh && !(s.hub.pulseAsked c && decide (us.toNat < s.hub.pulseMax c .dark))

/-- When `pulseEnd` has its effect. R232, R233: a bright pulse ends alike, with bright_fail. -/
def Sys2Proof.Machine.Can.pulseEnd2 (c : Fin 16) (us : Word) (_v : BitVec 16) (_i : BitVec 12) (s : State) : Bool :=
  (s.hub.out c).pulse == some .bright && !s.hub.vfHigh && !(s.hub.pulseAsked c && decide (us.toNat < s.hub.pulseMax c .bright))

/-- When `pulseEnd` has its effect. R708: with VF above 45 V a pulse ends and sets no bit. -/
def Sys2Proof.Machine.Can.pulseEnd3 (c : Fin 16) (us : Word) (_v : BitVec 16) (_i : BitVec 12) (s : State) : Bool :=
  (s.hub.out c).pulse.any (fun k => !(s.hub.pulseAsked c && decide (us.toNat < s.hub.pulseMax c k))) && s.hub.vfHigh

/-- When `tpMiss` has its effect. R234: an interval without a passing dark pulse sets tp_miss; the next one starts. -/
def Sys2Proof.Machine.Can.tpMiss (c : Fin 16) (ms : Word) (s : State) : Bool :=
  s.hub.darkSupervised c && decide (2 * s.hub.frd OUT_TP_period c ≤ ms.toNat)

/-- When `tpMiss` has its effect. R234: without supervision, or before the interval ends, nothing is judged. -/
def Sys2Proof.Machine.Can.tpMiss2 (c : Fin 16) (ms : Word) (s : State) : Bool :=
  !s.hub.darkSupervised c || decide (ms.toNat < 2 * s.hub.frd OUT_TP_period c)

/-- When `pwmEdgeCheck` has its effect. R708: with VF above 45 V no edge is judged. -/
def Sys2Proof.Machine.Can.pwmEdgeCheck (_c : Fin 16) (_v : BitVec 16) (s : State) : Bool :=
  s.hub.vfHigh

/-- When `pwmEdgeCheck` has its effect. R235: after a rising edge a pin within 3 V of VF passes, after a falling one a
pin more than 6 V below it; the rest fail. -/
def Sys2Proof.Machine.Can.pwmEdgeCheck2 (c : Fin 16) (_v : BitVec 16) (s : State) : Bool :=
  s.hub.fMode c == 8 && !s.hub.vfHigh && s.hub.hinge.configured && !(s.hub.out c).hiz

/-- When `outRtWrite` has its effect. R231: the trims are taken within the Blank's values and go to the field die. -/
def Sys2Proof.Machine.Can.outRtWrite (w : Fin 8) (c : Fin 16) (_v : Word) (s : State) : Bool :=
  s.hub.writable w && s.hub.chOwner c == some w.val && bitOf (s.hub.rd WRD_EXP_OPEN_open w) 4 && s.hub.hinge.upL && s.hub.fieldReset == 0 && !s.hub.flag OUT_CFG_safety (s.hub.lead c) && s.hub.isOut c && s.hub.lead c == c.val

/-- When `outRtWrite` has its effect. R231: without page 4, on a safety channel or on another ward's, no trim is taken.
-/
def Sys2Proof.Machine.Can.outRtWrite2 (w : Fin 8) (c : Fin 16) (_v : Word) (s : State) : Bool :=
  s.hub.flag OUT_CFG_safety (s.hub.lead c) || !bitOf (s.hub.rd WRD_EXP_OPEN_open w) 4 || s.hub.chOwner c != some w.val

/-- When `outFltClear` has its effect. R227: the flags whose condition has ended are cleared on both dies; the others
count as refused. -/
def Sys2Proof.Machine.Can.outFltClear (w : Fin 8) (c : Fin 16) (_v : Word) (s : State) : Bool :=
  s.hub.writable w && s.hub.chOwner c == some w.val && s.hub.isOut c && s.hub.hinge.upL && s.hub.fieldReset == 0

/-- The test pulses of the outputs, their trims and the clears of OUT_FLT complete, each under the condition and with
the result that its clause gives, after R227 to R235. Clause by clause: `darkPulse`: R208, R232: a requested dark pulse
opens the switch of an energised channel, both halves of a pair. `darkPulse`: R232: a requested bright pulse closes the
switch of a channel that is off. `darkPulse`: R232: without a request, or on a channel that pulses or is checked, none
begins. `pulseEnd`: R232, R233: a dark pulse ends; it passes where the voltage or the current fell far enough in it, and
otherwise sets dark_fail. `pulseEnd`: R232, R233: a bright pulse ends alike, with bright_fail. `pulseEnd`: R708: with VF
above 45 V a pulse ends and sets no bit. `tpMiss`: R234: an interval without a passing dark pulse sets tp_miss; the next
one starts. `tpMiss`: R234: without supervision, or before the interval ends, nothing is judged. `pwmEdgeCheck`: R708:
with VF above 45 V no edge is judged. `pwmEdgeCheck`: R235: after a rising edge a pin within 3 V of VF passes, after a
falling one a pin more than 6 V below it; the rest fail. `outRtWrite`: R231: the trims are taken within the Blank's
values and go to the field die. `outRtWrite`: R231: without page 4, on a safety channel or on another ward's, no trim is
taken. `outFltClear`: R227: the flags whose condition has ended are cleared on both dies; the others count as refused.
-/
def Obligations.OutputPulses : Prop :=
  (∀ (s : State) (c : Fin 16), Can.darkPulse c s = true → Completes (.darkPulse c) s (fun h =>
      ∀ x ∈ s.hub.fHalves c, (h.out x).pulse = some .dark ∧ (h.out x).pulsed = true ∧ (h.out x).sw = false ∧ (h.out x).latched = (s.hub.out x).latched)) ∧
  (∀ (s : State) (c : Fin 16), Can.darkPulse2 c s = true → Completes (.darkPulse c) s (fun h =>
      ∀ x ∈ s.hub.fHalves c, (h.out x).pulse = some .bright ∧ (h.out x).pulsed = true ∧ (h.out x).sw = true ∧ (h.out x).latched = false)) ∧
  (∀ (s : State) (c : Fin 16), Can.darkPulse3 c s = true → Completes (.darkPulse c) s (fun h =>
      h.outs = s.hub.outs ∧ h.regs = s.hub.regs)) ∧
  (∀ (s : State) (c : Fin 16) (us : Word) (v : BitVec 16) (i : BitVec 12), Can.pulseEnd c us v i s = true → Completes (.pulseEnd ⟨c, us⟩ v i) s (fun h =>
      (h.out c).pulse = none ∧ (h.out c).blankTill = s.hub.clk.now + 10000 ∧ (((s.hub.out (s.hub.fLead c)).pulsePass || s.hub.pulsePasses .dark v.toInt i.toNat) = true → h.outLive (s.hub.fLead c) 7 = false ∧ h.outLive (s.hub.fLead c) 9 = false ∧ (h.out (s.hub.fLead c)).tpSeen = true) ∧ (((s.hub.out (s.hub.fLead c)).pulsePass || s.hub.pulsePasses .dark v.toInt i.toNat) = false → s.hub.fHidden 7 (s.hub.fLead c) = false → h.outLive (s.hub.fLead c) 7 = true))) ∧
  (∀ (s : State) (c : Fin 16) (us : Word) (v : BitVec 16) (i : BitVec 12), Can.pulseEnd2 c us v i s = true → Completes (.pulseEnd ⟨c, us⟩ v i) s (fun h =>
      (h.out c).pulse = none ∧ (h.out c).blankTill = s.hub.clk.now + 10000 ∧ (((s.hub.out (s.hub.fLead c)).pulsePass || s.hub.pulsePasses .bright v.toInt i.toNat) = true → h.outLive (s.hub.fLead c) 8 = false) ∧ (((s.hub.out (s.hub.fLead c)).pulsePass || s.hub.pulsePasses .bright v.toInt i.toNat) = false → h.outLive (s.hub.fLead c) 8 = true))) ∧
  (∀ (s : State) (c : Fin 16) (us : Word) (v : BitVec 16) (i : BitVec 12), Can.pulseEnd3 c us v i s = true → Completes (.pulseEnd ⟨c, us⟩ v i) s (fun h =>
      (h.out c).pulse = none ∧ (h.out c).blankTill = s.hub.clk.now + 10000 ∧ bitOf (h.out (s.hub.fLead c)).flt 7 = bitOf (s.hub.out (s.hub.fLead c)).flt 7 ∧ bitOf (h.out (s.hub.fLead c)).flt 8 = bitOf (s.hub.out (s.hub.fLead c)).flt 8)) ∧
  (∀ (s : State) (c : Fin 16) (ms : Word), Can.tpMiss c ms s = true → Completes (.tpMiss ⟨c, ms⟩) s (fun h =>
      (h.out c).tpSeen = false ∧ h.outLive c 9 = (s.hub.outLive c 9 || !(s.hub.out c).tpSeen) ∧ (h.out c).sw = (s.hub.out c).sw)) ∧
  (∀ (s : State) (c : Fin 16) (ms : Word), Can.tpMiss2 c ms s = true → Completes (.tpMiss ⟨c, ms⟩) s (fun h =>
      h.outs = s.hub.outs ∧ h.flt.fLive = s.hub.flt.fLive)) ∧
  (∀ (s : State) (c : Fin 16) (v : BitVec 16), Can.pwmEdgeCheck c v s = true → Completes (.pwmEdgeCheck c v) s (fun h =>
      h.outs = s.hub.outs ∧ h.flt = s.hub.flt)) ∧
  (∀ (s : State) (c : Fin 16) (v : BitVec 16), Can.pwmEdgeCheck2 c v s = true → Completes (.pwmEdgeCheck c v) s (fun h =>
      ((s.hub.out c).latched = true → (s.hub.out c).sw = true → (s.hub.out c).limiting = false → ((s.hub.sup.vf : Int) - 3000 ≤ 10 * v.toInt → (h.out c).failAt = none ∧ h.outLive c 5 = false ∧ h.outLive c 6 = false) ∧ (10 * v.toInt < (s.hub.sup.vf : Int) - 3000 → (h.out c).failAt = some (false, s.hub.clk.now))) ∧ ((s.hub.out c).latched = false → (10 * v.toInt < (s.hub.sup.vf : Int) - 6000 → (h.out c).failAt = none ∧ h.outLive c 5 = false ∧ h.outLive c 6 = false) ∧ ((s.hub.sup.vf : Int) - 6000 ≤ 10 * v.toInt → (h.out c).failAt = some (true, s.hub.clk.now))) ∧ (h.out c).sw = (s.hub.out c).sw)) ∧
  (∀ (s : State) (w : Fin 8) (c : Fin 16) (v : Word), Can.outRtWrite w c v s = true → Completes (.outRtWrite w c v) s (fun h =>
      h.rd OUT_RT_ilim_rt c = s.hub.takenIlim c (bitsOf v.toNat 24 5) ∧ h.rd OUT_RT_ol_period_rt c = s.hub.takenPeriod c (bitsOf v.toNat 0 8) ∧ (h.hinge.out ++ h.hinge.waiting).any (fun x => x.what == .trim c (h.rd OUT_RT_ilim_rt c) (h.rd OUT_RT_ol_period_rt c)) = true)) ∧
  (∀ (s : State) (w : Fin 8) (c : Fin 16) (v : Word), Can.outRtWrite2 w c v s = true → Completes (.outRtWrite w c v) s (fun h =>
      h.regs = s.hub.regs ∧ h.hinge = s.hub.hinge)) ∧
  (∀ (s : State) (w : Fin 8) (c : Fin 16) (v : Word), Can.outFltClear w c v s = true → Completes (.outFltClear w c v) s (fun h =>
      (∀ b : Fin 12, v.getLsbD b = true → s.hub.outLive c b = false → h.flag (outFltFlds.getD b OUT_FLT_open_off) c = false) ∧
      h.rd FLT_CLR_REFUSED_live = satAdd (2 ^ FLT_CLR_REFUSED_live.width - 1) (s.hub.rd FLT_CLR_REFUSED_live) (popCount 12 (s.hub.outKept c (v.toNat % 4096))) ∧ (clrMask (v.toNat % 4096) (s.hub.outKept c (v.toNat % 4096)) ≠ 0 → (h.hinge.out ++ h.hinge.waiting).any (fun x => x.what == .clearOut c (clrMask (v.toNat % 4096) (s.hub.outKept c (v.toNat % 4096)))) = true)))

/-- When `inputCrossing` has its effect. R243, R247, R249: a crossing of the thresholds starts a candidate edge with its
stamp, or one back discards it; before the first state the level held is timed. -/
def Sys2Proof.Machine.Can.inputCrossing (c : Fin 16) (_v : BitVec 16) (_own : Bool) (s : State) : Bool :=
  s.hub.inSensed c && (s.hub.inp c).own.isNone && (s.hub.inp c).foreign.isNone

/-- When `inputCrossing` has its effect. R257, R258, R265: in a check window a crossing is noted there and starts none;
an OFF reading in a foreign window is xshort. -/
def Sys2Proof.Machine.Can.inputCrossing2 (c : Fin 16) (_v : BitVec 16) (_own : Bool) (s : State) : Bool :=
  s.hub.inSensed c && ((s.hub.inp c).own.isSome || (s.hub.inp c).foreign.isSome)

/-- When `inputCrossing` has its effect. R243, R273: a channel that is not sensed takes no edge. -/
def Sys2Proof.Machine.Can.inputCrossing3 (c : Fin 16) (_v : BitVec 16) (_own : Bool) (s : State) : Bool :=
  !s.hub.inSensed c

/-- When `debounceAccept` has its effect. R247, R252, R266, R649: a level held for T is accepted, counted, and stored
with the stamp of its crossing, in the FIFO or, with the link lost, in the field die's buffer. -/
def Sys2Proof.Machine.Can.debounceAccept (c : Fin 16) (held : Word) (s : State) : Bool :=
  decide (s.hub.debTicks c ≤ held.toNat) && s.hub.inSensed c && (s.hub.inp c).own.isNone && (s.hub.inp c).foreign.isNone && (s.hub.inp c).valid && (s.hub.inp c).cand.isSome

/-- When `debounceAccept` has its effect. R249: the first debounced state is no edge. -/
def Sys2Proof.Machine.Can.debounceAccept2 (c : Fin 16) (held : Word) (s : State) : Bool :=
  decide (s.hub.debTicks c ≤ held.toNat) && s.hub.inSensed c && (s.hub.inp c).own.isNone && (s.hub.inp c).foreign.isNone && !(s.hub.inp c).valid

/-- When `debounceAccept` has its effect. R247: a level held for less than T changes nothing. -/
def Sys2Proof.Machine.Can.debounceAccept3 (c : Fin 16) (held : Word) (s : State) : Bool :=
  decide (held.toNat < s.hub.debTicks c)

/-- When `inTsLoRead` has its effect. R251: the oldest entry leaves the FIFO, and its upper half is latched; with none
the half is not valid. -/
def Sys2Proof.Machine.Can.inTsLoRead (w : Fin 8) (c : Fin 16) (s : State) : Bool :=
  s.hub.readable w && s.hub.chOwner c == some w.val && s.hub.isIn c

/-- When `inputMeasure` has its effect. R253, R255: the measurement is shown, and a current at the threshold ends
wb_live and restarts its timer. -/
def Sys2Proof.Machine.Can.inputMeasure (c : Fin 16) (_v : BitVec 16) (_i : BitVec 12) (s : State) : Bool :=
  s.hub.sup.fieldUp && s.hub.fIsIn c

/-- When `wireBreak` has its effect. R253, R260, R269: wire_break is set and its condition is present, and a safety
input is forced. -/
def Sys2Proof.Machine.Can.wireBreak (c : Fin 16) (us : Word) (s : State) : Bool :=
  s.hub.inSensed c && s.hub.frd IN_WB_en c != 0 && s.hub.wbDue c us.toNat

/-- When `wireBreak` has its effect. R253, R269: before the time has passed without its pauses, or unsupervised, none is
set. -/
def Sys2Proof.Machine.Can.wireBreak2 (c : Fin 16) (us : Word) (s : State) : Bool :=
  !s.hub.inSensed c || s.hub.frd IN_WB_en c == 0 || !s.hub.wbDue c us.toNat

/-- When `tpWindowEnd` has its effect. R257, R259, R269: an OFF reading in the window passes the check, and its absence
sets tp_fail. -/
def Sys2Proof.Machine.Can.tpWindowEnd (c : Fin 16) (us : Word) (s : State) : Bool :=
  (s.hub.inp c).own.isSome && s.hub.windowOver c us.toNat

/-- When `tpWindowEnd` has its effect. R257: before its time no window ends. -/
def Sys2Proof.Machine.Can.tpWindowEnd2 (c : Fin 16) (us : Word) (s : State) : Bool :=
  (s.hub.inp c).own.isNone || !s.hub.windowOver c us.toNat

/-- When `tpLate` has its effect. R259: an interval without a passing check sets tp_late; the next one starts. -/
def Sys2Proof.Machine.Can.tpLate (c : Fin 16) (ms : Word) (s : State) : Bool :=
  s.hub.tpSupervised c && decide (2 * s.hub.frd IN_TPC_period c ≤ ms.toNat)

/-- When `tpLate` has its effect. R259: without supervision, or before the interval ends, nothing is judged. -/
def Sys2Proof.Machine.Can.tpLate2 (c : Fin 16) (ms : Word) (s : State) : Bool :=
  !s.hub.tpSupervised c || decide (ms.toNat < 2 * s.hub.frd IN_TPC_period c)

/-- When `foreignWindowEnd` has its effect. R262, R265: the window ends; without a crossing xshort is no longer present.
-/
def Sys2Proof.Machine.Can.foreignWindowEnd (c : Fin 16) (us : Word) (s : State) : Bool :=
  (s.hub.inp c).foreign.isSome && s.hub.windowOver c us.toNat

/-- When `foreignWindowEnd` has its effect. R265: before its time no window ends. -/
def Sys2Proof.Machine.Can.foreignWindowEnd2 (c : Fin 16) (us : Word) (s : State) : Bool :=
  (s.hub.inp c).foreign.isNone || !s.hub.windowOver c us.toNat

/-- When `inFltClear` has its effect. R263: the flags whose condition has ended are cleared on both dies; the others
count as refused. -/
def Sys2Proof.Machine.Can.inFltClear (w : Fin 8) (c : Fin 16) (_v : Word) (s : State) : Bool :=
  s.hub.writable w && s.hub.chOwner c == some w.val && s.hub.isIn c && s.hub.hinge.upL

/-- The commands of the input channels complete, each under the condition and with the result that its clause gives,
after chapter 08. Clause by clause: `inputCrossing`: R243, R247, R249: a crossing of the thresholds starts a candidate
edge with its stamp, or one back discards it; before the first state the level held is timed. `inputCrossing`: R257,
R258, R265: in a check window a crossing is noted there and starts none; an OFF reading in a foreign window is xshort.
`inputCrossing`: R243, R273: a channel that is not sensed takes no edge. `debounceAccept`: R247, R252, R266, R649: a
level held for T is accepted, counted, and stored with the stamp of its crossing, in the FIFO or, with the link lost, in
the field die's buffer. `debounceAccept`: R249: the first debounced state is no edge. `debounceAccept`: R247: a level
held for less than T changes nothing. `inTsLoRead`: R251: the oldest entry leaves the FIFO, and its upper half is
latched; with none the half is not valid. `inputMeasure`: R253, R255: the measurement is shown, and a current at the
threshold ends wb_live and restarts its timer. `wireBreak`: R253, R260, R269: wire_break is set and its condition is
present, and a safety input is forced. `wireBreak`: R253, R269: before the time has passed without its pauses, or
unsupervised, none is set. `tpWindowEnd`: R257, R259, R269: an OFF reading in the window passes the check, and its
absence sets tp_fail. `tpWindowEnd`: R257: before its time no window ends. `tpLate`: R259: an interval without a passing
check sets tp_late; the next one starts. `tpLate`: R259: without supervision, or before the interval ends, nothing is
judged. `foreignWindowEnd`: R262, R265: the window ends; without a crossing xshort is no longer present.
`foreignWindowEnd`: R265: before its time no window ends. `inFltClear`: R263: the flags whose condition has ended are
cleared on both dies; the others count as refused. -/
def Obligations.InputCommands : Prop :=
  (∀ (s : State) (c : Fin 16) (v : BitVec 16) (own : Bool), Can.inputCrossing c v own s = true → Completes (.inputCrossing c ⟨v, own⟩) s (fun h =>
      (h.inp c).raw = (inputReads (s.hub.fMode c) v.toInt (s.hub.inp c).raw own) ∧ (h.inp c).deb = (s.hub.inp c).deb ∧ (h.inp c).fifo = (s.hub.inp c).fifo ∧ (h.inp c).cand = (if (s.hub.inp c).valid = false then some (s.hub.crossStamp, s.hub.clk.now) else if (inputReads (s.hub.fMode c) v.toInt (s.hub.inp c).raw own) = (s.hub.inp c).deb then none else some ((s.hub.inp c).cand.getD (s.hub.crossStamp, s.hub.clk.now))))) ∧
  (∀ (s : State) (c : Fin 16) (v : BitVec 16) (own : Bool), Can.inputCrossing2 c v own s = true → Completes (.inputCrossing c ⟨v, own⟩) s (fun h =>
      (h.inp c).raw = (inputReads (s.hub.fMode c) v.toInt (s.hub.inp c).raw own) ∧ (h.inp c).deb = (s.hub.inp c).deb ∧ (h.inp c).cand = (s.hub.inp c).cand ∧ (h.inp c).own = (s.hub.inp c).own.map (fun w => w.see (s.hub.inp c).deb (inputReads (s.hub.fMode c) v.toInt (s.hub.inp c).raw own) s.hub.crossStamp s.hub.clk.now s.hub.stampUncertain) ∧ ((s.hub.inp c).foreign.isSome = true → (inputReads (s.hub.fMode c) v.toInt (s.hub.inp c).raw own) = false → bitOf (h.inp c).flt 4 = true ∧ bitOf (h.inp c).live 4 = true))) ∧
  (∀ (s : State) (c : Fin 16) (v : BitVec 16) (own : Bool), Can.inputCrossing3 c v own s = true → Completes (.inputCrossing c ⟨v, own⟩) s (fun h =>
      (h.inp c).raw = (inputReads (s.hub.fMode c) v.toInt (s.hub.inp c).raw own) ∧ (h.inp c).cand = (s.hub.inp c).cand ∧ (h.inp c).deb = (s.hub.inp c).deb ∧ h.regs = s.hub.regs)) ∧
  (∀ (s : State) (c : Fin 16) (held : Word), Can.debounceAccept c held s = true → Completes (.debounceAccept ⟨c, held⟩) s (fun h =>
      (h.inp c).deb = (s.hub.inp c).raw ∧ (h.inp c).cand = none ∧ (h.inp c).edges = ((s.hub.inp c).edges + 1) % 2 ^ 32 ∧ (s.hub.hinge.upL = true → h.rd IN_EDGES_count c = (h.inp c).edges) ∧ (vget h.life.acc c {}).edges = satInc (2 ^ 40 - 1) (vget s.hub.life.acc c {}).edges ∧ (∀ x ∈ (s.hub.inp c).cand, ((s.hub.hinge.upF && s.hub.hinge.upL && !s.hub.flag HNG_STAT_rejoin) = true → (s.hub.inp c).fifo.length < 32 → (h.inp c).fifo.map (fun e => (e.stamp, e.dir)) = (s.hub.inp c).fifo.map (fun e => (e.stamp, e.dir)) ++ [(x.1, (s.hub.inp c).raw)]) ∧ ((s.hub.hinge.upF && s.hub.hinge.upL && !s.hub.flag HNG_STAT_rejoin) = false → (s.hub.inp c).buffer.length < 32 → (h.inp c).buffer.map (fun e => (e.stamp, e.dir)) = (s.hub.inp c).buffer.map (fun e => (e.stamp, e.dir)) ++ [(x.1, (s.hub.inp c).raw)])))) ∧
  (∀ (s : State) (c : Fin 16) (held : Word), Can.debounceAccept2 c held s = true → Completes (.debounceAccept ⟨c, held⟩) s (fun h =>
      (h.inp c).valid = true ∧ (h.inp c).deb = (s.hub.inp c).raw ∧ (h.inp c).cand = none ∧ (h.inp c).edges = (s.hub.inp c).edges ∧ ((s.hub.inp c).frozen = none → (h.inp c).fifo = (s.hub.inp c).fifo))) ∧
  (∀ (s : State) (c : Fin 16) (held : Word), Can.debounceAccept3 c held s = true → Completes (.debounceAccept ⟨c, held⟩) s (fun h =>
      h.ins = s.hub.ins ∧ h.regs = s.hub.regs)) ∧
  (∀ (s : State) (w : Fin 8) (c : Fin 16), Can.inTsLoRead w c s = true → Completes (.inTsLoRead w c) s (fun h =>
      (h.inp c).fifo = (s.hub.inp c).fifo.tail ∧ h.flag IN_TS_HI_valid c = !(s.hub.inp c).fifo.isEmpty ∧ (∀ e ∈ (s.hub.inp c).fifo.head?, h.rd IN_TS_HI_stamp c = e.stamp / 2 ^ 32 % 2 ^ 16 ∧ h.flag IN_TS_HI_dir c = e.dir ∧ h.flag IN_TS_HI_uncertain c = e.uncertain ∧ h.flag IN_TS_HI_gap c = e.gap ∧ h.flag IN_TS_HI_forced c = e.forced))) ∧
  (∀ (s : State) (c : Fin 16) (v : BitVec 16) (i : BitVec 12), Can.inputMeasure c v i s = true → Completes (.inputMeasure c v i) s (fun h =>
      (s.hub.hinge.upL = true → h.rd IN_MEAS_vpin c = v.toNat ∧ h.rd IN_MEAS_i c = i.toNat) ∧ (50 * s.hub.frd IN_WB_th c ≤ i.toNat → bitOf (h.inp c).live 0 = false ∧ (h.inp c).wbPause = 0) ∧ (i.toNat < 50 * s.hub.frd IN_WB_th c → (h.inp c).live = (s.hub.inp c).live) ∧ (h.inp c).raw = (s.hub.inp c).raw)) ∧
  (∀ (s : State) (c : Fin 16) (us : Word), Can.wireBreak c us s = true → Completes (.wireBreak ⟨c, us⟩) s (fun h =>
      bitOf (h.inp c).flt 0 = true ∧ bitOf (h.inp c).live 0 = true ∧ (h.inp c).raw = (s.hub.inp c).raw ∧ (s.hub.frd IN_CFG_safety c ≠ 0 → h.inForced c = true))) ∧
  (∀ (s : State) (c : Fin 16) (us : Word), Can.wireBreak2 c us s = true → Completes (.wireBreak ⟨c, us⟩) s (fun h =>
      h.ins = s.hub.ins ∧ h.flt.fLive = s.hub.flt.fLive)) ∧
  (∀ (s : State) (c : Fin 16) (us : Word), Can.tpWindowEnd c us s = true → Completes (.tpWindowEnd ⟨c, us⟩) s (fun h =>
      (h.inp c).own = none ∧ (h.inp c).wbTill = s.hub.clk.now + 100 * Config.ticksPerUs ∧ ((s.hub.inp c).own.any (fun x => x.seenOff) = true → (h.inp c).passed = true ∧ bitOf (h.inp c).live 1 = false ∧ bitOf (h.inp c).live 2 = false) ∧ ((s.hub.inp c).own.any (fun x => x.seenOff) = false → s.hub.fHidden 13 c = false → bitOf (h.inp c).flt 1 = true ∧ bitOf (h.inp c).live 1 = true))) ∧
  (∀ (s : State) (c : Fin 16) (us : Word), Can.tpWindowEnd2 c us s = true → Completes (.tpWindowEnd ⟨c, us⟩) s (fun h =>
      h.ins = s.hub.ins ∧ h.regs = s.hub.regs)) ∧
  (∀ (s : State) (c : Fin 16) (ms : Word), Can.tpLate c ms s = true → Completes (.tpLate ⟨c, ms⟩) s (fun h =>
      (h.inp c).passed = false ∧ ((s.hub.inp c).passed = false → bitOf (h.inp c).flt 2 = true ∧ bitOf (h.inp c).live 2 = true) ∧ ((s.hub.inp c).passed = true → (h.inp c).flt = (s.hub.inp c).flt))) ∧
  (∀ (s : State) (c : Fin 16) (ms : Word), Can.tpLate2 c ms s = true → Completes (.tpLate ⟨c, ms⟩) s (fun h =>
      h.ins = s.hub.ins ∧ h.flt.fLive = s.hub.flt.fLive)) ∧
  (∀ (s : State) (c : Fin 16) (us : Word), Can.foreignWindowEnd c us s = true → Completes (.foreignWindowEnd ⟨c, us⟩) s (fun h =>
      (h.inp c).foreign = none ∧ (h.inp c).wbTill = s.hub.clk.now + 100 * Config.ticksPerUs ∧ ((s.hub.inp c).foreign.any (fun x => !x.seenOff) = true → bitOf (h.inp c).live 4 = false) ∧ ((s.hub.inp c).foreign.any (fun x => x.seenOff) = true → (h.inp c).live = (s.hub.inp c).live))) ∧
  (∀ (s : State) (c : Fin 16) (us : Word), Can.foreignWindowEnd2 c us s = true → Completes (.foreignWindowEnd ⟨c, us⟩) s (fun h =>
      h.ins = s.hub.ins ∧ h.regs = s.hub.regs)) ∧
  (∀ (s : State) (w : Fin 8) (c : Fin 16) (v : Word), Can.inFltClear w c v s = true → Completes (.inFltClear w c v) s (fun h =>
      (∀ b : Fin 6, v.getLsbD b = true → bitOf (s.hub.inKept c (v.toNat % 64)) b = false → h.flag (inFltFlds.getD b IN_FLT_discard) c = false) ∧
      h.rd FLT_CLR_REFUSED_live = satAdd (2 ^ FLT_CLR_REFUSED_live.width - 1) (s.hub.rd FLT_CLR_REFUSED_live) (popCount 6 (s.hub.inKept c (v.toNat % 64))) ∧ (clrMask (v.toNat % 64) (s.hub.inKept c (v.toNat % 64)) ≠ 0 → (h.hinge.out ++ h.hinge.waiting).any (fun x => x.what == .clearIn c (clrMask (v.toNat % 64) (s.hub.inKept c (v.toNat % 64)))) = true)))

/-- When `stop` has its effect. R283, R294: the tumbler stops with cause 1, holding or releasing its pattern. -/
def Sys2Proof.Machine.Can.stop (t : Fin 8) (s : State) : Bool :=
  s.hub.comesTo t 0

/-- When `loop` has its effect. R286: the count and the address of the loop are pushed. -/
def Sys2Proof.Machine.Can.loop (t : Fin 8) (s : State) : Bool :=
  s.hub.comesTo t 2 && wArg (s.hub.nextWord t) % 2 ^ 16 != 0 && decide ((s.hub.tmb t).loops.length < 4) && decide ((s.hub.tmb t).zeros < 16)

/-- When `loop` has its effect. R286, R299: a fifth loop is a program error. -/
def Sys2Proof.Machine.Can.loop2 (t : Fin 8) (s : State) : Bool :=
  s.hub.comesTo t 2 && wArg (s.hub.nextWord t) % 2 ^ 16 != 0 && decide (4 ≤ (s.hub.tmb t).loops.length)

/-- When `endl` has its effect. R286: the loop goes round while its count is above 1, and ends with its entry popped. -/
def Sys2Proof.Machine.Can.endl (t : Fin 8) (s : State) : Bool :=
  s.hub.comesTo t 3 && !(s.hub.tmb t).loops.isEmpty && decide ((s.hub.tmb t).zeros < 16)

/-- When `endl` has its effect. R286, R299: ENDL without a loop is a program error. -/
def Sys2Proof.Machine.Can.endl2 (t : Fin 8) (s : State) : Bool :=
  s.hub.comesTo t 3 && (s.hub.tmb t).loops.isEmpty

/-- When `jmp` has its effect. R283: the tumbler goes on at the target. -/
def Sys2Proof.Machine.Can.jmp (t : Fin 8) (s : State) : Bool :=
  s.hub.comesTo t 4 && decide (wArg (s.hub.nextWord t) % 2 ^ 10 < s.hub.regionLen t) && decide ((s.hub.tmb t).zeros < 16)

/-- When `jmp` has its effect. R299: a target outside the region is a program error. -/
def Sys2Proof.Machine.Can.jmp2 (t : Fin 8) (s : State) : Bool :=
  s.hub.comesTo t 4 && decide (s.hub.regionLen t ≤ wArg (s.hub.nextWord t) % 2 ^ 10)

/-- When `brc` has its effect. R287, R288: the branch is taken where the condition, inverted as bit 23 says, holds. -/
def Sys2Proof.Machine.Can.brc (t : Fin 8) (s : State) : Bool :=
  s.hub.comesTo t 5 && (s.hub.condIs t (bitsOf (wArg (s.hub.nextWord t)) 24 8)).isSome && decide (wArg (s.hub.nextWord t) % 2 ^ 10 < s.hub.regionLen t) && decide ((s.hub.tmb t).zeros < 16)

/-- When `wait` has its effect. R287: a condition that holds ends the WAIT at the second address after it. -/
def Sys2Proof.Machine.Can.wait (t : Fin 8) (s : State) : Bool :=
  s.hub.comesTo t 6 && (s.hub.condIs t (bitsOf (wArg (s.hub.nextWord t)) 24 8)).isSome && s.hub.condIs t (bitsOf (wArg (s.hub.nextWord t)) 24 8) != some (bitOf (wArg (s.hub.nextWord t)) 23)

/-- When `wait` has its effect. R287: a condition that does not hold takes a cycle in which the pattern holds. -/
def Sys2Proof.Machine.Can.wait2 (t : Fin 8) (s : State) : Bool :=
  s.hub.comesTo t 6 && s.hub.condIs t (bitsOf (wArg (s.hub.nextWord t)) 24 8) == some (bitOf (wArg (s.hub.nextWord t)) 23) && !(wArg (s.hub.nextWord t) % 2 ^ 23 != 0 && decide (wArg (s.hub.nextWord t) % 2 ^ 23 ≤ (if (s.hub.tmb t).waitAt == some (s.hub.tmb t).next then (s.hub.tmb t).waited else 0))) && s.hub.tsFits t (s.hub.tsNow t)

/-- When `waitTimeout` has its effect. R287: the timeout ends the WAIT at the next address. -/
def Sys2Proof.Machine.Can.waitTimeout (t : Fin 8) (s : State) : Bool :=
  s.hub.comesTo t 6 && s.hub.condIs t (bitsOf (wArg (s.hub.nextWord t)) 24 8) == some (bitOf (wArg (s.hub.nextWord t)) 23) && (s.hub.tmb t).waitAt == some (s.hub.tmb t).next && wArg (s.hub.nextWord t) % 2 ^ 23 != 0 && decide (wArg (s.hub.nextWord t) % 2 ^ 23 ≤ (s.hub.tmb t).waited)

/-- When `call` has its effect. R286: the return address is pushed. -/
def Sys2Proof.Machine.Can.call (t : Fin 8) (s : State) : Bool :=
  s.hub.comesTo t 7 && decide ((s.hub.tmb t).calls.length < 4) && decide (wArg (s.hub.nextWord t) % 2 ^ 10 < s.hub.regionLen t) && decide ((s.hub.tmb t).zeros < 16)

/-- When `call` has its effect. R286, R299: a fifth call is a program error. -/
def Sys2Proof.Machine.Can.call2 (t : Fin 8) (s : State) : Bool :=
  s.hub.comesTo t 7 && decide (4 ≤ (s.hub.tmb t).calls.length)

/-- When `ret` has its effect. R286: the tumbler goes on at the return address. -/
def Sys2Proof.Machine.Can.ret (t : Fin 8) (s : State) : Bool :=
  s.hub.comesTo t 8 && !(s.hub.tmb t).calls.isEmpty && decide ((s.hub.tmb t).zeros < 16)

/-- When `ret` has its effect. R286, R299: RET without a call is a program error. -/
def Sys2Proof.Machine.Can.ret2 (t : Fin 8) (s : State) : Bool :=
  s.hub.comesTo t 8 && (s.hub.tmb t).calls.isEmpty

/-- The instructions of control flow complete at their vector boundary, each under the condition and with the result
that its clause gives, after R283 to R288. Clause by clause: `stop`: R283, R294: the tumbler stops with cause 1, holding
or releasing its pattern. `loop`: R286: the count and the address of the loop are pushed. `loop`: R286, R299: a fifth
loop is a program error. `endl`: R286: the loop goes round while its count is above 1, and ends with its entry popped.
`endl`: R286, R299: ENDL without a loop is a program error. `jmp`: R283: the tumbler goes on at the target. `jmp`: R299:
a target outside the region is a program error. `brc`: R287, R288: the branch is taken where the condition, inverted as
bit 23 says, holds. `wait`: R287: a condition that holds ends the WAIT at the second address after it. `wait`: R287: a
condition that does not hold takes a cycle in which the pattern holds. `waitTimeout`: R287: the timeout ends the WAIT at
the next address. `call`: R286: the return address is pushed. `call`: R286, R299: a fifth call is a program error.
`ret`: R286: the tumbler goes on at the return address. `ret`: R286, R299: RET without a call is a program error. -/
def Obligations.TumblerControlFlow : Prop :=
  (∀ (s : State) (t : Fin 8), Can.stop t s = true → Completes (.stop t) s (fun h =>
      h.tmbState t = 0 ∧ h.rd TMB_STAT_stop_cause t = 1 ∧ (h.tmb t).issued = none ∧ ((h.tmb t).released = ((s.hub.tmb t).released || bitOf (wArg (s.hub.nextWord t)) 0)))) ∧
  (∀ (s : State) (t : Fin 8), Can.loop t s = true → Completes (.loop t) s (fun h =>
      (h.tmb t).loops = (wArg (s.hub.nextWord t) % 2 ^ 16, (s.hub.tmb t).next + 1) :: (s.hub.tmb t).loops ∧ (h.tmb t).next = (s.hub.tmb t).next + 1 ∧ h.tmbState t = s.hub.tmbState t)) ∧
  (∀ (s : State) (t : Fin 8), Can.loop2 t s = true → Completes (.loop t) s (fun h =>
      h.tmbState t = 5 ∧ h.rd TMB_STAT_stop_cause t = 3 ∧ h.rd TMB_ERR_code t = 4 ∧ h.rd TMB_ERR_addr t = (s.hub.tmb t).next % 1024 ∧ (s.hub.proofHides 30 t = false → caused h 30 t = true))) ∧
  (∀ (s : State) (t : Fin 8), Can.endl t s = true → Completes (.endl t) s (fun h =>
      (∀ x ∈ (s.hub.tmb t).loops.head?.toList, (1 < x.1 → (h.tmb t).next = x.2 ∧ (h.tmb t).loops = (x.1 - 1, x.2) :: (s.hub.tmb t).loops.tail) ∧
        (x.1 ≤ 1 → (h.tmb t).next = (s.hub.tmb t).next + 1 ∧ (h.tmb t).loops = (s.hub.tmb t).loops.tail)))) ∧
  (∀ (s : State) (t : Fin 8), Can.endl2 t s = true → Completes (.endl t) s (fun h =>
      h.tmbState t = 5 ∧ h.rd TMB_STAT_stop_cause t = 3 ∧ h.rd TMB_ERR_code t = 4 ∧ h.rd TMB_ERR_addr t = (s.hub.tmb t).next % 1024 ∧ (s.hub.proofHides 30 t = false → caused h 30 t = true))) ∧
  (∀ (s : State) (t : Fin 8), Can.jmp t s = true → Completes (.jmp t) s (fun h =>
      (h.tmb t).next = wArg (s.hub.nextWord t) % 2 ^ 10 ∧ (h.tmb t).loops = (s.hub.tmb t).loops ∧ (h.tmb t).calls = (s.hub.tmb t).calls)) ∧
  (∀ (s : State) (t : Fin 8), Can.jmp2 t s = true → Completes (.jmp t) s (fun h =>
      h.tmbState t = 5 ∧ h.rd TMB_STAT_stop_cause t = 3 ∧ h.rd TMB_ERR_code t = 3 ∧ h.rd TMB_ERR_addr t = (s.hub.tmb t).next % 1024 ∧ (s.hub.proofHides 30 t = false → caused h 30 t = true))) ∧
  (∀ (s : State) (t : Fin 8), Can.brc t s = true → Completes (.brc t) s (fun h =>
      (h.tmb t).next = (if s.hub.condIs t (bitsOf (wArg (s.hub.nextWord t)) 24 8) == some (bitOf (wArg (s.hub.nextWord t)) 23) then (s.hub.tmb t).next + 1 else wArg (s.hub.nextWord t) % 2 ^ 10))) ∧
  (∀ (s : State) (t : Fin 8), Can.wait t s = true → Completes (.wait t) s (fun h =>
      (h.tmb t).next = (s.hub.tmb t).next + 2 ∧ (h.tmb t).waitAt = none ∧ (h.tmb t).waited = 0)) ∧
  (∀ (s : State) (t : Fin 8), Can.wait2 t s = true → Completes (.wait t) s (fun h =>
      (h.tmb t).next = (s.hub.tmb t).next ∧ (h.tmb t).waitAt = some ((s.hub.tmb t).next) ∧ (h.tmb t).waited = (if (s.hub.tmb t).waitAt = some (s.hub.tmb t).next then (s.hub.tmb t).waited else 0) + 1 ∧ h.tmbState t = 3 ∧ (h.tmb t).issued = some (s.hub.rd TMB_PATTERN_pins t, 0, s.hub.tsNow t))) ∧
  (∀ (s : State) (t : Fin 8), Can.waitTimeout t s = true → Completes (.waitTimeout t) s (fun h =>
      (h.tmb t).next = (s.hub.tmb t).next + 1 ∧ (h.tmb t).waitAt = none ∧ (h.tmb t).waited = 0)) ∧
  (∀ (s : State) (t : Fin 8), Can.call t s = true → Completes (.call t) s (fun h =>
      (h.tmb t).calls = ((s.hub.tmb t).next + 1) :: (s.hub.tmb t).calls ∧ (h.tmb t).next = wArg (s.hub.nextWord t) % 2 ^ 10)) ∧
  (∀ (s : State) (t : Fin 8), Can.call2 t s = true → Completes (.call t) s (fun h =>
      h.tmbState t = 5 ∧ h.rd TMB_STAT_stop_cause t = 3 ∧ h.rd TMB_ERR_code t = 4 ∧ h.rd TMB_ERR_addr t = (s.hub.tmb t).next % 1024 ∧ (s.hub.proofHides 30 t = false → caused h 30 t = true))) ∧
  (∀ (s : State) (t : Fin 8), Can.ret t s = true → Completes (.ret t) s (fun h =>
      some (h.tmb t).next = (s.hub.tmb t).calls.head? ∧ (h.tmb t).calls = (s.hub.tmb t).calls.tail)) ∧
  (∀ (s : State) (t : Fin 8), Can.ret2 t s = true → Completes (.ret t) s (fun h =>
      h.tmbState t = 5 ∧ h.rd TMB_STAT_stop_cause t = 3 ∧ h.rd TMB_ERR_code t = 4 ∧ h.rd TMB_ERR_addr t = (s.hub.tmb t).next % 1024 ∧ (s.hub.proofHides 30 t = false → caused h 30 t = true)))

/-- When `issuePoint` has its effect. R284, R291: at a VEC the next cycle is issued with its pattern, markers and timing
set. -/
def Sys2Proof.Machine.Can.issuePoint (t : Fin 8) (s : State) : Bool :=
  s.hub.comesTo t 1 && wArg (s.hub.nextWord t) % 2 ^ 31 != 0 && ((s.hub.heavyUps t (wPins (s.hub.nextWord t))).isEmpty || (s.hub.tmb t).heavyOk) && s.hub.tsFits t (if s.hub.rd TMB_CFG_mode t == 0 then s.hub.rd TMB_CFG_ts_sample t else wTs (s.hub.nextWord t))

/-- When `issuePoint` has its effect. R285, R307: a VEC or a MARCH in force goes on for a cycle in which the pattern
holds. -/
def Sys2Proof.Machine.Can.issuePoint2 (t : Fin 8) (s : State) : Bool :=
  s.hub.tmbRuns t && (s.hub.tmb t).issued.isNone && s.hub.dev.phase == .up && s.hub.dev.halt.isNone && (s.hub.hinge.upL || !s.hub.drivesField t) && (s.hub.tmb t).stopReq.isNone && (s.hub.tmb t).jumpReq.isNone && (s.hub.tmb t).remain != 0 && s.hub.tsFits t (if (s.hub.tmb t).march.isSome then s.hub.tsNow t else s.hub.rd TMB_STAT_ts_now t)

/-- When `issuePoint` has its effect. R293, R294: a stop request is taken at the boundary. -/
def Sys2Proof.Machine.Can.issuePoint3 (t : Fin 8) (s : State) : Bool :=
  s.hub.tmbRuns t && (s.hub.tmb t).issued.isNone && s.hub.dev.phase == .up && s.hub.dev.halt.isNone && (s.hub.hinge.upL || !s.hub.drivesField t) && (s.hub.tmb t).stopReq.isSome

/-- When `issuePoint` has its effect. R138, R294: with the link lost a tumbler that drives a field pin stops with cause
7 and holds its pattern. -/
def Sys2Proof.Machine.Can.issuePoint4 (t : Fin 8) (s : State) : Bool :=
  s.hub.tmbRuns t && (s.hub.tmb t).issued.isNone && s.hub.dev.phase == .up && s.hub.dev.halt.isNone && !s.hub.hinge.upL && s.hub.drivesField t

/-- When `issuePoint` has its effect. R284: a tumbler that does not run, or has its next cycle issued, issues none. -/
def Sys2Proof.Machine.Can.issuePoint5 (t : Fin 8) (s : State) : Bool :=
  !(s.hub.tmbRuns t && (s.hub.tmb t).issued.isNone && s.hub.dev.phase == .up && s.hub.dev.halt.isNone)

/-- When `vecInstruction` has its effect. R284, R285: the first of its cycles is issued. -/
def Sys2Proof.Machine.Can.vecInstruction (t : Fin 8) (s : State) : Bool :=
  s.hub.comesTo t 1 && wArg (s.hub.nextWord t) % 2 ^ 31 != 0 && ((s.hub.heavyUps t (wPins (s.hub.nextWord t))).isEmpty || (s.hub.tmb t).heavyOk) && s.hub.tsFits t (if s.hub.rd TMB_CFG_mode t == 0 then s.hub.rd TMB_CFG_ts_sample t else wTs (s.hub.nextWord t))

/-- When `vecInstruction` has its effect. R284, R299: a count of 0 is a program error. -/
def Sys2Proof.Machine.Can.vecInstruction2 (t : Fin 8) (s : State) : Bool :=
  s.hub.comesTo t 1 && wArg (s.hub.nextWord t) % 2 ^ 31 == 0

/-- When `tset` has its effect. R290: the timing set is named for the next cycle. -/
def Sys2Proof.Machine.Can.tset (t : Fin 8) (s : State) : Bool :=
  s.hub.comesTo t 9 && s.hub.rd TMB_CFG_mode t != 0 && decide ((s.hub.tmb t).zeros < 16)

/-- When `tset` has its effect. R290, R299: TSET in sample-clock mode is a program error. -/
def Sys2Proof.Machine.Can.tset2 (t : Fin 8) (s : State) : Bool :=
  s.hub.comesTo t 9 && s.hub.rd TMB_CFG_mode t == 0

/-- When `march` has its effect. R307, R310: the element begins on the bank that the tumbler owns. -/
def Sys2Proof.Machine.Can.march (t : Fin 8) (s : State) : Bool :=
  s.hub.comesTo t 10 && decide (bitsOf (wArg (s.hub.nextWord t)) 19 3 < 6) && decide (bitsOf (wArg (s.hub.nextWord t)) 16 3 < 6) && decide (wArg (s.hub.nextWord t) % 64 < 48) && s.hub.rd BNK_OWNER_owner (wArg (s.hub.nextWord t) % 64) == 0x10 + t.val && s.hub.tsFits t (s.hub.tsNow t)

/-- When `march` has its effect. R299, R310: on a bank that the tumbler does not own it is a program error. -/
def Sys2Proof.Machine.Can.march2 (t : Fin 8) (s : State) : Bool :=
  s.hub.comesTo t 10 && decide (bitsOf (wArg (s.hub.nextWord t)) 19 3 < 6) && decide (bitsOf (wArg (s.hub.nextWord t)) 16 3 < 6) && (decide (48 ≤ wArg (s.hub.nextWord t) % 64) || s.hub.rd BNK_OWNER_owner (wArg (s.hub.nextWord t) % 64) != 0x10 + t.val)

/-- When `sig` has its effect. R283: the code is shown and counted. -/
def Sys2Proof.Machine.Can.sig (t : Fin 8) (s : State) : Bool :=
  s.hub.comesTo t 11 && decide ((s.hub.tmb t).zeros < 16)

/-- When `heavyVectorStall` has its effect. R295: a heavy vector that is not admitted asks for admission and holds the
pattern for a cycle, which counts as a stall. -/
def Sys2Proof.Machine.Can.heavyVectorStall (t : Fin 8) (s : State) : Bool :=
  s.hub.comesTo t 1 && wArg (s.hub.nextWord t) % 2 ^ 31 != 0 && !(s.hub.heavyUps t (wPins (s.hub.nextWord t))).isEmpty && !(s.hub.tmb t).heavyOk && s.hub.tsFits t (s.hub.tsNow t)

/-- The instructions that issue vectors, set timing, test banks and signal complete, each under the condition and with
the result that its clause gives, after R284, R285, R290, R295 and R307. Clause by clause: `issuePoint`: R284, R291: at
a VEC the next cycle is issued with its pattern, markers and timing set. `issuePoint`: R285, R307: a VEC or a MARCH in
force goes on for a cycle in which the pattern holds. `issuePoint`: R293, R294: a stop request is taken at the boundary.
`issuePoint`: R138, R294: with the link lost a tumbler that drives a field pin stops with cause 7 and holds its pattern.
`issuePoint`: R284: a tumbler that does not run, or has its next cycle issued, issues none. `vecInstruction`: R284,
R285: the first of its cycles is issued. `vecInstruction`: R284, R299: a count of 0 is a program error. `tset`: R290:
the timing set is named for the next cycle. `tset`: R290, R299: TSET in sample-clock mode is a program error. `march`:
R307, R310: the element begins on the bank that the tumbler owns. `march`: R299, R310: on a bank that the tumbler does
not own it is a program error. `sig`: R283: the code is shown and counted. `heavyVectorStall`: R295: a heavy vector that
is not admitted asks for admission and holds the pattern for a cycle, which counts as a stall. -/
def Obligations.TumblerVectors : Prop :=
  (∀ (s : State) (t : Fin 8), Can.issuePoint t s = true → Completes (.issuePoint t) s (fun h =>
      (h.tmb t).issued = some (wPins (s.hub.nextWord t), wMk (s.hub.nextWord t), if s.hub.rd TMB_CFG_mode t = 0 then s.hub.rd TMB_CFG_ts_sample t else wTs (s.hub.nextWord t)) ∧ (h.tmb t).next = (s.hub.tmb t).next + 1 ∧ h.rd TMB_STAT_pc t = (s.hub.tmb t).next % 1024 ∧ h.tmbState t = 2)) ∧
  (∀ (s : State) (t : Fin 8), Can.issuePoint2 t s = true → Completes (.issuePoint t) s (fun h =>
      (h.tmb t).remain = (s.hub.tmb t).remain - 1 ∧ (h.tmb t).next = (s.hub.tmb t).next ∧ h.tmbState t = 2 ∧ (h.tmb t).issued = some (s.hub.rd TMB_PATTERN_pins t, (if (s.hub.tmb t).march = none ∧ (s.hub.tmb t).mkEach = true then (s.hub.tmb t).vecMk else 0), if (s.hub.tmb t).march.isSome then s.hub.tsNow t else s.hub.rd TMB_STAT_ts_now t))) ∧
  (∀ (s : State) (t : Fin 8), Can.issuePoint3 t s = true → Completes (.issuePoint t) s (fun h =>
      h.tmbState t = 0 ∧ h.rd TMB_STAT_stop_cause t = 2 ∧ some (h.tmb t).released = (s.hub.tmb t).stopReq.map (fun r => (s.hub.tmb t).released || r) ∧ (h.tmb t).issued = none)) ∧
  (∀ (s : State) (t : Fin 8), Can.issuePoint4 t s = true → Completes (.issuePoint t) s (fun h =>
      h.tmbState t = 0 ∧ h.rd TMB_STAT_stop_cause t = 7 ∧ (h.tmb t).released = (s.hub.tmb t).released ∧ h.rd TMB_PATTERN_pins t = s.hub.rd TMB_PATTERN_pins t)) ∧
  (∀ (s : State) (t : Fin 8), Can.issuePoint5 t s = true → Completes (.issuePoint t) s (fun h =>
      h.tmbs = s.hub.tmbs ∧ h.regs = s.hub.regs)) ∧
  (∀ (s : State) (t : Fin 8), Can.vecInstruction t s = true → Completes (.vecInstruction t) s (fun h =>
      (h.tmb t).issued = some (wPins (s.hub.nextWord t), wMk (s.hub.nextWord t), if s.hub.rd TMB_CFG_mode t = 0 then s.hub.rd TMB_CFG_ts_sample t else wTs (s.hub.nextWord t)) ∧ (h.tmb t).remain = wArg (s.hub.nextWord t) % 2 ^ 31 - 1 ∧ (h.tmb t).mkEach = bitOf (wArg (s.hub.nextWord t)) 31 ∧ (h.tmb t).heavyOk = false ∧ (h.tmb t).next = (s.hub.tmb t).next + 1 ∧ h.rd TMB_STAT_pc t = (s.hub.tmb t).next % 1024)) ∧
  (∀ (s : State) (t : Fin 8), Can.vecInstruction2 t s = true → Completes (.vecInstruction t) s (fun h =>
      h.tmbState t = 5 ∧ h.rd TMB_STAT_stop_cause t = 3 ∧ h.rd TMB_ERR_code t = 2 ∧ h.rd TMB_ERR_addr t = (s.hub.tmb t).next % 1024 ∧ (s.hub.proofHides 30 t = false → caused h 30 t = true))) ∧
  (∀ (s : State) (t : Fin 8), Can.tset t s = true → Completes (.tset t) s (fun h =>
      (h.tmb t).tsNext = some (wTs (s.hub.nextWord t)) ∧ (h.tmb t).next = (s.hub.tmb t).next + 1)) ∧
  (∀ (s : State) (t : Fin 8), Can.tset2 t s = true → Completes (.tset t) s (fun h =>
      h.tmbState t = 5 ∧ h.rd TMB_STAT_stop_cause t = 3 ∧ h.rd TMB_ERR_code t = 2 ∧ h.rd TMB_ERR_addr t = (s.hub.tmb t).next % 1024 ∧ (s.hub.proofHides 30 t = false → caused h 30 t = true))) ∧
  (∀ (s : State) (t : Fin 8), Can.march t s = true → Completes (.march t) s (fun h =>
      (h.tmb t).march = some { bank := wArg (s.hub.nextWord t) % 64, operand := wArg (s.hub.nextWord t) } ∧ (h.tmb t).next = (s.hub.tmb t).next + 1 ∧ h.tmbState t = 2 ∧ h.mem = s.hub.mem)) ∧
  (∀ (s : State) (t : Fin 8), Can.march2 t s = true → Completes (.march t) s (fun h =>
      h.tmbState t = 5 ∧ h.rd TMB_STAT_stop_cause t = 3 ∧ h.rd TMB_ERR_code t = 7 ∧ h.rd TMB_ERR_addr t = (s.hub.tmb t).next % 1024 ∧ (s.hub.proofHides 30 t = false → caused h 30 t = true))) ∧
  (∀ (s : State) (t : Fin 8), Can.sig t s = true → Completes (.sig t) s (fun h =>
      h.rd TMB_SIG_code t = wArg (s.hub.nextWord t) % 256 ∧ h.rd TMB_SIG_count t = satInc 65535 (s.hub.rd TMB_SIG_count t) ∧ (h.tmb t).next = (s.hub.tmb t).next + 1)) ∧
  (∀ (s : State) (t : Fin 8), Can.heavyVectorStall t s = true → Completes (.heavyVectorStall t) s (fun h =>
      h.rd TMB_STALLS_stalls t = satInc 65535 (s.hub.rd TMB_STALLS_stalls t) ∧ h.tmbState t = 4 ∧ (h.tmb t).heavyAsked = true ∧ ((s.hub.tmb t).heavyAsked = false → h.sch.queue.any (fun x => x.kind == .heavyVec && x.ref == t.val) = true) ∧ (h.tmb t).next = (s.hub.tmb t).next ∧ h.rd TMB_PATTERN_pins t = s.hub.rd TMB_PATTERN_pins t))

/-- When `cycleStart` has its effect. R291, R298: the issued cycle starts; its pattern, markers and timing set are in
force, and the next starts one period later. -/
def Sys2Proof.Machine.Can.cycleStart (t : Fin 8) (s : State) : Bool :=
  s.hub.tmbRuns t && (s.hub.tmb t).issued.isSome

/-- When `cycleStart` has its effect. R291: with none issued no cycle starts. -/
def Sys2Proof.Machine.Can.cycleStart2 (t : Fin 8) (s : State) : Bool :=
  !s.hub.tmbRuns t || (s.hub.tmb t).issued.isNone

/-- When `deadlineMiss` has its effect. R301: TMB_DEADLINE occurs, and the interval restarts at the marker's next rise.
-/
def Sys2Proof.Machine.Can.deadlineMiss (t : Fin 8) (s : State) : Bool :=
  s.hub.tmbRuns t && s.hub.dlPassed t && !s.hub.proofHides 31 t

/-- When `deadlineMiss` has its effect. R301: within the limit there is none. -/
def Sys2Proof.Machine.Can.deadlineMiss2 (t : Fin 8) (s : State) : Bool :=
  !s.hub.tmbRuns t || !s.hub.dlPassed t

/-- When `tmbStart` has its effect. R292, R320: the tumbler is pending, and its start asks for admission, after the
domains it needs. -/
def Sys2Proof.Machine.Can.tmbStart (w : Fin 8) (t : Fin 8) (v : Word) (s : State) : Bool :=
  s.hub.tmbCtrlOk w t v.toNat && v.toNat % 8 == 1 && !s.hub.tmbRuns t && s.hub.tmbState t != 1

/-- When `tmbStart` has its effect. R292: a start of one that is not stopped is ignored. -/
def Sys2Proof.Machine.Can.tmbStart2 (w : Fin 8) (t : Fin 8) (v : Word) (s : State) : Bool :=
  s.hub.tmbCtrlOk w t v.toNat && v.toNat % 8 == 1 && (s.hub.tmbRuns t || s.hub.tmbState t == 1)

/-- When `tmbStop` has its effect. R293: the stop waits for the next vector boundary. -/
def Sys2Proof.Machine.Can.tmbStop (w : Fin 8) (t : Fin 8) (v : Word) (s : State) : Bool :=
  s.hub.tmbCtrlOk w t v.toNat && v.toNat % 8 == 2 && s.hub.tmbRuns t

/-- When `tmbStop` has its effect. R293: a pending start is cancelled at once. -/
def Sys2Proof.Machine.Can.tmbStop2 (w : Fin 8) (t : Fin 8) (v : Word) (s : State) : Bool :=
  s.hub.tmbCtrlOk w t v.toNat && v.toNat % 8 == 2 && s.hub.tmbState t == 1

/-- When `tmbStop` has its effect. R293: a stopped one stays as it is. -/
def Sys2Proof.Machine.Can.tmbStop3 (w : Fin 8) (t : Fin 8) (v : Word) (s : State) : Bool :=
  s.hub.tmbCtrlOk w t v.toNat && v.toNat % 8 == 2 && !s.hub.tmbRuns t && s.hub.tmbState t != 1

/-- When `tmbJump` has its effect. R293: the jump waits for the next vector boundary. -/
def Sys2Proof.Machine.Can.tmbJump (w : Fin 8) (t : Fin 8) (v : Word) (s : State) : Bool :=
  s.hub.tmbCtrlOk w t v.toNat && v.toNat % 8 == 4 && s.hub.tmbRuns t

/-- When `tmbJump` has its effect. R293: a stopped one is started at the address, and a pending start takes it. -/
def Sys2Proof.Machine.Can.tmbJump2 (w : Fin 8) (t : Fin 8) (v : Word) (s : State) : Bool :=
  s.hub.tmbCtrlOk w t v.toNat && v.toNat % 8 == 4 && !s.hub.tmbRuns t

/-- When `vec` has its effect. R131, R296, R297: the frame's vector is the tumbler's in force on the field die and
drives its channels; one that comes late is counted. -/
def Sys2Proof.Machine.Can.vec (_t : Fin 8) (_late : Bool) (_payload : BitVec 40) (s : State) : Bool :=
  s.hub.sup.fieldUp && s.hub.hinge.upF && s.hub.hinge.configured

/-- When `vec` has its effect. R139, R178: without the link, or not configured, the field die takes none. -/
def Sys2Proof.Machine.Can.vec2 (_t : Fin 8) (_late : Bool) (_payload : BitVec 40) (s : State) : Bool :=
  !s.hub.sup.fieldUp || !s.hub.hinge.upF || !s.hub.hinge.configured

/-- When `vecRepeat` has its effect. R296, R289, R290: the vector in force drives the channels of the tumbler at the
offset into the cycle. -/
def Sys2Proof.Machine.Can.vecRepeat (t : Fin 8) (off : Word) (s : State) : Bool :=
  s.hub.sup.fieldUp && s.hub.hinge.configured && (vget s.hub.hinge.vecs t {}).live && (s.hub.hinge.upF || off.toNat != 0)

/-- When `vecRepeat` has its effect. R139: with the link lost no further cycle starts. -/
def Sys2Proof.Machine.Can.vecRepeat2 (t : Fin 8) (off : Word) (s : State) : Bool :=
  s.hub.sup.fieldUp && s.hub.hinge.configured && (vget s.hub.hinge.vecs t {}).live && !s.hub.hinge.upF && off.toNat == 0

/-- Cycle starts, start, stop and jump requests and the vectors in force on the field die complete, each under the
condition and with the result that its clause gives, after R291 to R301. Clause by clause: `cycleStart`: R291, R298: the
issued cycle starts; its pattern, markers and timing set are in force, and the next starts one period later.
`cycleStart`: R291: with none issued no cycle starts. `deadlineMiss`: R301: TMB_DEADLINE occurs, and the interval
restarts at the marker's next rise. `deadlineMiss`: R301: within the limit there is none. `tmbStart`: R292, R320: the
tumbler is pending, and its start asks for admission, after the domains it needs. `tmbStart`: R292: a start of one that
is not stopped is ignored. `tmbStop`: R293: the stop waits for the next vector boundary. `tmbStop`: R293: a pending
start is cancelled at once. `tmbStop`: R293: a stopped one stays as it is. `tmbJump`: R293: the jump waits for the next
vector boundary. `tmbJump`: R293: a stopped one is started at the address, and a pending start takes it. `vec`: R131,
R296, R297: the frame's vector is the tumbler's in force on the field die and drives its channels; one that comes late
is counted. `vec`: R139, R178: without the link, or not configured, the field die takes none. `vecRepeat`: R296, R289,
R290: the vector in force drives the channels of the tumbler at the offset into the cycle. `vecRepeat`: R139: with the
link lost no further cycle starts. -/
def Obligations.TumblerCommands : Prop :=
  (∀ (s : State) (t : Fin 8), Can.cycleStart t s = true → Completes (.cycleStart t) s (fun h =>
      (h.tmb t).issued = none ∧ h.rd TMB_CYCLES_count t = (s.hub.rd TMB_CYCLES_count t + 1) % 2 ^ 32 ∧ (∀ x ∈ (s.hub.tmb t).issued, h.rd TMB_PATTERN_pins t = x.1 % 2 ^ 20 ∧ h.rd TMB_PATTERN_mk t = x.2.1 % 16 ∧ h.rd TMB_STAT_ts_now t = x.2.2 % 8 ∧ (h.tmb t).cycleAt = ((s.hub.tmb t).cycleAt + s.hub.tsPeriod x.2.2) % 2 ^ 67 ∧ (∀ k ∈ List.range 4, bitOf x.2.1 k = true → ∀ u : Fin 8, bitOf (h.rd TMB_MKSEEN_seen u) (4 * t + k) = true)))) ∧
  (∀ (s : State) (t : Fin 8), Can.cycleStart2 t s = true → Completes (.cycleStart t) s (fun h =>
      h.tmbs = s.hub.tmbs ∧ h.regs = s.hub.regs)) ∧
  (∀ (s : State) (t : Fin 8), Can.deadlineMiss t s = true → Completes (.deadlineMiss t) s (fun h =>
      (h.tmb t).dlFrom = none ∧ (s.hub.proofHides 31 16 = false → s.hub.testGroup ≠ 5 → s.hub.dev.phase ≠ .recovery → vget h.flt.counts 31 0 = satInc 65535 (vget s.hub.flt.counts 31 0)))) ∧
  (∀ (s : State) (t : Fin 8), Can.deadlineMiss2 t s = true → Completes (.deadlineMiss t) s (fun h =>
      h.tmbs = s.hub.tmbs ∧ h.flt.counts = s.hub.flt.counts)) ∧
  (∀ (s : State) (w : Fin 8) (t : Fin 8) (v : Word), Can.tmbStart w t v s = true → Completes (.tmbStart w t v) s (fun h =>
      h.tmbState t = 1 ∧ (h.tmb t).entry = bitsOf v.toNat 16 10 ∧ h.sch.queue.any (fun x => x.kind == .tmbStart && x.ref == t.val) = true ∧ h.flag TMB_CTRL_start t = true ∧ caused h 30 t = false ∧ (bitOf s.hub.sup.on 3 = false → bitOf h.sup.wakeReq 3 = true) ∧ (bitOf s.hub.sup.on 5 = false → bitOf h.sup.wakeReq 5 = true))) ∧
  (∀ (s : State) (w : Fin 8) (t : Fin 8) (v : Word), Can.tmbStart2 w t v s = true → Completes (.tmbStart w t v) s (fun h =>
      h.tmbState t = s.hub.tmbState t ∧ h.flag TMB_CTRL_start t = false ∧ h.sch = s.hub.sch)) ∧
  (∀ (s : State) (w : Fin 8) (t : Fin 8) (v : Word), Can.tmbStop w t v s = true → Completes (.tmbStop w t v) s (fun h =>
      (h.tmb t).stopReq = some (v.getLsbD 3) ∧ h.tmbState t = s.hub.tmbState t ∧ h.flag TMB_CTRL_stop t = true)) ∧
  (∀ (s : State) (w : Fin 8) (t : Fin 8) (v : Word), Can.tmbStop2 w t v s = true → Completes (.tmbStop w t v) s (fun h =>
      h.tmbState t = 0 ∧ h.rd TMB_STAT_stop_cause t = 2 ∧ h.flag TMB_CTRL_stop t = false ∧ h.sch.queue.any (fun x => x.kind == .tmbStart && x.ref == t.val) = false)) ∧
  (∀ (s : State) (w : Fin 8) (t : Fin 8) (v : Word), Can.tmbStop3 w t v s = true → Completes (.tmbStop w t v) s (fun h =>
      h.flag TMB_CTRL_stop t = false ∧ h.tmbState t = s.hub.tmbState t ∧ h.tmbs = s.hub.tmbs)) ∧
  (∀ (s : State) (w : Fin 8) (t : Fin 8) (v : Word), Can.tmbJump w t v s = true → Completes (.tmbJump w t v) s (fun h =>
      (h.tmb t).jumpReq = some (bitsOf v.toNat 16 10) ∧ h.tmbState t = s.hub.tmbState t ∧ h.flag TMB_CTRL_jump t = true)) ∧
  (∀ (s : State) (w : Fin 8) (t : Fin 8) (v : Word), Can.tmbJump2 w t v s = true → Completes (.tmbJump w t v) s (fun h =>
      h.tmbState t = 1 ∧ (h.tmb t).entry = bitsOf v.toNat 16 10 ∧ h.flag TMB_CTRL_jump t = false ∧ (s.hub.tmbState t ≠ 1 → h.sch.queue.any (fun x => x.kind == .tmbStart && x.ref == t.val) = true))) ∧
  (∀ (s : State) (t : Fin 8) (late : Bool) (payload : BitVec 40), Can.vec t late payload s = true → Completes (.vec t late payload) s (fun h =>
      vget h.hinge.vecs t {} = { live := true, pins := bitsOf payload.toNat 20 16, marks := bitsOf payload.toNat 36 4, ts := bitsOf payload.toNat 17 3, start := payload.toNat % 2 ^ 17 } ∧ (∀ c : Fin 16, s.hub.fIsOut c = true → s.hub.fMode c ≠ 7 → s.hub.frd OUT_CFG_src c = t.val + 1 → (s.hub.out c).gate = true → (s.hub.out c).atSafe = false → s.hub.fieldBlocked = false → (h.out c).latched = h.fieldLevel t c 0 (s.hub.out c).latched) ∧ (late = true → s.hub.hinge.upL = true → h.rd TMB_STALLS_late t = satInc (2 ^ TMB_STALLS_late.width - 1) (s.hub.rd TMB_STALLS_late t)) ∧ (late = true → s.hub.fHidden 34 16 = false → bitOf h.flt.fieldSticky 34 = true))) ∧
  (∀ (s : State) (t : Fin 8) (late : Bool) (payload : BitVec 40), Can.vec2 t late payload s = true → Completes (.vec t late payload) s (fun h =>
      h.hinge.vecs = s.hub.hinge.vecs ∧ h.outs = s.hub.outs)) ∧
  (∀ (s : State) (t : Fin 8) (off : Word), Can.vecRepeat t off s = true → Completes (.vecRepeat t off) s (fun h =>
      h.hinge.vecs = s.hub.hinge.vecs ∧ (∀ c : Fin 16, s.hub.fIsOut c = true → s.hub.fMode c ≠ 7 → s.hub.frd OUT_CFG_src c = t.val + 1 → (s.hub.out c).gate = true → (s.hub.out c).atSafe = false → s.hub.fieldBlocked = false → (h.out c).latched = h.fieldLevel t c off.toNat (s.hub.out c).latched))) ∧
  (∀ (s : State) (t : Fin 8) (off : Word), Can.vecRepeat2 t off s = true → Completes (.vecRepeat t off) s (fun h =>
      vget h.hinge.vecs t {} = {} ∧ h.outs = s.hub.outs))

/-- When `compareSlotEval` has its effect. R302: the state follows the threshold and the hysteresis, in the sense of the
slot. -/
def Sys2Proof.Machine.Can.compareSlotEval (j : Fin 16) (adcB : Bool) (src : Fin 8) (index : Fin 16) (_value : BitVec 16) (s : State) : Bool :=
  s.hub.cmpWatches j adcB src index && s.hub.hinge.upL && s.hub.logicRuns

/-- When `compareSlotEval` has its effect. R138, R302: another measurement, or one with the link lost, changes nothing.
-/
def Sys2Proof.Machine.Can.compareSlotEval2 (j : Fin 16) (adcB : Bool) (src : Fin 8) (index : Fin 16) (_value : BitVec 16) (s : State) : Bool :=
  !s.hub.cmpWatches j adcB src index || !s.hub.hinge.upL

/-- When `tmbCmpThrWrite` has its effect. R303: the owning ward sets the threshold and the hysteresis. -/
def Sys2Proof.Machine.Can.tmbCmpThrWrite (w : Fin 8) (j : Fin 16) (_v : Word) (s : State) : Bool :=
  s.hub.writable w && s.hub.rd TMB_CMP_CFG_ward j == w

/-- When `dpWriteLow` has its effect. R280: the low half is staged. -/
def Sys2Proof.Machine.Can.dpWriteLow (w : Fin 8) (d : Fin 2) (n : Fin 1024) (_v : Word) (s : State) : Bool :=
  s.hub.writable w && s.hub.dpMine w d n

/-- When `dpWriteHigh` has its effect. R280: the high half commits the word. -/
def Sys2Proof.Machine.Can.dpWriteHigh (w : Fin 8) (d : Fin 2) (n : Fin 1024) (_v : Word) (s : State) : Bool :=
  s.hub.writable w && s.hub.dpMine w d n

/-- When `dpReadLow` has its effect. R280: reading the low half latches the high half. -/
def Sys2Proof.Machine.Can.dpReadLow (w : Fin 8) (d : Fin 2) (n : Fin 1024) (s : State) : Bool :=
  s.hub.readable w && (w.val == 0 || s.hub.dpMine w d n)

/-- The compare slots and the accesses to DP0 and DP1 complete, each under the condition and with the result that its
clause gives, after R280, R302 and R303. Clause by clause: `compareSlotEval`: R302: the state follows the threshold and
the hysteresis, in the sense of the slot. `compareSlotEval`: R138, R302: another measurement, or one with the link lost,
changes nothing. `tmbCmpThrWrite`: R303: the owning ward sets the threshold and the hysteresis. `dpWriteLow`: R280: the
low half is staged. `dpWriteHigh`: R280: the high half commits the word. `dpReadLow`: R280: reading the low half latches
the high half. -/
def Obligations.CompareAndDp : Prop :=
  (∀ (s : State) (j : Fin 16) (adcB : Bool) (src : Fin 8) (index : Fin 16) (value : BitVec 16), Can.compareSlotEval j adcB src index value s = true → Completes (.compareSlotEval j ⟨adcB, src, index, value⟩) s (fun h =>
      h.rd TMB_CMP_STAT_value j = value.toNat ∧ (s.hub.flag TMB_CMP_CFG_en j = false → h.flag TMB_CMP_STAT_state j = false) ∧ (s.hub.flag TMB_CMP_CFG_en j = true → s.hub.flag TMB_CMP_CFG_rel j = false → h.flag TMB_CMP_STAT_state j = (if toSigned 16 (s.hub.rd TMB_CMP_THR_thr j) ≤ value.toInt then true else if value.toInt < toSigned 16 (s.hub.rd TMB_CMP_THR_thr j) - (s.hub.rd TMB_CMP_THR_hyst j : Int) then false else s.hub.flag TMB_CMP_STAT_state j)) ∧ (s.hub.flag TMB_CMP_CFG_en j = true → s.hub.flag TMB_CMP_CFG_rel j = true → h.flag TMB_CMP_STAT_state j = (if value.toInt ≤ toSigned 16 (s.hub.rd TMB_CMP_THR_thr j) then true else if toSigned 16 (s.hub.rd TMB_CMP_THR_thr j) + (s.hub.rd TMB_CMP_THR_hyst j : Int) < value.toInt then false else s.hub.flag TMB_CMP_STAT_state j)))) ∧
  (∀ (s : State) (j : Fin 16) (adcB : Bool) (src : Fin 8) (index : Fin 16) (value : BitVec 16), Can.compareSlotEval2 j adcB src index value s = true → Completes (.compareSlotEval j ⟨adcB, src, index, value⟩) s (fun h =>
      h.regs = s.hub.regs)) ∧
  (∀ (s : State) (w : Fin 8) (j : Fin 16) (v : Word), Can.tmbCmpThrWrite w j v s = true → Completes (.tmbCmpThrWrite w j v) s (fun h =>
      h.rd TMB_CMP_THR_thr j = v.toNat % 2 ^ 16 ∧ h.rd TMB_CMP_THR_hyst j = v.toNat / 2 ^ 16)) ∧
  (∀ (s : State) (w : Fin 8) (d : Fin 2) (n : Fin 1024) (v : Word), Can.dpWriteLow w d n v s = true → Completes (.dpWriteLow w d n v) s (fun h =>
      vget h.dpLow w none = some (dpAddr d (2 * n), v.toNat) ∧ h.mem = s.hub.mem ∧ h.regs = s.hub.regs)) ∧
  (∀ (s : State) (w : Fin 8) (d : Fin 2) (n : Fin 1024) (v : Word), Can.dpWriteHigh w d n v s = true → Completes (.dpWriteHigh w d n v) s (fun h =>
      h.memWord (dpAddr d (2 * n + 1)) = v.toNat ∧ (∀ x ∈ (vget s.hub.dpLow w none).toList, x.1 = dpAddr d (2 * n) → h.memWord (dpAddr d (2 * n)) = x.2 % 2 ^ 32) ∧ h.regs = s.hub.regs)) ∧
  (∀ (s : State) (w : Fin 8) (d : Fin 2) (n : Fin 1024), Can.dpReadLow w d n s = true → Completes (.dpReadLow w d n) s (fun h =>
      vget h.dpHigh w none = some (dpAddr d (2 * n) + 4, s.hub.memWord (dpAddr d (2 * n) + 4)) ∧ h.mem = s.hub.mem))

/-- When `syncPulseSend` has its effect. R325, R327, R328, R341: the head sends its pulse on a whole multiple of the
period, a period begins, and every sixteenth carries the time and ENUM. -/
def Sys2Proof.Machine.Can.syncPulseSend (s : State) : Bool :=
  s.hub.lsyOn && s.hub.testGroup != 2 && s.hub.isHead && !s.hub.flag CLK_STAT_holdover && s.hub.clk.tb % max 1 s.hub.lsyTicks == 0

/-- When `syncPulseSend` has its effect. R334: a head in holdover sends no pulse. -/
def Sys2Proof.Machine.Can.syncPulseSend2 (s : State) : Bool :=
  s.hub.lsyOn && s.hub.testGroup != 2 && s.hub.isHead && s.hub.flag CLK_STAT_holdover && s.hub.clk.tb % max 1 s.hub.lsyTicks == 0

/-- When `syncPulseSend` has its effect. R325: only the head sends pulses, and only on a whole multiple of the period.
-/
def Sys2Proof.Machine.Can.syncPulseSend3 (s : State) : Bool :=
  s.hub.lsyOn && s.hub.testGroup != 2 && (!s.hub.isHead || s.hub.clk.tb % max 1 s.hub.lsyTicks != 0)

/-- When `syncPulseReceive` has its effect. R326, R331, R334: the member recognises the pulse; a received D is applied,
and in holdover it does not align. -/
def Sys2Proof.Machine.Can.syncPulseReceive (_fine : Fin 8) (ticks : BitVec 8) (s : State) : Bool :=
  s.hub.lsyOn && s.hub.testGroup != 2 && !s.hub.isHead && !s.hub.lsy.lost && decide (20 ≤ ticks.toNat)

/-- When `syncPulseReceive` has its effect. R332: an error of at most 12 fine ticks sets the trim. -/
def Sys2Proof.Machine.Can.syncPulseReceive2 (fine : Fin 8) (ticks : BitVec 8) (s : State) : Bool :=
  s.hub.lsyOn && s.hub.testGroup != 2 && !s.hub.isHead && !s.hub.lsy.lost && decide (20 ≤ ticks.toNat) && s.hub.lsy.closeAt.isNone && s.hub.lsy.newD.isNone && !s.hub.flag CLK_STAT_holdover && s.hub.flag LSY_STAT_cal_valid && !s.hub.lsy.needCal && s.hub.flag LSY_STAT_aligned && decide (((8 * s.hub.clk.tb + fine : Int) - (8 * ((2 * (8 * s.hub.clk.tb + fine) + 8 * s.hub.lsyTicks) / (2 * (8 * s.hub.lsyTicks)) * s.hub.lsyTicks) + s.hub.rd LSY_DELAY_d_chain : Nat)).natAbs ≤ 12)

/-- When `syncPulseReceive` has its effect. R332: a larger error at two pulses in a row steps the timebase. -/
def Sys2Proof.Machine.Can.syncPulseReceive3 (fine : Fin 8) (ticks : BitVec 8) (s : State) : Bool :=
  s.hub.lsyOn && s.hub.testGroup != 2 && !s.hub.isHead && !s.hub.lsy.lost && decide (20 ≤ ticks.toNat) && s.hub.lsy.closeAt.isNone && s.hub.lsy.newD.isNone && !s.hub.flag CLK_STAT_holdover && s.hub.flag LSY_STAT_cal_valid && !s.hub.lsy.needCal && s.hub.flag LSY_STAT_aligned && decide (12 < ((8 * s.hub.clk.tb + fine : Int) - (8 * ((2 * (8 * s.hub.clk.tb + fine) + 8 * s.hub.lsyTicks) / (2 * (8 * s.hub.lsyTicks)) * s.hub.lsyTicks) + s.hub.rd LSY_DELAY_d_chain : Nat)).natAbs)

/-- When `syncPulseReceive` has its effect. R332: the first alignment steps the timebase to the head's time. -/
def Sys2Proof.Machine.Can.syncPulseReceive4 (_fine : Fin 8) (ticks : BitVec 8) (s : State) : Bool :=
  s.hub.lsyOn && s.hub.testGroup != 2 && !s.hub.isHead && !s.hub.lsy.lost && decide (20 ≤ ticks.toNat) && s.hub.lsy.closeAt.isNone && s.hub.lsy.newD.isNone && !s.hub.flag CLK_STAT_holdover && s.hub.flag LSY_STAT_cal_valid && !s.hub.lsy.needCal && !s.hub.flag LSY_STAT_aligned && s.hub.lsy.timeLo.isSome && s.hub.lsy.timeHi.isSome

/-- When `syncPulseReceive` has its effect. R328: a head that recognises a pulse raises LSY_POS. -/
def Sys2Proof.Machine.Can.syncPulseReceive5 (_fine : Fin 8) (ticks : BitVec 8) (s : State) : Bool :=
  s.hub.lsyOn && s.hub.testGroup != 2 && decide (20 ≤ ticks.toNat) && s.hub.isHead

/-- When `syncPulseReceive` has its effect. R337: out of the chain it counts the pulses in a row, each a period after
the one before. -/
def Sys2Proof.Machine.Can.syncPulseReceive6 (_fine : Fin 8) (ticks : BitVec 8) (s : State) : Bool :=
  s.hub.lsyOn && s.hub.testGroup != 2 && decide (20 ≤ ticks.toNat) && !s.hub.isHead && s.hub.lsy.lost

/-- When `syncPulseReceive` has its effect. R324: what is high for less than 200 ns is no pulse. -/
def Sys2Proof.Machine.Can.syncPulseReceive7 (_fine : Fin 8) (ticks : BitVec 8) (_s : State) : Bool :=
  decide (ticks.toNat < 20)

/-- When `lsyFrameReceive` has its effect. R324, R327: what is no frame, or one with a coding violation, a wrong CRC or
an unused command, is counted and discarded. -/
def Sys2Proof.Machine.Can.lsyFrameReceive (up : Bool) (start : List Bool) (line : List Bool) (s : State) : Bool :=
  s.hub.lsyOn && s.hub.testGroup != 2 && (lsyBits start line).all (fun b => b % 2 ^ 8 != lsyCrc (bitsOf b 40 8) (bitsOf b 8 32) || !(if up then [0x01, 0x02, 0x03, 0x10, 0x11, 0x20, 0x30, 0x31, 0x60] else [0x30, 0x40, 0x41, 0x42, 0x60]).contains (bitsOf b 40 8))

/-- When `lsyFrameReceive` has its effect. R324, R327: a good frame on the line does what its command says. -/
def Sys2Proof.Machine.Can.lsyFrameReceive2 (up : Bool) (start : List Bool) (line : List Bool) (s : State) : Bool :=
  s.hub.lsyOn && s.hub.testGroup != 2 && !s.hub.isHead && !s.hub.lsy.lost && up && (lsyBits start line).any (fun b => b % 2 ^ 8 == lsyCrc (bitsOf b 40 8) (bitsOf b 8 32) && (bitsOf b 40 8 == 1 || bitsOf b 40 8 == 2))

/-- When `lsyFrameReceive` has its effect. R324, R327: so does one from downstream. -/
def Sys2Proof.Machine.Can.lsyFrameReceive3 (up : Bool) (start : List Bool) (line : List Bool) (s : State) : Bool :=
  s.hub.lsyOn && s.hub.testGroup != 2 && !s.hub.isTail && !up && (lsyBits start line).any (fun b => b % 2 ^ 8 == lsyCrc (bitsOf b 40 8) (bitsOf b 8 32) && bitsOf b 40 8 == 0x40)

/-- When `timeLo` has its effect. R326, R327: a half of the next pulse's time is kept and forwarded. -/
def Sys2Proof.Machine.Can.timeLo (_v : Word) (s : State) : Bool :=
  s.hub.lsyOn && s.hub.testGroup != 2 && !s.hub.isHead && !s.hub.lsy.lost

/-- When `timeHi` has its effect. R326, R327: a half of the next pulse's time is kept and forwarded. -/
def Sys2Proof.Machine.Can.timeHi (_v : Word) (s : State) : Bool :=
  s.hub.lsyOn && s.hub.testGroup != 2 && !s.hub.isHead && !s.hub.lsy.lost

/-- When `enumMsg` has its effect. R328, R329: the member's position is one more than the frame's, position and length
are checked, and a member that has joined asks for a calibration. -/
def Sys2Proof.Machine.Can.enumMsg (_v : Word) (s : State) : Bool :=
  s.hub.lsyOn && s.hub.testGroup != 2 && !s.hub.isHead && !s.hub.lsy.lost

/-- When `present` has its effect. R327, R329: the downstream neighbour is there; its third in a row starts the head's
first calibration. -/
def Sys2Proof.Machine.Can.present (_v : Word) (s : State) : Bool :=
  s.hub.lsyOn && s.hub.testGroup != 2 && !s.hub.isTail

/-- Pulses, frames, time and positions complete, each under the condition and with the result that its clause gives,
after R324 to R328. Clause by clause: `syncPulseSend`: R325, R327, R328, R341: the head sends its pulse on a whole
multiple of the period, a period begins, and every sixteenth carries the time and ENUM. `syncPulseSend`: R334: a head in
holdover sends no pulse. `syncPulseSend`: R325: only the head sends pulses, and only on a whole multiple of the period.
`syncPulseReceive`: R326, R331, R334: the member recognises the pulse; a received D is applied, and in holdover it does
not align. `syncPulseReceive`: R332: an error of at most 12 fine ticks sets the trim. `syncPulseReceive`: R332: a larger
error at two pulses in a row steps the timebase. `syncPulseReceive`: R332: the first alignment steps the timebase to the
head's time. `syncPulseReceive`: R328: a head that recognises a pulse raises LSY_POS. `syncPulseReceive`: R337: out of
the chain it counts the pulses in a row, each a period after the one before. `syncPulseReceive`: R324: what is high for
less than 200 ns is no pulse. `lsyFrameReceive`: R324, R327: what is no frame, or one with a coding violation, a wrong
CRC or an unused command, is counted and discarded. `lsyFrameReceive`: R324, R327: a good frame on the line does what
its command says. `lsyFrameReceive`: R324, R327: so does one from downstream. `timeLo`: R326, R327: a half of the next
pulse's time is kept and forwarded. `timeHi`: R326, R327: a half of the next pulse's time is kept and forwarded.
`enumMsg`: R328, R329: the member's position is one more than the frame's, position and length are checked, and a member
that has joined asks for a calibration. `present`: R327, R329: the downstream neighbour is there; its third in a row
starts the head's first calibration. -/
def Obligations.LuanenTime : Prop :=
  (∀ (s : State), Can.syncPulseSend s = true → Completes (.syncPulseSend) s (fun h =>
      h.flag LSY_STAT_up_ok = true ∧ h.lsy.tn = some s.hub.clk.tb ∧ h.lsy.hbCount = (s.hub.lsy.hbCount + 1) % 256 ∧ h.lsy.pulseAt = some s.hub.clk.now ∧ h.clk = s.hub.clk ∧ (s.hub.clk.tb / max 1 s.hub.lsyTicks % 16 = 0 → s.hub.lsy.fwd = [] → s.hub.lsy.calPer = none → h.lsy.fwd.contains { cmd := 0x01, payload := (s.hub.clk.tb + s.hub.lsyTicks) % 2 ^ 64 % 2 ^ 32 } = true ∧ h.lsy.fwd.contains { cmd := 0x02, payload := (s.hub.clk.tb + s.hub.lsyTicks) % 2 ^ 64 / 2 ^ 32 } = true ∧ h.lsy.fwd.contains { cmd := 0x03, payload := s.hub.rd LSY_CFG_hubs_m1 * 2 ^ 8 + s.hub.lsy.calNo % 2 ^ 16 * 2 ^ 16 } = true))) ∧
  (∀ (s : State), Can.syncPulseSend2 s = true → Completes (.syncPulseSend) s (fun h =>
      h.flag LSY_STAT_up_ok = false ∧ h.lsy = s.hub.lsy ∧ h.clk = s.hub.clk)) ∧
  (∀ (s : State), Can.syncPulseSend3 s = true → Completes (.syncPulseSend) s (fun h =>
      h.lsy = s.hub.lsy ∧ h.clk = s.hub.clk ∧ h.regs = s.hub.regs)) ∧
  (∀ (s : State) (fine : Fin 8) (ticks : BitVec 8), Can.syncPulseReceive fine ticks s = true → Completes (.syncPulseReceive ⟨fine, ticks⟩) s (fun h =>
      h.flag LSY_STAT_up_ok = true ∧ h.lsy.hbCount = (s.hub.lsy.hbCount + 1) % 256 ∧ h.lsy.pulseAt = some s.hub.clk.now ∧ (s.hub.flag CLK_STAT_holdover = true → h.flag LSY_STAT_aligned = false ∧ h.clk = s.hub.clk) ∧ (s.hub.lsy.closeAt = none → h.lsy.newD = none ∧ (∀ d ∈ s.hub.lsy.newD, h.rd LSY_DELAY_d_chain = d % 2 ^ LSY_DELAY_d_chain.width ∧ h.flag LSY_STAT_cal_valid = true ∧ h.lsy.needCal = false)))) ∧
  (∀ (s : State) (fine : Fin 8) (ticks : BitVec 8), Can.syncPulseReceive2 fine ticks s = true → Completes (.syncPulseReceive ⟨fine, ticks⟩) s (fun h =>
      h.rd LSY_ALIGN_ERR_trim = ofSigned 8 (-((8 * s.hub.clk.tb + fine : Int) - (8 * ((2 * (8 * s.hub.clk.tb + fine) + 8 * s.hub.lsyTicks) / (2 * (8 * s.hub.lsyTicks)) * s.hub.lsyTicks) + s.hub.rd LSY_DELAY_d_chain : Nat))) ∧ h.rd LSY_ALIGN_ERR_err = ofSigned 16 ((8 * s.hub.clk.tb + fine : Int) - (8 * ((2 * (8 * s.hub.clk.tb + fine) + 8 * s.hub.lsyTicks) / (2 * (8 * s.hub.lsyTicks)) * s.hub.lsyTicks) + s.hub.rd LSY_DELAY_d_chain : Nat)) ∧ h.clk = s.hub.clk ∧ h.lsy.far = false)) ∧
  (∀ (s : State) (fine : Fin 8) (ticks : BitVec 8), Can.syncPulseReceive3 fine ticks s = true → Completes (.syncPulseReceive ⟨fine, ticks⟩) s (fun h =>
      (s.hub.lsy.far = true → h.lsy.far = false ∧ h.clk.tb = addSigned s.hub.clk.tb (-(roundDiv ((8 * s.hub.clk.tb + fine : Int) - (8 * ((2 * (8 * s.hub.clk.tb + fine) + 8 * s.hub.lsyTicks) / (2 * (8 * s.hub.lsyTicks)) * s.hub.lsyTicks) + s.hub.rd LSY_DELAY_d_chain : Nat)) 8)) ∧ h.rd LSY_ALIGN_ERR_trim = ofSigned 8 (8 * roundDiv ((8 * s.hub.clk.tb + fine : Int) - (8 * ((2 * (8 * s.hub.clk.tb + fine) + 8 * s.hub.lsyTicks) / (2 * (8 * s.hub.lsyTicks)) * s.hub.lsyTicks) + s.hub.rd LSY_DELAY_d_chain : Nat)) 8 - ((8 * s.hub.clk.tb + fine : Int) - (8 * ((2 * (8 * s.hub.clk.tb + fine) + 8 * s.hub.lsyTicks) / (2 * (8 * s.hub.lsyTicks)) * s.hub.lsyTicks) + s.hub.rd LSY_DELAY_d_chain : Nat)))) ∧ (s.hub.lsy.far = false → h.lsy.far = true ∧ h.clk.tb = s.hub.clk.tb ∧ h.rd LSY_ALIGN_ERR_trim = s.hub.rd LSY_ALIGN_ERR_trim))) ∧
  (∀ (s : State) (fine : Fin 8) (ticks : BitVec 8), Can.syncPulseReceive4 fine ticks s = true → Completes (.syncPulseReceive ⟨fine, ticks⟩) s (fun h =>
      h.flag LSY_STAT_aligned = true ∧ (∀ lo ∈ s.hub.lsy.timeLo, ∀ hi ∈ s.hub.lsy.timeHi, h.lsy.tn = some (hi * 2 ^ 32 + lo) ∧ h.clk.tb = (if roundDiv ((8 * s.hub.clk.tb + fine : Int) - (8 * (hi * 2 ^ 32 + lo) + s.hub.rd LSY_DELAY_d_chain : Nat)) 8 = 0 then s.hub.clk.tb else addSigned s.hub.clk.tb (-(roundDiv ((8 * s.hub.clk.tb + fine : Int) - (8 * (hi * 2 ^ 32 + lo) + s.hub.rd LSY_DELAY_d_chain : Nat)) 8))) ∧ h.rd LSY_ALIGN_ERR_trim = ofSigned 8 (8 * roundDiv ((8 * s.hub.clk.tb + fine : Int) - (8 * (hi * 2 ^ 32 + lo) + s.hub.rd LSY_DELAY_d_chain : Nat)) 8 - ((8 * s.hub.clk.tb + fine : Int) - (8 * (hi * 2 ^ 32 + lo) + s.hub.rd LSY_DELAY_d_chain : Nat)))))) ∧
  (∀ (s : State) (fine : Fin 8) (ticks : BitVec 8), Can.syncPulseReceive5 fine ticks s = true → Completes (.syncPulseReceive ⟨fine, ticks⟩) s (fun h =>
      (s.hub.proofHides 34 18 = false → caused h 34 18 = true) ∧ h.lsy = s.hub.lsy ∧ h.clk = s.hub.clk)) ∧
  (∀ (s : State) (fine : Fin 8) (ticks : BitVec 8), Can.syncPulseReceive6 fine ticks s = true → Completes (.syncPulseReceive ⟨fine, ticks⟩) s (fun h =>
      h.lsy.pulses = (if s.hub.lsy.seenAt.any (fun t => decide (t + s.hub.lsyTicks ≤ s.hub.clk.now + 200) && decide (s.hub.clk.now ≤ t + s.hub.lsyTicks + 200)) then s.hub.lsy.pulses + 1 else 1) ∧ h.lsy.seenAt = some s.hub.clk.now ∧ h.lsy.lost = true ∧ h.regs = s.hub.regs)) ∧
  (∀ (s : State) (fine : Fin 8) (ticks : BitVec 8), Can.syncPulseReceive7 fine ticks s = true → Completes (.syncPulseReceive ⟨fine, ticks⟩) s (fun h =>
      h.lsy = s.hub.lsy ∧ h.regs = s.hub.regs)) ∧
  (∀ (s : State) (up : Bool) (start : List Bool) (line : List Bool), Can.lsyFrameReceive up start line s = true → Completes (.lsyFrameReceive up start line) s (fun h =>
      h.rd LSY_COUNTS_crc_errors = satInc (2 ^ LSY_COUNTS_crc_errors.width - 1) (s.hub.rd LSY_COUNTS_crc_errors) ∧ h.lsy = s.hub.lsy)) ∧
  (∀ (s : State) (up : Bool) (start : List Bool) (line : List Bool), Can.lsyFrameReceive2 up start line s = true → Completes (.lsyFrameReceive up start line) s (fun h =>
      (∀ b ∈ lsyBits start line, (bitsOf b 40 8 = 1 → h.lsy.timeLo = some (bitsOf b 8 32)) ∧ (bitsOf b 40 8 = 2 → h.lsy.timeHi = some (bitsOf b 8 32))) ∧ h.clk = s.hub.clk)) ∧
  (∀ (s : State) (up : Bool) (start : List Bool) (line : List Bool), Can.lsyFrameReceive3 up start line s = true → Completes (.lsyFrameReceive up start line) s (fun h =>
      h.flag LSY_STAT_dn_ok = true ∧ h.lsy.present = true)) ∧
  (∀ (s : State) (v : Word), Can.timeLo v s = true → Completes (.timeLo v) s (fun h =>
      h.lsy.timeLo = some v.toNat ∧ (s.hub.isTail = false → s.hub.lsy.fwd.length < 16 → h.lsy.fwd = lsyPut s.hub.lsy.fwd { cmd := 0x01, payload := v.toNat }) ∧ (s.hub.isTail = true → h.lsy.fwd = s.hub.lsy.fwd) ∧ h.clk = s.hub.clk)) ∧
  (∀ (s : State) (v : Word), Can.timeHi v s = true → Completes (.timeHi v) s (fun h =>
      h.lsy.timeHi = some v.toNat ∧ (s.hub.isTail = false → s.hub.lsy.fwd.length < 16 → h.lsy.fwd = lsyPut s.hub.lsy.fwd { cmd := 0x02, payload := v.toNat }) ∧ (s.hub.isTail = true → h.lsy.fwd = s.hub.lsy.fwd) ∧ h.clk = s.hub.clk)) ∧
  (∀ (s : State) (v : Word), Can.enumMsg v s = true → Completes (.enumMsg v) s (fun h =>
      h.rd LSY_STAT_pos = (bitsOf v.toNat 0 5 + 1) % 32 ∧ h.flag LSY_STAT_pos_valid = true ∧ h.lsy.joined = true ∧ (s.hub.proofHides 34 19 = false → caused h 34 19 = decide (s.hub.rd LSY_CFG_hubs_m1 < bitsOf v.toNat 0 5 + 1)) ∧ (s.hub.proofHides 34 20 = false → caused h 34 20 = decide (s.hub.rd LSY_CFG_hubs_m1 ≠ bitsOf v.toNat 8 5)) ∧ (s.hub.lsy.joined = true → h.lsy.ret = s.hub.lsy.ret) ∧ (s.hub.lsy.joined = false → h.lsy.ret.contains { cmd := 0x42, payload := (bitsOf v.toNat 0 5 + 1) % 32 + 64 } = true))) ∧
  (∀ (s : State) (v : Word), Can.present v s = true → Completes (.present v) s (fun h =>
      h.flag LSY_STAT_dn_ok = true ∧ h.lsy.present = true ∧ caused h 33 19 = false ∧ h.lsy.presents = (if s.hub.lsy.present then s.hub.lsy.presents else s.hub.lsy.presents + 1) ∧ (s.hub.isHead = true → 2 ≤ s.hub.lsy.presents → s.hub.lsy.present = false → s.hub.lsy.started = false → h.lsy.started = true ∧ (s.hub.flag LSY_STAT_calibrating = false → h.flag LSY_STAT_calibrating = true ∧ h.lsy.calNo = (s.hub.lsy.calNo + 1) % 2 ^ 16))))

/-- When `calStart` has its effect. R330: the hop is to be measured in the next periods, and the frame goes on. -/
def Sys2Proof.Machine.Can.calStart (_v : Word) (s : State) : Bool :=
  s.hub.lsyOn && s.hub.testGroup != 2 && !s.hub.isHead && !s.hub.lsy.lost

/-- When `calEcho` has its effect. R330: the echo is timed. -/
def Sys2Proof.Machine.Can.calEcho (_missing : Bool) (_rt : BitVec 16) (s : State) : Bool :=
  s.hub.lsyOn && s.hub.testGroup != 2 && s.hub.flag LSY_STAT_calibrating && !s.hub.isTail && decide (s.hub.lsy.echoes.length < 15 ∧ s.hub.lsy.echoes.length < 4 * s.hub.lsy.calPer.getD 0)

/-- When `calEcho` has its effect. R330: with the sixteenth the hop delay is their mean, or the calibration has failed.
-/
def Sys2Proof.Machine.Can.calEcho2 (_missing : Bool) (_rt : BitVec 16) (s : State) : Bool :=
  s.hub.lsyOn && s.hub.testGroup != 2 && s.hub.flag LSY_STAT_calibrating && !s.hub.isTail && decide (s.hub.lsy.echoes.length = 15 ∧ 15 < 4 * s.hub.lsy.calPer.getD 0)

/-- When `calEcho` has its effect. R330: outside a calibration, and at the tail, none is timed. -/
def Sys2Proof.Machine.Can.calEcho3 (_missing : Bool) (_rt : BitVec 16) (s : State) : Bool :=
  !s.hub.flag LSY_STAT_calibrating || s.hub.isTail

/-- When `calDelay` has its effect. R331: the D waits for the next pulse. -/
def Sys2Proof.Machine.Can.calDelay (_v : Word) (s : State) : Bool :=
  s.hub.lsyOn && s.hub.testGroup != 2 && !s.hub.isHead && !s.hub.lsy.lost

/-- When `recalReq` has its effect. R329, R345: the head starts a calibration, or notes it while one runs. -/
def Sys2Proof.Machine.Can.recalReq (_v : Word) (s : State) : Bool :=
  s.hub.lsyOn && s.hub.testGroup != 2 && s.hub.isHead

/-- When `recalReq` has its effect. R329: a member relays it. -/
def Sys2Proof.Machine.Can.recalReq2 (_v : Word) (s : State) : Bool :=
  s.hub.lsyOn && s.hub.testGroup != 2 && !s.hub.isHead

/-- When `recal` has its effect. R329, R345: W0 starts a calibration on the head, or one more after that which runs. -/
def Sys2Proof.Machine.Can.recal (w : Fin 8) (v : Word) (s : State) : Bool :=
  s.hub.writable w && w.val == 0 && v.getLsbD 0 && s.hub.lsyOn && s.hub.isHead

/-- When `recal` has its effect. R329: a member asks the head with reason 3. -/
def Sys2Proof.Machine.Can.recal2 (w : Fin 8) (v : Word) (s : State) : Bool :=
  s.hub.writable w && w.val == 0 && v.getLsbD 0 && s.hub.lsyOn && !s.hub.isHead && !s.hub.flag LSY_CTRL_recal

/-- When `recal` has its effect. R329, R350: only W0's write of 1 asks for one. -/
def Sys2Proof.Machine.Can.recal3 (w : Fin 8) (v : Word) (s : State) : Bool :=
  !s.hub.writable w || w.val != 0 || !v.getLsbD 0

/-- When `recalInterval` has its effect. R329: the head's interval is over. -/
def Sys2Proof.Machine.Can.recalInterval (s : State) : Bool :=
  s.hub.lsyOn && s.hub.testGroup != 2 && s.hub.isHead && s.hub.calDue && s.hub.lsy.started

/-- When `recalInterval` has its effect. R329: a member whose temperature has moved by its step asks the head with
reason 1. -/
def Sys2Proof.Machine.Can.recalInterval2 (s : State) : Bool :=
  s.hub.lsyOn && s.hub.testGroup != 2 && !s.hub.isHead && s.hub.flag LSY_STAT_cal_valid && s.hub.lsyPlaced && decide (8 * s.hub.rd LSY_CAL_CFG_temp_c ≤ (s.hub.logicTemp - s.hub.lsy.calTemp).natAbs)

/-- When `recalInterval` has its effect. R329: before the interval is over the head starts none. -/
def Sys2Proof.Machine.Can.recalInterval3 (s : State) : Bool :=
  s.hub.lsyOn && s.hub.testGroup != 2 && s.hub.isHead && (!s.hub.calDue || !s.hub.lsy.started)

/-- The commands of a calibration complete, each under the condition and with the result that its clause gives, after
R329 to R331. Clause by clause: `calStart`: R330: the hop is to be measured in the next periods, and the frame goes on.
`calEcho`: R330: the echo is timed. `calEcho`: R330: with the sixteenth the hop delay is their mean, or the calibration
has failed. `calEcho`: R330: outside a calibration, and at the tail, none is timed. `calDelay`: R331: the D waits for
the next pulse. `recalReq`: R329, R345: the head starts a calibration, or notes it while one runs. `recalReq`: R329: a
member relays it. `recal`: R329, R345: W0 starts a calibration on the head, or one more after that which runs. `recal`:
R329: a member asks the head with reason 3. `recal`: R329, R350: only W0's write of 1 asks for one. `recalInterval`:
R329: the head's interval is over. `recalInterval`: R329: a member whose temperature has moved by its step asks the head
with reason 1. `recalInterval`: R329: before the interval is over the head starts none. -/
def Obligations.LuanenCalibration : Prop :=
  (∀ (s : State) (v : Word), Can.calStart v s = true → Completes (.calStart v) s (fun h =>
      h.flag LSY_STAT_calibrating = true ∧ h.lsy.calNo = v.toNat % 2 ^ 16 ∧ h.lsy.echoes = [] ∧ h.lsy.missed = false ∧ h.lsy.calPer = some 0 ∧ (s.hub.isTail = false → s.hub.lsy.fwd.length < 16 → h.lsy.fwd = lsyPut s.hub.lsy.fwd { cmd := 0x10, payload := v.toNat }) ∧ (s.hub.isTail = true → h.lsy.fwd = s.hub.lsy.fwd))) ∧
  (∀ (s : State) (missing : Bool) (rt : BitVec 16), Can.calEcho missing rt s = true → Completes (.calEcho missing rt) s (fun h =>
      h.lsy.echoes = s.hub.lsy.echoes ++ [if missing then 1600 else rt.toNat] ∧ h.lsy.missed = (s.hub.lsy.missed || missing) ∧ h.flag LSY_STAT_calibrating = true)) ∧
  (∀ (s : State) (missing : Bool) (rt : BitVec 16), Can.calEcho2 missing rt s = true → Completes (.calEcho missing rt) s (fun h =>
      h.lsy.echoes = [] ∧ h.lsy.calPer = none ∧ (if s.hub.lsy.missed || missing || decide (8 < (s.hub.lsy.echoes ++ [if missing then 1600 else rt.toNat]).foldl max 0 - (s.hub.lsy.echoes ++ [if missing then 1600 else rt.toNat]).foldl min ((s.hub.lsy.echoes ++ [if missing then 1600 else rt.toNat]).headD 0)) || decide ((s.hub.lsy.echoes ++ [if missing then 1600 else rt.toNat]).foldl (· + ·) 0 < 25600) || decide (800 < ((s.hub.lsy.echoes ++ [if missing then 1600 else rt.toNat]).foldl (· + ·) 0 - 25600 + 16) / 32) then h.rd LSY_HOP_hop = s.hub.rd LSY_HOP_hop else h.rd LSY_HOP_hop = ((s.hub.lsy.echoes ++ [if missing then 1600 else rt.toNat]).foldl (· + ·) 0 - 25600 + 16) / 32))) ∧
  (∀ (s : State) (missing : Bool) (rt : BitVec 16), Can.calEcho3 missing rt s = true → Completes (.calEcho missing rt) s (fun h =>
      h.lsy = s.hub.lsy ∧ h.regs = s.hub.regs)) ∧
  (∀ (s : State) (v : Word), Can.calDelay v s = true → Completes (.calDelay v) s (fun h =>
      h.lsy.newD = some v.toNat ∧ h.regs = s.hub.regs)) ∧
  (∀ (s : State) (v : Word), Can.recalReq v s = true → Completes (.recalReq v) s (fun h =>
      if s.hub.flag LSY_STAT_calibrating then h.lsy.again = true ∧ h.lsy.calNo = s.hub.lsy.calNo else h.flag LSY_STAT_calibrating = true ∧ h.lsy.calNo = (s.hub.lsy.calNo + 1) % 2 ^ 16 ∧ h.lsy.started = true ∧ h.lsy.calPer = some 0)) ∧
  (∀ (s : State) (v : Word), Can.recalReq2 v s = true → Completes (.recalReq v) s (fun h =>
      h.lsy.ret.length = s.hub.lsy.ret.length + 1 ∧ h.lsy.ret.contains { cmd := 0x42, payload := v.toNat } = true ∧ h.regs = s.hub.regs)) ∧
  (∀ (s : State) (w : Fin 8) (v : Word), Can.recal w v s = true → Completes (.recal w v) s (fun h =>
      if s.hub.flag LSY_STAT_calibrating then h.lsy.again = true ∧ h.flag LSY_CTRL_recal = true ∧ h.lsy.calNo = s.hub.lsy.calNo else h.flag LSY_STAT_calibrating = true ∧ h.lsy.calNo = (s.hub.lsy.calNo + 1) % 2 ^ 16)) ∧
  (∀ (s : State) (w : Fin 8) (v : Word), Can.recal2 w v s = true → Completes (.recal w v) s (fun h =>
      h.flag LSY_CTRL_recal = true ∧ h.lsy.ret.contains { cmd := 0x42, payload := s.hub.lsyPos + 96 } = true)) ∧
  (∀ (s : State) (w : Fin 8) (v : Word), Can.recal3 w v s = true → Completes (.recal w v) s (fun h =>
      h.lsy = s.hub.lsy ∧ h.regs = s.hub.regs)) ∧
  (∀ (s : State), Can.recalInterval s = true → Completes (.recalInterval) s (fun h =>
      if s.hub.flag LSY_STAT_calibrating then h.lsy.again = true ∧ h.lsy.calNo = s.hub.lsy.calNo else h.flag LSY_STAT_calibrating = true ∧ h.lsy.calNo = (s.hub.lsy.calNo + 1) % 2 ^ 16 ∧ h.lsy.again = false)) ∧
  (∀ (s : State), Can.recalInterval2 s = true → Completes (.recalInterval) s (fun h =>
      h.lsy.ret.contains { cmd := 0x42, payload := s.hub.lsyPos + 32 } = true ∧ h.regs = s.hub.regs)) ∧
  (∀ (s : State), Can.recalInterval3 s = true → Completes (.recalInterval) s (fun h =>
      h.lsy = s.hub.lsy ∧ h.regs = s.hub.regs))

/-- When `mark` has its effect. R335: the mark-kind events that match set their latch in every tumbler. -/
def Sys2Proof.Machine.Can.mark (_v : Word) (s : State) : Bool :=
  s.hub.lsyOn && s.hub.testGroup != 2 && !s.hub.isHead && !s.hub.lsy.lost

/-- When `luanenEvent` has its effect. R335: a sync-kind event sets its latches 5 µs before its instant, once for each.
-/
def Sys2Proof.Machine.Can.luanenEvent (k : Fin 8) (s : State) : Bool :=
  s.hub.lsyOn && s.hub.testGroup != 2 && s.hub.rd LSY_EV_CFG_kind k == 1 && s.hub.lsyAligned && s.hub.lsyPlaced && (s.hub.eventDue k).isSome && (s.hub.eventDue k).all (fun e => vget s.hub.lsy.evAt k none != some e)

/-- When `luanenEvent` has its effect. R335: an event of another kind, of a hub that is not aligned, or that is not due
sets none. -/
def Sys2Proof.Machine.Can.luanenEvent2 (k : Fin 8) (s : State) : Bool :=
  s.hub.rd LSY_EV_CFG_kind k != 1 || !s.hub.lsyAligned || !s.hub.lsyPlaced || (s.hub.eventDue k).isNone

/-- When `user` has its effect. R335, R336: a message addressed to this hub enters its FIFO of 8, sets the user-kind
events of its code, and goes no further. -/
def Sys2Proof.Machine.Can.user (up : Bool) (v : Word) (s : State) : Bool :=
  s.hub.lsyOn && s.hub.testGroup != 2 && (!up || (!s.hub.isHead && !s.hub.lsy.lost)) && s.hub.lsyPlaced && !v.getLsbD 31 && bitsOf v.toNat 26 5 == s.hub.lsyPos

/-- When `user` has its effect. R336: one for another hub goes on downstream; a broadcast is taken and goes on. -/
def Sys2Proof.Machine.Can.user2 (up : Bool) (v : Word) (s : State) : Bool :=
  s.hub.lsyOn && s.hub.testGroup != 2 && !s.hub.isHead && !s.hub.lsy.lost && up && (!s.hub.lsyPlaced || v.getLsbD 31 || bitsOf v.toNat 26 5 != s.hub.lsyPos)

/-- When `user` has its effect. R336: one from downstream for another hub goes on upstream. -/
def Sys2Proof.Machine.Can.user3 (up : Bool) (v : Word) (s : State) : Bool :=
  s.hub.lsyOn && s.hub.testGroup != 2 && !up && !s.hub.isHead && !(s.hub.lsyPlaced && !v.getLsbD 31 && bitsOf v.toNat 26 5 == s.hub.lsyPos)

/-- When `lsyRxRead` has its effect. R350: the receiving ward's read removes the oldest message; another ward's removes
none. -/
def Sys2Proof.Machine.Can.lsyRxRead (w : Fin 8) (s : State) : Bool :=
  s.hub.readable w

/-- Marks, events and user messages complete, each under the condition and with the result that its clause gives, after
R335, R336 and R350. Clause by clause: `mark`: R335: the mark-kind events that match set their latch in every tumbler.
`luanenEvent`: R335: a sync-kind event sets its latches 5 µs before its instant, once for each. `luanenEvent`: R335: an
event of another kind, of a hub that is not aligned, or that is not due sets none. `user`: R335, R336: a message
addressed to this hub enters its FIFO of 8, sets the user-kind events of its code, and goes no further. `user`: R336:
one for another hub goes on downstream; a broadcast is taken and goes on. `user`: R336: one from downstream for another
hub goes on upstream. `lsyRxRead`: R350: the receiving ward's read removes the oldest message; another ward's removes
none. -/
def Obligations.LuanenEvents : Prop :=
  (∀ (s : State) (v : Word), Can.mark v s = true → Completes (.mark v) s (fun h =>
      ∀ k t : Fin 8, s.hub.lsyPlaced = true → s.hub.rd LSY_EV_CFG_kind k = 2 → s.hub.rd LSY_EV_CFG_src_pos k = bitsOf v.toNat 27 5 → s.hub.rd LSY_EV_CFG_tmb k = bitsOf v.toNat 24 3 → s.hub.rd LSY_EV_CFG_mk k = bitsOf v.toNat 22 2 →
        bitOf (h.tmb t).lsyLatch k = true)) ∧
  (∀ (s : State) (k : Fin 8), Can.luanenEvent k s = true → Completes (.luanenEvent k) s (fun h =>
      vget h.lsy.evAt k none = s.hub.eventDue k ∧ (∀ t : Fin 8, bitOf (h.tmb t).lsyLatch k = true) ∧ h.regs = s.hub.regs)) ∧
  (∀ (s : State) (k : Fin 8), Can.luanenEvent2 k s = true → Completes (.luanenEvent k) s (fun h =>
      h.lsy = s.hub.lsy ∧ h.tmbs = s.hub.tmbs ∧ h.regs = s.hub.regs)) ∧
  (∀ (s : State) (up : Bool) (v : Word), Can.user up v s = true → Completes (.user up v) s (fun h =>
      h.lsy.fwd = s.hub.lsy.fwd ∧ h.lsy.ret = s.hub.lsy.ret ∧ h.lsy.rx = (if s.hub.flag LSY_USER_rx_en && decide (s.hub.lsy.rx.length < 8) then s.hub.lsy.rx ++ [{ src := bitsOf v.toNat 21 5, code := bitsOf v.toNat 16 5, data := bitsOf v.toNat 0 16 }] else s.hub.lsy.rx) ∧ (s.hub.flag LSY_USER_rx_en = true → 8 ≤ s.hub.lsy.rx.length → h.rd LSY_RX_STAT_overflow = satInc (2 ^ LSY_RX_STAT_overflow.width - 1) (s.hub.rd LSY_RX_STAT_overflow)) ∧ (∀ k : Fin 8, s.hub.rd LSY_EV_CFG_kind k = 3 → s.hub.rd LSY_EV_CFG_code k = bitsOf v.toNat 16 5 → ∀ t : Fin 8, bitOf (h.tmb t).lsyLatch k = true))) ∧
  (∀ (s : State) (up : Bool) (v : Word), Can.user2 up v s = true → Completes (.user up v) s (fun h =>
      (s.hub.isTail = false → s.hub.lsy.fwd.length < 16 → h.lsy.fwd = lsyPut s.hub.lsy.fwd { cmd := 0x60, payload := v.toNat }) ∧ (s.hub.isTail = true → h.lsy.fwd = s.hub.lsy.fwd) ∧ (v.getLsbD 31 = false → h.lsy.rx = s.hub.lsy.rx) ∧ (v.getLsbD 31 = true → s.hub.flag LSY_USER_rx_en = true → s.hub.lsy.rx.length < 8 → h.lsy.rx = s.hub.lsy.rx ++ [{ src := bitsOf v.toNat 21 5, code := bitsOf v.toNat 16 5, data := bitsOf v.toNat 0 16 }]))) ∧
  (∀ (s : State) (up : Bool) (v : Word), Can.user3 up v s = true → Completes (.user up v) s (fun h =>
      h.lsy.ret.contains { cmd := 0x60, payload := v.toNat } = true ∧ h.lsy.rx = s.hub.lsy.rx ∧ h.regs = s.hub.regs)) ∧
  (∀ (s : State) (w : Fin 8), Can.lsyRxRead w s = true → Completes (.lsyRxRead w) s (fun h =>
      h.lsy = (if s.hub.rd LSY_USER_rx_ward = w.val then { s.hub.lsy with rx := s.hub.lsy.rx.tail } else s.hub.lsy) ∧ h.regs = s.hub.regs))

/-- When `breakMsg` has its effect. R337: the head records the position. -/
def Sys2Proof.Machine.Can.breakMsg (_v : Word) (s : State) : Bool :=
  s.hub.lsyOn && s.hub.testGroup != 2 && s.hub.isHead

/-- When `breakMsg` has its effect. R337: a member relays it. -/
def Sys2Proof.Machine.Can.breakMsg2 (_v : Word) (s : State) : Bool :=
  s.hub.lsyOn && s.hub.testGroup != 2 && !s.hub.isHead

/-- When `upstreamLost` has its effect. R337: the member is out of the chain and sends nothing, it needs a position and
a calibration again, and LSY_LOST is present. -/
def Sys2Proof.Machine.Can.upstreamLost (s : State) : Bool :=
  s.hub.lsyOn && s.hub.testGroup != 2 && !s.hub.isHead && !s.hub.lsy.lost && s.hub.threePeriods s.hub.lsy.pulseAt 200

/-- When `downstreamLost` has its effect. R337: the downstream side is lost, and a member reports the break upstream. -/
def Sys2Proof.Machine.Can.downstreamLost (s : State) : Bool :=
  s.hub.lsyOn && s.hub.testGroup != 2 && !s.hub.isTail && s.hub.threePeriods s.hub.lsy.slotAt 0

/-- When `downstreamLost` has its effect. R337: the tail has no downstream side, and 3 periods must have passed since
the last frame in return slot 1. -/
def Sys2Proof.Machine.Can.downstreamLost2 (s : State) : Bool :=
  s.hub.isTail || !s.hub.threePeriods s.hub.lsy.slotAt 0

/-- When `chainResumed` has its effect. R337: the chain is there again. -/
def Sys2Proof.Machine.Can.chainResumed (s : State) : Bool :=
  s.hub.lsyOn && s.hub.testGroup != 2 && s.hub.lsy.lost && decide (3 ≤ s.hub.lsy.pulses)

/-- When `chainResumed` has its effect. R337: before three pulses in a row it is not. -/
def Sys2Proof.Machine.Can.chainResumed2 (s : State) : Bool :=
  !s.hub.lsy.lost || decide (s.hub.lsy.pulses < 3)

/-- When `hb` has its effect. R327, R343: from downstream it counts as the neighbour's frame. -/
def Sys2Proof.Machine.Can.hb (up : Bool) (_v : Word) (s : State) : Bool :=
  s.hub.lsyOn && s.hub.testGroup != 2 && !up

/-- When `hb` has its effect. R343: the partner's heartbeat is taken. -/
def Sys2Proof.Machine.Can.hb2 (up : Bool) (v : Word) (s : State) : Bool :=
  s.hub.lsyOn && s.hub.testGroup != 2 && (!up || (!s.hub.isHead && !s.hub.lsy.lost)) && s.hub.flag LSY_PAIR_en && s.hub.flag LSY_PAIR_partner == !up && bitsOf v.toNat 8 8 == s.hub.rd LSY_PAIR_id && bitsOf v.toNat 27 5 == (if up then s.hub.lsyPos - 1 else s.hub.lsyPos + 1) && !v.getLsbD 24

/-- When `hb` has its effect. R343: one with another pair's number or of another hub opens the pair with detail 5. -/
def Sys2Proof.Machine.Can.hb3 (up : Bool) (v : Word) (s : State) : Bool :=
  s.hub.lsyOn && s.hub.testGroup != 2 && (!up || (!s.hub.isHead && !s.hub.lsy.lost)) && s.hub.flag LSY_PAIR_en && s.hub.flag LSY_PAIR_partner == !up && !(bitsOf v.toNat 8 8 == s.hub.rd LSY_PAIR_id && bitsOf v.toNat 27 5 == (if up then s.hub.lsyPos - 1 else s.hub.lsyPos + 1)) && !s.hub.proofHides 37 16

/-- When `hb` has its effect. R343: a partner at its safe state while this hub commands on opens the pair with detail 2.
-/
def Sys2Proof.Machine.Can.hb4 (up : Bool) (v : Word) (s : State) : Bool :=
  s.hub.lsyOn && s.hub.testGroup != 2 && (!up || (!s.hub.isHead && !s.hub.lsy.lost)) && s.hub.flag LSY_PAIR_en && s.hub.flag LSY_PAIR_partner == !up && bitsOf v.toNat 8 8 == s.hub.rd LSY_PAIR_id && bitsOf v.toNat 27 5 == (if up then s.hub.lsyPos - 1 else s.hub.lsyPos + 1) && v.getLsbD 24 && s.hub.flag OUT_CTRL_on (s.hub.rd LSY_PAIR_ch) && (v.getLsbD 26 || !(s.hub.lsy.pairOn || s.hub.lsy.closeAt.isSome)) && !s.hub.proofHides 37 16

/-- When `hb` has its effect. R343: a partner that commands off opens the pair with detail 0, and this hub commands off.
-/
def Sys2Proof.Machine.Can.hb5 (up : Bool) (v : Word) (s : State) : Bool :=
  s.hub.lsyOn && s.hub.testGroup != 2 && (!up || (!s.hub.isHead && !s.hub.lsy.lost)) && s.hub.flag LSY_PAIR_en && s.hub.flag LSY_PAIR_partner == !up && bitsOf v.toNat 8 8 == s.hub.rd LSY_PAIR_id && bitsOf v.toNat 27 5 == (if up then s.hub.lsyPos - 1 else s.hub.lsyPos + 1) && !v.getLsbD 26 && s.hub.flag OUT_CTRL_on (s.hub.rd LSY_PAIR_ch) && (s.hub.lsy.pairOn || s.hub.lsy.closeAt.isSome)

/-- When `hb` has its effect. R337: a head, and a member out of the chain, has no upstream frames. -/
def Sys2Proof.Machine.Can.hb6 (up : Bool) (_v : Word) (s : State) : Bool :=
  up && (s.hub.isHead || s.hub.lsy.lost)

/-- When `pairHbTimeout` has its effect. R343: no heartbeat in 3 periods opens the pair with detail 1. -/
def Sys2Proof.Machine.Can.pairHbTimeout (s : State) : Bool :=
  s.hub.lsyOn && s.hub.testGroup != 2 && s.hub.flag LSY_PAIR_en && s.hub.threePeriods s.hub.lsy.hbAt 0

/-- When `pairHbTimeout` has its effect. R340, R343: outside a pair none is due, nor within 3 periods of the last one.
-/
def Sys2Proof.Machine.Can.pairHbTimeout2 (s : State) : Bool :=
  !s.hub.flag LSY_PAIR_en || !s.hub.threePeriods s.hub.lsy.hbAt 0

/-- When `pairClose` has its effect. R342: the close is scheduled for the instant. -/
def Sys2Proof.Machine.Can.pairClose (_v : Word) (s : State) : Bool :=
  s.hub.lsyOn && s.hub.testGroup != 2 && s.hub.flag LSY_PAIR_en && !s.hub.flag LSY_PAIR_partner && !s.hub.lsy.lost && s.hub.lsyAligned && s.hub.flag OUT_CTRL_on (s.hub.rd LSY_PAIR_ch) && !s.hub.flag OUT_STAT_safe_hold (s.hub.rd LSY_PAIR_ch)

/-- When `pairClose` has its effect. R342: a hub that is not aligned or does not command on schedules none. -/
def Sys2Proof.Machine.Can.pairClose2 (_v : Word) (s : State) : Bool :=
  !(s.hub.flag LSY_PAIR_en && !s.hub.flag LSY_PAIR_partner && !s.hub.lsy.lost && s.hub.lsyAligned && s.hub.flag OUT_CTRL_on (s.hub.rd LSY_PAIR_ch) && !s.hub.flag OUT_STAT_safe_hold (s.hub.rd LSY_PAIR_ch))

/-- When `pairTurnOn` has its effect. R342: the admitted turn-on takes effect at T. -/
def Sys2Proof.Machine.Can.pairTurnOn (s : State) : Bool :=
  s.hub.lsyOn && s.hub.testGroup != 2 && !s.hub.lsy.closePast && s.hub.lsy.closeAdmitted && s.hub.lsy.closeAt.any (fun t => decide (t ≤ s.hub.clk.tb))

/-- When `pairTurnOn` has its effect. R342, R343: one that is not admitted 2 µs before T is abandoned. -/
def Sys2Proof.Machine.Can.pairTurnOn2 (s : State) : Bool :=
  s.hub.lsyOn && s.hub.testGroup != 2 && !s.hub.lsy.closePast && !s.hub.lsy.closeAdmitted && s.hub.lsy.closeAt.any (fun t => decide (t ≤ s.hub.clk.tb + 200)) && !s.hub.proofHides 37 16

/-- When `pairTurnOn` has its effect. R342: before its instant, and with none scheduled, nothing changes. -/
def Sys2Proof.Machine.Can.pairTurnOn3 (s : State) : Bool :=
  s.hub.lsy.closePast || s.hub.lsy.closeAt.all (fun t => decide (s.hub.clk.tb + 200 < t))

/-- The commands of the broken chain and of the 1oo2 pair complete, each under the condition and with the result that
its clause gives, after R337 and R340 to R347. Clause by clause: `breakMsg`: R337: the head records the position.
`breakMsg`: R337: a member relays it. `upstreamLost`: R337: the member is out of the chain and sends nothing, it needs a
position and a calibration again, and LSY_LOST is present. `downstreamLost`: R337: the downstream side is lost, and a
member reports the break upstream. `downstreamLost`: R337: the tail has no downstream side, and 3 periods must have
passed since the last frame in return slot 1. `chainResumed`: R337: the chain is there again. `chainResumed`: R337:
before three pulses in a row it is not. `hb`: R327, R343: from downstream it counts as the neighbour's frame. `hb`:
R343: the partner's heartbeat is taken. `hb`: R343: one with another pair's number or of another hub opens the pair with
detail 5. `hb`: R343: a partner at its safe state while this hub commands on opens the pair with detail 2. `hb`: R343: a
partner that commands off opens the pair with detail 0, and this hub commands off. `hb`: R337: a head, and a member out
of the chain, has no upstream frames. `pairHbTimeout`: R343: no heartbeat in 3 periods opens the pair with detail 1.
`pairHbTimeout`: R340, R343: outside a pair none is due, nor within 3 periods of the last one. `pairClose`: R342: the
close is scheduled for the instant. `pairClose`: R342: a hub that is not aligned or does not command on schedules none.
`pairTurnOn`: R342: the admitted turn-on takes effect at T. `pairTurnOn`: R342, R343: one that is not admitted 2 µs
before T is abandoned. `pairTurnOn`: R342: before its instant, and with none scheduled, nothing changes. -/
def Obligations.PairCommands : Prop :=
  (∀ (s : State) (v : Word), Can.breakMsg v s = true → Completes (.breakMsg v) s (fun h =>
      h.rd LSY_STAT_break_pos = bitsOf v.toNat 0 5 ∧ h.lsy = s.hub.lsy)) ∧
  (∀ (s : State) (v : Word), Can.breakMsg2 v s = true → Completes (.breakMsg v) s (fun h =>
      h.lsy.ret.length = s.hub.lsy.ret.length + 1 ∧ h.lsy.ret.contains { cmd := 0x41, payload := v.toNat } = true ∧ h.regs = s.hub.regs)) ∧
  (∀ (s : State), Can.upstreamLost s = true → Completes (.upstreamLost) s (fun h =>
      h.lsy.lost = true ∧ h.lsy.pulses = 0 ∧ h.flag LSY_STAT_up_ok = false ∧ h.flag LSY_STAT_aligned = false ∧ h.flag LSY_STAT_pos_valid = false ∧ h.flag LSY_STAT_calibrating = false ∧ h.lsy.fwd = [] ∧ h.lsy.outFwd = [] ∧ h.lsy.calPer = none ∧ h.lsy.joined = false ∧ h.lsy.needCal = true ∧ h.lsy.newD = none ∧ (s.hub.proofHides 33 18 = false → caused h 33 18 = true))) ∧
  (∀ (s : State), Can.downstreamLost s = true → Completes (.downstreamLost) s (fun h =>
      h.flag LSY_STAT_dn_ok = false ∧ h.lsy.presents = 0 ∧ (s.hub.proofHides 33 19 = false → caused h 33 19 = true) ∧ (s.hub.isHead = false → h.lsy.ret.contains { cmd := 0x41, payload := s.hub.lsyPos } = true) ∧ (s.hub.isHead = true → h.lsy.ret = s.hub.lsy.ret))) ∧
  (∀ (s : State), Can.downstreamLost2 s = true → Completes (.downstreamLost) s (fun h =>
      h.lsy = s.hub.lsy ∧ h.regs = s.hub.regs)) ∧
  (∀ (s : State), Can.chainResumed s = true → Completes (.chainResumed) s (fun h =>
      h.lsy.lost = false ∧ h.flag LSY_STAT_up_ok = true ∧ caused h 33 18 = false)) ∧
  (∀ (s : State), Can.chainResumed2 s = true → Completes (.chainResumed) s (fun h =>
      h.lsy = s.hub.lsy ∧ h.regs = s.hub.regs)) ∧
  (∀ (s : State) (up : Bool) (v : Word), Can.hb up v s = true → Completes (.hb up v) s (fun h =>
      h.flag LSY_STAT_dn_ok = true ∧ h.lsy.present = true ∧ caused h 33 19 = false ∧ (s.hub.flag LSY_PAIR_en = false → h.lsy.hb = s.hub.lsy.hb))) ∧
  (∀ (s : State) (up : Bool) (v : Word), Can.hb2 up v s = true → Completes (.hb up v) s (fun h =>
      h.flag LSY_PAIR_STAT_partner_ok = true ∧ h.rd LSY_PAIR_STAT_partner_cnt = bitsOf v.toNat 16 8 ∧ h.flag LSY_PAIR_STAT_closed = (v.getLsbD 25 && s.hub.flag OUT_STAT_sw_on (s.hub.rd LSY_PAIR_ch)) ∧ h.lsy.hb = some v.toNat ∧ h.lsy.run3 = (if v.getLsbD 25 && !v.getLsbD 26 then s.hub.lsy.run3 + 1 else 0))) ∧
  (∀ (s : State) (up : Bool) (v : Word), Can.hb3 up v s = true → Completes (.hb up v) s (fun h =>
      h.rd LSY_PAIR_STAT_detail = 5 ∧ h.lsy.pairOn = false ∧ h.lsy.closeAt = none ∧ h.rd LSY_PAIR_STAT_disagreements = satInc (2 ^ LSY_PAIR_STAT_disagreements.width - 1) (s.hub.rd LSY_PAIR_STAT_disagreements))) ∧
  (∀ (s : State) (up : Bool) (v : Word), Can.hb4 up v s = true → Completes (.hb up v) s (fun h =>
      h.rd LSY_PAIR_STAT_detail = 2 ∧ h.lsy.pairOn = false ∧ h.lsy.closeAt = none)) ∧
  (∀ (s : State) (up : Bool) (v : Word), Can.hb5 up v s = true → Completes (.hb up v) s (fun h =>
      h.flag OUT_CTRL_on (s.hub.rd LSY_PAIR_ch) = false ∧ h.lsy.pairOn = false ∧ h.lsy.closeAt = none ∧ h.rd LSY_PAIR_STAT_detail = 0)) ∧
  (∀ (s : State) (up : Bool) (v : Word), Can.hb6 up v s = true → Completes (.hb up v) s (fun h =>
      h.lsy = s.hub.lsy ∧ h.regs = s.hub.regs)) ∧
  (∀ (s : State), Can.pairHbTimeout s = true → Completes (.pairHbTimeout) s (fun h =>
      h.flag LSY_PAIR_STAT_partner_ok = false ∧ h.lsy.hb = none ∧ h.lsy.run3 = 0 ∧ (s.hub.proofHides 37 16 = false → h.lsy.closeAt = none ∧ h.lsy.pairOn = false ∧ h.rd LSY_PAIR_STAT_detail = 1 ∧ h.rd LSY_PAIR_STAT_disagreements = satInc (2 ^ LSY_PAIR_STAT_disagreements.width - 1) (s.hub.rd LSY_PAIR_STAT_disagreements)))) ∧
  (∀ (s : State), Can.pairHbTimeout2 s = true → Completes (.pairHbTimeout) s (fun h =>
      h.lsy = s.hub.lsy ∧ h.regs = s.hub.regs)) ∧
  (∀ (s : State) (v : Word), Can.pairClose v s = true → Completes (.pairClose v) s (fun h =>
      h.flag LSY_PAIR_STAT_close_sched = true ∧ h.rd LSY_PAIR_T_t = v.toNat ∧ h.lsy.closeAt = some ((s.hub.clk.tb + (v.toNat + 2 ^ 32 - s.hub.clk.tb % 2 ^ 32) % 2 ^ 32) % 2 ^ 64) ∧ h.lsy.closePast = false ∧ h.lsy.closeAdmitted = false)) ∧
  (∀ (s : State) (v : Word), Can.pairClose2 v s = true → Completes (.pairClose v) s (fun h =>
      h.lsy = s.hub.lsy ∧ h.regs = s.hub.regs)) ∧
  (∀ (s : State), Can.pairTurnOn s = true → Completes (.pairTurnOn) s (fun h =>
      h.lsy.closePast = true ∧ h.lsy.pairOn = true ∧ vget h.hinge.cmd (s.hub.rd LSY_PAIR_ch) 0 = 1 ∧ h.flag LSY_PAIR_STAT_close_sched = false)) ∧
  (∀ (s : State), Can.pairTurnOn2 s = true → Completes (.pairTurnOn) s (fun h =>
      h.lsy.closeAt = none ∧ h.lsy.pairOn = false ∧ h.rd LSY_PAIR_STAT_detail = 6 ∧ h.flag LSY_PAIR_STAT_close_sched = false)) ∧
  (∀ (s : State), Can.pairTurnOn3 s = true → Completes (.pairTurnOn) s (fun h =>
      h.lsy = s.hub.lsy ∧ h.regs = s.hub.regs))

/-- When `writeFrame` has its effect. R360, R363: a frame that passes every check is carried out and counted; each word
of a bank takes its value. -/
def Sys2Proof.Machine.Can.writeFrame (p : Fin 3) (header : Word) (data : List Word) (crc : Byte) (sck : BitVec 10) (early : Bool) (s : State) : Bool :=
  !early && !hdrRead header.toNat && hdrKind header.toNat != 3 && !s.hub.portsSilent && (s.hub.port p).outcome.isNone && sck.toNat == 40 + 32 * hdrCount header.toNat && data.length == hdrCount header.toNat && crc.toNat == frameCrc header.toNat (data.map BitVec.toNat) && (s.hub.judge p header.toNat (data.map BitVec.toNat)).isNone

/-- When `writeFrame` has its effect. R359, R363, R364: a CRC or length error has no effect; its code waits for the next
read. -/
def Sys2Proof.Machine.Can.writeFrame2 (p : Fin 3) (header : Word) (data : List Word) (crc : Byte) (sck : BitVec 10) (early : Bool) (s : State) : Bool :=
  !early && !hdrRead header.toNat && hdrKind header.toNat != 3 && !s.hub.portsSilent && (s.hub.port p).outcome.isNone && !(sck.toNat == 40 + 32 * hdrCount header.toNat && data.length == hdrCount header.toNat && crc.toNat == frameCrc header.toNat (data.map BitVec.toNat))

/-- When `writeFrame` has its effect. R363, R364, R370, R380: a frame that fails a check has no effect but its code and
the counter of that check. -/
def Sys2Proof.Machine.Can.writeFrame3 (p : Fin 3) (header : Word) (data : List Word) (crc : Byte) (sck : BitVec 10) (early : Bool) (s : State) : Bool :=
  !early && !hdrRead header.toNat && hdrKind header.toNat != 3 && !s.hub.portsSilent && (s.hub.port p).outcome.isNone && sck.toNat == 40 + 32 * hdrCount header.toNat && data.length == hdrCount header.toNat && crc.toNat == frameCrc header.toNat (data.map BitVec.toNat) && (s.hub.judge p header.toNat (data.map BitVec.toNat)).isSome

/-- When `writeFrame` has its effect. R364: while an outcome waits a frame that writes is discarded and counted. -/
def Sys2Proof.Machine.Can.writeFrame4 (p : Fin 3) (header : Word) (_data : List Word) (_crc : Byte) (_sck : BitVec 10) (early : Bool) (s : State) : Bool :=
  !early && !s.hub.portsSilent && !hdrRead header.toNat && hdrKind header.toNat != 3 && (s.hub.port p).outcome.isSome

/-- When `writeFrame` has its effect. R59, R365: a frame begun in reset, or while no port answers, is not taken, and SDO
stays high-impedance. -/
def Sys2Proof.Machine.Can.writeFrame5 (_p : Fin 3) (header : Word) (_data : List Word) (_crc : Byte) (_sck : BitVec 10) (early : Bool) (s : State) : Bool :=
  (early || s.hub.portsSilent) && !hdrRead header.toNat && hdrKind header.toNat != 3

/-- When `readFrame` has its effect. R357, R363: the status, the words and their CRC are answered; a word of a bank is
answered as it stands. -/
def Sys2Proof.Machine.Can.readFrame (p : Fin 3) (header : Word) (crc : Byte) (sck : BitVec 10) (early : Bool) (s : State) : Bool :=
  !early && hdrRead header.toNat && !s.hub.portsSilent && (s.hub.port p).outcome.isNone && crc.toNat == frameCrc header.toNat [] && (s.hub.judge p header.toNat []).isNone && decide (64 + 32 * hdrCount header.toNat ≤ sck.toNat)

/-- When `readFrame` has its effect. R357, R363: a read that fails a check answers its code and words of zeros. -/
def Sys2Proof.Machine.Can.readFrame2 (p : Fin 3) (header : Word) (crc : Byte) (sck : BitVec 10) (early : Bool) (s : State) : Bool :=
  !early && hdrRead header.toNat && !s.hub.portsSilent && (s.hub.port p).outcome.isNone && crc.toNat == frameCrc header.toNat [] && (s.hub.judge p header.toNat []).isSome && decide (64 + 32 * hdrCount header.toNat ≤ sck.toNat)

/-- When `readFrame` has its effect. R359: a header with a wrong CRC answers 0x01. -/
def Sys2Proof.Machine.Can.readFrame3 (p : Fin 3) (header : Word) (crc : Byte) (sck : BitVec 10) (early : Bool) (s : State) : Bool :=
  !early && hdrRead header.toNat && !s.hub.portsSilent && (s.hub.port p).outcome.isNone && crc.toNat != frameCrc header.toNat [] && decide (64 + 32 * hdrCount header.toNat ≤ sck.toNat)

/-- When `readFrame` has its effect. R364: a pending outcome is delivered in place of the read. -/
def Sys2Proof.Machine.Can.readFrame4 (p : Fin 3) (header : Word) (_crc : Byte) (sck : BitVec 10) (early : Bool) (s : State) : Bool :=
  !early && hdrRead header.toNat && !s.hub.portsSilent && (s.hub.port p).outcome.isSome && decide (64 + 32 * hdrCount header.toNat ≤ sck.toNat)

/-- When `readFrame` has its effect. R359: a read ended before its header is counted and nothing more. -/
def Sys2Proof.Machine.Can.readFrame5 (_p : Fin 3) (header : Word) (_crc : Byte) (sck : BitVec 10) (early : Bool) (s : State) : Bool :=
  !early && hdrRead header.toNat && !s.hub.portsSilent && decide (sck.toNat < 40)

/-- When `doorbell` has its effect. R384: the submission tail moves. -/
def Sys2Proof.Machine.Can.doorbell (p : Fin 3) (header : Word) (v : Word) (crc : Byte) (sck : BitVec 10) (early : Bool) (s : State) : Bool :=
  !early && !hdrRead header.toNat && hdrKind header.toNat == 3 && !s.hub.portsSilent && (s.hub.port p).outcome.isNone && sck.toNat == 72 && crc.toNat == frameCrc header.toNat [v.toNat] && (s.hub.judge p header.toNat [v.toNat]).isNone

/-- When `doorbell` has its effect. R363, R384: a doorbell that fails a check leaves the tail. -/
def Sys2Proof.Machine.Can.doorbell2 (p : Fin 3) (header : Word) (v : Word) (crc : Byte) (sck : BitVec 10) (early : Bool) (s : State) : Bool :=
  !early && !hdrRead header.toNat && hdrKind header.toNat == 3 && !s.hub.portsSilent && (s.hub.port p).outcome.isNone && sck.toNat == 72 && crc.toNat == frameCrc header.toNat [v.toNat] && (s.hub.judge p header.toNat [v.toNat]).isSome

/-- When `wrdExpOpen` has its effect. R372: the written set of pages is open. -/
def Sys2Proof.Machine.Can.wrdExpOpen (w : Fin 8) (v : Word) (s : State) : Bool :=
  s.hub.writable w && s.hub.expStatus w v.toNat == 0 && bitsOf v.toNat 16 16 == 0x4558

/-- When `wrdExpOpen` has its effect. R372: a write without the key, or that the rule refuses, opens none. -/
def Sys2Proof.Machine.Can.wrdExpOpen2 (w : Fin 8) (v : Word) (s : State) : Bool :=
  !(s.hub.writable w && s.hub.expStatus w v.toNat == 0 && bitsOf v.toNat 16 16 == 0x4558)

/-- The frames of the host ports complete, each under the condition and with the result that its clause gives, after
R355 to R366. Clause by clause: `writeFrame`: R360, R363: a frame that passes every check is carried out and counted;
each word of a bank takes its value. `writeFrame`: R359, R363, R364: a CRC or length error has no effect; its code waits
for the next read. `writeFrame`: R363, R364, R370, R380: a frame that fails a check has no effect but its code and the
counter of that check. `writeFrame`: R364: while an outcome waits a frame that writes is discarded and counted.
`writeFrame`: R59, R365: a frame begun in reset, or while no port answers, is not taken, and SDO stays high-impedance.
`readFrame`: R357, R363: the status, the words and their CRC are answered; a word of a bank is answered as it stands.
`readFrame`: R357, R363: a read that fails a check answers its code and words of zeros. `readFrame`: R359: a header with
a wrong CRC answers 0x01. `readFrame`: R364: a pending outcome is delivered in place of the read. `readFrame`: R359: a
read ended before its header is counted and nothing more. `doorbell`: R384: the submission tail moves. `doorbell`: R363,
R384: a doorbell that fails a check leaves the tail. `wrdExpOpen`: R372: the written set of pages is open. `wrdExpOpen`:
R372: a write without the key, or that the rule refuses, opens none. -/
def Obligations.PortCommands : Prop :=
  (∀ (s : State) (p : Fin 3) (header : Word) (data : List Word) (crc : Byte) (sck : BitVec 10) (early : Bool), Can.writeFrame p header data crc sck early s = true → Completes (.writeFrame p header data crc ⟨sck, early⟩) s (fun h =>
      h.rd HPT_FRAMES_count p = (s.hub.rd HPT_FRAMES_count p + 1) % 2 ^ 32 ∧ (h.port p).outcome = none ∧ (h.port p).driven = true ∧ ((hdrWords header.toNat).all (fun a => decide (0x100000 ≤ a) && decide (a < 0x1C0000)) = true → (hdrWords header.toNat).Nodup → ∀ y ∈ (hdrWords header.toNat).zip (data.map BitVec.toNat), h.memWord y.1 = y.2) ∧ ((hdrWords header.toNat).all (fun a => decide (a < 0x100000)) = true → h.mem = s.hub.mem))) ∧
  (∀ (s : State) (p : Fin 3) (header : Word) (data : List Word) (crc : Byte) (sck : BitVec 10) (early : Bool), Can.writeFrame2 p header data crc sck early s = true → Completes (.writeFrame p header data crc ⟨sck, early⟩) s (fun h =>
      (h.port p).outcome = some 1 ∧ h.rd HPT_ERR_crc_errors p = satInc (2 ^ HPT_ERR_crc_errors.width - 1) (s.hub.rd HPT_ERR_crc_errors p) ∧ h.rd HPT_FAIL_HDR_header p = header.toNat ∧ h.mem = s.hub.mem ∧ h.rd HPT_FRAMES_count p = s.hub.rd HPT_FRAMES_count p)) ∧
  (∀ (s : State) (p : Fin 3) (header : Word) (data : List Word) (crc : Byte) (sck : BitVec 10) (early : Bool), Can.writeFrame3 p header data crc sck early s = true → Completes (.writeFrame p header data crc ⟨sck, early⟩) s (fun h =>
      (h.port p).outcome = (s.hub.judge p header.toNat (data.map BitVec.toNat)).map (fun x => x.2) ∧ h.rd HPT_FAIL_HDR_header p = header.toNat ∧ h.mem = s.hub.mem ∧ h.rd HPT_FRAMES_count p = s.hub.rd HPT_FRAMES_count p ∧ (∀ x ∈ s.hub.judge p header.toNat (data.map BitVec.toNat), (x.1 = 5 → h.rd HPT_ERR_bind_refusals p = satInc (2 ^ HPT_ERR_bind_refusals.width - 1) (s.hub.rd HPT_ERR_bind_refusals p)) ∧ (x.1 = 8 → h.rd WRD_REFUSED_denied (hdrWard header.toNat) = satInc (2 ^ WRD_REFUSED_denied.width - 1) (s.hub.rd WRD_REFUSED_denied (hdrWard header.toNat)))))) ∧
  (∀ (s : State) (p : Fin 3) (header : Word) (data : List Word) (crc : Byte) (sck : BitVec 10) (early : Bool), Can.writeFrame4 p header data crc sck early s = true → Completes (.writeFrame p header data crc ⟨sck, early⟩) s (fun h =>
      (h.port p).outcome = (s.hub.port p).outcome ∧ h.rd HPT_DISC_discarded p = satInc (2 ^ HPT_DISC_discarded.width - 1) (s.hub.rd HPT_DISC_discarded p) ∧ h.mem = s.hub.mem ∧ h.rd HPT_FRAMES_count p = s.hub.rd HPT_FRAMES_count p)) ∧
  (∀ (s : State) (p : Fin 3) (header : Word) (data : List Word) (crc : Byte) (sck : BitVec 10) (early : Bool), Can.writeFrame5 p header data crc sck early s = true → Completes (.writeFrame p header data crc ⟨sck, early⟩) s (fun h =>
      (h.port p).driven = false ∧ (h.port p).outcome = (s.hub.port p).outcome ∧ h.mem = s.hub.mem ∧ h.regs = s.hub.regs)) ∧
  (∀ (s : State) (p : Fin 3) (header : Word) (crc : Byte) (sck : BitVec 10) (early : Bool), Can.readFrame p header crc sck early s = true → Completes (.readFrame p header crc ⟨sck, early⟩) s (fun h =>
      (h.port p).status = 0 ∧ (h.port p).driven = true ∧ (h.port p).data.length = hdrCount header.toNat ∧ (h.port p).crc = crc8Host (0 :: (h.port p).data.flatMap (beBytes 4)) ∧ h.rd HPT_FRAMES_count p = (s.hub.rd HPT_FRAMES_count p + 1) % 2 ^ 32 ∧ ((hdrWords header.toNat).all (fun a => decide (0x100000 ≤ a) && decide (a < 0x1C0000) && !s.hub.isBad a) = true → (h.port p).data = (hdrWords header.toNat).map s.hub.memWord))) ∧
  (∀ (s : State) (p : Fin 3) (header : Word) (crc : Byte) (sck : BitVec 10) (early : Bool), Can.readFrame2 p header crc sck early s = true → Completes (.readFrame p header crc ⟨sck, early⟩) s (fun h =>
      some (h.port p).status = (s.hub.judge p header.toNat []).map (fun x => x.2) ∧ (h.port p).data = List.replicate (min (hdrCount header.toNat) ((sck.toNat - 56) / 32)) 0 ∧ h.mem = s.hub.mem ∧ h.rd HPT_FRAMES_count p = s.hub.rd HPT_FRAMES_count p)) ∧
  (∀ (s : State) (p : Fin 3) (header : Word) (crc : Byte) (sck : BitVec 10) (early : Bool), Can.readFrame3 p header crc sck early s = true → Completes (.readFrame p header crc ⟨sck, early⟩) s (fun h =>
      (h.port p).status = 1 ∧ h.rd HPT_ERR_crc_errors p = satInc (2 ^ HPT_ERR_crc_errors.width - 1) (s.hub.rd HPT_ERR_crc_errors p) ∧ h.mem = s.hub.mem ∧ h.rd HPT_FRAMES_count p = s.hub.rd HPT_FRAMES_count p)) ∧
  (∀ (s : State) (p : Fin 3) (header : Word) (crc : Byte) (sck : BitVec 10) (early : Bool), Can.readFrame4 p header crc sck early s = true → Completes (.readFrame p header crc ⟨sck, early⟩) s (fun h =>
      (h.port p).outcome = none ∧ some (h.port p).status = (s.hub.port p).outcome ∧ h.mem = s.hub.mem ∧ h.rd HPT_FRAMES_count p = s.hub.rd HPT_FRAMES_count p)) ∧
  (∀ (s : State) (p : Fin 3) (header : Word) (crc : Byte) (sck : BitVec 10) (early : Bool), Can.readFrame5 p header crc sck early s = true → Completes (.readFrame p header crc ⟨sck, early⟩) s (fun h =>
      h.rd HPT_DISC_reads_ended p = satInc (2 ^ HPT_DISC_reads_ended.width - 1) (s.hub.rd HPT_DISC_reads_ended p) ∧ (h.port p).outcome = (s.hub.port p).outcome ∧ h.mem = s.hub.mem)) ∧
  (∀ (s : State) (p : Fin 3) (header : Word) (v : Word) (crc : Byte) (sck : BitVec 10) (early : Bool), Can.doorbell p header v crc sck early s = true → Completes (.doorbell p header v crc ⟨sck, early⟩) s (fun h =>
      h.rd OPS_SQ_IDX_tail (hdrWard header.toNat) = v.toNat % 65536 ∧ h.rd HPT_FRAMES_count p = (s.hub.rd HPT_FRAMES_count p + 1) % 2 ^ 32 ∧ h.mem = s.hub.mem)) ∧
  (∀ (s : State) (p : Fin 3) (header : Word) (v : Word) (crc : Byte) (sck : BitVec 10) (early : Bool), Can.doorbell2 p header v crc sck early s = true → Completes (.doorbell p header v crc ⟨sck, early⟩) s (fun h =>
      (h.port p).outcome = (s.hub.judge p header.toNat [v.toNat]).map (fun x => x.2) ∧ h.rd OPS_SQ_IDX_tail (hdrWard header.toNat) = s.hub.rd OPS_SQ_IDX_tail (hdrWard header.toNat) ∧ h.rd HPT_FRAMES_count p = s.hub.rd HPT_FRAMES_count p)) ∧
  (∀ (s : State) (w : Fin 8) (v : Word), Can.wrdExpOpen w v s = true → Completes (.wrdExpOpen w v) s (fun h =>
      h.rd WRD_EXP_OPEN_open w = v.toNat % 256 ∧ h.mem = s.hub.mem)) ∧
  (∀ (s : State) (w : Fin 8) (v : Word), Can.wrdExpOpen2 w v s = true → Completes (.wrdExpOpen w v) s (fun h =>
      h.rd WRD_EXP_OPEN_open w = s.hub.rd WRD_EXP_OPEN_open w ∧ h.mem = s.hub.mem))

/-- When `descriptorAccept` has its effect. R388, R402, R403: the descriptor's operation takes the next free slot with
that slot's next generation, its tag is written back, and the head and OPS_CNT go on. -/
def Sys2Proof.Machine.Can.descriptorAccept (w : Fin 8) (s : State) : Bool :=
  s.hub.engRuns && (s.hub.ward w == .active || s.hub.ward w == .held) && s.hub.flag OPS_SQ_CFG_en w && s.hub.rd OPS_SQ_IDX_head w != s.hub.rd OPS_SQ_IDX_tail w && s.hub.mayAccept w && s.hub.bankFree (s.hub.rd OPS_SQ_CFG_bank w) && (freeSlot s.hub.poolSize (s.hub.eng.ops.map (fun o => o.slot)) s.hub.poolSize s.hub.eng.nextSlot).isSome

/-- When `descriptorAccept` has its effect. R388, R403: an empty ring, a ward without a slot to gain, or a ring bank
that is not free: none is accepted. -/
def Sys2Proof.Machine.Can.descriptorAccept2 (w : Fin 8) (s : State) : Bool :=
  !s.hub.engRuns || !(s.hub.ward w == .active || s.hub.ward w == .held) || !s.hub.flag OPS_SQ_CFG_en w || s.hub.rd OPS_SQ_IDX_head w == s.hub.rd OPS_SQ_IDX_tail w || !s.hub.mayAccept w || !s.hub.bankFree (s.hub.rd OPS_SQ_CFG_bank w)

/-- When `dispatch` has its effect. R393, R404, R405: the only operation that waits is dispatched; a light one begins at
once, and an Urgent one takes a token. -/
def Sys2Proof.Machine.Can.dispatch (s : State) : Bool :=
  s.hub.engRuns && s.hub.eng.ops.length == 1 && s.hub.eng.ops.all (fun o => o.phase == OpPhase.accepted && decide (o.ward < 8) && s.hub.ward o.ward == .active && !o.malformed && !o.ecc && !s.hub.costed o && (s.hub.entryBad (poolSlotAddr o.slot)).isNone && decide (o.units ≤ 4 * s.hub.weightOf o.ward))

/-- When `dispatch` has its effect. R393: a costed operation waits for the scheduler's decision. -/
def Sys2Proof.Machine.Can.dispatch2 (s : State) : Bool :=
  s.hub.engRuns && s.hub.sch.queue.isEmpty && s.hub.eng.ops.length == 1 && s.hub.eng.ops.all (fun o => o.phase == OpPhase.accepted && decide (o.ward < 8) && s.hub.ward o.ward == .active && !o.malformed && !o.ecc && s.hub.costed o && (s.hub.entryBad (poolSlotAddr o.slot)).isNone && decide (o.units ≤ 4 * s.hub.weightOf o.ward))

/-- When `dispatch` has its effect. R386, R409: an operation whose fence waits for an earlier one of its ward, or whose
ward is not Active, is not dispatched. -/
def Sys2Proof.Machine.Can.dispatch3 (s : State) : Bool :=
  s.hub.engRuns && decide ((s.hub.eng.ops.map (fun o => o.slot)).Nodup)

/-- When `dispatch` has its effect. R404, R405: while Urgent work waits, and no lower class is due, no Normal or Bulk
operation is dispatched. -/
def Sys2Proof.Machine.Can.dispatch4 (s : State) : Bool :=
  s.hub.engRuns && s.hub.hasWork 0 && decide (s.hub.eng.sinceBulk < 31 ∧ s.hub.eng.sinceLower < 7) && decide ((s.hub.eng.ops.map (fun o => o.slot)).Nodup)

/-- When `dispatch` has its effect. R404: with no work ready none is dispatched. -/
def Sys2Proof.Machine.Can.dispatch5 (s : State) : Bool :=
  !s.hub.engRuns || (!s.hub.hasWork 0 && !s.hub.hasWork 1 && !s.hub.hasWork 2)

/-- When `completion` has its effect. R390: the entry is written, the tail and OPS_DONE go on, and the slot is free. -/
def Sys2Proof.Machine.Can.completion (slot : Fin 16384) (s : State) : Bool :=
  s.hub.engRuns && (s.hub.opAt slot).any (fun o => o.phase == OpPhase.retiring && !o.dropped && decide (o.ward < 8) && s.hub.flag OPS_CQ_CFG_en o.ward && !s.hub.cqFull o.ward && s.hub.bankFree (s.hub.rd OPS_CQ_CFG_bank o.ward))

/-- When `completion` has its effect. R390: while the ring is full, or its bank is not free, the operation waits. -/
def Sys2Proof.Machine.Can.completion2 (slot : Fin 16384) (s : State) : Bool :=
  s.hub.engRuns && (s.hub.opAt slot).any (fun o => o.phase == OpPhase.retiring && !o.dropped && s.hub.flag OPS_CQ_CFG_en o.ward && (s.hub.cqFull o.ward || !s.hub.bankFree (s.hub.rd OPS_CQ_CFG_bank o.ward)))

/-- When `completion` has its effect. R390, R409: without a ring, or discarded by a ward reset, it only leaves the pool;
the first counts as done. -/
def Sys2Proof.Machine.Can.completion3 (slot : Fin 16384) (s : State) : Bool :=
  s.hub.engRuns && (s.hub.opAt slot).any (fun o => o.phase == OpPhase.retiring && (o.dropped || !s.hub.flag OPS_CQ_CFG_en o.ward))

/-- When `completion` has its effect. R390: only an operation that retires is completed. -/
def Sys2Proof.Machine.Can.completion4 (slot : Fin 16384) (s : State) : Bool :=
  !s.hub.engRuns || !(s.hub.opAt slot).any (fun o => o.phase == OpPhase.retiring)

/-- When `opsCancel` has its effect. R401: an operation that has not begun, or a TIMED one that waits, is cancelled. -/
def Sys2Proof.Machine.Can.opsCancel (w : Fin 8) (v : Word) (s : State) : Bool :=
  s.hub.writable w && (s.hub.opAt (v.toNat / 2 ^ 18)).any (fun o => o.ward == w.val && !o.dropped && o.gen == v.toNat % 2 ^ 18 && (o.phase == OpPhase.accepted || o.phase == OpPhase.costed || (o.kind == 10 && o.phase != OpPhase.retiring)))

/-- When `opsCancel` has its effect. R401: one that has begun answers 3 and goes on. -/
def Sys2Proof.Machine.Can.opsCancel2 (w : Fin 8) (v : Word) (s : State) : Bool :=
  s.hub.writable w && (s.hub.opAt (v.toNat / 2 ^ 18)).any (fun o => o.ward == w.val && !o.dropped && o.gen == v.toNat % 2 ^ 18 && !(o.phase == OpPhase.accepted || o.phase == OpPhase.costed || (o.kind == 10 && o.phase != OpPhase.retiring)))

/-- When `opsCancel` has its effect. R401: a tag that names no operation of the ward in flight answers 2. -/
def Sys2Proof.Machine.Can.opsCancel3 (w : Fin 8) (v : Word) (s : State) : Bool :=
  s.hub.writable w && !(s.hub.opAt (v.toNat / 2 ^ 18)).any (fun o => o.ward == w.val && !o.dropped && o.gen == v.toNat % 2 ^ 18)

/-- When `opsCancel` has its effect. R370: a write that is not accepted has no effect. -/
def Sys2Proof.Machine.Can.opsCancel4 (w : Fin 8) (_v : Word) (s : State) : Bool :=
  !s.hub.writable w

/-- When `opsCqIdxWrite` has its effect. R383: the completion head takes bits [31:16]. -/
def Sys2Proof.Machine.Can.opsCqIdxWrite (w : Fin 8) (_v : Word) (s : State) : Bool :=
  s.hub.writable w

/-- When `opsCqIdxWrite` has its effect. R370: a write that is not accepted has no effect. -/
def Sys2Proof.Machine.Can.opsCqIdxWrite2 (w : Fin 8) (_v : Word) (s : State) : Bool :=
  !s.hub.writable w

/-- When `opsQosRtWrite` has its effect. R411: the trims are taken, with the nearest limit for a figure beyond one. -/
def Sys2Proof.Machine.Can.opsQosRtWrite (w : Fin 8) (_v : Word) (s : State) : Bool :=
  s.hub.writable w && bitOf (s.hub.rd WRD_EXP_OPEN_open w) 6

/-- When `opsQosRtWrite` has its effect. R371, R411: with page 6 closed the trims stay. -/
def Sys2Proof.Machine.Can.opsQosRtWrite2 (w : Fin 8) (_v : Word) (s : State) : Bool :=
  !(s.hub.writable w && bitOf (s.hub.rd WRD_EXP_OPEN_open w) 6)

/-- The engine's own commands complete, each under the condition and with the result that its clause gives, after R383,
R388, R390, R401, R404, R405 and R411. Clause by clause: `descriptorAccept`: R388, R402, R403: the descriptor's
operation takes the next free slot with that slot's next generation, its tag is written back, and the head and OPS_CNT
go on. `descriptorAccept`: R388, R403: an empty ring, a ward without a slot to gain, or a ring bank that is not free:
none is accepted. `dispatch`: R393, R404, R405: the only operation that waits is dispatched; a light one begins at once,
and an Urgent one takes a token. `dispatch`: R393: a costed operation waits for the scheduler's decision. `dispatch`:
R386, R409: an operation whose fence waits for an earlier one of its ward, or whose ward is not Active, is not
dispatched. `dispatch`: R404, R405: while Urgent work waits, and no lower class is due, no Normal or Bulk operation is
dispatched. `dispatch`: R404: with no work ready none is dispatched. `completion`: R390: the entry is written, the tail
and OPS_DONE go on, and the slot is free. `completion`: R390: while the ring is full, or its bank is not free, the
operation waits. `completion`: R390, R409: without a ring, or discarded by a ward reset, it only leaves the pool; the
first counts as done. `completion`: R390: only an operation that retires is completed. `opsCancel`: R401: an operation
that has not begun, or a TIMED one that waits, is cancelled. `opsCancel`: R401: one that has begun answers 3 and goes
on. `opsCancel`: R401: a tag that names no operation of the ward in flight answers 2. `opsCancel`: R370: a write that is
not accepted has no effect. `opsCqIdxWrite`: R383: the completion head takes bits [31:16]. `opsCqIdxWrite`: R370: a
write that is not accepted has no effect. `tokenRefill`: R405: the bucket gains its tokens up to its depth.
`opsQosRtWrite`: R411: the trims are taken, with the nearest limit for a figure beyond one. `opsQosRtWrite`: R371, R411:
with page 6 closed the trims stay. -/
def Obligations.EngineCommands : Prop :=
  (∀ (s : State) (w : Fin 8), Can.descriptorAccept w s = true → Completes (.descriptorAccept w) s (fun h =>
      h.rd OPS_SQ_IDX_head w = (s.hub.rd OPS_SQ_IDX_head w + 1) % 65536 ∧ h.rd OPS_CNT_count w = (s.hub.rd OPS_CNT_count w + 1) % 2 ^ 32 ∧ h.rd OPS_SQ_IDX_tail w = s.hub.rd OPS_SQ_IDX_tail w ∧ h.eng.ops.dropLast = s.hub.eng.ops ∧
        (∀ o ∈ h.eng.ops.getLast?.toList, some o.slot = freeSlot s.hub.poolSize (s.hub.eng.ops.map (fun o => o.slot)) s.hub.poolSize s.hub.eng.nextSlot ∧ o.gen = (s.hub.genOf o.slot + 1) % 2 ^ 18 ∧ o.ward = w.val ∧ o.phase = OpPhase.accepted ∧
          h.memWord (ringEntry (s.hub.rd OPS_SQ_CFG_bank w) (s.hub.rd OPS_SQ_CFG_log2 w) (s.hub.rd OPS_SQ_CFG_base w) (s.hub.rd OPS_SQ_IDX_head w) + 12) = o.tag % 2 ^ 32 ∧
          o.cookie = s.hub.memWord (ringEntry (s.hub.rd OPS_SQ_CFG_bank w) (s.hub.rd OPS_SQ_CFG_log2 w) (s.hub.rd OPS_SQ_CFG_base w) (s.hub.rd OPS_SQ_IDX_head w)) % 65536))) ∧
  (∀ (s : State) (w : Fin 8), Can.descriptorAccept2 w s = true → Completes (.descriptorAccept w) s (fun h =>
      h.eng = s.hub.eng ∧ h.regs = s.hub.regs ∧ h.mem = s.hub.mem)) ∧
  (∀ (s : State), Can.dispatch s = true → Completes (.dispatch) s (fun h =>
      h.eng.ops = s.hub.eng.ops.map (fun o => { o with phase := OpPhase.admitted, target := if o.kind = 10 then some (timedTarget s.hub.clk.tb (o.w1 + bitsOf o.w2 12 12 * 2 ^ 32)) else o.target }) ∧ h.mem = s.hub.mem ∧
        (∀ o ∈ s.hub.eng.ops, vget h.eng.tokens o.ward 0 = (if o.cls = 0 then vget s.hub.eng.tokens o.ward 0 - 1 else vget s.hub.eng.tokens o.ward 0)))) ∧
  (∀ (s : State), Can.dispatch2 s = true → Completes (.dispatch) s (fun h =>
      h.eng.ops = s.hub.eng.ops.map (fun o => { o with phase := OpPhase.costed, target := if o.kind = 10 then some (timedTarget s.hub.clk.tb (o.w1 + bitsOf o.w2 12 12 * 2 ^ 32)) else o.target }) ∧ h.sch.queue.map (fun x => (x.kind, x.ref, x.ward)) = s.hub.eng.ops.map (fun o => (CandKind.operation, o.slot, o.ward)) ∧ h.outs = s.hub.outs)) ∧
  (∀ (s : State), Can.dispatch3 s = true → Completes (.dispatch) s (fun h =>
      ∀ o ∈ s.hub.eng.ops, o.phase = OpPhase.accepted → ((s.hub.ward o.ward ≠ .active ∨ (o.fence = true ∧ (s.hub.eng.ops.takeWhile (fun x => x.slot != o.slot)).any (fun x => x.ward == o.ward) = true)) → h.opAt o.slot = some o))) ∧
  (∀ (s : State), Can.dispatch4 s = true → Completes (.dispatch) s (fun h =>
      ∀ o ∈ s.hub.eng.ops, o.phase = OpPhase.accepted → s.hub.effClass o ≠ 0 → h.opAt o.slot = some o)) ∧
  (∀ (s : State), Can.dispatch5 s = true → Completes (.dispatch) s (fun h =>
      h.eng = s.hub.eng ∧ h.regs = s.hub.regs ∧ h.sch.queue = s.hub.sch.queue)) ∧
  (∀ (s : State) (slot : Fin 16384), Can.completion slot s = true → Completes (.completion slot) s (fun h =>
      h.opAt slot = none ∧ (∀ o ∈ (s.hub.opAt slot).toList, (let a := ringEntry (s.hub.rd OPS_CQ_CFG_bank o.ward) (s.hub.rd OPS_CQ_CFG_log2 o.ward) (s.hub.rd OPS_CQ_CFG_base o.ward) (s.hub.rd OPS_CQ_IDX_tail o.ward);
          h.memWord a = (o.code * 2 ^ 24 + o.kind * 2 ^ 19 + (if s.hub.rd OPS_CQ_IDX_tail o.ward / 2 ^ s.hub.rd OPS_CQ_CFG_log2 o.ward % 2 = 0 then 2 ^ 16 else 0) + o.cookie) % 2 ^ 32 ∧ h.memWord (a + 4) = o.tag % 2 ^ 32 ∧ h.memWord (a + 8) = o.r0 % 2 ^ 32 ∧ h.memWord (a + 12) = o.r1 % 2 ^ 32) ∧
          h.rd OPS_CQ_IDX_tail o.ward = (s.hub.rd OPS_CQ_IDX_tail o.ward + 1) % 65536 ∧ h.rd OPS_DONE_count o.ward = (s.hub.rd OPS_DONE_count o.ward + 1) % 2 ^ 32))) ∧
  (∀ (s : State) (slot : Fin 16384), Can.completion2 slot s = true → Completes (.completion slot) s (fun h =>
      h.eng = s.hub.eng ∧ h.regs = s.hub.regs ∧ h.mem = s.hub.mem)) ∧
  (∀ (s : State) (slot : Fin 16384), Can.completion3 slot s = true → Completes (.completion slot) s (fun h =>
      h.opAt slot = none ∧ h.mem = s.hub.mem ∧ (∀ o ∈ (s.hub.opAt slot).toList, h.rd OPS_DONE_count o.ward = (if o.dropped = true then s.hub.rd OPS_DONE_count o.ward else (s.hub.rd OPS_DONE_count o.ward + 1) % 2 ^ 32)))) ∧
  (∀ (s : State) (slot : Fin 16384), Can.completion4 slot s = true → Completes (.completion slot) s (fun h =>
      h.eng = s.hub.eng ∧ h.regs = s.hub.regs ∧ h.mem = s.hub.mem)) ∧
  (∀ (s : State) (w : Fin 8) (v : Word), Can.opsCancel w v s = true → Completes (.opsCancel w v) s (fun h =>
      h.rd OPS_STAT_cancel_res w = 1 ∧ h.rd OPS_CANCEL_tag w = v.toNat ∧ h.opAt (v.toNat / 2 ^ 18) = (s.hub.opAt (v.toNat / 2 ^ 18)).map (fun o => { o with phase := OpPhase.retiring, code := 6, r0 := 0, r1 := 0 }) ∧ h.sch.queue.all (fun x => !(x.kind == CandKind.operation && x.ref == v.toNat / 2 ^ 18)) = true)) ∧
  (∀ (s : State) (w : Fin 8) (v : Word), Can.opsCancel2 w v s = true → Completes (.opsCancel w v) s (fun h =>
      h.rd OPS_STAT_cancel_res w = 3 ∧ h.rd OPS_CANCEL_tag w = v.toNat ∧ h.eng = s.hub.eng ∧ h.sch = s.hub.sch)) ∧
  (∀ (s : State) (w : Fin 8) (v : Word), Can.opsCancel3 w v s = true → Completes (.opsCancel w v) s (fun h =>
      h.rd OPS_STAT_cancel_res w = 2 ∧ h.rd OPS_CANCEL_tag w = v.toNat ∧ h.eng = s.hub.eng ∧ h.sch = s.hub.sch)) ∧
  (∀ (s : State) (w : Fin 8) (v : Word), Can.opsCancel4 w v s = true → Completes (.opsCancel w v) s (fun h =>
      h.eng = s.hub.eng ∧ h.regs = s.hub.regs)) ∧
  (∀ (s : State) (w : Fin 8) (v : Word), Can.opsCqIdxWrite w v s = true → Completes (.opsCqIdxWrite w v) s (fun h =>
      h.rd OPS_CQ_IDX_head w = v.toNat / 2 ^ 16 ∧ h.rd OPS_CQ_IDX_tail w = s.hub.rd OPS_CQ_IDX_tail w ∧ h.eng = s.hub.eng ∧ h.mem = s.hub.mem)) ∧
  (∀ (s : State) (w : Fin 8) (v : Word), Can.opsCqIdxWrite2 w v s = true → Completes (.opsCqIdxWrite w v) s (fun h =>
      h.regs = s.hub.regs ∧ h.eng = s.hub.eng)) ∧
  (∀ (s : State) (w : Fin 8), Completes (.tokenRefill w) s (fun h =>
      vget h.eng.tokens w 0 = min (s.hub.rd OPS_URG_depth w) (vget s.hub.eng.tokens w 0 + s.hub.rd OPS_URG_rate w) ∧ (∀ v : Fin 8, v ≠ w → vget h.eng.tokens v 0 = vget s.hub.eng.tokens v 0) ∧ h.regs = s.hub.regs)) ∧
  (∀ (s : State) (w : Fin 8) (v : Word), Can.opsQosRtWrite w v s = true → Completes (.opsQosRtWrite w v) s (fun h =>
      h.rd OPS_QOS_RT_weight_rt w = min (v.toNat % 16) (s.hub.rd OPS_QOS_weight w) ∧ (v.toNat / 2 ^ 20 = 0 → h.rd OPS_QOS_RT_cap16_rt w = 0) ∧ (v.toNat / 2 ^ 20 ≠ 0 → s.hub.rd OPS_QOS_res16 w ≤ s.hub.rd OPS_QOS_cap16 w → s.hub.rd OPS_QOS_res16 w ≤ h.rd OPS_QOS_RT_cap16_rt w ∧ h.rd OPS_QOS_RT_cap16_rt w ≤ s.hub.rd OPS_QOS_cap16 w) ∧ h.eng = s.hub.eng)) ∧
  (∀ (s : State) (w : Fin 8) (v : Word), Can.opsQosRtWrite2 w v s = true → Completes (.opsQosRtWrite w v) s (fun h =>
      h.regs = s.hub.regs ∧ h.eng = s.hub.eng))

/-- When `nop` has its effect. R387, R392: it retires DONE. -/
def Sys2Proof.Machine.Can.nop (slot : Fin 16384) (s : State) : Bool :=
  s.hub.engRuns && (s.hub.opAt slot).any (fun o => o.phase == OpPhase.admitted && o.kind == 0)

/-- When `regw` has its effect. R394: the records are written in order. -/
def Sys2Proof.Machine.Can.regw (slot : Fin 16384) (s : State) : Bool :=
  s.hub.engRuns && (s.hub.opAt slot).any (fun o => o.phase == OpPhase.admitted && o.kind == 1 && s.hub.ownsBank o.ward (ptrBank o.w1) && s.hub.bankFree (ptrBank o.w1) && (wordAddrs (ptrAddr o.w1) (2 * (o.field + 1))).all (fun a => !s.hub.isBad a) && (s.hub.records o.w1 (o.field + 1)).all (fun x => decide (0x100000 ≤ x.1) && decide (x.1 < 0x1C0000) && (s.hub.judgeRecord o.ward false x).isNone))

/-- When `regw` has its effect. R392, R394: a first record that a check refuses has no effect, and the operation retires
REFUSED with that check's status. -/
def Sys2Proof.Machine.Can.regw2 (slot : Fin 16384) (s : State) : Bool :=
  s.hub.engRuns && (s.hub.opAt slot).any (fun o => o.phase == OpPhase.admitted && o.kind == 1 && s.hub.ownsBank o.ward (ptrBank o.w1) && s.hub.bankFree (ptrBank o.w1) && (wordAddrs (ptrAddr o.w1) 2).all (fun a => !s.hub.isBad a) && !s.hub.recordsWait o.ward false (s.hub.records o.w1 (o.field + 1)) && ((s.hub.records o.w1 (o.field + 1)).head?.bind (s.hub.judgeRecord o.ward false)).any (fun f => f.1 != 10 || s.hub.hinge.upL))

/-- When `regr` has its effect. R387, R394: each address is read into its result word. -/
def Sys2Proof.Machine.Can.regr (slot : Fin 16384) (s : State) : Bool :=
  s.hub.engRuns && (s.hub.opAt slot).any (fun o => o.phase == OpPhase.admitted && o.kind == 2 && s.hub.ownsBank o.ward (ptrBank o.w1) && s.hub.bankFree (ptrBank o.w1) && s.hub.ownsBank o.ward (ptrBank o.w2) && s.hub.bankFree (ptrBank o.w2) && (wordAddrs (ptrAddr o.w1) (o.field + 1)).all (fun a => !s.hub.isBad a && !s.hub.isBad (s.hub.memWord a) && decide (0x100000 ≤ s.hub.memWord a) && decide (s.hub.memWord a < 0x1C0000) && (decide (s.hub.memWord a + 4 ≤ ptrAddr o.w2) || decide (ptrAddr o.w2 + 4 * (o.field + 1) ≤ s.hub.memWord a)) && (s.hub.judgeRecord o.ward true (s.hub.memWord a, 0)).isNone))

/-- When `bankCopy` has its effect. R395: the words are copied as if through a buffer. -/
def Sys2Proof.Machine.Can.bankCopy (slot : Fin 16384) (s : State) : Bool :=
  s.hub.engRuns && (s.hub.opAt slot).any (fun o => o.phase == OpPhase.admitted && o.kind == 3 && s.hub.ownsBank o.ward (ptrBank o.w1) && s.hub.bankFree (ptrBank o.w1) && s.hub.ownsBank o.ward (ptrBank o.w2) && s.hub.bankFree (ptrBank o.w2) && (wordAddrs (ptrAddr o.w1) (bitsOf o.w1 12 12 + 1)).all (fun a => !s.hub.isBad a))

/-- When `bankFill` has its effect. R387: the words take the fill value. -/
def Sys2Proof.Machine.Can.bankFill (slot : Fin 16384) (s : State) : Bool :=
  s.hub.engRuns && (s.hub.opAt slot).any (fun o => o.phase == OpPhase.admitted && o.kind == 4 && s.hub.ownsBank o.ward (ptrBank o.w1) && s.hub.bankFree (ptrBank o.w1))

/-- When `atomAdd` has its effect. R395, R460: the word's old value is the result; the word takes the sum. -/
def Sys2Proof.Machine.Can.atomAdd (slot : Fin 16384) (s : State) : Bool :=
  s.hub.engRuns && (s.hub.opAt slot).any (fun o => o.phase == OpPhase.admitted && o.kind == 5 && o.field == 0 && s.hub.ownsBank o.ward (ptrBank o.w1) && s.hub.bankFree (ptrBank o.w1) && !s.hub.isBad (ptrAddr o.w1))

/-- When `atomSwap` has its effect. R395, R460: the word's old value is the result; the word takes the operand. -/
def Sys2Proof.Machine.Can.atomSwap (slot : Fin 16384) (s : State) : Bool :=
  s.hub.engRuns && (s.hub.opAt slot).any (fun o => o.phase == OpPhase.admitted && o.kind == 5 && o.field == 1 && s.hub.ownsBank o.ward (ptrBank o.w1) && s.hub.bankFree (ptrBank o.w1) && !s.hub.isBad (ptrAddr o.w1))

/-- When `regw` has its effect. R387, R395: with a bank that is not the ward's own it retires DENIED. -/
def Sys2Proof.Machine.Can.regw3 (slot : Fin 16384) (s : State) : Bool :=
  s.hub.engRuns && (s.hub.opAt slot).any (fun o => o.phase == OpPhase.admitted && o.kind == 1 && (!s.hub.ownsBank o.ward (ptrBank o.w1)))

/-- When `regr` has its effect. R387, R395: with a bank that is not the ward's own it retires DENIED. -/
def Sys2Proof.Machine.Can.regr2 (slot : Fin 16384) (s : State) : Bool :=
  s.hub.engRuns && (s.hub.opAt slot).any (fun o => o.phase == OpPhase.admitted && o.kind == 2 && (!s.hub.ownsBank o.ward (ptrBank o.w1) || !s.hub.ownsBank o.ward (ptrBank o.w2)))

/-- When `bankCopy` has its effect. R387, R395: with a bank that is not the ward's own it retires DENIED. -/
def Sys2Proof.Machine.Can.bankCopy2 (slot : Fin 16384) (s : State) : Bool :=
  s.hub.engRuns && (s.hub.opAt slot).any (fun o => o.phase == OpPhase.admitted && o.kind == 3 && (!s.hub.ownsBank o.ward (ptrBank o.w1) || !s.hub.ownsBank o.ward (ptrBank o.w2)))

/-- When `bankCopy` has its effect. R394, R76: while a bank is not free it stays in flight. -/
def Sys2Proof.Machine.Can.bankCopy3 (slot : Fin 16384) (s : State) : Bool :=
  s.hub.engRuns && (s.hub.opAt slot).any (fun o => o.phase == OpPhase.admitted && o.kind == 3 && s.hub.ownsBank o.ward (ptrBank o.w1) && s.hub.ownsBank o.ward (ptrBank o.w2) && (!s.hub.bankFree (ptrBank o.w1) || !s.hub.bankFree (ptrBank o.w2)))

/-- When `bankFill` has its effect. R387, R395: with a bank that is not the ward's own it retires DENIED. -/
def Sys2Proof.Machine.Can.bankFill2 (slot : Fin 16384) (s : State) : Bool :=
  s.hub.engRuns && (s.hub.opAt slot).any (fun o => o.phase == OpPhase.admitted && o.kind == 4 && (!s.hub.ownsBank o.ward (ptrBank o.w1)))

/-- When `bankFill` has its effect. R394, R76: while a bank is not free it stays in flight. -/
def Sys2Proof.Machine.Can.bankFill3 (slot : Fin 16384) (s : State) : Bool :=
  s.hub.engRuns && (s.hub.opAt slot).any (fun o => o.phase == OpPhase.admitted && o.kind == 4 && s.hub.ownsBank o.ward (ptrBank o.w1) && (!s.hub.bankFree (ptrBank o.w1)))

/-- When `atomAdd` has its effect. R387, R395: with a bank that is not the ward's own it retires DENIED. -/
def Sys2Proof.Machine.Can.atomAdd2 (slot : Fin 16384) (s : State) : Bool :=
  s.hub.engRuns && (s.hub.opAt slot).any (fun o => o.phase == OpPhase.admitted && o.kind == 5 && o.field == 0 && (!s.hub.ownsBank o.ward (ptrBank o.w1)))

/-- When `atomAdd` has its effect. R394, R76: while a bank is not free it stays in flight. -/
def Sys2Proof.Machine.Can.atomAdd3 (slot : Fin 16384) (s : State) : Bool :=
  s.hub.engRuns && (s.hub.opAt slot).any (fun o => o.phase == OpPhase.admitted && o.kind == 5 && o.field == 0 && s.hub.ownsBank o.ward (ptrBank o.w1) && (!s.hub.bankFree (ptrBank o.w1)))

/-- When `atomSwap` has its effect. R387, R395: with a bank that is not the ward's own it retires DENIED. -/
def Sys2Proof.Machine.Can.atomSwap2 (slot : Fin 16384) (s : State) : Bool :=
  s.hub.engRuns && (s.hub.opAt slot).any (fun o => o.phase == OpPhase.admitted && o.kind == 5 && o.field == 1 && (!s.hub.ownsBank o.ward (ptrBank o.w1)))

/-- When `atomSwap` has its effect. R394, R76: while a bank is not free it stays in flight. -/
def Sys2Proof.Machine.Can.atomSwap3 (slot : Fin 16384) (s : State) : Bool :=
  s.hub.engRuns && (s.hub.opAt slot).any (fun o => o.phase == OpPhase.admitted && o.kind == 5 && o.field == 1 && s.hub.ownsBank o.ward (ptrBank o.w1) && (!s.hub.bankFree (ptrBank o.w1)))

/-- When `bankCopy` has its effect. R391, R461: a source word with an uncorrectable error ends it with code 0x09. -/
def Sys2Proof.Machine.Can.bankCopy4 (slot : Fin 16384) (s : State) : Bool :=
  s.hub.engRuns && (s.hub.opAt slot).any (fun o => o.phase == OpPhase.admitted && o.kind == 3 && s.hub.ownsBank o.ward (ptrBank o.w1) && s.hub.bankFree (ptrBank o.w1) && s.hub.ownsBank o.ward (ptrBank o.w2) && s.hub.bankFree (ptrBank o.w2) && (wordAddrs (ptrAddr o.w1) (bitsOf o.w1 12 12 + 1)).any (fun a => s.hub.isBad a))

/-- When `atomAdd` has its effect. R391, R461: a source word with an uncorrectable error ends it with code 0x09. -/
def Sys2Proof.Machine.Can.atomAdd4 (slot : Fin 16384) (s : State) : Bool :=
  s.hub.engRuns && (s.hub.opAt slot).any (fun o => o.phase == OpPhase.admitted && o.kind == 5 && o.field == 0 && s.hub.ownsBank o.ward (ptrBank o.w1) && s.hub.bankFree (ptrBank o.w1) && [ptrAddr o.w1].any (fun a => s.hub.isBad a))

/-- When `atomSwap` has its effect. R391, R461: a source word with an uncorrectable error ends it with code 0x09. -/
def Sys2Proof.Machine.Can.atomSwap4 (slot : Fin 16384) (s : State) : Bool :=
  s.hub.engRuns && (s.hub.opAt slot).any (fun o => o.phase == OpPhase.admitted && o.kind == 5 && o.field == 1 && s.hub.ownsBank o.ward (ptrBank o.w1) && s.hub.bankFree (ptrBank o.w1) && [ptrAddr o.w1].any (fun a => s.hub.isBad a))

/-- NOP, REGW, REGR, BANK_COPY, BANK_FILL and ATOM complete, each under the condition and with the result that its
clause gives: the effect and their results of R392; the records and addresses of REGW and REGR are stated for the bank
window, and for REGW a first record that a check refuses. Clause by clause: `nop`: R387, R392: it retires DONE. `regw`:
R394: the records are written in order. `regw`: R392, R394: a first record that a check refuses has no effect, and the
operation retires REFUSED with that check's status. `regr`: R387, R394: each address is read into its result word.
`bankCopy`: R395: the words are copied as if through a buffer. `bankFill`: R387: the words take the fill value.
`atomAdd`: R395, R460: the word's old value is the result; the word takes the sum. `atomSwap`: R395, R460: the word's
old value is the result; the word takes the operand. `regw`: R387, R395: with a bank that is not the ward's own it
retires DENIED. `regr`: R387, R395: with a bank that is not the ward's own it retires DENIED. `bankCopy`: R387, R395:
with a bank that is not the ward's own it retires DENIED. `bankCopy`: R394, R76: while a bank is not free it stays in
flight. `bankFill`: R387, R395: with a bank that is not the ward's own it retires DENIED. `bankFill`: R394, R76: while a
bank is not free it stays in flight. `atomAdd`: R387, R395: with a bank that is not the ward's own it retires DENIED.
`atomAdd`: R394, R76: while a bank is not free it stays in flight. `atomSwap`: R387, R395: with a bank that is not the
ward's own it retires DENIED. `atomSwap`: R394, R76: while a bank is not free it stays in flight. `bankCopy`: R391,
R461: a source word with an uncorrectable error ends it with code 0x09. `atomAdd`: R391, R461: a source word with an
uncorrectable error ends it with code 0x09. `atomSwap`: R391, R461: a source word with an uncorrectable error ends it
with code 0x09. -/
def Obligations.BankOperations : Prop :=
  (∀ (s : State) (slot : Fin 16384), Can.nop slot s = true → Completes (.nop slot) s (fun h =>
      h.opAt slot = (s.hub.opAt slot).map (fun o => { o with phase := OpPhase.retiring, code := 0, r0 := 0, r1 := 0 }) ∧ h.mem = s.hub.mem ∧ h.regs = s.hub.regs)) ∧
  (∀ (s : State) (slot : Fin 16384), Can.regw slot s = true → Completes (.regw slot) s (fun h =>
      h.opAt slot = (s.hub.opAt slot).map (fun o => { o with phase := OpPhase.retiring, code := 0, r0 := o.field + 1, r1 := 0 }) ∧ (∀ o ∈ (s.hub.opAt slot).toList, (s.hub.records o.w1 (o.field + 1)).getLast?.all (fun x => h.memWord x.1 == x.2) = true) ∧ h.regs = s.hub.regs)) ∧
  (∀ (s : State) (slot : Fin 16384), Can.regw2 slot s = true → Completes (.regw slot) s (fun h =>
      h.opAt slot = (s.hub.opAt slot).map (fun o => { o with phase := OpPhase.retiring, code := 3, r0 := 0, r1 := ((((s.hub.records o.w1 (o.field + 1)).head?.bind (s.hub.judgeRecord o.ward false)).map (fun f => f.2)).getD 0) }) ∧ h.mem = s.hub.mem ∧ h.regs = s.hub.regs ∧ h.outs = s.hub.outs)) ∧
  (∀ (s : State) (slot : Fin 16384), Can.regr slot s = true → Completes (.regr slot) s (fun h =>
      h.opAt slot = (s.hub.opAt slot).map (fun o => { o with phase := OpPhase.retiring, code := 0, r0 := o.field + 1, r1 := 0 }) ∧ (∀ o ∈ (s.hub.opAt slot).toList, ∀ i : Fin (o.field + 1), h.memWord (ptrAddr o.w2 + 4 * i) = s.hub.memWord (s.hub.memWord (ptrAddr o.w1 + 4 * i))) ∧ h.regs = s.hub.regs)) ∧
  (∀ (s : State) (slot : Fin 16384), Can.bankCopy slot s = true → Completes (.bankCopy slot) s (fun h =>
      h.opAt slot = (s.hub.opAt slot).map (fun o => { o with phase := OpPhase.retiring, code := 0, r0 := bitsOf o.w1 12 12 + 1, r1 := 0 }) ∧ (∀ o ∈ (s.hub.opAt slot).toList, ∀ i : Fin (bitsOf o.w1 12 12 + 1), h.memWord (ptrAddr o.w2 + 4 * i) = s.hub.memWord (ptrAddr o.w1 + 4 * i)) ∧ h.regs = s.hub.regs)) ∧
  (∀ (s : State) (slot : Fin 16384), Can.bankFill slot s = true → Completes (.bankFill slot) s (fun h =>
      h.opAt slot = (s.hub.opAt slot).map (fun o => { o with phase := OpPhase.retiring, code := 0, r0 := bitsOf o.w1 12 12 + 1, r1 := 0 }) ∧ (∀ o ∈ (s.hub.opAt slot).toList, ∀ i : Fin (bitsOf o.w1 12 12 + 1), h.memWord (ptrAddr o.w1 + 4 * i) = o.w2 % 2 ^ 32) ∧ h.regs = s.hub.regs)) ∧
  (∀ (s : State) (slot : Fin 16384), Can.atomAdd slot s = true → Completes (.atomAdd slot) s (fun h =>
      h.opAt slot = (s.hub.opAt slot).map (fun o => { o with phase := OpPhase.retiring, code := 0, r0 := s.hub.memWord (ptrAddr o.w1), r1 := 0 }) ∧ (∀ o ∈ (s.hub.opAt slot).toList, h.memWord (ptrAddr o.w1) = (s.hub.memWord (ptrAddr o.w1) + o.w2) % 2 ^ 32) ∧ h.regs = s.hub.regs)) ∧
  (∀ (s : State) (slot : Fin 16384), Can.atomSwap slot s = true → Completes (.atomSwap slot) s (fun h =>
      h.opAt slot = (s.hub.opAt slot).map (fun o => { o with phase := OpPhase.retiring, code := 0, r0 := s.hub.memWord (ptrAddr o.w1), r1 := 0 }) ∧ (∀ o ∈ (s.hub.opAt slot).toList, h.memWord (ptrAddr o.w1) = o.w2 % 2 ^ 32) ∧ h.regs = s.hub.regs)) ∧
  (∀ (s : State) (slot : Fin 16384), Can.regw3 slot s = true → Completes (.regw slot) s (fun h =>
      h.opAt slot = (s.hub.opAt slot).map (fun o => { o with phase := OpPhase.retiring, code := 2, r0 := 0, r1 := 0 }) ∧ h.mem = s.hub.mem ∧ h.regs = s.hub.regs)) ∧
  (∀ (s : State) (slot : Fin 16384), Can.regr2 slot s = true → Completes (.regr slot) s (fun h =>
      h.opAt slot = (s.hub.opAt slot).map (fun o => { o with phase := OpPhase.retiring, code := 2, r0 := 0, r1 := 0 }) ∧ h.mem = s.hub.mem ∧ h.regs = s.hub.regs)) ∧
  (∀ (s : State) (slot : Fin 16384), Can.bankCopy2 slot s = true → Completes (.bankCopy slot) s (fun h =>
      h.opAt slot = (s.hub.opAt slot).map (fun o => { o with phase := OpPhase.retiring, code := 2, r0 := 0, r1 := 0 }) ∧ h.mem = s.hub.mem ∧ h.regs = s.hub.regs)) ∧
  (∀ (s : State) (slot : Fin 16384), Can.bankCopy3 slot s = true → Completes (.bankCopy slot) s (fun h =>
      h.eng = s.hub.eng ∧ h.mem = s.hub.mem)) ∧
  (∀ (s : State) (slot : Fin 16384), Can.bankFill2 slot s = true → Completes (.bankFill slot) s (fun h =>
      h.opAt slot = (s.hub.opAt slot).map (fun o => { o with phase := OpPhase.retiring, code := 2, r0 := 0, r1 := 0 }) ∧ h.mem = s.hub.mem ∧ h.regs = s.hub.regs)) ∧
  (∀ (s : State) (slot : Fin 16384), Can.bankFill3 slot s = true → Completes (.bankFill slot) s (fun h =>
      h.eng = s.hub.eng ∧ h.mem = s.hub.mem)) ∧
  (∀ (s : State) (slot : Fin 16384), Can.atomAdd2 slot s = true → Completes (.atomAdd slot) s (fun h =>
      h.opAt slot = (s.hub.opAt slot).map (fun o => { o with phase := OpPhase.retiring, code := 2, r0 := 0, r1 := 0 }) ∧ h.mem = s.hub.mem ∧ h.regs = s.hub.regs)) ∧
  (∀ (s : State) (slot : Fin 16384), Can.atomAdd3 slot s = true → Completes (.atomAdd slot) s (fun h =>
      h.eng = s.hub.eng ∧ h.mem = s.hub.mem)) ∧
  (∀ (s : State) (slot : Fin 16384), Can.atomSwap2 slot s = true → Completes (.atomSwap slot) s (fun h =>
      h.opAt slot = (s.hub.opAt slot).map (fun o => { o with phase := OpPhase.retiring, code := 2, r0 := 0, r1 := 0 }) ∧ h.mem = s.hub.mem ∧ h.regs = s.hub.regs)) ∧
  (∀ (s : State) (slot : Fin 16384), Can.atomSwap3 slot s = true → Completes (.atomSwap slot) s (fun h =>
      h.eng = s.hub.eng ∧ h.mem = s.hub.mem)) ∧
  (∀ (s : State) (slot : Fin 16384), Can.bankCopy4 slot s = true → Completes (.bankCopy slot) s (fun h =>
      h.opAt slot = (s.hub.opAt slot).map (fun o => { o with phase := OpPhase.retiring, code := 9, r0 := 0, r1 := 0 }) ∧ h.mem = s.hub.mem)) ∧
  (∀ (s : State) (slot : Fin 16384), Can.atomAdd4 slot s = true → Completes (.atomAdd slot) s (fun h =>
      h.opAt slot = (s.hub.opAt slot).map (fun o => { o with phase := OpPhase.retiring, code := 9, r0 := 0, r1 := 0 }) ∧ h.mem = s.hub.mem)) ∧
  (∀ (s : State) (slot : Fin 16384), Can.atomSwap4 slot s = true → Completes (.atomSwap slot) s (fun h =>
      h.opAt slot = (s.hub.opAt slot).map (fun o => { o with phase := OpPhase.retiring, code := 9, r0 := 0, r1 := 0 }) ∧ h.mem = s.hub.mem))

/-- When `tmbOpStart` has its effect. R292, R396: the tumbler is pending; the operation waits for its start. -/
def Sys2Proof.Machine.Can.tmbOpStart (slot : Fin 16384) (s : State) : Bool :=
  s.hub.engRuns && (s.hub.opAt slot).any (fun o => o.phase == OpPhase.admitted && o.kind == 6 && bitsOf o.field 0 2 == 0 && s.hub.tmbOwner (bitsOf o.field 3 3) == some o.ward && (s.hub.hinge.upL || !s.hub.drivesField (bitsOf o.field 3 3)) && bitOf s.hub.sup.on 3 && bitOf s.hub.sup.on 5 && s.hub.state != .safe && s.hub.tmbState (bitsOf o.field 3 3) != 1 && !s.hub.tmbRuns (bitsOf o.field 3 3)) && !s.hub.opAdmitted slot && s.hub.sch.queue.isEmpty

/-- When `tmbOpStart` has its effect. R396: a start to a tumbler that is pending or executing retires REFUSED. -/
def Sys2Proof.Machine.Can.tmbOpStart2 (slot : Fin 16384) (s : State) : Bool :=
  s.hub.engRuns && (s.hub.opAt slot).any (fun o => o.phase == OpPhase.admitted && o.kind == 6 && bitsOf o.field 0 2 == 0 && s.hub.tmbOwner (bitsOf o.field 3 3) == some o.ward && (s.hub.hinge.upL || !s.hub.drivesField (bitsOf o.field 3 3)) && bitOf s.hub.sup.on 3 && bitOf s.hub.sup.on 5 && s.hub.state != .safe && (s.hub.tmbState (bitsOf o.field 3 3) == 1 || s.hub.tmbRuns (bitsOf o.field 3 3)))

/-- When `tmbOpStart` has its effect. R396, R409: in Safe a start retires STATE. -/
def Sys2Proof.Machine.Can.tmbOpStart3 (slot : Fin 16384) (s : State) : Bool :=
  s.hub.engRuns && (s.hub.opAt slot).any (fun o => o.phase == OpPhase.admitted && o.kind == 6 && bitsOf o.field 0 2 == 0 && s.hub.tmbOwner (bitsOf o.field 3 3) == some o.ward && (s.hub.hinge.upL || !s.hub.drivesField (bitsOf o.field 3 3)) && bitOf s.hub.sup.on 3 && bitOf s.hub.sup.on 5 && s.hub.state == .safe)

/-- When `tmbOpStart` has its effect. R396: another ward's tumbler is DENIED. -/
def Sys2Proof.Machine.Can.tmbOpStart4 (slot : Fin 16384) (s : State) : Bool :=
  s.hub.engRuns && (s.hub.opAt slot).any (fun o => o.phase == OpPhase.admitted && o.kind == 6 && bitsOf o.field 0 2 == 0 && s.hub.tmbOwner (bitsOf o.field 3 3) != some o.ward)

/-- When `tmbOpStart` has its effect. R138, R396: with the link lost an operation of a tumbler that drives a field pin
retires LINK_LOST. -/
def Sys2Proof.Machine.Can.tmbOpStart5 (slot : Fin 16384) (s : State) : Bool :=
  s.hub.engRuns && (s.hub.opAt slot).any (fun o => o.phase == OpPhase.admitted && o.kind == 6 && bitsOf o.field 0 2 == 0 && s.hub.tmbOwner (bitsOf o.field 3 3) == some o.ward && !s.hub.hinge.upL && s.hub.drivesField (bitsOf o.field 3 3))

/-- When `tmbOpStop` has its effect. R293, R396: the stop waits for the next vector boundary. -/
def Sys2Proof.Machine.Can.tmbOpStop (slot : Fin 16384) (s : State) : Bool :=
  s.hub.engRuns && (s.hub.opAt slot).any (fun o => o.phase == OpPhase.admitted && o.kind == 6 && bitsOf o.field 0 2 == 1 && s.hub.tmbOwner (bitsOf o.field 3 3) == some o.ward && (s.hub.hinge.upL || !s.hub.drivesField (bitsOf o.field 3 3)) && bitOf s.hub.sup.on 3 && bitOf s.hub.sup.on 5 && s.hub.tmbRuns (bitsOf o.field 3 3))

/-- When `tmbOpStop` has its effect. R396: a stop of a tumbler that does not run retires with its program counter. -/
def Sys2Proof.Machine.Can.tmbOpStop2 (slot : Fin 16384) (s : State) : Bool :=
  s.hub.engRuns && (s.hub.opAt slot).any (fun o => o.phase == OpPhase.admitted && o.kind == 6 && bitsOf o.field 0 2 == 1 && s.hub.tmbOwner (bitsOf o.field 3 3) == some o.ward && (s.hub.hinge.upL || !s.hub.drivesField (bitsOf o.field 3 3)) && bitOf s.hub.sup.on 3 && bitOf s.hub.sup.on 5 && s.hub.tmbState (bitsOf o.field 3 3) != 1 && !s.hub.tmbRuns (bitsOf o.field 3 3))

/-- When `tmbOpStop` has its effect. R396: another ward's tumbler is DENIED. -/
def Sys2Proof.Machine.Can.tmbOpStop3 (slot : Fin 16384) (s : State) : Bool :=
  s.hub.engRuns && (s.hub.opAt slot).any (fun o => o.phase == OpPhase.admitted && o.kind == 6 && bitsOf o.field 0 2 == 1 && s.hub.tmbOwner (bitsOf o.field 3 3) != some o.ward)

/-- When `tmbOpStop` has its effect. R138, R396: with the link lost an operation of a tumbler that drives a field pin
retires LINK_LOST. -/
def Sys2Proof.Machine.Can.tmbOpStop4 (slot : Fin 16384) (s : State) : Bool :=
  s.hub.engRuns && (s.hub.opAt slot).any (fun o => o.phase == OpPhase.admitted && o.kind == 6 && bitsOf o.field 0 2 == 1 && s.hub.tmbOwner (bitsOf o.field 3 3) == some o.ward && !s.hub.hinge.upL && s.hub.drivesField (bitsOf o.field 3 3))

/-- When `tmbOpJump` has its effect. R293, R396: the jump waits for the next vector boundary. -/
def Sys2Proof.Machine.Can.tmbOpJump (slot : Fin 16384) (s : State) : Bool :=
  s.hub.engRuns && (s.hub.opAt slot).any (fun o => o.phase == OpPhase.admitted && o.kind == 6 && bitsOf o.field 0 2 == 2 && s.hub.tmbOwner (bitsOf o.field 3 3) == some o.ward && (s.hub.hinge.upL || !s.hub.drivesField (bitsOf o.field 3 3)) && bitOf s.hub.sup.on 3 && bitOf s.hub.sup.on 5 && s.hub.tmbRuns (bitsOf o.field 3 3))

/-- When `tmbOpJump` has its effect. R396: another ward's tumbler is DENIED. -/
def Sys2Proof.Machine.Can.tmbOpJump2 (slot : Fin 16384) (s : State) : Bool :=
  s.hub.engRuns && (s.hub.opAt slot).any (fun o => o.phase == OpPhase.admitted && o.kind == 6 && bitsOf o.field 0 2 == 2 && s.hub.tmbOwner (bitsOf o.field 3 3) != some o.ward)

/-- When `tmbOpJump` has its effect. R138, R396: with the link lost an operation of a tumbler that drives a field pin
retires LINK_LOST. -/
def Sys2Proof.Machine.Can.tmbOpJump3 (slot : Fin 16384) (s : State) : Bool :=
  s.hub.engRuns && (s.hub.opAt slot).any (fun o => o.phase == OpPhase.admitted && o.kind == 6 && bitsOf o.field 0 2 == 2 && s.hub.tmbOwner (bitsOf o.field 3 3) == some o.ward && !s.hub.hinge.upL && s.hub.drivesField (bitsOf o.field 3 3))

/-- When `meas` has its effect. R397: the round's values are written in the order of the selection. -/
def Sys2Proof.Machine.Can.meas (slot : Fin 16384) (conv : List Word) (s : State) : Bool :=
  s.hub.engRuns && (s.hub.opAt slot).any (fun o => o.phase == OpPhase.admitted && o.kind == 7 && (bitList 16 o.w1).all (fun c => s.hub.mayMeasure o.ward c) && s.hub.hinge.upL && conv.length == (measWords o.w1).length && s.hub.ownsBank o.ward (ptrBank o.w2) && s.hub.bankFree (ptrBank o.w2))

/-- When `meas` has its effect. R397: a channel that is not the ward's own is DENIED. -/
def Sys2Proof.Machine.Can.meas2 (slot : Fin 16384) (_conv : List Word) (s : State) : Bool :=
  s.hub.engRuns && (s.hub.opAt slot).any (fun o => o.phase == OpPhase.admitted && o.kind == 7 && (bitList 16 o.w1).any (fun c => !s.hub.mayMeasure o.ward c))

/-- When `meas` has its effect. R138, R397: with the link lost it retires LINK_LOST. -/
def Sys2Proof.Machine.Can.meas3 (slot : Fin 16384) (_conv : List Word) (s : State) : Bool :=
  s.hub.engRuns && (s.hub.opAt slot).any (fun o => o.phase == OpPhase.admitted && o.kind == 7 && (bitList 16 o.w1).all (fun c => s.hub.mayMeasure o.ward c) && !s.hub.hinge.upL)

/-- When `diag` has its effect. R225, R392: the pin voltage, the currents and the conclusion are the results, and for an
input its state and flags. -/
def Sys2Proof.Machine.Can.diag (slot : Fin 16384) (_v : BitVec 16) (_normal : BitVec 12) (_fine : BitVec 12) (s : State) : Bool :=
  s.hub.engRuns && (s.hub.opAt slot).any (fun o => o.phase == OpPhase.admitted && o.kind == 8 && decide (o.field % 16 < s.hub.chCount) && s.hub.chOwner (o.field % 16) == some o.ward && s.hub.hinge.upL && (decide (o.field % 16 < 8) || bitOf s.hub.sup.on 10))

/-- When `diag` has its effect. R225: another ward's channel is DENIED. -/
def Sys2Proof.Machine.Can.diag2 (slot : Fin 16384) (_v : BitVec 16) (_normal : BitVec 12) (_fine : BitVec 12) (s : State) : Bool :=
  s.hub.engRuns && (s.hub.opAt slot).any (fun o => o.phase == OpPhase.admitted && o.kind == 8 && !(decide (o.field % 16 < s.hub.chCount) && s.hub.chOwner (o.field % 16) == some o.ward))

/-- When `diag` has its effect. R138, R225: with the link lost it retires LINK_LOST. -/
def Sys2Proof.Machine.Can.diag3 (slot : Fin 16384) (_v : BitVec 16) (_normal : BitVec 12) (_fine : BitVec 12) (s : State) : Bool :=
  s.hub.engRuns && (s.hub.opAt slot).any (fun o => o.phase == OpPhase.admitted && o.kind == 8 && decide (o.field % 16 < s.hub.chCount) && s.hub.chOwner (o.field % 16) == some o.ward && !s.hub.hinge.upL)

/-- When `lsy` has its effect. R336, R400: a USER frame for a hub upstream is queued for the line with the hub's
position as its source. -/
def Sys2Proof.Machine.Can.lsy (slot : Fin 16384) (s : State) : Bool :=
  s.hub.engRuns && (s.hub.opAt slot).any (fun o => o.phase == OpPhase.admitted && o.kind == 11 && bitOf (s.hub.rd LSY_USER_send_mask) o.ward && bitOf s.hub.sup.on 3 && s.hub.lsyOn && s.hub.lsyPlaced && !bitOf o.w1 31 && decide (bitsOf o.w1 26 5 < s.hub.lsyPos))

/-- When `lsy` has its effect. R336, R400: a broadcast, or a frame for a hub downstream, is queued for the forward
window. -/
def Sys2Proof.Machine.Can.lsy2 (slot : Fin 16384) (s : State) : Bool :=
  s.hub.engRuns && (s.hub.opAt slot).any (fun o => o.phase == OpPhase.admitted && o.kind == 11 && bitOf (s.hub.rd LSY_USER_send_mask) o.ward && bitOf s.hub.sup.on 3 && s.hub.lsyOn && s.hub.lsyPlaced && (bitOf o.w1 31 || decide (s.hub.lsyPos < bitsOf o.w1 26 5)) && !s.hub.isTail && decide (s.hub.lsy.fwd.length < 16))

/-- When `lsy` has its effect. R400: a ward that may not send is DENIED. -/
def Sys2Proof.Machine.Can.lsy3 (slot : Fin 16384) (s : State) : Bool :=
  s.hub.engRuns && (s.hub.opAt slot).any (fun o => o.phase == OpPhase.admitted && o.kind == 11 && !bitOf (s.hub.rd LSY_USER_send_mask) o.ward)

/-- When `lsy` has its effect. R400, R409: without the chain or a position it retires STATE. -/
def Sys2Proof.Machine.Can.lsy4 (slot : Fin 16384) (s : State) : Bool :=
  s.hub.engRuns && (s.hub.opAt slot).any (fun o => o.phase == OpPhase.admitted && o.kind == 11 && bitOf (s.hub.rd LSY_USER_send_mask) o.ward && bitOf s.hub.sup.on 3 && (!s.hub.lsyOn || !s.hub.lsyPlaced))

/-- TMB, MEAS, DIAG and LSY complete, each under the condition and with the result that its clause gives: the effect and
their results of R392; a TMB operation that waits for its tumbler is in flight, waiting. Clause by clause: `tmbOpStart`:
R292, R396: the tumbler is pending; the operation waits for its start. `tmbOpStart`: R396: a start to a tumbler that is
pending or executing retires REFUSED. `tmbOpStart`: R396, R409: in Safe a start retires STATE. `tmbOpStart`: R396:
another ward's tumbler is DENIED. `tmbOpStart`: R138, R396: with the link lost an operation of a tumbler that drives a
field pin retires LINK_LOST. `tmbOpStop`: R293, R396: the stop waits for the next vector boundary. `tmbOpStop`: R396: a
stop of a tumbler that does not run retires with its program counter. `tmbOpStop`: R396: another ward's tumbler is
DENIED. `tmbOpStop`: R138, R396: with the link lost an operation of a tumbler that drives a field pin retires LINK_LOST.
`tmbOpJump`: R293, R396: the jump waits for the next vector boundary. `tmbOpJump`: R396: another ward's tumbler is
DENIED. `tmbOpJump`: R138, R396: with the link lost an operation of a tumbler that drives a field pin retires LINK_LOST.
`meas`: R397: the round's values are written in the order of the selection. `meas`: R397: a channel that is not the
ward's own is DENIED. `meas`: R138, R397: with the link lost it retires LINK_LOST. `diag`: R225, R392: the pin voltage,
the currents and the conclusion are the results, and for an input its state and flags. `diag`: R225: another ward's
channel is DENIED. `diag`: R138, R225: with the link lost it retires LINK_LOST. `lsy`: R336, R400: a USER frame for a
hub upstream is queued for the line with the hub's position as its source. `lsy`: R336, R400: a broadcast, or a frame
for a hub downstream, is queued for the forward window. `lsy`: R400: a ward that may not send is DENIED. `lsy`: R400,
R409: without the chain or a position it retires STATE. -/
def Obligations.UnitOperations : Prop :=
  (∀ (s : State) (slot : Fin 16384), Can.tmbOpStart slot s = true → Completes (.tmbOpStart slot) s (fun h =>
      h.opAt slot = (s.hub.opAt slot).map (fun o => { o with phase := OpPhase.waiting }) ∧ (∀ o ∈ (s.hub.opAt slot).toList, h.tmbState (bitsOf o.field 3 3) = 1 ∧ (h.tmb (bitsOf o.field 3 3)).entry = o.w1 % 1024 ∧ (h.tmb (bitsOf o.field 3 3)).startSlot = some slot.val ∧ h.sch.queue.map (fun x => (x.kind, x.ref)) = [(CandKind.tmbStart, bitsOf o.field 3 3)]))) ∧
  (∀ (s : State) (slot : Fin 16384), Can.tmbOpStart2 slot s = true → Completes (.tmbOpStart slot) s (fun h =>
      h.opAt slot = (s.hub.opAt slot).map (fun o => { o with phase := OpPhase.retiring, code := 3, r0 := 0, r1 := 0 }) ∧ h.tmbs = s.hub.tmbs ∧ h.regs = s.hub.regs)) ∧
  (∀ (s : State) (slot : Fin 16384), Can.tmbOpStart3 slot s = true → Completes (.tmbOpStart slot) s (fun h =>
      h.opAt slot = (s.hub.opAt slot).map (fun o => { o with phase := OpPhase.retiring, code := 8, r0 := 0, r1 := 0 }) ∧ h.tmbs = s.hub.tmbs ∧ h.regs = s.hub.regs)) ∧
  (∀ (s : State) (slot : Fin 16384), Can.tmbOpStart4 slot s = true → Completes (.tmbOpStart slot) s (fun h =>
      h.opAt slot = (s.hub.opAt slot).map (fun o => { o with phase := OpPhase.retiring, code := 2, r0 := 0, r1 := 0 }) ∧ h.tmbs = s.hub.tmbs ∧ h.regs = s.hub.regs)) ∧
  (∀ (s : State) (slot : Fin 16384), Can.tmbOpStart5 slot s = true → Completes (.tmbOpStart slot) s (fun h =>
      h.opAt slot = (s.hub.opAt slot).map (fun o => { o with phase := OpPhase.retiring, code := 5, r0 := 0, r1 := 0 }) ∧ h.tmbs = s.hub.tmbs ∧ h.regs = s.hub.regs)) ∧
  (∀ (s : State) (slot : Fin 16384), Can.tmbOpStop slot s = true → Completes (.tmbOpStop slot) s (fun h =>
      h.opAt slot = (s.hub.opAt slot).map (fun o => { o with phase := OpPhase.waiting }) ∧ (∀ o ∈ (s.hub.opAt slot).toList, (h.tmb (bitsOf o.field 3 3)).stopReq = some (bitOf o.field 2)) ∧ h.regs = s.hub.regs)) ∧
  (∀ (s : State) (slot : Fin 16384), Can.tmbOpStop2 slot s = true → Completes (.tmbOpStop slot) s (fun h =>
      h.opAt slot = (s.hub.opAt slot).map (fun o => { o with phase := OpPhase.retiring, code := 0, r0 := s.hub.rd TMB_STAT_pc (bitsOf o.field 3 3), r1 := 0 }) ∧ h.tmbs = s.hub.tmbs)) ∧
  (∀ (s : State) (slot : Fin 16384), Can.tmbOpStop3 slot s = true → Completes (.tmbOpStop slot) s (fun h =>
      h.opAt slot = (s.hub.opAt slot).map (fun o => { o with phase := OpPhase.retiring, code := 2, r0 := 0, r1 := 0 }) ∧ h.tmbs = s.hub.tmbs ∧ h.regs = s.hub.regs)) ∧
  (∀ (s : State) (slot : Fin 16384), Can.tmbOpStop4 slot s = true → Completes (.tmbOpStop slot) s (fun h =>
      h.opAt slot = (s.hub.opAt slot).map (fun o => { o with phase := OpPhase.retiring, code := 5, r0 := 0, r1 := 0 }) ∧ h.tmbs = s.hub.tmbs ∧ h.regs = s.hub.regs)) ∧
  (∀ (s : State) (slot : Fin 16384), Can.tmbOpJump slot s = true → Completes (.tmbOpJump slot) s (fun h =>
      h.opAt slot = (s.hub.opAt slot).map (fun o => { o with phase := OpPhase.waiting }) ∧ (∀ o ∈ (s.hub.opAt slot).toList, (h.tmb (bitsOf o.field 3 3)).jumpReq = some (o.w1 % 1024)) ∧ h.regs = s.hub.regs)) ∧
  (∀ (s : State) (slot : Fin 16384), Can.tmbOpJump2 slot s = true → Completes (.tmbOpJump slot) s (fun h =>
      h.opAt slot = (s.hub.opAt slot).map (fun o => { o with phase := OpPhase.retiring, code := 2, r0 := 0, r1 := 0 }) ∧ h.tmbs = s.hub.tmbs ∧ h.regs = s.hub.regs)) ∧
  (∀ (s : State) (slot : Fin 16384), Can.tmbOpJump3 slot s = true → Completes (.tmbOpJump slot) s (fun h =>
      h.opAt slot = (s.hub.opAt slot).map (fun o => { o with phase := OpPhase.retiring, code := 5, r0 := 0, r1 := 0 }) ∧ h.tmbs = s.hub.tmbs ∧ h.regs = s.hub.regs)) ∧
  (∀ (s : State) (slot : Fin 16384) (conv : List Word), Can.meas slot conv s = true → Completes (.meas slot conv) s (fun h =>
      h.opAt slot = (s.hub.opAt slot).map (fun o => { o with phase := OpPhase.retiring, code := 0, r0 := conv.length, r1 := 0 }) ∧ (∀ o ∈ (s.hub.opAt slot).toList, ∀ x ∈ (conv.zip (measWords o.w1)).zipIdx, h.memWord (ptrAddr o.w2 + 4 * x.2) = (if x.1.2 then x.1.1.toNat else x.1.1.toNat % 2 ^ 16)) ∧ h.regs = s.hub.regs)) ∧
  (∀ (s : State) (slot : Fin 16384) (conv : List Word), Can.meas2 slot conv s = true → Completes (.meas slot conv) s (fun h =>
      h.opAt slot = (s.hub.opAt slot).map (fun o => { o with phase := OpPhase.retiring, code := 2, r0 := 0, r1 := 0 }) ∧ h.mem = s.hub.mem ∧ h.regs = s.hub.regs)) ∧
  (∀ (s : State) (slot : Fin 16384) (conv : List Word), Can.meas3 slot conv s = true → Completes (.meas slot conv) s (fun h =>
      h.opAt slot = (s.hub.opAt slot).map (fun o => { o with phase := OpPhase.retiring, code := 5, r0 := 0, r1 := 0 }) ∧ h.mem = s.hub.mem ∧ h.regs = s.hub.regs)) ∧
  (∀ (s : State) (slot : Fin 16384) (v : BitVec 16) (normal : BitVec 12) (fine : BitVec 12), Can.diag slot v normal fine s = true → Completes (.diag slot v normal fine) s (fun h =>
      (h.opAt slot).map (fun o => (o.phase, o.code, o.r0)) = some (OpPhase.retiring, 0, v.toNat + normal.toNat * 2 ^ 16) ∧ (∀ o ∈ (s.hub.opAt slot).toList, (s.hub.isIn (o.field % 16) = true → (h.opAt slot).map (fun o => o.r1) = some (b2n (s.hub.flag IN_STAT_state (o.field % 16)) * 2 ^ 20 + s.hub.inFltBits (o.field % 16) * 2 ^ 24)) ∧ (s.hub.isIn (o.field % 16) = false → (h.opAt slot).map (fun o => o.r1) = some (fine.toNat + (if s.hub.isOut (o.field % 16) then s.hub.diagConclusion (o.field % 16) v.toInt normal.toNat fine.toNat else 6) * 2 ^ 16))))) ∧
  (∀ (s : State) (slot : Fin 16384) (v : BitVec 16) (normal : BitVec 12) (fine : BitVec 12), Can.diag2 slot v normal fine s = true → Completes (.diag slot v normal fine) s (fun h =>
      h.opAt slot = (s.hub.opAt slot).map (fun o => { o with phase := OpPhase.retiring, code := 2, r0 := 0, r1 := 0 }) ∧ h.regs = s.hub.regs)) ∧
  (∀ (s : State) (slot : Fin 16384) (v : BitVec 16) (normal : BitVec 12) (fine : BitVec 12), Can.diag3 slot v normal fine s = true → Completes (.diag slot v normal fine) s (fun h =>
      h.opAt slot = (s.hub.opAt slot).map (fun o => { o with phase := OpPhase.retiring, code := 5, r0 := 0, r1 := 0 }) ∧ h.regs = s.hub.regs)) ∧
  (∀ (s : State) (slot : Fin 16384), Can.lsy slot s = true → Completes (.lsy slot) s (fun h =>
      h.opAt slot = (s.hub.opAt slot).map (fun o => { o with phase := OpPhase.retiring, code := 0, r0 := 0, r1 := 0 }) ∧ (∀ o ∈ (s.hub.opAt slot).toList, h.lsy.ret.contains { cmd := 0x60, payload := bitsOf o.w1 26 5 * 2 ^ 26 + s.hub.lsyPos * 2 ^ 21 + bitsOf o.w1 16 5 * 2 ^ 16 + o.w1 % 2 ^ 16 } = true) ∧ h.regs = s.hub.regs)) ∧
  (∀ (s : State) (slot : Fin 16384), Can.lsy2 slot s = true → Completes (.lsy slot) s (fun h =>
      h.opAt slot = (s.hub.opAt slot).map (fun o => { o with phase := OpPhase.retiring, code := 0, r0 := 0, r1 := 0 }) ∧ (∀ o ∈ (s.hub.opAt slot).toList, h.lsy.fwd = lsyPut s.hub.lsy.fwd { cmd := 0x60, payload := b2n (bitOf o.w1 31) * 2 ^ 31 + bitsOf o.w1 26 5 * 2 ^ 26 + s.hub.lsyPos * 2 ^ 21 + bitsOf o.w1 16 5 * 2 ^ 16 + o.w1 % 2 ^ 16 }) ∧ h.regs = s.hub.regs)) ∧
  (∀ (s : State) (slot : Fin 16384), Can.lsy3 slot s = true → Completes (.lsy slot) s (fun h =>
      h.opAt slot = (s.hub.opAt slot).map (fun o => { o with phase := OpPhase.retiring, code := 2, r0 := 0, r1 := 0 }) ∧ h.lsy = s.hub.lsy ∧ h.regs = s.hub.regs)) ∧
  (∀ (s : State) (slot : Fin 16384), Can.lsy4 slot s = true → Completes (.lsy slot) s (fun h =>
      h.opAt slot = (s.hub.opAt slot).map (fun o => { o with phase := OpPhase.retiring, code := 8, r0 := 0, r1 := 0 }) ∧ h.lsy = s.hub.lsy ∧ h.regs = s.hub.regs))

/-- When `nvmRead` has its effect. R398: the read is handed to the NVM controller. -/
def Sys2Proof.Machine.Can.nvmRead (slot : Fin 16384) (s : State) : Bool :=
  s.hub.engRuns && (s.hub.opAt slot).any (fun o => o.phase == OpPhase.admitted && o.kind == 9 && o.field == 0 && s.hub.nvmReach o.ward o.w1 (4 * o.nvmWords) false && s.hub.ownsBank o.ward (ptrBank o.w2) && s.hub.bankFree (ptrBank o.w2))

/-- When `nvmProgram` has its effect. R398: the program is handed to the NVM controller with the words the bank holds.
-/
def Sys2Proof.Machine.Can.nvmProgram (slot : Fin 16384) (s : State) : Bool :=
  s.hub.engRuns && (s.hub.opAt slot).any (fun o => o.phase == OpPhase.admitted && o.kind == 9 && o.field == 1 && s.hub.nvmReach o.ward o.w1 (4 * o.nvmWords) true && s.hub.ownsBank o.ward (ptrBank o.w2) && s.hub.bankFree (ptrBank o.w2) && (wordAddrs (ptrAddr o.w2) o.nvmWords).all (fun a => !s.hub.isBad a))

/-- When `nvmErase` has its effect. R398: the erase is handed to the NVM controller. -/
def Sys2Proof.Machine.Can.nvmErase (slot : Fin 16384) (s : State) : Bool :=
  s.hub.engRuns && (s.hub.opAt slot).any (fun o => o.phase == OpPhase.admitted && o.kind == 9 && o.field == 2 && s.hub.nvmReach o.ward o.w1 (4096) true)

/-- When `nvmRead` has its effect. R187, R398: beyond the ward's reach it is DENIED. -/
def Sys2Proof.Machine.Can.nvmRead2 (slot : Fin 16384) (s : State) : Bool :=
  s.hub.engRuns && (s.hub.opAt slot).any (fun o => o.phase == OpPhase.admitted && o.kind == 9 && o.field == 0 && !s.hub.nvmReach o.ward o.w1 (4 * o.nvmWords) false)

/-- When `nvmProgram` has its effect. R187, R398: beyond the ward's reach it is DENIED. -/
def Sys2Proof.Machine.Can.nvmProgram2 (slot : Fin 16384) (s : State) : Bool :=
  s.hub.engRuns && (s.hub.opAt slot).any (fun o => o.phase == OpPhase.admitted && o.kind == 9 && o.field == 1 && !s.hub.nvmReach o.ward o.w1 (4 * o.nvmWords) true)

/-- When `nvmErase` has its effect. R187, R398: beyond the ward's reach it is DENIED. -/
def Sys2Proof.Machine.Can.nvmErase2 (slot : Fin 16384) (s : State) : Bool :=
  s.hub.engRuns && (s.hub.opAt slot).any (fun o => o.phase == OpPhase.admitted && o.kind == 9 && o.field == 2 && !s.hub.nvmReach o.ward o.w1 (4096) true)

/-- When `nvmOperationDone` has its effect. R392, R398: the operation retires DONE or NVM_ERROR; a program or erase has
its effect on the device, a read its words in the bank. -/
def Sys2Proof.Machine.Can.nvmOperationDone (_res : Fin 3) (_mirrorOk : Bool) (s : State) : Bool :=
  s.hub.nvmOp.any (fun x => x.use == NvmUse.user && (s.hub.opAt x.slot).any (fun o => !o.dropped && s.hub.ownsBank o.ward (ptrBank o.w2)))

/-- When `timed` has its effect. R399: the operation waits for its target. -/
def Sys2Proof.Machine.Can.timed (slot : Fin 16384) (s : State) : Bool :=
  s.hub.engRuns && (s.hub.opAt slot).any (fun o => o.phase == OpPhase.admitted && o.kind == 10)

/-- When `timedRelease` has its effect. R399: every record is applied, and the operation retires DONE, or LATE where its
target has passed. -/
def Sys2Proof.Machine.Can.timedRelease (slot : Fin 16384) (s : State) : Bool :=
  s.hub.engRuns && !s.hub.opAdmitted slot && (s.hub.opAt slot).any (fun o => o.phase == OpPhase.waiting && o.kind == 10 && o.target.any (fun t => s.hub.timedDue o t) && s.hub.ownsBank o.ward (ptrBank o.w2) && s.hub.bankFree (ptrBank o.w2) && (wordAddrs (ptrAddr o.w2) (2 * (o.field + 1))).all (fun a => !s.hub.isBad a) && (s.hub.records o.w2 (o.field + 1)).all (fun x => decide (0x100000 ≤ x.1) && decide (x.1 < 0x1C0000) && (s.hub.judgeRecord o.ward false x).isNone))

/-- NVM operations are handed to the controller and end with their effect on the device; TIMED waits for its target and
is released there, which is stated for records of the bank window (R398, R399), each under the condition and with the
result that its clause gives. Clause by clause: `nvmRead`: R398: the read is handed to the NVM controller. `nvmProgram`:
R398: the program is handed to the NVM controller with the words the bank holds. `nvmErase`: R398: the erase is handed
to the NVM controller. `nvmRead`: R187, R398: beyond the ward's reach it is DENIED. `nvmProgram`: R187, R398: beyond the
ward's reach it is DENIED. `nvmErase`: R187, R398: beyond the ward's reach it is DENIED. `nvmOperationDone`: R392, R398:
the operation retires DONE or NVM_ERROR; a program or erase has its effect on the device, a read its words in the bank.
`timed`: R399: the operation waits for its target. `timedRelease`: R399: every record is applied, and the operation
retires DONE, or LATE where its target has passed. -/
def Obligations.NvmAndTimedOperations : Prop :=
  (∀ (s : State) (slot : Fin 16384), Can.nvmRead slot s = true → Completes (.nvmRead slot) s (fun h =>
      h.opAt slot = (s.hub.opAt slot).map (fun o => { o with phase := OpPhase.waiting }) ∧ (∀ o ∈ (s.hub.opAt slot).toList, (h.nvmOp.toList ++ h.nvmQ).any (fun x => x.use == NvmUse.user && x.kind == 0 && x.addr == o.w1 && x.slot == slot.val) = true) ∧ h.nvm = s.hub.nvm)) ∧
  (∀ (s : State) (slot : Fin 16384), Can.nvmProgram slot s = true → Completes (.nvmProgram slot) s (fun h =>
      h.opAt slot = (s.hub.opAt slot).map (fun o => { o with phase := OpPhase.waiting }) ∧ (∀ o ∈ (s.hub.opAt slot).toList, (h.nvmOp.toList ++ h.nvmQ).any (fun x => x.use == NvmUse.user && x.kind == 1 && x.addr == o.w1 && x.slot == slot.val && x.data == (wordAddrs (ptrAddr o.w2) o.nvmWords).flatMap (fun a => leBytes 4 (s.hub.memWord a))) = true) ∧ h.nvm = s.hub.nvm)) ∧
  (∀ (s : State) (slot : Fin 16384), Can.nvmErase slot s = true → Completes (.nvmErase slot) s (fun h =>
      h.opAt slot = (s.hub.opAt slot).map (fun o => { o with phase := OpPhase.waiting }) ∧ (∀ o ∈ (s.hub.opAt slot).toList, (h.nvmOp.toList ++ h.nvmQ).any (fun x => x.use == NvmUse.user && x.kind == 2 && x.addr == o.w1 && x.slot == slot.val) = true) ∧ h.nvm = s.hub.nvm)) ∧
  (∀ (s : State) (slot : Fin 16384), Can.nvmRead2 slot s = true → Completes (.nvmRead slot) s (fun h =>
      h.opAt slot = (s.hub.opAt slot).map (fun o => { o with phase := OpPhase.retiring, code := 2, r0 := 0, r1 := 0 }) ∧ h.nvm = s.hub.nvm ∧ h.regs = s.hub.regs ∧ h.nvmQ = s.hub.nvmQ)) ∧
  (∀ (s : State) (slot : Fin 16384), Can.nvmProgram2 slot s = true → Completes (.nvmProgram slot) s (fun h =>
      h.opAt slot = (s.hub.opAt slot).map (fun o => { o with phase := OpPhase.retiring, code := 2, r0 := 0, r1 := 0 }) ∧ h.nvm = s.hub.nvm ∧ h.regs = s.hub.regs ∧ h.nvmQ = s.hub.nvmQ)) ∧
  (∀ (s : State) (slot : Fin 16384), Can.nvmErase2 slot s = true → Completes (.nvmErase slot) s (fun h =>
      h.opAt slot = (s.hub.opAt slot).map (fun o => { o with phase := OpPhase.retiring, code := 2, r0 := 0, r1 := 0 }) ∧ h.nvm = s.hub.nvm ∧ h.regs = s.hub.regs ∧ h.nvmQ = s.hub.nvmQ)) ∧
  (∀ (s : State) (res : Fin 3) (mirrorOk : Bool), Can.nvmOperationDone res mirrorOk s = true → Completes (.nvmOperationDone res mirrorOk) s (fun h =>
      ∀ x ∈ s.hub.nvmOp.toList, (h.opAt x.slot).map (fun o => (o.phase, o.code)) = some (OpPhase.retiring, if res = 0 then 0 else 7) ∧ (res = 0 → x.kind = 1 → h.nvmDev 0 = nvmProgram (s.hub.nvmDev 0) x.addr x.data) ∧ (res = 0 → x.kind ≠ 0 → x.kind ≠ 1 → h.nvmDev 0 = nvmErase (s.hub.nvmDev 0) x.addr 4096) ∧
        (res = 0 → x.kind = 0 → ∀ o ∈ (s.hub.opAt x.slot).toList, ∀ i : Fin o.nvmWords, h.memWord (ptrAddr o.w2 + 4 * i) = leNat (s.hub.nvmRead 0 (x.addr + 4 * i) 4)))) ∧
  (∀ (s : State) (slot : Fin 16384), Can.timed slot s = true → Completes (.timed slot) s (fun h =>
      h.opAt slot = (s.hub.opAt slot).map (fun o => { o with phase := OpPhase.waiting }) ∧ h.mem = s.hub.mem ∧ h.regs = s.hub.regs)) ∧
  (∀ (s : State) (slot : Fin 16384), Can.timedRelease slot s = true → Completes (.timedRelease slot) s (fun h =>
      (∀ o ∈ (s.hub.opAt slot).toList, ∀ t ∈ o.target.toList, h.opAt slot = some { o with phase := OpPhase.retiring, code := b2n (decide ((s.hub.clk.tb + 2 ^ 64 - t) % 2 ^ 64 < 2 ^ 63) && s.hub.clk.tb != t), r0 := o.field + 1, r1 := (if (decide ((s.hub.clk.tb + 2 ^ 64 - t) % 2 ^ 64 < 2 ^ 63) && s.hub.clk.tb != t) = true then s.hub.clk.tb else t) % 2 ^ 32 } ∧ ((s.hub.records o.w2 (o.field + 1)).getLast?.all (fun x => h.memWord x.1 == x.2) = true)) ∧ h.regs = s.hub.regs))

/-- When `intEvent` has its effect. R419, R421: the source is set; an event of an enabled source of a routed ward is
released, or held while the moderation interval runs. -/
def Sys2Proof.Machine.Can.intEvent (w : Fin 8) (bit : Fin 32) (s : State) : Bool :=
  intSource w bit && s.hub.intServed && (s.hub.ward w == .active || s.hub.ward w == .held)

/-- When `intEvent` has its effect. R419, R425, R440: a reserved bit is no source, and no source is set for a ward that
is absent or in *Reset*, or in a state that serves none. -/
def Sys2Proof.Machine.Can.intEvent2 (w : Fin 8) (bit : Fin 32) (s : State) : Bool :=
  !(intSource w bit && s.hub.intServed && (s.hub.ward w == .active || s.hub.ward w == .held))

/-- When `moderationExpiry` has its effect. R421: the held event is released. -/
def Sys2Proof.Machine.Can.moderationExpiry (w : Fin 8) (s : State) : Bool :=
  (s.hub.wint w).held && s.hub.intPending w && s.hub.intServed && s.hub.modOver w

/-- When `moderationExpiry` has its effect. R421: with no event held, or before the interval ends, nothing changes. -/
def Sys2Proof.Machine.Can.moderationExpiry2 (w : Fin 8) (s : State) : Bool :=
  !(s.hub.wint w).held || !s.hub.modOver w

/-- When `moderationExpiry` has its effect. R421: with no request pending the held event is dropped. -/
def Sys2Proof.Machine.Can.moderationExpiry3 (w : Fin 8) (s : State) : Bool :=
  (s.hub.wint w).held && s.hub.modOver w && !(s.hub.intPending w && s.hub.intServed)

/-- When `intPulseEnd` has its effect. R423, R441: once its width has passed the pulse ends and its gap begins; at the
gap's end a waiting release starts the next pulse. -/
def Sys2Proof.Machine.Can.intPulseEnd (p : Fin 4) (s : State) : Bool :=
  decide ((s.hub.pin p).since + 10 * s.hub.rd INT_PIN_CFG_width p ≤ s.hub.clk.now)

/-- When `intPulseEnd` has its effect. R423: before its width has passed it goes on. -/
def Sys2Proof.Machine.Can.intPulseEnd2 (p : Fin 4) (s : State) : Bool :=
  decide (s.hub.clk.now < (s.hub.pin p).since + 10 * s.hub.rd INT_PIN_CFG_width p)

/-- When `intStatClear` has its effect. R420, R421: the written bits are cleared; a request with no enabled source left
ends. -/
def Sys2Proof.Machine.Can.intStatClear (w : Fin 8) (_v : Word) (s : State) : Bool :=
  s.hub.writable w

/-- When `intEnWrite` has its effect. R420, R421: the enables are set; bits 22 and 23 are W0's alone; a set bit that the
write enables makes an event. -/
def Sys2Proof.Machine.Can.intEnWrite (w : Fin 8) (_v : Word) (s : State) : Bool :=
  s.hub.writable w

/-- When `intSet` has its effect. R437: the ward sets its own software source; any other bit does nothing. -/
def Sys2Proof.Machine.Can.intSet (w : Fin 8) (_v : Word) (s : State) : Bool :=
  s.hub.writable w

/-- When `intModWrite` has its effect. R438: the trim is taken; a lower figure than the Blank's is taken as it. -/
def Sys2Proof.Machine.Can.intModWrite (w : Fin 8) (_v : Word) (s : State) : Bool :=
  s.hub.writable w && bitOf (s.hub.rd WRD_EXP_OPEN_open w) 6

/-- When `intModWrite` has its effect. R371, R438: with page 6 closed the trim stays. -/
def Sys2Proof.Machine.Can.intModWrite2 (w : Fin 8) (_v : Word) (s : State) : Bool :=
  !(s.hub.writable w && bitOf (s.hub.rd WRD_EXP_OPEN_open w) 6)

/-- The interrupt commands complete, each under the condition and with the result that its clause gives, after R419 to
R423, R437 and R438. Clause by clause: `intEvent`: R419, R421: the source is set; an event of an enabled source of a
routed ward is released, or held while the moderation interval runs. `intEvent`: R419, R425, R440: a reserved bit is no
source, and no source is set for a ward that is absent or in *Reset*, or in a state that serves none.
`moderationExpiry`: R421: the held event is released. `moderationExpiry`: R421: with no event held, or before the
interval ends, nothing changes. `moderationExpiry`: R421: with no request pending the held event is dropped.
`intPulseEnd`: R423, R441: once its width has passed the pulse ends and its gap begins; at the gap's end a waiting
release starts the next pulse. `intPulseEnd`: R423: before its width has passed it goes on. `intStatClear`: R420, R421:
the written bits are cleared; a request with no enabled source left ends. `intEnWrite`: R420, R421: the enables are set;
bits 22 and 23 are W0's alone; a set bit that the write enables makes an event. `intSet`: R437: the ward sets its own
software source; any other bit does nothing. `intModWrite`: R438: the trim is taken; a lower figure than the Blank's is
taken as it. `intModWrite`: R371, R438: with page 6 closed the trim stays. -/
def Obligations.InterruptCommands : Prop :=
  (∀ (s : State) (w : Fin 8) (bit : Fin 32), Can.intEvent w bit s = true → Completes (.intEvent w bit) s (fun h =>
      h.rd INT_STAT_stat w = setBit (s.hub.rd INT_STAT_stat w) bit ∧ h.rd INT_EN_en w = s.hub.rd INT_EN_en w ∧
        (bitOf (s.hub.rd INT_STAT_stat w) bit = false → bitOf (s.hub.rd INT_EN_en w) bit = true → s.hub.flag INT_CFG_route w = true → (s.hub.intPending w = false ∨ s.hub.rd INT_PIN_CFG_mode (s.hub.rd INT_CFG_pin w) ≠ 0) → if s.hub.modTicks w = 0 ∨ (s.hub.modOver w = true ∧ (s.hub.wint w).held = false) then (h.wint w).released = true ∧ (h.wint w).held = false ∧ (h.wint w).last = some s.hub.clk.tb ∧ h.rd INT_CNT_count w = (s.hub.rd INT_CNT_count w + 1) % 2 ^ 32 else (h.wint w).held = true ∧ (h.wint w).released = (s.hub.wint w).released ∧ h.rd INT_CNT_count w = s.hub.rd INT_CNT_count w) ∧
        ((bitOf (s.hub.rd INT_EN_en w) bit = false ∨ bitOf (s.hub.rd INT_STAT_stat w) bit = true ∨ s.hub.flag INT_CFG_route w = false) → h.ints = s.hub.ints ∧ h.rd INT_CNT_count w = s.hub.rd INT_CNT_count w))) ∧
  (∀ (s : State) (w : Fin 8) (bit : Fin 32), Can.intEvent2 w bit s = true → Completes (.intEvent w bit) s (fun h =>
      h.regs = s.hub.regs ∧ h.ints = s.hub.ints ∧ h.pins = s.hub.pins)) ∧
  (∀ (s : State) (w : Fin 8), Can.moderationExpiry w s = true → Completes (.moderationExpiry w) s (fun h =>
      (h.wint w).released = true ∧ (h.wint w).held = false ∧ (h.wint w).last = some s.hub.clk.tb ∧ h.rd INT_CNT_count w = (s.hub.rd INT_CNT_count w + 1) % 2 ^ 32 ∧ h.rd INT_STAT_stat w = s.hub.rd INT_STAT_stat w)) ∧
  (∀ (s : State) (w : Fin 8), Can.moderationExpiry2 w s = true → Completes (.moderationExpiry w) s (fun h =>
      h.ints = s.hub.ints ∧ h.regs = s.hub.regs ∧ h.pins = s.hub.pins)) ∧
  (∀ (s : State) (w : Fin 8), Can.moderationExpiry3 w s = true → Completes (.moderationExpiry w) s (fun h =>
      (h.wint w).held = false ∧ (h.wint w).released = (s.hub.wint w).released ∧ h.regs = s.hub.regs ∧ h.pins = s.hub.pins)) ∧
  (∀ (s : State) (p : Fin 4), Can.intPulseEnd p s = true → Completes (.intPulseEnd p) s (fun h =>
      ((s.hub.pin p).pulse = true → (h.pin p).pulse = false ∧ (h.pin p).gap = true ∧ (h.pin p).queued = (s.hub.pin p).queued) ∧ ((s.hub.pin p).pulse = false → (h.pin p).gap = false ∧ (h.pin p).queued = false ∧ (h.pin p).pulse = ((s.hub.pin p).gap && (s.hub.pin p).queued)) ∧ (h.pin p).since = s.hub.clk.now ∧ h.ints = s.hub.ints ∧ h.regs = s.hub.regs)) ∧
  (∀ (s : State) (p : Fin 4), Can.intPulseEnd2 p s = true → Completes (.intPulseEnd p) s (fun h =>
      h.pins = s.hub.pins ∧ h.ints = s.hub.ints ∧ h.regs = s.hub.regs)) ∧
  (∀ (s : State) (w : Fin 8) (v : Word), Can.intStatClear w v s = true → Completes (.intStatClear w v) s (fun h =>
      h.rd INT_STAT_stat w = clrMask (s.hub.rd INT_STAT_stat w) v.toNat ∧ (h.intPending w = false → (h.wint w).released = false) ∧ (h.intPending w = true → h.ints = s.hub.ints) ∧ h.rd INT_EN_en w = s.hub.rd INT_EN_en w)) ∧
  (∀ (s : State) (w : Fin 8) (v : Word), Can.intEnWrite w v s = true → Completes (.intEnWrite w v) s (fun h =>
      h.rd INT_EN_en w = (if w = 0 then v.toNat else clrMask v.toNat (2 ^ 22 + 2 ^ 23)) ∧ h.rd INT_STAT_stat w = s.hub.rd INT_STAT_stat w ∧ (h.intPending w = false → (h.wint w).released = false) ∧ (s.hub.intPending w = false → h.intPending w = true → s.hub.flag INT_CFG_route w = true → (s.hub.modTicks w = 0 ∨ (s.hub.modOver w = true ∧ (s.hub.wint w).held = false)) → clrMask (if w = 0 then v.toNat else clrMask v.toNat (2 ^ 22 + 2 ^ 23)) (s.hub.rd INT_EN_en w) &&& s.hub.rd INT_STAT_stat w ≠ 0 → (h.wint w).released = true ∧ (h.wint w).held = false ∧ (h.wint w).last = some s.hub.clk.tb ∧ h.rd INT_CNT_count w = (s.hub.rd INT_CNT_count w + 1) % 2 ^ 32))) ∧
  (∀ (s : State) (w : Fin 8) (v : Word), Can.intSet w v s = true → Completes (.intSet w v) s (fun h =>
      (v.getLsbD 30 = true → s.hub.intServed = true → h.rd INT_STAT_stat w = setBit (s.hub.rd INT_STAT_stat w) 30) ∧ (v.getLsbD 30 = false → h.regs = s.hub.regs ∧ h.ints = s.hub.ints) ∧ h.rd INT_EN_en w = s.hub.rd INT_EN_en w)) ∧
  (∀ (s : State) (w : Fin 8) (v : Word), Can.intModWrite w v s = true → Completes (.intModWrite w v) s (fun h =>
      h.rd INT_MOD_mod_rt w = (if v.toNat / 2 ^ 16 = 0 then 0 else max (v.toNat / 2 ^ 16) (s.hub.rd INT_CFG_mod_us w)) ∧ h.ints = s.hub.ints)) ∧
  (∀ (s : State) (w : Fin 8) (v : Word), Can.intModWrite2 w v s = true → Completes (.intModWrite w v) s (fun h =>
      h.regs = s.hub.regs ∧ h.ints = s.hub.ints))

/-- When `rstnLow` has its effect. R427, R428: the logic die is reset and stays in reset; the cause enters the history.
-/
def Sys2Proof.Machine.Can.rstnLow (_shifting : Bool) (s : State) : Bool :=
  s.hub.dev.phase != .off && !s.hub.dev.rstLow

/-- When `rstnLow` has its effect. R427: a hub in *Off* or in that reset already stays as it is. -/
def Sys2Proof.Machine.Can.rstnLow2 (_shifting : Bool) (s : State) : Bool :=
  s.hub.dev.phase == .off || s.hub.dev.rstLow

/-- When `rstnRelease` has its effect. R427: the logic die leaves the reset and boots. -/
def Sys2Proof.Machine.Can.rstnRelease (s : State) : Bool :=
  s.hub.dev.rstLow && s.hub.dev.phase != .off

/-- When `rstnRelease` has its effect. R427: RSTn that is high already changes nothing. -/
def Sys2Proof.Machine.Can.rstnRelease2 (s : State) : Bool :=
  !s.hub.dev.rstLow

/-- When `rstnRelease` has its effect. R79, R427: a hub in *Off* whose VDD is valid starts now. -/
def Sys2Proof.Machine.Can.rstnRelease3 (s : State) : Bool :=
  s.hub.dev.rstLow && s.hub.dev.phase == .off && decide (s.hub.sup.band.vrst + vddHyst < s.hub.sup.vdd)

/-- When `rstDev` has its effect. R429: W0's key orders a device soft reset with cause 4. -/
def Sys2Proof.Machine.Can.rstDev (w : Fin 8) (v : Word) (s : State) : Bool :=
  s.hub.writable w && w.val == 0 && v.toNat == 0x52535444

/-- When `rstDev` has its effect. R429: another ward, or another value, orders none. -/
def Sys2Proof.Machine.Can.rstDev2 (w : Fin 8) (v : Word) (s : State) : Bool :=
  !(s.hub.writable w && w.val == 0 && v.toNat == 0x52535444)

/-- When `deviceSoftReset` has its effect. R428, R429: the logic die is reset and boots, with the cause in the history.
-/
def Sys2Proof.Machine.Can.deviceSoftReset (s : State) : Bool :=
  s.hub.dev.softReset.isSome && !s.hub.nvmOp.any (fun o => o.kind != 0)

/-- When `deviceSoftReset` has its effect. R429: it waits for a program or erase that runs. -/
def Sys2Proof.Machine.Can.deviceSoftReset2 (s : State) : Bool :=
  s.hub.dev.softReset.isNone || s.hub.nvmOp.any (fun o => o.kind != 0)

/-- When `rstWard` has its effect. R430, R431: the ward is in *Reset*; its tumblers, its operations not executing and
its watchdog stop, its pages close, and its channels keep their states. -/
def Sys2Proof.Machine.Can.rstWard (w : Fin 8) (v : Word) (s : State) : Bool :=
  s.hub.writable w && v.toNat / 2 ^ 16 == 0x5752 && s.hub.rstWardStatus w v.toNat == 0 && s.hub.ward (v.toNat % 8) != .reset

/-- When `rstWard` has its effect. R430: without the key, or refused, no ward is reset. -/
def Sys2Proof.Machine.Can.rstWard2 (w : Fin 8) (v : Word) (s : State) : Bool :=
  !(s.hub.writable w && v.toNat / 2 ^ 16 == 0x5752 && s.hub.rstWardStatus w v.toNat == 0)

/-- When `rstWard` has its effect. R447: a request for a ward in *Reset* merges. -/
def Sys2Proof.Machine.Can.rstWard3 (w : Fin 8) (v : Word) (s : State) : Bool :=
  s.hub.writable w && v.toNat / 2 ^ 16 == 0x5752 && s.hub.rstWardStatus w v.toNat == 0 && s.hub.ward (v.toNat % 8) == .reset

/-- When `wardResetDone` has its effect. R431, R725: the ward is *Active* again, or *Held* where such a fault has come
meanwhile, its own fields at their reset values, its buckets full. -/
def Sys2Proof.Machine.Can.wardResetDone (w : Fin 8) (s : State) : Bool :=
  s.hub.dev.phase == .up && s.hub.ward w == .reset && !s.hub.eng.ops.any (fun o => o.ward == w.val && o.dropped)

/-- When `wardResetDone` has its effect. R431: it waits for the ward's discarded operations to end. -/
def Sys2Proof.Machine.Can.wardResetDone2 (w : Fin 8) (s : State) : Bool :=
  s.hub.dev.phase != .up || s.hub.ward w != .reset || s.hub.eng.ops.any (fun o => o.ward == w.val && o.dropped)

/-- When `rstField` has its effect. R433: every output channel is sent to its safe state first. -/
def Sys2Proof.Machine.Can.rstField (w : Fin 8) (v : Word) (s : State) : Bool :=
  s.hub.writable w && w.val == 0 && v.toNat == 0x52535446 && s.hub.fieldResetAllowed && s.hub.fieldReset == 0

/-- When `rstField` has its effect. R433: another ward or value, or a state without the link, orders none. -/
def Sys2Proof.Machine.Can.rstField2 (w : Fin 8) (v : Word) (s : State) : Bool :=
  !(s.hub.writable w && w.val == 0 && v.toNat == 0x52535446 && s.hub.fieldResetAllowed && s.hub.fieldReset == 0)

/-- When `fieldResetRequest` has its effect. R433, R50, R70: once every channel is safe, or 1 ms has passed, the field
die resets; every channel is off and the link is down. -/
def Sys2Proof.Machine.Can.fieldResetRequest (s : State) : Bool :=
  s.hub.fieldReset == 1 && (s.hub.outList.all (fun c => s.hub.flag OUT_STAT_at_safe c) || decide (s.hub.fieldSince + Config.ticksPerMs ≤ s.hub.clk.now))

/-- When `fieldResetRequest` has its effect. R433: before that it does not. -/
def Sys2Proof.Machine.Can.fieldResetRequest2 (s : State) : Bool :=
  !(s.hub.fieldReset == 1 && (s.hub.outList.all (fun c => s.hub.flag OUT_STAT_at_safe c) || decide (s.hub.fieldSince + Config.ticksPerMs ≤ s.hub.clk.now)))

/-- When `fieldResetTimeout` has its effect. R433: LINK_LOST is present where the link is not there within 5 ms. -/
def Sys2Proof.Machine.Can.fieldResetTimeout (s : State) : Bool :=
  s.hub.fieldReset == 3 && !(s.hub.hinge.upF && s.hub.hinge.upL) && decide (s.hub.fieldSince + 5 * Config.ticksPerMs ≤ s.hub.clk.now)

/-- When `fieldResetTimeout` has its effect. R433: with the link there, or before 5 ms, none is. -/
def Sys2Proof.Machine.Can.fieldResetTimeout2 (s : State) : Bool :=
  !(s.hub.fieldReset == 3 && !(s.hub.hinge.upF && s.hub.hinge.upL) && decide (s.hub.fieldSince + 5 * Config.ticksPerMs ≤ s.hub.clk.now))

/-- The resets complete, each under the condition and with the result that its clause gives, after R427 to R433: RSTn
and the device soft reset reset the logic die and leave the field die, the retained block and the NVM; the ward reset
clears one ward; the field die reset begins with safe states, then resets the field die. Clause by clause: `rstnLow`:
R427, R428: the logic die is reset and stays in reset; the cause enters the history. `rstnLow`: R427: a hub in *Off* or
in that reset already stays as it is. `rstnRelease`: R427: the logic die leaves the reset and boots. `rstnRelease`:
R427: RSTn that is high already changes nothing. `rstnRelease`: R79, R427: a hub in *Off* whose VDD is valid starts now.
`rstDev`: R429: W0's key orders a device soft reset with cause 4. `rstDev`: R429: another ward, or another value, orders
none. `deviceSoftReset`: R428, R429: the logic die is reset and boots, with the cause in the history. `deviceSoftReset`:
R429: it waits for a program or erase that runs. `rstWard`: R430, R431: the ward is in *Reset*; its tumblers, its
operations not executing and its watchdog stop, its pages close, and its channels keep their states. `rstWard`: R430:
without the key, or refused, no ward is reset. `rstWard`: R447: a request for a ward in *Reset* merges. `wardResetDone`:
R431, R725: the ward is *Active* again, or *Held* where such a fault has come meanwhile, its own fields at their reset
values, its buckets full. `wardResetDone`: R431: it waits for the ward's discarded operations to end. `rstField`: R433:
every output channel is sent to its safe state first. `rstField`: R433: another ward or value, or a state without the
link, orders none. `fieldResetRequest`: R433, R50, R70: once every channel is safe, or 1 ms has passed, the field die
resets; every channel is off and the link is down. `fieldResetRequest`: R433: before that it does not.
`fieldResetTimeout`: R433: LINK_LOST is present where the link is not there within 5 ms. `fieldResetTimeout`: R433: with
the link there, or before 5 ms, none is. -/
def Obligations.ResetCommands : Prop :=
  (∀ (s : State) (shifting : Bool), Can.rstnLow shifting s = true → Completes (.rstnLow shifting) s (fun h =>
      h.dev.rstLow = true ∧ h.dev.phase = .boot ∧ h.ret.hist.head?.map (fun x => x % 16) = some 3 ∧ h.ret.boots = s.hub.ret.boots ∧ h.ret.nextSeq = s.hub.ret.nextSeq ∧ h.nvm.toList.map (fun x => x.present) = s.hub.nvm.toList.map (fun x => x.present) ∧ (∀ c : Fin 16, (h.out c).latched = (s.hub.out c).latched ∧ (h.out c).sw = (s.hub.out c).sw) ∧ h.mem = [] ∧ (∀ w : Fin 8, h.rd INT_EN_en w = 0) ∧ (∀ c : Fin 16, h.rd OUT_CTRL_on c = 0) ∧ h.hinge.upL = false ∧ h.clk.tb = 0)) ∧
  (∀ (s : State) (shifting : Bool), Can.rstnLow2 shifting s = true → Completes (.rstnLow shifting) s (fun h =>
      h.dev.rstLow = true ∧ h.dev.phase = s.hub.dev.phase ∧ h.regs = s.hub.regs ∧ h.ret = s.hub.ret ∧ h.outs = s.hub.outs)) ∧
  (∀ (s : State), Can.rstnRelease s = true → Completes (.rstnRelease) s (fun h =>
      h.dev.rstLow = false ∧ h.dev.testHeld = s.hub.dev.testen ∧ h.ret.boots = satInc (2 ^ 32 - 1) s.hub.ret.boots ∧ h.rd PWR_RET_STAT_source = 0 ∧ h.outs = s.hub.outs ∧ h.mem = s.hub.mem)) ∧
  (∀ (s : State), Can.rstnRelease2 s = true → Completes (.rstnRelease) s (fun h =>
      h.dev = s.hub.dev ∧ h.regs = s.hub.regs ∧ h.ret = s.hub.ret)) ∧
  (∀ (s : State), Can.rstnRelease3 s = true → Completes (.rstnRelease) s (fun h =>
      h.dev.rstLow = false ∧ h.dev.phase = .boot)) ∧
  (∀ (s : State) (w : Fin 8) (v : Word), Can.rstDev w v s = true → Completes (.rstDev w v) s (fun h =>
      h.dev.softReset = some (4, 0) ∧ h.regs = s.hub.regs ∧ h.outs = s.hub.outs)) ∧
  (∀ (s : State) (w : Fin 8) (v : Word), Can.rstDev2 w v s = true → Completes (.rstDev w v) s (fun h =>
      h.dev = s.hub.dev ∧ h.regs = s.hub.regs ∧ h.outs = s.hub.outs)) ∧
  (∀ (s : State), Can.deviceSoftReset s = true → Completes (.deviceSoftReset) s (fun h =>
      h.dev.softReset = none ∧ h.dev.phase = .boot ∧ h.ret.boots = satInc (2 ^ 32 - 1) s.hub.ret.boots ∧ (∀ x ∈ s.hub.dev.softReset.toList, x.1 < 16 → x.1 ≠ 7 → x.1 ≠ 1 → h.ret.hist.head?.map (fun e => e % 16) = some x.1) ∧ h.nvm = s.hub.nvm ∧ h.ret.nextSeq = s.hub.ret.nextSeq ∧ h.nvm.toList.map (fun x => x.present) = s.hub.nvm.toList.map (fun x => x.present) ∧ (∀ c : Fin 16, (h.out c).latched = (s.hub.out c).latched ∧ (h.out c).sw = (s.hub.out c).sw) ∧ h.mem = [] ∧ (∀ w : Fin 8, h.rd INT_EN_en w = 0) ∧ (∀ c : Fin 16, h.rd OUT_CTRL_on c = 0) ∧ h.hinge.upL = false ∧ h.clk.tb = 0)) ∧
  (∀ (s : State), Can.deviceSoftReset2 s = true → Completes (.deviceSoftReset) s (fun h =>
      h.dev = s.hub.dev ∧ h.regs = s.hub.regs ∧ h.ret = s.hub.ret ∧ h.nvm = s.hub.nvm)) ∧
  (∀ (s : State) (w : Fin 8) (v : Word), Can.rstWard w v s = true → Completes (.rstWard w v) s (fun h =>
      s.hub.ward (v.toNat % 8) ≠ .absent ∧ h.ward (v.toNat % 8) = .reset ∧ h.flag RST_WARD_STAT_busy (v.toNat % 8) = true ∧ h.rd RST_WARD_STAT_reason (v.toNat % 8) = (if v.toNat % 8 = w then 1 else 2) ∧ h.rd WRD_EXP_OPEN_open (v.toNat % 8) = 0 ∧ (h.wd (v.toNat % 8)).state = 0 ∧
        (s.hub.tmbsOf (v.toNat % 8)).all (fun t => !h.tmbRuns t) = true ∧ h.eng.ops.all (fun o => o.ward != v.toNat % 8 || o.running) = true ∧ (∀ c : Fin 16, (h.out c).latched = (s.hub.out c).latched))) ∧
  (∀ (s : State) (w : Fin 8) (v : Word), Can.rstWard2 w v s = true → Completes (.rstWard w v) s (fun h =>
      h.dev = s.hub.dev ∧ h.regs = s.hub.regs ∧ h.eng = s.hub.eng)) ∧
  (∀ (s : State) (w : Fin 8) (v : Word), Can.rstWard3 w v s = true → Completes (.rstWard w v) s (fun h =>
      h.dev = s.hub.dev ∧ h.regs = s.hub.regs ∧ h.eng = s.hub.eng)) ∧
  (∀ (s : State) (w : Fin 8), Can.wardResetDone w s = true → Completes (.wardResetDone w) s (fun h =>
      h.ward w = (if s.hub.heldFault w then .held else .active) ∧ h.flag RST_WARD_STAT_busy w = false ∧ h.rd WRD_STAT_resets w = satInc 65535 (s.hub.rd WRD_STAT_resets w) ∧ h.rd OPS_CNT_count w = 0 ∧ h.rd OPS_SQ_IDX_tail w = 0 ∧ h.rd INT_EN_en w = 0 ∧ vget h.eng.tokens w 0 = h.rd OPS_URG_depth w ∧ h.rd OPS_URG_depth w = s.hub.rd OPS_URG_depth w ∧
        (s.hub.flag RST_WARD_CFG_clear_banks w = true → ∀ b : Fin 48, s.hub.ownsBank w b = true → h.memWord (bankAddr b 0) = 0) ∧ (∀ c : Fin 16, (h.out c).latched = (s.hub.out c).latched))) ∧
  (∀ (s : State) (w : Fin 8), Can.wardResetDone2 w s = true → Completes (.wardResetDone w) s (fun h =>
      h.dev = s.hub.dev ∧ h.regs = s.hub.regs ∧ h.eng = s.hub.eng ∧ h.mem = s.hub.mem)) ∧
  (∀ (s : State) (w : Fin 8) (v : Word), Can.rstField w v s = true → Completes (.rstField w v) s (fun h =>
      h.fieldReset = 1 ∧ h.fieldSince = s.hub.clk.now ∧ h.flag RST_FIELD_STAT_busy = true ∧ h.flag RST_FIELD_STAT_timeout = false ∧ h.rd RST_FIELD_STAT_count = satInc (2 ^ RST_FIELD_STAT_count.width - 1) (s.hub.rd RST_FIELD_STAT_count) ∧ (∀ c ∈ s.hub.outList, vget h.hinge.cmd c 0 = 2 ∧ h.flag OUT_STAT_safe_hold c = true))) ∧
  (∀ (s : State) (w : Fin 8) (v : Word), Can.rstField2 w v s = true → Completes (.rstField w v) s (fun h =>
      h.fieldReset = s.hub.fieldReset ∧ h.regs = s.hub.regs ∧ h.outs = s.hub.outs)) ∧
  (∀ (s : State), Can.fieldResetRequest s = true → Completes (.fieldResetRequest) s (fun h =>
      h.fieldReset = 3 ∧ h.fieldSince = s.hub.clk.now ∧ h.sup.vregFail = false ∧ h.dev.ftestHeld = s.hub.dev.ftest ∧ (∀ c : Fin 16, (h.out c).sw = false ∧ h.rd OUT_RT_ilim_rt c = 0) ∧ h.hinge.upF = false ∧ h.hinge.configured = false ∧ h.flag CLK_STAT_follow_lock = false ∧ h.dev.phase = s.hub.dev.phase ∧ h.mem = s.hub.mem)) ∧
  (∀ (s : State), Can.fieldResetRequest2 s = true → Completes (.fieldResetRequest) s (fun h =>
      h.fieldReset = s.hub.fieldReset ∧ h.regs = s.hub.regs ∧ h.outs = s.hub.outs)) ∧
  (∀ (s : State), Can.fieldResetTimeout s = true → Completes (.fieldResetTimeout) s (fun h =>
      h.flag RST_FIELD_STAT_timeout = true ∧ (s.hub.proofHides 11 16 = false → caused h 11 16 = true) ∧ h.outs = s.hub.outs)) ∧
  (∀ (s : State), Can.fieldResetTimeout2 s = true → Completes (.fieldResetTimeout) s (fun h =>
      h.fieldReset = s.hub.fieldReset ∧ h.regs = s.hub.regs ∧ h.outs = s.hub.outs))

/-- When `bnkOwnerWrite` has its effect. R453, R455: the handover is pending, and drains; the owner stays. -/
def Sys2Proof.Machine.Can.bnkOwnerWrite (w : Fin 8) (b : Fin 48) (v : Word) (s : State) : Bool :=
  s.hub.writable w && s.hub.bankAuth b == some w.val && !s.hub.flag BNK_STAT_pending b && bitsOf v.toNat 24 8 == bitsOf v.toNat 16 8 ^^^ 0xA5 && s.hub.handRefused w b (bitsOf v.toNat 16 8) == 0

/-- When `bnkOwnerWrite` has its effect. R454: a refused handover shows its result. -/
def Sys2Proof.Machine.Can.bnkOwnerWrite2 (w : Fin 8) (b : Fin 48) (v : Word) (s : State) : Bool :=
  s.hub.writable w && s.hub.bankAuth b == some w.val && !s.hub.flag BNK_STAT_pending b && bitsOf v.toNat 24 8 == bitsOf v.toNat 16 8 ^^^ 0xA5 && s.hub.handRefused w b (bitsOf v.toNat 16 8) != 0

/-- When `bnkOwnerWrite` has its effect. R453: a wrong key is counted. -/
def Sys2Proof.Machine.Can.bnkOwnerWrite3 (w : Fin 8) (b : Fin 48) (v : Word) (s : State) : Bool :=
  s.hub.writable w && s.hub.bankAuth b == some w.val && !s.hub.flag BNK_STAT_pending b && bitsOf v.toNat 24 8 != bitsOf v.toNat 16 8 ^^^ 0xA5

/-- When `bnkOwnerWrite` has its effect. R453: a ward without authority, or a handover that is pending, changes nothing.
-/
def Sys2Proof.Machine.Can.bnkOwnerWrite4 (w : Fin 8) (b : Fin 48) (_v : Word) (s : State) : Bool :=
  !(s.hub.writable w && s.hub.bankAuth b == some w.val && !s.hub.flag BNK_STAT_pending b)

/-- When `drainComplete` has its effect. R455: without a scrub the owner changes. -/
def Sys2Proof.Machine.Can.drainComplete (b : Fin 48) (s : State) : Bool :=
  (s.hub.bank b).hand.any (fun x => !x.scrubbing && !x.scrub) && !s.hub.bankOutstanding b

/-- When `drainComplete` has its effect. R455: with one the bank is cleared first. -/
def Sys2Proof.Machine.Can.drainComplete2 (b : Fin 48) (s : State) : Bool :=
  (s.hub.bank b).hand.any (fun x => !x.scrubbing && x.scrub) && !s.hub.bankOutstanding b

/-- When `drainComplete` has its effect. R455: with no handover that drains, or an access outstanding, nothing changes.
-/
def Sys2Proof.Machine.Can.drainComplete3 (b : Fin 48) (s : State) : Bool :=
  (s.hub.bank b).hand.all (fun x => x.scrubbing) || s.hub.bankOutstanding b

/-- When `handoverScrubDone` has its effect. R455: the bank is cleared, and then the owner changes. -/
def Sys2Proof.Machine.Can.handoverScrubDone (b : Fin 48) (s : State) : Bool :=
  (s.hub.bank b).hand.any (fun x => x.scrubbing && x.dropped.isNone)

/-- When `handoverScrubDone` has its effect. R679: an abandoned one leaves the cleared bank with its giver. -/
def Sys2Proof.Machine.Can.handoverScrubDone2 (b : Fin 48) (s : State) : Bool :=
  (s.hub.bank b).hand.any (fun x => x.scrubbing && x.dropped.isSome)

/-- When `handoverScrubDone` has its effect. R455: a bank that is not being scrubbed stays. -/
def Sys2Proof.Machine.Can.handoverScrubDone3 (b : Fin 48) (s : State) : Bool :=
  (s.hub.bank b).hand.all (fun x => !x.scrubbing)

/-- When `bnkHandedClear` has its effect. R456: a write of 1 clears it. -/
def Sys2Proof.Machine.Can.bnkHandedClear (w : Fin 8) (b : Fin 48) (_v : Word) (s : State) : Bool :=
  s.hub.writable w && s.hub.bankAuth b == some w.val

/-- When `bnkHandedClear` has its effect. R453: a ward without authority changes nothing. -/
def Sys2Proof.Machine.Can.bnkHandedClear2 (w : Fin 8) (b : Fin 48) (_v : Word) (s : State) : Bool :=
  !(s.hub.writable w && s.hub.bankAuth b == some w.val)

/-- When `retainWrite` has its effect. R457: the flag takes bit 0. -/
def Sys2Proof.Machine.Can.retainWrite (w : Fin 8) (b : Fin 48) (_v : Word) (s : State) : Bool :=
  s.hub.writable w && s.hub.ownsBank w b

/-- When `retainWrite` has its effect. R457: another ward changes nothing. -/
def Sys2Proof.Machine.Can.retainWrite2 (w : Fin 8) (b : Fin 48) (_v : Word) (s : State) : Bool :=
  !(s.hub.writable w && s.hub.ownsBank w b)

/-- When `bitSet` has its effect. R459: the bits are set in one access. -/
def Sys2Proof.Machine.Can.bitSet (w : Fin 8) (b : Fin 48) (word : Fin 4096) (_v : Word) (s : State) : Bool :=
  s.hub.bankWritable w b && !s.hub.isBad (bankAddr b word)

/-- When `bitSet` has its effect. R459, R461: a word with an uncorrectable error is left unchanged, and its error found.
-/
def Sys2Proof.Machine.Can.bitSet2 (w : Fin 8) (b : Fin 48) (word : Fin 4096) (_v : Word) (s : State) : Bool :=
  s.hub.bankWritable w b && s.hub.isBad (bankAddr b word)

/-- When `bitSet` has its effect. R452: another ward's bank, or one that is not free, does not change. -/
def Sys2Proof.Machine.Can.bitSet3 (w : Fin 8) (b : Fin 48) (_word : Fin 4096) (_v : Word) (s : State) : Bool :=
  !s.hub.bankWritable w b

/-- When `bitClear` has its effect. R459: the bits are cleared in one access. -/
def Sys2Proof.Machine.Can.bitClear (w : Fin 8) (b : Fin 48) (word : Fin 4096) (_v : Word) (s : State) : Bool :=
  s.hub.bankWritable w b && !s.hub.isBad (bankAddr b word)

/-- When `bitClear` has its effect. R459, R461: a word with an uncorrectable error is left unchanged, and its error
found. -/
def Sys2Proof.Machine.Can.bitClear2 (w : Fin 8) (b : Fin 48) (word : Fin 4096) (_v : Word) (s : State) : Bool :=
  s.hub.bankWritable w b && s.hub.isBad (bankAddr b word)

/-- When `bitClear` has its effect. R452: another ward's bank, or one that is not free, does not change. -/
def Sys2Proof.Machine.Can.bitClear3 (w : Fin 8) (b : Fin 48) (_word : Fin 4096) (_v : Word) (s : State) : Bool :=
  !s.hub.bankWritable w b

/-- When `eccCorrected` has its effect. R461: the corrected error is counted; the word reads as it was. -/
def Sys2Proof.Machine.Can.eccCorrected (b : Fin 50) (word : Fin 4096) (s : State) : Bool :=
  s.hub.logicRuns && s.hub.wordPowered b word

/-- When `eccCorrected` has its effect. R461: memory without power has none. -/
def Sys2Proof.Machine.Can.eccCorrected2 (b : Fin 50) (word : Fin 4096) (s : State) : Bool :=
  !(s.hub.logicRuns && s.hub.wordPowered b word)

/-- When `eccUncorrectable` has its effect. R461: the error is found at the word, which stays bad until it is written.
-/
def Sys2Proof.Machine.Can.eccUncorrectable (b : Fin 50) (word : Fin 4096) (_v : Word) (s : State) : Bool :=
  s.hub.logicRuns && s.hub.wordPowered b word

/-- When `eccUncorrectable` has its effect. R461: memory without power has none. -/
def Sys2Proof.Machine.Can.eccUncorrectable2 (b : Fin 50) (word : Fin 4096) (_v : Word) (s : State) : Bool :=
  !(s.hub.logicRuns && s.hub.wordPowered b word)

/-- When `scrubRead` has its effect. R463: an uncorrectable error is found at each pass; a full pass is counted, with
its longest time. -/
def Sys2Proof.Machine.Can.scrubRead (_b : Fin 50) (_word : Fin 4096) (_us : Option (BitVec 16)) (s : State) : Bool :=
  s.hub.logicRuns

/-- The commands of the memory banks complete, each under the condition and with the result that its clause gives, after
chapter 14. Clause by clause: `bnkOwnerWrite`: R453, R455: the handover is pending, and drains; the owner stays.
`bnkOwnerWrite`: R454: a refused handover shows its result. `bnkOwnerWrite`: R453: a wrong key is counted.
`bnkOwnerWrite`: R453: a ward without authority, or a handover that is pending, changes nothing. `drainComplete`: R455:
without a scrub the owner changes. `drainComplete`: R455: with one the bank is cleared first. `drainComplete`: R455:
with no handover that drains, or an access outstanding, nothing changes. `handoverScrubDone`: R455: the bank is cleared,
and then the owner changes. `handoverScrubDone`: R679: an abandoned one leaves the cleared bank with its giver.
`handoverScrubDone`: R455: a bank that is not being scrubbed stays. `bnkHandedClear`: R456: a write of 1 clears it.
`bnkHandedClear`: R453: a ward without authority changes nothing. `retainWrite`: R457: the flag takes bit 0.
`retainWrite`: R457: another ward changes nothing. `bitSet`: R459: the bits are set in one access. `bitSet`: R459, R461:
a word with an uncorrectable error is left unchanged, and its error found. `bitSet`: R452: another ward's bank, or one
that is not free, does not change. `bitClear`: R459: the bits are cleared in one access. `bitClear`: R459, R461: a word
with an uncorrectable error is left unchanged, and its error found. `bitClear`: R452: another ward's bank, or one that
is not free, does not change. `eccCorrected`: R461: the corrected error is counted; the word reads as it was.
`eccCorrected`: R461: memory without power has none. `eccUncorrectable`: R461: the error is found at the word, which
stays bad until it is written. `eccUncorrectable`: R461: memory without power has none. `scrubRead`: R463: an
uncorrectable error is found at each pass; a full pass is counted, with its longest time. -/
def Obligations.BankCommands : Prop :=
  (∀ (s : State) (w : Fin 8) (b : Fin 48) (v : Word), Can.bnkOwnerWrite w b v s = true → Completes (.bnkOwnerWrite w b v) s (fun h =>
      h.flag BNK_STAT_pending b = true ∧ h.flag BNK_STAT_draining b = true ∧ h.rd BNK_OWNER_to b = bitsOf v.toNat 16 8 ∧ h.flag BNK_OWNER_scrub b = v.getLsbD 8 ∧ h.rd BNK_OWNER_owner b = s.hub.rd BNK_OWNER_owner b ∧ ((h.bank b).hand.map (fun x => (x.target, x.giver, x.scrub))) = some (bitsOf v.toNat 16 8, w.val, v.getLsbD 8 || s.hub.flag BNK_CTRL_scrub_force b))) ∧
  (∀ (s : State) (w : Fin 8) (b : Fin 48) (v : Word), Can.bnkOwnerWrite2 w b v s = true → Completes (.bnkOwnerWrite w b v) s (fun h =>
      h.rd BNK_STAT_result b = s.hub.handRefused w b (bitsOf v.toNat 16 8) ∧ h.flag BNK_STAT_pending b = false ∧ h.rd BNK_OWNER_owner b = s.hub.rd BNK_OWNER_owner b ∧ h.bank b = s.hub.bank b)) ∧
  (∀ (s : State) (w : Fin 8) (b : Fin 48) (v : Word), Can.bnkOwnerWrite3 w b v s = true → Completes (.bnkOwnerWrite w b v) s (fun h =>
      h.rd BNK_REFUSED_wrong_key = satInc (2 ^ BNK_REFUSED_wrong_key.width - 1) (s.hub.rd BNK_REFUSED_wrong_key) ∧ h.rd BNK_OWNER_owner b = s.hub.rd BNK_OWNER_owner b ∧ h.bank b = s.hub.bank b)) ∧
  (∀ (s : State) (w : Fin 8) (b : Fin 48) (v : Word), Can.bnkOwnerWrite4 w b v s = true → Completes (.bnkOwnerWrite w b v) s (fun h =>
      h.regs = s.hub.regs ∧ h.banks = s.hub.banks)) ∧
  (∀ (s : State) (b : Fin 48), Can.drainComplete b s = true → Completes (.drainComplete b) s (fun h =>
      some (h.rd BNK_OWNER_owner b) = (s.hub.bank b).hand.map (fun x => x.target % 256) ∧ h.flag BNK_STAT_pending b = false ∧ h.flag BNK_STAT_draining b = false ∧ h.flag BNK_STAT_handed b = true ∧ h.flag BNK_STAT_scrubbed b = false ∧ h.flag BNK_CTRL_retain b = false ∧ h.rd BNK_STAT_result b = 1 ∧ h.rd BNK_STAT_handovers b = satInc (2 ^ BNK_STAT_handovers.width - 1) (s.hub.rd BNK_STAT_handovers b) ∧ (h.bank b).hand = none ∧ h.mem = s.hub.mem)) ∧
  (∀ (s : State) (b : Fin 48), Can.drainComplete2 b s = true → Completes (.drainComplete b) s (fun h =>
      h.flag BNK_STAT_clearing b = true ∧ h.flag BNK_STAT_draining b = false ∧ h.rd BNK_OWNER_owner b = s.hub.rd BNK_OWNER_owner b ∧ (h.bank b).hand = (s.hub.bank b).hand.map (fun x => { x with scrubbing := true }) ∧ h.mem = s.hub.mem)) ∧
  (∀ (s : State) (b : Fin 48), Can.drainComplete3 b s = true → Completes (.drainComplete b) s (fun h =>
      h.regs = s.hub.regs ∧ h.banks = s.hub.banks ∧ h.mem = s.hub.mem)) ∧
  (∀ (s : State) (b : Fin 48), Can.handoverScrubDone b s = true → Completes (.handoverScrubDone b) s (fun h =>
      some (h.rd BNK_OWNER_owner b) = (s.hub.bank b).hand.map (fun x => x.target % 256) ∧ h.flag BNK_STAT_pending b = false ∧ h.flag BNK_STAT_clearing b = false ∧ h.rd BNK_STAT_result b = 1 ∧ (h.bank b).hand = none ∧ (∀ word : Fin 4096, h.memWord (bankAddr b word) = 0))) ∧
  (∀ (s : State) (b : Fin 48), Can.handoverScrubDone2 b s = true → Completes (.handoverScrubDone b) s (fun h =>
      h.rd BNK_OWNER_owner b = s.hub.rd BNK_OWNER_owner b ∧ h.flag BNK_STAT_pending b = false ∧ some (h.rd BNK_STAT_result b) = ((s.hub.bank b).hand.bind (fun x => x.dropped)).map (fun r => r % 2 ^ BNK_STAT_result.width) ∧ (h.bank b).hand = none ∧ (∀ word : Fin 4096, h.memWord (bankAddr b word) = 0))) ∧
  (∀ (s : State) (b : Fin 48), Can.handoverScrubDone3 b s = true → Completes (.handoverScrubDone b) s (fun h =>
      h.regs = s.hub.regs ∧ h.banks = s.hub.banks ∧ h.mem = s.hub.mem)) ∧
  (∀ (s : State) (w : Fin 8) (b : Fin 48) (v : Word), Can.bnkHandedClear w b v s = true → Completes (.bnkHandedClear w b v) s (fun h =>
      h.flag BNK_STAT_handed b = (s.hub.flag BNK_STAT_handed b && !v.getLsbD 0) ∧ h.mem = s.hub.mem ∧ (v.getLsbD 0 = false → h.regs = s.hub.regs))) ∧
  (∀ (s : State) (w : Fin 8) (b : Fin 48) (v : Word), Can.bnkHandedClear2 w b v s = true → Completes (.bnkHandedClear w b v) s (fun h =>
      h.regs = s.hub.regs)) ∧
  (∀ (s : State) (w : Fin 8) (b : Fin 48) (v : Word), Can.retainWrite w b v s = true → Completes (.retainWrite w b v) s (fun h =>
      h.flag BNK_CTRL_retain b = v.getLsbD 0 ∧ h.mem = s.hub.mem)) ∧
  (∀ (s : State) (w : Fin 8) (b : Fin 48) (v : Word), Can.retainWrite2 w b v s = true → Completes (.retainWrite w b v) s (fun h =>
      h.regs = s.hub.regs)) ∧
  (∀ (s : State) (w : Fin 8) (b : Fin 48) (word : Fin 4096) (v : Word), Can.bitSet w b word v s = true → Completes (.bitSet w b word v) s (fun h =>
      h.memWord (bankAddr b word) = (s.hub.memWord (bankAddr b word) ||| v.toNat) ∧ h.regs = s.hub.regs)) ∧
  (∀ (s : State) (w : Fin 8) (b : Fin 48) (word : Fin 4096) (v : Word), Can.bitSet2 w b word v s = true → Completes (.bitSet w b word v) s (fun h =>
      h.mem = s.hub.mem ∧ h.bad = s.hub.bad ∧ h.rd BNK_ECC_ue b = satInc (2 ^ BNK_ECC_ue.width - 1) (s.hub.rd BNK_ECC_ue b) ∧ h.rd BNK_ECC_ADDR_bank = b.val ∧ h.rd BNK_ECC_ADDR_word = word.val)) ∧
  (∀ (s : State) (w : Fin 8) (b : Fin 48) (word : Fin 4096) (v : Word), Can.bitSet3 w b word v s = true → Completes (.bitSet w b word v) s (fun h =>
      h.mem = s.hub.mem ∧ h.regs = s.hub.regs)) ∧
  (∀ (s : State) (w : Fin 8) (b : Fin 48) (word : Fin 4096) (v : Word), Can.bitClear w b word v s = true → Completes (.bitClear w b word v) s (fun h =>
      h.memWord (bankAddr b word) = clrMask (s.hub.memWord (bankAddr b word)) v.toNat ∧ h.regs = s.hub.regs)) ∧
  (∀ (s : State) (w : Fin 8) (b : Fin 48) (word : Fin 4096) (v : Word), Can.bitClear2 w b word v s = true → Completes (.bitClear w b word v) s (fun h =>
      h.mem = s.hub.mem ∧ h.bad = s.hub.bad ∧ h.rd BNK_ECC_ue b = satInc (2 ^ BNK_ECC_ue.width - 1) (s.hub.rd BNK_ECC_ue b) ∧ h.rd BNK_ECC_ADDR_bank = b.val ∧ h.rd BNK_ECC_ADDR_word = word.val)) ∧
  (∀ (s : State) (w : Fin 8) (b : Fin 48) (word : Fin 4096) (v : Word), Can.bitClear3 w b word v s = true → Completes (.bitClear w b word v) s (fun h =>
      h.mem = s.hub.mem ∧ h.regs = s.hub.regs)) ∧
  (∀ (s : State) (b : Fin 50) (word : Fin 4096), Can.eccCorrected b word s = true → Completes (.eccCorrected b word) s (fun h =>
      (b.val < 48 → h.rd BNK_ECC_ce b = satInc (2 ^ BNK_ECC_ce.width - 1) (s.hub.rd BNK_ECC_ce b)) ∧ (b.val = 48 → h.rd BNK_DP_ECC_dp0_ce = satInc (2 ^ BNK_DP_ECC_dp0_ce.width - 1) (s.hub.rd BNK_DP_ECC_dp0_ce)) ∧ (b.val = 49 → h.rd BNK_DP_ECC_dp1_ce = satInc (2 ^ BNK_DP_ECC_dp1_ce.width - 1) (s.hub.rd BNK_DP_ECC_dp1_ce)) ∧ h.mem = s.hub.mem ∧ h.bad = s.hub.bad)) ∧
  (∀ (s : State) (b : Fin 50) (word : Fin 4096), Can.eccCorrected2 b word s = true → Completes (.eccCorrected b word) s (fun h =>
      h.regs = s.hub.regs ∧ h.mem = s.hub.mem)) ∧
  (∀ (s : State) (b : Fin 50) (word : Fin 4096) (v : Word), Can.eccUncorrectable b word v s = true → Completes (.eccUncorrectable b word v) s (fun h =>
      h.isBad (memAddr b word) = true ∧ h.memWord (memAddr b word) = v.toNat ∧ h.flag BNK_ECC_ADDR_valid = true ∧ h.rd BNK_ECC_ADDR_bank = b.val ∧ h.rd BNK_ECC_ADDR_word = word.val ∧ (b.val < 48 → h.rd BNK_ECC_ue b = satInc (2 ^ BNK_ECC_ue.width - 1) (s.hub.rd BNK_ECC_ue b)))) ∧
  (∀ (s : State) (b : Fin 50) (word : Fin 4096) (v : Word), Can.eccUncorrectable2 b word v s = true → Completes (.eccUncorrectable b word v) s (fun h =>
      h.regs = s.hub.regs ∧ h.mem = s.hub.mem ∧ h.bad = s.hub.bad)) ∧
  (∀ (s : State) (b : Fin 50) (word : Fin 4096) (us : Option (BitVec 16)), Can.scrubRead b word us s = true → Completes (.scrubRead b word us) s (fun h =>
      h.rd BNK_SCRUB_passes = (if us.isSome then satInc (2 ^ BNK_SCRUB_passes.width - 1) (s.hub.rd BNK_SCRUB_passes) else s.hub.rd BNK_SCRUB_passes) ∧ (∀ t ∈ us, h.rd BNK_SCRUB_max_us = max (s.hub.rd BNK_SCRUB_max_us) t.toNat) ∧ h.mem = s.hub.mem ∧ h.bad = s.hub.bad ∧ (s.hub.scrubSkips b = false → s.hub.isBad (memAddr b word) = true → h.flag BNK_ECC_ADDR_valid = true ∧ h.rd BNK_ECC_ADDR_bank = b.val ∧ h.rd BNK_ECC_ADDR_word = word.val)))

/-- When `thermalModelUpdate` has its effect. R100, R473, R475, R479: VHOLD is measured, every node moves toward its
power times its resistance with its time constant, and the sensors hold the readings. -/
def Sys2Proof.Machine.Can.thermalModelUpdate (_v : List (BitVec 16)) (_i : List (BitVec 12)) (_own : BitVec 16) (_vf : BitVec 16) (_vhold : BitVec 16) (_temps : List (BitVec 16)) (s : State) : Bool :=
  s.hub.sup.fieldUp

/-- When `thermWarn` has its effect. R495: THERM_WARN is present at 135 °C on the logic die or 150 °C on the field die,
and ends 20 °C below. -/
def Sys2Proof.Machine.Can.thermWarn (_sensor : Fin 8) (_t : BitVec 16) (s : State) : Bool :=
  s.hub.logicRuns

/-- When `schedulerDecision` has its effect. R479, R727: at a decision the account gains p_avg and loses the measured
power, within the burst. -/
def Sys2Proof.Machine.Can.schedulerDecision (s : State) : Bool :=
  s.hub.logicRuns && s.hub.sup.pd.isNone && (s.hub.runs || s.hub.state == .safe || s.hub.state == .brown) && s.hub.clk.tb % 10000 == 0

/-- When `schedulerDecision` has its effect. R486: with no crossing and no candidate nothing is shed or commanded. -/
def Sys2Proof.Machine.Can.schedulerDecision2 (s : State) : Bool :=
  s.hub.logicRuns && s.hub.sup.pd.isNone && (s.hub.runs || s.hub.state == .safe || s.hub.state == .brown) && s.hub.clk.tb % 10000 == 0 && s.hub.hinge.upL && s.hub.uncrossed && s.hub.sch.queue.isEmpty

/-- When `schedulerDecision` has its effect. R482: a candidate that crosses no limit is admitted, and its channel is
commanded on. -/
def Sys2Proof.Machine.Can.schedulerDecision3 (s : State) : Bool :=
  s.hub.logicRuns && s.hub.sup.pd.isNone && (s.hub.runs || s.hub.state == .safe || s.hub.state == .brown) && s.hub.clk.tb % 10000 == 0 && s.hub.hinge.upL && s.hub.uncrossed && s.hub.sch.queue.length == 1 && s.hub.sch.queue.all (fun x => x.kind == CandKind.turnOn && !s.hub.flag OUT_STAT_safe_hold x.ref && (s.hub.clear.judgeCand x).1)

/-- When `schedulerDecision` has its effect. R482: so is one to off, where off is not the safe state. -/
def Sys2Proof.Machine.Can.schedulerDecision4 (s : State) : Bool :=
  s.hub.logicRuns && s.hub.sup.pd.isNone && (s.hub.runs || s.hub.state == .safe || s.hub.state == .brown) && s.hub.clk.tb % 10000 == 0 && s.hub.hinge.upL && s.hub.uncrossed && s.hub.sch.queue.length == 1 && s.hub.sch.queue.all (fun x => x.kind == CandKind.turnOff && !s.hub.flag OUT_STAT_safe_hold x.ref && (s.hub.clear.judgeCand x).1)

/-- When `schedulerDecision` has its effect. R490: a restore ends the shed and commands the channel on. -/
def Sys2Proof.Machine.Can.schedulerDecision5 (s : State) : Bool :=
  s.hub.logicRuns && s.hub.sup.pd.isNone && (s.hub.runs || s.hub.state == .safe || s.hub.state == .brown) && s.hub.clk.tb % 10000 == 0 && s.hub.hinge.upL && s.hub.uncrossed && s.hub.sch.queue.length == 1 && s.hub.sch.queue.all (fun x => x.kind == CandKind.restore && s.hub.restorable x.ref && (s.hub.clear.judgeCand x).1)

/-- When `schedulerDecision` has its effect. R482, R504: a candidate that breaks a rule stays in the queue and is
counted for its ward with the rules it broke. -/
def Sys2Proof.Machine.Can.schedulerDecision6 (s : State) : Bool :=
  s.hub.logicRuns && s.hub.sup.pd.isNone && (s.hub.runs || s.hub.state == .safe || s.hub.state == .brown) && s.hub.clk.tb % 10000 == 0 && s.hub.hinge.upL && s.hub.uncrossed && s.hub.sch.queue.length == 1 && s.hub.sch.queue.all (fun x => x.kind == CandKind.turnOn && decide (x.ward < 8) && !(s.hub.clear.judgeCand x).1 && (s.hub.clear.candDomains x).isEmpty)

/-- When `schedulerDecision` has its effect. R486, R488: the channel chosen is commanded off and marked shed; its
command bit stays, and a restore waits. -/
def Sys2Proof.Machine.Can.schedulerDecision7 (s : State) : Bool :=
  s.hub.logicRuns && s.hub.sup.pd.isNone && (s.hub.runs || s.hub.state == .safe || s.hub.state == .brown) && s.hub.clk.tb % 10000 == 0 && s.hub.hinge.upL && (List.range 16).all (fun c => !(s.hub.out c).limiting) && (s.hub.prune.account.shedPick s.hub.prune.account.crossings).isSome && s.hub.sch.queue.isEmpty

/-- When `schedulerDecision` has its effect. R489: a crossing for which no channel can be shed raises SCH_OVER. -/
def Sys2Proof.Machine.Can.schedulerDecision8 (s : State) : Bool :=
  s.hub.logicRuns && s.hub.sup.pd.isNone && (s.hub.runs || s.hub.state == .safe || s.hub.state == .brown) && s.hub.clk.tb % 10000 == 0 && s.hub.hinge.upL && (List.range 16).all (fun c => !(s.hub.out c).limiting) && !s.hub.uncrossed && (s.hub.prune.account.showVfCross.shedPick s.hub.prune.account.showVfCross.crossings).isNone && !s.hub.prune.account.showVfCross.crossings.isEmpty && s.hub.sch.queue.isEmpty

/-- When `schedulerDecision` has its effect. R727: between the multiples of 100 µs none is made. -/
def Sys2Proof.Machine.Can.schedulerDecision9 (s : State) : Bool :=
  !s.hub.logicRuns || s.hub.sup.pd.isSome || s.hub.clk.tb % 10000 != 0

/-- When `eraseDayBoundary` has its effect. R485: a new day's erases count from 0. -/
def Sys2Proof.Machine.Can.eraseDayBoundary (s : State) : Bool :=
  s.hub.clk.tb / (86400 * Config.ticksPerS) != s.hub.sch.day

/-- When `eraseDayBoundary` has its effect. R485: within a day they go on. -/
def Sys2Proof.Machine.Can.eraseDayBoundary2 (s : State) : Bool :=
  s.hub.clk.tb / (86400 * Config.ticksPerS) == s.hub.sch.day

/-- When `schRtWrite` has its effect. R497: the trims are taken, and never looser than the Blank's figures. -/
def Sys2Proof.Machine.Can.schRtWrite (w : Fin 8) (_v : Word) (s : State) : Bool :=
  s.hub.writable w && bitOf (s.hub.rd WRD_EXP_OPEN_open w) 3

/-- When `schRtWrite` has its effect. R371, R497: with page 3 closed the trims stay. -/
def Sys2Proof.Machine.Can.schRtWrite2 (w : Fin 8) (_v : Word) (s : State) : Bool :=
  !(s.hub.writable w && bitOf (s.hub.rd WRD_EXP_OPEN_open w) 3)

/-- The commands of the thermal model and of the budget scheduler complete, each under the condition and with the result
that its clause gives, after R473 to R497. Clause by clause: `thermalModelUpdate`: R100, R473, R475, R479: VHOLD is
measured, every node moves toward its power times its resistance with its time constant, and the sensors hold the
readings. `thermWarn`: R495: THERM_WARN is present at 135 °C on the logic die or 150 °C on the field die, and ends 20 °C
below. `schedulerDecision`: R479, R727: at a decision the account gains p_avg and loses the measured power, within the
burst. `schedulerDecision`: R486: with no crossing and no candidate nothing is shed or commanded. `schedulerDecision`:
R482: a candidate that crosses no limit is admitted, and its channel is commanded on. `schedulerDecision`: R482: so is
one to off, where off is not the safe state. `schedulerDecision`: R490: a restore ends the shed and commands the channel
on. `schedulerDecision`: R482, R504: a candidate that breaks a rule stays in the queue and is counted for its ward with
the rules it broke. `schedulerDecision`: R486, R488: the channel chosen is commanded off and marked shed; its command
bit stays, and a restore waits. `schedulerDecision`: R489: a crossing for which no channel can be shed raises SCH_OVER.
`schedulerDecision`: R727: between the multiples of 100 µs none is made. `eraseDayBoundary`: R485: a new day's erases
count from 0. `eraseDayBoundary`: R485: within a day they go on. `schRtWrite`: R497: the trims are taken, and never
looser than the Blank's figures. `schRtWrite`: R371, R497: with page 3 closed the trims stay. -/
def Obligations.SchedulerCommands : Prop :=
  (∀ (s : State) (v : List (BitVec 16)) (i : List (BitVec 12)) (own : BitVec 16) (vf : BitVec 16) (vhold : BitVec 16) (temps : List (BitVec 16)), Can.thermalModelUpdate v i own vf vhold temps s = true → Completes (.thermalModelUpdate v i own ⟨vf, vhold⟩ temps) s (fun h =>
      (∀ c : Fin 16, vget h.sch.rise1 c 0 = nodeRise (vget h.sch.power c 0 * s.hub.rd SCH_MODEL0_r1 / 10) (vget s.hub.sch.rise1 c 0) (expNeg 1 (max 1 (s.hub.rd SCH_MODEL1_tau1))) ∧
          vget h.sch.rise2 c 0 = nodeRise (vget h.sch.power c 0 * s.hub.rd SCH_MODEL0_r2 / 10) (vget s.hub.sch.rise2 c 0) (expNeg 1 (10 * max 1 (s.hub.rd SCH_MODEL1_tau2))) ∧
          (s.hub.fIsOut c = true → vget h.sch.vfPower c 0 = vf.toNat * (i.map BitVec.toNat).getD c 0 / 128)) ∧
        (∀ g : Fin 4, vget h.sch.rise3 g 0 = nodeRise ((vget h.sch.power (4 * g.val) 0 + vget h.sch.power (4 * g.val + 1) 0 + vget h.sch.power (4 * g.val + 2) 0 + vget h.sch.power (4 * g.val + 3) 0) * s.hub.rd SCH_MODEL0_r3 / 10) (vget s.hub.sch.rise3 g 0) (expNeg 1 (100 * max 1 (s.hub.rd SCH_MODEL1_tau3)))) ∧
        (∀ k : Fin 8, ∀ t ∈ temps[k]?.toList, vget h.sch.temps k 0 = t.toInt) ∧ (s.hub.hinge.upL = true → h.rd PWR_VF_vf = vf.toNat) ∧ (s.hub.logicRuns = true → s.hub.sup.pd = none → h.sup.vhold = vhold.toNat ∧ h.rd PWR_HOLD_STAT_vhold = vhold.toNat / 10 % 2 ^ PWR_HOLD_STAT_vhold.width) ∧ h.mem = s.hub.mem)) ∧
  (∀ (s : State) (sensor : Fin 8) (t : BitVec 16), Can.thermWarn sensor t s = true → Completes (.thermWarn sensor t) s (fun h =>
      h.flag SCH_STAT_warn = (h.sch.dieHot || h.sch.fieldHot) ∧ (s.hub.proofHides 44 16 = false → caused h 44 16 = h.flag SCH_STAT_warn) ∧ (6 ≤ sensor.val → 1080 ≤ t.toInt → h.sch.dieHot = true) ∧ (sensor.val < 6 → s.hub.hinge.upL = true → 1200 ≤ t.toInt → h.sch.fieldHot = true) ∧ (h.logicTemp ≤ 920 → h.sch.dieHot = false))) ∧
  (∀ (s : State), Can.schedulerDecision s = true → Completes (.schedulerDecision) s (fun h =>
      h.sch.account = (if s.hub.pAvg = 0 then s.hub.sch.account else max (-1000000 * (s.hub.rd SCH_VF_BUD_burst : Int)) (min (1000000 * (s.hub.rd SCH_VF_BUD_burst : Int)) (s.hub.sch.account + 100 * (s.hub.rd SCH_VF_BUD_p_avg : Int) - s.hub.pMeas))) ∧ h.rd SCH_VF_STAT_p_meas = min 65535 (s.hub.pMeas / 100))) ∧
  (∀ (s : State), Can.schedulerDecision2 s = true → Completes (.schedulerDecision) s (fun h =>
      h.flag SCH_STAT_over = false ∧ h.rd SCH_SHED_total = s.hub.rd SCH_SHED_total ∧ h.sch.queue = [] ∧ caused h 43 16 = false ∧ h.hinge.cmd = s.hub.hinge.cmd)) ∧
  (∀ (s : State), Can.schedulerDecision3 s = true → Completes (.schedulerDecision) s (fun h =>
      (∀ x ∈ s.hub.sch.queue, (s.hub.chSet x.ref).all (fun c => vget h.hinge.cmd c 0 == 1) = true ∧ h.flag OUT_STAT_pending x.ref = false) ∧ h.sch.queue = [] ∧ h.flag SCH_STAT_over = false ∧ (∀ c : Fin 16, (h.out c).latched = (s.hub.out c).latched))) ∧
  (∀ (s : State), Can.schedulerDecision4 s = true → Completes (.schedulerDecision) s (fun h =>
      (∀ x ∈ s.hub.sch.queue, (s.hub.chSet x.ref).all (fun c => vget h.hinge.cmd c 0 == 0) = true ∧ h.flag OUT_STAT_pending x.ref = false) ∧ h.sch.queue = [] ∧ h.flag SCH_STAT_over = false ∧ (∀ c : Fin 16, (h.out c).latched = (s.hub.out c).latched))) ∧
  (∀ (s : State), Can.schedulerDecision5 s = true → Completes (.schedulerDecision) s (fun h =>
      (∀ x ∈ s.hub.sch.queue, (s.hub.chSet x.ref).all (fun c => vget h.hinge.cmd c 0 == 1) = true ∧ h.flag OUT_STAT_shed x.ref = false) ∧ h.sch.queue = [] ∧ h.flag SCH_STAT_over = false ∧ (∀ c : Fin 16, (h.out c).latched = (s.hub.out c).latched))) ∧
  (∀ (s : State), Can.schedulerDecision6 s = true → Completes (.schedulerDecision) s (fun h =>
      h.sch.queue = s.hub.sch.queue ∧ (∀ x ∈ s.hub.sch.queue, h.rd SCH_WDEFER_count x.ward = (s.hub.rd SCH_WDEFER_count x.ward + 1) % 2 ^ 32 ∧ h.rd SCH_WSTAT_reason x.ward = (s.hub.clear.judgeCand x).2.1) ∧ h.hinge.cmd = s.hub.hinge.cmd)) ∧
  (∀ (s : State), Can.schedulerDecision7 s = true → Completes (.schedulerDecision) s (fun h =>
      h.rd SCH_SHED_total = satInc (2 ^ SCH_SHED_total.width - 1) (s.hub.rd SCH_SHED_total) ∧ (∀ y ∈ s.hub.prune.account.shedPick s.hub.prune.account.crossings, h.flag OUT_STAT_shed y.1 = true ∧ vget h.hinge.cmd y.1 0 = 0 ∧ h.flag OUT_CTRL_on y.1 = s.hub.flag OUT_CTRL_on y.1 ∧ h.sch.queue.map (fun x => (x.kind, x.ref)) = [(CandKind.restore, y.1)]))) ∧
  (∀ (s : State), Can.schedulerDecision8 s = true → Completes (.schedulerDecision) s (fun h =>
      h.flag SCH_STAT_over = true ∧ h.rd SCH_SHED_total = s.hub.rd SCH_SHED_total ∧ (s.hub.proofHides 43 16 = false → caused h 43 16 = true) ∧ h.hinge.cmd = s.hub.hinge.cmd)) ∧
  (∀ (s : State), Can.schedulerDecision9 s = true → Completes (.schedulerDecision) s (fun h =>
      h.sch = s.hub.sch ∧ h.regs = s.hub.regs ∧ h.hinge.cmd = s.hub.hinge.cmd)) ∧
  (∀ (s : State), Can.eraseDayBoundary s = true → Completes (.eraseDayBoundary) s (fun h =>
      (∀ k : Fin 32, vget h.sch.erases k 0 = 0) ∧ h.sch.day = s.hub.clk.tb / (86400 * Config.ticksPerS) ∧ h.sch.queue = s.hub.sch.queue ∧ h.regs = s.hub.regs ∧ h.nvm = s.hub.nvm)) ∧
  (∀ (s : State), Can.eraseDayBoundary2 s = true → Completes (.eraseDayBoundary) s (fun h =>
      h.sch = s.hub.sch ∧ h.regs = s.hub.regs)) ∧
  (∀ (s : State) (w : Fin 8) (v : Word), Can.schRtWrite w v s = true → Completes (.schRtWrite w v) s (fun h =>
      h.rd SCH_RT_tj_soft_rt w = (if v.toNat % 256 = 0 then 0 else min (v.toNat % 256) (s.hub.rd SCH_TLIM_tj_soft)) ∧ h.rd SCH_RT_stagger_rt w = (if bitsOf v.toNat 8 6 = 0 then 0 else max (bitsOf v.toNat 8 6) (s.hub.rd SCH_CFG_stagger_ms)) ∧ h.sch = s.hub.sch)) ∧
  (∀ (s : State) (w : Fin 8) (v : Word), Can.schRtWrite2 w v s = true → Completes (.schRtWrite w v) s (fun h =>
      h.regs = s.hub.regs ∧ h.sch = s.hub.sch))

/-- When `heartbeatSend` has its effect. R508: the counter goes up by one modulo 256, and the heartbeat goes out with
it. -/
def Sys2Proof.Machine.Can.heartbeatSend (field : Bool) (s : State) : Bool :=
  s.hub.halfRuns field

/-- When `heartbeatSend` has its effect. R507: a half that does not run sends none. -/
def Sys2Proof.Machine.Can.heartbeatSend2 (field : Bool) (s : State) : Bool :=
  !s.hub.halfRuns field

/-- When `hbReceive` has its effect. R509, R510: a valid heartbeat is taken. -/
def Sys2Proof.Machine.Can.hbReceive (field : Bool) (payload : BitVec 40) (_stamp : Word) (s : State) : Bool :=
  s.hub.halfRuns field && payload.toNat % 2 ^ 16 == crc16 (sealBytes payload.toNat) && decide (((s.hub.half field).sent + 256 - bitsOf payload.toNat 24 8) % 256 < 16)

/-- When `hbReceive` has its effect. R509: an invalid one is counted; the fourth in a row is DBT_HB. -/
def Sys2Proof.Machine.Can.hbReceive2 (field : Bool) (payload : BitVec 40) (_stamp : Word) (s : State) : Bool :=
  s.hub.halfRuns field && !(payload.toNat % 2 ^ 16 == crc16 (sealBytes payload.toNat) && decide (((s.hub.half field).sent + 256 - bitsOf payload.toNat 24 8) % 256 < 16))

/-- When `heartbeatLoss` has its effect. R509: no valid heartbeat has come in time; DA raises DBT_HB. -/
def Sys2Proof.Machine.Can.heartbeatLoss (field : Bool) (s : State) : Bool :=
  s.hub.halfRuns field && (if field then s.hub.hinge.upF else s.hub.hinge.upL) && decide ((s.hub.half field).heardAt + (s.hub.rd DBT_TIME_hb_us - 40) * Config.ticksPerUs ≤ s.hub.clk.now)

/-- When `heartbeatLoss` has its effect. R509: before the time, or with the link lost, none is found. -/
def Sys2Proof.Machine.Can.heartbeatLoss2 (field : Bool) (s : State) : Bool :=
  !(s.hub.halfRuns field && (if field then s.hub.hinge.upF else s.hub.hinge.upL) && decide ((s.hub.half field).heardAt + (s.hub.rd DBT_TIME_hb_us - 40) * Config.ticksPerUs ≤ s.hub.clk.now))

/-- When `soscBLoss` has its effect. R507: FHOLD ends and every channel is held at its safe state. -/
def Sys2Proof.Machine.Can.soscBLoss (s : State) : Bool :=
  s.hub.sup.fieldUp && !s.hub.dbt.clockLost

/-- When `soscBLoss` has its effect. R507: once lost it changes nothing more. -/
def Sys2Proof.Machine.Can.soscBLoss2 (s : State) : Bool :=
  !s.hub.sup.fieldUp || s.hub.dbt.clockLost

/-- When `adcComparison` has its effect. R511: a difference orders a re-measurement; an agreement ends a difference. -/
def Sys2Proof.Machine.Can.adcComparison (_q : Fin 64) (_kind : Fin 4) (_a : Word) (_b : Word) (s : State) : Bool :=
  s.hub.halfRuns true

/-- When `adcComparison` has its effect. R507: without the field die none is made. -/
def Sys2Proof.Machine.Can.adcComparison2 (_q : Fin 64) (_kind : Fin 4) (_a : Word) (_b : Word) (s : State) : Bool :=
  !s.hub.halfRuns true

/-- When `adcConfirm` has its effect. R511: a confirmed difference is ADC_DIS; a proof of it hides it. -/
def Sys2Proof.Machine.Can.adcConfirm (q : Fin 64) (_kind : Fin 4) (_a : Word) (_b : Word) (s : State) : Bool :=
  s.hub.halfRuns true && bitOf s.hub.dbt.adcPending q

/-- When `adcConfirm` has its effect. R511: none is ordered without a difference. -/
def Sys2Proof.Machine.Can.adcConfirm2 (q : Fin 64) (_kind : Fin 4) (_a : Word) (_b : Word) (s : State) : Bool :=
  !(s.hub.halfRuns true && bitOf s.hub.dbt.adcPending q)

/-- When `tempComparison` has its effect. R511: more than 4 °C on a field sensor, or 6 °C on the logic die, over a whole
window is a disagreement, until the readings agree. -/
def Sys2Proof.Machine.Can.tempComparison (sensor : Fin 7) (_a : BitVec 16) (_b : BitVec 16) (s : State) : Bool :=
  if sensor.val < 6 then s.hub.halfRuns true else s.hub.logicRuns

/-- When `tempComparison` has its effect. R507: a half that does not run compares none. -/
def Sys2Proof.Machine.Can.tempComparison2 (sensor : Fin 7) (_a : BitVec 16) (_b : BitVec 16) (s : State) : Bool :=
  !(if sensor.val < 6 then s.hub.halfRuns true else s.hub.logicRuns)

/-- The commands of Deadbolt's heartbeats and comparisons complete, each under the condition and with the result that
its clause gives, after R507 to R511. Clause by clause: `heartbeatSend`: R508: the counter goes up by one modulo 256,
and the heartbeat goes out with it. `heartbeatSend`: R507: a half that does not run sends none. `hbReceive`: R509, R510:
a valid heartbeat is taken. `hbReceive`: R509: an invalid one is counted; the fourth in a row is DBT_HB.
`heartbeatLoss`: R509: no valid heartbeat has come in time; DA raises DBT_HB. `heartbeatLoss`: R509: before the time, or
with the link lost, none is found. `soscBLoss`: R507: FHOLD ends and every channel is held at its safe state.
`soscBLoss`: R507: once lost it changes nothing more. `adcComparison`: R511: a difference orders a re-measurement; an
agreement ends a difference. `adcComparison`: R507: without the field die none is made. `adcConfirm`: R511: a confirmed
difference is ADC_DIS; a proof of it hides it. `adcConfirm`: R511: none is ordered without a difference.
`tempComparison`: R511: more than 4 °C on a field sensor, or 6 °C on the logic die, over a whole window is a
disagreement, until the readings agree. `tempComparison`: R507: a half that does not run compares none. -/
def Obligations.HeartbeatCommands : Prop :=
  (∀ (s : State) (field : Bool), Can.heartbeatSend field s = true → Completes (.heartbeatSend field) s (fun h =>
      (h.half field).sent = ((s.hub.half field).sent + 1) % 256 ∧ (h.half field).heard = (s.hub.half field).heard ∧ (field = false → h.rd DBT_HB_da_cnt = (h.half false).sent) ∧ (field = true → s.hub.hinge.upF = true → h.hinge.txF.any (fun x => x.typ == 0x31 && x.payload == s.hub.hbPayload true (h.half true).sent) = true) ∧ (field = false → s.hub.hinge.upL = true → h.hinge.txL.any (fun x => x.typ == 0x30 && x.payload == s.hub.hbPayload false (h.half false).sent) = true))) ∧
  (∀ (s : State) (field : Bool), Can.heartbeatSend2 field s = true → Completes (.heartbeatSend field) s (fun h =>
      h.dbt = s.hub.dbt ∧ h.regs = s.hub.regs ∧ h.hinge = s.hub.hinge)) ∧
  (∀ (s : State) (field : Bool) (payload : BitVec 40) (stamp : Word), Can.hbReceive field payload stamp s = true → Completes (.hbReceive field payload stamp) s (fun h =>
      (h.half field).heard = bitsOf payload.toNat 32 8 ∧ (h.half field).any = true ∧ (h.half field).badRun = 0 ∧ (h.half field).heardAt = s.hub.clk.now ∧ (h.half field).arrivals = (if (s.hub.half field).any = true ∧ bitsOf payload.toNat 32 8 = ((s.hub.half field).heard + 1) % 256 then (stamp.toNat :: (s.hub.half field).arrivals).take 50 else [stamp.toNat]) ∧ (field = false → h.rd DBT_HB_db_cnt = bitsOf payload.toNat 32 8))) ∧
  (∀ (s : State) (field : Bool) (payload : BitVec 40) (stamp : Word), Can.hbReceive2 field payload stamp s = true → Completes (.hbReceive field payload stamp) s (fun h =>
      (h.half field).heard = (s.hub.half field).heard ∧ (h.half field).any = (s.hub.half field).any ∧ (h.half field).badRun = (s.hub.half field).badRun + 1 ∧ (field = false → s.hub.hbHidden false = false → h.rd DBT_HB_invalid = satInc (2 ^ DBT_HB_invalid.width - 1) (s.hub.rd DBT_HB_invalid)) ∧ ((s.hub.half field).badRun = 3 → field = false → s.hub.hbHidden false = false → s.hub.fieldReset < 3 → s.hub.proofHides 46 18 = false → caused h 46 18 = true))) ∧
  (∀ (s : State) (field : Bool), Can.heartbeatLoss field s = true → Completes (.heartbeatLoss field) s (fun h =>
      (h.half field).any = false ∧ (h.half field).arrivals = [] ∧ h.flag DBT_STAT_hb_ok = false ∧ (field = false → s.hub.hbHidden false = false → s.hub.fieldReset < 3 → s.hub.proofHides 46 18 = false → caused h 46 18 = true))) ∧
  (∀ (s : State) (field : Bool), Can.heartbeatLoss2 field s = true → Completes (.heartbeatLoss field) s (fun h =>
      h.dbt = s.hub.dbt ∧ h.regs = s.hub.regs)) ∧
  (∀ (s : State), Can.soscBLoss s = true → Completes (.soscBLoss) s (fun h =>
      h.dbt.clockLost = true ∧ h.hinge.fholdSince = none ∧ (∀ c : Fin 16, s.hub.fIsOut c = true → (h.out c).atSafe = true))) ∧
  (∀ (s : State), Can.soscBLoss2 s = true → Completes (.soscBLoss) s (fun h =>
      h.dbt = s.hub.dbt ∧ h.outs = s.hub.outs ∧ h.regs = s.hub.regs)) ∧
  (∀ (s : State) (q : Fin 64) (kind : Fin 4) (a : Word) (b : Word), Can.adcComparison q kind a b s = true → Completes (.adcComparison q kind a b) s (fun h =>
      bitOf h.dbt.adcPending q = adcDiffers kind a.toNat b.toNat ∧ (adcDiffers kind a.toNat b.toNat = false → bitOf h.dbt.adcBad q = false) ∧ (adcDiffers kind a.toNat b.toNat = true → h.dbt.adcBad = s.hub.dbt.adcBad) ∧ h.outs = s.hub.outs)) ∧
  (∀ (s : State) (q : Fin 64) (kind : Fin 4) (a : Word) (b : Word), Can.adcComparison2 q kind a b s = true → Completes (.adcComparison q kind a b) s (fun h =>
      h.dbt = s.hub.dbt ∧ h.flt.fLive = s.hub.flt.fLive)) ∧
  (∀ (s : State) (q : Fin 64) (kind : Fin 4) (a : Word) (b : Word), Can.adcConfirm q kind a b s = true → Completes (.adcConfirm q kind a b) s (fun h =>
      bitOf h.dbt.adcPending q = false ∧ (s.hub.fHidden 30 16 = false → bitOf h.dbt.adcBad q = (adcDiffers kind a.toNat b.toNat || bitOf s.hub.dbt.adcBad q) ∧ (adcDiffers kind a.toNat b.toNat = true → bitOf (vget h.flt.fLive 30 0) 16 = true)) ∧ (s.hub.fHidden 30 16 = true → h.dbt.adcBad = s.hub.dbt.adcBad))) ∧
  (∀ (s : State) (q : Fin 64) (kind : Fin 4) (a : Word) (b : Word), Can.adcConfirm2 q kind a b s = true → Completes (.adcConfirm q kind a b) s (fun h =>
      h.dbt = s.hub.dbt ∧ h.flt.fLive = s.hub.flt.fLive)) ∧
  (∀ (s : State) (sensor : Fin 7) (a : BitVec 16) (b : BitVec 16), Can.tempComparison sensor a b s = true → Completes (.tempComparison sensor a b) s (fun h =>
      vget h.dbt.tempSince sensor none = (if (a.toInt - b.toInt).natAbs ≤ (if sensor.val < 6 then 32 else 48) then none else some ((vget s.hub.dbt.tempSince sensor none).getD s.hub.clk.now)) ∧ (sensor.val < 6 → s.hub.fHidden 31 16 = false → bitOf h.dbt.badSensors sensor = (decide ((if sensor.val < 6 then 32 else 48) < (a.toInt - b.toInt).natAbs) && (bitOf s.hub.dbt.badSensors sensor || decide ((vget s.hub.dbt.tempSince sensor none).getD s.hub.clk.now + s.hub.rd DBT_TIME_tsens_ms * Config.ticksPerMs ≤ s.hub.clk.now)))) ∧ (sensor.val = 6 → s.hub.proofHides 48 18 = false → caused h 48 18 = (decide ((if sensor.val < 6 then 32 else 48) < (a.toInt - b.toInt).natAbs) && (caused s.hub 48 18 || decide ((vget s.hub.dbt.tempSince sensor none).getD s.hub.clk.now + s.hub.rd DBT_TIME_tsens_ms * Config.ticksPerMs ≤ s.hub.clk.now)))))) ∧
  (∀ (s : State) (sensor : Fin 7) (a : BitVec 16) (b : BitVec 16), Can.tempComparison2 sensor a b s = true → Completes (.tempComparison sensor a b) s (fun h =>
      h.dbt = s.hub.dbt ∧ h.regs = s.hub.regs))

/-- When `proofStart` has its effect. R520, R522: a new rotation begins with the instance of mechanism 0. -/
def Sys2Proof.Machine.Can.proofStart (s : State) : Bool :=
  s.hub.provesNow && s.hub.dbt.nextNow.isNone && s.hub.dbt.reproof.isEmpty && !s.hub.dbt.paused && s.hub.rotationDue && s.hub.dbt.todo.isEmpty && !s.hub.proofSkipped 0 0

/-- When `proofStart` has its effect. R520: the next instance of the rotation is proved. -/
def Sys2Proof.Machine.Can.proofStart2 (s : State) : Bool :=
  s.hub.provesNow && s.hub.dbt.nextNow.isNone && s.hub.dbt.reproof.isEmpty && !s.hub.dbt.paused && s.hub.rotationDue && s.hub.dbt.todo.head?.any (fun x => s.hub.instances.contains x && !s.hub.proofSkipped x.1 x.2)

/-- When `proofStart` has its effect. R522, R524: an instance that is paused or faulty is skipped; with the last of them
the rotation is counted. -/
def Sys2Proof.Machine.Can.proofStart3 (s : State) : Bool :=
  s.hub.provesNow && s.hub.dbt.nextNow.isNone && s.hub.dbt.reproof.isEmpty && !s.hub.dbt.paused && s.hub.rotationDue && s.hub.dbt.todo.head?.any (fun x => !s.hub.instances.contains x || s.hub.proofSkipped x.1 x.2)

/-- When `proofStart` has its effect. R523: the instance that W0 named comes before the rotation. -/
def Sys2Proof.Machine.Can.proofStart4 (s : State) : Bool :=
  s.hub.provesNow && !s.hub.dbt.reproof.any (fun x => s.hub.instances.contains x && !s.hub.proofSkipped x.1 x.2) && s.hub.dbt.nextNow.any (fun x => s.hub.instances.contains x && !s.hub.proofSkipped x.1 x.2)

/-- When `proofStart` has its effect. R517: one marked for re-proof comes before any other. -/
def Sys2Proof.Machine.Can.proofStart5 (s : State) : Bool :=
  s.hub.provesNow && (s.hub.dbt.reproof.find? (fun x => s.hub.instances.contains x && !s.hub.proofSkipped x.1 x.2)).isSome

/-- When `proofStart` has its effect. R522, R523: while the rotation is paused or not due, or in a state without proofs,
none begins. -/
def Sys2Proof.Machine.Can.proofStart6 (s : State) : Bool :=
  !s.hub.provesNow || (s.hub.dbt.nextNow.isNone && s.hub.dbt.reproof.isEmpty && (s.hub.dbt.paused || !s.hub.rotationDue))

/-- When `proofDetect` has its effect. R521, R528: a detection within the budget passes, is shown and counted, and opens
the re-check window. -/
def Sys2Proof.Machine.Can.proofDetect (ticks : Word) (s : State) : Bool :=
  s.hub.dbt.proof.any (fun p => p.forced && decide (ticks.toNat ≤ s.hub.budget p.mech p.inst))

/-- When `proofDetect` has its effect. R521: a detection after the budget fails the proof, with PROOF_FAIL. -/
def Sys2Proof.Machine.Can.proofDetect2 (ticks : Word) (s : State) : Bool :=
  s.hub.dbt.proof.any (fun p => p.forced && decide (s.hub.budget p.mech p.inst < ticks.toNat) && decide (ticks.toNat ≤ 2 * s.hub.budget p.mech p.inst))

/-- When `proofDetect` has its effect. R521: without a force there is no detection. -/
def Sys2Proof.Machine.Can.proofDetect3 (ticks : Word) (s : State) : Bool :=
  !s.hub.dbt.proof.any (fun p => p.forced && decide (ticks.toNat ≤ 2 * s.hub.budget p.mech p.inst))

/-- When `proofTimeout` has its effect. R521: no detection by twice the budget fails the proof. -/
def Sys2Proof.Machine.Can.proofTimeout (s : State) : Bool :=
  s.hub.dbt.proof.any (fun p => p.forced && decide (p.since + 2 * s.hub.budget p.mech p.inst ≤ s.hub.clk.now))

/-- When `proofTimeout` has its effect. R521: before that none fails so. -/
def Sys2Proof.Machine.Can.proofTimeout2 (s : State) : Bool :=
  !s.hub.dbt.proof.any (fun p => p.forced && decide (p.since + 2 * s.hub.budget p.mech p.inst ≤ s.hub.clk.now))

/-- When `recheckEnd` has its effect. R524, R528: with the condition absent the window ends without a reaction; the last
of a rotation counts it. -/
def Sys2Proof.Machine.Can.recheckEnd (present : Bool) (s : State) : Bool :=
  s.hub.dbt.proof.any (fun p => !p.forced && decide (p.since + 2 * p.ticks ≤ s.hub.clk.now)) && !present

/-- When `recheckEnd` has its effect. R528: with the condition present its source is raised with its full reaction; of
mechanism 0, MCLK_FAIL. -/
def Sys2Proof.Machine.Can.recheckEnd2 (present : Bool) (s : State) : Bool :=
  s.hub.dbt.proof.any (fun p => !p.forced && decide (p.since + 2 * p.ticks ≤ s.hub.clk.now) && p.mech == 0) && present

/-- When `recheckEnd` has its effect. R528: of the logic die's sensors, TSENS_DIS. -/
def Sys2Proof.Machine.Can.recheckEnd3 (present : Bool) (s : State) : Bool :=
  s.hub.dbt.proof.any (fun p => !p.forced && decide (p.since + 2 * p.ticks ≤ s.hub.clk.now) && p.mech == 12 && p.inst == 1) && present

/-- When `recheckEnd` has its effect. R528: the window lasts twice the measured time. -/
def Sys2Proof.Machine.Can.recheckEnd4 (_present : Bool) (s : State) : Bool :=
  !s.hub.dbt.proof.any (fun p => !p.forced && decide (p.since + 2 * p.ticks ≤ s.hub.clk.now))

/-- When `proofOverdue` has its effect. R522: an instance at 24 h since its last passing proof is overdue, once. -/
def Sys2Proof.Machine.Can.proofOverdue (mech : Fin 16) (inst : Fin 16) (s : State) : Bool :=
  s.hub.dev.phase == .up && s.hub.dev.halt.isNone && s.hub.instances.contains (mech.val, inst.val) && s.hub.dbt.ages.any (fun a => a.mech == mech.val && a.inst == inst.val && !a.overdue && decide (86400 * Config.ticksPerS ≤ a.age))

/-- When `proofOverdue` has its effect. R522: before 24 h it is not. -/
def Sys2Proof.Machine.Can.proofOverdue2 (mech : Fin 16) (inst : Fin 16) (s : State) : Bool :=
  !(s.hub.dev.phase == .up && s.hub.dev.halt.isNone && s.hub.instances.contains (mech.val, inst.val) && s.hub.dbt.ages.any (fun a => a.mech == mech.val && a.inst == inst.val && !a.overdue && decide (86400 * Config.ticksPerS ≤ a.age)))

/-- When `proofNow` has its effect. R523: W0 names the instance to prove next. -/
def Sys2Proof.Machine.Can.proofNow (w : Fin 8) (v : Word) (s : State) : Bool :=
  s.hub.writable w && w.val == 0 && bitOf (s.hub.rd WRD_EXP_OPEN_open 0) 1 && v.toNat / 2 ^ 16 == 0x5052 && v.getLsbD 9

/-- When `proofNow` has its effect. R371, R523: without the page or the key nothing is ordered. -/
def Sys2Proof.Machine.Can.proofNow2 (w : Fin 8) (v : Word) (s : State) : Bool :=
  !(s.hub.writable w && w.val == 0 && bitOf (s.hub.rd WRD_EXP_OPEN_open 0) 1 && v.toNat / 2 ^ 16 == 0x5052)

/-- When `proofPause` has its effect. R523: the rotation is paused for 1 to 60 minutes. -/
def Sys2Proof.Machine.Can.proofPause (w : Fin 8) (v : Word) (s : State) : Bool :=
  s.hub.writable w && w.val == 0 && bitOf (s.hub.rd WRD_EXP_OPEN_open 0) 1 && v.toNat / 2 ^ 16 == 0x5052 && decide (0 < bitsOf v.toNat 10 6) && decide (bitsOf v.toNat 10 6 ≤ 60)

/-- When `proofPause` has its effect. R371, R523: without the page or the key nothing is paused. -/
def Sys2Proof.Machine.Can.proofPause2 (w : Fin 8) (v : Word) (s : State) : Bool :=
  !(s.hub.writable w && w.val == 0 && bitOf (s.hub.rd WRD_EXP_OPEN_open 0) 1 && v.toNat / 2 ^ 16 == 0x5052)

/-- When `proofResume` has its effect. R523: 0 minutes resume it. -/
def Sys2Proof.Machine.Can.proofResume (w : Fin 8) (v : Word) (s : State) : Bool :=
  s.hub.writable w && w.val == 0 && bitOf (s.hub.rd WRD_EXP_OPEN_open 0) 1 && v.toNat / 2 ^ 16 == 0x5052 && bitsOf v.toNat 10 6 == 0

/-- When `proofResume` has its effect. R371, R523: without the page or the key nothing is resumed. -/
def Sys2Proof.Machine.Can.proofResume2 (w : Fin 8) (v : Word) (s : State) : Bool :=
  !(s.hub.writable w && w.val == 0 && bitOf (s.hub.rd WRD_EXP_OPEN_open 0) 1 && v.toNat / 2 ^ 16 == 0x5052)

/-- When `reproof` has its effect. R517: a failed instance is proved again in *Safe*. -/
def Sys2Proof.Machine.Can.reproof (s : State) : Bool :=
  s.hub.reproves && s.hub.dbt.failed.any (fun x => !s.hub.mechPaused x.1 x.2)

/-- When `reproof` has its effect. R517: one whose mechanism is paused is marked for re-proof, and its condition ends.
-/
def Sys2Proof.Machine.Can.reproof2 (s : State) : Bool :=
  s.hub.reproves && s.hub.dbt.failed.all (fun x => s.hub.mechPaused x.1 x.2)

/-- When `reproof` has its effect. R517: outside *Safe* none is. -/
def Sys2Proof.Machine.Can.reproof3 (s : State) : Bool :=
  !s.hub.reproves

/-- The commands of Deadbolt's proofs complete, each under the condition and with the result that its clause gives,
after R517 to R528. Clause by clause: `proofStart`: R520, R522: a new rotation begins with the instance of mechanism 0.
`proofStart`: R520: the next instance of the rotation is proved. `proofStart`: R522, R524: an instance that is paused or
faulty is skipped; with the last of them the rotation is counted. `proofStart`: R523: the instance that W0 named comes
before the rotation. `proofStart`: R517: one marked for re-proof comes before any other. `proofStart`: R522, R523: while
the rotation is paused or not due, or in a state without proofs, none begins. `proofDetect`: R521, R528: a detection
within the budget passes, is shown and counted, and opens the re-check window. `proofDetect`: R521: a detection after
the budget fails the proof, with PROOF_FAIL. `proofDetect`: R521: without a force there is no detection. `proofTimeout`:
R521: no detection by twice the budget fails the proof. `proofTimeout`: R521: before that none fails so. `recheckEnd`:
R524, R528: with the condition absent the window ends without a reaction; the last of a rotation counts it.
`recheckEnd`: R528: with the condition present its source is raised with its full reaction; of mechanism 0, MCLK_FAIL.
`recheckEnd`: R528: of the logic die's sensors, TSENS_DIS. `recheckEnd`: R528: the window lasts twice the measured time.
`proofOverdue`: R522: an instance at 24 h since its last passing proof is overdue, once. `proofOverdue`: R522: before 24
h it is not. `proofNow`: R523: W0 names the instance to prove next. `proofNow`: R371, R523: without the page or the key
nothing is ordered. `proofPause`: R523: the rotation is paused for 1 to 60 minutes. `proofPause`: R371, R523: without
the page or the key nothing is paused. `proofResume`: R523: 0 minutes resume it. `proofResume`: R371, R523: without the
page or the key nothing is resumed. `pauseExpiry`: R523: the pause ends once its minutes are over. `reproof`: R517: a
failed instance is proved again in *Safe*. `reproof`: R517: one whose mechanism is paused is marked for re-proof, and
its condition ends. `reproof`: R517: outside *Safe* none is. -/
def Obligations.ProofCommands : Prop :=
  (∀ (s : State), Can.proofStart s = true → Completes (.proofStart) s (fun h =>
      h.dbt.proof = some { mech := 0, inst := 0, since := s.hub.clk.now, rot := true } ∧ h.dbt.todo = s.hub.instances.tail ∧ h.dbt.provedAt = some s.hub.clk.now)) ∧
  (∀ (s : State), Can.proofStart2 s = true → Completes (.proofStart) s (fun h =>
      h.dbt.proof = s.hub.dbt.todo.head?.map (fun x => { mech := x.1, inst := x.2, since := s.hub.clk.now, rot := true }) ∧ h.dbt.todo = s.hub.dbt.todo.tail)) ∧
  (∀ (s : State), Can.proofStart3 s = true → Completes (.proofStart) s (fun h =>
      h.dbt.proof = none ∧ h.dbt.todo = s.hub.dbt.todo.tail ∧ h.rd DBT_PROOF_STAT_rotations = (if s.hub.dbt.todo.length = 1 then satInc (2 ^ DBT_PROOF_STAT_rotations.width - 1) (s.hub.rd DBT_PROOF_STAT_rotations) else s.hub.rd DBT_PROOF_STAT_rotations))) ∧
  (∀ (s : State), Can.proofStart4 s = true → Completes (.proofStart) s (fun h =>
      h.dbt.proof = s.hub.dbt.nextNow.map (fun x => { mech := x.1, inst := x.2, since := s.hub.clk.now, rot := false }) ∧ h.dbt.nextNow = none ∧ h.dbt.todo = s.hub.dbt.todo)) ∧
  (∀ (s : State), Can.proofStart5 s = true → Completes (.proofStart) s (fun h =>
      h.dbt.proof = (s.hub.dbt.reproof.find? (fun x => s.hub.instances.contains x && !s.hub.proofSkipped x.1 x.2)).map (fun x => { mech := x.1, inst := x.2, since := s.hub.clk.now, rot := false }) ∧ h.dbt.nextNow = s.hub.dbt.nextNow)) ∧
  (∀ (s : State), Can.proofStart6 s = true → Completes (.proofStart) s (fun h =>
      h.dbt = s.hub.dbt ∧ h.regs = s.hub.regs)) ∧
  (∀ (s : State) (ticks : Word), Can.proofDetect ticks s = true → Completes (.proofDetect ticks) s (fun h =>
      h.dbt.proof = s.hub.dbt.proof.map (fun p => { p with forced := false, ticks := ticks.toNat, since := s.hub.clk.now }) ∧ h.flag DBT_PROOF_LAST_pass = true ∧ h.flag DBT_PROOF_LAST_overlap = false ∧
      (∀ p ∈ s.hub.dbt.proof, h.rd DBT_MECH_passes p.mech = satInc (2 ^ DBT_MECH_passes.width - 1) (s.hub.rd DBT_MECH_passes p.mech) ∧ h.dbt.ages.all (fun a => !(a.mech == p.mech && a.inst == p.inst)) = true ∧ h.dbt.failed.contains (p.mech, p.inst) = false) ∧ h.rd DBT_PROOF_TIME_ticks = ticks.toNat % 2 ^ DBT_PROOF_TIME_ticks.width ∧ h.rd DBT_PROOF_FAIL_count = s.hub.rd DBT_PROOF_FAIL_count)) ∧
  (∀ (s : State) (ticks : Word), Can.proofDetect2 ticks s = true → Completes (.proofDetect ticks) s (fun h =>
      (s.hub.dev.safe = false → ∀ p ∈ s.hub.dbt.proof, s.hub.mechPaused p.mech p.inst = false → caused h 45 16 = true) ∧ (∀ p ∈ s.hub.dbt.proof, h.rd DBT_PROOF_FAIL_mech = p.mech % 2 ^ DBT_PROOF_FAIL_mech.width) ∧ h.flag DBT_PROOF_LAST_pass = false ∧ h.flag DBT_PROOF_FAIL_late = true ∧ h.flag DBT_PROOF_FAIL_none = false ∧ h.rd DBT_PROOF_FAIL_count = satInc 65535 (s.hub.rd DBT_PROOF_FAIL_count))) ∧
  (∀ (s : State) (ticks : Word), Can.proofDetect3 ticks s = true → Completes (.proofDetect ticks) s (fun h =>
      h.dbt = s.hub.dbt ∧ h.regs = s.hub.regs)) ∧
  (∀ (s : State), Can.proofTimeout s = true → Completes (.proofTimeout) s (fun h =>
      h.dbt.proof = none ∧ h.rd DBT_PROOF_FAIL_count = satInc 65535 (s.hub.rd DBT_PROOF_FAIL_count) ∧ h.flag DBT_PROOF_FAIL_none = true ∧ h.flag DBT_PROOF_LAST_pass = false ∧ (s.hub.dev.safe = false → ∀ p ∈ s.hub.dbt.proof, s.hub.mechPaused p.mech p.inst = false → caused h 45 16 = true))) ∧
  (∀ (s : State), Can.proofTimeout2 s = true → Completes (.proofTimeout) s (fun h =>
      h.dbt = s.hub.dbt ∧ h.regs = s.hub.regs)) ∧
  (∀ (s : State) (present : Bool), Can.recheckEnd present s = true → Completes (.recheckEnd present) s (fun h =>
      h.dbt.proof = none ∧ h.outs = s.hub.outs ∧ h.dev = s.hub.dev ∧ h.rd DBT_PROOF_STAT_rotations = (if s.hub.dbt.todo.isEmpty && s.hub.dbt.proof.any (fun p => p.rot) then satInc (2 ^ DBT_PROOF_STAT_rotations.width - 1) (s.hub.rd DBT_PROOF_STAT_rotations) else s.hub.rd DBT_PROOF_STAT_rotations))) ∧
  (∀ (s : State) (present : Bool), Can.recheckEnd2 present s = true → Completes (.recheckEnd present) s (fun h =>
      h.dbt.proof = none ∧ h.flag DBT_PROOF_LAST_overlap = true ∧ caused h 8 16 = true)) ∧
  (∀ (s : State) (present : Bool), Can.recheckEnd3 present s = true → Completes (.recheckEnd present) s (fun h =>
      h.dbt.proof = none ∧ h.flag DBT_PROOF_LAST_overlap = true ∧ caused h 48 18 = true)) ∧
  (∀ (s : State) (present : Bool), Can.recheckEnd4 present s = true → Completes (.recheckEnd present) s (fun h =>
      h.dbt = s.hub.dbt ∧ h.regs = s.hub.regs)) ∧
  (∀ (s : State) (mech : Fin 16) (inst : Fin 16), Can.proofOverdue mech inst s = true → Completes (.proofOverdue mech inst) s (fun h =>
      h.flag DBT_PROOF_FAIL_overdue = true ∧ h.rd DBT_PROOF_FAIL_mech = mech.val ∧ h.rd DBT_PROOF_FAIL_inst = inst.val ∧ h.rd DBT_PROOF_FAIL_count = satInc 65535 (s.hub.rd DBT_PROOF_FAIL_count) ∧ h.dbt.ages.all (fun a => !(a.mech == mech.val && a.inst == inst.val) || a.overdue) = true)) ∧
  (∀ (s : State) (mech : Fin 16) (inst : Fin 16), Can.proofOverdue2 mech inst s = true → Completes (.proofOverdue mech inst) s (fun h =>
      h.dbt = s.hub.dbt ∧ h.regs = s.hub.regs)) ∧
  (∀ (s : State) (w : Fin 8) (v : Word), Can.proofNow w v s = true → Completes (.proofNow w v) s (fun h =>
      h.dbt.nextNow = some (bitsOf v.toNat 0 4, bitsOf v.toNat 4 5) ∧ h.dbt.proof = s.hub.dbt.proof ∧ h.regs = s.hub.regs)) ∧
  (∀ (s : State) (w : Fin 8) (v : Word), Can.proofNow2 w v s = true → Completes (.proofNow w v) s (fun h =>
      h.dbt = s.hub.dbt ∧ h.regs = s.hub.regs)) ∧
  (∀ (s : State) (w : Fin 8) (v : Word), Can.proofPause w v s = true → Completes (.proofPause w v) s (fun h =>
      h.dbt.paused = true ∧ h.dbt.pauseTill = s.hub.clk.now + 60 * bitsOf v.toNat 10 6 * Config.ticksPerS ∧ h.dbt.proof = s.hub.dbt.proof)) ∧
  (∀ (s : State) (w : Fin 8) (v : Word), Can.proofPause2 w v s = true → Completes (.proofPause w v) s (fun h =>
      h.dbt = s.hub.dbt ∧ h.regs = s.hub.regs)) ∧
  (∀ (s : State) (w : Fin 8) (v : Word), Can.proofResume w v s = true → Completes (.proofResume w v) s (fun h =>
      h.dbt.paused = false ∧ h.dbt.proof = s.hub.dbt.proof)) ∧
  (∀ (s : State) (w : Fin 8) (v : Word), Can.proofResume2 w v s = true → Completes (.proofResume w v) s (fun h =>
      h.dbt = s.hub.dbt ∧ h.regs = s.hub.regs)) ∧
  (∀ (s : State), Completes (.pauseExpiry) s (fun h =>
      h.dbt.paused = (s.hub.dbt.paused && decide (s.hub.clk.now < s.hub.dbt.pauseTill)) ∧ h.regs = s.hub.regs ∧ h.dbt.proof = s.hub.dbt.proof)) ∧
  (∀ (s : State), Can.reproof s = true → Completes (.reproof) s (fun h =>
      h.dbt.proof = (s.hub.dbt.failed.find? (fun x => !s.hub.mechPaused x.1 x.2 && s.hub.reproofDue x)).map (fun x => { mech := x.1, inst := x.2, since := s.hub.clk.now, rot := false }) ∧ h.dbt.failed.length = (s.hub.dbt.failed.filter (fun x => !s.hub.mechPaused x.1 x.2)).length)) ∧
  (∀ (s : State), Can.reproof2 s = true → Completes (.reproof) s (fun h =>
      h.dbt.proof = none ∧ h.dbt.failed = [] ∧ s.hub.dbt.failed.all (fun x => h.dbt.reproof.contains x) = true)) ∧
  (∀ (s : State), Can.reproof3 s = true → Completes (.reproof) s (fun h =>
      h.dbt = s.hub.dbt ∧ h.regs = s.hub.regs))

/-- When `dbtSafeExit` has its effect. R516: with exit_ready the key starts the exit, and DA changes to CLEAR. -/
def Sys2Proof.Machine.Can.dbtSafeExit (w : Fin 8) (v : Word) (s : State) : Bool :=
  s.hub.writable w && w.val == 0 && v.toNat == 0x53464558 && s.hub.exitReady && s.hub.dev.exitStep == 0

/-- When `dbtSafeExit` has its effect. R516: without exit_ready the write is refused and counted. -/
def Sys2Proof.Machine.Can.dbtSafeExit2 (w : Fin 8) (v : Word) (s : State) : Bool :=
  s.hub.writable w && w.val == 0 && v.toNat == 0x53464558 && !s.hub.exitReady

/-- When `dbtSafeExit` has its effect. R516: another ward or value starts nothing. -/
def Sys2Proof.Machine.Can.dbtSafeExit3 (w : Fin 8) (v : Word) (s : State) : Bool :=
  !(s.hub.writable w && w.val == 0 && v.toNat == 0x53464558)

/-- When `safeLeave` has its effect. R516: 12 µs after the exit write the hub leaves *Safe*, and the channels keep
safe_hold. -/
def Sys2Proof.Machine.Can.safeLeave (s : State) : Bool :=
  s.hub.dev.safe && s.hub.dev.exitStep == 2 && s.hub.dev.phase == .up && s.hub.dev.halt.isNone && decide (s.hub.hinge.toneAt + 12 * Config.ticksPerUs ≤ s.hub.clk.now)

/-- When `safeLeave` has its effect. R516: before that it does not. -/
def Sys2Proof.Machine.Can.safeLeave2 (s : State) : Bool :=
  !(s.hub.dev.safe && s.hub.dev.exitStep == 2 && s.hub.dev.phase == .up && s.hub.dev.halt.isNone && decide (s.hub.hinge.toneAt + 12 * Config.ticksPerUs ≤ s.hub.clk.now))

/-- When `thermalHalt` has its effect. R17, R24, R672: 165 °C on the field die or 150 °C on the logic die is a thermal
*Halt*: BOLT, every output sent to its safe state, no proof, no tumbler, every watchdog stopped. -/
def Sys2Proof.Machine.Can.thermalHalt (sensor : Fin 8) (t : BitVec 16) (s : State) : Bool :=
  s.hub.dev.phase != .off && s.hub.dev.halt.isNone && (if sensor.val < 6 then decide (1320 ≤ t.toInt) && s.hub.hinge.upL else decide (1200 ≤ t.toInt))

/-- When `thermalHalt` has its effect. R672: a reading below is only held. -/
def Sys2Proof.Machine.Can.thermalHalt2 (sensor : Fin 8) (t : BitVec 16) (s : State) : Bool :=
  !(s.hub.dev.phase != .off && s.hub.dev.halt.isNone && (if sensor.val < 6 then decide (1320 ≤ t.toInt) && s.hub.hinge.upL else decide (1200 ≤ t.toInt)))

/-- When `fieldGlobalShutdown` has its effect. R672: DB switches every channel off at 165 °C or more. -/
def Sys2Proof.Machine.Can.fieldGlobalShutdown (_sensor : Fin 6) (t : BitVec 16) (_s : State) : Bool :=
  decide (1320 ≤ t.toInt)

/-- When `fieldGlobalShutdown` has its effect. R672: below that, outside *Halt*, it stays as it is. -/
def Sys2Proof.Machine.Can.fieldGlobalShutdown2 (sensor : Fin 6) (t : BitVec 16) (s : State) : Bool :=
  decide (t.toInt < 1320) && (List.range 6).all (fun k => k == sensor.val || decide (vget s.hub.sch.temps k 0 < 1320)) && s.hub.dev.halt.isNone

/-- When `fieldGlobalShutdown` has its effect. R672: in *Halt* it ends with every field sensor below 145 °C. -/
def Sys2Proof.Machine.Can.fieldGlobalShutdown3 (sensor : Fin 6) (t : BitVec 16) (s : State) : Bool :=
  decide (t.toInt < 1160) && (List.range 6).all (fun k => k == sensor.val || decide (vget s.hub.sch.temps k 0 < 1160)) && s.hub.dev.halt.isSome

/-- When `thermalHaltExit` has its effect. R18, R436, R672: below 130 °C and 145 °C the hub boots, and DB's shutdown is
over. -/
def Sys2Proof.Machine.Can.thermalHaltExit (logic : BitVec 16) (field : BitVec 16) (s : State) : Bool :=
  s.hub.dev.halt == some .thermal && decide (logic.toInt < 1040) && decide (field.toInt < 1160)

/-- When `thermalHaltExit` has its effect. R18: above it stays. -/
def Sys2Proof.Machine.Can.thermalHaltExit2 (logic : BitVec 16) (field : BitVec 16) (s : State) : Bool :=
  !(s.hub.dev.halt == some .thermal && decide (logic.toInt < 1040) && decide (field.toInt < 1160))

/-- When `nvmCutoff` has its effect. R638: the running operation is abandoned; one still being shifted in programs
nothing. -/
def Sys2Proof.Machine.Can.nvmCutoff (_shifting : Bool) (s : State) : Bool :=
  s.hub.cutoffDue && s.hub.nvmOp.isSome

/-- When `nvmCutoff` has its effect. R638: outside thermal *Halt* none is. -/
def Sys2Proof.Machine.Can.nvmCutoff2 (_shifting : Bool) (s : State) : Bool :=
  !(s.hub.cutoffDue && s.hub.nvmOp.isSome)

/-- The commands of the exit from Safe, of thermal Halt and of the field die's global shutdown complete, each under the
condition and with the result that its clause gives, after R18, R24, R516, R638 and R672. Clause by clause:
`dbtSafeExit`: R516: with exit_ready the key starts the exit, and DA changes to CLEAR. `dbtSafeExit`: R516: without
exit_ready the write is refused and counted. `dbtSafeExit`: R516: another ward or value starts nothing. `safeLeave`:
R516: 12 µs after the exit write the hub leaves *Safe*, and the channels keep safe_hold. `safeLeave`: R516: before that
it does not. `thermalHalt`: R17, R24, R672: 165 °C on the field die or 150 °C on the logic die is a thermal *Halt*:
BOLT, every output sent to its safe state, no proof, no tumbler, every watchdog stopped. `thermalHalt`: R672: a reading
below is only held. `fieldGlobalShutdown`: R672: DB switches every channel off at 165 °C or more. `fieldGlobalShutdown`:
R672: below that, outside *Halt*, it stays as it is. `fieldGlobalShutdown`: R672: in *Halt* it ends with every field
sensor below 145 °C. `thermalHaltExit`: R18, R436, R672: below 130 °C and 145 °C the hub boots, and DB's shutdown is
over. `thermalHaltExit`: R18: above it stays. `nvmCutoff`: R638: the running operation is abandoned; one still being
shifted in programs nothing. `nvmCutoff`: R638: outside thermal *Halt* none is. -/
def Obligations.SafeCommands : Prop :=
  (∀ (s : State) (w : Fin 8) (v : Word), Can.dbtSafeExit w v s = true → Completes (.dbtSafeExit w v) s (fun h =>
      h.dev.exitStep = 1 ∧ h.hinge.daWant = .clear ∧ h.dev.safe = true ∧ h.regs = s.hub.regs)) ∧
  (∀ (s : State) (w : Fin 8) (v : Word), Can.dbtSafeExit2 w v s = true → Completes (.dbtSafeExit w v) s (fun h =>
      h.rd DBT_SAFE_CAUSE_refused = satInc (2 ^ DBT_SAFE_CAUSE_refused.width - 1) (s.hub.rd DBT_SAFE_CAUSE_refused) ∧ h.dev = s.hub.dev ∧ h.hinge = s.hub.hinge)) ∧
  (∀ (s : State) (w : Fin 8) (v : Word), Can.dbtSafeExit3 w v s = true → Completes (.dbtSafeExit w v) s (fun h =>
      h.dev = s.hub.dev ∧ h.regs = s.hub.regs ∧ h.hinge = s.hub.hinge)) ∧
  (∀ (s : State), Can.safeLeave s = true → Completes (.safeLeave) s (fun h =>
      h.dev.safe = false ∧ h.dev.exitStep = 0 ∧ h.regs = s.hub.regs ∧ h.outs = s.hub.outs)) ∧
  (∀ (s : State), Can.safeLeave2 s = true → Completes (.safeLeave) s (fun h =>
      h.dev = s.hub.dev ∧ h.regs = s.hub.regs ∧ h.outs = s.hub.outs)) ∧
  (∀ (s : State) (sensor : Fin 8) (t : BitVec 16), Can.thermalHalt sensor t s = true → Completes (.thermalHalt sensor t) s (fun h =>
      h.dev.halt = some .thermal ∧ h.hinge.daWant = .bolt ∧ h.dbt.proof = none ∧ (∀ k : Fin 9, (h.wd k).state = 0) ∧ (∀ u : Fin 8, h.tmbRuns u = false) ∧ (∀ c ∈ s.hub.outList, vget h.hinge.cmd c 0 = 2 ∧ h.flag OUT_STAT_safe_hold c = true) ∧ vget h.sch.temps sensor 0 = t.toInt ∧ h.ret.life.halts = satInc (2 ^ 32 - 1) s.hub.ret.life.halts)) ∧
  (∀ (s : State) (sensor : Fin 8) (t : BitVec 16), Can.thermalHalt2 sensor t s = true → Completes (.thermalHalt sensor t) s (fun h =>
      h.dev = s.hub.dev ∧ vget h.sch.temps sensor 0 = t.toInt ∧ h.outs = s.hub.outs ∧ h.regs = s.hub.regs)) ∧
  (∀ (s : State) (sensor : Fin 6) (t : BitVec 16), Can.fieldGlobalShutdown sensor t s = true → Completes (.fieldGlobalShutdown sensor t) s (fun h =>
      h.dbt.globalOff = true ∧ (s.hub.dbt.globalOff = false → ∀ c : Fin 16, (h.out c).sw = false))) ∧
  (∀ (s : State) (sensor : Fin 6) (t : BitVec 16), Can.fieldGlobalShutdown2 sensor t s = true → Completes (.fieldGlobalShutdown sensor t) s (fun h =>
      h.dbt.globalOff = s.hub.dbt.globalOff ∧ h.outs = s.hub.outs ∧ vget h.sch.temps sensor 0 = t.toInt)) ∧
  (∀ (s : State) (sensor : Fin 6) (t : BitVec 16), Can.fieldGlobalShutdown3 sensor t s = true → Completes (.fieldGlobalShutdown sensor t) s (fun h =>
      h.dbt.globalOff = false)) ∧
  (∀ (s : State) (logic : BitVec 16) (field : BitVec 16), Can.thermalHaltExit logic field s = true → Completes (.thermalHaltExit logic field) s (fun h =>
      h.dev.halt = none ∧ h.dev.phase = .boot ∧ h.dbt.globalOff = false ∧ h.ret.hist.head?.map (fun x => x % 16) = some 8 ∧ h.ret.boots = satInc (2 ^ 32 - 1) s.hub.ret.boots ∧ h.clk.tb = 0 ∧ h.mem = [] ∧ h.nvm = s.hub.nvm)) ∧
  (∀ (s : State) (logic : BitVec 16) (field : BitVec 16), Can.thermalHaltExit2 logic field s = true → Completes (.thermalHaltExit logic field) s (fun h =>
      h.dev = s.hub.dev ∧ h.regs = s.hub.regs ∧ h.outs = s.hub.outs)) ∧
  (∀ (s : State) (shifting : Bool), Can.nvmCutoff shifting s = true → Completes (.nvmCutoff shifting) s (fun h =>
      h.nvmOp = none ∧ (shifting = true → h.nvm = s.hub.nvm) ∧ h.dev = s.hub.dev)) ∧
  (∀ (s : State) (shifting : Bool), Can.nvmCutoff2 shifting s = true → Completes (.nvmCutoff shifting) s (fun h =>
      h.nvmOp = s.hub.nvmOp ∧ h.nvm = s.hub.nvm ∧ h.dev = s.hub.dev))

/-- When `faultOccurrence` has its effect. R538, R540: the rise of an absent cause sets the status for the wards
concerned, and the first is captured. -/
def Sys2Proof.Machine.Can.faultOccurrence (n : Fin 62) (res : Fin 17) (_ward : Fin 8) (_detail : Word) (s : State) : Bool :=
  !s.hub.proofHides n res && s.hub.logicRuns && (s.hub.testGroup != 5 || s.hub.fltClass n == 5) && s.hub.dev.phase != .recovery && !eventSources.contains n.val && !(if res.val < 16 then bitOf (s.hub.causes n) res else s.hub.causes n != 0) && s.hub.fltEnabled n

/-- When `faultOccurrence` has its effect. R538: an event sets the status and leaves the live bit as it is. -/
def Sys2Proof.Machine.Can.faultOccurrence2 (n : Fin 62) (_res : Fin 17) (_ward : Fin 8) (_detail : Word) (s : State) : Bool :=
  !s.hub.proofHides n 16 && s.hub.logicRuns && (s.hub.testGroup != 5 || s.hub.fltClass n == 5) && s.hub.dev.phase != .recovery && eventSources.contains n.val && s.hub.fltEnabled n

/-- When `faultOccurrence` has its effect. R539: a disabled source is counted; it sets no status, writes no record and
takes no reaction. -/
def Sys2Proof.Machine.Can.faultOccurrence3 (n : Fin 62) (res : Fin 17) (_ward : Fin 8) (_detail : Word) (s : State) : Bool :=
  !s.hub.proofHides n res && s.hub.logicRuns && (s.hub.testGroup != 5 || s.hub.fltClass n == 5) && s.hub.dev.phase != .recovery && !s.hub.proofHides n 16 && (eventSources.contains n.val || !(if res.val < 16 then bitOf (s.hub.causes n) res else s.hub.causes n != 0)) && !s.hub.fltEnabled n

/-- When `faultOccurrence` has its effect. R538: a cause that is present already does not occur again. -/
def Sys2Proof.Machine.Can.faultOccurrence4 (n : Fin 62) (res : Fin 17) (_ward : Fin 8) (_detail : Word) (s : State) : Bool :=
  s.hub.logicRuns && !eventSources.contains n.val && (if res.val < 16 then bitOf (s.hub.causes n) res else s.hub.causes n != 0)

/-- When `faultOccurrence` has its effect. R544: where the collector does not run nothing occurs. -/
def Sys2Proof.Machine.Can.faultOccurrence5 (_n : Fin 62) (_res : Fin 17) (_ward : Fin 8) (_detail : Word) (s : State) : Bool :=
  !s.hub.logicRuns

/-- When `faultCauseEnd` has its effect. R539, R543: the live bit follows its cause; the status stays. -/
def Sys2Proof.Machine.Can.faultCauseEnd (n : Fin 62) (res : Fin 17) (s : State) : Bool :=
  n.val != 1 && n.val != 2 && n.val != 3 && !s.hub.causeLasts n res

/-- When `faultCauseEnd` has its effect. R535, R539: a cause lasts as long as R535 says. -/
def Sys2Proof.Machine.Can.faultCauseEnd2 (n : Fin 62) (res : Fin 17) (s : State) : Bool :=
  n.val != 1 && n.val != 2 && n.val != 3 && s.hub.causeLasts n res

/-- When `faultCauseEnd` has its effect. R66, R70, R539: the field supervisor's conditions end at their levels;
VREG_FAIL lasts. -/
def Sys2Proof.Machine.Can.faultCauseEnd3 (n : Fin 62) (_res : Fin 17) (_s : State) : Bool :=
  n.val == 1 || n.val == 2 || n.val == 3

/-- When `faultClear` has its effect. R542, R550: each bit is judged on its own; what is refused, and a field source
with the link lost, leaves the mask as it is. -/
def Sys2Proof.Machine.Can.faultClear (w : Fin 8) (_word : Fin 2) (_v : Word) (s : State) : Bool :=
  s.hub.writable w

/-- When `faultClear` has its effect. R370: a write that is not accepted clears none. -/
def Sys2Proof.Machine.Can.faultClear2 (w : Fin 8) (_word : Fin 2) (_v : Word) (s : State) : Bool :=
  !s.hub.writable w

/-- When `fltForce` has its effect. R546: a force bit makes its source's cause present, and the occurrence takes its
reaction. -/
def Sys2Proof.Machine.Can.fltForce (_word : Fin 2) (_v : Word) (s : State) : Bool :=
  s.hub.writable 0 && bitOf (s.hub.rd WRD_EXP_OPEN_open 0) 0 && s.hub.testGroup != 5 && s.hub.dev.phase == .up && (List.range 62).all (fun n => decide (s.hub.fltClass n < 4))

/-- When `fltForce` has its effect. R371, R546: with page 0 closed nothing is forced. -/
def Sys2Proof.Machine.Can.fltForce2 (_word : Fin 2) (_v : Word) (s : State) : Bool :=
  !(s.hub.writable 0 && bitOf (s.hub.rd WRD_EXP_OPEN_open 0) 0)

/-- When `fltSelf` has its effect. R553: FLT_SELF takes the hub to *Safe*; the agreeing copy is shown. -/
def Sys2Proof.Machine.Can.fltSelf (field : Bool) (_second : Bool) (s : State) : Bool :=
  !field && s.hub.logicRuns

/-- When `fltSelf` has its effect. R545, R553: on the field die position 36 is reported by a FAULT frame. -/
def Sys2Proof.Machine.Can.fltSelf2 (field : Bool) (_second : Bool) (s : State) : Bool :=
  field && s.hub.sup.fieldUp && s.hub.hinge.upF && !s.hub.fHidden 36 16

/-- When `fltSelf` has its effect. R544: a die that does not run has none. -/
def Sys2Proof.Machine.Can.fltSelf3 (field : Bool) (_second : Bool) (s : State) : Bool :=
  if field then !s.hub.sup.fieldUp else !s.hub.logicRuns

/-- When `fltSelf` has its effect. R545, R553: on the field die position 36 is reported by a FAULT frame. -/
def Sys2Proof.Machine.Can.fltSelf4 (field : Bool) (_second : Bool) (s : State) : Bool :=
  field && s.hub.hinge.upF

/-- The commands of the fault collector complete, each under the condition and with the result that its clause gives,
after R537 to R546 and R553. Clause by clause: `faultOccurrence`: R538, R540: the rise of an absent cause sets the
status for the wards concerned, and the first is captured. `faultOccurrence`: R538: an event sets the status and leaves
the live bit as it is. `faultOccurrence`: R539: a disabled source is counted; it sets no status, writes no record and
takes no reaction. `faultOccurrence`: R538: a cause that is present already does not occur again. `faultOccurrence`:
R544: where the collector does not run nothing occurs. `faultCauseEnd`: R539, R543: the live bit follows its cause; the
status stays. `faultCauseEnd`: R535, R539: a cause lasts as long as R535 says. `faultCauseEnd`: R66, R70, R539: the
field supervisor's conditions end at their levels; VREG_FAIL lasts. `faultClear`: R542, R550: each bit is judged on its
own; what is refused, and a field source with the link lost, leaves the mask as it is. `faultClear`: R370: a write that
is not accepted clears none. `fltForce`: R546: a force bit makes its source's cause present, and the occurrence takes
its reaction. `fltForce`: R371, R546: with page 0 closed nothing is forced. `fltSelf`: R553: FLT_SELF takes the hub to
*Safe*; the agreeing copy is shown. `fltSelf`: R545, R553: on the field die position 36 is reported by a FAULT frame.
`fltSelf`: R544: a die that does not run has none. `fltSelf`: R545, R553: on the field die position 36 is reported by a
FAULT frame. -/
def Obligations.FaultCommands : Prop :=
  (∀ (s : State) (n : Fin 62) (res : Fin 17) (ward : Fin 8) (detail : Word), Can.faultOccurrence n res ward detail s = true → Completes (.faultOccurrence n res ward detail) s (fun h =>
      caused h n res = true ∧ vget h.flt.counts n 0 = satInc 65535 (vget s.hub.flt.counts n 0) ∧ h.fltMask n = (s.hub.fltMask n ||| s.hub.attribution n res ward) ∧ (s.hub.fltMask n = 0 → s.hub.flag FLT_FIRST_valid = false → h.flag FLT_FIRST_valid = true ∧ h.rd FLT_FIRST_source = n.val ∧ h.rd FLT_FIRST_wards = (s.hub.attribution n res ward) % 256 ∧ h.rd FLT_FIRST_DET_detail = detail.toNat ∧ h.rd FLT_FIRST_TLO_tb = s.hub.clk.tb % 2 ^ 32) ∧ (s.hub.fltMask n = 0 → s.hub.fltClass n = 5 → s.hub.dev.phase = .up → h.dev.safe = true) ∧ (s.hub.dev.phase = .up → ∀ w : Fin 8, bitOf (s.hub.attribution n res ward) w = true → bitOf (s.hub.fltMask n) w = false → s.hub.intServed = true → (1 ≤ s.hub.fltClass n → (s.hub.ward w = .active ∨ s.hub.ward w = .held) → s.hub.fltClass n ≠ 5 → bitOf (h.rd INT_STAT_stat w) 2 = true) ∧ (s.hub.fltClass n = 4 → w ≠ 0 → s.hub.ward w = .active → h.ward w = .held)))) ∧
  (∀ (s : State) (n : Fin 62) (res : Fin 17) (ward : Fin 8) (detail : Word), Can.faultOccurrence2 n res ward detail s = true → Completes (.faultOccurrence n res ward detail) s (fun h =>
      vget h.flt.counts n 0 = satInc 65535 (vget s.hub.flt.counts n 0) ∧ h.fltMask n = (s.hub.fltMask n ||| s.hub.attribution n res ward) ∧ (∀ r : Fin 17, caused h n r = caused s.hub n r) ∧ (s.hub.fltMask n = 0 → s.hub.flag FLT_FIRST_valid = false → h.flag FLT_FIRST_valid = true ∧ h.rd FLT_FIRST_source = n.val ∧ h.rd FLT_FIRST_wards = (s.hub.attribution n res ward) % 256 ∧ h.rd FLT_FIRST_DET_detail = detail.toNat ∧ h.rd FLT_FIRST_TLO_tb = s.hub.clk.tb % 2 ^ 32) ∧ (s.hub.fltMask n = 0 → s.hub.fltClass n = 5 → s.hub.dev.phase = .up → h.dev.safe = true) ∧ (s.hub.dev.phase = .up → ∀ w : Fin 8, bitOf (s.hub.attribution n res ward) w = true → bitOf (s.hub.fltMask n) w = false → s.hub.intServed = true → (1 ≤ s.hub.fltClass n → (s.hub.ward w = .active ∨ s.hub.ward w = .held) → s.hub.fltClass n ≠ 5 → bitOf (h.rd INT_STAT_stat w) 2 = true) ∧ (s.hub.fltClass n = 4 → w ≠ 0 → s.hub.ward w = .active → h.ward w = .held)))) ∧
  (∀ (s : State) (n : Fin 62) (res : Fin 17) (ward : Fin 8) (detail : Word), Can.faultOccurrence3 n res ward detail s = true → Completes (.faultOccurrence n res ward detail) s (fun h =>
      vget h.flt.counts n 0 = satInc 65535 (vget s.hub.flt.counts n 0) ∧ h.fltMask n = s.hub.fltMask n ∧ h.regs = s.hub.regs ∧ h.recd = s.hub.recd ∧ h.dev = s.hub.dev)) ∧
  (∀ (s : State) (n : Fin 62) (res : Fin 17) (ward : Fin 8) (detail : Word), Can.faultOccurrence4 n res ward detail s = true → Completes (.faultOccurrence n res ward detail) s (fun h =>
      vget h.flt.counts n 0 = vget s.hub.flt.counts n 0 ∧ h.flt.mask = s.hub.flt.mask ∧ h.regs = s.hub.regs ∧ h.recd = s.hub.recd ∧ h.dev = s.hub.dev)) ∧
  (∀ (s : State) (n : Fin 62) (res : Fin 17) (ward : Fin 8) (detail : Word), Can.faultOccurrence5 n res ward detail s = true → Completes (.faultOccurrence n res ward detail) s (fun h =>
      h.flt.mask = s.hub.flt.mask ∧ h.flt.counts = s.hub.flt.counts ∧ h.regs = s.hub.regs)) ∧
  (∀ (s : State) (n : Fin 62) (res : Fin 17), Can.faultCauseEnd n res s = true → Completes (.faultCauseEnd n res) s (fun h =>
      caused h n res = false ∧ h.flt.mask = s.hub.flt.mask ∧ h.flt.counts = s.hub.flt.counts ∧ h.regs = s.hub.regs ∧ h.dev = s.hub.dev ∧ h.sup = s.hub.sup)) ∧
  (∀ (s : State) (n : Fin 62) (res : Fin 17), Can.faultCauseEnd2 n res s = true → Completes (.faultCauseEnd n res) s (fun h =>
      h.flt = s.hub.flt ∧ h.regs = s.hub.regs ∧ h.dev = s.hub.dev ∧ h.sup = s.hub.sup)) ∧
  (∀ (s : State) (n : Fin 62) (res : Fin 17), Can.faultCauseEnd3 n res s = true → Completes (.faultCauseEnd n res) s (fun h =>
      (n.val = 1 → h.sup.vfUv = false ∧ vget h.flt.fLive 17 0 = 0) ∧ (n.val = 2 → h.sup.vfOv = false ∧ vget h.flt.fLive 18 0 = 0) ∧ (n.val = 3 → h.sup.vregFail = s.hub.sup.vregFail ∧ (s.hub.sup.fieldUp = true → (res.val ≠ 1 → h.sup.vreg5Ok = true) ∧ (res.val ≠ 0 → h.sup.vreglOk = true))) ∧ h.flt.mask = s.hub.flt.mask ∧ h.flt.counts = s.hub.flt.counts ∧ h.dev = s.hub.dev)) ∧
  (∀ (s : State) (w : Fin 8) (word : Fin 2) (v : Word), Can.faultClear w word v s = true → Completes (.faultClear w word v) s (fun h =>
      ∀ n : Fin 62, (n.val / 32 ≠ word ∨ v.getLsbD (n.val % 32) = false → h.fltMask n = s.hub.fltMask n) ∧ (n.val / 32 = word → v.getLsbD (n.val % 32) = true → (s.hub.hinge.upL = true ∨ isFieldSource n = false ∨ s.hub.hinge.everL = false) →
          (w = 0 → h.fltMask n = (if s.hub.fltLive n then s.hub.fltMask n else 0)) ∧ (w ≠ 0 → h.fltMask n = (if bitOf (s.hub.fltMask n) w && !(s.hub.fltLive n && bitOf (s.hub.causeWards n) w) then clrBit (s.hub.fltMask n) w else s.hub.fltMask n))) ∧ (n.val / 32 = word → v.getLsbD (n.val % 32) = true → s.hub.hinge.upL = false → s.hub.hinge.everL = true → isFieldSource n = true → h.fltMask n = s.hub.fltMask n))) ∧
  (∀ (s : State) (w : Fin 8) (word : Fin 2) (v : Word), Can.faultClear2 w word v s = true → Completes (.faultClear w word v) s (fun h =>
      h.flt.mask = s.hub.flt.mask ∧ h.regs = s.hub.regs)) ∧
  (∀ (s : State) (word : Fin 2) (v : Word), Can.fltForce word v s = true → Completes (.fltForce word v) s (fun h =>
      ∀ n : Fin 62, n.val / 32 = word → h.flag (FLT_FORCE_force n) = v.getLsbD (n.val % 32) ∧ (v.getLsbD (n.val % 32) = true → s.hub.causes n = 0 → vget h.flt.counts n 0 = satInc 65535 (vget s.hub.flt.counts n 0) ∧ (s.hub.fltEnabled n = true → bitOf (h.fltMask n) 0 = true)))) ∧
  (∀ (s : State) (word : Fin 2) (v : Word), Can.fltForce2 word v s = true → Completes (.fltForce word v) s (fun h =>
      h.flt.mask = s.hub.flt.mask ∧ h.flt.counts = s.hub.flt.counts ∧ h.regs = s.hub.regs)) ∧
  (∀ (s : State) (field : Bool) (second : Bool), Can.fltSelf field second s = true → Completes (.fltSelf field second) s (fun h =>
      h.flag FLT_STAT_copy_b = (second || s.hub.flag FLT_STAT_copy_b) ∧ (s.hub.fltClass 61 = 5 → s.hub.fltEnabled 61 = true → s.hub.dev.phase ≠ .recovery → bitOf (h.fltMask 61) 0 = true) ∧ (s.hub.fltClass 61 = 5 → s.hub.fltEnabled 61 = true → s.hub.dev.phase = .up → s.hub.fltMask 61 = 0 → h.dev.safe = true ∧ (s.hub.dev.safe = false → h.hinge.daWant = .bolt)))) ∧
  (∀ (s : State) (field : Bool) (second : Bool), Can.fltSelf2 field second s = true → Completes (.fltSelf field second) s (fun h =>
      bitOf h.flt.fieldSticky 36 = true ∧ h.hinge.txF = enq s.hub.hinge.txF { typ := 0x38, payload := faultPayload 36 0 0 false, prio := 1 } ∧ h.regs = s.hub.regs)) ∧
  (∀ (s : State) (field : Bool) (second : Bool), Can.fltSelf3 field second s = true → Completes (.fltSelf field second) s (fun h =>
      h.flt.mask = s.hub.flt.mask ∧ h.regs = s.hub.regs ∧ h.dev = s.hub.dev)) ∧
  (∀ (s : State) (field : Bool) (second : Bool), Can.fltSelf4 field second s = true → Completes (.fltSelf field second) s (fun h =>
      bitOf h.flt.fieldSticky 36 = true ∧ h.hinge.txF = enq s.hub.hinge.txF { typ := 0x38, payload := faultPayload 36 0 0 false, prio := 1 } ∧ h.regs = s.hub.regs))

/-- When `wdgKick` has its effect. R559, R563, R572: the service is accepted, and the seed is renewed. -/
def Sys2Proof.Machine.Can.wdgKick (w : Fin 8) (k : Fin 9) (v : Word) (s : State) : Bool :=
  s.hub.writable w && s.hub.wdServer k == w.val && v.toNat % 65536 == 0x5A5A && (s.hub.wd k).state == 1 && decide (s.hub.wdTime k < s.hub.wdTimeout k * Config.ticksPerMs) && s.hub.wdOpen k && (!s.hub.flag WDG_CFG_chal_en k || v.toNat / 65536 == wdAnswer (s.hub.wd k).seed k)

/-- When `wdgKick` has its effect. R559, R564: an early service or a wrong answer is a violation: it has the actions of
an expiry. -/
def Sys2Proof.Machine.Can.wdgKick2 (w : Fin 8) (k : Fin 9) (v : Word) (s : State) : Bool :=
  s.hub.writable w && s.hub.wdServer k == w.val && v.toNat % 65536 == 0x5A5A && (s.hub.wd k).state == 1 && decide (s.hub.wdTime k < s.hub.wdTimeout k * Config.ticksPerMs) && (!s.hub.wdOpen k || (s.hub.flag WDG_CFG_chal_en k && v.toNat / 65536 != wdAnswer (s.hub.wd k).seed k))

/-- When `wdgKick` has its effect. R558: a wrong key is counted and is no service. -/
def Sys2Proof.Machine.Can.wdgKick3 (w : Fin 8) (k : Fin 9) (v : Word) (s : State) : Bool :=
  s.hub.writable w && s.hub.wdServer k == w.val && v.toNat % 65536 != 0x5A5A

/-- When `wdgKick` has its effect. R558, R574: a watchdog that does not run, or whose timeout has been reached, is not
served. -/
def Sys2Proof.Machine.Can.wdgKick4 (w : Fin 8) (k : Fin 9) (v : Word) (s : State) : Bool :=
  s.hub.writable w && s.hub.wdServer k == w.val && v.toNat % 65536 == 0x5A5A && ((s.hub.wd k).state != 1 || decide (s.hub.wdTimeout k * Config.ticksPerMs ≤ s.hub.wdTime k))

/-- When `wdgKick` has its effect. R560: another ward serves none. -/
def Sys2Proof.Machine.Can.wdgKick5 (w : Fin 8) (k : Fin 9) (_v : Word) (s : State) : Bool :=
  !(s.hub.writable w && s.hub.wdServer k == w.val)

/-- When `wardWatchdogExpiry` has its effect. R562: the expiry is counted, WDO is pulsed where enabled, and the ward is
reset with reason 3. -/
def Sys2Proof.Machine.Can.wardWatchdogExpiry (w : Fin 8) (s : State) : Bool :=
  s.hub.wdOver w && !(s.hub.ward w == .held && s.hub.heldFault w) && s.hub.ward w != .absent

/-- When `wardWatchdogExpiry` has its effect. R562, R575: a ward that a fault holds stays *Held*; its watchdog has
expired. -/
def Sys2Proof.Machine.Can.wardWatchdogExpiry2 (w : Fin 8) (s : State) : Bool :=
  s.hub.wdOver w && s.hub.ward w == .held && s.hub.heldFault w && decide (s.hub.fltClass 50 ≠ 5)

/-- When `wardWatchdogExpiry` has its effect. R557, R561: before its timeout none expires. -/
def Sys2Proof.Machine.Can.wardWatchdogExpiry3 (w : Fin 8) (s : State) : Bool :=
  !s.hub.wdOver w

/-- When `dwdExpiry` has its effect. R565: the device watchdog's expiry is counted, entered in the history and orders a
device soft reset. -/
def Sys2Proof.Machine.Can.dwdExpiry (s : State) : Bool :=
  s.hub.wdOver 8

/-- When `dwdExpiry` has its effect. R557: before its timeout it does not expire. -/
def Sys2Proof.Machine.Can.dwdExpiry2 (s : State) : Bool :=
  !s.hub.wdOver 8

/-- When `wdoPulseEnd` has its effect. R60, R568: at its width WDO returns to its inactive level, or to high impedance
after a logic-die reset. -/
def Sys2Proof.Machine.Can.wdoPulseEnd (s : State) : Bool :=
  s.hub.flag WDG_WDO_STAT_active && decide (s.hub.wdo.since + Config.ticksPerMs * s.hub.wdo.ms ≤ s.hub.clk.now)

/-- When `wdoPulseEnd` has its effect. R568: before its width it goes on. -/
def Sys2Proof.Machine.Can.wdoPulseEnd2 (s : State) : Bool :=
  !s.hub.flag WDG_WDO_STAT_active || decide (s.hub.clk.now < s.hub.wdo.since + Config.ticksPerMs * s.hub.wdo.ms)

/-- The commands of the watchdogs complete, each under the condition and with the result that its clause gives, after
R558 to R568 and R572. Clause by clause: `wdgKick`: R559, R563, R572: the service is accepted, and the seed is renewed.
`wdgKick`: R559, R564: an early service or a wrong answer is a violation: it has the actions of an expiry. `wdgKick`:
R558: a wrong key is counted and is no service. `wdgKick`: R558, R574: a watchdog that does not run, or whose timeout
has been reached, is not served. `wdgKick`: R560: another ward serves none. `wardWatchdogExpiry`: R562: the expiry is
counted, WDO is pulsed where enabled, and the ward is reset with reason 3. `wardWatchdogExpiry`: R562, R575: a ward that
a fault holds stays *Held*; its watchdog has expired. `wardWatchdogExpiry`: R557, R561: before its timeout none expires.
`dwdExpiry`: R565: the device watchdog's expiry is counted, entered in the history and orders a device soft reset.
`dwdExpiry`: R557: before its timeout it does not expire. `wdoPulseEnd`: R60, R568: at its width WDO returns to its
inactive level, or to high impedance after a logic-die reset. `wdoPulseEnd`: R568: before its width it goes on. -/
def Obligations.WatchdogCommands : Prop :=
  (∀ (s : State) (w : Fin 8) (k : Fin 9) (v : Word), Can.wdgKick w k v s = true → Completes (.wdgKick w k v) s (fun h =>
      (h.wd k).since = s.hub.clk.mclk ∧ (h.wd k).first = false ∧ (h.wd k).state = 1 ∧ h.ret.expiries = s.hub.ret.expiries ∧ h.regs = s.hub.regs ∧ (s.hub.flag WDG_CFG_chal_en k = true → (h.wd k).seed ≠ (s.hub.wd k).seed ∧ (h.wd k).seed ≠ 0) ∧ (s.hub.flag WDG_CFG_chal_en k = false → (h.wd k).seed = (s.hub.wd k).seed))) ∧
  (∀ (s : State) (w : Fin 8) (k : Fin 9) (v : Word), Can.wdgKick2 w k v s = true → Completes (.wdgKick w k v) s (fun h =>
      h.rd WDG_STAT_last_cause k = (if s.hub.wdOpen k then 3 else 2) ∧ vget h.ret.expiries k 0 = satInc 65535 (vget s.hub.ret.expiries k 0) ∧ (k = 8 → h.dev.softReset.isSome = true ∧ (h.wd 8).state = 3))) ∧
  (∀ (s : State) (w : Fin 8) (k : Fin 9) (v : Word), Can.wdgKick3 w k v s = true → Completes (.wdgKick w k v) s (fun h =>
      h.rd WDG_CNT_bad_key k = satInc (2 ^ WDG_CNT_bad_key.width - 1) (s.hub.rd WDG_CNT_bad_key k) ∧ h.wds = s.hub.wds ∧ h.ret = s.hub.ret)) ∧
  (∀ (s : State) (w : Fin 8) (k : Fin 9) (v : Word), Can.wdgKick4 w k v s = true → Completes (.wdgKick w k v) s (fun h =>
      h.wds = s.hub.wds ∧ h.regs = s.hub.regs ∧ h.ret = s.hub.ret)) ∧
  (∀ (s : State) (w : Fin 8) (k : Fin 9) (v : Word), Can.wdgKick5 w k v s = true → Completes (.wdgKick w k v) s (fun h =>
      h.wds = s.hub.wds ∧ h.regs = s.hub.regs ∧ h.ret = s.hub.ret)) ∧
  (∀ (s : State) (w : Fin 8), Can.wardWatchdogExpiry w s = true → Completes (.wardWatchdogExpiry w) s (fun h =>
      vget h.ret.expiries w 0 = satInc 65535 (vget s.hub.ret.expiries w 0) ∧ h.ret.wdTotal = satInc (2 ^ 32 - 1) s.hub.ret.wdTotal ∧ h.rd WDG_STAT_last_cause w = 1 ∧ h.ward w = .reset ∧ h.rd RST_WARD_STAT_reason w = 3 ∧ (s.hub.ward w ≠ .reset → (h.wd w).state = 0) ∧
        (bitOf (s.hub.rd WDG_WDO_CFG_en_mask) w = true → h.flag WDG_WDO_STAT_active = true))) ∧
  (∀ (s : State) (w : Fin 8), Can.wardWatchdogExpiry2 w s = true → Completes (.wardWatchdogExpiry w) s (fun h =>
      vget h.ret.expiries w 0 = satInc 65535 (vget s.hub.ret.expiries w 0) ∧ h.rd WDG_STAT_last_cause w = 1 ∧ h.ward w = .held ∧ (h.wd w).state = 3)) ∧
  (∀ (s : State) (w : Fin 8), Can.wardWatchdogExpiry3 w s = true → Completes (.wardWatchdogExpiry w) s (fun h =>
      h.wds = s.hub.wds ∧ h.ret = s.hub.ret ∧ h.regs = s.hub.regs)) ∧
  (∀ (s : State), Can.dwdExpiry s = true → Completes (.dwdExpiry) s (fun h =>
      (s.hub.dev.softReset = none → h.dev.softReset = some (7, 15)) ∧ vget h.ret.expiries 8 0 = satInc 65535 (vget s.hub.ret.expiries 8 0) ∧ h.ret.wdTotal = satInc (2 ^ 32 - 1) s.hub.ret.wdTotal ∧ h.rd WDG_STAT_last_cause 8 = 1 ∧ (h.wd 8).state = 3 ∧ h.ret.hist.head?.map (fun x => x % 16) = some 7 ∧ (bitOf (s.hub.rd WDG_WDO_CFG_en_mask) 8 = true → h.flag WDG_WDO_STAT_active = true))) ∧
  (∀ (s : State), Can.dwdExpiry2 s = true → Completes (.dwdExpiry) s (fun h =>
      h.wds = s.hub.wds ∧ h.ret = s.hub.ret ∧ h.regs = s.hub.regs ∧ h.dev = s.hub.dev)) ∧
  (∀ (s : State), Can.wdoPulseEnd s = true → Completes (.wdoPulseEnd) s (fun h =>
      h.flag WDG_WDO_STAT_active = false ∧ h.wdo.pin = (if s.hub.wdo.reset then 0 else 1) ∧ h.wds = s.hub.wds)) ∧
  (∀ (s : State), Can.wdoPulseEnd2 s = true → Completes (.wdoPulseEnd) s (fun h =>
      h.wdo = s.hub.wdo ∧ h.regs = s.hub.regs))

/-- When `bstLogic` has its effect. R14, R480: an order that the scheduler may not admit now waits as a candidate. -/
def Sys2Proof.Machine.Can.bstLogic (w : Fin 8) (v : Word) (s : State) : Bool :=
  s.hub.writable w && w.val == 0 && v.toNat / 2 ^ 16 == 0x4253 && v.toNat % 4 == 1 && s.hub.bstStatus v.toNat == 0 && !((((s.hub.put BST_STAT_busy true).wr BST_STAT_kind 1).wr BST_STAT_result 0).judgeCand (bstCand 1)).1

/-- When `bstLogic` has its effect. R584, R599: without the key, from another ward, while busy or with no group selected
nothing begins. -/
def Sys2Proof.Machine.Can.bstLogic2 (w : Fin 8) (v : Word) (s : State) : Bool :=
  !(s.hub.writable w && w.val == 0 && v.toNat / 2 ^ 16 == 0x4253 && v.toNat % 4 == 1 && s.hub.bstStatus v.toNat == 0)

/-- When `bstField` has its effect. R14, R480: an order that the scheduler may not admit now waits as a candidate. -/
def Sys2Proof.Machine.Can.bstField (w : Fin 8) (v : Word) (s : State) : Bool :=
  s.hub.writable w && w.val == 0 && v.toNat / 2 ^ 16 == 0x4253 && v.toNat % 4 == 2 && s.hub.bstStatus v.toNat == 0 && !((((s.hub.put BST_STAT_busy true).wr BST_STAT_kind 2).wr BST_STAT_result 0).judgeCand (bstCand 2)).1

/-- When `bstField` has its effect. R584, R599: without the key, from another ward, while busy or with no group selected
nothing begins. -/
def Sys2Proof.Machine.Can.bstField2 (w : Fin 8) (v : Word) (s : State) : Bool :=
  !(s.hub.writable w && w.val == 0 && v.toNat / 2 ^ 16 == 0x4253 && v.toNat % 4 == 2 && s.hub.bstStatus v.toNat == 0)

/-- When `bstLogicThenField` has its effect. R14, R480: an order that the scheduler may not admit now waits as a
candidate. -/
def Sys2Proof.Machine.Can.bstLogicThenField (w : Fin 8) (v : Word) (s : State) : Bool :=
  s.hub.writable w && w.val == 0 && v.toNat / 2 ^ 16 == 0x4253 && v.toNat % 4 == 3 && s.hub.bstStatus v.toNat == 0 && !((((s.hub.put BST_STAT_busy true).wr BST_STAT_kind 3).wr BST_STAT_result 0).judgeCand (bstCand 3)).1

/-- When `bstLogicThenField` has its effect. R584, R599: without the key, from another ward, while busy or with no group
selected nothing begins. -/
def Sys2Proof.Machine.Can.bstLogicThenField2 (w : Fin 8) (v : Word) (s : State) : Bool :=
  !(s.hub.writable w && w.val == 0 && v.toNat / 2 ^ 16 == 0x4253 && v.toNat % 4 == 3 && s.hub.bstStatus v.toNat == 0)

/-- When `bstLogic` has its effect. R584 to R586: the hub enters *Test*; tumblers stop, watchdogs freeze, pages 0 to 2
close, and ERR is latched. -/
def Sys2Proof.Machine.Can.bstLogic3 (w : Fin 8) (v : Word) (s : State) : Bool :=
  s.hub.writable w && w.val == 0 && v.toNat / 2 ^ 16 == 0x4253 && v.toNat % 4 == 1 && s.hub.bstStatus v.toNat == 0 && ((((s.hub.put BST_STAT_busy true).wr BST_STAT_kind 1).wr BST_STAT_result 0).judgeCand (bstCand 1)).1

/-- When `bstField` has its effect. R585, R590: every output channel is sent to its safe state. -/
def Sys2Proof.Machine.Can.bstField3 (w : Fin 8) (v : Word) (s : State) : Bool :=
  s.hub.writable w && w.val == 0 && v.toNat / 2 ^ 16 == 0x4253 && v.toNat % 4 == 2 && s.hub.bstStatus v.toNat == 0 && ((((s.hub.put BST_STAT_busy true).wr BST_STAT_kind 2).wr BST_STAT_result 0).judgeCand (bstCand 2)).1

/-- When `bstLogicThenField` has its effect. R584: the logic part comes first, and the field part follows. -/
def Sys2Proof.Machine.Can.bstLogicThenField3 (w : Fin 8) (v : Word) (s : State) : Bool :=
  s.hub.writable w && w.val == 0 && v.toNat / 2 ^ 16 == 0x4253 && v.toNat % 4 == 3 && s.hub.bstStatus v.toNat == 0 && ((((s.hub.put BST_STAT_busy true).wr BST_STAT_kind 3).wr BST_STAT_result 0).judgeCand (bstCand 3)).1

/-- When `bstXctrlWrite` has its effect. R599: the masks of the groups are taken. -/
def Sys2Proof.Machine.Can.bstXctrlWrite (w : Fin 8) (_v : Word) (s : State) : Bool :=
  s.hub.writable w && w.val == 0 && bitOf (s.hub.rd WRD_EXP_OPEN_open 0) 2

/-- When `bstXctrlWrite` has its effect. R599: with page 2 closed, or from another ward, nothing is written. -/
def Sys2Proof.Machine.Can.bstXctrlWrite2 (w : Fin 8) (_v : Word) (s : State) : Bool :=
  !(s.hub.writable w && w.val == 0 && bitOf (s.hub.rd WRD_EXP_OPEN_open 0) 2)

/-- W0's orders of a self-test and the masks of its groups complete, each under the condition and with the result that
its clause gives, after R584, R585 and R599. Clause by clause: `bstLogic`: R14, R480: an order that the scheduler may
not admit now waits as a candidate. `bstLogic`: R584, R599: without the key, from another ward, while busy or with no
group selected nothing begins. `bstField`: R14, R480: an order that the scheduler may not admit now waits as a
candidate. `bstField`: R584, R599: without the key, from another ward, while busy or with no group selected nothing
begins. `bstLogicThenField`: R14, R480: an order that the scheduler may not admit now waits as a candidate.
`bstLogicThenField`: R584, R599: without the key, from another ward, while busy or with no group selected nothing
begins. `bstLogic`: R584 to R586: the hub enters *Test*; tumblers stop, watchdogs freeze, pages 0 to 2 close, and ERR is
latched. `bstField`: R585, R590: every output channel is sent to its safe state. `bstLogicThenField`: R584: the logic
part comes first, and the field part follows. `bstXctrlWrite`: R599: the masks of the groups are taken. `bstXctrlWrite`:
R599: with page 2 closed, or from another ward, nothing is written. -/
def Obligations.SelfTestOrders : Prop :=
  (∀ (s : State) (w : Fin 8) (v : Word), Can.bstLogic w v s = true → Completes (.bstLogic w v) s (fun h =>
      h.flag BST_STAT_busy = true ∧ h.rd BST_STAT_kind = 1 ∧ h.rd BST_STAT_result = 0 ∧ (s.hub.sch.queue.any (fun x => x.kind == .bist && x.ref == 1) = false → h.sch.queue = s.hub.sch.queue ++ [{ bstCand 1 with at_ := s.hub.clk.now }]) ∧ h.dev = s.hub.dev ∧ h.bst = s.hub.bst)) ∧
  (∀ (s : State) (w : Fin 8) (v : Word), Can.bstLogic2 w v s = true → Completes (.bstLogic w v) s (fun h =>
      h.regs = s.hub.regs ∧ h.dev = s.hub.dev ∧ h.bst = s.hub.bst ∧ h.sch = s.hub.sch)) ∧
  (∀ (s : State) (w : Fin 8) (v : Word), Can.bstField w v s = true → Completes (.bstField w v) s (fun h =>
      h.flag BST_STAT_busy = true ∧ h.rd BST_STAT_kind = 2 ∧ h.rd BST_STAT_result = 0 ∧ (s.hub.sch.queue.any (fun x => x.kind == .bist && x.ref == 2) = false → h.sch.queue = s.hub.sch.queue ++ [{ bstCand 2 with at_ := s.hub.clk.now }]) ∧ h.dev = s.hub.dev ∧ h.bst = s.hub.bst)) ∧
  (∀ (s : State) (w : Fin 8) (v : Word), Can.bstField2 w v s = true → Completes (.bstField w v) s (fun h =>
      h.regs = s.hub.regs ∧ h.dev = s.hub.dev ∧ h.bst = s.hub.bst ∧ h.sch = s.hub.sch)) ∧
  (∀ (s : State) (w : Fin 8) (v : Word), Can.bstLogicThenField w v s = true → Completes (.bstLogicThenField w v) s (fun h =>
      h.flag BST_STAT_busy = true ∧ h.rd BST_STAT_kind = 3 ∧ h.rd BST_STAT_result = 0 ∧ (s.hub.sch.queue.any (fun x => x.kind == .bist && x.ref == 3) = false → h.sch.queue = s.hub.sch.queue ++ [{ bstCand 3 with at_ := s.hub.clk.now }]) ∧ h.dev = s.hub.dev ∧ h.bst = s.hub.bst)) ∧
  (∀ (s : State) (w : Fin 8) (v : Word), Can.bstLogicThenField2 w v s = true → Completes (.bstLogicThenField w v) s (fun h =>
      h.regs = s.hub.regs ∧ h.dev = s.hub.dev ∧ h.bst = s.hub.bst ∧ h.sch = s.hub.sch)) ∧
  (∀ (s : State) (w : Fin 8) (v : Word), Can.bstLogic3 w v s = true → Completes (.bstLogic w v) s (fun h =>
      h.dev.test = true ∧ h.dev.testHold = s.hub.errLow ∧ h.bst.todo = bitList 6 (s.hub.rd BST_XCTRL_lg_mask) ∧ h.rd BST_STAT_group = (bitList 6 (s.hub.rd BST_XCTRL_lg_mask)).headD 15 ∧ h.bst.fieldNext = false ∧ h.bst.start = s.hub.clk.now ∧ h.bst.fails = 0 ∧ h.rd BST_STAT_kind = 1 ∧ h.flag BST_STAT_busy = true ∧ h.rd BST_STAT_result = 0 ∧ h.flag BST_STAT_boot = false ∧ (∀ t : Fin 8, h.tmbRuns t = false) ∧ (∀ k : Fin 9, (h.wd k).state ≠ 1) ∧ h.rd WRD_EXP_OPEN_open 0 &&& 7 = 0 ∧ h.dbt.proof = none ∧ h.flag BST_STAT_busy = true)) ∧
  (∀ (s : State) (w : Fin 8) (v : Word), Can.bstField3 w v s = true → Completes (.bstField w v) s (fun h =>
      h.dev.test = true ∧ h.dev.testHold = false ∧ h.bst.field = true ∧ h.bst.start = s.hub.clk.now ∧ h.bst.fails = 0 ∧ h.rd BST_STAT_kind = 2 ∧ (∀ c ∈ s.hub.outList, h.flag OUT_STAT_safe_hold c = true ∧ vget h.hinge.cmd c 0 = 2) ∧ h.flag BST_STAT_busy = true ∧ h.rd BST_STAT_result = 0 ∧ h.flag BST_STAT_boot = false ∧ (∀ t : Fin 8, h.tmbRuns t = false) ∧ (∀ k : Fin 9, (h.wd k).state ≠ 1) ∧ h.rd WRD_EXP_OPEN_open 0 &&& 7 = 0 ∧ h.dbt.proof = none ∧ h.flag BST_STAT_busy = true)) ∧
  (∀ (s : State) (w : Fin 8) (v : Word), Can.bstLogicThenField3 w v s = true → Completes (.bstLogicThenField w v) s (fun h =>
      h.dev.test = true ∧ h.dev.testHold = s.hub.errLow ∧ h.bst.todo = bitList 6 (s.hub.rd BST_XCTRL_lg_mask) ∧ h.bst.fieldNext = true ∧ h.bst.field = false ∧ h.bst.start = s.hub.clk.now ∧ h.bst.fails = 0 ∧ h.rd BST_STAT_kind = 3 ∧ h.flag BST_STAT_busy = true ∧ h.rd BST_STAT_result = 0 ∧ h.flag BST_STAT_boot = false ∧ (∀ t : Fin 8, h.tmbRuns t = false) ∧ (∀ k : Fin 9, (h.wd k).state ≠ 1) ∧ h.rd WRD_EXP_OPEN_open 0 &&& 7 = 0 ∧ h.dbt.proof = none ∧ h.flag BST_STAT_busy = true)) ∧
  (∀ (s : State) (w : Fin 8) (v : Word), Can.bstXctrlWrite w v s = true → Completes (.bstXctrlWrite w v) s (fun h =>
      h.rd BST_XCTRL_lg_mask = bitsOf v.toNat 8 6 ∧ h.rd BST_XCTRL_fg_mask = v.toNat % 32 ∧ h.bst = s.hub.bst)) ∧
  (∀ (s : State) (w : Fin 8) (v : Word), Can.bstXctrlWrite2 w v s = true → Completes (.bstXctrlWrite w v) s (fun h =>
      h.regs = s.hub.regs ∧ h.bst = s.hub.bst))

/-- When `groupTestDone` has its effect. R586, R591: the raw signature is shown, and a group whose signature differs
fails; the controllers' own check counts with the first group. -/
def Sys2Proof.Machine.Can.groupTestDone (_sig : Word) (_selfOk : Bool) (badCopies : Fin 3) (s : State) : Bool :=
  s.hub.dev.test && !s.hub.bst.field && !s.hub.bst.todo.isEmpty && badCopies != 2 && s.hub.bst.todo.all (fun g => decide (g < 6))

/-- When `groupTestDone` has its effect. R588: with both saved copies bad the hub goes to *Safe*. -/
def Sys2Proof.Machine.Can.groupTestDone2 (_sig : Word) (_selfOk : Bool) (badCopies : Fin 3) (s : State) : Bool :=
  s.hub.dev.test && !s.hub.bst.field && !s.hub.bst.todo.isEmpty && badCopies == 2

/-- When `groupTestDone` has its effect. R586: with no logic group under test there is no signature. -/
def Sys2Proof.Machine.Can.groupTestDone3 (_sig : Word) (_selfOk : Bool) (_badCopies : Fin 3) (s : State) : Bool :=
  !s.hub.dev.test || s.hub.bst.field || s.hub.bst.todo.isEmpty

/-- When `logicLbistEnd` has its effect. R586: the field die's states are adopted, the test is counted, and the hub
leaves *Test*. -/
def Sys2Proof.Machine.Can.logicLbistEnd (s : State) : Bool :=
  s.hub.dev.test && !s.hub.bst.field && s.hub.bst.todo.isEmpty && !s.hub.bst.fieldNext && s.hub.hinge.upL && !s.hub.flag HNG_STAT_rejoin

/-- When `logicLbistEnd` has its effect. R586: before the last group, or while the link does not stand, the logic part
does not end. -/
def Sys2Proof.Machine.Can.logicLbistEnd2 (s : State) : Bool :=
  !s.hub.dev.test || s.hub.bst.field || !s.hub.bst.todo.isEmpty || (!s.hub.bst.fieldNext && (!s.hub.hinge.upL || s.hub.flag HNG_STAT_rejoin))

/-- When `logicLbistEnd` has its effect. R586, R590: the field part of kind 3 follows a passing logic part. -/
def Sys2Proof.Machine.Can.logicLbistEnd3 (s : State) : Bool :=
  s.hub.dev.test && !s.hub.bst.field && s.hub.bst.todo.isEmpty && s.hub.bst.fieldNext && s.hub.bst.fails % 64 == 0

/-- When `logicLbistEnd` has its effect. R586, R593: a failing logic part raises BST_LOGIC; where its reaction leaves
the hub in *Test*, the field part follows. -/
def Sys2Proof.Machine.Can.logicLbistEnd4 (s : State) : Bool :=
  s.hub.dev.test && !s.hub.bst.field && s.hub.bst.todo.isEmpty && s.hub.bst.fieldNext && s.hub.bst.fails % 64 != 0

/-- When `fieldLbistEnd` has its effect. R590, R591: the signatures are shown and judged, the field die is configured
again, and the hub leaves *Test*. -/
def Sys2Proof.Machine.Can.fieldLbistEnd (sigs : List Word) (_selfOk : Bool) (confirmed : Bool) (s : State) : Bool :=
  s.hub.dev.test && s.hub.bst.fieldRuns && sigs.length == (bitList 5 (s.hub.rd BST_XCTRL_fg_mask)).length && confirmed && s.hub.sup.vfValid

/-- When `fieldLbistEnd` has its effect. R67, R590: without the confirmation, or with VF not valid, the test ends
aborted. -/
def Sys2Proof.Machine.Can.fieldLbistEnd2 (sigs : List Word) (_selfOk : Bool) (confirmed : Bool) (s : State) : Bool :=
  s.hub.dev.test && s.hub.bst.fieldRuns && sigs.length == (bitList 5 (s.hub.rd BST_XCTRL_fg_mask)).length && (!confirmed || !s.hub.sup.vfValid)

/-- When `fieldLbistEnd` has its effect. R590: with no field part running there is no end. -/
def Sys2Proof.Machine.Can.fieldLbistEnd3 (_sigs : List Word) (_selfOk : Bool) (_confirmed : Bool) (s : State) : Bool :=
  !s.hub.dev.test || !s.hub.bst.fieldRuns

/-- When `testAbort` has its effect. R589: the test ends aborted, and the hub is in *Safe*. -/
def Sys2Proof.Machine.Can.testAbort (n : Fin 62) (_detail : Word) (s : State) : Bool :=
  s.hub.dev.test && s.hub.fltClass n == 5 && s.hub.fltEnabled n && s.hub.causes n == 0 && s.hub.fltMask n == 0 && !s.hub.proofHides n 16 && !s.hub.dev.safe

/-- When `testAbort` has its effect. R589: only a fault whose reaction is device *Safe* ends a test. -/
def Sys2Proof.Machine.Can.testAbort2 (n : Fin 62) (_detail : Word) (s : State) : Bool :=
  !(s.hub.dev.test && s.hub.fltClass n == 5 && s.hub.fltEnabled n)

/-- When `bootLbist` has its effect. R594: the boot test reports its signatures, its result and its time. -/
def Sys2Proof.Machine.Can.bootLbist (sigs : List Word) (_selfOk : Bool) (_time : BitVec 16) (s : State) : Bool :=
  s.hub.dev.phase == .arming && s.hub.blk.applied && s.hub.flag BST_CFG_boot_lbist && !s.hub.bst.bootDone && s.hub.hinge.configured && s.hub.hinge.upL && s.hub.flag DBT_STARTUP_done && s.hub.rd DBT_STARTUP_passed == 2 ^ 14 - 1 && s.hub.dev.halt.isNone && s.hub.sup.pd.isNone && !s.hub.sup.warn && sigs.length == 11

/-- When `bootLbist` has its effect. R64, R594: it runs once, at the end of an *Arming* that asks for it, outside a VDD
warning. -/
def Sys2Proof.Machine.Can.bootLbist2 (sigs : List Word) (_selfOk : Bool) (_time : BitVec 16) (s : State) : Bool :=
  !(s.hub.dev.phase == .arming && s.hub.blk.applied && s.hub.flag BST_CFG_boot_lbist && !s.hub.bst.bootDone && s.hub.hinge.configured && s.hub.hinge.upL && s.hub.flag DBT_STARTUP_done && s.hub.rd DBT_STARTUP_passed == 2 ^ 14 - 1 && s.hub.dev.halt.isNone && s.hub.sup.pd.isNone && !s.hub.sup.warn && sigs.length == 11)

/-- When `bootMemTest` has its effect. R595: the lowest failing bank is reported with its first failing word and their
number, and every word is zero afterwards. -/
def Sys2Proof.Machine.Can.bootMemTest (_bad : List (Fin 48 × Fin 4096)) (s : State) : Bool :=
  s.hub.dev.phase == .arming && !s.hub.blk.applied && !s.hub.bst.memDone && s.hub.memoryReady && !s.hub.sup.warn && fileGet s.hub.blk.config (fldKey BST_CFG_boot_mem 0 0) != 0

/-- When `bootMemTest` has its effect. R64, R595: it runs once, in an *Arming* that asks for it, outside a VDD warning.
-/
def Sys2Proof.Machine.Can.bootMemTest2 (_bad : List (Fin 48 × Fin 4096)) (s : State) : Bool :=
  !(s.hub.dev.phase == .arming && !s.hub.blk.applied && !s.hub.bst.memDone && s.hub.memoryReady && !s.hub.sup.warn && fileGet s.hub.blk.config (fldKey BST_CFG_boot_mem 0 0) != 0)

/-- Groups deliver their signatures, tests end with their results or are aborted, and the boot tests report (R586 to
R595), each under the condition and with the result that its clause gives. Clause by clause: `groupTestDone`: R586,
R591: the raw signature is shown, and a group whose signature differs fails; the controllers' own check counts with the
first group. `groupTestDone`: R588: with both saved copies bad the hub goes to *Safe*. `groupTestDone`: R586: with no
logic group under test there is no signature. `logicLbistEnd`: R586: the field die's states are adopted, the test is
counted, and the hub leaves *Test*. `logicLbistEnd`: R586: before the last group, or while the link does not stand, the
logic part does not end. `logicLbistEnd`: R586, R590: the field part of kind 3 follows a passing logic part.
`logicLbistEnd`: R586, R593: a failing logic part raises BST_LOGIC; where its reaction leaves the hub in *Test*, the
field part follows. `fieldLbistEnd`: R590, R591: the signatures are shown and judged, the field die is configured again,
and the hub leaves *Test*. `fieldLbistEnd`: R67, R590: without the confirmation, or with VF not valid, the test ends
aborted. `fieldLbistEnd`: R590: with no field part running there is no end. `testAbort`: R589: the test ends aborted,
and the hub is in *Safe*. `testAbort`: R589: only a fault whose reaction is device *Safe* ends a test. `bootLbist`:
R594: the boot test reports its signatures, its result and its time. `bootLbist`: R64, R594: it runs once, at the end of
an *Arming* that asks for it, outside a VDD warning. `bootMemTest`: R595: the lowest failing bank is reported with its
first failing word and their number, and every word is zero afterwards. `bootMemTest`: R64, R595: it runs once, in an
*Arming* that asks for it, outside a VDD warning. -/
def Obligations.SelfTestResults : Prop :=
  (∀ (s : State) (sig : Word) (selfOk : Bool) (badCopies : Fin 3), Can.groupTestDone sig selfOk badCopies s = true → Completes (.groupTestDone sig selfOk badCopies) s (fun h =>
      h.bst.todo = s.hub.bst.todo.tail ∧ h.rd BST_STAT_group = s.hub.bst.todo.tail.headD 15 % 16 ∧ (∀ g ∈ s.hub.bst.todo.head?.toList, h.rd BST_SIG_LG_sig g = sig.toNat ∧ bitOf h.bst.fails g = (bitOf s.hub.bst.fails g || sig.toNat != expSig s.hub.chip.rev g || (!selfOk && g == (s.hub.lbistGroups (s.hub.rd BST_STAT_kind)).1.headD g)) ∧ (∀ k : Fin 11, k.val ≠ g → bitOf h.bst.fails k = bitOf s.hub.bst.fails k)) ∧ h.dev = s.hub.dev)) ∧
  (∀ (s : State) (sig : Word) (selfOk : Bool) (badCopies : Fin 3), Can.groupTestDone2 sig selfOk badCopies s = true → Completes (.groupTestDone sig selfOk badCopies) s (fun h =>
      h.flag BST_STAT_restore_fail = true ∧ h.dev.safe = true ∧ h.dev.test = false ∧ h.rd BST_STAT_result = 2 ∧ h.flag BST_STAT_busy = false ∧ (s.hub.proofHides 52 16 = false → caused h 52 16 = true) ∧ (s.hub.dev.safe = false → h.rd DBT_SAFE_CAUSE_source = 52 ∧ h.hinge.daWant = .bolt))) ∧
  (∀ (s : State) (sig : Word) (selfOk : Bool) (badCopies : Fin 3), Can.groupTestDone3 sig selfOk badCopies s = true → Completes (.groupTestDone sig selfOk badCopies) s (fun h =>
      h.bst = s.hub.bst ∧ h.dev = s.hub.dev ∧ h.regs = s.hub.regs)) ∧
  (∀ (s : State), Can.logicLbistEnd s = true → Completes (.logicLbistEnd) s (fun h =>
      h.dev.test = false ∧ h.flag BST_STAT_busy = false ∧ h.rd BST_STAT_fail_groups = s.hub.bst.fails % 2 ^ 11 ∧ h.rd BST_STAT_result = (if s.hub.bst.fails = 0 then 1 else 2) ∧ (s.hub.bst.fails % 64 = 0 → caused h 52 16 = false) ∧ (s.hub.bst.fails % 64 ≠ 0 → s.hub.proofHides 52 16 = false → caused h 52 16 = true) ∧ h.rd BST_RUNS_runs = satInc (2 ^ BST_RUNS_runs.width - 1) (s.hub.rd BST_RUNS_runs) ∧
        (∀ c ∈ s.hub.outList, s.hub.rd OUT_CFG_src (s.hub.lead c) = 0 → s.hub.lead c = c → s.hub.mate c = none → h.flag OUT_CTRL_on c = (s.hub.out c).latched))) ∧
  (∀ (s : State), Can.logicLbistEnd2 s = true → Completes (.logicLbistEnd) s (fun h =>
      h.bst = s.hub.bst ∧ h.dev = s.hub.dev ∧ h.regs = s.hub.regs ∧ h.outs = s.hub.outs)) ∧
  (∀ (s : State), Can.logicLbistEnd3 s = true → Completes (.logicLbistEnd) s (fun h =>
      h.dev.test = true ∧ h.dev.testHold = false ∧ h.bst.field = true ∧ h.bst.fieldNext = false ∧ caused h 52 16 = false ∧ (∀ c ∈ s.hub.outList, vget h.hinge.cmd c 0 = 2))) ∧
  (∀ (s : State), Can.logicLbistEnd4 s = true → Completes (.logicLbistEnd) s (fun h =>
      (s.hub.proofHides 52 16 = false → caused h 52 16 = true) ∧ (h.dev.test = true → h.bst.field = true) ∧ (h.dev.test = false → h.flag BST_STAT_busy = false))) ∧
  (∀ (s : State) (sigs : List Word) (selfOk : Bool) (confirmed : Bool), Can.fieldLbistEnd sigs selfOk confirmed s = true → Completes (.fieldLbistEnd sigs selfOk confirmed) s (fun h =>
      h.dev.test = false ∧ h.flag BST_STAT_busy = false ∧ h.hinge.configured = true ∧ h.rd BST_STAT_result = (if h.rd BST_STAT_fail_groups = 0 then 1 else 2) ∧ h.bst.fieldRuns = false ∧ h.rd BST_RUNS_runs = satInc (2 ^ BST_RUNS_runs.width - 1) (s.hub.rd BST_RUNS_runs) ∧ (s.hub.proofHides 53 16 = false → caused h 53 16 = decide (2 ^ 6 ≤ h.rd BST_STAT_fail_groups)) ∧ (∀ i ∈ h.ins, i.valid = false) ∧
        (∀ x ∈ (bitList 5 (s.hub.rd BST_XCTRL_fg_mask)).zip sigs, x.1 < 5 → h.rd BST_SIG_FG_sig x.1 = x.2.toNat ∧ bitOf (h.rd BST_STAT_fail_groups) (6 + x.1) = (bitOf s.hub.bst.fails (6 + x.1) || x.2.toNat != expSig s.hub.chip.rev (6 + x.1) || (!selfOk && x.1 == (bitList 5 (s.hub.rd BST_XCTRL_fg_mask)).headD 0))))) ∧
  (∀ (s : State) (sigs : List Word) (selfOk : Bool) (confirmed : Bool), Can.fieldLbistEnd2 sigs selfOk confirmed s = true → Completes (.fieldLbistEnd sigs selfOk confirmed) s (fun h =>
      h.dev.test = false ∧ h.rd BST_STAT_result = 3 ∧ h.flag BST_STAT_busy = false ∧ h.outs = s.hub.outs ∧ h.ins = s.hub.ins ∧ h.rd BST_RUNS_runs = satInc (2 ^ BST_RUNS_runs.width - 1) (s.hub.rd BST_RUNS_runs))) ∧
  (∀ (s : State) (sigs : List Word) (selfOk : Bool) (confirmed : Bool), Can.fieldLbistEnd3 sigs selfOk confirmed s = true → Completes (.fieldLbistEnd sigs selfOk confirmed) s (fun h =>
      h.bst = s.hub.bst ∧ h.dev = s.hub.dev ∧ h.regs = s.hub.regs)) ∧
  (∀ (s : State) (n : Fin 62) (detail : Word), Can.testAbort n detail s = true → Completes (.testAbort n detail) s (fun h =>
      h.dev.test = false ∧ h.dev.safe = true ∧ h.rd BST_STAT_result = 3 ∧ h.flag BST_STAT_busy = false ∧ h.rd DBT_SAFE_CAUSE_source = n.val ∧ (eventSources.contains n.val = false → caused h n 16 = true) ∧ h.hinge.daWant = .bolt)) ∧
  (∀ (s : State) (n : Fin 62) (detail : Word), Can.testAbort2 n detail s = true → Completes (.testAbort n detail) s (fun h =>
      h.bst = s.hub.bst ∧ h.dev = s.hub.dev ∧ h.regs = s.hub.regs)) ∧
  (∀ (s : State) (sigs : List Word) (selfOk : Bool) (time : BitVec 16), Can.bootLbist sigs selfOk time s = true → Completes (.bootLbist sigs selfOk time) s (fun h =>
      h.bst.bootDone = true ∧ h.bst.fails = 0 ∧ h.rd BST_STAT_kind = 4 ∧ h.flag BST_STAT_boot = true ∧ h.rd BST_STAT_fail_groups = h.bst.bootFail % 2 ^ 11 ∧ h.rd BST_TIME_time = time.toNat ∧ h.rd BST_STAT_result = (if h.bst.bootFail = 0 then 1 else 2) ∧ h.rd BST_RUNS_runs = satInc (2 ^ BST_RUNS_runs.width - 1) (s.hub.rd BST_RUNS_runs) ∧ (∀ g : Fin 11, ∀ x ∈ ((sigs.map BitVec.toNat)[g.val]?).toList, (if g.val < 6 then h.rd BST_SIG_LG_sig g else h.rd BST_SIG_FG_sig (g - 6)) = x ∧ bitOf h.bst.bootFail g = (bitOf s.hub.bst.fails g || x != expSig s.hub.chip.rev g || (!selfOk && g.val == 0))))) ∧
  (∀ (s : State) (sigs : List Word) (selfOk : Bool) (time : BitVec 16), Can.bootLbist2 sigs selfOk time s = true → Completes (.bootLbist sigs selfOk time) s (fun h =>
      h.bst = s.hub.bst ∧ h.dev = s.hub.dev ∧ h.regs = s.hub.regs)) ∧
  (∀ (s : State) (bad : List (Fin 48 × Fin 4096)), Can.bootMemTest bad s = true → Completes (.bootMemTest bad) s (fun h =>
      h.bst.memDone = true ∧ h.bst.memFail = !bad.isEmpty ∧ h.flag BST_MEM_fail = !bad.isEmpty ∧ (∀ b : Fin 48, h.memWord (bankAddr b 0) = 0) ∧ (∀ x ∈ bad, h.rd BST_MEM_bank ≤ x.1.val) ∧ (bad ≠ [] → (bad.any (fun x => x.1.val == h.rd BST_MEM_bank && x.2.val == h.rd BST_MEM_word)) = true) ∧ h.rd BST_MEM_banks = ((List.range 48).filter (fun b => bad.any (fun x => x.1.val == b))).length ∧ (bad = [] → h.rd BST_MEM_bank = 0 ∧ h.rd BST_MEM_word = 0))) ∧
  (∀ (s : State) (bad : List (Fin 48 × Fin 4096)), Can.bootMemTest2 bad s = true → Completes (.bootMemTest bad) s (fun h =>
      h.bst = s.hub.bst ∧ h.dev = s.hub.dev ∧ h.regs = s.hub.regs ∧ h.banks = s.hub.banks))

/-- When `recordIntake` has its effect. R609, R611: the event enters the FIFO with the next number. -/
def Sys2Proof.Machine.Can.recordIntake (_typ : Byte) (_source : Byte) (_sev : Fin 5) (_ward : Byte) (_payload : List Word) (s : State) : Bool :=
  s.hub.logicRuns && !s.hub.flag REC_STAT_exhausted && s.hub.testGroup != 4 && decide (s.hub.recd.fifo.length < 64)

/-- When `recordIntake` has its effect. R610: in a full FIFO an event of no higher severity than the lowest there is
dropped and counted; its number is used up. -/
def Sys2Proof.Machine.Can.recordIntake2 (_typ : Byte) (_source : Byte) (sev : Fin 5) (_ward : Byte) (_payload : List Word) (s : State) : Bool :=
  s.hub.logicRuns && !s.hub.flag REC_STAT_exhausted && s.hub.testGroup != 4 && s.hub.recd.fifo.length == 64 && decide (sev.val ≤ lowestSev s.hub.recd.fifo)

/-- When `recordIntake` has its effect. R610: in a full FIFO the oldest event of the lowest severity gives way to one of
a higher one. -/
def Sys2Proof.Machine.Can.recordIntake3 (_typ : Byte) (_source : Byte) (sev : Fin 5) (_ward : Byte) (_payload : List Word) (s : State) : Bool :=
  s.hub.logicRuns && !s.hub.flag REC_STAT_exhausted && s.hub.testGroup != 4 && s.hub.recd.fifo.length == 64 && decide (lowestSev s.hub.recd.fifo < sev.val)

/-- When `recordIntake` has its effect. R587: while LG4 is under test up to 16 events wait, and further ones are lost
and counted. -/
def Sys2Proof.Machine.Can.recordIntake4 (_typ : Byte) (_source : Byte) (_sev : Fin 5) (_ward : Byte) (_payload : List Word) (s : State) : Bool :=
  s.hub.logicRuns && !s.hub.flag REC_STAT_exhausted && s.hub.testGroup == 4

/-- When `recordIntake` has its effect. R629: after the last number nothing more is recorded. -/
def Sys2Proof.Machine.Can.recordIntake5 (_typ : Byte) (_source : Byte) (_sev : Fin 5) (_ward : Byte) (_payload : List Word) (s : State) : Bool :=
  !s.hub.logicRuns || s.hub.flag REC_STAT_exhausted

/-- When `recordWriteStart` has its effect. R609: 4 µs after its last start the writer takes the first entry. -/
def Sys2Proof.Machine.Can.recordWriteStart (s : State) : Bool :=
  !s.hub.recd.fifo.isEmpty && s.hub.recd.numbering && s.hub.recd.writing.isNone && s.hub.testGroup != 4 && s.hub.recd.startedAt.all (fun t => decide (t + 4 * Config.ticksPerUs ≤ s.hub.clk.now))

/-- When `recordWriteStart` has its effect. R587, R609: before that, while a record is being written, or while LG4 is
under test, none starts. -/
def Sys2Proof.Machine.Can.recordWriteStart2 (s : State) : Bool :=
  !(!s.hub.recd.fifo.isEmpty && s.hub.recd.numbering && s.hub.recd.writing.isNone && s.hub.testGroup != 4 && s.hub.recd.startedAt.all (fun t => decide (t + 4 * Config.ticksPerUs ≤ s.hub.clk.now)))

/-- When `ringWrite` has its effect. R606, R610, R613, R614: the record stands in the slot that the ring's rules choose;
one that finds none is dropped and counted. -/
def Sys2Proof.Machine.Can.ringWrite (s : State) : Bool :=
  s.hub.recd.writing.isSome

/-- When `ringWrite` has its effect. R609: with no record being written nothing changes. -/
def Sys2Proof.Machine.Can.ringWrite2 (s : State) : Bool :=
  s.hub.recd.writing.isNone

/-- When `gapRecord` has its effect. R612: a Gap record carries the drops by severity and the lowest lost number, and
REC_DROP occurs. -/
def Sys2Proof.Machine.Can.gapRecord (s : State) : Bool :=
  s.hub.recd.numbering && s.hub.recd.gapSent.isNone && (List.range 5).any (fun i => vget s.hub.recd.gap i 0 != 0) && decide (s.hub.recd.fifo.length ≤ 16) && s.hub.testGroup != 4 && !s.hub.flag REC_STAT_exhausted

/-- When `gapRecord` has its effect. R587, R612, R629: without drops, with a fuller FIFO, with a Gap record on its way
or after the last number there is none. -/
def Sys2Proof.Machine.Can.gapRecord2 (s : State) : Bool :=
  !(s.hub.recd.numbering && s.hub.recd.gapSent.isNone && (List.range 5).any (fun i => vget s.hub.recd.gap i 0 != 0) && decide (s.hub.recd.fifo.length ≤ 16) && s.hub.testGroup != 4 && !s.hub.flag REC_STAT_exhausted)

/-- When `recRdSqbHiRead` has its effect. R617: the ward's slot advances. -/
def Sys2Proof.Machine.Can.recRdSqbHiRead (w : Fin 8) (s : State) : Bool :=
  s.hub.readable w && s.hub.mayRead w

/-- When `recRdSqbHiRead` has its effect. R617: for a ward that may not read the ring nothing moves. -/
def Sys2Proof.Machine.Can.recRdSqbHiRead2 (w : Fin 8) (s : State) : Bool :=
  !(s.hub.readable w && s.hub.mayRead w)

/-- When `newestSeqRead` has its effect. R648: the upper bits are latched for the ward. -/
def Sys2Proof.Machine.Can.newestSeqRead (w : Fin 8) (s : State) : Bool :=
  s.hub.readable w

/-- When `newestSeqRead` has its effect. R27, R648: no read, no latch. -/
def Sys2Proof.Machine.Can.newestSeqRead2 (w : Fin 8) (s : State) : Bool :=
  !s.hub.readable w

/-- When `pendingRecord` has its effect. R608, R630: the record waits in the retained block. -/
def Sys2Proof.Machine.Can.pendingRecord (k : Fin 4) (_w3 : Word) (_w4 : Word) (_w5 : Word) (s : State) : Bool :=
  (pendSlot s.hub.ret.slots (if k.val < 2 then 4 else 3)).isSome

/-- When `pendingRecord` has its effect. R630: where all four slots hold records of a higher severity it is lost. -/
def Sys2Proof.Machine.Can.pendingRecord2 (k : Fin 4) (_w3 : Word) (_w4 : Word) (_w5 : Word) (s : State) : Bool :=
  (pendSlot s.hub.ret.slots (if k.val < 2 then 4 else 3)).isNone

/-- When `recRtWrite` has its effect. R632: a trim is taken only where it is stricter than the Blank's figure. -/
def Sys2Proof.Machine.Can.recRtWrite (w : Fin 8) (_v : Word) (s : State) : Bool :=
  s.hub.writable w && bitOf (s.hub.rd WRD_EXP_OPEN_open w) 5

/-- When `recRtWrite` has its effect. R632: with page 5 closed nothing is written. -/
def Sys2Proof.Machine.Can.recRtWrite2 (w : Fin 8) (_v : Word) (s : State) : Bool :=
  !(s.hub.writable w && bitOf (s.hub.rd WRD_EXP_OPEN_open w) 5)

/-- Events get numbers and wait, the writer puts records into the ring, Gap records report drops, pending records wait
in the retained block, and the reads of the ring advance (R609 to R617, R630, R632, R648), each under the condition and
with the result that its clause gives. Clause by clause: `recordIntake`: R609, R611: the event enters the FIFO with the
next number. `recordIntake`: R610: in a full FIFO an event of no higher severity than the lowest there is dropped and
counted; its number is used up. `recordIntake`: R610: in a full FIFO the oldest event of the lowest severity gives way
to one of a higher one. `recordIntake`: R587: while LG4 is under test up to 16 events wait, and further ones are lost
and counted. `recordIntake`: R629: after the last number nothing more is recorded. `recordWriteStart`: R609: 4 µs after
its last start the writer takes the first entry. `recordWriteStart`: R587, R609: before that, while a record is being
written, or while LG4 is under test, none starts. `ringWrite`: R606, R610, R613, R614: the record stands in the slot
that the ring's rules choose; one that finds none is dropped and counted. `ringWrite`: R609: with no record being
written nothing changes. `gapRecord`: R612: a Gap record carries the drops by severity and the lowest lost number, and
REC_DROP occurs. `gapRecord`: R587, R612, R629: without drops, with a fuller FIFO, with a Gap record on its way or after
the last number there is none. `recRdSqbHiRead`: R617: the ward's slot advances. `recRdSqbHiRead`: R617: for a ward that
may not read the ring nothing moves. `newestSeqRead`: R648: the upper bits are latched for the ward. `newestSeqRead`:
R27, R648: no read, no latch. `pendingRecord`: R608, R630: the record waits in the retained block. `pendingRecord`:
R630: where all four slots hold records of a higher severity it is lost. `recRtWrite`: R632: a trim is taken only where
it is stricter than the Blank's figure. `recRtWrite`: R632: with page 5 closed nothing is written. -/
def Obligations.RecordCommands : Prop :=
  (∀ (s : State) (typ : Byte) (source : Byte) (sev : Fin 5) (ward : Byte) (payload : List Word), Can.recordIntake typ source sev ward payload s = true → Completes (.recordIntake typ source sev ward payload) s (fun h =>
      h.recd.fifo = s.hub.recd.fifo ++ [{ typ := typ.toNat, source := source.toNat, sev := sev, len := 4 * (payload.take 4).length, ward := ward.toNat, payload := (payload.take 4).map BitVec.toNat, seq := if s.hub.recd.numbering then some s.hub.ret.nextSeq else none }] ∧ h.ret.nextSeq = (if s.hub.recd.numbering then s.hub.ret.nextSeq + 1 else s.hub.ret.nextSeq) ∧ h.mem = s.hub.mem)) ∧
  (∀ (s : State) (typ : Byte) (source : Byte) (sev : Fin 5) (ward : Byte) (payload : List Word), Can.recordIntake2 typ source sev ward payload s = true → Completes (.recordIntake typ source sev ward payload) s (fun h =>
      h.recd.fifo = s.hub.recd.fifo ∧ vget h.recd.gap sev 0 = vget s.hub.recd.gap sev 0 + 1 ∧ h.ret.nextSeq = (if s.hub.recd.numbering then s.hub.ret.nextSeq + 1 else s.hub.ret.nextSeq))) ∧
  (∀ (s : State) (typ : Byte) (source : Byte) (sev : Fin 5) (ward : Byte) (payload : List Word), Can.recordIntake3 typ source sev ward payload s = true → Completes (.recordIntake typ source sev ward payload) s (fun h =>
      h.recd.fifo.length = 64 ∧ h.recd.fifo.getLast? = some { typ := typ.toNat, source := source.toNat, sev := sev, len := 4 * (payload.take 4).length, ward := ward.toNat, payload := (payload.take 4).map BitVec.toNat, seq := if s.hub.recd.numbering then some s.hub.ret.nextSeq else none } ∧ h.recd.fifo = (takeFirst (lowestSev s.hub.recd.fifo) s.hub.recd.fifo).2 ++ h.recd.fifo.drop 63 ∧ (∀ e ∈ s.hub.recd.fifo.head?.toList, s.hub.recd.fifo.all (fun x => x.sev == e.sev && x.typ != 3) = true → ∀ k : Fin 5, k.val = e.sev → vget h.recd.gap k 0 = vget s.hub.recd.gap k 0 + 1))) ∧
  (∀ (s : State) (typ : Byte) (source : Byte) (sev : Fin 5) (ward : Byte) (payload : List Word), Can.recordIntake4 typ source sev ward payload s = true → Completes (.recordIntake typ source sev ward payload) s (fun h =>
      h.recd.fifo = s.hub.recd.fifo ∧ h.ret = s.hub.ret ∧ (s.hub.bst.intakes.length < 16 → h.bst.intakes.length = s.hub.bst.intakes.length + 1) ∧ (16 ≤ s.hub.bst.intakes.length → h.bst.intakes = s.hub.bst.intakes ∧ h.rd BST_RUNS_lost = satInc (2 ^ BST_RUNS_lost.width - 1) (s.hub.rd BST_RUNS_lost) ∧ vget h.recd.gap sev 0 = vget s.hub.recd.gap sev 0 + 1))) ∧
  (∀ (s : State) (typ : Byte) (source : Byte) (sev : Fin 5) (ward : Byte) (payload : List Word), Can.recordIntake5 typ source sev ward payload s = true → Completes (.recordIntake typ source sev ward payload) s (fun h =>
      h.recd = s.hub.recd ∧ h.regs = s.hub.regs ∧ h.ret = s.hub.ret ∧ h.banks = s.hub.banks ∧ h.bst = s.hub.bst)) ∧
  (∀ (s : State), Can.recordWriteStart s = true → Completes (.recordWriteStart) s (fun h =>
      h.recd.writing = s.hub.recd.fifo.head? ∧ h.recd.fifo = s.hub.recd.fifo.tail ∧ h.recd.startedAt = some s.hub.clk.now ∧ h.mem = s.hub.mem)) ∧
  (∀ (s : State), Can.recordWriteStart2 s = true → Completes (.recordWriteStart) s (fun h =>
      h.recd = s.hub.recd ∧ h.regs = s.hub.regs ∧ h.ret = s.hub.ret ∧ h.banks = s.hub.banks)) ∧
  (∀ (s : State), Can.ringWrite s = true → Completes (.ringWrite) s (fun h =>
      h.recd.writing = none ∧ (∀ e ∈ s.hub.recd.writing.toList, ∀ y ∈ (ringPick s.hub.ringList e.sev).toList, h.ringWords y.1 = (recWords (e.seq.getD 0) e).map (fun x => x % 2 ^ 32) ∧ h.recd.newest = max s.hub.recd.newest (recSeq (recWords (e.seq.getD 0) e)) ∧ h.rd REC_EVICT_COUNT_count = (s.hub.rd REC_EVICT_COUNT_count + (if y.2.isSome then 1 else 0)) % 2 ^ REC_EVICT_COUNT_count.width ∧ (e.typ = 3 → h.recd.gapSent = none)) ∧ (∀ e ∈ s.hub.recd.writing.toList, ringPick s.hub.ringList e.sev = none → h.mem = s.hub.mem ∧ h.recd.newest = s.hub.recd.newest ∧ (e.typ ≠ 3 → ∀ k : Fin 5, k.val = e.sev → vget h.recd.gap k 0 = vget s.hub.recd.gap k 0 + 1)))) ∧
  (∀ (s : State), Can.ringWrite2 s = true → Completes (.ringWrite) s (fun h =>
      h.recd = s.hub.recd ∧ h.regs = s.hub.regs ∧ h.ret = s.hub.ret ∧ h.banks = s.hub.banks)) ∧
  (∀ (s : State), Can.gapRecord s = true → Completes (.gapRecord) s (fun h =>
      (∀ i : Fin 5, vget h.recd.gap i 0 = 0) ∧ h.recd.gapSent.map (fun x => x.1) = some s.hub.recd.gap ∧ h.ret.nextSeq = s.hub.ret.nextSeq + 1 ∧ ((s.hub.testGroup ≠ 5 ∨ s.hub.fltClass 55 = 5) → s.hub.dev.phase ≠ .recovery → vget h.flt.counts 55 0 = satInc 65535 (vget s.hub.flt.counts 55 0)) ∧ (h.recd.fifo[s.hub.recd.fifo.length]?).map (fun e => (e.typ, e.source, e.len, e.seq, e.payload.take 2)) = some (3, 0x40, 16, some s.hub.ret.nextSeq, [min (vget s.hub.recd.gap 0 0) 65535 + min (vget s.hub.recd.gap 1 0) 65535 * 2 ^ 16, min (vget s.hub.recd.gap 2 0) 65535 + min (vget s.hub.recd.gap 3 0) 65535 * 2 ^ 16]) ∧ (∀ n ∈ s.hub.recd.gapLow.toList, (h.recd.fifo[s.hub.recd.fifo.length]?).map (fun e => e.payload.drop 2) = some [min (vget s.hub.recd.gap 4 0) 65535 + n / 2 ^ 32 * 2 ^ 16, n % 2 ^ 32]))) ∧
  (∀ (s : State), Can.gapRecord2 s = true → Completes (.gapRecord) s (fun h =>
      h.recd = s.hub.recd ∧ h.regs = s.hub.regs ∧ h.ret = s.hub.ret ∧ h.banks = s.hub.banks ∧ h.flt.counts = s.hub.flt.counts)) ∧
  (∀ (s : State) (w : Fin 8), Can.recRdSqbHiRead w s = true → Completes (.recRdSqbHiRead w) s (fun h =>
      h.rd REC_RD_SLOT_slot 0 w = (s.hub.rd REC_RD_SLOT_slot 0 w + 1) % 2048 ∧ (∀ v : Fin 8, v ≠ w → h.rd REC_RD_SLOT_slot 0 v = s.hub.rd REC_RD_SLOT_slot 0 v) ∧ h.mem = s.hub.mem)) ∧
  (∀ (s : State) (w : Fin 8), Can.recRdSqbHiRead2 w s = true → Completes (.recRdSqbHiRead w) s (fun h =>
      h.recd = s.hub.recd ∧ h.regs = s.hub.regs ∧ h.ret = s.hub.ret ∧ h.banks = s.hub.banks)) ∧
  (∀ (s : State) (w : Fin 8), Can.newestSeqRead w s = true → Completes (.newestSeqRead w) s (fun h =>
      h.rd REC_NEWEST_SEQ_HI_seq 0 w = s.hub.recd.newest / 2 ^ 32 % 2 ^ REC_NEWEST_SEQ_HI_seq.width ∧ h.recd = s.hub.recd)) ∧
  (∀ (s : State) (w : Fin 8), Can.newestSeqRead2 w s = true → Completes (.newestSeqRead w) s (fun h =>
      h.recd = s.hub.recd ∧ h.regs = s.hub.regs ∧ h.ret = s.hub.ret ∧ h.banks = s.hub.banks)) ∧
  (∀ (s : State) (k : Fin 4) (w3 : Word) (w4 : Word) (w5 : Word), Can.pendingRecord k w3 w4 w5 s = true → Completes (.pendingRecord k w3 w4 w5) s (fun h =>
      ∀ y ∈ (pendSlot s.hub.ret.slots (if k.val < 2 then 4 else 3)).toList, (vget h.ret.slots y.1 none).map (fun r => (r.typ, r.source, r.sev, r.boots, r.lost, r.payload)) = some (0x10 + k.val, (if k.val = 1 then 0x42 else 0x41), (if k.val < 2 then 4 else 3), s.hub.ret.boots, y.2, (if k.val = 0 then [w3.toNat, w4.toNat % 8, w5.toNat % 16] else if k.val = 1 then [w3.toNat, w4.toNat % 2 ^ 16] else if k.val = 2 then [w3.toNat] else [w3.toNat % 8, w4.toNat % 2 ^ 16])) ∧ (∀ i : Fin 4, i.val ≠ y.1 → vget h.ret.slots i none = vget s.hub.ret.slots i none))) ∧
  (∀ (s : State) (k : Fin 4) (w3 : Word) (w4 : Word) (w5 : Word), Can.pendingRecord2 k w3 w4 w5 s = true → Completes (.pendingRecord k w3 w4 w5) s (fun h =>
      h.ret.slots = s.hub.ret.slots)) ∧
  (∀ (s : State) (w : Fin 8) (v : Word), Can.recRtWrite w v s = true → Completes (.recRtWrite w v) s (fun h =>
      h.rd REC_RT_jsev_rt 0 w = (if bitsOf v.toNat 8 3 = 0 ∨ s.hub.rd REC_CFG_jsev + 1 ≤ bitsOf v.toNat 8 3 then 0 else bitsOf v.toNat 8 3) ∧ h.rd REC_RT_flush_ms_rt 0 w = (if s.hub.rd REC_CFG_flush_ms ≤ v.toNat % 256 then 0 else v.toNat % 256) ∧ h.recd = s.hub.recd)) ∧
  (∀ (s : State) (w : Fin 8) (v : Word), Can.recRtWrite2 w v s = true → Completes (.recRtWrite w v) s (fun h =>
      h.recd = s.hub.recd ∧ h.regs = s.hub.regs ∧ h.ret = s.hub.ret ∧ h.banks = s.hub.banks))

/-- When `pageSubmit` has its effect. R621: a staging page that is full, or whose wait has passed, asks for admission.
-/
def Sys2Proof.Machine.Can.pageSubmit (s : State) : Bool :=
  s.hub.pageFree && s.hub.recd.copies.isEmpty && (s.hub.recd.reclaim == 0 || s.hub.recd.reclaim == 3) && s.hub.recd.staging.head?.any s.hub.pageDue

/-- When `pageSubmit` has its effect. R621, R644: before that, and while copies are to go first, none does. -/
def Sys2Proof.Machine.Can.pageSubmit2 (s : State) : Bool :=
  !(s.hub.pageFree && s.hub.recd.copies.isEmpty && (s.hub.recd.reclaim == 0 || s.hub.recd.reclaim == 3) && s.hub.recd.staging.head?.any s.hub.pageDue)

/-- When `pageProgramDone` has its effect. R622: the page stands in the journal, its records leave the staging buffer,
and the write point moves on; a second device that failed is BLK_MIRROR. -/
def Sys2Proof.Machine.Can.pageProgramDone (res : Fin 3) (_mirrorOk : Bool) (s : State) : Bool :=
  s.hub.nvmOp.any (fun o => o.use == NvmUse.journal && o.kind == 1) && res == 0 && !s.hub.recd.stale

/-- When `pageProgramDone` has its effect. R623: the copies stand in the journal; after the last of them the sector's
erase asks for admission. -/
def Sys2Proof.Machine.Can.pageProgramDone2 (res : Fin 3) (_mirrorOk : Bool) (s : State) : Bool :=
  s.hub.nvmOp.any (fun o => o.use == NvmUse.reclaim && o.kind == 1) && res == 0 && !s.hub.recd.stale

/-- When `pageProgramDone` has its effect. R636: a page that a clear has overtaken moves only the write point on. -/
def Sys2Proof.Machine.Can.pageProgramDone3 (_res : Fin 3) (_mirrorOk : Bool) (s : State) : Bool :=
  s.hub.nvmOp.any (fun o => (o.use == NvmUse.journal || o.use == NvmUse.reclaim) && o.kind == 1) && s.hub.recd.stale

/-- When `pageProgramDone` has its effect. R622: with no journal page running nothing ends. -/
def Sys2Proof.Machine.Can.pageProgramDone4 (_res : Fin 3) (_mirrorOk : Bool) (s : State) : Bool :=
  !s.hub.nvmOp.any (fun o => (o.use == NvmUse.journal || o.use == NvmUse.reclaim) && o.kind == 1)

/-- When `pageProgramDone` has its effect. R622: REC_JOURNAL occurs, and NVM_FAIL where the device gave no result; the
records go into the next page, and after three failures in a row journalling stops. -/
def Sys2Proof.Machine.Can.pageProgramDone5 (res : Fin 3) (_mirrorOk : Bool) (s : State) : Bool :=
  s.hub.nvmOp.any (fun o => (o.use == NvmUse.journal || o.use == NvmUse.reclaim) && o.kind == 1) && res != 0 && !s.hub.recd.stale

/-- When `sectorReclaim` has its effect. R623, R624: the sector's Fault and Safety records are to be copied forward, in
sequence order, and its erase asks for admission; more than 96 of them seal the journal, and what waited is missed. -/
def Sys2Proof.Machine.Can.sectorReclaim (s : State) : Bool :=
  s.hub.journals && (s.hub.recd.eraseFirst || s.hub.recd.reclaim == 1) && s.hub.recd.copies.isEmpty && !s.hub.recd.submitted

/-- When `sectorReclaim` has its effect. R623: with no sector due none is reclaimed. -/
def Sys2Proof.Machine.Can.sectorReclaim2 (s : State) : Bool :=
  !(s.hub.journals && (s.hub.recd.eraseFirst || s.hub.recd.reclaim == 1) && s.hub.recd.copies.isEmpty && !s.hub.recd.submitted)

/-- When `journalEraseDone` has its effect. R623: the erased sector is ready. -/
def Sys2Proof.Machine.Can.journalEraseDone (res : Fin 3) (_mirrorOk : Bool) (s : State) : Bool :=
  s.hub.nvmOp.any (fun o => (o.use == NvmUse.reclaim || o.use == NvmUse.clearErase) && o.kind == 2) && res == 0 && !s.hub.recd.clearRun.any (fun x => x.2.2) && !s.hub.recd.eraseFirst && !s.hub.flag REC_STAT_jpaused

/-- When `journalEraseDone` has its effect. R625, R626: the sector at the write point is erased, and journalling goes on
in it. -/
def Sys2Proof.Machine.Can.journalEraseDone2 (res : Fin 3) (_mirrorOk : Bool) (s : State) : Bool :=
  s.hub.nvmOp.any (fun o => (o.use == NvmUse.reclaim || o.use == NvmUse.clearErase) && o.kind == 2) && res == 0 && !s.hub.recd.clearRun.any (fun x => x.2.2) && (s.hub.recd.eraseFirst || s.hub.flag REC_STAT_jpaused)

/-- When `journalEraseDone` has its effect. R625: an erase that failed asks for admission again. -/
def Sys2Proof.Machine.Can.journalEraseDone3 (res : Fin 3) (_mirrorOk : Bool) (s : State) : Bool :=
  s.hub.nvmOp.any (fun o => (o.use == NvmUse.reclaim || o.use == NvmUse.clearErase) && o.kind == 2) && res != 0

/-- When `journalEraseDone` has its effect. R636: a clear of the journal goes on to its next sector; after the last one
it ends, with the write point at page 0. -/
def Sys2Proof.Machine.Can.journalEraseDone4 (res : Fin 3) (_mirrorOk : Bool) (s : State) : Bool :=
  s.hub.nvmOp.any (fun o => o.use == NvmUse.clearErase && o.kind == 2) && res == 0 && s.hub.recd.clearRun.any (fun x => x.2.2)

/-- When `journalEraseDone` has its effect. R625: with no journal erase running nothing ends. -/
def Sys2Proof.Machine.Can.journalEraseDone5 (_res : Fin 3) (_mirrorOk : Bool) (s : State) : Bool :=
  !(s.hub.nvmOp.any (fun o => (o.use == NvmUse.reclaim || o.use == NvmUse.clearErase) && o.kind == 2))

/-- When `journalScan` has its effect. R626: the write point is the one that the scan finds. -/
def Sys2Proof.Machine.Can.journalScan (ok : Bool) (s : State) : Bool :=
  (s.hub.flag REC_STAT_jscan || (s.hub.dev.phase == .boot && s.hub.sup.nvmAllowed && decide (2 ≤ s.hub.rd PWR_RET_STAT_source) && !s.hub.recd.scanned)) && ok

/-- When `journalScan` has its effect. R626: with no scan running nothing changes. -/
def Sys2Proof.Machine.Can.journalScan2 (_ok : Bool) (s : State) : Bool :=
  !(s.hub.flag REC_STAT_jscan || (s.hub.dev.phase == .boot && s.hub.sup.nvmAllowed && decide (2 ≤ s.hub.rd PWR_RET_STAT_source) && !s.hub.recd.scanned))

/-- When `journalScan` has its effect. R631: a journal that cannot be read raises REC_JOURNAL, and journalling stops. -/
def Sys2Proof.Machine.Can.journalScan3 (ok : Bool) (s : State) : Bool :=
  (s.hub.flag REC_STAT_jscan || (s.hub.dev.phase == .boot && s.hub.sup.nvmAllowed && decide (2 ≤ s.hub.rd PWR_RET_STAT_source) && !s.hub.recd.scanned)) && !ok

/-- When `journalPageRead` has its effect. R627: the page is to be read. -/
def Sys2Proof.Machine.Can.journalPageRead (w : Fin 8) (v : Word) (s : State) : Bool :=
  s.hub.writable w && s.hub.mayRead w && !s.hub.flag REC_JRD_STAT_busy && v.getLsbD 31 && !s.hub.recd.clearRun.any (fun x => x.2.2)

/-- When `journalPageRead` has its effect. R627: without go only the page is named. -/
def Sys2Proof.Machine.Can.journalPageRead2 (w : Fin 8) (v : Word) (s : State) : Bool :=
  s.hub.writable w && s.hub.mayRead w && !s.hub.flag REC_JRD_STAT_busy && !v.getLsbD 31

/-- When `journalPageRead` has its effect. R627: while a clear works on the journal the read answers 2. -/
def Sys2Proof.Machine.Can.journalPageRead3 (w : Fin 8) (v : Word) (s : State) : Bool :=
  s.hub.writable w && s.hub.mayRead w && !s.hub.flag REC_JRD_STAT_busy && v.getLsbD 31 && s.hub.recd.clearRun.any (fun x => x.2.2)

/-- When `journalPageRead` has its effect. R617, R627: while a read runs, or from a ward that may not read, nothing
happens. -/
def Sys2Proof.Machine.Can.journalPageRead4 (w : Fin 8) (_v : Word) (s : State) : Bool :=
  !(s.hub.writable w && s.hub.mayRead w && !s.hub.flag REC_JRD_STAT_busy)

/-- When `journalReadDone` has its effect. R627: the page is in the buffer. -/
def Sys2Proof.Machine.Can.journalReadDone (ok : Bool) (s : State) : Bool :=
  s.hub.recd.jread.isSome && ok

/-- When `journalReadDone` has its effect. R627: a page that could not be read answers 1, and NVM_FAIL occurs. -/
def Sys2Proof.Machine.Can.journalReadDone2 (ok : Bool) (s : State) : Bool :=
  s.hub.recd.jread.isSome && !ok

/-- When `journalReadDone` has its effect. R627: with no read running nothing ends. -/
def Sys2Proof.Machine.Can.journalReadDone3 (_ok : Bool) (s : State) : Bool :=
  s.hub.recd.jread.isNone

/-- Pages and sectors of the journal are written, reclaimed, scanned and read with the effect of R620 to R627, each
under the condition and with the result that its clause gives. Clause by clause: `pageSubmit`: R621: a staging page that
is full, or whose wait has passed, asks for admission. `pageSubmit`: R621, R644: before that, and while copies are to go
first, none does. `pageProgramDone`: R622: the page stands in the journal, its records leave the staging buffer, and the
write point moves on; a second device that failed is BLK_MIRROR. `pageProgramDone`: R623: the copies stand in the
journal; after the last of them the sector's erase asks for admission. `pageProgramDone`: R636: a page that a clear has
overtaken moves only the write point on. `pageProgramDone`: R622: with no journal page running nothing ends.
`pageProgramDone`: R622: REC_JOURNAL occurs, and NVM_FAIL where the device gave no result; the records go into the next
page, and after three failures in a row journalling stops. `sectorReclaim`: R623, R624: the sector's Fault and Safety
records are to be copied forward, in sequence order, and its erase asks for admission; more than 96 of them seal the
journal, and what waited is missed. `sectorReclaim`: R623: with no sector due none is reclaimed. `journalEraseDone`:
R623: the erased sector is ready. `journalEraseDone`: R625, R626: the sector at the write point is erased, and
journalling goes on in it. `journalEraseDone`: R625: an erase that failed asks for admission again. `journalEraseDone`:
R636: a clear of the journal goes on to its next sector; after the last one it ends, with the write point at page 0.
`journalEraseDone`: R625: with no journal erase running nothing ends. `journalScan`: R626: the write point is the one
that the scan finds. `journalScan`: R626: with no scan running nothing changes. `journalScan`: R631: a journal that
cannot be read raises REC_JOURNAL, and journalling stops. `journalPageRead`: R627: the page is to be read.
`journalPageRead`: R627: without go only the page is named. `journalPageRead`: R627: while a clear works on the journal
the read answers 2. `journalPageRead`: R617, R627: while a read runs, or from a ward that may not read, nothing happens.
`journalReadDone`: R627: the page is in the buffer. `journalReadDone`: R627: a page that could not be read answers 1,
and NVM_FAIL occurs. `journalReadDone`: R627: with no read running nothing ends. -/
def Obligations.JournalCommands : Prop :=
  (∀ (s : State), Can.pageSubmit s = true → Completes (.pageSubmit) s (fun h =>
      h.recd.submitted = true ∧ h.sch.queue.any (fun x => x.kind == CandKind.nvmPage && x.ref == 0) = true ∧ h.recd.staging = s.hub.recd.staging ∧ h.nvm = s.hub.nvm)) ∧
  (∀ (s : State), Can.pageSubmit2 s = true → Completes (.pageSubmit) s (fun h =>
      h.recd = s.hub.recd ∧ h.regs = s.hub.regs ∧ h.ret = s.hub.ret ∧ h.banks = s.hub.banks ∧ h.sch = s.hub.sch)) ∧
  (∀ (s : State) (res : Fin 3) (mirrorOk : Bool), Can.pageProgramDone res mirrorOk s = true → Completes (.pageProgramDone res mirrorOk) s (fun h =>
      (∀ o ∈ s.hub.nvmOp.toList, (res = 0 → h.nvmDev 0 = nvmProgram (s.hub.nvmDev 0) o.addr o.data) ∧ (s.hub.nvmBoth o = true → mirrorOk = true → h.nvmDev 1 = nvmProgram (s.hub.nvmDev 1) o.addr o.data)) ∧ h.rd REC_JCOUNT_pages = satInc 65535 (s.hub.rd REC_JCOUNT_pages) ∧ h.rd REC_JSTAT_page = (s.hub.rd REC_JSTAT_page + 1) % 512 ∧ h.recd.failRun = 0 ∧ h.recd.submitted = false ∧ (s.hub.recd.waiting = [] → h.recd.staging = s.hub.recd.staging.drop 1) ∧ (s.hub.flag BLK_CFG_mirror = true → mirrorOk = false → (s.hub.proofHides 20 16 = false → (s.hub.testGroup ≠ 5 ∨ s.hub.fltClass 20 = 5) → s.hub.dev.phase ≠ .recovery → vget h.flt.counts 20 0 = satInc 65535 (vget s.hub.flt.counts 20 0))))) ∧
  (∀ (s : State) (res : Fin 3) (mirrorOk : Bool), Can.pageProgramDone2 res mirrorOk s = true → Completes (.pageProgramDone res mirrorOk) s (fun h =>
      (∀ o ∈ s.hub.nvmOp.toList, (res = 0 → h.nvmDev 0 = nvmProgram (s.hub.nvmDev 0) o.addr o.data) ∧ (s.hub.nvmBoth o = true → mirrorOk = true → h.nvmDev 1 = nvmProgram (s.hub.nvmDev 1) o.addr o.data)) ∧ h.rd REC_JCOUNT_pages = satInc 65535 (s.hub.rd REC_JCOUNT_pages) ∧ h.rd REC_JSTAT_page = (s.hub.rd REC_JSTAT_page + 1) % 512 ∧ h.recd.failRun = 0 ∧ h.recd.copies = s.hub.recd.copies.drop 8 ∧ (s.hub.recd.copies.length ≤ 8 → s.hub.recd.reclaim = 2 → h.recd.submitted = false ∧ h.sch.queue.any (fun x => x.kind == CandKind.nvmErase && x.ref == 0) = true))) ∧
  (∀ (s : State) (res : Fin 3) (mirrorOk : Bool), Can.pageProgramDone3 res mirrorOk s = true → Completes (.pageProgramDone res mirrorOk) s (fun h =>
      (∀ o ∈ s.hub.nvmOp.toList, (res = 0 → h.nvmDev 0 = nvmProgram (s.hub.nvmDev 0) o.addr o.data) ∧ (s.hub.nvmBoth o = true → mirrorOk = true → h.nvmDev 1 = nvmProgram (s.hub.nvmDev 1) o.addr o.data)) ∧ h.rd REC_JSTAT_page = (s.hub.rd REC_JSTAT_page + 1) % 512 ∧ h.recd.submitted = false ∧ h.recd.stale = false ∧ h.recd.failRun = s.hub.recd.failRun ∧ h.recd.copies = s.hub.recd.copies)) ∧
  (∀ (s : State) (res : Fin 3) (mirrorOk : Bool), Can.pageProgramDone4 res mirrorOk s = true → Completes (.pageProgramDone res mirrorOk) s (fun h =>
      h.recd = s.hub.recd ∧ h.nvm = s.hub.nvm ∧ h.nvmOp = s.hub.nvmOp ∧ h.regs = s.hub.regs)) ∧
  (∀ (s : State) (res : Fin 3) (mirrorOk : Bool), Can.pageProgramDone5 res mirrorOk s = true → Completes (.pageProgramDone res mirrorOk) s (fun h =>
      h.recd.failRun = s.hub.recd.failRun + 1 ∧ h.rd REC_JCOUNT_pages = satInc 65535 (s.hub.rd REC_JCOUNT_pages) ∧ (s.hub.proofHides 56 16 = false → (s.hub.testGroup ≠ 5 ∨ s.hub.fltClass 56 = 5) → s.hub.dev.phase ≠ .recovery → vget h.flt.counts 56 0 = satInc 65535 (vget s.hub.flt.counts 56 0)) ∧ (res = 2 → (s.hub.proofHides 60 16 = false → (s.hub.testGroup ≠ 5 ∨ s.hub.fltClass 60 = 5) → s.hub.dev.phase ≠ .recovery → vget h.flt.counts 60 0 = satInc 65535 (vget s.hub.flt.counts 60 0))) ∧ h.rd REC_JSTAT_page = (s.hub.rd REC_JSTAT_page + 1) % 512 ∧ h.recd.copies = s.hub.recd.copies ∧ (2 ≤ s.hub.recd.failRun → h.flag REC_STAT_jfail = true))) ∧
  (∀ (s : State), Can.sectorReclaim s = true → Completes (.sectorReclaim) s (fun h =>
      (96 < ((s.hub.jsector s.hub.eraseSector).filter (fun r => decide (3 ≤ recSev r))).length → h.flag REC_STAT_jsealed = true ∧ h.recd.staging = [] ∧ h.recd.waiting = [] ∧ h.rd REC_JSTAT_missed = min (2 ^ REC_JSTAT_missed.width - 1) (s.hub.rd REC_JSTAT_missed + s.hub.recd.waiting.length + (s.hub.recd.staging.map (fun p => p.recs.length)).sum)) ∧ (((s.hub.jsector s.hub.eraseSector).filter (fun r => decide (3 ≤ recSev r))).length ≤ 96 → h.recd.copies = bySeq ((s.hub.jsector s.hub.eraseSector).filter (fun r => decide (3 ≤ recSev r))) ∧ (((s.hub.jsector s.hub.eraseSector).filter (fun r => decide (3 ≤ recSev r))) = [] ∨ s.hub.recd.eraseFirst = true ∨ s.hub.flag REC_STAT_jpaused = true → h.sch.queue.any (fun x => x.kind == CandKind.nvmErase && x.ref == 0) = true) ∧ (((s.hub.jsector s.hub.eraseSector).filter (fun r => decide (3 ≤ recSev r))) ≠ [] → s.hub.recd.eraseFirst = false → s.hub.flag REC_STAT_jpaused = false → h.recd.submitted = true)))) ∧
  (∀ (s : State), Can.sectorReclaim2 s = true → Completes (.sectorReclaim) s (fun h =>
      h.recd = s.hub.recd ∧ h.regs = s.hub.regs ∧ h.ret = s.hub.ret ∧ h.banks = s.hub.banks ∧ h.sch = s.hub.sch)) ∧
  (∀ (s : State) (res : Fin 3) (mirrorOk : Bool), Can.journalEraseDone res mirrorOk s = true → Completes (.journalEraseDone res mirrorOk) s (fun h =>
      h.recd.nextReady = true ∧ h.recd.reclaim = 0 ∧ h.rd REC_JSTAT_page = s.hub.rd REC_JSTAT_page ∧ (∀ o ∈ s.hub.nvmOp.toList, h.nvmDev 0 = nvmErase (s.hub.nvmDev 0) o.addr 4096))) ∧
  (∀ (s : State) (res : Fin 3) (mirrorOk : Bool), Can.journalEraseDone2 res mirrorOk s = true → Completes (.journalEraseDone res mirrorOk) s (fun h =>
      (s.hub.recd.eraseFirst = true → h.recd.eraseFirst = false ∧ h.flag REC_STAT_jpaused = s.hub.flag REC_STAT_jpaused) ∧ (s.hub.recd.eraseFirst = false → h.flag REC_STAT_jpaused = false) ∧ h.rd REC_JSTAT_page = s.hub.rd REC_JSTAT_page ∧ h.recd.copies = s.hub.recd.copies ∧ h.recd.nextReady = (h.recd.reclaim == 0) ∧ (∀ o ∈ s.hub.nvmOp.toList, h.nvmDev 0 = nvmErase (s.hub.nvmDev 0) o.addr 4096))) ∧
  (∀ (s : State) (res : Fin 3) (mirrorOk : Bool), Can.journalEraseDone3 res mirrorOk s = true → Completes (.journalEraseDone res mirrorOk) s (fun h =>
      h.sch.queue.any (fun x => x.kind == CandKind.nvmErase && x.ref == 0) = true ∧ (res = 2 → (s.hub.proofHides 60 16 = false → (s.hub.testGroup ≠ 5 ∨ s.hub.fltClass 60 = 5) → s.hub.dev.phase ≠ .recovery → vget h.flt.counts 60 0 = satInc 65535 (vget s.hub.flt.counts 60 0))) ∧ h.recd.reclaim = s.hub.recd.reclaim ∧ h.recd.clearSectors = s.hub.recd.clearSectors ∧ h.recd.eraseFirst = s.hub.recd.eraseFirst ∧ h.recd.clearRun = s.hub.recd.clearRun ∧ h.rd REC_JSTAT_page = s.hub.rd REC_JSTAT_page)) ∧
  (∀ (s : State) (res : Fin 3) (mirrorOk : Bool), Can.journalEraseDone4 res mirrorOk s = true → Completes (.journalEraseDone res mirrorOk) s (fun h =>
      (∀ o ∈ s.hub.nvmOp.toList, h.nvmDev 0 = nvmErase (s.hub.nvmDev 0) o.addr 4096) ∧ (1 < s.hub.recd.clearSectors.length → h.recd.clearSectors = s.hub.recd.clearSectors.drop 1 ∧ h.recd.clearRun = s.hub.recd.clearRun ∧ h.sch.queue.any (fun x => x.kind == CandKind.nvmErase && x.ref == 0) = true) ∧ (s.hub.recd.clearSectors.length ≤ 1 → h.recd.clearRun = none ∧ h.rd REC_JSTAT_page = 0 ∧ h.flag REC_STAT_jsealed = false ∧ h.flag REC_STAT_jpaused = false ∧ h.flag REC_STAT_clearing = false ∧ h.flag REC_CLEAR_STAT_busy = false ∧ h.rd REC_CLEAR_STAT_result = 1))) ∧
  (∀ (s : State) (res : Fin 3) (mirrorOk : Bool), Can.journalEraseDone5 res mirrorOk s = true → Completes (.journalEraseDone res mirrorOk) s (fun h =>
      h.recd = s.hub.recd ∧ h.nvm = s.hub.nvm ∧ h.nvmOp = s.hub.nvmOp ∧ h.regs = s.hub.regs)) ∧
  (∀ (s : State) (ok : Bool), Can.journalScan ok s = true → Completes (.journalScan ok) s (fun h =>
      h.flag REC_STAT_jscan = false ∧ h.recd.scanned = true ∧ h.rd REC_JSTAT_page = s.hub.scanPoint.1 ∧ h.recd.eraseFirst = s.hub.scanPoint.2 ∧ h.nvm = s.hub.nvm)) ∧
  (∀ (s : State) (ok : Bool), Can.journalScan2 ok s = true → Completes (.journalScan ok) s (fun h =>
      h.recd = s.hub.recd ∧ h.regs = s.hub.regs ∧ h.ret = s.hub.ret ∧ h.banks = s.hub.banks)) ∧
  (∀ (s : State) (ok : Bool), Can.journalScan3 ok s = true → Completes (.journalScan ok) s (fun h =>
      h.flag REC_STAT_jscan = false ∧ h.flag REC_STAT_jfail = true ∧ h.recd.scanned = true ∧ h.rd REC_JSTAT_page = s.hub.rd REC_JSTAT_page ∧ (s.hub.proofHides 56 16 = false → (s.hub.testGroup ≠ 5 ∨ s.hub.fltClass 56 = 5) → s.hub.dev.phase ≠ .recovery → vget h.flt.counts 56 0 = satInc 65535 (vget s.hub.flt.counts 56 0)))) ∧
  (∀ (s : State) (w : Fin 8) (v : Word), Can.journalPageRead w v s = true → Completes (.journalPageRead w v) s (fun h =>
      h.flag REC_JRD_STAT_busy = true ∧ h.flag REC_JRD_CTRL_go = true ∧ h.rd REC_JRD_CTRL_page = v.toNat % 512 ∧ h.recd.jread = some (v.toNat % 512))) ∧
  (∀ (s : State) (w : Fin 8) (v : Word), Can.journalPageRead2 w v s = true → Completes (.journalPageRead w v) s (fun h =>
      h.rd REC_JRD_CTRL_page = v.toNat % 512 ∧ h.recd = s.hub.recd ∧ h.rd REC_JRD_STAT_result = s.hub.rd REC_JRD_STAT_result)) ∧
  (∀ (s : State) (w : Fin 8) (v : Word), Can.journalPageRead3 w v s = true → Completes (.journalPageRead w v) s (fun h =>
      h.rd REC_JRD_STAT_result = 2 ∧ h.flag REC_JRD_STAT_busy = false ∧ h.recd = s.hub.recd)) ∧
  (∀ (s : State) (w : Fin 8) (v : Word), Can.journalPageRead4 w v s = true → Completes (.journalPageRead w v) s (fun h =>
      h.recd = s.hub.recd ∧ h.regs = s.hub.regs ∧ h.ret = s.hub.ret ∧ h.banks = s.hub.banks)) ∧
  (∀ (s : State) (ok : Bool), Can.journalReadDone ok s = true → Completes (.journalReadDone ok) s (fun h =>
      h.flag REC_JRD_STAT_busy = false ∧ h.rd REC_JRD_STAT_result = 0 ∧ h.recd.jread = none ∧ (∀ p ∈ s.hub.recd.jread.toList, ∀ i : Fin 64, h.rd REC_JRD_BUF_data i = leNat (s.hub.nvmRead 0 (0x40000 + 256 * p + 4 * i) 4)))) ∧
  (∀ (s : State) (ok : Bool), Can.journalReadDone2 ok s = true → Completes (.journalReadDone ok) s (fun h =>
      h.flag REC_JRD_STAT_busy = false ∧ h.flag REC_JRD_CTRL_go = false ∧ h.rd REC_JRD_STAT_result = 1 ∧ h.recd.jread = none ∧ (s.hub.proofHides 60 16 = false → (s.hub.testGroup ≠ 5 ∨ s.hub.fltClass 60 = 5) → s.hub.dev.phase ≠ .recovery → vget h.flt.counts 60 0 = satInc 65535 (vget s.hub.flt.counts 60 0)))) ∧
  (∀ (s : State) (ok : Bool), Can.journalReadDone3 ok s = true → Completes (.journalReadDone ok) s (fun h =>
      h.recd = s.hub.recd ∧ h.regs = s.hub.regs ∧ h.ret = s.hub.ret ∧ h.banks = s.hub.banks))

/-- When `nonceRead` has its effect. R635: a nonce is given out, and S is latched. -/
def Sys2Proof.Machine.Can.nonceRead (w : Fin 8) (s : State) : Bool :=
  s.hub.readable w && w.val == 0

/-- When `nonceRead` has its effect. R635: only W0 reads one. -/
def Sys2Proof.Machine.Can.nonceRead2 (w : Fin 8) (s : State) : Bool :=
  !(s.hub.readable w && w.val == 0)

/-- When `nonceExpiry` has its effect. R635: after ten minutes the nonce is no longer valid. -/
def Sys2Proof.Machine.Can.nonceExpiry (s : State) : Bool :=
  s.hub.recd.nonce.any (fun n => decide (n.2 + 600 * Config.ticksPerS ≤ s.hub.clk.now))

/-- When `nonceExpiry` has its effect. R635: before that it stays. -/
def Sys2Proof.Machine.Can.nonceExpiry2 (s : State) : Bool :=
  !s.hub.recd.nonce.any (fun n => decide (n.2 + 600 * Config.ticksPerS ≤ s.hub.clk.now))

/-- When `tokenCheck` has its effect. R635: the token is compared with the HMAC of the nonce, DEV_UID and S; a match
starts the clear, a mismatch is counted. -/
def Sys2Proof.Machine.Can.tokenCheck (w : Fin 8) (_v : Word) (s : State) : Bool :=
  s.hub.writable w && w.val == 0 && s.hub.nonceNow.isSome && (s.hub.authKey (s.hub.rd REC_CLEAR_CTRL_auth)).isSome && s.hub.recd.clearRun.isNone && !s.hub.recd.mismatchAt.any (fun t => decide (s.hub.clk.now < t + Config.ticksPerS))

/-- When `tokenCheck` has its effect. R635: without a valid nonce the check answers 5. -/
def Sys2Proof.Machine.Can.tokenCheck2 (w : Fin 8) (_v : Word) (s : State) : Bool :=
  s.hub.writable w && w.val == 0 && s.hub.nonceNow.isNone

/-- When `tokenCheck` has its effect. R635: without a usable key the check answers 3. -/
def Sys2Proof.Machine.Can.tokenCheck3 (w : Fin 8) (_v : Word) (s : State) : Bool :=
  s.hub.writable w && w.val == 0 && s.hub.nonceNow.isSome && (s.hub.authKey (s.hub.rd REC_CLEAR_CTRL_auth)).isNone

/-- When `tokenCheck` has its effect. R635: within a second of a mismatch the check answers 4. -/
def Sys2Proof.Machine.Can.tokenCheck4 (w : Fin 8) (_v : Word) (s : State) : Bool :=
  s.hub.writable w && w.val == 0 && s.hub.nonceNow.isSome && (s.hub.authKey (s.hub.rd REC_CLEAR_CTRL_auth)).isSome && s.hub.recd.mismatchAt.any (fun t => decide (s.hub.clk.now < t + Config.ticksPerS))

/-- When `tokenCheck` has its effect. R635: while a clear runs the check answers 6. -/
def Sys2Proof.Machine.Can.tokenCheck5 (w : Fin 8) (_v : Word) (s : State) : Bool :=
  s.hub.writable w && w.val == 0 && s.hub.nonceNow.isSome && (s.hub.authKey (s.hub.rd REC_CLEAR_CTRL_auth)).isSome && !s.hub.recd.mismatchAt.any (fun t => decide (s.hub.clk.now < t + Config.ticksPerS)) && s.hub.recd.clearRun.isSome

/-- When `tokenCheck` has its effect. R635: only W0 hands in a token. -/
def Sys2Proof.Machine.Can.tokenCheck6 (w : Fin 8) (_v : Word) (s : State) : Bool :=
  !(s.hub.writable w && w.val == 0)

/-- When `clear` has its effect. R636: the ring's records up to S are erased and counted, what waits for the journal is
what lies above S, and the journal's sectors are to be erased where that was asked for. -/
def Sys2Proof.Machine.Can.clear (s : State) : Bool :=
  s.hub.recd.clearRun.isSome && s.hub.recd.clearSectors.isEmpty

/-- When `clear` has its effect. R636: with no clear begun, or while it works on the journal, nothing more happens. -/
def Sys2Proof.Machine.Can.clear2 (s : State) : Bool :=
  s.hub.recd.clearRun.isNone || !s.hub.recd.clearSectors.isEmpty

/-- When `keyProgram` has its effect. R633: the slot is being programmed, and the data registers are clear. -/
def Sys2Proof.Machine.Can.keyProgram (w : Fin 8) (v : Word) (s : State) : Bool :=
  s.hub.writable w && w.val == 0 && s.hub.keyOk v.toNat

/-- When `keyProgram` has its effect. R6, R633: without the key, into a slot that is not empty, in a VDD warning or out
of *Run* nothing is programmed. -/
def Sys2Proof.Machine.Can.keyProgram2 (w : Fin 8) (v : Word) (s : State) : Bool :=
  !(s.hub.writable w && w.val == 0 && s.hub.keyOk v.toNat)

/-- When `keyProgramDone` has its effect. R633: the slot is programmed, or partial. -/
def Sys2Proof.Machine.Can.keyProgramDone (_good : Bool) (s : State) : Bool :=
  s.hub.recd.keyProg.any (fun x => decide (x.1 < 8))

/-- When `keyProgramDone` has its effect. R633: with no slot being programmed nothing ends. -/
def Sys2Proof.Machine.Can.keyProgramDone2 (_good : Bool) (s : State) : Bool :=
  s.hub.recd.keyProg.isNone

/-- The commands of authorised clearing complete, each under the condition and with the result that its clause gives,
after R633 to R636. Clause by clause: `nonceRead`: R635: a nonce is given out, and S is latched. `nonceRead`: R635: only
W0 reads one. `nonceExpiry`: R635: after ten minutes the nonce is no longer valid. `nonceExpiry`: R635: before that it
stays. `tokenCheck`: R635: the token is compared with the HMAC of the nonce, DEV_UID and S; a match starts the clear, a
mismatch is counted. `tokenCheck`: R635: without a valid nonce the check answers 5. `tokenCheck`: R635: without a usable
key the check answers 3. `tokenCheck`: R635: within a second of a mismatch the check answers 4. `tokenCheck`: R635:
while a clear runs the check answers 6. `tokenCheck`: R635: only W0 hands in a token. `clear`: R636: the ring's records
up to S are erased and counted, what waits for the journal is what lies above S, and the journal's sectors are to be
erased where that was asked for. `clear`: R636: with no clear begun, or while it works on the journal, nothing more
happens. `keyProgram`: R633: the slot is being programmed, and the data registers are clear. `keyProgram`: R6, R633:
without the key, into a slot that is not empty, in a VDD warning or out of *Run* nothing is programmed.
`keyProgramDone`: R633: the slot is programmed, or partial. `keyProgramDone`: R633: with no slot being programmed
nothing ends. -/
def Obligations.ClearCommands : Prop :=
  (∀ (s : State) (w : Fin 8), Can.nonceRead w s = true → Completes (.nonceRead w) s (fun h =>
      h.recd.nonce.isSome = true ∧ h.free = s.hub.free + 1 ∧ (∀ x ∈ h.recd.nonce.toList, x.2 = s.hub.clk.now ∧ h.rd REC_CLEAR_NONCE_LO_nonce = x.1 % 2 ^ 32 ∧ h.rd REC_CLEAR_NONCE_HI_nonce = x.1 / 2 ^ 32) ∧ h.recd.clearS = s.hub.recd.newest ∧ h.rd REC_CLEAR_SEQ_LO_s = s.hub.recd.newest % 2 ^ 32 ∧ h.rd REC_CLEAR_SEQ_HI_s = s.hub.recd.newest / 2 ^ 32 % 2 ^ REC_CLEAR_SEQ_HI_s.width)) ∧
  (∀ (s : State) (w : Fin 8), Can.nonceRead2 w s = true → Completes (.nonceRead w) s (fun h =>
      h.recd = s.hub.recd ∧ h.regs = s.hub.regs ∧ h.ret = s.hub.ret ∧ h.banks = s.hub.banks)) ∧
  (∀ (s : State), Can.nonceExpiry s = true → Completes (.nonceExpiry) s (fun h =>
      h.recd.nonce = none ∧ h.regs = s.hub.regs ∧ h.recd.clearRun = s.hub.recd.clearRun)) ∧
  (∀ (s : State), Can.nonceExpiry2 s = true → Completes (.nonceExpiry) s (fun h =>
      h.recd = s.hub.recd ∧ h.regs = s.hub.regs ∧ h.ret = s.hub.ret ∧ h.banks = s.hub.banks)) ∧
  (∀ (s : State) (w : Fin 8) (v : Word), Can.tokenCheck w v s = true → Completes (.tokenCheck w v) s (fun h =>
      h.recd.nonce = none ∧ (∀ n ∈ s.hub.recd.nonce.toList, ∀ key ∈ (s.hub.authKey (s.hub.rd REC_CLEAR_CTRL_auth)).toList, ((s.hub.wr REC_CLEAR_TOKEN_bytes v.toNat 3).tokenBytes = s.hub.clearToken key n.1 → h.recd.clearRun = some (s.hub.recd.clearS, s.hub.rd REC_CLEAR_CTRL_auth, s.hub.flag REC_CLEAR_CTRL_journal) ∧ h.flag REC_CLEAR_STAT_busy = true) ∧
          ((s.hub.wr REC_CLEAR_TOKEN_bytes v.toNat 3).tokenBytes ≠ s.hub.clearToken key n.1 → h.recd.clearRun = none ∧ h.rd REC_CLEAR_STAT_result = 2 ∧ h.rd REC_CLEAR_STAT_failures = satInc 65535 (s.hub.rd REC_CLEAR_STAT_failures) ∧ h.recd.mismatchAt = some s.hub.clk.now)))) ∧
  (∀ (s : State) (w : Fin 8) (v : Word), Can.tokenCheck2 w v s = true → Completes (.tokenCheck w v) s (fun h =>
      h.rd REC_CLEAR_STAT_result = 5 ∧ h.recd = s.hub.recd ∧ h.mem = s.hub.mem)) ∧
  (∀ (s : State) (w : Fin 8) (v : Word), Can.tokenCheck3 w v s = true → Completes (.tokenCheck w v) s (fun h =>
      h.rd REC_CLEAR_STAT_result = 3 ∧ h.recd = s.hub.recd ∧ h.mem = s.hub.mem)) ∧
  (∀ (s : State) (w : Fin 8) (v : Word), Can.tokenCheck4 w v s = true → Completes (.tokenCheck w v) s (fun h =>
      h.rd REC_CLEAR_STAT_result = 4 ∧ h.recd = s.hub.recd ∧ h.mem = s.hub.mem)) ∧
  (∀ (s : State) (w : Fin 8) (v : Word), Can.tokenCheck5 w v s = true → Completes (.tokenCheck w v) s (fun h =>
      h.rd REC_CLEAR_STAT_result = 6 ∧ h.recd = s.hub.recd ∧ h.mem = s.hub.mem)) ∧
  (∀ (s : State) (w : Fin 8) (v : Word), Can.tokenCheck6 w v s = true → Completes (.tokenCheck w v) s (fun h =>
      h.recd = s.hub.recd ∧ h.regs = s.hub.regs ∧ h.ret = s.hub.ret ∧ h.banks = s.hub.banks)) ∧
  (∀ (s : State), Can.clear s = true → Completes (.clear) s (fun h =>
      (∀ c ∈ s.hub.recd.clearRun.toList, h.ringList.all (fun x => decide (c.1 < recSeq x.2)) = true ∧ h.ringList.length + (s.hub.ringList.filter (fun x => decide (recSeq x.2 ≤ c.1))).length = s.hub.ringList.length ∧ h.rd REC_EVICT_COUNT_count = (s.hub.rd REC_EVICT_COUNT_count + (s.hub.ringList.filter (fun x => decide (recSeq x.2 ≤ c.1))).length) % 2 ^ REC_EVICT_COUNT_count.width ∧ h.recd.clearSectors = (if c.2.2 then List.range 32 else []) ∧ (c.2.2 = true → h.recd.copies = []) ∧ (c.2.2 = true → s.hub.nvmOp = none → h.sch.queue.any (fun x => x.kind == CandKind.nvmErase && x.ref == 0) = true) ∧ h.recd.waiting.all (fun n => decide (c.1 < n)) = true) ∧ h.recd.staging = [] ∧ h.recd.clearRun = s.hub.recd.clearRun)) ∧
  (∀ (s : State), Can.clear2 s = true → Completes (.clear) s (fun h =>
      h.recd = s.hub.recd ∧ h.regs = s.hub.regs ∧ h.ret = s.hub.ret ∧ h.banks = s.hub.banks)) ∧
  (∀ (s : State) (w : Fin 8) (v : Word), Can.keyProgram w v s = true → Completes (.keyProgram w v) s (fun h =>
      h.recd.keyProg = some (v.toNat % 8, (List.range 8).flatMap (fun i => leBytes 4 (s.hub.rd REC_KEY_DATA_bytes i))) ∧ (∀ i : Fin 8, h.rd REC_KEY_DATA_bytes i = 0) ∧ h.chip = s.hub.chip)) ∧
  (∀ (s : State) (w : Fin 8) (v : Word), Can.keyProgram2 w v s = true → Completes (.keyProgram w v) s (fun h =>
      h.recd = s.hub.recd ∧ h.regs = s.hub.regs ∧ h.ret = s.hub.ret ∧ h.banks = s.hub.banks ∧ h.chip = s.hub.chip)) ∧
  (∀ (s : State) (good : Bool), Can.keyProgramDone good s = true → Completes (.keyProgramDone good) s (fun h =>
      h.recd.keyProg = none ∧ (∀ x ∈ s.hub.recd.keyProg.toList, (vget h.chip.keySlots x.1 {}).state = (if good then 2 else 1) ∧ (good = true → (vget h.chip.keySlots x.1 {}).key = x.2) ∧ (∀ i : Fin 8, i.val ≠ x.1 → vget h.chip.keySlots i {} = vget s.hub.chip.keySlots i {})))) ∧
  (∀ (s : State) (good : Bool), Can.keyProgramDone2 good s = true → Completes (.keyProgramDone good) s (fun h =>
      h.recd = s.hub.recd ∧ h.regs = s.hub.regs ∧ h.ret = s.hub.ret ∧ h.banks = s.hub.banks ∧ h.chip = s.hub.chip))

/-- When `powerOnSecond` has its effect. R649, R652, R662: the second is counted, a month ends after 2,592,000 of them
with its minima and its gain, and LIFE_WEAR is judged. -/
def Sys2Proof.Machine.Can.powerOnSecond (_barrierMs : Fin 1001) (s : State) : Bool :=
  s.hub.dev.phase != .off && decide (s.hub.life.secondAt + Config.ticksPerS ≤ s.hub.clk.now) && s.hub.logicRuns

/-- When `powerOnSecond` has its effect. R649: with the logic die in reset the second is counted. -/
def Sys2Proof.Machine.Can.powerOnSecond2 (_barrierMs : Fin 1001) (s : State) : Bool :=
  s.hub.dev.phase != .off && decide (s.hub.life.secondAt + Config.ticksPerS ≤ s.hub.clk.now) && !s.hub.logicRuns

/-- When `powerOnSecond` has its effect. R649: before the second has passed, and in *Off*, none is counted. -/
def Sys2Proof.Machine.Can.powerOnSecond3 (_barrierMs : Fin 1001) (s : State) : Bool :=
  !(s.hub.dev.phase != .off && decide (s.hub.life.secondAt + Config.ticksPerS ≤ s.hub.clk.now))

/-- When `fieldSnapshot` has its effect. R653: every second the snapshot is requested. -/
def Sys2Proof.Machine.Can.fieldSnapshot (s : State) : Bool :=
  s.hub.dev.phase == .up && !s.hub.flag HNG_STAT_rejoin && s.hub.life.snapAt.all (fun t => decide (t + Config.ticksPerS ≤ s.hub.clk.now))

/-- When `fieldSnapshot` has its effect. R653: before that, or while the link rejoins, it is not. -/
def Sys2Proof.Machine.Can.fieldSnapshot2 (s : State) : Bool :=
  !(s.hub.dev.phase == .up && !s.hub.flag HNG_STAT_rejoin && s.hub.life.snapAt.all (fun t => decide (t + Config.ticksPerS ≤ s.hub.clk.now)))

/-- When `mirrorStart` has its effect. R654, R657: a mirror of the ledger starts into the next slot. -/
def Sys2Proof.Machine.Can.mirrorStart (s : State) : Bool :=
  s.hub.dev.phase == .up && s.hub.life.mirror.isNone && decide (s.hub.life.lastMirror + 60 * s.hub.rd LIFE_CFG_interval_min ≤ s.hub.ret.life.powerOn)

/-- When `mirrorStart` has its effect. R657: a delta at half its field starts one. -/
def Sys2Proof.Machine.Can.mirrorStart2 (s : State) : Bool :=
  s.hub.dev.phase == .up && s.hub.life.mirror.isNone && !decide (s.hub.life.lastMirror + 60 * s.hub.rd LIFE_CFG_interval_min ≤ s.hub.ret.life.powerOn) && s.hub.deltas.toList.any halfFull

/-- When `mirrorStart` has its effect. R657, R660: a boot that took counts from a power-down page, or found no image,
starts one in *Run*. -/
def Sys2Proof.Machine.Can.mirrorStart3 (s : State) : Bool :=
  s.hub.dev.phase == .up && s.hub.life.mirror.isNone && !decide (s.hub.life.lastMirror + 60 * s.hub.rd LIFE_CFG_interval_min ≤ s.hub.ret.life.powerOn) && !s.hub.deltas.toList.any halfFull && s.hub.life.mirrorDue && s.hub.state == .run

/-- When `mirrorStart` has its effect. R657: one that becomes due while another runs follows it. -/
def Sys2Proof.Machine.Can.mirrorStart4 (s : State) : Bool :=
  s.hub.dev.phase == .up && s.hub.life.mirror.isSome && (decide (s.hub.life.lastMirror + 60 * s.hub.rd LIFE_CFG_interval_min ≤ s.hub.ret.life.powerOn) || s.hub.deltas.toList.any halfFull || (s.hub.life.mirrorDue && s.hub.state == .run))

/-- When `mirrorStart` has its effect. R657: without a trigger none starts. -/
def Sys2Proof.Machine.Can.mirrorStart5 (s : State) : Bool :=
  s.hub.dev.phase != .up || !(decide (s.hub.life.lastMirror + 60 * s.hub.rd LIFE_CFG_interval_min ≤ s.hub.ret.life.powerOn) || s.hub.deltas.toList.any halfFull || (s.hub.life.mirrorDue && s.hub.state == .run))

/-- When `mirror` has its effect. R657: W0's order starts a mirror. -/
def Sys2Proof.Machine.Can.mirror (w : Fin 8) (v : Word) (s : State) : Bool :=
  s.hub.writable w && w.val == 0 && v.getLsbD 0 && s.hub.life.mirror.isNone

/-- When `mirror` has its effect. R657: while one runs the order is kept for after it. -/
def Sys2Proof.Machine.Can.mirror2 (w : Fin 8) (v : Word) (s : State) : Bool :=
  s.hub.writable w && w.val == 0 && v.getLsbD 0 && s.hub.life.mirror.isSome

/-- When `mirror` has its effect. R657: only W0 orders one. -/
def Sys2Proof.Machine.Can.mirror3 (w : Fin 8) (v : Word) (s : State) : Bool :=
  !(s.hub.writable w && w.val == 0 && v.getLsbD 0)

/-- When `mirrorDone` has its effect. R658: a page of the image has been written, and the next asks for admission. -/
def Sys2Proof.Machine.Can.mirrorDone (res : Fin 3) (_mirrorOk : Bool) (s : State) : Bool :=
  s.hub.nvmOp.any (fun o => o.use == NvmUse.mirror && o.kind == 1) && s.hub.life.mirror.isSome && decide (s.hub.life.page < 6) && res != 2

/-- When `mirrorDone` has its effect. R658: a device that gives no result ends the mirror with LIFE_NVM, and NVM_FAIL
occurs. -/
def Sys2Proof.Machine.Can.mirrorDone2 (res : Fin 3) (_mirrorOk : Bool) (s : State) : Bool :=
  s.hub.nvmOp.any (fun o => o.use == NvmUse.mirror && o.kind == 1) && s.hub.life.mirror.isSome && res == 2 && s.hub.life.again.isNone

/-- When `mirrorDone` has its effect. R658: the sector is erased, and the image's first page asks for admission. -/
def Sys2Proof.Machine.Can.mirrorDone3 (res : Fin 3) (_mirrorOk : Bool) (s : State) : Bool :=
  s.hub.nvmOp.any (fun o => o.use == NvmUse.mirror && o.kind == 2) && s.hub.life.mirror.isSome && res != 2

/-- When `mirrorDone` has its effect. R88: the entry has been written; after the first good entry of a copy the other
copy's sector is to be erased. -/
def Sys2Proof.Machine.Can.mirrorDone4 (_res : Fin 3) (_mirrorOk : Bool) (s : State) : Bool :=
  s.hub.nvmOp.any (fun o => o.use == NvmUse.retained && o.kind == 1)

/-- When `mirrorDone` has its effect. R88: the other copy's sector has been erased. -/
def Sys2Proof.Machine.Can.mirrorDone5 (_res : Fin 3) (_mirrorOk : Bool) (s : State) : Bool :=
  s.hub.nvmOp.any (fun o => o.use == NvmUse.retained && o.kind == 2)

/-- When `mirrorDone` has its effect. R658: with no such operation running nothing ends. -/
def Sys2Proof.Machine.Can.mirrorDone6 (_res : Fin 3) (_mirrorOk : Bool) (s : State) : Bool :=
  !s.hub.nvmOp.any (fun o => o.use == NvmUse.mirror || o.use == NvmUse.retained)

/-- When `mirrorDone` has its effect. R658: an image that reads back becomes the base, and the field die is to be
rebased; one that does not raises LIFE_NVM, and the base stands. -/
def Sys2Proof.Machine.Can.mirrorDone7 (res : Fin 3) (_mirrorOk : Bool) (s : State) : Bool :=
  s.hub.nvmOp.any (fun o => o.use == NvmUse.mirror && o.kind == 1) && s.hub.life.mirror.isSome && s.hub.life.page == 6 && res != 2 && s.hub.life.again.isNone

/-- When `rebase` has its effect. R658: the oldest rebase is requested. -/
def Sys2Proof.Machine.Can.rebase (s : State) : Bool :=
  s.hub.life.rebase.head?.any (fun x => !(s.hub.hinge.out ++ s.hub.hinge.waiting).any (fun y => y.what == ReqKind.rebase x.1))

/-- When `rebase` has its effect. R658: with none due, or while its request is in flight, none is sent. -/
def Sys2Proof.Machine.Can.rebase2 (s : State) : Bool :=
  !s.hub.life.rebase.head?.any (fun x => !(s.hub.hinge.out ++ s.hub.hinge.waiting).any (fun y => y.what == ReqKind.rebase x.1))

/-- When `ledgerRestore` has its effect. R660: the newest valid image is the base, and the field die's serial says what
its counts add to; without an image the ledger starts at zero. -/
def Sys2Proof.Machine.Can.ledgerRestore (s : State) : Bool :=
  s.hub.hinge.upL && s.hub.recd.numbering && !s.hub.life.restored

/-- When `ledgerRestore` has its effect. R660: once after each boot, with the link up. -/
def Sys2Proof.Machine.Can.ledgerRestore2 (s : State) : Bool :=
  !(s.hub.hinge.upL && s.hub.recd.numbering && !s.hub.life.restored)

/-- When `lifeWindowRead` has its effect. R653, R665: the selected channel's totals are latched into the ward's window.
-/
def Sys2Proof.Machine.Can.lifeWindowRead (w : Fin 8) (s : State) : Bool :=
  s.hub.readable w

/-- When `lifeWindowRead` has its effect. R27, R665: no read, no latch. -/
def Sys2Proof.Machine.Can.lifeWindowRead2 (w : Fin 8) (s : State) : Bool :=
  !s.hub.readable w

/-- The commands of the life ledger complete, each under the condition and with the result that its clause gives, after
R649 to R665. Clause by clause: `powerOnSecond`: R649, R652, R662: the second is counted, a month ends after 2,592,000
of them with its minima and its gain, and LIFE_WEAR is judged. `powerOnSecond`: R649: with the logic die in reset the
second is counted. `powerOnSecond`: R649: before the second has passed, and in *Off*, none is counted. `fieldSnapshot`:
R653: every second the snapshot is requested. `fieldSnapshot`: R653: before that, or while the link rejoins, it is not.
`mirrorStart`: R654, R657: a mirror of the ledger starts into the next slot. `mirrorStart`: R657: a delta at half its
field starts one. `mirrorStart`: R657, R660: a boot that took counts from a power-down page, or found no image, starts
one in *Run*. `mirrorStart`: R657: one that becomes due while another runs follows it. `mirrorStart`: R657: without a
trigger none starts. `mirror`: R657: W0's order starts a mirror. `mirror`: R657: while one runs the order is kept for
after it. `mirror`: R657: only W0 orders one. `mirrorDone`: R658: a page of the image has been written, and the next
asks for admission. `mirrorDone`: R658: a device that gives no result ends the mirror with LIFE_NVM, and NVM_FAIL
occurs. `mirrorDone`: R658: the sector is erased, and the image's first page asks for admission. `mirrorDone`: R88: the
entry has been written; after the first good entry of a copy the other copy's sector is to be erased. `mirrorDone`: R88:
the other copy's sector has been erased. `mirrorDone`: R658: with no such operation running nothing ends. `mirrorDone`:
R658: an image that reads back becomes the base, and the field die is to be rebased; one that does not raises LIFE_NVM,
and the base stands. `rebase`: R658: the oldest rebase is requested. `rebase`: R658: with none due, or while its request
is in flight, none is sent. `ledgerRestore`: R660: the newest valid image is the base, and the field die's serial says
what its counts add to; without an image the ledger starts at zero. `ledgerRestore`: R660: once after each boot, with
the link up. `lifeWindowRead`: R653, R665: the selected channel's totals are latched into the ward's window.
`lifeWindowRead`: R27, R665: no read, no latch. -/
def Obligations.LedgerCommands : Prop :=
  (∀ (s : State) (barrierMs : Fin 1001), Can.powerOnSecond barrierMs s = true → Completes (.powerOnSecond barrierMs) s (fun h =>
      h.ret.life.powerOn = satInc (2 ^ 32 - 1) s.hub.ret.life.powerOn ∧ h.ret.life.barrier = satAdd (2 ^ 32 - 1) s.hub.ret.life.barrier ((s.hub.life.barrierMs + barrierMs.val) / 1000) ∧ h.life.barrierMs = (s.hub.life.barrierMs + barrierMs.val) % 1000 ∧ h.life.secondAt = s.hub.clk.now ∧
        (s.hub.ret.life.month < h.ret.life.powerOn / 2592000 → h.ret.life.month = (s.hub.ret.life.month + 1) % 2 ^ 16 ∧ h.ret.life.margins = [64, 64, 64, 64] ∧ h.ret.life.usedAtMonth = s.hub.lifeUsed ∧ h.ret.life.gain = s.hub.lifeUsed - s.hub.ret.life.usedAtMonth ∧ h.life.hist.head? = some (s.hub.ret.life.month, leNat ((List.range 4).map (fun i => s.hub.ret.life.margins.getD i 64 % 256)))) ∧ (h.ret.life.powerOn / 2592000 ≤ s.hub.ret.life.month → h.ret.life.month = s.hub.ret.life.month ∧ h.ret.life.margins = s.hub.ret.life.margins ∧ h.life.hist = s.hub.life.hist) ∧ (s.hub.proofHides 59 16 = false → caused h 59 16 = decide (s.hub.rd LIFE_CFG_warn_pct * 10000 ≤ s.hub.lifeUsed)))) ∧
  (∀ (s : State) (barrierMs : Fin 1001), Can.powerOnSecond2 barrierMs s = true → Completes (.powerOnSecond barrierMs) s (fun h =>
      h.ret.life.powerOn = satInc (2 ^ 32 - 1) s.hub.ret.life.powerOn ∧ h.ret.life.barrier = satAdd (2 ^ 32 - 1) s.hub.ret.life.barrier ((s.hub.life.barrierMs + barrierMs.val) / 1000) ∧ h.life.barrierMs = (s.hub.life.barrierMs + barrierMs.val) % 1000 ∧ h.life.secondAt = s.hub.clk.now ∧ h.ret.life.month = s.hub.ret.life.month ∧ h.life.hist = s.hub.life.hist)) ∧
  (∀ (s : State) (barrierMs : Fin 1001), Can.powerOnSecond3 barrierMs s = true → Completes (.powerOnSecond barrierMs) s (fun h =>
      h.life = s.hub.life ∧ h.regs = s.hub.regs ∧ h.ret = s.hub.ret)) ∧
  (∀ (s : State), Can.fieldSnapshot s = true → Completes (.fieldSnapshot) s (fun h =>
      (s.hub.hinge.upL = true → h.hinge.out.length + h.hinge.waiting.length = s.hub.hinge.out.length + s.hub.hinge.waiting.length + 1 ∧ (h.hinge.out ++ h.hinge.waiting).any (fun z => z.what == .snapshot) = true) ∧ (s.hub.hinge.upL = false → h.hinge = s.hub.hinge) ∧ h.life = { s.hub.life with snapAt := some s.hub.clk.now })) ∧
  (∀ (s : State), Can.fieldSnapshot2 s = true → Completes (.fieldSnapshot) s (fun h =>
      h.life = s.hub.life ∧ h.regs = s.hub.regs ∧ h.ret = s.hub.ret ∧ h.hinge = s.hub.hinge)) ∧
  (∀ (s : State), Can.mirrorStart s = true → Completes (.mirrorStart) s (fun h =>
      h.life.mirror.map (fun x => x.1) = some (nextSlot s.hub.life.slot) ∧ h.flag LIFE_STAT_busy = true ∧ h.life.lastMirror = s.hub.ret.life.powerOn ∧ h.life.page = 0 ∧ h.nvm = s.hub.nvm ∧ h.life.trigger = 0)) ∧
  (∀ (s : State), Can.mirrorStart2 s = true → Completes (.mirrorStart) s (fun h =>
      h.life.mirror.map (fun x => x.1) = some (nextSlot s.hub.life.slot) ∧ h.flag LIFE_STAT_busy = true ∧ h.life.lastMirror = s.hub.ret.life.powerOn ∧ h.life.page = 0 ∧ h.nvm = s.hub.nvm ∧ h.life.trigger = 3)) ∧
  (∀ (s : State), Can.mirrorStart3 s = true → Completes (.mirrorStart) s (fun h =>
      h.life.mirror.map (fun x => x.1) = some (nextSlot s.hub.life.slot) ∧ h.flag LIFE_STAT_busy = true ∧ h.life.lastMirror = s.hub.ret.life.powerOn ∧ h.life.page = 0 ∧ h.nvm = s.hub.nvm ∧ h.life.trigger = 4)) ∧
  (∀ (s : State), Can.mirrorStart4 s = true → Completes (.mirrorStart) s (fun h =>
      h.life.again = some (if decide (s.hub.life.lastMirror + 60 * s.hub.rd LIFE_CFG_interval_min ≤ s.hub.ret.life.powerOn) then 0 else if s.hub.deltas.toList.any halfFull then 3 else 4) ∧ h.life.mirror = s.hub.life.mirror ∧ h.life.page = s.hub.life.page ∧ h.regs = s.hub.regs)) ∧
  (∀ (s : State), Can.mirrorStart5 s = true → Completes (.mirrorStart) s (fun h =>
      h.life = s.hub.life ∧ h.regs = s.hub.regs ∧ h.ret = s.hub.ret)) ∧
  (∀ (s : State) (w : Fin 8) (v : Word), Can.mirror w v s = true → Completes (.mirror w v) s (fun h =>
      h.life.mirror.map (fun x => x.1) = some (nextSlot s.hub.life.slot) ∧ h.flag LIFE_STAT_busy = true ∧ h.life.lastMirror = s.hub.ret.life.powerOn ∧ h.life.page = 0 ∧ h.nvm = s.hub.nvm ∧ h.life.trigger = 2 ∧ h.flag LIFE_CTRL_mirror = true)) ∧
  (∀ (s : State) (w : Fin 8) (v : Word), Can.mirror2 w v s = true → Completes (.mirror w v) s (fun h =>
      h.life.again = some 2 ∧ h.life.mirror = s.hub.life.mirror ∧ h.life.page = s.hub.life.page ∧ h.flag LIFE_CTRL_mirror = true)) ∧
  (∀ (s : State) (w : Fin 8) (v : Word), Can.mirror3 w v s = true → Completes (.mirror w v) s (fun h =>
      h.life = s.hub.life ∧ h.regs = s.hub.regs ∧ h.ret = s.hub.ret)) ∧
  (∀ (s : State) (res : Fin 3) (mirrorOk : Bool), Can.mirrorDone res mirrorOk s = true → Completes (.mirrorDone res mirrorOk) s (fun h =>
      h.life.page = s.hub.life.page + 1 ∧ h.life.mirror = s.hub.life.mirror ∧ (∀ o ∈ s.hub.nvmOp.toList, (res = 0 → h.nvmDev 0 = nvmProgram (s.hub.nvmDev 0) o.addr o.data) ∧ (s.hub.nvmBoth o = true → mirrorOk = true → h.nvmDev 1 = nvmProgram (s.hub.nvmDev 1) o.addr o.data)) ∧ h.ret.life.serial = s.hub.ret.life.serial)) ∧
  (∀ (s : State) (res : Fin 3) (mirrorOk : Bool), Can.mirrorDone2 res mirrorOk s = true → Completes (.mirrorDone res mirrorOk) s (fun h =>
      h.life.mirror = none ∧ h.flag LIFE_STAT_busy = false ∧ h.flag LIFE_CTRL_mirror = false ∧ (∀ x ∈ s.hub.life.mirror.toList, h.life.slot = x.1) ∧ h.ret.life.serial = s.hub.ret.life.serial ∧ h.life.base = s.hub.life.base ∧ h.rd LIFE_STAT_fails = satInc 255 (s.hub.rd LIFE_STAT_fails) ∧ (s.hub.proofHides 58 16 = false → (s.hub.testGroup ≠ 5 ∨ s.hub.fltClass 58 = 5) → s.hub.dev.phase ≠ .recovery → vget h.flt.counts 58 0 = satInc 65535 (vget s.hub.flt.counts 58 0)) ∧ (s.hub.proofHides 60 16 = false → (s.hub.testGroup ≠ 5 ∨ s.hub.fltClass 60 = 5) → s.hub.dev.phase ≠ .recovery → vget h.flt.counts 60 0 = satInc 65535 (vget s.hub.flt.counts 60 0)))) ∧
  (∀ (s : State) (res : Fin 3) (mirrorOk : Bool), Can.mirrorDone3 res mirrorOk s = true → Completes (.mirrorDone res mirrorOk) s (fun h =>
      h.life.eraseDue = false ∧ h.life.mirror = s.hub.life.mirror ∧ h.life.page = s.hub.life.page ∧ (res = 0 → ∀ o ∈ s.hub.nvmOp.toList, h.nvmDev 0 = nvmErase (s.hub.nvmDev 0) o.addr 4096) ∧ h.ret.life.serial = s.hub.ret.life.serial)) ∧
  (∀ (s : State) (res : Fin 3) (mirrorOk : Bool), Can.mirrorDone4 res mirrorOk s = true → Completes (.mirrorDone res mirrorOk) s (fun h =>
      h.ret.mirrorNext = (s.hub.ret.mirrorNext + 1) % 8 ∧ h.life.entryDue = false ∧ (∀ o ∈ s.hub.nvmOp.toList, (res = 0 → h.nvmDev 0 = nvmProgram (s.hub.nvmDev 0) o.addr o.data) ∧ (s.hub.nvmBoth o = true → mirrorOk = true → h.nvmDev 1 = nvmProgram (s.hub.nvmDev 1) o.addr o.data)) ∧ h.ret.life.serial = s.hub.ret.life.serial ∧ (∀ o ∈ s.hub.nvmOp.toList, res = 0 → h.nvmRead 0 o.addr 256 = o.data → s.hub.ret.mirrorNext % 4 = 0 → (s.hub.nvmDev 0).kind = .nor → h.life.copyErase = some (1 - s.hub.ret.mirrorNext / 4)) ∧ (res ≠ 0 → h.life.copyErase = s.hub.life.copyErase))) ∧
  (∀ (s : State) (res : Fin 3) (mirrorOk : Bool), Can.mirrorDone5 res mirrorOk s = true → Completes (.mirrorDone res mirrorOk) s (fun h =>
      h.life.copyErase = none ∧ h.ret.mirrorNext = s.hub.ret.mirrorNext ∧ (res = 0 → ∀ o ∈ s.hub.nvmOp.toList, h.nvmDev 0 = nvmErase (s.hub.nvmDev 0) o.addr 4096))) ∧
  (∀ (s : State) (res : Fin 3) (mirrorOk : Bool), Can.mirrorDone6 res mirrorOk s = true → Completes (.mirrorDone res mirrorOk) s (fun h =>
      h.life = s.hub.life ∧ h.regs = s.hub.regs ∧ h.ret = s.hub.ret ∧ h.nvm = s.hub.nvm)) ∧
  (∀ (s : State) (res : Fin 3) (mirrorOk : Bool), Can.mirrorDone7 res mirrorOk s = true → Completes (.mirrorDone res mirrorOk) s (fun h =>
      h.life.mirror = none ∧ h.flag LIFE_STAT_busy = false ∧ h.flag LIFE_CTRL_mirror = false ∧ (∀ x ∈ s.hub.life.mirror.toList, h.life.slot = x.1 ∧ (res = 0 → h.nvmRead 0 (slotAddr x.1) 0x700 = x.2 → h.ret.life.serial = s.hub.ret.life.serial + 1 ∧ h.rd LIFE_STAT_mirrors = satInc 65535 (s.hub.rd LIFE_STAT_mirrors) ∧ h.life.entryDue = true ∧ h.life.rebase = s.hub.life.rebase ++ [(s.hub.ret.life.serial + 1, s.hub.life.mirrorSnap)] ∧ (∀ c : Fin 16, vget h.life.base c {} = ChCount.ofBytes ((x.2.drop (0x40 + 32 * c)).take 32))) ∧
          (res ≠ 0 ∨ h.nvmRead 0 (slotAddr x.1) 0x700 ≠ x.2 → h.ret.life.serial = s.hub.ret.life.serial ∧ h.life.base = s.hub.life.base ∧ h.rd LIFE_STAT_fails = satInc 255 (s.hub.rd LIFE_STAT_fails) ∧ (s.hub.proofHides 58 16 = false → (s.hub.testGroup ≠ 5 ∨ s.hub.fltClass 58 = 5) → s.hub.dev.phase ≠ .recovery → vget h.flt.counts 58 0 = satInc 65535 (vget s.hub.flt.counts 58 0)))))) ∧
  (∀ (s : State), Can.rebase s = true → Completes (.rebase) s (fun h =>
      (∀ x ∈ s.hub.life.rebase.head?.toList, (s.hub.hinge.upL = true → h.hinge.out.length + h.hinge.waiting.length = s.hub.hinge.out.length + s.hub.hinge.waiting.length + 1 ∧ (h.hinge.out ++ h.hinge.waiting).any (fun z => z.what == ReqKind.rebase x.1) = true) ∧ (s.hub.hinge.upL = false → h.hinge = s.hub.hinge)) ∧ h.life = s.hub.life)) ∧
  (∀ (s : State), Can.rebase2 s = true → Completes (.rebase) s (fun h =>
      h.life = s.hub.life ∧ h.regs = s.hub.regs ∧ h.ret = s.hub.ret ∧ h.hinge = s.hub.hinge)) ∧
  (∀ (s : State), Can.ledgerRestore s = true → Completes (.ledgerRestore) s (fun h =>
      h.life.restored = true ∧ h.nvm = s.hub.nvm ∧ h.life.lastMirror = h.ret.life.powerOn ∧ (s.hub.newestImage = none → h.ret.life.serial = 0 ∧ h.life.slot = 3 ∧ h.rd LIFE_STAT_ch_src = 3 ∧ h.life.mirrorDue = true ∧ (∀ c : Fin 16, vget h.life.base c {} = {} ∧ vget h.life.carried c {} = {} ∧ vget h.life.snap c {} = {}) ∧ h.life.rebase = (if s.hub.life.fieldSerial = 0 then [] else [(0, s.hub.life.acc)])) ∧
        (∀ y ∈ s.hub.newestImage.toList, h.ret.life.serial = numAt y.2 8 4 ∧ h.life.slot = y.1 ∧ (∀ c : Fin 16, vget h.life.base c {} = ChCount.ofBytes ((y.2.drop (0x40 + 32 * c)).take 32)) ∧ h.rd LIFE_STAT_ch_src = (if s.hub.life.fieldSerial = numAt y.2 8 4 then 0 else if s.hub.life.fieldSerial = 0 then 1 else 2) ∧ (s.hub.life.fieldSerial = numAt y.2 8 4 → h.life.snap = s.hub.life.acc ∧ h.life.rebase = [])))) ∧
  (∀ (s : State), Can.ledgerRestore2 s = true → Completes (.ledgerRestore) s (fun h =>
      h.life = s.hub.life ∧ h.regs = s.hub.regs ∧ h.ret = s.hub.ret)) ∧
  (∀ (s : State) (w : Fin 8), Can.lifeWindowRead w s = true → Completes (.lifeWindowRead w) s (fun h =>
      (let t := vget s.hub.totals (s.hub.rd LIFE_SEL_ch w) {}; h.rd LIFE_CH_CYC_LO_cycles w = t.cycles % 2 ^ 32 ∧ h.rd LIFE_CH_CYC_HI_cycles w = t.cycles / 2 ^ 32 % 2 ^ 8 ∧ h.rd LIFE_CH_EDG_LO_edges w = t.edges % 2 ^ LIFE_CH_EDG_LO_edges.width ∧ h.rd LIFE_CH_EDG_HI_edges w = t.edges / 2 ^ 32 % 2 ^ LIFE_CH_EDG_HI_edges.width ∧ h.rd LIFE_CH_ON_s w = t.onTime % 2 ^ 32 ∧ h.rd LIFE_CH_STRESS_units w = t.stress % 2 ^ 32 ∧ h.rd LIFE_CH_LIMJ_energy w = t.energy % 2 ^ LIFE_CH_LIMJ_energy.width ∧ h.rd LIFE_CH_EPS_count w = t.episodes % 2 ^ LIFE_CH_EPS_count.width ∧ h.rd LIFE_CH_TSD_count w = t.shutdowns % 2 ^ 16 ∧ h.rd LIFE_CH_TCYC_count w = t.tcycles % 2 ^ 32) ∧ h.life = s.hub.life)) ∧
  (∀ (s : State) (w : Fin 8), Can.lifeWindowRead2 w s = true → Completes (.lifeWindowRead w) s (fun h =>
      h.life = s.hub.life ∧ h.regs = s.hub.regs ∧ h.ret = s.hub.ret))

/-- For every command c and every state with c at the front of its queue, a step is exec of c on that state with the
queue's rest. -/
def Obligations.AStepTakesTheFrontCommand : Prop :=
  ∀ (s : State) (c : Instr) (rest : List Instr), s.pending = c :: rest → step s = exec c { s with pending := rest }

/-- The model's choice (log entry 3): with no command waiting, a step answers a next state with an empty queue, the same
memory and NVM, and the model's clock 10 ns on; the 64-bit timebase of R109 goes up by 1 modulo 2^64, unless the logic
die is in Off or in reset or MCLK is lost. -/
def Obligations.AnEmptyQueueTicks : Prop :=
  ∀ (s : State), s.pending = [] → ∃ t, step s = .next t ∧ t.pending = [] ∧ t.hub.mem = s.hub.mem ∧ t.hub.nvm = s.hub.nvm ∧
    t.hub.clk.now = s.hub.clk.now + 1 ∧
    t.hub.clk.tb = (if s.hub.dev.phase = .off ∨ s.hub.dev.rstLow = true ∨ s.hub.clk.mclkLost = true then s.hub.clk.tb
      else (s.hub.clk.tb + 1) % 2 ^ 64)

/-- No command stops the block: for every command and every state, exec answers a next state, with the queue as it was.
-/
def Obligations.EveryCommandAnswersNext : Prop :=
  ∀ (c : Instr) (s : State), ∃ t, exec c s = .next t ∧ t.pending = s.pending

/-- R51, R52, R220: right after power-on reset of the logic die the queue is empty, the device is in Boot, the timebase
is 0, every ward is Absent, every register field reads its reset value, every byte of the banks and of DP0 and DP1 reads
0, and Deadbolt DB's drive agrees with its conditions.  In Boot, Arming and Recovery INT0 to INT3 are high, ERR is low,
the Luanen leads are not driven, and the NVM's chip selects are high and its clock low; with the logic die in reset, or
in Recovery, AUX0 to AUX3 are high-impedance, and in reset NVM_IO0 to NVM_IO3 are inputs. A channel lead is driven where
its switch is closed; the lead of an output channel whose switch is open is off, with the diagnostic pull-down on but
for an off-state check, while the field die is up and PD_FCHB on. The reset values that the spec does not give are the
model's choice (log entries 5 and 6). -/
def Obligations.TheStateAfterReset : Prop :=
  State.reset.pending = [] ∧ State.reset.hub.dev.phase = .boot ∧ State.reset.hub.clk.tb = 0 ∧
    (∀ w : Fin 8, State.reset.hub.ward w = .absent) ∧
    (∀ (f : Fld) (i w : Nat), State.reset.hub.rd f i w = f.reset % 2 ^ f.width) ∧
    (∀ a : Nat, cellGet 0 State.reset.hub.mem a = 0) ∧ Memory.wf 0 State.reset.hub.mem = true ∧ DriveAgrees State.reset ∧
    (∀ h : Hub, h.dev.phase = .boot ∨ h.dev.phase = .arming ∨ h.dev.phase = .recovery → (∀ p : Nat, h.intLead p = .high) ∧
      h.errLead = .low ∧ h.lsyncInLead = .hiZ ∧ h.lsyncOutLead = .hiZ ∧ h.nvmCsLead = .high ∧ h.nvmSckLead = .low) ∧
    (∀ (h : Hub) (i : Nat), h.logicRuns = false ∨ h.state = .recovery → h.auxLead i = .hiZ) ∧
    (∀ (h : Hub) (i : Nat), h.logicRuns = false → h.nvmIoLead i = .hiZ) ∧
    (∀ (h : Hub) (c : Nat), (h.out c).sw = true → h.chLead c = .on) ∧
    (∀ (h : Hub) (c : Nat), h.sup.fieldUp = true → c < 8 ∨ bitOf h.sup.on 10 = true → h.fIsIn c = false → (h.out c).sw = false →
      h.chLead c = .off (!(h.out c).check))

/-- Invariant of R515: from every state in which Deadbolt DB drives the channels to their safe states exactly while one
of its own conditions is present, every step leads to such a state. -/
def Obligations.TheDriveStaysInAgreement : Prop :=
  ∀ (s t : State), DriveAgrees s → step s = .next t → DriveAgrees t

/-- The memory and both NVM devices are in canonical form. -/
def Sys2Proof.Machine.MemoryCanonical (s : State) : Prop :=
  Memory.wf 0 s.hub.mem = true ∧ s.hub.nvm.toList.all (fun v => Memory.wf 0xFF v.mem) = true

/-- Invariant: from every state in which the bytes of the banks, of DP0 and DP1 and of both NVM devices are listed in
rising order of address without an entry equal to what an unlisted byte reads as, every step leads to such a state. -/
def Obligations.TheMemoryStaysCanonical : Prop :=
  ∀ (s t : State), MemoryCanonical s → step s = .next t → MemoryCanonical t

/-- Invariant of R28: from every state in which W0 is not Held, no step leads to a state in which it is. -/
def Obligations.TheKeeperIsNeverHeld : Prop :=
  ∀ (s t : State), s.hub.ward 0 ≠ .held → step s = .next t → t.hub.ward 0 ≠ .held

/-- No tumbler runs a MARCH, whose element borrows the words of a bank (R308). -/
def Sys2Proof.Machine.noMarch (s : State) : Bool := (List.range 8).all (fun t => (s.hub.tmb t).march.isNone)

/-- The commands that write to B00 to B47, DP0 or DP1: writes of the wards and of their operations, entries of the rings, records, clears
and uncorrectable errors; and the commands that take the logic die through a reset. -/
def Sys2Proof.Machine.storing : Instr → Bool
  | .handoverScrubDone _ | .bitSet _ _ _ _ | .bitClear _ _ _ _ | .arming | .clockHaltExit | .descriptorAccept _
  | .completion _ | .thermalHaltExit _ _ | .regw _ | .regr _ | .bankCopy _ | .bankFill _ | .atomAdd _ | .atomSwap _
  | .meas _ _ | .nvmOperationDone _ _ | .timedRelease _ | .eccUncorrectable _ _ _ | .writeFrame _ _ _ _ _
  | .ringWrite | .clear | .rstnLow _ | .deviceSoftReset | .wardResetDone _ | .bootMemTest _ | .powerOnReset _ _
  | .powerDownStep _ | .vddFailed _ | .holdUpEndVoltage | .bankClearDone _ | .dpWriteLow _ _ _ _
  | .dpWriteHigh _ _ _ _ => true
  | _ => false

/-- With no MARCH under way, a command that is none of those named as storing (a write, an operation with a result in
memory, a ring entry, a record, a clear, an uncorrectable error, a reset) leaves every byte of B00 to B47, DP0 and DP1
as it was. -/
def Obligations.OtherCommandsStoreNothing : Prop :=
  ∀ (c : Instr) (s t : State) (a : Nat), noMarch s = true → storing c = false → exec c s = .next t →
    cellGet 0 t.hub.mem a = cellGet 0 s.hub.mem a

/-- The `n` words from a byte address up. -/
def Sys2Proof.Machine.wordRange (a n : Nat) : List (Nat × Nat) := [(a, 4 * n)]

/-- The word that a ward's write to a byte address reaches: through an alias window the plain one; for the high half of a DP word its low
half too, which is committed with it (R280, R452, R459). -/
def Sys2Proof.Machine.writeRange (a : Nat) : List (Nat × Nat) :=
  if a < 0x100000 then []
  else if 0x1C0000 ≤ a && a < 0x200000 then (if a % 8 == 0 then [] else [(a - 4, 8)])
  else [(plainAddr a, 4)]

/-- What the operation of a slot stores, by its kind, where it executes (R392, R394, R395, R397). -/
def Sys2Proof.Machine.opRange (h : Hub) (slot : Nat) (f : Op → List (Nat × Nat)) : List (Nat × Nat) :=
  match h.opAt slot with
  | none => []
  | some o => f o

/-- The ranges of bytes (first address, length) that a storing command can store to in a state. -/
def Sys2Proof.Machine.storeRanges (c : Instr) (s : State) : List (Nat × Nat) :=
  let h := s.hub
  match c with
  | .bitSet _ b word _ | .bitClear _ b word _ => wordRange (bankAddr b word) 1
  | .dpWriteLow .. => []
  | .dpWriteHigh _ d n _ => writeRange (dpAddr d (2 * n + 1))
  | .writeFrame _ header _ _ _ => (hdrWords header.toNat).flatMap writeRange
  | .regw slot => opRange h slot (fun o => (h.records o.w1 (o.field + 1)).flatMap (fun x => writeRange x.1))
  | .timedRelease slot => opRange h slot (fun o => (h.records o.w2 (o.field + 1)).flatMap (fun x => writeRange x.1))
  | .regr slot => opRange h slot (fun o => wordRange (ptrAddr o.w2) (o.field + 1))
  | .bankCopy slot => opRange h slot (fun o => wordRange (ptrAddr o.w2) (bitsOf o.w1 12 12 + 1))
  | .bankFill slot => opRange h slot (fun o => wordRange (ptrAddr o.w1) (bitsOf o.w1 12 12 + 1))
  | .atomAdd slot | .atomSwap slot => opRange h slot (fun o => wordRange (ptrAddr o.w1) 1)
  | .meas slot _ => opRange h slot (fun o => wordRange (ptrAddr o.w2) (measWords o.w1).length)
  | .nvmOperationDone _ _ =>
    match h.nvmOp with
    | none => []
    | some x => opRange h x.slot (fun o => wordRange (ptrAddr o.w2) o.nvmWords)
  | .descriptorAccept w =>
    (match freeSlot h.poolSize (h.eng.ops.map (·.slot)) h.poolSize h.eng.nextSlot with
      | none => []
      | some k => [(poolSlotAddr k, 12)]) ++
      [(ringEntry (h.rd OPS_SQ_CFG_bank w) (h.rd OPS_SQ_CFG_log2 w) (h.rd OPS_SQ_CFG_base w) (h.rd OPS_SQ_IDX_head w) + 12, 4)]
  | .completion slot => opRange h slot (fun o =>
      [(ringEntry (h.rd OPS_CQ_CFG_bank o.ward) (h.rd OPS_CQ_CFG_log2 o.ward) (h.rd OPS_CQ_CFG_base o.ward)
        (h.rd OPS_CQ_IDX_tail o.ward), 16)])
  | .ringWrite =>
    match h.recd.writing with
    | none => []
    | some e =>
      match ringPick h.ringList e.sev with
      | none => []
      | some x => [(ringAddr x.1 0, 32)]
  | .clear =>
    match h.recd.clearRun with
    | none => []
    | some x => (h.ringList.filter (fun r => decide (recSeq r.2 ≤ x.1))).map (fun r => (ringAddr r.1 7, 4))
  | .eccUncorrectable b word _ => wordRange (memAddr b word) 1
  | .handoverScrubDone b => [(bankAddr b 0, 0x4000)]
  | .bankClearDone m => if m.val == 0 then [(bankAddr 0 0, 24 * 0x4000)] else [(bankAddr 24 0, 24 * 0x4000), (dpAddr 0 0, 0x4000)]
  | .bootMemTest _ => [(bankAddr 0 0, 48 * 0x4000)]
  | .arming => [(dpAddr 0 0, 0x4000)]
  | .wardResetDone w =>
    (h.banksOf w).map (fun b => (bankAddr b 0, 0x4000)) ++
      [(bankAddr (h.rd OPS_SQ_CFG_bank w) (h.rd OPS_SQ_CFG_base w), 16 * 2 ^ h.rd OPS_SQ_CFG_log2 w),
       (bankAddr (h.rd OPS_CQ_CFG_bank w) (h.rd OPS_CQ_CFG_base w), 16 * 2 ^ h.rd OPS_CQ_CFG_log2 w)]
  | _ => [(0, 2 ^ 22)]

/-- A byte lies in one of the ranges that a command can store to. -/
def Sys2Proof.Machine.storedTo (c : Instr) (s : State) (a : Nat) : Bool :=
  (storeRanges c s).any (fun r => decide (r.1 ≤ a) && decide (a < r.1 + r.2))

/-- With no MARCH under way, a storing command that takes the logic die through no reset leaves every byte of B00 to
B47, DP0 and DP1 as it was but those of the words it stores to: the word of an alias write or of a committed DP word,
the words of a frame's or a batch's addresses, an operation's result words, the words of a ring entry and of a pool
slot, the slot of a record, word 7 of the records a clear erases, the word found uncorrectable, and the banks, rings and
DP images that are cleared or loaded. -/
def Obligations.StoresReachOnlyTheirWords : Prop :=
  ∀ (c : Instr) (s t : State) (a : Nat), noMarch s = true → storing c = true → storedTo c s a = false → exec c s = .next t →
    cellGet 0 t.hub.mem a = cellGet 0 s.hub.mem a

/-- An interrupt event: status and count (R419). -/
def Sys2Proof.Machine.intFlds : List Fld :=
  [INT_CNT_count, INT_STAT_stat]

/-- What the input chapter shows of a channel (R264). -/
def Sys2Proof.Machine.inStatFlds : List Fld :=
  [IN_EDGES_count, IN_FLT_discard, IN_FLT_overflow, IN_FLT_tp_fail, IN_FLT_tp_late, IN_FLT_wire_break,
   IN_FLT_xshort, IN_STAT_cand, IN_STAT_forced, IN_STAT_raw, IN_STAT_state, IN_STAT_tp_live, IN_STAT_uncertain,
   IN_STAT_valid, IN_STAT_wb_live, IN_STAT_window]

/-- The counts of dropped records (R610). -/
def Sys2Proof.Machine.noteFlds : List Fld :=
  [BST_RUNS_lost, REC_DROPS0_note, REC_DROPS0_trace, REC_DROPS1_fault, REC_DROPS1_warning, REC_DROPS2_safety,
   REC_STAT_exhausted]

/-- A tumbler's stop (R293). -/
def Sys2Proof.Machine.stopFlds : List Fld :=
  [TMB_CTRL_jump, TMB_CTRL_start, TMB_CTRL_stop, TMB_PATTERN_pins, TMB_STAT_state, TMB_STAT_stop_cause]

/-- An entry to *Safe* or a move to safe states. -/
def Sys2Proof.Machine.safeFlds : List Fld :=
  [OUT_STAT_pending, OUT_STAT_safe_hold, SCH_STAT_queued, WRD_EXP_OPEN_open]

/-- A handover that ends (R455). -/
def Sys2Proof.Machine.handFlds : List Fld :=
  [BNK_OWNER_scrub, BNK_OWNER_to, BNK_STAT_clearing, BNK_STAT_draining, BNK_STAT_pending, BNK_STAT_result]

/-- A self-test that ends (R579). -/
def Sys2Proof.Machine.testFlds : List Fld :=
  [BST_RUNS_fails, BST_RUNS_runs, BST_STAT_busy, BST_STAT_group, BST_STAT_result, BST_TIME_time]

/-- The delay and the margin fields of the lanes (R135, R150). -/
def Sys2Proof.Machine.laneDelays : List Fld := (List.range 4).map laneDelay
def Sys2Proof.Machine.laneMargins : List Fld := (List.range 4).flatMap (fun l => [(laneMargin l).1, (laneMargin l).2])

/-- The force bits (R546). -/
def Sys2Proof.Machine.forceFlds : List Fld := (List.range 62).map FLT_FORCE_force

/-- The blocks of 4 KiB that a fault's occurrence and its reactions can reach: WRD, INT and RST, OUT, TMB, SCH, DBT, FLT, REC, BST. -/
def Sys2Proof.Machine.faultBlocks : List Nat := [0x5, 0x7, 0x8, 0xC, 0x10, 0x11, 0x12, 0x14, 0x16]

/-- The register fields that a command's own effect can change, and blocks of which it can change any; none where it can change every
register: the resets, the application of the Blank, and the writes of a ward whose address is an operand. -/
def Sys2Proof.Machine.writes : Instr → Option (List Fld × List Nat)
  | .bnkOwnerWrite _ _ _ =>
    some ([BNK_OWNER_scrub, BNK_OWNER_to, BNK_REFUSED_wrong_key, BNK_STAT_draining, BNK_STAT_pending,
      BNK_STAT_result], [])
  | .drainComplete _ | .handoverScrubDone _ =>
    some (intFlds ++ handFlds ++ [BNK_CTRL_retain, BNK_OWNER_owner, BNK_STAT_handed, BNK_STAT_handovers,
      BNK_STAT_scrubbed], [])
  | .bnkHandedClear _ _ _ =>
    some ([BNK_STAT_handed], [])
  | .retainWrite _ _ _ =>
    some ([BNK_CTRL_retain], [])
  | .eccCorrected _ _ =>
    some ([BNK_DP_ECC_dp0_ce, BNK_DP_ECC_dp1_ce, BNK_ECC_ce], faultBlocks)
  | .bitSet _ _ _ _ | .bitClear _ _ _ _ | .bankCopy _ | .atomAdd _ | .atomSwap _ | .eccUncorrectable _ _ _ =>
    some ([BNK_DP_ECC_dp0_ue, BNK_DP_ECC_dp1_ue, BNK_ECC_ADDR_bank, BNK_ECC_ADDR_valid, BNK_ECC_ADDR_word,
      BNK_ECC_ue], faultBlocks)
  | .scrubRead _ _ _ =>
    some ([BNK_DP_ECC_dp0_ue, BNK_DP_ECC_dp1_ue, BNK_ECC_ADDR_bank, BNK_ECC_ADDR_valid, BNK_ECC_ADDR_word,
      BNK_ECC_ue, BNK_SCRUB_max_us, BNK_SCRUB_passes], faultBlocks)
  | .rcvErase _ _ | .rcvProgram _ _ | .rcvRead _ _ | .rcvReboot _ _ =>
    some ([BLK_CHECK_reason, BLK_RCV_STAT_busy, BLK_RCV_STAT_done, BLK_RCV_STAT_result, SCH_STAT_queued], [])
  | .rcvCommandDone _ =>
    some ([BLK_CHECK_reason, BLK_RCV_BUF_data, BLK_RCV_STAT_busy, BLK_RCV_STAT_done, BLK_RCV_STAT_result], [])
  | .blkCheck _ _ | .blkReboot _ _ =>
    some ([BLK_CTRL_check], [])
  | .blkFuse _ _ | .fuseDone _ | .adcComparison _ _ _ _ | .adcConfirm _ _ _ _ | .reproof | .proofNow _ _
  | .proofPause _ _ | .proofResume _ _ | .pauseExpiry | .safeLeave | .tokenRefill _ | .faultCauseEnd _ _
  | .nvmCutoff _ | .idleFrame _ | .outCmdRepeat | .boltRel | .boltRelExpire | .boltRelRepeat | .boltLatchClear
  | .boltToneChange | .boltRelSend | .intPulseEnd _ | .fieldSnapshot | .rebase | .calDelay _ | .luanenEvent _
  | .lsyRxRead _ | .nop _ | .timed _ | .limitBegin _ _ | .limitEnd _ | .litCheck _ | .darkPulse _
  | .recordWriteStart | .pendingRecord _ _ _ _ | .nonceExpiry | .keyProgramDone _ | .rstDev _ _ | .eraseDayBoundary
  | .vfLostPd | .fieldResetRelease | .vfValid | .vfUnderVoltage | .vfOverVoltage | .bankClearDone _
  | .dpWriteLow _ _ _ _ | .dpWriteHigh _ _ _ _ | .dpReadLow _ _ _ =>
    some ([], [])
  | .pllLock =>
    some ([CLK_STAT_pll_lock, CLK_STAT_src_now], [])
  | .pllLockTimeout | .refclkLost =>
    some ([CLK_REF_LOSS_count, CLK_STAT_holdover, CLK_STAT_pll_lock, CLK_STAT_ref_fit, LSY_STAT_aligned,
      LSY_STAT_up_ok], faultBlocks)
  | .refclkReturn =>
    some ([CLK_CTRL_return_ref, CLK_STAT_holdover, CLK_STAT_pll_lock, CLK_STAT_ref_fit, CLK_STAT_ret_pending,
      CLK_STAT_src_now], [])
  | .returnRef _ _ =>
    some ([CLK_CTRL_return_ref, CLK_STAT_holdover, CLK_STAT_pll_lock, CLK_STAT_ret_pending, CLK_STAT_src_now],
      [])
  | .mclkWindowEnd _ _ =>
    some ([CLK_MEAS_mclk_err, CLK_STAT_hosc_ok, CLK_STAT_src_now], faultBlocks)
  | .fclkWindowEnd _ =>
    some ([CLK_MEAS_fclk_err], [])
  | .timebaseWrap =>
    some ([CLK_TB_EPOCH_wrapped], [])
  | .clkTbLoRead _ =>
    some ([CLK_TB_HI_tb], [])
  | .timeS _ _ _ =>
    some ([CLK_FOLLOW_err, CLK_FOLLOW_link_delay, CLK_STAT_follow_lock], [])
  | .timeL _ _ =>
    some (inStatFlds ++ [CLK_STAT_follow_lock, IN_FIFO_discarded], [])
  | .followerTimeout =>
    some ([CLK_STAT_follow_lock], [])
  | .heartbeatSend _ =>
    some ([DBT_HB_da_cnt, DBT_STAT_hb_ok], [])
  | .hbReceive _ _ _ | .heartbeatLoss _ | .tempComparison _ _ _ | .proofDetect _ | .proofTimeout | .proofOverdue _ _
  | .startupTests _ _ _ | .faultOccurrence _ _ _ _ | .fltForce _ _ | .fltSelf _ _ | .fieldToneDecision _
  | .ringWrite | .gapRecord | .journalScan _ | .journalReadDone _ | .tokenCheck _ _ | .clear | .fieldResetTimeout
  | .groupTestDone _ _ _ | .logicLbistEnd | .testAbort _ _ | .testPinChange _ _ | .thermWarn _ _ | .deadlineMiss _ =>
    some ([], faultBlocks)
  | .soscBLoss | .boltDecision _ | .fholdExpiry _ =>
    some (outFltFlds ++ [IN_STAT_window], [])
  | .proofStart =>
    some (noteFlds ++ [DBT_PROOF_STAT_rotations], [])
  | .dbtSafeExit _ _ =>
    some ([DBT_SAFE_CAUSE_refused], [])
  | .descriptorAccept _ =>
    some ([BNK_DP_ECC_dp0_ue, BNK_DP_ECC_dp1_ue, BNK_ECC_ADDR_bank, BNK_ECC_ADDR_valid, BNK_ECC_ADDR_word,
      BNK_ECC_ue, OPS_CNT_WRAP_flag, OPS_CNT_WRAP_wraps, OPS_CNT_count, OPS_POOL_STAT_peak, OPS_SQ_IDX_head,
      OPS_STAT_ring_err], faultBlocks)
  | .dispatch =>
    some ([BNK_DP_ECC_dp0_ue, BNK_DP_ECC_dp1_ue, BNK_ECC_ADDR_bank, BNK_ECC_ADDR_valid, BNK_ECC_ADDR_word,
      BNK_ECC_ue, OPS_STAT_demoted], faultBlocks)
  | .completion _ =>
    some (intFlds ++ [OPS_CQ_IDX_tail, OPS_DONE_count], [])
  | .opsCancel _ _ =>
    some ([OPS_CANCEL_tag, OPS_STAT_cancel_res, SCH_STAT_queued], [])
  | .opsCqIdxWrite _ _ =>
    some ([OPS_CQ_IDX_head], [])
  | .opsQosRtWrite _ _ =>
    some ([OPS_QOS_RT_cap16_rt, OPS_QOS_RT_weight_rt], [])
  | .faultClear _ _ _ =>
    some ([FLT_CLR_REFUSED_denied, FLT_CLR_REFUSED_live, FLT_FIRST_valid], [])
  | .thermalHalt _ _ =>
    some (intFlds ++ noteFlds ++ stopFlds ++ safeFlds ++ testFlds ++ forceFlds, [])
  | .fieldGlobalShutdown _ _ | .outCmd _ _ _ | .limitEpisode _ | .offStateCheckEnd _ _ | .litCheckEnd _ _
  | .pulseEnd _ _ _ | .tpMiss _ | .pwmEdgeCheck _ _ | .pairMismatch _ | .vregFail _ | .vecRepeat _ _ =>
    some (outFltFlds, [])
  | .laneTraining _ _ =>
    some (intFlds ++ inStatFlds ++ laneDelays ++ outFltFlds ++ [HNG_CTRL_retrain, HNG_STAT_in_service,
      HNG_STAT_link_up, HNG_STAT_rejoin, HNG_STAT_stale, IN_MEAS_i, IN_MEAS_vpin, IN_STAT_stale,
      OUT_MEAS_I_fine, OUT_MEAS_I_fine_sat, OUT_MEAS_I_normal, OUT_MEAS_V_vpin, OUT_STAT_stale,
      TMB_CMP_STAT_stale], [])
  | .laneDown _ | .laneNotInService _ =>
    some ([HNG_EVENTS_lane_downs, HNG_EVENTS_link_losses, HNG_STAT_field_cfg_ok, HNG_STAT_in_service,
      HNG_STAT_link_up, HNG_STAT_rejoin, HNG_STAT_stale, IN_STAT_stale, IN_STAT_uncertain, IN_STAT_window,
      TMB_CMP_STAT_stale], faultBlocks)
  | .laneRetry | .retrain _ _ =>
    some ([HNG_CTRL_retrain], [])
  | .hingeLost _ =>
    some ([HNG_EVENTS_link_losses, HNG_STAT_field_cfg_ok, HNG_STAT_in_service, HNG_STAT_link_up,
      HNG_STAT_rejoin, HNG_STAT_stale, IN_STAT_stale, IN_STAT_uncertain, IN_STAT_window, TMB_CMP_STAT_stale],
      faultBlocks)
  | .rejoin | .rsp _ =>
    some (inStatFlds ++ [HNG_BOLT_code_errors, HNG_EVENTS_link_losses, HNG_STAT_field_cfg_ok,
      HNG_STAT_in_service, HNG_STAT_link_up, HNG_STAT_rejoin, HNG_STAT_stale, IN_FIFO_overflow, IN_STAT_stale,
      TMB_CMP_STAT_stale], faultBlocks)
  | .fieldStart =>
    some ([HNG_STAT_rejoin], [])
  | .outStat _ _ _ =>
    some (intFlds ++ [BST_STAT_group, HNG_BOLT_field_latched, OUT_STAT_at_safe, OUT_STAT_fhold_run,
      OUT_STAT_limiting, OUT_STAT_pending, OUT_STAT_prot, OUT_STAT_retry_wait, OUT_STAT_safe_hold,
      OUT_STAT_soft_cut, OUT_STAT_sw_on, OUT_STAT_tsd_latched, OUT_STAT_uv_off, SCH_STAT_queued], [])
  | .fsum _ =>
    some (inStatFlds ++ [HNG_EVENTS_link_losses, HNG_STAT_field_cfg_ok, HNG_STAT_in_service, HNG_STAT_link_up,
      HNG_STAT_rejoin, HNG_STAT_stale, IN_STAT_stale, TMB_CMP_STAT_stale], faultBlocks)
  | .fault _ _ _ _ =>
    some ([HNG_BOLT_code_errors, HNG_EVENTS_link_losses, HNG_STAT_field_cfg_ok, HNG_STAT_in_service,
      HNG_STAT_link_up, HNG_STAT_rejoin, HNG_STAT_stale, IN_STAT_stale, IN_STAT_uncertain, TMB_CMP_STAT_stale],
      faultBlocks)
  | .req _ | .inputCrossing _ _ | .debounceAccept _ | .wireBreak _ | .tpWindowEnd _ | .tpLate _
  | .foreignWindowEnd _ | .vec _ _ _ =>
    some (inStatFlds ++ [IN_FIFO_overflow], faultBlocks)
  | .reqRetry _ =>
    some ([HNG_TXN_failures, HNG_TXN_retries], faultBlocks)
  | .boltCode _ =>
    some ([HNG_BOLT_code_errors, IN_STAT_window], faultBlocks)
  | .marginMeasure _ _ =>
    some (laneMargins, faultBlocks)
  | .hingeFrameReceive _ _ _ _ _ _ =>
    some (inStatFlds ++ laneMargins ++ [CLK_FOLLOW_err, CLK_FOLLOW_link_delay, CLK_STAT_follow_lock,
      HNG_BOLT_code_errors, HNG_BOLT_field_latched, HNG_ERR_count, HNG_EVENTS_lane_downs,
      HNG_EVENTS_link_losses, HNG_STAT_field_cfg_ok, HNG_STAT_in_service, HNG_STAT_link_up, HNG_STAT_rejoin,
      HNG_STAT_stale, IN_FIFO_discarded, IN_FIFO_overflow, IN_MEAS_i, IN_MEAS_vpin, IN_STAT_stale,
      TMB_CMP_STAT_stale], faultBlocks)
  | .inTsLoRead _ _ =>
    some ([IN_TS_HI_dir, IN_TS_HI_forced, IN_TS_HI_gap, IN_TS_HI_stamp, IN_TS_HI_uncertain, IN_TS_HI_valid], [])
  | .inputMeasure _ _ _ =>
    some (inStatFlds ++ [IN_MEAS_i, IN_MEAS_vpin], [])
  | .inFltClear _ _ _ =>
    some ([FLT_CLR_REFUSED_live, IN_FLT_discard, IN_FLT_overflow, IN_FLT_tp_fail, IN_FLT_tp_late,
      IN_FLT_wire_break, IN_FLT_xshort], [])
  | .intEvent _ _ | .intSet _ _ =>
    some (intFlds, [])
  | .moderationExpiry _ =>
    some ([INT_CNT_count], [])
  | .intStatClear _ _ =>
    some ([INT_STAT_stat], [])
  | .intEnWrite _ _ =>
    some ([INT_CNT_count, INT_EN_en], [])
  | .intModWrite _ _ =>
    some ([INT_MOD_mod_rt], [])
  | .mirrorStart =>
    some ([LIFE_STAT_busy, SCH_STAT_queued], [])
  | .mirror _ _ =>
    some ([LIFE_CTRL_mirror, LIFE_STAT_busy, SCH_STAT_queued], [])
  | .mirrorDone _ _ =>
    some ([BLK_CHECK_reason, LIFE_CTRL_mirror, LIFE_STAT_busy, LIFE_STAT_fails, LIFE_STAT_mirrors], faultBlocks)
  | .powerOnSecond _ =>
    some ([LIFE_STAT_busy], faultBlocks)
  | .ledgerRestore =>
    some ([LIFE_STAT_ch_src, LIFE_STAT_dev_src], faultBlocks)
  | .lifeWindowRead _ =>
    some ([LIFE_CH_CYC_HI_cycles, LIFE_CH_CYC_LO_cycles, LIFE_CH_EDG_HI_edges, LIFE_CH_EDG_LO_edges,
      LIFE_CH_EPS_count, LIFE_CH_LIMJ_energy, LIFE_CH_ON_s, LIFE_CH_STRESS_units, LIFE_CH_TCYC_count,
      LIFE_CH_TSD_count], [])
  | .calEcho _ _ =>
    some ([LSY_COUNTS_drops, LSY_CTRL_recal, LSY_HOP_hop, LSY_STAT_calibrating], faultBlocks)
  | .syncPulseSend =>
    some ([LSY_COUNTS_drops, LSY_CTRL_recal, LSY_HOP_hop, LSY_STAT_calibrating, LSY_STAT_up_ok], faultBlocks)
  | .calStart _ =>
    some ([LSY_COUNTS_drops, LSY_STAT_calibrating], [])
  | .syncPulseReceive _ =>
    some ([CLK_STAT_follow_lock, CLK_TB_EPOCH_wrapped, CLK_TB_STEPS_count, CLK_TB_STEP_HI_step,
      CLK_TB_STEP_LO_step, LSY_ALIGN_ERR_err, LSY_ALIGN_ERR_trim, LSY_COUNTS_drops, LSY_CTRL_recal,
      LSY_DELAY_d_chain, LSY_HOP_cals, LSY_HOP_hop, LSY_PAIR_STAT_close_sched, LSY_PAIR_STAT_detail,
      LSY_PAIR_STAT_disagreements, LSY_STAT_aligned, LSY_STAT_cal_valid, LSY_STAT_calibrating, LSY_STAT_up_ok],
      faultBlocks)
  | .timeLo _ | .timeHi _ | .mark _ =>
    some ([LSY_COUNTS_drops], [])
  | .enumMsg _ =>
    some ([LSY_COUNTS_drops, LSY_STAT_pos, LSY_STAT_pos_valid], faultBlocks)
  | .hb _ _ =>
    some ([LSY_COUNTS_drops, LSY_PAIR_STAT_close_sched, LSY_PAIR_STAT_closed, LSY_PAIR_STAT_detail,
      LSY_PAIR_STAT_disagreements, LSY_PAIR_STAT_partner_cnt, LSY_PAIR_STAT_partner_ok, LSY_PAIR_T_t,
      LSY_STAT_dn_ok], faultBlocks)
  | .pairHbTimeout =>
    some ([LSY_PAIR_STAT_close_sched, LSY_PAIR_STAT_detail, LSY_PAIR_STAT_disagreements,
      LSY_PAIR_STAT_partner_ok], faultBlocks)
  | .pairClose _ =>
    some ([LSY_PAIR_STAT_close_sched, LSY_PAIR_T_t, SCH_STAT_queued], [])
  | .pairTurnOn =>
    some ([LSY_PAIR_STAT_close_sched, LSY_PAIR_STAT_detail, LSY_PAIR_STAT_disagreements], faultBlocks)
  | .present _ =>
    some ([LSY_COUNTS_drops, LSY_CTRL_recal, LSY_STAT_calibrating, LSY_STAT_dn_ok], [])
  | .breakMsg _ =>
    some ([LSY_STAT_break_pos], [])
  | .recalReq _ | .recal _ _ | .recalInterval =>
    some ([LSY_COUNTS_drops, LSY_CTRL_recal, LSY_STAT_calibrating], [])
  | .user _ _ =>
    some (intFlds ++ [LSY_COUNTS_drops, LSY_RX_STAT_overflow], [])
  | .upstreamLost =>
    some ([LSY_STAT_aligned, LSY_STAT_calibrating, LSY_STAT_pos_valid, LSY_STAT_up_ok], faultBlocks)
  | .downstreamLost =>
    some ([LSY_STAT_dn_ok], faultBlocks)
  | .chainResumed =>
    some ([LSY_STAT_up_ok], [])
  | .lsyFrameReceive _ _ _ =>
    some ([LSY_COUNTS_crc_errors, LSY_COUNTS_drops, LSY_CTRL_recal, LSY_PAIR_STAT_close_sched,
      LSY_PAIR_STAT_closed, LSY_PAIR_STAT_detail, LSY_PAIR_STAT_disagreements, LSY_PAIR_STAT_partner_cnt,
      LSY_PAIR_STAT_partner_ok, LSY_PAIR_T_t, LSY_RX_STAT_overflow, LSY_STAT_break_pos, LSY_STAT_calibrating,
      LSY_STAT_dn_ok, LSY_STAT_pos, LSY_STAT_pos_valid], faultBlocks)
  | .regr _ =>
    some ([BNK_DP_ECC_dp0_ue, BNK_DP_ECC_dp1_ue, BNK_ECC_ADDR_bank, BNK_ECC_ADDR_valid, BNK_ECC_ADDR_word,
      BNK_ECC_ue, CLK_TB_HI_tb, IN_FIFO_discarded, IN_FIFO_overflow, IN_TS_HI_dir, IN_TS_HI_forced,
      IN_TS_HI_gap, IN_TS_HI_stamp, IN_TS_HI_uncertain, IN_TS_HI_valid, LIFE_CH_CYC_HI_cycles,
      LIFE_CH_CYC_LO_cycles, LIFE_CH_EDG_HI_edges, LIFE_CH_EDG_LO_edges, LIFE_CH_EPS_count, LIFE_CH_LIMJ_energy,
      LIFE_CH_ON_s, LIFE_CH_STRESS_units, LIFE_CH_TCYC_count, LIFE_CH_TSD_count, LSY_RX_STAT_overflow],
      faultBlocks)
  | .bankFill _ | .meas _ _ | .offStateCheck _ | .pageSubmit | .domainWakeRequest _ =>
    some ([SCH_STAT_queued], [])
  | .tmbOpStart _ | .bstLogic _ _ | .bstField _ _ | .bstLogicThenField _ _ =>
    some ([BLK_CHECK_reason, IN_FIFO_overflow, IN_FLT_overflow], faultBlocks)
  | .tmbOpStop _ =>
    some (intFlds ++ stopFlds ++ [SCH_STAT_queued], [])
  | .tmbOpJump _ =>
    some ([SCH_STAT_queued, TMB_CTRL_jump, TMB_STAT_state], [])
  | .diag _ _ _ _ =>
    some (outFltFlds ++ [OUT_MEAS_I_fine, OUT_MEAS_I_fine_sat, OUT_MEAS_I_normal, OUT_MEAS_V_vpin,
      SCH_STAT_queued], [])
  | .nvmRead _ =>
    some ([BLK_CHECK_reason, SCH_STAT_queued], [])
  | .nvmProgram _ =>
    some ([BLK_CHECK_reason, BNK_DP_ECC_dp0_ue, BNK_DP_ECC_dp1_ue, BNK_ECC_ADDR_bank, BNK_ECC_ADDR_valid,
      BNK_ECC_ADDR_word, BNK_ECC_ue], faultBlocks)
  | .nvmErase _ =>
    some ([BLK_CHECK_reason], [])
  | .nvmOperationDone _ _ | .pageProgramDone _ _ | .journalEraseDone _ _ =>
    some ([BLK_CHECK_reason], faultBlocks)
  | .lsy _ =>
    some (intFlds ++ [LSY_COUNTS_drops, LSY_RX_STAT_overflow, SCH_STAT_queued], [])
  | .outCtrlWrite _ _ _ | .rearm _ _ _ =>
    some ([LSY_COUNTS_drops, LSY_PAIR_STAT_close_sched, LSY_PAIR_T_t, OUT_CTRL_on, OUT_STAT_pending,
      OUT_STAT_safe_hold, OUT_STAT_shed, SCH_SHED_ch, SCH_STAT_queued], [])
  | .thermalShutdown _ =>
    some (outFltFlds ++ [OUT_STAT_shed, SCH_SHED_ch, SCH_STAT_queued], [])
  | .retryExpiry _ | .restartThreshold _ | .uvOff _ | .uvRestart _ =>
    some (outFltFlds ++ [SCH_STAT_queued], [])
  | .readback _ _ _ _ =>
    some (outFltFlds ++ [OUT_MEAS_I_fine, OUT_MEAS_I_fine_sat, OUT_MEAS_I_normal, OUT_MEAS_V_vpin], [])
  | .outRtWrite _ _ _ =>
    some ([OUT_RT_ilim_rt, OUT_RT_ol_period_rt], [])
  | .outFltClear _ _ _ =>
    some (outFltFlds ++ [FLT_CLR_REFUSED_live], [])
  | .doorbell _ _ _ _ _ =>
    some ([OPS_SQ_IDX_tail, OPS_STAT_ring_err], faultBlocks)
  | .readFrame _ _ _ _ =>
    some ([BNK_DP_ECC_dp0_ue, BNK_DP_ECC_dp1_ue, BNK_ECC_ADDR_bank, BNK_ECC_ADDR_valid, BNK_ECC_ADDR_word,
      BNK_ECC_ue, CLK_TB_HI_tb, IN_FIFO_discarded, IN_FIFO_overflow, IN_TS_HI_dir, IN_TS_HI_forced,
      IN_TS_HI_gap, IN_TS_HI_stamp, IN_TS_HI_uncertain, IN_TS_HI_valid, LIFE_CH_CYC_HI_cycles,
      LIFE_CH_CYC_LO_cycles, LIFE_CH_EDG_HI_edges, LIFE_CH_EDG_LO_edges, LIFE_CH_EPS_count, LIFE_CH_LIMJ_energy,
      LIFE_CH_ON_s, LIFE_CH_STRESS_units, LIFE_CH_TCYC_count, LIFE_CH_TSD_count, LSY_RX_STAT_overflow,
      OPS_STAT_ring_err], faultBlocks)
  | .recordIntake _ _ _ _ _ =>
    some (noteFlds, [])
  | .sectorReclaim =>
    some ([REC_JSTAT_missed, REC_STAT_jsealed, SCH_STAT_queued], [])
  | .recRdSqbHiRead _ =>
    some ([REC_RD_SLOT_slot], [])
  | .newestSeqRead _ =>
    some ([REC_NEWEST_SEQ_HI_seq], [])
  | .journalPageRead _ _ =>
    some ([REC_JRD_CTRL_go, REC_JRD_CTRL_page, REC_JRD_STAT_busy, REC_JRD_STAT_result], [])
  | .nonceRead _ =>
    some ([REC_CLEAR_NONCE_HI_nonce, REC_CLEAR_NONCE_LO_nonce, REC_CLEAR_SEQ_HI_s, REC_CLEAR_SEQ_LO_s], [])
  | .keyProgram _ _ =>
    some ([REC_KEY_DATA_bytes], [])
  | .recRtWrite _ _ =>
    some ([REC_RT_flush_ms_rt, REC_RT_jsev_rt], [])
  | .schRtWrite _ _ =>
    some ([SCH_RT_stagger_rt, SCH_RT_tj_soft_rt], [])
  | .wrdExpOpen _ _ =>
    some (noteFlds ++ forceFlds ++ [WRD_EXP_OPEN_open], [])
  | .rstnRelease | .vddValid _ =>
    some ([PWR_RET_STAT_source], faultBlocks)
  | .rstWard _ _ =>
    some (intFlds ++ stopFlds ++ handFlds ++ forceFlds ++ [OUT_CTRL_on, OUT_STAT_pending, RST_WARD_STAT_busy,
      RST_WARD_STAT_reason, SCH_STAT_queued, TMB_MARCH_CNT_count, TMB_MARCH_FIRST_addr, TMB_MARCH_FIRST_valid,
      TMB_MARCH_SIG_sig, WRD_EXP_OPEN_open], [])
  | .wardResetDone _ =>
    some (inStatFlds ++ [BNK_STAT_clearing, IN_FIFO_discarded, IN_FIFO_overflow, TMB_CMP_THR_hyst,
      TMB_CMP_THR_thr], faultBlocks)
  | .rstField _ _ =>
    some (intFlds ++ [OUT_STAT_pending, OUT_STAT_safe_hold, RST_FIELD_STAT_busy, RST_FIELD_STAT_count,
      RST_FIELD_STAT_timeout, SCH_STAT_queued], [])
  | .fieldResetRequest | .fieldPowerOnReset =>
    some ([CLK_STAT_follow_lock, OUT_RT_ilim_rt, OUT_RT_ol_period_rt], [])
  | .schedulerDecision =>
    some (handFlds ++ [BLK_CHECK_reason, IN_FIFO_overflow, IN_FLT_overflow], faultBlocks)
  | .bstXctrlWrite _ _ =>
    some ([BST_XCTRL_fg_mask, BST_XCTRL_lg_mask], [])
  | .fieldLbistEnd _ _ _ =>
    some (inStatFlds, faultBlocks)
  | .bootLbist _ _ _ =>
    some (noteFlds ++ [BST_RUNS_fails, BST_RUNS_runs, BST_SIG_FG_sig, BST_SIG_LG_sig, BST_STAT_boot,
      BST_STAT_fail_groups, BST_STAT_kind, BST_STAT_result, BST_TIME_time], [])
  | .bootMemTest _ =>
    some ([BST_MEM_bank, BST_MEM_banks, BST_MEM_fail, BST_MEM_word], [])
  | .vholdCharged _ | .vminSample _ =>
    some ([BLK_CHECK_reason, PWR_HOLD_STAT_vhold], [])
  | .vholdCapMeasure _ =>
    some ([PWR_HOLD_STAT_cap_meas], faultBlocks)
  | .vholdLow _ =>
    some ([BLK_CHECK_reason, PWR_HOLD_STAT_vhold], faultBlocks)
  | .vddWarningBegin _ =>
    some (intFlds ++ noteFlds ++ testFlds, [])
  | .recheckEnd _ =>
    some (inStatFlds ++ [HNG_EVENTS_link_losses, HNG_STAT_field_cfg_ok, HNG_STAT_in_service, HNG_STAT_link_up,
      HNG_STAT_rejoin, HNG_STAT_stale, IN_FIFO_overflow, IN_STAT_stale, TMB_CMP_STAT_stale], faultBlocks)
  | .vddWarningEnd _ =>
    some (intFlds ++ noteFlds ++ [BLK_CHECK_reason], [])
  | .orderlyPowerDown _ =>
    some (intFlds ++ handFlds ++ testFlds ++ [OUT_STAT_pending, OUT_STAT_safe_hold, REC_JSTAT_page,
      SCH_STAT_queued], [])
  | .thermalModelUpdate _ _ _ _ _ =>
    some ([BLK_CHECK_reason, PWR_HOLD_STAT_vhold, PWR_VF_vf], faultBlocks)
  | .issuePoint _ | .stop _ | .vecInstruction _ | .loop _ | .endl _ | .jmp _ | .brc _ | .wait _ | .waitTimeout _
  | .call _ | .ret _ | .tset _ | .march _ | .sig _ | .heavyVectorStall _ =>
    some ([BNK_DP_ECC_dp0_ue, BNK_DP_ECC_dp1_ue, BNK_ECC_ADDR_bank, BNK_ECC_ADDR_valid, BNK_ECC_ADDR_word,
      BNK_ECC_ue, LSY_STAT_ev_late], faultBlocks)
  | .cycleStart _ =>
    some (noteFlds ++ [LSY_COUNTS_drops, TMB_CYCLES_count, TMB_MKSEEN_seen, TMB_PATTERN_mk, TMB_PATTERN_pins,
      TMB_STAT_ts_now], [])
  | .tmbStart _ _ _ | .tmbStop _ _ _ | .tmbJump _ _ _ =>
    some (intFlds ++ stopFlds ++ [SCH_STAT_queued, TMB_CTRL_addr, TMB_CTRL_release], [])
  | .compareSlotEval _ _ =>
    some ([TMB_CMP_STAT_state, TMB_CMP_STAT_value], [])
  | .tmbCmpThrWrite _ _ _ =>
    some ([TMB_CMP_THR_hyst, TMB_CMP_THR_thr], [])
  | .wdoPulseEnd =>
    some ([WDG_WDO_STAT_active], [])
  | .wardWatchdogExpiry _ | .dwdExpiry =>
    some (handFlds ++ [WDG_STAT_last_cause, WDG_WDO_STAT_active, WDG_WDO_STAT_merged, WDG_WDO_STAT_pulses],
      faultBlocks)
  | .wdgKick _ _ _ =>
    some (handFlds ++ [WDG_CNT_bad_key, WDG_CNT_violations, WDG_STAT_last_cause, WDG_WDO_STAT_active,
      WDG_WDO_STAT_merged, WDG_WDO_STAT_pulses], faultBlocks)
  | .boot _ _ _ _ | .arming | .enterRun | .blkCheckDone _ | .shadowCheck _ _ _ _ | .clockHaltExit
  | .thermalHaltExit _ _ | .fieldConfigCrc _ | .regw _ | .timedRelease _ | .writeFrame _ _ _ _ _ | .rstnLow _
  | .deviceSoftReset | .powerOnReset _ _ | .powerDownStep _ | .vddFailed _ | .holdUpEndVoltage | .retentionFloor
  | .domainWakeDone _ _ => none

/-- A key of the register file belongs to a copy of a field. -/
def Sys2Proof.Machine.keyOf (f : Fld) (k : Nat) : Bool :=
  k / 8 % 32 == f.lsb && (if f.stride == 0 then keyAddr k == f.base else decide (f.base ≤ keyAddr k) && (keyAddr k - f.base) % f.stride == 0)

/-- A command's own effect can change the field of a key. -/
def Sys2Proof.Machine.mayWrite (c : Instr) (k : Nat) : Bool :=
  match writes c with
  | none => true
  | some x => x.1.any (fun f => keyOf f k) || x.2.contains (keyAddr k / 0x1000)

/-- Every command leaves every register field as it was but those listed for it; where its effect includes a fault's
occurrence, those of the blocks that a fault's reactions reach. A reset, the application of the Blank, and a ward's
write to an address that is an operand are listed as able to change every register. What follows by itself (the INT_
block, FLT_ERR and, where Deadbolt DB drives a channel, OUT_FLT) comes after it. -/
def Obligations.OtherRegistersStand : Prop :=
  ∀ (c : Instr) (s : State), Completes c s (fun h => ∀ (f : Fld) (i w : Nat), mayWrite c (fldKey f i w) = false → h.rd f i w = s.hub.rd f i w)

/-- The commands that take the logic die through a reset, or out of its supply. -/
def Sys2Proof.Machine.restarts : Instr → Bool
  | .powerOnReset _ _ | .vddFailed _ | .powerDownStep _ | .holdUpEndVoltage | .rstnLow _ | .deviceSoftReset
  | .clockHaltExit | .thermalHaltExit _ _ => true
  | _ => false

/-- Parts of the hub that few commands reach. -/
inductive Sys2Proof.Machine.QuietPart where
  /-- the fuses, keys and identity -/
  | chip
  /-- the copy of the registers made at the end of *Arming* -/
  | armed
  /-- the retention copies -/
  | kept
  /-- the supplies and domains -/
  | sup
  /-- the clocks and the timebase -/
  | clk
  /-- the input channels -/
  | ins
  /-- the AUX pins -/
  | aux
  /-- the host ports -/
  | ports
  /-- the handovers -/
  | banks
  /-- staged DP halves -/
  | dpLow
  /-- latched DP halves -/
  | dpHigh
  /-- Luanen sync -/
  | lsy
  /-- the WDO pin -/
  | wdo
  /-- the life ledger -/
  | life
  /-- the Blank -/
  | blk
  /-- the NVM devices -/
  | nvm
  /-- the NVM operation under way -/
  | nvmOp
  /-- the NVM queue -/
  | nvmQ
  /-- a field die reset under way -/
  | fieldReset
  deriving DecidableEq, Repr

/-- A part of the hub is the same in two hubs. -/
def Sys2Proof.Machine.QuietPart.same (p : QuietPart) (h k : Hub) : Prop :=
  match p with
  | .chip => k.chip = h.chip
  | .armed => k.armed = h.armed
  | .kept => k.kept = h.kept
  | .sup => k.sup = h.sup
  | .clk => k.clk = h.clk
  | .ins => k.ins = h.ins
  | .aux => k.aux = h.aux
  | .ports => k.ports = h.ports
  | .banks => k.banks = h.banks
  | .dpLow => k.dpLow = h.dpLow
  | .dpHigh => k.dpHigh = h.dpHigh
  | .lsy => k.lsy = h.lsy
  | .wdo => k.wdo = h.wdo
  | .life => k.life = h.life
  | .blk => k.blk = h.blk
  | .nvm => k.nvm = h.nvm
  | .nvmOp => k.nvmOp = h.nvmOp
  | .nvmQ => k.nvmQ = h.nvmQ
  | .fieldReset => k.fieldReset = h.fieldReset

/-- The commands that can change a part, beside the resets. -/
def Sys2Proof.Machine.QuietPart.movedBy (p : QuietPart) (c : Instr) : Bool :=
  match p with
  | .chip =>
    match c with
    | .blkFuse _ _ | .fuseDone _ | .regw _ | .timedRelease _ | .writeFrame _ _ _ _ _ | .keyProgramDone _ => true
    | _ => false
  | .armed =>
    match c with
    | .enterRun | .shadowCheck _ _ _ _ => true
    | _ => false
  | .kept =>
    match c with
    | .enterRun | .req _ | .hingeFrameReceive _ _ _ _ _ _ | .fieldResetRequest | .schedulerDecision
    | .fieldPowerOnReset => true
    | _ => false
  | .sup =>
    match c with
    | .boot _ _ _ _ | .arming | .enterRun | .soscBLoss | .faultCauseEnd _ _ | .laneDown _ | .laneNotInService _
    | .hingeLost _ | .rejoin | .fsum _ | .fault _ _ _ _ | .req _ | .rsp _ | .boltDecision _ | .boltCode _
    | .fholdExpiry _ | .hingeFrameReceive _ _ _ _ _ _ | .regw _ | .regr _ | .bankCopy _ | .bankFill _ | .atomAdd _
    | .atomSwap _ | .tmbOpStart _ | .tmbOpStop _ | .tmbOpJump _ | .meas _ _ | .diag _ _ _ _ | .nvmRead _
    | .nvmProgram _ | .timedRelease _ | .lsy _ | .writeFrame _ _ _ _ _ | .doorbell _ _ _ _ _ | .readFrame _ _ _ _
    | .rstnRelease | .fieldResetRequest | .schedulerDecision | .logicLbistEnd | .bstLogic _ _ | .bstField _ _
    | .bstLogicThenField _ _ | .vddValid _ | .vholdCharged _ | .vholdLow _ | .vddWarningBegin _ | .recheckEnd _
    | .vminSample _ | .vddWarningEnd _ | .orderlyPowerDown _ | .vfLostPd | .fieldPowerOnReset | .fieldResetRelease
    | .vfValid | .vfUnderVoltage | .vfOverVoltage | .vregFail _ | .domainWakeRequest _ | .domainWakeDone _ _
    | .bankClearDone _ | .thermalModelUpdate _ _ _ _ _ | .tmbStart _ _ _ | .tmbStop _ _ _ | .tmbJump _ _ _ => true
    | _ => false
  | .clk =>
    match c with
    | .pllLockTimeout | .refclkLost | .mclkWindowEnd _ _ | .timeS _ _ _ | .timeL _ _ | .followerTimeout
    | .laneTraining _ _ | .laneDown _ | .laneNotInService _ | .hingeLost _ | .hingeFrameReceive _ _ _ _ _ _
    | .syncPulseReceive _ | .fieldResetRequest | .recheckEnd _ | .fieldPowerOnReset => true
    | _ => false
  | .ins =>
    match c with
    | .enterRun | .timeL _ _ | .soscBLoss | .laneDown _ | .laneNotInService _ | .hingeLost _ | .rejoin
    | .outStat _ _ _ | .req _ | .rsp _ | .boltDecision _ | .boltCode _ | .fholdExpiry _
    | .hingeFrameReceive _ _ _ _ _ _ | .inputCrossing _ _ | .debounceAccept _ | .inTsLoRead _ _
    | .inputMeasure _ _ _ | .wireBreak _ | .tpWindowEnd _ | .tpLate _ | .foreignWindowEnd _ | .regw _ | .regr _
    | .tmbOpStart _ | .timedRelease _ | .writeFrame _ _ _ _ _ | .readFrame _ _ _ _ | .rstWard _ _ | .wardResetDone _
    | .fieldResetRequest | .schedulerDecision | .logicLbistEnd | .fieldLbistEnd _ _ _ | .bstLogic _ _
    | .bstField _ _ | .bstLogicThenField _ _ | .recheckEnd _ | .fieldPowerOnReset | .vec _ _ _
    | .wardWatchdogExpiry _ | .dwdExpiry | .wdgKick _ _ _ => true
    | _ => false
  | .aux =>
    match c with
    | .syncPulseReceive _ | .cycleStart _ => true
    | _ => false
  | .ports =>
    match c with
    | .enterRun | .laneDown _ | .laneNotInService _ | .hingeLost _ | .rejoin | .fsum _ | .fault _ _ _ _ | .rsp _
    | .reqRetry _ | .hingeFrameReceive _ _ _ _ _ _ | .writeFrame _ _ _ _ _ | .doorbell _ _ _ _ _
    | .readFrame _ _ _ _ | .recheckEnd _ | .orderlyPowerDown _ => true
    | _ => false
  | .banks =>
    match c with
    | .bnkOwnerWrite _ _ _ | .drainComplete _ | .handoverScrubDone _ | .regw _ | .timedRelease _
    | .writeFrame _ _ _ _ _ | .rstWard _ _ | .schedulerDecision | .orderlyPowerDown _ | .wardWatchdogExpiry _
    | .dwdExpiry | .wdgKick _ _ _ => true
    | _ => false
  | .dpLow =>
    match c with
    | .regw _ | .timedRelease _ | .writeFrame _ _ _ _ _ | .wardResetDone _ | .dpWriteLow _ _ _ _
    | .dpWriteHigh _ _ _ _ => true
    | _ => false
  | .dpHigh =>
    match c with
    | .regr _ | .readFrame _ _ _ _ | .wardResetDone _ | .dpReadLow _ _ _ => true
    | _ => false
  | .lsy =>
    match c with
    | .enterRun | .pllLockTimeout | .refclkLost | .calEcho _ _ | .syncPulseSend | .calStart _ | .calDelay _
    | .syncPulseReceive _ | .timeLo _ | .timeHi _ | .enumMsg _ | .mark _ | .luanenEvent _ | .hb _ _ | .pairHbTimeout
    | .pairClose _ | .pairTurnOn | .present _ | .breakMsg _ | .recalReq _ | .user _ _ | .upstreamLost
    | .downstreamLost | .chainResumed | .recal _ _ | .recalInterval | .lsyRxRead _ | .lsyFrameReceive _ _ _
    | .regw _ | .regr _ | .tmbOpStart _ | .timedRelease _ | .lsy _ | .outCtrlWrite _ _ _ | .rearm _ _ _
    | .writeFrame _ _ _ _ _ | .readFrame _ _ _ _ | .schedulerDecision | .bstLogic _ _ | .bstField _ _
    | .bstLogicThenField _ _ | .cycleStart _ => true
    | _ => false
  | .wdo =>
    match c with
    | .enterRun | .regw _ | .timedRelease _ | .writeFrame _ _ _ _ _ | .retentionFloor | .wdoPulseEnd
    | .wardWatchdogExpiry _ | .dwdExpiry | .wdgKick _ _ _ => true
    | _ => false
  | .life =>
    match c with
    | .boot _ _ _ _ | .arming | .enterRun | .blkCheckDone _ | .soscBLoss | .thermalHalt _ _
    | .fieldGlobalShutdown _ _ | .laneDown _ | .laneNotInService _ | .hingeLost _ | .rejoin | .outCmd _ _ _
    | .fault _ _ _ _ | .req _ | .rsp _ | .boltDecision _ | .boltCode _ | .fholdExpiry _ | .marginMeasure _ _
    | .hingeFrameReceive _ _ _ _ _ _ | .debounceAccept _ | .tpWindowEnd _ | .foreignWindowEnd _ | .mirrorStart
    | .mirror _ _ | .mirrorDone _ _ | .fieldSnapshot | .powerOnSecond _ | .ledgerRestore | .regw _ | .regr _
    | .tmbOpStart _ | .diag _ _ _ _ | .timedRelease _ | .limitEpisode _ | .thermalShutdown _ | .retryExpiry _
    | .restartThreshold _ | .uvOff _ | .uvRestart _ | .litCheckEnd _ _ | .pulseEnd _ _ _ | .writeFrame _ _ _ _ _
    | .readFrame _ _ _ _ | .rstnRelease | .fieldResetRequest | .schedulerDecision | .bstLogic _ _ | .bstField _ _
    | .bstLogicThenField _ _ | .vddValid _ | .recheckEnd _ | .fieldPowerOnReset | .vregFail _ | .domainWakeDone _ _
    | .thermalModelUpdate _ _ _ _ _ | .vec _ _ _ | .vecRepeat _ _ => true
    | _ => false
  | .blk =>
    match c with
    | .boot _ _ _ _ | .arming | .enterRun | .rcvErase _ _ | .rcvProgram _ _ | .rcvRead _ _ | .rcvReboot _ _
    | .rcvCommandDone _ | .blkCheck _ _ | .blkCheckDone _ | .blkReboot _ _ | .blkFuse _ _ | .fuseDone _
    | .mirrorDone _ _ | .regw _ | .tmbOpStart _ | .nvmRead _ | .nvmProgram _ | .nvmErase _ | .nvmOperationDone _ _
    | .timedRelease _ | .writeFrame _ _ _ _ _ | .pageProgramDone _ _ | .journalEraseDone _ _ | .schedulerDecision
    | .bstLogic _ _ | .bstField _ _ | .bstLogicThenField _ _ | .vholdCharged _ | .vholdLow _ | .vminSample _
    | .vddWarningEnd _ | .thermalModelUpdate _ _ _ _ _ => true
    | _ => false
  | .nvm =>
    match c with
    | .boot _ _ _ _ | .arming | .rcvCommandDone _ | .nvmCutoff _ | .mirrorDone _ _ | .nvmOperationDone _ _
    | .pageProgramDone _ _ | .journalEraseDone _ _ | .orderlyPowerDown _ => true
    | _ => false
  | .nvmOp =>
    match c with
    | .rcvErase _ _ | .rcvProgram _ _ | .rcvRead _ _ | .rcvReboot _ _ | .rcvCommandDone _ | .nvmCutoff _
    | .mirrorDone _ _ | .regw _ | .tmbOpStart _ | .nvmRead _ | .nvmProgram _ | .nvmErase _ | .nvmOperationDone _ _
    | .timedRelease _ | .writeFrame _ _ _ _ _ | .pageProgramDone _ _ | .journalEraseDone _ _ | .schedulerDecision
    | .bstLogic _ _ | .bstField _ _ | .bstLogicThenField _ _ | .vholdCharged _ | .vholdLow _ | .vminSample _
    | .vddWarningEnd _ | .orderlyPowerDown _ | .thermalModelUpdate _ _ _ _ _ => true
    | _ => false
  | .nvmQ =>
    match c with
    | .rcvErase _ _ | .rcvProgram _ _ | .rcvRead _ _ | .rcvReboot _ _ | .rcvCommandDone _ | .mirrorDone _ _
    | .regw _ | .tmbOpStart _ | .nvmRead _ | .nvmProgram _ | .nvmErase _ | .nvmOperationDone _ _ | .timedRelease _
    | .writeFrame _ _ _ _ _ | .pageProgramDone _ _ | .journalEraseDone _ _ | .clear | .schedulerDecision
    | .bstLogic _ _ | .bstField _ _ | .bstLogicThenField _ _ | .vholdCharged _ | .vholdLow _ | .vminSample _
    | .vddWarningEnd _ | .thermalModelUpdate _ _ _ _ _ => true
    | _ => false
  | .fieldReset =>
    match c with
    | .enterRun | .rejoin | .rsp _ | .hingeFrameReceive _ _ _ _ _ _ | .regw _ | .timedRelease _
    | .writeFrame _ _ _ _ _ | .rstField _ _ | .fieldResetRequest => true
    | _ => false

/-- Every command that takes the logic die through no reset leaves the chip's fuses and keys, the copies made at the end
of Arming and for retention, the supplies and domains, the clocks and the timebase, the input channels, the AUX pins,
the host ports, the handovers, the staged DP halves, Luanen sync, the WDO pin, the life ledger, the Blank, the NVM
devices with the operation under way and the queue, and a field die reset under way as they were, but for the parts that
it is listed to change. -/
def Obligations.OtherQuietPartsStand : Prop :=
  ∀ (c : Instr) (s : State) (p : QuietPart), restarts c = false → p.movedBy c = false → Completes c s (fun h => p.same s.hub h)

/-- The commands whose own effect can include an occurrence of a fault source (R538), and with it every reaction of chapter 17. -/
def Sys2Proof.Machine.mayFault : Instr → Bool
  | .eccCorrected _ _ | .bitSet _ _ _ _ | .bitClear _ _ _ _ | .scrubRead _ _ _ | .boot _ _ _ _ | .arming | .enterRun
  | .blkCheckDone _ | .shadowCheck _ _ _ _ | .pllLockTimeout | .refclkLost | .mclkWindowEnd _ _ | .hbReceive _ _ _
  | .heartbeatLoss _ | .tempComparison _ _ _ | .proofDetect _ | .proofTimeout | .proofOverdue _ _
  | .startupTests _ _ _ | .descriptorAccept _ | .dispatch | .faultOccurrence _ _ _ _ | .fltForce _ _ | .fltSelf _ _
  | .laneDown _ | .laneNotInService _ | .hingeLost _ | .rejoin | .fsum _ | .fault _ _ _ _ | .req _ | .rsp _
  | .reqRetry _ | .boltCode _ | .fieldToneDecision _ | .marginMeasure _ _ | .fieldConfigCrc _
  | .hingeFrameReceive _ _ _ _ _ _ | .inputCrossing _ _ | .debounceAccept _ | .wireBreak _ | .tpWindowEnd _
  | .tpLate _ | .foreignWindowEnd _ | .mirrorDone _ _ | .powerOnSecond _ | .ledgerRestore | .calEcho _ _
  | .syncPulseSend | .syncPulseReceive _ | .enumMsg _ | .hb _ _ | .pairHbTimeout | .pairTurnOn | .upstreamLost
  | .downstreamLost | .lsyFrameReceive _ _ _ | .regw _ | .regr _ | .bankCopy _ | .atomAdd _ | .atomSwap _
  | .tmbOpStart _ | .nvmProgram _ | .nvmOperationDone _ _ | .timedRelease _ | .eccUncorrectable _ _ _
  | .writeFrame _ _ _ _ _ | .doorbell _ _ _ _ _ | .readFrame _ _ _ _ | .ringWrite | .gapRecord
  | .pageProgramDone _ _ | .journalEraseDone _ _ | .journalScan _ | .journalReadDone _ | .tokenCheck _ _ | .clear
  | .rstnRelease | .wardResetDone _ | .fieldResetTimeout | .schedulerDecision | .groupTestDone _ _ _
  | .logicLbistEnd | .fieldLbistEnd _ _ _ | .testAbort _ _ | .bstLogic _ _ | .bstField _ _ | .bstLogicThenField _ _
  | .vddValid _ | .vholdCapMeasure _ | .vholdLow _ | .recheckEnd _ | .domainWakeDone _ _ | .testPinChange _ _
  | .thermWarn _ _ | .thermalModelUpdate _ _ _ _ _ | .issuePoint _ | .stop _ | .vecInstruction _ | .loop _ | .endl _
  | .jmp _ | .brc _ | .wait _ | .waitTimeout _ | .call _ | .ret _ | .tset _ | .march _ | .sig _
  | .heavyVectorStall _ | .deadlineMiss _ | .vec _ _ _ | .wardWatchdogExpiry _ | .dwdExpiry | .wdgKick _ _ _ => true
  | _ => false

/-- Parts of the hub that an occurrence of a fault source reaches. -/
inductive Sys2Proof.Machine.BusyPart where
  /-- the device state and the wards -/
  | dev
  /-- the retained block -/
  | ret
  /-- the Hinge link -/
  | hinge
  /-- the output channels -/
  | outs
  /-- Deadbolt -/
  | dbt
  /-- the tumblers -/
  | tmbs
  /-- the budget scheduler -/
  | sch
  /-- the event recorder -/
  | recd
  /-- the fault collector -/
  | flt
  /-- the interrupt requests -/
  | ints
  /-- the interrupt pins -/
  | pins
  /-- the operation engine -/
  | eng
  /-- the watchdogs -/
  | wds
  /-- the self-test -/
  | bst
  deriving DecidableEq, Repr

/-- A part of the hub is the same in two hubs; the fault collector but for its mark of a first fault captured in the present command. -/
def Sys2Proof.Machine.BusyPart.same (p : BusyPart) (h k : Hub) : Prop :=
  match p with
  | .dev => k.dev = h.dev
  | .ret => k.ret = h.ret
  | .hinge => k.hinge = h.hinge
  | .outs => k.outs = h.outs
  | .dbt => k.dbt = h.dbt
  | .tmbs => k.tmbs = h.tmbs
  | .sch => k.sch = h.sch
  | .recd => k.recd = h.recd
  | .flt => { k.flt with fresh := false } = { h.flt with fresh := false }
  | .ints => k.ints = h.ints
  | .pins => k.pins = h.pins
  | .eng => k.eng = h.eng
  | .wds => k.wds = h.wds
  | .bst => k.bst = h.bst

/-- The commands that can change a part, beside the resets and those that can raise a fault. -/
def Sys2Proof.Machine.BusyPart.movedBy (p : BusyPart) (c : Instr) : Bool :=
  match p with
  | .dev =>
    match c with
    | .rcvErase _ _ | .rcvProgram _ _ | .rcvRead _ _ | .rcvReboot _ _ | .blkReboot _ _ | .dbtSafeExit _ _
    | .safeLeave | .thermalHalt _ _ | .boltRelSend | .rstDev _ _ | .rstWard _ _ | .fieldResetRequest
    | .vddWarningBegin _ | .orderlyPowerDown _ | .fieldResetRelease => true
    | _ => false
  | .ret =>
    match c with
    | .proofStart | .thermalHalt _ _ | .nvmCutoff _ | .mirrorStart | .mirror _ _ | .recordIntake _ _ _ _ _
    | .pendingRecord _ _ _ _ | .wrdExpOpen _ _ | .bootLbist _ _ _ | .vddWarningBegin _ | .vddWarningEnd _
    | .vfLostPd | .retentionFloor | .cycleStart _ => true
    | _ => false
  | .hinge =>
    match c with
    | .fclkWindowEnd _ | .timeS _ _ _ | .timeL _ _ | .followerTimeout | .heartbeatSend _ | .soscBLoss
    | .adcComparison _ _ _ _ | .adcConfirm _ _ _ _ | .dbtSafeExit _ _ | .completion _ | .opsCancel _ _
    | .faultCauseEnd _ _ | .faultClear _ _ _ | .thermalHalt _ _ | .fieldGlobalShutdown _ _ | .nvmCutoff _
    | .idleFrame _ | .laneTraining _ _ | .laneRetry | .retrain _ _ | .fieldStart | .outCmd _ _ _ | .outCmdRepeat
    | .outStat _ _ _ | .boltRel | .boltRelExpire | .boltRelRepeat | .boltDecision _ | .boltLatchClear
    | .boltToneChange | .fholdExpiry _ | .boltRelSend | .inputMeasure _ _ _ | .inFltClear _ _ _ | .mirrorStart
    | .mirror _ _ | .fieldSnapshot | .rebase | .nop _ | .bankFill _ | .tmbOpStop _ | .tmbOpJump _ | .meas _ _
    | .diag _ _ _ _ | .nvmRead _ | .nvmErase _ | .timed _ | .lsy _ | .outCtrlWrite _ _ _ | .rearm _ _ _
    | .limitEpisode _ | .limitEnd _ | .thermalShutdown _ | .retryExpiry _ | .restartThreshold _ | .uvOff _
    | .uvRestart _ | .offStateCheckEnd _ _ | .litCheckEnd _ _ | .readback _ _ _ _ | .pulseEnd _ _ _ | .tpMiss _
    | .pwmEdgeCheck _ _ | .pairMismatch _ | .outRtWrite _ _ _ | .outFltClear _ _ _ | .pendingRecord _ _ _ _
    | .rstWard _ _ | .rstField _ _ | .fieldResetRequest | .orderlyPowerDown _ | .vfLostPd | .fieldPowerOnReset
    | .vfValid | .vfUnderVoltage | .vfOverVoltage | .vregFail _ | .tmbStart _ _ _ | .tmbStop _ _ _ | .tmbJump _ _ _
    | .vecRepeat _ _ => true
    | _ => false
  | .outs =>
    match c with
    | .soscBLoss | .thermalHalt _ _ | .fieldGlobalShutdown _ _ | .outCmd _ _ _ | .outStat _ _ _ | .boltDecision _
    | .fholdExpiry _ | .diag _ _ _ _ | .outCtrlWrite _ _ _ | .rearm _ _ _ | .limitBegin _ _ | .limitEpisode _
    | .limitEnd _ | .thermalShutdown _ | .retryExpiry _ | .restartThreshold _ | .uvOff _ | .uvRestart _
    | .offStateCheck _ | .offStateCheckEnd _ _ | .litCheck _ | .litCheckEnd _ _ | .readback _ _ _ _ | .darkPulse _
    | .pulseEnd _ _ _ | .tpMiss _ | .pwmEdgeCheck _ _ | .pairMismatch _ | .rstWard _ _ | .rstField _ _
    | .fieldResetRequest | .orderlyPowerDown _ | .fieldPowerOnReset | .vregFail _ | .vecRepeat _ _ => true
    | _ => false
  | .dbt =>
    match c with
    | .heartbeatSend _ | .soscBLoss | .adcComparison _ _ _ _ | .adcConfirm _ _ _ _ | .proofStart | .reproof
    | .proofNow _ _ | .proofPause _ _ | .proofResume _ _ | .pauseExpiry | .thermalHalt _ _
    | .fieldGlobalShutdown _ _ | .fieldResetRequest | .orderlyPowerDown _ | .fieldPowerOnReset => true
    | _ => false
  | .tmbs =>
    match c with
    | .thermalHalt _ _ | .outStat _ _ _ | .mark _ | .luanenEvent _ | .user _ _ | .tmbOpStop _ | .tmbOpJump _
    | .lsy _ | .rstWard _ _ | .rstField _ _ | .orderlyPowerDown _ | .cycleStart _ | .tmbStart _ _ _ | .tmbStop _ _ _
    | .tmbJump _ _ _ => true
    | _ => false
  | .sch =>
    match c with
    | .rcvErase _ _ | .rcvProgram _ _ | .rcvRead _ _ | .rcvReboot _ _ | .rcvCommandDone _ | .soscBLoss
    | .opsCancel _ _ | .thermalHalt _ _ | .fieldGlobalShutdown _ _ | .outCmd _ _ _ | .outStat _ _ _
    | .boltDecision _ | .fholdExpiry _ | .mirrorStart | .mirror _ _ | .pairClose _ | .bankFill _ | .tmbOpStop _
    | .tmbOpJump _ | .meas _ _ | .diag _ _ _ _ | .nvmRead _ | .lsy _ | .outCtrlWrite _ _ _ | .rearm _ _ _
    | .thermalShutdown _ | .retryExpiry _ | .restartThreshold _ | .uvOff _ | .uvRestart _ | .offStateCheck _
    | .litCheckEnd _ _ | .readback _ _ _ _ | .pulseEnd _ _ _ | .pageSubmit | .sectorReclaim | .rstWard _ _
    | .rstField _ _ | .fieldResetRequest | .eraseDayBoundary | .orderlyPowerDown _ | .fieldPowerOnReset
    | .vregFail _ | .domainWakeRequest _ | .tmbStart _ _ _ | .tmbStop _ _ _ | .tmbJump _ _ _ | .vecRepeat _ _ => true
    | _ => false
  | .recd =>
    match c with
    | .proofStart | .thermalHalt _ _ | .recordIntake _ _ _ _ _ | .recordWriteStart | .pageSubmit | .sectorReclaim
    | .journalPageRead _ _ | .nonceRead _ | .nonceExpiry | .keyProgram _ _ | .keyProgramDone _ | .wrdExpOpen _ _
    | .bootLbist _ _ _ | .vddWarningBegin _ | .vddWarningEnd _ | .orderlyPowerDown _ | .cycleStart _ => true
    | _ => false
  | .flt =>
    match c with
    | .refclkReturn | .returnRef _ _ | .fclkWindowEnd _ | .timeS _ _ _ | .timeL _ _ | .followerTimeout | .soscBLoss
    | .adcComparison _ _ _ _ | .adcConfirm _ _ _ _ | .reproof | .faultCauseEnd _ _ | .faultClear _ _ _
    | .fieldGlobalShutdown _ _ | .laneTraining _ _ | .outCmd _ _ _ | .boltDecision _ | .fholdExpiry _
    | .inputMeasure _ _ _ | .present _ | .chainResumed | .tmbOpJump _ | .diag _ _ _ _ | .limitEpisode _
    | .limitEnd _ | .thermalShutdown _ | .retryExpiry _ | .restartThreshold _ | .uvOff _ | .uvRestart _
    | .offStateCheckEnd _ _ | .litCheckEnd _ _ | .readback _ _ _ _ | .pulseEnd _ _ _ | .tpMiss _ | .pwmEdgeCheck _ _
    | .pairMismatch _ | .rstWard _ _ | .fieldResetRequest | .vholdCharged _ | .vminSample _ | .fieldPowerOnReset
    | .fieldResetRelease | .vfValid | .vfUnderVoltage | .vfOverVoltage | .vregFail _ | .tmbStart _ _ _
    | .tmbStop _ _ _ | .tmbJump _ _ _ | .vecRepeat _ _ => true
    | _ => false
  | .ints =>
    match c with
    | .drainComplete _ | .handoverScrubDone _ | .completion _ | .thermalHalt _ _ | .laneTraining _ _
    | .outStat _ _ _ | .intEvent _ _ | .moderationExpiry _ | .intStatClear _ _ | .intEnWrite _ _ | .intSet _ _
    | .user _ _ | .tmbOpStop _ | .lsy _ | .rstWard _ _ | .rstField _ _ | .vddWarningBegin _ | .vddWarningEnd _
    | .orderlyPowerDown _ | .tmbStart _ _ _ | .tmbStop _ _ _ | .tmbJump _ _ _ => true
    | _ => false
  | .pins =>
    match c with
    | .drainComplete _ | .handoverScrubDone _ | .completion _ | .thermalHalt _ _ | .laneTraining _ _
    | .outStat _ _ _ | .intEvent _ _ | .moderationExpiry _ | .intPulseEnd _ | .intEnWrite _ _ | .intSet _ _
    | .user _ _ | .tmbOpStop _ | .lsy _ | .rstWard _ _ | .rstField _ _ | .vddWarningBegin _ | .vddWarningEnd _
    | .orderlyPowerDown _ | .tmbStart _ _ _ | .tmbStop _ _ _ | .tmbJump _ _ _ => true
    | _ => false
  | .eng =>
    match c with
    | .completion _ | .opsCancel _ _ | .tokenRefill _ | .thermalHalt _ _ | .nop _ | .bankFill _ | .tmbOpStop _
    | .tmbOpJump _ | .meas _ _ | .diag _ _ _ _ | .nvmRead _ | .nvmErase _ | .timed _ | .lsy _ | .rstWard _ _
    | .tmbStart _ _ _ | .tmbStop _ _ _ | .tmbJump _ _ _ => true
    | _ => false
  | .wds =>
    match c with
    | .thermalHalt _ _ | .rstWard _ _ | .vddWarningBegin _ | .orderlyPowerDown _ => true
    | _ => false
  | .bst =>
    match c with
    | .proofStart | .thermalHalt _ _ | .outStat _ _ _ | .recordIntake _ _ _ _ _ | .wrdExpOpen _ _ | .bootLbist _ _ _
    | .bootMemTest _ | .vddWarningBegin _ | .vddWarningEnd _ | .orderlyPowerDown _ | .cycleStart _ => true
    | _ => false

/-- Every command that takes the logic die through no reset and raises no fault leaves the device state, the retained
block, the link, the output channels, Deadbolt, the tumblers, the scheduler, the recorder, the fault collector, the
interrupts, the operation engine, the watchdogs and the self-test as they were, but for the parts that it is listed to
change. -/
def Obligations.OtherBusyPartsStand : Prop :=
  ∀ (c : Instr) (s : State) (p : BusyPart), restarts c = false → mayFault c = false → p.movedBy c = false → Completes c s (fun h => p.same s.hub h)

/-- Ward `w` may serve watchdog `k`, which runs in challenge mode, is not past its timeout and not before its window. -/
def Sys2Proof.Machine.challenged (w : Fin 8) (k : Fin 9) (s : State) : Bool :=
  s.hub.writable w && s.hub.wdServer k == w && (s.hub.wd k).state == 1 && s.hub.flag WDG_CFG_chal_en k && s.hub.wdOpen k &&
    decide (s.hub.wdTime k < s.hub.wdTimeout k * Config.ticksPerMs) && decide (s.hub.rd WDG_CNT_violations k < 65535)

/-- The challenge answer for seed s of watchdog k (a ward's number, or 8 for DWD) is s rotated left by 5 in 16 bits, XOR
k times 0x1111: for DWD the XOR value is 0x8888, and seed 0x3C5A of WW2 is answered by 0xA965. A service of a running
watchdog in challenge mode, with the key, in time and not early, is accepted exactly where its upper half is that
answer: accepted, the count starts anew and no violation is counted; with any other upper half a violation is. -/
def Obligations.TheChallengeAnswer : Prop :=
  (∀ (k : Fin 9) (seed : BitVec 16), wdAnswer seed.toNat k = (seed.rotateLeft 5 ^^^ BitVec.ofNat 16 (k * 0x1111)).toNat) ∧
  BitVec.ofNat 16 (8 * 0x1111) = 0x8888#16 ∧ wdAnswer 0x3C5A 2 = 0xA965 ∧
  (∀ (s : State) (w : Fin 8) (k : Fin 9) (seed answer : BitVec 16), challenged w k s = true → (s.hub.wd k).seed = seed.toNat →
    Completes (.wdgKick w k (answer ++ 0x5A5A#16)) s (fun h =>
      if answer = seed.rotateLeft 5 ^^^ BitVec.ofNat 16 (k * 0x1111) then
        (h.wd k).state = 1 ∧ (h.wd k).since = s.hub.clk.mclk ∧ (h.wd k).first = false ∧
          h.rd WDG_CNT_violations k = s.hub.rd WDG_CNT_violations k
      else h.rd WDG_CNT_violations k = s.hub.rd WDG_CNT_violations k + 1))

/-- A write of the key to WDG_KICK of a watchdog in challenge mode that runs and is not past its timeout: it is accepted or a violation. -/
def Sys2Proof.Machine.Can.served (w : Fin 8) (k : Fin 9) (v : Word) (s : State) : Bool :=
  s.hub.writable w && s.hub.wdServer k == w && v.toNat % 65536 == 0x5A5A && (s.hub.wd k).state == 1 && !s.hub.dev.test &&
    s.hub.flag WDG_CFG_chal_en k && decide (s.hub.wdTime k < s.hub.wdTimeout k * Config.ticksPerMs)

/-- With challenge mode enabled, WDG_SEED of a watchdog that has started reads its seed, and reading it changes nothing;
every start, every accepted service and every violation (outside a self-test, whose end would start the watchdogs once
more) renews the seed, from a free value, to one that is neither 0 nor the seed before. -/
def Obligations.TheSeedIsRenewed : Prop :=
  (∀ (h : Hub) (w : Fin 8) (k : Fin 9), h.flag WDG_CFG_chal_en k = true → (h.wd k).state ≠ 0 →
    h.readWord w (0x13010 + 0x20 * k) = ((h.wd k).seed, h)) ∧
  (∀ (h : Hub) (k : Fin 9), h.flag WDG_CFG_en k = true → (k = 8 ∨ h.defined k = true) →
    ((h.wdStart k).wd k).seed ≠ 0 ∧ ((h.wdStart k).wd k).seed ≠ (h.wd k).seed) ∧
  (∀ (s : State) (w : Fin 8) (k : Fin 9) (v : Word), Can.served w k v s = true → Completes (.wdgKick w k v) s (fun h =>
    (h.wd k).seed ≠ 0 ∧ (h.wd k).seed ≠ (s.hub.wd k).seed ∧ (h.wd k).seed < 2 ^ 16))

/-- One bit into the remainder register of polynomial 0x07. -/
def Sys2Proof.Machine.hingeCrcBit (c : BitVec 8) (b : Bool) : BitVec 8 := if c.msb != b then (c <<< 1) ^^^ 0x07#8 else c <<< 1

/-- The CRC-8 of a frame is the remainder register of polynomial 0x07, starting at 0, without reflection and without a
final XOR, after the 56 bits of bytes 0 to 6 in transmit order, most significant bit first; a frame is good only where
its last byte is that CRC; and the long time message sent while timebase bits [63:40] are all 0, with sequence number 3,
is 0x1100_0000_0000_3AAA. -/
def Obligations.TheHingeCrc : Prop :=
  (∀ f : BitVec 64, crc8 (hingeBytes f.toNat) = ((List.range 56).foldl (fun c i => hingeCrcBit c (f.getLsbD (63 - i))) 0#8).toNat) ∧
  (∀ (lane : Fin 4) (f : BitVec 64) (codeOk : Bool), hingeGood lane f.toNat codeOk = true →
    (f.setWidth 8) = (List.range 56).foldl (fun c i => hingeCrcBit c (f.getLsbD (63 - i))) 0#8) ∧
  hingeFrame 0x11 0 3 = 0x1100000000003AAA ∧ hingeGood 0 0x1100000000003AAA true = true

/-- CLK_TB_EPOCH.epoch reads timebase bits [63:48]; a wrap of the low 48 bits sets wrapped for every ward, whether it
comes as a command, in the tick in which they read 0, or with a tick; a write of 1 to wrapped clears it for the ward
that writes, and for no other. The procedure of R111 turns the low 48 bits of a time less than 2^48 ticks before now
into that time. -/
def Obligations.TheEpoch : Prop :=
  (∀ (h : Hub) (w : Fin 8), (h.readWord w 0x2018).1 % 2 ^ 16 = h.clk.tb / 2 ^ 48 % 2 ^ 16) ∧
  (∀ s : State, s.hub.clk.tb % 2 ^ 48 = 0 → Completes .timebaseWrap s (fun h => ∀ w : Fin 8, h.flag CLK_TB_EPOCH_wrapped 0 w = true)) ∧
  (∀ h : Hub, h.dev.phase ≠ .off → h.dev.rstLow = false → h.clk.mclkLost = false → h.clk.tb % 2 ^ 48 = 2 ^ 48 - 1 →
    ∀ w : Fin 8, (tickHub h).flag CLK_TB_EPOCH_wrapped 0 w = true) ∧
  (∀ (h : Hub) (w u : Fin 8) (v : Word), v.getLsbD 16 = true →
    (h.writeWord w 0x2018 v.toNat).flag CLK_TB_EPOCH_wrapped 0 u = (if u = w then false else h.flag CLK_TB_EPOCH_wrapped 0 u)) ∧
  (∀ full now : Nat, full ≤ now → now - full < 2 ^ 48 →
    (if now % 2 ^ 48 < full % 2 ^ 48 then now / 2 ^ 48 - 1 else now / 2 ^ 48) * 2 ^ 48 + full % 2 ^ 48 = full)

/-- Ward `w` may write, the link is up, and the counts of refused clears are not at their ends. -/
def Sys2Proof.Machine.Can.oneClear (w : Fin 8) (s : State) : Bool :=
  s.hub.writable w && s.hub.hinge.upL && decide (s.hub.rd FLT_CLR_REFUSED_live < 65535) && decide (s.hub.rd FLT_CLR_REFUSED_denied < 65535)

/-- R542, for one bit written to FLT_STATUS0 or FLT_STATUS1 with the link up: W0 empties the mask where the source's
live bit is 0, and else only FLT_CLR_REFUSED.live goes up; another ward that is not in the mask only counts .denied; one
that is in it leaves the mask where the cause is absent on every resource attributed to it, and else only counts .live.
A refused clear leaves every mask as it was, and no clear changes OUT_FLT or IN_FLT or reverses a reaction: the
channels, the tumblers and the device state stay as they were. -/
def Obligations.AFaultClearIsJudgedBitByBit : Prop :=
  ∀ (s : State) (w : Fin 8) (n : Fin 62), Can.oneClear w s = true →
  Completes (.faultClear w (Fin.ofNat 2 (n / 32)) (BitVec.twoPow 32 (n % 32))) s (fun h =>
    (∀ m : Fin 62, m ≠ n → h.fltMask m = s.hub.fltMask m) ∧ h.outs = s.hub.outs ∧ h.ins = s.hub.ins ∧ h.tmbs = s.hub.tmbs ∧ h.dev = s.hub.dev ∧
    (if w = 0 then
      if s.hub.fltLive n then
        h.fltMask n = s.hub.fltMask n ∧ h.rd FLT_CLR_REFUSED_live = s.hub.rd FLT_CLR_REFUSED_live + 1 ∧
          h.rd FLT_CLR_REFUSED_denied = s.hub.rd FLT_CLR_REFUSED_denied
      else h.fltMask n = 0 ∧ h.rd FLT_CLR_REFUSED_live = s.hub.rd FLT_CLR_REFUSED_live ∧
          h.rd FLT_CLR_REFUSED_denied = s.hub.rd FLT_CLR_REFUSED_denied
    else if bitOf (s.hub.fltMask n) w = false then
      h.fltMask n = s.hub.fltMask n ∧ h.rd FLT_CLR_REFUSED_denied = s.hub.rd FLT_CLR_REFUSED_denied + 1 ∧
        h.rd FLT_CLR_REFUSED_live = s.hub.rd FLT_CLR_REFUSED_live
    else if s.hub.fltLive n && bitOf (s.hub.causeWards n) w then
      h.fltMask n = s.hub.fltMask n ∧ h.rd FLT_CLR_REFUSED_live = s.hub.rd FLT_CLR_REFUSED_live + 1 ∧
        h.rd FLT_CLR_REFUSED_denied = s.hub.rd FLT_CLR_REFUSED_denied
    else h.fltMask n = clrBit (s.hub.fltMask n) w ∧ h.rd FLT_CLR_REFUSED_live = s.hub.rd FLT_CLR_REFUSED_live ∧
        h.rd FLT_CLR_REFUSED_denied = s.hub.rd FLT_CLR_REFUSED_denied))
end

