-- ==== Sys2Proof/Laws/Regfile.lean ====
section
/-!
SUPPORT. The laws of the register file: what a read gives after a write, to the same field and to another one.
-/

namespace Sys2Proof.Machine

/-- Dropping an entry leaves the other keys alone. -/
theorem fileGet_fileDrop_ne {l : List (Nat × Nat)} {k key : Nat} (hk : key ≠ k) : fileGet (fileDrop l k) key = fileGet l key := by
  induction l with
  | nil => rfl
  | cons e rest ih =>
    obtain ⟨a, v⟩ := e
    by_cases ha : a = k
    · subst ha
      have h1 : fileDrop ((a, v) :: rest) a = fileDrop rest a := by simp [fileDrop]
      rw [h1, ih]
      simp [fileGet, Ne.symm hk]
    · have h1 : fileDrop ((a, v) :: rest) k = (a, v) :: fileDrop rest k := by simp [fileDrop, ha]
      rw [h1]
      simp only [fileGet, ih]

/-- A dropped key reads 0. -/
theorem fileGet_fileDrop_self (l : List (Nat × Nat)) (k : Nat) : fileGet (fileDrop l k) k = 0 := by
  induction l with
  | nil => rfl
  | cons e rest ih =>
    obtain ⟨a, v⟩ := e
    by_cases ha : a = k
    · subst ha
      have h1 : fileDrop ((a, v) :: rest) a = fileDrop rest a := by simp [fileDrop]
      rw [h1, ih]
    · have h1 : fileDrop ((a, v) :: rest) k = (a, v) :: fileDrop rest k := by simp [fileDrop, ha]
      rw [h1]
      simp only [fileGet, if_neg ha, ih]

/-- An entry put into a file without it is read back. -/
theorem fileGet_filePut_self {l : List (Nat × Nat)} {k v : Nat} (hl : ∀ e ∈ l, e.1 ≠ k) : fileGet (filePut l k v) k = v := by
  induction l with
  | nil => simp [filePut, fileGet]
  | cons e rest ih =>
    obtain ⟨a, x⟩ := e
    have ha : a ≠ k := hl (a, x) (by simp)
    have hr : ∀ e ∈ rest, e.1 ≠ k := fun e he => hl e (by simp [he])
    unfold filePut
    split
    · simp [fileGet]
    · split
      · simp [fileGet]
      · simp [fileGet, ha, ih hr]

/-- An entry put into a file leaves the other keys alone. -/
theorem fileGet_filePut_ne {l : List (Nat × Nat)} {k key v : Nat} (hk : key ≠ k) : fileGet (filePut l k v) key = fileGet l key := by
  induction l with
  | nil => simp [filePut, fileGet, Ne.symm hk]
  | cons e rest ih =>
    obtain ⟨a, x⟩ := e
    unfold filePut
    split
    · simp [fileGet, Ne.symm hk]
    · split
      · rename_i _ h2
        subst h2
        simp [fileGet, Ne.symm hk]
      · simp [fileGet, ih]

/-- A set key reads as it was set. -/
@[simp] theorem fileGet_fileSet_self (l : List (Nat × Nat)) (k v : Nat) : fileGet (fileSet l k v) k = v := by
  unfold fileSet
  split
  · rename_i h0
    rw [fileGet_fileDrop_self, h0]
  · exact fileGet_filePut_self (fun e he => by simpa [fileDrop] using (List.mem_filter.mp he).2)

/-- Setting a key leaves the others alone. -/
theorem fileGet_fileSet_ne {l : List (Nat × Nat)} {k key v : Nat} (hk : key ≠ k) : fileGet (fileSet l k v) key = fileGet l key := by
  unfold fileSet
  split
  · exact fileGet_fileDrop_ne hk
  · rw [fileGet_filePut_ne hk, fileGet_fileDrop_ne hk]

/-- A field reads what was written to it, within its width. -/
@[simp] theorem Hub.rd_wr_self (h : Hub) (f : Fld) (v i w : Nat) : (h.wr f v i w).rd f i w = v % 2 ^ f.width := by
  simp only [Hub.rd, Hub.wr, fileGet_fileSet_self, Nat.xor_mod_two_pow, Nat.mod_mod]
  rw [Nat.xor_assoc, Nat.xor_self, Nat.xor_zero]

/-- A write to one field leaves every field with another key alone. -/
theorem Hub.rd_wr_ne {h : Hub} {f g : Fld} {v i w j u : Nat} (hk : fldKey g j u ≠ fldKey f i w) :
    (h.wr f v i w).rd g j u = h.rd g j u := by
  simp only [Hub.rd, Hub.wr, fileGet_fileSet_ne hk]

/-- A field of the reset file reads its reset value. -/
theorem Hub.rd_reset (f : Fld) (i w : Nat) : ({} : Hub).rd f i w = f.reset % 2 ^ f.width := by
  simp [Hub.rd, fileGet]

/-- A one-bit field reads the truth value put into it. -/
@[simp] theorem Hub.flag_put_self (h : Hub) (f : Fld) (b : Bool) (i w : Nat) (hf : f.width = 1) : (h.put f b i w).flag f i w = b := by
  unfold Hub.flag Hub.put
  rw [Hub.rd_wr_self, hf]
  cases b <;> rfl

/-- A flag put leaves every flag with another key alone. -/
theorem Hub.flag_put_ne {h : Hub} {f g : Fld} {b : Bool} {i w j u : Nat} (hk : fldKey g j u ≠ fldKey f i w) :
    (h.put f b i w).flag g j u = h.flag g j u := by
  simp only [Hub.flag, Hub.put, Hub.rd_wr_ne hk]

/-- A flag put leaves every field with another key alone. -/
theorem Hub.rd_put_ne {h : Hub} {f g : Fld} {b : Bool} {i w j u : Nat} (hk : fldKey g j u ≠ fldKey f i w) :
    (h.put f b i w).rd g j u = h.rd g j u := Hub.rd_wr_ne hk

/-- A saturating count leaves every field with another key alone. -/
theorem Hub.rd_count_ne {h : Hub} {f g : Fld} {k i w j u : Nat} (hk : fldKey g j u ≠ fldKey f i w) :
    (h.count f k i w).rd g j u = h.rd g j u := Hub.rd_wr_ne hk

/-- A saturating count below its end counts. -/
theorem Hub.rd_count_self (h : Hub) (f : Fld) (k i w : Nat) :
    (h.count f k i w).rd f i w = min (2 ^ f.width - 1) (h.rd f i w + k) := by
  unfold Hub.count satAdd
  rw [Hub.rd_wr_self, Nat.mod_eq_of_lt]
  have := Nat.two_pow_pos f.width
  omega

/-- Two hubs with one register file read alike. -/
theorem Hub.rd_congr {h k : Hub} (hr : k.regs = h.regs) (f : Fld) (i w : Nat) : k.rd f i w = h.rd f i w := by
  simp only [Hub.rd, hr]

end Sys2Proof.Machine
end

