-- ==== Sys2Proof/Laws/State.lean ====
section
/-!
SUPPORT. The small laws of the named updates of the hub: what each leaves as it was, and what a channel, lane, ward, port, bank,
watchdog or pin reads after its own update.
-/

namespace Sys2Proof.Machine

/-! ### `Hub.wr` -/

@[simp] theorem Hub.wr_chip (h : Hub) (f : Fld) (v i w : Nat) : (h.wr f v i w).chip = h.chip := rfl
@[simp] theorem Hub.wr_armed (h : Hub) (f : Fld) (v i w : Nat) : (h.wr f v i w).armed = h.armed := rfl
@[simp] theorem Hub.wr_kept (h : Hub) (f : Fld) (v i w : Nat) : (h.wr f v i w).kept = h.kept := rfl
@[simp] theorem Hub.wr_dev (h : Hub) (f : Fld) (v i w : Nat) : (h.wr f v i w).dev = h.dev := rfl
@[simp] theorem Hub.wr_sup (h : Hub) (f : Fld) (v i w : Nat) : (h.wr f v i w).sup = h.sup := rfl
@[simp] theorem Hub.wr_ret (h : Hub) (f : Fld) (v i w : Nat) : (h.wr f v i w).ret = h.ret := rfl
@[simp] theorem Hub.wr_clk (h : Hub) (f : Fld) (v i w : Nat) : (h.wr f v i w).clk = h.clk := rfl
@[simp] theorem Hub.wr_hinge (h : Hub) (f : Fld) (v i w : Nat) : (h.wr f v i w).hinge = h.hinge := rfl
@[simp] theorem Hub.wr_outs (h : Hub) (f : Fld) (v i w : Nat) : (h.wr f v i w).outs = h.outs := rfl
@[simp] theorem Hub.wr_ins (h : Hub) (f : Fld) (v i w : Nat) : (h.wr f v i w).ins = h.ins := rfl
@[simp] theorem Hub.wr_dbt (h : Hub) (f : Fld) (v i w : Nat) : (h.wr f v i w).dbt = h.dbt := rfl
@[simp] theorem Hub.wr_tmbs (h : Hub) (f : Fld) (v i w : Nat) : (h.wr f v i w).tmbs = h.tmbs := rfl
@[simp] theorem Hub.wr_aux (h : Hub) (f : Fld) (v i w : Nat) : (h.wr f v i w).aux = h.aux := rfl
@[simp] theorem Hub.wr_sch (h : Hub) (f : Fld) (v i w : Nat) : (h.wr f v i w).sch = h.sch := rfl
@[simp] theorem Hub.wr_recd (h : Hub) (f : Fld) (v i w : Nat) : (h.wr f v i w).recd = h.recd := rfl
@[simp] theorem Hub.wr_flt (h : Hub) (f : Fld) (v i w : Nat) : (h.wr f v i w).flt = h.flt := rfl
@[simp] theorem Hub.wr_ints (h : Hub) (f : Fld) (v i w : Nat) : (h.wr f v i w).ints = h.ints := rfl
@[simp] theorem Hub.wr_pins (h : Hub) (f : Fld) (v i w : Nat) : (h.wr f v i w).pins = h.pins := rfl
@[simp] theorem Hub.wr_ports (h : Hub) (f : Fld) (v i w : Nat) : (h.wr f v i w).ports = h.ports := rfl
@[simp] theorem Hub.wr_eng (h : Hub) (f : Fld) (v i w : Nat) : (h.wr f v i w).eng = h.eng := rfl
@[simp] theorem Hub.wr_banks (h : Hub) (f : Fld) (v i w : Nat) : (h.wr f v i w).banks = h.banks := rfl
@[simp] theorem Hub.wr_mem (h : Hub) (f : Fld) (v i w : Nat) : (h.wr f v i w).mem = h.mem := rfl
@[simp] theorem Hub.wr_bad (h : Hub) (f : Fld) (v i w : Nat) : (h.wr f v i w).bad = h.bad := rfl
@[simp] theorem Hub.wr_dpLow (h : Hub) (f : Fld) (v i w : Nat) : (h.wr f v i w).dpLow = h.dpLow := rfl
@[simp] theorem Hub.wr_dpHigh (h : Hub) (f : Fld) (v i w : Nat) : (h.wr f v i w).dpHigh = h.dpHigh := rfl
@[simp] theorem Hub.wr_lsy (h : Hub) (f : Fld) (v i w : Nat) : (h.wr f v i w).lsy = h.lsy := rfl
@[simp] theorem Hub.wr_wds (h : Hub) (f : Fld) (v i w : Nat) : (h.wr f v i w).wds = h.wds := rfl
@[simp] theorem Hub.wr_wdo (h : Hub) (f : Fld) (v i w : Nat) : (h.wr f v i w).wdo = h.wdo := rfl
@[simp] theorem Hub.wr_bst (h : Hub) (f : Fld) (v i w : Nat) : (h.wr f v i w).bst = h.bst := rfl
@[simp] theorem Hub.wr_life (h : Hub) (f : Fld) (v i w : Nat) : (h.wr f v i w).life = h.life := rfl
@[simp] theorem Hub.wr_blk (h : Hub) (f : Fld) (v i w : Nat) : (h.wr f v i w).blk = h.blk := rfl
@[simp] theorem Hub.wr_nvm (h : Hub) (f : Fld) (v i w : Nat) : (h.wr f v i w).nvm = h.nvm := rfl
@[simp] theorem Hub.wr_nvmOp (h : Hub) (f : Fld) (v i w : Nat) : (h.wr f v i w).nvmOp = h.nvmOp := rfl
@[simp] theorem Hub.wr_nvmQ (h : Hub) (f : Fld) (v i w : Nat) : (h.wr f v i w).nvmQ = h.nvmQ := rfl
@[simp] theorem Hub.wr_fieldReset (h : Hub) (f : Fld) (v i w : Nat) : (h.wr f v i w).fieldReset = h.fieldReset := rfl
@[simp] theorem Hub.wr_fol (h : Hub) (f : Fld) (v i w : Nat) : (h.wr f v i w).fol = h.fol := rfl
@[simp] theorem Hub.wr_fieldSince (h : Hub) (f : Fld) (v i w : Nat) : (h.wr f v i w).fieldSince = h.fieldSince := rfl
@[simp] theorem Hub.wr_free (h : Hub) (f : Fld) (v i w : Nat) : (h.wr f v i w).free = h.free := rfl

/-! ### `Hub.put` -/

@[simp] theorem Hub.put_chip (h : Hub) (f : Fld) (b : Bool) (i w : Nat) : (h.put f b i w).chip = h.chip := rfl
@[simp] theorem Hub.put_armed (h : Hub) (f : Fld) (b : Bool) (i w : Nat) : (h.put f b i w).armed = h.armed := rfl
@[simp] theorem Hub.put_kept (h : Hub) (f : Fld) (b : Bool) (i w : Nat) : (h.put f b i w).kept = h.kept := rfl
@[simp] theorem Hub.put_dev (h : Hub) (f : Fld) (b : Bool) (i w : Nat) : (h.put f b i w).dev = h.dev := rfl
@[simp] theorem Hub.put_sup (h : Hub) (f : Fld) (b : Bool) (i w : Nat) : (h.put f b i w).sup = h.sup := rfl
@[simp] theorem Hub.put_ret (h : Hub) (f : Fld) (b : Bool) (i w : Nat) : (h.put f b i w).ret = h.ret := rfl
@[simp] theorem Hub.put_clk (h : Hub) (f : Fld) (b : Bool) (i w : Nat) : (h.put f b i w).clk = h.clk := rfl
@[simp] theorem Hub.put_hinge (h : Hub) (f : Fld) (b : Bool) (i w : Nat) : (h.put f b i w).hinge = h.hinge := rfl
@[simp] theorem Hub.put_outs (h : Hub) (f : Fld) (b : Bool) (i w : Nat) : (h.put f b i w).outs = h.outs := rfl
@[simp] theorem Hub.put_ins (h : Hub) (f : Fld) (b : Bool) (i w : Nat) : (h.put f b i w).ins = h.ins := rfl
@[simp] theorem Hub.put_dbt (h : Hub) (f : Fld) (b : Bool) (i w : Nat) : (h.put f b i w).dbt = h.dbt := rfl
@[simp] theorem Hub.put_tmbs (h : Hub) (f : Fld) (b : Bool) (i w : Nat) : (h.put f b i w).tmbs = h.tmbs := rfl
@[simp] theorem Hub.put_aux (h : Hub) (f : Fld) (b : Bool) (i w : Nat) : (h.put f b i w).aux = h.aux := rfl
@[simp] theorem Hub.put_sch (h : Hub) (f : Fld) (b : Bool) (i w : Nat) : (h.put f b i w).sch = h.sch := rfl
@[simp] theorem Hub.put_recd (h : Hub) (f : Fld) (b : Bool) (i w : Nat) : (h.put f b i w).recd = h.recd := rfl
@[simp] theorem Hub.put_flt (h : Hub) (f : Fld) (b : Bool) (i w : Nat) : (h.put f b i w).flt = h.flt := rfl
@[simp] theorem Hub.put_ints (h : Hub) (f : Fld) (b : Bool) (i w : Nat) : (h.put f b i w).ints = h.ints := rfl
@[simp] theorem Hub.put_pins (h : Hub) (f : Fld) (b : Bool) (i w : Nat) : (h.put f b i w).pins = h.pins := rfl
@[simp] theorem Hub.put_ports (h : Hub) (f : Fld) (b : Bool) (i w : Nat) : (h.put f b i w).ports = h.ports := rfl
@[simp] theorem Hub.put_eng (h : Hub) (f : Fld) (b : Bool) (i w : Nat) : (h.put f b i w).eng = h.eng := rfl
@[simp] theorem Hub.put_banks (h : Hub) (f : Fld) (b : Bool) (i w : Nat) : (h.put f b i w).banks = h.banks := rfl
@[simp] theorem Hub.put_mem (h : Hub) (f : Fld) (b : Bool) (i w : Nat) : (h.put f b i w).mem = h.mem := rfl
@[simp] theorem Hub.put_bad (h : Hub) (f : Fld) (b : Bool) (i w : Nat) : (h.put f b i w).bad = h.bad := rfl
@[simp] theorem Hub.put_dpLow (h : Hub) (f : Fld) (b : Bool) (i w : Nat) : (h.put f b i w).dpLow = h.dpLow := rfl
@[simp] theorem Hub.put_dpHigh (h : Hub) (f : Fld) (b : Bool) (i w : Nat) : (h.put f b i w).dpHigh = h.dpHigh := rfl
@[simp] theorem Hub.put_lsy (h : Hub) (f : Fld) (b : Bool) (i w : Nat) : (h.put f b i w).lsy = h.lsy := rfl
@[simp] theorem Hub.put_wds (h : Hub) (f : Fld) (b : Bool) (i w : Nat) : (h.put f b i w).wds = h.wds := rfl
@[simp] theorem Hub.put_wdo (h : Hub) (f : Fld) (b : Bool) (i w : Nat) : (h.put f b i w).wdo = h.wdo := rfl
@[simp] theorem Hub.put_bst (h : Hub) (f : Fld) (b : Bool) (i w : Nat) : (h.put f b i w).bst = h.bst := rfl
@[simp] theorem Hub.put_life (h : Hub) (f : Fld) (b : Bool) (i w : Nat) : (h.put f b i w).life = h.life := rfl
@[simp] theorem Hub.put_blk (h : Hub) (f : Fld) (b : Bool) (i w : Nat) : (h.put f b i w).blk = h.blk := rfl
@[simp] theorem Hub.put_nvm (h : Hub) (f : Fld) (b : Bool) (i w : Nat) : (h.put f b i w).nvm = h.nvm := rfl
@[simp] theorem Hub.put_nvmOp (h : Hub) (f : Fld) (b : Bool) (i w : Nat) : (h.put f b i w).nvmOp = h.nvmOp := rfl
@[simp] theorem Hub.put_nvmQ (h : Hub) (f : Fld) (b : Bool) (i w : Nat) : (h.put f b i w).nvmQ = h.nvmQ := rfl
@[simp] theorem Hub.put_fieldReset (h : Hub) (f : Fld) (b : Bool) (i w : Nat) : (h.put f b i w).fieldReset = h.fieldReset := rfl
@[simp] theorem Hub.put_fol (h : Hub) (f : Fld) (b : Bool) (i w : Nat) : (h.put f b i w).fol = h.fol := rfl
@[simp] theorem Hub.put_fieldSince (h : Hub) (f : Fld) (b : Bool) (i w : Nat) : (h.put f b i w).fieldSince = h.fieldSince := rfl
@[simp] theorem Hub.put_free (h : Hub) (f : Fld) (b : Bool) (i w : Nat) : (h.put f b i w).free = h.free := rfl

/-! ### `Hub.count` -/

@[simp] theorem Hub.count_chip (h : Hub) (f : Fld) (k i w : Nat) : (h.count f k i w).chip = h.chip := rfl
@[simp] theorem Hub.count_armed (h : Hub) (f : Fld) (k i w : Nat) : (h.count f k i w).armed = h.armed := rfl
@[simp] theorem Hub.count_kept (h : Hub) (f : Fld) (k i w : Nat) : (h.count f k i w).kept = h.kept := rfl
@[simp] theorem Hub.count_dev (h : Hub) (f : Fld) (k i w : Nat) : (h.count f k i w).dev = h.dev := rfl
@[simp] theorem Hub.count_sup (h : Hub) (f : Fld) (k i w : Nat) : (h.count f k i w).sup = h.sup := rfl
@[simp] theorem Hub.count_ret (h : Hub) (f : Fld) (k i w : Nat) : (h.count f k i w).ret = h.ret := rfl
@[simp] theorem Hub.count_clk (h : Hub) (f : Fld) (k i w : Nat) : (h.count f k i w).clk = h.clk := rfl
@[simp] theorem Hub.count_hinge (h : Hub) (f : Fld) (k i w : Nat) : (h.count f k i w).hinge = h.hinge := rfl
@[simp] theorem Hub.count_outs (h : Hub) (f : Fld) (k i w : Nat) : (h.count f k i w).outs = h.outs := rfl
@[simp] theorem Hub.count_ins (h : Hub) (f : Fld) (k i w : Nat) : (h.count f k i w).ins = h.ins := rfl
@[simp] theorem Hub.count_dbt (h : Hub) (f : Fld) (k i w : Nat) : (h.count f k i w).dbt = h.dbt := rfl
@[simp] theorem Hub.count_tmbs (h : Hub) (f : Fld) (k i w : Nat) : (h.count f k i w).tmbs = h.tmbs := rfl
@[simp] theorem Hub.count_aux (h : Hub) (f : Fld) (k i w : Nat) : (h.count f k i w).aux = h.aux := rfl
@[simp] theorem Hub.count_sch (h : Hub) (f : Fld) (k i w : Nat) : (h.count f k i w).sch = h.sch := rfl
@[simp] theorem Hub.count_recd (h : Hub) (f : Fld) (k i w : Nat) : (h.count f k i w).recd = h.recd := rfl
@[simp] theorem Hub.count_flt (h : Hub) (f : Fld) (k i w : Nat) : (h.count f k i w).flt = h.flt := rfl
@[simp] theorem Hub.count_ints (h : Hub) (f : Fld) (k i w : Nat) : (h.count f k i w).ints = h.ints := rfl
@[simp] theorem Hub.count_pins (h : Hub) (f : Fld) (k i w : Nat) : (h.count f k i w).pins = h.pins := rfl
@[simp] theorem Hub.count_ports (h : Hub) (f : Fld) (k i w : Nat) : (h.count f k i w).ports = h.ports := rfl
@[simp] theorem Hub.count_eng (h : Hub) (f : Fld) (k i w : Nat) : (h.count f k i w).eng = h.eng := rfl
@[simp] theorem Hub.count_banks (h : Hub) (f : Fld) (k i w : Nat) : (h.count f k i w).banks = h.banks := rfl
@[simp] theorem Hub.count_mem (h : Hub) (f : Fld) (k i w : Nat) : (h.count f k i w).mem = h.mem := rfl
@[simp] theorem Hub.count_bad (h : Hub) (f : Fld) (k i w : Nat) : (h.count f k i w).bad = h.bad := rfl
@[simp] theorem Hub.count_dpLow (h : Hub) (f : Fld) (k i w : Nat) : (h.count f k i w).dpLow = h.dpLow := rfl
@[simp] theorem Hub.count_dpHigh (h : Hub) (f : Fld) (k i w : Nat) : (h.count f k i w).dpHigh = h.dpHigh := rfl
@[simp] theorem Hub.count_lsy (h : Hub) (f : Fld) (k i w : Nat) : (h.count f k i w).lsy = h.lsy := rfl
@[simp] theorem Hub.count_wds (h : Hub) (f : Fld) (k i w : Nat) : (h.count f k i w).wds = h.wds := rfl
@[simp] theorem Hub.count_wdo (h : Hub) (f : Fld) (k i w : Nat) : (h.count f k i w).wdo = h.wdo := rfl
@[simp] theorem Hub.count_bst (h : Hub) (f : Fld) (k i w : Nat) : (h.count f k i w).bst = h.bst := rfl
@[simp] theorem Hub.count_life (h : Hub) (f : Fld) (k i w : Nat) : (h.count f k i w).life = h.life := rfl
@[simp] theorem Hub.count_blk (h : Hub) (f : Fld) (k i w : Nat) : (h.count f k i w).blk = h.blk := rfl
@[simp] theorem Hub.count_nvm (h : Hub) (f : Fld) (k i w : Nat) : (h.count f k i w).nvm = h.nvm := rfl
@[simp] theorem Hub.count_nvmOp (h : Hub) (f : Fld) (k i w : Nat) : (h.count f k i w).nvmOp = h.nvmOp := rfl
@[simp] theorem Hub.count_nvmQ (h : Hub) (f : Fld) (k i w : Nat) : (h.count f k i w).nvmQ = h.nvmQ := rfl
@[simp] theorem Hub.count_fieldReset (h : Hub) (f : Fld) (k i w : Nat) : (h.count f k i w).fieldReset = h.fieldReset := rfl
@[simp] theorem Hub.count_fol (h : Hub) (f : Fld) (k i w : Nat) : (h.count f k i w).fol = h.fol := rfl
@[simp] theorem Hub.count_fieldSince (h : Hub) (f : Fld) (k i w : Nat) : (h.count f k i w).fieldSince = h.fieldSince := rfl
@[simp] theorem Hub.count_free (h : Hub) (f : Fld) (k i w : Nat) : (h.count f k i w).free = h.free := rfl

/-! ### `Hub.countMod` -/

@[simp] theorem Hub.countMod_chip (h : Hub) (f : Fld) (k i w : Nat) : (h.countMod f k i w).chip = h.chip := rfl
@[simp] theorem Hub.countMod_armed (h : Hub) (f : Fld) (k i w : Nat) : (h.countMod f k i w).armed = h.armed := rfl
@[simp] theorem Hub.countMod_kept (h : Hub) (f : Fld) (k i w : Nat) : (h.countMod f k i w).kept = h.kept := rfl
@[simp] theorem Hub.countMod_dev (h : Hub) (f : Fld) (k i w : Nat) : (h.countMod f k i w).dev = h.dev := rfl
@[simp] theorem Hub.countMod_sup (h : Hub) (f : Fld) (k i w : Nat) : (h.countMod f k i w).sup = h.sup := rfl
@[simp] theorem Hub.countMod_ret (h : Hub) (f : Fld) (k i w : Nat) : (h.countMod f k i w).ret = h.ret := rfl
@[simp] theorem Hub.countMod_clk (h : Hub) (f : Fld) (k i w : Nat) : (h.countMod f k i w).clk = h.clk := rfl
@[simp] theorem Hub.countMod_hinge (h : Hub) (f : Fld) (k i w : Nat) : (h.countMod f k i w).hinge = h.hinge := rfl
@[simp] theorem Hub.countMod_outs (h : Hub) (f : Fld) (k i w : Nat) : (h.countMod f k i w).outs = h.outs := rfl
@[simp] theorem Hub.countMod_ins (h : Hub) (f : Fld) (k i w : Nat) : (h.countMod f k i w).ins = h.ins := rfl
@[simp] theorem Hub.countMod_dbt (h : Hub) (f : Fld) (k i w : Nat) : (h.countMod f k i w).dbt = h.dbt := rfl
@[simp] theorem Hub.countMod_tmbs (h : Hub) (f : Fld) (k i w : Nat) : (h.countMod f k i w).tmbs = h.tmbs := rfl
@[simp] theorem Hub.countMod_aux (h : Hub) (f : Fld) (k i w : Nat) : (h.countMod f k i w).aux = h.aux := rfl
@[simp] theorem Hub.countMod_sch (h : Hub) (f : Fld) (k i w : Nat) : (h.countMod f k i w).sch = h.sch := rfl
@[simp] theorem Hub.countMod_recd (h : Hub) (f : Fld) (k i w : Nat) : (h.countMod f k i w).recd = h.recd := rfl
@[simp] theorem Hub.countMod_flt (h : Hub) (f : Fld) (k i w : Nat) : (h.countMod f k i w).flt = h.flt := rfl
@[simp] theorem Hub.countMod_ints (h : Hub) (f : Fld) (k i w : Nat) : (h.countMod f k i w).ints = h.ints := rfl
@[simp] theorem Hub.countMod_pins (h : Hub) (f : Fld) (k i w : Nat) : (h.countMod f k i w).pins = h.pins := rfl
@[simp] theorem Hub.countMod_ports (h : Hub) (f : Fld) (k i w : Nat) : (h.countMod f k i w).ports = h.ports := rfl
@[simp] theorem Hub.countMod_eng (h : Hub) (f : Fld) (k i w : Nat) : (h.countMod f k i w).eng = h.eng := rfl
@[simp] theorem Hub.countMod_banks (h : Hub) (f : Fld) (k i w : Nat) : (h.countMod f k i w).banks = h.banks := rfl
@[simp] theorem Hub.countMod_mem (h : Hub) (f : Fld) (k i w : Nat) : (h.countMod f k i w).mem = h.mem := rfl
@[simp] theorem Hub.countMod_bad (h : Hub) (f : Fld) (k i w : Nat) : (h.countMod f k i w).bad = h.bad := rfl
@[simp] theorem Hub.countMod_dpLow (h : Hub) (f : Fld) (k i w : Nat) : (h.countMod f k i w).dpLow = h.dpLow := rfl
@[simp] theorem Hub.countMod_dpHigh (h : Hub) (f : Fld) (k i w : Nat) : (h.countMod f k i w).dpHigh = h.dpHigh := rfl
@[simp] theorem Hub.countMod_lsy (h : Hub) (f : Fld) (k i w : Nat) : (h.countMod f k i w).lsy = h.lsy := rfl
@[simp] theorem Hub.countMod_wds (h : Hub) (f : Fld) (k i w : Nat) : (h.countMod f k i w).wds = h.wds := rfl
@[simp] theorem Hub.countMod_wdo (h : Hub) (f : Fld) (k i w : Nat) : (h.countMod f k i w).wdo = h.wdo := rfl
@[simp] theorem Hub.countMod_bst (h : Hub) (f : Fld) (k i w : Nat) : (h.countMod f k i w).bst = h.bst := rfl
@[simp] theorem Hub.countMod_life (h : Hub) (f : Fld) (k i w : Nat) : (h.countMod f k i w).life = h.life := rfl
@[simp] theorem Hub.countMod_blk (h : Hub) (f : Fld) (k i w : Nat) : (h.countMod f k i w).blk = h.blk := rfl
@[simp] theorem Hub.countMod_nvm (h : Hub) (f : Fld) (k i w : Nat) : (h.countMod f k i w).nvm = h.nvm := rfl
@[simp] theorem Hub.countMod_nvmOp (h : Hub) (f : Fld) (k i w : Nat) : (h.countMod f k i w).nvmOp = h.nvmOp := rfl
@[simp] theorem Hub.countMod_nvmQ (h : Hub) (f : Fld) (k i w : Nat) : (h.countMod f k i w).nvmQ = h.nvmQ := rfl
@[simp] theorem Hub.countMod_fieldReset (h : Hub) (f : Fld) (k i w : Nat) : (h.countMod f k i w).fieldReset = h.fieldReset := rfl
@[simp] theorem Hub.countMod_fol (h : Hub) (f : Fld) (k i w : Nat) : (h.countMod f k i w).fol = h.fol := rfl
@[simp] theorem Hub.countMod_fieldSince (h : Hub) (f : Fld) (k i w : Nat) : (h.countMod f k i w).fieldSince = h.fieldSince := rfl
@[simp] theorem Hub.countMod_free (h : Hub) (f : Fld) (k i w : Nat) : (h.countMod f k i w).free = h.free := rfl

/-! ### `Hub.modOut` -/

@[simp] theorem Hub.modOut_chip (h : Hub) (c : Nat) (g : OutCh → OutCh) : (h.modOut c g).chip = h.chip := rfl
@[simp] theorem Hub.modOut_regs (h : Hub) (c : Nat) (g : OutCh → OutCh) : (h.modOut c g).regs = h.regs := rfl
@[simp] theorem Hub.modOut_armed (h : Hub) (c : Nat) (g : OutCh → OutCh) : (h.modOut c g).armed = h.armed := rfl
@[simp] theorem Hub.modOut_kept (h : Hub) (c : Nat) (g : OutCh → OutCh) : (h.modOut c g).kept = h.kept := rfl
@[simp] theorem Hub.modOut_dev (h : Hub) (c : Nat) (g : OutCh → OutCh) : (h.modOut c g).dev = h.dev := rfl
@[simp] theorem Hub.modOut_sup (h : Hub) (c : Nat) (g : OutCh → OutCh) : (h.modOut c g).sup = h.sup := rfl
@[simp] theorem Hub.modOut_ret (h : Hub) (c : Nat) (g : OutCh → OutCh) : (h.modOut c g).ret = h.ret := rfl
@[simp] theorem Hub.modOut_clk (h : Hub) (c : Nat) (g : OutCh → OutCh) : (h.modOut c g).clk = h.clk := rfl
@[simp] theorem Hub.modOut_hinge (h : Hub) (c : Nat) (g : OutCh → OutCh) : (h.modOut c g).hinge = h.hinge := rfl
@[simp] theorem Hub.modOut_ins (h : Hub) (c : Nat) (g : OutCh → OutCh) : (h.modOut c g).ins = h.ins := rfl
@[simp] theorem Hub.modOut_dbt (h : Hub) (c : Nat) (g : OutCh → OutCh) : (h.modOut c g).dbt = h.dbt := rfl
@[simp] theorem Hub.modOut_tmbs (h : Hub) (c : Nat) (g : OutCh → OutCh) : (h.modOut c g).tmbs = h.tmbs := rfl
@[simp] theorem Hub.modOut_aux (h : Hub) (c : Nat) (g : OutCh → OutCh) : (h.modOut c g).aux = h.aux := rfl
@[simp] theorem Hub.modOut_sch (h : Hub) (c : Nat) (g : OutCh → OutCh) : (h.modOut c g).sch = h.sch := rfl
@[simp] theorem Hub.modOut_recd (h : Hub) (c : Nat) (g : OutCh → OutCh) : (h.modOut c g).recd = h.recd := rfl
@[simp] theorem Hub.modOut_flt (h : Hub) (c : Nat) (g : OutCh → OutCh) : (h.modOut c g).flt = h.flt := rfl
@[simp] theorem Hub.modOut_ints (h : Hub) (c : Nat) (g : OutCh → OutCh) : (h.modOut c g).ints = h.ints := rfl
@[simp] theorem Hub.modOut_pins (h : Hub) (c : Nat) (g : OutCh → OutCh) : (h.modOut c g).pins = h.pins := rfl
@[simp] theorem Hub.modOut_ports (h : Hub) (c : Nat) (g : OutCh → OutCh) : (h.modOut c g).ports = h.ports := rfl
@[simp] theorem Hub.modOut_eng (h : Hub) (c : Nat) (g : OutCh → OutCh) : (h.modOut c g).eng = h.eng := rfl
@[simp] theorem Hub.modOut_banks (h : Hub) (c : Nat) (g : OutCh → OutCh) : (h.modOut c g).banks = h.banks := rfl
@[simp] theorem Hub.modOut_mem (h : Hub) (c : Nat) (g : OutCh → OutCh) : (h.modOut c g).mem = h.mem := rfl
@[simp] theorem Hub.modOut_bad (h : Hub) (c : Nat) (g : OutCh → OutCh) : (h.modOut c g).bad = h.bad := rfl
@[simp] theorem Hub.modOut_dpLow (h : Hub) (c : Nat) (g : OutCh → OutCh) : (h.modOut c g).dpLow = h.dpLow := rfl
@[simp] theorem Hub.modOut_dpHigh (h : Hub) (c : Nat) (g : OutCh → OutCh) : (h.modOut c g).dpHigh = h.dpHigh := rfl
@[simp] theorem Hub.modOut_lsy (h : Hub) (c : Nat) (g : OutCh → OutCh) : (h.modOut c g).lsy = h.lsy := rfl
@[simp] theorem Hub.modOut_wds (h : Hub) (c : Nat) (g : OutCh → OutCh) : (h.modOut c g).wds = h.wds := rfl
@[simp] theorem Hub.modOut_wdo (h : Hub) (c : Nat) (g : OutCh → OutCh) : (h.modOut c g).wdo = h.wdo := rfl
@[simp] theorem Hub.modOut_bst (h : Hub) (c : Nat) (g : OutCh → OutCh) : (h.modOut c g).bst = h.bst := rfl
@[simp] theorem Hub.modOut_life (h : Hub) (c : Nat) (g : OutCh → OutCh) : (h.modOut c g).life = h.life := rfl
@[simp] theorem Hub.modOut_blk (h : Hub) (c : Nat) (g : OutCh → OutCh) : (h.modOut c g).blk = h.blk := rfl
@[simp] theorem Hub.modOut_nvm (h : Hub) (c : Nat) (g : OutCh → OutCh) : (h.modOut c g).nvm = h.nvm := rfl
@[simp] theorem Hub.modOut_nvmOp (h : Hub) (c : Nat) (g : OutCh → OutCh) : (h.modOut c g).nvmOp = h.nvmOp := rfl
@[simp] theorem Hub.modOut_nvmQ (h : Hub) (c : Nat) (g : OutCh → OutCh) : (h.modOut c g).nvmQ = h.nvmQ := rfl
@[simp] theorem Hub.modOut_fieldReset (h : Hub) (c : Nat) (g : OutCh → OutCh) : (h.modOut c g).fieldReset = h.fieldReset := rfl
@[simp] theorem Hub.modOut_fol (h : Hub) (c : Nat) (g : OutCh → OutCh) : (h.modOut c g).fol = h.fol := rfl
@[simp] theorem Hub.modOut_fieldSince (h : Hub) (c : Nat) (g : OutCh → OutCh) : (h.modOut c g).fieldSince = h.fieldSince := rfl
@[simp] theorem Hub.modOut_free (h : Hub) (c : Nat) (g : OutCh → OutCh) : (h.modOut c g).free = h.free := rfl
@[simp] theorem Hub.rd_modOut (h : Hub) (c : Nat) (g : OutCh → OutCh) (e : Fld) (j u : Nat) : (h.modOut c g).rd e j u = h.rd e j u := rfl
@[simp] theorem Hub.flag_modOut (h : Hub) (c : Nat) (g : OutCh → OutCh) (e : Fld) (j u : Nat) : (h.modOut c g).flag e j u = h.flag e j u := rfl

/-! ### `Hub.modIn` -/

@[simp] theorem Hub.modIn_chip (h : Hub) (c : Nat) (g : InCh → InCh) : (h.modIn c g).chip = h.chip := rfl
@[simp] theorem Hub.modIn_regs (h : Hub) (c : Nat) (g : InCh → InCh) : (h.modIn c g).regs = h.regs := rfl
@[simp] theorem Hub.modIn_armed (h : Hub) (c : Nat) (g : InCh → InCh) : (h.modIn c g).armed = h.armed := rfl
@[simp] theorem Hub.modIn_kept (h : Hub) (c : Nat) (g : InCh → InCh) : (h.modIn c g).kept = h.kept := rfl
@[simp] theorem Hub.modIn_dev (h : Hub) (c : Nat) (g : InCh → InCh) : (h.modIn c g).dev = h.dev := rfl
@[simp] theorem Hub.modIn_sup (h : Hub) (c : Nat) (g : InCh → InCh) : (h.modIn c g).sup = h.sup := rfl
@[simp] theorem Hub.modIn_ret (h : Hub) (c : Nat) (g : InCh → InCh) : (h.modIn c g).ret = h.ret := rfl
@[simp] theorem Hub.modIn_clk (h : Hub) (c : Nat) (g : InCh → InCh) : (h.modIn c g).clk = h.clk := rfl
@[simp] theorem Hub.modIn_hinge (h : Hub) (c : Nat) (g : InCh → InCh) : (h.modIn c g).hinge = h.hinge := rfl
@[simp] theorem Hub.modIn_outs (h : Hub) (c : Nat) (g : InCh → InCh) : (h.modIn c g).outs = h.outs := rfl
@[simp] theorem Hub.modIn_dbt (h : Hub) (c : Nat) (g : InCh → InCh) : (h.modIn c g).dbt = h.dbt := rfl
@[simp] theorem Hub.modIn_tmbs (h : Hub) (c : Nat) (g : InCh → InCh) : (h.modIn c g).tmbs = h.tmbs := rfl
@[simp] theorem Hub.modIn_aux (h : Hub) (c : Nat) (g : InCh → InCh) : (h.modIn c g).aux = h.aux := rfl
@[simp] theorem Hub.modIn_sch (h : Hub) (c : Nat) (g : InCh → InCh) : (h.modIn c g).sch = h.sch := rfl
@[simp] theorem Hub.modIn_recd (h : Hub) (c : Nat) (g : InCh → InCh) : (h.modIn c g).recd = h.recd := rfl
@[simp] theorem Hub.modIn_flt (h : Hub) (c : Nat) (g : InCh → InCh) : (h.modIn c g).flt = h.flt := rfl
@[simp] theorem Hub.modIn_ints (h : Hub) (c : Nat) (g : InCh → InCh) : (h.modIn c g).ints = h.ints := rfl
@[simp] theorem Hub.modIn_pins (h : Hub) (c : Nat) (g : InCh → InCh) : (h.modIn c g).pins = h.pins := rfl
@[simp] theorem Hub.modIn_ports (h : Hub) (c : Nat) (g : InCh → InCh) : (h.modIn c g).ports = h.ports := rfl
@[simp] theorem Hub.modIn_eng (h : Hub) (c : Nat) (g : InCh → InCh) : (h.modIn c g).eng = h.eng := rfl
@[simp] theorem Hub.modIn_banks (h : Hub) (c : Nat) (g : InCh → InCh) : (h.modIn c g).banks = h.banks := rfl
@[simp] theorem Hub.modIn_mem (h : Hub) (c : Nat) (g : InCh → InCh) : (h.modIn c g).mem = h.mem := rfl
@[simp] theorem Hub.modIn_bad (h : Hub) (c : Nat) (g : InCh → InCh) : (h.modIn c g).bad = h.bad := rfl
@[simp] theorem Hub.modIn_dpLow (h : Hub) (c : Nat) (g : InCh → InCh) : (h.modIn c g).dpLow = h.dpLow := rfl
@[simp] theorem Hub.modIn_dpHigh (h : Hub) (c : Nat) (g : InCh → InCh) : (h.modIn c g).dpHigh = h.dpHigh := rfl
@[simp] theorem Hub.modIn_lsy (h : Hub) (c : Nat) (g : InCh → InCh) : (h.modIn c g).lsy = h.lsy := rfl
@[simp] theorem Hub.modIn_wds (h : Hub) (c : Nat) (g : InCh → InCh) : (h.modIn c g).wds = h.wds := rfl
@[simp] theorem Hub.modIn_wdo (h : Hub) (c : Nat) (g : InCh → InCh) : (h.modIn c g).wdo = h.wdo := rfl
@[simp] theorem Hub.modIn_bst (h : Hub) (c : Nat) (g : InCh → InCh) : (h.modIn c g).bst = h.bst := rfl
@[simp] theorem Hub.modIn_life (h : Hub) (c : Nat) (g : InCh → InCh) : (h.modIn c g).life = h.life := rfl
@[simp] theorem Hub.modIn_blk (h : Hub) (c : Nat) (g : InCh → InCh) : (h.modIn c g).blk = h.blk := rfl
@[simp] theorem Hub.modIn_nvm (h : Hub) (c : Nat) (g : InCh → InCh) : (h.modIn c g).nvm = h.nvm := rfl
@[simp] theorem Hub.modIn_nvmOp (h : Hub) (c : Nat) (g : InCh → InCh) : (h.modIn c g).nvmOp = h.nvmOp := rfl
@[simp] theorem Hub.modIn_nvmQ (h : Hub) (c : Nat) (g : InCh → InCh) : (h.modIn c g).nvmQ = h.nvmQ := rfl
@[simp] theorem Hub.modIn_fieldReset (h : Hub) (c : Nat) (g : InCh → InCh) : (h.modIn c g).fieldReset = h.fieldReset := rfl
@[simp] theorem Hub.modIn_fol (h : Hub) (c : Nat) (g : InCh → InCh) : (h.modIn c g).fol = h.fol := rfl
@[simp] theorem Hub.modIn_fieldSince (h : Hub) (c : Nat) (g : InCh → InCh) : (h.modIn c g).fieldSince = h.fieldSince := rfl
@[simp] theorem Hub.modIn_free (h : Hub) (c : Nat) (g : InCh → InCh) : (h.modIn c g).free = h.free := rfl
@[simp] theorem Hub.rd_modIn (h : Hub) (c : Nat) (g : InCh → InCh) (e : Fld) (j u : Nat) : (h.modIn c g).rd e j u = h.rd e j u := rfl
@[simp] theorem Hub.flag_modIn (h : Hub) (c : Nat) (g : InCh → InCh) (e : Fld) (j u : Nat) : (h.modIn c g).flag e j u = h.flag e j u := rfl

/-! ### `Hub.modTmb` -/

@[simp] theorem Hub.modTmb_chip (h : Hub) (t : Nat) (g : Tmb → Tmb) : (h.modTmb t g).chip = h.chip := rfl
@[simp] theorem Hub.modTmb_regs (h : Hub) (t : Nat) (g : Tmb → Tmb) : (h.modTmb t g).regs = h.regs := rfl
@[simp] theorem Hub.modTmb_armed (h : Hub) (t : Nat) (g : Tmb → Tmb) : (h.modTmb t g).armed = h.armed := rfl
@[simp] theorem Hub.modTmb_kept (h : Hub) (t : Nat) (g : Tmb → Tmb) : (h.modTmb t g).kept = h.kept := rfl
@[simp] theorem Hub.modTmb_dev (h : Hub) (t : Nat) (g : Tmb → Tmb) : (h.modTmb t g).dev = h.dev := rfl
@[simp] theorem Hub.modTmb_sup (h : Hub) (t : Nat) (g : Tmb → Tmb) : (h.modTmb t g).sup = h.sup := rfl
@[simp] theorem Hub.modTmb_ret (h : Hub) (t : Nat) (g : Tmb → Tmb) : (h.modTmb t g).ret = h.ret := rfl
@[simp] theorem Hub.modTmb_clk (h : Hub) (t : Nat) (g : Tmb → Tmb) : (h.modTmb t g).clk = h.clk := rfl
@[simp] theorem Hub.modTmb_hinge (h : Hub) (t : Nat) (g : Tmb → Tmb) : (h.modTmb t g).hinge = h.hinge := rfl
@[simp] theorem Hub.modTmb_outs (h : Hub) (t : Nat) (g : Tmb → Tmb) : (h.modTmb t g).outs = h.outs := rfl
@[simp] theorem Hub.modTmb_ins (h : Hub) (t : Nat) (g : Tmb → Tmb) : (h.modTmb t g).ins = h.ins := rfl
@[simp] theorem Hub.modTmb_dbt (h : Hub) (t : Nat) (g : Tmb → Tmb) : (h.modTmb t g).dbt = h.dbt := rfl
@[simp] theorem Hub.modTmb_aux (h : Hub) (t : Nat) (g : Tmb → Tmb) : (h.modTmb t g).aux = h.aux := rfl
@[simp] theorem Hub.modTmb_sch (h : Hub) (t : Nat) (g : Tmb → Tmb) : (h.modTmb t g).sch = h.sch := rfl
@[simp] theorem Hub.modTmb_recd (h : Hub) (t : Nat) (g : Tmb → Tmb) : (h.modTmb t g).recd = h.recd := rfl
@[simp] theorem Hub.modTmb_flt (h : Hub) (t : Nat) (g : Tmb → Tmb) : (h.modTmb t g).flt = h.flt := rfl
@[simp] theorem Hub.modTmb_ints (h : Hub) (t : Nat) (g : Tmb → Tmb) : (h.modTmb t g).ints = h.ints := rfl
@[simp] theorem Hub.modTmb_pins (h : Hub) (t : Nat) (g : Tmb → Tmb) : (h.modTmb t g).pins = h.pins := rfl
@[simp] theorem Hub.modTmb_ports (h : Hub) (t : Nat) (g : Tmb → Tmb) : (h.modTmb t g).ports = h.ports := rfl
@[simp] theorem Hub.modTmb_eng (h : Hub) (t : Nat) (g : Tmb → Tmb) : (h.modTmb t g).eng = h.eng := rfl
@[simp] theorem Hub.modTmb_banks (h : Hub) (t : Nat) (g : Tmb → Tmb) : (h.modTmb t g).banks = h.banks := rfl
@[simp] theorem Hub.modTmb_mem (h : Hub) (t : Nat) (g : Tmb → Tmb) : (h.modTmb t g).mem = h.mem := rfl
@[simp] theorem Hub.modTmb_bad (h : Hub) (t : Nat) (g : Tmb → Tmb) : (h.modTmb t g).bad = h.bad := rfl
@[simp] theorem Hub.modTmb_dpLow (h : Hub) (t : Nat) (g : Tmb → Tmb) : (h.modTmb t g).dpLow = h.dpLow := rfl
@[simp] theorem Hub.modTmb_dpHigh (h : Hub) (t : Nat) (g : Tmb → Tmb) : (h.modTmb t g).dpHigh = h.dpHigh := rfl
@[simp] theorem Hub.modTmb_lsy (h : Hub) (t : Nat) (g : Tmb → Tmb) : (h.modTmb t g).lsy = h.lsy := rfl
@[simp] theorem Hub.modTmb_wds (h : Hub) (t : Nat) (g : Tmb → Tmb) : (h.modTmb t g).wds = h.wds := rfl
@[simp] theorem Hub.modTmb_wdo (h : Hub) (t : Nat) (g : Tmb → Tmb) : (h.modTmb t g).wdo = h.wdo := rfl
@[simp] theorem Hub.modTmb_bst (h : Hub) (t : Nat) (g : Tmb → Tmb) : (h.modTmb t g).bst = h.bst := rfl
@[simp] theorem Hub.modTmb_life (h : Hub) (t : Nat) (g : Tmb → Tmb) : (h.modTmb t g).life = h.life := rfl
@[simp] theorem Hub.modTmb_blk (h : Hub) (t : Nat) (g : Tmb → Tmb) : (h.modTmb t g).blk = h.blk := rfl
@[simp] theorem Hub.modTmb_nvm (h : Hub) (t : Nat) (g : Tmb → Tmb) : (h.modTmb t g).nvm = h.nvm := rfl
@[simp] theorem Hub.modTmb_nvmOp (h : Hub) (t : Nat) (g : Tmb → Tmb) : (h.modTmb t g).nvmOp = h.nvmOp := rfl
@[simp] theorem Hub.modTmb_nvmQ (h : Hub) (t : Nat) (g : Tmb → Tmb) : (h.modTmb t g).nvmQ = h.nvmQ := rfl
@[simp] theorem Hub.modTmb_fieldReset (h : Hub) (t : Nat) (g : Tmb → Tmb) : (h.modTmb t g).fieldReset = h.fieldReset := rfl
@[simp] theorem Hub.modTmb_fol (h : Hub) (t : Nat) (g : Tmb → Tmb) : (h.modTmb t g).fol = h.fol := rfl
@[simp] theorem Hub.modTmb_fieldSince (h : Hub) (t : Nat) (g : Tmb → Tmb) : (h.modTmb t g).fieldSince = h.fieldSince := rfl
@[simp] theorem Hub.modTmb_free (h : Hub) (t : Nat) (g : Tmb → Tmb) : (h.modTmb t g).free = h.free := rfl
@[simp] theorem Hub.rd_modTmb (h : Hub) (t : Nat) (g : Tmb → Tmb) (e : Fld) (j u : Nat) : (h.modTmb t g).rd e j u = h.rd e j u := rfl
@[simp] theorem Hub.flag_modTmb (h : Hub) (t : Nat) (g : Tmb → Tmb) (e : Fld) (j u : Nat) : (h.modTmb t g).flag e j u = h.flag e j u := rfl

/-! ### `Hub.modLane` -/

@[simp] theorem Hub.modLane_chip (h : Hub) (l : Nat) (g : LaneSt → LaneSt) : (h.modLane l g).chip = h.chip := rfl
@[simp] theorem Hub.modLane_regs (h : Hub) (l : Nat) (g : LaneSt → LaneSt) : (h.modLane l g).regs = h.regs := rfl
@[simp] theorem Hub.modLane_armed (h : Hub) (l : Nat) (g : LaneSt → LaneSt) : (h.modLane l g).armed = h.armed := rfl
@[simp] theorem Hub.modLane_kept (h : Hub) (l : Nat) (g : LaneSt → LaneSt) : (h.modLane l g).kept = h.kept := rfl
@[simp] theorem Hub.modLane_dev (h : Hub) (l : Nat) (g : LaneSt → LaneSt) : (h.modLane l g).dev = h.dev := rfl
@[simp] theorem Hub.modLane_sup (h : Hub) (l : Nat) (g : LaneSt → LaneSt) : (h.modLane l g).sup = h.sup := rfl
@[simp] theorem Hub.modLane_ret (h : Hub) (l : Nat) (g : LaneSt → LaneSt) : (h.modLane l g).ret = h.ret := rfl
@[simp] theorem Hub.modLane_clk (h : Hub) (l : Nat) (g : LaneSt → LaneSt) : (h.modLane l g).clk = h.clk := rfl
@[simp] theorem Hub.modLane_outs (h : Hub) (l : Nat) (g : LaneSt → LaneSt) : (h.modLane l g).outs = h.outs := rfl
@[simp] theorem Hub.modLane_ins (h : Hub) (l : Nat) (g : LaneSt → LaneSt) : (h.modLane l g).ins = h.ins := rfl
@[simp] theorem Hub.modLane_dbt (h : Hub) (l : Nat) (g : LaneSt → LaneSt) : (h.modLane l g).dbt = h.dbt := rfl
@[simp] theorem Hub.modLane_tmbs (h : Hub) (l : Nat) (g : LaneSt → LaneSt) : (h.modLane l g).tmbs = h.tmbs := rfl
@[simp] theorem Hub.modLane_aux (h : Hub) (l : Nat) (g : LaneSt → LaneSt) : (h.modLane l g).aux = h.aux := rfl
@[simp] theorem Hub.modLane_sch (h : Hub) (l : Nat) (g : LaneSt → LaneSt) : (h.modLane l g).sch = h.sch := rfl
@[simp] theorem Hub.modLane_recd (h : Hub) (l : Nat) (g : LaneSt → LaneSt) : (h.modLane l g).recd = h.recd := rfl
@[simp] theorem Hub.modLane_flt (h : Hub) (l : Nat) (g : LaneSt → LaneSt) : (h.modLane l g).flt = h.flt := rfl
@[simp] theorem Hub.modLane_ints (h : Hub) (l : Nat) (g : LaneSt → LaneSt) : (h.modLane l g).ints = h.ints := rfl
@[simp] theorem Hub.modLane_pins (h : Hub) (l : Nat) (g : LaneSt → LaneSt) : (h.modLane l g).pins = h.pins := rfl
@[simp] theorem Hub.modLane_ports (h : Hub) (l : Nat) (g : LaneSt → LaneSt) : (h.modLane l g).ports = h.ports := rfl
@[simp] theorem Hub.modLane_eng (h : Hub) (l : Nat) (g : LaneSt → LaneSt) : (h.modLane l g).eng = h.eng := rfl
@[simp] theorem Hub.modLane_banks (h : Hub) (l : Nat) (g : LaneSt → LaneSt) : (h.modLane l g).banks = h.banks := rfl
@[simp] theorem Hub.modLane_mem (h : Hub) (l : Nat) (g : LaneSt → LaneSt) : (h.modLane l g).mem = h.mem := rfl
@[simp] theorem Hub.modLane_bad (h : Hub) (l : Nat) (g : LaneSt → LaneSt) : (h.modLane l g).bad = h.bad := rfl
@[simp] theorem Hub.modLane_dpLow (h : Hub) (l : Nat) (g : LaneSt → LaneSt) : (h.modLane l g).dpLow = h.dpLow := rfl
@[simp] theorem Hub.modLane_dpHigh (h : Hub) (l : Nat) (g : LaneSt → LaneSt) : (h.modLane l g).dpHigh = h.dpHigh := rfl
@[simp] theorem Hub.modLane_lsy (h : Hub) (l : Nat) (g : LaneSt → LaneSt) : (h.modLane l g).lsy = h.lsy := rfl
@[simp] theorem Hub.modLane_wds (h : Hub) (l : Nat) (g : LaneSt → LaneSt) : (h.modLane l g).wds = h.wds := rfl
@[simp] theorem Hub.modLane_wdo (h : Hub) (l : Nat) (g : LaneSt → LaneSt) : (h.modLane l g).wdo = h.wdo := rfl
@[simp] theorem Hub.modLane_bst (h : Hub) (l : Nat) (g : LaneSt → LaneSt) : (h.modLane l g).bst = h.bst := rfl
@[simp] theorem Hub.modLane_life (h : Hub) (l : Nat) (g : LaneSt → LaneSt) : (h.modLane l g).life = h.life := rfl
@[simp] theorem Hub.modLane_blk (h : Hub) (l : Nat) (g : LaneSt → LaneSt) : (h.modLane l g).blk = h.blk := rfl
@[simp] theorem Hub.modLane_nvm (h : Hub) (l : Nat) (g : LaneSt → LaneSt) : (h.modLane l g).nvm = h.nvm := rfl
@[simp] theorem Hub.modLane_nvmOp (h : Hub) (l : Nat) (g : LaneSt → LaneSt) : (h.modLane l g).nvmOp = h.nvmOp := rfl
@[simp] theorem Hub.modLane_nvmQ (h : Hub) (l : Nat) (g : LaneSt → LaneSt) : (h.modLane l g).nvmQ = h.nvmQ := rfl
@[simp] theorem Hub.modLane_fieldReset (h : Hub) (l : Nat) (g : LaneSt → LaneSt) : (h.modLane l g).fieldReset = h.fieldReset := rfl
@[simp] theorem Hub.modLane_fol (h : Hub) (l : Nat) (g : LaneSt → LaneSt) : (h.modLane l g).fol = h.fol := rfl
@[simp] theorem Hub.modLane_fieldSince (h : Hub) (l : Nat) (g : LaneSt → LaneSt) : (h.modLane l g).fieldSince = h.fieldSince := rfl
@[simp] theorem Hub.modLane_free (h : Hub) (l : Nat) (g : LaneSt → LaneSt) : (h.modLane l g).free = h.free := rfl
@[simp] theorem Hub.rd_modLane (h : Hub) (l : Nat) (g : LaneSt → LaneSt) (e : Fld) (j u : Nat) : (h.modLane l g).rd e j u = h.rd e j u := rfl
@[simp] theorem Hub.flag_modLane (h : Hub) (l : Nat) (g : LaneSt → LaneSt) (e : Fld) (j u : Nat) : (h.modLane l g).flag e j u = h.flag e j u := rfl

/-! ### `Hub.setWard` -/

@[simp] theorem Hub.setWard_chip (h : Hub) (w : Nat) (x : WardState) : (h.setWard w x).chip = h.chip := rfl
@[simp] theorem Hub.setWard_regs (h : Hub) (w : Nat) (x : WardState) : (h.setWard w x).regs = h.regs := rfl
@[simp] theorem Hub.setWard_armed (h : Hub) (w : Nat) (x : WardState) : (h.setWard w x).armed = h.armed := rfl
@[simp] theorem Hub.setWard_kept (h : Hub) (w : Nat) (x : WardState) : (h.setWard w x).kept = h.kept := rfl
@[simp] theorem Hub.setWard_sup (h : Hub) (w : Nat) (x : WardState) : (h.setWard w x).sup = h.sup := rfl
@[simp] theorem Hub.setWard_ret (h : Hub) (w : Nat) (x : WardState) : (h.setWard w x).ret = h.ret := rfl
@[simp] theorem Hub.setWard_clk (h : Hub) (w : Nat) (x : WardState) : (h.setWard w x).clk = h.clk := rfl
@[simp] theorem Hub.setWard_hinge (h : Hub) (w : Nat) (x : WardState) : (h.setWard w x).hinge = h.hinge := rfl
@[simp] theorem Hub.setWard_outs (h : Hub) (w : Nat) (x : WardState) : (h.setWard w x).outs = h.outs := rfl
@[simp] theorem Hub.setWard_ins (h : Hub) (w : Nat) (x : WardState) : (h.setWard w x).ins = h.ins := rfl
@[simp] theorem Hub.setWard_dbt (h : Hub) (w : Nat) (x : WardState) : (h.setWard w x).dbt = h.dbt := rfl
@[simp] theorem Hub.setWard_tmbs (h : Hub) (w : Nat) (x : WardState) : (h.setWard w x).tmbs = h.tmbs := rfl
@[simp] theorem Hub.setWard_aux (h : Hub) (w : Nat) (x : WardState) : (h.setWard w x).aux = h.aux := rfl
@[simp] theorem Hub.setWard_sch (h : Hub) (w : Nat) (x : WardState) : (h.setWard w x).sch = h.sch := rfl
@[simp] theorem Hub.setWard_recd (h : Hub) (w : Nat) (x : WardState) : (h.setWard w x).recd = h.recd := rfl
@[simp] theorem Hub.setWard_flt (h : Hub) (w : Nat) (x : WardState) : (h.setWard w x).flt = h.flt := rfl
@[simp] theorem Hub.setWard_ints (h : Hub) (w : Nat) (x : WardState) : (h.setWard w x).ints = h.ints := rfl
@[simp] theorem Hub.setWard_pins (h : Hub) (w : Nat) (x : WardState) : (h.setWard w x).pins = h.pins := rfl
@[simp] theorem Hub.setWard_ports (h : Hub) (w : Nat) (x : WardState) : (h.setWard w x).ports = h.ports := rfl
@[simp] theorem Hub.setWard_eng (h : Hub) (w : Nat) (x : WardState) : (h.setWard w x).eng = h.eng := rfl
@[simp] theorem Hub.setWard_banks (h : Hub) (w : Nat) (x : WardState) : (h.setWard w x).banks = h.banks := rfl
@[simp] theorem Hub.setWard_mem (h : Hub) (w : Nat) (x : WardState) : (h.setWard w x).mem = h.mem := rfl
@[simp] theorem Hub.setWard_bad (h : Hub) (w : Nat) (x : WardState) : (h.setWard w x).bad = h.bad := rfl
@[simp] theorem Hub.setWard_dpLow (h : Hub) (w : Nat) (x : WardState) : (h.setWard w x).dpLow = h.dpLow := rfl
@[simp] theorem Hub.setWard_dpHigh (h : Hub) (w : Nat) (x : WardState) : (h.setWard w x).dpHigh = h.dpHigh := rfl
@[simp] theorem Hub.setWard_lsy (h : Hub) (w : Nat) (x : WardState) : (h.setWard w x).lsy = h.lsy := rfl
@[simp] theorem Hub.setWard_wds (h : Hub) (w : Nat) (x : WardState) : (h.setWard w x).wds = h.wds := rfl
@[simp] theorem Hub.setWard_wdo (h : Hub) (w : Nat) (x : WardState) : (h.setWard w x).wdo = h.wdo := rfl
@[simp] theorem Hub.setWard_bst (h : Hub) (w : Nat) (x : WardState) : (h.setWard w x).bst = h.bst := rfl
@[simp] theorem Hub.setWard_life (h : Hub) (w : Nat) (x : WardState) : (h.setWard w x).life = h.life := rfl
@[simp] theorem Hub.setWard_blk (h : Hub) (w : Nat) (x : WardState) : (h.setWard w x).blk = h.blk := rfl
@[simp] theorem Hub.setWard_nvm (h : Hub) (w : Nat) (x : WardState) : (h.setWard w x).nvm = h.nvm := rfl
@[simp] theorem Hub.setWard_nvmOp (h : Hub) (w : Nat) (x : WardState) : (h.setWard w x).nvmOp = h.nvmOp := rfl
@[simp] theorem Hub.setWard_nvmQ (h : Hub) (w : Nat) (x : WardState) : (h.setWard w x).nvmQ = h.nvmQ := rfl
@[simp] theorem Hub.setWard_fieldReset (h : Hub) (w : Nat) (x : WardState) : (h.setWard w x).fieldReset = h.fieldReset := rfl
@[simp] theorem Hub.setWard_fol (h : Hub) (w : Nat) (x : WardState) : (h.setWard w x).fol = h.fol := rfl
@[simp] theorem Hub.setWard_fieldSince (h : Hub) (w : Nat) (x : WardState) : (h.setWard w x).fieldSince = h.fieldSince := rfl
@[simp] theorem Hub.setWard_free (h : Hub) (w : Nat) (x : WardState) : (h.setWard w x).free = h.free := rfl
@[simp] theorem Hub.rd_setWard (h : Hub) (w : Nat) (x : WardState) (e : Fld) (j u : Nat) : (h.setWard w x).rd e j u = h.rd e j u := rfl
@[simp] theorem Hub.flag_setWard (h : Hub) (w : Nat) (x : WardState) (e : Fld) (j u : Nat) : (h.setWard w x).flag e j u = h.flag e j u := rfl

/-! ### `Hub.modPort` -/

@[simp] theorem Hub.modPort_chip (h : Hub) (p : Nat) (g : Port → Port) : (h.modPort p g).chip = h.chip := rfl
@[simp] theorem Hub.modPort_regs (h : Hub) (p : Nat) (g : Port → Port) : (h.modPort p g).regs = h.regs := rfl
@[simp] theorem Hub.modPort_armed (h : Hub) (p : Nat) (g : Port → Port) : (h.modPort p g).armed = h.armed := rfl
@[simp] theorem Hub.modPort_kept (h : Hub) (p : Nat) (g : Port → Port) : (h.modPort p g).kept = h.kept := rfl
@[simp] theorem Hub.modPort_dev (h : Hub) (p : Nat) (g : Port → Port) : (h.modPort p g).dev = h.dev := rfl
@[simp] theorem Hub.modPort_sup (h : Hub) (p : Nat) (g : Port → Port) : (h.modPort p g).sup = h.sup := rfl
@[simp] theorem Hub.modPort_ret (h : Hub) (p : Nat) (g : Port → Port) : (h.modPort p g).ret = h.ret := rfl
@[simp] theorem Hub.modPort_clk (h : Hub) (p : Nat) (g : Port → Port) : (h.modPort p g).clk = h.clk := rfl
@[simp] theorem Hub.modPort_hinge (h : Hub) (p : Nat) (g : Port → Port) : (h.modPort p g).hinge = h.hinge := rfl
@[simp] theorem Hub.modPort_outs (h : Hub) (p : Nat) (g : Port → Port) : (h.modPort p g).outs = h.outs := rfl
@[simp] theorem Hub.modPort_ins (h : Hub) (p : Nat) (g : Port → Port) : (h.modPort p g).ins = h.ins := rfl
@[simp] theorem Hub.modPort_dbt (h : Hub) (p : Nat) (g : Port → Port) : (h.modPort p g).dbt = h.dbt := rfl
@[simp] theorem Hub.modPort_tmbs (h : Hub) (p : Nat) (g : Port → Port) : (h.modPort p g).tmbs = h.tmbs := rfl
@[simp] theorem Hub.modPort_aux (h : Hub) (p : Nat) (g : Port → Port) : (h.modPort p g).aux = h.aux := rfl
@[simp] theorem Hub.modPort_sch (h : Hub) (p : Nat) (g : Port → Port) : (h.modPort p g).sch = h.sch := rfl
@[simp] theorem Hub.modPort_recd (h : Hub) (p : Nat) (g : Port → Port) : (h.modPort p g).recd = h.recd := rfl
@[simp] theorem Hub.modPort_flt (h : Hub) (p : Nat) (g : Port → Port) : (h.modPort p g).flt = h.flt := rfl
@[simp] theorem Hub.modPort_ints (h : Hub) (p : Nat) (g : Port → Port) : (h.modPort p g).ints = h.ints := rfl
@[simp] theorem Hub.modPort_pins (h : Hub) (p : Nat) (g : Port → Port) : (h.modPort p g).pins = h.pins := rfl
@[simp] theorem Hub.modPort_eng (h : Hub) (p : Nat) (g : Port → Port) : (h.modPort p g).eng = h.eng := rfl
@[simp] theorem Hub.modPort_banks (h : Hub) (p : Nat) (g : Port → Port) : (h.modPort p g).banks = h.banks := rfl
@[simp] theorem Hub.modPort_mem (h : Hub) (p : Nat) (g : Port → Port) : (h.modPort p g).mem = h.mem := rfl
@[simp] theorem Hub.modPort_bad (h : Hub) (p : Nat) (g : Port → Port) : (h.modPort p g).bad = h.bad := rfl
@[simp] theorem Hub.modPort_dpLow (h : Hub) (p : Nat) (g : Port → Port) : (h.modPort p g).dpLow = h.dpLow := rfl
@[simp] theorem Hub.modPort_dpHigh (h : Hub) (p : Nat) (g : Port → Port) : (h.modPort p g).dpHigh = h.dpHigh := rfl
@[simp] theorem Hub.modPort_lsy (h : Hub) (p : Nat) (g : Port → Port) : (h.modPort p g).lsy = h.lsy := rfl
@[simp] theorem Hub.modPort_wds (h : Hub) (p : Nat) (g : Port → Port) : (h.modPort p g).wds = h.wds := rfl
@[simp] theorem Hub.modPort_wdo (h : Hub) (p : Nat) (g : Port → Port) : (h.modPort p g).wdo = h.wdo := rfl
@[simp] theorem Hub.modPort_bst (h : Hub) (p : Nat) (g : Port → Port) : (h.modPort p g).bst = h.bst := rfl
@[simp] theorem Hub.modPort_life (h : Hub) (p : Nat) (g : Port → Port) : (h.modPort p g).life = h.life := rfl
@[simp] theorem Hub.modPort_blk (h : Hub) (p : Nat) (g : Port → Port) : (h.modPort p g).blk = h.blk := rfl
@[simp] theorem Hub.modPort_nvm (h : Hub) (p : Nat) (g : Port → Port) : (h.modPort p g).nvm = h.nvm := rfl
@[simp] theorem Hub.modPort_nvmOp (h : Hub) (p : Nat) (g : Port → Port) : (h.modPort p g).nvmOp = h.nvmOp := rfl
@[simp] theorem Hub.modPort_nvmQ (h : Hub) (p : Nat) (g : Port → Port) : (h.modPort p g).nvmQ = h.nvmQ := rfl
@[simp] theorem Hub.modPort_fieldReset (h : Hub) (p : Nat) (g : Port → Port) : (h.modPort p g).fieldReset = h.fieldReset := rfl
@[simp] theorem Hub.modPort_fol (h : Hub) (p : Nat) (g : Port → Port) : (h.modPort p g).fol = h.fol := rfl
@[simp] theorem Hub.modPort_fieldSince (h : Hub) (p : Nat) (g : Port → Port) : (h.modPort p g).fieldSince = h.fieldSince := rfl
@[simp] theorem Hub.modPort_free (h : Hub) (p : Nat) (g : Port → Port) : (h.modPort p g).free = h.free := rfl
@[simp] theorem Hub.rd_modPort (h : Hub) (p : Nat) (g : Port → Port) (e : Fld) (j u : Nat) : (h.modPort p g).rd e j u = h.rd e j u := rfl
@[simp] theorem Hub.flag_modPort (h : Hub) (p : Nat) (g : Port → Port) (e : Fld) (j u : Nat) : (h.modPort p g).flag e j u = h.flag e j u := rfl

/-! ### `Hub.modBank` -/

@[simp] theorem Hub.modBank_chip (h : Hub) (b : Nat) (g : Bank → Bank) : (h.modBank b g).chip = h.chip := rfl
@[simp] theorem Hub.modBank_regs (h : Hub) (b : Nat) (g : Bank → Bank) : (h.modBank b g).regs = h.regs := rfl
@[simp] theorem Hub.modBank_armed (h : Hub) (b : Nat) (g : Bank → Bank) : (h.modBank b g).armed = h.armed := rfl
@[simp] theorem Hub.modBank_kept (h : Hub) (b : Nat) (g : Bank → Bank) : (h.modBank b g).kept = h.kept := rfl
@[simp] theorem Hub.modBank_dev (h : Hub) (b : Nat) (g : Bank → Bank) : (h.modBank b g).dev = h.dev := rfl
@[simp] theorem Hub.modBank_sup (h : Hub) (b : Nat) (g : Bank → Bank) : (h.modBank b g).sup = h.sup := rfl
@[simp] theorem Hub.modBank_ret (h : Hub) (b : Nat) (g : Bank → Bank) : (h.modBank b g).ret = h.ret := rfl
@[simp] theorem Hub.modBank_clk (h : Hub) (b : Nat) (g : Bank → Bank) : (h.modBank b g).clk = h.clk := rfl
@[simp] theorem Hub.modBank_hinge (h : Hub) (b : Nat) (g : Bank → Bank) : (h.modBank b g).hinge = h.hinge := rfl
@[simp] theorem Hub.modBank_outs (h : Hub) (b : Nat) (g : Bank → Bank) : (h.modBank b g).outs = h.outs := rfl
@[simp] theorem Hub.modBank_ins (h : Hub) (b : Nat) (g : Bank → Bank) : (h.modBank b g).ins = h.ins := rfl
@[simp] theorem Hub.modBank_dbt (h : Hub) (b : Nat) (g : Bank → Bank) : (h.modBank b g).dbt = h.dbt := rfl
@[simp] theorem Hub.modBank_tmbs (h : Hub) (b : Nat) (g : Bank → Bank) : (h.modBank b g).tmbs = h.tmbs := rfl
@[simp] theorem Hub.modBank_aux (h : Hub) (b : Nat) (g : Bank → Bank) : (h.modBank b g).aux = h.aux := rfl
@[simp] theorem Hub.modBank_sch (h : Hub) (b : Nat) (g : Bank → Bank) : (h.modBank b g).sch = h.sch := rfl
@[simp] theorem Hub.modBank_recd (h : Hub) (b : Nat) (g : Bank → Bank) : (h.modBank b g).recd = h.recd := rfl
@[simp] theorem Hub.modBank_flt (h : Hub) (b : Nat) (g : Bank → Bank) : (h.modBank b g).flt = h.flt := rfl
@[simp] theorem Hub.modBank_ints (h : Hub) (b : Nat) (g : Bank → Bank) : (h.modBank b g).ints = h.ints := rfl
@[simp] theorem Hub.modBank_pins (h : Hub) (b : Nat) (g : Bank → Bank) : (h.modBank b g).pins = h.pins := rfl
@[simp] theorem Hub.modBank_ports (h : Hub) (b : Nat) (g : Bank → Bank) : (h.modBank b g).ports = h.ports := rfl
@[simp] theorem Hub.modBank_eng (h : Hub) (b : Nat) (g : Bank → Bank) : (h.modBank b g).eng = h.eng := rfl
@[simp] theorem Hub.modBank_mem (h : Hub) (b : Nat) (g : Bank → Bank) : (h.modBank b g).mem = h.mem := rfl
@[simp] theorem Hub.modBank_bad (h : Hub) (b : Nat) (g : Bank → Bank) : (h.modBank b g).bad = h.bad := rfl
@[simp] theorem Hub.modBank_dpLow (h : Hub) (b : Nat) (g : Bank → Bank) : (h.modBank b g).dpLow = h.dpLow := rfl
@[simp] theorem Hub.modBank_dpHigh (h : Hub) (b : Nat) (g : Bank → Bank) : (h.modBank b g).dpHigh = h.dpHigh := rfl
@[simp] theorem Hub.modBank_lsy (h : Hub) (b : Nat) (g : Bank → Bank) : (h.modBank b g).lsy = h.lsy := rfl
@[simp] theorem Hub.modBank_wds (h : Hub) (b : Nat) (g : Bank → Bank) : (h.modBank b g).wds = h.wds := rfl
@[simp] theorem Hub.modBank_wdo (h : Hub) (b : Nat) (g : Bank → Bank) : (h.modBank b g).wdo = h.wdo := rfl
@[simp] theorem Hub.modBank_bst (h : Hub) (b : Nat) (g : Bank → Bank) : (h.modBank b g).bst = h.bst := rfl
@[simp] theorem Hub.modBank_life (h : Hub) (b : Nat) (g : Bank → Bank) : (h.modBank b g).life = h.life := rfl
@[simp] theorem Hub.modBank_blk (h : Hub) (b : Nat) (g : Bank → Bank) : (h.modBank b g).blk = h.blk := rfl
@[simp] theorem Hub.modBank_nvm (h : Hub) (b : Nat) (g : Bank → Bank) : (h.modBank b g).nvm = h.nvm := rfl
@[simp] theorem Hub.modBank_nvmOp (h : Hub) (b : Nat) (g : Bank → Bank) : (h.modBank b g).nvmOp = h.nvmOp := rfl
@[simp] theorem Hub.modBank_nvmQ (h : Hub) (b : Nat) (g : Bank → Bank) : (h.modBank b g).nvmQ = h.nvmQ := rfl
@[simp] theorem Hub.modBank_fieldReset (h : Hub) (b : Nat) (g : Bank → Bank) : (h.modBank b g).fieldReset = h.fieldReset := rfl
@[simp] theorem Hub.modBank_fol (h : Hub) (b : Nat) (g : Bank → Bank) : (h.modBank b g).fol = h.fol := rfl
@[simp] theorem Hub.modBank_fieldSince (h : Hub) (b : Nat) (g : Bank → Bank) : (h.modBank b g).fieldSince = h.fieldSince := rfl
@[simp] theorem Hub.modBank_free (h : Hub) (b : Nat) (g : Bank → Bank) : (h.modBank b g).free = h.free := rfl
@[simp] theorem Hub.rd_modBank (h : Hub) (b : Nat) (g : Bank → Bank) (e : Fld) (j u : Nat) : (h.modBank b g).rd e j u = h.rd e j u := rfl
@[simp] theorem Hub.flag_modBank (h : Hub) (b : Nat) (g : Bank → Bank) (e : Fld) (j u : Nat) : (h.modBank b g).flag e j u = h.flag e j u := rfl

/-! ### `Hub.modWd` -/

@[simp] theorem Hub.modWd_chip (h : Hub) (k : Nat) (g : Wd → Wd) : (h.modWd k g).chip = h.chip := rfl
@[simp] theorem Hub.modWd_regs (h : Hub) (k : Nat) (g : Wd → Wd) : (h.modWd k g).regs = h.regs := rfl
@[simp] theorem Hub.modWd_armed (h : Hub) (k : Nat) (g : Wd → Wd) : (h.modWd k g).armed = h.armed := rfl
@[simp] theorem Hub.modWd_kept (h : Hub) (k : Nat) (g : Wd → Wd) : (h.modWd k g).kept = h.kept := rfl
@[simp] theorem Hub.modWd_dev (h : Hub) (k : Nat) (g : Wd → Wd) : (h.modWd k g).dev = h.dev := rfl
@[simp] theorem Hub.modWd_sup (h : Hub) (k : Nat) (g : Wd → Wd) : (h.modWd k g).sup = h.sup := rfl
@[simp] theorem Hub.modWd_ret (h : Hub) (k : Nat) (g : Wd → Wd) : (h.modWd k g).ret = h.ret := rfl
@[simp] theorem Hub.modWd_clk (h : Hub) (k : Nat) (g : Wd → Wd) : (h.modWd k g).clk = h.clk := rfl
@[simp] theorem Hub.modWd_hinge (h : Hub) (k : Nat) (g : Wd → Wd) : (h.modWd k g).hinge = h.hinge := rfl
@[simp] theorem Hub.modWd_outs (h : Hub) (k : Nat) (g : Wd → Wd) : (h.modWd k g).outs = h.outs := rfl
@[simp] theorem Hub.modWd_ins (h : Hub) (k : Nat) (g : Wd → Wd) : (h.modWd k g).ins = h.ins := rfl
@[simp] theorem Hub.modWd_dbt (h : Hub) (k : Nat) (g : Wd → Wd) : (h.modWd k g).dbt = h.dbt := rfl
@[simp] theorem Hub.modWd_tmbs (h : Hub) (k : Nat) (g : Wd → Wd) : (h.modWd k g).tmbs = h.tmbs := rfl
@[simp] theorem Hub.modWd_aux (h : Hub) (k : Nat) (g : Wd → Wd) : (h.modWd k g).aux = h.aux := rfl
@[simp] theorem Hub.modWd_sch (h : Hub) (k : Nat) (g : Wd → Wd) : (h.modWd k g).sch = h.sch := rfl
@[simp] theorem Hub.modWd_recd (h : Hub) (k : Nat) (g : Wd → Wd) : (h.modWd k g).recd = h.recd := rfl
@[simp] theorem Hub.modWd_flt (h : Hub) (k : Nat) (g : Wd → Wd) : (h.modWd k g).flt = h.flt := rfl
@[simp] theorem Hub.modWd_ints (h : Hub) (k : Nat) (g : Wd → Wd) : (h.modWd k g).ints = h.ints := rfl
@[simp] theorem Hub.modWd_pins (h : Hub) (k : Nat) (g : Wd → Wd) : (h.modWd k g).pins = h.pins := rfl
@[simp] theorem Hub.modWd_ports (h : Hub) (k : Nat) (g : Wd → Wd) : (h.modWd k g).ports = h.ports := rfl
@[simp] theorem Hub.modWd_eng (h : Hub) (k : Nat) (g : Wd → Wd) : (h.modWd k g).eng = h.eng := rfl
@[simp] theorem Hub.modWd_banks (h : Hub) (k : Nat) (g : Wd → Wd) : (h.modWd k g).banks = h.banks := rfl
@[simp] theorem Hub.modWd_mem (h : Hub) (k : Nat) (g : Wd → Wd) : (h.modWd k g).mem = h.mem := rfl
@[simp] theorem Hub.modWd_bad (h : Hub) (k : Nat) (g : Wd → Wd) : (h.modWd k g).bad = h.bad := rfl
@[simp] theorem Hub.modWd_dpLow (h : Hub) (k : Nat) (g : Wd → Wd) : (h.modWd k g).dpLow = h.dpLow := rfl
@[simp] theorem Hub.modWd_dpHigh (h : Hub) (k : Nat) (g : Wd → Wd) : (h.modWd k g).dpHigh = h.dpHigh := rfl
@[simp] theorem Hub.modWd_lsy (h : Hub) (k : Nat) (g : Wd → Wd) : (h.modWd k g).lsy = h.lsy := rfl
@[simp] theorem Hub.modWd_wdo (h : Hub) (k : Nat) (g : Wd → Wd) : (h.modWd k g).wdo = h.wdo := rfl
@[simp] theorem Hub.modWd_bst (h : Hub) (k : Nat) (g : Wd → Wd) : (h.modWd k g).bst = h.bst := rfl
@[simp] theorem Hub.modWd_life (h : Hub) (k : Nat) (g : Wd → Wd) : (h.modWd k g).life = h.life := rfl
@[simp] theorem Hub.modWd_blk (h : Hub) (k : Nat) (g : Wd → Wd) : (h.modWd k g).blk = h.blk := rfl
@[simp] theorem Hub.modWd_nvm (h : Hub) (k : Nat) (g : Wd → Wd) : (h.modWd k g).nvm = h.nvm := rfl
@[simp] theorem Hub.modWd_nvmOp (h : Hub) (k : Nat) (g : Wd → Wd) : (h.modWd k g).nvmOp = h.nvmOp := rfl
@[simp] theorem Hub.modWd_nvmQ (h : Hub) (k : Nat) (g : Wd → Wd) : (h.modWd k g).nvmQ = h.nvmQ := rfl
@[simp] theorem Hub.modWd_fieldReset (h : Hub) (k : Nat) (g : Wd → Wd) : (h.modWd k g).fieldReset = h.fieldReset := rfl
@[simp] theorem Hub.modWd_fol (h : Hub) (k : Nat) (g : Wd → Wd) : (h.modWd k g).fol = h.fol := rfl
@[simp] theorem Hub.modWd_fieldSince (h : Hub) (k : Nat) (g : Wd → Wd) : (h.modWd k g).fieldSince = h.fieldSince := rfl
@[simp] theorem Hub.modWd_free (h : Hub) (k : Nat) (g : Wd → Wd) : (h.modWd k g).free = h.free := rfl
@[simp] theorem Hub.rd_modWd (h : Hub) (k : Nat) (g : Wd → Wd) (e : Fld) (j u : Nat) : (h.modWd k g).rd e j u = h.rd e j u := rfl
@[simp] theorem Hub.flag_modWd (h : Hub) (k : Nat) (g : Wd → Wd) (e : Fld) (j u : Nat) : (h.modWd k g).flag e j u = h.flag e j u := rfl

/-! ### `Hub.modInt` -/

@[simp] theorem Hub.modInt_chip (h : Hub) (w : Nat) (g : WardInt → WardInt) : (h.modInt w g).chip = h.chip := rfl
@[simp] theorem Hub.modInt_regs (h : Hub) (w : Nat) (g : WardInt → WardInt) : (h.modInt w g).regs = h.regs := rfl
@[simp] theorem Hub.modInt_armed (h : Hub) (w : Nat) (g : WardInt → WardInt) : (h.modInt w g).armed = h.armed := rfl
@[simp] theorem Hub.modInt_kept (h : Hub) (w : Nat) (g : WardInt → WardInt) : (h.modInt w g).kept = h.kept := rfl
@[simp] theorem Hub.modInt_dev (h : Hub) (w : Nat) (g : WardInt → WardInt) : (h.modInt w g).dev = h.dev := rfl
@[simp] theorem Hub.modInt_sup (h : Hub) (w : Nat) (g : WardInt → WardInt) : (h.modInt w g).sup = h.sup := rfl
@[simp] theorem Hub.modInt_ret (h : Hub) (w : Nat) (g : WardInt → WardInt) : (h.modInt w g).ret = h.ret := rfl
@[simp] theorem Hub.modInt_clk (h : Hub) (w : Nat) (g : WardInt → WardInt) : (h.modInt w g).clk = h.clk := rfl
@[simp] theorem Hub.modInt_hinge (h : Hub) (w : Nat) (g : WardInt → WardInt) : (h.modInt w g).hinge = h.hinge := rfl
@[simp] theorem Hub.modInt_outs (h : Hub) (w : Nat) (g : WardInt → WardInt) : (h.modInt w g).outs = h.outs := rfl
@[simp] theorem Hub.modInt_ins (h : Hub) (w : Nat) (g : WardInt → WardInt) : (h.modInt w g).ins = h.ins := rfl
@[simp] theorem Hub.modInt_dbt (h : Hub) (w : Nat) (g : WardInt → WardInt) : (h.modInt w g).dbt = h.dbt := rfl
@[simp] theorem Hub.modInt_tmbs (h : Hub) (w : Nat) (g : WardInt → WardInt) : (h.modInt w g).tmbs = h.tmbs := rfl
@[simp] theorem Hub.modInt_aux (h : Hub) (w : Nat) (g : WardInt → WardInt) : (h.modInt w g).aux = h.aux := rfl
@[simp] theorem Hub.modInt_sch (h : Hub) (w : Nat) (g : WardInt → WardInt) : (h.modInt w g).sch = h.sch := rfl
@[simp] theorem Hub.modInt_recd (h : Hub) (w : Nat) (g : WardInt → WardInt) : (h.modInt w g).recd = h.recd := rfl
@[simp] theorem Hub.modInt_flt (h : Hub) (w : Nat) (g : WardInt → WardInt) : (h.modInt w g).flt = h.flt := rfl
@[simp] theorem Hub.modInt_pins (h : Hub) (w : Nat) (g : WardInt → WardInt) : (h.modInt w g).pins = h.pins := rfl
@[simp] theorem Hub.modInt_ports (h : Hub) (w : Nat) (g : WardInt → WardInt) : (h.modInt w g).ports = h.ports := rfl
@[simp] theorem Hub.modInt_eng (h : Hub) (w : Nat) (g : WardInt → WardInt) : (h.modInt w g).eng = h.eng := rfl
@[simp] theorem Hub.modInt_banks (h : Hub) (w : Nat) (g : WardInt → WardInt) : (h.modInt w g).banks = h.banks := rfl
@[simp] theorem Hub.modInt_mem (h : Hub) (w : Nat) (g : WardInt → WardInt) : (h.modInt w g).mem = h.mem := rfl
@[simp] theorem Hub.modInt_bad (h : Hub) (w : Nat) (g : WardInt → WardInt) : (h.modInt w g).bad = h.bad := rfl
@[simp] theorem Hub.modInt_dpLow (h : Hub) (w : Nat) (g : WardInt → WardInt) : (h.modInt w g).dpLow = h.dpLow := rfl
@[simp] theorem Hub.modInt_dpHigh (h : Hub) (w : Nat) (g : WardInt → WardInt) : (h.modInt w g).dpHigh = h.dpHigh := rfl
@[simp] theorem Hub.modInt_lsy (h : Hub) (w : Nat) (g : WardInt → WardInt) : (h.modInt w g).lsy = h.lsy := rfl
@[simp] theorem Hub.modInt_wds (h : Hub) (w : Nat) (g : WardInt → WardInt) : (h.modInt w g).wds = h.wds := rfl
@[simp] theorem Hub.modInt_wdo (h : Hub) (w : Nat) (g : WardInt → WardInt) : (h.modInt w g).wdo = h.wdo := rfl
@[simp] theorem Hub.modInt_bst (h : Hub) (w : Nat) (g : WardInt → WardInt) : (h.modInt w g).bst = h.bst := rfl
@[simp] theorem Hub.modInt_life (h : Hub) (w : Nat) (g : WardInt → WardInt) : (h.modInt w g).life = h.life := rfl
@[simp] theorem Hub.modInt_blk (h : Hub) (w : Nat) (g : WardInt → WardInt) : (h.modInt w g).blk = h.blk := rfl
@[simp] theorem Hub.modInt_nvm (h : Hub) (w : Nat) (g : WardInt → WardInt) : (h.modInt w g).nvm = h.nvm := rfl
@[simp] theorem Hub.modInt_nvmOp (h : Hub) (w : Nat) (g : WardInt → WardInt) : (h.modInt w g).nvmOp = h.nvmOp := rfl
@[simp] theorem Hub.modInt_nvmQ (h : Hub) (w : Nat) (g : WardInt → WardInt) : (h.modInt w g).nvmQ = h.nvmQ := rfl
@[simp] theorem Hub.modInt_fieldReset (h : Hub) (w : Nat) (g : WardInt → WardInt) : (h.modInt w g).fieldReset = h.fieldReset := rfl
@[simp] theorem Hub.modInt_fol (h : Hub) (w : Nat) (g : WardInt → WardInt) : (h.modInt w g).fol = h.fol := rfl
@[simp] theorem Hub.modInt_fieldSince (h : Hub) (w : Nat) (g : WardInt → WardInt) : (h.modInt w g).fieldSince = h.fieldSince := rfl
@[simp] theorem Hub.modInt_free (h : Hub) (w : Nat) (g : WardInt → WardInt) : (h.modInt w g).free = h.free := rfl
@[simp] theorem Hub.rd_modInt (h : Hub) (w : Nat) (g : WardInt → WardInt) (e : Fld) (j u : Nat) : (h.modInt w g).rd e j u = h.rd e j u := rfl
@[simp] theorem Hub.flag_modInt (h : Hub) (w : Nat) (g : WardInt → WardInt) (e : Fld) (j u : Nat) : (h.modInt w g).flag e j u = h.flag e j u := rfl

/-! ### `Hub.modPin` -/

@[simp] theorem Hub.modPin_chip (h : Hub) (p : Nat) (g : PinPulse → PinPulse) : (h.modPin p g).chip = h.chip := rfl
@[simp] theorem Hub.modPin_regs (h : Hub) (p : Nat) (g : PinPulse → PinPulse) : (h.modPin p g).regs = h.regs := rfl
@[simp] theorem Hub.modPin_armed (h : Hub) (p : Nat) (g : PinPulse → PinPulse) : (h.modPin p g).armed = h.armed := rfl
@[simp] theorem Hub.modPin_kept (h : Hub) (p : Nat) (g : PinPulse → PinPulse) : (h.modPin p g).kept = h.kept := rfl
@[simp] theorem Hub.modPin_dev (h : Hub) (p : Nat) (g : PinPulse → PinPulse) : (h.modPin p g).dev = h.dev := rfl
@[simp] theorem Hub.modPin_sup (h : Hub) (p : Nat) (g : PinPulse → PinPulse) : (h.modPin p g).sup = h.sup := rfl
@[simp] theorem Hub.modPin_ret (h : Hub) (p : Nat) (g : PinPulse → PinPulse) : (h.modPin p g).ret = h.ret := rfl
@[simp] theorem Hub.modPin_clk (h : Hub) (p : Nat) (g : PinPulse → PinPulse) : (h.modPin p g).clk = h.clk := rfl
@[simp] theorem Hub.modPin_hinge (h : Hub) (p : Nat) (g : PinPulse → PinPulse) : (h.modPin p g).hinge = h.hinge := rfl
@[simp] theorem Hub.modPin_outs (h : Hub) (p : Nat) (g : PinPulse → PinPulse) : (h.modPin p g).outs = h.outs := rfl
@[simp] theorem Hub.modPin_ins (h : Hub) (p : Nat) (g : PinPulse → PinPulse) : (h.modPin p g).ins = h.ins := rfl
@[simp] theorem Hub.modPin_dbt (h : Hub) (p : Nat) (g : PinPulse → PinPulse) : (h.modPin p g).dbt = h.dbt := rfl
@[simp] theorem Hub.modPin_tmbs (h : Hub) (p : Nat) (g : PinPulse → PinPulse) : (h.modPin p g).tmbs = h.tmbs := rfl
@[simp] theorem Hub.modPin_aux (h : Hub) (p : Nat) (g : PinPulse → PinPulse) : (h.modPin p g).aux = h.aux := rfl
@[simp] theorem Hub.modPin_sch (h : Hub) (p : Nat) (g : PinPulse → PinPulse) : (h.modPin p g).sch = h.sch := rfl
@[simp] theorem Hub.modPin_recd (h : Hub) (p : Nat) (g : PinPulse → PinPulse) : (h.modPin p g).recd = h.recd := rfl
@[simp] theorem Hub.modPin_flt (h : Hub) (p : Nat) (g : PinPulse → PinPulse) : (h.modPin p g).flt = h.flt := rfl
@[simp] theorem Hub.modPin_ints (h : Hub) (p : Nat) (g : PinPulse → PinPulse) : (h.modPin p g).ints = h.ints := rfl
@[simp] theorem Hub.modPin_ports (h : Hub) (p : Nat) (g : PinPulse → PinPulse) : (h.modPin p g).ports = h.ports := rfl
@[simp] theorem Hub.modPin_eng (h : Hub) (p : Nat) (g : PinPulse → PinPulse) : (h.modPin p g).eng = h.eng := rfl
@[simp] theorem Hub.modPin_banks (h : Hub) (p : Nat) (g : PinPulse → PinPulse) : (h.modPin p g).banks = h.banks := rfl
@[simp] theorem Hub.modPin_mem (h : Hub) (p : Nat) (g : PinPulse → PinPulse) : (h.modPin p g).mem = h.mem := rfl
@[simp] theorem Hub.modPin_bad (h : Hub) (p : Nat) (g : PinPulse → PinPulse) : (h.modPin p g).bad = h.bad := rfl
@[simp] theorem Hub.modPin_dpLow (h : Hub) (p : Nat) (g : PinPulse → PinPulse) : (h.modPin p g).dpLow = h.dpLow := rfl
@[simp] theorem Hub.modPin_dpHigh (h : Hub) (p : Nat) (g : PinPulse → PinPulse) : (h.modPin p g).dpHigh = h.dpHigh := rfl
@[simp] theorem Hub.modPin_lsy (h : Hub) (p : Nat) (g : PinPulse → PinPulse) : (h.modPin p g).lsy = h.lsy := rfl
@[simp] theorem Hub.modPin_wds (h : Hub) (p : Nat) (g : PinPulse → PinPulse) : (h.modPin p g).wds = h.wds := rfl
@[simp] theorem Hub.modPin_wdo (h : Hub) (p : Nat) (g : PinPulse → PinPulse) : (h.modPin p g).wdo = h.wdo := rfl
@[simp] theorem Hub.modPin_bst (h : Hub) (p : Nat) (g : PinPulse → PinPulse) : (h.modPin p g).bst = h.bst := rfl
@[simp] theorem Hub.modPin_life (h : Hub) (p : Nat) (g : PinPulse → PinPulse) : (h.modPin p g).life = h.life := rfl
@[simp] theorem Hub.modPin_blk (h : Hub) (p : Nat) (g : PinPulse → PinPulse) : (h.modPin p g).blk = h.blk := rfl
@[simp] theorem Hub.modPin_nvm (h : Hub) (p : Nat) (g : PinPulse → PinPulse) : (h.modPin p g).nvm = h.nvm := rfl
@[simp] theorem Hub.modPin_nvmOp (h : Hub) (p : Nat) (g : PinPulse → PinPulse) : (h.modPin p g).nvmOp = h.nvmOp := rfl
@[simp] theorem Hub.modPin_nvmQ (h : Hub) (p : Nat) (g : PinPulse → PinPulse) : (h.modPin p g).nvmQ = h.nvmQ := rfl
@[simp] theorem Hub.modPin_fieldReset (h : Hub) (p : Nat) (g : PinPulse → PinPulse) : (h.modPin p g).fieldReset = h.fieldReset := rfl
@[simp] theorem Hub.modPin_fol (h : Hub) (p : Nat) (g : PinPulse → PinPulse) : (h.modPin p g).fol = h.fol := rfl
@[simp] theorem Hub.modPin_fieldSince (h : Hub) (p : Nat) (g : PinPulse → PinPulse) : (h.modPin p g).fieldSince = h.fieldSince := rfl
@[simp] theorem Hub.modPin_free (h : Hub) (p : Nat) (g : PinPulse → PinPulse) : (h.modPin p g).free = h.free := rfl
@[simp] theorem Hub.rd_modPin (h : Hub) (p : Nat) (g : PinPulse → PinPulse) (e : Fld) (j u : Nat) : (h.modPin p g).rd e j u = h.rd e j u := rfl
@[simp] theorem Hub.flag_modPin (h : Hub) (p : Nat) (g : PinPulse → PinPulse) (e : Fld) (j u : Nat) : (h.modPin p g).flag e j u = h.flag e j u := rfl

/-! ### Vectors -/

/-- An element in range reads as it was set. -/
@[simp] theorem vget_vset_self {α : Type} {n : Nat} (v : Vector α n) (i : Nat) (x d : α) (hi : i < n) : vget (vset v i x) i d = x := by
  simp [vget, vset, hi]

/-- Another element reads as before. -/
theorem vget_vset_ne {α : Type} {n : Nat} {v : Vector α n} {i j : Nat} {x d : α} (hj : j ≠ i) : vget (vset v i x) j d = vget v j d := by
  simp [vget, vset, Ne.symm hj]

/-- An output channel of the hub reads as it was changed. -/
@[simp] theorem Hub.out_modOut_self (h : Hub) (c : Nat) (g : OutCh → OutCh) (hc : c < 16) : (h.modOut c g).out c = g (h.out c) := by
  simp [Hub.out, Hub.modOut, hc]

/-- Another output channel reads as before. -/
theorem Hub.out_modOut_ne {h : Hub} {c d : Nat} {g : OutCh → OutCh} (hd : d ≠ c) : (h.modOut c g).out d = h.out d := vget_vset_ne hd

/-- An input channel of the hub reads as it was changed. -/
@[simp] theorem Hub.inp_modIn_self (h : Hub) (c : Nat) (g : InCh → InCh) (hc : c < 16) : (h.modIn c g).inp c = g (h.inp c) := by
  simp [Hub.inp, Hub.modIn, hc]

/-- Another input channel reads as before. -/
theorem Hub.inp_modIn_ne {h : Hub} {c d : Nat} {g : InCh → InCh} (hd : d ≠ c) : (h.modIn c g).inp d = h.inp d := vget_vset_ne hd

/-- A tumbler of the hub reads as it was changed. -/
@[simp] theorem Hub.tmb_modTmb_self (h : Hub) (t : Nat) (g : Tmb → Tmb) (ht : t < 8) : (h.modTmb t g).tmb t = g (h.tmb t) := by
  simp [Hub.tmb, Hub.modTmb, ht]

/-- A lane of the hub reads as it was changed. -/
@[simp] theorem Hub.lane_modLane_self (h : Hub) (l : Nat) (g : LaneSt → LaneSt) (hl : l < 4) : (h.modLane l g).lane l = g (h.lane l) := by
  simp [Hub.lane, Hub.modLane, hl]

/-- A ward reads the state it was set to. -/
@[simp] theorem Hub.ward_setWard_self (h : Hub) (w : Nat) (x : WardState) (hw : w < 8) : (h.setWard w x).ward w = x := by
  simp [Hub.ward, Hub.setWard, hw]

/-- Another ward keeps its state. -/
theorem Hub.ward_setWard_ne {h : Hub} {w u : Nat} {x : WardState} (hu : u ≠ w) : (h.setWard w x).ward u = h.ward u := vget_vset_ne hu

/-- A port of the hub reads as it was changed. -/
@[simp] theorem Hub.port_modPort_self (h : Hub) (p : Nat) (g : Port → Port) (hp : p < 3) : (h.modPort p g).port p = g (h.port p) := by
  simp [Hub.port, Hub.modPort, hp]

/-- A bank of the hub reads as it was changed. -/
@[simp] theorem Hub.bank_modBank_self (h : Hub) (b : Nat) (g : Bank → Bank) (hb : b < 48) : (h.modBank b g).bank b = g (h.bank b) := by
  simp [Hub.bank, Hub.modBank, hb]

/-- A watchdog of the hub reads as it was changed. -/
@[simp] theorem Hub.wd_modWd_self (h : Hub) (k : Nat) (g : Wd → Wd) (hk : k < 9) : (h.modWd k g).wd k = g (h.wd k) := by
  simp [Hub.wd, Hub.modWd, hk]

/-- The interrupt state of a ward reads as it was changed. -/
@[simp] theorem Hub.wint_modInt_self (h : Hub) (w : Nat) (g : WardInt → WardInt) (hw : w < 8) : (h.modInt w g).wint w = g (h.wint w) := by
  simp [Hub.wint, Hub.modInt, hw]

/-- An interrupt pin of the hub reads as it was changed. -/
@[simp] theorem Hub.pin_modPin_self (h : Hub) (p : Nat) (g : PinPulse → PinPulse) (hp : p < 4) : (h.modPin p g).pin p = g (h.pin p) := by
  simp [Hub.pin, Hub.modPin, hp]

end Sys2Proof.Machine
end

