-- ==== Sys2Proof/Laws/Settle.lean ====
section
/-!
SUPPORT. What follows by itself after a command (`settle`): which state it can reach and which it never does.
-/

namespace Sys2Proof.Machine



/-- A hub that differs from another at most in `rest`'s left-out parts and in the registers that `p` names. -/
structure Near (p : Nat → Bool) (h k : Hub) : Prop where
  rest : k.rest = h.rest
  regs : ∀ key, p (keyAddr key) = false → fileGet k.regs key = fileGet h.regs key

/-- The same, with what DB's drive reaches unchanged too. -/
structure Close (h k : Hub) : Prop where
  near : Near signalAddr h k
  driven : k.driven = h.driven

theorem Near.refl (p : Nat → Bool) (h : Hub) : Near p h h := ⟨rfl, fun _ _ => rfl⟩

theorem Near.trans {p : Nat → Bool} {a b c : Hub} (x : Near p a b) (y : Near p b c) : Near p a c :=
  ⟨y.rest.trans x.rest, fun k hk => (y.regs k hk).trans (x.regs k hk)⟩

theorem Near.mono {p q : Nat → Bool} (hpq : ∀ a, q a = false → p a = false) {a b : Hub} (x : Near p a b) : Near q a b :=
  ⟨x.rest, fun k hk => x.regs k (hpq _ hk)⟩

theorem Close.refl (h : Hub) : Close h h := ⟨Near.refl _ h, rfl⟩

theorem Close.trans {a b c : Hub} (x : Close a b) (y : Close b c) : Close a c :=
  ⟨x.near.trans y.near, y.driven.trans x.driven⟩

theorem Near.ite {p : Nat → Bool} {h a b : Hub} {q : Prop} [Decidable q] (x : Near p h a) (y : Near p h b) :
    Near p h (if q then a else b) := by
  split
  · exact x
  · exact y

theorem Close.ite {h a b : Hub} {q : Prop} [Decidable q] (x : Close h a) (y : Close h b) : Close h (if q then a else b) := by
  split
  · exact x
  · exact y

/-- A fold of steps that each stay near stays near. -/
theorem Near.forAll {p : Nat → Bool} {f : Hub → Nat → Hub} {l : List Nat} (hf : ∀ h, ∀ c ∈ l, Near p h (f h c)) (h : Hub) :
    Near p h (forAll l f h) := by
  induction l generalizing h with
  | nil => exact Near.refl p h
  | cons c rest ih =>
    exact (hf h c (by simp)).trans (ih (fun h d hd => hf h d (by simp [hd])) (f h c))

theorem Close.forAll {f : Hub → Nat → Hub} {l : List Nat} (hf : ∀ h, ∀ c ∈ l, Close h (f h c)) (h : Hub) : Close h (forAll l f h) := by
  induction l generalizing h with
  | nil => exact Close.refl h
  | cons c rest ih =>
    exact (hf h c (by simp)).trans (ih (fun h d hd => hf h d (by simp [hd])) (f h c))

/-- A register write at a named address stays near. -/
theorem Near.wr {p : Nat → Bool} (h : Hub) (f : Fld) (v i w : Nat) (hp : p (keyAddr (fldKey f i w)) = true) : Near p h (h.wr f v i w) :=
  ⟨rfl, fun key hk => fileGet_fileSet_ne (fun he => by rw [he, hp] at hk; exact Bool.noConfusion hk)⟩

theorem Close.wr (h : Hub) (f : Fld) (v i w : Nat) (hp : signalAddr (keyAddr (fldKey f i w)) = true) : Close h (h.wr f v i w) :=
  ⟨Near.wr h f v i w hp, rfl⟩

/-- INT_STAT and INT_CNT of a ward lie in the INT_ block; FLT_ERR.falls in FLT_ERR. -/
theorem signal_intStat {w : Nat} (hw : w < 8) : signalAddr (keyAddr (fldKey INT_STAT_stat w 0)) = true := by
  interval_cases w <;> decide

theorem signal_intCnt {w : Nat} (hw : w < 8) : signalAddr (keyAddr (fldKey INT_CNT_count w 0)) = true := by
  interval_cases w <;> decide

/-- An interrupt request, and its release, change the request's state and the interrupt registers alone. -/
theorem Close.modInt (h : Hub) (w : Nat) (g : WardInt → WardInt) : Close h (h.modInt w g) := ⟨⟨rfl, fun _ _ => rfl⟩, rfl⟩
theorem Close.modPin (h : Hub) (p : Nat) (g : PinPulse → PinPulse) : Close h (h.modPin p g) := ⟨⟨rfl, fun _ _ => rfl⟩, rfl⟩

theorem intRelease_close (h : Hub) {w : Nat} (hw : w < 8) : Close h (h.intRelease w) := by
  have h1 : Close h ((h.modInt w (fun i => { i with released := true, held := false, last := some h.clk.tb, ticks := h.modFigure w })).countMod INT_CNT_count 1 w) :=
    (Close.modInt h w _).trans (Close.wr _ _ _ _ _ (signal_intCnt hw))
  unfold Hub.intRelease
  simp only
  split
  · exact h1
  · exact h1.trans (Close.modPin _ _ _)

theorem intFire_close (h : Hub) {w : Nat} (hw : w < 8) (was : Bool) : Close h (h.intFire w was) := by
  unfold Hub.intFire
  split
  · exact Close.refl h
  · split
    · exact Close.refl h
    · exact Close.ite (intRelease_close h hw) (Close.modInt h w _)

/-- An interrupt event of a ward changes the interrupt state alone. -/
theorem intEvent_close (h : Hub) {w : Nat} (hw : w < 8) (bit : Nat) : Close h (h.intEvent w bit) := by
  unfold Hub.intEvent
  split
  · simp only
    split
    · exact (Close.wr h INT_STAT_stat _ w 0 (signal_intStat hw)).trans (intFire_close _ hw _)
    · exact Close.wr h INT_STAT_stat _ w 0 (signal_intStat hw)
  · exact Close.refl h

/-- An interrupt source of every ward changes the interrupt state alone. -/
theorem intAll_close (h : Hub) (bit : Nat) : Close h (h.intAll bit) :=
  Close.forAll (fun h _ hw => intEvent_close h (List.mem_range.mp hw) bit) h

/-- A frame queued on the field die changes its transmit queue alone. -/
theorem sendF_close (h : Hub) (f : HFrame) : Close h (h.sendF f) := by
  unfold Hub.sendF
  split
  · exact ⟨⟨rfl, fun _ _ => rfl⟩, rfl⟩
  · exact Close.refl h

theorem sendStat_close (h : Hub) (g : Nat) : Close h (h.sendStat g) := sendF_close h _

/-- A vector mapped by a function that a change of one element does not show. -/
theorem map_vset {α β : Type} {n : Nat} (g : α → β) (v : Vector α n) (i : Nat) (d : α) {x : α} (hx : g x = g (vget v i d)) :
    (vset v i x).map g = v.map g := by
  ext j hj
  simp only [Vector.getElem_map, vset, Vector.getElem_setIfInBounds]
  split
  · next h => subst h; simp [hx, vget, hj]
  · rfl

/-- The marks of a channel's supervision change nothing else. -/
theorem modOut_close (h : Hub) (c : Nat) {g : OutCh → OutCh} (hg : ∀ o, (g o).unwatched = o.unwatched) : Close h (h.modOut c g) := by
  refine ⟨⟨rfl, fun _ _ => rfl⟩, ?_⟩
  have hm : (h.modOut c g).outs.map OutCh.unwatched = h.outs.map OutCh.unwatched := map_vset _ _ c {} (hg _)
  unfold Hub.driven
  rw [hm]
  rfl

theorem modIn_close (h : Hub) (c : Nat) {g : InCh → InCh} (hg : ∀ i, (g i).unwatched = i.unwatched) : Close h (h.modIn c g) := by
  refine ⟨⟨rfl, fun _ _ => rfl⟩, ?_⟩
  have hm : (h.modIn c g).ins.map InCh.unwatched = h.ins.map InCh.unwatched := map_vset _ _ c {} (hg _)
  unfold Hub.driven
  rw [hm]
  rfl

theorem watchDark_close (b h : Hub) (c : Nat) : Close h (b.watchDark h c) :=
  Close.ite (Close.refl h) (modOut_close h c fun _ => rfl)

theorem watchTp_close (b h : Hub) (c : Nat) : Close h (b.watchTp h c) :=
  Close.ite (Close.refl h) (modIn_close h c fun _ => rfl)

theorem watchWire_close (h : Hub) (c : Nat) : Close h (h.watchWire c) := by
  unfold Hub.watchWire
  dsimp only
  split
  · exact modIn_close h c fun _ => rfl
  · exact modIn_close h c fun _ => rfl
  · exact Close.refl h

theorem watch_close (b h : Hub) (c : Nat) : Close h (b.watch h c) :=
  ((watchDark_close b h c).trans (watchTp_close b _ c)).trans (watchWire_close _ c)

/-- What is kept of the state for the next one changes nothing else. -/
theorem follow_close (b h : Hub) : Close h (h.follow b) := ⟨⟨rfl, fun _ _ => rfl⟩, rfl⟩

/-- What follows after DB's judgement: the marks of the supervisions, the interrupt source, OUT_STAT, the count of falls. -/
theorem settle_close (b a : Hub) : Close a.bstDeliver.dbJudge (settle b a) := by
  have h0 : ∀ x : Hub, Close x (forAll (List.range 16) b.watch x) := Close.forAll fun h c _ => watch_close b h c
  have h1 : ∀ x : Hub, Close x (if b.state == x.state then x else x.intAll 3) := fun x => Close.ite (Close.refl x) (intAll_close x 3)
  have h2 : ∀ x : Hub, Close x (forAll [0, 1] (fun h g => if b.groupStat g == h.groupStat g then h else h.sendStat g) x) :=
    Close.forAll fun h g _ => Close.ite (Close.refl h) (sendStat_close h g)
  have h3 := ((h0 a.bstDeliver.dbJudge).trans (h1 _)).trans (h2 _)
  exact (h3.trans (Close.ite (Close.wr _ FLT_ERR_falls _ 0 0 (by decide)) (Close.refl _))).trans (follow_close b _)

/-! ### DB's drive -/

theorem settle_of_signal (a : Nat) (h : settleAddr a = false) : signalAddr a = false := by
  unfold settleAddr at h
  exact (Bool.or_eq_false_iff.mp (Bool.or_eq_false_iff.mp h).1).1

/-- A frame sent by a hub that differs only in what DB's drive reaches. -/
theorem near_sendF {h : Hub} (k : Hub) (f : HFrame) (hr : k.rest = h.rest) (hg : k.regs = h.regs) : Near settleAddr h (k.sendF f) :=
  Near.trans ⟨hr, fun _ _ => by rw [hg]⟩ ((sendF_close k f).near.mono settle_of_signal)

theorem fieldRise_near (h : Hub) (p chs detail : Nat) : Near settleAddr h (h.fieldRise p chs detail) := by
  exact Near.ite (Near.refl _ h) (near_sendF _ _ rfl rfl)

theorem fieldFall_near (h : Hub) (p chs : Nat) : Near settleAddr h (h.fieldFall p chs) := by
  exact Near.ite (Near.refl _ h) (near_sendF _ _ rfl rfl)

theorem settle_outFlt {b c : Nat} (hc : c < 16) : settleAddr (keyAddr (fldKey (outFltFlds.getD b OUT_FLT_open_off) c 0)) = true := by
  by_cases hb : b < 12
  · interval_cases b <;> interval_cases c <;> decide
  · have : outFltFlds.getD b OUT_FLT_open_off = OUT_FLT_open_off := by
      rw [List.getD_eq_getElem?_getD, List.getElem?_eq_none (by simp [outFltFlds]; omega)]
      rfl
    rw [this]
    interval_cases c <;> decide

theorem syncOutFlt_near (h : Hub) {c : Nat} (hc : c < 16) : Near settleAddr h (h.syncOutFlt c) := by
  unfold Hub.syncOutFlt
  split
  · exact Near.refl _ h
  · exact Near.forAll (f := fun h b => h.put (outFltFlds.getD b OUT_FLT_open_off) (bitOf (h.out c).flt b) c)
      (fun h b _ => Near.wr h _ _ c 0 (settle_outFlt hc)) h

theorem modOut_near (h : Hub) (c : Nat) (g : OutCh → OutCh) : Near settleAddr h (h.modOut c g) := ⟨rfl, fun _ _ => rfl⟩
theorem modIn_near (h : Hub) (c : Nat) (g : InCh → InCh) : Near settleAddr h (h.modIn c g) := ⟨rfl, fun _ _ => rfl⟩

theorem outRise_near (h : Hub) {c : Nat} (hc : c < 16) (b detail : Nat) : Near settleAddr h (h.outRise c b detail) := by
  unfold Hub.outRise
  split
  · exact Near.refl _ h
  · exact ((modOut_near h c _).trans (fieldRise_near _ _ _ _)).trans (syncOutFlt_near _ hc)

theorem switchFlags_near (h : Hub) {c : Nat} (hc : c < 16) (was : OutCh) : Near settleAddr h (h.switchFlags c was) := by
  have h1 : Near settleAddr h (if was.limiting && !(h.out c).limiting then h.outFall c 3 else h) := by
    split
    · exact fieldFall_near h 3 _
    · exact Near.refl _ h
  unfold Hub.switchFlags
  simp only
  split
  · exact h1.trans ((modOut_near _ c _).trans (outRise_near _ hc _ _))
  · exact h1

theorem stampHeavy_near (h : Hub) (c : Nat) : Near settleAddr h (h.stampHeavy c) := by
  unfold Hub.stampHeavy
  split
  · exact ⟨rfl, fun _ _ => rfl⟩
  · exact Near.refl _ h

theorem setSwitch_near (h : Hub) {c : Nat} (hc : c < 16) (on counts : Bool) : Near settleAddr h (h.setSwitch c on counts) := by
  unfold Hub.setSwitch
  simp only
  refine Near.trans ?_ (switchFlags_near _ hc _)
  refine Near.trans ?_ (modOut_near _ c _)
  have h1 : ∀ x : Hub, Near settleAddr x (if (h.out c).sw && !on then x.dropVf c else x) := fun x => by
    split
    · exact ⟨rfl, fun _ _ => rfl⟩
    · exact Near.refl _ x
  refine Near.trans ?_ (h1 _)
  split
  · exact Near.trans (b := h.modAcc c _) ⟨rfl, fun _ _ => rfl⟩ (stampHeavy_near _ c)
  · exact Near.refl _ h

theorem settle_inStat {c : Nat} (hc : c < 16) : settleAddr (keyAddr (fldKey IN_STAT_window c 0)) = true := by
  interval_cases c <;> decide

theorem endWindows_near (h : Hub) (src : Nat) : Near settleAddr h (h.endWindows src) := by
  unfold Hub.endWindows
  refine Near.forAll (fun h c hc => ?_) h
  split
  · exact Near.refl _ h
  · refine Near.ite ?_ (Near.refl _ h)
    exact (Near.ite (Near.wr h IN_STAT_window _ c 0 (settle_inStat (List.mem_range.mp hc))) (Near.refl _ h)).trans (modIn_near _ c _)

/-- DB's drive reaches the channels, the collector, the cycle counts and OUT_FLT, and nothing else. -/
theorem fieldSafe_near (h : Hub) {chs : List Nat} (hc : ∀ c ∈ chs, c < 16) : Near settleAddr h (h.fieldSafe chs) := by
  unfold Hub.fieldSafe
  refine Near.forAll (fun h c hm => ?_) h
  have hlt := hc c (List.mem_filter.mp hm).1
  simp only
  refine Near.trans ?_ (setSwitch_near _ hlt _ _)
  refine Near.trans ?_ (endWindows_near _ c)
  refine Near.trans (modOut_near h c (fun o => { o with fholdRun := false, atSafe := h.hinge.firstApplied })) ?_
  exact Near.ite (Near.refl _ _) ⟨rfl, fun _ _ => rfl⟩

theorem fOuts_lt {h : Hub} {c : Nat} (hc : c ∈ h.fOuts) : c < 16 := List.mem_range.mp (List.mem_filter.mp hc).1

theorem dbJudge_near (h : Hub) : Near settleAddr h h.dbJudge := by
  have hf : Near settleAddr h { h with dbt := { h.dbt with dbForced := h.dbCond } } := ⟨rfl, fun _ _ => rfl⟩
  exact Near.ite (Near.refl _ h) (Near.ite (hf.trans (fieldSafe_near _ (fun _ hc => fOuts_lt hc))) hf)

/-- Where DB's drive agrees with its conditions its judgement changes nothing. -/
theorem dbJudge_agrees {h : Hub} (hd : h.dbCond = h.dbt.dbForced) : h.dbJudge = h := by
  unfold Hub.dbJudge
  rw [if_pos (by simp [hd])]

/-- With nothing waiting for a group under test nothing is delivered. -/
theorem bstDeliver_quiet {h : Hub} (hq : h.noBacklog) : h.bstDeliver = h := by
  unfold Hub.bstDeliver
  simp [hq.1, hq.2]

/-- What `settle` keeps. -/
theorem settle_kept (b : Hub) {a : Hub} (hq : a.noBacklog) : Kept a (settle b a) := by
  have hc := settle_close b a
  rw [bstDeliver_quiet hq] at hc
  have hn := (dbJudge_near a).trans (hc.near.mono settle_of_signal)
  refine ⟨hn.rest, fun f i w hk => ?_, fun hd => ?_, fun hd f i w hk => ?_⟩
  · simp only [Hub.rd, hn.regs _ hk]
  · rw [dbJudge_agrees hd] at hc
    exact hc.driven
  · rw [dbJudge_agrees hd] at hc
    simp only [Hub.rd, hc.near.regs _ hk]

/-- A command whose arm changes the hub by `f` completes with whatever `f` leaves. -/
theorem completes_of_on {c : Instr} {s : State} {f : Hub → Hub} {P : Hub → Prop} (hx : exec c s = s.on f)
    (hp : P (f { s.hub with flt := { s.hub.flt with fresh := false } })) : Completes c s P :=
  ⟨_, _, hx, rfl, hp, rfl, fun hq => settle_kept _ hq⟩

end Sys2Proof.Machine
end

