-- ==== Sys2Proof/Laws/Exec.lean ====
section
/-!
SUPPORT. What a step can do: the arm of each command, and that every command changes the hub by a function and leaves the queue
to the step.
-/

namespace Sys2Proof.Machine

@[simp] theorem exec_powerOnReset (band : Fin 3) (vdd : BitVec 16) (s : State) : exec (.powerOnReset band vdd) s = execPowerOnReset band vdd s := rfl
@[simp] theorem exec_vholdCharged (vhold : BitVec 16) (s : State) : exec (.vholdCharged vhold) s = execVholdCharged vhold s := rfl
@[simp] theorem exec_vholdCapMeasure (us : BitVec 16) (s : State) : exec (.vholdCapMeasure us) s = execVholdCapMeasure us s := rfl
@[simp] theorem exec_vholdLow (vhold : BitVec 16) (s : State) : exec (.vholdLow vhold) s = execVholdLow vhold s := rfl
@[simp] theorem exec_vddWarningBegin (vdd : BitVec 16) (s : State) : exec (.vddWarningBegin vdd) s = execVddWarningBegin vdd s := rfl
@[simp] theorem exec_vminSample (v : Rails) (s : State) : exec (.vminSample v) s = execVminSample v s := rfl
@[simp] theorem exec_vddWarningEnd (vdd : BitVec 16) (s : State) : exec (.vddWarningEnd vdd) s = execVddWarningEnd vdd s := rfl
@[simp] theorem exec_orderlyPowerDown (vdd : BitVec 16) (s : State) : exec (.orderlyPowerDown vdd) s = execOrderlyPowerDown vdd s := rfl
@[simp] theorem exec_powerDownStep (vhold : BitVec 16) (s : State) : exec (.powerDownStep vhold) s = execPowerDownStep vhold s := rfl
@[simp] theorem exec_vddFailed (vhold : BitVec 16) (s : State) : exec (.vddFailed vhold) s = execVddFailed vhold s := rfl
@[simp] theorem exec_vfLostPd (s : State) : exec (.vfLostPd) s = execVfLostPd s := rfl
@[simp] theorem exec_fieldPowerOnReset (s : State) : exec (.fieldPowerOnReset) s = execFieldPowerOnReset s := rfl
@[simp] theorem exec_fieldResetRelease (s : State) : exec (.fieldResetRelease) s = execFieldResetRelease s := rfl
@[simp] theorem exec_vfValid (s : State) : exec (.vfValid) s = execVfValid s := rfl
@[simp] theorem exec_vfUnderVoltage (s : State) : exec (.vfUnderVoltage) s = execVfUnderVoltage s := rfl
@[simp] theorem exec_vfOverVoltage (s : State) : exec (.vfOverVoltage) s = execVfOverVoltage s := rfl
@[simp] theorem exec_vregFail (vregl : Bool) (s : State) : exec (.vregFail vregl) s = execVregFail vregl s := rfl
@[simp] theorem exec_domainWakeRequest (d : Fin 12) (s : State) : exec (.domainWakeRequest d) s = execDomainWakeRequest d s := rfl
@[simp] theorem exec_domainWakeDone (d : Fin 12) (good : Bool) (s : State) : exec (.domainWakeDone d good) s = execDomainWakeDone d good s := rfl
@[simp] theorem exec_bankClearDone (m : Fin 2) (s : State) : exec (.bankClearDone m) s = execBankClearDone m s := rfl
@[simp] theorem exec_pllLock (s : State) : exec (.pllLock) s = execPllLock s := rfl
@[simp] theorem exec_pllLockTimeout (s : State) : exec (.pllLockTimeout) s = execPllLockTimeout s := rfl
@[simp] theorem exec_refclkLost (s : State) : exec (.refclkLost) s = execRefclkLost s := rfl
@[simp] theorem exec_refclkReturn (s : State) : exec (.refclkReturn) s = execRefclkReturn s := rfl
@[simp] theorem exec_returnRef (w : Fin 8) (v : Word) (s : State) : exec (.returnRef w v) s = execReturnRef w v s := rfl
@[simp] theorem exec_mclkWindowEnd (count : BitVec 16) (hosc : BitVec 16) (s : State) : exec (.mclkWindowEnd count hosc) s = execMclkWindowEnd count hosc s := rfl
@[simp] theorem exec_clockHaltExit (s : State) : exec (.clockHaltExit) s = execClockHaltExit s := rfl
@[simp] theorem exec_fclkWindowEnd (count : BitVec 16) (s : State) : exec (.fclkWindowEnd count) s = execFclkWindowEnd count s := rfl
@[simp] theorem exec_timebaseWrap (s : State) : exec (.timebaseWrap) s = execTimebaseWrap s := rfl
@[simp] theorem exec_clkTbLoRead (w : Fin 8) (s : State) : exec (.clkTbLoRead w) s = execClkTbLoRead w s := rfl
@[simp] theorem exec_timeS (lane : Fin 2) (high : Byte) (low : Word) (s : State) : exec (.timeS lane high low) s = execTimeS lane high low s := rfl
@[simp] theorem exec_timeL (lane : Fin 2) (high : BitVec 24) (s : State) : exec (.timeL lane high) s = execTimeL lane high s := rfl
@[simp] theorem exec_followerTimeout (s : State) : exec (.followerTimeout) s = execFollowerTimeout s := rfl
@[simp] theorem exec_hingeFrameReceive (lane : Fin 4) (frame : BitVec 64) (codeOk : Bool) (controlOk : Bool) (stamp : Word) (late : Bool) (s : State) : exec (.hingeFrameReceive lane frame codeOk controlOk stamp late) s = execHingeFrameReceive lane frame codeOk controlOk stamp late s := rfl
@[simp] theorem exec_idleFrame (lane : Fin 4) (s : State) : exec (.idleFrame lane) s = execIdleFrame lane s := rfl
@[simp] theorem exec_laneTraining (lane : Fin 4) (delay : BitVec 16) (s : State) : exec (.laneTraining lane delay) s = execLaneTraining lane delay s := rfl
@[simp] theorem exec_laneDown (lane : Fin 4) (s : State) : exec (.laneDown lane) s = execLaneDown lane s := rfl
@[simp] theorem exec_laneRetry (s : State) : exec (.laneRetry) s = execLaneRetry s := rfl
@[simp] theorem exec_retrain (w : Fin 8) (v : Word) (s : State) : exec (.retrain w v) s = execRetrain w v s := rfl
@[simp] theorem exec_hingeLost (field : Bool) (s : State) : exec (.hingeLost field) s = execHingeLost field s := rfl
@[simp] theorem exec_rejoin (s : State) : exec (.rejoin) s = execRejoin s := rfl
@[simp] theorem exec_fieldStart (s : State) : exec (.fieldStart) s = execFieldStart s := rfl
@[simp] theorem exec_outCmd (g : Fin 2) (gen : BitVec 8) (cmds : Word) (s : State) : exec (.outCmd g gen cmds) s = execOutCmd g gen cmds s := rfl
@[simp] theorem exec_outCmdRepeat (s : State) : exec (.outCmdRepeat) s = execOutCmdRepeat s := rfl
@[simp] theorem exec_outStat (g : Fin 2) (gen : BitVec 8) (states : Word) (s : State) : exec (.outStat g gen states) s = execOutStat g gen states s := rfl
@[simp] theorem exec_fsum (sticky : BitVec 40) (s : State) : exec (.fsum sticky) s = execFsum sticky s := rfl
@[simp] theorem exec_fault (p : Fin 40) (chs : BitVec 16) (live : Bool) (detail : BitVec 15) (s : State) : exec (.fault p chs live detail) s = execFault p chs live detail s := rfl
@[simp] theorem exec_req (tag : Fin 16) (s : State) : exec (.req tag) s = execReq tag s := rfl
@[simp] theorem exec_rsp (tag : Fin 16) (s : State) : exec (.rsp tag) s = execRsp tag s := rfl
@[simp] theorem exec_reqRetry (tag : Fin 16) (s : State) : exec (.reqRetry tag) s = execReqRetry tag s := rfl
@[simp] theorem exec_boltRel (s : State) : exec (.boltRel) s = execBoltRel s := rfl
@[simp] theorem exec_boltRelExpire (s : State) : exec (.boltRelExpire) s = execBoltRelExpire s := rfl
@[simp] theorem exec_boltRelRepeat (s : State) : exec (.boltRelRepeat) s = execBoltRelRepeat s := rfl
@[simp] theorem exec_vec (t : Fin 8) (late : Bool) (payload : BitVec 40) (s : State) : exec (.vec t late payload) s = execVec t late payload s := rfl
@[simp] theorem exec_vecRepeat (t : Fin 8) (off : Word) (s : State) : exec (.vecRepeat t off) s = execVecRepeat t off s := rfl
@[simp] theorem exec_marginMeasure (lane : Fin 4) (m : Fin 65) (s : State) : exec (.marginMeasure lane m) s = execMarginMeasure lane m s := rfl
@[simp] theorem exec_boltDecision (e : LineEdges) (s : State) : exec (.boltDecision e) s = execBoltDecision e s := rfl
@[simp] theorem exec_boltCode (field : Bool) (s : State) : exec (.boltCode field) s = execBoltCode field s := rfl
@[simp] theorem exec_boltLatchClear (s : State) : exec (.boltLatchClear) s = execBoltLatchClear s := rfl
@[simp] theorem exec_boltToneChange (s : State) : exec (.boltToneChange) s = execBoltToneChange s := rfl
@[simp] theorem exec_fieldToneDecision (e : LineEdges) (s : State) : exec (.fieldToneDecision e) s = execFieldToneDecision e s := rfl
@[simp] theorem exec_fholdExpiry (x : ChSpan) (s : State) : exec (.fholdExpiry x) s = execFholdExpiry x s := rfl
@[simp] theorem exec_fieldConfigCrc (upset : Option (BitVec 24 × Word)) (s : State) : exec (.fieldConfigCrc upset) s = execFieldConfigCrc upset s := rfl
@[simp] theorem exec_boot (probe0 : NvmProbe) (probe1 : NvmProbe) (lostHeader : List (Fin 4)) (lostRead : List (Fin 4)) (s : State) : exec (.boot probe0 probe1 lostHeader lostRead) s = execBoot probe0 probe1 lostHeader lostRead s := rfl
@[simp] theorem exec_arming (s : State) : exec (.arming) s = execArming s := rfl
@[simp] theorem exec_startupTests (passed : BitVec 14) (time : BitVec 11) (proofs : List (Fin 16 × Fin 16 × Word)) (s : State) : exec (.startupTests passed time proofs) s = execStartupTests passed time proofs s := rfl
@[simp] theorem exec_enterRun (s : State) : exec (.enterRun) s = execEnterRun s := rfl
@[simp] theorem exec_rcvErase (w : Fin 8) (v : Word) (s : State) : exec (.rcvErase w v) s = execRcvErase w v s := rfl
@[simp] theorem exec_rcvProgram (w : Fin 8) (v : Word) (s : State) : exec (.rcvProgram w v) s = execRcvProgram w v s := rfl
@[simp] theorem exec_rcvRead (w : Fin 8) (v : Word) (s : State) : exec (.rcvRead w v) s = execRcvRead w v s := rfl
@[simp] theorem exec_rcvReboot (w : Fin 8) (v : Word) (s : State) : exec (.rcvReboot w v) s = execRcvReboot w v s := rfl
@[simp] theorem exec_rcvCommandDone (e : NvmEnd) (s : State) : exec (.rcvCommandDone e) s = execRcvCommandDone e s := rfl
@[simp] theorem exec_blkCheck (w : Fin 8) (v : Word) (s : State) : exec (.blkCheck w v) s = execBlkCheck w v s := rfl
@[simp] theorem exec_blkCheckDone (readOk : Bool) (s : State) : exec (.blkCheckDone readOk) s = execBlkCheckDone readOk s := rfl
@[simp] theorem exec_blkReboot (w : Fin 8) (v : Word) (s : State) : exec (.blkReboot w v) s = execBlkReboot w v s := rfl
@[simp] theorem exec_blkFuse (w : Fin 8) (v : Word) (s : State) : exec (.blkFuse w v) s = execBlkFuse w v s := rfl
@[simp] theorem exec_fuseDone (good : Bool) (s : State) : exec (.fuseDone good) s = execFuseDone good s := rfl
@[simp] theorem exec_shadowCheck (upset : Option (BitVec 24 × Word)) (inShadow : Bool) (full : Bool) (interval : BitVec 16) (s : State) : exec (.shadowCheck upset inShadow full interval) s = execShadowCheck upset inShadow full interval s := rfl
@[simp] theorem exec_thermalHalt (sensor : Fin 8) (t : BitVec 16) (s : State) : exec (.thermalHalt sensor t) s = execThermalHalt sensor t s := rfl
@[simp] theorem exec_fieldGlobalShutdown (sensor : Fin 6) (t : BitVec 16) (s : State) : exec (.fieldGlobalShutdown sensor t) s = execFieldGlobalShutdown sensor t s := rfl
@[simp] theorem exec_thermalHaltExit (logic : BitVec 16) (field : BitVec 16) (s : State) : exec (.thermalHaltExit logic field) s = execThermalHaltExit logic field s := rfl
@[simp] theorem exec_dbtSafeExit (w : Fin 8) (v : Word) (s : State) : exec (.dbtSafeExit w v) s = execDbtSafeExit w v s := rfl
@[simp] theorem exec_safeLeave (s : State) : exec (.safeLeave) s = execSafeLeave s := rfl
@[simp] theorem exec_outCtrlWrite (w : Fin 8) (c : Fin 16) (v : Word) (s : State) : exec (.outCtrlWrite w c v) s = execOutCtrlWrite w c v s := rfl
@[simp] theorem exec_rearm (w : Fin 8) (c : Fin 16) (v : Word) (s : State) : exec (.rearm w c v) s = execRearm w c v s := rfl
@[simp] theorem exec_thermalShutdown (c : Fin 16) (s : State) : exec (.thermalShutdown c) s = execThermalShutdown c s := rfl
@[simp] theorem exec_retryExpiry (x : ChSpan) (s : State) : exec (.retryExpiry x) s = execRetryExpiry x s := rfl
@[simp] theorem exec_limitBegin (c : Fin 16) (v : BitVec 16) (s : State) : exec (.limitBegin c v) s = execLimitBegin c v s := rfl
@[simp] theorem exec_limitEpisode (c : Fin 16) (s : State) : exec (.limitEpisode c) s = execLimitEpisode c s := rfl
@[simp] theorem exec_uvOff (x : ChSupply) (s : State) : exec (.uvOff x) s = execUvOff x s := rfl
@[simp] theorem exec_uvRestart (x : ChSupplyBack) (s : State) : exec (.uvRestart x) s = execUvRestart x s := rfl
@[simp] theorem exec_offStateCheck (x : ChSpan) (s : State) : exec (.offStateCheck x) s = execOffStateCheck x s := rfl
@[simp] theorem exec_offStateCheckEnd (c : Fin 16) (v : BitVec 16) (s : State) : exec (.offStateCheckEnd c v) s = execOffStateCheckEnd c v s := rfl
@[simp] theorem exec_litCheck (c : Fin 16) (s : State) : exec (.litCheck c) s = execLitCheck c s := rfl
@[simp] theorem exec_litCheckEnd (c : Fin 16) (fine : BitVec 12) (s : State) : exec (.litCheckEnd c fine) s = execLitCheckEnd c fine s := rfl
@[simp] theorem exec_readback (c : Fin 16) (v : BitVec 16) (normal : BitVec 12) (fine : BitVec 12) (s : State) : exec (.readback c v normal fine) s = execReadback c v normal fine s := rfl
@[simp] theorem exec_darkPulse (c : Fin 16) (s : State) : exec (.darkPulse c) s = execDarkPulse c s := rfl
@[simp] theorem exec_pulseEnd (x : ChSpan) (v : BitVec 16) (cur : BitVec 12) (s : State) : exec (.pulseEnd x v cur) s = execPulseEnd x v cur s := rfl
@[simp] theorem exec_tpMiss (x : ChSpan) (s : State) : exec (.tpMiss x) s = execTpMiss x s := rfl
@[simp] theorem exec_pwmEdgeCheck (c : Fin 16) (v : BitVec 16) (s : State) : exec (.pwmEdgeCheck c v) s = execPwmEdgeCheck c v s := rfl
@[simp] theorem exec_pairMismatch (x : PairCurrents) (s : State) : exec (.pairMismatch x) s = execPairMismatch x s := rfl
@[simp] theorem exec_outRtWrite (w : Fin 8) (c : Fin 16) (v : Word) (s : State) : exec (.outRtWrite w c v) s = execOutRtWrite w c v s := rfl
@[simp] theorem exec_outFltClear (w : Fin 8) (c : Fin 16) (v : Word) (s : State) : exec (.outFltClear w c v) s = execOutFltClear w c v s := rfl
@[simp] theorem exec_inputCrossing (c : Fin 16) (l : LeadLevel) (s : State) : exec (.inputCrossing c l) s = execInputCrossing c l s := rfl
@[simp] theorem exec_debounceAccept (x : ChSpan) (s : State) : exec (.debounceAccept x) s = execDebounceAccept x s := rfl
@[simp] theorem exec_inTsLoRead (w : Fin 8) (c : Fin 16) (s : State) : exec (.inTsLoRead w c) s = execInTsLoRead w c s := rfl
@[simp] theorem exec_inputMeasure (c : Fin 16) (v : BitVec 16) (cur : BitVec 12) (s : State) : exec (.inputMeasure c v cur) s = execInputMeasure c v cur s := rfl
@[simp] theorem exec_wireBreak (x : ChSpan) (s : State) : exec (.wireBreak x) s = execWireBreak x s := rfl
@[simp] theorem exec_tpWindowEnd (x : ChSpan) (s : State) : exec (.tpWindowEnd x) s = execTpWindowEnd x s := rfl
@[simp] theorem exec_tpLate (x : ChSpan) (s : State) : exec (.tpLate x) s = execTpLate x s := rfl
@[simp] theorem exec_foreignWindowEnd (x : ChSpan) (s : State) : exec (.foreignWindowEnd x) s = execForeignWindowEnd x s := rfl
@[simp] theorem exec_inFltClear (w : Fin 8) (c : Fin 16) (v : Word) (s : State) : exec (.inFltClear w c v) s = execInFltClear w c v s := rfl
@[simp] theorem exec_issuePoint (t : Fin 8) (s : State) : exec (.issuePoint t) s = execIssuePoint t s := rfl
@[simp] theorem exec_stop (t : Fin 8) (s : State) : exec (.stop t) s = execStop t s := rfl
@[simp] theorem exec_vecInstruction (t : Fin 8) (s : State) : exec (.vecInstruction t) s = execVecInstruction t s := rfl
@[simp] theorem exec_loop (t : Fin 8) (s : State) : exec (.loop t) s = execLoop t s := rfl
@[simp] theorem exec_endl (t : Fin 8) (s : State) : exec (.endl t) s = execEndl t s := rfl
@[simp] theorem exec_jmp (t : Fin 8) (s : State) : exec (.jmp t) s = execJmp t s := rfl
@[simp] theorem exec_brc (t : Fin 8) (s : State) : exec (.brc t) s = execBrc t s := rfl
@[simp] theorem exec_wait (t : Fin 8) (s : State) : exec (.wait t) s = execWait t s := rfl
@[simp] theorem exec_waitTimeout (t : Fin 8) (s : State) : exec (.waitTimeout t) s = execWaitTimeout t s := rfl
@[simp] theorem exec_call (t : Fin 8) (s : State) : exec (.call t) s = execCall t s := rfl
@[simp] theorem exec_ret (t : Fin 8) (s : State) : exec (.ret t) s = execRet t s := rfl
@[simp] theorem exec_tset (t : Fin 8) (s : State) : exec (.tset t) s = execTset t s := rfl
@[simp] theorem exec_march (t : Fin 8) (s : State) : exec (.march t) s = execMarch t s := rfl
@[simp] theorem exec_sig (t : Fin 8) (s : State) : exec (.sig t) s = execSig t s := rfl
@[simp] theorem exec_cycleStart (t : Fin 8) (s : State) : exec (.cycleStart t) s = execCycleStart t s := rfl
@[simp] theorem exec_tmbStart (w : Fin 8) (t : Fin 8) (v : Word) (s : State) : exec (.tmbStart w t v) s = execTmbStart w t v s := rfl
@[simp] theorem exec_tmbStop (w : Fin 8) (t : Fin 8) (v : Word) (s : State) : exec (.tmbStop w t v) s = execTmbStop w t v s := rfl
@[simp] theorem exec_tmbJump (w : Fin 8) (t : Fin 8) (v : Word) (s : State) : exec (.tmbJump w t v) s = execTmbJump w t v s := rfl
@[simp] theorem exec_heavyVectorStall (t : Fin 8) (s : State) : exec (.heavyVectorStall t) s = execHeavyVectorStall t s := rfl
@[simp] theorem exec_deadlineMiss (t : Fin 8) (s : State) : exec (.deadlineMiss t) s = execDeadlineMiss t s := rfl
@[simp] theorem exec_compareSlotEval (j : Fin 16) (r : Reading) (s : State) : exec (.compareSlotEval j r) s = execCompareSlotEval j r s := rfl
@[simp] theorem exec_tmbCmpThrWrite (w : Fin 8) (j : Fin 16) (v : Word) (s : State) : exec (.tmbCmpThrWrite w j v) s = execTmbCmpThrWrite w j v s := rfl
@[simp] theorem exec_dpWriteLow (w : Fin 8) (d : Fin 2) (n : Fin 1024) (v : Word) (s : State) : exec (.dpWriteLow w d n v) s = execDpWriteLow w d n v s := rfl
@[simp] theorem exec_dpWriteHigh (w : Fin 8) (d : Fin 2) (n : Fin 1024) (v : Word) (s : State) : exec (.dpWriteHigh w d n v) s = execDpWriteHigh w d n v s := rfl
@[simp] theorem exec_dpReadLow (w : Fin 8) (d : Fin 2) (n : Fin 1024) (s : State) : exec (.dpReadLow w d n) s = execDpReadLow w d n s := rfl
@[simp] theorem exec_syncPulseSend (s : State) : exec (.syncPulseSend) s = execSyncPulseSend s := rfl
@[simp] theorem exec_syncPulseReceive (x : SyncPulse) (s : State) : exec (.syncPulseReceive x) s = execSyncPulseReceive x s := rfl
@[simp] theorem exec_lsyFrameReceive (up : Bool) (start : List Bool) (line : List Bool) (s : State) : exec (.lsyFrameReceive up start line) s = execLsyFrameReceive up start line s := rfl
@[simp] theorem exec_timeLo (v : Word) (s : State) : exec (.timeLo v) s = execTimeLo v s := rfl
@[simp] theorem exec_timeHi (v : Word) (s : State) : exec (.timeHi v) s = execTimeHi v s := rfl
@[simp] theorem exec_enumMsg (v : Word) (s : State) : exec (.enumMsg v) s = execEnumMsg v s := rfl
@[simp] theorem exec_calStart (v : Word) (s : State) : exec (.calStart v) s = execCalStart v s := rfl
@[simp] theorem exec_calEcho (missing : Bool) (rt : BitVec 16) (s : State) : exec (.calEcho missing rt) s = execCalEcho missing rt s := rfl
@[simp] theorem exec_calDelay (v : Word) (s : State) : exec (.calDelay v) s = execCalDelay v s := rfl
@[simp] theorem exec_mark (v : Word) (s : State) : exec (.mark v) s = execMark v s := rfl
@[simp] theorem exec_hb (up : Bool) (v : Word) (s : State) : exec (.hb up v) s = execHb up v s := rfl
@[simp] theorem exec_pairHbTimeout (s : State) : exec (.pairHbTimeout) s = execPairHbTimeout s := rfl
@[simp] theorem exec_pairClose (v : Word) (s : State) : exec (.pairClose v) s = execPairClose v s := rfl
@[simp] theorem exec_pairTurnOn (s : State) : exec (.pairTurnOn) s = execPairTurnOn s := rfl
@[simp] theorem exec_present (v : Word) (s : State) : exec (.present v) s = execPresent v s := rfl
@[simp] theorem exec_breakMsg (v : Word) (s : State) : exec (.breakMsg v) s = execBreakMsg v s := rfl
@[simp] theorem exec_recalReq (v : Word) (s : State) : exec (.recalReq v) s = execRecalReq v s := rfl
@[simp] theorem exec_user (up : Bool) (v : Word) (s : State) : exec (.user up v) s = execUser up v s := rfl
@[simp] theorem exec_upstreamLost (s : State) : exec (.upstreamLost) s = execUpstreamLost s := rfl
@[simp] theorem exec_downstreamLost (s : State) : exec (.downstreamLost) s = execDownstreamLost s := rfl
@[simp] theorem exec_chainResumed (s : State) : exec (.chainResumed) s = execChainResumed s := rfl
@[simp] theorem exec_recal (w : Fin 8) (v : Word) (s : State) : exec (.recal w v) s = execRecal w v s := rfl
@[simp] theorem exec_recalInterval (s : State) : exec (.recalInterval) s = execRecalInterval s := rfl
@[simp] theorem exec_luanenEvent (k : Fin 8) (s : State) : exec (.luanenEvent k) s = execLuanenEvent k s := rfl
@[simp] theorem exec_lsyRxRead (w : Fin 8) (s : State) : exec (.lsyRxRead w) s = execLsyRxRead w s := rfl
@[simp] theorem exec_writeFrame (p : Fin 3) (header : Word) (data : List Word) (crc : Byte) (k : Clocking) (s : State) : exec (.writeFrame p header data crc k) s = execWriteFrame p header data crc k s := rfl
@[simp] theorem exec_readFrame (p : Fin 3) (header : Word) (crc : Byte) (k : Clocking) (s : State) : exec (.readFrame p header crc k) s = execReadFrame p header crc k s := rfl
@[simp] theorem exec_doorbell (p : Fin 3) (header : Word) (v : Word) (crc : Byte) (k : Clocking) (s : State) : exec (.doorbell p header v crc k) s = execDoorbell p header v crc k s := rfl
@[simp] theorem exec_wrdExpOpen (w : Fin 8) (v : Word) (s : State) : exec (.wrdExpOpen w v) s = execWrdExpOpen w v s := rfl
@[simp] theorem exec_descriptorAccept (w : Fin 8) (s : State) : exec (.descriptorAccept w) s = execDescriptorAccept w s := rfl
@[simp] theorem exec_dispatch (s : State) : exec (.dispatch) s = execDispatch s := rfl
@[simp] theorem exec_nop (slot : Fin 16384) (s : State) : exec (.nop slot) s = execNop slot s := rfl
@[simp] theorem exec_regw (slot : Fin 16384) (s : State) : exec (.regw slot) s = execRegw slot s := rfl
@[simp] theorem exec_regr (slot : Fin 16384) (s : State) : exec (.regr slot) s = execRegr slot s := rfl
@[simp] theorem exec_bankCopy (slot : Fin 16384) (s : State) : exec (.bankCopy slot) s = execBankCopy slot s := rfl
@[simp] theorem exec_bankFill (slot : Fin 16384) (s : State) : exec (.bankFill slot) s = execBankFill slot s := rfl
@[simp] theorem exec_atomAdd (slot : Fin 16384) (s : State) : exec (.atomAdd slot) s = execAtomAdd slot s := rfl
@[simp] theorem exec_atomSwap (slot : Fin 16384) (s : State) : exec (.atomSwap slot) s = execAtomSwap slot s := rfl
@[simp] theorem exec_tmbOpStart (slot : Fin 16384) (s : State) : exec (.tmbOpStart slot) s = execTmbOpStart slot s := rfl
@[simp] theorem exec_tmbOpStop (slot : Fin 16384) (s : State) : exec (.tmbOpStop slot) s = execTmbOpStop slot s := rfl
@[simp] theorem exec_tmbOpJump (slot : Fin 16384) (s : State) : exec (.tmbOpJump slot) s = execTmbOpJump slot s := rfl
@[simp] theorem exec_meas (slot : Fin 16384) (conv : List Word) (s : State) : exec (.meas slot conv) s = execMeas slot conv s := rfl
@[simp] theorem exec_diag (slot : Fin 16384) (v : BitVec 16) (normal : BitVec 12) (fine : BitVec 12) (s : State) : exec (.diag slot v normal fine) s = execDiag slot v normal fine s := rfl
@[simp] theorem exec_nvmRead (slot : Fin 16384) (s : State) : exec (.nvmRead slot) s = execNvmRead slot s := rfl
@[simp] theorem exec_nvmProgram (slot : Fin 16384) (s : State) : exec (.nvmProgram slot) s = execNvmProgram slot s := rfl
@[simp] theorem exec_nvmErase (slot : Fin 16384) (s : State) : exec (.nvmErase slot) s = execNvmErase slot s := rfl
@[simp] theorem exec_nvmOperationDone (res : Fin 3) (mirrorOk : Bool) (s : State) : exec (.nvmOperationDone res mirrorOk) s = execNvmOperationDone res mirrorOk s := rfl
@[simp] theorem exec_timed (slot : Fin 16384) (s : State) : exec (.timed slot) s = execTimed slot s := rfl
@[simp] theorem exec_timedRelease (slot : Fin 16384) (s : State) : exec (.timedRelease slot) s = execTimedRelease slot s := rfl
@[simp] theorem exec_lsy (slot : Fin 16384) (s : State) : exec (.lsy slot) s = execLsy slot s := rfl
@[simp] theorem exec_completion (slot : Fin 16384) (s : State) : exec (.completion slot) s = execCompletion slot s := rfl
@[simp] theorem exec_opsCancel (w : Fin 8) (v : Word) (s : State) : exec (.opsCancel w v) s = execOpsCancel w v s := rfl
@[simp] theorem exec_opsCqIdxWrite (w : Fin 8) (v : Word) (s : State) : exec (.opsCqIdxWrite w v) s = execOpsCqIdxWrite w v s := rfl
@[simp] theorem exec_tokenRefill (w : Fin 8) (s : State) : exec (.tokenRefill w) s = execTokenRefill w s := rfl
@[simp] theorem exec_opsQosRtWrite (w : Fin 8) (v : Word) (s : State) : exec (.opsQosRtWrite w v) s = execOpsQosRtWrite w v s := rfl
@[simp] theorem exec_intEvent (w : Fin 8) (bit : Fin 32) (s : State) : exec (.intEvent w bit) s = execIntEvent w bit s := rfl
@[simp] theorem exec_moderationExpiry (w : Fin 8) (s : State) : exec (.moderationExpiry w) s = execModerationExpiry w s := rfl
@[simp] theorem exec_intPulseEnd (p : Fin 4) (s : State) : exec (.intPulseEnd p) s = execIntPulseEnd p s := rfl
@[simp] theorem exec_intStatClear (w : Fin 8) (v : Word) (s : State) : exec (.intStatClear w v) s = execIntStatClear w v s := rfl
@[simp] theorem exec_intEnWrite (w : Fin 8) (v : Word) (s : State) : exec (.intEnWrite w v) s = execIntEnWrite w v s := rfl
@[simp] theorem exec_intSet (w : Fin 8) (v : Word) (s : State) : exec (.intSet w v) s = execIntSet w v s := rfl
@[simp] theorem exec_intModWrite (w : Fin 8) (v : Word) (s : State) : exec (.intModWrite w v) s = execIntModWrite w v s := rfl
@[simp] theorem exec_rstnLow (shifting : Bool) (s : State) : exec (.rstnLow shifting) s = execRstnLow shifting s := rfl
@[simp] theorem exec_rstnRelease (s : State) : exec (.rstnRelease) s = execRstnRelease s := rfl
@[simp] theorem exec_rstDev (w : Fin 8) (v : Word) (s : State) : exec (.rstDev w v) s = execRstDev w v s := rfl
@[simp] theorem exec_deviceSoftReset (s : State) : exec (.deviceSoftReset) s = execDeviceSoftReset s := rfl
@[simp] theorem exec_rstWard (w : Fin 8) (v : Word) (s : State) : exec (.rstWard w v) s = execRstWard w v s := rfl
@[simp] theorem exec_wardResetDone (w : Fin 8) (s : State) : exec (.wardResetDone w) s = execWardResetDone w s := rfl
@[simp] theorem exec_rstField (w : Fin 8) (v : Word) (s : State) : exec (.rstField w v) s = execRstField w v s := rfl
@[simp] theorem exec_fieldResetRequest (s : State) : exec (.fieldResetRequest) s = execFieldResetRequest s := rfl
@[simp] theorem exec_fieldResetTimeout (s : State) : exec (.fieldResetTimeout) s = execFieldResetTimeout s := rfl
@[simp] theorem exec_bnkOwnerWrite (w : Fin 8) (b : Fin 48) (v : Word) (s : State) : exec (.bnkOwnerWrite w b v) s = execBnkOwnerWrite w b v s := rfl
@[simp] theorem exec_drainComplete (b : Fin 48) (s : State) : exec (.drainComplete b) s = execDrainComplete b s := rfl
@[simp] theorem exec_handoverScrubDone (b : Fin 48) (s : State) : exec (.handoverScrubDone b) s = execHandoverScrubDone b s := rfl
@[simp] theorem exec_bnkHandedClear (w : Fin 8) (b : Fin 48) (v : Word) (s : State) : exec (.bnkHandedClear w b v) s = execBnkHandedClear w b v s := rfl
@[simp] theorem exec_retainWrite (w : Fin 8) (b : Fin 48) (v : Word) (s : State) : exec (.retainWrite w b v) s = execRetainWrite w b v s := rfl
@[simp] theorem exec_bitSet (w : Fin 8) (b : Fin 48) (word : Fin 4096) (v : Word) (s : State) : exec (.bitSet w b word v) s = execBitSet w b word v s := rfl
@[simp] theorem exec_bitClear (w : Fin 8) (b : Fin 48) (word : Fin 4096) (v : Word) (s : State) : exec (.bitClear w b word v) s = execBitClear w b word v s := rfl
@[simp] theorem exec_eccUncorrectable (b : Fin 50) (word : Fin 4096) (v : Word) (s : State) : exec (.eccUncorrectable b word v) s = execEccUncorrectable b word v s := rfl
@[simp] theorem exec_eccCorrected (b : Fin 50) (word : Fin 4096) (s : State) : exec (.eccCorrected b word) s = execEccCorrected b word s := rfl
@[simp] theorem exec_scrubRead (b : Fin 50) (word : Fin 4096) (us : Option (BitVec 16)) (s : State) : exec (.scrubRead b word us) s = execScrubRead b word us s := rfl
@[simp] theorem exec_thermalModelUpdate (v : List (BitVec 16)) (cur : List (BitVec 12)) (own : BitVec 16) (rails : RoundRails) (temps : List (BitVec 16)) (s : State) : exec (.thermalModelUpdate v cur own rails temps) s = execThermalModelUpdate v cur own rails temps s := rfl
@[simp] theorem exec_schedulerDecision (s : State) : exec (.schedulerDecision) s = execSchedulerDecision s := rfl
@[simp] theorem exec_thermWarn (sensor : Fin 8) (t : BitVec 16) (s : State) : exec (.thermWarn sensor t) s = execThermWarn sensor t s := rfl
@[simp] theorem exec_eraseDayBoundary (s : State) : exec (.eraseDayBoundary) s = execEraseDayBoundary s := rfl
@[simp] theorem exec_schRtWrite (w : Fin 8) (v : Word) (s : State) : exec (.schRtWrite w v) s = execSchRtWrite w v s := rfl
@[simp] theorem exec_heartbeatSend (field : Bool) (s : State) : exec (.heartbeatSend field) s = execHeartbeatSend field s := rfl
@[simp] theorem exec_hbReceive (field : Bool) (payload : BitVec 40) (stamp : Word) (s : State) : exec (.hbReceive field payload stamp) s = execHbReceive field payload stamp s := rfl
@[simp] theorem exec_heartbeatLoss (field : Bool) (s : State) : exec (.heartbeatLoss field) s = execHeartbeatLoss field s := rfl
@[simp] theorem exec_soscBLoss (s : State) : exec (.soscBLoss) s = execSoscBLoss s := rfl
@[simp] theorem exec_adcComparison (q : Fin 64) (kind : Fin 4) (a : Word) (b : Word) (s : State) : exec (.adcComparison q kind a b) s = execAdcComparison q kind a b s := rfl
@[simp] theorem exec_adcConfirm (q : Fin 64) (kind : Fin 4) (a : Word) (b : Word) (s : State) : exec (.adcConfirm q kind a b) s = execAdcConfirm q kind a b s := rfl
@[simp] theorem exec_tempComparison (sensor : Fin 7) (a : BitVec 16) (b : BitVec 16) (s : State) : exec (.tempComparison sensor a b) s = execTempComparison sensor a b s := rfl
@[simp] theorem exec_proofStart (s : State) : exec (.proofStart) s = execProofStart s := rfl
@[simp] theorem exec_proofDetect (ticks : Word) (s : State) : exec (.proofDetect ticks) s = execProofDetect ticks s := rfl
@[simp] theorem exec_proofTimeout (s : State) : exec (.proofTimeout) s = execProofTimeout s := rfl
@[simp] theorem exec_recheckEnd (present : Bool) (s : State) : exec (.recheckEnd present) s = execRecheckEnd present s := rfl
@[simp] theorem exec_proofOverdue (mech : Fin 16) (inst : Fin 16) (s : State) : exec (.proofOverdue mech inst) s = execProofOverdue mech inst s := rfl
@[simp] theorem exec_reproof (s : State) : exec (.reproof) s = execReproof s := rfl
@[simp] theorem exec_proofNow (w : Fin 8) (v : Word) (s : State) : exec (.proofNow w v) s = execProofNow w v s := rfl
@[simp] theorem exec_proofPause (w : Fin 8) (v : Word) (s : State) : exec (.proofPause w v) s = execProofPause w v s := rfl
@[simp] theorem exec_proofResume (w : Fin 8) (v : Word) (s : State) : exec (.proofResume w v) s = execProofResume w v s := rfl
@[simp] theorem exec_pauseExpiry (s : State) : exec (.pauseExpiry) s = execPauseExpiry s := rfl
@[simp] theorem exec_faultOccurrence (n : Fin 62) (res : Fin 17) (ward : Fin 8) (detail : Word) (s : State) : exec (.faultOccurrence n res ward detail) s = execFaultOccurrence n res ward detail s := rfl
@[simp] theorem exec_faultCauseEnd (n : Fin 62) (res : Fin 17) (s : State) : exec (.faultCauseEnd n res) s = execFaultCauseEnd n res s := rfl
@[simp] theorem exec_faultClear (w : Fin 8) (word : Fin 2) (v : Word) (s : State) : exec (.faultClear w word v) s = execFaultClear w word v s := rfl
@[simp] theorem exec_fltForce (word : Fin 2) (v : Word) (s : State) : exec (.fltForce word v) s = execFltForce word v s := rfl
@[simp] theorem exec_fltSelf (field : Bool) (second : Bool) (s : State) : exec (.fltSelf field second) s = execFltSelf field second s := rfl
@[simp] theorem exec_wdgKick (w : Fin 8) (k : Fin 9) (v : Word) (s : State) : exec (.wdgKick w k v) s = execWdgKick w k v s := rfl
@[simp] theorem exec_wardWatchdogExpiry (w : Fin 8) (s : State) : exec (.wardWatchdogExpiry w) s = execWardWatchdogExpiry w s := rfl
@[simp] theorem exec_dwdExpiry (s : State) : exec (.dwdExpiry) s = execDwdExpiry s := rfl
@[simp] theorem exec_wdoPulseEnd (s : State) : exec (.wdoPulseEnd) s = execWdoPulseEnd s := rfl
@[simp] theorem exec_bstLogic (w : Fin 8) (v : Word) (s : State) : exec (.bstLogic w v) s = execBstLogic w v s := rfl
@[simp] theorem exec_bstField (w : Fin 8) (v : Word) (s : State) : exec (.bstField w v) s = execBstField w v s := rfl
@[simp] theorem exec_bstLogicThenField (w : Fin 8) (v : Word) (s : State) : exec (.bstLogicThenField w v) s = execBstLogicThenField w v s := rfl
@[simp] theorem exec_groupTestDone (sig : Word) (selfOk : Bool) (badCopies : Fin 3) (s : State) : exec (.groupTestDone sig selfOk badCopies) s = execGroupTestDone sig selfOk badCopies s := rfl
@[simp] theorem exec_logicLbistEnd (s : State) : exec (.logicLbistEnd) s = execLogicLbistEnd s := rfl
@[simp] theorem exec_fieldLbistEnd (sigs : List Word) (selfOk : Bool) (confirmed : Bool) (s : State) : exec (.fieldLbistEnd sigs selfOk confirmed) s = execFieldLbistEnd sigs selfOk confirmed s := rfl
@[simp] theorem exec_testAbort (n : Fin 62) (detail : Word) (s : State) : exec (.testAbort n detail) s = execTestAbort n detail s := rfl
@[simp] theorem exec_bootLbist (sigs : List Word) (selfOk : Bool) (time : BitVec 16) (s : State) : exec (.bootLbist sigs selfOk time) s = execBootLbist sigs selfOk time s := rfl
@[simp] theorem exec_bootMemTest (bad : List (Fin 48 × Fin 4096)) (s : State) : exec (.bootMemTest bad) s = execBootMemTest bad s := rfl
@[simp] theorem exec_bstXctrlWrite (w : Fin 8) (v : Word) (s : State) : exec (.bstXctrlWrite w v) s = execBstXctrlWrite w v s := rfl
@[simp] theorem exec_recordIntake (typ : Byte) (source : Byte) (sev : Fin 5) (ward : Byte) (payload : List Word) (s : State) : exec (.recordIntake typ source sev ward payload) s = execRecordIntake typ source sev ward payload s := rfl
@[simp] theorem exec_recordWriteStart (s : State) : exec (.recordWriteStart) s = execRecordWriteStart s := rfl
@[simp] theorem exec_ringWrite (s : State) : exec (.ringWrite) s = execRingWrite s := rfl
@[simp] theorem exec_gapRecord (s : State) : exec (.gapRecord) s = execGapRecord s := rfl
@[simp] theorem exec_pageSubmit (s : State) : exec (.pageSubmit) s = execPageSubmit s := rfl
@[simp] theorem exec_pageProgramDone (res : Fin 3) (mirrorOk : Bool) (s : State) : exec (.pageProgramDone res mirrorOk) s = execPageProgramDone res mirrorOk s := rfl
@[simp] theorem exec_sectorReclaim (s : State) : exec (.sectorReclaim) s = execSectorReclaim s := rfl
@[simp] theorem exec_journalEraseDone (res : Fin 3) (mirrorOk : Bool) (s : State) : exec (.journalEraseDone res mirrorOk) s = execJournalEraseDone res mirrorOk s := rfl
@[simp] theorem exec_journalScan (ok : Bool) (s : State) : exec (.journalScan ok) s = execJournalScan ok s := rfl
@[simp] theorem exec_recRdSqbHiRead (w : Fin 8) (s : State) : exec (.recRdSqbHiRead w) s = execRecRdSqbHiRead w s := rfl
@[simp] theorem exec_newestSeqRead (w : Fin 8) (s : State) : exec (.newestSeqRead w) s = execNewestSeqRead w s := rfl
@[simp] theorem exec_journalPageRead (w : Fin 8) (v : Word) (s : State) : exec (.journalPageRead w v) s = execJournalPageRead w v s := rfl
@[simp] theorem exec_journalReadDone (ok : Bool) (s : State) : exec (.journalReadDone ok) s = execJournalReadDone ok s := rfl
@[simp] theorem exec_nonceRead (w : Fin 8) (s : State) : exec (.nonceRead w) s = execNonceRead w s := rfl
@[simp] theorem exec_nonceExpiry (s : State) : exec (.nonceExpiry) s = execNonceExpiry s := rfl
@[simp] theorem exec_tokenCheck (w : Fin 8) (v : Word) (s : State) : exec (.tokenCheck w v) s = execTokenCheck w v s := rfl
@[simp] theorem exec_clear (s : State) : exec (.clear) s = execClear s := rfl
@[simp] theorem exec_keyProgram (w : Fin 8) (v : Word) (s : State) : exec (.keyProgram w v) s = execKeyProgram w v s := rfl
@[simp] theorem exec_keyProgramDone (good : Bool) (s : State) : exec (.keyProgramDone good) s = execKeyProgramDone good s := rfl
@[simp] theorem exec_pendingRecord (k : Fin 4) (w3 : Word) (w4 : Word) (w5 : Word) (s : State) : exec (.pendingRecord k w3 w4 w5) s = execPendingRecord k w3 w4 w5 s := rfl
@[simp] theorem exec_recRtWrite (w : Fin 8) (v : Word) (s : State) : exec (.recRtWrite w v) s = execRecRtWrite w v s := rfl
@[simp] theorem exec_powerOnSecond (barrierMs : Fin 1001) (s : State) : exec (.powerOnSecond barrierMs) s = execPowerOnSecond barrierMs s := rfl
@[simp] theorem exec_fieldSnapshot (s : State) : exec (.fieldSnapshot) s = execFieldSnapshot s := rfl
@[simp] theorem exec_mirrorStart (s : State) : exec (.mirrorStart) s = execMirrorStart s := rfl
@[simp] theorem exec_mirror (w : Fin 8) (v : Word) (s : State) : exec (.mirror w v) s = execMirror w v s := rfl
@[simp] theorem exec_mirrorDone (res : Fin 3) (mirrorOk : Bool) (s : State) : exec (.mirrorDone res mirrorOk) s = execMirrorDone res mirrorOk s := rfl
@[simp] theorem exec_rebase (s : State) : exec (.rebase) s = execRebase s := rfl
@[simp] theorem exec_ledgerRestore (s : State) : exec (.ledgerRestore) s = execLedgerRestore s := rfl
@[simp] theorem exec_lifeWindowRead (w : Fin 8) (s : State) : exec (.lifeWindowRead w) s = execLifeWindowRead w s := rfl
@[simp] theorem exec_vddValid (vdd : BitVec 16) (s : State) : exec (.vddValid vdd) s = execVddValid vdd s := rfl
@[simp] theorem exec_holdUpEndVoltage (s : State) : exec (.holdUpEndVoltage) s = execHoldUpEndVoltage s := rfl
@[simp] theorem exec_retentionFloor (s : State) : exec (.retentionFloor) s = execRetentionFloor s := rfl
@[simp] theorem exec_testPinChange (field : Bool) (level : Bool) (s : State) : exec (.testPinChange field level) s = execTestPinChange field level s := rfl
@[simp] theorem exec_nvmCutoff (shifting : Bool) (s : State) : exec (.nvmCutoff shifting) s = execNvmCutoff shifting s := rfl
@[simp] theorem exec_laneNotInService (lane : Fin 4) (s : State) : exec (.laneNotInService lane) s = execLaneNotInService lane s := rfl
@[simp] theorem exec_limitEnd (c : Fin 16) (s : State) : exec (.limitEnd c) s = execLimitEnd c s := rfl
@[simp] theorem exec_restartThreshold (c : Fin 16) (s : State) : exec (.restartThreshold c) s = execRestartThreshold c s := rfl
@[simp] theorem exec_boltRelSend (s : State) : exec (.boltRelSend) s = execBoltRelSend s := rfl

/-- A choice between two such changes is one. -/
theorem on_ite {q : Prop} [Decidable q] {a b : Host.Outcome State Fault Refusal} {s : State} (x : ∃ f : Hub → Hub, a = s.on f)
    (y : ∃ f : Hub → Hub, b = s.on f) : ∃ f : Hub → Hub, (if q then a else b) = s.on f := by
  split
  · exact x
  · exact y

/-- A Luanen frame does what the row of its command does, or is discarded. -/
theorem lsyFrame_on (up : Bool) (start line : List Bool) (s : State) : ∃ f : Hub → Hub, lsyFrame up start line s = s.on f := by
  unfold lsyFrame
  dsimp only
  split
  · exact ⟨_, rfl⟩
  · repeat' (refine on_ite ?_ ?_)
    all_goals exact ⟨_, rfl⟩

/-- Every command is a change of the hub followed by what follows by itself. -/
theorem exec_on (c : Instr) (s : State) : ∃ f : Hub → Hub, exec c s = s.on f :=
  match c with
  | .powerOnReset band vdd => ⟨_, (exec_powerOnReset band vdd s).trans rfl⟩
  | .vholdCharged vhold => ⟨_, (exec_vholdCharged vhold s).trans rfl⟩
  | .vholdCapMeasure us => ⟨_, (exec_vholdCapMeasure us s).trans rfl⟩
  | .vholdLow vhold => ⟨_, (exec_vholdLow vhold s).trans rfl⟩
  | .vddWarningBegin vdd => ⟨_, (exec_vddWarningBegin vdd s).trans rfl⟩
  | .vminSample v => ⟨_, (exec_vminSample v s).trans rfl⟩
  | .vddWarningEnd vdd => ⟨_, (exec_vddWarningEnd vdd s).trans rfl⟩
  | .orderlyPowerDown vdd => ⟨_, (exec_orderlyPowerDown vdd s).trans rfl⟩
  | .powerDownStep vhold => ⟨_, (exec_powerDownStep vhold s).trans rfl⟩
  | .vddFailed vhold => ⟨_, (exec_vddFailed vhold s).trans rfl⟩
  | .vfLostPd => ⟨_, (exec_vfLostPd s).trans rfl⟩
  | .fieldPowerOnReset => ⟨_, (exec_fieldPowerOnReset s).trans rfl⟩
  | .fieldResetRelease => ⟨_, (exec_fieldResetRelease s).trans rfl⟩
  | .vfValid => ⟨_, (exec_vfValid s).trans rfl⟩
  | .vfUnderVoltage => ⟨_, (exec_vfUnderVoltage s).trans rfl⟩
  | .vfOverVoltage => ⟨_, (exec_vfOverVoltage s).trans rfl⟩
  | .vregFail vregl => ⟨_, (exec_vregFail vregl s).trans rfl⟩
  | .domainWakeRequest d => ⟨_, (exec_domainWakeRequest d s).trans rfl⟩
  | .domainWakeDone d good => ⟨_, (exec_domainWakeDone d good s).trans rfl⟩
  | .bankClearDone m => ⟨_, (exec_bankClearDone m s).trans rfl⟩
  | .pllLock => ⟨_, (exec_pllLock s).trans rfl⟩
  | .pllLockTimeout => ⟨_, (exec_pllLockTimeout s).trans rfl⟩
  | .refclkLost => ⟨_, (exec_refclkLost s).trans rfl⟩
  | .refclkReturn => ⟨_, (exec_refclkReturn s).trans rfl⟩
  | .returnRef w v => ⟨_, (exec_returnRef w v s).trans rfl⟩
  | .mclkWindowEnd count hosc => ⟨_, (exec_mclkWindowEnd count hosc s).trans rfl⟩
  | .clockHaltExit => ⟨_, (exec_clockHaltExit s).trans rfl⟩
  | .fclkWindowEnd count => ⟨_, (exec_fclkWindowEnd count s).trans rfl⟩
  | .timebaseWrap => ⟨_, (exec_timebaseWrap s).trans rfl⟩
  | .clkTbLoRead w => ⟨_, (exec_clkTbLoRead w s).trans rfl⟩
  | .timeS lane high low => ⟨_, (exec_timeS lane high low s).trans rfl⟩
  | .timeL lane high => ⟨_, (exec_timeL lane high s).trans rfl⟩
  | .followerTimeout => ⟨_, (exec_followerTimeout s).trans rfl⟩
  | .hingeFrameReceive lane frame codeOk controlOk stamp late => ⟨_, (exec_hingeFrameReceive lane frame codeOk controlOk stamp late s).trans rfl⟩
  | .idleFrame lane => ⟨_, (exec_idleFrame lane s).trans rfl⟩
  | .laneTraining lane delay => ⟨_, (exec_laneTraining lane delay s).trans rfl⟩
  | .laneDown lane => ⟨_, (exec_laneDown lane s).trans rfl⟩
  | .laneRetry => ⟨_, (exec_laneRetry s).trans rfl⟩
  | .retrain w v => ⟨_, (exec_retrain w v s).trans rfl⟩
  | .hingeLost field => ⟨_, (exec_hingeLost field s).trans rfl⟩
  | .rejoin => ⟨_, (exec_rejoin s).trans rfl⟩
  | .fieldStart => ⟨_, (exec_fieldStart s).trans rfl⟩
  | .outCmd g gen cmds => ⟨_, (exec_outCmd g gen cmds s).trans rfl⟩
  | .outCmdRepeat => ⟨_, (exec_outCmdRepeat s).trans rfl⟩
  | .outStat g gen states => ⟨_, (exec_outStat g gen states s).trans rfl⟩
  | .fsum sticky => ⟨_, (exec_fsum sticky s).trans rfl⟩
  | .fault p chs live detail => ⟨_, (exec_fault p chs live detail s).trans rfl⟩
  | .req tag => ⟨_, (exec_req tag s).trans rfl⟩
  | .rsp tag => ⟨_, (exec_rsp tag s).trans rfl⟩
  | .reqRetry tag => ⟨_, (exec_reqRetry tag s).trans rfl⟩
  | .boltRel => ⟨_, (exec_boltRel s).trans rfl⟩
  | .boltRelExpire => ⟨_, (exec_boltRelExpire s).trans rfl⟩
  | .boltRelRepeat => ⟨_, (exec_boltRelRepeat s).trans rfl⟩
  | .vec t late payload => ⟨_, (exec_vec t late payload s).trans rfl⟩
  | .vecRepeat t off => ⟨_, (exec_vecRepeat t off s).trans rfl⟩
  | .marginMeasure lane m => ⟨_, (exec_marginMeasure lane m s).trans rfl⟩
  | .boltDecision e => ⟨_, (exec_boltDecision e s).trans rfl⟩
  | .boltCode field => ⟨_, (exec_boltCode field s).trans rfl⟩
  | .boltLatchClear => ⟨_, (exec_boltLatchClear s).trans rfl⟩
  | .boltToneChange => ⟨_, (exec_boltToneChange s).trans rfl⟩
  | .fieldToneDecision e => ⟨_, (exec_fieldToneDecision e s).trans rfl⟩
  | .fholdExpiry x => ⟨_, (exec_fholdExpiry x s).trans rfl⟩
  | .fieldConfigCrc upset => ⟨_, (exec_fieldConfigCrc upset s).trans rfl⟩
  | .boot probe0 probe1 lostHeader lostRead => ⟨_, (exec_boot probe0 probe1 lostHeader lostRead s).trans rfl⟩
  | .arming => ⟨_, (exec_arming s).trans rfl⟩
  | .startupTests passed time proofs => ⟨_, (exec_startupTests passed time proofs s).trans rfl⟩
  | .enterRun => ⟨_, (exec_enterRun s).trans rfl⟩
  | .rcvErase w v => ⟨_, (exec_rcvErase w v s).trans rfl⟩
  | .rcvProgram w v => ⟨_, (exec_rcvProgram w v s).trans rfl⟩
  | .rcvRead w v => ⟨_, (exec_rcvRead w v s).trans rfl⟩
  | .rcvReboot w v => ⟨_, (exec_rcvReboot w v s).trans rfl⟩
  | .rcvCommandDone e => ⟨_, (exec_rcvCommandDone e s).trans rfl⟩
  | .blkCheck w v => ⟨_, (exec_blkCheck w v s).trans rfl⟩
  | .blkCheckDone readOk => ⟨_, (exec_blkCheckDone readOk s).trans rfl⟩
  | .blkReboot w v => ⟨_, (exec_blkReboot w v s).trans rfl⟩
  | .blkFuse w v => ⟨_, (exec_blkFuse w v s).trans rfl⟩
  | .fuseDone good => ⟨_, (exec_fuseDone good s).trans rfl⟩
  | .shadowCheck upset inShadow full interval => ⟨_, (exec_shadowCheck upset inShadow full interval s).trans rfl⟩
  | .thermalHalt sensor t => ⟨_, (exec_thermalHalt sensor t s).trans rfl⟩
  | .fieldGlobalShutdown sensor t => ⟨_, (exec_fieldGlobalShutdown sensor t s).trans rfl⟩
  | .thermalHaltExit logic field => ⟨_, (exec_thermalHaltExit logic field s).trans rfl⟩
  | .dbtSafeExit w v => ⟨_, (exec_dbtSafeExit w v s).trans rfl⟩
  | .safeLeave => ⟨_, (exec_safeLeave s).trans rfl⟩
  | .outCtrlWrite w c v => ⟨_, (exec_outCtrlWrite w c v s).trans rfl⟩
  | .rearm w c v => ⟨_, (exec_rearm w c v s).trans rfl⟩
  | .thermalShutdown c => ⟨_, (exec_thermalShutdown c s).trans rfl⟩
  | .retryExpiry x => ⟨_, (exec_retryExpiry x s).trans rfl⟩
  | .limitBegin c v => ⟨_, (exec_limitBegin c v s).trans rfl⟩
  | .limitEpisode c => ⟨_, (exec_limitEpisode c s).trans rfl⟩
  | .uvOff x => ⟨_, (exec_uvOff x s).trans rfl⟩
  | .uvRestart x => ⟨_, (exec_uvRestart x s).trans rfl⟩
  | .offStateCheck x => ⟨_, (exec_offStateCheck x s).trans rfl⟩
  | .offStateCheckEnd c v => ⟨_, (exec_offStateCheckEnd c v s).trans rfl⟩
  | .litCheck c => ⟨_, (exec_litCheck c s).trans rfl⟩
  | .litCheckEnd c fine => ⟨_, (exec_litCheckEnd c fine s).trans rfl⟩
  | .readback c v normal fine => ⟨_, (exec_readback c v normal fine s).trans rfl⟩
  | .darkPulse c => ⟨_, (exec_darkPulse c s).trans rfl⟩
  | .pulseEnd x v cur => ⟨_, (exec_pulseEnd x v cur s).trans rfl⟩
  | .tpMiss x => ⟨_, (exec_tpMiss x s).trans rfl⟩
  | .pwmEdgeCheck c v => ⟨_, (exec_pwmEdgeCheck c v s).trans rfl⟩
  | .pairMismatch x => ⟨_, (exec_pairMismatch x s).trans rfl⟩
  | .outRtWrite w c v => ⟨_, (exec_outRtWrite w c v s).trans rfl⟩
  | .outFltClear w c v => ⟨_, (exec_outFltClear w c v s).trans rfl⟩
  | .inputCrossing c l => ⟨_, (exec_inputCrossing c l s).trans rfl⟩
  | .debounceAccept x => ⟨_, (exec_debounceAccept x s).trans rfl⟩
  | .inTsLoRead w c => ⟨_, (exec_inTsLoRead w c s).trans rfl⟩
  | .inputMeasure c v cur => ⟨_, (exec_inputMeasure c v cur s).trans rfl⟩
  | .wireBreak x => ⟨_, (exec_wireBreak x s).trans rfl⟩
  | .tpWindowEnd x => ⟨_, (exec_tpWindowEnd x s).trans rfl⟩
  | .tpLate x => ⟨_, (exec_tpLate x s).trans rfl⟩
  | .foreignWindowEnd x => ⟨_, (exec_foreignWindowEnd x s).trans rfl⟩
  | .inFltClear w c v => ⟨_, (exec_inFltClear w c v s).trans rfl⟩
  | .issuePoint t => ⟨_, (exec_issuePoint t s).trans rfl⟩
  | .stop t => ⟨_, (exec_stop t s).trans rfl⟩
  | .vecInstruction t => ⟨_, (exec_vecInstruction t s).trans rfl⟩
  | .loop t => ⟨_, (exec_loop t s).trans rfl⟩
  | .endl t => ⟨_, (exec_endl t s).trans rfl⟩
  | .jmp t => ⟨_, (exec_jmp t s).trans rfl⟩
  | .brc t => ⟨_, (exec_brc t s).trans rfl⟩
  | .wait t => ⟨_, (exec_wait t s).trans rfl⟩
  | .waitTimeout t => ⟨_, (exec_waitTimeout t s).trans rfl⟩
  | .call t => ⟨_, (exec_call t s).trans rfl⟩
  | .ret t => ⟨_, (exec_ret t s).trans rfl⟩
  | .tset t => ⟨_, (exec_tset t s).trans rfl⟩
  | .march t => ⟨_, (exec_march t s).trans rfl⟩
  | .sig t => ⟨_, (exec_sig t s).trans rfl⟩
  | .cycleStart t => ⟨_, (exec_cycleStart t s).trans rfl⟩
  | .tmbStart w t v => ⟨_, (exec_tmbStart w t v s).trans rfl⟩
  | .tmbStop w t v => ⟨_, (exec_tmbStop w t v s).trans rfl⟩
  | .tmbJump w t v => ⟨_, (exec_tmbJump w t v s).trans rfl⟩
  | .heavyVectorStall t => ⟨_, (exec_heavyVectorStall t s).trans rfl⟩
  | .deadlineMiss t => ⟨_, (exec_deadlineMiss t s).trans rfl⟩
  | .compareSlotEval j r => ⟨_, (exec_compareSlotEval j r s).trans rfl⟩
  | .tmbCmpThrWrite w j v => ⟨_, (exec_tmbCmpThrWrite w j v s).trans rfl⟩
  | .dpWriteLow w d n v => ⟨_, (exec_dpWriteLow w d n v s).trans rfl⟩
  | .dpWriteHigh w d n v => ⟨_, (exec_dpWriteHigh w d n v s).trans rfl⟩
  | .dpReadLow w d n => ⟨_, (exec_dpReadLow w d n s).trans rfl⟩
  | .syncPulseSend => ⟨_, (exec_syncPulseSend s).trans rfl⟩
  | .syncPulseReceive x => ⟨_, (exec_syncPulseReceive x s).trans rfl⟩
  | .lsyFrameReceive up start line => lsyFrame_on up start line s
  | .timeLo v => ⟨_, (exec_timeLo v s).trans rfl⟩
  | .timeHi v => ⟨_, (exec_timeHi v s).trans rfl⟩
  | .enumMsg v => ⟨_, (exec_enumMsg v s).trans rfl⟩
  | .calStart v => ⟨_, (exec_calStart v s).trans rfl⟩
  | .calEcho missing rt => ⟨_, (exec_calEcho missing rt s).trans rfl⟩
  | .calDelay v => ⟨_, (exec_calDelay v s).trans rfl⟩
  | .mark v => ⟨_, (exec_mark v s).trans rfl⟩
  | .hb up v => ⟨_, (exec_hb up v s).trans rfl⟩
  | .pairHbTimeout => ⟨_, (exec_pairHbTimeout s).trans rfl⟩
  | .pairClose v => ⟨_, (exec_pairClose v s).trans rfl⟩
  | .pairTurnOn => ⟨_, (exec_pairTurnOn s).trans rfl⟩
  | .present v => ⟨_, (exec_present v s).trans rfl⟩
  | .breakMsg v => ⟨_, (exec_breakMsg v s).trans rfl⟩
  | .recalReq v => ⟨_, (exec_recalReq v s).trans rfl⟩
  | .user up v => ⟨_, (exec_user up v s).trans rfl⟩
  | .upstreamLost => ⟨_, (exec_upstreamLost s).trans rfl⟩
  | .downstreamLost => ⟨_, (exec_downstreamLost s).trans rfl⟩
  | .chainResumed => ⟨_, (exec_chainResumed s).trans rfl⟩
  | .recal w v => ⟨_, (exec_recal w v s).trans rfl⟩
  | .recalInterval => ⟨_, (exec_recalInterval s).trans rfl⟩
  | .luanenEvent k => ⟨_, (exec_luanenEvent k s).trans rfl⟩
  | .lsyRxRead w => ⟨_, (exec_lsyRxRead w s).trans rfl⟩
  | .writeFrame p header data crc k => ⟨_, (exec_writeFrame p header data crc k s).trans rfl⟩
  | .readFrame p header crc k => ⟨_, (exec_readFrame p header crc k s).trans rfl⟩
  | .doorbell p header v crc k => ⟨_, (exec_doorbell p header v crc k s).trans rfl⟩
  | .wrdExpOpen w v => ⟨_, (exec_wrdExpOpen w v s).trans rfl⟩
  | .descriptorAccept w => ⟨_, (exec_descriptorAccept w s).trans rfl⟩
  | .dispatch => ⟨_, (exec_dispatch s).trans rfl⟩
  | .nop slot => ⟨_, (exec_nop slot s).trans rfl⟩
  | .regw slot => ⟨_, (exec_regw slot s).trans rfl⟩
  | .regr slot => ⟨_, (exec_regr slot s).trans rfl⟩
  | .bankCopy slot => ⟨_, (exec_bankCopy slot s).trans rfl⟩
  | .bankFill slot => ⟨_, (exec_bankFill slot s).trans rfl⟩
  | .atomAdd slot => ⟨_, (exec_atomAdd slot s).trans rfl⟩
  | .atomSwap slot => ⟨_, (exec_atomSwap slot s).trans rfl⟩
  | .tmbOpStart slot => ⟨_, (exec_tmbOpStart slot s).trans rfl⟩
  | .tmbOpStop slot => ⟨_, (exec_tmbOpStop slot s).trans rfl⟩
  | .tmbOpJump slot => ⟨_, (exec_tmbOpJump slot s).trans rfl⟩
  | .meas slot conv => ⟨_, (exec_meas slot conv s).trans rfl⟩
  | .diag slot v normal fine => ⟨_, (exec_diag slot v normal fine s).trans rfl⟩
  | .nvmRead slot => ⟨_, (exec_nvmRead slot s).trans rfl⟩
  | .nvmProgram slot => ⟨_, (exec_nvmProgram slot s).trans rfl⟩
  | .nvmErase slot => ⟨_, (exec_nvmErase slot s).trans rfl⟩
  | .nvmOperationDone res mirrorOk => ⟨_, (exec_nvmOperationDone res mirrorOk s).trans rfl⟩
  | .timed slot => ⟨_, (exec_timed slot s).trans rfl⟩
  | .timedRelease slot => ⟨_, (exec_timedRelease slot s).trans rfl⟩
  | .lsy slot => ⟨_, (exec_lsy slot s).trans rfl⟩
  | .completion slot => ⟨_, (exec_completion slot s).trans rfl⟩
  | .opsCancel w v => ⟨_, (exec_opsCancel w v s).trans rfl⟩
  | .opsCqIdxWrite w v => ⟨_, (exec_opsCqIdxWrite w v s).trans rfl⟩
  | .tokenRefill w => ⟨_, (exec_tokenRefill w s).trans rfl⟩
  | .opsQosRtWrite w v => ⟨_, (exec_opsQosRtWrite w v s).trans rfl⟩
  | .intEvent w bit => ⟨_, (exec_intEvent w bit s).trans rfl⟩
  | .moderationExpiry w => ⟨_, (exec_moderationExpiry w s).trans rfl⟩
  | .intPulseEnd p => ⟨_, (exec_intPulseEnd p s).trans rfl⟩
  | .intStatClear w v => ⟨_, (exec_intStatClear w v s).trans rfl⟩
  | .intEnWrite w v => ⟨_, (exec_intEnWrite w v s).trans rfl⟩
  | .intSet w v => ⟨_, (exec_intSet w v s).trans rfl⟩
  | .intModWrite w v => ⟨_, (exec_intModWrite w v s).trans rfl⟩
  | .rstnLow shifting => ⟨_, (exec_rstnLow shifting s).trans rfl⟩
  | .rstnRelease => ⟨_, (exec_rstnRelease s).trans rfl⟩
  | .rstDev w v => ⟨_, (exec_rstDev w v s).trans rfl⟩
  | .deviceSoftReset => ⟨_, (exec_deviceSoftReset s).trans rfl⟩
  | .rstWard w v => ⟨_, (exec_rstWard w v s).trans rfl⟩
  | .wardResetDone w => ⟨_, (exec_wardResetDone w s).trans rfl⟩
  | .rstField w v => ⟨_, (exec_rstField w v s).trans rfl⟩
  | .fieldResetRequest => ⟨_, (exec_fieldResetRequest s).trans rfl⟩
  | .fieldResetTimeout => ⟨_, (exec_fieldResetTimeout s).trans rfl⟩
  | .bnkOwnerWrite w b v => ⟨_, (exec_bnkOwnerWrite w b v s).trans rfl⟩
  | .drainComplete b => ⟨_, (exec_drainComplete b s).trans rfl⟩
  | .handoverScrubDone b => ⟨_, (exec_handoverScrubDone b s).trans rfl⟩
  | .bnkHandedClear w b v => ⟨_, (exec_bnkHandedClear w b v s).trans rfl⟩
  | .retainWrite w b v => ⟨_, (exec_retainWrite w b v s).trans rfl⟩
  | .bitSet w b word v => ⟨_, (exec_bitSet w b word v s).trans rfl⟩
  | .bitClear w b word v => ⟨_, (exec_bitClear w b word v s).trans rfl⟩
  | .eccUncorrectable b word v => ⟨_, (exec_eccUncorrectable b word v s).trans rfl⟩
  | .eccCorrected b word => ⟨_, (exec_eccCorrected b word s).trans rfl⟩
  | .scrubRead b word us => ⟨_, (exec_scrubRead b word us s).trans rfl⟩
  | .thermalModelUpdate v cur own rails temps => ⟨_, (exec_thermalModelUpdate v cur own rails temps s).trans rfl⟩
  | .schedulerDecision => ⟨_, (exec_schedulerDecision s).trans rfl⟩
  | .thermWarn sensor t => ⟨_, (exec_thermWarn sensor t s).trans rfl⟩
  | .eraseDayBoundary => ⟨_, (exec_eraseDayBoundary s).trans rfl⟩
  | .schRtWrite w v => ⟨_, (exec_schRtWrite w v s).trans rfl⟩
  | .heartbeatSend field => ⟨_, (exec_heartbeatSend field s).trans rfl⟩
  | .hbReceive field payload stamp => ⟨_, (exec_hbReceive field payload stamp s).trans rfl⟩
  | .heartbeatLoss field => ⟨_, (exec_heartbeatLoss field s).trans rfl⟩
  | .soscBLoss => ⟨_, (exec_soscBLoss s).trans rfl⟩
  | .adcComparison q kind a b => ⟨_, (exec_adcComparison q kind a b s).trans rfl⟩
  | .adcConfirm q kind a b => ⟨_, (exec_adcConfirm q kind a b s).trans rfl⟩
  | .tempComparison sensor a b => ⟨_, (exec_tempComparison sensor a b s).trans rfl⟩
  | .proofStart => ⟨_, (exec_proofStart s).trans rfl⟩
  | .proofDetect ticks => ⟨_, (exec_proofDetect ticks s).trans rfl⟩
  | .proofTimeout => ⟨_, (exec_proofTimeout s).trans rfl⟩
  | .recheckEnd present => ⟨_, (exec_recheckEnd present s).trans rfl⟩
  | .proofOverdue mech inst => ⟨_, (exec_proofOverdue mech inst s).trans rfl⟩
  | .reproof => ⟨_, (exec_reproof s).trans rfl⟩
  | .proofNow w v => ⟨_, (exec_proofNow w v s).trans rfl⟩
  | .proofPause w v => ⟨_, (exec_proofPause w v s).trans rfl⟩
  | .proofResume w v => ⟨_, (exec_proofResume w v s).trans rfl⟩
  | .pauseExpiry => ⟨_, (exec_pauseExpiry s).trans rfl⟩
  | .faultOccurrence n res ward detail => ⟨_, (exec_faultOccurrence n res ward detail s).trans rfl⟩
  | .faultCauseEnd n res => ⟨_, (exec_faultCauseEnd n res s).trans rfl⟩
  | .faultClear w word v => ⟨_, (exec_faultClear w word v s).trans rfl⟩
  | .fltForce word v => ⟨_, (exec_fltForce word v s).trans rfl⟩
  | .fltSelf field second => ⟨_, (exec_fltSelf field second s).trans rfl⟩
  | .wdgKick w k v => ⟨_, (exec_wdgKick w k v s).trans rfl⟩
  | .wardWatchdogExpiry w => ⟨_, (exec_wardWatchdogExpiry w s).trans rfl⟩
  | .dwdExpiry => ⟨_, (exec_dwdExpiry s).trans rfl⟩
  | .wdoPulseEnd => ⟨_, (exec_wdoPulseEnd s).trans rfl⟩
  | .bstLogic w v => ⟨_, (exec_bstLogic w v s).trans rfl⟩
  | .bstField w v => ⟨_, (exec_bstField w v s).trans rfl⟩
  | .bstLogicThenField w v => ⟨_, (exec_bstLogicThenField w v s).trans rfl⟩
  | .groupTestDone sig selfOk badCopies => ⟨_, (exec_groupTestDone sig selfOk badCopies s).trans rfl⟩
  | .logicLbistEnd => ⟨_, (exec_logicLbistEnd s).trans rfl⟩
  | .fieldLbistEnd sigs selfOk confirmed => ⟨_, (exec_fieldLbistEnd sigs selfOk confirmed s).trans rfl⟩
  | .testAbort n detail => ⟨_, (exec_testAbort n detail s).trans rfl⟩
  | .bootLbist sigs selfOk time => ⟨_, (exec_bootLbist sigs selfOk time s).trans rfl⟩
  | .bootMemTest bad => ⟨_, (exec_bootMemTest bad s).trans rfl⟩
  | .bstXctrlWrite w v => ⟨_, (exec_bstXctrlWrite w v s).trans rfl⟩
  | .recordIntake typ source sev ward payload => ⟨_, (exec_recordIntake typ source sev ward payload s).trans rfl⟩
  | .recordWriteStart => ⟨_, (exec_recordWriteStart s).trans rfl⟩
  | .ringWrite => ⟨_, (exec_ringWrite s).trans rfl⟩
  | .gapRecord => ⟨_, (exec_gapRecord s).trans rfl⟩
  | .pageSubmit => ⟨_, (exec_pageSubmit s).trans rfl⟩
  | .pageProgramDone res mirrorOk => ⟨_, (exec_pageProgramDone res mirrorOk s).trans rfl⟩
  | .sectorReclaim => ⟨_, (exec_sectorReclaim s).trans rfl⟩
  | .journalEraseDone res mirrorOk => ⟨_, (exec_journalEraseDone res mirrorOk s).trans rfl⟩
  | .journalScan ok => ⟨_, (exec_journalScan ok s).trans rfl⟩
  | .recRdSqbHiRead w => ⟨_, (exec_recRdSqbHiRead w s).trans rfl⟩
  | .newestSeqRead w => ⟨_, (exec_newestSeqRead w s).trans rfl⟩
  | .journalPageRead w v => ⟨_, (exec_journalPageRead w v s).trans rfl⟩
  | .journalReadDone ok => ⟨_, (exec_journalReadDone ok s).trans rfl⟩
  | .nonceRead w => ⟨_, (exec_nonceRead w s).trans rfl⟩
  | .nonceExpiry => ⟨_, (exec_nonceExpiry s).trans rfl⟩
  | .tokenCheck w v => ⟨_, (exec_tokenCheck w v s).trans rfl⟩
  | .clear => ⟨_, (exec_clear s).trans rfl⟩
  | .keyProgram w v => ⟨_, (exec_keyProgram w v s).trans rfl⟩
  | .keyProgramDone good => ⟨_, (exec_keyProgramDone good s).trans rfl⟩
  | .pendingRecord k w3 w4 w5 => ⟨_, (exec_pendingRecord k w3 w4 w5 s).trans rfl⟩
  | .recRtWrite w v => ⟨_, (exec_recRtWrite w v s).trans rfl⟩
  | .powerOnSecond barrierMs => ⟨_, (exec_powerOnSecond barrierMs s).trans rfl⟩
  | .fieldSnapshot => ⟨_, (exec_fieldSnapshot s).trans rfl⟩
  | .mirrorStart => ⟨_, (exec_mirrorStart s).trans rfl⟩
  | .mirror w v => ⟨_, (exec_mirror w v s).trans rfl⟩
  | .mirrorDone res mirrorOk => ⟨_, (exec_mirrorDone res mirrorOk s).trans rfl⟩
  | .rebase => ⟨_, (exec_rebase s).trans rfl⟩
  | .ledgerRestore => ⟨_, (exec_ledgerRestore s).trans rfl⟩
  | .lifeWindowRead w => ⟨_, (exec_lifeWindowRead w s).trans rfl⟩
  | .vddValid vdd => ⟨_, (exec_vddValid vdd s).trans rfl⟩
  | .holdUpEndVoltage => ⟨_, (exec_holdUpEndVoltage s).trans rfl⟩
  | .retentionFloor => ⟨_, (exec_retentionFloor s).trans rfl⟩
  | .testPinChange field level => ⟨_, (exec_testPinChange field level s).trans rfl⟩
  | .nvmCutoff shifting => ⟨_, (exec_nvmCutoff shifting s).trans rfl⟩
  | .laneNotInService lane => ⟨_, (exec_laneNotInService lane s).trans rfl⟩
  | .limitEnd c => ⟨_, (exec_limitEnd c s).trans rfl⟩
  | .restartThreshold c => ⟨_, (exec_restartThreshold c s).trans rfl⟩
  | .boltRelSend => ⟨_, (exec_boltRelSend s).trans rfl⟩

end Sys2Proof.Machine
end

