-- ==== Sys2Proof/Laws/Memory.lean ====
section
/-!
SUPPORT. The laws of the memories: every operation keeps the canonical form, a read after a write to the same address gives
the byte written, and a write leaves every other address alone.
-/

namespace Sys2Proof.Machine

/-- The canonical form, said of the whole list: strictly rising addresses, no cell at the unlisted value. -/
theorem memory_wf_iff (d : BitVec 8) (m : List Host.Cell) :
    Memory.wf d m = true ↔ m.Pairwise (fun x y => x.1 < y.1) ∧ ∀ c ∈ m, c.2 ≠ d := by
  induction m with
  | nil => simp [Memory.wf]
  | cons c rest ih =>
    cases rest with
    | nil => simp [Memory.wf]
    | cons e rest =>
      have hw : Memory.wf d (c :: e :: rest) = (decide (c.1 < e.1) && c.2 != d && Memory.wf d (e :: rest)) := rfl
      rw [hw, Bool.and_eq_true, Bool.and_eq_true, ih, decide_eq_true_eq, bne_iff_ne]
      constructor
      · rintro ⟨⟨h1, h2⟩, h3, h4⟩
        refine ⟨List.pairwise_cons.mpr ⟨fun y hy => ?_, h3⟩, fun x hx => ?_⟩
        · rcases List.mem_cons.mp hy with rfl | hy
          · exact h1
          · exact lt_trans h1 ((List.pairwise_cons.mp h3).1 y hy)
        · rcases List.mem_cons.mp hx with rfl | hx
          · exact h2
          · exact h4 x hx
      · rintro ⟨h1, h2⟩
        exact ⟨⟨(List.pairwise_cons.mp h1).1 e (by simp), h2 c (by simp)⟩, (List.pairwise_cons.mp h1).2,
          fun x hx => h2 x (List.mem_cons_of_mem _ hx)⟩

/-- Cells left out of a memory keep the canonical form. -/
theorem memory_wf_filter {d : BitVec 8} {m : List Host.Cell} (p : Host.Cell → Bool) (hm : Memory.wf d m = true) :
    Memory.wf d (m.filter p) = true := by
  rw [memory_wf_iff] at hm ⊢
  exact ⟨hm.1.filter _, fun c hc => hm.2 c (List.mem_filter.mp hc).1⟩

/-- A put cell is one of the old cells or the new one. -/
theorem mem_cellPut {m : List Host.Cell} {a : Nat} {b : BitVec 8} {x : Host.Cell} (hx : x ∈ cellPut m a b) :
    x = (a, b) ∨ x ∈ m := by
  induction m with
  | nil => simpa [cellPut] using hx
  | cons c rest ih =>
    obtain ⟨k, v⟩ := c
    unfold cellPut at hx
    split at hx
    · simpa using hx
    · split at hx
      · rcases List.mem_cons.mp hx with h | h
        · exact Or.inl h
        · exact Or.inr (List.mem_cons_of_mem _ h)
      · rcases List.mem_cons.mp hx with h | h
        · exact Or.inr (by simp [h])
        · rcases ih h with h | h
          · exact Or.inl h
          · exact Or.inr (List.mem_cons_of_mem _ h)

/-- A cell put at its place keeps addresses rising. -/
theorem cellPut_rising {m : List Host.Cell} {a : Nat} {b : BitVec 8} (hm : m.Pairwise (fun x y => x.1 < y.1)) :
    (cellPut m a b).Pairwise (fun x y => x.1 < y.1) := by
  induction m with
  | nil => simp [cellPut]
  | cons c rest ih =>
    obtain ⟨k, v⟩ := c
    have hc := List.pairwise_cons.mp hm
    unfold cellPut
    split
    · rename_i h1
      refine List.pairwise_cons.mpr ⟨fun y hy => ?_, hm⟩
      rcases List.mem_cons.mp hy with rfl | hy
      · exact h1
      · exact lt_trans h1 (hc.1 y hy)
    · split
      · rename_i _ h2
        subst h2
        exact List.pairwise_cons.mpr ⟨hc.1, hc.2⟩
      · rename_i h1 h2
        refine List.pairwise_cons.mpr ⟨fun y hy => ?_, ih hc.2⟩
        rcases mem_cellPut hy with rfl | hy
        · simp only
          omega
        · exact hc.1 y hy

/-- A write keeps the canonical form. -/
theorem memory_wf_cellSet {d : BitVec 8} {m : List Host.Cell} (a : Nat) (b : BitVec 8) (hm : Memory.wf d m = true) :
    Memory.wf d (cellSet d m a b) = true := by
  have hf := memory_wf_filter (fun c => c.1 != a) hm
  simp only [cellSet]
  split
  · exact hf
  · rename_i hb
    rw [memory_wf_iff] at hf ⊢
    refine ⟨cellPut_rising hf.1, fun c hc => ?_⟩
    rcases mem_cellPut hc with rfl | hc
    · exact hb
    · exact hf.2 c hc

/-- A range cleared keeps the canonical form. -/
theorem memory_wf_cellClear {d : BitVec 8} {m : List Host.Cell} (lo hi : Nat) (hm : Memory.wf d m = true) :
    Memory.wf d (cellClear m lo hi) = true := memory_wf_filter _ hm

/-- Bytes written keep the canonical form. -/
theorem memory_wf_cellsSet {d : BitVec 8} {m : List Host.Cell} (a : Nat) (bytes : List Nat) (hm : Memory.wf d m = true) :
    Memory.wf d (cellsSet d m a bytes) = true := by
  have hg : ∀ (l : List Nat) (p : List Host.Cell × Nat), Memory.wf d p.1 = true →
      Memory.wf d (l.foldl (fun (p : List Host.Cell × Nat) b => (cellSet d p.1 p.2 (BitVec.ofNat 8 b), p.2 + 1)) p).1 = true := by
    intro l
    induction l with
    | nil => intro p hp; exact hp
    | cons b rest ih => intro p hp; exact ih _ (memory_wf_cellSet _ _ hp)
  exact hg bytes (m, a) hm

/-- A word written keeps the canonical form of the bank memory. -/
theorem setMemWord_wf {h : Hub} (a v : Nat) (hm : Memory.wf 0 h.mem = true) : Memory.wf 0 (h.setMemWord a v).mem = true :=
  memory_wf_cellsSet _ _ hm

/-- A cleared range keeps the canonical form of the bank memory. -/
theorem clearMem_wf {h : Hub} (lo hi : Nat) (hm : Memory.wf 0 h.mem = true) : Memory.wf 0 (h.clearMem lo hi).mem = true :=
  memory_wf_cellClear lo hi hm

/-- A cleared bank keeps the canonical form of the bank memory. -/
theorem clearBank_wf {h : Hub} (b : Nat) (hm : Memory.wf 0 h.mem = true) : Memory.wf 0 (h.clearBank b).mem = true :=
  clearMem_wf _ _ hm

/-- A page program keeps the canonical form of an NVM device. -/
theorem nvmProgram_wf {v : NvmDev} (a : Nat) (bytes : List Nat) (hm : Memory.wf 0xFF v.mem = true) :
    Memory.wf 0xFF (nvmProgram v a bytes).mem = true := memory_wf_cellsSet _ _ hm

/-- An erase keeps the canonical form of an NVM device. -/
theorem nvmErase_wf {v : NvmDev} (a n : Nat) (hm : Memory.wf 0xFF v.mem = true) : Memory.wf 0xFF (nvmErase v a n).mem = true :=
  memory_wf_cellClear _ _ hm

/-- The memory after reset is in canonical form, as are the NVM devices. -/
theorem reset_memory_wf : Memory.wf 0 State.reset.hub.mem = true ∧ State.reset.hub.nvm.toList.all (fun v => Memory.wf 0xFF v.mem) = true := by
  decide

/-- Reading past left-out cells with another address. -/
theorem cellGet_filter_ne {d : BitVec 8} {m : List Host.Cell} {a x : Nat} (hx : x ≠ a) :
    cellGet d (m.filter (fun c => c.1 != a)) x = cellGet d m x := by
  induction m with
  | nil => rfl
  | cons c rest ih =>
    obtain ⟨k, v⟩ := c
    by_cases hk : k = a
    · subst hk
      simp [cellGet, ih, Ne.symm hx]
    · simp [hk, cellGet, ih]

/-- An address whose cells are left out reads as unlisted. -/
theorem cellGet_filter_self (d : BitVec 8) (m : List Host.Cell) (a : Nat) : cellGet d (m.filter (fun c => c.1 != a)) a = d := by
  induction m with
  | nil => rfl
  | cons c rest ih =>
    obtain ⟨k, v⟩ := c
    by_cases hk : k = a
    · subst hk
      simpa using ih
    · simp [hk, cellGet, ih]

/-- A put cell is read back where the address was not listed. -/
theorem cellGet_cellPut_self {d : BitVec 8} {m : List Host.Cell} {a : Nat} {b : BitVec 8} (hm : ∀ c ∈ m, c.1 ≠ a) :
    cellGet d (cellPut m a b) a = b := by
  induction m with
  | nil => simp [cellPut, cellGet]
  | cons c rest ih =>
    obtain ⟨k, v⟩ := c
    have hk : k ≠ a := hm (k, v) (by simp)
    have hr : ∀ c ∈ rest, c.1 ≠ a := fun c hc => hm c (by simp [hc])
    unfold cellPut
    split
    · simp [cellGet]
    · split
      · simp [cellGet]
      · simp [cellGet, hk, ih hr]

/-- A put cell leaves the other addresses alone. -/
theorem cellGet_cellPut_ne {d : BitVec 8} {m : List Host.Cell} {a x : Nat} {b : BitVec 8} (hx : x ≠ a) :
    cellGet d (cellPut m a b) x = cellGet d m x := by
  induction m with
  | nil => simp [cellPut, cellGet, Ne.symm hx]
  | cons c rest ih =>
    obtain ⟨k, v⟩ := c
    unfold cellPut
    split
    · simp [cellGet, Ne.symm hx]
    · split
      · rename_i _ h2
        subst h2
        simp [cellGet, Ne.symm hx]
      · simp [cellGet, ih]

/-- A byte reads as it was written. -/
@[simp] theorem cellGet_cellSet_self (d : BitVec 8) (m : List Host.Cell) (a : Nat) (b : BitVec 8) :
    cellGet d (cellSet d m a b) a = b := by
  simp only [cellSet]
  split
  · rename_i hb
    rw [cellGet_filter_self, hb]
  · exact cellGet_cellPut_self (fun c hc => by simpa using (List.mem_filter.mp hc).2)

/-- A write leaves every other address alone. -/
theorem cellGet_cellSet_ne {d : BitVec 8} {m : List Host.Cell} {a x : Nat} {b : BitVec 8} (hx : x ≠ a) :
    cellGet d (cellSet d m a b) x = cellGet d m x := by
  simp only [cellSet]
  split
  · exact cellGet_filter_ne hx
  · rw [cellGet_cellPut_ne hx, cellGet_filter_ne hx]

/-- Bytes written leave the addresses outside them alone. -/
theorem cellGet_cellsSet_out {d : BitVec 8} {m : List Host.Cell} {a x : Nat} {bytes : List Nat}
    (hx : x < a ∨ a + bytes.length ≤ x) : cellGet d (cellsSet d m a bytes) x = cellGet d m x := by
  have hg : ∀ (l : List Nat) (p : List Host.Cell × Nat), (x < p.2 ∨ p.2 + l.length ≤ x) →
      cellGet d (l.foldl (fun (p : List Host.Cell × Nat) b => (cellSet d p.1 p.2 (BitVec.ofNat 8 b), p.2 + 1)) p).1 x =
        cellGet d p.1 x := by
    intro l
    induction l with
    | nil => intro p _; rfl
    | cons b rest ih =>
      intro p hp
      rw [List.foldl_cons, ih _ (by simp only [List.length_cons] at hp ⊢; omega)]
      exact cellGet_cellSet_ne (by simp only [List.length_cons] at hp; omega)
  exact hg bytes (m, a) hx

/-- A word written leaves every byte outside its four alone. -/
theorem setMemWord_frame {h : Hub} {a v x : Nat} (hx : x < a ∨ a + 4 ≤ x) :
    cellGet 0 (h.setMemWord a v).mem x = cellGet 0 h.mem x :=
  cellGet_cellsSet_out (by simpa [leBytes] using hx)

/-- A word reads as it was written, within its 32 bits. -/
theorem memWord_setMemWord (h : Hub) (a v : Nat) : (h.setMemWord a v).memWord a = v % 2 ^ 32 := by
  have hne : ∀ {m : List Host.Cell} {x y : Nat} {b : BitVec 8}, x ≠ y → cellGet 0 (cellSet 0 m y b) x = cellGet 0 m x :=
    fun hx => cellGet_cellSet_ne hx
  simp only [Hub.memWord, Hub.setMemWord, cellsSet, cellsGet, leBytes, List.range, List.range.loop, List.map, List.foldl, leNat,
    bitsOf, cellGet_cellSet_self, Nat.add_zero]
  rw [hne (by omega : a ≠ a + 1 + 1 + 1), hne (by omega : a ≠ a + 1 + 1), hne (by omega : a ≠ a + 1), cellGet_cellSet_self,
    show a + 2 = a + 1 + 1 from rfl, show a + 3 = a + 1 + 1 + 1 from rfl,
    hne (by omega : a + 1 ≠ a + 1 + 1 + 1), hne (by omega : a + 1 ≠ a + 1 + 1), cellGet_cellSet_self,
    hne (by omega : a + 1 + 1 ≠ a + 1 + 1 + 1), cellGet_cellSet_self]
  simp only [BitVec.toNat_ofNat, Nat.shiftRight_eq_div_pow]
  omega

end Sys2Proof.Machine
end

