-- ==== Sys2Proof/WellFormed.lean ====
section
/-!
DEFINITION. Which commands are well formed: those whose operands agree with each other as the event they stand for requires.
The machine gives every command a meaning, well formed or not; the check says which ones an event of the spec can send.
-/

namespace Sys2Proof

/-- The number of instances that a mechanism of the proof loop can have (R520). -/
def WellFormed.instanceCount : Nat → Nat
  | 0 => 1 | 1 => 1 | 2 => 2 | 3 => 2 | 4 => 2 | 5 => 2 | 6 => 2 | 7 => 16 | 8 => 8 | 9 => 1 | 10 => 2 | 11 => 6 | 12 => 2
  | 13 => 16 | 14 => 16 | 15 => 1 | _ => 0

/-- An instance of a mechanism can exist. -/
def WellFormed.instanceExists (mech inst : Nat) : Bool := decide (inst < WellFormed.instanceCount mech)

/-- The kind of a frame header, and its number of data words (R356, R357). -/
def WellFormed.headerKind (x : Word) : Nat := (x.toNat >>> 26) % 4

/-- The number of data words that a header asks for (R357). -/
def WellFormed.headerWords (x : Word) : Nat :=
  if WellFormed.headerKind x == 1 || WellFormed.headerKind x == 2 then (x.toNat >>> 22) % 16 + 1 else 1

/-- The interrupt sources that R419 gives a bit of INT_STAT. -/
def WellFormed.interruptBit (b : Nat) : Bool := decide (b < 7) || (decide (8 ≤ b) && decide (b < 24)) || b == 30

/-- A command is well formed. -/
def Instr.wellFormed : Instr → Bool
  | .boot _ _ lostHeader lostRead => decide lostHeader.Nodup && decide lostRead.Nodup
  | .startupTests _ _ proofs => proofs.all (fun x => WellFormed.instanceExists x.1 x.2.1)
  | .proofOverdue mech inst => WellFormed.instanceExists mech inst
  | .thermalModelUpdate v cur _ _ temps => v.length == 16 && cur.length == 16 && temps.length == 8
  | .fieldLbistEnd sigs _ _ => decide (1 ≤ sigs.length) && decide (sigs.length ≤ 5)
  | .bootLbist sigs _ _ => sigs.length == 11
  | .bootMemTest bad => decide (bad.map (·.1)).Nodup
  | .recordIntake _ _ _ _ payload => decide (payload.length ≤ 4)
  | .writeFrame _ header data _ _ =>
    !header.getLsbD 28 && WellFormed.headerKind header != 3 && data.length == WellFormed.headerWords header
  | .readFrame _ header _ _ => header.getLsbD 28
  | .doorbell _ header _ _ _ => !header.getLsbD 28 && WellFormed.headerKind header == 3
  | .intEvent _ bit => WellFormed.interruptBit bit
  | .fault p _ _ _ => decide (p.val < 37)
  | .powerOnReset _ _ | .vholdCharged _ | .vholdCapMeasure _ | .vholdLow _ | .vddWarningBegin _ | .vminSample _
  | .vddWarningEnd _ | .orderlyPowerDown _ | .powerDownStep _ | .vddFailed _ | .vfLostPd | .fieldPowerOnReset
  | .fieldResetRelease | .vfValid | .vfUnderVoltage | .vfOverVoltage | .vregFail _ | .domainWakeRequest _
  | .domainWakeDone _ _ | .bankClearDone _ | .pllLock | .pllLockTimeout | .refclkLost | .refclkReturn
  | .returnRef _ _ | .mclkWindowEnd _ _ | .clockHaltExit | .fclkWindowEnd _ | .timebaseWrap | .clkTbLoRead _
  | .timeS _ _ _ | .timeL _ _ | .followerTimeout | .hingeFrameReceive _ _ _ _ _ _ | .idleFrame _ | .laneTraining _ _
  | .laneDown _ | .laneRetry | .retrain _ _ | .hingeLost _ | .rejoin | .fieldStart | .outCmd _ _ _ | .outCmdRepeat
  | .outStat _ _ _ | .fsum _ | .req _ | .rsp _ | .reqRetry _ | .boltRel | .boltRelExpire | .boltRelRepeat
  | .vec _ _ _ | .vecRepeat _ _ | .marginMeasure _ _ | .boltDecision _ | .boltCode _ | .boltLatchClear
  | .boltToneChange | .fieldToneDecision _ | .fholdExpiry _ | .fieldConfigCrc _ | .arming | .enterRun
  | .rcvErase _ _ | .rcvProgram _ _ | .rcvRead _ _ | .rcvReboot _ _ | .rcvCommandDone _ | .blkCheck _ _
  | .blkCheckDone _ | .blkReboot _ _ | .blkFuse _ _ | .fuseDone _ | .shadowCheck _ _ _ _ | .thermalHalt _ _
  | .fieldGlobalShutdown _ _ | .thermalHaltExit _ _ | .dbtSafeExit _ _ | .safeLeave | .outCtrlWrite _ _ _
  | .rearm _ _ _ | .thermalShutdown _ | .retryExpiry _ | .limitBegin _ _ | .limitEpisode _ | .uvOff _
  | .uvRestart _ | .offStateCheck _ | .offStateCheckEnd _ _ | .litCheck _ | .litCheckEnd _ _
  | .readback _ _ _ _ | .darkPulse _ | .pulseEnd _ _ _ | .tpMiss _ | .pwmEdgeCheck _ _ | .pairMismatch _
  | .outRtWrite _ _ _ | .outFltClear _ _ _ | .inputCrossing _ _ | .debounceAccept _ | .inTsLoRead _ _
  | .inputMeasure _ _ _ | .wireBreak _ | .tpWindowEnd _ | .tpLate _ | .foreignWindowEnd _ | .inFltClear _ _ _
  | .issuePoint _ | .stop _ | .vecInstruction _ | .loop _ | .endl _ | .jmp _ | .brc _ | .wait _ | .waitTimeout _
  | .call _ | .ret _ | .tset _ | .march _ | .sig _ | .cycleStart _ | .tmbStart _ _ _ | .tmbStop _ _ _
  | .tmbJump _ _ _ | .heavyVectorStall _ | .deadlineMiss _ | .compareSlotEval _ _ | .tmbCmpThrWrite _ _ _
  | .dpWriteLow _ _ _ _ | .dpWriteHigh _ _ _ _ | .dpReadLow _ _ _ | .syncPulseSend | .syncPulseReceive _
  | .lsyFrameReceive _ _ _ | .timeLo _ | .timeHi _ | .enumMsg _ | .calStart _ | .calEcho _ _ | .calDelay _ | .mark _
  | .hb _ _ | .pairHbTimeout | .pairClose _ | .pairTurnOn | .present _ | .breakMsg _ | .recalReq _ | .user _ _
  | .upstreamLost | .downstreamLost | .chainResumed | .recal _ _ | .recalInterval | .luanenEvent _ | .lsyRxRead _
  | .wrdExpOpen _ _ | .descriptorAccept _ | .dispatch | .nop _ | .regw _ | .regr _ | .bankCopy _ | .bankFill _
  | .atomAdd _ | .atomSwap _ | .tmbOpStart _ | .tmbOpStop _ | .tmbOpJump _ | .meas _ _ | .diag _ _ _ _ | .nvmRead _
  | .nvmProgram _ | .nvmErase _ | .nvmOperationDone _ _ | .timed _ | .timedRelease _ | .lsy _ | .completion _
  | .opsCancel _ _ | .opsCqIdxWrite _ _ | .tokenRefill _ | .opsQosRtWrite _ _ | .moderationExpiry _ | .intPulseEnd _
  | .intStatClear _ _ | .intEnWrite _ _ | .intSet _ _ | .intModWrite _ _ | .rstnLow _ | .rstnRelease | .rstDev _ _
  | .deviceSoftReset | .rstWard _ _ | .wardResetDone _ | .rstField _ _ | .fieldResetRequest | .fieldResetTimeout
  | .bnkOwnerWrite _ _ _ | .drainComplete _ | .handoverScrubDone _ | .bnkHandedClear _ _ _ | .retainWrite _ _ _
  | .bitSet _ _ _ _ | .bitClear _ _ _ _ | .eccUncorrectable _ _ _ | .eccCorrected _ _ | .scrubRead _ _ _
  | .schedulerDecision | .thermWarn _ _ | .eraseDayBoundary | .schRtWrite _ _ | .heartbeatSend _ | .hbReceive _ _ _
  | .heartbeatLoss _ | .soscBLoss | .adcComparison _ _ _ _ | .adcConfirm _ _ _ _ | .tempComparison _ _ _
  | .proofStart | .proofDetect _ | .proofTimeout | .recheckEnd _ | .reproof | .proofNow _ _ | .proofPause _ _
  | .proofResume _ _ | .pauseExpiry | .faultOccurrence _ _ _ _ | .faultCauseEnd _ _ | .faultClear _ _ _
  | .fltForce _ _ | .fltSelf _ _ | .wdgKick _ _ _ | .wardWatchdogExpiry _ | .dwdExpiry | .wdoPulseEnd
  | .bstLogic _ _ | .bstField _ _ | .bstLogicThenField _ _ | .groupTestDone _ _ _ | .logicLbistEnd | .testAbort _ _
  | .bstXctrlWrite _ _ | .recordWriteStart | .ringWrite | .gapRecord | .pageSubmit | .pageProgramDone _ _
  | .sectorReclaim | .journalEraseDone _ _ | .journalScan _ | .recRdSqbHiRead _ | .newestSeqRead _
  | .journalPageRead _ _ | .journalReadDone _ | .nonceRead _ | .nonceExpiry | .tokenCheck _ _ | .clear
  | .keyProgram _ _ | .keyProgramDone _ | .pendingRecord _ _ _ _ | .recRtWrite _ _ | .powerOnSecond _
  | .fieldSnapshot | .mirrorStart | .mirror _ _ | .mirrorDone _ _ | .rebase | .ledgerRestore | .lifeWindowRead _
  | .vddValid _ | .holdUpEndVoltage | .retentionFloor | .testPinChange _ _ | .nvmCutoff _ | .laneNotInService _
  | .limitEnd _ | .restartThreshold _ | .boltRelSend => true

end Sys2Proof
end

