-- ==== Sys2Proof/Tests/Slice0.lean ====
section
/-!
SUPPORT. The model's own tests: a witness for the hypotheses of every statement, ill-formed commands that the well-formedness check
refuses, and the worked examples and figures of the spec. No statement rests on them.
-/

namespace Sys2Proof.Tests

set_option Elab.async false

open Sys2Proof Sys2Proof.Machine

/-! ### Helpers: small states -/

/-- A hub that runs: every step of the power-up is done, all wards but W7 are defined and *Active*, the link is up on four lanes with
the field die configured, VF is valid, every power domain is on, and channel c and tumbler t belong to ward c mod 8 and t. Channels 0
to 3 are tumbler, input, and two standard outputs. -/
def upHub : Hub :=
  let r := State.reset.hub
  { r with
    dev := { r.dev with phase := .up, boltBoot := false
                        wards := #v[.active, .active, .active, .active, .active, .active, .active, .absent] }
    sup := { r.sup with band := .v33, vdd := 3300, vhold := 3300, vf := 24000, on := 0xFFF, nvmAllowed := true, fieldUp := true
                        vfValid := true, vfSeenValid := true, vreg5Ok := true, vreglOk := true, vholdOk := true }
    hinge := { r.hinge with lanes := Vector.replicate 4 { inService := true, synced := true }, upL := true, upF := true, everL := true
                            everF := true, firstApplied := true, configured := true, daTone := .clear, daWant := .clear
                            fieldDecides := .clear, daDecides := .clear, genFresh := #v[false, false] }
    recd := { r.recd with numbering := true, scanned := true }
    nvm := #v[{ present := true, kind := .nor, sfdp := true, size64 := 32 }, {}] }

/-- Register fields set one after another. -/
def sets (h : Hub) : List (Fld × Nat × Nat × Nat) → Hub
  | [] => h
  | (f, i, w, v) :: rest => sets (h.wr f v i w) rest

/-- What the running hub's registers hold. -/
def upRegs : List (Fld × Nat × Nat × Nat) :=
  (List.range 7).map (fun w => (WRD_CFG_defined, w, 0, 1)) ++
  (List.range 7).map (fun w => (WRD_CH_ch, w, 0, 0x101 <<< w)) ++
  (List.range 7).map (fun w => (WRD_TMB_tmb, w, 0, 1 <<< w)) ++
  [(HNG_STAT_link_up, 0, 0, 1), (OUT_CFG_mode, 0, 0, 1), (OUT_CFG_mode, 1, 0, 2), (OUT_CFG_mode, 2, 0, 1), (OUT_CFG_mode, 3, 0, 1)]

/-- A state whose hub is the running hub, changed by `f`. -/
def up (f : Hub → Hub) : State := { State.reset with hub := f { sets upHub upRegs with hinge := { upHub.hinge with cfg := (sets {} upRegs).regs } } }

/-- Register fields set alike on the logic die and in the field die's configuration. -/
def both (l : List (Fld × Nat × Nat × Nat)) (h : Hub) : Hub :=
  { sets h l with hinge := { h.hinge with cfg := (sets { regs := h.hinge.cfg } l).regs } }

/-- Output channel `c` of a hub that conducts: latched on, its switch closed. -/
def on (c : Nat) (h : Hub) : Hub := h.modOut c (fun o => { o with hiz := false, latched := true, sw := true, gate := true })

/-- Tumbler 0 runs and comes to one instruction word at address 0 of its region in DP0. -/
def prog (w : Nat) (h : Hub) : Hub :=
  let h := (h.setMemWord (dpAddr 0 0) (w % 2 ^ 32)).setMemWord (dpAddr 0 1) (w / 2 ^ 32)
  sets h [(TMB_STAT_state, 0, 0, 2), (TMB_REGION_len_m1, 0, 0, 15)]

/-- A hub in a Luanen chain of 4: the head, or the member at position 1. -/
def chain (head : Bool) (h : Hub) : Hub :=
  sets h [(LSY_CFG_en, 0, 0, 1), (LSY_CFG_hubs_m1, 0, 0, 3), (LSY_CFG_head, 0, 0, if head then 1 else 0), (LSY_STAT_pos, 0, 0, if head then 0 else 1),
    (LSY_STAT_pos_valid, 0, 0, 1)]

/-- Port 0 serves W0 to W6; bank 0 belongs to W0 and bank 1 to W0 as well. -/
def served (h : Hub) : Hub := sets h [(HPT_CFG_wards, 0, 0, 0x7F), (BNK_OWNER_owner, 0, 0, 0), (BNK_OWNER_owner, 1, 0, 0)]

/-- An operation of W0 in slot 0 that has been admitted. -/
def oper (o : Op) (h : Hub) : Hub := { served h with eng := { h.eng with ops := [{ o with phase := .admitted }] } }

/-! ### Witnesses: the conditions of each statement can be met -/

theorem witness_supply_commands :
    Can.powerOnReset 2 3300 (State.reset) = true ∧
    Can.powerOnReset2 2 2000 (State.reset) = true ∧
    Can.vddValid 3300 (up (fun h => { h with dev := { h.dev with phase := .off } })) = true ∧
    Can.vholdCharged 3300 (up id) = true ∧
    Can.vholdCapMeasure 0 (State.reset) = true ∧
    Can.vholdLow 3000 (up id) = true ∧
    Can.vddWarningBegin 2900 (up id) = true ∧
    Can.vminSample 2900 3200 (up (fun h => { h with sup := { h.sup with warn := true } })) = true ∧
    Can.vddWarningEnd 3300 (up (fun h => { h with sup := { h.sup with warn := true } })) = true ∧
    Can.vddWarningEnd2 3300 (up (fun h => { h with sup := { h.sup with warn := true, warnAtTrigger := true } })) = true ∧
    Can.testPinChange true true (up id) = true ∧
    Can.retentionFloor (up (fun h => { h with dev := { h.dev with phase := .off } })) = true := by
  decide +kernel

theorem witness_power_down_commands :
    Can.orderlyPowerDown 2700 (up id) = true ∧
    Can.powerDownStep 0 (up (fun h => { h with sup := { h.sup with vdd := 2700, pd := some {}, nvmAllowed := false } })) = true ∧
    Can.powerDownStep2 3300 (up (fun h => { h with sup := { h.sup with vdd := 2700, pd := some {} } })) = true ∧
    Can.powerDownStep3 3300 (up (fun h => { h with sup := { h.sup with vdd := 2700, pd := some {} }, recd := { h.recd with staging := [{ recs := [[1, 2, 3, 4, 5, 6, 7, 8]] }] } }.wr PWR_HOLD_CFG_flush_pages 4)) = true ∧
    Can.vddFailed 0 (up (fun h => { h with sup := { h.sup with pd := some { busy := some .running } } })) = true ∧
    Can.vddFailed2 0 (up (fun h => { h with sup := { h.sup with pd := some {}, nvmAllowed := false } })) = true ∧
    Can.vfLostPd (up (fun h => { h with sup := { h.sup with pd := some {} }, hinge := { h.hinge with upL := false } })) = true ∧
    Can.holdUpEndVoltage (up (fun h => { h with sup := { h.sup with vdd := 2700, pd := some {} } })) = true := by
  decide +kernel

theorem witness_field_supply_commands :
    Can.fieldResetRelease (State.reset) = true ∧
    Can.vfValid (up id) = true ∧
    Can.vfUnderVoltage (up (fun h => { h with sup := { h.sup with vfSeenValid := true } })) = true ∧
    Can.vfOverVoltage (up id) = true ∧
    Can.vregFail true (up id) = true ∧
    Can.domainWakeRequest 2 (up (fun h => { h with sup := { h.sup with on := 3 } })) = true ∧
    Can.domainWakeDone 4 true ({ State.reset with hub := { State.reset.hub with sup := { State.reset.hub.sup with waking := 0x3C } } }) = true ∧
    Can.bankClearDone 1 (up (fun h => { h with sup := { h.sup with clearing := 3 } })) = true := by
  decide +kernel

theorem witness_clock_commands :
    Can.pllLock (up (fun h => h.put CLK_CFG_src true)) = true ∧
    Can.pllLockTimeout (up (fun h => { h with dev := { h.dev with phase := .arming } }.put CLK_CFG_src true)) = true ∧
    Can.refclkLost (up (fun h => h.put CLK_STAT_src_now true)) = true ∧
    Can.refclkReturn (up (fun h => ((h.put CLK_CFG_src true).put CLK_STAT_holdover true).put CLK_CFG_auto_return true)) = true ∧
    Can.refclkReturn2 (up (fun h => ((h.put CLK_CFG_src true).put CLK_STAT_holdover true))) = true ∧
    Can.returnRef 0 1 (up (fun h => (h.put CLK_STAT_holdover true).put CLK_STAT_ref_fit false)) = true ∧
    Can.mclkWindowEnd 1000 0 (up id) = true ∧
    Can.mclkWindowEnd2 900 1000 (up (fun h => h.put CLK_STAT_src_now true)) = true ∧
    Can.mclkWindowEnd3 900 1000 (up (fun h => { h with clk := { h.clk with badWindow := true } })) = true ∧
    Can.clockHaltExit (up (fun h => { h with dev := { h.dev with halt := some .clock } })) = true ∧
    Can.fclkWindowEnd 400 (up id) = true ∧
    Can.fclkWindowEnd2 300 (up id) = true := by
  decide +kernel

theorem witness_timebase_commands :
    Can.timebaseWrap (State.reset) = true ∧
    Can.clkTbLoRead 0 (up id) = true ∧
    Can.timeS 0 0 0 (up (fun h => { h with clk := { h.clk with long := true, locked := true } })) = true ∧
    Can.timeL 0 0 (up id) = true ∧
    Can.followerTimeout (up (fun h => { h with clk := { h.clk with locked := true, now := 5000 } })) = true := by
  decide +kernel

theorem witness_lane_commands_1 :
    Can.hingeFrameReceive 0 0 false true 0 false (up id) = true ∧
    Can.hingeFrameReceive2 0 (BitVec.ofNat 64 (hingeFrame 0x20 (1 * 2 ^ 32 + 0x1) 0)) true true 0 false (up id) = true ∧
    Can.hingeFrameReceive3 2 (BitVec.ofNat 64 (hingeFrame 0x28 (1 * 2 ^ 32 + 0x1) 0)) true true 0 false (up id) = true ∧
    Can.hingeFrameReceive4 0 0 false true 0 false (State.reset) = true ∧
    Can.idleFrame 0 (up id) = true ∧
    Can.idleFrame2 0 (State.reset) = true ∧
    Can.laneTraining 1 0 (up (fun h => h.modLane 1 (fun x => { x with inService := false }))) = true ∧
    Can.laneDown 2 (up id) = true ∧
    Can.laneDown2 2 (State.reset) = true ∧
    Can.laneNotInService 3 (up (fun h => h.modLane 3 (fun x => { x with inService := false }))) = true ∧
    Can.retrain 0 1 (up id) = true ∧
    Can.retrain2 1 1 (up id) = true := by
  decide +kernel

theorem witness_lane_commands_2 :
    Can.marginMeasure 0 32 (up id) = true ∧
    Can.marginMeasure2 1 32 (up (fun h => h.modLane 1 (fun x => { x with inService := false }))) = true ∧
    Can.marginMeasure3 2 32 (up id) = true := by
  decide +kernel

theorem witness_link_commands :
    Can.hingeLost false (up id) = true ∧
    Can.hingeLost2 true (up id) = true ∧
    Can.hingeLost3 true (State.reset) = true ∧
    Can.rejoin (up (fun h => { h with dev := { h.dev with phase := .boot } }.put HNG_STAT_rejoin true)) = true ∧
    Can.rejoin2 (up (fun h => (h.put HNG_STAT_rejoin true).wr BLK_SHADOW_FCRC_crc h.hinge.fieldCrc)) = true ∧
    Can.rejoin3 (up (fun h => { h with hinge := { h.hinge with configured := false } }.put HNG_STAT_rejoin true)) = true ∧
    Can.rejoin4 (State.reset) = true ∧
    Can.fieldStart (up (fun h => { h with dev := { h.dev with phase := .arming }, hinge := { h.hinge with configured := false } })) = true ∧
    Can.fieldStart2 (up (fun h => { h with dev := { h.dev with phase := .boot }, hinge := { h.hinge with configured := false } })) = true ∧
    Can.fieldConfigCrc none (up id) = true := by
  decide +kernel

theorem witness_frame_commands_1 :
    Can.outCmd 0 1 0 (up id) = true ∧
    Can.outCmd2 0 0 1 (up id) = true ∧
    Can.outCmdRepeat (up (fun h => { h with hinge := { h.hinge with genFresh := #v[false, true] } })) = true ∧
    Can.outCmdRepeat2 (State.reset) = true ∧
    Can.outStat 0 0 0 (up id) = true ∧
    Can.outStat2 0 0 0 (State.reset) = true ∧
    Can.fsum 0 (up id) = true ∧
    Can.fsum2 0 (State.reset) = true ∧
    Can.fault 17 0 true 0 (up id) = true ∧
    Can.fault2 0 1 false 0 (up id) = true ∧
    Can.fault3 24 0 true 0 (up id) = true ∧
    Can.req 3 (up (fun h => { h with hinge := { h.hinge with out := [{ tag := 3, what := .trim 0 5 6 }] } })) = true := by
  decide +kernel

theorem witness_frame_commands_2 :
    Can.req2 3 (up (fun h => { h with hinge := { h.hinge with out := [{ tag := 3, what := .trim 0 5 6 }], kept := vset h.hinge.kept 3 (some (0, 0)) } })) = true ∧
    Can.rsp 3 (up (fun h => { h with hinge := { h.hinge with out := [{ tag := 3, what := .testHold }], kept := vset h.hinge.kept 3 (some (0, 0)) } })) = true ∧
    Can.reqRetry 3 (up (fun h => { h with hinge := { h.hinge with out := [{ tag := 3, what := .testHold }] } })) = true ∧
    Can.reqRetry2 3 (up (fun h => { h with hinge := { h.hinge with out := [{ tag := 3, what := .testHold, tries := 200 }] } })) = true := by
  decide +kernel

theorem witness_bolt_commands :
    Can.boltRel (up (fun h => { h with hinge := { h.hinge with fieldDecides := .clear, clear10 := true, latch := true } })) = true ∧
    Can.boltRelRepeat (up (fun h => { h with hinge := { h.hinge with relRepeat := true } }.put HNG_BOLT_field_latched true)) = true ∧
    Can.boltRelSend (up (fun h => { h with dev := { h.dev with safe := true, exitStep := 1 }, clk := { h.clk with now := 1000 } })) = true ∧
    Can.boltDecision [] 400 (up id) = true ∧
    Can.boltCode false (up id) = true ∧
    Can.boltCode2 true (up id) = true ∧
    Can.boltLatchClear (up (fun h => { h with hinge := { h.hinge with fieldDecides := .clear, relHeld := true, latch := true } })) = true ∧
    Can.fieldToneDecision [] 2000 (up id) = true ∧
    Can.fholdExpiry 2 1000 (up (fun h => h.modOut 2 (fun o => { o with fholdRun := true }))) = true ∧
    Can.fholdExpiry2 2 1 (State.reset) = true := by
  decide +kernel

theorem witness_start_up_commands :
    Can.boot { sig := 0x50444653, fram := false, jedec := 0xEF4018, size64 := 32, ppUs := 0, ppMul := 0, eraseUs := 0, lanes := 0, suspend := false } { sig := 0, fram := false, jedec := 0, size64 := 0, ppUs := 0, ppMul := 0, eraseUs := 0, lanes := 0, suspend := false } [] [] (up (fun h => { h with dev := { h.dev with phase := .boot } })) = true ∧
    Can.arming (up (fun h => { h with dev := { h.dev with phase := .arming }, blk := { h.blk with config := h.regs } })) = true ∧
    Can.startupTests 0 0 [] (up (fun h => { h with dev := { h.dev with phase := .arming } })) = true ∧
    Can.enterRun (up (fun h => ({ h with dev := { h.dev with phase := .arming }, blk := { h.blk with applied := true } }.put DBT_STARTUP_done true))) = true ∧
    Can.shadowCheck none false false 0 (up id) = true := by
  decide +kernel

theorem witness_recovery_commands_1 :
    Can.rcvErase 0 0x52430001 (up (fun h => { h with dev := { h.dev with phase := .recovery } })) = true ∧
    Can.rcvErase2 0 0x52430001 (up (fun h => { h with dev := { h.dev with phase := .recovery } }.wr BLK_RCV_ADDR_addr 4)) = true ∧
    Can.rcvProgram 0 0x52430002 (up (fun h => { h with dev := { h.dev with phase := .recovery } })) = true ∧
    Can.rcvProgram2 0 0x52430002 (up (fun h => { h with dev := { h.dev with phase := .recovery } }.wr BLK_RCV_ADDR_addr 4)) = true ∧
    Can.rcvRead 0 0x52430003 (up (fun h => { h with dev := { h.dev with phase := .recovery } })) = true ∧
    Can.rcvReboot 0 0x52430004 (up (fun h => { h with dev := { h.dev with phase := .recovery } })) = true ∧
    Can.rcvReboot2 0 4 (up (fun h => { h with dev := { h.dev with phase := .recovery } })) = true ∧
    Can.rcvCommandDone true true (up (fun h => { h with nvmOp := some { use := .recovery } })) = true ∧
    Can.blkCheck 0 1 (up id) = true ∧
    Can.blkCheck2 1 1 (up id) = true ∧
    Can.blkCheckDone true (up (fun h => { h with blk := { h.blk with checking := true } })) = true ∧
    Can.blkReboot 0 0x52424F54 (up id) = true := by
  decide +kernel

theorem witness_recovery_commands_2 :
    Can.blkReboot2 1 0x52424F54 (up id) = true ∧
    Can.blkFuse 0 0x46555345 (up (fun h => { h with dev := { h.dev with signed := true }, blk := { h.blk with keyHash := some [] } })) = true ∧
    Can.blkFuse2 0 0x46555345 (up id) = true ∧
    Can.fuseDone true (up (fun h => { h with blk := { h.blk with fusing := true } })) = true := by
  decide +kernel

theorem witness_output_commands_1 :
    Can.outCtrlWrite 0 0 1 (up id) = true ∧
    Can.outCtrlWrite2 0 0 0 (up (fun h => { h with hinge := { h.hinge with cmd := vset h.hinge.cmd 0 1 } })) = true ∧
    Can.outCtrlWrite3 0 0 0 (up id) = true ∧
    Can.outCtrlWrite4 0 0 1 (up (fun h => (h.put HNG_BOLT_field_latched true).put OUT_STAT_safe_hold true 0)) = true ∧
    Can.outCtrlWrite5 0 0 1 (up (fun h => h.put OUT_STAT_shed true 0)) = true ∧
    Can.outCtrlWrite6 0 0 0 (up (fun h => (h.put LSY_PAIR_en true).wr LSY_PAIR_ch 0)) = true ∧
    Can.rearm 0 0 2 (up (fun h => h.put OUT_STAT_tsd_latched true 0)) = true ∧
    Can.rearm2 0 1 2 (up id) = true ∧
    Can.limitBegin 0 0 (up (on 0)) = true ∧
    Can.limitEpisode 0 (up (fun h => (on 0 h).modOut 0 (fun o => { o with limiting := true }))) = true ∧
    Can.limitEnd 0 (up (fun h => (on 0 h).modOut 0 (fun o => { o with limiting := true }))) = true ∧
    Can.thermalShutdown 0 (up (on 0)) = true := by
  decide +kernel

theorem witness_output_commands_2 :
    Can.thermalShutdown2 0 (up id) = true ∧
    Can.retryExpiry 0 1000 (up (fun h => h.modOut 0 (fun o => { o with retryWait := true }))) = true ∧
    Can.retryExpiry2 0 0 (up id) = true ∧
    Can.restartThreshold 0 (up (fun h => h.modOut 0 (fun o => { o with hot := true }))) = true ∧
    Can.uvOff 0 0 (up (both [(OUT_CFG_supply, 0, 0, 1)])) = true ∧
    Can.uvOff2 0 0 (up id) = true ∧
    Can.uvRestart 0 3000 5000 (up (fun h => h.modOut 0 (fun o => { o with uvLow := true }))) = true ∧
    Can.uvRestart2 0 0 0 (up id) = true := by
  decide +kernel

theorem witness_output_checks :
    Can.offStateCheck 0 65000 (up (fun h => both [(OUT_DIAG_ol_off_en, 0, 0, 1)] { h.modOut 0 (fun o => { o with hiz := false }) with clk := { h.clk with now := 200000 } })) = true ∧
    Can.offStateCheck2 0 65000 (up (fun h => both [(OUT_DIAG_ol_off_en, 0, 0, 1), (OUT_CFG_mode, 0, 0, 5)] { h.modOut 0 (fun o => { o with hiz := false }) with clk := { h.clk with now := 200000 } })) = true ∧
    Can.offStateCheck3 0 0 (up id) = true ∧
    Can.offStateCheckEnd 0 700 (up (fun h => { h.modOut 0 (fun o => { o with check := true }) with sup := { h.sup with vf := 50000 } })) = true ∧
    Can.offStateCheckEnd2 0 0 (up (fun h => h.modOut 0 (fun o => { o with check := true }))) = true ∧
    Can.litCheck 0 (up (fun h => { h.modOut 0 (fun o => { o with hiz := false, litOk := true }) with clk := { h.clk with now := 200000 } })) = true ∧
    Can.litCheck2 0 (up (fun h => h.modOut 0 (fun o => { o with litOk := true }))) = true ∧
    Can.litCheckEnd 0 0 (up (fun h => { h.modOut 0 (fun o => { o with lit := true }) with sup := { h.sup with vf := 50000 } })) = true ∧
    Can.litCheckEnd2 0 0 (up (fun h => h.modOut 0 (fun o => { o with lit := true }))) = true ∧
    Can.readback 0 0 0 0 (up id) = true ∧
    Can.pairMismatch 3 1000 0 (up (fun h => both [(OUT_CFG_mode, 2, 0, 7), (OUT_CFG_mode, 3, 0, 7)] (on 3 h))) = true ∧
    Can.pairMismatch2 3 0 0 (up id) = true := by
  decide +kernel

theorem witness_output_pulses_1 :
    Can.darkPulse 0 (up (fun h => both [(OUT_TP_dark_en, 0, 0, 1)] { on 0 h with hinge := { h.hinge with vecs := vset h.hinge.vecs 0 { pins := 1 } } })) = true ∧
    Can.darkPulse2 0 (up (fun h => both [(OUT_TP_bright_en, 0, 0, 1)] { h.modOut 0 (fun o => { o with hiz := false }) with hinge := { h.hinge with vecs := vset h.hinge.vecs 0 { pins := 1 } } })) = true ∧
    Can.darkPulse3 0 (up id) = true ∧
    Can.pulseEnd 0 0 0 0 (up (fun h => (on 0 h).modOut 0 (fun o => { o with pulse := some .dark, sw := false }))) = true ∧
    Can.pulseEnd2 0 0 0 0 (up (fun h => h.modOut 0 (fun o => { o with pulse := some .bright, sw := true, hiz := false }))) = true ∧
    Can.pulseEnd3 0 0 0 0 (up (fun h => { h.modOut 0 (fun o => { o with pulse := some .bright, sw := true, hiz := false }) with sup := { h.sup with vf := 50000 } })) = true ∧
    Can.tpMiss 0 1000 (up (fun h => both [(OUT_TP_dark_en, 0, 0, 1)] (on 0 h))) = true ∧
    Can.tpMiss2 0 0 (up id) = true ∧
    Can.pwmEdgeCheck 0 0 (up (fun h => { h with sup := { h.sup with vf := 50000 } })) = true ∧
    Can.pwmEdgeCheck2 0 2400 (up (fun h => both [(OUT_CFG_mode, 0, 0, 8)] (on 0 h))) = true ∧
    Can.outRtWrite 0 0 0 (up (fun h => h.wr WRD_EXP_OPEN_open 16 0)) = true ∧
    Can.outRtWrite2 0 0 0 (up id) = true := by
  decide +kernel

theorem witness_output_pulses_2 :
    Can.outFltClear 0 0 1 (up id) = true := by
  decide +kernel

theorem witness_input_commands_1 :
    Can.inputCrossing 1 1200 true (up (fun h => h.modIn 1 (fun x => { x with valid := true }))) = true ∧
    Can.inputCrossing2 1 0 true (up (fun h => h.modIn 1 (fun x => { x with own := some {} }))) = true ∧
    Can.inputCrossing3 0 0 true (up id) = true ∧
    Can.debounceAccept 1 1000000 (up (fun h => h.modIn 1 (fun x => { x with valid := true, raw := true, cand := some (7, 0) }))) = true ∧
    Can.debounceAccept2 1 1000000 (up id) = true ∧
    Can.debounceAccept3 1 0 (up id) = true ∧
    Can.inTsLoRead 1 1 (up (fun h => h.modIn 1 (fun x => { x with fifo := [{}] }))) = true ∧
    Can.inputMeasure 1 0 0 (up id) = true ∧
    Can.wireBreak 1 10000000 (up (both [(IN_WB_en, 1, 0, 1)])) = true ∧
    Can.wireBreak2 1 0 (up id) = true ∧
    Can.tpWindowEnd 1 65000 (up (fun h => h.modIn 1 (fun x => { x with own := some { seenOff := true } }))) = true ∧
    Can.tpWindowEnd2 1 0 (up id) = true := by
  decide +kernel

theorem witness_input_commands_2 :
    Can.tpLate 1 65000 (up (fun h => both [(IN_TPC_en, 1, 0, 1)] ((on 0 h).modIn 1 (fun x => { x with valid := true, deb := true, raw := true })))) = true ∧
    Can.tpLate2 1 0 (up id) = true ∧
    Can.foreignWindowEnd 1 65000 (up (fun h => h.modIn 1 (fun x => { x with foreign := some {} }))) = true ∧
    Can.foreignWindowEnd2 1 0 (up id) = true ∧
    Can.inFltClear 1 1 1 (up id) = true := by
  decide +kernel

theorem witness_tumbler_control_flow_1 :
    Can.stop 0 (up (prog 0)) = true ∧
    Can.loop 0 (up (prog 0x1000000000000002)) = true ∧
    Can.loop2 0 (up (fun h => (prog 0x1000000000000002 h).modTmb 0 (fun x => { x with loops := [(1, 0), (1, 0), (1, 0), (1, 0)] }))) = true ∧
    Can.endl 0 (up (fun h => (prog 0x1800000000000000 h).modTmb 0 (fun x => { x with loops := [(2, 0)] }))) = true ∧
    Can.endl2 0 (up (prog 0x1800000000000000)) = true ∧
    Can.jmp 0 (up (prog 0x2000000000000003)) = true ∧
    Can.jmp2 0 (up (prog 0x20000000000000FF)) = true ∧
    Can.brc 0 (up (prog 0x280000007F000003)) = true ∧
    Can.wait 0 (up (prog 0x300000007F000000)) = true ∧
    Can.wait2 0 (up (prog 0x300000007F800000)) = true ∧
    Can.waitTimeout 0 (up (fun h => (prog 0x300000007F800001 h).modTmb 0 (fun x => { x with waitAt := some 0, waited := 1 }))) = true ∧
    Can.call 0 (up (prog 0x3800000000000003)) = true := by
  decide +kernel

theorem witness_tumbler_control_flow_2 :
    Can.call2 0 (up (fun h => (prog 0x3800000000000003 h).modTmb 0 (fun x => { x with calls := [1, 1, 1, 1] }))) = true ∧
    Can.ret 0 (up (fun h => (prog 0x4000000000000000 h).modTmb 0 (fun x => { x with calls := [3] }))) = true ∧
    Can.ret2 0 (up (prog 0x4000000000000000)) = true := by
  decide +kernel

theorem witness_tumbler_vectors_1 :
    Can.issuePoint 0 (up (fun h => (prog 0x0800000000000001 h).wr TMB_CFG_mode 1 0)) = true ∧
    Can.issuePoint2 0 (up (fun h => (h.wr TMB_STAT_state 2 0).modTmb 0 (fun x => { x with remain := 2 }))) = true ∧
    Can.issuePoint3 0 (up (fun h => (h.wr TMB_STAT_state 2 0).modTmb 0 (fun x => { x with stopReq := some true }))) = true ∧
    Can.issuePoint4 0 (up (fun h => { (sets h [(TMB_STAT_state, 0, 0, 2), (OUT_CFG_src, 0, 0, 1)]) with hinge := { h.hinge with upL := false } })) = true ∧
    Can.issuePoint5 0 (up id) = true ∧
    Can.vecInstruction 0 (up (prog 0x0800000000000001)) = true ∧
    Can.vecInstruction2 0 (up (prog 0x0800000000000000)) = true ∧
    Can.tset 0 (up (fun h => (prog 0x4800001000000000 h).wr TMB_CFG_mode 1 0)) = true ∧
    Can.tset2 0 (up (prog 0x4800001000000000)) = true ∧
    Can.march 0 (up (fun h => (prog 0x5000000000000000 h).wr BNK_OWNER_owner 0x10 0)) = true ∧
    Can.march2 0 (up (prog 0x5000000000000000)) = true ∧
    Can.sig 0 (up (prog 0x5800000000000007)) = true := by
  decide +kernel

theorem witness_tumbler_vectors_2 :
    Can.heavyVectorStall 0 (up (fun h => sets (prog 0x0800008000000001 h) [(OUT_CFG_heavy, 0, 0, 1), (OUT_CFG_src, 0, 0, 1), (TMB_TS_PERIOD_period, 0, 0, 800)])) = true := by
  decide +kernel

theorem witness_tumbler_commands_1 :
    Can.cycleStart 0 (up (fun h => (h.wr TMB_STAT_state 2 0).modTmb 0 (fun x => { x with issued := some (1, 0, 0) }))) = true ∧
    Can.cycleStart2 0 (up id) = true ∧
    Can.deadlineMiss 0 (up (fun h => { (((h.wr TMB_STAT_state 2 0).put TMB_DL_en true 0).modTmb 0 (fun x => { x with dlFrom := some 0 })) with clk := { h.clk with now := 10000000000 } })) = true ∧
    Can.deadlineMiss2 0 (up id) = true ∧
    Can.tmbStart 0 0 1 (up id) = true ∧
    Can.tmbStart2 0 0 1 (up (fun h => h.wr TMB_STAT_state 2 0)) = true ∧
    Can.tmbStop 0 0 2 (up (fun h => h.wr TMB_STAT_state 2 0)) = true ∧
    Can.tmbStop2 0 0 2 (up (fun h => h.wr TMB_STAT_state 1 0)) = true ∧
    Can.tmbStop3 0 0 2 (up id) = true ∧
    Can.tmbJump 0 0 4 (up (fun h => h.wr TMB_STAT_state 2 0)) = true ∧
    Can.tmbJump2 0 0 4 (up id) = true ∧
    Can.vec 0 false 0 (up id) = true := by
  decide +kernel

theorem witness_tumbler_commands_2 :
    Can.vec2 0 false 0 (State.reset) = true ∧
    Can.vecRepeat 0 0 (up (fun h => { h with hinge := { h.hinge with vecs := vset h.hinge.vecs 0 { live := true } } })) = true ∧
    Can.vecRepeat2 0 0 (up (fun h => { h with hinge := { h.hinge with upF := false, vecs := vset h.hinge.vecs 0 { live := true } } })) = true := by
  decide +kernel

theorem witness_compare_and_dp :
    Can.compareSlotEval 0 false 0 0 0 (up id) = true ∧
    Can.compareSlotEval2 0 false 1 0 0 (up id) = true ∧
    Can.tmbCmpThrWrite 0 0 0 (up id) = true ∧
    Can.dpWriteLow 0 0 0 0 (up id) = true ∧
    Can.dpWriteHigh 0 0 0 0 (up id) = true ∧
    Can.dpReadLow 0 0 0 (up id) = true := by
  decide +kernel

theorem witness_luanen_time_1 :
    Can.syncPulseSend (up (chain true)) = true ∧
    Can.syncPulseSend2 (up (fun h => (chain true h).put CLK_STAT_holdover true)) = true ∧
    Can.syncPulseSend3 (up (chain false)) = true ∧
    Can.syncPulseReceive 0 20 (up (chain false)) = true ∧
    Can.syncPulseReceive2 3 20 (up (fun h => (chain false h).put LSY_STAT_aligned true |>.put LSY_STAT_cal_valid true)) = true ∧
    Can.syncPulseReceive3 3 20 (up (fun h => { (chain false h).put LSY_STAT_aligned true |>.put LSY_STAT_cal_valid true with clk := { h.clk with tb := 50 } })) = true ∧
    Can.syncPulseReceive4 3 20 (up (fun h => { (chain false h).put LSY_STAT_cal_valid true with lsy := { h.lsy with needCal := false, timeLo := some 400, timeHi := some 0 } })) = true ∧
    Can.syncPulseReceive5 0 20 (up (chain true)) = true ∧
    Can.syncPulseReceive6 0 20 (up (fun h => { chain false h with lsy := { h.lsy with lost := true } })) = true ∧
    Can.syncPulseReceive7 0 19 (up (chain false)) = true ∧
    Can.lsyFrameReceive true [] [] (up (chain false)) = true ∧
    Can.lsyFrameReceive2 true lsyStart (manchester (LFrame.bits { cmd := 0x01, payload := 0x12345678 })) (up (chain false)) = true := by
  decide +kernel

theorem witness_luanen_time_2 :
    Can.lsyFrameReceive3 false lsyStart (manchester (LFrame.bits { cmd := 0x40, payload := 2 })) (up (chain false)) = true ∧
    Can.timeLo 0 (up (chain false)) = true ∧
    Can.timeHi 0 (up (chain false)) = true ∧
    Can.enumMsg 0 (up (chain false)) = true ∧
    Can.present 0 (up (chain false)) = true := by
  decide +kernel

theorem witness_luanen_calibration_1 :
    Can.calStart 0 (up (chain false)) = true ∧
    Can.calEcho false 0 (up (fun h => { (chain false h).put LSY_STAT_calibrating true with lsy := { h.lsy with calPer := some 1 } })) = true ∧
    Can.calEcho2 false 1700 (up (fun h => { (chain false h).put LSY_STAT_calibrating true with lsy := { h.lsy with calPer := some 4, echoes := List.replicate 15 1700 } })) = true ∧
    Can.calEcho3 false 0 (up (chain false)) = true ∧
    Can.calDelay 0 (up (chain false)) = true ∧
    Can.recalReq 0 (up (chain true)) = true ∧
    Can.recalReq2 0 (up (chain false)) = true ∧
    Can.recal 0 1 (up (chain true)) = true ∧
    Can.recal2 0 1 (up (chain false)) = true ∧
    Can.recal3 1 1 (up (chain false)) = true ∧
    Can.recalInterval (up (fun h => { chain true h with lsy := { h.lsy with started := true }, clk := { h.clk with mclk := 10 ^ 14 } })) = true ∧
    Can.recalInterval2 (up (fun h => { sets (chain false h) [(LSY_STAT_cal_valid, 0, 0, 1), (LSY_CAL_CFG_temp_c, 0, 0, 1)] with lsy := { h.lsy with calTemp := h.logicTemp + 80 } })) = true := by
  decide +kernel

theorem witness_luanen_calibration_2 :
    Can.recalInterval3 (up (fun h => (chain true h).wr LSY_CAL_CFG_interval_min 10)) = true := by
  decide +kernel

theorem witness_luanen_events :
    Can.mark 0 (up (chain false)) = true ∧
    Can.luanenEvent 0 (up (fun h => { sets (chain false h) [(LSY_EV_CFG_kind, 0, 0, 1), (LSY_STAT_aligned, 0, 0, 1), (LSY_EV_OFS_ofs, 0, 0, 100)] with lsy := { h.lsy with tn := some 0 } })) = true ∧
    Can.luanenEvent2 0 (up (chain false)) = true ∧
    Can.user true 0x04000000 (up (fun h => (chain false h).put LSY_USER_rx_en true)) = true ∧
    Can.user2 true 0x80000000 (up (chain false)) = true ∧
    Can.user3 false 0 (up (chain false)) = true ∧
    Can.lsyRxRead 0 (up (fun h => { h with lsy := { h.lsy with rx := [{}] } })) = true := by
  decide +kernel

theorem witness_pair_commands_1 :
    Can.breakMsg 0 (up (chain true)) = true ∧
    Can.breakMsg2 0 (up (chain false)) = true ∧
    Can.upstreamLost (up (chain false)) = true ∧
    Can.downstreamLost (up (chain true)) = true ∧
    Can.downstreamLost2 (up (fun h => (chain false h).wr LSY_STAT_pos 3)) = true ∧
    Can.chainResumed (up (fun h => { chain false h with lsy := { h.lsy with lost := true, pulses := 3 } })) = true ∧
    Can.chainResumed2 (up (chain false)) = true ∧
    Can.hb false 0 (up (chain false)) = true ∧
    Can.hb2 true 0 (up (fun h => sets (chain false h) [(LSY_PAIR_en, 0, 0, 1)])) = true ∧
    Can.hb3 true 0x100 (up (fun h => sets (chain false h) [(LSY_PAIR_en, 0, 0, 1)])) = true ∧
    Can.hb4 true 0x01000000 (up (fun h => sets (chain false h) [(LSY_PAIR_en, 0, 0, 1), (OUT_CTRL_on, 0, 0, 1)])) = true ∧
    Can.hb5 true 0 (up (fun h => { sets (chain false h) [(LSY_PAIR_en, 0, 0, 1), (OUT_CTRL_on, 0, 0, 1)] with lsy := { h.lsy with pairOn := true } })) = true := by
  decide +kernel

theorem witness_pair_commands_2 :
    Can.hb6 true 0 (up (chain true)) = true ∧
    Can.pairHbTimeout (up (fun h => (chain false h).put LSY_PAIR_en true)) = true ∧
    Can.pairHbTimeout2 (up (chain false)) = true ∧
    Can.pairClose 0 (up (fun h => sets (chain false h) [(LSY_PAIR_en, 0, 0, 1), (LSY_STAT_aligned, 0, 0, 1), (OUT_CTRL_on, 0, 0, 1)])) = true ∧
    Can.pairClose2 0 (up (chain false)) = true ∧
    Can.pairTurnOn (up (fun h => { chain false h with lsy := { h.lsy with closeAt := some 0, closeAdmitted := true } })) = true ∧
    Can.pairTurnOn2 (up (fun h => { chain false h with lsy := { h.lsy with closeAt := some 0 } })) = true ∧
    Can.pairTurnOn3 (up (chain false)) = true := by
  decide +kernel

theorem witness_port_commands_1 :
    Can.writeFrame 0 0x00040000 [5] 0x13 72 false (up served) = true ∧
    Can.writeFrame2 0 0x00040000 [5] 0 71 false (up served) = true ∧
    Can.writeFrame3 0 0x01040000 [5] 0x77 72 false (up served) = true ∧
    Can.writeFrame4 0 0x00040000 [5] 0 72 false (up (fun h => h.modPort 0 (fun x => { x with outcome := some 7 }))) = true ∧
    Can.writeFrame5 0 0x00040000 [5] 0 72 true (up served) = true ∧
    Can.readFrame 0 0x10000000 0x64 96 false (up served) = true ∧
    Can.readFrame2 0 0x11000000 0xd1 96 false (up served) = true ∧
    Can.readFrame3 0 0x10000000 0 96 false (up served) = true ∧
    Can.readFrame4 0 0x10000000 0 96 false (up (fun h => h.modPort 0 (fun x => { x with outcome := some 7 }))) = true ∧
    Can.readFrame5 0 0x10000000 0 39 false (up served) = true ∧
    Can.doorbell 0 0x0C000000 1 0xe0 72 false (up (fun h => (served h).put OPS_SQ_CFG_en true 0)) = true ∧
    Can.doorbell2 0 0x0C000000 1 0xe0 72 false (up served) = true := by
  decide +kernel

theorem witness_port_commands_2 :
    Can.wrdExpOpen 0 0x45580000 (up id) = true ∧
    Can.wrdExpOpen2 0 0 (up id) = true := by
  decide +kernel

theorem witness_engine_commands_1 :
    Can.descriptorAccept 0 (up (fun h => sets (served h) [(OPS_SQ_CFG_en, 0, 0, 1), (OPS_SQ_IDX_tail, 0, 0, 1)])) = true ∧
    Can.descriptorAccept2 0 (up served) = true ∧
    Can.dispatch (up (fun h => { served h with eng := { h.eng with ops := [{ cls := 1 }] } })) = true ∧
    Can.dispatch2 (up (fun h => { served h with eng := { h.eng with ops := [{ cls := 1, kind := 8 }] } })) = true ∧
    Can.dispatch3 (up (oper { phase := .accepted })) = true ∧
    Can.dispatch4 (up (fun h => { served h with eng := { h.eng with ops := [{ cls := 0 }, { cls := 1, slot := 1 }], tokens := vset h.eng.tokens 0 1 } })) = true ∧
    Can.dispatch5 (up served) = true ∧
    Can.completion 0 (up (fun h => { (served h).put OPS_CQ_CFG_en true with eng := { h.eng with ops := [{ phase := .retiring }] } })) = true ∧
    Can.completion2 0 (up (fun h => { sets (served h) [(OPS_CQ_CFG_en, 0, 0, 1), (OPS_CQ_CFG_log2, 0, 0, 3), (OPS_CQ_IDX_tail, 0, 0, 8)] with eng := { h.eng with ops := [{ phase := .retiring }] } })) = true ∧
    Can.completion3 0 (up (fun h => (oper { dropped := true } h).retire 0 0)) = true ∧
    Can.completion4 0 (up (oper {})) = true ∧
    Can.opsCancel 0 0 (up (fun h => { served h with eng := { h.eng with ops := [{}] } })) = true := by
  decide +kernel

theorem witness_engine_commands_2 :
    Can.opsCancel2 0 0 (up (fun h => (oper {} h).retire 0 0)) = true ∧
    Can.opsCancel3 0 0 (up served) = true ∧
    Can.opsCancel4 0 0 (up (fun h => { h with dev := { h.dev with phase := .off } })) = true ∧
    Can.opsCqIdxWrite 0 0 (up served) = true ∧
    Can.opsCqIdxWrite2 0 0 (up (fun h => { h with dev := { h.dev with phase := .off } })) = true ∧
    Can.opsQosRtWrite 0 0 (up (fun h => (served h).wr WRD_EXP_OPEN_open 0x40 0)) = true ∧
    Can.opsQosRtWrite2 0 0 (up served) = true := by
  decide +kernel

theorem witness_bank_operations_1 :
    Can.nop 0 (up (oper {})) = true ∧
    Can.regw 0 (up (fun h => oper { kind := 1 } (h.setMemWord 0x100000 0x100040))) = true ∧
    Can.regw2 0 (up (fun h => oper { kind := 1 } (h.setMemWord 0x100000 3))) = true ∧
    Can.regr 0 (up (fun h => oper { kind := 2, w2 := 16 } (h.setMemWord 0x100000 0x100080))) = true ∧
    Can.bankCopy 0 (up (fun h => oper { kind := 3, w1 := 0x3000, w2 := 1 } (h.setMemWord 0x100000 7))) = true ∧
    Can.bankFill 0 (up (oper { kind := 4, w1 := 0x3000, w2 := 9 })) = true ∧
    Can.atomAdd 0 (up (fun h => oper { kind := 5, field := 0, w2 := 3 } (h.setMemWord 0x100000 7))) = true ∧
    Can.atomSwap 0 (up (fun h => oper { kind := 5, field := 1, w2 := 3 } (h.setMemWord 0x100000 7))) = true ∧
    Can.regw3 0 (up (oper { kind := 1, w1 := 0x02000000 })) = true ∧
    Can.regr2 0 (up (oper { kind := 2, w2 := 0x02000000 })) = true ∧
    Can.bankCopy2 0 (up (oper { kind := 3, w2 := 0x02000000 })) = true ∧
    Can.bankCopy3 0 (up (fun h => { oper { kind := 3, w2 := 0 } h with sup := { h.sup with on := 0 ||| 4 } })) = true := by
  decide +kernel

theorem witness_bank_operations_2 :
    Can.bankFill2 0 (up (oper { kind := 4, w1 := 0x02000000 })) = true ∧
    Can.bankFill3 0 (up (fun h => { oper { kind := 4, w1 := 0 } h with sup := { h.sup with on := 0 ||| 4 } })) = true ∧
    Can.atomAdd2 0 (up (oper { kind := 5, w1 := 0x02000000 })) = true ∧
    Can.atomAdd3 0 (up (fun h => { oper { kind := 5, w1 := 0 } h with sup := { h.sup with on := 0 ||| 4 } })) = true ∧
    Can.atomSwap2 0 (up (oper { kind := 5, field := 1, w1 := 0x02000000 })) = true ∧
    Can.atomSwap3 0 (up (fun h => { oper { kind := 5, field := 1, w1 := 0 } h with sup := { h.sup with on := 0 ||| 4 } })) = true ∧
    Can.bankCopy4 0 (up (fun h => { oper { kind := 3 } h with bad := [0x100000] })) = true ∧
    Can.atomAdd4 0 (up (fun h => { oper { kind := 5 } h with bad := [0x100000] })) = true ∧
    Can.atomSwap4 0 (up (fun h => { oper { kind := 5, field := 1 } h with bad := [0x100000] })) = true := by
  decide +kernel

theorem witness_unit_operations_1 :
    Can.tmbOpStart 0 (up (oper { kind := 6 })) = true ∧
    Can.tmbOpStart2 0 (up (fun h => (oper { kind := 6 } h).wr TMB_STAT_state 2 0)) = true ∧
    Can.tmbOpStart3 0 (up (fun h => { oper { kind := 6 } h with dev := { h.dev with safe := true } })) = true ∧
    Can.tmbOpStart4 0 (up (oper { kind := 6, field := 8 })) = true ∧
    Can.tmbOpStart5 0 (up (fun h => { (sets (oper { kind := 6, field := 0 } h) [(OUT_CFG_src, 0, 0, 1)]) with hinge := { h.hinge with upL := false } })) = true ∧
    Can.tmbOpStop 0 (up (fun h => (oper { kind := 6, field := 1 } h).wr TMB_STAT_state 2 0)) = true ∧
    Can.tmbOpStop2 0 (up (oper { kind := 6, field := 1 })) = true ∧
    Can.tmbOpStop3 0 (up (oper { kind := 6, field := 9 })) = true ∧
    Can.tmbOpStop4 0 (up (fun h => { (sets (oper { kind := 6, field := 1 } h) [(OUT_CFG_src, 0, 0, 1)]) with hinge := { h.hinge with upL := false } })) = true ∧
    Can.tmbOpJump 0 (up (fun h => (oper { kind := 6, field := 2 } h).wr TMB_STAT_state 2 0)) = true ∧
    Can.tmbOpJump2 0 (up (oper { kind := 6, field := 10 })) = true ∧
    Can.tmbOpJump3 0 (up (fun h => { (sets (oper { kind := 6, field := 2 } h) [(OUT_CFG_src, 0, 0, 1)]) with hinge := { h.hinge with upL := false } })) = true := by
  decide +kernel

theorem witness_unit_operations_2 :
    Can.meas 0 [5] (up (oper { kind := 7, w1 := 0x10000 })) = true ∧
    Can.meas2 0 [] (up (oper { kind := 7, w1 := 1, ward := 1 })) = true ∧
    Can.meas3 0 [] (up (fun h => { oper { kind := 7 } h with hinge := { h.hinge with upL := false } })) = true ∧
    Can.diag 0 0 0 0 (up (oper { kind := 8 })) = true ∧
    Can.diag2 0 0 0 0 (up (oper { kind := 8, field := 1 })) = true ∧
    Can.diag3 0 0 0 0 (up (fun h => { oper { kind := 8 } h with hinge := { h.hinge with upL := false } })) = true ∧
    Can.lsy 0 (up (fun h => (oper { kind := 11 } (chain false h)).wr LSY_USER_send_mask 1)) = true ∧
    Can.lsy2 0 (up (fun h => (oper { kind := 11, w1 := 0x80000000 } (chain false h)).wr LSY_USER_send_mask 1)) = true ∧
    Can.lsy3 0 (up (oper { kind := 11 })) = true ∧
    Can.lsy4 0 (up (fun h => (oper { kind := 11 } h).wr LSY_USER_send_mask 1)) = true := by
  decide +kernel

theorem witness_nvm_and_timed_operations :
    Can.nvmRead 0 (up (fun h => (oper { kind := 9, field := 0, w1 := 0x70000 } h).wr OPS_NVM_EXT_size 1 0)) = true ∧
    Can.nvmProgram 0 (up (fun h => (oper { kind := 9, field := 1, w1 := 0x70000 } h).wr OPS_NVM_EXT_size 1 0)) = true ∧
    Can.nvmErase 0 (up (fun h => (oper { kind := 9, field := 2, w1 := 0x70000 } h).wr OPS_NVM_EXT_size 1 0)) = true ∧
    Can.nvmRead2 0 (up (oper { kind := 9, field := 0, ward := 1 })) = true ∧
    Can.nvmProgram2 0 (up (oper { kind := 9, field := 1, ward := 1 })) = true ∧
    Can.nvmErase2 0 (up (oper { kind := 9, field := 2, ward := 1 })) = true ∧
    Can.nvmOperationDone 0 true (up (fun h => { oper { kind := 9 } h with nvmOp := some { use := .user, kind := 0, addr := 0x70000 } })) = true ∧
    Can.timed 0 (up (oper { kind := 10 })) = true ∧
    Can.timedRelease 0 (up (fun h => { served (h.setMemWord 0x100000 0x100040) with eng := { h.eng with ops := [{ kind := 10, phase := .waiting, target := some 0 }] } })) = true := by
  decide +kernel

theorem witness_interrupt_commands :
    Can.intEvent 0 5 (up id) = true ∧
    Can.intEvent2 7 5 (up id) = true ∧
    Can.moderationExpiry 0 (up (fun h => (sets h [(INT_STAT_stat, 0, 0, 1), (INT_EN_en, 0, 0, 1)]).modInt 0 (fun x => { x with held := true }))) = true ∧
    Can.moderationExpiry2 0 (up id) = true ∧
    Can.moderationExpiry3 0 (up (fun h => h.modInt 0 (fun x => { x with held := true }))) = true ∧
    Can.intPulseEnd 0 (up (fun h => { h with clk := { h.clk with now := 1000 } }.modPin 0 (fun q => { q with pulse := true }))) = true ∧
    Can.intPulseEnd2 0 (up (fun h => h.wr INT_PIN_CFG_width 5 0)) = true ∧
    Can.intStatClear 0 1 (up (fun h => h.wr INT_STAT_stat 3 0)) = true ∧
    Can.intEnWrite 0 1 (up (fun h => h.wr INT_STAT_stat 3 0)) = true ∧
    Can.intSet 0 0x40000000 (up id) = true ∧
    Can.intModWrite 0 0x00050000 (up (fun h => h.wr WRD_EXP_OPEN_open 0x40 0)) = true ∧
    Can.intModWrite2 0 0x00050000 (up id) = true := by
  decide +kernel

theorem witness_reset_commands_1 :
    Can.rstnLow false (up id) = true ∧
    Can.rstnLow2 false (up (fun h => { h with dev := { h.dev with rstLow := true } })) = true ∧
    Can.rstnRelease (up (fun h => { h with dev := { h.dev with rstLow := true, phase := .boot } })) = true ∧
    Can.rstnRelease2 (up id) = true ∧
    Can.rstnRelease3 (up (fun h => { h with dev := { h.dev with rstLow := true, phase := .off } })) = true ∧
    Can.rstDev 0 0x52535444 (up id) = true ∧
    Can.rstDev2 1 0x52535444 (up id) = true ∧
    Can.deviceSoftReset (up (fun h => { h with dev := { h.dev with softReset := some (4, 0) } })) = true ∧
    Can.deviceSoftReset2 (up id) = true ∧
    Can.rstWard 0 0x57520000 (up id) = true ∧
    Can.rstWard2 1 0x57520000 (up id) = true ∧
    Can.rstWard3 0 0x57520001 (up (fun h => h.setWard 1 .reset)) = true := by
  decide +kernel

theorem witness_reset_commands_2 :
    Can.wardResetDone 0 (up (fun h => h.setWard 0 .reset)) = true ∧
    Can.wardResetDone2 0 (up id) = true ∧
    Can.rstField 0 0x52535446 (up id) = true ∧
    Can.rstField2 1 0x52535446 (up id) = true ∧
    Can.fieldResetRequest (up (fun h => { h with fieldReset := 1, clk := { h.clk with now := 10000000 } })) = true ∧
    Can.fieldResetRequest2 (up id) = true ∧
    Can.fieldResetTimeout (up (fun h => { h with fieldReset := 3, clk := { h.clk with now := 10000000 }, hinge := { h.hinge with upF := false } })) = true ∧
    Can.fieldResetTimeout2 (up id) = true := by
  decide +kernel

theorem witness_bank_commands_1 :
    Can.bnkOwnerWrite 0 0 0xA4010000 (up served) = true ∧
    Can.bnkOwnerWrite2 0 0 0xA5000000 (up served) = true ∧
    Can.bnkOwnerWrite3 0 0 0 (up served) = true ∧
    Can.bnkOwnerWrite4 1 0 0xA4010000 (up served) = true ∧
    Can.drainComplete 0 (up (fun h => (served h).modBank 0 (fun _ => { hand := some { target := 1 } }))) = true ∧
    Can.drainComplete2 0 (up (fun h => (served h).modBank 0 (fun _ => { hand := some { target := 1, scrub := true } }))) = true ∧
    Can.drainComplete3 0 (up served) = true ∧
    Can.handoverScrubDone 0 (up (fun h => (served h).modBank 0 (fun _ => { hand := some { target := 1, scrub := true, scrubbing := true } }))) = true ∧
    Can.handoverScrubDone2 0 (up (fun h => (served h).modBank 0 (fun _ => { hand := some { target := 1, scrub := true, scrubbing := true, dropped := some 2 } }))) = true ∧
    Can.handoverScrubDone3 0 (up served) = true ∧
    Can.bnkHandedClear 0 0 1 (up served) = true ∧
    Can.bnkHandedClear2 1 0 1 (up served) = true := by
  decide +kernel

theorem witness_bank_commands_2 :
    Can.retainWrite 0 0 1 (up served) = true ∧
    Can.retainWrite2 1 0 1 (up served) = true ∧
    Can.bitSet 0 0 0 1 (up served) = true ∧
    Can.bitSet2 0 0 0 1 (up (fun h => { served h with bad := [0x100000] })) = true ∧
    Can.bitSet3 1 0 0 1 (up served) = true ∧
    Can.bitClear 0 0 0 1 (up served) = true ∧
    Can.bitClear2 0 0 0 1 (up (fun h => { served h with bad := [0x100000] })) = true ∧
    Can.bitClear3 1 0 0 1 (up served) = true ∧
    Can.eccCorrected 0 0 (up id) = true ∧
    Can.eccCorrected2 49 4095 (up id) = true ∧
    Can.eccUncorrectable 0 0 0 (up id) = true ∧
    Can.eccUncorrectable2 49 4095 0 (up id) = true := by
  decide +kernel

theorem witness_bank_commands_3 :
    Can.scrubRead 0 0 (some 7) (up id) = true := by
  decide +kernel

theorem witness_scheduler_commands_1 :
    Can.thermalModelUpdate [] [] 0 2400 3300 [800] (up id) = true ∧
    Can.thermWarn 6 1080 (up id) = true ∧
    Can.schedulerDecision (up (fun h => h.wr SCH_VF_BUD_p_avg 600)) = true ∧
    Can.schedulerDecision2 (up id) = true ∧
    Can.schedulerDecision3 (up (fun h => h.submit { kind := .turnOn, ref := 2, ward := 2, chs := 4 })) = true ∧
    Can.schedulerDecision4 (up (fun h => h.submit { kind := .turnOff, ref := 2, ward := 2 })) = true ∧
    Can.schedulerDecision5 (up (fun h => ((h.put OUT_CTRL_on true 2).setShed 2 true).submit { kind := .restore, ref := 2, ward := 2, chs := 4 })) = true ∧
    Can.schedulerDecision6 (up (fun h => (h.wr SCH_LOGIC_ma_max 0).submit { kind := .turnOn, ref := 2, ward := 2, chs := 4, ivdd := 5 })) = true ∧
    Can.schedulerDecision7 (up (fun h => let h := on 2 (h.wr OUT_CFG_shed_class 3 2); { h with sch := { h.sch with view := { h.sch.view with temps := Vector.replicate 6 1300 } } })) = true ∧
    Can.schedulerDecision8 (up (fun h => { h with sch := { h.sch with view := { h.sch.view with temps := Vector.replicate 6 1300 } } })) = true ∧
    Can.schedulerDecision9 (up (fun h => { h with clk := { h.clk with tb := 1 } })) = true ∧
    Can.eraseDayBoundary (up (fun h => { h with clk := { h.clk with tb := 8640000000000 }, sch := { h.sch with erases := Vector.replicate 32 3 } })) = true := by
  decide +kernel

theorem witness_scheduler_commands_2 :
    Can.eraseDayBoundary2 (up id) = true ∧
    Can.schRtWrite 0 0x1E64 (up (fun h => h.wr WRD_EXP_OPEN_open 8 0)) = true ∧
    Can.schRtWrite2 0 0x1E64 (up id) = true := by
  decide +kernel

theorem witness_heartbeat_commands_1 :
    Can.heartbeatSend false (up id) = true ∧
    Can.heartbeatSend2 true (up (fun h => { h with sup := { h.sup with fieldUp := false } })) = true ∧
    Can.hbReceive false 0xCC9C 0 (up id) = true ∧
    Can.hbReceive2 false 0 0 (up id) = true ∧
    Can.heartbeatLoss false (up (fun h => { h with clk := { h.clk with now := 1000000 } })) = true ∧
    Can.heartbeatLoss2 false (up id) = true ∧
    Can.soscBLoss (up id) = true ∧
    Can.soscBLoss2 (up (fun h => { h with dbt := { h.dbt with clockLost := true } })) = true ∧
    Can.adcComparison 0 0 0 0 (up id) = true ∧
    Can.adcComparison2 0 0 0 0 (up (fun h => { h with sup := { h.sup with fieldUp := false } })) = true ∧
    Can.adcConfirm 0 0 0 0 (up (fun h => { h with dbt := { h.dbt with adcPending := 1 } })) = true ∧
    Can.adcConfirm2 0 0 0 0 (up id) = true := by
  decide +kernel

theorem witness_heartbeat_commands_2 :
    Can.tempComparison 0 0 0 (up id) = true ∧
    Can.tempComparison2 0 0 0 (up (fun h => { h with sup := { h.sup with fieldUp := false } })) = true := by
  decide +kernel

theorem witness_proof_commands_1 :
    Can.proofStart (up id) = true ∧
    Can.proofStart2 (up (fun h => { h with dbt := { h.dbt with todo := [(3, 1)] } })) = true ∧
    Can.proofStart3 (up (fun h => { h with dbt := { h.dbt with todo := [(8, 1)] } })) = true ∧
    Can.proofStart4 (up (fun h => { h with dbt := { h.dbt with nextNow := some (0, 0) } })) = true ∧
    Can.proofStart5 (up (fun h => { h with dbt := { h.dbt with reproof := [(0, 0)] } })) = true ∧
    Can.proofStart6 (up (fun h => { h with dbt := { h.dbt with paused := true } })) = true ∧
    Can.proofDetect 0 (up (fun h => { h with dbt := { h.dbt with proof := some {} } })) = true ∧
    Can.proofDetect2 2001 (up (fun h => { h with dbt := { h.dbt with proof := some {} } })) = true ∧
    Can.proofDetect3 0 (up id) = true ∧
    Can.proofTimeout (up (fun h => { h with clk := { h.clk with now := 10000 }, dbt := { h.dbt with proof := some {} } })) = true ∧
    Can.proofTimeout2 (up id) = true ∧
    Can.recheckEnd false (up (fun h => { h with dbt := { h.dbt with proof := some { forced := false } } })) = true := by
  decide +kernel

theorem witness_proof_commands_2 :
    Can.recheckEnd2 true (up (fun h => { h with dbt := { h.dbt with proof := some { forced := false } } })) = true ∧
    Can.recheckEnd3 true (up (fun h => { h with dbt := { h.dbt with proof := some { mech := 12, inst := 1, forced := false } } })) = true ∧
    Can.recheckEnd4 true (up id) = true ∧
    Can.proofOverdue 0 0 (up (fun h => { h with dbt := { h.dbt with ages := [{ mech := 0, inst := 0, age := 100000000000000 }] } })) = true ∧
    Can.proofOverdue2 0 0 (up id) = true ∧
    Can.proofNow 0 0x50520200 (up (fun h => h.wr WRD_EXP_OPEN_open 2 0)) = true ∧
    Can.proofNow2 0 0x50520200 (up id) = true ∧
    Can.proofPause 0 0x50520400 (up (fun h => h.wr WRD_EXP_OPEN_open 2 0)) = true ∧
    Can.proofPause2 0 0x50520400 (up id) = true ∧
    Can.proofResume 0 0x50520000 (up (fun h => h.wr WRD_EXP_OPEN_open 2 0)) = true ∧
    Can.proofResume2 0 0x50520000 (up id) = true ∧
    Can.reproof (up (fun h => { h with dev := { h.dev with safe := true }, dbt := { h.dbt with failed := [(0, 0)] } })) = true := by
  decide +kernel

theorem witness_proof_commands_3 :
    Can.reproof2 (up (fun h => { h with dev := { h.dev with safe := true }, dbt := { h.dbt with failed := [(8, 0)] } })) = true ∧
    Can.reproof3 (up id) = true := by
  decide +kernel

theorem witness_safe_commands_1 :
    Can.dbtSafeExit 0 0x53464558 (up (fun h => { h with dev := { h.dev with safe := true } })) = true ∧
    Can.dbtSafeExit2 0 0x53464558 (up id) = true ∧
    Can.dbtSafeExit3 1 0x53464558 (up id) = true ∧
    Can.safeLeave (up (fun h => { h with clk := { h.clk with now := 2000 }, dev := { h.dev with safe := true, exitStep := 2 } })) = true ∧
    Can.safeLeave2 (up id) = true ∧
    Can.thermalHalt 0 1320 (up id) = true ∧
    Can.thermalHalt2 0 1319 (up id) = true ∧
    Can.fieldGlobalShutdown 0 1320 (up id) = true ∧
    Can.fieldGlobalShutdown2 0 0 (up id) = true ∧
    Can.fieldGlobalShutdown3 0 0 (up (fun h => { h with dev := { h.dev with halt := some .thermal }, dbt := { h.dbt with globalOff := true } })) = true ∧
    Can.thermalHaltExit 0 0 (up (fun h => { h with dev := { h.dev with halt := some .thermal } })) = true ∧
    Can.thermalHaltExit2 0 0 (up id) = true := by
  decide +kernel

theorem witness_safe_commands_2 :
    Can.nvmCutoff true (up (fun h => { h with dev := { h.dev with halt := some .thermal }, nvmOp := some {}, clk := { h.clk with now := 500000 } })) = true ∧
    Can.nvmCutoff2 true (up id) = true := by
  decide +kernel

theorem witness_fault_commands_1 :
    Can.faultOccurrence 6 16 0 5 (up id) = true ∧
    Can.faultOccurrence2 5 16 0 5 (up id) = true ∧
    Can.faultOccurrence3 6 16 0 5 (up (fun h => h.put (FLT_EN_en 6) false)) = true ∧
    Can.faultOccurrence4 6 16 0 5 (up (fun h => { h with flt := { h.flt with cause := vset h.flt.cause 6 (2 ^ 16) } })) = true ∧
    Can.faultOccurrence5 6 16 0 5 (up (fun h => { h with dev := { h.dev with phase := .off } })) = true ∧
    Can.faultCauseEnd 6 16 (up id) = true ∧
    Can.faultCauseEnd2 7 16 (up id) = true ∧
    Can.faultCauseEnd3 1 16 (up id) = true ∧
    Can.faultClear 0 0 0x40 (up (fun h => h.setMask 6 1)) = true ∧
    Can.faultClear2 0 0 0x40 (up (fun h => { h with dev := { h.dev with phase := .off } })) = true ∧
    Can.fltForce 0 0x40 (up (fun h => (List.range 62).foldl (fun h n => h.wr (FLT_CLASS_class n) 2) (h.wr WRD_EXP_OPEN_open 1 0))) = true ∧
    Can.fltForce2 0 0x40 (up id) = true := by
  decide +kernel

theorem witness_fault_commands_2 :
    Can.fltSelf false true (up id) = true ∧
    Can.fltSelf2 true false (up id) = true ∧
    Can.fltSelf3 true false (up (fun h => { h with sup := { h.sup with fieldUp := false } })) = true ∧
    Can.fltSelf4 true false (up id) = true := by
  decide +kernel

theorem witness_watchdog_commands :
    Can.wdgKick 0 0 0x8B475A5A (up (fun h => sets ((h.setWard 0 .active).modWd 0 (fun x => { x with state := 1, first := false, seed := 0x3C5A })) [(WDG_TIME_timeout_ms, 0, 0, 5), (WDG_CFG_chal_en, 0, 0, 1), (WDG_CFG_win_en, 0, 0, 0)])) = true ∧
    Can.wdgKick2 0 0 0x5A5A (up (fun h => sets ((h.setWard 0 .active).modWd 0 (fun x => { x with state := 1, first := false, seed := 0x3C5A })) [(WDG_TIME_timeout_ms, 0, 0, 5), (WDG_CFG_chal_en, 0, 0, 1), (WDG_CFG_win_en, 0, 0, 0)])) = true ∧
    Can.wdgKick3 0 0 0 (up id) = true ∧
    Can.wdgKick4 0 0 0x5A5A (up id) = true ∧
    Can.wdgKick5 1 0 0x5A5A (up id) = true ∧
    Can.wardWatchdogExpiry 0 (up (fun h => let h := { h with clk := { h.clk with mclk := 100000000000 } }; (h.setWard 0 .active).modWd 0 (fun x => { x with state := 1, first := false, seed := 0x3C5A }))) = true ∧
    Can.wardWatchdogExpiry2 0 (up (fun h => let h := { h with clk := { h.clk with mclk := 100000000000 } }; (((h.setWard 0 .active).modWd 0 (fun x => { x with state := 1, first := false, seed := 0x3C5A })).setWard 0 .held).setMask 6 1 |>.wr (FLT_CLASS_class 6) 4)) = true ∧
    Can.wardWatchdogExpiry3 0 (up id) = true ∧
    Can.dwdExpiry (up (fun h => { h with clk := { h.clk with mclk := 100000000000 } }.modWd 8 (fun x => { x with state := 1 }))) = true ∧
    Can.dwdExpiry2 (up id) = true ∧
    Can.wdoPulseEnd (up (fun h => h.put WDG_WDO_STAT_active true)) = true ∧
    Can.wdoPulseEnd2 (up (fun h => { h with wdo := { h.wdo with ms := 5 } }.put WDG_WDO_STAT_active true)) = true := by
  decide +kernel

theorem witness_self_test_orders :
    Can.bstLogic 0 0x42530001 (up (fun h => h.put SCH_STAT_warn true)) = true ∧
    Can.bstLogic2 1 0x42530001 (up id) = true ∧
    Can.bstField 0 0x42530002 (up (fun h => h.put SCH_STAT_warn true)) = true ∧
    Can.bstField2 1 0x42530002 (up id) = true ∧
    Can.bstLogicThenField 0 0x42530003 (up (fun h => h.put SCH_STAT_warn true)) = true ∧
    Can.bstLogicThenField2 1 0x42530003 (up id) = true ∧
    Can.bstLogic3 0 0x42530001 (up id) = true ∧
    Can.bstField3 0 0x42530002 (up id) = true ∧
    Can.bstLogicThenField3 0 0x42530003 (up id) = true ∧
    Can.bstXctrlWrite 0 0x101 (up (fun h => h.wr WRD_EXP_OPEN_open 4 0)) = true ∧
    Can.bstXctrlWrite2 0 0x101 (up id) = true := by
  decide +kernel

theorem witness_self_test_results_1 :
    Can.groupTestDone 0x6E31A0C4 true 0 (up (fun h => (fun b => { h with dev := { h.dev with test := true }, bst := b }) { todo := [0, 1] })) = true ∧
    Can.groupTestDone2 0 true 2 (up (fun h => (fun b => { h with dev := { h.dev with test := true }, bst := b }) { todo := [0, 1] })) = true ∧
    Can.groupTestDone3 0 true 0 (up id) = true ∧
    Can.logicLbistEnd (up (fun h => (fun b => { h with dev := { h.dev with test := true }, bst := b }) {})) = true ∧
    Can.logicLbistEnd2 (up (fun h => let h := (fun b => { h with dev := { h.dev with test := true }, bst := b }) {}; { h with hinge := { h.hinge with upL := false } })) = true ∧
    Can.logicLbistEnd3 (up (fun h => (fun b => { h with dev := { h.dev with test := true }, bst := b }) { fieldNext := true })) = true ∧
    Can.logicLbistEnd4 (up (fun h => (fun b => { h with dev := { h.dev with test := true }, bst := b }) { fieldNext := true, fails := 1 })) = true ∧
    Can.fieldLbistEnd [0x2DC46F08] true true (up (fun h => ((fun b => { h with dev := { h.dev with test := true }, bst := b }) { field := true, fieldRuns := true }).wr BST_XCTRL_fg_mask 1)) = true ∧
    Can.fieldLbistEnd2 [0] true false (up (fun h => ((fun b => { h with dev := { h.dev with test := true }, bst := b }) { field := true, fieldRuns := true }).wr BST_XCTRL_fg_mask 1)) = true ∧
    Can.fieldLbistEnd3 [] true true (up id) = true ∧
    Can.testAbort 8 0 (up (fun h => (fun b => { h with dev := { h.dev with test := true }, bst := b }) {})) = true ∧
    Can.testAbort2 8 0 (up id) = true := by
  decide +kernel

theorem witness_self_test_results_2 :
    Can.bootLbist [0, 1, 2, 3, 4, 5, 6, 7, 8, 9, 10] true 3500 (up (fun h => { sets h [(BST_CFG_boot_lbist, 0, 0, 1), (DBT_STARTUP_done, 0, 0, 1), (DBT_STARTUP_passed, 0, 0, 2 ^ 14 - 1)] with dev := { h.dev with phase := .arming }, blk := { h.blk with applied := true } })) = true ∧
    Can.bootLbist2 [] true 0 (up id) = true ∧
    Can.bootMemTest [(3, 5)] (up (fun h => { h with dev := { h.dev with phase := .arming }, sup := { h.sup with waking := 0 }, blk := { h.blk with config := fileSet [] (fldKey BST_CFG_boot_mem 0 0) 1 } })) = true ∧
    Can.bootMemTest2 [] (up id) = true := by
  decide +kernel

theorem witness_record_commands_1 :
    Can.recordIntake 1 2 3 4 [5] (up id) = true ∧
    Can.recordIntake2 1 2 3 4 [] (up (fun h => { h with recd := { h.recd with fifo := List.replicate 64 { sev := 4 } } })) = true ∧
    Can.recordIntake3 1 2 3 4 [] (up (fun h => { h with recd := { h.recd with fifo := List.replicate 64 { typ := 1, sev := 1 } } })) = true ∧
    Can.recordIntake4 1 2 3 4 [] (up (fun h => sets h [(BST_STAT_busy, 0, 0, 1), (BST_STAT_group, 0, 0, 4)])) = true ∧
    Can.recordIntake5 1 2 3 4 [] (up (fun h => h.put REC_STAT_exhausted true)) = true ∧
    Can.recordWriteStart (up (fun h => { h with recd := { h.recd with fifo := [{}] } })) = true ∧
    Can.recordWriteStart2 (up id) = true ∧
    Can.ringWrite (up (fun h => { h with recd := { h.recd with writing := some { seq := some 7 } } })) = true ∧
    Can.ringWrite2 (up id) = true ∧
    Can.gapRecord (up (fun h => { h with recd := { h.recd with gap := #v[0, 2, 0, 0, 0], gapLow := some 5 } })) = true ∧
    Can.gapRecord2 (up id) = true ∧
    Can.recRdSqbHiRead 0 (up (fun h => h.wr REC_CFG_read_mask 1)) = true := by
  decide +kernel

theorem witness_record_commands_2 :
    Can.recRdSqbHiRead2 0 (up (fun h => h.wr REC_CFG_read_mask 0)) = true ∧
    Can.newestSeqRead 0 (up id) = true ∧
    Can.newestSeqRead2 7 (up id) = true ∧
    Can.pendingRecord 0 1 2 3 (up id) = true ∧
    Can.pendingRecord2 2 1 2 3 (up (fun h => { h with ret := { h.ret with slots := Vector.replicate 4 (some { sev := 4 }) } })) = true ∧
    Can.recRtWrite 0 0 (up (fun h => h.wr WRD_EXP_OPEN_open 0x20 0)) = true ∧
    Can.recRtWrite2 0 0 (up id) = true := by
  decide +kernel

theorem witness_journal_commands_1 :
    Can.pageSubmit (up (fun h => { h with recd := { h.recd with staging := [{ recs := List.replicate 8 [1] }] } })) = true ∧
    Can.pageSubmit2 (up (fun h => { h with recd := { h.recd with staging := [{ recs := [[1]] }] } })) = true ∧
    Can.pageProgramDone 0 true (up (fun h => { h with nvmOp := some { use := .journal, kind := 1, addr := 0x40000, data := [1] }, recd := { h.recd with staging := [{ recs := [[1]] }], submitted := true } })) = true ∧
    Can.pageProgramDone2 0 true (up (fun h => { h with nvmOp := some { use := .reclaim, kind := 1, addr := 0x40000, data := [1] }, recd := { h.recd with copies := [[1]], reclaim := 2, submitted := true } })) = true ∧
    Can.pageProgramDone3 0 true (up (fun h => { h with nvmOp := some { use := .journal, kind := 1, addr := 0x40000, data := [1] }, recd := { h.recd with stale := true, submitted := true } })) = true ∧
    Can.pageProgramDone4 0 true (up id) = true ∧
    Can.pageProgramDone5 1 true (up (fun h => { h with nvmOp := some { use := .journal, kind := 1, addr := 0x40000, data := [1] }, recd := { h.recd with staging := [{ recs := [[1]] }], submitted := true, failRun := 2 } })) = true ∧
    Can.sectorReclaim (up (fun h => { h with recd := { h.recd with reclaim := 1 } })) = true ∧
    Can.sectorReclaim2 (up id) = true ∧
    Can.journalEraseDone 0 true (up (fun h => { h with nvmOp := some { use := .reclaim, kind := 2, addr := 0x41000 } })) = true ∧
    Can.journalEraseDone2 0 true (up (fun h => { h with nvmOp := some { use := .reclaim, kind := 2, addr := 0x41000 } }.put REC_STAT_jpaused true)) = true ∧
    Can.journalEraseDone3 2 true (up (fun h => { h with nvmOp := some { use := .reclaim, kind := 2, addr := 0x41000 } })) = true := by
  decide +kernel

theorem witness_journal_commands_2 :
    Can.journalEraseDone4 0 true (up (fun h => { h with nvmOp := some { use := .clearErase, kind := 2, addr := 0x41000 }, recd := { h.recd with clearRun := some (0, 0, true), clearSectors := [31] } })) = true ∧
    Can.journalEraseDone5 0 true (up id) = true ∧
    Can.journalScan true (up (fun h => h.put REC_STAT_jscan true)) = true ∧
    Can.journalScan2 true (up id) = true ∧
    Can.journalScan3 false (up (fun h => h.put REC_STAT_jscan true)) = true ∧
    Can.journalPageRead 0 0x80000003 (up (fun h => h.wr REC_CFG_read_mask 1)) = true ∧
    Can.journalPageRead2 0 3 (up (fun h => h.wr REC_CFG_read_mask 1)) = true ∧
    Can.journalPageRead3 0 0x80000003 (up (fun h => { h with recd := { h.recd with clearRun := some (0, 0, true) } }.wr REC_CFG_read_mask 1)) = true ∧
    Can.journalPageRead4 0 0x80000003 (up (fun h => h.wr REC_CFG_read_mask 0)) = true ∧
    Can.journalReadDone true (up (fun h => { h with recd := { h.recd with jread := some 3 } })) = true ∧
    Can.journalReadDone2 false (up (fun h => { h with recd := { h.recd with jread := some 3 } })) = true ∧
    Can.journalReadDone3 true (up id) = true := by
  decide +kernel

theorem witness_clear_commands_1 :
    Can.nonceRead 0 (up id) = true ∧
    Can.nonceRead2 1 (up id) = true ∧
    Can.nonceExpiry (up (fun h => { h with clk := { h.clk with now := 600 * Config.ticksPerS }, recd := { h.recd with nonce := some (5, 0) } })) = true ∧
    Can.nonceExpiry2 (up (fun h => { h with recd := { h.recd with nonce := some (5, 0) } })) = true ∧
    Can.tokenCheck 0 0 (up (fun h => { h with recd := { h.recd with nonce := some (0, 0), authMap := #v[some 0, none, none, none] }, chip := { h.chip with keySlots := vset h.chip.keySlots 0 { state := 2, key := [] } } })) = true ∧
    Can.tokenCheck2 0 0 (up id) = true ∧
    Can.tokenCheck3 0 0 (up (fun h => { h with recd := { h.recd with nonce := some (0, 0) } })) = true ∧
    Can.tokenCheck4 0 0 (up (fun h => { h with recd := { h.recd with nonce := some (0, 0), mismatchAt := some 0, authMap := #v[some 0, none, none, none] }, chip := { h.chip with keySlots := vset h.chip.keySlots 0 { state := 2, key := [] } } })) = true ∧
    Can.tokenCheck5 0 0 (up (fun h => { h with recd := { h.recd with nonce := some (0, 0), clearRun := some (0, 0, false), authMap := #v[some 0, none, none, none] }, chip := { h.chip with keySlots := vset h.chip.keySlots 0 { state := 2, key := [] } } })) = true ∧
    Can.tokenCheck6 1 0 (up id) = true ∧
    Can.clear (up (fun h => { h with recd := { h.recd with clearRun := some (5, 0, true) } })) = true ∧
    Can.clear2 (up id) = true := by
  decide +kernel

theorem witness_clear_commands_2 :
    Can.keyProgram 0 0x4F540000 (up id) = true ∧
    Can.keyProgram2 0 0 (up id) = true ∧
    Can.keyProgramDone true (up (fun h => { h with recd := { h.recd with keyProg := some (2, [7]) } })) = true ∧
    Can.keyProgramDone2 true (up id) = true := by
  decide +kernel

theorem witness_ledger_commands_1 :
    Can.powerOnSecond 500 (up (fun h => { h with clk := { h.clk with now := Config.ticksPerS } })) = true ∧
    Can.powerOnSecond2 500 (up (fun h => { h with clk := { h.clk with now := Config.ticksPerS }, dev := { h.dev with rstLow := true } })) = true ∧
    Can.powerOnSecond3 0 (up id) = true ∧
    Can.fieldSnapshot (up id) = true ∧
    Can.fieldSnapshot2 (up (fun h => { h with life := { h.life with snapAt := some 0 } })) = true ∧
    Can.mirrorStart (up (fun h => { h with ret := { h.ret with life := { h.ret.life with powerOn := 10 ^ 7 } } })) = true ∧
    Can.mirrorStart2 (up (fun h => { h with life := { h.life with carried := Vector.replicate 16 { cycles := 0x8000 } } })) = true ∧
    Can.mirrorStart3 (up (fun h => { h with life := { h.life with mirrorDue := true } })) = true ∧
    Can.mirrorStart4 (up (fun h => { h with ret := { h.ret with life := { h.ret.life with powerOn := 10 ^ 7 } }, life := { h.life with mirror := some (0, []) } })) = true ∧
    Can.mirrorStart5 (up id) = true ∧
    Can.mirror 0 1 (up id) = true ∧
    Can.mirror2 0 1 (up (fun h => { h with life := { h.life with mirror := some (0, []) } })) = true := by
  decide +kernel

theorem witness_ledger_commands_2 :
    Can.mirror3 1 1 (up id) = true ∧
    Can.mirrorDone 0 true (up (fun h => { h with nvmOp := some { use := .mirror, kind := 1 }, life := { h.life with mirror := some (0, []) } })) = true ∧
    Can.mirrorDone2 2 true (up (fun h => { h with nvmOp := some { use := .mirror, kind := 1 }, life := { h.life with mirror := some (0, []) } })) = true ∧
    Can.mirrorDone3 0 true (up (fun h => { h with nvmOp := some { use := .mirror, kind := 2 }, life := { h.life with mirror := some (0, []), eraseDue := true } })) = true ∧
    Can.mirrorDone4 0 true (up (fun h => { h with nvmOp := some { use := .retained, kind := 1 } })) = true ∧
    Can.mirrorDone5 0 true (up (fun h => { h with nvmOp := some { use := .retained, kind := 2 }, life := { h.life with copyErase := some 1 } })) = true ∧
    Can.mirrorDone6 0 true (up id) = true ∧
    Can.mirrorDone7 0 true (up (fun h => { h with nvmOp := some { use := .mirror, kind := 1 }, life := { h.life with mirror := some (0, []), page := 6 } })) = true ∧
    Can.rebase (up (fun h => { h with life := { h.life with rebase := [(5, Vector.replicate 16 {})] } })) = true ∧
    Can.rebase2 (up id) = true ∧
    Can.ledgerRestore (up id) = true ∧
    Can.ledgerRestore2 (up (fun h => { h with life := { h.life with restored := true } })) = true := by
  decide +kernel

theorem witness_ledger_commands_3 :
    Can.lifeWindowRead 0 (up id) = true ∧
    Can.lifeWindowRead2 7 (up id) = true := by
  decide +kernel

theorem witness_the_challenge_answer : challenged 3 3 (up (fun h => sets (h.modWd 3 (fun x => { x with state := 1, seed := 0x3C5A }))
    [(WDG_CFG_chal_en, 3, 0, 1), (WDG_CFG_en, 3, 0, 1), (WDG_TIME_timeout_ms, 3, 0, 100)])) = true := by decide +kernel

theorem witness_the_seed_is_renewed : Can.served 3 3 0xA9655A5A (up (fun h => sets (h.modWd 3 (fun x => { x with state := 1, seed := 0x3C5A }))
      [(WDG_CFG_chal_en, 3, 0, 1), (WDG_CFG_en, 3, 0, 1), (WDG_TIME_timeout_ms, 3, 0, 100)])) = true ∧
    (sets upHub (upRegs ++ [(WDG_CFG_en, 3, 0, 1)])).flag WDG_CFG_en 3 = true ∧ (sets upHub upRegs).defined 3 = true := by decide +kernel

theorem witness_a_fault_clear_is_judged_bit_by_bit : Can.oneClear 2 (up (fun h => h.setMask 6 4)) = true := by decide +kernel

theorem witness_a_step_takes_the_front_command : (State.mk State.reset.hub [.timebaseWrap, .pllLock]).pending = .timebaseWrap :: [.pllLock] := by
  decide +kernel

theorem witness_an_empty_queue_ticks : State.reset.pending = [] := by decide +kernel

/-- A step answers a next state. -/
def goesOn (s : State) : Bool := match step s with | .next _ => true | .fault _ => false | .refused _ => false

theorem witness_the_drive_stays_in_agreement : (up id).hub.dbCond = (up id).hub.dbt.dbForced ∧ goesOn (up id) = true := by decide +kernel

theorem witness_the_memory_stays_canonical :
    Memory.wf 0 (up (fun h => h.setMemWord 0x100000 7)).hub.mem = true ∧
    (up (fun h => h.setMemWord 0x100000 7)).hub.nvm.toList.all (fun v => Memory.wf 0xFF v.mem) = true ∧
    goesOn (up (fun h => h.setMemWord 0x100000 7)) = true := by decide +kernel

theorem witness_the_keeper_is_never_held : (up id).hub.ward 0 ≠ .held ∧ goesOn (up id) = true := by decide +kernel

theorem witness_other_commands_store_nothing : noMarch (up id) = true ∧ storing (.pllLock) = false ∧
    goesOn { up id with pending := [.pllLock] } = true := by decide +kernel

theorem witness_stores_reach_only_their_words : noMarch (up served) = true ∧ storing (.bitSet 0 1 4095 5) = true ∧
    storedTo (.bitSet 0 1 4095 5) (up served) (bankAddr 1 4095 - 1) = false ∧ storedTo (.bitSet 0 1 4095 5) (up served) (bankAddr 1 4095 + 4) = false ∧
    storedTo (.bitSet 0 1 4095 5) (up served) (bankAddr 1 4095 + 3) = true ∧
    goesOn { up served with pending := [.bitSet 0 1 4095 5] } = true := by decide +kernel

theorem witness_other_registers_stand : mayWrite (.intSet 2 1) (fldKey OUT_CTRL_on 3 0) = false ∧
    mayWrite (.intSet 2 1) (fldKey INT_STAT_stat 2 0) = true ∧ mayWrite (.rstnLow true) (fldKey OUT_CTRL_on 3 0) = true := by decide +kernel

theorem witness_other_quiet_parts_stand : restarts (.fuseDone true) = false ∧ QuietPart.chip.movedBy (.fuseDone true) = true ∧
    QuietPart.nvm.movedBy (.fuseDone true) = false := by decide +kernel

theorem witness_other_busy_parts_stand : restarts .timebaseWrap = false ∧ mayFault .timebaseWrap = false ∧
    BusyPart.outs.movedBy .timebaseWrap = false := by decide +kernel

theorem witness_the_epoch : (up (fun h => { h with clk := { h.clk with tb := 2 ^ 48 - 1 } })).hub.dev.phase ≠ .off ∧
    (up (fun h => { h with clk := { h.clk with tb := 2 ^ 48 - 1 } })).hub.clk.tb % 2 ^ 48 = 2 ^ 48 - 1 ∧
    (up (fun h => { h with clk := { h.clk with tb := 2 ^ 48 - 1 } })).hub.dev.rstLow = false ∧
    (up (fun h => { h with clk := { h.clk with tb := 2 ^ 48 - 1 } })).hub.clk.mclkLost = false ∧
    (0x00010000#32).getLsbD 16 = true ∧ 0x0001FFFFFFFFF000 ≤ 0x0002000000010000 ∧ 0x0002000000010000 - 0x0001FFFFFFFFF000 < 2 ^ 48 := by
  decide +kernel

/-! ### Ill-formed commands, one for each check of Instr.wellFormed -/

theorem test_ill_formed_intEvent : (Instr.intEvent 0 7).wellFormed = false := by decide +kernel
theorem test_ill_formed_fault : (Instr.fault 37 0 true 0).wellFormed = false := by decide +kernel
theorem test_ill_formed_proofOverdue : (Instr.proofOverdue 0 1).wellFormed = false := by decide +kernel
theorem test_ill_formed_startupTests : (Instr.startupTests 0 0 [(15, 1, 0)]).wellFormed = false := by decide +kernel
/-- A device that does not answer. -/
def noDevice : NvmProbe :=
  { sig := 0, fram := false, jedec := 0, size64 := 0, ppUs := 0, ppMul := 0, eraseUs := 0, lanes := 0, suspend := false }

theorem test_ill_formed_bootLbist : (Instr.bootLbist [0] true 0).wellFormed = false := by decide +kernel
theorem test_ill_formed_fieldLbistEnd : (Instr.fieldLbistEnd [] true true).wellFormed = false := by decide +kernel
theorem test_ill_formed_bootMemTest : (Instr.bootMemTest [(3, 0), (3, 1)]).wellFormed = false := by decide +kernel
theorem test_ill_formed_recordIntake : (Instr.recordIntake 0 0 0 0 [0, 0, 0, 0, 0]).wellFormed = false := by decide +kernel
theorem test_ill_formed_writeFrame : (Instr.writeFrame 0 0x10000000 [0] 0 ⟨72, false⟩).wellFormed = false := by decide +kernel
theorem test_ill_formed_writeFrame_length : (Instr.writeFrame 0 0 [0, 0] 0 ⟨72, false⟩).wellFormed = false := by decide +kernel
theorem test_ill_formed_readFrame : (Instr.readFrame 0 0 0 ⟨96, false⟩).wellFormed = false := by decide +kernel
theorem test_ill_formed_doorbell : (Instr.doorbell 0 0 0 0 ⟨72, false⟩).wellFormed = false := by decide +kernel
theorem test_ill_formed_boot : (Instr.boot noDevice noDevice [1, 1] []).wellFormed = false := by decide +kernel
theorem test_ill_formed_thermalModelUpdate : (Instr.thermalModelUpdate [] [] 0 ⟨0, 0⟩ []).wellFormed = false := by decide +kernel
theorem test_well_formed_doorbell : (Instr.doorbell 0 0x0C000000 0 0 ⟨72, false⟩).wellFormed = true := by decide +kernel

/-! ### Worked examples of the spec -/

/-- R129: the long time message with timebase bits [63:40] all 0 and sequence number 3. -/
theorem test_hinge_frame : hingeFrame 0x11 0 3 = 0x1100000000003AAA := by decide +kernel
/-- R563: WW2 answers seed 0x3C5A by 0xA965; for DWD the XOR value is 0x8888. -/
theorem test_challenge_answer : wdAnswer 0x3C5A 2 = 0xA965 ∧ wdAnswer 0x3C5A 8 = (0x8B47 ^^^ 0x8888) := by decide +kernel
/-- No row of the table has bits: no word spells a command. -/
theorem test_no_word_spells_a_command : decodeTableWord 32 0x12345678 = none := by decide +kernel
/-- R111: a wrap sets wrapped for every ward. -/
theorem test_wrap_sets_every_ward : (match step { up id with pending := [.timebaseWrap] } with
    | .next t => (List.range 8).all (fun w => t.hub.flag CLK_TB_EPOCH_wrapped 0 w) | _ => false) = true := by decide +kernel
/-- R459: an alias write sets bits of a word and leaves the word beside it. -/
theorem test_bit_set : (match step { up (fun h => served (h.setMemWord 0x100004 0xF0)) with pending := [.bitSet 0 0 1 0x0F] } with
    | .next t => (t.hub.memWord 0x100004, t.hub.memWord 0x100008) | _ => (1, 1)) = (0xFF, 0) := by decide +kernel

end Sys2Proof.Tests
end

/-!
PROOF. CLK_TB_EPOCH (R111): what a read of it gives, how its per-ward flag is set and cleared, what a tick leaves of the
register file, and the full value of a stamp.
-/

namespace Sys2Proof.Machine

/-! ### The epoch field -/

/-- The one stored field of the word at 0x2018. -/
theorem fldsAt_tbEpoch : fldsAt 0x2018 = [(CLK_TB_EPOCH_wrapped, 0)] := by decide

theorem computedBits_tbEpoch (h : Hub) (w : Nat) : h.computedBits 0x2018 w = h.clk.tb / 2 ^ 48 % 2 ^ 16 := rfl

theorem storedWord_tbEpoch (h : Hub) (w : Nat) : h.storedWord 0x2018 w = h.rd CLK_TB_EPOCH_wrapped 0 w * 2 ^ 16 := by
  simp [Hub.storedWord, fldsAt_tbEpoch, CLK_TB_EPOCH_wrapped]

/-- CLK_TB_EPOCH reads its stored flag above the live bits of the timebase. -/
theorem readWord_tbEpoch (h : Hub) (w : Nat) :
    (h.readWord w 0x2018).1 = h.rd CLK_TB_EPOCH_wrapped 0 w * 2 ^ 16 + h.clk.tb / 2 ^ 48 % 2 ^ 16 := by
  calc (h.readWord w 0x2018).1 = h.peek 0x2018 w := rfl
    _ = h.storedWord 0x2018 w + h.computedBits 0x2018 w := by simp [Hub.peek, Hub.atReset, Hub.showUncertain]
    _ = _ := by rw [storedWord_tbEpoch, computedBits_tbEpoch]

theorem epoch_reads_timebase (h : Hub) (w : Nat) : (h.readWord w 0x2018).1 % 2 ^ 16 = h.clk.tb / 2 ^ 48 % 2 ^ 16 := by
  rw [readWord_tbEpoch, Nat.mul_add_mod_self_right, Nat.mod_mod]

/-! ### The wrapped flags -/

/-- Each ward has a wrapped flag of its own. -/
theorem fldKey_wrapped_ne {u w : Nat} (hu : u < 8) (hw : w < 8) (huw : u ≠ w) :
    fldKey CLK_TB_EPOCH_wrapped 0 u ≠ fldKey CLK_TB_EPOCH_wrapped 0 w := by
  simp only [fldKey, CLK_TB_EPOCH_wrapped, if_true]
  omega

theorem flag_put_wrapped (h : Hub) (b : Bool) {u w : Nat} (hu : u < 8) (hw : w < 8) :
    (h.put CLK_TB_EPOCH_wrapped b 0 w).flag CLK_TB_EPOCH_wrapped 0 u = if u = w then b else h.flag CLK_TB_EPOCH_wrapped 0 u := by
  split
  · next huw => rw [huw, Hub.flag_put_self _ _ _ _ _ rfl]
  · next huw => exact Hub.flag_put_ne (fldKey_wrapped_ne hu hw huw)

/-- A flag that is set in some wards is set in those, and as it was in the others. -/
theorem flag_forAll_put_wrapped {l : List Nat} (hl : ∀ w ∈ l, w < 8) (h : Hub) {u : Nat} (hu : u < 8) :
    (forAll l (fun h w => h.put CLK_TB_EPOCH_wrapped true 0 w) h).flag CLK_TB_EPOCH_wrapped 0 u =
      (decide (u ∈ l) || h.flag CLK_TB_EPOCH_wrapped 0 u) := by
  induction l generalizing h with
  | nil => simp [forAll]
  | cons w rest ih =>
    have hrest : ∀ x ∈ rest, x < 8 := fun x hx => hl x (List.mem_cons_of_mem w hx)
    refine (ih hrest (h.put CLK_TB_EPOCH_wrapped true 0 w)).trans ?_
    rw [flag_put_wrapped h true hu (hl w List.mem_cons_self)]
    by_cases huw : u = w <;> simp [huw]

theorem flag_setWrapped (h : Hub) {u : Nat} (hu : u < 8) : h.setWrapped.flag CLK_TB_EPOCH_wrapped 0 u = true := by
  unfold Hub.setWrapped
  rw [flag_forAll_put_wrapped (fun w hw => List.mem_range.mp hw) h hu]
  simp [hu]

/-- TIMEBASE_WRAP sets every ward's flag where the low 48 bits read 0. -/
theorem timebaseWrap_sets_wrapped {s : State} (htb : s.hub.clk.tb % 2 ^ 48 = 0) :
    Completes .timebaseWrap s (fun h => ∀ w : Fin 8, h.flag CLK_TB_EPOCH_wrapped 0 w = true) := by
  refine completes_of_on (exec_timebaseWrap s) fun w => ?_
  rw [if_pos (beq_iff_eq.mpr htb)]
  exact flag_setWrapped _ w.isLt

/-- A write of 1 to bit 16 of CLK_TB_EPOCH clears the flag of the ward that writes (W1C). -/
theorem writeWord_tbEpoch (h : Hub) (w : Nat) {v : Nat} (hv : bitOf v 16 = true) :
    h.writeWord w 0x2018 v = h.put CLK_TB_EPOCH_wrapped false 0 w := by
  simp [Hub.writeWord, Hub.writeReg, hv]

/-! ### What a tick leaves of the register file -/

theorem sendL_regs (h : Hub) (f : HFrame) : (h.sendL f).regs = h.regs := by
  unfold Hub.sendL
  split <;> rfl

theorem sendF_regs (h : Hub) (f : HFrame) : (h.sendF f).regs = h.regs := by
  unfold Hub.sendF
  split <;> rfl

theorem queueTime_regs (h : Hub) : h.queueTime.regs = h.regs := by
  unfold Hub.queueTime
  dsimp only
  split
  · rfl
  · split <;> split <;> simp only [sendL_regs]

theorem queueStat_regs (h : Hub) : h.queueStat.regs = h.regs := by
  unfold Hub.queueStat Hub.sendStat
  split
  · rfl
  · simp only [sendF_regs]

theorem setQueue_regs (h : Hub) (lane : Nat) (q : List HFrame) : (h.setQueue lane q).regs = h.regs := by
  unfold Hub.setQueue
  split <;> rfl

theorem transmit_regs (h : Hub) (lane : Nat) (f : HFrame) : (h.transmit lane f).regs = h.regs := rfl

theorem idleFrame_regs (h : Hub) (lane : Nat) : (h.idleFrame lane).regs = h.regs := by
  unfold Hub.idleFrame
  split
  · rfl
  · split <;> rfl

theorem nextFrame_regs {h k : Hub} {lane : Nat} {f : HFrame} (hn : h.nextFrame lane = some (f, k)) : k.regs = h.regs := by
  unfold Hub.nextFrame at hn
  dsimp only at hn
  split at hn
  · cases hn
  · split at hn
    all_goals
      obtain ⟨-, rfl⟩ := Prod.mk.inj (Option.some.inj hn)
      exact setQueue_regs _ _ _

theorem slot_regs (h : Hub) (lane : Nat) : (h.slot lane).regs = h.regs := by
  unfold Hub.slot
  split
  · rfl
  · split
    · exact idleFrame_regs h lane
    · split
      · next hn => exact (transmit_regs _ _ _).trans (nextFrame_regs hn)
      · split
        · exact idleFrame_regs h lane
        · rfl

theorem slots_regs (h : Hub) : h.slots.regs = h.regs := by
  unfold Hub.slots
  split
  · simp only [slot_regs]
  · simp only [slot_regs]
  · rfl

theorem lsyForwardTick_regs (h : Hub) : h.lsyForwardTick.regs = h.regs := by
  unfold Hub.lsyForwardTick
  split
  · split <;> rfl
  · rfl

theorem rd_modLsy (h : Hub) (g : Lsy → Lsy) (f : Fld) (i w : Nat) : (h.modLsy g).rd f i w = h.rd f i w := rfl

/-- Of the register file a tick of the line's return slots reaches LSY_CTRL.recal alone (R350). -/
theorem rd_lsyReturnTick_ne (h : Hub) {f : Fld} {i w : Nat} (hk : fldKey f i w ≠ fldKey LSY_CTRL_recal 0 0) :
    h.lsyReturnTick.rd f i w = h.rd f i w := by
  have hput : (h.put LSY_CTRL_recal false).rd f i w = h.rd f i w := Hub.rd_put_ne hk
  unfold Hub.lsyReturnTick
  dsimp only
  split
  · rfl
  · split
    · rfl
    · split
      · rfl
      · split
        · rw [rd_modLsy]
          split
          · split
            · exact hput
            · rfl
          · rfl
        · rfl

/-- Beyond the clocks a tick leaves every field but LSY_CTRL.recal as it was. -/
theorem flag_tickHub_ne (h : Hub) {f : Fld} {i w : Nat} (hk : fldKey f i w ≠ fldKey LSY_CTRL_recal 0 0) :
    (tickHub h).flag f i w = h.tickClock.flag f i w := by
  have hregs : h.tickClock.queueTime.queueStat.slots.lsyForwardTick.regs = h.tickClock.regs := by
    rw [lsyForwardTick_regs, slots_regs, queueStat_regs, queueTime_regs]
  have hrd : (tickHub h).rd f i w = h.tickClock.rd f i w := (rd_lsyReturnTick_ne _ hk).trans (Hub.rd_congr hregs f i w)
  unfold Hub.flag
  rw [hrd]

theorem fldKey_wrapped_ne_recal (w : Nat) : fldKey CLK_TB_EPOCH_wrapped 0 w ≠ fldKey LSY_CTRL_recal 0 0 := by
  simp only [fldKey, CLK_TB_EPOCH_wrapped, LSY_CTRL_recal, if_true]
  omega

/-- The tick after which the low 48 bits read 0 sets every ward's flag. -/
theorem tickClock_sets_wrapped {h : Hub} (hrun : h.mclkRuns = true) (htb : h.clk.tb % 2 ^ 48 = 2 ^ 48 - 1) {w : Nat} (hw : w < 8) :
    h.tickClock.flag CLK_TB_EPOCH_wrapped 0 w = true := by
  have hwrap : ((h.clk.tb + 1) % 2 ^ 48 == 0) = true := beq_iff_eq.mpr (by omega)
  have hregs : h.tickClock.regs = h.setWrapped.regs := by
    simp only [Hub.tickClock, hrun, hwrap, Bool.and_self, if_true]
  unfold Hub.flag
  rw [Hub.rd_congr hregs]
  exact flag_setWrapped h hw

theorem mclkRuns_of_powered {h : Hub} (hphase : h.dev.phase ≠ .off) (hrst : h.dev.rstLow = false) (hlost : h.clk.mclkLost = false) :
    h.mclkRuns = true := by
  simp [Hub.mclkRuns, Hub.logicRuns, hphase, hrst, hlost]

/-! ### The full value of a stamp -/

/-- The procedure of R111: a stamp above the low 48 bits of now is of the epoch before. -/
theorem stamp_full {full now : Nat} (hle : full ≤ now) (hage : now - full < 2 ^ 48) :
    (if now % 2 ^ 48 < full % 2 ^ 48 then now / 2 ^ 48 - 1 else now / 2 ^ 48) * 2 ^ 48 + full % 2 ^ 48 = full := by
  split
  · have hepoch : full / 2 ^ 48 = now / 2 ^ 48 - 1 := by omega
    rw [← hepoch, Nat.div_add_mod']
  · have hepoch : full / 2 ^ 48 = now / 2 ^ 48 := by omega
    rw [← hepoch, Nat.div_add_mod']

/-- Settles O59: the read, the command, the tick, the write and the procedure of R111, each by its lemma. -/
theorem theEpoch : Obligations.TheEpoch := by
  refine ⟨fun h w => epoch_reads_timebase h w, fun s => timebaseWrap_sets_wrapped, ?tick, ?write, fun full now => stamp_full⟩
  case tick =>
    intro h hphase hrst hlost htb w
    rw [flag_tickHub_ne h (fldKey_wrapped_ne_recal w)]
    exact tickClock_sets_wrapped (mclkRuns_of_powered hphase hrst hlost) htb w.isLt
  case write =>
    intro h w u v hv
    rw [writeWord_tbEpoch h w hv, flag_put_wrapped h false u.isLt w.isLt]
    simp only [Fin.ext_iff]

end Sys2Proof.Machine

/-!
PROOF. The CRC-8 of the Hinge link (R129): the model's register over bytes is the remainder register of polynomial 0x07
over their bits, and what a good frame's last byte is.
-/

namespace Sys2Proof.Machine

/-! ### One byte of the register -/

/-- One bit of the model's CRC is one zero bit into the remainder register. -/
theorem crcBit_toNat (c : BitVec 8) : crcBit 8 0x07 c.toNat = (hingeCrcBit c false).toNat := by
  have hmsb : c.toNat.testBit 7 = c.msb := by rw [BitVec.testBit_toNat, BitVec.msb_eq_getLsbD_last]
  cases h : c.msb <;> simp [crcBit, hingeCrcBit, hmsb, h, Nat.xor_mod_two_pow (n := 8)]

/-- What is added to the register before a step comes in by its top bit; the rest of it moves up beside the register. -/
theorem hingeCrcBit_xor (c d : BitVec 8) : hingeCrcBit (c ^^^ d) false = hingeCrcBit c d.msb ^^^ d <<< 1 := by
  have hmsb : ((c ^^^ d).msb != false) = (c.msb != d.msb) := by rw [BitVec.msb_xor, Bool.bne_false]
  unfold hingeCrcBit
  rw [hmsb, BitVec.shiftLeft_xor_distrib]
  split
  · ac_rfl
  · rfl

/-- A byte added to the register and `n` zero bits shifted in: the byte's first `n` bits have entered one by one, and the
rest of the byte still lies beside the register. -/
theorem crcBits_xor (n : Nat) (c d : BitVec 8) :
    crcBits 8 0x07 n (c ^^^ d).toNat = (((List.range n).map d.getMsbD).foldl hingeCrcBit c ^^^ d <<< n).toNat := by
  induction n generalizing c d with
  | zero => simp [crcBits]
  | succ n ih =>
    have hshift : d <<< 1 <<< n = d <<< (n + 1) := by rw [← BitVec.shiftLeft_add, Nat.add_comm]
    have hbits : (List.range (n + 1)).map d.getMsbD = d.msb :: (List.range n).map (d <<< 1).getMsbD := by
      simp [List.range_succ_eq_map, BitVec.msb_eq_getMsbD_zero]
    calc crcBits 8 0x07 (n + 1) (c ^^^ d).toNat
        = crcBits 8 0x07 n (hingeCrcBit c d.msb ^^^ d <<< 1).toNat := by rw [crcBits, crcBit_toNat, hingeCrcBit_xor]
      _ = _ := by rw [ih, hshift, hbits, List.foldl_cons]

/-- The bits of a byte, most significant first. -/
def byteBits (d : BitVec 8) : List Bool := (List.range 8).map d.getMsbD

/-- Eight steps of the model take in one byte, most significant bit first. -/
theorem crcBits_byte (c d : BitVec 8) : crcBits 8 0x07 8 (c ^^^ d).toNat = ((byteBits d).foldl hingeCrcBit c).toNat := by
  rw [crcBits_xor, BitVec.shiftLeft_eq_zero le_rfl, BitVec.xor_zero, byteBits]

/-- CRC-8 over any bytes is the remainder register after their bits. -/
theorem crc8_eq_foldl_bits (ds : List (BitVec 8)) :
    crc8 (ds.map BitVec.toNat) = ((ds.flatMap byteBits).foldl hingeCrcBit 0#8).toNat := by
  unfold crc8 crcMsb
  rw [List.foldl_map, List.foldl_flatMap]
  refine List.foldl_hom BitVec.toNat (init := 0#8) fun c d => ?_
  have hbyte : c.toNat ^^^ ((d.toNat % 256) <<< (8 - 8)) = (c ^^^ d).toNat := by
    rw [Nat.mod_eq_of_lt d.isLt, Nat.sub_self, Nat.shiftLeft_zero, BitVec.toNat_xor]
  rw [hbyte, crcBits_byte]

/-! ### The bytes of a frame -/

/-- Byte `i` of a frame, in transmit order. -/
def frameByte (f : BitVec 64) (i : Nat) : BitVec 8 := f.extractLsb' (56 - 8 * i) 8

theorem hingeBytes_eq_map_frameByte (f : BitVec 64) : hingeBytes f.toNat = ((List.range 7).map (frameByte f)).map BitVec.toNat := by
  rw [List.map_map]
  rfl

theorem frameByte_getMsbD {f : BitVec 64} {i k : Nat} (hi : i < 7) (hk : k < 8) :
    (frameByte f i).getMsbD k = f.getLsbD (63 - (8 * i + k)) := by
  have hpos : 56 - 8 * i + (7 - k) = 63 - (8 * i + k) := by omega
  have hlow : 7 - k < 8 := by omega
  simp [frameByte, BitVec.getMsbD_eq_getLsbD, hk, hlow, hpos]

/-- The bits of bytes 0 to 6, one byte after the other, are bits 63 down to 8 of the frame. -/
theorem flatMap_frameByte_bits (f : BitVec 64) :
    ((List.range 7).map (frameByte f)).flatMap byteBits = (List.range 56).map (fun i => f.getLsbD (63 - i)) := by
  have hsplit : List.range 56 = (List.range 7).flatMap (fun i => (List.range 8).map (8 * i + ·)) := by decide
  rw [hsplit, List.map_flatMap, List.flatMap_map]
  refine List.flatMap_congr fun i hi => ?_
  rw [byteBits, List.map_map]
  exact List.map_congr_left fun k hk => frameByte_getMsbD (List.mem_range.mp hi) (List.mem_range.mp hk)

/-- R129 in full: the CRC-8 of a frame is the remainder register after its first 56 bits. -/
theorem crc8_hingeBytes (f : BitVec 64) :
    crc8 (hingeBytes f.toNat) = ((List.range 56).foldl (fun c i => hingeCrcBit c (f.getLsbD (63 - i))) 0#8).toNat := by
  rw [hingeBytes_eq_map_frameByte, crc8_eq_foldl_bits, flatMap_frameByte_bits, List.foldl_map]

/-- A good frame ends with the CRC-8 of the bytes before it (R130). -/
theorem crc8_of_hingeGood {lane f : Nat} {codeOk : Bool} (h : hingeGood lane f codeOk = true) : crc8 (hingeBytes f) = f % 2 ^ 8 := by
  simp only [hingeGood, Bool.and_eq_true, beq_iff_eq] at h
  obtain ⟨⟨⟨-, hcrc⟩, -⟩, -⟩ := h
  exact hcrc

/-- Settles O58: the register over the frame's bits, the last byte of a good frame, and the spec's example. -/
theorem theHingeCrc : Obligations.TheHingeCrc := by
  refine ⟨crc8_hingeBytes, fun lane f codeOk hgood => BitVec.eq_of_toNat_eq ?_, by decide +kernel, by decide +kernel⟩
  rw [← crc8_hingeBytes, crc8_of_hingeGood hgood, BitVec.toNat_setWidth]

end Sys2Proof.Machine

/-!
PROOF. The seed of a watchdog (R572): what a read of WDG_SEED gives, which seed a renewal takes, and that nothing else a
service brings about (R562, R564, R565) changes a seed while no self-test is under way.
-/

namespace Sys2Proof.Machine

/-! ### The value of WDG_SEED -/

/-- No field is stored in the words of WDG_SEED. -/
theorem fldsAt_wdgSeed (k : Fin 9) : fldsAt (0x13010 + 0x20 * k) = [] := by
  revert k
  decide

theorem wdgBits_wdgSeed {h : Hub} {k : Fin 9} (hchal : h.flag WDG_CFG_chal_en k = true) (hstarted : (h.wd k).state ≠ 0) :
    h.wdgBits (0x10 + 0x20 * k) = (h.wd k).seed := by
  have hk : (0x10 + 0x20 * (k : Nat)) / 0x20 = k := by omega
  have hoff : (0x10 + 0x20 * (k : Nat)) % 0x20 = 0x10 := by omega
  have htotal : ¬ 0x10 + 0x20 * (k : Nat) = 0x18C := by omega
  have hlt : ¬ 9 ≤ (k : Nat) := by omega
  simp [Hub.wdgBits, hk, hoff, htotal, hlt, hchal, hstarted]

/-- A register of the WDG_ block is read without a side effect. -/
theorem readWord_wdg (h : Hub) (w : Nat) {o : Nat} (ho : o < 0x1000) : h.readWord w (0x13000 + o) = (h.peek (0x13000 + o) w, h) := by
  have hpage : (0x13000 + o) / 0x1000 = 0x13 := by omega
  have hreg : 0x13000 + o < 0x100000 := by omega
  simp only [Hub.readWord, if_pos hreg, Hub.readReg, hpage]

/-- A register of the WDG_ block shows its stored fields and its computed bits. -/
theorem peek_wdg (h : Hub) (w : Nat) {o : Nat} (ho : o < 0x1000) :
    h.peek (0x13000 + o) w = h.storedWord (0x13000 + o) w + h.wdgBits o := by
  have hpage : (0x13000 + o) / 0x1000 = 0x13 := by omega
  have hoff : (0x13000 + o) % 0x1000 = o := by omega
  have hchannel : ¬ 0x13000 + o < 0xB000 := by omega
  have hreset : h.atReset (0x13000 + o) = false := by
    have hout : ¬ 0x13000 + o < 0x9000 := by omega
    simp [Hub.atReset, hout, hchannel]
  have h1 : ¬ 0x13000 + o = 0x1018 := by omega
  have h2 : ¬ 0x13000 + o = 0x1008 := by omega
  have h3 : ¬ 0x13000 + o < 0x3200 := by omega
  simp [Hub.peek, hreset, h1, h2, h3, Hub.showUncertain, Hub.computedBits, hpage, hoff]

theorem readWord_wdgSeed {h : Hub} (w : Nat) {k : Fin 9} (hchal : h.flag WDG_CFG_chal_en k = true) (hstarted : (h.wd k).state ≠ 0) :
    h.readWord w (0x13010 + 0x20 * k) = ((h.wd k).seed, h) := by
  have haddr : 0x13010 + 0x20 * (k : Nat) = 0x13000 + (0x10 + 0x20 * k) := by omega
  have ho : 0x10 + 0x20 * (k : Nat) < 0x1000 := by omega
  have hstored : h.storedWord (0x13000 + (0x10 + 0x20 * k)) w = 0 := by
    rw [← haddr, Hub.storedWord, fldsAt_wdgSeed, List.foldl_nil]
  rw [haddr, readWord_wdg h w ho, peek_wdg h w ho, hstored, wdgBits_wdgSeed hchal hstarted, Nat.zero_add]

/-! ### The renewed seed -/

/-- The seed taken from a free value `s` where the seed before was `old` (R572). -/
def freshSeed (old s : Nat) : Nat := if s == 0 || s == old then (if old == 1 then 2 else 1) else s

theorem renewed_of_eq_freshSeed {new old s : Nat} (hnew : new = freshSeed old s) (hs : s < 2 ^ 16) :
    new ≠ 0 ∧ new ≠ old ∧ new < 2 ^ 16 := by
  simp only [freshSeed, Bool.or_eq_true, beq_iff_eq] at hnew
  split at hnew
  · split at hnew <;> omega
  · omega

/-- The free value that a renewal draws. -/
theorem freeNat_fst_lt (h : Hub) (w : Nat) : (h.freeNat w).1 < 2 ^ w := Nat.mod_lt _ (Nat.two_pow_pos w)

theorem seed_wdStart {h : Hub} {k : Nat} (hk : k < 9) (hen : h.flag WDG_CFG_en k = true) (hdef : k = 8 ∨ h.defined k = true) :
    ((h.wdStart k).wd k).seed = freshSeed (h.wd k).seed (h.freeNat 16).1 := by
  have hstarts : (h.flag WDG_CFG_en k && (k == 8 || h.defined k)) = true := by simp [hen, hdef]
  unfold Hub.wdStart
  rw [if_pos hstarts]
  exact congrArg Wd.seed (Hub.wd_modWd_self _ k _ hk)

theorem seed_newSeed (h : Hub) {k : Nat} (hk : k < 9) :
    ((h.newSeed k).wd k).seed = freshSeed (h.wd k).seed (h.freeNat 16).1 :=
  congrArg Wd.seed (Hub.wd_modWd_self _ k _ hk)

/-! ### Changes that leave the seeds -/

/-- No self-test is under way and the watchdogs have the seeds `σ`. What only answers a fault or resets a ward keeps this;
without the first part it would not, since a self-test that is aborted starts the watchdogs afresh (R579). -/
structure Seeds (σ : Nat → Nat) (h : Hub) : Prop where
  test : h.dev.test = false
  seed : ∀ k, (h.wd k).seed = σ k

section
variable {σ : Nat → Nat} {h k : Hub}

theorem Seeds.of_eq (x : Seeds σ h) (htest : k.dev.test = h.dev.test) (hwds : k.wds = h.wds) : Seeds σ k :=
  ⟨htest.trans x.test, fun j => by rw [Hub.wd, hwds]; exact x.seed j⟩

theorem Seeds.ite {a b : Hub} {q : Prop} [Decidable q] (x : Seeds σ a) (y : Seeds σ b) : Seeds σ (if q then a else b) := by
  split
  · exact x
  · exact y

/-- A step taken where a condition holds, and left out elsewhere. -/
theorem Seeds.when {a : Hub} {q : Prop} [Decidable q] (x : Seeds σ h) (y : Seeds σ h → Seeds σ a) : Seeds σ (if q then a else h) :=
  .ite (y x) x

/-- A step left out where a condition holds. -/
theorem Seeds.unless {a : Hub} {q : Prop} [Decidable q] (x : Seeds σ h) (y : Seeds σ h → Seeds σ a) : Seeds σ (if q then h else a) :=
  .ite x (y x)

theorem Seeds.forAll {f : Hub → Nat → Hub} {l : List Nat} (hf : ∀ h c, Seeds σ h → Seeds σ (f h c)) (x : Seeds σ h) :
    Seeds σ (forAll l f h) := by
  induction l generalizing h with
  | nil => exact x
  | cons c rest ih => exact ih (hf h c x)

theorem Seeds.wr (x : Seeds σ h) (f : Fld) (v i w : Nat) : Seeds σ (h.wr f v i w) := x.of_eq rfl rfl
theorem Seeds.put (x : Seeds σ h) (f : Fld) (b : Bool) (i w : Nat) : Seeds σ (h.put f b i w) := x.of_eq rfl rfl
theorem Seeds.count (x : Seeds σ h) (f : Fld) (n i w : Nat) : Seeds σ (h.count f n i w) := x.of_eq rfl rfl
theorem Seeds.modIn (x : Seeds σ h) (c : Nat) (g : InCh → InCh) : Seeds σ (h.modIn c g) := x.of_eq rfl rfl
theorem Seeds.modInt (x : Seeds σ h) (w : Nat) (g : WardInt → WardInt) : Seeds σ (h.modInt w g) := x.of_eq rfl rfl
theorem Seeds.history (x : Seeds σ h) (cause ward : Nat) : Seeds σ (h.history cause ward) := x.of_eq rfl rfl
theorem Seeds.dropOps (x : Seeds σ h) (w : Nat) : Seeds σ (h.dropOps w) := x.of_eq rfl rfl
theorem Seeds.dropCand (x : Seeds σ h) (p : Cand → Bool) : Seeds σ (h.dropCand p) := x.of_eq rfl rfl

/-- A watchdog that goes to another state keeps its seed. -/
theorem Seeds.modState (x : Seeds σ h) (k n : Nat) : Seeds σ (h.modWd k fun w => { w with state := n }) := by
  refine ⟨x.test, fun j => ?_⟩
  by_cases hj : j = k
  · by_cases hk : k < 9
    · rw [hj, Hub.wd_modWd_self h k _ hk, ← x.seed]
    · simpa [Hub.modWd, Hub.wd, vget, vset, hj, hk] using x.seed k
  · exact (congrArg Wd.seed (vget_vset_ne hj)).trans (x.seed j)

/-! ### Interrupts, frames and records -/

theorem Seeds.intFire (x : Seeds σ h) (w : Nat) (was : Bool) : Seeds σ (h.intFire w was) := by
  have hrelease : Seeds σ (h.intRelease w) := .ite (x.of_eq rfl rfl) (x.of_eq rfl rfl)
  exact .ite x (.ite x (.ite hrelease (x.of_eq rfl rfl)))

theorem Seeds.intEvent (x : Seeds σ h) (w bit : Nat) : Seeds σ (h.intEvent w bit) :=
  have hstat := x.wr INT_STAT_stat (setBit (h.rd INT_STAT_stat w) bit) w 0
  .ite (.ite (hstat.intFire _ _) hstat) x

theorem Seeds.intAll (x : Seeds σ h) (bit : Nat) : Seeds σ (h.intAll bit) := .forAll (fun _ w y => y.intEvent w bit) x

theorem Seeds.intOwner (x : Seeds σ h) (o : Option Nat) (bit : Nat) : Seeds σ (h.intOwner o bit) := by
  cases o with
  | none => exact x
  | some w => exact x.intEvent w bit

theorem Seeds.sendL (x : Seeds σ h) (f : HFrame) : Seeds σ (h.sendL f) := .ite (x.of_eq rfl rfl) x

theorem Seeds.newGen (x : Seeds σ h) (g : Nat) (urgent : Bool) : Seeds σ (h.newGen g urgent) := by
  refine .ite x (.ite (x.of_eq rfl rfl) (.sendL ?_ _))
  exact x.of_eq rfl rfl

theorem Seeds.command (x : Seeds σ h) (chs : List Nat) (code : Nat) (urgent : Bool) : Seeds σ (h.command chs code urgent) := by
  refine .when (.when ?_ fun y => y.newGen 0 urgent) fun y => y.newGen 1 urgent
  exact x.of_eq rfl rfl

theorem Seeds.countDrop (x : Seeds σ h) (sev : Nat) : Seeds σ (h.countDrop sev) := by
  unfold Hub.countDrop
  split <;> exact x.count _ _ _ _

theorem Seeds.dropEvent (x : Seeds σ h) (e : RecEvent) : Seeds σ (h.dropEvent e) := (x.countDrop e.sev).of_eq rfl rfl

theorem Seeds.fifoIn (x : Seeds σ h) (e : RecEvent) : Seeds σ (h.fifoIn e) := by
  refine .ite (x.of_eq rfl rfl) (.ite (x.dropEvent e) ?_)
  split
  · refine Seeds.dropEvent ?_ _
    exact x.of_eq rfl rfl
  · exact x.dropEvent e

theorem Seeds.giveSeq (x : Seeds σ h) : Seeds σ h.giveSeq.2 := by
  unfold Hub.giveSeq
  split
  · exact x.of_eq rfl rfl
  · exact x

theorem Seeds.intake (x : Seeds σ h) (e : RecEvent) : Seeds σ (h.intake e) := by
  have hlost : Seeds σ ((h.count BST_RUNS_lost).countDrop e.sev) := (x.count _ _ _ _).countDrop _
  exact .ite x (.ite (.ite (x.of_eq rfl rfl) (hlost.of_eq rfl rfl)) (x.giveSeq.fifoIn _))

/-! ### Safe states, tumblers and expert pages -/

theorem Seeds.dropHeavy (x : Seeds σ h) (c : Nat) : Seeds σ (h.dropHeavy c) :=
  .forAll (fun _ _ y => y.of_eq rfl rfl) (.unless x fun y => y.dropCand _)

theorem Seeds.setSafeHold (x : Seeds σ h) (c : Nat) : Seeds σ (h.setSafeHold c) := by
  have hdrop := (x.dropCand (movesCh (h.lead c))).dropHeavy (h.lead c)
  refine .unless ?_ fun y => (y.put _ _ _ _).intOwner _ _
  exact hdrop.of_eq rfl rfl

theorem Seeds.sendSafe (x : Seeds σ h) (chs : List Nat) : Seeds σ (h.sendSafe chs) :=
  .unless (.forAll (fun _ c y => y.setSafeHold c) x) fun y => y.command _ _ _

theorem Seeds.freeNat (x : Seeds σ h) (w : Nat) : Seeds σ (h.freeNat w).2 := x.of_eq rfl rfl

theorem Seeds.freeBytes (x : Seeds σ h) (n : Nat) : Seeds σ (h.freeBytes n).2 := by
  induction n generalizing h with
  | zero => exact x
  | succ n ih => exact ih (x.freeNat 8)

theorem Seeds.freeMem (x : Seeds σ h) (a n : Nat) : Seeds σ (h.freeMem a n) := (x.freeBytes n).of_eq rfl rfl

theorem Seeds.marchAbandon (x : Seeds σ h) (t : Nat) : Seeds σ (h.marchAbandon t) := by
  unfold Hub.marchAbandon
  split
  · exact x
  · exact ((((((((x.freeMem _ _).freeNat 1).wr _ _ _ _).freeNat 12).wr _ _ _ _).freeNat 32).wr _ _ _ _).freeNat 32).wr _ _ _ _

theorem Seeds.tmbStop (x : Seeds σ h) (t cause : Nat) (release : Bool) : Seeds σ (h.tmbStop t cause release) := by
  unfold Hub.tmbStop
  refine .when ?pattern fun y => Seeds.intOwner ?retired _ _
  case pattern =>
    exact (Seeds.when (x.marchAbandon t) fun y => (y.wr _ _ _ _).sendL _).of_eq rfl rfl
  case retired => exact y.of_eq rfl rfl

theorem Seeds.closePages (x : Seeds σ h) (w pages : Nat) : Seeds σ (h.closePages w pages) :=
  .when (x.wr _ _ _ _) fun y => .forAll (fun _ _ z => z.put _ _ _ _) y

/-! ### Fault reactions -/

theorem Seeds.cancelBist (x : Seeds σ h) : Seeds σ h.cancelBist :=
  .when x fun y => (((y.dropCand _).put _ _ _ _).wr _ _ _ _).intEvent _ _

/-- Without a test under way none is aborted. -/
theorem Seeds.abortTest (x : Seeds σ h) : Seeds σ h.abortTest := by
  rw [Hub.abortTest, if_neg (by simp [x.test])]
  exact x

theorem Seeds.wantTone (x : Seeds σ h) (t : Tone) : Seeds σ (h.wantTone t) := .unless x fun y => y.of_eq rfl rfl

theorem Seeds.noBoltRel (x : Seeds σ h) : Seeds σ h.noBoltRel := x.of_eq rfl rfl

theorem Seeds.enterSafe (x : Seeds σ h) (n : Nat) : Seeds σ (h.enterSafe n) := by
  unfold Hub.enterSafe
  refine .ite x (.ite ?again ?enter)
  case again =>
    refine Seeds.wr (Seeds.wantTone ?_ _) _ _ _ _
    exact x.of_eq rfl rfl
  case enter =>
    refine Seeds.intAll (Seeds.intake ?_ _) _
    refine Seeds.wr (Seeds.count ?_ _ _ _ _) _ _ _ _
    refine Seeds.of_eq (Seeds.forAll (fun _ w y => y.closePages w 7) ?_) rfl rfl
    refine .forAll (fun _ t y => y.tmbStop t 6 true) ((Seeds.wantTone ?_ _).sendSafe _)
    exact x.abortTest.cancelBist.of_eq rfl rfl

theorem Seeds.holdWard (x : Seeds σ h) (w n : Nat) : Seeds σ (h.holdWard w n) := by
  have hheld : Seeds σ (h.setWard w .held) := x.of_eq rfl rfl
  exact .ite (x.enterSafe n) (.ite (.forAll (fun _ t y => y.tmbStop t 5 true) (hheld.sendSafe _)) x)

theorem Seeds.captureFirst (x : Seeds σ h) (n detail : Nat) (forced : Bool) : Seeds σ (h.captureFirst n detail forced) :=
  .ite (x.of_eq rfl rfl) (.ite (.ite (x.of_eq rfl rfl) (x.of_eq rfl rfl)) (x.of_eq rfl rfl))

theorem Seeds.wardReaction (x : Seeds σ h) (n wards : Nat) : Seeds σ (h.wardReaction n wards) :=
  .when (.when x (.forAll fun _ w z => z.intEvent w 2)) (.forAll fun _ w z => z.holdWard w n)

theorem Seeds.detailWord (x : Seeds σ h) (detail : Nat) : Seeds σ (h.detailWord detail).2 := by
  unfold Hub.detailWord
  split
  · exact x.of_eq rfl rfl
  · exact x

theorem Seeds.occurNow (x : Seeds σ h) (n wards detail : Nat) (forced record late : Bool) :
    Seeds σ (h.occurNow n wards detail forced record late) := by
  unfold Hub.occurNow
  refine .unless x fun _ => .unless (x.of_eq rfl rfl) fun y => .unless (.when (.when ?_ fun z => z.captureFirst _ _ _) fun z => z.intake _) fun z => ?_
  · exact (y.detailWord detail).of_eq rfl rfl
  · exact .when (z.wardReaction _ _) fun z => z.enterSafe _

theorem Seeds.event (x : Seeds σ h) (n wards detail : Nat) : Seeds σ (h.event n wards detail) := by
  have hoccur : Seeds σ (h.occur n wards detail) := .ite (.ite (x.of_eq rfl rfl) (x.count _ _ _ _)) (x.occurNow _ _ _ _ _ _)
  exact .ite x hoccur

/-! ### The ward reset and the expiry -/

theorem Seeds.resetTumbler (x : Seeds σ h) (t : Nat) : Seeds σ (h.resetTumbler t) := by
  have hstop : Seeds σ ((h.tmbStop t 4 false).lower 30 t) := (x.tmbStop t 4 false).of_eq rfl rfl
  exact ((((hstop.when fun y => y.wr _ _ _ _).put _ _ _ _).wr _ _ _ _).wr _ _ _ _).wr _ _ _ _

theorem Seeds.holdChannel (x : Seeds σ h) (c : Nat) : Seeds σ (h.holdChannel c) := by
  refine .unless ?_ fun y => .when (y.put _ _ _ _) fun z => z.command _ _ _
  exact x.of_eq rfl rfl

theorem Seeds.handDrop (x : Seeds σ h) (b result : Nat) : Seeds σ (h.handDrop b result) := by
  unfold Hub.handDrop
  split
  · exact x
  · exact .ite (x.of_eq rfl rfl) (x.of_eq rfl rfl)

theorem Seeds.wardHandovers (x : Seeds σ h) (w : Nat) : Seeds σ (h.wardHandovers w) := by
  refine .forAll (fun h b y => ?_) x
  split
  · exact y
  · exact .ite (y.handDrop b 2) (.ite (y.handDrop b 5) y)

/-- Steps 1 and 2 of R431 stop the ward's watchdog; it starts, and its seed is renewed, only at step 3. -/
theorem Seeds.wardReset (x : Seeds σ h) (w reason : Nat) : Seeds σ (h.wardReset w reason) := by
  have hbusy : Seeds σ (((h.setWard w .reset).put RST_WARD_STAT_busy true w).wr RST_WARD_STAT_reason reason w) := x.of_eq rfl rfl
  unfold Hub.wardReset
  refine .ite x (.ite (.when x fun y => y.wr _ _ _ _) (.when ?stopped fun y => .forAll (fun _ _ z => z.put _ _ _ _) y))
  refine Seeds.modInt (Seeds.modState (Seeds.wardHandovers (Seeds.dropOps ?_ w) w) w 0) w _
  refine .forAll (fun _ c y => (y.holdChannel c).modIn c _) ?_
  exact .forAll (fun _ t y => y.resetTumbler t) (hbusy.closePages w 0xFF)

theorem Seeds.wdoPulse (x : Seeds σ h) (k : Nat) : Seeds σ (h.wdoPulse k) := .ite x (.ite (x.count _ _ _ _) (x.of_eq rfl rfl))

theorem Seeds.orderReset (x : Seeds σ h) (cause ward : Nat) : Seeds σ (h.orderReset cause ward) := .ite x (x.of_eq rfl rfl)

theorem Seeds.wdCount (x : Seeds σ h) (k cause : Nat) : Seeds σ (h.wdCount k cause) := x.of_eq rfl rfl

theorem Seeds.wardExpiry (x : Seeds σ h) (w cause : Nat) : Seeds σ (h.wardExpiry w cause) := by
  unfold Hub.wardExpiry
  extract_lets held counted d raised occurred pulsed
  have hpulsed : Seeds σ pulsed := ((Seeds.unless (x.wdCount w cause) fun y => y.event 51 _ _).event 50 _ _).wdoPulse w
  exact .ite (hpulsed.modState w 3) (hpulsed.wardReset w 3)

theorem Seeds.deviceExpiry (x : Seeds σ h) (cause : Nat) : Seeds σ (h.deviceExpiry cause) := by
  unfold Hub.deviceExpiry
  refine Seeds.orderReset (Seeds.modState (Seeds.wdoPulse (Seeds.history (Seeds.intake ?_ _) 7 0xF) 8) 8 3) 7 0xF
  exact .unless (x.wdCount 8 cause) fun y => y.event _ _ _

theorem Seeds.wdExpire (x : Seeds σ h) (k cause : Nat) : Seeds σ (h.wdExpire k cause) := .ite (x.deviceExpiry cause) (x.wardExpiry k cause)

end

/-! ### The service -/

theorem flag_count_violations (h : Hub) (k : Nat) :
    (h.count WDG_CNT_violations 1 k).flag WDG_CFG_chal_en k = h.flag WDG_CFG_chal_en k := by
  have hkey : fldKey WDG_CFG_chal_en k 0 ≠ fldKey WDG_CNT_violations k 0 := by
    simp only [fldKey, WDG_CFG_chal_en, WDG_CNT_violations, Bool.false_eq_true, if_false]
    omega
  rw [Hub.flag, Hub.flag, Hub.rd_count_ne hkey]

/-- A service with the key, in time and in challenge mode renews the seed once, whether it is accepted or a violation. -/
theorem seed_writeKick {h : Hub} {k v : Nat} (hk : k < 9) (hkey : v % 65536 = 0x5A5A) (hrun : (h.wd k).state = 1)
    (htest : h.dev.test = false) (hchal : h.flag WDG_CFG_chal_en k = true) (htime : h.wdTime k < h.wdTimeout k * Config.ticksPerMs) :
    ((h.writeKick k v).wd k).seed = freshSeed (h.wd k).seed (h.freeNat 16).1 := by
  have hlate : ¬ h.wdTimeout k * Config.ticksPerMs ≤ h.wdTime k := by omega
  unfold Hub.writeKick
  rw [if_neg (by simp [hkey]), if_neg (by simp [hrun]), if_neg hlate]
  dsimp only
  split
  case isTrue =>
    rw [flag_count_violations, if_pos hchal]
    have hseeds : Seeds (fun j => (((h.count WDG_CNT_violations 1 k).newSeed k).wd j).seed) ((h.count WDG_CNT_violations 1 k).newSeed k) :=
      ⟨htest, fun _ => rfl⟩
    exact ((hseeds.wdExpire k _).seed k).trans (seed_newSeed (h.count WDG_CNT_violations 1 k) hk)
  case isFalse =>
    rw [Hub.flag_modWd, if_pos hchal, seed_newSeed _ hk, Hub.wd_modWd_self h k _ hk]
    rfl

/-- Settles O57: the read of WDG_SEED, the start, and a service that is accepted or a violation. -/
theorem theSeedIsRenewed : Obligations.TheSeedIsRenewed := by
  refine ⟨fun h w k => readWord_wdgSeed w, fun h k hen hdef => ?start, fun s w k v hcan => ?service⟩
  case start =>
    obtain ⟨hzero, hold, -⟩ :=
      renewed_of_eq_freshSeed (seed_wdStart k.isLt hen (hdef.imp_left (congrArg Fin.val))) (freeNat_fst_lt h 16)
    exact ⟨hzero, hold⟩
  case service =>
    simp only [Can.served, Bool.and_eq_true, beq_iff_eq, Bool.not_eq_true', decide_eq_true_eq] at hcan
    obtain ⟨⟨⟨⟨⟨⟨hwritable, hserver⟩, hkey⟩, hrun⟩, htest⟩, hchal⟩, htime⟩ := hcan
    refine completes_of_on (exec_wdgKick w k v s) ?_
    rw [if_pos]
    · exact renewed_of_eq_freshSeed (seed_writeKick k.isLt hkey hrun htest hchal htime) (freeNat_fst_lt _ 16)
    · exact Bool.and_eq_true_iff.mpr ⟨hwritable, beq_iff_eq.mpr hserver⟩

end Sys2Proof.Machine

/-!
PROOF. The step itself: the command at the front of the queue, the tick on an empty queue, and what reset leaves.
-/

namespace Sys2Proof.Machine

/-- Settles O44: the definition of a step on a queue that is not empty. -/
theorem aStepTakesTheFrontCommand : Obligations.AStepTakesTheFrontCommand := by
  intro s c rest hq
  unfold step
  rw [hq]

/-- Settles O46: every command is a change of the hub alone. -/
theorem everyCommandAnswersNext : Obligations.EveryCommandAnswersNext := by
  intro c s
  obtain ⟨f, hf⟩ := exec_on c s
  exact ⟨_, hf, rfl⟩

/-! ### What a tick leaves -/

/-- The hub without what a tick changes beside the clock: the registers, the line, the count of free values, and the lanes
and transmit queues of the Hinge link. -/
def Hub.unticked (h : Hub) : Hub :=
  { h with
    regs := [], lsy := {}, free := 0
    hinge := { h.hinge with lanes := Vector.replicate 4 {}, txL := [], txF := [], reqTurn := 0, reqLeft := 0 } }

theorem sendL_unticked (h : Hub) (f : HFrame) : (h.sendL f).unticked = h.unticked := by
  unfold Hub.sendL
  split <;> rfl

theorem sendF_unticked (h : Hub) (f : HFrame) : (h.sendF f).unticked = h.unticked := by
  unfold Hub.sendF
  split <;> rfl

theorem queueTime_unticked (h : Hub) : h.queueTime.unticked = h.unticked := by
  unfold Hub.queueTime
  dsimp only
  split
  · rfl
  · split <;> split <;> simp only [sendL_unticked]

theorem queueStat_unticked (h : Hub) : h.queueStat.unticked = h.unticked := by
  unfold Hub.queueStat Hub.sendStat
  split
  · rfl
  · simp only [sendF_unticked]

theorem setQueue_unticked (h : Hub) (lane : Nat) (q : List HFrame) : (h.setQueue lane q).unticked = h.unticked := by
  unfold Hub.setQueue
  split <;> rfl

theorem transmit_unticked (h : Hub) (lane : Nat) (f : HFrame) : (h.transmit lane f).unticked = h.unticked := rfl

theorem idleFrame_unticked (h : Hub) (lane : Nat) : (h.idleFrame lane).unticked = h.unticked := by
  unfold Hub.idleFrame
  split
  · rfl
  · split <;> rfl

theorem nextFrame_unticked {h k : Hub} {lane : Nat} {f : HFrame} (hn : h.nextFrame lane = some (f, k)) : k.unticked = h.unticked := by
  unfold Hub.nextFrame at hn
  dsimp only at hn
  split at hn
  · cases hn
  · split at hn
    all_goals
      obtain ⟨-, rfl⟩ := Prod.mk.inj (Option.some.inj hn)
      exact setQueue_unticked _ _ _

theorem slot_unticked (h : Hub) (lane : Nat) : (h.slot lane).unticked = h.unticked := by
  unfold Hub.slot
  split
  · rfl
  · split
    · exact idleFrame_unticked h lane
    · split
      · next hn => exact (transmit_unticked _ _ _).trans (nextFrame_unticked hn)
      · split
        · exact idleFrame_unticked h lane
        · rfl

theorem slots_unticked (h : Hub) : h.slots.unticked = h.unticked := by
  unfold Hub.slots
  split
  · simp only [slot_unticked]
  · simp only [slot_unticked]
  · rfl

theorem lsyForwardTick_unticked (h : Hub) : h.lsyForwardTick.unticked = h.unticked := by
  unfold Hub.lsyForwardTick
  split
  · split <;> rfl
  · rfl

theorem lsyReturnTick_unticked (h : Hub) : h.lsyReturnTick.unticked = h.unticked := by
  have hput : ∀ (k : Hub) (g : Lsy → Lsy), ((k.put LSY_CTRL_recal false).modLsy g).unticked = k.unticked := fun _ _ => rfl
  unfold Hub.lsyReturnTick
  dsimp only
  split
  · rfl
  · split
    · rfl
    · split
      · rfl
      · split
        · split
          · split
            · exact hput _ _
            · rfl
          · rfl
        · rfl

/-- Beside the clock a tick changes only what `unticked` leaves out. -/
theorem tickHub_unticked (h : Hub) : (tickHub h).unticked = h.tickClock.unticked := by
  unfold tickHub Hub.lsyTick
  rw [lsyReturnTick_unticked, lsyForwardTick_unticked, slots_unticked, queueStat_unticked, queueTime_unticked]

/-- A wrap sets flags of the register file alone. -/
theorem setWrapped_eq (h : Hub) : ∃ r, h.setWrapped = { h with regs := r } := by
  have hput : ∀ (l : List Nat) (k : Hub), ∃ r, forAll l (fun h w => h.put CLK_TB_EPOCH_wrapped true 0 w) k = { k with regs := r } := by
    intro l
    induction l with
    | nil => exact fun k => ⟨k.regs, rfl⟩
    | cons w rest ih => exact fun k => ih (k.put CLK_TB_EPOCH_wrapped true 0 w)
  exact hput _ h

/-- The clock counts, and no part of the hub but the clock and the registers changes with it. -/
theorem tickClock_eq (h : Hub) : ∃ r c, h.tickClock = { h with regs := r, clk := c } := by
  obtain ⟨r, hr⟩ := setWrapped_eq h
  unfold Hub.tickClock
  rw [hr]
  split
  · exact ⟨r, _, rfl⟩
  · exact ⟨h.regs, _, rfl⟩

theorem tickClock_clk (h : Hub) :
    h.tickClock.clk.now = h.clk.now + 1 ∧ h.tickClock.clk.tb = if h.mclkRuns then (h.clk.tb + 1) % 2 ^ 64 else h.clk.tb := ⟨rfl, rfl⟩

/-- What a tick leaves of the hub beside the clock. -/
theorem tickHub_rest (h : Hub) : ∃ c, (tickHub h).unticked = { h.unticked with clk := c } := by
  obtain ⟨r, c, hc⟩ := tickClock_eq h
  exact ⟨c, by rw [tickHub_unticked, hc]; rfl⟩

theorem tickHub_mem (h : Hub) : (tickHub h).mem = h.mem := by
  obtain ⟨c, hc⟩ := tickHub_rest h
  exact (congrArg Hub.mem hc :)

theorem tickHub_nvm (h : Hub) : (tickHub h).nvm = h.nvm := by
  obtain ⟨c, hc⟩ := tickHub_rest h
  exact (congrArg Hub.nvm hc :)

theorem tickHub_clk (h : Hub) : (tickHub h).clk = h.tickClock.clk := (congrArg Hub.clk (tickHub_unticked h) :)

theorem mclkRuns_iff (h : Hub) : h.mclkRuns = true ↔ ¬ (h.dev.phase = .off ∨ h.dev.rstLow = true ∨ h.clk.mclkLost = true) := by
  simp [Hub.mclkRuns, Hub.logicRuns, and_assoc]

/-- Settles O45: the tick counts the clock, and beside it leaves the memory and the NVM as they are. -/
theorem anEmptyQueueTicks : Obligations.AnEmptyQueueTicks := by
  intro s hq
  have hstep : step s = .next { s with hub := tickHub s.hub } := by
    unfold step
    rw [hq]
  obtain ⟨hnow, htb⟩ := tickClock_clk s.hub
  refine ⟨_, hstep, hq, tickHub_mem s.hub, tickHub_nvm s.hub, ?now, ?tb⟩
  case now => rw [← hnow, ← tickHub_clk]
  case tb =>
    calc (tickHub s.hub).clk.tb = if s.hub.mclkRuns then (s.hub.clk.tb + 1) % 2 ^ 64 else s.hub.clk.tb := by rw [tickHub_clk, htb]
      _ = _ := by simp only [mclkRuns_iff, ite_not]

/-! ### What reset leaves -/

/-- The leads outside *Run*'s phase, where the logic die serves none (R51, R52). -/
theorem leads_beforeUp {h : Hub} (hp : h.dev.phase = .boot ∨ h.dev.phase = .arming ∨ h.dev.phase = .recovery) :
    (∀ p : Nat, h.intLead p = .high) ∧ h.errLead = .low ∧ h.lsyncInLead = .hiZ ∧ h.lsyncOutLead = .hiZ ∧ h.nvmCsLead = .high ∧
      h.nvmSckLead = .low := by
  have hup : (h.dev.phase == .up) = false := by rcases hp with hp | hp | hp <;> rw [hp] <;> rfl
  have hoff : (h.dev.phase == .off) = false := by rcases hp with hp | hp | hp <;> rw [hp] <;> rfl
  refine ⟨fun p => ?_, ?_, ?_, ?_, ?_, ?_⟩
  · simp [Hub.intLead, Hub.leadsServe, hup, leadOf]
  · simp [Hub.errLead, Hub.errLow, Hub.errBoot, bne, hup]
  · simp [Hub.lsyncInLead, Hub.inDrives, Hub.lsyOn, hup]
  · simp [Hub.lsyncOutLead, Hub.outDrives, Hub.lsyOn, hup]
  · simp [Hub.nvmCsLead, hoff]
  · simp [Hub.nvmSckLead, hoff]

/-- The lead of an output channel whose switch is open (R220). -/
theorem chLead_of_open {h : Hub} {c : Nat} (hup : h.sup.fieldUp = true) (hd : c < 8 ∨ bitOf h.sup.on 10 = true) (hin : h.fIsIn c = false)
    (hsw : (h.out c).sw = false) : h.chLead c = .off (!(h.out c).check) := by
  simp [Hub.chLead, Hub.inSensed, Hub.pullDown, hup, hd, hin, hsw]

/-- Settles O47: the reset state is closed, so its parts are evaluated; the leads follow from the phase and the switches. -/
theorem theStateAfterReset : Obligations.TheStateAfterReset := by
  refine ⟨rfl, rfl, rfl, by decide, fun f i w => ?rd, fun a => rfl, rfl, ?drive, fun h => leads_beforeUp, ?aux, ?io, ?on,
    fun h c => chLead_of_open⟩
  case rd => simp [Hub.rd, State.reset, fileGet]
  case drive => unfold DriveAgrees; decide +kernel
  case aux =>
    rintro h i (hl | hs)
    · simp [Hub.auxLead, hl]
    · simp [Hub.auxLead, hs]
  case io => intro h i hl; simp [Hub.nvmIoLead, hl]
  case on => intro h c hsw; simp [Hub.chLead, hsw]

end Sys2Proof.Machine

/-!
PROOF. Deadbolt DB's drive agrees with its conditions (R515): every command ends with DB's judgement, which sets the drive to
the conditions, and neither the drive's own effect nor what follows it moves a condition.
-/

namespace Sys2Proof.Machine

/-- The hub `k` has DB's drive as `h` has it, and every condition of it: the field die's configuration and the live flags of all
positions but limiting (3) and off by the supply mode (11). -/
structure SameDrive (h k : Hub) : Prop where
  live : ∀ p, p ≠ 3 → p ≠ 11 → vget k.flt.fLive p 0 = vget h.flt.fLive p 0
  cfg : k.hinge.cfg = h.hinge.cfg
  forced : k.dbt.dbForced = h.dbt.dbForced

theorem SameDrive.of_eq {h k : Hub} (hf : k.flt = h.flt) (hc : k.hinge.cfg = h.hinge.cfg) (hd : k.dbt = h.dbt) : SameDrive h k :=
  ⟨fun _ _ _ => by rw [hf], hc, by rw [hd]⟩

theorem SameDrive.refl (h : Hub) : SameDrive h h := ⟨fun _ _ _ => rfl, rfl, rfl⟩

theorem SameDrive.trans {a b c : Hub} (x : SameDrive a b) (y : SameDrive b c) : SameDrive a c :=
  ⟨fun p h3 h11 => (y.live p h3 h11).trans (x.live p h3 h11), y.cfg.trans x.cfg, y.forced.trans x.forced⟩

theorem SameDrive.ite {h a b : Hub} {q : Prop} [Decidable q] (x : SameDrive h a) (y : SameDrive h b) : SameDrive h (if q then a else b) := by
  split
  · exact x
  · exact y

theorem SameDrive.forAll {f : Hub → Nat → Hub} (hf : ∀ h c, SameDrive h (f h c)) (l : List Nat) (h : Hub) :
    SameDrive h (forAll l f h) := by
  induction l generalizing h with
  | nil => exact SameDrive.refl h
  | cons c rest ih => exact (hf h c).trans (ih (f h c))

/-- DB's conditions are the same on both hubs. -/
theorem SameDrive.dbCond {h k : Hub} (x : SameDrive h k) : k.dbCond = h.dbCond := by
  have hfrd : ∀ (f : Fld) (i : Nat), k.frd f i = h.frd f i := fun f i => by unfold Hub.frd; rw [x.cfg]
  have hlead : k.fLead = h.fLead := funext fun c => by unfold Hub.fLead Hub.fMode; rw [hfrd]
  have hsafe : k.fSafeOn = h.fSafeOn := funext fun c => by unfold Hub.fSafeOn; rw [hfrd, hlead]
  have hlive := x.live
  unfold Hub.dbCond
  simp only [hfrd, hlead, hsafe, List.any_cons, List.any_nil, hlive 21 (by decide) (by decide), hlive 30 (by decide) (by decide),
    hlive 32 (by decide) (by decide), hlive 33 (by decide) (by decide), hlive 36 (by decide) (by decide), hlive 5 (by decide) (by decide),
    hlive 6 (by decide) (by decide), hlive 7 (by decide) (by decide), hlive 8 (by decide) (by decide), hlive 9 (by decide) (by decide),
    hlive 2 (by decide) (by decide)]

/-- Agreement passes from one hub to the other. -/
theorem SameDrive.agrees {h k : Hub} (x : SameDrive h k) (hd : h.dbCond = h.dbt.dbForced) : k.dbCond = k.dbt.dbForced := by
  rw [x.dbCond, hd, x.forced]

/-! ### The drive of the channels -/

theorem modOut_sameDrive (h : Hub) (c : Nat) (g : OutCh → OutCh) : SameDrive h (h.modOut c g) := .of_eq rfl rfl rfl
theorem modIn_sameDrive (h : Hub) (c : Nat) (g : InCh → InCh) : SameDrive h (h.modIn c g) := .of_eq rfl rfl rfl
theorem modAcc_sameDrive (h : Hub) (c : Nat) (g : ChCount → ChCount) : SameDrive h (h.modAcc c g) := .of_eq rfl rfl rfl
theorem put_sameDrive (h : Hub) (f : Fld) (b : Bool) (i w : Nat) : SameDrive h (h.put f b i w) := .of_eq rfl rfl rfl
theorem dropVf_sameDrive (h : Hub) (c : Nat) : SameDrive h (h.dropVf c) := .of_eq rfl rfl rfl
theorem lossSafe_sameDrive (h : Hub) (m : Nat) : SameDrive h { h with hinge := { h.hinge with lossSafe := m } } := .of_eq rfl rfl rfl

theorem sendF_sameDrive (h : Hub) (f : HFrame) : SameDrive h (h.sendF f) := by
  unfold Hub.sendF
  split
  · exact SameDrive.of_eq rfl rfl rfl
  · exact SameDrive.refl h

/-- The live flags of a position that is none of DB's conditions set anew. -/
theorem setLive_sameDrive (h : Hub) {p : Nat} (hp : p = 3 ∨ p = 11) (v m : Nat) :
    SameDrive h { h with flt := { h.flt with fLive := vset h.flt.fLive p v, fieldSticky := m } } := by
  refine ⟨fun q h3 h11 => vget_vset_ne ?_, rfl, rfl⟩
  rcases hp with rfl | rfl
  · exact h3
  · exact h11

theorem fieldRise_sameDrive (h : Hub) {p : Nat} (hp : p = 3 ∨ p = 11) (chs detail : Nat) : SameDrive h (h.fieldRise p chs detail) := by
  unfold Hub.fieldRise
  refine SameDrive.ite (SameDrive.refl h) ?_
  exact (setLive_sameDrive h hp _ _).trans (sendF_sameDrive _ _)

theorem fieldFall_sameDrive (h : Hub) {p : Nat} (hp : p = 3 ∨ p = 11) (chs : Nat) : SameDrive h (h.fieldFall p chs) := by
  unfold Hub.fieldFall
  refine SameDrive.ite (SameDrive.refl h) ?_
  exact (setLive_sameDrive h hp _ h.flt.fieldSticky).trans (sendF_sameDrive _ _)

theorem syncOutFlt_sameDrive (h : Hub) (c : Nat) : SameDrive h (h.syncOutFlt c) := by
  unfold Hub.syncOutFlt
  split
  · exact SameDrive.refl h
  · exact SameDrive.forAll (f := fun h b => h.put (outFltFlds.getD b OUT_FLT_open_off) (bitOf (h.out c).flt b) c)
      (fun h b => SameDrive.of_eq rfl rfl rfl) _ h

theorem outRise_sameDrive (h : Hub) (c : Nat) {b : Nat} (hb : b = 3 ∨ b = 11) (detail : Nat) : SameDrive h (h.outRise c b detail) := by
  unfold Hub.outRise
  split
  · exact SameDrive.refl h
  · exact ((modOut_sameDrive h c _).trans (fieldRise_sameDrive _ hb _ _)).trans (syncOutFlt_sameDrive _ c)

theorem switchFlags_sameDrive (h : Hub) (c : Nat) (was : OutCh) : SameDrive h (h.switchFlags c was) := by
  have hfall : SameDrive h (if was.limiting && !(h.out c).limiting then h.outFall c 3 else h) := by
    split
    · exact fieldFall_sameDrive h (.inl rfl) _
    · exact SameDrive.refl h
  unfold Hub.switchFlags
  dsimp only
  split
  · exact hfall.trans ((modOut_sameDrive _ c _).trans (outRise_sameDrive _ c (.inr rfl) 0))
  · exact hfall

theorem stampHeavy_sameDrive (h : Hub) (c : Nat) : SameDrive h (h.stampHeavy c) := by
  unfold Hub.stampHeavy
  split
  · exact SameDrive.of_eq rfl rfl rfl
  · exact SameDrive.refl h

theorem setSwitch_sameDrive (h : Hub) (c : Nat) (on counts : Bool) : SameDrive h (h.setSwitch c on counts) := by
  have hcount : ∀ q : Bool, SameDrive h (if q then h.countTurnOn c else h) := fun q =>
    .ite ((modAcc_sameDrive h c _).trans (stampHeavy_sameDrive _ c)) (.refl h)
  have hdrop : ∀ (k : Hub) (q : Bool), SameDrive k (if q then k.dropVf c else k) := fun k q => .ite (dropVf_sameDrive k c) (.refl k)
  unfold Hub.setSwitch
  dsimp only
  refine SameDrive.trans ?_ (switchFlags_sameDrive _ c _)
  refine SameDrive.trans ?_ (modOut_sameDrive _ c _)
  refine SameDrive.trans ?_ (hdrop _ _)
  exact hcount _

theorem endWindows_sameDrive (h : Hub) (src : Nat) : SameDrive h (h.endWindows src) := by
  refine SameDrive.forAll (fun h c => ?_) _ h
  split
  · exact SameDrive.refl h
  · refine SameDrive.ite (.trans ?_ (modIn_sameDrive _ c _)) (.refl h)
    exact .ite (put_sameDrive h _ _ _ _) (.refl h)

/-- Bringing channels to their safe states moves none of DB's conditions. -/
theorem fieldSafe_sameDrive (h : Hub) (chs : List Nat) : SameDrive h (h.fieldSafe chs) := by
  refine SameDrive.forAll (fun h c => ?_) _ h
  dsimp only
  refine SameDrive.trans ?_ (setSwitch_sameDrive _ c _ true)
  refine SameDrive.trans ?_ (endWindows_sameDrive _ c)
  refine SameDrive.trans (modOut_sameDrive h c fun o => { o with fholdRun := false, atSafe := h.hinge.firstApplied }) ?_
  exact .ite (.refl _) (lossSafe_sameDrive _ _)

/-! ### The judgement and what follows it -/

/-- After DB's judgement its drive agrees with its conditions. -/
theorem agrees_of_dbJudge (h : Hub) : h.dbJudge.dbCond = h.dbJudge.dbt.dbForced := by
  unfold Hub.dbJudge
  dsimp only
  split
  · next hd => exact beq_iff_eq.mp hd
  · split
    · exact (fieldSafe_sameDrive _ _).agrees rfl
    · rfl

/-- What follows the judgement leaves the drive and its conditions. -/
theorem Close.sameDrive {h k : Hub} (x : Close h k) : SameDrive h k :=
  SameDrive.of_eq (congrArg (fun d => d.2.2.2.1) x.driven) (congrArg (fun r => r.hinge.cfg) x.near.rest) (congrArg (fun d => d.2.2.1) x.driven)

theorem settle_agrees (b a : Hub) : (settle b a).dbCond = (settle b a).dbt.dbForced :=
  (settle_close b a).sameDrive.agrees (agrees_of_dbJudge _)

/-- A tick leaves the drive and its conditions. -/
theorem tickHub_sameDrive (h : Hub) : SameDrive h (tickHub h) := by
  obtain ⟨c, hc⟩ := tickHub_rest h
  exact SameDrive.of_eq (congrArg Hub.flt hc :) (congrArg (fun k => k.hinge.cfg) hc :) (congrArg Hub.dbt hc :)

/-- Settles O48: a command ends with DB's judgement, and a tick moves neither the drive nor its conditions. -/
theorem theDriveStaysInAgreement : Obligations.TheDriveStaysInAgreement := by
  intro s t hd hstep
  unfold step at hstep
  split at hstep
  case h_1 =>
    cases hstep
    exact (tickHub_sameDrive s.hub).agrees hd
  case h_2 c rest _ =>
    obtain ⟨f, hf⟩ := exec_on c { s with pending := rest }
    rw [hf] at hstep
    cases hstep
    exact settle_agrees _ _

end Sys2Proof.Machine

/-!
PROOF. Footprints: which parts of the hub and which register fields a change of the hub can move, and how footprints add
up along the branches and steps of a change.
-/

namespace Sys2Proof.Machine

/-! ### Parts and footprints -/

/-- The memory and both NVM devices are in canonical form. -/
def Hub.canonical (h : Hub) : Prop := Memory.wf 0 h.mem = true ∧ h.nvm.toList.all (fun v => Memory.wf 0xFF v.mem) = true

/-- What a change of the hub can touch: its parts, where `regs` stands for the registers as a whole; and what
steps keep, the canonical form (`canon`) and that W0 is not *Held* (`keeper`), and a command the mark of a first fault (`mark`). -/
inductive HubPart where
  | regs | chip | armed | kept | dev | sup | ret | fol | clk | hinge | outs | ins | dbt | tmbs | aux | sch | recd | flt | ints
  | pins | ports | eng | banks | mem | bad | dpLow | dpHigh | lsy | wds | wdo | bst | life | blk | nvm | nvmOp | nvmQ
  | fieldReset | fieldSince | free | canon | keeper | mark
  deriving DecidableEq

/-- A part is the same in two hubs, or what it stands for is kept from the first to the second; the fault collector but for its
mark of a first fault captured in the present command. Of the registers a footprint speaks field by field. -/
def HubPart.same (p : HubPart) (h k : Hub) : Prop :=
  match p with
  | .regs => True
  | .chip => k.chip = h.chip
  | .armed => k.armed = h.armed
  | .kept => k.kept = h.kept
  | .dev => k.dev = h.dev
  | .sup => k.sup = h.sup
  | .ret => k.ret = h.ret
  | .fol => k.fol = h.fol
  | .clk => k.clk = h.clk
  | .hinge => k.hinge = h.hinge
  | .outs => k.outs = h.outs
  | .ins => k.ins = h.ins
  | .dbt => k.dbt = h.dbt
  | .tmbs => k.tmbs = h.tmbs
  | .aux => k.aux = h.aux
  | .sch => k.sch = h.sch
  | .recd => k.recd = h.recd
  | .flt => { k.flt with fresh := false } = { h.flt with fresh := false }
  | .ints => k.ints = h.ints
  | .pins => k.pins = h.pins
  | .ports => k.ports = h.ports
  | .eng => k.eng = h.eng
  | .banks => k.banks = h.banks
  | .mem => k.mem = h.mem
  | .bad => k.bad = h.bad
  | .dpLow => k.dpLow = h.dpLow
  | .dpHigh => k.dpHigh = h.dpHigh
  | .lsy => k.lsy = h.lsy
  | .wds => k.wds = h.wds
  | .wdo => k.wdo = h.wdo
  | .bst => k.bst = h.bst
  | .life => k.life = h.life
  | .blk => k.blk = h.blk
  | .nvm => k.nvm = h.nvm
  | .nvmOp => k.nvmOp = h.nvmOp
  | .nvmQ => k.nvmQ = h.nvmQ
  | .fieldReset => k.fieldReset = h.fieldReset
  | .fieldSince => k.fieldSince = h.fieldSince
  | .free => k.free = h.free
  | .canon => h.canonical → k.canonical
  | .keeper => h.ward 0 ≠ .held → k.ward 0 ≠ .held
  | .mark => h.flt.fresh = true → k.flt.fresh = true

/-- Two hubs that differ in their registers alone. -/
theorem HubPart.same_of_regs (p : HubPart) (h : Hub) (v : List (Nat × Nat)) : p.same h { h with regs := v } := by
  cases p
  case canon | keeper | mark => exact id
  all_goals trivial

theorem HubPart.same_refl (p : HubPart) (h : Hub) : p.same h h := p.same_of_regs h h.regs

theorem HubPart.same_trans {p : HubPart} {a b c : Hub} (x : p.same a b) (y : p.same b c) : p.same a c := by
  cases p
  case regs => trivial
  case canon | keeper | mark => exact fun ha => y (x ha)
  all_goals exact Eq.trans y x

/-- A footprint: the parts that may move, the register fields of which a copy may change, and the fields that are written at
an index no check bounds. -/
structure Foot where
  parts : List HubPart := []
  flds : List Fld := []
  loose : List Fld := []

/-- A key of the register file belongs to one of the field's copies. -/
def ownsKey (f : Fld) (k : Nat) : Bool :=
  k / 8 % 32 == f.lsb &&
    (if f.stride == 0 then keyAddr k == f.base
      else decide (f.base ≤ keyAddr k) && (keyAddr k - f.base) % f.stride == 0 && decide ((keyAddr k - f.base) / f.stride < f.count))

/-- The keys of a footprint. -/
def Foot.keys (F : Foot) (k : Nat) : Bool :=
  F.parts.contains .regs || F.flds.any (fun f => ownsKey f k) || F.loose.any (fun f => keyOf f k)

/-- The footprint names a field for a write at any index. -/
def Foot.holdsLoose (F : Foot) (f : Fld) : Bool := F.parts.contains .regs || (decide (f.lsb < 32) && F.loose.contains f)

/-- The footprint names a field. -/
def Foot.holds (F : Foot) (f : Fld) : Bool :=
  F.parts.contains .regs || (decide (f.lsb < 32) && (F.flds.contains f || F.loose.contains f))

/-- Footprint `F` lies within `G`. -/
def Foot.within (F G : Foot) : Bool := F.parts.all G.parts.contains && F.flds.all G.holds && F.loose.all G.holdsLoose

/-- Two footprints together. -/
def Foot.join (F G : Foot) : Foot := ⟨F.parts ++ G.parts, F.flds ++ G.flds, F.loose ++ G.loose⟩

/-- No copy of a field lies in the footprint. -/
def Foot.avoids (F : Foot) (f : Fld) : Bool :=
  (List.range f.count).all (fun i => (List.range 8).all (fun w => !F.keys (fldKey f i w)))

/-- The hub `k` is the hub `h` but for the footprint. -/
structure Moves (F : Foot) (h k : Hub) : Prop where
  part : ∀ p, F.parts.contains p = false → p.same h k
  regs : ∀ key, F.keys key = false → fileGet k.regs key = fileGet h.regs key

/-! ### Keys -/

theorem keyAddr_fldKey {f : Fld} (hf : f.lsb < 32) (i w : Nat) : keyAddr (fldKey f i w) = f.base + f.stride * i := by
  unfold keyAddr fldKey
  split <;> omega

theorem lsb_fldKey {f : Fld} (hf : f.lsb < 32) (i w : Nat) : fldKey f i w / 8 % 32 = f.lsb := by
  unfold fldKey
  split <;> omega

theorem ownsKey_fldKey {f : Fld} (hf : f.lsb < 32) {i : Nat} (hi : i < f.count) (w : Nat) : ownsKey f (fldKey f i w) = true := by
  unfold ownsKey
  rw [lsb_fldKey hf, keyAddr_fldKey hf]
  by_cases hs : f.stride = 0
  · simp [hs]
  · simp [hs, hi]

theorem keyOf_of_ownsKey {f : Fld} {k : Nat} (hk : ownsKey f k = true) : keyOf f k = true := by
  unfold ownsKey at hk
  unfold keyOf
  split at hk
  case isTrue hs => rwa [if_pos hs]
  case isFalse hs =>
    rw [if_neg hs]
    simp only [Bool.and_eq_true] at hk ⊢
    exact ⟨hk.1, hk.2.1⟩

theorem keyOf_fldKey {f : Fld} (hf : f.lsb < 32) (i w : Nat) : keyOf f (fldKey f i w) = true := by
  by_cases hs : f.stride = 0 <;> simp [keyOf, lsb_fldKey hf, keyAddr_fldKey hf, hs]

theorem Foot.keys_of_holdsLoose {F : Foot} {f : Fld} (hf : F.holdsLoose f = true) (i w : Nat) : F.keys (fldKey f i w) = true := by
  simp only [Foot.holdsLoose, Foot.keys, Bool.or_eq_true, Bool.and_eq_true, decide_eq_true_eq, List.contains_iff_mem,
    List.any_eq_true] at hf ⊢
  exact hf.imp (fun h => .inl h) (fun ⟨hlsb, hmem⟩ => ⟨f, hmem, keyOf_fldKey hlsb i w⟩)

theorem Foot.keys_of_holds {F : Foot} {f : Fld} (hf : F.holds f = true) {i : Nat} (hi : i < f.count) (w : Nat) :
    F.keys (fldKey f i w) = true := by
  simp only [Foot.holds, Foot.keys, Bool.or_eq_true, Bool.and_eq_true, decide_eq_true_eq, List.contains_iff_mem,
    List.any_eq_true] at hf ⊢
  rcases hf with hall | ⟨hlsb, hmem | hmem⟩
  · exact .inl (.inl hall)
  · exact .inl (.inr ⟨f, hmem, ownsKey_fldKey hlsb hi w⟩)
  · exact .inr ⟨f, hmem, keyOf_fldKey hlsb i w⟩

/-- A smaller footprint has fewer keys. -/
theorem Foot.keys_mono {F G : Foot} (hFG : F.within G = true) {k : Nat} (hk : F.keys k = true) : G.keys k = true := by
  simp only [Foot.within, Bool.and_eq_true, List.all_eq_true] at hFG
  obtain ⟨⟨hparts, hflds⟩, hloose⟩ := hFG
  simp only [Foot.keys, Bool.or_eq_true, List.any_eq_true] at hk ⊢
  rcases hk with (hall | ⟨f, hf, hown⟩) | ⟨f, hf, hkey⟩
  · exact .inl (.inl (hparts _ (List.contains_iff_mem.mp hall)))
  · have hG := hflds f hf
    simp only [Foot.holds, Bool.and_eq_true, Bool.or_eq_true, List.contains_iff_mem (a := f)] at hG
    rcases hG with hall | ⟨-, hmem | hmem⟩
    · exact .inl (.inl hall)
    · exact .inl (.inr ⟨f, hmem, hown⟩)
    · exact .inr ⟨f, hmem, keyOf_of_ownsKey hown⟩
  · have hG := hloose f hf
    simp only [Foot.holdsLoose, Bool.and_eq_true, Bool.or_eq_true, List.contains_iff_mem (a := f)] at hG
    rcases hG with hall | ⟨-, hmem⟩
    · exact .inl (.inl hall)
    · exact .inr ⟨f, hmem, hkey⟩

theorem Foot.holdsLoose_mono {F G : Foot} (hFG : F.within G = true) {f : Fld} (hf : F.holdsLoose f = true) :
    G.holdsLoose f = true := by
  simp only [Foot.within, Bool.and_eq_true, List.all_eq_true] at hFG
  obtain ⟨⟨hparts, -⟩, hloose⟩ := hFG
  rw [Foot.holdsLoose, Bool.or_eq_true] at hf
  rcases hf with hall | hmem
  · rw [Foot.holdsLoose, hparts _ (List.contains_iff_mem.mp hall), Bool.true_or]
  · rw [Bool.and_eq_true, List.contains_iff_mem] at hmem
    exact hloose f hmem.2

theorem Foot.holds_of_holdsLoose {F : Foot} {f : Fld} (hf : F.holdsLoose f = true) : F.holds f = true := by
  rw [Foot.holdsLoose, Bool.or_eq_true, Bool.and_eq_true] at hf
  rcases hf with hall | ⟨hlsb, hmem⟩
  · rw [Foot.holds, hall, Bool.true_or]
  · rw [Foot.holds, hlsb, hmem, Bool.or_true, Bool.and_true, Bool.or_true]

theorem Foot.holds_mono {F G : Foot} (hFG : F.within G = true) {f : Fld} (hf : F.holds f = true) : G.holds f = true := by
  have hG := hFG
  simp only [Foot.within, Bool.and_eq_true, List.all_eq_true] at hG
  obtain ⟨⟨hparts, hflds⟩, hloose⟩ := hG
  rw [Foot.holds, Bool.or_eq_true, Bool.and_eq_true, Bool.or_eq_true] at hf
  rcases hf with hall | ⟨-, hmem | hmem⟩
  · rw [Foot.holds, hparts _ (List.contains_iff_mem.mp hall), Bool.true_or]
  · exact hflds f (List.contains_iff_mem.mp hmem)
  · exact Foot.holds_of_holdsLoose (hloose f (List.contains_iff_mem.mp hmem))

theorem Foot.within_trans {F G H : Foot} (hFG : F.within G = true) (hGH : G.within H = true) : F.within H = true := by
  have hF := hFG
  simp only [Foot.within, Bool.and_eq_true, List.all_eq_true] at hF ⊢
  obtain ⟨⟨hparts, hflds⟩, hloose⟩ := hF
  refine ⟨⟨fun p hp => ?_, fun f hf => Foot.holds_mono hGH (hflds f hf)⟩, fun f hf => Foot.holdsLoose_mono hGH (hloose f hf)⟩
  simp only [Foot.within, Bool.and_eq_true, List.all_eq_true] at hGH
  exact hGH.1.1 p (List.contains_iff_mem.mp (hparts p hp))

/-! ### How footprints add up -/

section
set_option Elab.async false
variable {F G : Foot} {h₀ h k : Hub}

theorem Moves.refl (F : Foot) (h : Hub) : Moves F h h := ⟨fun p _ => p.same_refl h, fun _ _ => rfl⟩

theorem Moves.trans (x : Moves F h₀ h) (y : Moves F h k) : Moves F h₀ k :=
  ⟨fun p hp => HubPart.same_trans (x.part p hp) (y.part p hp), fun key hk => (y.regs key hk).trans (x.regs key hk)⟩

theorem Moves.mono (y : Moves G h k) (hG : G.within F = true) : Moves F h k := by
  refine ⟨fun p hp => y.part p ?_, fun key hk => y.regs key ?_⟩
  · simp only [Foot.within, Bool.and_eq_true, List.all_eq_true] at hG
    by_contra hc
    rw [Bool.not_eq_false, List.contains_iff_mem] at hc
    rw [hG.1.1 p hc] at hp
    exact Bool.noConfusion hp
  · exact Bool.eq_false_iff.mpr fun hc => Bool.false_ne_true (hk.symm.trans (Foot.keys_mono hG hc))

/-- A part that a change keeps although the footprints of its steps hold it. -/
theorem Moves.keeping (p : HubPart) (x : Moves G h k) (hp : p.same h k)
    (hG : G.within ⟨p :: F.parts, F.flds, F.loose⟩ = true := by decide +kernel) (hr : p ≠ .regs := by decide) : Moves F h k := by
  have y := x.mono hG
  refine ⟨fun q hq => ?_, fun key hk => y.regs key ?_⟩
  · by_cases hqp : q = p
    · exact hqp ▸ hp
    · refine y.part q ?_
      rw [List.contains_cons, hq, Bool.or_false]
      exact beq_false_of_ne hqp
  · rw [← hk, Foot.keys, Foot.keys, List.contains_cons, beq_false_of_ne (Ne.symm hr), Bool.false_or]

/-- A further change, whose footprint lies within the one at hand. -/
theorem Moves.to (x : Moves F h₀ h) (y : Moves G h k) (hG : G.within F = true := by decide +kernel) : Moves F h₀ k :=
  x.trans (y.mono hG)

theorem Moves.ite {a b : Hub} {q : Prop} [Decidable q] (x : Moves F h₀ a) (y : Moves F h₀ b) : Moves F h₀ (if q then a else b) := by
  split
  · exact x
  · exact y

theorem Moves.iteFst {α : Type} {a b : Hub × α} {q : Prop} [Decidable q] (x : Moves F h₀ a.1) (y : Moves F h₀ b.1) :
    Moves F h₀ (if q then a else b).1 := by
  split
  · exact x
  · exact y

theorem Moves.iteSnd {α : Type} {a b : α × Hub} {q : Prop} [Decidable q] (x : Moves F h₀ a.2) (y : Moves F h₀ b.2) :
    Moves F h₀ (if q then a else b).2 := by
  split
  · exact x
  · exact y

/-- A step after which two ways part. -/
theorem Moves.bind (x : Moves F h₀ h) (y : Moves F h₀ h → Moves F h₀ k) : Moves F h₀ k := y x

/-- A step taken where a condition holds, and left out elsewhere. -/
theorem Moves.when {a : Hub} {q : Prop} [Decidable q] (x : Moves F h₀ h) (y : Moves F h₀ h → Moves F h₀ a) :
    Moves F h₀ (if q then a else h) := .ite (y x) x

/-- A step left out where a condition holds. -/
theorem Moves.unless {a : Hub} {q : Prop} [Decidable q] (x : Moves F h₀ h) (y : Moves F h₀ h → Moves F h₀ a) :
    Moves F h₀ (if q then h else a) := .ite x (y x)

theorem Moves.forAll {f : Hub → Nat → Hub} {l : List Nat} (x : Moves F h₀ h) (hf : ∀ h c, c ∈ l → Moves F h (f h c)) :
    Moves F h₀ (forAll l f h) := by
  induction l generalizing h with
  | nil => exact x
  | cons c rest ih => exact ih (x.trans (hf h c List.mem_cons_self)) fun h d hd => hf h d (List.mem_cons_of_mem c hd)

theorem Moves.foldl {α : Type} {f : Hub → α → Hub} {l : List α} (x : Moves F h₀ h) (hf : ∀ h c, c ∈ l → Moves F h (f h c)) :
    Moves F h₀ (l.foldl f h) := by
  induction l generalizing h with
  | nil => exact x
  | cons c rest ih => exact ih (x.trans (hf h c List.mem_cons_self)) fun h d hd => hf h d (List.mem_cons_of_mem c hd)

theorem Moves.wrOf (x : Moves F h₀ h) (f : Fld) (v i w : Nat) (hf : F.keys (fldKey f i w) = true) : Moves F h₀ (h.wr f v i w) := by
  refine ⟨fun p hp => HubPart.same_trans (x.part p hp) (p.same_of_regs h _), fun key hk => Eq.trans ?_ (x.regs key hk)⟩
  refine fileGet_fileSet_ne fun he => ?_
  rw [he, hf] at hk
  exact Bool.noConfusion hk

/-- A register write within the footprint. -/
theorem Moves.wr (x : Moves F h₀ h) (f : Fld) (v i w : Nat) (hi : i < f.count := by decide) (hf : F.holds f = true := by decide +kernel) :
    Moves F h₀ (h.wr f v i w) := x.wrOf f v i w (Foot.keys_of_holds hf hi w)

/-- A register write at an index that no check bounds. -/
theorem Moves.wrLoose (x : Moves F h₀ h) (f : Fld) (v i w : Nat) (hf : F.holdsLoose f = true := by decide +kernel) :
    Moves F h₀ (h.wr f v i w) := x.wrOf f v i w (Foot.keys_of_holdsLoose hf i w)

/-- A register write where any register may change. -/
theorem Moves.wrAny (x : Moves F h₀ h) (f : Fld) (v i w : Nat) (hF : F.parts.contains .regs = true := by decide) :
    Moves F h₀ (h.wr f v i w) := x.wrOf f v i w (by rw [Foot.keys, hF]; rfl)

theorem Moves.putAny (x : Moves F h₀ h) (f : Fld) (b : Bool) (i w : Nat) (hF : F.parts.contains .regs = true := by decide) :
    Moves F h₀ (h.put f b i w) := x.wrAny f _ i w hF

theorem Moves.countAny (x : Moves F h₀ h) (f : Fld) (n i w : Nat) (hF : F.parts.contains .regs = true := by decide) :
    Moves F h₀ (h.count f n i w) := x.wrAny f _ i w hF

theorem Moves.countModAny (x : Moves F h₀ h) (f : Fld) (n i w : Nat) (hF : F.parts.contains .regs = true := by decide) :
    Moves F h₀ (h.countMod f n i w) := x.wrAny f _ i w hF

theorem Moves.put (x : Moves F h₀ h) (f : Fld) (b : Bool) (i w : Nat) (hi : i < f.count := by decide)
    (hf : F.holds f = true := by decide +kernel) : Moves F h₀ (h.put f b i w) := x.wr f _ i w hi hf

theorem Moves.count (x : Moves F h₀ h) (f : Fld) (n i w : Nat) (hi : i < f.count := by decide)
    (hf : F.holds f = true := by decide +kernel) : Moves F h₀ (h.count f n i w) := x.wr f _ i w hi hf

theorem Moves.countMod (x : Moves F h₀ h) (f : Fld) (n i w : Nat) (hi : i < f.count := by decide)
    (hf : F.holds f = true := by decide +kernel) : Moves F h₀ (h.countMod f n i w) := x.wr f _ i w hi hf

theorem Moves.countModLoose (x : Moves F h₀ h) (f : Fld) (n i w : Nat) (hf : F.holdsLoose f = true := by decide +kernel) :
    Moves F h₀ (h.countMod f n i w) := x.wrLoose f _ i w hf

theorem Moves.putLoose (x : Moves F h₀ h) (f : Fld) (b : Bool) (i w : Nat) (hf : F.holdsLoose f = true := by decide +kernel) :
    Moves F h₀ (h.put f b i w) := x.wrLoose f _ i w hf

theorem Moves.countLoose (x : Moves F h₀ h) (f : Fld) (n i w : Nat) (hf : F.holdsLoose f = true := by decide +kernel) :
    Moves F h₀ (h.count f n i w) := x.wrLoose f _ i w hf

/-! ### What a footprint leaves -/

/-- A field no copy of which lies in the footprint reads as before. -/
theorem Moves.rd (x : Moves F h k) (f : Fld) (i w : Nat) (hi : i < f.count := by decide)
    (hf : F.avoids f = true := by decide +kernel) : k.rd f i w = h.rd f i w := by
  simp only [Foot.avoids, List.all_eq_true, List.mem_range, Bool.not_eq_true'] at hf
  have hw : fldKey f i w = fldKey f i (w % 8) := by simp only [fldKey, Nat.mod_mod]
  simp only [Hub.rd, hw, x.regs _ (hf i hi (w % 8) (Nat.mod_lt w (by decide)))]

theorem Moves.flag (x : Moves F h k) (f : Fld) (i w : Nat) (hi : i < f.count := by decide)
    (hf : F.avoids f = true := by decide +kernel) : k.flag f i w = h.flag f i w := by
  simp only [Hub.flag, x.rd f i w hi hf]

/-- A part outside the footprint is the same. -/
theorem Moves.keeps (x : Moves F h k) (p : HubPart) (hp : F.parts.contains p = false := by decide) : p.same h k := x.part p hp

/-! ### Parts replaced -/

/-- Parts of the footprint replaced. -/
theorem Moves.set (x : Moves F h₀ h) (ps : List HubPart) (hF : ps.all F.parts.contains = true := by decide)
    (hs : ∀ q, ps.contains q = false → q.same h k := by
      intro q hq
      cases q <;> first | exact Bool.noConfusion hq | trivial | exact id | assumption)
    (hr : k.regs = h.regs := by rfl) : Moves F h₀ k := by
  refine x.trans ⟨fun q hq => hs q ?_, fun key _ => by rw [hr]⟩
  by_contra hc
  rw [Bool.not_eq_false, List.contains_iff_mem] at hc
  rw [List.all_eq_true.mp hF q hc] at hq
  exact Bool.noConfusion hq

/-- The registers replaced. -/
theorem Moves.anyRegs (x : Moves F h₀ h) (v : List (Nat × Nat)) (hF : F.parts.contains .regs = true := by decide) :
    Moves F h₀ { h with regs := v } :=
  x.trans ⟨fun q _ => q.same_of_regs h v, fun key hk => by
    rw [Foot.keys, hF] at hk
    exact Bool.noConfusion hk⟩

theorem Moves.chip (x : Moves F h₀ h) (v : Chip) (hF : [HubPart.chip].all F.parts.contains = true := by decide) :
    Moves F h₀ { h with chip := v } := x.set [.chip] hF
theorem Moves.armed (x : Moves F h₀ h) (v : List (Nat × Nat)) (hF : [HubPart.armed].all F.parts.contains = true := by decide) :
    Moves F h₀ { h with armed := v } := x.set [.armed] hF
theorem Moves.kept (x : Moves F h₀ h) (v : Vector (List (Nat × Nat)) 12) (hF : [HubPart.kept].all F.parts.contains = true := by decide) :
    Moves F h₀ { h with kept := v } := x.set [.kept] hF
theorem Moves.dev (x : Moves F h₀ h) (v : Dev)
    (hw : h.ward 0 ≠ .held → vget v.wards 0 .absent ≠ .held := by exact id) (hF : [HubPart.dev].all F.parts.contains = true := by decide) :
    Moves F h₀ { h with dev := v } := x.set [.dev] hF
theorem Moves.sup (x : Moves F h₀ h) (v : Sup) (hF : [HubPart.sup].all F.parts.contains = true := by decide) :
    Moves F h₀ { h with sup := v } := x.set [.sup] hF
theorem Moves.ret (x : Moves F h₀ h) (v : Retained) (hF : [HubPart.ret].all F.parts.contains = true := by decide) :
    Moves F h₀ { h with ret := v } := x.set [.ret] hF
theorem Moves.fol (x : Moves F h₀ h) (v : Follow) (hF : [HubPart.fol].all F.parts.contains = true := by decide) :
    Moves F h₀ { h with fol := v } := x.set [.fol] hF
theorem Moves.clk (x : Moves F h₀ h) (v : Clk) (hF : [HubPart.clk].all F.parts.contains = true := by decide) :
    Moves F h₀ { h with clk := v } := x.set [.clk] hF
theorem Moves.hinge (x : Moves F h₀ h) (v : Hinge) (hF : [HubPart.hinge].all F.parts.contains = true := by decide) :
    Moves F h₀ { h with hinge := v } := x.set [.hinge] hF
theorem Moves.outs (x : Moves F h₀ h) (v : Vector OutCh 16) (hF : [HubPart.outs].all F.parts.contains = true := by decide) :
    Moves F h₀ { h with outs := v } := x.set [.outs] hF
theorem Moves.ins (x : Moves F h₀ h) (v : Vector InCh 16) (hF : [HubPart.ins].all F.parts.contains = true := by decide) :
    Moves F h₀ { h with ins := v } := x.set [.ins] hF
theorem Moves.dbt (x : Moves F h₀ h) (v : Dbt) (hF : [HubPart.dbt].all F.parts.contains = true := by decide) :
    Moves F h₀ { h with dbt := v } := x.set [.dbt] hF
theorem Moves.tmbs (x : Moves F h₀ h) (v : Vector Tmb 8) (hF : [HubPart.tmbs].all F.parts.contains = true := by decide) :
    Moves F h₀ { h with tmbs := v } := x.set [.tmbs] hF
theorem Moves.aux (x : Moves F h₀ h) (v : Vector Aux 4) (hF : [HubPart.aux].all F.parts.contains = true := by decide) :
    Moves F h₀ { h with aux := v } := x.set [.aux] hF
theorem Moves.sch (x : Moves F h₀ h) (v : Sch) (hF : [HubPart.sch].all F.parts.contains = true := by decide) :
    Moves F h₀ { h with sch := v } := x.set [.sch] hF
theorem Moves.recd (x : Moves F h₀ h) (v : Rec) (hF : [HubPart.recd].all F.parts.contains = true := by decide) :
    Moves F h₀ { h with recd := v } := x.set [.recd] hF
theorem Moves.flt (x : Moves F h₀ h) (v : Flt) (hx : h.flt.fresh = true → v.fresh = true := by exact id)
    (hF : [HubPart.flt].all F.parts.contains = true := by decide) :
    Moves F h₀ { h with flt := v } := x.set [.flt] hF
theorem Moves.ints (x : Moves F h₀ h) (v : Vector WardInt 8) (hF : [HubPart.ints].all F.parts.contains = true := by decide) :
    Moves F h₀ { h with ints := v } := x.set [.ints] hF
theorem Moves.pins (x : Moves F h₀ h) (v : Vector PinPulse 4) (hF : [HubPart.pins].all F.parts.contains = true := by decide) :
    Moves F h₀ { h with pins := v } := x.set [.pins] hF
theorem Moves.ports (x : Moves F h₀ h) (v : Vector Port 3) (hF : [HubPart.ports].all F.parts.contains = true := by decide) :
    Moves F h₀ { h with ports := v } := x.set [.ports] hF
theorem Moves.eng (x : Moves F h₀ h) (v : OpsEng) (hF : [HubPart.eng].all F.parts.contains = true := by decide) :
    Moves F h₀ { h with eng := v } := x.set [.eng] hF
theorem Moves.banks (x : Moves F h₀ h) (v : Vector Bank 48) (hF : [HubPart.banks].all F.parts.contains = true := by decide) :
    Moves F h₀ { h with banks := v } := x.set [.banks] hF
/-- The memory replaced by one of canonical form. -/
theorem Moves.mem (x : Moves F h₀ h) (v : List Host.Cell) (hc : HubPart.canon.same h { h with mem := v })
    (hF : [HubPart.mem].all F.parts.contains = true := by decide) : Moves F h₀ { h with mem := v } := x.set [.mem] hF
theorem Moves.bad (x : Moves F h₀ h) (v : List Nat) (hF : [HubPart.bad].all F.parts.contains = true := by decide) :
    Moves F h₀ { h with bad := v } := x.set [.bad] hF
theorem Moves.dpLow (x : Moves F h₀ h) (v : Vector (Option (Nat × Nat)) 8) (hF : [HubPart.dpLow].all F.parts.contains = true := by decide) :
    Moves F h₀ { h with dpLow := v } := x.set [.dpLow] hF
theorem Moves.dpHigh (x : Moves F h₀ h) (v : Vector (Option (Nat × Nat)) 8) (hF : [HubPart.dpHigh].all F.parts.contains = true := by decide) :
    Moves F h₀ { h with dpHigh := v } := x.set [.dpHigh] hF
theorem Moves.lsy (x : Moves F h₀ h) (v : Lsy) (hF : [HubPart.lsy].all F.parts.contains = true := by decide) :
    Moves F h₀ { h with lsy := v } := x.set [.lsy] hF
theorem Moves.wds (x : Moves F h₀ h) (v : Vector Wd 9) (hF : [HubPart.wds].all F.parts.contains = true := by decide) :
    Moves F h₀ { h with wds := v } := x.set [.wds] hF
theorem Moves.wdo (x : Moves F h₀ h) (v : Wdo) (hF : [HubPart.wdo].all F.parts.contains = true := by decide) :
    Moves F h₀ { h with wdo := v } := x.set [.wdo] hF
theorem Moves.bst (x : Moves F h₀ h) (v : Bst) (hF : [HubPart.bst].all F.parts.contains = true := by decide) :
    Moves F h₀ { h with bst := v } := x.set [.bst] hF
theorem Moves.life (x : Moves F h₀ h) (v : Life) (hF : [HubPart.life].all F.parts.contains = true := by decide) :
    Moves F h₀ { h with life := v } := x.set [.life] hF
theorem Moves.blk (x : Moves F h₀ h) (v : Blk) (hF : [HubPart.blk].all F.parts.contains = true := by decide) :
    Moves F h₀ { h with blk := v } := x.set [.blk] hF
theorem Moves.nvm (x : Moves F h₀ h) (v : Vector NvmDev 2) (hc : HubPart.canon.same h { h with nvm := v }) (hF : [HubPart.nvm].all F.parts.contains = true := by decide) :
    Moves F h₀ { h with nvm := v } := x.set [.nvm] hF
theorem Moves.nvmOp (x : Moves F h₀ h) (v : Option NvmOp) (hF : [HubPart.nvmOp].all F.parts.contains = true := by decide) :
    Moves F h₀ { h with nvmOp := v } := x.set [.nvmOp] hF
theorem Moves.nvmQ (x : Moves F h₀ h) (v : List NvmOp) (hF : [HubPart.nvmQ].all F.parts.contains = true := by decide) :
    Moves F h₀ { h with nvmQ := v } := x.set [.nvmQ] hF
theorem Moves.fieldReset (x : Moves F h₀ h) (v : Nat) (hF : [HubPart.fieldReset].all F.parts.contains = true := by decide) :
    Moves F h₀ { h with fieldReset := v } := x.set [.fieldReset] hF
theorem Moves.fieldSince (x : Moves F h₀ h) (v : Nat) (hF : [HubPart.fieldSince].all F.parts.contains = true := by decide) :
    Moves F h₀ { h with fieldSince := v } := x.set [.fieldSince] hF
theorem Moves.free (x : Moves F h₀ h) (v : Nat) (hF : [HubPart.free].all F.parts.contains = true := by decide) :
    Moves F h₀ { h with free := v } := x.set [.free] hF


theorem Moves.armed_blk (x : Moves F h₀ h) (v1 : List (Nat × Nat)) (v2 : Blk)
    (hF : [HubPart.armed, .blk].all F.parts.contains = true := by decide) :
    Moves F h₀ { h with armed := v1, blk := v2 } := x.set [.armed, .blk] hF
theorem Moves.chip_blk (x : Moves F h₀ h) (v1 : Chip) (v2 : Blk)
    (hF : [HubPart.chip, .blk].all F.parts.contains = true := by decide) :
    Moves F h₀ { h with chip := v1, blk := v2 } := x.set [.chip, .blk] hF
theorem Moves.clk_hinge (x : Moves F h₀ h) (v1 : Clk) (v2 : Hinge)
    (hF : [HubPart.clk, .hinge].all F.parts.contains = true := by decide) :
    Moves F h₀ { h with clk := v1, hinge := v2 } := x.set [.clk, .hinge] hF
theorem Moves.dev_blk (x : Moves F h₀ h) (v1 : Dev) (v2 : Blk)
    (hw : h.ward 0 ≠ .held → vget v1.wards 0 .absent ≠ .held := by exact id)
    (hF : [HubPart.dev, .blk].all F.parts.contains = true := by decide) :
    Moves F h₀ { h with dev := v1, blk := v2 } := x.set [.dev, .blk] hF
theorem Moves.dev_bst (x : Moves F h₀ h) (v1 : Dev) (v2 : Bst)
    (hw : h.ward 0 ≠ .held → vget v1.wards 0 .absent ≠ .held := by exact id)
    (hF : [HubPart.dev, .bst].all F.parts.contains = true := by decide) :
    Moves F h₀ { h with dev := v1, bst := v2 } := x.set [.dev, .bst] hF
theorem Moves.dev_hinge (x : Moves F h₀ h) (v1 : Dev) (v2 : Hinge)
    (hw : h.ward 0 ≠ .held → vget v1.wards 0 .absent ≠ .held := by exact id)
    (hF : [HubPart.dev, .hinge].all F.parts.contains = true := by decide) :
    Moves F h₀ { h with dev := v1, hinge := v2 } := x.set [.dev, .hinge] hF
theorem Moves.dev_life (x : Moves F h₀ h) (v1 : Dev) (v2 : Life)
    (hw : h.ward 0 ≠ .held → vget v1.wards 0 .absent ≠ .held := by exact id)
    (hF : [HubPart.dev, .life].all F.parts.contains = true := by decide) :
    Moves F h₀ { h with dev := v1, life := v2 } := x.set [.dev, .life] hF
theorem Moves.dev_ret (x : Moves F h₀ h) (v1 : Dev) (v2 : Retained)
    (hw : h.ward 0 ≠ .held → vget v1.wards 0 .absent ≠ .held := by exact id)
    (hF : [HubPart.dev, .ret].all F.parts.contains = true := by decide) :
    Moves F h₀ { h with dev := v1, ret := v2 } := x.set [.dev, .ret] hF
theorem Moves.dev_sup (x : Moves F h₀ h) (v1 : Dev) (v2 : Sup)
    (hw : h.ward 0 ≠ .held → vget v1.wards 0 .absent ≠ .held := by exact id)
    (hF : [HubPart.dev, .sup].all F.parts.contains = true := by decide) :
    Moves F h₀ { h with dev := v1, sup := v2 } := x.set [.dev, .sup] hF
theorem Moves.eng_dpLow_dpHigh (x : Moves F h₀ h) (v1 : OpsEng) (v2 : Vector (Option (Nat × Nat)) 8) (v3 : Vector (Option (Nat × Nat)) 8)
    (hF : [HubPart.eng, .dpLow, .dpHigh].all F.parts.contains = true := by decide) :
    Moves F h₀ { h with eng := v1, dpLow := v2, dpHigh := v3 } := x.set [.eng, .dpLow, .dpHigh] hF
theorem Moves.fieldReset_fieldSince (x : Moves F h₀ h) (v1 : Nat) (v2 : Nat)
    (hF : [HubPart.fieldReset, .fieldSince].all F.parts.contains = true := by decide) :
    Moves F h₀ { h with fieldReset := v1, fieldSince := v2 } := x.set [.fieldReset, .fieldSince] hF
theorem Moves.hinge_bst (x : Moves F h₀ h) (v1 : Hinge) (v2 : Bst)
    (hF : [HubPart.hinge, .bst].all F.parts.contains = true := by decide) :
    Moves F h₀ { h with hinge := v1, bst := v2 } := x.set [.hinge, .bst] hF
theorem Moves.hinge_dbt (x : Moves F h₀ h) (v1 : Hinge) (v2 : Dbt)
    (hF : [HubPart.hinge, .dbt].all F.parts.contains = true := by decide) :
    Moves F h₀ { h with hinge := v1, dbt := v2 } := x.set [.hinge, .dbt] hF
theorem Moves.hinge_ins (x : Moves F h₀ h) (v1 : Hinge) (v2 : Vector InCh 16)
    (hF : [HubPart.hinge, .ins].all F.parts.contains = true := by decide) :
    Moves F h₀ { h with hinge := v1, ins := v2 } := x.set [.hinge, .ins] hF
theorem Moves.mem_bad (x : Moves F h₀ h) (v1 : List Host.Cell) (v2 : List Nat) (hc : HubPart.canon.same h { h with mem := v1 })
    (hF : [HubPart.mem, .bad].all F.parts.contains = true := by decide) :
    Moves F h₀ { h with mem := v1, bad := v2 } := x.set [.mem, .bad] hF
theorem Moves.nvmOp_nvmQ (x : Moves F h₀ h) (v1 : Option NvmOp) (v2 : List NvmOp)
    (hF : [HubPart.nvmOp, .nvmQ].all F.parts.contains = true := by decide) :
    Moves F h₀ { h with nvmOp := v1, nvmQ := v2 } := x.set [.nvmOp, .nvmQ] hF
theorem Moves.ret_fol_wdo (x : Moves F h₀ h) (v1 : Retained) (v2 : Follow) (v3 : Wdo)
    (hF : [HubPart.ret, .fol, .wdo].all F.parts.contains = true := by decide) :
    Moves F h₀ { h with ret := v1, fol := v2, wdo := v3 } := x.set [.ret, .fol, .wdo] hF
theorem Moves.ret_life (x : Moves F h₀ h) (v1 : Retained) (v2 : Life)
    (hF : [HubPart.ret, .life].all F.parts.contains = true := by decide) :
    Moves F h₀ { h with ret := v1, life := v2 } := x.set [.ret, .life] hF
theorem Moves.ret_recd (x : Moves F h₀ h) (v1 : Retained) (v2 : Rec)
    (hF : [HubPart.ret, .recd].all F.parts.contains = true := by decide) :
    Moves F h₀ { h with ret := v1, recd := v2 } := x.set [.ret, .recd] hF
theorem Moves.sch_eng_wdo (x : Moves F h₀ h) (v1 : Sch) (v2 : OpsEng) (v3 : Wdo)
    (hF : [HubPart.sch, .eng, .wdo].all F.parts.contains = true := by decide) :
    Moves F h₀ { h with sch := v1, eng := v2, wdo := v3 } := x.set [.sch, .eng, .wdo] hF
theorem Moves.sch_lsy (x : Moves F h₀ h) (v1 : Sch) (v2 : Lsy)
    (hF : [HubPart.sch, .lsy].all F.parts.contains = true := by decide) :
    Moves F h₀ { h with sch := v1, lsy := v2 } := x.set [.sch, .lsy] hF
theorem Moves.tmbs_aux (x : Moves F h₀ h) (v1 : Vector Tmb 8) (v2 : Vector Aux 4)
    (hF : [HubPart.tmbs, .aux].all F.parts.contains = true := by decide) :
    Moves F h₀ { h with tmbs := v1, aux := v2 } := x.set [.tmbs, .aux] hF
theorem Moves.dev_sup_wdo_nvmOp (x : Moves F h₀ h) (v1 : Dev) (v2 : Sup) (v3 : Wdo) (v4 : Option NvmOp)
    (hw : h.ward 0 ≠ .held → vget v1.wards 0 .absent ≠ .held := by exact id)
    (hF : [HubPart.dev, .sup, .wdo, .nvmOp].all F.parts.contains = true := by decide) :
    Moves F h₀ { h with dev := v1, sup := v2, wdo := v3, nvmOp := v4 } := x.set [.dev, .sup, .wdo, .nvmOp] hF

theorem Moves.clk_hinge_outs_ins_dbt_sch_flt_life (x : Moves F h₀ h) (v1 : Clk) (v2 : Hinge) (v3 : Vector OutCh 16)
    (v4 : Vector InCh 16) (v5 : Dbt) (v6 : Sch) (v7 : Flt) (v8 : Life)
    (hx : h.flt.fresh = true → v7.fresh = true := by exact id)
    (hF : [HubPart.clk, .hinge, .outs, .ins, .dbt, .sch, .flt, .life].all F.parts.contains = true := by decide) :
    Moves F h₀ { h with clk := v1, hinge := v2, outs := v3, ins := v4, dbt := v5, sch := v6, flt := v7, life := v8 } :=
  x.set [.clk, .hinge, .outs, .ins, .dbt, .sch, .flt, .life] hF
theorem Moves.regs_dev_sup_wdo_nvmOp (x : Moves F h₀ h) (v0 : List (Nat × Nat)) (v1 : Dev) (v2 : Sup) (v3 : Wdo) (v4 : Option NvmOp)
    (hw : h.ward 0 ≠ .held → vget v1.wards 0 .absent ≠ .held := by exact id)
    (hR : F.parts.contains .regs = true := by decide) (hF : [HubPart.dev, .sup, .wdo, .nvmOp].all F.parts.contains = true := by decide) :
    Moves F h₀ { h with regs := v0, dev := v1, sup := v2, wdo := v3, nvmOp := v4 } :=
  (x.anyRegs v0 hR).dev_sup_wdo_nvmOp v1 v2 v3 v4 hw hF
theorem Moves.regs_ret_fol_wdo (x : Moves F h₀ h) (v0 : List (Nat × Nat)) (v1 : Retained) (v2 : Follow) (v3 : Wdo)
    (hR : F.parts.contains .regs = true := by decide) (hF : [HubPart.ret, .fol, .wdo].all F.parts.contains = true := by decide) :
    Moves F h₀ { h with regs := v0, ret := v1, fol := v2, wdo := v3 } :=
  (x.anyRegs v0 hR).ret_fol_wdo v1 v2 v3 hF

/-- The mark of a first fault captured is no part of the collector's footprint. -/
theorem Moves.fresh (x : Moves F h₀ h) (b : Bool) (hb : h.flt.fresh = true → b = true := by exact fun _ => rfl) :
    Moves F h₀ { h with flt := { h.flt with fresh := b } } :=
  x.trans ⟨fun p _ => by
    cases p
    case canon | keeper => exact id
    case mark => exact hb
    all_goals trivial, fun _ _ => rfl⟩

end

end Sys2Proof.Machine

/-!
PROOF. The footprints of the operations that every family of commands shares, up to the reactions to a fault.
-/

namespace Sys2Proof.Machine

/-! ### Bounds of owners, halves and lists -/

theorem bitList_lt {n v c : Nat} (hc : c ∈ bitList n v) : c < n := List.mem_range.mp (List.mem_filter.mp hc).1

theorem lead_lt {h : Hub} {c n : Nat} (hc : c < n) : h.lead c < n := by
  unfold Hub.lead
  split <;> omega

theorem fLead_lt {h : Hub} {c n : Nat} (hc : c < n) : h.fLead c < n := by
  unfold Hub.fLead
  split <;> omega

/-! ### Named updates, memory, records and interrupts -/

theorem modOut_moves (h : Hub) (c : Nat) (f : OutCh → OutCh) : Moves ⟨[.outs], [], []⟩ h (h.modOut c f) :=
  (Moves.refl _ h).outs _

theorem modIn_moves (h : Hub) (c : Nat) (f : InCh → InCh) : Moves ⟨[.ins], [], []⟩ h (h.modIn c f) :=
  (Moves.refl _ h).ins _

theorem modTmb_moves (h : Hub) (t : Nat) (f : Tmb → Tmb) : Moves ⟨[.tmbs], [], []⟩ h (h.modTmb t f) :=
  (Moves.refl _ h).tmbs _

theorem modLane_moves (h : Hub) (l : Nat) (f : LaneSt → LaneSt) : Moves ⟨[.hinge], [], []⟩ h (h.modLane l f) :=
  (Moves.refl _ h).hinge _

/-- A ward but the Keeper's can become *Held*. -/
theorem setWard_moves (h : Hub) (w : Nat) (x : WardState) (hx : w = 0 → x ≠ .held := by intro _; decide) :
    Moves ⟨[.dev], [], []⟩ h (h.setWard w x) := by
  refine (Moves.refl _ h).dev _ fun hk => ?_
  by_cases hw : w = 0
  · subst hw
    exact fun he => hx rfl ((Hub.ward_setWard_self h 0 x (by decide)).symm.trans he)
  · exact fun he => hk ((Hub.ward_setWard_ne (Ne.symm hw)).symm.trans he)

theorem modPort_moves (h : Hub) (p : Nat) (f : Port → Port) : Moves ⟨[.ports], [], []⟩ h (h.modPort p f) :=
  (Moves.refl _ h).ports _

theorem modBank_moves (h : Hub) (b : Nat) (f : Bank → Bank) : Moves ⟨[.banks], [], []⟩ h (h.modBank b f) :=
  (Moves.refl _ h).banks _

theorem modWd_moves (h : Hub) (k : Nat) (f : Wd → Wd) : Moves ⟨[.wds], [], []⟩ h (h.modWd k f) :=
  (Moves.refl _ h).wds _

theorem modInt_moves (h : Hub) (w : Nat) (f : WardInt → WardInt) : Moves ⟨[.ints], [], []⟩ h (h.modInt w f) :=
  (Moves.refl _ h).ints _

theorem modPin_moves (h : Hub) (p : Nat) (f : PinPulse → PinPulse) : Moves ⟨[.pins], [], []⟩ h (h.modPin p f) :=
  (Moves.refl _ h).pins _

theorem freeNat_moves (h : Hub) (w : Nat) : Moves ⟨[.free], [], []⟩ h (h.freeNat w).2 :=
  (Moves.refl _ h).free _

theorem setMemWord_moves (h : Hub) (a v : Nat) : Moves ⟨[.mem, .bad], [], []⟩ h (h.setMemWord a v) :=
  (Moves.refl _ h).mem_bad _ _ fun ⟨hm, hv⟩ => ⟨setMemWord_wf a v hm, hv⟩

theorem clearMem_moves (h : Hub) (lo hi : Nat) : Moves ⟨[.mem, .bad], [], []⟩ h (h.clearMem lo hi) :=
  (Moves.refl _ h).mem_bad _ _ fun ⟨hm, hv⟩ => ⟨clearMem_wf lo hi hm, hv⟩

theorem clearBank_moves (h : Hub) (b : Nat) : Moves ⟨[.mem, .bad], [], []⟩ h (h.clearBank b) :=
  (Moves.refl _ h).to (clearMem_moves _ _ _)

/-- The hub's NVM devices stay canonical where the new content of one is. -/
theorem canon_setNvm {h : Hub} {d : Nat} {v : NvmDev}
    (hv : Memory.wf 0xFF (h.nvmDev d).mem = true → Memory.wf 0xFF v.mem = true) :
    HubPart.canon.same h { h with nvm := vset h.nvm d v } := by
  rintro ⟨hm, hn⟩
  refine ⟨hm, ?_⟩
  simp only [vset, Vector.toList_setIfInBounds, List.all_eq_true] at hn ⊢
  intro x hx
  rcases List.mem_or_eq_of_mem_set hx with hold | rfl
  · exact hn x hold
  · refine hv ?_
    rw [Hub.nvmDev, vget]
    by_cases hd : d < 2
    · rw [Vector.getElem?_eq_getElem hd]
      exact hn _ (Vector.mem_toList_iff.mpr (Vector.getElem_mem hd))
    · rw [Vector.getElem?_eq_none (Nat.not_lt.mp hd)]
      rfl

theorem onNvm_moves (h : Hub) (both : Bool) (f g : NvmDev → NvmDev)
    (hf : ∀ v : NvmDev, Memory.wf 0xFF v.mem = true → Memory.wf 0xFF (f v).mem = true)
    (hg : ∀ v : NvmDev, Memory.wf 0xFF v.mem = true → Memory.wf 0xFF (g v).mem = true) :
    Moves ⟨[.nvm], [], []⟩ h (h.onNvm both f g) := by
  unfold Hub.onNvm
  extract_lets only1 h1
  have y : Moves ⟨[.nvm], [], []⟩ h h1 := .ite (Moves.refl _ h) ((Moves.refl _ h).nvm _ (canon_setNvm (hf _)))
  have hsame : h1.nvmDev 1 = h.nvmDev 1 := by
    dsimp only [h1]
    split
    · rfl
    · exact vget_vset_ne (by decide)
  exact .ite (y.nvm _ (canon_setNvm fun hm => hg _ (hsame ▸ hm))) y

theorem countDrop_moves (h : Hub) (sev : Nat) : Moves ⟨[], [REC_DROPS0_note, REC_DROPS0_trace, REC_DROPS1_fault,
    REC_DROPS1_warning, REC_DROPS2_safety], []⟩ h (h.countDrop sev) := by
  unfold Hub.countDrop
  split
  · exact (Moves.refl _ h).count _ _ _ _
  · exact (Moves.refl _ h).count _ _ _ _
  · exact (Moves.refl _ h).count _ _ _ _
  · exact (Moves.refl _ h).count _ _ _ _
  · exact (Moves.refl _ h).count _ _ _ _

theorem dropEvent_moves (h : Hub) (e : RecEvent) : Moves ⟨[.recd], [REC_DROPS0_note, REC_DROPS0_trace, REC_DROPS1_fault,
    REC_DROPS1_warning, REC_DROPS2_safety], []⟩ h (h.dropEvent e) :=
  ((Moves.refl _ h).to (countDrop_moves _ _)).recd _

theorem giveSeq_moves (h : Hub) : Moves ⟨[.ret], [REC_STAT_exhausted], []⟩ h (h.giveSeq).2 := by
  unfold Hub.giveSeq
  split
  · exact ((Moves.refl _ h).ret _).put _ _ _ _
  · exact (Moves.refl _ h)

theorem fifoIn_moves (h : Hub) (e : RecEvent) : Moves ⟨[.recd], [REC_DROPS0_note, REC_DROPS0_trace, REC_DROPS1_fault,
    REC_DROPS1_warning, REC_DROPS2_safety], []⟩ h (h.fifoIn e) :=
  .ite ((Moves.refl _ h).recd _) (.ite ((Moves.refl _ h).to (dropEvent_moves _ _)) (by
  split
  · exact ((Moves.refl _ h).recd _).to (dropEvent_moves _ _)
  · exact (Moves.refl _ h).to (dropEvent_moves _ _)))

theorem intake_moves (h : Hub) (e : RecEvent) : Moves ⟨[.ret, .recd, .bst], noteFlds, []⟩ h (h.intake e) :=
  .ite (Moves.refl _ h) (.ite (.ite ((Moves.refl _ h).bst _) ((((Moves.refl _ h).count _ _ _ _).to
    (countDrop_moves _ _)).recd _)) (((Moves.refl _ h).to (giveSeq_moves _)).to (fifoIn_moves _ _)))

theorem note_moves (h : Hub) (typ source sev len : Nat) (payload : List Nat) (ward : Nat) : Moves ⟨[.ret, .recd, .bst],
    noteFlds, []⟩ h (h.note typ source sev len payload ward) :=
  (Moves.refl _ h).to (intake_moves _ _)

theorem intRelease_moves (h : Hub) (w : Nat) (hw : w < 8) : Moves ⟨[.ints, .pins], [INT_CNT_count], []⟩ h (h.intRelease w) :=
  .bind (((Moves.refl _ h).to (modInt_moves _ _ _)).countMod _ _ _ _ hw) fun y => .ite y (y.to (modPin_moves _ _ _))

theorem intFire_moves (h : Hub) (w : Nat) (was : Bool) (hw : w < 8) : Moves ⟨[.ints, .pins], [INT_CNT_count], []⟩ h
    (h.intFire w was) :=
  .ite (Moves.refl _ h) (.ite (Moves.refl _ h) (.ite ((Moves.refl _ h).to (intRelease_moves _ _ hw)) ((Moves.refl _ h).to
    (modInt_moves _ _ _))))

/-- A ward that is none of the eight has no interrupts. -/
theorem ward_of_ge {h : Hub} {w : Nat} (hw : 8 ≤ w) : h.ward w = .absent := by
  unfold Hub.ward vget
  rw [Vector.getElem?_eq_none hw, Option.getD_none]

theorem intEvent_moves (h : Hub) (w bit : Nat) : Moves ⟨[.ints, .pins], intFlds, []⟩ h (h.intEvent w bit) := by
  by_cases hw : w < 8
  · exact .ite (.bind ((Moves.refl _ h).wr _ _ _ _ hw) fun y => .ite (y.to (intFire_moves _ _ _ hw)) y) (Moves.refl _ h)
  · unfold Hub.intEvent
    rw [ward_of_ge (Nat.le_of_not_lt hw), if_neg (by simp)]
    exact Moves.refl _ h

theorem intAll_moves (h : Hub) (bit : Nat) : Moves ⟨[.ints, .pins], intFlds, []⟩ h (h.intAll bit) :=
  (Moves.refl _ h).forAll fun _ _ _ => (Moves.refl _ _).to (intEvent_moves _ _ _)

theorem intOwner_moves (h : Hub) (o : Option Nat) (bit : Nat) : Moves ⟨[.ints, .pins], intFlds, []⟩ h (h.intOwner o bit) := by
  cases o with
  | none => exact Moves.refl _ h
  | some w => exact intEvent_moves h w bit

theorem freeBytes_moves (h : Hub) (n : Nat) : Moves ⟨[.free], [], []⟩ h (h.freeBytes n).2 := by
  induction n generalizing h with
  | zero => exact Moves.refl _ h
  | succ n ih => exact (freeNat_moves h 8).trans (ih _)

/-! ### Fields named by an index -/

theorem clearForces_moves (h : Hub) : Moves ⟨[], forceFlds, []⟩ h h.clearForces := by
  have hforce : ∀ n : Fin 62, Foot.holds ⟨[], forceFlds, []⟩ (FLT_FORCE_force n) = true := by decide +kernel
  have hcount : ∀ n : Fin 62, 0 < (FLT_FORCE_force n).count := by decide +kernel
  refine (Moves.refl _ h).forAll fun _ n hn => ?_
  exact (Moves.refl _ _).put _ _ _ _ (hcount ⟨n, List.mem_range.mp hn⟩) (hforce ⟨n, List.mem_range.mp hn⟩)

theorem syncOutFlt_moves (h : Hub) (c : Nat) (hc : c < 16) : Moves ⟨[], outFltFlds, []⟩ h (h.syncOutFlt c) := by
  have hflt : ∀ b : Fin 12, Foot.holds ⟨[], outFltFlds, []⟩ (outFltFlds.getD b OUT_FLT_open_off) = true := by decide +kernel
  have hcount : ∀ b : Fin 12, (outFltFlds.getD b OUT_FLT_open_off).count = 16 := by decide +kernel
  refine Moves.ite (Moves.refl _ h) ((Moves.refl _ h).foldl fun _ b hb => ?_)
  have hb : b < 12 := List.mem_range.mp hb
  exact (Moves.refl _ _).put _ _ _ _ (by rw [hcount ⟨b, hb⟩]; exact hc) (hflt ⟨b, hb⟩)

theorem syncOutFlt_movesAny (h : Hub) (c : Nat) : Moves ⟨[.regs], [], []⟩ h (h.syncOutFlt c) :=
  .ite (Moves.refl _ h) ((Moves.refl _ h).foldl fun _ _ _ => (Moves.refl _ _).putAny _ _ _ _)

/-- A reset of the logic die leaves the fuses, the NVM devices with an operation under way, and the free values. -/
theorem logicReset_moves (h : Hub) : Moves ⟨[.regs, .armed, .kept, .dev, .sup, .fol, .clk, .hinge, .outs, .ins, .dbt, .tmbs,
    .aux, .sch, .recd, .flt, .ints, .pins, .ports, .eng, .banks, .mem, .bad, .dpLow, .dpHigh, .lsy, .wds, .wdo, .bst, .life,
    .blk, .nvmQ, .fieldReset, .fieldSince, .mark], [], []⟩ h h.logicReset := by
  refine ⟨fun p hp => ?_, fun _ hk => Bool.noConfusion hk⟩
  cases p
  case chip | ret | nvm | nvmOp | free => rfl
  case canon => exact fun ⟨_, hn⟩ => ⟨rfl, hn⟩
  case keeper => exact fun _ => WardState.noConfusion
  all_goals exact Bool.noConfusion hp

end Sys2Proof.Machine

/-!
PROOF. The footprints of the operations that every family of commands shares: stops, safe states, *Safe*, the occurrence of a
fault with its reactions, the channels' switches, and what follows by itself after a command.
-/

namespace Sys2Proof.Machine

set_option Elab.async false

theorem intEnd_moves (h : Hub) (w : Nat) : Moves ⟨[.ints], [], []⟩ h (h.intEnd w) :=
  .ite (Moves.refl _ h) ((Moves.refl _ h).to (modInt_moves _ _ _))

theorem sendL_moves (h : Hub) (f : HFrame) : Moves ⟨[.hinge], [], []⟩ h (h.sendL f) :=
  .ite ((Moves.refl _ h).hinge _) (Moves.refl _ h)

theorem sendF_moves (h : Hub) (f : HFrame) : Moves ⟨[.hinge], [], []⟩ h (h.sendF f) :=
  .ite ((Moves.refl _ h).hinge _) (Moves.refl _ h)

theorem landOn_moves (h : Hub) (l typ payload : Nat) : Moves ⟨[.hinge], [], []⟩ h (h.landOn l typ payload) :=
  .ite ((Moves.refl _ h).to (modLane_moves _ _ _)) (.ite ((Moves.refl _ h).hinge _) ((Moves.refl _ h).hinge _))

theorem land_moves (h : Hub) (field : Bool) (typ payload : Nat) : Moves ⟨[.hinge], [], []⟩ h (h.land field typ payload) :=
  (Moves.refl _ h).to (landOn_moves _ _ _ _)

theorem newGen_moves (h : Hub) (g : Nat) (urgent : Bool) : Moves ⟨[.hinge], [], []⟩ h (h.newGen g urgent) :=
  .ite (Moves.refl _ h) (.ite ((Moves.refl _ h).hinge _) (((Moves.refl _ h).hinge _).to (sendL_moves _ _)))

theorem command_moves (h : Hub) (chs : List Nat) (code : Nat) (urgent : Bool) : Moves ⟨[.hinge], [], []⟩ h
    (h.command chs code urgent) :=
  .bind ((Moves.refl _ h).hinge _) fun y => .bind (.ite (y.to (newGen_moves _ _ _)) y) fun y1 => .ite (y1.to
    (newGen_moves _ _ _)) y1

theorem sendReq_moves (h : Hub) (r : Txn) : Moves ⟨[.hinge], [], []⟩ h (h.sendReq r) :=
  (Moves.refl _ h).hinge _

theorem request_moves (h : Hub) (what : ReqKind) (port : Option (Nat × Nat)) (slot : Option Nat) : Moves ⟨[.hinge], [],
    []⟩ h (h.request what port slot) :=
  .ite (Moves.refl _ h) (.ite ((Moves.refl _ h).to (sendReq_moves _ _)) ((Moves.refl _ h).hinge _))

theorem dropCand_moves (h : Hub) (p : Cand → Bool) : Moves ⟨[.sch], [SCH_STAT_queued], []⟩ h (h.dropCand p) :=
  ((Moves.refl _ h).sch _).wr _ _ _ _

theorem dropHeavy_moves (h : Hub) (c : Nat) : Moves ⟨[.tmbs, .sch], [SCH_STAT_queued], []⟩ h (h.dropHeavy c) :=
  (Moves.ite (Moves.refl _ h) ((Moves.refl _ h).to (dropCand_moves _ _))).forAll fun _ _ _ => (Moves.refl _ _).to
    (modTmb_moves _ _ _)

theorem setSafeHold_moves (h : Hub) (c : Nat) (hc : c < 16) : Moves ⟨[.hinge, .outs, .tmbs, .sch, .ints, .pins],
    intFlds ++ [OUT_STAT_pending, OUT_STAT_safe_hold, SCH_STAT_queued], []⟩ h (h.setSafeHold c) :=
  .bind ((((((Moves.refl _ h).to (dropCand_moves _ _)).to (dropHeavy_moves _ _)).to
    (modOut_moves _ _ _)).put _ _ _ _ hc).hinge _) fun y2 => .ite y2 ((y2.put _ _ _ _ hc).to (intOwner_moves _ _ _))

theorem sendSafe_moves (h : Hub) (chs : List Nat) (hchs : ∀ c ∈ chs, c < 16) : Moves ⟨[.hinge, .outs, .tmbs, .sch, .ints,
    .pins], intFlds ++ [OUT_STAT_pending, OUT_STAT_safe_hold, SCH_STAT_queued], []⟩ h (h.sendSafe chs) :=
  .bind ((Moves.refl _ h).forAll fun _ _ hc => (Moves.refl _ _).to (setSafeHold_moves _ _ (hchs _
    (List.mem_filter.mp hc).1))) fun y1 => .ite y1 (y1.to (command_moves _ _ _ _))

theorem retire_moves (h : Hub) (slot code r0 r1 : Nat) : Moves ⟨[.eng], [], []⟩ h (h.retire slot code r0 r1) :=
  (Moves.refl _ h).eng _

theorem tmbRetire_moves (h : Hub) (t at_ : Nat) : Moves ⟨[.eng], [], []⟩ h (h.tmbRetire t at_) :=
  (Moves.refl _ h).eng _

theorem freeMem_moves (h : Hub) (a n : Nat) : Moves ⟨[.mem, .free], [], []⟩ h (h.freeMem a n) :=
  ((Moves.refl _ h).to (freeBytes_moves _ _)).mem _ fun ⟨hm, hv⟩ => ⟨memory_wf_cellsSet a _ hm, hv⟩

theorem marchAbandon_moves (h : Hub) (t : Nat) (ht : t < 8) : Moves ⟨[.mem, .free], [TMB_MARCH_CNT_count,
    TMB_MARCH_FIRST_addr, TMB_MARCH_FIRST_valid, TMB_MARCH_SIG_sig], []⟩ h (h.marchAbandon t) := by
  unfold Hub.marchAbandon
  split
  · exact (Moves.refl _ h)
  · exact (((((((((Moves.refl _ h).to (freeMem_moves _ _ _)).to (freeNat_moves _ _)).wr _ _ _ _ ht).to
      (freeNat_moves _ _)).wr _ _ _ _ ht).to (freeNat_moves _ _)).wr _ _ _ _ ht).to (freeNat_moves _ _)).wr _ _ _ _ ht

theorem tmbStop_moves (h : Hub) (t cause : Nat) (release : Bool) (ht : t < 8) : Moves ⟨[.hinge, .tmbs, .sch, .ints, .pins,
    .eng, .mem, .free], intFlds ++ stopFlds ++ [SCH_STAT_queued, TMB_MARCH_CNT_count, TMB_MARCH_FIRST_addr,
    TMB_MARCH_FIRST_valid, TMB_MARCH_SIG_sig], []⟩ h (h.tmbStop t cause release) :=
  .bind ((Moves.refl _ h).to (marchAbandon_moves _ _ ht)) fun y => .bind ((Moves.ite ((y.wr _ _ _ _ ht).to
    (sendL_moves _ _)) y).to (modTmb_moves _ _ _)) fun y2 => .ite ((((((((y2.to
    (dropCand_moves _ _)).wr _ _ _ _ ht).wr _ _ _ _ ht).put _ _ _ _ ht).put _ _ _ _ ht).put _ _ _ _ ht).to
    (tmbRetire_moves _ _ _)).to (intOwner_moves _ _ _)) y2

theorem closePages_moves (h : Hub) (w pages : Nat) (hw : w < 8) : Moves ⟨[], forceFlds ++ [WRD_EXP_OPEN_open], []⟩ h
    (h.closePages w pages) :=
  .bind ((Moves.refl _ h).wr _ _ _ _ hw) fun y => .ite (y.to (clearForces_moves _)) y

theorem closeSafetyPages_moves (h : Hub) : Moves ⟨[], forceFlds ++ [WRD_EXP_OPEN_open], []⟩ h (h.closeSafetyPages) :=
  (Moves.refl _ h).forAll fun _ _ hw => (Moves.refl _ _).to (closePages_moves _ _ _ (List.mem_range.mp hw))

theorem wantTone_moves (h : Hub) (t : Tone) : Moves ⟨[.hinge], [], []⟩ h (h.wantTone t) :=
  .ite (Moves.refl _ h) ((Moves.refl _ h).hinge _)

theorem abandonProof_moves (h : Hub) : Moves ⟨[.dbt], [], []⟩ h (h.abandonProof) :=
  (Moves.refl _ h).dbt _

theorem endTest_moves (h : Hub) (result : Nat) : Moves ⟨[.dev, .bst], testFlds, []⟩ h (h.endTest result) :=
  .bind (((((Moves.refl _ h).wr _ _ _ _).wr _ _ _ _).put _ _ _ _).count _ _ _ _) fun y1 => ((Moves.ite
    (y1.count _ _ _ _) y1).wr _ _ _ _).dev_bst _ _

theorem bistRecord_moves (h : Hub) : Moves ⟨[.ret, .recd, .bst], noteFlds, []⟩ h (h.bistRecord) :=
  (Moves.refl _ h).to (note_moves _ _ _ _ _ _ _)

theorem wdStart_moves (h : Hub) (k : Nat) : Moves ⟨[.wds, .free], [], []⟩ h (h.wdStart k) :=
  .ite (((Moves.refl _ h).to (freeNat_moves _ _)).to (modWd_moves _ _ _)) ((Moves.refl _ h).to (modWd_moves _ _ _))

theorem wdStartAll_moves (h : Hub) : Moves ⟨[.wds, .free], [], []⟩ h (h.wdStartAll) :=
  (Moves.refl _ h).forAll fun _ _ _ => (Moves.refl _ _).to (wdStart_moves _ _)

theorem abortTest_moves (h : Hub) : Moves ⟨[.dev, .ret, .recd, .ints, .pins, .wds, .bst, .free],
    intFlds ++ noteFlds ++ testFlds, []⟩ h (h.abortTest) :=
  .ite (((((Moves.refl _ h).to (endTest_moves _ _)).to (bistRecord_moves _)).to (wdStartAll_moves _)).to
    (intEvent_moves _ _ _)) (Moves.refl _ h)

theorem cancelBist_moves (h : Hub) : Moves ⟨[.sch, .ints, .pins], intFlds ++ [BST_STAT_busy, BST_STAT_result,
    SCH_STAT_queued], []⟩ h (h.cancelBist) :=
  .ite (((((Moves.refl _ h).to (dropCand_moves _ _)).put _ _ _ _).wr _ _ _ _).to (intEvent_moves _ _ _)) (Moves.refl _ h)

theorem noBoltRel_moves (h : Hub) : Moves ⟨[.hinge], [], []⟩ h (h.noBoltRel) :=
  (Moves.refl _ h).hinge _

/-! ### Entry to *Safe* and the reactions to a fault -/

/-- What an entry to *Safe* and a ward's *Held* state reach. -/
def safeFoot : Foot := ⟨[.dev, .ret, .hinge, .outs, .dbt, .tmbs, .sch, .recd, .ints, .pins, .eng, .mem, .wds, .bst, .free],
  forceFlds ++ intFlds ++ noteFlds ++ stopFlds ++ testFlds ++ [DBT_SAFE_CAUSE_entries, DBT_SAFE_CAUSE_source,
  OUT_STAT_pending, OUT_STAT_safe_hold, SCH_STAT_queued, TMB_MARCH_CNT_count, TMB_MARCH_FIRST_addr, TMB_MARCH_FIRST_valid,
  TMB_MARCH_SIG_sig, WRD_EXP_OPEN_open], []⟩

theorem enterSafe_moves (h : Hub) (n : Nat) : Moves safeFoot h (h.enterSafe n) :=
  .ite (Moves.refl _ h) (.ite (((((Moves.refl _ h).dev _).to (noBoltRel_moves _)).to (wantTone_moves _ _)).wr _ _ _ _)
    ((((((((((((((Moves.refl _ h).to (abortTest_moves _)).to (cancelBist_moves _)).dev _).to (noBoltRel_moves _)).to
    (wantTone_moves _ _)).to (sendSafe_moves _ _ (fun _ hc => (List.mem_range.mp
    (List.mem_filter.mp hc).1)))).forAll fun _ t ht3 => (Moves.refl _ _).to (tmbStop_moves _ _ _ _
    (List.mem_range.mp ht3))).to (closeSafetyPages_moves _)).to (abandonProof_moves _)).count _ _ _ _).wr _ _ _ _).to
    (note_moves _ _ _ _ _ _ _)).to (intAll_moves _ _)))

theorem holdWard_moves (h : Hub) (w n : Nat) : Moves safeFoot h (h.holdWard w n) := by
  unfold Hub.holdWard
  split
  · exact (Moves.refl _ h).to (enterSafe_moves _ _)
  case _ hw =>
    have hheld : Moves safeFoot h (h.setWard w .held) := (Moves.refl _ h).to (setWard_moves _ _ _ fun he => absurd (by simp [he]) hw)
    exact .ite ((hheld.to (sendSafe_moves _ _ fun _ hc => bitList_lt hc)).forAll fun k t ht =>
      (Moves.refl _ k).to (tmbStop_moves _ t _ _ (bitList_lt ht))) (Moves.refl _ h)

theorem captureFirst_moves (h : Hub) (n detail : Nat) (forced : Bool) : Moves ⟨[.flt], [FLT_FIRST_DET_detail,
    FLT_FIRST_THI_tb, FLT_FIRST_TLO_tb, FLT_FIRST_forced, FLT_FIRST_multi, FLT_FIRST_source, FLT_FIRST_valid,
    FLT_FIRST_wards, FLT_NEXT_count], []⟩ h (h.captureFirst n detail forced) :=
  .ite (((((((((((Moves.refl _ h).put _ _ _ _).put _ _ _ _).put _ _ _ _).wr _ _ _ _).wr _ _ _ _).wr _ _ _ _).wr _ _ _ _).wr
    _ _ _ _).wr _ _ _ _).flt _ fun _ => rfl) (.ite (.bind ((Moves.refl _ h).count _ _ _ _) fun y3 => .ite
    ((((((((y3.put _ _ _ _).put _ _ _ _).put _ _ _ _).wr _ _ _ _).wr _ _ _ _).wr _ _ _ _).wr _ _ _ _).wr _ _ _ _)
    (y3.put _ _ _ _)) ((Moves.refl _ h).count _ _ _ _))

theorem wardReaction_moves (h : Hub) (n wards : Nat) : Moves safeFoot h (h.wardReaction n wards) :=
  .bind (.ite ((Moves.refl _ h).forAll fun _ _ _ => (Moves.refl _ _).to (intEvent_moves _ _ _)) (Moves.refl _ h)) fun y1 =>
    .ite (y1.forAll fun _ _ _ => (Moves.refl _ _).to (holdWard_moves _ _ _)) y1

theorem detailWord_moves (h : Hub) (detail : Nat) : Moves ⟨[.free], [], []⟩ h (h.detailWord detail).2 := by
  unfold Hub.detailWord
  split
  · exact (Moves.refl _ h).to (freeNat_moves _ _)
  · exact (Moves.refl _ h)

/-- What the occurrence of a fault reaches, its record and its reactions included (R538). -/
def faultFoot : Foot := safeFoot.join ⟨[.flt], [FLT_FIRST_DET_detail, FLT_FIRST_THI_tb, FLT_FIRST_TLO_tb, FLT_FIRST_forced,
  FLT_FIRST_multi, FLT_FIRST_source, FLT_FIRST_valid, FLT_FIRST_wards, FLT_NEXT_count], []⟩

theorem occurNow_moves (h : Hub) (n wards detail : Nat) (forced rec late : Bool) : Moves faultFoot h
    (h.occurNow n wards detail forced rec late) :=
  .ite (Moves.refl _ h) (.bind ((Moves.refl _ h).flt _) fun y => .ite y (.bind ((y.to
    (detailWord_moves _ _)).flt _) fun y3 => .bind (.ite (y3.to (captureFirst_moves _ _ _ _)) y3) fun y4 => .bind (.ite
    (y4.to (intake_moves _ _)) y4) fun y5 => .ite y5 (.bind (y5.to (wardReaction_moves _ _ _)) fun y6 => .ite (y6.to
    (enterSafe_moves _ _)) y6)))

theorem occur_moves (h : Hub) (n wards detail : Nat) (forced rec : Bool) : Moves faultFoot h
    (h.occur n wards detail forced rec) :=
  .ite (.ite ((Moves.refl _ h).bst _) ((Moves.refl _ h).count _ _ _ _)) ((Moves.refl _ h).to (occurNow_moves _ _ _ _ _ _ _))

theorem raise_moves (h : Hub) (n res wards detail : Nat) : Moves faultFoot h (h.raise n res wards detail) :=
  .ite (Moves.refl _ h) (.bind ((Moves.refl _ h).flt _) fun y => .ite y (y.to (occur_moves _ _ _ _ _ _)))

theorem lower_moves (h : Hub) (n res : Nat) : Moves ⟨[.flt], [], []⟩ h (h.lower n res) :=
  (Moves.refl _ h).flt _

theorem event_moves (h : Hub) (n wards detail : Nat) : Moves faultFoot h (h.event n wards detail) :=
  .ite (Moves.refl _ h) ((Moves.refl _ h).to (occur_moves _ _ _ _ _ _))

theorem fieldRise_moves (h : Hub) (p chs detail : Nat) : Moves ⟨[.hinge, .flt], [], []⟩ h (h.fieldRise p chs detail) :=
  .ite (Moves.refl _ h) (((Moves.refl _ h).flt _).to (sendF_moves _ _))

theorem fieldFall_moves (h : Hub) (p chs : Nat) : Moves ⟨[.hinge, .flt], [], []⟩ h (h.fieldFall p chs) :=
  .ite (Moves.refl _ h) (((Moves.refl _ h).flt _).to (sendF_moves _ _))

theorem fieldEvent_moves (h : Hub) (p chs detail : Nat) : Moves ⟨[.hinge, .flt], [], []⟩ h (h.fieldEvent p chs detail) :=
  .ite (Moves.refl _ h) (((Moves.refl _ h).flt _).to (sendF_moves _ _))

theorem modAcc_moves (h : Hub) (c : Nat) (f : ChCount → ChCount) : Moves ⟨[.life], [], []⟩ h (h.modAcc c f) :=
  (Moves.refl _ h).life _

theorem sendStat_moves (h : Hub) (g : Nat) : Moves ⟨[.hinge], [], []⟩ h (h.sendStat g) :=
  (Moves.refl _ h).to (sendF_moves _ _)

theorem outRise_moves (h : Hub) (c b detail : Nat) (hc : c < 16) : Moves ⟨[.hinge, .outs, .flt], outFltFlds, []⟩ h
    (h.outRise c b detail) :=
  .ite (Moves.refl _ h) ((((Moves.refl _ h).to (modOut_moves _ _ _)).to (fieldRise_moves _ _ _ _)).to
    (syncOutFlt_moves _ _ hc))

theorem outFall_moves (h : Hub) (c b : Nat) : Moves ⟨[.hinge, .flt], [], []⟩ h (h.outFall c b) :=
  (Moves.refl _ h).to (fieldFall_moves _ _ _)

theorem switchFlags_moves (h : Hub) (c : Nat) (was : OutCh) (hc : c < 16) : Moves ⟨[.hinge, .outs, .flt], outFltFlds, []⟩ h
    (h.switchFlags c was) :=
  .bind (.ite ((Moves.refl _ h).to (outFall_moves _ _ _)) (Moves.refl _ h)) fun y => .ite ((y.to (modOut_moves _ _ _)).to
    (outRise_moves _ _ _ _ hc)) y

theorem dropVf_moves (h : Hub) (c : Nat) : Moves ⟨[.sch], [], []⟩ h (h.dropVf c) :=
  (Moves.refl _ h).sch _

theorem stampHeavy_moves (h : Hub) (c : Nat) : Moves ⟨[.sch], [], []⟩ h (h.stampHeavy c) :=
  .ite ((Moves.refl _ h).sch _) (Moves.refl _ h)

theorem countTurnOn_moves (h : Hub) (c : Nat) : Moves ⟨[.sch, .life], [], []⟩ h (h.countTurnOn c) :=
  ((Moves.refl _ h).to (modAcc_moves _ _ _)).to (stampHeavy_moves _ _)

theorem setSwitch_moves (h : Hub) (c : Nat) (on counts : Bool) (hc : c < 16) : Moves ⟨[.hinge, .outs, .sch, .flt, .life],
    outFltFlds, []⟩ h (h.setSwitch c on counts) :=
  .bind (.ite ((Moves.refl _ h).to (countTurnOn_moves _ _)) (Moves.refl _ h)) fun y => ((Moves.ite (y.to
    (dropVf_moves _ _)) y).to (modOut_moves _ _ _)).to (switchFlags_moves _ _ _ hc)

theorem reSwitch_moves (h : Hub) (c : Nat) (counts : Bool) (hc : c < 16) : Moves ⟨[.hinge, .outs, .sch, .flt, .life],
    outFltFlds, []⟩ h (h.reSwitch c counts) :=
  ((Moves.ite ((Moves.refl _ h).to (countTurnOn_moves _ _)) (Moves.refl _ h)).to (modOut_moves _ _ _)).to
    (switchFlags_moves _ _ _ hc)

theorem endWindows_moves (h : Hub) (src : Nat) : Moves ⟨[.ins], [IN_STAT_window], []⟩ h (h.endWindows src) :=
  (Moves.refl _ h).forAll fun _ _ hc => by
  split
  · exact (Moves.refl _ _)
  · exact .ite ((Moves.ite ((Moves.refl _ _).put _ _ _ _ (List.mem_range.mp hc)) (Moves.refl _ _)).to (modIn_moves _ _ _))
      (Moves.refl _ _)

theorem fieldSafe_moves (h : Hub) (chs : List Nat) (hchs : ∀ c ∈ chs, c < 16) : Moves ⟨[.hinge, .outs, .ins, .sch, .flt,
    .life], outFltFlds ++ [IN_STAT_window], []⟩ h (h.fieldSafe chs) :=
  (Moves.refl _ h).forAll fun _ _ hc => .bind ((Moves.refl _ _).to (modOut_moves _ _ _)) fun y1 => ((Moves.ite y1
    (y1.hinge _)).to (endWindows_moves _ _)).to (setSwitch_moves _ _ _ _ (hchs _ (List.mem_filter.mp hc).1))

theorem dbJudge_moves (h : Hub) : Moves ⟨[.hinge, .outs, .ins, .dbt, .sch, .flt, .life], outFltFlds ++ [IN_STAT_window],
    []⟩ h (h.dbJudge) :=
  .ite (Moves.refl _ h) (.bind ((Moves.refl _ h).dbt _) fun y => .ite (y.to (fieldSafe_moves _ _ (fun _ hc =>
    (List.mem_range.mp (List.mem_filter.mp hc).1)))) y)

theorem submit_moves (h : Hub) (c : Cand) : Moves ⟨[.sch], [SCH_STAT_queued], []⟩ h (h.submit c) :=
  .ite (Moves.refl _ h) (((Moves.refl _ h).sch _).wr _ _ _ _)

theorem wakeFchb_moves (h : Hub) : Moves ⟨[.sup], [], []⟩ h (h.wakeFchb) :=
  .ite ((Moves.refl _ h).sup _) (Moves.refl _ h)

theorem wantDomain_moves (h : Hub) (d : Nat) : Moves ⟨[.sup, .sch], [SCH_STAT_queued], []⟩ h (h.wantDomain d) :=
  .ite (Moves.refl _ h) (((Moves.refl _ h).sup _).to (submit_moves _ _))

theorem history_moves (h : Hub) (cause ward : Nat) : Moves ⟨[.ret], [], []⟩ h (h.history cause ward) :=
  (Moves.refl _ h).ret _

theorem bootDomains_moves (h : Hub) : Moves ⟨[.sup], [], []⟩ h (h.bootDomains) :=
  (Moves.refl _ h).sup _

theorem bootCount_moves (h : Hub) : Moves ⟨[.dev, .sup, .ret], [PWR_RET_STAT_source], []⟩ h (h.bootCount) :=
  (((Moves.refl _ h).dev_ret _ _).to (bootDomains_moves _)).wr _ _ _ _

theorem bstDeliver_moves (h : Hub) : Moves faultFoot h (h.bstDeliver) :=
  .bind (.ite (Moves.refl _ h) (((Moves.refl _ h).bst _).foldl fun _ _ _ => (Moves.refl _ _).to
    (intake_moves _ _))) fun y1 => .ite y1 ((y1.bst _).foldl fun _ _ _ => (Moves.refl _ _).to (occurNow_moves _ _ _ _ _ _ _))

theorem follow_moves (after before : Hub) : Moves ⟨[.fol], [], []⟩ after (after.follow before) :=
  (Moves.refl _ after).fol _

theorem watchDark_moves (before h : Hub) (c : Nat) : Moves ⟨[.outs], [], []⟩ h (before.watchDark h c) :=
  .ite (Moves.refl _ h) ((Moves.refl _ h).to (modOut_moves _ _ _))

theorem watchTp_moves (before h : Hub) (c : Nat) : Moves ⟨[.ins], [], []⟩ h (before.watchTp h c) :=
  .ite (Moves.refl _ h) ((Moves.refl _ h).to (modIn_moves _ _ _))

theorem watchWire_moves (h : Hub) (c : Nat) : Moves ⟨[.ins], [], []⟩ h (h.watchWire c) := by
  unfold Hub.watchWire
  dsimp only
  split
  · exact (Moves.refl _ h).to (modIn_moves _ _ _)
  · exact (Moves.refl _ h).to (modIn_moves _ _ _)
  · exact (Moves.refl _ h)

theorem watch_moves (before after : Hub) (c : Nat) : Moves ⟨[.outs, .ins], [], []⟩ after (before.watch after c) :=
  (((Moves.refl _ after).to (watchDark_moves _ _ _)).to (watchTp_moves _ _ _)).to (watchWire_moves _ _)

/-- What follows by itself after a command can reach: what waited for a group under test, DB's drive, and the signals. -/
def settleFoot : Foot :=
  faultFoot.join ⟨[.fol, .ins, .life], outFltFlds ++ [FLT_ERR_falls, IN_STAT_window], []⟩

theorem settle_moves (before after : Hub) : Moves settleFoot after (settle before after) :=
  .bind ((((Moves.refl _ after).to (bstDeliver_moves _)).to (dbJudge_moves _)).forAll fun _ _ _ => (Moves.refl _ _).to
    (watch_moves _ _ _)) fun y1 => .bind ((Moves.ite y1 (y1.to (intAll_moves _ _))).forAll fun _ _ _ => .ite
    (Moves.refl _ _) ((Moves.refl _ _).to (sendStat_moves _ _))) fun y4 => (Moves.ite (y4.count _ _ _ _) y4).to
    (follow_moves _ _)

end Sys2Proof.Machine

/-!
PROOF. The frame of the registers fails on a state whose proof under way names a mechanism that there is none of: a counter of
DBT_MECH is then written beyond its sixteen copies.
-/

namespace Sys2Proof.Machine

/-- The reset state with a proof of the mechanism 100,000 under way, which no reachable state has: `Proof.mech` is a number
without a bound. -/
def strayProof : State :=
  { State.reset with hub := { State.reset.hub with dbt := { State.reset.hub.dbt with proof := some { mech := 100000 } } } }

theorem hub_of_on {c : Instr} {s t : State} {f : Hub → Hub} (hf : exec c s = s.on f) (ht : exec c s = .next t) :
    t.hub = settle s.hub (f { s.hub with flt := { s.hub.flt with fresh := false } }) := by
  rw [hf] at ht
  cases ht
  rfl

/-- What follows by itself after a command leaves a register outside its footprint. -/
theorem settle_rd (b a : Hub) {f : Fld} {i w : Nat} (hk : settleFoot.keys (fldKey f i w) = false) :
    (settle b a).rd f i w = a.rd f i w := by
  simp only [Hub.rd, (settle_moves b a).regs _ hk]

/-- Copy 100,000 of DBT_MECH.passes lies in no block that a fault's reactions reach. -/
theorem strayProof_key : mayWrite (.proofDetect 0) (fldKey DBT_MECH_passes 100000 0) = false ∧
    settleFoot.keys (fldKey DBT_MECH_passes 100000 0) = false := by decide +kernel

/-- The passing proof is counted there, where `strayProof` reads 0. -/
theorem exec_strayProof : ∃ f : Hub → Hub, exec (.proofDetect 0) strayProof = strayProof.on f ∧
    (f { strayProof.hub with flt := { strayProof.hub.flt with fresh := false } }).rd DBT_MECH_passes 100000 0 = 1 ∧
    strayProof.hub.rd DBT_MECH_passes 100000 0 = 0 :=
  ⟨_, exec_proofDetect 0 strayProof, by decide +kernel⟩

/-- Refutes O53: in `strayProof` PROOF_DETECT counts a passing proof in a register field that it is not listed for. The state
is none that the hub reaches; the statement is about every state. -/
theorem not_otherRegistersStand : ¬ Obligations.OtherRegistersStand := by
  intro hframe
  obtain ⟨t, h, hexec, -, hrd, ht, -⟩ := hframe (.proofDetect 0) strayProof
  obtain ⟨hlist, hsettle⟩ := strayProof_key
  obtain ⟨f, hf, hone, hzero⟩ := exec_strayProof
  have hhub := (hub_of_on hf hexec).symm.trans ht
  have hsame : 1 = 0 :=
    calc 1 = (f _).rd DBT_MECH_passes 100000 0 := hone.symm
      _ = (settle strayProof.hub (f _)).rd DBT_MECH_passes 100000 0 := (settle_rd _ _ hsettle).symm
      _ = (settle strayProof.hub h).rd DBT_MECH_passes 100000 0 := by rw [hhub]
      _ = h.rd DBT_MECH_passes 100000 0 := settle_rd _ _ hsettle
      _ = 0 := (hrd _ _ _ hlist).trans hzero
  exact absurd hsame (by decide)

end Sys2Proof.Machine

/-!
PROOF. What stores nothing: a MARCH that a timing set unfit for field pins stops in the step that begins it leaves its bank
undefined (R291, R313), so that its command stores although it is listed to store nothing.
-/

namespace Sys2Proof.Machine

set_option Elab.async false

/-! ### A MARCH that stops -/

/-- What a tumbler's stop does after the element is abandoned reaches no memory. -/
theorem tmbStop_movesOf_marchAbandon (h : Hub) (t cause : Nat) (release : Bool) :
    Moves ⟨[.regs, .hinge, .tmbs, .sch, .ints, .pins, .eng], [], []⟩ (h.marchAbandon t) (h.tmbStop t cause release) :=
  .bind (Moves.refl _ (h.marchAbandon t)) fun y => .bind ((Moves.ite ((y.wrAny _ _ _ _).to (sendL_moves _ _)) y).to
    (modTmb_moves _ _ _)) fun y2 => .ite ((((((((y2.to (dropCand_moves _ _)).wrAny _ _ _ _).wrAny _ _ _ _).putAny _ _ _ _).putAny
    _ _ _ _).putAny _ _ _ _).to (tmbRetire_moves _ _ _)).to (intOwner_moves _ _ _)) y2

/-- The bank of an element that is abandoned takes free values. -/
theorem mem_marchAbandon {h : Hub} {t : Nat} {m : MarchRun} (hm : (h.tmb t).march = some m) :
    (h.marchAbandon t).mem = cellsSet 0 (h.freeBytes 0x4000).2.mem (bankAddr m.bank 0) (h.freeBytes 0x4000).1 := by
  unfold Hub.marchAbandon
  rw [hm]
  dsimp only
  generalize 0x4000 = n
  rfl

/-- The first byte of a bank whose element is abandoned takes the next free value. -/
theorem marchAbandon_firstByte {h : Hub} {t : Nat} {m : MarchRun} (hm : (h.tmb t).march = some m) :
    cellGet 0 (h.marchAbandon t).mem (bankAddr m.bank 0) = BitVec.ofNat 8 (Config.freeValue h.free % 2 ^ 8) := by
  have hbytes (k : Hub) (n a : Nat) (l : List Host.Cell) : cellGet 0 (cellsSet 0 l a (k.freeBytes (n + 1)).1) a =
      BitVec.ofNat 8 (Config.freeValue k.free % 2 ^ 8) :=
    (cellGet_cellsSet_out (bytes := ((k.freeNat 8).2.freeBytes n).1) (.inl (Nat.lt_succ_self a))).trans
      (cellGet_cellSet_self 0 l a _)
  rw [mem_marchAbandon hm]
  exact hbytes h 0x3FFF _ _

/-- A cause that is present already raises nothing: only the collector's causes change. -/
theorem raise_of_cause {h : Hub} {n res : Nat} (wards detail : Nat) (hr : res < 16) (hn : n ≠ 29)
    (hc : bitOf (vget h.flt.cause n 0) res = true) : ∃ x, h.raise n res wards detail = { h with flt := x } := by
  have hpresent : bitOf (h.causes n) res = true := by
    rw [Hub.causes, if_neg (by simpa using hn)]
    simp only [bitOf, Nat.testBit_or] at hc ⊢
    rw [hc]
    rfl
  unfold Hub.raise
  simp only [hr, if_true, hpresent]
  split
  · exact ⟨h.flt, rfl⟩
  · exact ⟨_, rfl⟩

/-- What follows a command by itself leaves the memory. -/
theorem Kept.mem_eq {h k : Hub} (x : Kept h k) : k.mem = h.mem := (congrArg Hub.mem x.rest :)

/-! ### The state -/

/-- The hub in *Run* with tumbler 0 at a MARCH of bank 0, which it owns. Its pin is output channel 0, the period of its timing set is
no multiple of 80 fine ticks, and the cause of an earlier program error is still present. The first byte of the bank is 1 where `b` is
true and 0 elsewhere. -/
def marchHub (b : Bool) : Hub :=
  { ((((State.reset.hub.wr TMB_STAT_state 2 0).wr BNK_OWNER_owner 0x10 0).wr OUT_CFG_src 1 0).wr OUT_CFG_mode 1 0).wr
      TMB_TS_PERIOD_period 8 0 with
    dev := { State.reset.hub.dev with phase := .up }, hinge := { State.reset.hub.hinge with upL := true },
    flt := { State.reset.hub.flt with cause := vset State.reset.hub.flt.cause 30 1 },
    mem := (if b then [(0x100000, 1)] else []) ++ [(0x1C0007, 0x50)] }

/-- The hub once the element has begun. -/
def marchBegun (b : Bool) : Hub :=
  (marchHub b).modTmb 0 (fun x => { x with march := some { bank := 0, operand := 0 }, remain := 4095, next := 1 })

/-- The tumbler comes to the MARCH. -/
theorem boundary_marchHub (b : Bool) : (marchHub b).boundary 0 = (marchHub b, true) := by
  cases b <;> decide +kernel

theorem execWord_march {h : Hub} {t addr w : Nat} (hop : wOp w = 10) :
    h.execWord t addr w = (h.marchStart t addr (wArg w), false) := by
  unfold Hub.execWord
  simp only [hop]

/-- The next instruction is a MARCH at a program address inside the region. -/
theorem tmbOne_march {h : Hub} {t : Nat} (hin : (decide (h.regionLen t ≤ (h.tmb t).next) ||
      decide (1024 ≤ h.rd TMB_REGION_base t + (h.tmb t).next)) = false)
    (hgood : (h.isBad (h.progAddr t (h.tmb t).next) || h.isBad (h.progAddr t (h.tmb t).next + 4)) = false)
    (hop : wOp (h.progWord t (h.tmb t).next) = 10) (hclean : wClean (h.progWord t (h.tmb t).next) = true) :
    (h.tmbOne t).1 = h.marchStart t (h.tmb t).next (wArg (h.progWord t (h.tmb t).next)) := by
  unfold Hub.tmbOne
  rw [if_neg (by simpa using hin)]
  simp only [hgood, hop, hclean, execWord_march hop]
  rfl

theorem tmbOne_marchHub (b : Bool) : ((marchHub b).tmbOne 0).1 = (marchHub b).marchStart 0 0 0 := by
  have hnext : ((marchHub b).tmb 0).next = 0 := by cases b <;> decide +kernel
  have harg : wArg ((marchHub b).progWord 0 0) = 0 := by cases b <;> decide +kernel
  rw [tmbOne_march (by cases b <;> decide +kernel) (by cases b <;> decide +kernel) (by cases b <;> decide +kernel)
    (by cases b <;> decide +kernel), hnext, harg]

/-- The element begins, and its first cycle is a program error of code 8. -/
theorem marchStart_marchHub (b : Bool) : (marchHub b).marchStart 0 0 0 = (marchBegun b).tmbError 0 8 0 := by
  have hbegun : (marchHub b).marchStart 0 0 0 = (marchBegun b).holdCycle 0 0 2 := by
    unfold Hub.marchStart
    dsimp only
    rw [if_neg (by decide), if_neg (by cases b <;> decide +kernel), if_neg (by decide)]
    have hspan : (8 * (4096 * (bitsOf 0 22 2 + 1) + if (bitsOf 0 19 3 == 4) = true then 61440 else 0) +
        max 1 ((marchHub b).tsPeriod ((marchHub b).tsNow 0)) - 1) / max 1 ((marchHub b).tsPeriod ((marchHub b).tsNow 0)) - 1 =
          4095 := by cases b <;> decide +kernel
    rw [hspan]
    rfl
  rw [hbegun, Hub.holdCycle, Hub.issue, if_pos (by cases b <;> decide +kernel)]

theorem tmbInstr_marchHub (b : Bool) : (marchHub b).tmbInstr 0 10 (fun _ _ => true) = (marchBegun b).tmbError 0 8 0 := by
  unfold Hub.tmbInstr
  dsimp only
  rw [boundary_marchHub, if_pos (by cases b <;> decide +kernel), tmbOne_marchHub, marchStart_marchHub]

/-- What the error leaves of the memory and of the self-test's waiting intakes. -/
theorem tmbError_marchBegun (b : Bool) : ((marchBegun b).tmbError 0 8 0).mem = ((marchBegun b).marchAbandon 0).mem ∧
    ((marchBegun b).tmbError 0 8 0).bst = ((marchBegun b).marchAbandon 0).bst := by
  have hstop := tmbStop_movesOf_marchAbandon (marchBegun b) 0 3 false
  have hflt : ((marchBegun b).tmbStop 0 3 false).flt.cause = (marchBegun b).flt.cause :=
    (congrArg Flt.cause (hstop.keeps .flt)).trans (congrArg Flt.cause ((marchAbandon_moves _ 0 (by decide)).keeps .flt))
  have hcause : bitOf (vget (marchBegun b).flt.cause 30 0) 0 = true := by cases b <;> decide +kernel
  obtain ⟨x, hx⟩ := raise_of_cause (h := ((((marchBegun b).tmbStop 0 3 false).wr TMB_ERR_addr 0 0).wr TMB_ERR_code 8 0).wr
    TMB_STAT_state 5 0) (n := 30) (res := 0) _ _ (by decide) (by decide) (by rwa [← hflt] at hcause)
  exact ⟨(congrArg Hub.mem hx).trans (hstop.keeps .mem), (congrArg Hub.bst hx).trans (hstop.keeps .bst)⟩

theorem fresh_marchHub (b : Bool) : { marchHub b with flt := { (marchHub b).flt with fresh := false } } = marchHub b := by
  cases b <;> decide +kernel

theorem exec_march_on (s : State) : exec (.march 0) s = s.on (fun h => h.tmbInstr 0 10 (fun _ _ => true)) := exec_march 0 s

/-- The command leaves the bank's first byte a free value. -/
theorem exec_march_firstByte {b : Bool} {t : State} (ht : exec (.march 0) { State.reset with hub := marchHub b } = .next t) :
    cellGet 0 t.hub.mem (bankAddr 0 0) = BitVec.ofNat 8 (Config.freeValue 0 % 2 ^ 8) := by
  have hhub : t.hub = settle (marchHub b) ((marchBegun b).tmbError 0 8 0) := by
    rw [hub_of_on (exec_march_on _) ht]
    dsimp only
    rw [fresh_marchHub, tmbInstr_marchHub]
  obtain ⟨hmem, hbst⟩ := tmbError_marchBegun b
  have hquiet : ((marchBegun b).tmbError 0 8 0).noBacklog := by
    have habandon := (marchAbandon_moves (marchBegun b) 0 (by decide)).keeps .bst
    rw [Hub.noBacklog, hbst, habandon]
    cases b <;> exact ⟨rfl, rfl⟩
  have hkept : t.hub.mem = ((marchBegun b).tmbError 0 8 0).mem := by
    rw [hhub]
    exact (settle_kept _ hquiet).mem_eq
  have hmarch : ((marchBegun b).tmb 0).march = some { bank := 0, operand := 0 } := by cases b <;> rfl
  have hfree : (marchBegun b).free = 0 := by cases b <;> rfl
  have hbyte := marchAbandon_firstByte hmarch
  rw [hfree] at hbyte
  rw [hkept, hmem]
  exact hbyte

/-- Refutes O51: MARCH is not listed as storing, and with no MARCH under way in `marchHub` it begins one that its timing set stops
at once, which leaves the bank undefined. The free value that the first byte takes differs from 0 or from 1. -/
theorem not_otherCommandsStoreNothing : ¬ Obligations.OtherCommandsStoreNothing := by
  intro hframe
  have hsame (b : Bool) : BitVec.ofNat 8 (Config.freeValue 0 % 2 ^ 8) = cellGet 0 (marchHub b).mem (bankAddr 0 0) := by
    obtain ⟨t, ht, -⟩ := everyCommandAnswersNext (.march 0) { State.reset with hub := marchHub b }
    refine (exec_march_firstByte ht).symm.trans (hframe (.march 0) _ t (bankAddr 0 0) ?_ rfl ht)
    cases b <;> decide +kernel
  have hzero : cellGet 0 (marchHub false).mem (bankAddr 0 0) = 0 := by decide +kernel
  have hone : cellGet 0 (marchHub true).mem (bankAddr 0 0) = 1 := by decide +kernel
  exact absurd (hzero.symm.trans ((hsame false).symm.trans ((hsame true).trans hone))) (by decide)

end Sys2Proof.Machine

/-!
PROOF. What a storing command reaches: a reset clears the memory as a whole, also where a state lists bytes beyond the 22 bits of
the address space.
-/

namespace Sys2Proof.Machine

/-- The hub in *Run* with a byte listed at the address 2^22, which no bank, DP0 or DP1 holds: the memory lists addresses without a
bound. -/
def beyondMem : State :=
  { State.reset with hub := { State.reset.hub with dev := { State.reset.hub.dev with phase := .up }, mem := [(2 ^ 22, 1)] } }

/-- RSTn resets the logic die, whose memory is empty then, and nothing of a self-test waits. -/
theorem exec_beyondMem : ∃ f : Hub → Hub, exec (.rstnLow false) beyondMem = beyondMem.on f ∧
    cellGet 0 (f { beyondMem.hub with flt := { beyondMem.hub.flt with fresh := false } }).mem (2 ^ 22) = 0 ∧
    (f { beyondMem.hub with flt := { beyondMem.hub.flt with fresh := false } }).bst.intakes = [] ∧
    (f { beyondMem.hub with flt := { beyondMem.hub.flt with fresh := false } }).bst.occurs = [] :=
  ⟨_, exec_rstnLow false beyondMem, by decide +kernel⟩

/-- Refutes O52: in `beyondMem` a reset of the logic die clears the byte at 2^22, which its range of addresses below 2^22 leaves out.
The state is none that the hub reaches; the statement is about every state and every address. -/
theorem not_storesReachOnlyTheirWords : ¬ Obligations.StoresReachOnlyTheirWords := by
  intro hframe
  obtain ⟨f, hf, hzero, hquiet⟩ := exec_beyondMem
  obtain ⟨t, ht, -⟩ := everyCommandAnswersNext (.rstnLow false) beyondMem
  have hsame := hframe (.rstnLow false) beyondMem t (2 ^ 22) (by decide +kernel) rfl (by decide +kernel) ht
  have hone : cellGet 0 beyondMem.hub.mem (2 ^ 22) = 1 := by decide +kernel
  rw [hub_of_on hf ht, (settle_kept _ hquiet).mem_eq, hzero, hone] at hsame
  exact absurd hsame (by decide)

end Sys2Proof.Machine

/-!
PROOF. What stands unchanged although the command clears a mark: a command begins by clearing the mark of a first fault captured by the
one before it, so that the collector is not as it was where a clause says so.
-/

namespace Sys2Proof.Machine

/-- What follows a command by itself clears no mark of a first fault. -/
theorem settle_mark (b : Hub) {h : Hub} (hm : h.flt.fresh = true) : (settle b h).flt.fresh = true :=
  (settle_moves b h).part .mark rfl hm

/-- No command completes with the collector as it was where the mark was set before and is clear after. -/
theorem not_completes_flt {c : Instr} {s : State} {f : Hub → Hub} {P : Hub → Prop} (hP : ∀ h, P h → h.flt = s.hub.flt)
    (hf : exec c s = s.on f) (hs : s.hub.flt.fresh = true)
    (ht : (settle s.hub (f { s.hub with flt := { s.hub.flt with fresh := false } })).flt.fresh = false) : ¬ Completes c s P := by
  rintro ⟨t, h, hexec, -, hp, hhub, -⟩
  have hmark : h.flt.fresh = true := by rw [hP h hp, hs]
  have hkept := settle_mark s.hub hmark
  rw [← hhub, hub_of_on hf hexec, ht] at hkept
  exact Bool.false_ne_true hkept

/-- The reset state with a first fault captured by the command before, and VF at 50 V. -/
def markedState : State :=
  { State.reset with hub := { State.reset.hub with
    flt := { State.reset.hub.flt with fresh := true }, sup := { State.reset.hub.sup with vf := 50000 } } }

theorem markedState_pwmEdgeCheck : ∃ f : Hub → Hub, exec (.pwmEdgeCheck 0 0) markedState = markedState.on f ∧
    (settle markedState.hub (f { markedState.hub with flt := { markedState.hub.flt with fresh := false } })).flt.fresh = false :=
  ⟨_, exec_pwmEdgeCheck 0 0 markedState, by decide +kernel⟩

/-- Refutes O14: in `markedState` no edge is judged above 45 V of VF, but the mark of the first fault is cleared, and the collector is
not as it was. -/
theorem not_outputPulses : ¬ Obligations.OutputPulses := by
  rintro ⟨-, -, -, -, -, -, -, -, hedge, -⟩
  obtain ⟨f, hf, hclear⟩ := markedState_pwmEdgeCheck
  have hdone := hedge markedState 0 0 (by decide +kernel)
  refine not_completes_flt ?_ hf rfl hclear hdone
  exact fun _ hp => hp.2

theorem markedState_faultCauseEnd : ∃ f : Hub → Hub, exec (.faultCauseEnd 7 16) markedState = markedState.on f ∧
    (settle markedState.hub (f { markedState.hub with flt := { markedState.hub.flt with fresh := false } })).flt.fresh = false :=
  ⟨_, exec_faultCauseEnd 7 16 markedState, by decide +kernel⟩

/-- Refutes O36: in `markedState` a cause that lasts stays, but the mark of the first fault is cleared, and the collector is not as it
was. -/
theorem not_faultCommands : ¬ Obligations.FaultCommands := by
  rintro ⟨-, -, -, -, -, -, hlast, -⟩
  obtain ⟨f, hf, hclear⟩ := markedState_faultCauseEnd
  have hdone := hlast markedState 7 16 (by decide +kernel)
  refine not_completes_flt ?_ hf rfl hclear hdone
  exact fun _ hp => hp.1

end Sys2Proof.Machine

/-!
PROOF. Footprints of changes that come with a result: a condition read by a tumbler, the next frame of a lane, folds of pairs.
-/

namespace Sys2Proof.Machine

set_option Elab.async false

section
variable {F : Foot} {h₀ : Hub}

theorem Moves.fstOf {α : Type} {k : Hub} {b : α} (x : Moves F h₀ k) : Moves F h₀ (k, b).1 := x

theorem Moves.sndOf {α : Type} {a : α} {k : Hub} (x : Moves F h₀ k) : Moves F h₀ (a, k).2 := x

theorem Moves.foldlFst {α β : Type} {f : Hub × β → α → Hub × β} {l : List α} {p : Hub × β} (x : Moves F h₀ p.1)
    (hf : ∀ p c, Moves F p.1 (f p c).1) : Moves F h₀ (l.foldl f p).1 := by
  induction l generalizing p with
  | nil => exact x
  | cons c rest ih => exact ih (x.trans (hf p c))

theorem Moves.foldlSnd {α β : Type} {f : β × Hub → α → β × Hub} {l : List α} {p : β × Hub} (x : Moves F h₀ p.2)
    (hf : ∀ p c, Moves F p.2 (f p c).2) : Moves F h₀ (l.foldl f p).2 := by
  induction l generalizing p with
  | nil => exact x
  | cons c rest ih => exact ih (x.trans (hf p c))

end

/-! ### Canonical NVM devices -/

theorem cutProgram_wf {v : NvmDev} (a : Nat) (bytes free : List Nat) (journal : Bool) (hv : Memory.wf 0xFF v.mem = true) :
    Memory.wf 0xFF (cutProgram v a bytes free journal).mem = true := memory_wf_cellsSet a _ hv

theorem NvmOp.cut_wf (o : NvmOp) {free : List Nat} {v : NvmDev} (hv : Memory.wf 0xFF v.mem = true) :
    Memory.wf 0xFF (o.cut free v).mem = true := by
  unfold NvmOp.cut
  split
  · exact cutProgram_wf _ _ _ _ hv
  · exact memory_wf_cellsSet _ _ hv

theorem NvmOp.make_wf (o : NvmOp) {v : NvmDev} (hv : Memory.wf 0xFF v.mem = true) : Memory.wf 0xFF (o.make v).mem = true := by
  unfold NvmOp.make
  split
  · exact nvmProgram_wf _ _ hv
  · exact nvmErase_wf _ _ hv

theorem NvmOp.made_or_cut_wf (o : NvmOp) {good : Bool} {free : List Nat} {v : NvmDev} (hv : Memory.wf 0xFF v.mem = true) :
    Memory.wf 0xFF ((if good then o.make else o.cut free) v).mem = true := by
  split
  · exact o.make_wf hv
  · exact o.cut_wf hv

/-! ### The words of a bank after a MARCH -/

/-- The cells of a list of bytes lie at rising addresses from the first up, and none reads as an unlisted byte. -/
theorem cellsOf_rising (l : List Nat) (a : Nat) :
    (cellsOf a l).Pairwise (fun x y => x.1 < y.1) ∧ ∀ c ∈ cellsOf a l, a ≤ c.1 ∧ c.1 < a + l.length ∧ c.2 ≠ 0 := by
  induction l generalizing a with
  | nil => exact ⟨List.Pairwise.nil, fun c hc => nomatch hc⟩
  | cons b rest ih =>
    obtain ⟨hp, hall⟩ := ih (a + 1)
    rw [cellsOf]
    split
    · refine ⟨hp, fun c hc => ?_⟩
      obtain ⟨hlo, hhi, hne⟩ := hall c hc
      exact ⟨by omega, by rw [List.length_cons]; omega, hne⟩
    case isFalse hb =>
      refine ⟨List.pairwise_cons.mpr ⟨fun y hy => (hall y hy).1, hp⟩, fun c hc => ?_⟩
      rcases List.mem_cons.mp hc with rfl | hc
      · refine ⟨Nat.le_refl _, by rw [List.length_cons]; omega, fun hz => hb ?_⟩
        have hv := congrArg BitVec.toNat hz
        rwa [BitVec.toNat_ofNat] at hv
      · obtain ⟨hlo, hhi, hne⟩ := hall c hc
        exact ⟨by omega, by rw [List.length_cons]; omega, hne⟩

theorem length_flatMap_leBytes (words : List Nat) : (words.flatMap (leBytes 4)).length = 4 * words.length := by
  induction words with
  | nil => rfl
  | cons x rest ih =>
    have hx : (leBytes 4 x).length = 4 := rfl
    rw [List.flatMap_cons, List.length_append, ih, hx, List.length_cons]
    omega

/-- A bank replaced word by word keeps the canonical form. -/
theorem setBankWords_wf {h : Hub} (b : Nat) {words : List Nat} (hl : words.length ≤ 4096) (hm : Memory.wf 0 h.mem = true) :
    Memory.wf 0 (h.setBankWords b words).mem = true := by
  obtain ⟨hrise, hval⟩ := (memory_wf_iff 0 h.mem).mp hm
  obtain ⟨hcells, hin⟩ := cellsOf_rising (words.flatMap (leBytes 4)) (bankAddr b 0)
  rw [length_flatMap_leBytes] at hin
  refine (memory_wf_iff _ _).mpr ⟨List.pairwise_append.mpr ⟨List.pairwise_append.mpr ⟨hrise.filter _, hcells, ?_⟩,
    hrise.filter _, ?_⟩, fun c hc => ?_⟩
  · intro x hx y hy
    have hlt := of_decide_eq_true (List.mem_filter.mp hx).2
    have := (hin y hy).1
    omega
  · intro x hx y hy
    have hge := of_decide_eq_true (List.mem_filter.mp hy).2
    rcases List.mem_append.mp hx with hx | hx
    · have hlt := of_decide_eq_true (List.mem_filter.mp hx).2
      omega
    · have := (hin x hx).2.1
      omega
  · rcases List.mem_append.mp hc with hc | hc
    · rcases List.mem_append.mp hc with hc | hc
      · exact hval c (List.mem_filter.mp hc).1
      · exact (hin c hc).2.2
    · exact hval c (List.mem_filter.mp hc).1

theorem size_bankWords (h : Hub) (b : Nat) : (h.bankWords b).size = 4096 := by
  unfold Hub.bankWords
  refine List.foldlRecOn (motive := fun a : Array Nat => a.size = 4096) h.mem _ Array.size_replicate fun a ha c _ => ?_
  dsimp only
  split
  · rw [Array.size_setIfInBounds, ha]
  · exact ha

/-- An operation of an element keeps the number of words. -/
theorem size_marchOp (data : Array Nat) (a : Nat) (s : MarchState) (op : Nat) :
    (marchOp data a s op).words.size = s.words.size := by
  unfold marchOp
  extract_lets d v
  split
  · exact Array.size_setIfInBounds
  · split
    · rfl
    · rfl

/-- An element run over its addresses keeps the number of words. -/
theorem size_march (data : Array Nat) (ops addrs : List Nat) (s : MarchState) :
    (addrs.foldl (fun s a => ops.foldl (marchOp data a) s) s).words.size = s.words.size :=
  List.foldlRecOn (motive := fun r : MarchState => r.words.size = s.words.size) addrs _ rfl fun _ hr a _ =>
    List.foldlRecOn (motive := fun q : MarchState => q.words.size = s.words.size) ops _ hr fun q hq op _ =>
      (size_marchOp data a q op).trans hq

/-! ### Conditions and frames -/

/-- Reading a condition can clear a latch of the tumbler. -/
theorem tmbCond_moves {h k : Hub} {t sel : Nat} {v : Bool} (hc : h.tmbCond t sel = .ok (v, k)) :
    Moves ⟨[.regs, .tmbs], [], []⟩ h k := by
  unfold Hub.tmbCond at hc
  dsimp only at hc
  split_ifs at hc
  all_goals cases hc
  · exact Moves.refl _ _
  · exact Moves.refl _ _
  · exact (Moves.refl _ h).wrAny _ _ _ _
  · exact (Moves.refl _ h).to (modTmb_moves _ _ _)
  · exact Moves.refl _ _
  · exact Moves.refl _ _

theorem setQueue_moves (h : Hub) (lane : Nat) (q : List HFrame) : Moves ⟨[.hinge], [], []⟩ h (h.setQueue lane q) :=
  .ite ((Moves.refl _ h).hinge _) ((Moves.refl _ h).hinge _)

/-- Taking the next frame of a lane changes the transmit queues alone. -/
theorem nextFrame_moves {h k : Hub} {lane : Nat} {f : HFrame} (hn : h.nextFrame lane = some (f, k)) :
    Moves ⟨[.hinge], [], []⟩ h k := by
  unfold Hub.nextFrame at hn
  dsimp only at hn
  split at hn
  · cases hn
  · split at hn
    · obtain ⟨-, rfl⟩ := Prod.mk.inj (Option.some.inj hn)
      exact setQueue_moves _ _ _
    · obtain ⟨-, rfl⟩ := Prod.mk.inj (Option.some.inj hn)
      exact ((Moves.refl _ h).hinge _).to (setQueue_moves _ _ _)

end Sys2Proof.Machine

/-!
PROOF. The footprints of the model's functions, a section for each of its files: Halts, Banks, FieldOps, Clocks, Link, Hinge, Inputs, Nvm, Images, Resets.
-/

namespace Sys2Proof.Machine

set_option Elab.async false

/-! ### Where no check bounds an index -/

theorem setSafeHold_movesAny (h : Hub) (c : Nat) : Moves ⟨[.regs, .hinge, .outs, .tmbs, .sch, .ints, .pins], [], []⟩ h
    (h.setSafeHold c) :=
  .bind ((((((Moves.refl _ h).to (dropCand_moves _ _)).to (dropHeavy_moves _ _)).to
    (modOut_moves _ _ _)).putAny _ _ _ _).hinge _) fun y2 => .ite y2 ((y2.putAny _ _ _ _).to (intOwner_moves _ _ _))

theorem sendSafe_movesAny (h : Hub) (chs : List Nat) : Moves ⟨[.regs, .hinge, .outs, .tmbs, .sch, .ints, .pins], [], []⟩ h
    (h.sendSafe chs) :=
  .bind ((Moves.refl _ h).forAll fun _ _ _ => (Moves.refl _ _).to (setSafeHold_movesAny _ _)) fun y1 => .ite y1 (y1.to
    (command_moves _ _ _ _))

theorem marchAbandon_movesAny (h : Hub) (t : Nat) : Moves ⟨[.regs, .mem, .free], [], []⟩ h (h.marchAbandon t) := by
  unfold Hub.marchAbandon
  split
  · exact (Moves.refl _ h)
  · exact (((((((((Moves.refl _ h).to (freeMem_moves _ _ _)).to (freeNat_moves _ _)).wrAny _ _ _ _).to
      (freeNat_moves _ _)).wrAny _ _ _ _).to (freeNat_moves _ _)).wrAny _ _ _ _).to (freeNat_moves _ _)).wrAny _ _ _ _

theorem tmbStop_movesAny (h : Hub) (t cause : Nat) (release : Bool) : Moves ⟨[.regs, .hinge, .tmbs, .sch, .ints, .pins, .eng,
    .mem, .free], [], []⟩ h (h.tmbStop t cause release) :=
  .bind ((Moves.refl _ h).to (marchAbandon_movesAny _ _)) fun y => .bind ((Moves.ite ((y.wrAny _ _ _ _).to
    (sendL_moves _ _)) y).to (modTmb_moves _ _ _)) fun y2 => .ite ((((((((y2.to
    (dropCand_moves _ _)).wrAny _ _ _ _).wrAny _ _ _ _).putAny _ _ _ _).putAny _ _ _ _).putAny _ _ _ _).to
    (tmbRetire_moves _ _ _)).to (intOwner_moves _ _ _)) y2

theorem closePages_movesAny (h : Hub) (w pages : Nat) : Moves ⟨[.regs], [], []⟩ h (h.closePages w pages) :=
  .bind ((Moves.refl _ h).wrAny _ _ _ _) fun y => .ite (y.to (clearForces_moves _)) y

theorem outRise_movesAny (h : Hub) (c b detail : Nat) : Moves ⟨[.regs, .hinge, .outs, .flt], [], []⟩ h
    (h.outRise c b detail) :=
  .ite (Moves.refl _ h) ((((Moves.refl _ h).to (modOut_moves _ _ _)).to (fieldRise_moves _ _ _ _)).to
    (syncOutFlt_movesAny _ _))

theorem switchFlags_movesAny (h : Hub) (c : Nat) (was : OutCh) : Moves ⟨[.regs, .hinge, .outs, .flt], [], []⟩ h
    (h.switchFlags c was) :=
  .bind (.ite ((Moves.refl _ h).to (outFall_moves _ _ _)) (Moves.refl _ h)) fun y => .ite ((y.to (modOut_moves _ _ _)).to
    (outRise_movesAny _ _ _ _)) y

theorem setSwitch_movesAny (h : Hub) (c : Nat) (on counts : Bool) : Moves ⟨[.regs, .hinge, .outs, .sch, .flt, .life], [],
    []⟩ h (h.setSwitch c on counts) :=
  .bind (.ite ((Moves.refl _ h).to (countTurnOn_moves _ _)) (Moves.refl _ h)) fun y => ((Moves.ite (y.to
    (dropVf_moves _ _)) y).to (modOut_moves _ _ _)).to (switchFlags_movesAny _ _ _)

theorem reSwitch_movesAny (h : Hub) (c : Nat) (counts : Bool) : Moves ⟨[.regs, .hinge, .outs, .sch, .flt, .life], [], []⟩ h
    (h.reSwitch c counts) :=
  ((Moves.ite ((Moves.refl _ h).to (countTurnOn_moves _ _)) (Moves.refl _ h)).to (modOut_moves _ _ _)).to
    (switchFlags_movesAny _ _ _)

theorem intRelease_movesAny (h : Hub) (w : Nat) : Moves ⟨[.regs, .ints, .pins], [], []⟩ h (h.intRelease w) :=
  .bind (((Moves.refl _ h).to (modInt_moves _ _ _)).countModAny _ _ _ _) fun y => .ite y (y.to (modPin_moves _ _ _))

theorem intFire_movesAny (h : Hub) (w : Nat) (was : Bool) : Moves ⟨[.regs, .ints, .pins], [], []⟩ h (h.intFire w was) :=
  .ite (Moves.refl _ h) (.ite (Moves.refl _ h) (.ite ((Moves.refl _ h).to (intRelease_movesAny _ _)) ((Moves.refl _ h).to
    (modInt_moves _ _ _))))

/-! ### Halts -/

theorem pendingRec_moves (h : Hub) (typ source sev len : Nat) (payload : List Nat) : Moves ⟨[.ret], [], []⟩ h
    (h.pendingRec typ source sev len payload) := by
  unfold Hub.pendingRec
  split
  · exact (Moves.refl _ h)
  · exact (Moves.refl _ h).ret _

theorem markThermal_moves (h : Hub) (bit : Nat) : Moves ⟨[.ret], [], []⟩ h (h.markThermal bit) := by
  unfold Hub.markThermal
  dsimp only
  split
  · exact (Moves.refl _ h)
  · exact (Moves.refl _ h).ret _

theorem wdStopAll_moves (h : Hub) : Moves ⟨[.wds], [], []⟩ h (h.wdStopAll) :=
  (Moves.refl _ h).forAll fun _ _ _ => (Moves.refl _ _).to (modWd_moves _ _ _)

theorem thermalHalt_moves (h : Hub) (fieldDie : Bool) : Moves ⟨[.regs, .dev, .ret, .hinge, .outs, .dbt, .tmbs, .sch, .recd,
    .ints, .pins, .eng, .mem, .wds, .bst, .free], [], []⟩ h (h.thermalHalt fieldDie) :=
  .ite (Moves.refl _ h) (.bind ((Moves.refl _ h).to (pendingRec_moves _ _ _ _ _ _)) fun y => ((((((((Moves.ite ((y.to
    (endTest_moves _ _)).to (bistRecord_moves _)) (y.to (cancelBist_moves _))).dev _).ret _).to (wantTone_moves _ _)).to
    (sendSafe_moves _ _ (fun _ hc => (List.mem_range.mp (List.mem_filter.mp hc).1)))).forAll fun _ t ht5 =>
    (Moves.refl _ _).to (tmbStop_moves _ _ _ _ (List.mem_range.mp ht5))).to (closeSafetyPages_moves _)).to
    (abandonProof_moves _)).to (wdStopAll_moves _))

theorem clockHalt_moves (h : Hub) : Moves ⟨[.regs, .dev, .ret, .clk, .hinge, .dbt, .sch, .ints, .pins, .wds, .bst], [],
    []⟩ h (h.clockHalt) :=
  .ite (Moves.refl _ h) (.bind ((Moves.refl _ h).to (pendingRec_moves _ _ _ _ _ _)) fun y => .bind (((Moves.ite (y.to
    (endTest_moves _ _)) (y.to (cancelBist_moves _))).dev _).clk _) fun y3 => (((Moves.ite y3 (y3.to
    (wantTone_moves _ _))).to (closeSafetyPages_moves _)).to (abandonProof_moves _)).to (wdStopAll_moves _))

theorem warmBoot_moves (h : Hub) (cause : Nat) : Moves ⟨[.regs, .armed, .kept, .dev, .sup, .ret, .fol, .clk, .hinge, .outs,
    .ins, .dbt, .tmbs, .aux, .sch, .recd, .flt, .ints, .pins, .ports, .eng, .banks, .mem, .bad, .dpLow, .dpHigh, .lsy, .wds,
    .wdo, .bst, .life, .blk, .nvmQ, .fieldReset, .fieldSince, .mark], [], []⟩ h (h.warmBoot cause) :=
  (((Moves.refl _ h).to (history_moves _ _ _)).to (logicReset_moves _)).to (bootCount_moves _)

theorem setTemp_moves (h : Hub) (s : Nat) (t : ℤ) : Moves ⟨[.sch], [], []⟩ h (h.setTemp s t) :=
  (Moves.refl _ h).sch _

theorem setGlobal_moves (h : Hub) (off : Bool) : Moves ⟨[.regs, .hinge, .outs, .dbt, .sch, .flt, .life], [], []⟩ h
    (h.setGlobal off) :=
  .ite (Moves.refl _ h) (((Moves.refl _ h).dbt _).forAll fun _ _ hc => (Moves.refl _ _).to (reSwitch_moves _ _ _
    (List.mem_range.mp hc)))

theorem judgeGlobal_moves (h : Hub) : Moves ⟨[.regs, .hinge, .outs, .dbt, .sch, .flt, .life], [], []⟩ h (h.judgeGlobal) :=
  .ite ((Moves.refl _ h).to (setGlobal_moves _ _)) (.ite ((Moves.refl _ h).to (setGlobal_moves _ _)) (Moves.refl _ h))

theorem judgeHalt_moves (h : Hub) (s : Nat) : Moves ⟨[.regs, .dev, .ret, .hinge, .outs, .dbt, .tmbs, .sch, .recd, .ints,
    .pins, .eng, .mem, .wds, .bst, .free], [], []⟩ h (h.judgeHalt s) :=
  .ite (.ite ((Moves.refl _ h).to (thermalHalt_moves _ _)) (Moves.refl _ h)) (.ite ((Moves.refl _ h).to
    (thermalHalt_moves _ _)) (Moves.refl _ h))

theorem abandonNvm_moves (h : Hub) (shifting : Bool) : Moves ⟨[.nvm, .nvmOp, .free], [], []⟩ h (h.abandonNvm shifting) := by
  unfold Hub.abandonNvm
  split
  · exact (Moves.refl _ h)
  case _ o _ =>
    exact .ite ((Moves.refl _ h).nvmOp _) (((((Moves.refl _ h).nvmOp _).to (freeBytes_moves _ _)).to
      (freeBytes_moves _ _)).to
      (onNvm_moves _ _ _ _ (fun _ => o.cut_wf) fun _ => o.cut_wf))

/-! ### Banks -/

theorem writeBnkOwner_moves (h : Hub) (w b v : Nat) : Moves ⟨[.regs, .banks], [], []⟩ h (h.writeBnkOwner w b v) :=
  .ite ((Moves.refl _ h).countAny _ _ _ _) (.ite ((Moves.refl _ h).wrAny _ _ _ _)
    ((((((Moves.refl _ h).putAny _ _ _ _).putAny _ _ _ _).wrAny _ _ _ _).putAny _ _ _ _).to (modBank_moves _ _ _)))

theorem handEnd_moves (h : Hub) (b result : Nat) : Moves ⟨[.regs, .banks], [], []⟩ h (h.handEnd b result) := by
  unfold Hub.handEnd
  exact (((((((Moves.refl _ h).putAny _ _ _ _).putAny _ _ _ _).putAny _ _ _ _).wrAny _ _ _ _).putAny _ _ _ _).wrAny _ _ _
    _).to
    (modBank_moves _ _ _)

theorem ownerChange_moves (h : Hub) (b : Nat) (x : Handover) : Moves ⟨[.regs, .ints, .pins, .banks], [], []⟩ h
    (h.ownerChange b x) :=
  ((((((((Moves.refl _ h).to (handEnd_moves _ _ _)).wrAny _ _ _ _).putAny _ _ _ _).putAny _ _ _ _).putAny _ _ _ _).countAny
    _ _ _ _).to (intEvent_moves _ _ _)).to (intOwner_moves _ _ _)

theorem drained_moves (h : Hub) (b : Nat) : Moves ⟨[.regs, .ints, .pins, .banks], [], []⟩ h (h.drained b) := by
  unfold Hub.drained
  split
  · exact (Moves.refl _ h)
  · exact .ite (Moves.refl _ h) (.ite ((((Moves.refl _ h).putAny _ _ _ _).putAny _ _ _ _).to (modBank_moves _ _ _))
      ((Moves.refl _ h).to (ownerChange_moves _ _ _)))

theorem scrubbed_moves (h : Hub) (b : Nat) : Moves ⟨[.regs, .ints, .pins, .banks, .mem, .bad], [], []⟩ h (h.scrubbed b) := by
  unfold Hub.scrubbed
  split
  · exact (Moves.refl _ h)
  · exact .ite (Moves.refl _ h) (.bind ((Moves.refl _ h).to (clearBank_moves _ _)) fun y => by
      split
      · exact y.to (ownerChange_moves _ _ _)
      · exact (y.to (handEnd_moves _ _ _)).to (intEvent_moves _ _ _))

theorem handDrop_moves (h : Hub) (b result : Nat) : Moves ⟨[.regs, .banks], [], []⟩ h (h.handDrop b result) := by
  unfold Hub.handDrop
  split
  · exact (Moves.refl _ h)
  · exact .ite (((Moves.refl _ h).wrAny _ _ _ _).to (modBank_moves _ _ _)) ((Moves.refl _ h).to (handEnd_moves _ _ _))

theorem wardHandovers_moves (h : Hub) (w : Nat) : Moves ⟨[.regs, .banks], [], []⟩ h (h.wardHandovers w) :=
  (Moves.refl _ h).forAll fun _ _ _ => by
  split
  · exact (Moves.refl _ _)
  · exact .ite ((Moves.refl _ _).to (handDrop_moves _ _ _)) (.ite ((Moves.refl _ _).to (handDrop_moves _ _ _))
      (Moves.refl _ _))

theorem writeBnkStat_moves (h : Hub) (b v : Nat) : Moves ⟨[.regs], [], []⟩ h (h.writeBnkStat b v) :=
  .ite ((Moves.refl _ h).putAny _ _ _ _) (Moves.refl _ h)

theorem writeBnkCtrl_moves (h : Hub) (b v : Nat) : Moves ⟨[.regs], [], []⟩ h (h.writeBnkCtrl b v) :=
  (Moves.refl _ h).putAny _ _ _ _

theorem ueFound_moves (h : Hub) (b word : Nat) : Moves (faultFoot.join ⟨[.regs], [], []⟩) h (h.ueFound b word) :=
  ((((Moves.ite ((Moves.refl _ h).countAny _ _ _ _) (.ite ((Moves.refl _ h).countAny _ _ _ _)
    ((Moves.refl _ h).countAny _ _ _ _))).putAny _ _ _ _).wrAny _ _ _ _).wrAny _ _ _ _).to (event_moves _ _ _ _)

theorem breakWord_moves (h : Hub) (b word : Nat) : Moves ⟨[.bad], [], []⟩ h (h.breakWord b word) :=
  .ite (Moves.refl _ h) ((Moves.refl _ h).bad _)

theorem aliasWrite_moves (h : Hub) (a v : Nat) (set : Bool) : Moves (faultFoot.join ⟨[.regs, .bad], [], []⟩) h
    (h.aliasWrite a v set) :=
  .ite ((Moves.refl _ h).to (ueFound_moves _ _ _)) ((Moves.refl _ h).to (setMemWord_moves _ _ _))

/-! ### FieldOps -/

theorem syncIn_moves (h : Hub) (c : Nat) : Moves ⟨[.regs], [], []⟩ h (h.syncIn c) :=
  .ite (Moves.refl _ h) (((((((((((((((((Moves.refl _ h).putAny _ _ _ _).putAny _ _ _ _).putAny _ _ _ _).putAny _ _ _
    _).putAny _ _ _ _).putAny _ _ _ _).putAny _ _ _ _).putAny _ _ _ _).putAny _ _ _ _).putAny _ _ _ _).putAny _ _ _
    _).putAny _ _ _ _).putAny _ _ _ _).putAny _ _ _ _).putAny _ _ _ _).wrAny _ _ _ _)

theorem inSet_moves (h : Hub) (c b : Nat) (present : Bool) : Moves ⟨[.hinge, .ins, .flt], [], []⟩ h (h.inSet c b present) :=
  .ite (Moves.refl _ h) (.bind ((Moves.refl _ h).to (modIn_moves _ _ _)) fun y => .ite (y.to (fieldRise_moves _ _ _ _)) y)

theorem inEnd_moves (h : Hub) (c b : Nat) : Moves ⟨[.hinge, .ins, .flt], [], []⟩ h (h.inEnd c b) :=
  ((Moves.refl _ h).to (modIn_moves _ _ _)).to (fieldFall_moves _ _ _)

theorem lostEntries_moves (h : Hub) (c n : Nat) : Moves ⟨[.regs, .ins], [], []⟩ h (h.lostEntries c n) :=
  .ite (Moves.refl _ h) (((Moves.refl _ h).countAny _ _ _ _).to (modIn_moves _ _ _))

theorem overflowed_moves (h : Hub) (c : Nat) : Moves (faultFoot.join ⟨[.regs, .ins], [], []⟩) h (h.overflowed c) :=
  .bind (((Moves.refl _ h).to (modIn_moves _ _ _)).putAny _ _ _ _) fun y => .ite y (y.to (occur_moves _ _ _ _ _ _))

theorem fifoStore_moves (h : Hub) (c : Nat) (e : InEntry) : Moves (faultFoot.join ⟨[.regs, .ins], [], []⟩) h
    (h.fifoStore c e) :=
  .ite (((Moves.refl _ h).to (modIn_moves _ _ _)).to (intOwner_moves _ _ _)) (((Moves.refl _ h).to
    (lostEntries_moves _ _ _)).to (overflowed_moves _ _))

theorem sendEntry_moves (h : Hub) (c : Nat) (e : InEntry) : Moves (faultFoot.join ⟨[.regs, .ins], [], []⟩) h
    (h.sendEntry c e) :=
  (((Moves.refl _ h).to (modIn_moves _ _ _)).to (lostEntries_moves _ _ _)).to (fifoStore_moves _ _ _)

theorem entry_moves (h : Hub) (c : Nat) (e : InEntry) : Moves (faultFoot.join ⟨[.regs, .ins], [], []⟩) h (h.entry c e) :=
  .ite ((Moves.refl _ h).to (sendEntry_moves _ _ _)) (.ite ((Moves.refl _ h).to (modIn_moves _ _ _)) (.bind
    ((Moves.refl _ h).to (modIn_moves _ _ _)) fun y => .ite (y.to (fieldEvent_moves _ _ _ _)) y))

theorem sendBuffer_moves (h : Hub) (c : Nat) : Moves (faultFoot.join ⟨[.regs, .ins], [], []⟩) h (h.sendBuffer c) :=
  ((Moves.refl _ h).to (modIn_moves _ _ _)).foldl fun _ _ _ => (Moves.refl _ _).to (fifoStore_moves _ _ _)

theorem forcing_moves {F : Foot} (h : Hub) (c : Nat) (f : Hub → Hub) (hf : ∀ k, Moves F k (f k))
    (hF : (faultFoot.join ⟨[.regs, .ins], [], []⟩).within F = true := by decide +kernel) : Moves F h (h.forcing c f) :=
  have hsync (k : Hub) : Moves F k (k.syncIn c) := (syncIn_moves k c).mono (Foot.within_trans (by decide +kernel) hF)
  have hentry (k : Hub) (e : InEntry) : Moves F k (k.entry c e) := (entry_moves k c e).mono (Foot.within_trans
    (by decide +kernel) hF)
  (Moves.ite ((hf h).trans (hentry _ _)) (hf h)).trans (hsync _)

theorem discardStamps_moves (h : Hub) : Moves ⟨[.regs, .ins], [], []⟩ h (h.discardStamps) :=
  (Moves.refl _ h).forAll fun _ _ _ => .ite (Moves.refl _ _) ((((Moves.refl _ _).to
    (modIn_moves _ _ _)).countAny _ _ _ _).to (syncIn_moves _ _))

theorem takeStat_moves (h : Hub) (c bits : Nat) : Moves ⟨[.regs, .hinge, .outs, .tmbs, .sch, .ints, .pins], [], []⟩ h
    (h.takeStat c bits) :=
  .bind ((((((((((Moves.refl _ h).putAny _ _ _ _).putAny _ _ _ _).putAny _ _ _ _).putAny _ _ _ _).putAny _ _ _ _).putAny _ _
    _ _).putAny _ _ _ _).putAny _ _ _ _).putAny _ _ _ _) fun y2 => .ite (y2.to (setSafeHold_movesAny _ _)) y2

theorem followUnlock_moves (h : Hub) : Moves ⟨[.regs, .clk, .hinge, .flt], [], []⟩ h (h.followUnlock) :=
  .ite ((((Moves.refl _ h).clk _).putAny _ _ _ _).to (fieldRise_moves _ _ _ _)) ((Moves.refl _ h).clk _)

theorem followLock_moves (h : Hub) : Moves ⟨[.regs, .clk, .hinge, .flt], [], []⟩ h (h.followLock) :=
  .bind ((Moves.refl _ h).clk _) fun y => (Moves.ite (y.putAny _ _ _ _) y).to (fieldFall_moves _ _ _)

theorem setFollower_moves (h : Hub) (v slew : ℤ) : Moves ⟨[.clk], [], []⟩ h (h.setFollower v slew) :=
  (Moves.refl _ h).clk _

theorem judgeWear_moves (h : Hub) : Moves (faultFoot.join ⟨[.regs], [], []⟩) h (h.judgeWear) :=
  .ite ((Moves.refl _ h).to (raise_moves _ _ _ _ _)) ((Moves.refl _ h).to (lower_moves _ _ _))

/-! ### Clocks -/

theorem pllLocks_moves (h : Hub) : Moves ⟨[.regs], [], []⟩ h (h.pllLocks) :=
  .ite (.bind ((Moves.refl _ h).putAny _ _ _ _) fun y => .ite y (y.putAny _ _ _ _)) (Moves.refl _ h)

theorem lsyHoldover_moves (h : Hub) : Moves (faultFoot.join ⟨[.regs, .lsy], [], []⟩) h (h.lsyHoldover) :=
  .ite (Moves.refl _ h) (.ite (((Moves.refl _ h).putAny _ _ _ _).lsy _) (.ite (((Moves.refl _ h).putAny _ _ _ _).to
    (event_moves _ _ _ _)) (Moves.refl _ h)))

theorem loseRef_moves (h : Hub) : Moves (faultFoot.join ⟨[.regs, .clk, .lsy], [], []⟩) h (h.loseRef) :=
  .bind ((((Moves.refl _ h).putAny _ _ _ _).putAny _ _ _ _).countAny _ _ _ _) fun y => .ite (((y.putAny _ _ _ _).to
    (raise_moves _ _ _ _ _)).to (lsyHoldover_moves _)) ((y.clk _).to (raise_moves _ _ _ _ _))

theorem refReturn_moves (h : Hub) : Moves ⟨[.regs, .flt], [], []⟩ h (h.refReturn) :=
  .ite (((((((Moves.refl _ h).putAny _ _ _ _).putAny _ _ _ _).putAny _ _ _ _).putAny _ _ _ _).putAny _ _ _ _).to
    (lower_moves _ _ _)) (Moves.refl _ h)

theorem writeClkCtrl_moves (h : Hub) (w v : Nat) : Moves ⟨[.regs, .flt], [], []⟩ h (h.writeClkCtrl w v) :=
  .ite ((((Moves.refl _ h).putAny _ _ _ _).putAny _ _ _ _).to (refReturn_moves _)) (Moves.refl _ h)

theorem refRun_moves (h : Hub) : Moves ⟨[.regs, .flt], [], []⟩ h (h.refRun) :=
  .ite ((Moves.refl _ h).to (refReturn_moves _)) (((Moves.refl _ h).putAny _ _ _ _).putAny _ _ _ _)

theorem judgeHosc_moves (h : Hub) (hosc : Nat) : Moves (faultFoot.join ⟨[.regs], [], []⟩) h (h.judgeHosc hosc) :=
  .ite (((Moves.refl _ h).putAny _ _ _ _).to (raise_moves _ _ _ _ _)) (Moves.refl _ h)

theorem mclkFails_moves (h : Hub) : Moves (faultFoot.join ⟨[.regs, .clk], [], []⟩) h (h.mclkFails) :=
  .ite (Moves.refl _ h) (.bind (((Moves.refl _ h).to (raise_moves _ _ _ _ _)).clk _) fun y1 => .ite (y1.to
    (clockHalt_moves _)) (.ite (y1.putAny _ _ _ _) y1))

theorem setWrapped_moves (h : Hub) : Moves ⟨[.regs], [], []⟩ h (h.setWrapped) :=
  (Moves.refl _ h).forAll fun _ _ _ => (Moves.refl _ _).putAny _ _ _ _

theorem latchTb_moves (h : Hub) (w : Nat) : Moves ⟨[.regs], [], []⟩ h (h.latchTb w) :=
  (Moves.refl _ h).wrAny _ _ _ _

theorem takeTimeS_moves (h : Hub) (lane low : Nat) : Moves ⟨[.regs, .clk, .hinge, .flt], [], []⟩ h (h.takeTimeS lane low) :=
  .bind ((Moves.refl _ h).clk _) fun y => .bind (.ite ((y.wrAny _ _ _ _).wrAny _ _ _ _) y) fun y1 => .bind (.ite (y1.to
    (setFollower_moves _ _ _)) (y1.to (setFollower_moves _ _ _))) fun y2 => .ite (y2.to (followUnlock_moves _)) (.ite y2
    (.ite (.bind (y2.clk _) fun y3 => .ite (y3.to (followLock_moves _)) y3) (y2.clk _)))

theorem takeTimeL_moves (h : Hub) (lane high : Nat) : Moves ⟨[.regs, .clk, .hinge, .ins, .flt], [], []⟩ h
    (h.takeTimeL lane high) :=
  .bind (.ite (Moves.refl _ h) (((Moves.refl _ h).to (followUnlock_moves _)).to (setFollower_moves _ _ _))) fun y =>
    (Moves.ite (y.to (discardStamps_moves _)) y).clk _

/-! ### Link -/

theorem portFail_moves (h : Hub) (p header code : Nat) : Moves ⟨[.regs, .ports], [], []⟩ h (h.portFail p header code) :=
  ((((Moves.refl _ h).to (modPort_moves _ _ _)).wrAny _ _ _ _).wrAny _ _ _ _).countModAny _ _ _ _

theorem txnFail_moves (h : Hub) (x : Txn) : Moves ⟨[.regs, .ports, .eng], [], []⟩ h (h.txnFail x) := by
  unfold Hub.txnFail
  extract_lets k1
  have y1 : Moves ⟨[.regs, .ports, .eng], [], []⟩ h k1 := by
    dsimp only [k1]
    split
    · exact (Moves.refl _ h).to (portFail_moves _ _ _ _)
    · exact Moves.refl _ h
  split
  · exact y1.to (retire_moves _ _ _ _ _)
  · exact y1

theorem fholdEnd_moves (h : Hub) (c : Nat) : Moves ⟨[.regs, .sup, .hinge, .outs, .ins, .sch, .flt, .life], [], []⟩ h
    (h.fholdEnd c) :=
  .bind ((Moves.refl _ h).to (modOut_moves _ _ _)) fun y => .bind (.ite (y.hinge _) y) fun y1 => ((Moves.ite (y1.to
    (wakeFchb_moves _)) y1).to (endWindows_moves _ _)).to (setSwitch_movesAny _ _ _ _)

theorem fholdStart_moves (h : Hub) : Moves ⟨[.regs, .sup, .hinge, .outs, .ins, .sch, .flt, .life], [], []⟩ h
    (h.fholdStart) :=
  .ite (Moves.refl _ h) (.bind ((Moves.refl _ h).hinge _) fun y => (Moves.ite (y.to
    (wakeFchb_moves _)) y).forAll fun _ _ _ => .ite ((Moves.refl _ _).to (fholdEnd_moves _ _)) ((Moves.refl _ _).to
    (modOut_moves _ _ _)))

theorem fholdStop_moves (h : Hub) : Moves ⟨[.sup, .hinge, .outs], [], []⟩ h (h.fholdStop) :=
  ((Moves.ite ((Moves.refl _ h).to (wakeFchb_moves _)) (Moves.refl _ h)).hinge _).forAll fun _ _ _ => (Moves.refl _ _).to
    (modOut_moves _ _ _)

theorem showLanes_moves (h : Hub) : Moves ⟨[.regs], [], []⟩ h (h.showLanes) :=
  ((Moves.refl _ h).wrAny _ _ _ _).putAny _ _ _ _

theorem setStale_moves (h : Hub) (b : Bool) : Moves ⟨[.regs], [], []⟩ h (h.setStale b) :=
  ((Moves.refl _ h).putAny _ _ _ _).forAll fun _ _ _ => (((Moves.ite ((Moves.refl _ _).putAny _ _ _ _)
    (Moves.refl _ _)).putAny _ _ _ _).putAny _ _ _ _).putAny _ _ _ _

theorem fieldTestGo_moves (h : Hub) : Moves ⟨[.regs, .hinge, .ins, .bst], [], []⟩ h (h.fieldTestGo) :=
  .ite ((((Moves.refl _ h).forAll fun _ _ _ => .ite ((Moves.refl _ _).to (modIn_moves _ _ _))
    (Moves.refl _ _)).wrAny _ _ _ _).hinge_bst _ _) (Moves.refl _ h)

theorem loseL_moves (h : Hub) : Moves (faultFoot.join ⟨[.regs, .sup, .ports], [], []⟩) h (h.loseL) := by
  unfold Hub.loseL
  split
  · exact Moves.refl _ h
  · extract_lets gone l1 k1 l2 k2 k3 k4 k5 k6 k7
    have y4 : Moves (faultFoot.join ⟨[.regs, .sup, .ports], [], []⟩) h k4 :=
      ((((((((Moves.refl _ h).sup _).hinge _).to (setStale_moves _ _)).putAny _ _ _ _).putAny _ _ _ _).to
        (showLanes_moves _)).countAny _ _ _ _).putAny _ _ _ _
    have y5 : Moves (faultFoot.join ⟨[.regs, .sup, .ports], [], []⟩) h k5 :=
      y4.foldl fun k x _ => (Moves.refl _ k).to (txnFail_moves k x)
    have y6 : Moves (faultFoot.join ⟨[.regs, .sup, .ports], [], []⟩) h k6 := by
      dsimp only [k6]
      split
      · exact .ite (y5.to (abandonProof_moves _)) y5
      · exact y5
    have y7 : Moves (faultFoot.join ⟨[.regs, .sup, .ports], [], []⟩) h k7 := .ite y6 (y6.to (raise_moves _ _ _ _ _))
    exact (Moves.ite ((y7.hinge _).to (abortTest_moves _)) y7).to (intAll_moves _ _)

theorem loseF_moves (h : Hub) : Moves ⟨[.regs, .sup, .clk, .hinge, .outs, .ins, .sch, .flt, .life], [], []⟩ h (h.loseF) :=
  .ite (Moves.refl _ h) ((((Moves.ite ((Moves.refl _ h).to (fieldRise_moves _ _ _ _))
    (Moves.refl _ h)).clk_hinge _ _).forAll fun _ _ hc2 => .ite ((Moves.refl _ _).to (reSwitch_moves _ _ _
    (List.mem_range.mp hc2))) (Moves.refl _ _)).to (fholdStart_moves _))

theorem fieldDieReset_moves (h : Hub) : Moves ⟨[.regs, .clk, .hinge, .outs, .ins, .dbt, .sch, .flt, .life], [], []⟩ h
    (h.fieldDieReset) :=
  (((Moves.refl _ h).putAny _ _ _ _).forAll fun _ _ _ => ((Moves.refl _ _).wrAny _ _ _ _).wrAny _ _ _
    _).clk_hinge_outs_ins_dbt_sch_flt_life _ _ _ _ _ _ _ _

theorem fieldNews_moves (h : Hub) (p chs detail : Nat) : Moves (faultFoot.join ⟨[.regs, .sup, .ports], [], []⟩) h
    (h.fieldNews p chs detail) :=
  .ite (by
  split
  · exact (Moves.refl _ h)
  · exact .ite (Moves.refl _ h) (.ite ((Moves.refl _ h).to (loseL_moves _)) ((Moves.refl _ h).to
      (occur_moves _ _ _ _ _ _)))) ((Moves.refl _ h).foldl fun _ _ _ => (Moves.refl _ _).to (occur_moves _ _ _ _ _ _))

theorem countVfuv_moves (h : Hub) : Moves ⟨[.ret], [], []⟩ h (h.countVfuv) :=
  (Moves.refl _ h).ret _

theorem recvFault_moves (h : Hub) (p chs : Nat) (live : Bool) (detail : Nat) : Moves (faultFoot.join ⟨[.regs, .sup, .ports],
    [], []⟩) h (h.recvFault p chs live detail) :=
  .bind ((Moves.refl _ h).flt _) fun y => .ite (.bind (.ite (y.countAny _ _ _ _) y) fun y1 => by
  split
  · exact y1
  · exact y1.to (event_moves _ _ _ _)) (.ite (.bind (((Moves.ite (y.to (countVfuv_moves _)) y).flt _).forAll fun _ _ hc4 =>
      (Moves.refl _ _).to (syncOutFlt_moves _ _ (bitList_lt hc4))) fun y5 => .ite y5 (y5.to (fieldNews_moves _ _ _ _)))
      (y.flt _))

theorem fieldConfigure_moves (h : Hub) : Moves ⟨[.regs, .hinge, .outs, .ins], [], []⟩ h (h.fieldConfigure) :=
  ((Moves.refl _ h).hinge_ins _ _).forAll fun _ _ _ => ((Moves.refl _ _).to (modOut_moves _ _ _)).to (syncIn_moves _ _)

theorem doReq_moves (h : Hub) (k : ReqKind) : Moves (faultFoot.join ⟨[.regs, .sup, .ins, .life], [], []⟩) h (h.doReq k).1 := by
  unfold Hub.doReq
  split
  · dsimp only
    exact .ite ((Moves.refl _ h).flt _) (((Moves.refl _ h).flt _).to (sendF_moves _ _))
  · dsimp only
    exact (Moves.refl _ h).to (modOut_moves _ _ _)
  · dsimp only
    exact forcing_moves _ _ _ fun k => (Moves.refl _ k).to (modIn_moves _ _ _)
  · dsimp only
    exact (Moves.refl _ h).to (modOut_moves _ _ _)
  · dsimp only
    exact ((Moves.refl _ h).to (modOut_moves _ _ _)).to (fieldFall_moves _ _ _)
  · exact (Moves.refl _ h).to (fieldConfigure_moves _)
  · exact (Moves.refl _ h).life _
  · exact .iteFst (Moves.refl _ h) ((Moves.refl _ h).life _)
  · exact (Moves.refl _ h).to (fholdStart_moves _)

theorem fieldFresh_moves (h : Hub) : Moves ⟨[.regs], [], []⟩ h (h.fieldFresh) :=
  (Moves.refl _ h).forAll fun _ _ hc => ((((((((Moves.refl _ _).wrAny _ _ _ _).wrAny _ _ _ _).wrAny _ _ _ _).putAny _ _ _
    _).wrAny _ _ _ _).wrAny _ _ _ _).to (syncIn_moves _ _)).to (syncOutFlt_moves _ _ (List.mem_range.mp hc))

theorem checkLink_moves (h : Hub) : Moves ⟨[.regs, .clk, .hinge, .flt, .ints, .pins], [], []⟩ h (h.checkLink) :=
  .bind ((Moves.refl _ h).to (showLanes_moves _)) fun y => .ite (.bind (((y.clk_hinge _ _).to (setStale_moves _ _)).to
    (fieldFall_moves _ _ _)) fun y2 => .bind ((((Moves.ite y2 (y2.to (fieldFresh_moves _))).to
    (showLanes_moves _)).putAny _ _ _ _).to (lower_moves _ _ _)) fun y4 => .ite (y4.to (intAll_moves _ _)) y4) y

theorem lifeRejoin_moves (h : Hub) : Moves ⟨[.hinge, .life], [], []⟩ h (h.lifeRejoin) :=
  ((Moves.refl _ h).life _).to (request_moves _ _ _ _)

theorem liveReport_moves (h : Hub) : Moves (faultFoot.join ⟨[.regs, .sup, .ports], [], []⟩) h (h.liveReport) := by
  unfold Hub.liveReport
  extract_lets k1
  have y1 : Moves (faultFoot.join ⟨[.regs, .sup, .ports], [], []⟩) h k1 := (Moves.refl _ h).forAll fun k _ _ =>
    .ite (Moves.refl _ k) (((Moves.refl _ k).to (recvFault_moves _ _ _ _ _)).flt _)
  clear_value k1
  exact (y1.flt _).putAny _ _ _ _

theorem rejoinEnd_moves (h : Hub) (reconfig : Bool) : Moves (faultFoot.join ⟨[.regs, .sup, .ins, .ports, .fieldReset], [],
    []⟩) h (h.rejoinEnd reconfig) := by
  unfold Hub.rejoinEnd
  extract_lets k1 l1 l2 l3 l4 k3 k4 k5 k6 k7
  have y1 : Moves (faultFoot.join ⟨[.regs, .sup, .ins, .ports, .fieldReset], [], []⟩) h k1 :=
    (Moves.refl _ h).to (note_moves _ _ _ _ _ _ _)
  have y5 : Moves (faultFoot.join ⟨[.regs, .sup, .ins, .ports, .fieldReset], [], []⟩) h k5 :=
    ((y1.hinge_dbt _ _).putAny HNG_STAT_rejoin false 0 0).to (liveReport_moves k4)
  have y6 : Moves (faultFoot.join ⟨[.regs, .sup, .ins, .ports, .fieldReset], [], []⟩) h k6 :=
    .ite ((y5.to (newGen_moves _ _ _)).to (newGen_moves _ _ _)) y5
  have y7 : Moves (faultFoot.join ⟨[.regs, .sup, .ins, .ports, .fieldReset], [], []⟩) h k7 :=
    y6.forAll fun k c _ =>
      (((Moves.refl _ k).to (sendBuffer_moves k c)).to (syncIn_moves _ c)).to (syncOutFlt_movesAny _ c)
  exact .ite ((((y7.putAny _ _ _ _).fieldReset _).to (history_moves _ _ _)).to (note_moves _ _ _ _ _ _ _)) y7

theorem adoptStates_moves (h : Hub) : Moves ⟨[.regs, .sup, .hinge, .outs, .tmbs, .sch, .ints, .pins], [], []⟩ h
    (h.adoptStates) :=
  (((((Moves.refl _ h).forAll fun _ _ _ => (Moves.ite ((Moves.refl _ _).putAny _ _ _ _)
    ((Moves.refl _ _).wrAny _ _ _ _)).hinge _).forAll fun _ _ hc3 => .ite ((Moves.refl _ _).to (setSafeHold_moves _ _
    (bitList_lt hc3))) (Moves.refl _ _)).to (fholdStop_moves _)).to (newGen_moves _ _ _)).to (newGen_moves _ _ _)

theorem rejoinMatch_moves (h : Hub) : Moves (faultFoot.join ⟨[.regs, .sup, .ins, .ports, .fieldReset], [], []⟩) h
    (h.rejoinMatch) := by
  unfold Hub.rejoinMatch
  extract_lets k1
  have y1 : Moves (faultFoot.join ⟨[.regs, .sup, .ins, .ports, .fieldReset], [], []⟩) h k1 := by
    refine (Moves.refl _ h).forAll fun k c _ => ?_
    refine .ite (Moves.refl _ k) ?_
    exact (Moves.refl _ k).to (request_moves _ _ _ _)
  exact (y1.to (adoptStates_moves _)).to (rejoinEnd_moves _ _)

theorem toSafeStates_moves (h : Hub) : Moves ⟨[.regs, .sup, .hinge, .outs, .tmbs, .sch, .ints, .pins], [], []⟩ h
    (h.toSafeStates) :=
  (((Moves.refl _ h).to (fholdStop_moves _)).to (sendSafe_moves _ _ (fun _ hc => (List.mem_range.mp
    (List.mem_filter.mp hc).1)))).forAll fun _ _ _ => (Moves.refl _ _).putAny _ _ _ _

theorem cancelField_moves (h : Hub) : Moves ⟨[.regs, .hinge, .outs, .tmbs, .sch, .ints, .pins, .eng, .mem, .free], [], []⟩ h
    (h.cancelField) :=
  ((((Moves.refl _ h).to (dropCand_moves _ _)).foldl fun _ _ _ => by
  split
  · exact (Moves.refl _ _).to (tmbStop_movesAny _ _ _ _)
  · exact (Moves.refl _ _).to (modTmb_moves _ _ _)
  · exact (Moves.refl _ _).to (retire_moves _ _ _ _ _)
  · exact (Moves.refl _ _)
  · exact ((Moves.refl _ _).to (modOut_moves _ _ _)).putAny _ _ _ _).wrAny _ _ _ _).forAll fun _ _ _ =>
      (Moves.refl _ _).putAny _ _ _ _

theorem rejoinReconfig_moves (h : Hub) : Moves ⟨[.regs, .sup, .hinge, .outs, .tmbs, .sch, .ints, .pins, .eng, .mem, .life,
    .free], [], []⟩ h (h.rejoinReconfig) :=
  ((((Moves.refl _ h).to (cancelField_moves _)).to (toSafeStates_moves _)).to (request_moves _ _ _ _)).to
    (lifeRejoin_moves _)

theorem rejoinAfterTest_moves (h : Hub) : Moves (faultFoot.join ⟨[.regs, .sup, .ins, .ports, .life, .fieldReset], [], []⟩) h
    (h.rejoinAfterTest) :=
  (((Moves.refl _ h).to (toSafeStates_moves _)).to (lifeRejoin_moves _)).to (rejoinEnd_moves _ _)

theorem fieldStart_moves (h : Hub) : Moves ⟨[.regs, .hinge], [], []⟩ h (h.fieldStart) :=
  .bind ((Moves.refl _ h).putAny _ _ _ _) fun y => .ite (y.to (request_moves _ _ _ _)) y

theorem rejoin_moves (h : Hub) : Moves (faultFoot.join ⟨[.regs, .sup, .ins, .ports, .life, .fieldReset], [], []⟩) h
    (h.rejoin) :=
  .ite (Moves.refl _ h) (.ite (.ite ((Moves.refl _ h).to (fieldStart_moves _)) (.ite ((Moves.refl _ h).hinge _)
    (Moves.refl _ h))) (.ite (Moves.refl _ h) (.ite ((Moves.refl _ h).to (rejoinMatch_moves _)) (.ite ((Moves.refl _ h).to
    (rejoinReconfig_moves _)) (Moves.refl _ h)))))

/-! ### Hinge -/

theorem transmit_moves (h : Hub) (lane : Nat) (f : HFrame) : Moves ⟨[.hinge], [], []⟩ h (h.transmit lane f) :=
  (Moves.refl _ h).to (modLane_moves _ _ _)

theorem idleFrame_moves (h : Hub) (lane : Nat) : Moves ⟨[.hinge, .free], [], []⟩ h (h.idleFrame lane) :=
  .ite (Moves.refl _ h) (.ite ((Moves.refl _ h).to (transmit_moves _ _ _)) (((Moves.refl _ h).to (freeNat_moves _ _)).to
    (transmit_moves _ _ _)))

theorem laneTrained_moves (h : Hub) (lane delay : Nat) : Moves ⟨[.regs, .clk, .hinge, .flt, .ints, .pins], [], []⟩ h
    (h.laneTrained lane delay) :=
  .ite (Moves.refl _ h) (.bind (((Moves.refl _ h).wrAny _ _ _ _).to (modLane_moves _ _ _)) fun y1 => (Moves.ite y1
    (y1.putAny _ _ _ _)).to (checkLink_moves _))

theorem laneDown_moves (h : Hub) (lane : Nat) : Moves (faultFoot.join ⟨[.regs, .sup, .clk, .ins, .ports, .life], [], []⟩) h
    (h.laneDown lane) :=
  .bind ((Moves.refl _ h).to (modLane_moves _ _ _)) fun y => .bind (.ite (y.countAny _ _ _ _) y) fun y1 => .bind ((Moves.ite
    (.ite (y1.to (fieldRise_moves _ _ _ _)) y1) (y1.to (raise_moves _ _ _ _ _))).to (showLanes_moves _)) fun y3 => .bind
    (.ite (y3.to (loseF_moves _)) y3) fun y4 => .ite (y4.to (loseL_moves _)) y4

theorem retryLanes_moves (h : Hub) : Moves ⟨[.hinge], [], []⟩ h (h.retryLanes) :=
  (Moves.refl _ h).forAll fun _ _ _ => (Moves.refl _ _).to (modLane_moves _ _ _)

theorem writeHngCtrl_moves (h : Hub) (w v : Nat) : Moves ⟨[.regs, .hinge], [], []⟩ h (h.writeHngCtrl w v) :=
  .ite (((Moves.refl _ h).to (retryLanes_moves _)).putAny _ _ _ _) (Moves.refl _ h)

theorem drive_moves (h : Hub) (c : Nat) (want : Bool) : Moves ⟨[.regs, .hinge, .outs, .sch, .flt, .life], [], []⟩ h
    (h.drive c want) :=
  .ite (Moves.refl _ h) ((Moves.refl _ h).to (setSwitch_movesAny _ _ _ _))

theorem goReturn_moves (h : Hub) (c : Nat) : Moves ⟨[.regs, .hinge, .outs, .sch, .flt, .life], [], []⟩ h (h.goReturn c) :=
  ((((Moves.refl _ h).to (modOut_moves _ _ _)).to (outFall_moves _ _ _)).to (outFall_moves _ _ _)).to
    (reSwitch_movesAny _ _ _)

theorem commandOff_moves (h : Hub) (c : Nat) : Moves ⟨[.hinge, .outs, .flt], [], []⟩ h (h.commandOff c) :=
  (((Moves.refl _ h).to (modOut_moves _ _ _)).to (outFall_moves _ _ _)).to (outFall_moves _ _ _)

theorem applyCmd_moves (h : Hub) (c code : Nat) : Moves ⟨[.regs, .hinge, .outs, .sch, .flt, .life], [], []⟩ h
    (h.applyCmd c code) :=
  .ite (Moves.refl _ h) (.ite (.bind ((Moves.refl _ h).to (modOut_moves _ _ _)) fun y => (Moves.ite (y.to
    (goReturn_moves _ _)) y).to (drive_moves _ _ _)) (.ite (Moves.refl _ h) (.bind ((Moves.refl _ h).to
    (modOut_moves _ _ _)) fun y1 => (Moves.ite (y1.to (commandOff_moves _ _)) (.ite (y1.to (goReturn_moves _ _)) y1)).to
    (drive_moves _ _ _))))

theorem recvOutCmd_moves (h : Hub) (g gen cmds : Nat) : Moves ⟨[.regs, .hinge, .outs, .sch, .flt, .life], [], []⟩ h
    (h.recvOutCmd g gen cmds) :=
  .ite (Moves.refl _ h) (.bind ((Moves.refl _ h).hinge _) fun y => .ite y ((y.hinge _).forAll fun _ _ _ => (Moves.ite
    ((Moves.refl _ _).to (modOut_moves _ _ _)) (Moves.refl _ _)).to (applyCmd_moves _ _ _)))

theorem takeGen_moves (h : Hub) (g gen : Nat) : Moves ⟨[.hinge], [], []⟩ h (h.takeGen g gen) := by
  unfold Hub.takeGen
  split
  · exact Moves.refl _ h
  · dsimp only
    split
    · exact ((Moves.refl _ h).hinge _).to (newGen_moves _ _ _)
    · exact (Moves.refl _ h).hinge _

theorem firstGen_moves (h : Hub) : Moves ⟨[.hinge], [], []⟩ h (h.firstGen) :=
  .ite ((((Moves.refl _ h).hinge _).to (newGen_moves _ _ _)).to (newGen_moves _ _ _)) (Moves.refl _ h)

theorem recvOutStat_moves (h : Hub) (g gen states : Nat) : Moves ⟨[.regs, .hinge, .outs, .ins, .tmbs, .sch, .ints, .pins,
    .bst], [], []⟩ h (h.recvOutStat g gen states) :=
  .ite (Moves.refl _ h) (((((((Moves.refl _ h).hinge _).putAny _ _ _ _).to (takeGen_moves _ _ _)).to
    (firstGen_moves _)).forAll fun _ _ _ => (Moves.refl _ _).to (takeStat_moves _ _ _)).to (fieldTestGo_moves _))

theorem recvFsum_moves (h : Hub) (sticky : Nat) : Moves (faultFoot.join ⟨[.regs, .sup, .ports], [], []⟩) h
    (h.recvFsum sticky) :=
  .ite (Moves.refl _ h) (((((Moves.refl _ h).wrAny _ _ _ _).wrAny _ _ _ _).forAll fun _ _ _ => .ite (Moves.refl _ _) (.bind
    ((Moves.refl _ _).forAll fun _ _ hc2 => .ite ((Moves.refl _ _).to (syncOutFlt_moves _ _ (List.mem_range.mp hc2))) (.ite
    ((Moves.refl _ _).to (syncIn_moves _ _)) (Moves.refl _ _))) fun y3 => .ite (by
  split
  · exact .ite y3 (y3.to (occur_moves _ _ _ _ _ _))
  · exact y3) (y3.to (fieldNews_moves _ _ _ _)))).flt _)

theorem recvReq_moves (h : Hub) (tag : Nat) : Moves (faultFoot.join ⟨[.regs, .sup, .ins, .life], [], []⟩) h
    (h.recvReq tag) := by
  unfold Hub.recvReq
  split
  · exact (Moves.refl _ h)
  · exact .ite (Moves.refl _ h) (by
      split
      · exact (Moves.refl _ h).to (sendF_moves _ _)
      · exact .ite (Moves.refl _ h) ((((Moves.refl _ h).to (doReq_moves _ _)).hinge _).to (sendF_moves _ _)))

theorem nextReq_moves (h : Hub) : Moves ⟨[.hinge], [], []⟩ h (h.nextReq) := by
  unfold Hub.nextReq
  split
  · exact Moves.refl _ h
  · dsimp only
    split
    · exact Moves.refl _ h
    · exact ((Moves.refl _ h).hinge _).to (sendReq_moves _ _)

theorem takeRsp_moves (h : Hub) (k : ReqKind) : Moves (faultFoot.join ⟨[.regs, .sup, .ins, .ports, .life, .fieldReset], [],
    []⟩) h (h.takeRsp k) := by
  unfold Hub.takeRsp
  split
  · exact (Moves.refl _ h).to (syncOutFlt_movesAny _ _)
  · exact (Moves.refl _ h).to (syncIn_moves _ _)
  · exact .ite ((Moves.refl _ h).to (rejoinEnd_moves _ _)) (Moves.refl _ h)
  · exact ((Moves.refl _ h).life _).to (judgeWear_moves _)
  · exact (Moves.refl _ h).life _
  · exact (Moves.refl _ h)

theorem recvRsp_moves (h : Hub) (tag : Nat) : Moves (faultFoot.join ⟨[.regs, .sup, .ins, .ports, .life, .fieldReset], [],
    []⟩) h (h.recvRsp tag) := by
  unfold Hub.recvRsp
  split
  · exact (Moves.refl _ h)
  · split
    · exact (Moves.refl _ h)
    · exact .ite (Moves.refl _ h) (.bind ((((Moves.refl _ h).hinge _).to (nextReq_moves _)).to (takeRsp_moves _ _)) fun y1 =>
        by
        split
        · exact y1.to (retire_moves _ _ _ _ _)
        · exact y1)

theorem reqRetry_moves (h : Hub) (tag : Nat) : Moves (faultFoot.join ⟨[.regs, .ports], [], []⟩) h (h.reqRetry tag) := by
  unfold Hub.reqRetry
  split
  · exact (Moves.refl _ h)
  · exact .ite (Moves.refl _ h) (.ite (((Moves.refl _ h).countAny _ _ _ _).hinge _)
      ((((((Moves.refl _ h).hinge _).countAny _ _ _ _).to (event_moves _ _ _ _)).to (txnFail_moves _ _)).to
      (nextReq_moves _)))

theorem latchClear_moves (h : Hub) : Moves ⟨[.hinge], [], []⟩ h (h.latchClear) :=
  (Moves.refl _ h).hinge _

theorem recvBoltRel_moves (h : Hub) : Moves ⟨[.hinge], [], []⟩ h (h.recvBoltRel) :=
  .ite (Moves.refl _ h) (.ite ((Moves.refl _ h).to (latchClear_moves _)) ((Moves.refl _ h).hinge _))

theorem sendBoltRel_moves (h : Hub) : Moves ⟨[.hinge], [], []⟩ h (h.sendBoltRel) :=
  ((Moves.refl _ h).hinge _).to (sendL_moves _ _)

theorem decideBolt_moves (h : Hub) (t : Tone) : Moves ⟨[.regs, .sup, .hinge, .outs, .ins, .sch, .flt, .life], [], []⟩ h
    (h.decideBolt t) :=
  (((Moves.refl _ h).hinge _).to (fholdStop_moves _)).to (fieldSafe_moves _ _ (fun _ hc => (List.mem_range.mp
    (List.mem_filter.mp hc).1)))

theorem decideTone_moves (h : Hub) (t : Tone) : Moves ⟨[.regs, .sup, .hinge, .outs, .ins, .sch, .flt, .life], [], []⟩ h
    (h.decideTone t) :=
  .ite (Moves.refl _ h) (by
  split
  · exact (Moves.refl _ h).to (decideBolt_moves _ _)
  · exact (Moves.refl _ h).to (decideBolt_moves _ _)
  · exact ((Moves.refl _ h).hinge _).to (fholdStart_moves _)
  · exact .ite (Moves.refl _ h) ((Moves.refl _ h).hinge _))

theorem daDecide_moves (h : Hub) (t : Tone) : Moves (faultFoot.join ⟨[.regs], [], []⟩) h (h.daDecide t) :=
  .ite (Moves.refl _ h) (.bind ((Moves.refl _ h).hinge _) fun y => .bind ((Moves.ite (y.to (raise_moves _ _ _ _ _)) (y.to
    (lower_moves _ _ _))).putAny _ _ _ _) fun y2 => .ite ((y2.hinge _).to (history_moves _ _ _)) y2)

theorem showMargin_moves (h : Hub) (lane m : Nat) : Moves ⟨[.regs, .ret, .hinge], [], []⟩ h (h.showMargin lane m) :=
  .ite ((Moves.refl _ h).wrAny _ _ _ _) (((((Moves.refl _ h).wrAny _ _ _ _).wrAny _ _ _ _).to (modLane_moves _ _ _)).ret _)

theorem judgeMargin_moves (h : Hub) (lane m : Nat) : Moves (faultFoot.join ⟨[.regs], [], []⟩) h (h.judgeMargin lane m) :=
  .ite (Moves.refl _ h) (.bind ((Moves.refl _ h).to (modLane_moves _ _ _)) fun y => .ite (.ite (y.to
    (raise_moves _ _ _ _ _)) (y.to (fieldRise_moves _ _ _ _))) (.ite (.ite (y.to (lower_moves _ _ _)) (y.to
    (fieldFall_moves _ _ _))) y))

theorem sendMargin_moves (h : Hub) (lane m : Nat) : Moves ⟨[.hinge], [], []⟩ h (h.sendMargin lane m) :=
  ((Moves.refl _ h).hinge _).to (sendF_moves _ _)

/-! ### Inputs -/

theorem crossing_moves (h : Hub) (c : Nat) (on : Bool) : Moves (faultFoot.join ⟨[.regs, .ins], [], []⟩) h
    (h.crossing c on) :=
  .bind ((Moves.refl _ h).to (modIn_moves _ _ _)) fun y => .ite y ((Moves.ite (.bind (y.to (modIn_moves _ _ _)) fun y1 =>
    .ite (y1.trans (forcing_moves _ _ _ (fun _ => (Moves.refl _ _).to (inSet_moves _ _ _ _)))) y1) (.ite (y.to
    (modIn_moves _ _ _)) (.ite (y.to (modIn_moves _ _ _)) (y.to (modIn_moves _ _ _))))).to (syncIn_moves _ _))

theorem acceptEdge_moves (h : Hub) (c stamp : Nat) (unc : Bool) : Moves (faultFoot.join ⟨[.regs, .ins, .life], [], []⟩) h
    (h.acceptEdge c stamp unc) :=
  ((((Moves.refl _ h).to (modIn_moves _ _ _)).to (modAcc_moves _ _ _)).to (entry_moves _ _ _)).to (syncIn_moves _ _)

theorem firstState_moves (h : Hub) (c : Nat) : Moves (faultFoot.join ⟨[.regs, .ins], [], []⟩) h (h.firstState c) := by
  unfold Hub.firstState
  refine Moves.to ?_ (syncIn_moves _ _)
  split
  · exact (Moves.refl _ h).to (modIn_moves _ _ _)
  · have hstate := (Moves.refl (faultFoot.join ⟨[.regs, .ins], [], []⟩) h).to
      (modIn_moves h c fun i => { i with valid := true, deb := i.raw, cand := none, frozen := none })
    exact .ite hstate (hstate.to (entry_moves _ _ _))

theorem debounced_moves (h : Hub) (c : Nat) : Moves (faultFoot.join ⟨[.regs, .ins, .life], [], []⟩) h (h.debounced c) :=
  .ite (Moves.refl _ h) (.ite ((Moves.refl _ h).to (firstState_moves _ _)) (by
  split
  · exact (Moves.refl _ h)
  · exact (Moves.refl _ h).to (acceptEdge_moves _ _ _ _)))

theorem readTsLo_moves (h : Hub) (c : Nat) : Moves ⟨[.regs, .ins], [], []⟩ h (h.readTsLo c).2 := by
  unfold Hub.readTsLo
  split
  · exact Moves.sndOf ((Moves.refl _ h).putAny _ _ _ _)
  · exact Moves.sndOf ((((((((Moves.refl _ h).to (modIn_moves _ _ _)).putAny _ _ _ _).putAny _ _ _ _).putAny _ _ _ _).putAny
      _ _ _ _).putAny _ _ _ _).wrAny _ _ _ _)

theorem openOwn_moves (h : Hub) (c : Nat) : Moves ⟨[.regs, .ins], [], []⟩ h (h.openOwn c) :=
  .ite (Moves.refl _ h) (((Moves.refl _ h).to (modIn_moves _ _ _)).to (syncIn_moves _ _))

theorem openForeign_moves (h : Hub) (c : Nat) : Moves (faultFoot.join ⟨[.regs, .ins], [], []⟩) h (h.openForeign c) :=
  .ite (Moves.refl _ h) (.bind ((Moves.refl _ h).to (modIn_moves _ _ _)) fun y => .ite y (y.trans (forcing_moves _ _ _
    (fun _ => (Moves.refl _ _).to (inSet_moves _ _ _ _)))))

theorem resolve_moves (h : Hub) (c : Nat) : Moves (faultFoot.join ⟨[.regs, .ins, .life], [], []⟩) h (h.resolve c) := by
  unfold Hub.resolve
  split
  · exact (Moves.refl _ h).to (syncIn_moves _ _)
  · exact .ite ((Moves.refl _ h).to (debounced_moves _ _)) ((Moves.refl _ h).to (syncIn_moves _ _))

theorem ownEnd_moves (h : Hub) (c : Nat) : Moves (faultFoot.join ⟨[.regs, .ins, .life], [], []⟩) h (h.ownEnd c) := by
  unfold Hub.ownEnd
  split
  · exact (Moves.refl _ h)
  · exact .bind ((Moves.refl _ h).to (modIn_moves _ _ _)) fun y => (Moves.ite (((y.to (modIn_moves _ _ _)).to
      (inEnd_moves _ _ _)).to (inEnd_moves _ _ _)) (y.trans (forcing_moves _ _ _ (fun _ => (Moves.refl _ _).to
      (inSet_moves _ _ _ _))))).to (resolve_moves _ _)

theorem foreignEnd_moves (h : Hub) (c : Nat) : Moves (faultFoot.join ⟨[.regs, .ins, .life], [], []⟩) h (h.foreignEnd c) := by
  unfold Hub.foreignEnd
  split
  · exact (Moves.refl _ h)
  · exact .bind ((Moves.refl _ h).to (modIn_moves _ _ _)) fun y => (Moves.ite y (y.to (inEnd_moves _ _ _))).to
      (resolve_moves _ _)

theorem writeInFlt_moves (h : Hub) (c v : Nat) (port : Option (Nat × Nat)) : Moves ⟨[.regs, .hinge], [], []⟩ h
    (h.writeInFlt c v port) :=
  .bind (((Moves.refl _ h).countAny _ _ _ _).foldl fun _ _ _ => .ite ((Moves.refl _ _).putAny _ _ _ _)
    (Moves.refl _ _)) fun y2 => .ite y2 (y2.to (request_moves _ _ _ _))

/-! ### Nvm -/

theorem slotWritten_moves (h : Hub) : Moves ⟨[.regs, .blk], [], []⟩ h (h.slotWritten) :=
  ((Moves.refl _ h).wrAny _ _ _ _).blk _

theorem nvmGo_moves (h : Hub) : Moves ⟨[.regs, .blk, .nvmOp, .nvmQ], [], []⟩ h (h.nvmGo) :=
  .ite (Moves.refl _ h) (by
  split
  · exact (Moves.refl _ h)
  · exact .bind ((Moves.refl _ h).nvmOp_nvmQ _ _) fun y => .ite (y.to (slotWritten_moves _)) y)

theorem nvmAdd_moves (h : Hub) (o : NvmOp) : Moves ⟨[.regs, .blk, .nvmOp, .nvmQ], [], []⟩ h (h.nvmAdd o) :=
  ((Moves.refl _ h).nvmQ _).to (nvmGo_moves _)

theorem costEnd_moves (h : Hub) (k : CandKind) (ref : Nat) : Moves ⟨[.sch], [], []⟩ h (h.costEnd k ref) :=
  (Moves.refl _ h).sch _

theorem nvmCand_moves (h : Hub) (erase : Bool) (ref rank : Nat) : Moves ⟨[.regs, .sch], [], []⟩ h
    (h.nvmCand erase ref rank) :=
  (Moves.refl _ h).to (submit_moves _ _)

theorem nvmEffect_moves (h : Hub) (o : NvmOp) (good good1 : Bool) : Moves ⟨[.nvm, .free], [], []⟩ h
    (h.nvmEffect o good good1) :=
  .ite (Moves.refl _ h) (.ite ((Moves.refl _ h).to (onNvm_moves _ _ _ _ (fun _ => o.make_wf) fun _ => o.make_wf))
    (((Moves.refl _ h).to (freeBytes_moves _ _)).to (onNvm_moves _ _ _ _ (fun _ => o.made_or_cut_wf) fun _ =>
      o.made_or_cut_wf)))

theorem nvmDone_moves (h : Hub) (good good1 : Bool) : Moves ⟨[.regs, .blk, .nvm, .nvmOp, .nvmQ, .free], [], []⟩ h
    (h.nvmDone good good1) := by
  unfold Hub.nvmDone
  split
  · exact (Moves.refl _ h)
  · exact (((Moves.refl _ h).nvmOp _).to (nvmEffect_moves _ _ _ _)).to (nvmGo_moves _)

theorem nvmFaults_moves (h : Hub) (res : Nat) (mirrorOk : Bool) : Moves (faultFoot.join ⟨[.regs], [], []⟩) h
    (h.nvmFaults res mirrorOk) :=
  .bind (.ite ((Moves.refl _ h).to (event_moves _ _ _ _)) (Moves.refl _ h)) fun y => .ite (y.to (event_moves _ _ _ _)) y

/-! ### Images -/

theorem retainedJudge_moves (h : Hub) : Moves (faultFoot.join ⟨[.regs, .sup], [], []⟩) h (h.retainedJudge) :=
  .bind ((((Moves.refl _ h).ret _).to (bootDomains_moves _)).wrAny _ _ _ _) fun y => .ite (y.to (event_moves _ _ _ _)) y

/-! ### Resets -/

theorem trigger_moves (h : Hub) : Moves (faultFoot.join ⟨[.regs, .sup, .life], [], []⟩) h (h.trigger) :=
  .ite (Moves.refl _ h) (.bind ((Moves.refl _ h).dev_life _ _) fun y => .bind (.ite (y.to (retainedJudge_moves _)) (y.to
    (bootDomains_moves _))) fun y1 => ((Moves.ite (y1.to (history_moves _ _ _)) y1).dev_sup _ _).to (wantTone_moves _ _))

theorem nvmFinish_moves (h : Hub) : Moves ⟨[.nvm, .nvmOp], [], []⟩ h (h.nvmFinish) := by
  unfold Hub.nvmFinish
  split
  · exact (Moves.refl _ h)
  · exact .ite ((Moves.refl _ h).nvmOp _)
      (((Moves.refl _ h).nvmOp _).to (onNvm_moves _ _ _ _ (fun _ => NvmOp.make_wf _) fun _ => NvmOp.make_wf _))

theorem nvmAtReset_moves (h : Hub) (shifting : Bool) : Moves ⟨[.nvm, .nvmOp, .free], [], []⟩ h (h.nvmAtReset shifting) :=
  .ite ((Moves.refl _ h).to (abandonNvm_moves _ _)) ((Moves.refl _ h).to (nvmFinish_moves _))

theorem orderReset_moves (h : Hub) (cause ward : Nat) : Moves ⟨[.dev], [], []⟩ h (h.orderReset cause ward) :=
  .ite (Moves.refl _ h) ((Moves.refl _ h).dev _)

theorem writeRstDev_moves (h : Hub) (w v : Nat) : Moves ⟨[.dev], [], []⟩ h (h.writeRstDev w v) :=
  .ite ((Moves.refl _ h).to (orderReset_moves _ _ _)) (Moves.refl _ h)

theorem dropOps_moves (h : Hub) (w : Nat) : Moves ⟨[.regs, .sch, .eng], [], []⟩ h (h.dropOps w) :=
  ((Moves.refl _ h).to (dropCand_moves _ _)).eng _

theorem holdChannel_moves (h : Hub) (c : Nat) : Moves ⟨[.regs, .hinge, .outs, .sch], [], []⟩ h (h.holdChannel c) :=
  .bind ((((Moves.refl _ h).to (dropCand_moves _ _)).to (modOut_moves _ _ _)).putAny _ _ _ _) fun y1 => .ite y1 (.bind
    (y1.putAny _ _ _ _) fun y2 => .ite (y2.to (command_moves _ _ _ _)) y2)

theorem resetTumbler_moves (h : Hub) (t : Nat) : Moves ⟨[.regs, .hinge, .tmbs, .sch, .flt, .ints, .pins, .eng, .mem, .free],
    [], []⟩ h (h.resetTumbler t) :=
  .bind (((Moves.refl _ h).to (tmbStop_movesAny _ _ _ _)).to (lower_moves _ _ _)) fun y => ((((Moves.ite
    (y.wrAny _ _ _ _) y).putAny _ _ _ _).wrAny _ _ _ _).wrAny _ _ _ _).wrAny _ _ _ _

theorem wardReset_moves (h : Hub) (w reason : Nat) : Moves ⟨[.regs, .dev, .hinge, .outs, .ins, .tmbs, .sch, .flt, .ints,
    .pins, .eng, .banks, .mem, .wds, .free], [], []⟩ h (h.wardReset w reason) :=
  .ite (Moves.refl _ h) (.ite (.ite ((Moves.refl _ h).wrAny _ _ _ _) (Moves.refl _ h)) (.bind (((((((((((Moves.refl _ h).to
    (setWard_moves _ _ _)).putAny _ _ _ _).wrAny _ _ _ _).to (closePages_movesAny _ _ _)).forAll fun _ _ _ =>
    (Moves.refl _ _).to (resetTumbler_moves _ _)).forAll fun _ _ _ => ((Moves.refl _ _).to (holdChannel_moves _ _)).to
    (modIn_moves _ _ _)).to (dropOps_moves _ _)).to (wardHandovers_moves _ _)).to (modWd_moves _ _ _)).to
    (modInt_moves _ _ _)) fun y8 => .ite (y8.forAll fun _ _ _ => (Moves.refl _ _).putAny _ _ _ _) y8))

theorem restoreFld_moves (h : Hub) (f : Fld) (i w : Nat) : Moves ⟨[.regs], [], []⟩ h (h.restoreFld f i w) :=
  (Moves.refl _ h).anyRegs _

theorem resetFld_moves (h : Hub) (w : Nat) (f : Fld) : Moves ⟨[.regs], [], []⟩ h (h.resetFld w f) :=
  .ite ((Moves.refl _ h).wrAny _ _ _ _) (.ite (Moves.refl _ h) ((Moves.refl _ h).to (restoreFld_moves _ _ _ _)))

theorem resetInput_moves (h : Hub) (c : Nat) : Moves (faultFoot.join ⟨[.regs, .ins], [], []⟩) h (h.resetInput c) := by
  unfold Hub.resetInput
  have hreset := (((Moves.refl (faultFoot.join ⟨[.regs, .ins], [], []⟩) h).to
    (modIn_moves h c fun i => { i with fifo := i.fifo.drop i.old, old := 0, gapNext := false })).wrAny
    IN_FIFO_overflow 0 c 0).wrAny IN_FIFO_discarded 0 c 0
  exact hreset.trans (forcing_moves _ _ _ fun k => (Moves.refl _ k).to (modIn_moves _ _ _))

theorem clearRing_moves (h : Hub) (w bank log2 base : Nat) : Moves ⟨[.mem, .bad], [], []⟩ h (h.clearRing w bank log2 base) :=
  .ite ((Moves.refl _ h).to (clearMem_moves _ _ _)) (Moves.refl _ h)

theorem wardClear_moves (h : Hub) (w : Nat) : Moves ⟨[.regs, .mem, .bad], [], []⟩ h (h.wardClear w) :=
  .ite ((Moves.refl _ h).forAll fun _ _ _ => ((Moves.refl _ _).to (clearBank_moves _ _)).putAny _ _ _ _) (.ite (.bind (.ite
    ((Moves.refl _ h).to (clearRing_moves _ _ _ _ _)) (Moves.refl _ h)) fun y1 => .ite (y1.to
    (clearRing_moves _ _ _ _ _)) y1) (Moves.refl _ h))

theorem wardFields_moves (h : Hub) (w : Nat) : Moves (faultFoot.join ⟨[.regs, .ins], [], []⟩) h (h.wardFields w) :=
  ((((Moves.refl _ h).foldl fun _ _ _ => (Moves.refl _ _).to (resetFld_moves _ _ _)).forAll fun _ _ _ => .bind
    ((Moves.refl _ _).to (resetInput_moves _ _)) fun y3 => .ite y3 (((y3.wrAny _ _ _ _).wrAny _ _ _ _).to
    (request_moves _ _ _ _))).forAll fun _ _ _ => (((Moves.refl _ _).to
    (restoreFld_moves _ _ _ _)).wrAny _ _ _ _).putAny _ _ _ _).forAll fun _ _ _ => ((Moves.refl _ _).to
    (restoreFld_moves _ _ _ _)).to (restoreFld_moves _ _ _ _)

theorem wardResetDone_moves (h : Hub) (w : Nat) : Moves (faultFoot.join ⟨[.regs, .ins, .bad, .dpLow, .dpHigh], [], []⟩) h
    (h.wardResetDone w) :=
  .ite (Moves.refl _ h) (.bind ((((((((Moves.refl _ h).to (wardClear_moves _ _)).to
    (wardFields_moves _ _)).wrAny _ _ _ _).putAny _ _ _ _).eng_dpLow_dpHigh _ _ _).to (setWard_moves _ _ _)).to
    (wdStart_moves _ _)) fun y3 => .bind (.ite (y3.to (holdWard_moves _ _ _)) y3) fun y4 => .bind (.ite (y4.to
    (intEvent_moves _ _ _)) y4) fun y5 => .bind (.ite (y5.to (intEvent_moves _ _ _)) y5) fun y6 => .ite (y6.to
    (intEvent_moves _ _ _)) y6)

theorem writeRstWard_moves (h : Hub) (w v : Nat) : Moves ⟨[.regs, .dev, .hinge, .outs, .ins, .tmbs, .sch, .flt, .ints, .pins,
    .eng, .banks, .mem, .wds, .free], [], []⟩ h (h.writeRstWard w v) :=
  .ite ((Moves.refl _ h).to (wardReset_moves _ _ _)) (Moves.refl _ h)

theorem writeRstField_moves (h : Hub) (w v : Nat) : Moves ⟨[.regs, .hinge, .outs, .tmbs, .sch, .ints, .pins, .fieldReset,
    .fieldSince], [], []⟩ h (h.writeRstField w v) :=
  .ite ((((((Moves.refl _ h).putAny _ _ _ _).putAny _ _ _ _).countAny _ _ _ _).fieldReset_fieldSince _ _).to
    (sendSafe_moves _ _ (fun _ hc => (List.mem_range.mp (List.mem_filter.mp hc).1)))) (Moves.refl _ h)

end Sys2Proof.Machine

/-!
PROOF. The footprints of the model's functions, a section for each of its files: Outputs, Deadbolt, Life, Recorder, Supplies.
-/

namespace Sys2Proof.Machine

set_option Elab.async false

/-! ### Outputs -/

theorem cancelCh_moves (h : Hub) (c : Nat) (on : Bool) : Moves ⟨[.regs, .outs, .sch], [], []⟩ h (h.cancelCh c on) :=
  (((Moves.refl _ h).to (dropCand_moves _ _)).to (modOut_moves _ _ _)).putAny _ _ _ _

theorem setShed_moves (h : Hub) (c : Nat) (b : Bool) : Moves ⟨[.regs], [], []⟩ h (h.setShed c b) :=
  ((Moves.refl _ h).putAny _ _ _ _).wrAny _ _ _ _

theorem endShed_moves (h : Hub) (c : Nat) : Moves ⟨[.regs, .sch], [], []⟩ h (h.endShed c) :=
  ((Moves.refl _ h).to (dropCand_moves _ _)).forAll fun _ _ _ => (Moves.refl _ _).to (setShed_moves _ _ _)

theorem lsySend_moves (h : Hub) (f : LFrame) : Moves ⟨[.regs, .lsy], [], []⟩ h (h.lsySend f) :=
  .ite ((Moves.refl _ h).lsy _) (.bind ((Moves.refl _ h).countAny _ _ _ _) fun y => by
  split
  · exact .ite (y.lsy _) y
  · exact y)

theorem pairSchedule_moves (h : Hub) (t : Nat) : Moves ⟨[.regs, .sch, .lsy], [], []⟩ h (h.pairSchedule t) :=
  ((((Moves.refl _ h).lsy _).putAny _ _ _ _).wrAny _ _ _ _).to (submit_moves _ _)

theorem pairTry_moves (h : Hub) : Moves ⟨[.regs, .sch, .lsy], [], []⟩ h (h.pairTry) :=
  .ite (((Moves.refl _ h).to (lsySend_moves _ _)).to (pairSchedule_moves _ _)) (Moves.refl _ h)

theorem pairCancel_moves (h : Hub) : Moves ⟨[.regs, .sch, .lsy], [], []⟩ h (h.pairCancel) :=
  (((Moves.refl _ h).to (dropCand_moves _ _)).sch_lsy _ _).putAny _ _ _ _

theorem ownCommand_moves (h : Hub) (c : Nat) (on : Bool) : Moves ⟨[.regs, .hinge, .outs, .sch, .lsy], [], []⟩ h
    (h.ownCommand c on) :=
  .ite (((Moves.refl _ h).to (cancelCh_moves _ _ _)).to (pairTry_moves _)) (.ite ((((Moves.refl _ h).to
    (pairCancel_moves _)).to (cancelCh_moves _ _ _)).to (command_moves _ _ _ _)) (.ite ((Moves.refl _ h).to
    (cancelCh_moves _ _ _)) (.ite (((Moves.refl _ h).to (cancelCh_moves _ _ _)).to (command_moves _ _ _ _)) (.ite
    (((Moves.refl _ h).to (cancelCh_moves _ _ _)).to (command_moves _ _ _ _)) (((((Moves.refl _ h).to
    (cancelCh_moves _ _ _)).to (modOut_moves _ _ _)).putAny _ _ _ _).to (submit_moves _ _))))))

theorem rearmCh_moves (h : Hub) (c : Nat) (port : Option (Nat × Nat)) : Moves ⟨[.hinge], [], []⟩ h (h.rearmCh c port) :=
  .ite (Moves.refl _ h) (((Moves.refl _ h).hinge _).forAll fun _ _ _ => (Moves.refl _ _).to (request_moves _ _ _ _))

theorem writeOutCtrl_moves (h : Hub) (c v : Nat) (port : Option (Nat × Nat)) : Moves ⟨[.regs, .hinge, .outs, .sch, .lsy], [],
    []⟩ h (h.writeOutCtrl c v port) :=
  .ite (Moves.refl _ h) (.bind (.ite ((Moves.refl _ h).to (rearmCh_moves _ _ _)) (Moves.refl _ h)) fun y => .bind ((Moves.ite
    (y.forAll fun _ _ _ => (Moves.refl _ _).putAny _ _ _ _) y).putAny _ _ _ _) fun y3 => .ite y3 (.ite (.ite (y3.to
    (submit_moves _ _)) (y3.to (endShed_moves _ _))) (y3.to (ownCommand_moves _ _ _))))

theorem shutdown_moves (h : Hub) (c : Nat) (soft hot : Bool) : Moves ⟨[.regs, .hinge, .outs, .sch, .flt, .life], [], []⟩ h
    (h.shutdown c soft hot) :=
  (((Moves.refl _ h).to (modOut_moves _ _ _)).to (modAcc_moves _ _ _)).forAll fun _ _ _ => .bind ((((Moves.refl _ _).to
    (modOut_moves _ _ _)).to (reSwitch_movesAny _ _ _)).to (outRise_movesAny _ _ _ _)) fun y4 => .ite (y4.to
    (endShed_moves _ _)) y4

theorem tryReturn_moves (h : Hub) (c : Nat) : Moves ⟨[.regs, .hinge, .outs, .sch, .flt, .life], [], []⟩ h (h.tryReturn c) :=
  .ite (Moves.refl _ h) (.ite ((Moves.refl _ h).forAll fun _ _ _ => (((Moves.refl _ _).to (modOut_moves _ _ _)).to
    (outFall_moves _ _ _)).to (reSwitch_movesAny _ _ _)) (.ite ((Moves.refl _ h).forAll fun _ _ _ => (Moves.refl _ _).to
    (goReturn_moves _ _)) (.ite (Moves.refl _ h) ((Moves.refl _ h).to (submit_moves _ _)))))

theorem olJudge_moves (h : Hub) (c : Nat) (fail : Bool) : Moves ⟨[.regs, .hinge, .outs, .flt], [], []⟩ h
    (h.olJudge c fail) :=
  .ite (Moves.refl _ h) (.ite (.bind ((Moves.refl _ h).to (modOut_moves _ _ _)) fun y => .ite (y.to
    (outRise_movesAny _ _ _ _)) y) (((Moves.refl _ h).to (modOut_moves _ _ _)).to (outFall_moves _ _ _)))

theorem offConclude_moves (h : Hub) (c : Nat) (v : ℤ) : Moves ⟨[.regs, .hinge, .outs, .flt], [], []⟩ h (h.offConclude c v) :=
  .bind ((Moves.refl _ h).to (modOut_moves _ _ _)) fun y => .ite y (.ite (y.to (outRise_movesAny _ _ _ _)) ((y.to
    (outFall_moves _ _ _)).to (olJudge_moves _ _ _)))

theorem litStart_moves (h : Hub) (c : Nat) : Moves ⟨[.outs], [], []⟩ h (h.litStart c) :=
  (Moves.refl _ h).to (modOut_moves _ _ _)

theorem litConclude_moves (h : Hub) (c fine : Nat) : Moves ⟨[.regs, .hinge, .outs, .sch, .flt, .life], [], []⟩ h
    (h.litConclude c fine) :=
  (((Moves.refl _ h).to (modOut_moves _ _ _)).to (reSwitch_movesAny _ _ _)).to (olJudge_moves _ _ _)

theorem pairJudge_moves (h : Hub) (c : Nat) : Moves ⟨[.regs, .hinge, .outs, .flt], [], []⟩ h (h.pairJudge c) :=
  .ite (Moves.refl _ h) (.ite ((Moves.refl _ h).to (outRise_movesAny _ _ _ _)) (.ite ((Moves.refl _ h).to
    (outFall_moves _ _ _)) (Moves.refl _ h)))

theorem failCheck_moves (h : Hub) (c : Nat) (stuckOn : Bool) : Moves ⟨[.regs, .hinge, .outs, .flt], [], []⟩ h
    (h.failCheck c stuckOn) :=
  .bind ((Moves.refl _ h).to (modOut_moves _ _ _)) fun y => .ite ((y.to (outRise_movesAny _ _ _ _)).to
    (pairJudge_moves _ _)) y

theorem passCheck_moves (h : Hub) (c : Nat) : Moves ⟨[.regs, .hinge, .outs, .flt], [], []⟩ h (h.passCheck c) :=
  ((((Moves.refl _ h).to (modOut_moves _ _ _)).to (outFall_moves _ _ _)).to (outFall_moves _ _ _)).to (pairJudge_moves _ _)

theorem openCheck_moves (h : Hub) (c normal fine : Nat) : Moves ⟨[.regs, .hinge, .outs, .flt], [], []⟩ h
    (h.openCheck c normal fine) :=
  .ite (by
  split
  · exact (Moves.refl _ h).to (modOut_moves _ _ _)
  · exact .ite ((Moves.refl _ h).to (outRise_movesAny _ _ _ _)) (Moves.refl _ h)) (((Moves.refl _ h).to
      (modOut_moves _ _ _)).to (outFall_moves _ _ _))

theorem checkOn_moves (h : Hub) (c : Nat) (v : ℤ) (normal fine : Nat) : Moves ⟨[.regs, .hinge, .outs, .flt], [], []⟩ h
    (h.checkOn c v normal fine) :=
  .ite (Moves.refl _ h) (.ite (((Moves.refl _ h).to (passCheck_moves _ _)).to (openCheck_moves _ _ _ _)) (.ite
    (Moves.refl _ h) ((Moves.refl _ h).to (failCheck_moves _ _ _))))

theorem checkOff_moves (h : Hub) (c : Nat) (v : ℤ) (normal : Nat) : Moves ⟨[.regs, .hinge, .outs, .flt], [], []⟩ h
    (h.checkOff c v normal) := by
  unfold Hub.checkOff
  split
  · exact (((Moves.refl _ h).to (passCheck_moves _ _)).to (outFall_moves _ _ _)).to (modOut_moves _ _ _)
  · split
    · dsimp only
      split
      · exact (Moves.refl _ h).to (modOut_moves _ _ _)
      · exact .ite ((Moves.refl _ h).to (outRise_movesAny _ _ _ _)) (Moves.refl _ h)
    · exact (Moves.refl _ h).to (failCheck_moves _ _ _)

theorem pairCompare_moves (h : Hub) (c : Nat) : Moves ⟨[.regs, .hinge, .outs, .flt], [], []⟩ h (h.pairCompare c) :=
  .ite (Moves.refl _ h) (((Moves.refl _ h).to (modOut_moves _ _ _)).to (pairJudge_moves _ _))

theorem readback_moves (h : Hub) (c : Nat) (v : ℤ) (normal fine : Nat) : Moves ⟨[.regs, .hinge, .outs, .sch, .flt], [],
    []⟩ h (h.readback c v normal fine) := by
  unfold Hub.readback
  extract_lets k1 ma k2 o k3 l1 k4
  have y1 : Moves ⟨[.regs, .hinge, .outs, .sch, .flt], [], []⟩ h k1 :=
    .ite (((((Moves.refl _ h).wrAny _ _ _ _).wrAny _ _ _ _).wrAny _ _ _ _).putAny _ _ _ _) (Moves.refl _ h)
  have y2 : Moves ⟨[.regs, .hinge, .outs, .sch, .flt], [], []⟩ h k2 := (y1.to (modOut_moves _ _ _)).to
    (pairCompare_moves _ _)
  have y3 : Moves ⟨[.regs, .hinge, .outs, .sch, .flt], [], []⟩ h k3 := by
    dsimp only [k3]
    split
    · exact .ite (y2.to (modOut_moves _ _ _)) y2
    · exact y2
  have y4 : Moves ⟨[.regs, .hinge, .outs, .sch, .flt], [], []⟩ h k4 := .ite (y3.sch _) y3
  exact .ite (y4.to (offConclude_moves _ _ _)) (.ite y4 (.ite (y4.to (checkOn_moves _ _ _ _ _)) (y4.to
    (checkOff_moves _ _ _ _))))

theorem pulseStart_moves (h : Hub) (c : Nat) (k : PulseKind) : Moves ⟨[.outs], [], []⟩ h (h.pulseStart c k) :=
  (Moves.refl _ h).forAll fun _ _ _ => (Moves.refl _ _).to (modOut_moves _ _ _)

theorem writeOutRt_moves (h : Hub) (c v : Nat) (port : Option (Nat × Nat)) : Moves ⟨[.regs, .hinge], [], []⟩ h
    (h.writeOutRt c v port) :=
  .ite (Moves.refl _ h) ((((Moves.refl _ h).wrAny _ _ _ _).wrAny _ _ _ _).to (request_moves _ _ _ _))

theorem writeOutFlt_moves (h : Hub) (c v : Nat) (port : Option (Nat × Nat)) : Moves ⟨[.regs, .hinge], [], []⟩ h
    (h.writeOutFlt c v port) :=
  .bind (((Moves.refl _ h).countAny _ _ _ _).foldl fun _ _ _ => .ite ((Moves.refl _ _).putAny _ _ _ _)
    (Moves.refl _ _)) fun y2 => .ite y2 (y2.to (request_moves _ _ _ _))

/-! ### Deadbolt -/

theorem setHalf_moves (h : Hub) (field : Bool) (x : Half) : Moves ⟨[.regs, .dbt], [], []⟩ h (h.setHalf field x) :=
  ((Moves.refl _ h).dbt _).putAny _ _ _ _

theorem hbSend_moves (h : Hub) (field : Bool) : Moves ⟨[.regs, .hinge, .dbt], [], []⟩ h (h.hbSend field) :=
  .bind ((Moves.refl _ h).to (setHalf_moves _ _ _)) fun y => .ite (y.to (sendF_moves _ _)) ((y.wrAny _ _ _ _).to
    (sendL_moves _ _))

theorem hbRaise_moves (h : Hub) (field : Bool) (detail : Nat) : Moves (faultFoot.join ⟨[.regs], [], []⟩) h
    (h.hbRaise field detail) :=
  .ite (Moves.refl _ h) (.ite ((Moves.refl _ h).to (fieldRise_moves _ _ _ _)) (.ite (Moves.refl _ h) ((Moves.refl _ h).to
    (raise_moves _ _ _ _ _))))

theorem hbLower_moves (h : Hub) (field drift : Bool) : Moves ⟨[.hinge, .flt], [], []⟩ h (h.hbLower field drift) :=
  .ite ((Moves.refl _ h).to (fieldFall_moves _ _ _)) ((Moves.refl _ h).to (lower_moves _ _ _))

theorem hbCount_moves (h : Hub) (field : Bool) : Moves ⟨[.regs], [], []⟩ h (h.hbCount field) :=
  .ite (Moves.refl _ h) ((Moves.refl _ h).countAny _ _ _ _)

theorem hbValid_moves (h : Hub) (field : Bool) (ctr stamp : Nat) : Moves (faultFoot.join ⟨[.regs], [], []⟩) h
    (h.hbValid field ctr stamp) :=
  .bind ((Moves.ite (Moves.refl _ h) ((Moves.refl _ h).to (hbCount_moves _ _))).to (setHalf_moves _ _ _)) fun y1 => .bind
    ((Moves.ite y1 (y1.wrAny _ _ _ _)).to (hbLower_moves _ _ _)) fun y3 => .ite (y3.to (hbRaise_moves _ _ _)) (.ite (y3.to
    (hbLower_moves _ _ _)) y3)

theorem hbInvalid_moves (h : Hub) (field : Bool) : Moves (faultFoot.join ⟨[.regs], [], []⟩) h (h.hbInvalid field) :=
  .bind (((Moves.refl _ h).to (hbCount_moves _ _)).to (setHalf_moves _ _ _)) fun y => .ite (y.to (hbRaise_moves _ _ _)) y

theorem recvHb_moves (h : Hub) (field : Bool) (payload stamp : Nat) : Moves (faultFoot.join ⟨[.regs], [], []⟩) h
    (h.recvHb field payload stamp) :=
  .ite (Moves.refl _ h) (.ite ((Moves.refl _ h).to (hbValid_moves _ _ _ _)) ((Moves.refl _ h).to (hbInvalid_moves _ _)))

theorem tempCompare_moves (h : Hub) (sensor : Nat) (a b : ℤ) : Moves (faultFoot.join ⟨[.regs], [], []⟩) h
    (h.tempCompare sensor a b) :=
  .ite (Moves.refl _ h) (.bind ((Moves.refl _ h).dbt _) fun y => .ite (.ite y (.ite (y.to (raise_moves _ _ _ _ _)) (.ite y
    ((y.dbt _).to (fieldRise_moves _ _ _ _))))) (.ite (y.to (lower_moves _ _ _)) (.bind (y.dbt _) fun y1 => .ite (y1.to
    (fieldFall_moves _ _ _)) y1)))

theorem beginProof_moves (h : Hub) (x : Nat × Nat) (rot : Bool) : Moves ⟨[.dbt], [], []⟩ h (h.beginProof x rot) :=
  (Moves.refl _ h).dbt _

theorem rotationEnd_moves (h : Hub) : Moves ⟨[.regs, .ret, .dbt, .recd, .bst], [], []⟩ h (h.rotationEnd) :=
  .ite (Moves.refl _ h) ((((Moves.refl _ h).countAny _ _ _ _).to (note_moves _ _ _ _ _ _ _)).dbt _)

theorem showAges_moves (h : Hub) : Moves ⟨[.regs], [], []⟩ h (h.showAges) :=
  (Moves.refl _ h).wrAny _ _ _ _

theorem proofHealed_moves (h : Hub) : Moves ⟨[.flt], [], []⟩ h (h.proofHealed) :=
  .ite ((Moves.refl _ h).to (lower_moves _ _ _)) (Moves.refl _ h)

theorem pauseFailed_moves (h : Hub) : Moves ⟨[.dbt, .flt], [], []⟩ h (h.pauseFailed) :=
  .ite (Moves.refl _ h) (((Moves.refl _ h).dbt _).to (proofHealed_moves _))

theorem passCounts_moves (h : Hub) (mech inst ticks : Nat) : Moves ⟨[.regs, .dbt, .flt], [], []⟩ h
    (h.passCounts mech inst ticks) :=
  (((((Moves.refl _ h).countAny _ _ _ _).wrAny _ _ _ _).dbt _).to (proofHealed_moves _)).to (showAges_moves _)

theorem showLast_moves (h : Hub) (mech inst ticks : Nat) (pass : Bool) : Moves ⟨[.regs], [], []⟩ h
    (h.showLast mech inst ticks pass) :=
  (((((Moves.refl _ h).wrAny _ _ _ _).wrAny _ _ _ _).putAny _ _ _ _).putAny _ _ _ _).wrAny _ _ _ _

theorem proofFail_moves (h : Hub) (mech inst ticks : Nat) (late none_ overdue : Bool) : Moves (faultFoot.join ⟨[.regs], [],
    []⟩) h (h.proofFail mech inst ticks late none_ overdue) :=
  .bind ((((((((Moves.refl _ h).wrAny _ _ _ _).wrAny _ _ _ _).putAny _ _ _ _).putAny _ _ _ _).putAny _ _ _ _).countAny _ _ _
    _).to (note_moves _ _ _ _ _ _ _)) fun y2 => ((Moves.ite y2 (y2.dbt _)).to (raise_moves _ _ _ _ _)).to
    (pauseFailed_moves _)

theorem proofDetect_moves (h : Hub) (p : Proof) (ticks : Nat) : Moves (faultFoot.join ⟨[.regs], [], []⟩) h
    (h.proofDetect p ticks) :=
  .bind (((Moves.refl _ h).dbt _).to (showLast_moves _ _ _ _ _)) fun y1 => .ite (y1.to (passCounts_moves _ _ _ _)) (y1.to
    (proofFail_moves _ _ _ _ _ _ _))

theorem recheckRaise_moves (h : Hub) (mech inst : Nat) : Moves (faultFoot.join ⟨[.regs, .sup, .clk, .ins, .ports, .life], [],
    []⟩) h (h.recheckRaise mech inst) := by
  unfold Hub.recheckRaise
  split
  · exact (Moves.refl _ h).to (raise_moves _ _ _ _ _)
  · exact (Moves.refl _ h).to (fieldRise_moves _ _ _ _)
  · exact (Moves.refl _ h).to (fieldRise_moves _ _ _ _)
  · exact .ite ((Moves.refl _ h).to (loseL_moves _)) ((Moves.refl _ h).to (loseF_moves _))
  · exact (Moves.refl _ h).to (hbRaise_moves _ _ _)
  · exact (Moves.refl _ h).to (hbRaise_moves _ _ _)
  · exact (Moves.refl _ h).to (outRise_movesAny _ _ _ _)
  · exact (Moves.refl _ h).to (event_moves _ _ _ _)
  · exact (Moves.refl _ h).to (fieldRise_moves _ _ _ _)
  · exact .ite ((Moves.refl _ h).to (raise_moves _ _ _ _ _)) ((Moves.refl _ h).to (raise_moves _ _ _ _ _))
  · exact (Moves.refl _ h).to (event_moves _ _ _ _)
  · exact .ite ((Moves.refl _ h).to (fieldRise_moves _ _ _ _)) ((Moves.refl _ h).to (raise_moves _ _ _ _ _))
  · exact (Moves.refl _ h).to (outRise_movesAny _ _ _ _)
  · exact (Moves.refl _ h).trans (forcing_moves _ _ _ (fun _ => (Moves.refl _ _).to (inSet_moves _ _ _ _)))
  · exact (Moves.refl _ h).to (event_moves _ _ _ _)
  · exact (Moves.refl _ h)

theorem recheckEnd_moves {F : Foot} (h : Hub) (warnRise : Hub → Hub) (present : Bool) (hf : ∀ k, Moves F k (warnRise k))
    (hF : (faultFoot.join ⟨[.regs, .sup, .clk, .ins, .ports, .life], [], []⟩).within F = true := by decide +kernel) :
    Moves F h (h.recheckEnd warnRise present) := by
  have hsub {G : Foot} (hG : G.within (faultFoot.join ⟨[.regs, .sup, .clk, .ins, .ports, .life], [],
    []⟩) = true) : G.within F = true :=
    Foot.within_trans hG hF
  have hend : Moves F h h.abandonProof := (abandonProof_moves h).mono (hsub (by decide +kernel))
  have hshow (k : Hub) : Moves F k (k.put DBT_PROOF_LAST_overlap true) :=
    Moves.mono ((Moves.refl ⟨[.regs], [], []⟩ k).putAny _ _ _ _) (hsub (by decide +kernel))
  have hraise (k : Hub) (m i : Nat) : Moves F k (k.recheckRaise m i) := (recheckRaise_moves k m i).mono (hsub
    (by decide +kernel))
  have hrot (k : Hub) : Moves F k k.rotationEnd := (rotationEnd_moves k).mono (hsub (by decide +kernel))
  unfold Hub.recheckEnd
  split
  · refine Moves.ite (Moves.refl F h) ?_
    extract_lets k1 k2 k3
    have hoverlap : Moves F h k2 := hend.trans (hshow _)
    have hrise : Moves F h k3 := .ite (.ite (.ite (hoverlap.trans (hf _)) hoverlap) (hoverlap.trans (hraise _ _ _))) hend
    exact .ite (hrise.trans (hrot _)) hrise
  · exact Moves.refl F h

theorem rotate_moves (h : Hub) : Moves ⟨[.regs, .ret, .dbt, .recd, .bst], [], []⟩ h (h.rotate) := by
  unfold Hub.rotate
  dsimp only
  split
  · exact (Moves.refl _ h)
  · exact .bind ((Moves.refl _ h).dbt _) fun y => .ite (y.to (rotationEnd_moves _)) (y.to (beginProof_moves _ _ _))

theorem proofDue_moves (h : Hub) : Moves ⟨[.regs, .ret, .dbt, .recd, .bst], [], []⟩ h (h.proofDue) :=
  .ite (Moves.refl _ h) (by
  split
  · exact (Moves.refl _ h).to (beginProof_moves _ _ _)
  · split
    · exact .bind ((Moves.refl _ h).dbt _) fun y => .ite (y.to (beginProof_moves _ _ _)) y
    · exact .ite (Moves.refl _ h) ((Moves.refl _ h).to (rotate_moves _)))

theorem proveAgain_moves (h : Hub) (x : Nat × Nat) : Moves ⟨[.dbt], [], []⟩ h (h.proveAgain x) :=
  ((Moves.refl _ h).dbt _).to (beginProof_moves _ _ _)

theorem writeProofCtrl_moves (h : Hub) (w v : Nat) : Moves ⟨[.dbt], [], []⟩ h (h.writeProofCtrl w v) :=
  .ite (.bind (.ite ((Moves.refl _ h).dbt _) (Moves.refl _ h)) fun y => .ite (y.dbt _) y) (Moves.refl _ h)

theorem ageInstances_moves (h : Hub) (t : Nat) : Moves ⟨[.regs, .dbt], [], []⟩ h (h.ageInstances t) :=
  ((Moves.refl _ h).dbt _).to (showAges_moves _)

theorem writeSafeExit_moves (h : Hub) (w v : Nat) : Moves ⟨[.regs, .dev, .hinge], [], []⟩ h (h.writeSafeExit w v) :=
  .ite (.ite (.ite (((Moves.refl _ h).dev _).to (wantTone_moves _ _)) (Moves.refl _ h)) ((Moves.refl _ h).countAny _ _ _ _))
    (Moves.refl _ h)

/-! ### Life -/

theorem lifeAsk_moves (h : Hub) : Moves ⟨[.regs, .sch], [], []⟩ h (h.lifeAsk) :=
  .ite ((Moves.refl _ h).to (nvmCand_moves _ _ _ _)) (.ite ((Moves.refl _ h).to (nvmCand_moves _ _ _ _)) (.ite
    ((Moves.refl _ h).to (nvmCand_moves _ _ _ _)) (Moves.refl _ h)))

theorem mirrorStart_moves (h : Hub) (trigger : Nat) : Moves ⟨[.regs, .sch, .life], [], []⟩ h (h.mirrorStart trigger) :=
  .ite ((Moves.refl _ h).life _) (.bind (((Moves.refl _ h).life _).putAny _ _ _ _) fun y1 => .ite y1 (y1.to
    (lifeAsk_moves _)))

theorem writeLifeCtrl_moves (h : Hub) (v : Nat) : Moves ⟨[.regs, .sch, .life], [], []⟩ h (h.writeLifeCtrl v) :=
  .ite (((Moves.refl _ h).putAny _ _ _ _).to (mirrorStart_moves _ _)) (Moves.refl _ h)

theorem lifeAdmit_moves (h : Hub) (erase : Bool) : Moves ⟨[.regs, .blk, .nvmOp, .nvmQ], [], []⟩ h (h.lifeAdmit erase) := by
  unfold Hub.lifeAdmit
  split
  · exact .ite ((Moves.refl _ h).to (nvmAdd_moves _ _)) ((Moves.refl _ h).to (nvmAdd_moves _ _))
  · exact .ite ((Moves.refl _ h).to (nvmAdd_moves _ _)) ((Moves.refl _ h).to (nvmAdd_moves _ _))

theorem mirrorRecord_moves (h : Hub) (slot : Nat) (failed : Bool) (serial : Nat) : Moves ⟨[.regs, .ret, .recd, .bst], [],
    []⟩ h (h.mirrorRecord slot failed serial) :=
  (Moves.refl _ h).to (note_moves _ _ _ _ _ _ _)

theorem mirrorNextUp_moves (h : Hub) : Moves ⟨[.regs, .sch, .life], [], []⟩ h (h.mirrorNextUp) := by
  unfold Hub.mirrorNextUp
  dsimp only
  split
  · exact ((((Moves.refl _ h).putAny _ _ _ _).putAny _ _ _ _).life _).to (mirrorStart_moves _ _)
  · exact ((Moves.refl _ h).putAny _ _ _ _).putAny _ _ _ _

theorem mirrorGood_moves (h : Hub) (slot : Nat) (img : List Nat) : Moves ⟨[.regs, .ret, .sch, .recd, .bst, .life], [], []⟩ h
    (h.mirrorGood slot img) :=
  (((((Moves.refl _ h).ret_life _ _).countAny _ _ _ _).to (mirrorRecord_moves _ _ _ _)).to (mirrorNextUp_moves _)).to
    (lifeAsk_moves _)

theorem mirrorBad_moves (h : Hub) (slot : Nat) : Moves (faultFoot.join ⟨[.regs, .life], [], []⟩) h (h.mirrorBad slot) :=
  ((((((Moves.refl _ h).life _).countAny _ _ _ _).to (event_moves _ _ _ _)).to (mirrorRecord_moves _ _ _ _)).to
    (mirrorNextUp_moves _)).to (lifeAsk_moves _)

theorem entryWritten_moves (h : Hub) (o : NvmOp) (res : Nat) : Moves ⟨[.regs, .ret, .sch, .life], [], []⟩ h
    (h.entryWritten o res) :=
  ((Moves.refl _ h).ret_life _ _).to (lifeAsk_moves _)

theorem lifeDone_moves (h : Hub) (o : NvmOp) (res : Nat) : Moves (faultFoot.join ⟨[.regs, .life], [], []⟩) h
    (h.lifeDone o res) := by
  unfold Hub.lifeDone
  split
  · exact .ite ((Moves.refl _ h).to (mirrorBad_moves _ _)) (.ite (((Moves.refl _ h).life _).to (lifeAsk_moves _)) (.ite
      (((Moves.refl _ h).life _).to (lifeAsk_moves _)) (.ite ((Moves.refl _ h).to (mirrorGood_moves _ _ _))
      ((Moves.refl _ h).to (mirrorBad_moves _ _)))))
  · exact .ite (((Moves.refl _ h).life _).to (lifeAsk_moves _)) ((Moves.refl _ h).to (entryWritten_moves _ _ _))
  · exact (Moves.refl _ h)

theorem monthEnd_moves (h : Hub) : Moves ⟨[.regs, .ret, .sch, .recd, .bst, .life], [], []⟩ h (h.monthEnd) :=
  (((Moves.refl _ h).ret_life _ _).to (note_moves _ _ _ _ _ _ _)).to (mirrorStart_moves _ _)

theorem secondCounts_moves (h : Hub) (barrierMs : Nat) : Moves ⟨[.ret, .life], [], []⟩ h (h.secondCounts barrierMs) :=
  (Moves.refl _ h).ret_life _ _

theorem ledgerRestore_moves (h : Hub) : Moves (faultFoot.join ⟨[.regs, .life], [], []⟩) h (h.ledgerRestore) :=
  .bind ((((Moves.refl _ h).ret_life _ _).wrAny _ _ _ _).wrAny _ _ _ _) fun y1 => (Moves.ite (y1.to
    (event_moves _ _ _ _)) y1).to (note_moves _ _ _ _ _ _ _)

theorem readLifeWindow_moves (h : Hub) (w : Nat) : Moves ⟨[.regs], [], []⟩ h (h.readLifeWindow w) :=
  ((((((((((Moves.refl _ h).wrAny _ _ _ _).wrAny _ _ _ _).wrAny _ _ _ _).wrAny _ _ _ _).wrAny _ _ _ _).wrAny _ _ _ _).wrAny
    _ _ _ _).wrAny _ _ _ _).wrAny _ _ _ _).wrAny _ _ _ _

theorem apply_moves (h : Hub) (r : BRec) : Moves ⟨[.regs], [], []⟩ h (BRec.apply h r) :=
  (Moves.refl _ h).foldl fun _ _ _ => (Moves.refl _ _).wrAny _ _ _ _

/-! ### Recorder -/

theorem showRing_moves (h : Hub) : Moves (faultFoot.join ⟨[.regs], [], []⟩) h (h.showRing) := by
  unfold Hub.showRing
  have hshow (full seals : Bool) : Moves (faultFoot.join ⟨[.regs], [], []⟩) h
      ((h.put REC_STAT_full full).put REC_STAT_sealed seals) := ((Moves.refl _ h).putAny _ _ _ _).putAny _ _ _ _
  exact .ite ((hshow _ _).to (raise_moves _ _ _ _ _)) ((hshow _ _).to (lower_moves _ _ _))

theorem evicted_moves (h : Hub) (ws : List Nat) : Moves ⟨[.regs, .recd], [], []⟩ h (h.evicted ws) :=
  .bind ((Moves.refl _ h).countModAny _ _ _ _) fun y => .ite ((y.recd _).countAny _ _ _ _) y

theorem stageOne_moves (h : Hub) : Moves ⟨[.recd], [], []⟩ h (h.stageOne) := by
  unfold Hub.stageOne
  split
  · exact (Moves.refl _ h)
  · exact .ite (.bind ((Moves.refl _ h).recd _) fun y => by
      split
      · exact y
      · exact y.recd _) (Moves.refl _ h)

theorem stage_moves (h : Hub) : Moves ⟨[.recd], [], []⟩ h (h.stage) :=
  (Moves.refl _ h).foldl fun _ _ _ => (Moves.refl _ _).to (stageOne_moves _)

theorem journalNew_moves (h : Hub) (ws : List Nat) : Moves ⟨[.regs, .recd], [], []⟩ h (h.journalNew ws) :=
  .ite (Moves.refl _ h) (.ite ((Moves.refl _ h).countAny _ _ _ _) (((Moves.refl _ h).recd _).to (stage_moves _)))

theorem numberEvent_moves (h : Hub) (e : RecEvent) : Moves ⟨[.regs, .ret, .recd], [], []⟩ h (h.numberEvent e) :=
  .ite (Moves.refl _ h) (((Moves.refl _ h).to (giveSeq_moves _)).to (fifoIn_moves _ _))

theorem startNumbering_moves (h : Hub) (boot : RecEvent) : Moves ⟨[.regs, .ret, .recd], [], []⟩ h (h.startNumbering boot) :=
  ((Moves.refl _ h).ret_recd _ _).foldl fun _ _ _ => (Moves.refl _ _).to (numberEvent_moves _ _)

theorem clearEnd_moves (h : Hub) : Moves ⟨[.regs, .recd], [], []⟩ h (h.clearEnd) :=
  (((((Moves.refl _ h).recd _).putAny _ _ _ _).putAny _ _ _ _).wrAny _ _ _ _).to (stage_moves _)

theorem recWritten_moves (h : Hub) (e : RecEvent) (ws : List Nat) : Moves (faultFoot.join ⟨[.regs], [], []⟩) h
    (h.recWritten e ws) := by
  unfold Hub.recWritten
  extract_lets l1 k1 l2 k2 l3 k3 k4
  have y1 : Moves (faultFoot.join ⟨[.regs], [], []⟩) h k1 := (Moves.refl _ h).recd _
  have y2 : Moves (faultFoot.join ⟨[.regs], [], []⟩) h k2 := .ite (y1.recd _) y1
  have y3 : Moves (faultFoot.join ⟨[.regs], [], []⟩) h k3 := .ite (y2.ret _) y2
  have y4 : Moves (faultFoot.join ⟨[.regs], [], []⟩) h k4 := by
    dsimp only [k4]
    split
    · exact .ite (y3.to (clearEnd_moves _)) y3
    · exact y3
  exact (y4.to (showRing_moves _)).to (journalNew_moves _ _)

theorem submitPage_moves (h : Hub) : Moves ⟨[.regs, .sch, .recd], [], []⟩ h (h.submitPage) :=
  ((Moves.refl _ h).recd _).to (nvmCand_moves _ _ _ _)

theorem submitErase_moves (h : Hub) : Moves ⟨[.regs, .sch], [], []⟩ h (h.submitErase) :=
  (Moves.refl _ h).to (nvmCand_moves _ _ _ _)

theorem journalAdmit_moves (h : Hub) : Moves ⟨[.regs, .blk, .nvmOp, .nvmQ], [], []⟩ h (h.journalAdmit) :=
  (Moves.refl _ h).to (nvmAdd_moves _ _)

theorem eraseAdmit_moves (h : Hub) : Moves ⟨[.regs, .sch, .blk, .nvmOp, .nvmQ], [], []⟩ h (h.eraseAdmit) :=
  ((Moves.refl _ h).sch _).to (nvmAdd_moves _ _)

theorem sealJournal_moves (h : Hub) : Moves ⟨[.regs, .recd], [], []⟩ h (h.sealJournal) :=
  (((Moves.refl _ h).recd _).putAny _ _ _ _).countAny _ _ _ _

theorem enterSector_moves (h : Hub) : Moves ⟨[.recd], [], []⟩ h (h.enterSector) :=
  (Moves.refl _ h).recd _

theorem nextPage_moves (h : Hub) : Moves ⟨[.regs, .recd], [], []⟩ h (h.nextPage) :=
  .bind ((Moves.refl _ h).wrAny _ _ _ _) fun y => .ite y (.ite (y.to (enterSector_moves _)) (y.putAny _ _ _ _))

theorem pageGood_moves (h : Hub) (copy : Bool) : Moves ⟨[.regs, .sch, .recd], [], []⟩ h (h.pageGood copy) :=
  .ite (.bind ((((Moves.refl _ h).recd _).countAny _ _ _ _).to (nextPage_moves _)) fun y1 => .ite (.ite (y1.to
    (submitPage_moves _)) y1) (.ite ((y1.recd _).to (submitErase_moves _)) y1)) (((Moves.refl _ h).recd _).to
    (nextPage_moves _))

theorem pageBad_moves (h : Hub) : Moves (faultFoot.join ⟨[.regs], [], []⟩) h (h.pageBad) :=
  .bind ((((Moves.refl _ h).recd _).to (event_moves _ _ _ _)).to (nextPage_moves _)) fun y1 => .ite (y1.putAny _ _ _ _) (.ite
    (y1.to (submitPage_moves _)) y1)

theorem clearNext_moves (h : Hub) : Moves ⟨[.regs, .sch, .recd], [], []⟩ h (h.clearNext) := by
  unfold Hub.clearNext
  split
  · exact (Moves.refl _ h).to (submitErase_moves _)
  · exact (((((Moves.refl _ h).wrAny _ _ _ _).putAny _ _ _ _).putAny _ _ _ _).recd _).to (clearEnd_moves _)

theorem scanDone_moves (h : Hub) (ok : Bool) : Moves (faultFoot.join ⟨[.regs], [], []⟩) h (h.scanDone ok) :=
  .bind (((Moves.refl _ h).recd _).putAny _ _ _ _) fun y => .ite ((y.putAny _ _ _ _).to (event_moves _ _ _ _)) (.bind
    ((y.wrAny _ _ _ _).recd _) fun y2 => (Moves.ite y2 (y2.to (enterSector_moves _))).to (stage_moves _))

theorem readSqbHi_moves (h : Hub) (w : Nat) : Moves ⟨[.regs], [], []⟩ h (h.readSqbHi w) :=
  (Moves.refl _ h).wrAny _ _ _ _

theorem readNewest_moves (h : Hub) (w : Nat) : Moves ⟨[.regs], [], []⟩ h (h.readNewest w) :=
  (Moves.refl _ h).wrAny _ _ _ _

theorem writeJrdCtrl_moves (h : Hub) (v : Nat) : Moves ⟨[.regs, .recd], [], []⟩ h (h.writeJrdCtrl v) :=
  .bind ((Moves.refl _ h).wrAny _ _ _ _) fun y => .ite y (.ite (y.wrAny _ _ _ _)
    (((y.putAny _ _ _ _).putAny _ _ _ _).recd _))

theorem readNonce_moves (h : Hub) : Moves ⟨[.regs, .recd, .free], [], []⟩ h (h.readNonce).2 :=
  Moves.sndOf (((((((Moves.refl _ h).to (freeNat_moves _ _)).recd _).wrAny _ _ _ _).wrAny _ _ _ _).wrAny _ _ _ _).wrAny _ _
    _ _)

theorem checkToken_moves (h : Hub) : Moves (faultFoot.join ⟨[.regs], [], []⟩) h (h.checkToken) := by
  unfold Hub.checkToken
  extract_lets a
  split
  · exact (Moves.refl _ h).wrAny _ _ _ _
  · exact (Moves.refl _ h).wrAny _ _ _ _
  · split
    · exact (Moves.refl _ h).wrAny _ _ _ _
    · split
      · exact (Moves.refl _ h).wrAny _ _ _ _
      · have y1 := (Moves.refl (faultFoot.join ⟨[.regs], [], []⟩) h).foldl (f := fun k i => k.wr REC_CLEAR_TOKEN_bytes 0 i)
          (l := List.range 4) fun k _ _ => (Moves.refl _ k).wrAny _ _ _ _
        exact .ite ((((y1.recd _).recd _).putAny _ _ _ _).putAny _ _ _ _) (((((y1.recd _).recd _).wrAny _ _ _ _).countAny
          _ _ _ _).to (event_moves _ _ _ _))

theorem writeToken_moves (h : Hub) (n v : Nat) : Moves (faultFoot.join ⟨[.regs], [], []⟩) h (h.writeToken n v) :=
  .bind ((Moves.refl _ h).wrAny _ _ _ _) fun y => .ite (y.to (checkToken_moves _)) y

theorem writeKeyCtrl_moves (h : Hub) (v : Nat) : Moves ⟨[.regs, .recd], [], []⟩ h (h.writeKeyCtrl v) :=
  .ite (Moves.refl _ h) (((Moves.refl _ h).recd _).foldl fun _ _ _ => (Moves.refl _ _).wrAny _ _ _ _)

theorem writeRecRt_moves (h : Hub) (w v : Nat) : Moves ⟨[.regs], [], []⟩ h (h.writeRecRt w v) :=
  ((Moves.refl _ h).wrAny _ _ _ _).wrAny _ _ _ _

/-! ### Supplies -/

theorem logicLost_moves (h : Hub) (vddLost : Bool) : Moves ⟨[.regs, .armed, .kept, .dev, .sup, .fol, .clk, .hinge, .outs,
    .ins, .dbt, .tmbs, .aux, .sch, .recd, .flt, .ints, .pins, .ports, .eng, .banks, .mem, .bad, .dpLow, .dpHigh, .lsy, .wds,
    .wdo, .bst, .life, .blk, .nvm, .nvmOp, .nvmQ, .fieldReset, .fieldSince, .free, .mark], [], []⟩ h (h.logicLost vddLost) :=
  ((((Moves.refl _ h).dev _).to (abandonNvm_moves _ _)).to (logicReset_moves _)).regs_dev_sup_wdo_nvmOp _ _ _ _ _

theorem aonLost_moves (h : Hub) : Moves ⟨[.regs, .ret, .fol, .wdo], [], []⟩ h (h.aonLost) :=
  (Moves.refl _ h).regs_ret_fol_wdo _ _ _ _

theorem measureVhold_moves (h : Hub) (mv : Nat) : Moves ⟨[.regs, .sup, .flt, .blk, .nvmOp, .nvmQ], [], []⟩ h
    (h.measureVhold mv) :=
  .bind (((Moves.refl _ h).sup _).wrAny _ _ _ _) fun y1 => .ite ((y1.to (lower_moves _ _ _)).to (nvmGo_moves _)) y1

theorem warnBegin_moves (h : Hub) : Moves ⟨[.regs, .dev, .sup, .ret, .recd, .ints, .pins, .wds, .bst, .free], [], []⟩ h
    (h.warnBegin) :=
  .ite (Moves.refl _ h) ((((Moves.refl _ h).to (abortTest_moves _)).sup _).to (intAll_moves _ _))

theorem countDip_moves (h : Hub) : Moves ⟨[.regs, .ret, .recd, .bst], [], []⟩ h (h.countDip) :=
  ((Moves.refl _ h).ret _).to (note_moves _ _ _ _ _ _ _)

theorem modPd_moves (h : Hub) (f : PowerDown → PowerDown) : Moves ⟨[.sup], [], []⟩ h (h.modPd f) :=
  (Moves.refl _ h).sup _

theorem rewriteFail_moves (h : Hub) (image : Nat) : Moves ⟨[.ret], [], []⟩ h (h.rewriteFail image) := by
  unfold Hub.rewriteFail
  dsimp only
  split
  · exact (Moves.refl _ h)
  · exact (Moves.refl _ h).ret _

theorem pdFinish_moves (h : Hub) : Moves (faultFoot.join ⟨[.regs, .armed, .kept, .sup, .fol, .clk, .ins, .aux, .ports,
    .banks, .bad, .dpLow, .dpHigh, .lsy, .wdo, .life, .blk, .nvm, .nvmOp, .nvmQ, .fieldReset, .fieldSince, .mark], [],
    []⟩) h (h.pdFinish) := by
  unfold Hub.pdFinish
  split
  · exact (Moves.refl _ h)
  · exact (((((((Moves.ite ((Moves.refl _ h).to (rewriteFail_moves _ _)) (Moves.refl _ h)).ret _).to
      (history_moves _ _ _)).nvmOp _).to (logicLost_moves _ _)).sup _).to (wantTone_moves _ _)).to (trigger_moves _)

theorem pdStaging_moves (h : Hub) (grave : Bool) : Moves ⟨[.recd], [], []⟩ h (h.pdStaging grave) := by
  unfold Hub.pdStaging
  split
  · exact .ite ((Moves.refl _ h).recd _) (Moves.refl _ h)
  · exact (Moves.refl _ h)

theorem pdSkip_moves (h : Hub) (l : List PdPage) : Moves ⟨[.sup], [], []⟩ h (h.pdSkip l) :=
  (Moves.refl _ h).to (modPd_moves _ _)

/-- What the orderly power-down can reach: all that a reset of the logic die clears. -/
def offFoot : Foot :=
  faultFoot.join ⟨[.regs, .armed, .kept, .sup, .fol, .clk, .ins, .aux, .ports, .banks, .bad, .dpLow, .dpHigh, .lsy, .wdo,
    .life,
    .blk, .nvm, .nvmOp, .nvmQ, .fieldReset, .fieldSince, .mark], [], []⟩

theorem pdNext_moves (h : Hub) (vhold : Nat) (l : List PdPage) : Moves offFoot h (h.pdNext vhold l) := by
  induction l generalizing h with
  | nil => exact ((Moves.refl _ h).to (modPd_moves _ _)).to (pdFinish_moves _)
  | cons pg rest ih =>
    rw [Hub.pdNext]
    refine Moves.ite ((((Moves.refl _ h).to (pdSkip_moves _ _)).to (modPd_moves _ _)).to (pdFinish_moves _)) ?_
    have hstaged : Moves offFoot h
        (if pg == .stagingFault || pg == .staging || pg == .flush then h.pdStaging (pg == .stagingFault) else h) :=
      .ite ((Moves.refl _ h).to (pdStaging_moves _ _)) (Moves.refl _ h)
    dsimp only
    split
    · exact (hstaged.nvmOp _).to (modPd_moves _ _)
    · exact (Moves.ite ((hstaged.to (pdSkip_moves _ _)).countAny _ _ _ _) hstaged).trans (ih _)

theorem pdWritten_moves (h : Hub) (pg : PdPage) : Moves ⟨[.regs, .sup, .ret, .recd, .nvm, .nvmOp, .free], [], []⟩ h
    (h.pdWritten pg) := by
  unfold Hub.pdWritten
  split
  · exact (Moves.refl _ h).to (modPd_moves _ _)
  · exact .bind (((Moves.refl _ h).nvmOp _).to (nvmEffect_moves _ _ _ _)) fun y => .bind (.ite (((y.recd _).to
      (nextPage_moves _)).to (stage_moves _)) y) fun y1 => (Moves.ite (y1.ret _) y1).to (modPd_moves _ _)

theorem keepDomain_moves (h : Hub) (d : Nat) : Moves ⟨[.kept], [], []⟩ h (h.keepDomain d) :=
  (Moves.refl _ h).kept _

theorem restoreDomain_moves (h : Hub) (d : Nat) (good : Bool) : Moves (faultFoot.join ⟨[.regs], [], []⟩) h
    (h.restoreDomain d good) :=
  .bind (((Moves.refl _ h).anyRegs _).foldl fun _ _ _ => (Moves.refl _ _).anyRegs _) fun y2 => .ite (y2.foldl fun _ _ _ =>
    (Moves.refl _ _).anyRegs _) (y2.to (raise_moves _ _ _ _ _))

theorem clearDomain_moves (h : Hub) (m : Nat) : Moves ⟨[.sup], [], []⟩ h (h.clearDomain m) :=
  .ite ((Moves.refl _ h).sup _) ((Moves.refl _ h).sup _)

end Sys2Proof.Machine

/-!
PROOF. The footprints of the model's functions, a section for each of its files: Luanen, Tumblers, Blank, Engine, Faults, Thermal, HingeRx, Interrupts, SelfTest, Watchdogs.
-/

namespace Sys2Proof.Machine

set_option Elab.async false

/-! ### Luanen -/

theorem modLsy_moves (h : Hub) (f : Lsy → Lsy) : Moves ⟨[.lsy], [], []⟩ h (h.modLsy f) :=
  (Moves.refl _ h).lsy _

theorem lsyReturn_moves (h : Hub) (f : LFrame) : Moves ⟨[.lsy], [], []⟩ h (h.lsyReturn f) :=
  (Moves.refl _ h).to (modLsy_moves _ _)

theorem lsyForward_moves (h : Hub) (f : LFrame) : Moves ⟨[.regs, .lsy], [], []⟩ h (h.lsyForward f) :=
  .ite (Moves.refl _ h) ((Moves.refl _ h).to (lsySend_moves _ _))

theorem stepFollower_moves (h : Hub) (d : ℤ) : Moves ⟨[.regs, .clk, .hinge, .flt], [], []⟩ h (h.stepFollower d) :=
  .ite (Moves.refl _ h) (.bind ((Moves.refl _ h).to (setFollower_moves _ _ _)) fun y => .ite (y.to (followUnlock_moves _)) y)

theorem stepTb_moves (h : Hub) (d : ℤ) : Moves ⟨[.regs, .ret, .clk, .hinge, .tmbs, .aux, .recd, .flt, .bst], [], []⟩ h
    (h.stepTb d) :=
  (((((((Moves.ite ((Moves.refl _ h).to (setWrapped_moves _)) (Moves.refl _ h)).clk _).to
    (stepFollower_moves _ _)).wrAny _ _ _ _).wrAny _ _ _ _).countAny _ _ _ _).tmbs_aux _ _).to (note_moves _ _ _ _ _ _ _)

theorem slotOneCame_moves (h : Hub) : Moves ⟨[.regs, .flt, .lsy], [], []⟩ h (h.slotOneCame) :=
  (((Moves.refl _ h).putAny _ _ _ _).to (lower_moves _ _ _)).to (modLsy_moves _ _)

theorem lsyPeriod_moves (h : Hub) : Moves ⟨[.regs, .lsy], [], []⟩ h (h.lsyPeriod) :=
  .bind ((Moves.refl _ h).to (modLsy_moves _ _)) fun y => .ite (y.to (lsySend_moves _ _)) y

theorem lsyForwardTick_moves (h : Hub) : Moves ⟨[.lsy], [], []⟩ h (h.lsyForwardTick) := by
  unfold Hub.lsyForwardTick
  split
  · exact .ite ((Moves.refl _ h).to (modLsy_moves _ _)) (Moves.refl _ h)
  · exact (Moves.refl _ h)

theorem lsyReturnTick_moves (h : Hub) : Moves ⟨[.regs, .lsy], [], []⟩ h (h.lsyReturnTick) := by
  unfold Hub.lsyReturnTick
  split
  · exact Moves.refl _ h
  · split
    · exact Moves.refl _ h
    · split
      · exact (Moves.refl _ h).to (modLsy_moves _ _)
      · refine .ite (Moves.to ?_ (modLsy_moves _ _)) (Moves.refl _ h)
        split
        · exact .ite ((Moves.refl _ h).putAny _ _ _ _) (Moves.refl _ h)
        · exact Moves.refl _ h

theorem lsyTick_moves (h : Hub) : Moves ⟨[.regs, .lsy], [], []⟩ h (h.lsyTick) :=
  ((Moves.refl _ h).to (lsyForwardTick_moves _)).to (lsyReturnTick_moves _)

theorem headTime_moves (h : Hub) : Moves ⟨[.regs, .lsy], [], []⟩ h (h.headTime) := by
  unfold Hub.headTime
  exact ((((Moves.refl _ h).to (lsySend_moves _ _)).to (lsySend_moves _ _)).to (lsySend_moves _ _)).to (modLsy_moves _ _)

theorem calTrigger_moves (h : Hub) : Moves ⟨[.regs, .lsy], [], []⟩ h (h.calTrigger) :=
  .ite ((Moves.refl _ h).to (modLsy_moves _ _)) (((((Moves.refl _ h).to
    (modLsy_moves _ _)).putAny _ _ _ _).putAny _ _ _ _).to (lsySend_moves _ _))

theorem calEnded_moves (h : Hub) : Moves ⟨[.regs, .lsy], [], []⟩ h (h.calEnded) :=
  .bind ((Moves.refl _ h).putAny _ _ _ _) fun y => .ite (y.to (calTrigger_moves _)) y

theorem calSend_moves (h : Hub) : Moves ⟨[.regs, .lsy], [], []⟩ h (h.calSend) :=
  .ite (Moves.refl _ h) ((((Moves.refl _ h).to (lsySend_moves _ _)).to (modLsy_moves _ _)).to (calEnded_moves _))

theorem calJudge_moves (h : Hub) : Moves (faultFoot.join ⟨[.regs, .lsy], [], []⟩) h (h.calJudge) :=
  .ite ((((Moves.refl _ h).to (event_moves _ _ _ _)).to (modLsy_moves _ _)).to (calEnded_moves _))
    ((((Moves.refl _ h).wrAny _ _ _ _).to (modLsy_moves _ _)).to (calSend_moves _))

theorem calPeriod_moves (h : Hub) : Moves (faultFoot.join ⟨[.regs, .lsy], [], []⟩) h (h.calPeriod) := by
  unfold Hub.calPeriod
  split
  · exact (Moves.refl _ h)
  · exact .bind ((Moves.refl _ h).to (modLsy_moves _ _)) fun y => .ite ((y.to (modLsy_moves _ _)).to (calJudge_moves _)) y

theorem recvCalStart_moves (h : Hub) (v : Nat) : Moves ⟨[.regs, .lsy], [], []⟩ h (h.recvCalStart v) :=
  (((Moves.refl _ h).to (modLsy_moves _ _)).putAny _ _ _ _).to (lsyForward_moves _ _)

theorem applyD_moves (h : Hub) : Moves ⟨[.regs, .lsy], [], []⟩ h (h.applyD) := by
  unfold Hub.applyD
  split
  · exact (Moves.refl _ h)
  · exact .bind (((((Moves.refl _ h).wrAny _ _ _ _).putAny _ _ _ _).countAny _ _ _ _).to (modLsy_moves _ _)) fun y1 =>
      (Moves.ite (y1.putAny _ _ _ _) y1).to (calSend_moves _)

theorem setTrim_moves (h : Hub) (t : ℤ) : Moves ⟨[.regs], [], []⟩ h (h.setTrim t) :=
  (Moves.refl _ h).wrAny _ _ _ _

theorem showErr_moves (h : Hub) (e : ℤ) : Moves ⟨[.regs, .free], [], []⟩ h (h.showErr e) :=
  .ite ((Moves.refl _ h).wrAny _ _ _ _) (((Moves.refl _ h).to (freeNat_moves _ _)).wrAny _ _ _ _)

theorem alignStep_moves (h : Hub) (e : ℤ) : Moves ⟨[.regs, .ret, .clk, .hinge, .tmbs, .aux, .recd, .flt, .bst], [], []⟩ h
    (h.alignStep e) :=
  ((Moves.ite (Moves.refl _ h) ((Moves.refl _ h).to (stepTb_moves _ _))).to (setTrim_moves _ _)).putAny _ _ _ _

theorem pairOpen_moves (h : Hub) (detail : Nat) : Moves (faultFoot.join ⟨[.regs, .lsy], [], []⟩) h (h.pairOpen detail) :=
  .ite (Moves.refl _ h) (.bind ((((Moves.refl _ h).to (pairCancel_moves _)).to
    (sendSafe_movesAny _ _)).wrAny _ _ _ _) fun y => ((Moves.ite (y.putAny _ _ _ _) y).countAny _ _ _ _).to
    (event_moves _ _ _ _))

theorem lsyAlign_moves (h : Hub) (own8 : Nat) : Moves (faultFoot.join ⟨[.regs, .clk, .aux, .lsy], [], []⟩) h
    (h.lsyAlign own8) := by
  unfold Hub.lsyAlign
  dsimp only
  split
  · exact (Moves.refl _ h).to (modLsy_moves _ _)
  · have y1 (f g : Lsy → Lsy) : Moves (faultFoot.join ⟨[.regs, .clk, .aux, .lsy], [], []⟩) h ((h.modLsy f).modLsy g) :=
      ((Moves.refl _ h).to (modLsy_moves _ _)).to (modLsy_moves _ _)
    have y2 (f g : Lsy → Lsy) (e : Int) := (y1 f g).to (showErr_moves _ e)
    exact .ite (y1 _ _) (.ite ((y2 _ _ _).to (pairOpen_moves _ _)) (.ite (((y2 _ _ _).to (setTrim_moves _ _)).to
      (modLsy_moves _ _)) (.ite (y2 _ _ _) (.ite ((y2 _ _ _).to (alignStep_moves _ _)) (.ite ((((y2 _ _ _).to
      (alignStep_moves _ _)).to (modLsy_moves _ _)).to (event_moves _ _ _ _)) ((y2 _ _ _).to (modLsy_moves _ _)))))))

theorem pairPulse_moves (h : Hub) : Moves ⟨[.lsy], [], []⟩ h (h.pairPulse) := by
  unfold Hub.pairPulse
  split
  · exact (Moves.refl _ h)
  · exact .ite ((Moves.refl _ h).to (modLsy_moves _ _)) (Moves.refl _ h)

theorem recvPulse_moves (h : Hub) (fine : Nat) : Moves (faultFoot.join ⟨[.regs, .clk, .aux, .lsy], [], []⟩) h
    (h.recvPulse fine) :=
  .ite ((Moves.refl _ h).to (modLsy_moves _ _)) (.bind (((Moves.refl _ h).putAny _ _ _ _).to (pairPulse_moves _)) fun y =>
    .bind (.ite y (y.to (applyD_moves _))) fun y1 => ((Moves.ite (.bind (y1.putAny _ _ _ _) fun y2 => .ite (y2.to
    (event_moves _ _ _ _)) y2) (y1.to (lsyAlign_moves _ _))).to (calPeriod_moves _)).to (lsyPeriod_moves _))

theorem recalAsk_moves (h : Hub) (reason : Nat) : Moves ⟨[.lsy], [], []⟩ h (h.recalAsk reason) :=
  (Moves.refl _ h).to (lsyReturn_moves _ _)

theorem recvEnum_moves (h : Hub) (v : Nat) : Moves (faultFoot.join ⟨[.regs, .lsy], [], []⟩) h (h.recvEnum v) :=
  .bind (((Moves.refl _ h).wrAny _ _ _ _).putAny _ _ _ _) fun y => .bind (.ite (y.to (raise_moves _ _ _ _ _)) (y.to
    (lower_moves _ _ _))) fun y1 => .bind (.ite (y1.to (raise_moves _ _ _ _ _)) (y1.to (lower_moves _ _ _))) fun y2 =>
    (Moves.ite y2 ((y2.to (modLsy_moves _ _)).to (recalAsk_moves _ _))).to (lsyForward_moves _ _)

theorem lsyEvent_moves (h : Hub) (k : Nat) : Moves ⟨[.tmbs], [], []⟩ h (h.lsyEvent k) :=
  .ite ((Moves.refl _ h).forAll fun _ _ _ => (Moves.refl _ _).to (modTmb_moves _ _ _)) (Moves.refl _ h)

theorem recvMark_moves (h : Hub) (v : Nat) : Moves ⟨[.regs, .tmbs, .lsy], [], []⟩ h (h.recvMark v) :=
  ((Moves.refl _ h).forAll fun _ _ _ => .ite ((Moves.refl _ _).to (lsyEvent_moves _ _)) (Moves.refl _ _)).to
    (lsyForward_moves _ _)

theorem markSend_moves (h : Hub) (t k start : Nat) : Moves ⟨[.regs, .lsy], [], []⟩ h (h.markSend t k start) :=
  .ite ((Moves.refl _ h).to (lsyForward_moves _ _)) (Moves.refl _ h)

theorem recvPairHb_moves (h : Hub) (up : Bool) (v : Nat) : Moves (faultFoot.join ⟨[.regs, .lsy], [], []⟩) h
    (h.recvPairHb up v) :=
  .ite ((Moves.refl _ h).to (pairOpen_moves _ _)) (.bind (((((Moves.refl _ h).to
    (modLsy_moves _ _)).putAny _ _ _ _).wrAny _ _ _ _).putAny _ _ _ _) fun y1 => .ite (((y1.putAny _ _ _ _).to
    (ownCommand_moves _ _ _)).wrAny _ _ _ _) (.ite (.ite (y1.to (pairOpen_moves _ _)) y1) (.ite (y1.to (pairOpen_moves _ _))
    (.ite (y1.to (pairOpen_moves _ _)) (y1.to (pairTry_moves _))))))

theorem recvLsyHb_moves (h : Hub) (up : Bool) (v : Nat) : Moves (faultFoot.join ⟨[.regs, .lsy], [], []⟩) h
    (h.recvLsyHb up v) :=
  .bind (.ite (Moves.refl _ h) ((Moves.refl _ h).to (slotOneCame_moves _))) fun y => .ite (y.to (recvPairHb_moves _ _ _)) y

theorem userDeliver_moves (h : Hub) (v : Nat) : Moves ⟨[.regs, .tmbs, .ints, .pins, .lsy], [], []⟩ h (h.userDeliver v) :=
  .bind ((Moves.refl _ h).forAll fun _ _ _ => .ite ((Moves.refl _ _).to (lsyEvent_moves _ _)) (Moves.refl _ _)) fun y1 =>
    .ite y1 (.ite (y1.countAny _ _ _ _) ((y1.to (modLsy_moves _ _)).to (intEvent_moves _ _ _)))

theorem recvUser_moves (h : Hub) (up : Bool) (v : Nat) : Moves ⟨[.regs, .tmbs, .ints, .pins, .lsy], [], []⟩ h
    (h.recvUser up v) :=
  .ite (.bind (.ite ((Moves.refl _ h).to (userDeliver_moves _ _)) (Moves.refl _ h)) fun y => .ite y (y.to
    (lsyForward_moves _ _))) (.ite ((Moves.refl _ h).to (userDeliver_moves _ _)) (.ite (Moves.refl _ h) ((Moves.refl _ h).to
    (lsyReturn_moves _ _))))

theorem userSend_moves (h : Hub) (bcast : Bool) (dest code data : Nat) : Moves ⟨[.regs, .tmbs, .ints, .pins, .lsy], [],
    []⟩ h (h.userSend bcast dest code data) :=
  .ite ((Moves.refl _ h).to (lsyForward_moves _ _)) (.ite ((Moves.refl _ h).to (lsyReturn_moves _ _)) ((Moves.refl _ h).to
    (userDeliver_moves _ _)))

theorem writeLsyCtrl_moves (h : Hub) (w v : Nat) : Moves ⟨[.regs, .lsy], [], []⟩ h (h.writeLsyCtrl w v) :=
  .ite (.ite (((Moves.refl _ h).putAny _ _ _ _).to (calTrigger_moves _)) (.ite (Moves.refl _ h)
    (((Moves.refl _ h).putAny _ _ _ _).to (recalAsk_moves _ _)))) (Moves.refl _ h)

theorem writeLsyStat_moves (h : Hub) (v : Nat) : Moves ⟨[.regs], [], []⟩ h (h.writeLsyStat v) :=
  .ite ((Moves.refl _ h).putAny _ _ _ _) (Moves.refl _ h)

theorem readLsyRx_moves (h : Hub) (w : Nat) : Moves ⟨[.lsy], [], []⟩ h (h.readLsyRx w).2 := by
  unfold Hub.readLsyRx
  refine .iteSnd ?_ (Moves.refl _ h)
  split
  · exact Moves.refl _ h
  · exact .sndOf ((Moves.refl _ h).to (modLsy_moves _ _))

/-! ### Tumblers -/

theorem tmbError_moves (h : Hub) (t code addr : Nat) : Moves (faultFoot.join ⟨[.regs], [], []⟩) h (h.tmbError t code addr) :=
  (((((Moves.refl _ h).to (tmbStop_movesAny _ _ _ _)).wrAny _ _ _ _).wrAny _ _ _ _).wrAny _ _ _ _).to (raise_moves _ _ _ _ _)

theorem sendVec_moves (h : Hub) (t pins marks ts : Nat) : Moves ⟨[.hinge], [], []⟩ h (h.sendVec t pins marks ts) :=
  (Moves.refl _ h).to (sendL_moves _ _)

theorem issue_moves (h : Hub) (t addr pins marks ts state : Nat) (frame : Bool) : Moves (faultFoot.join ⟨[.regs], [], []⟩) h
    (h.issue t addr pins marks ts state frame) :=
  .ite ((Moves.refl _ h).to (tmbError_moves _ _ _ _)) (.bind ((((Moves.refl _ h).to
    (modTmb_moves _ _ _)).wrAny _ _ _ _).wrAny _ _ _ _) fun y1 => .ite (y1.to (sendVec_moves _ _ _ _ _)) y1)

theorem holdCycle_moves (h : Hub) (t addr state : Nat) : Moves (faultFoot.join ⟨[.regs], [], []⟩) h
    (h.holdCycle t addr state) :=
  (Moves.refl _ h).to (issue_moves _ _ _ _ _ _ _ _)

theorem zeroCycle_moves (h : Hub) (t addr next : Nat) : Moves (faultFoot.join ⟨[.regs], [], []⟩) h
    (h.zeroCycle t addr next).1 :=
  Moves.iteFst (Moves.fstOf ((Moves.refl _ h).to (tmbError_moves _ _ _ _))) (Moves.fstOf (((Moves.refl _ h).to
    (modTmb_moves _ _ _)).wrAny _ _ _ _))

theorem branch_moves (h : Hub) (t addr target : Nat) (f : Tmb → Tmb) : Moves (faultFoot.join ⟨[.regs], [], []⟩) h
    (h.branch t addr target f).1 :=
  Moves.iteFst (Moves.fstOf ((Moves.refl _ h).to (tmbError_moves _ _ _ _))) (((Moves.refl _ h).to (modTmb_moves _ _ _)).to
    (zeroCycle_moves _ _ _ _))

theorem setBankWords_moves (h : Hub) (b : Nat) (words : List Nat) (hl : words.length ≤ 4096) :
    Moves ⟨[.mem], [], []⟩ h (h.setBankWords b words) :=
  (Moves.refl _ h).mem _ fun ⟨hm, hv⟩ => ⟨setBankWords_wf b hl hm, hv⟩

theorem marchEnd_moves (h : Hub) (t : Nat) : Moves ⟨[.regs, .tmbs, .mem, .bad], [], []⟩ h (h.marchEnd t) := by
  unfold Hub.marchEnd
  split
  · exact Moves.refl _ h
  · extract_lets seed data lo bad s k1 k2 k3 fails k4
    have hl : s.words.toList.length ≤ 4096 := ((size_march _ _ _ _).trans (size_bankWords _ _)).le
    have y3 : Moves ⟨[.regs, .tmbs, .mem, .bad], [], []⟩ h k3 :=
      (((Moves.refl _ h).to (setBankWords_moves _ _ _ hl)).bad _).to (modTmb_moves _ _ _)
    have y4 : Moves ⟨[.regs, .tmbs, .mem, .bad], [], []⟩ h k4 := by
      dsimp only [k4]
      clear_value fails
      split
      · exact y3
      · exact .ite y3 ((y3.putAny _ _ _ _).wrAny _ _ _ _)
    exact (y4.countAny _ _ _ _).wrAny _ _ _ _

theorem marchStart_moves (h : Hub) (t addr arg : Nat) : Moves (faultFoot.join ⟨[.regs], [], []⟩) h
    (h.marchStart t addr arg) :=
  .ite ((Moves.refl _ h).to (tmbError_moves _ _ _ _)) (.ite ((Moves.refl _ h).to (tmbError_moves _ _ _ _)) (((Moves.ite
    (((((Moves.refl _ h).putAny _ _ _ _).wrAny _ _ _ _).wrAny _ _ _ _).wrAny _ _ _ _) (Moves.refl _ h)).to
    (modTmb_moves _ _ _)).to (holdCycle_moves _ _ _ _)))

theorem execVecWord_moves (h : Hub) (t addr w : Nat) : Moves (faultFoot.join ⟨[.regs], [], []⟩) h (h.execVecWord t addr w) :=
  .ite ((Moves.refl _ h).to (tmbError_moves _ _ _ _)) (.ite (((Moves.ite (Moves.refl _ h) (((Moves.refl _ h).to
    (modTmb_moves _ _ _)).to (submit_moves _ _))).countAny _ _ _ _).to (holdCycle_moves _ _ _ _)) (((Moves.refl _ h).to
    (modTmb_moves _ _ _)).to (issue_moves _ _ _ _ _ _ _ _)))

theorem realign_moves (h : Hub) (t sel : Nat) : Moves ⟨[.regs, .tmbs], [], []⟩ h (h.realign t sel) :=
  .ite (by
  split
  · exact (Moves.refl _ h)
  · exact .ite ((Moves.refl _ h).to (modTmb_moves _ _ _)) ((Moves.refl _ h).putAny _ _ _ _)) (Moves.refl _ h)

theorem execWaitWord_moves (h : Hub) (t addr arg : Nat) : Moves (faultFoot.join ⟨[.regs], [], []⟩) h
    (h.execWaitWord t addr arg).1 := by
  unfold Hub.execWaitWord
  dsimp only
  split
  · exact Moves.fstOf ((Moves.refl _ h).to (tmbError_moves _ _ _ _))
  · exact Moves.iteFst (.bind (((Moves.refl _ h).to (tmbCond_moves ‹_›)).to (modTmb_moves _ _ _)) fun y => Moves.fstOf
      ((Moves.ite y (y.to (realign_moves _ _ _))).wrAny _ _ _ _)) (Moves.iteFst (Moves.fstOf ((((Moves.refl _ h).to
      (tmbCond_moves ‹_›)).to (modTmb_moves _ _ _)).wrAny _ _ _ _)) (Moves.fstOf ((((Moves.refl _ h).to
      (tmbCond_moves ‹_›)).to (modTmb_moves _ _ _)).to (holdCycle_moves _ _ _ _))))

theorem execSigWord_moves (h : Hub) (t addr arg : Nat) : Moves (faultFoot.join ⟨[.regs], [], []⟩) h
    (h.execSigWord t addr arg).1 :=
  .bind ((Moves.refl _ h).to (zeroCycle_moves _ _ _ _)) fun y => Moves.iteFst y (.bind
    ((y.wrAny _ _ _ _).countAny _ _ _ _) fun y1 => .bind (.ite (y1.to (note_moves _ _ _ _ _ _ _)) y1) fun y2 => Moves.fstOf
    (.ite (y2.to (intOwner_moves _ _ _)) y2))

theorem execWord_moves (h : Hub) (t addr w : Nat) : Moves (faultFoot.join ⟨[.regs], [], []⟩) h (h.execWord t addr w).1 := by
  unfold Hub.execWord
  dsimp only
  split
  · exact Moves.fstOf (((Moves.refl _ h).wrAny _ _ _ _).to (tmbStop_movesAny _ _ _ _))
  · exact Moves.fstOf ((Moves.refl _ h).to (execVecWord_moves _ _ _ _))
  · exact Moves.iteFst (Moves.fstOf ((Moves.refl _ h).to (tmbError_moves _ _ _ _))) (Moves.iteFst (Moves.fstOf
      ((Moves.refl _ h).to (tmbError_moves _ _ _ _))) (((Moves.refl _ h).to (modTmb_moves _ _ _)).to
      (zeroCycle_moves _ _ _ _)))
  · exact by
      split
      · exact Moves.fstOf ((Moves.refl _ h).to (tmbError_moves _ _ _ _))
      · exact Moves.iteFst (((Moves.refl _ h).to (modTmb_moves _ _ _)).to (zeroCycle_moves _ _ _ _)) (((Moves.refl _ h).to
          (modTmb_moves _ _ _)).to (zeroCycle_moves _ _ _ _))
  · exact (Moves.refl _ h).to (branch_moves _ _ _ _ _)
  · exact by
      split
      · exact Moves.fstOf ((Moves.refl _ h).to (tmbError_moves _ _ _ _))
      · exact Moves.iteFst (((Moves.refl _ h).to (tmbCond_moves ‹_›)).to (branch_moves _ _ _ _ _)) (((Moves.refl _ h).to
          (tmbCond_moves ‹_›)).to (zeroCycle_moves _ _ _ _))
  · exact (Moves.refl _ h).to (execWaitWord_moves _ _ _ _)
  · exact Moves.iteFst (Moves.fstOf ((Moves.refl _ h).to (tmbError_moves _ _ _ _))) ((Moves.refl _ h).to
      (branch_moves _ _ _ _ _))
  · exact by
      split
      · exact Moves.fstOf ((Moves.refl _ h).to (tmbError_moves _ _ _ _))
      · exact ((Moves.refl _ h).to (modTmb_moves _ _ _)).to (zeroCycle_moves _ _ _ _)
  · exact Moves.iteFst (Moves.fstOf ((Moves.refl _ h).to (tmbError_moves _ _ _ _))) (((Moves.refl _ h).to
      (modTmb_moves _ _ _)).to (zeroCycle_moves _ _ _ _))
  · exact Moves.fstOf ((Moves.refl _ h).to (marchStart_moves _ _ _ _))
  · exact (Moves.refl _ h).to (execSigWord_moves _ _ _ _)

theorem tmbOne_moves (h : Hub) (t : Nat) : Moves (faultFoot.join ⟨[.regs], [], []⟩) h (h.tmbOne t).1 := by
  unfold Hub.tmbOne
  extract_lets addr a d word w
  split
  · exact .fstOf ((Moves.refl _ h).to (tmbError_moves _ _ _ _))
  · split
    · exact .fstOf (((Moves.refl _ h).to (ueFound_moves _ _ _)).to (tmbError_moves _ _ _ _))
    · split
      · exact .fstOf ((Moves.refl _ h).to (tmbError_moves _ _ _ _))
      · split
        · exact .fstOf ((Moves.refl _ h).to (tmbError_moves _ _ _ _))
        · exact (Moves.refl _ h).to (execWord_moves h t addr w)

theorem boundary_moves (h : Hub) (t : Nat) : Moves (faultFoot.join ⟨[.regs, .bad], [], []⟩) h (h.boundary t).1 :=
  Moves.iteFst (Moves.fstOf (Moves.refl _ h)) (Moves.iteFst (Moves.fstOf ((Moves.refl _ h).to (tmbStop_movesAny _ _ _ _)))
    (by
  split
  · exact Moves.fstOf ((Moves.refl _ h).to (tmbStop_movesAny _ _ _ _))
  · exact by
      split
      · exact Moves.fstOf ((((((Moves.refl _ h).to (marchAbandon_movesAny _ _)).to (dropCand_moves _ _)).to
          (modTmb_moves _ _ _)).putAny _ _ _ _).to (tmbRetire_moves _ _ _))
      · exact Moves.iteFst (Moves.fstOf ((Moves.refl _ h).to (marchEnd_moves _ _))) (.bind ((Moves.refl _ h).to
          (modTmb_moves _ _ _)) fun y2 => Moves.iteFst (Moves.fstOf (y2.to (holdCycle_moves _ _ _ _))) (Moves.fstOf (y2.to
          (issue_moves _ _ _ _ _ _ _ _))))))

theorem tmbRun_moves (h : Hub) (t n : Nat) : Moves (faultFoot.join ⟨[.regs], [], []⟩) h (h.tmbRun t n) := by
  induction n generalizing h with
  | zero => exact Moves.refl _ h
  | succ n ih =>
    have hone := tmbOne_moves h t
    exact .ite (hone.trans (ih _)) hone

theorem tmbInstr_moves (h : Hub) (t op : Nat) (p : Hub → Nat → Bool) : Moves (faultFoot.join ⟨[.regs, .bad], [], []⟩) h
    (h.tmbInstr t op p) :=
  .ite (((Moves.refl _ h).to (boundary_moves _ _)).to (tmbOne_moves _ _)) (Moves.refl _ h)

theorem auxCycle_moves (h : Hub) (t pins marks ts s8 period : Nat) : Moves ⟨[.aux], [], []⟩ h
    (h.auxCycle t pins marks ts s8 period) :=
  (Moves.refl _ h).forAll fun _ _ _ => .ite (Moves.refl _ _) ((Moves.refl _ _).aux _)

theorem markerRise_moves (h : Hub) (t k addr start : Nat) : Moves ⟨[.regs, .ret, .tmbs, .recd, .lsy, .bst], [], []⟩ h
    (h.markerRise t k addr start) :=
  .bind ((Moves.refl _ h).forAll fun _ _ _ => (Moves.refl _ _).wrAny _ _ _ _) fun y1 => .bind (.ite (y1.to
    (note_moves _ _ _ _ _ _ _)) y1) fun y2 => .bind (.ite (y2.to (markSend_moves _ _ _ _)) y2) fun y3 => .ite (y3.to
    (modTmb_moves _ _ _)) y3

theorem cycleStart_moves (h : Hub) (t : Nat) : Moves ⟨[.regs, .ret, .tmbs, .aux, .recd, .lsy, .bst], [], []⟩ h
    (h.cycleStart t) := by
  unfold Hub.cycleStart
  dsimp only
  split
  · exact (Moves.refl _ h)
  · exact (((((((Moves.refl _ h).to (modTmb_moves _ _ _)).wrAny _ _ _ _).wrAny _ _ _ _).wrAny _ _ _ _).countModAny _ _ _
      _).to (auxCycle_moves _ _ _ _ _ _ _)).forAll fun _ _ _ => (Moves.refl _ _).to (markerRise_moves _ _ _ _ _)

theorem tmbStartReq_moves (h : Hub) (t entry : Nat) (slot : Option Nat) : Moves ⟨[.regs, .sup, .tmbs, .sch, .flt], [], []⟩ h
    (h.tmbStartReq t entry slot).1 :=
  Moves.iteFst (Moves.fstOf (Moves.refl _ h)) (Moves.fstOf (((((((Moves.refl _ h).to (lower_moves _ _ _)).wrAny _ _ _ _).to
    (modTmb_moves _ _ _)).to (wantDomain_moves _ _)).to (wantDomain_moves _ _)).to (submit_moves _ _)))

theorem tmbAdmit_moves (h : Hub) (t : Nat) : Moves ⟨[.regs, .tmbs, .eng], [], []⟩ h (h.tmbAdmit t) := by
  unfold Hub.tmbAdmit
  split
  · exact Moves.refl _ h
  · extract_lets start e known slot k1 k2 k3
    have y3 : Moves ⟨[.regs, .tmbs, .eng], [], []⟩ h k3 :=
      (((((((Moves.refl _ h).to (modTmb_moves _ _ _)).wrAny _ _ _ _).wrAny _ _ _ _).wrAny _ _ _ _).wrAny _ _ _ _).putAny
        _ _ _ _).wrAny _ _ _ _
    clear_value slot
    split
    · exact .ite (y3.to (retire_moves _ _ _ _ _)) (y3.to (retire_moves _ _ _ _ _))
    · exact y3

theorem tmbStopReq_moves (h : Hub) (t : Nat) (rel : Bool) : Moves ⟨[.regs, .hinge, .tmbs, .sch, .ints, .pins, .eng, .mem,
    .free], [], []⟩ h (h.tmbStopReq t rel).1 :=
  Moves.iteFst (Moves.fstOf ((Moves.refl _ h).to (tmbStop_movesAny _ _ _ _))) (Moves.iteFst (Moves.fstOf
    ((Moves.refl _ h).to (modTmb_moves _ _ _))) (Moves.fstOf ((Moves.refl _ h).putAny _ _ _ _)))

theorem tmbJumpReq_moves (h : Hub) (t a : Nat) (slot : Option Nat) : Moves ⟨[.regs, .sup, .tmbs, .sch, .flt], [], []⟩ h
    (h.tmbJumpReq t a slot).1 :=
  Moves.iteFst (Moves.fstOf ((Moves.refl _ h).to (modTmb_moves _ _ _))) (Moves.iteFst (Moves.fstOf (((Moves.refl _ h).to
    (modTmb_moves _ _ _)).putAny _ _ _ _)) (Moves.fstOf (((Moves.refl _ h).to (tmbStartReq_moves _ _ _ _)).putAny _ _ _ _)))

theorem writeTmbCtrl_moves (h : Hub) (t v : Nat) : Moves ⟨[.regs, .sup, .hinge, .tmbs, .sch, .flt, .ints, .pins, .eng, .mem,
    .free], [], []⟩ h (h.writeTmbCtrl t v) :=
  .bind (((Moves.refl _ h).wrAny _ _ _ _).putAny _ _ _ _) fun y => .bind (.ite ((y.putAny _ _ _ _).to
    (tmbStopReq_moves _ _ _)) y) fun y1 => .bind (.ite ((y1.putAny _ _ _ _).to (tmbJumpReq_moves _ _ _ _)) y1) fun y2 => .ite
    ((y2.to (tmbStartReq_moves _ _ _ _)).putAny _ _ _ _) y2

theorem applyVec_moves (h : Hub) (t off : Nat) : Moves ⟨[.regs, .hinge, .outs, .sch, .flt, .life], [], []⟩ h
    (h.applyVec t off) :=
  (Moves.refl _ h).forAll fun _ _ _ => .bind (.ite ((Moves.refl _ _).to (modOut_moves _ _ _)) (Moves.refl _ _)) fun y1 =>
    .ite y1 (.ite y1 ((Moves.ite (y1.to (commandOff_moves _ _)) y1).to (drive_moves _ _ _)))

theorem recvVec_moves (h : Hub) (t payload : Nat) (late : Bool) : Moves (faultFoot.join ⟨[.regs, .ins, .life], [], []⟩) h
    (h.recvVec t payload late) :=
  .ite (Moves.refl _ h) (.bind ((((Moves.refl _ h).hinge _).forAll fun _ _ _ => .bind (.ite ((Moves.refl _ _).to
    (openOwn_moves _ _)) (Moves.refl _ _)) fun y2 => .ite (y2.to (openForeign_moves _ _)) y2).to
    (applyVec_moves _ _ _)) fun y4 => .ite ((Moves.ite (y4.countAny _ _ _ _) y4).to (fieldEvent_moves _ _ _ _)) y4)

theorem cmpEval_moves (h : Hub) (j : Nat) (value : BitVec 16) : Moves ⟨[.regs], [], []⟩ h (h.cmpEval j value) :=
  .ite (Moves.refl _ h) (((Moves.refl _ h).wrAny _ _ _ _).putAny _ _ _ _)

theorem writeCmpThr_moves (h : Hub) (j v : Nat) : Moves ⟨[.regs], [], []⟩ h (h.writeCmpThr j v) :=
  ((Moves.refl _ h).wrAny _ _ _ _).wrAny _ _ _ _

theorem writeDp_moves (h : Hub) (w a v : Nat) : Moves ⟨[.mem, .bad, .dpLow], [], []⟩ h (h.writeDp w a v) := by
  unfold Hub.writeDp
  split
  · exact (Moves.refl _ h).dpLow _
  · refine Moves.to ?_ (setMemWord_moves _ _ _)
    split
    · exact .ite (((Moves.refl _ h).to (setMemWord_moves _ _ _)).dpLow _) (Moves.refl _ h)
    · exact Moves.refl _ h

theorem readDp_moves (h : Hub) (w a : Nat) : Moves ⟨[.dpHigh], [], []⟩ h (h.readDp w a).2 :=
  Moves.iteSnd (Moves.sndOf ((Moves.refl _ h).dpHigh _)) (by
  split
  · exact Moves.iteSnd (Moves.sndOf ((Moves.refl _ h).dpHigh _)) (Moves.sndOf (Moves.refl _ h))
  · exact Moves.sndOf (Moves.refl _ h))

/-! ### Blank -/

theorem showSlot_moves (h : Hub) (lost : List (Fin 4)) (cands : List SlotCopy) (judged : List (SlotCopy × Verdict))
    (slot : Nat) : Moves ⟨[.regs], [], []⟩ h (h.showSlot lost cands judged slot) := by
  unfold Hub.showSlot
  extract_lets mine first show_ k1 gen
  have hshow (v : Verdict) (d : Nat) : Moves ⟨[.regs], [], []⟩ h (show_ h v d) :=
    .ite (((((Moves.refl _ h).wrAny _ _ _ _).wrAny _ _ _ _).wrAny _ _ _ _).wrAny _ _ _ _)
      (((((Moves.refl _ h).wrAny _ _ _ _).wrAny _ _ _ _).wrAny _ _ _ _).wrAny _ _ _ _)
  have y1 : Moves ⟨[.regs], [], []⟩ h k1 := by
    dsimp only [k1]
    split
    · exact hshow _ _
    · exact hshow _ _
    · exact hshow _ _
  exact .ite (y1.wrAny _ _ _ _) (y1.wrAny _ _ _ _)

theorem setBus_moves (h : Hub) (ds : List Nat) (lanes sck50 : Nat) : Moves ⟨[.regs], [], []⟩ h (h.setBus ds lanes sck50) :=
  .ite (((Moves.refl _ h).wrAny _ _ _ _).wrAny _ _ _ _) (((Moves.refl _ h).wrAny _ _ _ _).wrAny _ _ _ _)

theorem bootCopy_moves (h : Hub) (c : SlotCopy) (fallback : Bool) : Moves (faultFoot.join ⟨[.regs, .blk], [], []⟩) h
    (h.bootCopy c fallback) :=
  .bind (((((((((Moves.refl _ h).wrAny _ _ _ _).wrAny _ _ _ _).wrAny _ _ _ _).putAny _ _ _ _).wrAny _ _ _ _).forAll fun _ _
    _ => (Moves.refl _ _).wrAny _ _ _ _).to (setBus_moves _ _ _ _)).dev_blk _ _) fun y5 => .ite (y5.to
    (event_moves _ _ _ _)) y5

theorem bootEnd_moves (h : Hub) : Moves (faultFoot.join ⟨[.regs], [], []⟩) h (h.bootEnd) :=
  .bind ((Moves.refl _ h).wrAny _ _ _ _) fun y => .bind ((Moves.ite (y.to (scanDone_moves _ _)) y).to
    (startNumbering_moves _ _)) fun y2 => .ite y2 (y2.putAny _ _ _ _)

theorem enterRecovery_moves (h : Hub) : Moves ⟨[.regs, .dev, .hinge, .outs, .sch, .flt, .life], [], []⟩ h
    (h.enterRecovery) := by
  unfold Hub.enterRecovery
  extract_lets k1
  have y1 : Moves ⟨[.regs, .dev, .hinge, .outs, .sch, .flt, .life], [], []⟩ h k1 :=
    (Moves.refl _ h).forAll fun k c hc =>
      ((Moves.refl _ k).to (setSwitch_moves _ _ _ _ (List.mem_range.mp hc))).to (modOut_moves _ _ _)
  clear_value k1
  exact (y1.putAny _ _ _ _).dev _

theorem boot_moves (h : Hub) (p0 p1 : NvmProbe) (lostHeader : List (Fin 4)) (lostRead : List (Fin 4)) : Moves
    (faultFoot.join ⟨[.regs, .sup, .life, .blk, .nvm], [], []⟩) h (h.boot p0 p1 lostHeader lostRead) := by
  unfold Hub.boot
  extract_lets k1 waits k2 k3 k4 cands l1 k5 judged fails k6 k7 k8
  have y1 : Moves (faultFoot.join ⟨[.regs, .sup, .life, .blk, .nvm], [], []⟩) h k1 := by
    refine (Moves.refl _ h).nvm _ (HubPart.same_trans (b := { h with nvm := vset h.nvm 0 ((h.nvmDev 0).probed p0) })
      (canon_setNvm fun hm => hm) (canon_setNvm fun hm => ?_))
    rw [Hub.nvmDev, vget_vset_ne (by decide)] at hm
    exact hm
  have y4 : Moves (faultFoot.join ⟨[.regs, .sup, .life, .blk, .nvm], [], []⟩) h k4 :=
    ((((Moves.ite y1 ((y1.to (retainedJudge_moves _)).to (history_moves _ _ _))).putAny _ _ _ _).putAny _ _ _ _).wrAny _ _ _
      _).wrAny _ _ _ _
  have y6 : Moves (faultFoot.join ⟨[.regs, .sup, .life, .blk, .nvm], [], []⟩) h k6 := .ite ((y4.blk _).to
    (event_moves _ _ _ _)) (y4.blk _)
  have y7 : Moves (faultFoot.join ⟨[.regs, .sup, .life, .blk, .nvm], [], []⟩) h k7 := y6.forAll fun k s _ =>
    (Moves.refl _ k).to (showSlot_moves _ _ _ _ _)
  have y8 : Moves (faultFoot.join ⟨[.regs, .sup, .life, .blk, .nvm], [], []⟩) h k8 := by
    dsimp only [k8]
    split
    · exact y7.to (bootCopy_moves _ _ _)
    · exact y7.to (enterRecovery_moves _)
  exact .ite (y8.blk _) ((Moves.ite y8 ((y8.to (retainedJudge_moves _)).to (history_moves _ _ _))).to (bootEnd_moves _))

theorem mirrorCheck_moves (h : Hub) : Moves (faultFoot.join ⟨[.regs], [], []⟩) h (h.mirrorCheck) :=
  .ite (Moves.refl _ h) (.ite (Moves.refl _ h) ((Moves.refl _ h).to (event_moves _ _ _ _)))

theorem loadDp_moves (h : Hub) (d : Nat) (bytes : List Nat) : Moves ⟨[.mem, .bad], [], []⟩ h (h.loadDp d bytes) := by
  unfold Hub.loadDp
  extract_lets k1
  have y1 : Moves ⟨[.mem, .bad], [], []⟩ h k1 := (Moves.refl _ h).to (clearMem_moves _ _ _)
  clear_value k1
  exact y1.mem _ fun ⟨hm, hv⟩ => ⟨memory_wf_cellsSet _ _ hm, hv⟩

theorem loadKeys_moves (h : Hub) (body : List Nat) : Moves ⟨[.recd], [], []⟩ h (h.loadKeys body) :=
  (Moves.refl _ h).recd _

theorem putRegs_moves (h : Hub) (l : List (Nat × Nat)) : Moves ⟨[.regs], [], []⟩ h (h.putRegs l) :=
  (Moves.refl _ h).foldl fun _ _ _ => (Moves.refl _ _).anyRegs _

theorem applyBlank_moves (h : Hub) : Moves (faultFoot.join ⟨[.regs, .sup, .bad, .blk, .nvm], [], []⟩) h (h.applyBlank) := by
  unfold Hub.applyBlank
  extract_lets b cfg k1 p k2 k3 k4 k5 k6 k7 waited shown k8 k9 k10
  have y2 : Moves (faultFoot.join ⟨[.regs, .sup, .bad, .blk, .nvm], [], []⟩) h k2 :=
    .ite ((((Moves.refl _ h).to (putRegs_moves _ _)).to (loadDp_moves _ _ _)).to (loadDp_moves _ _ _))
      ((Moves.refl _ h).to (putRegs_moves _ _))
  have y4 : Moves (faultFoot.join ⟨[.regs, .sup, .bad, .blk, .nvm], [], []⟩) h k4 := (y2.to
    (loadKeys_moves _ _)).forAll fun k d _ =>
    .ite (Moves.refl _ k) ((Moves.refl _ k).nvm _ (canon_setNvm fun hm => hm))
  have y8 : Moves (faultFoot.join ⟨[.regs, .sup, .bad, .blk, .nvm], [], []⟩) h k8 :=
    ((((y4.wrAny _ _ _ _).to (setBus_moves _ _ _ _)).wrAny _ _ _ _).wrAny _ _ _ _).blk _
  have y9 : Moves (faultFoot.join ⟨[.regs, .sup, .bad, .blk, .nvm], [], []⟩) h k9 :=
    .ite ((Moves.ite y8 ((y8.to (retainedJudge_moves _)).to (history_moves _ _ _))).to (bootEnd_moves _)) y8
  have y10 : Moves (faultFoot.join ⟨[.regs, .sup, .bad, .blk, .nvm], [], []⟩) h k10 := y9.forAll fun k w _ =>
    (Moves.refl _ k).to (setWard_moves k w .reset)
  exact (y10.to (mirrorCheck_moves _)).to (fieldStart_moves _)

theorem rejudge_moves (h : Hub) : Moves ⟨[.regs, .dev, .ret, .hinge, .outs, .dbt, .tmbs, .sch, .recd, .flt, .ints, .pins,
    .eng, .mem, .wds, .bst, .free], [], []⟩ h (h.rejudge) := by
  unfold Hub.rejudge
  extract_lets k1
  have y1 : Moves (⟨[.regs, .dev, .ret, .hinge, .outs, .dbt, .tmbs, .sch, .recd, .flt, .ints, .pins, .eng, .mem, .wds, .bst,
    .free], [], []⟩ : Foot) h k1 := by
    refine (Moves.refl _ h).forAll fun k n _ => ?_
    have y := (Moves.refl (⟨[.regs, .dev, .ret, .hinge, .outs, .dbt, .tmbs, .sch, .recd, .flt, .ints, .pins, .eng, .mem,
      .wds, .bst, .free], [], []⟩ : Foot) k).to (wardReaction_moves k n (k.fltMask n))
    exact .ite (Moves.refl _ k) (.ite ((Moves.refl _ k).flt _) (.ite (y.to (enterSafe_moves _ n)) y))
  exact .ite y1 (y1.putAny _ _ _ _)

theorem initialOn_moves (h : Hub) (c : Nat) : Moves ⟨[.regs, .hinge, .outs, .sch, .lsy], [], []⟩ h (h.initialOn c) :=
  .ite ((Moves.refl _ h).to (ownCommand_moves _ _ _)) ((((Moves.refl _ h).to (modOut_moves _ _ _)).putAny _ _ _ _).to
    (submit_moves _ _))

theorem initialCommands_moves (h : Hub) : Moves ⟨[.regs, .hinge, .outs, .sch, .lsy], [], []⟩ h (h.initialCommands) :=
  ((Moves.refl _ h).hinge _).forAll fun _ _ _ => (Moves.refl _ _).to (initialOn_moves _ _)

theorem autoStart_moves (h : Hub) : Moves ⟨[.regs, .sup, .tmbs, .sch, .flt], [], []⟩ h (h.autoStart) :=
  (Moves.refl _ h).forAll fun _ _ _ => (Moves.refl _ _).to (tmbStartReq_moves _ _ _ _)

theorem bootTests_moves (h : Hub) : Moves (faultFoot.join ⟨[.regs], [], []⟩) h (h.bootTests) :=
  .bind (.ite (((Moves.refl _ h).to (raise_moves _ _ _ _ _)).to (enterSafe_moves _ _)) (Moves.refl _ h)) fun y => .ite
    ((y.to (raise_moves _ _ _ _ _)).to (enterSafe_moves _ _)) y

theorem releaseOutputs_moves (h : Hub) : Moves (faultFoot.join ⟨[.regs, .sup, .ins, .ports, .lsy, .life, .fieldReset], [],
    []⟩) h (h.releaseOutputs) :=
  .bind (((Moves.refl _ h).to (wantTone_moves _ _)).dev_hinge _ _) fun y1 => .ite ((y1.hinge _).to (rejoin_moves _)) (.ite
    (y1.to (rejoinAfterTest_moves _)) (y1.to (initialCommands_moves _)))

theorem domainsOff_moves (h : Hub) : Moves ⟨[.sup], [], []⟩ h (h.domainsOff) :=
  (Moves.refl _ h).sup _

theorem enterRun_moves (h : Hub) : Moves (faultFoot.join ⟨[.regs, .armed, .kept, .sup, .ins, .ports, .lsy, .wdo, .life, .blk,
    .fieldReset], [], []⟩) h (h.enterRun) :=
  .bind ((((((((((((((Moves.refl _ h).to (putRegs_moves _ _)).armed_blk _ _).to (keepDomain_moves _ _)).to
    (keepDomain_moves _ _)).to (domainsOff_moves _)).dev _).forAll fun _ _ _ => (Moves.refl _ _).to
    (setWard_moves _ _ _)).sch_eng_wdo _ _ _).putAny _ _ _ _).hinge _).to (wdStartAll_moves _)).to (rejudge_moves _)).to
    (bootTests_moves _)) fun y9 => .ite (y9.to (refRun_moves _)) (((y9.to (releaseOutputs_moves _)).to (refRun_moves _)).to
    (autoStart_moves _))

theorem rcvEnd_moves (h : Hub) (result : Nat) : Moves ⟨[.regs], [], []⟩ h (h.rcvEnd result) :=
  (((Moves.refl _ h).wrAny _ _ _ _).putAny _ _ _ _).countAny _ _ _ _

theorem writeRcvCmd_moves (h : Hub) (v : Nat) : Moves ⟨[.regs, .dev, .sch, .blk, .nvmOp, .nvmQ], [], []⟩ h
    (h.writeRcvCmd v) :=
  .ite (Moves.refl _ h) (.ite ((Moves.refl _ h).to (orderReset_moves _ _ _)) (.ite (Moves.refl _ h) (.ite
    ((Moves.refl _ h).to (rcvEnd_moves _ _)) (.ite ((Moves.refl _ h).to (rcvEnd_moves _ _)) (.bind
    (((Moves.refl _ h).putAny _ _ _ _).blk _) fun y1 => .ite (y1.to (nvmAdd_moves _ _)) (y1.to (nvmCand_moves _ _ _ _)))))))

theorem rcvAdmit_moves (h : Hub) : Moves ⟨[.regs, .blk, .nvmOp, .nvmQ], [], []⟩ h (h.rcvAdmit) := by
  unfold Hub.rcvAdmit
  split
  · exact (Moves.refl _ h)
  · exact (Moves.refl _ h).to (nvmAdd_moves _ _)

theorem rcvRow_moves (h : Hub) (w v cmd : Nat) : Moves ⟨[.regs, .dev, .sch, .blk, .nvmOp, .nvmQ], [], []⟩ h
    (h.rcvRow w v cmd) :=
  .ite ((Moves.refl _ h).to (writeRcvCmd_moves _ _)) (Moves.refl _ h)

theorem rcvDone_moves (h : Hub) (o : NvmOp) (good0 good1 : Bool) : Moves ⟨[.regs, .sch, .blk, .nvm, .nvmOp, .nvmQ, .free],
    [], []⟩ h (h.rcvDone o good0 good1) :=
  .bind ((((Moves.refl _ h).to (nvmDone_moves _ _ _)).to (costEnd_moves _ _ _)).blk _) fun y1 => (Moves.ite
    (y1.forAll fun _ _ _ => (Moves.refl _ _).wrAny _ _ _ _) y1).to (rcvEnd_moves _ _)

theorem writeBlkCtrl_moves (h : Hub) (w v : Nat) : Moves ⟨[.regs, .blk], [], []⟩ h (h.writeBlkCtrl w v) :=
  .ite (((Moves.refl _ h).putAny _ _ _ _).blk _) (Moves.refl _ h)

theorem writeBlkReboot_moves (h : Hub) (w v : Nat) : Moves ⟨[.regs, .dev, .blk], [], []⟩ h (h.writeBlkReboot w v) :=
  .ite ((((Moves.refl _ h).putAny _ _ _ _).blk _).to (orderReset_moves _ _ _)) (Moves.refl _ h)

theorem writeBlkFuse_moves (h : Hub) (w v : Nat) : Moves ⟨[.chip, .blk], [], []⟩ h (h.writeBlkFuse w v) :=
  .ite ((Moves.refl _ h).chip_blk _ _) (Moves.refl _ h)

theorem shadowJudge_moves (h : Hub) : Moves (faultFoot.join ⟨[.regs], [], []⟩) h (h.shadowJudge) :=
  .bind (.ite ((Moves.refl _ h).to (raise_moves _ _ _ _ _)) ((Moves.refl _ h).to (lower_moves _ _ _))) fun y => .ite (y.to
    (raise_moves _ _ _ _ _)) (y.to (lower_moves _ _ _))

/-! ### Engine -/

theorem modOp_moves (h : Hub) (slot : Nat) (f : Op → Op) : Moves ⟨[.eng], [], []⟩ h (h.modOp slot f) :=
  (Moves.refl _ h).eng _

theorem opsRing_moves (h : Hub) (w : Nat) : Moves (faultFoot.join ⟨[.regs], [], []⟩) h (h.opsRing w) :=
  ((Moves.refl _ h).putAny _ _ _ _).to (event_moves _ _ _ _)

theorem ringBell_moves (h : Hub) (w v : Nat) : Moves ⟨[.regs, .sup, .sch], [], []⟩ h (h.ringBell w v) :=
  ((Moves.refl _ h).wrAny _ _ _ _).to (wantDomain_moves _ _)

theorem accept_moves (h : Hub) (w : Nat) : Moves (faultFoot.join ⟨[.regs, .bad], [], []⟩) h (h.accept w) := by
  unfold Hub.accept
  extract_lets head b a bad d w1 w2 kind k1
  have y1 : Moves (faultFoot.join ⟨[.regs, .bad], [], []⟩) h k1 := by
    dsimp only [k1]
    clear_value bad
    split
    · exact ((Moves.refl _ h).to (ueFound_moves _ _ _)).to (opsRing_moves _ _)
    · exact Moves.refl _ h
  split
  · exact Moves.refl _ h
  · split
    · exact Moves.refl _ h
    · have y3 (s v : Nat) := (((y1.to (setMemWord_moves _ (poolSlotAddr s) d)).to (setMemWord_moves _
        (poolSlotAddr s + 4) w1)).to
        (setMemWord_moves _ (poolSlotAddr s + 8) w2)).to (setMemWord_moves _ (a + 12) v)
      refine Moves.wrAny ?_ _ _ _ _
      exact .ite ((((((y3 _ _).eng _).wrAny _ _ _ _).countModAny _ _ _ _).putAny _ _ _ _).countAny _ _ _ _)
        ((((y3 _ _).eng _).wrAny _ _ _ _).countModAny _ _ _ _)

theorem trimDeficits_moves (h : Hub) : Moves ⟨[.eng], [], []⟩ h (h.trimDeficits) :=
  (Moves.refl _ h).eng _

theorem launch_moves (h : Hub) (o : Op) : Moves (faultFoot.join ⟨[.regs], [], []⟩) h (h.launch o) := by
  unfold Hub.launch
  split
  · exact ((Moves.refl _ h).to (ueFound_moves _ _ _)).to (retire_moves _ _ _ _ _)
  · exact .ite ((Moves.refl _ h).to (retire_moves _ _ _ _ _)) (.ite ((Moves.refl _ h).to (retire_moves _ _ _ _ _)) (.ite
      (((Moves.refl _ h).to (modOp_moves _ _ _)).to (submit_moves _ _)) ((Moves.refl _ h).to (modOp_moves _ _ _))))

theorem dispatch_moves (h : Hub) : Moves (faultFoot.join ⟨[.regs], [], []⟩) h (h.dispatch) := by
  unfold Hub.dispatch
  split
  · exact (Moves.refl _ h)
  · split
    · exact (Moves.refl _ h)
    · exact .bind ((Moves.refl _ h).eng _) fun y => .bind (.ite (y.countAny _ _ _ _) y) fun y1 => ((Moves.ite (y1.to
        (modOp_moves _ _ _)) y1).to (launch_moves _ _)).to (trimDeficits_moves _)

theorem opGone_moves (h : Hub) (slot : Nat) : Moves ⟨[.eng], [], []⟩ h (h.opGone slot) :=
  (Moves.refl _ h).eng _

theorem complete_moves (h : Hub) (slot : Nat) : Moves ⟨[.regs, .ints, .pins, .eng, .mem, .bad], [], []⟩ h
    (h.complete slot) := by
  unfold Hub.complete
  split
  · exact (Moves.refl _ h)
  · exact .ite (Moves.refl _ h) (.ite ((Moves.refl _ h).to (opGone_moves _ _)) (.ite (Moves.refl _ h) (.bind (((Moves.ite
      ((((((Moves.refl _ h).to (setMemWord_moves _ _ _)).to (setMemWord_moves _ _ _)).to (setMemWord_moves _ _ _)).to
      (setMemWord_moves _ _ _)).wrAny _ _ _ _) (Moves.refl _ h)).to (opGone_moves _ _)).countModAny _ _ _ _) fun y3 => .bind
      (.ite (y3.to (intEvent_moves _ _ _)) y3) fun y4 => .ite (y4.to (intEvent_moves _ _ _)) y4)))

theorem writeCancel_moves (h : Hub) (w v : Nat) : Moves ⟨[.regs, .sch, .eng], [], []⟩ h (h.writeCancel w v) := by
  unfold Hub.writeCancel
  dsimp only
  split
  · exact ((Moves.refl _ h).wrAny _ _ _ _).wrAny _ _ _ _
  · have htag := (Moves.refl (⟨[.regs, .sch, .eng], [], []⟩ : Foot) h).wrAny OPS_CANCEL_tag v w 0
    exact .ite (htag.wrAny _ _ _ _) (.ite ((((htag.to (dropCand_moves _ _)).to (retire_moves _ _ _ _ _)).wrAny _ _ _ _).to
      (trimDeficits_moves _)) (htag.wrAny _ _ _ _))

theorem writeCqIdx_moves (h : Hub) (w v : Nat) : Moves ⟨[.regs], [], []⟩ h (h.writeCqIdx w v) :=
  (Moves.refl _ h).wrAny _ _ _ _

theorem writeQosRt_moves (h : Hub) (w v : Nat) : Moves ⟨[.regs], [], []⟩ h (h.writeQosRt w v) :=
  ((Moves.refl _ h).wrAny _ _ _ _).wrAny _ _ _ _

/-! ### Faults -/

theorem faultAt_moves (h : Hub) (n res ward detail : Nat) : Moves (faultFoot.join ⟨[.regs], [], []⟩) h
    (h.faultAt n res ward detail) :=
  .ite ((Moves.refl _ h).to (event_moves _ _ _ _)) ((Moves.refl _ h).to (raise_moves _ _ _ _ _))

theorem causeEnds_moves (h : Hub) (n res : Nat) : Moves ⟨[.sup, .hinge, .flt], [], []⟩ h (h.causeEnds n res) := by
  unfold Hub.causeEnds
  split
  · exact ((Moves.refl _ h).sup _).to (fieldFall_moves _ _ _)
  · exact ((Moves.refl _ h).sup _).to (fieldFall_moves _ _ _)
  · exact (Moves.refl _ h).sup _
  · exact .ite (Moves.refl _ h) ((Moves.refl _ h).to (lower_moves _ _ _))

theorem statusCleared_moves (h : Hub) (n : Nat) : Moves ⟨[.regs, .hinge], [], []⟩ h (h.statusCleared n) :=
  .bind ((Moves.refl _ h).forAll fun _ _ _ => (Moves.refl _ _).to (request_moves _ _ _ _)) fun y1 => .ite y1
    (y1.putAny _ _ _ _)

theorem setMask_moves (h : Hub) (n m : Nat) : Moves ⟨[.flt], [], []⟩ h (h.setMask n m) :=
  (Moves.refl _ h).flt _

theorem clearFault_moves (h : Hub) (w n : Nat) : Moves ⟨[.regs, .hinge, .flt], [], []⟩ h (h.clearFault w n) :=
  .ite (.ite ((Moves.refl _ h).countAny _ _ _ _) (.ite (((Moves.refl _ h).to (setMask_moves _ _ _)).to
    (statusCleared_moves _ _)) (Moves.refl _ h))) (.ite ((Moves.refl _ h).countAny _ _ _ _) (.ite
    ((Moves.refl _ h).countAny _ _ _ _) (.ite (((Moves.refl _ h).to (setMask_moves _ _ _)).to (statusCleared_moves _ _))
    ((Moves.refl _ h).to (setMask_moves _ _ _)))))

theorem writeFltStatus_moves (h : Hub) (w word v : Nat) : Moves ⟨[.regs, .hinge, .flt], [], []⟩ h
    (h.writeFltStatus w word v) :=
  (Moves.refl _ h).forAll fun _ _ _ => (Moves.refl _ _).to (clearFault_moves _ _ _)

theorem forceBit_moves (h : Hub) (n : Nat) (on : Bool) : Moves (faultFoot.join ⟨[.regs], [], []⟩) h (h.forceBit n on) :=
  .bind ((Moves.refl _ h).putAny _ _ _ _) fun y => .ite (y.to (occur_moves _ _ _ _ _ _)) (.ite (y.to
    (occur_moves _ _ _ _ _ _)) y)

theorem writeFltForce_moves (h : Hub) (w word v : Nat) : Moves (faultFoot.join ⟨[.regs], [], []⟩) h
    (h.writeFltForce w word v) :=
  .ite ((Moves.refl _ h).forAll fun _ _ _ => .ite ((Moves.refl _ _).to (forceBit_moves _ _ _)) (Moves.refl _ _))
    (Moves.refl _ h)

/-! ### Thermal -/

theorem ledgerUpdate_moves (h : Hub) (c power : Nat) : Moves ⟨[.life], [], []⟩ h (h.ledgerUpdate c power) :=
  .ite (Moves.refl _ h) (((Moves.refl _ h).life _).to (modAcc_moves _ _ _))

theorem dieStress_moves (h : Hub) : Moves ⟨[.ret, .life], [], []⟩ h (h.dieStress) :=
  .ite (Moves.refl _ h) ((Moves.refl _ h).ret_life _ _)

theorem judgeWarn_moves (h : Hub) : Moves (faultFoot.join ⟨[.regs], [], []⟩) h (h.judgeWarn) :=
  .bind (((Moves.refl _ h).sch _).putAny _ _ _ _) fun y => .ite (y.to (raise_moves _ _ _ _ _)) (y.to (lower_moves _ _ _))

theorem takeMeas_moves (h : Hub) : Moves ⟨[.sch], [], []⟩ h (h.takeMeas) :=
  .ite (Moves.refl _ h) ((Moves.refl _ h).sch _)

theorem modelUpdate_moves (h : Hub) (v : List ℤ) (i : List Nat) (own vf : Nat) : Moves ⟨[.sch, .life], [], []⟩ h
    (h.modelUpdate v i own vf) :=
  ((Moves.refl _ h).sch _).foldl fun _ _ _ => (Moves.refl _ _).to (ledgerUpdate_moves _ _ _)

theorem fieldRound_moves (h : Hub) (v : List ℤ) (i : List Nat) (own vf : Nat) : Moves ⟨[.sup, .hinge, .sch, .life], [],
    []⟩ h (h.fieldRound v i own vf) :=
  (((Moves.refl _ h).sup _).to (modelUpdate_moves _ _ _ _ _)).to (sendF_moves _ _)

/-! ### HingeRx -/

theorem laneReturn_moves (h : Hub) (lane : Nat) : Moves ⟨[.regs, .clk, .hinge, .flt, .ints, .pins], [], []⟩ h
    (h.laneReturn lane) :=
  .bind ((Moves.refl _ h).to (modLane_moves _ _ _)) fun y => (Moves.ite (y.to (fieldFall_moves _ _ _)) (y.to
    (lower_moves _ _ _))).to (checkLink_moves _)

theorem laneTake_moves (h : Hub) (lane : Nat) (good : Bool) (seq : Nat) : Moves (faultFoot.join ⟨[.regs, .sup, .clk, .ins,
    .ports, .life], [], []⟩) h (h.laneTake lane good seq) :=
  .bind ((Moves.ite ((Moves.refl _ h).countAny _ _ _ _) (Moves.refl _ h)).to (modLane_moves _ _ _)) fun y1 => .ite (y1.to
    (laneDown_moves _ _)) (.ite (y1.to (laneReturn_moves _ _)) y1)

theorem recvMargin_moves (h : Hub) (payload : Nat) : Moves ⟨[.regs, .ret, .hinge], [], []⟩ h (h.recvMargin payload) :=
  .ite (Moves.refl _ h) ((Moves.refl _ h).forAll fun _ _ _ => (Moves.refl _ _).to (showMargin_moves _ _ _))

theorem recvIdle_moves (h : Hub) : Moves (faultFoot.join ⟨[.regs, .sup, .ports], [], []⟩) h (h.recvIdle) :=
  .ite (((Moves.refl _ h).to (showLanes_moves _)).to (loseL_moves _)) ((Moves.refl _ h).to (showLanes_moves _))

theorem actF_moves (h : Hub) (lane typ payload stamp : Nat) (late : Bool) : Moves (faultFoot.join ⟨[.regs, .sup, .clk, .ins,
    .life], [], []⟩) h (h.actF lane typ payload stamp late) :=
  .ite ((Moves.refl _ h).to (takeTimeS_moves _ _ _)) (.ite ((Moves.refl _ h).to (takeTimeL_moves _ _ _)) (.ite
    ((Moves.refl _ h).to (recvOutCmd_moves _ _ _ _)) (.ite ((Moves.refl _ h).to (recvHb_moves _ _ _ _)) (.ite
    ((Moves.refl _ h).to (recvBoltRel_moves _)) (.ite ((Moves.refl _ h).to (recvReq_moves _ _)) (.ite ((Moves.refl _ h).to
    (recvVec_moves _ _ _ _)) (Moves.refl _ h)))))))

theorem actL_moves (h : Hub) (typ payload stamp : Nat) : Moves (faultFoot.join ⟨[.regs, .sup, .ins, .ports, .life,
    .fieldReset], [], []⟩) h (h.actL typ payload stamp) :=
  .ite ((Moves.refl _ h).to (recvOutStat_moves _ _ _ _)) (.ite ((Moves.refl _ h).to (recvHb_moves _ _ _ _)) (.ite
    ((Moves.refl _ h).to (recvFault_moves _ _ _ _ _)) (.ite ((Moves.refl _ h).to (recvFsum_moves _ _)) (.ite
    ((Moves.refl _ h).to (recvRsp_moves _ _)) (.ite ((Moves.refl _ h).to (recvMargin_moves _ _)) (.ite ((Moves.refl _ h).to
    (takeMeas_moves _)) (.ite ((Moves.refl _ h).to (recvIdle_moves _)) (Moves.refl _ h))))))))

theorem pass_moves (h : Hub) (lane typ payload stamp : Nat) (late : Bool) : Moves (faultFoot.join ⟨[.regs, .sup, .clk, .ins,
    .ports, .life, .fieldReset], [], []⟩) h (h.pass lane typ payload stamp late) :=
  .bind ((Moves.refl _ h).to (landOn_moves _ _ _ _)) fun y => .ite (y.hinge _) (.bind (.ite (y.hinge _) y) fun y1 => .ite
    (.ite (y1.to (actF_moves _ _ _ _ _ _)) y1) (.ite (y1.to (actL_moves _ _ _ _)) y1))

theorem frameIn_moves (h : Hub) (lane f : Nat) (codeOk : Bool) (stamp : Nat) (late : Bool) : Moves (faultFoot.join ⟨[.regs,
    .sup, .clk, .ins, .ports, .life, .fieldReset], [], []⟩) h (h.frameIn lane f codeOk stamp late) :=
  .ite (Moves.refl _ h) (.bind ((Moves.refl _ h).to (laneTake_moves _ _ _ _)) fun y => .ite (y.to
    (pass_moves _ _ _ _ _ _)) y)

/-! ### Interrupts -/

theorem modExpiry_moves (h : Hub) (w : Nat) : Moves ⟨[.regs, .ints, .pins], [], []⟩ h (h.modExpiry w) :=
  .ite (.ite ((Moves.refl _ h).to (intRelease_movesAny _ _)) ((Moves.refl _ h).to (modInt_moves _ _ _))) (Moves.refl _ h)

theorem pulseEnd_moves (h : Hub) (p : Nat) : Moves ⟨[.pins], [], []⟩ h (h.pulseEnd p) :=
  (Moves.refl _ h).to (modPin_moves _ _ _)

theorem writeIntStat_moves (h : Hub) (w v : Nat) : Moves ⟨[.regs, .ints], [], []⟩ h (h.writeIntStat w v) :=
  ((Moves.refl _ h).wrAny _ _ _ _).to (intEnd_moves _ _)

theorem writeIntEn_moves (h : Hub) (w v : Nat) : Moves ⟨[.regs, .ints, .pins], [], []⟩ h (h.writeIntEn w v) :=
  .bind ((Moves.refl _ h).wrAny _ _ _ _) fun y => (Moves.ite (y.to (intFire_movesAny _ _ _)) y).to (intEnd_moves _ _)

theorem writeIntSet_moves (h : Hub) (w v : Nat) : Moves ⟨[.regs, .ints, .pins], [], []⟩ h (h.writeIntSet w v) :=
  .ite ((Moves.refl _ h).to (intEvent_moves _ _ _)) (Moves.refl _ h)

theorem writeIntMod_moves (h : Hub) (w v : Nat) : Moves ⟨[.regs], [], []⟩ h (h.writeIntMod w v) :=
  (Moves.refl _ h).wrAny _ _ _ _

/-! ### SelfTest -/

theorem takeSig_moves (h : Hub) (g sig : Nat) (selfOk : Bool) : Moves ⟨[.regs, .bst], [], []⟩ h (h.takeSig g sig selfOk) :=
  .bind (.ite ((Moves.refl _ h).wrAny _ _ _ _) ((Moves.refl _ h).wrAny _ _ _ _)) fun y => .ite y (y.bst _)

theorem judgeLogic_moves (h : Hub) : Moves (faultFoot.join ⟨[.regs], [], []⟩) h (h.judgeLogic) :=
  .ite ((Moves.refl _ h).to (lower_moves _ _ _)) ((Moves.refl _ h).to (raise_moves _ _ _ _ _))

theorem judgeField_moves (h : Hub) : Moves (faultFoot.join ⟨[.regs], [], []⟩) h (h.judgeField) :=
  .ite ((Moves.refl _ h).to (lower_moves _ _ _)) ((Moves.refl _ h).to (raise_moves _ _ _ _ _))

theorem wdFreezeAll_moves (h : Hub) : Moves ⟨[.wds], [], []⟩ h (h.wdFreezeAll) :=
  (Moves.refl _ h).forAll fun _ _ _ => (Moves.refl _ _).to (modWd_moves _ _ _)

theorem fieldPart_moves (h : Hub) : Moves ⟨[.regs, .dev, .sup, .hinge, .outs, .ins, .tmbs, .sch, .ints, .pins, .bst], [],
    []⟩ h (h.fieldPart) :=
  (((((Moves.refl _ h).to (fholdStop_moves _)).wrAny _ _ _ _).to (sendSafe_moves _ _ (fun _ hc => (List.mem_range.mp
    (List.mem_filter.mp hc).1)))).dev_bst _ _).to (fieldTestGo_moves _)

theorem enterTest_moves (h : Hub) (kind : Nat) : Moves ⟨[.regs, .dev, .sup, .hinge, .outs, .ins, .dbt, .tmbs, .sch, .ints,
    .pins, .eng, .mem, .wds, .bst, .free], [], []⟩ h (h.enterTest kind) :=
  .bind (((((((((((Moves.refl _ h).forAll fun _ t ht => (Moves.refl _ _).to (tmbStop_moves _ _ _ _
    (List.mem_range.mp ht))).to (wdFreezeAll_moves _)).to (closeSafetyPages_moves _)).to
    (abandonProof_moves _)).putAny _ _ _ _).wrAny _ _ _ _).wrAny _ _ _ _).putAny _ _ _ _).wrAny _ _ _ _).dev_bst _ _) fun y5
    => .ite (y5.to (fieldPart_moves _)) ((y5.to (request_moves _ _ _ _)).wrAny _ _ _ _)

theorem writeBstXctrl_moves (h : Hub) (v : Nat) : Moves ⟨[.regs], [], []⟩ h (h.writeBstXctrl v) :=
  ((Moves.refl _ h).wrAny _ _ _ _).wrAny _ _ _ _

theorem testOver_moves (h : Hub) : Moves ⟨[.regs, .dev, .ret, .recd, .ints, .pins, .wds, .bst, .free], [], []⟩ h
    (h.testOver) :=
  (((((Moves.refl _ h).wrAny _ _ _ _).to (endTest_moves _ _)).to (bistRecord_moves _)).to (wdStartAll_moves _)).to
    (intEvent_moves _ _ _)

/-! ### Watchdogs -/

theorem newSeed_moves (h : Hub) (k : Nat) : Moves ⟨[.wds, .free], [], []⟩ h (h.newSeed k) := by
  unfold Hub.newSeed
  exact ((Moves.refl _ h).to (freeNat_moves _ _)).to (modWd_moves _ _ _)

theorem wdoPulse_moves (h : Hub) (k : Nat) : Moves ⟨[.regs, .wdo], [], []⟩ h (h.wdoPulse k) :=
  .ite (Moves.refl _ h) (.ite ((Moves.refl _ h).countAny _ _ _ _)
    ((((Moves.refl _ h).putAny _ _ _ _).countAny _ _ _ _).wdo _))

theorem wdCount_moves (h : Hub) (k cause : Nat) : Moves ⟨[.regs, .ret], [], []⟩ h (h.wdCount k cause) :=
  ((Moves.refl _ h).wrAny _ _ _ _).ret _

theorem wardExpiry_moves (h : Hub) (w cause : Nat) : Moves (faultFoot.join ⟨[.regs, .ins, .banks, .wdo], [], []⟩) h
    (h.wardExpiry w cause) :=
  .bind ((Moves.refl _ h).to (wdCount_moves _ _ _)) fun y => .bind (((Moves.ite y (y.to (event_moves _ _ _ _))).to
    (event_moves _ _ _ _)).to (wdoPulse_moves _ _)) fun y3 => .ite (y3.to (modWd_moves _ _ _)) (y3.to
    (wardReset_moves _ _ _))

theorem deviceExpiry_moves (h : Hub) (cause : Nat) : Moves (faultFoot.join ⟨[.regs, .wdo], [], []⟩) h
    (h.deviceExpiry cause) :=
  .bind ((Moves.refl _ h).to (wdCount_moves _ _ _)) fun y => (((((Moves.ite y (y.to (event_moves _ _ _ _))).to
    (note_moves _ _ _ _ _ _ _)).to (history_moves _ _ _)).to (wdoPulse_moves _ _)).to (modWd_moves _ _ _)).to
    (orderReset_moves _ _ _)

theorem wdExpire_moves (h : Hub) (k cause : Nat) : Moves (faultFoot.join ⟨[.regs, .ins, .banks, .wdo], [], []⟩) h
    (h.wdExpire k cause) :=
  .ite ((Moves.refl _ h).to (deviceExpiry_moves _ _)) ((Moves.refl _ h).to (wardExpiry_moves _ _ _))

theorem writeKick_moves (h : Hub) (k v : Nat) : Moves (faultFoot.join ⟨[.regs, .ins, .banks, .wdo], [], []⟩) h
    (h.writeKick k v) :=
  .ite ((Moves.refl _ h).countAny _ _ _ _) (.ite (Moves.refl _ h) (.ite (Moves.refl _ h) (.ite ((Moves.ite
    (((Moves.refl _ h).countAny _ _ _ _).to (newSeed_moves _ _)) ((Moves.refl _ h).countAny _ _ _ _)).to
    (wdExpire_moves _ _ _)) (.ite (((Moves.refl _ h).to (modWd_moves _ _ _)).to (newSeed_moves _ _)) ((Moves.refl _ h).to
    (modWd_moves _ _ _))))))

end Sys2Proof.Machine

/-!
PROOF. The footprints of the model's functions, a section for each of its files: RegRead, Scheduler, SelfTestOrders, RegWrite, Ports, OpsExec.
-/

namespace Sys2Proof.Machine

set_option Elab.async false

/-! ### RegRead -/

theorem readReg_moves (h : Hub) (w a : Nat) : Moves ⟨[.regs, .ins, .recd, .lsy, .free], [], []⟩ h (h.readReg w a).2 := by
  unfold Hub.readReg
  dsimp only
  split
  · exact Moves.sndOf (.ite ((Moves.refl _ h).to (latchTb_moves _ _)) (Moves.refl _ h))
  · exact Moves.iteSnd (Moves.sndOf (Moves.refl _ h)) (Moves.iteSnd ((Moves.refl _ h).to (readTsLo_moves _ _)) (Moves.iteSnd
      (Moves.sndOf (((Moves.refl _ h).wrAny _ _ _ _).wrAny _ _ _ _)) (Moves.sndOf (Moves.refl _ h))))
  · exact Moves.iteSnd ((Moves.refl _ h).to (readLsyRx_moves _ _)) (Moves.iteSnd (Moves.sndOf
      ((Moves.refl _ h).wrAny _ _ _ _)) (Moves.sndOf (Moves.refl _ h)))
  · exact Moves.iteSnd (Moves.sndOf ((Moves.refl _ h).to (readNewest_moves _ _))) (Moves.iteSnd (Moves.sndOf
      ((Moves.refl _ h).to (readSqbHi_moves _ _))) (Moves.iteSnd ((Moves.refl _ h).to (readNonce_moves _)) (Moves.sndOf
      (Moves.refl _ h))))
  · exact Moves.iteSnd (Moves.sndOf ((Moves.refl _ h).to (readLifeWindow_moves _ _))) (Moves.sndOf (Moves.refl _ h))
  · exact Moves.sndOf (Moves.refl _ h)

theorem readMem_moves (h : Hub) (w a : Nat) : Moves (faultFoot.join ⟨[.regs, .dpHigh], [], []⟩) h (h.readMem w a).2 :=
  .bind (.ite ((Moves.refl _ h).to (ueFound_moves _ _ _)) (Moves.refl _ h)) fun y => Moves.iteSnd (y.to
    (readDp_moves _ _ _)) (Moves.sndOf y)

theorem readWord_moves (h : Hub) (w a : Nat) : Moves (faultFoot.join ⟨[.regs, .ins, .dpHigh, .lsy], [], []⟩) h
    (h.readWord w a).2 :=
  Moves.iteSnd ((Moves.refl _ h).to (readReg_moves _ _ _)) ((Moves.refl _ h).to (readMem_moves _ _ _))

/-! ### Scheduler -/

theorem account_moves (h : Hub) : Moves ⟨[.regs, .sch], [], []⟩ h (h.account) :=
  (((Moves.refl _ h).sch _).wrAny _ _ _ _).wrAny _ _ _ _

theorem showVfCross_moves (h : Hub) : Moves ⟨[.regs], [], []⟩ h (h.showVfCross) :=
  (Moves.refl _ h).putAny _ _ _ _

theorem prune_moves (h : Hub) : Moves ⟨[.sch], [], []⟩ h (h.prune) :=
  (Moves.refl _ h).sch _

theorem takeEffect_moves (h : Hub) (x : Cand) : Moves ⟨[.regs, .dev, .sup, .ret, .hinge, .outs, .ins, .dbt, .tmbs, .sch,
    .recd, .ints, .pins, .eng, .mem, .lsy, .wds, .bst, .blk, .nvmOp, .nvmQ, .free], [], []⟩ h (h.takeEffect x) :=
  .ite (((Moves.refl _ h).to (modOut_moves _ _ _)).putAny _ _ _ _) (by
  split
  · exact (((Moves.refl _ h).to (modOut_moves _ _ _)).putAny _ _ _ _).to (command_moves _ _ _ _)
  · exact (((Moves.refl _ h).to (modOut_moves _ _ _)).putAny _ _ _ _).to (command_moves _ _ _ _)
  · exact .bind (((Moves.refl _ h).forAll fun _ _ _ => (Moves.refl _ _).to (setShed_moves _ _ _)).to
      (note_moves _ _ _ _ _ _ _)) fun y2 => (Moves.ite (y2.forAll fun _ _ _ => (Moves.refl _ _).to
      (modOut_moves _ _ _)) y2).to (command_moves _ _ _ _)
  · exact .ite (((Moves.refl _ h).forAll fun _ _ _ => (Moves.refl _ _).to (modOut_moves _ _ _)).to (command_moves _ _ _ _))
      (Moves.refl _ h)
  · exact .ite (((Moves.refl _ h).forAll fun _ _ _ => (Moves.refl _ _).to (modOut_moves _ _ _)).to (command_moves _ _ _ _))
      (Moves.refl _ h)
  · exact (Moves.refl _ h).to (modOut_moves _ _ _)
  · exact (Moves.refl _ h).to (tmbAdmit_moves _ _)
  · exact (Moves.refl _ h).to (modTmb_moves _ _ _)
  · exact (Moves.refl _ h).sup _
  · exact .ite ((Moves.refl _ h).to (journalAdmit_moves _)) (.ite ((Moves.refl _ h).to (lifeAdmit_moves _ _))
      ((Moves.refl _ h).to (rcvAdmit_moves _)))
  · exact .ite ((Moves.refl _ h).to (eraseAdmit_moves _)) (.ite ((Moves.refl _ h).to (lifeAdmit_moves _ _))
      ((Moves.refl _ h).to (rcvAdmit_moves _)))
  · exact (Moves.refl _ h).to (modOp_moves _ _ _)
  · exact (Moves.refl _ h).lsy _
  · exact (Moves.refl _ h).to (enterTest_moves _ _))

theorem admitCand_moves (h : Hub) (x : Cand) : Moves ⟨[.regs, .dev, .sup, .ret, .hinge, .outs, .ins, .dbt, .tmbs, .sch,
    .recd, .ints, .pins, .eng, .mem, .lsy, .wds, .bst, .blk, .nvmOp, .nvmQ, .free], [], []⟩ h (h.admitCand x) :=
  .bind ((Moves.refl _ h).to (dropCand_moves _ _)) fun y => .bind (.ite y (y.sch _)) fun y1 => (Moves.ite (y1.sch _) y1).to
    (takeEffect_moves _ _)

theorem offNow_moves (h : Hub) (l : List Nat) : Moves ⟨[.sch], [], []⟩ h (h.offNow l) :=
  (Moves.refl _ h).forAll fun _ _ _ => ((Moves.refl _ _).sch _).to (dropVf_moves _ _)

theorem shed_moves (h : Hub) (c : Nat) (x : ℤ × Nat) : Moves ⟨[.regs, .ret, .hinge, .sch, .recd, .ints, .pins, .bst], [],
    []⟩ h (h.shed c x) :=
  (((((((Moves.refl _ h).forAll fun _ _ _ => (Moves.refl _ _).to (setShed_moves _ _ _)).to (command_moves _ _ _ _)).to
    (offNow_moves _ _)).countAny _ _ _ _).to (note_moves _ _ _ _ _ _ _)).to (intOwner_moves _ _ _)).to (submit_moves _ _)

theorem softCuts_moves (h : Hub) : Moves ⟨[.regs, .hinge, .outs, .sch, .flt, .life], [], []⟩ h (h.softCuts) :=
  (Moves.refl _ h).forAll fun _ _ _ => .ite (((Moves.refl _ _).to (shutdown_moves _ _ _ _)).to (offNow_moves _ _))
    (Moves.refl _ _)

theorem crossCheck_moves (h : Hub) : Moves (faultFoot.join ⟨[.regs], [], []⟩) h (h.crossCheck).1 := by
  unfold Hub.crossCheck
  split
  · exact Moves.fstOf (((Moves.refl _ h).putAny _ _ _ _).to (lower_moves _ _ _))
  · exact by
      split
      · exact Moves.fstOf ((Moves.refl _ h).to (shed_moves _ _ _))
      · exact Moves.fstOf (((Moves.refl _ h).putAny _ _ _ _).to (raise_moves _ _ _ _ _))

theorem showWorst_moves (h : Hub) : Moves ⟨[.regs], [], []⟩ h (h.showWorst) :=
  (((Moves.refl _ h).foldl fun _ _ _ => (Moves.refl _ _).wrAny _ _ _ _).wrAny _ _ _ _).wrAny _ _ _ _

theorem judgeNext_moves (h : Hub) (j : Judged) (x : Cand) : Moves ⟨[.regs, .dev, .sup, .ret, .hinge, .outs, .ins, .dbt,
    .tmbs, .sch, .recd, .ints, .pins, .eng, .mem, .lsy, .wds, .bst, .blk, .nvmOp, .nvmQ, .free], [], []⟩ h
    (h.judgeNext j x).1 :=
  Moves.iteFst (Moves.fstOf (Moves.refl _ h)) (Moves.iteFst (Moves.fstOf ((Moves.refl _ h).to (admitCand_moves _ _))) (.bind
    (.ite (Moves.refl _ h) ((Moves.refl _ h).forAll fun _ _ _ => (Moves.refl _ _).to (wantDomain_moves _ _))) fun y1 =>
    Moves.fstOf (Moves.ite (y1.to (modOp_moves _ _ _)) y1)))

theorem askWakes_moves (h : Hub) (restores : Bool) : Moves ⟨[.regs, .sup, .sch], [], []⟩ h (h.askWakes restores) :=
  (Moves.refl _ h).forAll fun _ _ _ => .ite (Moves.refl _ _) ((Moves.refl _ _).to (wantDomain_moves _ _))

theorem judgeAllCands_moves (h : Hub) (restores : Bool) :
    Moves ⟨[.regs, .dev, .sup, .ret, .hinge, .outs, .ins, .dbt, .tmbs, .sch, .recd, .ints, .pins, .eng, .mem, .lsy, .wds,
      .bst,
      .blk, .nvmOp, .nvmQ, .free], [], []⟩ h (h.judgeAllCands restores).1 :=
  ((Moves.refl _ h).to (askWakes_moves _ _)).foldlFst fun p x => judgeNext_moves p.1 p.2 x

theorem showDeferred_moves (h : Hub) (j : Judged) : Moves ⟨[.regs], [], []⟩ h (h.showDeferred j) :=
  (Moves.refl _ h).forAll fun _ _ _ => ((Moves.refl _ _).wrAny _ _ _ _).countModAny _ _ _ _

theorem domainOff_moves (h : Hub) (d : Nat) : Moves ⟨[.regs, .kept, .sup, .hinge, .outs, .sch, .flt, .banks, .life], [],
    []⟩ h (h.domainOff d) :=
  .bind (((Moves.refl _ h).to (keepDomain_moves _ _)).sup _) fun y1 => .ite (y1.forAll fun _ _ _ => (Moves.refl _ _).to
    (handDrop_moves _ _ _)) (.ite (y1.forAll fun _ _ _ => (Moves.refl _ _).to (reSwitch_movesAny _ _ _)) y1)

theorem idleDomains_moves (h : Hub) : Moves ⟨[.regs, .kept, .sup, .hinge, .outs, .sch, .flt, .banks, .life], [], []⟩ h
    (h.idleDomains) :=
  (Moves.refl _ h).forAll fun _ _ _ => .ite ((Moves.refl _ _).to (domainOff_moves _ _)) (Moves.refl _ _)

theorem decideEarly_moves (h : Hub) : Moves ⟨[.regs, .dev, .sup, .ret, .hinge, .outs, .ins, .dbt, .tmbs, .sch, .recd, .ints,
    .pins, .eng, .mem, .lsy, .wds, .bst, .blk, .nvmOp, .nvmQ, .free], [], []⟩ h (h.decideEarly) :=
  (Moves.refl _ h).forAll fun _ _ _ => by
  split
  · exact .ite ((Moves.refl _ _).to (admitCand_moves _ _)) (Moves.refl _ _)
  · exact (Moves.refl _ _)

theorem decision_moves (h : Hub) : Moves (faultFoot.join ⟨[.regs, .kept, .sup, .ins, .banks, .lsy, .life, .blk, .nvmOp,
    .nvmQ], [], []⟩) h (h.decision) := by
  unfold Hub.decision
  extract_lets k1 k2 c k3 p p' k4 k5
  have y2 : Moves (faultFoot.join ⟨[.regs, .kept, .sup, .ins, .banks, .lsy, .life, .blk, .nvmOp, .nvmQ], [], []⟩) h k2 :=
    (Moves.ite (((Moves.refl _ h).to (account_moves _)).to (softCuts_moves _)) ((Moves.refl _ h).to (account_moves _))).to
      (showVfCross_moves _)
  have y3 : Moves (faultFoot.join ⟨[.regs, .kept, .sup, .ins, .banks, .lsy, .life, .blk, .nvmOp, .nvmQ], [], []⟩) h k3 :=
    (Moves.iteFst (y2.to (crossCheck_moves _)) y2).to (showWorst_moves _)
  refine .ite y3 (Moves.to ?_ (idleDomains_moves _))
  have y4 : Moves (faultFoot.join ⟨[.regs, .kept, .sup, .ins, .banks, .lsy, .life, .blk, .nvmOp, .nvmQ], [], []⟩) h k4 :=
    (Moves.iteFst (y3.to (judgeAllCands_moves _ _)) (y3.to (judgeAllCands_moves _ _))).to (showDeferred_moves _ _)
  refine .ite y4 ?_
  split
  · exact y4.to (shed_moves _ _ _)
  · exact y4

/-! ### SelfTestOrders -/

theorem writeBstCtrl_moves (h : Hub) (w v : Nat) : Moves ⟨[.regs, .dev, .sup, .ret, .hinge, .outs, .ins, .dbt, .tmbs, .sch,
    .recd, .ints, .pins, .eng, .mem, .lsy, .wds, .bst, .blk, .nvmOp, .nvmQ, .free], [], []⟩ h (h.writeBstCtrl w v) :=
  .ite (.bind ((((Moves.refl _ h).putAny _ _ _ _).wrAny _ _ _ _).wrAny _ _ _ _) fun y => .ite (y.to (admitCand_moves _ _))
    (y.to (submit_moves _ _))) (Moves.refl _ h)

theorem bstRow_moves (h : Hub) (w v kind : Nat) : Moves ⟨[.regs, .dev, .sup, .ret, .hinge, .outs, .ins, .dbt, .tmbs, .sch,
    .recd, .ints, .pins, .eng, .mem, .lsy, .wds, .bst, .blk, .nvmOp, .nvmQ, .free], [], []⟩ h (h.bstRow w v kind) :=
  .ite ((Moves.refl _ h).to (writeBstCtrl_moves _ _ _)) (Moves.refl _ h)

/-! ### RegWrite -/

theorem writeSchRt_moves (h : Hub) (w v : Nat) : Moves ⟨[.regs], [], []⟩ h (h.writeSchRt w v) :=
  ((Moves.refl _ h).wrAny _ _ _ _).wrAny _ _ _ _

theorem writeExpOpen_moves (h : Hub) (w v : Nat) : Moves ⟨[.regs, .ret, .recd, .bst], [], []⟩ h (h.writeExpOpen w v) :=
  .ite (Moves.refl _ h) (.bind (((Moves.refl _ h).to (closePages_movesAny _ _ _)).wrAny _ _ _ _) fun y => .bind (.ite (y.to
    (note_moves _ _ _ _ _ _ _)) y) fun y1 => .ite (y1.to (note_moves _ _ _ _ _ _ _)) y1)

theorem writeRcv_moves (h : Hub) (w o v : Nat) : Moves ⟨[.regs, .dev, .sch, .blk, .nvmOp, .nvmQ], [], []⟩ h
    (h.writeRcv w o v) :=
  .ite (Moves.refl _ h) (.ite ((Moves.refl _ h).wrAny _ _ _ _) (.ite ((Moves.refl _ h).to (writeRcvCmd_moves _ _)) (.ite
    ((Moves.refl _ h).wrAny _ _ _ _) (Moves.refl _ h))))

theorem writeOps_moves (h : Hub) (w o v : Nat) : Moves ⟨[.regs, .sch, .eng], [], []⟩ h (h.writeOps w o v) := by
  unfold Hub.writeOps
  split
  · exact (Moves.refl _ h).to (writeCqIdx_moves _ _ _)
  · exact .ite ((Moves.refl _ h).putAny _ _ _ _) (Moves.refl _ h)
  · exact (Moves.refl _ h).to (writeCancel_moves _ _ _)
  · exact .ite ((Moves.refl _ h).putAny _ _ _ _) (Moves.refl _ h)
  · exact (Moves.refl _ h).to (writeQosRt_moves _ _ _)
  · exact (Moves.refl _ h)

theorem writeIntRst_moves (h : Hub) (w o v : Nat) : Moves ⟨[.regs, .dev, .hinge, .outs, .ins, .tmbs, .sch, .flt, .ints,
    .pins, .eng, .banks, .mem, .wds, .fieldReset, .fieldSince, .free], [], []⟩ h (h.writeIntRst w o v) :=
  .ite (by
  split
  · exact (Moves.refl _ h).to (writeIntEn_moves _ _ _)
  · exact (Moves.refl _ h).to (writeIntStat_moves _ _ _)
  · exact (Moves.refl _ h).to (writeIntSet_moves _ _ _)
  · exact (Moves.refl _ h).to (writeIntMod_moves _ _ _)
  · exact (Moves.refl _ h)) (by
  split
  · exact (Moves.refl _ h).to (writeRstDev_moves _ _ _)
  · exact (Moves.refl _ h).to (writeRstField_moves _ _ _)
  · exact (Moves.refl _ h).to (writeRstWard_moves _ _ _)
  · exact (Moves.refl _ h))

theorem writeOut_moves (h : Hub) (c o v : Nat) (port : Option (Nat × Nat)) : Moves ⟨[.regs, .hinge, .outs, .sch, .lsy], [],
    []⟩ h (h.writeOut c o v port) := by
  unfold Hub.writeOut
  split
  · exact (Moves.refl _ h).to (writeOutRt_moves _ _ _ _)
  · exact (Moves.refl _ h).to (writeOutCtrl_moves _ _ _ _)
  · exact (Moves.refl _ h).to (writeOutFlt_moves _ _ _ _)
  · exact (Moves.refl _ h)

theorem writeTmb_moves (h : Hub) (a v : Nat) : Moves ⟨[.regs, .sup, .hinge, .tmbs, .sch, .flt, .ints, .pins, .eng, .mem,
    .free], [], []⟩ h (h.writeTmb a v) :=
  .ite (.ite ((Moves.refl _ h).to (writeCmpThr_moves _ _ _)) (Moves.refl _ h)) (by
  split
  · exact (Moves.refl _ h).wrAny _ _ _ _
  · exact (Moves.refl _ h).to (writeTmbCtrl_moves _ _ _)
  · exact (Moves.refl _ h))

theorem writeBnk_moves (h : Hub) (w o v : Nat) : Moves ⟨[.regs, .banks], [], []⟩ h (h.writeBnk w o v) :=
  .ite (Moves.refl _ h) (by
  split
  · exact (Moves.refl _ h).to (writeBnkOwner_moves _ _ _ _)
  · exact (Moves.refl _ h).to (writeBnkStat_moves _ _ _)
  · exact (Moves.refl _ h).to (writeBnkCtrl_moves _ _ _)
  · exact (Moves.refl _ h))

theorem writeRec_moves (h : Hub) (w o v : Nat) : Moves (faultFoot.join ⟨[.regs], [], []⟩) h (h.writeRec w o v) :=
  .ite ((Moves.refl _ h).wrAny _ _ _ _) (.ite ((Moves.refl _ h).to (writeRecRt_moves _ _ _)) (.ite ((Moves.refl _ h).to
    (writeJrdCtrl_moves _ _)) (.ite (((Moves.refl _ h).putAny _ _ _ _).wrAny _ _ _ _) (.ite ((Moves.refl _ h).to
    (writeToken_moves _ _ _)) (.ite ((Moves.refl _ h).to (writeKeyCtrl_moves _ _)) (.ite ((Moves.refl _ h).wrAny _ _ _ _)
    (Moves.refl _ h)))))))

theorem writeSafety_moves (h : Hub) (w p o v : Nat) : Moves (faultFoot.join ⟨[.regs, .sup, .ins, .banks, .lsy, .wdo, .life,
    .blk, .nvmOp, .nvmQ], [], []⟩) h (h.writeSafety w p o v) := by
  unfold Hub.writeSafety
  split
  · exact .ite ((Moves.refl _ h).to (writeSchRt_moves _ _ _)) (Moves.refl _ h)
  · exact .ite ((Moves.refl _ h).to (writeSafeExit_moves _ _ _)) (.ite ((Moves.refl _ h).to (writeProofCtrl_moves _ _ _))
      (Moves.refl _ h))
  · exact .ite ((Moves.refl _ h).to (writeFltStatus_moves _ _ _ _)) (.ite ((Moves.refl _ h).to
      (writeFltForce_moves _ _ _ _)) (.ite ((Moves.refl _ h).wrAny _ _ _ _) (Moves.refl _ h)))
  · exact .ite ((Moves.refl _ h).to (writeKick_moves _ _ _)) (Moves.refl _ h)
  · exact (Moves.refl _ h).to (writeRec_moves _ _ _ _)
  · exact .ite ((Moves.refl _ h).to (writeLifeCtrl_moves _ _)) (.ite ((Moves.refl _ h).wrAny _ _ _ _) (.ite
      ((Moves.refl _ h).wrAny _ _ _ _) (Moves.refl _ h)))
  · exact .ite ((Moves.refl _ h).to (writeBstCtrl_moves _ _ _)) (.ite ((Moves.refl _ h).to (writeBstXctrl_moves _ _))
      (Moves.refl _ h))
  · exact (Moves.refl _ h)

theorem writeReg_moves (h : Hub) (w a v : Nat) (port : Option (Nat × Nat)) : Moves (faultFoot.join ⟨[.regs, .chip, .sup,
    .ins, .banks, .lsy, .wdo, .life, .blk, .nvmOp, .nvmQ, .fieldReset, .fieldSince], [], []⟩) h (h.writeReg w a v port) := by
  unfold Hub.writeReg
  dsimp only
  split
  · exact .ite ((Moves.refl _ h).to (writeClkCtrl_moves _ _ _)) (.ite ((Moves.refl _ h).putAny _ _ _ _) (Moves.refl _ h))
  · exact .ite ((Moves.refl _ h).to (writeBlkCtrl_moves _ _ _)) (.ite ((Moves.refl _ h).to (writeBlkReboot_moves _ _ _))
      (.ite ((Moves.refl _ h).to (writeBlkFuse_moves _ _ _)) ((Moves.refl _ h).to (writeRcv_moves _ _ _ _))))
  · exact .ite ((Moves.refl _ h).to (writeHngCtrl_moves _ _ _)) (Moves.refl _ h)
  · exact .ite ((Moves.refl _ h).to (writeExpOpen_moves _ _ _)) (Moves.refl _ h)
  · exact .ite ((Moves.refl _ h).to (writeOps_moves _ _ _ _)) (Moves.refl _ h)
  · exact (Moves.refl _ h).to (writeIntRst_moves _ _ _ _)
  · exact (Moves.refl _ h).to (writeOut_moves _ _ _ _ _)
  · exact .ite ((Moves.refl _ h).to (writeInFlt_moves _ _ _ _)) (Moves.refl _ h)
  · exact (Moves.refl _ h).to (writeTmb_moves _ _ _)
  · exact (Moves.refl _ h).to (writeTmb_moves _ _ _)
  · exact .ite ((Moves.refl _ h).to (writeLsyCtrl_moves _ _ _)) (.ite ((Moves.refl _ h).to (writeLsyStat_moves _ _))
      (Moves.refl _ h))
  · exact (Moves.refl _ h).to (writeBnk_moves _ _ _ _)
  · exact (Moves.refl _ h).to (writeSafety_moves _ _ _ _ _)

theorem writeMem_moves (h : Hub) (w a v : Nat) : Moves (faultFoot.join ⟨[.regs, .bad, .dpLow], [], []⟩) h
    (h.writeMem w a v) :=
  .ite ((Moves.refl _ h).to (aliasWrite_moves _ _ _ _)) (.ite ((Moves.refl _ h).to (aliasWrite_moves _ _ _ _)) (.ite
    ((Moves.refl _ h).to (writeDp_moves _ _ _ _)) ((Moves.refl _ h).to (setMemWord_moves _ _ _))))

theorem writeWord_moves (h : Hub) (w a v : Nat) (port : Option (Nat × Nat)) : Moves (faultFoot.join ⟨[.regs, .chip, .sup,
    .ins, .banks, .bad, .dpLow, .lsy, .wdo, .life, .blk, .nvmOp, .nvmQ, .fieldReset, .fieldSince], [], []⟩) h
    (h.writeWord w a v port) :=
  .ite ((Moves.refl _ h).to (writeReg_moves _ _ _ _ _)) ((Moves.refl _ h).to (writeMem_moves _ _ _ _))

/-! ### Ports -/

theorem refuse_moves (h : Hub) (p x : Nat) (data : List Nat) (f : Nat × Nat) : Moves (faultFoot.join ⟨[.regs, .sup], [],
    []⟩) h (h.refuse p x data f) :=
  .bind (.ite (((Moves.refl _ h).countAny _ _ _ _).to (event_moves _ _ _ _)) (.ite ((Moves.refl _ h).countAny _ _ _ _) (.ite
    ((Moves.refl _ h).countAny _ _ _ _) (Moves.refl _ h)))) fun y => .ite (y.to (opsRing_moves _ _)) (.ite
    (y.countAny _ _ _ _) (.ite (y.forAll fun _ _ _ => .ite (Moves.refl _ _) ((Moves.refl _ _).to (wantDomain_moves _ _))) y))

theorem countFrame_moves (h : Hub) (p w : Nat) : Moves ⟨[.regs], [], []⟩ h (h.countFrame p w) :=
  ((Moves.refl _ h).countModAny _ _ _ _).countModAny _ _ _ _

theorem crcError_moves (h : Hub) (p : Nat) : Moves (faultFoot.join ⟨[.regs], [], []⟩) h (h.crcError p) :=
  ((Moves.refl _ h).countAny _ _ _ _).to (event_moves _ _ _ _)

theorem framed_moves {F : Foot} (h : Hub) (p : Nat) (early : Bool) (act : Hub → Hub) (hf : ∀ k, Moves F k (act k))
    (hF : F.parts.contains .ports = true := by decide) : Moves F h (h.framed p early act) :=
  have hport : Moves F h (h.modPort p fun q => { q with driven := !early && !h.portsSilent }) := (Moves.refl F h).ports _
    (by simpa using hF)
  .ite (hport.trans (hf _)) hport

theorem writeEnd_moves {F : Foot} (h : Hub) (p x : Nat) (data : List Nat) (bad : Bool) (act : Hub → Hub) (hf : ∀ k,
    Moves F k (act k))
    (hF : (faultFoot.join ⟨[.regs, .ports, .sup], [], []⟩).within F = true := by decide +kernel) :
    Moves F h (h.writeEnd p x data bad act) := by
  have hrefl := Moves.refl (faultFoot.join ⟨[.regs, .ports, .sup], [], []⟩) h
  unfold Hub.writeEnd
  split
  · have hcount := hrefl.countAny HPT_DISC_discarded 1 p 0
    exact Moves.mono (.ite (hcount.to (crcError_moves _ _)) hcount) hF
  · split
    · exact ((hrefl.to (crcError_moves _ _)).to (portFail_moves _ _ _ _)).mono hF
    · split
      · exact ((hrefl.to (refuse_moves _ _ _ _ _)).to (portFail_moves _ _ _ _)).mono hF
      · exact (hf h).trans ((countFrame_moves _ _ _).mono (Foot.within_trans (by decide +kernel) hF))

theorem writeWords_moves (h : Hub) (p x : Nat) (data : List Nat) : Moves (faultFoot.join ⟨[.regs, .chip, .sup, .ins, .banks,
    .bad, .dpLow, .lsy, .wdo, .life, .blk, .nvmOp, .nvmQ, .fieldReset, .fieldSince], [], []⟩) h (h.writeWords p x data) :=
  (Moves.refl _ h).foldl fun _ _ _ => (Moves.refl _ _).to (writeWord_moves _ _ _ _ _)

theorem answer_moves (h : Hub) (p x sck status : Nat) (data : List Nat) : Moves ⟨[.regs, .ports], [], []⟩ h
    (h.answer p x sck status data) :=
  .bind ((Moves.refl _ h).to (modPort_moves _ _ _)) fun y => .ite y (y.countAny _ _ _ _)

theorem readWords_moves (h : Hub) (w : Nat) (words : List Nat) :
    Moves (faultFoot.join ⟨[.regs, .ins, .dpHigh, .lsy], [], []⟩) h (h.readWords w words).2 :=
  Moves.foldlSnd (Moves.refl _ h) fun p a => readWord_moves p.2 w a

theorem readFrame_moves (h : Hub) (p x crc sck : Nat) : Moves (faultFoot.join ⟨[.regs, .sup, .ins, .ports, .dpHigh, .lsy],
    [], []⟩) h (h.readFrame p x crc sck) :=
  .ite ((Moves.refl _ h).countAny _ _ _ _) (by
  split
  · exact (Moves.ite (Moves.refl _ h) ((Moves.refl _ h).to (modPort_moves _ _ _))).to (answer_moves _ _ _ _ _ _)
  · exact .ite (((Moves.refl _ h).to (crcError_moves _ _)).to (answer_moves _ _ _ _ _ _)) (by
      split
      · exact ((Moves.refl _ h).to (refuse_moves _ _ _ _ _)).to (answer_moves _ _ _ _ _ _)
      · exact (((Moves.refl _ h).to (readWords_moves _ _ _)).to (countFrame_moves _ _ _)).to (answer_moves _ _ _ _ _ _)))

/-! ### OpsExec -/

theorem opRun_moves {F : Foot} (h : Hub) (slot kind : Nat) (which : Op → Bool) (f : Hub → Op → Hub) (hf : ∀ k o, Moves F k
    (f k o)) :
    Moves F h (h.opRun slot kind which f) := by
  unfold Hub.opRun
  split
  · exact Moves.refl _ h
  · exact .ite (hf h _) (Moves.refl _ h)

theorem withBanks_moves {F : Foot} (h : Hub) (o : Op) (banks : List Nat) (f : Hub → Hub) (hf : ∀ k, Moves F k (f k))
    (hF : Foot.within ⟨[.regs, .sup, .sch, .eng], [], []⟩ F = true := by decide +kernel) : Moves F h
      (h.withBanks o banks f) :=
  have hretire : Moves F h (h.retire o.slot 2) := (retire_moves _ _ _ _ _).mono (Foot.within_trans (by decide +kernel) hF)
  have hwake (k : Hub) (d : Nat) : Moves F k (k.wantDomain d) := (wantDomain_moves _ _).mono (Foot.within_trans
    (by decide +kernel) hF)
  .ite hretire (.ite ((Moves.refl _ h).forAll fun k d _ => hwake k d) (hf h))

theorem withWords_moves {F : Foot} (h : Hub) (o : Op) (addrs : List Nat) (done : Nat) (f : Hub → Hub) (hf : ∀ k, Moves F k
    (f k))
    (hF : (faultFoot.join ⟨[.regs], [], []⟩).within F = true := by decide +kernel) : Moves F h
      (h.withWords o addrs done f) := by
  unfold Hub.withWords
  split
  · exact Moves.mono (((Moves.refl (faultFoot.join ⟨[.regs], [], []⟩) h).to (ueFound_moves _ _ _)).to
      (retire_moves _ _ _ _ _)) hF
  · exact hf h

theorem putWords_moves (h : Hub) (a : Nat) (l : List Nat) : Moves ⟨[.mem, .bad], [], []⟩ h (h.putWords a l) :=
  Moves.foldlFst (Moves.refl _ h) fun p v => setMemWord_moves p.1 p.2 v

theorem underAdmission_moves {F : Foot} (h : Hub) (slot : Nat) (f : Hub → Hub) (hf : ∀ k, Moves F k (f k))
    (hF : (faultFoot.join ⟨[.regs, .sup, .ins, .lsy, .blk, .nvmOp, .nvmQ], [], []⟩).within F = true := by decide +kernel) :
    Moves F h (h.underAdmission slot f) :=
  have hadmit (k : Hub) (x : Cand) : Moves F k (k.admitCand x) := (admitCand_moves k x).mono (Foot.within_trans
    (by decide +kernel) hF)
  .ite (hf h) ((hf h).foldl fun k x _ => hadmit k x)

theorem recordFails_moves (h : Hub) (o : Op) (i : Nat) (x : Nat × Nat) (f : Nat × Nat) : Moves ⟨[.eng], [], []⟩ h
    (h.recordFails o i x f) :=
  .ite ((Moves.refl _ h).to (retire_moves _ _ _ _ _)) ((Moves.refl _ h).to (retire_moves _ _ _ _ _))

theorem recordWakes_moves (h : Hub) (l : List (Nat × Nat)) : Moves ⟨[.regs, .sup, .sch], [], []⟩ h (h.recordWakes l) :=
  (Moves.refl _ h).forAll fun _ _ _ => (Moves.refl _ _).to (wantDomain_moves _ _)

/-- What a ward's write to an address that is an operand can reach, with the candidates that it admits. -/
def writeFoot : Foot :=
  faultFoot.join ⟨[.regs, .chip, .sup, .ins, .banks, .bad, .dpLow, .lsy, .wdo, .life, .blk, .nvmOp, .nvmQ, .fieldReset,
    .fieldSince], [], []⟩

theorem runRecords_moves (h : Hub) (o : Op) (a i : Nat) (l : List (Nat × Nat)) : Moves writeFoot h
    (h.runRecords o a i l) := by
  induction l generalizing h i with
  | nil => exact (Moves.refl _ h).to (retire_moves _ _ _ _ _)
  | cons x rest ih =>
    rw [Hub.runRecords]
    split
    · exact ((Moves.refl _ h).to (ueFound_moves _ _ _)).to (retire_moves _ _ _ _ _)
    · split
      · exact (Moves.refl _ h).to (recordFails_moves _ _ _ _ _)
      · exact (underAdmission_moves h o.slot _ fun _ => (Moves.refl _ _).to (writeWord_moves _ _ _ _ _)).trans (ih _ _)

theorem regw_moves (h : Hub) (o : Op) : Moves (faultFoot.join ⟨[.regs, .chip, .sup, .ins, .banks, .bad, .dpLow, .lsy, .wdo,
    .life, .blk, .nvmOp, .nvmQ, .fieldReset, .fieldSince], [], []⟩) h (h.regw o) :=
  (Moves.refl _ h).trans (withBanks_moves _ _ _ _ (fun _ => .ite ((Moves.refl _ _).to (recordWakes_moves _ _))
    ((Moves.refl _ _).to (runRecords_moves _ _ _ _ _))))

theorem runReads_moves (h : Hub) (o : Op) (i : Nat) (l : List Nat) :
    Moves (faultFoot.join ⟨[.regs, .ins, .bad, .dpHigh, .lsy], [], []⟩) h (h.runReads o i l) := by
  induction l generalizing h i with
  | nil => exact (Moves.refl _ h).to (retire_moves _ _ _ _ _)
  | cons x rest ih =>
    rw [Hub.runReads]
    dsimp only
    split
    · exact ((Moves.refl _ h).to (ueFound_moves _ _ _)).to (retire_moves _ _ _ _ _)
    · split
      · exact (Moves.refl _ h).to (recordFails_moves _ _ _ _ _)
      · exact (((Moves.refl _ h).to (readWord_moves _ _ _)).to (setMemWord_moves _ _ _)).trans (ih _ _)

theorem regr_moves (h : Hub) (o : Op) : Moves (faultFoot.join ⟨[.regs, .sup, .ins, .bad, .dpHigh, .lsy], [], []⟩) h
    (h.regr o) :=
  (Moves.refl _ h).trans (withBanks_moves _ _ _ _ (fun _ => .ite ((Moves.refl _ _).to (recordWakes_moves _ _))
    ((Moves.refl _ _).to (runReads_moves _ _ _ _))))

theorem bankCopy_moves (h : Hub) (o : Op) : Moves (faultFoot.join ⟨[.regs, .sup, .bad], [], []⟩) h (h.bankCopy o) :=
  (Moves.refl _ h).trans (withBanks_moves _ _ _ _ (fun _ => (Moves.refl _ _).trans (withWords_moves _ _ _ _ _ (fun _ =>
    ((Moves.refl _ _).to (putWords_moves _ _ _)).to (retire_moves _ _ _ _ _)))))

theorem bankFill_moves (h : Hub) (o : Op) : Moves ⟨[.regs, .sup, .sch, .eng, .mem, .bad], [], []⟩ h (h.bankFill o) :=
  (Moves.refl _ h).trans (withBanks_moves _ _ _ _ (fun _ => ((Moves.refl _ _).to (putWords_moves _ _ _)).to
    (retire_moves _ _ _ _ _)))

theorem atom_moves (h : Hub) (o : Op) (swap : Bool) : Moves (faultFoot.join ⟨[.regs, .sup, .bad], [], []⟩) h
    (h.atom o swap) := by
  unfold Hub.atom
  refine withBanks_moves h o _ _ fun k => ?_
  refine withWords_moves k o _ _ _ fun k => ?_
  exact ((Moves.refl _ k).to (setMemWord_moves _ _ _)).to (retire_moves _ _ _ _ _)

theorem withTmb_moves {F : Foot} (h : Hub) (o : Op) (f : Hub → Nat → Hub) (hf : ∀ k t, Moves F k (f k t))
    (hF : Foot.within ⟨[.regs, .sup, .sch, .eng], [], []⟩ F = true := by decide +kernel) : Moves F h (h.withTmb o f) :=
  have hretire (n : Nat) : Moves F h (h.retire o.slot n) := (retire_moves _ _ _ _ _).mono (Foot.within_trans
    (by decide +kernel) hF)
  have hwake (k : Hub) (d : Nat) : Moves F k (k.wantDomain d) := (wantDomain_moves _ _).mono (Foot.within_trans
    (by decide +kernel) hF)
  .ite (hretire 2) (.ite (hretire 5) (.ite (hf h _) ((Moves.refl _ h).forAll fun k d _ => hwake k d)))

theorem tmbOpStart_moves (h : Hub) (o : Op) : Moves (faultFoot.join ⟨[.regs, .sup, .ins, .lsy, .blk, .nvmOp, .nvmQ], [],
    []⟩) h (h.tmbOpStart o) :=
  (Moves.refl _ h).trans (withTmb_moves _ _ _ (fun _ _ => .ite ((Moves.refl _ _).to (retire_moves _ _ _ _ _)) (.ite
    ((Moves.refl _ _).to (retire_moves _ _ _ _ _)) ((Moves.refl _ _).trans (underAdmission_moves _ _ _ (fun _ =>
    ((Moves.refl _ _).to (modOp_moves _ _ _)).to (tmbStartReq_moves _ _ _ _)))))))

theorem tmbOpStop_moves (h : Hub) (o : Op) : Moves ⟨[.regs, .sup, .hinge, .tmbs, .sch, .ints, .pins, .eng, .mem, .free], [],
    []⟩ h (h.tmbOpStop o) :=
  (Moves.refl _ h).trans (withTmb_moves _ _ _ (fun _ _ => .ite (((Moves.refl _ _).to (modOp_moves _ _ _)).to
    (tmbStopReq_moves _ _ _)) ((Moves.refl _ _).to (retire_moves _ _ _ _ _))))

theorem tmbOpJump_moves (h : Hub) (o : Op) : Moves ⟨[.regs, .sup, .tmbs, .sch, .flt, .eng], [], []⟩ h (h.tmbOpJump o) :=
  (Moves.refl _ h).trans (withTmb_moves _ _ _ (fun _ _ => .ite (((Moves.refl _ _).to (tmbJumpReq_moves _ _ _ _)).to
    (retire_moves _ _ _ _ _)) (.ite ((Moves.refl _ _).to (retire_moves _ _ _ _ _)) (((Moves.refl _ _).to
    (modOp_moves _ _ _)).to (tmbJumpReq_moves _ _ _ _)))))

theorem meas_moves (h : Hub) (o : Op) (conv : List Nat) : Moves ⟨[.regs, .sup, .sch, .eng, .mem, .bad], [], []⟩ h
    (h.meas o conv) :=
  .ite ((Moves.refl _ h).to (retire_moves _ _ _ _ _)) (.ite ((Moves.refl _ h).to (retire_moves _ _ _ _ _)) (.ite
    (Moves.refl _ h) ((Moves.refl _ h).trans (withBanks_moves _ _ _ _ (fun _ => ((Moves.refl _ _).to
    (putWords_moves _ _ _)).to (retire_moves _ _ _ _ _))))))

theorem diagCheck_moves (h : Hub) (c : Nat) (v : ℤ) (normal fine : Nat) : Moves ⟨[.regs, .hinge, .outs, .sch, .flt, .life],
    [], []⟩ h (h.diagCheck c v normal fine) :=
  .ite ((Moves.refl _ h).to (readback_moves _ _ _ _ _)) (.ite ((Moves.refl _ h).to (litConclude_moves _ _ _))
    ((Moves.refl _ h).to (offConclude_moves _ _ _)))

theorem diag_moves (h : Hub) (o : Op) (v : BitVec 16) (normal fine : Nat) : Moves ⟨[.regs, .sup, .hinge, .outs, .sch, .flt,
    .eng, .life], [], []⟩ h (h.diag o v normal fine) :=
  .ite ((Moves.refl _ h).to (retire_moves _ _ _ _ _)) (.ite ((Moves.refl _ h).to (retire_moves _ _ _ _ _)) (.ite (.ite
    (Moves.refl _ h) ((Moves.refl _ h).to (wantDomain_moves _ _))) (.ite ((Moves.refl _ h).to (retire_moves _ _ _ _ _))
    ((Moves.ite (Moves.refl _ h) ((Moves.refl _ h).to (diagCheck_moves _ _ _ _ _))).to (retire_moves _ _ _ _ _)))))

theorem nvmHand_moves (h : Hub) (o : Op) (kind : Nat) (data : List Nat) : Moves ⟨[.regs, .eng, .blk, .nvmOp, .nvmQ], [],
    []⟩ h (h.nvmHand o kind data) :=
  ((Moves.refl _ h).to (modOp_moves _ _ _)).to (nvmAdd_moves _ _)

theorem nvmReadOp_moves (h : Hub) (o : Op) : Moves ⟨[.regs, .sup, .sch, .eng, .blk, .nvmOp, .nvmQ], [], []⟩ h
    (h.nvmReadOp o) :=
  .ite ((Moves.refl _ h).to (retire_moves _ _ _ _ _)) ((Moves.refl _ h).trans (withBanks_moves _ _ _ _ (fun _ =>
    (Moves.refl _ _).to (nvmHand_moves _ _ _ _))))

theorem nvmProgramOp_moves (h : Hub) (o : Op) : Moves (faultFoot.join ⟨[.regs, .sup, .blk, .nvmOp, .nvmQ], [], []⟩) h
    (h.nvmProgramOp o) :=
  .ite ((Moves.refl _ h).to (retire_moves _ _ _ _ _)) ((Moves.refl _ h).trans (withBanks_moves _ _ _ _ (fun _ =>
    (Moves.refl _ _).trans (withWords_moves _ _ _ _ _ (fun _ => (Moves.refl _ _).to (nvmHand_moves _ _ _ _))))))

theorem nvmEraseOp_moves (h : Hub) (o : Op) : Moves ⟨[.regs, .eng, .blk, .nvmOp, .nvmQ], [], []⟩ h (h.nvmEraseOp o) :=
  .ite ((Moves.refl _ h).to (retire_moves _ _ _ _ _)) ((Moves.refl _ h).to (nvmHand_moves _ _ _ _))

theorem nvmOpEnd_moves (h : Hub) (x : NvmOp) (good : Bool) : Moves ⟨[.eng, .mem, .bad], [], []⟩ h (h.nvmOpEnd x good) := by
  unfold Hub.nvmOpEnd
  split
  · exact (Moves.refl _ h)
  · exact .ite ((Moves.refl _ h).to (retire_moves _ _ _ _ _)) (.ite (.ite ((Moves.refl _ h).to (retire_moves _ _ _ _ _))
      (.ite ((Moves.refl _ h).to (retire_moves _ _ _ _ _)) (((Moves.refl _ h).to (putWords_moves _ _ _)).to
      (retire_moves _ _ _ _ _)))) ((Moves.refl _ h).to (retire_moves _ _ _ _ _)))

theorem timedRelease_moves (h : Hub) (o : Op) (target : Nat) : Moves (faultFoot.join ⟨[.regs, .chip, .sup, .ins, .banks,
    .bad, .dpLow, .lsy, .wdo, .life, .blk, .nvmOp, .nvmQ, .fieldReset, .fieldSince], [], []⟩) h (h.timedRelease o target) :=
  (Moves.refl _ h).trans (withBanks_moves _ _ _ _ (fun _ => (Moves.refl _ _).trans (withWords_moves _ _ _ _ _ (fun _ => .ite
    ((Moves.refl _ _).to (recordWakes_moves _ _)) (by
  split
  · exact .ite ((Moves.refl _ _).to (retire_moves _ _ _ _ _)) ((Moves.refl _ _).to (retire_moves _ _ _ _ _))
  · exact ((Moves.refl _ _).trans (underAdmission_moves _ _ _ (fun _ => (Moves.refl _ _).foldl fun _ _ _ =>
      (Moves.refl _ _).to (writeWord_moves _ _ _ _ _)))).to (retire_moves _ _ _ _ _))))))

theorem lsyOp_moves (h : Hub) (o : Op) : Moves ⟨[.regs, .sup, .tmbs, .sch, .ints, .pins, .eng, .lsy], [], []⟩ h
    (h.lsyOp o) :=
  .ite ((Moves.refl _ h).to (retire_moves _ _ _ _ _)) (.ite (.ite ((Moves.refl _ h).to (retire_moves _ _ _ _ _))
    ((Moves.refl _ h).to (wantDomain_moves _ _))) (.ite ((Moves.refl _ h).to (retire_moves _ _ _ _ _)) (((Moves.refl _ h).to
    (userSend_moves _ _ _ _ _)).to (retire_moves _ _ _ _ _))))

end Sys2Proof.Machine

/-!
PROOF. The footprint of every command: the commands of the supplies to those of the recorder.
-/

namespace Sys2Proof.Machine

set_option Elab.async false

/-- A command is a change of the hub within a footprint, before what follows from it by itself. -/
def Acts (c : Instr) (F : Foot) : Prop := ∀ s : State, ∃ f : Hub → Hub, exec c s = s.on f ∧ ∀ h, Moves F h (f h)

theorem Acts.of {c : Instr} {F : Foot} {f : Hub → Hub} (hx : ∀ s : State, exec c s = s.on f) (hf : ∀ h, Moves F h (f h)) :
    Acts c F := fun s => ⟨f, hx s, hf⟩

theorem Acts.ofLsy {c : Instr} {F : Foot} {f : Hub → Hub} (hx : ∀ s : State, exec c s = s.onLsy f) (hf : ∀ h, Moves F h (f h)) :
    Acts c F := .of hx fun h => .ite (hf h) (Moves.refl _ h)

section
variable {F : Foot} {h₀ h : Hub}

theorem Moves.sup_hinge_recd_mem_bad_wdo (x : Moves F h₀ h) (v0 : Sup) (v1 : Hinge) (v2 : Rec) (v3 : List Host.Cell) (v4 : List Nat) (v5 : Wdo)
    (hc : HubPart.canon.same h { h with mem := v3 })
    (hF : [HubPart.sup, .hinge, .recd, .mem, .bad, .wdo].all F.parts.contains = true := by decide) :
    Moves F h₀ { h with sup := v0, hinge := v1, recd := v2, mem := v3, bad := v4, wdo := v5 } := x.set [.sup, .hinge, .recd, .mem, .bad, .wdo] hF

theorem Moves.chip_recd (x : Moves F h₀ h) (v0 : Chip) (v1 : Rec)
    (hF : [HubPart.chip, .recd].all F.parts.contains = true := by decide) :
    Moves F h₀ { h with chip := v0, recd := v1 } := x.set [.chip, .recd] hF

theorem Moves.recd_nvmQ (x : Moves F h₀ h) (v0 : Rec) (v1 : List NvmOp)
    (hF : [HubPart.recd, .nvmQ].all F.parts.contains = true := by decide) :
    Moves F h₀ { h with recd := v0, nvmQ := v1 } := x.set [.recd, .nvmQ] hF

theorem Moves.dev_sup_fieldReset_fieldSince (x : Moves F h₀ h) (v0 : Dev) (v1 : Sup) (v2 : Nat) (v3 : Nat)
    (hw : h.ward 0 ≠ .held → vget v0.wards 0 .absent ≠ .held := by exact id)
    (hF : [HubPart.dev, .sup, .fieldReset, .fieldSince].all F.parts.contains = true := by decide) :
    Moves F h₀ { h with dev := v0, sup := v1, fieldReset := v2, fieldSince := v3 } := x.set [.dev, .sup, .fieldReset, .fieldSince] hF

end

theorem powerOnReset_acts (band : Fin 3) (vdd : BitVec 16) : Acts (.powerOnReset band vdd) (faultFoot.join ⟨[.regs, .armed,
    .kept, .sup, .fol, .clk, .ins, .aux, .ports, .banks, .bad, .dpLow, .dpHigh, .lsy, .wdo, .life, .blk, .nvm, .nvmOp, .nvmQ,
    .fieldReset, .fieldSince, .mark], [], []⟩) :=
  .of (exec_powerOnReset band vdd) fun h => ((((Moves.refl _ h).to (aonLost_moves _)).to
    (logicLost_moves _ _)).dev_sup _ _).to (trigger_moves _)

theorem vholdCharged_acts (vhold : BitVec 16) : Acts (.vholdCharged vhold) ⟨[.regs, .sup, .flt, .blk, .nvmOp, .nvmQ], [],
    []⟩ :=
  .of (exec_vholdCharged vhold) fun h => .ite (Moves.refl _ h) ((Moves.refl _ h).to (measureVhold_moves _ _))

theorem vholdCapMeasure_acts (us : BitVec 16) : Acts (.vholdCapMeasure us) (faultFoot.join ⟨[.regs], [], []⟩) :=
  .of (exec_vholdCapMeasure us) fun h => .ite (Moves.refl _ h) (.bind ((Moves.refl _ h).wrAny _ _ _ _) fun y => .ite (y.to
    (raise_moves _ _ _ _ _)) (y.to (lower_moves _ _ _)))

theorem vholdLow_acts (vhold : BitVec 16) : Acts (.vholdLow vhold) (faultFoot.join ⟨[.regs, .sup, .blk, .nvmOp, .nvmQ], [],
    []⟩) :=
  .of (exec_vholdLow vhold) fun h => .ite (Moves.refl _ h) (.bind ((Moves.refl _ h).to (measureVhold_moves _ _)) fun y =>
    .ite y (y.to (raise_moves _ _ _ _ _)))

theorem vddWarningBegin_acts (vdd : BitVec 16) : Acts (.vddWarningBegin vdd) ⟨[.regs, .dev, .sup, .ret, .recd, .ints, .pins,
    .wds, .bst, .free], [], []⟩ :=
  .of (exec_vddWarningBegin vdd) fun h => by
  dsimp only
  have y := (Moves.refl (⟨[.regs, .dev, .sup, .ret, .recd, .ints, .pins, .wds, .bst, .free], [], []⟩ : Foot) h).sup
    { h.sup with vdd := vdd.toNat }
  split
  · exact .ite y (y.to (warnBegin_moves _))
  · exact y.to (warnBegin_moves _)

theorem vminSample_acts (v : Rails) : Acts (.vminSample v) ⟨[.regs, .sup, .flt, .blk, .nvmOp, .nvmQ], [], []⟩ :=
  .of (exec_vminSample v) fun h => .ite (((Moves.refl _ h).sup _).to (measureVhold_moves _ _)) (Moves.refl _ h)

theorem vddWarningEnd_acts (vdd : BitVec 16) : Acts (.vddWarningEnd vdd) ⟨[.regs, .sup, .ret, .recd, .ints, .pins, .bst,
    .blk, .nvmOp, .nvmQ], [], []⟩ :=
  .of (exec_vddWarningEnd vdd) fun h => .ite (Moves.refl _ h) (.bind ((Moves.refl _ h).sup _) fun y => ((Moves.ite y (y.to
    (countDip_moves _))).to (intAll_moves _ _)).to (nvmGo_moves _))

theorem orderlyPowerDown_acts (vdd : BitVec 16) : Acts (.orderlyPowerDown vdd) ⟨[.regs, .dev, .sup, .hinge, .outs, .dbt,
    .tmbs, .sch, .recd, .ints, .pins, .ports, .banks, .wds, .bst, .nvm, .nvmOp, .free], [], []⟩ :=
  .of (exec_orderlyPowerDown vdd) fun h => by
  refine .ite (Moves.refl _ h) ?_
  extract_lets k1 runs susp k2 pd l1 l2 k3 k4 k5 k6
  have y1 : Moves (⟨[.regs, .dev, .sup, .hinge, .outs, .dbt, .tmbs, .sch, .recd, .ints, .pins, .ports, .banks, .wds, .bst,
    .nvm, .nvmOp, .free], [], []⟩ : Foot) h k1 := .ite ((Moves.refl _ h).to (endTest_moves _ _)) (Moves.refl _ h)
  have y2 : Moves (⟨[.regs, .dev, .sup, .hinge, .outs, .dbt, .tmbs, .sch, .recd, .ints, .pins, .ports, .banks, .wds, .bst,
    .nvm, .nvmOp, .free], [], []⟩ : Foot) h k2 := .ite (y1.nvmOp _) (.ite (y1.to (abandonNvm_moves _ _)) y1)
  have y4 : Moves (⟨[.regs, .dev, .sup, .hinge, .outs, .dbt, .tmbs, .sch, .recd, .ints, .pins, .ports, .banks, .wds, .bst,
    .nvm, .nvmOp, .free], [], []⟩ : Foot) h k4 :=
    ((((y2.dev_sup _ _).to (wantTone_moves _ _)).to (sendSafe_moves _ _ fun _ hc =>
      List.mem_range.mp (List.mem_filter.mp hc).1)).to (abandonProof_moves _)).to (wdStopAll_moves _)
  have y5 : Moves (⟨[.regs, .dev, .sup, .hinge, .outs, .dbt, .tmbs, .sch, .recd, .ints, .pins, .ports, .banks, .wds, .bst,
    .nvm, .nvmOp, .free], [], []⟩ : Foot) h k5 := y4.forAll fun k p _ => (Moves.refl _ k).to (modPort_moves _ _ _)
  have y6 : Moves (⟨[.regs, .dev, .sup, .hinge, .outs, .dbt, .tmbs, .sch, .recd, .ints, .pins, .ports, .banks, .wds, .bst,
    .nvm, .nvmOp, .free], [], []⟩ : Foot) h k6 := y5.forAll fun k b _ => .ite ((Moves.refl _ k).to (handDrop_moves _ _ _))
    (Moves.refl _ k)
  split
  · exact y6
  · exact ((Moves.ite (y6.wrAny _ _ _ _) y6).recd _).to (stage_moves _)

theorem powerDownStep_acts (vhold : BitVec 16) : Acts (.powerDownStep vhold) (faultFoot.join ⟨[.regs, .armed, .kept, .sup,
    .fol, .clk, .ins, .aux, .ports, .banks, .bad, .dpLow, .dpHigh, .lsy, .wdo, .life, .blk, .nvm, .nvmOp, .nvmQ, .fieldReset,
    .fieldSince, .mark], [], []⟩) :=
  .of (exec_powerDownStep vhold) fun h => by
  split
  · exact Moves.refl _ h
  · refine Moves.to ?_ (pdNext_moves _ _ _)
    split
    · exact ((Moves.refl _ h).sup _).to (pdWritten_moves _ _)
    · exact (Moves.refl _ h).sup _

theorem vddFailed_acts (vhold : BitVec 16) : Acts (.vddFailed vhold) (faultFoot.join ⟨[.regs, .armed, .kept, .sup, .fol,
    .clk, .ins, .aux, .ports, .banks, .bad, .dpLow, .dpHigh, .lsy, .wdo, .life, .blk, .nvm, .nvmOp, .nvmQ, .fieldReset,
    .fieldSince, .mark], [], []⟩) :=
  .of (exec_vddFailed vhold) fun h => by
  split
  · exact Moves.refl _ h
  · refine .ite (Moves.refl _ h) ?_
    extract_lets started done pages fault todo s1 s2 s3 k1 k2 image k3
    have y1 : Moves offFoot h k1 := (Moves.refl _ h).sup_hinge_recd_mem_bad_wdo _ _ _ _ _ _ fun hk => ⟨rfl, hk.2⟩
    have y3 : Moves offFoot h k3 := ((y1.putAny _ _ _ _).to (modPd_moves _ _)).to (pendingRec_moves _ _ _ _ _ _)
    exact .ite y3 (y3.to (pdNext_moves _ _ _))

theorem vfLostPd_acts : Acts .vfLostPd ⟨[.sup, .ret], [], []⟩ :=
  .of (exec_vfLostPd) fun h => by
  split
  · exact (Moves.refl _ h)
  · exact .ite (Moves.refl _ h) (((Moves.refl _ h).to (pendingRec_moves _ _ _ _ _ _)).to (modPd_moves _ _))

theorem fieldPowerOnReset_acts : Acts .fieldPowerOnReset ⟨[.regs, .sup, .clk, .hinge, .outs, .ins, .dbt, .sch, .flt, .life],
    [], []⟩ :=
  .of (exec_fieldPowerOnReset) fun h => ((Moves.refl _ h).to (fieldDieReset_moves _)).sup _

theorem fieldResetRelease_acts : Acts .fieldResetRelease ⟨[.dev, .sup, .flt], [], []⟩ :=
  .of (exec_fieldResetRelease) fun h => .ite (Moves.refl _ h) (((Moves.refl _ h).dev_sup _ _).to (lower_moves _ _ _))

theorem vfValid_acts : Acts .vfValid ⟨[.sup, .hinge, .flt], [], []⟩ :=
  .of (exec_vfValid) fun h => .ite (Moves.refl _ h) (((Moves.refl _ h).sup _).to (fieldFall_moves _ _ _))

theorem vfUnderVoltage_acts : Acts .vfUnderVoltage ⟨[.sup, .hinge, .flt], [], []⟩ :=
  .of (exec_vfUnderVoltage) fun h => .ite (Moves.refl _ h) (((Moves.refl _ h).sup _).to (fieldRise_moves _ _ _ _))

theorem vfOverVoltage_acts : Acts .vfOverVoltage ⟨[.sup, .hinge, .flt], [], []⟩ :=
  .of (exec_vfOverVoltage) fun h => .ite (((Moves.refl _ h).sup _).to (fieldRise_moves _ _ _ _)) (Moves.refl _ h)

theorem vregFail_acts (vregl : Bool) : Acts (.vregFail vregl) ⟨[.regs, .sup, .hinge, .outs, .sch, .flt, .life], [], []⟩ :=
  .of (exec_vregFail vregl) fun h => .ite (Moves.refl _ h) ((((Moves.refl _ h).sup _).forAll fun _ _ hc1 =>
    (Moves.refl _ _).to (reSwitch_moves _ _ _ (List.mem_range.mp hc1))).to (fieldRise_moves _ _ _ _))

theorem domainWakeRequest_acts (d : Fin 12) : Acts (.domainWakeRequest d) ⟨[.regs, .sup, .sch], [], []⟩ :=
  .of (exec_domainWakeRequest d) fun h => .ite (Moves.refl _ h) ((Moves.refl _ h).to (wantDomain_moves _ _))

theorem domainWakeDone_acts (d : Fin 12) (good : Bool) : Acts (.domainWakeDone d good) (faultFoot.join ⟨[.regs, .sup, .life],
    [], []⟩) :=
  .of (exec_domainWakeDone d good) fun h => .ite (Moves.refl _ h) (.bind (((Moves.refl _ h).sup _).to
    (costEnd_moves _ _ _)) fun y1 => .ite (y1.to (clearDomain_moves _ _)) (.ite (y1.forAll fun _ _ hc2 =>
    ((Moves.refl _ _).to (modOut_moves _ _ _)).to (reSwitch_moves _ _ _ (List.mem_range.mp (List.mem_filter.mp hc2).1)))
    (.ite (y1.to (restoreDomain_moves _ _ _)) y1)))

theorem bankClearDone_acts (m : Fin 2) : Acts (.bankClearDone m) ⟨[.sup, .mem, .bad], [], []⟩ :=
  .of (exec_bankClearDone m) fun h => .ite (Moves.refl _ h) (.bind ((Moves.refl _ h).sup _) fun y => .ite (y.to
    (clearMem_moves _ _ _)) ((y.to (clearMem_moves _ _ _)).to (clearMem_moves _ _ _)))

theorem pllLock_acts : Acts .pllLock ⟨[.regs], [], []⟩ :=
  .of (exec_pllLock) fun h => (Moves.refl _ h).to (pllLocks_moves _)

theorem pllLockTimeout_acts : Acts .pllLockTimeout (faultFoot.join ⟨[.regs, .clk, .lsy], [], []⟩) :=
  .of (exec_pllLockTimeout) fun h => .ite ((Moves.refl _ h).to (loseRef_moves _)) (Moves.refl _ h)

theorem refclkLost_acts : Acts .refclkLost (faultFoot.join ⟨[.regs, .clk, .lsy], [], []⟩) :=
  .of (exec_refclkLost) fun h => .ite ((Moves.refl _ h).to (loseRef_moves _)) (.ite
    (((((Moves.refl _ h).putAny _ _ _ _).putAny _ _ _ _).countAny _ _ _ _).to (raise_moves _ _ _ _ _))
    ((Moves.refl _ h).putAny _ _ _ _))

theorem refclkReturn_acts : Acts .refclkReturn ⟨[.regs, .flt], [], []⟩ :=
  .of (exec_refclkReturn) fun h => .ite (((Moves.refl _ h).putAny _ _ _ _).to (refReturn_moves _)) (Moves.refl _ h)

theorem returnRef_acts (w : Fin 8) (v : Word) : Acts (.returnRef w v) ⟨[.regs, .flt], [], []⟩ :=
  .of (exec_returnRef w v) fun h => .ite ((Moves.refl _ h).to (writeClkCtrl_moves _ _ _)) (Moves.refl _ h)

theorem mclkWindowEnd_acts (count : BitVec 16) (hosc : BitVec 16) : Acts (.mclkWindowEnd count hosc) (faultFoot.join ⟨[.regs,
    .clk], [], []⟩) :=
  .of (exec_mclkWindowEnd count hosc) fun h => .ite (Moves.refl _ h) (.bind (((Moves.refl _ h).wrAny _ _ _ _).to
    (judgeHosc_moves _ _)) fun y => .ite (y.to (mclkFails_moves _)) ((y.clk _).to (lower_moves _ _ _)))

theorem clockHaltExit_acts : Acts .clockHaltExit ⟨[.regs, .armed, .kept, .dev, .sup, .ret, .fol, .clk, .hinge, .outs, .ins,
    .dbt, .tmbs, .aux, .sch, .recd, .flt, .ints, .pins, .ports, .eng, .banks, .mem, .bad, .dpLow, .dpHigh, .lsy, .wds, .wdo,
    .bst, .life, .blk, .nvmQ, .fieldReset, .fieldSince, .mark], [], []⟩ :=
  .of (exec_clockHaltExit) fun h => .ite ((Moves.refl _ h).to (warmBoot_moves _ _)) (Moves.refl _ h)

theorem fclkWindowEnd_acts (count : BitVec 16) : Acts (.fclkWindowEnd count) ⟨[.regs, .hinge, .flt], [], []⟩ :=
  .of (exec_fclkWindowEnd count) fun h => .ite (Moves.refl _ h) (.bind (.ite ((Moves.refl _ h).wrAny _ _ _ _)
    (Moves.refl _ h)) fun y => .ite (y.to (fieldRise_moves _ _ _ _)) (y.to (fieldFall_moves _ _ _)))

theorem timebaseWrap_acts : Acts .timebaseWrap ⟨[.regs], [], []⟩ :=
  .of (exec_timebaseWrap) fun h => .ite ((Moves.refl _ h).to (setWrapped_moves _)) (Moves.refl _ h)

theorem clkTbLoRead_acts (w : Fin 8) : Acts (.clkTbLoRead w) ⟨[.regs], [], []⟩ :=
  .of (exec_clkTbLoRead w) fun h => .ite ((Moves.refl _ h).to (latchTb_moves _ _)) (Moves.refl _ h)

theorem timeS_acts (lane : Fin 2) (high : Byte) (low : Word) : Acts (.timeS lane high low) ⟨[.regs, .clk, .hinge, .flt], [],
    []⟩ :=
  .of (exec_timeS lane high low) fun h => .ite (((Moves.refl _ h).to (landOn_moves _ _ _ _)).to (takeTimeS_moves _ _ _))
    (Moves.refl _ h)

theorem timeL_acts (lane : Fin 2) (high : BitVec 24) : Acts (.timeL lane high) ⟨[.regs, .clk, .hinge, .ins, .flt], [], []⟩ :=
  .of (exec_timeL lane high) fun h => .ite (((Moves.refl _ h).to (landOn_moves _ _ _ _)).to (takeTimeL_moves _ _ _))
    (Moves.refl _ h)

theorem followerTimeout_acts : Acts .followerTimeout ⟨[.regs, .clk, .hinge, .flt], [], []⟩ :=
  .of (exec_followerTimeout) fun h => .ite ((Moves.refl _ h).to (followUnlock_moves _)) (Moves.refl _ h)

theorem hingeFrameReceive_acts (lane : Fin 4) (frame : BitVec 64) (codeOk controlOk : Bool) (stamp : Word)
    (late : Bool) : Acts (.hingeFrameReceive lane frame codeOk controlOk stamp late) (faultFoot.join ⟨[.regs, .sup, .clk,
    .ins, .ports, .life, .fieldReset], [], []⟩) :=
  .of (exec_hingeFrameReceive lane frame codeOk controlOk stamp late) fun h => (Moves.refl _ h).to
    (frameIn_moves _ _ _ _ _ _)

theorem idleFrame_acts (lane : Fin 4) : Acts (.idleFrame lane) ⟨[.hinge, .free], [], []⟩ :=
  .of (exec_idleFrame lane) fun h => (Moves.refl _ h).to (idleFrame_moves _ _)

theorem laneTraining_acts (lane : Fin 4) (delay : BitVec 16) : Acts (.laneTraining lane delay) ⟨[.regs, .clk, .hinge, .flt,
    .ints, .pins], [], []⟩ :=
  .of (exec_laneTraining lane delay) fun h => (Moves.refl _ h).to (laneTrained_moves _ _ _)

theorem laneDown_acts (lane : Fin 4) : Acts (.laneDown lane) (faultFoot.join ⟨[.regs, .sup, .clk, .ins, .ports, .life], [],
    []⟩) :=
  .of (exec_laneDown lane) fun h => .ite ((Moves.refl _ h).to (laneDown_moves _ _)) (Moves.refl _ h)

theorem laneRetry_acts : Acts .laneRetry ⟨[.regs, .hinge], [], []⟩ :=
  .of (exec_laneRetry) fun h => (Moves.ite (Moves.refl _ h) ((Moves.refl _ h).putAny _ _ _ _)).to (retryLanes_moves _)

theorem retrain_acts (w : Fin 8) (v : Word) : Acts (.retrain w v) ⟨[.regs, .hinge], [], []⟩ :=
  .of (exec_retrain w v) fun h => .ite ((Moves.refl _ h).to (writeHngCtrl_moves _ _ _)) (Moves.refl _ h)

theorem hingeLost_acts (field : Bool) : Acts (.hingeLost field) (faultFoot.join ⟨[.regs, .sup, .clk, .ins, .ports, .life],
    [], []⟩) :=
  .of (exec_hingeLost field) fun h => .ite ((Moves.refl _ h).to (loseF_moves _)) ((Moves.refl _ h).to (loseL_moves _))

theorem rejoin_acts : Acts .rejoin (faultFoot.join ⟨[.regs, .sup, .ins, .ports, .life, .fieldReset], [], []⟩) :=
  .of (exec_rejoin) fun h => (Moves.refl _ h).to (rejoin_moves _)

theorem fieldStart_acts : Acts .fieldStart ⟨[.regs, .hinge], [], []⟩ :=
  .of (exec_fieldStart) fun h => .ite ((Moves.refl _ h).to (fieldStart_moves _)) (Moves.refl _ h)

theorem outCmd_acts (g : Fin 2) (gen : BitVec 8) (cmds : Word) : Acts (.outCmd g gen cmds) ⟨[.regs, .hinge, .outs, .sch,
    .flt, .life], [], []⟩ :=
  .of (exec_outCmd g gen cmds) fun h => ((Moves.refl _ h).to (land_moves _ _ _ _)).to (recvOutCmd_moves _ _ _ _)

theorem outCmdRepeat_acts : Acts .outCmdRepeat ⟨[.hinge], [], []⟩ :=
  .of (exec_outCmdRepeat) fun h => (Moves.refl _ h).forAll fun _ _ _ => .ite (Moves.refl _ _) ((Moves.refl _ _).to
    (sendL_moves _ _))

theorem outStat_acts (g : Fin 2) (gen : BitVec 8) (states : Word) : Acts (.outStat g gen states) ⟨[.regs, .hinge, .outs,
    .ins, .tmbs, .sch, .ints, .pins, .bst], [], []⟩ :=
  .of (exec_outStat g gen states) fun h => ((Moves.refl _ h).to (land_moves _ _ _ _)).to (recvOutStat_moves _ _ _ _)

theorem fsum_acts (sticky : BitVec 40) : Acts (.fsum sticky) (faultFoot.join ⟨[.regs, .sup, .ports], [], []⟩) :=
  .of (exec_fsum sticky) fun h => ((Moves.refl _ h).to (land_moves _ _ _ _)).to (recvFsum_moves _ _)

theorem fault_acts (p : Fin 40) (chs : BitVec 16) (live : Bool) (detail : BitVec 15) : Acts (.fault p chs live detail)
    (faultFoot.join ⟨[.regs, .sup, .ports], [], []⟩) :=
  .of (exec_fault p chs live detail) fun h => .bind ((Moves.refl _ h).to (land_moves _ _ _ _)) fun y => .ite (y.to
    (recvFault_moves _ _ _ _ _)) y

theorem req_acts (tag : Fin 16) : Acts (.req tag) (faultFoot.join ⟨[.regs, .sup, .ins, .life], [], []⟩) :=
  .of (exec_req tag) fun h => ((Moves.refl _ h).to (land_moves _ _ _ _)).to (recvReq_moves _ _)

theorem rsp_acts (tag : Fin 16) : Acts (.rsp tag) (faultFoot.join ⟨[.regs, .sup, .ins, .ports, .life, .fieldReset], [],
    []⟩) :=
  .of (exec_rsp tag) fun h => ((Moves.refl _ h).to (land_moves _ _ _ _)).to (recvRsp_moves _ _)

theorem reqRetry_acts (tag : Fin 16) : Acts (.reqRetry tag) (faultFoot.join ⟨[.regs, .ports], [], []⟩) :=
  .of (exec_reqRetry tag) fun h => (Moves.refl _ h).to (reqRetry_moves _ _)

theorem boltRel_acts : Acts .boltRel ⟨[.hinge], [], []⟩ :=
  .of (exec_boltRel) fun h => ((Moves.refl _ h).to (land_moves _ _ _ _)).to (recvBoltRel_moves _)

theorem boltRelExpire_acts : Acts .boltRelExpire ⟨[.hinge], [], []⟩ :=
  .of (exec_boltRelExpire) fun h => (Moves.refl _ h).hinge _

theorem boltRelRepeat_acts : Acts .boltRelRepeat ⟨[.hinge], [], []⟩ :=
  .of (exec_boltRelRepeat) fun h => .ite (Moves.refl _ h) (.ite ((Moves.refl _ h).to (sendBoltRel_moves _))
    ((Moves.refl _ h).hinge _))

theorem vec_acts (t : Fin 8) (late : Bool) (payload : BitVec 40) : Acts (.vec t late payload) (faultFoot.join ⟨[.regs, .ins,
    .life], [], []⟩) :=
  .of (exec_vec t late payload) fun h => ((Moves.refl _ h).to (land_moves _ _ _ _)).to (recvVec_moves _ _ _ _)

theorem vecRepeat_acts (t : Fin 8) (off : Word) : Acts (.vecRepeat t off) ⟨[.regs, .hinge, .outs, .sch, .flt, .life], [],
    []⟩ :=
  .of (exec_vecRepeat t off) fun h => .ite (Moves.refl _ h) (.ite ((Moves.refl _ h).to (applyVec_moves _ _ _))
    ((Moves.refl _ h).hinge _))

theorem marginMeasure_acts (lane : Fin 4) (m : Fin 65) : Acts (.marginMeasure lane m) (faultFoot.join ⟨[.regs], [], []⟩) :=
  .of (exec_marginMeasure lane m) fun h => .ite (.ite (((Moves.refl _ h).to (showMargin_moves _ _ _)).to
    (judgeMargin_moves _ _ _)) (Moves.refl _ h)) (.ite (((Moves.refl _ h).to (sendMargin_moves _ _ _)).to
    (judgeMargin_moves _ _ _)) (Moves.refl _ h))

theorem boltDecision_acts (e : LineEdges) : Acts (.boltDecision e) ⟨[.regs, .sup, .hinge, .outs, .ins, .sch, .flt, .life],
    [], []⟩ :=
  .of (exec_boltDecision e) fun h => by
  split
  · exact (Moves.refl _ h).to (decideTone_moves _ _)
  · exact (Moves.refl _ h)

theorem boltCode_acts (field : Bool) : Acts (.boltCode field) (faultFoot.join ⟨[.regs, .sup, .ins, .life], [], []⟩) :=
  .of (exec_boltCode field) fun h => .ite (.ite (((Moves.refl _ h).to (decideBolt_moves _ _)).to (fieldEvent_moves _ _ _ _))
    (Moves.refl _ h)) (.ite (((Moves.refl _ h).countAny _ _ _ _).to (event_moves _ _ _ _)) (Moves.refl _ h))

theorem boltLatchClear_acts : Acts .boltLatchClear ⟨[.hinge], [], []⟩ :=
  .of (exec_boltLatchClear) fun h => .ite (.bind ((Moves.refl _ h).hinge _) fun y => .ite (y.to (latchClear_moves _)) y)
    (Moves.refl _ h)

theorem boltToneChange_acts : Acts .boltToneChange ⟨[.hinge], [], []⟩ :=
  .of (exec_boltToneChange) fun h => (Moves.refl _ h).hinge _

theorem fieldToneDecision_acts (e : LineEdges) : Acts (.fieldToneDecision e) (faultFoot.join ⟨[.regs], [], []⟩) :=
  .of (exec_fieldToneDecision e) fun h => by
  split
  · exact (Moves.refl _ h).to (daDecide_moves _ _)
  · exact (Moves.refl _ h)

theorem fholdExpiry_acts (x : ChSpan) : Acts (.fholdExpiry x) ⟨[.regs, .sup, .hinge, .outs, .ins, .sch, .flt, .life], [],
    []⟩ :=
  .of (exec_fholdExpiry x) fun h => .ite ((Moves.refl _ h).to (fholdEnd_moves _ _)) (Moves.refl _ h)

theorem fieldConfigCrc_acts (upset : Option (BitVec 24 × Word)) : Acts (.fieldConfigCrc upset) (faultFoot.join ⟨[.regs], [],
    []⟩) :=
  .of (exec_fieldConfigCrc upset) fun h => .ite (Moves.refl _ h) (.bind ((Moves.refl _ h).hinge _) fun y => .ite y (.bind
    (y.putAny _ _ _ _) fun y1 => .ite (y1.to (lower_moves _ _ _)) (y1.to (raise_moves _ _ _ _ _))))

theorem boot_acts (probe0 probe1 : NvmProbe) (lostHeader : List (Fin 4)) (lostRead : List (Fin 4)) : Acts
    (.boot probe0 probe1 lostHeader lostRead) (faultFoot.join ⟨[.regs, .sup, .life, .blk, .nvm], [], []⟩) :=
  .of (exec_boot probe0 probe1 lostHeader lostRead) fun h => .ite ((Moves.refl _ h).to (boot_moves _ _ _ _ _))
    (Moves.refl _ h)

theorem arming_acts : Acts .arming (faultFoot.join ⟨[.regs, .sup, .bad, .blk, .nvm], [], []⟩) :=
  .of (exec_arming) fun h => .ite ((Moves.refl _ h).to (applyBlank_moves _)) (Moves.refl _ h)

theorem startupTests_acts (passed : BitVec 14) (time : BitVec 11) (proofs : List (Fin 16 × Fin 16 × Word)) : Acts
    (.startupTests passed time proofs) (faultFoot.join ⟨[.regs], [], []⟩) :=
  .of (exec_startupTests passed time proofs) fun h => .ite (.bind
    (((((Moves.refl _ h).putAny _ _ _ _).wrAny _ _ _ _).wrAny _ _ _ _).foldl fun _ _ _ => .bind ((Moves.refl _ _).to
    (showLast_moves _ _ _ _ _)) fun y2 => .ite (y2.to (passCounts_moves _ _ _ _)) y2) fun y3 => .ite y3 (y3.to
    (raise_moves _ _ _ _ _))) (Moves.refl _ h)

theorem enterRun_acts : Acts .enterRun (faultFoot.join ⟨[.regs, .armed, .kept, .sup, .ins, .ports, .lsy, .wdo, .life, .blk,
    .fieldReset], [], []⟩) :=
  .of (exec_enterRun) fun h => .ite ((Moves.refl _ h).to (enterRun_moves _)) (Moves.refl _ h)

theorem rcvErase_acts (w : Fin 8) (v : Word) : Acts (.rcvErase w v) ⟨[.regs, .dev, .sch, .blk, .nvmOp, .nvmQ], [], []⟩ :=
  .of (exec_rcvErase w v) fun h => (Moves.refl _ h).to (rcvRow_moves _ _ _ _)

theorem rcvProgram_acts (w : Fin 8) (v : Word) : Acts (.rcvProgram w v) ⟨[.regs, .dev, .sch, .blk, .nvmOp, .nvmQ], [], []⟩ :=
  .of (exec_rcvProgram w v) fun h => (Moves.refl _ h).to (rcvRow_moves _ _ _ _)

theorem rcvRead_acts (w : Fin 8) (v : Word) : Acts (.rcvRead w v) ⟨[.regs, .dev, .sch, .blk, .nvmOp, .nvmQ], [], []⟩ :=
  .of (exec_rcvRead w v) fun h => (Moves.refl _ h).to (rcvRow_moves _ _ _ _)

theorem rcvReboot_acts (w : Fin 8) (v : Word) : Acts (.rcvReboot w v) ⟨[.regs, .dev, .sch, .blk, .nvmOp, .nvmQ], [], []⟩ :=
  .of (exec_rcvReboot w v) fun h => (Moves.refl _ h).to (rcvRow_moves _ _ _ _)

theorem rcvCommandDone_acts (e : NvmEnd) : Acts (.rcvCommandDone e) ⟨[.regs, .sch, .blk, .nvm, .nvmOp, .nvmQ, .free], [],
    []⟩ :=
  .of (exec_rcvCommandDone e) fun h => by
  split
  · exact (Moves.refl _ h)
  · exact .ite ((Moves.refl _ h).to (rcvDone_moves _ _ _ _)) (Moves.refl _ h)

theorem blkCheck_acts (w : Fin 8) (v : Word) : Acts (.blkCheck w v) ⟨[.regs, .blk], [], []⟩ :=
  .of (exec_blkCheck w v) fun h => .ite ((Moves.refl _ h).to (writeBlkCtrl_moves _ _ _)) (Moves.refl _ h)

theorem blkCheckDone_acts (readOk : Bool) : Acts (.blkCheckDone readOk) (faultFoot.join ⟨[.regs, .blk], [], []⟩) :=
  .of (exec_blkCheckDone readOk) fun h => .ite (Moves.refl _ h) (.bind (((Moves.refl _ h).putAny _ _ _ _).blk _) fun y1 =>
    .bind (.ite y1 (((((y1.wrAny _ _ _ _).wrAny _ _ _ _).wrAny _ _ _ _).wrAny _ _ _ _).wrAny _ _ _ _)) fun y2 => (Moves.ite
    y2 (y2.to (event_moves _ _ _ _))).to (intEvent_moves _ _ _))

theorem blkReboot_acts (w : Fin 8) (v : Word) : Acts (.blkReboot w v) ⟨[.regs, .dev, .blk], [], []⟩ :=
  .of (exec_blkReboot w v) fun h => .ite ((Moves.refl _ h).to (writeBlkReboot_moves _ _ _)) (Moves.refl _ h)

theorem blkFuse_acts (w : Fin 8) (v : Word) : Acts (.blkFuse w v) ⟨[.chip, .blk], [], []⟩ :=
  .of (exec_blkFuse w v) fun h => .ite ((Moves.refl _ h).to (writeBlkFuse_moves _ _ _)) (Moves.refl _ h)

theorem fuseDone_acts (good : Bool) : Acts (.fuseDone good) ⟨[.chip, .blk], [], []⟩ :=
  .of (exec_fuseDone good) fun h => .ite ((Moves.refl _ h).chip_blk _ _) (Moves.refl _ h)

theorem shadowCheck_acts (upset : Option (BitVec 24 × Word)) (inShadow full : Bool) (interval : BitVec 16) : Acts
    (.shadowCheck upset inShadow full interval) (faultFoot.join ⟨[.regs, .armed], [], []⟩) :=
  .of (exec_shadowCheck upset inShadow full interval) fun h => by
  refine .ite (Moves.refl _ h) (Moves.to ?_ (shadowJudge_moves _))
  have y1 : Moves (faultFoot.join ⟨[.regs, .armed], [], []⟩) h (match upset with
      | none => h
      | some (a, v) =>
        if inShadow then { h with armed := upsetWord h.armed a.toNat v.toNat }
        else { h with regs := upsetWord h.regs a.toNat v.toNat }) := by
    split
    · exact Moves.refl _ h
    · exact .ite ((Moves.refl _ h).armed _) ((Moves.refl _ h).anyRegs _)
  exact (Moves.ite (y1.countAny _ _ _ _) y1).wrAny _ _ _ _

theorem thermalHalt_acts (sensor : Fin 8) (t : BitVec 16) : Acts (.thermalHalt sensor t) ⟨[.regs, .dev, .ret, .hinge, .outs,
    .dbt, .tmbs, .sch, .recd, .ints, .pins, .eng, .mem, .wds, .bst, .free], [], []⟩ :=
  .of (exec_thermalHalt sensor t) fun h => ((Moves.refl _ h).to (setTemp_moves _ _ _)).to (judgeHalt_moves _ _)

theorem fieldGlobalShutdown_acts (sensor : Fin 6) (t : BitVec 16) : Acts (.fieldGlobalShutdown sensor t) ⟨[.regs, .hinge,
    .outs, .dbt, .sch, .flt, .life], [], []⟩ :=
  .of (exec_fieldGlobalShutdown sensor t) fun h => ((Moves.refl _ h).to (setTemp_moves _ _ _)).to (judgeGlobal_moves _)

theorem thermalHaltExit_acts (logic : BitVec 16) (field : BitVec 16) : Acts (.thermalHaltExit logic field) ⟨[.regs, .armed,
    .kept, .dev, .sup, .ret, .fol, .clk, .hinge, .outs, .ins, .dbt, .tmbs, .aux, .sch, .recd, .flt, .ints, .pins, .ports,
    .eng, .banks, .mem, .bad, .dpLow, .dpHigh, .lsy, .wds, .wdo, .bst, .life, .blk, .nvmQ, .fieldReset, .fieldSince, .mark],
    [], []⟩ :=
  .of (exec_thermalHaltExit logic field) fun h => .ite (((Moves.refl _ h).to (setGlobal_moves _ _)).to (warmBoot_moves _ _))
    (Moves.refl _ h)

theorem dbtSafeExit_acts (w : Fin 8) (v : Word) : Acts (.dbtSafeExit w v) ⟨[.regs, .dev, .hinge], [], []⟩ :=
  .of (exec_dbtSafeExit w v) fun h => .ite ((Moves.refl _ h).to (writeSafeExit_moves _ _ _)) (Moves.refl _ h)

theorem safeLeave_acts : Acts .safeLeave ⟨[.dev], [], []⟩ :=
  .of (exec_safeLeave) fun h => .ite ((Moves.refl _ h).dev _) (Moves.refl _ h)

theorem outCtrlWrite_acts (w : Fin 8) (c : Fin 16) (v : Word) : Acts (.outCtrlWrite w c v) ⟨[.regs, .hinge, .outs, .sch,
    .lsy], [], []⟩ :=
  .of (exec_outCtrlWrite w c v) fun h => .ite ((Moves.refl _ h).to (writeOutCtrl_moves _ _ _ _)) (Moves.refl _ h)

theorem rearm_acts (w : Fin 8) (c : Fin 16) (v : Word) : Acts (.rearm w c v) ⟨[.regs, .hinge, .outs, .sch, .lsy], [], []⟩ :=
  .of (exec_rearm w c v) fun h => .ite ((Moves.refl _ h).to (writeOutCtrl_moves _ _ _ _)) (Moves.refl _ h)

theorem thermalShutdown_acts (c : Fin 16) : Acts (.thermalShutdown c) ⟨[.regs, .hinge, .outs, .sch, .flt, .life], [], []⟩ :=
  .of (exec_thermalShutdown c) fun h => .ite (Moves.refl _ h) (.ite ((Moves.refl _ h).to (shutdown_moves _ _ _ _))
    ((Moves.refl _ h).to (modOut_moves _ _ _)))

theorem retryExpiry_acts (x : ChSpan) : Acts (.retryExpiry x) ⟨[.regs, .hinge, .outs, .sch, .flt, .life], [], []⟩ :=
  .of (exec_retryExpiry x) fun h => .ite (((Moves.refl _ h).forAll fun _ _ _ => (Moves.refl _ _).to (modOut_moves _ _ _)).to
    (tryReturn_moves _ _)) (Moves.refl _ h)

theorem limitBegin_acts (c : Fin 16) (v : BitVec 16) : Acts (.limitBegin c v) ⟨[.outs], [], []⟩ :=
  .of (exec_limitBegin c v) fun h => .ite (Moves.refl _ h) ((Moves.refl _ h).to (modOut_moves _ _ _))

theorem limitEpisode_acts (c : Fin 16) : Acts (.limitEpisode c) ⟨[.regs, .hinge, .outs, .flt, .life], [], []⟩ :=
  .of (exec_limitEpisode c) fun h => .ite (Moves.refl _ h) ((((Moves.refl _ h).to (modOut_moves _ _ _)).to
    (modAcc_moves _ _ _)).to (outRise_moves _ _ _ _ c.isLt))

theorem uvOff_acts (x : ChSupply) : Acts (.uvOff x) ⟨[.regs, .hinge, .outs, .sch, .flt, .life], [], []⟩ :=
  .of (exec_uvOff x) fun h => .ite (Moves.refl _ h) (((Moves.refl _ h).to (dropCand_moves _ _)).forAll fun _ _ _ =>
    ((Moves.refl _ _).to (modOut_moves _ _ _)).to (reSwitch_movesAny _ _ _))

theorem uvRestart_acts (x : ChSupplyBack) : Acts (.uvRestart x) ⟨[.regs, .hinge, .outs, .sch, .flt, .life], [], []⟩ :=
  .of (exec_uvRestart x) fun h => .ite (((Moves.refl _ h).forAll fun _ _ _ => (Moves.refl _ _).to (modOut_moves _ _ _)).to
    (tryReturn_moves _ _)) (Moves.refl _ h)

theorem offStateCheck_acts (x : ChSpan) : Acts (.offStateCheck x) ⟨[.regs, .outs, .sch], [], []⟩ :=
  .of (exec_offStateCheck x) fun h => .ite (Moves.refl _ h) (.ite (.ite (Moves.refl _ h) ((Moves.refl _ h).to
    (submit_moves _ _))) ((Moves.refl _ h).to (modOut_moves _ _ _)))

theorem offStateCheckEnd_acts (c : Fin 16) (v : BitVec 16) : Acts (.offStateCheckEnd c v) ⟨[.regs, .hinge, .outs, .flt], [],
    []⟩ :=
  .of (exec_offStateCheckEnd c v) fun h => .ite ((Moves.refl _ h).to (offConclude_moves _ _ _)) (Moves.refl _ h)

theorem litCheck_acts (c : Fin 16) : Acts (.litCheck c) ⟨[.outs], [], []⟩ :=
  .of (exec_litCheck c) fun h => .ite (Moves.refl _ h) (.ite ((Moves.refl _ h).to (modOut_moves _ _ _)) ((Moves.refl _ h).to
    (litStart_moves _ _)))

theorem litCheckEnd_acts (c : Fin 16) (fine : BitVec 12) : Acts (.litCheckEnd c fine) ⟨[.regs, .hinge, .outs, .sch, .flt,
    .life], [], []⟩ :=
  .of (exec_litCheckEnd c fine) fun h => .ite ((Moves.refl _ h).to (litConclude_moves _ _ _)) (Moves.refl _ h)

theorem readback_acts (c : Fin 16) (v : BitVec 16) (normal : BitVec 12) (fine : BitVec 12) : Acts
    (.readback c v normal fine) ⟨[.regs, .hinge, .outs, .sch, .flt], [], []⟩ :=
  .of (exec_readback c v normal fine) fun h => .ite ((Moves.refl _ h).to (readback_moves _ _ _ _ _)) (Moves.refl _ h)

theorem darkPulse_acts (c : Fin 16) : Acts (.darkPulse c) ⟨[.outs], [], []⟩ :=
  .of (exec_darkPulse c) fun h => .ite (Moves.refl _ h) (.ite ((Moves.refl _ h).to (pulseStart_moves _ _ _)) (.ite
    ((Moves.refl _ h).to (pulseStart_moves _ _ _)) (Moves.refl _ h)))

theorem pulseEnd_acts (x : ChSpan) (v : BitVec 16) (cur : BitVec 12) : Acts (.pulseEnd x v cur) ⟨[.regs, .hinge, .outs, .sch,
    .flt, .life], [], []⟩ :=
  .of (exec_pulseEnd x v cur) fun h => by
  dsimp only
  split
  · exact Moves.refl _ h
  · refine .ite (Moves.refl _ h) ?_
    have y := (Moves.refl (⟨[.regs, .hinge, .outs, .sch, .flt, .life], [], []⟩ : Foot) h).forAll
      (f := fun h x => h.reSwitch x false) (l := h.fHalves x.c) fun k c _ => (Moves.refl _ k).to (reSwitch_movesAny _ c _)
    have ypass (bit : Nat) := y.to (outFall_moves _ (h.fLead x.c) bit)
    exact .ite (.ite (((ypass _).to (modOut_moves _ _ _)).to (outFall_moves _ _ _)) (ypass _)) (.ite y (y.to
      (outRise_movesAny _ _ _ _)))

theorem tpMiss_acts (x : ChSpan) : Acts (.tpMiss x) ⟨[.regs, .hinge, .outs, .flt], [], []⟩ :=
  .of (exec_tpMiss x) fun h => .ite (Moves.refl _ h) (.ite ((Moves.refl _ h).to (modOut_moves _ _ _)) ((Moves.refl _ h).to
    (outRise_moves _ _ _ _ x.c.isLt)))

theorem pwmEdgeCheck_acts (c : Fin 16) (v : BitVec 16) : Acts (.pwmEdgeCheck c v) ⟨[.regs, .hinge, .outs, .flt], [], []⟩ :=
  .of (exec_pwmEdgeCheck c v) fun h => .ite (Moves.refl _ h) (.ite (.ite (Moves.refl _ h) (.ite ((Moves.refl _ h).to
    (passCheck_moves _ _)) ((Moves.refl _ h).to (failCheck_moves _ _ _)))) (.ite ((Moves.refl _ h).to (passCheck_moves _ _))
    ((Moves.refl _ h).to (failCheck_moves _ _ _))))

theorem pairMismatch_acts (x : PairCurrents) : Acts (.pairMismatch x) ⟨[.regs, .hinge, .outs, .flt], [], []⟩ :=
  .of (exec_pairMismatch x) fun h => .ite (((Moves.refl _ h).to (modOut_moves _ _ _)).to (outRise_movesAny _ _ _ _))
    (Moves.refl _ h)

theorem outRtWrite_acts (w : Fin 8) (c : Fin 16) (v : Word) : Acts (.outRtWrite w c v) ⟨[.regs, .hinge], [], []⟩ :=
  .of (exec_outRtWrite w c v) fun h => .ite ((Moves.refl _ h).to (writeOutRt_moves _ _ _ _)) (Moves.refl _ h)

theorem outFltClear_acts (w : Fin 8) (c : Fin 16) (v : Word) : Acts (.outFltClear w c v) ⟨[.regs, .hinge], [], []⟩ :=
  .of (exec_outFltClear w c v) fun h => .ite ((Moves.refl _ h).to (writeOutFlt_moves _ _ _ _)) (Moves.refl _ h)

theorem inputCrossing_acts (c : Fin 16) (l : LeadLevel) : Acts (.inputCrossing c l) (faultFoot.join ⟨[.regs, .ins], [],
    []⟩) :=
  .of (exec_inputCrossing c l) fun h => (Moves.refl _ h).to (crossing_moves _ _ _)

theorem debounceAccept_acts (x : ChSpan) : Acts (.debounceAccept x) (faultFoot.join ⟨[.regs, .ins, .life], [], []⟩) :=
  .of (exec_debounceAccept x) fun h => .ite ((Moves.refl _ h).to (debounced_moves _ _)) (Moves.refl _ h)

theorem inTsLoRead_acts (w : Fin 8) (c : Fin 16) : Acts (.inTsLoRead w c) ⟨[.regs, .ins], [], []⟩ :=
  .of (exec_inTsLoRead w c) fun h => .ite ((Moves.refl _ h).to (readTsLo_moves _ _)) (Moves.refl _ h)

theorem inputMeasure_acts (c : Fin 16) (v : BitVec 16) (cur : BitVec 12) : Acts (.inputMeasure c v cur) ⟨[.regs, .hinge,
    .ins, .flt], [], []⟩ :=
  .of (exec_inputMeasure c v cur) fun h => .ite (Moves.refl _ h) (.bind (.ite
    (((Moves.refl _ h).wrAny _ _ _ _).wrAny _ _ _ _) (Moves.refl _ h)) fun y => .ite (.bind (y.to
    (modIn_moves _ _ _)) fun y1 => .ite ((y1.to (inEnd_moves _ _ _)).to (syncIn_moves _ _)) y1) y)

theorem wireBreak_acts (x : ChSpan) : Acts (.wireBreak x) (faultFoot.join ⟨[.regs, .ins], [], []⟩) :=
  .of (exec_wireBreak x) fun h => .ite ((Moves.refl _ h).trans (forcing_moves _ _ _ (fun _ => (Moves.refl _ _).to
    (inSet_moves _ _ _ _)))) (Moves.refl _ h)

theorem tpWindowEnd_acts (x : ChSpan) : Acts (.tpWindowEnd x) (faultFoot.join ⟨[.regs, .ins, .life], [], []⟩) :=
  .of (exec_tpWindowEnd x) fun h => .ite ((Moves.refl _ h).to (ownEnd_moves _ _)) (Moves.refl _ h)

theorem tpLate_acts (x : ChSpan) : Acts (.tpLate x) (faultFoot.join ⟨[.regs, .ins], [], []⟩) :=
  .of (exec_tpLate x) fun h => .ite (Moves.refl _ h) (.ite ((Moves.refl _ h).to (modIn_moves _ _ _)) ((Moves.refl _ h).trans
    (forcing_moves _ _ _ (fun _ => (Moves.refl _ _).to (inSet_moves _ _ _ _)))))

theorem foreignWindowEnd_acts (x : ChSpan) : Acts (.foreignWindowEnd x) (faultFoot.join ⟨[.regs, .ins, .life], [], []⟩) :=
  .of (exec_foreignWindowEnd x) fun h => .ite ((Moves.refl _ h).to (foreignEnd_moves _ _)) (Moves.refl _ h)

theorem inFltClear_acts (w : Fin 8) (c : Fin 16) (v : Word) : Acts (.inFltClear w c v) ⟨[.regs, .hinge], [], []⟩ :=
  .of (exec_inFltClear w c v) fun h => .ite ((Moves.refl _ h).to (writeInFlt_moves _ _ _ _)) (Moves.refl _ h)

theorem issuePoint_acts (t : Fin 8) : Acts (.issuePoint t) (faultFoot.join ⟨[.regs, .bad], [], []⟩) :=
  .of (exec_issuePoint t) fun h => .bind ((Moves.refl _ h).to (boundary_moves _ _)) fun y => .ite (y.to
    (tmbRun_moves _ _ _)) y

theorem stop_acts (t : Fin 8) : Acts (.stop t) (faultFoot.join ⟨[.regs, .bad], [], []⟩) :=
  .of (exec_stop t) fun h => (Moves.refl _ h).to (tmbInstr_moves _ _ _ _)

theorem vecInstruction_acts (t : Fin 8) : Acts (.vecInstruction t) (faultFoot.join ⟨[.regs, .bad], [], []⟩) :=
  .of (exec_vecInstruction t) fun h => (Moves.refl _ h).to (tmbInstr_moves _ _ _ _)

theorem loop_acts (t : Fin 8) : Acts (.loop t) (faultFoot.join ⟨[.regs, .bad], [], []⟩) :=
  .of (exec_loop t) fun h => (Moves.refl _ h).to (tmbInstr_moves _ _ _ _)

theorem endl_acts (t : Fin 8) : Acts (.endl t) (faultFoot.join ⟨[.regs, .bad], [], []⟩) :=
  .of (exec_endl t) fun h => (Moves.refl _ h).to (tmbInstr_moves _ _ _ _)

theorem jmp_acts (t : Fin 8) : Acts (.jmp t) (faultFoot.join ⟨[.regs, .bad], [], []⟩) :=
  .of (exec_jmp t) fun h => (Moves.refl _ h).to (tmbInstr_moves _ _ _ _)

theorem brc_acts (t : Fin 8) : Acts (.brc t) (faultFoot.join ⟨[.regs, .bad], [], []⟩) :=
  .of (exec_brc t) fun h => (Moves.refl _ h).to (tmbInstr_moves _ _ _ _)

theorem wait_acts (t : Fin 8) : Acts (.wait t) (faultFoot.join ⟨[.regs, .bad], [], []⟩) :=
  .of (exec_wait t) fun h => (Moves.refl _ h).to (tmbInstr_moves _ _ _ _)

theorem waitTimeout_acts (t : Fin 8) : Acts (.waitTimeout t) (faultFoot.join ⟨[.regs, .bad], [], []⟩) :=
  .of (exec_waitTimeout t) fun h => (Moves.refl _ h).to (tmbInstr_moves _ _ _ _)

theorem call_acts (t : Fin 8) : Acts (.call t) (faultFoot.join ⟨[.regs, .bad], [], []⟩) :=
  .of (exec_call t) fun h => (Moves.refl _ h).to (tmbInstr_moves _ _ _ _)

theorem ret_acts (t : Fin 8) : Acts (.ret t) (faultFoot.join ⟨[.regs, .bad], [], []⟩) :=
  .of (exec_ret t) fun h => (Moves.refl _ h).to (tmbInstr_moves _ _ _ _)

theorem tset_acts (t : Fin 8) : Acts (.tset t) (faultFoot.join ⟨[.regs, .bad], [], []⟩) :=
  .of (exec_tset t) fun h => (Moves.refl _ h).to (tmbInstr_moves _ _ _ _)

theorem march_acts (t : Fin 8) : Acts (.march t) (faultFoot.join ⟨[.regs, .bad], [], []⟩) :=
  .of (exec_march t) fun h => (Moves.refl _ h).to (tmbInstr_moves _ _ _ _)

theorem sig_acts (t : Fin 8) : Acts (.sig t) (faultFoot.join ⟨[.regs, .bad], [], []⟩) :=
  .of (exec_sig t) fun h => (Moves.refl _ h).to (tmbInstr_moves _ _ _ _)

theorem cycleStart_acts (t : Fin 8) : Acts (.cycleStart t) ⟨[.regs, .ret, .tmbs, .aux, .recd, .lsy, .bst], [], []⟩ :=
  .of (exec_cycleStart t) fun h => .ite ((Moves.refl _ h).to (cycleStart_moves _ _)) (Moves.refl _ h)

theorem tmbStart_acts (w : Fin 8) (t : Fin 8) (v : Word) : Acts (.tmbStart w t v) ⟨[.regs, .sup, .hinge, .tmbs, .sch, .flt,
    .ints, .pins, .eng, .mem, .free], [], []⟩ :=
  .of (exec_tmbStart w t v) fun h => .ite ((Moves.refl _ h).to (writeTmbCtrl_moves _ _ _)) (Moves.refl _ h)

theorem tmbStop_acts (w : Fin 8) (t : Fin 8) (v : Word) : Acts (.tmbStop w t v) ⟨[.regs, .sup, .hinge, .tmbs, .sch, .flt,
    .ints, .pins, .eng, .mem, .free], [], []⟩ :=
  .of (exec_tmbStop w t v) fun h => .ite ((Moves.refl _ h).to (writeTmbCtrl_moves _ _ _)) (Moves.refl _ h)

theorem tmbJump_acts (w : Fin 8) (t : Fin 8) (v : Word) : Acts (.tmbJump w t v) ⟨[.regs, .sup, .hinge, .tmbs, .sch, .flt,
    .ints, .pins, .eng, .mem, .free], [], []⟩ :=
  .of (exec_tmbJump w t v) fun h => .ite ((Moves.refl _ h).to (writeTmbCtrl_moves _ _ _)) (Moves.refl _ h)

theorem heavyVectorStall_acts (t : Fin 8) : Acts (.heavyVectorStall t) (faultFoot.join ⟨[.regs, .bad], [], []⟩) :=
  .of (exec_heavyVectorStall t) fun h => (Moves.refl _ h).to (tmbInstr_moves _ _ _ _)

theorem deadlineMiss_acts (t : Fin 8) : Acts (.deadlineMiss t) (faultFoot.join ⟨[.regs], [], []⟩) :=
  .of (exec_deadlineMiss t) fun h => .ite (((Moves.refl _ h).to (modTmb_moves _ _ _)).to (event_moves _ _ _ _))
    (Moves.refl _ h)

theorem compareSlotEval_acts (j : Fin 16) (r : Reading) : Acts (.compareSlotEval j r) ⟨[.regs], [], []⟩ :=
  .of (exec_compareSlotEval j r) fun h => .ite ((Moves.refl _ h).to (cmpEval_moves _ _ _)) (Moves.refl _ h)

theorem tmbCmpThrWrite_acts (w : Fin 8) (j : Fin 16) (v : Word) : Acts (.tmbCmpThrWrite w j v) ⟨[.regs], [], []⟩ :=
  .of (exec_tmbCmpThrWrite w j v) fun h => .ite ((Moves.refl _ h).to (writeCmpThr_moves _ _ _)) (Moves.refl _ h)

theorem dpWriteLow_acts (w : Fin 8) (d : Fin 2) (n : Fin 1024) (v : Word) : Acts (.dpWriteLow w d n v) ⟨[.mem, .bad, .dpLow],
    [], []⟩ :=
  .of (exec_dpWriteLow w d n v) fun h => .ite ((Moves.refl _ h).to (writeDp_moves _ _ _ _)) (Moves.refl _ h)

theorem dpWriteHigh_acts (w : Fin 8) (d : Fin 2) (n : Fin 1024) (v : Word) : Acts (.dpWriteHigh w d n v) ⟨[.mem, .bad,
    .dpLow], [], []⟩ :=
  .of (exec_dpWriteHigh w d n v) fun h => .ite ((Moves.refl _ h).to (writeDp_moves _ _ _ _)) (Moves.refl _ h)

theorem dpReadLow_acts (w : Fin 8) (d : Fin 2) (n : Fin 1024) : Acts (.dpReadLow w d n) ⟨[.dpHigh], [], []⟩ :=
  .of (exec_dpReadLow w d n) fun h => .ite ((Moves.refl _ h).to (readDp_moves _ _ _)) (Moves.refl _ h)

theorem syncPulseSend_acts : Acts .syncPulseSend (faultFoot.join ⟨[.regs, .lsy], [], []⟩) :=
  .ofLsy (exec_syncPulseSend) fun h => .ite (Moves.refl _ h) (.ite ((Moves.refl _ h).putAny _ _ _ _) (.bind
    (((Moves.refl _ h).putAny _ _ _ _).to (modLsy_moves _ _)) fun y => ((Moves.ite (y.to (headTime_moves _)) y).to
    (calPeriod_moves _)).to (lsyPeriod_moves _)))

theorem syncPulseReceive_acts (x : SyncPulse) : Acts (.syncPulseReceive x) (faultFoot.join ⟨[.regs, .clk, .aux, .lsy], [],
    []⟩) :=
  .ofLsy (exec_syncPulseReceive x) fun h => .ite (Moves.refl _ h) (.ite ((Moves.refl _ h).to (raise_moves _ _ _ _ _))
    ((Moves.refl _ h).to (recvPulse_moves _ _)))

theorem timeLo_acts (v : Word) : Acts (.timeLo v) ⟨[.regs, .lsy], [], []⟩ :=
  .ofLsy (exec_timeLo v) fun h => .ite (Moves.refl _ h) (((Moves.refl _ h).to (modLsy_moves _ _)).to (lsyForward_moves _ _))

theorem timeHi_acts (v : Word) : Acts (.timeHi v) ⟨[.regs, .lsy], [], []⟩ :=
  .ofLsy (exec_timeHi v) fun h => .ite (Moves.refl _ h) (((Moves.refl _ h).to (modLsy_moves _ _)).to (lsyForward_moves _ _))

theorem enumMsg_acts (v : Word) : Acts (.enumMsg v) (faultFoot.join ⟨[.regs, .lsy], [], []⟩) :=
  .ofLsy (exec_enumMsg v) fun h => .ite (Moves.refl _ h) ((Moves.refl _ h).to (recvEnum_moves _ _))

theorem calStart_acts (v : Word) : Acts (.calStart v) ⟨[.regs, .lsy], [], []⟩ :=
  .ofLsy (exec_calStart v) fun h => .ite (Moves.refl _ h) ((Moves.refl _ h).to (recvCalStart_moves _ _))

theorem calEcho_acts (missing : Bool) (rt : BitVec 16) : Acts (.calEcho missing rt) (faultFoot.join ⟨[.regs, .lsy], [],
    []⟩) :=
  .ofLsy (exec_calEcho missing rt) fun h => .ite (Moves.refl _ h) (.bind ((Moves.refl _ h).to (modLsy_moves _ _)) fun y =>
    .ite (y.to (calJudge_moves _)) y)

theorem calDelay_acts (v : Word) : Acts (.calDelay v) ⟨[.lsy], [], []⟩ :=
  .ofLsy (exec_calDelay v) fun h => .ite (Moves.refl _ h) ((Moves.refl _ h).to (modLsy_moves _ _))

theorem mark_acts (v : Word) : Acts (.mark v) ⟨[.regs, .tmbs, .lsy], [], []⟩ :=
  .ofLsy (exec_mark v) fun h => .ite (Moves.refl _ h) ((Moves.refl _ h).to (recvMark_moves _ _))

theorem hb_acts (up : Bool) (v : Word) : Acts (.hb up v) (faultFoot.join ⟨[.regs, .lsy], [], []⟩) :=
  .ofLsy (exec_hb up v) fun h => .ite (Moves.refl _ h) ((Moves.refl _ h).to (recvLsyHb_moves _ _ _))

theorem pairHbTimeout_acts : Acts .pairHbTimeout (faultFoot.join ⟨[.regs, .lsy], [], []⟩) :=
  .ofLsy (exec_pairHbTimeout) fun h => .ite ((((Moves.refl _ h).putAny _ _ _ _).to (modLsy_moves _ _)).to
    (pairOpen_moves _ _)) (Moves.refl _ h)

theorem pairClose_acts (v : Word) : Acts (.pairClose v) ⟨[.regs, .sch, .lsy], [], []⟩ :=
  .ofLsy (exec_pairClose v) fun h => .ite ((Moves.refl _ h).to (pairSchedule_moves _ _)) (Moves.refl _ h)

end Sys2Proof.Machine

/-!
PROOF. The footprint of every command: the commands of Luanen to those of the operations.
-/

namespace Sys2Proof.Machine

set_option Elab.async false

theorem pairTurnOn_acts : Acts .pairTurnOn (faultFoot.join ⟨[.regs, .lsy], [], []⟩) :=
  .ofLsy (exec_pairTurnOn) fun h => by
  split
  · exact (Moves.refl _ h)
  · exact .ite (Moves.refl _ h) (.ite (.ite (Moves.refl _ h) ((((Moves.refl _ h).to (modLsy_moves _ _)).putAny _ _ _ _).to
      (command_moves _ _ _ _))) (.ite (Moves.refl _ h) ((Moves.refl _ h).to (pairOpen_moves _ _))))

theorem present_acts (v : Word) : Acts (.present v) ⟨[.regs, .flt, .lsy], [], []⟩ :=
  .ofLsy (exec_present v) fun h => .ite (Moves.refl _ h) (.bind ((Moves.refl _ h).to (slotOneCame_moves _)) fun y => .ite
    (y.to (calTrigger_moves _)) y)

theorem breakMsg_acts (v : Word) : Acts (.breakMsg v) ⟨[.regs, .lsy], [], []⟩ :=
  .ofLsy (exec_breakMsg v) fun h => .ite ((Moves.refl _ h).wrAny _ _ _ _) ((Moves.refl _ h).to (lsyReturn_moves _ _))

theorem recalReq_acts (v : Word) : Acts (.recalReq v) ⟨[.regs, .lsy], [], []⟩ :=
  .ofLsy (exec_recalReq v) fun h => .ite ((Moves.refl _ h).to (calTrigger_moves _)) ((Moves.refl _ h).to
    (lsyReturn_moves _ _))

theorem user_acts (up : Bool) (v : Word) : Acts (.user up v) ⟨[.regs, .tmbs, .ints, .pins, .lsy], [], []⟩ :=
  .ofLsy (exec_user up v) fun h => .ite (Moves.refl _ h) ((Moves.refl _ h).to (recvUser_moves _ _ _))

theorem upstreamLost_acts : Acts .upstreamLost (faultFoot.join ⟨[.regs, .lsy], [], []⟩) :=
  .ofLsy (exec_upstreamLost) fun h => .ite (Moves.refl _ h) (((((((Moves.refl _ h).putAny _ _ _ _).putAny _ _ _ _).putAny _
    _ _ _).putAny _ _ _ _).to (modLsy_moves _ _)).to (raise_moves _ _ _ _ _))

theorem downstreamLost_acts : Acts .downstreamLost (faultFoot.join ⟨[.regs, .lsy], [], []⟩) :=
  .ofLsy (exec_downstreamLost) fun h => .ite (Moves.refl _ h) (.bind (((Moves.refl _ h).putAny _ _ _ _).to
    (modLsy_moves _ _)) fun y => (Moves.ite y (y.to (lsyReturn_moves _ _))).to (raise_moves _ _ _ _ _))

theorem chainResumed_acts : Acts .chainResumed ⟨[.regs, .flt, .lsy], [], []⟩ :=
  .ofLsy (exec_chainResumed) fun h => .ite ((((Moves.refl _ h).to (modLsy_moves _ _)).putAny _ _ _ _).to
    (lower_moves _ _ _)) (Moves.refl _ h)

theorem recal_acts (w : Fin 8) (v : Word) : Acts (.recal w v) ⟨[.regs, .lsy], [], []⟩ :=
  .of (exec_recal w v) fun h => .ite ((Moves.refl _ h).to (writeLsyCtrl_moves _ _ _)) (Moves.refl _ h)

theorem recalInterval_acts : Acts .recalInterval ⟨[.regs, .lsy], [], []⟩ :=
  .ofLsy (exec_recalInterval) fun h => .ite (.ite ((Moves.refl _ h).to (calTrigger_moves _)) (Moves.refl _ h)) (.ite
    ((Moves.refl _ h).to (recalAsk_moves _ _)) (Moves.refl _ h))

theorem luanenEvent_acts (k : Fin 8) : Acts (.luanenEvent k) ⟨[.tmbs, .lsy], [], []⟩ :=
  .ofLsy (exec_luanenEvent k) fun h => by
  split
  · exact (Moves.refl _ h)
  · exact .ite (((Moves.refl _ h).to (modLsy_moves _ _)).to (lsyEvent_moves _ _)) (Moves.refl _ h)

theorem lsyRxRead_acts (w : Fin 8) : Acts (.lsyRxRead w) ⟨[.lsy], [], []⟩ :=
  .of (exec_lsyRxRead w) fun h => .ite ((Moves.refl _ h).to (readLsyRx_moves _ _)) (Moves.refl _ h)

theorem writeFrame_acts (p : Fin 3) (header : Word) (data : List Word) (crc : Byte) (k : Clocking) : Acts
    (.writeFrame p header data crc k) (faultFoot.join ⟨[.regs, .chip, .sup, .ins, .ports, .banks, .bad, .dpLow, .lsy, .wdo,
    .life, .blk, .nvmOp, .nvmQ, .fieldReset, .fieldSince], [], []⟩) :=
  .of (exec_writeFrame p header data crc k) fun h => .ite (Moves.refl _ h) ((Moves.refl _ h).trans (framed_moves _ _ _ _
    (fun _ => (Moves.refl _ _).trans (writeEnd_moves _ _ _ _ _ _ (fun _ => (Moves.refl _ _).to
    (writeWords_moves _ _ _ _))))))

theorem readFrame_acts (p : Fin 3) (header : Word) (crc : Byte) (k : Clocking) : Acts (.readFrame p header crc k)
    (faultFoot.join ⟨[.regs, .sup, .ins, .ports, .dpHigh, .lsy], [], []⟩) :=
  .of (exec_readFrame p header crc k) fun h => .ite ((Moves.refl _ h).trans (framed_moves _ _ _ _ (fun _ =>
    (Moves.refl _ _).to (readFrame_moves _ _ _ _ _)))) (Moves.refl _ h)

theorem doorbell_acts (p : Fin 3) (header v : Word) (crc : Byte) (k : Clocking) : Acts (.doorbell p header v crc k)
    (faultFoot.join ⟨[.regs, .sup, .ports], [], []⟩) :=
  .of (exec_doorbell p header v crc k) fun h => .ite (Moves.refl _ h) ((Moves.refl _ h).trans (framed_moves _ _ _ _ (fun _ =>
    (Moves.refl _ _).trans (writeEnd_moves _ _ _ _ _ _ (fun _ => (Moves.refl _ _).to (ringBell_moves _ _ _))))))

theorem wrdExpOpen_acts (w : Fin 8) (v : Word) : Acts (.wrdExpOpen w v) ⟨[.regs, .ret, .recd, .bst], [], []⟩ :=
  .of (exec_wrdExpOpen w v) fun h => .ite ((Moves.refl _ h).to (writeExpOpen_moves _ _ _)) (Moves.refl _ h)

theorem descriptorAccept_acts (w : Fin 8) : Acts (.descriptorAccept w) (faultFoot.join ⟨[.regs, .bad], [], []⟩) :=
  .of (exec_descriptorAccept w) fun h => .ite ((Moves.refl _ h).to (accept_moves _ _)) (Moves.refl _ h)

theorem dispatch_acts : Acts .dispatch (faultFoot.join ⟨[.regs], [], []⟩) :=
  .of (exec_dispatch) fun h => .ite ((Moves.refl _ h).to (dispatch_moves _)) (Moves.refl _ h)

theorem nop_acts (slot : Fin 16384) : Acts (.nop slot) ⟨[.eng], [], []⟩ :=
  .of (exec_nop slot) fun h => (Moves.refl _ h).trans (opRun_moves _ _ _ _ _ (fun _ _ => (Moves.refl _ _).to
    (retire_moves _ _ _ _ _)))

theorem regw_acts (slot : Fin 16384) : Acts (.regw slot) (faultFoot.join ⟨[.regs, .chip, .sup, .ins, .banks, .bad, .dpLow,
    .lsy, .wdo, .life, .blk, .nvmOp, .nvmQ, .fieldReset, .fieldSince], [], []⟩) :=
  .of (exec_regw slot) fun h => (Moves.refl _ h).trans (opRun_moves _ _ _ _ _ (fun _ _ => (Moves.refl _ _).to
    (regw_moves _ _)))

theorem regr_acts (slot : Fin 16384) : Acts (.regr slot) (faultFoot.join ⟨[.regs, .sup, .ins, .bad, .dpHigh, .lsy], [],
    []⟩) :=
  .of (exec_regr slot) fun h => (Moves.refl _ h).trans (opRun_moves _ _ _ _ _ (fun _ _ => (Moves.refl _ _).to
    (regr_moves _ _)))

theorem bankCopy_acts (slot : Fin 16384) : Acts (.bankCopy slot) (faultFoot.join ⟨[.regs, .sup, .bad], [], []⟩) :=
  .of (exec_bankCopy slot) fun h => (Moves.refl _ h).trans (opRun_moves _ _ _ _ _ (fun _ _ => (Moves.refl _ _).to
    (bankCopy_moves _ _)))

theorem bankFill_acts (slot : Fin 16384) : Acts (.bankFill slot) ⟨[.regs, .sup, .sch, .eng, .mem, .bad], [], []⟩ :=
  .of (exec_bankFill slot) fun h => (Moves.refl _ h).trans (opRun_moves _ _ _ _ _ (fun _ _ => (Moves.refl _ _).to
    (bankFill_moves _ _)))

theorem atomAdd_acts (slot : Fin 16384) : Acts (.atomAdd slot) (faultFoot.join ⟨[.regs, .sup, .bad], [], []⟩) :=
  .of (exec_atomAdd slot) fun h => (Moves.refl _ h).trans (opRun_moves _ _ _ _ _ (fun _ _ => (Moves.refl _ _).to
    (atom_moves _ _ _)))

theorem atomSwap_acts (slot : Fin 16384) : Acts (.atomSwap slot) (faultFoot.join ⟨[.regs, .sup, .bad], [], []⟩) :=
  .of (exec_atomSwap slot) fun h => (Moves.refl _ h).trans (opRun_moves _ _ _ _ _ (fun _ _ => (Moves.refl _ _).to
    (atom_moves _ _ _)))

theorem tmbOpStart_acts (slot : Fin 16384) : Acts (.tmbOpStart slot) (faultFoot.join ⟨[.regs, .sup, .ins, .lsy, .blk, .nvmOp,
    .nvmQ], [], []⟩) :=
  .of (exec_tmbOpStart slot) fun h => (Moves.refl _ h).trans (opRun_moves _ _ _ _ _ (fun _ _ => (Moves.refl _ _).to
    (tmbOpStart_moves _ _)))

theorem tmbOpStop_acts (slot : Fin 16384) : Acts (.tmbOpStop slot) ⟨[.regs, .sup, .hinge, .tmbs, .sch, .ints, .pins, .eng,
    .mem, .free], [], []⟩ :=
  .of (exec_tmbOpStop slot) fun h => (Moves.refl _ h).trans (opRun_moves _ _ _ _ _ (fun _ _ => (Moves.refl _ _).to
    (tmbOpStop_moves _ _)))

theorem tmbOpJump_acts (slot : Fin 16384) : Acts (.tmbOpJump slot) ⟨[.regs, .sup, .tmbs, .sch, .flt, .eng], [], []⟩ :=
  .of (exec_tmbOpJump slot) fun h => (Moves.refl _ h).trans (opRun_moves _ _ _ _ _ (fun _ _ => (Moves.refl _ _).to
    (tmbOpJump_moves _ _)))

theorem meas_acts (slot : Fin 16384) (conv : List Word) : Acts (.meas slot conv) ⟨[.regs, .sup, .sch, .eng, .mem, .bad], [],
    []⟩ :=
  .of (exec_meas slot conv) fun h => (Moves.refl _ h).trans (opRun_moves _ _ _ _ _ (fun _ _ => (Moves.refl _ _).to
    (meas_moves _ _ _)))

theorem diag_acts (slot : Fin 16384) (v : BitVec 16) (normal : BitVec 12) (fine : BitVec 12) : Acts
    (.diag slot v normal fine) ⟨[.regs, .sup, .hinge, .outs, .sch, .flt, .eng, .life], [], []⟩ :=
  .of (exec_diag slot v normal fine) fun h => (Moves.refl _ h).trans (opRun_moves _ _ _ _ _ (fun _ _ => (Moves.refl _ _).to
    (diag_moves _ _ _ _ _)))

theorem nvmRead_acts (slot : Fin 16384) : Acts (.nvmRead slot) ⟨[.regs, .sup, .sch, .eng, .blk, .nvmOp, .nvmQ], [], []⟩ :=
  .of (exec_nvmRead slot) fun h => (Moves.refl _ h).trans (opRun_moves _ _ _ _ _ (fun _ _ => (Moves.refl _ _).to
    (nvmReadOp_moves _ _)))

theorem nvmProgram_acts (slot : Fin 16384) : Acts (.nvmProgram slot) (faultFoot.join ⟨[.regs, .sup, .blk, .nvmOp, .nvmQ], [],
    []⟩) :=
  .of (exec_nvmProgram slot) fun h => (Moves.refl _ h).trans (opRun_moves _ _ _ _ _ (fun _ _ => (Moves.refl _ _).to
    (nvmProgramOp_moves _ _)))

theorem nvmErase_acts (slot : Fin 16384) : Acts (.nvmErase slot) ⟨[.regs, .eng, .blk, .nvmOp, .nvmQ], [], []⟩ :=
  .of (exec_nvmErase slot) fun h => (Moves.refl _ h).trans (opRun_moves _ _ _ _ _ (fun _ _ => (Moves.refl _ _).to
    (nvmEraseOp_moves _ _)))

theorem nvmOperationDone_acts (res : Fin 3) (mirrorOk : Bool) : Acts (.nvmOperationDone res mirrorOk)
    (faultFoot.join ⟨[.regs, .bad, .blk, .nvm, .nvmOp, .nvmQ], [], []⟩) :=
  .of (exec_nvmOperationDone res mirrorOk) fun h => by
  split
  · exact (Moves.refl _ h)
  · exact .ite (Moves.refl _ h) (.bind ((Moves.refl _ h).to (nvmDone_moves _ _ _)) fun y => (Moves.ite (y.to
      (event_moves _ _ _ _)) y).to (nvmOpEnd_moves _ _ _))

theorem timed_acts (slot : Fin 16384) : Acts (.timed slot) ⟨[.eng], [], []⟩ :=
  .of (exec_timed slot) fun h => (Moves.refl _ h).trans (opRun_moves _ _ _ _ _ (fun _ _ => (Moves.refl _ _).to
    (modOp_moves _ _ _)))

theorem timedRelease_acts (slot : Fin 16384) : Acts (.timedRelease slot) (faultFoot.join ⟨[.regs, .chip, .sup, .ins, .banks,
    .bad, .dpLow, .lsy, .wdo, .life, .blk, .nvmOp, .nvmQ, .fieldReset, .fieldSince], [], []⟩) :=
  .of (exec_timedRelease slot) fun h => by
  split
  · exact (Moves.refl _ h)
  · split
    · exact .ite ((Moves.refl _ h).to (timedRelease_moves _ _ _)) (Moves.refl _ h)
    · exact (Moves.refl _ h)

theorem lsy_acts (slot : Fin 16384) : Acts (.lsy slot) ⟨[.regs, .sup, .tmbs, .sch, .ints, .pins, .eng, .lsy], [], []⟩ :=
  .of (exec_lsy slot) fun h => (Moves.refl _ h).trans (opRun_moves _ _ _ _ _ (fun _ _ => (Moves.refl _ _).to
    (lsyOp_moves _ _)))

theorem completion_acts (slot : Fin 16384) : Acts (.completion slot) ⟨[.regs, .ints, .pins, .eng, .mem, .bad], [], []⟩ :=
  .of (exec_completion slot) fun h => .ite ((Moves.refl _ h).to (complete_moves _ _)) (Moves.refl _ h)

theorem opsCancel_acts (w : Fin 8) (v : Word) : Acts (.opsCancel w v) ⟨[.regs, .sch, .eng], [], []⟩ :=
  .of (exec_opsCancel w v) fun h => .ite ((Moves.refl _ h).to (writeCancel_moves _ _ _)) (Moves.refl _ h)

theorem opsCqIdxWrite_acts (w : Fin 8) (v : Word) : Acts (.opsCqIdxWrite w v) ⟨[.regs], [], []⟩ :=
  .of (exec_opsCqIdxWrite w v) fun h => .ite ((Moves.refl _ h).to (writeCqIdx_moves _ _ _)) (Moves.refl _ h)

theorem tokenRefill_acts (w : Fin 8) : Acts (.tokenRefill w) ⟨[.eng], [], []⟩ :=
  .of (exec_tokenRefill w) fun h => (Moves.refl _ h).eng _

theorem opsQosRtWrite_acts (w : Fin 8) (v : Word) : Acts (.opsQosRtWrite w v) ⟨[.regs], [], []⟩ :=
  .of (exec_opsQosRtWrite w v) fun h => .ite ((Moves.refl _ h).to (writeQosRt_moves _ _ _)) (Moves.refl _ h)

theorem intEvent_acts (w : Fin 8) (bit : Fin 32) : Acts (.intEvent w bit) ⟨[.regs, .ints, .pins], [], []⟩ :=
  .of (exec_intEvent w bit) fun h => .ite ((Moves.refl _ h).to (intEvent_moves _ _ _)) (Moves.refl _ h)

theorem moderationExpiry_acts (w : Fin 8) : Acts (.moderationExpiry w) ⟨[.regs, .ints, .pins], [], []⟩ :=
  .of (exec_moderationExpiry w) fun h => (Moves.refl _ h).to (modExpiry_moves _ _)

theorem intPulseEnd_acts (p : Fin 4) : Acts (.intPulseEnd p) ⟨[.pins], [], []⟩ :=
  .of (exec_intPulseEnd p) fun h => (Moves.refl _ h).to (pulseEnd_moves _ _)

theorem intStatClear_acts (w : Fin 8) (v : Word) : Acts (.intStatClear w v) ⟨[.regs, .ints], [], []⟩ :=
  .of (exec_intStatClear w v) fun h => .ite ((Moves.refl _ h).to (writeIntStat_moves _ _ _)) (Moves.refl _ h)

theorem intEnWrite_acts (w : Fin 8) (v : Word) : Acts (.intEnWrite w v) ⟨[.regs, .ints, .pins], [], []⟩ :=
  .of (exec_intEnWrite w v) fun h => .ite ((Moves.refl _ h).to (writeIntEn_moves _ _ _)) (Moves.refl _ h)

theorem intSet_acts (w : Fin 8) (v : Word) : Acts (.intSet w v) ⟨[.regs, .ints, .pins], [], []⟩ :=
  .of (exec_intSet w v) fun h => .ite ((Moves.refl _ h).to (writeIntSet_moves _ _ _)) (Moves.refl _ h)

theorem intModWrite_acts (w : Fin 8) (v : Word) : Acts (.intModWrite w v) ⟨[.regs], [], []⟩ :=
  .of (exec_intModWrite w v) fun h => .ite ((Moves.refl _ h).to (writeIntMod_moves _ _ _)) (Moves.refl _ h)

theorem rstnLow_acts (shifting : Bool) : Acts (.rstnLow shifting) ⟨[.regs, .armed, .kept, .dev, .sup, .ret, .fol, .clk,
    .hinge, .outs, .ins, .dbt, .tmbs, .aux, .sch, .recd, .flt, .ints, .pins, .ports, .eng, .banks, .mem, .bad, .dpLow,
    .dpHigh, .lsy, .wds, .wdo, .bst, .life, .blk, .nvm, .nvmOp, .nvmQ, .fieldReset, .fieldSince, .free, .mark], [], []⟩ :=
  .of (exec_rstnLow shifting) fun h => .ite ((Moves.refl _ h).dev _) (.ite (Moves.refl _ h) (((((Moves.refl _ h).to
    (nvmAtReset_moves _ _)).to (history_moves _ _ _)).to (logicReset_moves _)).dev _))

theorem rstnRelease_acts : Acts .rstnRelease (faultFoot.join ⟨[.regs, .sup, .life], [], []⟩) :=
  .of (exec_rstnRelease) fun h => .bind ((Moves.refl _ h).dev _) fun y => .ite (Moves.refl _ h) (.ite (y.to
    (trigger_moves _)) (y.to (bootCount_moves _)))

theorem rstDev_acts (w : Fin 8) (v : Word) : Acts (.rstDev w v) ⟨[.dev], [], []⟩ :=
  .of (exec_rstDev w v) fun h => .ite ((Moves.refl _ h).to (writeRstDev_moves _ _ _)) (Moves.refl _ h)

theorem deviceSoftReset_acts : Acts .deviceSoftReset ⟨[.regs, .armed, .kept, .dev, .sup, .ret, .fol, .clk, .hinge, .outs,
    .ins, .dbt, .tmbs, .aux, .sch, .recd, .flt, .ints, .pins, .ports, .eng, .banks, .mem, .bad, .dpLow, .dpHigh, .lsy, .wds,
    .wdo, .bst, .life, .blk, .nvmQ, .fieldReset, .fieldSince, .mark], [], []⟩ :=
  .of (exec_deviceSoftReset) fun h => by
  split
  · exact (Moves.refl _ h)
  · exact .ite (Moves.refl _ h) (((Moves.ite (Moves.refl _ h) ((Moves.refl _ h).to (history_moves _ _ _))).to
      (logicReset_moves _)).to (bootCount_moves _))

theorem rstWard_acts (w : Fin 8) (v : Word) : Acts (.rstWard w v) ⟨[.regs, .dev, .hinge, .outs, .ins, .tmbs, .sch, .flt,
    .ints, .pins, .eng, .banks, .mem, .wds, .free], [], []⟩ :=
  .of (exec_rstWard w v) fun h => .ite ((Moves.refl _ h).to (writeRstWard_moves _ _ _)) (Moves.refl _ h)

theorem wardResetDone_acts (w : Fin 8) : Acts (.wardResetDone w) (faultFoot.join ⟨[.regs, .ins, .bad, .dpLow, .dpHigh], [],
    []⟩) :=
  .of (exec_wardResetDone w) fun h => (Moves.refl _ h).to (wardResetDone_moves _ _)

theorem rstField_acts (w : Fin 8) (v : Word) : Acts (.rstField w v) ⟨[.regs, .hinge, .outs, .tmbs, .sch, .ints, .pins,
    .fieldReset, .fieldSince], [], []⟩ :=
  .of (exec_rstField w v) fun h => .ite ((Moves.refl _ h).to (writeRstField_moves _ _ _)) (Moves.refl _ h)

theorem fieldResetRequest_acts : Acts .fieldResetRequest ⟨[.regs, .dev, .sup, .clk, .hinge, .outs, .ins, .dbt, .sch, .flt,
    .life, .fieldReset, .fieldSince], [], []⟩ :=
  .of (exec_fieldResetRequest) fun h => .ite ((((Moves.refl _ h).to
    (fieldDieReset_moves _)).dev_sup_fieldReset_fieldSince _ _ _ _).to (lower_moves _ _ _)) (Moves.refl _ h)

theorem fieldResetTimeout_acts : Acts .fieldResetTimeout (faultFoot.join ⟨[.regs], [], []⟩) :=
  .of (exec_fieldResetTimeout) fun h => .ite (((Moves.refl _ h).putAny _ _ _ _).to (raise_moves _ _ _ _ _)) (Moves.refl _ h)

theorem bnkOwnerWrite_acts (w : Fin 8) (b : Fin 48) (v : Word) : Acts (.bnkOwnerWrite w b v) ⟨[.regs, .banks], [], []⟩ :=
  .of (exec_bnkOwnerWrite w b v) fun h => .ite ((Moves.refl _ h).to (writeBnkOwner_moves _ _ _ _)) (Moves.refl _ h)

theorem drainComplete_acts (b : Fin 48) : Acts (.drainComplete b) ⟨[.regs, .ints, .pins, .banks], [], []⟩ :=
  .of (exec_drainComplete b) fun h => (Moves.refl _ h).to (drained_moves _ _)

theorem handoverScrubDone_acts (b : Fin 48) : Acts (.handoverScrubDone b) ⟨[.regs, .ints, .pins, .banks, .mem, .bad], [],
    []⟩ :=
  .of (exec_handoverScrubDone b) fun h => (Moves.refl _ h).to (scrubbed_moves _ _)

theorem bnkHandedClear_acts (w : Fin 8) (b : Fin 48) (v : Word) : Acts (.bnkHandedClear w b v) ⟨[.regs], [], []⟩ :=
  .of (exec_bnkHandedClear w b v) fun h => .ite ((Moves.refl _ h).to (writeBnkStat_moves _ _ _)) (Moves.refl _ h)

theorem retainWrite_acts (w : Fin 8) (b : Fin 48) (v : Word) : Acts (.retainWrite w b v) ⟨[.regs], [], []⟩ :=
  .of (exec_retainWrite w b v) fun h => .ite ((Moves.refl _ h).to (writeBnkCtrl_moves _ _ _)) (Moves.refl _ h)

theorem bitSet_acts (w : Fin 8) (b : Fin 48) (word : Fin 4096) (v : Word) : Acts (.bitSet w b word v)
    (faultFoot.join ⟨[.regs, .bad], [], []⟩) :=
  .of (exec_bitSet w b word v) fun h => .ite ((Moves.refl _ h).to (aliasWrite_moves _ _ _ _)) (Moves.refl _ h)

theorem bitClear_acts (w : Fin 8) (b : Fin 48) (word : Fin 4096) (v : Word) : Acts (.bitClear w b word v)
    (faultFoot.join ⟨[.regs, .bad], [], []⟩) :=
  .of (exec_bitClear w b word v) fun h => .ite ((Moves.refl _ h).to (aliasWrite_moves _ _ _ _)) (Moves.refl _ h)

theorem eccUncorrectable_acts (b : Fin 50) (word : Fin 4096) (v : Word) : Acts (.eccUncorrectable b word v)
    (faultFoot.join ⟨[.regs, .bad], [], []⟩) :=
  .of (exec_eccUncorrectable b word v) fun h => by
  have y (m : List Host.Cell) (hm : Memory.wf 0 h.mem = true → Memory.wf 0 m = true) :
      Moves (faultFoot.join ⟨[.regs, .bad], [], []⟩) h { h with mem := m } :=
    (Moves.refl _ h).mem m fun hk => ⟨hm hk.1, hk.2⟩
  exact .ite (((y _ (memory_wf_cellsSet _ _)).to (breakWord_moves _ _ _)).to (ueFound_moves _ _ _)) (Moves.refl _ h)

theorem eccCorrected_acts (b : Fin 50) (word : Fin 4096) : Acts (.eccCorrected b word) (faultFoot.join ⟨[.regs], [], []⟩) :=
  .of (exec_eccCorrected b word) fun h => .ite (Moves.refl _ h) ((Moves.ite ((Moves.refl _ h).countAny _ _ _ _) (.ite
    ((Moves.refl _ h).countAny _ _ _ _) ((Moves.refl _ h).countAny _ _ _ _))).to (event_moves _ _ _ _))

theorem scrubRead_acts (b : Fin 50) (word : Fin 4096) (us : Option (BitVec 16)) : Acts (.scrubRead b word us)
    (faultFoot.join ⟨[.regs], [], []⟩) :=
  .of (exec_scrubRead b word us) fun h => by
  refine .ite (Moves.refl _ h) ?_
  have y := Moves.ite (q := (!h.scrubSkips b && h.isBad (memAddr b word)) = true)
    ((Moves.refl (faultFoot.join ⟨[.regs], [], []⟩) h).to (ueFound_moves _ b word)) (Moves.refl _ h)
  dsimp only
  split
  · exact y
  · exact (y.countAny _ _ _ _).wrAny _ _ _ _

theorem thermalModelUpdate_acts (v : List (BitVec 16)) (cur : List (BitVec 12)) (own : BitVec 16) (rails : RoundRails)
    (temps : List (BitVec 16)) : Acts (.thermalModelUpdate v cur own rails temps) (faultFoot.join ⟨[.regs, .sup, .life, .blk,
    .nvmOp, .nvmQ], [], []⟩) :=
  .of (exec_thermalModelUpdate v cur own rails temps) fun h => .bind ((Moves.ite ((Moves.ite
    ((((Moves.refl _ h).foldl fun _ _ _ => by
  split
  · exact (Moves.refl _ _).to (setTemp_moves _ _ _)
  · exact (Moves.refl _ _)).foldl fun _ _ _ => by
  split
  · exact (Moves.refl _ _).to (setTemp_moves _ _ _)
  · exact (Moves.refl _ _)).to (fieldRound_moves _ _ _ _ _)) ((Moves.refl _ h).foldl fun _ _ _ => by
  split
  · exact (Moves.refl _ _).to (setTemp_moves _ _ _)
  · exact (Moves.refl _ _))).wrAny _ _ _ _) (Moves.ite ((((Moves.refl _ h).foldl fun _ _ _ => by
  split
  · exact (Moves.refl _ _).to (setTemp_moves _ _ _)
  · exact (Moves.refl _ _)).foldl fun _ _ _ => by
  split
  · exact (Moves.refl _ _).to (setTemp_moves _ _ _)
  · exact (Moves.refl _ _)).to (fieldRound_moves _ _ _ _ _)) ((Moves.refl _ h).foldl fun _ _ _ => by
  split
  · exact (Moves.refl _ _).to (setTemp_moves _ _ _)
  · exact (Moves.refl _ _)))).to (dieStress_moves _)) fun y4 => .bind (.ite (y4.to (judgeGlobal_moves _)) y4) fun y5 => .ite
      (((((Moves.ite y5 (y5.to (measureVhold_moves _ _))).to (takeMeas_moves _)).to (judgeWarn_moves _)).to
      (judgeWear_moves _)).foldl fun _ s _ => (Moves.refl _ _).to (judgeHalt_moves _ _)) y5

theorem schedulerDecision_acts : Acts .schedulerDecision (faultFoot.join ⟨[.regs, .kept, .sup, .ins, .banks, .lsy, .life,
    .blk, .nvmOp, .nvmQ], [], []⟩) :=
  .of (exec_schedulerDecision) fun h => by
  refine .ite (Moves.refl _ h) ?_
  have y := (Moves.refl (faultFoot.join ⟨[.regs, .kept, .sup, .ins, .banks, .lsy, .life, .blk, .nvmOp, .nvmQ], [],
    []⟩) h).to (prune_moves _)
  dsimp only
  split
  · exact y.to (decision_moves _)
  · exact y.to (decision_moves _)
  · exact y.to (decision_moves _)
  · exact y.to (decision_moves _)
  · exact y.to (decision_moves _)
  · exact y.to (decideEarly_moves _)
  · exact y

theorem thermWarn_acts (sensor : Fin 8) (t : BitVec 16) : Acts (.thermWarn sensor t) (faultFoot.join ⟨[.regs], [], []⟩) :=
  .of (exec_thermWarn sensor t) fun h => .ite ((((Moves.refl _ h).to (setTemp_moves _ _ _)).to (takeMeas_moves _)).to
    (judgeWarn_moves _)) (Moves.refl _ h)

theorem eraseDayBoundary_acts : Acts .eraseDayBoundary ⟨[.sch], [], []⟩ :=
  .of (exec_eraseDayBoundary) fun h => .ite (Moves.refl _ h) ((Moves.refl _ h).sch _)

theorem schRtWrite_acts (w : Fin 8) (v : Word) : Acts (.schRtWrite w v) ⟨[.regs], [], []⟩ :=
  .of (exec_schRtWrite w v) fun h => .ite ((Moves.refl _ h).to (writeSchRt_moves _ _ _)) (Moves.refl _ h)

theorem heartbeatSend_acts (field : Bool) : Acts (.heartbeatSend field) ⟨[.regs, .hinge, .dbt], [], []⟩ :=
  .of (exec_heartbeatSend field) fun h => .ite ((Moves.refl _ h).to (hbSend_moves _ _)) (Moves.refl _ h)

theorem hbReceive_acts (field : Bool) (payload : BitVec 40) (stamp : Word) : Acts (.hbReceive field payload stamp)
    (faultFoot.join ⟨[.regs], [], []⟩) :=
  .of (exec_hbReceive field payload stamp) fun h => ((Moves.refl _ h).to (land_moves _ _ _ _)).to (recvHb_moves _ _ _ _)

theorem heartbeatLoss_acts (field : Bool) : Acts (.heartbeatLoss field) (faultFoot.join ⟨[.regs], [], []⟩) :=
  .of (exec_heartbeatLoss field) fun h => .ite (((Moves.refl _ h).to (setHalf_moves _ _ _)).to (hbRaise_moves _ _ _))
    (Moves.refl _ h)

theorem soscBLoss_acts : Acts .soscBLoss ⟨[.regs, .sup, .hinge, .outs, .ins, .dbt, .sch, .flt, .life], [], []⟩ :=
  .of (exec_soscBLoss) fun h => .ite (Moves.refl _ h) (((((Moves.refl _ h).dbt _).to (fholdStop_moves _)).to
    (fieldSafe_moves _ _ (fun _ hc => (List.mem_range.mp (List.mem_filter.mp hc).1)))).to (fieldRise_moves _ _ _ _))

theorem adcComparison_acts (q : Fin 64) (kind : Fin 4) (a b : Word) : Acts (.adcComparison q kind a b) ⟨[.hinge, .dbt, .flt],
    [], []⟩ :=
  .of (exec_adcComparison q kind a b) fun h => .ite (Moves.refl _ h) (.ite ((Moves.refl _ h).dbt _) (.bind
    ((Moves.refl _ h).dbt _) fun y => .ite (y.to (fieldFall_moves _ _ _)) y))

theorem adcConfirm_acts (q : Fin 64) (kind : Fin 4) (a b : Word) : Acts (.adcConfirm q kind a b) ⟨[.hinge, .dbt, .flt], [],
    []⟩ :=
  .of (exec_adcConfirm q kind a b) fun h => .ite (Moves.refl _ h) (.bind ((Moves.refl _ h).dbt _) fun y => .ite y
    ((y.dbt _).to (fieldRise_moves _ _ _ _)))

theorem tempComparison_acts (sensor : Fin 7) (a : BitVec 16) (b : BitVec 16) : Acts (.tempComparison sensor a b)
    (faultFoot.join ⟨[.regs], [], []⟩) :=
  .of (exec_tempComparison sensor a b) fun h => (Moves.refl _ h).to (tempCompare_moves _ _ _ _)

theorem proofStart_acts : Acts .proofStart ⟨[.regs, .ret, .dbt, .recd, .bst], [], []⟩ :=
  .of (exec_proofStart) fun h => (Moves.refl _ h).to (proofDue_moves _)

theorem proofDetect_acts (ticks : Word) : Acts (.proofDetect ticks) (faultFoot.join ⟨[.regs], [], []⟩) :=
  .of (exec_proofDetect ticks) fun h => by
  split
  · exact .ite ((Moves.refl _ h).to (proofDetect_moves _ _ _)) (Moves.refl _ h)
  · exact (Moves.refl _ h)

theorem proofTimeout_acts : Acts .proofTimeout (faultFoot.join ⟨[.regs], [], []⟩) :=
  .of (exec_proofTimeout) fun h => by
  split
  · exact .ite (.bind (((((Moves.refl _ h).to (abandonProof_moves _)).to (freeNat_moves _ _)).to
      (showLast_moves _ _ _ _ _)).to (proofFail_moves _ _ _ _ _ _ _)) fun y2 => .ite (y2.to (rotationEnd_moves _)) y2)
      (Moves.refl _ h)
  · exact (Moves.refl _ h)

theorem recheckEnd_acts (present : Bool) : Acts (.recheckEnd present) (faultFoot.join ⟨[.regs, .sup, .clk, .ins, .ports,
    .life], [], []⟩) :=
  .of (exec_recheckEnd present) fun h => (Moves.refl _ h).trans (recheckEnd_moves _ _ _ (fun _ => (Moves.refl _ _).to
    (warnBegin_moves _)))

theorem proofOverdue_acts (mech : Fin 16) (inst : Fin 16) : Acts (.proofOverdue mech inst) (faultFoot.join ⟨[.regs], [],
    []⟩) :=
  .of (exec_proofOverdue mech inst) fun h => .ite (((Moves.refl _ h).dbt _).to (proofFail_moves _ _ _ _ _ _ _))
    (Moves.refl _ h)

theorem reproof_acts : Acts .reproof ⟨[.dbt, .flt], [], []⟩ :=
  .of (exec_reproof) fun h => by
  refine .ite (Moves.refl _ h) ?_
  have y := (Moves.refl (⟨[.dbt, .flt], [], []⟩ : Foot) h).to (pauseFailed_moves _)
  dsimp only
  split
  · exact y.to (proveAgain_moves _ _)
  · exact y

theorem proofNow_acts (w : Fin 8) (v : Word) : Acts (.proofNow w v) ⟨[.dbt], [], []⟩ :=
  .of (exec_proofNow w v) fun h => .ite ((Moves.refl _ h).to (writeProofCtrl_moves _ _ _)) (Moves.refl _ h)

theorem proofPause_acts (w : Fin 8) (v : Word) : Acts (.proofPause w v) ⟨[.dbt], [], []⟩ :=
  .of (exec_proofPause w v) fun h => .ite ((Moves.refl _ h).to (writeProofCtrl_moves _ _ _)) (Moves.refl _ h)

theorem proofResume_acts (w : Fin 8) (v : Word) : Acts (.proofResume w v) ⟨[.dbt], [], []⟩ :=
  .of (exec_proofResume w v) fun h => .ite ((Moves.refl _ h).to (writeProofCtrl_moves _ _ _)) (Moves.refl _ h)

theorem pauseExpiry_acts : Acts .pauseExpiry ⟨[.dbt], [], []⟩ :=
  .of (exec_pauseExpiry) fun h => .ite ((Moves.refl _ h).dbt _) (Moves.refl _ h)

theorem faultOccurrence_acts (n : Fin 62) (res : Fin 17) (ward : Fin 8) (detail : Word) : Acts
    (.faultOccurrence n res ward detail) (faultFoot.join ⟨[.regs], [], []⟩) :=
  .of (exec_faultOccurrence n res ward detail) fun h => .ite ((Moves.refl _ h).to (faultAt_moves _ _ _ _ _)) (Moves.refl _ h)

theorem faultCauseEnd_acts (n : Fin 62) (res : Fin 17) : Acts (.faultCauseEnd n res) ⟨[.sup, .hinge, .flt], [], []⟩ :=
  .of (exec_faultCauseEnd n res) fun h => (Moves.refl _ h).to (causeEnds_moves _ _ _)

theorem faultClear_acts (w : Fin 8) (word : Fin 2) (v : Word) : Acts (.faultClear w word v) ⟨[.regs, .hinge, .flt], [],
    []⟩ :=
  .of (exec_faultClear w word v) fun h => .ite ((Moves.refl _ h).to (writeFltStatus_moves _ _ _ _)) (Moves.refl _ h)

theorem fltForce_acts (word : Fin 2) (v : Word) : Acts (.fltForce word v) (faultFoot.join ⟨[.regs], [], []⟩) :=
  .of (exec_fltForce word v) fun h => .ite ((Moves.refl _ h).to (writeFltForce_moves _ _ _ _)) (Moves.refl _ h)

theorem fltSelf_acts (field second : Bool) : Acts (.fltSelf field second) (faultFoot.join ⟨[.regs], [], []⟩) :=
  .of (exec_fltSelf field second) fun h => .ite (.ite ((Moves.refl _ h).to (fieldEvent_moves _ _ _ _)) (Moves.refl _ h))
    (.ite (Moves.refl _ h) ((Moves.ite ((Moves.refl _ h).putAny _ _ _ _) (Moves.refl _ h)).to (event_moves _ _ _ _)))

theorem wdgKick_acts (w : Fin 8) (k : Fin 9) (v : Word) : Acts (.wdgKick w k v) (faultFoot.join ⟨[.regs, .ins, .banks, .wdo],
    [], []⟩) :=
  .of (exec_wdgKick w k v) fun h => .ite ((Moves.refl _ h).to (writeKick_moves _ _ _)) (Moves.refl _ h)

theorem wardWatchdogExpiry_acts (w : Fin 8) : Acts (.wardWatchdogExpiry w) (faultFoot.join ⟨[.regs, .ins, .banks, .wdo], [],
    []⟩) :=
  .of (exec_wardWatchdogExpiry w) fun h => .ite ((Moves.refl _ h).to (wdExpire_moves _ _ _)) (Moves.refl _ h)

theorem dwdExpiry_acts : Acts .dwdExpiry (faultFoot.join ⟨[.regs, .ins, .banks, .wdo], [], []⟩) :=
  .of (exec_dwdExpiry) fun h => .ite ((Moves.refl _ h).to (wdExpire_moves _ _ _)) (Moves.refl _ h)

theorem wdoPulseEnd_acts : Acts .wdoPulseEnd ⟨[.regs, .wdo], [], []⟩ :=
  .of (exec_wdoPulseEnd) fun h => .ite (((Moves.refl _ h).putAny _ _ _ _).wdo _) (Moves.refl _ h)

theorem bstLogic_acts (w : Fin 8) (v : Word) : Acts (.bstLogic w v) ⟨[.regs, .dev, .sup, .ret, .hinge, .outs, .ins, .dbt,
    .tmbs, .sch, .recd, .ints, .pins, .eng, .mem, .lsy, .wds, .bst, .blk, .nvmOp, .nvmQ, .free], [], []⟩ :=
  .of (exec_bstLogic w v) fun h => (Moves.refl _ h).to (bstRow_moves _ _ _ _)

theorem bstField_acts (w : Fin 8) (v : Word) : Acts (.bstField w v) ⟨[.regs, .dev, .sup, .ret, .hinge, .outs, .ins, .dbt,
    .tmbs, .sch, .recd, .ints, .pins, .eng, .mem, .lsy, .wds, .bst, .blk, .nvmOp, .nvmQ, .free], [], []⟩ :=
  .of (exec_bstField w v) fun h => (Moves.refl _ h).to (bstRow_moves _ _ _ _)

theorem bstLogicThenField_acts (w : Fin 8) (v : Word) : Acts (.bstLogicThenField w v) ⟨[.regs, .dev, .sup, .ret, .hinge,
    .outs, .ins, .dbt, .tmbs, .sch, .recd, .ints, .pins, .eng, .mem, .lsy, .wds, .bst, .blk, .nvmOp, .nvmQ, .free], [],
    []⟩ :=
  .of (exec_bstLogicThenField w v) fun h => (Moves.refl _ h).to (bstRow_moves _ _ _ _)

theorem groupTestDone_acts (sig : Word) (selfOk : Bool) (badCopies : Fin 3) : Acts (.groupTestDone sig selfOk badCopies)
    (faultFoot.join ⟨[.regs], [], []⟩) :=
  .of (exec_groupTestDone sig selfOk badCopies) fun h => by
  split
  · exact (Moves.refl _ h)
  · exact .ite (Moves.refl _ h) (.bind ((Moves.refl _ h).to (takeSig_moves _ _ _ _)) fun y => .ite
      ((((((((y.putAny _ _ _ _).wrAny _ _ _ _).to (endTest_moves _ _)).to (bistRecord_moves _)).to (wdStartAll_moves _)).to
      (intEvent_moves _ _ _)).to (raise_moves _ _ _ _ _)).to (enterSafe_moves _ _)) ((y.wrAny _ _ _ _).bst _))

theorem logicLbistEnd_acts : Acts .logicLbistEnd (faultFoot.join ⟨[.regs, .sup, .ins], [], []⟩) :=
  .of (exec_logicLbistEnd) fun h => .ite (Moves.refl _ h) (.ite (.bind ((Moves.refl _ h).to (judgeLogic_moves _)) fun y =>
    .ite (y.to (fieldPart_moves _)) y) (.ite (Moves.refl _ h) ((((Moves.refl _ h).to (adoptStates_moves _)).to
    (testOver_moves _)).to (judgeLogic_moves _))))

theorem fieldLbistEnd_acts (sigs : List Word) (selfOk confirmed : Bool) : Acts (.fieldLbistEnd sigs selfOk confirmed)
    (faultFoot.join ⟨[.regs, .ins], [], []⟩) :=
  .of (exec_fieldLbistEnd sigs selfOk confirmed) fun h => .ite (Moves.refl _ h) (.ite ((Moves.refl _ h).to
    (abortTest_moves _)) (((((Moves.refl _ h).foldl fun _ _ _ => (Moves.refl _ _).to (takeSig_moves _ _ _ _)).to
    (fieldConfigure_moves _)).to (testOver_moves _)).to (judgeField_moves _)))

theorem testAbort_acts (n : Fin 62) (detail : Word) : Acts (.testAbort n detail) (faultFoot.join ⟨[.regs], [], []⟩) :=
  .of (exec_testAbort n detail) fun h => .ite (.ite ((Moves.refl _ h).to (event_moves _ _ _ _)) ((Moves.refl _ h).to
    (raise_moves _ _ _ _ _))) (Moves.refl _ h)

theorem bootLbist_acts (sigs : List Word) (selfOk : Bool) (time : BitVec 16) : Acts (.bootLbist sigs selfOk time) ⟨[.regs,
    .ret, .recd, .bst], [], []⟩ :=
  .of (exec_bootLbist sigs selfOk time) fun h => .ite (.bind (((((((Moves.refl _ h).foldl fun _ _ _ => (Moves.refl _ _).to
    (takeSig_moves _ _ _ _)).wrAny _ _ _ _).putAny _ _ _ _).wrAny _ _ _ _).wrAny _ _ _ _).countAny _ _ _ _) fun y3 =>
    (((Moves.ite y3 (y3.countAny _ _ _ _)).wrAny _ _ _ _).bst _).to (bistRecord_moves _)) (Moves.refl _ h)

theorem bootMemTest_acts (bad : List (Fin 48 × Fin 4096)) : Acts (.bootMemTest bad) ⟨[.regs, .mem, .bad, .bst], [], []⟩ :=
  .of (exec_bootMemTest bad) fun h => .ite (((((((Moves.refl _ h).putAny _ _ _ _).wrAny _ _ _ _).wrAny _ _ _ _).wrAny _ _ _
    _).to (clearMem_moves _ _ _)).bst _) (Moves.refl _ h)

theorem bstXctrlWrite_acts (w : Fin 8) (v : Word) : Acts (.bstXctrlWrite w v) ⟨[.regs], [], []⟩ :=
  .of (exec_bstXctrlWrite w v) fun h => .ite ((Moves.refl _ h).to (writeBstXctrl_moves _ _)) (Moves.refl _ h)

theorem recordIntake_acts (typ source : Byte) (sev : Fin 5) (ward : Byte) (payload : List Word) : Acts
    (.recordIntake typ source sev ward payload) ⟨[.regs, .ret, .recd, .bst], [], []⟩ :=
  .of (exec_recordIntake typ source sev ward payload) fun h => .ite (Moves.refl _ h) ((Moves.refl _ h).to (intake_moves _ _))

theorem recordWriteStart_acts : Acts .recordWriteStart ⟨[.recd], [], []⟩ :=
  .of (exec_recordWriteStart) fun h => by
  split
  · exact (Moves.refl _ h)
  · exact .ite ((Moves.refl _ h).recd _) (Moves.refl _ h)

theorem ringWrite_acts : Acts .ringWrite (faultFoot.join ⟨[.regs, .bad], [], []⟩) :=
  .of (exec_ringWrite) fun h => by
  split
  · exact Moves.refl _ h
  · have y := (Moves.refl (faultFoot.join ⟨[.regs, .bad], [], []⟩) h).recd { h.recd with writing := none }
    dsimp only
    split
    · exact y.to (dropEvent_moves _ _)
    · refine Moves.to (Moves.foldl ?_ fun k _ _ => (Moves.refl _ k).to (setMemWord_moves _ _ _)) (recWritten_moves _ _ _)
      split
      · exact (y.to (setMemWord_moves _ _ _)).to (evicted_moves _ _)
      · exact y

theorem gapRecord_acts : Acts .gapRecord (faultFoot.join ⟨[.regs], [], []⟩) :=
  .of (exec_gapRecord) fun h => by
  refine .ite ?_ (Moves.refl _ h)
  refine Moves.to (Moves.to (Moves.recd ?_ _) (numberEvent_moves _ _)) (occur_moves _ _ _ _ _ _)
  split
  · exact .sndOf (Moves.refl _ h)
  · exact (Moves.refl _ h).to (freeNat_moves _ _)

theorem pageSubmit_acts : Acts .pageSubmit ⟨[.regs, .sch, .recd], [], []⟩ :=
  .of (exec_pageSubmit) fun h => .ite ((Moves.refl _ h).to (submitPage_moves _)) (Moves.refl _ h)

theorem pageProgramDone_acts (res : Fin 3) (mirrorOk : Bool) : Acts (.pageProgramDone res mirrorOk) (faultFoot.join ⟨[.regs,
    .blk, .nvm, .nvmOp, .nvmQ], [], []⟩) :=
  .of (exec_pageProgramDone res mirrorOk) fun h => by
  split
  · exact (Moves.refl _ h)
  · exact .ite (.bind ((((((Moves.refl _ h).to (nvmDone_moves _ _ _)).to (costEnd_moves _ _ _)).to
      (nvmFaults_moves _ _ _)).countAny _ _ _ _).recd _) fun y2 => (Moves.ite (y2.to (nextPage_moves _)) (.ite (y2.to
      (pageGood_moves _ _)) (y2.to (pageBad_moves _)))).to (stage_moves _)) (Moves.refl _ h)

theorem sectorReclaim_acts : Acts .sectorReclaim ⟨[.regs, .sch, .recd], [], []⟩ :=
  .of (exec_sectorReclaim) fun h => .ite (Moves.refl _ h) (.ite ((Moves.refl _ h).to (sealJournal_moves _)) (.ite
    (((Moves.refl _ h).recd _).to (submitErase_moves _)) (.ite (((Moves.refl _ h).recd _).to (submitErase_moves _))
    (((Moves.refl _ h).recd _).to (submitPage_moves _)))))

theorem journalEraseDone_acts (res : Fin 3) (mirrorOk : Bool) : Acts (.journalEraseDone res mirrorOk)
    (faultFoot.join ⟨[.regs, .blk, .nvm, .nvmOp, .nvmQ], [], []⟩) :=
  .of (exec_journalEraseDone res mirrorOk) fun h => by
  split
  · exact (Moves.refl _ h)
  · exact .ite (.bind ((((Moves.refl _ h).to (nvmDone_moves _ _ _)).to (costEnd_moves _ _ _)).to
      (nvmFaults_moves _ _ _)) fun y => .ite (.ite ((y.recd _).to (clearNext_moves _)) (y.to (submitErase_moves _))) (.ite
      (y.to (submitErase_moves _)) (.ite (.bind ((y.recd _).to (enterSector_moves _)) fun y1 => (Moves.ite y1 (.ite (y1.to
      (submitPage_moves _)) y1)).to (stage_moves _)) (.ite (.bind ((y.putAny _ _ _ _).to (enterSector_moves _)) fun y2 =>
      (Moves.ite y2 (.ite (y2.to (submitPage_moves _)) y2)).to (stage_moves _)) ((y.recd _).to (stage_moves _))))))
      (Moves.refl _ h)

theorem journalScan_acts (ok : Bool) : Acts (.journalScan ok) (faultFoot.join ⟨[.regs], [], []⟩) :=
  .of (exec_journalScan ok) fun h => .ite ((Moves.refl _ h).to (scanDone_moves _ _)) (Moves.refl _ h)

theorem recRdSqbHiRead_acts (w : Fin 8) : Acts (.recRdSqbHiRead w) ⟨[.regs], [], []⟩ :=
  .of (exec_recRdSqbHiRead w) fun h => .ite ((Moves.refl _ h).to (readSqbHi_moves _ _)) (Moves.refl _ h)

theorem newestSeqRead_acts (w : Fin 8) : Acts (.newestSeqRead w) ⟨[.regs], [], []⟩ :=
  .of (exec_newestSeqRead w) fun h => .ite ((Moves.refl _ h).to (readNewest_moves _ _)) (Moves.refl _ h)

theorem journalPageRead_acts (w : Fin 8) (v : Word) : Acts (.journalPageRead w v) ⟨[.regs, .recd], [], []⟩ :=
  .of (exec_journalPageRead w v) fun h => .ite ((Moves.refl _ h).to (writeJrdCtrl_moves _ _)) (Moves.refl _ h)

theorem journalReadDone_acts (ok : Bool) : Acts (.journalReadDone ok) (faultFoot.join ⟨[.regs], [], []⟩) :=
  .of (exec_journalReadDone ok) fun h => by
  split
  · exact (Moves.refl _ h)
  · exact .bind (((((Moves.refl _ h).recd _).putAny _ _ _ _).putAny _ _ _ _).wrAny _ _ _ _) fun y1 => .ite
      (y1.foldl fun _ _ _ => (Moves.refl _ _).wrAny _ _ _ _) (y1.to (event_moves _ _ _ _))

theorem nonceRead_acts (w : Fin 8) : Acts (.nonceRead w) ⟨[.regs, .recd, .free], [], []⟩ :=
  .of (exec_nonceRead w) fun h => .ite ((Moves.refl _ h).to (readNonce_moves _)) (Moves.refl _ h)

theorem nonceExpiry_acts : Acts .nonceExpiry ⟨[.recd], [], []⟩ :=
  .of (exec_nonceExpiry) fun h => .ite ((Moves.refl _ h).recd _) (Moves.refl _ h)

theorem tokenCheck_acts (w : Fin 8) (v : Word) : Acts (.tokenCheck w v) (faultFoot.join ⟨[.regs], [], []⟩) :=
  .of (exec_tokenCheck w v) fun h => .ite ((Moves.refl _ h).to (writeToken_moves _ _ _)) (Moves.refl _ h)

theorem clear_acts : Acts .clear (faultFoot.join ⟨[.regs, .bad, .nvmQ], [], []⟩) :=
  .of (exec_clear) fun h => by
  split
  · exact (Moves.refl _ h)
  · exact .ite (Moves.refl _ h) (.bind (((((((Moves.refl _ h).foldl fun _ _ _ => (Moves.refl _ _).to
      (setMemWord_moves _ _ _)).countModAny _ _ _ _).to (showRing_moves _)).to (dropCand_moves _ _)).recd_nvmQ _ _).to
      (note_moves _ _ _ _ _ _ _)) fun y5 => .ite (.ite y5 (y5.to (submitErase_moves _))) y5)

theorem keyProgram_acts (w : Fin 8) (v : Word) : Acts (.keyProgram w v) ⟨[.regs, .recd], [], []⟩ :=
  .of (exec_keyProgram w v) fun h => .ite ((Moves.refl _ h).to (writeKeyCtrl_moves _ _)) (Moves.refl _ h)

theorem keyProgramDone_acts (good : Bool) : Acts (.keyProgramDone good) ⟨[.chip, .recd], [], []⟩ :=
  .of (exec_keyProgramDone good) fun h => by
  split
  · exact (Moves.refl _ h)
  · exact (Moves.refl _ h).chip_recd _ _

theorem pendingRecord_acts (k : Fin 4) (w3 w4 w5 : Word) : Acts (.pendingRecord k w3 w4 w5) ⟨[.ret], [], []⟩ :=
  .of (exec_pendingRecord k w3 w4 w5) fun h => by
  split
  · exact (Moves.refl _ h).to (pendingRec_moves _ _ _ _ _ _)
  · exact (Moves.refl _ h).to (pendingRec_moves _ _ _ _ _ _)
  · exact (Moves.refl _ h).to (pendingRec_moves _ _ _ _ _ _)
  · exact (Moves.refl _ h).to (pendingRec_moves _ _ _ _ _ _)

theorem recRtWrite_acts (w : Fin 8) (v : Word) : Acts (.recRtWrite w v) ⟨[.regs], [], []⟩ :=
  .of (exec_recRtWrite w v) fun h => .ite ((Moves.refl _ h).to (writeRecRt_moves _ _ _)) (Moves.refl _ h)

theorem powerOnSecond_acts (barrierMs : Fin 1001) : Acts (.powerOnSecond barrierMs) (faultFoot.join ⟨[.regs, .life], [],
    []⟩) :=
  .of (exec_powerOnSecond barrierMs) fun h => .ite (Moves.refl _ h) (.bind (((Moves.refl _ h).to
    (secondCounts_moves _ _)).to (ageInstances_moves _ _)) fun y => .ite y ((Moves.ite (y.to (monthEnd_moves _)) y).to
    (judgeWear_moves _)))

theorem fieldSnapshot_acts : Acts .fieldSnapshot ⟨[.hinge, .life], [], []⟩ :=
  .of (exec_fieldSnapshot) fun h => .ite (((Moves.refl _ h).life _).to (request_moves _ _ _ _)) (Moves.refl _ h)

theorem mirrorStart_acts : Acts .mirrorStart ⟨[.regs, .sch, .life], [], []⟩ :=
  .of (exec_mirrorStart) fun h => .ite (Moves.refl _ h) (.ite ((Moves.refl _ h).to (mirrorStart_moves _ _)) (.ite
    ((Moves.refl _ h).to (mirrorStart_moves _ _)) (.ite ((Moves.refl _ h).to (mirrorStart_moves _ _)) (Moves.refl _ h))))

theorem mirror_acts (w : Fin 8) (v : Word) : Acts (.mirror w v) ⟨[.regs, .sch, .life], [], []⟩ :=
  .of (exec_mirror w v) fun h => .ite ((Moves.refl _ h).to (writeLifeCtrl_moves _ _)) (Moves.refl _ h)

theorem mirrorDone_acts (res : Fin 3) (mirrorOk : Bool) : Acts (.mirrorDone res mirrorOk) (faultFoot.join ⟨[.regs, .life,
    .blk, .nvm, .nvmOp, .nvmQ], [], []⟩) :=
  .of (exec_mirrorDone res mirrorOk) fun h => by
  split
  · exact (Moves.refl _ h)
  · exact .ite (((((Moves.refl _ h).to (nvmDone_moves _ _ _)).to (costEnd_moves _ _ _)).to (nvmFaults_moves _ _ _)).to
      (lifeDone_moves _ _ _)) (Moves.refl _ h)

theorem rebase_acts : Acts .rebase ⟨[.hinge], [], []⟩ :=
  .of (exec_rebase) fun h => by
  split
  · exact (Moves.refl _ h)
  · exact .ite (Moves.refl _ h) ((Moves.refl _ h).to (request_moves _ _ _ _))

theorem ledgerRestore_acts : Acts .ledgerRestore (faultFoot.join ⟨[.regs, .life], [], []⟩) :=
  .of (exec_ledgerRestore) fun h => .ite (((Moves.refl _ h).to (ledgerRestore_moves _)).to (judgeWear_moves _))
    (Moves.refl _ h)

theorem lifeWindowRead_acts (w : Fin 8) : Acts (.lifeWindowRead w) ⟨[.regs], [], []⟩ :=
  .of (exec_lifeWindowRead w) fun h => .ite ((Moves.refl _ h).to (readLifeWindow_moves _ _)) (Moves.refl _ h)

theorem vddValid_acts (vdd : BitVec 16) : Acts (.vddValid vdd) (faultFoot.join ⟨[.regs, .sup, .life], [], []⟩) :=
  .of (exec_vddValid vdd) fun h => .ite (Moves.refl _ h) (((Moves.refl _ h).sup _).to (trigger_moves _))

theorem holdUpEndVoltage_acts : Acts .holdUpEndVoltage (faultFoot.join ⟨[.regs, .armed, .kept, .sup, .fol, .clk, .ins, .aux,
    .ports, .banks, .bad, .dpLow, .dpHigh, .lsy, .wdo, .life, .blk, .nvm, .nvmOp, .nvmQ, .fieldReset, .fieldSince, .mark],
    [], []⟩) :=
  .of (exec_holdUpEndVoltage) fun h => by
  split
  · exact (Moves.refl _ h)
  · exact (((((Moves.refl _ h).to (abandonNvm_moves _ _)).sup _).to (pdSkip_moves _ _)).to (modPd_moves _ _)).to
      (pdFinish_moves _)

theorem retentionFloor_acts : Acts .retentionFloor ⟨[.regs, .ret, .fol, .wdo], [], []⟩ :=
  .of (exec_retentionFloor) fun h => .ite ((Moves.refl _ h).to (aonLost_moves _)) (Moves.refl _ h)

theorem testPinChange_acts (field level : Bool) : Acts (.testPinChange field level) (faultFoot.join ⟨[.regs], [], []⟩) :=
  .of (exec_testPinChange field level) fun h => by
  extract_lets s1 k1 past held res
  have y1 : Moves (faultFoot.join ⟨[.regs], [], []⟩) h k1 := (Moves.refl _ h).dev _ (by cases field <;> exact id)
  exact .ite y1 (.ite (y1.to (lower_moves _ _ _)) (y1.to (raise_moves _ _ _ _ _)))

theorem nvmCutoff_acts (shifting : Bool) : Acts (.nvmCutoff shifting) ⟨[.ret, .nvm, .nvmOp, .free], [], []⟩ :=
  .of (exec_nvmCutoff shifting) fun h => .ite (.bind ((Moves.refl _ h).to (abandonNvm_moves _ _)) fun y => .ite (y.to
    (markThermal_moves _ _)) y) (Moves.refl _ h)

theorem laneNotInService_acts (lane : Fin 4) : Acts (.laneNotInService lane) (faultFoot.join ⟨[.regs, .sup, .clk, .ins,
    .ports, .life], [], []⟩) :=
  .of (exec_laneNotInService lane) fun h => .ite ((Moves.refl _ h).to (laneDown_moves _ _)) (Moves.refl _ h)

theorem limitEnd_acts (c : Fin 16) : Acts (.limitEnd c) ⟨[.hinge, .outs, .flt], [], []⟩ :=
  .of (exec_limitEnd c) fun h => .ite (((Moves.refl _ h).to (modOut_moves _ _ _)).to (outFall_moves _ _ _)) (Moves.refl _ h)

theorem restartThreshold_acts (c : Fin 16) : Acts (.restartThreshold c) ⟨[.regs, .hinge, .outs, .sch, .flt, .life], [],
    []⟩ :=
  .of (exec_restartThreshold c) fun h => .ite ((((Moves.refl _ h).to (modOut_moves _ _ _)).to
    (reSwitch_moves _ _ _ c.isLt)).to (tryReturn_moves _ _)) (Moves.refl _ h)

theorem boltRelSend_acts : Acts .boltRelSend ⟨[.dev, .hinge], [], []⟩ :=
  .of (exec_boltRelSend) fun h => .ite (Moves.refl _ h) (.ite (((Moves.refl _ h).dev_hinge _ _).to (sendBoltRel_moves _))
    (.ite (((Moves.refl _ h).hinge _).to (sendBoltRel_moves _)) (Moves.refl _ h)))

theorem Acts.mono {c : Instr} {F G : Foot} (hc : Acts c F) (hF : F.within G = true) : Acts c G := fun s =>
  let ⟨f, hx, hf⟩ := hc s
  ⟨f, hx, fun h => (hf h).mono hF⟩

theorem onLsy_acts {F : Foot} (s : State) {f : Hub → Hub} (hf : ∀ h, Moves F h (f h)) :
    ∃ g : Hub → Hub, s.onLsy f = s.on g ∧ ∀ h, Moves F h (g h) := ⟨_, rfl, fun h => .ite (hf h) (Moves.refl _ h)⟩

/-- What a frame of the chain can reach, whatever its command. -/
def lsyFoot : Foot := faultFoot.join ⟨[.regs, .lsy], [], []⟩

theorem ite_acts {F : Foot} {s : State} {q : Prop} [Decidable q] {a b : Host.Outcome State Fault Refusal}
    (ha : ∃ f : Hub → Hub, a = s.on f ∧ ∀ h, Moves F h (f h)) (hb : ∃ f : Hub → Hub, b = s.on f ∧ ∀ h, Moves F h (f h)) :
    ∃ f : Hub → Hub, (if q then a else b) = s.on f ∧ ∀ h, Moves F h (f h) := by
  split
  · exact ha
  · exact hb

theorem lsyFrameReceive_acts (up : Bool) (start line : List Bool) : Acts (.lsyFrameReceive up start line) lsyFoot := by
  intro s
  have hbad := onLsy_acts (F := lsyFoot) s (f := fun h => h.count LSY_COUNTS_crc_errors) fun h => (Moves.refl _ h).countAny _ _ _ _
  have harm {c : Instr} {G : Foot} (hc : Acts c G) (hG : G.within lsyFoot = true) := hc.mono hG s
  change ∃ f : Hub → Hub, lsyFrame up start line s = s.on f ∧ ∀ h, Moves lsyFoot h (f h)
  unfold lsyFrame
  dsimp only
  split
  · exact hbad
  · exact ite_acts hbad <| ite_acts (harm (hb_acts up _) (by decide +kernel)) <|
      ite_acts (harm (user_acts up _) (by decide +kernel)) <| ite_acts
      (ite_acts (harm (timeLo_acts _) (by decide +kernel)) <| ite_acts (harm (timeHi_acts _) (by decide +kernel)) <|
        ite_acts (harm (enumMsg_acts _) (by decide +kernel)) <| ite_acts (harm (calStart_acts _) (by decide +kernel)) <|
        ite_acts (harm (calDelay_acts _) (by decide +kernel)) <| ite_acts (harm (mark_acts _) (by decide +kernel)) <|
        ite_acts (harm (pairClose_acts _) (by decide +kernel)) hbad)
      (ite_acts (harm (present_acts 0) (by decide +kernel)) <| ite_acts (harm (breakMsg_acts _) (by decide +kernel)) <|
        ite_acts (harm (recalReq_acts _) (by decide +kernel)) hbad)

end Sys2Proof.Machine

/-!
PROOF. A command's footprint against the lists of the frame obligations.
-/

namespace Sys2Proof.Machine

/-- The part of the hub that a quiet part is. -/
def QuietPart.hub : QuietPart → HubPart
  | .chip => .chip | .armed => .armed | .kept => .kept | .sup => .sup | .clk => .clk | .ins => .ins | .aux => .aux
  | .ports => .ports | .banks => .banks | .dpLow => .dpLow | .dpHigh => .dpHigh | .lsy => .lsy | .wdo => .wdo | .life => .life
  | .blk => .blk | .nvm => .nvm | .nvmOp => .nvmOp | .nvmQ => .nvmQ | .fieldReset => .fieldReset

/-- The part of the hub that a busy part is. -/
def BusyPart.hub : BusyPart → HubPart
  | .dev => .dev | .ret => .ret | .hinge => .hinge | .outs => .outs | .dbt => .dbt | .tmbs => .tmbs | .sch => .sch
  | .recd => .recd | .flt => .flt | .ints => .ints | .pins => .pins | .eng => .eng | .wds => .wds | .bst => .bst

def QuietPart.all : List QuietPart :=
  [.chip, .armed, .kept, .sup, .clk, .ins, .aux, .ports, .banks, .dpLow, .dpHigh, .lsy, .wdo, .life, .blk, .nvm, .nvmOp, .nvmQ,
    .fieldReset]

def BusyPart.all : List BusyPart := [.dev, .ret, .hinge, .outs, .dbt, .tmbs, .sch, .recd, .flt, .ints, .pins, .eng, .wds, .bst]

/-- The footprint holds only quiet parts that the command is listed to change. -/
def Foot.quietFits (F : Foot) (c : Instr) : Bool :=
  restarts c || QuietPart.all.all (fun p => p.movedBy c || !F.parts.contains p.hub)

/-- The footprint holds only busy parts that the command is listed to change. -/
def Foot.busyFits (F : Foot) (c : Instr) : Bool :=
  restarts c || mayFault c || BusyPart.all.all (fun p => p.movedBy c || !F.parts.contains p.hub)

/-- The footprint holds nothing that steps keep. -/
def Foot.steady (F : Foot) : Bool := !F.parts.contains .canon && !F.parts.contains .keeper

/-- Every command has a footprint that fits both lists and holds nothing that steps keep. -/
theorem acts_fits : ∀ c : Instr, ∃ F : Foot, Acts c F ∧ F.quietFits c = true ∧ F.busyFits c = true ∧ F.steady = true
  | .powerOnReset _ _ => ⟨_, powerOnReset_acts _ _, rfl, rfl, rfl⟩
  | .vholdCharged _ => ⟨_, vholdCharged_acts _, rfl, rfl, rfl⟩
  | .vholdCapMeasure _ => ⟨_, vholdCapMeasure_acts _, rfl, rfl, rfl⟩
  | .vholdLow _ => ⟨_, vholdLow_acts _, rfl, rfl, rfl⟩
  | .vddWarningBegin _ => ⟨_, vddWarningBegin_acts _, rfl, rfl, rfl⟩
  | .vminSample _ => ⟨_, vminSample_acts _, rfl, rfl, rfl⟩
  | .vddWarningEnd _ => ⟨_, vddWarningEnd_acts _, rfl, rfl, rfl⟩
  | .orderlyPowerDown _ => ⟨_, orderlyPowerDown_acts _, rfl, rfl, rfl⟩
  | .powerDownStep _ => ⟨_, powerDownStep_acts _, rfl, rfl, rfl⟩
  | .vddFailed _ => ⟨_, vddFailed_acts _, rfl, rfl, rfl⟩
  | .vfLostPd => ⟨_, vfLostPd_acts, rfl, rfl, rfl⟩
  | .fieldPowerOnReset => ⟨_, fieldPowerOnReset_acts, rfl, rfl, rfl⟩
  | .fieldResetRelease => ⟨_, fieldResetRelease_acts, rfl, rfl, rfl⟩
  | .vfValid => ⟨_, vfValid_acts, rfl, rfl, rfl⟩
  | .vfUnderVoltage => ⟨_, vfUnderVoltage_acts, rfl, rfl, rfl⟩
  | .vfOverVoltage => ⟨_, vfOverVoltage_acts, rfl, rfl, rfl⟩
  | .vregFail _ => ⟨_, vregFail_acts _, rfl, rfl, rfl⟩
  | .domainWakeRequest _ => ⟨_, domainWakeRequest_acts _, rfl, rfl, rfl⟩
  | .domainWakeDone _ _ => ⟨_, domainWakeDone_acts _ _, rfl, rfl, rfl⟩
  | .bankClearDone _ => ⟨_, bankClearDone_acts _, rfl, rfl, rfl⟩
  | .pllLock => ⟨_, pllLock_acts, rfl, rfl, rfl⟩
  | .pllLockTimeout => ⟨_, pllLockTimeout_acts, rfl, rfl, rfl⟩
  | .refclkLost => ⟨_, refclkLost_acts, rfl, rfl, rfl⟩
  | .refclkReturn => ⟨_, refclkReturn_acts, rfl, rfl, rfl⟩
  | .returnRef _ _ => ⟨_, returnRef_acts _ _, rfl, rfl, rfl⟩
  | .mclkWindowEnd _ _ => ⟨_, mclkWindowEnd_acts _ _, rfl, rfl, rfl⟩
  | .clockHaltExit => ⟨_, clockHaltExit_acts, rfl, rfl, rfl⟩
  | .fclkWindowEnd _ => ⟨_, fclkWindowEnd_acts _, rfl, rfl, rfl⟩
  | .timebaseWrap => ⟨_, timebaseWrap_acts, rfl, rfl, rfl⟩
  | .clkTbLoRead _ => ⟨_, clkTbLoRead_acts _, rfl, rfl, rfl⟩
  | .timeS _ _ _ => ⟨_, timeS_acts _ _ _, rfl, rfl, rfl⟩
  | .timeL _ _ => ⟨_, timeL_acts _ _, rfl, rfl, rfl⟩
  | .followerTimeout => ⟨_, followerTimeout_acts, rfl, rfl, rfl⟩
  | .hingeFrameReceive _ _ _ _ _ _ => ⟨_, hingeFrameReceive_acts _ _ _ _ _ _, rfl, rfl, rfl⟩
  | .idleFrame _ => ⟨_, idleFrame_acts _, rfl, rfl, rfl⟩
  | .laneTraining _ _ => ⟨_, laneTraining_acts _ _, rfl, rfl, rfl⟩
  | .laneDown _ => ⟨_, laneDown_acts _, rfl, rfl, rfl⟩
  | .laneRetry => ⟨_, laneRetry_acts, rfl, rfl, rfl⟩
  | .retrain _ _ => ⟨_, retrain_acts _ _, rfl, rfl, rfl⟩
  | .hingeLost _ => ⟨_, hingeLost_acts _, rfl, rfl, rfl⟩
  | .rejoin => ⟨_, rejoin_acts, rfl, rfl, rfl⟩
  | .fieldStart => ⟨_, fieldStart_acts, rfl, rfl, rfl⟩
  | .outCmd _ _ _ => ⟨_, outCmd_acts _ _ _, rfl, rfl, rfl⟩
  | .outCmdRepeat => ⟨_, outCmdRepeat_acts, rfl, rfl, rfl⟩
  | .outStat _ _ _ => ⟨_, outStat_acts _ _ _, rfl, rfl, rfl⟩
  | .fsum _ => ⟨_, fsum_acts _, rfl, rfl, rfl⟩
  | .fault _ _ _ _ => ⟨_, fault_acts _ _ _ _, rfl, rfl, rfl⟩
  | .req _ => ⟨_, req_acts _, rfl, rfl, rfl⟩
  | .rsp _ => ⟨_, rsp_acts _, rfl, rfl, rfl⟩
  | .reqRetry _ => ⟨_, reqRetry_acts _, rfl, rfl, rfl⟩
  | .boltRel => ⟨_, boltRel_acts, rfl, rfl, rfl⟩
  | .boltRelExpire => ⟨_, boltRelExpire_acts, rfl, rfl, rfl⟩
  | .boltRelRepeat => ⟨_, boltRelRepeat_acts, rfl, rfl, rfl⟩
  | .vec _ _ _ => ⟨_, vec_acts _ _ _, rfl, rfl, rfl⟩
  | .vecRepeat _ _ => ⟨_, vecRepeat_acts _ _, rfl, rfl, rfl⟩
  | .marginMeasure _ _ => ⟨_, marginMeasure_acts _ _, rfl, rfl, rfl⟩
  | .boltDecision _ => ⟨_, boltDecision_acts _, rfl, rfl, rfl⟩
  | .boltCode _ => ⟨_, boltCode_acts _, rfl, rfl, rfl⟩
  | .boltLatchClear => ⟨_, boltLatchClear_acts, rfl, rfl, rfl⟩
  | .boltToneChange => ⟨_, boltToneChange_acts, rfl, rfl, rfl⟩
  | .fieldToneDecision _ => ⟨_, fieldToneDecision_acts _, rfl, rfl, rfl⟩
  | .fholdExpiry _ => ⟨_, fholdExpiry_acts _, rfl, rfl, rfl⟩
  | .fieldConfigCrc _ => ⟨_, fieldConfigCrc_acts _, rfl, rfl, rfl⟩
  | .boot _ _ _ _ => ⟨_, boot_acts _ _ _ _, rfl, rfl, rfl⟩
  | .arming => ⟨_, arming_acts, rfl, rfl, rfl⟩
  | .startupTests _ _ _ => ⟨_, startupTests_acts _ _ _, rfl, rfl, rfl⟩
  | .enterRun => ⟨_, enterRun_acts, rfl, rfl, rfl⟩
  | .rcvErase _ _ => ⟨_, rcvErase_acts _ _, rfl, rfl, rfl⟩
  | .rcvProgram _ _ => ⟨_, rcvProgram_acts _ _, rfl, rfl, rfl⟩
  | .rcvRead _ _ => ⟨_, rcvRead_acts _ _, rfl, rfl, rfl⟩
  | .rcvReboot _ _ => ⟨_, rcvReboot_acts _ _, rfl, rfl, rfl⟩
  | .rcvCommandDone _ => ⟨_, rcvCommandDone_acts _, rfl, rfl, rfl⟩
  | .blkCheck _ _ => ⟨_, blkCheck_acts _ _, rfl, rfl, rfl⟩
  | .blkCheckDone _ => ⟨_, blkCheckDone_acts _, rfl, rfl, rfl⟩
  | .blkReboot _ _ => ⟨_, blkReboot_acts _ _, rfl, rfl, rfl⟩
  | .blkFuse _ _ => ⟨_, blkFuse_acts _ _, rfl, rfl, rfl⟩
  | .fuseDone _ => ⟨_, fuseDone_acts _, rfl, rfl, rfl⟩
  | .shadowCheck _ _ _ _ => ⟨_, shadowCheck_acts _ _ _ _, rfl, rfl, rfl⟩
  | .thermalHalt _ _ => ⟨_, thermalHalt_acts _ _, rfl, rfl, rfl⟩
  | .fieldGlobalShutdown _ _ => ⟨_, fieldGlobalShutdown_acts _ _, rfl, rfl, rfl⟩
  | .thermalHaltExit _ _ => ⟨_, thermalHaltExit_acts _ _, rfl, rfl, rfl⟩
  | .dbtSafeExit _ _ => ⟨_, dbtSafeExit_acts _ _, rfl, rfl, rfl⟩
  | .safeLeave => ⟨_, safeLeave_acts, rfl, rfl, rfl⟩
  | .outCtrlWrite _ _ _ => ⟨_, outCtrlWrite_acts _ _ _, rfl, rfl, rfl⟩
  | .rearm _ _ _ => ⟨_, rearm_acts _ _ _, rfl, rfl, rfl⟩
  | .thermalShutdown _ => ⟨_, thermalShutdown_acts _, rfl, rfl, rfl⟩
  | .retryExpiry _ => ⟨_, retryExpiry_acts _, rfl, rfl, rfl⟩
  | .limitBegin _ _ => ⟨_, limitBegin_acts _ _, rfl, rfl, rfl⟩
  | .limitEpisode _ => ⟨_, limitEpisode_acts _, rfl, rfl, rfl⟩
  | .uvOff _ => ⟨_, uvOff_acts _, rfl, rfl, rfl⟩
  | .uvRestart _ => ⟨_, uvRestart_acts _, rfl, rfl, rfl⟩
  | .offStateCheck _ => ⟨_, offStateCheck_acts _, rfl, rfl, rfl⟩
  | .offStateCheckEnd _ _ => ⟨_, offStateCheckEnd_acts _ _, rfl, rfl, rfl⟩
  | .litCheck _ => ⟨_, litCheck_acts _, rfl, rfl, rfl⟩
  | .litCheckEnd _ _ => ⟨_, litCheckEnd_acts _ _, rfl, rfl, rfl⟩
  | .readback _ _ _ _ => ⟨_, readback_acts _ _ _ _, rfl, rfl, rfl⟩
  | .darkPulse _ => ⟨_, darkPulse_acts _, rfl, rfl, rfl⟩
  | .pulseEnd _ _ _ => ⟨_, pulseEnd_acts _ _ _, rfl, rfl, rfl⟩
  | .tpMiss _ => ⟨_, tpMiss_acts _, rfl, rfl, rfl⟩
  | .pwmEdgeCheck _ _ => ⟨_, pwmEdgeCheck_acts _ _, rfl, rfl, rfl⟩
  | .pairMismatch _ => ⟨_, pairMismatch_acts _, rfl, rfl, rfl⟩
  | .outRtWrite _ _ _ => ⟨_, outRtWrite_acts _ _ _, rfl, rfl, rfl⟩
  | .outFltClear _ _ _ => ⟨_, outFltClear_acts _ _ _, rfl, rfl, rfl⟩
  | .inputCrossing _ _ => ⟨_, inputCrossing_acts _ _, rfl, rfl, rfl⟩
  | .debounceAccept _ => ⟨_, debounceAccept_acts _, rfl, rfl, rfl⟩
  | .inTsLoRead _ _ => ⟨_, inTsLoRead_acts _ _, rfl, rfl, rfl⟩
  | .inputMeasure _ _ _ => ⟨_, inputMeasure_acts _ _ _, rfl, rfl, rfl⟩
  | .wireBreak _ => ⟨_, wireBreak_acts _, rfl, rfl, rfl⟩
  | .tpWindowEnd _ => ⟨_, tpWindowEnd_acts _, rfl, rfl, rfl⟩
  | .tpLate _ => ⟨_, tpLate_acts _, rfl, rfl, rfl⟩
  | .foreignWindowEnd _ => ⟨_, foreignWindowEnd_acts _, rfl, rfl, rfl⟩
  | .inFltClear _ _ _ => ⟨_, inFltClear_acts _ _ _, rfl, rfl, rfl⟩
  | .issuePoint _ => ⟨_, issuePoint_acts _, rfl, rfl, rfl⟩
  | .stop _ => ⟨_, stop_acts _, rfl, rfl, rfl⟩
  | .vecInstruction _ => ⟨_, vecInstruction_acts _, rfl, rfl, rfl⟩
  | .loop _ => ⟨_, loop_acts _, rfl, rfl, rfl⟩
  | .endl _ => ⟨_, endl_acts _, rfl, rfl, rfl⟩
  | .jmp _ => ⟨_, jmp_acts _, rfl, rfl, rfl⟩
  | .brc _ => ⟨_, brc_acts _, rfl, rfl, rfl⟩
  | .wait _ => ⟨_, wait_acts _, rfl, rfl, rfl⟩
  | .waitTimeout _ => ⟨_, waitTimeout_acts _, rfl, rfl, rfl⟩
  | .call _ => ⟨_, call_acts _, rfl, rfl, rfl⟩
  | .ret _ => ⟨_, ret_acts _, rfl, rfl, rfl⟩
  | .tset _ => ⟨_, tset_acts _, rfl, rfl, rfl⟩
  | .march _ => ⟨_, march_acts _, rfl, rfl, rfl⟩
  | .sig _ => ⟨_, sig_acts _, rfl, rfl, rfl⟩
  | .cycleStart _ => ⟨_, cycleStart_acts _, rfl, rfl, rfl⟩
  | .tmbStart _ _ _ => ⟨_, tmbStart_acts _ _ _, rfl, rfl, rfl⟩
  | .tmbStop _ _ _ => ⟨_, tmbStop_acts _ _ _, rfl, rfl, rfl⟩
  | .tmbJump _ _ _ => ⟨_, tmbJump_acts _ _ _, rfl, rfl, rfl⟩
  | .heavyVectorStall _ => ⟨_, heavyVectorStall_acts _, rfl, rfl, rfl⟩
  | .deadlineMiss _ => ⟨_, deadlineMiss_acts _, rfl, rfl, rfl⟩
  | .compareSlotEval _ _ => ⟨_, compareSlotEval_acts _ _, rfl, rfl, rfl⟩
  | .tmbCmpThrWrite _ _ _ => ⟨_, tmbCmpThrWrite_acts _ _ _, rfl, rfl, rfl⟩
  | .dpWriteLow _ _ _ _ => ⟨_, dpWriteLow_acts _ _ _ _, rfl, rfl, rfl⟩
  | .dpWriteHigh _ _ _ _ => ⟨_, dpWriteHigh_acts _ _ _ _, rfl, rfl, rfl⟩
  | .dpReadLow _ _ _ => ⟨_, dpReadLow_acts _ _ _, rfl, rfl, rfl⟩
  | .syncPulseSend => ⟨_, syncPulseSend_acts, rfl, rfl, rfl⟩
  | .syncPulseReceive _ => ⟨_, syncPulseReceive_acts _, rfl, rfl, rfl⟩
  | .lsyFrameReceive _ _ _ => ⟨_, lsyFrameReceive_acts _ _ _, rfl, rfl, rfl⟩
  | .timeLo _ => ⟨_, timeLo_acts _, rfl, rfl, rfl⟩
  | .timeHi _ => ⟨_, timeHi_acts _, rfl, rfl, rfl⟩
  | .enumMsg _ => ⟨_, enumMsg_acts _, rfl, rfl, rfl⟩
  | .calStart _ => ⟨_, calStart_acts _, rfl, rfl, rfl⟩
  | .calEcho _ _ => ⟨_, calEcho_acts _ _, rfl, rfl, rfl⟩
  | .calDelay _ => ⟨_, calDelay_acts _, rfl, rfl, rfl⟩
  | .mark _ => ⟨_, mark_acts _, rfl, rfl, rfl⟩
  | .hb _ _ => ⟨_, hb_acts _ _, rfl, rfl, rfl⟩
  | .pairHbTimeout => ⟨_, pairHbTimeout_acts, rfl, rfl, rfl⟩
  | .pairClose _ => ⟨_, pairClose_acts _, rfl, rfl, rfl⟩
  | .pairTurnOn => ⟨_, pairTurnOn_acts, rfl, rfl, rfl⟩
  | .present _ => ⟨_, present_acts _, rfl, rfl, rfl⟩
  | .breakMsg _ => ⟨_, breakMsg_acts _, rfl, rfl, rfl⟩
  | .recalReq _ => ⟨_, recalReq_acts _, rfl, rfl, rfl⟩
  | .user _ _ => ⟨_, user_acts _ _, rfl, rfl, rfl⟩
  | .upstreamLost => ⟨_, upstreamLost_acts, rfl, rfl, rfl⟩
  | .downstreamLost => ⟨_, downstreamLost_acts, rfl, rfl, rfl⟩
  | .chainResumed => ⟨_, chainResumed_acts, rfl, rfl, rfl⟩
  | .recal _ _ => ⟨_, recal_acts _ _, rfl, rfl, rfl⟩
  | .recalInterval => ⟨_, recalInterval_acts, rfl, rfl, rfl⟩
  | .luanenEvent _ => ⟨_, luanenEvent_acts _, rfl, rfl, rfl⟩
  | .lsyRxRead _ => ⟨_, lsyRxRead_acts _, rfl, rfl, rfl⟩
  | .writeFrame _ _ _ _ _ => ⟨_, writeFrame_acts _ _ _ _ _, rfl, rfl, rfl⟩
  | .readFrame _ _ _ _ => ⟨_, readFrame_acts _ _ _ _, rfl, rfl, rfl⟩
  | .doorbell _ _ _ _ _ => ⟨_, doorbell_acts _ _ _ _ _, rfl, rfl, rfl⟩
  | .wrdExpOpen _ _ => ⟨_, wrdExpOpen_acts _ _, rfl, rfl, rfl⟩
  | .descriptorAccept _ => ⟨_, descriptorAccept_acts _, rfl, rfl, rfl⟩
  | .dispatch => ⟨_, dispatch_acts, rfl, rfl, rfl⟩
  | .nop _ => ⟨_, nop_acts _, rfl, rfl, rfl⟩
  | .regw _ => ⟨_, regw_acts _, rfl, rfl, rfl⟩
  | .regr _ => ⟨_, regr_acts _, rfl, rfl, rfl⟩
  | .bankCopy _ => ⟨_, bankCopy_acts _, rfl, rfl, rfl⟩
  | .bankFill _ => ⟨_, bankFill_acts _, rfl, rfl, rfl⟩
  | .atomAdd _ => ⟨_, atomAdd_acts _, rfl, rfl, rfl⟩
  | .atomSwap _ => ⟨_, atomSwap_acts _, rfl, rfl, rfl⟩
  | .tmbOpStart _ => ⟨_, tmbOpStart_acts _, rfl, rfl, rfl⟩
  | .tmbOpStop _ => ⟨_, tmbOpStop_acts _, rfl, rfl, rfl⟩
  | .tmbOpJump _ => ⟨_, tmbOpJump_acts _, rfl, rfl, rfl⟩
  | .meas _ _ => ⟨_, meas_acts _ _, rfl, rfl, rfl⟩
  | .diag _ _ _ _ => ⟨_, diag_acts _ _ _ _, rfl, rfl, rfl⟩
  | .nvmRead _ => ⟨_, nvmRead_acts _, rfl, rfl, rfl⟩
  | .nvmProgram _ => ⟨_, nvmProgram_acts _, rfl, rfl, rfl⟩
  | .nvmErase _ => ⟨_, nvmErase_acts _, rfl, rfl, rfl⟩
  | .nvmOperationDone _ _ => ⟨_, nvmOperationDone_acts _ _, rfl, rfl, rfl⟩
  | .timed _ => ⟨_, timed_acts _, rfl, rfl, rfl⟩
  | .timedRelease _ => ⟨_, timedRelease_acts _, rfl, rfl, rfl⟩
  | .lsy _ => ⟨_, lsy_acts _, rfl, rfl, rfl⟩
  | .completion _ => ⟨_, completion_acts _, rfl, rfl, rfl⟩
  | .opsCancel _ _ => ⟨_, opsCancel_acts _ _, rfl, rfl, rfl⟩
  | .opsCqIdxWrite _ _ => ⟨_, opsCqIdxWrite_acts _ _, rfl, rfl, rfl⟩
  | .tokenRefill _ => ⟨_, tokenRefill_acts _, rfl, rfl, rfl⟩
  | .opsQosRtWrite _ _ => ⟨_, opsQosRtWrite_acts _ _, rfl, rfl, rfl⟩
  | .intEvent _ _ => ⟨_, intEvent_acts _ _, rfl, rfl, rfl⟩
  | .moderationExpiry _ => ⟨_, moderationExpiry_acts _, rfl, rfl, rfl⟩
  | .intPulseEnd _ => ⟨_, intPulseEnd_acts _, rfl, rfl, rfl⟩
  | .intStatClear _ _ => ⟨_, intStatClear_acts _ _, rfl, rfl, rfl⟩
  | .intEnWrite _ _ => ⟨_, intEnWrite_acts _ _, rfl, rfl, rfl⟩
  | .intSet _ _ => ⟨_, intSet_acts _ _, rfl, rfl, rfl⟩
  | .intModWrite _ _ => ⟨_, intModWrite_acts _ _, rfl, rfl, rfl⟩
  | .rstnLow _ => ⟨_, rstnLow_acts _, rfl, rfl, rfl⟩
  | .rstnRelease => ⟨_, rstnRelease_acts, rfl, rfl, rfl⟩
  | .rstDev _ _ => ⟨_, rstDev_acts _ _, rfl, rfl, rfl⟩
  | .deviceSoftReset => ⟨_, deviceSoftReset_acts, rfl, rfl, rfl⟩
  | .rstWard _ _ => ⟨_, rstWard_acts _ _, rfl, rfl, rfl⟩
  | .wardResetDone _ => ⟨_, wardResetDone_acts _, rfl, rfl, rfl⟩
  | .rstField _ _ => ⟨_, rstField_acts _ _, rfl, rfl, rfl⟩
  | .fieldResetRequest => ⟨_, fieldResetRequest_acts, rfl, rfl, rfl⟩
  | .fieldResetTimeout => ⟨_, fieldResetTimeout_acts, rfl, rfl, rfl⟩
  | .bnkOwnerWrite _ _ _ => ⟨_, bnkOwnerWrite_acts _ _ _, rfl, rfl, rfl⟩
  | .drainComplete _ => ⟨_, drainComplete_acts _, rfl, rfl, rfl⟩
  | .handoverScrubDone _ => ⟨_, handoverScrubDone_acts _, rfl, rfl, rfl⟩
  | .bnkHandedClear _ _ _ => ⟨_, bnkHandedClear_acts _ _ _, rfl, rfl, rfl⟩
  | .retainWrite _ _ _ => ⟨_, retainWrite_acts _ _ _, rfl, rfl, rfl⟩
  | .bitSet _ _ _ _ => ⟨_, bitSet_acts _ _ _ _, rfl, rfl, rfl⟩
  | .bitClear _ _ _ _ => ⟨_, bitClear_acts _ _ _ _, rfl, rfl, rfl⟩
  | .eccUncorrectable _ _ _ => ⟨_, eccUncorrectable_acts _ _ _, rfl, rfl, rfl⟩
  | .eccCorrected _ _ => ⟨_, eccCorrected_acts _ _, rfl, rfl, rfl⟩
  | .scrubRead _ _ _ => ⟨_, scrubRead_acts _ _ _, rfl, rfl, rfl⟩
  | .thermalModelUpdate _ _ _ _ _ => ⟨_, thermalModelUpdate_acts _ _ _ _ _, rfl, rfl, rfl⟩
  | .schedulerDecision => ⟨_, schedulerDecision_acts, rfl, rfl, rfl⟩
  | .thermWarn _ _ => ⟨_, thermWarn_acts _ _, rfl, rfl, rfl⟩
  | .eraseDayBoundary => ⟨_, eraseDayBoundary_acts, rfl, rfl, rfl⟩
  | .schRtWrite _ _ => ⟨_, schRtWrite_acts _ _, rfl, rfl, rfl⟩
  | .heartbeatSend _ => ⟨_, heartbeatSend_acts _, rfl, rfl, rfl⟩
  | .hbReceive _ _ _ => ⟨_, hbReceive_acts _ _ _, rfl, rfl, rfl⟩
  | .heartbeatLoss _ => ⟨_, heartbeatLoss_acts _, rfl, rfl, rfl⟩
  | .soscBLoss => ⟨_, soscBLoss_acts, rfl, rfl, rfl⟩
  | .adcComparison _ _ _ _ => ⟨_, adcComparison_acts _ _ _ _, rfl, rfl, rfl⟩
  | .adcConfirm _ _ _ _ => ⟨_, adcConfirm_acts _ _ _ _, rfl, rfl, rfl⟩
  | .tempComparison _ _ _ => ⟨_, tempComparison_acts _ _ _, rfl, rfl, rfl⟩
  | .proofStart => ⟨_, proofStart_acts, rfl, rfl, rfl⟩
  | .proofDetect _ => ⟨_, proofDetect_acts _, rfl, rfl, rfl⟩
  | .proofTimeout => ⟨_, proofTimeout_acts, rfl, rfl, rfl⟩
  | .recheckEnd _ => ⟨_, recheckEnd_acts _, rfl, rfl, rfl⟩
  | .proofOverdue _ _ => ⟨_, proofOverdue_acts _ _, rfl, rfl, rfl⟩
  | .reproof => ⟨_, reproof_acts, rfl, rfl, rfl⟩
  | .proofNow _ _ => ⟨_, proofNow_acts _ _, rfl, rfl, rfl⟩
  | .proofPause _ _ => ⟨_, proofPause_acts _ _, rfl, rfl, rfl⟩
  | .proofResume _ _ => ⟨_, proofResume_acts _ _, rfl, rfl, rfl⟩
  | .pauseExpiry => ⟨_, pauseExpiry_acts, rfl, rfl, rfl⟩
  | .faultOccurrence _ _ _ _ => ⟨_, faultOccurrence_acts _ _ _ _, rfl, rfl, rfl⟩
  | .faultCauseEnd _ _ => ⟨_, faultCauseEnd_acts _ _, rfl, rfl, rfl⟩
  | .faultClear _ _ _ => ⟨_, faultClear_acts _ _ _, rfl, rfl, rfl⟩
  | .fltForce _ _ => ⟨_, fltForce_acts _ _, rfl, rfl, rfl⟩
  | .fltSelf _ _ => ⟨_, fltSelf_acts _ _, rfl, rfl, rfl⟩
  | .wdgKick _ _ _ => ⟨_, wdgKick_acts _ _ _, rfl, rfl, rfl⟩
  | .wardWatchdogExpiry _ => ⟨_, wardWatchdogExpiry_acts _, rfl, rfl, rfl⟩
  | .dwdExpiry => ⟨_, dwdExpiry_acts, rfl, rfl, rfl⟩
  | .wdoPulseEnd => ⟨_, wdoPulseEnd_acts, rfl, rfl, rfl⟩
  | .bstLogic _ _ => ⟨_, bstLogic_acts _ _, rfl, rfl, rfl⟩
  | .bstField _ _ => ⟨_, bstField_acts _ _, rfl, rfl, rfl⟩
  | .bstLogicThenField _ _ => ⟨_, bstLogicThenField_acts _ _, rfl, rfl, rfl⟩
  | .groupTestDone _ _ _ => ⟨_, groupTestDone_acts _ _ _, rfl, rfl, rfl⟩
  | .logicLbistEnd => ⟨_, logicLbistEnd_acts, rfl, rfl, rfl⟩
  | .fieldLbistEnd _ _ _ => ⟨_, fieldLbistEnd_acts _ _ _, rfl, rfl, rfl⟩
  | .testAbort _ _ => ⟨_, testAbort_acts _ _, rfl, rfl, rfl⟩
  | .bootLbist _ _ _ => ⟨_, bootLbist_acts _ _ _, rfl, rfl, rfl⟩
  | .bootMemTest _ => ⟨_, bootMemTest_acts _, rfl, rfl, rfl⟩
  | .bstXctrlWrite _ _ => ⟨_, bstXctrlWrite_acts _ _, rfl, rfl, rfl⟩
  | .recordIntake _ _ _ _ _ => ⟨_, recordIntake_acts _ _ _ _ _, rfl, rfl, rfl⟩
  | .recordWriteStart => ⟨_, recordWriteStart_acts, rfl, rfl, rfl⟩
  | .ringWrite => ⟨_, ringWrite_acts, rfl, rfl, rfl⟩
  | .gapRecord => ⟨_, gapRecord_acts, rfl, rfl, rfl⟩
  | .pageSubmit => ⟨_, pageSubmit_acts, rfl, rfl, rfl⟩
  | .pageProgramDone _ _ => ⟨_, pageProgramDone_acts _ _, rfl, rfl, rfl⟩
  | .sectorReclaim => ⟨_, sectorReclaim_acts, rfl, rfl, rfl⟩
  | .journalEraseDone _ _ => ⟨_, journalEraseDone_acts _ _, rfl, rfl, rfl⟩
  | .journalScan _ => ⟨_, journalScan_acts _, rfl, rfl, rfl⟩
  | .recRdSqbHiRead _ => ⟨_, recRdSqbHiRead_acts _, rfl, rfl, rfl⟩
  | .newestSeqRead _ => ⟨_, newestSeqRead_acts _, rfl, rfl, rfl⟩
  | .journalPageRead _ _ => ⟨_, journalPageRead_acts _ _, rfl, rfl, rfl⟩
  | .journalReadDone _ => ⟨_, journalReadDone_acts _, rfl, rfl, rfl⟩
  | .nonceRead _ => ⟨_, nonceRead_acts _, rfl, rfl, rfl⟩
  | .nonceExpiry => ⟨_, nonceExpiry_acts, rfl, rfl, rfl⟩
  | .tokenCheck _ _ => ⟨_, tokenCheck_acts _ _, rfl, rfl, rfl⟩
  | .clear => ⟨_, clear_acts, rfl, rfl, rfl⟩
  | .keyProgram _ _ => ⟨_, keyProgram_acts _ _, rfl, rfl, rfl⟩
  | .keyProgramDone _ => ⟨_, keyProgramDone_acts _, rfl, rfl, rfl⟩
  | .pendingRecord _ _ _ _ => ⟨_, pendingRecord_acts _ _ _ _, rfl, rfl, rfl⟩
  | .recRtWrite _ _ => ⟨_, recRtWrite_acts _ _, rfl, rfl, rfl⟩
  | .powerOnSecond _ => ⟨_, powerOnSecond_acts _, rfl, rfl, rfl⟩
  | .fieldSnapshot => ⟨_, fieldSnapshot_acts, rfl, rfl, rfl⟩
  | .mirrorStart => ⟨_, mirrorStart_acts, rfl, rfl, rfl⟩
  | .mirror _ _ => ⟨_, mirror_acts _ _, rfl, rfl, rfl⟩
  | .mirrorDone _ _ => ⟨_, mirrorDone_acts _ _, rfl, rfl, rfl⟩
  | .rebase => ⟨_, rebase_acts, rfl, rfl, rfl⟩
  | .ledgerRestore => ⟨_, ledgerRestore_acts, rfl, rfl, rfl⟩
  | .lifeWindowRead _ => ⟨_, lifeWindowRead_acts _, rfl, rfl, rfl⟩
  | .vddValid _ => ⟨_, vddValid_acts _, rfl, rfl, rfl⟩
  | .holdUpEndVoltage => ⟨_, holdUpEndVoltage_acts, rfl, rfl, rfl⟩
  | .retentionFloor => ⟨_, retentionFloor_acts, rfl, rfl, rfl⟩
  | .testPinChange _ _ => ⟨_, testPinChange_acts _ _, rfl, rfl, rfl⟩
  | .nvmCutoff _ => ⟨_, nvmCutoff_acts _, rfl, rfl, rfl⟩
  | .laneNotInService _ => ⟨_, laneNotInService_acts _, rfl, rfl, rfl⟩
  | .limitEnd _ => ⟨_, limitEnd_acts _, rfl, rfl, rfl⟩
  | .restartThreshold _ => ⟨_, restartThreshold_acts _, rfl, rfl, rfl⟩
  | .boltRelSend => ⟨_, boltRelSend_acts, rfl, rfl, rfl⟩

theorem Foot.quietFits_spec {F : Foot} {c : Instr} (hF : F.quietFits c = true) (hr : restarts c = false) {p : QuietPart}
    (hp : p.movedBy c = false) : F.parts.contains p.hub = false := by
  simp only [Foot.quietFits, hr, Bool.false_or, List.all_eq_true, Bool.or_eq_true, Bool.not_eq_true'] at hF
  have hall : p ∈ QuietPart.all := by cases p <;> decide
  exact (hF p hall).resolve_left (by rw [hp]; exact Bool.false_ne_true)

theorem Foot.busyFits_spec {F : Foot} {c : Instr} (hF : F.busyFits c = true) (hr : restarts c = false) (hm : mayFault c = false)
    {p : BusyPart} (hp : p.movedBy c = false) : F.parts.contains p.hub = false := by
  simp only [Foot.busyFits, hr, hm, Bool.false_or, List.all_eq_true, Bool.or_eq_true, Bool.not_eq_true'] at hF
  have hall : p ∈ BusyPart.all := by cases p <;> decide
  exact (hF p hall).resolve_left (by rw [hp]; exact Bool.false_ne_true)

theorem QuietPart.same_of_hub {p : QuietPart} {h k : Hub} {b : Bool}
    (hp : p.hub.same { h with flt := { h.flt with fresh := b } } k) : p.same h k := by
  cases p <;> exact hp

theorem BusyPart.same_of_hub {p : BusyPart} {h k : Hub} {b : Bool}
    (hp : p.hub.same { h with flt := { h.flt with fresh := b } } k) : p.same h k := by
  cases p <;> exact hp

/-- Settles O54: no command's footprint holds a quiet part that it is not listed for. -/
theorem otherQuietPartsStand : Obligations.OtherQuietPartsStand := by
  intro c s p hr hp
  obtain ⟨F, hF, hquiet, -, -⟩ := acts_fits c
  obtain ⟨f, hx, hf⟩ := hF s
  exact completes_of_on hx (QuietPart.same_of_hub ((hf _).part p.hub (Foot.quietFits_spec hquiet hr hp)))

/-- Settles O55: no command's footprint holds a busy part that it is not listed for. -/
theorem otherBusyPartsStand : Obligations.OtherBusyPartsStand := by
  intro c s p hr hm hp
  obtain ⟨F, hF, -, hbusy, -⟩ := acts_fits c
  obtain ⟨f, hx, hf⟩ := hF s
  exact completes_of_on hx (BusyPart.same_of_hub ((hf _).part p.hub (Foot.busyFits_spec hbusy hr hm hp)))

/-! ### What steps keep -/

/-- What a tick keeps of the parts that steps keep. -/
theorem tickHub_keeps (h : Hub) : HubPart.canon.same h (tickHub h) ∧ HubPart.keeper.same h (tickHub h) := by
  obtain ⟨c, hc⟩ := tickHub_rest h
  refine ⟨fun ⟨hm, hn⟩ => ⟨?_, ?_⟩, fun hw => ?_⟩
  · rw [tickHub_mem]
    exact hm
  · rw [tickHub_nvm]
    exact hn
  · have hdev : (tickHub h).dev = h.dev := (congrArg Hub.dev hc :)
    rw [Hub.ward, hdev]
    exact hw

/-- A step keeps what no command's footprint holds: after a command settles, or with a tick. -/
theorem step_keeps {s t : State} (hs : step s = .next t) : HubPart.canon.same s.hub t.hub ∧ HubPart.keeper.same s.hub t.hub := by
  unfold step at hs
  split at hs
  case h_1 =>
    cases hs
    exact tickHub_keeps s.hub
  case h_2 c rest _ =>
    obtain ⟨F, hF, -, -, hsteady⟩ := acts_fits c
    obtain ⟨f, hx, hf⟩ := hF { s with pending := rest }
    obtain ⟨hcanon, hkeeper⟩ := (Bool.and_eq_true _ _).mp hsteady
    rw [Bool.not_eq_true'] at hcanon hkeeper
    rw [hx] at hs
    cases hs
    have hrefl (p : HubPart) (hp : p = .canon ∨ p = .keeper) :
        p.same s.hub { s.hub with flt := { s.hub.flt with fresh := false } } := by
      rcases hp with rfl | rfl
      · exact id
      · exact id
    exact ⟨HubPart.same_trans (hrefl _ (.inl rfl)) (HubPart.same_trans ((hf _).part .canon hcanon) ((settle_moves _ _).part .canon rfl)),
      HubPart.same_trans (hrefl _ (.inr rfl)) (HubPart.same_trans ((hf _).part .keeper hkeeper) ((settle_moves _ _).part .keeper rfl))⟩

/-- Settles O49: every write to a bank, to DP0 or DP1 and to an NVM device keeps the canonical form. -/
theorem theMemoryStaysCanonical : Obligations.TheMemoryStaysCanonical := fun _ _ hm hs => (step_keeps hs).1 hm

/-- Settles O50: a fault that would hold a ward takes the device to *Safe* where the ward is W0, and nothing else holds one. -/
theorem theKeeperIsNeverHeld : Obligations.TheKeeperIsNeverHeld := fun _ _ hw hs => (step_keeps hs).2 hw

end Sys2Proof.Machine

/-!
PROOF. Fields that lie apart: a write to one copy of a field leaves every copy of another one, whatever the indices are.
-/

namespace Sys2Proof.Machine

set_option Elab.async false

/-- No copy of one field shares its key with a copy of the other: they begin at different bits of their words, or at addresses that no
two indices bring together. -/
def Fld.apart (f g : Fld) : Bool :=
  decide (f.lsb < 32) && decide (g.lsb < 32) &&
    (f.lsb != g.lsb || f.base % Nat.gcd f.stride g.stride != g.base % Nat.gcd f.stride g.stride)

theorem fldKey_ne_of_apart {f g : Fld} (ha : f.apart g = true) (i w j u : Nat) : fldKey f i w ≠ fldKey g j u := by
  simp only [Fld.apart, Bool.and_eq_true, decide_eq_true_eq, Bool.or_eq_true, bne_iff_ne] at ha
  obtain ⟨⟨hf, hg⟩, hne⟩ := ha
  intro hk
  have hsmall (e : Fld) (x : Nat) : (if e.perWard then x % 8 else 0) < 8 := by
    split
    · exact Nat.mod_lt x (by decide)
    · decide
  have hword : (f.base + f.stride * i) * 32 + f.lsb = (g.base + g.stride * j) * 32 + g.lsb := by
    have h1 := hsmall f w
    have h2 := hsmall g u
    unfold fldKey at hk
    omega
  have haddr : f.base + f.stride * i = g.base + g.stride * j := by omega
  rcases hne with hl | hb
  · omega
  · obtain ⟨m, hm⟩ := Nat.gcd_dvd_left f.stride g.stride
    obtain ⟨n, hn⟩ := Nat.gcd_dvd_right f.stride g.stride
    refine hb ?_
    generalize Nat.gcd f.stride g.stride = d at hm hn
    calc f.base % d = (f.base + f.stride * i) % d := by rw [hm, Nat.mul_assoc, Nat.add_mul_mod_self_left]
      _ = (g.base + g.stride * j) % d := by rw [haddr]
      _ = g.base % d := by rw [hn, Nat.mul_assoc, Nat.add_mul_mod_self_left]

/-- Two instances of a field that are spread over addresses have different keys. -/
theorem fldKey_ne_of_index {f : Fld} (hs : f.stride ≠ 0) {i j : Nat} (hij : i ≠ j) (w u : Nat) : fldKey f i w ≠ fldKey f j u := by
  intro hk
  have hsmall (x : Nat) : (if f.perWard then x % 8 else 0) < 8 := by
    split
    · exact Nat.mod_lt x (by decide)
    · decide
  have h1 := hsmall w
  have h2 := hsmall u
  have haddr : f.stride * i = f.stride * j := by
    unfold fldKey at hk
    omega
  exact hij (Nat.eq_of_mul_eq_mul_left (Nat.pos_of_ne_zero hs) haddr)

@[simp] theorem Hub.rd_wr_apart (h : Hub) {f g : Fld} (v i w j u : Nat) (ha : g.apart f = true) :
    (h.wr f v i w).rd g j u = h.rd g j u := Hub.rd_wr_ne (fldKey_ne_of_apart ha j u i w)

@[simp] theorem Hub.rd_put_apart (h : Hub) {f g : Fld} (b : Bool) (i w j u : Nat) (ha : g.apart f = true) :
    (h.put f b i w).rd g j u = h.rd g j u := Hub.rd_wr_apart h _ i w j u ha

@[simp] theorem Hub.rd_count_apart (h : Hub) {f g : Fld} (k i w j u : Nat) (ha : g.apart f = true) :
    (h.count f k i w).rd g j u = h.rd g j u := Hub.rd_wr_apart h _ i w j u ha

@[simp] theorem Hub.flag_wr_apart (h : Hub) {f g : Fld} (v i w j u : Nat) (ha : g.apart f = true) :
    (h.wr f v i w).flag g j u = h.flag g j u := by
  simp only [Hub.flag, Hub.rd_wr_apart h v i w j u ha]

@[simp] theorem Hub.flag_put_apart (h : Hub) {f g : Fld} (b : Bool) (i w j u : Nat) (ha : g.apart f = true) :
    (h.put f b i w).flag g j u = h.flag g j u := Hub.flag_wr_apart h _ i w j u ha

@[simp] theorem Hub.flag_count_apart (h : Hub) {f g : Fld} (k i w j u : Nat) (ha : g.apart f = true) :
    (h.count f k i w).flag g j u = h.flag g j u := Hub.flag_wr_apart h _ i w j u ha

/-- A field that holds a value of its width reads it as it was written. -/
theorem Hub.rd_wr_of_lt (h : Hub) {f : Fld} {v : Nat} (i w : Nat) (hv : v < 2 ^ f.width) : (h.wr f v i w).rd f i w = v := by
  rw [Hub.rd_wr_self, Nat.mod_eq_of_lt hv]

theorem Hub.rd_put_self (h : Hub) (f : Fld) (b : Bool) (i w : Nat) (hf : f.width = 1) : (h.put f b i w).rd f i w = b2n b := by
  rw [Hub.put, Hub.rd_wr_self, hf]
  cases b <;> rfl

theorem Hub.rd_lt (h : Hub) (f : Fld) (i w : Nat) : h.rd f i w < 2 ^ f.width := Nat.mod_lt _ (Nat.two_pow_pos _)

/-- A count of one goes up by one and stops at the field's end. -/
theorem Hub.rd_count_satInc (h : Hub) (f : Fld) (i w : Nat) :
    (h.count f 1 i w).rd f i w = satInc (2 ^ f.width - 1) (h.rd f i w) := by
  have hlt := h.rd_lt f i w
  rw [Hub.rd_count_self, satInc]
  split
  · omega
  · omega

/-- What does not touch the register file leaves every field. -/
theorem Hub.flag_congr {h k : Hub} (hr : k.regs = h.regs) (f : Fld) (i w : Nat) : k.flag f i w = h.flag f i w := by
  simp only [Hub.flag, Hub.rd_congr hr]

/-! ### Guards -/

theorem not_guard_of_true {b : Bool} (hb : b = true) : ¬ (!b) = true := by simp [hb]

theorem not_of_guard {b : Bool} (hb : (!b) = true) : ¬ b = true := by simpa using hb

/-! ### The hub on which a command acts -/

/-- The hub as a command finds it: no first fault has been captured yet by that command. -/
def Hub.begun (h : Hub) : Hub := { h with flt := { h.flt with fresh := false } }

theorem completes_of_begun {c : Instr} {s : State} {f : Hub → Hub} {P : Hub → Prop} (hx : exec c s = s.on f) (hp : P (f s.hub.begun)) :
    Completes c s P := completes_of_on hx hp

end Sys2Proof.Machine

/-!
PROOF. The compare slots and the port-B accesses to the program store: what each leaves in the slot's registers, in the staged halves
and in the memory.
-/

namespace Sys2Proof.Machine

set_option Elab.async false

/-! ### Compare slots -/

/-- A slot's state after a measurement, in the sense of the slot (R302). -/
def cmpState (rel en was : Bool) (thr hyst v : Int) : Bool :=
  (if rel then (if v ≤ thr then true else if thr + hyst < v then false else was)
    else (if thr ≤ v then true else if v < thr - hyst then false else was)) && en

theorem cmpEval_of_runs {h : Hub} (hl : h.hinge.upL = true) (hr : h.logicRuns = true) (j : Nat) (value : BitVec 16) :
    h.cmpEval j value = (h.wr TMB_CMP_STAT_value value.toNat j).put TMB_CMP_STAT_state
      (cmpState (h.flag TMB_CMP_CFG_rel j) (h.flag TMB_CMP_CFG_en j) (h.flag TMB_CMP_STAT_state j)
        (toSigned 16 (h.rd TMB_CMP_THR_thr j)) (h.rd TMB_CMP_THR_hyst j) value.toInt) j := by
  simp [Hub.cmpEval, hl, hr, cmpState]

theorem rd_cmpEval_value {h : Hub} (hl : h.hinge.upL = true) (hr : h.logicRuns = true) (j : Nat) (value : BitVec 16) :
    (h.cmpEval j value).rd TMB_CMP_STAT_value j = value.toNat := by
  rw [cmpEval_of_runs hl hr, Hub.rd_put_apart _ _ _ _ _ _ (by decide), Hub.rd_wr_of_lt]
  exact value.isLt

theorem flag_cmpEval_state {h : Hub} (hl : h.hinge.upL = true) (hr : h.logicRuns = true) (j : Nat) (value : BitVec 16) :
    (h.cmpEval j value).flag TMB_CMP_STAT_state j =
      cmpState (h.flag TMB_CMP_CFG_rel j) (h.flag TMB_CMP_CFG_en j) (h.flag TMB_CMP_STAT_state j)
        (toSigned 16 (h.rd TMB_CMP_THR_thr j)) (h.rd TMB_CMP_THR_hyst j) value.toInt := by
  rw [cmpEval_of_runs hl hr, Hub.flag_put_self _ _ _ _ _ rfl]

/-! ### Halves of DP words -/

theorem dpAddr_even (d n : Nat) : dpAddr d (2 * n) % 8 = 0 := by
  unfold dpAddr
  omega

theorem dpAddr_odd (d n : Nat) : dpAddr d (2 * n + 1) = dpAddr d (2 * n) + 4 := by
  unfold dpAddr
  omega

/-- A word written leaves the words beside it. -/
theorem memWord_setMemWord_ne (h : Hub) {a b : Nat} (v : Nat) (hab : b + 4 ≤ a ∨ a + 4 ≤ b) :
    (h.setMemWord a v).memWord b = h.memWord b := by
  have hbyte (x : Nat) (hx : b ≤ x) (hx4 : x < b + 4) : cellGet 0 (h.setMemWord a v).mem x = cellGet 0 h.mem x :=
    setMemWord_frame (by omega)
  simp only [Hub.memWord, cellsGet]
  congr 1
  refine List.map_congr_left fun i hi => ?_
  have hi4 := List.mem_range.mp hi
  rw [hbyte (b + i) (by omega) (by omega)]

theorem writeDp_even {h : Hub} {a : Nat} (w v : Nat) (ha : a % 8 = 0) :
    h.writeDp w a v = { h with dpLow := vset h.dpLow w (some (a, v)) } := by
  rw [Hub.writeDp, if_pos (by simpa using ha)]

/-- The hub once a high half has committed the low half that is staged for its word. -/
def Hub.dpCommit (h : Hub) (w a : Nat) : Hub :=
  match vget h.dpLow w none with
  | some (b, low) => if b + 4 == a then { h.setMemWord b low with dpLow := vset h.dpLow w none } else h
  | none => h

theorem regs_dpCommit (h : Hub) (w a : Nat) : (h.dpCommit w a).regs = h.regs := by
  unfold Hub.dpCommit
  split
  · split <;> rfl
  · rfl

theorem dpCommit_of_staged {h : Hub} {w b low : Nat} (hs : vget h.dpLow w none = some (b, low)) :
    h.dpCommit w (b + 4) = { h.setMemWord b low with dpLow := vset h.dpLow w none } := by
  simp [Hub.dpCommit, hs]

theorem writeDp_odd {h : Hub} {a : Nat} (w v : Nat) (ha : a % 8 ≠ 0) : h.writeDp w a v = (h.dpCommit w a).setMemWord a v :=
  if_neg (by simpa using ha)

theorem memWord_writeDp_odd {h : Hub} {a : Nat} (w v : Nat) (ha : a % 8 ≠ 0) : (h.writeDp w a v).memWord a = v % 2 ^ 32 := by
  rw [writeDp_odd w v ha, memWord_setMemWord]

theorem regs_writeDp (h : Hub) (w a v : Nat) : (h.writeDp w a v).regs = h.regs := by
  by_cases ha : a % 8 = 0
  · rw [writeDp_even w v ha]
  · rw [writeDp_odd w v ha]
    exact regs_dpCommit h w a

theorem memWord_writeDp_low {h : Hub} {w b low v : Nat} (hs : vget h.dpLow w none = some (b, low)) (hb : (b + 4) % 8 ≠ 0) :
    (h.writeDp w (b + 4) v).memWord b = low % 2 ^ 32 := by
  rw [writeDp_odd w v hb, dpCommit_of_staged hs, memWord_setMemWord_ne _ _ (.inl (Nat.le_refl _))]
  exact memWord_setMemWord h b low

theorem readDp_even {h : Hub} {a : Nat} (w : Nat) (ha : a % 8 = 0) :
    (h.readDp w a).2 = { h with dpHigh := vset h.dpHigh w (some (a + 4, h.memWord (a + 4))) } := by
  rw [Hub.readDp, if_pos (by simpa using ha)]

/-! ### The clauses -/

/-- COMPARE_SLOT_EVAL judges the slot that watches the measurement. -/
theorem compareSlotEval_completes {s : State} {j : Fin 16} {r : Reading} {P : Hub → Prop} (hw : s.hub.cmpWatches j r.adcB r.src r.index = true)
    (hp : P (s.hub.begun.cmpEval j r.value)) : Completes (.compareSlotEval j r) s P :=
  completes_of_begun (exec_compareSlotEval j r s) (by rwa [if_pos (by exact hw)])

/-- COMPARE_SLOT_EVAL of another measurement, or with the link lost, changes no register. -/
theorem compareSlotEval_idle {s : State} {j : Fin 16} {r : Reading}
    (hw : s.hub.cmpWatches j r.adcB r.src r.index = false ∨ s.hub.hinge.upL = false) :
    Completes (.compareSlotEval j r) s (fun h => h.regs = s.hub.regs) := by
  refine completes_of_begun (exec_compareSlotEval j r s) ?_
  rcases hw with hw | hl
  · rw [if_neg (by rw [show s.hub.begun.cmpWatches j r.adcB r.src r.index = false from hw]; exact Bool.false_ne_true)]
    rfl
  · split
    · rw [Hub.cmpEval, if_pos (by simp [Hub.begun, hl])]
      rfl
    · rfl

/-- Settles O19: each clause by the lemma of what its command does. -/
theorem compareAndDp : Obligations.CompareAndDp := by
  refine ⟨?eval, ?other, ?thr, ?low, ?high, ?read⟩
  case eval =>
    intro s j adcB src index value hc
    simp only [Can.compareSlotEval, Bool.and_eq_true] at hc
    obtain ⟨⟨hw, hl⟩, hr⟩ := hc
    have hstate := flag_cmpEval_state (h := s.hub.begun) hl hr j value
    refine compareSlotEval_completes hw ⟨rd_cmpEval_value (h := s.hub.begun) hl hr j value, fun he => ?_, fun he hrel => ?_,
      fun he hrel => ?_⟩
    · exact hstate.trans (by rw [cmpState, show s.hub.begun.flag TMB_CMP_CFG_en j = false from he, Bool.and_false])
    · exact hstate.trans (by
        rw [cmpState, show s.hub.begun.flag TMB_CMP_CFG_en j = true from he, show s.hub.begun.flag TMB_CMP_CFG_rel j = false from hrel,
          Bool.and_true]
        rfl)
    · exact hstate.trans (by
        rw [cmpState, show s.hub.begun.flag TMB_CMP_CFG_en j = true from he, show s.hub.begun.flag TMB_CMP_CFG_rel j = true from hrel,
          Bool.and_true]
        rfl)
  case other =>
    intro s j adcB src index value hc
    refine compareSlotEval_idle ?_
    simpa [Can.compareSlotEval2] using hc
  case thr =>
    intro s w j v hc
    refine completes_of_begun (exec_tmbCmpThrWrite w j v s) ?_
    rw [if_pos (by exact hc)]
    have hv : v.toNat / 2 ^ 16 < 2 ^ TMB_CMP_THR_hyst.width := by
      have := v.isLt
      show v.toNat / 2 ^ 16 < 2 ^ 16
      omega
    refine ⟨?_, Hub.rd_wr_of_lt _ _ _ hv⟩
    rw [Hub.writeCmpThr, Hub.rd_wr_apart _ _ _ _ _ _ (by decide)]
    exact Hub.rd_wr_of_lt _ _ _ (Nat.mod_lt _ (by decide))
  case low =>
    intro s w d n v hc
    refine completes_of_begun (exec_dpWriteLow w d n v s) ?_
    rw [if_pos (by exact hc), writeDp_even _ _ (dpAddr_even d n)]
    exact ⟨vget_vset_self _ _ _ _ w.isLt, rfl, rfl⟩
  case high =>
    intro s w d n v hc
    refine completes_of_begun (exec_dpWriteHigh w d n v s) ?_
    have hodd : (dpAddr d (2 * n) + 4) % 8 ≠ 0 := by
      have := dpAddr_even d n
      omega
    rw [if_pos (by exact hc), dpAddr_odd]
    refine ⟨?_, fun x hx hxa => ?_, regs_writeDp _ _ _ _⟩
    · rw [memWord_writeDp_odd _ _ hodd]
      exact Nat.mod_eq_of_lt v.isLt
    · have hs : vget s.hub.begun.dpLow w none = some (dpAddr d (2 * n), x.2) := by
        rw [← hxa]
        exact Option.mem_toList.mp hx
      exact memWord_writeDp_low hs hodd
  case read =>
    intro s w d n hc
    refine completes_of_begun (exec_dpReadLow w d n s) ?_
    rw [if_pos (by exact hc), readDp_even _ (dpAddr_even d n)]
    exact ⟨vget_vset_self _ _ _ _ w.isLt, rfl⟩

end Sys2Proof.Machine

/-!
PROOF. Signals: the bits of a mask, and what the rise and the end of a fault's cause leave in the fault collectors of both dies.
-/

namespace Sys2Proof.Machine

set_option Elab.async false

/-! ### Bits -/

@[simp] theorem bitOf_setBit_self (v i : Nat) : bitOf (setBit v i) i = true := by
  simp [bitOf, setBit, Nat.testBit_or, Nat.testBit_shiftLeft]

theorem bitOf_setBit_ne (v : Nat) {i j : Nat} (hij : j ≠ i) : bitOf (setBit v i) j = bitOf v j := by
  rw [bitOf, setBit, Nat.testBit_or, Nat.one_shiftLeft, Nat.testBit_two_pow_of_ne (Ne.symm hij), Bool.or_false]
  rfl

theorem bitOf_setBit (v i j : Nat) : bitOf (setBit v i) j = (bitOf v j || decide (j = i)) := by
  by_cases hij : j = i
  · simp [hij]
  · simp [bitOf_setBit_ne v hij, hij]

theorem testBit_sub_and (v m i : Nat) : (v - (v &&& m)).testBit i = (v.testBit i && !m.testBit i) := by
  induction i generalizing v m with
  | zero =>
    have hle := Nat.and_le_left (n := v) (m := m)
    have hmod : (v &&& m) % 2 = 1 ↔ v % 2 = 1 ∧ m % 2 = 1 := by
      have hbit := Nat.testBit_and v m 0
      rw [Bool.eq_iff_iff] at hbit
      simpa only [Nat.testBit_zero, Bool.and_eq_true, decide_eq_true_eq] using hbit
    generalize v &&& m = x at hle hmod
    rw [Bool.eq_iff_iff]
    simp only [Nat.testBit_zero, Bool.and_eq_true, Bool.not_eq_true', decide_eq_true_eq, decide_eq_false_iff_not]
    omega
  | succ i ih =>
    have hle : v / 2 &&& m / 2 ≤ v / 2 := Nat.and_le_left
    have hmod : (v &&& m) % 2 ≤ v % 2 := by
      have := Nat.and_mod_two_pow (a := v) (b := m) (n := 1)
      have := Nat.and_le_left (n := v % 2) (m := m % 2)
      simp_all
    have hdiv : (v &&& m) / 2 = v / 2 &&& m / 2 := Nat.and_div_two
    rw [Nat.testBit_succ, Nat.testBit_succ, Nat.testBit_succ, ← ih]
    congr 1
    omega

theorem bitOf_clrMask (v m i : Nat) : bitOf (clrMask v m) i = (bitOf v i && !bitOf m i) := testBit_sub_and v m i

theorem clrBit_eq_clrMask (v i : Nat) : clrBit v i = clrMask v (1 <<< i) := by
  have hand : v &&& 1 <<< i = if v.testBit i then 1 <<< i else 0 := by
    rw [Nat.one_shiftLeft, Nat.and_two_pow]
    cases v.testBit i <;> simp
  unfold clrBit clrMask
  rw [hand]
  split <;> simp

@[simp] theorem bitOf_clrBit (v i j : Nat) : bitOf (clrBit v i) j = (bitOf v j && !decide (j = i)) := by
  rw [clrBit_eq_clrMask, bitOf_clrMask, Nat.one_shiftLeft]
  simp [bitOf, Nat.testBit_two_pow, eq_comm]

theorem bitOf_putBit (v i : Nat) (b : Bool) (j : Nat) : bitOf (putBit v i b) j = if j = i then b else bitOf v j := by
  unfold putBit
  by_cases hij : j = i <;> cases b <;> simp [hij, bitOf_setBit]

@[simp] theorem bitOf_zero (i : Nat) : bitOf 0 i = false := Nat.zero_testBit i

/-! ### Causes -/

/-- The signals of both collectors: the causes on the logic die, the field die's live bits and its sticky flags. -/
def Flt.signals (f : Flt) : Vector Nat 62 × Vector Nat 40 × Nat := (f.cause, f.fLive, f.fieldSticky)

/-- The signals of two hubs are the same. -/
def SameSignals (h k : Hub) : Prop := k.flt.signals = h.flt.signals

section
variable {F : Foot} {h₀ h k : Hub}

theorem SameSignals.refl (h : Hub) : SameSignals h h := rfl

theorem SameSignals.trans (x : SameSignals h₀ h) (y : SameSignals h k) : SameSignals h₀ k := Eq.trans y x

theorem SameSignals.ite {a b : Hub} {q : Prop} [Decidable q] (x : SameSignals h₀ a) (y : SameSignals h₀ b) :
    SameSignals h₀ (if q then a else b) := by
  split
  · exact x
  · exact y

theorem SameSignals.bind (x : SameSignals h₀ h) (y : SameSignals h₀ h → SameSignals h₀ k) : SameSignals h₀ k := y x

theorem SameSignals.flt (x : SameSignals h₀ h) (f : Flt) (hf : f.signals = h.flt.signals := by rfl) :
    SameSignals h₀ { h with flt := f } := Eq.trans hf x

/-- Nothing outside the collector changes its signals. -/
theorem Moves.sameSignals (x : Moves F h k) (hF : F.parts.contains .flt = false := by decide) : SameSignals h k :=
  have hflt : { k.flt with fresh := false } = { h.flt with fresh := false } := x.keeps .flt hF
  have hsignals := congrArg Flt.signals hflt
  hsignals

theorem SameSignals.to (x : SameSignals h₀ h) (y : Moves F h k) (hF : F.parts.contains .flt = false := by decide) : SameSignals h₀ k :=
  x.trans (y.sameSignals hF)

end

theorem captureFirst_sameSignals (h : Hub) (n detail : Nat) (forced : Bool) : SameSignals h (h.captureFirst n detail forced) :=
  .ite rfl (.ite (.ite rfl rfl) rfl)

theorem occurNow_sameSignals (h : Hub) (n wards detail : Nat) (forced rec late : Bool) :
    SameSignals h (h.occurNow n wards detail forced rec late) :=
  .ite (.refl h) (.bind ((SameSignals.refl h).flt _) fun y => .ite y (.bind ((y.to (detailWord_moves _ _)).flt _) fun y3 =>
    .bind (.ite (y3.trans (captureFirst_sameSignals _ _ _ _)) y3) fun y4 => .bind (.ite (y4.to (intake_moves _ _)) y4) fun y5 =>
    .ite y5 (.bind (y5.to (wardReaction_moves _ _ _)) fun y6 => .ite (y6.to (enterSafe_moves _ _)) y6)))

theorem occur_sameSignals (h : Hub) (n wards detail : Nat) (forced rec : Bool) : SameSignals h (h.occur n wards detail forced rec) :=
  .ite (.ite (.refl _) (.refl _)) (occurNow_sameSignals _ _ _ _ _ _ _)

theorem event_sameSignals (h : Hub) (n wards detail : Nat) : SameSignals h (h.event n wards detail) :=
  .ite (.refl h) (occur_sameSignals _ _ _ _ _ _)

theorem SameSignals.caused {h k : Hub} (x : SameSignals h k) (n res : Nat) : caused k n res = caused h n res :=
  congrArg (fun f : Vector Nat 62 × Vector Nat 40 × Nat => bitOf (vget f.1 n 0) res) x

/-- The hub with the cause of source `n` set on a resource. -/
def Hub.setCause (h : Hub) (n res : Nat) : Hub :=
  { h with flt := { h.flt with cause := vset h.flt.cause n (setBit (vget h.flt.cause n 0) res) } }

/-- The cause of source `n` is present already where one on the resource would be. -/
def Hub.present (h : Hub) (n res : Nat) : Bool := if res < 16 then bitOf (h.causes n) res else h.causes n != 0

theorem raise_eq {h : Hub} {n res : Nat} (wards detail : Nat) (hh : h.proofHides n res = false) :
    h.raise n res wards detail = if h.present n res then h.setCause n res else (h.setCause n res).occur n wards detail := by
  unfold Hub.raise
  rw [hh]
  rfl

theorem raise_of_unhidden {h : Hub} {n res : Nat} (wards detail : Nat) (hh : h.proofHides n res = false) :
    SameSignals (h.setCause n res) (h.raise n res wards detail) := by
  rw [raise_eq wards detail hh]
  exact .ite (.refl _) (occur_sameSignals _ n wards detail false true)

theorem raise_of_hidden {h : Hub} {n res : Nat} (wards detail : Nat) (hh : h.proofHides n res = true) :
    h.raise n res wards detail = h := by
  unfold Hub.raise
  rw [hh]
  rfl

theorem caused_setCause_self (h : Hub) {n : Nat} (res : Nat) (hn : n < 62) : caused (h.setCause n res) n res = true := by
  rw [caused, Hub.setCause, vget_vset_self _ _ _ _ hn, bitOf_setBit_self]

theorem caused_setCause_ne (h : Hub) {n res m r : Nat} (hne : m ≠ n ∨ r ≠ res) : caused (h.setCause n res) m r = caused h m r := by
  rw [caused, Hub.setCause]
  by_cases hmn : m = n
  · subst hmn
    by_cases hm : m < 62
    · rw [vget_vset_self _ _ _ _ hm, bitOf_setBit_ne _ (hne.resolve_left (fun h => h rfl))]
      rfl
    · rw [vset, Vector.setIfInBounds_eq_of_size_le (by omega)]
      rfl
  · rw [vget_vset_ne hmn]
    rfl

/-- A cause that rises unhidden is present. -/
theorem caused_raise_self {h : Hub} {n res : Nat} (wards detail : Nat) (hn : n < 62) (hh : h.proofHides n res = false) :
    caused (h.raise n res wards detail) n res = true :=
  ((raise_of_unhidden wards detail hh).caused n res).trans (caused_setCause_self h res hn)

/-- The cause of another source, or on another resource, stays when one rises. -/
theorem caused_raise_ne {h : Hub} {n res m r : Nat} (wards detail : Nat) (hne : m ≠ n ∨ r ≠ res) :
    caused (h.raise n res wards detail) m r = caused h m r := by
  cases hh : h.proofHides n res with
  | true => rw [raise_of_hidden wards detail hh]
  | false => exact ((raise_of_unhidden wards detail hh).caused m r).trans (caused_setCause_ne h hne)

theorem caused_lower {h : Hub} {n : Nat} (hn : n < 62) (res r : Nat) : caused (h.lower n res) n r = (caused h n r && !decide (r = res)) := by
  rw [caused, Hub.lower]
  dsimp only
  rw [vget_vset_self _ _ _ _ hn, bitOf_clrBit]
  rfl

theorem caused_lower_ne {h : Hub} {n m : Nat} (hm : m ≠ n) (res r : Nat) : caused (h.lower n res) m r = caused h m r := by
  rw [caused, Hub.lower]
  dsimp only
  rw [vget_vset_ne hm]
  rfl

/-! ### Live bits of the field die -/

/-- Position `p` is live on channel `c`, or tied to none where `c` is 16. -/
def fLiveOn (h : Hub) (p c : Nat) : Bool := bitOf (vget h.flt.fLive p 0) c

theorem SameSignals.fLiveOn {h k : Hub} (x : SameSignals h k) (p c : Nat) : fLiveOn k p c = fLiveOn h p c :=
  congrArg (fun f : Vector Nat 62 × Vector Nat 40 × Nat => bitOf (vget f.2.1 p 0) c) x

/-- The hub with position `p` live on a set of channels. -/
def Hub.setLive (h : Hub) (p v : Nat) : Hub :=
  { h with flt := { h.flt with fLive := vset h.flt.fLive p v, fieldSticky := setBit h.flt.fieldSticky p } }

/-- The channels of a set on which position `p` rises: those on which it is not live, and which no proof hides. -/
def Hub.fieldNew (h : Hub) (p m : Nat) : Nat :=
  (bitList 17 (clrMask m (vget h.flt.fLive p 0))).foldl (fun a c => if h.fHidden p c then a else setBit a c) 0

theorem fieldRise_sameSignals (h : Hub) (p chs detail : Nat) : SameSignals
    (if h.fieldNew p (if chs == 0 then 2 ^ 16 else chs) == 0 then h
      else h.setLive p (vget h.flt.fLive p 0 ||| h.fieldNew p (if chs == 0 then 2 ^ 16 else chs))) (h.fieldRise p chs detail) := by
  unfold Hub.fieldRise Hub.fieldNew
  dsimp only
  generalize (if chs == 0 then 2 ^ 16 else chs) = m
  split
  · exact .refl h
  · exact (SameSignals.refl _).to (sendF_moves _ _)

theorem fLiveOn_setLive {h : Hub} {p : Nat} (hp : p < 40) (v c : Nat) : fLiveOn (h.setLive p v) p c = bitOf v c := by
  rw [fLiveOn, Hub.setLive, vget_vset_self _ _ _ _ hp]

/-- The bits of a set built up from a list. -/
theorem bitOf_foldl_setBit (l : List Nat) (q : Nat → Bool) (a i : Nat) :
    bitOf (l.foldl (fun a c => if q c then a else setBit a c) a) i = (bitOf a i || (l.contains i && !q i)) := by
  induction l generalizing a with
  | nil => simp
  | cons c rest ih =>
    rw [List.foldl_cons, ih, List.contains_cons]
    by_cases hq : q c
    · by_cases hic : i = c
      · simp [hic, hq]
      · simp [hq, beq_false_of_ne hic]
    · by_cases hic : i = c
      · simp [hic, hq]
      · simp [hq, bitOf_setBit_ne _ hic, beq_false_of_ne hic]

theorem contains_bitList (n v i : Nat) : (bitList n v).contains i = (decide (i < n) && bitOf v i) := by
  rw [Bool.eq_iff_iff]
  simp [bitList, bitOf]

theorem bitOf_fieldNew {h : Hub} {p m c : Nat} (hc : c < 17) :
    bitOf (h.fieldNew p m) c = (bitOf m c && !fLiveOn h p c && !h.fHidden p c) := by
  rw [Hub.fieldNew, bitOf_foldl_setBit, contains_bitList, bitOf_clrMask]
  simp [hc, fLiveOn]

/-- A rise makes the position live on the channels of its set that no proof hides, and leaves it elsewhere. -/
theorem fLiveOn_fieldRise {h : Hub} {p c : Nat} (chs detail : Nat) (hp : p < 40) (hc : c < 17) :
    fLiveOn (h.fieldRise p chs detail) p c =
      (fLiveOn h p c || (bitOf (if chs == 0 then 2 ^ 16 else chs) c && !h.fHidden p c)) := by
  rw [(fieldRise_sameSignals h p chs detail).fLiveOn]
  generalize hm : (if chs == 0 then 2 ^ 16 else chs) = m
  have hnew := bitOf_fieldNew (h := h) (p := p) (m := m) hc
  split
  case isTrue hzero =>
    rw [beq_iff_eq] at hzero
    rw [hzero, bitOf_zero] at hnew
    cases hl : fLiveOn h p c <;> simp_all
  case isFalse =>
    rw [fLiveOn_setLive hp, bitOf, Nat.testBit_or]
    have hnew' : (h.fieldNew p m).testBit c = _ := hnew
    rw [hnew']
    show (fLiveOn h p c || _) = _
    cases hl : fLiveOn h p c <;> simp

/-- Another position stays as it is. -/
theorem fLiveOn_fieldRise_ne {h : Hub} {p q : Nat} (hq : q ≠ p) (c chs detail : Nat) :
    fLiveOn (h.fieldRise p chs detail) q c = fLiveOn h q c := by
  rw [(fieldRise_sameSignals h p chs detail).fLiveOn]
  generalize (if chs == 0 then 2 ^ 16 else chs) = m
  split
  · rfl
  · rw [fLiveOn, Hub.setLive, vget_vset_ne hq]
    rfl

/-- A position tied to no channel is live once it has risen unhidden. -/
theorem fLiveOn_fieldRise_none {h : Hub} {p : Nat} (detail : Nat) (hp : p < 40) (hh : h.fHidden p 16 = false) :
    fLiveOn (h.fieldRise p 0 detail) p 16 = true := by
  rw [fLiveOn_fieldRise 0 detail hp (by decide), hh, show bitOf (if 0 == 0 then 2 ^ 16 else 0) 16 = true by decide, Bool.not_false,
    Bool.and_true, Bool.or_true]

/-- A fall ends the position on the channels of its set. -/
theorem fLiveOn_fieldFall {h : Hub} {p : Nat} (hp : p < 40) (c chs : Nat) :
    fLiveOn (h.fieldFall p chs) p c = (fLiveOn h p c && !bitOf (if chs == 0 then 2 ^ 16 else chs) c) := by
  unfold Hub.fieldFall
  dsimp only
  generalize (if chs == 0 then 2 ^ 16 else chs) = m
  split
  case isTrue hzero =>
    rw [beq_iff_eq] at hzero
    have hbit := Nat.testBit_and (vget h.flt.fLive p 0) m c
    rw [hzero, Nat.zero_testBit] at hbit
    show _ = ((vget h.flt.fLive p 0).testBit c && !m.testBit c)
    rw [fLiveOn, bitOf]
    cases hl : (vget h.flt.fLive p 0).testBit c <;> cases hc : m.testBit c <;> simp_all
  case isFalse =>
    rw [((SameSignals.refl _).to (sendF_moves _ _)).fLiveOn, fLiveOn, vget_vset_self _ _ _ _ hp, bitOf_clrMask]
    rfl

theorem fLiveOn_fieldFall_none {h : Hub} {p : Nat} (hp : p < 40) : fLiveOn (h.fieldFall p 0) p 16 = false := by
  rw [fLiveOn_fieldFall hp, show bitOf (if 0 == 0 then 2 ^ 16 else 0) 16 = true by decide, Bool.not_true, Bool.and_false]

/-! ### The causes on the logic die, over what follows a command by itself -/

/-- The causes on the logic die are the same in two hubs. -/
def SameCauses (h k : Hub) : Prop := k.flt.cause = h.flt.cause

section
variable {F : Foot} {h₀ h k : Hub}

theorem SameCauses.refl (h : Hub) : SameCauses h h := rfl

theorem SameCauses.trans (x : SameCauses h₀ h) (y : SameCauses h k) : SameCauses h₀ k := Eq.trans y x

theorem SameCauses.flt (x : SameCauses h₀ h) (f : Flt) (hf : f.cause = h.flt.cause := by rfl) : SameCauses h₀ { h with flt := f } :=
  Eq.trans hf x

theorem SameCauses.hinge (x : SameCauses h₀ h) (v : Hinge) : SameCauses h₀ { h with hinge := v } := x

theorem SameCauses.dbt (x : SameCauses h₀ h) (v : Dbt) : SameCauses h₀ { h with dbt := v } := x

theorem SameCauses.bst (x : SameCauses h₀ h) (v : Bst) : SameCauses h₀ { h with bst := v } := x

theorem SameCauses.count (x : SameCauses h₀ h) (f : Fld) (n i w : Nat) : SameCauses h₀ (h.count f n i w) := x

theorem SameSignals.sameCauses (x : SameSignals h k) : SameCauses h k :=
  congrArg (fun f : Vector Nat 62 × Vector Nat 40 × Nat => f.1) x

theorem SameCauses.to (x : SameCauses h₀ h) (y : Moves F h k) (hF : F.parts.contains .flt = false := by decide) : SameCauses h₀ k :=
  x.trans (y.sameSignals hF).sameCauses

theorem SameCauses.ite {a b : Hub} {q : Prop} [Decidable q] (x : SameCauses h₀ a) (y : SameCauses h₀ b) :
    SameCauses h₀ (if q then a else b) := by
  split
  · exact x
  · exact y

theorem SameCauses.bind (x : SameCauses h₀ h) (y : SameCauses h₀ h → SameCauses h₀ k) : SameCauses h₀ k := y x

theorem SameCauses.forAll {f : Hub → Nat → Hub} {l : List Nat} (x : SameCauses h₀ h) (hf : ∀ h c, c ∈ l → SameCauses h (f h c)) :
    SameCauses h₀ (forAll l f h) := by
  induction l generalizing h with
  | nil => exact x
  | cons c rest ih => exact ih (x.trans (hf h c List.mem_cons_self)) fun h d hd => hf h d (List.mem_cons_of_mem c hd)

theorem SameCauses.foldl {α : Type} {f : Hub → α → Hub} {l : List α} (x : SameCauses h₀ h) (hf : ∀ h c, SameCauses h (f h c)) :
    SameCauses h₀ (l.foldl f h) := by
  induction l generalizing h with
  | nil => exact x
  | cons c rest ih => exact ih (x.trans (hf h c))

end

theorem SameCauses.caused {h k : Hub} (x : SameCauses h k) (n res : Nat) : caused k n res = caused h n res :=
  congrArg (fun v : Vector Nat 62 => bitOf (vget v n 0) res) x

theorem fieldRise_sameCauses (h : Hub) (p chs detail : Nat) : SameCauses h (h.fieldRise p chs detail) :=
  .ite (.refl h) (((SameCauses.refl h).flt _).to (sendF_moves _ _))

theorem fieldFall_sameCauses (h : Hub) (p chs : Nat) : SameCauses h (h.fieldFall p chs) :=
  .ite (.refl h) (((SameCauses.refl h).flt _).to (sendF_moves _ _))

theorem outRise_sameCauses (h : Hub) (c b detail : Nat) : SameCauses h (h.outRise c b detail) :=
  .ite (.refl h) ((((SameCauses.refl h).to (modOut_moves _ _ _)).trans (fieldRise_sameCauses _ _ _ _)).to (syncOutFlt_movesAny _ _))

theorem switchFlags_sameCauses (h : Hub) (c : Nat) (was : OutCh) : SameCauses h (h.switchFlags c was) :=
  .bind (.ite (fieldFall_sameCauses h _ _) (.refl h)) fun y => .ite ((y.to (modOut_moves _ _ _)).trans (outRise_sameCauses _ _ _ _)) y

theorem setSwitch_sameCauses (h : Hub) (c : Nat) (on counts : Bool) : SameCauses h (h.setSwitch c on counts) :=
  .bind (.ite ((SameCauses.refl h).to (countTurnOn_moves _ _)) (.refl h)) fun y => ((SameCauses.ite (y.to (dropVf_moves _ _)) y).to
    (modOut_moves _ _ _)).trans (switchFlags_sameCauses _ _ _)

theorem fieldSafe_sameCauses (h : Hub) (chs : List Nat) : SameCauses h (h.fieldSafe chs) :=
  (SameCauses.refl h).forAll fun _ _ _ => .bind ((SameCauses.refl _).to (modOut_moves _ _ _)) fun y =>
    ((SameCauses.ite y (y.hinge _)).to (endWindows_moves _ _)).trans (setSwitch_sameCauses _ _ _ _)

theorem dbJudge_sameCauses (h : Hub) : SameCauses h h.dbJudge :=
  .ite (.refl h) (.bind ((SameCauses.refl h).dbt _) fun y => .ite (y.trans (fieldSafe_sameCauses _ _)) y)

theorem bstDeliver_sameCauses (h : Hub) : SameCauses h h.bstDeliver :=
  .bind (.ite (.refl h) (((SameCauses.refl h).bst _).foldl fun _ _ => (SameCauses.refl _).to (intake_moves _ _))) fun y =>
    .ite y ((y.bst _).foldl fun _ _ => (occurNow_sameSignals _ _ _ _ _ _ _).sameCauses)

theorem settle_sameCauses (before after : Hub) : SameCauses after (settle before after) :=
  .bind (((bstDeliver_sameCauses after).trans (dbJudge_sameCauses _)).forAll fun _ _ _ => (SameCauses.refl _).to (watch_moves _ _ _))
    fun y1 => .bind ((SameCauses.ite y1 (y1.to (intAll_moves _ _))).forAll fun _ _ _ => .ite (.refl _)
    ((SameCauses.refl _).to (sendStat_moves _ _))) fun y4 => (SameCauses.ite (y4.count _ _ _ _) y4).to (follow_moves _ _)

end Sys2Proof.Machine

/-!
PROOF. The timebase and its follower: what a time message leaves of the follower's value, its slew and its lock.
-/

namespace Sys2Proof.Machine

set_option Elab.async false

/-! ### The follower's value -/

theorem slewed_zero (d : Int) : slewed d 0 = 0 := by
  unfold slewed
  split <;> simp

theorem fieldFine_mod (h : Hub) : h.fieldFine % 2 ^ 67 = h.fieldFine := by
  unfold Hub.fieldFine
  dsimp only
  omega

/-- The clocks with the follower set to a value, reduced to its 67 bits. -/
def Clk.setFollower (c : Clk) (v slew : Int) : Clk :=
  { c with follower := (v % ((2 ^ 67 : Nat) : Int)).toNat, followAt := c.now, slew := slew }

theorem clk_setFollower (h : Hub) (v slew : Int) : (h.setFollower v slew).clk = h.clk.setFollower v slew := rfl

/-- The follower reads the value to which it is set in the tick in which it is set. -/
theorem fieldFine_of_set {k : Hub} {v slew : Int} {c : Clk} (hset : k.clk.follower = (c.setFollower v slew).follower)
    (hat : k.clk.followAt = c.now) (hnow : k.clk.now = c.now) : k.fieldFine = (v % ((2 ^ 67 : Nat) : Int)).toNat := by
  unfold Hub.fieldFine
  simp only [hset, hat, hnow, Nat.sub_self, slewed_zero, Clk.setFollower]
  omega

theorem fieldFine_setFollower (h : Hub) (v slew : Int) : (h.setFollower v slew).fieldFine = (v % ((2 ^ 67 : Nat) : Int)).toNat :=
  fieldFine_of_set (c := h.clk) rfl rfl rfl

/-! ### The lock -/

theorem clk_fieldRise (h : Hub) (p chs detail : Nat) : (h.fieldRise p chs detail).clk = h.clk := (fieldRise_moves h p chs detail).keeps .clk

theorem clk_fieldFall (h : Hub) (p chs : Nat) : (h.fieldFall p chs).clk = h.clk := (fieldFall_moves h p chs).keeps .clk

theorem clk_followUnlock (h : Hub) : h.followUnlock.clk = { h.clk with locked := false, goodRun := 0 } := by
  unfold Hub.followUnlock
  split
  case isTrue => exact clk_fieldRise _ _ _ _
  case isFalse hl => simp [Bool.eq_false_iff.mpr hl]

theorem followUnlock_of_locked {h : Hub} (hl : h.clk.locked = true) : h.followUnlock =
    (({ h with clk := { h.clk with locked := false, goodRun := 0 } }).put CLK_STAT_follow_lock false).fieldRise 23 0 0 := if_pos hl

theorem flag_followUnlock {h : Hub} (hl : h.clk.locked = true) : h.followUnlock.flag CLK_STAT_follow_lock = false := by
  rw [followUnlock_of_locked hl]
  exact ((fieldRise_moves _ _ _ _).flag CLK_STAT_follow_lock 0 0).trans (Hub.flag_put_self _ _ _ _ _ rfl)

theorem fLiveOn_followUnlock {h : Hub} (hl : h.clk.locked = true) (hh : h.fHidden 23 16 = false) :
    fLiveOn h.followUnlock 23 16 = true := by
  rw [followUnlock_of_locked hl]
  exact fLiveOn_fieldRise_none 0 (by decide) hh

theorem clk_followLock (h : Hub) : h.followLock.clk = { h.clk with locked := true, tbReset := false } := by
  unfold Hub.followLock
  dsimp only
  rw [clk_fieldFall]
  split <;> rfl

theorem fieldFine_congr {h k : Hub} (hclk : k.clk = h.clk) : k.fieldFine = h.fieldFine := by
  simp only [Hub.fieldFine, hclk]

theorem lfDelay_congr {h k : Hub} (hregs : k.regs = h.regs) (lane : Nat) : k.lfDelay lane = h.lfDelay lane := by
  unfold Hub.lfDelay
  rw [Hub.rd_congr hregs, Hub.rd_congr hregs]

theorem followDiff_congr {h k : Hub} (hclk : k.clk = h.clk) (hregs : k.regs = h.regs) (lane low : Nat) :
    k.followDiff lane low = h.followDiff lane low := by
  unfold Hub.followDiff
  rw [fieldFine_congr hclk, lfDelay_congr hregs]

theorem regs_landOn (h : Hub) (l typ payload : Nat) : (h.landOn l typ payload).regs = h.regs := by
  unfold Hub.landOn
  split
  · rfl
  · split <;> rfl

/-! ### Time messages -/

/-- The hub as a time message shows its difference in CLK_FOLLOW. -/
def Hub.showFollow (h : Hub) (lane : Nat) (diff : Int) : Hub :=
  if h.hinge.upL then (h.wr CLK_FOLLOW_link_delay (h.lfDelay lane)).wr CLK_FOLLOW_err (ofSigned 16 (max (-32768) (min 32767 diff))) else h

/-- What the field die makes of the difference: a step, or a slew and a judgment of the run of good messages (R114, R115). -/
def Hub.judgeTimeS (h : Hub) (diff : Int) : Hub :=
  let k := if 80 < diff.natAbs then h.setFollower (h.fieldFine - diff) else h.setFollower h.fieldFine (-diff)
  if 80 < diff.natAbs then k.followUnlock
  else if !k.clk.long then k
  else if diff.natAbs ≤ 16 then
    let k := { k with clk := { k.clk with goodRun := k.clk.goodRun + 1 } }
    if 16 ≤ k.clk.goodRun && !k.clk.locked then k.followLock else k
  else { k with clk := { k.clk with goodRun := 0 } }

theorem takeTimeS_eq (h : Hub) (lane low : Nat) : h.takeTimeS lane low =
    (Hub.showFollow { h with clk := { h.clk with heardAt := h.clk.now } } lane (h.followDiff lane low)).judgeTimeS (h.followDiff lane low) :=
  rfl
theorem clk_showFollow (h : Hub) (lane : Nat) (diff : Int) : (h.showFollow lane diff).clk = h.clk := by
  unfold Hub.showFollow
  split <;> rfl

theorem clk_judgeTimeS_of_far {h : Hub} {diff : Int} (hfar : 80 < diff.natAbs) :
    (h.judgeTimeS diff).clk = { h.clk.setFollower (h.fieldFine - diff) 0 with locked := false, goodRun := 0 } := by
  rw [Hub.judgeTimeS, if_pos hfar, if_pos hfar, clk_followUnlock, clk_setFollower]

theorem fieldFine_judgeTimeS_of_far {h : Hub} {diff : Int} (hfar : 80 < diff.natAbs) :
    (h.judgeTimeS diff).fieldFine = ((h.fieldFine - diff) % ((2 ^ 67 : Nat) : Int)).toNat := by
  have hset := clk_judgeTimeS_of_far (h := h) hfar
  have hfol : (h.judgeTimeS diff).clk.follower = (h.clk.setFollower (h.fieldFine - diff) 0).follower := by rw [hset]
  have hat : (h.judgeTimeS diff).clk.followAt = h.clk.now := by
    rw [hset]
    rfl
  have hnow : (h.judgeTimeS diff).clk.now = h.clk.now := by
    rw [hset]
    rfl
  exact fieldFine_of_set hfol hat hnow

/-- What a message within 80 fine ticks leaves: the follower as it was, the difference slewed out, and the lock judged. -/
theorem clk_judgeTimeS_of_slewed {h : Hub} {diff : Int} (hfar : ¬ 80 < diff.natAbs) :
    (h.judgeTimeS diff).clk.follower = (h.clk.setFollower h.fieldFine (-diff)).follower ∧
      (h.judgeTimeS diff).clk.followAt = h.clk.now ∧ (h.judgeTimeS diff).clk.now = h.clk.now ∧
      (h.judgeTimeS diff).clk.slew = -diff ∧ (h.clk.long = true → (h.judgeTimeS diff).clk.goodRun =
        (if diff.natAbs ≤ 16 then h.clk.goodRun + 1 else 0) ∧ (h.judgeTimeS diff).clk.locked =
        (h.clk.locked || (decide (diff.natAbs ≤ 16) && decide (16 ≤ h.clk.goodRun + 1)))) := by
  rw [Hub.judgeTimeS, if_neg hfar, if_neg hfar]
  generalize hm : h.setFollower h.fieldFine (-diff) = m
  have hclk : m.clk = h.clk.setFollower h.fieldFine (-diff) := by rw [← hm, clk_setFollower]
  have hlong : m.clk.long = h.clk.long := by rw [hclk]; rfl
  have hgood : m.clk.goodRun = h.clk.goodRun := by rw [hclk]; rfl
  have hlocked : m.clk.locked = h.clk.locked := by rw [hclk]; rfl
  have hat : m.clk.followAt = h.clk.now := by rw [hclk]; rfl
  have hnow : m.clk.now = h.clk.now := by rw [hclk]; rfl
  have hslew : m.clk.slew = -diff := by rw [hclk]; rfl
  rw [← hclk, ← hlong, ← hgood, ← hlocked]
  cases hl : m.clk.long with
  | false =>
    rw [if_pos (by decide)]
    exact ⟨rfl, hat, hnow, hslew, fun he => absurd he Bool.false_ne_true⟩
  | true =>
    rw [if_neg (by decide)]
    by_cases hnear : diff.natAbs ≤ 16
    · rw [if_pos hnear, if_pos hnear]
      dsimp only
      split
      case isTrue hrun =>
        rw [Bool.and_eq_true, decide_eq_true_eq] at hrun
        rw [clk_followLock]
        exact ⟨rfl, hat, hnow, hslew, fun _ => ⟨rfl, by simp [hnear, hrun.1]⟩⟩
      case isFalse hrun =>
        refine ⟨rfl, hat, hnow, hslew, fun _ => ⟨rfl, ?_⟩⟩
        cases hlk : m.clk.locked <;> simp_all
    · rw [if_neg hnear, if_neg hnear]
      exact ⟨rfl, hat, hnow, hslew, fun _ => ⟨rfl, by simp [hnear]⟩⟩

/-- The hub once the field die has taken a message off its lane and shown the difference. -/
def Hub.heardTimeS (h : Hub) (lane v : Nat) : Hub :=
  let h := h.landOn lane 0x10 v
  Hub.showFollow { h with clk := { h.clk with heardAt := h.clk.now } } lane (h.followDiff lane v)

theorem clk_heardTimeS (h : Hub) (lane v : Nat) : (h.heardTimeS lane v).clk = { h.clk with heardAt := h.clk.now } := by
  rw [Hub.heardTimeS, clk_showFollow, (landOn_moves h lane 0x10 v).keeps .clk]

theorem fieldFine_heardTimeS (h : Hub) (lane v : Nat) : (h.heardTimeS lane v).fieldFine = h.fieldFine := by
  simp only [Hub.fieldFine, clk_heardTimeS]

theorem takeTimeS_landOn (h : Hub) (lane v : Nat) :
    (h.landOn lane 0x10 v).takeTimeS lane v = (h.heardTimeS lane v).judgeTimeS (h.followDiff lane v) := by
  rw [takeTimeS_eq, Hub.heardTimeS]
  dsimp only
  rw [followDiff_congr ((landOn_moves h lane 0x10 v).keeps .clk) (regs_landOn h lane 0x10 v)]

/-- A message with the low half, by the size of the difference (R114, R115). -/
theorem timeS_completes {s : State} {lane : Fin 2} {high : Byte} {low : Word} (hc : Can.timeS lane high low s = true) {P : Hub → Prop}
    (hp : P ((s.hub.begun.heardTimeS lane (high ++ low).toNat).judgeTimeS (s.hub.followDiff lane (high ++ low).toNat))) :
    Completes (.timeS lane high low) s P := by
  refine completes_of_begun (exec_timeS lane high low s) ?_
  dsimp only
  rw [if_pos (by exact hc), takeTimeS_landOn, followDiff_congr (h := s.hub) (k := s.hub.begun) rfl rfl]
  exact hp

/-! ### Messages with the high bits -/

/-- Bits [63:40] of the follower at the instant at which a message on the lane was sent. -/
def Hub.sentHigh (h : Hub) (lane : Nat) : Nat := (h.fieldFine + 2 ^ 67 - h.lfDelay lane) % 2 ^ 67 / 2 ^ 43

/-- The hub after a difference in the high bits: a step, which ends the lock. -/
def Hub.stepTimeL (h : Hub) (lane high : Nat) : Hub :=
  if h.sentHigh lane == high then h
  else (h.followUnlock).setFollower (h.fieldFine + ((high : Int) - h.sentHigh lane) * (2 ^ 43 : Nat)) h.clk.slew

/-- The hub once the stamps taken without a time are discarded. -/
def Hub.dropStamps (h : Hub) : Hub := if !h.clk.long && h.clk.tbReset then h.discardStamps else h

/-- The hub with the bits of a message with the high half taken. -/
def Hub.noteTimeL (h : Hub) : Hub :=
  { h with clk := { h.clk with heardAt := h.clk.now, long := true, goodRun := if h.clk.long then h.clk.goodRun else 0 } }

theorem takeTimeL_eq (h : Hub) (lane high : Nat) : h.takeTimeL lane high = (h.stepTimeL lane high).dropStamps.noteTimeL := rfl

theorem clk_dropStamps (h : Hub) : h.dropStamps.clk = h.clk := by
  unfold Hub.dropStamps
  split
  · exact (discardStamps_moves h).keeps .clk
  · rfl

theorem fieldFine_takeTimeL (h : Hub) (lane high : Nat) : (h.takeTimeL lane high).fieldFine = (h.stepTimeL lane high).fieldFine := by
  have hnote (k : Hub) : k.noteTimeL.fieldFine = k.fieldFine := rfl
  rw [takeTimeL_eq, hnote, fieldFine_congr (clk_dropStamps _)]

theorem locked_takeTimeL (h : Hub) (lane high : Nat) : (h.takeTimeL lane high).clk.locked = (h.stepTimeL lane high).clk.locked := by
  have hnote (k : Hub) : k.noteTimeL.clk.locked = k.clk.locked := rfl
  rw [takeTimeL_eq, hnote, clk_dropStamps]

theorem lfDelay_lt (h : Hub) (lane : Nat) : h.lfDelay lane < 2 ^ 67 := by
  have h0 : h.rd HNG_DELAY_LF_lf0 < 2 ^ 16 := Hub.rd_lt h HNG_DELAY_LF_lf0 0 0
  have h1 : h.rd HNG_DELAY_LF_lf1 < 2 ^ 16 := Hub.rd_lt h HNG_DELAY_LF_lf1 0 0
  unfold Hub.lfDelay
  split <;> omega

/-- A step of the high bits makes them those of the message at its send instant. -/
theorem high_of_step {fine d high was : Nat} (hd : d < 2 ^ 67) (hhigh : high < 2 ^ 24) (hwas : (fine + 2 ^ 67 - d) % 2 ^ 67 / 2 ^ 43 = was) :
    ((((fine : Int) + ((high : Int) - was) * (2 ^ 43 : Nat)) % ((2 ^ 67 : Nat) : Int)).toNat + 2 ^ 67 - d) % 2 ^ 67 / 2 ^ 43 = high := by
  omega

theorem sentHigh_stepTimeL (h : Hub) (lane : Nat) {high : Nat} (hhigh : high < 2 ^ 24) :
    ((h.stepTimeL lane high).fieldFine + 2 ^ 67 - h.lfDelay lane) % 2 ^ 67 / 2 ^ 43 = high := by
  rw [Hub.stepTimeL]
  by_cases hsame : h.sentHigh lane = high
  · rw [if_pos (by rw [hsame, beq_self_eq_true])]
    exact hsame
  · rw [if_neg (by rwa [beq_iff_eq]), fieldFine_setFollower]
    exact high_of_step (lfDelay_lt h lane) hhigh rfl

theorem locked_stepTimeL {h : Hub} {lane high : Nat} (hne : h.sentHigh lane ≠ high) : (h.stepTimeL lane high).clk.locked = false := by
  rw [Hub.stepTimeL, if_neg (by rwa [beq_iff_eq]), clk_setFollower, clk_followUnlock]
  rfl

/-! ### The clauses -/

/-- Settles O5: each clause by the lemma of what its command leaves of the clocks. -/
theorem timebaseCommands : Obligations.TimebaseCommands := by
  refine ⟨?wrap, ?latch, ?timeS, ?timeL, ?timeout⟩
  case wrap =>
    intro s hc
    refine completes_of_begun (exec_timebaseWrap s) ?_
    rw [if_pos (by exact hc)]
    exact ⟨fun w => flag_setWrapped _ w.isLt, (setWrapped_moves _).keeps .clk⟩
  case latch =>
    intro s w hc
    refine completes_of_begun (exec_clkTbLoRead w s) ?_
    rw [if_pos (by exact hc)]
    exact ⟨Hub.rd_wr_self _ _ _ _ _, rfl⟩
  case timeS =>
    intro s lane high low hc
    refine timeS_completes hc ?_
    generalize hd : s.hub.followDiff lane (high ++ low).toNat = diff
    have hclk : (s.hub.begun.heardTimeS lane (high ++ low).toNat).clk = { s.hub.clk with heardAt := s.hub.clk.now } :=
      clk_heardTimeS s.hub.begun lane (high ++ low).toNat
    have hfine : (s.hub.begun.heardTimeS lane (high ++ low).toNat).fieldFine = s.hub.fieldFine := fieldFine_heardTimeS _ _ _
    generalize s.hub.begun.heardTimeS lane (high ++ low).toNat = k at hclk hfine
    have hlong : k.clk.long = s.hub.clk.long := by rw [hclk]
    have hgood : k.clk.goodRun = s.hub.clk.goodRun := by rw [hclk]
    have hlocked : k.clk.locked = s.hub.clk.locked := by rw [hclk]
    refine ⟨fun hfar => ?_, fun hnear => ?_, fun hnear hl => ?_, fun hn hnear hl => ?_⟩
    · have hset := clk_judgeTimeS_of_far (h := k) hfar
      refine ⟨by rw [hset], by rw [hset], ?_⟩
      rw [← hfine]
      exact fieldFine_judgeTimeS_of_far hfar
    · obtain ⟨hfol, hat, hnow, hslew, -⟩ := clk_judgeTimeS_of_slewed (h := k) (diff := diff) (by omega)
      refine ⟨?_, hslew⟩
      rw [fieldFine_of_set hfol hat hnow, hfine]
      omega
    · obtain ⟨-, -, -, -, hjudge⟩ := clk_judgeTimeS_of_slewed (h := k) (diff := diff) (by omega)
      obtain ⟨hrun, hlock⟩ := hjudge (hlong.trans hl)
      rw [hrun, hlock, if_pos hnear, hgood, hlocked]
      simp [hnear]
    · obtain ⟨-, -, -, -, hjudge⟩ := clk_judgeTimeS_of_slewed (h := k) (diff := diff) (by omega)
      obtain ⟨hrun, hlock⟩ := hjudge (hlong.trans hl)
      rw [hrun, hlock, if_neg (by omega), hlocked]
      simp [Nat.not_le.mpr hn]
  case timeL =>
    intro s lane high hc
    refine completes_of_begun (exec_timeL lane high s) ?_
    rw [if_pos (by exact hc)]
    have hclk : (s.hub.begun.landOn lane 0x11 high.toNat).clk = s.hub.clk := (landOn_moves _ _ _ _).keeps .clk
    have hfine := fieldFine_congr hclk
    have hdelay : (s.hub.begun.landOn lane 0x11 high.toNat).lfDelay lane = s.hub.lfDelay lane :=
      lfDelay_congr (regs_landOn s.hub.begun lane 0x11 high.toNat) lane
    generalize s.hub.begun.landOn lane 0x11 high.toNat = k at hclk hfine hdelay
    refine ⟨by rw [takeTimeL_eq]; rfl, ?_, fun hne => ?_⟩
    · rw [fieldFine_takeTimeL, ← hdelay]
      exact sentHigh_stepTimeL k lane high.isLt
    · rw [locked_takeTimeL]
      exact locked_stepTimeL (by rwa [Hub.sentHigh, hfine, hdelay])
  case timeout =>
    intro s hc
    refine completes_of_begun (exec_followerTimeout s) ?_
    have hdue : s.hub.clk.heardAt + 50 * Config.ticksPerUs ≤ s.hub.clk.now := of_decide_eq_true hc
    rw [if_pos (by exact hdue), clk_followUnlock]
    refine ⟨rfl, rfl, fun hl => ?_⟩
    exact ⟨flag_followUnlock (h := s.hub.begun) hl, fun hh => fLiveOn_followUnlock (h := s.hub.begun) hl hh⟩

end Sys2Proof.Machine

/-!
PROOF. A failed proof of a tumbler's deadline monitor leaves no condition: PROOF_FAIL takes the hub to *Safe*, where the tumbler stops,
its mechanism is paused, and the failed instance waits for its re-proof instead (R517).
-/

namespace Sys2Proof.Machine

/-- The reset state in *Run* with tumbler 0 at work and the proof of its deadline monitor under way; an earlier first fault stands. -/
def deadlineProof : State :=
  { State.reset with hub := { ((State.reset.hub.wr TMB_STAT_state 2 0).put FLT_FIRST_valid true) with
    dev := { State.reset.hub.dev with phase := .up }, dbt := { State.reset.hub.dbt with proof := some { mech := 8 } } } }

/-- The detection comes after its budget, and no cause of PROOF_FAIL is left. -/
theorem exec_deadlineProof : ∃ f : Hub → Hub, exec (.proofDetect 100001) deadlineProof = deadlineProof.on f ∧
    caused (f { deadlineProof.hub with flt := { deadlineProof.hub.flt with fresh := false } }) 45 16 = false :=
  ⟨_, exec_proofDetect 100001 deadlineProof, by decide +kernel⟩

/-- Refutes O34: in `deadlineProof` a late detection fails the proof; PROOF_FAIL takes the hub to *Safe*, its tumbler stops, and the
failed instance, whose mechanism is paused now, is marked for re-proof, so that no cause of PROOF_FAIL is left. -/
theorem not_proofCommands : ¬ Obligations.ProofCommands := by
  rintro ⟨-, -, -, -, -, -, -, hlate, -⟩
  obtain ⟨f, hf, hended⟩ := exec_deadlineProof
  obtain ⟨t, h, hexec, -, ⟨hfail, -⟩, hhub, -⟩ := hlate deadlineProof 100001 (by decide +kernel)
  have hcaused : caused h 45 16 = true := hfail rfl _ rfl (by decide +kernel)
  have hsame : settle deadlineProof.hub (f _) = settle deadlineProof.hub h := (hub_of_on hf hexec).symm.trans hhub
  have hcause : true = false :=
    calc true = caused h 45 16 := hcaused.symm
      _ = caused (settle deadlineProof.hub h) 45 16 := ((settle_sameCauses _ h).caused 45 16).symm
      _ = caused (settle deadlineProof.hub (f _)) 45 16 := by rw [hsame]
      _ = caused (f _) 45 16 := (settle_sameCauses _ _).caused 45 16
      _ = false := hended
  exact absurd hcause (by decide)

end Sys2Proof.Machine

/-!
PROOF. Where a group under test holds occurrences back, what follows a command delivers none: the memory then is as the command left it.
A fault of the class *Safe* is acted on at once all the same (R589); it stops the tumblers, and a MARCH that it stops leaves its bank
undefined (R313).
-/

namespace Sys2Proof.Machine

set_option Elab.async false

/-! ### The group under test -/

/-- The group under test is the same in two hubs, or none is under test in the second. -/
def SameGroup (h k : Hub) : Prop := k.testGroup = h.testGroup ∨ k.testGroup = 15

section
variable {F : Foot} {h₀ h k : Hub}

theorem SameGroup.refl (h : Hub) : SameGroup h h := .inl rfl

theorem SameGroup.trans (x : SameGroup h₀ h) (y : SameGroup h k) : SameGroup h₀ k := by
  rcases y with y | y
  · rcases x with x | x
    · exact .inl (y.trans x)
    · exact .inr (y.trans x)
  · exact .inr y

theorem Moves.testGroup (x : Moves F h k) (hb : F.avoids BST_STAT_busy = true := by decide +kernel)
    (hg : F.avoids BST_STAT_group = true := by decide +kernel) : k.testGroup = h.testGroup := by
  simp only [Hub.testGroup, x.flag BST_STAT_busy 0 0 (by decide) hb, x.rd BST_STAT_group 0 0 (by decide) hg]

theorem Moves.sameGroup (x : Moves F h k) (hb : F.avoids BST_STAT_busy = true := by decide +kernel)
    (hg : F.avoids BST_STAT_group = true := by decide +kernel) : SameGroup h k := .inl (x.testGroup hb hg)

theorem SameGroup.to (x : SameGroup h₀ h) (y : Moves F h k) (hb : F.avoids BST_STAT_busy = true := by decide +kernel)
    (hg : F.avoids BST_STAT_group = true := by decide +kernel) : SameGroup h₀ k := x.trans (y.sameGroup hb hg)

theorem SameGroup.dev (x : SameGroup h₀ h) (v : Dev) : SameGroup h₀ { h with dev := v } := x

theorem SameGroup.bst (x : SameGroup h₀ h) (v : Bst) : SameGroup h₀ { h with bst := v } := x

theorem SameGroup.flt (x : SameGroup h₀ h) (v : Flt) : SameGroup h₀ { h with flt := v } := x

theorem SameGroup.wr (x : SameGroup h₀ h) (f : Fld) (v i w : Nat) (hb : BST_STAT_busy.apart f = true := by decide)
    (hg : BST_STAT_group.apart f = true := by decide) : SameGroup h₀ (h.wr f v i w) := by
  refine x.trans (.inl ?_)
  rw [Hub.testGroup, Hub.testGroup, Hub.flag_wr_apart h v i w 0 0 hb, Hub.rd_wr_apart h v i w 0 0 hg]

theorem SameGroup.count (x : SameGroup h₀ h) (f : Fld) (n i w : Nat) (hb : BST_STAT_busy.apart f = true := by decide)
    (hg : BST_STAT_group.apart f = true := by decide) : SameGroup h₀ (h.count f n i w) := x.wr f _ i w hb hg

theorem SameGroup.ite {a b : Hub} {q : Prop} [Decidable q] (x : SameGroup h₀ a) (y : SameGroup h₀ b) :
    SameGroup h₀ (if q then a else b) := by
  split
  · exact x
  · exact y

theorem SameGroup.bind (x : SameGroup h₀ h) (y : SameGroup h₀ h → SameGroup h₀ k) : SameGroup h₀ k := y x

theorem SameGroup.forAll {f : Hub → Nat → Hub} {l : List Nat} (x : SameGroup h₀ h) (hf : ∀ h c, c ∈ l → SameGroup h (f h c)) :
    SameGroup h₀ (forAll l f h) := by
  induction l generalizing h with
  | nil => exact x
  | cons c rest ih => exact ih (x.trans (hf h c List.mem_cons_self)) fun h d hd => hf h d (List.mem_cons_of_mem c hd)

theorem SameGroup.foldl {α : Type} {f : Hub → α → Hub} {l : List α} (x : SameGroup h₀ h) (hf : ∀ h c, SameGroup h (f h c)) :
    SameGroup h₀ (l.foldl f h) := by
  induction l generalizing h with
  | nil => exact x
  | cons c rest ih => exact ih (x.trans (hf h c))

/-- Where BST_STAT.busy is cleared no group is under test. -/
theorem testGroup_put_busy (h : Hub) : (h.put BST_STAT_busy false).testGroup = 15 := by
  rw [Hub.testGroup, Hub.flag_put_self _ _ _ _ _ rfl]
  rfl

theorem SameGroup.ended (x : Moves F (h.put BST_STAT_busy false) k) (hb : F.avoids BST_STAT_busy = true := by decide +kernel)
    (hg : F.avoids BST_STAT_group = true := by decide +kernel) : SameGroup h₀ k := by
  right
  rcases x.sameGroup hb hg with hsame | hnone
  · rw [hsame, testGroup_put_busy]
  · exact hnone

end

/-- What an ended test leaves beside BST_STAT.busy. -/
def endFoot : Foot := ⟨[.dev, .bst], [BST_RUNS_runs, BST_RUNS_fails, BST_TIME_time], []⟩

theorem endTest_sameGroup (h₀ h : Hub) (result : Nat) : SameGroup h₀ (h.endTest result) := by
  refine SameGroup.ended (F := endFoot) (h := (h.wr BST_STAT_result result).wr BST_STAT_group 0xF) ?_
  exact .bind ((Moves.refl _ _).count _ _ _ _) fun y => .bind (.ite (y.count _ _ _ _) y) fun y => (y.wr _ _ _ _).dev_bst _ _

theorem abortTest_sameGroup (h : Hub) : SameGroup h h.abortTest :=
  .ite ((((endTest_sameGroup h h 3).to (bistRecord_moves _)).to (wdStartAll_moves _)).to (intEvent_moves _ _ _)) (.refl h)

theorem cancelBist_sameGroup (h : Hub) : SameGroup h h.cancelBist :=
  .ite (.ended (F := ⟨[.ints, .pins], intFlds ++ [BST_STAT_result], []⟩) (((Moves.refl _ _).wr _ _ _ _).to (intEvent_moves _ _ _)))
    (.refl h)

theorem enterSafe_sameGroup (h : Hub) (n : Nat) : SameGroup h (h.enterSafe n) :=
  .ite (.refl h) (.ite ((((SameGroup.refl h).dev _).to (noBoltRel_moves _)).to (wantTone_moves _ _) |>.wr _ _ _ _)
    (((((((((((((abortTest_sameGroup h).trans (cancelBist_sameGroup _)).dev _).to (noBoltRel_moves _)).to (wantTone_moves _ _)).to
    (sendSafe_moves _ _ (fun _ hc => (List.mem_range.mp (List.mem_filter.mp hc).1)))).forAll fun _ t ht3 => (SameGroup.refl _).to
    (tmbStop_moves _ _ _ _ (List.mem_range.mp ht3))).to (closeSafetyPages_moves _)).to (abandonProof_moves _)).count _ _ _ _).wr
    _ _ _ _).to (note_moves _ _ _ _ _ _ _)).to (intAll_moves _ _)))

theorem holdWard_sameGroup (h : Hub) (w n : Nat) : SameGroup h (h.holdWard w n) :=
  .ite (enterSafe_sameGroup h n) (.ite ((((SameGroup.refl h).dev _).to (sendSafe_moves _ _ fun _ hc => bitList_lt hc)).forAll
    fun _ _ ht => (SameGroup.refl _).to (tmbStop_moves _ _ _ _ (bitList_lt ht))) (.refl h))

theorem wardReaction_sameGroup (h : Hub) (n wards : Nat) : SameGroup h (h.wardReaction n wards) :=
  .bind (.ite ((SameGroup.refl h).forAll fun _ _ _ => (SameGroup.refl _).to (intEvent_moves _ _ _)) (.refl h)) fun y =>
    .ite (y.forAll fun _ _ _ => holdWard_sameGroup _ _ _) y

theorem occurNow_sameGroup (h : Hub) (n wards detail : Nat) (forced rec late : Bool) :
    SameGroup h (h.occurNow n wards detail forced rec late) :=
  .ite (.refl h) (.bind ((SameGroup.refl h).flt _) fun y => .ite y (.bind ((y.to (detailWord_moves _ _)).flt _) fun y3 =>
    .bind (.ite (y3.to (captureFirst_moves _ _ _ _)) y3) fun y4 => .bind (.ite (y4.to (intake_moves _ _)) y4) fun y5 =>
    .ite y5 (.bind (y5.trans (wardReaction_sameGroup _ _ _)) fun y6 => .ite (y6.trans (enterSafe_sameGroup _ _)) y6)))

/-! ### What follows a command while occurrences are held back -/

/-- The hub once the intakes that waited for LG4 are delivered. -/
def Hub.deliverIntakes (h : Hub) : Hub :=
  if h.testGroup == 4 || h.bst.intakes.isEmpty then h
  else h.bst.intakes.foldl Hub.intake { h with bst := { h.bst with intakes := [] } }

theorem deliverIntakes_moves (h : Hub) : Moves ⟨[.ret, .recd, .bst], noteFlds, []⟩ h h.deliverIntakes :=
  .ite (Moves.refl _ h) (((Moves.refl _ h).bst _).foldl fun _ _ _ => (Moves.refl _ _).to (intake_moves _ _))

/-- The hub once the occurrences that waited for LG5 are delivered. -/
def Hub.deliverOccurs (h : Hub) : Hub :=
  h.bst.occurs.foldl (fun h x => h.occurNow x.1 x.2.1 x.2.2 false true true) { h with bst := { h.bst with occurs := [] } }

theorem bstDeliver_eq (h : Hub) : h.bstDeliver =
    if h.deliverIntakes.testGroup == 5 || h.deliverIntakes.bst.occurs.isEmpty then h.deliverIntakes else h.deliverIntakes.deliverOccurs := rfl

theorem deliverOccurs_sameGroup (h : Hub) : SameGroup h h.deliverOccurs :=
  ((SameGroup.refl h).bst _).foldl fun _ _ => occurNow_sameGroup _ _ _ _ _ _ _

/-- What follows a command beside the delivery of what a group under test held back. -/
def restFoot : Foot := ⟨[.hinge, .outs, .ins, .dbt, .sch, .flt, .life, .fol, .ints, .pins],
  outFltFlds ++ intFlds ++ [IN_STAT_window, FLT_ERR_falls], []⟩

theorem settle_movesOf_bstDeliver (before after : Hub) : Moves restFoot after.bstDeliver (settle before after) :=
  .bind (((Moves.refl _ after.bstDeliver).to (dbJudge_moves _)).forAll fun _ _ _ => (Moves.refl _ _).to (watch_moves _ _ _)) fun y1 =>
    .bind ((Moves.ite y1 (y1.to (intAll_moves _ _))).forAll fun _ _ _ => .ite (Moves.refl _ _) ((Moves.refl _ _).to
    (sendStat_moves _ _))) fun y4 => (Moves.ite (y4.count _ _ _ _) y4).to (follow_moves _ _)

/-- While LG5 is under test in the end, no occurrence has been delivered. -/
theorem bstDeliver_of_held {before after : Hub} (hg : (settle before after).testGroup = 5) : after.bstDeliver = after.deliverIntakes := by
  have hgroup : SameGroup after.bstDeliver (settle before after) := (settle_movesOf_bstDeliver before after).sameGroup
  rw [bstDeliver_eq]
  split
  · rfl
  case isFalse hwaits =>
    rw [bstDeliver_eq, if_neg hwaits] at hgroup
    rcases (deliverOccurs_sameGroup after.deliverIntakes).trans hgroup with hsame | hnone
    · rw [hg] at hsame
      exact absurd (by rw [← hsame]; rfl) hwaits
    · rw [hg] at hnone
      exact absurd hnone (by decide)

theorem settle_moves_of_held {before after : Hub} (hg : (settle before after).testGroup = 5) :
    Moves (restFoot.join ⟨[.ret, .recd, .bst], noteFlds, []⟩) after (settle before after) := by
  have hrest := settle_movesOf_bstDeliver before after
  rw [bstDeliver_of_held hg] at hrest
  exact ((Moves.refl _ after).to (deliverIntakes_moves after)).to hrest

end Sys2Proof.Machine

/-!
PROOF. A command that leaves the memory but raises a fault of the class *Safe* can spoil it: the MARCH that the entry to *Safe* stops
leaves its bank undefined (R313).
-/

namespace Sys2Proof.Machine

set_option Elab.async false

/-! ### An abandoned MARCH -/

/-- A byte that is listed alone, whatever its value, is gone once it is written. -/
theorem cellsSet_of_single (d x : BitVec 8) (a b : Nat) (bytes : List Nat) :
    cellsSet d [(a, x)] a (b :: bytes) = cellsSet d [] a (b :: bytes) := by
  simp [cellsSet, cellSet]

theorem freeBytes_mem (h : Hub) (n : Nat) : (h.freeBytes n).2.mem = h.mem := (freeBytes_moves h n).keeps .mem

/-- The bank of an abandoned element is in canonical form, also where its first byte was listed as 0. -/
theorem canonical_marchAbandon {h : Hub} {t : Nat} {m : MarchRun} {x : BitVec 8} (ht : t < 8) (hm : (h.tmb t).march = some m)
    (hmem : h.mem = [(bankAddr m.bank 0, x)]) (hnvm : h.nvm.toList.all (fun v => Memory.wf 0xFF v.mem) = true) :
    (h.marchAbandon t).canonical := by
  have hbytes (k : Hub) (n : Nat) : (k.freeBytes (n + 1)).1 = (k.freeNat 8).1 :: ((k.freeNat 8).2.freeBytes n).1 := rfl
  refine ⟨?_, ?_⟩
  · rw [mem_marchAbandon hm, freeBytes_mem, hmem, hbytes h 0x3FFF, cellsSet_of_single]
    exact memory_wf_cellsSet _ _ rfl
  · rw [show (h.marchAbandon t).nvm = h.nvm from (marchAbandon_moves h t ht).keeps .nvm]
    exact hnvm

/-- A change whose footprint leaves the form of the memory aside keeps it canonical. -/
theorem Moves.canonical {F : Foot} {h k : Hub} (x : Moves F h k) (hh : h.canonical)
    (hF : F.parts.contains .canon = false := by decide +kernel) : k.canonical := x.part .canon hF hh

/-! ### Entry to *Safe* -/

/-- The hub as an entry to *Safe* leaves it before it stops the tumblers (R515). -/
def Hub.safeBefore (h : Hub) : Hub :=
  let h := h.abortTest.cancelBist
  let h := { h with dev := { h.dev with safe := true, exitStep := 0 } }.noBoltRel
  (h.wantTone .bolt).sendSafe h.outList

/-- What an entry to *Safe* does after it has stopped the tumblers (R515). -/
def Hub.safeAfter (h : Hub) (n : Nat) : Hub :=
  let h := h.closeSafetyPages.abandonProof
  let h := (h.count DBT_SAFE_CAUSE_entries).wr DBT_SAFE_CAUSE_source n
  (h.note 0x24 0x48 sevSafety 8 [n, h.safeCause]).intAll 4

theorem enterSafe_eq {h : Hub} (hs : h.dev.safe = false) (n : Nat) :
    h.enterSafe n = (forAll (List.range 8) (fun h t => h.tmbStop t 6 true) h.safeBefore).safeAfter n := by
  unfold Hub.enterSafe
  rw [hs]
  rfl

theorem safeAfter_moves (h : Hub) (n : Nat) : Moves ⟨[.dbt, .ret, .recd, .bst, .ints, .pins],
    forceFlds ++ intFlds ++ noteFlds ++ [WRD_EXP_OPEN_open, DBT_SAFE_CAUSE_entries, DBT_SAFE_CAUSE_source], []⟩ h (h.safeAfter n) :=
  .bind (((Moves.refl _ h).to (closeSafetyPages_moves _)).to (abandonProof_moves _)) fun y =>
    (((y.count _ _ _ _).wr _ _ _ _).to (note_moves _ _ _ _ _ _ _)).to (intAll_moves _ _)

/-- The entry to *Safe* that abandons the element of tumbler 0 leaves the memory in canonical form. -/
theorem canonical_enterSafe {h : Hub} {m : MarchRun} {x : BitVec 8} (hs : h.dev.safe = false) (n : Nat)
    (hm : (h.safeBefore.tmb 0).march = some m) (hmem : h.safeBefore.mem = [(bankAddr m.bank 0, x)])
    (hnvm : h.safeBefore.nvm.toList.all (fun v => Memory.wf 0xFF v.mem) = true) : (h.enterSafe n).canonical := by
  have hstop : (h.safeBefore.tmbStop 0 6 true).canonical :=
    (tmbStop_movesOf_marchAbandon h.safeBefore 0 6 true).canonical (canonical_marchAbandon (by decide) hm hmem hnvm)
  have hrest (k : Hub) (l : List Nat) (hl : ∀ t ∈ l, t < 8) : Moves safeFoot k (forAll l (fun h t => h.tmbStop t 6 true) k) :=
    (Moves.refl _ k).forAll fun _ t ht => (Moves.refl _ _).to (tmbStop_moves _ t 6 true (hl t ht))
  have hsplit (f : Hub → Nat → Hub) (k : Hub) : forAll (List.range 8) f k = forAll [1, 2, 3, 4, 5, 6, 7] f (f k 0) := rfl
  rw [enterSafe_eq hs, hsplit]
  exact (safeAfter_moves _ n).canonical ((hrest _ [1, 2, 3, 4, 5, 6, 7] (by decide)).canonical hstop)

/-! ### A fault of the class *Safe* -/

/-- The wards to which an occurrence is attributed (R538). -/
def Hub.occurWards (h : Hub) (n wards : Nat) : Nat := if w0Sources.contains n || wards == 0 || h.dev.phase == .recovery then 1 else wards

/-- The hub once the first occurrence of a source is counted, its status set and its record made (R538). -/
def Hub.occurRecorded (h : Hub) (n wards detail : Nat) : Hub :=
  let h := { h with flt := { h.flt with counts := vset h.flt.counts n (satInc 65535 (vget h.flt.counts n 0)) } }
  let p := h.detailWord detail
  let detail := p.1
  let h := p.2
  let h := { h with flt := { h.flt with mask := vset h.flt.mask n (0 ||| wards) } }
  let h := h.captureFirst n detail false
  h.intake { typ := 0x01, source := n, sev := classSev (h.fltClass n), len := 8
             ward := if w0Sources.contains n then 0xFF else (bitList 8 wards).headD 0
             flags := 0, payload := [(0 ||| wards) + (if h.fltLive n then 256 else 0), detail] }

/-- The hub as the first occurrence of a source leaves it before it enters *Safe*. -/
def Hub.occurBefore (h : Hub) (n wards detail : Nat) : Hub :=
  (h.occurRecorded n (h.occurWards n wards) detail).wardReaction n (clrMask (h.occurWards n wards) 0)

/-- The first occurrence of a source of the class *Safe* enters *Safe*. -/
theorem occurNow_eq {h : Hub} {n wards detail : Nat} (hphase : h.dev.phase = .up) (hen : h.fltEnabled n = true) (hmask : h.fltMask n = 0)
    (hlater : (h.occurRecorded n (h.occurWards n wards) detail).judgesLater = false)
    (hclass : (h.occurBefore n wards detail).fltClass n = 5) :
    h.occurNow n wards detail = (h.occurBefore n wards detail).enterSafe n := by
  have hcount (c : Vector Nat 62) : ({ h with flt := { h.flt with counts := c } } : Hub).fltEnabled n = true := hen
  have hold (c : Vector Nat 62) : (Hub.detailWord { h with flt := { h.flt with counts := c } } detail).2.fltMask n = 0 := by
    refine Eq.trans ?_ hmask
    unfold Hub.detailWord
    split <;> rfl
  have hpart : h.occurNow n wards detail = if (h.occurRecorded n (h.occurWards n wards) detail).judgesLater
      then h.occurRecorded n (h.occurWards n wards) detail
      else if (0 == 0 && (h.occurBefore n wards detail).fltClass n == 5) then (h.occurBefore n wards detail).enterSafe n
      else h.occurBefore n wards detail := by
    rw [Hub.occurNow, show (h.dev.phase == Phase.recovery && !recoverySources.contains n) = false by rw [hphase]; rfl,
      if_neg Bool.false_ne_true]
    dsimp only
    rw [hcount, if_neg (by decide), hold]
    rfl
  rw [hpart, hlater, hclass]
  rfl

/-- The entry to *Safe* that abandons the element of tumbler 0 while LG5 is under test: the memory is canonical after it, and LG5 is
under test still. -/
theorem enterSafe_held {h : Hub} {m : MarchRun} {x : BitVec 8} (hs : h.dev.safe = false) (n : Nat)
    (hm : (h.safeBefore.tmb 0).march = some m) (hmem : h.safeBefore.mem = [(bankAddr m.bank 0, x)])
    (hnvm : h.safeBefore.nvm.toList.all (fun v => Memory.wf 0xFF v.mem) = true) (hg : h.safeBefore.testGroup = 5) :
    (h.enterSafe n).canonical ∧ (h.enterSafe n).testGroup = 5 := by
  refine ⟨canonical_enterSafe hs n hm hmem hnvm, ?_⟩
  have hstops : Moves ⟨[.hinge, .tmbs, .sch, .ints, .pins, .eng, .mem, .free], intFlds ++ stopFlds ++ [SCH_STAT_queued,
      TMB_MARCH_CNT_count, TMB_MARCH_FIRST_addr, TMB_MARCH_FIRST_valid, TMB_MARCH_SIG_sig], []⟩ h.safeBefore
      (forAll (List.range 8) (fun h t => h.tmbStop t 6 true) h.safeBefore) :=
    (Moves.refl _ _).forAll fun _ t ht => (Moves.refl _ _).to (tmbStop_moves _ t 6 true (List.mem_range.mp ht))
  rw [enterSafe_eq hs, (safeAfter_moves _ n).testGroup, hstops.testGroup, hg]

/-! ### What a command that leaves the memory can still reach -/

/-- While LG5 is under test what follows a command leaves it under test. -/
theorem testGroup_settle_of_held (before : Hub) {h : Hub} (hg : h.testGroup = 5) : (settle before h).testGroup = 5 := by
  have hintakes : h.deliverIntakes.testGroup = 5 := by rw [(deliverIntakes_moves h).testGroup, hg]
  have hdeliver : h.bstDeliver = h.deliverIntakes := by
    rw [bstDeliver_eq, hintakes]
    rfl
  rw [(settle_movesOf_bstDeliver before h).testGroup, hdeliver, hintakes]

/-- No command completes with the memory as it was where that was not in canonical form and is so after the command, with LG5 under
test. -/
theorem not_completes_mem {c : Instr} {s : State} {f : Hub → Hub} {P : Hub → Prop} (hP : ∀ h, P h → h.mem = s.hub.mem)
    (hf : exec c s = s.on f) (hmem : Memory.wf 0 s.hub.mem = false) (hcanon : (f s.hub.begun).canonical)
    (hg : (f s.hub.begun).testGroup = 5) : ¬ Completes c s P := by
  rintro ⟨t, h, hexec, -, hp, hhub, -⟩
  have ht : t.hub = settle s.hub (f s.hub.begun) := hub_of_on hf hexec
  have hheld : (settle s.hub h).testGroup = 5 := by rw [← hhub, ht, testGroup_settle_of_held s.hub hg]
  have hsame : t.hub.mem = s.hub.mem := by
    rw [hhub, show (settle s.hub h).mem = h.mem from (settle_moves_of_held hheld).keeps .mem, hP h hp]
  have hwf : Memory.wf 0 t.hub.mem = true := by
    rw [ht]
    exact ((settle_moves s.hub _).canonical hcanon).1
  rw [hsame, hmem] at hwf
  exact Bool.false_ne_true hwf

/-! ### The state -/

/-- The hub in *Run* with LG5 under test and tumbler 0 in a MARCH of bank 0, of which one byte is listed as 0; the sources of a host
port's CRC error and of a corrected memory error have the class *Safe*. -/
def hotState : State :=
  { State.reset with hub :=
    { ((((((State.reset.hub.wr (FLT_CLASS_class 39) 5).put (FLT_EN_en 39) true).wr (FLT_CLASS_class 42) 5).put (FLT_EN_en 42) true).put
        FLT_FIRST_valid true).put BST_STAT_busy true).wr BST_STAT_group 5 with
      dev := { State.reset.hub.dev with phase := .up }, sup := { State.reset.hub.sup with on := 0xFF }
      mem := [(0x100000, 0)], tmbs := vset State.reset.hub.tmbs 0 { march := some { bank := 0 } } } }

/-- A fault of the class *Safe* in `hotState`, or in a state alike, spoils the bank. -/
theorem event_held {h : Hub} {n wards : Nat} (hhide : h.proofHides n 16 = false) (hwait : (h.testGroup == 5 && h.fltClass n != 5) = false)
    (hphase : h.dev.phase = .up) (hen : h.fltEnabled n = true) (hmask : h.fltMask n = 0)
    (hlater : (h.occurRecorded n (h.occurWards n wards) detailOpen).judgesLater = false)
    (hclass : (h.occurBefore n wards detailOpen).fltClass n = 5) (hs : (h.occurBefore n wards detailOpen).dev.safe = false)
    (hm : (((h.occurBefore n wards detailOpen).safeBefore.tmb 0).march = some { bank := 0 }))
    (hmem : (h.occurBefore n wards detailOpen).safeBefore.mem = [(bankAddr 0 0, 0)])
    (hnvm : (h.occurBefore n wards detailOpen).safeBefore.nvm.toList.all (fun v => Memory.wf 0xFF v.mem) = true)
    (hg : (h.occurBefore n wards detailOpen).safeBefore.testGroup = 5) :
    (h.event n wards detailOpen).canonical ∧ (h.event n wards detailOpen).testGroup = 5 := by
  have henter : h.event n wards detailOpen = (h.occurBefore n wards detailOpen).enterSafe n := by
    rw [Hub.event, hhide, if_neg Bool.false_ne_true, Hub.occur, hwait, if_neg Bool.false_ne_true]
    exact occurNow_eq hphase hen hmask hlater hclass
  rw [henter]
  exact enterSafe_held hs n hm hmem hnvm hg

/-- The hub once a corrected error of bank 0 is counted. -/
def eccHub : Hub := hotState.hub.begun.count BNK_ECC_ce 1 0

theorem eccHub_held : (eccHub.event 42 1 detailOpen).canonical ∧ (eccHub.event 42 1 detailOpen).testGroup = 5 :=
  event_held (by decide +kernel) (by decide +kernel) (by decide +kernel) (by decide +kernel) (by decide +kernel) (by decide +kernel)
    (by decide +kernel) (by decide +kernel) (by decide +kernel) (by decide +kernel) (by decide +kernel) (by decide +kernel)

theorem exec_eccCorrected_hotState : ∃ f : Hub → Hub, exec (.eccCorrected 0 0) hotState = hotState.on f ∧
    f hotState.hub.begun = eccHub.event 42 1 detailOpen := by
  refine ⟨_, exec_eccCorrected 0 0 hotState, ?_⟩
  dsimp only
  rw [if_neg (by decide +kernel), if_pos (by decide)]
  have hward : 2 ^ eccHub.bankWard 0 = 1 := by decide +kernel
  exact congrArg (fun w => eccHub.event 42 w detailOpen) hward

/-- Refutes O31: in `hotState` a corrected error enters *Safe*, which stops a MARCH, and the memory is not as it was. -/
theorem not_bankCommands : ¬ Obligations.BankCommands := by
  rintro ⟨-, -, -, -, -, -, -, -, -, -, -, -, -, -, -, -, -, -, -, -, hce, -⟩
  obtain ⟨f, hf, heq⟩ := exec_eccCorrected_hotState
  obtain ⟨hcanon, hgroup⟩ := eccHub_held
  have hdone := hce hotState 0 0 (by decide +kernel)
  refine not_completes_mem ?_ hf rfl (by rw [heq]; exact hcanon) (by rw [heq]; exact hgroup) hdone
  exact fun _ hp => hp.2.2.2.1

/-- The hub once a frame of port 0 with a wrong CRC is counted. -/
def portHub : Hub := (hotState.hub.begun.modPort 0 (fun q => { q with driven := true })).count HPT_ERR_crc_errors 1 0

theorem portHub_held : (portHub.event 39 1 detailOpen).canonical ∧ (portHub.event 39 1 detailOpen).testGroup = 5 :=
  event_held (by decide +kernel) (by decide +kernel) (by decide +kernel) (by decide +kernel) (by decide +kernel) (by decide +kernel)
    (by decide +kernel) (by decide +kernel) (by decide +kernel) (by decide +kernel) (by decide +kernel) (by decide +kernel)

theorem exec_writeFrame_hotState : ∃ f : Hub → Hub, exec (.writeFrame 0 0 [] 0 ⟨0, false⟩) hotState = hotState.on f ∧
    f hotState.hub.begun = (portHub.event 39 1 detailOpen).portFail 0 0 1 := by
  refine ⟨_, exec_writeFrame 0 0 [] 0 ⟨0, false⟩ hotState, ?_⟩
  dsimp only
  rw [if_neg (by decide +kernel), Hub.framed, if_pos (by decide +kernel), Hub.writeEnd, if_neg (by decide +kernel), if_pos (by decide +kernel)]
  rfl

theorem testGroup_portFail (h : Hub) (header code : Nat) : (h.portFail 0 header code).testGroup = h.testGroup := by
  have hmoves : Moves ⟨[.ports], [HPT_FAIL_HDR_header, HPT_FAIL_INFO_code, HPT_FAIL_INFO_count], []⟩ h (h.portFail 0 header code) :=
    ((((Moves.refl _ h).to (modPort_moves _ _ _)).wr HPT_FAIL_HDR_header _ 0 0).wr HPT_FAIL_INFO_code _ 0 0).wr HPT_FAIL_INFO_count _ 0 0
  exact hmoves.testGroup

/-- Refutes O24: in `hotState` a frame with a wrong CRC raises a fault that enters *Safe*, which stops a MARCH, and the memory is not as
it was. -/
theorem not_portCommands : ¬ Obligations.PortCommands := by
  rintro ⟨-, hbad, -⟩
  obtain ⟨f, hf, heq⟩ := exec_writeFrame_hotState
  obtain ⟨hcanon, hgroup⟩ := portHub_held
  have hdone := hbad hotState 0 0 [] 0 0 false (by decide +kernel)
  refine not_completes_mem ?_ hf rfl ?_ (by rw [heq, testGroup_portFail]; exact hgroup) hdone
  · exact fun _ hp => hp.2.2.2.1
  · rw [heq]
    exact (portFail_moves _ 0 0 1).canonical hcanon

end Sys2Proof.Machine

/-!
PROOF. A field die that has applied no command yet holds no channel at its safe state: where the clock-loss monitor acts first, the
channels are off, and none of them counts as safe.
-/

namespace Sys2Proof.Machine

set_option Elab.async false

/-! ### What follows a command leaves of the output channels -/

/-- Where Deadbolt DB does not drive the channels in the end, it has not begun to. -/
theorem dbJudge_outs {h : Hub} (hdb : h.dbJudge.dbt.dbForced = false) : h.dbJudge.outs = h.outs := by
  rw [Hub.dbJudge] at hdb ⊢
  by_cases hkept : (h.dbCond == h.dbt.dbForced) = true
  · rw [if_pos hkept]
  · rw [if_neg hkept] at hdb ⊢
    dsimp only at hdb ⊢
    by_cases hdrives : h.dbCond = true
    · rw [if_pos hdrives, (fieldSafe_sameDrive _ _).forced] at hdb
      exact absurd (hdrives.symm.trans hdb) (by decide)
    · rw [if_neg hdrives]

/-- Where LG5 is under test in the end and DB does not drive the channels, the output channels are as the command left them, but for
the marks of their supervision. -/
theorem settle_outs {before after : Hub} (hg : (settle before after).testGroup = 5) (hdb : (settle before after).dbt.dbForced = false) :
    (settle before after).outs.map OutCh.unwatched = after.outs.map OutCh.unwatched := by
  have hdriven := (settle_close before after).driven
  have hforced : after.bstDeliver.dbJudge.dbt.dbForced = false := (settle_close before after).sameDrive.forced.symm.trans hdb
  have hdeliver : after.bstDeliver.outs = after.outs := by
    rw [bstDeliver_of_held hg]
    exact (deliverIntakes_moves after).keeps .outs
  rw [← hdeliver, ← dbJudge_outs hforced]
  exact congrArg Prod.fst hdriven

/-- The channels that count as safe are the same where the channels are. -/
theorem atSafe_of_unwatched {h k : Hub} (hmap : k.outs.map OutCh.unwatched = h.outs.map OutCh.unwatched) {c : Nat} (hc : c < 16) :
    (k.out c).atSafe = (h.out c).atSafe := by
  have hget := congrArg (fun v => (v[c]'hc).atSafe) hmap
  simpa [OutCh.unwatched, Hub.out, vget, hc] using hget

/-- The reset state with LG5 under test and a field die that holds channel 0 as an output but has applied no command. -/
def lostState : State :=
  { State.reset with hub := { ((State.reset.hub.put BST_STAT_busy true).wr BST_STAT_group 5) with
    sup := { State.reset.hub.sup with fieldUp := true }
    hinge := { State.reset.hub.hinge with cfg := [(fldKey OUT_CFG_mode 0 0, 1 ^^^ OUT_CFG_mode.reset)] } } }

theorem exec_soscBLoss_lostState : ∃ f : Hub → Hub, exec .soscBLoss lostState = lostState.on f ∧
    ((f lostState.hub.begun).out 0).atSafe = false ∧ (settle lostState.hub (f lostState.hub.begun)).testGroup = 5 ∧
    (settle lostState.hub (f lostState.hub.begun)).dbt.dbForced = false :=
  ⟨_, exec_soscBLoss lostState, by decide +kernel, by decide +kernel, by decide +kernel⟩

/-- Refutes O33: in `lostState` the clock-loss monitor leaves channel 0 off, and not at its safe state. -/
theorem not_heartbeatCommands : ¬ Obligations.HeartbeatCommands := by
  rintro ⟨-, -, -, -, -, -, hlost, -⟩
  obtain ⟨f, hf, hoff, hg, hdb⟩ := exec_soscBLoss_lostState
  obtain ⟨t, h, hexec, -, ⟨-, -, hsafe⟩, hhub, -⟩ := hlost lostState (by decide +kernel)
  have hsame : settle lostState.hub (f lostState.hub.begun) = settle lostState.hub h := (hub_of_on hf hexec).symm.trans hhub
  have hkept := settle_outs hg hdb
  rw [hsame] at hg hdb hkept
  have hat : (h.out 0).atSafe = ((f lostState.hub.begun).out 0).atSafe :=
    atSafe_of_unwatched ((settle_outs hg hdb).symm.trans hkept) (by decide)
  exact absurd ((hsafe 0 (by decide +kernel)).symm.trans (hat.trans hoff)) (by decide)

end Sys2Proof.Machine

/-!
PROOF. The interrupt requests of the wards: when an event of an enabled source releases a request and when it holds it back (R419 to R423),
and what the writes of the interrupt registers leave.
-/

namespace Sys2Proof.Machine

set_option Elab.async false

/-! ### Releases -/

/-- The moderation interval lets a request of ward `w` go out now (R421). -/
def Hub.modFree (h : Hub) (w : Nat) : Prop := h.modTicks w = 0 ∨ (h.modOver w = true ∧ (h.wint w).held = false)

/-- In `k` the request of ward `w` has been released from `h`. -/
def ReleasedFrom (h : Hub) (w : Nat) (k : Hub) : Prop :=
  (k.wint w).released = true ∧ (k.wint w).held = false ∧ (k.wint w).last = some h.clk.tb ∧
    k.rd INT_CNT_count w = (h.rd INT_CNT_count w + 1) % 2 ^ 32

/-- The hub once the request of ward `w` is marked released and counted. -/
def Hub.markReleased (h : Hub) (w : Nat) : Hub :=
  (h.modInt w fun i => { i with released := true, held := false, last := some h.clk.tb, ticks := h.modFigure w }).countMod INT_CNT_count 1 w

theorem markReleased_released (h : Hub) {w : Nat} (hw : w < 8) : ReleasedFrom h w (h.markReleased w) := by
  have hint : (h.markReleased w).wint w =
      { h.wint w with released := true, held := false, last := some h.clk.tb, ticks := h.modFigure w } :=
    Hub.wint_modInt_self h w (fun i => { i with released := true, held := false, last := some h.clk.tb, ticks := h.modFigure w }) hw
  exact ⟨congrArg WardInt.released hint, congrArg WardInt.held hint, congrArg WardInt.last hint, Hub.rd_wr_self _ _ _ _ _⟩

theorem intRelease_released (h : Hub) {w : Nat} (hw : w < 8) : ReleasedFrom h w (h.intRelease w) := by
  have hmark := markReleased_released h hw
  rw [Hub.intRelease]
  split
  · exact hmark
  · exact hmark

/-- A request that the moderation interval lets go is released, any other is held. -/
theorem intFire_of_routed {h : Hub} {w : Nat} {was : Bool} (hroute : h.flag INT_CFG_route w = true)
    (hedge : was = false ∨ h.rd INT_PIN_CFG_mode (h.rd INT_CFG_pin w) ≠ 0) :
    h.intFire w was = if h.modTicks w == 0 || (h.modOver w && !(h.wint w).held) then h.intRelease w
      else h.modInt w (fun i => { i with held := true }) := by
  rw [Hub.intFire, if_neg (by simp [hroute]), if_neg]
  simp only [Bool.and_eq_true, beq_iff_eq, not_and, Bool.not_eq_true]
  rcases hedge with hwas | hmode
  · exact fun _ => hwas
  · exact fun hz => absurd hz hmode

theorem intFire_of_free {h : Hub} {w : Nat} {was : Bool} (hw : w < 8) (hroute : h.flag INT_CFG_route w = true)
    (hedge : was = false ∨ h.rd INT_PIN_CFG_mode (h.rd INT_CFG_pin w) ≠ 0) (hfree : h.modFree w) : ReleasedFrom h w (h.intFire w was) := by
  rw [intFire_of_routed hroute hedge, if_pos (by simpa [Hub.modFree] using hfree)]
  exact intRelease_released h hw

theorem intFire_of_not_free {h : Hub} {w : Nat} {was : Bool} (hroute : h.flag INT_CFG_route w = true)
    (hedge : was = false ∨ h.rd INT_PIN_CFG_mode (h.rd INT_CFG_pin w) ≠ 0) (hfree : ¬ h.modFree w) :
    h.intFire w was = h.modInt w (fun i => { i with held := true }) := by
  rw [intFire_of_routed hroute hedge, if_neg (by simpa [Hub.modFree] using hfree)]

theorem intFire_of_unrouted {h : Hub} {w : Nat} {was : Bool} (hroute : h.flag INT_CFG_route w = false) : h.intFire w was = h := by
  rw [Hub.intFire, if_pos (by simp [hroute])]

/-! ### Events -/

theorem rd_intFire (h : Hub) {f : Fld} {w : Nat} (was : Bool) (j u : Nat) (hw : w < 8) (hj : j < f.count)
    (hf : Foot.avoids ⟨[.ints, .pins], [INT_CNT_count], []⟩ f = true) : (h.intFire w was).rd f j u = h.rd f j u :=
  (intFire_moves h w was hw).rd f j u hj hf

theorem setBit_lt {v i n : Nat} (hi : i < n) (hv : v < 2 ^ n) : setBit v i < 2 ^ n :=
  Nat.or_lt_two_pow hv (by rw [Nat.one_shiftLeft]; exact Nat.pow_lt_pow_right (by decide) hi)

theorem rd_intEvent_stat {h : Hub} {w bit : Nat} (hw : w < 8) (hbit : bit < 32)
    (hserved : (h.intServed && (h.ward w == .active || h.ward w == .held)) = true) :
    (h.intEvent w bit).rd INT_STAT_stat w = setBit (h.rd INT_STAT_stat w) bit := by
  have hlt : setBit (h.rd INT_STAT_stat w) bit < 2 ^ INT_STAT_stat.width := setBit_lt hbit (h.rd_lt INT_STAT_stat w 0)
  rw [Hub.intEvent, if_pos hserved]
  dsimp only
  split
  · rw [rd_intFire _ _ _ _ hw hw (by decide +kernel), Hub.rd_wr_of_lt _ _ _ hlt]
  · exact Hub.rd_wr_of_lt _ _ _ hlt

/-- An event of an enabled source, absent before, fires its ward's request. -/
theorem intEvent_of_new {h : Hub} {w bit : Nat} (hserved : (h.intServed && (h.ward w == .active || h.ward w == .held)) = true)
    (hnew : bitOf (h.rd INT_STAT_stat w) bit = false) (hen : bitOf (h.rd INT_EN_en w) bit = true) :
    h.intEvent w bit = (h.wr INT_STAT_stat (setBit (h.rd INT_STAT_stat w) bit) w).intFire w (h.intPending w) := by
  rw [Hub.intEvent, if_pos hserved]
  exact if_pos (by simp [hnew, hen])

theorem completes_intEvent {s : State} {w : Fin 8} {bit : Fin 32} {P : Hub → Prop} (hsource : intSource w bit = true)
    (hp : P (s.hub.begun.intEvent w bit)) : Completes (.intEvent w bit) s P :=
  completes_of_begun (exec_intEvent w bit s) (by rwa [if_pos (by exact hsource)])

/-- INT_EVENT of an enabled source of a routed ward releases its request or holds it. -/
theorem intEvent_fires {h : Hub} {w bit : Nat} (hw : w < 8)
    (hserved : (h.intServed && (h.ward w == .active || h.ward w == .held)) = true)
    (hnew : bitOf (h.rd INT_STAT_stat w) bit = false) (hen : bitOf (h.rd INT_EN_en w) bit = true)
    (hroute : h.flag INT_CFG_route w = true) (hedge : h.intPending w = false ∨ h.rd INT_PIN_CFG_mode (h.rd INT_CFG_pin w) ≠ 0) :
    if h.modTicks w = 0 ∨ (h.modOver w = true ∧ (h.wint w).held = false) then ReleasedFrom h w (h.intEvent w bit)
    else ((h.intEvent w bit).wint w).held = true ∧ ((h.intEvent w bit).wint w).released = (h.wint w).released ∧
      (h.intEvent w bit).rd INT_CNT_count w = h.rd INT_CNT_count w := by
  have hstat {f : Fld} (j u : Nat) (hf : f.apart INT_STAT_stat = true) (v : Nat) : (h.wr INT_STAT_stat v w).rd f j u = h.rd f j u :=
    Hub.rd_wr_apart h _ _ _ _ _ hf
  rw [intEvent_of_new hserved hnew hen]
  generalize setBit (h.rd INT_STAT_stat w) bit = v
  have hroute1 : (h.wr INT_STAT_stat v w).flag INT_CFG_route w = true := by rw [Hub.flag_wr_apart _ _ _ _ _ _ (by decide), hroute]
  have hedge1 : h.intPending w = false ∨ (h.wr INT_STAT_stat v w).rd INT_PIN_CFG_mode ((h.wr INT_STAT_stat v w).rd INT_CFG_pin w) ≠ 0 := by
    rw [hstat (f := INT_CFG_pin) _ _ (by decide)]
    rwa [((Moves.refl (F := ⟨[], [INT_STAT_stat], []⟩) h).wr INT_STAT_stat v w 0 hw).rd INT_PIN_CFG_mode _ _ (h.rd_lt INT_CFG_pin w 0)]
  split
  case isTrue hfree =>
    have hrel := intFire_of_free (was := h.intPending w) hw hroute1 hedge1 hfree
    rwa [ReleasedFrom, hstat w 0 (by decide)] at hrel
  case isFalse hheld =>
    rw [intFire_of_not_free hroute1 hedge1 hheld]
    rw [show (((h.wr INT_STAT_stat v w).modInt w fun i => { i with held := true }).wint w) = { h.wint w with held := true } from
      Hub.wint_modInt_self _ w (fun i => { i with held := true }) hw]
    exact ⟨rfl, rfl, hstat _ _ (by decide) _⟩

/-- INT_EVENT of a source that is not enabled, is set already, or whose ward is not routed makes no request. -/
theorem intEvent_silent {h : Hub} {w bit : Nat}
    (hq : bitOf (h.rd INT_EN_en w) bit = false ∨ bitOf (h.rd INT_STAT_stat w) bit = true ∨ h.flag INT_CFG_route w = false) :
    (h.intEvent w bit).ints = h.ints ∧ (h.intEvent w bit).rd INT_CNT_count w = h.rd INT_CNT_count w := by
  rw [Hub.intEvent]
  split
  · dsimp only
    have hcount : (h.wr INT_STAT_stat (setBit (h.rd INT_STAT_stat w) bit) w).rd INT_CNT_count w = h.rd INT_CNT_count w :=
      Hub.rd_wr_apart h _ _ _ _ _ (by decide)
    split
    case isTrue hfires =>
      simp only [Bool.and_eq_true, Bool.not_eq_true'] at hfires
      obtain ⟨hnew, hen⟩ := hfires
      have hroute : h.flag INT_CFG_route w = false := by simpa [hnew, hen] using hq
      rw [intFire_of_unrouted (by rw [Hub.flag_wr_apart _ _ _ _ _ _ (by decide), hroute])]
      exact ⟨rfl, hcount⟩
    case isFalse => exact ⟨rfl, hcount⟩
  · exact ⟨rfl, rfl⟩

theorem rd_intEvent_en (h : Hub) (w bit : Nat) (u : Nat) (hu : u < 8) : (h.intEvent w bit).rd INT_EN_en u = h.rd INT_EN_en u :=
  (intEvent_moves h w bit).rd INT_EN_en u 0 hu

/-- MODERATION_EXPIRY releases a held request that is still pending. -/
theorem modExpiry_released {h : Hub} {w : Nat} (hheld : (h.wint w).held = true) (hp : h.intPending w = true)
    (hs : h.intServed = true) (hover : h.modOver w = true) : h.modExpiry w = h.intRelease w := by
  simp [Hub.modExpiry, hheld, hp, hs, hover]

/-! ### Writes -/

theorem intEnd_released {h : Hub} {w : Nat} (hw : w < 8) (hp : h.intPending w = false) : ((h.intEnd w).wint w).released = false := by
  rw [Hub.intEnd, if_neg (by simp [hp])]
  rw [show (h.modInt w fun i => { i with released := false }).wint w = { h.wint w with released := false } from
    Hub.wint_modInt_self _ w (fun i => { i with released := false }) hw]

theorem regs_intEnd (h : Hub) (w : Nat) : (h.intEnd w).regs = h.regs := by
  rw [Hub.intEnd]
  split
  · rfl
  · rfl

theorem intEnd_of_pending {h : Hub} {w : Nat} (hp : h.intPending w = true) : h.intEnd w = h := if_pos hp

theorem intPending_congr {h k : Hub} (hregs : k.regs = h.regs) (w : Nat) : k.intPending w = h.intPending w := by
  simp only [Hub.intPending, Hub.rd_congr hregs]

theorem clrMask_lt {v n : Nat} (hv : v < n) (m : Nat) : clrMask v m < n := lt_of_le_of_lt (Nat.sub_le _ _) hv

theorem enableMask_lt {v : Nat} (hv : v < 2 ^ 32) (w : Nat) : enableMask w v < 2 ^ 32 := by
  rw [enableMask]
  split
  · exact hv
  · exact clrMask_lt hv _

/-- The hub as a write of INT_EN leaves it before a request that is no longer pending ends. -/
def Hub.enabledInt (h : Hub) (w v : Nat) : Hub :=
  if clrMask (enableMask w v) (h.rd INT_EN_en w) &&& h.rd INT_STAT_stat w != 0 then
    (h.wr INT_EN_en (enableMask w v) w).intFire w (h.intPending w)
  else h.wr INT_EN_en (enableMask w v) w

theorem writeIntEn_eq (h : Hub) (w v : Nat) : h.writeIntEn w v = (h.enabledInt w v).intEnd w := rfl

theorem rd_enabledInt (h : Hub) {w : Nat} (v : Nat) {f : Fld} (hw : w < 8) (hc : 8 = f.count)
    (hf : Foot.avoids ⟨[.ints, .pins], [INT_CNT_count], []⟩ f = true) :
    (h.enabledInt w v).rd f w = (h.wr INT_EN_en (enableMask w v) w).rd f w := by
  rw [Hub.enabledInt]
  split
  · exact rd_intFire _ _ _ _ hw (hc ▸ hw) hf
  · rfl

theorem rd_writeIntEn (h : Hub) {w : Nat} (v : Nat) {f : Fld} (hw : w < 8) (hc : 8 = f.count)
    (hf : Foot.avoids ⟨[.ints, .pins], [INT_CNT_count], []⟩ f = true) :
    (h.writeIntEn w v).rd f w = (h.wr INT_EN_en (enableMask w v) w).rd f w := by
  rw [writeIntEn_eq, Hub.rd_congr (regs_intEnd _ _), rd_enabledInt h v hw hc hf]

/-- Enabling a pending source of a ward without a request releases one, where the moderation interval lets it. -/
theorem writeIntEn_released {h : Hub} {w v : Nat} (hw : w < 8) (hwas : h.intPending w = false)
    (hnow : (h.writeIntEn w v).intPending w = true) (hroute : h.flag INT_CFG_route w = true) (hfree : h.modFree w)
    (hnew : clrMask (enableMask w v) (h.rd INT_EN_en w) &&& h.rd INT_STAT_stat w ≠ 0) : ReleasedFrom h w (h.writeIntEn w v) := by
  have hpending : (h.enabledInt w v).intPending w = true := by rwa [writeIntEn_eq, intPending_congr (regs_intEnd _ _)] at hnow
  rw [writeIntEn_eq, intEnd_of_pending hpending, Hub.enabledInt, if_pos (by simpa using hnew), hwas]
  have hrel := intFire_of_free (h := h.wr INT_EN_en (enableMask w v) w) (was := false) hw
    (by rw [Hub.flag_wr_apart _ _ _ _ _ _ (by decide), hroute]) (.inl rfl) hfree
  rwa [ReleasedFrom, Hub.rd_wr_apart _ _ _ _ _ _ (by decide)] at hrel

/-- A vector in which an element is set to itself. -/
theorem vset_vget {α : Type} {n : Nat} (v : Vector α n) (i : Nat) (d : α) : vset v i (vget v i d) = v := by
  ext j hj
  simp only [vset, vget, Vector.getElem_setIfInBounds]
  split
  case isTrue hij =>
    subst hij
    simp [hj]
  case isFalse => rfl

theorem pin_pulseEnd (h : Hub) {p : Nat} (hp : p < 4) : (h.pulseEnd p).pin p =
    (if h.clk.now < (h.pin p).since + 10 * h.rd INT_PIN_CFG_width p then h.pin p
    else if (h.pin p).pulse then { pulse := false, gap := true, queued := (h.pin p).queued, since := h.clk.now }
    else { pulse := (h.pin p).gap && (h.pin p).queued, gap := false, queued := false, since := h.clk.now }) :=
  Hub.pin_modPin_self h p _ hp

/-! ### The clauses -/

/-- Settles O29: each clause by the lemma of what its command does. -/
theorem interruptCommands : Obligations.InterruptCommands := by
  refine ⟨?event, ?noEvent, ?expiry, ?noExpiry, ?dropped, ?pulse, ?noPulse, ?clear, ?enable, ?set, ?trim, ?noTrim⟩
  case event =>
    intro s w bit hc
    simp only [Can.intEvent, Bool.and_eq_true] at hc
    obtain ⟨⟨hsource, hserved⟩, hward⟩ := hc
    have hgo : (s.hub.intServed && (s.hub.ward w == .active || s.hub.ward w == .held)) = true := Bool.and_eq_true_iff.mpr ⟨hserved, hward⟩
    refine completes_of_begun (exec_intEvent w bit s) ?_
    rw [if_pos hsource]
    exact ⟨rd_intEvent_stat (h := s.hub.begun) w.isLt bit.isLt hgo, rd_intEvent_en s.hub.begun w bit w w.isLt,
      fun hnew hen hroute hedge => intEvent_fires (h := s.hub.begun) w.isLt hgo hnew hen hroute hedge,
      fun hq => intEvent_silent (h := s.hub.begun) hq⟩
  case noEvent =>
    intro s w bit hc
    refine completes_of_begun (exec_intEvent w bit s) ?_
    split
    case isTrue hsource =>
      have hnot : ¬ (s.hub.intServed && (s.hub.ward w == .active || s.hub.ward w == .held)) = true := by
        simp only [Can.intEvent2, hsource, Bool.true_and, Bool.not_eq_true'] at hc
        simp [hc]
      rw [Hub.intEvent, if_neg (by exact hnot)]
      exact ⟨rfl, rfl, rfl⟩
    case isFalse => exact ⟨rfl, rfl, rfl⟩
  case expiry =>
    intro s w hc
    simp only [Can.moderationExpiry, Bool.and_eq_true] at hc
    obtain ⟨⟨⟨hheld, hp⟩, hs⟩, hover⟩ := hc
    refine completes_of_begun (exec_moderationExpiry w s) ?_
    rw [modExpiry_released (h := s.hub.begun) hheld hp hs hover]
    obtain ⟨hrel, hunheld, hlast, hcount⟩ := intRelease_released s.hub.begun w.isLt
    exact ⟨hrel, hunheld, hlast, hcount, (intRelease_moves s.hub.begun w w.isLt).rd INT_STAT_stat w 0 w.isLt⟩
  case noExpiry =>
    intro s w hc
    refine completes_of_begun (exec_moderationExpiry w s) ?_
    rw [Hub.modExpiry, if_neg]
    · exact ⟨rfl, rfl, rfl⟩
    · intro hgo
      simp only [Bool.and_eq_true] at hgo
      simp only [Can.moderationExpiry2, Bool.or_eq_true, Bool.not_eq_true'] at hc
      rcases hc with hc | hc
      · exact absurd (hgo.1.symm.trans hc) (by decide)
      · exact absurd (hgo.2.symm.trans hc) (by decide)
  case dropped =>
    intro s w hc
    simp only [Can.moderationExpiry3, Bool.and_eq_true, Bool.not_eq_true'] at hc
    obtain ⟨⟨hheld, hover⟩, hnot⟩ := hc
    refine completes_of_begun (exec_moderationExpiry w s) ?_
    have hdrop : s.hub.begun.modExpiry w = s.hub.begun.modInt w (fun i => { i with held := false }) := by
      rw [Hub.modExpiry, if_pos (by exact Bool.and_eq_true_iff.mpr ⟨hheld, hover⟩),
        if_neg (by exact fun hgo => absurd (hgo.symm.trans hnot) (by decide))]
    rw [hdrop, show (s.hub.begun.modInt w fun i => { i with held := false }).wint w = { s.hub.wint w with held := false } from
      Hub.wint_modInt_self s.hub.begun w (fun i => { i with held := false }) w.isLt]
    exact ⟨rfl, rfl, rfl, rfl⟩
  case pulse =>
    intro s p hc
    refine completes_of_begun (exec_intPulseEnd p s) ?_
    rw [pin_pulseEnd s.hub.begun p.isLt, if_neg (by exact Nat.not_lt.mpr (of_decide_eq_true hc))]
    refine ⟨fun hpulse => ?_, fun hpulse => ?_, ?_, rfl, rfl⟩
    · rw [if_pos (by exact hpulse)]
      exact ⟨rfl, rfl, rfl⟩
    · rw [if_neg (by exact fun hgo => absurd (hgo.symm.trans hpulse) (by decide))]
      exact ⟨rfl, rfl, rfl⟩
    · split
      · rfl
      · rfl
  case noPulse =>
    intro s p hc
    refine completes_of_begun (exec_intPulseEnd p s) ?_
    have hkept : s.hub.begun.pulseEnd p = s.hub.begun := by
      rw [Hub.pulseEnd, Hub.modPin, if_pos (by exact of_decide_eq_true hc)]
      exact congrArg (fun v => { s.hub.begun with pins := v }) (vset_vget _ _ _)
    rw [hkept]
    exact ⟨rfl, rfl, rfl⟩
  case clear =>
    intro s w v hc
    refine completes_of_begun (exec_intStatClear w v s) ?_
    rw [if_pos (by exact hc), Hub.writeIntStat]
    have hregs := regs_intEnd (s.hub.begun.wr INT_STAT_stat (clrMask (s.hub.begun.rd INT_STAT_stat w) v.toNat) w) w
    refine ⟨?_, fun hp => ?_, fun hp => ?_, ?_⟩
    · rw [Hub.rd_congr hregs, Hub.rd_wr_of_lt _ _ _ (clrMask_lt (Hub.rd_lt _ _ _ _) _)]
      rfl
    · rw [intPending_congr hregs] at hp
      exact intEnd_released w.isLt hp
    · rw [intPending_congr hregs] at hp
      rw [intEnd_of_pending hp]
      rfl
    · rw [Hub.rd_congr hregs, Hub.rd_wr_apart _ _ _ _ _ _ (by decide)]
      rfl
  case enable =>
    intro s w v hc
    refine completes_of_begun (exec_intEnWrite w v s) ?_
    rw [if_pos (by exact hc)]
    have hmask : enableMask w v.toNat = if w = 0 then v.toNat else clrMask v.toNat (2 ^ 22 + 2 ^ 23) :=
      if_congr (by simp only [beq_iff_eq, Fin.ext_iff, Fin.val_zero]) rfl rfl
    refine ⟨?_, ?_, fun hp => ?_, fun hwas hnow hroute hfree hnew => ?_⟩
    · rw [rd_writeIntEn _ _ w.isLt rfl (by decide +kernel), Hub.rd_wr_of_lt _ _ _ (enableMask_lt v.isLt w), hmask]
    · rw [rd_writeIntEn _ _ w.isLt rfl (by decide +kernel), Hub.rd_wr_apart _ _ _ _ _ _ (by decide)]
      rfl
    · rw [writeIntEn_eq, intPending_congr (regs_intEnd _ _)] at hp
      exact intEnd_released w.isLt hp
    · rw [← hmask] at hnew
      exact writeIntEn_released (h := s.hub.begun) w.isLt hwas hnow hroute hfree hnew
  case set =>
    intro s w v hc
    refine completes_of_begun (exec_intSet w v s) ?_
    rw [if_pos (by exact hc), Hub.writeIntSet]
    obtain ⟨-, hactive⟩ := Bool.and_eq_true_iff.mp hc
    have hbit : v.getLsbD 30 = bitOf v.toNat 30 := rfl
    refine ⟨fun hset hserved => ?_, fun hset => ?_, ?_⟩
    · rw [if_pos (hbit ▸ hset)]
      exact rd_intEvent_stat (h := s.hub.begun) w.isLt (by decide) (by exact Bool.and_eq_true_iff.mpr ⟨hserved, by exact Bool.or_eq_true_iff.mpr (.inl hactive)⟩)
    · rw [if_neg (by rw [← hbit, hset]; exact Bool.false_ne_true)]
      exact ⟨rfl, rfl⟩
    · split
      · exact rd_intEvent_en s.hub.begun w 30 w w.isLt
      · rfl
  case trim =>
    intro s w v hc
    refine completes_of_begun (exec_intModWrite w v s) ?_
    rw [if_pos (by exact hc), Hub.writeIntMod]
    have hv : bitsOf v.toNat 16 16 = v.toNat / 2 ^ 16 := by
      have hlt := v.isLt
      rw [bitsOf, Nat.shiftRight_eq_div_pow]
      omega
    have hmod : s.hub.rd INT_CFG_mod_us w < 2 ^ 16 := Hub.rd_lt _ _ _ _
    refine ⟨?_, rfl⟩
    have hlt : (if (bitsOf v.toNat 16 16 == 0) = true then 0 else max (bitsOf v.toNat 16 16) (s.hub.begun.rd INT_CFG_mod_us w)) <
        2 ^ INT_MOD_mod_rt.width := by
      split
      · decide
      · exact max_lt (Nat.mod_lt _ (by decide)) hmod
    rw [Hub.rd_wr_of_lt _ _ _ hlt, hv]
    exact if_congr beq_iff_eq rfl rfl
  case noTrim =>
    intro s w v hc
    refine completes_of_begun (exec_intModWrite w v s) ?_
    rw [if_neg (by exact ne_true_of_eq_false ((Bool.not_eq_true' _).mp hc))]
    exact ⟨rfl, rfl⟩

end Sys2Proof.Machine

/-!
PROOF. The clearing of a fault's status, bit by bit (R542): a refused clear is counted and leaves the masks, an accepted one empties its
own mask or removes the ward from it, and no clear reaches a channel, a tumbler or the device state.
-/

namespace Sys2Proof.Machine

set_option Elab.async false

/-! ### The bit that a word names -/

theorem bitList_twoPow {b : Nat} (hb : b < 32) : bitList 32 (BitVec.twoPow 32 b).toNat = [b] := by
  have hbit : ∀ c : Fin 32, bitList 32 (BitVec.twoPow 32 c.val).toNat = [c.val] := by decide
  exact hbit ⟨b, hb⟩

theorem writeFltStatus_twoPow (h : Hub) (w : Nat) {n : Nat} (hn : n < 62) :
    h.writeFltStatus w (n / 32) (BitVec.twoPow 32 (n % 32)).toNat = h.clearFault w n := by
  have hsum : 32 * (n / 32) + n % 32 = n := Nat.div_add_mod n 32
  rw [Hub.writeFltStatus, bitList_twoPow (Nat.mod_lt n (by decide)), List.filter_cons_of_pos (by simpa [hsum] using hn)]
  simp only [List.filter_nil, forAll, List.foldl, hsum]

/-! ### What a clear leaves -/

/-- A clear has left source `n` the mask `m`, every other source its own, and has counted `live` and `denied` refusals. -/
structure ClearedTo (h : Hub) (n m live denied : Nat) (k : Hub) : Prop where
  others : ∀ j, j ≠ n → k.fltMask j = h.fltMask j
  own : k.fltMask n = m
  lives : k.rd FLT_CLR_REFUSED_live = h.rd FLT_CLR_REFUSED_live + live
  denials : k.rd FLT_CLR_REFUSED_denied = h.rd FLT_CLR_REFUSED_denied + denied

theorem clearedTo_countLive {h : Hub} (n : Nat) (hl : h.rd FLT_CLR_REFUSED_live < 65535) :
    ClearedTo h n (h.fltMask n) 1 0 (h.count FLT_CLR_REFUSED_live) := by
  refine ⟨fun _ _ => rfl, rfl, ?_, Hub.rd_count_apart h _ _ _ _ _ (by decide)⟩
  rw [Hub.rd_count_self]
  exact min_eq_right hl

theorem clearedTo_countDenied {h : Hub} (n : Nat) (hd : h.rd FLT_CLR_REFUSED_denied < 65535) :
    ClearedTo h n (h.fltMask n) 0 1 (h.count FLT_CLR_REFUSED_denied) := by
  refine ⟨fun _ _ => rfl, rfl, Hub.rd_count_apart h _ _ _ _ _ (by decide), ?_⟩
  rw [Hub.rd_count_self]
  exact min_eq_right hd

theorem clearedTo_setMask (h : Hub) {n : Nat} (m : Nat) (hn : n < 62) : ClearedTo h n m 0 0 (h.setMask n m) :=
  ⟨fun _ hj => vget_vset_ne hj, vget_vset_self _ _ _ _ hn, rfl, rfl⟩

/-- A status that ends sends its clears to the field die and ends the first fault with the last one. -/
theorem statusCleared_moves_first (h : Hub) (n : Nat) : Moves ⟨[.hinge], [FLT_FIRST_valid], []⟩ h (h.statusCleared n) :=
  .bind ((Moves.refl _ h).forAll fun _ _ _ => (Moves.refl _ _).to (request_moves _ _ _ _)) fun y => .ite y (y.put _ _ _ _)

theorem ClearedTo.statusCleared {h k : Hub} {n m live denied : Nat} (x : ClearedTo h n m live denied k) :
    ClearedTo h n m live denied (k.statusCleared n) := by
  have hmoves := statusCleared_moves_first k n
  have hflt : { (k.statusCleared n).flt with fresh := false } = { k.flt with fresh := false } := hmoves.keeps .flt
  have hmasks := congrArg Flt.mask hflt
  have hmask (j : Nat) : (k.statusCleared n).fltMask j = k.fltMask j := congrArg (fun v => vget v j 0) hmasks
  exact ⟨fun j hj => (hmask j).trans (x.others j hj), (hmask n).trans x.own, (hmoves.rd FLT_CLR_REFUSED_live 0 0).trans x.lives,
    (hmoves.rd FLT_CLR_REFUSED_denied 0 0).trans x.denials⟩

/-- A ward removed from a mask, which ends with its last ward. -/
theorem clearedTo_removeWard (h : Hub) {n : Nat} (w : Nat) (hn : n < 62) : ClearedTo h n (clrBit (h.fltMask n) w) 0 0
    (if clrBit (h.fltMask n) w == 0 then (h.setMask n 0).statusCleared n else h.setMask n (clrBit (h.fltMask n) w)) := by
  split
  case isTrue hempty =>
    rw [beq_iff_eq.mp hempty]
    exact (clearedTo_setMask h 0 hn).statusCleared
  case isFalse => exact clearedTo_setMask h _ hn

/-! ### Who may clear -/

theorem clearFault_keeper {h : Hub} {n : Nat} (hn : n < 62) (hup : h.hinge.upL = true) (hl : h.rd FLT_CLR_REFUSED_live < 65535) :
    if h.fltLive n then ClearedTo h n (h.fltMask n) 1 0 (h.clearFault 0 n) else ClearedTo h n 0 0 0 (h.clearFault 0 n) := by
  have hlost : (isFieldSource n && !h.hinge.upL && h.hinge.everL) = false := by simp [hup]
  rw [Hub.clearFault, hlost, if_pos (show (0 == 0) = true from rfl), Bool.or_false]
  cases h.fltLive n with
  | true => exact clearedTo_countLive n hl
  | false =>
    rw [if_neg Bool.false_ne_true, if_neg Bool.false_ne_true]
    split
    · exact (clearedTo_setMask h 0 hn).statusCleared
    case isFalse hset => exact ⟨fun _ _ => rfl, by simpa [Hub.fltSet] using hset, rfl, rfl⟩

theorem clearFault_other {h : Hub} {w n : Nat} (hw : w ≠ 0) (hn : n < 62) (hup : h.hinge.upL = true)
    (hl : h.rd FLT_CLR_REFUSED_live < 65535) (hd : h.rd FLT_CLR_REFUSED_denied < 65535) :
    if bitOf (h.fltMask n) w = false then ClearedTo h n (h.fltMask n) 0 1 (h.clearFault w n)
    else if h.fltLive n && bitOf (h.causeWards n) w then ClearedTo h n (h.fltMask n) 1 0 (h.clearFault w n)
    else ClearedTo h n (clrBit (h.fltMask n) w) 0 0 (h.clearFault w n) := by
  have hlost : (isFieldSource n && !h.hinge.upL && h.hinge.everL) = false := by simp [hup]
  have hother : (w == 0) = false := by simpa using hw
  rw [Hub.clearFault, hlost, hother, Bool.false_or]
  cases bitOf (h.fltMask n) w with
  | false => exact clearedTo_countDenied n hd
  | true =>
    rw [if_neg (show ¬ true = false by decide)]
    cases h.fltLive n && bitOf (h.causeWards n) w with
    | true => exact clearedTo_countLive n hl
    | false =>
      exact clearedTo_removeWard h w hn

/-- Settles O60: the bit's clear, judged for W0 and for another ward, reaches no channel, tumbler or device state. -/
theorem aFaultClearIsJudgedBitByBit : Obligations.AFaultClearIsJudgedBitByBit := by
  intro s w n hc
  simp only [Can.oneClear, Bool.and_eq_true, decide_eq_true_eq] at hc
  obtain ⟨⟨⟨hwrites, hup⟩, hl⟩, hd⟩ := hc
  refine completes_of_begun (exec_faultClear w _ _ s) ?_
  rw [if_pos (by exact hwrites)]
  have hword : (Fin.ofNat 2 (n.val / 32)).val = n.val / 32 := Nat.mod_eq_of_lt (by omega)
  rw [hword, writeFltStatus_twoPow _ _ n.isLt]
  have hmoves := clearFault_moves s.hub.begun w n
  have hstands : (s.hub.begun.clearFault w n).outs = s.hub.outs ∧ (s.hub.begun.clearFault w n).ins = s.hub.ins ∧
      (s.hub.begun.clearFault w n).tmbs = s.hub.tmbs ∧ (s.hub.begun.clearFault w n).dev = s.hub.dev :=
    ⟨hmoves.keeps .outs, hmoves.keeps .ins, hmoves.keeps .tmbs, hmoves.keeps .dev⟩
  obtain ⟨houts, hins, htmbs, hdev⟩ := hstands
  have hothers {m live denied : Nat} (x : ClearedTo s.hub.begun n m live denied (s.hub.begun.clearFault w n)) (j : Fin 62) (hj : j ≠ n) :
      (s.hub.begun.clearFault w n).fltMask j = s.hub.fltMask j := x.others j fun he => hj (Fin.ext he)
  by_cases hw : w = 0
  · subst hw
    have hkeeper := clearFault_keeper (h := s.hub.begun) n.isLt hup hl
    rw [if_pos rfl]
    split
    case isTrue hlive =>
      rw [if_pos (by exact hlive)] at hkeeper
      exact ⟨hothers hkeeper, houts, hins, htmbs, hdev, hkeeper.own, hkeeper.lives, hkeeper.denials⟩
    case isFalse hlive =>
      rw [if_neg (by exact hlive)] at hkeeper
      exact ⟨hothers hkeeper, houts, hins, htmbs, hdev, hkeeper.own, hkeeper.lives, hkeeper.denials⟩
  · have hother := clearFault_other (h := s.hub.begun) (fun he => hw (Fin.ext he)) n.isLt hup hl hd
    rw [if_neg hw]
    split
    case isTrue hout =>
      rw [if_pos (by exact hout)] at hother
      exact ⟨hothers hother, houts, hins, htmbs, hdev, hother.own, hother.denials, hother.lives⟩
    case isFalse hin =>
      rw [if_neg (by exact hin)] at hother
      split
      case isTrue hlive =>
        rw [if_pos (by exact hlive)] at hother
        exact ⟨hothers hother, houts, hins, htmbs, hdev, hother.own, hother.lives, hother.denials⟩
      case isFalse hlive =>
        rw [if_neg (by exact hlive)] at hother
        exact ⟨hothers hother, houts, hins, htmbs, hdev, hother.own, hother.lives, hother.denials⟩

end Sys2Proof.Machine

/-!
PROOF. Luanen's marks, events and user messages: which latches of the tumblers each sets, and where a message goes (R335, R336, R350).
-/

namespace Sys2Proof.Machine

set_option Elab.async false

/-! ### The latches of the tumblers -/

/-- Every latch that is set in `h` is set in `k`. -/
def LatchesKept (h k : Hub) : Prop := ∀ t j, t < 8 → bitOf (h.tmb t).lsyLatch j = true → bitOf (k.tmb t).lsyLatch j = true

theorem LatchesKept.refl (h : Hub) : LatchesKept h h := fun _ _ _ hb => hb

theorem LatchesKept.trans {a b c : Hub} (x : LatchesKept a b) (y : LatchesKept b c) : LatchesKept a c :=
  fun t j ht hb => y t j ht (x t j ht hb)

theorem Hub.tmb_modTmb_ne {h : Hub} {t u : Nat} {g : Tmb → Tmb} (hu : u ≠ t) : (h.modTmb t g).tmb u = h.tmb u := vget_vset_ne hu

/-- The hub with latch `k` of tumbler `t` set. -/
def Hub.latch (h : Hub) (k t : Nat) : Hub := h.modTmb t (fun x => { x with lsyLatch := setBit x.lsyLatch k })

theorem lsyLatch_latch_self (h : Hub) (k : Nat) {t : Nat} (ht : t < 8) :
    ((h.latch k t).tmb t).lsyLatch = setBit (h.tmb t).lsyLatch k :=
  congrArg Tmb.lsyLatch (Hub.tmb_modTmb_self h t (fun x => { x with lsyLatch := setBit x.lsyLatch k }) ht)

theorem latch_kept (h : Hub) (k t : Nat) : LatchesKept h (h.latch k t) := by
  intro u j hu hb
  by_cases ht : u = t
  · subst ht
    rw [lsyLatch_latch_self h k hu, bitOf_setBit, hb, Bool.true_or]
  · rwa [Hub.latch, Hub.tmb_modTmb_ne ht]

theorem forAll_kept {f : Hub → Nat → Hub} (hf : ∀ h t, LatchesKept h (f h t)) (l : List Nat) (h : Hub) : LatchesKept h (forAll l f h) := by
  induction l generalizing h with
  | nil => exact .refl h
  | cons t rest ih => exact (hf h t).trans (ih (f h t))

/-- What one step of a run over a list sets stays set where every step keeps the latches; `I` is what the steps keep beside them. -/
theorem forAll_reaches {I : Hub → Prop} {f : Hub → Nat → Hub} (hf : ∀ h t, LatchesKept h (f h t)) (hI : ∀ h t, I h → I (f h t))
    {l : List Nat} {t j u : Nat} (hl : u ∈ l) (ht : t < 8) (hset : ∀ h, I h → bitOf ((f h u).tmb t).lsyLatch j = true) {h : Hub}
    (hh : I h) : bitOf ((forAll l f h).tmb t).lsyLatch j = true := by
  induction l generalizing h with
  | nil => exact absurd hl List.not_mem_nil
  | cons v rest ih =>
    rcases List.mem_cons.mp hl with rfl | hrest
    · exact forAll_kept hf rest _ t j ht (hset h hh)
    · exact ih hrest (hI h v hh)

theorem lsyEvent_kept (h : Hub) (k : Nat) : LatchesKept h (h.lsyEvent k) := by
  rw [Hub.lsyEvent]
  split
  · exact forAll_kept (fun h t => latch_kept h k t) _ h
  · exact .refl h

theorem lsyEvent_latches {h : Hub} (hp : h.lsyPlaced = true) (k : Nat) {t : Nat} (ht : t < 8) :
    bitOf ((h.lsyEvent k).tmb t).lsyLatch k = true := by
  rw [Hub.lsyEvent, if_pos hp]
  exact forAll_reaches (I := fun _ => True) (f := fun h t => h.latch k t) (fun h t => latch_kept h k t) (fun _ _ _ => trivial) (List.mem_range.mpr ht) ht
    (fun g _ => by rw [lsyLatch_latch_self g k ht, bitOf_setBit_self]) trivial

theorem lsyPlaced_congr {h k : Hub} (hr : k.regs = h.regs) : k.lsyPlaced = h.lsyPlaced := by
  simp only [Hub.lsyPlaced, Hub.isHead, Hub.flag_congr hr]

/-- The run over the eight events that sets the latches of those that `q` names from the registers. -/
def Hub.raiseEvents (h : Hub) (q : Hub → Nat → Bool) : Hub := forAll (List.range 8) (fun h k => if q h k then h.lsyEvent k else h) h

theorem raiseEvents_moves (h : Hub) (q : Hub → Nat → Bool) : Moves ⟨[.tmbs], [], []⟩ h (h.raiseEvents q) :=
  (Moves.refl _ h).forAll fun _ _ _ => .ite ((Moves.refl _ _).to (lsyEvent_moves _ _)) (Moves.refl _ _)

theorem regs_forAll {f : Hub → Nat → Hub} (hf : ∀ h t, (f h t).regs = h.regs) (l : List Nat) (h : Hub) :
    (forAll l f h).regs = h.regs := by
  induction l generalizing h with
  | nil => rfl
  | cons t rest ih => exact (ih (f h t)).trans (hf h t)

theorem regs_lsyEvent (h : Hub) (k : Nat) : (h.lsyEvent k).regs = h.regs := by
  rw [Hub.lsyEvent]
  split
  · exact regs_forAll (f := fun h t => h.latch k t) (fun _ _ => rfl) _ h
  · rfl

theorem regs_raiseEvents (h : Hub) (q : Hub → Nat → Bool) : (h.raiseEvents q).regs = h.regs := by
  refine regs_forAll (fun g k => ?_) _ h
  split
  · exact regs_lsyEvent g k
  · rfl

theorem raiseEvents_latches {q : Hub → Nat → Bool} {h : Hub} (hq : ∀ g : Hub, g.regs = h.regs → ∀ j, q g j = q h j)
    (hp : h.lsyPlaced = true) {k t : Nat} (hk : k < 8) (ht : t < 8) (hset : q h k = true) :
    bitOf ((h.raiseEvents q).tmb t).lsyLatch k = true := by
  refine forAll_reaches (I := fun g => g.regs = h.regs) (fun g j => ?_) (fun g j hg => ?_) (List.mem_range.mpr hk) ht (fun g hg => ?_) rfl
  · split
    · exact lsyEvent_kept g j
    · exact .refl g
  · split
    · rw [regs_lsyEvent, hg]
    · exact hg
  · rw [if_pos (by rw [hq g hg, hset])]
    exact lsyEvent_latches ((lsyPlaced_congr hg).trans hp) k ht

/-! ### Messages -/

/-- A user message as it enters the FIFO. -/
def userMsg (v : Nat) : UserMsg := { src := bitsOf v 21 5, code := bitsOf v 16 5, data := bitsOf v 0 16 }

/-- The events of the user kind that a message's code names. -/
def userEvent (v : Nat) (h : Hub) (k : Nat) : Bool := h.rd LSY_EV_CFG_kind k == 3 && h.rd LSY_EV_CFG_code k == bitsOf v 16 5

/-- The events of the mark kind that a MARK frame names. -/
def markEvent (v : Nat) (h : Hub) (k : Nat) : Bool :=
  h.rd LSY_EV_CFG_kind k == 2 && h.rd LSY_EV_CFG_src_pos k == bitsOf v 27 5 && h.rd LSY_EV_CFG_tmb k == bitsOf v 24 3 &&
    h.rd LSY_EV_CFG_mk k == bitsOf v 22 2

/-- A message enters the FIFO, or is counted where it is full (R336). -/
def Hub.takeMsg (h : Hub) (v : Nat) : Hub :=
  if !h.flag LSY_USER_rx_en then h
  else if 8 ≤ h.lsy.rx.length then h.count LSY_RX_STAT_overflow
  else (h.modLsy (fun x => { x with rx := x.rx ++ [userMsg v] })).intEvent (h.rd LSY_USER_rx_ward) 18

theorem userDeliver_eq (h : Hub) (v : Nat) : h.userDeliver v = (h.raiseEvents (userEvent v)).takeMsg v := rfl

theorem recvMark_eq (h : Hub) (v : Nat) : h.recvMark v = (h.raiseEvents (markEvent v)).lsyForward { cmd := 0x20, payload := v } := rfl

theorem tmbs_takeMsg (h : Hub) (v : Nat) : (h.takeMsg v).tmbs = h.tmbs := by
  rw [Hub.takeMsg]
  split
  · rfl
  · split
    · rfl
    · exact (intEvent_moves _ _ _).keeps .tmbs

theorem lsy_takeMsg (h : Hub) (v : Nat) : (h.takeMsg v).lsy =
    { h.lsy with rx := if h.flag LSY_USER_rx_en && decide (h.lsy.rx.length < 8) then h.lsy.rx ++ [userMsg v] else h.lsy.rx } := by
  rw [Hub.takeMsg]
  split
  case isTrue hoff => simp [show h.flag LSY_USER_rx_en = false by simpa using hoff]
  case isFalse hon =>
    have hen : h.flag LSY_USER_rx_en = true := by simpa using hon
    split
    case isTrue hfull => simp [Nat.not_lt.mpr hfull, Hub.count, Hub.wr]
    case isFalse hroom =>
      rw [(intEvent_moves _ _ _).keeps .lsy, if_pos (by simpa [hen] using hroom)]
      rfl

theorem rd_takeMsg_overflow {h : Hub} {v : Nat} (hen : h.flag LSY_USER_rx_en = true) (hfull : 8 ≤ h.lsy.rx.length) :
    (h.takeMsg v).rd LSY_RX_STAT_overflow = satInc (2 ^ LSY_RX_STAT_overflow.width - 1) (h.rd LSY_RX_STAT_overflow) := by
  rw [Hub.takeMsg, if_neg (by simp [hen]), if_pos hfull, Hub.rd_count_satInc]

/-- What a user message that is delivered leaves. -/
theorem userDeliver_spec (h : Hub) (v : Nat) :
    (h.userDeliver v).lsy.fwd = h.lsy.fwd ∧ (h.userDeliver v).lsy.ret = h.lsy.ret ∧ (h.userDeliver v).lsy.rx =
      (if h.flag LSY_USER_rx_en && decide (h.lsy.rx.length < 8) then h.lsy.rx ++ [userMsg v] else h.lsy.rx) ∧
    (h.flag LSY_USER_rx_en = true → 8 ≤ h.lsy.rx.length →
      (h.userDeliver v).rd LSY_RX_STAT_overflow = satInc (2 ^ LSY_RX_STAT_overflow.width - 1) (h.rd LSY_RX_STAT_overflow)) ∧
    (h.lsyPlaced = true → ∀ k t, k < 8 → t < 8 → userEvent v h k = true → bitOf ((h.userDeliver v).tmb t).lsyLatch k = true) := by
  have hregs := regs_raiseEvents h (userEvent v)
  have hlsy : (h.raiseEvents (userEvent v)).lsy = h.lsy := (raiseEvents_moves h (userEvent v)).keeps .lsy
  rw [userDeliver_eq]
  refine ⟨?_, ?_, ?_, fun hen hfull => ?_, fun hp k t hk ht hset => ?_⟩
  · rw [lsy_takeMsg, hlsy]
  · rw [lsy_takeMsg, hlsy]
  · rw [lsy_takeMsg, hlsy, Hub.flag_congr hregs]
  · rw [rd_takeMsg_overflow (by rwa [Hub.flag_congr hregs]) (by rwa [hlsy]), Hub.rd_congr hregs]
  · rw [Hub.tmb, tmbs_takeMsg]
    exact raiseEvents_latches (fun g hg j => by simp only [userEvent, Hub.rd_congr hg]) hp hk ht hset

/-- A sync-kind event that is due sets its latches, once for each instant (R335). -/
def Hub.syncEvent (h : Hub) (k : Nat) : Hub :=
  match h.eventDue k with
  | none => h
  | some e =>
    if h.rd LSY_EV_CFG_kind k == 1 && h.lsyAligned && h.lsyPlaced && vget h.lsy.evAt k none != some e then
      (h.modLsy (fun x => { x with evAt := vset x.evAt k (some e) })).lsyEvent k
    else h

theorem syncEvent_sets {h : Hub} {k : Nat} (hk : k < 8) (hdue : (h.eventDue k).isSome = true) (hkind : (h.rd LSY_EV_CFG_kind k == 1) = true)
    (haligned : h.lsyAligned = true) (hplaced : h.lsyPlaced = true)
    (hnew : (h.eventDue k).all (fun e => vget h.lsy.evAt k none != some e) = true) :
    vget (h.syncEvent k).lsy.evAt k none = h.eventDue k ∧ (∀ t : Fin 8, bitOf ((h.syncEvent k).tmb t).lsyLatch k = true) ∧
      (h.syncEvent k).regs = h.regs := by
  obtain ⟨e, he⟩ := Option.isSome_iff_exists.mp hdue
  rw [he, Option.all_some] at hnew
  have hset : h.syncEvent k = (h.modLsy (fun x => { x with evAt := vset x.evAt k (some e) })).lsyEvent k := by
    simp only [Hub.syncEvent, he, hkind, haligned, hplaced, hnew, Bool.and_self, if_true]
  rw [hset, he]
  refine ⟨?_, fun t => lsyEvent_latches (by exact hplaced) k t.isLt, regs_lsyEvent _ k⟩
  rw [(lsyEvent_moves _ _).keeps .lsy]
  exact vget_vset_self _ _ _ _ hk

theorem syncEvent_idle {h : Hub} {k : Nat}
    (hc : (h.rd LSY_EV_CFG_kind k != 1 || !h.lsyAligned || !h.lsyPlaced || (h.eventDue k).isNone) = true) : h.syncEvent k = h := by
  cases he : h.eventDue k with
  | none => simp only [Hub.syncEvent, he]
  | some e =>
    rw [he, Option.isNone_some, Bool.or_false] at hc
    simp only [Hub.syncEvent, he]
    refine if_neg fun hgo => ?_
    simp only [Bool.and_eq_true, beq_iff_eq] at hgo
    obtain ⟨⟨⟨hkind, haligned⟩, hplaced⟩, -⟩ := hgo
    rw [hkind, haligned, hplaced] at hc
    exact absurd hc (by decide)

/-- A read of LSY_RX by its ward takes the oldest message out. -/
theorem readLsyRx_spec (h : Hub) (w : Nat) : (h.readLsyRx w).2 =
    { h with lsy := if h.rd LSY_USER_rx_ward = w then { h.lsy with rx := h.lsy.rx.tail } else h.lsy } := by
  rw [Hub.readLsyRx]
  by_cases hw : h.rd LSY_USER_rx_ward = w
  · rw [if_pos (beq_iff_eq.mpr hw), if_pos hw]
    cases hrx : h.lsy.rx with
    | nil =>
      have hkept : { h.lsy with rx := h.lsy.rx.tail } = h.lsy := by rw [hrx, List.tail_nil, ← hrx]
      rw [← hrx, hkept]
      simp only [hrx]
    | cons m rest => rfl
  · rw [if_neg (by simpa using hw), if_neg hw]

/-! ### The clauses -/

/-- A frame of Luanen is acted on where Luanen is on and not under test. -/
theorem completes_onLsy {c : Instr} {s : State} {f : Hub → Hub} {P : Hub → Prop} (hx : exec c s = s.onLsy f)
    (hon : s.hub.lsyOn = true) (htest : (s.hub.testGroup != 2) = true) (hp : P (f s.hub.begun)) : Completes c s P := by
  refine completes_of_begun (hx.trans rfl) ?_
  rw [if_pos (by exact Bool.and_eq_true_iff.mpr ⟨hon, htest⟩)]
  exact hp

theorem lsyForward_of_tail {h : Hub} {f : LFrame} (ht : h.isTail = true) : h.lsyForward f = h := if_pos ht

theorem fwd_lsyForward {h : Hub} {f : LFrame} (ht : h.isTail = false) (hroom : h.lsy.fwd.length < 16) :
    h.lsyForward f = { h with lsy := { h.lsy with fwd := lsyPut h.lsy.fwd f } } := by
  rw [Hub.lsyForward, if_neg (by simp [ht]), Hub.lsySend, if_pos hroom]

theorem rx_lsyForward (h : Hub) (f : LFrame) : (h.lsyForward f).lsy.rx = h.lsy.rx := by
  rw [Hub.lsyForward]
  split
  · rfl
  · rw [Hub.lsySend]
    split
    · rfl
    · dsimp only
      split
      · split
        · rfl
        · rfl
      · rfl

theorem contains_lsyReturn (h : Hub) (f : LFrame) : (h.lsyReturn f).lsy.ret.contains f = true := by
  simp [Hub.lsyReturn, Hub.modLsy]

/-- A user message from upstream. -/
theorem recvUser_up (h : Hub) (v : Nat) : h.recvUser true v =
    if h.lsyPlaced && bitsOf v 26 5 == h.lsyPos && !bitOf v 31 then h.userDeliver v
    else (if bitOf v 31 then h.userDeliver v else h).lsyForward { cmd := 0x60, payload := v } := by
  rw [Hub.recvUser]
  cases hmine : h.lsyPlaced && bitsOf v 26 5 == h.lsyPos && !bitOf v 31 with
  | true => simp
  | false => simp

/-- A user message from downstream. -/
theorem recvUser_down (h : Hub) (v : Nat) : h.recvUser false v =
    if h.lsyPlaced && bitsOf v 26 5 == h.lsyPos && !bitOf v 31 then h.userDeliver v
    else if h.isHead then h else h.lsyReturn { cmd := 0x60, payload := v } := rfl

theorem takeMsg_moves (h : Hub) (v : Nat) : Moves ⟨[.ints, .pins, .lsy], intFlds ++ [LSY_RX_STAT_overflow], []⟩ h (h.takeMsg v) :=
  .ite (Moves.refl _ h) (.ite ((Moves.refl _ h).count _ _ _ _) (((Moves.refl _ h).to (modLsy_moves _ _)).to (intEvent_moves _ _ _)))

theorem isTail_of_flags {h k : Hub} (hhead : k.flag LSY_CFG_head = h.flag LSY_CFG_head)
    (hplaced : k.flag LSY_STAT_pos_valid = h.flag LSY_STAT_pos_valid) (hpos : k.rd LSY_STAT_pos = h.rd LSY_STAT_pos)
    (hhubs : k.rd LSY_CFG_hubs_m1 = h.rd LSY_CFG_hubs_m1) : k.isTail = h.isTail := by
  rw [Hub.isTail, Hub.isTail, Hub.lsyPlaced, Hub.lsyPlaced, Hub.lsyPos, Hub.lsyPos, Hub.isHead, Hub.isHead, hhead, hplaced, hpos, hhubs]

theorem isTail_takeMsg (h : Hub) (v : Nat) : (h.takeMsg v).isTail = h.isTail :=
  have x := takeMsg_moves h v
  isTail_of_flags (x.flag LSY_CFG_head 0 0) (x.flag LSY_STAT_pos_valid 0 0) (x.rd LSY_STAT_pos 0 0) (x.rd LSY_CFG_hubs_m1 0 0)

theorem isTail_congr {h k : Hub} (hr : k.regs = h.regs) : k.isTail = h.isTail :=
  isTail_of_flags (Hub.flag_congr hr _ _ _) (Hub.flag_congr hr _ _ _) (Hub.rd_congr hr _ _ _) (Hub.rd_congr hr _ _ _)

theorem isTail_userDeliver (h : Hub) (v : Nat) : (h.userDeliver v).isTail = h.isTail := by
  rw [userDeliver_eq, isTail_takeMsg, isTail_congr (regs_raiseEvents _ _)]

/-- What a message that goes on downstream leaves of the forward window. -/
theorem lsyForward_spec {h k : Hub} {f : LFrame} (htail : k.isTail = h.isTail) (hfwd : k.lsy.fwd = h.lsy.fwd) :
    (h.isTail = false → h.lsy.fwd.length < 16 → (k.lsyForward f).lsy.fwd = lsyPut h.lsy.fwd f) ∧
      (h.isTail = true → (k.lsyForward f).lsy.fwd = h.lsy.fwd) ∧ (k.lsyForward f).lsy.rx = k.lsy.rx := by
  refine ⟨fun ht hroom => ?_, fun ht => ?_, rx_lsyForward k f⟩
  · rw [fwd_lsyForward (htail.trans ht) (by rwa [hfwd]), hfwd]
  · rw [lsyForward_of_tail (htail.trans ht), hfwd]

/-- Settles O22: each clause by the lemma of what its frame or event does. -/
theorem luanenEvents : Obligations.LuanenEvents := by
  refine ⟨?mark, ?event, ?noEvent, ?mine, ?down, ?up, ?read⟩
  case mark =>
    intro s v hc
    simp only [Can.mark, Bool.and_eq_true, Bool.not_eq_true'] at hc
    obtain ⟨⟨⟨hon, htest⟩, hhead⟩, hlost⟩ := hc
    refine completes_onLsy (exec_mark v s) hon htest ?_
    rw [if_neg (by exact ne_true_of_eq_false (Bool.or_eq_false_iff.mpr ⟨hhead, hlost⟩)), recvMark_eq]
    intro k t hp hkind hpos htmb hmk
    rw [Hub.tmb, (lsyForward_moves _ _).keeps .tmbs]
    refine raiseEvents_latches (h := s.hub.begun) (fun g hg j => by simp only [markEvent, Hub.rd_congr hg]) hp k.isLt t.isLt ?_
    simp only [markEvent, Bool.and_eq_true, beq_iff_eq]
    exact ⟨⟨⟨hkind, hpos⟩, htmb⟩, hmk⟩
  case event =>
    intro s k hc
    simp only [Can.luanenEvent, Bool.and_eq_true] at hc
    obtain ⟨⟨⟨⟨⟨⟨hon, htest⟩, hkind⟩, haligned⟩, hplaced⟩, hdue⟩, hnew⟩ := hc
    exact completes_onLsy (f := fun h => h.syncEvent k) (exec_luanenEvent k s) hon htest
      (syncEvent_sets (h := s.hub.begun) k.isLt hdue hkind haligned hplaced hnew)
  case noEvent =>
    intro s k hc
    refine completes_of_begun (f := fun h => if h.lsyOn && h.testGroup != 2 then h.syncEvent k else h) (exec_luanenEvent k s) ?_
    rw [syncEvent_idle (h := s.hub.begun) hc, ite_self]
    exact ⟨rfl, rfl, rfl⟩
  case mine =>
    intro s up v hc
    simp only [Can.user, Bool.and_eq_true] at hc
    obtain ⟨⟨⟨⟨⟨hon, htest⟩, hup⟩, hplaced⟩, hsingle⟩, hpos⟩ := hc
    refine completes_onLsy (exec_user up v s) hon htest ?_
    have hmine : (s.hub.begun.lsyPlaced && bitsOf v.toNat 26 5 == s.hub.begun.lsyPos && !bitOf v.toNat 31) = true :=
      Bool.and_eq_true_iff.mpr ⟨Bool.and_eq_true_iff.mpr ⟨hplaced, hpos⟩, hsingle⟩
    have hdeliver : s.hub.begun.recvUser up v.toNat = s.hub.begun.userDeliver v.toNat := by
      cases up with
      | true => rw [recvUser_up, if_pos hmine]
      | false => rw [recvUser_down, if_pos hmine]
    have hgo : ¬ (up && (s.hub.begun.isHead || s.hub.begun.lsy.lost)) = true := by
      cases up with
      | true =>
        intro hlost
        simp only [Bool.not_true, Bool.false_or, Bool.and_eq_true, Bool.not_eq_true'] at hup
        exact absurd (hlost.symm.trans (Bool.or_eq_false_iff.mpr hup)) (by decide)
      | false => exact Bool.false_ne_true
    obtain ⟨hfwd, hret, hrx, hover, hlatch⟩ := userDeliver_spec s.hub.begun v.toNat
    rw [if_neg hgo, hdeliver]
    refine ⟨hfwd, hret, hrx, hover, fun k hkind hcode t => hlatch hplaced k t k.isLt t.isLt ?_⟩
    exact Bool.and_eq_true_iff.mpr ⟨beq_iff_eq.mpr hkind, beq_iff_eq.mpr hcode⟩
  case down =>
    intro s up v hc
    simp only [Can.user2, Bool.and_eq_true, Bool.not_eq_true'] at hc
    obtain ⟨⟨⟨⟨⟨hon, htest⟩, hhead⟩, hlost⟩, rfl⟩, hother⟩ := hc
    refine completes_onLsy (exec_user true v s) hon htest ?_
    rw [if_neg (by exact ne_true_of_eq_false (Bool.or_eq_false_iff.mpr ⟨hhead, hlost⟩)), recvUser_up, if_neg]
    · cases hcast : bitOf v.toNat 31 with
      | true =>
        obtain ⟨hfwd, -, htaken, -, -⟩ := userDeliver_spec s.hub.begun v.toNat
        obtain ⟨hroom, htail, hrx⟩ := lsyForward_spec (f := { cmd := 0x60, payload := v.toNat })
          (isTail_userDeliver s.hub.begun v.toNat) hfwd
        refine ⟨hroom, htail, fun hno => absurd (hcast.symm.trans hno) (by decide), fun _ hen hspace => ?_⟩
        rw [if_pos rfl, hrx, htaken, if_pos (by exact Bool.and_eq_true_iff.mpr ⟨hen, decide_eq_true hspace⟩)]
        rfl
      | false =>
        obtain ⟨hroom, htail, hrx⟩ := lsyForward_spec (f := { cmd := 0x60, payload := v.toNat })
          (Eq.refl s.hub.begun.isTail) (Eq.refl s.hub.begun.lsy.fwd)
        exact ⟨hroom, htail, fun _ => hrx, fun hyes => absurd (hcast.symm.trans hyes) (by decide)⟩
    · intro hmine
      simp only [Bool.and_eq_true, beq_iff_eq, Bool.not_eq_true'] at hmine
      obtain ⟨⟨hplaced, hpos⟩, hsingle⟩ := hmine
      simp only [Bool.or_eq_true, Bool.not_eq_true', bne_iff_ne, ne_eq] at hother
      rcases hother with (hother | hother) | hother
      · exact absurd (hplaced.symm.trans hother) (by decide)
      · exact absurd (hother.symm.trans hsingle) (by decide)
      · exact hother hpos
  case up =>
    intro s up v hc
    simp only [Can.user3, Bool.and_eq_true, Bool.not_eq_true'] at hc
    obtain ⟨⟨⟨⟨hon, htest⟩, rfl⟩, hhead⟩, hnot⟩ := hc
    refine completes_onLsy (exec_user false v s) hon htest ?_
    rw [if_neg (by exact Bool.false_ne_true), recvUser_down, if_neg (by exact ne_true_of_eq_false ((Bool.and_right_comm _ _ _).trans hnot)), if_neg (by exact ne_true_of_eq_false hhead)]
    exact ⟨contains_lsyReturn _ _, rfl, rfl⟩
  case read =>
    intro s w hc
    refine completes_of_begun (exec_lsyRxRead w s) ?_
    rw [if_pos (by exact hc), readLsyRx_spec]
    exact ⟨rfl, rfl⟩

end Sys2Proof.Machine

/-!
PROOF. A calibration that ends on the head while another one is due is followed by that one at once (R345): LSY_STAT.calibrating is set
again and the periods are counted from 0.
-/

namespace Sys2Proof.Machine

set_option Elab.async false

/-- A command does not complete with what a part denies that nothing after the command reaches. -/
theorem not_completes_of_kept {α : Type} {c : Instr} {s : State} {f : Hub → Hub} {P : Hub → Prop} (π : Hub → α) (Q : α → Prop)
    (hf : exec c s = s.on f) (hkept : ∀ b a : Hub, π (settle b a) = π a) (hP : ∀ h, P h → Q (π h)) (hnot : ¬ Q (π (f s.hub.begun))) :
    ¬ Completes c s P := by
  rintro ⟨t, h, hexec, -, hp, hhub, -⟩
  have hsame : settle s.hub (f s.hub.begun) = settle s.hub h := (hub_of_on hf hexec).symm.trans hhub
  refine hnot ?_
  rw [← hkept s.hub, hsame, hkept]
  exact hP h hp

/-- What follows a command leaves Luanen sync. -/
theorem lsy_settle (before after : Hub) : (settle before after).lsy = after.lsy := (settle_moves before after).keeps .lsy

/-- The head of a chain of two hubs in *Run*, one echo before the end of a calibration, with another one due. -/
def againState : State :=
  { State.reset with hub :=
    { ((((State.reset.hub.put LSY_CFG_en true).put LSY_CFG_head true).wr LSY_CFG_hubs_m1 1).put LSY_STAT_calibrating true).put
        FLT_FIRST_valid true with
      dev := { State.reset.hub.dev with phase := .up }
      lsy := { State.reset.hub.lsy with echoes := List.replicate 15 1600, calPer := some 4, again := true } } }

theorem exec_calEcho_againState : ∃ f : Hub → Hub, exec (.calEcho true 0) againState = againState.on f ∧
    ¬ (f againState.hub.begun).lsy.calPer = none :=
  ⟨_, exec_calEcho true 0 againState, by decide +kernel⟩

/-- Refutes O21: in `againState` the sixteenth echo is missing, the calibration has failed, and the next one starts at once. -/
theorem not_luanenCalibration : ¬ Obligations.LuanenCalibration := by
  rintro ⟨-, -, hlast, -⟩
  obtain ⟨f, hf, hagain⟩ := exec_calEcho_againState
  exact not_completes_of_kept (fun h => h.lsy.calPer) (fun p => p = none) hf (fun b a => congrArg Lsy.calPer (lsy_settle b a))
    (fun _ hp => hp.2.1) hagain (hlast againState true 0 (by decide +kernel))

end Sys2Proof.Machine

/-!
PROOF. A link loss that the field die reset's end reports takes the hub to *Safe* where its source has that class; the commands that wait
for admission are withdrawn there, so that the output channels are not as they were.
-/

namespace Sys2Proof.Machine

set_option Elab.async false

/-- A command does not complete with the output channels as they were where it changes more of them than the marks of their supervision,
LG5 is under test and DB does not drive them. -/
theorem not_completes_outs {c : Instr} {s : State} {f : Hub → Hub} {P : Hub → Prop} (hf : exec c s = s.on f)
    (hP : ∀ h, P h → h.outs = s.hub.outs) (hg : (settle s.hub (f s.hub.begun)).testGroup = 5)
    (hdb : (settle s.hub (f s.hub.begun)).dbt.dbForced = false)
    (hnot : (f s.hub.begun).outs.map OutCh.unwatched ≠ s.hub.outs.map OutCh.unwatched) : ¬ Completes c s P := by
  rintro ⟨t, h, hexec, -, hp, hhub, -⟩
  have hsame : settle s.hub (f s.hub.begun) = settle s.hub h := (hub_of_on hf hexec).symm.trans hhub
  have hkept := settle_outs hg hdb
  rw [hsame] at hg hdb hkept
  refine hnot ?_
  rw [← hkept, settle_outs hg hdb, hP h hp]

/-- The hub in *Run* with LG5 under test, a field die reset 5 ms after its request without a link, a command on channel 0 that waits for
admission, and the class *Safe* for HINGE_LOST. -/
def withdrawnState : State :=
  { State.reset with hub :=
    { ((((((State.reset.hub.wr (FLT_CLASS_class 11) 5).put (FLT_EN_en 11) true).put FLT_FIRST_valid true).put BST_STAT_busy true).wr
        BST_STAT_group 5).wr OUT_CFG_mode 1) with
      dev := { State.reset.hub.dev with phase := .up }, fieldReset := 3
      clk := { State.reset.hub.clk with now := 1000000 }
      outs := vset State.reset.hub.outs 0 { wait := some true } } }

theorem exec_withdrawnState : ∃ f : Hub → Hub, exec .fieldResetTimeout withdrawnState = withdrawnState.on f ∧
    ((f withdrawnState.hub.begun).outs.map OutCh.unwatched)[0].wait = none ∧
    (settle withdrawnState.hub (f withdrawnState.hub.begun)).testGroup = 5 ∧
    (settle withdrawnState.hub (f withdrawnState.hub.begun)).dbt.dbForced = false :=
  ⟨_, exec_fieldResetTimeout withdrawnState, by decide +kernel, by decide +kernel, by decide +kernel⟩

/-- Refutes O30: in `withdrawnState` HINGE_LOST takes the hub to *Safe*, and the command that waits on channel 0 is withdrawn. -/
theorem not_resetCommands : ¬ Obligations.ResetCommands := by
  rintro ⟨-, -, -, -, -, -, -, -, -, -, -, -, -, -, -, -, -, -, hlate, -⟩
  obtain ⟨f, hf, hwait, hg, hdb⟩ := exec_withdrawnState
  refine not_completes_outs hf (fun _ hp => hp.2.2) hg hdb (fun hsame => ?_) (hlate withdrawnState (by decide +kernel))
  rw [hsame] at hwait
  exact absurd hwait (by decide +kernel)

end Sys2Proof.Machine

/-!
PROOF. The supplies, the hold-up capacitor and the VDD warning: what the trigger of a valid VDD, a measurement of VHOLD and a warning's
begin and end leave.
-/

namespace Sys2Proof.Machine

set_option Elab.async false

/-! ### The trigger of a valid VDD -/

/-- With VDD not valid, or outside *Off*, the trigger waits. -/
theorem trigger_of_bad {h : Hub} (hbad : h.vddGood = false) : h.trigger = h := by
  rw [Hub.trigger, if_pos (by simp [hbad])]

theorem daWant_wantTone (h : Hub) (t : Tone) : (h.wantTone t).hinge.daWant = t := by
  rw [Hub.wantTone]
  split
  case isTrue hsame => exact beq_iff_eq.mp hsame
  case isFalse => rfl

theorem wantTone_keeps (h : Hub) (t : Tone) : (h.wantTone t).dev = h.dev ∧ (h.wantTone t).sup = h.sup ∧ (h.wantTone t).mem = h.mem := by
  rw [Hub.wantTone]
  split
  · exact ⟨rfl, rfl, rfl⟩
  · exact ⟨rfl, rfl, rfl⟩

theorem retainedJudge_of_valid {h : Hub} (hv : h.ret.valid = true) : h.retainedJudge =
    ({ h with ret := { h.ret with boots := satInc (2 ^ 32 - 1) h.ret.boots } }.bootDomains.wr PWR_RET_STAT_source 0) := by
  rw [Hub.retainedJudge, if_pos hv]
  rfl

/-- The hub once the retained block has been judged at the trigger. -/
def Hub.judged (h : Hub) : Hub := if h.ret.valid then h.retainedJudge else h.bootDomains

theorem judged_keeps (h : Hub) : h.judged.dev = h.dev ∧ h.judged.sup.band = h.sup.band ∧ h.judged.sup.vdd = h.sup.vdd ∧
    h.judged.mem = h.mem := by
  rw [Hub.judged]
  split
  case isTrue hv =>
    rw [retainedJudge_of_valid hv]
    exact ⟨rfl, rfl, rfl, rfl⟩
  case isFalse => exact ⟨rfl, rfl, rfl, rfl⟩

/-- The cause of a power-on reset in the history of a retained block that has outlived it. -/
def Hub.notedPor (h : Hub) (por : Bool) : Hub := if por && h.ret.valid then h.history 1 0xF else h

theorem notedPor_keeps (h : Hub) (por : Bool) : (h.notedPor por).dev = h.dev ∧ (h.notedPor por).sup = h.sup ∧
    (h.notedPor por).mem = h.mem := by
  rw [Hub.notedPor]
  split
  · exact ⟨rfl, rfl, rfl⟩
  · exact ⟨rfl, rfl, rfl⟩

/-- The hub as the trigger starts it. -/
def Hub.started (h : Hub) : Hub :=
  { h with dev := { h.dev with phase := .boot, porWaits := false }, life := { h.life with secondAt := h.clk.now } }

/-- The hub in *Boot*, with the test pin sampled and the warning in force that VDD shows. -/
def Hub.sampled (h : Hub) (low : Bool) (warnMin : Nat) : Hub :=
  { h with dev := { h.dev with testHeld := h.dev.testen }, sup := { h.sup with warn := low, warnAtTrigger := low, warnMin := warnMin } }

theorem trigger_eq {h : Hub} (hoff : h.dev.phase = .off) (hgood : h.vddGood = true) : h.trigger =
    let k := h.started.judged.notedPor h.dev.porWaits
    (k.sampled (decide (h.sup.vdd < h.sup.band.vwarn)) (k.sup.vdd / 10)).wantTone .bolt := by
  rw [Hub.trigger, if_neg (by simp [hoff, hgood])]
  rfl

/-- A valid VDD takes the hub from *Off* to *Boot*, with DA on BOLT. -/
theorem trigger_of_good {h : Hub} (hoff : h.dev.phase = .off) (hgood : h.vddGood = true) :
    h.trigger.dev.phase = .boot ∧ h.trigger.dev.halt = h.dev.halt ∧ h.trigger.sup.band = h.sup.band ∧ h.trigger.sup.vdd = h.sup.vdd ∧
      h.trigger.sup.warn = decide (h.sup.vdd < h.sup.band.vwarn) ∧ h.trigger.mem = h.mem ∧ h.trigger.dev.testHeld = h.dev.testen ∧
      h.trigger.hinge.daWant = .bolt := by
  rw [trigger_eq hoff hgood]
  dsimp only
  generalize hk : h.started.judged.notedPor h.dev.porWaits = k
  obtain ⟨hjdev, hjband, hjvdd, hjmem⟩ := judged_keeps h.started
  obtain ⟨hndev, hnsup, hnmem⟩ := notedPor_keeps h.started.judged h.dev.porWaits
  rw [hk] at hndev hnsup hnmem
  have hdev : k.dev = h.started.dev := hndev.trans hjdev
  obtain ⟨hwdev, hwsup, hwmem⟩ := wantTone_keeps (k.sampled (decide (h.sup.vdd < h.sup.band.vwarn)) (k.sup.vdd / 10)) .bolt
  rw [hwdev, hwsup, hwmem, daWant_wantTone, Hub.sampled]
  dsimp only
  rw [hdev, hnsup, hjband, hjvdd, hnmem, hjmem]
  exact ⟨rfl, rfl, rfl, rfl, rfl, rfl, rfl, rfl⟩

/-! ### Power lost -/

/-- The hub whose DA will hold BOLT through the boot. -/
def Hub.boltsBoot (h : Hub) : Hub := { h with dev := { h.dev with boltBoot := true } }

/-- What the loss of the logic die's supply leaves. -/
theorem logicLost_keeps (h : Hub) (vddLost : Bool) : (h.logicLost vddLost).dev.phase = .off ∧ (h.logicLost vddLost).dev.halt = none ∧
    (h.logicLost vddLost).dev.testen = h.dev.testen ∧ (h.logicLost vddLost).dev.rstLow = h.dev.rstLow ∧
    (h.logicLost vddLost).mem = [] ∧ (h.logicLost vddLost).ret = h.ret := by
  have hmoves := abandonNvm_moves h.boltsBoot false
  have hdev : (h.boltsBoot.abandonNvm false).dev = h.boltsBoot.dev := hmoves.keeps .dev
  have hret : (h.boltsBoot.abandonNvm false).ret = h.ret := hmoves.keeps .ret
  have htesten := congrArg Dev.testen hdev
  have hlow := congrArg Dev.rstLow hdev
  exact ⟨rfl, rfl, htesten, hlow, rfl, hret⟩

/-! ### VHOLD -/

/-- A measurement of VHOLD shows it, with what it allows. -/
theorem measureVhold_spec (h : Hub) (mv : Nat) : (h.measureVhold mv).sup = { h.sup with
      vhold := mv, vholdOk := decide (h.sup.vdd ≤ mv + 100)
      nvmAllowed := (decide (h.sup.vdd ≤ mv + 100) || h.sup.nvmAllowed) && decide (h.sup.band.vhend ≤ mv) } ∧
    (h.measureVhold mv).mem = h.mem := by
  rw [Hub.measureVhold]
  dsimp only
  split
  · exact ⟨(nvmGo_moves _).keeps .sup, (nvmGo_moves _).keeps .mem⟩
  · exact ⟨rfl, rfl⟩

/-- The NVM's next operation outdates the slot check at most. -/
theorem nvmGo_moves_check (h : Hub) : Moves ⟨[.blk, .nvmOp, .nvmQ], [BLK_CHECK_reason], []⟩ h h.nvmGo :=
  .ite (Moves.refl _ h) (by
  split
  · exact Moves.refl _ h
  · exact .bind ((Moves.refl _ h).nvmOp_nvmQ _ _) fun y => .ite ((y.wr _ _ _ _).blk _) y)

theorem rd_measureVhold {h : Hub} {mv : Nat} (hmv : mv < 5120) : (h.measureVhold mv).rd PWR_HOLD_STAT_vhold = mv / 10 := by
  have hlt : mv / 10 < 2 ^ PWR_HOLD_STAT_vhold.width := by
    have hfits : 512 ≤ 2 ^ PWR_HOLD_STAT_vhold.width := by decide
    omega
  rw [Hub.measureVhold]
  dsimp only
  split
  · rw [(nvmGo_moves_check _).rd PWR_HOLD_STAT_vhold 0 0]
    exact Hub.rd_wr_of_lt _ _ _ hlt
  · exact Hub.rd_wr_of_lt _ _ _ hlt

theorem caused_measureVhold {h : Hub} {mv : Nat} (hnear : h.sup.vdd ≤ mv + 100) : caused (h.measureVhold mv) 4 16 = false := by
  rw [Hub.measureVhold]
  dsimp only
  rw [if_pos (by exact decide_eq_true hnear), ((nvmGo_moves _).sameSignals).caused, caused_lower (by decide)]
  simp

/-! ### The VDD warning -/

theorem test_abortTest (h : Hub) : h.abortTest.dev.test = false := by
  rw [Hub.abortTest]
  split
  case isTrue =>
    rw [(intEvent_moves _ _ _).keeps .dev, (wdStartAll_moves _).keeps .dev, (bistRecord_moves _).keeps .dev]
    rfl
  case isFalse htest => simpa using htest

/-- A warning begins unless the proof of its own comparator lowers the threshold (R65). -/
def Hub.warnUnproved (h : Hub) : Hub :=
  match h.dbt.proof with
  | some p => if p.mech == 2 && p.inst == 0 then h else h.warnBegin
  | none => h.warnBegin

theorem warnUnproved_of_other {h : Hub} (hproof : ∀ p, h.dbt.proof = some p → (p.mech == 2 && p.inst == 0) = false) :
    h.warnUnproved = h.warnBegin := by
  cases hp : h.dbt.proof with
  | none => simp only [Hub.warnUnproved, hp]
  | some p => simp only [Hub.warnUnproved, hp, hproof p hp, Bool.false_eq_true, if_false]

theorem warnBegin_spec {h : Hub} (hwarn : h.sup.warn = false) (hphase : h.dev.phase ≠ .off) (hpd : h.sup.pd = none)
    (hlow : h.sup.vdd < h.sup.band.vwarn) : h.warnBegin.sup = { h.sup with warn := true, warnAtTrigger := false, warnMin := h.sup.vdd / 10 } ∧
      h.warnBegin.dev.test = false := by
  rw [Hub.warnBegin, if_neg (by simp [hwarn, hphase, hpd, hlow])]
  dsimp only
  have hsup : h.abortTest.sup = h.sup := (abortTest_moves h).keeps .sup
  rw [(intAll_moves _ _).keeps .sup, (intAll_moves _ _).keeps .dev, ← hsup]
  exact ⟨rfl, test_abortTest h⟩

/-- Two retained blocks are the same but for the number of the next record. -/
def SameRetained (h k : Hub) : Prop := k.ret = { h.ret with nextSeq := k.ret.nextSeq }

theorem Moves.sameRetained {F : Foot} {h k : Hub} (x : Moves F h k) (hF : F.parts.contains .ret = false := by decide) :
    SameRetained h k := by
  have hret : k.ret = h.ret := x.keeps .ret hF
  rw [SameRetained, hret]

theorem SameRetained.to {F : Foot} {h₀ h k : Hub} (x : SameRetained h₀ h) (y : Moves F h k)
    (hF : F.parts.contains .ret = false := by decide) : SameRetained h₀ k := by
  have hret : k.ret = h.ret := y.keeps .ret hF
  rw [SameRetained, hret]
  exact x

theorem giveSeq_sameRetained (h : Hub) : SameRetained h h.giveSeq.2 := by
  rw [Hub.giveSeq]
  split
  · rfl
  · rfl

/-- A record of the recorder changes of the retained block the number of the next one at most. -/
theorem intake_sameRetained (h : Hub) (e : RecEvent) : SameRetained h (h.intake e) := by
  rw [Hub.intake]
  split
  · rfl
  · split
    · split
      · rfl
      · exact ((((Moves.refl ⟨[.recd], [], []⟩ h).sameRetained).to (F := ⟨[.regs], [], []⟩) ((Moves.refl _ _).countAny _ _ _ _)).to
          (countDrop_moves _ _)).to ((Moves.refl ⟨[.recd], [], []⟩ _).recd _)
    · exact (giveSeq_sameRetained h).to (fifoIn_moves _ _)

/-- A dip is counted with its lowest VDD. -/
theorem countDip_spec (h : Hub) : h.countDip.ret.dipCount = satInc 65535 h.ret.dipCount ∧ h.countDip.ret.vmin = h.sup.warnMin % 4096 ∧
    h.countDip.ret.life.dips = satInc (2 ^ 32 - 1) h.ret.life.dips := by
  rw [Hub.countDip]
  dsimp only
  rw [Hub.note, intake_sameRetained]
  exact ⟨rfl, rfl, rfl⟩

/-- PIN_TEST is present where a test pin's level is not the one held. -/
theorem caused_testPin {h : Hub} {n res : Nat} {level held : Bool} (hn : n < 62) (hshown : h.proofHides n res = false) :
    caused (if level == held then h.lower n res else h.raise n res 1 detailOpen) n res = (level != held) := by
  cases hsame : level == held with
  | true => simp [caused_lower hn, bne, hsame]
  | false => simp [caused_raise_self _ _ hn hshown, bne, hsame]

/-! ### The clauses -/

/-- Settles O1: each clause by the lemma of what its command does. -/
theorem supplyCommands : Obligations.SupplyCommands := by
  refine ⟨?por, ?porOff, ?valid, ?charged, ?cap, ?low, ?begin, ?sample, ?dip, ?noDip, ?pin, ?floor⟩
  case por =>
    intro s band vdd hc
    simp only [Can.powerOnReset, Bool.and_eq_true, Bool.not_eq_true'] at hc
    refine completes_of_begun (exec_powerOnReset band vdd s) ?_
    obtain ⟨hphase, hhalt, htesten, hlow, hmem, -⟩ := logicLost_keeps s.hub.begun.aonLost true
    have hgood := trigger_of_good (h := { s.hub.begun.aonLost.logicLost true with
      dev := { (s.hub.begun.aonLost.logicLost true).dev with porWaits := true }
      sup := { (s.hub.begun.aonLost.logicLost true).sup with band := bandOf band, vdd := vdd.toNat, vhold := 0 } }) hphase
      (Bool.and_eq_true_iff.mpr ⟨hc.1, by exact (Bool.not_eq_true' _).mpr (hlow.trans hc.2)⟩)
    obtain ⟨hboot, hnone, hband, hvdd, hwarn, hempty, htest, hbolt⟩ := hgood
    exact ⟨hboot, hnone.trans hhalt, hband, hvdd, hwarn, hempty.trans hmem, htest.trans htesten, hbolt⟩
  case porOff =>
    intro s band vdd hc
    refine completes_of_begun (exec_powerOnReset band vdd s) ?_
    obtain ⟨hphase, -, -, hlow, hmem, hret⟩ := logicLost_keeps s.hub.begun.aonLost true
    have hbad : (decide ((bandOf band).vrst + vddHyst < vdd.toNat) && !(s.hub.begun.aonLost.logicLost true).dev.rstLow) = false := by
      rw [hlow, show s.hub.begun.aonLost.dev.rstLow = s.hub.dev.rstLow from rfl]
      simpa [Can.powerOnReset2, Nat.not_lt, or_iff_not_imp_left] using hc
    rw [trigger_of_bad (by exact hbad)]
    exact ⟨hphase, rfl, hmem, hret⟩
  case valid =>
    intro s vdd hc
    simp only [Can.vddValid, Bool.and_eq_true, beq_iff_eq, Bool.not_eq_true'] at hc
    obtain ⟨⟨hoff, hvdd⟩, hrst⟩ := hc
    refine completes_of_begun (exec_vddValid vdd s) ?_
    rw [if_neg (by simp [Hub.begun, hoff])]
    obtain ⟨hboot, -, -, hshown, hwarn, -, htest, hbolt⟩ :=
      trigger_of_good (h := { s.hub.begun with sup := { s.hub.begun.sup with vdd := vdd.toNat } }) hoff
        (Bool.and_eq_true_iff.mpr ⟨hvdd, by exact (Bool.not_eq_true' _).mpr hrst⟩)
    exact ⟨hboot, hshown, hwarn, htest, hbolt⟩
  case charged =>
    intro s vhold hc
    simp only [Can.vholdCharged, Bool.and_eq_true, bne_iff_ne, decide_eq_true_eq] at hc
    obtain ⟨⟨⟨hphase, hpd⟩, hnear⟩, hend⟩ := hc
    refine completes_of_begun (exec_vholdCharged vhold s) ?_
    rw [if_neg (by simp [Hub.begun, hphase, Option.isSome_eq_false_iff.mpr hpd])]
    obtain ⟨hsup, -⟩ := measureVhold_spec s.hub.begun vhold.toNat
    rw [hsup]
    refine ⟨?_, decide_eq_true hnear, rfl, caused_measureVhold (h := s.hub.begun) hnear, fun hlt => rd_measureVhold hlt⟩
    exact Bool.and_eq_true_iff.mpr ⟨by exact Bool.or_eq_true_iff.mpr (.inl (decide_eq_true hnear)), decide_eq_true hend⟩
  case cap =>
    intro s us hc
    simp only [Can.vholdCapMeasure, Bool.and_eq_true, bne_iff_ne, Bool.not_eq_true'] at hc
    obtain ⟨hphase, hshown⟩ := hc
    refine completes_of_begun (exec_vholdCapMeasure us s) ?_
    rw [if_neg (by simpa [Hub.begun] using hphase)]
    have hcap : min 1023 (us.toNat / 20) < 2 ^ PWR_HOLD_STAT_cap_meas.width := lt_of_le_of_lt (min_le_left _ _) (by decide)
    dsimp only
    split
    case isTrue hless =>
      rw [(raise_moves _ _ _ _ _).rd PWR_HOLD_STAT_cap_meas 0 0, Hub.rd_wr_of_lt _ _ _ hcap, caused_raise_self _ _ (by decide) (by exact hshown)]
      exact ⟨rfl, (decide_eq_true (by omega)).symm⟩
    case isFalse hmore =>
      rw [(lower_moves _ _ _).rd PWR_HOLD_STAT_cap_meas 0 0, Hub.rd_wr_of_lt _ _ _ hcap, caused_lower (by decide)]
      exact ⟨rfl, by simp; omega⟩
  case low =>
    intro s vhold hc
    simp only [Can.vholdLow, Bool.and_eq_true, bne_iff_ne, decide_eq_true_eq, Bool.not_eq_true'] at hc
    obtain ⟨⟨hphase, hfar⟩, hshown⟩ := hc
    refine completes_of_begun (exec_vholdLow vhold s) ?_
    rw [if_neg (by simpa [Hub.begun] using hphase)]
    dsimp only
    obtain ⟨hsup, -⟩ := measureVhold_spec s.hub.begun vhold.toNat
    have hnear : (s.hub.begun.measureVhold vhold.toNat).sup.vholdOk = false := by
      rw [hsup]
      exact decide_eq_false (Nat.not_le.mpr hfar)
    rw [if_neg (by simp [hnear])]
    have hdbt : (s.hub.begun.measureVhold vhold.toNat).dbt = s.hub.dbt := (measureVhold_moves _ _).keeps .dbt
    refine ⟨?_, ?_, caused_raise_self _ _ (by decide) ?_⟩
    · rw [(raise_moves _ _ _ _ _).keeps .sup, hnear]
    · rw [(raise_moves _ _ _ _ _).keeps .sup, hsup]
    · rw [Hub.proofHides, hdbt]
      exact hshown
  case begin =>
    intro s vdd hc
    simp only [Can.vddWarningBegin, Bool.and_eq_true, bne_iff_ne, decide_eq_true_eq, Bool.not_eq_true'] at hc
    obtain ⟨⟨⟨⟨hwarn, hphase⟩, hpd⟩, hlow⟩, hproof⟩ := hc
    refine completes_of_begun (f := fun h => Hub.warnUnproved { h with sup := { h.sup with vdd := vdd.toNat } })
      (exec_vddWarningBegin vdd s) ?_
    have hbegins : Hub.warnUnproved { s.hub.begun with sup := { s.hub.begun.sup with vdd := vdd.toNat } } =
        Hub.warnBegin { s.hub.begun with sup := { s.hub.begun.sup with vdd := vdd.toNat } } := by
      refine warnUnproved_of_other fun p (hp : s.hub.dbt.proof = some p) => ?_
      rw [hp] at hproof
      exact (Bool.not_eq_true' _).mp hproof
    obtain ⟨hsup, htest⟩ := warnBegin_spec (h := { s.hub.begun with sup := { s.hub.begun.sup with vdd := vdd.toNat } }) hwarn hphase
      (Option.isNone_iff_eq_none.mp hpd) hlow
    rw [hbegins, hsup]
    exact ⟨rfl, rfl, rfl, rfl, htest⟩
  case sample =>
    intro s vdd vhold hc
    refine completes_of_begun (exec_vminSample ⟨vdd, vhold⟩ s) ?_
    rw [if_pos (by exact hc)]
    simp only [Can.vminSample, Bool.and_eq_true] at hc
    obtain ⟨hsup, hmem⟩ := measureVhold_spec { s.hub.begun with
      sup := { s.hub.begun.sup with vdd := vdd.toNat, warnMin := min s.hub.begun.sup.warnMin (vdd.toNat / 10) } } vhold.toNat
    rw [hsup, hmem]
    exact ⟨rfl, rfl, rfl, rfl, hc.1, rfl⟩
  case dip =>
    intro s vdd hc
    simp only [Can.vddWarningEnd, Bool.and_eq_true, decide_eq_true_eq, Bool.not_eq_true'] at hc
    obtain ⟨⟨⟨hwarn, hquiet⟩, hpd⟩, hhigh⟩ := hc
    refine completes_of_begun (exec_vddWarningEnd vdd s) ?_
    have hpast : decide (vdd.toNat ≤ s.hub.begun.sup.band.vwarn + vddHyst) = false := decide_eq_false (Nat.not_le.mpr hhigh)
    rw [if_neg (by rw [hpast]; simp [Hub.begun, hwarn, Option.isSome_eq_false_iff.mpr hpd])]
    dsimp only
    rw [(nvmGo_moves _).keeps .sup, (nvmGo_moves _).keeps .ret, (intAll_moves _ _).keeps .sup, (intAll_moves _ _).keeps .ret]
    rw [if_neg (by exact ne_true_of_eq_false hquiet)]
    obtain ⟨hdips, hmin, hlife⟩ := countDip_spec { s.hub.begun with
      sup := { s.hub.begun.sup with vdd := vdd.toNat, warn := false, warnAtTrigger := false } }
    exact ⟨congrArg Sup.warn ((note_moves _ _ _ _ _ _ _).keeps .sup), hdips, hmin, hlife⟩
  case noDip =>
    intro s vdd hc
    simp only [Can.vddWarningEnd2, Bool.and_eq_true, decide_eq_true_eq] at hc
    obtain ⟨⟨⟨hwarn, hquiet⟩, hpd⟩, hhigh⟩ := hc
    refine completes_of_begun (exec_vddWarningEnd vdd s) ?_
    have hpast : decide (vdd.toNat ≤ s.hub.begun.sup.band.vwarn + vddHyst) = false := decide_eq_false (Nat.not_le.mpr hhigh)
    rw [if_neg (by rw [hpast]; simp [Hub.begun, hwarn, Option.isSome_eq_false_iff.mpr hpd])]
    dsimp only
    rw [(nvmGo_moves _).keeps .sup, (nvmGo_moves _).keeps .ret, (intAll_moves _ _).keeps .sup, (intAll_moves _ _).keeps .ret]
    rw [if_pos (by exact hquiet)]
    exact ⟨rfl, rfl, rfl⟩
  case pin =>
    intro s field level hc
    simp only [Can.testPinChange, Bool.and_eq_true, Bool.not_eq_true'] at hc
    obtain ⟨hpast, hshown⟩ := hc
    refine completes_of_begun (exec_testPinChange field level s) ?_
    dsimp only
    cases field with
    | true =>
      rw [if_neg (by exact not_guard_of_true hpast)]
      exact caused_testPin (by decide) hshown
    | false =>
      rw [if_neg (by exact not_guard_of_true hpast)]
      exact caused_testPin (by decide) hshown
  case floor =>
    intro s hc
    refine completes_of_begun (exec_retentionFloor s) ?_
    rw [if_pos (by exact hc)]
    exact ⟨rfl, rfl, rfl⟩

end Sys2Proof.Machine

/-!
PROOF. The field supply and the power domains: which channels a lost regulator switches off, what a domain's wake asks for and starts,
and what the clearing of a memory domain leaves.
-/

namespace Sys2Proof.Machine

set_option Elab.async false

/-! ### Channels switched off -/

theorem outs_syncOutFlt (h : Hub) (c : Nat) : (h.syncOutFlt c).outs = h.outs := (syncOutFlt_movesAny h c).keeps .outs

/-- A change of a channel that leaves its switch leaves every switch. -/
theorem sw_modOut (h : Hub) (c : Nat) {g : OutCh → OutCh} (hg : ∀ o, (g o).sw = o.sw) (d : Nat) :
    ((h.modOut c g).out d).sw = (h.out d).sw := by
  by_cases hd : d = c
  · subst hd
    by_cases hb : d < 16
    · rw [Hub.out_modOut_self h _ _ hb, hg]
    · simp [Hub.out, Hub.modOut, vget, vset, hb]
  · rw [Hub.out_modOut_ne hd]

theorem outs_fieldRise (h : Hub) (p chs detail : Nat) : (h.fieldRise p chs detail).outs = h.outs := (fieldRise_moves h p chs detail).keeps .outs

theorem sw_outRise (h : Hub) (c b detail d : Nat) : ((h.outRise c b detail).out d).sw = (h.out d).sw := by
  rw [Hub.outRise]
  split
  · rfl
  · rw [Hub.out, outs_syncOutFlt, outs_fieldRise]
    exact sw_modOut h c (g := fun o => { o with flt := setBit o.flt b }) (fun _ => rfl) d

theorem sw_switchFlags (h : Hub) (c : Nat) (was : OutCh) (d : Nat) : ((h.switchFlags c was).out d).sw = (h.out d).sw := by
  rw [Hub.switchFlags]
  have hfall : ∀ e, (if was.limiting && !(h.out c).limiting then h.outFall c 3 else h).out e = h.out e := by
    intro e
    split
    · rw [Hub.out, Hub.outFall, (fieldFall_moves _ _ _).keeps .outs]
      rfl
    · rfl
  split
  · rw [sw_outRise, sw_modOut _ c (by exact fun _ => rfl), hfall]
  · rw [hfall]

theorem outs_countTurnOn (h : Hub) (c : Nat) : (h.countTurnOn c).outs = h.outs := (countTurnOn_moves h c).keeps .outs

/-- The hub as a channel is switched again, before its flags follow. -/
def Hub.switched (h : Hub) (c : Nat) (counts : Bool) : Hub :=
  let sw := (h.out c).latched && h.mayConduct c
  let k := if counts && sw && !(h.out c).ran then h.countTurnOn c else h
  k.modOut c (fun o => (o.endPulse k.clk.now).turn k.clk.now sw (o.limiting && sw))

theorem reSwitch_eq (h : Hub) (c : Nat) (counts : Bool) : h.reSwitch c counts = (h.switched c counts).switchFlags c (h.out c) := rfl

/-- A channel that may not conduct is off once it has been switched again. -/
theorem sw_reSwitch_self {h : Hub} {c : Nat} (hc : c < 16) (hfail : h.sup.vregFail = true) : ((h.reSwitch c).out c).sw = false := by
  have hsw : ((h.out c).latched && h.mayConduct c) = false := by simp [Hub.mayConduct, hfail]
  rw [reSwitch_eq, sw_switchFlags, Hub.switched, hsw]
  rw [Hub.out_modOut_self _ _ _ hc]
  rfl

theorem sw_reSwitch_ne {h : Hub} {c d : Nat} (hd : d ≠ c) : ((h.reSwitch c).out d).sw = (h.out d).sw := by
  rw [reSwitch_eq, sw_switchFlags, Hub.switched]
  rw [Hub.out_modOut_ne hd]
  split
  · rw [Hub.out, outs_countTurnOn]
    rfl
  · rfl

theorem sup_reSwitch (h : Hub) (c : Nat) : (h.reSwitch c).sup = h.sup := (reSwitch_movesAny h c true).keeps .sup

/-- With a regulator failed every channel of a list is off once it has been switched again. -/
theorem sw_reSwitches {h : Hub} (hfail : h.sup.vregFail = true) (l : List Nat) {c : Nat} (hc : c < 16)
    (hl : c ∈ l ∨ (h.out c).sw = false) : ((forAll l (fun h c => h.reSwitch c) h).out c).sw = false := by
  induction l generalizing h with
  | nil => exact hl.resolve_left List.not_mem_nil
  | cons d rest ih =>
    refine ih (h := h.reSwitch d) (by rw [sup_reSwitch, hfail]) ?_
    by_cases hd : c = d
    · subst hd
      exact .inr (sw_reSwitch_self hc hfail)
    · rcases hl with hl | hoff
      · exact .inl ((List.mem_cons.mp hl).resolve_left hd)
      · exact .inr (by rw [sw_reSwitch_ne hd, hoff])

theorem sup_reSwitches (l : List Nat) (h : Hub) : (forAll l (fun h c => h.reSwitch c) h).sup = h.sup := by
  induction l generalizing h with
  | nil => rfl
  | cons d rest ih => exact (ih (h.reSwitch d)).trans (sup_reSwitch h d)

/-- PD_FCHA is among the domains of a field die that starts. -/
theorem bitOf_fieldDomains (on : Nat) (fchb : Bool) : bitOf (on % 0x100 + if fchb then 0xF00 else 0xB00) 8 = true := by
  rw [bitOf, Nat.testBit_eq_decide_div_mod_eq]
  cases fchb with
  | true => simp; omega
  | false => simp; omega

theorem sup_hizSwitches (l : List Nat) (h : Hub) :
    (forAll l (fun h c => (h.modOut c (fun o => { o with hiz := !h.hinge.configured })).reSwitch c) h).sup = h.sup := by
  induction l generalizing h with
  | nil => rfl
  | cons d rest ih => exact (ih _).trans (sup_reSwitch _ d)

/-! ### Memory domains -/

/-- A memory domain that has woken is cleared, or waits for it. -/
theorem clearDomain_joins (h : Hub) (m : Nat) : (bitOf (h.clearDomain m).sup.clearing m || bitOf (h.clearDomain m).sup.clearWait m) = true := by
  rw [Hub.clearDomain]
  split
  · exact Bool.or_eq_true_iff.mpr (.inr (bitOf_setBit_self _ _))
  · exact Bool.or_eq_true_iff.mpr (.inl (bitOf_setBit_self _ _))

theorem clearDomain_keeps (h : Hub) (m : Nat) : (h.clearDomain m).sup.on = h.sup.on ∧ (h.clearDomain m).sup.waking = h.sup.waking := by
  rw [Hub.clearDomain]
  split
  · exact ⟨rfl, rfl⟩
  · exact ⟨rfl, rfl⟩

/-! ### Memory cleared -/

/-- A byte reads as it did, or as an unlisted one where it was cleared. -/
theorem cellGet_cellClear (d : BitVec 8) (m : List Host.Cell) (lo hi a : Nat) :
    cellGet d (cellClear m lo hi) a = if lo ≤ a ∧ a < hi then d else cellGet d m a := by
  induction m with
  | nil => simp [cellClear, cellGet]
  | cons c rest ih =>
    simp only [cellGet]
    by_cases hin : lo ≤ c.1 ∧ c.1 < hi
    · have hdrop : cellClear (c :: rest) lo hi = cellClear rest lo hi := List.filter_cons_of_neg (by simpa using hin)
      rw [hdrop, ih]
      by_cases hat : c.1 = a
      · rw [← hat, if_pos hin, if_pos hin]
      · rw [if_neg hat]
    · have hkeep : cellClear (c :: rest) lo hi = c :: cellClear rest lo hi := List.filter_cons_of_pos (by simp; omega)
      rw [hkeep, cellGet, ih]
      by_cases hat : c.1 = a
      · rw [← hat, if_pos rfl, if_neg hin, if_pos rfl]
      · rw [if_neg hat, if_neg hat]

/-! ### The clauses -/

/-- Settles O3: each clause by the lemma of what its command does. -/
theorem fieldSupplyCommands : Obligations.FieldSupplyCommands := by
  refine ⟨?por, ?release, ?valid, ?under, ?overVolts, ?vreg, ?want, ?woken, ?cleared⟩
  case por =>
    intro s
    exact completes_of_begun (exec_fieldPowerOnReset s) ⟨rfl, rfl, rfl, rfl, rfl, rfl⟩
  case release =>
    intro s hc
    refine completes_of_begun (exec_fieldResetRelease s) ?_
    rw [if_neg (by exact not_of_guard hc)]
    refine ⟨rfl, rfl, rfl, bitOf_fieldDomains s.hub.sup.on _, rfl⟩
  case valid =>
    intro s hc
    refine completes_of_begun (exec_vfValid s) ?_
    rw [if_neg (by exact not_guard_of_true hc), (fieldFall_moves _ _ _).keeps .sup]
    exact ⟨rfl, rfl, fLiveOn_fieldFall_none (by decide)⟩
  case under =>
    intro s hc
    simp only [Can.vfUnderVoltage, Bool.and_eq_true, Bool.not_eq_true'] at hc
    obtain ⟨⟨⟨hup, hseen⟩, huv⟩, hshown⟩ := hc
    refine completes_of_begun (exec_vfUnderVoltage s) ?_
    rw [if_neg (by simp [Hub.begun, hup, hseen, huv]), (fieldRise_moves _ _ _ _).keeps .sup, (fieldRise_moves _ _ _ _).keeps .outs]
    exact ⟨rfl, rfl, fLiveOn_fieldRise_none 0 (by decide) hshown, rfl⟩
  case overVolts =>
    intro s hc
    refine completes_of_begun (exec_vfOverVoltage s) ?_
    rw [if_pos (by exact hc), (fieldRise_moves _ _ _ _).keeps .sup, (fieldRise_moves _ _ _ _).keeps .outs]
    exact ⟨rfl, rfl, fun hshown => fLiveOn_fieldRise_none 0 (by decide) hshown⟩
  case vreg =>
    intro s vregl hc
    refine completes_of_begun (exec_vregFail vregl s) ?_
    rw [if_neg (by exact not_guard_of_true hc)]
    dsimp only
    refine ⟨?_, fun c => ?_⟩
    · rw [(fieldRise_moves _ _ _ _).keeps .sup, sup_reSwitches]
    · rw [Hub.out, outs_fieldRise]
      exact sw_reSwitches rfl _ c.isLt (.inl (List.mem_range.mpr c.isLt))
  case want =>
    intro s d hc
    simp only [Can.domainWakeRequest, Bool.and_eq_true, beq_iff_eq, Bool.not_eq_true'] at hc
    obtain ⟨⟨⟨hphase, hpart⟩, hoff⟩, hfirst⟩ := hc
    refine completes_of_begun (exec_domainWakeRequest d s) ?_
    have hgo : (s.hub.dev.phase != .up || s.hub.blankOff d) = false := by rw [hphase, hpart]; rfl
    rw [if_neg (by exact ne_true_of_eq_false hgo), Hub.wantDomain, if_neg (by exact ne_true_of_eq_false hoff), Hub.submit,
      if_neg (by exact ne_true_of_eq_false hfirst)]
    refine ⟨rfl, ?_, fun hlen => ?_⟩
    · exact List.map_append
    · have hfits : 256 ≤ 2 ^ SCH_STAT_queued.width := by decide
      rw [Hub.rd_wr_of_lt]
      · exact List.length_append
      · rw [List.length_append, List.length_singleton]
        exact lt_of_lt_of_le (Nat.succ_lt_succ hlen) hfits
  case woken =>
    intro s d good hc
    refine completes_of_begun (exec_domainWakeDone d good s) ?_
    rw [if_neg (by exact not_guard_of_true hc)]
    dsimp only
    generalize hk : Hub.costEnd _ _ _ = k
    have hsup : k.sup = { s.hub.sup with waking := clrBit s.hub.sup.waking d, on := setBit s.hub.sup.on d } := by
      rw [← hk]
      rfl
    split
    case isTrue hmem =>
      have hjoins : (bitOf (k.clearDomain (d - 4)).sup.clearing (d.val - 4) || bitOf (k.clearDomain (d - 4)).sup.clearWait (d.val - 4)) = true :=
        clearDomain_joins k _
      obtain ⟨hon, hwaking⟩ := clearDomain_keeps k (d - 4)
      rw [hon, hwaking, hsup]
      exact ⟨rfl, rfl, fun _ => hjoins⟩
    case isFalse hother =>
      have hnone (hd : d.val = 4 ∨ d.val = 5) : False := hother (by simpa using hd)
      split
      · rw [show (forAll _ _ k).sup = k.sup from sup_hizSwitches _ k, hsup]
        exact ⟨rfl, rfl, fun hd => (hnone hd).elim⟩
      · split
        · rw [(restoreDomain_moves _ _ _).keeps .sup, hsup]
          exact ⟨rfl, rfl, fun hd => (hnone hd).elim⟩
        · rw [hsup]
          exact ⟨rfl, rfl, fun hd => (hnone hd).elim⟩
  case cleared =>
    intro s m hc
    refine completes_of_begun (exec_bankClearDone m s) ?_
    rw [if_neg (by exact not_guard_of_true hc)]
    dsimp only
    split
    case isTrue hm =>
      refine ⟨rfl, rfl, fun a hlo hhi => ?_⟩
      rw [show m = 0 from Fin.ext (beq_iff_eq.mp hm)] at hlo hhi
      exact (cellGet_cellClear 0 _ _ _ a).trans (if_pos ⟨hlo, hhi⟩)
    case isFalse hm =>
      refine ⟨rfl, rfl, fun a hlo hhi => ?_⟩
      have hone : m = 1 := by
        rcases Fin.exists_fin_two.mp ⟨m, rfl⟩ with hzero | hone
        · exact absurd (by rw [hzero]; rfl) hm
        · exact hone
      rw [hone] at hlo hhi
      refine (cellGet_cellClear 0 _ _ _ a).trans ?_
      split
      · rfl
      · exact (cellGet_cellClear 0 _ _ _ a).trans (if_pos ⟨hlo, hhi⟩)

end Sys2Proof.Machine

/-!
PROOF. Step 2 of the power-down writes as many staging pages as PWR_HOLD_CFG.flush_pages leaves after those that have been written; where
they have been written already, the sequence goes on with the mirror entry of step 3.
-/

namespace Sys2Proof.Machine

set_option Elab.async false

/-- What follows a command leaves the supplies. -/
theorem sup_settle (before after : Hub) : (settle before after).sup = after.sup := (settle_moves before after).keeps .sup

/-- The hub in step 1 of a power-down with a page to flush, which has written one page. -/
def flushedState : State :=
  { State.reset with hub :=
    { State.reset.hub.wr PWR_HOLD_CFG_flush_pages 1 with
      sup := { State.reset.hub.sup with pd := some { written := 1 }, nvmAllowed := true }
      recd := { State.reset.hub.recd with staging := [{}] } } }

theorem exec_powerDownStep_flushedState : ∃ f : Hub → Hub, exec (.powerDownStep 0) flushedState = flushedState.on f ∧
    ¬ (f flushedState.hub.begun).sup.pd.map (fun p => p.step) = some 2 :=
  ⟨_, exec_powerDownStep 0 flushedState, by decide +kernel⟩

/-- Refutes O2: in `flushedState` no page is left of the one that step 2 may write, and step 3 begins. No page is written before step 2; the
statement is about every state. -/
theorem not_powerDownCommands : ¬ Obligations.PowerDownCommands := by
  rintro ⟨-, -, -, hflush, -⟩
  obtain ⟨f, hf, hstep⟩ := exec_powerDownStep_flushedState
  refine not_completes_of_kept (fun h => h.sup.pd.map (fun p => p.step)) (fun p => p = some 2) hf
    (fun b a => by rw [sup_settle]) (fun h hp => ?_) hstep (hflush flushedState 0 (by decide +kernel))
  obtain ⟨hpd, -⟩ := hp
  cases hsome : h.sup.pd with
  | none => simp [hsome] at hpd
  | some p =>
    rw [hsome] at hpd
    simp only [Option.map_some, Option.some.injEq, Prod.mk.injEq] at hpd
    exact congrArg some hpd.1

end Sys2Proof.Machine

/-!
PROOF. What a fault's reaction leaves of the device's state and of a proof under way: it can end a test, enter *Safe* or end its exit, hold a ward and abandon the proof,
and nothing else.
-/

namespace Sys2Proof.Machine

set_option Elab.async false

/-- The device's state but for the test, *Safe* and the states of the wards. -/
def Dev.standing (d : Dev) : Dev := { d with test := false, testHold := false, safe := false, exitStep := 0, wards := ({} : Dev).wards }

/-- Two hubs differ in their device's state at most in the test, in *Safe* and in the states of the wards. -/
def SameDev (h k : Hub) : Prop := k.dev.standing = h.dev.standing

section
variable {F : Foot} {h₀ h k : Hub}

theorem SameDev.refl (h : Hub) : SameDev h h := rfl

theorem SameDev.trans (x : SameDev h₀ h) (y : SameDev h k) : SameDev h₀ k := Eq.trans y x

theorem SameDev.ite {a b : Hub} {q : Prop} [Decidable q] (x : SameDev h₀ a) (y : SameDev h₀ b) : SameDev h₀ (if q then a else b) := by
  split
  · exact x
  · exact y

theorem SameDev.bind (x : SameDev h₀ h) (y : SameDev h₀ h → SameDev h₀ k) : SameDev h₀ k := y x

theorem SameDev.dev (x : SameDev h₀ h) (d : Dev) (hd : d.standing = h.dev.standing := by rfl) : SameDev h₀ { h with dev := d } :=
  Eq.trans hd x

theorem Moves.sameDev (x : Moves F h k) (hF : F.parts.contains .dev = false := by decide) : SameDev h k :=
  congrArg Dev.standing (x.keeps .dev hF)

theorem SameDev.to (x : SameDev h₀ h) (y : Moves F h k) (hF : F.parts.contains .dev = false := by decide) : SameDev h₀ k :=
  x.trans (y.sameDev hF)

theorem SameDev.forAll {f : Hub → Nat → Hub} {l : List Nat} (x : SameDev h₀ h) (hf : ∀ h c, c ∈ l → SameDev h (f h c)) :
    SameDev h₀ (forAll l f h) := by
  induction l generalizing h with
  | nil => exact x
  | cons c rest ih => exact ih (x.trans (hf h c List.mem_cons_self)) fun h d hd => hf h d (List.mem_cons_of_mem _ hd)

theorem SameDev.flt (x : SameDev h₀ h) (f : Flt) : SameDev h₀ { h with flt := f } := x

theorem SameDev.bst (x : SameDev h₀ h) (b : Bst) : SameDev h₀ { h with bst := b } := x

theorem SameDev.wr (x : SameDev h₀ h) (f : Fld) (v i w : Nat) : SameDev h₀ (h.wr f v i w) := x

theorem SameDev.halt (x : SameDev h k) : k.dev.halt = h.dev.halt := congrArg (fun d : Dev => d.halt) (a₁ := k.dev.standing) (a₂ := h.dev.standing) x

theorem SameDev.phase (x : SameDev h k) : k.dev.phase = h.dev.phase := congrArg (fun d : Dev => d.phase) (a₁ := k.dev.standing) (a₂ := h.dev.standing) x

end

theorem endTest_sameDev (h : Hub) (result : Nat) : SameDev h (h.endTest result) := by
  unfold SameDev Hub.endTest
  dsimp only
  split
  · rfl
  · rfl

theorem abortTest_sameDev (h : Hub) : SameDev h h.abortTest :=
  .ite ((((endTest_sameDev h 3).to (bistRecord_moves _)).to (wdStartAll_moves _)).to (intEvent_moves _ _ _)) (.refl h)

theorem enterSafe_sameDev (h : Hub) (n : Nat) : SameDev h (h.enterSafe n) :=
  .ite (.refl h) (.ite (((((SameDev.refl h).dev _).to (noBoltRel_moves _)).to (wantTone_moves _ _)).wr _ _ _ _)
    ((((((((((((((abortTest_sameDev h).to (cancelBist_moves _)).dev _).to (noBoltRel_moves _)).to (wantTone_moves _ _)).to
    (sendSafe_moves _ _ fun _ hc => List.mem_range.mp (List.mem_of_mem_filter hc))).forAll fun _ _ ht =>
    (SameDev.refl _).to (tmbStop_moves _ _ _ _ (List.mem_range.mp ht))).to (closeSafetyPages_moves _)).to (abandonProof_moves _)).wr
    _ _ _ _).wr _ _ _ _).to (note_moves _ _ _ _ _ _ _)).to (intAll_moves _ _))))

theorem holdWard_sameDev (h : Hub) (w n : Nat) : SameDev h (h.holdWard w n) := by
  have hheld : SameDev h (h.setWard w .held) := rfl
  exact .ite (enterSafe_sameDev h n) (.ite ((hheld.to (sendSafe_moves _ _ fun _ hc => bitList_lt hc)).forAll fun k t ht =>
    (SameDev.refl k).to (tmbStop_moves _ t _ _ (bitList_lt ht))) (.refl h))

theorem wardReaction_sameDev (h : Hub) (n wards : Nat) : SameDev h (h.wardReaction n wards) :=
  .bind (.ite ((SameDev.refl h).forAll fun _ _ _ => (SameDev.refl _).to (intEvent_moves _ _ _)) (.refl h)) fun y =>
    .ite (y.forAll fun _ _ _ => holdWard_sameDev _ _ _) y

theorem occurNow_sameDev (h : Hub) (n wards detail : Nat) (forced rec late : Bool) :
    SameDev h (h.occurNow n wards detail forced rec late) :=
  .ite (.refl h) (.bind ((SameDev.refl h).flt _) fun y => .ite y (.bind ((y.to (detailWord_moves _ _)).flt _) fun y3 =>
    .bind (.ite (y3.to (captureFirst_moves _ _ _ _)) y3) fun y4 => .bind (.ite (y4.to (intake_moves _ _)) y4) fun y5 =>
    .ite y5 (.bind (y5.trans (wardReaction_sameDev _ _ _)) fun y6 => .ite (y6.trans (enterSafe_sameDev _ _)) y6)))

theorem occur_sameDev (h : Hub) (n wards detail : Nat) (forced rec : Bool) : SameDev h (h.occur n wards detail forced rec) :=
  .ite (.ite ((SameDev.refl h).bst _) ((SameDev.refl h).wr _ _ _ _)) (occurNow_sameDev _ _ _ _ _ _ _)

theorem event_sameDev (h : Hub) (n wards detail : Nat) : SameDev h (h.event n wards detail) :=
  .ite (.refl h) (occur_sameDev _ _ _ _ _ _)

theorem raise_sameDev (h : Hub) (n res wards detail : Nat) : SameDev h (h.raise n res wards detail) :=
  .ite (.refl h) (.ite ((SameDev.refl h).flt _) (((SameDev.refl h).flt _).trans (occur_sameDev _ _ _ _ _ _)))

/-! ### A proof under way -/

/-- The proof under way goes on, or is abandoned. -/
def ProofStays (h k : Hub) : Prop := k.dbt.proof = h.dbt.proof ∨ k.dbt.proof = none

section
variable {F : Foot} {h₀ h k : Hub}

theorem ProofStays.refl (h : Hub) : ProofStays h h := .inl rfl

theorem ProofStays.trans (x : ProofStays h₀ h) (y : ProofStays h k) : ProofStays h₀ k := by
  rcases y with hsame | hnone
  · exact x.imp (fun hx => hsame.trans hx) fun hx => hsame.trans hx
  · exact .inr hnone

theorem ProofStays.ite {a b : Hub} {q : Prop} [Decidable q] (x : ProofStays h₀ a) (y : ProofStays h₀ b) :
    ProofStays h₀ (if q then a else b) := by
  split
  · exact x
  · exact y

theorem ProofStays.bind (x : ProofStays h₀ h) (y : ProofStays h₀ h → ProofStays h₀ k) : ProofStays h₀ k := y x

theorem ProofStays.to (x : ProofStays h₀ h) (y : Moves F h k) (hF : F.parts.contains .dbt = false := by decide) : ProofStays h₀ k :=
  x.trans (.inl (congrArg Dbt.proof (y.keeps .dbt hF)))

theorem ProofStays.forAll {f : Hub → Nat → Hub} {l : List Nat} (x : ProofStays h₀ h) (hf : ∀ h c, c ∈ l → ProofStays h (f h c)) :
    ProofStays h₀ (forAll l f h) := by
  induction l generalizing h with
  | nil => exact x
  | cons c rest ih => exact ih (x.trans (hf h c List.mem_cons_self)) fun h d hd => hf h d (List.mem_cons_of_mem _ hd)

theorem ProofStays.dev (x : ProofStays h₀ h) (d : Dev) : ProofStays h₀ { h with dev := d } := x

theorem ProofStays.flt (x : ProofStays h₀ h) (f : Flt) : ProofStays h₀ { h with flt := f } := x

theorem ProofStays.bst (x : ProofStays h₀ h) (b : Bst) : ProofStays h₀ { h with bst := b } := x

theorem ProofStays.wr (x : ProofStays h₀ h) (f : Fld) (v i w : Nat) : ProofStays h₀ (h.wr f v i w) := x

/-- What the proof does not hide is shown for as long as it goes on. -/
theorem ProofStays.shown (x : ProofStays h k) {n res : Nat} (hshown : h.proofHides n res = false) : k.proofHides n res = false := by
  rcases x with hsame | hnone
  · rw [Hub.proofHides, hsame]
    exact hshown
  · rw [Hub.proofHides, hnone]

end

theorem enterSafe_proofStays (h : Hub) (n : Nat) : ProofStays h (h.enterSafe n) :=
  .ite (.refl h) (.ite (((((ProofStays.refl h).dev _).to (noBoltRel_moves _)).to (wantTone_moves _ _)).wr _ _ _ _)
    (((ProofStays.trans (k := Hub.abandonProof _) (.refl h) (.inr rfl)).wr _ _ _ _).wr _ _ _ _ |>.to (note_moves _ _ _ _ _ _ _)
      |>.to (intAll_moves _ _)))

theorem holdWard_proofStays (h : Hub) (w n : Nat) : ProofStays h (h.holdWard w n) := by
  have hheld : ProofStays h (h.setWard w .held) := .inl rfl
  exact .ite (enterSafe_proofStays h n) (.ite ((hheld.to (sendSafe_moves _ _ fun _ hc => bitList_lt hc)).forAll fun k t ht =>
    (ProofStays.refl k).to (tmbStop_moves _ t _ _ (bitList_lt ht))) (.refl h))

theorem wardReaction_proofStays (h : Hub) (n wards : Nat) : ProofStays h (h.wardReaction n wards) :=
  .bind (.ite ((ProofStays.refl h).forAll fun _ _ _ => (ProofStays.refl _).to (intEvent_moves _ _ _)) (.refl h)) fun y =>
    .ite (y.forAll fun _ _ _ => holdWard_proofStays _ _ _) y

theorem occurNow_proofStays (h : Hub) (n wards detail : Nat) (forced rec late : Bool) :
    ProofStays h (h.occurNow n wards detail forced rec late) :=
  .ite (.refl h) (.bind ((ProofStays.refl h).flt _) fun y => .ite y (.bind ((y.to (detailWord_moves _ _)).flt _) fun y3 =>
    .bind (.ite (y3.to (captureFirst_moves _ _ _ _)) y3) fun y4 => .bind (.ite (y4.to (intake_moves _ _)) y4) fun y5 =>
    .ite y5 (.bind (y5.trans (wardReaction_proofStays _ _ _)) fun y6 => .ite (y6.trans (enterSafe_proofStays _ _)) y6)))

theorem occur_proofStays (h : Hub) (n wards detail : Nat) (forced rec : Bool) : ProofStays h (h.occur n wards detail forced rec) :=
  .ite (.ite ((ProofStays.refl h).bst _) ((ProofStays.refl h).wr _ _ _ _)) (occurNow_proofStays _ _ _ _ _ _ _)

theorem raise_proofStays (h : Hub) (n res wards detail : Nat) : ProofStays h (h.raise n res wards detail) :=
  .ite (.refl h) (.ite ((ProofStays.refl h).flt _) (((ProofStays.refl h).flt _).trans (occur_proofStays _ _ _ _ _ _)))

/-! ### The start of a command -/

@[simp] theorem Hub.begun_dev (h : Hub) : h.begun.dev = h.dev := rfl

@[simp] theorem Hub.begun_flag (h : Hub) (f : Fld) (i w : Nat) : h.begun.flag f i w = h.flag f i w := rfl

@[simp] theorem Hub.begun_rd (h : Hub) (f : Fld) (i w : Nat) : h.begun.rd f i w = h.rd f i w := rfl

end Sys2Proof.Machine

/-!
PROOF. The clocks: what the loss and the return of REFCLK leave of CLK_STAT, and what a window's end judges.
-/

namespace Sys2Proof.Machine

set_option Elab.async false

/-- Of the registers Luanen's holdover reaches the alignment and what its event reports. -/
theorem lsyHoldover_fields (h : Hub) : Moves (faultFoot.join ⟨[.lsy], [LSY_STAT_up_ok, LSY_STAT_aligned], []⟩) h h.lsyHoldover :=
  .ite (Moves.refl _ h) (.ite (((Moves.refl _ h).put _ _ _ _).lsy _) (.ite (((Moves.refl _ h).put _ _ _ _).to (event_moves _ _ _ _))
    (Moves.refl _ h)))

theorem lsyHoldover_sameSignals (h : Hub) : SameSignals h h.lsyHoldover :=
  .ite (.refl h) (.ite rfl (.ite (((SameSignals.refl h).trans rfl).trans (event_sameSignals (h.put LSY_STAT_aligned false) 36 1 detailOpen))
    (.refl h)))

/-- With HOSC fit, the loss of REFCLK is a holdover that is counted and raised. -/
theorem loseRef_spec {h : Hub} (hok : h.flag CLK_STAT_hosc_ok = true) (hshown : h.proofHides 6 16 = false) :
    h.loseRef.flag CLK_STAT_holdover = true ∧ h.loseRef.flag CLK_STAT_ref_fit = false ∧ h.loseRef.flag CLK_STAT_pll_lock = false ∧
      h.loseRef.flag CLK_STAT_src_now = h.flag CLK_STAT_src_now ∧ caused h.loseRef 6 16 = true ∧
      h.loseRef.rd CLK_REF_LOSS_count = satInc (2 ^ CLK_REF_LOSS_count.width - 1) (h.rd CLK_REF_LOSS_count) := by
  rw [Hub.loseRef, if_pos (by simpa (disch := decide) using hok)]
  rw [(lsyHoldover_fields _).flag CLK_STAT_holdover 0 0, (lsyHoldover_fields _).flag CLK_STAT_ref_fit 0 0,
    (lsyHoldover_fields _).flag CLK_STAT_pll_lock 0 0, (lsyHoldover_fields _).flag CLK_STAT_src_now 0 0,
    (lsyHoldover_fields _).rd CLK_REF_LOSS_count 0 0, (lsyHoldover_sameSignals _).caused]
  rw [(raise_moves _ _ _ _ _).flag CLK_STAT_holdover 0 0, (raise_moves _ _ _ _ _).flag CLK_STAT_ref_fit 0 0,
    (raise_moves _ _ _ _ _).flag CLK_STAT_pll_lock 0 0, (raise_moves _ _ _ _ _).flag CLK_STAT_src_now 0 0,
    (raise_moves _ _ _ _ _).rd CLK_REF_LOSS_count 0 0]
  refine ⟨by simp (disch := decide), by simp (disch := decide), by simp (disch := decide), by simp (disch := decide), caused_raise_self _ _ (by decide) hshown, ?_⟩
  rw [Hub.rd_put_apart _ _ _ _ _ _ (by decide), Hub.rd_count_satInc]
  simp (disch := decide)

/-- Of the registers the return to REFCLK reaches what CLK_STAT and CLK_CTRL show of it. -/
theorem flag_refReturn_of_back {h : Hub} (hback : (h.flag CLK_STAT_holdover && h.flag CLK_STAT_ref_fit &&
      (h.flag CLK_CFG_auto_return || (h.flag CLK_STAT_ret_pending && h.dev.phase == .up))) = true) :
    h.refReturn.flag CLK_STAT_holdover = false ∧ h.refReturn.flag CLK_STAT_src_now = true ∧ h.refReturn.flag CLK_STAT_pll_lock = true ∧
      h.refReturn.flag CLK_STAT_ref_fit = true ∧ h.refReturn.flag CLK_STAT_ret_pending = false ∧ caused h.refReturn 6 16 = false := by
  have hfit : h.flag CLK_STAT_ref_fit = true := by
    simp only [Bool.and_eq_true] at hback
    exact hback.1.2
  rw [Hub.refReturn, if_pos (by exact hback)]
  simp only [(lower_moves _ _ _).flag CLK_STAT_holdover 0 0, (lower_moves _ _ _).flag CLK_STAT_src_now 0 0,
    (lower_moves _ _ _).flag CLK_STAT_pll_lock 0 0, (lower_moves _ _ _).flag CLK_STAT_ref_fit 0 0,
    (lower_moves _ _ _).flag CLK_STAT_ret_pending 0 0]
  refine ⟨by simp (disch := decide), by simp (disch := decide), by simp (disch := decide), by simpa (disch := decide) using hfit,
    by simp (disch := decide), ?_⟩
  rw [caused_lower (by decide)]
  simp

theorem refReturn_of_stays {h : Hub} (hstays : (h.flag CLK_STAT_holdover && h.flag CLK_STAT_ref_fit &&
      (h.flag CLK_CFG_auto_return || (h.flag CLK_STAT_ret_pending && h.dev.phase == .up))) = false) : h.refReturn = h := by
  rw [Hub.refReturn, if_neg (by exact ne_true_of_eq_false hstays)]

/-! ### The windows of MCLK -/

theorem judgeHosc_fields (h : Hub) (hosc : Nat) : Moves (faultFoot.join ⟨[], [CLK_STAT_hosc_ok], []⟩) h (h.judgeHosc hosc) :=
  .ite (((Moves.refl _ h).put _ _ _ _).to (raise_moves _ _ _ _ _)) (Moves.refl _ h)

theorem judgeHosc_sameDev (h : Hub) (hosc : Nat) : SameDev h (h.judgeHosc hosc) :=
  .ite (((SameDev.refl h).wr _ _ _ _).trans (raise_sameDev _ _ _ _ _)) (.refl h)

theorem judgeHosc_proofStays (h : Hub) (hosc : Nat) : ProofStays h (h.judgeHosc hosc) :=
  .ite (((ProofStays.refl h).wr _ _ _ _).trans (raise_proofStays _ _ _ _ _)) (.refl h)

theorem not_offBy_iff {v nominal limit : Nat} : offBy v nominal limit = false ↔ v ≤ nominal + limit ∧ nominal ≤ v + limit := by
  simp [offBy]

/-- From the PLL a window of HOSC is judged. -/
theorem flag_judgeHosc {h : Hub} (hpll : h.flag CLK_STAT_src_now = true) (hosc : Nat) :
    (h.judgeHosc hosc).flag CLK_STAT_hosc_ok = (h.flag CLK_STAT_hosc_ok && !offBy hosc 1000 35) := by
  rw [Hub.judgeHosc]
  split
  case isTrue hbad =>
    simp only [Bool.and_eq_true] at hbad
    rw [(raise_moves _ _ _ _ _).flag CLK_STAT_hosc_ok 0 0, Hub.flag_put_self _ _ _ _ _ rfl, hbad.2]
    simp
  case isFalse hgood =>
    rw [hpll, Bool.true_and] at hgood
    cases hok : h.flag CLK_STAT_hosc_ok with
    | false => rfl
    | true => simpa [hok] using hgood

theorem judgeHosc_of_good {h : Hub} {hosc : Nat} (hgood : offBy hosc 1000 35 = false) : h.judgeHosc hosc = h := by
  rw [Hub.judgeHosc, if_neg (by simp [hgood])]

/-- The hub as a failing clock stops it. -/
def Hub.clockStopped (h : Hub) : Hub :=
  { h with dev := { h.dev with halt := some .clock, exitStep := 0 }, clk := { h.clk with mclkLost := true } }

/-- DA's tone outside BOLT is HOLD. -/
def Hub.holdTone (h : Hub) : Hub := if h.hinge.daWant == .bolt then h else h.wantTone .hold

theorem holdTone_moves (h : Hub) : Moves ⟨[.hinge], [], []⟩ h h.holdTone := .ite (Moves.refl _ h) (wantTone_moves _ _)

theorem clockHalt_eq {h : Hub} (hrun : h.dev.halt = none) (hphase : h.dev.phase ≠ .off) :
    ∃ k : Hub, h.clockHalt = k.clockStopped.holdTone.closeSafetyPages.abandonProof.wdStopAll := by
  rw [Hub.clockHalt, if_neg (by simp [hrun, hphase])]
  exact ⟨_, rfl⟩

/-- A clock that fails halts the hub. -/
theorem halt_clockHalt {h : Hub} (hrun : h.dev.halt = none) (hphase : h.dev.phase ≠ .off) : h.clockHalt.dev.halt = some .clock := by
  obtain ⟨k, hk⟩ := clockHalt_eq hrun hphase
  rw [hk, (wdStopAll_moves _).keeps .dev, (abandonProof_moves _).keeps .dev, (closeSafetyPages_moves _).keeps .dev,
    (holdTone_moves _).keeps .dev]
  rfl

/-- The first failing window of MCLK is raised, and takes the root to HOSC. -/
theorem mclkFails_first {h : Hub} (hshown : h.proofHides 8 16 = false) (hgood : h.clk.badWindow = false)
    (hok : h.flag CLK_STAT_hosc_ok = true) :
    h.mclkFails.clk.badWindow = true ∧ caused h.mclkFails 8 16 = true ∧ h.mclkFails.flag CLK_STAT_src_now = false ∧
      h.mclkFails.dev.halt = h.dev.halt := by
  have hraised : (h.raise 8 16 1 detailOpen).flag CLK_STAT_hosc_ok = true := by rw [(raise_moves _ _ _ _ _).flag CLK_STAT_hosc_ok 0 0, hok]
  have hcaused : caused (h.raise 8 16 1 detailOpen) 8 16 = true := caused_raise_self _ _ (by decide) hshown
  have hhalt : (h.raise 8 16 1 detailOpen).dev.halt = h.dev.halt := (raise_sameDev _ _ _ _ _).halt
  rw [Hub.mclkFails, if_neg (by exact ne_true_of_eq_false hshown)]
  dsimp only
  rw [if_neg (by rw [hgood, Bool.false_or]; exact not_guard_of_true hraised)]
  split
  case isTrue => exact ⟨rfl, hcaused, Hub.flag_put_self _ _ _ _ _ rfl, hhalt⟩
  case isFalse hroot =>
    refine ⟨rfl, hcaused, ?_, hhalt⟩
    rw [hraised, Bool.and_true] at hroot
    exact eq_false_of_ne_true hroot

/-- The second one halts the hub. -/
theorem mclkFails_second {h : Hub} (hshown : h.proofHides 8 16 = false) (hbad : h.clk.badWindow = true) (hrun : h.dev.halt = none)
    (hphase : h.dev.phase ≠ .off) : h.mclkFails.dev.halt = some .clock ∧ caused h.mclkFails 8 16 = true := by
  have hraise := raise_sameDev h 8 16 1 detailOpen
  rw [Hub.mclkFails, if_neg (by exact ne_true_of_eq_false hshown)]
  dsimp only
  rw [if_pos (by rw [hbad]; rfl), (clockHalt_moves _).sameSignals.caused]
  exact ⟨halt_clockHalt (hraise.halt.trans hrun) (fun hoff => hphase (hraise.phase.symm.trans hoff)),
    caused_raise_self _ _ (by decide) hshown⟩

/-- A difference of counts of 16 bits reads as it was written. -/
theorem toSigned_ofSigned_16 {i : Int} (hlo : -32768 ≤ i) (hhi : i < 32768) : toSigned 16 (ofSigned 16 i) = i := by
  unfold toSigned ofSigned
  split
  · omega
  · omega

theorem ofSigned_16_lt (i : Int) : ofSigned 16 i < 65536 := by
  unfold ofSigned
  omega

/-- A field clock out of its window is a condition of DB. -/
theorem dbCond_of_fclk {h : Hub} (hl : fLiveOn h 21 16 = true) : h.dbCond = true := by
  have hne : (vget h.flt.fLive 21 0 != 0) = true := by
    rw [bne_iff_ne]
    intro hzero
    rw [fLiveOn, hzero] at hl
    exact absurd hl (by decide)
  rw [Hub.dbCond, List.any_cons, hne]
  rfl

/-! ### The clauses -/

/-- Settles O4: each clause by the lemma of what its command does. -/
theorem clockCommands : Obligations.ClockCommands := by
  refine ⟨?lock, ?timeout, ?lost, ?back, ?fit, ?asked, ?window, ?failing, ?halting, ?leaving, ?fclk, ?fclkFails⟩
  case lock =>
    intro s hc
    refine completes_of_begun (exec_pllLock s) ?_
    rw [Hub.pllLocks, if_pos (by exact hc)]
    dsimp only
    split
    case isTrue hover =>
      have hover : s.hub.flag CLK_STAT_holdover = true := by simpa (disch := decide) using hover
      refine ⟨Hub.flag_put_self _ _ _ _ _ rfl, ?_, ?_, rfl⟩
      · rw [Hub.flag_put_apart _ _ _ _ _ _ (by decide), hover]
        exact (Bool.or_false _).symm
      · exact Hub.flag_put_apart _ _ _ _ _ _ (by decide)
    case isFalse hroot =>
      have hroot : s.hub.flag CLK_STAT_holdover = false := by simpa (disch := decide) using hroot
      refine ⟨?_, ?_, ?_, rfl⟩
      · rw [Hub.flag_put_apart _ _ _ _ _ _ (by decide), Hub.flag_put_self _ _ _ _ _ rfl]
      · rw [Hub.flag_put_self _ _ _ _ _ rfl, hroot]
        exact (Bool.or_true _).symm
      · rw [Hub.flag_put_apart _ _ _ _ _ _ (by decide), Hub.flag_put_apart _ _ _ _ _ _ (by decide)]
        exact Hub.begun_flag _ _ _ _
  case timeout =>
    intro s hc
    simp only [Can.pllLockTimeout, Bool.and_eq_true, Bool.not_eq_true'] at hc
    obtain ⟨⟨⟨⟨⟨hsrc, hphase⟩, hroot⟩, hover⟩, hok⟩, hshown⟩ := hc
    refine completes_of_begun (exec_pllLockTimeout s) ?_
    have hgo : (s.hub.flag CLK_CFG_src && s.hub.dev.phase == .arming && !s.hub.flag CLK_STAT_src_now && !s.hub.flag CLK_STAT_holdover) = true := by
      rw [hsrc, hphase, hroot, hover]
      rfl
    rw [if_pos (by exact hgo)]
    obtain ⟨hheld, -, -, hsame, hcaused, hcount⟩ := loseRef_spec (h := s.hub.begun) hok hshown
    exact ⟨hheld, hsame.trans hroot, hcount, hcaused⟩
  case lost =>
    intro s hc
    simp only [Can.refclkLost, Bool.and_eq_true, Bool.not_eq_true'] at hc
    obtain ⟨⟨⟨hroot, hover⟩, hok⟩, hshown⟩ := hc
    refine completes_of_begun (exec_refclkLost s) ?_
    have hgo : (s.hub.flag CLK_STAT_src_now && !s.hub.flag CLK_STAT_holdover) = true := by
      rw [hroot, hover]
      rfl
    rw [if_pos (by exact hgo)]
    obtain ⟨hheld, hfit, hlock, -, hcaused, hcount⟩ := loseRef_spec (h := s.hub.begun) hok hshown
    exact ⟨hheld, hfit, hlock, hcaused, hcount⟩
  case back =>
    intro s hc
    simp only [Can.refclkReturn, Bool.and_eq_true] at hc
    obtain ⟨⟨hsrc, hover⟩, hask⟩ := hc
    refine completes_of_begun (exec_refclkReturn s) ?_
    rw [if_pos (by exact hsrc)]
    refine flag_refReturn_of_back ?_
    simp (disch := decide)
    exact ⟨by simpa using hover, by simpa using hask⟩
  case fit =>
    intro s hc
    simp only [Can.refclkReturn2, Bool.and_eq_true] at hc
    obtain ⟨hsrc, hstays⟩ := hc
    have hstays := (Bool.not_eq_true' _).mp hstays
    refine completes_of_begun (exec_refclkReturn s) ?_
    rw [if_pos (by exact hsrc), refReturn_of_stays]
    · exact ⟨Hub.flag_put_self _ _ _ _ _ rfl, Hub.flag_put_apart _ _ _ _ _ _ (by decide), Hub.flag_put_apart _ _ _ _ _ _ (by decide)⟩
    · simpa (disch := decide) using hstays
  case asked =>
    intro s w v hc
    simp only [Can.returnRef, Bool.and_eq_true] at hc
    obtain ⟨⟨⟨hmay, hward⟩, hbit⟩, hwaits⟩ := hc
    refine completes_of_begun (exec_returnRef w v s) ?_
    have hgo : (w.val == 0 && bitOf v.toNat 0 && (s.hub.flag CLK_STAT_holdover || s.hub.dev.phase != .up)) = true := by
      rw [hward, hwaits]
      exact (Bool.and_true _).trans hbit
    have hset : (if s.hub.begun.clkWrites w then s.hub.begun.writeClkCtrl w v.toNat else s.hub.begun) =
        ((s.hub.begun.put CLK_STAT_ret_pending true).put CLK_CTRL_return_ref true).refReturn := by
      rw [if_pos (by exact hmay), Hub.writeClkCtrl, if_pos (by exact hgo)]
    rw [hset]
    by_cases hback : (s.hub.flag CLK_STAT_holdover && s.hub.flag CLK_STAT_ref_fit && (s.hub.flag CLK_CFG_auto_return || s.hub.dev.phase == .up)) = true
    · rw [if_pos hback]
      obtain ⟨hover, hroot, -, -, hpend, -⟩ := flag_refReturn_of_back
        (h := (s.hub.begun.put CLK_STAT_ret_pending true).put CLK_CTRL_return_ref true) (by simpa (disch := decide) using hback)
      exact ⟨hover, hroot, hpend⟩
    · rw [if_neg hback, refReturn_of_stays]
      · exact ⟨by simp (disch := decide), Hub.flag_put_self _ _ _ _ _ rfl, by simp (disch := decide)⟩
      · simpa (disch := decide) using hback
  case window =>
    intro s count hosc hc
    simp only [Can.mclkWindowEnd, Bool.and_eq_true, bne_iff_ne, Bool.not_eq_true', decide_eq_true_eq] at hc
    obtain ⟨⟨⟨hphase, hrst⟩, hlo⟩, hhi⟩ := hc
    refine completes_of_begun (exec_mclkWindowEnd count hosc s) ?_
    rw [if_neg (by simp [Hub.begun, hphase, hrst])]
    dsimp only
    rw [if_neg (by simp [offBy]; omega)]
    rw [(lower_moves _ _ _).rd CLK_MEAS_mclk_err 0 0, (lower_moves _ _ _).flag CLK_STAT_hosc_ok 0 0, (lower_moves _ _ _).keeps .clk]
    refine ⟨?_, rfl, ?_, fun hpll => ?_⟩
    · refine (congrArg (toSigned 16) ((judgeHosc_fields _ _).rd CLK_MEAS_mclk_err 0 0)).trans ?_
      rw [Hub.rd_wr_of_lt _ _ _ (ofSigned_16_lt _), toSigned_ofSigned_16 (by omega) (by omega)]
    · rw [caused_lower (by decide)]
      simp
    · refine (flag_judgeHosc (by simpa (disch := decide) using hpll) _).trans ?_
      rw [Hub.flag_wr_apart _ _ _ _ _ _ (by decide), Bool.and_assoc]
      refine congrArg _ (Bool.eq_iff_iff.mpr ?_)
      simp [offBy]
      omega
  case failing =>
    intro s count hosc hc
    simp only [Can.mclkWindowEnd2, Bool.and_eq_true, bne_iff_ne, Bool.or_eq_true, Bool.not_eq_true', decide_eq_true_eq] at hc
    obtain ⟨⟨⟨⟨⟨⟨⟨hphase, hrst⟩, hoff⟩, hshown⟩, hgood⟩, hok⟩, hlo⟩, hhi⟩ := hc
    refine completes_of_begun (exec_mclkWindowEnd count hosc s) ?_
    rw [if_neg (by simp [Hub.begun, hphase, hrst])]
    dsimp only
    rw [judgeHosc_of_good (not_offBy_iff.mpr ⟨by omega, by omega⟩), if_pos (by simp [offBy]; omega)]
    exact mclkFails_first hshown hgood ((Hub.flag_wr_apart _ _ _ _ _ _ (by decide)).trans hok)
  case halting =>
    intro s count hosc hc
    simp only [Can.mclkWindowEnd3, Bool.and_eq_true, bne_iff_ne, Bool.or_eq_true, Bool.not_eq_true', decide_eq_true_eq] at hc
    obtain ⟨⟨⟨⟨⟨hphase, hrst⟩, hoff⟩, hshown⟩, hbad⟩, hrun⟩ := hc
    refine completes_of_begun (exec_mclkWindowEnd count hosc s) ?_
    rw [if_neg (by simp [Hub.begun, hphase, hrst])]
    dsimp only
    rw [if_pos (by simp [offBy]; omega)]
    have hdev := judgeHosc_sameDev (s.hub.begun.wr CLK_MEAS_mclk_err (ofSigned 16 ((count.toNat : Int) - 1000))) hosc.toNat
    refine mclkFails_second ?_ ?_ (hdev.halt.trans (Option.isNone_iff_eq_none.mp hrun)) (fun hoff => hphase (hdev.phase.symm.trans hoff))
    · exact (judgeHosc_proofStays _ _).shown hshown
    · exact (congrArg Clk.badWindow ((judgeHosc_fields _ _).keeps .clk)).trans hbad
  case leaving =>
    intro s hc
    refine completes_of_begun (exec_clockHaltExit s) ?_
    rw [if_pos (by exact hc)]
    exact ⟨rfl, rfl, rfl⟩
  case fclk =>
    intro s count hc
    simp only [Can.fclkWindowEnd, Bool.and_eq_true, decide_eq_true_eq] at hc
    obtain ⟨⟨hup, hlo⟩, hhi⟩ := hc
    refine completes_of_begun (exec_fclkWindowEnd count s) ?_
    rw [if_neg (by exact not_guard_of_true hup)]
    dsimp only
    rw [if_neg (by simp [offBy]; omega), (fieldFall_moves _ _ _).rd CLK_MEAS_fclk_err 0 0]
    refine ⟨fun hlink => ?_, fLiveOn_fieldFall_none (by decide)⟩
    rw [if_pos (by exact hlink), Hub.rd_wr_of_lt _ _ _ (ofSigned_16_lt _), toSigned_ofSigned_16 (by omega) (by omega)]
  case fclkFails =>
    intro s count hc
    simp only [Can.fclkWindowEnd2, Bool.and_eq_true, Bool.or_eq_true, Bool.not_eq_true', decide_eq_true_eq] at hc
    obtain ⟨⟨hup, hoff⟩, hshown⟩ := hc
    refine completes_of_begun (exec_fclkWindowEnd count s) ?_
    rw [if_neg (by exact not_guard_of_true hup)]
    dsimp only
    rw [if_pos (by simp [offBy]; omega), (fieldRise_moves _ _ _ _).rd CLK_MEAS_fclk_err 0 0]
    have hlive : ∀ k : Hub, k.dbt = s.hub.dbt → fLiveOn (k.fieldRise 21 0 (count.toNat % 2 ^ 15)) 21 16 = true := by
      intro k hk
      exact fLiveOn_fieldRise_none _ (by decide) (by rw [Hub.fHidden, hk]; exact hshown)
    refine ⟨fun hlink hsmall => ?_, ?_, ?_⟩
    · rw [if_pos (by exact hlink), Hub.rd_wr_of_lt _ _ _ (ofSigned_16_lt _), toSigned_ofSigned_16 (by omega) (by omega)]
    · refine hlive _ ?_
      split
      · rfl
      · rfl
    · exact dbCond_of_fclk (hlive _ (by split <;> rfl))

end Sys2Proof.Machine

/-!
PROOF. A lane that waits for its return enters service with its 256th good frame, and establishes the link where the other direction is there
already: the field die's run of good time messages starts again.
-/

namespace Sys2Proof.Machine

set_option Elab.async false

/-- What follows a command leaves the clocks. -/
theorem clk_settle (before after : Hub) : (settle before after).clk = after.clk := (settle_moves before after).keeps .clk

/-- The hub with a field die that is up, lane 2 in service, and lane 0 in service and one good frame before its return. -/
def returnedState : State :=
  { State.reset with hub :=
    { State.reset.hub with
      sup := { State.reset.hub.sup with fieldUp := true }
      clk := { State.reset.hub.clk with goodRun := 1 }
      hinge := { State.reset.hub.hinge with
        lanes := vset (vset State.reset.hub.hinge.lanes 0 { inService := true, waiting := true, goodRun := 255 }) 2 { inService := true } } } }

/-- An IDLE frame. -/
def idleFrameBits : BitVec 64 := 0xBC00000000000A00 + BitVec.ofNat 64 (crc8 (hingeBytes 0xBC00000000000A00))

theorem exec_hingeFrameReceive_returnedState :
    ∃ f : Hub → Hub, exec (.hingeFrameReceive 0 idleFrameBits true true 0 false) returnedState = returnedState.on f ∧
      ¬ (f returnedState.hub.begun).clk.goodRun = 1 :=
  ⟨_, exec_hingeFrameReceive 0 idleFrameBits true true 0 false returnedState, by decide +kernel⟩

/-- Refutes O6: in `returnedState` an IDLE frame returns lane 0 to service, and the clocks are not as they were. No lane both serves and waits
in a hub that runs; the statement is about every state. -/
theorem not_laneCommands : ¬ Obligations.LaneCommands := by
  rintro ⟨-, hgood, -⟩
  obtain ⟨f, hf, hrun⟩ := exec_hingeFrameReceive_returnedState
  refine not_completes_of_kept (fun h => h.clk.goodRun) (fun n => n = 1) hf (fun b a => by rw [clk_settle]) (fun h hp => ?_) hrun
    (hgood returnedState 0 idleFrameBits true true 0 false (by decide +kernel))
  obtain ⟨-, -, -, -, -, hidle⟩ := hp
  obtain ⟨-, hclk⟩ := hidle (by decide +kernel)
  rw [hclk]
  rfl

end Sys2Proof.Machine

/-!
PROOF. Where only the odd half of a pair has the pair's mode, its commanded state is that of the even half: a rejoin adopts what the field die
reports of the odd one there.
-/

namespace Sys2Proof.Machine

set_option Elab.async false

/-- The hub in *Run* with a configured field die that rejoins, channel 0 off and alone, and channel 1 the closed half of a pair. -/
def halvedState : State :=
  { State.reset with hub :=
    { (((State.reset.hub.wr OUT_CFG_mode 1 0).wr OUT_CFG_mode 7 1).put HNG_STAT_rejoin true) with
      dev := { State.reset.hub.dev with phase := .up }
      hinge := { State.reset.hub.hinge with upL := true, configured := true }
      outs := vset State.reset.hub.outs 1 { latched := true } } }

theorem exec_rejoin_halvedState : ∃ f : Hub → Hub, exec .rejoin halvedState = halvedState.on f ∧
    ¬ (f halvedState.hub.begun).rd OUT_CTRL_on 0 = 0 :=
  ⟨_, exec_rejoin halvedState, by decide +kernel⟩

/-- Refutes O7: in `halvedState` channel 0 is open, and its commanded state reads on. The Blank admits no such pair; the statement is about
every state. -/
theorem not_linkCommands : ¬ Obligations.LinkCommands := by
  rintro ⟨-, -, -, -, hmatch, -⟩
  obtain ⟨f, hf, hon⟩ := exec_rejoin_halvedState
  refine not_completes_of_kept (fun h => h.rd OUT_CTRL_on 0) (fun n => n = 0) hf (fun b a => settle_rd b a (by decide +kernel)) (fun h hp => ?_)
    hon (hmatch halvedState (by decide +kernel))
  obtain ⟨-, -, -, -, -, -, hadopted, -⟩ := hp
  have hoff : h.flag OUT_CTRL_on 0 = false := (hadopted 0 (by decide +kernel) (by decide +kernel) (by decide +kernel)).trans (by decide +kernel)
  simpa [Hub.flag] using hoff

end Sys2Proof.Machine

/-!
PROOF. A response's outcome stands on the port that asked, and the hub has three.
-/

namespace Sys2Proof.Machine

set_option Elab.async false

/-- Beyond the three ports no outcome waits. -/
theorem outcome_of_absent (h : Hub) {p : Nat} (hp : 3 ≤ p) : (h.port p).outcome = none := by
  simp [Hub.port, vget, Nat.not_lt.mpr hp]

/-- The hub with a request of port 5 that has been sent as often as it may. -/
def portlessState : State :=
  { State.reset with hub :=
    { State.reset.hub with
      hinge := { State.reset.hub.hinge with upL := true, out := [{ what := .testHold, port := some (5, 0), tries := 256 }] } } }

/-- Refutes O8: in `portlessState` the failed request is one of port 5, on which nothing can be shown. The hub has no such port; the statement
is about every state. -/
theorem not_frameCommands : ¬ Obligations.FrameCommands := by
  rintro ⟨-, -, -, -, -, -, -, -, -, -, -, -, -, -, -, hfails⟩
  obtain ⟨-, h, -, -, ⟨-, -, -, hshown⟩, -⟩ := hfails portlessState 0 (by decide +kernel)
  obtain ⟨-, hport⟩ := hshown { what := .testHold, port := some (5, 0), tries := 256 } (by rfl)
  have hsome : (h.port 5).outcome = some 7 := hport (5, 0) rfl (by decide)
  rw [outcome_of_absent h (by decide)] at hsome
  cases hsome

end Sys2Proof.Machine

/-!
PROOF. A calibration that is triggered while one runs only waits for its end (R345): the head has not started its first one.
-/

namespace Sys2Proof.Machine

set_option Elab.async false

/-- The head of a chain of two hubs in *Run*, in a calibration, which has had two frames of its neighbour in a row and has started no
calibration. -/
def startedState : State :=
  { State.reset with hub :=
    { ((((State.reset.hub.put LSY_CFG_en true).put LSY_CFG_head true).wr LSY_CFG_hubs_m1 1).put LSY_STAT_calibrating true) with
      dev := { State.reset.hub.dev with phase := .up }
      lsy := { State.reset.hub.lsy with presents := 2 } } }

theorem exec_present_startedState : ∃ f : Hub → Hub, exec (.present 0) startedState = startedState.onLsy f ∧
    ¬ (f startedState.hub.begun).lsy.started = true :=
  ⟨_, exec_present 0 startedState, by decide +kernel⟩

/-- Refutes O20: in `startedState` the third frame in a row finds a calibration running, and none is started. A head whose calibration runs has
started one; the statement is about every state. -/
theorem not_luanenTime : ¬ Obligations.LuanenTime := by
  rintro ⟨-, -, -, -, -, -, -, -, -, -, -, -, -, -, -, -, hpresent⟩
  obtain ⟨f, hf, hstarted⟩ := exec_present_startedState
  have hrun : startedState.onLsy f = startedState.on f := rfl
  refine not_completes_of_kept (fun h => h.lsy.started) (fun b => b = true) (hf.trans hrun)
    (fun b a => congrArg Lsy.started (lsy_settle b a)) (fun h hp => ?_) hstarted (hpresent startedState 0 (by decide +kernel))
  obtain ⟨-, -, -, -, hfirst⟩ := hp
  exact (hfirst (by decide +kernel) (by decide) rfl rfl).1

end Sys2Proof.Machine

/-!
PROOF. An uncorrectable error of a ring entry takes the hub to *Safe* where its source has that class; the tumblers stop there, and the
operation that waits for one of them retires, so that the operations in flight are not those of before and the new one.
-/

namespace Sys2Proof.Machine

set_option Elab.async false

/-- No command completes with a claim about what stands after a command while LG5 is under test, where the claim fails before. -/
theorem not_completes_of_held {α : Type} {c : Instr} {s : State} {f : Hub → Hub} {P : Hub → Prop} (π : Hub → α) (Q : α → Prop)
    (hf : exec c s = s.on f) (hg : (settle s.hub (f s.hub.begun)).testGroup = 5)
    (hkept : ∀ b a : Hub, (settle b a).testGroup = 5 → π (settle b a) = π a) (hP : ∀ h, P h → Q (π h))
    (hnot : ¬ Q (π (f s.hub.begun))) : ¬ Completes c s P := by
  rintro ⟨t, h, hexec, -, hp, hhub, -⟩
  have hsame : settle s.hub (f s.hub.begun) = settle s.hub h := (hub_of_on hf hexec).symm.trans hhub
  refine hnot ?_
  rw [← hkept s.hub _ hg, hsame, hkept s.hub h (hsame ▸ hg)]
  exact hP h hp

/-- What follows a command while LG5 is under test leaves the engine. -/
theorem eng_settle_of_held (before after : Hub) (hg : (settle before after).testGroup = 5) : (settle before after).eng = after.eng :=
  (settle_moves_of_held hg).keeps .eng

/-- The hub in *Run* with LG5 under test, a descriptor of ward 0 whose first word has an uncorrectable error, an operation that waits for
tumbler 0, which executes, and the class *Safe* for uncorrectable memory errors. -/
def retiredState : State :=
  { State.reset with hub :=
    { ((((((((((State.reset.hub.wr (FLT_CLASS_class 41) 5).put (FLT_EN_en 41) true).put FLT_FIRST_valid true).put BST_STAT_busy true).wr
        BST_STAT_group 5).put OPS_SQ_CFG_en true).wr OPS_SQ_IDX_tail 1).wr OPS_QOS_cap16 1).wr OPS_POOL_CFG_size_k 1).wr TMB_STAT_state 2) with
      dev := { State.reset.hub.dev with phase := .up, wards := vset State.reset.hub.dev.wards 0 .active }
      sup := { State.reset.hub.sup with on := 0xFF }
      eng := { State.reset.hub.eng with ops := [{ slot := 5, kind := 6, phase := .waiting }] }
      bad := [bankAddr 0 0] } }

theorem exec_retiredState : ∃ f : Hub → Hub, exec (.descriptorAccept 0) retiredState = retiredState.on f ∧
    (settle retiredState.hub (f retiredState.hub.begun)).testGroup = 5 ∧
    ¬ (f retiredState.hub.begun).eng.ops.dropLast.all (fun o => o.phase == .waiting) = true :=
  ⟨_, exec_descriptorAccept 0 retiredState, by decide +kernel, by decide +kernel⟩

/-- Refutes O25: in `retiredState` accepting the descriptor retires the operation that waits for tumbler 0. -/
theorem not_engineCommands : ¬ Obligations.EngineCommands := by
  rintro ⟨haccept, -⟩
  obtain ⟨f, hf, hg, hretired⟩ := exec_retiredState
  refine not_completes_of_held (fun h => h.eng) (fun e => e.ops.dropLast.all (fun o => o.phase == .waiting) = true) hf hg
    (fun b a => eng_settle_of_held b a) (fun h hp => ?_) hretired (haccept retiredState 0 (by decide +kernel))
  obtain ⟨-, -, -, hops, -⟩ := hp
  rw [hops]
  rfl

end Sys2Proof.Machine

/-!
PROOF. With the first NVM device absent a mirrored program reaches the second one only.
-/

namespace Sys2Proof.Machine

set_option Elab.async false

/-- What follows a command leaves the NVM devices. -/
theorem nvm_settle (before after : Hub) : (settle before after).nvm = after.nvm := (settle_moves before after).keeps .nvm

/-- The hub with its first NVM device absent, its second one present, and the mirrored program of one byte for `use` under way. -/
def absentHub (use : NvmUse) : Hub :=
  { State.reset.hub.put BLK_CFG_mirror true with
    nvm := vset (vset State.reset.hub.nvm 0 { present := false }) 1 { present := true }
    nvmOp := some { use := use, kind := 1, addr := 0x40000, data := [0] } }

/-- A journal page is programmed with the first device absent. -/
def absentPage : State := { State.reset with hub := absentHub .journal }

/-- A page of a ledger's image is programmed with the first device absent. -/
def absentMirror : State :=
  { State.reset with hub := { absentHub .mirror with life := { State.reset.hub.life with mirror := some (0, []) } } }

/-- The first device as the program would leave it. -/
def absentProgrammed : NvmDev := nvmProgram { present := false } 0x40000 [0]

theorem exec_absentPage : ∃ f : Hub → Hub, exec (.pageProgramDone 0 true) absentPage = absentPage.on f ∧
    ¬ vget (f absentPage.hub.begun).nvm 0 {} = absentProgrammed :=
  ⟨_, exec_pageProgramDone 0 true absentPage, by decide +kernel⟩

/-- Refutes O41: in `absentPage` the page is not in the first device, which is absent. -/
theorem not_journalCommands : ¬ Obligations.JournalCommands := by
  rintro ⟨-, -, hdone, -⟩
  obtain ⟨f, hf, hnot⟩ := exec_absentPage
  refine not_completes_of_kept (fun h => vget h.nvm 0 {}) (fun v => v = absentProgrammed) hf (fun b a => by rw [nvm_settle])
    (fun h hp => ?_) hnot (hdone absentPage 0 true (by decide +kernel))
  obtain ⟨hprogram, -⟩ := hp
  exact (hprogram _ (List.mem_singleton_self _)).1 rfl

theorem exec_absentMirror : ∃ f : Hub → Hub, exec (.mirrorDone 0 true) absentMirror = absentMirror.on f ∧
    ¬ vget (f absentMirror.hub.begun).nvm 0 {} = absentProgrammed :=
  ⟨_, exec_mirrorDone 0 true absentMirror, by decide +kernel⟩

/-- Refutes O43: in `absentMirror` the page is not in the first device, which is absent. -/
theorem not_ledgerCommands : ¬ Obligations.LedgerCommands := by
  rintro ⟨-, -, -, -, -, -, -, -, -, -, -, -, -, hdone, -⟩
  obtain ⟨f, hf, hnot⟩ := exec_absentMirror
  refine not_completes_of_kept (fun h => vget h.nvm 0 {}) (fun v => v = absentProgrammed) hf (fun b a => by rw [nvm_settle])
    (fun h hp => ?_) hnot (hdone absentMirror 0 true (by decide +kernel))
  obtain ⟨-, -, hprogram, -⟩ := hp
  exact (hprogram _ (List.mem_singleton_self _)).1 rfl

end Sys2Proof.Machine

/-!
PROOF. With Safety records in every slot the ring is sealed, and its source is raised; where that has the class *Safe* the hub goes there
and stops a MARCH. One of a ring bank leaves the bank undefined (R313), so that its records are lost.
-/

namespace Sys2Proof.Machine

set_option Elab.async false

/-! ### The bytes of an abandoned bank -/

theorem freeBytes_succ (h : Hub) (n : Nat) : (h.freeBytes (n + 1)).1 = (h.freeNat 8).1 :: ((h.freeNat 8).2.freeBytes n).1 := rfl

/-- Bytes written from an address up read as they were written. -/
theorem cellGet_cellsSet_in (d : BitVec 8) {bytes : List Nat} {i : Nat} (hi : i < bytes.length) (m : List Host.Cell) (a : Nat) :
    cellGet d (cellsSet d m a bytes) (a + i) = BitVec.ofNat 8 bytes[i] := by
  induction bytes generalizing m a i with
  | nil => simp at hi
  | cons b rest ih =>
    have hcons : cellsSet d m a (b :: rest) = cellsSet d (cellSet d m a (BitVec.ofNat 8 b)) (a + 1) rest := rfl
    cases i with
    | zero =>
      rw [hcons]
      exact (cellGet_cellsSet_out (.inl (Nat.lt_succ_self a))).trans (cellGet_cellSet_self d m a _)
    | succ j =>
      rw [hcons, show a + (j + 1) = a + 1 + j by omega]
      exact ih (by simpa using hi) _ _

theorem freeBytes_getElem? (n : Nat) (h : Hub) {i : Nat} (hi : i < n) :
    (h.freeBytes n).1[i]? = some (Config.freeValue (h.free + i) % 2 ^ 8) := by
  induction n generalizing h i with
  | zero => omega
  | succ n ih =>
    rw [freeBytes_succ]
    cases i with
    | zero => rfl
    | succ j =>
      rw [List.getElem?_cons_succ, ih (h.freeNat 8).2 (by omega), show (h.freeNat 8).2.free = h.free + 1 from rfl,
        Nat.add_assoc, Nat.add_comm 1 j]

/-- A byte of a bank whose element is abandoned takes a free value. -/
theorem cellGet_marchAbandon {h : Hub} {t : Nat} {m : MarchRun} (hm : (h.tmb t).march = some m) {i : Nat} (hi : i < 0x4000) :
    cellGet 0 (h.marchAbandon t).mem (bankAddr m.bank 0 + i) = BitVec.ofNat 8 (Config.freeValue (h.free + i) % 2 ^ 8) := by
  have hget := freeBytes_getElem? 0x4000 h hi
  obtain ⟨hlen, hbyte⟩ := List.getElem?_eq_some_iff.mp hget
  rw [mem_marchAbandon hm, cellGet_cellsSet_in 0 hlen, hbyte]

/-! ### The ring -/

/-- The first byte of the ring. -/
def ringBase : Nat := bankAddr 44 0

theorem ringAddr_eq (i k : Nat) : ringAddr i k = ringBase + (32 * i + 4 * k) := by
  unfold ringAddr ringBase bankAddr
  omega

/-- A slot without its mark holds no record. -/
theorem ringRec_of_unmarked {h : Hub} {i : Nat} (hm : h.memWord (ringAddr i 7) / 2 ^ 16 ≠ 0xA55A) : h.ringRec i = none := by
  unfold Hub.ringRec
  rw [show (h.memWord (ringAddr i 7) / 2 ^ 16 == 0xA55A) = false from beq_eq_false_iff_ne.mpr hm]
  rfl

/-- The upper half of a word is that of its two upper bytes. -/
theorem memWord_upper (h : Hub) (a : Nat) :
    h.memWord a / 2 ^ 16 = (cellGet 0 h.mem (a + 2)).toNat + 256 * (cellGet 0 h.mem (a + 3)).toNat := by
  have h0 := (cellGet 0 h.mem a).isLt
  have h1 := (cellGet 0 h.mem (a + 1)).isLt
  have h2 := (cellGet 0 h.mem (a + 2)).isLt
  have h3 := (cellGet 0 h.mem (a + 3)).isLt
  simp only [Hub.memWord, cellsGet, List.range, List.range.loop, List.map, leNat, Nat.add_zero]
  omega

/-- The free values from the `n`-th on leave no mark in the first slot of a bank. -/
def Unmarking (n : Nat) : Prop := Config.freeValue (n + 30) % 2 ^ 8 + 256 * (Config.freeValue (n + 31) % 2 ^ 8) ≠ 0xA55A

/-- The two bytes of a mark differ, so that the free values leave none from one of two neighbours on. -/
theorem exists_unmarking (n : Nat) : ∃ b : Bool, Unmarking (n + b2n b) := by
  by_cases h0 : Unmarking n
  · exact ⟨false, h0⟩
  · refine ⟨true, fun h1 => h0 fun h2 => ?_⟩
    have hnext : n + b2n true + 30 = n + 31 := rfl
    rw [hnext] at h1
    omega

/-- A record lost: the first slot after the element of its bank is abandoned, where the free values are no mark. -/
theorem ringRec_of_abandoned {h k : Hub} {t : Nat} {m : MarchRun} (hm : (h.tmb t).march = some m) (hb : m.bank = 44)
    (hmem : k.mem = (h.marchAbandon t).mem) (hfree : Unmarking h.free) : k.ringRec 0 = none := by
  have hbyte (i : Nat) (hi : i < 0x4000) : (cellGet 0 k.mem (ringBase + i)).toNat = Config.freeValue (h.free + i) % 2 ^ 8 := by
    rw [hmem, ringBase, ← hb, cellGet_marchAbandon hm hi, BitVec.toNat_ofNat, Nat.mod_mod]
  refine ringRec_of_unmarked ?_
  have hupper : k.memWord (ringAddr 0 7) / 2 ^ 16 =
      (cellGet 0 k.mem (ringBase + 30)).toNat + 256 * (cellGet 0 k.mem (ringBase + 31)).toNat := memWord_upper k _
  rw [hupper, hbyte 30 (by decide), hbyte 31 (by decide)]
  exact hfree

/-! ### The fault -/

/-- The entry to *Safe* that abandons the element of tumbler 7 takes the first record of the ring, while LG5 is under test. -/
theorem enterSafe_loses {h : Hub} {m : MarchRun} (hs : h.dev.safe = false) (n : Nat) (hb : m.bank = 44)
    (hm : ((forAll (List.range 7) (fun h t => h.tmbStop t 6 true) h.safeBefore).tmb 7).march = some m)
    (hfree : Unmarking (forAll (List.range 7) (fun h t => h.tmbStop t 6 true) h.safeBefore).free) (hg : h.safeBefore.testGroup = 5) :
    (h.enterSafe n).ringRec 0 = none ∧ (h.enterSafe n).testGroup = 5 := by
  have hsplit (f : Hub → Nat → Hub) (k : Hub) : forAll (List.range 8) f k = f (forAll (List.range 7) f k) 7 := rfl
  have hstops : Moves ⟨[.hinge, .tmbs, .sch, .ints, .pins, .eng, .mem, .free], intFlds ++ stopFlds ++ [SCH_STAT_queued,
      TMB_MARCH_CNT_count, TMB_MARCH_FIRST_addr, TMB_MARCH_FIRST_valid, TMB_MARCH_SIG_sig], []⟩ h.safeBefore
      (forAll (List.range 8) (fun h t => h.tmbStop t 6 true) h.safeBefore) :=
    (Moves.refl _ _).forAll fun _ t ht => (Moves.refl _ _).to (tmbStop_moves _ t 6 true (List.mem_range.mp ht))
  constructor
  · refine ringRec_of_abandoned hm hb ?_ hfree
    rw [enterSafe_eq hs, (safeAfter_moves _ n).keeps .mem, hsplit]
    exact (tmbStop_movesOf_marchAbandon _ 7 6 true).keeps .mem
  · rw [enterSafe_eq hs, (safeAfter_moves _ n).testGroup, hstops.testGroup, hg]

/-- The hub with the cause of the ring's seal present. -/
def Hub.sealRaised (h : Hub) : Hub :=
  { h with flt := { h.flt with cause := vset h.flt.cause 54 (setBit (vget h.flt.cause 54 0) 16) } }

/-- The seal of the ring in such a hub: its source has the class *Safe*. -/
theorem raise_loses {h : Hub} {m : MarchRun} (hhide : h.proofHides 54 16 = false) (hcause : (h.causes 54 != 0) = false)
    (hphase : h.dev.phase = .up) (hen : h.fltEnabled 54 = true) (hmask : h.fltMask 54 = 0)
    (hclass0 : h.fltClass 54 = 5)
    (hlater : (h.sealRaised.occurRecorded 54 (h.sealRaised.occurWards 54 1) detailOpen).judgesLater = false)
    (hclass : (h.sealRaised.occurBefore 54 1 detailOpen).fltClass 54 = 5) (hs : (h.sealRaised.occurBefore 54 1 detailOpen).dev.safe = false)
    (hb : m.bank = 44)
    (hm : ((forAll (List.range 7) (fun h t => h.tmbStop t 6 true) (h.sealRaised.occurBefore 54 1 detailOpen).safeBefore).tmb 7).march = some m)
    (hfree : Unmarking (forAll (List.range 7) (fun h t => h.tmbStop t 6 true) (h.sealRaised.occurBefore 54 1 detailOpen).safeBefore).free)
    (hg : (h.sealRaised.occurBefore 54 1 detailOpen).safeBefore.testGroup = 5) :
    (h.raise 54 16 1 detailOpen).ringRec 0 = none ∧ (h.raise 54 16 1 detailOpen).testGroup = 5 := by
  have henter : h.raise 54 16 1 detailOpen = (h.sealRaised.occurBefore 54 1 detailOpen).enterSafe 54 := by
    have hnow : h.raise 54 16 1 detailOpen = h.sealRaised.occur 54 1 detailOpen := by
      unfold Hub.raise
      rw [hhide, show (if (16 : Nat) < 16 then bitOf (h.causes 54) 16 else h.causes 54 != 0) = false from hcause]
      rfl
    have hwait : (h.sealRaised.testGroup == 5 && h.sealRaised.fltClass 54 != 5) = false := by
      rw [show h.sealRaised.fltClass 54 = 5 from hclass0]
      exact Bool.and_false _
    rw [hnow, Hub.occur, hwait, if_neg Bool.false_ne_true]
    exact occurNow_eq hphase hen hmask hlater hclass
  rw [henter]
  exact enterSafe_loses hs 54 hb hm hfree hg

end Sys2Proof.Machine

/-!
PROOF. A ring that holds the same Safety record in every slot.
-/

namespace Sys2Proof.Machine

set_option Elab.async false

/-- The words of the record, and its bytes. -/
def sealedWords : List Nat := recWords 1 { typ := 1, sev := 4 }

/-- Byte `j` of the ring. -/
def sealedByte (j : Nat) : BitVec 8 := BitVec.ofNat 8 ((wordBytes sealedWords).getD (j % 32) 0)

/-- The memory whose ring holds the record from byte `lo` of the ring on. -/
def sealedMem (lo : Nat) : List Host.Cell := (List.range' lo (0x10000 - lo)).map (fun j => (ringBase + j, sealedByte j))

theorem cellGet_rangeMap (d : BitVec 8) (b : Nat) (f : Nat → BitVec 8) (n lo : Nat) {i : Nat} (hlo : lo ≤ i) (hi : i < lo + n) :
    cellGet d ((List.range' lo n).map (fun j => (b + j, f j))) (b + i) = f i := by
  induction n generalizing lo with
  | zero => omega
  | succ n ih =>
    rw [List.range'_succ, List.map_cons, cellGet]
    by_cases h : lo = i
    · rw [if_pos (by omega), h]
    · rw [if_neg (by omega)]
      exact ih (lo + 1) (by omega) (by omega)

theorem cellGet_sealedMem {lo j : Nat} (hlo : lo ≤ j) (hj : j < 0x10000) : cellGet 0 (sealedMem lo) (ringBase + j) = sealedByte j :=
  cellGet_rangeMap 0 ringBase sealedByte _ lo hlo (by omega)

/-- The bytes of a word of the record. -/
theorem sealedByte_slot (i j : Nat) : sealedByte (32 * i + j) = sealedByte j := by
  unfold sealedByte
  rw [Nat.mul_add_mod]

theorem memWord_sealed {h : Hub} {lo i k : Nat} (hm : h.mem = sealedMem lo) (hlo : lo ≤ 32 * i) (hi : i < 2048) (hk : k < 8) :
    h.memWord (ringAddr i k) = sealedWords.getD k 0 := by
  have hbyte (t : Nat) (ht : t < 4) : cellGet 0 h.mem (ringAddr i k + t) = sealedByte (4 * k + t) := by
    rw [hm, ringAddr_eq, Nat.add_assoc, Nat.add_assoc, cellGet_sealedMem (by omega) (by omega), sealedByte_slot]
  have hword : h.memWord (ringAddr i k) = leNat ((List.range 4).map (fun t => (sealedByte (4 * k + t)).toNat)) := by
    unfold Hub.memWord cellsGet
    exact congrArg leNat (List.map_congr_left fun t ht => by rw [hbyte t (List.mem_range.mp ht)])
  have hall : ∀ k < 8, leNat ((List.range 4).map (fun t => (sealedByte (4 * k + t)).toNat)) = sealedWords.getD k 0 := by decide +kernel
  rw [hword, hall k hk]

theorem ringWords_sealed {h : Hub} {lo i : Nat} (hm : h.mem = sealedMem lo) (hlo : lo ≤ 32 * i) (hi : i < 2048) :
    h.ringWords i = sealedWords := by
  have hwords : sealedWords = (List.range 8).map (fun k => sealedWords.getD k 0) := by decide +kernel
  rw [hwords, Hub.ringWords]
  exact List.map_congr_left fun k hk => memWord_sealed hm hlo hi (List.mem_range.mp hk)

/-- A slot that holds the words of a valid record holds that record. -/
theorem ringRec_of_words {h : Hub} {i : Nat} {ws : List Nat} (hw : h.ringWords i = ws) (hmark : ws.getD 7 0 / 2 ^ 16 = 0xA55A)
    (hvalid : recValid ws = true) : h.ringRec i = some ws := by
  have hseven : h.memWord (ringAddr i 7) = ws.getD 7 0 := by rw [← hw]; rfl
  rw [Hub.ringRec, hseven, hmark, hw, hvalid]
  rfl

theorem ringRec_sealed {h : Hub} {lo i : Nat} (hm : h.mem = sealedMem lo) (hlo : lo ≤ 32 * i) (hi : i < 2048) :
    h.ringRec i = some sealedWords :=
  ringRec_of_words (ringWords_sealed hm hlo hi) (by decide +kernel) (by decide +kernel)

/-- A slot's record is a matter of the memory. -/
theorem ringRec_of_mem {h k : Hub} (hm : h.mem = k.mem) (i : Nat) : h.ringRec i = k.ringRec i := by
  unfold Hub.ringRec Hub.ringWords Hub.memWord
  rw [hm]

/-! ### The list of the ring's records -/

theorem mem_ringList {h : Hub} {x : Nat × List Nat} : x ∈ h.ringList ↔ x.1 < ringSlots ∧ h.ringRec x.1 = some x.2 := by
  obtain ⟨i, ws⟩ := x
  simp only [Hub.ringList, List.mem_filterMap, List.mem_range, Option.map_eq_some_iff, Prod.mk.injEq]
  constructor
  · rintro ⟨j, hj, r, hr, rfl, rfl⟩
    exact ⟨hj, hr⟩
  · rintro ⟨hj, hr⟩
    exact ⟨i, hj, ws, hr, rfl, rfl⟩

/-- The ring is full exactly where each slot holds a record. -/
theorem ringList_full {h : Hub} : h.ringList.length = ringSlots ↔ ∀ i < ringSlots, (h.ringRec i).isSome = true := by
  have hlen := List.filterMap_length_eq_length (f := fun i => (h.ringRec i).map (fun r => (i, r))) (l := List.range ringSlots)
  rw [List.length_range] at hlen
  rw [Hub.ringList, hlen]
  simp only [List.mem_range, Option.isSome_map]

/-- With a Safety record in each slot the ring shows that it is sealed, and raises its source (R616). -/
theorem showRing_of_sealed {h : Hub} (hslots : ∀ i < ringSlots, ∃ ws, h.ringRec i = some ws ∧ recSev ws = 4) :
    h.showRing = ((h.put REC_STAT_full true).put REC_STAT_sealed true).raise 54 16 1 detailOpen := by
  have hfull : (h.ringList.length == ringSlots) = true := by
    rw [beq_iff_eq, ringList_full]
    intro i hi
    obtain ⟨ws, hws, -⟩ := hslots i hi
    rw [hws]
    rfl
  have hsev : h.ringList.all (fun x => recSev x.2 == 4) = true := by
    rw [List.all_eq_true]
    intro x hx
    obtain ⟨hlt, hrec⟩ := mem_ringList.mp hx
    obtain ⟨ws, hws, hsev⟩ := hslots x.1 hlt
    rw [hrec, Option.some_inj] at hws
    rw [hws, hsev]
    rfl
  unfold Hub.showRing
  dsimp only
  rw [hfull, hsev]
  rfl

end Sys2Proof.Machine

/-!
PROOF. A clear that erases nothing shows the ring again, and finds it sealed: the MARCH that the entry to *Safe* stops takes records that
are to stay.
-/

namespace Sys2Proof.Machine

set_option Elab.async false

/-- The hub in *Run* with LG5 under test, a sealed ring, tumbler 7 in a MARCH of the first ring bank, a clear up to number 0 begun, and the
class *Safe* for the seal of the ring. -/
def clearedState (b : Bool) : State :=
  { State.reset with hub :=
    { ((((State.reset.hub.wr (FLT_CLASS_class 54) 5).put (FLT_EN_en 54) true).put FLT_FIRST_valid true).put BST_STAT_busy true).wr
        BST_STAT_group 5 with
      dev := { State.reset.hub.dev with phase := .up }, mem := sealedMem 0, free := b2n b
      tmbs := vset State.reset.hub.tmbs 7 { march := some { bank := 44 } }
      recd := { State.reset.hub.recd with clearRun := some (0, 0, false) } } }

/-- The hub in which the ring is shown again. -/
def clearedHub (b : Bool) : Hub := (clearedState b).hub.begun.countMod REC_EVICT_COUNT_count 0

theorem ringRec_of_clearedMem {h : Hub} (hm : h.mem = sealedMem 0) {i : Nat} (hi : i < ringSlots) : h.ringRec i = some sealedWords :=
  ringRec_sealed hm (Nat.zero_le _) hi

/-- No record has a number up to 0. -/
theorem gone_of_clearedMem {h : Hub} (hm : h.mem = sealedMem 0) : h.ringList.filter (fun x => decide (recSeq x.2 ≤ 0)) = [] := by
  refine List.filter_eq_nil_iff.mpr fun x hx => ?_
  obtain ⟨hlt, hrec⟩ := mem_ringList.mp hx
  rw [ringRec_of_clearedMem hm hlt, Option.some_inj] at hrec
  rw [← hrec]
  decide +kernel

theorem mem_clearedHub (b : Bool) : (clearedHub b).mem = sealedMem 0 := rfl

/-- The ring shown as sealed. -/
def sealedHub (b : Bool) : Hub := ((clearedHub b).put REC_STAT_full true).put REC_STAT_sealed true

theorem free_sealedHub (b : Bool) : (forAll (List.range 7) (fun h t => h.tmbStop t 6 true)
    ((sealedHub b).sealRaised.occurBefore 54 1 detailOpen).safeBefore).free = 1 + b2n b := by cases b <;> decide +kernel

/-- The ring's seal takes the first record. -/
theorem raise_sealedHub {b : Bool} (hb : Unmarking (1 + b2n b)) :
    ((sealedHub b).raise 54 16 1 detailOpen).ringRec 0 = none ∧ ((sealedHub b).raise 54 16 1 detailOpen).testGroup = 5 := by
  refine raise_loses (m := { bank := 44 }) ?_ ?_ ?_ ?_ ?_ ?_ ?_ ?_ ?_ rfl ?_ ((free_sealedHub b).symm ▸ hb) ?_
  all_goals cases b <;> decide +kernel

theorem showRing_clearedHub {b : Bool} (hb : Unmarking (1 + b2n b)) :
    (clearedHub b).showRing.ringRec 0 = none ∧ (clearedHub b).showRing.testGroup = 5 := by
  rw [showRing_of_sealed fun i hi => ⟨sealedWords, ringRec_of_clearedMem (mem_clearedHub b) hi, by decide +kernel⟩]
  exact raise_sealedHub hb

/-- What a clear that erases nothing does after it has shown the ring again reaches no memory. -/
theorem exec_clear_moves {s : State} {S auth : Nat} (hrun : s.hub.recd.clearRun = some (S, auth, false)) (hsec : s.hub.recd.clearSectors = [])
    (hgone : s.hub.begun.ringList.filter (fun x => decide (recSeq x.2 ≤ S)) = []) :
    ∃ f : Hub → Hub, exec .clear s = s.on f ∧ Moves ⟨[.ret, .recd, .bst, .sch, .nvmQ], SCH_STAT_queued :: noteFlds, []⟩
      (s.hub.begun.countMod REC_EVICT_COUNT_count 0).showRing (f s.hub.begun) := by
  refine ⟨_, exec_clear s, ?_⟩
  have hrun' : s.hub.begun.recd.clearRun = some (S, auth, false) := hrun
  have hsec' : s.hub.begun.recd.clearSectors = [] := hsec
  simp only [hrun', hsec', hgone, List.foldl_nil, List.length_nil, List.isEmpty_nil, Bool.not_true, Bool.false_eq_true, if_false]
  generalize (s.hub.begun.countMod REC_EVICT_COUNT_count 0).showRing = k
  exact (((Moves.refl _ k).to (dropCand_moves _ _)).recd_nvmQ _ _).to (note_moves _ _ _ _ _ _ _)

/-- A showing of the ring takes its first record in `clearedState`. -/
theorem exec_clearedState {b : Bool} (hb : Unmarking (1 + b2n b)) : ∃ f : Hub → Hub, exec .clear (clearedState b) = (clearedState b).on f ∧
    (f (clearedState b).hub.begun).testGroup = 5 ∧ (f (clearedState b).hub.begun).ringRec 0 = none := by
  obtain ⟨f, hf, hmoves⟩ := exec_clear_moves (s := clearedState b) rfl rfl (gone_of_clearedMem rfl)
  obtain ⟨hrec, hgroup⟩ := showRing_clearedHub hb
  exact ⟨f, hf, hmoves.testGroup.trans hgroup, (ringRec_of_mem (hmoves.keeps .mem) 0).trans hrec⟩

/-- Refutes O42: in `clearedState` nothing is erased, and the ring's first record is gone. -/
theorem not_clearCommands : ¬ Obligations.ClearCommands := by
  rintro ⟨-, -, -, -, -, -, -, -, -, -, hclear, -⟩
  obtain ⟨b, hb⟩ := exists_unmarking 1
  obtain ⟨f, hf, hgroup, hrec⟩ := exec_clearedState hb
  have hcan : Can.clear (clearedState b) = true := by cases b <;> decide +kernel
  refine not_completes_of_held (fun h => h.ringRec 0) (fun r => r.isSome = true) hf (testGroup_settle_of_held _ hgroup)
    (fun c a hg => ringRec_of_mem ((settle_moves_of_held hg).keeps .mem) 0) (fun h hp => ?_) (by rw [hrec]; decide)
    (hclear (clearedState b) hcan)
  obtain ⟨hrun, -⟩ := hp
  obtain ⟨-, hlen, -⟩ := hrun (0, 0, false) (Option.mem_toList.mpr rfl)
  have hnone : (clearedState b).hub.ringList.filter (fun x => decide (recSeq x.2 ≤ 0)) = [] := gone_of_clearedMem rfl
  have hfull : (clearedState b).hub.ringList.length = ringSlots :=
    ringList_full.mpr fun i hi => by rw [ringRec_of_clearedMem rfl hi]; rfl
  rw [hnone, hfull, List.length_nil, Nat.add_zero] at hlen
  exact ringList_full.mp hlen 0 (Nat.zero_lt_succ _)

end Sys2Proof.Machine

/-!
PROOF. A record that fills the last free slot seals the ring: the MARCH that the entry to *Safe* stops takes the record just written.
-/

namespace Sys2Proof.Machine

set_option Elab.async false

/-! ### A slot written -/

/-- The hub with words `l` of slot `i` of the ring written. -/
def Hub.slotFilled (h : Hub) (i : Nat) (ws : List Nat) (l : List Nat) : Hub :=
  l.foldl (fun h k => h.setMemWord (ringAddr i k) (ws.getD k 0)) h

theorem memWord_slotFilled_ne (h : Hub) (i : Nat) (ws : List Nat) {l : List Nat} {b : Nat}
    (hb : ∀ k ∈ l, b + 4 ≤ ringAddr i k ∨ ringAddr i k + 4 ≤ b) : (h.slotFilled i ws l).memWord b = h.memWord b := by
  induction l generalizing h with
  | nil => rfl
  | cons k rest ih =>
    refine (ih (h.setMemWord (ringAddr i k) (ws.getD k 0)) fun j hj => hb j (List.mem_cons_of_mem k hj)).trans ?_
    exact memWord_setMemWord_ne h _ ((hb k List.mem_cons_self).imp id id)

theorem memWord_slotFilled (h : Hub) (i : Nat) (ws : List Nat) {l : List Nat} (hl : l.Nodup) {k : Nat} (hk : k ∈ l) :
    (h.slotFilled i ws l).memWord (ringAddr i k) = ws.getD k 0 % 2 ^ 32 := by
  induction l generalizing h with
  | nil => cases hk
  | cons j rest ih =>
    obtain ⟨hj, hrest⟩ := List.nodup_cons.mp hl
    rcases List.mem_cons.mp hk with rfl | hmem
    · refine (memWord_slotFilled_ne (h.setMemWord (ringAddr i k) (ws.getD k 0)) i ws fun x hx => ?_).trans (memWord_setMemWord h _ _)
      have hne : x ≠ k := fun heq => hj (heq ▸ hx)
      simp only [ringAddr_eq]
      omega
    · exact ih (h.setMemWord (ringAddr i j) (ws.getD j 0)) hrest hmem

/-- A slot written in full holds the words. -/
theorem ringWords_slotFilled (h : Hub) (i : Nat) (ws : List Nat) :
    (h.slotFilled i ws (List.range 8)).ringWords i = (List.range 8).map (fun k => ws.getD k 0 % 2 ^ 32) :=
  List.map_congr_left fun _ hk => memWord_slotFilled h i ws List.nodup_range hk

theorem ringWords_slotFilled_ne (h : Hub) {i j : Nat} (ws : List Nat) (hij : j ≠ i) :
    (h.slotFilled i ws (List.range 8)).ringWords j = h.ringWords j := by
  refine List.map_congr_left fun k hk => memWord_slotFilled_ne h i ws fun x hx => ?_
  have hk8 := List.mem_range.mp hk
  have hx8 := List.mem_range.mp hx
  simp only [ringAddr_eq]
  omega

/-! ### The state -/

/-- The record that is being written. -/
def lastRecord : RecEvent := { typ := 1, sev := 4, seq := some 1 }

/-- The hub in *Run* with LG5 under test, a ring of Safety records in which the first slot is free, a Safety record that is being written,
tumbler 7 in a MARCH of the first ring bank, and the class *Safe* for the seal of the ring. -/
def writtenState (b : Bool) : State :=
  { State.reset with hub :=
    { ((((State.reset.hub.wr (FLT_CLASS_class 54) 5).put (FLT_EN_en 54) true).put FLT_FIRST_valid true).put BST_STAT_busy true).wr
        BST_STAT_group 5 with
      dev := { State.reset.hub.dev with phase := .up }, mem := sealedMem 32, free := b2n b
      tmbs := vset State.reset.hub.tmbs 7 { march := some { bank := 44 } }
      recd := { State.reset.hub.recd with writing := some lastRecord } } }

/-- The first slot is free. -/
theorem ringRec_free {h : Hub} (hm : h.mem = sealedMem 32) : h.ringRec 0 = none := by
  have hout (lo n i : Nat) (hi : i < lo) (f : Nat → BitVec 8) :
      cellGet 0 ((List.range' lo n).map (fun j => (ringBase + j, f j))) (ringBase + i) = 0 := by
    induction n generalizing lo with
    | zero => rfl
    | succ n ih =>
      rw [List.range'_succ, List.map_cons, cellGet, if_neg (by omega)]
      exact ih (lo + 1) (by omega)
  refine ringRec_of_unmarked ?_
  have hupper : h.memWord (ringAddr 0 7) / 2 ^ 16 =
      (cellGet 0 h.mem (ringBase + 30)).toNat + 256 * (cellGet 0 h.mem (ringBase + 31)).toNat := memWord_upper h _
  rw [hupper, hm, sealedMem, hout _ _ _ (by decide), hout _ _ _ (by decide)]
  decide

/-- The record goes into the free slot. -/
theorem ringPick_free {h : Hub} (hm : h.mem = sealedMem 32) (sev : Nat) : ringPick h.ringList sev = some (0, none) := by
  have hany : h.ringList.any (fun x => x.1 == 0) = false := by
    rw [List.any_eq_false]
    rintro ⟨i, ws⟩ hx hi
    obtain ⟨-, hrec⟩ := mem_ringList.mp hx
    rw [beq_iff_eq] at hi
    subst hi
    rw [ringRec_free hm] at hrec
    cases hrec
  have hfind : (List.range ringSlots).find? (fun i => !(h.ringList.any (fun x => x.1 == i))) = some 0 := by
    rw [show List.range ringSlots = 0 :: List.range' 1 2047 by rw [List.range_eq_range']; rfl, List.find?_cons, hany]
    rfl
  unfold ringPick
  rw [hfind]

/-- The hub once the writer is free, and once the record is in its slot. -/
def Hub.written (h : Hub) : Hub := { h with recd := { h.recd with writing := none } }

def slotHub (b : Bool) : Hub := Hub.slotFilled (writtenState b).hub.begun.written 0 sealedWords (List.range 8)

/-- The hub with the newest record's number `n` seen. -/
def Hub.newestSeen (h : Hub) (n : Nat) : Hub := { h with recd := { h.recd with newest := max h.recd.newest n } }

theorem mem_newestSeen (h : Hub) (n : Nat) : (h.newestSeen n).mem = h.mem := rfl

/-- The end of a plain record's write shows the ring and hands the record to the journal. -/
theorem recWritten_plain {h : Hub} {e : RecEvent} (ws : List Nat) (htyp : (e.typ == 3) = false) (hflag : bitOf e.flags 2 = false)
    (hrun : h.recd.clearRun = none) : h.recWritten e ws = (h.newestSeen (recSeq ws)).showRing.journalNew ws := by
  unfold Hub.recWritten
  simp only [htyp, hflag, Bool.false_eq_true, if_false]
  rw [← Hub.newestSeen, hrun]

/-- The hub in which the ring is shown again. -/
def shownHub (b : Bool) : Hub := (slotHub b).newestSeen 1

theorem ringWords_of_mem {h k : Hub} (hm : h.mem = k.mem) (i : Nat) : h.ringWords i = k.ringWords i := by
  unfold Hub.ringWords Hub.memWord
  rw [hm]

/-- Once the first slot holds the record too, each slot does. -/
theorem slots_filled {h k : Hub} (hk : k.mem = sealedMem 32) (hm : h.mem = (k.slotFilled 0 sealedWords (List.range 8)).mem) {i : Nat}
    (hi : i < ringSlots) : h.ringRec i = some sealedWords := by
  refine ringRec_of_words ((ringWords_of_mem hm i).trans ?_) (by decide +kernel) (by decide +kernel)
  by_cases h0 : i = 0
  · have hword : sealedWords = (List.range 8).map (fun k => sealedWords.getD k 0 % 2 ^ 32) := by decide +kernel
    rw [h0, ringWords_slotFilled]
    exact hword.symm
  · rw [ringWords_slotFilled_ne k sealedWords h0]
    exact ringWords_sealed hk (by omega) hi

/-- The ring shown as sealed. -/
def fullHub (b : Bool) : Hub := ((shownHub b).put REC_STAT_full true).put REC_STAT_sealed true

theorem free_fullHub (b : Bool) : (forAll (List.range 7) (fun h t => h.tmbStop t 6 true)
    ((fullHub b).sealRaised.occurBefore 54 1 detailOpen).safeBefore).free = 1 + b2n b := by cases b <;> decide +kernel

/-- The ring's seal takes the record. -/
theorem raise_fullHub {b : Bool} (hb : Unmarking (1 + b2n b)) :
    ((fullHub b).raise 54 16 1 detailOpen).ringRec 0 = none ∧ ((fullHub b).raise 54 16 1 detailOpen).testGroup = 5 := by
  refine raise_loses (m := { bank := 44 }) ?_ ?_ ?_ ?_ ?_ ?_ ?_ ?_ ?_ rfl ?_ ((free_fullHub b).symm ▸ hb) ?_
  all_goals cases b <;> decide +kernel

theorem mem_written (b : Bool) : (writtenState b).hub.begun.written.mem = sealedMem 32 := rfl

theorem showRing_shownHub (b : Bool) : (shownHub b).showRing = (fullHub b).raise 54 16 1 detailOpen :=
  showRing_of_sealed fun _ hi => ⟨sealedWords, slots_filled (mem_written b) (mem_newestSeen (slotHub b) 1) hi, by decide +kernel⟩

/-- A ring write whose record finds a free slot. -/
theorem ringWrite_free {h : Hub} {e : RecEvent} {i : Nat} (hwriting : h.recd.writing = some e)
    (hpick : ringPick h.written.ringList e.sev = some (i, none)) (s : State) (hs : s.hub.begun = h) :
    ∃ f : Hub → Hub, exec .ringWrite s = s.on f ∧ f s.hub.begun =
      (h.written.slotFilled i (recWords (e.seq.getD 0) e) (List.range 8)).recWritten e (recWords (e.seq.getD 0) e) := by
  refine ⟨_, exec_ringWrite s, ?_⟩
  subst hs
  rw [Hub.written] at hpick
  simp only [hwriting, hpick]
  rfl

theorem recWords_lastRecord : recWords (lastRecord.seq.getD 0) lastRecord = sealedWords := by decide +kernel

theorem clearRun_slotHub (b : Bool) : (slotHub b).recd.clearRun = none := by cases b <;> decide +kernel

theorem exec_writtenState (b : Bool) : ∃ f : Hub → Hub, exec .ringWrite (writtenState b) = (writtenState b).on f ∧
    f (writtenState b).hub.begun = (shownHub b).showRing.journalNew sealedWords := by
  obtain ⟨f, hf, heq⟩ := ringWrite_free (e := lastRecord) rfl (ringPick_free (mem_written b) _) (writtenState b) rfl
  have hseq : recSeq sealedWords = 1 := by decide +kernel
  have hplain := recWritten_plain (h := slotHub b) (e := lastRecord) sealedWords rfl (by decide) (clearRun_slotHub b)
  rw [recWords_lastRecord] at heq
  rw [hseq] at hplain
  exact ⟨f, hf, heq.trans hplain⟩

/-- Of the registers the journal's intake counts only what it misses. -/
theorem journalNew_missed (h : Hub) (ws : List Nat) : Moves ⟨[.recd], [REC_JSTAT_missed], []⟩ h (h.journalNew ws) :=
  .ite (Moves.refl _ h) (.ite ((Moves.refl _ h).count _ _ _ _) (((Moves.refl _ h).recd _).to (stage_moves _)))

/-- Refutes O40: in `writtenState` the record that is written seals the ring, and its slot holds no record after it. -/
theorem not_recordCommands : ¬ Obligations.RecordCommands := by
  rintro ⟨-, -, -, -, -, -, -, hwrite, -⟩
  obtain ⟨b, hb⟩ := exists_unmarking 1
  obtain ⟨f, hf, heq⟩ := exec_writtenState b
  obtain ⟨hrec, hgroup⟩ := raise_fullHub hb
  rw [← showRing_shownHub] at hrec hgroup
  have hjournal := journalNew_missed (shownHub b).showRing sealedWords
  have hlost : (f (writtenState b).hub.begun).ringRec 0 = none := by rw [heq, ringRec_of_mem (hjournal.keeps .mem), hrec]
  have hheld : (f (writtenState b).hub.begun).testGroup = 5 := by rw [heq, hjournal.testGroup, hgroup]
  have hcan : Can.ringWrite (writtenState b) = true := by cases b <;> decide +kernel
  refine not_completes_of_held (fun h => h.ringRec 0) (fun r => r.isSome = true) hf (testGroup_settle_of_held _ hheld)
    (fun c a hg => ringRec_of_mem ((settle_moves_of_held hg).keeps .mem) 0) (fun h hp => ?_) (by rw [hlost]; decide)
    (hwrite (writtenState b) hcan)
  obtain ⟨-, hslot, -⟩ := hp
  obtain ⟨hwords, -⟩ := hslot lastRecord (Option.mem_toList.mpr rfl) (0, none) (Option.mem_toList.mpr (ringPick_free rfl _))
  rw [recWords_lastRecord] at hwords
  rw [ringRec_of_words hwords (by decide +kernel) (by decide +kernel)]
  rfl

end Sys2Proof.Machine

/-!
PROOF. The operations in flight: what a slot holds after its operation has been carried out, and what the rest of the hub leaves of it.
-/

namespace Sys2Proof.Machine

set_option Elab.async false

/-- The operation as it retires (R391). -/
def Op.retired (o : Op) (code r0 r1 : Nat) : Op := { o with phase := OpPhase.retiring, code := code, r0 := r0, r1 := r1 }

theorem slot_of_opAt {h : Hub} {slot : Nat} {o : Op} (ho : h.opAt slot = some o) : o.slot = slot :=
  beq_iff_eq.mp (List.find?_some (p := fun o : Op => o.slot == slot) ho)

/-- A change of operations that keeps their slots changes what a slot holds. -/
theorem opAt_map {h k : Hub} {g : Op → Op} (hk : k.eng.ops = h.eng.ops.map g) (hg : ∀ o, (g o).slot = o.slot) (slot : Nat) :
    k.opAt slot = (h.opAt slot).map g := by
  rw [Hub.opAt, hk, List.find?_map, Hub.opAt]
  congr 1
  exact congrArg (fun p => h.eng.ops.find? p) (funext fun o => by rw [Function.comp, hg])

theorem opAt_of_eng {h k : Hub} (hk : k.eng = h.eng) (slot : Nat) : k.opAt slot = h.opAt slot := by rw [Hub.opAt, hk, Hub.opAt]

theorem opAt_modOp {h : Hub} {slot : Nat} {o : Op} (ho : h.opAt slot = some o) {f : Op → Op} (hf : ∀ x, (f x).slot = x.slot) :
    (h.modOp o.slot f).opAt slot = some (f o) := by
  rw [opAt_map (h := h) (g := fun x => if x.slot == o.slot then f x else x) rfl (fun x => by split; exacts [hf x, rfl]), ho]
  simp

theorem opAt_retire {h : Hub} {slot : Nat} {o : Op} (ho : h.opAt slot = some o) (code r0 r1 : Nat) :
    (h.retire o.slot code r0 r1).opAt slot = (h.opAt slot).map (fun o => o.retired code r0 r1) := by
  rw [opAt_map (h := h) (g := fun x => if x.slot == o.slot then x.retired code r0 r1 else x) rfl
    (fun x => by split; exacts [rfl, rfl]), ho]
  simp

/-- An operation that meets a command's conditions is carried out. -/
theorem opRun_of {h : Hub} {slot kind : Nat} {which : Op → Bool} {f : Hub → Op → Hub} {o : Op} (hruns : h.engRuns = true)
    (ho : h.opAt slot = some o) (hphase : o.phase = .admitted) (hkind : o.kind = kind) (hwhich : which o = true) :
    h.opRun slot kind which f = f h o := by
  unfold Hub.opRun
  rw [ho]
  dsimp only
  rw [hruns, hphase, hkind, hwhich]
  simp

theorem wantDomain_of_on {h : Hub} {d : Nat} (hon : bitOf h.sup.on d = true) : h.wantDomain d = h := if_pos hon

theorem submit_of_empty {h : Hub} {c : Cand} (hq : h.sch.queue = []) :
    h.submit c = { h with sch := { h.sch with queue := [{ c with at_ := h.clk.now }] } }.wr SCH_STAT_queued 1 := by
  unfold Hub.submit
  rw [hq]
  rfl

/-- An operation that meets a command's conditions completes as its unit carries it out. -/
theorem completes_opRun {c : Instr} {s : State} {slot kind : Nat} {which : Op → Bool} {f : Hub → Op → Hub} {P : Hub → Prop} {o : Op}
    (hx : exec c s = s.on (fun h => h.opRun slot kind which f)) (hruns : s.hub.engRuns = true) (ho : s.hub.opAt slot = some o)
    (hphase : o.phase = .admitted) (hkind : o.kind = kind) (hwhich : which o = true) (hp : P (f s.hub.begun o)) : Completes c s P := by
  refine completes_of_begun hx ?_
  rw [opRun_of (h := s.hub.begun) hruns ho hphase hkind hwhich]
  exact hp

end Sys2Proof.Machine

/-!
PROOF. The operations on tumblers, converters and Luanen (R396, R397, R400, R225).
-/

namespace Sys2Proof.Machine

set_option Elab.async false

/-! ### Operations on a tumbler -/

section
variable {h : Hub} {o : Op} {f : Hub → Nat → Hub}

theorem withTmb_denied (hown : h.tmbOwner (bitsOf o.field 3 3) ≠ some o.ward) : h.withTmb o f = h.retire o.slot 2 := by
  unfold Hub.withTmb
  rw [if_pos (by simpa using hown)]

theorem withTmb_lost (hown : h.tmbOwner (bitsOf o.field 3 3) = some o.ward) (hup : h.hinge.upL = false)
    (hfield : h.drivesField (bitsOf o.field 3 3) = true) : h.withTmb o f = h.retire o.slot 5 := by
  unfold Hub.withTmb
  rw [if_neg (by simp [hown]), if_pos (by simp [hup, hfield])]

theorem withTmb_runs (hown : h.tmbOwner (bitsOf o.field 3 3) = some o.ward)
    (hlink : (h.hinge.upL || !h.drivesField (bitsOf o.field 3 3)) = true) (h3 : bitOf h.sup.on 3 = true) (h5 : bitOf h.sup.on 5 = true) :
    h.withTmb o f = f h (bitsOf o.field 3 3) := by
  have hfield : (!h.hinge.upL && h.drivesField (bitsOf o.field 3 3)) = false := by
    rw [Bool.or_eq_true] at hlink
    rcases hlink with hup | hno
    · rw [hup]; rfl
    · rw [Bool.not_eq_true'] at hno
      rw [hno, Bool.and_false]
  unfold Hub.withTmb
  rw [if_neg (by simp [hown]), if_neg (by simp [hfield])]
  simp [h3, h5]

end

theorem bitsOf_lt_eight (v at_ : Nat) : bitsOf v at_ 3 < 8 := Nat.mod_lt _ (by decide)

/-- The hub with a tumbler pending (R292). -/
def Hub.tmbPending (h : Hub) (t entry : Nat) (slot : Option Nat) : Hub :=
  ((h.lower 30 t).wr TMB_STAT_state 1 t).modTmb t (fun x => { x with entry := entry % 1024, startSlot := slot, startOk := false })

/-- A tumbler at rest takes a start: it is pending, and asks for admission after the domains it needs. -/
theorem tmbStartReq_of_rest {h : Hub} {t : Nat} (entry : Nat) (slot : Option Nat) (hstate : h.tmbState t ≠ 1) (hruns : h.tmbRuns t = false)
    (hown : (h.tmbOwner t).isSome = true) : ∃ c : Cand, c.kind = .tmbStart ∧ c.ref = t ∧
      (h.tmbStartReq t entry slot).1 = (((h.tmbPending t entry slot).wantDomain 3).wantDomain 5).submit c := by
  have hbusy : (h.tmbRuns t || h.tmbState t == 1 || (h.tmbOwner t).isNone) = false := by
    obtain ⟨w, hw⟩ := Option.isSome_iff_exists.mp hown
    simp [hruns, hstate, hw]
  unfold Hub.tmbStartReq
  rw [hbusy, if_neg Bool.false_ne_true]
  exact ⟨_, rfl, rfl, rfl⟩

theorem tmbState_tmbPending (h : Hub) (t entry : Nat) (slot : Option Nat) : (h.tmbPending t entry slot).tmbState t = 1 :=
  Hub.rd_wr_of_lt (h.lower 30 t) (f := TMB_STAT_state) (v := 1) t 0 (by decide)

theorem tmb_tmbPending (h : Hub) {t : Nat} (entry : Nat) (slot : Option Nat) (ht : t < 8) :
    (h.tmbPending t entry slot).tmb t = { h.tmb t with entry := entry % 1024, startSlot := slot, startOk := false } :=
  Hub.tmb_modTmb_self ((h.lower 30 t).wr TMB_STAT_state 1 t) t
    (fun x => { x with entry := entry % 1024, startSlot := slot, startOk := false }) ht

theorem tmbState_submit (h : Hub) (c : Cand) (t : Nat) : (h.submit c).tmbState t = h.tmbState t := by
  unfold Hub.submit
  split
  · rfl
  · exact Hub.rd_wr_apart _ _ _ _ _ _ (by decide)

theorem tmb_submit (h : Hub) (c : Cand) (t : Nat) : (h.submit c).tmb t = h.tmb t :=
  congrArg (fun v : Vector Tmb 8 => vget v t {}) ((submit_moves h c).keeps .tmbs)

theorem queue_submit_of_empty {h : Hub} (hq : h.sch.queue = []) (c : Cand) :
    (h.submit c).sch.queue.map (fun x => (x.kind, x.ref)) = [(c.kind, c.ref)] := by
  rw [submit_of_empty hq]
  rfl

/-! ### The operations -/

/-- The operation as it waits for its tumbler (R396). -/
def Op.awaiting (o : Op) : Op := { o with phase := OpPhase.waiting }

/-- The hub with the operation waiting for its tumbler. -/
def Hub.opWaits (h : Hub) (o : Op) : Hub := h.modOp o.slot Op.awaiting

theorem opAt_opWaits {h : Hub} {slot : Nat} {o : Op} (ho : h.opAt slot = some o) :
    (h.opWaits o).opAt slot = (h.opAt slot).map (fun o => { o with phase := OpPhase.waiting }) := by
  rw [Hub.opWaits, opAt_modOp ho (f := Op.awaiting) fun _ => rfl, ho]
  rfl

/-- A start operation makes its tumbler pending and asks for its admission. -/
theorem tmbOpStart_of_rest {h : Hub} {o : Op} (hown : h.tmbOwner (bitsOf o.field 3 3) = some o.ward)
    (hlink : (h.hinge.upL || !h.drivesField (bitsOf o.field 3 3)) = true) (h3 : bitOf h.sup.on 3 = true) (h5 : bitOf h.sup.on 5 = true)
    (hsafe : h.state ≠ .safe) (hstate : h.tmbState (bitsOf o.field 3 3) ≠ 1) (hruns : h.tmbRuns (bitsOf o.field 3 3) = false)
    (hadm : h.opAdmitted o.slot = false) : ∃ c : Cand, c.kind = .tmbStart ∧ c.ref = bitsOf o.field 3 3 ∧
      h.tmbOpStart o = ((h.opWaits o).tmbPending (bitsOf o.field 3 3) o.w1 (some o.slot)).submit c := by
  have hbusy : (h.tmbState (bitsOf o.field 3 3) == 1 || h.tmbRuns (bitsOf o.field 3 3)) = false := by simp [hstate, hruns]
  obtain ⟨c, hkind, href, heq⟩ := tmbStartReq_of_rest (h := h.opWaits o) o.w1 (some o.slot) hstate hruns (Option.isSome_of_eq_some hown)
  have hon3 := wantDomain_of_on (h := (h.opWaits o).tmbPending (bitsOf o.field 3 3) o.w1 (some o.slot)) (d := 3) h3
  have hon5 := wantDomain_of_on (h := (h.opWaits o).tmbPending (bitsOf o.field 3 3) o.w1 (some o.slot)) (d := 5) h5
  rw [hon3, hon5] at heq
  refine ⟨c, hkind, href, ?_⟩
  unfold Hub.tmbOpStart
  rw [withTmb_runs hown hlink h3 h5, if_neg (by simpa using hsafe), hbusy, if_neg Bool.false_ne_true, Hub.underAdmission, hadm]
  exact heq

theorem tmbOpStart_runs (s : State) (slot : Fin 16384) (hcan : Can.tmbOpStart slot s = true) : Completes (.tmbOpStart slot) s (fun h =>
    h.opAt slot = (s.hub.opAt slot).map (fun o => { o with phase := OpPhase.waiting }) ∧ (∀ o ∈ (s.hub.opAt slot).toList,
      h.tmbState (bitsOf o.field 3 3) = 1 ∧ (h.tmb (bitsOf o.field 3 3)).entry = o.w1 % 1024 ∧
      (h.tmb (bitsOf o.field 3 3)).startSlot = some slot.val ∧
      h.sch.queue.map (fun x => (x.kind, x.ref)) = [(CandKind.tmbStart, bitsOf o.field 3 3)])) := by
  simp only [Can.tmbOpStart, Bool.and_eq_true, Option.any_eq_true, beq_iff_eq, bne_iff_ne, Bool.not_eq_true', List.isEmpty_iff] at hcan
  obtain ⟨⟨⟨hruns, o, ho, ⟨⟨⟨⟨⟨⟨⟨⟨⟨hphase, hkind⟩, hwhich⟩, hown⟩, hlink⟩, h3⟩, h5⟩, hsafe⟩, hidle⟩, hrest⟩⟩, hadm⟩, hq⟩ := hcan
  refine completes_opRun (exec_tmbOpStart slot s) hruns ho hphase hkind (by simpa using hwhich) ?_
  have hslot := slot_of_opAt ho
  obtain ⟨c, hckind, hcref, heq⟩ := tmbOpStart_of_rest (h := s.hub.begun) hown hlink h3 h5 hsafe hidle hrest (by rw [hslot]; exact hadm)
  rw [heq]
  refine ⟨(opAt_of_eng ((submit_moves _ _).keeps .eng) _).trans (opAt_opWaits (h := s.hub.begun) ho), fun x hx => ?_⟩
  obtain rfl : x = o := Option.some_inj.mp ((Option.mem_toList.mp hx).symm.trans ho)
  rw [tmbState_submit, tmb_submit, tmbState_tmbPending, tmb_tmbPending _ _ _ (bitsOf_lt_eight _ _), queue_submit_of_empty (by exact hq), hckind, hcref,
    hslot]
  exact ⟨rfl, rfl, rfl, rfl⟩

/-- A stop operation asks its tumbler to stop at the next boundary. -/
theorem tmbOpStop_of_running {h : Hub} {o : Op} (hown : h.tmbOwner (bitsOf o.field 3 3) = some o.ward)
    (hlink : (h.hinge.upL || !h.drivesField (bitsOf o.field 3 3)) = true) (h3 : bitOf h.sup.on 3 = true) (h5 : bitOf h.sup.on 5 = true)
    (hruns : h.tmbRuns (bitsOf o.field 3 3) = true) :
    h.tmbOpStop o = (h.opWaits o).modTmb (bitsOf o.field 3 3) (fun x => { x with stopReq := some (bitOf o.field 2) }) := by
  have hnot : (h.tmbState (bitsOf o.field 3 3) == 1) = false := by
    rw [Hub.tmbRuns, Bool.and_eq_true, decide_eq_true_eq] at hruns
    exact beq_eq_false_iff_ne.mpr (by omega)
  have hnot' : ((h.opWaits o).tmbState (bitsOf o.field 3 3) == 1) = false := hnot
  have hruns' : (h.opWaits o).tmbRuns (bitsOf o.field 3 3) = true := hruns
  unfold Hub.tmbOpStop
  rw [withTmb_runs hown hlink h3 h5, hruns, Bool.or_true, if_pos rfl]
  show ((h.opWaits o).tmbStopReq _ _).1 = _
  rw [Hub.tmbStopReq, hnot', if_neg Bool.false_ne_true, if_pos hruns']

/-- A jump operation asks its running tumbler to go on at its address. -/
theorem tmbOpJump_of_running {h : Hub} {o : Op} (hown : h.tmbOwner (bitsOf o.field 3 3) = some o.ward)
    (hlink : (h.hinge.upL || !h.drivesField (bitsOf o.field 3 3)) = true) (h3 : bitOf h.sup.on 3 = true) (h5 : bitOf h.sup.on 5 = true)
    (hruns : h.tmbRuns (bitsOf o.field 3 3) = true) :
    h.tmbOpJump o = (h.opWaits o).modTmb (bitsOf o.field 3 3) (fun x => { x with jumpReq := some (o.w1 % 1024) }) := by
  have hnot : (h.tmbState (bitsOf o.field 3 3) == 1) = false := by
    rw [Hub.tmbRuns, Bool.and_eq_true, decide_eq_true_eq] at hruns
    exact beq_eq_false_iff_ne.mpr (by omega)
  have hruns' : (h.opWaits o).tmbRuns (bitsOf o.field 3 3) = true := hruns
  unfold Hub.tmbOpJump
  rw [withTmb_runs hown hlink h3 h5, hnot, if_neg Bool.false_ne_true, hruns, Bool.not_true, Bool.and_false, if_neg Bool.false_ne_true]
  show ((h.opWaits o).tmbJumpReq _ _ _).1 = _
  rw [Hub.tmbJumpReq, if_pos hruns']

end Sys2Proof.Machine

/-!
PROOF. The operations on tumblers, converters and Luanen: each clause.
-/

namespace Sys2Proof.Machine

set_option Elab.async false

/-! ### Words of a result in memory -/

theorem putWords_cons (h : Hub) (a v : Nat) (l : List Nat) : h.putWords a (v :: l) = (h.setMemWord a v).putWords (a + 4) l := rfl

theorem regs_putWords (h : Hub) (a : Nat) (l : List Nat) : (h.putWords a l).regs = h.regs := by
  induction l generalizing h a with
  | nil => rfl
  | cons v rest ih => exact ih (h.setMemWord a v) (a + 4)

theorem memWord_putWords_below (h : Hub) {a b : Nat} (l : List Nat) (hb : b + 4 ≤ a) : (h.putWords a l).memWord b = h.memWord b := by
  induction l generalizing h a with
  | nil => rfl
  | cons v rest ih => rw [putWords_cons, ih _ (by omega), memWord_setMemWord_ne h v (.inl hb)]

theorem memWord_putWords (h : Hub) (a : Nat) {l : List Nat} {i : Nat} (hi : i < l.length) :
    (h.putWords a l).memWord (a + 4 * i) = l[i] % 2 ^ 32 := by
  induction l generalizing h a i with
  | nil => simp at hi
  | cons v rest ih =>
    rw [putWords_cons]
    cases i with
    | zero => exact (memWord_putWords_below _ rest (Nat.le_refl _)).trans (memWord_setMemWord h a v)
    | succ j =>
      rw [show a + 4 * (j + 1) = a + 4 + 4 * j by omega]
      exact ih (h.setMemWord a v) (a + 4) (by simpa using hi)

/-- The words of a measuring round, as its operation writes them. -/
def convWords (shape : List Bool) (conv : List Word) : List Nat :=
  List.zipWith (fun full v => if full then v else v % 2 ^ 16) shape (conv.map (·.toNat))

theorem convWords_get {shape : List Bool} {conv : List Word} {x : (Word × Bool) × Nat} (hx : x ∈ (conv.zip shape).zipIdx) :
    (convWords shape conv)[x.2]? = some (if x.1.2 then x.1.1.toNat else x.1.1.toNat % 2 ^ 16) := by
  obtain ⟨⟨v, full⟩, i⟩ := x
  have hget := List.mem_zipIdx_iff_getElem?.mp hx
  rw [List.getElem?_zip_eq_some] at hget
  obtain ⟨hv, hfull⟩ := hget
  rw [convWords, List.getElem?_zipWith, hfull, List.getElem?_map, hv]
  rfl

/-! ### Converters -/

theorem meas_of_free {h : Hub} {o : Op} {conv : List Word} (hmay : ∀ c ∈ bitList 16 o.w1, h.mayMeasure o.ward c = true)
    (hup : h.hinge.upL = true) (hlen : conv.length = (measWords o.w1).length) (hown : h.ownsBank o.ward (ptrBank o.w2) = true)
    (hfree : h.bankFree (ptrBank o.w2) = true) : h.meas o (conv.map (·.toNat)) =
      (h.putWords (ptrAddr o.w2) (convWords (measWords o.w1) conv)).retire o.slot 0 conv.length := by
  have hany : (bitList 16 o.w1).any (fun c => !h.mayMeasure o.ward c) = false := by
    rw [List.any_eq_false]
    exact fun c hc => by rw [hmay c hc]; decide
  have hwords : (convWords (measWords o.w1) conv).length = conv.length := by simp [convWords, hlen]
  unfold Hub.meas
  dsimp only
  rw [hany, if_neg Bool.false_ne_true, hup, Bool.not_true, if_neg Bool.false_ne_true, List.length_map, hlen, bne_self_eq_false,
    if_neg Bool.false_ne_true, Hub.withBanks, ← hlen, ← hwords]
  simp [hown, hfree, convWords]

theorem meas_denied {h : Hub} {o : Op} {conv : List Nat} {c : Nat} (hc : c ∈ bitList 16 o.w1) (hmay : h.mayMeasure o.ward c = false) :
    h.meas o conv = h.retire o.slot 2 := by
  unfold Hub.meas
  rw [if_pos (List.any_eq_true.mpr ⟨c, hc, by rw [hmay]; rfl⟩)]

theorem meas_lost {h : Hub} {o : Op} {conv : List Nat} (hmay : ∀ c ∈ bitList 16 o.w1, h.mayMeasure o.ward c = true)
    (hup : h.hinge.upL = false) : h.meas o conv = h.retire o.slot 5 := by
  have hany : (bitList 16 o.w1).any (fun c => !h.mayMeasure o.ward c) = false := by
    rw [List.any_eq_false]
    exact fun c hc => by rw [hmay c hc]; decide
  unfold Hub.meas
  dsimp only
  rw [hany, if_neg Bool.false_ne_true, hup]
  rfl

/-! ### Diagnostics -/

section
variable {h : Hub} {o : Op} {v : BitVec 16} {normal fine : Nat}

theorem diag_denied (hown : (decide (o.field % 16 < h.chCount) && h.chOwner (o.field % 16) == some o.ward) = false) :
    h.diag o v normal fine = h.retire o.slot 2 := by
  unfold Hub.diag
  dsimp only
  rw [hown]
  rfl

theorem diag_lost (hown : (decide (o.field % 16 < h.chCount) && h.chOwner (o.field % 16) == some o.ward) = true) (hup : h.hinge.upL = false) :
    h.diag o v normal fine = h.retire o.slot 5 := by
  unfold Hub.diag
  dsimp only
  rw [hown, hup]
  rfl

/-- What channel `c` of a diagnosed operation shows in its second result. -/
def Hub.diagWord (h : Hub) (c : Nat) (v : BitVec 16) (normal fine : Nat) : Nat :=
  if h.isIn c then b2n (h.flag IN_STAT_state c) * 2 ^ 20 + h.inFltBits c * 2 ^ 24
  else fine + (if h.isOut c then h.diagConclusion c v.toInt normal fine else 6) * 2 ^ 16

theorem diag_runs (hown : (decide (o.field % 16 < h.chCount) && h.chOwner (o.field % 16) == some o.ward) = true) (hup : h.hinge.upL = true)
    (hon : (decide (o.field % 16 < 8) || bitOf h.sup.on 10) = true) : ∃ k : Hub, k.eng = h.eng ∧
      h.diag o v normal fine = k.retire o.slot 0 (v.toNat + normal * 2 ^ 16) (h.diagWord (o.field % 16) v normal fine) := by
  have hpowered : (decide (8 ≤ o.field % 16) && !bitOf h.sup.on 10) = false := by
    rcases Bool.or_eq_true_iff.mp hon with hlow | hfchb
    · rw [decide_eq_true_eq] at hlow
      rw [decide_eq_false (by omega)]
      rfl
    · rw [hfchb]
      exact Bool.and_false _
  unfold Hub.diag Hub.diagWord
  dsimp only
  rw [hown, hup, Bool.not_true, if_neg Bool.false_ne_true, if_neg Bool.false_ne_true, hpowered, if_neg Bool.false_ne_true]
  split
  · exact ⟨h, rfl, rfl⟩
  · generalize (if h.isOut (o.field % 16) then h.diagConclusion (o.field % 16) v.toInt normal fine else 6) = k
    by_cases hk : k == 6
    · exact ⟨h, rfl, by rw [if_pos hk]⟩
    · exact ⟨_, (diagCheck_moves h (o.field % 16) v.toInt normal fine).keeps .eng, by rw [if_neg hk]⟩

end

/-! ### Messages to the chain -/

section
variable {h : Hub} {o : Op}

theorem lsyOp_denied (hmask : bitOf (h.rd LSY_USER_send_mask) o.ward = false) : h.lsyOp o = h.retire o.slot 2 := by
  unfold Hub.lsyOp
  rw [hmask]
  rfl

theorem lsyOp_unplaced (hmask : bitOf (h.rd LSY_USER_send_mask) o.ward = true) (h3 : bitOf h.sup.on 3 = true)
    (hoff : (!h.lsyOn || !h.lsyPlaced) = true) : h.lsyOp o = h.retire o.slot 8 := by
  unfold Hub.lsyOp
  rw [hmask, h3, hoff]
  rfl

theorem lsyOp_sends (hmask : bitOf (h.rd LSY_USER_send_mask) o.ward = true) (h3 : bitOf h.sup.on 3 = true) (hon : h.lsyOn = true)
    (hplaced : h.lsyPlaced = true) : h.lsyOp o =
      (h.userSend (bitOf o.w1 31) (bitsOf o.w1 26 5) (bitsOf o.w1 16 5) (o.w1 % 2 ^ 16)).retire o.slot 0 := by
  unfold Hub.lsyOp
  rw [hmask, h3, hon, hplaced]
  rfl

end

/-- The USER frame of a word that an operation sends (R336). -/
def Hub.userFrame (h : Hub) (w : Nat) : LFrame :=
  { cmd := 0x60
    payload := b2n (bitOf w 31) * 2 ^ 31 + bitsOf w 26 5 * 2 ^ 26 + h.lsyPos * 2 ^ 21 + bitsOf w 16 5 * 2 ^ 16 + w % 2 ^ 16 }

theorem bitsOf_five_mod (v at_ : Nat) : bitsOf v at_ 5 % 32 = bitsOf v at_ 5 := Nat.mod_mod _ _

theorem userSend_upstream (h : Hub) (w : Nat) (hcast : bitOf w 31 = false) (hdest : bitsOf w 26 5 < h.lsyPos) :
    h.userSend (bitOf w 31) (bitsOf w 26 5) (bitsOf w 16 5) (w % 2 ^ 16) = h.lsyReturn (h.userFrame w) := by
  unfold Hub.userSend Hub.userFrame
  rw [hcast, bitsOf_five_mod, bitsOf_five_mod, Nat.mod_mod]
  dsimp only
  rw [if_neg (by simpa using Nat.le_of_lt hdest), if_pos hdest]

theorem userSend_downstream (h : Hub) (w : Nat) (hdest : (bitOf w 31 || decide (h.lsyPos < bitsOf w 26 5)) = true) (htail : h.isTail = false)
    (hroom : h.lsy.fwd.length < 16) : h.userSend (bitOf w 31) (bitsOf w 26 5) (bitsOf w 16 5) (w % 2 ^ 16) =
      { h with lsy := { h.lsy with fwd := lsyPut h.lsy.fwd (h.userFrame w) } } := by
  unfold Hub.userSend
  rw [bitsOf_five_mod, bitsOf_five_mod, Nat.mod_mod]
  dsimp only
  rw [if_pos (by simpa using hdest), Hub.lsyForward, htail, if_neg Bool.false_ne_true, Hub.lsySend, if_pos hroom]
  rfl

end Sys2Proof.Machine

/-!
PROOF. The operations on tumblers, converters and Luanen: the obligation, clause by clause.
-/

namespace Sys2Proof.Machine

set_option Elab.async false

section
variable {h : Hub} {o : Op}

/-! ### What a tumbler operation retires with -/

theorem tmbOpStart_safe (hown : h.tmbOwner (bitsOf o.field 3 3) = some o.ward)
    (hlink : (h.hinge.upL || !h.drivesField (bitsOf o.field 3 3)) = true) (h3 : bitOf h.sup.on 3 = true) (h5 : bitOf h.sup.on 5 = true)
    (hsafe : h.state = .safe) : h.tmbOpStart o = h.retire o.slot 8 := by
  unfold Hub.tmbOpStart
  rw [withTmb_runs hown hlink h3 h5, hsafe]
  rfl

theorem tmbOpStart_busy (hown : h.tmbOwner (bitsOf o.field 3 3) = some o.ward)
    (hlink : (h.hinge.upL || !h.drivesField (bitsOf o.field 3 3)) = true) (h3 : bitOf h.sup.on 3 = true) (h5 : bitOf h.sup.on 5 = true)
    (hsafe : h.state ≠ .safe) (hbusy : (h.tmbState (bitsOf o.field 3 3) == 1 || h.tmbRuns (bitsOf o.field 3 3)) = true) :
    h.tmbOpStart o = h.retire o.slot 3 := by
  unfold Hub.tmbOpStart
  rw [withTmb_runs hown hlink h3 h5, if_neg (by simpa using hsafe), if_pos hbusy]

theorem tmbOpStop_rest (hown : h.tmbOwner (bitsOf o.field 3 3) = some o.ward)
    (hlink : (h.hinge.upL || !h.drivesField (bitsOf o.field 3 3)) = true) (h3 : bitOf h.sup.on 3 = true) (h5 : bitOf h.sup.on 5 = true)
    (hidle : (h.tmbState (bitsOf o.field 3 3) == 1 || h.tmbRuns (bitsOf o.field 3 3)) = false) :
    h.tmbOpStop o = h.retire o.slot 0 (h.rd TMB_STAT_pc (bitsOf o.field 3 3)) := by
  unfold Hub.tmbOpStop
  rw [withTmb_runs hown hlink h3 h5, hidle, if_neg Bool.false_ne_true]

end

section
variable {s : State} {slot : Fin 16384} {c : Instr} {kind : Nat} {which : Op → Bool} {f : Hub → Op → Hub} {o : Op}

/-- An operation that its unit refuses retires with a code and leaves the rest of the hub. -/
theorem completes_retire (hx : exec c s = s.on (fun h => h.opRun slot kind which f)) (hruns : s.hub.engRuns = true)
    (ho : s.hub.opAt slot = some o) (hphase : o.phase = .admitted) (hkind : o.kind = kind) (hwhich : which o = true) {code r0 r1 : Nat}
    (hf : f s.hub.begun o = s.hub.begun.retire o.slot code r0 r1) : Completes c s (fun h =>
      h.opAt slot = (s.hub.opAt slot).map (fun o => o.retired code r0 r1) ∧ h.tmbs = s.hub.tmbs ∧ h.mem = s.hub.mem ∧ h.lsy = s.hub.lsy ∧
        h.regs = s.hub.regs) := by
  refine completes_opRun hx hruns ho hphase hkind hwhich ?_
  rw [hf]
  exact ⟨opAt_retire (h := s.hub.begun) ho _ _ _, rfl, rfl, rfl, rfl⟩

end

theorem completes_imp {c : Instr} {s : State} {P Q : Hub → Prop} (hc : Completes c s P) (himp : ∀ h, P h → Q h) : Completes c s Q := by
  obtain ⟨t, h, hx, hq, hp, hsettle⟩ := hc
  exact ⟨t, h, hx, hq, himp h hp, hsettle⟩

theorem any_not_mayMeasure {h : Hub} {w v : Nat} (hany : (bitList 16 v).any (fun c => !h.mayMeasure w c) = true) :
    ∃ c ∈ bitList 16 v, h.mayMeasure w c = false := by
  obtain ⟨c, hc, hmay⟩ := List.any_eq_true.mp hany
  exact ⟨c, hc, by simpa using hmay⟩

/-! ### The tumbler operations -/

section
variable (s : State) (slot : Fin 16384)

theorem tmbOpStart_refuses (hcan : Can.tmbOpStart2 slot s = true) : Completes (.tmbOpStart slot) s (fun h =>
    h.opAt slot = (s.hub.opAt slot).map (fun o => o.retired 3 0 0) ∧ h.tmbs = s.hub.tmbs ∧ h.regs = s.hub.regs) := by
  simp only [Can.tmbOpStart2, Bool.and_eq_true, Option.any_eq_true, beq_iff_eq, bne_iff_ne] at hcan
  obtain ⟨hruns, o, ho, ⟨⟨⟨⟨⟨⟨⟨hphase, hkind⟩, hwhich⟩, hown⟩, hlink⟩, h3⟩, h5⟩, hsafe⟩, hbusy⟩ := hcan
  refine completes_imp (completes_retire (exec_tmbOpStart slot s) hruns ho hphase hkind (by simpa using hwhich)
    (tmbOpStart_busy (h := s.hub.begun) hown hlink h3 h5 hsafe hbusy)) fun h hh => ?_
  obtain ⟨hop, htmbs, -, -, hregs⟩ := hh
  exact ⟨hop, htmbs, hregs⟩

theorem tmbOpStart_states (hcan : Can.tmbOpStart3 slot s = true) : Completes (.tmbOpStart slot) s (fun h =>
    h.opAt slot = (s.hub.opAt slot).map (fun o => o.retired 8 0 0) ∧ h.tmbs = s.hub.tmbs ∧ h.regs = s.hub.regs) := by
  simp only [Can.tmbOpStart3, Bool.and_eq_true, Option.any_eq_true, beq_iff_eq] at hcan
  obtain ⟨hruns, o, ho, ⟨⟨⟨⟨⟨⟨hphase, hkind⟩, hwhich⟩, hown⟩, hlink⟩, h3⟩, h5⟩, hsafe⟩ := hcan
  refine completes_imp (completes_retire (exec_tmbOpStart slot s) hruns ho hphase hkind (by simpa using hwhich)
    (tmbOpStart_safe (h := s.hub.begun) hown hlink h3 h5 hsafe)) fun h hh => ?_
  obtain ⟨hop, htmbs, -, -, hregs⟩ := hh
  exact ⟨hop, htmbs, hregs⟩

theorem tmbOpStop_rests (hcan : Can.tmbOpStop2 slot s = true) : Completes (.tmbOpStop slot) s (fun h =>
    h.opAt slot = (s.hub.opAt slot).map (fun o => { o with phase := OpPhase.retiring, code := 0, r0 := s.hub.rd TMB_STAT_pc (bitsOf o.field 3 3), r1 := 0 }) ∧
    h.tmbs = s.hub.tmbs) := by
  simp only [Can.tmbOpStop2, Bool.and_eq_true, Option.any_eq_true, beq_iff_eq, bne_iff_ne, Bool.not_eq_true'] at hcan
  obtain ⟨hruns, o, ho, ⟨⟨⟨⟨⟨⟨⟨hphase, hkind⟩, hwhich⟩, hown⟩, hlink⟩, h3⟩, h5⟩, hidle⟩, hrest⟩ := hcan
  have hstop := tmbOpStop_rest (h := s.hub.begun) hown hlink h3 h5 (by
    rw [Bool.or_eq_false_iff, beq_eq_false_iff_ne]
    exact ⟨hidle, hrest⟩)
  refine completes_imp (completes_retire (exec_tmbOpStop slot s) hruns ho hphase hkind (by simpa using hwhich) hstop) fun h hh => ?_
  obtain ⟨hop, htmbs, -⟩ := hh
  rw [hop, ho]
  exact ⟨rfl, htmbs⟩

theorem tmbOpStop_asks (hcan : Can.tmbOpStop slot s = true) : Completes (.tmbOpStop slot) s (fun h =>
    h.opAt slot = (s.hub.opAt slot).map (fun o => { o with phase := OpPhase.waiting }) ∧
    (∀ o ∈ (s.hub.opAt slot).toList, (h.tmb (bitsOf o.field 3 3)).stopReq = some (bitOf o.field 2)) ∧ h.regs = s.hub.regs) := by
  simp only [Can.tmbOpStop, Bool.and_eq_true, Option.any_eq_true, beq_iff_eq] at hcan
  obtain ⟨hruns, o, ho, ⟨⟨⟨⟨⟨⟨hphase, hkind⟩, hwhich⟩, hown⟩, hlink⟩, h3⟩, h5⟩, hgoes⟩ := hcan
  refine completes_opRun (exec_tmbOpStop slot s) hruns ho hphase hkind (by simpa using hwhich) ?_
  rw [tmbOpStop_of_running (h := s.hub.begun) hown hlink h3 h5 hgoes]
  refine ⟨opAt_opWaits (h := s.hub.begun) ho, fun x hx => ?_, rfl⟩
  obtain rfl : x = o := Option.some_inj.mp ((Option.mem_toList.mp hx).symm.trans ho)
  exact congrArg Tmb.stopReq (Hub.tmb_modTmb_self _ _ _ (bitsOf_lt_eight _ _))

theorem tmbOpJump_asks (hcan : Can.tmbOpJump slot s = true) : Completes (.tmbOpJump slot) s (fun h =>
    h.opAt slot = (s.hub.opAt slot).map (fun o => { o with phase := OpPhase.waiting }) ∧
    (∀ o ∈ (s.hub.opAt slot).toList, (h.tmb (bitsOf o.field 3 3)).jumpReq = some (o.w1 % 1024)) ∧ h.regs = s.hub.regs) := by
  simp only [Can.tmbOpJump, Bool.and_eq_true, Option.any_eq_true, beq_iff_eq] at hcan
  obtain ⟨hruns, o, ho, ⟨⟨⟨⟨⟨⟨hphase, hkind⟩, hwhich⟩, hown⟩, hlink⟩, h3⟩, h5⟩, hgoes⟩ := hcan
  refine completes_opRun (exec_tmbOpJump slot s) hruns ho hphase hkind (by simpa using hwhich) ?_
  rw [tmbOpJump_of_running (h := s.hub.begun) hown hlink h3 h5 hgoes]
  refine ⟨opAt_opWaits (h := s.hub.begun) ho, fun x hx => ?_, rfl⟩
  obtain rfl : x = o := Option.some_inj.mp ((Option.mem_toList.mp hx).symm.trans ho)
  exact congrArg Tmb.jumpReq (Hub.tmb_modTmb_self _ _ _ (bitsOf_lt_eight _ _))

end

/-- An operation of another ward's tumbler, and one of a field tumbler without the link, retires at once. -/
theorem completes_withTmb {c : Instr} {s : State} {slot : Fin 16384} {which : Op → Bool} {f : Hub → Op → Hub} {g : Op → Hub → Nat → Hub} {o : Op}
    {code : Nat} (hx : exec c s = s.on (fun h => h.opRun slot 6 which f)) (hfg : ∀ h o, f h o = h.withTmb o (g o)) (hruns : s.hub.engRuns = true)
    (ho : s.hub.opAt slot = some o) (hphase : o.phase = .admitted) (hkind : o.kind = 6) (hwhich : which o = true)
    (hret : s.hub.begun.withTmb o (g o) = s.hub.begun.retire o.slot code) : Completes c s (fun h =>
      h.opAt slot = (s.hub.opAt slot).map (fun o => o.retired code 0 0) ∧ h.tmbs = s.hub.tmbs ∧ h.regs = s.hub.regs) := by
  refine completes_imp (completes_retire hx hruns ho hphase hkind hwhich ((hfg _ o).trans hret)) fun h hh => ?_
  obtain ⟨hop, htmbs, -, -, hregs⟩ := hh
  exact ⟨hop, htmbs, hregs⟩

/-! ### The operations on converters and on the chain -/

theorem userFrame_of_hub (h : Hub) {w : Nat} (hcast : bitOf w 31 = false) : h.userFrame w =
    { cmd := 0x60, payload := bitsOf w 26 5 * 2 ^ 26 + h.lsyPos * 2 ^ 21 + bitsOf w 16 5 * 2 ^ 16 + w % 2 ^ 16 } := by
  rw [Hub.userFrame, hcast, show b2n false = 0 from rfl, Nat.zero_mul, Nat.zero_add]

section
variable (s : State) (slot : Fin 16384)

theorem meas_writes (conv : List Word) (hcan : Can.meas slot conv s = true) : Completes (.meas slot conv) s (fun h =>
    h.opAt slot = (s.hub.opAt slot).map (fun o => { o with phase := OpPhase.retiring, code := 0, r0 := conv.length, r1 := 0 }) ∧
    (∀ o ∈ (s.hub.opAt slot).toList, ∀ x ∈ (conv.zip (measWords o.w1)).zipIdx,
      h.memWord (ptrAddr o.w2 + 4 * x.2) = (if x.1.2 then x.1.1.toNat else x.1.1.toNat % 2 ^ 16)) ∧ h.regs = s.hub.regs) := by
  simp only [Can.meas, Bool.and_eq_true, Option.any_eq_true, beq_iff_eq, List.all_eq_true] at hcan
  obtain ⟨hruns, o, ho, ⟨⟨⟨⟨⟨hphase, hkind⟩, hmay⟩, hup⟩, hlen⟩, hown⟩, hfree⟩ := hcan
  refine completes_opRun (exec_meas slot conv s) hruns ho hphase hkind rfl ?_
  rw [meas_of_free (h := s.hub.begun) hmay hup hlen hown hfree]
  have hkept := putWords_moves s.hub.begun (ptrAddr o.w2) (convWords (measWords o.w1) conv)
  refine ⟨(opAt_retire ((opAt_of_eng (hkept.keeps .eng) slot).trans ho) _ _ _).trans (congrArg _ (opAt_of_eng (hkept.keeps .eng) slot)),
    fun x hx y hy => ?_, regs_putWords _ _ _⟩
  obtain rfl : x = o := Option.some_inj.mp ((Option.mem_toList.mp hx).symm.trans ho)
  obtain ⟨hlt, hget⟩ := List.getElem?_eq_some_iff.mp (convWords_get hy)
  refine (memWord_putWords s.hub.begun (ptrAddr x.w2) hlt).trans ?_
  rw [hget]
  split
  · exact Nat.mod_eq_of_lt y.1.1.isLt
  · exact Nat.mod_eq_of_lt (by omega)

theorem diag_shows (v : BitVec 16) (normal fine : BitVec 12) (hcan : Can.diag slot v normal fine s = true) :
    Completes (.diag slot v normal fine) s (fun h =>
      (h.opAt slot).map (fun o => (o.phase, o.code, o.r0)) = some (OpPhase.retiring, 0, v.toNat + normal.toNat * 2 ^ 16) ∧
      (∀ o ∈ (s.hub.opAt slot).toList, (h.opAt slot).map (fun o => o.r1) = some (s.hub.diagWord (o.field % 16) v normal.toNat fine.toNat))) := by
  simp only [Can.diag, Bool.and_eq_true, Option.any_eq_true, beq_iff_eq] at hcan
  obtain ⟨hruns, o, ho, ⟨⟨⟨⟨⟨hphase, hkind⟩, hcount⟩, hown⟩, hup⟩, hon⟩⟩ := hcan
  refine completes_opRun (exec_diag slot v normal fine s) hruns ho hphase hkind rfl ?_
  obtain ⟨k, hk, heq⟩ := diag_runs (h := s.hub.begun) (o := o) (v := v) (normal := normal.toNat) (fine := fine.toNat)
    (by rw [Bool.and_eq_true, beq_iff_eq]; exact ⟨hcount, hown⟩) hup hon
  have hko : k.opAt slot = some o := (opAt_of_eng hk slot).trans ho
  rw [heq, opAt_retire hko, hko]
  refine ⟨rfl, fun x hx => ?_⟩
  obtain rfl : x = o := Option.some_inj.mp ((Option.mem_toList.mp hx).symm.trans ho)
  rfl

theorem lsy_returns (hcan : Can.lsy slot s = true) : Completes (.lsy slot) s (fun h =>
    h.opAt slot = (s.hub.opAt slot).map (fun o => { o with phase := OpPhase.retiring, code := 0, r0 := 0, r1 := 0 }) ∧
    (∀ o ∈ (s.hub.opAt slot).toList, h.lsy.ret.contains { cmd := 0x60, payload := bitsOf o.w1 26 5 * 2 ^ 26 + s.hub.lsyPos * 2 ^ 21 + bitsOf o.w1 16 5 * 2 ^ 16 + o.w1 % 2 ^ 16 } = true) ∧
    h.regs = s.hub.regs) := by
  simp only [Can.lsy, Bool.and_eq_true, Option.any_eq_true, beq_iff_eq, Bool.not_eq_true', decide_eq_true_eq] at hcan
  obtain ⟨hruns, o, ho, ⟨⟨⟨⟨⟨⟨⟨hphase, hkind⟩, hmask⟩, h3⟩, hon⟩, hplaced⟩, hcast⟩, hdest⟩⟩ := hcan
  refine completes_opRun (exec_lsy slot s) hruns ho hphase hkind rfl ?_
  rw [lsyOp_sends (h := s.hub.begun) hmask h3 hon hplaced, userSend_upstream s.hub.begun o.w1 hcast hdest]
  refine ⟨opAt_retire (h := s.hub.begun.lsyReturn _) ho _ _ _, fun x hx => ?_, rfl⟩
  obtain rfl : x = o := Option.some_inj.mp ((Option.mem_toList.mp hx).symm.trans ho)
  have hframe := userFrame_of_hub s.hub.begun hcast
  rw [show s.hub.begun.lsyPos = s.hub.lsyPos from rfl] at hframe
  show (s.hub.begun.lsyReturn (s.hub.begun.userFrame x.w1)).lsy.ret.contains _ = true
  rw [hframe]
  exact contains_lsyReturn s.hub.begun _

theorem lsy_forwards (hcan : Can.lsy2 slot s = true) : Completes (.lsy slot) s (fun h =>
    h.opAt slot = (s.hub.opAt slot).map (fun o => { o with phase := OpPhase.retiring, code := 0, r0 := 0, r1 := 0 }) ∧
    (∀ o ∈ (s.hub.opAt slot).toList, h.lsy.fwd = lsyPut s.hub.lsy.fwd (s.hub.userFrame o.w1)) ∧ h.regs = s.hub.regs) := by
  simp only [Can.lsy2, Bool.and_eq_true, Option.any_eq_true, beq_iff_eq, Bool.not_eq_true', decide_eq_true_eq] at hcan
  obtain ⟨hruns, o, ho, ⟨⟨⟨⟨⟨⟨⟨⟨hphase, hkind⟩, hmask⟩, h3⟩, hon⟩, hplaced⟩, hdest⟩, htail⟩, hroom⟩⟩ := hcan
  refine completes_opRun (exec_lsy slot s) hruns ho hphase hkind rfl ?_
  rw [lsyOp_sends (h := s.hub.begun) hmask h3 hon hplaced, userSend_downstream s.hub.begun o.w1 hdest htail hroom]
  refine ⟨opAt_retire (h := { s.hub.begun with lsy := _ }) ho _ _ _, fun x hx => ?_, rfl⟩
  obtain rfl : x = o := Option.some_inj.mp ((Option.mem_toList.mp hx).symm.trans ho)
  rfl

end

/-- Settles O27: each operation retires with its result, or waits for its tumbler with the request made. -/
theorem unitOperations : Obligations.UnitOperations := by
  unfold Obligations.UnitOperations
  refine ⟨tmbOpStart_runs, tmbOpStart_refuses, tmbOpStart_states, fun s slot hcan => ?_, fun s slot hcan => ?_, tmbOpStop_asks, tmbOpStop_rests,
    fun s slot hcan => ?_, fun s slot hcan => ?_, tmbOpJump_asks, fun s slot hcan => ?_, fun s slot hcan => ?_, meas_writes,
    fun s slot conv hcan => ?_, fun s slot conv hcan => ?_, fun s slot v normal fine hcan => ?_, fun s slot v normal fine hcan => ?_,
    fun s slot v normal fine hcan => ?_, lsy_returns, lsy_forwards, fun s slot hcan => ?_, fun s slot hcan => ?_⟩
  case refine_1 =>
    simp only [Can.tmbOpStart4, Bool.and_eq_true, Option.any_eq_true, beq_iff_eq, bne_iff_ne] at hcan
    obtain ⟨hruns, o, ho, ⟨⟨hphase, hkind⟩, hwhich⟩, hown⟩ := hcan
    exact completes_withTmb (exec_tmbOpStart slot s) (fun _ _ => rfl) hruns ho hphase hkind (by simpa using hwhich) (withTmb_denied hown)
  case refine_2 =>
    simp only [Can.tmbOpStart5, Bool.and_eq_true, Option.any_eq_true, beq_iff_eq, Bool.not_eq_true'] at hcan
    obtain ⟨hruns, o, ho, ⟨⟨⟨⟨hphase, hkind⟩, hwhich⟩, hown⟩, hup⟩, hfield⟩ := hcan
    exact completes_withTmb (exec_tmbOpStart slot s) (fun _ _ => rfl) hruns ho hphase hkind (by simpa using hwhich) (withTmb_lost hown hup hfield)
  case refine_3 =>
    simp only [Can.tmbOpStop3, Bool.and_eq_true, Option.any_eq_true, beq_iff_eq, bne_iff_ne] at hcan
    obtain ⟨hruns, o, ho, ⟨⟨hphase, hkind⟩, hwhich⟩, hown⟩ := hcan
    exact completes_withTmb (exec_tmbOpStop slot s) (fun _ _ => rfl) hruns ho hphase hkind (by simpa using hwhich) (withTmb_denied hown)
  case refine_4 =>
    simp only [Can.tmbOpStop4, Bool.and_eq_true, Option.any_eq_true, beq_iff_eq, Bool.not_eq_true'] at hcan
    obtain ⟨hruns, o, ho, ⟨⟨⟨⟨hphase, hkind⟩, hwhich⟩, hown⟩, hup⟩, hfield⟩ := hcan
    exact completes_withTmb (exec_tmbOpStop slot s) (fun _ _ => rfl) hruns ho hphase hkind (by simpa using hwhich) (withTmb_lost hown hup hfield)
  case refine_5 =>
    simp only [Can.tmbOpJump2, Bool.and_eq_true, Option.any_eq_true, beq_iff_eq, bne_iff_ne] at hcan
    obtain ⟨hruns, o, ho, ⟨⟨hphase, hkind⟩, hwhich⟩, hown⟩ := hcan
    exact completes_withTmb (exec_tmbOpJump slot s) (fun _ _ => rfl) hruns ho hphase hkind (by simpa using hwhich) (withTmb_denied hown)
  case refine_6 =>
    simp only [Can.tmbOpJump3, Bool.and_eq_true, Option.any_eq_true, beq_iff_eq, Bool.not_eq_true'] at hcan
    obtain ⟨hruns, o, ho, ⟨⟨⟨⟨hphase, hkind⟩, hwhich⟩, hown⟩, hup⟩, hfield⟩ := hcan
    exact completes_withTmb (exec_tmbOpJump slot s) (fun _ _ => rfl) hruns ho hphase hkind (by simpa using hwhich) (withTmb_lost hown hup hfield)
  case refine_7 =>
    simp only [Can.meas2, Bool.and_eq_true, Option.any_eq_true, beq_iff_eq] at hcan
    obtain ⟨hruns, o, ho, ⟨hphase, hkind⟩, hany⟩ := hcan
    obtain ⟨c, hc, hmay⟩ := any_not_mayMeasure hany
    refine completes_imp (completes_retire (exec_meas slot conv s) hruns ho hphase hkind rfl
      (meas_denied (h := s.hub.begun) hc hmay)) fun h hh => ?_
    obtain ⟨hop, -, hmem, -, hregs⟩ := hh
    exact ⟨hop, hmem, hregs⟩
  case refine_8 =>
    simp only [Can.meas3, Bool.and_eq_true, Option.any_eq_true, beq_iff_eq, Bool.not_eq_true', List.all_eq_true] at hcan
    obtain ⟨hruns, o, ho, ⟨⟨hphase, hkind⟩, hmay⟩, hup⟩ := hcan
    refine completes_imp (completes_retire (exec_meas slot conv s) hruns ho hphase hkind rfl
      (meas_lost (h := s.hub.begun) hmay hup)) fun h hh => ?_
    obtain ⟨hop, -, hmem, -, hregs⟩ := hh
    exact ⟨hop, hmem, hregs⟩
  case refine_9 =>
    refine completes_imp (diag_shows s slot v normal fine hcan) fun h hh => ?_
    obtain ⟨hres, hword⟩ := hh
    refine ⟨hres, fun o ho => ⟨fun hin => ?_, fun hin => ?_⟩⟩
    · rw [hword o ho, Hub.diagWord, if_pos hin]
    · rw [hword o ho, Hub.diagWord, hin, if_neg Bool.false_ne_true]
  case refine_10 =>
    simp only [Can.diag2, Bool.and_eq_true, Option.any_eq_true, beq_iff_eq, Bool.not_eq_true'] at hcan
    obtain ⟨hruns, o, ho, ⟨hphase, hkind⟩, hown⟩ := hcan
    refine completes_imp (completes_retire (exec_diag slot v normal fine s) hruns ho hphase hkind rfl
      (diag_denied (h := s.hub.begun) hown)) fun h hh => ?_
    obtain ⟨hop, -, -, -, hregs⟩ := hh
    exact ⟨hop, hregs⟩
  case refine_11 =>
    simp only [Can.diag3, Bool.and_eq_true, Option.any_eq_true, beq_iff_eq, Bool.not_eq_true'] at hcan
    obtain ⟨hruns, o, ho, ⟨⟨⟨hphase, hkind⟩, hcount⟩, hown⟩, hup⟩ := hcan
    refine completes_imp (completes_retire (exec_diag slot v normal fine s) hruns ho hphase hkind rfl
      (diag_lost (h := s.hub.begun) (by rw [Bool.and_eq_true, beq_iff_eq]; exact ⟨hcount, hown⟩) hup)) fun h hh => ?_
    obtain ⟨hop, -, -, -, hregs⟩ := hh
    exact ⟨hop, hregs⟩
  case refine_12 =>
    simp only [Can.lsy3, Bool.and_eq_true, Option.any_eq_true, beq_iff_eq, Bool.not_eq_true'] at hcan
    obtain ⟨hruns, o, ho, ⟨hphase, hkind⟩, hmask⟩ := hcan
    refine completes_imp (completes_retire (exec_lsy slot s) hruns ho hphase hkind rfl (lsyOp_denied (h := s.hub.begun) hmask)) fun h hh => ?_
    obtain ⟨hop, -, -, hlsy, hregs⟩ := hh
    exact ⟨hop, hlsy, hregs⟩
  case refine_13 =>
    simp only [Can.lsy4, Bool.and_eq_true, Option.any_eq_true, beq_iff_eq] at hcan
    obtain ⟨hruns, o, ho, ⟨⟨⟨hphase, hkind⟩, hmask⟩, h3⟩, hoff⟩ := hcan
    refine completes_imp (completes_retire (exec_lsy slot s) hruns ho hphase hkind rfl
      (lsyOp_unplaced (h := s.hub.begun) hmask h3 hoff)) fun h hh => ?_
    obtain ⟨hop, -, -, hlsy, hregs⟩ := hh
    exact ⟨hop, hlsy, hregs⟩

end Sys2Proof.Machine

/-!
PROOF. The commanded states of the output channels: what a command and a send to the safe state leave of them.
-/

namespace Sys2Proof.Machine

set_option Elab.async false

theorem vget_foldl_vset {α : Type} {n : Nat} (l : List Nat) (v : Vector α n) (x d : α) {c : Nat} (hc : c < n) :
    vget (l.foldl (fun v c => vset v c x) v) c d = if c ∈ l then x else vget v c d := by
  induction l generalizing v with
  | nil => simp
  | cons a rest ih =>
    rw [List.foldl_cons, ih]
    by_cases hr : c ∈ rest
    · rw [if_pos hr, if_pos (List.mem_cons_of_mem _ hr)]
    · rw [if_neg hr]
      by_cases ha : c = a
      · subst ha
        rw [if_pos List.mem_cons_self, vget_vset_self _ _ _ _ hc]
      · rw [if_neg (by simp [ha, hr]), vget_vset_ne ha]

theorem cmd_sendL (h : Hub) (f : HFrame) : (h.sendL f).hinge.cmd = h.hinge.cmd := by
  unfold Hub.sendL
  split
  · rfl
  · rfl

theorem cmd_newGen (h : Hub) (g : Nat) (urgent : Bool) : (h.newGen g urgent).hinge.cmd = h.hinge.cmd := by
  unfold Hub.newGen
  split
  · rfl
  · split
    · rfl
    · exact cmd_sendL _ _

theorem cmd_command (h : Hub) (chs : List Nat) (code : Nat) (urgent : Bool) :
    (h.command chs code urgent).hinge.cmd = chs.foldl (fun v c => vset v c code) h.hinge.cmd := by
  unfold Hub.command
  dsimp only
  split <;> split <;> simp only [cmd_newGen]

/-- A commanded channel has the command. -/
theorem cmd_command_self (h : Hub) {chs : List Nat} (code : Nat) (urgent : Bool) {c : Nat} (hc : c ∈ chs) (hlt : c < 16) :
    vget (h.command chs code urgent).hinge.cmd c 0 = code := by
  rw [cmd_command, vget_foldl_vset _ _ _ _ hlt, if_pos hc]

theorem cmd_command_ne (h : Hub) {chs : List Nat} (code : Nat) (urgent : Bool) {c : Nat} (hc : c ∉ chs) (hlt : c < 16) :
    vget (h.command chs code urgent).hinge.cmd c 0 = vget h.hinge.cmd c 0 := by
  rw [cmd_command, vget_foldl_vset _ _ _ _ hlt, if_neg hc]

end Sys2Proof.Machine

/-!
PROOF. The 1oo2 pair: what the opening and the closing of a pair leave of Luanen sync (R340 to R347).
-/

namespace Sys2Proof.Machine

set_option Elab.async false

/-! ### What the pair's changes reach -/

/-- The fields and parts that the pair's changes reach beside those of a fault. -/
def pairFoot : Foot := faultFoot.join ⟨[.lsy], [LSY_PAIR_STAT_close_sched, LSY_PAIR_STAT_detail, LSY_PAIR_STAT_disagreements, LSY_PAIR_T_t,
  LSY_COUNTS_drops, OUT_STAT_pending, OUT_STAT_safe_hold, OUT_CTRL_on, SCH_STAT_queued], []⟩

theorem pairCh_lt (h : Hub) : h.rd LSY_PAIR_ch < 16 := h.rd_lt LSY_PAIR_ch 0 0

theorem pairCancel_pair (h : Hub) : Moves pairFoot h h.pairCancel :=
  (((Moves.refl _ h).to (dropCand_moves _ _)).sch_lsy _ _).put _ _ _ _

theorem lsySend_pair (h : Hub) (f : LFrame) : Moves pairFoot h (h.lsySend f) := by
  have hcount : Moves pairFoot h (h.count LSY_COUNTS_drops) := (Moves.refl _ h).count _ _ _ _
  unfold Hub.lsySend
  refine .ite ((Moves.refl _ h).lsy _) (.bind hcount fun y => ?_)
  split
  · exact .ite (y.lsy _) y
  · exact y

theorem pairSchedule_pair (h : Hub) (t : Nat) : Moves pairFoot h (h.pairSchedule t) :=
  ((((Moves.refl _ h).lsy _).put _ _ _ _).wr _ _ _ _).to (submit_moves _ _)

theorem pairTry_pair (h : Hub) : Moves pairFoot h h.pairTry :=
  .ite (((Moves.refl _ h).to (lsySend_pair _ _)).to (pairSchedule_pair _ _)) (Moves.refl _ h)

theorem cancelCh_pair (h : Hub) {c : Nat} (on : Bool) (hc : c < 16) : Moves pairFoot h (h.cancelCh c on) :=
  (((Moves.refl _ h).to (dropCand_moves _ _)).to (modOut_moves _ _ _)).put _ _ _ _ hc

/-- The hub as a pair that opens leaves it before its fault occurs. -/
def Hub.pairOpened (h : Hub) (detail : Nat) : Hub :=
  let h' := (h.pairCancel.sendSafe [h.rd LSY_PAIR_ch]).wr LSY_PAIR_STAT_detail detail
  (if detail == 6 then h'.put OUT_CTRL_on false (h.rd LSY_PAIR_ch) else h').count LSY_PAIR_STAT_disagreements

theorem pairOpen_eq {h : Hub} (detail : Nat) (hh : h.proofHides 37 16 = false) :
    ∃ wards, h.pairOpen detail = (h.pairOpened detail).event 37 wards detail := by
  unfold Hub.pairOpen
  rw [hh]
  exact ⟨_, rfl⟩

theorem pairOpen_hidden {h : Hub} (detail : Nat) (hh : h.proofHides 37 16 = true) : h.pairOpen detail = h := by
  unfold Hub.pairOpen
  rw [hh]
  rfl

theorem sendSafe_pairCh (h : Hub) {c : Nat} (hc : c < 16) : Moves ⟨[.hinge, .outs, .tmbs, .sch, .ints, .pins],
    intFlds ++ [OUT_STAT_pending, OUT_STAT_safe_hold, SCH_STAT_queued], []⟩ h (h.sendSafe [c]) :=
  sendSafe_moves h [c] fun d hd => by rwa [List.mem_singleton.mp hd]

theorem pairOpened_pair (h : Hub) (detail : Nat) : Moves pairFoot h (h.pairOpened detail) := by
  have hsafe : Moves pairFoot h (h.pairCancel.sendSafe [h.rd LSY_PAIR_ch]) :=
    ((Moves.refl _ h).to (pairCancel_pair h)).to (sendSafe_pairCh _ (pairCh_lt h))
  have hdetail := hsafe.wr LSY_PAIR_STAT_detail detail 0 0
  exact (Moves.ite (hdetail.put OUT_CTRL_on _ _ _ (pairCh_lt h)) hdetail).count _ _ _ _

theorem pairOpen_pair (h : Hub) (detail : Nat) : Moves pairFoot h (h.pairOpen detail) := by
  cases hh : h.proofHides 37 16 with
  | true =>
    rw [pairOpen_hidden detail hh]
    exact .refl _ h
  | false =>
    obtain ⟨wards, heq⟩ := pairOpen_eq detail hh
    rw [heq]
    exact ((Moves.refl _ h).to (pairOpened_pair h detail)).to (event_moves _ _ _ _)

/-! ### Luanen sync as the pair's changes leave it -/

/-- Luanen sync with no close under way (R342). -/
def Lsy.parted (l : Lsy) : Lsy := { l with closeAt := none, closeAdmitted := false, closePast := false, pairOn := false, run4 := 0 }

theorem lsy_pairCancel (h : Hub) : h.pairCancel.lsy = h.lsy.parted := rfl

theorem lsy_pairOpened (h : Hub) (detail : Nat) : (h.pairOpened detail).lsy = h.lsy.parted := by
  have hsafe : (h.pairCancel.sendSafe [h.rd LSY_PAIR_ch]).lsy = h.lsy.parted := (sendSafe_pairCh _ (pairCh_lt h)).keeps .lsy
  rw [← hsafe]
  unfold Hub.pairOpened
  dsimp only
  split
  · rfl
  · rfl

theorem detail_pairOpened (h : Hub) {detail : Nat} (hd : detail < 8) : (h.pairOpened detail).rd LSY_PAIR_STAT_detail = detail := by
  have hwr := Hub.rd_wr_of_lt (h.pairCancel.sendSafe [h.rd LSY_PAIR_ch]) (f := LSY_PAIR_STAT_detail) 0 0 hd
  unfold Hub.pairOpened
  dsimp only
  rw [Hub.rd_count_apart _ _ _ _ _ _ (by decide)]
  split
  · rw [Hub.rd_put_apart _ _ _ _ _ _ (by decide), hwr]
  · exact hwr

theorem disagreements_pairOpened (h : Hub) (detail : Nat) : (h.pairOpened detail).rd LSY_PAIR_STAT_disagreements =
    satInc (2 ^ LSY_PAIR_STAT_disagreements.width - 1) (h.rd LSY_PAIR_STAT_disagreements) := by
  have hcancel : h.pairCancel.rd LSY_PAIR_STAT_disagreements = h.rd LSY_PAIR_STAT_disagreements :=
    (((Moves.refl ⟨[.sch, .lsy], [SCH_STAT_queued, LSY_PAIR_STAT_close_sched], []⟩ h).to (dropCand_moves _ _)).sch_lsy _ _ |>.put _ _ _ _).rd _ _ _
  have hsafe := (sendSafe_pairCh h.pairCancel (pairCh_lt h)).rd LSY_PAIR_STAT_disagreements 0 0
  unfold Hub.pairOpened
  dsimp only
  rw [Hub.rd_count_satInc]
  refine congrArg _ ?_
  split
  · rw [Hub.rd_put_apart _ _ _ _ _ _ (by decide), Hub.rd_wr_apart _ _ _ _ _ _ (by decide), hsafe, hcancel]
  · rw [Hub.rd_wr_apart _ _ _ _ _ _ (by decide), hsafe, hcancel]

/-- A pair that opens has no close under way and shows why it has opened. -/
theorem pairOpen_spec {h : Hub} {detail : Nat} (hd : detail < 8) (hh : h.proofHides 37 16 = false) :
    (h.pairOpen detail).lsy = h.lsy.parted ∧ (h.pairOpen detail).rd LSY_PAIR_STAT_detail = detail ∧
      (h.pairOpen detail).rd LSY_PAIR_STAT_disagreements =
        satInc (2 ^ LSY_PAIR_STAT_disagreements.width - 1) (h.rd LSY_PAIR_STAT_disagreements) := by
  obtain ⟨wards, heq⟩ := pairOpen_eq detail hh
  have x := event_moves (h.pairOpened detail) 37 wards detail
  rw [heq]
  exact ⟨(x.keeps .lsy).trans (lsy_pairOpened h detail), (x.rd LSY_PAIR_STAT_detail 0 0).trans (detail_pairOpened h hd),
    (x.rd LSY_PAIR_STAT_disagreements 0 0).trans (disagreements_pairOpened h detail)⟩

/-- What Luanen sync keeps of the neighbours while the pair opens or closes: that one is there, and the partner's heartbeats. -/
def Lsy.heard (l : Lsy) : Bool × Option Nat × Nat := (l.present, l.hb, l.run3)

theorem heard_lsySend (h : Hub) (f : LFrame) : (h.lsySend f).lsy.heard = h.lsy.heard := by
  unfold Hub.lsySend
  dsimp only
  split
  · rfl
  · split
    · split
      · rfl
      · rfl
    · rfl

theorem lsy_pairSchedule (h : Hub) (t : Nat) :
    (h.pairSchedule t).lsy = { h.lsy with closeAt := some t, closeAdmitted := false, closePast := false } :=
  (submit_moves _ _).keeps .lsy

theorem heard_pairTry (h : Hub) : h.pairTry.lsy.heard = h.lsy.heard := by
  have hsched (f : LFrame) (t : Nat) : ((h.lsySend f).pairSchedule t).lsy.heard = h.lsy.heard := by
    rw [lsy_pairSchedule]
    exact heard_lsySend h f
  refine (apply_ite (fun k : Hub => k.lsy.heard) _ _ _).trans ?_
  rw [hsched, ite_self]

theorem heard_pairOpen (h : Hub) (detail : Nat) : (h.pairOpen detail).lsy.heard = h.lsy.heard := by
  cases hh : h.proofHides 37 16 with
  | true => rw [pairOpen_hidden detail hh]
  | false =>
    obtain ⟨wards, heq⟩ := pairOpen_eq detail hh
    rw [heq, (event_moves _ _ _ _).keeps .lsy, lsy_pairOpened]
    rfl

end Sys2Proof.Machine

/-!
PROOF. The partner's heartbeat (R343), and the chain that breaks and comes back (R337).
-/

namespace Sys2Proof.Machine

set_option Elab.async false

/-! ### A heartbeat -/

/-- The hub once it has taken the partner's heartbeat. -/
def Hub.hbTaken (h : Hub) (v : Nat) : Hub :=
  let h := h.modLsy (fun x => { x with
    hb := some v, hbAt := some h.clk.now, run3 := if bitOf v 25 && !bitOf v 26 then x.run3 + 1 else 0
    run4 := if !bitOf v 25 && bitOf v 26 && x.pairOn then x.run4 + 1 else 0 })
  ((h.put LSY_PAIR_STAT_partner_ok true).wr LSY_PAIR_STAT_partner_cnt (bitsOf v 16 8)).put LSY_PAIR_STAT_closed
    (bitOf v 25 && h.flag OUT_STAT_sw_on (h.rd LSY_PAIR_ch))

/-- The hub commands its own channel of the pair off, as its partner does (R343). -/
def Hub.followOff (h : Hub) (c : Nat) : Hub := ((h.put OUT_CTRL_on false c).ownCommand c false).wr LSY_PAIR_STAT_detail 0

theorem recvPairHb_wrong {h : Hub} {up : Bool} {v : Nat}
    (hw : (bitsOf v 8 8 == h.rd LSY_PAIR_id && bitsOf v 27 5 == (if up then h.lsyPos - 1 else h.lsyPos + 1)) = false) :
    h.recvPairHb up v = h.pairOpen 5 := by
  refine if_pos ?_
  rw [bne, bne, ← Bool.not_and, hw]
  rfl

theorem recvPairHb_taken {h : Hub} {up : Bool} {v : Nat}
    (hw : (bitsOf v 8 8 == h.rd LSY_PAIR_id && bitsOf v 27 5 == (if up then h.lsyPos - 1 else h.lsyPos + 1)) = true) :
    h.recvPairHb up v =
      if h.flag OUT_CTRL_on (h.rd LSY_PAIR_ch) && !bitOf v 26 && (h.lsy.pairOn || h.lsy.closeAt.isSome) then
        (h.hbTaken v).followOff (h.rd LSY_PAIR_ch)
      else if bitOf v 24 then (if h.flag OUT_CTRL_on (h.rd LSY_PAIR_ch) then (h.hbTaken v).pairOpen 2 else h.hbTaken v)
      else if 2 ≤ (h.hbTaken v).lsy.run3 then (h.hbTaken v).pairOpen 3
      else if 2 ≤ (h.hbTaken v).lsy.run4 then (h.hbTaken v).pairOpen 4
      else (h.hbTaken v).pairTry := by
  refine if_neg ?_
  rw [bne, bne, ← Bool.not_and, hw]
  exact Bool.false_ne_true

theorem ownCommand_pairOff {h : Hub} {c : Nat} (hp : h.isPairCh c = true) :
    h.ownCommand c false = (h.pairCancel.cancelCh c false).command [c] 0 true := by
  unfold Hub.ownCommand
  dsimp only
  rw [hp, Bool.and_false, if_neg Bool.false_ne_true, if_pos rfl]

theorem hbTaken_foot (h : Hub) (v : Nat) :
    Moves ⟨[.lsy], [LSY_PAIR_STAT_partner_ok, LSY_PAIR_STAT_partner_cnt, LSY_PAIR_STAT_closed], []⟩ h (h.hbTaken v) :=
  ((((Moves.refl _ h).to (modLsy_moves _ _)).put _ _ _ _).wr _ _ _ _).put _ _ _ _

/-- The channel of a pair that is enabled is the pair's, once the heartbeat has been taken. -/
theorem isPairCh_hbTaken {h : Hub} (v : Nat) (hen : h.flag LSY_PAIR_en = true) :
    ((h.hbTaken v).put OUT_CTRL_on false (h.rd LSY_PAIR_ch)).isPairCh (h.rd LSY_PAIR_ch) = true := by
  have x := (hbTaken_foot h v)
  rw [Hub.isPairCh, Hub.flag_put_apart _ _ _ _ _ _ (by decide), Hub.rd_put_apart _ _ _ _ _ _ (by decide), x.flag LSY_PAIR_en 0 0,
    x.rd LSY_PAIR_ch 0 0, hen, beq_self_eq_true]
  rfl

theorem followOff_spec {h : Hub} {c : Nat} (hc : c < 16) (hp : (h.put OUT_CTRL_on false c).isPairCh c = true) :
    Moves pairFoot h (h.followOff c) ∧ (h.followOff c).lsy = h.lsy.parted ∧ (h.followOff c).flag OUT_CTRL_on c = false ∧
      (h.followOff c).rd LSY_PAIR_STAT_detail = 0 := by
  have hoff : Moves pairFoot h (h.put OUT_CTRL_on false c) := (Moves.refl _ h).put _ _ _ _ hc
  have hcancel := (cancelCh_pair (h.put OUT_CTRL_on false c).pairCancel false hc)
  have hown := command_moves ((h.put OUT_CTRL_on false c).pairCancel.cancelCh c false) [c] 0 true
  have hkept : Moves ⟨[.sch, .lsy, .outs, .hinge], [SCH_STAT_queued, LSY_PAIR_STAT_close_sched, OUT_STAT_pending], []⟩
      (h.put OUT_CTRL_on false c) (((h.put OUT_CTRL_on false c).pairCancel.cancelCh c false).command [c] 0 true) :=
    ((((((Moves.refl _ _).to (dropCand_moves _ _)).sch_lsy _ _).put _ _ _ _).to (dropCand_moves _ _)).to (modOut_moves _ _ _)
      |>.put _ _ _ _ hc).to (command_moves _ _ _ _)
  rw [Hub.followOff, ownCommand_pairOff hp]
  refine ⟨(((hoff.to (pairCancel_pair _)).to hcancel).to hown).wr _ _ _ _, ?_, ?_, Hub.rd_wr_of_lt _ 0 0 (by decide)⟩
  · have hlsy := ((Moves.refl ⟨[.outs, .sch, .regs, .hinge], [], []⟩ (h.put OUT_CTRL_on false c).pairCancel).to
      (cancelCh_moves _ c false)).to (command_moves _ [c] 0 true)
    exact hlsy.keeps .lsy
  · rw [Hub.flag_wr_apart _ _ _ _ _ _ (by decide), hkept.flag OUT_CTRL_on c 0 hc, Hub.flag_put_self _ _ _ _ _ rfl]

/-- What a heartbeat that is taken leaves of what the hub keeps of its partner. -/
theorem recvPairHb_keeps {h : Hub} {up : Bool} {v : Nat} (hen : h.flag LSY_PAIR_en = true)
    (hw : (bitsOf v 8 8 == h.rd LSY_PAIR_id && bitsOf v 27 5 == (if up then h.lsyPos - 1 else h.lsyPos + 1)) = true) :
    Moves pairFoot (h.hbTaken v) (h.recvPairHb up v) ∧ (h.recvPairHb up v).lsy.heard = (h.hbTaken v).lsy.heard := by
  rw [recvPairHb_taken hw]
  obtain ⟨hfoot, hlsy, -, -⟩ := followOff_spec (pairCh_lt h) (isPairCh_hbTaken v hen)
  have hopen (d : Nat) := And.intro (pairOpen_pair (h.hbTaken v) d) (heard_pairOpen (h.hbTaken v) d)
  split
  · exact ⟨hfoot, by rw [hlsy]; rfl⟩
  · split
    · split
      · exact hopen 2
      · exact ⟨.refl _ _, rfl⟩
    · split
      · exact hopen 3
      · split
        · exact hopen 4
        · exact ⟨pairTry_pair _, heard_pairTry _⟩

end Sys2Proof.Machine

/-!
PROOF. The broken chain (R337): what each of its commands leaves.
-/

namespace Sys2Proof.Machine

set_option Elab.async false

/-- A command of Luanen that finds nothing to do leaves the hub. -/
theorem completes_onLsy_idle {c : Instr} {s : State} {f : Hub → Hub} (hx : exec c s = s.onLsy f) (hidle : f s.hub.begun = s.hub.begun) :
    Completes c s (fun h => h.lsy = s.hub.lsy ∧ h.regs = s.hub.regs) := by
  refine completes_of_begun (hx.trans rfl) ?_
  rw [hidle, ite_self]
  exact ⟨rfl, rfl⟩

@[simp] theorem flag_modLsy (h : Hub) (g : Lsy → Lsy) (f : Fld) (i w : Nat) : (h.modLsy g).flag f i w = h.flag f i w := rfl

/-! ### The upstream side -/

/-- The hub out of the chain, before the loss is a fault (R337). -/
def Hub.outOfChain (h : Hub) : Hub :=
  let h := ((h.put LSY_STAT_up_ok false).put LSY_STAT_pos_valid false).put LSY_STAT_aligned false
  (h.put LSY_STAT_calibrating false).modLsy (fun x => { x with
    lost := true, pulses := 0, seenAt := none, fwd := [], outFwd := [], pulseAt := none, calPer := none, joined := false, needCal := true, newD := none, timeLo := none, timeHi := none })

theorem outOfChain_flags (h : Hub) : h.outOfChain.flag LSY_STAT_up_ok = false ∧ h.outOfChain.flag LSY_STAT_aligned = false ∧
    h.outOfChain.flag LSY_STAT_pos_valid = false ∧ h.outOfChain.flag LSY_STAT_calibrating = false := by
  refine ⟨?_, ?_, ?_, ?_⟩
  all_goals simp (disch := decide) [Hub.outOfChain]

theorem upstreamLost_runs (s : State) (hcan : Can.upstreamLost s = true) : Completes (.upstreamLost) s (fun h =>
    h.lsy.lost = true ∧ h.lsy.pulses = 0 ∧ h.flag LSY_STAT_up_ok = false ∧ h.flag LSY_STAT_aligned = false ∧ h.flag LSY_STAT_pos_valid = false ∧ h.flag LSY_STAT_calibrating = false ∧ h.lsy.fwd = [] ∧ h.lsy.outFwd = [] ∧ h.lsy.calPer = none ∧ h.lsy.joined = false ∧ h.lsy.needCal = true ∧ h.lsy.newD = none ∧ (s.hub.proofHides 33 18 = false → caused h 33 18 = true)) := by
  simp only [Can.upstreamLost, Bool.and_eq_true, Bool.not_eq_true'] at hcan
  obtain ⟨⟨⟨⟨hon, htest⟩, hhead⟩, hlost⟩, hlate⟩ := hcan
  have hgo : (s.hub.begun.isHead || s.hub.begun.lsy.lost || !s.hub.begun.threePeriods s.hub.begun.lsy.pulseAt 200) = false := by
    rw [show s.hub.begun.isHead = false from hhead, show s.hub.begun.lsy.lost = false from hlost,
      show s.hub.begun.threePeriods s.hub.begun.lsy.pulseAt 200 = true from hlate]
    rfl
  refine completes_onLsy (exec_upstreamLost s) hon htest ?_
  rw [hgo, if_neg Bool.false_ne_true]
  have x := raise_moves s.hub.begun.outOfChain 33 18 1 detailOpen
  have hlsy : (s.hub.begun.outOfChain.raise 33 18 1 detailOpen).lsy = s.hub.begun.outOfChain.lsy := x.keeps .lsy
  obtain ⟨hup, haligned, hpos, hcal⟩ := outOfChain_flags s.hub.begun
  show (s.hub.begun.outOfChain.raise 33 18 1 detailOpen).lsy.lost = true ∧ _
  refine ⟨congrArg Lsy.lost hlsy, congrArg Lsy.pulses hlsy, (x.flag LSY_STAT_up_ok 0 0).trans hup, (x.flag LSY_STAT_aligned 0 0).trans haligned,
    (x.flag LSY_STAT_pos_valid 0 0).trans hpos, (x.flag LSY_STAT_calibrating 0 0).trans hcal, congrArg Lsy.fwd hlsy, congrArg Lsy.outFwd hlsy,
    congrArg Lsy.calPer hlsy, congrArg Lsy.joined hlsy, congrArg Lsy.needCal hlsy, congrArg Lsy.newD hlsy,
    fun hshown => caused_raise_self 1 detailOpen (by decide) hshown⟩

theorem chainResumed_runs (s : State) (hcan : Can.chainResumed s = true) : Completes (.chainResumed) s (fun h =>
    h.lsy.lost = false ∧ h.flag LSY_STAT_up_ok = true ∧ caused h 33 18 = false) := by
  simp only [Can.chainResumed, Bool.and_eq_true, decide_eq_true_eq] at hcan
  obtain ⟨⟨⟨hon, htest⟩, hlost⟩, hpulses⟩ := hcan
  refine completes_onLsy (exec_chainResumed s) hon htest ?_
  rw [if_pos (by exact Bool.and_eq_true_iff.mpr ⟨hlost, decide_eq_true hpulses⟩)]
  refine ⟨rfl, ?_, ?_⟩
  · rw [(lower_moves _ _ _).flag LSY_STAT_up_ok 0 0, Hub.flag_put_self _ _ _ _ _ rfl]
  · rw [caused_lower (by decide)]
    exact Bool.and_false _

/-! ### The downstream side -/

/-- The hub without its downstream neighbour. -/
def Hub.deaf (h : Hub) : Hub := (h.put LSY_STAT_dn_ok false).modLsy (fun x => { x with presents := 0, present := false })

/-- The hub without its downstream neighbour, before the loss is a fault: a member reports it upstream (R337). -/
def Hub.alone (h : Hub) : Hub := if h.deaf.isHead then h.deaf else h.deaf.lsyReturn { cmd := 0x41, payload := h.deaf.lsyPos }

theorem deaf_foot (h : Hub) : Moves ⟨[.lsy], [LSY_STAT_dn_ok], []⟩ h h.deaf := ((Moves.refl _ h).put _ _ _ _).to (modLsy_moves _ _)

theorem alone_spec (h : Hub) : h.alone.flag LSY_STAT_dn_ok = false ∧ h.alone.lsy.presents = 0 ∧
    (h.isHead = false → h.alone.lsy.ret.contains { cmd := 0x41, payload := h.lsyPos } = true) ∧
    (h.isHead = true → h.alone.lsy.ret = h.lsy.ret) := by
  have hhead : h.deaf.isHead = h.isHead := (deaf_foot h).flag LSY_CFG_head 0 0
  have hpos : h.deaf.lsyPos = h.lsyPos := by
    unfold Hub.lsyPos
    rw [hhead, (deaf_foot h).rd LSY_STAT_pos 0 0]
  have hdn : h.deaf.flag LSY_STAT_dn_ok = false := by rw [Hub.deaf, flag_modLsy, Hub.flag_put_self _ _ _ _ _ rfl]
  unfold Hub.alone
  rw [hhead, hpos]
  refine ⟨?_, ?_, fun hm => ?_, fun hm => ?_⟩
  · split
    · exact hdn
    · exact hdn
  · split
    · rfl
    · rfl
  · rw [hm, if_neg Bool.false_ne_true]
    exact contains_lsyReturn _ _
  · rw [hm, if_pos rfl]
    rfl

theorem alone_hides (h : Hub) (n res : Nat) : h.alone.proofHides n res = h.proofHides n res := by
  unfold Hub.alone
  split
  · rfl
  · rfl

theorem downstreamLost_runs (s : State) (hcan : Can.downstreamLost s = true) : Completes (.downstreamLost) s (fun h =>
    h.flag LSY_STAT_dn_ok = false ∧ h.lsy.presents = 0 ∧ (s.hub.proofHides 33 19 = false → caused h 33 19 = true) ∧ (s.hub.isHead = false → h.lsy.ret.contains { cmd := 0x41, payload := s.hub.lsyPos } = true) ∧ (s.hub.isHead = true → h.lsy.ret = s.hub.lsy.ret)) := by
  simp only [Can.downstreamLost, Bool.and_eq_true, Bool.not_eq_true'] at hcan
  obtain ⟨⟨⟨hon, htest⟩, htail⟩, hlate⟩ := hcan
  have hgo : (s.hub.begun.isTail || !s.hub.begun.threePeriods s.hub.begun.lsy.slotAt 0) = false := by
    rw [show s.hub.begun.isTail = false from htail, show s.hub.begun.threePeriods s.hub.begun.lsy.slotAt 0 = true from hlate]
    rfl
  refine completes_onLsy (exec_downstreamLost s) hon htest ?_
  rw [hgo, if_neg Bool.false_ne_true]
  have x := raise_moves s.hub.begun.alone 33 19 1 detailOpen
  have hlsy : (s.hub.begun.alone.raise 33 19 1 detailOpen).lsy = s.hub.begun.alone.lsy := x.keeps .lsy
  obtain ⟨hdn, hpresents, hmember, hhead⟩ := alone_spec s.hub.begun
  refine ⟨(x.flag LSY_STAT_dn_ok 0 0).trans hdn, (congrArg Lsy.presents hlsy).trans hpresents, fun hshown => ?_, fun hm => ?_, fun hm => ?_⟩
  · exact caused_raise_self 1 detailOpen (by decide) ((alone_hides s.hub.begun 33 19).trans hshown)
  · exact (congrArg (fun l : Lsy => l.ret.contains _) hlsy).trans (hmember hm)
  · exact (congrArg Lsy.ret hlsy).trans (hhead hm)

end Sys2Proof.Machine

/-!
PROOF. Heartbeats and closes of the pair, and the obligation.
-/

namespace Sys2Proof.Machine

set_option Elab.async false

/-! ### Heartbeats -/

section
variable (s : State) (up : Bool) (v : Word)

theorem slotOneCame_spec (h : Hub) : h.slotOneCame.flag LSY_STAT_dn_ok = true ∧ h.slotOneCame.lsy.present = true ∧
    caused h.slotOneCame 33 19 = false ∧ h.slotOneCame.lsy.hb = h.lsy.hb := by
  refine ⟨Hub.flag_put_self h LSY_STAT_dn_ok true 0 0 rfl, rfl, ?_, rfl⟩
  exact (caused_lower (h := h.put LSY_STAT_dn_ok true) (by decide) 19 19).trans (Bool.and_false _)

theorem slotOneCame_foot (h : Hub) : Moves ⟨[.flt, .lsy], [LSY_STAT_dn_ok], []⟩ h h.slotOneCame :=
  (((Moves.refl _ h).put _ _ _ _).to (lower_moves _ _ _)).to (modLsy_moves _ _)

theorem pairOpen_sameSignals (h : Hub) (detail : Nat) : SameSignals h (h.pairOpen detail) := by
  cases hh : h.proofHides 37 16 with
  | true =>
    rw [pairOpen_hidden detail hh]
    exact .refl h
  | false =>
    obtain ⟨wards, heq⟩ := pairOpen_eq detail hh
    rw [heq]
    refine SameSignals.trans (Moves.sameSignals (F := ⟨[.regs, .lsy, .sch, .hinge, .outs, .tmbs, .ints, .pins], [], []⟩) ?_)
      (event_sameSignals _ _ _ _)
    have hsafe := ((Moves.refl ⟨[.regs, .lsy, .sch, .hinge, .outs, .tmbs, .ints, .pins], [], []⟩ h).to (pairCancel_moves h)).to
      (sendSafe_movesAny _ [h.rd LSY_PAIR_ch])
    have hdetail := hsafe.wrAny LSY_PAIR_STAT_detail detail 0 0
    exact (Moves.ite (hdetail.putAny OUT_CTRL_on _ _ _) hdetail).countAny _ _ _ _

theorem recvPairHb_sameSignals (h : Hub) (up : Bool) (v : Nat) : SameSignals h (h.recvPairHb up v) := by
  have htaken : SameSignals h (h.hbTaken v) := rfl
  have hoff (c : Nat) : SameSignals h ((h.hbTaken v).followOff c) := by
    refine htaken.trans (Moves.sameSignals (F := ⟨[.regs, .hinge, .outs, .sch, .lsy], [], []⟩) ?_)
    exact (((Moves.refl _ _).putAny _ _ _ _).to (ownCommand_moves _ _ _)).wrAny _ _ _ _
  have hopen (d : Nat) : SameSignals h ((h.hbTaken v).pairOpen d) := htaken.trans (pairOpen_sameSignals _ d)
  cases hw : bitsOf v 8 8 == h.rd LSY_PAIR_id && bitsOf v 27 5 == (if up then h.lsyPos - 1 else h.lsyPos + 1) with
  | false =>
    rw [recvPairHb_wrong hw]
    exact pairOpen_sameSignals h 5
  | true =>
    rw [recvPairHb_taken hw]
    exact .ite (hoff _) (.ite (.ite (hopen 2) htaken) (.ite (hopen 3) (.ite (hopen 4) (htaken.to (pairTry_moves _)))))

theorem recvPairHb_present {h : Hub} (up : Bool) (v : Nat) (hen : h.flag LSY_PAIR_en = true) :
    (h.recvPairHb up v).flag LSY_STAT_dn_ok = h.flag LSY_STAT_dn_ok ∧ (h.recvPairHb up v).lsy.present = h.lsy.present := by
  cases hw : bitsOf v 8 8 == h.rd LSY_PAIR_id && bitsOf v 27 5 == (if up then h.lsyPos - 1 else h.lsyPos + 1) with
  | false =>
    rw [recvPairHb_wrong hw]
    exact ⟨(pairOpen_pair h 5).flag LSY_STAT_dn_ok 0 0, congrArg Prod.fst (heard_pairOpen h 5)⟩
  | true =>
    obtain ⟨hfoot, hheard⟩ := recvPairHb_keeps hen hw
    exact ⟨(hfoot.flag LSY_STAT_dn_ok 0 0).trans ((hbTaken_foot h v).flag LSY_STAT_dn_ok 0 0), congrArg Prod.fst hheard⟩

theorem hb_counts (hcan : Can.hb up v s = true) : Completes (.hb up v) s (fun h =>
    h.flag LSY_STAT_dn_ok = true ∧ h.lsy.present = true ∧ caused h 33 19 = false ∧ (s.hub.flag LSY_PAIR_en = false → h.lsy.hb = s.hub.lsy.hb)) := by
  simp only [Can.hb, Bool.and_eq_true, Bool.not_eq_true'] at hcan
  obtain ⟨⟨hon, htest⟩, rfl⟩ := hcan
  refine completes_onLsy (exec_hb false v s) hon htest ?_
  rw [Bool.false_and, if_neg Bool.false_ne_true, Hub.recvLsyHb, if_neg Bool.false_ne_true]
  obtain ⟨hdn, hpresent, hcause, hhb⟩ := slotOneCame_spec s.hub.begun
  have hen : s.hub.begun.slotOneCame.flag LSY_PAIR_en = s.hub.flag LSY_PAIR_en := (slotOneCame_foot s.hub.begun).flag LSY_PAIR_en 0 0
  split
  case isTrue hpair =>
    obtain ⟨hpairs, -⟩ := Bool.and_eq_true_iff.mp hpair
    obtain ⟨hflag, hkept⟩ := recvPairHb_present false v.toNat hpairs
    exact ⟨hflag.trans hdn, hkept.trans hpresent, ((recvPairHb_sameSignals _ _ _).caused 33 19).trans hcause,
      fun hoff => absurd (hpairs.symm.trans (hen.trans hoff)) (by decide)⟩
  case isFalse => exact ⟨hdn, hpresent, hcause, fun _ => hhb⟩

/-- The hub to which a heartbeat comes: one from downstream counts as the neighbour's frame first. -/
def Hub.hbFrom (h : Hub) (up : Bool) : Hub := if up then h else h.slotOneCame

theorem hbFrom_foot (h : Hub) (up : Bool) : Moves ⟨[.flt, .lsy], [LSY_STAT_dn_ok], []⟩ h (h.hbFrom up) :=
  .ite (Moves.refl _ h) (slotOneCame_foot h)

/-- What of Luanen sync a heartbeat's judgement looks at. -/
def Lsy.judged (l : Lsy) : Bool × Option Nat × Nat × Nat × Option Nat := (l.pairOn, l.closeAt, l.run3, l.run4, l.hb)

theorem judged_hbFrom (h : Hub) (up : Bool) : (h.hbFrom up).lsy.judged = h.lsy.judged := by
  unfold Hub.hbFrom
  split
  · rfl
  · rfl

theorem hides_hbFrom (h : Hub) (up : Bool) (n res : Nat) : (h.hbFrom up).proofHides n res = h.proofHides n res := by
  unfold Hub.hbFrom
  split
  · rfl
  · rfl

theorem lsyPos_hbFrom (h : Hub) (up : Bool) : (h.hbFrom up).lsyPos = h.lsyPos := by
  unfold Hub.lsyPos
  rw [show (h.hbFrom up).isHead = h.isHead from (hbFrom_foot h up).flag LSY_CFG_head 0 0, (hbFrom_foot h up).rd LSY_STAT_pos 0 0]

/-- The heartbeat is the partner's: it has the pair's number and comes from the partner's position. -/
def Hub.hbOwn (h : Hub) (up : Bool) (v : Nat) : Bool :=
  bitsOf v 8 8 == h.rd LSY_PAIR_id && bitsOf v 27 5 == (if up then h.lsyPos - 1 else h.lsyPos + 1)

theorem hbOwn_hbFrom (h : Hub) (up : Bool) (v : Nat) : (h.hbFrom up).hbOwn up v = h.hbOwn up v := by
  rw [Hub.hbOwn, Hub.hbOwn, lsyPos_hbFrom, (hbFrom_foot h up).rd LSY_PAIR_id 0 0]

/-- A heartbeat from the side of the partner is judged. -/
theorem completes_hb {P : Hub → Prop} (hon : s.hub.lsyOn = true) (htest : (s.hub.testGroup != 2) = true)
    (hside : (!up || (!s.hub.isHead && !s.hub.lsy.lost)) = true) (hen : s.hub.flag LSY_PAIR_en = true)
    (hpartner : (s.hub.flag LSY_PAIR_partner == !up) = true) (hp : P ((s.hub.begun.hbFrom up).recvPairHb up v.toNat)) :
    Completes (.hb up v) s P := by
  refine completes_onLsy (exec_hb up v s) hon htest ?_
  have hgo : (up && (s.hub.begun.isHead || s.hub.begun.lsy.lost)) = false := by
    rw [← Bool.not_eq_true', Bool.not_and, Bool.not_or]
    exact hside
  have hpair : ((s.hub.begun.hbFrom up).flag LSY_PAIR_en && (s.hub.begun.hbFrom up).flag LSY_PAIR_partner == !up) = true := by
    rw [(hbFrom_foot s.hub.begun up).flag LSY_PAIR_en 0 0, (hbFrom_foot s.hub.begun up).flag LSY_PAIR_partner 0 0]
    exact Bool.and_eq_true_iff.mpr ⟨hen, hpartner⟩
  rw [hgo, if_neg Bool.false_ne_true, Hub.recvLsyHb]
  exact (congrArg P (if_pos hpair)).mpr hp

end

end Sys2Proof.Machine

/-!
PROOF. What the partner's heartbeats and the instants of a close do to the pair, and the obligation.
-/

namespace Sys2Proof.Machine

set_option Elab.async false

theorem hbTaken_shows (h : Hub) (v : Nat) : (h.hbTaken v).flag LSY_PAIR_STAT_partner_ok = true ∧
    (h.hbTaken v).rd LSY_PAIR_STAT_partner_cnt = bitsOf v 16 8 ∧
    (h.hbTaken v).flag LSY_PAIR_STAT_closed = (bitOf v 25 && h.flag OUT_STAT_sw_on (h.rd LSY_PAIR_ch)) := by
  refine ⟨?_, ?_, Hub.flag_put_self _ _ _ _ _ rfl⟩
  · rw [Hub.hbTaken, Hub.flag_put_apart _ _ _ _ _ _ (by decide), Hub.flag_wr_apart _ _ _ _ _ _ (by decide), Hub.flag_put_self _ _ _ _ _ rfl]
  · rw [Hub.hbTaken, Hub.rd_put_apart _ _ _ _ _ _ (by decide), Hub.rd_wr_of_lt _ 0 0 (by exact Nat.mod_lt _ (by decide))]

section
variable (s : State) (up : Bool) (v : Word)

theorem hb_taken (hcan : Can.hb2 up v s = true) : Completes (.hb up v) s (fun h =>
    h.flag LSY_PAIR_STAT_partner_ok = true ∧ h.rd LSY_PAIR_STAT_partner_cnt = bitsOf v.toNat 16 8 ∧ h.flag LSY_PAIR_STAT_closed = (v.getLsbD 25 && s.hub.flag OUT_STAT_sw_on (s.hub.rd LSY_PAIR_ch)) ∧ h.lsy.hb = some v.toNat ∧ h.lsy.run3 = (if v.getLsbD 25 && !v.getLsbD 26 then s.hub.lsy.run3 + 1 else 0)) := by
  simp only [Can.hb2, Bool.and_eq_true] at hcan
  obtain ⟨⟨⟨⟨⟨⟨⟨hon, htest⟩, hside⟩, hen⟩, hpartner⟩, hid⟩, hpos⟩, -⟩ := hcan
  refine completes_hb s up v hon htest hside hen hpartner ?_
  have x := hbFrom_foot s.hub.begun up
  have hown := (hbOwn_hbFrom s.hub.begun up v.toNat).trans (Bool.and_eq_true_iff.mpr ⟨hid, hpos⟩)
  obtain ⟨hfoot, hheard⟩ := recvPairHb_keeps ((x.flag LSY_PAIR_en 0 0).trans hen) hown
  obtain ⟨hok, hcnt, hclosed⟩ := hbTaken_shows (s.hub.begun.hbFrom up) v.toNat
  have hjudged := judged_hbFrom s.hub.begun up
  simp only [Lsy.judged, Prod.mk.injEq] at hjudged
  obtain ⟨-, -, hrun, -, -⟩ := hjudged
  simp only [Lsy.heard, Prod.mk.injEq] at hheard
  obtain ⟨-, hhb, hrun3⟩ := hheard
  refine ⟨(hfoot.flag _ 0 0).trans hok, (hfoot.rd _ 0 0).trans hcnt, ?_, hhb, hrun3.trans ?_⟩
  · rw [hfoot.flag LSY_PAIR_STAT_closed 0 0, hclosed, x.rd LSY_PAIR_ch 0 0, x.flag OUT_STAT_sw_on _ 0 (pairCh_lt _)]
    rfl
  · exact congrArg (fun n : Nat => if v.getLsbD 25 && !v.getLsbD 26 then n + 1 else 0) hrun

theorem hb_wrong (hcan : Can.hb3 up v s = true) : Completes (.hb up v) s (fun h =>
    h.rd LSY_PAIR_STAT_detail = 5 ∧ h.lsy.pairOn = false ∧ h.lsy.closeAt = none ∧ h.rd LSY_PAIR_STAT_disagreements = satInc (2 ^ LSY_PAIR_STAT_disagreements.width - 1) (s.hub.rd LSY_PAIR_STAT_disagreements)) := by
  simp only [Can.hb3, Bool.and_eq_true, Bool.not_eq_true'] at hcan
  obtain ⟨⟨⟨⟨⟨⟨hon, htest⟩, hside⟩, hen⟩, hpartner⟩, hwrong⟩, hshown⟩ := hcan
  refine completes_hb s up v hon htest ?_ hen ?_ ?_
  · simpa using hside
  · simpa using hpartner
  rw [recvPairHb_wrong ((hbOwn_hbFrom s.hub.begun up v.toNat).trans hwrong)]
  obtain ⟨hlsy, hdetail, hcount⟩ := pairOpen_spec (detail := 5) (by decide) ((hides_hbFrom s.hub.begun up 37 16).trans hshown)
  rw [(hbFrom_foot s.hub.begun up).rd LSY_PAIR_STAT_disagreements 0 0] at hcount
  exact ⟨hdetail, congrArg Lsy.pairOn hlsy, congrArg Lsy.closeAt hlsy, hcount⟩

theorem hb_safe (hcan : Can.hb4 up v s = true) : Completes (.hb up v) s (fun h =>
    h.rd LSY_PAIR_STAT_detail = 2 ∧ h.lsy.pairOn = false ∧ h.lsy.closeAt = none) := by
  simp only [Can.hb4, Bool.and_eq_true] at hcan
  obtain ⟨⟨⟨⟨⟨⟨⟨⟨⟨⟨hon, htest⟩, hside⟩, hen⟩, hpartner⟩, hid⟩, hpos⟩, hsafe⟩, hcmd⟩, hstay⟩, hshown⟩ := hcan
  refine completes_hb s up v hon htest hside hen hpartner ?_
  have x := hbFrom_foot s.hub.begun up
  have hjudged := judged_hbFrom s.hub.begun up
  simp only [Lsy.judged, Prod.mk.injEq] at hjudged
  obtain ⟨hpairOn, hcloseAt, -⟩ := hjudged
  have hown := (hbOwn_hbFrom s.hub.begun up v.toNat).trans (Bool.and_eq_true_iff.mpr ⟨hid, hpos⟩)
  have hcmds : (s.hub.begun.hbFrom up).flag OUT_CTRL_on ((s.hub.begun.hbFrom up).rd LSY_PAIR_ch) = true := by
    rw [x.rd LSY_PAIR_ch 0 0, x.flag OUT_CTRL_on _ 0 (pairCh_lt _)]
    exact hcmd
  have hnot : ((s.hub.begun.hbFrom up).flag OUT_CTRL_on ((s.hub.begun.hbFrom up).rd LSY_PAIR_ch) && !bitOf v.toNat 26 &&
      ((s.hub.begun.hbFrom up).lsy.pairOn || (s.hub.begun.hbFrom up).lsy.closeAt.isSome)) = false := by
    rw [hcmds, hpairOn, hcloseAt, Bool.true_and, ← Bool.not_eq_true', Bool.not_and, Bool.not_not]
    exact hstay
  rw [recvPairHb_taken hown, hnot, if_neg Bool.false_ne_true, if_pos (show bitOf v.toNat 24 = true from hsafe), if_pos hcmds]
  obtain ⟨hlsy, hdetail, -⟩ := pairOpen_spec (h := (s.hub.begun.hbFrom up).hbTaken v.toNat) (detail := 2) (by decide)
    ((hides_hbFrom s.hub.begun up 37 16).trans (Eq.mp (Bool.not_eq_true' _) hshown))
  exact ⟨hdetail, congrArg Lsy.pairOn hlsy, congrArg Lsy.closeAt hlsy⟩

theorem hb_off (hcan : Can.hb5 up v s = true) : Completes (.hb up v) s (fun h =>
    h.flag OUT_CTRL_on (s.hub.rd LSY_PAIR_ch) = false ∧ h.lsy.pairOn = false ∧ h.lsy.closeAt = none ∧ h.rd LSY_PAIR_STAT_detail = 0) := by
  simp only [Can.hb5, Bool.and_eq_true] at hcan
  obtain ⟨⟨⟨⟨⟨⟨⟨⟨⟨hon, htest⟩, hside⟩, hen⟩, hpartner⟩, hid⟩, hpos⟩, hleaves⟩, hcmd⟩, hcloses⟩ := hcan
  refine completes_hb s up v hon htest hside hen hpartner ?_
  have x := hbFrom_foot s.hub.begun up
  have hch : (s.hub.begun.hbFrom up).rd LSY_PAIR_ch = s.hub.rd LSY_PAIR_ch := x.rd LSY_PAIR_ch 0 0
  have hjudged := judged_hbFrom s.hub.begun up
  simp only [Lsy.judged, Prod.mk.injEq] at hjudged
  obtain ⟨hpairOn, hcloseAt, -⟩ := hjudged
  have hown := (hbOwn_hbFrom s.hub.begun up v.toNat).trans (Bool.and_eq_true_iff.mpr ⟨hid, hpos⟩)
  have hgo : ((s.hub.begun.hbFrom up).flag OUT_CTRL_on ((s.hub.begun.hbFrom up).rd LSY_PAIR_ch) && !bitOf v.toNat 26 &&
      ((s.hub.begun.hbFrom up).lsy.pairOn || (s.hub.begun.hbFrom up).lsy.closeAt.isSome)) = true := by
    rw [hch, x.flag OUT_CTRL_on _ 0 (pairCh_lt _), hpairOn, hcloseAt]
    simp only [Bool.and_eq_true]
    exact ⟨⟨hcmd, hleaves⟩, hcloses⟩
  obtain ⟨-, hlsy, hflag, hdetail⟩ := followOff_spec (pairCh_lt (s.hub.begun.hbFrom up))
    (isPairCh_hbTaken v.toNat ((x.flag LSY_PAIR_en 0 0).trans hen))
  rw [recvPairHb_taken hown, if_pos hgo]
  rw [hch] at hflag hlsy hdetail ⊢
  exact ⟨hflag, congrArg Lsy.pairOn hlsy, congrArg Lsy.closeAt hlsy, hdetail⟩

end

/-! ### The instants of a close -/

/-- The hub without its partner's heartbeat. -/
def Hub.noPartner (h : Hub) : Hub :=
  (h.put LSY_PAIR_STAT_partner_ok false).modLsy (fun x => { x with hb := none, run3 := 0, run4 := 0 })

theorem pairHbTimeout_runs (s : State) (hcan : Can.pairHbTimeout s = true) : Completes (.pairHbTimeout) s (fun h =>
    h.flag LSY_PAIR_STAT_partner_ok = false ∧ h.lsy.hb = none ∧ h.lsy.run3 = 0 ∧ (s.hub.proofHides 37 16 = false → h.lsy.closeAt = none ∧ h.lsy.pairOn = false ∧ h.rd LSY_PAIR_STAT_detail = 1 ∧ h.rd LSY_PAIR_STAT_disagreements = satInc (2 ^ LSY_PAIR_STAT_disagreements.width - 1) (s.hub.rd LSY_PAIR_STAT_disagreements))) := by
  simp only [Can.pairHbTimeout, Bool.and_eq_true] at hcan
  obtain ⟨⟨⟨hon, htest⟩, hen⟩, hlate⟩ := hcan
  refine completes_onLsy (exec_pairHbTimeout s) hon htest ?_
  rw [if_pos (Bool.and_eq_true_iff.mpr ⟨by exact hen, by exact hlate⟩)]
  have hheard := heard_pairOpen s.hub.begun.noPartner 1
  simp only [Lsy.heard, Prod.mk.injEq] at hheard
  obtain ⟨-, hhb, hrun⟩ := hheard
  refine ⟨?_, hhb, hrun, fun hshown => ?_⟩
  · rw [(pairOpen_pair _ 1).flag LSY_PAIR_STAT_partner_ok 0 0, flag_modLsy, Hub.flag_put_self _ _ _ _ _ rfl]
  · obtain ⟨hlsy, hdetail, hcount⟩ := pairOpen_spec (h := s.hub.begun.noPartner) (detail := 1) (by decide) hshown
    have hbefore : s.hub.begun.noPartner.rd LSY_PAIR_STAT_disagreements = s.hub.rd LSY_PAIR_STAT_disagreements :=
      (((Moves.refl ⟨[.lsy], [LSY_PAIR_STAT_partner_ok], []⟩ s.hub.begun).put _ _ _ _).to (modLsy_moves _ _)).rd _ 0 0
    exact ⟨congrArg Lsy.closeAt hlsy, congrArg Lsy.pairOn hlsy, hdetail, by rw [← hbefore]; exact hcount⟩

/-- An instant ahead of the timebase by less than its low half's range keeps the low half that was asked for (R342). -/
theorem instant_low (tb v : Nat) (hv : v < 2 ^ 32) : (tb + (v + 2 ^ 32 - tb % 2 ^ 32) % 2 ^ 32) % 2 ^ 64 % 2 ^ 32 = v := by
  rw [Nat.mod_mod_of_dvd _ (by decide)]
  omega

theorem pairSchedule_shows (h : Hub) (t : Nat) : (h.pairSchedule t).flag LSY_PAIR_STAT_close_sched = true ∧
    (h.pairSchedule t).rd LSY_PAIR_T_t = t % 2 ^ 32 := by
  have hsub (k : Hub) (c : Cand) := submit_moves k c
  unfold Hub.pairSchedule
  refine ⟨?_, ?_⟩
  · rw [(hsub _ _).flag LSY_PAIR_STAT_close_sched 0 0, Hub.flag_wr_apart _ _ _ _ _ _ (by decide), Hub.flag_put_self _ _ _ _ _ rfl]
  · rw [(hsub _ _).rd LSY_PAIR_T_t 0 0, Hub.rd_wr_self]
    rfl

theorem pairClose_runs (s : State) (v : Word) (hcan : Can.pairClose v s = true) : Completes (.pairClose v) s (fun h =>
    h.flag LSY_PAIR_STAT_close_sched = true ∧ h.rd LSY_PAIR_T_t = v.toNat ∧ h.lsy.closeAt = some ((s.hub.clk.tb + (v.toNat + 2 ^ 32 - s.hub.clk.tb % 2 ^ 32) % 2 ^ 32) % 2 ^ 64) ∧ h.lsy.closePast = false ∧ h.lsy.closeAdmitted = false) := by
  simp only [Can.pairClose, Bool.and_eq_true] at hcan
  obtain ⟨⟨⟨⟨⟨⟨⟨hon, htest⟩, hen⟩, hfirst⟩, hlost⟩, haligned⟩, hcmd⟩, hhold⟩ := hcan
  refine completes_onLsy (exec_pairClose v s) hon htest ?_
  rw [if_pos (by
    simp only [Bool.and_eq_true]
    exact ⟨⟨⟨⟨⟨hen, hfirst⟩, hlost⟩, haligned⟩, hcmd⟩, hhold⟩)]
  obtain ⟨hsched, ht⟩ := pairSchedule_shows s.hub.begun ((s.hub.clk.tb + (v.toNat + 2 ^ 32 - s.hub.clk.tb % 2 ^ 32) % 2 ^ 32) % 2 ^ 64)
  rw [instant_low _ _ v.isLt] at ht
  have hlsy := lsy_pairSchedule s.hub.begun ((s.hub.clk.tb + (v.toNat + 2 ^ 32 - s.hub.clk.tb % 2 ^ 32) % 2 ^ 32) % 2 ^ 64)
  exact ⟨hsched, ht, congrArg Lsy.closeAt hlsy, congrArg Lsy.closePast hlsy, congrArg Lsy.closeAdmitted hlsy⟩

/-- The hub whose half of the pair turns on (R342). -/
def Hub.pairClosed (h : Hub) : Hub := (h.modLsy (fun x => { x with closePast := true, pairOn := true })).put LSY_PAIR_STAT_close_sched false

/-- What the instant of a close does to the pair (R342). -/
def Hub.pairInstant (h : Hub) : Hub :=
  match h.lsy.closeAt with
  | none => h
  | some t =>
    if h.lsy.closePast then h
    else if h.lsy.closeAdmitted then (if h.clk.tb < t then h else h.pairClosed.command [h.pairClosed.rd LSY_PAIR_ch] 1 false)
    else if h.clk.tb + 200 < t then h else h.pairOpen 6

theorem pairInstant_due {h : Hub} (hpast : h.lsy.closePast = false) (hadm : h.lsy.closeAdmitted = true)
    (hdue : h.lsy.closeAt.any (fun t => decide (t ≤ h.clk.tb)) = true) :
    h.pairInstant = h.pairClosed.command [h.pairClosed.rd LSY_PAIR_ch] 1 false := by
  simp only [Option.any_eq_true, decide_eq_true_eq] at hdue
  obtain ⟨t, ht, hle⟩ := hdue
  rw [Hub.pairInstant, ht]
  dsimp only
  rw [hpast, if_neg Bool.false_ne_true, if_pos hadm, if_neg (Nat.not_lt.mpr hle)]

theorem pairInstant_abandons {h : Hub} (hpast : h.lsy.closePast = false) (hadm : h.lsy.closeAdmitted = false)
    (hdue : h.lsy.closeAt.any (fun t => decide (t ≤ h.clk.tb + 200)) = true) : h.pairInstant = h.pairOpen 6 := by
  simp only [Option.any_eq_true, decide_eq_true_eq] at hdue
  obtain ⟨t, ht, hle⟩ := hdue
  rw [Hub.pairInstant, ht]
  dsimp only
  rw [hpast, if_neg Bool.false_ne_true, hadm, if_neg Bool.false_ne_true, if_neg (Nat.not_lt.mpr hle)]

theorem pairInstant_early {h : Hub} (hnot : (h.lsy.closePast || h.lsy.closeAt.all (fun t => decide (h.clk.tb + 200 < t))) = true) :
    h.pairInstant = h := by
  unfold Hub.pairInstant
  split
  · rfl
  · next t ht =>
    rw [ht, Option.all_some, Bool.or_eq_true, decide_eq_true_eq] at hnot
    rcases hnot with hpast | hearly
    · exact if_pos hpast
    · rw [if_pos (show h.clk.tb < t by omega), if_pos hearly, ite_self, ite_self]

theorem pairTurnOn_runs (s : State) (hcan : Can.pairTurnOn s = true) : Completes (.pairTurnOn) s (fun h =>
    h.lsy.closePast = true ∧ h.lsy.pairOn = true ∧ vget h.hinge.cmd (s.hub.rd LSY_PAIR_ch) 0 = 1 ∧ h.flag LSY_PAIR_STAT_close_sched = false) := by
  simp only [Can.pairTurnOn, Bool.and_eq_true, Bool.not_eq_true'] at hcan
  obtain ⟨⟨⟨⟨hon, htest⟩, hpast⟩, hadm⟩, hdue⟩ := hcan
  refine completes_onLsy (f := Hub.pairInstant) (exec_pairTurnOn s) hon htest ?_
  rw [pairInstant_due (h := s.hub.begun) hpast hadm hdue]
  have x := command_moves s.hub.begun.pairClosed [s.hub.begun.pairClosed.rd LSY_PAIR_ch] 1 false
  have hlsy : (s.hub.begun.pairClosed.command [s.hub.begun.pairClosed.rd LSY_PAIR_ch] 1 false).lsy = s.hub.begun.pairClosed.lsy := x.keeps .lsy
  have hch : s.hub.begun.pairClosed.rd LSY_PAIR_ch = s.hub.rd LSY_PAIR_ch :=
    (((Moves.refl ⟨[.lsy], [LSY_PAIR_STAT_close_sched], []⟩ s.hub.begun).to (modLsy_moves _ _)).put _ _ _ _).rd _ 0 0
  refine ⟨congrArg Lsy.closePast hlsy, congrArg Lsy.pairOn hlsy, ?_, ?_⟩
  · rw [hch]
    exact cmd_command_self _ 1 false (List.mem_singleton_self _) (pairCh_lt _)
  · rw [x.flag LSY_PAIR_STAT_close_sched 0 0]
    exact Hub.flag_put_self _ _ _ _ _ rfl

theorem close_sched_pairOpened (h : Hub) (detail : Nat) : (h.pairOpened detail).flag LSY_PAIR_STAT_close_sched = false := by
  have hcancel : h.pairCancel.flag LSY_PAIR_STAT_close_sched = false := Hub.flag_put_self _ _ _ _ _ rfl
  have hsafe := ((sendSafe_pairCh h.pairCancel (pairCh_lt h)).flag LSY_PAIR_STAT_close_sched 0 0).trans hcancel
  unfold Hub.pairOpened
  dsimp only
  rw [Hub.flag_count_apart _ _ _ _ _ _ (by decide)]
  split
  · rw [Hub.flag_put_apart _ _ _ _ _ _ (by decide), Hub.flag_wr_apart _ _ _ _ _ _ (by decide), hsafe]
  · rw [Hub.flag_wr_apart _ _ _ _ _ _ (by decide), hsafe]

theorem pairTurnOn_abandons (s : State) (hcan : Can.pairTurnOn2 s = true) : Completes (.pairTurnOn) s (fun h =>
    h.lsy.closeAt = none ∧ h.lsy.pairOn = false ∧ h.rd LSY_PAIR_STAT_detail = 6 ∧ h.flag LSY_PAIR_STAT_close_sched = false) := by
  simp only [Can.pairTurnOn2, Bool.and_eq_true, Bool.not_eq_true'] at hcan
  obtain ⟨⟨⟨⟨⟨hon, htest⟩, hpast⟩, hadm⟩, hdue⟩, hshown⟩ := hcan
  refine completes_onLsy (f := Hub.pairInstant) (exec_pairTurnOn s) hon htest ?_
  rw [pairInstant_abandons (h := s.hub.begun) hpast hadm hdue]
  obtain ⟨hlsy, hdetail, -⟩ := pairOpen_spec (h := s.hub.begun) (detail := 6) (by decide) hshown
  obtain ⟨wards, heq⟩ := pairOpen_eq (h := s.hub.begun) 6 hshown
  refine ⟨congrArg Lsy.closeAt hlsy, congrArg Lsy.pairOn hlsy, hdetail, ?_⟩
  rw [heq, (event_moves _ _ _ _).flag LSY_PAIR_STAT_close_sched 0 0, close_sched_pairOpened]

theorem length_lsyReturn (h : Hub) (f : LFrame) : (h.lsyReturn f).lsy.ret.length = h.lsy.ret.length + 1 := by
  have hsplit := congrArg List.length (List.takeWhile_append_dropWhile (p := fun g : LFrame => decide (g.cmd ≤ f.cmd)) (l := h.lsy.ret))
  simp only [Hub.lsyReturn, Hub.modLsy, List.length_append, List.length_cons] at hsplit ⊢
  omega

/-! ### The obligation -/

/-- Settles O23: each command leaves the chain or the pair as its clause says. -/
theorem pairCommands : Obligations.PairCommands := by
  unfold Obligations.PairCommands
  refine ⟨fun s v hcan => ?head, fun s v hcan => ?member, upstreamLost_runs, downstreamLost_runs, fun s hcan => ?tail, chainResumed_runs,
    fun s hcan => ?stays, hb_counts, hb_taken, hb_wrong, hb_safe, hb_off, fun s up v hcan => ?noUp, pairHbTimeout_runs, fun s hcan => ?noHb,
    pairClose_runs, fun s v hcan => ?noClose, pairTurnOn_runs, pairTurnOn_abandons, fun s hcan => ?early⟩
  case head =>
    simp only [Can.breakMsg, Bool.and_eq_true] at hcan
    obtain ⟨⟨hon, htest⟩, hhead⟩ := hcan
    refine completes_onLsy (exec_breakMsg v s) hon htest ?_
    rw [if_pos (by exact hhead)]
    exact ⟨Hub.rd_wr_of_lt _ 0 0 (by exact Nat.mod_lt _ (by decide)), rfl⟩
  case member =>
    simp only [Can.breakMsg2, Bool.and_eq_true, Bool.not_eq_true'] at hcan
    obtain ⟨⟨hon, htest⟩, hhead⟩ := hcan
    refine completes_onLsy (exec_breakMsg v s) hon htest ?_
    rw [show s.hub.begun.isHead = false from hhead, if_neg Bool.false_ne_true]
    exact ⟨length_lsyReturn _ _, contains_lsyReturn _ _, rfl⟩
  case tail =>
    exact completes_onLsy_idle (exec_downstreamLost s) (if_pos hcan)
  case stays =>
    refine completes_onLsy_idle (exec_chainResumed s) (if_neg fun hgo => ?_)
    obtain ⟨hlost, hpulses⟩ := Bool.and_eq_true_iff.mp hgo
    rw [Can.chainResumed2, show s.hub.lsy.lost = true from hlost, Bool.not_true, Bool.false_or, decide_eq_true_eq] at hcan
    exact absurd (decide_eq_true_eq.mp hpulses) (by exact Nat.not_le.mpr hcan)
  case noUp => exact completes_onLsy_idle (exec_hb up v s) (if_pos hcan)
  case noHb =>
    refine completes_onLsy_idle (exec_pairHbTimeout s) (if_neg fun hgo => ?_)
    rw [Can.pairHbTimeout2, ← Bool.not_and, Bool.not_eq_true'] at hcan
    exact absurd (hgo.symm.trans hcan) (by decide)
  case noClose =>
    refine completes_onLsy_idle (exec_pairClose v s) (if_neg fun hgo => ?_)
    rw [Can.pairClose2, Bool.not_eq_true'] at hcan
    exact absurd (hgo.symm.trans hcan) (by decide)
  case early =>
    exact completes_onLsy_idle (f := Hub.pairInstant) (exec_pairTurnOn s) (pairInstant_early (h := s.hub.begun) hcan)

end Sys2Proof.Machine

/-!
PROOF. A fault's reaction step by step: a relation between hubs that its steps keep holds across the whole of it.
-/

namespace Sys2Proof.Machine

set_option Elab.async false

/-! ### A tumbler's stop in its steps -/

/-- The hub as a tumbler's stop leaves it where the tumbler does not run: what it has begun is given up. -/
def Hub.tmbQuiet (h : Hub) (t : Nat) (release : Bool) : Hub :=
  let h := h.marchAbandon t
  let h := if release then
      (h.wr TMB_PATTERN_pins 0 t).sendL { typ := 0x80 + t, payload := vecPayload 0 0 (h.rd TMB_STAT_ts_now t) h.clk.tb, prio := 3 }
    else h
  h.modTmb t (fun x => { x with
    released := x.released || release, stopReq := none, jumpReq := none, heavyAsked := false, heavyOk := false,
    issued := none, remain := 0, march := none, dlFrom := none, startSlot := none, startOk := false, zeros := 0 })

/-- The hub once a running tumbler shows that it has stopped. -/
def Hub.tmbEnded (h : Hub) (t cause : Nat) : Hub :=
  let h := h.dropCand (fun c => (c.kind == .tmbStart || c.kind == .heavyVec) && c.ref == t)
  let h := (h.wr TMB_STAT_state 0 t).wr TMB_STAT_stop_cause cause t
  ((h.put TMB_CTRL_start false t).put TMB_CTRL_stop false t).put TMB_CTRL_jump false t

theorem tmbStop_eq (h : Hub) (t cause : Nat) (release : Bool) : h.tmbStop t cause release =
    if (h.tmbRuns t || h.tmbState t == 1) = true then
      (((h.tmbQuiet t release).tmbEnded t cause).tmbRetire t (((h.tmbQuiet t release).tmbEnded t cause).rd TMB_STAT_pc t)).intOwner
        (((h.tmbQuiet t release).tmbEnded t cause).tmbOwner t) 16
    else h.tmbQuiet t release := rfl

/-- What a tumbler's stop changes before it is shown. -/
def quietFoot : Foot := ⟨[.hinge, .tmbs, .mem, .free],
  [TMB_PATTERN_pins, TMB_MARCH_CNT_count, TMB_MARCH_FIRST_addr, TMB_MARCH_FIRST_valid, TMB_MARCH_SIG_sig], []⟩

theorem tmbQuiet_moves (h : Hub) (t : Nat) (release : Bool) (ht : t < 8) : Moves quietFoot h (h.tmbQuiet t release) := by
  have hmarch : Moves quietFoot h (h.marchAbandon t) := (Moves.refl _ h).to (marchAbandon_moves h t ht)
  have hsent (x : HFrame) : Moves quietFoot h (if release = true then ((h.marchAbandon t).wr TMB_PATTERN_pins 0 t).sendL x else h.marchAbandon t) :=
    Moves.ite ((hmarch.wr TMB_PATTERN_pins 0 t 0 ht).to (sendL_moves _ _)) hmarch
  unfold Hub.tmbQuiet
  exact (hsent _).to (modTmb_moves _ t _)

theorem tmbEnded_moves (h : Hub) (t cause : Nat) (ht : t < 8) : Moves ⟨[.sch], [SCH_STAT_queued, TMB_STAT_state, TMB_STAT_stop_cause,
    TMB_CTRL_start, TMB_CTRL_stop, TMB_CTRL_jump], []⟩ h (h.tmbEnded t cause) :=
  ((((((Moves.refl _ h).to (dropCand_moves _ _)).wr _ _ _ _ ht).wr _ _ _ _ ht).put _ _ _ _ ht).put _ _ _ _ ht).put _ _ _ _ ht

/-! ### The reaction -/

/-- What a fault's reaction changes but for the channels that it sends to their safe states, the tumblers that it stops, the bolt line and the
proof that it abandons. -/
def reactFoot : Foot := ⟨[.dev, .ret, .sch, .recd, .flt, .ints, .pins, .wds, .bst, .free],
  forceFlds ++ intFlds ++ noteFlds ++ testFlds ++ [BST_STAT_busy, BST_STAT_result, DBT_SAFE_CAUSE_entries, DBT_SAFE_CAUSE_source,
    SCH_STAT_queued, WRD_EXP_OPEN_open, FLT_FIRST_DET_detail, FLT_FIRST_THI_tb, FLT_FIRST_TLO_tb, FLT_FIRST_forced, FLT_FIRST_multi,
    FLT_FIRST_source, FLT_FIRST_valid, FLT_FIRST_wards, FLT_NEXT_count], []⟩

/-- A relation that each step of a fault's reaction keeps. -/
structure ReactClosed (R : Hub → Hub → Prop) : Prop where
  refl : ∀ h, R h h
  trans : ∀ {a b c}, R a b → R b c → R a c
  quiet : ∀ {h k}, Moves reactFoot h k → R h k
  dev : ∀ (h : Hub) (d : Dev), R h { h with dev := d }
  flt : ∀ (h : Hub) (f : Flt), R h { h with flt := f }
  bolt : ∀ h : Hub, R h h.noBoltRel
  tone : ∀ h : Hub, R h (h.wantTone .bolt)
  proof : ∀ h : Hub, R h h.abandonProof
  safe : ∀ (h : Hub) (chs : List Nat), (∀ c ∈ chs, c < 16) → R h (h.sendSafe chs)
  stop : ∀ (h : Hub) (t cause : Nat) (release : Bool), t < 8 → R h (h.tmbStop t cause release)

namespace ReactClosed

variable {R : Hub → Hub → Prop} {F : Foot} {h₀ h k a b : Hub}

theorem ite (_ : ReactClosed R) {q : Prop} [Decidable q] (x : R h₀ a) (y : R h₀ b) : R h₀ (if q then a else b) := by
  split
  · exact x
  · exact y

/-- A change within the reaction's footprint goes on. -/
theorem step (c : ReactClosed R) (x : R h₀ h) (y : Moves F h k) (hF : F.within reactFoot = true := by decide +kernel) : R h₀ k :=
  c.trans x (c.quiet ((Moves.refl reactFoot h).to y hF))

theorem forAll (c : ReactClosed R) {f : Hub → Nat → Hub} {l : List Nat} (x : R h₀ h) (hf : ∀ h t, t ∈ l → R h (f h t)) :
    R h₀ (forAll l f h) := by
  induction l generalizing h with
  | nil => exact x
  | cons t rest ih => exact ih (c.trans x (hf h t List.mem_cons_self)) fun h d hd => hf h d (List.mem_cons_of_mem _ hd)

theorem foldl (c : ReactClosed R) {α : Type} {f : Hub → α → Hub} {l : List α} (x : R h₀ h) (hf : ∀ h t, t ∈ l → R h (f h t)) :
    R h₀ (l.foldl f h) := by
  induction l generalizing h with
  | nil => exact x
  | cons t rest ih => exact ih (c.trans x (hf h t List.mem_cons_self)) fun h d hd => hf h d (List.mem_cons_of_mem _ hd)

theorem withDev (c : ReactClosed R) (x : R h₀ h) (d : Dev) : R h₀ { h with dev := d } := c.trans x (c.dev h d)

theorem withFlt (c : ReactClosed R) (x : R h₀ h) (f : Flt) : R h₀ { h with flt := f } := c.trans x (c.flt h f)

theorem withBst (c : ReactClosed R) (x : R h₀ h) (v : Bst) : R h₀ { h with bst := v } := c.trans x (c.quiet ((Moves.refl _ h).bst v))

theorem safeCauseSource (c : ReactClosed R) (x : R h₀ h) (n : Nat) : R h₀ (h.wr DBT_SAFE_CAUSE_source n) :=
  c.trans x (c.quiet ((Moves.refl _ h).wr _ _ _ _))

theorem safeEntries (c : ReactClosed R) (x : R h₀ h) : R h₀ (h.count DBT_SAFE_CAUSE_entries) :=
  c.trans x (c.quiet ((Moves.refl _ h).count _ _ _ _))

theorem outSafe (c : ReactClosed R) (x : R h₀ h) (k : Hub) : R h₀ (h.sendSafe k.outList) :=
  c.trans x (c.safe _ _ fun _ hc => List.mem_range.mp (List.mem_of_mem_filter hc))

theorem stops (c : ReactClosed R) (x : R h₀ h) (cause : Nat) (release : Bool) :
    R h₀ (Machine.forAll (List.range 8) (fun h t => h.tmbStop t cause release) h) :=
  c.forAll x fun _ _ ht => c.stop _ _ _ _ (List.mem_range.mp ht)

theorem safeBefore (c : ReactClosed R) (h : Hub) : R h h.safeBefore := by
  have htest : R h h.abortTest.cancelBist := c.step (c.step (c.refl h) (abortTest_moves h)) (cancelBist_moves _)
  have hsafe := c.withDev htest { h.abortTest.cancelBist.dev with safe := true, exitStep := 0 }
  exact c.outSafe (c.trans (c.trans hsafe (c.bolt _)) (c.tone _)) _

theorem safeAfter (c : ReactClosed R) (h : Hub) (n : Nat) : R h (h.safeAfter n) := by
  have hpages : R h h.closeSafetyPages.abandonProof := c.trans (c.step (c.refl h) (closeSafetyPages_moves h)) (c.proof _)
  have hcause := c.safeCauseSource (c.safeEntries hpages) n
  exact c.step (c.step hcause (note_moves _ _ _ _ _ _ _)) (intAll_moves _ _)

theorem enterSafe (c : ReactClosed R) (h : Hub) (n : Nat) : R h (h.enterSafe n) := by
  cases hs : h.dev.safe
  · rw [enterSafe_eq hs]
    exact c.trans (c.stops (c.safeBefore h) 6 true) (c.safeAfter _ n)
  · have hexit := c.withDev (c.refl h) { h.dev with exitStep := 0 }
    have hback := c.safeCauseSource (c.trans (c.trans hexit (c.bolt _)) (c.tone _)) n
    have heq : h.enterSafe n = if h.dev.exitStep == 0 then h else
        ({ h with dev := { h.dev with exitStep := 0 } }.noBoltRel.wantTone .bolt).wr DBT_SAFE_CAUSE_source n := by
      unfold Hub.enterSafe
      rw [hs]
      rfl
    rw [heq]
    exact c.ite (c.refl h) hback

theorem holdWard (c : ReactClosed R) (h : Hub) (w n : Nat) : R h (h.holdWard w n) := by
  have hsafe : R h ((h.setWard w .held).sendSafe (h.chsOf w)) :=
    c.trans (c.withDev (c.refl h) _) (c.safe _ _ fun _ hc => bitList_lt hc)
  have hstops := c.forAll (f := fun h t => h.tmbStop t 5 true) (l := ((h.setWard w .held).sendSafe (h.chsOf w)).tmbsOf w) hsafe fun _ _ ht => c.stop _ _ _ _ (bitList_lt ht)
  exact c.ite (c.enterSafe h n) (c.ite hstops (c.refl h))

theorem wardReaction (c : ReactClosed R) (h : Hub) (n wards : Nat) : R h (h.wardReaction n wards) := by
  have hints : R h (if 1 ≤ h.fltClass n then Machine.forAll (bitList 8 wards) (fun h w => h.intEvent w 2) h else h) :=
    c.ite (c.forAll (c.refl h) fun _ _ _ => c.step (c.refl _) (intEvent_moves _ _ _)) (c.refl h)
  exact c.ite (c.forAll hints fun _ _ _ => c.holdWard _ _ _) hints

theorem occurNow (c : ReactClosed R) (h : Hub) (n wards detail : Nat) (forced rec late : Bool) :
    R h (h.occurNow n wards detail forced rec late) := by
  unfold Hub.occurNow
  dsimp only
  refine c.ite (c.refl h) ?_
  have hcount (f : Flt) : R h { h with flt := f } := c.withFlt (c.refl h) f
  refine c.ite (hcount _) ?_
  have hmask (f g : Flt) : R h { (Hub.detailWord { h with flt := f } detail).2 with flt := g } :=
    c.withFlt (c.step (hcount f) (detailWord_moves _ _)) g
  have hrec {k : Hub} {q : Prop} [Decidable q] (x : R h k) (e : RecEvent) : R h (if q then k.intake e else k) :=
    c.ite (c.step x (intake_moves _ _)) x
  have hfirst {k : Hub} {q : Prop} [Decidable q] (x : R h k) (d : Nat) : R h (if q then k.captureFirst n d forced else k) :=
    c.ite (c.step x (captureFirst_moves _ _ _ _)) x
  have hreact {k : Hub} (x : R h k) (w : Nat) (q : Bool) : R h (if k.judgesLater then k else if
      q && (k.wardReaction n w).fltClass n == 5 then (k.wardReaction n w).enterSafe n else k.wardReaction n w) :=
    c.ite x (c.ite (c.trans (c.trans x (c.wardReaction _ _ _)) (c.enterSafe _ _)) (c.trans x (c.wardReaction _ _ _)))
  exact hreact (hrec (hfirst (hmask _ _) _) _) _ _

theorem occur (c : ReactClosed R) (h : Hub) (n wards detail : Nat) (forced rec : Bool) : R h (h.occur n wards detail forced rec) :=
  c.ite (c.ite (c.withBst (c.refl h) _) (c.trans (c.refl h) (c.quiet ((Moves.refl _ h).count _ _ _ _)))) (c.occurNow _ _ _ _ _ _ _)

theorem event (c : ReactClosed R) (h : Hub) (n wards detail : Nat) : R h (h.event n wards detail) :=
  c.ite (c.refl h) (c.occur _ _ _ _ _ _)

theorem raise (c : ReactClosed R) (h : Hub) (n res wards detail : Nat) : R h (h.raise n res wards detail) :=
  c.ite (c.refl h) (c.ite (c.withFlt (c.refl h) _) (c.trans (c.withFlt (c.refl h) _) (c.occur _ _ _ _ _ _)))

theorem lower (c : ReactClosed R) (h : Hub) (n res : Nat) : R h (h.lower n res) := c.withFlt (c.refl h) _

end ReactClosed

end Sys2Proof.Machine

/-!
PROOF. Safe states, stopped tumblers and stopped watchdogs: what a run over all of them leaves of each.
-/

namespace Sys2Proof.Machine

set_option Elab.async false

/-! ### A run over a list -/

/-- What each step of a run establishes for its own index and no step takes away holds of every index of the list. -/
theorem forAll_all {f : Hub → Nat → Hub} {P : Hub → Nat → Prop} {l : List Nat} (hset : ∀ h t, t ∈ l → P (f h t) t)
    (hkeep : ∀ h t u, t ∈ l → u ∈ l → P h u → P (f h t) u) {u : Nat} (hu : u ∈ l) (h : Hub) : P (forAll l f h) u := by
  have hkept : ∀ (m : List Nat), (∀ t ∈ m, t ∈ l) → ∀ k : Hub, P k u → P (forAll m f k) u := by
    intro m
    induction m with
    | nil => exact fun _ _ hk => hk
    | cons t rest ih =>
      exact fun hm k hk => ih (fun x hx => hm x (List.mem_cons_of_mem t hx)) _ (hkeep k t u (hm t List.mem_cons_self) hu hk)
  have hall : ∀ (m : List Nat), (∀ t ∈ m, t ∈ l) → u ∈ m → ∀ k : Hub, P (forAll m f k) u := by
    intro m
    induction m with
    | nil => exact fun _ hmem => absurd hmem List.not_mem_nil
    | cons t rest ih =>
      intro hm hmem k
      have hrest : ∀ x ∈ rest, x ∈ l := fun x hx => hm x (List.mem_cons_of_mem t hx)
      rcases List.mem_cons.mp hmem with rfl | hin
      · exact hkept rest hrest _ (hset k u hu)
      · exact ih hrest hin _
  exact hall l (fun _ ht => ht) hu h

/-! ### Safe states -/

theorem cmd_setSafeHold (h : Hub) (c : Nat) : (h.setSafeHold c).hinge.cmd = vset h.hinge.cmd c 2 := by
  have hdrop : ((h.dropCand (movesCh (h.lead c))).dropHeavy (h.lead c)).hinge = h.hinge :=
    (((Moves.refl ⟨[.tmbs, .sch], [SCH_STAT_queued], []⟩ h).to (dropCand_moves _ _)).to (dropHeavy_moves _ _)).keeps .hinge
  unfold Hub.setSafeHold
  dsimp only
  split
  · exact congrArg (fun x : Hinge => vset x.cmd c 2) hdrop
  · rw [show (Hub.intOwner _ _ _).hinge = _ from (intOwner_moves _ _ _).keeps .hinge]
    exact congrArg (fun x : Hinge => vset x.cmd c 2) hdrop

/-- A channel is held at its safe state by command. -/
def Hub.atSafe (h : Hub) (c : Nat) : Prop := h.flag OUT_STAT_safe_hold c = true ∧ vget h.hinge.cmd c 0 = 2

theorem safe_hold_setSafeHold (h : Hub) {c : Nat} (hc : c < 16) : (h.setSafeHold c).flag OUT_STAT_safe_hold c = true := by
  unfold Hub.setSafeHold
  dsimp only
  split
  case isTrue hheld => exact hheld
  case isFalse =>
    rw [(intOwner_moves _ _ _).flag OUT_STAT_safe_hold c 0 hc, Hub.flag_put_self _ _ _ _ _ rfl]

theorem safe_hold_setSafeHold_ne (h : Hub) {c d : Nat} (hc : c < 16) (hd : d < 16) (hheld : h.flag OUT_STAT_safe_hold d = true) :
    (h.setSafeHold c).flag OUT_STAT_safe_hold d = true := by
  by_cases hcd : d = c
  · subst hcd
    exact safe_hold_setSafeHold h hc
  · have hbefore : Moves ⟨[.hinge, .outs, .tmbs, .sch], [OUT_STAT_pending, SCH_STAT_queued], []⟩ h
        { ((((h.dropCand (movesCh (h.lead c))).dropHeavy (h.lead c)).modOut c (fun o => { o with wait := none })).put OUT_STAT_pending false c) with
          hinge := { h.hinge with cmd := vset h.hinge.cmd c 2 } } :=
      ((((((Moves.refl _ h).to (dropCand_moves _ _)).to (dropHeavy_moves _ _)).to (modOut_moves _ _ _)).put _ _ _ _ hc).hinge _)
    have hflag := (hbefore.flag OUT_STAT_safe_hold d 0 hd).trans hheld
    unfold Hub.setSafeHold
    dsimp only
    split
    · exact hflag
    · rw [(intOwner_moves _ _ _).flag OUT_STAT_safe_hold d 0 hd]
      rw [Hub.put, Hub.flag, Hub.rd_wr_ne (fldKey_ne_of_index (by decide) hcd 0 0)]
      exact hflag

theorem atSafe_setSafeHold_self (h : Hub) {c : Nat} (hc : c < 16) : (h.setSafeHold c).atSafe c :=
  ⟨safe_hold_setSafeHold h hc, by rw [cmd_setSafeHold, vget_vset_self _ _ _ _ hc]⟩

theorem atSafe_setSafeHold {h : Hub} {c d : Nat} (hc : c < 16) (hd : d < 16) (hh : h.atSafe d) : (h.setSafeHold c).atSafe d := by
  obtain ⟨hheld, hcmd⟩ := hh
  refine ⟨safe_hold_setSafeHold_ne h hc hd hheld, ?_⟩
  rw [cmd_setSafeHold]
  by_cases hcd : d = c
  · rw [hcd, vget_vset_self _ _ _ _ hc]
  · rw [vget_vset_ne hcd, hcmd]

/-- Every output channel that is sent to its safe state is held there. -/
theorem sendSafe_atSafe (h : Hub) {chs : List Nat} (hchs : ∀ c ∈ chs, c < 16) {c : Nat} (hc : c ∈ chs) (hout : h.isOut c = true) :
    (h.sendSafe chs).atSafe c := by
  have hmem : c ∈ chs.filter h.isOut := List.mem_filter.mpr ⟨hc, hout⟩
  have hlt : ∀ d ∈ chs.filter h.isOut, d < 16 := fun d hd => hchs d (List.mem_filter.mp hd).1
  obtain ⟨hheld, -⟩ := forAll_all (f := Hub.setSafeHold) (P := Hub.atSafe) (fun k d hd => atSafe_setSafeHold_self k (hlt d hd))
    (fun k d e hd he hk => atSafe_setSafeHold (hlt d hd) (hlt e he) hk) hmem h
  unfold Hub.sendSafe
  dsimp only
  rw [if_neg (by simpa [List.isEmpty_iff] using List.ne_nil_of_mem hmem)]
  exact ⟨((command_moves _ _ _ _).flag OUT_STAT_safe_hold c 0 (hlt c hmem)).trans hheld, cmd_command_self _ 2 true hmem (hlt c hmem)⟩

/-! ### Stopped tumblers -/

/-- What the logic die has ordered over the link: the commanded states, and the tone that it wants. -/
def Hinge.orders (x : Hinge) : Vector Nat 16 × Tone × Nat := (x.cmd, x.daWant, x.toneAt)

theorem orders_sendL (h : Hub) (f : HFrame) : (h.sendL f).hinge.orders = h.hinge.orders := by
  unfold Hub.sendL
  split
  · rfl
  · rfl

theorem orders_tmbQuiet (h : Hub) {t : Nat} (release : Bool) (ht : t < 8) : (h.tmbQuiet t release).hinge.orders = h.hinge.orders := by
  have hmarch : (h.marchAbandon t).hinge = h.hinge := (marchAbandon_moves h t ht).keeps .hinge
  have hsent (f : HFrame) : (((h.marchAbandon t).wr TMB_PATTERN_pins 0 t).sendL f).hinge.orders = h.hinge.orders := by
    rw [orders_sendL]
    exact congrArg Hinge.orders hmarch
  unfold Hub.tmbQuiet
  dsimp only
  split
  · exact hsent _
  · exact congrArg Hinge.orders hmarch

/-- A tumbler's stop with its end: how it is shown, and to whom. -/
theorem tmbEnded_shown (h : Hub) {t : Nat} (cause r : Nat) (o : Option Nat) (ht : t < 8) : Moves ⟨[.sch, .eng, .ints, .pins],
    intFlds ++ [SCH_STAT_queued, TMB_STAT_state, TMB_STAT_stop_cause, TMB_CTRL_start, TMB_CTRL_stop, TMB_CTRL_jump], []⟩ h
      (((h.tmbEnded t cause).tmbRetire t r).intOwner o 16) :=
  (((Moves.refl _ h).to (tmbEnded_moves h t cause ht)).to (tmbRetire_moves _ _ _)).to (intOwner_moves _ _ _)

theorem orders_tmbStop (h : Hub) {t : Nat} (cause : Nat) (release : Bool) (ht : t < 8) :
    (h.tmbStop t cause release).hinge.orders = h.hinge.orders := by
  rw [tmbStop_eq]
  split
  · rw [(tmbEnded_shown _ cause _ _ ht).keeps .hinge, orders_tmbQuiet h release ht]
  · exact orders_tmbQuiet h release ht

theorem tmbState_tmbQuiet (h : Hub) {t u : Nat} (release : Bool) (ht : t < 8) (hu : u < 8) : (h.tmbQuiet t release).tmbState u = h.tmbState u :=
  (tmbQuiet_moves h t release ht).rd TMB_STAT_state u 0 hu

theorem tmbState_tmbEnded (h : Hub) {t u : Nat} (cause r : Nat) (o : Option Nat) (ht : t < 8) (hu : u < 8) :
    (((h.tmbEnded t cause).tmbRetire t r).intOwner o 16).tmbState u = if u = t then 0 else h.tmbState u := by
  have hshown : Moves ⟨[.eng, .ints, .pins], intFlds, []⟩ (h.tmbEnded t cause) (((h.tmbEnded t cause).tmbRetire t r).intOwner o 16) :=
    ((Moves.refl _ _).to (tmbRetire_moves _ _ _)).to (intOwner_moves _ _ _)
  rw [Hub.tmbState, hshown.rd TMB_STAT_state u 0 hu, Hub.tmbEnded, Hub.rd_put_apart _ _ _ _ _ _ (by decide),
    Hub.rd_put_apart _ _ _ _ _ _ (by decide), Hub.rd_put_apart _ _ _ _ _ _ (by decide), Hub.rd_wr_apart _ _ _ _ _ _ (by decide)]
  by_cases hut : u = t
  · subst hut
    rw [if_pos rfl, Hub.rd_wr_of_lt _ _ _ (by decide)]
  · rw [if_neg hut, Hub.rd_wr_ne (fldKey_ne_of_index (by decide) hut 0 0)]
    exact (dropCand_moves h _).rd TMB_STAT_state u 0 hu

/-- A stop leaves the tumbler stopped where it ran, and every other one as it was. -/
theorem tmbState_tmbStop (h : Hub) {t u : Nat} (cause : Nat) (release : Bool) (ht : t < 8) (hu : u < 8) :
    (h.tmbStop t cause release).tmbState u = if u = t ∧ (h.tmbRuns t || h.tmbState t == 1) = true then 0 else h.tmbState u := by
  rw [tmbStop_eq]
  cases hgo : h.tmbRuns t || h.tmbState t == 1 with
  | true => rw [if_pos rfl, tmbState_tmbEnded _ cause _ _ ht hu, tmbState_tmbQuiet h release ht hu]; simp
  | false => rw [if_neg Bool.false_ne_true, tmbState_tmbQuiet h release ht hu]; simp

theorem tmbRuns_tmbStop_self (h : Hub) {t : Nat} (cause : Nat) (release : Bool) (ht : t < 8) :
    (h.tmbStop t cause release).tmbRuns t = false := by
  rw [Hub.tmbRuns, tmbState_tmbStop h cause release ht ht]
  cases hruns : h.tmbRuns t with
  | true => simp
  | false =>
    split
    · simp
    · exact hruns

theorem tmbRuns_tmbStop {h : Hub} {t u : Nat} (cause : Nat) (release : Bool) (ht : t < 8) (hu : u < 8) (hruns : h.tmbRuns u = false) :
    (h.tmbStop t cause release).tmbRuns u = false := by
  by_cases hut : u = t
  · subst hut
    exact tmbRuns_tmbStop_self h cause release hu
  · rw [Hub.tmbRuns, tmbState_tmbStop h cause release ht hu, if_neg (by simp [hut])]
    exact hruns

/-- Once all eight have been stopped no tumbler runs. -/
theorem stopAll_rest (h : Hub) (cause : Nat) (release : Bool) (u : Fin 8) :
    (forAll (List.range 8) (fun h t => h.tmbStop t cause release) h).tmbRuns u = false :=
  forAll_all (f := fun h t => h.tmbStop t cause release) (P := fun h t => h.tmbRuns t = false)
    (fun k _ ht => tmbRuns_tmbStop_self k cause release (List.mem_range.mp ht))
    (fun _ _ _ ht hv => tmbRuns_tmbStop cause release (List.mem_range.mp ht) (List.mem_range.mp hv)) (List.mem_range.mpr u.isLt) h

/-- What every step of a run keeps the run keeps. -/
theorem forAll_kept_of {α : Type} {f : Hub → Nat → Hub} {g : Hub → α} {l : List Nat} (hf : ∀ h t, t ∈ l → g (f h t) = g h) (h : Hub) :
    g (forAll l f h) = g h := by
  induction l generalizing h with
  | nil => rfl
  | cons t rest ih =>
    exact (ih (fun k u hu => hf k u (List.mem_cons_of_mem t hu)) (f h t)).trans (hf h t List.mem_cons_self)

theorem orders_stopAll (h : Hub) (cause : Nat) (release : Bool) :
    (forAll (List.range 8) (fun h t => h.tmbStop t cause release) h).hinge.orders = h.hinge.orders :=
  forAll_kept_of (g := fun k : Hub => k.hinge.orders) (fun k _ ht => orders_tmbStop k cause release (List.mem_range.mp ht)) h

theorem stopAll_moves (h : Hub) (cause : Nat) (release : Bool) : Moves ⟨[.hinge, .tmbs, .sch, .ints, .pins, .eng, .mem, .free],
    intFlds ++ stopFlds ++ [SCH_STAT_queued, TMB_MARCH_CNT_count, TMB_MARCH_FIRST_addr, TMB_MARCH_FIRST_valid, TMB_MARCH_SIG_sig], []⟩ h
      (forAll (List.range 8) (fun h t => h.tmbStop t cause release) h) :=
  (Moves.refl _ h).forAll fun _ _ ht => (Moves.refl _ _).to (tmbStop_moves _ _ _ _ (List.mem_range.mp ht))

theorem tmbRuns_of_moves {F : Foot} {h k : Hub} (x : Moves F h k) (u : Fin 8) (hF : F.avoids TMB_STAT_state = true := by decide +kernel) :
    k.tmbRuns u = h.tmbRuns u := by
  have hstate : k.tmbState u = h.tmbState u := x.rd TMB_STAT_state u 0 u.isLt hF
  rw [Hub.tmbRuns, hstate, Hub.tmbRuns]

/-! ### Watchdogs -/

theorem wd_modWd_self (h : Hub) {k : Nat} (f : Wd → Wd) (hk : k < 9) : (h.modWd k f).wd k = f (h.wd k) := vget_vset_self _ _ _ _ hk

theorem wd_modWd_ne (h : Hub) {k j : Nat} (f : Wd → Wd) (hj : j ≠ k) : (h.modWd k f).wd j = h.wd j := vget_vset_ne hj

/-- A change that brings every watchdog to a state it keeps there brings all nine to it. -/
theorem forAll_modWd {f : Hub → Wd → Wd} {p : Wd → Prop} (hf : ∀ h w, p (f h w)) (h : Hub) (k : Fin 9) :
    p ((forAll (List.range 9) (fun h k => h.modWd k (f h)) h).wd k) := by
  refine forAll_all (f := fun h k => h.modWd k (f h)) (P := fun h k => p (h.wd k)) (fun g t ht => ?_) (fun g t u ht hu hp => ?_)
    (List.mem_range.mpr k.isLt) h
  · rw [wd_modWd_self _ _ (List.mem_range.mp ht)]
    exact hf _ _
  · by_cases hut : u = t
    · subst hut
      rw [wd_modWd_self _ _ (List.mem_range.mp hu)]
      exact hf _ _
    · rwa [wd_modWd_ne _ _ hut]

theorem wdStopAll_stops (h : Hub) (k : Fin 9) : (h.wdStopAll.wd k).state = 0 :=
  forAll_modWd (f := fun _ w => { w with state := 0 }) (p := fun w => w.state = 0) (fun _ _ => rfl) h k

theorem wdFreezeAll_stops (h : Hub) (k : Fin 9) : (h.wdFreezeAll.wd k).state ≠ 1 :=
  forAll_modWd (f := fun h w => if w.state == 1 then { w with state := 2, held := h.clk.mclk - w.since } else w) (p := fun w => w.state ≠ 1)
    (fun h w => by
      split
      · exact (by decide : (2 : Nat) ≠ 1)
      · next hw => simpa using hw) h k

/-! ### Closed pages -/

theorem and_seven {x : Nat} (hx : ∀ i, i < 3 → bitOf x i = false) : x &&& 7 = 0 := by
  refine Nat.eq_of_testBit_eq fun i => ?_
  rw [Nat.testBit_and, Nat.zero_testBit]
  by_cases hi : i < 3
  · rw [show x.testBit i = false from hx i hi, Bool.false_and]
  · rw [Nat.testBit_lt_two_pow (x := 7) (Nat.lt_of_lt_of_le (by decide : 7 < 2 ^ 3) (Nat.pow_le_pow_right (by decide) (Nat.not_lt.mp hi))),
      Bool.and_false]

theorem bitOf_mod {x n i : Nat} (hx : bitOf x i = false) : bitOf (x % 2 ^ n) i = false := by
  rw [bitOf, Nat.testBit_mod_two_pow, show x.testBit i = false from hx, Bool.and_false]

/-- The safety pages of a ward are closed. -/
def Hub.pagesShut (h : Hub) (w : Nat) : Prop := ∀ i, i < 3 → bitOf (h.rd WRD_EXP_OPEN_open w) i = false

theorem rd_closePages (h : Hub) {w v : Nat} (pages : Nat) (hv : v < 8) : (h.closePages w pages).rd WRD_EXP_OPEN_open v =
    (h.wr WRD_EXP_OPEN_open (clrMask (h.rd WRD_EXP_OPEN_open w) pages) w).rd WRD_EXP_OPEN_open v := by
  unfold Hub.closePages
  dsimp only
  split
  · exact (clearForces_moves _).rd WRD_EXP_OPEN_open v 0 hv
  · rfl

theorem pagesShut_closePages_self (h : Hub) {w : Nat} (hw : w < 8) : (h.closePages w 7).pagesShut w := by
  intro i hi
  rw [rd_closePages h 7 hw, Hub.rd_wr_self]
  refine bitOf_mod ?_
  have hmask : bitOf 7 i = true := by
    have hcases : i = 0 ∨ i = 1 ∨ i = 2 := by omega
    rcases hcases with rfl | rfl | rfl <;> rfl
  rw [bitOf_clrMask, hmask, Bool.not_true, Bool.and_false]

theorem pagesShut_closePages {h : Hub} {w v : Nat} (hv : v < 8) (hshut : h.pagesShut v) (hw : w < 8) : (h.closePages w 7).pagesShut v := by
  by_cases hvw : v = w
  · subst hvw
    exact pagesShut_closePages_self h hv
  · intro i hi
    rw [rd_closePages h 7 hv, Hub.rd_wr_ne (fldKey_ne_of_index (by decide) hvw 0 0)]
    exact hshut i hi

theorem closeSafetyPages_shut (h : Hub) (w : Fin 8) : h.closeSafetyPages.pagesShut w :=
  forAll_all (f := fun h w => h.closePages w 7) (P := Hub.pagesShut) (fun k _ ht => pagesShut_closePages_self k (List.mem_range.mp ht))
    (fun _ _ _ ht hu hk => pagesShut_closePages (List.mem_range.mp hu) hk (List.mem_range.mp ht)) (List.mem_range.mpr w.isLt) h

end Sys2Proof.Machine

/-!
PROOF. The entry to *Test* (R584 to R590): what it leaves of the hub.
-/

namespace Sys2Proof.Machine

set_option Elab.async false

/-! ### ERR, where nothing that it shows changes -/

/-- A footprint leaves the class and the enable of every source. -/
def Foot.leavesSources (F : Foot) : Bool := (List.range 62).all (fun n => F.avoids (FLT_EN_en n) && F.avoids (FLT_CLASS_class n))

theorem anyClass_of_moves {F : Foot} {h k : Hub} (x : Moves F h k) (c : Nat) (hF : F.leavesSources = true)
    (hflt : F.parts.contains .flt = false) : k.anyClass c = h.anyClass c := by
  have hkept : { k.flt with fresh := false } = { h.flt with fresh := false } := x.keeps .flt hflt
  have hkeptMask := congrArg Flt.mask hkept
  have hmask : k.flt.mask = h.flt.mask := hkeptMask
  simp only [Foot.leavesSources, List.all_eq_true, List.mem_range, Bool.and_eq_true] at hF
  rw [Bool.eq_iff_iff, Hub.anyClass, Hub.anyClass, List.any_eq_true, List.any_eq_true]
  refine exists_congr fun n => and_congr_right fun hn => ?_
  obtain ⟨hen, hclass⟩ := hF n (List.mem_range.mp hn)
  rw [Hub.fltSet, Hub.fltSet, Hub.fltMask, Hub.fltMask, hmask, Hub.fltEnabled, Hub.fltEnabled, x.flag (FLT_EN_en n) 0 0 Nat.one_pos hen, Hub.fltClass,
    Hub.fltClass, x.rd (FLT_CLASS_class n) 0 0 Nat.one_pos hclass]

theorem errLow_of_moves {F : Foot} {h k : Hub} (x : Moves F h k) (hF : F.leavesSources = true := by decide +kernel)
    (hflt : F.parts.contains .flt = false := by decide) (hdev : F.parts.contains .dev = false := by decide)
    (hsup : F.parts.contains .sup = false := by decide) : k.errLow = h.errLow := by
  have hd : k.dev = h.dev := x.keeps .dev hdev
  have hs : k.sup = h.sup := x.keeps .sup hsup
  have hdegraded : k.degradedCond = h.degradedCond := by
    simp only [Hub.degradedCond, Hub.ward, hd, anyClass_of_moves x 3 hF hflt]
  have hstate : k.state = h.state := by
    unfold Hub.state
    rw [hd, hs, hdegraded]
  simp only [Hub.errLow, Hub.errFault, Hub.errSafe, Hub.errBoot, Hub.errPd, Hub.errHalt, hstate, hd, hs, anyClass_of_moves x 2 hF hflt]

/-! ### The entry -/

/-- The hub as a self-test of a kind begins with everything stopped. -/
def Hub.testQuiet (h : Hub) : Hub :=
  (forAll (List.range 8) (fun h t => h.tmbStop t 8 false) h).wdFreezeAll.closeSafetyPages.abandonProof

/-- The hub as it shows that a self-test of a kind is under way. -/
def Hub.testShown (h : Hub) (kind : Nat) : Hub :=
  let h := ((h.put BST_STAT_busy true).wr BST_STAT_kind kind).wr BST_STAT_result 0
  (h.put BST_STAT_boot false).wr BST_STAT_fail_groups 0

/-- The hub in *Test*, before the first group. -/
def Hub.testBegun (h : Hub) (kind : Nat) : Hub :=
  let k := h.testQuiet.testShown kind
  { k with
    dev := { k.dev with test := true, testHold := h.errLow && kind != 2 }
    bst := { k.bst with todo := (h.lbistGroups kind).1, fieldNext := kind == 3, field := false, fieldRuns := false, start := k.clk.now, fails := 0 } }

theorem enterTest_eq (h : Hub) (kind : Nat) : h.enterTest kind =
    if kind == 2 then (h.testBegun kind).fieldPart
    else ((h.testBegun kind).request .testHold).wr BST_STAT_group ((h.lbistGroups kind).1.headD 0xF) := rfl

/-- What is common to every self-test: nothing runs beside it, and it shows that it is under way. -/
def Hub.tests (h : Hub) : Prop :=
  h.flag BST_STAT_busy = true ∧ h.rd BST_STAT_result = 0 ∧ h.flag BST_STAT_boot = false ∧ (∀ t : Fin 8, h.tmbRuns t = false) ∧
    (∀ k : Fin 9, (h.wd k).state ≠ 1) ∧ h.rd WRD_EXP_OPEN_open 0 &&& 7 = 0 ∧ h.dbt.proof = none

theorem tests_of_moves {F : Foot} {h k : Hub} (x : Moves F h k) (hh : h.tests)
    (hF : (F.avoids BST_STAT_busy && F.avoids BST_STAT_result && F.avoids BST_STAT_boot && F.avoids TMB_STAT_state && F.avoids WRD_EXP_OPEN_open) = true
      := by decide +kernel)
    (hwds : F.parts.contains .wds = false := by decide) (hdbt : F.parts.contains .dbt = false := by decide) : k.tests := by
  simp only [Bool.and_eq_true] at hF
  obtain ⟨⟨⟨⟨hbusy, hresult⟩, hboot⟩, htmb⟩, hpages⟩ := hF
  obtain ⟨h1, h2, h3, h4, h5, h6, h7⟩ := hh
  have hw : k.wds = h.wds := x.keeps .wds hwds
  have hd : k.dbt = h.dbt := x.keeps .dbt hdbt
  refine ⟨(x.flag BST_STAT_busy 0 0 (by decide) hbusy).trans h1, (x.rd BST_STAT_result 0 0 (by decide) hresult).trans h2,
    (x.flag BST_STAT_boot 0 0 (by decide) hboot).trans h3, fun t => (tmbRuns_of_moves x t htmb).trans (h4 t), fun j => ?_, ?_, ?_⟩
  · rw [Hub.wd, hw]
    exact h5 j
  · rw [x.rd WRD_EXP_OPEN_open 0 0 (by decide) hpages]
    exact h6
  · rw [hd]
    exact h7

theorem testQuiet_stops (h : Hub) : (∀ t : Fin 8, h.testQuiet.tmbRuns t = false) ∧ (∀ k : Fin 9, (h.testQuiet.wd k).state ≠ 1) ∧
    h.testQuiet.pagesShut 0 ∧ h.testQuiet.dbt.proof = none := by
  refine ⟨fun t => ?_, fun k => ?_, closeSafetyPages_shut _ 0, rfl⟩
  · have x := ((Moves.refl ⟨[.wds, .dbt], forceFlds ++ [WRD_EXP_OPEN_open], []⟩ (forAll (List.range 8) (fun h t => h.tmbStop t 8 false) h)).to
      (wdFreezeAll_moves _)).to (closeSafetyPages_moves _) |>.to (abandonProof_moves _)
    exact (tmbRuns_of_moves x t).trans (stopAll_rest h 8 false t)
  · have x := ((Moves.refl ⟨[.dbt], forceFlds ++ [WRD_EXP_OPEN_open], []⟩ (forAll (List.range 8) (fun h t => h.tmbStop t 8 false) h).wdFreezeAll).to
      (closeSafetyPages_moves _)).to (abandonProof_moves _)
    have hwds : h.testQuiet.wds = (forAll (List.range 8) (fun h t => h.tmbStop t 8 false) h).wdFreezeAll.wds := x.keeps .wds
    rw [Hub.wd, hwds]
    exact wdFreezeAll_stops _ k

theorem testShown_moves (h : Hub) (kind : Nat) :
    Moves ⟨[], [BST_STAT_busy, BST_STAT_kind, BST_STAT_result, BST_STAT_boot, BST_STAT_fail_groups], []⟩ h (h.testShown kind) :=
  (((((Moves.refl _ h).put _ _ _ _).wr _ _ _ _).wr _ _ _ _).put _ _ _ _).wr _ _ _ _

theorem testShown_shows (h : Hub) {kind : Nat} (hk : kind < 8) : (h.testShown kind).flag BST_STAT_busy = true ∧
    (h.testShown kind).rd BST_STAT_result = 0 ∧ (h.testShown kind).flag BST_STAT_boot = false ∧ (h.testShown kind).rd BST_STAT_kind = kind := by
  refine ⟨?_, ?_, ?_, ?_⟩
  · simp (disch := decide) [Hub.testShown]
  · simp (disch := decide) [Hub.testShown, Hub.rd_wr_self]
  · simp (disch := decide) [Hub.testShown]
  · simp (disch := decide) only [Hub.testShown, Hub.rd_wr_apart, Hub.rd_put_apart]
    exact Hub.rd_wr_of_lt _ 0 0 hk

theorem testBegun_tests (h : Hub) {kind : Nat} (hk : kind < 8) : (h.testBegun kind).tests ∧ (h.testBegun kind).rd BST_STAT_kind = kind := by
  obtain ⟨htmb, hwd, hpages, hproof⟩ := testQuiet_stops h
  obtain ⟨hbusy, hresult, hboot, hkind⟩ := testShown_shows h.testQuiet hk
  have x := testShown_moves h.testQuiet kind
  have hwds : (h.testQuiet.testShown kind).wds = h.testQuiet.wds := x.keeps .wds
  have hopen : h.testQuiet.testShown kind |>.pagesShut 0 := fun i hi => by
    rw [x.rd WRD_EXP_OPEN_open 0 0]
    exact hpages i hi
  have hrest : ∀ t : Fin 8, (h.testQuiet.testShown kind).tmbRuns t = false := fun t => (tmbRuns_of_moves x t).trans (htmb t)
  refine ⟨⟨hbusy, hresult, hboot, hrest, fun k => ?_, and_seven hopen, ?_⟩, hkind⟩
  · exact (congrArg (fun v : Vector Wd 9 => (vget v k {}).state ≠ 1) hwds).mpr (hwd k)
  · exact (congrArg Dbt.proof (show (h.testQuiet.testShown kind).dbt = h.testQuiet.dbt from x.keeps .dbt)).trans hproof

/-! ### The field part -/

theorem fieldTestGo_foot (h : Hub) : Moves ⟨[.hinge, .ins, .bst], [BST_STAT_group], []⟩ h h.fieldTestGo :=
  .ite ((((Moves.refl _ h).forAll fun _ _ _ => .ite ((Moves.refl _ _).to (modIn_moves _ _ _)) (Moves.refl _ _)).wr _ _ _ _).hinge_bst _ _)
    (Moves.refl _ h)

/-- The hub with the states of the field die's inputs as they stand (R590). -/
def Hub.frozenIns (h : Hub) : Hub :=
  forAll (List.range 16) (fun h c =>
    if h.fIsIn c then
      let now := h.inState c
      h.modIn c (fun i => { i with frozen := some now, cand := none, own := none, foreign := none })
    else h) h

theorem frozenIns_moves (h : Hub) : Moves ⟨[.ins], [], []⟩ h h.frozenIns :=
  (Moves.refl _ h).forAll fun _ _ _ => .ite ((Moves.refl _ _).to (modIn_moves _ _ _)) (Moves.refl _ _)

theorem fieldTestGo_eq (h : Hub) : h.fieldTestGo =
    if h.bst.field && !h.bst.fieldRuns && h.outList.all (fun c => h.flag OUT_STAT_at_safe c) then
      { h.frozenIns.wr BST_STAT_group 6 with
        bst := { h.frozenIns.bst with fieldRuns := true }, hinge := { h.frozenIns.hinge with configured := false } }
    else h := rfl

/-- What the start of the field die's groups leaves of the test and of the commands. -/
theorem fieldTestGo_keeps (h : Hub) : (∃ b, h.fieldTestGo.bst = { h.bst with fieldRuns := b }) ∧ h.fieldTestGo.hinge.cmd = h.hinge.cmd := by
  have hbst : h.frozenIns.bst = h.bst := (frozenIns_moves h).keeps .bst
  have hhinge : h.frozenIns.hinge = h.hinge := (frozenIns_moves h).keeps .hinge
  have hcmd := congrArg Hinge.cmd hhinge
  rw [fieldTestGo_eq]
  split
  · exact ⟨⟨true, congrArg (fun b : Bst => { b with fieldRuns := true }) hbst⟩, hcmd⟩
  · exact ⟨⟨h.bst.fieldRuns, rfl⟩, rfl⟩

/-- The hub with every output channel on its way to its safe state, for the field die's groups (R590). -/
def Hub.fieldWaits (h : Hub) : Hub :=
  let k := (h.fholdStop.wr BST_STAT_group 0xF).sendSafe h.outList
  { k with bst := { k.bst with todo := [], fieldNext := false, field := true }, dev := { k.dev with testHold := false } }

theorem fieldPart_eq (h : Hub) : h.fieldPart = h.fieldWaits.fieldTestGo := rfl

theorem fieldWaits_moves (h : Hub) : Moves ⟨[.sup, .hinge, .outs, .tmbs, .sch, .ints, .pins, .dev, .bst],
    intFlds ++ [OUT_STAT_pending, OUT_STAT_safe_hold, SCH_STAT_queued, BST_STAT_group], []⟩ h h.fieldWaits :=
  ((((Moves.refl _ h).to (fholdStop_moves _)).wr _ _ _ _).to (sendSafe_moves _ _ fun _ hc => List.mem_range.mp (List.mem_filter.mp hc).1)).dev_bst _ _

/-- What of the hub says which of its channels are outputs. -/
theorem isOut_of_moves {F : Foot} {h k : Hub} (x : Moves F h k) {c : Nat} (hc : c < 16) (hF : F.avoids OUT_CFG_mode = true := by decide +kernel) :
    k.isOut c = h.isOut c := by
  simp only [Hub.isOut, Hub.mode, x.rd OUT_CFG_mode c 0 hc hF]

theorem outList_of_moves {F : Foot} {h k : Hub} (x : Moves F h k) (hF : F.avoids OUT_CFG_mode = true := by decide +kernel) :
    k.outList = h.outList := by
  refine List.filter_congr fun c hc => ?_
  exact isOut_of_moves x (List.mem_range.mp hc) hF

theorem fieldWaits_atSafe (h : Hub) {c : Nat} (hc : c ∈ h.outList) : h.fieldWaits.atSafe c := by
  have x : Moves ⟨[.sup, .hinge, .outs], [BST_STAT_group], []⟩ h (h.fholdStop.wr BST_STAT_group 0xF) :=
    ((Moves.refl _ h).to (fholdStop_moves _)).wr _ _ _ _
  obtain ⟨hlt, hout⟩ := List.mem_filter.mp hc
  exact sendSafe_atSafe _ (fun d hd => List.mem_range.mp (List.mem_filter.mp hd).1) hc ((isOut_of_moves x (List.mem_range.mp hlt)).trans hout)

end Sys2Proof.Machine

/-!
PROOF. W0's orders of a self-test: the obligation, clause by clause.
-/

namespace Sys2Proof.Machine

set_option Elab.async false

/-- The hub with an order of a self-test that has been accepted (R584). -/
def Hub.testAsked (h : Hub) (kind : Nat) : Hub := ((h.put BST_STAT_busy true).wr BST_STAT_kind kind).wr BST_STAT_result 0

/-- A write of W0 orders a self-test of a kind. -/
def Hub.testOrdered (h : Hub) (w : Fin 8) (v : Word) (kind : Nat) : Bool :=
  h.writable w && w.val == 0 && v.toNat / 2 ^ 16 == 0x4253 && v.toNat % 4 == kind && h.bstStatus v.toNat == 0

theorem bitsOf_key (v : Word) : bitsOf v.toNat 16 16 = v.toNat / 2 ^ 16 := by
  rw [bitsOf, Nat.shiftRight_eq_div_pow]
  exact Nat.mod_eq_of_lt (by omega)

theorem bstRow_ordered {h : Hub} {w : Fin 8} {v : Word} {kind : Nat} (hkind : kind ≠ 0) (hord : h.testOrdered w v kind = true) :
    h.bstRow w v.toNat kind =
      if ((h.testAsked kind).judgeCand (bstCand kind)).1 then (h.testAsked kind).admitCand (bstCand kind)
      else (h.testAsked kind).submit (bstCand kind) := by
  simp only [Hub.testOrdered, Bool.and_eq_true, beq_iff_eq] at hord
  obtain ⟨⟨⟨⟨hw, hzero⟩, hkey⟩, hmod⟩, hstat⟩ := hord
  rw [Hub.bstRow, hw, hmod, beq_self_eq_true, Bool.and_true, if_pos rfl, Hub.writeBstCtrl, bitsOf_key, hkey, hzero, hstat, hmod, if_pos]
  · rfl
  · simp [hkind]

theorem bstRow_refused {h : Hub} {w : Fin 8} {v : Word} {kind : Nat} (hord : h.testOrdered w v kind = false) :
    h.bstRow w v.toNat kind = h := by
  unfold Hub.bstRow
  split
  case isFalse => rfl
  case isTrue hw =>
    rw [Hub.writeBstCtrl, bitsOf_key]
    refine if_neg fun hgo => ?_
    simp only [Bool.and_eq_true, beq_iff_eq] at hw hgo
    obtain ⟨⟨⟨hzero, hkey⟩, -⟩, hstat⟩ := hgo
    obtain ⟨hwr, hmod⟩ := hw
    have hyes : h.testOrdered w v kind = true := by
      simp only [Hub.testOrdered, Bool.and_eq_true, beq_iff_eq]
      exact ⟨⟨⟨⟨hwr, hzero⟩, hkey⟩, hmod⟩, hstat⟩
    exact absurd (hyes.symm.trans hord) (by decide)

theorem judgeCand_begun (h : Hub) (kind : Nat) :
    (h.begun.testAsked kind).judgeCand (bstCand kind) = (h.testAsked kind).judgeCand (bstCand kind) := rfl

/-! ### The order that waits -/

theorem testAsked_shows (h : Hub) {kind : Nat} (hk : kind < 8) : (h.testAsked kind).flag BST_STAT_busy = true ∧
    (h.testAsked kind).rd BST_STAT_kind = kind ∧ (h.testAsked kind).rd BST_STAT_result = 0 := by
  refine ⟨?_, ?_, Hub.rd_wr_of_lt _ 0 0 (by decide)⟩
  · simp (disch := decide) [Hub.testAsked]
  · rw [Hub.testAsked, Hub.rd_wr_apart _ _ _ _ _ _ (by decide)]
    exact Hub.rd_wr_of_lt _ 0 0 hk

theorem queue_submit {h : Hub} {c : Cand} (hq : h.sch.queue.any (fun x => x.kind == c.kind && x.ref == c.ref) = false) :
    (h.submit c).sch.queue = h.sch.queue ++ [{ c with at_ := h.clk.now }] := by
  unfold Hub.submit
  rw [hq]
  rfl

/-- An order that may not be admitted now waits as a candidate of the scheduler. -/
theorem completes_testWaits {c : Instr} {s : State} {w : Fin 8} {v : Word} {kind : Nat} (hx : exec c s = s.on (fun h => h.bstRow w v.toNat kind))
    (hk : kind < 8) (hkind : kind ≠ 0) (hord : s.hub.testOrdered w v kind = true)
    (hnot : ((s.hub.testAsked kind).judgeCand (bstCand kind)).1 = false) : Completes c s (fun h =>
      h.flag BST_STAT_busy = true ∧ h.rd BST_STAT_kind = kind ∧ h.rd BST_STAT_result = 0 ∧
        (s.hub.sch.queue.any (fun x => x.kind == .bist && x.ref == kind) = false →
          h.sch.queue = s.hub.sch.queue ++ [{ bstCand kind with at_ := s.hub.clk.now }]) ∧ h.dev = s.hub.dev ∧ h.bst = s.hub.bst) := by
  refine completes_of_begun hx ?_
  rw [bstRow_ordered (h := s.hub.begun) hkind hord, judgeCand_begun, hnot, if_neg Bool.false_ne_true]
  have x := submit_moves (s.hub.begun.testAsked kind) (bstCand kind)
  obtain ⟨hbusy, hkinds, hresult⟩ := testAsked_shows s.hub.begun hk
  exact ⟨(x.flag BST_STAT_busy 0 0).trans hbusy, (x.rd BST_STAT_kind 0 0).trans hkinds, (x.rd BST_STAT_result 0 0).trans hresult,
    fun hq => queue_submit (h := s.hub.begun.testAsked kind) hq, x.keeps .dev, x.keeps .bst⟩

theorem completes_testRefused {c : Instr} {s : State} {w : Fin 8} {v : Word} {kind : Nat} (hx : exec c s = s.on (fun h => h.bstRow w v.toNat kind))
    (hord : s.hub.testOrdered w v kind = false) :
    Completes c s (fun h => h.regs = s.hub.regs ∧ h.dev = s.hub.dev ∧ h.bst = s.hub.bst ∧ h.sch = s.hub.sch) := by
  refine completes_of_begun hx ?_
  rw [bstRow_refused (h := s.hub.begun) hord]
  exact ⟨rfl, rfl, rfl, rfl⟩

/-! ### The order that is admitted -/

/-- An admitted self-test begins, on the hub but for what the scheduler notes of it. -/
theorem admitCand_bist (h : Hub) (kind : Nat) : ∃ k : Hub, Moves ⟨[.sch], [SCH_STAT_queued], []⟩ h k ∧ h.admitCand (bstCand kind) = k.enterTest kind := by
  refine ⟨_, ?_, rfl⟩
  exact ((Moves.refl _ h).to (dropCand_moves _ _)).sch _

/-- A self-test of the logic die, as it begins: in *Test*, with ERR latched and the groups to come. -/
def Hub.logicTests (h k : Hub) (kind : Nat) : Prop :=
  k.tests ∧ k.dev.test = true ∧ k.dev.testHold = h.errLow ∧ k.bst.todo = bitList 6 (h.rd BST_XCTRL_lg_mask) ∧
    k.rd BST_STAT_group = (bitList 6 (h.rd BST_XCTRL_lg_mask)).headD 15 ∧ k.bst.fieldNext = (kind == 3) ∧ k.bst.field = false ∧
    k.bst.start = h.clk.now ∧ k.bst.fails = 0 ∧ k.rd BST_STAT_kind = kind

theorem headD_group_lt (v : Nat) : (bitList 6 v).headD 15 < 2 ^ BST_STAT_group.width := by
  cases hl : bitList 6 v with
  | nil => decide
  | cons g rest =>
    have hg : g < 6 := bitList_lt (n := 6) (v := v) (by rw [hl]; exact List.mem_cons_self)
    exact Nat.lt_trans hg (by decide)

theorem testQuiet_clk (h : Hub) : h.testQuiet.clk = h.clk :=
  ((((Moves.refl ⟨[.hinge, .tmbs, .sch, .ints, .pins, .eng, .mem, .free, .wds, .dbt, .regs], [], []⟩ h).to (stopAll_moves h 8 false)).to
    (wdFreezeAll_moves _)).to (closeSafetyPages_moves _) |>.to (abandonProof_moves _)).keeps .clk

theorem enterTest_logic {h : Hub} {kind : Nat} (hk : kind = 1 ∨ kind = 3) : h.logicTests (h.enterTest kind) kind := by
  have hlt : kind < 8 := by omega
  have hnot : (kind == 2) = false := by
    rw [beq_eq_false_iff_ne]
    omega
  have hgroups : (h.lbistGroups kind).1 = bitList 6 (h.rd BST_XCTRL_lg_mask) := by
    rcases hk with rfl | rfl <;> rfl
  obtain ⟨htests, hkind⟩ := testBegun_tests h hlt
  have x : Moves ⟨[.hinge], [BST_STAT_group], []⟩ (h.testBegun kind) (h.enterTest kind) := by
    rw [enterTest_eq, hnot, if_neg Bool.false_ne_true]
    exact ((Moves.refl _ _).to (request_moves _ _ _ _)).wr _ _ _ _
  have hdev : (h.enterTest kind).dev = (h.testBegun kind).dev := x.keeps .dev
  have hbst : (h.enterTest kind).bst = (h.testBegun kind).bst := x.keeps .bst
  have hclk : (h.testQuiet.testShown kind).clk = h.clk := ((testShown_moves _ kind).keeps .clk).trans (testQuiet_clk h)
  refine ⟨tests_of_moves x htests, congrArg Dev.test hdev, (congrArg Dev.testHold hdev).trans ?_, (congrArg Bst.todo hbst).trans hgroups, ?_,
    congrArg Bst.fieldNext hbst, congrArg Bst.field hbst, (congrArg Bst.start hbst).trans (congrArg Clk.now hclk), congrArg Bst.fails hbst,
    (x.rd BST_STAT_kind 0 0).trans hkind⟩
  · show (h.errLow && !(kind == 2)) = h.errLow
    rw [hnot, Bool.not_false, Bool.and_true]
  · rw [enterTest_eq, hnot, if_neg Bool.false_ne_true, hgroups]
    exact Hub.rd_wr_of_lt _ 0 0 (headD_group_lt _)

theorem testBegun_moves (h : Hub) (kind : Nat) : Moves ⟨[.hinge, .tmbs, .sch, .ints, .pins, .eng, .mem, .free, .wds, .dbt, .dev, .bst],
    intFlds ++ stopFlds ++ forceFlds ++ [SCH_STAT_queued, TMB_MARCH_CNT_count, TMB_MARCH_FIRST_addr, TMB_MARCH_FIRST_valid, TMB_MARCH_SIG_sig,
      WRD_EXP_OPEN_open, BST_STAT_busy, BST_STAT_kind, BST_STAT_result, BST_STAT_boot, BST_STAT_fail_groups], []⟩ h (h.testBegun kind) :=
  ((((((Moves.refl _ h).to (stopAll_moves h 8 false)).to (wdFreezeAll_moves _)).to (closeSafetyPages_moves _)).to (abandonProof_moves _)).to
    (testShown_moves _ kind)).dev_bst _ _

/-- A self-test of the field die, as it begins: its output channels are sent to their safe states first. -/
theorem enterTest_field (h : Hub) : (h.enterTest 2).tests ∧ (h.enterTest 2).dev.test = true ∧ (h.enterTest 2).dev.testHold = false ∧
    (h.enterTest 2).bst.field = true ∧ (h.enterTest 2).bst.start = h.clk.now ∧ (h.enterTest 2).bst.fails = 0 ∧
    (h.enterTest 2).rd BST_STAT_kind = 2 ∧ (∀ c ∈ h.outList, (h.enterTest 2).atSafe c) := by
  have heq : h.enterTest 2 = (h.testBegun 2).fieldWaits.fieldTestGo := enterTest_eq h 2
  obtain ⟨htests, hkind⟩ := testBegun_tests h (kind := 2) (by decide)
  have hwaits := fieldWaits_moves (h.testBegun 2)
  have hsafe := sendSafe_moves ((h.testBegun 2).fholdStop.wr BST_STAT_group 0xF) (h.testBegun 2).outList
    fun _ hc => List.mem_range.mp (List.mem_filter.mp hc).1
  have hstop : Moves ⟨[.sup, .hinge, .outs], [BST_STAT_group], []⟩ (h.testBegun 2) ((h.testBegun 2).fholdStop.wr BST_STAT_group 0xF) :=
    ((Moves.refl _ _).to (fholdStop_moves _)).wr _ _ _ _
  have hbst : ((h.testBegun 2).fholdStop.wr BST_STAT_group 0xF |>.sendSafe (h.testBegun 2).outList).bst = (h.testBegun 2).bst :=
    (hsafe.keeps .bst).trans (hstop.keeps .bst)
  have hstart : (h.testBegun 2).fieldWaits.bst.start = (h.testBegun 2).bst.start := by
    have hsame := congrArg Bst.start hbst
    exact hsame
  have hfails : (h.testBegun 2).fieldWaits.bst.fails = (h.testBegun 2).bst.fails := by
    have hsame := congrArg Bst.fails hbst
    exact hsame
  have hdev : ((h.testBegun 2).fholdStop.wr BST_STAT_group 0xF |>.sendSafe (h.testBegun 2).outList).dev = (h.testBegun 2).dev :=
    (hsafe.keeps .dev).trans (hstop.keeps .dev)
  have hgo := fieldTestGo_foot (h.testBegun 2).fieldWaits
  have hdevs : (h.enterTest 2).dev = (h.testBegun 2).fieldWaits.dev := by
    rw [heq]
    exact hgo.keeps .dev
  obtain ⟨⟨runs, hruns⟩, hcmd⟩ := fieldTestGo_keeps (h.testBegun 2).fieldWaits
  rw [← heq] at hruns hcmd hgo
  have hclk : (h.testQuiet.testShown 2).clk = h.clk := ((testShown_moves _ 2).keeps .clk).trans (testQuiet_clk h)
  have hout : (h.testBegun 2).outList = h.outList := outList_of_moves (testBegun_moves h 2)
  refine ⟨tests_of_moves hgo (tests_of_moves hwaits htests), (congrArg Dev.test hdevs).trans (congrArg Dev.test hdev), congrArg Dev.testHold hdevs,
    congrArg Bst.field hruns, ?_, ?_, (hgo.rd BST_STAT_kind 0 0).trans ((hwaits.rd BST_STAT_kind 0 0).trans hkind), fun c hc => ?_⟩
  · exact (congrArg Bst.start hruns).trans (hstart.trans (congrArg Clk.now hclk))
  · exact (congrArg Bst.fails hruns).trans hfails
  · obtain ⟨hheld, hcode⟩ := fieldWaits_atSafe (h.testBegun 2) (hout ▸ hc)
    have hlt : c < 16 := List.mem_range.mp (List.mem_filter.mp hc).1
    exact ⟨(hgo.flag OUT_STAT_safe_hold c 0 hlt).trans hheld, (congrArg (fun v : Vector Nat 16 => vget v c 0) hcmd).trans hcode⟩

/-- An order that is admitted takes the hub into *Test* with its own write. -/
theorem completes_testBegins {c : Instr} {s : State} {w : Fin 8} {v : Word} {kind : Nat} {P : Hub → Prop}
    (hx : exec c s = s.on (fun h => h.bstRow w v.toNat kind)) (hkind : kind ≠ 0) (hord : s.hub.testOrdered w v kind = true)
    (hadm : ((s.hub.testAsked kind).judgeCand (bstCand kind)).1 = true)
    (hp : ∀ k : Hub, Moves ⟨[.sch], [SCH_STAT_queued], []⟩ (s.hub.begun.testAsked kind) k → P (k.enterTest kind)) : Completes c s P := by
  refine completes_of_begun hx ?_
  rw [bstRow_ordered (h := s.hub.begun) hkind hord, judgeCand_begun, hadm, if_pos rfl]
  obtain ⟨k, hk, heq⟩ := admitCand_bist (s.hub.begun.testAsked kind) kind
  rw [heq]
  exact hp k hk

theorem testAsked_moves (h : Hub) (kind : Nat) : Moves ⟨[], [BST_STAT_busy, BST_STAT_kind, BST_STAT_result], []⟩ h (h.testAsked kind) :=
  (((Moves.refl _ h).put _ _ _ _).wr _ _ _ _).wr _ _ _ _

/-- What the scheduler notes of an admitted test leaves of what the entry to *Test* looks at. -/
theorem asked_same {s : State} {kind : Nat} {k : Hub} (hk : Moves ⟨[.sch], [SCH_STAT_queued], []⟩ (s.hub.begun.testAsked kind) k) :
    k.errLow = s.hub.errLow ∧ k.clk = s.hub.clk ∧ k.rd BST_XCTRL_lg_mask = s.hub.rd BST_XCTRL_lg_mask ∧ k.outList = s.hub.outList := by
  have x := ((Moves.refl ⟨[.sch], [SCH_STAT_queued, BST_STAT_busy, BST_STAT_kind, BST_STAT_result], []⟩ s.hub.begun).to
    (testAsked_moves s.hub.begun kind)).to hk
  have herr := errLow_of_moves x
  have hout := outList_of_moves x
  exact ⟨herr, x.keeps .clk, x.rd BST_XCTRL_lg_mask 0 0, hout⟩

theorem logicTests_asked {s : State} {kind : Nat} {k : Hub} (hk : Moves ⟨[.sch], [SCH_STAT_queued], []⟩ (s.hub.begun.testAsked kind) k)
    (hkind : kind = 1 ∨ kind = 3) : s.hub.logicTests (k.enterTest kind) kind := by
  obtain ⟨herr, hclk, hmask, -⟩ := asked_same hk
  obtain ⟨htests, htest, hhold, htodo, hgroup, hnext, hfield, hstart, hfails, hkinds⟩ := enterTest_logic (h := k) hkind
  rw [hmask] at htodo hgroup
  exact ⟨htests, htest, hhold.trans herr, htodo, hgroup, hnext, hfield, hstart.trans (congrArg Clk.now hclk), hfails, hkinds⟩

/-! ### The obligation -/

theorem testOrdered_of {h : Hub} {w : Fin 8} {v : Word} {kind : Nat} (hc : (h.writable w && w.val == 0 && v.toNat / 2 ^ 16 == 0x4253 &&
    v.toNat % 4 == kind && h.bstStatus v.toNat == 0) = true) : h.testOrdered w v kind = true := hc

/-- Settles O38: an order waits, is refused, or takes the hub into *Test* with everything stopped. -/
theorem selfTestOrders : Obligations.SelfTestOrders := by
  unfold Obligations.SelfTestOrders
  refine ⟨fun s w v hcan => ?wait1, fun s w v hcan => ?no1, fun s w v hcan => ?wait2, fun s w v hcan => ?no2, fun s w v hcan => ?wait3,
    fun s w v hcan => ?no3, fun s w v hcan => ?logic, fun s w v hcan => ?field, fun s w v hcan => ?both, fun s w v hcan => ?mask,
    fun s w v hcan => ?noMask⟩
  case wait1 =>
    obtain ⟨hord, hnot⟩ := Bool.and_eq_true_iff.mp hcan
    exact completes_testWaits (exec_bstLogic w v s) (by decide) (by decide) hord (Eq.mp (Bool.not_eq_true' _) hnot)
  case wait2 =>
    obtain ⟨hord, hnot⟩ := Bool.and_eq_true_iff.mp hcan
    exact completes_testWaits (exec_bstField w v s) (by decide) (by decide) hord (Eq.mp (Bool.not_eq_true' _) hnot)
  case wait3 =>
    obtain ⟨hord, hnot⟩ := Bool.and_eq_true_iff.mp hcan
    exact completes_testWaits (exec_bstLogicThenField w v s) (by decide) (by decide) hord (Eq.mp (Bool.not_eq_true' _) hnot)
  case no1 => exact completes_testRefused (exec_bstLogic w v s) (Eq.mp (Bool.not_eq_true' _) hcan)
  case no2 => exact completes_testRefused (exec_bstField w v s) (Eq.mp (Bool.not_eq_true' _) hcan)
  case no3 => exact completes_testRefused (exec_bstLogicThenField w v s) (Eq.mp (Bool.not_eq_true' _) hcan)
  case logic =>
    obtain ⟨hord, hadm⟩ := Bool.and_eq_true_iff.mp hcan
    refine completes_testBegins (kind := 1) (exec_bstLogic w v s) (by decide) hord hadm fun k hk => ?_
    obtain ⟨⟨hbusy, hresult, hboot, htmb, hwd, hpages, hproof⟩, htest, hhold, htodo, hgroup, hnext, -, hstart, hfails, hkind⟩ :=
      logicTests_asked hk (.inl rfl)
    exact ⟨htest, hhold, htodo, hgroup, hnext, hstart, hfails, hkind, hbusy, hresult, hboot, htmb, hwd, hpages, hproof, hbusy⟩
  case both =>
    obtain ⟨hord, hadm⟩ := Bool.and_eq_true_iff.mp hcan
    refine completes_testBegins (kind := 3) (exec_bstLogicThenField w v s) (by decide) hord hadm fun k hk => ?_
    obtain ⟨⟨hbusy, hresult, hboot, htmb, hwd, hpages, hproof⟩, htest, hhold, htodo, hgroup, hnext, hfield, hstart, hfails, hkind⟩ :=
      logicTests_asked hk (.inr rfl)
    exact ⟨htest, hhold, htodo, hnext, hfield, hstart, hfails, hkind, hbusy, hresult, hboot, htmb, hwd, hpages, hproof, hbusy⟩
  case field =>
    obtain ⟨hord, hadm⟩ := Bool.and_eq_true_iff.mp hcan
    refine completes_testBegins (kind := 2) (exec_bstField w v s) (by decide) hord hadm fun k hk => ?_
    obtain ⟨-, hclk, -, hout⟩ := asked_same hk
    obtain ⟨⟨hbusy, hresult, hboot, htmb, hwd, hpages, hproof⟩, htest, hhold, hfield, hstart, hfails, hkind, hsafe⟩ := enterTest_field k
    rw [hout] at hsafe
    exact ⟨htest, hhold, hfield, hstart.trans (congrArg Clk.now hclk), hfails, hkind, hsafe, hbusy, hresult, hboot, htmb, hwd, hpages, hproof, hbusy⟩
  case mask =>
    refine completes_of_begun (exec_bstXctrlWrite w v s) ?_
    rw [if_pos (by exact hcan)]
    refine ⟨?_, Hub.rd_wr_of_lt _ 0 0 (by exact Nat.mod_lt _ (by decide)), rfl⟩
    rw [Hub.writeBstXctrl, Hub.rd_wr_apart _ _ _ _ _ _ (by decide)]
    exact Hub.rd_wr_of_lt _ 0 0 (by exact Nat.mod_lt _ (by decide))
  case noMask =>
    refine completes_of_begun (exec_bstXctrlWrite w v s) ?_
    rw [if_neg (by exact not_of_guard hcan)]
    exact ⟨rfl, rfl⟩

end Sys2Proof.Machine

/-!
PROOF. *Safe* and its exit, thermal *Halt*, and the field die's global shutdown (R18, R516, R638, R672).
-/

namespace Sys2Proof.Machine

set_option Elab.async false

theorem safe_of_state {h : Hub} (hs : h.state = .safe) : h.dev.safe = true := by
  cases hsafe : h.dev.safe with
  | true => rfl
  | false =>
    unfold Hub.state at hs
    rw [hsafe] at hs
    split at hs
    · exact absurd hs (by decide)
    · repeat' split at hs
      all_goals simp_all

/-! ### Temperatures -/

theorem temps_setTemp (h : Hub) {s : Nat} (t : Int) (hs : s < 8) : vget (h.setTemp s t).sch.temps s 0 = t := vget_vset_self _ _ _ _ hs

theorem le_maxTemp_start (l : List Int) (d : Int) : d ≤ maxTemp l d := by
  induction l generalizing d with
  | nil => exact Int.le_refl d
  | cons a rest ih => exact Int.le_trans (Int.le_max_left d a) (ih (max d a))

theorem le_maxTemp {l : List Int} {x : Int} (d : Int) (hx : x ∈ l) : x ≤ maxTemp l d := by
  induction l generalizing d with
  | nil => exact absurd hx List.not_mem_nil
  | cons a rest ih =>
    rcases List.mem_cons.mp hx with rfl | hin
    · exact Int.le_trans (Int.le_max_right d x) (le_maxTemp_start rest (max d x))
    · exact ih (max d a) hin

theorem maxTemp_lt {l : List Int} {d x : Int} (hl : ∀ y ∈ l, y < x) (hd : d < x) : maxTemp l d < x := by
  induction l generalizing d with
  | nil => exact hd
  | cons a rest ih =>
    exact ih (fun y hy => hl y (List.mem_cons_of_mem a hy)) (Int.max_lt.mpr ⟨hd, hl a List.mem_cons_self⟩)

theorem fieldTemp_ge (h : Hub) {s : Nat} (hs : s < 6) : vget h.sch.temps s 0 ≤ h.fieldTemp :=
  le_maxTemp _ (List.mem_map.mpr ⟨s, List.mem_range.mpr hs, rfl⟩)

theorem fieldTemp_lt {h : Hub} {x : Int} (hall : ∀ s, s < 6 → vget h.sch.temps s 0 < x) : h.fieldTemp < x := by
  refine maxTemp_lt (fun y hy => ?_) (hall 0 (by decide))
  obtain ⟨s, hs, rfl⟩ := List.mem_map.mp hy
  exact hall s (List.mem_range.mp hs)

/-- Every field sensor is below a temperature once the one that is read is, and the others are. -/
theorem temps_lt_setTemp {h : Hub} {sensor : Fin 6} {t x : Int} (ht : t < x)
    (hrest : (List.range 6).all (fun k => k == sensor.val || decide (vget h.sch.temps k 0 < x)) = true) :
    (h.setTemp sensor t).fieldTemp < x := by
  refine fieldTemp_lt fun s hs => ?_
  by_cases hsen : s = sensor
  · rw [hsen, temps_setTemp h t (Nat.lt_trans sensor.isLt (by decide))]
    exact ht
  · have hother := List.all_eq_true.mp hrest s (List.mem_range.mpr hs)
    rw [Bool.or_eq_true, beq_iff_eq, decide_eq_true_eq] at hother
    rw [show vget (h.setTemp sensor t).sch.temps s 0 = vget h.sch.temps s 0 from vget_vset_ne hsen]
    exact hother.resolve_left hsen

/-! ### The global shutdown -/

/-- With DB's shutdown in force a channel that is switched again is off. -/
theorem sw_reSwitch_of_globalOff {h : Hub} {c : Nat} (hc : c < 16) (hoff : h.dbt.globalOff = true) : ((h.reSwitch c).out c).sw = false := by
  have hsw : ((h.out c).latched && h.mayConduct c) = false := by simp [Hub.mayConduct, hoff]
  rw [reSwitch_eq, sw_switchFlags, Hub.switched, hsw, Hub.out_modOut_self _ _ _ hc]
  rfl

theorem dbt_reSwitch (h : Hub) (c : Nat) : (h.reSwitch c).dbt = h.dbt := (reSwitch_movesAny h c true).keeps .dbt

theorem dbt_reSwitches (h : Hub) : (forAll (List.range 16) (fun h c => h.reSwitch c) h).dbt = h.dbt :=
  forAll_kept_of (g := Hub.dbt) (fun k d _ => dbt_reSwitch k d) h

/-- DB's shutdown switches every channel off. -/
theorem setGlobal_switches {h : Hub} (hnot : h.dbt.globalOff = false) (c : Fin 16) : ((h.setGlobal true).out c).sw = false := by
  have hall := forAll_all (f := fun h c => h.reSwitch c) (P := fun h c => h.dbt.globalOff = true → (h.out c).sw = false) (l := List.range 16)
    (fun k d hd hoff => sw_reSwitch_of_globalOff (List.mem_range.mp hd) (by rwa [dbt_reSwitch] at hoff))
    (fun k d e hd _ hk hoff => by
      rw [dbt_reSwitch] at hoff
      by_cases hed : e = d
      · subst hed
        exact sw_reSwitch_of_globalOff (List.mem_range.mp hd) hoff
      · rw [sw_reSwitch_ne hed]
        exact hk hoff)
    (List.mem_range.mpr c.isLt) { h with dbt := { h.dbt with globalOff := true } }
  have heq : h.setGlobal true = forAll (List.range 16) (fun h c => h.reSwitch c) { h with dbt := { h.dbt with globalOff := true } } :=
    if_neg (by rw [hnot]; decide)
  rw [heq]
  exact hall (congrArg Dbt.globalOff (dbt_reSwitches _))

theorem globalOff_setGlobal (h : Hub) (off : Bool) : (h.setGlobal off).dbt.globalOff = off := by
  unfold Hub.setGlobal
  split
  case isTrue hsame => exact beq_iff_eq.mp hsame
  case isFalse => rw [dbt_reSwitches]

/-! ### Thermal *Halt* -/

/-- The temperatures are the same in two hubs. -/
def SameTemps (h k : Hub) : Prop := k.sch.temps = h.sch.temps

theorem SameTemps.to {F : Foot} {h₀ h k : Hub} (x : SameTemps h₀ h) (y : Moves F h k) (hF : F.parts.contains .sch = false := by decide) :
    SameTemps h₀ k := by
  have hsch : k.sch = h.sch := y.keeps .sch hF
  exact (congrArg Sch.temps hsch).trans x

theorem SameTemps.refl (h : Hub) : SameTemps h h := rfl

theorem SameTemps.trans {a b c : Hub} (x : SameTemps a b) (y : SameTemps b c) : SameTemps a c := Eq.trans y x

theorem temps_forAll {f : Hub → Nat → Hub} {l : List Nat} (hf : ∀ h t, t ∈ l → SameTemps h (f h t)) (h : Hub) : SameTemps h (forAll l f h) :=
  forAll_kept_of (g := fun k : Hub => k.sch.temps) hf h

theorem temps_dropHeavy (h : Hub) (c : Nat) : SameTemps h (h.dropHeavy c) := by
  unfold Hub.dropHeavy
  dsimp only
  refine SameTemps.trans (b := if ((h.sch.queue.filter _).map (·.ref)).isEmpty then h else h.dropCand _) ?_
    (temps_forAll (fun k t _ => (SameTemps.refl k).to (modTmb_moves k t _)) _)
  split
  · rfl
  · rfl

theorem temps_setSafeHold (h : Hub) (c : Nat) : SameTemps h (h.setSafeHold c) := by
  have hdrop : SameTemps h (((h.dropCand (movesCh (h.lead c))).dropHeavy (h.lead c)).modOut c (fun o => { o with wait := none })) :=
    SameTemps.trans (b := h.dropCand (movesCh (h.lead c))) rfl ((temps_dropHeavy _ _).to (modOut_moves _ _ _))
  unfold Hub.setSafeHold
  dsimp only
  split
  · exact hdrop
  · unfold SameTemps
    rw [show (Hub.intOwner _ _ _).sch = _ from (intOwner_moves _ _ _).keeps .sch]
    exact hdrop

theorem temps_sendSafe (h : Hub) (chs : List Nat) : SameTemps h (h.sendSafe chs) := by
  have hheld : SameTemps h (forAll (chs.filter h.isOut) Hub.setSafeHold h) := temps_forAll (fun k c _ => temps_setSafeHold k c) h
  unfold Hub.sendSafe
  dsimp only
  split
  · exact hheld
  · exact hheld.to (command_moves _ _ _ _)

theorem temps_tmbEnded (h : Hub) (t cause : Nat) : SameTemps h (h.tmbEnded t cause) := rfl

theorem temps_tmbStop (h : Hub) {t : Nat} (cause : Nat) (release : Bool) (ht : t < 8) : SameTemps h (h.tmbStop t cause release) := by
  have hquiet : SameTemps h (h.tmbQuiet t release) := (SameTemps.refl h).to (tmbQuiet_moves h t release ht)
  have hended (r : Nat) (o : Option Nat) : SameTemps h ((((h.tmbQuiet t release).tmbEnded t cause).tmbRetire t r).intOwner o 16) :=
    ((hquiet.trans (temps_tmbEnded _ t cause)).to (tmbRetire_moves _ _ _)).to (intOwner_moves _ _ _)
  rw [tmbStop_eq]
  split
  · exact hended _ _
  · exact hquiet

theorem temps_cancelBist (h : Hub) : SameTemps h h.cancelBist := by
  unfold Hub.cancelBist
  split
  · unfold SameTemps
    rw [show (Hub.intEvent _ _ _).sch = _ from (intEvent_moves _ _ _).keeps .sch]
    rfl
  · rfl

theorem life_intake (h : Hub) (e : RecEvent) : (h.intake e).ret.life = h.ret.life := by
  have hseq : h.giveSeq.2.ret.life = h.ret.life := by
    unfold Hub.giveSeq
    split
    · rfl
    · rfl
  have hfifo : ((h.giveSeq.2.fifoIn { e with seq := h.giveSeq.1 }).ret = h.giveSeq.2.ret) := (fifoIn_moves _ _).keeps .ret
  unfold Hub.intake
  split
  · rfl
  · split
    · split
      · rfl
      · exact congrArg Retained.life ((countDrop_moves (h.count BST_RUNS_lost) e.sev).keeps .ret)
    · exact (congrArg Retained.life hfifo).trans hseq

theorem life_pendingRec (h : Hub) (typ source sev len : Nat) (payload : List Nat) :
    (h.pendingRec typ source sev len payload).ret.life = h.ret.life := by
  unfold Hub.pendingRec
  split
  · rfl
  · rfl

/-- The hub as a thermal *Halt* takes it out of every other activity (R672). -/
def Hub.haltBegun (h : Hub) (fieldDie : Bool) : Hub :=
  let k := h.pendingRec 0x10 0x41 sevSafety 12 [temp16 h.logicTemp + temp16 h.fieldTemp * 2 ^ 16, b2n fieldDie, h.state.code]
  if k.dev.test then (k.endTest 3).bistRecord else k.cancelBist

/-- The hub in thermal *Halt*, before its tumblers and watchdogs stop. -/
def Hub.halted (h : Hub) : Hub :=
  let h := { h with dev := { h.dev with halt := some .thermal, exitStep := 0, boltBoot := true, haltAt := h.clk.now } }
  { h with ret := { h.ret with life := { h.ret.life with halts := satInc (2 ^ 32 - 1) h.ret.life.halts } } }

/-- What a thermal *Halt* stops once every channel has been sent to its safe state. -/
def Hub.haltStops (h : Hub) : Hub :=
  (forAll (List.range 8) (fun h t => h.tmbStop t 9 true) h).closeSafetyPages.abandonProof.wdStopAll

theorem thermalHalt_eq {h : Hub} (fieldDie : Bool) (hgo : (h.dev.halt.isSome || h.dev.phase == .off) = false) : h.thermalHalt fieldDie =
    (((h.haltBegun fieldDie).halted.wantTone .bolt).sendSafe (h.haltBegun fieldDie).halted.outList).haltStops := by
  unfold Hub.thermalHalt
  rw [hgo]
  rfl

theorem haltBegun_moves (h : Hub) (fieldDie : Bool) : Moves ⟨[.ret, .dev, .bst, .recd, .sch, .ints, .pins],
    testFlds ++ noteFlds ++ intFlds ++ [BST_STAT_busy, BST_STAT_result, SCH_STAT_queued], []⟩ h (h.haltBegun fieldDie) :=
  .bind ((Moves.refl _ h).to (pendingRec_moves _ _ _ _ _ _)) fun y => .ite ((y.to (endTest_moves _ _)).to (bistRecord_moves _))
    (y.to (cancelBist_moves _))

theorem life_haltBegun (h : Hub) (fieldDie : Bool) : (h.haltBegun fieldDie).ret.life = h.ret.life := by
  unfold Hub.haltBegun
  dsimp only
  split
  · rw [show (Hub.bistRecord _).ret.life = _ from life_intake _ _, show (Hub.endTest _ 3).ret = _ from (endTest_moves _ _).keeps .ret]
    exact life_pendingRec _ _ _ _ _ _
  · rw [show (Hub.cancelBist _).ret = _ from (cancelBist_moves _).keeps .ret]
    exact life_pendingRec _ _ _ _ _ _

theorem temps_haltBegun (h : Hub) (fieldDie : Bool) : SameTemps h (h.haltBegun fieldDie) := by
  have hpend (l : List Nat) : SameTemps h (h.pendingRec 0x10 0x41 sevSafety 12 l) := (SameTemps.refl h).to (pendingRec_moves _ _ _ _ _ _)
  unfold Hub.haltBegun
  dsimp only
  split
  · exact ((hpend _).to (endTest_moves _ _)).to (bistRecord_moves _)
  · exact (hpend _).trans (temps_cancelBist _)

theorem haltStops_moves (h : Hub) : Moves ⟨[.hinge, .tmbs, .sch, .ints, .pins, .eng, .mem, .free, .dbt, .wds],
    intFlds ++ stopFlds ++ forceFlds ++ [SCH_STAT_queued, TMB_MARCH_CNT_count, TMB_MARCH_FIRST_addr, TMB_MARCH_FIRST_valid, TMB_MARCH_SIG_sig,
      WRD_EXP_OPEN_open], []⟩ h h.haltStops :=
  ((((Moves.refl _ h).to (stopAll_moves h 9 true)).to (closeSafetyPages_moves _)).to (abandonProof_moves _)).to (wdStopAll_moves _)

/-- What the stops of a thermal *Halt* leave of the orders to the field die, of the temperatures, and of what they stop. -/
theorem haltStops_spec (h : Hub) : h.haltStops.hinge.orders = h.hinge.orders ∧ SameTemps h h.haltStops ∧ h.haltStops.dbt.proof = none ∧
    (∀ k : Fin 9, (h.haltStops.wd k).state = 0) ∧ (∀ u : Fin 8, h.haltStops.tmbRuns u = false) := by
  have hrest : Moves ⟨[.dbt, .wds], forceFlds ++ [WRD_EXP_OPEN_open], []⟩ (forAll (List.range 8) (fun h t => h.tmbStop t 9 true) h) h.haltStops :=
    (((Moves.refl _ _).to (closeSafetyPages_moves _)).to (abandonProof_moves _)).to (wdStopAll_moves _)
  have hdbt : h.haltStops.dbt = (forAll (List.range 8) (fun h t => h.tmbStop t 9 true) h).closeSafetyPages.abandonProof.dbt :=
    (wdStopAll_moves _).keeps .dbt
  have hstop : SameTemps h (forAll (List.range 8) (fun h t => h.tmbStop t 9 true) h) :=
    temps_forAll (fun k _ ht => temps_tmbStop k 9 true (List.mem_range.mp ht)) h
  refine ⟨?_, hstop.to hrest, congrArg Dbt.proof hdbt, fun k => wdStopAll_stops _ k, fun u => (tmbRuns_of_moves hrest u).trans (stopAll_rest h 9 true u)⟩
  rw [show h.haltStops.hinge = _ from hrest.keeps .hinge]
  exact orders_stopAll h 9 true

end Sys2Proof.Machine

/-!
PROOF. *Safe* and its exit, thermal *Halt*, and the global shutdown: the obligation, clause by clause.
-/

namespace Sys2Proof.Machine

set_option Elab.async false

/-! ### The tone that is wanted -/

theorem daWant_newGen (h : Hub) (g : Nat) (urgent : Bool) : (h.newGen g urgent).hinge.daWant = h.hinge.daWant := by
  unfold Hub.newGen
  split
  · rfl
  · split
    · rfl
    · exact congrArg (fun o : Vector Nat 16 × Tone × Nat => o.2.1) (orders_sendL _ _)

theorem daWant_command (h : Hub) (chs : List Nat) (code : Nat) (urgent : Bool) : (h.command chs code urgent).hinge.daWant = h.hinge.daWant := by
  unfold Hub.command
  dsimp only
  split <;> split <;> simp only [daWant_newGen]

theorem daWant_setSafeHold (h : Hub) (c : Nat) : (h.setSafeHold c).hinge.daWant = h.hinge.daWant := by
  have hdrop : ((h.dropCand (movesCh (h.lead c))).dropHeavy (h.lead c)).hinge = h.hinge :=
    (((Moves.refl ⟨[.tmbs, .sch], [SCH_STAT_queued], []⟩ h).to (dropCand_moves _ _)).to (dropHeavy_moves _ _)).keeps .hinge
  have hwant := congrArg Hinge.daWant hdrop
  unfold Hub.setSafeHold
  dsimp only
  split
  · exact hwant
  · rw [show (Hub.intOwner _ _ _).hinge = _ from (intOwner_moves _ _ _).keeps .hinge]
    exact hwant

theorem daWant_sendSafe (h : Hub) (chs : List Nat) : (h.sendSafe chs).hinge.daWant = h.hinge.daWant := by
  have hheld := forAll_kept_of (f := Hub.setSafeHold) (g := fun k : Hub => k.hinge.daWant) (l := chs.filter h.isOut)
    (fun k c _ => daWant_setSafeHold k c) h
  unfold Hub.sendSafe
  dsimp only
  split
  · exact hheld
  · exact (daWant_command _ _ _ _).trans hheld

/-! ### Thermal *Halt* -/

/-- What a thermal *Halt* leaves. -/
theorem thermalHalt_spec {h : Hub} (fieldDie : Bool) (hgo : (h.dev.halt.isSome || h.dev.phase == .off) = false) :
    (h.thermalHalt fieldDie).dev.halt = some .thermal ∧ (h.thermalHalt fieldDie).hinge.daWant = .bolt ∧
    (h.thermalHalt fieldDie).dbt.proof = none ∧ (∀ k : Fin 9, ((h.thermalHalt fieldDie).wd k).state = 0) ∧
    (∀ u : Fin 8, (h.thermalHalt fieldDie).tmbRuns u = false) ∧ (∀ c ∈ h.outList, (h.thermalHalt fieldDie).atSafe c) ∧
    SameTemps h (h.thermalHalt fieldDie) ∧ (h.thermalHalt fieldDie).ret.life.halts = satInc (2 ^ 32 - 1) h.ret.life.halts := by
  rw [thermalHalt_eq fieldDie hgo]
  have hbefore := outList_of_moves (haltBegun_moves h fieldDie)
  have hout : (h.haltBegun fieldDie).halted.outList = h.outList := hbefore
  have htone := wantTone_moves (h.haltBegun fieldDie).halted .bolt
  have hsafe := sendSafe_moves ((h.haltBegun fieldDie).halted.wantTone .bolt) (h.haltBegun fieldDie).halted.outList
    fun _ hc => List.mem_range.mp (List.mem_filter.mp hc).1
  have hstops := haltStops_moves (((h.haltBegun fieldDie).halted.wantTone .bolt).sendSafe (h.haltBegun fieldDie).halted.outList)
  obtain ⟨horders, htemps, hproof, hwd, htmb⟩ :=
    haltStops_spec (((h.haltBegun fieldDie).halted.wantTone .bolt).sendSafe (h.haltBegun fieldDie).halted.outList)
  have hdev := (hstops.keeps .dev).trans ((hsafe.keeps .dev).trans (htone.keeps .dev))
  have hret := (hstops.keeps .ret).trans ((hsafe.keeps .ret).trans (htone.keeps .ret))
  have hwant := congrArg (fun o : Vector Nat 16 × Tone × Nat => o.2.1) horders
  have hcmd := congrArg (fun o : Vector Nat 16 × Tone × Nat => o.1) horders
  refine ⟨congrArg Dev.halt hdev, hwant.trans ((daWant_sendSafe _ _).trans (daWant_wantTone _ _)), hproof, hwd, htmb, fun c hc => ?_, ?_, ?_⟩
  · obtain ⟨hlt, houts⟩ := List.mem_filter.mp hc
    have hisOut : ((h.haltBegun fieldDie).halted.wantTone .bolt).isOut c = true :=
      (isOut_of_moves htone (List.mem_range.mp hlt)).trans ((isOut_of_moves (haltBegun_moves h fieldDie) (List.mem_range.mp hlt)).trans houts)
    obtain ⟨hheld, hcode⟩ := sendSafe_atSafe ((h.haltBegun fieldDie).halted.wantTone .bolt)
      (fun _ hd => List.mem_range.mp (List.mem_filter.mp hd).1) (hout.symm ▸ hc) hisOut
    exact ⟨(hstops.flag OUT_STAT_safe_hold c 0 (List.mem_range.mp hlt)).trans hheld, (congrArg (fun v : Vector Nat 16 => vget v c 0) hcmd).trans hcode⟩
  · have hbegun : SameTemps h (h.haltBegun fieldDie).halted := temps_haltBegun h fieldDie
    exact ((hbegun.to htone).trans (temps_sendSafe _ _)).trans htemps
  · refine (congrArg (fun r : Retained => r.life.halts) hret).trans ?_
    show satInc (2 ^ 32 - 1) (h.haltBegun fieldDie).ret.life.halts = _
    rw [life_haltBegun]

theorem haltGo {h : Hub} (hp : (h.dev.phase != .off) = true) (hh : h.dev.halt.isNone = true) :
    (h.dev.halt.isSome || h.dev.phase == .off) = false := by
  rw [Option.isNone_iff_eq_none] at hh
  rw [hh]
  simpa using hp

/-- The reading of a sensor asks for a thermal *Halt*. -/
def Hub.tooHot (h : Hub) (s : Nat) (t : Int) : Bool := if s < 6 then decide (1320 ≤ t) && h.hinge.upL else decide (1200 ≤ t)

theorem judgeHalt_eq (h : Hub) (s : Nat) :
    h.judgeHalt s = if h.tooHot s (vget h.sch.temps s 0) then h.thermalHalt (decide (s < 6)) else h := by
  unfold Hub.judgeHalt Hub.tooHot
  by_cases hs : s < 6
  · rw [if_pos hs, if_pos hs, decide_eq_true hs]
    rfl
  · rw [if_neg hs, if_neg hs, decide_eq_false hs]
    by_cases hge : 1200 ≤ vget h.sch.temps s 0
    · rw [if_pos (show tLogicHalt ≤ _ from hge), if_pos (decide_eq_true hge)]
    · rw [if_neg (show ¬ tLogicHalt ≤ _ from hge), if_neg (by simpa using hge)]

theorem judged_setTemp (h : Hub) (sensor : Fin 8) (t : Int) : (h.setTemp sensor t).judgeHalt sensor =
    if h.tooHot sensor t then (h.setTemp sensor t).thermalHalt (decide (sensor.val < 6)) else h.setTemp sensor t := by
  rw [judgeHalt_eq, temps_setTemp h t sensor.isLt]
  rfl

theorem thermalHalt_runs (s : State) (sensor : Fin 8) (t : BitVec 16) (hcan : Can.thermalHalt sensor t s = true) :
    Completes (.thermalHalt sensor t) s (fun h =>
      h.dev.halt = some .thermal ∧ h.hinge.daWant = .bolt ∧ h.dbt.proof = none ∧ (∀ k : Fin 9, (h.wd k).state = 0) ∧ (∀ u : Fin 8, h.tmbRuns u = false) ∧ (∀ c ∈ s.hub.outList, vget h.hinge.cmd c 0 = 2 ∧ h.flag OUT_STAT_safe_hold c = true) ∧ vget h.sch.temps sensor 0 = t.toInt ∧ h.ret.life.halts = satInc (2 ^ 32 - 1) s.hub.ret.life.halts) := by
  simp only [Can.thermalHalt, Bool.and_eq_true (a := _ && _)] at hcan
  obtain ⟨hup, hhot⟩ := hcan
  obtain ⟨hphase, hhalt⟩ := Bool.and_eq_true_iff.mp hup
  refine completes_of_begun (exec_thermalHalt sensor t s) ?_
  rw [judged_setTemp, if_pos (show s.hub.begun.tooHot sensor t.toInt = true from hhot)]
  obtain ⟨h1, h2, h3, h4, h5, h6, h7, h8⟩ :=
    thermalHalt_spec (h := s.hub.begun.setTemp sensor t.toInt) (decide (sensor.val < 6)) (haltGo hphase hhalt)
  refine ⟨h1, h2, h3, h4, h5, fun c hc => ?_, ?_, h8⟩
  · obtain ⟨hheld, hcmd⟩ := h6 c hc
    exact ⟨hcmd, hheld⟩
  · exact (congrArg (fun v : Vector Int 8 => vget v sensor.val 0) h7).trans (temps_setTemp _ _ sensor.isLt)

theorem thermalHalt_held (s : State) (sensor : Fin 8) (t : BitVec 16) (hcan : Can.thermalHalt2 sensor t s = true) :
    Completes (.thermalHalt sensor t) s (fun h =>
      h.dev = s.hub.dev ∧ vget h.sch.temps sensor 0 = t.toInt ∧ h.outs = s.hub.outs ∧ h.regs = s.hub.regs) := by
  refine completes_of_begun (exec_thermalHalt sensor t s) ?_
  have hkept : (s.hub.begun.setTemp sensor t.toInt).judgeHalt sensor = s.hub.begun.setTemp sensor t.toInt := by
    rw [judged_setTemp]
    split
    case isFalse => rfl
    case isTrue hhot =>
      refine if_pos ?_
      rw [Can.thermalHalt2, Bool.not_eq_true', Bool.and_eq_false_iff, Bool.and_eq_false_iff] at hcan
      rw [Bool.or_eq_true]
      rcases hcan with (hoff | hhalt) | hcold
      · rw [bne, Bool.not_eq_false'] at hoff
        exact .inr hoff
      · rw [Option.isNone_eq_false_iff] at hhalt
        exact .inl hhalt
      · exact absurd (hhot.symm.trans hcold) (by decide)
  rw [hkept]
  exact ⟨rfl, temps_setTemp _ _ sensor.isLt, rfl, rfl⟩

/-! ### The end of a thermal *Halt* -/

theorem warmBoot_spec (h : Hub) : (h.warmBoot 8).dev.halt = none ∧ (h.warmBoot 8).dev.phase = .boot ∧
    (h.warmBoot 8).dbt.globalOff = h.dbt.globalOff ∧ (h.warmBoot 8).ret.hist.head?.map (fun x => x % 16) = some 8 ∧
    (h.warmBoot 8).ret.boots = satInc (2 ^ 32 - 1) h.ret.boots ∧ (h.warmBoot 8).clk.tb = 0 ∧ (h.warmBoot 8).mem = [] ∧
    (h.warmBoot 8).nvm = h.nvm := by
  refine ⟨rfl, rfl, rfl, ?_, rfl, rfl, rfl, rfl⟩
  show some (((h.ret.boots % 2 ^ 16) * 2 ^ 16 + h.state.code * 2 ^ 12 + (15 % 16) * 2 ^ 8 + 8) % 16) = some 8
  congr 1
  omega

/-! ### The obligation -/

theorem cutoff_spec {h : Hub} (shifting : Bool) : (h.abandonNvm shifting).nvmOp = none ∧ (shifting = true → (h.abandonNvm shifting).nvm = h.nvm) ∧
    (h.abandonNvm shifting).dev = h.dev := by
  refine ⟨?_, fun hshift => ?_, (abandonNvm_moves h shifting).keeps .dev⟩
  · unfold Hub.abandonNvm
    split
    · next hnone => exact hnone
    · next o _ =>
      dsimp only
      split
      · rfl
      · exact ((((Moves.refl ⟨[.nvm, .free], [], []⟩ { h with nvmOp := none }).to (freeBytes_moves _ _)).to (freeBytes_moves _ _)).to
          (onNvm_moves _ _ _ _ (fun _ => o.cut_wf) fun _ => o.cut_wf)).keeps .nvmOp
  · subst hshift
    unfold Hub.abandonNvm
    split
    · rfl
    · rfl

/-- Settles O35: each command as its clause says. -/
theorem safeCommands : Obligations.SafeCommands := by
  unfold Obligations.SafeCommands
  refine ⟨fun s w v hcan => ?exit, fun s w v hcan => ?refused, fun s w v hcan => ?other, fun s hcan => ?leave, fun s hcan => ?stay,
    thermalHalt_runs, thermalHalt_held, fun s sensor t hcan => ?shut, fun s sensor t hcan => ?below, fun s sensor t hcan => ?cool,
    fun s logic field hcan => ?back, fun s logic field hcan => ?hot, fun s shifting hcan => ?cut, fun s shifting hcan => ?noCut⟩
  case exit =>
    simp only [Can.dbtSafeExit, Bool.and_eq_true] at hcan
    obtain ⟨⟨⟨⟨hw, hzero⟩, hkey⟩, hready⟩, hstep⟩ := hcan
    refine completes_of_begun (exec_dbtSafeExit w v s) ?_
    rw [if_pos (by exact hw), Hub.writeSafeExit, if_pos (by exact Bool.and_eq_true_iff.mpr ⟨hzero, hkey⟩), if_pos (by exact hready),
      if_pos (by exact hstep)]
    have htone := wantTone_moves { s.hub.begun with dev := { s.hub.begun.dev with exitStep := 1 } } .clear
    have hdev := htone.keeps .dev
    have hsafe : s.hub.dev.safe = true := by
      simp only [Hub.exitReady, Bool.and_eq_true, beq_iff_eq] at hready
      obtain ⟨⟨hstate, -⟩, -⟩ := hready
      exact safe_of_state hstate
    refine ⟨congrArg Dev.exitStep hdev, daWant_wantTone _ _, (congrArg Dev.safe hdev).trans hsafe, ?_⟩
    unfold Hub.wantTone
    split
    · rfl
    · rfl
  case refused =>
    simp only [Can.dbtSafeExit2, Bool.and_eq_true, Bool.not_eq_true'] at hcan
    obtain ⟨⟨⟨hw, hzero⟩, hkey⟩, hready⟩ := hcan
    refine completes_of_begun (exec_dbtSafeExit w v s) ?_
    rw [if_pos (by exact hw), Hub.writeSafeExit, if_pos (by exact Bool.and_eq_true_iff.mpr ⟨hzero, hkey⟩),
      show s.hub.begun.exitReady = false from hready, if_neg Bool.false_ne_true]
    exact ⟨Hub.rd_count_satInc _ _ 0 0, rfl, rfl⟩
  case other =>
    refine completes_of_begun (exec_dbtSafeExit w v s) ?_
    have hidle : (if s.hub.begun.writable w then s.hub.begun.writeSafeExit w v.toNat else s.hub.begun) = s.hub.begun := by
      split
      case isFalse => rfl
      case isTrue hw =>
        refine if_neg fun hgo => ?_
        rw [Can.dbtSafeExit3, Bool.not_eq_true', Bool.and_assoc, Bool.and_eq_false_iff] at hcan
        rcases hcan with hno | hno
        · exact absurd (hw.symm.trans hno) (by decide)
        · exact absurd (hgo.symm.trans hno) (by decide)
    rw [hidle]
    exact ⟨rfl, rfl, rfl⟩
  case leave =>
    refine completes_of_begun (exec_safeLeave s) ?_
    rw [if_pos (by exact hcan)]
    exact ⟨rfl, rfl, rfl, rfl⟩
  case stay =>
    refine completes_of_begun (exec_safeLeave s) ?_
    rw [if_neg (by exact not_of_guard hcan)]
    exact ⟨rfl, rfl, rfl⟩
  case shut =>
    refine completes_of_begun (exec_fieldGlobalShutdown sensor t s) ?_
    have hlt : sensor.val < 8 := Nat.lt_trans sensor.isLt (by decide)
    have hge : tFieldHalt ≤ (s.hub.begun.setTemp sensor t.toInt).fieldTemp :=
      Int.le_trans (by rw [temps_setTemp _ _ hlt]; exact of_decide_eq_true hcan) (fieldTemp_ge _ sensor.isLt)
    rw [Hub.judgeGlobal, if_pos hge]
    exact ⟨globalOff_setGlobal _ _, fun hnot c => setGlobal_switches (h := s.hub.begun.setTemp sensor t.toInt) hnot c⟩
  case below =>
    simp only [Can.fieldGlobalShutdown2, Bool.and_eq_true, decide_eq_true_eq] at hcan
    obtain ⟨⟨hlow, hrest⟩, hhalt⟩ := hcan
    refine completes_of_begun (exec_fieldGlobalShutdown sensor t s) ?_
    have hlt : (s.hub.begun.setTemp sensor t.toInt).fieldTemp < tFieldHalt := temps_lt_setTemp (h := s.hub.begun) hlow hrest
    have hnone : (s.hub.begun.setTemp sensor t.toInt).dev.halt = none := Option.isNone_iff_eq_none.mp hhalt
    have hnot : ¬ (decide ((s.hub.begun.setTemp sensor t.toInt).fieldTemp < tFieldBack) &&
        (s.hub.begun.setTemp sensor t.toInt).dev.halt.isSome) = true := by
      rw [hnone, Option.isSome_none, Bool.and_false]
      exact Bool.false_ne_true
    rw [Hub.judgeGlobal, if_neg (Int.not_le.mpr hlt), if_neg hnot]
    exact ⟨rfl, rfl, temps_setTemp _ _ (Nat.lt_trans sensor.isLt (by decide))⟩
  case cool =>
    simp only [Can.fieldGlobalShutdown3, Bool.and_eq_true, decide_eq_true_eq] at hcan
    obtain ⟨⟨hlow, hrest⟩, hhalt⟩ := hcan
    refine completes_of_begun (exec_fieldGlobalShutdown sensor t s) ?_
    have hlt : (s.hub.begun.setTemp sensor t.toInt).fieldTemp < tFieldBack := temps_lt_setTemp (h := s.hub.begun) hlow hrest
    rw [Hub.judgeGlobal, if_neg (Int.not_le.mpr (Int.lt_trans hlt (by decide))),
      if_pos (by exact Bool.and_eq_true_iff.mpr ⟨decide_eq_true hlt, hhalt⟩)]
    exact globalOff_setGlobal _ _
  case back =>
    refine completes_of_begun (exec_thermalHaltExit logic field s) ?_
    rw [if_pos (by exact hcan)]
    have x := setGlobal_moves s.hub.begun false
    have hret : (s.hub.begun.setGlobal false).ret = s.hub.ret := x.keeps .ret
    obtain ⟨h1, h2, h3, h4, h5, h6, h7, h8⟩ := warmBoot_spec (s.hub.begun.setGlobal false)
    exact ⟨h1, h2, h3.trans (globalOff_setGlobal _ _), h4, h5.trans (by rw [hret]), h6, h7, h8.trans (x.keeps .nvm)⟩
  case hot =>
    refine completes_of_begun (exec_thermalHaltExit logic field s) ?_
    rw [if_neg (by exact not_of_guard hcan)]
    exact ⟨rfl, rfl, rfl⟩
  case cut =>
    refine completes_of_begun (exec_nvmCutoff shifting s) ?_
    rw [if_pos (by exact hcan)]
    obtain ⟨hop, hnvm, hdev⟩ := cutoff_spec (h := s.hub.begun) shifting
    have hmark := markThermal_moves (s.hub.begun.abandonNvm shifting) 1
    have hboth (b : Bool) : (if b then (s.hub.begun.abandonNvm shifting).markThermal 1 else s.hub.begun.abandonNvm shifting).nvmOp = none ∧
        (shifting = true → (if b then (s.hub.begun.abandonNvm shifting).markThermal 1 else s.hub.begun.abandonNvm shifting).nvm = s.hub.nvm) ∧
        (if b then (s.hub.begun.abandonNvm shifting).markThermal 1 else s.hub.begun.abandonNvm shifting).dev = s.hub.dev := by
      cases b with
      | true => exact ⟨(hmark.keeps .nvmOp).trans hop, fun hs => (hmark.keeps .nvm).trans (hnvm hs), (hmark.keeps .dev).trans hdev⟩
      | false => exact ⟨hop, hnvm, hdev⟩
    exact hboth _
  case noCut =>
    refine completes_of_begun (exec_nvmCutoff shifting s) ?_
    rw [if_neg (by exact not_of_guard hcan)]
    exact ⟨rfl, rfl, rfl⟩

end Sys2Proof.Machine

/-!
PROOF. A tumbler's program error (R299): the state that it shows, and that no reaction to TMB_PROG takes it away again.
-/

namespace Sys2Proof.Machine

set_option Elab.async false

/-! ### A tumbler's stop -/

theorem stop_cause_tmbQuiet (h : Hub) {t u : Nat} (release : Bool) (ht : t < 8) (hu : u < 8) :
    (h.tmbQuiet t release).rd TMB_STAT_stop_cause u = h.rd TMB_STAT_stop_cause u :=
  (tmbQuiet_moves h t release ht).rd TMB_STAT_stop_cause u 0 hu

/-- A stop shows its cause for the tumbler that it ends, and leaves every other one's. -/
theorem stop_cause_tmbEnded (h : Hub) {t u : Nat} (cause r : Nat) (o : Option Nat) (ht : t < 8) (hu : u < 8) :
    (((h.tmbEnded t cause).tmbRetire t r).intOwner o 16).rd TMB_STAT_stop_cause u =
      if u = t then cause % 16 else h.rd TMB_STAT_stop_cause u := by
  have hshown : Moves ⟨[.eng, .ints, .pins], intFlds, []⟩ (h.tmbEnded t cause) (((h.tmbEnded t cause).tmbRetire t r).intOwner o 16) :=
    ((Moves.refl _ _).to (tmbRetire_moves _ _ _)).to (intOwner_moves _ _ _)
  rw [hshown.rd TMB_STAT_stop_cause u 0 hu, Hub.tmbEnded, Hub.rd_put_apart _ _ _ _ _ _ (by decide),
    Hub.rd_put_apart _ _ _ _ _ _ (by decide), Hub.rd_put_apart _ _ _ _ _ _ (by decide)]
  by_cases hut : u = t
  · subst hut
    rw [if_pos rfl, Hub.rd_wr_self]
    rfl
  · rw [if_neg hut, Hub.rd_wr_ne (fldKey_ne_of_index (by decide) hut 0 0), Hub.rd_wr_apart _ _ _ _ _ _ (by decide)]
    exact (dropCand_moves h _).rd TMB_STAT_stop_cause u 0 hu

/-- A stop of a tumbler that executes or is pending shows its cause. -/
theorem stop_cause_tmbStop_self (h : Hub) {t : Nat} (cause : Nat) (release : Bool) (ht : t < 8)
    (hgo : (h.tmbRuns t || h.tmbState t == 1) = true) : (h.tmbStop t cause release).rd TMB_STAT_stop_cause t = cause % 16 := by
  rw [tmbStop_eq, if_pos hgo, stop_cause_tmbEnded _ cause _ _ ht ht, if_pos rfl]

theorem stop_cause_tmbStop_rest (h : Hub) {t u : Nat} (cause : Nat) (release : Bool) (ht : t < 8) (hu : u < 8)
    (hrest : u ≠ t ∨ (h.tmbRuns t || h.tmbState t == 1) = false) :
    (h.tmbStop t cause release).rd TMB_STAT_stop_cause u = h.rd TMB_STAT_stop_cause u := by
  rw [tmbStop_eq]
  cases hgo : h.tmbRuns t || h.tmbState t == 1 with
  | false => rw [if_neg Bool.false_ne_true, stop_cause_tmbQuiet h release ht hu]
  | true => rw [if_pos rfl, stop_cause_tmbEnded _ cause _ _ ht hu, if_neg (hrest.resolve_right (by simp [hgo])), stop_cause_tmbQuiet h release ht hu]

/-! ### The reaction leaves a tumbler that has failed -/

/-- A tumbler in error in one hub is so in the other, with the same cause of its stop. -/
def ErrorStands (t : Nat) (h k : Hub) : Prop :=
  h.tmbState t = 5 → k.tmbState t = 5 ∧ k.rd TMB_STAT_stop_cause t = h.rd TMB_STAT_stop_cause t

theorem ErrorStands.of_moves {F : Foot} {h k : Hub} {t : Nat} (ht : t < 8) (x : Moves F h k)
    (hs : F.avoids TMB_STAT_state = true := by decide +kernel) (hc : F.avoids TMB_STAT_stop_cause = true := by decide +kernel) :
    ErrorStands t h k :=
  fun hfive => ⟨(x.rd TMB_STAT_state t 0 ht hs).trans hfive, x.rd TMB_STAT_stop_cause t 0 ht hc⟩

theorem ErrorStands.of_tmbStop {t u : Nat} (h : Hub) (cause : Nat) (release : Bool) (ht : t < 8) (hu : u < 8) :
    ErrorStands t h (h.tmbStop u cause release) := by
  intro hfive
  have hrest : t ≠ u ∨ (h.tmbRuns u || h.tmbState u == 1) = false := by
    by_cases htu : t = u
    · right
      rw [← htu, Hub.tmbRuns, hfive]
      decide
    · exact .inl htu
  refine ⟨?_, stop_cause_tmbStop_rest h cause release hu ht hrest⟩
  rw [tmbState_tmbStop h cause release hu ht, if_neg, hfive]
  rintro ⟨rfl, hgo⟩
  exact absurd hgo (by rw [(hrest.resolve_left fun hne => hne rfl)]; exact Bool.false_ne_true)

theorem ErrorStands.closed {t : Nat} (ht : t < 8) : ReactClosed (ErrorStands t) where
  refl _ hfive := ⟨hfive, rfl⟩
  trans x y hfive := ⟨(y (x hfive).1).1, (y (x hfive).1).2.trans (x hfive).2⟩
  quiet x := .of_moves ht x
  dev _ _ hfive := ⟨hfive, rfl⟩
  flt _ _ hfive := ⟨hfive, rfl⟩
  bolt h := .of_moves ht (noBoltRel_moves h)
  tone h := .of_moves ht (wantTone_moves h .bolt)
  proof h := .of_moves ht (abandonProof_moves h)
  safe h chs hchs := .of_moves ht (sendSafe_moves h chs hchs)
  stop h _ cause release hu := .of_tmbStop h cause release ht hu

/-! ### The program error -/

/-- A program error with a code at an address, as tumbler `t` shows it, and its cause where no proof hides it. -/
def Hub.failed (h : Hub) (t code addr : Nat) (hidden : Bool) : Prop :=
  h.tmbState t = 5 ∧ h.rd TMB_STAT_stop_cause t = 3 ∧ h.rd TMB_ERR_code t = code ∧ h.rd TMB_ERR_addr t = addr % 1024 ∧
    (hidden = false → caused h 30 t = true)

/-- The hub with a program error shown. -/
def Hub.errShown (h : Hub) (t code addr : Nat) : Hub :=
  (((h.tmbStop t 3 false).wr TMB_ERR_addr addr t).wr TMB_ERR_code code t).wr TMB_STAT_state 5 t

theorem tmbError_eq (h : Hub) (t code addr : Nat) : h.tmbError t code addr =
    (h.errShown t code addr).raise 30 t (2 ^ (((h.errShown t code addr).tmbOwner t).getD 0)) detailOpen := rfl

theorem tmbError_failed {h : Hub} {t code : Nat} (addr : Nat) (ht : t < 8) (hcode : code < 16) (hruns : h.tmbRuns t = true) :
    (h.tmbError t code addr).failed t code addr (h.proofHides 30 t) := by
  have hraise := raise_moves (h.errShown t code addr) 30 t (2 ^ (((h.errShown t code addr).tmbOwner t).getD 0)) detailOpen
  have hfive : (h.errShown t code addr).tmbState t = 5 := Hub.rd_wr_of_lt _ t 0 (by decide)
  obtain ⟨hstate, hcause⟩ := (ErrorStands.closed ht).raise (h.errShown t code addr) 30 t
    (2 ^ (((h.errShown t code addr).tmbOwner t).getD 0)) detailOpen hfive
  have hdbt : (h.errShown t code addr).dbt = h.dbt := (tmbStop_moves h t 3 false ht).keeps .dbt
  rw [tmbError_eq]
  refine ⟨hstate, hcause.trans ?_, (hraise.rd TMB_ERR_code t 0 ht).trans ?_, (hraise.rd TMB_ERR_addr t 0 ht).trans ?_, fun hhid => ?_⟩
  · rw [Hub.errShown, Hub.rd_wr_apart _ _ _ _ _ _ (by decide), Hub.rd_wr_apart _ _ _ _ _ _ (by decide), Hub.rd_wr_apart _ _ _ _ _ _ (by decide)]
    exact stop_cause_tmbStop_self h 3 false ht (by rw [hruns]; rfl)
  · rw [Hub.errShown, Hub.rd_wr_apart _ _ _ _ _ _ (by decide)]
    exact Hub.rd_wr_of_lt _ t 0 hcode
  · rw [Hub.errShown, Hub.rd_wr_apart _ _ _ _ _ _ (by decide), Hub.rd_wr_apart _ _ _ _ _ _ (by decide), Hub.rd_wr_self]
    rfl
  · refine caused_raise_self _ _ (by decide) ?_
    rw [Hub.proofHides, hdbt]
    exact hhid

end Sys2Proof.Machine

/-!
PROOF. The instruction that a tumbler comes to at its vector boundary, opcode by opcode (R283 to R287, R307).
-/

namespace Sys2Proof.Machine

set_option Elab.async false

/-! ### The instruction at the boundary -/

/-- A tumbler that comes to an instruction executes, and nothing goes before it. -/
structure AtWord (h : Hub) (t op : Nat) : Prop where
  runs : h.tmbRuns t = true
  unissued : (h.tmb t).issued = none
  up : h.dev.phase = .up
  unhalted : h.dev.halt = none
  linked : (!h.hinge.upL && h.drivesField t) = false
  unstopped : (h.tmb t).stopReq = none
  unjumped : (h.tmb t).jumpReq = none
  done : (h.tmb t).remain = 0
  unmarched : (h.tmb t).march = none
  inside : (h.tmb t).next < h.regionLen t
  stored : h.rd TMB_REGION_base t + (h.tmb t).next < 1024
  goodLow : h.isBad (h.progAddr t (h.tmb t).next) = false
  goodHigh : h.isBad (h.progAddr t (h.tmb t).next + 4) = false
  opcode : wOp (h.nextWord t) = op
  clean : wClean (h.nextWord t) = true

theorem atWord_of_comesTo {h : Hub} {t op : Nat} (hc : h.comesTo t op = true) : AtWord h t op := by
  simp only [Hub.comesTo, Bool.and_eq_true, Option.isNone_iff_eq_none, beq_iff_eq, decide_eq_true_eq, Bool.not_eq_true'] at hc
  obtain ⟨⟨⟨⟨⟨⟨⟨⟨⟨⟨⟨⟨⟨⟨hruns, hissued⟩, hup⟩, hhalt⟩, hlink⟩, hstop⟩, hjump⟩, hremain⟩, hmarch⟩, hin⟩, hstored⟩, hlow⟩, hhigh⟩, hop⟩, hclean⟩ := hc
  exact ⟨hruns, hissued, hup, hhalt, by cases hup : h.hinge.upL <;> simp_all, hstop, hjump, hremain, hmarch, hin, hstored, hlow, hhigh, hop, hclean⟩

theorem marchEnd_of_none {h : Hub} {t : Nat} (hm : (h.tmb t).march = none) : h.marchEnd t = h := by
  unfold Hub.marchEnd
  rw [hm]

theorem boundary_atWord {h : Hub} {t op : Nat} (x : AtWord h t op) : h.boundary t = (h, true) := by
  unfold Hub.boundary
  simp [x.runs, x.unissued, x.up, x.unhalted, x.linked, x.unstopped, x.unjumped, x.done, marchEnd_of_none x.unmarched]

theorem tmbOne_atWord {h : Hub} {t op : Nat} (x : AtWord h t op) (hop : op < 12) :
    h.tmbOne t = h.execWord t (h.tmb t).next (h.nextWord t) := by
  have hin := x.inside
  have hstored := x.stored
  have hopcode : wOp (h.progWord t (h.tmb t).next) = op := x.opcode
  have hclean : wClean (h.progWord t (h.tmb t).next) = true := x.clean
  unfold Hub.tmbOne
  dsimp only
  rw [if_neg (by simp; omega), x.goodLow, x.goodHigh, if_neg (by decide), if_neg (by omega), hclean, if_neg (by decide)]
  rfl

/-- A command that executes one instruction executes the word that its tumbler comes to. -/
theorem completes_word {c : Instr} {s : State} {t op : Nat} {p : Hub → Nat → Bool} {P : Hub → Prop}
    (hx : exec c s = s.on (fun h => h.tmbInstr t op p)) (x : AtWord s.hub.begun t op) (hop : op < 12)
    (hp : p s.hub.begun (s.hub.begun.nextWord t) = true)
    (hP : P (s.hub.begun.execWord t (s.hub.begun.tmb t).next (s.hub.begun.nextWord t)).1) : Completes c s P := by
  refine completes_of_begun hx ?_
  have hrun : s.hub.begun.tmbInstr t op p = (s.hub.begun.execWord t (s.hub.begun.tmb t).next (s.hub.begun.nextWord t)).1 := by
    have hword : wOp (s.hub.begun.progWord t (s.hub.begun.tmb t).next) = op := x.opcode
    have hpass : p s.hub.begun (s.hub.begun.progWord t (s.hub.begun.tmb t).next) = true := hp
    unfold Hub.tmbInstr
    rw [boundary_atWord x]
    dsimp only
    rw [hword, hpass, tmbOne_atWord x hop]
    simp
  rw [hrun]
  exact hP

/-! ### Zero-cycle instructions -/

theorem zeroCycle_of_few {h : Hub} {t : Nat} (addr next : Nat) (hz : (h.tmb t).zeros < 16) : h.zeroCycle t addr next =
    ((h.modTmb t (fun x => { x with next := next, zeros := x.zeros + 1 })).wr TMB_STAT_pc addr t, true) := by
  unfold Hub.zeroCycle
  rw [if_neg (by omega)]

/-- A zero-cycle instruction after a change of the tumbler's stacks: they stand, and the tumbler goes on. -/
theorem tmb_zeroCycle {h : Hub} {t : Nat} (addr next : Nat) (f : Tmb → Tmb) (ht : t < 8) (hz : (f (h.tmb t)).zeros < 16) :
    ((h.modTmb t f).zeroCycle t addr next).1.tmb t = { f (h.tmb t) with next := next, zeros := (f (h.tmb t)).zeros + 1 } := by
  have hself : (h.modTmb t f).tmb t = f (h.tmb t) := Hub.tmb_modTmb_self h t f ht
  rw [zeroCycle_of_few addr next (by rwa [hself])]
  refine (Hub.tmb_modTmb_self (h.modTmb t f) t (fun x => { x with next := next, zeros := x.zeros + 1 }) ht).trans ?_
  rw [hself]

theorem next_zeroCycle {h : Hub} {t : Nat} (addr next : Nat) (ht : t < 8) (hz : (h.tmb t).zeros < 16) :
    ((h.zeroCycle t addr next).1.tmb t).next = next := by
  rw [zeroCycle_of_few addr next hz]
  exact congrArg Tmb.next (Hub.tmb_modTmb_self h t (fun x => { x with next := next, zeros := x.zeros + 1 }) ht)

theorem tmbState_zeroCycle {h : Hub} {t : Nat} (addr next : Nat) (hz : (h.tmb t).zeros < 16) :
    (h.zeroCycle t addr next).1.tmbState t = h.tmbState t := by
  rw [zeroCycle_of_few addr next hz, Hub.tmbState, Hub.rd_wr_apart _ _ _ _ _ _ (by decide)]
  rfl

theorem branch_inside {h : Hub} {t target : Nat} (addr : Nat) (f : Tmb → Tmb) (hin : target < h.regionLen t) :
    h.branch t addr target f = (h.modTmb t f).zeroCycle t addr target := by
  unfold Hub.branch
  rw [if_neg (by omega)]

theorem branch_outside {h : Hub} {t target : Nat} (addr : Nat) (f : Tmb → Tmb) (hout : h.regionLen t ≤ target) :
    h.branch t addr target f = (h.tmbError t 3 addr, false) := by
  unfold Hub.branch
  rw [if_pos hout]

/-! ### The words, by opcode -/

section
variable {h : Hub} {t addr w : Nat}

theorem execWord_stop (hop : wOp w = 0) : (h.execWord t addr w).1 = (h.wr TMB_STAT_pc addr t).tmbStop t 1 (bitOf (wArg w) 0) := by
  unfold Hub.execWord
  rw [hop]
  rfl

theorem execWord_vec (hop : wOp w = 1) : h.execWord t addr w = (h.execVecWord t addr w, false) := by
  unfold Hub.execWord
  rw [hop]
  rfl

theorem execWord_loop (hop : wOp w = 2) (hn : wArg w % 2 ^ 16 ≠ 0) (hroom : (h.tmb t).loops.length < 4) : h.execWord t addr w =
    (h.modTmb t (fun x => { x with loops := (wArg w % 2 ^ 16, addr + 1) :: x.loops })).zeroCycle t addr (addr + 1) := by
  unfold Hub.execWord
  rw [hop]
  exact (if_neg (by simpa using hn)).trans (if_neg (Nat.not_le_of_lt hroom))

theorem execWord_loop_full (hop : wOp w = 2) (hn : wArg w % 2 ^ 16 ≠ 0) (hfull : 4 ≤ (h.tmb t).loops.length) :
    h.execWord t addr w = (h.tmbError t 4 addr, false) := by
  unfold Hub.execWord
  rw [hop]
  exact (if_neg (by simpa using hn)).trans (if_pos hfull)

/-- The stack of loops and the next address after an ENDL at the loop `x`. -/
def endlStep (addr : Nat) (x : Nat × Nat) (rest : List (Nat × Nat)) : List (Nat × Nat) × Nat :=
  if 1 < x.1 then ((x.1 - 1, x.2) :: rest, x.2) else (rest, addr + 1)

theorem execWord_endl (hop : wOp w = 3) {x : Nat × Nat} {rest : List (Nat × Nat)} (hloops : (h.tmb t).loops = x :: rest) :
    h.execWord t addr w = (h.modTmb t (fun y => { y with loops := (endlStep addr x rest).1 })).zeroCycle t addr (endlStep addr x rest).2 := by
  unfold Hub.execWord endlStep
  rw [hop]
  dsimp only
  rw [hloops]
  by_cases hn : 1 < x.1
  · simp only [if_pos hn]
  · simp only [if_neg hn]

theorem execWord_endl_empty (hop : wOp w = 3) (hloops : (h.tmb t).loops = []) : h.execWord t addr w = (h.tmbError t 4 addr, false) := by
  unfold Hub.execWord
  rw [hop]
  dsimp only
  rw [hloops]
  rfl

theorem execWord_jmp (hop : wOp w = 4) : h.execWord t addr w = h.branch t addr (wArg w % 2 ^ 10) id := by
  unfold Hub.execWord
  rw [hop]
  rfl

theorem execWord_brc (hop : wOp w = 5) {v : Bool} {k : Hub} (hcond : h.tmbCond t (bitsOf (wArg w) 24 8) = .ok (v, k)) :
    h.execWord t addr w = if v != bitOf (wArg w) 23 then k.branch t addr (wArg w % 2 ^ 10) id else k.zeroCycle t addr (addr + 1) := by
  unfold Hub.execWord
  rw [hop]
  dsimp only
  rw [hcond]
  rfl

theorem execWord_wait (hop : wOp w = 6) : h.execWord t addr w = h.execWaitWord t addr (wArg w) := by
  unfold Hub.execWord
  rw [hop]
  rfl

theorem execWord_call (hop : wOp w = 7) (hroom : (h.tmb t).calls.length < 4) : h.execWord t addr w =
    h.branch t addr (wArg w % 2 ^ 10) (fun x => { x with calls := (addr + 1) :: x.calls }) := by
  unfold Hub.execWord
  rw [hop]
  exact if_neg (Nat.not_le_of_lt hroom)

theorem execWord_call_full (hop : wOp w = 7) (hfull : 4 ≤ (h.tmb t).calls.length) : h.execWord t addr w = (h.tmbError t 4 addr, false) := by
  unfold Hub.execWord
  rw [hop]
  exact if_pos hfull

theorem execWord_ret (hop : wOp w = 8) {a : Nat} {rest : List Nat} (hcalls : (h.tmb t).calls = a :: rest) :
    h.execWord t addr w = (h.modTmb t (fun x => { x with calls := rest })).zeroCycle t addr a := by
  unfold Hub.execWord
  rw [hop]
  dsimp only
  rw [hcalls]
  rfl

theorem execWord_ret_empty (hop : wOp w = 8) (hcalls : (h.tmb t).calls = []) : h.execWord t addr w = (h.tmbError t 4 addr, false) := by
  unfold Hub.execWord
  rw [hop]
  dsimp only
  rw [hcalls]
  rfl

theorem execWord_tset (hop : wOp w = 9) (hmode : h.rd TMB_CFG_mode t ≠ 0) : h.execWord t addr w =
    (h.modTmb t (fun x => { x with tsNext := some (wTs w) })).zeroCycle t addr (addr + 1) := by
  unfold Hub.execWord
  rw [hop]
  exact if_neg (by simpa using hmode)

theorem execWord_tset_sample (hop : wOp w = 9) (hmode : h.rd TMB_CFG_mode t = 0) : h.execWord t addr w = (h.tmbError t 2 addr, false) := by
  unfold Hub.execWord
  rw [hop]
  exact if_pos (by rw [hmode]; rfl)

theorem execWord_sig (hop : wOp w = 11) : h.execWord t addr w = h.execSigWord t addr (wArg w) := by
  unfold Hub.execWord
  rw [hop]
  rfl

end

/-! ### Cycles -/

theorem tmb_of_moves {F : Foot} {h k : Hub} (x : Moves F h k) (u : Nat) (hF : F.parts.contains .tmbs = false := by decide) : k.tmb u = h.tmb u := by
  rw [Hub.tmb, x.keeps .tmbs hF]
  rfl

/-- The hub with a cycle issued, before its frame goes out. -/
def Hub.issuing (h : Hub) (t addr pins marks ts state : Nat) : Hub :=
  ((h.modTmb t (fun x => { x with issued := some (pins, marks, ts), tsNext := none, zeros := 0 })).wr TMB_STAT_state state t).wr TMB_STAT_pc addr t

theorem issue_eq {h : Hub} {t addr pins marks ts state : Nat} (frame : Bool) (hfits : h.tsFits t ts = true) :
    h.issue t addr pins marks ts state frame = if (frame || marks != 0 || ts != h.rd TMB_STAT_ts_now t) = true then
      (h.issuing t addr pins marks ts state).sendVec t pins marks ts else h.issuing t addr pins marks ts state := by
  unfold Hub.issue
  rw [hfits]
  rfl

/-- What an issued cycle leaves where its timing set fits. -/
structure Issued (h k : Hub) (t addr pins marks ts state : Nat) : Prop where
  tmb : k.tmb t = { h.tmb t with issued := some (pins, marks, ts), tsNext := none, zeros := 0 }
  state : k.tmbState t = state
  pc : k.rd TMB_STAT_pc t = addr % 1024
  moves : Moves ⟨[.hinge, .tmbs], [TMB_STAT_state, TMB_STAT_pc], []⟩ h k

theorem issuing_issued (h : Hub) {t state : Nat} (addr pins marks ts : Nat) (ht : t < 8) (hstate : state < 8) :
    Issued h (h.issuing t addr pins marks ts state) t addr pins marks ts state where
  tmb := Hub.tmb_modTmb_self h t (fun x => { x with issued := some (pins, marks, ts), tsNext := none, zeros := 0 }) ht
  state := by rw [Hub.tmbState, Hub.issuing, Hub.rd_wr_apart _ _ _ _ _ _ (by decide)]; exact Hub.rd_wr_of_lt _ t 0 hstate
  pc := Hub.rd_wr_self _ _ _ _ _
  moves := (((Moves.refl _ h).to (modTmb_moves _ _ _)).wr _ _ _ _ ht).wr _ _ _ _ ht

theorem issue_issued {h : Hub} {t addr pins marks ts state : Nat} (frame : Bool) (ht : t < 8) (hstate : state < 8) (hfits : h.tsFits t ts = true) :
    Issued h (h.issue t addr pins marks ts state frame) t addr pins marks ts state := by
  have hset := issuing_issued h addr pins marks ts ht hstate
  rw [issue_eq frame hfits]
  split
  · have hsent := sendVec_moves (h.issuing t addr pins marks ts state) t pins marks ts
    exact ⟨(tmb_of_moves hsent t).trans hset.tmb, (hsent.rd TMB_STAT_state t 0 ht).trans hset.state, (hsent.rd TMB_STAT_pc t 0 ht).trans hset.pc,
      hset.moves.to hsent⟩
  · exact hset

/-! ### Conditions -/

/-- What a condition that is evaluated leaves of the hub: at most a latch that it reads is cleared. -/

theorem tmbCond_ok {h k : Hub} {t sel : Nat} {v : Bool} (hcond : h.tmbCond t sel = .ok (v, k)) :
    k = h ∨ (∃ x, k = h.wr TMB_MKSEEN_seen x t) ∨ ∃ x, k = h.modTmb t (fun y => { y with lsyLatch := x }) := by
  have hub {x : Bool × Hub} (he : (Except.ok x : Except Nat (Bool × Hub)) = .ok (v, k)) : k = x.2 :=
    (congrArg Prod.snd (Except.ok.inj he)).symm
  unfold Hub.tmbCond at hcond
  dsimp only at hcond
  split at hcond
  · split at hcond
    · exact .inl (hub hcond)
    · exact absurd hcond nofun
  split at hcond
  · split at hcond
    · exact absurd hcond nofun
    · exact .inl (hub hcond)
  split at hcond
  · exact .inr (.inl ⟨_, hub hcond⟩)
  split at hcond
  · exact .inr (.inr ⟨_, hub hcond⟩)
  split at hcond
  · split at hcond
    · exact .inl (hub hcond)
    · exact absurd hcond nofun
  split at hcond
  · exact .inl (hub hcond)
  · exact absurd hcond nofun

theorem tmbCond_seen {h k : Hub} {t sel : Nat} {v : Bool} (ht : t < 8) (hcond : h.tmbCond t sel = .ok (v, k)) :
    Moves ⟨[.tmbs], [TMB_MKSEEN_seen], []⟩ h k := by
  rcases tmbCond_ok hcond with rfl | ⟨x, rfl⟩ | ⟨x, rfl⟩
  · exact Moves.refl _ _
  · exact (Moves.refl _ _).wr _ _ _ _ ht
  · exact (Moves.refl _ _).to (modTmb_moves _ _ _)

theorem tmb_of_tmbCond {h k : Hub} {t sel : Nat} {v : Bool} (ht : t < 8) (hcond : h.tmbCond t sel = .ok (v, k)) :
    ∃ x, k.tmb t = { h.tmb t with lsyLatch := x } := by
  rcases tmbCond_ok hcond with rfl | ⟨x, rfl⟩ | ⟨x, rfl⟩
  · exact ⟨_, rfl⟩
  · exact ⟨_, rfl⟩
  · exact ⟨x, Hub.tmb_modTmb_self h t _ ht⟩

theorem tmbCond_of_condIs {h : Hub} {t sel : Nat} {v : Bool} (hc : h.condIs t sel = some v) : ∃ k, h.tmbCond t sel = .ok (v, k) := by
  unfold Hub.condIs at hc
  split at hc
  next x hx => exact ⟨x.2, by rw [hx, ← Option.some.inj hc]⟩
  next => exact absurd hc nofun

end Sys2Proof.Machine

/-!
PROOF. What says which pins a tumbler can drive and whether a timing set fits them (R291), over the changes that an instruction makes.
-/

namespace Sys2Proof.Machine

set_option Elab.async false

/-- The fields that say which field pins a tumbler can drive. -/
def driveFlds : List Fld := [OUT_CFG_mode, OUT_CFG_src, OUT_TP_dark_en, OUT_TP_bright_en, OUT_TP_tmb]

theorem drivesField_of_moves {F : Foot} {h k : Hub} (x : Moves F h k) (t : Nat) (hF : driveFlds.all F.avoids = true := by decide +kernel) :
    k.drivesField t = h.drivesField t := by
  simp only [driveFlds, List.all_cons, List.all_nil, Bool.and_true, Bool.and_eq_true] at hF
  obtain ⟨hmode, hsrc, hdark, hbright, htmb⟩ := hF
  have hchs : k.tmbChannels t = h.tmbChannels t := by
    refine List.filter_congr fun c hc => ?_
    have hlt : c < 16 := List.mem_range.mp hc
    simp only [Hub.isOut, Hub.lead, Hub.mode, x.rd OUT_CFG_mode c 0 hlt hmode, x.rd OUT_CFG_src c 0 hlt hsrc]
    rfl
  have hpulses : (List.range 16).any (fun c => k.isOut c && (k.flag OUT_TP_dark_en c || k.flag OUT_TP_bright_en c) && k.rd OUT_TP_tmb c == t) =
      (List.range 16).any (fun c => h.isOut c && (h.flag OUT_TP_dark_en c || h.flag OUT_TP_bright_en c) && h.rd OUT_TP_tmb c == t) := by
    rw [Bool.eq_iff_iff, List.any_eq_true, List.any_eq_true]
    refine exists_congr fun c => and_congr_right fun hc => ?_
    have hlt : c < 16 := List.mem_range.mp hc
    rw [isOut_of_moves x hlt hmode, x.flag OUT_TP_dark_en c 0 hlt hdark, x.flag OUT_TP_bright_en c 0 hlt hbright, x.rd OUT_TP_tmb c 0 hlt htmb]
  rw [Hub.drivesField, hchs, hpulses, Hub.drivesField]

theorem tsFits_of_moves {F : Foot} {h k : Hub} (x : Moves F h k) (t : Nat) {ts : Nat} (hp : k.tsPeriod ts = h.tsPeriod ts)
    (hF : driveFlds.all F.avoids = true := by decide +kernel) : k.tsFits t ts = h.tsFits t ts := by
  rw [Hub.tsFits, drivesField_of_moves x t hF, hp, Hub.tsFits]

/-- The timing set of a cycle in which the pattern holds, from what it depends on. -/
theorem tsNow_congr {h k : Hub} {t : Nat} (htmb : (k.tmb t).tsNext = (h.tmb t).tsNext) (hmode : k.rd TMB_CFG_mode t = h.rd TMB_CFG_mode t)
    (hsample : k.rd TMB_CFG_ts_sample t = h.rd TMB_CFG_ts_sample t) (hnow : k.rd TMB_STAT_ts_now t = h.rd TMB_STAT_ts_now t) :
    k.tsNow t = h.tsNow t := by
  rw [Hub.tsNow, htmb, hmode, hsample, hnow, Hub.tsNow]

theorem holdCycle_issued {h : Hub} {t state : Nat} (addr : Nat) (ht : t < 8) (hstate : state < 8) (hfits : h.tsFits t (h.tsNow t) = true) :
    Issued h (h.holdCycle t addr state) t addr (h.rd TMB_PATTERN_pins t) 0 (h.tsNow t) state :=
  issue_issued false ht hstate hfits

/-! ### Over a condition that is read -/

/-- What a condition that is evaluated leaves of what its tumbler's next cycle depends on. -/
theorem cycle_of_tmbCond {h k : Hub} {t sel : Nat} {v : Bool} (ht : t < 8) (hcond : h.tmbCond t sel = .ok (v, k)) :
    (∀ ts, k.tsFits t ts = h.tsFits t ts) ∧ k.tsNow t = h.tsNow t ∧ k.rd TMB_PATTERN_pins t = h.rd TMB_PATTERN_pins t := by
  have hseen := tmbCond_seen ht hcond
  have hperiod (ts : Nat) : k.tsPeriod ts = h.tsPeriod ts := by
    rcases tmbCond_ok hcond with rfl | ⟨x, rfl⟩ | ⟨x, rfl⟩
    · rfl
    · exact Hub.rd_wr_apart _ _ _ _ _ _ (by decide)
    · rfl
  obtain ⟨x, hx⟩ := tmb_of_tmbCond ht hcond
  exact ⟨fun ts => tsFits_of_moves hseen t (hperiod ts), tsNow_congr (by rw [hx]) (hseen.rd TMB_CFG_mode t 0 ht)
    (hseen.rd TMB_CFG_ts_sample t 0 ht) (hseen.rd TMB_STAT_ts_now t 0 ht), hseen.rd TMB_PATTERN_pins t 0 ht⟩

end Sys2Proof.Machine

/-!
PROOF. The instructions of control flow, clause by clause (R283 to R288).
-/

namespace Sys2Proof.Machine

set_option Elab.async false

/-- A word that is a program error, executed alone. -/
theorem completes_failed {c : Instr} {s : State} {t : Fin 8} {op code : Nat} {p : Hub → Nat → Bool}
    (hx : exec c s = s.on (fun h => h.tmbInstr t op p)) (x : AtWord s.hub.begun t op) (hop : op < 12)
    (hp : p s.hub.begun (s.hub.begun.nextWord t) = true) (hcode : code < 16)
    (herr : s.hub.begun.execWord t (s.hub.begun.tmb t).next (s.hub.begun.nextWord t) =
      (s.hub.begun.tmbError t code (s.hub.begun.tmb t).next, false)) :
    Completes c s (fun h => h.failed t code (s.hub.tmb t).next (s.hub.proofHides 30 t)) := by
  refine completes_word hx x hop hp ?_
  rw [herr]
  exact tmbError_failed _ t.isLt hcode x.runs

/-- A zero-cycle instruction, executed alone, after a change `f` of its tumbler's stacks. -/
theorem completes_zero {c : Instr} {s : State} {t : Fin 8} {op next : Nat} {f : Tmb → Tmb} {p : Hub → Nat → Bool} {P : Hub → Prop}
    (hx : exec c s = s.on (fun h => h.tmbInstr t op p)) (x : AtWord s.hub.begun t op) (hop : op < 12)
    (hp : p s.hub.begun (s.hub.begun.nextWord t) = true)
    (hword : s.hub.begun.execWord t (s.hub.begun.tmb t).next (s.hub.begun.nextWord t) =
      (s.hub.begun.modTmb t f).zeroCycle t (s.hub.begun.tmb t).next next)
    (hz : (f (s.hub.tmb t)).zeros < 16)
    (hP : ∀ h : Hub, h.tmb t = { f (s.hub.tmb t) with next := next, zeros := (f (s.hub.tmb t)).zeros + 1 } →
      h.tmbState t = s.hub.tmbState t → P h) : Completes c s P := by
  refine completes_word hx x hop hp ?_
  rw [hword]
  refine hP _ (tmb_zeroCycle _ next f t.isLt hz) (tmbState_zeroCycle _ next ?_)
  rwa [Hub.tmb_modTmb_self s.hub.begun t f t.isLt]

/-! ### BRC -/

/-- The value of a condition, from what it reads. -/
def Hub.condVal (h : Hub) (t sel : Nat) : Option Bool :=
  if sel < 0x10 then if h.isIn sel && h.chOwner sel == h.tmbOwner t then some (h.flag IN_STAT_state sel) else none
  else if sel < 0x14 then if h.flag TMB_AUX_MAP_dir (sel - 0x10) then none else some (vget h.aux (sel - 0x10) {}).input
  else if 0x20 ≤ sel && sel < 0x40 then some (bitOf (h.rd TMB_MKSEEN_seen t) (sel - 0x20))
  else if 0x40 ≤ sel && sel < 0x48 then some (bitOf (h.tmb t).lsyLatch (sel - 0x40))
  else if 0x50 ≤ sel && sel < 0x60 then
    if some (h.rd TMB_CMP_CFG_ward (sel - 0x50)) == h.tmbOwner t then
      some (h.flag TMB_CMP_CFG_en (sel - 0x50) && h.flag TMB_CMP_STAT_state (sel - 0x50)) else none
  else if sel == 0x7F then some true
  else none

theorem condIs_eq (h : Hub) (t sel : Nat) : h.condIs t sel = h.condVal t sel := by
  unfold Hub.condIs Hub.tmbCond Hub.condVal
  dsimp only
  split_ifs <;> rfl

theorem condIs_begun (h : Hub) (t sel : Nat) : h.begun.condIs t sel = h.condIs t sel := by
  rw [condIs_eq, condIs_eq]
  rfl

/-- A branch goes on at its target, or at the next address where the condition equals the bit that inverts it. -/
theorem next_brc {h : Hub} {t addr w : Nat} {v : Bool} (ht : t < 8) (hop : wOp w = 5) (hv : h.condIs t (bitsOf (wArg w) 24 8) = some v)
    (hin : wArg w % 2 ^ 10 < h.regionLen t) (hz : (h.tmb t).zeros < 16) :
    ((h.execWord t addr w).1.tmb t).next =
      if h.condIs t (bitsOf (wArg w) 24 8) == some (bitOf (wArg w) 23) then addr + 1 else wArg w % 2 ^ 10 := by
  obtain ⟨k, hk⟩ := tmbCond_of_condIs hv
  obtain ⟨l, hl⟩ := tmb_of_tmbCond ht hk
  have hz' : (k.tmb t).zeros < 16 := by rwa [hl]
  have hin' : wArg w % 2 ^ 10 < k.regionLen t := by
    rw [Hub.regionLen, (tmbCond_seen ht hk).rd TMB_REGION_len_m1 t 0 ht]
    exact hin
  rw [execWord_brc hop hk, hv]
  by_cases hsame : v = bitOf (wArg w) 23
  · rw [if_neg (by simpa using hsame), if_pos (by rw [hsame]; exact beq_self_eq_true _)]
    exact next_zeroCycle _ _ ht hz'
  · rw [if_pos (by simpa using hsame), if_neg (by simpa using hsame), branch_inside _ id hin']
    exact congrArg Tmb.next (tmb_zeroCycle _ _ id ht hz')

/-! ### WAIT -/

section
variable {h k : Hub} {t addr arg : Nat} {v : Bool}

/-- A realignment leaves the tumbler as it was but for the instant of its next cycle. -/
theorem tmb_realign (h : Hub) {t : Nat} (sel : Nat) (ht : t < 8) : ∃ x, (h.realign t sel).tmb t = { h.tmb t with cycleAt := x } := by
  unfold Hub.realign
  split
  · split
    · exact ⟨_, rfl⟩
    · split
      · exact ⟨_, Hub.tmb_modTmb_self h t _ ht⟩
      · exact ⟨_, rfl⟩
  · exact ⟨_, rfl⟩

/-- A WAIT whose condition holds goes on at the second address after it. -/
theorem execWaitWord_met (ht : t < 8) (hcond : h.tmbCond t (bitsOf arg 24 8) = .ok (v, k)) (hv : v ≠ bitOf arg 23) :
    ((h.execWaitWord t addr arg).1.tmb t).next = addr + 2 ∧ ((h.execWaitWord t addr arg).1.tmb t).waitAt = none ∧
      ((h.execWaitWord t addr arg).1.tmb t).waited = 0 := by
  have hself := Hub.tmb_modTmb_self k t (fun x => { x with waitAt := none, waited := 0, next := addr + 2 }) ht
  obtain ⟨y, hy⟩ := tmb_realign (k.modTmb t (fun x => { x with waitAt := none, waited := 0, next := addr + 2 })) (bitsOf arg 24 8) ht
  have hrun : (h.execWaitWord t addr arg).1.tmb t =
      (if bitOf arg 23 = true then k.modTmb t (fun x => { x with waitAt := none, waited := 0, next := addr + 2 })
        else (k.modTmb t (fun x => { x with waitAt := none, waited := 0, next := addr + 2 })).realign t (bitsOf arg 24 8)).tmb t := by
    unfold Hub.execWaitWord
    dsimp only
    rw [hcond]
    dsimp only
    rw [if_pos (by simpa using hv)]
    rfl
  rw [hrun]
  split
  · rw [hself]
    exact ⟨rfl, rfl, rfl⟩
  · rw [hy, hself]
    exact ⟨rfl, rfl, rfl⟩

/-- The cycles that a WAIT at an address has taken. -/
def Tmb.waitedAt (x : Tmb) (addr : Nat) : Nat := if x.waitAt == some addr then x.waited else 0

/-- A WAIT whose time has passed goes on at the next address. -/
theorem execWaitWord_late (ht : t < 8) (hcond : h.tmbCond t (bitsOf arg 24 8) = .ok (v, k)) (hv : v = bitOf arg 23)
    (hlate : (arg % 2 ^ 23 != 0 && decide (arg % 2 ^ 23 ≤ (h.tmb t).waitedAt addr)) = true) :
    ((h.execWaitWord t addr arg).1.tmb t).next = addr + 1 ∧ ((h.execWaitWord t addr arg).1.tmb t).waitAt = none ∧
      ((h.execWaitWord t addr arg).1.tmb t).waited = 0 := by
  have hrun : (h.execWaitWord t addr arg).1.tmb t = (k.modTmb t (fun x => { x with waitAt := none, waited := 0, next := addr + 1 })).tmb t := by
    unfold Hub.execWaitWord
    dsimp only
    rw [hcond]
    dsimp only
    rw [if_neg (by simp [hv]), if_pos (by simpa [Tmb.waitedAt] using hlate)]
    rfl
  rw [hrun, Hub.tmb_modTmb_self _ _ _ ht]
  exact ⟨rfl, rfl, rfl⟩

/-- The hub as a WAIT notes one more cycle at its address. -/
def Hub.waiting (h : Hub) (t addr n : Nat) : Hub := h.modTmb t (fun x => { x with waitAt := some addr, waited := n })

theorem execWaitWord_holds (hcond : h.tmbCond t (bitsOf arg 24 8) = .ok (v, k)) (hv : v = bitOf arg 23)
    (hgo : (arg % 2 ^ 23 != 0 && decide (arg % 2 ^ 23 ≤ (h.tmb t).waitedAt addr)) = false) :
    (h.execWaitWord t addr arg).1 = (k.waiting t addr ((h.tmb t).waitedAt addr + 1)).holdCycle t addr 3 := by
  unfold Hub.execWaitWord
  dsimp only
  rw [hcond]
  dsimp only
  rw [if_neg (by simp [hv]), if_neg (by simpa [Tmb.waitedAt] using hgo)]
  rfl

/-- A WAIT that goes on takes a cycle in which the pattern holds. -/
theorem execWaitWord_issues (ht : t < 8) (hv : h.condIs t (bitsOf arg 24 8) = some (bitOf arg 23))
    (hgo : (arg % 2 ^ 23 != 0 && decide (arg % 2 ^ 23 ≤ (h.tmb t).waitedAt addr)) = false) (hfits : h.tsFits t (h.tsNow t) = true) :
    ∃ l, (h.execWaitWord t addr arg).1.tmb t = { h.tmb t with
      lsyLatch := l, waitAt := some addr, waited := (h.tmb t).waitedAt addr + 1, issued := some (h.rd TMB_PATTERN_pins t, 0, h.tsNow t),
      tsNext := none, zeros := 0 } ∧ (h.execWaitWord t addr arg).1.tmbState t = 3 := by
  obtain ⟨k, hk⟩ := tmbCond_of_condIs hv
  obtain ⟨l, hl⟩ := tmb_of_tmbCond ht hk
  obtain ⟨hfit, hnow, hpins⟩ := cycle_of_tmbCond ht hk
  have htmb : (k.waiting t addr ((h.tmb t).waitedAt addr + 1)).tmb t =
      { k.tmb t with waitAt := some addr, waited := (h.tmb t).waitedAt addr + 1 } := Hub.tmb_modTmb_self k t _ ht
  have hkept : (k.waiting t addr ((h.tmb t).waitedAt addr + 1)).tsNow t = k.tsNow t := tsNow_congr (by rw [htmb]) rfl rfl rfl
  have hnow' := hkept.trans hnow
  have hfits' : (k.waiting t addr ((h.tmb t).waitedAt addr + 1)).tsFits t ((k.waiting t addr ((h.tmb t).waitedAt addr + 1)).tsNow t) = true := by
    rw [hnow']
    exact (hfit _).trans hfits
  have hissued := holdCycle_issued addr ht (by decide : 3 < 8) hfits'
  have hpins' : (k.waiting t addr ((h.tmb t).waitedAt addr + 1)).rd TMB_PATTERN_pins t = h.rd TMB_PATTERN_pins t := hpins
  rw [execWaitWord_holds hk rfl hgo]
  refine ⟨l, hissued.tmb.trans ?_, hissued.state⟩
  rw [htmb, hl, hnow', hpins']

end

end Sys2Proof.Machine

/-!
PROOF. The obligation of the instructions of control flow, clause by clause.
-/

namespace Sys2Proof.Machine

set_option Elab.async false

/-- A stop leaves what its tumbler has released. -/
theorem tmb_tmbQuiet (h : Hub) {t : Nat} (release : Bool) (ht : t < 8) : (h.tmbQuiet t release).tmb t = { h.tmb t with
    released := (h.tmb t).released || release, stopReq := none, jumpReq := none, heavyAsked := false, heavyOk := false,
    issued := none, remain := 0, march := none, dlFrom := none, startSlot := none, startOk := false, zeros := 0 } := by
  have hmarch : ((h.marchAbandon t)).tmb t = h.tmb t := tmb_of_moves (marchAbandon_moves h t ht) t
  have hsent (x : HFrame) : (((h.marchAbandon t).wr TMB_PATTERN_pins 0 t).sendL x).tmb t = h.tmb t :=
    (tmb_of_moves (sendL_moves _ x) t).trans hmarch
  unfold Hub.tmbQuiet
  refine (Hub.tmb_modTmb_self _ t _ ht).trans ?_
  split
  · rw [hsent]
  · rw [hmarch]

theorem tmb_tmbStop (h : Hub) {t : Nat} (cause : Nat) (release : Bool) (ht : t < 8) :
    (h.tmbStop t cause release).tmb t = (h.tmbQuiet t release).tmb t := by
  rw [tmbStop_eq]
  split
  · exact tmb_of_moves (tmbEnded_shown _ cause _ _ ht) t
  · rfl

/-- Settles O16: each clause by what its word does; a program error by `tmbError_failed`. -/
theorem tumblerControlFlow : Obligations.TumblerControlFlow := by
  refine ⟨?stop, ?loop, ?loopFull, ?endl, ?endlEmpty, ?jmp, ?jmpOut, ?brc, ?wait, ?waitHolds, ?waitLate, ?call, ?callFull, ?ret, ?retEmpty⟩
  case stop =>
    intro s t hc
    have x : AtWord s.hub.begun t 0 := atWord_of_comesTo hc
    refine completes_word (exec_stop t s) x (by decide) rfl ?_
    rw [execWord_stop x.opcode]
    have hruns : (s.hub.begun.wr TMB_STAT_pc (s.hub.begun.tmb t).next t).tmbRuns t = true := by
      rw [Hub.tmbRuns, Hub.tmbState, Hub.rd_wr_apart _ _ _ _ _ _ (by decide)]
      exact x.runs
    have htmb := (tmb_tmbStop (s.hub.begun.wr TMB_STAT_pc (s.hub.begun.tmb t).next t) 1 (bitOf (wArg (s.hub.begun.nextWord t)) 0)
      t.isLt).trans (tmb_tmbQuiet _ _ t.isLt)
    refine ⟨?_, ?_, congrArg Tmb.issued htmb, congrArg Tmb.released htmb⟩
    · rw [tmbState_tmbStop _ _ _ t.isLt t.isLt, if_pos ⟨rfl, by rw [hruns]; rfl⟩]
    · exact stop_cause_tmbStop_self _ 1 _ t.isLt (by rw [hruns]; rfl)
  case loop =>
    intro s t hc
    simp only [Can.loop, Bool.and_eq_true, bne_iff_ne, decide_eq_true_eq] at hc
    obtain ⟨⟨⟨hcome, hn⟩, hroom⟩, hz⟩ := hc
    have x : AtWord s.hub.begun t 2 := atWord_of_comesTo hcome
    refine completes_zero (exec_loop t s) x (by decide) rfl (execWord_loop x.opcode hn hroom) hz fun h htmb hstate => ?_
    rw [htmb]
    exact ⟨rfl, rfl, hstate⟩
  case loopFull =>
    intro s t hc
    simp only [Can.loop2, Bool.and_eq_true, bne_iff_ne, decide_eq_true_eq] at hc
    obtain ⟨⟨hcome, hn⟩, hfull⟩ := hc
    have x : AtWord s.hub.begun t 2 := atWord_of_comesTo hcome
    exact completes_failed (exec_loop t s) x (by decide) rfl (by decide) (execWord_loop_full x.opcode hn hfull)
  case endl =>
    intro s t hc
    simp only [Can.endl, Bool.and_eq_true, decide_eq_true_eq] at hc
    obtain ⟨⟨hcome, hsome⟩, hz⟩ := hc
    have x : AtWord s.hub.begun t 3 := atWord_of_comesTo hcome
    obtain ⟨e, rest, hloops⟩ : ∃ e rest, (s.hub.tmb t).loops = e :: rest := List.exists_cons_of_ne_nil (by simpa using hsome)
    refine completes_zero (exec_endl t s) x (by decide) rfl (execWord_endl x.opcode hloops) hz fun h htmb _ => ?_
    rw [htmb, hloops]
    intro y hy
    obtain rfl : y = e := by simpa using hy
    refine ⟨fun hmore => ?_, fun hlast => ?_⟩
    · simp [endlStep, hmore]
    · simp only [endlStep, if_neg (Nat.not_lt.mpr hlast)]
      exact ⟨rfl, rfl⟩
  case endlEmpty =>
    intro s t hc
    simp only [Can.endl2, Bool.and_eq_true] at hc
    obtain ⟨hcome, hnone⟩ := hc
    have x : AtWord s.hub.begun t 3 := atWord_of_comesTo hcome
    exact completes_failed (exec_endl t s) x (by decide) rfl (by decide) (execWord_endl_empty x.opcode (List.isEmpty_iff.mp hnone))
  case jmp =>
    intro s t hc
    simp only [Can.jmp, Bool.and_eq_true, decide_eq_true_eq] at hc
    obtain ⟨⟨hcome, hin⟩, hz⟩ := hc
    have x : AtWord s.hub.begun t 4 := atWord_of_comesTo hcome
    refine completes_zero (exec_jmp t s) x (by decide) rfl ((execWord_jmp x.opcode).trans (branch_inside _ id hin)) hz fun h htmb _ => ?_
    rw [htmb]
    exact ⟨rfl, rfl, rfl⟩
  case jmpOut =>
    intro s t hc
    simp only [Can.jmp2, Bool.and_eq_true, decide_eq_true_eq] at hc
    obtain ⟨hcome, hout⟩ := hc
    have x : AtWord s.hub.begun t 4 := atWord_of_comesTo hcome
    exact completes_failed (exec_jmp t s) x (by decide) rfl (by decide) ((execWord_jmp x.opcode).trans (branch_outside _ id hout))
  case brc =>
    intro s t hc
    simp only [Can.brc, Bool.and_eq_true, decide_eq_true_eq, Option.isSome_iff_exists] at hc
    obtain ⟨⟨⟨hcome, v, hv⟩, hin⟩, hz⟩ := hc
    have x : AtWord s.hub.begun t 5 := atWord_of_comesTo hcome
    have hnext := next_brc t.isLt x.opcode ((condIs_begun _ _ _).trans hv) (addr := (s.hub.tmb t).next) hin hz
    rw [condIs_begun] at hnext
    exact completes_word (exec_brc t s) x (by decide) rfl hnext
  case wait =>
    intro s t hc
    simp only [Can.wait, Bool.and_eq_true, bne_iff_ne, Option.isSome_iff_exists] at hc
    obtain ⟨⟨hcome, v, hv⟩, hmet⟩ := hc
    have x : AtWord s.hub.begun t 6 := atWord_of_comesTo hcome
    obtain ⟨k, hk⟩ := tmbCond_of_condIs ((condIs_begun _ _ _).trans hv)
    rw [hv] at hmet
    refine completes_word (exec_wait t s) x (by decide) rfl ?_
    rw [execWord_wait x.opcode]
    exact execWaitWord_met t.isLt hk fun he => hmet (congrArg some he)
  case waitHolds =>
    intro s t hc
    simp only [Can.wait2, Bool.and_eq_true, Bool.not_eq_true'] at hc
    obtain ⟨⟨⟨hcome, hv⟩, hgo⟩, hfits⟩ := hc
    have x : AtWord s.hub.begun t 6 := atWord_of_comesTo hcome
    obtain ⟨l, htmb, hstate⟩ := execWaitWord_issues (addr := (s.hub.begun.tmb t).next)
      (arg := wArg (s.hub.begun.nextWord t)) t.isLt
      ((condIs_begun _ _ _).trans (beq_iff_eq.mp hv)) hgo hfits
    have hwaited : (s.hub.tmb t).waitedAt (s.hub.tmb t).next =
        if (s.hub.tmb t).waitAt = some (s.hub.tmb t).next then (s.hub.tmb t).waited else 0 := by simp [Tmb.waitedAt]
    refine completes_word (exec_wait t s) x (by decide) rfl ?_
    rw [execWord_wait x.opcode]
    have hnext := congrArg Tmb.next htmb
    have hnoted := congrArg Tmb.waitAt htmb
    have hcount := congrArg Tmb.waited htmb
    have hissued := congrArg Tmb.issued htmb
    exact ⟨hnext, hnoted, hcount.trans (congrArg (· + 1) hwaited), hstate, hissued⟩
  case waitLate =>
    intro s t hc
    simp only [Can.waitTimeout, Bool.and_eq_true, beq_iff_eq, bne_iff_ne, decide_eq_true_eq] at hc
    obtain ⟨⟨⟨⟨hcome, hv⟩, hnoted⟩, hlimit⟩, hpast⟩ := hc
    have x : AtWord s.hub.begun t 6 := atWord_of_comesTo hcome
    obtain ⟨k, hk⟩ := tmbCond_of_condIs ((condIs_begun _ _ _).trans hv)
    have hwaited : (s.hub.tmb t).waitedAt (s.hub.tmb t).next = (s.hub.tmb t).waited := by rw [Tmb.waitedAt, hnoted]; simp
    have hlate : (wArg (s.hub.nextWord t) % 2 ^ 23 != 0 && decide (wArg (s.hub.nextWord t) % 2 ^ 23 ≤ (s.hub.tmb t).waited)) = true := by
      rw [Bool.and_eq_true]
      exact ⟨bne_iff_ne.mpr hlimit, decide_eq_true hpast⟩
    refine completes_word (exec_waitTimeout t s) x (by decide) ?_ ?_
    · rw [Bool.and_assoc, Bool.and_eq_true]
      exact ⟨beq_iff_eq.mpr hnoted, hlate⟩
    · rw [execWord_wait x.opcode]
      exact execWaitWord_late t.isLt hk rfl (by rw [← hwaited] at hlate; exact hlate)
  case call =>
    intro s t hc
    simp only [Can.call, Bool.and_eq_true, decide_eq_true_eq] at hc
    obtain ⟨⟨⟨hcome, hroom⟩, hin⟩, hz⟩ := hc
    have x : AtWord s.hub.begun t 7 := atWord_of_comesTo hcome
    refine completes_zero (exec_call t s) x (by decide) rfl ((execWord_call (h := s.hub.begun) x.opcode hroom).trans (branch_inside _ _ hin)) hz fun h htmb _ => ?_
    rw [htmb]
    exact ⟨rfl, rfl⟩
  case callFull =>
    intro s t hc
    simp only [Can.call2, Bool.and_eq_true, decide_eq_true_eq] at hc
    obtain ⟨hcome, hfull⟩ := hc
    have x : AtWord s.hub.begun t 7 := atWord_of_comesTo hcome
    exact completes_failed (exec_call t s) x (by decide) rfl (by decide) (execWord_call_full x.opcode hfull)
  case ret =>
    intro s t hc
    simp only [Can.ret, Bool.and_eq_true, decide_eq_true_eq] at hc
    obtain ⟨⟨hcome, hsome⟩, hz⟩ := hc
    have x : AtWord s.hub.begun t 8 := atWord_of_comesTo hcome
    obtain ⟨a, rest, hcalls⟩ : ∃ a rest, (s.hub.tmb t).calls = a :: rest := List.exists_cons_of_ne_nil (by simpa using hsome)
    refine completes_zero (exec_ret t s) x (by decide) rfl (execWord_ret x.opcode hcalls) hz fun h htmb _ => ?_
    rw [htmb, hcalls]
    exact ⟨rfl, rfl⟩
  case retEmpty =>
    intro s t hc
    simp only [Can.ret2, Bool.and_eq_true, List.isEmpty_iff] at hc
    obtain ⟨hcome, hnone⟩ := hc
    have x : AtWord s.hub.begun t 8 := atWord_of_comesTo hcome
    exact completes_failed (exec_ret t s) x (by decide) rfl (by decide) (execWord_ret_empty x.opcode hnone)

end Sys2Proof.Machine

/-!
PROOF. The instructions that issue vectors, set timing, test banks and signal, and the issue point (R284, R285, R290, R295, R307).
-/

namespace Sys2Proof.Machine

set_option Elab.async false

/-! ### VEC -/

/-- The timing set that a VEC names, or the one of the sample clock. -/
def Hub.vecTs (h : Hub) (t w : Nat) : Nat := if h.rd TMB_CFG_mode t == 0 then h.rd TMB_CFG_ts_sample t else wTs w

/-- The hub with a VEC at an address taken. -/
def Hub.vecTaken (h : Hub) (t addr w : Nat) : Hub := h.modTmb t (fun x => { x with
  remain := wArg w % 2 ^ 31 - 1, vecMk := wMk w, mkEach := bitOf (wArg w) 31, next := addr + 1, heavyOk := false, heavyAsked := false })

section
variable {h : Hub} {t addr w : Nat}

theorem execVecWord_zero (hn : wArg w % 2 ^ 31 = 0) : h.execVecWord t addr w = h.tmbError t 2 addr := by
  unfold Hub.execVecWord
  exact if_pos (beq_iff_eq.mpr hn)

theorem execVecWord_taken (hn : wArg w % 2 ^ 31 ≠ 0) (hups : ((h.heavyUps t (wPins w)).isEmpty || (h.tmb t).heavyOk) = true) :
    h.execVecWord t addr w = (h.vecTaken t addr w).issue t addr (wPins w) (wMk w) (h.vecTs t w) 2 true := by
  have hgo : (!(h.heavyUps t (wPins w)).isEmpty && !(h.tmb t).heavyOk) = false := by
    rw [← Bool.not_or, hups]
    rfl
  unfold Hub.execVecWord
  dsimp only
  rw [if_neg (by simpa using hn), hgo, if_neg Bool.false_ne_true]
  rfl

theorem execVecWord_issued (ht : t < 8) (hn : wArg w % 2 ^ 31 ≠ 0) (hups : ((h.heavyUps t (wPins w)).isEmpty || (h.tmb t).heavyOk) = true)
    (hfits : h.tsFits t (h.vecTs t w) = true) : (h.execVecWord t addr w).tmb t = { h.tmb t with
      remain := wArg w % 2 ^ 31 - 1, vecMk := wMk w, mkEach := bitOf (wArg w) 31, next := addr + 1, heavyOk := false, heavyAsked := false,
      issued := some (wPins w, wMk w, h.vecTs t w), tsNext := none, zeros := 0 } ∧
    (h.execVecWord t addr w).tmbState t = 2 ∧ (h.execVecWord t addr w).rd TMB_STAT_pc t = addr % 1024 := by
  have hissued := issue_issued (h := h.vecTaken t addr w) (addr := addr) (pins := wPins w) (marks := wMk w) true ht
    (by decide : 2 < 8) hfits
  have htmb : (h.vecTaken t addr w).tmb t = { h.tmb t with
    remain := wArg w % 2 ^ 31 - 1, vecMk := wMk w, mkEach := bitOf (wArg w) 31, next := addr + 1, heavyOk := false, heavyAsked := false } :=
    Hub.tmb_modTmb_self h t _ ht
  rw [execVecWord_taken hn hups]
  exact ⟨hissued.tmb.trans (by rw [htmb]), hissued.state, hissued.pc⟩

/-! ### A heavy vector that waits -/

/-- The hub with a heavy vector's admission asked for, once. -/
def Hub.heavyAsks (h : Hub) (t w : Nat) : Hub :=
  if (h.tmb t).heavyAsked then h
  else (h.modTmb t (fun x => { x with heavyAsked := true })).submit
    { kind := .heavyVec, ref := t, ward := (h.tmbOwner t).getD 8, cls := 0, chs := chMap ((h.heavyUps t (wPins w)).flatMap h.chSet), heavy := true
      instant := some ((h.tmb t).cycleAt / 8) }

theorem execVecWord_stalled (hn : wArg w % 2 ^ 31 ≠ 0) (hups : (!(h.heavyUps t (wPins w)).isEmpty && !(h.tmb t).heavyOk) = true) :
    h.execVecWord t addr w = ((h.heavyAsks t w).count TMB_STALLS_stalls 1 t).holdCycle t addr 4 := by
  unfold Hub.execVecWord
  dsimp only
  rw [if_neg (by simpa using hn), if_pos hups]
  rfl

theorem submit_queued (h : Hub) (c : Cand) : (h.submit c).sch.queue.any (fun x => x.kind == c.kind && x.ref == c.ref) = true := by
  unfold Hub.submit
  split
  case isTrue hin => exact hin
  case isFalse =>
    refine List.any_eq_true.mpr ⟨{ c with at_ := h.clk.now }, List.mem_append_right _ List.mem_cons_self, ?_⟩
    simp

theorem tsPeriod_submit (h : Hub) (c : Cand) (ts : Nat) : (h.submit c).tsPeriod ts = h.tsPeriod ts := by
  unfold Hub.submit
  split
  · rfl
  · exact Hub.rd_wr_apart _ _ _ _ _ _ (by decide)

theorem tsPeriod_heavyAsks (h : Hub) (t w ts : Nat) : (h.heavyAsks t w).tsPeriod ts = h.tsPeriod ts := by
  unfold Hub.heavyAsks
  split
  · rfl
  · exact tsPeriod_submit _ _ ts

theorem heavyAsks_moves (h : Hub) (t w : Nat) : Moves ⟨[.tmbs, .sch], [SCH_STAT_queued], []⟩ h (h.heavyAsks t w) :=
  .ite (Moves.refl _ h) (((Moves.refl _ h).to (modTmb_moves _ _ _)).to (submit_moves _ _))

theorem tmb_heavyAsks (h : Hub) {t : Nat} (w : Nat) (ht : t < 8) : (h.heavyAsks t w).tmb t = { h.tmb t with heavyAsked := true } := by
  unfold Hub.heavyAsks
  split
  case isTrue hasked => rw [← hasked]
  case isFalse => exact (tmb_of_moves (submit_moves _ _) t).trans (Hub.tmb_modTmb_self h t _ ht)

theorem queued_heavyAsks (h : Hub) {t : Nat} (w : Nat) (hnew : (h.tmb t).heavyAsked = false) :
    (h.heavyAsks t w).sch.queue.any (fun x => x.kind == .heavyVec && x.ref == t) = true := by
  unfold Hub.heavyAsks
  rw [hnew, if_neg Bool.false_ne_true]
  exact submit_queued _ _

/-- What a heavy vector that is not admitted leaves: it has asked, and holds the pattern for a cycle, which counts. -/
theorem execVecWord_stalls (ht : t < 8) (hn : wArg w % 2 ^ 31 ≠ 0) (hups : (!(h.heavyUps t (wPins w)).isEmpty && !(h.tmb t).heavyOk) = true)
    (hfits : h.tsFits t (h.tsNow t) = true) : (h.execVecWord t addr w).tmb t = { h.tmb t with
      heavyAsked := true, issued := some (h.rd TMB_PATTERN_pins t, 0, h.tsNow t), tsNext := none, zeros := 0 } ∧
    (h.execVecWord t addr w).tmbState t = 4 ∧ (h.execVecWord t addr w).sch = (h.heavyAsks t w).sch ∧
    (h.execVecWord t addr w).rd TMB_PATTERN_pins t = h.rd TMB_PATTERN_pins t ∧
    (h.execVecWord t addr w).rd TMB_STALLS_stalls t = satInc 65535 (h.rd TMB_STALLS_stalls t) := by
  have hasks := heavyAsks_moves h t w
  have hcount : Moves ⟨[.tmbs, .sch], [SCH_STAT_queued, TMB_STALLS_stalls], []⟩ h ((h.heavyAsks t w).count TMB_STALLS_stalls 1 t) :=
    ((Moves.refl _ h).to hasks).count _ _ _ _ ht
  have htmb : ((h.heavyAsks t w).count TMB_STALLS_stalls 1 t).tmb t = { h.tmb t with heavyAsked := true } := tmb_heavyAsks h w ht
  have hnow : ((h.heavyAsks t w).count TMB_STALLS_stalls 1 t).tsNow t = h.tsNow t :=
    tsNow_congr (by rw [htmb]) (hcount.rd TMB_CFG_mode t 0 ht) (hcount.rd TMB_CFG_ts_sample t 0 ht) (hcount.rd TMB_STAT_ts_now t 0 ht)
  have hpins := hcount.rd TMB_PATTERN_pins t 0 ht
  have hperiod : ((h.heavyAsks t w).count TMB_STALLS_stalls 1 t).tsPeriod (h.tsNow t) = h.tsPeriod (h.tsNow t) :=
    (Hub.rd_count_apart _ _ _ _ _ _ (by decide)).trans (tsPeriod_heavyAsks h t w _)
  have hissued := holdCycle_issued (h := (h.heavyAsks t w).count TMB_STALLS_stalls 1 t) addr ht (by decide : 4 < 8)
    (by rw [hnow, tsFits_of_moves hcount t hperiod]; exact hfits)
  rw [execVecWord_stalled hn hups]
  refine ⟨hissued.tmb.trans (by rw [htmb, hpins, hnow]), hissued.state, hissued.moves.keeps .sch, (hissued.moves.rd TMB_PATTERN_pins t 0 ht).trans hpins,
    (hissued.moves.rd TMB_STALLS_stalls t 0 ht).trans ?_⟩
  rw [Hub.rd_count_satInc, hasks.rd TMB_STALLS_stalls t 0 ht]
  rfl

end

/-! ### MARCH -/

/-- The hub with the results of an earlier element cleared. -/
def Hub.marchClear (h : Hub) (t : Nat) : Hub :=
  let h := (h.put TMB_MARCH_FIRST_valid false t).wr TMB_MARCH_FIRST_addr 0 t
  (h.wr TMB_MARCH_SIG_sig 0 t).wr TMB_MARCH_CNT_count 0 t

/-- The hub with an element begun, before its first cycle. -/
def Hub.marchBegun (h : Hub) (t addr arg n : Nat) : Hub :=
  (if bitOf arg 15 then h.marchClear t else h).modTmb t (fun x => { x with
    march := some { bank := arg % 64, operand := arg }, remain := n, next := addr + 1 })

section
variable {h : Hub} {t addr arg : Nat}

theorem marchStart_denied (hgen : ¬ (6 ≤ bitsOf arg 19 3 ∨ 6 ≤ bitsOf arg 16 3))
    (hbank : (decide (48 ≤ arg % 64) || h.rd BNK_OWNER_owner (arg % 64) != 0x10 + t) = true) : h.marchStart t addr arg = h.tmbError t 7 addr := by
  unfold Hub.marchStart
  dsimp only
  rw [if_neg (by simpa using hgen), if_pos (by simpa using hbank)]

theorem marchStart_begins (hgen : ¬ (6 ≤ bitsOf arg 19 3 ∨ 6 ≤ bitsOf arg 16 3))
    (hbank : (decide (48 ≤ arg % 64) || h.rd BNK_OWNER_owner (arg % 64) != 0x10 + t) = false) :
    ∃ n, h.marchStart t addr arg = (h.marchBegun t addr arg n).holdCycle t addr 2 := by
  unfold Hub.marchStart
  dsimp only
  rw [if_neg (by simpa using hgen), if_neg (by simpa using hbank)]
  exact ⟨_, rfl⟩

theorem tsPeriod_marchBegun (h : Hub) (t addr arg n ts : Nat) : (h.marchBegun t addr arg n).tsPeriod ts = h.tsPeriod ts := by
  have hclear : (h.marchClear t).tsPeriod ts = h.tsPeriod ts := by
    unfold Hub.tsPeriod Hub.marchClear
    rw [Hub.rd_wr_apart _ _ _ _ _ _ (by decide), Hub.rd_wr_apart _ _ _ _ _ _ (by decide), Hub.rd_wr_apart _ _ _ _ _ _ (by decide),
      Hub.rd_put_apart _ _ _ _ _ _ (by decide)]
  show (if bitOf arg 15 then h.marchClear t else h).tsPeriod ts = _
  split
  · exact hclear
  · rfl

theorem marchBegun_moves (h : Hub) (addr arg n : Nat) (ht : t < 8) : Moves ⟨[.tmbs], [TMB_MARCH_FIRST_valid, TMB_MARCH_FIRST_addr,
    TMB_MARCH_SIG_sig, TMB_MARCH_CNT_count], []⟩ h (h.marchBegun t addr arg n) :=
  (Moves.ite (((((Moves.refl _ h).put _ _ _ _ ht).wr _ _ _ _ ht).wr _ _ _ _ ht).wr _ _ _ _ ht) (Moves.refl _ h)).to (modTmb_moves _ _ _)

/-- The element begins on the bank: its first cycle is issued, and the memory is as it was. -/
theorem marchStart_issues (ht : t < 8) (hgen : ¬ (6 ≤ bitsOf arg 19 3 ∨ 6 ≤ bitsOf arg 16 3))
    (hbank : (decide (48 ≤ arg % 64) || h.rd BNK_OWNER_owner (arg % 64) != 0x10 + t) = false) (hfits : h.tsFits t (h.tsNow t) = true) :
    ((h.marchStart t addr arg).tmb t).march = some { bank := arg % 64, operand := arg } ∧ ((h.marchStart t addr arg).tmb t).next = addr + 1 ∧
      (h.marchStart t addr arg).tmbState t = 2 ∧ (h.marchStart t addr arg).mem = h.mem := by
  obtain ⟨n, hn⟩ := marchStart_begins (addr := addr) hgen hbank
  have hmoves := marchBegun_moves h addr arg n ht
  obtain ⟨x, htmb⟩ : ∃ x : Tmb, (h.marchBegun t addr arg n).tmb t = { x with
      march := some { bank := arg % 64, operand := arg }, remain := n, next := addr + 1 } ∧ x.tsNext = (h.tmb t).tsNext := by
    refine ⟨(if bitOf arg 15 then h.marchClear t else h).tmb t, Hub.tmb_modTmb_self _ _ _ ht, ?_⟩
    split <;> rfl
  have hnow : (h.marchBegun t addr arg n).tsNow t = h.tsNow t :=
    tsNow_congr (by rw [htmb.1]; exact htmb.2) (hmoves.rd TMB_CFG_mode t 0 ht) (hmoves.rd TMB_CFG_ts_sample t 0 ht) (hmoves.rd TMB_STAT_ts_now t 0 ht)
  have hissued := holdCycle_issued (h := h.marchBegun t addr arg n) addr ht (by decide : 2 < 8)
    (by rw [hnow, tsFits_of_moves hmoves t (tsPeriod_marchBegun h t addr arg n _)]; exact hfits)
  rw [hn]
  refine ⟨?_, ?_, hissued.state, (hissued.moves.keeps .mem).trans (hmoves.keeps .mem)⟩
  · rw [hissued.tmb, htmb.1]
  · rw [hissued.tmb, htmb.1]

/-! ### SIG -/

theorem execSigWord_fst (hz : (h.tmb t).zeros < 16) : (h.execSigWord t addr arg).1 =
    (let k := (((h.zeroCycle t addr (addr + 1)).1.wr TMB_SIG_code (arg % 256) t).count TMB_SIG_count 1 t)
     let k := if bitOf arg 9 then k.note 0x2B 0x46 sevNote 4 [t + (arg % 256) * 2 ^ 8 + addr * 2 ^ 16] else k
     if bitOf arg 8 then k.intOwner (k.tmbOwner t) (8 + t) else k) := by
  unfold Hub.execSigWord
  dsimp only
  rw [zeroCycle_of_few _ _ hz]
  rfl

/-- SIG shows its code, counts it, and goes on. -/
theorem execSigWord_shows (ht : t < 8) (hz : (h.tmb t).zeros < 16) :
    (h.execSigWord t addr arg).1.rd TMB_SIG_code t = arg % 256 ∧
      (h.execSigWord t addr arg).1.rd TMB_SIG_count t = satInc 65535 (h.rd TMB_SIG_count t) ∧
      ((h.execSigWord t addr arg).1.tmb t).next = addr + 1 := by
  have hrest (k : Hub) (l : List Nat) : Moves ⟨[.ret, .recd, .bst, .ints, .pins], noteFlds ++ intFlds, []⟩ k
      (let q := if bitOf arg 9 then k.note 0x2B 0x46 sevNote 4 l else k
       if bitOf arg 8 then q.intOwner (q.tmbOwner t) (8 + t) else q) :=
    .bind (.ite ((Moves.refl _ k).to (note_moves _ _ _ _ _ _ _)) (Moves.refl _ k)) fun y => .ite (y.to (intOwner_moves _ _ _)) y
  rw [execSigWord_fst hz]
  refine ⟨((hrest _ _).rd TMB_SIG_code t 0 ht).trans ?_, ((hrest _ _).rd TMB_SIG_count t 0 ht).trans ?_, ?_⟩
  · rw [Hub.rd_count_apart _ _ _ _ _ _ (by decide)]
    exact Hub.rd_wr_of_lt _ t 0 (Nat.mod_lt _ (by decide))
  · rw [Hub.rd_count_satInc, Hub.rd_wr_apart _ _ _ _ _ _ (by decide), zeroCycle_of_few _ _ hz, Hub.rd_wr_apart _ _ _ _ _ _ (by decide)]
    rfl
  · exact (congrArg Tmb.next (tmb_of_moves (hrest _ _) t)).trans (next_zeroCycle addr (addr + 1) ht hz)

end

/-! ### The issue point -/

theorem tmbRun_of_cycle {h : Hub} {t : Nat} (n : Nat) (hp : (h.tmbOne t).2 = false) : h.tmbRun t (n + 1) = (h.tmbOne t).1 := by
  rw [Hub.tmbRun]
  exact if_neg (by rw [hp]; exact Bool.false_ne_true)

/-- A tumbler at a vector boundary. -/
structure AtBoundary (h : Hub) (t : Nat) : Prop where
  runs : h.tmbRuns t = true
  unissued : (h.tmb t).issued = none
  up : h.dev.phase = .up
  unhalted : h.dev.halt = none

theorem atBoundary_of {h : Hub} {t : Nat}
    (hc : (h.tmbRuns t && (h.tmb t).issued.isNone && h.dev.phase == .up && h.dev.halt.isNone) = true) : AtBoundary h t := by
  simp only [Bool.and_eq_true, Option.isNone_iff_eq_none, beq_iff_eq] at hc
  obtain ⟨⟨⟨hruns, hissued⟩, hup⟩, hhalt⟩ := hc
  exact ⟨hruns, hissued, hup, hhalt⟩

theorem AtBoundary.open {h : Hub} {t : Nat} (x : AtBoundary h t) :
    ¬ (!h.tmbRuns t || (h.tmb t).issued.isSome || h.dev.phase != .up || h.dev.halt.isSome) = true := by
  simp [x.runs, x.unissued, x.up, x.unhalted]

section
variable {h : Hub} {t : Nat}

theorem boundary_closed (hc : (h.tmbRuns t && (h.tmb t).issued.isNone && h.dev.phase == .up && h.dev.halt.isNone) = false) :
    h.boundary t = (h, false) := by
  unfold Hub.boundary
  refine if_pos ?_
  have hneg : (!h.tmbRuns t || (h.tmb t).issued.isSome || h.dev.phase != .up || h.dev.halt.isSome) =
      !(h.tmbRuns t && (h.tmb t).issued.isNone && h.dev.phase == .up && h.dev.halt.isNone) := by
    simp only [Bool.not_and, Option.not_isNone, bne]
  rw [hneg, hc]
  rfl

theorem boundary_lost (x : AtBoundary h t) (hl : (!h.hinge.upL && h.drivesField t) = true) : h.boundary t = (h.tmbStop t 7 false, false) := by
  unfold Hub.boundary
  exact (if_neg x.open).trans (if_pos hl)

theorem boundary_stop (x : AtBoundary h t) (hl : (!h.hinge.upL && h.drivesField t) = false) {r : Bool} (hr : (h.tmb t).stopReq = some r) :
    h.boundary t = (h.tmbStop t 2 r, false) := by
  unfold Hub.boundary
  refine (if_neg x.open).trans ((if_neg (by rw [hl]; exact Bool.false_ne_true)).trans ?_)
  dsimp only
  rw [hr]

/-- The hub with one more cycle of a VEC or an element in force taken. -/
def Hub.cycleLess (h : Hub) (t : Nat) : Hub := h.modTmb t (fun x => { x with remain := x.remain - 1 })

theorem boundary_goes (x : AtBoundary h t) (hl : (!h.hinge.upL && h.drivesField t) = false) (hs : (h.tmb t).stopReq = none)
    (hj : (h.tmb t).jumpReq = none) (hn : (h.tmb t).remain ≠ 0) : (h.boundary t).1 = (h.cycleLess t).issue t (h.rd TMB_STAT_pc t)
      (h.rd TMB_PATTERN_pins t) (if (h.tmb t).march = none ∧ (h.tmb t).mkEach = true then (h.tmb t).vecMk else 0)
      (if (h.tmb t).march.isSome then (h.cycleLess t).tsNow t else h.rd TMB_STAT_ts_now t) 2 false ∧ (h.boundary t).2 = false := by
  unfold Hub.boundary
  rw [if_neg x.open, hl, if_neg Bool.false_ne_true]
  dsimp only
  rw [hs, hj]
  dsimp only
  rw [if_neg (by simpa using hn)]
  cases hm : (h.tmb t).march with
  | none => exact ⟨by simp; rfl, rfl⟩
  | some m => exact ⟨by simp; rfl, rfl⟩

end

end Sys2Proof.Machine

/-!
PROOF. The obligation of the instructions that issue vectors, set timing, test banks and signal, clause by clause.
-/

namespace Sys2Proof.Machine

set_option Elab.async false

/-- The issue point where no instruction is executed. -/
theorem completes_issuePoint_quiet {s : State} {t : Fin 8} {k : Hub} {P : Hub → Prop} (hb : s.hub.begun.boundary t = (k, false)) (hP : P k) :
    Completes (.issuePoint t) s P := by
  refine completes_of_begun (exec_issuePoint t s) ?_
  rw [hb]
  exact hP

/-- The issue point at which one instruction takes a cycle. -/
theorem completes_issuePoint_word {s : State} {t : Fin 8} {op : Nat} {P : Hub → Prop} (x : AtWord s.hub.begun t op) (hop : op < 12)
    (hcycle : (s.hub.begun.execWord t (s.hub.begun.tmb t).next (s.hub.begun.nextWord t)).2 = false)
    (hP : P (s.hub.begun.execWord t (s.hub.begun.tmb t).next (s.hub.begun.nextWord t)).1) : Completes (.issuePoint t) s P := by
  have hone := tmbOne_atWord x hop
  refine completes_of_begun (exec_issuePoint t s) ?_
  rw [boundary_atWord x]
  dsimp only
  rw [if_pos rfl, show (1100 : Nat) = 1099 + 1 from rfl, tmbRun_of_cycle 1099 (by rw [hone]; exact hcycle), hone]
  exact hP

theorem linked_of {h : Hub} {t : Nat} (hl : (h.hinge.upL || !h.drivesField t) = true) : (!h.hinge.upL && h.drivesField t) = false := by
  cases hup : h.hinge.upL <;> simp_all

/-- A timing set by the register's value, as the statement writes it. -/
theorem vecTs_eq (h : Hub) (t w : Nat) : h.vecTs t w = if h.rd TMB_CFG_mode t = 0 then h.rd TMB_CFG_ts_sample t else wTs w := by
  simp [Hub.vecTs]

/-- A stop with hold leaves the pattern. -/
theorem pattern_tmbStop_hold (h : Hub) {t : Nat} (cause : Nat) (ht : t < 8) :
    (h.tmbStop t cause false).rd TMB_PATTERN_pins t = h.rd TMB_PATTERN_pins t := by
  have hquiet : (h.tmbQuiet t false).rd TMB_PATTERN_pins t = h.rd TMB_PATTERN_pins t := (marchAbandon_moves h t ht).rd TMB_PATTERN_pins t 0 ht
  rw [tmbStop_eq]
  split
  · exact ((tmbEnded_shown _ cause _ _ ht).rd TMB_PATTERN_pins t 0 ht).trans hquiet
  · exact hquiet

/-- A VEC or an element in force goes on for a cycle. -/
theorem boundary_issues {h : Hub} {t : Nat} (ht : t < 8) (x : AtBoundary h t) (hl : (!h.hinge.upL && h.drivesField t) = false)
    (hs : (h.tmb t).stopReq = none) (hj : (h.tmb t).jumpReq = none) (hn : (h.tmb t).remain ≠ 0)
    (hfits : h.tsFits t (if (h.tmb t).march.isSome then h.tsNow t else h.rd TMB_STAT_ts_now t) = true) :
    (h.boundary t).1.tmb t = { h.tmb t with
      remain := (h.tmb t).remain - 1
      issued := some (h.rd TMB_PATTERN_pins t, (if (h.tmb t).march = none ∧ (h.tmb t).mkEach = true then (h.tmb t).vecMk else 0),
        if (h.tmb t).march.isSome then h.tsNow t else h.rd TMB_STAT_ts_now t)
      tsNext := none, zeros := 0 } ∧ (h.boundary t).2 = false ∧ (h.boundary t).1.tmbState t = 2 := by
  obtain ⟨hrun, hend⟩ := boundary_goes x hl hs hj hn
  have htmb : (h.cycleLess t).tmb t = { h.tmb t with remain := (h.tmb t).remain - 1 } := Hub.tmb_modTmb_self h t _ ht
  have hnow : (h.cycleLess t).tsNow t = h.tsNow t := tsNow_congr (by rw [htmb]) rfl rfl rfl
  rw [hnow] at hrun
  have hissued := issue_issued (h := h.cycleLess t) (addr := h.rd TMB_STAT_pc t) (pins := h.rd TMB_PATTERN_pins t)
    (marks := if (h.tmb t).march = none ∧ (h.tmb t).mkEach = true then (h.tmb t).vecMk else 0) false ht (by decide : 2 < 8) hfits
  rw [hrun]
  exact ⟨hissued.tmb.trans (by rw [htmb]), hend, hissued.state⟩

/-- Settles O17: each clause by what the issue point or the word does. -/
theorem tumblerVectors : Obligations.TumblerVectors := by
  refine ⟨?vec, ?goes, ?stop, ?lost, ?closed, ?vecAlone, ?vecZero, ?tset, ?tsetSample, ?march, ?marchDenied, ?sig, ?stall⟩
  case vec =>
    intro s t hc
    simp only [Can.issuePoint, Bool.and_eq_true, bne_iff_ne] at hc
    obtain ⟨⟨⟨hcome, hn⟩, hups⟩, hfits⟩ := hc
    have x : AtWord s.hub.begun t 1 := atWord_of_comesTo hcome
    obtain ⟨htmb, hstate, hpc⟩ := execVecWord_issued (h := s.hub.begun) (addr := (s.hub.begun.tmb t).next) (w := s.hub.begun.nextWord t)
      t.isLt hn hups hfits
    have hissued := congrArg Tmb.issued htmb
    have hnext := congrArg Tmb.next htmb
    refine completes_issuePoint_word x (by decide) (by rw [execWord_vec x.opcode]) ?_
    rw [execWord_vec x.opcode]
    dsimp only
    exact ⟨hissued.trans (by rw [vecTs_eq]; rfl), hnext, hpc, hstate⟩
  case goes =>
    intro s t hc
    rw [Can.issuePoint2, Bool.and_eq_true, Bool.and_eq_true, Bool.and_eq_true, Bool.and_eq_true, Bool.and_eq_true] at hc
    obtain ⟨⟨⟨⟨⟨hb, hl⟩, hs⟩, hj⟩, hn⟩, hfits⟩ := hc
    have x : AtBoundary s.hub.begun t := atBoundary_of hb
    obtain ⟨htmb, hend, hstate⟩ := boundary_issues t.isLt x (linked_of hl) (Option.isNone_iff_eq_none.mp hs) (Option.isNone_iff_eq_none.mp hj) (bne_iff_ne.mp hn) hfits
    have hnext := congrArg Tmb.next htmb
    have hremain := congrArg Tmb.remain htmb
    have hissued := congrArg Tmb.issued htmb
    exact completes_issuePoint_quiet (Prod.ext rfl hend) ⟨hremain, hnext, hstate, hissued⟩
  case stop =>
    intro s t hc
    rw [Can.issuePoint3, Bool.and_eq_true, Bool.and_eq_true] at hc
    obtain ⟨⟨hb, hl⟩, hreq⟩ := hc
    obtain ⟨r, hr⟩ := Option.isSome_iff_exists.mp hreq
    have x : AtBoundary s.hub.begun t := atBoundary_of hb
    have htmb := (tmb_tmbStop s.hub.begun 2 r t.isLt).trans (tmb_tmbQuiet _ r t.isLt)
    have hreleased := congrArg Tmb.released htmb
    have hissued := congrArg Tmb.issued htmb
    refine completes_issuePoint_quiet (boundary_stop x (linked_of hl) hr) ⟨?_, ?_, ?_, hissued⟩
    · rw [tmbState_tmbStop _ _ _ t.isLt t.isLt, if_pos ⟨rfl, by rw [x.runs]; rfl⟩]
    · exact stop_cause_tmbStop_self _ 2 _ t.isLt (by rw [x.runs]; rfl)
    · rw [hr]
      exact congrArg some hreleased
  case lost =>
    intro s t hc
    rw [Can.issuePoint4, Bool.and_eq_true, Bool.and_eq_true] at hc
    obtain ⟨⟨hb, hlost⟩, hdrives⟩ := hc
    have x : AtBoundary s.hub.begun t := atBoundary_of hb
    have htmb := (tmb_tmbStop s.hub.begun 7 false t.isLt).trans (tmb_tmbQuiet _ false t.isLt)
    have hreleased := congrArg Tmb.released htmb
    refine completes_issuePoint_quiet (boundary_lost x (Bool.and_eq_true_iff.mpr ⟨hlost, hdrives⟩)) ⟨?_, ?_, ?_, ?_⟩
    · rw [tmbState_tmbStop _ _ _ t.isLt t.isLt, if_pos ⟨rfl, by rw [x.runs]; rfl⟩]
    · exact stop_cause_tmbStop_self _ 7 _ t.isLt (by rw [x.runs]; rfl)
    · exact hreleased.trans (Bool.or_false _)
    · exact pattern_tmbStop_hold s.hub.begun 7 t.isLt
  case closed =>
    intro s t hc
    exact completes_issuePoint_quiet (boundary_closed (h := s.hub.begun) (Eq.mp (Bool.not_eq_true' _) hc)) ⟨rfl, rfl⟩
  case vecAlone =>
    intro s t hc
    simp only [Can.vecInstruction, Bool.and_eq_true, bne_iff_ne] at hc
    obtain ⟨⟨⟨hcome, hn⟩, hups⟩, hfits⟩ := hc
    have x : AtWord s.hub.begun t 1 := atWord_of_comesTo hcome
    obtain ⟨htmb, hstate, hpc⟩ := execVecWord_issued (h := s.hub.begun) (addr := (s.hub.begun.tmb t).next) (w := s.hub.begun.nextWord t)
      t.isLt hn hups hfits
    have hissued := congrArg Tmb.issued htmb
    have hremain := congrArg Tmb.remain htmb
    have heach := congrArg Tmb.mkEach htmb
    have hok := congrArg Tmb.heavyOk htmb
    have hnext := congrArg Tmb.next htmb
    refine completes_word (exec_vecInstruction t s) x (by decide) rfl ?_
    rw [execWord_vec x.opcode]
    dsimp only
    exact ⟨hissued.trans (by rw [vecTs_eq]; rfl), hremain, heach, hok, hnext, hpc⟩
  case vecZero =>
    intro s t hc
    simp only [Can.vecInstruction2, Bool.and_eq_true, beq_iff_eq] at hc
    obtain ⟨hcome, hn⟩ := hc
    have x : AtWord s.hub.begun t 1 := atWord_of_comesTo hcome
    exact completes_failed (exec_vecInstruction t s) x (by decide) rfl (by decide)
      ((execWord_vec x.opcode).trans (congrArg (·, false) (execVecWord_zero hn)))
  case tset =>
    intro s t hc
    simp only [Can.tset, Bool.and_eq_true, bne_iff_ne, decide_eq_true_eq] at hc
    obtain ⟨⟨hcome, hmode⟩, hz⟩ := hc
    have x : AtWord s.hub.begun t 9 := atWord_of_comesTo hcome
    refine completes_zero (exec_tset t s) x (by decide) rfl (execWord_tset (h := s.hub.begun) x.opcode hmode) hz fun h htmb _ => ?_
    rw [htmb]
    exact ⟨rfl, rfl⟩
  case tsetSample =>
    intro s t hc
    simp only [Can.tset2, Bool.and_eq_true, beq_iff_eq] at hc
    obtain ⟨hcome, hmode⟩ := hc
    have x : AtWord s.hub.begun t 9 := atWord_of_comesTo hcome
    exact completes_failed (exec_tset t s) x (by decide) rfl (by decide) (execWord_tset_sample (h := s.hub.begun) x.opcode hmode)
  case march =>
    intro s t hc
    simp only [Can.march, Bool.and_eq_true, beq_iff_eq, decide_eq_true_eq] at hc
    obtain ⟨⟨⟨⟨⟨hcome, hgen⟩, hdata⟩, hbank⟩, hown⟩, hfits⟩ := hc
    have x : AtWord s.hub.begun t 10 := atWord_of_comesTo hcome
    refine completes_word (exec_march t s) x (by decide) rfl ?_
    rw [execWord_march x.opcode]
    refine marchStart_issues (h := s.hub.begun) t.isLt (not_or.mpr ⟨Nat.not_le.mpr hgen, Nat.not_le.mpr hdata⟩) ?_ hfits
    rw [Bool.or_eq_false_iff]
    exact ⟨decide_eq_false (Nat.not_le.mpr hbank), bne_eq_false_iff_eq.mpr hown⟩
  case marchDenied =>
    intro s t hc
    simp only [Can.march2, Bool.and_eq_true, decide_eq_true_eq] at hc
    obtain ⟨⟨⟨hcome, hgen⟩, hdata⟩, hbank⟩ := hc
    have x : AtWord s.hub.begun t 10 := atWord_of_comesTo hcome
    exact completes_failed (exec_march t s) x (by decide) rfl (by decide) ((execWord_march x.opcode).trans
      (congrArg (·, false) (marchStart_denied (h := s.hub.begun) (not_or.mpr ⟨Nat.not_le.mpr hgen, Nat.not_le.mpr hdata⟩) hbank)))
  case sig =>
    intro s t hc
    simp only [Can.sig, Bool.and_eq_true, decide_eq_true_eq] at hc
    obtain ⟨hcome, hz⟩ := hc
    have x : AtWord s.hub.begun t 11 := atWord_of_comesTo hcome
    refine completes_word (exec_sig t s) x (by decide) rfl ?_
    rw [execWord_sig x.opcode]
    exact execSigWord_shows (h := s.hub.begun) t.isLt hz
  case stall =>
    intro s t hc
    simp only [Can.heavyVectorStall, Bool.and_eq_true, bne_iff_ne] at hc
    obtain ⟨⟨⟨⟨hcome, hn⟩, hups⟩, hheavy⟩, hfits⟩ := hc
    have x : AtWord s.hub.begun t 1 := atWord_of_comesTo hcome
    have hwait := Bool.and_eq_true_iff.mpr ⟨hups, hheavy⟩
    obtain ⟨htmb, hstate, hsch, hpins, hcount⟩ := execVecWord_stalls (h := s.hub.begun) (addr := (s.hub.begun.tmb t).next)
      (w := s.hub.begun.nextWord t) t.isLt hn hwait hfits
    have hasked := congrArg Tmb.heavyAsked htmb
    have hnext := congrArg Tmb.next htmb
    refine completes_word (exec_heavyVectorStall t s) x (by decide) hwait ?_
    rw [execWord_vec x.opcode]
    dsimp only
    refine ⟨hcount, hstate, hasked, fun hnew => ?_, hnext, hpins⟩
    rw [hsch]
    exact queued_heavyAsks s.hub.begun _ hnew

end Sys2Proof.Machine

/-!
PROOF. What a fault's reaction on the logic die leaves of the field die: it sends orders over the link, and abandons a proof.
-/

namespace Sys2Proof.Machine

set_option Elab.async false

/-- What of the link neither a frame that is sent nor an order of the logic die changes. -/
def Hinge.rest (x : Hinge) : Hinge := { x with
  txL := [], txF := [], cmd := Vector.replicate 16 0, gen := Vector.replicate 2 0, genDue := Vector.replicate 2 none, daWant := .bolt, toneAt := 0
  relDue := false, relRepeat := false }

/-- An output channel but for a command change that waits on the logic die. -/
def OutCh.rest (o : OutCh) : OutCh := { o with wait := none }

/-- The field die is the same in two hubs, but for what has been ordered of it and a proof that has been abandoned. -/
structure FieldStands (h k : Hub) : Prop where
  hinge : k.hinge.rest = h.hinge.rest
  out : ∀ c, (k.out c).rest = (h.out c).rest
  dbt : { k.dbt with proof := none } = { h.dbt with proof := none }
  proof : k.dbt.proof = h.dbt.proof ∨ k.dbt.proof = none

namespace FieldStands

variable {F : Foot} {h₀ h k a b : Hub}

theorem refl (h : Hub) : FieldStands h h := ⟨rfl, fun _ => rfl, rfl, .inl rfl⟩

theorem trans (x : FieldStands h₀ h) (y : FieldStands h k) : FieldStands h₀ k where
  hinge := y.hinge.trans x.hinge
  out c := (y.out c).trans (x.out c)
  dbt := y.dbt.trans x.dbt
  proof := by
    rcases y.proof with hy | hy
    · rw [hy]
      exact x.proof
    · exact .inr hy

theorem ite {q : Prop} [Decidable q] (x : FieldStands h₀ a) (y : FieldStands h₀ b) : FieldStands h₀ (if q then a else b) := by
  split
  · exact x
  · exact y

/-- The rest of the field die stands where the link's, the channels' and Deadbolt's parts are the same but for what is ordered. -/
theorem of_hinge (hh : k.hinge.rest = h.hinge.rest) (ho : k.outs = h.outs) (hd : k.dbt = h.dbt) : FieldStands h k :=
  ⟨hh, fun c => by rw [Hub.out, ho]; rfl, by rw [hd], .inl (by rw [hd])⟩

theorem of_moves (x : Moves F h k) (hh : F.parts.contains .hinge = false := by decide) (ho : F.parts.contains .outs = false := by decide)
    (hd : F.parts.contains .dbt = false := by decide) : FieldStands h k :=
  of_hinge (by rw [x.keeps .hinge hh]) (x.keeps .outs ho) (x.keeps .dbt hd)

theorem forAll {f : Hub → Nat → Hub} {l : List Nat} (hf : ∀ h t, t ∈ l → FieldStands h (f h t)) (h : Hub) : FieldStands h (forAll l f h) := by
  induction l generalizing h with
  | nil => exact refl h
  | cons t rest ih => exact (hf h t List.mem_cons_self).trans (ih (fun k u hu => hf k u (List.mem_cons_of_mem t hu)) (f h t))

end FieldStands

theorem FieldStands.to {F : Foot} {h₀ h k : Hub} (x : FieldStands h₀ h) (y : Moves F h k) (hh : F.parts.contains .hinge = false := by decide)
    (ho : F.parts.contains .outs = false := by decide) (hd : F.parts.contains .dbt = false := by decide) : FieldStands h₀ k :=
  x.trans (.of_moves y hh ho hd)

/-! ### The orders -/

theorem sendL_fieldStands (h : Hub) (f : HFrame) : FieldStands h (h.sendL f) := .ite (.of_hinge rfl rfl rfl) (.refl h)

theorem newGen_fieldStands (h : Hub) (g : Nat) (urgent : Bool) : FieldStands h (h.newGen g urgent) :=
  .ite (.refl h) (.ite (.of_hinge rfl rfl rfl)
    (FieldStands.trans (h := { h with hinge := { h.hinge with gen := vset h.hinge.gen g ((vget h.hinge.gen g 0 + 1) % 256) } })
      (.of_hinge rfl rfl rfl) (sendL_fieldStands _ _)))

theorem command_fieldStands (h : Hub) (chs : List Nat) (code : Nat) (urgent : Bool) : FieldStands h (h.command chs code urgent) := by
  have hcmd : FieldStands h { h with hinge := { h.hinge with cmd := chs.foldl (fun v c => vset v c code) h.hinge.cmd } } := .of_hinge rfl rfl rfl
  have hlow := FieldStands.ite (q := (chs.any fun c => decide (c < 8)) = true) (hcmd.trans (newGen_fieldStands _ 0 urgent)) hcmd
  exact .ite (hlow.trans (newGen_fieldStands _ 1 urgent)) hlow

theorem modOut_wait_fieldStands (h : Hub) (c : Nat) : FieldStands h (h.modOut c (fun o => { o with wait := none })) := by
  refine ⟨rfl, fun d => ?_, rfl, .inl rfl⟩
  by_cases hcd : d = c
  · subst hcd
    by_cases hd : d < 16
    · rw [Hub.out_modOut_self h d _ hd]
      rfl
    · simp [Hub.out, Hub.modOut, vget, vset, hd]
  · rw [Hub.out_modOut_ne hcd]

theorem dropHeavy_fieldStands (h : Hub) (c : Nat) : FieldStands h (h.dropHeavy c) := .of_moves (dropHeavy_moves h c)

theorem setSafeHold_fieldStands (h : Hub) (c : Nat) : FieldStands h (h.setSafeHold c) := by
  have hdrop : FieldStands h (((h.dropCand (movesCh (h.lead c))).dropHeavy (h.lead c)).modOut c (fun o => { o with wait := none })) :=
    (((FieldStands.refl h).to (dropCand_moves _ _)).to (dropHeavy_moves _ _)).trans (modOut_wait_fieldStands _ c)
  unfold Hub.setSafeHold
  dsimp only
  split
  · exact hdrop.trans (.of_hinge rfl rfl rfl)
  · refine FieldStands.to ?_ (intOwner_moves _ _ _)
    exact hdrop.trans (.of_hinge rfl rfl rfl)

theorem sendSafe_fieldStands (h : Hub) (chs : List Nat) : FieldStands h (h.sendSafe chs) := by
  have hheld : FieldStands h (forAll (chs.filter h.isOut) Hub.setSafeHold h) := FieldStands.forAll (fun k c _ => setSafeHold_fieldStands k c) h
  exact .ite hheld (hheld.trans (command_fieldStands _ _ _ _))

theorem tmbQuiet_fieldStands (h : Hub) {t : Nat} (release : Bool) (ht : t < 8) : FieldStands h (h.tmbQuiet t release) := by
  have hmarch : FieldStands h (h.marchAbandon t) := .of_moves (marchAbandon_moves h t ht)
  have hsent (x : HFrame) : FieldStands h (((h.marchAbandon t).wr TMB_PATTERN_pins 0 t).sendL x) :=
    (hmarch.trans (k := (h.marchAbandon t).wr TMB_PATTERN_pins 0 t) (.of_hinge rfl rfl rfl)).trans (sendL_fieldStands _ x)
  unfold Hub.tmbQuiet
  exact (FieldStands.ite (hsent _) hmarch).to (modTmb_moves _ t _)

theorem tmbStop_fieldStands (h : Hub) {t : Nat} (cause : Nat) (release : Bool) (ht : t < 8) : FieldStands h (h.tmbStop t cause release) := by
  rw [tmbStop_eq]
  exact .ite ((tmbQuiet_fieldStands h release ht).to (tmbEnded_shown _ cause _ _ ht)) (tmbQuiet_fieldStands h release ht)

theorem fieldStands_closed : ReactClosed FieldStands where
  refl := .refl
  trans := .trans
  quiet x := .of_moves x
  dev _ _ := .of_hinge rfl rfl rfl
  flt _ _ := .of_hinge rfl rfl rfl
  bolt _ := .of_hinge rfl rfl rfl
  tone h := .ite (.refl h) (.of_hinge rfl rfl rfl)
  proof _ := ⟨rfl, fun _ => rfl, rfl, .inr rfl⟩
  safe h chs _ := sendSafe_fieldStands h chs
  stop h _ cause release ht := tmbStop_fieldStands h cause release ht

/-! ### The field die's frames -/

theorem sendF_fieldStands (h : Hub) (f : HFrame) : FieldStands h (h.sendF f) := .ite (.of_hinge rfl rfl rfl) (.refl h)

theorem flt_fieldStands (h : Hub) (f : Flt) : FieldStands h { h with flt := f } := .of_hinge rfl rfl rfl

theorem fieldRise_fieldStands (h : Hub) (p chs detail : Nat) : FieldStands h (h.fieldRise p chs detail) :=
  .ite (.refl h) ((flt_fieldStands h _).trans (sendF_fieldStands _ _))

theorem fieldFall_fieldStands (h : Hub) (p chs : Nat) : FieldStands h (h.fieldFall p chs) :=
  .ite (.refl h) ((flt_fieldStands h _).trans (sendF_fieldStands _ _))

theorem fieldEvent_fieldStands (h : Hub) (p chs detail : Nat) : FieldStands h (h.fieldEvent p chs detail) :=
  .ite (.refl h) ((flt_fieldStands h _).trans (sendF_fieldStands _ _))

/-! ### What follows from it -/

theorem FieldStands.fHidden {h k : Hub} (x : FieldStands h k) {p c : Nat} (hh : h.fHidden p c = false) : k.fHidden p c = false := by
  rcases x.proof with hp | hp
  · rw [Hub.fHidden, hp]
    exact hh
  · rw [Hub.fHidden, hp]

theorem FieldStands.fieldBlocked {h k : Hub} (x : FieldStands h k) : k.fieldBlocked = h.fieldBlocked := by
  have hlatch := congrArg Hinge.latch x.hinge
  have hforced := congrArg Dbt.dbForced x.dbt
  have hclock := congrArg Dbt.clockLost x.dbt
  rw [Hub.fieldBlocked, show k.hinge.latch = h.hinge.latch from hlatch, show k.dbt.dbForced = h.dbt.dbForced from hforced,
    show k.dbt.clockLost = h.dbt.clockLost from hclock, Hub.fieldBlocked]

end Sys2Proof.Machine

/-!
PROOF. The steps of an input channel: the register fields that they write, what they leave of the field die, and what an entry leaves of
the channel.
-/

namespace Sys2Proof.Machine

set_option Elab.async false

/-! ### The fields -/

/-- The fields in which an input shows its state. -/
def inShown : List Fld := [IN_STAT_state, IN_STAT_raw, IN_STAT_valid, IN_STAT_forced, IN_STAT_cand, IN_STAT_window, IN_STAT_wb_live,
  IN_STAT_tp_live, IN_STAT_uncertain, IN_FLT_wire_break, IN_FLT_tp_fail, IN_FLT_tp_late, IN_FLT_overflow, IN_FLT_xshort, IN_FLT_discard,
  IN_EDGES_count, IN_FIFO_overflow]

/-- What an input's step can reach. -/
def inFoot : Foot := faultFoot.join ⟨[.ins], inShown, []⟩

theorem inSet_shown (h : Hub) (c b : Nat) (present : Bool) : Moves inFoot h (h.inSet c b present) := (Moves.refl _ h).to (inSet_moves _ _ _ _)

section
variable {c : Nat} (hc : c < 16)
include hc

theorem syncIn_shown (h : Hub) : Moves ⟨[], inShown, []⟩ h (h.syncIn c) :=
  .ite (Moves.refl _ h) ((((((((((((((((((Moves.refl _ h).put _ _ _ _ hc).put _ _ _ _ hc).put _ _ _ _ hc).put _ _ _ _ hc).put _ _ _ _ hc).put
    _ _ _ _ hc).put _ _ _ _ hc).put _ _ _ _ hc).put _ _ _ _ hc).put _ _ _ _ hc).put _ _ _ _ hc).put _ _ _ _ hc).put _ _ _ _ hc).put
    _ _ _ _ hc).put _ _ _ _ hc).wr _ _ _ _ hc))

theorem lostEntries_shown (h : Hub) (n : Nat) : Moves ⟨[.ins], inShown, []⟩ h (h.lostEntries c n) :=
  .ite (Moves.refl _ h) (((Moves.refl _ h).count _ _ _ _ hc).to (modIn_moves _ _ _))

theorem overflowed_shown (h : Hub) : Moves inFoot h (h.overflowed c) :=
  .bind (((Moves.refl _ h).to (modIn_moves _ _ _)).put _ _ _ _ hc) fun y => .ite y (y.to (occur_moves _ _ _ _ _ _))

theorem fifoStore_shown (h : Hub) (e : InEntry) : Moves inFoot h (h.fifoStore c e) :=
  .ite (((Moves.refl _ h).to (modIn_moves _ _ _)).to (intOwner_moves _ _ _)) (((Moves.refl _ h).to (lostEntries_shown hc _ _)).to (overflowed_shown hc _))

theorem entry_shown (h : Hub) (e : InEntry) : Moves inFoot h (h.entry c e) :=
  .ite ((((Moves.refl _ h).to (modIn_moves _ _ _)).to (lostEntries_shown hc _ _)).to (fifoStore_shown hc _ _))
    (.ite ((Moves.refl _ h).to (modIn_moves _ _ _)) (.bind ((Moves.refl _ h).to (modIn_moves _ _ _)) fun y =>
      .ite (y.to (fieldEvent_moves _ _ _ _)) y))

theorem forcing_shown {f : Hub → Hub} (hf : ∀ k, Moves inFoot k (f k)) (h : Hub) : Moves inFoot h (h.forcing c f) :=
  (Moves.ite ((hf h).trans (entry_shown hc _ _)) (hf h)).to (syncIn_shown hc _)

theorem openOwn_shown (h : Hub) : Moves inFoot h (h.openOwn c) :=
  .ite (Moves.refl _ h) (((Moves.refl _ h).to (modIn_moves _ _ _)).to (syncIn_shown hc _))

theorem openForeign_shown (h : Hub) : Moves inFoot h (h.openForeign c) :=
  .ite (Moves.refl _ h) (.bind ((Moves.refl _ h).to (modIn_moves _ _ _)) fun y => .ite y
    (y.trans (forcing_shown hc (fun k => inSet_shown k c 4 true) _)))

end

/-! ### The field die -/

theorem modIn_fieldStands (h : Hub) (c : Nat) (f : InCh → InCh) : FieldStands h (h.modIn c f) := .of_hinge rfl rfl rfl

theorem syncIn_fieldStands (h : Hub) (c : Nat) : FieldStands h (h.syncIn c) := .of_moves (syncIn_moves h c)

theorem lostEntries_fieldStands (h : Hub) (c n : Nat) : FieldStands h (h.lostEntries c n) := .of_moves (lostEntries_moves h c n)

theorem overflowed_fieldStands (h : Hub) (c : Nat) : FieldStands h (h.overflowed c) := by
  have hset : FieldStands h ((h.modIn c (fun i => { i with flt := setBit i.flt 3 })).put IN_FLT_overflow true c) := .of_hinge rfl rfl rfl
  exact .ite hset (hset.trans (fieldStands_closed.occur _ _ _ _ _ _))

theorem fifoStore_fieldStands (h : Hub) (c : Nat) (e : InEntry) : FieldStands h (h.fifoStore c e) :=
  .ite ((modIn_fieldStands h c _).to (intOwner_moves _ _ _)) ((lostEntries_fieldStands h c 1).trans (overflowed_fieldStands _ c))

theorem entry_fieldStands (h : Hub) (c : Nat) (e : InEntry) : FieldStands h (h.entry c e) :=
  .ite (((modIn_fieldStands h c _).trans (lostEntries_fieldStands _ c _)).trans (fifoStore_fieldStands _ c _))
    (.ite (modIn_fieldStands h c _) (.ite ((modIn_fieldStands h c _).trans (fieldEvent_fieldStands _ _ _ _)) (modIn_fieldStands h c _)))

theorem forcing_fieldStands {f : Hub → Hub} (hf : ∀ k, FieldStands k (f k)) (h : Hub) (c : Nat) : FieldStands h (h.forcing c f) :=
  (FieldStands.ite ((hf h).trans (entry_fieldStands _ _ _)) (hf h)).trans (syncIn_fieldStands _ c)

theorem inSet_fieldStands (h : Hub) (c b : Nat) (present : Bool) : FieldStands h (h.inSet c b present) :=
  .ite (.refl h) (.ite ((modIn_fieldStands h c _).trans (fieldRise_fieldStands _ _ _ _)) (modIn_fieldStands h c _))

theorem inEnd_fieldStands (h : Hub) (c b : Nat) : FieldStands h (h.inEnd c b) :=
  (modIn_fieldStands h c _).trans (fieldFall_fieldStands _ _ _)

theorem openOwn_fieldStands (h : Hub) (c : Nat) : FieldStands h (h.openOwn c) :=
  .ite (.refl h) ((modIn_fieldStands h c _).trans (syncIn_fieldStands _ c))

theorem openForeign_fieldStands (h : Hub) (c : Nat) : FieldStands h (h.openForeign c) :=
  .ite (.refl h) (.ite (modIn_fieldStands h c _) ((modIn_fieldStands h c _).trans (forcing_fieldStands (fun k => inSet_fieldStands k c 4 true) _ c)))

end Sys2Proof.Machine

/-!
PROOF. The switch of an output channel on the field die: what it leaves of the link, of Deadbolt and of every other channel.
-/

namespace Sys2Proof.Machine

set_option Elab.async false

/-! ### What a switch leaves -/

/-- The field die is the same in two hubs but for channel `c`. -/
structure OutStands (c : Nat) (h k : Hub) : Prop where
  hinge : k.hinge.rest = h.hinge.rest
  dbt : k.dbt = h.dbt
  out : ∀ d, d ≠ c → k.out d = h.out d

namespace OutStands

variable {F : Foot} {h₀ h k a b : Hub} {c : Nat}

theorem refl (h : Hub) : OutStands c h h := ⟨rfl, rfl, fun _ _ => rfl⟩

theorem trans (x : OutStands c h₀ h) (y : OutStands c h k) : OutStands c h₀ k :=
  ⟨y.hinge.trans x.hinge, y.dbt.trans x.dbt, fun d hd => (y.out d hd).trans (x.out d hd)⟩

theorem ite {q : Prop} [Decidable q] (x : OutStands c h₀ a) (y : OutStands c h₀ b) : OutStands c h₀ (if q then a else b) := by
  split
  · exact x
  · exact y

theorem of_hinge (hh : k.hinge.rest = h.hinge.rest) (ho : k.outs = h.outs) (hd : k.dbt = h.dbt) : OutStands c h k :=
  ⟨hh, hd, fun d _ => by rw [Hub.out, ho]; rfl⟩

theorem of_moves (x : Moves F h k) (hh : F.parts.contains .hinge = false := by decide) (ho : F.parts.contains .outs = false := by decide)
    (hd : F.parts.contains .dbt = false := by decide) : OutStands c h k :=
  of_hinge (by rw [x.keeps .hinge hh]) (x.keeps .outs ho) (x.keeps .dbt hd)

end OutStands

theorem modOut_outStands (h : Hub) (c : Nat) (f : OutCh → OutCh) : OutStands c h (h.modOut c f) :=
  ⟨rfl, rfl, fun _ hd => Hub.out_modOut_ne hd⟩

theorem sendF_outStands (h : Hub) {c : Nat} (f : HFrame) : OutStands c h (h.sendF f) := .ite (.of_hinge rfl rfl rfl) (.refl h)

theorem flt_outStands (h : Hub) {c : Nat} (f : Flt) : OutStands c h { h with flt := f } := .of_hinge rfl rfl rfl

theorem fieldRise_outStands (h : Hub) {c : Nat} (p chs detail : Nat) : OutStands c h (h.fieldRise p chs detail) :=
  .ite (.refl h) ((flt_outStands h _).trans (sendF_outStands _ _))

theorem fieldFall_outStands (h : Hub) {c : Nat} (p chs : Nat) : OutStands c h (h.fieldFall p chs) :=
  .ite (.refl h) ((flt_outStands h _).trans (sendF_outStands _ _))

theorem outFall_outStands (h : Hub) (c b : Nat) : OutStands c h (h.outFall c b) := fieldFall_outStands h b (2 ^ c)

theorem outRise_outStands (h : Hub) (c b detail : Nat) : OutStands c h (h.outRise c b detail) :=
  .ite (.refl h) (((modOut_outStands h c _).trans (fieldRise_outStands _ _ _ _)).trans (.of_moves (syncOutFlt_movesAny _ c)))

theorem switchFlags_outStands (h : Hub) (c : Nat) (was : OutCh) : OutStands c h (h.switchFlags c was) := by
  have hfall : OutStands c h (if was.limiting && !(h.out c).limiting then h.outFall c 3 else h) := .ite (outFall_outStands h c 3) (.refl h)
  exact .ite ((hfall.trans (modOut_outStands _ c _)).trans (outRise_outStands _ c 11 0)) hfall

theorem setSwitch_outStands (h : Hub) (c : Nat) (on counts : Bool) : OutStands c h (h.setSwitch c on counts) := by
  have hcount {q : Prop} [Decidable q] : OutStands c h (if q then h.countTurnOn c else h) := .ite (.of_moves (countTurnOn_moves h c)) (.refl h)
  have hdrop {q r : Prop} [Decidable q] [Decidable r] :
      OutStands c h (if r then (if q then h.countTurnOn c else h).dropVf c else if q then h.countTurnOn c else h) :=
    .ite (hcount.trans (.of_moves (dropVf_moves _ c))) hcount
  exact (hdrop.trans (modOut_outStands _ c _)).trans (switchFlags_outStands _ c _)

theorem commandOff_outStands (h : Hub) (c : Nat) : OutStands c h (h.commandOff c) :=
  ((modOut_outStands h c _).trans (outFall_outStands _ c 4)).trans (outFall_outStands _ c 11)

theorem drive_outStands (h : Hub) (c : Nat) (want : Bool) : OutStands c h (h.drive c want) :=
  .ite (.refl h) (setSwitch_outStands h c want true)

/-! ### The commanded state -/

theorem latched_modOut {g : OutCh → OutCh} (hg : ∀ o, (g o).latched = o.latched) (h : Hub) (c d : Nat) :
    ((h.modOut c g).out d).latched = (h.out d).latched := by
  by_cases hd : d = c
  · subst hd
    by_cases hb : d < 16
    · rw [Hub.out_modOut_self h _ _ hb, hg]
    · simp [Hub.out, Hub.modOut, vget, vset, hb]
  · rw [Hub.out_modOut_ne hd]

theorem latched_switchFlags (h : Hub) (c : Nat) (was : OutCh) (d : Nat) : ((h.switchFlags c was).out d).latched = (h.out d).latched := by
  have hfall (k : Hub) (e b : Nat) : (k.outFall e b).out d = k.out d := by
    rw [Hub.out, Hub.outFall, (fieldFall_moves _ _ _).keeps .outs]
    rfl
  have hrise (k : Hub) (b detail : Nat) : ((k.outRise c b detail).out d).latched = (k.out d).latched := by
    rw [Hub.outRise]
    split
    · rfl
    · rw [Hub.out, outs_syncOutFlt, outs_fieldRise]
      exact latched_modOut (g := fun o => { o with flt := setBit o.flt b }) (fun _ => rfl) k c d
  have hended : ((if was.limiting && !(h.out c).limiting then h.outFall c 3 else h).out d).latched = (h.out d).latched := by
    split
    · rw [hfall]
    · rfl
  rw [Hub.switchFlags]
  split
  · rw [hrise]
    exact (latched_modOut (g := fun o => { o with uvOff := true }) (fun _ => rfl) _ c d).trans hended
  · exact hended

theorem latched_stopRun (o : OutCh) (now : Nat) : (o.stopRun now).latched = o.latched := by
  unfold OutCh.stopRun
  split <;> rfl

theorem latched_turn (o : OutCh) (now : Nat) (sw lim : Bool) : (o.turn now sw lim).latched = o.latched := by
  unfold OutCh.turn
  dsimp only
  split
  · rfl
  · exact latched_stopRun o now

theorem latched_latch (o : OutCh) (now : Nat) (on : Bool) : (o.latch now on).latched = on := by
  unfold OutCh.latch
  split
  case isTrue hsame => exact beq_iff_eq.mp hsame
  case isFalse => rfl

theorem latched_setSwitch (h : Hub) {c : Nat} (on counts : Bool) (hc : c < 16) : ((h.setSwitch c on counts).out c).latched = on := by
  unfold Hub.setSwitch
  dsimp only
  rw [latched_switchFlags, Hub.out_modOut_self _ _ _ hc, latched_turn, latched_latch]

theorem latched_drive (h : Hub) {c : Nat} (want : Bool) (hc : c < 16) : ((h.drive c want).out c).latched = want := by
  unfold Hub.drive
  split
  case isTrue hsame => exact beq_iff_eq.mp hsame
  case isFalse => exact latched_setSwitch h want true hc

end Sys2Proof.Machine

/-!
PROOF. A ward's write to TMB_CTRL (R292, R293): the start, stop and jump requests.
-/

namespace Sys2Proof.Machine

set_option Elab.async false

/-! ### The word -/

theorem bitOf_lt_three {v n : Nat} (i : Nat) (hv : v % 8 = n) (hi : i < 3) : bitOf v i = bitOf n i := by
  rw [bitOf, bitOf, ← hv]
  exact (Nat.testBit_mod_two_pow v 3 i ▸ by simp [hi])

/-- The hub once the address and the release bit of a write stand. -/
def Hub.ctrlSet (h : Hub) (t v : Nat) : Hub := (h.wr TMB_CTRL_addr (bitsOf v 16 10) t).put TMB_CTRL_release (bitOf v 3) t

section
variable {h : Hub} {t v : Nat}

theorem writeTmbCtrl_start (hv : v % 8 = 1) : h.writeTmbCtrl t v =
    ((h.ctrlSet t v).tmbStartReq t (bitsOf v 16 10)).1.put TMB_CTRL_start ((h.ctrlSet t v).tmbStartReq t (bitsOf v 16 10)).2 t := by
  have h0 : bitOf v 0 = true := bitOf_lt_three 0 hv (by decide)
  have h1 : bitOf v 1 = false := bitOf_lt_three 1 hv (by decide)
  have h2 : bitOf v 2 = false := bitOf_lt_three 2 hv (by decide)
  unfold Hub.writeTmbCtrl
  rw [h0, h1, h2]
  rfl

theorem writeTmbCtrl_stop (hv : v % 8 = 2) : h.writeTmbCtrl t v = (((h.ctrlSet t v).put TMB_CTRL_stop true t).tmbStopReq t (bitOf v 3)).1 := by
  have h0 : bitOf v 0 = false := bitOf_lt_three 0 hv (by decide)
  have h1 : bitOf v 1 = true := bitOf_lt_three 1 hv (by decide)
  have h2 : bitOf v 2 = false := bitOf_lt_three 2 hv (by decide)
  unfold Hub.writeTmbCtrl
  rw [h0, h1, h2]
  rfl

theorem writeTmbCtrl_jump (hv : v % 8 = 4) : h.writeTmbCtrl t v = (((h.ctrlSet t v).put TMB_CTRL_jump true t).tmbJumpReq t (bitsOf v 16 10)).1 := by
  have h0 : bitOf v 0 = false := bitOf_lt_three 0 hv (by decide)
  have h1 : bitOf v 1 = false := bitOf_lt_three 1 hv (by decide)
  have h2 : bitOf v 2 = true := bitOf_lt_three 2 hv (by decide)
  unfold Hub.writeTmbCtrl
  rw [h0, h1, h2]
  rfl

end

theorem ctrlSet_moves (h : Hub) {t : Nat} (v : Nat) (ht : t < 8) : Moves ⟨[], [TMB_CTRL_addr, TMB_CTRL_release], []⟩ h (h.ctrlSet t v) :=
  ((Moves.refl _ h).wr _ _ _ _ ht).put _ _ _ _ ht

theorem tmbState_of_moves {F : Foot} {h k : Hub} (x : Moves F h k) {t : Nat} (ht : t < 8) (hF : F.avoids TMB_STAT_state = true := by decide +kernel) :
    k.tmbState t = h.tmbState t := x.rd TMB_STAT_state t 0 ht hF

theorem tmbOwner_of_moves {F : Foot} {h k : Hub} (x : Moves F h k) (t : Nat) (hd : F.avoids WRD_CFG_defined = true := by decide +kernel)
    (hw : F.avoids WRD_TMB_tmb = true := by decide +kernel) : k.tmbOwner t = h.tmbOwner t := by
  refine List.find?_congr fun w hin => ?_
  have hlt : w < 8 := List.mem_range.mp hin
  rw [Hub.defined, x.flag WRD_CFG_defined w 0 hlt hd, x.rd WRD_TMB_tmb w 0 hlt hw, Hub.defined]

/-! ### Domains that are woken -/

theorem wakeReq_submit (h : Hub) (c : Cand) : (h.submit c).sup = h.sup := (submit_moves h c).keeps .sup

theorem wantDomain_wakes {h : Hub} {d : Nat} (hoff : bitOf h.sup.on d = false) : bitOf (h.wantDomain d).sup.wakeReq d = true := by
  unfold Hub.wantDomain
  rw [hoff, if_neg Bool.false_ne_true, wakeReq_submit]
  exact bitOf_setBit_self _ _

theorem wantDomain_sup (h : Hub) (d : Nat) : (h.wantDomain d).sup.on = h.sup.on ∧
    ∀ e, bitOf h.sup.wakeReq e = true → bitOf (h.wantDomain d).sup.wakeReq e = true := by
  unfold Hub.wantDomain
  split
  · exact ⟨rfl, fun _ he => he⟩
  · rw [wakeReq_submit]
    refine ⟨rfl, fun e he => ?_⟩
    show bitOf (setBit h.sup.wakeReq d) e = true
    rw [bitOf_setBit, he]
    rfl

/-! ### A start -/

section
variable {h : Hub} {t : Nat}

/-- What a tumbler at rest that is started leaves. -/
structure Pending (h k : Hub) (t entry : Nat) : Prop where
  state : k.tmbState t = 1
  entry : (k.tmb t).entry = entry % 1024
  queued : k.sch.queue.any (fun x => x.kind == .tmbStart && x.ref == t) = true
  uncaused : caused k 30 t = false
  wakes3 : bitOf h.sup.on 3 = false → bitOf k.sup.wakeReq 3 = true
  wakes5 : bitOf h.sup.on 5 = false → bitOf k.sup.wakeReq 5 = true

theorem tmbStartReq_pending (entry : Nat) (slot : Option Nat) (ht : t < 8) (hstate : h.tmbState t ≠ 1) (hruns : h.tmbRuns t = false)
    (hown : (h.tmbOwner t).isSome = true) : Pending h (h.tmbStartReq t entry slot).1 t entry ∧ (h.tmbStartReq t entry slot).2 = true := by
  have htaken : (h.tmbStartReq t entry slot).2 = true := by
    have hbusy : (h.tmbRuns t || h.tmbState t == 1 || (h.tmbOwner t).isNone) = false := by
      obtain ⟨w, hw⟩ := Option.isSome_iff_exists.mp hown
      simp [hruns, hstate, hw]
    unfold Hub.tmbStartReq
    rw [hbusy]
    rfl
  obtain ⟨c, hkind, href, heq⟩ := tmbStartReq_of_rest entry slot hstate hruns hown
  have hwoken : Moves ⟨[.sup, .sch], [SCH_STAT_queued], []⟩ (h.tmbPending t entry slot)
      ((((h.tmbPending t entry slot).wantDomain 3).wantDomain 5).submit c) :=
    (((Moves.refl _ _).to (wantDomain_moves _ 3)).to (wantDomain_moves _ 5)).to (submit_moves _ c)
  obtain ⟨hon3, -⟩ := wantDomain_sup (h.tmbPending t entry slot) 3
  obtain ⟨-, hkeep⟩ := wantDomain_sup ((h.tmbPending t entry slot).wantDomain 3) 5
  refine ⟨?_, htaken⟩
  rw [heq]
  refine ⟨?_, ?_, ?_, ?_, fun hoff => ?_, fun hoff => ?_⟩
  · exact (tmbState_of_moves hwoken ht).trans (tmbState_tmbPending h t entry slot)
  · rw [tmb_of_moves hwoken t, tmb_tmbPending h entry slot ht]
  · rw [← hkind, ← href]
    exact submit_queued _ c
  · rw [(hwoken.sameSignals).caused]
    exact (caused_lower (by decide) t t).trans (by simp)
  · rw [wakeReq_submit]
    exact hkeep 3 (wantDomain_wakes hoff)
  · rw [wakeReq_submit]
    exact wantDomain_wakes (by rw [hon3]; exact hoff)

end

/-! ### A stop of a pending tumbler -/

/-- A stop drops the start that waits. -/
theorem tmbStop_unqueued (h : Hub) {t : Nat} (cause : Nat) (release : Bool) (ht : t < 8) (hgo : (h.tmbRuns t || h.tmbState t == 1) = true) :
    (h.tmbStop t cause release).sch.queue.any (fun x => x.kind == .tmbStart && x.ref == t) = false ∧
      (h.tmbStop t cause release).flag TMB_CTRL_stop t = false := by
  have hshown : Moves ⟨[.eng, .ints, .pins], intFlds, []⟩ ((h.tmbQuiet t release).tmbEnded t cause)
      ((((h.tmbQuiet t release).tmbEnded t cause).tmbRetire t (((h.tmbQuiet t release).tmbEnded t cause).rd TMB_STAT_pc t)).intOwner
        (((h.tmbQuiet t release).tmbEnded t cause).tmbOwner t) 16) :=
    ((Moves.refl _ _).to (tmbRetire_moves _ _ _)).to (intOwner_moves _ _ _)
  rw [tmbStop_eq, if_pos hgo, hshown.keeps .sch, hshown.flag TMB_CTRL_stop t 0 ht]
  refine ⟨?_, ?_⟩
  · rw [List.any_eq_false]
    intro c hc
    have hkept := (List.mem_filter.mp hc).2
    cases hk : c.kind <;> simp_all
  · rw [Hub.tmbEnded, Hub.flag_put_apart _ _ _ _ _ _ (by decide), Hub.flag_put_self _ _ _ _ _ rfl]

/-! ### The requests -/

theorem tmbStartReq_busy {h : Hub} {t : Nat} (entry : Nat) (hbusy : (h.tmbRuns t || h.tmbState t == 1) = true) :
    h.tmbStartReq t entry = (h, false) := by
  unfold Hub.tmbStartReq
  exact if_pos (by rw [hbusy]; rfl)

theorem tmbStopReq_pending {h : Hub} {t : Nat} (rel : Bool) (hs : h.tmbState t = 1) : h.tmbStopReq t rel = (h.tmbStop t 2 rel, true) := by
  unfold Hub.tmbStopReq
  exact if_pos (beq_iff_eq.mpr hs)

theorem not_pending_of_runs {h : Hub} {t : Nat} (hr : h.tmbRuns t = true) : ¬ (h.tmbState t == 1) = true := by
  intro hs
  rw [beq_iff_eq] at hs
  rw [Hub.tmbRuns, hs] at hr
  exact absurd hr (by decide)

theorem tmbStopReq_running {h : Hub} {t : Nat} (rel : Bool) (hr : h.tmbRuns t = true) :
    h.tmbStopReq t rel = (h.modTmb t (fun x => { x with stopReq := some rel }), true) := by
  unfold Hub.tmbStopReq
  rw [if_neg (not_pending_of_runs hr), if_pos hr]

theorem tmbStopReq_rest {h : Hub} {t : Nat} (rel : Bool) (hr : h.tmbRuns t = false) (hs : h.tmbState t ≠ 1) :
    h.tmbStopReq t rel = (h.put TMB_CTRL_stop false t, false) := by
  unfold Hub.tmbStopReq
  rw [if_neg (by simpa using hs), hr, if_neg Bool.false_ne_true]

theorem tmbJumpReq_running {h : Hub} {t : Nat} (a : Nat) (hr : h.tmbRuns t = true) :
    h.tmbJumpReq t a = (h.modTmb t (fun x => { x with jumpReq := some (a % 1024) }), true) := by
  unfold Hub.tmbJumpReq
  rw [if_pos hr]

theorem tmbJumpReq_pending {h : Hub} {t : Nat} (a : Nat) (hr : h.tmbRuns t = false) (hs : h.tmbState t = 1) :
    h.tmbJumpReq t a = ((h.modTmb t (fun x => { x with entry := a % 1024 })).put TMB_CTRL_jump false t, true) := by
  unfold Hub.tmbJumpReq
  rw [hr, if_neg Bool.false_ne_true, if_pos (beq_iff_eq.mpr hs)]

theorem tmbJumpReq_rest {h : Hub} {t : Nat} (a : Nat) (hr : h.tmbRuns t = false) (hs : h.tmbState t ≠ 1) :
    (h.tmbJumpReq t a).1 = (h.tmbStartReq t a).1.put TMB_CTRL_jump false t := by
  unfold Hub.tmbJumpReq
  rw [hr, if_neg Bool.false_ne_true, if_neg (by simpa using hs)]

end Sys2Proof.Machine

/-!
PROOF. A cycle that starts (R291, R298), a deadline that is missed (R301), and the count of an occurrence.
-/

namespace Sys2Proof.Machine

set_option Elab.async false

/-! ### A marker's rise -/

theorem lsySend_counted (h : Hub) (f : LFrame) : Moves ⟨[.lsy], [LSY_COUNTS_drops], []⟩ h (h.lsySend f) := by
  unfold Hub.lsySend
  dsimp only
  split
  · exact (Moves.refl _ h).lsy _
  · have hcount : Moves ⟨[.lsy], [LSY_COUNTS_drops], []⟩ h (h.count LSY_COUNTS_drops) := (Moves.refl _ h).count _ _ _ _
    split
    · exact .ite (hcount.lsy _) hcount
    · exact hcount

theorem markSend_counted (h : Hub) (t k start : Nat) : Moves ⟨[.lsy], [LSY_COUNTS_drops], []⟩ h (h.markSend t k start) :=
  .ite (.ite (Moves.refl _ h) (lsySend_counted h _)) (Moves.refl _ h)

/-- The latches of every tumbler as a marker rises. -/
def Hub.markSeen (h : Hub) (i : Nat) : Hub :=
  forAll (List.range 8) (fun h u => h.wr TMB_MKSEEN_seen (setBit (h.rd TMB_MKSEEN_seen u) i) u) h

/-- The Trace record of a marker that is routed to it. -/
def Hub.markNoted (h : Hub) (t k addr : Nat) : Hub :=
  if bitOf (h.rd TMB_MK_ROUTE_rec t) k then h.note 0x2A 0x46 sevTrace 4 [t + k * 2 ^ 4 + addr * 2 ^ 16] else h

/-- The MARK frame of a marker that is routed to Luanen sync. -/
def Hub.markSent (h : Hub) (t k start : Nat) : Hub := if bitOf (h.rd TMB_MK_ROUTE_lsy t) k then h.markSend t k start else h

/-- The deadline that a supervised marker restarts. -/
def Hub.markDue (h : Hub) (t k : Nat) : Hub :=
  if h.flag TMB_DL_en t && h.rd TMB_DL_mk t == k then h.modTmb t (fun x => { x with dlFrom := some h.clk.now }) else h

/-- What a marker's rise does besides. -/
def Hub.markTold (h : Hub) (t k addr start : Nat) : Hub := ((h.markNoted t k addr).markSent t k start).markDue t k

theorem markerRise_eq (h : Hub) (t k addr start : Nat) : h.markerRise t k addr start = (h.markSeen (4 * t + k)).markTold t k addr start := rfl

theorem markNoted_moves (h : Hub) (t k addr : Nat) : Moves ⟨[.ret, .recd, .bst], noteFlds, []⟩ h (h.markNoted t k addr) :=
  .ite (note_moves _ _ _ _ _ _ _) (Moves.refl _ h)

theorem markSent_moves (h : Hub) (t k start : Nat) : Moves ⟨[.lsy], [LSY_COUNTS_drops], []⟩ h (h.markSent t k start) :=
  .ite (markSend_counted _ _ _ _) (Moves.refl _ h)

theorem markDue_moves (h : Hub) (t k : Nat) : Moves ⟨[.tmbs], [], []⟩ h (h.markDue t k) := .ite (modTmb_moves _ _ _) (Moves.refl _ h)

theorem markTold_moves (h : Hub) (t k addr start : Nat) : Moves ⟨[.ret, .recd, .bst, .lsy, .tmbs], LSY_COUNTS_drops :: noteFlds, []⟩ h
    (h.markTold t k addr start) :=
  (((Moves.refl _ h).to (markNoted_moves h t k addr)).to (markSent_moves _ t k start)).to (markDue_moves _ t k)

theorem tmb_markDue (h : Hub) {t : Nat} (k : Nat) (ht : t < 8) : ∃ x, (h.markDue t k).tmb t = { h.tmb t with dlFrom := x } := by
  unfold Hub.markDue
  split
  · exact ⟨_, Hub.tmb_modTmb_self h t _ ht⟩
  · exact ⟨_, rfl⟩

theorem tmb_markTold (h : Hub) {t : Nat} (k addr start : Nat) (ht : t < 8) : ∃ x, (h.markTold t k addr start).tmb t = { h.tmb t with dlFrom := x } := by
  obtain ⟨x, hx⟩ := tmb_markDue ((h.markNoted t k addr).markSent t k start) k ht
  exact ⟨x, hx.trans (by rw [tmb_of_moves (markSent_moves _ t k start) t, tmb_of_moves (markNoted_moves h t k addr) t])⟩

theorem bitOf_seen {v i : Nat} (hi : i < 32) : bitOf (v % 2 ^ TMB_MKSEEN_seen.width) i = bitOf v i := by
  rw [bitOf, show TMB_MKSEEN_seen.width = 32 from rfl, Nat.testBit_mod_two_pow, decide_eq_true hi, Bool.true_and]
  rfl

/-- A marker that rises sets its latch in every tumbler, and leaves the latches that are set. -/
theorem markSeen_step (h : Hub) {i j u v : Nat} (hj : j < 32) :
    bitOf ((h.wr TMB_MKSEEN_seen (setBit (h.rd TMB_MKSEEN_seen u) i) u).rd TMB_MKSEEN_seen v) j =
      (bitOf (h.rd TMB_MKSEEN_seen v) j || decide (j = i ∧ u = v)) := by
  by_cases huv : v = u
  · subst huv
    rw [Hub.rd_wr_self, bitOf_seen hj, bitOf_setBit]
    simp
  · rw [Hub.rd_wr_ne (fldKey_ne_of_index (by decide) huv 0 0), decide_eq_false (fun hh => huv hh.2.symm), Bool.or_false]

theorem markSeen_sets (h : Hub) {i : Nat} (hi : i < 32) (u : Fin 8) : bitOf ((h.markSeen i).rd TMB_MKSEEN_seen u) i = true :=
  forAll_all (f := fun h u => h.wr TMB_MKSEEN_seen (setBit (h.rd TMB_MKSEEN_seen u) i) u) (P := fun h u => bitOf (h.rd TMB_MKSEEN_seen u) i = true)
    (fun k t _ => by rw [markSeen_step k hi]; simp) (fun k t v _ _ hv => by rw [markSeen_step k hi, hv]; rfl)
    (List.mem_range.mpr u.isLt) h

theorem markSeen_keeps {h : Hub} {i j : Nat} (hj : j < 32) {u : Nat} (hu : bitOf (h.rd TMB_MKSEEN_seen u) j = true) :
    bitOf ((h.markSeen i).rd TMB_MKSEEN_seen u) j = true := by
  unfold Hub.markSeen
  generalize List.range 8 = l
  induction l generalizing h with
  | nil => exact hu
  | cons t rest ih => exact ih (by rw [markSeen_step h hj, hu]; rfl)

/-- Every marker of a cycle's vector sets its latches. -/
theorem markers_seen (h : Hub) {t marks start : Nat} (addr : Hub → Nat) (ht : t < 8) {k : Nat} (hk : k < 4) (hset : bitOf marks k = true) (u : Fin 8) :
    bitOf ((forAll (bitList 4 marks) (fun h k => h.markerRise t k (addr h) start) h).rd TMB_MKSEEN_seen u) (4 * t + k) = true := by
  have htold (g : Hub) (d a : Nat) (v : Fin 8) : (g.markTold t d a start).rd TMB_MKSEEN_seen v = g.rd TMB_MKSEEN_seen v :=
    (markTold_moves g t d a start).rd TMB_MKSEEN_seen v 0 v.isLt
  refine forAll_all (f := fun h k => h.markerRise t k (addr h) start)
    (P := fun h k => k < 4 → ∀ u : Fin 8, bitOf (h.rd TMB_MKSEEN_seen u) (4 * t + k) = true) (fun g d hd hlt v => ?_)
    (fun g d e hd he hkept hlt v => ?_) (u := k) ?_ h hk u
  · rw [markerRise_eq, htold]
    exact markSeen_sets g (by omega) v
  · rw [markerRise_eq, htold]
    have hdlt : d < 4 := List.mem_range.mp (List.mem_of_mem_filter hd)
    exact markSeen_keeps (by omega) (hkept hlt v)
  · exact List.mem_filter.mpr ⟨List.mem_range.mpr hk, hset⟩

theorem markSeen_moves (h : Hub) (i : Nat) : Moves ⟨[], [TMB_MKSEEN_seen], []⟩ h (h.markSeen i) :=
  (Moves.refl _ h).forAll fun _ _ hu => (Moves.refl _ _).wr _ _ _ _ (List.mem_range.mp hu)

/-- The markers of a cycle leave its tumbler but for the deadline. -/
theorem markers_keep (h : Hub) {t : Nat} (start : Nat) (addr : Hub → Nat) (l : List Nat) (ht : t < 8) :
    Moves ⟨[.ret, .recd, .bst, .lsy, .tmbs], TMB_MKSEEN_seen :: LSY_COUNTS_drops :: noteFlds, []⟩ h
      (forAll l (fun h k => h.markerRise t k (addr h) start) h) ∧
    ((forAll l (fun h k => h.markerRise t k (addr h) start) h).tmb t).issued = (h.tmb t).issued ∧
    ((forAll l (fun h k => h.markerRise t k (addr h) start) h).tmb t).cycleAt = (h.tmb t).cycleAt := by
  have htmb (g : Hub) (k : Nat) : ∃ x, (g.markerRise t k (addr g) start).tmb t = { g.tmb t with dlFrom := x } := by
    obtain ⟨x, hx⟩ := tmb_markTold (g.markSeen (4 * t + k)) k (addr g) start ht
    exact ⟨x, hx.trans (by rw [tmb_of_moves (markSeen_moves g _) t])⟩
  refine ⟨(Moves.refl _ h).forAll fun g k _ => ((Moves.refl _ g).to (markSeen_moves g _)).to (markTold_moves _ _ _ _ _), ?_, ?_⟩
  · refine forAll_kept_of (g := fun k : Hub => (k.tmb t).issued) (fun g k _ => ?_) h
    obtain ⟨x, hx⟩ := htmb g k
    rw [hx]
  · refine forAll_kept_of (g := fun k : Hub => (k.tmb t).cycleAt) (fun g k _ => ?_) h
    obtain ⟨x, hx⟩ := htmb g k
    rw [hx]

/-! ### The cycle -/

/-- A tumbler as its issued cycle starts. -/
def Hub.cycleTmb (h : Hub) (t ts : Nat) (x : Tmb) : Tmb :=
  { x with
    issued := none, cycleAt := ((h.tmb t).cycleAt + h.tsPeriod ts) % 2 ^ 67
    dlFrom := if h.rd TMB_CYCLES_count t == 0 then some h.clk.now else x.dlFrom }

/-- The hub as an issued cycle is shown. -/
def Hub.cycleShown (h : Hub) (t pins marks ts : Nat) : Hub :=
  (((((h.modTmb t (h.cycleTmb t ts)).wr TMB_PATTERN_pins pins t).wr TMB_PATTERN_mk marks t).wr TMB_STAT_ts_now ts t).countMod TMB_CYCLES_count 1 t)

/-- The hub as an issued cycle comes into force, before its markers rise. -/
def Hub.cycleSet (h : Hub) (t pins marks ts : Nat) : Hub :=
  (h.cycleShown t pins marks ts).auxCycle t pins marks ts (h.tmb t).cycleAt (h.tsPeriod ts)

theorem cycleStart_eq {h : Hub} {t pins marks ts : Nat} (hi : (h.tmb t).issued = some (pins, marks, ts)) : h.cycleStart t =
    forAll (bitList 4 marks) (fun k m => k.markerRise t m (k.rd TMB_STAT_pc t) ((h.tmb t).cycleAt / 8)) (h.cycleSet t pins marks ts) := by
  unfold Hub.cycleStart
  dsimp only
  rw [hi]
  rfl

theorem cycleSet_spec (h : Hub) {t : Nat} (pins marks ts : Nat) (ht : t < 8) :
    ((h.cycleSet t pins marks ts).tmb t).issued = none ∧
    ((h.cycleSet t pins marks ts).tmb t).cycleAt = ((h.tmb t).cycleAt + h.tsPeriod ts) % 2 ^ 67 ∧
    (h.cycleSet t pins marks ts).rd TMB_PATTERN_pins t = pins % 2 ^ 20 ∧ (h.cycleSet t pins marks ts).rd TMB_PATTERN_mk t = marks % 16 ∧
    (h.cycleSet t pins marks ts).rd TMB_STAT_ts_now t = ts % 8 ∧
    (h.cycleSet t pins marks ts).rd TMB_CYCLES_count t = (h.rd TMB_CYCLES_count t + 1) % 2 ^ 32 := by
  have hself := Hub.tmb_modTmb_self h t (h.cycleTmb t ts) ht
  have haux : Moves ⟨[.aux], [], []⟩ (h.cycleShown t pins marks ts) (h.cycleSet t pins marks ts) := auxCycle_moves _ _ _ _ _ _ _
  have htmb : (h.cycleSet t pins marks ts).tmb t = h.cycleTmb t ts (h.tmb t) := (tmb_of_moves haux t).trans hself
  have hissued := congrArg Tmb.issued htmb
  have hat := congrArg Tmb.cycleAt htmb
  refine ⟨hissued, hat, (haux.rd TMB_PATTERN_pins t 0 ht).trans ?_, (haux.rd TMB_PATTERN_mk t 0 ht).trans ?_,
    (haux.rd TMB_STAT_ts_now t 0 ht).trans ?_, (haux.rd TMB_CYCLES_count t 0 ht).trans ?_⟩
  · rw [Hub.cycleShown, Hub.countMod, Hub.rd_wr_apart _ _ _ _ _ _ (by decide), Hub.rd_wr_apart _ _ _ _ _ _ (by decide), Hub.rd_wr_apart _ _ _ _ _ _ (by decide),
      Hub.rd_wr_self]
    rfl
  · rw [Hub.cycleShown, Hub.countMod, Hub.rd_wr_apart _ _ _ _ _ _ (by decide), Hub.rd_wr_apart _ _ _ _ _ _ (by decide), Hub.rd_wr_self]
    rfl
  · rw [Hub.cycleShown, Hub.countMod, Hub.rd_wr_apart _ _ _ _ _ _ (by decide), Hub.rd_wr_self]
    rfl
  · rw [Hub.cycleShown, Hub.countMod, Hub.rd_wr_self, Hub.rd_wr_apart _ _ _ _ _ _ (by decide), Hub.rd_wr_apart _ _ _ _ _ _ (by decide),
      Hub.rd_wr_apart _ _ _ _ _ _ (by decide)]
    rfl

/-! ### Occurrences counted -/

/-- The fault collector is the same in two hubs but for the mark of a fresh capture. -/
def SameFlt (h k : Hub) : Prop := { k.flt with fresh := false } = { h.flt with fresh := false }

section
variable {h₀ h k a b : Hub} {F : Foot}

theorem SameFlt.refl (h : Hub) : SameFlt h h := rfl

theorem SameFlt.trans (x : SameFlt h₀ h) (y : SameFlt h k) : SameFlt h₀ k := Eq.trans y x

theorem SameFlt.ite {q : Prop} [Decidable q] (x : SameFlt h₀ a) (y : SameFlt h₀ b) : SameFlt h₀ (if q then a else b) := by
  split
  · exact x
  · exact y

theorem SameFlt.of_moves (x : Moves F h k) (hF : F.parts.contains .flt = false := by decide) : SameFlt h k := x.keeps .flt hF

theorem SameFlt.counts (x : SameFlt h k) : k.flt.counts = h.flt.counts := by
  have hcounts := congrArg Flt.counts x
  exact hcounts

theorem SameFlt.fltMask (x : SameFlt h k) (n : Nat) : k.fltMask n = h.fltMask n := by
  have hmask := congrArg Flt.mask x
  rw [Hub.fltMask, show k.flt.mask = h.flt.mask from hmask, Hub.fltMask]

end

theorem captureFirst_sameFlt (h : Hub) (n detail : Nat) (forced : Bool) : SameFlt h (h.captureFirst n detail forced) :=
  .ite rfl (.ite (.ite rfl rfl) rfl)

/-- What follows an occurrence once its status is set: the capture of the first, its record and its reaction. -/
def Hub.occurTold (h : Hub) (n old wards detail : Nat) (forced rec late : Bool) : Hub :=
  let h := if old == 0 then h.captureFirst n detail forced else h
  let h := if rec then
      h.intake { typ := 0x01, source := n, sev := classSev (h.fltClass n), len := 8
                 ward := if w0Sources.contains n then 0xFF else (bitList 8 wards).headD 0
                 flags := (if forced then 2 else 0) + (if late then 8 else 0)
                 payload := [(old ||| wards) + (if h.fltLive n then 256 else 0), detail] }
    else h
  if h.judgesLater then h
  else
    let h := h.wardReaction n (clrMask wards old)
    if old == 0 && h.fltClass n == 5 then h.enterSafe n else h

/-- The hub once an occurrence is counted. -/
def Hub.occurCounted (h : Hub) (n : Nat) : Hub := { h with flt := { h.flt with counts := vset h.flt.counts n (satInc 65535 (vget h.flt.counts n 0)) } }

/-- The hub once an occurrence is counted and its status is set. -/
def Hub.occurMasked (h : Hub) (n wards detail : Nat) : Hub :=
  let h := ((h.occurCounted n).detailWord detail).2
  { h with flt := { h.flt with mask := vset h.flt.mask n (h.fltMask n ||| wards) } }

theorem occurNow_outside {h : Hub} (n wards detail : Nat) (forced rec late : Bool) (hp : h.dev.phase ≠ .recovery) :
    h.occurNow n wards detail forced rec late = if !(h.occurCounted n).fltEnabled n then h.occurCounted n else
      (h.occurMasked n (h.occurWards n wards) detail).occurTold n (((h.occurCounted n).detailWord detail).2.fltMask n) (h.occurWards n wards)
        ((h.occurCounted n).detailWord detail).1 forced rec late := by
  have hphase : (h.dev.phase == .recovery && !recoverySources.contains n) = false := by simp [hp]
  unfold Hub.occurNow
  rw [hphase, if_neg Bool.false_ne_true]
  rfl

theorem occurTold_sameFlt (h : Hub) (n old wards detail : Nat) (forced rec late : Bool) :
    SameFlt h (h.occurTold n old wards detail forced rec late) := by
  have hfirst {q : Prop} [Decidable q] : SameFlt h (if q then h.captureFirst n detail forced else h) := .ite (captureFirst_sameFlt _ _ _ _) (.refl h)
  have hrec {k : Hub} {q : Prop} [Decidable q] (x : SameFlt h k) (e : RecEvent) : SameFlt h (if q then k.intake e else k) :=
    .ite (x.trans (.of_moves (intake_moves _ _))) x
  have hreact {k : Hub} (x : SameFlt h k) (w : Nat) (q : Bool) : SameFlt h (if k.judgesLater then k else if
      q && (k.wardReaction n w).fltClass n == 5 then (k.wardReaction n w).enterSafe n else k.wardReaction n w) :=
    .ite x (.ite ((x.trans (.of_moves (wardReaction_moves _ _ _))).trans (.of_moves (enterSafe_moves _ _)))
      (x.trans (.of_moves (wardReaction_moves _ _ _))))
  exact hreact (hrec hfirst _) _ _

/-- An event that no proof hides occurs, outside a test of LG5. -/
theorem event_occurs {h : Hub} (n wards detail : Nat) (hh : h.proofHides n 16 = false) (hg : h.testGroup ≠ 5) :
    h.event n wards detail = h.occurNow n wards detail := by
  have hgroup : (h.testGroup == 5 && h.fltClass n != 5) = false := by simp [hg]
  unfold Hub.event Hub.occur
  rw [hh, if_neg Bool.false_ne_true, hgroup, if_neg Bool.false_ne_true]

/-- An event that no proof hides counts once, outside *Recovery* and a test of LG5. -/
theorem counts_event {h : Hub} (n wards detail : Nat) (hh : h.proofHides n 16 = false) (hg : h.testGroup ≠ 5) (hp : h.dev.phase ≠ .recovery) :
    (h.event n wards detail).flt.counts = vset h.flt.counts n (satInc 65535 (vget h.flt.counts n 0)) := by
  have hmasked : (h.occurMasked n (h.occurWards n wards) detail).flt.counts = (h.occurCounted n).flt.counts :=
    (SameFlt.of_moves (detailWord_moves (h.occurCounted n) detail)).counts
  rw [event_occurs _ _ _ hh hg, occurNow_outside _ _ _ _ _ _ hp]
  split
  · rfl
  · exact (occurTold_sameFlt _ _ _ _ _ _ _ _).counts.trans hmasked

/-- An event of an enabled source that no proof hides sets its status, outside *Recovery* and a test of LG5. -/
theorem fltSet_event {h : Hub} {n : Nat} (wards detail : Nat) (hn : n < 62) (hen : h.fltEnabled n = true) (hh : h.proofHides n 16 = false)
    (hg : h.testGroup ≠ 5) (hp : h.dev.phase ≠ .recovery) : (h.event n wards detail).fltSet n = true := by
  have hwards : h.occurWards n wards ≠ 0 := by
    unfold Hub.occurWards
    split
    case isTrue => exact Nat.one_ne_zero
    case isFalse hno =>
      simp only [Bool.or_eq_true, beq_iff_eq, not_or] at hno
      exact hno.1.2
  have hon : (!(h.occurCounted n).fltEnabled n) = false := by
    rw [show (h.occurCounted n).fltEnabled n = true from hen]
    rfl
  rw [event_occurs _ _ _ hh hg, occurNow_outside _ _ _ _ _ _ hp, hon, if_neg Bool.false_ne_true, Hub.fltSet, bne_iff_ne,
    (occurTold_sameFlt _ _ _ _ _ _ _ _).fltMask, Hub.fltMask, Hub.occurMasked, vget_vset_self _ _ _ _ hn]
  exact fun hz => hwards (Nat.or_eq_zero_iff.mp hz).2

/-- What stands while an event's reaction stops tumblers: the deadline of each is kept or ended. -/
def DeadlineStands (t : Nat) (h k : Hub) : Prop := (h.tmb t).dlFrom = none → (k.tmb t).dlFrom = none

namespace DeadlineStands

variable {t : Nat} {h k a b h₀ : Hub}

theorem refl (t : Nat) (h : Hub) : DeadlineStands t h h := id

theorem trans (x : DeadlineStands t h₀ h) (y : DeadlineStands t h k) : DeadlineStands t h₀ k := fun hn => y (x hn)

theorem ite {q : Prop} [Decidable q] (x : DeadlineStands t h₀ a) (y : DeadlineStands t h₀ b) : DeadlineStands t h₀ (if q then a else b) := by
  split
  · exact x
  · exact y

theorem of_tmb (hk : k.tmb t = h.tmb t) : DeadlineStands t h k := fun hn => by rw [hk]; exact hn

theorem modTmb (f : Tmb → Tmb) (hf : ∀ x : Tmb, x.dlFrom = none → (f x).dlFrom = none) (h : Hub) (u : Nat) : DeadlineStands t h (h.modTmb u f) := by
  intro hn
  by_cases htu : t = u
  · subst htu
    by_cases ht : t < 8
    · rw [Hub.tmb_modTmb_self h t f ht]
      exact hf _ hn
    · rw [Hub.tmb, Hub.modTmb, vset, vget]
      simp [ht]
  · rw [Hub.tmb_modTmb_ne htu]
    exact hn

theorem forAll {f : Hub → Nat → Hub} (hf : ∀ h u, DeadlineStands t h (f h u)) (l : List Nat) (h : Hub) : DeadlineStands t h (forAll l f h) := by
  induction l generalizing h with
  | nil => exact refl t h
  | cons u rest ih => exact (hf h u).trans (ih (f h u))

end DeadlineStands

theorem deadline_of_moves {F : Foot} {h k : Hub} (t : Nat) (x : Moves F h k) (hF : F.parts.contains .tmbs = false := by decide) :
    DeadlineStands t h k := .of_tmb (tmb_of_moves x t hF)

theorem deadline_dropHeavy (t : Nat) (h : Hub) (c : Nat) : DeadlineStands t h (h.dropHeavy c) := by
  unfold Hub.dropHeavy
  dsimp only
  refine DeadlineStands.trans ?_ (.forAll (fun k u => .modTmb (fun x => { x with heavyAsked := false }) (fun _ hn => hn) k u) _ _)
  exact .ite (.refl t h) (deadline_of_moves t (dropCand_moves _ _))

theorem deadline_setSafeHold (t : Nat) (h : Hub) (c : Nat) : DeadlineStands t h (h.setSafeHold c) := by
  have hdrop : DeadlineStands t h ((h.dropCand (movesCh (h.lead c))).dropHeavy (h.lead c)) :=
    (deadline_of_moves t (dropCand_moves h _)).trans (deadline_dropHeavy t _ _)
  unfold Hub.setSafeHold
  dsimp only
  split
  · exact hdrop
  · intro hn
    rw [tmb_of_moves (intOwner_moves _ _ _) t]
    exact hdrop hn

theorem deadline_sendSafe (t : Nat) (h : Hub) (chs : List Nat) : DeadlineStands t h (h.sendSafe chs) := by
  have hheld : DeadlineStands t h (forAll (chs.filter h.isOut) Hub.setSafeHold h) := .forAll (deadline_setSafeHold t) _ h
  exact .ite hheld (hheld.trans (deadline_of_moves t (command_moves _ _ _ _)))

theorem deadline_tmbQuiet (t : Nat) (h : Hub) {u : Nat} (release : Bool) (hu : u < 8) : DeadlineStands t h (h.tmbQuiet u release) := by
  intro hn
  by_cases htu : t = u
  · subst htu
    rw [tmb_tmbQuiet h release hu]
  · have hmarch : (h.marchAbandon u).tmb t = h.tmb t := tmb_of_moves (marchAbandon_moves h u hu) t
    have hsent (x : HFrame) : (((h.marchAbandon u).wr TMB_PATTERN_pins 0 u).sendL x).tmb t = h.tmb t :=
      (tmb_of_moves (sendL_moves _ x) t).trans hmarch
    unfold Hub.tmbQuiet
    dsimp only
    rw [Hub.tmb_modTmb_ne htu]
    split
    · rw [hsent]
      exact hn
    · rw [hmarch]
      exact hn

theorem deadline_closed (t : Nat) : ReactClosed (DeadlineStands t) where
  refl := .refl t
  trans := .trans
  quiet x := deadline_of_moves t x
  dev _ _ := id
  flt _ _ := id
  bolt _ := id
  tone h := deadline_of_moves t (wantTone_moves h .bolt)
  proof _ := id
  safe h chs _ := deadline_sendSafe t h chs
  stop h _ cause release hu := by
    rw [tmbStop_eq]
    exact .ite ((deadline_tmbQuiet t h release hu).trans (deadline_of_moves t (tmbEnded_shown _ cause _ _ hu))) (deadline_tmbQuiet t h release hu)

end Sys2Proof.Machine

/-!
PROOF. A VEC frame on the field die (R296, R297): the vector in force, and the channels that it drives.
-/

namespace Sys2Proof.Machine

set_option Elab.async false

/-! ### A run over the channels -/

/-- What a run over distinct indices leaves at one of them: its own step turns `Q` into `D`, and no other step takes either away. -/
theorem forAll_at {f : Hub → Nat → Hub} {Q D : Hub → Prop} {l : List Nat} {c : Nat} (hc : c ∈ l) (hl : l.Nodup)
    (hQ : ∀ h d, d ≠ c → Q h → Q (f h d)) (hself : ∀ h, Q h → D (f h c)) (hD : ∀ h d, d ≠ c → D h → D (f h d)) {h : Hub} (hh : Q h) :
    D (forAll l f h) := by
  have hafter : ∀ (m : List Nat), c ∉ m → ∀ k, D k → D (forAll m f k) := by
    intro m
    induction m with
    | nil => exact fun _ _ hk => hk
    | cons d rest ih =>
      intro hm k hk
      rw [List.mem_cons, not_or] at hm
      exact ih hm.2 _ (hD k d (fun hd => hm.1 hd.symm) hk)
  induction l generalizing h with
  | nil => exact absurd hc List.not_mem_nil
  | cons d rest ih =>
    obtain ⟨hnot, hrest⟩ := List.nodup_cons.mp hl
    by_cases hcd : d = c
    · subst hcd
      exact hafter rest hnot _ (hself h hh)
    · exact ih ((List.mem_cons.mp hc).resolve_left fun he => hcd he.symm) hrest (hQ h d hcd hh)

/-! ### The channels of a vector -/

/-- A channel's request for a test pulse that has ended with the vector (R232). -/
def Hub.pulseEnded (t : Nat) (v : FVec) (h : Hub) (c : Nat) : Hub :=
  if h.frd OUT_TP_tmb (h.fLead c) == t && !bitOf v.pins (h.fLead c) then h.modOut c (fun o => { o with pulsed := false }) else h

/-- A channel driven by the vector in force, at its lead `l`. -/
def Hub.vecDrive (t off l : Nat) (h : Hub) (c : Nat) : Hub :=
  if !h.fIsOut c || h.frd OUT_CFG_src l != t + 1 || !(h.out c).gate || (h.out c).atSafe then h
  else
    let want := h.fieldLevel t l off (h.out c).latched
    if h.fieldBlocked && want != h.fSafeOn c then h
    else
      let h := if !want && (h.out c).latched then h.commandOff c else h
      h.drive c want

/-- What a vector does to one channel. -/
def Hub.vecOn (t off : Nat) (v : FVec) (h : Hub) (c : Nat) : Hub := (Hub.pulseEnded t v h c).vecDrive t off (h.fLead c) c

theorem applyVec_eq (h : Hub) (t off : Nat) : h.applyVec t off = forAll (List.range 16) (Hub.vecOn t off (vget h.hinge.vecs t {})) h := rfl

theorem pulseEnded_outStands (h : Hub) (t : Nat) (v : FVec) (c : Nat) : OutStands c h (Hub.pulseEnded t v h c) :=
  .ite (modOut_outStands h c _) (.refl h)

theorem vecDrive_outStands (h : Hub) (t off l c : Nat) : OutStands c h (h.vecDrive t off l c) :=
  .ite (.refl h) (.ite (.refl h) ((OutStands.ite (commandOff_outStands h c) (.refl h)).trans (drive_outStands _ c _)))

theorem vecOn_outStands (h : Hub) (t off : Nat) (v : FVec) (c : Nat) : OutStands c h (Hub.vecOn t off v h c) :=
  (pulseEnded_outStands h t v c).trans (vecDrive_outStands _ t off _ c)

/-! ### What the field die reads -/

section
variable {h k : Hub} (hr : k.hinge.rest = h.hinge.rest)
include hr

theorem frd_of_rest (f : Fld) (i : Nat) : k.frd f i = h.frd f i := by
  have hcfg := congrArg Hinge.cfg hr
  rw [Hub.frd, show k.hinge.cfg = h.hinge.cfg from hcfg, Hub.frd]

theorem fMode_of_rest (c : Nat) : k.fMode c = h.fMode c := frd_of_rest hr _ _

theorem fIsOut_of_rest (c : Nat) : k.fIsOut c = h.fIsOut c := by simp only [Hub.fIsOut, fMode_of_rest hr]

theorem vecs_of_rest : k.hinge.vecs = h.hinge.vecs := by
  have hvecs := congrArg Hinge.vecs hr
  exact hvecs

theorem upL_of_rest : k.hinge.upL = h.hinge.upL := by
  have hup := congrArg Hinge.upL hr
  exact hup

theorem fieldLevel_of_rest (t c off : Nat) (was : Bool) : k.fieldLevel t c off was = h.fieldLevel t c off was := by
  simp only [Hub.fieldLevel, vecs_of_rest hr, frd_of_rest hr]

end

/-! ### A channel that takes its level from the tumbler's vectors -/

/-- A channel that takes its level from the tumbler's vectors. -/
structure Driven (h : Hub) (t c : Nat) : Prop where
  isOut : h.fIsOut c = true
  unpaired : h.fMode c ≠ 7
  src : h.frd OUT_CFG_src c = t + 1
  gate : (h.out c).gate = true
  notSafe : (h.out c).atSafe = false
  unblocked : h.fieldBlocked = false

theorem Driven.of_rest {h k : Hub} {t c : Nat} (x : Driven h t c) (hr : k.hinge.rest = h.hinge.rest) (hb : k.fieldBlocked = h.fieldBlocked)
    (hg : (k.out c).gate = (h.out c).gate) (hs : (k.out c).atSafe = (h.out c).atSafe) : Driven k t c :=
  ⟨(fIsOut_of_rest hr c).trans x.isOut, by rw [fMode_of_rest hr]; exact x.unpaired, (frd_of_rest hr _ _).trans x.src, hg.trans x.gate,
    hs.trans x.notSafe, hb.trans x.unblocked⟩

theorem fieldBlocked_of {h k : Hub} (hr : k.hinge.rest = h.hinge.rest) (hd : k.dbt = h.dbt) : k.fieldBlocked = h.fieldBlocked := by
  have hlatch := congrArg Hinge.latch hr
  rw [Hub.fieldBlocked, show k.hinge.latch = h.hinge.latch from hlatch, hd, Hub.fieldBlocked]

theorem vecDrive_latched {h : Hub} {t c : Nat} (off : Nat) (hc : c < 16) (x : Driven h t c) :
    ((h.vecDrive t off c c).out c).latched = h.fieldLevel t c off (h.out c).latched := by
  unfold Hub.vecDrive
  rw [x.isOut, x.src, x.gate, x.notSafe, x.unblocked, if_neg (by simp)]
  exact latched_drive _ _ hc

theorem vecOn_latched {h : Hub} {t c : Nat} (off : Nat) (v : FVec) (hc : c < 16) (x : Driven h t c) :
    ((Hub.vecOn t off v h c).out c).latched = h.fieldLevel t c off (h.out c).latched := by
  have hlead : h.fLead c = c := by rw [Hub.fLead, if_neg (by simpa using x.unpaired)]
  obtain ⟨hg, hs, hl⟩ : ((Hub.pulseEnded t v h c).out c).gate = (h.out c).gate ∧ ((Hub.pulseEnded t v h c).out c).atSafe = (h.out c).atSafe ∧
      ((Hub.pulseEnded t v h c).out c).latched = (h.out c).latched := by
    unfold Hub.pulseEnded
    split
    · rw [Hub.out_modOut_self h c _ hc]
      exact ⟨rfl, rfl, rfl⟩
    · exact ⟨rfl, rfl, rfl⟩
  have hstands := pulseEnded_outStands h t v c
  rw [Hub.vecOn, hlead, vecDrive_latched off hc (x.of_rest hstands.hinge (fieldBlocked_of hstands.hinge hstands.dbt) hg hs), hl,
    fieldLevel_of_rest hstands.hinge]

/-- The vector in force drives a channel that takes its level from it. -/
theorem applyVec_latched {h : Hub} {t : Nat} (off : Nat) {c : Nat} (hc : c < 16) (x : Driven h t c) :
    ((h.applyVec t off).out c).latched = h.fieldLevel t c off (h.out c).latched := by
  rw [applyVec_eq]
  generalize vget h.hinge.vecs t {} = v
  refine forAll_at (Q := fun k => k.hinge.rest = h.hinge.rest ∧ k.dbt = h.dbt ∧ k.out c = h.out c)
    (D := fun k => (k.out c).latched = h.fieldLevel t c off (h.out c).latched) (List.mem_range.mpr hc) List.nodup_range
    (fun k d hd hk => ?_) (fun k hk => ?_) (fun k d hd hk => ?_) ⟨rfl, rfl, rfl⟩
  · obtain ⟨hr, hb, ho⟩ := hk
    have hs := vecOn_outStands k t off v d
    exact ⟨hs.hinge.trans hr, hs.dbt.trans hb, (hs.out c (fun he => hd he.symm)).trans ho⟩
  · obtain ⟨hr, hb, ho⟩ := hk
    have hdriven : Driven k t c := x.of_rest hr (fieldBlocked_of hr hb) (by rw [ho]) (by rw [ho])
    rw [vecOn_latched off v hc hdriven, ho, fieldLevel_of_rest hr]
  · rw [(vecOn_outStands k t off v d).out c (fun he => hd he.symm)]
    exact hk

theorem applyVec_rest (h : Hub) (t off : Nat) : (h.applyVec t off).hinge.rest = h.hinge.rest ∧ (h.applyVec t off).dbt = h.dbt := by
  rw [applyVec_eq]
  generalize vget h.hinge.vecs t {} = v
  exact ⟨forAll_kept_of (g := fun k : Hub => k.hinge.rest) (fun k c _ => (vecOn_outStands k t off v c).hinge) h,
    forAll_kept_of (g := fun k : Hub => k.dbt) (fun k c _ => (vecOn_outStands k t off v c).dbt) h⟩

end Sys2Proof.Machine

/-!
PROOF. A VEC frame that the field die receives, and one that comes late (R297).
-/

namespace Sys2Proof.Machine

set_option Elab.async false

/-! ### The frame leaves its lane -/

/-- What of the link a frame that leaves its lane does not change. -/
def Hinge.landed (x : Hinge) : Hinge := { x with
  lanes := Vector.replicate 4 {}
  txL := []
  txF := [] }

theorem landOn_landed (h : Hub) (l typ payload : Nat) : (h.landOn l typ payload).hinge.landed = h.hinge.landed := by
  unfold Hub.landOn
  split
  · rfl
  · split <;> rfl

theorem land_landed (h : Hub) (field : Bool) (typ payload : Nat) : (h.land field typ payload).hinge.landed = h.hinge.landed :=
  landOn_landed h _ typ payload

theorem land_vecs (h : Hub) (field : Bool) (typ payload : Nat) : (h.land field typ payload).hinge.vecs = h.hinge.vecs := by
  have hvecs := congrArg Hinge.vecs (land_landed h field typ payload)
  exact hvecs

theorem land_upL (h : Hub) (field : Bool) (typ payload : Nat) : (h.land field typ payload).hinge.upL = h.hinge.upL := by
  have hup := congrArg Hinge.upL (land_landed h field typ payload)
  exact hup

theorem land_upF (h : Hub) (field : Bool) (typ payload : Nat) : (h.land field typ payload).hinge.upF = h.hinge.upF := by
  have hup := congrArg Hinge.upF (land_landed h field typ payload)
  exact hup

theorem land_configured (h : Hub) (field : Bool) (typ payload : Nat) : (h.land field typ payload).hinge.configured = h.hinge.configured := by
  have hset := congrArg Hinge.configured (land_landed h field typ payload)
  exact hset

theorem land_frd (h : Hub) (field : Bool) (typ payload : Nat) (f : Fld) (i : Nat) : (h.land field typ payload).frd f i = h.frd f i := by
  have hcfg := congrArg Hinge.cfg (land_landed h field typ payload)
  rw [Hub.frd, show (h.land field typ payload).hinge.cfg = h.hinge.cfg from hcfg, Hub.frd]

theorem land_fieldBlocked (h : Hub) (field : Bool) (typ payload : Nat) : (h.land field typ payload).fieldBlocked = h.fieldBlocked := by
  have hlatch := congrArg Hinge.latch (land_landed h field typ payload)
  rw [Hub.fieldBlocked, show (h.land field typ payload).hinge.latch = h.hinge.latch from hlatch, (land_moves h field typ payload).keeps .dbt,
    Hub.fieldBlocked]

theorem land_out (h : Hub) (field : Bool) (typ payload c : Nat) : (h.land field typ payload).out c = h.out c := by
  rw [Hub.out, (land_moves h field typ payload).keeps .outs]
  rfl

theorem land_fHidden (h : Hub) (field : Bool) (typ payload p c : Nat) : (h.land field typ payload).fHidden p c = h.fHidden p c := by
  rw [Hub.fHidden, (land_moves h field typ payload).keeps .dbt, Hub.fHidden]

/-! ### The vector -/

/-- The vector of a VEC frame. -/
def vecOf (payload : Nat) : FVec :=
  { live := true, pins := bitsOf payload 20 16, marks := bitsOf payload 36 4, ts := bitsOf payload 17 3, start := payload % 2 ^ 17 }

/-- The hub with a vector in force. -/
def Hub.setVec (h : Hub) (t : Nat) (v : FVec) : Hub := { h with hinge := { h.hinge with vecs := vset h.hinge.vecs t v } }

/-- An input's own window as a marker rises. -/
def Hub.ownAt (h : Hub) (t marks c : Nat) : Hub :=
  if h.frd IN_TPC_en c != 0 && h.frd IN_TPC_tmb c == t && bitOf marks (h.frd IN_TPC_mk c) then h.openOwn c else h

/-- An input's foreign window as a marker rises. -/
def Hub.foreignAt (h : Hub) (t marks c : Nat) : Hub :=
  if h.frd IN_TPC_xen c != 0 && h.frd IN_TPC_xtmb c == t && bitOf marks (h.frd IN_TPC_xmk c) then h.openForeign c else h

/-- The windows that a vector's markers open. -/
def Hub.windowsOf (h : Hub) (t marks : Nat) : Hub := forAll (List.range 16) (fun h c => (h.ownAt t marks c).foreignAt t marks c) h

/-- What a late vector counts and reports. -/
def Hub.tellLate (h : Hub) (t : Nat) : Hub := (if h.hinge.upL then h.count TMB_STALLS_late 1 t else h).fieldEvent 34 0 t

/-- A vector in force whose windows are open and that drives its channels. -/
def Hub.vecForce (h : Hub) (t : Nat) (v : FVec) : Hub := ((h.setVec t v).windowsOf t v.marks).applyVec t 0

theorem recvVec_eq {h : Hub} {t payload : Nat} {late : Bool} (hup : h.sup.fieldUp = true) (hlink : h.hinge.upF = true)
    (hcfg : h.hinge.configured = true) :
    h.recvVec t payload late = if late then (h.vecForce t (vecOf payload)).tellLate t else h.vecForce t (vecOf payload) := by
  unfold Hub.recvVec
  rw [hup, hlink, hcfg]
  rfl

theorem recvVec_refused {h : Hub} {t payload : Nat} {late : Bool} (hno : (!h.sup.fieldUp || !h.hinge.upF || !h.hinge.configured) = true) :
    h.recvVec t payload late = h := by
  unfold Hub.recvVec
  exact if_pos hno

theorem windowsOf_fieldStands (h : Hub) (t marks : Nat) : FieldStands h (h.windowsOf t marks) :=
  FieldStands.forAll (fun k c _ => (FieldStands.ite (openOwn_fieldStands k c) (.refl k)).trans
    (.ite (openForeign_fieldStands _ c) (.refl _))) h

theorem windowsOf_shown (h : Hub) (t marks : Nat) : Moves inFoot h (h.windowsOf t marks) :=
  (Moves.refl _ h).forAll fun k _ hc => (Moves.ite (openOwn_shown (List.mem_range.mp hc) k) (Moves.refl _ k)).trans
    (.ite (openForeign_shown (List.mem_range.mp hc) _) (Moves.refl _ _))

/-- What a vector's channels can reach. -/
def vecFoot : Foot := ⟨[.hinge, .outs, .sch, .flt, .life], outFltFlds, []⟩

theorem commandOff_shown (h : Hub) (c : Nat) : Moves vecFoot h (h.commandOff c) :=
  (((Moves.refl _ h).to (modOut_moves _ _ _)).to (outFall_moves _ _ _)).to (outFall_moves _ _ _)

theorem drive_shown (h : Hub) {c : Nat} (want : Bool) (hc : c < 16) : Moves vecFoot h (h.drive c want) :=
  .ite (Moves.refl _ h) ((Moves.refl _ h).to (setSwitch_moves _ _ _ _ hc))

theorem vecDrive_shown (h : Hub) (t off l : Nat) {c : Nat} (hc : c < 16) : Moves vecFoot h (h.vecDrive t off l c) :=
  .ite (Moves.refl _ h) (.ite (Moves.refl _ h) ((Moves.ite (commandOff_shown h c) (Moves.refl _ h)).trans (drive_shown _ _ hc)))

theorem vecOn_shown (h : Hub) (t off : Nat) (v : FVec) {c : Nat} (hc : c < 16) : Moves vecFoot h (Hub.vecOn t off v h c) :=
  (Moves.ite ((Moves.refl _ h).to (modOut_moves _ _ _)) (Moves.refl _ h)).trans (vecDrive_shown _ t off _ hc)

theorem applyVec_shown (h : Hub) (t off : Nat) : Moves vecFoot h (h.applyVec t off) := by
  rw [applyVec_eq]
  generalize vget h.hinge.vecs t {} = v
  exact (Moves.refl _ h).forAll fun k _ hc => vecOn_shown k t off v (List.mem_range.mp hc)

theorem vecForce_rest (h : Hub) (t : Nat) (v : FVec) : (h.vecForce t v).hinge.rest = (h.setVec t v).hinge.rest :=
  (applyVec_rest _ t 0).1.trans (windowsOf_fieldStands _ t v.marks).hinge

theorem vecForce_latched {h : Hub} {t c : Nat} (v : FVec) (hc : c < 16) (x : Driven h t c) :
    ((h.vecForce t v).out c).latched = (h.vecForce t v).fieldLevel t c 0 (h.out c).latched := by
  have hstands := windowsOf_fieldStands (h.setVec t v) t v.marks
  have hgate := congrArg OutCh.gate (hstands.out c)
  have hsafe := congrArg OutCh.atSafe (hstands.out c)
  have hwas := congrArg OutCh.latched (hstands.out c)
  have hset : Driven (h.setVec t v) t c := ⟨x.isOut, x.unpaired, x.src, x.gate, x.notSafe, x.unblocked⟩
  have hdriven : Driven ((h.setVec t v).windowsOf t v.marks) t c := hset.of_rest hstands.hinge hstands.fieldBlocked hgate hsafe
  rw [Hub.vecForce, applyVec_latched 0 hc hdriven, fieldLevel_of_rest (applyVec_rest _ t 0).1]
  exact congrArg _ hwas

theorem vecForce_stalls (h : Hub) {t : Nat} (v : FVec) (ht : t < 8) : (h.vecForce t v).rd TMB_STALLS_late t = h.rd TMB_STALLS_late t :=
  ((applyVec_shown _ t 0).rd TMB_STALLS_late t 0 ht).trans ((windowsOf_shown _ t v.marks).rd TMB_STALLS_late t 0 ht)

theorem vecForce_fHidden {h : Hub} {t p c : Nat} (v : FVec) (hh : h.fHidden p c = false) : (h.vecForce t v).fHidden p c = false := by
  have hwindows : ((h.setVec t v).windowsOf t v.marks).fHidden p c = false := (windowsOf_fieldStands (h.setVec t v) t v.marks).fHidden hh
  rw [Hub.fHidden, Hub.vecForce, (applyVec_rest _ t 0).2]
  exact hwindows

/-! ### A late vector -/

theorem tellLate_fieldStands (h : Hub) (t : Nat) : FieldStands h (h.tellLate t) := by
  have hcount : FieldStands h (h.count TMB_STALLS_late 1 t) := .of_hinge rfl rfl rfl
  exact (FieldStands.ite hcount (.refl h)).trans (fieldEvent_fieldStands _ _ _ _)

theorem tellLate_out (h : Hub) (t c : Nat) : (h.tellLate t).out c = h.out c := by
  unfold Hub.tellLate
  rw [Hub.out, (fieldEvent_moves _ _ _ _).keeps .outs]
  split <;> rfl

theorem tellLate_stalls {h : Hub} {t : Nat} (ht : t < 8) (hup : h.hinge.upL = true) :
    (h.tellLate t).rd TMB_STALLS_late t = satInc (2 ^ TMB_STALLS_late.width - 1) (h.rd TMB_STALLS_late t) := by
  unfold Hub.tellLate
  rw [(fieldEvent_moves _ _ _ _).rd TMB_STALLS_late t 0 ht, hup, if_pos rfl]
  exact Hub.rd_count_satInc _ _ _ _

theorem fieldEvent_sticky {h : Hub} {p : Nat} (chs detail : Nat) (hh : h.fHidden p 16 = false) :
    bitOf (h.fieldEvent p chs detail).flt.fieldSticky p = true := by
  unfold Hub.fieldEvent
  rw [hh, if_neg Bool.false_ne_true, Hub.sendF]
  split <;> exact bitOf_setBit_self _ _

theorem tellLate_sticky {h : Hub} {t : Nat} (hh : h.fHidden 34 16 = false) : bitOf (h.tellLate t).flt.fieldSticky 34 = true := by
  refine fieldEvent_sticky _ _ ?_
  split <;> exact hh

end Sys2Proof.Machine

/-!
PROOF. What the commands of the tumblers leave (R291 to R301).
-/

namespace Sys2Proof.Machine

set_option Elab.async false

/-! ### A write of TMB_CTRL -/

theorem bitsOf_ten_mod (v at_ : Nat) : bitsOf v at_ 10 % 1024 = bitsOf v at_ 10 := Nat.mod_mod _ _

section
variable {h : Hub} {w t v : Nat} (ht : t < 8)

theorem tmbOwner_of_ctrlOk (hok : h.tmbCtrlOk w t v = true) : (h.tmbOwner t).isSome = true := by
  rw [Hub.tmbCtrlOk, Bool.and_eq_true, Bool.and_eq_true] at hok
  obtain ⟨⟨-, howner⟩, -⟩ := hok
  rw [beq_iff_eq.mp howner]
  rfl

include ht

theorem ctrlSet_state (v : Nat) : (h.ctrlSet t v).tmbState t = h.tmbState t := tmbState_of_moves (ctrlSet_moves h v ht) ht

theorem ctrlSet_runs (v : Nat) : (h.ctrlSet t v).tmbRuns t = h.tmbRuns t := by rw [Hub.tmbRuns, ctrlSet_state ht, Hub.tmbRuns]

theorem ctrlSet_owner (v : Nat) : (h.ctrlSet t v).tmbOwner t = h.tmbOwner t := tmbOwner_of_moves (ctrlSet_moves h v ht) t

/-- A start of a tumbler at rest. -/
theorem writeTmbCtrl_starts (hok : h.tmbCtrlOk w t v = true) (hv : v % 8 = 1) (hruns : h.tmbRuns t = false) (hstate : h.tmbState t ≠ 1) :
    Pending h (h.writeTmbCtrl t v) t (bitsOf v 16 10) ∧ (h.writeTmbCtrl t v).flag TMB_CTRL_start t = true := by
  obtain ⟨x, htaken⟩ := tmbStartReq_pending (h := h.ctrlSet t v) (bitsOf v 16 10) none ht (by rw [ctrlSet_state ht]; exact hstate)
    (by rw [ctrlSet_runs ht]; exact hruns) (by rw [ctrlSet_owner ht]; exact tmbOwner_of_ctrlOk hok)
  rw [writeTmbCtrl_start hv, htaken]
  have hput := (Moves.refl ⟨[], [TMB_CTRL_start], []⟩ ((h.ctrlSet t v).tmbStartReq t (bitsOf v 16 10)).1).put TMB_CTRL_start true t 0 ht
  exact ⟨⟨(tmbState_of_moves hput ht).trans x.state, x.entry, x.queued, x.uncaused, x.wakes3, x.wakes5⟩, Hub.flag_put_self _ _ _ _ _ rfl⟩

/-- A start of a tumbler that is not at rest. -/
theorem writeTmbCtrl_start_busy (hv : v % 8 = 1) (hbusy : (h.tmbRuns t || h.tmbState t == 1) = true) :
    (h.writeTmbCtrl t v).tmbState t = h.tmbState t ∧ (h.writeTmbCtrl t v).flag TMB_CTRL_start t = false ∧ (h.writeTmbCtrl t v).sch = h.sch := by
  rw [writeTmbCtrl_start hv, tmbStartReq_busy _ (by rw [ctrlSet_runs ht, ctrlSet_state ht]; exact hbusy)]
  have hput := (Moves.refl ⟨[], [TMB_CTRL_start], []⟩ (h.ctrlSet t v)).put TMB_CTRL_start false t 0 ht
  exact ⟨(tmbState_of_moves hput ht).trans (ctrlSet_state ht v), Hub.flag_put_self _ _ _ _ _ rfl, rfl⟩

theorem stopAsked_state (v : Nat) : ((h.ctrlSet t v).put TMB_CTRL_stop true t).tmbState t = h.tmbState t :=
  (tmbState_of_moves ((Moves.refl ⟨[], [TMB_CTRL_stop], []⟩ (h.ctrlSet t v)).put TMB_CTRL_stop true t 0 ht) ht).trans (ctrlSet_state ht v)

theorem stopAsked_runs (v : Nat) : ((h.ctrlSet t v).put TMB_CTRL_stop true t).tmbRuns t = h.tmbRuns t := by
  rw [Hub.tmbRuns, stopAsked_state ht, Hub.tmbRuns]

theorem jumpAsked_state (v : Nat) : ((h.ctrlSet t v).put TMB_CTRL_jump true t).tmbState t = h.tmbState t :=
  (tmbState_of_moves ((Moves.refl ⟨[], [TMB_CTRL_jump], []⟩ (h.ctrlSet t v)).put TMB_CTRL_jump true t 0 ht) ht).trans (ctrlSet_state ht v)

theorem jumpAsked_runs (v : Nat) : ((h.ctrlSet t v).put TMB_CTRL_jump true t).tmbRuns t = h.tmbRuns t := by
  rw [Hub.tmbRuns, jumpAsked_state ht, Hub.tmbRuns]

theorem jumpAsked_owner (v : Nat) : ((h.ctrlSet t v).put TMB_CTRL_jump true t).tmbOwner t = h.tmbOwner t :=
  (tmbOwner_of_moves ((Moves.refl ⟨[], [TMB_CTRL_jump], []⟩ (h.ctrlSet t v)).put TMB_CTRL_jump true t 0 ht) t).trans (ctrlSet_owner ht v)

theorem writeTmbCtrl_stops (hv : v % 8 = 2) (hruns : h.tmbRuns t = true) :
    ((h.writeTmbCtrl t v).tmb t).stopReq = some (bitOf v 3) ∧ (h.writeTmbCtrl t v).tmbState t = h.tmbState t ∧
      (h.writeTmbCtrl t v).flag TMB_CTRL_stop t = true := by
  rw [writeTmbCtrl_stop hv, tmbStopReq_running _ (by rw [stopAsked_runs ht]; exact hruns)]
  have hflag : ((h.ctrlSet t v).put TMB_CTRL_stop true t).flag TMB_CTRL_stop t = true := Hub.flag_put_self _ _ _ _ _ rfl
  refine ⟨?_, stopAsked_state ht v, hflag⟩
  dsimp only
  rw [Hub.tmb_modTmb_self _ t _ ht]

theorem writeTmbCtrl_stop_pending (hv : v % 8 = 2) (hstate : h.tmbState t = 1) :
    (h.writeTmbCtrl t v).tmbState t = 0 ∧ (h.writeTmbCtrl t v).rd TMB_STAT_stop_cause t = 2 ∧ (h.writeTmbCtrl t v).flag TMB_CTRL_stop t = false ∧
      (h.writeTmbCtrl t v).sch.queue.any (fun x => x.kind == .tmbStart && x.ref == t) = false := by
  have hasked : ((h.ctrlSet t v).put TMB_CTRL_stop true t).tmbState t = 1 := (stopAsked_state ht v).trans hstate
  have hgo : (((h.ctrlSet t v).put TMB_CTRL_stop true t).tmbRuns t || ((h.ctrlSet t v).put TMB_CTRL_stop true t).tmbState t == 1) = true := by
    rw [hasked]
    exact Bool.or_true _
  obtain ⟨hqueue, hflag⟩ := tmbStop_unqueued _ 2 (bitOf v 3) ht hgo
  rw [writeTmbCtrl_stop hv, tmbStopReq_pending _ hasked]
  refine ⟨?_, stop_cause_tmbStop_self _ 2 _ ht hgo, hflag, hqueue⟩
  dsimp only
  rw [tmbState_tmbStop _ _ _ ht ht, if_pos ⟨rfl, hgo⟩]

theorem writeTmbCtrl_stop_rest (hv : v % 8 = 2) (hruns : h.tmbRuns t = false) (hstate : h.tmbState t ≠ 1) :
    (h.writeTmbCtrl t v).flag TMB_CTRL_stop t = false ∧ (h.writeTmbCtrl t v).tmbState t = h.tmbState t ∧ (h.writeTmbCtrl t v).tmbs = h.tmbs := by
  rw [writeTmbCtrl_stop hv, tmbStopReq_rest _ (by rw [stopAsked_runs ht]; exact hruns) (by rw [stopAsked_state ht]; exact hstate)]
  refine ⟨Hub.flag_put_self _ _ _ _ _ rfl, ?_, rfl⟩
  exact (tmbState_of_moves ((Moves.refl ⟨[], [TMB_CTRL_stop], []⟩ _).put TMB_CTRL_stop false t 0 ht) ht).trans (stopAsked_state ht v)

theorem writeTmbCtrl_jumps (hv : v % 8 = 4) (hruns : h.tmbRuns t = true) :
    ((h.writeTmbCtrl t v).tmb t).jumpReq = some (bitsOf v 16 10) ∧ (h.writeTmbCtrl t v).tmbState t = h.tmbState t ∧
      (h.writeTmbCtrl t v).flag TMB_CTRL_jump t = true := by
  rw [writeTmbCtrl_jump hv, tmbJumpReq_running _ (by rw [jumpAsked_runs ht]; exact hruns)]
  have hflag : ((h.ctrlSet t v).put TMB_CTRL_jump true t).flag TMB_CTRL_jump t = true := Hub.flag_put_self _ _ _ _ _ rfl
  refine ⟨?_, jumpAsked_state ht v, hflag⟩
  dsimp only
  rw [Hub.tmb_modTmb_self _ t _ ht, bitsOf_ten_mod]

theorem writeTmbCtrl_jump_stopped (hok : h.tmbCtrlOk w t v = true) (hv : v % 8 = 4) (hruns : h.tmbRuns t = false) :
    (h.writeTmbCtrl t v).tmbState t = 1 ∧ ((h.writeTmbCtrl t v).tmb t).entry = bitsOf v 16 10 ∧ (h.writeTmbCtrl t v).flag TMB_CTRL_jump t = false ∧
      (h.tmbState t ≠ 1 → (h.writeTmbCtrl t v).sch.queue.any (fun x => x.kind == .tmbStart && x.ref == t) = true) := by
  have hasked := jumpAsked_runs (h := h) ht v
  rw [writeTmbCtrl_jump hv]
  by_cases hstate : h.tmbState t = 1
  · rw [tmbJumpReq_pending _ (hasked.trans hruns) ((jumpAsked_state ht v).trans hstate)]
    refine ⟨?_, ?_, Hub.flag_put_self _ _ _ _ _ rfl, fun hne => absurd hstate hne⟩
    · exact (tmbState_of_moves ((Moves.refl ⟨[], [TMB_CTRL_jump], []⟩ _).put TMB_CTRL_jump false t 0 ht) ht).trans
        ((jumpAsked_state ht v).trans hstate)
    · have hentry := congrArg Tmb.entry (Hub.tmb_modTmb_self ((h.ctrlSet t v).put TMB_CTRL_jump true t) t
        (fun x => { x with entry := bitsOf v 16 10 % 1024 }) ht)
      exact hentry.trans (bitsOf_ten_mod v 16)
  · have hrest : ((h.ctrlSet t v).put TMB_CTRL_jump true t).tmbState t ≠ 1 := by
      rw [jumpAsked_state ht]
      exact hstate
    obtain ⟨x, -⟩ := tmbStartReq_pending (bitsOf v 16 10) none ht hrest (hasked.trans hruns)
      (by rw [jumpAsked_owner ht]; exact tmbOwner_of_ctrlOk hok)
    rw [tmbJumpReq_rest _ (hasked.trans hruns) hrest]
    refine ⟨?_, x.entry.trans (bitsOf_ten_mod v 16), Hub.flag_put_self _ _ _ _ _ rfl, fun _ => x.queued⟩
    exact (tmbState_of_moves ((Moves.refl ⟨[], [TMB_CTRL_jump], []⟩ _).put TMB_CTRL_jump false t 0 ht) ht).trans x.state

end

/-! ### The cycle -/

/-- What an issued cycle that starts leaves. -/
theorem cycleStart_shows {h : Hub} {t pins marks ts : Nat} (ht : t < 8) (hi : (h.tmb t).issued = some (pins, marks, ts)) :
    ((h.cycleStart t).tmb t).issued = none ∧ (h.cycleStart t).rd TMB_CYCLES_count t = (h.rd TMB_CYCLES_count t + 1) % 2 ^ 32 ∧
      (h.cycleStart t).rd TMB_PATTERN_pins t = pins % 2 ^ 20 ∧ (h.cycleStart t).rd TMB_PATTERN_mk t = marks % 16 ∧
      (h.cycleStart t).rd TMB_STAT_ts_now t = ts % 8 ∧ ((h.cycleStart t).tmb t).cycleAt = ((h.tmb t).cycleAt + h.tsPeriod ts) % 2 ^ 67 ∧
      ∀ k ∈ List.range 4, bitOf marks k = true → ∀ u : Fin 8, bitOf ((h.cycleStart t).rd TMB_MKSEEN_seen u) (4 * t + k) = true := by
  obtain ⟨hissued, hat, hpins, hmk, hts, hcount⟩ := cycleSet_spec h pins marks ts ht
  obtain ⟨hmoves, hissued', hat'⟩ := markers_keep (h.cycleSet t pins marks ts) ((h.tmb t).cycleAt / 8) (fun k => k.rd TMB_STAT_pc t) (bitList 4 marks) ht
  rw [cycleStart_eq hi]
  refine ⟨hissued'.trans hissued, (hmoves.rd TMB_CYCLES_count t 0 ht).trans hcount, (hmoves.rd TMB_PATTERN_pins t 0 ht).trans hpins,
    (hmoves.rd TMB_PATTERN_mk t 0 ht).trans hmk, (hmoves.rd TMB_STAT_ts_now t 0 ht).trans hts, hat'.trans hat, fun k hk hset u => ?_⟩
  exact markers_seen _ (fun k => k.rd TMB_STAT_pc t) ht (List.mem_range.mp hk) hset u

/-! ### The deadline -/

/-- The hub once a missed deadline no longer runs. -/
def Hub.deadlineOver (h : Hub) (t : Nat) : Hub := h.modTmb t (fun x => { x with dlFrom := none })

/-- A missed deadline as an occurrence. -/
def Hub.deadlineMissed (h : Hub) (t : Nat) : Hub := (h.deadlineOver t).event 31 (2 ^ ((h.tmbOwner t).getD 0)) detailOpen

theorem deadlineMissed_over (h : Hub) {t : Nat} (ht : t < 8) : ((h.deadlineMissed t).tmb t).dlFrom = none := by
  refine (deadline_closed t).event _ _ _ _ ?_
  rw [Hub.deadlineOver, Hub.tmb_modTmb_self h t _ ht]

theorem deadlineMissed_counts {h : Hub} (t : Nat) (hh : h.proofHides 31 16 = false) (hg : h.testGroup ≠ 5) (hp : h.dev.phase ≠ .recovery) :
    vget (h.deadlineMissed t).flt.counts 31 0 = satInc 65535 (vget h.flt.counts 31 0) := by
  have hcounts : (h.deadlineMissed t).flt.counts = vset h.flt.counts 31 (satInc 65535 (vget h.flt.counts 31 0)) :=
    counts_event (h := h.deadlineOver t) 31 _ _ hh hg hp
  rw [hcounts, vget_vset_self _ _ _ _ (by decide)]

/-! ### The vectors -/

/-- What a vector in force leaves (R296, R297). -/
theorem recvVec_forces {h : Hub} {t payload : Nat} {late : Bool} (ht : t < 8) (hup : h.sup.fieldUp = true) (hlink : h.hinge.upF = true)
    (hcfg : h.hinge.configured = true) :
    vget (h.recvVec t payload late).hinge.vecs t {} = vecOf payload ∧
    (∀ c, c < 16 → Driven h t c → ((h.recvVec t payload late).out c).latched = (h.recvVec t payload late).fieldLevel t c 0 (h.out c).latched) ∧
    (late = true → h.hinge.upL = true →
      (h.recvVec t payload late).rd TMB_STALLS_late t = satInc (2 ^ TMB_STALLS_late.width - 1) (h.rd TMB_STALLS_late t)) ∧
    (late = true → h.fHidden 34 16 = false → bitOf (h.recvVec t payload late).flt.fieldSticky 34 = true) := by
  have hrest := vecForce_rest h t (vecOf payload)
  have hvec : vget (h.vecForce t (vecOf payload)).hinge.vecs t {} = vecOf payload := by
    rw [vecs_of_rest hrest]
    exact vget_vset_self _ _ _ _ ht
  rw [recvVec_eq hup hlink hcfg]
  cases late with
  | false => exact ⟨hvec, fun c hc x => vecForce_latched _ hc x, fun hf => absurd hf Bool.false_ne_true, fun hf => absurd hf Bool.false_ne_true⟩
  | true =>
    have hstands := (tellLate_fieldStands (h.vecForce t (vecOf payload)) t).hinge
    rw [if_pos rfl]
    refine ⟨?_, fun c hc x => ?_, fun _ hl => ?_, fun _ hh => tellLate_sticky (vecForce_fHidden _ hh)⟩
    · rw [vecs_of_rest hstands]
      exact hvec
    · rw [tellLate_out, fieldLevel_of_rest hstands]
      exact vecForce_latched _ hc x
    · rw [tellLate_stalls ht (by rw [upL_of_rest hrest]; exact hl), vecForce_stalls _ _ ht]

theorem land_driven {h : Hub} {t c : Nat} (field : Bool) (typ payload : Nat) (x : Driven h t c) : Driven (h.land field typ payload) t c where
  isOut := by
    rw [Hub.fIsOut, Hub.fMode, land_frd]
    exact x.isOut
  unpaired := by
    rw [Hub.fMode, land_frd]
    exact x.unpaired
  src := (land_frd h field typ payload _ _).trans x.src
  gate := by
    rw [land_out]
    exact x.gate
  notSafe := by
    rw [land_out]
    exact x.notSafe
  unblocked := (land_fieldBlocked h field typ payload).trans x.unblocked

/-- Settles O18, by what a write of TMB_CTRL, an issued cycle and a vector in force each leave. -/
theorem tumblerCommands : Obligations.TumblerCommands := by
  unfold Obligations.TumblerCommands
  refine ⟨?cycle, ?noCycle, ?miss, ?noMiss, ?start, ?startBusy, ?stop, ?stopPending, ?stopRest, ?jump, ?jumpStopped, ?vec, ?noVec, ?again, ?lost⟩
  case cycle =>
    intro s t hc
    rw [Can.cycleStart, Bool.and_eq_true] at hc
    obtain ⟨hruns, hsome⟩ := hc
    obtain ⟨⟨pins, marks, ts⟩, hi⟩ := Option.isSome_iff_exists.mp hsome
    have hissued : (s.hub.begun.tmb t).issued = some (pins, marks, ts) := hi
    obtain ⟨hnone, hcount, hpins, hmk, hts, hat, hseen⟩ := cycleStart_shows t.isLt hissued
    refine completes_of_begun (exec_cycleStart t s) ?_
    rw [if_pos (show s.hub.begun.tmbRuns t = true from hruns)]
    refine ⟨hnone, hcount, fun x hx => ?_⟩
    obtain rfl : x = (pins, marks, ts) := Option.some.inj ((Option.mem_def.mp hx).symm.trans hi)
    exact ⟨hpins, hmk, hts, hat, hseen⟩
  case noCycle =>
    intro s t hc
    rw [Can.cycleStart2, Bool.or_eq_true, Bool.not_eq_true'] at hc
    refine completes_of_begun (exec_cycleStart t s) ?_
    split
    case isFalse => exact ⟨rfl, rfl⟩
    case isTrue hruns =>
      have hnone : (s.hub.begun.tmb t).issued = none := Option.isNone_iff_eq_none.mp (hc.resolve_left fun hf => absurd (hf.symm.trans hruns) Bool.false_ne_true)
      unfold Hub.cycleStart
      dsimp only
      rw [hnone]
      exact ⟨rfl, rfl⟩
  case miss =>
    intro s t hc
    refine completes_of_begun (exec_deadlineMiss t s) ?_
    rw [if_pos (show (s.hub.begun.tmbRuns t && s.hub.begun.dlPassed t && !s.hub.begun.proofHides 31 t) = true from hc)]
    exact ⟨deadlineMissed_over s.hub.begun t.isLt, fun hh hg hp => deadlineMissed_counts (h := s.hub.begun) t hh hg hp⟩
  case noMiss =>
    intro s t hc
    have hno : ¬ (s.hub.begun.tmbRuns t && s.hub.begun.dlPassed t && !s.hub.begun.proofHides 31 t) = true := by
      intro hall
      simp only [Bool.and_eq_true] at hall
      rw [Can.deadlineMiss2, Bool.or_eq_true, Bool.not_eq_true', Bool.not_eq_true'] at hc
      exact hc.elim (fun hf => absurd (hf.symm.trans hall.1.1) Bool.false_ne_true) (fun hf => absurd (hf.symm.trans hall.1.2) Bool.false_ne_true)
    refine completes_of_begun (exec_deadlineMiss t s) ?_
    rw [if_neg hno]
    exact ⟨rfl, rfl⟩
  case start =>
    intro s w t v hc
    simp only [Can.tmbStart, Bool.and_eq_true, Bool.not_eq_true', beq_iff_eq, bne_iff_ne] at hc
    obtain ⟨⟨⟨hok, hv⟩, hruns⟩, hstate⟩ := hc
    obtain ⟨x, hflag⟩ := writeTmbCtrl_starts (h := s.hub.begun) t.isLt hok hv hruns hstate
    refine completes_of_begun (exec_tmbStart w t v s) ?_
    rw [if_pos (show s.hub.begun.tmbCtrlOk w t v.toNat = true from hok)]
    exact ⟨x.state, x.entry.trans (bitsOf_ten_mod _ 16), x.queued, hflag, x.uncaused, x.wakes3, x.wakes5⟩
  case startBusy =>
    intro s w t v hc
    simp only [Can.tmbStart2, Bool.and_eq_true, beq_iff_eq] at hc
    obtain ⟨⟨hok, hv⟩, hbusy⟩ := hc
    refine completes_of_begun (exec_tmbStart w t v s) ?_
    rw [if_pos (show s.hub.begun.tmbCtrlOk w t v.toNat = true from hok)]
    exact writeTmbCtrl_start_busy (h := s.hub.begun) t.isLt hv hbusy
  case stop =>
    intro s w t v hc
    simp only [Can.tmbStop, Bool.and_eq_true, beq_iff_eq] at hc
    obtain ⟨⟨hok, hv⟩, hruns⟩ := hc
    refine completes_of_begun (exec_tmbStop w t v s) ?_
    rw [if_pos (show s.hub.begun.tmbCtrlOk w t v.toNat = true from hok)]
    exact writeTmbCtrl_stops (h := s.hub.begun) t.isLt hv hruns
  case stopPending =>
    intro s w t v hc
    simp only [Can.tmbStop2, Bool.and_eq_true, beq_iff_eq] at hc
    obtain ⟨⟨hok, hv⟩, hstate⟩ := hc
    refine completes_of_begun (exec_tmbStop w t v s) ?_
    rw [if_pos (show s.hub.begun.tmbCtrlOk w t v.toNat = true from hok)]
    exact writeTmbCtrl_stop_pending (h := s.hub.begun) t.isLt hv hstate
  case stopRest =>
    intro s w t v hc
    simp only [Can.tmbStop3, Bool.and_eq_true, Bool.not_eq_true', beq_iff_eq, bne_iff_ne] at hc
    obtain ⟨⟨⟨hok, hv⟩, hruns⟩, hstate⟩ := hc
    refine completes_of_begun (exec_tmbStop w t v s) ?_
    rw [if_pos (show s.hub.begun.tmbCtrlOk w t v.toNat = true from hok)]
    exact writeTmbCtrl_stop_rest (h := s.hub.begun) t.isLt hv hruns hstate
  case jump =>
    intro s w t v hc
    simp only [Can.tmbJump, Bool.and_eq_true, beq_iff_eq] at hc
    obtain ⟨⟨hok, hv⟩, hruns⟩ := hc
    refine completes_of_begun (exec_tmbJump w t v s) ?_
    rw [if_pos (show s.hub.begun.tmbCtrlOk w t v.toNat = true from hok)]
    exact writeTmbCtrl_jumps (h := s.hub.begun) t.isLt hv hruns
  case jumpStopped =>
    intro s w t v hc
    simp only [Can.tmbJump2, Bool.and_eq_true, Bool.not_eq_true', beq_iff_eq] at hc
    obtain ⟨⟨hok, hv⟩, hruns⟩ := hc
    refine completes_of_begun (exec_tmbJump w t v s) ?_
    rw [if_pos (show s.hub.begun.tmbCtrlOk w t v.toNat = true from hok)]
    exact writeTmbCtrl_jump_stopped (h := s.hub.begun) t.isLt hok hv hruns
  case vec =>
    intro s t late payload hc
    rw [Can.vec, Bool.and_eq_true, Bool.and_eq_true] at hc
    obtain ⟨⟨hup, hlink⟩, hcfg⟩ := hc
    have hlanded := land_moves s.hub.begun true (0x80 + t.val) payload.toNat
    obtain ⟨hvec, hdriven, hstalls, hsticky⟩ := recvVec_forces (h := s.hub.begun.land true (0x80 + t.val) payload.toNat) (payload := payload.toNat)
      (late := late) t.isLt (by rw [hlanded.keeps .sup]; exact hup) (by rw [land_upF]; exact hlink) (by rw [land_configured]; exact hcfg)
    refine completes_of_begun (exec_vec t late payload s) ⟨hvec, fun c hout hpair hsrc hgate hsafe hfree => ?_, fun hl hu => ?_, fun hl hh => ?_⟩
    · have x : Driven s.hub.begun t c := ⟨hout, hpair, hsrc, hgate, hsafe, hfree⟩
      have hlatched := hdriven c c.isLt (land_driven true _ _ x)
      rw [land_out] at hlatched
      exact hlatched
    · refine (hstalls hl (by rw [land_upL]; exact hu)).trans ?_
      rw [hlanded.rd TMB_STALLS_late t 0 t.isLt]
      rfl
    · exact hsticky hl (by rw [land_fHidden]; exact hh)
  case noVec =>
    intro s t late payload hc
    have hlanded := land_moves s.hub.begun true (0x80 + t.val) payload.toNat
    refine completes_of_begun (exec_vec t late payload s) ?_
    rw [recvVec_refused (by rw [hlanded.keeps .sup, land_upF, land_configured]; exact hc)]
    exact ⟨land_vecs _ _ _ _, hlanded.keeps .outs⟩
  case again =>
    intro s t off hc
    rw [Can.vecRepeat, Bool.and_eq_true, Bool.and_eq_true, Bool.and_eq_true] at hc
    obtain ⟨⟨⟨hup, hcfg⟩, hlive⟩, hgo⟩ := hc
    have hon : ¬ (!s.hub.begun.sup.fieldUp || !s.hub.begun.hinge.configured || !(vget s.hub.begun.hinge.vecs t {}).live) = true := by
      rw [show s.hub.begun.sup.fieldUp = true from hup, show s.hub.begun.hinge.configured = true from hcfg,
        show (vget s.hub.begun.hinge.vecs t {}).live = true from hlive]
      exact Bool.false_ne_true
    obtain ⟨hrest, -⟩ := applyVec_rest s.hub.begun t off.toNat
    refine completes_of_begun (exec_vecRepeat t off s) ?_
    rw [if_neg hon, if_pos (show (s.hub.begun.hinge.upF || off.toNat != 0) = true from hgo)]
    refine ⟨vecs_of_rest hrest, fun c hout hpair hsrc hgate hsafe hfree => ?_⟩
    have x : Driven s.hub.begun t c := ⟨hout, hpair, hsrc, hgate, hsafe, hfree⟩
    rw [fieldLevel_of_rest hrest]
    exact applyVec_latched off.toNat c.isLt x
  case lost =>
    intro s t off hc
    simp only [Can.vecRepeat2, Bool.and_eq_true, Bool.not_eq_true', beq_iff_eq] at hc
    obtain ⟨⟨⟨⟨hup, hcfg⟩, hlive⟩, hlost⟩, hzero⟩ := hc
    have hon : ¬ (!s.hub.begun.sup.fieldUp || !s.hub.begun.hinge.configured || !(vget s.hub.begun.hinge.vecs t {}).live) = true := by
      rw [show s.hub.begun.sup.fieldUp = true from hup, show s.hub.begun.hinge.configured = true from hcfg,
        show (vget s.hub.begun.hinge.vecs t {}).live = true from hlive]
      exact Bool.false_ne_true
    have hstop : ¬ (s.hub.begun.hinge.upF || off.toNat != 0) = true := by
      rw [show s.hub.begun.hinge.upF = false from hlost, hzero]
      exact Bool.false_ne_true
    refine completes_of_begun (exec_vecRepeat t off s) ?_
    rw [if_neg hon, if_neg hstop]
    exact ⟨vget_vset_self _ _ _ _ t.isLt, rfl⟩

end Sys2Proof.Machine

/-!
PROOF. Output channels brought to their safe states by the field die (R143, R218), and the FHOLD timers.
-/

namespace Sys2Proof.Machine

set_option Elab.async false

/-! ### The hold of a channel at its safe state -/

/-- What a channel shows of FHOLD: the timer, its end, and the hold at the safe state. -/
def OutCh.hold (o : OutCh) : Bool × Bool × Bool := (o.fholdRun, o.fholdEnded, o.atSafe)

theorem hold_modOut {g : OutCh → OutCh} (hg : ∀ o, (g o).hold = o.hold) (h : Hub) (c d : Nat) : ((h.modOut c g).out d).hold = (h.out d).hold := by
  by_cases hd : d = c
  · subst hd
    by_cases hb : d < 16
    · rw [Hub.out_modOut_self h _ _ hb, hg]
    · simp [Hub.out, Hub.modOut, vget, vset, hb]
  · rw [Hub.out_modOut_ne hd]

theorem hold_outFall (h : Hub) (c b d : Nat) : ((h.outFall c b).out d).hold = (h.out d).hold := by
  rw [Hub.out, Hub.outFall, (fieldFall_moves _ _ _).keeps .outs]
  rfl

theorem hold_outRise (h : Hub) (c b detail d : Nat) : ((h.outRise c b detail).out d).hold = (h.out d).hold := by
  rw [Hub.outRise]
  split
  · rfl
  · rw [Hub.out, outs_syncOutFlt, outs_fieldRise]
    exact hold_modOut (g := fun o => { o with flt := setBit o.flt b }) (fun _ => rfl) h c d

theorem hold_switchFlags (h : Hub) (c : Nat) (was : OutCh) (d : Nat) : ((h.switchFlags c was).out d).hold = (h.out d).hold := by
  have hended : ((if was.limiting && !(h.out c).limiting then h.outFall c 3 else h).out d).hold = (h.out d).hold := by
    split
    · exact hold_outFall h c 3 d
    · rfl
  rw [Hub.switchFlags]
  split
  · rw [hold_outRise]
    exact (hold_modOut (g := fun o => { o with uvOff := true }) (fun _ => rfl) _ c d).trans hended
  · exact hended

theorem hold_switched (o : OutCh) (now : Nat) (on sw lim : Bool) : (((o.endPulse now).latch now on).turn now sw lim).hold = o.hold := by
  have hpulse : (o.endPulse now).hold = o.hold := by
    unfold OutCh.endPulse
    split <;> rfl
  have hlatch : ((o.endPulse now).latch now on).hold = (o.endPulse now).hold := by
    unfold OutCh.latch
    split <;> rfl
  refine Eq.trans ?_ (hlatch.trans hpulse)
  unfold OutCh.turn OutCh.stopRun
  dsimp only
  split
  · rfl
  · split <;> rfl

theorem hold_setSwitch (h : Hub) (c : Nat) (on counts : Bool) (d : Nat) : ((h.setSwitch c on counts).out d).hold = (h.out d).hold := by
  have hcount {q : Prop} [Decidable q] : (if q then h.countTurnOn c else h).outs = h.outs := by
    split
    · exact (countTurnOn_moves h c).keeps .outs
    · rfl
  have hdrop {q r : Prop} [Decidable q] [Decidable r] :
      (if r then (if q then h.countTurnOn c else h).dropVf c else if q then h.countTurnOn c else h).outs = h.outs := by
    split
    · exact hcount
    · exact hcount
  unfold Hub.setSwitch
  dsimp only
  rw [hold_switchFlags, hold_modOut (fun o => hold_switched o _ _ _ _), Hub.out, hdrop]
  rfl

/-! ### One channel at its safe state -/

/-- What of the link stands while the field die brings channels to their safe states. -/
def Hinge.still (x : Hinge) : Hinge := { x.rest with
  lossSafe := 0
  lossEnded := 0 }

/-- The link but for what is kept of a loss, and Deadbolt, are the same in two hubs. -/
structure StillStands (h k : Hub) : Prop where
  hinge : k.hinge.still = h.hinge.still
  dbt : k.dbt = h.dbt

namespace StillStands

variable {h₀ h k : Hub}

theorem refl (h : Hub) : StillStands h h := ⟨rfl, rfl⟩

theorem trans (x : StillStands h₀ h) (y : StillStands h k) : StillStands h₀ k := ⟨y.hinge.trans x.hinge, y.dbt.trans x.dbt⟩

theorem of_outStands {c : Nat} (x : OutStands c h k) : StillStands h k := by
  refine ⟨?_, x.dbt⟩
  have hstill := congrArg (fun v : Hinge => { v with lossSafe := 0, lossEnded := 0 }) x.hinge
  exact hstill

theorem forAll {f : Hub → Nat → Hub} {l : List Nat} (hf : ∀ h c, c ∈ l → StillStands h (f h c)) (h : Hub) : StillStands h (forAll l f h) := by
  induction l generalizing h with
  | nil => exact refl h
  | cons c rest ih => exact (hf h c List.mem_cons_self).trans (ih (fun k d hd => hf k d (List.mem_cons_of_mem c hd)) (f h c))

variable (x : StillStands h k)
include x

theorem firstApplied : k.hinge.firstApplied = h.hinge.firstApplied := by
  have hfirst := congrArg Hinge.firstApplied x.hinge
  exact hfirst

theorem frd (f : Fld) (i : Nat) : k.frd f i = h.frd f i := by
  have hcfg := congrArg Hinge.cfg x.hinge
  rw [Hub.frd, show k.hinge.cfg = h.hinge.cfg from hcfg, Hub.frd]

theorem fMode (c : Nat) : k.fMode c = h.fMode c := x.frd _ _

theorem fIsOut (c : Nat) : k.fIsOut c = h.fIsOut c := by simp only [Hub.fIsOut, x.fMode]

theorem fSafeOn (c : Nat) : k.fSafeOn c = h.fSafeOn c := by simp only [Hub.fSafeOn, Hub.fLead, x.fMode, x.frd]

theorem latch : k.hinge.latch = h.hinge.latch := by
  have hlatch := congrArg Hinge.latch x.hinge
  exact hlatch

theorem fieldDecides : k.hinge.fieldDecides = h.hinge.fieldDecides := by
  have hdecides := congrArg Hinge.fieldDecides x.hinge
  exact hdecides

theorem clear10 : k.hinge.clear10 = h.hinge.clear10 := by
  have hclear := congrArg Hinge.clear10 x.hinge
  exact hclear

theorem relHeld : k.hinge.relHeld = h.hinge.relHeld := by
  have hheld := congrArg Hinge.relHeld x.hinge
  exact hheld

theorem fholdSince : k.hinge.fholdSince = h.hinge.fholdSince := by
  have hsince := congrArg Hinge.fholdSince x.hinge
  exact hsince

theorem fHidden (p c : Nat) : k.fHidden p c = h.fHidden p c := by rw [Hub.fHidden, x.dbt, Hub.fHidden]

end StillStands

theorem endWindows_outStands (h : Hub) (src : Nat) {c : Nat} : OutStands c h (h.endWindows src) := .of_moves (endWindows_moves h src)

theorem wakeFchb_outStands (h : Hub) {c : Nat} : OutStands c h h.wakeFchb := .of_moves (wakeFchb_moves h)

/-- What a channel at its safe state is driven to. -/
def Hub.safeLevel (h : Hub) (c : Nat) : Bool := h.hinge.firstApplied && h.fSafeOn c

/-- The hub once a channel has the hold of its safe state. -/
def Hub.safeHeld (h : Hub) (c : Nat) : Hub := h.modOut c (fun o => { o with fholdRun := false, atSafe := h.hinge.firstApplied })

/-- The hub once a channel that goes to its safe state in a loss is kept. -/
def Hub.safeKept (h : Hub) (c : Nat) : Hub :=
  if h.hinge.upF || !h.hinge.firstApplied then h.safeHeld c
  else { h.safeHeld c with hinge := { h.hinge with lossSafe := setBit h.hinge.lossSafe c } }

/-- A channel brought to its safe state. -/
def Hub.safeOne (h : Hub) (c : Nat) : Hub := ((h.safeKept c).endWindows c).setSwitch c (h.hinge.firstApplied && ((h.safeKept c).endWindows c).fSafeOn c)

theorem fieldSafe_eq (h : Hub) (chs : List Nat) : h.fieldSafe chs = forAll (chs.filter h.fIsOut) Hub.safeOne h := rfl

theorem safeKept_still (h : Hub) (c : Nat) : StillStands h (h.safeKept c) := by
  unfold Hub.safeKept
  split
  · exact ⟨rfl, rfl⟩
  · exact ⟨rfl, rfl⟩

theorem safeKept_outs (h : Hub) (c : Nat) : (h.safeKept c).outs = (h.safeHeld c).outs := by
  unfold Hub.safeKept
  split <;> rfl

theorem safeOne_still (h : Hub) (c : Nat) : StillStands h (h.safeOne c) :=
  (safeKept_still h c).trans (.of_outStands ((endWindows_outStands (c := c) _ c).trans (setSwitch_outStands _ c _ true)))

theorem safeOne_out_ne (h : Hub) {c d : Nat} (hd : d ≠ c) : (h.safeOne c).out d = h.out d := by
  have hswitch := ((endWindows_outStands (c := c) (h.safeKept c) c).trans (setSwitch_outStands _ c
    (h.hinge.firstApplied && ((h.safeKept c).endWindows c).fSafeOn c) true)).out d hd
  refine hswitch.trans ?_
  rw [Hub.out, safeKept_outs]
  exact Hub.out_modOut_ne hd

theorem safeOne_latched (h : Hub) {c : Nat} (hc : c < 16) : ((h.safeOne c).out c).latched = h.safeLevel c := by
  have hstands : StillStands h ((h.safeKept c).endWindows c) := (safeKept_still h c).trans (.of_outStands (endWindows_outStands (c := c) _ c))
  rw [Hub.safeOne, latched_setSwitch _ _ _ hc, hstands.fSafeOn]
  rfl

theorem safeOne_hold (h : Hub) {c : Nat} (hc : c < 16) : ((h.safeOne c).out c).hold = (false, (h.out c).fholdEnded, h.hinge.firstApplied) := by
  rw [Hub.safeOne, hold_setSwitch, Hub.out, (endWindows_moves _ _).keeps .outs, safeKept_outs]
  refine (congrArg OutCh.hold (Hub.out_modOut_self h c _ hc)).trans ?_
  rfl

/-- The field die brings its output channels to their safe states. -/
theorem fieldSafe_still (h : Hub) (chs : List Nat) : StillStands h (h.fieldSafe chs) := by
  rw [fieldSafe_eq]
  exact StillStands.forAll (fun k c _ => safeOne_still k c) h

theorem fieldSafe_channel (h : Hub) {chs : List Nat} {c : Nat} (hn : chs.Nodup) (hin : c ∈ chs) (hc : c < 16) (hout : h.fIsOut c = true) :
    (((h.fieldSafe chs).out c).latched, ((h.fieldSafe chs).out c).fholdRun) = (h.safeLevel c, false) := by
  rw [fieldSafe_eq]
  refine forAll_at (Q := fun k => StillStands h k) (D := fun k => ((k.out c).latched, (k.out c).fholdRun) = (h.safeLevel c, false))
    (List.mem_filter.mpr ⟨hin, hout⟩) (hn.filter _) (fun k d _ hk => hk.trans (safeOne_still k d)) (fun k hk => ?_) (fun k d hd hk => ?_)
    (StillStands.refl h)
  · have hlevel : k.safeLevel c = h.safeLevel c := by rw [Hub.safeLevel, hk.firstApplied, hk.fSafeOn, Hub.safeLevel]
    rw [safeOne_latched k hc, hlevel]
    have hrun := congrArg Prod.fst (safeOne_hold k hc)
    exact congrArg _ hrun
  · rw [safeOne_out_ne k (fun he => hd he.symm)]
    exact hk

/-! ### The FHOLD timers -/

/-- The hub with PD_FCHB awake where a channel of it holds. -/
def Hub.holdAwake (h : Hub) : Hub := if (List.range 8).any (fun i => (h.out (8 + i)).fholdRun) then h.wakeFchb else h

/-- A channel's FHOLD timer ends without effect. -/
def Hub.holdOff (h : Hub) (c : Nat) : Hub := h.modOut c (fun o => { o with fholdRun := false })

theorem fholdStop_eq (h : Hub) :
    h.fholdStop = forAll (List.range 16) Hub.holdOff { h.holdAwake with hinge := { h.holdAwake.hinge with fholdSince := none } } := rfl

theorem holdAwake_hinge (h : Hub) : h.holdAwake.hinge = h.hinge := by
  unfold Hub.holdAwake
  split
  · exact (wakeFchb_moves h).keeps .hinge
  · rfl

theorem fholdStop_hinge (h : Hub) : h.fholdStop.hinge = { h.hinge with fholdSince := none } := by
  rw [fholdStop_eq, forAll_kept_of (f := Hub.holdOff) (g := fun k : Hub => k.hinge) (fun _ _ _ => rfl), holdAwake_hinge]

/-- The hub once a channel's FHOLD timer has ended. -/
def Hub.holdEnded (h : Hub) (c : Nat) : Hub :=
  h.modOut c (fun o => { o with fholdRun := false, fholdEnded := true, atSafe := h.hinge.firstApplied })

/-- The hub once a channel whose timer has ended in a loss is kept. -/
def Hub.holdKept (h : Hub) (c : Nat) : Hub :=
  if h.hinge.firstApplied then { h.holdEnded c with
    hinge := { h.hinge with
      lossSafe := setBit h.hinge.lossSafe c
      lossEnded := setBit h.hinge.lossEnded c } }
  else h.holdEnded c

/-- The hub once a channel's FHOLD timer has ended, before its switch moves. -/
def Hub.holdOver (h : Hub) (c : Nat) : Hub := (if 8 ≤ c then (h.holdKept c).wakeFchb else h.holdKept c).endWindows c

theorem fholdEnd_eq (h : Hub) (c : Nat) : h.fholdEnd c = (h.holdOver c).setSwitch c (h.hinge.firstApplied && (h.holdOver c).fSafeOn c) := rfl

theorem holdKept_still (h : Hub) (c : Nat) : StillStands h (h.holdKept c) := by
  unfold Hub.holdKept
  split <;> exact ⟨rfl, rfl⟩

theorem holdOver_outStands (h : Hub) (c : Nat) : OutStands c (h.holdKept c) (h.holdOver c) :=
  (OutStands.ite (wakeFchb_outStands _) (.refl _)).trans (endWindows_outStands _ c)

theorem holdOver_outs (h : Hub) (c : Nat) : (h.holdOver c).outs = (h.holdEnded c).outs := by
  have hkept : (h.holdKept c).outs = (h.holdEnded c).outs := by
    unfold Hub.holdKept
    split <;> rfl
  rw [Hub.holdOver, (endWindows_moves _ _).keeps .outs]
  split
  · exact ((wakeFchb_moves _).keeps .outs).trans hkept
  · exact hkept

theorem fholdEnd_still (h : Hub) (c : Nat) : StillStands h (h.fholdEnd c) := by
  rw [fholdEnd_eq]
  exact (holdKept_still h c).trans (.of_outStands ((holdOver_outStands h c).trans (setSwitch_outStands _ c _ true)))

theorem fholdEnd_latched (h : Hub) {c : Nat} (hc : c < 16) : ((h.fholdEnd c).out c).latched = h.safeLevel c := by
  have hstands : StillStands h (h.holdOver c) := (holdKept_still h c).trans (.of_outStands (holdOver_outStands h c))
  rw [fholdEnd_eq, latched_setSwitch _ _ _ hc, hstands.fSafeOn]
  rfl

theorem fholdEnd_hold (h : Hub) {c : Nat} (hc : c < 16) : ((h.fholdEnd c).out c).hold = (false, true, h.hinge.firstApplied) := by
  rw [fholdEnd_eq, hold_setSwitch, Hub.out, holdOver_outs]
  exact congrArg OutCh.hold (Hub.out_modOut_self h c _ hc)

theorem fholdEnd_lossSafe (h : Hub) (c : Nat) (hfirst : h.hinge.firstApplied = true) : bitOf (h.fholdEnd c).hinge.lossSafe c = true := by
  have hloss := congrArg Hinge.lossSafe ((holdOver_outStands h c).trans (setSwitch_outStands (h.holdOver c) c
    (h.hinge.firstApplied && (h.holdOver c).fSafeOn c) true)).hinge
  have hkept : (h.holdKept c).hinge.lossSafe = setBit h.hinge.lossSafe c := by
    unfold Hub.holdKept
    rw [if_pos hfirst]
  have hend : (h.fholdEnd c).hinge.lossSafe = (h.holdKept c).hinge.lossSafe := hloss
  rw [hend, hkept]
  exact bitOf_setBit_self _ _

/-- The FHOLD timers start. -/
theorem fholdStart_still (h : Hub) : h.fholdStart.hinge.fholdSince.isSome = true ∧ h.fholdStart.hinge.latch = h.hinge.latch ∧
    h.fholdStart.hinge.fieldDecides = h.hinge.fieldDecides ∧ h.fholdStart.hinge.clear10 = h.hinge.clear10 := by
  unfold Hub.fholdStart
  split
  case isTrue hsome => exact ⟨hsome, rfl, rfl, rfl⟩
  case isFalse =>
    have hstep (k : Hub) (c : Nat) : StillStands k (if k.frd OUT_FHOLD_ms (k.fLead c) == 0 then k.fholdEnd c
        else k.modOut c (fun o => { o with fholdRun := true, fholdEnded := false })) := by
      split
      · exact fholdEnd_still k c
      · exact .of_outStands (modOut_outStands k c _)
    have hwoken (k : Hub) {q : Prop} [Decidable q] : StillStands k (if q then k.wakeFchb else k) :=
      .of_outStands (c := 0) (.ite (wakeFchb_outStands k) (.refl k))
    have hstands := fun (k : Hub) (l : List Nat) (q : Prop) [Decidable q] => (hwoken k (q := q)).trans (StillStands.forAll (l := l) (fun k c _ => hstep k c) _)
    obtain x := hstands { h with hinge := { h.hinge with fholdSince := some h.clk.now } } _
      ((Hub.fOuts { h with hinge := { h.hinge with fholdSince := some h.clk.now } }).any (fun c => decide (8 ≤ c)) = true)
    exact ⟨by rw [x.fholdSince]; rfl, x.latch, x.fieldDecides, x.clear10⟩

end Sys2Proof.Machine

/-!
PROOF. The bolt lines: the decisions of the field die and of Deadbolt DA (R142 to R146).
-/

namespace Sys2Proof.Machine

set_option Elab.async false

/-! ### BOLT on the field die -/

/-- The hub once the field die has decided BOLT or silence. -/
def Hub.boltTaken (h : Hub) (t : Tone) : Hub :=
  { h with hinge := { h.hinge with fieldDecides := t, clear10 := false, latch := true, relHeld := false } }

theorem decideBolt_eq (h : Hub) (t : Tone) : h.decideBolt t = (h.boltTaken t).fholdStop.fieldSafe (h.boltTaken t).fOuts := rfl

/-- What the field die's decision of BOLT leaves. -/
structure Bolted (h k : Hub) (t : Tone) : Prop where
  latch : k.hinge.latch = true
  decides : k.hinge.fieldDecides = t
  clear10 : k.hinge.clear10 = false
  relHeld : k.hinge.relHeld = false
  fholdSince : k.hinge.fholdSince = none
  dbt : k.dbt = h.dbt
  channels : ∀ c, c < 16 → h.fIsOut c = true → (k.out c).latched = h.safeLevel c ∧ (k.out c).fholdRun = false

theorem decideBolt_bolted (h : Hub) (t : Tone) : Bolted h (h.decideBolt t) t := by
  have hdbt : (h.boltTaken t).fholdStop.dbt = h.dbt := (fholdStop_moves (h.boltTaken t)).keeps .dbt
  have hhinge := fholdStop_hinge (h.boltTaken t)
  have hcfg : (h.boltTaken t).fholdStop.hinge.cfg = h.hinge.cfg := by rw [hhinge, Hub.boltTaken]
  have hfrd (f : Fld) (i : Nat) : (h.boltTaken t).fholdStop.frd f i = h.frd f i := by rw [Hub.frd, hcfg, Hub.frd]
  have hmode (c : Nat) : (h.boltTaken t).fholdStop.fMode c = h.fMode c := hfrd _ _
  have hlevel (c : Nat) : (h.boltTaken t).fholdStop.safeLevel c = h.safeLevel c := by
    simp only [Hub.safeLevel, Hub.fSafeOn, Hub.fLead, hmode, hfrd, hhinge]
    rfl
  have x := fieldSafe_still (h.boltTaken t).fholdStop (h.boltTaken t).fOuts
  rw [decideBolt_eq]
  refine ⟨x.latch.trans (by rw [hhinge]; rfl), x.fieldDecides.trans (by rw [hhinge]; rfl), x.clear10.trans (by rw [hhinge]; rfl),
    x.relHeld.trans (by rw [hhinge]; rfl), x.fholdSince.trans (by rw [hhinge]), x.dbt.trans hdbt, fun c hc hout => ?_⟩
  have hin : c ∈ (h.boltTaken t).fOuts := List.mem_filter.mpr ⟨List.mem_range.mpr hc, hout⟩
  have hisOut : (h.boltTaken t).fholdStop.fIsOut c = true := by
    rw [← hout]
    simp only [Hub.fIsOut, hmode]
  have hchannel := fieldSafe_channel (h.boltTaken t).fholdStop (List.nodup_range.filter _) hin hc hisOut
  rw [hlevel] at hchannel
  exact Prod.mk.inj hchannel

/-! ### The other tones -/

/-- The hub once the field die has decided HOLD. -/
def Hub.holdTaken (h : Hub) : Hub := { h with hinge := { h.hinge with fieldDecides := .hold, clear10 := false, relHeld := false } }

section
variable {h : Hub} (hup : h.sup.fieldUp = true)
include hup

theorem decideTone_bolt : h.decideTone .bolt = h.decideBolt .bolt := by
  unfold Hub.decideTone
  rw [hup]
  rfl

theorem decideTone_hold : h.decideTone .hold = h.holdTaken.fholdStart := by
  unfold Hub.decideTone
  rw [hup]
  rfl

theorem decideTone_clear : h.decideTone .clear = if h.hinge.fieldDecides == .clear then h
    else { h with hinge := { h.hinge with fieldDecides := .clear, clear10 := false } } := by
  unfold Hub.decideTone
  rw [hup]
  rfl

end

/-! ### BOLT_REL -/

theorem sendBoltRel_hinge (h : Hub) : h.sendBoltRel.hinge = { h.hinge with
    relRepeat := true
    txL := enq h.hinge.txL { typ := 0x32, payload := 0, prio := 1 } } := by
  unfold Hub.sendBoltRel Hub.sendL
  rw [if_pos (by simp)]

theorem sendBoltRel_outs (h : Hub) : h.sendBoltRel.outs = h.outs := by
  unfold Hub.sendBoltRel
  exact (sendL_moves _ _).keeps .outs

/-! ### The intervals -/

/-- Four intervals cannot be near both tones. -/
theorem lastNear_exclusive {ivs : List Nat} (hhold : lastNear 4 250 ivs = true) : lastNear 4 125 ivs = false := by
  rw [lastNear, Bool.and_eq_true, decide_eq_true_eq] at hhold
  obtain ⟨hlen, hall⟩ := hhold
  rw [Bool.eq_false_iff]
  intro hclear
  rw [lastNear, Bool.and_eq_true] at hclear
  obtain ⟨x, rest, rfl⟩ : ∃ x rest, ivs = x :: rest := List.exists_cons_of_ne_nil (by rintro rfl; simp at hlen)
  have hnear := List.all_eq_true.mp hall x (by simp)
  have hfar := List.all_eq_true.mp hclear.2 x (by simp)
  simp only [nearTone, Bool.and_eq_true, decide_eq_true_eq] at hnear hfar
  omega

/-! ### A decision of Deadbolt DA -/

/-- The hub with DA's decision. -/
def Hub.daTaken (h : Hub) (t : Tone) : Hub := { h with hinge := { h.hinge with daDecides := t } }

/-- The hub once DA's decision has made BOLT_FIELD's cause, or ended it. -/
def Hub.daCaused (h : Hub) (t : Tone) : Hub := if t == .bolt then h.raise 16 16 1 detailOpen else h.lower 16 16

/-- The hub once DA shows its decision. -/
def Hub.daShown (h : Hub) (t : Tone) : Hub := ((h.daTaken t).daCaused t).put DBT_STAT_db_forced (t == .bolt)

theorem daDecide_eq {h : Hub} {t : Tone} (hl : h.logicRuns = true) : h.daDecide t =
    if t == .hold && (h.daShown t).hinge.porSeen then
      Hub.history { h.daShown t with hinge := { (h.daShown t).hinge with porSeen := false } } 0x0B 0xF
    else h.daShown t := by
  unfold Hub.daDecide
  rw [hl]
  rfl

theorem daShown_decides (h : Hub) (t : Tone) : (h.daShown t).hinge.daDecides = t := by
  have hcaused : FieldStands (h.daTaken t) ((h.daTaken t).daCaused t) := .ite (fieldStands_closed.raise _ _ _ _ _) (fieldStands_closed.lower _ _ _)
  have hdecides := congrArg Hinge.daDecides hcaused.hinge
  exact hdecides

theorem daShown_caused {h : Hub} {t : Tone} (hh : h.proofHides 16 16 = false) : caused (h.daShown t) 16 16 = (t == .bolt) := by
  have hput : caused (h.daShown t) 16 16 = caused ((h.daTaken t).daCaused t) 16 16 := rfl
  rw [hput, Hub.daCaused]
  split
  case isTrue hbolt => exact (caused_raise_self (h := h.daTaken t) 1 detailOpen (by decide) hh).trans hbolt.symm
  case isFalse hother => exact (caused_lower (by decide) 16 16).trans (by simpa using hother)

/-- What DA's decision leaves. -/
theorem daDecide_leaves {h : Hub} (t : Tone) (hl : h.logicRuns = true) :
    (h.daDecide t).hinge.daDecides = t ∧ (h.daDecide t).flag DBT_STAT_db_forced = (t == .bolt) ∧
      (h.proofHides 16 16 = false → caused (h.daDecide t) 16 16 = (t == .bolt)) ∧ (t = .hold → (h.daDecide t).hinge.porSeen = false) := by
  have hflag : (h.daShown t).flag DBT_STAT_db_forced = (t == .bolt) := Hub.flag_put_self _ _ _ _ _ rfl
  rw [daDecide_eq hl]
  split
  case isTrue => exact ⟨daShown_decides h t, hflag, daShown_caused, fun _ => rfl⟩
  case isFalse hno =>
    refine ⟨daShown_decides h t, hflag, daShown_caused, fun hhold => ?_⟩
    simpa [hhold] using hno

/-! ### The commands -/

/-- Settles O9, by what BOLT leaves of the field die's channels, and by DA's decisions. -/
theorem boltCommands : Obligations.BoltCommands := by
  unfold Obligations.BoltCommands
  refine ⟨?release, ?expire, ?again, ?send, ?decision, ?codeLogic, ?codeField, ?clear, ?tone, ?daTone, ?hold, ?noHold⟩
  case release =>
    intro s hc
    have hlanded := land_moves s.hub.begun true 0x32 0
    have hdecides := congrArg Hinge.fieldDecides (land_landed s.hub.begun true 0x32 0)
    have hclear := congrArg Hinge.clear10 (land_landed s.hub.begun true 0x32 0)
    have hlatch := congrArg Hinge.latch (land_landed s.hub.begun true 0x32 0)
    refine completes_of_begun (exec_boltRel s) ?_
    have hup : (!(s.hub.begun.land true 0x32 0).sup.fieldUp) = false := by
      rw [hlanded.keeps .sup, show s.hub.begun.sup.fieldUp = true from hc]
      rfl
    rw [Hub.recvBoltRel, hup, if_neg Bool.false_ne_true, show (s.hub.begun.land true 0x32 0).hinge.fieldDecides = s.hub.hinge.fieldDecides from hdecides,
      show (s.hub.begun.land true 0x32 0).hinge.clear10 = s.hub.hinge.clear10 from hclear]
    split
    case isTrue => exact ⟨⟨rfl, rfl⟩, hlanded.keeps .outs⟩
    case isFalse => exact ⟨⟨hlatch, rfl⟩, hlanded.keeps .outs⟩
  case expire =>
    intro s
    exact completes_of_begun (exec_boltRelExpire s) ⟨rfl, rfl, rfl⟩
  case again =>
    intro s hc
    have hrep : (!s.hub.begun.hinge.relRepeat) = false := by
      rw [show s.hub.begun.hinge.relRepeat = true from hc]
      rfl
    have hlatched : s.hub.flag HNG_BOLT_field_latched = s.hub.begun.flag HNG_BOLT_field_latched := rfl
    refine completes_of_begun (exec_boltRelRepeat s) ?_
    rw [hrep, if_neg Bool.false_ne_true, hlatched]
    split
    case isTrue hon => exact ⟨by rw [sendBoltRel_hinge, hon], by rw [sendBoltRel_hinge]; rfl, sendBoltRel_outs _⟩
    case isFalse hoff => exact ⟨(Eq.mp (Bool.not_eq_true _) hoff).symm, rfl, rfl⟩
  case send =>
    intro s hc
    rw [Can.boltRelSend, Bool.and_eq_true, decide_eq_true_eq] at hc
    obtain ⟨hwaited, hdue⟩ := hc
    refine completes_of_begun (exec_boltRelSend s) ?_
    rw [if_neg (Nat.not_lt.mpr (show s.hub.begun.hinge.toneAt + 10 * Config.ticksPerUs ≤ s.hub.begun.clk.now from hwaited))]
    by_cases hexit : s.hub.dev.exitStep = 1
    · rw [if_pos (show (s.hub.begun.dev.exitStep == 1) = true from beq_iff_eq.mpr hexit), if_pos hexit, sendBoltRel_hinge]
      refine ⟨?_, rfl, rfl, rfl⟩
      unfold Hub.sendBoltRel
      rw [(sendL_moves _ _).keeps .dev]
    · have hnot : ¬ (s.hub.begun.dev.exitStep == 1) = true := fun he => hexit (beq_iff_eq.mp he)
      rw [Bool.or_eq_true] at hdue
      have hrel : (s.hub.begun.hinge.relDue && s.hub.begun.dev.exitStep == 0 && !s.hub.begun.dev.safe) = true := hdue.resolve_left hnot
      rw [if_neg hnot, if_pos hrel, if_neg hexit, sendBoltRel_hinge]
      refine ⟨?_, rfl, rfl, rfl⟩
      unfold Hub.sendBoltRel
      rw [(sendL_moves _ _).keeps .dev]
      rfl
  case decision =>
    intro s ivs gap hc
    have hup : s.hub.begun.sup.fieldUp = true := hc
    refine completes_of_begun (exec_boltDecision ⟨ivs, gap⟩ s) ?_
    dsimp only
    by_cases hgap : 400 ≤ gap.toNat
    · have x := decideBolt_bolted s.hub.begun .bolt
      rw [fieldTone, if_pos hgap]
      dsimp only
      rw [decideTone_bolt hup]
      exact ⟨fun _ => ⟨x.latch, x.decides, x.clear10, x.relHeld, x.fholdSince, fun c => x.channels c c.isLt⟩, fun hlt => absurd hgap (Nat.not_le.mpr hlt),
        fun hlt => absurd hgap (Nat.not_le.mpr hlt), fun hlt => absurd hgap (Nat.not_le.mpr hlt)⟩
    · rw [fieldTone, if_neg hgap, quickTone]
      refine ⟨fun hle => absurd hle hgap, fun _ hclear => ?_, fun _ hhold => ?_, fun _ hclear hhold => ?_⟩
      · rw [if_pos hclear]
        dsimp only
        rw [decideTone_clear hup]
        split
        case isTrue hsame => exact ⟨beq_iff_eq.mp hsame, rfl, rfl⟩
        case isFalse => exact ⟨rfl, rfl, rfl⟩
      · rw [lastNear_exclusive hhold, if_neg Bool.false_ne_true, if_pos hhold]
        dsimp only
        rw [decideTone_hold hup]
        obtain ⟨hsince, hlatch, hdecides, hclear⟩ := fholdStart_still s.hub.begun.holdTaken
        exact ⟨hdecides, hclear, hsince, hlatch⟩
      · rw [hclear, hhold]
        exact ⟨rfl, rfl⟩
  case codeLogic =>
    intro s field hc
    rw [Can.boltCode, Bool.and_eq_true, Bool.not_eq_true'] at hc
    obtain ⟨hfield, hruns⟩ := hc
    have hreact := (fieldStands_closed.event (s.hub.begun.count HNG_BOLT_code_errors) 15 1 detailOpen).hinge
    have hlatch := congrArg Hinge.latch hreact
    refine completes_of_begun (exec_boltCode field s) ?_
    rw [hfield, if_neg Bool.false_ne_true, if_pos (show s.hub.begun.logicRuns = true from hruns)]
    have hcounted := (Moves.refl ⟨[], [HNG_BOLT_code_errors], []⟩ s.hub.begun).count HNG_BOLT_code_errors 1 0 0 Nat.one_pos
    refine ⟨?_, hlatch, fun hen hh hp hg => fltSet_event 1 detailOpen (by decide) ?_ hh (by rw [hcounted.testGroup]; exact hg) ?_⟩
    · rw [(event_moves _ _ _ _).rd HNG_BOLT_code_errors 0 0 Nat.one_pos]
      exact Hub.rd_count_satInc _ _ _ _
    · rw [Hub.fltEnabled, hcounted.flag (FLT_EN_en 15) 0 0 Nat.one_pos]
      exact hen
    · exact fun hr => absurd (hp.symm.trans hr) (by decide)
  case codeField =>
    intro s field hc
    rw [Can.boltCode2, Bool.and_eq_true] at hc
    obtain ⟨hfield, hup⟩ := hc
    have x := decideBolt_bolted s.hub.begun .bolt
    have hstands := (fieldEvent_fieldStands (s.hub.begun.decideBolt .bolt) 24 0 0)
    have hlatch := congrArg Hinge.latch hstands.hinge
    have hdecides := congrArg Hinge.fieldDecides hstands.hinge
    have hsince := congrArg Hinge.fholdSince hstands.hinge
    refine completes_of_begun (exec_boltCode field s) ?_
    rw [if_pos hfield, if_pos (show s.hub.begun.sup.fieldUp = true from hup)]
    refine ⟨hlatch.trans x.latch, hdecides.trans x.decides, hsince.trans x.fholdSince, fun hh => fieldEvent_sticky _ _ ?_, fun c hout => ?_⟩
    · rw [Hub.fHidden, x.dbt]
      exact hh
    · have hchannel := congrArg OutCh.latched (hstands.out c)
      exact hchannel.trans (x.channels c c.isLt hout).1
  case clear =>
    intro s hc
    refine completes_of_begun (exec_boltLatchClear s) ?_
    rw [if_pos (show (s.hub.begun.hinge.fieldDecides == .clear) = true from hc)]
    dsimp only
    split
    case isTrue hheld =>
      refine ⟨rfl, ?_, rfl, rfl⟩
      rw [show s.hub.hinge.relHeld = true from hheld, Bool.not_true, Bool.and_false]
      rfl
    case isFalse hnot =>
      have hoff : s.hub.hinge.relHeld = false := Eq.mp (Bool.not_eq_true _) hnot
      refine ⟨rfl, ?_, hoff, rfl⟩
      rw [hoff, Bool.not_false, Bool.and_true]
      rfl
  case tone =>
    intro s
    exact completes_of_begun (exec_boltToneChange s) ⟨rfl, rfl, rfl, rfl⟩
  case daTone =>
    intro s ivs gap hc
    refine completes_of_begun (exec_fieldToneDecision ⟨ivs, gap⟩ s) ?_
    dsimp only
    cases hdecides : Machine.daTone (ivs.map BitVec.toNat) gap.toNat with
    | none => exact ⟨fun t ht => absurd ht (by simp), fun _ => ⟨rfl, rfl⟩⟩
    | some t =>
      refine ⟨fun u hu => ?_, fun hn => absurd hn (by simp)⟩
      obtain rfl : t = u := Option.some.inj (Option.mem_def.mp hu)
      exact daDecide_leaves (h := s.hub.begun) t hc
  case hold =>
    intro s c ms hc
    have hhold := fholdEnd_hold s.hub.begun c.isLt
    obtain ⟨hrun, hended, hsafe⟩ := Prod.mk.inj hhold |>.imp_right Prod.mk.inj
    refine completes_of_begun (exec_fholdExpiry ⟨c, ms⟩ s) ?_
    dsimp only
    rw [if_pos (show ((s.hub.begun.out c).fholdRun && s.hub.begun.frd OUT_FHOLD_ms (s.hub.begun.fLead c) != 65535 &&
      decide (s.hub.begun.frd OUT_FHOLD_ms (s.hub.begun.fLead c) ≤ ms.toNat)) = true from hc)]
    exact ⟨hrun, hended, hsafe, fholdEnd_latched s.hub.begun c.isLt, fholdEnd_lossSafe s.hub.begun c⟩
  case noHold =>
    intro s c ms hc
    have hno : ¬ ((s.hub.begun.out c).fholdRun && s.hub.begun.frd OUT_FHOLD_ms (s.hub.begun.fLead c) != 65535 &&
        s.hub.begun.frd OUT_FHOLD_ms (s.hub.begun.fLead c) ≤ ms.toNat) = true := by
      intro hall
      simp only [Bool.and_eq_true, bne_iff_ne, decide_eq_true_eq] at hall
      obtain ⟨⟨hrun, hno⟩, hle⟩ := hall
      simp only [Can.fholdExpiry2, Bool.or_eq_true, Bool.not_eq_true', beq_iff_eq, decide_eq_true_eq] at hc
      rcases hc with (hstopped | hnever) | hearly
      · exact absurd (hstopped.symm.trans hrun) Bool.false_ne_true
      · exact hno hnever
      · exact absurd hle (Nat.not_le.mpr hearly)
    refine completes_of_begun (exec_fholdExpiry ⟨c, ms⟩ s) ?_
    dsimp only
    rw [if_neg hno]
    exact ⟨rfl, rfl⟩

end Sys2Proof.Machine

/-!
PROOF. What each step of an input channel leaves of the channel itself (chapter 08).
-/

namespace Sys2Proof.Machine

set_option Elab.async false

/-! ### What an entry leaves -/

/-- An input channel but for its FIFO, its buffer, and what an overflow marks. -/
def InCh.rest (i : InCh) : InCh := { i with
  fifo := []
  buffer := []
  bufferLost := 0
  gapNext := false
  flt := setBit i.flt 3 }

/-- An input channel but for its FIFO and what the acceptance of a level changes. -/
def InCh.settled (i : InCh) : InCh := { i.rest with
  deb := false
  cand := none
  edges := 0
  valid := false
  frozen := none }

theorem setBit_setBit (v i : Nat) : setBit (setBit v i) i = setBit v i := by rw [setBit, setBit, Nat.or_assoc, Nat.or_self]

theorem flt_of_rest {i j : InCh} (hr : i.rest = j.rest) {b : Nat} (hb : b ≠ 3) : bitOf i.flt b = bitOf j.flt b := by
  have hflt := congrArg (fun x : InCh => bitOf x.flt b) hr
  have hset : bitOf (setBit i.flt 3) b = bitOf (setBit j.flt 3) b := hflt
  rw [bitOf_setBit_ne _ hb, bitOf_setBit_ne _ hb] at hset
  exact hset

theorem settled_of_rest {i j : InCh} (hr : i.rest = j.rest) : i.settled = j.settled := by rw [InCh.settled, hr, InCh.settled]

theorem inp_of_moves {F : Foot} {h k : Hub} (x : Moves F h k) (c : Nat) (hF : F.parts.contains .ins = false := by decide) : k.inp c = h.inp c := by
  rw [Hub.inp, x.keeps .ins hF]
  rfl

theorem syncIn_inp (h : Hub) (c d : Nat) : (h.syncIn c).inp d = h.inp d := inp_of_moves (syncIn_moves h c) d

theorem inSet_inp {h : Hub} {c b : Nat} (present : Bool) (hc : c < 16) (hh : h.fHidden (inPos b) c = false) : (h.inSet c b present).inp c =
    { h.inp c with flt := setBit (h.inp c).flt b, live := if present then setBit (h.inp c).live b else (h.inp c).live } := by
  have hrise (k : Hub) {q : Prop} [Decidable q] : (if q then k.fieldRise (inPos b) (2 ^ c) 0 else k).inp c = k.inp c := by
    split
    · exact inp_of_moves (fieldRise_moves _ _ _ _) c
    · rfl
  unfold Hub.inSet
  rw [hh, if_neg Bool.false_ne_true]
  exact (hrise _).trans (Hub.inp_modIn_self _ _ _ hc)

section
variable {c : Nat} (hc : c < 16) (h : Hub)
include hc

theorem lostEntries_rest (n : Nat) : ((h.lostEntries c n).inp c).rest = (h.inp c).rest := by
  unfold Hub.lostEntries
  split
  · rfl
  · rw [Hub.inp_modIn_self _ _ _ hc]
    rfl

theorem lostEntries_fifo (n : Nat) : ((h.lostEntries c n).inp c).fifo = (h.inp c).fifo := by
  unfold Hub.lostEntries
  split
  · rfl
  · rw [Hub.inp_modIn_self _ _ _ hc]
    rfl

theorem overflowed_rest : ((h.overflowed c).inp c).rest = (h.inp c).rest := by
  have hset : (((h.modIn c (fun i => { i with flt := setBit i.flt 3 })).put IN_FLT_overflow true c).inp c).rest = (h.inp c).rest := by
    refine (congrArg InCh.rest (Hub.inp_modIn_self h c (fun i => { i with flt := setBit i.flt 3 }) hc)).trans ?_
    exact congrArg (fun v => { (h.inp c).rest with flt := v }) (setBit_setBit _ 3)
  unfold Hub.overflowed
  dsimp only
  split
  · exact hset
  · rw [inp_of_moves (occur_moves _ _ _ _ _ _)]
    exact hset

theorem fifoStore_rest (e : InEntry) : ((h.fifoStore c e).inp c).rest = (h.inp c).rest := by
  unfold Hub.fifoStore
  dsimp only
  split
  · rw [inp_of_moves (intOwner_moves _ _ _), Hub.inp_modIn_self _ _ _ hc]
    rfl
  · rw [overflowed_rest hc, lostEntries_rest hc]

theorem sendEntry_rest (e : InEntry) : ((h.sendEntry c e).inp c).rest = (h.inp c).rest := by
  unfold Hub.sendEntry
  dsimp only
  rw [fifoStore_rest hc, lostEntries_rest hc, Hub.inp_modIn_self _ _ _ hc]
  rfl

theorem entry_rest (e : InEntry) : ((h.entry c e).inp c).rest = (h.inp c).rest := by
  have hlost : ((h.modIn c (fun i => { i with bufferLost := i.bufferLost + 1, flt := setBit i.flt 3 })).inp c).rest = (h.inp c).rest := by
    rw [Hub.inp_modIn_self _ _ _ hc]
    exact congrArg (fun v => { (h.inp c).rest with flt := v }) (setBit_setBit _ 3)
  unfold Hub.entry
  split
  · exact sendEntry_rest hc h e
  · split
    · rw [Hub.inp_modIn_self _ _ _ hc]
      rfl
    · dsimp only
      split
      · rw [inp_of_moves (fieldEvent_moves _ _ _ _)]
        exact hlost
      · exact hlost

/-- An entry is stored in the FIFO while the link is up. -/
theorem entry_fifo (e : InEntry) (hup : (h.hinge.upF && h.hinge.upL && !h.flag HNG_STAT_rejoin) = true) (hroom : (h.inp c).fifo.length < 32) :
    ∃ g, ((h.entry c e).inp c).fifo = (h.inp c).fifo ++ [{ e with gap := g }] := by
  have hkept : (((h.modIn c (fun i => { i with bufferLost := 0 })).lostEntries c (h.inp c).bufferLost).inp c).fifo = (h.inp c).fifo := by
    rw [lostEntries_fifo hc, Hub.inp_modIn_self _ _ _ hc]
  unfold Hub.entry
  rw [if_pos hup, Hub.sendEntry, Hub.fifoStore]
  dsimp only
  rw [hkept, if_pos hroom, inp_of_moves (intOwner_moves _ _ _), Hub.inp_modIn_self _ _ _ hc]
  exact ⟨_, congrArg (· ++ _) hkept⟩

/-- An entry is kept in the field die's buffer while the link is lost. -/
theorem entry_buffer (e : InEntry) (hlost : (h.hinge.upF && h.hinge.upL && !h.flag HNG_STAT_rejoin) = false)
    (hroom : (h.inp c).buffer.length < 32) : ((h.entry c e).inp c).buffer = (h.inp c).buffer ++ [e] := by
  unfold Hub.entry
  rw [hlost, if_neg Bool.false_ne_true, if_pos hroom, Hub.inp_modIn_self _ _ _ hc]

theorem forcing_rest (f : Hub → Hub) : ((h.forcing c f).inp c).rest = ((f h).inp c).rest := by
  unfold Hub.forcing
  dsimp only
  rw [syncIn_inp]
  split
  · exact entry_rest hc _ _
  · rfl

theorem inEnd_inp (b : Nat) : (h.inEnd c b).inp c = { h.inp c with live := clrBit (h.inp c).live b } := by
  unfold Hub.inEnd
  rw [inp_of_moves (fieldFall_moves _ _ _), Hub.inp_modIn_self _ _ _ hc]

/-- A condition that is found. -/
theorem forcing_inSet {b : Nat} (hb : b ≠ 3) (hh : h.fHidden (inPos b) c = false) :
    ((h.forcing c (fun h => h.inSet c b)).inp c).rest = { (h.inp c).rest with flt := setBit (setBit (h.inp c).flt b) 3, live := setBit (h.inp c).live b } ∧
      bitOf ((h.forcing c (fun h => h.inSet c b)).inp c).flt b = true ∧ bitOf ((h.forcing c (fun h => h.inSet c b)).inp c).live b = true := by
  have hrest : ((h.forcing c (fun h => h.inSet c b)).inp c).rest =
      { (h.inp c).rest with flt := setBit (setBit (h.inp c).flt b) 3, live := setBit (h.inp c).live b } := by
    rw [forcing_rest hc, inSet_inp true hc hh]
    rfl
  have hset := inSet_inp true hc hh
  have hlive := congrArg InCh.live hrest
  refine ⟨hrest, ?_, ?_⟩
  · rw [flt_of_rest (forcing_rest hc h (fun h => h.inSet c b)) hb, hset]
    exact bitOf_setBit_self _ _
  · rw [show ((h.forcing c (fun h => h.inSet c b)).inp c).live = setBit (h.inp c).live b from hlive]
    exact bitOf_setBit_self _ _

/-! ### The acceptance of a level -/

/-- The hub as an accepted level is taken. -/
def Hub.edgeTaken (h : Hub) (c : Nat) : Hub :=
  (h.modIn c (fun i => { i with deb := i.raw, cand := none, edges := (i.edges + 1) % 2 ^ 32 })).modAcc c
    (fun a => { a with edges := satInc (2 ^ 40 - 1) a.edges })

omit hc in
theorem acceptEdge_eq (stamp : Nat) (unc : Bool) : h.acceptEdge c stamp unc =
    ((h.edgeTaken c).entry c { stamp := stamp, dir := ((h.edgeTaken c).inp c).deb, uncertain := unc }).syncIn c := rfl

theorem edgeTaken_inp : (h.edgeTaken c).inp c = { h.inp c with deb := (h.inp c).raw, cand := none, edges := ((h.inp c).edges + 1) % 2 ^ 32 } :=
  Hub.inp_modIn_self h c (fun i => { i with deb := i.raw, cand := none, edges := (i.edges + 1) % 2 ^ 32 }) hc

theorem acceptEdge_rest (stamp : Nat) (unc : Bool) : ((h.acceptEdge c stamp unc).inp c).rest =
    { (h.inp c).rest with deb := (h.inp c).raw, cand := none, edges := ((h.inp c).edges + 1) % 2 ^ 32 } := by
  rw [acceptEdge_eq, syncIn_inp, entry_rest hc, edgeTaken_inp hc]
  rfl

theorem firstState_rest : ((h.firstState c).inp c).rest =
    { (h.inp c).rest with valid := true, deb := (h.inp c).raw, cand := none, frozen := none } := by
  have htaken : ((h.modIn c (fun i => { i with valid := true, deb := i.raw, cand := none, frozen := none })).inp c).rest =
      { (h.inp c).rest with valid := true, deb := (h.inp c).raw, cand := none, frozen := none } := by
    rw [Hub.inp_modIn_self _ _ _ hc]
    rfl
  unfold Hub.firstState
  dsimp only
  rw [syncIn_inp]
  split
  · exact htaken
  · split
    · exact htaken
    · rw [entry_rest hc]
      exact htaken

theorem debounced_settled : ((h.debounced c).inp c).settled = (h.inp c).settled := by
  unfold Hub.debounced
  dsimp only
  split
  · rfl
  · split
    · have hfirst := congrArg (fun i : InCh => { i with deb := false, cand := none, edges := 0, valid := false, frozen := none }) (firstState_rest hc h)
      exact hfirst
    · split
      · rfl
      · have haccept (st : Nat) (unc : Bool) := congrArg (fun i : InCh => { i with deb := false, cand := none, edges := 0, valid := false, frozen := none })
          (acceptEdge_rest hc h st unc)
        exact haccept _ _

theorem resolve_settled : ((h.resolve c).inp c).settled = (h.inp c).settled := by
  unfold Hub.resolve
  split
  · rw [syncIn_inp]
  · split
    · exact debounced_settled hc h
    · rw [syncIn_inp]

end

theorem flt_of_settled {i j : InCh} (hs : i.settled = j.settled) {b : Nat} (hb : b ≠ 3) : bitOf i.flt b = bitOf j.flt b := by
  have hflt := congrArg (fun x : InCh => bitOf x.flt b) hs
  have hset : bitOf (setBit i.flt 3) b = bitOf (setBit j.flt 3) b := hflt
  rw [bitOf_setBit_ne _ hb, bitOf_setBit_ne _ hb] at hset
  exact hset

theorem live_of_settled {i j : InCh} (hs : i.settled = j.settled) : i.live = j.live := by
  have hlive := congrArg InCh.live hs
  exact hlive

/-- No proof hides the field positions of an input's wire break, late test pulse or crossing. -/
theorem fHidden_inputs (h : Hub) {p : Nat} (c : Nat) (hp : p = 12 ∨ p = 14 ∨ p = 15) : h.fHidden p c = false := by
  unfold Hub.fHidden
  split
  · rfl
  · split <;> simp only [beq_eq_false_iff_ne, Bool.and_eq_false_iff, Bool.or_eq_false_iff] <;> omega

end Sys2Proof.Machine

/-!
PROOF. What the commands of the input channels leave (chapter 08).
-/

namespace Sys2Proof.Machine

set_option Elab.async false

/-! ### A crossing -/

/-- The hub with the raw level of an input. -/
def Hub.rawTaken (h : Hub) (c : Nat) (on : Bool) : Hub := h.modIn c (fun i => { i with raw := on })

/-- An input within its own or a foreign window as the raw level changes. -/
def InCh.seen (i : InCh) (on : Bool) (stamp now : Nat) (unc : Bool) : InCh := { i with
  own := i.own.map (fun w => w.see i.deb on stamp now unc)
  foreign := i.foreign.map (fun w => w.see i.deb on stamp now unc) }

/-- The hub with an input's windows as the raw level changes. -/
def Hub.seen (h : Hub) (c : Nat) (on : Bool) : Hub := h.modIn c (fun i => i.seen on h.crossStamp h.clk.now h.stampUncertain)

/-- The candidate of an input outside windows as the raw level changes. -/
def InCh.crossed (i : InCh) (on : Bool) (stamp now : Nat) : Option (Nat × Nat) :=
  if i.valid = false then some (stamp, now) else if on = i.deb then none else some (i.cand.getD (stamp, now))

section
variable {h : Hub} {c : Nat} {on : Bool} (hc : c < 16)
include hc

theorem rawTaken_inp : (h.rawTaken c on).inp c = { h.inp c with raw := on } := Hub.inp_modIn_self h c (fun i => { i with raw := on }) hc

theorem rawTaken_sensed : (h.rawTaken c on).inSensed c = h.inSensed c := by
  unfold Hub.inSensed
  rw [rawTaken_inp hc]
  rfl

theorem crossing_unsensed (hs : h.inSensed c = false) : h.crossing c on = h.rawTaken c on := by
  have hs' := (rawTaken_sensed (h := h) (on := on) hc).trans hs
  unfold Hub.crossing
  dsimp only
  exact if_pos (by rw [Bool.not_eq_true']; exact hs')

/-- A crossing outside windows. -/
theorem crossing_outside (hs : h.inSensed c = true) (hw : ((h.inp c).own.isSome || (h.inp c).foreign.isSome) = false) :
    ∃ u, (h.crossing c on).inp c = { h.inp c with raw := on, cand := (h.inp c).crossed on h.crossStamp h.clk.now, candUncertain := u } := by
  have hs' : (!(h.rawTaken c on).inSensed c) = false := by
    rw [rawTaken_sensed hc, hs]
    rfl
  have hinp := rawTaken_inp (h := h) (on := on) hc
  have hw' : ((((h.rawTaken c on).inp c).own.isSome || ((h.rawTaken c on).inp c).foreign.isSome)) = false := by
    rw [hinp]
    exact hw
  have hvalid : ((h.rawTaken c on).inp c).valid = (h.inp c).valid := by rw [hinp]
  have hdeb : ((h.rawTaken c on).inp c).deb = (h.inp c).deb := by rw [hinp]
  unfold Hub.crossing
  dsimp only
  rw [← Hub.rawTaken, hs', if_neg Bool.false_ne_true, hw', if_neg Bool.false_ne_true, syncIn_inp, hvalid, hdeb]
  by_cases hv : (h.inp c).valid = false
  · have hcross : (h.inp c).crossed on h.crossStamp h.clk.now = some (h.crossStamp, h.clk.now) := if_pos hv
    rw [if_pos (by rw [hv]; rfl), Hub.inp_modIn_self _ _ _ hc, hinp, hcross]
    exact ⟨(h.rawTaken c on).stampUncertain, rfl⟩
  · rw [if_neg (by simpa using hv)]
    by_cases hback : on = (h.inp c).deb
    · have hcross : (h.inp c).crossed on h.crossStamp h.clk.now = none := (if_neg hv).trans (if_pos hback)
      rw [if_pos (beq_iff_eq.mpr hback), Hub.inp_modIn_self _ _ _ hc, hinp, hcross]
      exact ⟨(h.inp c).candUncertain, rfl⟩
    · have hcross : (h.inp c).crossed on h.crossStamp h.clk.now = some ((h.inp c).cand.getD (h.crossStamp, h.clk.now)) :=
        (if_neg hv).trans (if_neg hback)
      rw [if_neg (by simpa using hback), Hub.inp_modIn_self _ _ _ hc, hinp, hcross]
      refine ⟨if (h.inp c).cand.isSome then (h.inp c).candUncertain else (h.rawTaken c on).stampUncertain, ?_⟩
      cases (h.inp c).cand <;> rfl

/-- A crossing within a window. -/
theorem crossing_inside (hs : h.inSensed c = true) (hw : ((h.inp c).own.isSome || (h.inp c).foreign.isSome) = true) :
    h.crossing c on = (if (h.inp c).foreign.isSome && !on then ((h.rawTaken c on).seen c on).forcing c (fun h => h.inSet c 4)
      else (h.rawTaken c on).seen c on).syncIn c := by
  have hs' : (!(h.rawTaken c on).inSensed c) = false := by
    rw [rawTaken_sensed hc, hs]
    rfl
  have hinp := rawTaken_inp (h := h) (on := on) hc
  have hforeign : ((h.rawTaken c on).inp c).foreign = (h.inp c).foreign := by rw [hinp]
  have hown : ((h.rawTaken c on).inp c).own = (h.inp c).own := by rw [hinp]
  unfold Hub.crossing
  dsimp only
  rw [← Hub.rawTaken, hs', if_neg Bool.false_ne_true, hown, hforeign, if_pos hw]
  rfl

theorem seen_inp : ((h.rawTaken c on).seen c on).inp c = { (h.inp c).seen on h.crossStamp h.clk.now h.stampUncertain with raw := on } := by
  have hself := Hub.inp_modIn_self (h.rawTaken c on) c (fun i => i.seen on h.crossStamp h.clk.now h.stampUncertain) hc
  rw [rawTaken_inp hc] at hself
  exact hself

end

/-! ### The end of a window -/

theorem windowEnd_parts (i : InCh) (w : Window) (now : Nat) : (i.windowEnd w now).wbTill = now + 100 * Config.ticksPerUs ∧
    (i.windowEnd w now).live = i.live ∧ (i.windowEnd w now).flt = i.flt := by
  unfold InCh.windowEnd
  dsimp only
  split
  · exact ⟨rfl, rfl, rfl⟩
  · split <;> exact ⟨rfl, rfl, rfl⟩

/-- The hub with an input's own window ended. -/
def Hub.ownOver (h : Hub) (c : Nat) (w : Window) : Hub := h.modIn c (fun i => { (i.windowEnd w h.clk.now) with own := none })

/-- The hub with a foreign window ended. -/
def Hub.foreignOver (h : Hub) (c : Nat) (w : Window) : Hub := h.modIn c (fun i => { (i.windowEnd w h.clk.now) with foreign := none })

/-- The hub once a passing check is taken. -/
def Hub.checkPassed (h : Hub) (c : Nat) : Hub := ((h.modIn c (fun i => { i with passed := true })).inEnd c 1).inEnd c 2

theorem ownEnd_passed {h : Hub} {c : Nat} {w : Window} (ho : (h.inp c).own = some w) (hw : w.seenOff = true) : h.ownEnd c = ((h.ownOver c w).checkPassed c).resolve c := by
  unfold Hub.ownEnd
  rw [ho]
  dsimp only
  rw [hw]
  rfl

theorem ownEnd_failed {h : Hub} {c : Nat} {w : Window} (ho : (h.inp c).own = some w) (hw : w.seenOff = false) :
    h.ownEnd c = ((h.ownOver c w).forcing c (fun h => h.inSet c 1)).resolve c := by
  unfold Hub.ownEnd
  rw [ho]
  dsimp only
  rw [hw]
  rfl

theorem foreignEnd_eq {h : Hub} {c : Nat} {w : Window} (ho : (h.inp c).foreign = some w) :
    h.foreignEnd c = (if w.seenOff then h.foreignOver c w else (h.foreignOver c w).inEnd c 4).resolve c := by
  unfold Hub.foreignEnd
  rw [ho]
  rfl

section
variable {h : Hub} {c : Nat} {w : Window} (hc : c < 16)
include hc

theorem ownOver_inp : (h.ownOver c w).inp c = { ((h.inp c).windowEnd w h.clk.now) with own := none } :=
  Hub.inp_modIn_self h c (fun i => { (i.windowEnd w h.clk.now) with own := none }) hc

theorem foreignOver_inp : (h.foreignOver c w).inp c = { ((h.inp c).windowEnd w h.clk.now) with foreign := none } :=
  Hub.inp_modIn_self h c (fun i => { (i.windowEnd w h.clk.now) with foreign := none }) hc

theorem checkPassed_inp : (h.checkPassed c).inp c = { h.inp c with
    passed := true
    live := clrBit (clrBit (h.inp c).live 1) 2 } := by
  have hself := Hub.inp_modIn_self h c (fun i => { i with passed := true }) hc
  rw [Hub.checkPassed, inEnd_inp hc, inEnd_inp hc, hself]

/-- What the end of an input's own window leaves. -/
theorem ownEnd_leaves (ho : (h.inp c).own = some w) : ((h.ownEnd c).inp c).own = none ∧
    ((h.ownEnd c).inp c).wbTill = h.clk.now + 100 * Config.ticksPerUs ∧
    (w.seenOff = true → ((h.ownEnd c).inp c).passed = true ∧ bitOf ((h.ownEnd c).inp c).live 1 = false ∧ bitOf ((h.ownEnd c).inp c).live 2 = false) ∧
    (w.seenOff = false → h.fHidden 13 c = false → bitOf ((h.ownEnd c).inp c).flt 1 = true ∧ bitOf ((h.ownEnd c).inp c).live 1 = true) := by
  obtain ⟨htill, hlive, -⟩ := windowEnd_parts (h.inp c) w h.clk.now
  have hover := ownOver_inp (h := h) (w := w) hc
  cases hw : w.seenOff with
  | true =>
    rw [ownEnd_passed ho hw]
    have hset := resolve_settled hc ((h.ownOver c w).checkPassed c)
    have hpassed := checkPassed_inp (h := h.ownOver c w) hc
    have hown := congrArg InCh.own hset
    have hwb := congrArg InCh.wbTill hset
    have hpass := congrArg InCh.passed hset
    rw [hpassed, hover] at hown hwb hpass
    refine ⟨hown, Eq.trans hwb htill, fun _ => ⟨hpass, ?_, ?_⟩, fun hf => absurd hf (by decide)⟩
    · rw [live_of_settled hset, hpassed]
      simp
    · rw [live_of_settled hset, hpassed]
      simp
  | false =>
    rw [ownEnd_failed ho hw]
    have hset := resolve_settled hc ((h.ownOver c w).forcing c (fun h => h.inSet c 1))
    have hforced := settled_of_rest (forcing_rest hc (h.ownOver c w) (fun h => h.inSet c 1))
    have hkeep (k : Hub) : ((k.inSet c 1).inp c).own = (k.inp c).own ∧ ((k.inSet c 1).inp c).wbTill = (k.inp c).wbTill := by
      by_cases hh : k.fHidden (inPos 1) c = true
      · rw [Hub.inSet, if_pos hh]
        exact ⟨rfl, rfl⟩
      · rw [inSet_inp true hc (Eq.mp (Bool.not_eq_true _) hh)]
        exact ⟨rfl, rfl⟩
    obtain ⟨hkown, hkwb⟩ := hkeep (h.ownOver c w)
    have hown := congrArg InCh.own (hset.trans hforced)
    have hwb := congrArg InCh.wbTill (hset.trans hforced)
    refine ⟨Eq.trans hown (hkown.trans (by rw [hover])), Eq.trans hwb (hkwb.trans (by rw [hover]; exact htill)), fun hf => absurd hf (by decide),
      fun _ hh => ?_⟩
    obtain ⟨-, hflt, hon⟩ := forcing_inSet hc (h.ownOver c w) (b := 1) (by decide) hh
    exact ⟨(flt_of_settled hset (by decide)).trans hflt, by rw [live_of_settled hset]; exact hon⟩

/-- What the end of a foreign window leaves. -/
theorem foreignEnd_leaves (ho : (h.inp c).foreign = some w) : ((h.foreignEnd c).inp c).foreign = none ∧
    ((h.foreignEnd c).inp c).wbTill = h.clk.now + 100 * Config.ticksPerUs ∧
    (w.seenOff = false → bitOf ((h.foreignEnd c).inp c).live 4 = false) ∧ (w.seenOff = true → ((h.foreignEnd c).inp c).live = (h.inp c).live) := by
  obtain ⟨htill, hlive, -⟩ := windowEnd_parts (h.inp c) w h.clk.now
  have hover := foreignOver_inp (h := h) (w := w) hc
  have hset := resolve_settled hc (if w.seenOff then h.foreignOver c w else (h.foreignOver c w).inEnd c 4)
  have hforeign := congrArg InCh.foreign hset
  have hwb := congrArg InCh.wbTill hset
  rw [foreignEnd_eq ho]
  cases hw : w.seenOff with
  | true =>
    rw [hw, if_pos rfl, hover] at hforeign hwb
    rw [hw, if_pos rfl] at hset
    rw [if_pos rfl]
    exact ⟨hforeign, Eq.trans hwb htill, fun hf => absurd hf (by decide), fun _ => (live_of_settled hset).trans (by rw [hover]; exact hlive)⟩
  | false =>
    rw [hw, if_neg Bool.false_ne_true, inEnd_inp hc, hover] at hforeign hwb
    rw [hw, if_neg Bool.false_ne_true] at hset
    rw [if_neg Bool.false_ne_true]
    refine ⟨hforeign, Eq.trans hwb htill, fun _ => ?_, fun hf => absurd hf (by decide)⟩
    rw [live_of_settled hset, inEnd_inp hc]
    simp

end

end Sys2Proof.Machine

/-!
PROOF. The commands of the input channels, clause by clause (chapter 08).
-/

namespace Sys2Proof.Machine

set_option Elab.async false

/-! ### An accepted edge -/

theorem syncIn_edges {h : Hub} {c : Nat} (hup : h.hinge.upL = true) (hlt : (h.inp c).edges < 2 ^ 32) : (h.syncIn c).rd IN_EDGES_count c = (h.inp c).edges := by
  unfold Hub.syncIn
  rw [hup]
  exact Hub.rd_wr_of_lt _ _ _ hlt

theorem debounced_accepts {h : Hub} {c : Nat} {x : Nat × Nat} (hs : h.inSensed c = true) (hown : (h.inp c).own = none) (hforeign : (h.inp c).foreign = none)
    (hvalid : (h.inp c).valid = true) (hx : (h.inp c).cand = some x) : h.debounced c = h.acceptEdge c x.1 (h.inp c).candUncertain := by
  unfold Hub.debounced
  dsimp only
  rw [hs, hown, hforeign, hvalid, hx]
  rfl

theorem debounced_first {h : Hub} {c : Nat} (hs : h.inSensed c = true) (hown : (h.inp c).own = none) (hforeign : (h.inp c).foreign = none)
    (hvalid : (h.inp c).valid = false) : h.debounced c = h.firstState c := by
  unfold Hub.debounced
  dsimp only
  rw [hs, hown, hforeign, hvalid]
  rfl

section
variable {h : Hub} {c : Nat} (hc : c < 16)
include hc

/-- What a crossing within a window leaves (R257, R265). -/
theorem crossing_inside_leaves {on : Bool} (hs : h.inSensed c = true) (hw : ((h.inp c).own.isSome || (h.inp c).foreign.isSome) = true) :
    ((h.crossing c on).inp c).raw = on ∧ ((h.crossing c on).inp c).deb = (h.inp c).deb ∧ ((h.crossing c on).inp c).cand = (h.inp c).cand ∧
    ((h.crossing c on).inp c).own = (h.inp c).own.map (fun w => w.see (h.inp c).deb on h.crossStamp h.clk.now h.stampUncertain) ∧
    ((h.inp c).foreign.isSome = true → on = false → bitOf ((h.crossing c on).inp c).flt 4 = true ∧ bitOf ((h.crossing c on).inp c).live 4 = true) := by
  have hseen := seen_inp (h := h) (on := on) hc
  rw [crossing_inside hc hs hw, syncIn_inp]
  split
  case isTrue hfound =>
    obtain ⟨hrest, hflt, hlive⟩ := forcing_inSet hc ((h.rawTaken c on).seen c on) (b := 4) (by decide) (fHidden_inputs _ _ (.inr (.inr rfl)))
    rw [hseen] at hrest
    have hraw := congrArg InCh.raw hrest
    have hdeb := congrArg InCh.deb hrest
    have hcand := congrArg InCh.cand hrest
    have hown := congrArg InCh.own hrest
    exact ⟨hraw, hdeb, hcand, hown, fun _ _ => ⟨hflt, hlive⟩⟩
  case isFalse hno =>
    rw [hseen]
    refine ⟨rfl, rfl, rfl, rfl, fun hsome hoff => absurd ?_ hno⟩
    rw [hsome, hoff]
    rfl

/-- What an accepted edge leaves (R247, R252). -/
theorem acceptEdge_leaves (stamp : Nat) (unc : Bool) :
    ((h.acceptEdge c stamp unc).inp c).deb = (h.inp c).raw ∧ ((h.acceptEdge c stamp unc).inp c).cand = none ∧
    ((h.acceptEdge c stamp unc).inp c).edges = ((h.inp c).edges + 1) % 2 ^ 32 ∧
    (h.hinge.upL = true → (h.acceptEdge c stamp unc).rd IN_EDGES_count c = ((h.acceptEdge c stamp unc).inp c).edges) ∧
    (vget (h.acceptEdge c stamp unc).life.acc c {}).edges = satInc (2 ^ 40 - 1) (vget h.life.acc c {}).edges ∧
    ((h.hinge.upF && h.hinge.upL && !h.flag HNG_STAT_rejoin) = true → (h.inp c).fifo.length < 32 →
      ((h.acceptEdge c stamp unc).inp c).fifo.map (fun e => (e.stamp, e.dir)) = (h.inp c).fifo.map (fun e => (e.stamp, e.dir)) ++ [(stamp, (h.inp c).raw)]) ∧
    ((h.hinge.upF && h.hinge.upL && !h.flag HNG_STAT_rejoin) = false → (h.inp c).buffer.length < 32 →
      ((h.acceptEdge c stamp unc).inp c).buffer.map (fun e => (e.stamp, e.dir)) =
        (h.inp c).buffer.map (fun e => (e.stamp, e.dir)) ++ [(stamp, (h.inp c).raw)]) := by
  have hrest := acceptEdge_rest hc h stamp unc
  have hdeb := congrArg InCh.deb hrest
  have hcand := congrArg InCh.cand hrest
  have hedges := congrArg InCh.edges hrest
  have htaken := edgeTaken_inp hc h
  have hdir : ((h.edgeTaken c).inp c).deb = (h.inp c).raw := by rw [htaken]
  have hfifo : ((h.edgeTaken c).inp c).fifo = (h.inp c).fifo := by rw [htaken]
  have hbuffer : ((h.edgeTaken c).inp c).buffer = (h.inp c).buffer := by rw [htaken]
  generalize he : InEntry.mk stamp ((h.edgeTaken c).inp c).deb unc false false = e
  have heq : h.acceptEdge c stamp unc = ((h.edgeTaken c).entry c e).syncIn c := by rw [acceptEdge_eq, ← he]
  have hinp : (h.acceptEdge c stamp unc).inp c = ((h.edgeTaken c).entry c e).inp c := by rw [heq, syncIn_inp]
  refine ⟨hdeb, hcand, hedges, fun hup => ?_, ?_, fun hlink hroom => ?_, fun hlost hroom => ?_⟩
  · have hstands := congrArg Hinge.upL (entry_fieldStands (h.edgeTaken c) c e).hinge
    have hentry : ((h.edgeTaken c).entry c e).hinge.upL = true := Eq.trans hstands hup
    rw [hinp, heq]
    refine syncIn_edges hentry ?_
    rw [← hinp, show ((h.acceptEdge c stamp unc).inp c).edges = ((h.inp c).edges + 1) % 2 ^ 32 from hedges]
    exact Nat.mod_lt _ (by decide)
  · have hlife : (h.acceptEdge c stamp unc).life = (h.edgeTaken c).life := by
      rw [heq, (syncIn_moves _ _).keeps .life, (entry_shown hc _ _).keeps .life]
    rw [hlife]
    exact congrArg ChCount.edges (vget_vset_self _ _ _ _ hc)
  · obtain ⟨g, hg⟩ := entry_fifo hc (h.edgeTaken c) e hlink (by rw [hfifo]; exact hroom)
    rw [hinp, hg, hfifo, List.map_append, ← he, hdir]
    rfl
  · rw [hinp, entry_buffer hc (h.edgeTaken c) e hlost (by rw [hbuffer]; exact hroom), hbuffer, List.map_append, ← he, hdir]
    rfl

theorem firstState_fifo (hfrozen : (h.inp c).frozen = none) : ((h.firstState c).inp c).fifo = (h.inp c).fifo := by
  have hself := congrArg InCh.fifo (Hub.inp_modIn_self h c (fun i => { i with valid := true, deb := i.raw, cand := none, frozen := none }) hc)
  unfold Hub.firstState
  dsimp only
  rw [syncIn_inp, hfrozen]
  exact hself

/-! ### The oldest entry -/

/-- What a read of IN_TS_LO leaves (R251). -/
theorem readTsLo_leaves : ((h.readTsLo c).2.inp c).fifo = (h.inp c).fifo.tail ∧ (h.readTsLo c).2.flag IN_TS_HI_valid c = !(h.inp c).fifo.isEmpty ∧
    (∀ e ∈ (h.inp c).fifo.head?, (h.readTsLo c).2.rd IN_TS_HI_stamp c = e.stamp / 2 ^ 32 % 2 ^ 16 ∧ (h.readTsLo c).2.flag IN_TS_HI_dir c = e.dir ∧
      (h.readTsLo c).2.flag IN_TS_HI_uncertain c = e.uncertain ∧ (h.readTsLo c).2.flag IN_TS_HI_gap c = e.gap ∧
      (h.readTsLo c).2.flag IN_TS_HI_forced c = e.forced) := by
  unfold Hub.readTsLo
  cases hfifo : (h.inp c).fifo with
  | nil => exact ⟨hfifo, Hub.flag_put_self _ _ _ _ _ rfl, fun e he => absurd he (by simp)⟩
  | cons e rest =>
    have hself := congrArg InCh.fifo (Hub.inp_modIn_self h c (fun i => { i with fifo := rest }) hc)
    dsimp only
    refine ⟨hself, ?_, fun x hx => ?_⟩
    · rw [Hub.flag_wr_apart _ _ _ _ _ _ (by decide), Hub.flag_put_apart _ _ _ _ _ _ (by decide), Hub.flag_put_apart _ _ _ _ _ _ (by decide),
        Hub.flag_put_apart _ _ _ _ _ _ (by decide), Hub.flag_put_apart _ _ _ _ _ _ (by decide), Hub.flag_put_self _ _ _ _ _ rfl]
      rfl
    · obtain rfl : e = x := Option.some.inj hx
      refine ⟨Hub.rd_wr_self _ _ _ _ _, ?_, ?_, ?_, ?_⟩
      · rw [Hub.flag_wr_apart _ _ _ _ _ _ (by decide), Hub.flag_put_apart _ _ _ _ _ _ (by decide), Hub.flag_put_apart _ _ _ _ _ _ (by decide),
          Hub.flag_put_apart _ _ _ _ _ _ (by decide), Hub.flag_put_self _ _ _ _ _ rfl]
      · rw [Hub.flag_wr_apart _ _ _ _ _ _ (by decide), Hub.flag_put_apart _ _ _ _ _ _ (by decide), Hub.flag_put_apart _ _ _ _ _ _ (by decide),
          Hub.flag_put_self _ _ _ _ _ rfl]
      · rw [Hub.flag_wr_apart _ _ _ _ _ _ (by decide), Hub.flag_put_apart _ _ _ _ _ _ (by decide), Hub.flag_put_self _ _ _ _ _ rfl]
      · rw [Hub.flag_wr_apart _ _ _ _ _ _ (by decide), Hub.flag_put_self _ _ _ _ _ rfl]

/-! ### A measurement -/

/-- The hub once a measurement of an input is shown. -/
def Hub.inMeasured (h : Hub) (c v i : Nat) : Hub := if h.hinge.upL then (h.wr IN_MEAS_vpin v c).wr IN_MEAS_i i c else h

/-- The hub once the wire-break timer of an input restarts. -/
def Hub.wbRestart (h : Hub) (c : Nat) : Hub :=
  let h := h.modIn c (fun i => { i with wbPause := 0, wbPaused := i.wbPaused.map (fun _ => h.clk.now) })
  if bitOf (h.inp c).live 0 then (h.inEnd c 0).syncIn c else h

theorem wbRestart_leaves : bitOf ((h.wbRestart c).inp c).live 0 = false ∧ ((h.wbRestart c).inp c).wbPause = 0 ∧
    ((h.wbRestart c).inp c).raw = (h.inp c).raw ∧ Moves inFoot h (h.wbRestart c) := by
  have hself := Hub.inp_modIn_self h c (fun i => { i with wbPause := 0, wbPaused := i.wbPaused.map (fun _ => h.clk.now) }) hc
  have hmoves := (Moves.refl inFoot h).to (modIn_moves h c (fun i => { i with wbPause := 0, wbPaused := i.wbPaused.map (fun _ => h.clk.now) }))
  unfold Hub.wbRestart
  dsimp only
  split
  · rw [syncIn_inp, inEnd_inp hc, hself]
    exact ⟨by simp, rfl, rfl, (hmoves.to (inEnd_moves _ _ _)).to (syncIn_shown hc _)⟩
  case isFalse hoff =>
    rw [hself] at hoff ⊢
    exact ⟨Eq.mp (Bool.not_eq_true _) hoff, rfl, rfl, hmoves⟩

/-- What a measurement of an input leaves (R253, R255). -/
theorem inMeasure_leaves {v i : Nat} (hv : v < 2 ^ 16) (hi : i < 2 ^ 12) {k : Hub}
    (hk : k = if 50 * (h.inMeasured c v i).frd IN_WB_th c ≤ i then (h.inMeasured c v i).wbRestart c else h.inMeasured c v i) :
    (h.hinge.upL = true → k.rd IN_MEAS_vpin c = v ∧ k.rd IN_MEAS_i c = i) ∧
    (50 * h.frd IN_WB_th c ≤ i → bitOf (k.inp c).live 0 = false ∧ (k.inp c).wbPause = 0) ∧
    (i < 50 * h.frd IN_WB_th c → (k.inp c).live = (h.inp c).live) ∧ (k.inp c).raw = (h.inp c).raw := by
  have hinp : (h.inMeasured c v i).inp c = h.inp c := by
    unfold Hub.inMeasured
    split <;> rfl
  have hth : (h.inMeasured c v i).frd IN_WB_th c = h.frd IN_WB_th c := by
    unfold Hub.inMeasured
    split <;> rfl
  have hshown (hup : h.hinge.upL = true) : (h.inMeasured c v i).rd IN_MEAS_vpin c = v ∧ (h.inMeasured c v i).rd IN_MEAS_i c = i := by
    rw [Hub.inMeasured, if_pos hup, Hub.rd_wr_apart _ _ _ _ _ _ (by decide)]
    exact ⟨Hub.rd_wr_of_lt _ _ _ hv, Hub.rd_wr_of_lt _ _ _ hi⟩
  obtain ⟨hlive, hpause, hraw, hmoves⟩ := wbRestart_leaves (h := h.inMeasured c v i) hc
  rw [hth] at hk
  split at hk
  case isTrue hreach =>
    subst hk
    refine ⟨fun hup => ?_, fun _ => ⟨hlive, hpause⟩, fun hlt => absurd hreach (Nat.not_le.mpr hlt), hraw.trans (by rw [hinp])⟩
    rw [hmoves.rd IN_MEAS_vpin c 0 hc, hmoves.rd IN_MEAS_i c 0 hc]
    exact hshown hup
  case isFalse hbelow =>
    subst hk
    exact ⟨hshown, fun hle => absurd hle hbelow, fun _ => by rw [hinp], by rw [hinp]⟩

end

/-! ### A clear of IN_FLT -/

/-- The flag of IN_FLT with a bit number. -/
def inFltFld (b : Nat) : Fld := inFltFlds.getD b IN_FLT_discard

theorem inFltFld_mem (b : Nat) : inFltFld b ∈ inFltFlds := by
  rw [inFltFld, List.getD_eq_getElem?_getD]
  by_cases hb : b < inFltFlds.length
  · rw [List.getElem?_eq_getElem hb]
    exact List.getElem_mem hb
  · rw [List.getElem?_eq_none (Nat.not_lt.mp hb)]
    decide

theorem inFltFlds_apart : ∀ f ∈ inFltFlds, ∀ g ∈ inFltFlds, f = g ∨ f.apart g = true := by decide

/-- The flags of a mask cleared. -/
def Hub.fltCleared (h : Hub) (c go : Nat) : Hub := forAll (List.range 6) (fun h b => if bitOf go b then h.put (inFltFld b) false c else h) h

theorem fltCleared_flag (h : Hub) {c go b : Nat} (hb : b < 6) (hgo : bitOf go b = true) : (h.fltCleared c go).flag (inFltFld b) c = false := by
  have hself (k : Hub) : (k.put (inFltFld b) false c).flag (inFltFld b) c = false := Hub.flag_put_self _ _ _ _ _ (by
    have hwidth : ∀ f ∈ inFltFlds, f.width = 1 := by decide
    exact hwidth _ (inFltFld_mem b))
  refine forAll_at (Q := fun _ => True) (D := fun k => k.flag (inFltFld b) c = false) (List.mem_range.mpr hb) List.nodup_range (fun _ _ _ _ => trivial)
    (fun k _ => ?_) (fun k d _ hk => ?_) trivial
  · rw [if_pos hgo]
    exact hself k
  · split
    · rcases inFltFlds_apart _ (inFltFld_mem b) _ (inFltFld_mem d) with hsame | hapart
      · rw [← hsame]
        exact hself k
      · rw [Hub.flag_put_apart _ _ _ _ _ _ hapart]
        exact hk
    · exact hk

theorem fltCleared_moves (h : Hub) {c : Nat} (go : Nat) (hc : c < 16) : Moves ⟨[], inFltFlds, []⟩ h (h.fltCleared c go) := by
  have hholds : ∀ f ∈ inFltFlds, Foot.holds ⟨[], inFltFlds, []⟩ f = true ∧ f.count = 16 := by decide +kernel
  refine (Moves.refl _ h).forAll fun k b _ => .ite ?_ (Moves.refl _ k)
  obtain ⟨hin, hcount⟩ := hholds _ (inFltFld_mem b)
  exact (Moves.refl _ k).put _ _ _ _ (by rw [hcount]; exact hc) hin

theorem writeInFlt_eq (h : Hub) (c v : Nat) : h.writeInFlt c v =
    if clrMask (v % 64) (h.inKept c (v % 64)) == 0 then
      (h.count FLT_CLR_REFUSED_live (popCount 6 (h.inKept c (v % 64)))).fltCleared c (clrMask (v % 64) (h.inKept c (v % 64)))
    else ((h.count FLT_CLR_REFUSED_live (popCount 6 (h.inKept c (v % 64)))).fltCleared c (clrMask (v % 64) (h.inKept c (v % 64)))).request
      (.clearIn c (clrMask (v % 64) (h.inKept c (v % 64)))) := rfl

/-- A request of the logic die goes out, or waits. -/
theorem request_listed {h : Hub} (what : ReqKind) (hup : h.hinge.upL = true) :
    ((h.request what).hinge.out ++ (h.request what).hinge.waiting).any (fun x => x.what == what) = true := by
  unfold Hub.request
  dsimp only
  rw [hup, Bool.not_true, if_neg Bool.false_ne_true, List.any_append, Bool.or_eq_true]
  split
  · refine .inl ?_
    rw [Hub.sendReq, List.any_append]
    simp
  · refine .inr ?_
    rw [List.any_append]
    simp

/-- What a clear of an input's flags leaves (R263). -/
theorem writeInFlt_leaves {h : Hub} {c : Nat} (v : Nat) (hc : c < 16) (hup : h.hinge.upL = true) :
    (∀ b, b < 6 → bitOf v b = true → bitOf (h.inKept c (v % 64)) b = false → (h.writeInFlt c v).flag (inFltFld b) c = false) ∧
    (h.writeInFlt c v).rd FLT_CLR_REFUSED_live =
      satAdd (2 ^ FLT_CLR_REFUSED_live.width - 1) (h.rd FLT_CLR_REFUSED_live) (popCount 6 (h.inKept c (v % 64))) ∧
    (clrMask (v % 64) (h.inKept c (v % 64)) ≠ 0 → ((h.writeInFlt c v).hinge.out ++ (h.writeInFlt c v).hinge.waiting).any
      (fun x => x.what == .clearIn c (clrMask (v % 64) (h.inKept c (v % 64)))) = true) := by
  generalize hkept : h.inKept c (v % 64) = kept
  generalize hgo : clrMask (v % 64) kept = go
  generalize hk : (h.count FLT_CLR_REFUSED_live (popCount 6 kept)).fltCleared c go = k
  have heq : h.writeInFlt c v = if go == 0 then k else k.request (.clearIn c go) := by
    rw [writeInFlt_eq, hkept, hgo, hk]
  have hsent : Moves ⟨[.hinge], [], []⟩ k (h.writeInFlt c v) := by
    rw [heq]
    exact .ite (Moves.refl _ k) (request_moves _ _ _ _)
  have hcleared : Moves ⟨[], inFltFlds, []⟩ (h.count FLT_CLR_REFUSED_live (popCount 6 kept)) k := by
    rw [← hk]
    exact fltCleared_moves _ go hc
  refine ⟨fun b hb hset hnot => ?_, ?_, fun hne => ?_⟩
  · have hbit : bitOf go b = true := by
      rw [← hgo, bitOf_clrMask, hnot, Bool.not_false, Bool.and_true, bitOf, show (64 : Nat) = 2 ^ 6 from rfl, Nat.testBit_mod_two_pow,
        decide_eq_true hb, Bool.true_and]
      exact hset
    have hcount : (inFltFld b).count = 16 := by
      have hall : ∀ f ∈ inFltFlds, f.count = 16 := by decide
      exact hall _ (inFltFld_mem b)
    have havoid : Foot.avoids ⟨[.hinge], [], []⟩ (inFltFld b) = true := by
      have hall : ∀ f ∈ inFltFlds, Foot.avoids ⟨[.hinge], [], []⟩ f = true := by decide +kernel
      exact hall _ (inFltFld_mem b)
    rw [hsent.flag (inFltFld b) c 0 (by rw [hcount]; exact hc) havoid, ← hk]
    exact fltCleared_flag _ hb hbit
  · rw [hsent.rd FLT_CLR_REFUSED_live 0 0 Nat.one_pos, hcleared.rd FLT_CLR_REFUSED_live 0 0 Nat.one_pos]
    exact Hub.rd_wr_of_lt _ _ _ (Nat.lt_of_le_of_lt (Nat.min_le_left _ _) (Nat.sub_lt (Nat.two_pow_pos _) Nat.one_pos))
  · have hup' : k.hinge.upL = true := by
      rw [hcleared.keeps .hinge]
      exact hup
    rw [heq, if_neg (by simpa using hne)]
    exact request_listed _ hup'

/-! ### The commands -/

/-- Settles O15, by what an accepted level, a crossing and the end of a check window leave of an input. -/
theorem inputCommands : Obligations.InputCommands := by
  unfold Obligations.InputCommands
  refine ⟨?outside, ?inside, ?unsensed, ?accept, ?first, ?early, ?read, ?measure, ?wire, ?noWire, ?own, ?noOwn, ?late, ?noLate, ?foreign, ?noForeign,
    ?clear⟩
  case outside =>
    intro s c v own hc
    rw [Can.inputCrossing, Bool.and_eq_true, Bool.and_eq_true, Option.isNone_iff_eq_none, Option.isNone_iff_eq_none] at hc
    obtain ⟨⟨hs, hown⟩, hforeign⟩ := hc
    obtain ⟨u, hinp⟩ := crossing_outside (h := s.hub.begun) (on := inputReads (s.hub.fMode c) v.toInt (s.hub.inp c).raw own) c.isLt hs
      (show ((s.hub.inp c).own.isSome || (s.hub.inp c).foreign.isSome) = false by rw [hown, hforeign]; rfl)
    have hraw := congrArg InCh.raw hinp
    have hdeb := congrArg InCh.deb hinp
    have hfifo := congrArg InCh.fifo hinp
    have hcand := congrArg InCh.cand hinp
    exact completes_of_begun (exec_inputCrossing c ⟨v, own⟩ s) ⟨hraw, hdeb, hfifo, hcand⟩
  case inside =>
    intro s c v own hc
    rw [Can.inputCrossing2, Bool.and_eq_true] at hc
    obtain ⟨hs, hw⟩ := hc
    obtain ⟨hraw, hdeb, hcand, hown, hfound⟩ := crossing_inside_leaves (h := s.hub.begun)
      (on := inputReads (s.hub.fMode c) v.toInt (s.hub.inp c).raw own) c.isLt hs hw
    exact completes_of_begun (exec_inputCrossing c ⟨v, own⟩ s) ⟨hraw, hdeb, hcand, hown, hfound⟩
  case unsensed =>
    intro s c v own hc
    have hs : s.hub.begun.inSensed c = false := Eq.mp (Bool.not_eq_true' _) hc
    have hinp := rawTaken_inp (h := s.hub.begun) (on := inputReads (s.hub.fMode c) v.toInt (s.hub.inp c).raw own) c.isLt
    have hraw := congrArg InCh.raw hinp
    have hcand := congrArg InCh.cand hinp
    have hdeb := congrArg InCh.deb hinp
    refine completes_of_begun (exec_inputCrossing c ⟨v, own⟩ s) ?_
    dsimp only
    rw [crossing_unsensed c.isLt hs]
    exact ⟨hraw, hcand, hdeb, rfl⟩
  case accept =>
    intro s c held hc
    simp only [Can.debounceAccept, Bool.and_eq_true, decide_eq_true_eq, Option.isNone_iff_eq_none] at hc
    obtain ⟨⟨⟨⟨⟨hheld, hs⟩, hown⟩, hforeign⟩, hvalid⟩, hsome⟩ := hc
    obtain ⟨x, hx⟩ := Option.isSome_iff_exists.mp hsome
    refine completes_of_begun (exec_debounceAccept ⟨c, held⟩ s) ?_
    dsimp only
    rw [if_pos (show s.hub.begun.debTicks c ≤ held.toNat from hheld), debounced_accepts (h := s.hub.begun) hs hown hforeign hvalid hx]
    obtain ⟨hdeb, hcand, hedges, hshown, hacc, hfifo, hbuffer⟩ := acceptEdge_leaves (h := s.hub.begun) c.isLt x.1 (s.hub.inp c).candUncertain
    refine ⟨hdeb, hcand, hedges, hshown, hacc, fun y hy => ?_⟩
    obtain rfl : x = y := Option.some.inj (hx.symm.trans hy)
    exact ⟨hfifo, hbuffer⟩
  case first =>
    intro s c held hc
    simp only [Can.debounceAccept2, Bool.and_eq_true, decide_eq_true_eq, Option.isNone_iff_eq_none, Bool.not_eq_true'] at hc
    obtain ⟨⟨⟨⟨hheld, hs⟩, hown⟩, hforeign⟩, hvalid⟩ := hc
    have hrest := firstState_rest c.isLt s.hub.begun
    have hset := congrArg InCh.valid hrest
    have hdeb := congrArg InCh.deb hrest
    have hcand := congrArg InCh.cand hrest
    have hedges := congrArg InCh.edges hrest
    refine completes_of_begun (exec_debounceAccept ⟨c, held⟩ s) ?_
    dsimp only
    rw [if_pos (show s.hub.begun.debTicks c ≤ held.toNat from hheld), debounced_first (h := s.hub.begun) hs hown hforeign hvalid]
    exact ⟨hset, hdeb, hcand, hedges, fun hfrozen => firstState_fifo c.isLt hfrozen⟩
  case early =>
    intro s c held hc
    refine completes_of_begun (exec_debounceAccept ⟨c, held⟩ s) ?_
    dsimp only
    rw [if_neg (Nat.not_le.mpr (show held.toNat < s.hub.begun.debTicks c from of_decide_eq_true hc))]
    exact ⟨rfl, rfl⟩
  case read =>
    intro s w c hc
    refine completes_of_begun (exec_inTsLoRead w c s) ?_
    rw [if_pos (show (s.hub.begun.readable w && s.hub.begun.chOwner c == some w.val && s.hub.begun.isIn c) = true from hc)]
    exact readTsLo_leaves (h := s.hub.begun) c.isLt
  case measure =>
    intro s c v i hc
    rw [Can.inputMeasure, Bool.and_eq_true] at hc
    obtain ⟨hup, hin⟩ := hc
    have hgo : ¬ (!s.hub.begun.sup.fieldUp || !s.hub.begun.fIsIn c) = true := by
      rw [show s.hub.begun.sup.fieldUp = true from hup, show s.hub.begun.fIsIn c = true from hin]
      exact Bool.false_ne_true
    refine completes_of_begun (exec_inputMeasure c v i s) ?_
    rw [if_neg hgo]
    exact inMeasure_leaves (h := s.hub.begun) c.isLt v.isLt i.isLt rfl
  case wire =>
    intro s c us hc
    obtain ⟨hrest, hflt, hlive⟩ := forcing_inSet c.isLt s.hub.begun (b := 0) (by decide) (fHidden_inputs _ _ (.inl rfl))
    have hraw := congrArg InCh.raw hrest
    refine completes_of_begun (exec_wireBreak ⟨c, us⟩ s) ?_
    dsimp only
    rw [if_pos (show (s.hub.begun.inSensed c && s.hub.begun.frd IN_WB_en c != 0 && s.hub.begun.wbDue c us.toNat) = true from hc)]
    refine ⟨hflt, hlive, hraw, fun hsafety => ?_⟩
    rw [Hub.inForced, frd_of_rest (forcing_fieldStands (fun k => inSet_fieldStands k c 0 true) s.hub.begun c).hinge, Bool.and_eq_true, bne_iff_ne, bne_iff_ne]
    refine ⟨hsafety, fun hzero => ?_⟩
    have hbit : (((s.hub.begun.forcing c (fun h => h.inSet c 0)).inp c).flt &&& forcingBits).testBit 0 = true := by
      rw [Nat.testBit_and, show ((s.hub.begun.forcing c (fun h => h.inSet c 0)).inp c).flt.testBit 0 = true from hflt]
      rfl
    rw [hzero] at hbit
    exact absurd hbit (by decide)
  case noWire =>
    intro s c us hc
    have hno : ¬ (s.hub.begun.inSensed c && s.hub.begun.frd IN_WB_en c != 0 && s.hub.begun.wbDue c us.toNat) = true := by
      intro hall
      simp only [Bool.and_eq_true, bne_iff_ne] at hall
      simp only [Can.wireBreak2, Bool.or_eq_true, Bool.not_eq_true', beq_iff_eq] at hc
      rcases hc with (hs | hoff) | hdue
      · exact absurd (hs.symm.trans hall.1.1) Bool.false_ne_true
      · exact hall.1.2 hoff
      · exact absurd (hdue.symm.trans hall.2) Bool.false_ne_true
    refine completes_of_begun (exec_wireBreak ⟨c, us⟩ s) ?_
    dsimp only
    rw [if_neg hno]
    exact ⟨rfl, rfl⟩
  case own =>
    intro s c us hc
    rw [Can.tpWindowEnd, Bool.and_eq_true] at hc
    obtain ⟨hsome, hover⟩ := hc
    obtain ⟨w, hw⟩ := Option.isSome_iff_exists.mp hsome
    have hany : (s.hub.inp c).own.any (fun x => x.seenOff) = w.seenOff := by rw [hw]; rfl
    obtain ⟨hown, htill, hpassed, hfailed⟩ := ownEnd_leaves (h := s.hub.begun) c.isLt hw
    refine completes_of_begun (exec_tpWindowEnd ⟨c, us⟩ s) ?_
    dsimp only
    rw [if_pos (show s.hub.begun.windowOver c us.toNat = true from hover), hany]
    exact ⟨hown, htill, hpassed, hfailed⟩
  case noOwn =>
    intro s c us hc
    rw [Can.tpWindowEnd2, Bool.or_eq_true, Option.isNone_iff_eq_none, Bool.not_eq_true'] at hc
    refine completes_of_begun (exec_tpWindowEnd ⟨c, us⟩ s) ?_
    dsimp only
    split
    case isFalse => exact ⟨rfl, rfl⟩
    case isTrue hover =>
      have hnone : (s.hub.begun.inp c).own = none := hc.resolve_right fun hf => absurd (hf.symm.trans hover) Bool.false_ne_true
      rw [Hub.ownEnd, hnone]
      exact ⟨rfl, rfl⟩
  case late =>
    intro s c ms hc
    rw [Can.tpLate, Bool.and_eq_true, decide_eq_true_eq] at hc
    obtain ⟨hsup, hlate⟩ := hc
    have hgo : ¬ (!s.hub.begun.tpSupervised c || ms.toNat < 2 * s.hub.begun.frd IN_TPC_period c) = true := by
      rw [show s.hub.begun.tpSupervised c = true from hsup, Bool.not_true, Bool.false_or, decide_eq_true_eq]
      exact Nat.not_lt.mpr hlate
    refine completes_of_begun (exec_tpLate ⟨c, ms⟩ s) ?_
    dsimp only
    rw [if_neg hgo]
    split
    case isTrue hpassed =>
      have hself := Hub.inp_modIn_self s.hub.begun c (fun i => { i with passed := false }) c.isLt
      have hoff := congrArg InCh.passed hself
      have hflt := congrArg InCh.flt hself
      exact ⟨hoff, fun hf => absurd (hf.symm.trans hpassed) Bool.false_ne_true, fun _ => hflt⟩
    case isFalse hnot =>
      have hnone : (s.hub.inp c).passed = false := Eq.mp (Bool.not_eq_true _) hnot
      obtain ⟨hrest, hflt, hlive⟩ := forcing_inSet c.isLt s.hub.begun (b := 2) (by decide) (fHidden_inputs _ _ (.inr (.inl rfl)))
      have hpassed := congrArg InCh.passed hrest
      exact ⟨Eq.trans hpassed hnone, fun _ => ⟨hflt, hlive⟩, fun hp => absurd (hnone.symm.trans hp) Bool.false_ne_true⟩
  case noLate =>
    intro s c ms hc
    have hno : (!s.hub.begun.tpSupervised c || ms.toNat < 2 * s.hub.begun.frd IN_TPC_period c) = true := hc
    refine completes_of_begun (exec_tpLate ⟨c, ms⟩ s) ?_
    dsimp only
    rw [if_pos hno]
    exact ⟨rfl, rfl⟩
  case foreign =>
    intro s c us hc
    rw [Can.foreignWindowEnd, Bool.and_eq_true] at hc
    obtain ⟨hsome, hover⟩ := hc
    obtain ⟨w, hw⟩ := Option.isSome_iff_exists.mp hsome
    have hany : (s.hub.inp c).foreign.any (fun x => x.seenOff) = w.seenOff := by rw [hw]; rfl
    have hnone : (s.hub.inp c).foreign.any (fun x => !x.seenOff) = !w.seenOff := by rw [hw]; rfl
    obtain ⟨hforeign, htill, hclean, hkept⟩ := foreignEnd_leaves (h := s.hub.begun) c.isLt hw
    refine completes_of_begun (exec_foreignWindowEnd ⟨c, us⟩ s) ?_
    dsimp only
    rw [if_pos (show s.hub.begun.windowOver c us.toNat = true from hover), hany, hnone]
    exact ⟨hforeign, htill, fun hf => hclean (Eq.mp (Bool.not_eq_true' _) hf), hkept⟩
  case noForeign =>
    intro s c us hc
    rw [Can.foreignWindowEnd2, Bool.or_eq_true, Option.isNone_iff_eq_none, Bool.not_eq_true'] at hc
    refine completes_of_begun (exec_foreignWindowEnd ⟨c, us⟩ s) ?_
    dsimp only
    split
    case isFalse => exact ⟨rfl, rfl⟩
    case isTrue hover =>
      have hnone : (s.hub.begun.inp c).foreign = none := hc.resolve_right fun hf => absurd (hf.symm.trans hover) Bool.false_ne_true
      rw [Hub.foreignEnd, hnone]
      exact ⟨rfl, rfl⟩
  case clear =>
    intro s w c v hc
    have hup : s.hub.begun.hinge.upL = true := by
      rw [Can.inFltClear, Bool.and_eq_true] at hc
      exact hc.2
    obtain ⟨hflags, hcount, hsent⟩ := writeInFlt_leaves (h := s.hub.begun) v.toNat c.isLt hup
    refine completes_of_begun (exec_inFltClear w c v s) ?_
    rw [if_pos (show (s.hub.begun.writable w && s.hub.begun.chOwner c == some w.val && s.hub.begun.isIn c && s.hub.begun.hinge.upL) = true from hc)]
    exact ⟨fun b hset hnot => hflags b b.isLt hset hnot, hcount, hsent⟩

end Sys2Proof.Machine

/-!
PROOF. A fault's reaction leaves the logic die's phase, a halt, the supplies and the Keeper: interrupts are served after it as before.
-/

namespace Sys2Proof.Machine

set_option Elab.async false

theorem state_up {h : Hub} (hp : h.dev.phase = .up) (hh : h.dev.halt = none) :
    h.state = .safe ∨ h.state = .brown ∨ h.state = .test ∨ h.state = .degraded ∨ h.state = .run := by
  unfold Hub.state
  rw [hp, hh]
  dsimp only [Option.isSome_none]
  rw [if_neg Bool.false_ne_true]
  split
  · exact .inl rfl
  · split
    · exact .inr (.inl rfl)
    · split
      · exact .inr (.inr (.inl rfl))
      · split
        · exact .inr (.inr (.inr (.inl rfl)))
        · exact .inr (.inr (.inr (.inr rfl)))

/-- Interrupts are served where the phase, the halt and the supplies let them be. -/
theorem intServed_iff (h : Hub) : h.intServed = true ↔ h.dev.phase = .up ∧ h.dev.halt = none ∧ h.sup.pd = none := by
  rw [Hub.intServed, Bool.and_eq_true, Option.isNone_iff_eq_none, ← and_assoc]
  refine and_congr_left fun _ => ⟨fun hserved => ?_, fun hup => ?_⟩
  · cases hp : h.dev.phase <;> cases hh : h.dev.halt <;> simp [Hub.runs, Hub.state, hp, hh] at hserved ⊢
  · rcases state_up hup.1 hup.2 with hs | hs | hs | hs | hs <;> simp [Hub.runs, hs]

/-- The phase of the logic die, its halt, its supplies and the Keeper are the same in two hubs. -/
structure Stays (h k : Hub) : Prop where
  phase : k.dev.phase = h.dev.phase
  halt : k.dev.halt = h.dev.halt
  keeper : k.ward 0 = h.ward 0
  sup : k.sup = h.sup

namespace Stays

variable {F : Foot} {h₀ h k a b : Hub}

theorem refl (h : Hub) : Stays h h := ⟨rfl, rfl, rfl, rfl⟩

theorem trans (x : Stays h₀ h) (y : Stays h k) : Stays h₀ k :=
  ⟨y.phase.trans x.phase, y.halt.trans x.halt, y.keeper.trans x.keeper, y.sup.trans x.sup⟩

theorem ite {q : Prop} [Decidable q] (x : Stays h₀ a) (y : Stays h₀ b) : Stays h₀ (if q then a else b) := by
  split
  · exact x
  · exact y

theorem forAll {f : Hub → Nat → Hub} {l : List Nat} (hf : ∀ h t, t ∈ l → Stays h (f h t)) (h : Hub) : Stays h (forAll l f h) := by
  induction l generalizing h with
  | nil => exact refl h
  | cons t rest ih => exact (hf h t List.mem_cons_self).trans (ih (fun k u hu => hf k u (List.mem_cons_of_mem t hu)) (f h t))

theorem intServed (x : Stays h k) : k.intServed = h.intServed := by
  rw [Bool.eq_iff_iff, intServed_iff, intServed_iff, x.phase, x.halt, x.sup]

end Stays

theorem Stays.to {F : Foot} {h₀ h k : Hub} (x : Stays h₀ h) (y : Moves F h k) (hd : F.parts.contains .dev = false := by decide) (hs : F.parts.contains .sup = false := by decide) :
    Stays h₀ k := by
  have hdev : k.dev = h.dev := y.keeps .dev hd
  exact x.trans ⟨by rw [hdev], by rw [hdev], by rw [Hub.ward, hdev]; rfl, y.keeps .sup hs⟩

theorem endTest_stays (h : Hub) (result : Nat) : Stays h (h.endTest result) := by
  unfold Hub.endTest
  dsimp only
  split <;> exact ⟨rfl, rfl, rfl, rfl⟩

theorem abortTest_stays (h : Hub) : Stays h h.abortTest :=
  .ite ((((endTest_stays h 3).to (bistRecord_moves _)).to (wdStartAll_moves _)).to (intEvent_moves _ _ _)) (.refl h)

theorem safeBefore_stays (h : Hub) : Stays h h.safeBefore := by
  have htest := (abortTest_stays h).to (cancelBist_moves _)
  have hsafe : Stays h { h.abortTest.cancelBist with dev := { h.abortTest.cancelBist.dev with safe := true, exitStep := 0 } } :=
    htest.trans ⟨rfl, rfl, rfl, rfl⟩
  exact ((hsafe.to (noBoltRel_moves _)).to (wantTone_moves _ _)).to (sendSafe_moves _ _ fun _ hc => List.mem_range.mp (List.mem_of_mem_filter hc))

theorem enterSafe_stays (h : Hub) (n : Nat) : Stays h (h.enterSafe n) := by
  cases hs : h.dev.safe
  · rw [enterSafe_eq hs]
    exact ((safeBefore_stays h).trans (.forAll (fun k t ht => (Stays.refl k).to (tmbStop_moves _ _ _ _ (List.mem_range.mp ht))) _)).to
      (safeAfter_moves _ n)
  · have hexit : Stays h { h with dev := { h.dev with exitStep := 0 } } := ⟨rfl, rfl, rfl, rfl⟩
    unfold Hub.enterSafe
    refine .ite (.refl h) ?_
    rw [hs, if_pos rfl]
    exact ((hexit.to (noBoltRel_moves _)).to (wantTone_moves _ _)).trans ⟨rfl, rfl, rfl, rfl⟩

theorem holdWard_stays (h : Hub) (w n : Nat) : Stays h (h.holdWard w n) := by
  have hheld (hw : ¬ (w == 0) = true) : Stays h (h.setWard w .held) :=
    ⟨rfl, rfl, vget_vset_ne (fun he => hw (beq_iff_eq.mpr he.symm)), rfl⟩
  unfold Hub.holdWard
  split
  · exact enterSafe_stays h n
  case isFalse hw =>
    have hsafe := (hheld hw).to (sendSafe_moves _ (h.chsOf w) fun _ hc => bitList_lt hc)
    exact .ite (hsafe.trans (.forAll (fun k t ht => (Stays.refl k).to (tmbStop_moves _ _ _ _ (bitList_lt ht))) _)) (.refl h)

theorem wardReaction_stays (h : Hub) (n wards : Nat) : Stays h (h.wardReaction n wards) := by
  have hints : Stays h (if 1 ≤ h.fltClass n then forAll (bitList 8 wards) (fun h w => h.intEvent w 2) h else h) :=
    .ite (.forAll (fun k _ _ => (Stays.refl k).to (intEvent_moves _ _ _)) h) (.refl h)
  exact .ite (hints.trans (.forAll (fun k w _ => holdWard_stays k w n) _)) hints

theorem occurNow_stays (h : Hub) (n wards detail : Nat) (forced rec late : Bool) : Stays h (h.occurNow n wards detail forced rec late) := by
  unfold Hub.occurNow
  dsimp only
  have hflt (f : Flt) : Stays h { h with flt := f } := ⟨rfl, rfl, rfl, rfl⟩
  refine .ite (.refl h) (.ite (hflt _) ?_)
  have hmask (f g : Flt) : Stays h { (Hub.detailWord { h with flt := f } detail).2 with flt := g } :=
    ((hflt f).to (detailWord_moves _ _)).trans ⟨rfl, rfl, rfl, rfl⟩
  have hrec {k : Hub} {q : Prop} [Decidable q] (x : Stays h k) (e : RecEvent) : Stays h (if q then k.intake e else k) := .ite (x.to (intake_moves _ _)) x
  have hfirst {k : Hub} {q : Prop} [Decidable q] (x : Stays h k) (d : Nat) : Stays h (if q then k.captureFirst n d forced else k) :=
    .ite (x.to (captureFirst_moves _ _ _ _)) x
  have hreact {k : Hub} (x : Stays h k) (w : Nat) (q : Bool) : Stays h (if k.judgesLater then k else if
      q && (k.wardReaction n w).fltClass n == 5 then (k.wardReaction n w).enterSafe n else k.wardReaction n w) :=
    .ite x (.ite ((x.trans (wardReaction_stays _ _ _)).trans (enterSafe_stays _ _)) (x.trans (wardReaction_stays _ _ _)))
  exact hreact (hrec (hfirst (hmask _ _) _) _) _ _

theorem event_stays (h : Hub) (n wards detail : Nat) : Stays h (h.event n wards detail) :=
  .ite (.refl h) (.ite (.ite ((Stays.refl h).trans ⟨rfl, rfl, rfl, rfl⟩) ((Stays.refl h).trans ⟨rfl, rfl, rfl, rfl⟩)) (occurNow_stays _ _ _ _ _ _ _))

end Sys2Proof.Machine

/-!
PROOF. The recovery commands, the slot check, the Keeper's reboot and the key-hash fuse (R182, R185, R188, R189).
-/

namespace Sys2Proof.Machine

set_option Elab.async false

/-! ### A recovery command -/

section
variable {h : Hub} {w v : Nat}

/-- The hub once a recovery command is busy. -/
def Hub.rcvBusy (h : Hub) (cmd : Nat) : Hub :=
  { h.put BLK_RCV_STAT_busy true with blk := { h.blk with rcv := some (cmd, h.rd BLK_RCV_ADDR_addr) } }

theorem rcvRow_eq {cmd : Nat} (hw : h.recoveryWrites w = true) (hcmd : v % 16 = cmd) : h.rcvRow w v cmd = h.writeRcvCmd v := by
  unfold Hub.rcvRow
  rw [hw, hcmd]
  simp

theorem recovery_not_resetting (hw : h.recoveryWrites w = true) : h.dev.softReset = none := by
  rw [Hub.recoveryWrites, Bool.and_eq_true] at hw
  exact Option.isNone_iff_eq_none.mp hw.2

theorem orderReset_of_none (cause ward : Nat) (hn : h.dev.softReset = none) :
    h.orderReset cause ward = { h with dev := { h.dev with softReset := some (cause, ward) } } := by
  unfold Hub.orderReset
  rw [hn]
  rfl

theorem writeRcvCmd_reboot (hkey : bitsOf v 16 16 = 0x5243) (hcmd : v % 16 = 4) : h.writeRcvCmd v = h.orderReset 6 0 := by
  unfold Hub.writeRcvCmd
  rw [hkey, hcmd]
  rfl

theorem writeRcvCmd_keyless (hkey : bitsOf v 16 16 ≠ 0x5243) : h.writeRcvCmd v = h := by
  unfold Hub.writeRcvCmd
  exact if_pos (bne_iff_ne.mpr hkey)

theorem writeRcvCmd_row {cmd : Nat} (hkey : bitsOf v 16 16 = 0x5243) (hcmd : v % 16 = cmd) (hrow : cmd = 1 ∨ cmd = 2 ∨ cmd = 3)
    (hbusy : h.flag BLK_RCV_STAT_busy = false) : h.writeRcvCmd v =
      if h.rd BLK_RCV_ADDR_addr % (if cmd == 1 then 4096 else 256) != 0 then h.rcvEnd 1
      else if cmd == 3 then (h.rcvBusy cmd).nvmAdd { use := .recovery, kind := 0, addr := h.rd BLK_RCV_ADDR_addr }
      else (h.rcvBusy cmd).nvmCand (cmd == 1) 2 2 := by
  unfold Hub.writeRcvCmd
  dsimp only
  rw [hkey, hcmd, hbusy]
  rcases hrow with rfl | rfl | rfl <;> rfl

theorem writeRcvCmd_misaligned {cmd : Nat} (hkey : bitsOf v 16 16 = 0x5243) (hcmd : v % 16 = cmd) (hrow : cmd = 1 ∨ cmd = 2 ∨ cmd = 3)
    (hbusy : h.flag BLK_RCV_STAT_busy = false) (ha : h.rd BLK_RCV_ADDR_addr % (if cmd == 1 then 4096 else 256) ≠ 0) : h.writeRcvCmd v = h.rcvEnd 1 :=
  (writeRcvCmd_row hkey hcmd hrow hbusy).trans (if_pos (bne_iff_ne.mpr ha))

theorem writeRcvCmd_asks {cmd : Nat} (hkey : bitsOf v 16 16 = 0x5243) (hcmd : v % 16 = cmd) (hrow : cmd = 1 ∨ cmd = 2 ∨ cmd = 3)
    (hbusy : h.flag BLK_RCV_STAT_busy = false) (ha : h.rd BLK_RCV_ADDR_addr % (if cmd == 1 then 4096 else 256) = 0) :
    h.writeRcvCmd v = if cmd == 3 then (h.rcvBusy cmd).nvmAdd { use := .recovery, kind := 0, addr := h.rd BLK_RCV_ADDR_addr }
      else (h.rcvBusy cmd).nvmCand (cmd == 1) 2 2 :=
  (writeRcvCmd_row hkey hcmd hrow hbusy).trans (if_neg (by simpa using ha))

theorem rcvBusy_flag (h : Hub) (cmd : Nat) : (h.rcvBusy cmd).flag BLK_RCV_STAT_busy = true := by
  have hput : (h.put BLK_RCV_STAT_busy true).flag BLK_RCV_STAT_busy = true := Hub.flag_put_self _ _ _ _ _ rfl
  exact hput

/-- What the end of a recovery command shows. -/
theorem rcvEnd_shows (h : Hub) {result : Nat} (hr : result < 16) : (h.rcvEnd result).rd BLK_RCV_STAT_result = result ∧
    (h.rcvEnd result).flag BLK_RCV_STAT_busy = false ∧ (h.rcvEnd result).rd BLK_RCV_STAT_done = satInc 65535 (h.rd BLK_RCV_STAT_done) := by
  unfold Hub.rcvEnd
  refine ⟨?_, ?_, ?_⟩
  · rw [Hub.rd_count_apart _ _ _ _ _ _ (by decide), Hub.rd_put_apart _ _ _ _ _ _ (by decide)]
    exact Hub.rd_wr_of_lt _ _ _ hr
  · rw [Hub.flag_count_apart _ _ _ _ _ _ (by decide)]
    exact Hub.flag_put_self _ _ _ _ _ rfl
  · refine (Hub.rd_count_satInc _ _ _ _).trans ?_
    rw [Hub.rd_put_apart _ _ _ _ _ _ (by decide), Hub.rd_wr_apart _ _ _ _ _ _ (by decide)]
    rfl

/-- A program or erase of a recovery command is asked of the scheduler. -/
theorem nvmCand_asked (h : Hub) (cmd : Nat) (erase : Bool) : ((h.rcvBusy cmd).nvmCand erase 2 2).flag BLK_RCV_STAT_busy = true ∧
    ((h.rcvBusy cmd).nvmCand erase 2 2).blk.rcv = some (cmd, h.rd BLK_RCV_ADDR_addr) ∧
    ((h.rcvBusy cmd).nvmCand erase 2 2).sch.queue.any (fun x => x.kind == (if erase then .nvmErase else .nvmPage) && x.ref == 2) = true ∧
    ((h.rcvBusy cmd).nvmCand erase 2 2).nvm = h.nvm := by
  have hasked : Moves ⟨[.sch], [SCH_STAT_queued], []⟩ (h.rcvBusy cmd) ((h.rcvBusy cmd).nvmCand erase 2 2) := submit_moves _ _
  refine ⟨(hasked.flag BLK_RCV_STAT_busy 0 0 Nat.one_pos).trans (rcvBusy_flag h cmd), ?_, submit_queued _ _, hasked.keeps .nvm⟩
  rw [hasked.keeps .blk]
  rfl

/-- The NVM's operation that starts is one of those that wait, and the others wait still. -/
theorem nvmGo_contains {o : NvmOp} (hin : o ∈ h.nvmQ) : o ∈ h.nvmGo.nvmOp.toList ++ h.nvmGo.nvmQ := by
  have hstill : o ∈ h.nvmOp.toList ++ h.nvmQ := List.mem_append_right _ hin
  unfold Hub.nvmGo
  split
  · exact hstill
  · split
    · exact hstill
    · next x rest _ =>
      have htaken : o ∈ (some x).toList ++ h.nvmQ.erase x := by
        by_cases hox : o = x
        · subst hox
          exact List.mem_append_left _ (by simp)
        · exact List.mem_append_right _ ((List.mem_erase_of_ne hox).mpr hin)
      dsimp only
      split
      · exact htaken
      · exact htaken

theorem nvmGo_rcv (h : Hub) : h.nvmGo.blk.rcv = h.blk.rcv := by
  unfold Hub.nvmGo
  split
  · rfl
  · split
    · rfl
    · dsimp only
      split <;> rfl

/-- A read of a recovery command is taken by the NVM controller. -/
theorem nvmAdd_taken (h : Hub) (cmd : Nat) (o : NvmOp) : ((h.rcvBusy cmd).nvmAdd o).flag BLK_RCV_STAT_busy = true ∧
    ((h.rcvBusy cmd).nvmAdd o).blk.rcv = some (cmd, h.rd BLK_RCV_ADDR_addr) ∧
    (((h.rcvBusy cmd).nvmAdd o).nvmOp.toList ++ ((h.rcvBusy cmd).nvmAdd o).nvmQ).contains o = true ∧ ((h.rcvBusy cmd).nvmAdd o).nvm = h.nvm := by
  have hgone := nvmGo_moves_check { h.rcvBusy cmd with nvmQ := (h.rcvBusy cmd).nvmQ ++ [o] }
  refine ⟨(hgone.flag BLK_RCV_STAT_busy 0 0 Nat.one_pos).trans (rcvBusy_flag h cmd), nvmGo_rcv _, ?_, hgone.keeps .nvm⟩
  rw [List.contains_iff_mem]
  exact nvmGo_contains (List.mem_append_right _ (List.mem_singleton.mpr rfl))

end

/-! ### The end of a recovery operation -/

theorem leNat_lt (l : List Nat) : leNat l < 256 ^ l.length := by
  induction l with
  | nil => exact Nat.one_pos
  | cons b rest ih =>
    rw [leNat, List.length_cons, Nat.pow_succ]
    have hb : b % 256 < 256 := Nat.mod_lt _ (by decide)
    omega

theorem nvmRead_length (h : Hub) (d a n : Nat) : (h.nvmRead d a n).length = n := by simp [Hub.nvmRead, cellsGet]

/-- A word of the recovery buffer. -/
def Hub.rcvFill (d a : Nat) (h : Hub) (i : Nat) : Hub := h.wr BLK_RCV_BUF_data (leNat (h.nvmRead d (a + 4 * i) 4)) i

/-- The hub with what a recovery read has brought in its buffer. -/
def Hub.rcvFilled (h : Hub) (d a : Nat) : Hub := forAll (List.range 64) (Hub.rcvFill d a) h

theorem rcvFilled_moves (h : Hub) (d a : Nat) : Moves ⟨[], [BLK_RCV_BUF_data], []⟩ h (h.rcvFilled d a) :=
  (Moves.refl _ h).forAll fun k _ hi => (Moves.refl _ k).wr _ _ _ _ (List.mem_range.mp hi)

theorem rcvFilled_data (h : Hub) (d a : Nat) {i : Nat} (hi : i < 64) : (h.rcvFilled d a).rd BLK_RCV_BUF_data i = leNat (h.nvmRead d (a + 4 * i) 4) := by
  have hread (k : Hub) (hk : k.nvm = h.nvm) (j : Nat) : k.nvmRead d (a + 4 * j) 4 = h.nvmRead d (a + 4 * j) 4 := by
    simp only [Hub.nvmRead, Hub.nvmDev, hk]
  refine forAll_at (f := Hub.rcvFill d a) (Q := fun k => k.nvm = h.nvm) (D := fun k => k.rd BLK_RCV_BUF_data i = leNat (h.nvmRead d (a + 4 * i) 4))
    (List.mem_range.mpr hi) List.nodup_range (fun _ _ _ hk => hk) (fun k hk => ?_) (fun k j hj hk => ?_) rfl
  · rw [Hub.rcvFill, hread k hk]
    refine Hub.rd_wr_of_lt _ _ _ ?_
    have hlt := leNat_lt (h.nvmRead d (a + 4 * i) 4)
    rw [nvmRead_length, show (256 : Nat) ^ 4 = 2 ^ 32 by norm_num] at hlt
    exact hlt
  · have hne : fldKey BLK_RCV_BUF_data i 0 ≠ fldKey BLK_RCV_BUF_data j 0 := fldKey_ne_of_index (by decide) (Ne.symm hj) 0 0
    exact (Hub.rd_wr_ne hne).trans hk

/-- The hub once the NVM has made a recovery operation. -/
def Hub.rcvMade (h : Hub) (o : NvmOp) (good0 good1 : Bool) : Hub :=
  let k := (h.nvmDone good0 good1).costEnd (if o.kind == 2 then .nvmErase else .nvmPage) 2
  { k with blk := { k.blk with rcv := none } }

/-- The device that a recovery read reads. -/
def Hub.rcvDev (h : Hub) : Nat := if (h.nvmDev 0).present then 0 else 1

/-- A recovery operation was made on every device present. -/
def Hub.rcvGood (h : Hub) (o : NvmOp) (good0 good1 : Bool) : Bool := (good0 || h.rcvDev == 1) && (good1 || o.kind == 0 || !(h.nvmDev 1).present)

theorem rcvDone_eq (h : Hub) (o : NvmOp) (good0 good1 : Bool) : h.rcvDone o good0 good1 =
    (if o.kind == 0 && h.rcvGood o good0 good1 then (h.rcvMade o good0 good1).rcvFilled h.rcvDev o.addr else h.rcvMade o good0 good1).rcvEnd
      (if h.rcvGood o good0 good1 then 0 else 2) := rfl

theorem nvmDone_moves_check {h : Hub} (good0 good1 : Bool) :
    Moves ⟨[.blk, .nvm, .nvmOp, .nvmQ, .free], [BLK_CHECK_reason], []⟩ h (h.nvmDone good0 good1) := by
  unfold Hub.nvmDone
  split
  · exact Moves.refl _ h
  · exact ((((Moves.refl _ h).nvmOp _).to (nvmEffect_moves _ _ _ _))).to (nvmGo_moves_check _)

theorem rcvMade_moves (h : Hub) (o : NvmOp) (good0 good1 : Bool) :
    Moves ⟨[.blk, .nvm, .nvmOp, .nvmQ, .free, .sch], [BLK_CHECK_reason], []⟩ h (h.rcvMade o good0 good1) :=
  (((Moves.refl _ h).to (nvmDone_moves_check _ _)).to (costEnd_moves _ _ _)).blk _

theorem nvmDone_nvm {h : Hub} {o : NvmOp} (good0 good1 : Bool) (ho : h.nvmOp = some o) :
    (h.nvmDone good0 good1).nvm = (Hub.nvmEffect { h with nvmOp := none } o good0 good1).nvm := by
  unfold Hub.nvmDone
  rw [ho]
  exact (nvmGo_moves _).keeps .nvm

theorem rcvMade_nvm_read {h : Hub} {o : NvmOp} (good0 good1 : Bool) (ho : h.nvmOp = some o) (hk : o.kind = 0) :
    (h.rcvMade o good0 good1).nvm = h.nvm := by
  refine Eq.trans (nvmDone_nvm good0 good1 ho) ?_
  unfold Hub.nvmEffect
  rw [if_pos (beq_iff_eq.mpr hk)]

theorem onNvm_nvm_congr {h k : Hub} (hn : k.nvm = h.nvm) (both : Bool) (f g : NvmDev → NvmDev) : (k.onNvm both f g).nvm = (h.onNvm both f g).nvm := by
  have hdev (d : Nat) : k.nvmDev d = h.nvmDev d := by rw [Hub.nvmDev, hn, Hub.nvmDev]
  unfold Hub.onNvm
  dsimp only
  rw [hdev, hdev]
  by_cases hboth : (both && (h.nvmDev 1).present) = true
  · rw [if_pos hboth, if_pos hboth]
    split
    · rw [hn]
    · rw [hn]
  · rw [if_neg hboth, if_neg hboth]
    split
    · exact hn
    · rw [hn]

theorem rcvMade_nvm_made {h : Hub} {o : NvmOp} (ho : h.nvmOp = some o) (hk : o.kind ≠ 0) (huse : (o.use == .recovery) = true) :
    (h.rcvMade o true true).nvm = (h.onNvm true o.make o.make).nvm := by
  refine Eq.trans (nvmDone_nvm true true ho) ?_
  unfold Hub.nvmEffect
  rw [if_neg (by simpa using hk), Hub.nvmBoth, huse, Bool.or_true, if_pos (by rfl)]
  exact onNvm_nvm_congr (k := { h with nvmOp := none }) (h := h) rfl true o.make o.make

end Sys2Proof.Machine

/-!
PROOF. The commands of Recovery, of the slot check and of the fuse, clause by clause.
-/

namespace Sys2Proof.Machine

set_option Elab.async false

theorem blkWrites_not_resetting {h : Hub} {w : Nat} (hw : h.blkWrites w = true) : h.dev.softReset = none := by
  rw [Hub.blkWrites, Bool.or_eq_true] at hw
  rcases hw with hwrite | hrecover
  · simp only [Hub.writable, Bool.and_eq_true] at hwrite
    exact Option.isNone_iff_eq_none.mp hwrite.1.2
  · exact recovery_not_resetting hrecover

/-! ### The end of a recovery operation -/

theorem rcvDev_second (h : Hub) : (h.rcvDev == 1) = !(h.nvmDev 0).present := by
  unfold Hub.rcvDev
  cases (h.nvmDev 0).present <;> rfl

/-- What the end of a recovery operation leaves. -/
theorem rcvDone_leaves {h : Hub} {o : NvmOp} (good0 good1 : Bool) (ho : h.nvmOp = some o) (huse : (o.use == .recovery) = true) :
    (h.rcvDone o good0 good1).rd BLK_RCV_STAT_result = (if h.rcvGood o good0 good1 then 0 else 2) ∧
    (o.kind = 0 → h.rcvGood o good0 good1 = true → ∀ i, i < 64 → (h.rcvDone o good0 good1).rd BLK_RCV_BUF_data i =
      leNat (h.nvmRead h.rcvDev (o.addr + 4 * i) 4)) ∧
    (h.rcvDone o good0 good1).flag BLK_RCV_STAT_busy = false ∧
    (h.rcvDone o good0 good1).rd BLK_RCV_STAT_done = satInc 65535 (h.rd BLK_RCV_STAT_done) ∧ (h.rcvDone o good0 good1).blk.rcv = none ∧
    (o.kind ≠ 0 → good0 = true → good1 = true → (h.rcvDone o good0 good1).nvm = (h.onNvm true o.make o.make).nvm) := by
  have hmade := rcvMade_moves h o good0 good1
  generalize hk : (if o.kind == 0 && h.rcvGood o good0 good1 then (h.rcvMade o good0 good1).rcvFilled h.rcvDev o.addr else h.rcvMade o good0 good1) = k
  have hfilled : Moves ⟨[], [BLK_RCV_BUF_data], []⟩ (h.rcvMade o good0 good1) k := by
    rw [← hk]
    exact .ite (rcvFilled_moves _ _ _) (Moves.refl _ _)
  have hresult : (if h.rcvGood o good0 good1 then 0 else 2) < 16 := by split <;> decide
  obtain ⟨hres, hbusy, hdone⟩ := rcvEnd_shows k hresult
  have hend := rcvEnd_moves k (if h.rcvGood o good0 good1 then 0 else 2)
  rw [rcvDone_eq, hk]
  refine ⟨hres, fun hkind hgood i hi => ?_, hbusy, ?_, ?_, fun hkind h0 h1 => ?_⟩
  · have hdata : (k.rcvEnd (if h.rcvGood o good0 good1 then 0 else 2)).rd BLK_RCV_BUF_data i = k.rd BLK_RCV_BUF_data i := by
      have hshown : Moves ⟨[], [BLK_RCV_STAT_result, BLK_RCV_STAT_busy, BLK_RCV_STAT_done], []⟩ k
          (k.rcvEnd (if h.rcvGood o good0 good1 then 0 else 2)) :=
        (((Moves.refl _ k).wr _ _ _ _ Nat.one_pos).put _ _ _ _ Nat.one_pos).count _ _ _ _ Nat.one_pos
      exact hshown.rd BLK_RCV_BUF_data i 0 hi
    rw [hdata, ← hk, if_pos (Bool.and_eq_true_iff.mpr ⟨beq_iff_eq.mpr hkind, hgood⟩), rcvFilled_data _ _ _ hi]
    simp only [Hub.nvmRead, Hub.nvmDev, rcvMade_nvm_read good0 good1 ho hkind]
  · rw [hdone, hfilled.rd BLK_RCV_STAT_done 0 0 Nat.one_pos, hmade.rd BLK_RCV_STAT_done 0 0 Nat.one_pos]
  · rw [hend.keeps .blk, hfilled.keeps .blk]
    rfl
  · subst h0 h1
    rw [hend.keeps .nvm, hfilled.keeps .nvm]
    exact rcvMade_nvm_made ho hkind huse

/-! ### The slot check -/

/-- What a slot check finds on the first device: the header's fault, or the image's verdict. -/
def Hub.checkVerdict (h : Hub) (readOk : Bool) : Verdict :=
  let lost : List (Fin 4) := if readOk then [] else [0, 1]
  let hdr := h.copyHeader lost (1 - h.rd BLK_STAT_slot) 0
  if hdr != 0 then { reason := hdr } else h.judgeCopy lost { slot := 1 - h.rd BLK_STAT_slot }

/-- The hub with a slot check ended. -/
def Hub.checkOver (h : Hub) : Hub := { h.put BLK_CTRL_check false with blk := { h.blk with checking := false, checkStale := false } }

/-- The hub with the result of a slot check shown. -/
def Hub.checkShown (h : Hub) (v : Verdict) (gen : Nat) : Hub :=
  ((((h.wr BLK_CHECK_reason v.reason).wr BLK_CHECK_section v.section_).wr BLK_CHECK_record v.record).wr BLK_CHECK_device 0).wr
    BLK_CHECK_GEN_generation gen

/-- The hub once a slot check has ended, before it is told. -/
def Hub.checkJudged (h : Hub) (readOk : Bool) (gen : Nat) : Hub := if h.blk.checkStale then h.checkOver else h.checkOver.checkShown (h.checkVerdict readOk) gen

/-- The hub once a slot check has ended and is told. -/
def Hub.checkTold (h : Hub) (readOk : Bool) (gen : Nat) : Hub :=
  if readOk then h.checkJudged readOk gen else (h.checkJudged readOk gen).event 60 1 detailOpen

theorem execBlkCheckDone_eq (readOk : Bool) (s : State) : ∃ gen : Hub → Nat, execBlkCheckDone readOk s =
    s.on (fun h => if !h.blk.checking then h else (h.checkTold readOk (gen h)).intEvent 0 22) :=
  ⟨fun h => if h.copyHeader (if readOk then [] else [0, 1]) (1 - h.rd BLK_STAT_slot) 0 == 1 ||
    h.copyHeader (if readOk then [] else [0, 1]) (1 - h.rd BLK_STAT_slot) 0 == 2 then 0 else numAt (h.nvmRead 0 (0x20000 * (1 - h.rd BLK_STAT_slot)) 64) 0x0C 4,
    rfl⟩

section
variable (h : Hub) (readOk : Bool) (gen : Nat)

theorem checkJudged_blk : (h.checkJudged readOk gen).blk = { h.blk with checking := false, checkStale := false } := by
  unfold Hub.checkJudged
  split <;> rfl

theorem checkJudged_flag : (h.checkJudged readOk gen).flag BLK_CTRL_check = false := by
  have hover : h.checkOver.flag BLK_CTRL_check = false := by
    have hput : (h.put BLK_CTRL_check false).flag BLK_CTRL_check = false := Hub.flag_put_self _ _ _ _ _ rfl
    exact hput
  unfold Hub.checkJudged Hub.checkShown
  split
  · exact hover
  · rw [Hub.flag_wr_apart _ _ _ _ _ _ (by decide), Hub.flag_wr_apart _ _ _ _ _ _ (by decide), Hub.flag_wr_apart _ _ _ _ _ _ (by decide),
      Hub.flag_wr_apart _ _ _ _ _ _ (by decide), Hub.flag_wr_apart _ _ _ _ _ _ (by decide)]
    exact hover

theorem checkJudged_reason : (h.checkJudged readOk gen).rd BLK_CHECK_reason =
    if h.blk.checkStale then h.rd BLK_CHECK_reason else (h.checkVerdict readOk).reason % 16 := by
  have hover : h.checkOver.rd BLK_CHECK_reason = h.rd BLK_CHECK_reason := by
    have hput := Hub.rd_put_apart h (f := BLK_CTRL_check) (g := BLK_CHECK_reason) false 0 0 0 0 (by decide)
    exact hput
  unfold Hub.checkJudged Hub.checkShown
  split
  · exact hover
  · rw [Hub.rd_wr_apart _ _ _ _ _ _ (by decide), Hub.rd_wr_apart _ _ _ _ _ _ (by decide), Hub.rd_wr_apart _ _ _ _ _ _ (by decide),
      Hub.rd_wr_apart _ _ _ _ _ _ (by decide), Hub.rd_wr_self]
    rfl

theorem checkJudged_stays : Stays h (h.checkJudged readOk gen) := by
  unfold Hub.checkJudged
  split <;> exact ⟨rfl, rfl, rfl, rfl⟩

theorem checkTold_moves : Moves faultFoot (h.checkJudged readOk gen) (h.checkTold readOk gen) :=
  .ite (Moves.refl _ _) (event_moves _ _ _ _)

theorem checkTold_stays : Stays h (h.checkTold readOk gen) := by
  have hjudged := checkJudged_stays h readOk gen
  exact .ite hjudged (hjudged.trans (event_stays _ _ _ _))

/-- A slot that cannot be read fails with the first reason. -/
theorem checkVerdict_lost : (h.checkVerdict false).reason = 1 := by
  have hslot : 1 - h.rd BLK_STAT_slot = 0 ∨ 1 - h.rd BLK_STAT_slot = 1 := by omega
  have hhdr : h.copyHeader [0, 1] (1 - h.rd BLK_STAT_slot) 0 = 1 := by
    have hlost : (([0, 1] : List (Fin 4)).any (fun k => k.val == (1 - h.rd BLK_STAT_slot) + 2 * 0)) = true := by
      rcases hslot with hs | hs
      · rw [hs]
        decide
      · rw [hs]
        decide
    unfold Hub.copyHeader
    rw [hlost, Bool.or_true, if_pos (Eq.refl true)]
  unfold Hub.checkVerdict
  dsimp only
  rw [if_neg Bool.false_ne_true, hhdr, if_pos (by decide)]

theorem checkVerdict_read : (h.checkVerdict true).reason = if h.copyHeader [] (1 - h.rd BLK_STAT_slot) 0 = 0 then
    (h.judgeCopy [] { slot := 1 - h.rd BLK_STAT_slot }).reason else h.copyHeader [] (1 - h.rd BLK_STAT_slot) 0 := by
  unfold Hub.checkVerdict
  dsimp only
  rw [if_pos (Eq.refl true)]
  by_cases hz : h.copyHeader [] (1 - h.rd BLK_STAT_slot) 0 = 0
  · rw [if_pos hz, hz, if_neg (by decide)]
  · rw [if_neg hz, if_pos (bne_iff_ne.mpr hz)]

end

/-! ### The Keeper's reboot -/

/-- The hub with the slot check abandoned. -/
def Hub.checkDropped (h : Hub) : Hub := { h.put BLK_CTRL_check false with blk := { h.blk with checking := false } }

/-- What the Keeper's reboot leaves (R189). -/
theorem writeBlkReboot_orders {h : Hub} (hn : h.dev.softReset = none) : (h.writeBlkReboot 0 0x52424F54).dev.softReset = some (5, 0) ∧
    (h.writeBlkReboot 0 0x52424F54).blk.checking = false ∧ (h.writeBlkReboot 0 0x52424F54).flag BLK_CTRL_check = false ∧
    (h.writeBlkReboot 0 0x52424F54).nvmOp = h.nvmOp := by
  have hput : (h.put BLK_CTRL_check false).flag BLK_CTRL_check = false := Hub.flag_put_self _ _ _ _ _ rfl
  have heq : h.writeBlkReboot 0 0x52424F54 = h.checkDropped.orderReset 5 0 := rfl
  rw [heq, orderReset_of_none 5 0 (h := h.checkDropped) hn]
  exact ⟨rfl, rfl, hput, rfl⟩

/-! ### The fuse -/

/-- What a request of the key-hash fuse leaves (R185). -/
theorem writeBlkFuse_fuses {h : Hub} (hgo : (h.fuseOk && !h.blk.fusing) = true) :
    (h.writeBlkFuse 0 0x46555345).blk.fusing = true ∧ (h.writeBlkFuse 0 0x46555345).chip.hashState = max 1 h.chip.hashState ∧
      (h.writeBlkFuse 0 0x46555345).chip.hashAttempts = satInc 255 h.chip.hashAttempts ∧
      h.blk.keyHash = some (h.writeBlkFuse 0 0x46555345).chip.keyHash ∧ (h.writeBlkFuse 0 0x46555345).regs = h.regs := by
  have hok : (h.fuseOk && !h.blk.fusing) = true := hgo
  rw [Bool.and_eq_true] at hgo
  obtain ⟨hfuse, -⟩ := hgo
  have hkey : h.blk.keyHash.isSome = true := by
    rw [Hub.fuseOk, Bool.and_eq_true] at hfuse
    obtain ⟨-, hmatch⟩ := hfuse
    cases hk : h.blk.keyHash with
    | none =>
      rw [hk] at hmatch
      exact absurd hmatch Bool.false_ne_true
    | some k => rfl
  obtain ⟨k, hk⟩ := Option.isSome_iff_exists.mp hkey
  unfold Hub.writeBlkFuse
  rw [if_pos (by simpa using hok)]
  refine ⟨rfl, rfl, rfl, ?_, rfl⟩
  rw [hk]
  rfl

/-! ### The commands -/

/-- Settles O11, by the recovery command's row, what its end shows, and what a slot check tells. -/
theorem recoveryCommands : Obligations.RecoveryCommands := by
  unfold Obligations.RecoveryCommands
  refine ⟨?erase, ?eraseOff, ?program, ?programOff, ?read, ?reboot, ?noReboot, ?done, ?check, ?noCheck, ?checked, ?keeper, ?noKeeper, ?fuse, ?noFuse,
    ?fused⟩
  case erase =>
    intro s w v hc
    simp only [Can.rcvErase, Bool.and_eq_true, beq_iff_eq, Bool.not_eq_true'] at hc
    obtain ⟨⟨⟨⟨hw, hkey⟩, hcmd⟩, hbusy⟩, ha⟩ := hc
    refine completes_of_begun (exec_rcvErase w v s) ?_
    rw [rcvRow_eq (h := s.hub.begun) hw hcmd, writeRcvCmd_asks (h := s.hub.begun) hkey hcmd (.inl rfl) hbusy ha]
    exact nvmCand_asked s.hub.begun 1 true
  case eraseOff =>
    intro s w v hc
    simp only [Can.rcvErase2, Bool.and_eq_true, beq_iff_eq, Bool.not_eq_true', bne_iff_ne] at hc
    obtain ⟨⟨⟨⟨hw, hkey⟩, hcmd⟩, hbusy⟩, ha⟩ := hc
    obtain ⟨hresult, hflag, hdone⟩ := rcvEnd_shows s.hub.begun (result := 1) (by decide)
    refine completes_of_begun (exec_rcvErase w v s) ?_
    rw [rcvRow_eq (h := s.hub.begun) hw hcmd, writeRcvCmd_misaligned (h := s.hub.begun) hkey hcmd (.inl rfl) hbusy ha]
    exact ⟨hresult, hflag, hdone, rfl⟩
  case program =>
    intro s w v hc
    simp only [Can.rcvProgram, Bool.and_eq_true, beq_iff_eq, Bool.not_eq_true'] at hc
    obtain ⟨⟨⟨⟨hw, hkey⟩, hcmd⟩, hbusy⟩, ha⟩ := hc
    refine completes_of_begun (exec_rcvProgram w v s) ?_
    rw [rcvRow_eq (h := s.hub.begun) hw hcmd, writeRcvCmd_asks (h := s.hub.begun) hkey hcmd (.inr (.inl rfl)) hbusy ha]
    exact nvmCand_asked s.hub.begun 2 false
  case programOff =>
    intro s w v hc
    simp only [Can.rcvProgram2, Bool.and_eq_true, beq_iff_eq, Bool.not_eq_true', bne_iff_ne] at hc
    obtain ⟨⟨⟨⟨hw, hkey⟩, hcmd⟩, hbusy⟩, ha⟩ := hc
    obtain ⟨hresult, hflag, hdone⟩ := rcvEnd_shows s.hub.begun (result := 1) (by decide)
    refine completes_of_begun (exec_rcvProgram w v s) ?_
    rw [rcvRow_eq (h := s.hub.begun) hw hcmd, writeRcvCmd_misaligned (h := s.hub.begun) hkey hcmd (.inr (.inl rfl)) hbusy ha]
    exact ⟨hresult, hflag, hdone, rfl⟩
  case read =>
    intro s w v hc
    simp only [Can.rcvRead, Bool.and_eq_true, beq_iff_eq, Bool.not_eq_true'] at hc
    obtain ⟨⟨⟨⟨hw, hkey⟩, hcmd⟩, hbusy⟩, ha⟩ := hc
    refine completes_of_begun (exec_rcvRead w v s) ?_
    rw [rcvRow_eq (h := s.hub.begun) hw hcmd, writeRcvCmd_asks (h := s.hub.begun) hkey hcmd (.inr (.inr rfl)) hbusy ha]
    exact nvmAdd_taken s.hub.begun 3 { use := .recovery, kind := 0, addr := s.hub.begun.rd BLK_RCV_ADDR_addr }
  case reboot =>
    intro s w v hc
    simp only [Can.rcvReboot, Bool.and_eq_true, beq_iff_eq] at hc
    obtain ⟨⟨hw, hkey⟩, hcmd⟩ := hc
    refine completes_of_begun (exec_rcvReboot w v s) ?_
    rw [rcvRow_eq (h := s.hub.begun) hw hcmd, writeRcvCmd_reboot (h := s.hub.begun) hkey hcmd,
      orderReset_of_none 6 0 (recovery_not_resetting (h := s.hub.begun) hw)]
    exact ⟨rfl, rfl, rfl, rfl⟩
  case noReboot =>
    intro s w v hc
    simp only [Can.rcvReboot2, Bool.and_eq_true, bne_iff_ne] at hc
    refine completes_of_begun (exec_rcvReboot w v s) ?_
    unfold Hub.rcvRow
    rw [writeRcvCmd_keyless (h := s.hub.begun) hc.2, ite_self]
    exact ⟨rfl, rfl⟩
  case done =>
    intro s good mirrorOk hc
    rw [Can.rcvCommandDone, Option.any_eq_true] at hc
    obtain ⟨o, ho, huse⟩ := hc
    have hop : s.hub.begun.nvmOp = some o := ho
    refine completes_of_begun (exec_rcvCommandDone ⟨good, mirrorOk⟩ s) ?_
    dsimp only
    rw [hop]
    dsimp only
    rw [if_pos huse]
    have hok : s.hub.begun.rcvGood o good mirrorOk =
        ((good || !(s.hub.nvmDev 0).present) && (mirrorOk || (s.hub.nvmOp.map (·.kind)) == some 0 || !(s.hub.nvmDev 1).present)) := by
      rw [ho, Hub.rcvGood, rcvDev_second]
      rfl
    obtain ⟨hresult, hdata, hbusy, hdone, hrcv, hmade⟩ := rcvDone_leaves (h := s.hub.begun) good mirrorOk hop huse
    rw [← hok]
    refine ⟨⟨hresult, fun x hx hk hgood i => ?_⟩, hbusy, hdone, hrcv, fun x hx hk hg hm => ?_⟩
    · obtain rfl : o = x := Option.some.inj (ho.symm.trans hx)
      exact hdata hk hgood i i.isLt
    · obtain rfl : o = x := Option.some.inj (ho.symm.trans hx)
      exact (hmade hk hg hm).trans (onNvm_nvm_congr (k := s.hub.begun) (h := s.hub) rfl true o.make o.make)
  case check =>
    intro s w v hc
    simp only [Can.blkCheck, Bool.and_eq_true, beq_iff_eq] at hc
    obtain ⟨⟨hw, hzero⟩, hbit⟩ := hc
    have hput : (s.hub.begun.put BLK_CTRL_check true).flag BLK_CTRL_check = true := Hub.flag_put_self _ _ _ _ _ rfl
    refine completes_of_begun (exec_blkCheck w v s) ?_
    rw [if_pos (show s.hub.begun.blkWrites w = true from hw), Hub.writeBlkCtrl, if_pos (by rw [hzero]; exact hbit)]
    exact ⟨rfl, rfl, hput, Hub.rd_put_apart s.hub.begun (f := BLK_CTRL_check) (g := BLK_CHECK_reason) true 0 0 0 0 (by decide)⟩
  case noCheck =>
    intro s w v hc
    refine completes_of_begun (exec_blkCheck w v s) ?_
    split
    case isFalse => exact ⟨rfl, rfl⟩
    case isTrue hw =>
      have hno : ¬ (w.val == 0 && bitOf v.toNat 0) = true := by
        intro hgo
        rw [Bool.and_eq_true] at hgo
        have hyes : (s.hub.blkWrites w && w.val == 0 && v.getLsbD 0) = true := by
          rw [Bool.and_eq_true, Bool.and_eq_true]
          exact ⟨⟨hw, hgo.1⟩, hgo.2⟩
        rw [Can.blkCheck2, hyes] at hc
        exact absurd hc (by decide)
      rw [Hub.writeBlkCtrl, if_neg hno]
      exact ⟨rfl, rfl⟩
  case checked =>
    intro s readOk hc
    obtain ⟨gen, heq⟩ := execBlkCheckDone_eq readOk s
    have hrun : ¬ (!s.hub.begun.blk.checking) = true := by
      rw [show s.hub.begun.blk.checking = true from hc]
      exact Bool.false_ne_true
    generalize hg : gen s.hub.begun = g
    have htold := checkTold_moves s.hub.begun readOk g
    have hint := intEvent_moves (s.hub.begun.checkTold readOk g) 0 22
    have hblk : ((s.hub.begun.checkTold readOk g).intEvent 0 22).blk = { s.hub.blk with checking := false, checkStale := false } :=
      (hint.keeps .blk).trans ((htold.keeps .blk).trans (checkJudged_blk _ _ _))
    have hchecking := congrArg Blk.checking hblk
    have hstale := congrArg Blk.checkStale hblk
    have hflag : ((s.hub.begun.checkTold readOk g).intEvent 0 22).flag BLK_CTRL_check = false :=
      (hint.flag BLK_CTRL_check 0 0 Nat.one_pos).trans ((htold.flag BLK_CTRL_check 0 0 Nat.one_pos).trans (checkJudged_flag _ _ _))
    have hreason : ((s.hub.begun.checkTold readOk g).intEvent 0 22).rd BLK_CHECK_reason =
        if s.hub.blk.checkStale then s.hub.rd BLK_CHECK_reason else (s.hub.begun.checkVerdict readOk).reason % 16 :=
      (hint.rd BLK_CHECK_reason 0 0 Nat.one_pos).trans ((htold.rd BLK_CHECK_reason 0 0 Nat.one_pos).trans (checkJudged_reason _ _ _))
    refine completes_of_begun ((exec_blkCheckDone readOk s).trans heq) ?_
    rw [if_neg hrun, hg]
    refine ⟨hchecking, hstale, hflag, fun hs => ?_, fun hs hread => ?_, fun hs hread => ?_, fun hserved hward => ?_⟩
    · rw [hreason, if_pos hs]
    · rw [hreason, hs, if_neg Bool.false_ne_true, hread, checkVerdict_read]
      rfl
    · rw [hreason, hs, if_neg Bool.false_ne_true, hread, checkVerdict_lost]
    · have hstays := checkTold_stays s.hub.begun readOk g
      have hgo : ((s.hub.begun.checkTold readOk g).intServed && ((s.hub.begun.checkTold readOk g).ward 0 == .active ||
          (s.hub.begun.checkTold readOk g).ward 0 == .held)) = true := by
        rw [hstays.intServed, hstays.keeper, Bool.and_eq_true, Bool.or_eq_true, beq_iff_eq, beq_iff_eq]
        exact ⟨hserved, hward⟩
      rw [rd_intEvent_stat (by decide) (by decide) hgo]
      exact bitOf_setBit_self _ _
  case keeper =>
    intro s w v hc
    simp only [Can.blkReboot, Bool.and_eq_true, beq_iff_eq] at hc
    obtain ⟨⟨hw, hzero⟩, hkey⟩ := hc
    have hkey' : v.toNat = 0x52424F54 := by rw [hkey]; rfl
    refine completes_of_begun (exec_blkReboot w v s) ?_
    rw [if_pos (show s.hub.begun.blkWrites w = true from hw), hzero, hkey']
    exact writeBlkReboot_orders (blkWrites_not_resetting (h := s.hub.begun) hw)
  case noKeeper =>
    intro s w v hc
    refine completes_of_begun (exec_blkReboot w v s) ?_
    split
    case isFalse => exact ⟨rfl, rfl⟩
    case isTrue hw =>
      have hno : ¬ (w.val == 0 && v.toNat == 0x52424F54) = true := by
        intro hgo
        rw [Bool.and_eq_true] at hgo
        have hv : (v == 0x52424F54) = true := beq_iff_eq.mpr (BitVec.eq_of_toNat_eq (beq_iff_eq.mp hgo.2))
        have hyes : (s.hub.blkWrites w && w.val == 0 && v == 0x52424F54) = true := by
          rw [Bool.and_eq_true, Bool.and_eq_true]
          exact ⟨⟨hw, hgo.1⟩, hv⟩
        rw [Can.blkReboot2, hyes] at hc
        exact absurd hc (by decide)
      rw [Hub.writeBlkReboot, if_neg hno]
      exact ⟨rfl, rfl⟩
  case fuse =>
    intro s w v hc
    simp only [Can.blkFuse, Bool.and_eq_true, beq_iff_eq] at hc
    obtain ⟨⟨⟨⟨hw, hzero⟩, hkey⟩, hok⟩, hidle⟩ := hc
    have hkey' : v.toNat = 0x46555345 := by rw [hkey]; rfl
    refine completes_of_begun (exec_blkFuse w v s) ?_
    rw [if_pos (show s.hub.begun.writable w = true from hw), hzero, hkey']
    exact writeBlkFuse_fuses (h := s.hub.begun) (Bool.and_eq_true_iff.mpr ⟨hok, hidle⟩)
  case noFuse =>
    intro s w v hc
    refine completes_of_begun (exec_blkFuse w v s) ?_
    split
    case isFalse => exact ⟨rfl, rfl⟩
    case isTrue hw =>
      have hno : ¬ (w.val == 0 && v.toNat == 0x46555345 && s.hub.begun.fuseOk && !s.hub.begun.blk.fusing) = true := by
        intro hgo
        simp only [Bool.and_eq_true] at hgo
        obtain ⟨⟨⟨hz, hk⟩, hok⟩, hidle⟩ := hgo
        have hv : (v == 0x46555345) = true := beq_iff_eq.mpr (BitVec.eq_of_toNat_eq (beq_iff_eq.mp hk))
        have hyes : (s.hub.writable w && w.val == 0 && v == 0x46555345 && s.hub.fuseOk && !s.hub.blk.fusing) = true := by
          simp only [Bool.and_eq_true]
          exact ⟨⟨⟨⟨hw, hz⟩, hv⟩, hok⟩, hidle⟩
        rw [Can.blkFuse2, hyes] at hc
        exact absurd hc (by decide)
      rw [Hub.writeBlkFuse, if_neg hno]
      exact ⟨rfl, rfl⟩
  case fused =>
    intro s good hc
    refine completes_of_begun (exec_fuseDone good s) ?_
    rw [if_pos (show s.hub.begun.blk.fusing = true from hc)]
    exact ⟨rfl, rfl, rfl⟩

end Sys2Proof.Machine

/-!
PROOF. The protections and the checks of the output channels on the field die: what they leave of the hub, and what a fault position's rise
and fall leave of a channel.
-/

namespace Sys2Proof.Machine

set_option Elab.async false

/-! ### What an output's step leaves of the hub -/

/-- What a protection or a check of an output can reach. -/
def outFoot : Foot := ⟨[.hinge, .outs, .sch, .flt, .life], outFltFlds, []⟩

/-- The hub but for what a protection or a check of an output can reach is the same in two hubs, and the link but for what is sent over it. -/
structure OutMoves (h k : Hub) : Prop where
  moves : Moves outFoot h k
  hinge : k.hinge.rest = h.hinge.rest

namespace OutMoves

variable {F : Foot} {h₀ h k a b : Hub}

theorem refl (h : Hub) : OutMoves h h := ⟨Moves.refl _ h, rfl⟩

theorem trans (x : OutMoves h₀ h) (y : OutMoves h k) : OutMoves h₀ k := ⟨x.moves.trans y.moves, y.hinge.trans x.hinge⟩

theorem ite {q : Prop} [Decidable q] (x : OutMoves h₀ a) (y : OutMoves h₀ b) : OutMoves h₀ (if q then a else b) := by
  split
  · exact x
  · exact y

theorem forAll {f : Hub → Nat → Hub} {l : List Nat} (hf : ∀ h c, c ∈ l → OutMoves h (f h c)) (h : Hub) : OutMoves h (forAll l f h) := by
  induction l generalizing h with
  | nil => exact refl h
  | cons c rest ih => exact (hf h c List.mem_cons_self).trans (ih (fun k d hd => hf k d (List.mem_cons_of_mem c hd)) (f h c))

theorem modOut (x : OutMoves h₀ h) (c : Nat) (f : OutCh → OutCh) : OutMoves h₀ (h.modOut c f) := ⟨x.moves.to (modOut_moves h c f), x.hinge⟩

theorem modAcc (x : OutMoves h₀ h) (c : Nat) (f : ChCount → ChCount) : OutMoves h₀ (h.modAcc c f) := ⟨x.moves.to (modAcc_moves h c f), x.hinge⟩

theorem sch (x : OutMoves h₀ h) (s : Sch) : OutMoves h₀ { h with sch := s } := ⟨x.moves.sch _, x.hinge⟩

theorem outRise (x : OutMoves h₀ h) {c : Nat} (b detail : Nat) (hc : c < 16) : OutMoves h₀ (h.outRise c b detail) :=
  ⟨x.moves.to (outRise_moves h c b detail hc), (outRise_outStands h c b detail).hinge.trans x.hinge⟩

theorem outFall (x : OutMoves h₀ h) (c b : Nat) : OutMoves h₀ (h.outFall c b) :=
  ⟨x.moves.to (outFall_moves h c b), (outFall_outStands h c b).hinge.trans x.hinge⟩

theorem reSwitch (x : OutMoves h₀ h) {c : Nat} (counts : Bool) (hc : c < 16) : OutMoves h₀ (h.reSwitch c counts) := by
  have hcount : OutStands c h (if counts && ((h.out c).latched && h.mayConduct c) && !(h.out c).ran then h.countTurnOn c else h) :=
    .ite (.of_moves (countTurnOn_moves h c)) (.refl h)
  exact ⟨x.moves.to (reSwitch_moves h c counts hc),
    ((hcount.trans (modOut_outStands _ c _)).trans (switchFlags_outStands _ c _)).hinge.trans x.hinge⟩

variable (x : OutMoves h k)
include x

theorem sup : k.sup = h.sup := x.moves.keeps .sup

theorem clk : k.clk = h.clk := x.moves.keeps .clk

theorem dbt : k.dbt = h.dbt := x.moves.keeps .dbt

theorem vfHigh : k.vfHigh = h.vfHigh := by rw [Hub.vfHigh, x.sup, Hub.vfHigh]

theorem frd (f : Fld) (i : Nat) : k.frd f i = h.frd f i := frd_of_rest x.hinge f i

theorem fMode (c : Nat) : k.fMode c = h.fMode c := fMode_of_rest x.hinge c

theorem fLead (c : Nat) : k.fLead c = h.fLead c := by rw [Hub.fLead, x.fMode, Hub.fLead]

theorem fHalves (c : Nat) : k.fHalves c = h.fHalves c := by rw [Hub.fHalves, x.fMode, Hub.fHalves]

theorem fHidden (p c : Nat) : k.fHidden p c = h.fHidden p c := by rw [Hub.fHidden, x.dbt, Hub.fHidden]

theorem belowLed (c fine : Nat) : k.belowLed c fine = h.belowLed c fine := by rw [Hub.belowLed, x.frd, x.fLead, Hub.belowLed]

theorem configured : k.hinge.configured = h.hinge.configured := by
  have hset := congrArg Hinge.configured x.hinge
  exact hset

end OutMoves

/-! ### What a rise and a fall leave of a channel -/

theorem modOut_of {α : Type} {p : OutCh → α} {g : OutCh → OutCh} (hg : ∀ o, p (g o) = p o) (h : Hub) (c d : Nat) : p ((h.modOut c g).out d) = p (h.out d) := by
  by_cases hd : d = c
  · subst hd
    by_cases hb : d < 16
    · rw [Hub.out_modOut_self h _ _ hb, hg]
    · simp [Hub.out, Hub.modOut, vget, vset, hb]
  · rw [Hub.out_modOut_ne hd]

/-- An output channel but for its OUT_FLT. -/
def OutCh.bare (o : OutCh) : OutCh := { o with flt := 0 }

theorem out_outFall (h : Hub) (c b d : Nat) : (h.outFall c b).out d = h.out d := by
  rw [Hub.out, (outFall_moves h c b).keeps .outs]
  rfl

theorem bare_outRise (h : Hub) (c b detail d : Nat) : ((h.outRise c b detail).out d).bare = (h.out d).bare := by
  rw [Hub.outRise]
  split
  · rfl
  · rw [Hub.out, outs_syncOutFlt, outs_fieldRise]
    exact modOut_of (p := OutCh.bare) (g := fun o => { o with flt := setBit o.flt b }) (fun _ => rfl) h c d

/-- What a rise leaves of a channel besides its OUT_FLT. -/
theorem outRise_of {α : Type} {p : OutCh → α} (hflt : ∀ o v, p { o with flt := v } = p o) (h : Hub) (c b detail d : Nat) :
    p ((h.outRise c b detail).out d) = p (h.out d) := by
  have hbare (o : OutCh) : p o.bare = p o := hflt o 0
  rw [← hbare, bare_outRise, hbare]

theorem flt_outRise {h : Hub} {c b : Nat} (detail : Nat) (hc : c < 16) (hh : h.fHidden b c = false) :
    ((h.outRise c b detail).out c).flt = setBit (h.out c).flt b := by
  rw [Hub.outRise, if_neg (by rw [hh]; exact Bool.false_ne_true), Hub.out, outs_syncOutFlt, outs_fieldRise]
  exact congrArg OutCh.flt (Hub.out_modOut_self h c (fun o => { o with flt := setBit o.flt b }) hc)

theorem outLive_of_moves {F : Foot} {h k : Hub} (x : Moves F h k) (hf : F.parts.contains .flt = false := by decide) (c b : Nat) :
    k.outLive c b = h.outLive c b := by
  have hlive := congrArg (fun f : Flt => bitOf (vget f.fLive b 0) c) (x.keeps .flt hf)
  exact hlive

theorem outLive_outRise {h : Hub} {c b : Nat} (detail : Nat) (hc : c < 16) (hb : b < 40) (hh : h.fHidden b c = false) :
    (h.outRise c b detail).outLive c b = true := by
  have hne : ¬ (2 ^ c == 0) = true := by
    rw [beq_iff_eq]
    exact Nat.two_pow_pos c |>.ne'
  have hhid : (h.modOut c (fun o => { o with flt := setBit o.flt b })).fHidden b c = false := hh
  rw [Hub.outRise, if_neg (by rw [hh]; exact Bool.false_ne_true), outLive_of_moves (syncOutFlt_movesAny _ c)]
  refine (fLiveOn_fieldRise (2 ^ c) detail hb (by omega)).trans ?_
  rw [if_neg hne, hhid, bitOf, Nat.testBit_two_pow_self]
  simp

theorem outLive_outRise_ne (h : Hub) {b q : Nat} (hq : q ≠ b) (c d detail : Nat) : (h.outRise d b detail).outLive c q = h.outLive c q := by
  rw [Hub.outRise]
  split
  · rfl
  · rw [outLive_of_moves (syncOutFlt_movesAny _ d)]
    exact fLiveOn_fieldRise_ne hq c (2 ^ d) detail

theorem outLive_outFall (h : Hub) (c d : Nat) {b q : Nat} (hb : b < 40) :
    (h.outFall d b).outLive c q = if q = b then h.outLive c q && !decide (d = c) else h.outLive c q := by
  by_cases hq : q = b
  · subst hq
    have hne : ¬ (2 ^ d == 0) = true := by
      rw [beq_iff_eq]
      exact Nat.two_pow_pos d |>.ne'
    rw [if_pos rfl]
    refine (fLiveOn_fieldFall hb c (2 ^ d)).trans ?_
    rw [if_neg hne, bitOf, Nat.testBit_two_pow]
    rfl
  · rw [if_neg hq]
    rw [Hub.outFall, Hub.fieldFall]
    dsimp only
    generalize (if 2 ^ d == 0 then 2 ^ 16 else 2 ^ d) = m
    split
    · rfl
    · rw [outLive_of_moves (sendF_moves _ _), Hub.outLive, vget_vset_ne hq]
      rfl

theorem outLive_outFall_self (h : Hub) (c : Nat) {b : Nat} (hb : b < 40) : (h.outFall c b).outLive c b = false := by
  rw [outLive_outFall h c c hb, if_pos rfl]
  simp

/-- Of an output's positions a proof hides none but those of the readback and of the dark pulse. -/
theorem fHidden_outputs (h : Hub) {p : Nat} (c : Nat) (hp : p = 0 ∨ p = 1 ∨ p = 2 ∨ p = 3 ∨ p = 4 ∨ p = 10 ∨ p = 11) : h.fHidden p c = false := by
  unfold Hub.fHidden
  split
  · rfl
  · split <;> simp only [beq_eq_false_iff_ne, Bool.and_eq_false_iff, Bool.or_eq_false_iff] <;> omega

/-! ### A switch brought in line with its latch -/

/-- What follows of a fault position leaves another position and what of the channel neither OUT_FLT nor `uvOff` is. -/
theorem outLive_switchFlags (h : Hub) (c : Nat) (was : OutCh) (d : Nat) {q : Nat} (h3 : q ≠ 3) (h11 : q ≠ 11) :
    (h.switchFlags c was).outLive d q = h.outLive d q := by
  have hfall : (if was.limiting && !(h.out c).limiting then h.outFall c 3 else h).outLive d q = h.outLive d q := by
    split
    · rw [outLive_outFall _ _ _ (by decide), if_neg h3]
    · rfl
  rw [Hub.switchFlags]
  split
  · rw [outLive_outRise_ne _ h11]
    exact hfall
  · exact hfall

theorem switchFlags_of {α : Type} {p : OutCh → α} (hflt : ∀ o v, p { o with flt := v } = p o) (huv : ∀ o, p { o with uvOff := true } = p o) (h : Hub)
    (c : Nat) (was : OutCh) (d : Nat) : p ((h.switchFlags c was).out d) = p (h.out d) := by
  have hfall : (if was.limiting && !(h.out c).limiting then h.outFall c 3 else h).out d = h.out d := by
    split
    · exact out_outFall _ _ _ _
    · rfl
  rw [Hub.switchFlags]
  split
  · rw [outRise_of hflt, modOut_of (p := p) (g := fun o => { o with uvOff := true }) huv, hfall]
  · rw [hfall]

end Sys2Proof.Machine

/-!
PROOF. The checks of the output channels on the field die: what the judging of a pair, of an open load and of a switch's level leaves
(R209, R221 to R225).
-/

namespace Sys2Proof.Machine

set_option Elab.async false

theorem bitOf_flt_outRise_ne (h : Hub) {b q : Nat} (hq : q ≠ b) (c detail d : Nat) :
    bitOf ((h.outRise c b detail).out d).flt q = bitOf (h.out d).flt q := by
  rw [Hub.outRise]
  split
  · rfl
  · rw [Hub.out, outs_syncOutFlt, outs_fieldRise]
    exact modOut_of (p := fun o => bitOf o.flt q) (g := fun o => { o with flt := setBit o.flt b }) (fun _ => bitOf_setBit_ne _ hq) h c d

theorem bitOf_flt_switchFlags (h : Hub) (c : Nat) (was : OutCh) (d : Nat) {q : Nat} (hq : q ≠ 11) :
    bitOf ((h.switchFlags c was).out d).flt q = bitOf (h.out d).flt q := by
  have hfall : (if was.limiting && !(h.out c).limiting then h.outFall c 3 else h).out d = h.out d := by
    split
    · exact out_outFall _ _ _ _
    · rfl
  rw [Hub.switchFlags]
  split
  · rw [bitOf_flt_outRise_ne _ hq, modOut_of (p := fun o => bitOf o.flt q) (g := fun o => { o with uvOff := true }) (fun _ => rfl), hfall]
  · rw [hfall]

/-! ### A pair judged -/

theorem pairJudge_outMoves (h : Hub) {c : Nat} (hc : c < 16) : OutMoves h (h.pairJudge c) :=
  .ite (.refl h) (.ite ((OutMoves.refl h).outRise _ _ (fLead_lt hc)) (.ite ((OutMoves.refl h).outFall _ _) (.refl h)))

theorem pairJudge_of_vfHigh {h : Hub} (c : Nat) (hv : h.vfHigh = true) : h.pairJudge c = h := by
  rw [Hub.pairJudge, hv, Bool.or_true, if_pos rfl]

theorem ite_three {α : Type} {P Q R : Prop} [Decidable P] [Decidable Q] [Decidable R] (a b c : α) :
    (if P then a else if Q then b else if R then c else a) = a ∨ (if P then a else if Q then b else if R then c else a) = b ∨
      (if P then a else if Q then b else if R then c else a) = c := by
  split
  · exact .inl rfl
  · split
    · exact .inr (.inl rfl)
    · split
      · exact .inr (.inr rfl)
      · exact .inl rfl

theorem pairJudge_cases (h : Hub) (c : Nat) :
    h.pairJudge c = h ∨ h.pairJudge c = h.outRise (h.fLead c) 10 0 ∨ h.pairJudge c = h.outFall (h.fLead c) 10 := ite_three _ _ _

/-- What the judging of a pair leaves of a channel besides its OUT_FLT. -/
theorem pairJudge_of {α : Type} {p : OutCh → α} (hflt : ∀ o v, p { o with flt := v } = p o) (h : Hub) (c d : Nat) :
    p ((h.pairJudge c).out d) = p (h.out d) := by
  rcases pairJudge_cases h c with hj | hj | hj
  · rw [hj]
  · rw [hj, outRise_of hflt]
  · rw [hj, out_outFall]

theorem outLive_pairJudge (h : Hub) (c d : Nat) {q : Nat} (hq : q ≠ 10) : (h.pairJudge c).outLive d q = h.outLive d q := by
  rcases pairJudge_cases h c with hj | hj | hj
  · rw [hj]
  · rw [hj, outLive_outRise_ne _ hq]
  · rw [hj, outLive_outFall _ _ _ (by decide), if_neg hq]

/-- The hub once the time for which a pair's currents differ is kept. -/
def Hub.pairTimed (h : Hub) (c : Nat) : Hub :=
  h.modOut (h.fLead c) (fun o => { o with
    pairSince := if pairApart (h.out (h.fLead c)).cur (h.out (h.fLead c + 1)).cur then some (o.pairSince.getD h.clk.now) else none })

theorem pairCompare_eq (h : Hub) (c : Nat) : h.pairCompare c = if h.fMode c != 7 then h else (h.pairTimed c).pairJudge c := rfl

theorem pairTimed_of {α : Type} {p : OutCh → α} (hp : ∀ o x, p { o with pairSince := x } = p o) (h : Hub) (c d : Nat) :
    p ((h.pairTimed c).out d) = p (h.out d) := modOut_of (fun o => hp o _) h _ d

theorem pairCompare_outMoves (h : Hub) {c : Nat} (hc : c < 16) : OutMoves h (h.pairCompare c) :=
  .ite (.refl h) (((OutMoves.refl h).modOut _ _).trans (pairJudge_outMoves _ hc))

/-- A channel but for OUT_FLT and for what a round of measurements keeps of it. -/
def OutCh.unmeasured (o : OutCh) : OutCh := { o with
  flt := 0
  cur := 0
  pairSince := none
  pulsePass := false }

theorem unmeasured_pairCompare (h : Hub) (c d : Nat) : ((h.pairCompare c).out d).unmeasured = (h.out d).unmeasured := by
  rw [pairCompare_eq]
  split
  · rfl
  · rw [pairJudge_of (p := OutCh.unmeasured) (fun _ _ => rfl)]
    exact pairTimed_of (fun _ _ => rfl) h c d

theorem cur_pairCompare (h : Hub) (c d : Nat) : ((h.pairCompare c).out d).cur = (h.out d).cur := by
  rw [pairCompare_eq]
  split
  · rfl
  · rw [pairJudge_of (p := OutCh.cur) (fun _ _ => rfl)]
    exact pairTimed_of (fun _ _ => rfl) h c d

theorem flt_pairCompare {h : Hub} (c d : Nat) (hv : h.vfHigh = true) : ((h.pairCompare c).out d).flt = (h.out d).flt := by
  rw [pairCompare_eq]
  split
  · rfl
  · rw [pairJudge_of_vfHigh c (show (h.pairTimed c).vfHigh = true from hv)]
    exact pairTimed_of (p := OutCh.flt) (fun _ _ => rfl) h c d

/-! ### An open load judged -/

theorem olJudge_outMoves (h : Hub) {c : Nat} (fail : Bool) (hc : c < 16) : OutMoves h (h.olJudge c fail) :=
  .ite (.refl h) (.ite (.ite (((OutMoves.refl h).modOut _ _).outRise _ _ hc) ((OutMoves.refl h).modOut _ _))
    (((OutMoves.refl h).modOut _ _).outFall _ _))

theorem olJudge_of_vfHigh {h : Hub} (c : Nat) (fail : Bool) (hv : h.vfHigh = true) : h.olJudge c fail = h := by
  rw [Hub.olJudge, if_pos hv]

/-- What an open-load check leaves of a channel besides its count. -/
theorem olJudge_of {α : Type} {p : OutCh → α} (hflt : ∀ o v, p { o with flt := v } = p o) (hfails : ∀ o n, p { o with checkFails := n } = p o) (h : Hub)
    (c : Nat) (fail : Bool) (d : Nat) : p ((h.olJudge c fail).out d) = p (h.out d) := by
  unfold Hub.olJudge
  dsimp only
  split
  · rfl
  · split
    · have hcount := modOut_of (p := p) (g := fun o => { o with checkFails := o.checkFails + 1 }) (fun o => hfails o _) h c d
      split
      · rw [outRise_of hflt, hcount]
      · exact hcount
    · rw [out_outFall]
      exact modOut_of (p := p) (g := fun o => { o with checkFails := 0 }) (fun o => hfails o _) h c d

theorem outLive_olJudge_ne (h : Hub) (c : Nat) (fail : Bool) (d : Nat) {q : Nat} (hq : q ≠ 0) : (h.olJudge c fail).outLive d q = h.outLive d q := by
  unfold Hub.olJudge
  dsimp only
  split
  · rfl
  · split
    · split
      · exact outLive_outRise_ne _ hq _ _ _
      · rfl
    · rw [outLive_outFall _ _ _ (by decide), if_neg hq]
      rfl

theorem olJudge_pass {h : Hub} {c : Nat} (hc : c < 16) (hv : h.vfHigh = false) :
    ((h.olJudge c false).out c).checkFails = 0 ∧ (h.olJudge c false).outLive c 0 = false := by
  rw [Hub.olJudge, hv, if_neg Bool.false_ne_true, if_neg Bool.false_ne_true]
  refine ⟨?_, outLive_outFall_self _ c (by decide)⟩
  rw [out_outFall]
  exact congrArg OutCh.checkFails (Hub.out_modOut_self h c (fun o => { o with checkFails := 0 }) hc)

theorem olJudge_fail {h : Hub} {c : Nat} (hc : c < 16) (hv : h.vfHigh = false) :
    ((h.olJudge c true).out c).checkFails = (h.out c).checkFails + 1 ∧ (1 ≤ (h.out c).checkFails → (h.olJudge c true).outLive c 0 = true) := by
  have hself := congrArg OutCh.checkFails (Hub.out_modOut_self h c (fun o => { o with checkFails := o.checkFails + 1 }) hc)
  rw [Hub.olJudge, hv, if_neg Bool.false_ne_true, if_pos rfl]
  dsimp only
  split
  · refine ⟨(outRise_of (p := OutCh.checkFails) (fun _ _ => rfl) _ c 0 0 c).trans hself, fun _ => outLive_outRise 0 hc (by decide) (fHidden_outputs _ c (.inl rfl))⟩
  case isFalse hno =>
    rw [hself] at hno
    exact ⟨hself, fun hle => absurd (Nat.succ_le_succ hle) hno⟩

/-! ### A diagnostic pull-up's check -/

/-- The hub as a pull-up check of a channel ends. -/
def Hub.pullUpOver (h : Hub) (c : Nat) : Hub := h.modOut c (fun o => { o with check := false })

theorem out_pullUpOver (h : Hub) {c : Nat} (hc : c < 16) : (h.pullUpOver c).out c = { h.out c with check := false } :=
  Hub.out_modOut_self h c (fun o => { o with check := false }) hc

theorem offConclude_eq (h : Hub) (c : Nat) (v : Int) : h.offConclude c v =
    if (h.pullUpOver c).vfHigh then h.pullUpOver c
    else if shortLevel ≤ v then (h.pullUpOver c).outRise c 2 0 else ((h.pullUpOver c).outFall c 2).olJudge c (decide (olLevel ≤ v)) := rfl

theorem offConclude_outMoves (h : Hub) {c : Nat} (v : Int) (hc : c < 16) : OutMoves h (h.offConclude c v) := by
  have hover : OutMoves h (h.pullUpOver c) := (OutMoves.refl h).modOut _ _
  exact .ite hover (.ite (hover.outRise _ _ hc) ((hover.outFall _ _).trans (olJudge_outMoves _ _ hc)))

section
variable {h : Hub} {c : Nat} (hc : c < 16)
include hc

theorem offConclude_of {α : Type} {p : OutCh → α} (hflt : ∀ o v, p { o with flt := v } = p o) (hfails : ∀ o n, p { o with checkFails := n } = p o)
    (v : Int) : p ((h.offConclude c v).out c) = p { h.out c with check := false } := by
  rw [offConclude_eq, ← out_pullUpOver h hc]
  split
  · rfl
  · split
    · rw [outRise_of hflt]
    · rw [olJudge_of hflt hfails, out_outFall]

theorem offConclude_vfHigh (v : Int) (hv : h.vfHigh = true) : (h.offConclude c v).out c = { h.out c with check := false } := by
  rw [offConclude_eq, if_pos (show (h.pullUpOver c).vfHigh = true from hv), out_pullUpOver h hc]

theorem offConclude_short {v : Int} (hv : h.vfHigh = false) (hs : 600 ≤ v) : (h.offConclude c v).outLive c 2 = true := by
  rw [offConclude_eq, if_neg (by rw [show (h.pullUpOver c).vfHigh = false from hv]; exact Bool.false_ne_true), if_pos (show shortLevel ≤ v from hs)]
  exact outLive_outRise 0 hc (by decide) (fHidden_outputs _ c (.inr (.inr (.inl rfl))))

/-- What a pull-up check that finds no short leaves (R221). -/
theorem offConclude_open {v : Int} (hv : h.vfHigh = false) (hs : v < 600) :
    (h.offConclude c v).outLive c 2 = false ∧
    (v < 200 → ((h.offConclude c v).out c).checkFails = 0 ∧ (h.offConclude c v).outLive c 0 = false) ∧
    (200 ≤ v → ((h.offConclude c v).out c).checkFails = (h.out c).checkFails + 1 ∧
      (1 ≤ (h.out c).checkFails → (h.offConclude c v).outLive c 0 = true)) := by
  have hvk : ((h.pullUpOver c).outFall c 2).vfHigh = false := (((OutMoves.refl (h.pullUpOver c)).outFall c 2).vfHigh).trans hv
  have hfails : (((h.pullUpOver c).outFall c 2).out c).checkFails = (h.out c).checkFails := by
    rw [out_outFall, out_pullUpOver h hc]
  rw [offConclude_eq, if_neg (by rw [show (h.pullUpOver c).vfHigh = false from hv]; exact Bool.false_ne_true),
    if_neg (show ¬ shortLevel ≤ v from Int.not_le.mpr hs)]
  refine ⟨?_, fun hlow => ?_, fun hmid => ?_⟩
  · rw [outLive_olJudge_ne _ _ _ _ (by decide)]
    exact outLive_outFall_self _ c (by decide)
  · rw [decide_eq_false (show ¬ olLevel ≤ v from Int.not_le.mpr hlow)]
    exact olJudge_pass hc hvk
  · rw [decide_eq_true (show olLevel ≤ v from hmid), ← hfails]
    exact olJudge_fail hc hvk

end

/-! ### A lit check -/

theorem turn_of {α : Type} {p : OutCh → α} (hp : ∀ (o : OutCh) (rs : Option Nat) (n : Nat) (sw lim : Bool) (off : Nat) (since : Option Nat),
    p { o with ranSince := rs, shutdowns := n, sw := sw, limiting := lim, offAt := off, openSince := since } = p o) (o : OutCh) (now : Nat) (sw lim : Bool) :
    p (o.turn now sw lim) = p o := by
  unfold OutCh.turn OutCh.stopRun
  dsimp only
  split
  · exact hp o _ _ _ _ _ _
  · split <;> exact hp o _ _ _ _ _ _

/-- The hub once a channel's lit check is over. -/
def Hub.litOver (h : Hub) (c : Nat) : Hub := (h.modOut c (fun o => { o with lit := true })).reSwitch c false

theorem litConclude_eq (h : Hub) (c fine : Nat) : h.litConclude c fine = (h.litOver c).olJudge c ((h.litOver c).belowLed c fine) := rfl

theorem litOver_outMoves (h : Hub) {c : Nat} (hc : c < 16) : OutMoves h (h.litOver c) := ((OutMoves.refl h).modOut _ _).reSwitch _ hc

/-- What the end of a lit check leaves of a channel. -/
theorem litOver_leaves (h : Hub) {c : Nat} (hc : c < 16) :
    (((h.litOver c).out c).lit, ((h.litOver c).out c).blankTill, ((h.litOver c).out c).checkFails) = (false, h.clk.now + 10000, (h.out c).checkFails) ∧
    bitOf ((h.litOver c).out c).flt 0 = bitOf (h.out c).flt 0 := by
  have hlit := Hub.out_modOut_self h c (fun o => { o with lit := true }) hc
  unfold Hub.litOver
  generalize hk : h.modOut c (fun o => { o with lit := true }) = k
  rw [hk] at hlit
  have hclk : k.clk = h.clk := by rw [← hk]; rfl
  have hended : ∀ sw lim, ((k.out c).endPulse k.clk.now).turn k.clk.now sw lim =
      ({ h.out c with lit := false, pulse := none, blankTill := h.clk.now + 10000 } : OutCh).turn h.clk.now sw lim := by
    intro sw lim
    rw [hclk, hlit, OutCh.endPulse, if_pos (by simp)]
    rfl
  have hout : (k.switched c false).out c = ((k.out c).endPulse k.clk.now).turn k.clk.now ((k.out c).latched && k.mayConduct c)
      ((k.out c).limiting && ((k.out c).latched && k.mayConduct c)) :=
    Hub.out_modOut_self k c (fun o => (o.endPulse k.clk.now).turn k.clk.now ((k.out c).latched && k.mayConduct c)
      (o.limiting && ((k.out c).latched && k.mayConduct c))) hc
  rw [reSwitch_eq]
  constructor
  · rw [switchFlags_of (p := fun o => (o.lit, o.blankTill, o.checkFails)) (fun _ _ => rfl) (fun _ => rfl), hout, hended,
      turn_of (p := fun o => (o.lit, o.blankTill, o.checkFails)) (fun _ _ _ _ _ _ _ => rfl)]
  · rw [bitOf_flt_switchFlags _ _ _ _ (by decide), hout, hended, turn_of (p := fun o => bitOf o.flt 0) (fun _ _ _ _ _ _ _ => rfl)]

end Sys2Proof.Machine

/-!
PROOF. The measurements of an output channel and the judging of its level (R200, R224, R225, R240), and the checks of the output channels,
clause by clause.
-/

namespace Sys2Proof.Machine

set_option Elab.async false

/-! ### A level check that passes or fails -/

/-- The hub once a failing level check is kept. -/
def Hub.failKept (h : Hub) (c : Nat) (stuckOn : Bool) : Hub := h.modOut c (fun o => { o with failAt := some (stuckOn, h.clk.now) })

theorem failCheck_cases (h : Hub) (c : Nat) (stuckOn : Bool) :
    h.failCheck c stuckOn = ((h.failKept c stuckOn).outRise c (if stuckOn then 5 else 6) 0).pairJudge c ∨ h.failCheck c stuckOn = h.failKept c stuckOn :=
  ite_eq_or_eq _ _ _

theorem failCheck_of {α : Type} {p : OutCh → α} (hflt : ∀ o v, p { o with flt := v } = p o) (h : Hub) (c : Nat) (stuckOn : Bool) (d : Nat) :
    p ((h.failCheck c stuckOn).out d) = p ((h.failKept c stuckOn).out d) := by
  rcases failCheck_cases h c stuckOn with hj | hj
  · rw [hj, pairJudge_of hflt, outRise_of hflt]
  · rw [hj]

section
variable {h : Hub} {c : Nat} (hc : c < 16)
include hc

theorem passCheck_outMoves : OutMoves h (h.passCheck c) := ((((OutMoves.refl h).modOut _ _).outFall _ _).outFall _ _).trans (pairJudge_outMoves _ hc)

theorem failCheck_outMoves (stuckOn : Bool) : OutMoves h (h.failCheck c stuckOn) := by
  have hset : OutMoves h (h.modOut c (fun o => { o with failAt := some (stuckOn, h.clk.now) })) := (OutMoves.refl h).modOut _ _
  exact .ite ((hset.outRise _ _ hc).trans (pairJudge_outMoves _ hc)) hset

theorem openCheck_outMoves (normal fine : Nat) : OutMoves h (h.openCheck c normal fine) := by
  unfold Hub.openCheck
  split
  · split
    · exact (OutMoves.refl h).modOut _ _
    · exact .ite ((OutMoves.refl h).outRise _ _ hc) (.refl h)
  · exact ((OutMoves.refl h).modOut _ _).outFall _ _

theorem checkOn_outMoves (v : Int) (normal fine : Nat) : OutMoves h (h.checkOn c v normal fine) :=
  .ite (.refl h) (.ite ((passCheck_outMoves hc).trans (openCheck_outMoves hc _ _)) (.ite (.refl h) (failCheck_outMoves hc _)))

theorem checkOff_outMoves (v : Int) (normal : Nat) : OutMoves h (h.checkOff c v normal) := by
  unfold Hub.checkOff
  split
  · exact ((passCheck_outMoves hc).outFall _ _).modOut _ _
  · split
    · dsimp only
      split
      · exact (OutMoves.refl h).modOut _ _
      · exact .ite ((OutMoves.refl h).outRise _ _ hc) (.refl h)
    · exact failCheck_outMoves hc _

theorem passCheck_leaves : ((h.passCheck c).out c).failAt = none ∧ (h.passCheck c).outLive c 5 = false ∧ (h.passCheck c).outLive c 6 = false := by
  have hself := congrArg OutCh.failAt (Hub.out_modOut_self h c (fun o => { o with failAt := none }) hc)
  unfold Hub.passCheck
  refine ⟨?_, ?_, ?_⟩
  · rw [pairJudge_of (p := OutCh.failAt) (fun _ _ => rfl), out_outFall, out_outFall]
    exact hself
  · rw [outLive_pairJudge _ _ _ (by decide), outLive_outFall _ _ _ (by decide), if_neg (by decide)]
    exact outLive_outFall_self _ c (by decide)
  · rw [outLive_pairJudge _ _ _ (by decide)]
    exact outLive_outFall_self _ c (by decide)

theorem failAt_failCheck (stuckOn : Bool) : ((h.failCheck c stuckOn).out c).failAt = some (stuckOn, h.clk.now) := by
  have hself := congrArg OutCh.failAt (Hub.out_modOut_self h c (fun o => { o with failAt := some (stuckOn, h.clk.now) }) hc)
  exact (failCheck_of (p := OutCh.failAt) (fun _ _ => rfl) h c stuckOn c).trans hself

end

/-- What an open-load test of a channel that is on leaves besides its timer. -/
theorem openCheck_of {α : Type} {p : OutCh → α} (hflt : ∀ o v, p { o with flt := v } = p o) (hopen : ∀ o x, p { o with openSince := x } = p o) (h : Hub)
    (c normal fine d : Nat) : p ((h.openCheck c normal fine).out d) = p (h.out d) := by
  unfold Hub.openCheck
  split
  · split
    · exact modOut_of (p := p) (g := fun o => { o with openSince := some h.clk.now }) (fun o => hopen o _) h c d
    · split
      · rw [outRise_of hflt]
      · rfl
  · rw [out_outFall]
    exact modOut_of (p := p) (g := fun o => { o with openSince := none }) (fun o => hopen o _) h c d

theorem outLive_openCheck (h : Hub) (c normal fine d : Nat) {q : Nat} (hq : q ≠ 1) : (h.openCheck c normal fine).outLive d q = h.outLive d q := by
  unfold Hub.openCheck
  split
  · split
    · rfl
    · split
      · exact outLive_outRise_ne _ hq _ _ _
      · rfl
  · rw [outLive_outFall _ _ _ (by decide), if_neg hq]
    rfl

/-- A level check leaves the current that was measured. -/
theorem cur_passCheck (h : Hub) (c d : Nat) : ((h.passCheck c).out d).cur = (h.out d).cur := by
  rw [Hub.passCheck, pairJudge_of (p := OutCh.cur) (fun _ _ => rfl), out_outFall, out_outFall]
  exact modOut_of (p := OutCh.cur) (g := fun o => { o with failAt := none }) (fun _ => rfl) h c d

theorem cur_failCheck (h : Hub) (c : Nat) (stuckOn : Bool) (d : Nat) : ((h.failCheck c stuckOn).out d).cur = (h.out d).cur :=
  (failCheck_of (p := OutCh.cur) (fun _ _ => rfl) h c stuckOn d).trans
    (modOut_of (p := OutCh.cur) (g := fun o => { o with failAt := some (stuckOn, h.clk.now) }) (fun _ => rfl) h c d)

theorem cur_checkOn (h : Hub) (c : Nat) (v : Int) (normal fine d : Nat) : ((h.checkOn c v normal fine).out d).cur = (h.out d).cur := by
  unfold Hub.checkOn
  split
  · rfl
  · split
    · rw [openCheck_of (p := OutCh.cur) (fun _ _ => rfl) (fun _ _ => rfl), cur_passCheck]
    · split
      · rfl
      · exact cur_failCheck _ _ _ _

theorem cur_checkOff (h : Hub) (c : Nat) (v : Int) (normal d : Nat) : ((h.checkOff c v normal).out d).cur = (h.out d).cur := by
  unfold Hub.checkOff
  split
  · rw [modOut_of (p := OutCh.cur) (g := fun o => { o with highSince := none }) (fun _ => rfl), out_outFall, cur_passCheck]
  · split
    · dsimp only
      split
      · exact modOut_of (p := OutCh.cur) (g := fun o => { o with highSince := some h.clk.now }) (fun _ => rfl) h c d
      · split
        · exact outRise_of (p := OutCh.cur) (fun _ _ => rfl) _ _ _ _ _
        · rfl
    · exact cur_failCheck _ _ _ _

/-! ### A round of measurements -/

/-- The hub once the measurements of an output are shown. -/
def Hub.outMeasured (h : Hub) (c : Nat) (v : Int) (normal fine : Nat) : Hub :=
  if h.hinge.upL then
    (((h.wr OUT_MEAS_V_vpin (ofSigned 16 v) c).wr OUT_MEAS_I_normal normal c).wr OUT_MEAS_I_fine fine c).put OUT_MEAS_I_fine_sat (fine == 4095) c
  else h

/-- The hub once the current of an output is kept, and its pair compared. -/
def Hub.outTaken (h : Hub) (c ma : Nat) : Hub := (h.modOut c (fun o => { o with cur := ma })).pairCompare c

/-- The hub once a measurement has been held against a test pulse. -/
def Hub.outPulsed (h : Hub) (o : OutCh) (c : Nat) (v : Int) (normal : Nat) : Hub :=
  match o.pulse with
  | some k => if h.pulsePasses k v normal then h.modOut (h.fLead c) (fun o => { o with pulsePass := true }) else h
  | none => h

/-- The hub once a current is the estimate of a channel's load. -/
def Hub.outEstimated (h : Hub) (o : OutCh) (c ma : Nat) : Hub :=
  if o.sw && !o.lit && o.pulse.isNone then { h with sch := { h.sch with iest := vset h.sch.iest c (some ma) } } else h

/-- The hub once a measurement has been judged. -/
def Hub.outJudged (h : Hub) (o : OutCh) (c : Nat) (v : Int) (normal fine : Nat) : Hub :=
  if o.check && shortLevel ≤ v then h.offConclude c v
  else if !h.levelDue c then h
  else if o.latched then h.checkOn c v normal fine
  else h.checkOff c v normal

/-- The hub before a measurement is judged. -/
def Hub.outRound (h : Hub) (c : Nat) (v : Int) (normal fine : Nat) : Hub :=
  let m := (h.outMeasured c v normal fine).outTaken c ((h.outMeasured c v normal fine).measMa c normal fine)
  (m.outPulsed (m.out c) c v normal).outEstimated (m.out c) c ((h.outMeasured c v normal fine).measMa c normal fine)

theorem readback_eq (h : Hub) (c : Nat) (v : Int) (normal fine : Nat) : h.readback c v normal fine =
    (h.outRound c v normal fine).outJudged
      (((h.outMeasured c v normal fine).outTaken c ((h.outMeasured c v normal fine).measMa c normal fine)).out c) c v normal fine := rfl

theorem outMeasured_moves (h : Hub) {c : Nat} (v : Int) (normal fine : Nat) (hc : c < 16) :
    Moves ⟨[], [OUT_MEAS_V_vpin, OUT_MEAS_I_normal, OUT_MEAS_I_fine, OUT_MEAS_I_fine_sat], []⟩ h (h.outMeasured c v normal fine) :=
  .ite (((((Moves.refl _ h).wr _ _ _ _ hc).wr _ _ _ _ hc).wr _ _ _ _ hc).put _ _ _ _ hc) (Moves.refl _ h)

theorem outPulsed_outMoves (h : Hub) (o : OutCh) (c : Nat) (v : Int) (normal : Nat) : OutMoves h (h.outPulsed o c v normal) := by
  unfold Hub.outPulsed
  split
  · exact .ite ((OutMoves.refl h).modOut _ _) (.refl h)
  · exact .refl h

theorem outPulsed_of {α : Type} {p : OutCh → α} (hp : ∀ o, p { o with pulsePass := true } = p o) (h : Hub) (o : OutCh) (c : Nat) (v : Int)
    (normal d : Nat) : p ((h.outPulsed o c v normal).out d) = p (h.out d) := by
  unfold Hub.outPulsed
  split
  · split
    · exact modOut_of hp h _ d
    · rfl
  · rfl

theorem outEstimated_outMoves (h : Hub) (o : OutCh) (c ma : Nat) : OutMoves h (h.outEstimated o c ma) := .ite ((OutMoves.refl h).sch _) (.refl h)

theorem outEstimated_out (h : Hub) (o : OutCh) (c ma d : Nat) : (h.outEstimated o c ma).out d = h.out d := by
  unfold Hub.outEstimated
  split <;> rfl

theorem outJudged_outMoves (h : Hub) (o : OutCh) {c : Nat} (v : Int) (normal fine : Nat) (hc : c < 16) : OutMoves h (h.outJudged o c v normal fine) :=
  .ite (offConclude_outMoves h v hc) (.ite (.refl h) (.ite (checkOn_outMoves hc _ _ _) (checkOff_outMoves hc _ _)))

theorem outJudged_cur (h : Hub) (o : OutCh) {c : Nat} (v : Int) (normal fine : Nat) (hc : c < 16) :
    ((h.outJudged o c v normal fine).out c).cur = (h.out c).cur := by
  unfold Hub.outJudged
  split
  · exact offConclude_of (p := OutCh.cur) hc (fun _ _ => rfl) (fun _ _ => rfl) v
  · split
    · rfl
    · split
      · exact cur_checkOn _ _ _ _ _ _
      · exact cur_checkOff _ _ _ _ _

section
variable {h : Hub} {c : Nat} (hc : c < 16) (v : Int) (normal fine : Nat)
include hc

theorem outTaken_outMoves (ma : Nat) : OutMoves h (h.outTaken c ma) := ((OutMoves.refl h).modOut _ _).trans (pairCompare_outMoves _ hc)

omit hc in
theorem outTaken_unmeasured (ma : Nat) : ((h.outTaken c ma).out c).unmeasured = (h.out c).unmeasured := by
  rw [Hub.outTaken, unmeasured_pairCompare]
  exact modOut_of (p := OutCh.unmeasured) (g := fun o => { o with cur := ma }) (fun _ => rfl) h c c

theorem outTaken_cur (ma : Nat) : ((h.outTaken c ma).out c).cur = ma := by
  rw [Hub.outTaken, cur_pairCompare]
  exact congrArg OutCh.cur (Hub.out_modOut_self h c (fun o => { o with cur := ma }) hc)

omit hc in
theorem outTaken_flt (ma : Nat) (hv : h.vfHigh = true) : ((h.outTaken c ma).out c).flt = (h.out c).flt := by
  rw [Hub.outTaken, flt_pairCompare (h := h.modOut c (fun o => { o with cur := ma })) c c hv]
  exact modOut_of (p := OutCh.flt) (g := fun o => { o with cur := ma }) (fun _ => rfl) h c c

omit hc in
theorem outs_outMeasured : (h.outMeasured c v normal fine).outs = h.outs := by
  unfold Hub.outMeasured
  split <;> rfl

omit hc in
theorem measMa_outMeasured : (h.outMeasured c v normal fine).measMa c normal fine = h.measMa c normal fine := by
  unfold Hub.outMeasured
  split <;> rfl

theorem outRound_outMoves : OutMoves (h.outMeasured c v normal fine) (h.outRound c v normal fine) :=
  ((outTaken_outMoves hc _).trans (outPulsed_outMoves _ _ _ _ _)).trans (outEstimated_outMoves _ _ _ _)

/-- What a round of measurements leaves of a channel before it is judged. -/
theorem outRound_leaves : ((h.outRound c v normal fine).out c).unmeasured = (h.out c).unmeasured ∧
    ((h.outRound c v normal fine).out c).cur = h.measMa c normal fine ∧
    (h.vfHigh = true → ((h.outRound c v normal fine).out c).flt = (h.out c).flt) := by
  have hout : (h.outMeasured c v normal fine).out c = h.out c := by rw [Hub.out, outs_outMeasured, Hub.out]
  unfold Hub.outRound
  dsimp only
  rw [outEstimated_out, measMa_outMeasured]
  refine ⟨?_, ?_, fun hv => ?_⟩
  · rw [outPulsed_of (p := OutCh.unmeasured) (fun _ => rfl), outTaken_unmeasured, hout]
  · rw [outPulsed_of (p := OutCh.cur) (fun _ => rfl), outTaken_cur hc]
  · have hvm : (h.outMeasured c v normal fine).vfHigh = true := by
      rw [Hub.vfHigh, (outMeasured_moves h v normal fine hc).keeps .sup]
      exact hv
    rw [outPulsed_of (p := OutCh.flt) (fun _ => rfl), outTaken_flt _ hvm, hout]

end

theorem levelDue_of {h k : Hub} {c : Nat} (hsup : k.sup = h.sup) (hclk : k.clk = h.clk) (hcfg : k.hinge.configured = h.hinge.configured)
    (hout : (k.out c).unmeasured = (h.out c).unmeasured) : k.levelDue c = h.levelDue c := by
  have hdue (x : Hub) : x.levelDue c = (x.hinge.configured && !(x.out c).unmeasured.hiz && (x.out c).unmeasured.pulse.isNone &&
      !(x.out c).unmeasured.check && !(x.out c).unmeasured.lit && !decide (45000 < x.sup.vf) &&
      decide ((x.out c).unmeasured.changedAt + 100 * Config.ticksPerUs ≤ x.clk.now) && decide ((x.out c).unmeasured.blankTill ≤ x.clk.now)) := rfl
  rw [hdue, hdue, hout, hsup, hclk, hcfg]

/-- What a channel that is due for a level check is free of. -/
theorem levelDue_free {h : Hub} {c : Nat} (hd : h.levelDue c = true) : (h.out c).check = false ∧ h.vfHigh = false := by
  simp only [Hub.levelDue, Bool.and_eq_true, Bool.not_eq_true'] at hd
  exact ⟨hd.1.1.1.1.2, hd.1.1.2⟩

section
variable {h : Hub} {c : Nat} (hc : c < 16) {v : Int} {normal fine : Nat} {o : OutCh} (ho : o.unmeasured = (h.out c).unmeasured)
include hc ho

/-- What the judging of a level leaves of a channel (R224, R225). -/
theorem outJudged_leaves :
    (h.levelDue c = true → (h.out c).latched = true → (h.out c).sw = true →
      ((h.sup.vf : Int) - 3000 ≤ 10 * v → ((h.outJudged o c v normal fine).out c).failAt = none ∧
        (h.outJudged o c v normal fine).outLive c 5 = false ∧ (h.outJudged o c v normal fine).outLive c 6 = false) ∧
      (10 * v < (h.sup.vf : Int) - 3000 → (h.out c).limiting = false →
        ((h.outJudged o c v normal fine).out c).failAt = some (false, h.clk.now))) ∧
    (h.levelDue c = true → (h.out c).latched = false →
      (v < 600 → ((h.outJudged o c v normal fine).out c).failAt = none ∧ (h.outJudged o c v normal fine).outLive c 5 = false ∧
        (h.outJudged o c v normal fine).outLive c 6 = false ∧ (h.outJudged o c v normal fine).outLive c 2 = false) ∧
      (600 ≤ v → 640 ≤ 25 * normal → ((h.outJudged o c v normal fine).out c).failAt = some (true, h.clk.now))) ∧
    ((h.out c).check = true → 600 ≤ v → ((h.outJudged o c v normal fine).out c).check = false ∧
      (h.vfHigh = false → (h.outJudged o c v normal fine).outLive c 2 = true)) ∧
    (h.vfHigh = true → ((h.outJudged o c v normal fine).out c).flt = (h.out c).flt) := by
  have hcheck : o.check = (h.out c).check := by
    have hsame := congrArg OutCh.check ho
    exact hsame
  have hlatched : o.latched = (h.out c).latched := by
    have hsame := congrArg OutCh.latched ho
    exact hsame
  obtain ⟨hpassAt, hpass5, hpass6⟩ := passCheck_leaves (h := h) hc
  have hdue (hd : h.levelDue c = true) : h.outJudged o c v normal fine =
      if (h.out c).latched then h.checkOn c v normal fine else h.checkOff c v normal := by
    rw [Hub.outJudged, hcheck, (levelDue_free hd).1, hd, hlatched, Bool.false_and, if_neg Bool.false_ne_true, Bool.not_true, if_neg Bool.false_ne_true]
  refine ⟨fun hd hon hsw => ?_, fun hd hoff => ?_, fun hch hs => ?_, fun hv => ?_⟩
  · rw [hdue hd, if_pos hon, Hub.checkOn, hsw, Bool.not_true, if_neg Bool.false_ne_true]
    refine ⟨fun hp => ?_, fun hf hlim => ?_⟩
    · rw [if_pos hp, openCheck_of (p := OutCh.failAt) (fun _ _ => rfl) (fun _ _ => rfl), outLive_openCheck _ _ _ _ _ (by decide),
        outLive_openCheck _ _ _ _ _ (by decide)]
      exact ⟨hpassAt, hpass5, hpass6⟩
    · rw [if_neg (Int.not_le.mpr hf), hlim, if_neg Bool.false_ne_true]
      exact failAt_failCheck hc false
  · rw [hdue hd, hoff, if_neg Bool.false_ne_true, Hub.checkOff]
    refine ⟨fun hp => ?_, fun hs hcur => ?_⟩
    · have hlow (q : Nat) : (((h.passCheck c).outFall c 2).modOut c (fun o => { o with highSince := none })).outLive c q =
          ((h.passCheck c).outFall c 2).outLive c q := rfl
      rw [if_pos (show v < shortLevel from hp), hlow, hlow, hlow, outLive_outFall_self _ _ (by decide), outLive_outFall _ _ _ (by decide),
        if_neg (by decide), outLive_outFall _ _ _ (by decide), if_neg (by decide),
        modOut_of (p := OutCh.failAt) (g := fun o => { o with highSince := none }) (fun _ => rfl), out_outFall]
      exact ⟨hpassAt, hpass5, hpass6, rfl⟩
    · rw [if_neg (show ¬ v < shortLevel from Int.not_lt.mpr hs), if_neg (Nat.not_lt.mpr hcur)]
      exact failAt_failCheck hc true
  · have hgo : h.outJudged o c v normal fine = h.offConclude c v := by
      rw [Hub.outJudged, hcheck, hch, Bool.true_and, if_pos (decide_eq_true (show shortLevel ≤ v from hs))]
    rw [hgo]
    exact ⟨offConclude_of (p := OutCh.check) hc (fun _ _ => rfl) (fun _ _ => rfl) v, fun hv => offConclude_short hc hv hs⟩
  · unfold Hub.outJudged
    split
    · rw [offConclude_vfHigh hc v hv]
    · rw [if_pos]
      rw [Hub.levelDue, hv]
      simp

end

end Sys2Proof.Machine

/-!
PROOF. The checks of the output channels, clause by clause (R209, R221 to R225).
-/

namespace Sys2Proof.Machine

set_option Elab.async false

section
variable {h : Hub} {c : Nat} (hc : c < 16)
include hc

/-- What the end of a lit check leaves (R223). -/
theorem litConclude_leaves (fine : Nat) :
    ((h.litConclude c fine).out c).lit = false ∧ ((h.litConclude c fine).out c).blankTill = h.clk.now + 10000 ∧
    (h.vfHigh = true → bitOf ((h.litConclude c fine).out c).flt 0 = bitOf (h.out c).flt 0 ∧
      ((h.litConclude c fine).out c).checkFails = (h.out c).checkFails) ∧
    (h.vfHigh = false → (h.belowLed c fine = false → ((h.litConclude c fine).out c).checkFails = 0 ∧ (h.litConclude c fine).outLive c 0 = false) ∧
      (h.belowLed c fine = true → ((h.litConclude c fine).out c).checkFails = (h.out c).checkFails + 1 ∧
        (1 ≤ (h.out c).checkFails → (h.litConclude c fine).outLive c 0 = true))) := by
  obtain ⟨hall, hflt⟩ := litOver_leaves h hc
  have hmoves := litOver_outMoves h hc
  obtain ⟨hlit, hrest⟩ := Prod.mk.inj hall
  obtain ⟨hblank, hfails⟩ := Prod.mk.inj hrest
  rw [litConclude_eq, hmoves.belowLed, ← hmoves.vfHigh]
  refine ⟨?_, ?_, fun hv => ?_, fun hv => ⟨fun hb => ?_, fun hb => ?_⟩⟩
  · rw [olJudge_of (p := OutCh.lit) (fun _ _ => rfl) (fun _ _ => rfl)]
    exact hlit
  · rw [olJudge_of (p := OutCh.blankTill) (fun _ _ => rfl) (fun _ _ => rfl)]
    exact hblank
  · rw [olJudge_of_vfHigh _ _ hv]
    exact ⟨hflt, hfails⟩
  · rw [hb]
    exact olJudge_pass hc hv
  · rw [hb, ← hfails]
    exact olJudge_fail hc hv

/-- What a round of measurements shows (R225, R240). -/
theorem readback_shows (v : Int) {normal fine : Nat} (hn : normal < 2 ^ 12) (hf : fine < 2 ^ 12) (hup : h.hinge.upL = true) :
    (h.readback c v normal fine).rd OUT_MEAS_V_vpin c = ofSigned 16 v ∧ (h.readback c v normal fine).rd OUT_MEAS_I_normal c = normal ∧
    (h.readback c v normal fine).rd OUT_MEAS_I_fine c = fine ∧ (h.readback c v normal fine).flag OUT_MEAS_I_fine_sat c = (fine == 4095) := by
  have hmoves : Moves outFoot (h.outMeasured c v normal fine) (h.readback c v normal fine) := by
    rw [readback_eq]
    exact ((outRound_outMoves hc v normal fine).trans (outJudged_outMoves _ _ v normal fine hc)).moves
  have hshown : h.outMeasured c v normal fine =
      (((h.wr OUT_MEAS_V_vpin (ofSigned 16 v) c).wr OUT_MEAS_I_normal normal c).wr OUT_MEAS_I_fine fine c).put OUT_MEAS_I_fine_sat (fine == 4095) c := by
    rw [Hub.outMeasured, hup, if_pos rfl]
  refine ⟨?_, ?_, ?_, ?_⟩
  · rw [hmoves.rd OUT_MEAS_V_vpin c 0 hc, hshown, Hub.rd_put_apart _ _ _ _ _ _ (by decide), Hub.rd_wr_apart _ _ _ _ _ _ (by decide),
      Hub.rd_wr_apart _ _ _ _ _ _ (by decide)]
    exact Hub.rd_wr_of_lt _ _ _ (ofSigned_16_lt _)
  · rw [hmoves.rd OUT_MEAS_I_normal c 0 hc, hshown, Hub.rd_put_apart _ _ _ _ _ _ (by decide), Hub.rd_wr_apart _ _ _ _ _ _ (by decide)]
    exact Hub.rd_wr_of_lt _ _ _ hn
  · rw [hmoves.rd OUT_MEAS_I_fine c 0 hc, hshown, Hub.rd_put_apart _ _ _ _ _ _ (by decide)]
    exact Hub.rd_wr_of_lt _ _ _ hf
  · rw [hmoves.flag OUT_MEAS_I_fine_sat c 0 hc, hshown]
    exact Hub.flag_put_self _ _ _ _ _ rfl

/-- What a round of measurements leaves of a channel (R224, R225). -/
theorem readback_leaves (v : Int) (normal fine : Nat) :
    ((h.readback c v normal fine).out c).cur = h.measMa c normal fine ∧
    (h.levelDue c = true → (h.out c).latched = true → (h.out c).sw = true →
      ((h.sup.vf : Int) - 3000 ≤ 10 * v → ((h.readback c v normal fine).out c).failAt = none ∧
        (h.readback c v normal fine).outLive c 5 = false ∧ (h.readback c v normal fine).outLive c 6 = false) ∧
      (10 * v < (h.sup.vf : Int) - 3000 → (h.out c).limiting = false →
        ((h.readback c v normal fine).out c).failAt = some (false, h.clk.now))) ∧
    (h.levelDue c = true → (h.out c).latched = false →
      (v < 600 → ((h.readback c v normal fine).out c).failAt = none ∧ (h.readback c v normal fine).outLive c 5 = false ∧
        (h.readback c v normal fine).outLive c 6 = false ∧ (h.readback c v normal fine).outLive c 2 = false) ∧
      (600 ≤ v → 640 ≤ 25 * normal → ((h.readback c v normal fine).out c).failAt = some (true, h.clk.now))) ∧
    ((h.out c).check = true → 600 ≤ v → ((h.readback c v normal fine).out c).check = false ∧
      (h.vfHigh = false → (h.readback c v normal fine).outLive c 2 = true)) ∧
    (h.vfHigh = true → ((h.readback c v normal fine).out c).flt = (h.out c).flt) := by
  obtain ⟨hsame, hcur, hflt⟩ := outRound_leaves (h := h) hc v normal fine
  have hshown := outMeasured_moves h v normal fine hc
  have hround := outRound_outMoves hc v normal fine (h := h)
  have hmeasured : (h.outMeasured c v normal fine).out c = h.out c := by rw [Hub.out, outs_outMeasured, Hub.out]
  rw [readback_eq]
  generalize hk : h.outRound c v normal fine = k at hsame hcur hflt hround ⊢
  have ho : (((h.outMeasured c v normal fine).outTaken c ((h.outMeasured c v normal fine).measMa c normal fine)).out c).unmeasured =
      (k.out c).unmeasured := by rw [outTaken_unmeasured, hmeasured, hsame]
  generalize (((h.outMeasured c v normal fine).outTaken c ((h.outMeasured c v normal fine).measMa c normal fine)).out c) = o at ho ⊢
  have hsup : k.sup = h.sup := hround.sup.trans (hshown.keeps .sup)
  have hclk : k.clk = h.clk := hround.clk.trans (hshown.keeps .clk)
  have hcfg : k.hinge.configured = h.hinge.configured := hround.configured.trans (congrArg Hinge.configured (hshown.keeps .hinge))
  have hv : k.vfHigh = h.vfHigh := by rw [Hub.vfHigh, hsup, Hub.vfHigh]
  have hsw : (k.out c).sw = (h.out c).sw := by
    have hs := congrArg OutCh.sw hsame
    exact hs
  have hlatched : (k.out c).latched = (h.out c).latched := by
    have hs := congrArg OutCh.latched hsame
    exact hs
  have hlim : (k.out c).limiting = (h.out c).limiting := by
    have hs := congrArg OutCh.limiting hsame
    exact hs
  have hcheck : (k.out c).check = (h.out c).check := by
    have hs := congrArg OutCh.check hsame
    exact hs
  obtain ⟨hon, hoff, hshort, hhigh⟩ := outJudged_leaves hc (v := v) (normal := normal) (fine := fine) ho
  rw [levelDue_of hsup hclk hcfg hsame, hlatched] at hon hoff
  rw [hsw, hsup, hlim, hclk] at hon
  rw [hclk] at hoff
  rw [hcheck, hv] at hshort
  rw [hv] at hhigh
  exact ⟨(outJudged_cur k o v normal fine hc).trans hcur, hon, hoff, hshort, fun hvf => (hhigh hvf).trans (hflt hvf)⟩

end

/-- Settles O13, by what a check's conclusion, a lit check and a round of measurements leave of a channel. -/
theorem outputChecks : Obligations.OutputChecks := by
  unfold Obligations.OutputChecks
  refine ⟨?start, ?lit, ?none, ?endHigh, ?endLow, ?litOn, ?litNot, ?litHigh, ?litEnd, ?read, ?pair, ?noPair⟩
  case start =>
    intro s c ms hc
    simp only [Can.offStateCheck, Bool.and_eq_true, bne_iff_ne, decide_eq_true_eq] at hc
    obtain ⟨⟨⟨hrest, hen⟩, hms⟩, hmode⟩ := hc
    have hgo : ¬ (!s.hub.begun.restingOff c || s.hub.begun.frd OUT_DIAG_ol_off_en (s.hub.begun.fLead c) == 0 ||
        decide (ms.toNat < 10 * s.hub.begun.checkPeriod c)) = true := by
      rw [show s.hub.begun.restingOff c = true from hrest, show (s.hub.begun.frd OUT_DIAG_ol_off_en (s.hub.begun.fLead c) == 0) = false from
        beq_eq_false_iff_ne.mpr hen, show decide (ms.toNat < 10 * s.hub.begun.checkPeriod c) = false from decide_eq_false (Nat.not_lt.mpr hms)]
      exact Bool.false_ne_true
    have hlatched : (s.hub.out c).latched = false := by
      simp only [Hub.restingOff, Bool.and_eq_true, Bool.not_eq_true'] at hrest
      exact hrest.1.1.1.1.1.1.2
    have hself := Hub.out_modOut_self s.hub.begun c (fun o => { o with check := true }) c.isLt
    have hcheck := congrArg OutCh.check hself
    have hstays := congrArg OutCh.latched hself
    refine completes_of_begun (exec_offStateCheck ⟨c, ms⟩ s) ?_
    dsimp only
    rw [if_neg hgo, if_neg (show ¬ (s.hub.begun.fMode c == 5) = true from fun he => hmode (beq_iff_eq.mp he))]
    exact ⟨hcheck, Eq.trans hstays hlatched, rfl⟩
  case lit =>
    intro s c ms hc
    simp only [Can.offStateCheck2, Bool.and_eq_true, bne_iff_ne, decide_eq_true_eq, Bool.not_eq_true'] at hc
    obtain ⟨⟨⟨⟨hrest, hen⟩, hms⟩, hmode⟩, hbar⟩ := hc
    have hgo : ¬ (!s.hub.begun.restingOff c || s.hub.begun.frd OUT_DIAG_ol_off_en (s.hub.begun.fLead c) == 0 ||
        decide (ms.toNat < 10 * s.hub.begun.checkPeriod c)) = true := by
      rw [show s.hub.begun.restingOff c = true from hrest, show (s.hub.begun.frd OUT_DIAG_ol_off_en (s.hub.begun.fLead c) == 0) = false from
        beq_eq_false_iff_ne.mpr hen, show decide (ms.toNat < 10 * s.hub.begun.checkPeriod c) = false from decide_eq_false (Nat.not_lt.mpr hms)]
      exact Bool.false_ne_true
    refine completes_of_begun (exec_offStateCheck ⟨c, ms⟩ s) ?_
    dsimp only
    rw [if_neg hgo, if_pos (show (s.hub.begun.fMode c == 5) = true from hmode), if_neg (show ¬ s.hub.begun.litBarred c = true from by
      rw [show s.hub.begun.litBarred c = false from hbar]; exact Bool.false_ne_true)]
    exact ⟨submit_queued _ _, (submit_moves _ _).keeps .outs⟩
  case none =>
    intro s c ms hc
    refine completes_of_begun (exec_offStateCheck ⟨c, ms⟩ s) ?_
    dsimp only
    rw [if_pos (show (!s.hub.begun.restingOff c || s.hub.begun.frd OUT_DIAG_ol_off_en (s.hub.begun.fLead c) == 0 ||
      decide (ms.toNat < 10 * s.hub.begun.checkPeriod c)) = true from hc)]
    exact ⟨rfl, rfl⟩
  case endHigh =>
    intro s c v hc
    rw [Can.offStateCheckEnd, Bool.and_eq_true] at hc
    obtain ⟨hcheck, hv⟩ := hc
    have hout := offConclude_vfHigh (h := s.hub.begun) c.isLt v.toInt hv
    refine completes_of_begun (exec_offStateCheckEnd c v s) ?_
    rw [if_pos (show (s.hub.begun.out c).check = true from hcheck), hout]
    exact ⟨rfl, rfl, rfl⟩
  case endLow =>
    intro s c v hc
    rw [Can.offStateCheckEnd2, Bool.and_eq_true, Bool.not_eq_true'] at hc
    obtain ⟨hcheck, hv⟩ := hc
    refine completes_of_begun (exec_offStateCheckEnd c v s) ?_
    rw [if_pos (show (s.hub.begun.out c).check = true from hcheck)]
    refine ⟨offConclude_of (h := s.hub.begun) (p := OutCh.check) c.isLt (fun _ _ => rfl) (fun _ _ => rfl) v.toInt, ?_, fun hlow => ?_, fun hmid hlt => ?_⟩
    · by_cases hs : 600 ≤ v.toInt
      · rw [decide_eq_true hs]
        exact offConclude_short (h := s.hub.begun) c.isLt hv hs
      · rw [decide_eq_false hs]
        exact (offConclude_open (h := s.hub.begun) c.isLt hv (Int.not_le.mp hs)).1
    · exact (offConclude_open (h := s.hub.begun) c.isLt hv (by omega)).2.1 hlow
    · exact (offConclude_open (h := s.hub.begun) c.isLt hv hlt).2.2 hmid
  case litOn =>
    intro s c hc
    simp only [Can.litCheck, Bool.and_eq_true, Bool.not_eq_true'] at hc
    obtain ⟨⟨hok, hrest⟩, hbar⟩ := hc
    have hlatched : (s.hub.out c).latched = false := by
      simp only [Hub.restingOff, Bool.and_eq_true, Bool.not_eq_true'] at hrest
      exact hrest.1.1.1.1.1.1.2
    have hself := Hub.out_modOut_self s.hub.begun c (fun o => { o with lit := true, litOk := false, sw := s.hub.begun.mayConduct c }) c.isLt
    have hlit := congrArg OutCh.lit hself
    have hlitOk := congrArg OutCh.litOk hself
    have hsw := congrArg OutCh.sw hself
    have hstays := congrArg OutCh.latched hself
    refine completes_of_begun (exec_litCheck c s) ?_
    rw [show (s.hub.begun.out c).litOk = true from hok, show s.hub.begun.restingOff c = true from hrest, show s.hub.begun.litBarred c = false from hbar]
    exact ⟨hlit, hlitOk, hsw, Eq.trans hstays hlatched, rfl⟩
  case litNot =>
    intro s c hc
    rw [Can.litCheck2, Bool.and_eq_true] at hc
    obtain ⟨hok, hnot⟩ := hc
    have hbarred : (!s.hub.begun.restingOff c || s.hub.begun.litBarred c) = true := by
      have hswap : ∀ a b : Bool, (!(a && !b)) = (!a || b) := by decide
      exact (hswap _ _).symm.trans hnot
    have hself := Hub.out_modOut_self s.hub.begun c (fun o => { o with litOk := false }) c.isLt
    have hlitOk := congrArg OutCh.litOk hself
    have hlit := congrArg OutCh.lit hself
    have hsw := congrArg OutCh.sw hself
    refine completes_of_begun (exec_litCheck c s) ?_
    rw [show (s.hub.begun.out c).litOk = true from hok, hbarred]
    exact ⟨hlitOk, hlit, hsw⟩
  case litHigh =>
    intro s c fine hc
    rw [Can.litCheckEnd, Bool.and_eq_true] at hc
    obtain ⟨hlit, hv⟩ := hc
    obtain ⟨hover, -, hhigh, -⟩ := litConclude_leaves (h := s.hub.begun) c.isLt fine.toNat
    refine completes_of_begun (exec_litCheckEnd c fine s) ?_
    rw [if_pos (show (s.hub.begun.out c).lit = true from hlit)]
    exact ⟨hover, hhigh hv⟩
  case litEnd =>
    intro s c fine hc
    rw [Can.litCheckEnd2, Bool.and_eq_true, Bool.not_eq_true'] at hc
    obtain ⟨hlit, hv⟩ := hc
    obtain ⟨hover, hblank, -, hjudged⟩ := litConclude_leaves (h := s.hub.begun) c.isLt fine.toNat
    refine completes_of_begun (exec_litCheckEnd c fine s) ?_
    rw [if_pos (show (s.hub.begun.out c).lit = true from hlit)]
    exact ⟨hover, hblank, hjudged hv⟩
  case read =>
    intro s c v normal fine hc
    obtain ⟨hcur, hrest⟩ := readback_leaves (h := s.hub.begun) c.isLt v.toInt normal.toNat fine.toNat
    refine completes_of_begun (exec_readback c v normal fine s) ?_
    rw [if_pos (show (s.hub.begun.sup.fieldUp && s.hub.begun.fIsOut c) = true from hc)]
    exact ⟨fun hup => readback_shows (h := s.hub.begun) c.isLt v.toInt normal.isLt fine.isLt hup, hcur, hrest⟩
  case pair =>
    intro s c a b hc
    simp only [Can.pairMismatch, Bool.and_eq_true, Bool.not_eq_true'] at hc
    obtain ⟨⟨⟨hmode, hv⟩, hsw⟩, hapart⟩ := hc
    have hgo : (s.hub.begun.fMode c == 7 && (s.hub.begun.out c).sw && !s.hub.begun.vfHigh && pairApart a.toNat b.toNat) = true := by
      rw [show (s.hub.begun.fMode c == 7) = true from hmode, show (s.hub.begun.out c).sw = true from hsw, show s.hub.begun.vfHigh = false from hv, hapart]
      rfl
    have hlead : s.hub.begun.fLead c < 16 := fLead_lt c.isLt
    refine completes_of_begun (exec_pairMismatch ⟨c, a, b⟩ s) ?_
    dsimp only
    rw [if_pos hgo]
    refine ⟨outLive_outRise 0 hlead (by decide) (fHidden_outputs _ _ (.inr (.inr (.inr (.inr (.inr (.inl rfl))))))), ?_, ?_⟩
    · refine (congrArg (fun v => bitOf v 10) (flt_outRise 0 hlead (fHidden_outputs _ _ (.inr (.inr (.inr (.inr (.inr (.inl rfl))))))))).trans ?_
      exact bitOf_setBit_self _ _
    · rw [sw_outRise, sw_modOut s.hub.begun _ (by exact fun _ => rfl)]
      exact hsw
  case noPair =>
    intro s c a b hc
    have hno : ¬ (s.hub.begun.fMode c == 7 && (s.hub.begun.out c).sw && !s.hub.begun.vfHigh && pairApart a.toNat b.toNat) = true := by
      intro hall
      simp only [Bool.and_eq_true, Bool.not_eq_true', beq_iff_eq] at hall
      simp only [Can.pairMismatch2, Bool.or_eq_true, Bool.not_eq_true', bne_iff_ne] at hc
      rcases hc with ((hm | hv) | hs) | hp
      · exact hm hall.1.1.1
      · exact absurd (hv.symm.trans hall.1.2) Bool.noConfusion
      · exact absurd (hs.symm.trans hall.1.1.2) Bool.noConfusion
      · exact absurd (hp.symm.trans hall.2) Bool.noConfusion
    refine completes_of_begun (exec_pairMismatch ⟨c, a, b⟩ s) ?_
    dsimp only
    rw [if_neg hno]
    exact ⟨rfl, rfl⟩

end Sys2Proof.Machine
